-- ==== Sys2Proof/Word.lean ====
section
/-! DEFINITION. The word types: a register is 64 bits wide (00 "Signals and registers"), a byte 8, an identity 20 (R42). -/

namespace Sys2Proof

/-- One 64-bit register or header word. -/
abbrev Word := BitVec 64

/-- One byte of a packet, a flit or a memory. -/
abbrev Byte := BitVec 8

/-- An endpoint identity (R42): 20 bits. -/
abbrev Eid := BitVec 20

/-- A status code (R12): 4 bits. -/
abbrev Status := BitVec 4

end Sys2Proof
end

