-- ==== Sys2Proof/Types.lean ====
section
/-! DEFINITION. What the commands of the block carry: the unit a command acts at, packets (R67), training control blocks
(R83), alignment markers (R100), flits (R115) and what the outside supplies with an event. -/

namespace Sys2Proof

/-- The two units the spec describes: the module (QSM-9216) and the endpoint block (FXE-18). -/
inductive Side where
  | module
  | endpoint
deriving DecidableEq, Repr

/-- Who makes a register access: the PCIe host (R556), the management path (R353, R514) or the accelerator at the core
port (R353). -/
inductive Path where
  | host
  | management
  | corePort
deriving DecidableEq, Repr

/-- A QTP 2.0 packet (R67): the header's fields, the extension slot where the opcode has one, the payload (its true
length; R67 pads it to whole slots on the wire) and the tag slot of an encrypted packet. -/
structure Packet where
  dst : Eid
  src : Eid
  opcode : BitVec 8
  tc : BitVec 3
  plane : Bool
  stream : BitVec 4 := 0
  epoch : BitVec 4 := 0
  status : Status := 0
  xseq : BitVec 24 := 0
  tag : BitVec 13 := 0
  keyIndex : BitVec 13 := 0
  keyEpoch : BitVec 4 := 0
  dclass : BitVec 2 := 0
  flagged : Bool := false
  acquire : Bool := false
  enc : Bool := false
  poison : Bool := false
  retx : Bool := false
  proxy : Bool := false
  rsv : BitVec 2 := 0
  offset : BitVec 44 := 0
  length : BitVec 12 := 0
  hops : BitVec 8 := 16
  pchk : BitVec 32 := 0
  opx : BitVec 32 := 0
  ext : List Byte := []
  payload : List Byte := []
  tagSlot : List Byte := []
deriving DecidableEq, Repr

/-- A training control block (R83). -/
structure ControlBlock where
  mark : BitVec 32
  request : BitVec 16
  response : BitVec 16
  tapset : BitVec 32
  ident : BitVec 32
  assign : BitVec 32
  tstate : BitVec 32
  version : BitVec 64
  crc : BitVec 16
deriving DecidableEq, Repr

/-- What a lane's own analogue receiver supplies while it trains; the spec leaves the adaptation itself to the
receiver. `rxDone`: it has finished adapting (R85). `wish`: the request word's low 12 bits it next asks of the far
transmitter, with the tap codes of a load taps request. `spanPs`: the lane's measured offset from the centre of its
port's lanes, in ps (R101). `eqState`: the name of the equaliser state the receiver has settled on (R95). -/
structure ReceiverView where
  rxDone : Bool
  wish : Option (BitVec 12 × BitVec 32) := none
  spanPs : Int := 0
  eqState : Nat := 0
deriving DecidableEq, Repr

/-- An alignment marker (R100). -/
structure Marker where
  sync : BitVec 24
  position : BitVec 8
  port : BitVec 8
  count : BitVec 16
  bip : BitVec 8
deriving DecidableEq, Repr

/-- A flit (R115): link header, 240 slot bytes, CRC and credit return. -/
structure Flit where
  type : BitVec 8
  seq : BitVec 12
  ack : BitVec 12
  slots : List Byte
  crc : BitVec 64
  credit : BitVec 32
deriving DecidableEq, Repr

/-- What the host answers to a read of the module's (R564): data, Unsupported Request or Completer Abort, or poisoned data. -/
inductive HostReply where
  | data (bytes : List Byte)
  | refused
  | poisoned
deriving DecidableEq, Repr

/-- What a host write to configuration space or to the MSI-X structure changes (R552, R566). -/
inductive ConfigWrite where
  | memoryEnable (on : Bool)
  | busMaster (on : Bool)
  | ats (on : Bool)
  | pasid (on : Bool)
  /-- PRI, with the Outstanding Page Request Allocation. -/
  | pri (on : Bool) (alloc : Nat)
  | completionTimeout (value : Nat)
  | functionMask (on : Bool)
  /-- The Mask bit of a vector is set. -/
  | vectorMask (vector : Nat)
deriving DecidableEq, Repr

/-- A read of the module's that may reach the Completion Timeout (R415, R564). -/
inductive HostRequest where
  | translation (pasid page : Nat)
  | ringFetch (queue : Nat)
deriving DecidableEq, Repr

/-- The grant of a puppet program (R422). -/
structure Grant where
  scratchBase : Nat
  scratchSize : Nat
  ddrBase : Nat
  ddrSize : Nat
  pasid : Nat
  keyIndex : Nat
  keyEpoch : Nat
  dclass : Nat
  queues : List Nat
deriving DecidableEq, Repr, Inhabited

/-- The fuse map (R441): a parity error of the fuse array, physical tiles found bad, repaired SRAM rows by physical tile, bad slices by
(chiplet, slice), and the repairs of each DDR5 PHY. -/
structure FuseMap where
  parityError : Bool := false
  badTiles : List Nat := []
  rows : List (Nat × Nat) := []
  badSlices : List (Nat × Nat) := []
  phyRepairs : List (Nat × Nat) := []
deriving DecidableEq, Repr

/-- An entry of the field record (R441): a physical tile retired in service, an SRAM row repaired on a physical tile, or a slice. -/
inductive RecordEntry where
  | tile (phys : Nat)
  | row (phys : Nat)
  | slice (chiplet slice : Nat)
deriving DecidableEq, Repr

/-- A register field that an image gives a value (R429): register offset, field mask, and the value in place. -/
structure ImageField where
  addr : Nat
  mask : Word
  value : Word
deriving DecidableEq, Repr

/-- What training shows of a DDR5 channel (R436, R571). -/
structure DdrChannel where
  present : Bool
  trained : Bool
  sizeGib : Nat
  rate : Nat
deriving DecidableEq, Repr

/-- What goes wrong at a logical tile (R443, R450): a word that ECC cannot correct, a failed self-check of its sequencer or vector
unit, or the failure of the replacement during a migration. -/
inductive TileFault where
  | word
  | selfCheck
  | replacement
deriving DecidableEq, Repr

/-- The items held on a tile, or in one word of it (R445): chunks (context, step, chunk), directory sets, fast-pool lines by their
number within the tile, packets with their arrival port, replay entries (source, stream, XSEQ) and puppet programs. -/
structure TileItems where
  chunks : List (Nat × Nat × Nat) := []
  sets : List Nat := []
  lines : List Nat := []
  packets : List (Nat × Packet) := []
  replay : List (Eid × BitVec 4 × BitVec 24) := []
  programs : List Nat := []
deriving DecidableEq, Repr, Inhabited

/-- What one-time-programmable fuses and the minimum-version sector of the flash hold at manufacture (R492): vendor signer slots (slot,
key, revoked) and the minimum boot and image versions. -/
structure OtpMap where
  signers : List (Nat × List Byte × Bool) := []
  minBoot : Nat := 0
  minImage : Nat := 0
deriving DecidableEq, Repr

/-- How a management request reaches the unit (R493, R512, R520). -/
inductive Via where
  | doe
  | management
  | mailbox
  | inBand
deriving DecidableEq, Repr

/-- A ballot with its signature (R527). -/
structure Ballot where
  bytes : List Byte
  signature : List Byte
deriving DecidableEq, Repr

/-- What an SPDM request is answered with (R493): `unsupported` is ERROR with UnsupportedRequest, `refused` any other ERROR.
Vendor-defined responses carry a status (R12) and data. -/
inductive SpdmResponse where
  | version
  | capabilities
  | algorithms (ids : List Nat)
  | unsupported
  | refused
  | digests (l : List (List Byte))
  | certificate (portion : List Byte)
  | challengeAuth (signature : List Byte)
  | measurements (blocks : List (Nat × List Byte)) (signature : List Byte)
  | keyExchange (session : Nat) (mutualAuth : Bool) (mine signature : List Byte)
  | finished
  | heartbeatAck
  | keyUpdateAck
  | endSessionAck
  | vendor (status : Status) (data : List Byte)
deriving DecidableEq, Repr

end Sys2Proof
end

