-- ==== Sys2Proof/Syntax.lean ====
section
/-! DEFINITION. The commands of the block: one constructor for each row of spec/opcode_table.json, with the row's operands.
The table gives no bits, so the operands are those the rule of the row speaks of (notes/assumptions says how they were chosen). -/

namespace Sys2Proof

/-- A command: a register access, an arriving packet, a pin, a timer that has run out, or another event of the table. -/
inductive Instr where
  /-- REGISTER_WRITE (R10): A host or management write to a register field that has no step of its own takes effect under its access code. -/
  | registerWrite (side : Side) (path : Path) (addr : Nat) (data : List Byte) (poisoned : Bool)
  /-- LANE_RETRAIN (R109): A write of LNK.CTL.RETRAIN starts a full training of the lane from DETECT and ignores the preset cache. -/
  | laneRetrain (side : Side) (path : Path) (lane : Nat)
  /-- CACHE_FLUSH (R97): A write of LNK.CTL.CACHE_FLUSH clears the lane's preset cache. -/
  | cacheFlush (side : Side) (path : Path) (lane : Nat)
  /-- SPARE_NOW (R98): A write of LNK.CTL.SPARE_NOW requests a remap of the lane to a free spare slice of its chiplet. -/
  | spareNow (side : Side) (path : Path) (lane : Nat)
  /-- LANE_POWER_REQUEST (R105): A write of LNK.CTL.POWER requests ACTIVE, SLEEP or OFF for the lane, subject to the power loop. -/
  | lanePowerRequest (side : Side) (path : Path) (lane : Nat) (power : Nat)
  /-- LANE_ENABLE (R88): Setting LNK.CTL.ENABLE moves a lane from DISABLED to DETECT. -/
  | laneEnable (side : Side) (path : Path) (lane : Nat)
  /-- FAR_SIGNAL_DETECTED (R88): The receiver detects the far-end signal and the lane enters LOCK, or the fast path. -/
  | farSignalDetected (side : Side) (lane : Nat)
  /-- FAR_SIGNAL_LOST (R107): Loss of the far-end signal ends a training attempt, or returns a circuit port to DETECT without counting. -/
  | farSignalLost (side : Side) (lane : Nat)
  /-- CONTROL_BLOCK (R83): A training control block is received, checked by MARK and CRC, and drives lock, identity and tap negotiation. -/
  | controlBlock (side : Side) (lane : Nat) (cb : ControlBlock) (rx : ReceiverView)
  /-- TAP_REQUEST_APPLY (R87): The transmitter applies or refuses a step, load preset or load taps request within 2 µs and answers it. -/
  | tapRequestApply (side : Side) (lane : Nat)
  /-- TRAINING_TIMEOUT (R88): A training state times out, the attempt fails and the lane returns to DETECT or, after three failures, enters FAILED. -/
  | trainingTimeout (side : Side) (lane : Nat)
  /-- VERIFY_END (R88): The VERIFY error count period ends and the lane proceeds to HANDOVER when the error ratio passes. -/
  | verifyEnd (side : Side) (lane : Nat) (errors : Nat)
  /-- HANDOVER_ACCEPT (R88): The link layer accepts a lane at HANDOVER and the lane becomes ACTIVE, writing its preset cache entry. -/
  | handoverAccept (side : Side) (lane : Nat)
  /-- FAST_TIMEOUT (R95): The fast path has not reached ACTIVE by t0 + 500 µs, so the lane drops its cache entry and trains fully. -/
  | fastTimeout (side : Side) (lane : Nat)
  /-- LNK_PLAN_WRITE (R93): A write to LNK.PLAN causes the module to compare the lane's far identity again within 1 ms. -/
  | lnkPlanWrite (path : Path) (lane : Nat) (value : Word)
  /-- ID_ANNOUNCE (R94): A received ID_ANNOUNCE is compared with LNK.FAR_ID, and the port's lanes retrain on a difference. -/
  | idAnnounce (side : Side) (port : Nat) (p : Packet)
  /-- ID_ANNOUNCE_TIMER (R94): Every 1 ms each end of an ACTIVE port sends ID_ANNOUNCE. -/
  | idAnnounceTimer (side : Side) (port : Nat)
  /-- ID_ANNOUNCE_TIMEOUT (R94): No ID_ANNOUNCE has arrived for 5 ms and the port's lanes retrain. -/
  | idAnnounceTimeout (side : Side) (port : Nat)
  /-- ERROR_RATIO_CHECK (R98): Every 100 ms the pre-FEC error ratio of an ACTIVE lane is tested and may trigger a slice remap. -/
  | errorRatioCheck (side : Side) (lane : Nat) (errors : Nat) (bits : Nat)
  /-- ALIGNMENT_MARKER (R101): A received alignment marker re-measures lane offsets and parity, and a drifted lane leaves its port. -/
  | alignmentMarker (side : Side) (lane : Nat) (m : Marker) (bipSeen : BitVec 8) (spanPs : Int) (errors : Nat) (bits : Nat) (wish : Option (BitVec 12))
  /-- LANE_CTL (R102): A LANE_CTL request or response for continuous adaptation is received and applied. -/
  | laneCtl (side : Side) (port : Nat) (p : Packet)
  /-- LANE_CTL_TIMEOUT (R102): A LANE_CTL request unanswered within 20 µs is abandoned and counted. -/
  | laneCtlTimeout (side : Side) (lane : Nat)
  /-- SLEEP_SIGNAL_LOSS (R104): No control block has arrived for 50 µs on a sleeping lane, which is then lost and retrains. -/
  | sleepSignalLoss (side : Side) (lane : Nat)
  /-- LANE_WAKE (R104): A sleeping lane wakes, relocks, checks deskew and hands over at a frame boundary. -/
  | laneWake (side : Side) (lane : Nat) (spanPs : Int)
  /-- FLIT_RECEIVE (R120): A received flit is checked by CRC, FEC, type and sequence, and its ACK and credit return are taken. -/
  | flitReceive (side : Side) (port : Nat) (lane : Nat) (f : Flit) (uncorrectable : Bool) (corrected : Nat)
  /-- RETRY_REQ (R121): A RETRY_REQ flit makes the transmitter send a RESYNC group and replay from the requested sequence. -/
  | retryReq (side : Side) (port : Nat) (lane : Nat) (f : Flit)
  /-- RESYNC (R131): The first good RESYNC of a group sets the active lane mask and resumes acceptance of flits. -/
  | resync (side : Side) (port : Nat) (lane : Nat) (f : Flit)
  /-- RETRY_REQ_TIMER (R120): Every 1 µs until a RESYNC arrives, the failing receiver sends RETRY_REQ again. -/
  | retryReqTimer (side : Side) (port : Nat)
  /-- REPLAY_TIMEOUT (R121): ACK has not advanced for 4 µs with flits unacknowledged, so the transmitter replays without a request. -/
  | replayTimeout (side : Side) (port : Nat)
  /-- PEER_PORT_DOWN (R122): Every active lane receives training frames within 10 µs, so the far end takes the port down with reason PEER. -/
  | peerPortDown (side : Side) (port : Nat)
  /-- PORT_FORM (R132): Once MIN_WIDTH lanes reach HANDOVER with matching versions, the port forms and sends a RESYNC group and CREDIT_INIT. -/
  | portForm (side : Side) (port : Nat)
  /-- CREDIT_INIT (R132): A received CREDIT_INIT sets the far grants, and the port becomes UP once it is also acknowledged. -/
  | creditInit (side : Side) (port : Nat) (grants : List Nat)
  /-- LANE_FAULT (R133): A receiver finds a lane faulty, stops accepting it and sends LANE_DROP to degrade the port. -/
  | laneFault (side : Side) (lane : Nat) (slice : Bool)
  /-- LANE_DROP (R133): A received LANE_DROP removes the lanes, and the port resyncs and replays on the reduced mask. -/
  | laneDrop (side : Side) (port : Nat) (mask : BitVec 8)
  /-- LANE_ADD (R134): A received LANE_ADD leads the lower-EID end to resync on an enlarged mask. -/
  | laneAdd (side : Side) (port : Nat) (mask : BitVec 8)
  /-- UPCONFIG_LANE_READY (R134): A configured lane reaches HANDOVER while the port is UP, and its end sends LANE_ADD. -/
  | upconfigLaneReady (side : Side) (lane : Nat)
  /-- LANE_RELEASE (R135): A received LANE_RELEASE is answered with RELEASE_ACK, or refused below MIN_WIDTH. -/
  | laneRelease (side : Side) (port : Nat) (mask : BitVec 8)
  /-- RELEASE_ACK (R135): A received RELEASE_ACK leads both ends to resync on the reduced mask before the lanes sleep or power off. -/
  | releaseAck (side : Side) (port : Nat) (mask : BitVec 8)
  /-- PORT_DOWN_CMD (R141): A write of PRT.CTL.DOWN takes the port down under R122 and retrains its lanes. -/
  | portDownCmd (side : Side) (path : Path) (port : Nat)
  /-- PACKET_TRANSMIT (R125): A queued packet starts on a port once its credits in the packet's pool cover every slot. -/
  | packetTransmit (side : Side) (port : Nat) (pool : Nat)
  /-- PACKET_INGRESS (R145): A packet arriving on a module port passes ingress checks, storage, route lookup and feature check. -/
  | packetIngress (port : Nat) (p : Packet)
  /-- BUFFER_ROOM_FREED (R163): A packet waiting in the ingress partition for egress or shared room moves on when room frees. -/
  | bufferRoomFreed (ix : Nat)
  /-- RESIDUE_SEND (R165): A port sends a multicast copy from its residue queue behind older packets of the pool. -/
  | residueSend (port : Nat) (ix : Nat)
  /-- RESEQ_ARRIVE (R169): An ordered packet reaching a leaf resequencer is released, held or bypassed by its XSEQ. -/
  | reseqArrive (port : Nat) (p : Packet)
  /-- RESEQ_GAP_TIMEOUT (R170): A stream gap open for GAP_US makes the resequencer release held packets in order. -/
  | reseqGapTimeout (port : Nat) (src : Eid) (dst : Eid) (stream : BitVec 4) (epoch : BitVec 4)
  /-- NOC_ROUTER_FAULT (R151): A router fault in one NoC plane takes that plane out of service and moves all traffic to the other. -/
  | nocRouterFault (plane : Nat) (router : Nat)
  /-- NOC_PLANE_DISABLE (R152): A write of NOC.CTL.PLANE0_DIS or PLANE1_DIS takes a NoC plane out of service unless it would leave none. -/
  | nocPlaneDisable (path : Path) (plane0 : Bool) (plane1 : Bool)
  /-- PACKET_AGE_OUT (R193): A module discards a sequenced packet or response that it has held for 100 µs and counts it. -/
  | packetAgeOut (port : Nat) (p : Packet)
  /-- SEQ_PACKET_SEND (R182): A source assigns an XSEQ and transport entry to a sequenced packet and sends it, once entries, tags and the window allow. -/
  | seqPacketSend (side : Side) (id : Nat)
  /-- SEQ_PACKET_RECEIVE (R185): A destination classifies a sequenced packet as duplicate, in progress, acceptable or out of window and acts on it. -/
  | seqPacketReceive (side : Side) (port : Nat) (p : Packet)
  /-- ACK_TIMER (R187): 1 µs after a delivery in a space, the destination sends XPT_ACK. -/
  | ackTimer (side : Side) (src : Eid) (dst : Eid) (stream : BitVec 4)
  /-- XPT_ACK (R188): A received XPT_ACK completes the packets it covers at the source. -/
  | xptAck (side : Side) (port : Nat) (p : Packet)
  /-- XPT_NACK (R192): A received XPT_NACK schedules a retransmission or completes the refused packet with its status. -/
  | xptNack (side : Side) (port : Nat) (p : Packet)
  /-- NACK_RETRY_TIMER (R192): 2 µs after a RETRY_LATER NACK, the source retransmits the packet. -/
  | nackRetryTimer (side : Side) (dst : Eid) (stream : BitVec 4) (xseq : BitVec 24)
  /-- RETRANSMIT_TIMER (R189): A retransmission interval expires and the source retransmits the incomplete packet, or gives up after retransmission N. -/
  | retransmitTimer (side : Side) (dst : Eid) (stream : BitVec 4) (xseq : BitVec 24)
  /-- XPT_RESTART (R195): A received XPT_RESTART advances E and drops held packets when it is new, and it is acknowledged. -/
  | xptRestart (side : Side) (port : Nat) (p : Packet)
  /-- PLANE_UNUSABLE (R196): A plane becomes unusable for a destination, which triggers plane-loss barriers for ordered streams. -/
  | planeUnusable (side : Side) (dst : Eid) (plane : Bool)
  /-- PLANE_SUSPECT_EXPIRE (R196): 1 ms after four unacknowledged transmissions marked a plane unusable, the plane is usable again. -/
  | planeSuspectExpire (side : Side) (dst : Eid) (plane : Bool)
  /-- HOME_PLANE_RETURN (R199): A stream off its home plane performs a planned barrier once the home plane has been usable for 1 ms and nothing is incomplete. -/
  | homePlaneReturn (side : Side) (dst : Eid) (stream : BitVec 4)
  /-- PLANNED_BARRIER_DONE (R198): The last packet of the old epoch completes and the stream advances to the new epoch. -/
  | plannedBarrierDone (side : Side) (dst : Eid) (stream : BitVec 4)
  /-- XPT_PEER_RESET (R212): A write of XPT.PEER_RESET clears the sequence state and replay entries for an EID, unless refused. -/
  | xptPeerReset (side : Side) (eid : Eid)
  /-- XQ_LOAD (R358): The accelerator issues a LOAD on XQ, served from the line cache or sent as a LOAD packet. -/
  | xqLoad (ctx : Nat) (atag : Nat) (gfa : Nat) (len : Nat) (stream : BitVec 4)
  /-- XQ_LOAD_ACQ (R203): The accelerator issues an acquire load, which blocks its context and invalidates read-mostly lines of the target. -/
  | xqLoadAcq (ctx : Nat) (atag : Nat) (gfa : Nat) (len : Nat) (stream : BitVec 4)
  /-- XQ_STORE (R358): The accelerator issues a STORE on XQ. -/
  | xqStore (ctx : Nat) (atag : Nat) (gfa : Nat) (stream : BitVec 4) (data : List Byte)
  /-- XQ_STORE_FLAG (R202): The accelerator issues a flagged store, which waits at the source until earlier writes to the destination complete. -/
  | xqStoreFlag (ctx : Nat) (atag : Nat) (gfa : Nat) (stream : BitVec 4) (data : List Byte)
  /-- XQ_ATOMIC_INT (R358): The accelerator issues an integer atomic on XQ. -/
  | xqAtomicInt (ctx : Nat) (atag : Nat) (gfa : Nat) (stream : BitVec 4) (aop : BitVec 8) (data : List Byte)
  /-- XQ_ATOMIC_FP (R358): The accelerator issues a floating atomic on XQ. -/
  | xqAtomicFp (ctx : Nat) (atag : Nat) (gfa : Nat) (stream : BitVec 4) (aop : BitVec 8) (data : List Byte)
  /-- XQ_REDUCE_STORE (R358): The accelerator issues a remote reduce-store on XQ. -/
  | xqReduceStore (ctx : Nat) (atag : Nat) (gfa : Nat) (stream : BitVec 4) (aop : BitVec 8) (data : List Byte)
  /-- FENCE (R204): A fence is issued and waits until every earlier operation of its context is complete. -/
  | fence (ctx : Nat) (atag : Nat)
  /-- FENCE_COMPLETE (R204): Every operation a fence waits for is complete, so the fence completes with the first status in R14 order. -/
  | fenceComplete (side : Side) (ctx : Nat)
  /-- RM_INV_ALL (R238): The invalidate-all command drops every read-mostly line of the fabric line cache. -/
  | rmInvAll (ctx : Nat) (atag : Nat)
  /-- COH_RD (R371): The accelerator obtains a pool line in S, F or E through the block. -/
  | cohRd (ctx : Nat) (atag : Nat) (gfa : Nat) (len : Nat)
  /-- COH_RDOWN (R371): The accelerator obtains a pool line in M by RD_OWN or UPGRADE. -/
  | cohRdown (ctx : Nat) (atag : Nat) (gfa : Nat) (len : Nat)
  /-- COH_WB (R371): The accelerator returns a dirty copy of a pool line to the block. -/
  | cohWb (ctx : Nat) (atag : Nat) (gfa : Nat) (data : List Byte)
  /-- COH_EVICT (R371): The accelerator drops a clean copy of a pool line. -/
  | cohEvict (ctx : Nat) (atag : Nat) (gfa : Nat)
  /-- REG_RD (R358): The accelerator reads an 8-byte register of the FXE space through the core port. -/
  | regRd (ctx : Nat) (atag : Nat) (offset : Nat) (size : Nat)
  /-- REG_WR (R353): The accelerator writes an FXE register through the core port, subject to MGMT_LOCK. -/
  | regWr (ctx : Nat) (atag : Nat) (offset : Nat) (data : List Byte)
  /-- LOAD (R222): A destination checks a LOAD against its windows and answers with LOAD_DATA. -/
  | load (side : Side) (port : Nat) (p : Packet)
  /-- LOAD_ACQ (R222): A destination checks an acquire load and answers with LOAD_DATA. -/
  | loadAcq (side : Side) (port : Nat) (p : Packet)
  /-- STORE (R222): A destination checks and applies a STORE and answers with STORE_ACK. -/
  | store (side : Side) (port : Nat) (p : Packet)
  /-- STORE_FLAG (R222): A destination checks and applies a flagged store and answers with STORE_ACK. -/
  | storeFlag (side : Side) (port : Nat) (p : Packet)
  /-- ATOMIC_INT (R232): A destination takes a replay entry, checks and applies an integer atomic and answers with ATOMIC_RESULT. -/
  | atomicInt (side : Side) (port : Nat) (p : Packet)
  /-- ATOMIC_FP (R232): A destination takes a replay entry, checks and applies a floating atomic and answers with ATOMIC_RESULT. -/
  | atomicFp (side : Side) (port : Nat) (p : Packet)
  /-- REDUCE_STORE (R368): A destination checks and applies a reduce-store through the reduce ALU and answers with REDUCE_ACK. -/
  | reduceStore (side : Side) (port : Nat) (p : Packet)
  /-- DMA_WRITE (R226): A destination checks and applies a DMA_WRITE, or refuses it with an XPT_NACK and a DMA_REFUSED event. -/
  | dmaWrite (side : Side) (port : Nat) (p : Packet)
  /-- DMA_READ_REQ (R222): A destination checks a DMA read and answers with DMA_READ_DATA. -/
  | dmaReadReq (side : Side) (port : Nat) (p : Packet)
  /-- LOAD_DATA (R237): A LOAD_DATA response completes a load at the source and may fill a read-mostly line. -/
  | loadData (side : Side) (port : Nat) (p : Packet)
  /-- STORE_ACK (R225): A STORE_ACK completes a store, counting member responses for multicast stores. -/
  | storeAck (side : Side) (port : Nat) (p : Packet)
  /-- ATOMIC_RESULT (R217): An ATOMIC_RESULT completes an atomic at the source with its old value and flags. -/
  | atomicResult (side : Side) (port : Nat) (p : Packet)
  /-- REDUCE_ACK (R188): A REDUCE_ACK completes a reduce-store at the source. -/
  | reduceAck (side : Side) (port : Nat) (p : Packet)
  /-- DMA_READ_DATA (R188): A DMA_READ_DATA response completes a DMA read packet at the source. -/
  | dmaReadData (side : Side) (port : Nat) (p : Packet)
  /-- LOAD_TIMEOUT (R228): A load is incomplete T_L after its first transmission and completes with TIMEOUT or TARGET_DEAD. -/
  | loadTimeout (side : Side) (tag : Nat)
  /-- REPLAY_ENTRY_EXPIRE (R233): A replay entry is freed 8 ms after it was written. -/
  | replayEntryExpire (side : Side) (src : Eid) (stream : BitVec 4) (xseq : BitVec 24)
  /-- RM_LINE_EXPIRE (R237): A read-mostly line is dropped RM_MAX_AGE after its fill. -/
  | rmLineExpire (gfa : Nat)
  /-- RD_SHARED (R254): The home serves a read-shared request, snooping the holder where needed. -/
  | rdShared (port : Nat) (p : Packet)
  /-- RD_OWN (R254): The home serves a read-for-ownership request, invalidating other holders. -/
  | rdOwn (port : Nat) (p : Packet)
  /-- UPGRADE (R254): The home serves an upgrade request, invalidating every other holder. -/
  | upgrade (port : Nat) (p : Packet)
  /-- WB (R254): The home writes back a line from its M, E or O holder, or answers CMP STALE. -/
  | wb (port : Nat) (p : Packet)
  /-- EVICT (R254): The home removes a clean holder from the directory entry and answers CMP. -/
  | evict (port : Nat) (p : Packet)
  /-- RECOVER_START (R262): A received RECOVER_START makes the leaf run coherence recovery with the endpoint. -/
  | recoverStart (port : Nat) (p : Packet)
  /-- RECOVER_DONE (R263): A received RECOVER_DONE makes the home poison lines still held in M or O by the endpoint and clean its entries. -/
  | recoverDone (port : Nat) (p : Packet)
  /-- SNP_RSP (R254): The home takes a snoop response, writes dirty data, records stale write-backs and proceeds with the transaction. -/
  | snpRsp (port : Nat) (p : Packet)
  /-- ACK (R257): A requester's ACK ends its transaction and unblocks the line at the home. -/
  | ack (port : Nat) (p : Packet)
  /-- LINE_UNBLOCK (R257): A blocked line ends its transaction and the next waiting request for it is served. -/
  | lineUnblock (line : Nat)
  /-- SNP_SHARED (R256): An endpoint answers a shared snoop, forwarding the line where asked. -/
  | snpShared (port : Nat) (p : Packet)
  /-- SNP_INV (R256): An endpoint answers an invalidating snoop, forwarding the line where asked. -/
  | snpInv (port : Nat) (p : Packet)
  /-- SNP_CUR (R256): An endpoint returns dirty data for a current-value snoop without changing state. -/
  | snpCur (port : Nat) (p : Packet)
  /-- BINV (R256): An endpoint answers a back-invalidation and drops the line. -/
  | binv (port : Nat) (p : Packet)
  /-- SNP_FLUSH (R256): An endpoint flushes every matching line of the leaf and answers once all are in I. -/
  | snpFlush (port : Nat) (p : Packet)
  /-- GO (R253): A GO completes an ownership or upgrade request at the requester, with or without DATA. -/
  | go (port : Nat) (p : Packet)
  /-- CMP (R253): A CMP completes a WB, EVICT or RECOVER_DONE at the requester. -/
  | cmp (port : Nat) (p : Packet)
  /-- DATA (R253): Line data arrives at the requester and completes a read or half of an ownership request. -/
  | data (port : Nat) (p : Packet)
  /-- SNOOP_TIMEOUT (R260): An unanswered snoop is sent again after SNP_TIMEOUT, or after a second period coherence recovery starts. -/
  | snoopTimeout (slot : Nat) (tseq : BitVec 24) (line : Nat)
  /-- RECOVER_TIMEOUT (R263): RECOVER_DONE has not arrived within RECOVER_TIMEOUT, so the leaf records liveness evidence. -/
  | recoverTimeout (slot : Nat)
  /-- COH_TIMEOUT (R262): A coherent request stays incomplete for COH_TIMEOUT at the endpoint, which starts coherence recovery. -/
  | cohTimeout (leaf : Eid) (tseq : BitVec 24)
  /-- DIRECTORY_FLUSH (R266): A change of T makes the leaf flush every line by SNP_FLUSH, clear the directory and resume under the new T. -/
  | directoryFlush (tiles : Nat)
  /-- DIR_REGION_CLEAR (R271): Clearing VALID or COHERENT of DIR.REGION back-invalidates the region's lines before the write completes. -/
  | dirRegionClear (path : Path) (n : Nat) (valid : Bool) (coherent : Bool)
  /-- MIRROR_STORE_DONE (R374): A mirror store completes, and on a failure the range is marked mirror-stale with interrupt vector 6. -/
  | mirrorStoreDone
  /-- COLL_DESCRIPTOR (R288): A collective descriptor is fetched and checked, and its chunks become active or complete with a failure. -/
  | collDescriptor
  /-- COLL_CANCEL (R292): A descriptor with CANCEL completes every incomplete chunk of the step with ABORTED. -/
  | collCancel
  /-- TIMED_START (R291): Fabric time reaches START_TIME and the endpoint block starts sending the descriptor's chunks. -/
  | timedStart (id : Nat)
  /-- CHUNK_SEND (R289): A member sends the next chunk of a plane once fewer than W chunks are incomplete. -/
  | chunkSend (g : Nat) (plane : Bool)
  /-- COLL_CONTRIB (R294): A reduction point opens the chunk if needed, checks and adds a contribution fragment. -/
  | collContrib (port : Nat) (p : Packet)
  /-- EPILOGUE_START (R297): A chunk complete at its root starts its count check, division and epilogue once arrays and pause allow. -/
  | epilogueStart (ctx : Nat) (step : Nat) (chunk : Nat) (count : Nat)
  /-- EPILOGUE_COMMIT (R340): The other copy's writes have completed, so the root writes the commit record and multicasts the result. -/
  | epilogueCommit (ctx : Nat) (step : Nat) (chunk : Nat)
  /-- COLL_RESULT (R298): A member writes a result fragment to DST, and writes the chunk record when all arrive and check. -/
  | collResult (side : Side) (port : Nat) (p : Packet)
  /-- COLL_ABORT (R306): A received abort closes the chunk or step at each module and the root, and members write their records. -/
  | collAbort (side : Side) (port : Nat) (p : Packet)
  /-- COLL_RESEND (R304): A child answers a COLL_RESEND by resending, holding, aborting or recording the attempt. -/
  | collResend (side : Side) (port : Nat) (p : Packet)
  /-- COLL_PROBE (R298): A root answers a member's probe with a unicast result, a TIMEOUT abort, or nothing. -/
  | collProbe (port : Nat) (p : Packet) (count : Nat)
  /-- PROBE_TIMER (R298): 50 µs after a chunk's latest result fragment, or each 1,000 µs, the member probes the incomplete chunk. -/
  | probeTimer (id : Nat) (chunk : Nat)
  /-- CHUNK_TIMEOUT (R302): A chunk open for CHUNK_TIMEOUT restarts with a new attempt, or after MAX_RESTARTS ends with a step-scope abort. -/
  | chunkTimeout (ctx : Nat) (step : Nat) (chunk : Nat)
  /-- COLL_TIMEOUT (R298): A chunk still incomplete at the collective timeout completes with TIMEOUT at the member. -/
  | collTimeout (id : Nat) (chunk : Nat)
  /-- REFUSAL_BACKOFF (R300): After its n-th refusal a child resends the contribution, or at the ninth aborts with RETRY_LATER. -/
  | refusalBackoff (side : Side) (unit : Nat) (step : Nat) (chunk : Nat)
  /-- PARTIAL_HOLD_EXPIRE (R296): HOLD_US after sending a partial, the module frees its slots. -/
  | partialHoldExpire (ctx : Nat) (step : Nat) (chunk : Nat)
  /-- RESULT_RETAIN_EXPIRE (R297): RETAIN_US after the last result fragment, the root drops its retained copy and keeps a 64 ms record. -/
  | resultRetainExpire (ctx : Nat) (step : Nat) (chunk : Nat)
  /-- CHUNK_RECORD_EXPIRE (R297): The root's 64 ms record of a chunk's step and digest expires. -/
  | chunkRecordExpire (ctx : Nat) (step : Nat) (chunk : Nat)
  /-- SRC_READ_FAIL (R589): A member's read of SRC or EF_ADDR fails, so it sends a chunk-scope abort and writes the record. -/
  | srcReadFail (id : Nat) (chunk : Nat)
  /-- DOMINO_SEG (R378): A receiver checks and applies a Domino segment, increments its counter and checks the value on LAST. -/
  | dominoSeg (port : Nat) (p : Packet)
  /-- TRIG_POST (R376): A 64-byte write to FXE.TRIG_POST posts a triggered operation. -/
  | trigPost (ctx : Nat) (atag : Nat) (data : List Byte)
  /-- TRIGGERED_OP_FIRE (R377): A counter reaches a pending operation's threshold and the operation fires. -/
  | triggeredOpFire
  /-- TRIGGERED_OP_COMPLETE (R379): A fired operation completes, incrementing DONE_COUNTER or setting ERR. -/
  | triggeredOpComplete
  /-- DOM_CTR_WRITE (R375): A write to a Domino counter sets VALUE, clears ERR and resets the check state. -/
  | domCtrWrite (n : Nat) (value : Nat)
  /-- DMA_DOORBELL (R380): A write of a DMA or collective queue TAIL rings the doorbell and descriptors are fetched while EN is 1. -/
  | dmaDoorbell (q : Nat) (tail : Nat)
  /-- DMA_DESCRIPTOR (R381): A fetched DMA descriptor is split into packets and started, after earlier ones if FENCE_BEFORE. -/
  | dmaDescriptor (q : Nat)
  /-- DMA_DESCRIPTOR_DONE (R382): A DMA descriptor's packets are complete and its record is written in queue order. -/
  | dmaDescriptorDone (q : Nat)
  /-- QUEUE_FETCH_FAIL (R380): A descriptor fetch is refused or times out, and the queue stops with interrupt vector 2. -/
  | queueFetchFail (q : Nat)
  /-- MR_ANSWER (R360): An MR answer to an MQ request arrives and completes that request. -/
  | mrAnswer (half : Nat) (mtag : Nat) (status : Status) (data : List Byte)
  /-- MEM_TIMEOUT (R362): An MQ request has no answer after MEM_TIMEOUT, so its operation completes with INTERNAL and vector 10 rises. -/
  | memTimeout (half : Nat) (mtag : Nat)
  /-- SR_ANSWER (R372): An SR snoop answer arrives and the block answers the leaf or lowers its state. -/
  | srAnswer (stag : Nat) (dirty : Option (List Byte)) (newState : Nat) (wb : Option (Nat × Nat × List Byte))
  /-- ATOMIC_LINE_WRITEBACK (R367): A locked line is written back when no atomic to it waits or 1 µs after the lock. -/
  | atomicLineWriteback (line : Nat)
  /-- PLANE_DOWN_WRITE (R355): Setting an FXE.PLANE_DOWN bit makes the plane unusable for the rack at once. -/
  | planeDownWrite (path : Path) (plane : Bool) (ix : Nat) (value : Word)
  /-- POWER_GRANT (R387): A received POWER_GRANT is applied and driven on the sideband with GRANT_STB. -/
  | powerGrant (port : Nat) (p : Packet)
  /-- GRANT_TIMEOUT (R388): No grant has arrived for 5 ms, so the block drives the floor grant, sets NO_GRANT and raises vector 7. -/
  | grantTimeout
  /-- POWER_REPORT_TIMER (R467): Every 10 µs the endpoint block sends POWER_REPORT to both leaves. -/
  | powerReportTimer (report : Nat)
  /-- RST_N (R386): Assertion of RST_N cold-resets the endpoint block. -/
  | rstN
  /-- MOVE (R404): An engine copies a rectangle between spaces tile by tile. -/
  | move (queue : Nat) (host : List Byte)
  /-- FILL (R405): An engine fills a rectangle with an 8-byte pattern. -/
  | fill (queue : Nat)
  /-- WRITE_IMM (R405): An engine writes one aligned 8-byte word, as STORE_FLAG in the fabric space. -/
  | writeImm (queue : Nat)
  /-- CTA_LOAD_B (R406): A contraction-array queue loads matrix B into its staging SRAM. -/
  | ctaLoadB (queue : Nat) (host : List Byte)
  /-- CTA_MATMUL (R406): A contraction-array queue computes C = A × B in blocks of 256 rows. -/
  | ctaMatmul (queue : Nat) (host : List Byte)
  /-- COMMAND_COMPLETE (R408): An engine command completes and its completion record is written in queue order. -/
  | commandComplete (queue : Nat) (declined : Bool)
  /-- ATS_TRANSLATION_COMPLETION (R411): An ATS Translation Completion fills the TLBs and lets waiting tiles proceed. -/
  | atsTranslationCompletion (pasid : Nat) (page : Nat) (size : Nat) (read : Bool) (write : Bool)
  /-- PAGE_REQUEST_RESPONSE (R421): A Page Request Group Response arrives and a waiting puppet access retries or faults. -/
  | pageRequestResponse (group : Nat) (success : Bool)
  /-- ATS_INVALIDATE (R416): An ATS Invalidate Request invalidates matching entries and waits for transfers that used them. -/
  | atsInvalidate (itag : Nat) (pasid : Option Nat) (lo : Nat) (hi : Nat)
  /-- INVALIDATE_DRAINED (R416): The transfers that used a withdrawn translation finish and the Invalidate Completion leaves. -/
  | invalidateDrained (itag : Nat)
  /-- INVALIDATE_BOUND (R416): 100 µs after an invalidation, remaining transfers are aborted and the completion leaves at t0 + 101 µs. -/
  | invalidateBound (itag : Nat)
  /-- ATS_FLUSH (R426): A write of ATS.CTL.FLUSH invalidates every TLB entry. -/
  | atsFlush (path : Path)
  /-- PUPPET_LOAD (R419): A puppet thread loads from a space, switching out on a remote or missing access. -/
  | puppetLoad (core : Nat) (thread : Nat) (pc : Nat) (addr : Nat) (size : Nat) (pfeid : Word)
  /-- PUPPET_STORE (R419): A puppet thread posts a store to a space. -/
  | puppetStore (core : Nat) (thread : Nat) (pc : Nat) (addr : Nat) (data : List Byte) (pfeid : Word)
  /-- PUPPET_LR_AQ (R419): LR with aq set issues a LOAD_ACQ with no reservation. -/
  | puppetLrAq (core : Nat) (thread : Nat) (pc : Nat) (addr : Nat) (size : Nat) (pfeid : Word)
  /-- PUPPET_SC (R419): SC makes no access and writes 1 to rd. -/
  | puppetSc (core : Nat) (thread : Nat)
  /-- PUPPET_AMO (R419): An AMO instruction issues the matching ATOMIC_INT, or STORE_FLAG for AMOSWAP with rl and rd x0. -/
  | puppetAmo (core : Nat) (thread : Nat) (pc : Nat) (addr : Nat) (op : Nat) (data : List Byte) (rl : Bool) (rdZero : Bool) (pfeid : Word)
  /-- PCAS (R419): PCAS issues an ATOMIC_INT CAS with the compare value from pcmp. -/
  | pcas (core : Nat) (thread : Nat) (pc : Nat) (addr : Nat) (size : Nat) (swap : List Byte) (pcmp : Word) (pfeid : Word)
  /-- PUPPET_FENCE (R419): A puppet FENCE waits for every earlier access of the thread and invalidates the data cache. -/
  | puppetFence (core : Nat) (thread : Nat)
  /-- PUPPET_ACCESS_DONE (R418): A switched-out thread's access completes and the thread becomes ready. -/
  | puppetAccessDone (core : Nat) (thread : Nat) (host : List Byte)
  /-- PUPPET_EXIT (R423): A program writes the exit CSR 0x803 and stops. -/
  | puppetExit (core : Nat) (thread : Nat)
  /-- PUP_LOAD (R423): A write of PUP.LOAD verifies a staged puppet program and starts it, or fails the load. -/
  | pupLoad (path : Path) (value : Word) (grant : Grant)
  /-- PUP_KILL (R423): A write of PUP.PROG.KILL stops the program. -/
  | pupKill (path : Path) (slot : Nat)
  /-- PUPPET_MSG (R424): A PUPPET_MSG is checked and written whole into the program's mailbox ring, or NACKed. -/
  | puppetMsg (port : Nat) (p : Packet) (room : Option Nat)
  /-- PUPPETEER_BOOT (R436): boot images A and B and the fuses, as the parts hold them -/
  | puppeteerBoot (a : List Byte) (b : List Byte) (otp : OtpMap)
  /-- PCIE_ENUMERATION (R436): Step 2 trains the PCIe link and presents configuration space and BAR0. -/
  | pcieEnumeration (up : Bool)
  /-- FUSE_MAP_READ (R436): Step 3 reads the fuse map and field record and derives the provisional logical map. -/
  | fuseMapRead (path : Path) (fuse : FuseMap)
  /-- IMAGE_LOAD (R431): Step 4 fetches and verifies the Jigsaw image and loads its defaults. -/
  | imageLoad (path : Path) (image : List Byte) (fields : List ImageField)
  /-- TILE_BIST (R442): Step 5 tests all tiles, repairs rows, fixes the logical map and assigns roles. -/
  | tileBist (path : Path) (failing : List Nat) (rows : List (Nat × Nat))
  /-- NOC_TRAINING (R436): Step 6 calibrates the NoC, loads routes and broadcasts tile code. -/
  | nocTraining (path : Path) (ok0 : Bool) (ok1 : Bool) (image : List Byte)
  /-- DDR5_TRAINING (R436): Step 7 trains DDR5, stages the image and starts vendor firmware. -/
  | ddr5Training (path : Path) (channels : List DdrChannel) (image : List Byte) (ready : Bool)
  /-- SERDES_CALIBRATION (R436): Step 8 calibrates the slices and maps connector lanes onto good slices. -/
  | serdesCalibration (path : Path) (reported : List Nat) (bad : List (Nat × Nat))
  /-- LINK_TRAINING (R436): Step 9 locks GLB.EID and lets lanes train and ports form. -/
  | linkTraining (path : Path)
  /-- TOP_LOCK (R436): Step 10 waits for Top to lock, or sets NO_TOP_LOCK at 30 s. -/
  | topLock (path : Path)
  /-- ENABLE (R436): Step 11 opens every port to all classes and starts background activities. -/
  | enable (path : Path)
  /-- BRINGUP_STEP_END (R435): A running bring-up step ends, setting BUSY 0 and FAIL with a status on failure. -/
  | bringupStepEnd
  /-- BRINGUP_STEP_TIMEOUT (R435): A step still running at its maximum time ends with FAIL and TIMEOUT. -/
  | bringupStepTimeout
  /-- UNLOAD (R439): A write of GLB.BRINGUP_CTL.UNLOAD returns the module to the state after step 3. -/
  | unload
  /-- SRAM_SCRUB_PASS_END (R443): A tile's SRAM scrub pass ends and its corrected-word count may trigger retirement. -/
  | sramScrubPassEnd (tile : Nat) (corrected : Nat) (items : TileItems)
  /-- TILE_UE (R443): An uncorrectable SRAM error or self-check failure retires the tile or handles the word by role. -/
  | tileUe (tile : Nat) (fault : TileFault) (items : TileItems)
  /-- RETIRE (R444): JIG.ROLE_CMD RETIRE migrates a tile to a spare of its row, or makes it MISSING. -/
  | retire (tile : Nat) (items : TileItems)
  /-- TO_SPARE (R449): JIG.ROLE_CMD TO_SPARE changes a REDUCE or DIRECTORY tile to SPARE. -/
  | toSpare (tile : Nat)
  /-- FROM_SPARE (R449): JIG.ROLE_CMD FROM_SPARE gives a SPARE tile the REDUCE or DIRECTORY role. -/
  | fromSpare (tile : Nat) (role : Nat)
  /-- TO_SPARE_TIMEOUT (R449): Slots still held 100 ms into a REDUCE-to-SPARE change end it with RETRY_LATER. -/
  | toSpareTimeout
  /-- MIGRATION_COMPLETE (R444): A tile copy finishes, the repair path switches and the old tile is RETIRED. -/
  | migrationComplete
  /-- TIME_SYNC (R457): A received TIME_SYNC is time-stamped for the offset calculation. -/
  | timeSync (side : Side) (port : Nat) (p : Packet) (stamp : Nat)
  /-- TIME_FOLLOW (R457): A received TIME_FOLLOW supplies t1 for the exchange. -/
  | timeFollow (side : Side) (port : Nat) (p : Packet)
  /-- TIME_DELAY_REQ (R457): A parent answers a TIME_DELAY_REQ with TIME_DELAY_RSP carrying t4. -/
  | timeDelayReq (side : Side) (port : Nat) (p : Packet) (stamp : Nat)
  /-- TIME_DELAY_RSP (R457): A follower completes the exchange, computes offset and delay, and slews or steps. -/
  | timeDelayRsp (side : Side) (port : Nat) (p : Packet)
  /-- TIME_SYNC_TIMER (R457): Every 250 µs the module sends TIME_SYNC and TIME_FOLLOW, and followers send TIME_DELAY_REQ. -/
  | timeSyncTimer (side : Side) (stamps : List (Nat × Nat))
  /-- PPS_IN_EDGE (R458): A PPS_IN edge disciplines a root or standby and applies a pending AT_PPS load. -/
  | ppsInEdge (stamp : Nat) (good : Bool) (tenMhz : Bool)
  /-- TIME_SOURCE_LOSS (R458): No usable time source for 2 ms moves Top from LOCKED to HOLDOVER. -/
  | timeSourceLoss (port : Option Nat)
  /-- HOLDOVER_EXPIRE (R458): HOLDOVER lasting HOLDOVER_MS moves Top to FREE. -/
  | holdoverExpire
  /-- TOP_SET_GO (R484): A write of TOP.SET_CTL.GO loads TOP.SET at once or at the next PPS edge. -/
  | topSetGo (atPps : Bool)
  /-- GM_CHANGE (R463): A standby with no peer PPS for 2 s and AUTO_GM set becomes grandmaster. -/
  | gmChange
  /-- TIME_LOST (R462): An endpoint block finds no usable leaf, enters holdover, and FT_VALID falls after 100 ms. -/
  | timeLost
  /-- CAP_WRITE (R466): A write of PWR.CAP_CTL makes the leaf compute grants within 5 µs and send them, staged if needed. -/
  | capWrite (path : Path) (value : Word) (power : List Nat)
  /-- GRANT_COMPUTE_TIMER (R466): Every 100 µs the leaf recomputes grants from reports and the budget. -/
  | grantComputeTimer
  /-- GRANT_REFRESH_TIMER (R467): At least every 1 ms the leaf sends each slot its grant. -/
  | grantRefreshTimer
  /-- STAGE_TIMER (R469): 60 µs after a stage, the next stage of a staged grant change leaves. -/
  | stageTimer
  /-- POWER_REPORT (R467): A leaf records a slot's POWER_REPORT. -/
  | powerReport (port : Nat) (p : Packet)
  /-- VIOLATION_CHECK (R471): 60 µs after a lower grant, the leaf compares each REPORT and counts violations, forcing the floor at VIOL_LIMIT. -/
  | violationCheck (slot : Nat)
  /-- REPORT_TIMEOUT (R471): A slot with no POWER_REPORT for 100 µs counts at MAX and sets NO_REPORT. -/
  | reportTimeout (slot : Nat)
  /-- EP_CLEAR (R485): A write of PWR.EP.CLEAR ends a slot's forced floor. -/
  | epClear (slot : Nat)
  /-- SHED_CORRECT_TIMER (R470): Every 1 ms the module corrects its own shed level from measured power. -/
  | shedCorrectTimer (power : List Nat)
  /-- POWER_WARN_N (R473): POWER_WARN_N low for 2 µs puts every grant at floor and sheds to level 5. -/
  | powerWarnN (low : Bool)
  /-- INPUT_SAMPLE (R473): An input sample enters or leaves UV_WARN, OV_WARN or the floor conditions. -/
  | inputSample (mv : Nat) (iin : Nat) (pin : Nat)
  /-- UV_LOSS (R474): Samples below 28.0 V for 200 µs start the power-loss procedure, which runs to its end. -/
  | uvLoss
  /-- THERMAL_SAMPLE (R475): A junction sensor above 105 °C sheds power, and above 115 °C trips the power-loss procedure. -/
  | thermalSample (sensor : Nat) (temp : Nat)
  /-- THERMAL_RECHECK (R475): 1 ms after shedding to level 3, a sensor still above 105 °C takes the module to level 5. -/
  | thermalRecheck (sensor : Nat) (temp : Nat)
  /-- SNAP_CTL (R481): A write of TEL.SNAP_CTL latches the selected counters and publishes a snapshot within 50 µs. -/
  | snapCtl (groups : Nat)
  /-- SNAPSHOT_PUBLISH (R481): A snapshot's values are written and its half of the management window is published. -/
  | snapshotPublish
  /-- TELEMETRY_PERIOD (R483): A stream's PERIOD_US expires and its groups are latched and sent as TELEMETRY, or the period is skipped. -/
  | telemetryPeriod (stream : Nat)
  /-- PAUSE_LIMIT_EXPIRE (R479): A paused scrub exceeds MAX_PAUSE_MIN and resumes over policy. -/
  | pauseLimitExpire (activity : Nat)
  /-- GET_VERSION (R493): The unit answers an SPDM GET_VERSION. -/
  | getVersion (side : Side) (via : Via)
  /-- GET_CAPABILITIES (R493): The unit answers an SPDM GET_CAPABILITIES. -/
  | getCapabilities (side : Side) (via : Via)
  /-- NEGOTIATE_ALGORITHMS (R493): The unit negotiates algorithms, answering ERROR when none is offered. -/
  | negotiateAlgorithms (side : Side) (via : Via) (offers : List Nat)
  /-- GET_DIGESTS (R493): The unit returns certificate chain digests. -/
  | getDigests (side : Side) (via : Via)
  /-- GET_CERTIFICATE (R493): The unit returns its certificate chain. -/
  | getCertificate (side : Side) (via : Via) (offset : Nat) (len : Nat)
  /-- CHALLENGE (R493): The unit signs a challenge with its alias key. -/
  | challenge (side : Side) (via : Via) (nonce : List Byte)
  /-- GET_MEASUREMENTS (R491): The unit returns its measurement blocks. -/
  | getMeasurements (side : Side) (via : Via) (index : Nat) (nonce : List Byte)
  /-- KEY_EXCHANGE (R493): The unit starts a mutually authenticated session by X448 exchange. -/
  | keyExchange (side : Side) (via : Via) (share : List Byte)
  /-- FINISH (R493): The unit completes session establishment. -/
  | finish (side : Side) (session : Nat) (key : List Byte) (signature : List Byte) (verify : List Byte)
  /-- HEARTBEAT (R493): The unit answers a session heartbeat. -/
  | heartbeat (side : Side) (session : Nat)
  /-- KEY_UPDATE (R493): The unit updates the session keys. -/
  | keyUpdate (side : Side) (session : Nat)
  /-- END_SESSION (R493): The unit ends a secured session. -/
  | endSession (side : Side) (session : Nat)
  /-- MGMT_SEGMENT (R512): A MGMT_REQ or MGMT_RSP segment is assembled into a message, or the message is discarded. -/
  | mgmtSegment (side : Side) (port : Nat) (p : Packet)
  /-- REG_READ (R512): A management REG_READ returns a BAR0 register value. -/
  | regRead (side : Side) (session : Nat) (addr : Nat)
  /-- REG_WRITE (R512): A management REG_WRITE writes a BAR0 register under the session's roles. -/
  | regWrite (side : Side) (session : Nat) (addr : Nat) (value : Word)
  /-- TOKEN_ACQUIRE (R514): A MANAGE session acquires a register group's ownership token, or is refused with RESOURCE. -/
  | tokenAcquire (session : Nat) (group : Nat)
  /-- TOKEN_RENEW (R514): A MANAGE session renews a token's lease. -/
  | tokenRenew (session : Nat) (group : Nat)
  /-- TOKEN_RELEASE (R514): A MANAGE session releases a token. -/
  | tokenRelease (session : Nat) (group : Nat)
  /-- TOKEN_EXPIRED (R514): A token's lease runs out, releasing the token and recording an event. -/
  | tokenExpired (group : Nat)
  /-- FLASH_WRITE (R513): An ADMIN session writes a boot image to flash. -/
  | flashWrite (session : Nat) (b : Bool) (image : List Byte)
  /-- CRED_SET (R513): An ADMIN session sets a credential slot. -/
  | credSet (session : Nat) (slot : Nat) (roles : Nat) (key : List Byte)
  /-- SIGNER_SET (R492): An ADMIN session installs an operator key in signer slots 4–15. -/
  | signerSet (session : Nat) (slot : Nat) (key : List Byte) (revoke : Bool)
  /-- ROLLBACK_RAISE (R492): An ADMIN session raises a minimum version, refused above the running version. -/
  | rollbackRaise (session : Nat) (bootVersion : Nat) (imageVersion : Nat)
  /-- KEY_LOAD (R496): A key broker loads or rekeys a W or IO key slot, or is refused. -/
  | keyLoad (side : Side) (session : Nat) (slot : Nat) (epoch : Nat) (cls : Nat) (engineOk : Bool) (progOk : Bool) (wrapped : List Byte)
  /-- PREV_KEY_EXPIRE (R496): 10 ms after a rekey, the previous LINK key is no longer valid. -/
  | prevKeyExpire (side : Side) (slot : Nat)
  /-- ACTIVATE_ORD (R498): An endpoint block activates an EMPTY slot as ORD on a management request. -/
  | activateOrd (session : Nat) (slot : Nat) (epoch : Nat)
  /-- SLOT_CMD_ACTIVATE_ORD (R498): SEC.SLOT_CMD OP ACTIVATE_ORD activates a module key slot as ORD. -/
  | slotCmdActivateOrd (slot : Nat) (epoch : Nat)
  /-- SLOT_RETIRE (R509): An endpoint block starts tenant removal of a slot epoch on a management request. -/
  | slotRetire (session : Nat) (slot : Nat) (epoch : Nat)
  /-- SLOT_CMD_RETIRE (R509): SEC.SLOT_CMD OP RETIRE starts tenant removal of a module slot epoch. -/
  | slotCmdRetire (slot : Nat) (epoch : Nat)
  /-- DRAIN_EXPIRE (R509): DRAIN_US after retirement, key material is zeroized, the epoch advances and scrubbing begins. -/
  | drainExpire (side : Side) (slot : Nat)
  /-- TENANT_RETIRED (R509): The scrub of a retiring slot ends, the slot becomes EMPTY and an event is recorded. -/
  | tenantRetired (side : Side) (slot : Nat)
  /-- WATCHDOG_EXPIRE (R517): 1,000 ms without service resets the Puppeteer cores and reboots them. -/
  | watchdogExpire
  /-- MGT_DOORBELL (R520): A write of MGT.DOORBELL hands the mailbox request to the Puppeteer. -/
  | mgtDoorbell (length : Nat)
  /-- MGT_RESPONSE (R520): The Puppeteer's answer is written to MGT.MBX_RSP and RSP_READY is set. -/
  | mgtResponse (data : List Byte)
  /-- EVIDENCE_CLEAR (R524): A liveness evidence bit clears after its condition has been absent for 100 ms. -/
  | evidenceClear (port : Nat) (bit : Nat)
  /-- QUARANTINE_TIMER (R525): LINK_DOWN held for QUAR_MS quarantines the unit behind the port. -/
  | quarantineTimer (port : Nat)
  /-- VOTE (R528): The witness signs a ballot on a proposal from its own liveness entry. -/
  | vote (session : Nat) (proposal : Nat) (unit : Eid) (nonce : Nat) (shadow : Bool)
  /-- DECIDE (R529): A module verifies two YES ballots and expels or readmits the unit. -/
  | decide (session : Nat) (proposal : Nat) (unit : Eid) (nonce : Nat) (ballots : List Ballot) (witness : Option Bool)
  /-- DEAD_NOTICE (R530): A unit marks an expelled EID dead and completes operations to it with TARGET_DEAD. -/
  | deadNotice (side : Side) (session : Nat) (unit : Eid) (nonce : Nat) (ballots : List Ballot) (relayed : Bool)
  /-- LIVE_NOTICE (R530): A unit removes a readmitted EID from its dead list. -/
  | liveNotice (side : Side) (session : Nat) (unit : Eid) (nonce : Nat) (ballots : List Ballot) (relayed : Bool)
  /-- TRAY_DOWN (R533): All slots of a tray leave UP within 2 ms, recording TRAY_DOWN and quarantining them after QUAR_MS. -/
  | trayDown (tray : Nat)
  /-- COLD_RESET (R540): GLB.RESET CLASS COLD or a PCIe fundamental reset restarts everything except the Puppeteer. -/
  | coldReset (fundamental : Bool)
  /-- WARM_RESET (R542): GLB.RESET CLASS WARM quiesces the module, holds DDR5 in self-refresh and resumes at step 5. -/
  | warmReset
  /-- PUPPETEER_RESET (R540): GLB.RESET CLASS PUPPETEER restarts only the Puppeteer cores. -/
  | puppeteerReset
  /-- FUNCTION_RESET (R540): A PCIe Function Level Reset restarts engine queues, ATS state and the mailbox. -/
  | functionReset
  /-- POWER_ON_RESET (R540): The input entering its operating range restarts everything from step 1. -/
  | powerOnReset
  /-- INTERNAL_FATAL (R540): A fatal internal fault takes every port down, sets FATAL and, with AUTO_WARM, schedules a WARM reset. -/
  | internalFatal (struct : Nat) (detail : Nat)
  /-- AUTO_WARM_TIMER (R540): 10 ms after a fatal internal fault with AUTO_WARM set, a WARM reset starts. -/
  | autoWarmTimer
  /-- APERTURE_READ (R559): A host read of BAR2 is cut into LOADs through its aperture window. -/
  | apertureRead (off : Nat) (len : Nat)
  /-- APERTURE_WRITE (R559): A host write of BAR2 is cut into STOREs through its aperture window. -/
  | apertureWrite (off : Nat) (data : List Byte)
  /-- QUEUE_DOORBELL (R562): A write of ENG.QDB.TAIL makes an engine queue fetch commands up to TAIL. -/
  | queueDoorbell (queue : Nat) (tail : Nat)
  /-- CHEAD_WRITE (R562): A write of ENG.QDB.CHEAD returns completion entries and may resume paused fetching. -/
  | cheadWrite (queue : Nat) (chead : Nat)
  /-- QUEUE_ENABLE (R561): Writing ENG.QR EN from 0 to 1 resets the counts and starts the queue. -/
  | queueEnable (path : Path) (queue : Nat) (value : Word)
  /-- RING_FETCH_DONE (R562): A command ring fetch returns and the command starts, or the queue stops on a failed fetch. -/
  | ringFetchDone (queue : Nat) (reply : HostReply)
  /-- INT_STATUS_CLEAR (R566): A W1C write to PCI.INT_STATUS clears bits, which set again at once while their condition holds. -/
  | intStatusClear (path : Path) (ix : Nat) (mask : Word)
  /-- INTERRUPT_HOLDOFF (R566): A deferred MSI-X message is sent once HOLDOFF_US has passed since the source's previous message. -/
  | interruptHoldoff (src : Nat)
  /-- D_STATE_CHANGE (R554): The host moves the function between D0 and D3hot, stopping or resuming memory access and messages. -/
  | dStateChange (d3 : Bool)
  /-- BUS_MASTER_DISABLE (R568): The host clears Bus Master Enable, so the module issues no request and fetching queues stop. -/
  | busMasterDisable
  /-- PRESENT_N_BREAK (R574): PRESENT_N opens when the module is pulled, turning the main path off. -/
  | presentNBreak
  /-- CBL_3V3_OVERLOAD (R583): An overloaded cable auxiliary supply turns off while its lanes keep running. -/
  | cbl3v3Overload (connector : Nat)
  /-- CONFIGURATION_WRITE (R552): A host configuration write sets Memory Space Enable and Bus Master Enable, enables ATS, PASID or PRI, sets the completion timeout, or changes the MSI-X Function Mask. -/
  | configurationWrite (w : ConfigWrite)
  /-- COMPLETION_TIMEOUT (R415): A module-issued PCIe read, such as an ATS Translation Request or a ring fetch, reaches the host's Completion Timeout and is treated as not mapped or stops its queue. -/
  | completionTimeout (what : HostRequest)
  /-- DIRECTORY_SCAN_END (R264): Each DIRECTORY tile finishes its 15.36 µs scan for a dead or quarantined endpoint, and requests waiting on lines not yet scanned proceed. -/
  | directoryScanEnd (slot : Nat)
  /-- FT_VALID_EXPIRE (R462): 100 ms into an endpoint block's holdover FT_VALID falls and interrupt vector 8 is raised. -/
  | ftValidExpire
  /-- GRANDMASTER_TIMEOUT (R462): An endpoint block that has seen no TIME_SYNC with GM 1 and LOCKED 1 for 2 ms switches to follow a leaf whose messages carry LOCKED 1. -/
  | grandmasterTimeout
  /-- STEPPED_EXPIRE (R459): 100 ms after a time step, STEPPED clears in TOP.STATUS and in the module's TC1 messages. -/
  | steppedExpire
  /-- SLEEP_CONTROL_BLOCK (R104): Every 10 µs a lane in SLEEP sends one control block with TSTATE showing SLEEP. -/
  | sleepControlBlock (side : Side) (lane : Nat)
  /-- I3C_ADMIN_INSTALL (R513): While no credential slot holds ADMIN, the board BMC installs one ADMIN credential over I3C. -/
  | i3cAdminInstall (slot : Nat) (key : List Byte)
  /-- TEST_ARM (R515): A TEST session sets or clears SEC.STATUS.TEST_ARMED, enabling or disabling Rattle injection writes. -/
  | testArm (session : Nat) (on : Bool)
  /-- DEBUG_ACCESS_OPEN (R507): A TEST session opens debug access to the core die after the key engine zeroizes every key slot and the device memory key. -/
  | debugAccessOpen (session : Nat)
  /-- FULL_RES_SET (R508): A DIAG session sets or clears SEC.CTL.FULL_RES, allowed only while no slot holds W-class keys. -/
  | fullResSet (session : Nat) (on : Bool)
  /-- RSP_LEN_READ (R520): A host read of MGT.RSP_LEN returns the response length and clears RSP_READY. -/
  | rspLenRead
  /-- RECORD_QUERY (R348): A write of RED.QUERY_CTL reads a commit record into RED.QUERY_REC and sets DONE and STATUS within 2 µs. -/
  | recordQuery (ctx : Nat) (chunk : Nat)
  /-- SNOOP_SLOW (R391): An SQ snoop unanswered by the accelerator for 2 µs records a SNOOP_SLOW event while the block keeps waiting. -/
  | snoopSlow (stag : Nat)
  /-- RATTLE_INTERVAL (R545): At each 1 ms interval, interval-based Rattle rules (FLAP, ECC_SRAM, ECC_DDR) may inject their fault. -/
  | rattleInterval (items : TileItems) (line : Nat)
  /-- REORDER_HOLD_EXPIRE (R545): A packet that a REORDER rule holds is released once its PARAM delay has passed. -/
  | reorderHoldExpire (ix : Nat)
  /-- FLAP_DOWN_EXPIRE (R545): The down time of a FLAP injection ends and the port's lanes retrain. -/
  | flapDownExpire (p : Nat)
  /-- VECTOR_UNMASK (R566): The host unmasks an MSI-X vector, and a message whose PBA bit is still set is sent. -/
  | vectorUnmask (vector : Nat)
deriving DecidableEq, Repr

end Sys2Proof
end

