-- ==== Sys2Proof/Machine/Bits.lean ====
section
/-! DEFINITION. Bit fields of a 64-bit word, little-endian bytes (R8) and the check codes of the spec: CRC-32C (R69),
CRC-64 (R117) and CRC-16 (R83). -/

namespace Sys2Proof.Machine

/-- The `n` low bits set. -/
def lowMask (n : Nat) : Word := BitVec.ofNat 64 (2 ^ n - 1)

/-- The field [hi:lo] of a word, as a number. -/
def bitsOf (w : Word) (hi lo : Nat) : Nat := ((w >>> lo) &&& lowMask (hi + 1 - lo)).toNat

/-- The word with its field [hi:lo] set to `v` (its bits beyond the field dropped). -/
def withBits (w : Word) (hi lo v : Nat) : Word :=
  (w &&& ~~~(lowMask (hi + 1 - lo) <<< lo)) ||| ((BitVec.ofNat 64 v &&& lowMask (hi + 1 - lo)) <<< lo)

/-- Bit `i` of a number. -/
def natBit (v i : Nat) : Bool := v.testBit i

/-- A Bool as the number 0 or 1. -/
def b2n (b : Bool) : Nat := if b then 1 else 0

/-- How many of the low `n` bits of `v` are set. -/
def popcount : Nat → Nat → Nat
  | 0, _ => 0
  | n + 1, v => b2n (v.testBit n) + popcount n v

/-- The XOR of the low `n` bits of `v` (the parity of R64). -/
def parityBits : Nat → Nat → Bool
  | 0, _ => false
  | n + 1, v => xor (v.testBit n) (parityBits n v)

/-- The positions below `n` whose bit is set in `v`, ascending. -/
def setBits (n v : Nat) : List Nat := (List.range n).filter fun i => v.testBit i

/-- `v` with bit `i` set. -/
def setBit (v i : Nat) : Nat := v ||| 2 ^ i

/-- `v` with bit `i` clear. -/
def clearBit (v i : Nat) : Nat := if v.testBit i then v - 2 ^ i else v

/-- The `n` little-endian bytes of `v` (R8). -/
def leBytes : Nat → Nat → List Byte
  | 0, _ => []
  | n + 1, v => BitVec.ofNat 8 v :: leBytes n (v / 256)

/-- The number that little-endian bytes spell (R8). -/
def leNat : List Byte → Nat
  | [] => 0
  | b :: bs => b.toNat + 256 * leNat bs

/-- `n` zero bytes. -/
def zeros (n : Nat) : List Byte := List.replicate n 0

/-- Bytes `at ..< at + n` of a list, short where the list is. -/
def slice (l : List Byte) (start n : Nat) : List Byte := (l.drop start).take n

/-- Bytes padded with zeros up to a whole multiple of 16 (R67: whole slots). -/
def padSlot (l : List Byte) : List Byte := l ++ zeros ((16 - l.length % 16) % 16)

/-- One bit step of the reflected CRC-32C register. -/
def crc32cBit (c : BitVec 32) : BitVec 32 :=
  if c.getLsbD 0 then (c >>> 1) ^^^ 0x82F63B78 else c >>> 1

/-- One byte step of CRC-32C. -/
def crc32cByte (c : BitVec 32) (b : Byte) : BitVec 32 :=
  crc32cBit (crc32cBit (crc32cBit (crc32cBit (crc32cBit (crc32cBit (crc32cBit (crc32cBit
    (c ^^^ b.setWidth 32))))))))

/-- CRC-32C of R69: reflected, initial value and final XOR all ones. -/
def crc32c (l : List Byte) : BitVec 32 := ~~~(l.foldl crc32cByte 0xFFFFFFFF)

/-- One bit step of the unreflected CRC-64 register (ECMA-182). -/
def crc64Bit (c : BitVec 64) : BitVec 64 :=
  if c.getLsbD 63 then (c <<< 1) ^^^ 0x42F0E1EBA9EA3693 else c <<< 1

/-- One byte step of CRC-64. -/
def crc64Byte (c : BitVec 64) (b : Byte) : BitVec 64 :=
  crc64Bit (crc64Bit (crc64Bit (crc64Bit (crc64Bit (crc64Bit (crc64Bit (crc64Bit
    (c ^^^ (b.setWidth 64 <<< 56)))))))))

/-- CRC-64 of R117: initial value and final XOR all ones, no reflection. -/
def crc64 (l : List Byte) : BitVec 64 := ~~~(l.foldl crc64Byte 0xFFFFFFFFFFFFFFFF)

/-- One bit step of the unreflected CRC-16 register (polynomial 0x1021). -/
def crc16Bit (c : BitVec 16) : BitVec 16 :=
  if c.getLsbD 15 then (c <<< 1) ^^^ 0x1021 else c <<< 1

/-- One byte step of CRC-16. -/
def crc16Byte (c : BitVec 16) (b : Byte) : BitVec 16 :=
  crc16Bit (crc16Bit (crc16Bit (crc16Bit (crc16Bit (crc16Bit (crc16Bit (crc16Bit
    (c ^^^ (b.setWidth 16 <<< 8)))))))))

/-- CRC-16 of R83: initial value all ones, no reflection, no final XOR. -/
def crc16 (l : List Byte) : BitVec 16 := l.foldl crc16Byte 0xFFFF

end Sys2Proof.Machine
end

