-- ==== Sys2Proof/Machine/Arith.lean ====
section
/-! DEFINITION. Floating-point and integer arithmetic (R216, R315 to R319, R325 to R327): a value is decoded to an exact
number, computed exactly, and rounded once into its format. -/

namespace Sys2Proof.Machine

/-! ## Exact values -/

/-- A number as a format spells it: not a number, an infinity, or ± m × 2^e. -/
inductive FVal where
  | nan
  | inf (neg : Bool)
  | fin (neg : Bool) (m : Nat) (e : Int)
deriving DecidableEq, Repr

/-- A binary format: exponent and mantissa bits, bias, and whether the largest exponent holds infinities and NaNs. -/
structure Fmt where
  ebits : Nat
  mbits : Nat
  bias : Nat
  ieee : Bool
deriving DecidableEq, Repr

/-- FP32, FP16, BF16 (R315) and the MX element formats (R317). -/
def fmtFp32 : Fmt := ⟨8, 23, 127, true⟩
def fmtFp16 : Fmt := ⟨5, 10, 15, true⟩
def fmtBf16 : Fmt := ⟨8, 7, 127, true⟩
def fmtE5m2 : Fmt := ⟨5, 2, 15, true⟩
def fmtE4m3 : Fmt := ⟨4, 3, 7, false⟩
def fmtE3m2 : Fmt := ⟨3, 2, 3, false⟩
def fmtE2m3 : Fmt := ⟨2, 3, 1, false⟩
def fmtE2m1 : Fmt := ⟨2, 1, 1, false⟩

/-- The value that bits of a format spell, but for the NaN of E4M3. -/
def Fmt.decode (f : Fmt) (b : Nat) : FVal :=
  let m := b % 2 ^ f.mbits
  let e := b / 2 ^ f.mbits % 2 ^ f.ebits
  let neg := b.testBit (f.ebits + f.mbits)
  if f.ieee && decide (e = 2 ^ f.ebits - 1) then (if m = 0 then .inf neg else .nan)
  else if e = 0 then .fin neg m (1 - (f.bias : Int) - f.mbits)
  else .fin neg (m + 2 ^ f.mbits) ((e : Int) - f.bias - f.mbits)

/-- Rounding modes (R324), with the random bits of stochastic rounding. -/
inductive Rounding where
  | sr (r : Nat)
  | rne
  | rtz
deriving DecidableEq, Repr

/-- `m / 2^d` rounded to an integer. -/
def roundShift (mode : Rounding) (m d : Nat) : Nat :=
  let q := m / 2 ^ d
  let rem := m % 2 ^ d
  match mode with
  | .rtz => q
  | .rne => if 2 ^ d < 2 * rem || (decide (2 * rem = 2 ^ d) && decide (q % 2 = 1)) then q + 1 else q
  | .sr r => if 65536 ≤ rem * 65536 / 2 ^ d + r then q + 1 else q

/-- The exponent of the unit in the last place of m × 2^e in a format. -/
def Fmt.ulp (f : Fmt) (m : Nat) (e : Int) : Int :=
  max ((m.log2 : Int) + e - f.mbits) (1 - (f.bias : Int) - f.mbits)

/-- Magnitude m × 2^e in units of the last place of a format, with that unit's exponent. -/
def Fmt.quantum (f : Fmt) (mode : Rounding) (m : Nat) (e : Int) : Nat × Int :=
  let q := f.ulp m e
  if q ≤ e then (m * 2 ^ (e - q).toNat, q) else (roundShift mode m (q - e).toNat, q)

/-- The bits (without sign) of n × 2^q, where n has at most mbits + 1 bits or is the power of two above them. -/
def Fmt.pack (f : Fmt) (n : Nat) (q : Int) : Nat :=
  if n < 2 ^ f.mbits then n
  else (q + f.mbits + f.bias).toNat * 2 ^ f.mbits + (n - 2 ^ f.mbits)

/-- The bits of the largest finite magnitude of an IEEE format. -/
def Fmt.maxFinite (f : Fmt) : Nat := (2 ^ f.ebits - 1) * 2 ^ f.mbits - 1

/-- The bits of a magnitude rounded into an IEEE format: an overflow is an infinity, or the largest finite value
towards zero (R325). -/
def Fmt.roundMag (f : Fmt) (mode : Rounding) (m : Nat) (e : Int) : Nat :=
  if m = 0 then 0
  else
    let r := f.quantum mode m e
    let b := f.pack r.1 r.2
    if f.maxFinite < b then (match mode with
      | .rtz => f.maxFinite
      | _ => (2 ^ f.ebits - 1) * 2 ^ f.mbits)
    else b

/-- The bits of a value in an IEEE format; every NaN is the default quiet NaN. -/
def Fmt.encode (f : Fmt) (mode : Rounding) (v : FVal) : Nat :=
  let s := fun (neg : Bool) => b2n neg * 2 ^ (f.ebits + f.mbits)
  match v with
  | .nan => (2 ^ f.ebits - 1) * 2 ^ f.mbits + 2 ^ (f.mbits - 1)
  | .inf neg => s neg + (2 ^ f.ebits - 1) * 2 ^ f.mbits
  | .fin neg m e => s neg + f.roundMag mode m e

/-! ## Arithmetic on exact values -/

/-- Signed integer of ± m. -/
def signedOf (neg : Bool) (m : Nat) : Int := if neg then -(m : Int) else m

/-- Sum of two values; an exact zero is negative only when both are (round to nearest). -/
def FVal.add : FVal → FVal → FVal
  | .nan, _ => .nan
  | _, .nan => .nan
  | .inf a, .inf b => if a = b then .inf a else .nan
  | .inf a, _ => .inf a
  | _, .inf b => .inf b
  | .fin a m e, .fin b n f =>
    let g := min e f
    let x := signedOf a m * 2 ^ (e - g).toNat + signedOf b n * 2 ^ (f - g).toNat
    if x = 0 then .fin (a && b) 0 g else .fin (decide (x < 0)) x.natAbs g

/-- The value with its sign turned. -/
def FVal.neg : FVal → FVal
  | .nan => .nan
  | .inf a => .inf (!a)
  | .fin a m e => .fin (!a) m e

/-- Product of two values. -/
def FVal.mul : FVal → FVal → FVal
  | .nan, _ => .nan
  | _, .nan => .nan
  | .inf a, .inf b => .inf (a != b)
  | .inf a, .fin b n _ => if n = 0 then .nan else .inf (a != b)
  | .fin a m _, .inf b => if m = 0 then .nan else .inf (a != b)
  | .fin a m e, .fin b n f => .fin (a != b) (m * n) (e + f)

/-- Quotient of two values, exact but for one sticky bit far below any rounding point. -/
def FVal.div : FVal → FVal → FVal
  | .nan, _ => .nan
  | _, .nan => .nan
  | .inf _, .inf _ => .nan
  | .inf a, .fin b _ _ => .inf (a != b)
  | .fin a _ _, .inf b => .fin (a != b) 0 0
  | .fin a m e, .fin b n f =>
    if n = 0 then (if m = 0 then .nan else .inf (a != b))
    else
      let k := 64 + n.log2
      let q := m * 2 ^ k / n
      let st := b2n (decide (m * 2 ^ k % n ≠ 0))
      .fin (a != b) (2 * q + st) (e - f - k - 1)

/-- Integer square root by bits. -/
def isqrtBits : Nat → Nat → Nat → Nat
  | 0, _, r => r
  | k + 1, n, r => if (r + 2 ^ k) * (r + 2 ^ k) ≤ n then isqrtBits k n (r + 2 ^ k) else isqrtBits k n r

/-- Square root of a value, exact but for one sticky bit. -/
def FVal.sqrt : FVal → FVal
  | .nan => .nan
  | .inf a => if a then .nan else .inf false
  | .fin a m e =>
    if m = 0 then .fin a 0 e
    else if a then .nan
    else
      let odd := decide (e % 2 ≠ 0)
      let m1 := if odd then 2 * m else m
      let e1 := if odd then e - 1 else e
      let n := m1 * 2 ^ 128
      let r := isqrtBits ((n.log2) / 2 + 1) n 0
      .fin false (2 * r + b2n (decide (r * r ≠ n))) (e1 / 2 - 65)

/-- Order of two values that are no NaN; −0 lies below +0 (R216). -/
def FVal.lt : FVal → FVal → Bool
  | .inf a, .inf b => a && !b
  | .inf a, _ => a
  | _, .inf b => !b
  | .fin a m e, .fin b n f =>
    if m = 0 ∧ n = 0 then a && !b
    else
      let g := min e f
      decide (signedOf a m * 2 ^ (e - g).toNat < signedOf b n * 2 ^ (f - g).toNat)
  | _, _ => false

/-- minimumNumber of IEEE 754-2019 (R216). -/
def FVal.min (x y : FVal) : FVal :=
  match x, y with
  | .nan, v => v
  | v, .nan => v
  | a, b => if b.lt a then b else a

/-- maximumNumber of IEEE 754-2019 (R216). -/
def FVal.max (x y : FVal) : FVal :=
  match x, y with
  | .nan, v => v
  | v, .nan => v
  | a, b => if a.lt b then b else a

/-! ## FP32 words -/

/-- The value of an FP32 word. -/
def fp32 (w : BitVec 32) : FVal := fmtFp32.decode w.toNat

/-- A value rounded to FP32, to nearest even. -/
def toFp32 (v : FVal) : BitVec 32 := BitVec.ofNat 32 (fmtFp32.encode .rne v)

/-- FP32 sum, difference, product and quotient, rounded to nearest even (R319). -/
def fadd (x y : BitVec 32) : BitVec 32 := toFp32 ((fp32 x).add (fp32 y))
def fsub (x y : BitVec 32) : BitVec 32 := toFp32 ((fp32 x).add (fp32 y).neg)
def fmul (x y : BitVec 32) : BitVec 32 := toFp32 ((fp32 x).mul (fp32 y))
def fdiv (x y : BitVec 32) : BitVec 32 := toFp32 ((fp32 x).div (fp32 y))
def fsqrt (x : BitVec 32) : BitVec 32 := toFp32 (fp32 x).sqrt
def fmin (x y : BitVec 32) : BitVec 32 := toFp32 ((fp32 x).min (fp32 y))
def fmax (x y : BitVec 32) : BitVec 32 := toFp32 ((fp32 x).max (fp32 y))

/-- An FP32 word is NaN or infinite. -/
def nonFinite (x : BitVec 32) : Bool := match fp32 x with
  | .fin _ _ _ => false
  | _ => true

/-! ## Atomic and reduce-store arithmetic (R215, R216) -/

/-- Signed value of the low `w` bits. -/
def toSigned (w v : Nat) : Int := if v % 2 ^ w < 2 ^ (w - 1) then (v % 2 ^ w : Nat) else (v % 2 ^ w : Nat) - (2 ^ w : Nat)

/-- ATOMIC_INT on `w`-bit integers, but for CAS (R215): OP, the old value and the operand. -/
def atomicInt (op w old x : Nat) : Nat :=
  match op with
  | 0 => (old + x) % 2 ^ w
  | 1 => if toSigned w x < toSigned w old then x else old
  | 2 => if toSigned w old < toSigned w x then x else old
  | 3 => min old x
  | 4 => max old x
  | 5 => x
  | 6 => old &&& x
  | 7 => old ||| x
  | _ => old ^^^ x

/-- ADD, MIN or MAX in a floating format, rounded to nearest even. -/
def floatOp (f : Fmt) (op old x : Nat) : Nat :=
  let a := f.decode old
  let b := f.decode x
  f.encode .rne (match op with
    | 0 => a.add b
    | 1 => a.min b
    | _ => a.max b)

/-- The element bytes of a reduce-store TYPE (R215): 0 FP32, 1 BF16, 2 FP16, 3 INT32, 4 INT64. -/
def reduceBytes (type : Nat) : Nat := if type = 0 ∨ type = 3 then 4 else if type = 4 then 8 else 2

/-- One element of a reduce-store: OP 0 SUM, 1 MIN, 2 MAX, 3 AND, 4 OR, 5 XOR (R215, R216). -/
def reduceElem (op type old x : Nat) : Nat :=
  if type ≤ 2 then floatOp (if type = 0 then fmtFp32 else if type = 1 then fmtBf16 else fmtFp16) op old x
  else atomicInt (([0, 1, 2, 6, 7, 8] : List Nat).getD op 8) (8 * reduceBytes type) old x

/-- Reduces bytes into bytes, element by element. -/
def reduceBytesInto (op type : Nat) : Nat → List Byte → List Byte → List Byte
  | 0, old, _ => old
  | fuel + 1, old, x =>
    let n := reduceBytes type
    if old.length < n then old
    else leBytes n (reduceElem op type (leNat (old.take n)) (leNat (x.take n)))
      ++ reduceBytesInto op type fuel (old.drop n) (x.drop n)

/-! ## Narrowing to BF16 and the MX formats (R318, R325 to R327) -/

/-- splitmix64's finaliser (R327). -/
def mix64 (z0 : BitVec 64) : BitVec 64 :=
  let z1 := z0 + 0x9E3779B97F4A7C15#64
  let z2 := (z1 ^^^ (z1 >>> 30)) * 0xBF58476D1CE4E5B9#64
  let z3 := (z2 ^^^ (z2 >>> 27)) * 0x94D049BB133111EB#64
  z3 ^^^ (z3 >>> 31)

/-- The 16 bits of stochastic rounding (R327). -/
def srBits (seed step chunk elem use : Nat) : Nat :=
  let h := mix64 ((BitVec.ofNat 64 seed <<< 32) ^^^ (BitVec.ofNat 64 step <<< 8) ^^^ BitVec.ofNat 64 use)
  (mix64 (h ^^^ (BitVec.ofNat 64 chunk <<< 24) ^^^ BitVec.ofNat 64 elem) >>> 48).toNat

/-- Conversion of an FP32 word to BF16 (R325). -/
def toBf16 (mode : Rounding) (x : BitVec 32) : Nat := fmtBf16.encode mode (fp32 x)

/-- The element formats of the floating fragment codes (R281, R317): element bits, and the format; code 8 is MXINT8. -/
def mxFmt (code : Nat) : Fmt :=
  match code with
  | 3 => fmtE4m3
  | 4 => fmtE5m2
  | 5 => fmtE3m2
  | 6 => fmtE2m3
  | _ => fmtE2m1

/-- Element bits of an MX code: 8, 6 or 4. -/
def mxBits (code : Nat) : Nat := if code = 5 ∨ code = 6 then 6 else if code = 7 then 4 else 8

/-- EMAX of an MX code (R317). -/
def mxEmax (code : Nat) : Int :=
  match code with
  | 3 => 8
  | 4 => 15
  | 5 => 4
  | 6 => 2
  | 7 => 2
  | _ => 0

/-- The bits of the largest normal magnitude of an MX code (R317): 448, 57,344, 28, 7.5, 6, and 127 for MXINT8. -/
def mxLargest (code : Nat) : Nat :=
  match code with
  | 3 => 0x7E
  | 4 => 0x7B
  | 5 => 0x1F
  | 6 => 0x1F
  | 7 => 0x7
  | _ => 127

/-- The bits of one MX element with value ± m × 2^e (R326): rounded, saturating at the largest normal, sign kept. -/
def mxEncode (code : Nat) (mode : Rounding) (neg : Bool) (m : Nat) (e : Int) : Nat :=
  if code = 8 then
    let k := if m = 0 then 0 else if 0 ≤ e + 6 then m * 2 ^ (e + 6).toNat else roundShift mode m (-(e + 6)).toNat
    let k := min k 127
    if neg && decide (k ≠ 0) then 256 - k else k
  else
    let f := mxFmt code
    let b := if m = 0 then 0 else
      let r := f.quantum mode m e
      min (f.pack r.1 r.2) (mxLargest code)
    b2n neg * 2 ^ (f.ebits + f.mbits) + b

/-- The value of one MX element (R317). -/
def mxElem (code b : Nat) : FVal :=
  if code = 8 then .fin (b.testBit 7) (if b.testBit 7 then 256 - b else b) (-6)
  else if code = 3 && decide (b % 128 = 0x7F) then .nan
  else (mxFmt code).decode b

/-- One decoded element (R318): element × 2^(scale − 127), NaN where the scale is 0xFF. -/
def mxDecode (code scale b : Nat) : BitVec 32 :=
  if scale = 255 then toFp32 .nan
  else toFp32 (match mxElem code b with
    | .fin neg m e => .fin neg m (e + scale - 127)
    | v => v)

/-- Scale byte and element codes of one block of FP32 words (R326); `mode i` rounds element i of the block. -/
def mxBlock (code : Nat) (mode : Nat → Rounding) (xs : List (BitVec 32)) : Nat × List Nat :=
  if xs.any nonFinite then (255, xs.map fun _ => 0)
  else
    let mag := fun (x : BitVec 32) => match fp32 x with
      | .fin _ m e => if m = 0 then none else some ((m.log2 : Int) + e)
      | _ => none
    match (xs.filterMap mag) with
    | [] => (0, xs.map fun _ => 0)
    | a :: l =>
      let top := l.foldl max a
      let x := max (-127) (min 127 (top - mxEmax code))
      ((x + 127).toNat, (List.range xs.length).map fun i => match fp32 (xs.getD i 0) with
        | .fin neg m e => mxEncode code (mode i) neg m (e - x)
        | _ => 0)

end Sys2Proof.Machine
end

