-- ==== Sys2Proof/Config.lean ====
section
/-! DEFINITION. What an integrator or an implementation fixes, and the free values the spec leaves open: constants with no
body, so that nothing can be proved of their value. -/

namespace Sys2Proof.Config

/-- The INIT_PRESET[2:0] strap inputs of the endpoint block (R351), tied by the integrator. -/
opaque initPreset : BitVec 3

/-- The attach router of each lane group, fixed in silicon (R144). -/
opaque attachRouter : Nat → Nat

/-- The n-th draw of the Rattle generator from a seed (R545: the spec names no generator). -/
opaque rattleDraw : Nat → Nat → Nat

/-- The RS(544,514) codeword of a message of 514 symbols (R112: IEEE 802.3 Clause 91 gives the code, its generator polynomial and the
place of the parity; the spec names it and does not lay it out). -/
opaque fecCodeword : List (BitVec 10) → List (BitVec 10)

/-- A byte whose value the spec leaves open, named by the model's own counter of free values and an index. -/
opaque freeByte : Nat → Nat → Byte

/-- AES-256-GCM encryption (R499: a standard that the spec names and does not define): key, nonce, additional data and
plaintext to ciphertext and tag. -/
opaque gcmSeal : List Byte → Nat → List Byte → List Byte → List Byte × List Byte

/-- AES-256-GCM decryption: none where the tag fails. -/
opaque gcmOpen : List Byte → Nat → List Byte → List Byte → List Byte → Option (List Byte)

/-- SHAKE256 (R500), to a number of output bytes. -/
opaque shake256 : Nat → List Byte → List Byte

/-- What XTS decryption (R503) under one key gives of a line written under another: the two keys' names, the line, and its
bytes. The spec calls the result meaningless. -/
opaque wrongKeyLine : Nat → Nat → Nat → List Byte → List Byte

/-- BETA^t computed in FP64 and rounded to FP32 (R335: the spec names no method): the FP32 words of BETA and t to an FP32 word. -/
opaque betaPower : Nat → Nat → Nat

/-- The order in which a contraction array adds the products of an inner product of that many (R23, R329, R406: the spec states
none). -/
opaque macOrder : Nat → List Nat

/-- The unwrapping of KEY_LOAD material under a session's secret (R496, R497: the spec names no method): none where it fails. -/
opaque unwrapKey : List Byte → List Byte → Option (List Byte)

/-- The DeviceID secret that manufacture leaves in a unit's fuses (R487, R488), by side: true the endpoint block. -/
opaque deviceSecret : Bool → List Byte

/-- A unit's certificate chain (R487), by side. -/
opaque certificates : Bool → List Byte

/-- The alias certificate that the DeviceID key signs (R487): DeviceID secret and alias secret. -/
opaque aliasCertificate : List Byte → List Byte → List Byte

/-- Ed448 signing (R493, R527): secret and message. -/
opaque ed448Sign : List Byte → List Byte → List Byte

/-- The bytes that an SPDM signature covers (R493: SPDM 1.3 lays them down): request, its nonce and what the response holds. -/
opaque spdmSigned : Nat → List Byte → List Byte → List Byte

/-- The responder's own X448 key share of its n-th session, and the session secret from it and the requester's share (R493). -/
opaque keyShare : Bool → Nat → List Byte
opaque sessionSecret : List Byte → List Byte → List Byte

/-- The verify data that FINISH has to carry under a session secret (R493). -/
opaque finishData : List Byte → List Byte

/-- A measurement that the spec gives no byte form of (R488, R491): its index and its parts. Index 1 is fixed at manufacture. -/
opaque measured : Bool → Nat → List (List Byte) → List Byte

/-- The roles that an endpoint block gives the key of a requester (R513): the spec names no credential slots of its own. -/
opaque endpointRoles : List Byte → Nat

/-- The rack managers' keys as an endpoint block knows them (R527). -/
opaque managerKey : Nat → List Byte

/-- ARG1 of a RESET event (R548: "Trigger", with no codes), by trigger of R540: 0 input in range, 1 PCIe fundamental reset, 2 GLB.RESET,
3 fatal internal fault, 4 Function Level Reset, 5 watchdog. -/
opaque resetTrigger : Nat → Nat

/-- The witness's alias key as the deciding unit knows it (R527), by the unit voted on. -/
opaque witnessKey : Eid → List Byte

/-- The message by which a leaf relays an expulsion or a readmission to its endpoint blocks (R530), by kind (true expulsion) and EID. -/
opaque noticeBytes : Bool → Eid → List Byte

/-- Ed448 verification (R423, R430, R490: a standard that the spec names and does not define): public key, message, signature. -/
opaque ed448Verify : List Byte → List Byte → List Byte → Bool

/-- How words 2 to 7 of PUP.PROG show a grant (R427: the spec gives the words no layout): grant and word. -/
opaque grantWord : Grant → Nat → Word

/-- The CODE of an event that a rule asks for and R548 does not list: 0 the deferred retirement of R443, 1 the full field record of
R450. -/
opaque unlistedEvent : Nat → Nat

/-- PRT.STATUS.REASON of a port that R448 or R540 takes down: R142 lists no cause for it. -/
opaque resourceReason : Nat

/-- The filter of the offset from a time source (R458: the spec names none): its last output and a new offset, in 2^-16 ns. -/
opaque offsetFilter : Int → Int → Int

/-- The rate of slewing (R459: at most 100 ppm): the correction in a ns is this modulo 7, in 2^-16 ns. -/
opaque slewRate : Nat

/-- ARG0 and ARG1 of the INTERNAL_FATAL event for the loss of both NoC planes (R548: "Structure" and "Detail", with no codes). -/
opaque nocStructure : Nat × Nat

/-- ARG0 of a POWER_WARN event (R548: "Condition"), by the row of R473: 0 WARN_PIN, 1 UV_WARN, 2 UV_LOSS, 3 OV_WARN. -/
opaque warnCondition : Nat → Nat

/-- The 32-byte header of a telemetry record (R483 names its fields and not their places): fabric time, stream SEQ, group, index of the
first value, count of values. -/
opaque recordHeader : Nat → Nat → Nat → Nat → Nat → List Byte

/-- The congestion levels of a telemetry record (R483: 2 bits per port and pool, in an order that the spec does not state), as words:
the levels by port and pool. -/
opaque congestionWords : List Nat → List (BitVec 64)

/-- GLB.BRINGUP_STATUS.STATUS after step 1 has failed, where neither boot image verifies (R436: the spec names none). -/
opaque bootStatus : Status

/-- The unit of R328 for a partial's zero element, or for an MX block of zeros, in 2^-200, by format: R328 takes the logarithm of zero. -/
opaque shadowZeroUnit : Nat → Nat

/-- Whether two FP32 elements pass a comparison of R538 that meets a NaN or an infinity: the spec states only real arithmetic. -/
opaque shadowSpecial : Nat → Nat → Bool

/-- SPEED, WIDTH and FLIT of PCI.STATUS (R570) once the link is up: what the host and the module negotiate. -/
opaque pcieLink : Word

/-- What a write of a register needs of the module's firmware or of its surroundings and does not carry, named by the model's own counter
of free values: the grant that the load procedure gives a puppet program (R422), the modelled power of the module by shed level in W
(R470), and what a retired tile held (R444). A command of its own carries each as an operand. -/
opaque loadGrant : Nat → Grant
opaque shedPower : Nat → List Nat
opaque retiredItems : Nat → TileItems

end Sys2Proof.Config
end

