-- ==== Sys2Proof/Machine/SMap.lean ====
section
/-! DEFINITION. Sparse data by a numeric key: a list of (key, value) pairs whose keys rise strictly. Registers, memories,
lanes, ports and tables of the state are held so. -/

namespace Sys2Proof.Machine

/-- A sparse table: (key, value) pairs, keys strictly rising. -/
abbrev SMap (α : Type) := List (Nat × α)

variable {α : Type}

/-- The value listed at a key. -/
def smapGet? : SMap α → Nat → Option α
  | [], _ => none
  | (k, v) :: m, i => if i = k then some v else smapGet? m i

/-- The value at a key, or the default where the key is not listed. -/
def smapGet (m : SMap α) (d : α) (i : Nat) : α := (smapGet? m i).getD d

/-- The table with a value at a key. -/
def smapSet : SMap α → Nat → α → SMap α
  | [], i, x => [(i, x)]
  | (k, v) :: m, i, x =>
    if i = k then (k, x) :: m else if i < k then (i, x) :: (k, v) :: m else (k, v) :: smapSet m i x

/-- The table without a key. -/
def smapErase (m : SMap α) (i : Nat) : SMap α := m.filter fun x => decide (x.1 ≠ i)

/-- The table with a value at a key, not listed where it equals the default (the canonical form). -/
def smapPut [DecidableEq α] (m : SMap α) (d : α) (i : Nat) (x : α) : SMap α :=
  if x = d then smapErase m i else smapSet m i x

/-- The table's keys rise strictly from a bound on. -/
def smapSortedFrom : Nat → SMap α → Bool
  | _, [] => true
  | lo, (k, _) :: m => decide (lo ≤ k) && smapSortedFrom (k + 1) m

/-- The table's keys rise strictly. -/
def smapSorted (m : SMap α) : Bool := smapSortedFrom 0 m

/-- The first number from `i` on, among `fuel` of them, that passes a test. -/
def findFrom (p : Nat → Bool) : Nat → Nat → Option Nat
  | 0, _ => none
  | fuel + 1, i => if p i then some i else findFrom p fuel (i + 1)

/-- The first number below `n` that passes a test. -/
def findBelow (n : Nat) (p : Nat → Bool) : Option Nat := findFrom p n 0

end Sys2Proof.Machine
end

