-- ==== Sys2Proof/Machine/StateTypes.lean ====
section
/-! DEFINITION. The parts the state is made of, chapter by chapter; Machine/State.lean puts them together. -/

namespace Sys2Proof.Machine

/-! ## Lanes (03) -/

/-- An entry of a lane's preset cache (R95), keyed by the far end's EID and lane number. -/
structure CacheEntry where
  eid : Eid
  lane : Nat
  taps : BitVec 30
  eqState : Nat
  precode : Bool
deriving DecidableEq, Repr

/-- What a lane holds beside its registers (R83 to R105). -/
structure LaneState where
  /-- Consecutive good control blocks seen in LOCK (R88), 0 to 3. -/
  goodBlocks : Nat := 0
  /-- Fields of the last good control block of this training: TSTATE, RX_DONE, ASSIGN and VERSION. -/
  farTstate : BitVec 32 := 0
  farRxDone : Bool := false
  farAssign : Eid := 0xFFFFF
  farVersion : BitVec 64 := 0
  /-- This receiver has finished adapting (R85), and the name of the equaliser state it settled on. -/
  rxDone : Bool := false
  eqState : Nat := 0
  /-- Offset from the centre of the port's lanes, in ps (R101). -/
  spanPs : Int := 0
  /-- The full training ignores the cache (R95, R109). -/
  ignoreCache : Bool := false
  /-- The training began as the fast path from held receiver state (R95). -/
  fast : Bool := false
  /-- The preset cache, most recently used first (R95). -/
  cache : List CacheEntry := []
  /-- The far transmitter's tap codes as this end's requests have set them, with the precoding it confirmed (R95). -/
  farTaps : BitVec 30 := 0
  /-- This end's outstanding tap request: its request word and tap codes (R87). -/
  myRequest : Option (BitVec 16 × BitVec 32) := none
  myRequestSeq : BitVec 4 := 0
  /-- The far end's request that this transmitter has not answered yet, and the response word it sends (R86, R87). -/
  farRequest : Option (BitVec 16 × BitVec 32) := none
  response : BitVec 16 := 0
  answered : Option (BitVec 4) := none
  /-- LANE_CTL of continuous adaptation (R102): the request outstanding, its sequence number, those abandoned. -/
  laneCtl : Option (BitVec 16) := none
  laneCtlAt : Option Nat := none
  laneCtlAbandoned : Nat := 0
  /-- Consecutive markers that failed SYNC or COUNT, and the next COUNT expected (R101). -/
  badMarkers : Nat := 0
  nextMarker : Option (BitVec 16) := none
  /-- The error ratio (errors, bits) at the last NO_SPARE event (R98). -/
  noSpareRatio : Option (Nat × Nat) := none
  /-- The module adapts although ADAPT_FREEZE is set (R103). -/
  freezeOverridden : Bool := false
  /-- Since when the marker-parity error ratio has stayed below 5.0 × 10^-5 (R103). -/
  quietSince : Option Nat := none
  /-- The state the power loop holds the lane in: 1 SLEEP, 2 OFF (R105). -/
  powerHold : Nat := 0
  /-- The state the lane enters once its port has released it: 1 SLEEP, 2 OFF (R135). -/
  releaseTo : Nat := 0
deriving DecidableEq, Repr

/-! ## Ports (04) -/

/-- A retry buffer entry (R123): a sequenced flit's TYPE, SEQ and slot bytes. -/
structure RetryEntry where
  type : BitVec 8
  seq : BitVec 12
  slots : List Byte
deriving DecidableEq, Repr

/-- A packet in an egress queue (R163): the order in which it was queued, whether it holds shared-region space, and, on a
bypass ring's port, whether it is in transit or enters the ring (R175). -/
structure EgressEntry where
  pkt : Packet
  order : Nat
  shared : Bool
  transit : Bool := false
  entering : Bool := false
deriving DecidableEq, Repr

/-- What a logical port holds beside its registers (R115 to R139). Lists by credit pool have eleven entries (R125). -/
structure PortState where
  /-- Configured width fixed when the port formed (R129, R352). -/
  width : Nat := 0
  txSeq : BitVec 12 := 0
  /-- SEQ of the last sequenced flit accepted; 0xFFF before the first (R119). -/
  rxAck : BitVec 12 := 0xFFF
  /-- Flits are discarded until a RESYNC arrives (R120). -/
  discarding : Bool := false
  retry : List RetryEntry := []
  /-- Replays of the oldest unacknowledged SEQ (R122), and failed flits per lane since it was first sent. -/
  replays : Nat := 0
  failed : SMap Nat := []
  /-- Credits held per pool, the far end's grants and its last accepted totals (R125, R126). -/
  credits : List Nat := []
  farGrant : List Nat := []
  lastTotal : List Nat := []
  /-- This end's grants, the slots it has freed per pool and what it last reported (R126, R127). -/
  grant : List Nat := []
  freed : List Nat := []
  reported : List Nat := []
  /-- Slots per pool that the far end's packets hold in this end's ingress partition (R139). -/
  inUse : List Nat := []
  /-- Replayed flits still to come that were accepted before the resync (R120, R121). -/
  skip : Nat := 0
  /-- CREDIT_INIT received from the far end; SEQ 0 acknowledged by it (R132). -/
  initReceived : Bool := false
  initAcked : Bool := false
  /-- Lanes offered by LANE_ADD from this end and from the far end; lanes this end asks to release (R134, R135). -/
  addMine : BitVec 8 := 0
  addFar : BitVec 8 := 0
  releasing : BitVec 8 := 0
  /-- This end sends its own RESYNC group when the far end's arrives (R133). -/
  resyncDue : Bool := false
  /-- The active lane, counted from the lowest, that carries the next flit (R131). -/
  nextLane : Nat := 0
  /-- The far end's offered features (R143). -/
  farOffer : BitVec 64 := 0
  /-- Slot bytes received of a packet still in progress, and packets received whole that await ingress (R118). -/
  rxStream : List Byte := []
  arrived : List Packet := []
  /-- Egress queue per pool, oldest first (R163). -/
  egress : SMap (List EgressEntry) := []
  /-- Egress reservation per pool, in slots, fixed when the port formed (R161, R162). -/
  egressRes : List Nat := []
  /-- Residue queue: the multicast store entries this port still has to copy, with their order (R165, R166). -/
  residue : List (Nat × Nat) := []
deriving DecidableEq, Repr

/-! ## Switching core (05) -/

/-- A packet that waits for room at its egress ports (R163, R165, R166): in the ingress partition of its arrival port, or,
with port 1,024, a packet of the module's own. `held`: it takes slots of that partition. -/
structure WaitEntry where
  port : Nat
  pkt : Packet
  targets : List Nat
  multicast : Bool
  held : Bool
  transit : Bool := false
  entering : Bool := false
deriving DecidableEq, Repr

/-- An entry of the multicast store (R165): the packet, the ports whose copies have not left and the lane group whose shared
region holds it. -/
structure StoreEntry where
  id : Nat
  pkt : Packet
  left : List Nat
  group : Nat
deriving DecidableEq, Repr

/-- One stream of a resequencer (R168): its key, the XSEQ it expects once learned, and the packets held. -/
structure ReseqStream where
  src : Eid
  dst : Eid
  stream : BitVec 4
  epoch : BitVec 4
  expected : Option (BitVec 24) := none
  held : List Packet := []
deriving DecidableEq, Repr

/-- A packet that a Rattle REORDER rule holds at a port (R545). -/
structure HeldPacket where
  rule : Nat
  port : Nat
  arrival : Nat
  pkt : Packet
deriving DecidableEq, Repr

/-- The switching core of the module. Resequencers are keyed by downlink port number; 1,024 is the one of local delivery. -/
structure SwitchState where
  /-- BUFFER tiles in service of each lane group (R144), as bring-up and capacity events leave them. -/
  bufTiles : SMap Nat := []
  waiting : List WaitEntry := []
  store : List StoreEntry := []
  nextStore : Nat := 0
  nextOrder : Nat := 0
  /-- Rotating pointer of each port group (R155). -/
  rotate : SMap Nat := []
  /-- Streams of each resequencer, most recently used first (R168, R170). -/
  reseq : SMap (List ReseqStream) := []
  /-- Packets on their way from route lookup to a resequencer (R145 stage 6), with its key and their arrival port. -/
  toReseq : List (Nat × Nat × Packet) := []
  /-- Packets held by Rattle (R545). -/
  reordered : List HeldPacket := []
  /-- NoC planes that training or a router fault has taken out of service (R151, R436 step 6). -/
  nocFault : List Nat := []
deriving DecidableEq, Repr

/-! ## Host interface (17) -/

/-- A host access to BAR2 in progress (R559): window, direction, BAR2 offset, GFA, the data read so far, and the pieces not yet
complete. A read that waits for one of the 256 places has not started. -/
structure AptTlp where
  id : Nat
  window : Nat
  write : Bool
  offset : Nat
  gfa : Nat
  len : Nat
  data : List Byte := []
  left : Nat := 0
  started : Bool := false
deriving DecidableEq, Repr

/-- The function's configuration and message state (R552 to R566); ATS, PASID and PRI enables lie in ATS.STATUS. -/
structure PciState where
  memEnable : Bool := false
  busMaster : Bool := false
  functionMask : Bool := false
  /-- Vectors whose per-vector Mask is 0; every vector is masked at reset, as PCIe lays down. -/
  unmasked : List Nat := []
  /-- Vectors whose PBA bit is set. -/
  pba : List Nat := []
  /-- When each source last sent a message, and the sources whose message is deferred (R566). -/
  lastMessage : SMap Nat := []
  deferred : List Nat := []
  /-- The Completion Timeout value the host has set (R552). -/
  completionTimeout : Nat := 0
  /-- Accesses to BAR2 in progress (R559), and the next one's number. -/
  apt : List AptTlp := []
  nextApt : Nat := 0
  /-- The host asks for D3hot while aperture reads are outstanding (R568). -/
  d3Due : Bool := false
deriving DecidableEq, Repr

/-- The fault injector (R545): draws made, injections made since a rule was written, and when each rule's last event was
recorded. -/
structure RattleState where
  draws : Nat := 0
  spent : SMap Nat := []
  eventAt : SMap Nat := []
  /-- Ports that a FLAP injection holds down, with the lanes that retrain afterwards. -/
  flaps : SMap (List Nat) := []
deriving DecidableEq, Repr

/-! ## Key slots (15) -/

/-- A key slot's material and, at the endpoint block, its status (R494, R496); the module's status lies in SEC.SLOT. State
and class codes are those of SEC.SLOT: 0 EMPTY, 1 ACTIVE, 2 RETIRING, 3 SCRUBBING; 0 ORD, 1 W, 2 IO. -/
structure KeySlot where
  state : Nat := 0
  cls : Nat := 0
  epoch : Nat := 0
  epochOpen : Bool := true
  engineOk : Bool := false
  progOk : Bool := false
  loadPrGen : Nat := 0
  link : List Byte := []
  /-- The LINK key before the last rekey, for 10 ms (R496); empty when not valid. -/
  prev : List Byte := []
  xts : List Byte := []
  owner : List Byte := []
deriving DecidableEq, Repr

/-! ## Transport (06) -/

/-- A packet that has been transmitted and is not complete (R182, R188, R189). -/
structure Sent where
  xseq : BitVec 24
  tag : Nat
  /-- Plane of the transport entry, and of the latest transmission. -/
  entryPlane : Bool
  plane : Bool
  firstAt : Nat
  lastAt : Nat
  /-- Retransmissions that carried a number. -/
  tries : Nat := 0
  /-- B and N in force at the first transmission (R211), and T_L in µs (R228, R241). -/
  base : Nat
  retries : Nat
  loadTimeout : Nat := 0
  acked : Bool := false
  /-- The destination last refused it with CHECK_FAIL (R192). -/
  checkFail : Bool := false
  /-- A RETRY_LATER NACK's 2 µs are running (R192). -/
  retryLater : Bool := false
  /-- It is sent again once this XSEQ is acknowledged (R194). -/
  afterAck : Option (BitVec 24) := none
  /-- Responses of multicast members (R225). -/
  answers : List (Eid × Status) := []
deriving DecidableEq, Repr

/-- What an operation of a source serves. -/
inductive OpUse where
  /-- An operation of the core port: context, ATAG, and the bytes asked for within the packet's range (R237). -/
  | xq (ctx atag skip len : Nat)
  /-- A packet of a DMA descriptor: queue and serial number (R381). -/
  | dma (queue serial : Nat)
  /-- A segment of a Domino SEND (R377). -/
  | domino (id : Nat)
  /-- A mirror store of a coherent range (R374). -/
  | mirror (range : Nat)
  /-- A piece of the tile that an engine queue moves (R404). -/
  | engine (queue piece : Nat)
  /-- An access of a puppet thread (R419): core and thread. -/
  | puppet (core thread : Nat)
  /-- A packet of a telemetry stream (R483). -/
  | telemetry (stream : Nat)
  /-- A piece of a host access to BAR2 (R559). -/
  | aperture (id piece : Nat)
  /-- Nothing waits for it. -/
  | none
deriving DecidableEq, Repr

/-- An operation of a source: waiting at its issue point, or sent and incomplete. Operations are held in issue order. -/
structure SrcOp where
  id : Nat
  /-- Issue context (R200). -/
  ctx : Option Nat
  use : OpUse
  pkt : Packet
  /-- Its data is at hand. -/
  ready : Bool := true
  sent : Option Sent := none
deriving DecidableEq, Repr

/-- An XPT_RESTART that is not acknowledged (R195). -/
structure Restart where
  xseq : BitVec 24
  lastAt : Nat
  tries : Nat := 0
  base : Nat
  retries : Nat
deriving DecidableEq, Repr

/-- What a source keeps of a sequence space (R183): the next XSEQ as its extended count (R500), the epoch, a restart under
way, whether the next operation must restart it first, and a planned barrier that waits (R198). -/
structure SrcSpace where
  next : Nat := 0
  epoch : BitVec 4 := 0
  restart : Option Restart := none
  broken : Bool := false
  planned : Bool := false
deriving DecidableEq, Repr

/-- What a destination keeps of a sequence space (R183, R187, R194, R587): E as its extended count, XSEQs delivered above
it, deliveries since the last acknowledgement, and the packets held in the reorder store with their arrival port. -/
structure DstSpace where
  expected : Nat := 0
  above : List (BitVec 24) := []
  sinceAck : Nat := 0
  epoch : BitVec 4 := 0
  plane : Bool := false
  held : List (Nat × Packet) := []
deriving DecidableEq, Repr

/-- An accepted packet that is not delivered yet: its arrival port, and whether its application has begun (R185). -/
structure Work where
  port : Nat
  pkt : Packet
  started : Bool := false
deriving DecidableEq, Repr

/-- Four transmissions in a row without acknowledgement make a plane suspect (R196). -/
structure Suspect where
  missed : Nat := 0
  since : Option Nat := none
deriving DecidableEq, Repr

/-- An entry of the replay cache (R231, R232). -/
structure ReplayEntry where
  src : Eid
  stream : BitVec 4
  xseq : BitVec 24
  keyIndex : BitVec 13
  keyEpoch : BitVec 4
  /-- None while the atomic is still being applied. -/
  status : Option Status := none
  old : List Byte := []
  cas : Bool := false
  writtenAt : Nat
deriving DecidableEq, Repr

/-- A fence that waits (R204), with the statuses of the operations it waited for. -/
structure Fence where
  id : Nat
  ctx : Nat
  use : OpUse
  statuses : List Status := []
deriving DecidableEq, Repr

/-- An operation that has completed and whose user is still to be told: status, further statuses (R14), outcome (R230),
data and the flags of an atomic (R217). -/
structure Finished where
  op : SrcOp
  status : Status
  also : List Status := []
  outcome : Nat
  data : List Byte := []
  cas : Bool := false
  replayed : Bool := false
  /-- LOAD_DATA carried CACHEABLE (R237). -/
  cacheable : Bool := false
deriving DecidableEq, Repr

/-- The transport and the memory operations of a unit. -/
structure Transport where
  nextOp : Nat := 0
  ops : List SrcOp := []
  fences : List Fence := []
  finished : List Finished := []
  /-- Source spaces, keyed by destination × 16 + stream; destination spaces, keyed by (source × 2^20 + destination) × 16 +
  stream. -/
  src : SMap SrcSpace := []
  dst : SMap DstSpace := []
  work : List Work := []
  /-- Suspect marks, keyed by destination × 2 + plane. -/
  suspect : SMap Suspect := []
  /-- When a sequenced packet of a source last arrived (R212). -/
  lastSeen : SMap Nat := []
  /-- Refused DMA writes: key of the space and XSEQ, with the status (R226). -/
  refused : List ((Nat × BitVec 24) × Status) := []
  /-- DMA writes completed by an acknowledgement: destination, stream, XSEQ and use (R226). -/
  acked : List (Eid × BitVec 4 × BitVec 24 × OpUse) := []
  replay : List ReplayEntry := []
deriving DecidableEq, Repr

/-! ## The endpoint block's core port (11) -/

/-- What a completion of a memory transaction of the core port continues. -/
inductive MemCont where
  /-- An incoming load, acquire load or DMA read; `again`: a duplicate, read again (R190). -/
  | load (port : Nat) (pkt : Packet) (cacheable again : Bool)
  /-- An incoming store or DMA write. -/
  | store (port : Nat) (pkt : Packet)
  /-- READ_LOCK of a line of the atomic unit or reduce ALU, and the write-back that releases it. -/
  | lock (line : Nat)
  | unlock (line : Nat)
  /-- A release without data that nothing waits for. -/
  | drop
  /-- DMA: data of a packet to send, data of a packet that has arrived, and a completion record. -/
  | dmaOut (op : Nat)
  | dmaIn (queue serial bytes : Nat)
  | record (queue : Nat)
  /-- A descriptor fetch of a DMA queue; 32 is the collective queue. -/
  | fetch (queue : Nat)
  /-- Domino: a segment to apply, the data of a SEND, the source of a LOCAL_REDUCE, a WRITE_WORD. -/
  | domSeg (port : Nat) (pkt : Packet)
  | domSend (id : Nat)
  | domReduce (id : Nat)
  | domWord (id : Nat)
  /-- Collectives: source (and residual) of a chunk, result data, residuals written back, a chunk's record. -/
  | collSrc (desc chunk read : Nat)
  | collDst (desc chunk : Nat)
  | collResidual (desc chunk : Nat)
  | collRecord (desc chunk : Nat)
deriving DecidableEq, Repr

/-- The requests of MQ (R360). -/
inductive MqOp where
  | read
  | write
  | readLock
  | writeUnlock
  | unlock
deriving DecidableEq, Repr

/-- One MQ request of a transaction; `lockTag` names the half and MTAG of the lock that a release ends. -/
structure MqReq where
  op : MqOp
  addr : Nat
  size : Nat
  data : List Byte := []
  poison : Bool := false
  txn : Nat
  part : Nat
  lockTag : Option Nat := none
deriving DecidableEq, Repr

/-- A transaction of the core port: its parts' answers so far, and what goes on once all are there. -/
structure MemTxn where
  id : Nat
  cont : MemCont
  answers : List (Option (Status × List Byte))
deriving DecidableEq, Repr

/-- What an atomic or a reduction of bytes is for. -/
inductive RmwUse where
  /-- An incoming ATOMIC_INT, ATOMIC_FP or REDUCE_STORE. -/
  | packet (port : Nat) (pkt : Packet)
  /-- A Domino REDUCE segment. -/
  | segment (port : Nat) (pkt : Packet)
  /-- A LOCAL_REDUCE. -/
  | localReduce (id : Nat)
deriving DecidableEq, Repr

/-- Work of the atomic unit or the reduce ALU (R367, R368): the local address, OP and TYPE, and the operand bytes left. -/
structure RmwJob where
  id : Nat
  use : RmwUse
  addr : Nat
  op : Nat
  type : Nat
  data : List Byte
  /-- An atomic's result once applied: old value and CAS_SUCCESS. -/
  old : List Byte := []
  cas : Bool := false
deriving DecidableEq, Repr

/-- A line locked for the atomic unit: none of its data until READ_LOCK is answered; the jobs that wait for it, those
applied to the copy, and whether the copy has changed. -/
structure LockLine where
  line : Nat
  lockTag : Option Nat := none
  data : Option (List Byte) := none
  dirty : Bool := false
  releasing : Bool := false
  waiting : List Nat := []
  applied : List Nat := []
deriving DecidableEq, Repr

/-- A line of the fabric line cache (R369): a coherent line in a state of R249, or a read-mostly line. `accel`: the state in
which the accelerator holds it (0 I, 1 S, 4 M). -/
structure CacheLine where
  line : Nat
  state : Nat
  readMostly : Bool
  data : List Byte
  filledAt : Nat
  used : Nat
  accel : Nat := 0
  /-- Key index and epoch under which the line was obtained. -/
  key : Nat × Nat := (0, 0)
deriving DecidableEq, Repr

/-- Accesses that the fabric line cache may serve: XQ LOAD and STORE, COH_RD and COH_RDOWN. -/
inductive AccKind where
  | load
  | store
  | cohRead
  | cohOwn
deriving DecidableEq, Repr

/-- An access at its issue point or waiting for pool lines: the packet that carries it where no cache serves it, its bytes,
and in a coherent range the lines still to be served, with the bytes read or to be written. -/
structure Acc where
  id : Nat
  kind : AccKind
  ctx : Nat
  atag : Nat
  gfa : Nat
  len : Nat
  pkt : Packet
  data : List Byte
  left : List Nat
deriving DecidableEq, Repr

/-- A TC2 request that is not complete (R253): opcode, line, and what has arrived of DATA and GO. A WB keeps its line
until CMP arrives: the write-back buffer. -/
structure CohReq where
  tseq : BitVec 24
  leaf : Eid
  line : Nat
  op : BitVec 8
  wb : List Byte := []
  data : Option (Nat × Status × List Byte) := none
  go : Option (Nat × Status) := none
  /-- The core-port operation that a CMP completes (COH_WB under R372). -/
  atag : Option (Nat × Nat) := none
  aborted : Bool := false
  key : Nat × Nat := (0, 0)
  sentAt : Nat
deriving DecidableEq, Repr

/-- Why an SQ snoop was sent: a leaf's snoop of the line, a leaf's flush, or a victim. -/
inductive SnoopUse where
  | leaf (port : Nat) (pkt : Packet)
  | flush (port : Nat) (pkt : Packet)
  | victim
deriving DecidableEq, Repr

/-- An SQ snoop without its answer (R372): SOP 0 INV, 1 SHARE, 2 CUR. -/
structure SqSnoop where
  stag : Nat
  sop : Nat
  line : Nat
  use : SnoopUse
  sentAt : Nat
deriving DecidableEq, Repr

/-- Coherence recovery at the endpoint block (R263): `startDue`: RECOVER_START still has to leave; the TSEQ it left with; `done`:
RECOVER_DONE has left. -/
structure EpRecovery where
  leaf : Eid
  startDue : Bool
  startTseq : Option (BitVec 24) := none
  done : Bool := false
deriving DecidableEq, Repr

/-! ## Domino chains and queues of the endpoint block (11) -/

/-- A triggered operation (R376): `action` 0 SEND, 1 LOCAL_REDUCE, 2 WRITE_WORD, 3 INC. -/
structure TrigOp where
  id : Nat
  threshold : Nat
  counter : Nat
  action : Nat
  reduce : Bool
  done : Option Nat
  op : Nat
  fmt : Nat
  stream : BitVec 4
  ctx : Nat
  dst : Eid
  rcounter : Nat
  dstAddr : Nat
  src : Nat
  digest : Nat
  len : Nat
deriving DecidableEq, Repr

/-- A triggered operation that has fired (R377): what it still waits for, and the statuses that were not OK. -/
structure TrigRun where
  op : TrigOp
  left : Nat
  statuses : List Status := []
deriving DecidableEq, Repr

/-- A DMA descriptor that has started (R381): its parts not yet complete, statuses and outcomes of those that are, and the bytes
that completed with OK. -/
structure DmaDesc where
  serial : Nat
  write : Bool
  len : Nat
  localAddr : Nat
  remote : Nat
  compAddr : Nat
  left : Nat
  statuses : List Status := []
  outcomes : List Nat := []
  bytesOk : Nat := 0
deriving DecidableEq, Repr

/-- What a DMA queue, or the collective queue as number 32, holds beside its registers (R380): a fetch under way, one that has
failed, descriptors fetched and not started, and those started, in queue order. -/
structure EpQueue where
  fetching : Bool := false
  failed : Option Status := none
  fetched : List (List Byte) := []
  descs : List DmaDesc := []
  nextSerial : Nat := 0
deriving DecidableEq, Repr

/-! ## Collectives (09, 10) -/

/-- A chunk of a descriptor at a member (R289, R298 to R300): its plane, the attempt last asked for, and once launched the reads of
SRC made and the failure of one, the refusals drawn, the result fragments that have arrived, the writes to DST outstanding, the
residuals of error feedback; and once it ends its status and the word of its record. -/
structure CollChunk where
  chunk : Nat
  plane : Bool
  attempt : Nat := 0
  launched : Bool := false
  reads : Nat := 0
  reading : Bool := false
  refusals : Nat := 0
  backoff : Bool := false
  gaveUp : Bool := false
  got : SMap (List Byte) := []
  check : Option Nat := none
  srcFailed : Option Status := none
  resent : Bool := false
  writes : Nat := 0
  verified : Bool := false
  residual : List Byte := []
  ended : Option (Status × Word) := none
deriving DecidableEq, Repr

/-- An active collective descriptor (R287, R383): its entry of FXE.COLL and that entry's fields when it was accepted; `failed`: the
first failure of a chunk that counts for STOP_ON_ERR. -/
structure CollDesc where
  id : Nat
  ctx : Nat
  group : Nat
  step : Nat
  fmtIn : Nat
  fmtDown : Nat
  code : Nat
  ef : Bool
  count : Nat
  src : Nat
  dst : Nat
  comp : Nat
  efAddr : Nat
  digest : Nat
  late : Bool := false
  startAt : Option Nat := none
  members : Nat := 0
  member : Nat := 0
  window : Nat := 1
  index : Nat := 0
  epoch : Nat := 0
  dclass : Nat := 0
  chunks : List CollChunk
  failed : Option Status := none
deriving DecidableEq, Repr

/-- A step-scope abort or cancel that a unit has recorded (R293, R304), with the abort slot and the COUNT it reported. -/
structure StepAbort where
  step : Nat
  status : Status
  slot : List Byte
  count : Nat
deriving DecidableEq, Repr

/-- The attempt recorded for a chunk not yet launched (R304). -/
structure AttemptRecord where
  ctx : Nat
  step : Nat
  chunk : Nat
  attempt : Nat
deriving DecidableEq, Repr

/-- The collective state of a member beside its registers (R304): active descriptors, the last 16 step-scope aborts and cancels of
each context, attempt records of chunks not yet launched, the latest step launched and the steps launched under the slot's keys (R501), by context. -/
structure CollState where
  descs : List CollDesc := []
  nextDesc : Nat := 0
  aborts : SMap (List StepAbort) := []
  attempts : List AttemptRecord := []
  lastStep : SMap Nat := []
  steps : SMap Nat := []
deriving DecidableEq, Repr

/-- Check state of a child at an open chunk (R283, R295): its fragments' payloads, and its last fragment with the value sent. -/
structure MrnChild where
  frags : SMap (List Byte) := []
  last : Option (Nat × Nat) := none
deriving DecidableEq, Repr

/-- Where a chunk at a module stands: open; complete and its partial held (R296); complete at its root, before its epilogue (R297,
R331); the epilogue's state written and not yet committed (R340). -/
inductive MrnPhase where
  | isOpen
  | held
  | atRoot
  | committing
deriving DecidableEq, Repr

/-- A chunk entry of a module (R293 to R302). `source`: 0 reservation, 1 shared slots, 2 overflow slots. `digest` is none while no
contribution has set it. `payloads`: the partial held, or the result that follows the commit; `record`: the commit record to write. -/
structure MrnChunk where
  ctx : Nat
  step : Nat
  chunk : Nat
  attempt : Nat
  upAttempt : Nat := 0
  digest : Option Nat
  first : Nat
  source : Nat
  slots : Nat
  arith : Word
  maxRestarts : Nat
  restarts : Nat := 0
  badCheck : Bool := false
  counts : SMap Nat := []
  acc : SMap (List Nat) := []
  comp : SMap (List Nat) := []
  /-- A module shadow watches the chunk: sums of absolute contributions are kept beside the accumulators (R538). -/
  shadowed : Bool := false
  abs : SMap (List Nat) := []
  children : SMap MrnChild := []
  phase : MrnPhase := .isOpen
  payloads : List (List Byte) := []
  refusals : Nat := 0
  backoff : Bool := false
  waited : Bool := false
  record : Option (Nat × Word) := none
deriving DecidableEq, Repr

/-- A result kept by its root, or after RETAIN_US the record that it was there (R297). -/
structure MrnResult where
  ctx : Nat
  step : Nat
  chunk : Nat
  digest : Nat
  first : Nat
  payloads : List (List Byte) := []
  dropped : Bool := false
deriving DecidableEq, Repr

/-- When a child was last refused a chunk (R300). -/
structure RefusalTime where
  ctx : Nat
  step : Nat
  chunk : Nat
  port : Nat
  time : Nat
deriving DecidableEq, Repr

/-- An abort that has passed through a module (R306): of a chunk, or of the whole step. -/
structure PassedAbort where
  ctx : Nat
  step : Nat
  chunk : Option Nat
deriving DecidableEq, Repr

/-- Collectives at a module: chunk entries; results retained and records; the last 16 step-scope aborts recorded, by context;
aborts already passed; when each child was last refused a chunk; the member index learned of each child (context × 1,024 + port); contexts that
FAILED with the member named; and the matrix each array holds (context, bank; an engine's matrix is none of these). -/
structure MrnState where
  chunks : List MrnChunk := []
  results : List MrnResult := []
  aborts : SMap (List StepAbort) := []
  passed : List PassedAbort := []
  refusedAt : List RefusalTime := []
  members : SMap Nat := []
  failed : SMap (Eid × Option Nat) := []
  arrays : SMap (Nat × Nat) := []
deriving DecidableEq, Repr

/-! ## Rack pool and directory (08) -/

/-- A directory entry (R251): STATE 1 SHARED, 2 EXCL, 3 OWNED; the slots of FO and of the sharers. -/
structure DirEntry where
  state : Nat
  ovf : Bool := false
  fo : Option Nat := none
  ptrs : List Nat := []
  used : Nat := 0
deriving DecidableEq, Repr

/-- A snoop that the home has sent and that is unanswered: target slot (none for the broadcast, with the slots still to
answer), the packet, and how often it was sent. -/
structure HomeSnoop where
  slot : Nat
  pkt : Packet
  sent : Nat := 1
  broadcast : Bool := false
  forward : Bool := false
  done : Bool := false
deriving DecidableEq, Repr

/-- What a transaction of the home serves. -/
inductive HomeUse where
  /-- A TC2 request from a slot. -/
  | request (port slot : Nat) (pkt : Packet)
  /-- A TC3 or TC6 access, or a duplicate that reads again (R248, R190). -/
  | access (port : Nat) (pkt : Packet) (addr : Nat) (again : Bool)
  /-- The eviction of a directory entry (R259). -/
  | evict
  /-- A region that leaves coherence (R271). -/
  | region
deriving DecidableEq, Repr

/-- A transaction at the home (R257). Its lines are blocked. -/
structure HomeTxn where
  id : Nat
  use : HomeUse
  lines : List Nat
  tseq : BitVec 24
  snoops : List HomeSnoop := []
  /-- A holder forwarded the line, and the state it kept. -/
  forwarded : Bool := false
  foState : Nat := 0
  /-- A holder was lost with the only current copy (R264). -/
  lost : Bool := false
  /-- The requester is in scope (R246). -/
  mayHold : Bool := true
  /-- The grant given; the transaction waits for ACK. -/
  granted : Option Nat := none
  /-- Its requester is in coherence recovery: no ACK will come (R263). -/
  recovered : Bool := false
deriving DecidableEq, Repr

/-- A flush in progress (R266): the slots still to answer, the number of tiles that then serve, and whether it is one set
only (tile, set). -/
structure DirFlush where
  waiting : List Nat
  tseq : BitVec 24
  tiles : Nat
  oneSet : Option (Nat × Nat) := none
  /-- Slots to which it was sent again after a snoop timeout (R260). -/
  again : List Nat := []
deriving DecidableEq, Repr

/-- The leaf's coherence recovery with a slot (R263), and when it began. -/
structure LeafRecovery where
  slot : Nat
  startedAt : Nat
  poisoned : Nat := 0
deriving DecidableEq, Repr

/-- The directory and what waits at it. Lines are line offsets divided by 64. -/
structure DirState where
  entries : SMap DirEntry := []
  clock : Nat := 0
  txns : List HomeTxn := []
  nextTxn : Nat := 0
  tseq : BitVec 24 := 0
  /-- Requests that wait, in arrival order. -/
  queue : List HomeUse := []
  /-- Stale records (R258): tile, slot, WB_TSEQ. -/
  stale : List (Nat × Nat × BitVec 24) := []
  flush : Option DirFlush := none
  recovery : List LeafRecovery := []
  /-- Slots whose holder is gone and whose scan is not done (R264). -/
  scanning : List Nat := []
  /-- Regions that a register write takes out of force: number, and whether VALID and COHERENT are to clear (R271). -/
  clearing : List (Nat × Bool × Bool) := []
  /-- In-scope slots that have not completed a coherence recovery since a WARM reset emptied the directory (R543). -/
  owed : List Nat := []
deriving DecidableEq, Repr

/-- The memories of the module: DDR5 by physical address, the fast pool by offset. Lists in rising order of address, no
entry holding 0, which an unlisted byte reads as. -/
structure PoolState where
  ddr : List Host.Cell := []
  fast : List Host.Cell := []
  /-- Poisoned lines (local address divided by 64) of DDR5 and of the fast pool (R265, R445). -/
  poison : List Nat := []
  /-- DDR5 lines last written under another key than their range stands under: line, and the key material (R503). -/
  keyed : SMap Nat := []
  /-- Ranges of lines filled under a key as a whole, latest first: first line, line after the last, key (R509). -/
  fills : List (Nat × Nat × Nat) := []
  /-- The management window's content: the telemetry snapshot area (R224, R481), by offset. -/
  mwin : List Host.Cell := []
  /-- Installed DDR5 in GiB, and FASTPOOL tiles gone MISSING (R243, R244). -/
  installedGib : Nat := 0
  missing : List Nat := []
deriving DecidableEq, Repr

/-! ## What leaves a unit -/

/-- What leaves a unit. -/
inductive Out where
  | flit (port lane : Nat) (f : Flit)
  | controlBlock (lane : Nat) (cb : ControlBlock)
  | msix (vector : Nat)
  | intVector (vector : Nat)
  /-- A completion on XR (R359). -/
  | xr (half atag : Nat) (status : Status) (outcome : Nat) (cas replayed : Bool) (grant : Nat) (data : List Byte)
  /-- A request on MQ (R360). -/
  | mq (half mtag : Nat) (op : MqOp) (addr size : Nat) (poison : Bool) (data : List Byte)
  /-- A snoop on SQ (R372). -/
  | sq (stag sop gfa : Nat)
  /-- The completion of a host read of BAR2 (R560). -/
  | hostCompletion (data : List Byte)
  /-- A memory request of the host answered with Unsupported Request (R554). -/
  | hostUnsupported
  /-- PCIe requests of the module: reads and writes of host memory, under a PASID where translated (R414, R562). -/
  | hostRead (pasid : Option Nat) (addr n : Nat)
  | hostWrite (pasid : Option Nat) (addr : Nat) (data : List Byte)
  /-- An ATS Translation Request, a PRI page request group (page, write) and an Invalidate Completion (R412, R415, R416). -/
  | translationRequest (pasid page : Nat)
  | pageRequest (group pasid : Nat) (pages : List (Nat × Bool))
  | invalidateCompletion (itag : Nat)
  /-- POWER_GRANT and FAST_THROTTLE driven with GRANT_STB (R386). -/
  | grant (grant throttle : Nat)
  /-- A pulse of PPS_OUT (R461). -/
  | ppsOut
  /-- An SPDM response, inside a session where one is named (R493). -/
  | spdm (session : Option Nat) (r : SpdmResponse)
  /-- A management message that arrived whole at a port (R512): handed to the unit's responder, or to the session a leaf relays. -/
  | mgmtMessage (port : Nat) (response : Bool) (bytes : List Byte)
deriving DecidableEq, Repr

end Sys2Proof.Machine
end

