-- ==== Sys2Proof/Machine/BringTypes.lean ====
section
/-! DEFINITION. The state of bring-up, of the loaded image and of tile repair (13). -/

namespace Sys2Proof.Machine

/-- A migration (R444): the logical tile, the physical tile that replaces it, and whether JIG.ROLE_CMD asked for it. -/
structure Migration where
  tile : Nat
  phys : Nat
  command : Bool
deriving DecidableEq, Repr

/-- A role change of R449 that waits: for slots to free, or for the flush of R266. -/
structure RoleChange where
  tile : Nat
  role : Nat
deriving DecidableEq, Repr

/-- Tile repair: the fuse map as read, the field record (kept over every reset), the migration under way and those that wait, the role
change under way, and logical tiles whose retirement AUTO_RETIRE 0 has deferred (R443). -/
structure TileState where
  fuse : FuseMap := {}
  record : List RecordEntry := []
  migration : Option Migration := none
  waiting : List Migration := []
  change : Option RoleChange := none
  deferred : List Nat := []
deriving DecidableEq, Repr

/-- Bring-up: when the current step began; how its work has ended (none: it has not; some none: well); the header and section table
of the loaded image, its ROLE_MAP section, the register fields it gave, and whether its routes and tile code are loaded (R436). -/
structure BringState where
  startedAt : Nat := 0
  lastedMs : Nat := 0
  outcome : Option (Option Status) := none
  table : List Byte := []
  roleMap : List Byte := []
  fields : List ImageField := []
  codeLoaded : Bool := false
  firmware : Bool := false
  /-- Main-side power is good (step 1), and when the input came into its operating range. -/
  powerGood : Bool := false
deriving DecidableEq, Repr

end Sys2Proof.Machine
end

