-- ==== Sys2Proof/Machine/EngineTypes.lean ====
section
/-! DEFINITION. The state of the module's engines, address translation and puppet cores (12). -/

namespace Sys2Proof.Machine

/-! ## Translation (R414 to R417) -/

/-- A translation: PASID, first 4 KiB page, the log2 of the size the host returned, and the permissions granted (R415). -/
structure Xlat where
  pasid : Nat
  page : Nat
  size : Nat
  read : Bool
  write : Bool
deriving DecidableEq, Repr

/-- A Translation Request without an answer; `stale`: an invalidation that covers it came after it was sent. -/
structure AtsAsk where
  pasid : Nat
  page : Nat
  stale : Bool := false
deriving DecidableEq, Repr

/-- An invalidation in progress (R416): its ITag, the PASID or all, and the addresses it covers. -/
structure Inval where
  itag : Nat
  pasid : Option Nat
  lo : Nat
  hi : Nat
deriving DecidableEq, Repr

/-- A page request group without a response (R412): the pages in it, and the puppet thread that waits for it. -/
structure PrGroup where
  group : Nat
  pages : Nat
  thread : Option (Nat × Nat) := none
deriving DecidableEq, Repr

/-- Both levels of translations, most recently used first: the first level by engine (0 to 15 copy engines, 16 to 23
contraction-array queues, 24 to 87 puppet cores), the second by set. -/
structure AtsState where
  l1 : SMap (List Xlat) := []
  l2 : SMap (List Xlat) := []
  asks : List AtsAsk := []
  invals : List Inval := []
  groups : List PrGroup := []
deriving DecidableEq, Repr

/-- What a lookup has given (R410, R411): no answer yet, the permission, no permission, or a timeout (R415). -/
inductive Looked where
  | asking
  | mapped
  | unmapped
  | timeout
deriving DecidableEq, Repr

/-- The lookup of a host page that a tile touches. -/
structure Lookup where
  page : Nat
  write : Bool
  state : Looked
deriving DecidableEq, Repr

/-! ## Engine commands (R403 to R413, R561 to R564) -/

/-- Where the current tile of a command stands. -/
inductive TilePhase where
  | looking
  | reading
  | writing
deriving DecidableEq, Repr

/-- A command that a queue has fetched: its full count since EN was set, its 64 bytes, and once it has started its current tile with the
lookups, fabric packets in flight and bytes read of it; once it has ended its statuses, and the first tile not fully moved. -/
structure EngCmd where
  index : Nat
  data : List Byte
  started : Bool := false
  tile : Nat := 0
  phase : TilePhase := .looking
  lookups : List Lookup := []
  left : Nat := 0
  buf : List Byte := []
  statuses : List Status := []
  ended : Bool := false
  outcome : Nat := 1
  prSent : Bool := false
  invAbort : Bool := false
deriving DecidableEq, Repr

/-- The matrix B that CTA_LOAD_B last loaded on a queue (R406). -/
structure EngMatrix where
  fmt : Nat
  k : Nat
  n : Nat
  bytes : List Byte
deriving DecidableEq, Repr

/-- What an engine queue holds beside its registers: the commands fetched since EN was set, a fetch under way, the commands in
progress with the one that runs at the front, and the matrix of its array. -/
structure EngQueue where
  count : Nat := 0
  fetching : Bool := false
  cmds : List EngCmd := []
  matrix : Option EngMatrix := none
deriving DecidableEq, Repr

/-! ## Puppet cores (R418 to R424) -/

/-- The accesses of a puppet thread. -/
inductive PupKind where
  | load
  | acquire
  | store
  | flag
  | atomic
deriving DecidableEq, Repr

/-- An access of a thread that has not completed: address, size, data (for an atomic its operands), the atomic's OP, the PC of its
instruction; for the host space the lookup and whether it has been retried; `issued`: a fabric packet carries it. -/
structure PupAccess where
  kind : PupKind
  addr : Nat
  size : Nat
  data : List Byte := []
  op : Nat := 0
  pc : Nat
  issued : Bool := false
  look : Option Looked := none
  retried : Bool := false
deriving DecidableEq, Repr

/-- A thread of a puppet core: the access or fence it waits for, what its last access wrote to rd, and its custom CSRs. -/
structure PupThread where
  running : Bool := false
  waiting : Option PupAccess := none
  fence : Bool := false
  rd : List Byte := []
  pfeid : Word := 0
  pcmp : Word := 0
  pstat : Word := 0
deriving DecidableEq, Repr

/-- The engines of the module. Puppet threads are keyed by core × 16 + thread, data caches by core (a line of 64 bytes and its
number, most recently used first), grants by program slot. `scratch`: tile scratchpad, by the addresses of R401. -/
structure EngineState where
  queues : SMap EngQueue := []
  ats : AtsState := {}
  threads : SMap PupThread := []
  dcache : SMap (List (Nat × List Byte)) := []
  grants : SMap Grant := []
  scratch : List Host.Cell := []
deriving DecidableEq, Repr

end Sys2Proof.Machine
end

