-- ==== Sys2Proof/Machine/MgmtTypes.lean ====
section
/-! DEFINITION. The state of security, management, membership and resets (15, 16). -/

namespace Sys2Proof.Machine

/-- A session (R493): its number, the digest of the requester's key and the roles of its credential (ADMIN 8, MANAGE 4, DIAG 2, TEST 1)
once FINISH has established it, its secret, and the key updates since. -/
structure Session where
  id : Nat
  key : List Byte := []
  roles : Nat := 0
  secret : List Byte
  established : Bool := false
  updates : Nat := 0
deriving DecidableEq, Repr

/-- A segmented message that is being assembled (R512): the port, whether it is a MGMT_RSP, its message number, the next index and the
bytes so far. -/
structure Assembly where
  port : Nat
  response : Bool
  number : Nat
  next : Nat
  bytes : List Byte
deriving DecidableEq, Repr

/-- SPDM and management at a unit: the algorithms have been negotiated; open sessions and the next number; messages under assembly, and
messages discarded (R512: counted, in no register that the spec names). -/
structure MgmtState where
  algorithms : Bool := false
  sessions : List Session := []
  nextSession : Nat := 1
  assembly : List Assembly := []
  discards : Nat := 0
deriving DecidableEq, Repr

/-- The security state of the module beside its registers: the fuses once read, the boot images written to flash (0 A, 1 B), the
version of the boot image that runs, public keys of the credential slots, token leases by group (session, end), the mailbox buffers, the
number of the device memory key in use, and the number of each slot's XTS keys (R503). -/
structure SecState where
  otp : Option OtpMap := none
  flash : SMap (List Byte) := []
  bootVersion : Nat := 0
  creds : SMap (List Byte) := []
  leases : SMap (Nat × Nat) := []
  request : List Byte := []
  response : List Byte := []
  deviceKey : Nat := 0
  /-- Key slots of the module under retirement (R509). -/
  retiring : List Nat := []
  xtsKeys : SMap Nat := []
deriving DecidableEq, Repr

/-- One chunk of a shadow comparison (R536, R537): the shadow entry, step and chunk; payloads that one side gave and the other has yet to
match, by fragment; the fragments compared, and the last one once it is known. -/
structure ShadowChunk where
  entry : Nat
  step : Nat
  chunk : Nat
  working : SMap (List Byte) := []
  shadow : SMap (List Byte) := []
  compared : List Nat := []
  last : Option Nat := none
  /-- The chunk has been counted as compared or skipped, or one of its elements has failed (R539). -/
  ended : Bool := false
deriving DecidableEq, Repr

/-- Liveness and admission (R524 to R539): when evidence of a port last set, when a port last left UP, trays recorded as down; and the
shadow comparisons under way. -/
structure LiveState where
  evidenceAt : SMap Nat := []
  downAt : SMap Nat := []
  trays : List Nat := []
  shadows : List ShadowChunk := []
deriving DecidableEq, Repr

end Sys2Proof.Machine
end

