-- ==== Sys2Proof/Machine/Registers.lean ====
section
/-! DEFINITION. The register map: every register of BAR0 (R555) and of the endpoint block's 1 MiB space (R392), with its
place, its words and its fields (bits, access code R10, reset value R11, reserved values R9), as the register tables
of the chapters give them. A field the tables mark "—" (reserved) is not listed: it reads as zero and a write to it is dropped.
A reset of "fuse" or "image" is 0 here (R11: such a field reads as zero until bring-up loads it). -/

namespace Sys2Proof.Machine


/-- The access codes of R10. -/
inductive Access where
  | ro | rw | w1c | w1s | wo | rwl
deriving DecidableEq, Repr

/-- Which values of a field may be written (R9: any other value is reserved). -/
inductive Allowed where
  | any
  | range (lo hi : Nat)
  | among (vs : List Nat)
deriving DecidableEq, Repr

def Allowed.ok : Allowed → Nat → Bool
  | .any, _ => true
  | .range lo hi, v => decide (lo ≤ v) && decide (v ≤ hi)
  | .among vs, v => vs.contains v

/-- One field of a register word. -/
structure FieldDesc where
  word : Nat
  hi : Nat
  lo : Nat
  acc : Access
  reset : Nat := 0
  allowed : Allowed := .any
deriving DecidableEq, Repr

/-- Where a register lies: its first address, the distance between its entries and their number. -/
structure Loc where
  base : Nat
  stride : Nat
  count : Nat
deriving DecidableEq, Repr

/-- The registers, in the order of their blocks. -/
inductive Reg where
  | glbRole
  | glbEid
  | glbBringupCtl
  | glbBringupStatus
  | glbReset
  | jigCtl
  | jigSrcAddr
  | jigSrcSize
  | jigStatus
  | jigImageId
  | jigRoleCmd
  | jigRoleStatus
  | jigDigest
  | tilCtl
  | tilStatus
  | tilCapEventCnt
  | tilRetireCnt
  | tilRecordStatus
  | tilRoleCnt
  | tilMap
  | tilPhys
  | nocStatus
  | nocCtl
  | lnkCtl
  | lnkStatus
  | lnkFarId
  | lnkPlan
  | lnkTxTaps
  | lnkBipErr
  | lnkCbErr
  | lnkTrainCnt
  | prtCtl
  | prtStatus
  | prtVersion
  | prtCrcErr
  | prtReplayCnt
  | prtFecCorr
  | prtFecUncorr
  | prtFlitLost
  | prtDegradeCnt
  | prtIngressDiscard
  | prtMalformed
  | rteCtl
  | rteUnreachCnt
  | rteFeatRefuseCnt
  | rteEvictCnt
  | rteRsqBypassCnt
  | rteRsqTimeoutCnt
  | rteRsqCtl
  | rtePart
  | rteFeat
  | rtePgrp
  | rtePmem
  | rteRack
  | rteSlot
  | rteMod
  | rteMcast
  | rteRing
  | xptCtl
  | xptStatus
  | xptPeerReset
  | xptRetxCnt
  | xptGiveupCnt
  | xptDupCnt
  | xptOowCnt
  | xptAgeDiscardCnt
  | xptReorderNackCnt
  | xptBarrierCnt
  | xptNackUnmatchedCnt
  | xptPchkDiscardCnt
  | memCtl
  | memMwin
  | memReplayStatus
  | memNoWindowCnt
  | memDenyKeyCnt
  | memDenyClassCnt
  | memDenyRightsCnt
  | memDenyAlignCnt
  | memReplayHitCnt
  | memReplayFullCnt
  | memUnknownCnt
  | memLoadTimeoutCnt
  | memLateRefusalCnt
  | memWin
  | dirCtl
  | dirStatus
  | dirPoolCtl
  | dirPoolStatus
  | dirBinvCnt
  | dirBcastCnt
  | dirStaleWbCnt
  | dirPoisonCnt
  | dirSnpTimeoutCnt
  | dirNcGrantCnt
  | dirRecoverCnt
  | dirRegion
  | mrnCtl
  | mrnStatus
  | mrnOvfStatus
  | mrnChunkStatus
  | mrnMismatchCnt
  | mrnCrcFailCnt
  | mrnRestartCnt
  | mrnSharedCnt
  | mrnSpillCnt
  | mrnRefuseCnt
  | mrnAbortCnt
  | mrnStaleCnt
  | mrnAgeCnt
  | mrnKeyDiscardCnt
  | mrnCtx
  | mrnRoot
  | redCtl
  | redStatus
  | redQueryCtl
  | redQueryStatus
  | redQueryRec
  | redCommitCnt
  | redReplayCommitCnt
  | redStaleStepCnt
  | redNonfiniteCnt
  | redStateErrCnt
  | redSaturateCnt
  | redArith
  | redEpiLib
  | redEpi
  | ctaCtl
  | ctaStatus
  | ctaMacCycleCnt
  | ctaGateWaitCnt
  | ctaPLoadCnt
  | engCtl
  | engTileFaultCnt
  | engCmdCnt
  | engLateRefusalCnt
  | engQ
  | engQr
  | engQdb
  | atsStatus
  | atsCtl
  | atsL2MissCnt
  | atsPrCnt
  | atsPrFailCnt
  | atsInvCnt
  | atsInvAbortCnt
  | pupStatus
  | pupLoad
  | pupProg
  | topCtl
  | topStatus
  | topTime
  | topSet
  | topSetCtl
  | topOffset
  | topPpsDelay
  | topStepCnt
  | topLockLossCnt
  | topAsym
  | pwrCapCtl
  | pwrStatus
  | pwrInput
  | pwrCtl
  | pwrCapCnt
  | pwrStageCnt
  | pwrWarnCnt
  | pwrViolCnt
  | pwrThermalCnt
  | pwrEp
  | telCtl
  | telSnapCtl
  | telSnapStatus
  | telPolicy
  | telBgCtl
  | telSkipCnt
  | telOvfEventCnt
  | telStream
  | secCtl
  | secStatus
  | secMinVer
  | secSlotCmd
  | secRetireStatus
  | secOwn
  | secRetiredDropCnt
  | secTagFailCnt
  | secClassFailCnt
  | secNokeyCnt
  | secStaleRefuseCnt
  | secWZeroReadCnt
  | secOwnDiscardCnt
  | secAuthFailCnt
  | secSigner
  | secCred
  | secMeas
  | secSlot
  | fltCtl
  | fltStatus
  | fltLogStatus
  | fltLogRead
  | fltLostCnt
  | fltSuppressCnt
  | fltQuarCnt
  | fltShadowFailCnt
  | fltShadow
  | fltDomain
  | fltLive
  | fltLog
  | ratCtl
  | ratRule
  | ddrCeCnt
  | ddrUeCnt
  | ddrCh
  | pciStatus
  | pciAptErr
  | pciAptErrCnt
  | pciIntStatus
  | pciApt
  | pciIntRoute
  | mgtStatus
  | mgtDoorbell
  | mgtRspLen
  | mgtWdogCnt
  | fxeId
  | fxeCtl
  | fxePwr
  | fxeDomStatus
  | fxeIntStatus
  | fxeIntEn
  | fxeEvtStatus
  | fxeEvtRead
  | fxeEvtLostCnt
  | fxeEvtSuppressCnt
  | fxeLockDiscardCnt
  | fxeDomain
  | fxePlaneDownA
  | fxePlaneDownB
  | fxeCtxcfg
  | fxeCoh
  | fxeMcast
  | fxeColl
  | fxeCq
  | fxeDmaq
  | fxeDomCtr
  | fxeEvt
deriving DecidableEq, Repr

/-- The place of a register in the unit's register space; none where the unit has no such register. -/
def Reg.loc : Side → Reg → Option Loc
  | .module, .glbRole => some ⟨0x10, 0x0, 1⟩
  | .module, .glbEid => some ⟨0x18, 0x0, 1⟩
  | .module, .glbBringupCtl => some ⟨0x20, 0x0, 1⟩
  | .module, .glbBringupStatus => some ⟨0x28, 0x0, 1⟩
  | .module, .glbReset => some ⟨0x30, 0x0, 1⟩
  | .module, .jigCtl => some ⟨0x100000, 0x0, 1⟩
  | .module, .jigSrcAddr => some ⟨0x100008, 0x0, 1⟩
  | .module, .jigSrcSize => some ⟨0x100010, 0x0, 1⟩
  | .module, .jigStatus => some ⟨0x100018, 0x0, 1⟩
  | .module, .jigImageId => some ⟨0x100020, 0x0, 1⟩
  | .module, .jigRoleCmd => some ⟨0x100028, 0x0, 1⟩
  | .module, .jigRoleStatus => some ⟨0x100030, 0x0, 1⟩
  | .module, .jigDigest => some ⟨0x100040, 0x8, 8⟩
  | .module, .tilCtl => some ⟨0x200000, 0x0, 1⟩
  | .module, .tilStatus => some ⟨0x200008, 0x0, 1⟩
  | .module, .tilCapEventCnt => some ⟨0x200010, 0x0, 1⟩
  | .module, .tilRetireCnt => some ⟨0x200018, 0x0, 1⟩
  | .module, .tilRecordStatus => some ⟨0x200020, 0x0, 1⟩
  | .module, .tilRoleCnt => some ⟨0x200100, 0x8, 8⟩
  | .module, .tilMap => some ⟨0x210000, 0x8, 2048⟩
  | .module, .tilPhys => some ⟨0x220000, 0x8, 2176⟩
  | .module, .nocStatus => some ⟨0x400000, 0x0, 1⟩
  | .module, .nocCtl => some ⟨0x400008, 0x0, 1⟩
  | .module, .lnkCtl => some ⟨0x600000, 0x400, 1024⟩
  | .endpoint, .lnkCtl => some ⟨0x10000, 0x400, 16⟩
  | .module, .lnkStatus => some ⟨0x600008, 0x400, 1024⟩
  | .endpoint, .lnkStatus => some ⟨0x10008, 0x400, 16⟩
  | .module, .lnkFarId => some ⟨0x600010, 0x400, 1024⟩
  | .endpoint, .lnkFarId => some ⟨0x10010, 0x400, 16⟩
  | .module, .lnkPlan => some ⟨0x600018, 0x400, 1024⟩
  | .endpoint, .lnkPlan => some ⟨0x10018, 0x400, 16⟩
  | .module, .lnkTxTaps => some ⟨0x600020, 0x400, 1024⟩
  | .endpoint, .lnkTxTaps => some ⟨0x10020, 0x400, 16⟩
  | .module, .lnkBipErr => some ⟨0x600028, 0x400, 1024⟩
  | .endpoint, .lnkBipErr => some ⟨0x10028, 0x400, 16⟩
  | .module, .lnkCbErr => some ⟨0x600030, 0x400, 1024⟩
  | .endpoint, .lnkCbErr => some ⟨0x10030, 0x400, 16⟩
  | .module, .lnkTrainCnt => some ⟨0x600038, 0x400, 1024⟩
  | .endpoint, .lnkTrainCnt => some ⟨0x10038, 0x400, 16⟩
  | .module, .prtCtl => some ⟨0x800000, 0x400, 1024⟩
  | .endpoint, .prtCtl => some ⟨0x14000, 0x400, 16⟩
  | .module, .prtStatus => some ⟨0x800008, 0x400, 1024⟩
  | .endpoint, .prtStatus => some ⟨0x14008, 0x400, 16⟩
  | .module, .prtVersion => some ⟨0x800010, 0x400, 1024⟩
  | .endpoint, .prtVersion => some ⟨0x14010, 0x400, 16⟩
  | .module, .prtCrcErr => some ⟨0x800018, 0x400, 1024⟩
  | .endpoint, .prtCrcErr => some ⟨0x14018, 0x400, 16⟩
  | .module, .prtReplayCnt => some ⟨0x800020, 0x400, 1024⟩
  | .endpoint, .prtReplayCnt => some ⟨0x14020, 0x400, 16⟩
  | .module, .prtFecCorr => some ⟨0x800028, 0x400, 1024⟩
  | .endpoint, .prtFecCorr => some ⟨0x14028, 0x400, 16⟩
  | .module, .prtFecUncorr => some ⟨0x800030, 0x400, 1024⟩
  | .endpoint, .prtFecUncorr => some ⟨0x14030, 0x400, 16⟩
  | .module, .prtFlitLost => some ⟨0x800038, 0x400, 1024⟩
  | .endpoint, .prtFlitLost => some ⟨0x14038, 0x400, 16⟩
  | .module, .prtDegradeCnt => some ⟨0x800040, 0x400, 1024⟩
  | .endpoint, .prtDegradeCnt => some ⟨0x14040, 0x400, 16⟩
  | .module, .prtIngressDiscard => some ⟨0x800048, 0x400, 1024⟩
  | .endpoint, .prtIngressDiscard => some ⟨0x14048, 0x400, 16⟩
  | .module, .prtMalformed => some ⟨0x800050, 0x400, 1024⟩
  | .endpoint, .prtMalformed => some ⟨0x14050, 0x400, 16⟩
  | .module, .rteCtl => some ⟨0xA00000, 0x0, 1⟩
  | .module, .rteUnreachCnt => some ⟨0xA00008, 0x0, 1⟩
  | .module, .rteFeatRefuseCnt => some ⟨0xA00010, 0x0, 1⟩
  | .module, .rteEvictCnt => some ⟨0xA00018, 0x0, 1⟩
  | .module, .rteRsqBypassCnt => some ⟨0xA00020, 0x0, 1⟩
  | .module, .rteRsqTimeoutCnt => some ⟨0xA00028, 0x0, 1⟩
  | .module, .rteRsqCtl => some ⟨0xA00100, 0x0, 1⟩
  | .module, .rtePart => some ⟨0xA00200, 0x8, 11⟩
  | .module, .rteFeat => some ⟨0xA01000, 0x8, 1024⟩
  | .module, .rtePgrp => some ⟨0xA04000, 0x8, 256⟩
  | .module, .rtePmem => some ⟨0xA08000, 0x8, 4096⟩
  | .module, .rteRack => some ⟨0xA10000, 0x8, 2048⟩
  | .module, .rteSlot => some ⟨0xA14000, 0x8, 128⟩
  | .module, .rteMod => some ⟨0xA18000, 0x8, 3072⟩
  | .module, .rteMcast => some ⟨0xA20000, 0x8, 8192⟩
  | .module, .rteRing => some ⟨0xA30000, 0x8, 4⟩
  | .module, .xptCtl => some ⟨0xC00000, 0x0, 1⟩
  | .endpoint, .xptCtl => some ⟨0x5000, 0x0, 1⟩
  | .module, .xptStatus => some ⟨0xC00008, 0x0, 1⟩
  | .endpoint, .xptStatus => some ⟨0x5008, 0x0, 1⟩
  | .module, .xptPeerReset => some ⟨0xC00010, 0x0, 1⟩
  | .endpoint, .xptPeerReset => some ⟨0x5010, 0x0, 1⟩
  | .module, .xptRetxCnt => some ⟨0xC00018, 0x0, 1⟩
  | .endpoint, .xptRetxCnt => some ⟨0x5018, 0x0, 1⟩
  | .module, .xptGiveupCnt => some ⟨0xC00020, 0x0, 1⟩
  | .endpoint, .xptGiveupCnt => some ⟨0x5020, 0x0, 1⟩
  | .module, .xptDupCnt => some ⟨0xC00028, 0x0, 1⟩
  | .endpoint, .xptDupCnt => some ⟨0x5028, 0x0, 1⟩
  | .module, .xptOowCnt => some ⟨0xC00030, 0x0, 1⟩
  | .endpoint, .xptOowCnt => some ⟨0x5030, 0x0, 1⟩
  | .module, .xptAgeDiscardCnt => some ⟨0xC00038, 0x0, 1⟩
  | .endpoint, .xptAgeDiscardCnt => some ⟨0x5038, 0x0, 1⟩
  | .module, .xptReorderNackCnt => some ⟨0xC00040, 0x0, 1⟩
  | .endpoint, .xptReorderNackCnt => some ⟨0x5040, 0x0, 1⟩
  | .module, .xptBarrierCnt => some ⟨0xC00048, 0x0, 1⟩
  | .endpoint, .xptBarrierCnt => some ⟨0x5048, 0x0, 1⟩
  | .module, .xptNackUnmatchedCnt => some ⟨0xC00050, 0x0, 1⟩
  | .endpoint, .xptNackUnmatchedCnt => some ⟨0x5050, 0x0, 1⟩
  | .module, .xptPchkDiscardCnt => some ⟨0xC00058, 0x0, 1⟩
  | .endpoint, .xptPchkDiscardCnt => some ⟨0x5058, 0x0, 1⟩
  | .module, .memCtl => some ⟨0xE00000, 0x0, 1⟩
  | .module, .memMwin => some ⟨0xE00008, 0x0, 1⟩
  | .module, .memReplayStatus => some ⟨0xE00010, 0x0, 1⟩
  | .endpoint, .memReplayStatus => some ⟨0x5100, 0x0, 1⟩
  | .module, .memNoWindowCnt => some ⟨0xE00040, 0x0, 1⟩
  | .endpoint, .memNoWindowCnt => some ⟨0x5130, 0x0, 1⟩
  | .module, .memDenyKeyCnt => some ⟨0xE00048, 0x0, 1⟩
  | .endpoint, .memDenyKeyCnt => some ⟨0x5138, 0x0, 1⟩
  | .module, .memDenyClassCnt => some ⟨0xE00050, 0x0, 1⟩
  | .endpoint, .memDenyClassCnt => some ⟨0x5140, 0x0, 1⟩
  | .module, .memDenyRightsCnt => some ⟨0xE00058, 0x0, 1⟩
  | .endpoint, .memDenyRightsCnt => some ⟨0x5148, 0x0, 1⟩
  | .module, .memDenyAlignCnt => some ⟨0xE00060, 0x0, 1⟩
  | .endpoint, .memDenyAlignCnt => some ⟨0x5150, 0x0, 1⟩
  | .module, .memReplayHitCnt => some ⟨0xE00068, 0x0, 1⟩
  | .endpoint, .memReplayHitCnt => some ⟨0x5158, 0x0, 1⟩
  | .module, .memReplayFullCnt => some ⟨0xE00070, 0x0, 1⟩
  | .endpoint, .memReplayFullCnt => some ⟨0x5160, 0x0, 1⟩
  | .module, .memUnknownCnt => some ⟨0xE00078, 0x0, 1⟩
  | .endpoint, .memUnknownCnt => some ⟨0x5168, 0x0, 1⟩
  | .module, .memLoadTimeoutCnt => some ⟨0xE00080, 0x0, 1⟩
  | .endpoint, .memLoadTimeoutCnt => some ⟨0x5170, 0x0, 1⟩
  | .module, .memLateRefusalCnt => some ⟨0xE00088, 0x0, 1⟩
  | .endpoint, .memLateRefusalCnt => some ⟨0x5178, 0x0, 1⟩
  | .module, .memWin => some ⟨0xE10000, 0x20, 1024⟩
  | .endpoint, .memWin => some ⟨0x20000, 0x20, 4096⟩
  | .module, .dirCtl => some ⟨0x1000000, 0x0, 1⟩
  | .module, .dirStatus => some ⟨0x1000008, 0x0, 1⟩
  | .module, .dirPoolCtl => some ⟨0x1000010, 0x0, 1⟩
  | .module, .dirPoolStatus => some ⟨0x1000018, 0x0, 1⟩
  | .module, .dirBinvCnt => some ⟨0x1000040, 0x0, 1⟩
  | .module, .dirBcastCnt => some ⟨0x1000048, 0x0, 1⟩
  | .module, .dirStaleWbCnt => some ⟨0x1000050, 0x0, 1⟩
  | .module, .dirPoisonCnt => some ⟨0x1000058, 0x0, 1⟩
  | .module, .dirSnpTimeoutCnt => some ⟨0x1000060, 0x0, 1⟩
  | .module, .dirNcGrantCnt => some ⟨0x1000068, 0x0, 1⟩
  | .module, .dirRecoverCnt => some ⟨0x1000070, 0x0, 1⟩
  | .module, .dirRegion => some ⟨0x1001000, 0x10, 64⟩
  | .module, .mrnCtl => some ⟨0x1200000, 0x0, 1⟩
  | .module, .mrnStatus => some ⟨0x1200008, 0x0, 1⟩
  | .module, .mrnOvfStatus => some ⟨0x1200010, 0x0, 1⟩
  | .module, .mrnChunkStatus => some ⟨0x1200018, 0x0, 1⟩
  | .module, .mrnMismatchCnt => some ⟨0x1200040, 0x0, 1⟩
  | .module, .mrnCrcFailCnt => some ⟨0x1200048, 0x0, 1⟩
  | .module, .mrnRestartCnt => some ⟨0x1200050, 0x0, 1⟩
  | .module, .mrnSharedCnt => some ⟨0x1200058, 0x0, 1⟩
  | .module, .mrnSpillCnt => some ⟨0x1200060, 0x0, 1⟩
  | .module, .mrnRefuseCnt => some ⟨0x1200068, 0x0, 1⟩
  | .module, .mrnAbortCnt => some ⟨0x1200070, 0x0, 1⟩
  | .module, .mrnStaleCnt => some ⟨0x1200078, 0x0, 1⟩
  | .module, .mrnAgeCnt => some ⟨0x1200080, 0x0, 1⟩
  | .module, .mrnKeyDiscardCnt => some ⟨0x1200088, 0x0, 1⟩
  | .module, .mrnCtx => some ⟨0x1210000, 0x20, 4096⟩
  | .module, .mrnRoot => some ⟨0x1240000, 0x8, 4096⟩
  | .module, .redCtl => some ⟨0x1400000, 0x0, 1⟩
  | .module, .redStatus => some ⟨0x1400008, 0x0, 1⟩
  | .module, .redQueryCtl => some ⟨0x1400010, 0x0, 1⟩
  | .module, .redQueryStatus => some ⟨0x1400018, 0x0, 1⟩
  | .module, .redQueryRec => some ⟨0x1400020, 0x0, 1⟩
  | .module, .redCommitCnt => some ⟨0x1400040, 0x0, 1⟩
  | .module, .redReplayCommitCnt => some ⟨0x1400048, 0x0, 1⟩
  | .module, .redStaleStepCnt => some ⟨0x1400050, 0x0, 1⟩
  | .module, .redNonfiniteCnt => some ⟨0x1400058, 0x0, 1⟩
  | .module, .redStateErrCnt => some ⟨0x1400060, 0x0, 1⟩
  | .module, .redSaturateCnt => some ⟨0x1400068, 0x0, 1⟩
  | .module, .redArith => some ⟨0x1410000, 0x8, 4096⟩
  | .module, .redEpiLib => some ⟨0x1420000, 0x8, 256⟩
  | .module, .redEpi => some ⟨0x1480000, 0x80, 4096⟩
  | .module, .ctaCtl => some ⟨0x1600000, 0x0, 1⟩
  | .module, .ctaStatus => some ⟨0x1600008, 0x0, 1⟩
  | .module, .ctaMacCycleCnt => some ⟨0x1600010, 0x0, 1⟩
  | .module, .ctaGateWaitCnt => some ⟨0x1600018, 0x0, 1⟩
  | .module, .ctaPLoadCnt => some ⟨0x1600020, 0x0, 1⟩
  | .module, .engCtl => some ⟨0x1800000, 0x0, 1⟩
  | .module, .engTileFaultCnt => some ⟨0x1800008, 0x0, 1⟩
  | .module, .engCmdCnt => some ⟨0x1800010, 0x0, 1⟩
  | .module, .engLateRefusalCnt => some ⟨0x1800018, 0x0, 1⟩
  | .module, .engQ => some ⟨0x1801000, 0x10, 72⟩
  | .module, .engQr => some ⟨0x1802000, 0x20, 72⟩
  | .module, .engQdb => some ⟨0x1900000, 0x1000, 72⟩
  | .module, .atsStatus => some ⟨0x1A00000, 0x0, 1⟩
  | .module, .atsCtl => some ⟨0x1A00008, 0x0, 1⟩
  | .module, .atsL2MissCnt => some ⟨0x1A00010, 0x0, 1⟩
  | .module, .atsPrCnt => some ⟨0x1A00018, 0x0, 1⟩
  | .module, .atsPrFailCnt => some ⟨0x1A00020, 0x0, 1⟩
  | .module, .atsInvCnt => some ⟨0x1A00028, 0x0, 1⟩
  | .module, .atsInvAbortCnt => some ⟨0x1A00030, 0x0, 1⟩
  | .module, .pupStatus => some ⟨0x1B00000, 0x0, 1⟩
  | .module, .pupLoad => some ⟨0x1B00008, 0x0, 1⟩
  | .module, .pupProg => some ⟨0x1B00100, 0x40, 16⟩
  | .module, .topCtl => some ⟨0x1C00000, 0x0, 1⟩
  | .module, .topStatus => some ⟨0x1C00008, 0x0, 1⟩
  | .module, .topTime => some ⟨0x1C00010, 0x0, 1⟩
  | .module, .topSet => some ⟨0x1C00018, 0x0, 1⟩
  | .module, .topSetCtl => some ⟨0x1C00020, 0x0, 1⟩
  | .module, .topOffset => some ⟨0x1C00028, 0x0, 1⟩
  | .module, .topPpsDelay => some ⟨0x1C00030, 0x0, 1⟩
  | .module, .topStepCnt => some ⟨0x1C00040, 0x0, 1⟩
  | .module, .topLockLossCnt => some ⟨0x1C00048, 0x0, 1⟩
  | .module, .topAsym => some ⟨0x1C01000, 0x8, 1024⟩
  | .module, .pwrCapCtl => some ⟨0x1D00000, 0x0, 1⟩
  | .module, .pwrStatus => some ⟨0x1D00008, 0x0, 1⟩
  | .module, .pwrInput => some ⟨0x1D00010, 0x0, 1⟩
  | .module, .pwrCtl => some ⟨0x1D00018, 0x0, 1⟩
  | .module, .pwrCapCnt => some ⟨0x1D00040, 0x0, 1⟩
  | .module, .pwrStageCnt => some ⟨0x1D00048, 0x0, 1⟩
  | .module, .pwrWarnCnt => some ⟨0x1D00050, 0x0, 1⟩
  | .module, .pwrViolCnt => some ⟨0x1D00058, 0x0, 1⟩
  | .module, .pwrThermalCnt => some ⟨0x1D00060, 0x0, 1⟩
  | .module, .pwrEp => some ⟨0x1D01000, 0x10, 128⟩
  | .module, .telCtl => some ⟨0x1E00000, 0x0, 1⟩
  | .module, .telSnapCtl => some ⟨0x1E00008, 0x0, 1⟩
  | .module, .telSnapStatus => some ⟨0x1E00010, 0x0, 1⟩
  | .module, .telPolicy => some ⟨0x1E00018, 0x0, 1⟩
  | .module, .telBgCtl => some ⟨0x1E00020, 0x0, 1⟩
  | .module, .telSkipCnt => some ⟨0x1E00040, 0x0, 1⟩
  | .module, .telOvfEventCnt => some ⟨0x1E00048, 0x0, 1⟩
  | .module, .telStream => some ⟨0x1E00100, 0x10, 8⟩
  | .module, .secCtl => some ⟨0x2000000, 0x0, 1⟩
  | .module, .secStatus => some ⟨0x2000008, 0x0, 1⟩
  | .module, .secMinVer => some ⟨0x2000010, 0x0, 1⟩
  | .module, .secSlotCmd => some ⟨0x2000018, 0x0, 1⟩
  | .module, .secRetireStatus => some ⟨0x2000020, 0x0, 1⟩
  | .module, .secOwn => some ⟨0x2000028, 0x0, 1⟩
  | .module, .secRetiredDropCnt => some ⟨0x2000040, 0x0, 1⟩
  | .module, .secTagFailCnt => some ⟨0x2000048, 0x0, 1⟩
  | .module, .secClassFailCnt => some ⟨0x2000050, 0x0, 1⟩
  | .module, .secNokeyCnt => some ⟨0x2000058, 0x0, 1⟩
  | .module, .secStaleRefuseCnt => some ⟨0x2000060, 0x0, 1⟩
  | .module, .secWZeroReadCnt => some ⟨0x2000068, 0x0, 1⟩
  | .module, .secOwnDiscardCnt => some ⟨0x2000070, 0x0, 1⟩
  | .module, .secAuthFailCnt => some ⟨0x2000078, 0x0, 1⟩
  | .module, .secSigner => some ⟨0x2000100, 0x8, 16⟩
  | .module, .secCred => some ⟨0x2000200, 0x8, 16⟩
  | .module, .secMeas => some ⟨0x2001000, 0x40, 32⟩
  | .module, .secSlot => some ⟨0x2010000, 0x8, 8192⟩
  | .module, .fltCtl => some ⟨0x2200000, 0x0, 1⟩
  | .module, .fltStatus => some ⟨0x2200008, 0x0, 1⟩
  | .module, .fltLogStatus => some ⟨0x2200010, 0x0, 1⟩
  | .module, .fltLogRead => some ⟨0x2200018, 0x0, 1⟩
  | .module, .fltLostCnt => some ⟨0x2200040, 0x0, 1⟩
  | .module, .fltSuppressCnt => some ⟨0x2200048, 0x0, 1⟩
  | .module, .fltQuarCnt => some ⟨0x2200050, 0x0, 1⟩
  | .module, .fltShadowFailCnt => some ⟨0x2200058, 0x0, 1⟩
  | .module, .fltShadow => some ⟨0x2200100, 0x20, 16⟩
  | .module, .fltDomain => some ⟨0x2201000, 0x8, 128⟩
  | .module, .fltLive => some ⟨0x2202000, 0x8, 1024⟩
  | .module, .fltLog => some ⟨0x2210000, 0x20, 4096⟩
  | .module, .ratCtl => some ⟨0x2300000, 0x0, 1⟩
  | .module, .ratRule => some ⟨0x2300100, 0x10, 64⟩
  | .module, .ddrCeCnt => some ⟨0x2400000, 0x0, 1⟩
  | .module, .ddrUeCnt => some ⟨0x2400008, 0x0, 1⟩
  | .module, .ddrCh => some ⟨0x2400100, 0x8, 12⟩
  | .module, .pciStatus => some ⟨0x2600000, 0x0, 1⟩
  | .module, .pciAptErr => some ⟨0x2600008, 0x0, 1⟩
  | .module, .pciAptErrCnt => some ⟨0x2600010, 0x0, 1⟩
  | .module, .pciIntStatus => some ⟨0x2600040, 0x8, 2⟩
  | .module, .pciApt => some ⟨0x2600100, 0x10, 64⟩
  | .module, .pciIntRoute => some ⟨0x2601000, 0x8, 128⟩
  | .module, .mgtStatus => some ⟨0x2800000, 0x0, 1⟩
  | .module, .mgtDoorbell => some ⟨0x2800008, 0x0, 1⟩
  | .module, .mgtRspLen => some ⟨0x2800010, 0x0, 1⟩
  | .module, .mgtWdogCnt => some ⟨0x2800040, 0x0, 1⟩
  | .endpoint, .fxeId => some ⟨0x0, 0x0, 1⟩
  | .endpoint, .fxeCtl => some ⟨0x8, 0x0, 1⟩
  | .endpoint, .fxePwr => some ⟨0x10, 0x0, 1⟩
  | .endpoint, .fxeDomStatus => some ⟨0x18, 0x0, 1⟩
  | .endpoint, .fxeIntStatus => some ⟨0x20, 0x0, 1⟩
  | .endpoint, .fxeIntEn => some ⟨0x28, 0x0, 1⟩
  | .endpoint, .fxeEvtStatus => some ⟨0x30, 0x0, 1⟩
  | .endpoint, .fxeEvtRead => some ⟨0x38, 0x0, 1⟩
  | .endpoint, .fxeEvtLostCnt => some ⟨0x40, 0x0, 1⟩
  | .endpoint, .fxeEvtSuppressCnt => some ⟨0x48, 0x0, 1⟩
  | .endpoint, .fxeLockDiscardCnt => some ⟨0x50, 0x0, 1⟩
  | .endpoint, .fxeDomain => some ⟨0x100, 0x8, 32⟩
  | .endpoint, .fxePlaneDownA => some ⟨0x200, 0x8, 32⟩
  | .endpoint, .fxePlaneDownB => some ⟨0x300, 0x8, 32⟩
  | .endpoint, .fxeCtxcfg => some ⟨0x400, 0x8, 96⟩
  | .endpoint, .fxeCoh => some ⟨0x800, 0x10, 16⟩
  | .endpoint, .fxeMcast => some ⟨0x900, 0x8, 256⟩
  | .endpoint, .fxeColl => some ⟨0x2000, 0x20, 256⟩
  | .endpoint, .fxeCq => some ⟨0x4000, 0x0, 1⟩
  | .endpoint, .fxeDmaq => some ⟨0x4100, 0x20, 32⟩
  | .endpoint, .fxeDomCtr => some ⟨0x40000, 0x10, 1024⟩
  | .endpoint, .fxeEvt => some ⟨0x60000, 0x20, 256⟩
  | _, _ => none

/-- How many 64-bit words an entry of the register holds. -/
def Reg.words : Reg → Nat
  | .memWin => 4
  | .dirRegion => 2
  | .mrnCtx => 4
  | .redEpi => 16
  | .engQ => 2
  | .engQr => 4
  | .engQdb => 2
  | .pupProg => 8
  | .pwrEp => 2
  | .telStream => 2
  | .secMeas => 8
  | .fltShadow => 4
  | .fltLog => 4
  | .ratRule => 2
  | .pciApt => 2
  | .fxeCoh => 2
  | .fxeColl => 4
  | .fxeCq => 4
  | .fxeDmaq => 4
  | .fxeDomCtr => 2
  | .fxeEvt => 4
  | _ => 1

/-- The registers named as counters, in the layout of R480. -/
def Reg.isCounter : Reg → Bool
  | .tilCapEventCnt => true
  | .tilRetireCnt => true
  | .lnkBipErr => true
  | .lnkCbErr => true
  | .lnkTrainCnt => true
  | .prtCrcErr => true
  | .prtReplayCnt => true
  | .prtFecCorr => true
  | .prtFecUncorr => true
  | .prtFlitLost => true
  | .prtDegradeCnt => true
  | .prtIngressDiscard => true
  | .prtMalformed => true
  | .rteUnreachCnt => true
  | .rteFeatRefuseCnt => true
  | .rteEvictCnt => true
  | .rteRsqBypassCnt => true
  | .rteRsqTimeoutCnt => true
  | .xptRetxCnt => true
  | .xptGiveupCnt => true
  | .xptDupCnt => true
  | .xptOowCnt => true
  | .xptAgeDiscardCnt => true
  | .xptReorderNackCnt => true
  | .xptBarrierCnt => true
  | .xptNackUnmatchedCnt => true
  | .xptPchkDiscardCnt => true
  | .memNoWindowCnt => true
  | .memDenyKeyCnt => true
  | .memDenyClassCnt => true
  | .memDenyRightsCnt => true
  | .memDenyAlignCnt => true
  | .memReplayHitCnt => true
  | .memReplayFullCnt => true
  | .memUnknownCnt => true
  | .memLoadTimeoutCnt => true
  | .memLateRefusalCnt => true
  | .dirBinvCnt => true
  | .dirBcastCnt => true
  | .dirStaleWbCnt => true
  | .dirPoisonCnt => true
  | .dirSnpTimeoutCnt => true
  | .dirNcGrantCnt => true
  | .dirRecoverCnt => true
  | .mrnMismatchCnt => true
  | .mrnCrcFailCnt => true
  | .mrnRestartCnt => true
  | .mrnSharedCnt => true
  | .mrnSpillCnt => true
  | .mrnRefuseCnt => true
  | .mrnAbortCnt => true
  | .mrnStaleCnt => true
  | .mrnAgeCnt => true
  | .mrnKeyDiscardCnt => true
  | .redCommitCnt => true
  | .redReplayCommitCnt => true
  | .redStaleStepCnt => true
  | .redNonfiniteCnt => true
  | .redStateErrCnt => true
  | .redSaturateCnt => true
  | .ctaMacCycleCnt => true
  | .ctaGateWaitCnt => true
  | .ctaPLoadCnt => true
  | .engTileFaultCnt => true
  | .engCmdCnt => true
  | .engLateRefusalCnt => true
  | .atsL2MissCnt => true
  | .atsPrCnt => true
  | .atsPrFailCnt => true
  | .atsInvCnt => true
  | .atsInvAbortCnt => true
  | .topStepCnt => true
  | .topLockLossCnt => true
  | .pwrCapCnt => true
  | .pwrStageCnt => true
  | .pwrWarnCnt => true
  | .pwrViolCnt => true
  | .pwrThermalCnt => true
  | .telSkipCnt => true
  | .telOvfEventCnt => true
  | .secRetiredDropCnt => true
  | .secTagFailCnt => true
  | .secClassFailCnt => true
  | .secNokeyCnt => true
  | .secStaleRefuseCnt => true
  | .secWZeroReadCnt => true
  | .secOwnDiscardCnt => true
  | .secAuthFailCnt => true
  | .fltLostCnt => true
  | .fltSuppressCnt => true
  | .fltQuarCnt => true
  | .fltShadowFailCnt => true
  | .ddrCeCnt => true
  | .ddrUeCnt => true
  | .pciAptErrCnt => true
  | .mgtWdogCnt => true
  | .fxeEvtLostCnt => true
  | .fxeEvtSuppressCnt => true
  | .fxeLockDiscardCnt => true
  | _ => false

/-! The fields of each register, as the register tables list them. -/
namespace Flds

def glbRole : List FieldDesc := [
  ⟨0, 47, 36, .ro, 0, .any⟩,
  ⟨0, 35, 24, .ro, 0, .any⟩,
  ⟨0, 23, 16, .ro, 0, .any⟩,
  ⟨0, 3, 3, .ro, 0, .any⟩,
  ⟨0, 2, 2, .ro, 0, .any⟩,
  ⟨0, 1, 0, .ro, 0, .any⟩]
def glbEid : List FieldDesc := [
  ⟨0, 63, 63, .ro, 0, .any⟩,
  ⟨0, 19, 0, .rwl, 0, .any⟩]
def glbBringupCtl : List FieldDesc := [
  ⟨0, 4, 4, .wo, 0, .any⟩,
  ⟨0, 3, 0, .rwl, 0, (.range 3 11)⟩]
def glbBringupStatus : List FieldDesc := [
  ⟨0, 63, 32, .ro, 0, .any⟩,
  ⟨0, 15, 12, .ro, 0, .any⟩,
  ⟨0, 11, 11, .ro, 0, .any⟩,
  ⟨0, 10, 10, .ro, 0, .any⟩,
  ⟨0, 9, 9, .ro, 0, .any⟩,
  ⟨0, 8, 8, .ro, 0, .any⟩,
  ⟨0, 3, 0, .ro, 2, .any⟩]
def glbReset : List FieldDesc := [
  ⟨0, 2, 0, .wo, 0, (.among [1, 2, 4])⟩]
def jigCtl : List FieldDesc := [
  ⟨0, 7, 0, .rwl, 0, .any⟩]
def jigSrcAddr : List FieldDesc := [
  ⟨0, 63, 12, .rwl, 0, .any⟩]
def jigSrcSize : List FieldDesc := [
  ⟨0, 27, 0, .rwl, 0, .any⟩]
def jigStatus : List FieldDesc := [
  ⟨0, 39, 32, .ro, 0, .any⟩,
  ⟨0, 31, 24, .ro, 0, .any⟩,
  ⟨0, 19, 16, .ro, 0, .any⟩,
  ⟨0, 2, 0, .ro, 0, .any⟩]
def jigImageId : List FieldDesc := [
  ⟨0, 63, 32, .ro, 0, .any⟩,
  ⟨0, 31, 16, .ro, 0, .any⟩,
  ⟨0, 15, 0, .ro, 0, .any⟩]
def jigRoleCmd : List FieldDesc := [
  ⟨0, 63, 60, .wo, 0, (.range 1 3)⟩,
  ⟨0, 56, 54, .wo, 0, .any⟩,
  ⟨0, 10, 0, .wo, 0, .any⟩]
def jigRoleStatus : List FieldDesc := [
  ⟨0, 63, 63, .ro, 0, .any⟩,
  ⟨0, 62, 59, .ro, 0, .any⟩,
  ⟨0, 10, 0, .ro, 0, .any⟩]
def jigDigest : List FieldDesc := [
  ⟨0, 63, 0, .ro, 0, .any⟩]
def tilCtl : List FieldDesc := [
  ⟨0, 31, 16, .rwl, 64, (.range 1 65535)⟩,
  ⟨0, 15, 8, .rwl, 2, (.range 1 255)⟩,
  ⟨0, 0, 0, .rwl, 1, .any⟩]
def tilStatus : List FieldDesc := [
  ⟨0, 43, 32, .ro, 0, .any⟩,
  ⟨0, 23, 16, .ro, 0, .any⟩,
  ⟨0, 0, 0, .ro, 0, .any⟩]
def tilRecordStatus : List FieldDesc := [
  ⟨0, 31, 16, .ro, 0, .any⟩,
  ⟨0, 15, 0, .ro, 0, .any⟩]
def tilRoleCnt : List FieldDesc := [
  ⟨0, 43, 32, .ro, 0, .any⟩,
  ⟨0, 27, 16, .ro, 0, .any⟩,
  ⟨0, 11, 0, .ro, 0, .any⟩]
def tilMap : List FieldDesc := [
  ⟨0, 63, 61, .ro, 0, .any⟩,
  ⟨0, 60, 60, .ro, 0, .any⟩,
  ⟨0, 53, 48, .ro, 0, .any⟩,
  ⟨0, 47, 40, .ro, 0, .any⟩,
  ⟨0, 31, 16, .ro, 0, .any⟩,
  ⟨0, 15, 8, .ro, 0, .any⟩]
def tilPhys : List FieldDesc := [
  ⟨0, 63, 61, .ro, 0, .any⟩,
  ⟨0, 60, 60, .ro, 0, .any⟩,
  ⟨0, 59, 59, .ro, 0, .any⟩,
  ⟨0, 58, 58, .ro, 0, .any⟩,
  ⟨0, 57, 53, .ro, 0, .any⟩,
  ⟨0, 48, 37, .ro, 0, .any⟩]
def nocStatus : List FieldDesc := [
  ⟨0, 1, 1, .ro, 0, .any⟩,
  ⟨0, 0, 0, .ro, 0, .any⟩]
def nocCtl : List FieldDesc := [
  ⟨0, 1, 1, .rwl, 0, .any⟩,
  ⟨0, 0, 0, .rwl, 0, .any⟩]
def lnkCtl : List FieldDesc := [
  ⟨0, 15, 15, .rwl, 0, .any⟩,
  ⟨0, 14, 14, .rwl, 0, .any⟩,
  ⟨0, 13, 12, .rwl, 0, (.range 0 2)⟩,
  ⟨0, 11, 9, .rwl, 3, .any⟩,
  ⟨0, 8, 8, .rwl, 1, .any⟩,
  ⟨0, 3, 3, .wo, 0, .any⟩,
  ⟨0, 2, 2, .wo, 0, .any⟩,
  ⟨0, 1, 1, .wo, 0, .any⟩,
  ⟨0, 0, 0, .rwl, 0, .any⟩]
def lnkStatus : List FieldDesc := [
  ⟨0, 47, 40, .ro, 0, .any⟩,
  ⟨0, 39, 36, .ro, 0, .any⟩,
  ⟨0, 35, 34, .ro, 0, .any⟩,
  ⟨0, 7, 7, .ro, 0, .any⟩,
  ⟨0, 6, 6, .ro, 0, .any⟩,
  ⟨0, 5, 5, .ro, 0, .any⟩,
  ⟨0, 4, 0, .ro, 0, .any⟩]
def lnkFarId : List FieldDesc := [
  ⟨0, 63, 63, .ro, 0, .any⟩,
  ⟨0, 29, 20, .ro, 0, .any⟩,
  ⟨0, 19, 0, .ro, 0, .any⟩]
def lnkPlan : List FieldDesc := [
  ⟨0, 63, 63, .rwl, 0, .any⟩,
  ⟨0, 29, 20, .rwl, 0, .any⟩,
  ⟨0, 19, 0, .rwl, 0, .any⟩]
def lnkTxTaps : List FieldDesc := [
  ⟨0, 37, 31, .ro, 52, .any⟩,
  ⟨0, 29, 0, .ro, 233216, .any⟩]
def prtCtl : List FieldDesc := [
  ⟨0, 11, 8, .ro, 0, .any⟩,
  ⟨0, 7, 4, .rwl, 1, .any⟩,
  ⟨0, 3, 3, .rwl, 1, .any⟩,
  ⟨0, 2, 2, .rwl, 1, .any⟩,
  ⟨0, 1, 1, .wo, 0, .any⟩]
def prtStatus : List FieldDesc := [
  ⟨0, 23, 20, .ro, 0, .any⟩,
  ⟨0, 19, 19, .ro, 0, .any⟩,
  ⟨0, 18, 18, .ro, 0, .any⟩,
  ⟨0, 17, 17, .ro, 0, .any⟩,
  ⟨0, 15, 8, .ro, 0, .any⟩,
  ⟨0, 2, 0, .ro, 0, .any⟩]
def prtVersion : List FieldDesc := [
  ⟨0, 63, 8, .rwl, 2047, .any⟩,
  ⟨0, 7, 4, .ro, 0, .any⟩,
  ⟨0, 3, 0, .ro, 0, .any⟩]
def rteRsqCtl : List FieldDesc := [
  ⟨0, 23, 16, .rwl, 8, (.range 1 64)⟩,
  ⟨0, 1, 1, .rwl, 0, .any⟩,
  ⟨0, 0, 0, .rwl, 0, .any⟩]
def rtePart : List FieldDesc := [
  ⟨0, 47, 32, .rwl, 0, .any⟩,
  ⟨0, 11, 0, .rwl, 0, .any⟩]
def rteFeat : List FieldDesc := [
  ⟨0, 63, 63, .ro, 0, .any⟩,
  ⟨0, 18, 8, .ro, 0, .any⟩]
def rtePgrp : List FieldDesc := [
  ⟨0, 63, 63, .rwl, 0, .any⟩,
  ⟨0, 58, 48, .ro, 0, .any⟩,
  ⟨0, 47, 38, .ro, 0, .any⟩,
  ⟨0, 33, 24, .rwl, 1, (.range 1 512)⟩,
  ⟨0, 11, 0, .rwl, 0, .any⟩]
def rtePmem : List FieldDesc := [
  ⟨0, 63, 63, .rwl, 0, .any⟩,
  ⟨0, 9, 0, .rwl, 0, .any⟩]
def rteRack : List FieldDesc := [
  ⟨0, 63, 63, .rwl, 0, .any⟩,
  ⟨0, 62, 60, .rwl, 0, (.range 0 4)⟩,
  ⟨0, 58, 48, .rwl, 0, .any⟩,
  ⟨0, 47, 40, .rwl, 0, .any⟩,
  ⟨0, 39, 38, .rwl, 0, .any⟩,
  ⟨0, 37, 37, .rwl, 0, .any⟩,
  ⟨0, 36, 34, .rwl, 0, .any⟩]
def rteSlot : List FieldDesc := [
  ⟨0, 63, 63, .rwl, 0, .any⟩,
  ⟨0, 9, 0, .rwl, 0, .any⟩]
def rteMod : List FieldDesc := [
  ⟨0, 63, 63, .rwl, 0, .any⟩,
  ⟨0, 62, 60, .rwl, 0, (.range 0 4)⟩,
  ⟨0, 58, 48, .rwl, 0, .any⟩,
  ⟨0, 47, 40, .rwl, 0, .any⟩,
  ⟨0, 39, 38, .rwl, 0, .any⟩,
  ⟨0, 37, 37, .rwl, 0, .any⟩,
  ⟨0, 36, 34, .rwl, 0, .any⟩]
def rteMcast : List FieldDesc := [
  ⟨0, 63, 63, .rwl, 0, .any⟩,
  ⟨0, 62, 62, .rwl, 0, .any⟩,
  ⟨0, 61, 52, .rwl, 0, .any⟩,
  ⟨0, 51, 44, .rwl, 0, .any⟩,
  ⟨0, 15, 0, .rwl, 0, .any⟩]
def rteRing : List FieldDesc := [
  ⟨0, 63, 63, .rwl, 0, .any⟩,
  ⟨0, 62, 62, .rwl, 0, .any⟩,
  ⟨0, 61, 52, .rwl, 0, .any⟩,
  ⟨0, 51, 42, .rwl, 0, .any⟩]
def xptCtl : List FieldDesc := [
  ⟨0, 23, 20, .rwl, 8, (.range 1 8)⟩,
  ⟨0, 12, 8, .rwl, 20, (.range 5 20)⟩]
def xptStatus : List FieldDesc := [
  ⟨0, 39, 20, .ro, 0, .any⟩,
  ⟨0, 0, 0, .ro, 0, .any⟩]
def xptPeerReset : List FieldDesc := [
  ⟨0, 19, 0, .wo, 0, .any⟩]
def memCtl : List FieldDesc := [
  ⟨0, 13, 0, .rwl, 64, (.range 8 16000)⟩]
def memMwin : List FieldDesc := [
  ⟨0, 63, 63, .rwl, 0, .any⟩,
  ⟨0, 16, 4, .rwl, 0, .any⟩,
  ⟨0, 3, 0, .rwl, 0, .any⟩]
def memReplayStatus : List FieldDesc := [
  ⟨0, 16, 0, .ro, 0, .any⟩]
def memWin : List FieldDesc := [
  ⟨0, 63, 63, .rwl, 0, .any⟩,
  ⟨0, 62, 62, .rwl, 0, .any⟩,
  ⟨0, 61, 61, .rwl, 0, .any⟩,
  ⟨0, 60, 60, .rwl, 0, .any⟩,
  ⟨0, 59, 59, .rwl, 0, .any⟩,
  ⟨0, 58, 58, .rwl, 0, .any⟩,
  ⟨0, 57, 56, .rwl, 0, (.range 0 2)⟩,
  ⟨0, 43, 12, .rwl, 0, .any⟩,
  ⟨1, 43, 12, .rwl, 0, .any⟩,
  ⟨2, 16, 4, .rwl, 0, .any⟩,
  ⟨2, 3, 0, .rwl, 0, .any⟩,
  ⟨3, 63, 12, .rwl, 0, .any⟩]
def dirCtl : List FieldDesc := [
  ⟨0, 31, 16, .rwl, 10000, (.range 1000 65535)⟩,
  ⟨0, 15, 0, .rwl, 40, (.range 10 1000)⟩]
def dirStatus : List FieldDesc := [
  ⟨0, 41, 16, .ro, 0, .any⟩,
  ⟨0, 15, 4, .ro, 0, .any⟩,
  ⟨0, 0, 0, .ro, 0, .any⟩]
def dirPoolCtl : List FieldDesc := [
  ⟨0, 12, 1, .rwl, 0, .any⟩,
  ⟨0, 0, 0, .rwl, 0, .any⟩]
def dirPoolStatus : List FieldDesc := [
  ⟨0, 43, 32, .ro, 0, .any⟩,
  ⟨0, 15, 8, .ro, 0, .any⟩,
  ⟨0, 7, 0, .ro, 0, .any⟩]
def dirRegion : List FieldDesc := [
  ⟨0, 63, 63, .rwl, 0, .any⟩,
  ⟨0, 62, 62, .rwl, 0, .any⟩,
  ⟨0, 61, 61, .rwl, 0, .any⟩,
  ⟨0, 60, 60, .rwl, 0, .any⟩,
  ⟨0, 59, 59, .rwl, 0, .any⟩,
  ⟨0, 58, 58, .ro, 0, .any⟩,
  ⟨0, 43, 21, .rwl, 0, .any⟩,
  ⟨1, 43, 21, .rwl, 0, .any⟩]
def mrnCtl : List FieldDesc := [
  ⟨0, 63, 48, .rwl, 4000, (.range 1000 65535)⟩,
  ⟨0, 47, 32, .rwl, 20000, (.range 1000 65535)⟩,
  ⟨0, 0, 0, .rwl, 1, .any⟩]
def mrnStatus : List FieldDesc := [
  ⟨0, 49, 36, .ro, 0, .any⟩,
  ⟨0, 35, 22, .ro, 0, .any⟩,
  ⟨0, 21, 8, .ro, 0, .any⟩]
def mrnOvfStatus : List FieldDesc := [
  ⟨0, 48, 32, .ro, 0, .any⟩,
  ⟨0, 16, 0, .ro, 0, .any⟩]
def mrnChunkStatus : List FieldDesc := [
  ⟨0, 14, 0, .ro, 0, .any⟩]
def mrnCtx : List FieldDesc := [
  ⟨0, 63, 63, .rwl, 0, .any⟩,
  ⟨0, 62, 60, .ro, 0, .any⟩,
  ⟨0, 59, 56, .rwl, 0, (.range 0 6)⟩,
  ⟨0, 55, 52, .rwl, 0, (.range 0 10)⟩,
  ⟨0, 51, 48, .rwl, 0, (.range 0 10)⟩,
  ⟨0, 47, 44, .rwl, 0, (.range 0 10)⟩,
  ⟨0, 43, 40, .rwl, 0, (.range 0 8)⟩,
  ⟨0, 39, 32, .rwl, 0, .any⟩,
  ⟨0, 15, 0, .rwl, 0, .any⟩,
  ⟨1, 63, 49, .rwl, 1, (.range 1 16384)⟩,
  ⟨1, 48, 35, .rwl, 0, .any⟩,
  ⟨1, 34, 25, .rwl, 1, (.range 1 512)⟩,
  ⟨1, 24, 10, .rwl, 1, (.range 1 16384)⟩,
  ⟨1, 7, 0, .rwl, 0, .any⟩,
  ⟨2, 63, 52, .rwl, 0, .any⟩,
  ⟨2, 51, 41, .rwl, 1, (.range 1 1024)⟩,
  ⟨2, 35, 32, .rwl, 2, (.range 0 7)⟩,
  ⟨2, 31, 0, .rwl, 0, .any⟩,
  ⟨3, 63, 48, .rwl, 500, (.range 100 65535)⟩,
  ⟨3, 47, 35, .rwl, 0, .any⟩,
  ⟨3, 34, 31, .rwl, 0, .any⟩,
  ⟨3, 30, 29, .rwl, 0, (.range 0 1)⟩,
  ⟨3, 28, 15, .ro, 0, .any⟩]
def mrnRoot : List FieldDesc := [
  ⟨0, 63, 63, .rwl, 0, .any⟩,
  ⟨0, 62, 62, .rwl, 0, .any⟩,
  ⟨0, 61, 52, .rwl, 0, .any⟩]
def redCtl : List FieldDesc := [
  ⟨0, 0, 0, .rwl, 0, .any⟩]
def redStatus : List FieldDesc := [
  ⟨0, 15, 0, .ro, 0, .any⟩]
def redQueryCtl : List FieldDesc := [
  ⟨0, 35, 24, .wo, 0, .any⟩,
  ⟨0, 23, 0, .wo, 0, .any⟩]
def redQueryStatus : List FieldDesc := [
  ⟨0, 63, 63, .ro, 0, .any⟩,
  ⟨0, 3, 0, .ro, 0, .any⟩]
def redQueryRec : List FieldDesc := [
  ⟨0, 63, 0, .ro, 0, .any⟩]
def redArith : List FieldDesc := [
  ⟨0, 39, 39, .rwl, 0, .any⟩,
  ⟨0, 38, 38, .rwl, 0, .any⟩,
  ⟨0, 37, 36, .rwl, 1, (.range 0 2)⟩,
  ⟨0, 35, 34, .rwl, 0, (.range 0 2)⟩,
  ⟨0, 31, 0, .rwl, 0, .any⟩]
def redEpiLib : List FieldDesc := [
  ⟨0, 63, 63, .ro, 0, .any⟩,
  ⟨0, 62, 62, .ro, 0, .any⟩,
  ⟨0, 61, 58, .ro, 0, .any⟩,
  ⟨0, 57, 56, .ro, 0, .any⟩,
  ⟨0, 31, 0, .ro, 0, .any⟩]
def redEpi : List FieldDesc := [
  ⟨0, 63, 32, .rwl, 0, .any⟩,
  ⟨0, 31, 0, .rwl, 0, .any⟩,
  ⟨1, 63, 32, .rwl, 0, .any⟩,
  ⟨1, 31, 0, .rwl, 0, .any⟩,
  ⟨2, 63, 32, .rwl, 0, .any⟩,
  ⟨2, 31, 0, .rwl, 0, .any⟩,
  ⟨3, 63, 32, .rwl, 0, .any⟩,
  ⟨3, 31, 0, .rwl, 0, .any⟩,
  ⟨4, 41, 12, .rwl, 0, .any⟩,
  ⟨5, 48, 46, .rwl, 0, (.range 0 3)⟩,
  ⟨5, 45, 42, .rwl, 1, (.among [1, 3, 4, 5, 6, 7, 8])⟩,
  ⟨5, 41, 12, .rwl, 0, .any⟩,
  ⟨6, 63, 40, .rwl, 0, .any⟩,
  ⟨6, 39, 16, .rwl, 0, .any⟩,
  ⟨7, 63, 63, .rwl, 0, .any⟩,
  ⟨8, 63, 32, .rwl, 0, .any⟩,
  ⟨8, 31, 0, .rwl, 0, .any⟩,
  ⟨9, 63, 32, .rwl, 0, .any⟩,
  ⟨9, 31, 0, .rwl, 0, .any⟩,
  ⟨10, 63, 32, .rwl, 0, .any⟩,
  ⟨10, 31, 0, .rwl, 0, .any⟩,
  ⟨11, 63, 32, .rwl, 0, .any⟩,
  ⟨11, 31, 0, .rwl, 0, .any⟩,
  ⟨12, 41, 12, .rwl, 0, .any⟩,
  ⟨13, 48, 46, .rwl, 0, (.range 0 3)⟩,
  ⟨13, 45, 42, .rwl, 1, (.among [1, 3, 4, 5, 6, 7, 8])⟩,
  ⟨13, 41, 12, .rwl, 0, .any⟩,
  ⟨14, 63, 40, .rwl, 0, .any⟩,
  ⟨14, 39, 16, .rwl, 0, .any⟩,
  ⟨15, 63, 63, .rwl, 0, .any⟩]
def ctaCtl : List FieldDesc := [
  ⟨0, 7, 0, .rwl, 0, .any⟩]
def ctaStatus : List FieldDesc := [
  ⟨0, 15, 8, .ro, 0, .any⟩,
  ⟨0, 7, 0, .ro, 0, .any⟩]
def engCtl : List FieldDesc := [
  ⟨0, 45, 32, .rwl, 2560, .any⟩,
  ⟨0, 25, 16, .rwl, 320, .any⟩,
  ⟨0, 9, 0, .rwl, 64, .any⟩]
def engQ : List FieldDesc := [
  ⟨0, 63, 63, .rwl, 0, .any⟩,
  ⟨0, 19, 0, .rwl, 0, .any⟩,
  ⟨1, 63, 60, .ro, 0, .any⟩,
  ⟨1, 18, 6, .rwl, 0, .any⟩,
  ⟨1, 5, 2, .rwl, 0, .any⟩,
  ⟨1, 1, 0, .rwl, 0, (.range 0 2)⟩]
def engQr : List FieldDesc := [
  ⟨0, 63, 12, .rwl, 0, .any⟩,
  ⟨0, 0, 0, .rwl, 0, .any⟩,
  ⟨1, 63, 12, .rwl, 0, .any⟩,
  ⟨1, 0, 0, .rwl, 0, .any⟩,
  ⟨2, 63, 63, .rwl, 0, .any⟩,
  ⟨2, 62, 62, .rwl, 0, .any⟩,
  ⟨2, 61, 61, .ro, 0, .any⟩,
  ⟨2, 60, 57, .ro, 0, .any⟩,
  ⟨2, 4, 0, .rwl, 6, (.range 6 16)⟩,
  ⟨3, 47, 32, .ro, 0, .any⟩,
  ⟨3, 15, 0, .ro, 0, .any⟩]
def engQdb : List FieldDesc := [
  ⟨0, 15, 0, .rw, 0, .any⟩,
  ⟨1, 15, 0, .rw, 0, .any⟩]
def atsStatus : List FieldDesc := [
  ⟨0, 53, 48, .ro, 0, .any⟩,
  ⟨0, 47, 32, .ro, 0, .any⟩,
  ⟨0, 31, 16, .ro, 0, .any⟩,
  ⟨0, 2, 2, .ro, 0, .any⟩,
  ⟨0, 1, 1, .ro, 0, .any⟩,
  ⟨0, 0, 0, .ro, 0, .any⟩]
def atsCtl : List FieldDesc := [
  ⟨0, 0, 0, .wo, 0, .any⟩]
def pupStatus : List FieldDesc := [
  ⟨0, 15, 8, .ro, 0, .any⟩,
  ⟨0, 7, 0, .ro, 0, .any⟩]
def pupLoad : List FieldDesc := [
  ⟨0, 63, 60, .wo, 0, .any⟩,
  ⟨0, 59, 48, .wo, 0, .any⟩,
  ⟨0, 41, 0, .wo, 0, .any⟩]
def pupProg : List FieldDesc := [
  ⟨0, 63, 61, .ro, 0, .any⟩,
  ⟨0, 60, 57, .ro, 0, .any⟩,
  ⟨0, 56, 56, .wo, 0, .any⟩,
  ⟨0, 55, 44, .ro, 0, .any⟩,
  ⟨0, 43, 32, .ro, 0, .any⟩,
  ⟨1, 63, 0, .ro, 0, .any⟩,
  ⟨2, 63, 0, .ro, 0, .any⟩,
  ⟨3, 63, 0, .ro, 0, .any⟩,
  ⟨4, 63, 0, .ro, 0, .any⟩,
  ⟨5, 63, 0, .ro, 0, .any⟩,
  ⟨6, 63, 0, .ro, 0, .any⟩,
  ⟨7, 63, 0, .ro, 0, .any⟩]
def topCtl : List FieldDesc := [
  ⟨0, 63, 54, .rwl, 0, .any⟩,
  ⟨0, 53, 44, .rwl, 0, .any⟩,
  ⟨0, 43, 43, .rwl, 0, .any⟩,
  ⟨0, 42, 42, .rwl, 0, .any⟩,
  ⟨0, 41, 40, .rwl, 0, .any⟩,
  ⟨0, 39, 39, .rwl, 1, .any⟩,
  ⟨0, 38, 38, .rwl, 0, .any⟩,
  ⟨0, 37, 28, .rwl, 500, (.range 1 1000)⟩,
  ⟨0, 27, 12, .rwl, 1000, (.range 100 65535)⟩,
  ⟨0, 2, 2, .rwl, 0, .any⟩,
  ⟨0, 1, 1, .rwl, 1, .any⟩,
  ⟨0, 0, 0, .rwl, 1, .any⟩]
def topStatus : List FieldDesc := [
  ⟨0, 21, 21, .ro, 0, .any⟩,
  ⟨0, 20, 20, .ro, 0, .any⟩,
  ⟨0, 19, 19, .ro, 0, .any⟩,
  ⟨0, 18, 18, .ro, 0, .any⟩,
  ⟨0, 17, 8, .ro, 0, .any⟩,
  ⟨0, 7, 4, .ro, 15, .any⟩,
  ⟨0, 2, 0, .ro, 0, .any⟩]
def topTime : List FieldDesc := [
  ⟨0, 63, 0, .ro, 0, .any⟩]
def topSet : List FieldDesc := [
  ⟨0, 63, 0, .rwl, 0, .any⟩]
def topSetCtl : List FieldDesc := [
  ⟨0, 1, 1, .wo, 0, .any⟩,
  ⟨0, 0, 0, .wo, 0, .any⟩]
def topOffset : List FieldDesc := [
  ⟨0, 63, 0, .ro, 0, .any⟩]
def topPpsDelay : List FieldDesc := [
  ⟨0, 15, 0, .rwl, 0, .any⟩]
def topAsym : List FieldDesc := [
  ⟨0, 15, 0, .rwl, 0, .any⟩]
def pwrCapCtl : List FieldDesc := [
  ⟨0, 63, 44, .rwl, 1048575, .any⟩,
  ⟨0, 43, 32, .rwl, 2600, .any⟩,
  ⟨0, 31, 12, .rwl, 0, .any⟩,
  ⟨0, 2, 2, .rwl, 1, .any⟩,
  ⟨0, 1, 1, .rwl, 0, .any⟩]
def pwrStatus : List FieldDesc := [
  ⟨0, 63, 32, .ro, 0, .any⟩,
  ⟨0, 15, 12, .ro, 0, .any⟩,
  ⟨0, 9, 9, .ro, 0, .any⟩,
  ⟨0, 8, 8, .ro, 0, .any⟩,
  ⟨0, 7, 7, .ro, 0, .any⟩,
  ⟨0, 6, 6, .ro, 0, .any⟩,
  ⟨0, 5, 5, .ro, 0, .any⟩,
  ⟨0, 4, 4, .ro, 0, .any⟩,
  ⟨0, 3, 3, .ro, 0, .any⟩,
  ⟨0, 2, 0, .ro, 0, .any⟩]
def pwrInput : List FieldDesc := [
  ⟨0, 63, 48, .ro, 0, .any⟩,
  ⟨0, 47, 32, .ro, 0, .any⟩,
  ⟨0, 31, 16, .ro, 0, .any⟩]
def pwrCtl : List FieldDesc := [
  ⟨0, 31, 24, .rwl, 20, .any⟩,
  ⟨0, 23, 16, .rwl, 5, .any⟩,
  ⟨0, 15, 8, .rwl, 3, (.range 1 15)⟩]
def pwrEp : List FieldDesc := [
  ⟨0, 63, 48, .rwl, 65535, .any⟩,
  ⟨0, 47, 32, .rwl, 0, .any⟩,
  ⟨0, 31, 24, .rwl, 1, .any⟩,
  ⟨0, 0, 0, .wo, 0, .any⟩,
  ⟨1, 63, 48, .ro, 0, .any⟩,
  ⟨1, 47, 32, .ro, 0, .any⟩,
  ⟨1, 31, 28, .ro, 0, .any⟩,
  ⟨1, 27, 27, .ro, 0, .any⟩,
  ⟨1, 26, 26, .ro, 0, .any⟩]
def telCtl : List FieldDesc := [
  ⟨0, 63, 48, .rwl, 1000, .any⟩]
def telSnapCtl : List FieldDesc := [
  ⟨0, 15, 0, .wo, 0, .any⟩]
def telSnapStatus : List FieldDesc := [
  ⟨0, 63, 63, .ro, 0, .any⟩,
  ⟨0, 31, 0, .ro, 0, .any⟩]
def telPolicy : List FieldDesc := [
  ⟨0, 63, 32, .w1c, 0, .any⟩,
  ⟨0, 31, 0, .ro, 0, .any⟩]
def telBgCtl : List FieldDesc := [
  ⟨0, 63, 48, .rwl, 60, (.range 1 65535)⟩,
  ⟨0, 5, 0, .rwl, 0, .any⟩]
def telStream : List FieldDesc := [
  ⟨0, 63, 63, .rwl, 0, .any⟩,
  ⟨0, 62, 58, .rwl, 8, (.range 4 20)⟩,
  ⟨0, 53, 34, .rwl, 1000, (.range 10 1000000)⟩,
  ⟨0, 32, 29, .rwl, 0, .any⟩,
  ⟨0, 28, 16, .rwl, 0, .any⟩,
  ⟨0, 15, 0, .rwl, 0, .any⟩,
  ⟨1, 63, 44, .rwl, 0, .any⟩,
  ⟨1, 43, 12, .rwl, 0, .any⟩]
def secCtl : List FieldDesc := [
  ⟨0, 63, 48, .rwl, 1000, (.range 600 65535)⟩,
  ⟨0, 47, 36, .rwl, 30, (.range 5 3600)⟩,
  ⟨0, 0, 0, .ro, 0, .any⟩]
def secStatus : List FieldDesc := [
  ⟨0, 63, 48, .ro, 0, .any⟩,
  ⟨0, 47, 44, .ro, 0, .any⟩,
  ⟨0, 43, 43, .ro, 0, .any⟩,
  ⟨0, 42, 42, .ro, 0, .any⟩,
  ⟨0, 41, 41, .ro, 0, .any⟩,
  ⟨0, 12, 0, .ro, 0, .any⟩]
def secMinVer : List FieldDesc := [
  ⟨0, 63, 32, .ro, 0, .any⟩,
  ⟨0, 31, 0, .ro, 0, .any⟩]
def secSlotCmd : List FieldDesc := [
  ⟨0, 63, 60, .wo, 0, (.range 1 2)⟩,
  ⟨0, 16, 4, .wo, 0, .any⟩,
  ⟨0, 3, 0, .wo, 0, .any⟩]
def secRetireStatus : List FieldDesc := [
  ⟨0, 63, 63, .ro, 0, .any⟩,
  ⟨0, 62, 59, .ro, 0, .any⟩,
  ⟨0, 12, 0, .ro, 0, .any⟩]
def secOwn : List FieldDesc := [
  ⟨0, 47, 36, .ro, 0, .any⟩]
def secSigner : List FieldDesc := [
  ⟨0, 63, 63, .ro, 0, .any⟩,
  ⟨0, 62, 62, .ro, 0, .any⟩,
  ⟨0, 61, 60, .ro, 0, .any⟩,
  ⟨0, 31, 0, .ro, 0, .any⟩]
def secCred : List FieldDesc := [
  ⟨0, 63, 63, .ro, 0, .any⟩,
  ⟨0, 62, 59, .ro, 0, .any⟩,
  ⟨0, 31, 0, .ro, 0, .any⟩]
def secMeas : List FieldDesc := [
  ⟨0, 63, 0, .ro, 0, .any⟩,
  ⟨1, 63, 0, .ro, 0, .any⟩,
  ⟨2, 63, 0, .ro, 0, .any⟩,
  ⟨3, 63, 0, .ro, 0, .any⟩,
  ⟨4, 63, 0, .ro, 0, .any⟩,
  ⟨5, 63, 0, .ro, 0, .any⟩,
  ⟨6, 63, 0, .ro, 0, .any⟩,
  ⟨7, 63, 0, .ro, 0, .any⟩]
def secSlot : List FieldDesc := [
  ⟨0, 63, 62, .ro, 0, .any⟩,
  ⟨0, 61, 60, .ro, 0, .any⟩,
  ⟨0, 59, 59, .ro, 0, .any⟩,
  ⟨0, 58, 58, .ro, 0, .any⟩,
  ⟨0, 57, 57, .ro, 0, .any⟩,
  ⟨0, 56, 56, .ro, 0, .any⟩,
  ⟨0, 55, 52, .ro, 0, .any⟩,
  ⟨0, 48, 48, .ro, 0, .any⟩,
  ⟨0, 47, 32, .ro, 0, .any⟩,
  ⟨0, 31, 0, .ro, 0, .any⟩]
def fltCtl : List FieldDesc := [
  ⟨0, 15, 6, .rwl, 10, (.range 1 1000)⟩,
  ⟨0, 3, 3, .rwl, 0, .any⟩,
  ⟨0, 2, 2, .rwl, 0, .any⟩,
  ⟨0, 1, 1, .rwl, 1, .any⟩,
  ⟨0, 0, 0, .rwl, 1, .any⟩]
def fltStatus : List FieldDesc := [
  ⟨0, 63, 61, .ro, 0, .any⟩,
  ⟨0, 60, 60, .ro, 0, .any⟩]
def fltLogStatus : List FieldDesc := [
  ⟨0, 31, 0, .ro, 0, .any⟩]
def fltLogRead : List FieldDesc := [
  ⟨0, 31, 0, .rw, 0, .any⟩]
def fltShadow : List FieldDesc := [
  ⟨0, 63, 63, .rwl, 0, .any⟩,
  ⟨0, 62, 62, .rwl, 0, .any⟩,
  ⟨0, 61, 61, .rwl, 0, .any⟩,
  ⟨0, 60, 51, .rwl, 0, .any⟩,
  ⟨0, 47, 34, .rwl, 0, .any⟩,
  ⟨0, 11, 0, .rwl, 0, .any⟩,
  ⟨1, 63, 32, .rwl, 0, .any⟩,
  ⟨1, 31, 0, .rwl, 0, .any⟩,
  ⟨2, 63, 32, .ro, 0, .any⟩,
  ⟨2, 31, 0, .ro, 0, .any⟩,
  ⟨3, 63, 32, .rwl, 1024, .any⟩,
  ⟨3, 1, 1, .ro, 0, .any⟩,
  ⟨3, 0, 0, .ro, 0, .any⟩]
def fltDomain : List FieldDesc := [
  ⟨0, 63, 63, .rwl, 0, .any⟩,
  ⟨0, 21, 16, .rwl, 0, .any⟩,
  ⟨0, 11, 8, .rwl, 0, .any⟩,
  ⟨0, 3, 0, .rwl, 0, .any⟩]
def fltLive : List FieldDesc := [
  ⟨0, 63, 61, .ro, 0, .any⟩,
  ⟨0, 39, 39, .rwl, 0, .any⟩,
  ⟨0, 38, 32, .ro, 0, .any⟩,
  ⟨0, 19, 0, .ro, 0, .any⟩]
def fltLog : List FieldDesc := [
  ⟨0, 63, 0, .ro, 0, .any⟩,
  ⟨1, 63, 0, .ro, 0, .any⟩,
  ⟨2, 63, 0, .ro, 0, .any⟩,
  ⟨3, 63, 0, .ro, 0, .any⟩]
def ratCtl : List FieldDesc := [
  ⟨0, 63, 63, .rwl, 0, .any⟩,
  ⟨0, 31, 0, .rwl, 0, .any⟩]
def ratRule : List FieldDesc := [
  ⟨0, 63, 63, .rwl, 0, .any⟩,
  ⟨0, 62, 60, .rwl, 0, .any⟩,
  ⟨0, 59, 58, .rwl, 0, .any⟩,
  ⟨0, 57, 47, .rwl, 0, .any⟩,
  ⟨0, 46, 39, .rwl, 0, .any⟩,
  ⟨0, 38, 34, .rwl, 0, .any⟩,
  ⟨0, 33, 16, .rwl, 0, .any⟩,
  ⟨0, 15, 0, .rwl, 0, (.range 1 65535)⟩,
  ⟨1, 47, 0, .ro, 0, .any⟩]
def ddrCh : List FieldDesc := [
  ⟨0, 63, 63, .ro, 0, .any⟩,
  ⟨0, 62, 62, .ro, 0, .any⟩,
  ⟨0, 61, 61, .ro, 0, .any⟩,
  ⟨0, 47, 36, .ro, 0, .any⟩,
  ⟨0, 35, 20, .ro, 0, .any⟩]
def pciStatus : List FieldDesc := [
  ⟨0, 15, 12, .ro, 0, .any⟩,
  ⟨0, 11, 6, .ro, 0, .any⟩,
  ⟨0, 5, 5, .ro, 0, .any⟩,
  ⟨0, 4, 3, .ro, 0, .any⟩]
def pciAptErr : List FieldDesc := [
  ⟨0, 63, 63, .w1c, 0, .any⟩,
  ⟨0, 62, 59, .ro, 0, .any⟩,
  ⟨0, 58, 58, .ro, 0, .any⟩,
  ⟨0, 35, 0, .ro, 0, .any⟩]
def pciIntStatus : List FieldDesc := [
  ⟨0, 63, 0, .w1c, 0, .any⟩]
def pciApt : List FieldDesc := [
  ⟨0, 63, 63, .rwl, 0, .any⟩,
  ⟨0, 62, 62, .rwl, 0, .any⟩,
  ⟨0, 61, 61, .rwl, 0, .any⟩,
  ⟨0, 60, 57, .rwl, 0, .any⟩,
  ⟨0, 33, 0, .rwl, 0, .any⟩,
  ⟨1, 16, 4, .rwl, 0, .any⟩,
  ⟨1, 3, 0, .rwl, 0, .any⟩]
def pciIntRoute : List FieldDesc := [
  ⟨0, 63, 63, .rw, 0, .any⟩,
  ⟨0, 23, 16, .rw, 0, .any⟩,
  ⟨0, 10, 0, .rw, 0, .any⟩]
def mgtStatus : List FieldDesc := [
  ⟨0, 3, 3, .ro, 0, .any⟩,
  ⟨0, 2, 2, .ro, 0, .any⟩,
  ⟨0, 1, 0, .ro, 0, .any⟩]
def mgtDoorbell : List FieldDesc := [
  ⟨0, 12, 0, .wo, 0, .any⟩]
def mgtRspLen : List FieldDesc := [
  ⟨0, 12, 0, .ro, 0, .any⟩]
def fxeId : List FieldDesc := [
  ⟨0, 63, 63, .ro, 0, .any⟩,
  ⟨0, 62, 62, .rwl, 0, .any⟩,
  ⟨0, 19, 0, .ro, 0, .any⟩]
def fxeCtl : List FieldDesc := [
  ⟨0, 63, 54, .rwl, 50, (.range 5 1000)⟩,
  ⟨0, 53, 44, .rwl, 100, (.range 1 1000)⟩,
  ⟨0, 43, 28, .rwl, 1000, (.range 100 65535)⟩,
  ⟨0, 23, 14, .rwl, 100, (.range 10 1000)⟩,
  ⟨0, 13, 0, .rwl, 64, (.range 8 16000)⟩]
def fxePwr : List FieldDesc := [
  ⟨0, 63, 48, .ro, 0, .any⟩,
  ⟨0, 47, 32, .rwl, 0, .any⟩,
  ⟨0, 31, 16, .ro, 0, .any⟩,
  ⟨0, 15, 14, .ro, 2, .any⟩,
  ⟨0, 13, 13, .ro, 1, .any⟩]
def fxeDomStatus : List FieldDesc := [
  ⟨0, 47, 13, .ro, 0, .any⟩,
  ⟨0, 12, 0, .ro, 0, .any⟩]
def fxeIntStatus : List FieldDesc := [
  ⟨0, 12, 0, .w1c, 0, .any⟩]
def fxeIntEn : List FieldDesc := [
  ⟨0, 12, 0, .rw, 0, .any⟩]
def fxeEvtStatus : List FieldDesc := [
  ⟨0, 31, 0, .ro, 0, .any⟩,
  ⟨0, 39, 32, .ro, 8, .any⟩]
def fxeEvtRead : List FieldDesc := [
  ⟨0, 31, 0, .rw, 0, .any⟩]
def fxeDomain : List FieldDesc := [
  ⟨0, 63, 0, .rwl, 0, .any⟩]
def fxePlaneDownA : List FieldDesc := [
  ⟨0, 63, 0, .rwl, 0, .any⟩]
def fxePlaneDownB : List FieldDesc := [
  ⟨0, 63, 0, .rwl, 0, .any⟩]
def fxeCtxcfg : List FieldDesc := [
  ⟨0, 63, 63, .rwl, 0, .any⟩,
  ⟨0, 18, 6, .rwl, 0, .any⟩,
  ⟨0, 5, 2, .rwl, 0, .any⟩,
  ⟨0, 1, 0, .rwl, 0, (.range 0 2)⟩]
def fxeCoh : List FieldDesc := [
  ⟨0, 63, 63, .rwl, 0, .any⟩,
  ⟨0, 62, 62, .rwl, 0, .any⟩,
  ⟨0, 61, 61, .w1c, 0, .any⟩,
  ⟨0, 43, 21, .rwl, 0, .any⟩,
  ⟨0, 19, 0, .rwl, 0, .any⟩,
  ⟨1, 43, 21, .rwl, 0, .any⟩]
def fxeMcast : List FieldDesc := [
  ⟨0, 63, 63, .rwl, 0, .any⟩,
  ⟨0, 46, 32, .rwl, 0, .any⟩,
  ⟨0, 15, 0, .rwl, 0, .any⟩]
def fxeColl : List FieldDesc := [
  ⟨0, 63, 63, .rwl, 0, .any⟩,
  ⟨0, 62, 61, .rwl, 0, .any⟩,
  ⟨0, 60, 57, .rwl, 0, (.range 0 6)⟩,
  ⟨0, 56, 53, .rwl, 0, (.range 0 10)⟩,
  ⟨0, 52, 49, .rwl, 0, (.range 0 10)⟩,
  ⟨0, 48, 45, .rwl, 0, (.range 0 8)⟩,
  ⟨0, 44, 38, .rwl, 1, (.range 1 64)⟩,
  ⟨0, 15, 0, .rwl, 0, .any⟩,
  ⟨1, 63, 49, .rwl, 1, .any⟩,
  ⟨1, 48, 35, .rwl, 0, .any⟩,
  ⟨2, 63, 51, .rwl, 0, .any⟩,
  ⟨2, 50, 47, .rwl, 0, .any⟩,
  ⟨2, 46, 45, .rwl, 0, .any⟩]
def fxeCq : List FieldDesc := [
  ⟨0, 63, 6, .rw, 0, .any⟩,
  ⟨1, 63, 63, .rw, 0, .any⟩,
  ⟨1, 62, 62, .rw, 0, .any⟩,
  ⟨1, 61, 61, .rw, 0, .any⟩,
  ⟨1, 4, 0, .rw, 6, (.range 6 16)⟩,
  ⟨2, 15, 0, .rw, 0, .any⟩,
  ⟨3, 63, 60, .ro, 0, .any⟩,
  ⟨3, 59, 56, .ro, 0, .any⟩,
  ⟨3, 15, 0, .ro, 0, .any⟩]
def fxeDmaq : List FieldDesc := [
  ⟨0, 63, 6, .rw, 0, .any⟩,
  ⟨1, 63, 63, .rw, 0, .any⟩,
  ⟨1, 62, 62, .rw, 0, .any⟩,
  ⟨1, 61, 61, .rw, 0, .any⟩,
  ⟨1, 4, 0, .rw, 6, (.range 6 16)⟩,
  ⟨2, 15, 0, .rw, 0, .any⟩,
  ⟨3, 63, 60, .ro, 0, .any⟩,
  ⟨3, 59, 56, .ro, 0, .any⟩,
  ⟨3, 15, 0, .ro, 0, .any⟩]
def fxeDomCtr : List FieldDesc := [
  ⟨0, 63, 63, .ro, 0, .any⟩,
  ⟨0, 62, 59, .ro, 0, .any⟩,
  ⟨0, 31, 0, .rw, 0, .any⟩,
  ⟨1, 63, 0, .rw, 0, .any⟩]
def fxeEvt : List FieldDesc := [
  ⟨0, 63, 0, .ro, 0, .any⟩,
  ⟨1, 63, 0, .ro, 0, .any⟩,
  ⟨2, 63, 0, .ro, 0, .any⟩,
  ⟨3, 63, 0, .ro, 0, .any⟩]

end Flds

/-- The fields of a register. A counter has OVF (W1C) and COUNT (RO), R480. -/
def Reg.fields : Reg → List FieldDesc
  | .glbRole => Flds.glbRole
  | .glbEid => Flds.glbEid
  | .glbBringupCtl => Flds.glbBringupCtl
  | .glbBringupStatus => Flds.glbBringupStatus
  | .glbReset => Flds.glbReset
  | .jigCtl => Flds.jigCtl
  | .jigSrcAddr => Flds.jigSrcAddr
  | .jigSrcSize => Flds.jigSrcSize
  | .jigStatus => Flds.jigStatus
  | .jigImageId => Flds.jigImageId
  | .jigRoleCmd => Flds.jigRoleCmd
  | .jigRoleStatus => Flds.jigRoleStatus
  | .jigDigest => Flds.jigDigest
  | .tilCtl => Flds.tilCtl
  | .tilStatus => Flds.tilStatus
  | .tilRecordStatus => Flds.tilRecordStatus
  | .tilRoleCnt => Flds.tilRoleCnt
  | .tilMap => Flds.tilMap
  | .tilPhys => Flds.tilPhys
  | .nocStatus => Flds.nocStatus
  | .nocCtl => Flds.nocCtl
  | .lnkCtl => Flds.lnkCtl
  | .lnkStatus => Flds.lnkStatus
  | .lnkFarId => Flds.lnkFarId
  | .lnkPlan => Flds.lnkPlan
  | .lnkTxTaps => Flds.lnkTxTaps
  | .prtCtl => Flds.prtCtl
  | .prtStatus => Flds.prtStatus
  | .prtVersion => Flds.prtVersion
  | .rteRsqCtl => Flds.rteRsqCtl
  | .rtePart => Flds.rtePart
  | .rteFeat => Flds.rteFeat
  | .rtePgrp => Flds.rtePgrp
  | .rtePmem => Flds.rtePmem
  | .rteRack => Flds.rteRack
  | .rteSlot => Flds.rteSlot
  | .rteMod => Flds.rteMod
  | .rteMcast => Flds.rteMcast
  | .rteRing => Flds.rteRing
  | .xptCtl => Flds.xptCtl
  | .xptStatus => Flds.xptStatus
  | .xptPeerReset => Flds.xptPeerReset
  | .memCtl => Flds.memCtl
  | .memMwin => Flds.memMwin
  | .memReplayStatus => Flds.memReplayStatus
  | .memWin => Flds.memWin
  | .dirCtl => Flds.dirCtl
  | .dirStatus => Flds.dirStatus
  | .dirPoolCtl => Flds.dirPoolCtl
  | .dirPoolStatus => Flds.dirPoolStatus
  | .dirRegion => Flds.dirRegion
  | .mrnCtl => Flds.mrnCtl
  | .mrnStatus => Flds.mrnStatus
  | .mrnOvfStatus => Flds.mrnOvfStatus
  | .mrnChunkStatus => Flds.mrnChunkStatus
  | .mrnCtx => Flds.mrnCtx
  | .mrnRoot => Flds.mrnRoot
  | .redCtl => Flds.redCtl
  | .redStatus => Flds.redStatus
  | .redQueryCtl => Flds.redQueryCtl
  | .redQueryStatus => Flds.redQueryStatus
  | .redQueryRec => Flds.redQueryRec
  | .redArith => Flds.redArith
  | .redEpiLib => Flds.redEpiLib
  | .redEpi => Flds.redEpi
  | .ctaCtl => Flds.ctaCtl
  | .ctaStatus => Flds.ctaStatus
  | .engCtl => Flds.engCtl
  | .engQ => Flds.engQ
  | .engQr => Flds.engQr
  | .engQdb => Flds.engQdb
  | .atsStatus => Flds.atsStatus
  | .atsCtl => Flds.atsCtl
  | .pupStatus => Flds.pupStatus
  | .pupLoad => Flds.pupLoad
  | .pupProg => Flds.pupProg
  | .topCtl => Flds.topCtl
  | .topStatus => Flds.topStatus
  | .topTime => Flds.topTime
  | .topSet => Flds.topSet
  | .topSetCtl => Flds.topSetCtl
  | .topOffset => Flds.topOffset
  | .topPpsDelay => Flds.topPpsDelay
  | .topAsym => Flds.topAsym
  | .pwrCapCtl => Flds.pwrCapCtl
  | .pwrStatus => Flds.pwrStatus
  | .pwrInput => Flds.pwrInput
  | .pwrCtl => Flds.pwrCtl
  | .pwrEp => Flds.pwrEp
  | .telCtl => Flds.telCtl
  | .telSnapCtl => Flds.telSnapCtl
  | .telSnapStatus => Flds.telSnapStatus
  | .telPolicy => Flds.telPolicy
  | .telBgCtl => Flds.telBgCtl
  | .telStream => Flds.telStream
  | .secCtl => Flds.secCtl
  | .secStatus => Flds.secStatus
  | .secMinVer => Flds.secMinVer
  | .secSlotCmd => Flds.secSlotCmd
  | .secRetireStatus => Flds.secRetireStatus
  | .secOwn => Flds.secOwn
  | .secSigner => Flds.secSigner
  | .secCred => Flds.secCred
  | .secMeas => Flds.secMeas
  | .secSlot => Flds.secSlot
  | .fltCtl => Flds.fltCtl
  | .fltStatus => Flds.fltStatus
  | .fltLogStatus => Flds.fltLogStatus
  | .fltLogRead => Flds.fltLogRead
  | .fltShadow => Flds.fltShadow
  | .fltDomain => Flds.fltDomain
  | .fltLive => Flds.fltLive
  | .fltLog => Flds.fltLog
  | .ratCtl => Flds.ratCtl
  | .ratRule => Flds.ratRule
  | .ddrCh => Flds.ddrCh
  | .pciStatus => Flds.pciStatus
  | .pciAptErr => Flds.pciAptErr
  | .pciIntStatus => Flds.pciIntStatus
  | .pciApt => Flds.pciApt
  | .pciIntRoute => Flds.pciIntRoute
  | .mgtStatus => Flds.mgtStatus
  | .mgtDoorbell => Flds.mgtDoorbell
  | .mgtRspLen => Flds.mgtRspLen
  | .fxeId => Flds.fxeId
  | .fxeCtl => Flds.fxeCtl
  | .fxePwr => Flds.fxePwr
  | .fxeDomStatus => Flds.fxeDomStatus
  | .fxeIntStatus => Flds.fxeIntStatus
  | .fxeIntEn => Flds.fxeIntEn
  | .fxeEvtStatus => Flds.fxeEvtStatus
  | .fxeEvtRead => Flds.fxeEvtRead
  | .fxeDomain => Flds.fxeDomain
  | .fxePlaneDownA => Flds.fxePlaneDownA
  | .fxePlaneDownB => Flds.fxePlaneDownB
  | .fxeCtxcfg => Flds.fxeCtxcfg
  | .fxeCoh => Flds.fxeCoh
  | .fxeMcast => Flds.fxeMcast
  | .fxeColl => Flds.fxeColl
  | .fxeCq => Flds.fxeCq
  | .fxeDmaq => Flds.fxeDmaq
  | .fxeDomCtr => Flds.fxeDomCtr
  | .fxeEvt => Flds.fxeEvt
  | r => if r.isCounter then [⟨0, 63, 63, .w1c, 0, .any⟩, ⟨0, 47, 0, .ro, 0, .any⟩] else []

/-- A field by name: its register, word and bits. -/
structure Field where
  reg : Reg
  word : Nat
  hi : Nat
  lo : Nat
deriving DecidableEq, Repr

/-! The fields by name: block, register and field of the spec in one lowerCamelCase name. -/
namespace Fld

def glbRoleLogicalTiles : Field := ⟨.glbRole, 0, 47, 36⟩
def glbRolePhysicalGood : Field := ⟨.glbRole, 0, 35, 24⟩
def glbRoleImageFmt : Field := ⟨.glbRole, 0, 23, 16⟩
def glbRolePlane : Field := ⟨.glbRole, 0, 3, 3⟩
def glbRoleValid : Field := ⟨.glbRole, 0, 2, 2⟩
def glbRoleRole : Field := ⟨.glbRole, 0, 1, 0⟩
def glbEidLocked : Field := ⟨.glbEid, 0, 63, 63⟩
def glbEidEid : Field := ⟨.glbEid, 0, 19, 0⟩
def glbBringupCtlUnload : Field := ⟨.glbBringupCtl, 0, 4, 4⟩
def glbBringupCtlStep : Field := ⟨.glbBringupCtl, 0, 3, 0⟩
def glbBringupStatusElapsedMs : Field := ⟨.glbBringupStatus, 0, 63, 32⟩
def glbBringupStatusStatus : Field := ⟨.glbBringupStatus, 0, 15, 12⟩
def glbBringupStatusFail : Field := ⟨.glbBringupStatus, 0, 11, 11⟩
def glbBringupStatusBusy : Field := ⟨.glbBringupStatus, 0, 10, 10⟩
def glbBringupStatusNoTopLock : Field := ⟨.glbBringupStatus, 0, 9, 9⟩
def glbBringupStatusEnabled : Field := ⟨.glbBringupStatus, 0, 8, 8⟩
def glbBringupStatusStep : Field := ⟨.glbBringupStatus, 0, 3, 0⟩
def glbResetClass : Field := ⟨.glbReset, 0, 2, 0⟩
def jigCtlHostRegIf : Field := ⟨.jigCtl, 0, 7, 0⟩
def jigSrcAddrAddr : Field := ⟨.jigSrcAddr, 0, 63, 12⟩
def jigSrcSizeSize : Field := ⟨.jigSrcSize, 0, 27, 0⟩
def jigStatusFailSection : Field := ⟨.jigStatus, 0, 39, 32⟩
def jigStatusSections : Field := ⟨.jigStatus, 0, 31, 24⟩
def jigStatusStatus : Field := ⟨.jigStatus, 0, 19, 16⟩
def jigStatusState : Field := ⟨.jigStatus, 0, 2, 0⟩
def jigImageIdImageVersion : Field := ⟨.jigImageId, 0, 63, 32⟩
def jigImageIdRegIf : Field := ⟨.jigImageId, 0, 31, 16⟩
def jigImageIdMgmtIf : Field := ⟨.jigImageId, 0, 15, 0⟩
def jigRoleCmdOp : Field := ⟨.jigRoleCmd, 0, 63, 60⟩
def jigRoleCmdRole : Field := ⟨.jigRoleCmd, 0, 56, 54⟩
def jigRoleCmdTile : Field := ⟨.jigRoleCmd, 0, 10, 0⟩
def jigRoleStatusBusy : Field := ⟨.jigRoleStatus, 0, 63, 63⟩
def jigRoleStatusStatus : Field := ⟨.jigRoleStatus, 0, 62, 59⟩
def jigRoleStatusTile : Field := ⟨.jigRoleStatus, 0, 10, 0⟩
def jigDigestDigest : Field := ⟨.jigDigest, 0, 63, 0⟩
def tilCtlCeThresh : Field := ⟨.tilCtl, 0, 31, 16⟩
def tilCtlUeThresh : Field := ⟨.tilCtl, 0, 15, 8⟩
def tilCtlAutoRetire : Field := ⟨.tilCtl, 0, 0, 0⟩
def tilStatusMissing : Field := ⟨.tilStatus, 0, 43, 32⟩
def tilStatusRowsNoSpare : Field := ⟨.tilStatus, 0, 23, 16⟩
def tilStatusMigrating : Field := ⟨.tilStatus, 0, 0, 0⟩
def tilRecordStatusFree : Field := ⟨.tilRecordStatus, 0, 31, 16⟩
def tilRecordStatusUsed : Field := ⟨.tilRecordStatus, 0, 15, 0⟩
def tilRoleCntImage : Field := ⟨.tilRoleCnt, 0, 43, 32⟩
def tilRoleCntInService : Field := ⟨.tilRoleCnt, 0, 27, 16⟩
def tilRoleCntMin : Field := ⟨.tilRoleCnt, 0, 11, 0⟩
def tilMapRole : Field := ⟨.tilMap, 0, 63, 61⟩
def tilMapRedirect : Field := ⟨.tilMap, 0, 60, 60⟩
def tilMapPhysCol : Field := ⟨.tilMap, 0, 53, 48⟩
def tilMapLaneGroup : Field := ⟨.tilMap, 0, 47, 40⟩
def tilMapCeLast : Field := ⟨.tilMap, 0, 31, 16⟩
def tilMapUeCnt : Field := ⟨.tilMap, 0, 15, 8⟩
def tilPhysRole : Field := ⟨.tilPhys, 0, 63, 61⟩
def tilPhysFuseBad : Field := ⟨.tilPhys, 0, 60, 60⟩
def tilPhysFieldBad : Field := ⟨.tilPhys, 0, 59, 59⟩
def tilPhysBistBad : Field := ⟨.tilPhys, 0, 58, 58⟩
def tilPhysRowsRepaired : Field := ⟨.tilPhys, 0, 57, 53⟩
def tilPhysLogical : Field := ⟨.tilPhys, 0, 48, 37⟩
def nocStatusPlane1Ok : Field := ⟨.nocStatus, 0, 1, 1⟩
def nocStatusPlane0Ok : Field := ⟨.nocStatus, 0, 0, 0⟩
def nocCtlPlane1Dis : Field := ⟨.nocCtl, 0, 1, 1⟩
def nocCtlPlane0Dis : Field := ⟨.nocCtl, 0, 0, 0⟩
def lnkCtlCircuit : Field := ⟨.lnkCtl, 0, 15, 15⟩
def lnkCtlAdaptFreeze : Field := ⟨.lnkCtl, 0, 14, 14⟩
def lnkCtlPower : Field := ⟨.lnkCtl, 0, 13, 12⟩
def lnkCtlInitPreset : Field := ⟨.lnkCtl, 0, 11, 9⟩
def lnkCtlPrecodeAllow : Field := ⟨.lnkCtl, 0, 8, 8⟩
def lnkCtlRetrain : Field := ⟨.lnkCtl, 0, 3, 3⟩
def lnkCtlCacheFlush : Field := ⟨.lnkCtl, 0, 2, 2⟩
def lnkCtlSpareNow : Field := ⟨.lnkCtl, 0, 1, 1⟩
def lnkCtlEnable : Field := ⟨.lnkCtl, 0, 0, 0⟩
def lnkStatusSlice : Field := ⟨.lnkStatus, 0, 47, 40⟩
def lnkStatusReason : Field := ⟨.lnkStatus, 0, 39, 36⟩
def lnkStatusAttempts : Field := ⟨.lnkStatus, 0, 35, 34⟩
def lnkStatusPrecodeTx : Field := ⟨.lnkStatus, 0, 7, 7⟩
def lnkStatusPrecodeRx : Field := ⟨.lnkStatus, 0, 6, 6⟩
def lnkStatusCacheHit : Field := ⟨.lnkStatus, 0, 5, 5⟩
def lnkStatusState : Field := ⟨.lnkStatus, 0, 4, 0⟩
def lnkFarIdValid : Field := ⟨.lnkFarId, 0, 63, 63⟩
def lnkFarIdPort : Field := ⟨.lnkFarId, 0, 29, 20⟩
def lnkFarIdEid : Field := ⟨.lnkFarId, 0, 19, 0⟩
def lnkPlanValid : Field := ⟨.lnkPlan, 0, 63, 63⟩
def lnkPlanPort : Field := ⟨.lnkPlan, 0, 29, 20⟩
def lnkPlanEid : Field := ⟨.lnkPlan, 0, 19, 0⟩
def lnkTxTapsMain : Field := ⟨.lnkTxTaps, 0, 37, 31⟩
def lnkTxTapsOuter : Field := ⟨.lnkTxTaps, 0, 29, 0⟩
def prtCtlWidth : Field := ⟨.prtCtl, 0, 11, 8⟩
def prtCtlMinWidth : Field := ⟨.prtCtl, 0, 7, 4⟩
def prtCtlUpconfigEn : Field := ⟨.prtCtl, 0, 3, 3⟩
def prtCtlIlAllow : Field := ⟨.prtCtl, 0, 2, 2⟩
def prtCtlDown : Field := ⟨.prtCtl, 0, 1, 1⟩
def prtStatusReason : Field := ⟨.prtStatus, 0, 23, 20⟩
def prtStatusVerFail : Field := ⟨.prtStatus, 0, 19, 19⟩
def prtStatusVerMismatch : Field := ⟨.prtStatus, 0, 18, 18⟩
def prtStatusIlOn : Field := ⟨.prtStatus, 0, 17, 17⟩
def prtStatusActiveMask : Field := ⟨.prtStatus, 0, 15, 8⟩
def prtStatusState : Field := ⟨.prtStatus, 0, 2, 0⟩
def prtVersionOffer : Field := ⟨.prtVersion, 0, 63, 8⟩
def prtVersionNegMajor : Field := ⟨.prtVersion, 0, 7, 4⟩
def prtVersionNegMinor : Field := ⟨.prtVersion, 0, 3, 0⟩
def rteRsqCtlGapUs : Field := ⟨.rteRsqCtl, 0, 23, 16⟩
def rteRsqCtlLocalEn : Field := ⟨.rteRsqCtl, 0, 1, 1⟩
def rteRsqCtlEn : Field := ⟨.rteRsqCtl, 0, 0, 0⟩
def rtePartEgressRes : Field := ⟨.rtePart, 0, 47, 32⟩
def rtePartIngressGrant : Field := ⟨.rtePart, 0, 11, 0⟩
def rteFeatUp : Field := ⟨.rteFeat, 0, 63, 63⟩
def rteFeatInForce : Field := ⟨.rteFeat, 0, 18, 8⟩
def rtePgrpValid : Field := ⟨.rtePgrp, 0, 63, 63⟩
def rtePgrpFeat : Field := ⟨.rtePgrp, 0, 58, 48⟩
def rtePgrpUpCount : Field := ⟨.rtePgrp, 0, 47, 38⟩
def rtePgrpCount : Field := ⟨.rtePgrp, 0, 33, 24⟩
def rtePgrpFirst : Field := ⟨.rtePgrp, 0, 11, 0⟩
def rtePmemValid : Field := ⟨.rtePmem, 0, 63, 63⟩
def rtePmemPort : Field := ⟨.rtePmem, 0, 9, 0⟩
def rteRackValid : Field := ⟨.rteRack, 0, 63, 63⟩
def rteRackKind : Field := ⟨.rteRack, 0, 62, 60⟩
def rteRackPathFeat : Field := ⟨.rteRack, 0, 58, 48⟩
def rteRackPgrp : Field := ⟨.rteRack, 0, 47, 40⟩
def rteRackRing : Field := ⟨.rteRack, 0, 39, 38⟩
def rteRackRingDir : Field := ⟨.rteRack, 0, 37, 37⟩
def rteRackRingHops : Field := ⟨.rteRack, 0, 36, 34⟩
def rteSlotValid : Field := ⟨.rteSlot, 0, 63, 63⟩
def rteSlotPort : Field := ⟨.rteSlot, 0, 9, 0⟩
def rteModValid : Field := ⟨.rteMod, 0, 63, 63⟩
def rteModKind : Field := ⟨.rteMod, 0, 62, 60⟩
def rteModPathFeat : Field := ⟨.rteMod, 0, 58, 48⟩
def rteModPgrp : Field := ⟨.rteMod, 0, 47, 40⟩
def rteModRing : Field := ⟨.rteMod, 0, 39, 38⟩
def rteModRingDir : Field := ⟨.rteMod, 0, 37, 37⟩
def rteModRingHops : Field := ⟨.rteMod, 0, 36, 34⟩
def rteMcastValid : Field := ⟨.rteMcast, 0, 63, 63⟩
def rteMcastUpEn : Field := ⟨.rteMcast, 0, 62, 62⟩
def rteMcastUpPort : Field := ⟨.rteMcast, 0, 61, 52⟩
def rteMcastDownPgrp : Field := ⟨.rteMcast, 0, 51, 44⟩
def rteMcastGroup : Field := ⟨.rteMcast, 0, 15, 0⟩
def rteRingValid : Field := ⟨.rteRing, 0, 63, 63⟩
def rteRingPrevValid : Field := ⟨.rteRing, 0, 62, 62⟩
def rteRingNextPort : Field := ⟨.rteRing, 0, 61, 52⟩
def rteRingPrevPort : Field := ⟨.rteRing, 0, 51, 42⟩
def xptCtlRetries : Field := ⟨.xptCtl, 0, 23, 20⟩
def xptCtlRtoBase : Field := ⟨.xptCtl, 0, 12, 8⟩
def xptStatusEntriesUsed : Field := ⟨.xptStatus, 0, 39, 20⟩
def xptStatusPeerResetBusy : Field := ⟨.xptStatus, 0, 0, 0⟩
def xptPeerResetEid : Field := ⟨.xptPeerReset, 0, 19, 0⟩
def memCtlLoadTimeout : Field := ⟨.memCtl, 0, 13, 0⟩
def memMwinValid : Field := ⟨.memMwin, 0, 63, 63⟩
def memMwinKeyIndex : Field := ⟨.memMwin, 0, 16, 4⟩
def memMwinKeyEpoch : Field := ⟨.memMwin, 0, 3, 0⟩
def memReplayStatusInUse : Field := ⟨.memReplayStatus, 0, 16, 0⟩
def memWinValid : Field := ⟨.memWin, 0, 63, 63⟩
def memWinRead : Field := ⟨.memWin, 0, 62, 62⟩
def memWinWrite : Field := ⟨.memWin, 0, 61, 61⟩
def memWinAtomic : Field := ⟨.memWin, 0, 60, 60⟩
def memWinRdMostly : Field := ⟨.memWin, 0, 59, 59⟩
def memWinMcast : Field := ⟨.memWin, 0, 58, 58⟩
def memWinDclass : Field := ⟨.memWin, 0, 57, 56⟩
def memWinBase : Field := ⟨.memWin, 0, 43, 12⟩
def memWinLimit : Field := ⟨.memWin, 1, 43, 12⟩
def memWinKeyIndex : Field := ⟨.memWin, 2, 16, 4⟩
def memWinKeyEpoch : Field := ⟨.memWin, 2, 3, 0⟩
def memWinLocal : Field := ⟨.memWin, 3, 63, 12⟩
def dirCtlRecoverTimeout : Field := ⟨.dirCtl, 0, 31, 16⟩
def dirCtlSnpTimeout : Field := ⟨.dirCtl, 0, 15, 0⟩
def dirStatusEntries : Field := ⟨.dirStatus, 0, 41, 16⟩
def dirStatusTiles : Field := ⟨.dirStatus, 0, 15, 4⟩
def dirStatusFlushing : Field := ⟨.dirStatus, 0, 0, 0⟩
def dirPoolCtlReserveGib : Field := ⟨.dirPoolCtl, 0, 12, 1⟩
def dirPoolCtlEn : Field := ⟨.dirPoolCtl, 0, 0, 0⟩
def dirPoolStatusPoolGib : Field := ⟨.dirPoolStatus, 0, 43, 32⟩
def dirPoolStatusFastTiles : Field := ⟨.dirPoolStatus, 0, 15, 8⟩
def dirPoolStatusFastMissing : Field := ⟨.dirPoolStatus, 0, 7, 0⟩
def dirRegionValid : Field := ⟨.dirRegion, 0, 63, 63⟩
def dirRegionCoherent : Field := ⟨.dirRegion, 0, 62, 62⟩
def dirRegionMode : Field := ⟨.dirRegion, 0, 61, 61⟩
def dirRegionAuto : Field := ⟨.dirRegion, 0, 60, 60⟩
def dirRegionMirror : Field := ⟨.dirRegion, 0, 59, 59⟩
def dirRegionModeNow : Field := ⟨.dirRegion, 0, 58, 58⟩
def dirRegionBase : Field := ⟨.dirRegion, 0, 43, 21⟩
def dirRegionLimit : Field := ⟨.dirRegion, 1, 43, 21⟩
def mrnCtlRetainUs : Field := ⟨.mrnCtl, 0, 63, 48⟩
def mrnCtlHoldUs : Field := ⟨.mrnCtl, 0, 47, 32⟩
def mrnCtlOvfEn : Field := ⟨.mrnCtl, 0, 0, 0⟩
def mrnStatusSlotsTotal : Field := ⟨.mrnStatus, 0, 49, 36⟩
def mrnStatusSlotsReserved : Field := ⟨.mrnStatus, 0, 35, 22⟩
def mrnStatusSharedInUse : Field := ⟨.mrnStatus, 0, 21, 8⟩
def mrnOvfStatusOvfSlots : Field := ⟨.mrnOvfStatus, 0, 48, 32⟩
def mrnOvfStatusOvfInUse : Field := ⟨.mrnOvfStatus, 0, 16, 0⟩
def mrnChunkStatusOpen : Field := ⟨.mrnChunkStatus, 0, 14, 0⟩
def mrnCtxValid : Field := ⟨.mrnCtx, 0, 63, 63⟩
def mrnCtxState : Field := ⟨.mrnCtx, 0, 62, 60⟩
def mrnCtxOp : Field := ⟨.mrnCtx, 0, 59, 56⟩
def mrnCtxFmtIn : Field := ⟨.mrnCtx, 0, 55, 52⟩
def mrnCtxFmtUp : Field := ⟨.mrnCtx, 0, 51, 48⟩
def mrnCtxFmtDown : Field := ⟨.mrnCtx, 0, 47, 44⟩
def mrnCtxChunkCode : Field := ⟨.mrnCtx, 0, 43, 40⟩
def mrnCtxEpilogue : Field := ⟨.mrnCtx, 0, 39, 32⟩
def mrnCtxGroup : Field := ⟨.mrnCtx, 0, 15, 0⟩
def mrnCtxMembers : Field := ⟨.mrnCtx, 1, 63, 49⟩
def mrnCtxResSlots : Field := ⟨.mrnCtx, 1, 48, 35⟩
def mrnCtxExpectChildren : Field := ⟨.mrnCtx, 1, 34, 25⟩
def mrnCtxExpectCount : Field := ⟨.mrnCtx, 1, 24, 10⟩
def mrnCtxChildPgrp : Field := ⟨.mrnCtx, 1, 7, 0⟩
def mrnCtxRootFirst : Field := ⟨.mrnCtx, 2, 63, 52⟩
def mrnCtxRootCount : Field := ⟨.mrnCtx, 2, 51, 41⟩
def mrnCtxMaxRestarts : Field := ⟨.mrnCtx, 2, 35, 32⟩
def mrnCtxSalt : Field := ⟨.mrnCtx, 2, 31, 0⟩
def mrnCtxChunkTimeout : Field := ⟨.mrnCtx, 3, 63, 48⟩
def mrnCtxKeyIndex : Field := ⟨.mrnCtx, 3, 47, 35⟩
def mrnCtxKeyEpoch : Field := ⟨.mrnCtx, 3, 34, 31⟩
def mrnCtxDclass : Field := ⟨.mrnCtx, 3, 30, 29⟩
def mrnCtxSlotsInUse : Field := ⟨.mrnCtx, 3, 28, 15⟩
def mrnRootValid : Field := ⟨.mrnRoot, 0, 63, 63⟩
def mrnRootSelf : Field := ⟨.mrnRoot, 0, 62, 62⟩
def mrnRootPort : Field := ⟨.mrnRoot, 0, 61, 52⟩
def redCtlCommitPause : Field := ⟨.redCtl, 0, 0, 0⟩
def redStatusEpiOpen : Field := ⟨.redStatus, 0, 15, 0⟩
def redQueryCtlCtx : Field := ⟨.redQueryCtl, 0, 35, 24⟩
def redQueryCtlChunk : Field := ⟨.redQueryCtl, 0, 23, 0⟩
def redQueryStatusDone : Field := ⟨.redQueryStatus, 0, 63, 63⟩
def redQueryStatusStatus : Field := ⟨.redQueryStatus, 0, 3, 0⟩
def redQueryRecRecord : Field := ⟨.redQueryRec, 0, 63, 0⟩
def redArithNanSkip : Field := ⟨.redArith, 0, 39, 39⟩
def redArithComp : Field := ⟨.redArith, 0, 38, 38⟩
def redArithRoundDown : Field := ⟨.redArith, 0, 37, 36⟩
def redArithRoundUp : Field := ⟨.redArith, 0, 35, 34⟩
def redArithSeed : Field := ⟨.redArith, 0, 31, 0⟩
def redEpiLibValid : Field := ⟨.redEpiLib, 0, 63, 63⟩
def redEpiLibStateful : Field := ⟨.redEpiLib, 0, 62, 62⟩
def redEpiLibCastFmt : Field := ⟨.redEpiLib, 0, 61, 58⟩
def redEpiLibCastRound : Field := ⟨.redEpiLib, 0, 57, 56⟩
def redEpiLibOps : Field := ⟨.redEpiLib, 0, 31, 0⟩
def redEpiLr : Field := ⟨.redEpi, 0, 63, 32⟩
def redEpiScale : Field := ⟨.redEpi, 0, 31, 0⟩
def redEpiClipHi : Field := ⟨.redEpi, 1, 63, 32⟩
def redEpiClipLo : Field := ⟨.redEpi, 1, 31, 0⟩
def redEpiBeta2 : Field := ⟨.redEpi, 2, 63, 32⟩
def redEpiBeta1 : Field := ⟨.redEpi, 2, 31, 0⟩
def redEpiWd : Field := ⟨.redEpi, 3, 63, 32⟩
def redEpiEps : Field := ⟨.redEpi, 3, 31, 0⟩
def redEpiStateBase : Field := ⟨.redEpi, 4, 41, 12⟩
def redEpiProjD : Field := ⟨.redEpi, 5, 48, 46⟩
def redEpiProjFmt : Field := ⟨.redEpi, 5, 45, 42⟩
def redEpiProjBase : Field := ⟨.redEpi, 5, 41, 12⟩
def redEpiFromStep : Field := ⟨.redEpi, 6, 63, 40⟩
def redEpiNchunks : Field := ⟨.redEpi, 6, 39, 16⟩
def redEpiValid : Field := ⟨.redEpi, 7, 63, 63⟩
def ctaCtlArrayDis : Field := ⟨.ctaCtl, 0, 7, 0⟩
def ctaStatusGated : Field := ⟨.ctaStatus, 0, 15, 8⟩
def ctaStatusBusy : Field := ⟨.ctaStatus, 0, 7, 0⟩
def engCtlPupTags : Field := ⟨.engCtl, 0, 45, 32⟩
def engCtlCopyTags : Field := ⟨.engCtl, 0, 25, 16⟩
def engCtlCtaTags : Field := ⟨.engCtl, 0, 9, 0⟩
def engQValid : Field := ⟨.engQ, 0, 63, 63⟩
def engQPasid : Field := ⟨.engQ, 0, 19, 0⟩
def engQLateStatus : Field := ⟨.engQ, 1, 63, 60⟩
def engQKeyIndex : Field := ⟨.engQ, 1, 18, 6⟩
def engQKeyEpoch : Field := ⟨.engQ, 1, 5, 2⟩
def engQDclass : Field := ⟨.engQ, 1, 1, 0⟩
def engQrCmdBase : Field := ⟨.engQr, 0, 63, 12⟩
def engQrCmdDdr : Field := ⟨.engQr, 0, 0, 0⟩
def engQrCplBase : Field := ⟨.engQr, 1, 63, 12⟩
def engQrCplDdr : Field := ⟨.engQr, 1, 0, 0⟩
def engQrEn : Field := ⟨.engQr, 2, 63, 63⟩
def engQrStopOnErr : Field := ⟨.engQr, 2, 62, 62⟩
def engQrStopped : Field := ⟨.engQr, 2, 61, 61⟩
def engQrStatus : Field := ⟨.engQr, 2, 60, 57⟩
def engQrSizeLog2 : Field := ⟨.engQr, 2, 4, 0⟩
def engQrCtail : Field := ⟨.engQr, 3, 47, 32⟩
def engQrHead : Field := ⟨.engQr, 3, 15, 0⟩
def engQdbTail : Field := ⟨.engQdb, 0, 15, 0⟩
def engQdbChead : Field := ⟨.engQdb, 1, 15, 0⟩
def atsStatusInvPending : Field := ⟨.atsStatus, 0, 53, 48⟩
def atsStatusPrOutstanding : Field := ⟨.atsStatus, 0, 47, 32⟩
def atsStatusPrAlloc : Field := ⟨.atsStatus, 0, 31, 16⟩
def atsStatusPasidEn : Field := ⟨.atsStatus, 0, 2, 2⟩
def atsStatusPriEn : Field := ⟨.atsStatus, 0, 1, 1⟩
def atsStatusAtsEn : Field := ⟨.atsStatus, 0, 0, 0⟩
def atsCtlFlush : Field := ⟨.atsCtl, 0, 0, 0⟩
def pupStatusFreeCores : Field := ⟨.pupStatus, 0, 15, 8⟩
def pupStatusFwCores : Field := ⟨.pupStatus, 0, 7, 0⟩
def pupLoadSlot : Field := ⟨.pupLoad, 0, 63, 60⟩
def pupLoadCores : Field := ⟨.pupLoad, 0, 59, 48⟩
def pupLoadImage : Field := ⟨.pupLoad, 0, 41, 0⟩
def pupProgState : Field := ⟨.pupProg, 0, 63, 61⟩
def pupProgStatus : Field := ⟨.pupProg, 0, 60, 57⟩
def pupProgKill : Field := ⟨.pupProg, 0, 56, 56⟩
def pupProgCoreFirst : Field := ⟨.pupProg, 0, 55, 44⟩
def pupProgCoreCount : Field := ⟨.pupProg, 0, 43, 32⟩
def pupProgFaultPc : Field := ⟨.pupProg, 1, 63, 0⟩
def pupProgW2 : Field := ⟨.pupProg, 2, 63, 0⟩
def pupProgW3 : Field := ⟨.pupProg, 3, 63, 0⟩
def pupProgW4 : Field := ⟨.pupProg, 4, 63, 0⟩
def pupProgW5 : Field := ⟨.pupProg, 5, 63, 0⟩
def pupProgW6 : Field := ⟨.pupProg, 6, 63, 0⟩
def pupProgW7 : Field := ⟨.pupProg, 7, 63, 0⟩
def topCtlParent0 : Field := ⟨.topCtl, 0, 63, 54⟩
def topCtlParent1 : Field := ⟨.topCtl, 0, 53, 44⟩
def topCtlParent1Valid : Field := ⟨.topCtl, 0, 43, 43⟩
def topCtlParent0Valid : Field := ⟨.topCtl, 0, 42, 42⟩
def topCtlRole : Field := ⟨.topCtl, 0, 41, 40⟩
def topCtlAutoGm : Field := ⟨.topCtl, 0, 39, 39⟩
def topCtlBackStep : Field := ⟨.topCtl, 0, 38, 38⟩
def topCtlHoldoverMs : Field := ⟨.topCtl, 0, 37, 28⟩
def topCtlStepThresh : Field := ⟨.topCtl, 0, 27, 12⟩
def topCtlFreeRoot : Field := ⟨.topCtl, 0, 2, 2⟩
def topCtlPpsOutEn : Field := ⟨.topCtl, 0, 1, 1⟩
def topCtlRefclkEn : Field := ⟨.topCtl, 0, 0, 0⟩
def topStatusStepped : Field := ⟨.topStatus, 0, 21, 21⟩
def topStatusIsGm : Field := ⟨.topStatus, 0, 20, 20⟩
def topStatusExtOk : Field := ⟨.topStatus, 0, 19, 19⟩
def topStatusPeerPpsOk : Field := ⟨.topStatus, 0, 18, 18⟩
def topStatusSourcePort : Field := ⟨.topStatus, 0, 17, 8⟩
def topStatusStratum : Field := ⟨.topStatus, 0, 7, 4⟩
def topStatusState : Field := ⟨.topStatus, 0, 2, 0⟩
def topTimeNs : Field := ⟨.topTime, 0, 63, 0⟩
def topSetNs : Field := ⟨.topSet, 0, 63, 0⟩
def topSetCtlAtPps : Field := ⟨.topSetCtl, 0, 1, 1⟩
def topSetCtlGo : Field := ⟨.topSetCtl, 0, 0, 0⟩
def topOffsetPs : Field := ⟨.topOffset, 0, 63, 0⟩
def topPpsDelayPs : Field := ⟨.topPpsDelay, 0, 15, 0⟩
def topAsymPs : Field := ⟨.topAsym, 0, 15, 0⟩
def pwrCapCtlRackCap : Field := ⟨.pwrCapCtl, 0, 63, 44⟩
def pwrCapCtlOwnCap : Field := ⟨.pwrCapCtl, 0, 43, 32⟩
def pwrCapCtlOtherW : Field := ⟨.pwrCapCtl, 0, 31, 12⟩
def pwrCapCtlStageEn : Field := ⟨.pwrCapCtl, 0, 2, 2⟩
def pwrCapCtlGrantEn : Field := ⟨.pwrCapCtl, 0, 1, 1⟩
def pwrStatusEstimate : Field := ⟨.pwrStatus, 0, 63, 32⟩
def pwrStatusStagesLeft : Field := ⟨.pwrStatus, 0, 15, 12⟩
def pwrStatusThermal : Field := ⟨.pwrStatus, 0, 9, 9⟩
def pwrStatusWarnPin : Field := ⟨.pwrStatus, 0, 8, 8⟩
def pwrStatusWarn : Field := ⟨.pwrStatus, 0, 7, 7⟩
def pwrStatusOwnOver : Field := ⟨.pwrStatus, 0, 6, 6⟩
def pwrStatusInfeasible : Field := ⟨.pwrStatus, 0, 5, 5⟩
def pwrStatusOver : Field := ⟨.pwrStatus, 0, 4, 4⟩
def pwrStatusStaging : Field := ⟨.pwrStatus, 0, 3, 3⟩
def pwrStatusShedLevel : Field := ⟨.pwrStatus, 0, 2, 0⟩
def pwrInputVin : Field := ⟨.pwrInput, 0, 63, 48⟩
def pwrInputIin : Field := ⟨.pwrInput, 0, 47, 32⟩
def pwrInputPin : Field := ⟨.pwrInput, 0, 31, 16⟩
def pwrCtlHeadroom : Field := ⟨.pwrCtl, 0, 31, 24⟩
def pwrCtlTol : Field := ⟨.pwrCtl, 0, 23, 16⟩
def pwrCtlViolLimit : Field := ⟨.pwrCtl, 0, 15, 8⟩
def pwrEpMax : Field := ⟨.pwrEp, 0, 63, 48⟩
def pwrEpFloor : Field := ⟨.pwrEp, 0, 47, 32⟩
def pwrEpWeight : Field := ⟨.pwrEp, 0, 31, 24⟩
def pwrEpClear : Field := ⟨.pwrEp, 0, 0, 0⟩
def pwrEpGrant : Field := ⟨.pwrEp, 1, 63, 48⟩
def pwrEpReport : Field := ⟨.pwrEp, 1, 47, 32⟩
def pwrEpViolations : Field := ⟨.pwrEp, 1, 31, 28⟩
def pwrEpForcedFloor : Field := ⟨.pwrEp, 1, 27, 27⟩
def pwrEpNoReport : Field := ⟨.pwrEp, 1, 26, 26⟩
def telCtlMaxRate : Field := ⟨.telCtl, 0, 63, 48⟩
def telSnapCtlGroups : Field := ⟨.telSnapCtl, 0, 15, 0⟩
def telSnapStatusBusy : Field := ⟨.telSnapStatus, 0, 63, 63⟩
def telSnapStatusSeq : Field := ⟨.telSnapStatus, 0, 31, 0⟩
def telPolicySticky : Field := ⟨.telPolicy, 0, 63, 32⟩
def telPolicyActive : Field := ⟨.telPolicy, 0, 31, 0⟩
def telBgCtlMaxPauseMin : Field := ⟨.telBgCtl, 0, 63, 48⟩
def telBgCtlPause : Field := ⟨.telBgCtl, 0, 5, 0⟩
def telStreamValid : Field := ⟨.telStream, 0, 63, 63⟩
def telStreamRingLog2 : Field := ⟨.telStream, 0, 62, 58⟩
def telStreamPeriodUs : Field := ⟨.telStream, 0, 53, 34⟩
def telStreamKeyEpoch : Field := ⟨.telStream, 0, 32, 29⟩
def telStreamKeyIndex : Field := ⟨.telStream, 0, 28, 16⟩
def telStreamGroups : Field := ⟨.telStream, 0, 15, 0⟩
def telStreamDstEid : Field := ⟨.telStream, 1, 63, 44⟩
def telStreamBase : Field := ⟨.telStream, 1, 43, 12⟩
def secCtlDrainUs : Field := ⟨.secCtl, 0, 63, 48⟩
def secCtlLeaseS : Field := ⟨.secCtl, 0, 47, 36⟩
def secCtlFullRes : Field := ⟨.secCtl, 0, 0, 0⟩
def secStatusPrGen : Field := ⟨.secStatus, 0, 63, 48⟩
def secStatusSessions : Field := ⟨.secStatus, 0, 47, 44⟩
def secStatusBootB : Field := ⟨.secStatus, 0, 43, 43⟩
def secStatusTestArmed : Field := ⟨.secStatus, 0, 42, 42⟩
def secStatusDebugOn : Field := ⟨.secStatus, 0, 41, 41⟩
def secStatusWSlots : Field := ⟨.secStatus, 0, 12, 0⟩
def secMinVerMinBootVersion : Field := ⟨.secMinVer, 0, 63, 32⟩
def secMinVerMinImageVersion : Field := ⟨.secMinVer, 0, 31, 0⟩
def secSlotCmdOp : Field := ⟨.secSlotCmd, 0, 63, 60⟩
def secSlotCmdKeyIndex : Field := ⟨.secSlotCmd, 0, 16, 4⟩
def secSlotCmdKeyEpoch : Field := ⟨.secSlotCmd, 0, 3, 0⟩
def secRetireStatusBusy : Field := ⟨.secRetireStatus, 0, 63, 63⟩
def secRetireStatusStatus : Field := ⟨.secRetireStatus, 0, 62, 59⟩
def secRetireStatusKeyIndex : Field := ⟨.secRetireStatus, 0, 12, 0⟩
def secOwnHeld : Field := ⟨.secOwn, 0, 47, 36⟩
def secSignerValid : Field := ⟨.secSigner, 0, 63, 63⟩
def secSignerRevoked : Field := ⟨.secSigner, 0, 62, 62⟩
def secSignerUse : Field := ⟨.secSigner, 0, 61, 60⟩
def secSignerKeyId : Field := ⟨.secSigner, 0, 31, 0⟩
def secCredValid : Field := ⟨.secCred, 0, 63, 63⟩
def secCredRoles : Field := ⟨.secCred, 0, 62, 59⟩
def secCredKeyId : Field := ⟨.secCred, 0, 31, 0⟩
def secMeasW0 : Field := ⟨.secMeas, 0, 63, 0⟩
def secMeasW1 : Field := ⟨.secMeas, 1, 63, 0⟩
def secMeasW2 : Field := ⟨.secMeas, 2, 63, 0⟩
def secMeasW3 : Field := ⟨.secMeas, 3, 63, 0⟩
def secMeasW4 : Field := ⟨.secMeas, 4, 63, 0⟩
def secMeasW5 : Field := ⟨.secMeas, 5, 63, 0⟩
def secMeasW6 : Field := ⟨.secMeas, 6, 63, 0⟩
def secMeasW7 : Field := ⟨.secMeas, 7, 63, 0⟩
def secSlotState : Field := ⟨.secSlot, 0, 63, 62⟩
def secSlotClass : Field := ⟨.secSlot, 0, 61, 60⟩
def secSlotStale : Field := ⟨.secSlot, 0, 59, 59⟩
def secSlotEngineOk : Field := ⟨.secSlot, 0, 58, 58⟩
def secSlotProgOk : Field := ⟨.secSlot, 0, 57, 57⟩
def secSlotPrevValid : Field := ⟨.secSlot, 0, 56, 56⟩
def secSlotEpoch : Field := ⟨.secSlot, 0, 55, 52⟩
def secSlotEpochOpen : Field := ⟨.secSlot, 0, 48, 48⟩
def secSlotLoadPrGen : Field := ⟨.secSlot, 0, 47, 32⟩
def secSlotOwnerId : Field := ⟨.secSlot, 0, 31, 0⟩
def fltCtlQuarMs : Field := ⟨.fltCtl, 0, 15, 6⟩
def fltCtlWarnInt : Field := ⟨.fltCtl, 0, 3, 3⟩
def fltCtlStopOnFull : Field := ⟨.fltCtl, 0, 2, 2⟩
def fltCtlAutoWarm : Field := ⟨.fltCtl, 0, 1, 1⟩
def fltCtlQuarEn : Field := ⟨.fltCtl, 0, 0, 0⟩
def fltStatusLastReset : Field := ⟨.fltStatus, 0, 63, 61⟩
def fltStatusFatal : Field := ⟨.fltStatus, 0, 60, 60⟩
def fltLogStatusWriteSeq : Field := ⟨.fltLogStatus, 0, 31, 0⟩
def fltLogReadReadSeq : Field := ⟨.fltLogRead, 0, 31, 0⟩
def fltShadowValid : Field := ⟨.fltShadow, 0, 63, 63⟩
def fltShadowKind : Field := ⟨.fltShadow, 0, 62, 62⟩
def fltShadowSide : Field := ⟨.fltShadow, 0, 61, 61⟩
def fltShadowShadowPort : Field := ⟨.fltShadow, 0, 60, 51⟩
def fltShadowPeerMember : Field := ⟨.fltShadow, 0, 47, 34⟩
def fltShadowCtx : Field := ⟨.fltShadow, 0, 11, 0⟩
def fltShadowTolRel : Field := ⟨.fltShadow, 1, 63, 32⟩
def fltShadowTolAbs : Field := ⟨.fltShadow, 1, 31, 0⟩
def fltShadowCompared : Field := ⟨.fltShadow, 2, 63, 32⟩
def fltShadowSkipped : Field := ⟨.fltShadow, 2, 31, 0⟩
def fltShadowMinChunks : Field := ⟨.fltShadow, 3, 63, 32⟩
def fltShadowFailed : Field := ⟨.fltShadow, 3, 1, 1⟩
def fltShadowPassed : Field := ⟨.fltShadow, 3, 0, 0⟩
def fltDomainValid : Field := ⟨.fltDomain, 0, 63, 63⟩
def fltDomainTray : Field := ⟨.fltDomain, 0, 21, 16⟩
def fltDomainShelf : Field := ⟨.fltDomain, 0, 11, 8⟩
def fltDomainLoop : Field := ⟨.fltDomain, 0, 3, 0⟩
def fltLiveState : Field := ⟨.fltLive, 0, 63, 61⟩
def fltLiveWitness : Field := ⟨.fltLive, 0, 39, 39⟩
def fltLiveEvidence : Field := ⟨.fltLive, 0, 38, 32⟩
def fltLiveEid : Field := ⟨.fltLive, 0, 19, 0⟩
def fltLogW0 : Field := ⟨.fltLog, 0, 63, 0⟩
def fltLogW1 : Field := ⟨.fltLog, 1, 63, 0⟩
def fltLogW2 : Field := ⟨.fltLog, 2, 63, 0⟩
def fltLogW3 : Field := ⟨.fltLog, 3, 63, 0⟩
def ratCtlEnable : Field := ⟨.ratCtl, 0, 63, 63⟩
def ratCtlSeed : Field := ⟨.ratCtl, 0, 31, 0⟩
def ratRuleValid : Field := ⟨.ratRule, 0, 63, 63⟩
def ratRuleKind : Field := ⟨.ratRule, 0, 62, 60⟩
def ratRuleTargetType : Field := ⟨.ratRule, 0, 59, 58⟩
def ratRuleTarget : Field := ⟨.ratRule, 0, 57, 47⟩
def ratRuleTcMask : Field := ⟨.ratRule, 0, 46, 39⟩
def ratRuleRateLog2 : Field := ⟨.ratRule, 0, 38, 34⟩
def ratRuleParam : Field := ⟨.ratRule, 0, 33, 16⟩
def ratRuleBudget : Field := ⟨.ratRule, 0, 15, 0⟩
def ratRuleInjected : Field := ⟨.ratRule, 1, 47, 0⟩
def ddrChPresent : Field := ⟨.ddrCh, 0, 63, 63⟩
def ddrChTrained : Field := ⟨.ddrCh, 0, 62, 62⟩
def ddrChFailed : Field := ⟨.ddrCh, 0, 61, 61⟩
def ddrChSizeGib : Field := ⟨.ddrCh, 0, 47, 36⟩
def ddrChRate : Field := ⟨.ddrCh, 0, 35, 20⟩
def pciStatusSpeed : Field := ⟨.pciStatus, 0, 15, 12⟩
def pciStatusWidth : Field := ⟨.pciStatus, 0, 11, 6⟩
def pciStatusFlit : Field := ⟨.pciStatus, 0, 5, 5⟩
def pciStatusDState : Field := ⟨.pciStatus, 0, 4, 3⟩
def pciAptErrValid : Field := ⟨.pciAptErr, 0, 63, 63⟩
def pciAptErrStatus : Field := ⟨.pciAptErr, 0, 62, 59⟩
def pciAptErrWrite : Field := ⟨.pciAptErr, 0, 58, 58⟩
def pciAptErrOffset : Field := ⟨.pciAptErr, 0, 35, 0⟩
def pciIntStatusPending : Field := ⟨.pciIntStatus, 0, 63, 0⟩
def pciAptValid : Field := ⟨.pciApt, 0, 63, 63⟩
def pciAptRead : Field := ⟨.pciApt, 0, 62, 62⟩
def pciAptWrite : Field := ⟨.pciApt, 0, 61, 61⟩
def pciAptStream : Field := ⟨.pciApt, 0, 60, 57⟩
def pciAptGfaHi : Field := ⟨.pciApt, 0, 33, 0⟩
def pciAptKeyIndex : Field := ⟨.pciApt, 1, 16, 4⟩
def pciAptKeyEpoch : Field := ⟨.pciApt, 1, 3, 0⟩
def pciIntRouteEn : Field := ⟨.pciIntRoute, 0, 63, 63⟩
def pciIntRouteHoldoffUs : Field := ⟨.pciIntRoute, 0, 23, 16⟩
def pciIntRouteVector : Field := ⟨.pciIntRoute, 0, 10, 0⟩
def mgtStatusRspReady : Field := ⟨.mgtStatus, 0, 3, 3⟩
def mgtStatusBusy : Field := ⟨.mgtStatus, 0, 2, 2⟩
def mgtStatusPupState : Field := ⟨.mgtStatus, 0, 1, 0⟩
def mgtDoorbellLength : Field := ⟨.mgtDoorbell, 0, 12, 0⟩
def mgtRspLenLength : Field := ⟨.mgtRspLen, 0, 12, 0⟩
def fxeIdValid : Field := ⟨.fxeId, 0, 63, 63⟩
def fxeIdMgmtLock : Field := ⟨.fxeId, 0, 62, 62⟩
def fxeIdEid : Field := ⟨.fxeId, 0, 19, 0⟩
def fxeCtlMemTimeout : Field := ⟨.fxeCtl, 0, 63, 54⟩
def fxeCtlCollTimeout : Field := ⟨.fxeCtl, 0, 53, 44⟩
def fxeCtlCohTimeout : Field := ⟨.fxeCtl, 0, 43, 28⟩
def fxeCtlRmMaxAge : Field := ⟨.fxeCtl, 0, 23, 14⟩
def fxeCtlLoadTimeout : Field := ⟨.fxeCtl, 0, 13, 0⟩
def fxePwrGrant : Field := ⟨.fxePwr, 0, 63, 48⟩
def fxePwrFloor : Field := ⟨.fxePwr, 0, 47, 32⟩
def fxePwrReport : Field := ⟨.fxePwr, 0, 31, 16⟩
def fxePwrThrottle : Field := ⟨.fxePwr, 0, 15, 14⟩
def fxePwrNoGrant : Field := ⟨.fxePwr, 0, 13, 13⟩
def fxeDomStatusDiscardCnt : Field := ⟨.fxeDomStatus, 0, 47, 13⟩
def fxeDomStatusPending : Field := ⟨.fxeDomStatus, 0, 12, 0⟩
def fxeIntStatusPending : Field := ⟨.fxeIntStatus, 0, 12, 0⟩
def fxeIntEnEn : Field := ⟨.fxeIntEn, 0, 12, 0⟩
def fxeEvtStatusWriteSeq : Field := ⟨.fxeEvtStatus, 0, 31, 0⟩
def fxeEvtStatusSizeLog2 : Field := ⟨.fxeEvtStatus, 0, 39, 32⟩
def fxeEvtReadReadSeq : Field := ⟨.fxeEvtRead, 0, 31, 0⟩
def fxeDomainRacks : Field := ⟨.fxeDomain, 0, 63, 0⟩
def fxePlaneDownARacks : Field := ⟨.fxePlaneDownA, 0, 63, 0⟩
def fxePlaneDownBRacks : Field := ⟨.fxePlaneDownB, 0, 63, 0⟩
def fxeCtxcfgValid : Field := ⟨.fxeCtxcfg, 0, 63, 63⟩
def fxeCtxcfgKeyIndex : Field := ⟨.fxeCtxcfg, 0, 18, 6⟩
def fxeCtxcfgKeyEpoch : Field := ⟨.fxeCtxcfg, 0, 5, 2⟩
def fxeCtxcfgDclass : Field := ⟨.fxeCtxcfg, 0, 1, 0⟩
def fxeCohValid : Field := ⟨.fxeCoh, 0, 63, 63⟩
def fxeCohMirror : Field := ⟨.fxeCoh, 0, 62, 62⟩
def fxeCohMirrorStale : Field := ⟨.fxeCoh, 0, 61, 61⟩
def fxeCohBase : Field := ⟨.fxeCoh, 0, 43, 21⟩
def fxeCohLeafEid : Field := ⟨.fxeCoh, 0, 19, 0⟩
def fxeCohLimit : Field := ⟨.fxeCoh, 1, 43, 21⟩
def fxeMcastValid : Field := ⟨.fxeMcast, 0, 63, 63⟩
def fxeMcastMembers : Field := ⟨.fxeMcast, 0, 46, 32⟩
def fxeMcastGroup : Field := ⟨.fxeMcast, 0, 15, 0⟩
def fxeCollValid : Field := ⟨.fxeColl, 0, 63, 63⟩
def fxeCollPlanes : Field := ⟨.fxeColl, 0, 62, 61⟩
def fxeCollOp : Field := ⟨.fxeColl, 0, 60, 57⟩
def fxeCollFmtIn : Field := ⟨.fxeColl, 0, 56, 53⟩
def fxeCollFmtDown : Field := ⟨.fxeColl, 0, 52, 49⟩
def fxeCollChunkCode : Field := ⟨.fxeColl, 0, 48, 45⟩
def fxeCollW : Field := ⟨.fxeColl, 0, 44, 38⟩
def fxeCollGroup : Field := ⟨.fxeColl, 0, 15, 0⟩
def fxeCollMembers : Field := ⟨.fxeColl, 1, 63, 49⟩
def fxeCollMember : Field := ⟨.fxeColl, 1, 48, 35⟩
def fxeCollKeyIndex : Field := ⟨.fxeColl, 2, 63, 51⟩
def fxeCollKeyEpoch : Field := ⟨.fxeColl, 2, 50, 47⟩
def fxeCollDclass : Field := ⟨.fxeColl, 2, 46, 45⟩
def fxeCqBase : Field := ⟨.fxeCq, 0, 63, 6⟩
def fxeCqEn : Field := ⟨.fxeCq, 1, 63, 63⟩
def fxeCqStopOnErr : Field := ⟨.fxeCq, 1, 62, 62⟩
def fxeCqIntEn : Field := ⟨.fxeCq, 1, 61, 61⟩
def fxeCqSizeLog2 : Field := ⟨.fxeCq, 1, 4, 0⟩
def fxeCqTail : Field := ⟨.fxeCq, 2, 15, 0⟩
def fxeCqStatus : Field := ⟨.fxeCq, 3, 63, 60⟩
def fxeCqLateStatus : Field := ⟨.fxeCq, 3, 59, 56⟩
def fxeCqHead : Field := ⟨.fxeCq, 3, 15, 0⟩
def fxeDmaqBase : Field := ⟨.fxeDmaq, 0, 63, 6⟩
def fxeDmaqEn : Field := ⟨.fxeDmaq, 1, 63, 63⟩
def fxeDmaqStopOnErr : Field := ⟨.fxeDmaq, 1, 62, 62⟩
def fxeDmaqIntEn : Field := ⟨.fxeDmaq, 1, 61, 61⟩
def fxeDmaqSizeLog2 : Field := ⟨.fxeDmaq, 1, 4, 0⟩
def fxeDmaqTail : Field := ⟨.fxeDmaq, 2, 15, 0⟩
def fxeDmaqStatus : Field := ⟨.fxeDmaq, 3, 63, 60⟩
def fxeDmaqLateStatus : Field := ⟨.fxeDmaq, 3, 59, 56⟩
def fxeDmaqHead : Field := ⟨.fxeDmaq, 3, 15, 0⟩
def fxeDomCtrErr : Field := ⟨.fxeDomCtr, 0, 63, 63⟩
def fxeDomCtrErrStatus : Field := ⟨.fxeDomCtr, 0, 62, 59⟩
def fxeDomCtrValue : Field := ⟨.fxeDomCtr, 0, 31, 0⟩
def fxeDomCtrDigest : Field := ⟨.fxeDomCtr, 1, 63, 0⟩
def fxeEvtW0 : Field := ⟨.fxeEvt, 0, 63, 0⟩
def fxeEvtW1 : Field := ⟨.fxeEvt, 1, 63, 0⟩
def fxeEvtW2 : Field := ⟨.fxeEvt, 2, 63, 0⟩
def fxeEvtW3 : Field := ⟨.fxeEvt, 3, 63, 0⟩

end Fld

/-- Every register. -/
def allRegs : List Reg := List.flatten [
  [.glbRole, .glbEid, .glbBringupCtl, .glbBringupStatus, .glbReset, .jigCtl, .jigSrcAddr, .jigSrcSize, .jigStatus, .jigImageId, .jigRoleCmd, .jigRoleStatus, .jigDigest, .tilCtl, .tilStatus, .tilCapEventCnt, .tilRetireCnt, .tilRecordStatus, .tilRoleCnt, .tilMap],
  [.tilPhys, .nocStatus, .nocCtl, .lnkCtl, .lnkStatus, .lnkFarId, .lnkPlan, .lnkTxTaps, .lnkBipErr, .lnkCbErr, .lnkTrainCnt, .prtCtl, .prtStatus, .prtVersion, .prtCrcErr, .prtReplayCnt, .prtFecCorr, .prtFecUncorr, .prtFlitLost, .prtDegradeCnt],
  [.prtIngressDiscard, .prtMalformed, .rteCtl, .rteUnreachCnt, .rteFeatRefuseCnt, .rteEvictCnt, .rteRsqBypassCnt, .rteRsqTimeoutCnt, .rteRsqCtl, .rtePart, .rteFeat, .rtePgrp, .rtePmem, .rteRack, .rteSlot, .rteMod, .rteMcast, .rteRing, .xptCtl, .xptStatus],
  [.xptPeerReset, .xptRetxCnt, .xptGiveupCnt, .xptDupCnt, .xptOowCnt, .xptAgeDiscardCnt, .xptReorderNackCnt, .xptBarrierCnt, .xptNackUnmatchedCnt, .xptPchkDiscardCnt, .memCtl, .memMwin, .memReplayStatus, .memNoWindowCnt, .memDenyKeyCnt, .memDenyClassCnt, .memDenyRightsCnt, .memDenyAlignCnt, .memReplayHitCnt, .memReplayFullCnt],
  [.memUnknownCnt, .memLoadTimeoutCnt, .memLateRefusalCnt, .memWin, .dirCtl, .dirStatus, .dirPoolCtl, .dirPoolStatus, .dirBinvCnt, .dirBcastCnt, .dirStaleWbCnt, .dirPoisonCnt, .dirSnpTimeoutCnt, .dirNcGrantCnt, .dirRecoverCnt, .dirRegion, .mrnCtl, .mrnStatus, .mrnOvfStatus, .mrnChunkStatus],
  [.mrnMismatchCnt, .mrnCrcFailCnt, .mrnRestartCnt, .mrnSharedCnt, .mrnSpillCnt, .mrnRefuseCnt, .mrnAbortCnt, .mrnStaleCnt, .mrnAgeCnt, .mrnKeyDiscardCnt, .mrnCtx, .mrnRoot, .redCtl, .redStatus, .redQueryCtl, .redQueryStatus, .redQueryRec, .redCommitCnt, .redReplayCommitCnt, .redStaleStepCnt],
  [.redNonfiniteCnt, .redStateErrCnt, .redSaturateCnt, .redArith, .redEpiLib, .redEpi, .ctaCtl, .ctaStatus, .ctaMacCycleCnt, .ctaGateWaitCnt, .ctaPLoadCnt, .engCtl, .engTileFaultCnt, .engCmdCnt, .engLateRefusalCnt, .engQ, .engQr, .engQdb, .atsStatus, .atsCtl],
  [.atsL2MissCnt, .atsPrCnt, .atsPrFailCnt, .atsInvCnt, .atsInvAbortCnt, .pupStatus, .pupLoad, .pupProg, .topCtl, .topStatus, .topTime, .topSet, .topSetCtl, .topOffset, .topPpsDelay, .topStepCnt, .topLockLossCnt, .topAsym, .pwrCapCtl, .pwrStatus],
  [.pwrInput, .pwrCtl, .pwrCapCnt, .pwrStageCnt, .pwrWarnCnt, .pwrViolCnt, .pwrThermalCnt, .pwrEp, .telCtl, .telSnapCtl, .telSnapStatus, .telPolicy, .telBgCtl, .telSkipCnt, .telOvfEventCnt, .telStream, .secCtl, .secStatus, .secMinVer, .secSlotCmd],
  [.secRetireStatus, .secOwn, .secRetiredDropCnt, .secTagFailCnt, .secClassFailCnt, .secNokeyCnt, .secStaleRefuseCnt, .secWZeroReadCnt, .secOwnDiscardCnt, .secAuthFailCnt, .secSigner, .secCred, .secMeas, .secSlot, .fltCtl, .fltStatus, .fltLogStatus, .fltLogRead, .fltLostCnt, .fltSuppressCnt],
  [.fltQuarCnt, .fltShadowFailCnt, .fltShadow, .fltDomain, .fltLive, .fltLog, .ratCtl, .ratRule, .ddrCeCnt, .ddrUeCnt, .ddrCh, .pciStatus, .pciAptErr, .pciAptErrCnt, .pciIntStatus, .pciApt, .pciIntRoute, .mgtStatus, .mgtDoorbell, .mgtRspLen],
  [.mgtWdogCnt, .fxeId, .fxeCtl, .fxePwr, .fxeDomStatus, .fxeIntStatus, .fxeIntEn, .fxeEvtStatus, .fxeEvtRead, .fxeEvtLostCnt, .fxeEvtSuppressCnt, .fxeLockDiscardCnt, .fxeDomain, .fxePlaneDownA, .fxePlaneDownB, .fxeCtxcfg, .fxeCoh, .fxeMcast, .fxeColl, .fxeCq],
  [.fxeDmaq, .fxeDomCtr, .fxeEvt]]

/-- The fields whose Reset entry is "image" (R11). PRT.CTL.WIDTH is one at the module. -/
def imageFields : List Field := List.flatten [
  [Fld.glbRoleImageFmt, Fld.glbRolePlane, Fld.glbRoleRole, Fld.tilRoleCntImage, Fld.tilRoleCntMin, Fld.tilMapRole, Fld.tilMapLaneGroup, Fld.prtCtlWidth],
  [Fld.rteRsqCtlLocalEn, Fld.rteRsqCtlEn, Fld.rtePartEgressRes, Fld.rtePartIngressGrant, Fld.rteSlotValid, Fld.rteSlotPort, Fld.dirStatusEntries, Fld.dirStatusTiles],
  [Fld.dirPoolCtlReserveGib, Fld.dirPoolStatusFastTiles, Fld.mrnStatusSlotsTotal, Fld.mrnOvfStatusOvfSlots, Fld.redEpiLibValid, Fld.redEpiLibStateful, Fld.redEpiLibCastFmt, Fld.redEpiLibCastRound],
  [Fld.redEpiLibOps, Fld.pupStatusFreeCores, Fld.pupStatusFwCores, Fld.topCtlParent0, Fld.topCtlParent1, Fld.topCtlParent1Valid, Fld.topCtlParent0Valid, Fld.topCtlRole]]

/-- The register, entry and word at an address of a unit's register space. -/
def regAt (sd : Side) (a : Nat) : Option (Reg × Nat × Nat) :=
  allRegs.findSome? fun r => match r.loc sd with
    | some l =>
      let step := if l.count ≤ 1 then 8 * r.words else l.stride
      if l.base ≤ a ∧ a < l.base + (l.count - 1) * l.stride + 8 * r.words ∧ (a - l.base) % step < 8 * r.words ∧ (a - l.base) % 8 = 0 then
        some (r, (a - l.base) / step, (a - l.base) % step / 8)
      else none
    | none => none

end Sys2Proof.Machine
end

