-- ==== Sys2Proof/Machine/ServiceTypes.lean ====
section
/-! DEFINITION. The state of fabric time, the power loop and telemetry (14). -/

namespace Sys2Proof.Machine

/-- What a unit holds of a port's TC1 exchange (R456, R457): FLAGS and STRATUM of the last TIME_SYNC, and the exchange in progress: its
SEQ_ID, t2, t1, and SEQ_ID and t3 of the unit's own TIME_DELAY_REQ. -/
structure Exchange where
  flags : Nat := 0
  stratum : Nat := 15
  seq : Nat := 0
  t2 : Option Nat := none
  t1 : Option Nat := none
  req : Option (Nat × Nat) := none
deriving DecidableEq, Repr

/-- Fabric time at a unit beside its value and registers (R457 to R463): next SEQ_ID, exchanges by port, the port followed, consecutive
exchanges or edges with the filtered offset below 5 ns, the filtered offset and the correction still to be slewed, both in 2^-16 ns;
at the endpoint block, that no grandmaster message has come for 2 ms. -/
structure SyncState where
  nextSeq : Nat := 0
  exchanges : SMap Exchange := []
  source : Option Nat := none
  good : Nat := 0
  filtered : Int := 0
  slew : Int := 0
  gmLost : Bool := false
deriving DecidableEq, Repr

/-- Top beside its registers: a load of TOP.SET waits for the next PPS edge; TOP.SET has been loaded so; the standby has taken over as
grandmaster (R454, R463, R484). -/
structure TopState where
  atPps : Bool := false
  setLoaded : Bool := false
  gmTaken : Bool := false
deriving DecidableEq, Repr

/-- The last-gasp record (R474, R475): fabric time, the last 64 input samples, the last 8 log entries, and whether a thermal trip made it. -/
structure GaspRecord where
  time : Nat
  samples : List Word
  events : List (List Word)
  thermal : Bool
deriving DecidableEq, Repr

/-- The power loop beside its registers (R464 to R475). -/
structure PowerState where
  /-- GSEQ of the last grant to each slot, and its THROTTLE. -/
  gseq : SMap Nat := []
  /-- When a slot's last POWER_REPORT came. -/
  reportAt : SMap Nat := []
  /-- The final grants of a staged change (R469). -/
  target : SMap Nat := []
  /-- Slots whose grant was lowered and not yet checked, and the times of their violations (R471). -/
  lowered : List Nat := []
  violations : SMap (List Nat) := []
  /-- W by which closed-loop reduction lowers the budget (R471). -/
  reduction : Nat := 0
  /-- Shed level that the own cap asks for, and the thermal level (R470, R475). -/
  capLevel : Nat := 0
  thermalLevel : Nat := 0
  /-- Sensors that have not come below 100 °C since they exceeded 105 °C. -/
  hot : List Nat := []
  /-- Input conditions of R473, and since when samples have been back at or above 31.0 V, or above 40.5 V. -/
  uvWarn : Bool := false
  uvBackAt : Option Nat := none
  ovWarn : Bool := false
  ovSince : Option Nat := none
  /-- POWER_WARN_N is high again and the input has yet to reach 31.0 V. -/
  pinHigh : Bool := false
  /-- The power-loss procedure has started (R474). -/
  loss : Bool := false
  /-- The last 64 input samples, newest first, as PWR.INPUT shows them. -/
  samples : List Word := []
  /-- Connectors whose CBL_3V3 supply is off after an overload (R583). -/
  cblOff : List Nat := []
  /-- Kept in the boot flash over every reset. -/
  lastGasp : Option GaspRecord := none
deriving DecidableEq, Repr

/-- The latest POWER_GRANT of a plane's leaf at the endpoint block (R388): when it came, and its GRANT, THROTTLE and GSEQ. -/
structure LeafGrant where
  plane : Bool
  time : Nat
  grant : Nat
  throttle : Nat
  gseq : Nat
deriving DecidableEq, Repr

/-- Telemetry beside its registers (R481, R483): the latched snapshot (group mask, fabric time, values), which half was published last,
periods that have fallen due by stream, the bytes that all streams sent with the time, and the input samples of the last second (R508). -/
structure TelState where
  latch : Option (Nat × Nat × List Word) := none
  lastHalf : Bool := true
  periods : SMap Nat := []
  sent : List (Nat × Nat) := []
  samples : List (Nat × Word) := []
deriving DecidableEq, Repr

end Sys2Proof.Machine
end

