-- ==== Sys2Proof/Machine/State.lean ====
section
/-! DEFINITION. The state of the block: the module, the endpoint block and the queue of commands. Plain data. -/

namespace Sys2Proof.Machine

/-- What the module and the endpoint block both hold. -/
structure UnitState where
  /-- Registers that differ from their reset value, keyed by register, entry and word (Machine/Ops.lean, `regKey`). -/
  regs : SMap Word := []
  /-- What each lane holds beside its registers (R83 to R105). -/
  lanes : SMap LaneState := []
  /-- What each port holds beside its registers (R115 to R139). -/
  ports : SMap PortState := []
  /-- The endpoint block's bundling (port, width), fixed when the ports of a plane form (R352). -/
  bundle : List (Nat × Nat) := []
  /-- Slices marked bad: (chiplet, slice) (R98). -/
  badSlices : List (Nat × Nat) := []
  /-- When an event of a (CODE, unit) was last written to the log (R547). -/
  evtTimes : List ((Nat × Eid) × Nat) := []
  /-- EIDs known dead (R530). -/
  dead : List Eid := []
  /-- Packets that have reached their consumer in this unit, with their arrival port. -/
  inbox : List (Nat × Packet) := []
  /-- The unit's fabric time (R453): bits [79:16] nanoseconds, bits [15:0] 2^-16 ns. -/
  time : Nat := 0
  /-- The unit's time exchanges (R456, R457). -/
  sync : SyncState := {}
  /-- Sessions and management messages in progress (R493, R512). -/
  mgmt : MgmtState := {}
  /-- The transport and the memory operations (R182, R183, R231). -/
  xpt : Transport := {}
  /-- Key slots' material (R494), keyed by KEY_INDEX. -/
  keys : SMap KeySlot := []
  /-- Everything that has left the unit, oldest first. -/
  out : List Out := []
deriving DecidableEq, Repr

/-- What only the module holds. -/
structure ModuleState where
  /-- The switching core (R144, R161 to R175). -/
  sw : SwitchState := {}
  /-- The PCIe function (R552 to R568). -/
  pci : PciState := {}
  /-- The fault injector (R545). -/
  rattle : RattleState := {}
  /-- Memory: DDR5, fast pool, scratchpads and management window (R243, R503). -/
  pool : PoolState := {}
  /-- The directory and home of the rack pool (R251 to R271). -/
  dir : DirState := {}
  /-- Marionette's collectives (R293 to R306). -/
  mrn : MrnState := {}
  /-- Engines, translation and puppet cores (R399 to R424). -/
  eng : EngineState := {}
  /-- Tiles and their repair (R441 to R449). -/
  tile : TileState := {}
  /-- Bring-up and the loaded image (R428 to R440). -/
  bring : BringState := {}
  /-- Top, fabric time (R454 to R463). -/
  top : TopState := {}
  /-- The power loop (R464 to R475). -/
  power : PowerState := {}
  /-- Counters and streams (R480 to R483). -/
  tel : TelState := {}
  /-- Fuses, flash, tokens and the mailbox (R487 to R520). -/
  sec : SecState := {}
  /-- Liveness evidence and shadows (R524, R536). -/
  live : LiveState := {}
  /-- Keys of the signer slots (R492), by slot. -/
  signers : SMap (List Byte) := []
  /-- When the last event for writes discarded under a token was recorded (R514: one per second). -/
  ownDiscardAt : Option Nat := none
deriving DecidableEq, Repr

/-- What only the endpoint block holds. -/
structure EndpointState where
  /-- The core port (R360, R362): requests that wait for an MTAG, requests without an answer keyed by half × 4,096 + MTAG
  with their transaction and part, MTAGs of requests that timed out, and the transactions. -/
  mqWait : List MqReq := []
  mqOut : SMap (Nat × Nat) := []
  mqDead : List Nat := []
  /-- MTAGs that hold a lock (R361). -/
  mqLocked : List Nat := []
  txns : List MemTxn := []
  nextTxn : Nat := 0
  /-- The atomic unit and the reduce ALU (R367, R368). -/
  jobs : List RmwJob := []
  nextJob : Nat := 0
  locks : List LockLine := []
  /-- Fabric line cache (R369), its clock for least-recently-used replacement, accesses and TC2 requests in progress,
  snoops on SQ, and the next TSEQ towards each leaf. -/
  cache : List CacheLine := []
  clock : Nat := 0
  accs : List Acc := []
  coh : List CohReq := []
  snoops : List SqSnoop := []
  nextTseq : SMap (BitVec 24) := []
  recovery : List EpRecovery := []
  /-- Loads in flight whose answer fills no read-mostly line: an invalidation or a store of the block came after them (R237, R238). -/
  noFill : List Nat := []
  /-- Mirror stores that have completed: range and status (R374). -/
  mirrored : List (Nat × Status) := []
  /-- Domino (R375 to R379): triggered operations that wait, in posting order; those that have reached their threshold, in that
  order; those that have fired; the next one's number; and the check state of each counter. -/
  trig : List TrigOp := []
  reached : List TrigOp := []
  fired : List TrigRun := []
  nextTrig : Nat := 0
  domCheck : SMap Word := []
  /-- DMA queues 0 to 31 and the collective queue, 32 (R380). -/
  queues : SMap EpQueue := []
  /-- Collectives as a member (R287 to R311). -/
  coll : CollState := {}
  /-- FT_VALID of the sideband (R386, R389): the block holds a locked time. -/
  ftValid : Bool := false
  /-- Latest grants by plane (R388). -/
  grants : List LeafGrant := []
deriving DecidableEq, Repr

/-- The state of the machine. -/
structure State where
  /-- Time since power-on in ns, by which the block's own intervals are told (notes/assumptions). -/
  now : Nat
  module : UnitState
  endpoint : UnitState
  m : ModuleState
  e : EndpointState
  /-- The model's own counter: the name of the next free value (not a register of the spec). -/
  free : Nat
  /-- Commands waiting, first in, first out. -/
  pending : List Instr
deriving DecidableEq, Repr

/-- Why the machine stops. No command of the table makes it stop. -/
inductive Fault where
  /-- Raised by nobody: kept so that the type of faults is a closed inductive with a name. Safe. -/
  | none
deriving DecidableEq, Repr

/-- Why a command is refused. -/
inductive Refusal where
  /-- Raised by an arm of exec whose command has no meaning yet. Safe: no claim about it can be proved. -/
  | notModelled (mnemonic : String)
deriving DecidableEq, Repr

/-- The machine right after power-on (R540, class 0): every register at its Reset column (R11). -/
def State.reset : State where
  now := 0
  module := {}
  endpoint := {}
  m := {}
  e := {}
  free := 0
  pending := []

end Sys2Proof.Machine
end

