-- ==== Sys2Proof/Machine/Ops.lean ====
section
/-! DEFINITION. The named operations every meaning is written over: reading and writing a register field, counting,
recording an event, raising an interrupt, and the unit, lane and port a command acts at. -/

namespace Sys2Proof.Machine

/-! ## Registers -/

/-- The key of word `w` of entry `i` of a register in the register file. -/
def regKey (r : Reg) (i w : Nat) : Nat := (i * 16 + w) * 1024 + r.ctorIdx

/-- The tap codes of preset P0 to P7 (R81), packed as in TAPSET (R83), with the main tap. -/
def presetTaps : Nat → Nat × Nat
  | 0 => (0, 64)
  | 1 => (60 * 2 ^ 12, 60)
  | 2 => (56 * 2 ^ 12, 56)
  | 3 => (56 * 2 ^ 12 + 60 * 2 ^ 6, 52)
  | 4 => (2 * 2 ^ 18 + 52 * 2 ^ 12 + 60 * 2 ^ 6, 46)
  | 5 => (4 * 2 ^ 18 + 48 * 2 ^ 12 + 58 * 2 ^ 6, 38)
  | 6 => (63 * 2 ^ 24 + 4 * 2 ^ 18 + 48 * 2 ^ 12 + 60 * 2 ^ 6 + 2, 37)
  | _ => (60 * 2 ^ 12 + 56 * 2 ^ 6 + 2, 50)

/-- The largest width a lane number allows within its plane (R352). -/
def largestWidth (p : Nat) : Nat :=
  if p % 8 = 0 then 8 else if p % 4 = 0 then 4 else if p % 2 = 0 then 2 else 1

/-- The Reset column of the register tables, as one word. -/
def tableReset (r : Reg) (w : Nat) : Word :=
  r.fields.foldl (fun acc f => if f.word = w then withBits acc f.hi f.lo f.reset else acc) 0

/-- A register's value after a cold reset (R11). The rows that depend on the entry or the unit: PCI.INT_ROUTE.VECTOR
is its own number (R570), SEC.SLOT.EPOCH_OPEN is 0 for slot 0 only (R519), which is ACTIVE at every reset (R494), and the endpoint block's lanes and ports reset as
R351, R352 and R393 say. -/
def regReset : Side → Reg → Nat → Nat → Word
  | .module, .pciIntRoute, i, 0 => withBits (tableReset .pciIntRoute 0) 10 0 i
  | .module, .secSlot, i, 0 =>
    if i = 0 then withBits (withBits (tableReset .secSlot 0) 48 48 0) 63 62 1 else withBits (tableReset .secSlot 0) 48 48 1
  | .endpoint, .lnkCtl, _, 0 =>
    withBits (withBits (tableReset .lnkCtl 0) 0 0 1) 11 9 Config.initPreset.toNat
  | .endpoint, .lnkStatus, i, 0 => withBits (withBits (tableReset .lnkStatus 0) 47 40 i) 4 0 1
  | .endpoint, .lnkTxTaps, _, 0 =>
    withBits (withBits 0 29 0 (presetTaps Config.initPreset.toNat).1) 37 31 (presetTaps Config.initPreset.toNat).2
  | .endpoint, .prtCtl, p, 0 => withBits (tableReset .prtCtl 0) 11 8 (largestWidth p)
  | _, r, _, w => tableReset r w

/-- A word of a register file. -/
def regWord (sd : Side) (m : SMap Word) (r : Reg) (i w : Nat) : Word :=
  smapGet m (regReset sd r i w) (regKey r i w)

/-- The register file with a word written; a word at its reset value is not listed. -/
def regSet (sd : Side) (m : SMap Word) (r : Reg) (i w : Nat) (v : Word) : SMap Word :=
  smapPut m (regReset sd r i w) (regKey r i w) v

/-! ## Units -/

/-- The unit a command acts at. -/
def State.unit (s : State) : Side → UnitState
  | .module => s.module
  | .endpoint => s.endpoint

/-- The state with one unit replaced. -/
def State.setUnit (s : State) (sd : Side) (u : UnitState) : State :=
  match sd with
  | .module => { s with module := u }
  | .endpoint => { s with endpoint := u }

/-- The state with one unit changed. -/
def State.onUnit (s : State) (sd : Side) (f : UnitState → UnitState) : State := s.setUnit sd (f (s.unit sd))

/-- A register word of a unit. -/
def State.word (s : State) (sd : Side) (r : Reg) (i w : Nat) : Word := regWord sd (s.unit sd).regs r i w

/-- The state with a register word of a unit written. -/
def State.setWord (s : State) (sd : Side) (r : Reg) (i w : Nat) (v : Word) : State :=
  s.onUnit sd fun u => { u with regs := regSet sd u.regs r i w v }

/-- A register field, as a number. -/
def State.rd (s : State) (sd : Side) (f : Field) (i : Nat := 0) : Nat := bitsOf (s.word sd f.reg i f.word) f.hi f.lo

/-- A one-bit register field. -/
def State.rdb (s : State) (sd : Side) (f : Field) (i : Nat := 0) : Bool := decide (s.rd sd f i ≠ 0)

/-- The state with a register field written. -/
def State.wr (s : State) (sd : Side) (f : Field) (i : Nat) (v : Nat) : State :=
  s.setWord sd f.reg i f.word (withBits (s.word sd f.reg i f.word) f.hi f.lo v)

/-- The state with a one-bit register field written. -/
def State.wrb (s : State) (sd : Side) (f : Field) (i : Nat) (b : Bool) : State := s.wr sd f i (b2n b)

/-- The address of word `w` of entry `i` of a register in its unit's space (R555, R392). -/
def regOffset (sd : Side) (r : Reg) (i w : Nat) : Nat :=
  match r.loc sd with
  | some l => l.base + l.stride * i + 8 * w
  | none => 0

/-- A lane of a unit. -/
def State.lane (s : State) (sd : Side) (n : Nat) : LaneState := smapGet (s.unit sd).lanes {} n

/-- The state with a lane changed. -/
def State.onLane (s : State) (sd : Side) (n : Nat) (f : LaneState → LaneState) : State :=
  s.onUnit sd fun u => { u with lanes := smapPut u.lanes {} n (f (smapGet u.lanes {} n)) }

/-- A port of a unit. -/
def State.port (s : State) (sd : Side) (p : Nat) : PortState := smapGet (s.unit sd).ports {} p

/-- The state with a port changed. -/
def State.onPort (s : State) (sd : Side) (p : Nat) (f : PortState → PortState) : State :=
  s.onUnit sd fun u => { u with ports := smapPut u.ports {} p (f (smapGet u.ports {} p)) }

/-- The state in which something leaves a unit. -/
def State.emit (s : State) (sd : Side) (o : Out) : State := s.onUnit sd fun u => { u with out := u.out ++ [o] }

/-- The state with the module's own part changed. -/
def State.onM (s : State) (f : ModuleState → ModuleState) : State := { s with m := f s.m }

/-- The state with the endpoint block's own part changed. -/
def State.onE (s : State) (f : EndpointState → EndpointState) : State := { s with e := f s.e }

/-- A unit's own EID: GLB.EID.EID (R50) or FXE.ID.EID (R354). -/
def State.myEid (s : State) : Side → Eid
  | .module => BitVec.ofNat 20 (s.rd .module Fld.glbEidEid)
  | .endpoint => BitVec.ofNat 20 (s.rd .endpoint Fld.fxeIdEid)

/-- The module holds a role (R2, R21). -/
def State.hasRole (s : State) : Bool := s.rdb .module Fld.glbRoleValid

/-- The module is a leaf. -/
def State.isLeaf (s : State) : Bool := s.hasRole && decide (s.rd .module Fld.glbRoleRole = 0)

/-- A value that the spec leaves open: the counter that names it, and the state in which it is spent. -/
def State.spendFree (s : State) : Nat × State := (s.free, { s with free := s.free + 1 })

/-! ## Interrupts -/

/-- Sends the message of an MSI-X vector, or sets its PBA bit while it is masked (R566). -/
def sendVector (v : Nat) (s : State) : State :=
  if s.m.pci.functionMask || !s.m.pci.unmasked.contains v then
    s.onM fun m => { m with pci := { m.pci with pba := if m.pci.pba.contains v then m.pci.pba else m.pci.pba ++ [v] } }
  else s.emit .module (.msix v)

/-- Sends the message of an interrupt source to its vector, and notes when (R566). -/
def sendSource (src : Nat) (s : State) : State :=
  (sendVector (s.rd .module Fld.pciIntRouteVector src) s).onM fun m =>
    { m with pci := { m.pci with
        lastMessage := smapSet m.pci.lastMessage src s.now
        deferred := m.pci.deferred.filter (· ≠ src) } }

/-- The function answers memory requests and sends messages: D0 (R554) with Bus Master Enable set (R568). -/
def mayMessage (s : State) : Bool := decide (s.rd .module Fld.pciStatusDState = 0) && s.m.pci.busMaster

/-- The hold-off of a source has passed (R566). -/
def holdoffPassed (src : Nat) (s : State) : Bool :=
  match smapGet? s.m.pci.lastMessage src with
  | none => true
  | some t => decide (t + 1000 * s.rd .module Fld.pciIntRouteHoldoffUs src ≤ s.now)

/-- The message of a source whose status bit has just set: sent, or deferred (R554, R566). -/
def messageSource (src : Nat) (s : State) : State :=
  if s.rdb .module Fld.pciIntRouteEn src then
    if mayMessage s && holdoffPassed src s then sendSource src s
    else s.onM fun m => { m with pci := { m.pci with
        deferred := if m.pci.deferred.contains src then m.pci.deferred else m.pci.deferred ++ [src] } }
  else s

/-- An event of an interrupt source of the module (R565, R566). -/
def raiseSource (src : Nat) (s : State) : State :=
  let w := s.word .module .pciIntStatus (src / 64) 0
  if w.getLsbD (src % 64) then s
  else messageSource src (s.setWord .module .pciIntStatus (src / 64) 0 (w ||| (1#64 <<< (src % 64))))

/-- An event of an interrupt vector of the endpoint block (R390). -/
def raiseVector (v : Nat) (s : State) : State :=
  let w := s.word .endpoint .fxeIntStatus 0 0
  let s1 := s.setWord .endpoint .fxeIntStatus 0 0 (w ||| (1#64 <<< v))
  if (s.word .endpoint .fxeIntEn 0 0).getLsbD v then s1.emit .endpoint (.intVector v) else s1

/-! ## Counters and events -/

/-- The largest COUNT (R480). -/
def countMax : Nat := 2 ^ 48 - 1

/-- A counter word increased by `n`: COUNT holds at its maximum and OVF sets when it gets there (R480, R482). -/
def countedWord (w : Word) (n : Nat) : Word :=
  if countMax ≤ bitsOf w 47 0 + n then withBits (withBits w 47 0 countMax) 63 63 1 else withBits w 47 0 (bitsOf w 47 0 + n)

/-- A counter increased without an event of its own: the counters of the event log itself and TEL.OVF_EVENT_CNT. -/
def bumpQuiet (sd : Side) (r : Reg) (i n : Nat) (s : State) : State := s.setWord sd r i 0 (countedWord (s.word sd r i 0) n)

/-- An event to be recorded (R547): BLOCK is the block's position on the module. -/
structure Event where
  code : Nat
  severity : Nat
  block : Nat
  status : Nat := 0
  eid : Option Eid := none
  arg0 : Nat := 0
  arg1 : Nat := 0
  injected : Bool := false
deriving DecidableEq, Repr

/-- Word 1 of an event-log entry (R547). -/
def eventWord1 (e : Event) (block q : Nat) : Word :=
  withBits (withBits (withBits (withBits (withBits (withBits 0 63 48 e.code) 47 44 e.severity) 43 40 e.status)
    39 39 (b2n e.injected)) 38 32 block) 31 0 q

/-- Word 2 of an event-log entry. -/
def eventWord2 (eid : Eid) (arg0 : Nat) : Word := withBits (withBits 0 63 44 eid.toNat) 43 0 arg0

/-- Writes the four words of a log entry. -/
def writeEntry (sd : Side) (r : Reg) (i : Nat) (e : Event) (block q : Nat) (s : State) : State :=
  (((s.setWord sd r i 0 (BitVec.ofNat 64 ((s.unit sd).time / 65536))).setWord sd r i 1 (eventWord1 e block q)).setWord
    sd r i 2 (eventWord2 (e.eid.getD 0) e.arg0)).setWord sd r i 3 (BitVec.ofNat 64 e.arg1)

/-- An event of the same CODE and unit was written less than 1 ms ago (R547, R397). -/
def suppressed (sd : Side) (e : Event) (s : State) : Bool :=
  match (s.unit sd).evtTimes.lookup (e.code, e.eid.getD 0) with
  | some t => decide (s.now < t + 1000000)
  | none => false

/-- Notes when an event was written. -/
def noteEvent (sd : Side) (e : Event) (s : State) : State :=
  s.onUnit sd fun u => { u with evtTimes := ((e.code, e.eid.getD 0), s.now) :: u.evtTimes.filter (fun x => x.1 ≠ (e.code, e.eid.getD 0)) }

/-- Records an event in the module's log (R547). -/
def logModule (e : Event) (s : State) : State :=
  if suppressed .module e s then bumpQuiet .module .fltSuppressCnt 0 1 s
  else
    let q := s.rd .module Fld.fltLogStatusWriteSeq
    let full := decide (4096 ≤ (q + 2 ^ 32 - s.rd .module Fld.fltLogReadReadSeq) % 2 ^ 32)
    if full && s.rdb .module Fld.fltCtlStopOnFull && decide (e.severity ≠ 3) then bumpQuiet .module .fltLostCnt 0 1 s
    else
      let s1 := if full then bumpQuiet .module .fltLostCnt 0 1 s else s
      let s2 := writeEntry .module .fltLog (q % 4096) e e.block q s1
      let s3 := noteEvent .module e (s2.wr .module Fld.fltLogStatusWriteSeq 0 (q + 1))
      if decide (2 ≤ e.severity) || (decide (e.severity = 1) && s.rdb .module Fld.fltCtlWarnInt) then raiseSource 72 s3
      else s3

/-- Records an event in the endpoint block's log (R397): BLOCK reads 0x7F; the unit is the block itself where the event
names none. -/
def logEndpoint (e0 : Event) (s : State) : State :=
  let e := { e0 with eid := some (e0.eid.getD (s.myEid .endpoint)) }
  if suppressed .endpoint e s then bumpQuiet .endpoint .fxeEvtSuppressCnt 0 1 s
  else
    let q := s.rd .endpoint Fld.fxeEvtStatusWriteSeq
    let full := decide (256 ≤ (q + 2 ^ 32 - s.rd .endpoint Fld.fxeEvtReadReadSeq) % 2 ^ 32)
    let s1 := if full then bumpQuiet .endpoint .fxeEvtLostCnt 0 1 s else s
    let s2 := writeEntry .endpoint .fxeEvt (q % 256) e 0x7F q s1
    let s3 := noteEvent .endpoint e (s2.wr .endpoint Fld.fxeEvtStatusWriteSeq 0 (q + 1))
    if 2 ≤ e.severity then raiseVector 12 s3 else s3

/-- Records an event in the unit's log. -/
def logEvent (sd : Side) (e : Event) (s : State) : State :=
  match sd with
  | .module => logModule e s
  | .endpoint => logEndpoint e s

/-- The block position of a register's BAR0 address (R555). -/
def blockOf (a : Nat) : Nat :=
  if a < 0x100000 then 0 else if a < 0x200000 then 1 else if a < 0x400000 then 2 else if a < 0x600000 then 3
  else if a < 0x800000 then 4 else if a < 0xA00000 then 5 else if a < 0xC00000 then 6 else if a < 0xE00000 then 7
  else if a < 0x1000000 then 8 else if a < 0x1200000 then 9 else if a < 0x1400000 then 10
  else if a < 0x1600000 then 11 else if a < 0x1800000 then 12 else if a < 0x1A00000 then 13
  else if a < 0x1B00000 then 14 else if a < 0x1C00000 then 15 else if a < 0x1D00000 then 16
  else if a < 0x1E00000 then 17 else if a < 0x2000000 then 18 else if a < 0x2200000 then 19
  else if a < 0x2300000 then 20 else if a < 0x2400000 then 21 else if a < 0x2600000 then 22
  else if a < 0x2800000 then 23 else 24

/-- Counts `n` events in a counter: R480, R482, with the COUNTER_OVF event at each setting of OVF. -/
def bumpBy (sd : Side) (r : Reg) (i n : Nat) (s : State) : State :=
  let w := s.word sd r i 0
  let s1 := s.setWord sd r i 0 (countedWord w n)
  if decide (countMax ≤ bitsOf w 47 0 + n) && decide (n ≠ 0) && !w.getLsbD 63 then
    let a := regOffset sd r i 0
    let s2 := match sd with
      | .module => bumpQuiet .module .telOvfEventCnt 0 1 s1
      | .endpoint => s1
    logEvent sd { code := 0x53, severity := 1, block := blockOf a, arg0 := a } s2
  else s1

/-- Counts one event in a counter. -/
def bump (sd : Side) (r : Reg) (i : Nat) (s : State) : State := bumpBy sd r i 1 s

/-- Adds to a saturating field narrower than 48 bits: it holds at its width (R480). -/
def saturate (sd : Side) (f : Field) (i n : Nat) (s : State) : State :=
  s.wr sd f i (min (s.rd sd f i + n) (2 ^ (f.hi + 1 - f.lo) - 1))

/-- Records a register-access event (R9): the offset and the value written. -/
def regAccess (sd : Side) (addr : Nat) (value : Nat) (s : State) : State :=
  logEvent sd { code := 1, severity := 1, block := blockOf addr, arg0 := addr, arg1 := value } s

/-- POLICY_OVERRIDDEN (R477): a precedence 2 loop of R476 acts against the policy that a register holds; its bits in TEL.POLICY and the
event. -/
def overridePolicy (loop block addr : Nat) (s : State) : State :=
  logModule { code := 0x52, severity := 1, block := block, arg0 := loop, arg1 := addr }
    ((s.wr .module Fld.telPolicyActive 0 (setBit (s.rd .module Fld.telPolicyActive) loop)).wr .module
      Fld.telPolicySticky 0 (setBit (s.rd .module Fld.telPolicySticky) loop))

/-- The loop acts against policy no more (R477). -/
def endOverride (loop : Nat) (s : State) : State :=
  s.wr .module Fld.telPolicyActive 0 (clearBit (s.rd .module Fld.telPolicyActive) loop)

/-! ## Who may write -/

/-- The ownership-token group of a BAR0 address (R514, R555). -/
def tokenGroup (a : Nat) : Option Nat :=
  ([some 0, some 0, some 0, some 2, some 1, some 1, some 2, some 3, some 3, some 3, some 4, some 4, some 4, some 5,
    some 5, some 5, some 6, some 7, some 8, some 9, some 10, none, some 11, some 11, none] : List (Option Nat)).getD
    (blockOf a) none

/-- Management holds the token of the address's group (R514: SEC.OWN.HELD). -/
def tokenHeld (a : Nat) (s : State) : Bool :=
  match tokenGroup a with
  | some g => (s.rd .module Fld.secOwnHeld).testBit g
  | none => false

/-- A write to an RWL field takes effect: a host write while no token is held (R10, R514); a core-port write while
MGMT_LOCK is 0 (R353); every management write. -/
def rwlOpen (sd : Side) (path : Path) (a : Nat) (s : State) : Bool :=
  match sd, path with
  | .module, .host => !tokenHeld a s
  | .endpoint, .corePort => !s.rdb .endpoint Fld.fxeIdMgmtLock
  | _, _ => true

/-- A write to an RWL field is discarded: counted in SEC.OWN_DISCARD_CNT with one event per second (R514), or counted
in FXE.LOCK_DISCARD_CNT with a MGMT_LOCK_DISCARD event (R353). -/
def rwlDiscard (sd : Side) (a v : Nat) (s : State) : State :=
  match sd with
  | .module =>
    let s1 := bump .module .secOwnDiscardCnt 0 s
    match s.m.ownDiscardAt with
    | some t =>
      if t + 1000000000 ≤ s.now then
        (regAccess .module a v s1).onM fun m => { m with ownDiscardAt := some s.now }
      else s1
    | none => (regAccess .module a v s1).onM fun m => { m with ownDiscardAt := some s.now }
  | .endpoint =>
    logEvent .endpoint { code := 0xC0, severity := 1, block := 0x7F, arg0 := a, arg1 := v }
      (bump .endpoint .fxeLockDiscardCnt 0 s)

/-- Writes RWL state through its gate (R10). -/
def rwl (sd : Side) (path : Path) (a v : Nat) (f : State → State) (s : State) : State :=
  if rwlOpen sd path a s then f s else rwlDiscard sd a v s

end Sys2Proof.Machine
end

