-- ==== Sys2Proof/Machine/Flags.lean ====
section
/-! DEFINITION. The status codes (R12) and which of several is reported (R13, R14). -/

namespace Sys2Proof.Machine

/-! ## Status codes (R12) -/

def stOk : Status := 0x0
def stRetryLater : Status := 0x1
def stTargetDead : Status := 0x2
def stTimeout : Status := 0x3
def stAccessDenied : Status := 0x4
def stNoWindow : Status := 0x5
def stPoisoned : Status := 0x6
def stMismatch : Status := 0x7
def stAborted : Status := 0x8
def stUnknownOutcome : Status := 0x9
def stTranslationFault : Status := 0xA
def stCheckFail : Status := 0xB
def stResource : Status := 0xC
def stVersion : Status := 0xD
def stInternal : Status := 0xE

/-- The order in which R14 reports statuses. -/
def statusOrder : List Status :=
  [stCheckFail, stVersion, stNoWindow, stAccessDenied, stTranslationFault, stTargetDead, stAborted, stMismatch, stPoisoned,
   stUnknownOutcome, stTimeout, stResource, stRetryLater, stInternal]

/-- The status that several give, and those that go to the log (R14): the first in the order is reported. -/
def reportStatus (l : List Status) : Status × List Status :=
  match statusOrder.filter fun x => l.contains x with
  | [] => (stOk, [])
  | x :: rest => (x, rest)

/-- A received status: 0xF is treated as INTERNAL (R13). -/
def receivedStatus (st : Status) : Status := if st = 0xF then stInternal else st

/-- Records the STATUS_RESERVED event of a received status 0xF (R13). -/
def noteReserved (sd : Side) (st : Status) (arg0 arg1 : Nat) (s : State) : State :=
  if st = 0xF then logEvent sd { code := 3, severity := 1, block := 0, arg0 := arg0, arg1 := arg1 } s else s

/-- Records a STATUS_ALSO event for each further status (R14). -/
def noteAlso (sd : Side) (reported : Status) (also : List Status) (what : Nat) (s : State) : State :=
  also.foldl (fun s x =>
    logEvent sd { code := 2, severity := 0, block := 0, status := x.toNat, arg0 := reported.toNat, arg1 := what } s) s

end Sys2Proof.Machine
end

