-- ==== Sys2Proof/Machine/Operands.lean ====
section
/-! DEFINITION. Identities (R42), traffic classes (R59, R71), the packet header's bytes (R67), its check code (R69) and the
tests every packet goes through (R70, R72, R73). -/

namespace Sys2Proof.Machine

/-! ## Identities (R42 to R52) -/

/-- The kind of an EID: 0 endpoint, 1 module, 2 group, 3 reserved (R42). -/
def eidKind (e : Eid) : Nat := e.toNat / 2 ^ 18

/-- The rack of an endpoint EID. -/
def eidRack (e : Eid) : Nat := e.toNat / 128 % 2048

/-- The slot of an endpoint EID. -/
def eidSlot (e : Eid) : Nat := e.toNat % 128

/-- The tier of a module EID: 0 leaf, 1 spine, 2 crown (R42). -/
def eidTier (e : Eid) : Nat := e.toNat / 2 ^ 16 % 4

/-- The plane of a module EID. -/
def eidPlane (e : Eid) : Bool := e.toNat.testBit 15

/-- The index of a module EID within its tier and plane. -/
def eidIndex (e : Eid) : Nat := e.toNat % 2 ^ 15

/-- The type of a group EID: 0 communicator, 1 multicast, 2 rack broadcast (R42). -/
def groupType (e : Eid) : Nat := e.toNat / 2 ^ 16 % 4

/-- The number of a group EID. -/
def groupNumber (e : Eid) : Nat := e.toNat % 2 ^ 16

/-- An endpoint EID (R42). -/
def isEndpointEid (e : Eid) : Bool := decide (eidKind e = 0)

/-- A module EID. -/
def isModuleEid (e : Eid) : Bool := decide (eidKind e = 1)

/-- A group EID. -/
def isGroupEid (e : Eid) : Bool := decide (eidKind e = 2)

/-- A leaf's module EID. -/
def isLeafEid (e : Eid) : Bool := isModuleEid e && decide (eidTier e = 0)

/-- A communicator group EID. -/
def isCommEid (e : Eid) : Bool := isGroupEid e && decide (groupType e = 0)

/-- A multicast group EID. -/
def isMcastEid (e : Eid) : Bool := isGroupEid e && decide (groupType e = 1)

/-- A rack-broadcast group EID. -/
def isRackBcastEid (e : Eid) : Bool := isGroupEid e && decide (groupType e = 2)

/-- A group EID of a number: communicator 0, multicast 1, rack broadcast 2. -/
def groupEid (type number : Nat) : Eid := BitVec.ofNat 20 (2 * 2 ^ 18 + type * 2 ^ 16 + number)

/-- An endpoint EID of a rack and slot. -/
def endpointEid (rack slot : Nat) : Eid := BitVec.ofNat 20 (rack * 128 + slot)

/-- A leaf's module EID of a rack on a plane. -/
def leafEid (rack : Nat) (plane : Bool) : Eid := BitVec.ofNat 20 (2 ^ 18 + b2n plane * 2 ^ 15 + rack)

/-! ## Opcodes and classes (R59, R71) -/

/-- The traffic class of an opcode; none for 0xB0 to 0xFF, which belong to no class. -/
def opClass (op : BitVec 8) : Option Nat :=
  match op.toNat / 16 with
  | 0 => some 0
  | 1 => some 1
  | 2 | 3 | 4 | 5 => some 2
  | 6 => some 3
  | 7 => some 4
  | 8 => some 6
  | 9 => some 5
  | 10 => some 7
  | _ => none

/-- The opcodes the chapters assign. -/
def opAssigned (op : BitVec 8) : Bool :=
  ([0x01, 0x02, 0x03, 0x04, 0x05, 0x06, 0x10, 0x11, 0x12, 0x13,
    0x20, 0x21, 0x22, 0x23, 0x24, 0x25, 0x26, 0x30, 0x31, 0x32, 0x33, 0x34, 0x40, 0x41, 0x42, 0x43, 0x50,
    0x60, 0x61, 0x62, 0x63, 0x64, 0x65, 0x66, 0x70, 0x71, 0x72, 0x73, 0x7C, 0x7E, 0x7F, 0x80, 0x81, 0x82,
    0x90, 0x91, 0x92, 0x93, 0x94, 0xA0, 0xA1] : List Nat).contains op.toNat

/-- The credit pool of an opcode (R125): TC0, TC1, the four message classes of TC2, then TC3 to TC7. -/
def poolOf (op : BitVec 8) : Nat :=
  match op.toNat / 16 with
  | 0 => 0
  | 1 => 1
  | 2 => 2
  | 3 => 3
  | 4 => 4
  | 5 => 5
  | 6 => 6
  | 7 => 7
  | 9 => 8
  | 8 => 9
  | _ => 10

/-- The traffic class of a pool. -/
def poolClass (pool : Nat) : Nat :=
  ([0, 1, 2, 2, 2, 2, 3, 4, 5, 6, 7] : List Nat).getD pool 7

/-- The opcodes with an extension slot: the atomics (R218) and the TC5 packets but COLL_RESEND (R284). -/
def opHasExt (op : BitVec 8) : Bool := ([0x64, 0x65, 0x90, 0x91, 0x92, 0x94] : List Nat).contains op.toNat

/-- The status-bearing packets (R72). -/
def opStatusBearing (op : BitVec 8) : Bool :=
  (decide (0x40 ≤ op.toNat) && decide (op.toNat ≤ 0x5F)) || (decide (0x70 ≤ op.toNat) && decide (op.toNat ≤ 0x73))
    || ([0x7F, 0x82, 0x91, 0x92, 0x93] : List Nat).contains op.toNat

/-- The transport sequences the opcode: TC3, TC6, TC7 and DOMINO_SEG but not the response DMA_READ_DATA (R180). -/
def opSequenced (op : BitVec 8) : Bool :=
  let c := op.toNat / 16
  c = 6 || (c = 8 && op.toNat ≠ 0x82) || c = 10 || op.toNat = 0x94

/-- A response packet of the transport: 0x70 to 0x73 and 0x82. -/
def opResponse (op : BitVec 8) : Bool :=
  (decide (0x70 ≤ op.toNat) && decide (op.toNat ≤ 0x73)) || op.toNat = 0x82

/-- The response opcode of a request (R213); none where the request has none. -/
def responseOp (op : BitVec 8) : Option (BitVec 8) :=
  match op.toNat with
  | 0x60 | 0x61 => some 0x70
  | 0x62 | 0x63 => some 0x71
  | 0x64 | 0x65 => some 0x72
  | 0x66 => some 0x73
  | 0x81 => some 0x82
  | _ => none

/-! ## The packet on the wire (R67, R69) -/

/-- A payload follows the header: by opcode, status and OPX (R70, R214, R252, R284, R456). -/
def carriesPayload (op : BitVec 8) (status : Status) (opx : BitVec 32) (length : BitVec 12) : Bool :=
  match op.toNat with
  | 0x01 | 0x02 | 0x10 | 0x11 | 0x12 | 0x13 | 0x23 | 0x62 | 0x63 | 0x64 | 0x65 | 0x66 | 0x80 | 0x90 | 0x94
  | 0xA0 | 0xA1 => true
  | 0x40 => opx.getLsbD 3
  | 0x50 | 0x70 | 0x72 | 0x82 | 0x91 => status = 0
  | _ => length ≠ 0

/-- Header word 0 of a packet. -/
def headerWord0 (p : Packet) : Word :=
  withBits (withBits (withBits (withBits (withBits (withBits (withBits (withBits 0 63 44 p.dst.toNat) 43 24 p.src.toNat)
    23 16 p.opcode.toNat) 15 13 p.tc.toNat) 12 12 (b2n p.plane)) 11 8 p.stream.toNat) 7 4 p.epoch.toNat) 3 0 p.status.toNat

/-- Header word 1 of a packet. -/
def headerWord1 (p : Packet) : Word :=
  withBits (withBits (withBits (withBits (withBits (withBits (withBits (withBits (withBits (withBits (withBits (withBits 0
    63 40 p.xseq.toNat) 39 27 p.tag.toNat) 26 14 p.keyIndex.toNat) 13 10 p.keyEpoch.toNat) 9 8 p.dclass.toNat)
    7 7 (b2n p.flagged)) 6 6 (b2n p.acquire)) 5 5 (b2n p.enc)) 4 4 (b2n p.poison)) 3 3 (b2n p.retx)) 2 2 (b2n p.proxy))
    1 0 p.rsv.toNat

/-- Header word 2 of a packet. -/
def headerWord2 (p : Packet) : Word :=
  withBits (withBits (withBits 0 63 20 p.offset.toNat) 19 8 p.length.toNat) 7 0 p.hops.toNat

/-- Header word 3 of a packet. -/
def headerWord3 (p : Packet) : Word := withBits (withBits 0 63 32 p.pchk.toNat) 31 0 p.opx.toNat

/-- The 32 header bytes of a packet (R67, R8). -/
def headerBytes (p : Packet) : List Byte :=
  leBytes 8 (headerWord0 p).toNat ++ leBytes 8 (headerWord1 p).toNat ++ leBytes 8 (headerWord2 p).toNat
    ++ leBytes 8 (headerWord3 p).toNat

/-- What follows the header: extension slot, payload padded to whole slots, tag slot (R67). -/
def bodyBytes (p : Packet) : List Byte := padSlot p.ext ++ padSlot p.payload ++ padSlot p.tagSlot

/-- A packet's bytes on the wire. -/
def packetBytes (p : Packet) : List Byte := headerBytes p ++ bodyBytes p

/-- The slots a packet occupies. -/
def packetSlots (p : Packet) : Nat := (packetBytes p).length / 16

/-- PCHK of a packet: CRC-32C with HOPS and PCHK taken as zero (R69). -/
def pchkOf (p : Packet) : BitVec 32 := crc32c (headerBytes { p with hops := 0, pchk := 0 } ++ bodyBytes p)

/-- The packet with its PCHK computed. -/
def sealPacket (p : Packet) : Packet := { p with pchk := pchkOf p }

/-- PCHK of a packet matches. -/
def pchkGood (p : Packet) : Bool := decide (p.pchk = pchkOf p)

/-- The LENGTH field of a payload: its bytes minus 1, or 0 where none follows (R67). -/
def lengthOf (payload : List Byte) : BitVec 12 := BitVec.ofNat 12 (payload.length - 1)

/-- The packet that 32 header bytes spell, without what follows the header. -/
def headerPacket (h : List Byte) : Packet :=
  let w := fun i => BitVec.ofNat 64 (leNat (slice h (8 * i) 8))
  let f := fun i hi lo => bitsOf (w i) hi lo
  { dst := BitVec.ofNat 20 (f 0 63 44), src := BitVec.ofNat 20 (f 0 43 24), opcode := BitVec.ofNat 8 (f 0 23 16)
    tc := BitVec.ofNat 3 (f 0 15 13), plane := (w 0).getLsbD 12, stream := BitVec.ofNat 4 (f 0 11 8)
    epoch := BitVec.ofNat 4 (f 0 7 4), status := BitVec.ofNat 4 (f 0 3 0), xseq := BitVec.ofNat 24 (f 1 63 40)
    tag := BitVec.ofNat 13 (f 1 39 27), keyIndex := BitVec.ofNat 13 (f 1 26 14), keyEpoch := BitVec.ofNat 4 (f 1 13 10)
    dclass := BitVec.ofNat 2 (f 1 9 8), flagged := (w 1).getLsbD 7, acquire := (w 1).getLsbD 6, enc := (w 1).getLsbD 5
    poison := (w 1).getLsbD 4, retx := (w 1).getLsbD 3, proxy := (w 1).getLsbD 2, rsv := BitVec.ofNat 2 (f 1 1 0)
    offset := BitVec.ofNat 44 (f 2 63 20), length := BitVec.ofNat 12 (f 2 19 8), hops := BitVec.ofNat 8 (f 2 7 0)
    pchk := BitVec.ofNat 32 (f 3 63 32), opx := BitVec.ofNat 32 (f 3 31 0) }

/-- The payload bytes that the header says follow (R67, R70). -/
def payloadCount (p : Packet) : Nat :=
  if carriesPayload p.opcode p.status p.opx p.length then p.length.toNat + 1 else 0

/-- The bytes on the wire that the header says the whole packet has: how a receiver finds its end (R118). -/
def wireLength (p : Packet) : Nat :=
  32 + (if opHasExt p.opcode then 16 else 0) + (payloadCount p + 15) / 16 * 16 + (if p.enc then 16 else 0)

/-- The packet at the front of a slot stream, and the bytes after it; none while it is not there whole (R118). -/
def takePacket (l : List Byte) : Option (Packet × List Byte) :=
  if l.length < 32 then none
  else
    let p := headerPacket (l.take 32)
    if l.length < wireLength p then none
    else
      let e := if opHasExt p.opcode then 16 else 0
      let n := payloadCount p
      some ({ p with ext := slice l 32 e, payload := slice l (32 + e) n
                     tagSlot := if p.enc then slice l (32 + e + (n + 15) / 16 * 16) 16 else [] }, l.drop (wireLength p))

/-! ## Malformed packets (R70, R72) -/

/-- A LENGTH that the packet's class does not permit (R70). -/
def badLength (p : Packet) : Bool :=
  match opClass p.opcode with
  | some 0 => if p.opcode = 1 || p.opcode = 2 then decide (255 < p.length.toNat) else decide (p.length ≠ 0)
  | some 1 => decide (p.length ≠ 15)
  | some 2 | some 3 | some 4 => decide (255 < p.length.toNat)
  | _ => false

/-- A reserved bit of a packet is set: header word 1 [1:0], or the OPX and extension bits that the opcode's rule calls
reserved (R94, R102, R218, R252). -/
def badReserved (p : Packet) : Bool :=
  decide (p.rsv ≠ 0) ||
  (match p.opcode.toNat with
   | 0x03 => decide (2 ^ 14 ≤ p.opx.toNat)
   | 0x04 => decide (2 ^ 27 ≤ p.opx.toNat)
   | 0x30 | 0x31 | 0x32 | 0x33 | 0x34 => decide (2 ^ 24 ≤ p.opx.toNat)
   | 0x64 | 0x65 => (p.ext.drop 3).any fun b => b ≠ 0
   | _ => false)

/-- A packet that cannot be parsed (R72). -/
def malformed (p : Packet) : Bool :=
  match opClass p.opcode with
  | none => true
  | some c =>
    decide (p.tc.toNat ≠ c) || decide (eidKind p.dst = 3) || decide (eidKind p.src = 3) || decide (p.dclass = 3)
      || (decide (p.status ≠ 0) && !opStatusBearing p.opcode) || (decide (p.epoch ≠ 0) && decide (p.stream = 0))
      || badLength p || badReserved p

/-! ## Planes and streams (R64) -/

/-- The home plane of an ordered stream (R64). -/
def homePlane (src dst : Eid) (stream : Nat) : Bool :=
  xor (xor (parityBits 20 src.toNat) (parityBits 20 dst.toNat)) (parityBits 4 stream)

/-- The plane an ordered stream travels on at an epoch (R64). -/
def streamPlane (src dst : Eid) (stream epoch : Nat) : Bool := xor (homePlane src dst stream) (decide (epoch % 2 = 1))

end Sys2Proof.Machine
end

