-- ==== Sys2Proof/Machine/RoleOps.lean ====
section
/-! DEFINITION. Tile roles and capacity (R433, R447, R449), and the physical tiles behind them (R444). -/

namespace Sys2Proof.Machine

def onTile (f : TileState → TileState) (s : State) : State := s.onM fun m => { m with tile := f m.tile }
def onBring (f : BringState → BringState) (s : State) : State := s.onM fun m => { m with bring := f m.bring }

/-- Role code of a logical tile, and logical tiles in service for a role (R433, R452). -/
def tileRole (t : Nat) (s : State) : Nat := s.rd .module Fld.tilMapRole t
def roleCount (r : Nat) (s : State) : Nat := s.rd .module Fld.tilRoleCntInService r

/-- The physical tile that serves a logical tile: row × 34 + physical column. -/
def physOf (t : Nat) (s : State) : Nat := t / 32 * 34 + s.rd .module Fld.tilMapPhysCol t

/-- A good physical tile is free (R433, R452): its role is SPARE and it serves no logical tile, not even one whose role is SPARE. -/
def physFree (p : Nat) (s : State) : Bool :=
  decide (s.rd .module Fld.tilPhysRole p = 5) && decide (s.rd .module Fld.tilPhysLogical p = 0xFFF)

/-- The free good physical tiles of a logical tile's row that no migration has chosen (R444). -/
def freePhys (t : Nat) (s : State) : Option Nat :=
  (List.range 34).findSome? fun c =>
    let p := t / 32 * 34 + c
    if physFree p s = true ∧ (s.m.tile.migration.toList ++ s.m.tile.waiting).all (fun x => decide (x.phys ≠ p)) = true
    then some p else none

/-- TIL.STATUS.ROWS_NO_SPARE (R452). -/
def rowsNoSpare (s : State) : Nat :=
  ((List.range 64).filter fun r => (List.range 34).all fun c => !physFree (r * 34 + c) s).length

/-- The figures that follow the tiles in service (R447): logical tiles, those MISSING, rows without a spare, and reduction slots. -/
def settleFigures (s : State) : State :=
  let missing := roleCount 7 s
  let s1 := (s.wr .module Fld.glbRoleLogicalTiles 0 (2048 - missing)).wr .module Fld.tilStatusMissing 0 missing
  (s1.wr .module Fld.tilStatusRowsNoSpare 0 (rowsNoSpare s1)).wr .module Fld.mrnStatusSlotsTotal 0 (12 * roleCount 0 s1)

/-- A capacity event (R447): counted, recorded with role, old and new count, and signalled by the capacity interrupt. -/
def capacityEvent (role old new : Nat) (s : State) : State :=
  let e : Event := { code := 0x50, severity := 1, block := 2, arg0 := role, arg1 := old * 65536 + new }
  raiseSource 73 (logModule e (bump .module .tilCapEventCnt 0 s))

/-- The number of tiles in service for a role changes. MISSING is no role in service: it has no event of its own. -/
def setCount (role new : Nat) (s : State) : State :=
  let old := roleCount role s
  let s1 := s.wr .module Fld.tilRoleCntInService role new
  if role ≤ 5 then capacityEvent role old new s1 else s1

/-- A logical tile takes another role (R446, R449): the map, both counts with their capacity events, and the figures. -/
def changeRole (t new : Nat) (s : State) : State :=
  let old := tileRole t s
  let s1 := s.wr .module Fld.tilMapRole t new
  let s2 := if new ≤ 5 then s1.wr .module Fld.tilPhysRole (physOf t s) new else s1
  settleFigures (setCount new (roleCount new s2 + 1) (setCount old (roleCount old s2 - 1) s2))

/-- A command of JIG.ROLE_CMD begins, and ends with a status (R449, R451). -/
def beginRole (t : Nat) (s : State) : State :=
  (s.wrb .module Fld.jigRoleStatusBusy 0 true).wr .module Fld.jigRoleStatusTile 0 t
def endRole (st : Status) (s : State) : State :=
  (s.wrb .module Fld.jigRoleStatusBusy 0 false).wr .module Fld.jigRoleStatusStatus 0 st.toNat

/-- The role change under way completes (R449). -/
def finishChange (s : State) : State :=
  match s.m.tile.change with
  | none => s
  | some c => endRole 0 (changeRole c.tile c.role (onTile (fun x => { x with change := none }) s))

/-- Slots that admission leaves free for a REDUCE tile on its way to SPARE (R449). -/
def slotsWithheld (s : State) : Nat := match s.m.tile.change with
  | some c => if tileRole c.tile s = 0 ∧ c.role = 5 then 12 else 0
  | none => 0

/-- An entry is made in the field record, which holds 512 (R441); a full one records an event instead (R450). -/
def recordEntry (e : RecordEntry) (s : State) : State :=
  let used := s.m.tile.record.length
  if 512 ≤ used then logModule { code := Config.unlistedEvent 1, severity := 1, block := 2 } s
  else
    ((onTile (fun x => { x with record := x.record ++ [e] }) s).wr .module Fld.tilRecordStatusUsed 0 (used + 1)).wr .module
      Fld.tilRecordStatusFree 0 (511 - used)

end Sys2Proof.Machine
end

