-- ==== Sys2Proof/Machine/LaneOps.lean ====
section
/-! DEFINITION. Operations on one lane (03): training states, tap codes, the preset cache, sparing and identity. What a
lane does to its port lies in LinkOps.lean and PortEvents.lean. -/

namespace Sys2Proof.Machine

/-! ## Training states (R88) -/

/-- The state code of a lane, LNK.STATUS.STATE. -/
def laneSt (sd : Side) (n : Nat) (s : State) : Nat := s.rd sd Fld.lnkStatusState n

/-- The lane is in a state from LOCK to HANDOVER, or in FAST: an attempt runs. -/
def inAttempt (st : Nat) : Bool := (decide (2 ≤ st) && decide (st ≤ 7)) || decide (st = 13)

/-- Sets a lane's state code. -/
def setLaneSt (sd : Side) (n st : Nat) (s : State) : State := s.wr sd Fld.lnkStatusState n st

/-- Sets LNK.STATUS.REASON. -/
def setReason (sd : Side) (n r : Nat) (s : State) : State := s.wr sd Fld.lnkStatusReason n r

/-- The transmitter loads a preset (R81). -/
def loadPreset (sd : Side) (n p : Nat) (s : State) : State :=
  (s.wr sd Fld.lnkTxTapsOuter n (presetTaps p).1).wr sd Fld.lnkTxTapsMain n (presetTaps p).2

/-- The initial preset of a lane (LNK.CTL.INIT_PRESET, R81). -/
def loadInitPreset (sd : Side) (n : Nat) (s : State) : State := loadPreset sd n (s.rd sd Fld.lnkCtlInitPreset n) s

/-- What a lane forgets when a training begins. -/
def clearTraining (ignoreCache : Bool) (l : LaneState) : LaneState :=
  { l with goodBlocks := 0, farTstate := 0, farRxDone := false, farAssign := 0xFFFFF, farVersion := 0, rxDone := false
           spanPs := 0, ignoreCache := ignoreCache, fast := false, myRequest := none, farRequest := none, answered := none
           laneCtl := none, badMarkers := 0, nextMarker := none, releaseTo := 0, freezeOverridden := false
           quietSince := none }

/-- The lane starts training from DETECT at its initial preset (R81, R88). -/
def enterDetect (sd : Side) (n : Nat) (ignoreCache : Bool) (s : State) : State :=
  ((loadInitPreset sd n (setLaneSt sd n 1 s)).wrb sd Fld.lnkStatusCacheHit n false).onLane sd n (clearTraining ignoreCache)

/-- The lane's slice loses power: OFF (R104). -/
def enterOff (sd : Side) (n : Nat) (s : State) : State := (setLaneSt sd n 10 s).onLane sd n (clearTraining false)

/-- The lane goes to SLEEP, keeping its equaliser and coarse CDR state (R104). -/
def enterSleep (sd : Side) (n : Nat) (s : State) : State :=
  (setLaneSt sd n 9 s).onLane sd n fun l => { l with releaseTo := 0, badMarkers := 0, nextMarker := none }

/-- Raises the lane-fault interrupt: source LINK of the module, vector 1 of the endpoint block (R93, R390, R565). -/
def raiseLane (sd : Side) (s : State) : State :=
  match sd with
  | .module => raiseSource 75 s
  | .endpoint => raiseVector 1 s

/-- The lane enters MISWIRED with a reason; every entry records an event and raises the interrupt (R93). -/
def enterMiswired (sd : Side) (n reason : Nat) (s : State) : State :=
  raiseLane sd (logEvent sd { code := 0x10, severity := 2, block := 4, arg0 := n, arg1 := reason }
    (setReason sd n reason (setLaneSt sd n 11 s)))

/-! ## Slices (R98, R99) -/

/-- The chiplet of a lane and the lanes and slices of a chiplet: 128 lanes on 136 slices on the module (R25), 16 on 18 on
the endpoint block (R99). -/
def chipletOf : Side → Nat → Nat
  | .module, n => n / 128
  | .endpoint, _ => 0

def chipletLanes : Side → Nat → List Nat
  | .module, c => (List.range 128).map (· + 128 * c)
  | .endpoint, _ => List.range 16

def chipletSlices : Side → Nat
  | .module => 136
  | .endpoint => 18

/-- The lowest slice of a lane's chiplet that no lane uses and that is not bad. -/
def freeSlice (sd : Side) (n : Nat) (s : State) : Option Nat :=
  let c := chipletOf sd n
  let used := (chipletLanes sd c).map fun k => s.rd sd Fld.lnkStatusSlice k
  (List.range (chipletSlices sd)).find? fun x => !used.contains x && !(s.unit sd).badSlices.contains (c, x)

/-- The lane's slice is marked bad, a spare slice replaces it and the lane starts a full training with an empty preset
cache (R97, R98). -/
def remapSlice (sd : Side) (n spare : Nat) (s : State) : State :=
  let old := s.rd sd Fld.lnkStatusSlice n
  let s0 := match sd with
    | .module => recordEntry (.slice (chipletOf sd n) old) s
    | .endpoint => s
  let s1 := s0.onUnit sd fun u => { u with badSlices := u.badSlices ++ [(chipletOf sd n, old)] }
  let s2 := (s1.wr sd Fld.lnkStatusSlice n spare).wr sd Fld.lnkStatusAttempts n 0
  let s3 := s2.onLane sd n fun l => { l with cache := [], noSpareRatio := none }
  enterDetect sd n false (logEvent sd { code := 0x12, severity := 1, block := 4, arg0 := n, arg1 := spare } s3)

/-- The lane enters FAILED after three failed attempts, with its event; its slice is remapped when a spare is free,
otherwise it stays there with reason NO_SPARE (R88, R98). -/
def enterFailed (sd : Side) (n : Nat) (s : State) : State :=
  let s1 := raiseLane .endpoint s
  let s2 := logEvent sd { code := 0x11, severity := 2, block := 4, arg0 := n, arg1 := s.rd sd Fld.lnkStatusReason n }
    (setLaneSt sd n 12 (match sd with | .module => s | .endpoint => s1))
  match freeSlice sd n s2 with
  | some x => remapSlice sd n x s2
  | none => setReason sd n 8 s2

/-- The attempt ends as failed: the count rises, and the lane returns to DETECT or, at the third, enters FAILED (R88). -/
def failAttempt (sd : Side) (n : Nat) (ignoreCache : Bool) (s : State) : State :=
  let a := s.rd sd Fld.lnkStatusAttempts n + 1
  let s1 := s.wr sd Fld.lnkStatusAttempts n a
  if 3 ≤ a then enterFailed sd n s1 else enterDetect sd n ignoreCache s1

/-! ## Tap requests (R80, R85 to R87) -/

/-- A 6-bit two's-complement tap code as a number. -/
def tapInt (c : Nat) : Int := if c < 32 then c else (c : Int) - 64

/-- A tap code's 6 bits. -/
def tapCode (i : Int) : Nat := (i % 64).toNat

/-- The range of an outer tap (R80), in the order c(−3), c(−2), c(−1), c(1), c(2). -/
def tapRange : Nat → Int × Int
  | 0 => (-4, 4)
  | 1 => (-8, 8)
  | 2 => (-24, 0)
  | 3 => (-16, 0)
  | _ => (-8, 8)

/-- Outer tap `t` of a TAPSET word (R83). -/
def tapOf (outer t : Nat) : Int := tapInt (outer / 2 ^ (24 - 6 * t) % 64)

/-- The five outer taps of a TAPSET word. -/
def tapsOf (outer : Nat) : List Int := (List.range 5).map (tapOf outer)

/-- The TAPSET word of five outer taps. -/
def packTaps (l : List Int) : Nat :=
  (List.range 5).foldl (fun acc t => acc + tapCode (l.getD t 0) * 2 ^ (24 - 6 * t)) 0

/-- The main tap that five outer taps leave (R80). -/
def mainTap (l : List Int) : Int := 64 - (l.foldl (fun acc t => acc + t.natAbs) 0 : Nat)

/-- The RESULT of a change to `new` of tap `t` (R86): 0 applied, 1 at minimum, 2 at maximum, 3 main-tap limit. -/
def tapResult (l : List Int) (t : Nat) : Nat :=
  if l.getD t 0 < (tapRange t).1 then 1 else if (tapRange t).2 < l.getD t 0 then 2
  else if mainTap l < 32 then 3 else 0

/-- The first reason, in tap order, for which five taps break R80; 0 when they do not (R87). The main tap after taps
0 to t counts those taps only, so that the tap that first breaks the limit is the one named. -/
def loadResult (l : List Int) : Nat :=
  ((List.range 5).map fun t =>
    if l.getD t 0 < (tapRange t).1 then 1 else if (tapRange t).2 < l.getD t 0 then 2
    else if mainTap (l.take (t + 1)) < 32 then 3 else 0).find? (· ≠ 0) |>.getD 0

/-- What a request word does to the outer taps (R85): the RESULT code and the new taps. -/
def applyRequest (outer : Nat) (req tapset : Nat) : Nat × Nat :=
  match req / 2 ^ 10 % 4 with
  | 0 =>
    let t := req / 2 ^ 7 % 8
    if 5 ≤ t then (4, outer)
    else match req / 2 ^ 5 % 4 with
      | 0 => (0, outer)
      | 3 => (4, outer)
      | d =>
        let l := (tapsOf outer).set t (tapOf outer t + (if d = 1 then 1 else -1))
        let r := tapResult l t
        (r, if r = 0 then packTaps l else outer)
  | 1 => (0, (presetTaps (req / 4 % 8)).1)
  | 2 =>
    let l := tapsOf (tapset % 2 ^ 30)
    let r := loadResult l
    (r, if r = 0 then packTaps l else outer)
  | _ => (4, outer)

/-- The response word (R86). -/
def responseWord (seq result : Nat) (precode : Bool) (main : Nat) : BitVec 16 :=
  BitVec.ofNat 16 (seq * 2 ^ 12 + result * 2 ^ 9 + b2n precode * 2 ^ 8 + main)

/-- The transmitter serves a request: applies it or refuses it under R80, sets its precoding and forms the answer. -/
def serveRequest (sd : Side) (n : Nat) (req : BitVec 16) (tapset : BitVec 32) (training : Bool) (s : State) : State :=
  let r := applyRequest (s.rd sd Fld.lnkTxTapsOuter n) req.toNat tapset.toNat
  let main := (mainTap (tapsOf r.2)).toNat
  let pre := if training then req.getLsbD 1 && s.rdb sd Fld.lnkCtlPrecodeAllow n else s.rdb sd Fld.lnkStatusPrecodeTx n
  let s1 := ((s.wr sd Fld.lnkTxTapsOuter n r.2).wr sd Fld.lnkTxTapsMain n main).wrb sd Fld.lnkStatusPrecodeTx n pre
  s1.onLane sd n fun l =>
    { l with response := responseWord (req.toNat / 2 ^ 12) r.1 pre main
             answered := some (req.extractLsb' 12 4), farRequest := none }

/-! ## The preset cache (R95) -/

/-- The cache entry for a far end. -/
def cacheFind (l : LaneState) (eid : Eid) (lane : Nat) : Option CacheEntry :=
  l.cache.find? fun c => decide (c.eid = eid) && decide (c.lane = lane)

/-- The far end stored in LNK.FAR_ID: EID and lane. -/
def farId (sd : Side) (n : Nat) (s : State) : Eid × Nat :=
  (BitVec.ofNat 20 (s.rd sd Fld.lnkFarIdEid n), s.rd sd Fld.lnkFarIdPort n)

/-- This end holds a cached entry for its far end and may use it. -/
def cacheHit (sd : Side) (n : Nat) (s : State) : Bool :=
  let l := s.lane sd n
  !l.ignoreCache && (cacheFind l (farId sd n s).1 (farId sd n s).2).isSome

/-- The cache with an entry written as the most recently used; the least recently used of more than 16 goes. -/
def cacheWrite (c : CacheEntry) (cache : List CacheEntry) : List CacheEntry :=
  (c :: cache.filter fun x => !(decide (x.eid = c.eid) && decide (x.lane = c.lane))).take 16

/-- The cache without the entry of a far end. -/
def cacheDrop (eid : Eid) (lane : Nat) (cache : List CacheEntry) : List CacheEntry :=
  cache.filter fun x => !(decide (x.eid = eid) && decide (x.lane = lane))

/-! ## Identity and the wiring plan (R91 to R93) -/

/-- The module's comparison of a far identity with LNK.PLAN: 0 match, otherwise the REASON (R91). -/
def planReason (n : Nat) (eid : Eid) (farLane : Nat) (s : State) : Nat :=
  if !s.rdb .module Fld.lnkPlanValid n then 3
  else
    let pe := s.rd .module Fld.lnkPlanEid n
    let pp := s.rd .module Fld.lnkPlanPort n
    if isModuleEid eid then (if eid.toNat ≠ pe then 1 else if farLane ≠ pp then 2 else 0)
    else if isEndpointEid eid || decide (eid = 0xFFFFF) then
      if eid ≠ 0xFFFFF ∧ eid.toNat ≠ pe then 1
      else if farLane ≠ pp then 2
      else if decide (8 ≤ farLane) ≠ s.rdb .module Fld.glbRolePlane then 4 else 0
    else 1

/-- ASSIGN is usable: an endpoint EID whose rack is the far leaf's index (R92). -/
def assignUsable (assign far : Eid) : Bool := isEndpointEid assign && decide (eidRack assign = eidIndex far)

/-- The endpoint block's check of a far identity: 0 match, otherwise the REASON (R92, R393). -/
def endpointReason (n : Nat) (eid assign : Eid) (s : State) : Nat :=
  if !isLeafEid eid then 3
  else if decide (8 ≤ n) ≠ eidPlane eid then 4
  else if s.rdb .endpoint Fld.fxeIdValid then (if assign ≠ s.myEid .endpoint then 1 else 0)
  else if assignUsable assign eid then 0 else 1

/-- The comparison of the unit at this end. -/
def identityReason (sd : Side) (n : Nat) (eid : Eid) (farLane : Nat) (assign : Eid) (s : State) : Nat :=
  match sd with
  | .module => planReason n eid farLane s
  | .endpoint => endpointReason n eid assign s

/-- An endpoint block that holds no EID takes a usable ASSIGN and raises vector 9 (R47, R92, R354). -/
def takeAssign (assign : Eid) (s : State) : State :=
  if s.rdb .endpoint Fld.fxeIdValid then s
  else raiseVector 9 ((s.wr .endpoint Fld.fxeIdEid 0 assign.toNat).wrb .endpoint Fld.fxeIdValid 0 true)

/-- A lane whose identity matches goes on: FAST when both ends hit in their caches, otherwise TUNE (R88, R95). -/
def identityMatched (sd : Side) (n : Nat) (s : State) : State :=
  let l := s.lane sd n
  let f := farId sd n s
  if cacheHit sd n s && l.farTstate.getLsbD 8 then
    match cacheFind l f.1 f.2 with
    | some c =>
      let seq := l.myRequestSeq + 1
      ((setReason sd n 0 (setLaneSt sd n 13 s)).wrb sd Fld.lnkStatusCacheHit n true).onLane sd n fun l =>
        { l with fast := true, eqState := c.eqState, myRequestSeq := seq
                 myRequest := some (BitVec.ofNat 16 (seq.toNat * 2 ^ 12 + 2 * 2 ^ 10 + b2n c.precode * 2),
                   c.taps.setWidth 32) }
    | none => s
  else
    (loadInitPreset sd n (setReason sd n 0 (setLaneSt sd n 4 s))).onLane sd n fun l =>
      { l with fast := false, farTaps := BitVec.ofNat 30 (presetTaps (s.rd sd Fld.lnkCtlInitPreset n)).1 }

/-- TSTATE shows a state of IDENTIFY or later. -/
def farIdentified (tstate : BitVec 32) : Bool :=
  let st := tstate.toNat % 32
  (decide (3 ≤ st) && decide (st ≤ 8)) || decide (st = 13)

/-- Compares a stored far identity: the first comparison of IDENTIFY, or again under R93. A lane that does not match
enters MISWIRED (the reason alone changes when it is there already). One that matches waits in IDENTIFY for the far end to show IDENTIFY or
later (R88), and leaves MISWIRED at once (R93). -/
def compareIdentity (sd : Side) (n : Nat) (s : State) : State :=
  let f := farId sd n s
  let assign := (s.lane sd n).farAssign
  let r := identityReason sd n f.1 f.2 assign s
  if r ≠ 0 then
    let s1 := if sd = .endpoint ∧ r = 1 ∧ s.rdb .endpoint Fld.fxeIdValid = true then
        logEvent sd { code := 0xC6, severity := 2, block := 0x7F, arg0 := n, arg1 := assign.toNat } s else s
    if laneSt sd n s1 = 11 then setReason sd n r s1 else enterMiswired sd n r s1
  else
    let s1 := match sd with
      | .module => s
      | .endpoint => takeAssign assign s
    if laneSt sd n s1 = 11 || farIdentified (s1.lane sd n).farTstate then identityMatched sd n s1 else s1

/-! ## The control block this end sends (R83 to R86) -/

/-- The 62 bytes of a control block that its CRC covers. -/
def controlBytes (c : ControlBlock) : List Byte :=
  leBytes 4 c.mark.toNat ++ leBytes 2 c.request.toNat ++ leBytes 2 c.response.toNat ++ leBytes 4 c.tapset.toNat
    ++ leBytes 4 c.ident.toNat ++ leBytes 4 c.assign.toNat ++ leBytes 4 c.tstate.toNat ++ leBytes 8 c.version.toNat
    ++ zeros 30

/-- MARK and CRC of a control block match (R83, R84). -/
def controlGood (c : ControlBlock) : Bool := decide (c.mark = 0x3C5AC3A5) && decide (c.crc = crc16 (controlBytes c))

/-- The features a unit implements: bits 8 to 18 (R137). -/
def featuresImplemented : Nat := 0x7FF00

/-- The features a port offers: those it implements and PRT.VERSION.OFFER allows, FEC_IL only while PRT.CTL.IL_ALLOW is 1
(R113, R136). -/
def offered (sd : Side) (p : Nat) (s : State) : Nat :=
  let o := (s.rd sd Fld.prtVersionOffer p * 256) &&& featuresImplemented
  if s.rdb sd Fld.prtCtlIlAllow p then o else clearBit o 8

/-- The VERSION word a port's lanes offer: MAJOR 2, MINOR 0 and the features (R136). -/
def offerWord (sd : Side) (p : Nat) (s : State) : BitVec 64 := BitVec.ofNat 64 (offered sd p s + 2 * 16)

/-- A feature bit is in force on a port: both ends offer it (R136, R137). -/
def inForce (sd : Side) (p bit : Nat) (s : State) : Bool :=
  (offered sd p s).testBit bit && (s.port sd p).farOffer.getLsbD bit

/-- The control block a lane of port `p` sends. -/
def myControlBlock (sd : Side) (n p : Nat) (s : State) : ControlBlock :=
  let l := s.lane sd n
  let id : Eid := match sd with
    | .module => s.myEid .module
    | .endpoint => if s.rdb .endpoint Fld.fxeIdValid then s.myEid .endpoint else 0xFFFFF
  let assign : Nat := match sd with
    | .module => if s.isLeaf && decide (eidKind (BitVec.ofNat 20 (s.rd .module Fld.lnkPlanEid n)) = 0)
        && s.rdb .module Fld.lnkPlanValid n then s.rd .module Fld.lnkPlanEid n else 0xFFFFF
    | .endpoint => 0xFFFFF
  let req : BitVec 16 × BitVec 32 := l.myRequest.getD (BitVec.ofNat 16 (l.myRequestSeq.toNat * 2 ^ 12), 0)
  let c : ControlBlock :=
    { mark := 0x3C5AC3A5, request := req.1 ||| BitVec.ofNat 16 (b2n l.rxDone), response := l.response, tapset := req.2
      ident := BitVec.ofNat 32 (id.toNat + n * 2 ^ 20), assign := BitVec.ofNat 32 assign
      tstate := BitVec.ofNat 32 (laneSt sd n s + s.rd sd Fld.lnkStatusAttempts n * 2 ^ 5
        + s.rd sd Fld.lnkCtlCircuit n * 2 ^ 7 + b2n (cacheHit sd n s) * 2 ^ 8)
      version := offerWord sd p s, crc := 0 }
  { c with crc := crc16 (controlBytes c) }

end Sys2Proof.Machine
end

