-- ==== Sys2Proof/Machine/LinkOps.lean ====
section
/-! DEFINITION. Operations on one logical port (04): its lanes, flits and their check, acknowledgement and replay,
credits, forming, and going down as far as the link layer itself goes. -/

namespace Sys2Proof.Machine

/-! ## Ports and their lanes (R129, R352) -/

/-- The bundling of a plane of the endpoint block that its WIDTH registers give (R352): ports and widths from a lane on. -/
def walkBundle (s : State) : Nat → Nat → Nat → List (Nat × Nat)
  | 0, _, _ => []
  | fuel + 1, p, stop =>
    if stop ≤ p then []
    else
      let w := max 1 (s.rd .endpoint Fld.prtCtlWidth p)
      (p, w) :: walkBundle s fuel (p + w) stop

/-- The bundling in force in the plane of a lane of the endpoint block: the one fixed when its ports formed, else the
one its registers give. -/
def planeBundle (s : State) (n : Nat) : List (Nat × Nat) :=
  let b := n / 8 * 8
  match s.endpoint.bundle.filter fun x => decide (x.1 / 8 * 8 = b) with
  | [] => walkBundle s 8 b (b + 8)
  | l => l

/-- The configured width of the port that begins at lane `p`; 0 where no port begins there. -/
def portWidth (sd : Side) (p : Nat) (s : State) : Nat :=
  match sd with
  | .module => s.rd .module Fld.prtCtlWidth p
  | .endpoint => ((planeBundle s p).lookup p).getD 0

/-- The port a lane belongs to (R129). -/
def portOf (sd : Side) (n : Nat) (s : State) : Option Nat :=
  match sd with
  | .module => [(n / 8 * 8, 8), (n / 4 * 4, 4), (n / 2 * 2, 2), (n, 1)].find? (fun x =>
      decide (s.rd .module Fld.prtCtlWidth x.1 = x.2)) |>.map (·.1)
  | .endpoint => ((planeBundle s n).find? fun x => decide (x.1 ≤ n) && decide (n < x.1 + x.2)).map (·.1)

/-- The active lane mask of a port, relative to its lowest lane (R131). -/
def activeMask (sd : Side) (p : Nat) (s : State) : Nat := s.rd sd Fld.prtStatusActiveMask p

/-- The lanes a mask names. -/
def maskLanes (p mask : Nat) : List Nat := (setBits 8 mask).map (p + ·)

/-- The state code of a port (R142): 0 DOWN, 1 INIT, 2 UP, 3 DEGRADED, 4 RESYNC. -/
def portSt (sd : Side) (p : Nat) (s : State) : Nat := s.rd sd Fld.prtStatusState p

/-- The port carries packets: UP, DEGRADED, or in a change of its mask (no packet is lost in a degrade, R133). -/
def portUp (sd : Side) (p : Nat) (s : State) : Bool := decide (2 ≤ portSt sd p s) && decide (portSt sd p s ≤ 4)

/-- The plane a unit's port lies on: a module's own plane (R36); lanes 0–7 A, 8–15 B on the endpoint block. -/
def portPlane (sd : Side) (p : Nat) (s : State) : Bool :=
  match sd with
  | .module => s.rdb .module Fld.glbRolePlane
  | .endpoint => decide (8 ≤ p)

/-- UP or DEGRADED by the number of active lanes (R142). -/
def settleState (sd : Side) (p : Nat) (s : State) : State :=
  s.wr sd Fld.prtStatusState p (if popcount 8 (activeMask sd p s) < portWidth sd p s then 3 else 2)

/-! ## Flits (R115 to R119, R126) -/

/-- The credit return field: the two lowest pools whose freed total has not been reported; 15 where there is none (R126). -/
def creditReturn (ps : PortState) : BitVec 32 × List Nat :=
  let due := (List.range 11).filter fun k => decide (ps.freed.getD k 0 ≠ ps.reported.getD k 0)
  let enc (o : Option Nat) : Nat := match o with
    | some k => ps.freed.getD k 0 % 4096 + k * 4096
    | none => 15 * 4096
  let two := due.take 2
  (BitVec.ofNat 32 (enc due[0]? + enc due[1]? * 65536),
   (List.range 11).map fun k => if two.contains k then ps.freed.getD k 0 else ps.reported.getD k 0)

/-- The bytes of a flit that its CRC covers: 0–243, then 252–255 (R117). -/
def flitCrcBytes (f : Flit) : List Byte :=
  leBytes 4 (f.type.toNat + f.seq.toNat * 2 ^ 8 + f.ack.toNat * 2 ^ 20) ++ f.slots ++ leBytes 4 f.credit.toNat

/-- Slot bytes filled up with zeros to 240. -/
def padSlots (l : List Byte) : List Byte := (l ++ zeros (240 - l.length)).take 240

/-- A flit of this port with the current ACK and credit return and its CRC. -/
def makeFlit (ps : PortState) (type : BitVec 8) (seq : BitVec 12) (slots : List Byte) : Flit :=
  let f : Flit := { type := type, seq := seq, ack := ps.rxAck, slots := padSlots slots, crc := 0
                    credit := (creditReturn ps).1 }
  { f with crc := crc64 (flitCrcBytes f) }

/-- Sends one flit on the next active lane in rotation (R131). -/
def sendFlit (sd : Side) (p : Nat) (type : BitVec 8) (seq : BitVec 12) (slots : List Byte) (s : State) : State :=
  let ps := s.port sd p
  let lanes := maskLanes p (activeMask sd p s)
  let k := if ps.nextLane < lanes.length then ps.nextLane else 0
  (s.emit sd (.flit p (lanes.getD k p) (makeFlit ps type seq slots))).onPort sd p fun ps =>
    { ps with nextLane := k + 1, reported := (creditReturn ps).2 }

/-- SEQ of the next sequenced flit that this port sends on the line: the oldest unacknowledged, else the next new one. -/
def oldestSeq (ps : PortState) : BitVec 12 :=
  match ps.retry with
  | e :: _ => e.seq
  | [] => ps.txSeq

/-- Sends a new sequenced flit: it takes the next SEQ and a retry buffer entry (R119, R123). -/
def sendSequenced (sd : Side) (p : Nat) (type : BitVec 8) (slots : List Byte) (s : State) : State :=
  let seq := (s.port sd p).txSeq
  (sendFlit sd p type seq slots s).onPort sd p fun ps =>
    { ps with txSeq := seq + 1, retry := ps.retry ++ [{ type := type, seq := seq, slots := padSlots slots }] }

/-- Sends a link control message as a CTRL flit (R130). -/
def sendCtrl (sd : Side) (p code mask : Nat) (more : List Byte) (s : State) : State :=
  sendSequenced sd p 0x20 ([BitVec.ofNat 8 code, BitVec.ofNat 8 mask] ++ zeros 14 ++ more) s

/-- A RESYNC group: one RESYNC flit on every lane of the mask, with the SEQ of the next sequenced flit; the next flit goes
to the lowest active lane (R131). -/
def resyncGroup (sd : Side) (p : Nat) (seq : BitVec 12) (s : State) : State :=
  let mask := activeMask sd p s
  let s1 := (maskLanes p mask).foldl (fun s n =>
    s.emit sd (.flit p n (makeFlit (s.port sd p) 0x31 seq [BitVec.ofNat 8 mask]))) s
  s1.onPort sd p fun ps => { ps with nextLane := 0 }

/-- The retry entries from a SEQ on. -/
def retryFrom (seq : BitVec 12) (l : List RetryEntry) : List RetryEntry := l.dropWhile fun e => decide (e.seq ≠ seq)

/-- A RESYNC group and the replay of the buffered flits from a SEQ (R121); the replays of the oldest SEQ are counted (R122). -/
def replay (sd : Side) (p : Nat) (seq : BitVec 12) (s : State) : State :=
  let s1 := resyncGroup sd p seq (bump sd .prtReplayCnt p s)
  let es := retryFrom seq (s.port sd p).retry
  let s2 := es.foldl (fun s e => sendFlit sd p e.type e.seq e.slots s) s1
  s2.onPort sd p fun ps => { ps with replays := if ps.retry.isEmpty then 0 else ps.replays + 1 }

/-- Takes a cumulative ACK: the entries up to and including it are freed (R119). -/
def takeAck (sd : Side) (p : Nat) (a : BitVec 12) (s : State) : State :=
  s.onPort sd p fun ps =>
    if ps.retry.any fun e => decide (e.seq = a) then
      let rest := (ps.retry.dropWhile fun e => decide (e.seq ≠ a)).drop 1
      { ps with retry := rest, replays := 0, failed := [], initAcked := true }
    else ps

/-- One pool's report in a credit return field: new credit is the difference from the last total accepted (R126). None
where the total jumps by more than the pool's grant (R139). -/
def takeCredit (ps : PortState) (pool count : Nat) : Option PortState :=
  if 11 ≤ pool then some ps
  else
    let d := (count + 4096 - ps.lastTotal.getD pool 0) % 4096
    if ps.farGrant.getD pool 0 < d then none
    else some { ps with credits := ps.credits.set pool (ps.credits.getD pool 0 + d)
                        lastTotal := ps.lastTotal.set pool count }

/-- Both reports of a credit return field. -/
def takeCredits (ps : PortState) (c : BitVec 32) : Option PortState :=
  (takeCredit ps (c.toNat / 2 ^ 12 % 16) (c.toNat % 4096)).bind fun ps =>
    takeCredit ps (c.toNat / 2 ^ 28 % 16) (c.toNat / 2 ^ 16 % 4096)

/-- The flit types that are not reserved (R116). -/
def flitTypeKnown (t : BitVec 8) : Bool := decide (t.toNat ≤ 15) || t = 0x20 || t = 0x30 || t = 0x31

/-- A sequenced flit: DATA or CTRL (R119). -/
def flitSequenced (t : BitVec 8) : Bool := (decide (1 ≤ t.toNat) && decide (t.toNat ≤ 15)) || t = 0x20

/-- A flit fails: CRC, an uncorrectable codeword, a reserved TYPE, or a SEQ out of sequence (R120). -/
def flitFails (ps : PortState) (f : Flit) (uncorrectable : Bool) : Bool :=
  uncorrectable || decide (f.slots.length ≠ 240) || decide (f.crc ≠ crc64 (flitCrcBytes f)) || !flitTypeKnown f.type
    || (flitSequenced f.type && decide (f.seq ≠ ps.rxAck + 1))

/-- A failed flit: counted, and on the first failure RETRY_REQ is sent and flits are discarded until a RESYNC (R120). -/
def failFlit (sd : Side) (p lane : Nat) (s : State) : State :=
  let s1 := (bump sd .prtCrcErr p s).onPort sd p fun ps =>
    { ps with failed := smapSet ps.failed lane (smapGet ps.failed 0 lane + 1) }
  if (s.port sd p).discarding then s1
  else (sendFlit sd p 0x30 (s1.port sd p).txSeq [] s1).onPort sd p fun ps => { ps with discarding := true, rxStream := [] }

/-- A RESYNC is acted on: acceptance resumes at its SEQ; flits it replays that were accepted already are skipped. A SEQ ahead
of the next expected one is none that this end asked for, and acceptance does not resume (R120, R121). -/
def resumeAt (sd : Side) (p : Nat) (seq : BitVec 12) (s : State) : State :=
  s.onPort sd p fun ps =>
    let back := (ps.rxAck + 1 - seq).toNat
    if back < 2048 then { ps with discarding := false, skip := back } else ps

/-- A sequenced flit that replays one accepted before the resync. -/
def isReplayed (ps : PortState) (f : Flit) : Bool :=
  decide (0 < ps.skip) && flitSequenced f.type && decide (f.seq = ps.rxAck + 1 - BitVec.ofNat 12 ps.skip)

/-- The whole packets at the front of a slot stream, with what is left. -/
def takePackets : Nat → List Byte → List Packet × List Byte
  | 0, l => ([], l)
  | fuel + 1, l =>
    match takePacket l with
    | none => ([], l)
    | some (p, rest) =>
      let r := takePackets fuel rest
      (p :: r.1, r.2)

/-- A pool returns credits on arrival: TC2 RSP, TC2 DAT and TC4 (R128). -/
def creditOnArrival (pool : Nat) : Bool := decide (pool = 4) || decide (pool = 5) || decide (pool = 7)

/-- Slots of a pool leave the ingress partition: they count as freed towards the far end (R126). -/
def freeSlots (sd : Side) (p pool n : Nat) (s : State) : State :=
  if creditOnArrival pool then s
  else s.onPort sd p fun ps =>
    { ps with inUse := ps.inUse.set pool (ps.inUse.getD pool 0 - n), freed := ps.freed.set pool (ps.freed.getD pool 0 + n) }

/-- A packet arrives whole at a port: it takes slots of its pool. False where no credit was held for it (R139). -/
def admitPacket (p : Packet) (ps : PortState) : Bool × PortState :=
  let pool := poolOf p.opcode
  let n := packetSlots p
  if ps.grant.getD pool 0 < ps.inUse.getD pool 0 + n then (false, ps)
  else if creditOnArrival pool then (true, { ps with arrived := ps.arrived ++ [p], freed := ps.freed.set pool (ps.freed.getD pool 0 + n) })
  else (true, { ps with arrived := ps.arrived ++ [p], inUse := ps.inUse.set pool (ps.inUse.getD pool 0 + n) })

/-- Admits packets in order; false once one has no credit. -/
def admitPackets : List Packet → PortState → Bool × PortState
  | [], ps => (true, ps)
  | p :: l, ps =>
    match admitPacket p ps with
    | (true, ps') => admitPackets l ps'
    | (false, ps') => (false, ps')

/-- Puts a packet of this unit at the end of a port's egress queue of its pool (R163). -/
def portSend (sd : Side) (p : Nat) (pkt : Packet) (s : State) : State :=
  let o := s.m.sw.nextOrder
  let k := poolOf pkt.opcode
  (s.onPort sd p fun ps => { ps with
      egress := smapSet ps.egress k (smapGet ps.egress [] k ++ [{ pkt := pkt, order := o, shared := false }]) }).onM
    fun m => { m with sw := { m.sw with nextOrder := o + 1 } }

/-- A link-local packet (TC0 or TC1) from this unit to the far end of a port. -/
def linkPacket (sd : Side) (p : Nat) (op : BitVec 8) (opx : Nat) (payload : List Byte) (s : State) : Packet :=
  sealPacket { dst := (farId sd p s).1, src := s.myEid sd, opcode := op, tc := BitVec.ofNat 3 ((opClass op).getD 0)
               plane := portPlane sd p s, opx := BitVec.ofNat 32 opx, length := lengthOf payload, payload := payload }

/-- The packet has been taken from the arrivals of a port, where it is among them, and its slots are free. -/
def consumeArrived (sd : Side) (p : Nat) (pkt : Packet) (s : State) : State :=
  if (s.port sd p).arrived.contains pkt then
    freeSlots sd p (poolOf pkt.opcode) (packetSlots pkt)
      (s.onPort sd p fun ps => { ps with arrived := ps.arrived.erase pkt })
  else s

/-- The packet has been taken from a unit's inbox, where it is there. -/
def consumeInbox (sd : Side) (pkt : Packet) (s : State) : State :=
  s.onUnit sd fun u => { u with inbox := u.inbox.eraseP fun x => decide (x.2 = pkt) }

/-! ## Port forming (R127, R132, R136, R161, R162) -/

/-- The smallest grant of a pool (R127). -/
def minGrant (pool : Nat) : Nat := if 8 ≤ pool then 260 else 20

/-- A port faces a module: its lowest lane's far end is a module EID. -/
def facesModule (sd : Side) (p : Nat) (s : State) : Bool := isModuleEid (farId sd p s).1

/-- The grant a module's port of `w` lanes advertises in a pool (R161): RTE.PART scaled by W / 8, no less than R127's
minimum; a port that faces a module grants that minimum in the four TC2 pools. -/
def moduleGrant (p w pool : Nat) (s : State) : Nat :=
  if facesModule .module p s && decide (2 ≤ pool) && decide (pool ≤ 5) then minGrant pool
  else max (minGrant pool) (s.rd .module Fld.rtePartIngressGrant pool * w / 8)

/-- The egress reservation of a module's port of `w` lanes in a pool (R161). -/
def moduleReserve (p w pool : Nat) (s : State) : Nat :=
  if facesModule .module p s && decide (2 ≤ pool) && decide (pool ≤ 5) then 0
  else s.rd .module Fld.rtePartEgressRes pool * w / 8

/-- The grants a unit's port advertises: the partitions on a module; R127's minimum on the endpoint block, whose buffers the
spec does not size. -/
def myGrants (sd : Side) (p w : Nat) (s : State) : List Nat :=
  (List.range 11).map fun k => match sd with
    | .module => moduleGrant p w k s
    | .endpoint => minGrant k

/-- The egress reservations of a unit's port. -/
def myReserves (sd : Side) (p w : Nat) (s : State) : List Nat :=
  (List.range 11).map fun k => match sd with
    | .module => moduleReserve p w k s
    | .endpoint => 0

/-- The slots of a lane group's BUFFER tiles (R144, R161): 768 KiB of 16-byte slots each. -/
def groupSlots (g : Nat) (s : State) : Nat := smapGet s.m.sw.bufTiles 0 g * 49152

/-- The sum of the ingress partitions and egress reservations of a lane group's formed ports, but for port `p`. -/
def groupCommitted (g p : Nat) (s : State) : Nat :=
  ((List.range 8).map fun i =>
    let q := 8 * g + i
    if q = p || decide (portSt .module q s = 0) then 0
    else (s.port .module q).grant.sum + (s.port .module q).egressRes.sum).sum

/-- Eleven zeros: a fresh list by pool. -/
def poolZeros : List Nat := List.replicate 11 0

/-- Sixteen-bit grants in pool order, and ten zero bytes (R130). -/
def grantBytes (g : List Nat) : List Byte := (g.flatMap fun x => leBytes 2 x) ++ zeros 10

/-- The link layer of a port after it has formed: SEQ and totals start again (R119, R126). -/
def freshPort (old : PortState) (w : Nat) (grant reserve : List Nat) (farVersion : BitVec 64) : PortState :=
  { old with width := w, txSeq := 0, rxAck := 0xFFF, discarding := false, retry := [], replays := 0, failed := []
             credits := poolZeros, farGrant := poolZeros, lastTotal := poolZeros, grant := grant, freed := poolZeros
             reported := poolZeros, inUse := poolZeros, skip := 0, initReceived := false, initAcked := false, addMine := 0, addFar := 0, releasing := 0
             resyncDue := false, nextLane := 0, farOffer := farVersion, rxStream := [], egressRes := reserve }

/-- The port becomes UP once CREDIT_INIT has been received and acknowledged (R132). -/
def maybeUp (sd : Side) (p : Nat) (s : State) : State :=
  if portSt sd p s = 1 ∧ (s.port sd p).initReceived = true ∧ (s.port sd p).initAcked = true then settleState sd p s else s

/-! ## A port goes down (R122) -/

/-- The link layer's part of going down: unacknowledged flits are discarded and counted, the state and reason are
recorded with the event and interrupt, and the port's lanes retrain. -/
def portDownLink (sd : Side) (p reason : Nat) (s : State) : State :=
  let lanes := maskLanes p (activeMask sd p s)
  let s1 := bumpBy sd .prtFlitLost p (s.port sd p).retry.length s
  let s2 := ((s1.wr sd Fld.prtStatusState p 0).wr sd Fld.prtStatusReason p reason).wr sd Fld.prtStatusActiveMask p 0
  let s3 := (s2.wr sd Fld.prtVersionNegMajor p 0).wr sd Fld.prtVersionNegMinor p 0
  let s4 := s3.onPort sd p fun ps => { freshPort ps 0 [] [] 0 with arrived := [] }
  let s5 := raiseLane sd (logEvent sd { code := 0x13, severity := 2, block := 5, arg0 := p, arg1 := reason } s4)
  lanes.foldl (fun s n => enterDetect sd n false s) s5

/-- Removes a lane from its port's mask, with its LANE_DROP when this end found it (R133). -/
def dropLane (sd : Side) (p n : Nat) (announce : Bool) (s : State) : State :=
  let s1 := s.wr sd Fld.prtStatusActiveMask p (clearBit (activeMask sd p s) (n - p))
  let s2 := bump sd .prtDegradeCnt p (s1.wr sd Fld.prtStatusState p 4)
  let s3 := s2.onPort sd p fun ps =>
    { ps with addMine := ps.addMine &&& ~~~(1#8 <<< (n - p)), addFar := ps.addFar &&& ~~~(1#8 <<< (n - p)) }
  if announce then (sendCtrl sd p 2 (2 ^ (n - p)) [] s3).onPort sd p fun ps => { ps with resyncDue := true } else s3

end Sys2Proof.Machine
end

