-- ==== Sys2Proof/Machine/RattleOps.lean ====
section
/-! DEFINITION. The fault injector Rattle (R545, R546): which rule acts, and what an injection counts. -/

namespace Sys2Proof.Machine

/-- Injection is armed: SEC.STATUS.TEST_ARMED and RAT.CTL.ENABLE (R545). -/
def rattleArmed (s : State) : Bool := s.rdb .module Fld.secStatusTestArmed && s.rdb .module Fld.ratCtlEnable

/-- A rule's generator draws once, and acts with probability 2^-RATE_LOG2. -/
def rattleDraws (i : Nat) (s : State) : Bool × State :=
  let n := s.m.rattle.draws
  (decide (Config.rattleDraw (s.rd .module Fld.ratCtlSeed) n % 2 ^ s.rd .module Fld.ratRuleRateLog2 i = 0),
   s.onM fun m => { m with rattle := { m.rattle with draws := n + 1 } })

/-- An injection of rule `i` is counted; VALID clears once BUDGET is spent; an event is recorded at most once per 1 ms. -/
def rattleCount (i : Nat) (s : State) : State :=
  let spent := smapGet s.m.rattle.spent 0 i + 1
  let s1 := saturate .module Fld.ratRuleInjected i 1 (s.onM fun m =>
    { m with rattle := { m.rattle with spent := smapSet m.rattle.spent i spent } })
  let s2 := if s.rd .module Fld.ratRuleBudget i ≤ spent then s1.wrb .module Fld.ratRuleValid i false else s1
  let due := match smapGet? s.m.rattle.eventAt i with
    | none => true
    | some t => decide (t + 1000000 ≤ s.now)
  if due then
    logModule { code := 0x90, severity := 0, block := 21, arg0 := i, arg1 := s2.rd .module Fld.ratRuleInjected i, injected := true }
      (s2.onM fun m => { m with rattle := { m.rattle with eventAt := smapSet m.rattle.eventAt i s.now } })
  else s2

/-- Rules of a kind on a target that a packet of a class matches. -/
def rattleRules (kind targetType target : Nat) (tc : Option Nat) (s : State) : List Nat :=
  if !rattleArmed s then []
  else (List.range 64).filter fun i =>
    s.rdb .module Fld.ratRuleValid i && decide (s.rd .module Fld.ratRuleKind i = kind)
      && decide (s.rd .module Fld.ratRuleTargetType i = targetType) && decide (s.rd .module Fld.ratRuleTarget i = target)
      && (match tc with
          | some c => (s.rd .module Fld.ratRuleTcMask i).testBit c
          | none => true)

/-- The first of the rules that acts, and the state after the draws and its count. -/
def rattleFirst : List Nat → State → Option Nat × State
  | [], s => (none, s)
  | i :: l, s =>
    match rattleDraws i s with
    | (true, s1) => (some i, rattleCount i s1)
    | (false, s1) => rattleFirst l s1

/-- A rule of a kind acts at a target. -/
def rattleAct (kind targetType target : Nat) (tc : Option Nat) (s : State) : Option Nat × State :=
  rattleFirst (rattleRules kind targetType target tc s) s

/-- One payload bit flipped, PCHK left unchanged (R545 kind 2). -/
def flipPayload (p : Packet) : Packet :=
  match p.payload with
  | b :: l => { p with payload := (b ^^^ 1) :: l }
  | [] => p

end Sys2Proof.Machine
end

