-- ==== Sys2Proof/Machine/SwitchOps.lean ====
section
/-! DEFINITION. The switching core's operations (05): port groups and route lookup, egress room and push-out, the multicast
store, the resequencers, proxy answers, and the start of a packet on a port. -/

namespace Sys2Proof.Machine

/-! ## On-die network (R147 to R151) -/

/-- A NoC plane is in service (R152). -/
def nocOk (plane : Nat) (s : State) : Bool :=
  if plane = 0 then s.rdb .module Fld.nocStatusPlane0Ok else s.rdb .module Fld.nocStatusPlane1Ok

/-- Router index of row and column (R150). -/
def routerIndex (row col : Nat) : Nat := row * 32 + col

/-- Distance and direction on a ring of `n` positions from `a` to `b`: the shorter way, ties towards increasing index (R148). -/
def ringStep (n a b : Nat) : Nat × Bool :=
  let up := (b + n - a) % n
  if 2 * up ≤ n then (up, true) else (n - up, false)

/-- Hops of a minimal path between two routers (R148). -/
def nocHops (a b : Nat) : Nat := (ringStep 32 (a % 32) (b % 32)).1 + (ringStep 64 (a / 32) (b / 32)).1

/-- The NoC plane of a packet between two routers (R150). Classes TC3 to TC7 choose by injection-queue space, which is empty
on both planes in a model without NoC time, so plane 0; with one plane out of service all traffic takes the other (R151). -/
def nocPlane (tc src dst : Nat) (s : State) : Nat :=
  let want := if tc ≤ 2 then b2n (parityBits 11 (src ^^^ dst)) else 0
  if nocOk want s then want else 1 - want

/-! ## Ports and port groups (R155, R160, R526) -/

/-- The unit behind a port is quarantined or expelled (R526, R530). -/
def quarantined (p : Nat) (s : State) : Bool :=
  let st := s.rd .module Fld.fltLiveState p
  st = 1 || st = 2

/-- The port takes part in port groups: UP or DEGRADED, and the unit behind it not quarantined. -/
def memberUp (p : Nat) (s : State) : Bool := portUp .module p s && !quarantined p s

/-- The ports a port group names (R160). -/
def groupPorts (g : Nat) (s : State) : List Nat :=
  if !s.rdb .module Fld.rtePgrpValid g then []
  else
    let first := s.rd .module Fld.rtePgrpFirst g
    ((List.range (s.rd .module Fld.rtePgrpCount g)).map fun k => first + k).filterMap fun m =>
      if m < 4096 ∧ s.rdb .module Fld.rtePmemValid m = true then some (s.rd .module Fld.rtePmemPort m) else none

/-- The UP members of a port group. -/
def upMembers (g : Nat) (s : State) : List Nat := (groupPorts g s).filter fun p => memberUp p s

/-- RTE.FEAT.IN_FORCE of a port (R160): bits 8 to 18. -/
def portFeat (p : Nat) (s : State) : Nat :=
  if portUp .module p s then (offered .module p s &&& (s.port .module p).farOffer.toNat) / 256 % 2048 else 0

/-- RTE.PGRP.FEAT: the AND over the UP members; 0 where none is UP (R160). -/
def groupFeat (g : Nat) (s : State) : Nat :=
  match upMembers g s with
  | [] => 0
  | l => l.foldl (fun acc p => acc &&& portFeat p s) 2047

/-! ## Egress room (R161, R163) -/

/-- Egress queue of a port's pool. -/
def egressQueue (p pool : Nat) (s : State) : List EgressEntry := smapGet (s.port .module p).egress [] pool

/-- Slots queued at a port in a pool (R155). -/
def queuedSlots (p pool : Nat) (s : State) : Nat := ((egressQueue p pool s).map fun e => packetSlots e.pkt).sum

/-- Slots of a port's pool that its resequencer holds: they stay in the egress space (R168). -/
def heldSlots (p pool : Nat) (s : State) : Nat :=
  ((smapGet s.m.sw.reseq [] p).flatMap fun st => st.held).foldl
    (fun acc x => if poolOf x.opcode = pool then acc + packetSlots x else acc) 0

/-- Reservation slots of a port's pool in use. -/
def reservedUsed (p pool : Nat) (s : State) : Nat :=
  (((egressQueue p pool s).filter fun e => !e.shared).map fun e => packetSlots e.pkt).sum + heldSlots p pool s

/-- Shared-region slots in use in a lane group: queued packets and the multicast store's (R163, R165). -/
def sharedUsed (g : Nat) (s : State) : Nat :=
  (((List.range 8).flatMap fun i => ((s.port .module (8 * g + i)).egress.flatMap fun q => q.2)).foldl
    (fun acc e => if e.shared then acc + packetSlots e.pkt else acc) 0)
  + (s.m.sw.store.foldl (fun acc e => if e.group = g then acc + packetSlots e.pkt else acc) 0)

/-- The shared region of a lane group: its slots less partitions and reservations (R161). -/
def sharedSize (g : Nat) (s : State) : Nat := groupSlots g s - groupCommitted g 4096 s

/-- Where a packet of `n` slots finds room at a port: `some false` in the reservation, `some true` in the shared region. -/
def egressRoom (p pool n : Nat) (s : State) : Option Bool :=
  if reservedUsed p pool s + n ≤ (s.port .module p).egressRes.getD pool 0 then some false
  else if sharedUsed (p / 8) s + n ≤ sharedSize (p / 8) s then some true
  else none

/-- The congestion level of a port's pool (R176): 0 to 3 by egress occupancy against reservation plus shared region. -/
def congestion (p pool : Nat) (s : State) : Nat :=
  let total := (s.port .module p).egressRes.getD pool 0 + sharedSize (p / 8) s
  let used := queuedSlots p pool s
  if total = 0 then 0 else min 3 (4 * used / total)

/-- Queues a packet at a port. -/
def putEgress (p : Nat) (pkt : Packet) (shared transit entering : Bool) (s : State) : State :=
  let o := s.m.sw.nextOrder
  let k := poolOf pkt.opcode
  (s.onPort .module p fun ps => { ps with
      egress := smapSet ps.egress k (smapGet ps.egress [] k ++
        [{ pkt := pkt, order := o, shared := shared, transit := transit, entering := entering }]) }).onM
    fun m => { m with sw := { m.sw with nextOrder := o + 1 } }

/-- The most recently queued packet of a pool in the shared region of a lane group: its port and entry. -/
def newestShared (g pool : Nat) (s : State) : Option (Nat × EgressEntry) :=
  ((List.range 8).flatMap fun i =>
    ((egressQueue (8 * g + i) pool s).filter fun e => e.shared).map fun e => (8 * g + i, e)).foldl
    (fun best x => match best with
      | none => some x
      | some b => if b.2.order < x.2.order then some x else best) none

/-- The next packet that push-out takes: the newest TC7 packet, then the newest TC6 packet (R163). A packet whose first flit
has been transmitted has left its queue. -/
def pushCandidate (g : Nat) (s : State) : Option (Nat × EgressEntry) :=
  match newestShared g 10 s with
  | some x => some x
  | none => newestShared g 9 s

/-- A push-out: the packet leaves its queue and is counted. -/
def pushOne (p : Nat) (e : EgressEntry) (s : State) : State :=
  bump .module .rteEvictCnt 0 (s.onPort .module p fun ps =>
    let k := poolOf e.pkt.opcode
    { ps with egress := smapSet ps.egress k ((smapGet ps.egress [] k).filter fun x => decide (x.order ≠ e.order)) })

/-- Push-out until a test holds or nothing can be pushed out: the packets pushed out, and the state (R163). -/
def pushUntil (fits : State → Bool) (g : Nat) : Nat → State → List Packet × State
  | 0, s => ([], s)
  | fuel + 1, s =>
    if fits s then ([], s)
    else match pushCandidate g s with
      | none => ([], s)
      | some (p, e) =>
        let r := pushUntil fits g fuel (pushOne p e s)
        (e.pkt :: r.1, r.2)

/-- How many packets push-out could take in a lane group. -/
def pushFuel (g : Nat) (s : State) : Nat :=
  ((List.range 8).map fun i => (egressQueue (8 * g + i) 10 s).length + (egressQueue (8 * g + i) 9 s).length).sum + 1

/-- Push-out serves TC2 to TC5 (R60, R163). -/
def pushesOut (pool : Nat) : Bool := decide (2 ≤ pool) && decide (pool ≤ 8)

/-! ## Proxy answers (R73, R74, R154, R157, R163) -/

/-- The proxy packet that answers for a destination: a response where the request has one, else XPT_NACK (R74, R192). -/
def proxyPacket (st : Status) (nack : Bool) (pkt : Packet) (s : State) : Packet :=
  let op : BitVec 8 := if nack then 0x7F else (responseOp pkt.opcode).getD 0x7F
  sealPacket { dst := pkt.src, src := pkt.dst, opcode := op, tc := BitVec.ofNat 3 ((opClass op).getD 4), plane := pkt.plane
               stream := pkt.stream, epoch := pkt.epoch, status := st, xseq := pkt.xseq, tag := pkt.tag
               keyIndex := pkt.keyIndex, keyEpoch := pkt.keyEpoch, dclass := pkt.dclass, proxy := true
               opx := (s.myEid .module).setWidth 32 }

/-! ## Route lookup (R153, R154) -/

/-- Where a lookup leads. -/
inductive Route where
  | here
  | ports (l : List Nat)
  | port (p : Nat) (pathFeat : Option Nat) (toSlot transit entering : Bool)
  | silent
  | unreachable
deriving DecidableEq, Repr

/-- The route entry of a destination outside the leaf: RTE.RACK or RTE.MOD (R153); none for a reserved index. -/
def routeWord (dst : Eid) (s : State) : Option Word :=
  if isEndpointEid dst then some (s.word .module .rteRack (eidRack dst) 0)
  else if isModuleEid dst then
    match eidTier dst with
    | 0 => if eidIndex dst < 2048 then some (s.word .module .rteRack (eidIndex dst) 0) else none
    | 1 => if eidIndex dst < 2048 then some (s.word .module .rteMod (eidIndex dst) 0) else none
    | 2 => if eidIndex dst < 1024 then some (s.word .module .rteMod (2048 + eidIndex dst) 0) else none
    | _ => none
  else none

/-- The member of a port group that takes the next packet: fewest queued slots in the packet's pool, ties by the group's
rotating pointer (R155). -/
def chooseMember (g pool : Nat) (s : State) : Option Nat × State :=
  match upMembers g s with
  | [] => (none, s)
  | l =>
    let least := l.foldl (fun b p => min b (queuedSlots p pool s)) (queuedSlots (l.getD 0 0) pool s)
    let start := smapGet s.m.sw.rotate 0 g % l.length
    let order := (List.range l.length).map fun k => (start + k) % l.length
    match order.find? fun i => decide (queuedSlots (l.getD i 0) pool s = least) with
    | none => (none, s)
    | some i => (some (l.getD i 0), s.onM fun m => { m with sw := { m.sw with rotate := smapSet m.sw.rotate g (i + 1) } })

/-- DOWN, UP and a ring that is not usable: a member of the entry's port group. -/
def viaGroup (w : Word) (pool : Nat) (s : State) : Route × State :=
  match chooseMember (bitsOf w 47 40) pool s with
  | (some p, s1) => (.port p (some (bitsOf w 58 48)) false false false, s1)
  | (none, s1) => (.unreachable, s1)

/-- The port of a bypass ring in a direction; none where it is not configured or not UP (R173, R174). -/
def ringPort (n : Nat) (prev : Bool) (s : State) : Option Nat :=
  if !s.rdb .module Fld.rteRingValid n then none
  else
    let p := if prev then s.rd .module Fld.rteRingPrevPort n else s.rd .module Fld.rteRingNextPort n
    if (!prev || s.rdb .module Fld.rteRingPrevValid n) && memberUp p s then some p else none

/-- An arrival port is one of a ring's ports. -/
def onRing (n p : Nat) (s : State) : Bool :=
  s.rdb .module Fld.rteRingValid n && (decide (s.rd .module Fld.rteRingNextPort n = p)
    || (s.rdb .module Fld.rteRingPrevValid n && decide (s.rd .module Fld.rteRingPrevPort n = p)))

/-- A packet in transit on a ring: it arrived on the ring's port of the opposite direction (R175). -/
def inTransit (n : Nat) (prev : Bool) (arrival : Nat) (s : State) : Bool :=
  s.rdb .module Fld.rteRingValid n &&
    (if prev then decide (s.rd .module Fld.rteRingNextPort n = arrival)
     else s.rdb .module Fld.rteRingPrevValid n && decide (s.rd .module Fld.rteRingPrevPort n = arrival))

/-- The classes that may use a ring: TC3, TC4, TC6 and TC7 (R174). -/
def ringClass (pool : Nat) : Bool := decide (pool = 6) || decide (pool = 7) || decide (pool = 9) || decide (pool = 10)

/-- What a route entry's word leads to (R154). -/
def followEntry (w : Word) (pool arrival : Nat) (s : State) : Route × State :=
  if !w.getLsbD 63 then (.unreachable, s)
  else match bitsOf w 62 60 with
    | 1 => viaGroup w pool s
    | 2 => viaGroup w pool s
    | 3 =>
      let n := bitsOf w 39 38
      let prev := w.getLsbD 37
      if ringClass pool then
        match ringPort n prev s with
        | some p =>
          let tr := inTransit n prev arrival s
          (.port p (some (bitsOf w 58 48)) false tr (!tr), s)
        | none => viaGroup w pool s
      else viaGroup w pool s
    | _ => (.unreachable, s)

/-- The downlink of a slot of this leaf's rack. A quarantined or expelled slot's packets are discarded silently (R526). -/
def slotRoute (slot : Nat) (s : State) : Route :=
  if !s.rdb .module Fld.rteSlotValid slot then .unreachable
  else
    let p := s.rd .module Fld.rteSlotPort slot
    if quarantined p s then .silent else if portUp .module p s then .port p none true false false else .unreachable

/-- The ports of a multicast group (R167). -/
def mcastPorts (group : Nat) (s : State) : Option (List Nat) :=
  let k := group % 8192
  if !s.rdb .module Fld.rteMcastValid k || decide (s.rd .module Fld.rteMcastGroup k ≠ group) then none
  else
    let down := upMembers (s.rd .module Fld.rteMcastDownPgrp k) s
    let up := s.rd .module Fld.rteMcastUpPort k
    some (if s.rdb .module Fld.rteMcastUpEn k && memberUp up s && !down.contains up then down ++ [up] else down)

/-- The downlink ports a rack-broadcast packet goes to (R153). -/
def rackPorts (s : State) : List Nat :=
  (List.range 64).filterMap fun slot =>
    if s.rdb .module Fld.rteSlotValid slot && memberUp (s.rd .module Fld.rteSlotPort slot) s then
      some (s.rd .module Fld.rteSlotPort slot) else none

/-- The route lookup (R153). Link-local classes end here. -/
def lookupRoute (pkt : Packet) (arrival : Nat) (s : State) : Route × State :=
  let pool := poolOf pkt.opcode
  if pkt.dst = s.myEid .module ∨ pool ≤ 1 then (.here, s)
  else if isCommEid pkt.dst then (if pool = 8 then .here else .unreachable, s)
  else if isMcastEid pkt.dst then
    (match mcastPorts (groupNumber pkt.dst) s with
     | some l => .ports (l.filter (· ≠ arrival))
     | none => .unreachable, s)
  else if isRackBcastEid pkt.dst then
    (if s.isLeaf && decide (groupNumber pkt.dst = eidIndex (s.myEid .module)) then .ports ((rackPorts s).filter (· ≠ arrival))
     else .unreachable, s)
  else match routeWord pkt.dst s with
    | none => (.unreachable, s)
    | some w =>
      if w.getLsbD 63 && decide (bitsOf w 62 60 = 0) then
        (if s.isLeaf && isEndpointEid pkt.dst && decide (eidRack pkt.dst = eidIndex (s.myEid .module)) then
          slotRoute (eidSlot pkt.dst) s else .unreachable, s)
      else followEntry w pool arrival s

/-! ## Features (R157) -/

/-- The QTP features a packet needs, as bit numbers (R137, R157). -/
def neededFeatures (p : Packet) : List Nat :=
  let c := p.opcode.toNat / 16
  (if decide (2 ≤ c) && decide (c ≤ 5) then [12] else []) ++ (if p.opcode = 0x65 then [13] else [])
    ++ (if p.opcode = 0x66 then [11] else []) ++ (if p.opcode = 0x94 then [10] else [])
    ++ (if p.enc then [14] else []) ++ (if p.epoch ≠ 0 then [17] else [])

/-- Every feature a packet needs is in a set of bits 8 to 18, given shifted down by 8. -/
def featuresOk (p : Packet) (feat : Nat) : Bool := (neededFeatures p).all fun b => feat.testBit (b - 8)

/-! ## The start of a packet on a port (R118, R123, R125, R138, R175) -/

/-- The slots of a packet as DATA flits: full flits of fifteen slots and a last one. -/
def dataFlits : Nat → List Byte → List (Nat × List Byte)
  | 0, _ => []
  | fuel + 1, l =>
    if l.length = 0 then []
    else if l.length ≤ 240 then [(l.length / 16, l)]
    else (15, l.take 240) :: dataFlits fuel (l.drop 240)

/-- The packet as it leaves on a port: a proxy response without PROXY in force drops the flag and OPX[19:0], and EPOCH is 0
without STREAM_EPOCH (R138). -/
def adaptPacket (sd : Side) (p : Nat) (pkt : Packet) (s : State) : Packet :=
  let a := if pkt.proxy && !inForce sd p 18 s then { pkt with proxy := false, opx := pkt.opx &&& 0xFFF00000 } else pkt
  let b := if pkt.epoch ≠ 0 ∧ inForce sd p 17 s = false then { a with epoch := 0 } else a
  if b = pkt then pkt else sealPacket b

/-- Retry buffer entries of a port (R123). -/
def retryRoom (sd : Side) (p : Nat) (s : State) : Nat :=
  268 * popcount 8 (activeMask sd p s) - (s.port sd p).retry.length

/-- The traffic class is open: before bring-up step 11 has ended, a module's ports carry only TC0 and TC1 (R435). -/
def classOpen (sd : Side) (tc : Nat) (s : State) : Bool := match sd with
  | .module => decide (tc ≤ 1) || s.rdb .module Fld.glbBringupStatusEnabled
  | .endpoint => true

/-- A packet may start on a port: the port is UP, its credits cover every slot, and the retry buffer has room (R123, R125). -/
def mayStart (sd : Side) (p : Nat) (pkt : Packet) (s : State) : Bool :=
  let n := packetSlots pkt
  portUp sd p s && classOpen sd pkt.tc.toNat s && decide (n ≤ (s.port sd p).credits.getD (poolOf pkt.opcode) 0) && decide ((n + 14) / 15 ≤ retryRoom sd p s)

/-- The flit's slots with one bit flipped after its CRC where a CORRUPT_FLIT rule acts (R545 kind 1). -/
def sendData (sd : Side) (p type : Nat) (slots : List Byte) (s : State) : State :=
  let s1 := sendSequenced sd p (BitVec.ofNat 8 type) slots s
  match sd with
  | .endpoint => s1
  | .module =>
    match rattleAct 1 0 p none s1 with
    | (none, s2) => s2
    | (some _, s2) => s2.onUnit .module fun u => { u with
        out := match u.out.reverse with
          | .flit q n f :: rest => (Out.flit q n { f with slots := f.slots.set 0 (f.slots.getD 0 0 ^^^ 1) } :: rest).reverse
          | _ => u.out }

/-- Starts a packet on a port: its credits are spent and its flits are sent. -/
def startPacket (sd : Side) (p : Nat) (pkt : Packet) (s : State) : State :=
  let q := adaptPacket sd p pkt s
  let k := poolOf pkt.opcode
  let s1 := s.onPort sd p fun ps => { ps with credits := ps.credits.set k (ps.credits.getD k 0 - packetSlots q) }
  (dataFlits 300 (packetBytes q)).foldl (fun s f => sendData sd p f.1 f.2 s) s1

/-- The credits an entering packet must find on a ring port: two packets of the pool's largest size (R175). -/
def bubbleCredits (pool : Nat) : Nat := if pool = 9 ∨ pool = 10 then 520 else 40

/-- The queue entry that a port may start next in a pool: transit packets before entering ones (R175). -/
def nextEntry (q : List EgressEntry) : Option EgressEntry :=
  match q.find? fun e => e.transit with
  | some e => some e
  | none => q.head?

/-- Older multicast copies of a pool wait in the port's residue queue before an order number (R165). -/
def residueBefore (p pool order : Nat) (s : State) : Bool :=
  (s.port .module p).residue.any fun x =>
    decide (x.2 < order) && (match s.m.sw.store.find? fun e => decide (e.id = x.1) with
      | some e => decide (poolOf e.pkt.opcode = pool)
      | none => false)

/-! ## The multicast store (R165, R166) -/

/-- A port is ready for a multicast packet: credits, and no older packet of the pool waits. -/
def mcastReady (p : Nat) (pkt : Packet) (s : State) : Bool :=
  let k := poolOf pkt.opcode
  mayStart .module p pkt s && (egressQueue p k s).isEmpty && !residueBefore p k (s.m.sw.nextOrder + 1) s

/-- One port's copy: sent at once, or left to the residue queue (R165). The Bool: the copy still has to leave. -/
def mcastCopy (id : Nat) (pkt : Packet) (p : Nat) (s : State) : Bool × State :=
  if mcastReady p pkt s then (false, startPacket .module p (sealPacket pkt) s)
  else
    let o := s.m.sw.nextOrder
    (true, (s.onPort .module p fun ps => { ps with residue := ps.residue ++ [(id, o)] }).onM fun m =>
      { m with sw := { m.sw with nextOrder := o + 1 } })

/-- Copies to several ports in order: the ports whose copies are left. -/
def mcastCopies (id : Nat) (pkt : Packet) : List Nat → State → List Nat × State
  | [], s => ([], s)
  | p :: l, s =>
    let a := mcastCopy id pkt p s
    let r := mcastCopies id pkt l a.2
    (if a.1 then p :: r.1 else r.1, r.2)

/-- The packet enters the multicast store of a lane group and its copies go out. -/
def mcastStore (g : Nat) (pkt : Packet) (ports : List Nat) (s : State) : State :=
  let id := s.m.sw.nextStore
  let r := mcastCopies id pkt ports (s.onM fun m => { m with sw := { m.sw with nextStore := id + 1 } })
  if r.1.isEmpty then r.2
  else r.2.onM fun m => { m with sw := { m.sw with store := m.sw.store ++ [{ id := id, pkt := pkt, left := r.1, group := g }] } }

/-- The store has room for the packet, and no residue queue of its set is full (R165, R166). -/
def mcastRoom (g : Nat) (pkt : Packet) (ports : List Nat) (s : State) : Bool :=
  ports.all (fun p => decide ((s.port .module p).residue.length < 1024))
    && decide (sharedUsed g s + packetSlots pkt ≤ sharedSize g s)

/-- One port's copy of a stored packet has left, or is dropped. -/
def storeLeft (id p : Nat) (s : State) : State :=
  s.onM fun m => { m with sw := { m.sw with
    store := (m.sw.store.map fun e => if e.id = id then { e with left := e.left.filter (· ≠ p) } else e).filter
      fun e => !e.left.isEmpty } }

/-! ## Sending a packet of the module's own -/

/-- Adds to the packets that wait for room. -/
def addWaiting (w : WaitEntry) (s : State) : State :=
  s.onM fun m => { m with sw := { m.sw with waiting := m.sw.waiting ++ [w] } }

/-- Adds a packet to a unit's inbox, with its arrival port. -/
def toInbox (sd : Side) (p : Nat) (pkt : Packet) (s : State) : State :=
  s.onUnit sd fun u => { u with inbox := u.inbox ++ [(p, pkt)] }

/-- Counts and records an unreachable packet that has no answer (R154). -/
def countUnreachable (arrival : Nat) (pkt : Packet) (s : State) : State :=
  logModule { code := 0x22, severity := 1, block := 6, eid := some pkt.src, arg0 := arrival, arg1 := pkt.dst.toNat }
    (bump .module .rteUnreachCnt 0 s)

/-- Puts a packet at a port where there is room without push-out; otherwise it waits. -/
def putOrWait (p : Nat) (pkt : Packet) (arrival : Nat) (held transit entering : Bool) (s : State) : State :=
  match egressRoom p (poolOf pkt.opcode) (packetSlots pkt) s with
  | some sh => putEgress p pkt sh transit entering s
  | none => addWaiting { port := arrival, pkt := pkt, targets := [p], multicast := false, held := held
                         transit := transit, entering := entering } s

/-- The arrival port number of what the module itself sends. -/
def ownPort : Nat := 1024

/-- Sends a packet that the module itself makes: its route, a feature check, and the egress queue. One that cannot be
routed is counted as unreachable; nothing answers an answer. -/
def sendModule (pkt : Packet) (s : State) : State :=
  match lookupRoute pkt ownPort s with
  | (.here, s1) => toInbox .module ownPort pkt s1
  | (.ports l, s1) =>
    let l := l.filter fun p => featuresOk pkt (portFeat p s1)
    if mcastRoom 0 pkt l s1 then mcastStore 0 pkt l s1
    else addWaiting { port := ownPort, pkt := pkt, targets := l, multicast := true, held := false } s1
  | (.port p path _ tr en, s1) =>
    if featuresOk pkt (portFeat p s1 &&& path.getD 2047) then putOrWait p pkt ownPort false tr en s1
    else bump .module .rteFeatRefuseCnt 0 s1
  | (.silent, s1) => bump .module .rteUnreachCnt 0 s1
  | (.unreachable, s1) => countUnreachable ownPort pkt s1

/-- Refuses a packet on behalf of its destination (R73, R154, R157): a proxy response or XPT_NACK for a sequenced packet. The
Bool says that an answer was sent. -/
def proxyRefuse (st : Status) (pkt : Packet) (s : State) : Bool × State :=
  if opSequenced pkt.opcode then (true, sendModule (proxyPacket st false pkt s) s) else (false, s)

/-- The sources of packets that were pushed out hear of it (R60, R163). -/
def nackPushed (l : List Packet) (s : State) : State :=
  l.foldl (fun s p => sendModule (proxyPacket stRetryLater true p s) s) s

/-- A packet bound for one port: room without or with push-out, otherwise it waits (R163). -/
def enqueuePort (p : Nat) (pkt : Packet) (arrival : Nat) (held transit entering : Bool) (s : State) : State :=
  let k := poolOf pkt.opcode
  let n := packetSlots pkt
  let free := fun (s : State) => if held then freeSlots .module arrival k n s else s
  match egressRoom p k n s with
  | some sh => free (putEgress p pkt sh transit entering s)
  | none =>
    let w : WaitEntry := { port := arrival, pkt := pkt, targets := [p], multicast := false, held := held
                           transit := transit, entering := entering }
    if pushesOut k then
      let r := pushUntil (fun s => (egressRoom p k n s).isSome) (p / 8) (pushFuel (p / 8) s) s
      match egressRoom p k n r.2 with
      | some sh => nackPushed r.1 (free (putEgress p pkt sh transit entering r.2))
      | none => nackPushed r.1 (addWaiting w r.2)
    else addWaiting w s

/-- A packet bound for several ports: the multicast store of its ingress lane group (R165). -/
def enqueueMany (l : List Nat) (pkt : Packet) (arrival : Nat) (held : Bool) (s : State) : State :=
  let g := arrival / 8
  let k := poolOf pkt.opcode
  let free := fun (s : State) => if held then freeSlots .module arrival k (packetSlots pkt) s else s
  if l.isEmpty then free s
  else if mcastRoom g pkt l s then free (mcastStore g pkt l s)
  else
    let w : WaitEntry := { port := arrival, pkt := pkt, targets := l, multicast := true, held := held }
    if pushesOut k && l.all (fun p => decide ((s.port .module p).residue.length < 1024)) then
      let r := pushUntil (mcastRoom g pkt l) g (pushFuel g s) s
      if mcastRoom g pkt l r.2 then nackPushed r.1 (free (mcastStore g pkt l r.2)) else nackPushed r.1 (addWaiting w r.2)
    else addWaiting w s

/-! ## Resequencers (R168 to R171) -/

/-- The resequencer of local delivery. -/
def localReseq : Nat := 1024

/-- XSEQ differences modulo 2^24: `a` lies at or above `b` by less than 2^23. -/
def seqAhead (a b : BitVec 24) : Bool := decide ((a - b).toNat < 2 ^ 23)

/-- The stream of a packet. -/
def streamMatch (p : Packet) (st : ReseqStream) : Bool :=
  decide (st.src = p.src) && decide (st.dst = p.dst) && decide (st.stream = p.stream) && decide (st.epoch = p.epoch)

/-- A packet that a resequencer acts on: TC3, TC6 or TC7 in an ordered stream (R168). -/
def reseqClass (p : Packet) : Bool :=
  (decide (p.tc = 3) || decide (p.tc = 6) || decide (p.tc = 7)) && decide (p.stream ≠ 0)

/-- Packets held that follow the expected value one after the other: released in order, with the rest and the new value. -/
def runFrom : Nat → BitVec 24 → List Packet → List Packet × List Packet × BitVec 24
  | 0, e, held => ([], held, e)
  | fuel + 1, e, held =>
    match held.find? fun p => decide (p.xseq = e) with
    | none => ([], held, e)
    | some p =>
      let r := runFrom fuel (e + 1) (held.erase p)
      (p :: r.1, r.2.1, r.2.2)

/-- Packets of a stream in XSEQ order from a value on. -/
def sortFrom (e : BitVec 24) (l : List Packet) : List Packet :=
  l.foldr (fun p acc =>
    let before := acc.filter fun q => decide ((q.xseq - e).toNat < (p.xseq - e).toNat)
    let after := acc.filter fun q => !decide ((q.xseq - e).toNat < (p.xseq - e).toNat)
    before ++ p :: after) []

/-- Packets held by a resequencer, over all its streams. -/
def reseqCount (l : List ReseqStream) : Nat := (l.map fun st => st.held.length).sum

/-- The streams of a resequencer replaced. -/
def setReseq (key : Nat) (l : List ReseqStream) (s : State) : State :=
  s.onM fun m => { m with sw := { m.sw with reseq := smapPut m.sw.reseq [] key l } }

/-- A packet released by a resequencer goes on to its egress queue, or to its consumer in the module. -/
def releaseReseq (key arrival : Nat) (p : Packet) (s : State) : State :=
  if key = localReseq then toInbox .module arrival p s else enqueuePort key p arrival false false false s

/-- Several released in order. -/
def releaseAll (key arrival : Nat) (l : List Packet) (s : State) : State :=
  l.foldl (fun s p => releaseReseq key arrival p s) s

/-- An arriving ordered packet at a resequencer (R169). -/
def reseqArrive (key arrival : Nat) (p : Packet) (s : State) : State :=
  let l := smapGet s.m.sw.reseq [] key
  match l.find? (streamMatch p) with
  | none => releaseReseq key arrival p s
  | some st =>
    let rest := l.filter fun x => !streamMatch p x
    match st.expected with
    | none => releaseReseq key arrival p (setReseq key (st :: rest) s)
    | some e =>
      if p.xseq = e then
        let r := runFrom (st.held.length + 1) (e + 1) st.held
        releaseAll key arrival (p :: r.1) (setReseq key ({ st with held := r.2.1, expected := some r.2.2 } :: rest) s)
      else if !seqAhead p.xseq e then releaseReseq key arrival p (setReseq key (st :: rest) s)
      else if st.held.any fun x => decide (x.xseq = p.xseq) then
        releaseReseq key arrival p (bump .module .rteRsqBypassCnt 0 (setReseq key (st :: rest) s))
      else if reseqCount l < 16384 then setReseq key ({ st with held := st.held ++ [p] } :: rest) s
      else releaseReseq key arrival p (bump .module .rteRsqBypassCnt 0 (setReseq key (st :: rest) s))

/-- A gap has stayed open for GAP_US: the stream's held packets are released in XSEQ order (R170). -/
def reseqTimeout (key : Nat) (src dst : Eid) (stream epoch : BitVec 4) (s : State) : State :=
  let l := smapGet s.m.sw.reseq [] key
  let same := fun (st : ReseqStream) =>
    decide (st.src = src) && decide (st.dst = dst) && decide (st.stream = stream) && decide (st.epoch = epoch)
  match l.find? same with
  | none => s
  | some st =>
    match st.expected with
    | none => s
    | some e =>
      match (sortFrom e st.held).reverse with
      | [] => s
      | last :: _ =>
        releaseAll key ownPort (sortFrom e st.held) (bump .module .rteRsqTimeoutCnt 0
          (setReseq key ({ st with held := [], expected := some (last.xseq + 1) } :: l.filter fun x => !same x) s))

/-- The resequencer of a destination behind this leaf, or of the leaf itself; none for any other. -/
def reseqOf (dst : Eid) (s : State) : Option Nat :=
  if dst = s.myEid .module then some localReseq
  else if isEndpointEid dst && decide (eidRack dst = eidIndex (s.myEid .module)) && s.rdb .module Fld.rteSlotValid (eidSlot dst) then
    some (s.rd .module Fld.rteSlotPort (eidSlot dst))
  else none

/-- A stream's next expected XSEQ is learned from an XPT_ACK that its destination sends back through the leaf (R169, R170):
a full table gives up its least recently used stream that holds no packet. -/
def learnExpected (ack : Packet) (s : State) : State :=
  if !(s.isLeaf && decide (ack.opcode = 0x7E) && decide (ack.stream ≠ 0)) then s
  else match reseqOf ack.src s with
    | none => s
    | some key =>
      let l := smapGet s.m.sw.reseq [] key
      let same := fun (st : ReseqStream) => decide (st.src = ack.dst) && decide (st.dst = ack.src)
        && decide (st.stream = ack.stream) && decide (st.epoch = ack.epoch)
      let fresh : ReseqStream := { src := ack.dst, dst := ack.src, stream := ack.stream, epoch := ack.epoch, expected := some ack.xseq }
      match l.find? same with
      | none =>
        if l.length < 4096 then setReseq key (fresh :: l) s
        else match l.reverse.find? fun st => st.held.isEmpty with
          | some v => setReseq key (fresh :: l.filter fun st => decide (st ≠ v)) s
          | none => s
      | some st =>
        let rest := l.filter fun x => !same x
        match st.expected with
        | none => setReseq key ({ st with expected := some ack.xseq } :: rest) s
        | some e =>
          if seqAhead ack.xseq e && decide (ack.xseq ≠ e) then
            let below := sortFrom e (st.held.filter fun p => !seqAhead p.xseq ack.xseq)
            let r := runFrom (st.held.length + 1) ack.xseq (st.held.filter fun p => seqAhead p.xseq ack.xseq)
            releaseAll key ownPort (below ++ r.1)
              (setReseq key ({ st with held := r.2.1, expected := some r.2.2 } :: rest) s)
          else setReseq key (st :: rest) s

/-- Sends a packet of the module's own, teaching the resequencer of local delivery by its acknowledgements. -/
def sendOwn (pkt : Packet) (s : State) : State := sendModule pkt (learnExpected pkt s)

/-! ## A packet past ingress (R145 stages 3 to 7) -/

/-- A packet that needs a feature missing on its path (R157). -/
def refuseFeature (pkt : Packet) (s : State) : State :=
  (proxyRefuse stVersion pkt (bump .module .rteFeatRefuseCnt 0 s)).2

/-- A packet whose lookup ends as unreachable (R154). -/
def refuseUnreachable (arrival : Nat) (pkt : Packet) (s : State) : State :=
  match proxyRefuse stNoWindow pkt s with
  | (true, s1) => s1
  | (false, s1) => countUnreachable arrival pkt s1

/-- The packet's slots of the ingress partition are free once it has left. -/
def leaveIngress (arrival : Nat) (held : Bool) (pkt : Packet) (s : State) : State :=
  if held then freeSlots .module arrival (poolOf pkt.opcode) (packetSlots pkt) s else s

/-- The packet at its chosen port, after the fault injector (R545 kinds 0, 2, 3, 4) and on its way to a resequencer where
one acts on it. -/
def toEgress (p : Nat) (toSlot : Bool) (pkt : Packet) (arrival : Nat) (held transit entering : Bool) (s : State) : State :=
  let tc := some pkt.tc.toNat
  match rattleAct 0 0 p tc s with
  | (some _, s1) => leaveIngress arrival held pkt s1
  | (none, s1) =>
    let dropNoc := rattleAct 0 1 (nocPlane pkt.tc.toNat (Config.attachRouter (arrival / 8)) (Config.attachRouter (p / 8)) s1) tc s1
    match dropNoc with
    | (some _, s2) => leaveIngress arrival held pkt s2
    | (none, s2) =>
      let c := rattleAct 2 0 p tc s2
      let q := if c.1.isSome then flipPayload pkt else pkt
      match rattleAct 3 0 p tc c.2 with
      | (some i, s3) => (leaveIngress arrival held pkt s3).onM fun m => { m with sw := { m.sw with
          reordered := m.sw.reordered ++ [{ rule := i, port := p, arrival := arrival, pkt := q }] } }
      | (none, s3) =>
        let d := rattleAct 4 0 p tc s3
        let s4 := if toSlot && reseqClass q && s.rdb .module Fld.rteRsqCtlEn then
            (leaveIngress arrival held pkt d.2).onM fun m => { m with sw := { m.sw with toReseq := m.sw.toReseq ++ [(p, arrival, q)] } }
          else enqueuePort p q arrival held transit entering d.2
        if d.1.isSome then enqueuePort p q arrival false transit entering s4 else s4

/-- Counts and records a malformed packet (R72), or one whose opcode is reserved within its class (R73). -/
def countMalformed (sd : Side) (p : Nat) (pkt : Packet) (s : State) : State :=
  logEvent sd { code := 0x21, severity := 1, block := 5, eid := some pkt.src, arg0 := p, arg1 := (headerWord0 pkt).toNat }
    (bump sd .prtMalformed p s)

/-- Route lookup, feature check and what follows, for a packet past the ingress checks. A packet at its destination whose opcode is
reserved within a class that the transport does not sequence is malformed (R73). -/
def routePacket (pkt : Packet) (arrival : Nat) (held : Bool) (s : State) : State :=
  match lookupRoute pkt arrival (learnExpected pkt s) with
  | (.here, s1) =>
    let s2 := leaveIngress arrival held pkt s1
    if !opAssigned pkt.opcode && ([0, 1, 2, 4, 5] : List Nat).contains pkt.tc.toNat && decide (arrival < ownPort) then
      countMalformed .module arrival pkt s2
    else if s.isLeaf && reseqClass pkt && s.rdb .module Fld.rteRsqCtlLocalEn && decide (pkt.dst = s.myEid .module) then
      s2.onM fun m => { m with sw := { m.sw with toReseq := m.sw.toReseq ++ [(localReseq, arrival, pkt)] } }
    else toInbox .module arrival pkt s2
  | (.silent, s1) => bump .module .rteUnreachCnt 0 (leaveIngress arrival held pkt s1)
  | (.unreachable, s1) => refuseUnreachable arrival pkt (leaveIngress arrival held pkt s1)
  | (.ports l, s1) =>
    let ok := l.filter fun p => featuresOk pkt (portFeat p s1)
    let s2 := if ok.length < l.length then bump .module .rteFeatRefuseCnt 0 s1 else s1
    enqueueMany ok pkt arrival held s2
  | (.port p path toSlot tr en, s1) =>
    if featuresOk pkt (portFeat p s1 &&& path.getD 2047) then toEgress p toSlot pkt arrival held tr en s1
    else refuseFeature pkt (leaveIngress arrival held pkt s1)

/-! ## Ingress (R48, R65, R68, R72, R145, R509, R526) -/

/-- The source check of R48. -/
def sourceOk (p : Nat) (src : Eid) (s : State) : Bool :=
  if isModuleEid (farId .module p s).1 then
    match routeWord src s with
    | none => false
    | some w => w.getLsbD 63 && (
        (decide (1 ≤ bitsOf w 62 60) && decide (bitsOf w 62 60 ≤ 3) && (groupPorts (bitsOf w 47 40) s).contains p)
        || (decide (bitsOf w 62 60 = 3) && onRing (bitsOf w 39 38) p s))
  else decide (src.toNat = s.rd .module Fld.lnkPlanEid p)

/-- The packet carries the index and epoch of a slot under retirement (R509, R510). -/
def retiredPacket (pkt : Packet) (s : State) : Bool :=
  let k := pkt.keyIndex.toNat
  let st := s.rd .module Fld.secSlotState k
  let e := s.rd .module Fld.secSlotEpoch k
  let exempt := decide (pkt.opcode.toNat < 0x20) || pkt.opcode = 0x7C || pkt.opcode = 0x7E || pkt.opcode = 0x7F
  !exempt && ((decide (st = 2) && decide (pkt.keyEpoch.toNat = e))
    || (decide (st = 3) && decide (pkt.keyEpoch.toNat = (e + 15) % 16)))

/-- Discards a packet at ingress: counted and recorded (R48, R65, R68). -/
def discardIngress (sd : Side) (p : Nat) (pkt : Packet) (s : State) : State :=
  logEvent sd { code := 0x20, severity := 1, block := 5, eid := some pkt.src, arg0 := p, arg1 := pkt.opcode.toNat }
    (bump sd .prtIngressDiscard p s)

/-- The stages of R145 for a packet that arrived on a port of the module. -/
def ingress (p : Nat) (pkt : Packet) (held : Bool) (s : State) : State :=
  if !classOpen .module pkt.tc.toNat s then bump .module .prtIngressDiscard p (leaveIngress p held pkt s)
  else if malformed pkt then countMalformed .module p pkt (leaveIngress p held pkt s)
  else if retiredPacket pkt s then bump .module .secRetiredDropCnt 0 (leaveIngress p held pkt s)
  else if quarantined p s && decide (2 ≤ pkt.tc.toNat) then bump .module .prtIngressDiscard p (leaveIngress p held pkt s)
  else if !sourceOk p pkt.src s || decide (pkt.plane ≠ s.rdb .module Fld.glbRolePlane) || decide (pkt.hops = 0) then
    discardIngress .module p pkt (leaveIngress p held pkt s)
  else routePacket { pkt with hops := pkt.hops - 1 } p held s

/-! ## A port goes down (R179) -/

/-- The packets that wait at a port which has gone down are looked up again; its residue entries are dropped (R179). -/
def requeuePort (p : Nat) (s : State) : State :=
  let ps := s.port .module p
  let pkts := ps.egress.flatMap fun q => q.2.map fun e => e.pkt
  let s1 := s.onPort .module p fun ps => { ps with egress := [], residue := [] }
  let s2 := ps.residue.foldl (fun s x => storeLeft x.1 p s) s1
  (pkts.filter fun k => decide (2 ≤ k.tc.toNat)).foldl (fun s k => routePacket k ownPort false s) s2

end Sys2Proof.Machine
end

