-- ==== Sys2Proof/Machine/FaultOps.lean ====
section
/-! DEFINITION. Liveness evidence (R524) and the marks of quarantine (R525). -/

namespace Sys2Proof.Machine

/-- The unit behind a port, as LNK.FAR_ID of its lowest lane shows it (FLT.LIVE.EID). -/
def unitBehind (p : Nat) (s : State) : Eid := (farId .module p s).1

/-- An evidence bit sets: a LIVENESS event is recorded; a bit that is set already changes nothing (R524). -/
def setEvidence (p bit : Nat) (s : State) : State :=
  let e := s.rd .module Fld.fltLiveEvidence p
  if e.testBit bit then s
  else
    let e' := setBit e bit
    logModule { code := 0x40, severity := 1, block := 20, eid := some (unitBehind p s), arg0 := p, arg1 := e' }
      ((s.wr .module Fld.fltLiveEvidence p e').onM fun m => { m with live := { m.live with evidenceAt := smapSet m.live.evidenceAt p s.now } })

/-- Evidence that quarantines at once: two bits other than LINK_DOWN (R525). -/
def twoEvidence (p : Nat) (s : State) : Bool := decide (2 ≤ popcount 6 (s.rd .module Fld.fltLiveEvidence p / 2))

/-- The unit behind a port may be quarantined: QUAR_EN is 1 and it is LIVE (R525). -/
def mayQuarantine (p : Nat) (s : State) : Bool :=
  s.rdb .module Fld.fltCtlQuarEn && decide (s.rd .module Fld.fltLiveState p = 0)

/-- Quarantine's marks: STATE, event and count (R525). -/
def markQuarantine (p : Nat) (s : State) : State :=
  let e : Event := { code := 0x41, severity := 2, block := 20, eid := some (unitBehind p s), arg0 := p
                     arg1 := s.rd .module Fld.fltLiveEvidence p }
  bump .module .fltQuarCnt 0 (logModule e (s.wr .module Fld.fltLiveState p 1))

end Sys2Proof.Machine
end

