-- ==== Sys2Proof/Machine/KeyOps.lean ====
section
/-! DEFINITION. Key slots (R494 to R502) as the data path uses them: a slot's status, whether it may send or receive, and the
encryption of a payload. -/

namespace Sys2Proof.Machine

/-! ## Status of a slot -/

/-- The endpoint block's entry for a key index; slot 0 is ORD, ACTIVE, epoch 0 (R494). -/
def epSlot (k : Nat) (s : State) : KeySlot :=
  match smapGet? s.endpoint.keys k with
  | some x => x
  | none => if k = 0 then { state := 1, epochOpen := false } else {}

/-- A slot's state: 0 EMPTY, 1 ACTIVE, 2 RETIRING, 3 SCRUBBING (R495). -/
def slotState (sd : Side) (k : Nat) (s : State) : Nat :=
  match sd with
  | .module => s.rd .module Fld.secSlotState k
  | .endpoint => (epSlot k s).state

/-- A slot's class: 0 ORD, 1 W, 2 IO (R494). -/
def slotClass (sd : Side) (k : Nat) (s : State) : Nat :=
  match sd with
  | .module => s.rd .module Fld.secSlotClass k
  | .endpoint => (epSlot k s).cls

/-- A slot's epoch. -/
def slotEpoch (sd : Side) (k : Nat) (s : State) : Nat :=
  match sd with
  | .module => s.rd .module Fld.secSlotEpoch k
  | .endpoint => (epSlot k s).epoch

/-- A slot's key material. -/
def slotKeys (sd : Side) (k : Nat) (s : State) : KeySlot := smapGet (s.unit sd).keys {} k

/-- PR_GEN: the peer resets the unit has performed (R502). -/
def prGen (sd : Side) (s : State) : Nat := s.rd sd Fld.secStatusPrGen

/-- PR_GEN when the slot was last loaded. -/
def slotPrGen (sd : Side) (k : Nat) (s : State) : Nat :=
  match sd with
  | .module => s.rd .module Fld.secSlotLoadPrGen k
  | .endpoint => (epSlot k s).loadPrGen

/-- A keyed slot is stale (R502). -/
def slotStale (sd : Side) (k : Nat) (s : State) : Bool :=
  decide (slotClass sd k s ≠ 0) && decide (slotPrGen sd k s ≠ prGen sd s)

/-- The slot is ACTIVE and keyed (R501). -/
def slotKeyed (sd : Side) (k : Nat) (s : State) : Bool := decide (slotState sd k s = 1) && decide (slotClass sd k s ≠ 0)

/-- A packet or command carries the index and epoch of a slot that is under retirement (R509): RETIRING with that epoch, or
SCRUBBING, whose epoch has advanced by one since. -/
def slotRetired (sd : Side) (k e : Nat) (s : State) : Bool :=
  (decide (slotState sd k s = 2) && decide (slotEpoch sd k s = e))
    || (decide (slotState sd k s = 3) && decide (slotEpoch sd k s = (e + 1) % 16))

/-- The packets that the drop of R509 applies to: all but XPT_ACK, XPT_NACK, XPT_RESTART, TC0 and TC1 (R510). -/
def retirable (pkt : Packet) : Bool :=
  decide (0x20 ≤ pkt.opcode.toNat) && !([0x7C, 0x7E, 0x7F] : List Nat).contains pkt.opcode.toNat

/-- The packet is dropped under R509. -/
def retiredAt (sd : Side) (pkt : Packet) (s : State) : Bool :=
  retirable pkt && slotRetired sd pkt.keyIndex.toNat pkt.keyEpoch.toNat s

/-! ## Encryption (R499, R500) -/

/-- ASCII bytes of a label. -/
def asciiBytes (l : List Nat) : List Byte := l.map fun c => BitVec.ofNat 8 c

/-- "QTP-ENC". -/
def labelQtpEnc : List Byte := asciiBytes [81, 84, 80, 45, 69, 78, 67]

/-- The traffic key (R500): kind 0 sequenced packets, 1 responses, 2 collectives. -/
def trafficKey (link : List Byte) (kind : Nat) (src dst : Eid) : List Byte :=
  Config.shake256 32 (labelQtpEnc ++ link ++ [BitVec.ofNat 8 kind] ++ leBytes 3 src.toNat ++ leBytes 3 dst.toNat)

/-- Nonce of a sequenced packet: STREAM and extended XSEQ (R500). -/
def nonceSeq (stream ext : Nat) : Nat := stream + ext % 2 ^ 52 * 2 ^ 4

/-- Nonce of a response: also ANSWER. -/
def nonceAnswer (stream ext answer : Nat) : Nat := stream + ext % 2 ^ 52 * 2 ^ 4 + answer % 2 ^ 20 * 2 ^ 56

/-- Nonce of a contribution or result: STEP, CHUNK, FRAG, ATTEMPT and OPCODE bit 0. -/
def nonceColl (step chunk frag attempt op0 : Nat) : Nat :=
  step % 2 ^ 24 + chunk % 2 ^ 24 * 2 ^ 24 + frag % 2 ^ 13 * 2 ^ 48 + attempt % 2 ^ 4 * 2 ^ 61 + op0 % 2 * 2 ^ 65

/-- ANSWER: fabric time bits [39:20] (R500). -/
def answerOf (sd : Side) (s : State) : Nat := (s.unit sd).time / 2 ^ 20 % 2 ^ 20

/-- The additional data of a packet: its header with HOPS and PCHK zero, and the extension slot (R499). -/
def packetAad (p : Packet) : List Byte := headerBytes { p with hops := 0, pchk := 0 } ++ padSlot p.ext

/-- A list cut or filled to a length. -/
def fitTo (n : Nat) (l : List Byte) : List Byte := (l ++ zeros n).take n

/-- A packet must be encrypted: a protected class with a payload (R499). -/
def mustEncrypt (p : Packet) : Bool := decide (p.dclass ≠ 0) && !p.payload.isEmpty

/-- The packet with its payload encrypted under a LINK key. -/
def encryptPacket (link : List Byte) (kind nonce : Nat) (dst : Eid) (p : Packet) : Packet :=
  let q := { p with enc := true }
  let r := Config.gcmSeal (trafficKey link kind p.src dst) nonce (packetAad q) p.payload
  { q with payload := fitTo p.payload.length r.1, tagSlot := fitTo 16 r.2 }

/-- The packet ready to leave: encrypted where R499 asks for it, with its PCHK. -/
def finishPacket (sd : Side) (kind nonce : Nat) (dst : Eid) (p : Packet) (s : State) : Packet :=
  if mustEncrypt p then sealPacket (encryptPacket (slotKeys sd p.keyIndex.toNat s).link kind nonce dst p) else sealPacket p

/-- What decryption at a receiver gives (R501). -/
inductive Opened where
  | ok (p : Packet)
  | denied
  | stale
  | badTag
deriving DecidableEq, Repr

/-- Decrypts a packet: LINK first, then PREV while it is valid. -/
def openPacket (sd : Side) (kind nonce : Nat) (dst : Eid) (p : Packet) (s : State) : Opened :=
  if !p.enc then .ok p
  else if !slotKeyed sd p.keyIndex.toNat s then .denied
  else if slotStale sd p.keyIndex.toNat s then .stale
  else
    let k := slotKeys sd p.keyIndex.toNat s
    let dec := fun (link : List Byte) => Config.gcmOpen (trafficKey link kind p.src dst) nonce (packetAad p) p.payload p.tagSlot
    match dec k.link with
    | some b => .ok { p with payload := fitTo p.payload.length b }
    | none =>
      if k.prev.isEmpty then .badTag
      else match dec k.prev with
        | some b => .ok { p with payload := fitTo p.payload.length b }
        | none => .badTag

/-- The operation of a source needs a keyed slot that it may not use: absent or stale (R501, R502). -/
def sendRefused (sd : Side) (p : Packet) (s : State) : Bool :=
  mustEncrypt p && (!slotKeyed sd p.keyIndex.toNat s || slotStale sd p.keyIndex.toNat s)

end Sys2Proof.Machine
end

