-- ==== Sys2Proof/Machine/XptOps.lean ====
section
/-! DEFINITION. The transport (06): sequence spaces, planes, the source's sending, retransmission and completion, and the
destination's classification, delivery and acknowledgement. -/

namespace Sys2Proof.Machine

/-! ## State of the transport -/

/-- A unit's transport. -/
def State.xpt (s : State) (sd : Side) : Transport := (s.unit sd).xpt

/-- The state with a unit's transport changed. -/
def State.onXpt (s : State) (sd : Side) (f : Transport → Transport) : State :=
  s.onUnit sd fun u => { u with xpt := f u.xpt }

/-- Key of a source's space. -/
def srcKey (dst : Eid) (stream : BitVec 4) : Nat := dst.toNat * 16 + stream.toNat

/-- Key of a destination's space: source EID, destination EID (its own or a group's) and STREAM (R181, R225). -/
def dstKey (src dst : Eid) (stream : BitVec 4) : Nat := (src.toNat * 2 ^ 20 + dst.toNat) * 16 + stream.toNat

/-- A source space. -/
def srcSpace (sd : Side) (dst : Eid) (stream : BitVec 4) (s : State) : SrcSpace :=
  smapGet (s.xpt sd).src {} (srcKey dst stream)

/-- The state with a source space changed. -/
def onSrcSpace (sd : Side) (dst : Eid) (stream : BitVec 4) (f : SrcSpace → SrcSpace) (s : State) : State :=
  s.onXpt sd fun x => { x with src := smapPut x.src {} (srcKey dst stream) (f (smapGet x.src {} (srcKey dst stream))) }

/-- A destination space. -/
def dstSpace (sd : Side) (src dst : Eid) (stream : BitVec 4) (s : State) : DstSpace :=
  smapGet (s.xpt sd).dst {} (dstKey src dst stream)

/-- The state with a destination space changed. -/
def onDstSpace (sd : Side) (src dst : Eid) (stream : BitVec 4) (f : DstSpace → DstSpace) (s : State) : State :=
  s.onXpt sd fun x => { x with dst := smapPut x.dst {} (dstKey src dst stream) (f (smapGet x.dst {} (dstKey src dst stream))) }

/-- XSEQ of an extended count. -/
def low24 (n : Nat) : BitVec 24 := BitVec.ofNat 24 n

/-- The extended count of an XSEQ near a reference (R500). -/
def extNear (ref : Nat) (x : BitVec 24) : Nat :=
  let d := (x - low24 ref).toNat
  if d < 2 ^ 23 then ref + d else ref + d - 2 ^ 24

/-- `a` lies after `b`, modulo 2^24. -/
def seqAfter (a b : BitVec 24) : Bool := decide (a ≠ b) && seqAhead a b

/-! ## Planes (R196, R197) -/

/-- The UP ports of the endpoint block on a plane. -/
def epUpPorts (plane : Bool) (s : State) : List Nat :=
  (List.range 16).filter fun p => decide (decide (8 ≤ p) = plane) && portUp .endpoint p s

/-- The rack a destination belongs to, where it is an endpoint or a leaf. -/
def rackOf (dst : Eid) : Option Nat :=
  if isEndpointEid dst then some (eidRack dst) else if isLeafEid dst then some (eidIndex dst % 2048) else none

/-- The plane reachability map marks a plane down for the destination's rack (R355). -/
def planeMarkedDown (dst : Eid) (plane : Bool) (s : State) : Bool :=
  match rackOf dst with
  | none => false
  | some r => (s.word .endpoint (if plane then .fxePlaneDownB else .fxePlaneDownA) (r / 64) 0).getLsbD (r % 64)

/-- Key of a suspect mark. -/
def suspectKey (dst : Eid) (plane : Bool) : Nat := dst.toNat * 2 + b2n plane

/-- Four transmissions in a row went unacknowledged (R196). -/
def planeSuspect (sd : Side) (dst : Eid) (plane : Bool) (s : State) : Bool :=
  (smapGet (s.xpt sd).suspect {} (suspectKey dst plane)).since.isSome

/-- A plane is usable for a destination (R196). A module has only its own. -/
def planeUsable (sd : Side) (dst : Eid) (plane : Bool) (s : State) : Bool :=
  match sd with
  | .module => decide (plane = s.rdb .module Fld.glbRolePlane)
      && ((List.range 1024).any fun p => portUp .module p s) && !planeSuspect .module dst plane s
  | .endpoint => !(epUpPorts plane s).isEmpty && !planeMarkedDown dst plane s && !planeSuspect .endpoint dst plane s

/-- Slots queued on a plane of the endpoint block. -/
def planeQueue (plane : Bool) (s : State) : Nat :=
  ((epUpPorts plane s).map fun p => ((s.port .endpoint p).egress.flatMap fun q => q.2).length).sum

/-- The plane of a unit's own choice (R65, R197): the usable one, or among two the one with less queued. -/
def freePlane (sd : Side) (dst : Eid) (s : State) : Bool :=
  match sd with
  | .module => s.rdb .module Fld.glbRolePlane
  | .endpoint =>
    let a := planeUsable .endpoint dst false s
    let b := planeUsable .endpoint dst true s
    if a && b then decide (planeQueue true s < planeQueue false s) else b

/-- The plane of a sequenced packet (R65): a module's own, an ordered stream's by its epoch, else the choice given. -/
def packetPlane (sd : Side) (dst : Eid) (stream epoch : BitVec 4) (choice : Bool) (s : State) : Bool :=
  match sd with
  | .module => s.rdb .module Fld.glbRolePlane
  | .endpoint =>
    if isModuleEid dst then eidPlane dst
    else if stream ≠ 0 then streamPlane (s.myEid .endpoint) dst stream.toNat epoch.toNat
    else choice

/-- The plane of an answer: the one its cause arrived on, or the other when that one is unusable (R197). -/
def replyPlane (sd : Side) (dst : Eid) (plane : Bool) (s : State) : Bool :=
  match sd with
  | .module => s.rdb .module Fld.glbRolePlane
  | .endpoint => if planeUsable .endpoint dst plane s || !planeUsable .endpoint dst (!plane) s then plane else !plane

/-- The least occupied of the endpoint block's UP ports on a plane. -/
def epPick (plane : Bool) (s : State) : Option Nat :=
  let load := fun p => ((s.port .endpoint p).egress.flatMap fun q => q.2).length
  match epUpPorts plane s with
  | [] => none
  | p :: l => some (l.foldl (fun b q => if load q < load b then q else b) p)

/-- Sends a finished packet from a unit. While every port of the packet's plane is down the endpoint block sends nothing. -/
def sendFrom (sd : Side) (pkt : Packet) (s : State) : State :=
  match sd with
  | .module => sendOwn pkt s
  | .endpoint =>
    match epPick pkt.plane s with
    | some p => portSend .endpoint p pkt s
    | none => s

/-! ## Operations at the source (R182 to R189) -/

/-- The packets of a space that are sent and not complete. -/
def inFlight (sd : Side) (dst : Eid) (stream : BitVec 4) (s : State) : List (SrcOp × Sent) :=
  (s.xpt sd).ops.filterMap fun o => match o.sent with
    | some t => if o.pkt.dst = dst ∧ o.pkt.stream = stream then some (o, t) else none
    | none => none

/-- How far an XSEQ lies behind the next one of its space. -/
def behind (sp : SrcSpace) (x : BitVec 24) : Nat := (low24 sp.next - x).toNat

/-- The lowest XSEQ of a space that is not complete; the next one where all are (R184, R218). -/
def oldestXseq (sd : Side) (dst : Eid) (stream : BitVec 4) (s : State) : BitVec 24 :=
  let sp := srcSpace sd dst stream s
  low24 (sp.next - (inFlight sd dst stream s).foldl (fun b x => max b (behind sp x.2.xseq)) 0)

/-- The smallest number from `n` on that is not in a list. -/
def freeFrom (used : List Nat) : Nat → Nat → Nat
  | 0, n => n
  | fuel + 1, n => if used.contains n then freeFrom used fuel (n + 1) else n

/-- TAG values in use (R227). -/
def tagsUsed (sd : Side) (s : State) : List Nat := (s.xpt sd).ops.filterMap fun o => o.sent.map fun t => t.tag

/-- The lowest free TAG. -/
def freeTag (sd : Side) (s : State) : Option Nat :=
  let used := tagsUsed sd s
  let t := freeFrom used used.length 0
  if t < 8192 then some t else none

/-- Transport entries a unit has (R182). -/
def entryLimit (sd : Side) : Nat := match sd with
  | .module => 131072
  | .endpoint => 65536

/-- Transport entries in use: destination and plane (R182). -/
def entriesUsed (sd : Side) (s : State) : List (Eid × Bool) :=
  ((s.xpt sd).ops.filterMap fun o => o.sent.map fun t => (o.pkt.dst, t.entryPlane)).eraseDups

/-- The entry a new packet on a plane takes (R182): its own, or the destination's on the other plane. -/
def chooseEntry (sd : Side) (dst : Eid) (plane : Bool) (s : State) : Option Bool :=
  let l := entriesUsed sd s
  if l.contains (dst, plane) || decide (l.length < entryLimit sd) then some plane
  else if l.contains (dst, !plane) then some (!plane)
  else none

/-- A write of R200. -/
def isWriteOp (op : BitVec 8) : Bool := ([0x62, 0x63, 0x64, 0x65, 0x66, 0x80, 0xA0] : List Nat).contains op.toNat

/-- An atomic. -/
def isAtomicOp (op : BitVec 8) : Bool := op = 0x64 || op = 0x65

/-- A load, acquire load or DMA read. -/
def isReadOp (op : BitVec 8) : Bool := op = 0x60 || op = 0x61 || op = 0x81

/-- The operation's context issues nothing yet: an earlier acquire load is incomplete or an earlier fence waits (R203, R204). -/
def ctxBlocked (sd : Side) (c id : Nat) (s : State) : Bool :=
  (s.xpt sd).ops.any (fun x => decide (x.id < id) && decide (x.ctx = some c) && decide (x.pkt.opcode = 0x61))
    || (s.xpt sd).fences.any fun f => decide (f.id < id) && decide (f.ctx = c)

/-- An operation is blocked by its context. -/
def contextBlocked (sd : Side) (o : SrcOp) (s : State) : Bool :=
  match o.ctx with
  | none => false
  | some c => ctxBlocked sd c o.id s

/-- A flagged store waits: an earlier write to its destination is neither complete nor sent in the same ordered stream (R202). -/
def flaggedWaits (sd : Side) (o : SrcOp) (s : State) : Bool :=
  (decide (o.pkt.opcode = 0x63) && (s.xpt sd).ops.any fun x =>
    decide (x.id < o.id) && decide (x.pkt.dst = o.pkt.dst) && isWriteOp x.pkt.opcode
      && !(x.sent.isSome && decide (x.pkt.stream = o.pkt.stream) && decide (o.pkt.stream ≠ 0)))
    || (decide (o.pkt.opcode = 0x63) && decide (sd = .endpoint) && s.e.accs.any fun a =>
      decide (a.id < o.id) && decide (a.kind = .store) && decide (a.pkt.dst = o.pkt.dst))

/-- An earlier operation of the same ordered stream has not been sent (R194, R201). -/
def streamWaits (sd : Side) (o : SrcOp) (s : State) : Bool :=
  decide (o.pkt.stream ≠ 0) && (s.xpt sd).ops.any fun x =>
    decide (x.id < o.id) && x.sent.isNone && decide (x.pkt.dst = o.pkt.dst) && decide (x.pkt.stream = o.pkt.stream)

/-- What an operation at its issue point does next. -/
inductive Issue where
  | wait
  | fail (status : Status)
  | restart
  | send (plane entry : Bool) (tag : Nat)
deriving DecidableEq, Repr

/-- Tags that sent operations of a use hold. -/
def tagsOf (sd : Side) (hit : OpUse → Bool) (s : State) : Nat := ((s.xpt sd).ops.filter fun x => x.sent.isSome && hit x.use).length

/-- The tags left to an agent of the module (R400, R559): ENG.CTL shares them among copy engines, contraction-array queues, and the
puppet threads with the aperture. -/
def tagRoom (sd : Side) (o : SrcOp) (s : State) : Bool :=
  let pup := decide (tagsOf sd (fun u => match u with
    | .puppet _ _ => true
    | .aperture _ _ => true
    | _ => false) s < s.rd .module Fld.engCtlPupTags)
  match sd, o.use with
  | .module, .puppet _ _ => pup
  | .module, .aperture _ _ => pup
  | .module, .engine q _ =>
    decide (tagsOf sd (fun u => match u with
      | .engine r _ => if q < 64 then decide (r < 64) && decide (r / 4 = q / 4) else decide (r = q)
      | _ => false) s < (if q < 64 then s.rd .module Fld.engCtlCopyTags else s.rd .module Fld.engCtlCtaTags))
  | _, _ => true

/-- Whether an operation may be sent now (R182, R184, R191, R195, R198, R201 to R204, R227, R502, R509). -/
def mayIssue (sd : Side) (o : SrcOp) (s : State) : Issue :=
  let p := o.pkt
  let sp := srcSpace sd p.dst p.stream s
  let plane := packetPlane sd p.dst p.stream sp.epoch (freePlane sd p.dst s) s
  if o.sent.isSome || !o.ready || contextBlocked sd o s then .wait
  else if (s.unit sd).dead.contains p.dst then .fail stTargetDead
  else if slotRetired sd p.keyIndex.toNat p.keyEpoch.toNat s then .fail stAborted
  else if p.dclass ≠ 0 ∧ (!slotKeyed sd p.keyIndex.toNat s || slotStale sd p.keyIndex.toNat s) = true then .fail stAccessDenied
  else if flaggedWaits sd o s || streamWaits sd o s then .wait
  else if p.stream ≠ 0 ∧ isModuleEid p.dst = true ∧ planeUsable sd p.dst plane s = false then .fail stAborted
  else if sp.restart.isSome || sp.planned then .wait
  else if sp.broken then .restart
  else if 1024 ≤ (low24 sp.next - oldestXseq sd p.dst p.stream s).toNat then .wait
  else match freeTag sd s, chooseEntry sd p.dst plane s with
    | some t, some e => if tagRoom sd o s then .send plane e t else .wait
    | _, _ => .wait

/-- The packet of an operation as it leaves (R67, R189, R218). -/
def wirePacket (sd : Side) (o : SrcOp) (t : Sent) (retx : Bool) (s : State) : Packet :=
  let p := o.pkt
  let sp := srcSpace sd p.dst p.stream s
  let q : Packet := { p with
    src := s.myEid sd, tc := BitVec.ofNat 3 ((opClass p.opcode).getD 3), plane := t.plane
    epoch := if p.stream = 0 then 0 else sp.epoch, xseq := t.xseq, tag := BitVec.ofNat 13 t.tag
    flagged := decide (p.opcode = 0x63), acquire := decide (p.opcode = 0x61), retx := retx, hops := 16
    length := lengthOf p.payload
    ext := if isAtomicOp p.opcode then leBytes 3 (oldestXseq sd p.dst p.stream s).toNat ++ zeros 13 else p.ext }
  finishPacket sd 0 (nonceSeq p.stream.toNat (extNear sp.next t.xseq)) p.dst q s

/-- An operation replaced. -/
def putOp (sd : Side) (o : SrcOp) (s : State) : State :=
  s.onXpt sd fun x => { x with ops := x.ops.map fun y => if y.id = o.id then o else y }

/-- The first transmission of an operation. -/
def firstSend (sd : Side) (o : SrcOp) (plane entry : Bool) (tag : Nat) (s : State) : State :=
  let p := o.pkt
  let sp := srcSpace sd p.dst p.stream s
  let t : Sent := {
    xseq := low24 sp.next, tag := tag, entryPlane := entry, plane := plane, firstAt := s.now, lastAt := s.now
    base := s.rd sd Fld.xptCtlRtoBase, retries := s.rd sd Fld.xptCtlRetries
    loadTimeout := match sd with
      | .module => s.rd .module Fld.memCtlLoadTimeout
      | .endpoint => s.rd .endpoint Fld.fxeCtlLoadTimeout }
  let o1 := { o with sent := some t }
  let s1 := putOp sd o1 (onSrcSpace sd p.dst p.stream (fun sp => { sp with next := sp.next + 1 }) s)
  sendFrom sd (wirePacket sd o1 t false s1) s1

/-! ## Completion at the source (R188, R191, R204, R230) -/

/-- Outcome codes (R359). -/
def outNotApplied : Nat := 0
def outApplied : Nat := 1
def outUnknown : Nat := 2

/-- The outcome of an operation that ends without an answer: reads changed nothing; anything else is unknown once it has been
transmitted (R230). -/
def silentOutcome (o : SrcOp) : Nat :=
  if isReadOp o.pkt.opcode then outNotApplied else if o.sent.isSome then outUnknown else outNotApplied

/-- An operation completes: it leaves the transport, the fences that wait for it take its status, and its user is to be told.
Where several statuses apply, R14 chooses. -/
def finishOp (sd : Side) (o : SrcOp) (statuses : List Status) (outcome : Nat) (data : List Byte) (cas replayed : Bool)
    (s : State) (cacheable : Bool := false) : State :=
  let r := reportStatus (statuses.filter fun x => decide (x ≠ stOk))
  let f : Finished := { op := o, status := r.1, also := r.2, outcome := outcome, data := data, cas := cas, replayed := replayed
                        cacheable := cacheable }
  noteAlso sd r.1 r.2 o.pkt.opcode.toNat (s.onXpt sd fun x => { x with
    ops := x.ops.filter fun y => decide (y.id ≠ o.id)
    finished := x.finished ++ [f]
    fences := x.fences.map fun g =>
      if o.ctx = some g.ctx ∧ o.id < g.id ∧ r.1 ≠ stOk then { g with statuses := g.statuses ++ [r.1] } else g })

/-- An operation ends with a status of the source's own making, with UNKNOWN_OUTCOME beside it for an atomic that was sent
(R230). -/
def endOp (sd : Side) (st : Status) (o : SrcOp) (s : State) : State :=
  let more := if isAtomicOp o.pkt.opcode && o.sent.isSome && decide (st ≠ stAborted) then [stUnknownOutcome] else []
  finishOp sd o (st :: more) (silentOutcome o) [] false false s

/-- Several operations end so. -/
def endOps (sd : Side) (st : Status) (l : List SrcOp) (s : State) : State := l.foldl (fun s o => endOp sd st o s) s

/-- An operation that was refused before it was ever sent (R14): only that status applies. -/
def refuseOp (sd : Side) (st : Status) (o : SrcOp) (s : State) : State :=
  finishOp sd o [st] outNotApplied [] false false s

/-! ## Restart of an ordered space (R195, R198) -/

/-- XPT_RESTART of a space (R195). -/
def restartPacket (sd : Side) (dst : Eid) (stream : BitVec 4) (s : State) : Packet :=
  let sp := srcSpace sd dst stream s
  sealPacket { dst := dst, src := s.myEid sd, opcode := 0x7C, tc := 4
               plane := packetPlane sd dst stream sp.epoch (freePlane sd dst s) s, stream := stream, epoch := sp.epoch
               xseq := low24 sp.next }

/-- A restart begins: the next epoch, counted as a barrier (R198, R210), and XPT_RESTART. -/
def startRestart (sd : Side) (dst : Eid) (stream : BitVec 4) (s : State) : State :=
  let s1 := onSrcSpace sd dst stream (fun sp => { sp with
    epoch := sp.epoch + 1, broken := false, planned := false
    restart := some { xseq := low24 sp.next, lastAt := s.now, base := s.rd sd Fld.xptCtlRtoBase
                      retries := s.rd sd Fld.xptCtlRetries } }) s
  sendFrom sd (restartPacket sd dst stream s1) (bump sd .xptBarrierCnt 0 s1)

/-- An ordered space breaks (R195): every later incomplete packet completes with a status, and the space restarts. -/
def breakSpace (sd : Side) (dst : Eid) (stream : BitVec 4) (x : BitVec 24) (st : Status) (s : State) : State :=
  let later := (inFlight sd dst stream s).filterMap fun y => if seqAfter y.2.xseq x then some y.1 else none
  startRestart sd dst stream (endOps sd st later s)

/-- The source gives up on a packet (R191, R195, R228). -/
def giveUp (sd : Side) (st : Status) (o : SrcOp) (t : Sent) (s : State) : State :=
  let s1 := endOp sd st o s
  if o.pkt.stream = 0 then s1 else breakSpace sd o.pkt.dst o.pkt.stream t.xseq stTimeout s1

/-! ## Retransmission (R189, R197) -/

/-- The plane of a retransmission: for stream 0 the other one while it is usable (R197). -/
def retryPlane (sd : Side) (o : SrcOp) (t : Sent) (s : State) : Bool :=
  let other := if planeUsable sd o.pkt.dst (!t.plane) s then !t.plane else t.plane
  packetPlane sd o.pkt.dst o.pkt.stream (srcSpace sd o.pkt.dst o.pkt.stream s).epoch other s

/-- One more transmission of a packet; it takes the next number while there is one (R189). -/
def retransmit (sd : Side) (o : SrcOp) (t : Sent) (s : State) : State :=
  let numbered := decide (t.tries < t.retries)
  let t1 := { t with
    plane := retryPlane sd o t s, retryLater := false, afterAck := none
    tries := if numbered then t.tries + 1 else t.tries
    lastAt := if numbered then s.now else t.lastAt }
  let o1 := { o with sent := some t1 }
  let s1 := bump sd .xptRetxCnt 0 (putOp sd o1 s)
  sendFrom sd (wirePacket sd o1 t1 true s1) s1

/-- A transmission ended without acknowledgement within its interval (R196). -/
def missAck (sd : Side) (dst : Eid) (plane : Bool) (s : State) : State :=
  s.onXpt sd fun x =>
    let m := smapGet x.suspect {} (suspectKey dst plane)
    let n := m.missed + 1
    let m1 : Suspect := { missed := if 4 ≤ n then 0 else n, since := if 4 ≤ n then some s.now else m.since }
    { x with suspect := smapPut x.suspect {} (suspectKey dst plane) m1 }

/-- An acknowledgement for a destination arrived on a plane (R196). -/
def clearSuspect (sd : Side) (dst : Eid) (plane : Bool) (s : State) : State :=
  s.onXpt sd fun x => { x with suspect := smapErase x.suspect (suspectKey dst plane) }

/-- A retransmission interval of a packet has run out (R189). -/
def retransmitExpired (sd : Side) (o : SrcOp) (t : Sent) (s : State) : State :=
  let s1 := missAck sd o.pkt.dst t.plane s
  if t.tries < t.retries then retransmit sd o t s1
  else giveUp sd (if t.checkFail then stCheckFail else stTimeout) o t (bump sd .xptGiveupCnt 0 s1)

/-- A retransmission interval of XPT_RESTART has run out (R195). -/
def restartExpired (sd : Side) (dst : Eid) (stream : BitVec 4) (r : Restart) (s : State) : State :=
  if r.tries < r.retries then
    let s1 := onSrcSpace sd dst stream (fun sp => { sp with restart := some { r with tries := r.tries + 1, lastAt := s.now } }) s
    sendFrom sd (restartPacket sd dst stream s1) (bump sd .xptRetxCnt 0 s1)
  else
    let s1 := onSrcSpace sd dst stream (fun sp => { sp with restart := none, broken := true }) s
    let all := (s1.xpt sd).ops.filter fun o => decide (o.pkt.dst = dst) && decide (o.pkt.stream = stream)
    endOps sd stTimeout all s1

/-- The plane-loss form of the barrier (R198): the epoch advances once, and every incomplete packet is sent again in XSEQ order. -/
def planeLossBarrier (sd : Side) (dst : Eid) (stream : BitVec 4) (s : State) : State :=
  let s1 := bump sd .xptBarrierCnt 0 (onSrcSpace sd dst stream (fun sp => { sp with epoch := sp.epoch + 1, planned := false }) s)
  (inFlight sd dst stream s1).foldl (fun s x => retransmit sd x.1 x.2 s) s1

/-! ## Issue -/

/-- A stream between endpoints runs on a plane that is unusable for its destination while the other one is usable (R198). -/
def barrierDue (sd : Side) (dst : Eid) (stream : BitVec 4) (s : State) : Bool :=
  let plane := packetPlane sd dst stream (srcSpace sd dst stream s).epoch false s
  decide (sd = .endpoint) && decide (stream ≠ 0) && !isModuleEid dst && (srcSpace sd dst stream s).restart.isNone
    && !planeUsable sd dst plane s && planeUsable sd dst (!plane) s

/-- An operation tries to leave its issue point. One of a stream whose plane is lost has the barrier run first (R198). -/
def tryIssue (sd : Side) (id : Nat) (s : State) : State :=
  match (s.xpt sd).ops.find? fun o => decide (o.id = id) with
  | none => s
  | some o =>
    match mayIssue sd o s with
    | .wait => s
    | .restart => startRestart sd o.pkt.dst o.pkt.stream s
    | .send plane entry tag =>
      if barrierDue sd o.pkt.dst o.pkt.stream s then
        let s1 := planeLossBarrier sd o.pkt.dst o.pkt.stream s
        match mayIssue sd o s1 with
        | .send plane entry tag => firstSend sd o plane entry tag s1
        | _ => s1
      else firstSend sd o plane entry tag s
    | .fail st =>
      if decide (st = stAborted) && decide (o.pkt.stream ≠ 0) && isModuleEid o.pkt.dst
          && !slotRetired sd o.pkt.keyIndex.toNat o.pkt.keyEpoch.toNat s then
        refuseOp sd st o (onSrcSpace sd o.pkt.dst o.pkt.stream (fun sp => { sp with broken := true }) s)
      else refuseOp sd st o s

/-- The status of an operation of a context reaches the fences that wait for it (R204). -/
def tellFences (sd : Side) (ctx id : Nat) (st : Status) (s : State) : State :=
  s.onXpt sd fun x => { x with fences := x.fences.map fun g =>
    if ctx = g.ctx ∧ id < g.id ∧ st ≠ stOk then { g with statuses := g.statuses ++ [st] } else g }

/-- An operation with a number that it already holds enters the transport and leaves at once where it may. -/
def enterOp (sd : Side) (o : SrcOp) (s : State) : State :=
  tryIssue sd o.id (s.onXpt sd fun x => { x with ops := x.ops ++ [o] })

/-- A new operation of a source: it takes its place in issue order and leaves at once where it may. -/
def issueOp (sd : Side) (ctx : Option Nat) (use : OpUse) (ready : Bool) (p : Packet) (s : State) : State :=
  let id := (s.xpt sd).nextOp
  tryIssue sd id (s.onXpt sd fun x => { x with
    nextOp := id + 1, ops := x.ops ++ [{ id := id, ctx := ctx, use := use, pkt := p, ready := ready }] })

/-- The number the next operation will take. -/
def nextOpId (sd : Side) (s : State) : Nat := (s.xpt sd).nextOp

/-- The data of an operation is at hand. -/
def readyOp (sd : Side) (id : Nat) (payload : List Byte) (s : State) : State :=
  match (s.xpt sd).ops.find? fun o => decide (o.id = id) with
  | none => s
  | some o => tryIssue sd id (putOp sd { o with pkt := { o.pkt with payload := payload }, ready := true } s)

/-! ## Acknowledgements and refusals at the source (R187, R188, R192, R194) -/

/-- An XPT_ACK covers an XSEQ (R187). -/
def ackCovers (pkt : Packet) (x : BitVec 24) : Bool :=
  let d := (pkt.xseq - x).toNat
  (decide (1 ≤ d) && decide (d ≤ 2 ^ 23)) ||
    (decide (pkt.stream = 0) && decide (1 ≤ (x - pkt.xseq).toNat) && decide ((x - pkt.xseq).toNat ≤ 32)
      && pkt.opx.getLsbD ((x - pkt.xseq).toNat - 1))

/-- One packet is covered by an acknowledgement: complete where it has no response (R188). -/
def ackOne (sd : Side) (pkt : Packet) (o : SrcOp) (t : Sent) (s : State) : State :=
  if ackCovers pkt t.xseq then
    if (responseOp o.pkt.opcode).isSome then putOp sd { o with sent := some { t with acked := true } } s
    else
      let s1 := finishOp sd o [] outApplied [] false false s
      if o.pkt.opcode = 0x80 then
        let same := fun (y : Eid × BitVec 4 × BitVec 24 × OpUse) =>
          decide (y.1 = o.pkt.dst) && decide (y.2.1 = o.pkt.stream) && decide (y.2.2.1 = t.xseq)
        s1.onXpt sd fun x => { x with acked := (o.pkt.dst, o.pkt.stream, t.xseq, o.use) :: x.acked.filter fun y => !same y }
      else s1
  else
    match t.afterAck with
    | some e => if ackCovers pkt e then retransmit sd o t s else s
    | none => s

/-- A received XPT_ACK (R188); group spaces are ignored (R225). -/
def takeXptAck (sd : Side) (pkt : Packet) (s : State) : State :=
  if isGroupEid pkt.src then s
  else
    let s1 := clearSuspect sd pkt.src pkt.plane s
    let s2 := (inFlight sd pkt.src pkt.stream s1).foldl (fun s x => ackOne sd pkt x.1 x.2 s) s1
    match (srcSpace sd pkt.src pkt.stream s2).restart with
    | some r =>
      if (pkt.xseq - r.xseq).toNat < 2 ^ 23 then
        onSrcSpace sd pkt.src pkt.stream (fun sp => { sp with restart := none }) s2
      else s2
    | none => s2

/-- The late refusal of a DMA write (R226): counted, recorded, and set on the issuing queue. -/
def lateRefusal (sd : Side) (dst : Eid) (x : BitVec 24) (st : Status) (use : OpUse) (s : State) : State :=
  let q := match use with
    | .dma q _ => q
    | .engine c _ => c
    | _ => 0
  let s1 := logEvent sd { code := 0xA3, severity := 1, block := 7, status := st.toNat, eid := some dst, arg0 := q, arg1 := x.toNat }
    (bump sd .memLateRefusalCnt 0 s)
  match sd, use with
  | .endpoint, .dma q _ => raiseVector 11 (s1.wr .endpoint Fld.fxeDmaqLateStatus q st.toNat)
  | .endpoint, _ => raiseVector 11 s1
  | .module, .engine c _ => s1.wr .module Fld.engQLateStatus c st.toNat
  | .module, _ => s1

/-- A received XPT_NACK (R192). -/
def takeXptNack (sd : Side) (pkt : Packet) (s0 : State) : State :=
  let s := noteReserved sd pkt.status pkt.opcode.toNat (headerWord0 pkt).toNat s0
  let st := receivedStatus pkt.status
  match (inFlight sd pkt.src pkt.stream s).find? fun x => decide (x.2.xseq = pkt.xseq) with
  | none =>
    match (s.xpt sd).acked.find? fun y =>
      decide (y.1 = pkt.src) && decide (y.2.1 = pkt.stream) && decide (y.2.2.1 = pkt.xseq) with
    | some y =>
      if st = stRetryLater ∨ st = stCheckFail then bump sd .xptNackUnmatchedCnt 0 s
      else lateRefusal sd pkt.src pkt.xseq st y.2.2.2 (s.onXpt sd fun x => { x with acked := x.acked.erase y })
    | none => bump sd .xptNackUnmatchedCnt 0 s
  | some (o, t) =>
    if st = stRetryLater then
      if pkt.stream ≠ 0 ∧ pkt.proxy = false then
        let e := pkt.opx.setWidth 24
        let s1 := putOp sd { o with sent := some { t with afterAck := some e } } s
        match (inFlight sd pkt.src pkt.stream s1).find? fun x => decide (x.2.xseq = e) with
        | some (oe, te) => if te.lastAt + 5000 ≤ s1.now then retransmit sd oe te s1 else s1
        | none => s1
      else putOp sd { o with sent := some { t with retryLater := true } } s
    else if st = stCheckFail then retransmit sd { o with sent := some { t with checkFail := true } } { t with checkFail := true } s
    else
      let unknown := (decide (o.pkt.opcode = 0x80) || decide (o.pkt.opcode = 0xA0)) && !pkt.proxy
        && (decide (st = stPoisoned) || decide (st = stAccessDenied) || decide (st = stInternal))
      let s1 := finishOp sd o [st] (if unknown then outUnknown else outNotApplied) [] false false s
      if pkt.proxy ∧ pkt.stream ≠ 0 then breakSpace sd pkt.src pkt.stream t.xseq stAborted s1 else s1

/-- The outcome of an operation that a response ends (R230). -/
def answeredOutcome (o : SrcOp) (st : Status) (proxy : Bool) : Nat :=
  if st = stOk then outApplied
  else if st = stUnknownOutcome then outUnknown
  else if isReadOp o.pkt.opcode || proxy then outNotApplied
  else if st = stInternal ∨ (st = stPoisoned ∧ isAtomicOp o.pkt.opcode = false) then outUnknown
  else outNotApplied

/-- The members a multicast group has (R225): FXE.MCAST's entry for it. -/
def mcastMembers (group : Nat) (s : State) : Option Nat :=
  ((List.range 256).find? fun m => s.rdb .endpoint Fld.fxeMcastValid m && decide (s.rd .endpoint Fld.fxeMcastGroup m = group)).map
    fun m => s.rd .endpoint Fld.fxeMcastMembers m

/-- One member's response to a multicast store (R225). -/
def takeMember (sd : Side) (o : SrcOp) (t : Sent) (member : Eid) (st : Status) (s : State) : State :=
  if t.answers.any fun a => decide (a.1 = member) then s
  else
    let t1 := { t with answers := t.answers ++ [(member, st)] }
    let o1 := { o with sent := some t1 }
    let s1 := if st = stOk then s
      else logEvent sd { code := 0xC5, severity := 1, block := 7, status := st.toNat, eid := some member, arg0 := member.toNat, arg1 := st.toNat } s
    match mcastMembers (groupNumber o.pkt.dst) s with
    | some m =>
      if m ≤ t1.answers.length then
        let all := (t1.answers.map fun a => a.2).filter fun x => decide (x ≠ stOk)
        let r := (reportStatus all).1
        finishOp sd o1 (if r = stOk then [] else [r]) (answeredOutcome o r false) [] false false s1
      else putOp sd o1 s1
    | none => putOp sd o1 s1

/-- The request a response answers: by TAG, of a request that this opcode answers (R188). -/
def requestOf (sd : Side) (pkt : Packet) (s : State) : Option (SrcOp × Sent) :=
  (s.xpt sd).ops.findSome? fun o => match o.sent with
    | some t =>
      if t.tag = pkt.tag.toNat ∧ responseOp o.pkt.opcode = some pkt.opcode ∧ (o.pkt.dst = pkt.src ∨ isGroupEid o.pkt.dst = true)
      then some (o, t) else none
    | none => none

/-- A received response (R188): it completes its request. A response that fails PCHK or its tag completes it with CHECK_FAIL
(R69, R501). -/
def takeResponse (sd : Side) (pkt : Packet) (s0 : State) : State :=
  match requestOf sd pkt s0 with
  | none => bump sd .xptNackUnmatchedCnt 0 s0
  | some (o, t) =>
    if !pchkGood pkt then finishOp sd o [stCheckFail] (silentOutcome o) [] false false s0
    else
      let s := noteReserved sd pkt.status pkt.opcode.toNat (headerWord0 pkt).toNat (clearSuspect sd pkt.src pkt.plane s0)
      let st := receivedStatus pkt.status
      if isGroupEid o.pkt.dst && !pkt.proxy then takeMember sd o t pkt.src st s
      else
        let ext := extNear (srcSpace sd o.pkt.dst o.pkt.stream s).next t.xseq
        match openPacket sd 1 (nonceAnswer o.pkt.stream.toNat ext (pkt.opx.toNat % 2 ^ 20)) pkt.dst pkt s with
        | .badTag => finishOp sd o [stCheckFail] (silentOutcome o) [] false false (bump sd .secTagFailCnt 0 s)
        | .denied => finishOp sd o [stAccessDenied] (silentOutcome o) [] false false (bump sd .secNokeyCnt 0 s)
        | .stale => finishOp sd o [stAccessDenied] (silentOutcome o) [] false false (bump sd .secStaleRefuseCnt 0 s)
        | .ok p =>
          let s1 := finishOp sd o (if st = stOk then [] else [st]) (answeredOutcome o st pkt.proxy)
            (if st = stOk then p.payload else []) (!pkt.proxy && pkt.opx.getLsbD 30) (!pkt.proxy && pkt.opx.getLsbD 31) s
            (pkt.opx.getLsbD 29)
          if pkt.proxy ∧ st ≠ stOk ∧ o.pkt.stream ≠ 0 then breakSpace sd o.pkt.dst o.pkt.stream t.xseq stAborted s1 else s1

/-! ## The destination (R185 to R194, R587) -/

/-- The extended XSEQ of a packet at its destination (R500). -/
def extAt (sd : Side) (pkt : Packet) (s : State) : Nat := extNear (dstSpace sd pkt.src pkt.dst pkt.stream s).expected pkt.xseq

/-- XPT_ACK of a space (R187); where it was filled from a group, its source is the group (R225). -/
def sendAck (sd : Side) (src dst : Eid) (stream : BitVec 4) (s : State) : State :=
  let sp := dstSpace sd src dst stream s
  let e := low24 sp.expected
  let bits := (List.range 32).foldl (fun acc i =>
    if sp.above.contains (e + 1 + BitVec.ofNat 24 i) then setBit acc i else acc) 0
  let plane := if stream = 0 then replyPlane sd src sp.plane s
    else match sd with
      | .module => s.rdb .module Fld.glbRolePlane
      | .endpoint => if isModuleEid src then eidPlane src else streamPlane src dst stream.toNat sp.epoch.toNat
  let ack : Packet := {
    dst := src, src := dst, opcode := 0x7E, tc := 4, plane := plane, stream := stream
    epoch := if stream = 0 then 0 else sp.epoch, xseq := e, opx := if stream = 0 then BitVec.ofNat 32 bits else 0 }
  sendFrom sd (sealPacket ack) (onDstSpace sd src dst stream (fun sp => { sp with sinceAck := 0 }) s)

/-- XPT_NACK of a packet by its destination (R192). -/
def sendNack (sd : Side) (st : Status) (pkt : Packet) (s : State) : State :=
  let e := (dstSpace sd pkt.src pkt.dst pkt.stream s).expected % 2 ^ 24
  sendFrom sd (sealPacket { dst := pkt.src, src := pkt.dst, opcode := 0x7F, tc := 4, plane := replyPlane sd pkt.src pkt.plane s
                            stream := pkt.stream, epoch := pkt.epoch, status := st, xseq := pkt.xseq, tag := pkt.tag
                            opx := BitVec.ofNat 32 e }) s

/-- A response to a request (R213, R214, R500): it carries the request's stream, XSEQ, TAG, key and class. -/
def sendResponse (sd : Side) (req : Packet) (st : Status) (payload : List Byte) (opx : Nat) (s : State) : State :=
  match responseOp req.opcode with
  | none => s
  | some op =>
    let data := if st = stOk then payload else []
    let p : Packet := {
      dst := req.src, src := s.myEid sd, opcode := op, tc := BitVec.ofNat 3 ((opClass op).getD 4)
      plane := replyPlane sd req.src req.plane s, stream := req.stream, epoch := req.epoch, status := st, xseq := req.xseq
      tag := req.tag, keyIndex := req.keyIndex, keyEpoch := req.keyEpoch, dclass := req.dclass
      length := lengthOf data, payload := data, opx := BitVec.ofNat 32 opx }
    let a := answerOf sd s
    let q := if mustEncrypt p then { p with opx := BitVec.ofNat 32 (opx / 2 ^ 20 * 2 ^ 20 + a) } else p
    sendFrom sd (finishPacket sd 1 (nonceAnswer req.stream.toNat (extAt sd req s) a) q.dst q s) s

/-- How a destination classifies a packet (R185). -/
inductive SeqClass where
  | duplicate
  | inProgress
  | acceptable
  | outOfWindow
deriving DecidableEq, Repr

/-- Two packets are copies of one of a space. -/
def sameSeq (a b : Packet) : Bool :=
  decide (a.src = b.src) && decide (a.dst = b.dst) && decide (a.stream = b.stream) && decide (a.xseq = b.xseq)

/-- The class of a packet that passed its PCHK check (R185). -/
def classify (sd : Side) (pkt : Packet) (s : State) : SeqClass :=
  let sp := dstSpace sd pkt.src pkt.dst pkt.stream s
  let d := (pkt.xseq - low24 sp.expected).toNat
  if 2 ^ 23 ≤ d ∨ sp.above.contains pkt.xseq = true then .duplicate
  else if 1024 ≤ d then .outOfWindow
  else if (s.xpt sd).work.any (fun w => sameSeq w.pkt pkt) || sp.held.any (fun h => decide (h.2.xseq = pkt.xseq)) then .inProgress
  else .acceptable

/-- The feature a packet needs is not in force on its arrival port, or its opcode is reserved in its class (R73). -/
def notServed (sd : Side) (port : Nat) (pkt : Packet) (s : State) : Bool :=
  !opAssigned pkt.opcode || (decide (port ≠ ownPort) && !((neededFeatures pkt).all fun b => inForce sd port b s))

/-- Runs of delivered XSEQs that follow E (R187). -/
def passAbove : Nat → Nat → List (BitVec 24) → Nat × List (BitVec 24)
  | 0, e, l => (e, l)
  | fuel + 1, e, l => if l.contains (low24 e) then passAbove fuel (e + 1) (l.erase (low24 e)) else (e, l)

/-- A packet is delivered (R186): E moves or the packet is recorded above it, and every 16th delivery is acknowledged at
once (R187). -/
def delivered (sd : Side) (pkt : Packet) (s : State) : State :=
  let s1 := s.onXpt sd fun x => { x with work := x.work.filter fun w => !sameSeq w.pkt pkt }
  let s2 := onDstSpace sd pkt.src pkt.dst pkt.stream (fun sp =>
    let r := if pkt.xseq = low24 sp.expected then passAbove sp.above.length (sp.expected + 1) sp.above
      else (sp.expected, pkt.xseq :: sp.above)
    { sp with expected := r.1, above := r.2, epoch := pkt.epoch, plane := pkt.plane, sinceAck := sp.sinceAck + 1 }) s1
  if 16 ≤ (dstSpace sd pkt.src pkt.dst pkt.stream s2).sinceAck then sendAck sd pkt.src pkt.dst pkt.stream s2 else s2

/-- A packet is refused with VERSION and counts as delivered (R73). -/
def refuseVersion (sd : Side) (pkt : Packet) (s : State) : State :=
  delivered sd pkt (if (responseOp pkt.opcode).isSome then sendResponse sd pkt stVersion [] 0 s else sendNack sd stVersion pkt s)

/-- The next held packets of an ordered space that now follow in order begin: refused ones are delivered at once (R73, R194). -/
def releaseHeld (sd : Side) (src dst : Eid) (stream : BitVec 4) : Nat → State → State
  | 0, s => s
  | fuel + 1, s =>
    let sp := dstSpace sd src dst stream s
    match sp.held.find? fun h => decide (h.2.xseq = low24 sp.expected) with
    | none => s
    | some h =>
      let s1 := onDstSpace sd src dst stream (fun sp => { sp with held := sp.held.erase h }) s
      if notServed sd h.1 h.2 s then releaseHeld sd src dst stream fuel (refuseVersion sd h.2 s1)
      else s1.onXpt sd fun x => { x with work := x.work ++ [{ port := h.1, pkt := h.2 }] }

/-- A packet is delivered, and what was held behind it goes on. -/
def deliver (sd : Side) (pkt : Packet) (s : State) : State :=
  let s1 := delivered sd pkt s
  if pkt.stream = 0 then s1
  else releaseHeld sd pkt.src pkt.dst pkt.stream ((dstSpace sd pkt.src pkt.dst pkt.stream s1).held.length + 1) s1

/-- A packet begins to be applied. -/
def beginWork (sd : Side) (port : Nat) (pkt : Packet) (s : State) : State :=
  if notServed sd port pkt s then
    let s1 := refuseVersion sd pkt s
    if pkt.stream = 0 then s1
    else releaseHeld sd pkt.src pkt.dst pkt.stream ((dstSpace sd pkt.src pkt.dst pkt.stream s1).held.length + 1) s1
  else s.onXpt sd fun x => { x with work := x.work ++ [{ port := port, pkt := pkt }] }

/-- Packets in all reorder stores (R194), and its size. -/
def reorderUsed (sd : Side) (s : State) : Nat := ((s.xpt sd).dst.map fun d => d.2.held.length).sum
def reorderSize (sd : Side) : Nat := match sd with
  | .module => 4096
  | .endpoint => 512

/-- Stream 0 packets recorded above E, and those in progress there (R587), and the table's size. -/
def recordsUsed (sd : Side) (s : State) : Nat :=
  ((s.xpt sd).dst.map fun d => d.2.above.length).sum
    + ((s.xpt sd).work.filter fun w => decide (w.pkt.stream = 0)
        && decide (w.pkt.xseq ≠ low24 (dstSpace sd w.pkt.src w.pkt.dst w.pkt.stream s).expected)).length
def recordLimit (sd : Side) : Nat := match sd with
  | .module => 131072
  | .endpoint => 65536

/-- An acceptable packet (R185, R194, R587). -/
def acceptPacket (sd : Side) (port : Nat) (pkt : Packet) (s : State) : State :=
  let sp := dstSpace sd pkt.src pkt.dst pkt.stream s
  let s1 := s.onXpt sd fun x => { x with refused := x.refused.filter fun y => decide (y.1 ≠ (dstKey pkt.src pkt.dst pkt.stream, pkt.xseq)) }
  if pkt.xseq = low24 sp.expected then beginWork sd port pkt s1
  else if pkt.stream = 0 then
    if recordsUsed sd s1 < recordLimit sd then sendAck sd pkt.src pkt.dst pkt.stream
      (onDstSpace sd pkt.src pkt.dst pkt.stream (fun sp => { sp with plane := pkt.plane }) (beginWork sd port pkt s1))
    else sendNack sd stRetryLater pkt s1
  else if pkt.tc = 3 ∧ reorderUsed sd s1 < reorderSize sd then
    onDstSpace sd pkt.src pkt.dst pkt.stream (fun sp => { sp with held := sp.held ++ [(port, pkt)] }) s1
  else sendNack sd stRetryLater pkt (bump sd .xptReorderNackCnt 0 s1)

/-- A packet reaches the unit that consumes it: taken from where it waits. The endpoint block tests it first (R72, R73, R509);
a module has done so at ingress. None where it is discarded. -/
def accept (sd : Side) (port : Nat) (pkt : Packet) (s : State) : Option State × State :=
  let s1 := match sd with
    | .module => consumeInbox .module pkt s
    | .endpoint => consumeArrived .endpoint port pkt s
  let c := (opClass pkt.opcode).getD 8
  if sd = .endpoint ∧ malformed pkt = true then (none, countMalformed sd port pkt s1)
  else if !opAssigned pkt.opcode && decide (c ≠ 3) && decide (c ≠ 6) && decide (c ≠ 7) then (none, countMalformed sd port pkt s1)
  else if sd = .endpoint ∧ isRackBcastEid pkt.src = true then (none, discardIngress .endpoint port pkt s1)
  else if sd = .endpoint ∧ retiredAt .endpoint pkt s1 = true then (none, bump sd .secRetiredDropCnt 0 s1)
  else (some s1, s1)

/-- A packet that is not sequenced and fails its check is discarded and counted (R69). -/
def dropBadCheck (sd : Side) (s : State) : State := bump sd .xptPchkDiscardCnt 0 s

/-- A received XPT_RESTART (R195). -/
def takeRestart (sd : Side) (pkt : Packet) (s : State) : State :=
  let sp := dstSpace sd pkt.src pkt.dst pkt.stream s
  let s1 := if seqAfter pkt.xseq (low24 sp.expected) then
      (onDstSpace sd pkt.src pkt.dst pkt.stream (fun sp => { sp with
        expected := extNear sp.expected pkt.xseq, held := [], above := [], epoch := pkt.epoch, plane := pkt.plane }) s).onXpt sd fun x =>
          { x with work := x.work.filter fun w =>
            !(decide (w.pkt.src = pkt.src) && decide (w.pkt.dst = pkt.dst) && decide (w.pkt.stream = pkt.stream) && !w.started) }
    else s
  sendAck sd pkt.src pkt.dst pkt.stream s1

/-! ## Plane changes (R196 to R199) -/

/-- The ordered spaces that a source has used or has operations for, as (destination, stream). -/
def orderedSpaces (sd : Side) (s : State) : List (Eid × BitVec 4) :=
  (((s.xpt sd).ops.filterMap fun o => if o.pkt.stream = 0 then none else some (o.pkt.dst, o.pkt.stream))
    ++ (s.xpt sd).src.filterMap fun e => if e.1 % 16 = 0 then none
      else some (BitVec.ofNat 20 (e.1 / 16), BitVec.ofNat 4 (e.1 % 16))).eraseDups

/-- An ordered stream to a module whose plane has become unusable (R198). -/
def breakModuleStream (sd : Side) (dst : Eid) (stream : BitVec 4) (s : State) : State :=
  onSrcSpace sd dst stream (fun sp => { sp with broken := true, restart := none })
    (endOps sd stAborted ((inFlight sd dst stream s).map fun x => x.1) s)

/-- The consequences of a plane that is unusable for a destination, for one ordered space. -/
def settleStream (sd : Side) (dst : Eid) (stream : BitVec 4) (s : State) : State :=
  if isModuleEid dst then
    if planeUsable sd dst (packetPlane sd dst stream 0 false s) s then s else breakModuleStream sd dst stream s
  else if barrierDue sd dst stream s then planeLossBarrier sd dst stream s else s

/-- Settles every ordered space of a source after a change of plane state (R196, R198). -/
def settlePlanes (sd : Side) (s : State) : State :=
  (orderedSpaces sd s).foldl (fun s x => settleStream sd x.1 x.2 s) s

/-- The barriers of streams whose other plane has become usable (R198). -/
def runBarriers (sd : Side) (s : State) : State :=
  (orderedSpaces sd s).foldl (fun s x => if barrierDue sd x.1 x.2 s then planeLossBarrier sd x.1 x.2 s else s) s

/-- A planned barrier advances once the old epoch is complete (R198). -/
def plannedAdvance (sd : Side) (dst : Eid) (stream : BitVec 4) (s : State) : State :=
  if (srcSpace sd dst stream s).planned && (inFlight sd dst stream s).isEmpty then
    bump sd .xptBarrierCnt 0 (onSrcSpace sd dst stream (fun sp => { sp with epoch := sp.epoch + 1, planned := false }) s)
  else s

/-! ## Dead targets and peer reset (R183, R191, R212) -/

/-- Every incomplete operation to a unit completes with TARGET_DEAD (R191). -/
def endToDead (sd : Side) (dst : Eid) (s : State) : State :=
  let s1 := endOps sd stTargetDead ((s.xpt sd).ops.filter fun o => decide (o.pkt.dst = dst)) s
  s1.onXpt sd fun x => { x with src := x.src.map fun (e : Nat × SrcSpace) =>
    if e.1 / 16 = dst.toNat then (e.1, { e.2 with restart := none, broken := e.2.broken || e.2.restart.isSome }) else e }

/-- A peer reset clears every space shared with an EID and frees its replay entries (R183, R233), counts in PR_GEN (R502), and takes the EID off the dead list
(R530). -/
def peerReset (sd : Side) (e : Eid) (s : State) : State :=
  let s1 := s.onXpt sd fun x => { x with
    src := x.src.filter fun (y : Nat × SrcSpace) => decide (y.1 / 16 ≠ e.toNat)
    dst := x.dst.filter fun (y : Nat × DstSpace) => decide (y.1 / 16 / 2 ^ 20 ≠ e.toNat)
    work := x.work.filter fun w => decide (w.pkt.src ≠ e)
    refused := x.refused.filter fun y => decide (y.1.1 / 16 / 2 ^ 20 ≠ e.toNat)
    acked := x.acked.filter fun y => decide (y.1 ≠ e)
    replay := x.replay.filter fun r => decide (r.src ≠ e) }
  (s1.onUnit sd fun u => { u with dead := u.dead.filter (· ≠ e) }).wr sd Fld.secStatusPrGen 0 (prGen sd s1 + 1)

/-- A write of XPT.PEER_RESET is refused (R212): incomplete packets for the EID, or a packet from it within 1 ms. -/
def peerResetRefused (sd : Side) (e : Eid) (s : State) : Bool :=
  s.rdb sd Fld.xptStatusPeerResetBusy || ((s.xpt sd).ops.any fun o => decide (o.pkt.dst = e) && o.sent.isSome)
    || (match smapGet? (s.xpt sd).lastSeen e.toNat with
        | some t => decide (s.now < t + 1000000)
        | none => false)

/-- A write of XPT.PEER_RESET (R212). -/
def writePeerReset (sd : Side) (e : Eid) (s : State) : State :=
  if peerResetRefused sd e s then regAccess sd (regOffset sd .xptPeerReset 0 0) e.toNat s else peerReset sd e s

end Sys2Proof.Machine
end

