-- ==== Sys2Proof/Machine/PoolOps.lean ====
section
/-! DEFINITION. The module's memories (R242 to R244, R265, R503), the window checks of R222 and R224, and what one access does
to the memory that holds its bytes. -/

namespace Sys2Proof.Machine

/-! ## Memory (canonical lists of cells) -/

/-- A memory in its one form: addresses strictly rising, no entry equal to 0, which an unlisted address reads as. -/
abbrev Memory := List Host.Cell

/-- A memory is in its canonical form. -/
def Memory.wf (m : Memory) : Bool := smapSorted m && m.all fun c => decide (c.2 ≠ 0)

/-- A byte of a memory. -/
def memByte (m : Memory) (a : Nat) : Byte := smapGet m 0 a

/-- Bytes of a memory. -/
def memRead (m : Memory) (a n : Nat) : List Byte := (List.range n).map fun i => memByte m (a + i)

/-- A memory with a byte written. -/
def memPut (m : Memory) (a : Nat) (b : Byte) : Memory := smapPut m 0 a b

/-- A memory with bytes written from an address on. -/
def memWrite : Memory → Nat → List Byte → Memory
  | m, _, [] => m
  | m, a, b :: l => memWrite (memPut m a b) (a + 1) l

/-! ## DDR5 and the fast pool -/

/-- The state with the pool memories changed. -/
def onPool (f : PoolState → PoolState) (s : State) : State := s.onM fun m => { m with pool := f m.pool }

/-- The name of the key a DDR5 access uses: 0 the device memory key, else a tenant's XTS key (R503). -/
def ddrKey (w : Bool) (slot epoch : Nat) : Nat := if w then slot * 16 + epoch + 1 else 0

/-- The name of the key material that a key name stands for now: it differs once the device memory key or the slot's XTS keys have been
drawn or loaded anew. -/
def keyMaterial (key : Nat) (s : State) : Nat :=
  if key = 0 then (if s.m.sec.deviceKey = 0 then 0 else 2 * s.m.sec.deviceKey + 1)
  else 2 * (key + 2 ^ 18 * smapGet s.m.sec.xtsKeys 0 ((key - 1) / 16))

/-- The key under which a line that is not listed stands: that of the latest fill of its range. -/
def fillKey (line : Nat) (p : PoolState) : Nat :=
  match p.fills.find? fun f => decide (f.1 ≤ line) && decide (line < f.2.1) with
  | some f => f.2.2
  | none => 0

/-- A DDR5 line as an access under a key sees it. -/
def ddrLine (name line : Nat) (s : State) : List Byte :=
  let p := s.m.pool
  let key := keyMaterial name s
  let bytes := memRead p.ddr (64 * line) 64
  let k := smapGet p.keyed (fillKey line p) line
  if k = key then bytes else (Config.wrongKeyLine k key line bytes ++ zeros 64).take 64

/-- The lines that bytes touch. -/
def linesOf (a n : Nat) : List Nat := (List.range ((a + n + 63) / 64 - a / 64)).map fun i => a / 64 + i

/-- DDR5 bytes as an access under a key sees them. -/
def ddrRead (key a n : Nat) (s : State) : List Byte :=
  slice ((linesOf a n).flatMap fun l => ddrLine key l s) (a % 64) n

/-- DDR5 with bytes written under a key; a line written in part is read, merged and written whole. -/
def ddrWrite (key a : Nat) (data : List Byte) (s : State) : State :=
  let ls := linesOf a data.length
  let old := ls.flatMap fun l => ddrLine key l s
  let whole := old.take (a % 64) ++ data ++ old.drop (a % 64 + data.length)
  onPool (fun p => { p with
    ddr := memWrite p.ddr (a / 64 * 64) whole
    keyed := ls.foldl (fun m l => smapPut m (fillKey l p) l (keyMaterial key s)) p.keyed }) s

/-- A line is poisoned (R265, R445): the local address divided by 64, of DDR5 or of the fast pool. -/
def poisoned (line : Nat) (s : State) : Bool := s.m.pool.poison.contains line

/-- Marks a line poisoned, counted once (R263 to R265). -/
def markPoison (line : Nat) (s : State) : State :=
  if poisoned line s then s
  else bump .module .dirPoisonCnt 0 (onPool (fun p => { p with poison := line :: p.poison }) s)

/-- Clears the marking of lines. -/
def clearPoison (l : List Nat) (s : State) : State :=
  onPool (fun p => { p with poison := p.poison.filter fun x => !l.contains x }) s

/-- The lines that a write covers whole. -/
def wholeLines (a n : Nat) : List Nat := (linesOf a n).filter fun l => decide (a ≤ 64 * l) && decide (64 * l + 64 ≤ a + n)

/-! ## Places (R224, R242 to R244) -/

/-- Where a local address of a module lies. -/
inductive Place where
  | ddr
  | fast
  | mgmt
deriving DecidableEq, Repr

/-- First offset of the fast pool, and of the management window. -/
def fastBase : Nat := 0xF0000000000
def mgmtBase : Nat := 0xFFF00000000

/-- The row of R242 an offset lies in. -/
def poolPlace (off : Nat) (s : State) : Option Place :=
  if mgmtBase ≤ off ∧ off < mgmtBase + 0x100000 then some .mgmt
  else if !s.isLeaf then none
  else if off < s.rd .module Fld.dirPoolStatusPoolGib * 2 ^ 30 then some .ddr
  else if fastBase ≤ off ∧ off < fastBase + s.rd .module Fld.dirPoolStatusFastTiles * 786432 then some .fast
  else none

/-! ## Windows (R221) -/

/-- Window entries of a unit. -/
def winCount (sd : Side) : Nat := match sd with
  | .module => 1024
  | .endpoint => 4096

/-- Window entry `w` is valid and covers a byte offset. -/
def winCovers (sd : Side) (w off : Nat) (s : State) : Bool :=
  s.rdb sd Fld.memWinValid w && decide (s.rd sd Fld.memWinBase w ≤ off / 4096) && decide (off / 4096 ≤ s.rd sd Fld.memWinLimit w)

/-- The window of a request (R222 step 3): the valid entry of lowest index that covers the first byte, if it covers the last. -/
def findWindow (sd : Side) (first last : Nat) (s : State) : Option Nat :=
  match findBelow (winCount sd) fun w => winCovers sd w first s with
  | some w => if winCovers sd w last s then some w else none
  | none => none

/-- The local address of an offset in a window (R221). -/
def winLocal (sd : Side) (w off : Nat) (s : State) : Nat :=
  s.rd sd Fld.memWinLocal w * 4096 + (off - s.rd sd Fld.memWinBase w * 4096)

/-! ## The checks of R222 -/

/-- Operand bytes of an atomic by SIZE or TYPE (R215). -/
def atomicSize (p : Packet) : Nat :=
  let f := p.opx.toNat / 16 % 4
  if p.opcode = 0x64 then (if f = 0 then 4 else if f = 1 then 8 else 16) else if f = 0 then 4 else 2

/-- OP of an atomic or reduce-store. -/
def opField (p : Packet) : Nat := p.opx.toNat % 16

/-- TYPE of a reduce-store. -/
def typeField (p : Packet) : Nat := p.opx.toNat / 16 % 16

/-- OP and TYPE of a reduction are served (R215). -/
def reduceServed (op type : Nat) : Bool :=
  decide (op ≤ 5) && decide (type ≤ 4) && !(decide (type ≤ 2) && decide (3 ≤ op))

/-- OP and FMT of a Domino segment (R311). -/
def segmentOp (p : Packet) : Nat := p.opx.toNat / 2 ^ 11 % 16
def segmentFmt (p : Packet) : Nat := p.opx.toNat / 2 ^ 15 % 16

/-- Step 2: OP, SIZE and TYPE are served (R215). -/
def opServed (p : Packet) : Bool :=
  match p.opcode.toNat with
  | 0x64 => decide (opField p ≤ 9) && decide (p.opx.toNat / 16 % 4 ≠ 3)
      && (decide (p.opx.toNat / 16 % 4 ≠ 2) || decide (opField p = 9))
  | 0x65 => decide (opField p ≤ 2) && decide (p.opx.toNat / 16 % 4 ≤ 1)
  | 0x66 => reduceServed (opField p) (typeField p)
  | 0x94 => !p.opx.getLsbD 10 || reduceServed (segmentOp p) (segmentFmt p)
  | _ => true

/-- The bytes a request covers (R214, R215). -/
def requestBytes (p : Packet) : Nat :=
  match p.opcode.toNat with
  | 0x60 | 0x61 => p.opx.toNat % 256 + 1
  | 0x81 => p.opx.toNat % 4096 + 1
  | 0x64 | 0x65 => atomicSize p
  | _ => p.payload.length

/-- Step 7: alignment and length (R215, R219). -/
def alignedOk (p : Packet) : Bool :=
  let off := p.offset.toNat
  let n := requestBytes p
  match p.opcode.toNat with
  | 0x64 => decide (off % atomicSize p = 0)
      && decide (p.payload.length = (if opField p = 9 then 2 * atomicSize p else atomicSize p))
  | 0x65 => decide (off % atomicSize p = 0) && decide (p.payload.length = atomicSize p)
  | 0x66 => decide (off % reduceBytes (typeField p) = 0) && decide (p.payload.length % reduceBytes (typeField p) = 0)
  | 0x80 | 0x81 | 0xA0 => decide (off / 4096 = (off + n - 1) / 4096)
  | 0x94 => !p.opx.getLsbD 10 || (decide (off % reduceBytes (segmentFmt p) = 0)
      && decide (p.payload.length % reduceBytes (segmentFmt p) = 0))
  | _ => true

/-- Step 6: the rights a request needs (R213), given the rights a window grants. -/
def rightsOk (p : Packet) (read write atomic mcast : Bool) : Bool :=
  (match p.opcode.toNat with
   | 0x60 | 0x61 | 0x81 => read
   | 0x62 | 0x63 | 0x80 | 0xA0 => write
   | 0x94 => if p.opx.getLsbD 10 then atomic else write
   | 0x64 | 0x65 => read && atomic
   | 0x66 => atomic
   | _ => false) && (!isGroupEid p.dst || mcast)

/-- What the checks give. -/
inductive Checked where
  | ok (pkt : Packet) (addr : Nat) (place : Place) (readMostly : Bool)
  | bad (status : Status)
deriving DecidableEq, Repr

/-- The window's class and ENC agree with the packet (R222 step 5, R499). -/
def encOk (p : Packet) : Bool := decide (p.enc = mustEncrypt p)

/-- A refusal at a step, counted by its cause. -/
def refuse (sd : Side) (st : Status) (r : Reg) (s : State) : Checked × State := (.bad st, bump sd r 0 s)

/-- Decryption between steps 5 and 6 (R501). The fault flag says that it is a failed check (R192). -/
def openRequest (sd : Side) (p : Packet) (s : State) : Sum Packet Checked × State :=
  match openPacket sd 0 (nonceSeq p.stream.toNat (extAt sd p s)) p.dst p s with
  | .ok q => (.inl q, s)
  | .denied => (.inr (.bad stAccessDenied), bump sd .secNokeyCnt 0 s)
  | .stale => (.inr (.bad stAccessDenied), bump sd .secStaleRefuseCnt 0 s)
  | .badTag => (.inr (.bad stCheckFail), bump sd .secTagFailCnt 0 s)

/-- Steps 4 to 7 against window `w`. -/
def checkWindow (sd : Side) (p : Packet) (w : Nat) (place : Place) (s : State) : Checked × State :=
  if s.rd sd Fld.memWinKeyIndex w ≠ p.keyIndex.toNat ∨ s.rd sd Fld.memWinKeyEpoch w ≠ p.keyEpoch.toNat then
    refuse sd stAccessDenied .memDenyKeyCnt s
  else if s.rd sd Fld.memWinDclass w ≠ p.dclass.toNat then refuse sd stAccessDenied .memDenyClassCnt s
  else if !encOk p then refuse sd stAccessDenied .memDenyClassCnt (bump sd .secClassFailCnt 0 s)
  else match openRequest sd p s with
    | (.inr c, s1) => (c, s1)
    | (.inl q, s1) =>
      if !rightsOk q (s.rdb sd Fld.memWinRead w) (s.rdb sd Fld.memWinWrite w) (s.rdb sd Fld.memWinAtomic w)
          (s.rdb sd Fld.memWinMcast w) then refuse sd stAccessDenied .memDenyRightsCnt s1
      else if !alignedOk q then refuse sd stAccessDenied .memDenyAlignCnt s1
      else (.ok q (winLocal sd w q.offset.toNat s1) place (s1.rdb sd Fld.memWinRdMostly w), s1)

/-- Steps 4 to 7 for the management window (R224). -/
def checkMgmt (p : Packet) (s : State) : Checked × State :=
  if !s.rdb .module Fld.memMwinValid || decide (s.rd .module Fld.memMwinKeyIndex ≠ p.keyIndex.toNat)
      || decide (s.rd .module Fld.memMwinKeyEpoch ≠ p.keyEpoch.toNat) then refuse .module stAccessDenied .memDenyKeyCnt s
  else if p.dclass ≠ 0 then refuse .module stAccessDenied .memDenyClassCnt s
  else if !(rightsOk p true false false false && (isModuleEid p.src || (isEndpointEid p.src && decide (120 ≤ eidSlot p.src)))) then
    refuse .module stAccessDenied .memDenyRightsCnt s
  else if !alignedOk p then refuse .module stAccessDenied .memDenyAlignCnt s
  else (.ok p (p.offset.toNat - mgmtBase) .mgmt false, s)

/-- Steps 3 to 7 of R222, with R224 on a module. -/
def checkPlace (sd : Side) (p : Packet) (s : State) : Checked × State :=
  let first := p.offset.toNat
  let last := first + requestBytes p - 1
  match sd with
  | .endpoint =>
    match findWindow .endpoint first last s with
    | some w => checkWindow .endpoint p w .ddr s
    | none => refuse .endpoint stNoWindow .memNoWindowCnt s
  | .module =>
    match poolPlace first s, poolPlace last s with
    | some .mgmt, some .mgmt => checkMgmt p s
    | some a, some b =>
      if a ≠ b ∨ (a = .ddr ∧ s.rdb .module Fld.dirPoolCtlEn = false) then refuse .module stNoWindow .memNoWindowCnt s
      else match findWindow .module first last s with
        | some w => checkWindow .module p w a s
        | none => refuse .module stNoWindow .memNoWindowCnt s
    | _, _ => refuse .module stNoWindow .memNoWindowCnt s

/-- Steps 2 to 7 of R222. -/
def checkRequest (sd : Side) (p : Packet) (s : State) : Checked × State :=
  if !opServed p then (.bad stVersion, s) else checkPlace sd p s

/-! ## One access on the module (R216, R265) -/

/-- The fast-pool tile of a fast-pool address is MISSING (R244). -/
def fastMissing (a n : Nat) (s : State) : Bool :=
  s.m.pool.missing.contains (a / 786432) || s.m.pool.missing.contains ((a + n - 1) / 786432)

/-- Bytes read from a place of the module, or the status that refuses them. -/
def moduleRead (place : Place) (key a n : Nat) (s : State) : Except Status (List Byte) :=
  match place with
  | .mgmt => .ok (memRead s.m.pool.mwin a n)
  | .fast =>
    if fastMissing (a - fastBase) n s || (linesOf a n).any fun l => poisoned l s then .error stPoisoned
    else .ok (memRead s.m.pool.fast (a - fastBase) n)
  | .ddr => if (linesOf a n).any fun l => poisoned l s then .error stPoisoned else .ok (ddrRead key a n s)

/-- Bytes written to a place of the module: the status, and the state. A poisoned line takes only a write that covers it whole;
poisoned data marks what it covers (R265). -/
def moduleWrite (place : Place) (key a : Nat) (data : List Byte) (poison : Bool) (s : State) : Status × State :=
  match place with
  | .mgmt => (stAccessDenied, s)
  | .fast =>
    let whole := wholeLines a data.length
    if fastMissing (a - fastBase) data.length s || (linesOf a data.length).any fun l => poisoned l s && !whole.contains l then
      (stPoisoned, s)
    else
      let s1 := onPool (fun p => { p with fast := memWrite p.fast (a - fastBase) data }) (clearPoison whole s)
      (stOk, if poison then (linesOf a data.length).foldl (fun s l => markPoison l s) s1 else s1)
  | .ddr =>
    let whole := wholeLines a data.length
    if (linesOf a data.length).any fun l => poisoned l s && !whole.contains l then (stPoisoned, s)
    else
      let s1 := ddrWrite key a data (clearPoison whole s)
      (stOk, if poison then (linesOf a data.length).foldl (fun s l => markPoison l s) s1 else s1)

/-- New value and flags of an atomic (R216): the bytes to write, or none where nothing changes; and CAS_SUCCESS. -/
def atomicResult (p : Packet) (old : List Byte) : Option (List Byte) × Bool :=
  let n := atomicSize p
  if p.opcode = 0x65 then
    (some (leBytes n (floatOp (if n = 4 then fmtFp32 else fmtBf16) (opField p) (leNat old) (leNat p.payload))), false)
  else if opField p = 9 then
    if p.payload.take n = old then (some (p.payload.drop n), true) else (none, false)
  else (some (leBytes n (atomicInt (opField p) (8 * n) (leNat old) (leNat p.payload))), false)

/-- What an access gives: its status, the response's payload and the flags of its OPX word. -/
structure Answer where
  status : Status
  payload : List Byte := []
  opx : Nat := 0
deriving DecidableEq, Repr

/-- The key of a packet's DDR5 accesses. -/
def packetKey (p : Packet) : Nat := ddrKey (decide (p.dclass = 1)) p.keyIndex.toNat p.keyEpoch.toNat

/-- One checked access applied to the module's memory. -/
def moduleApply (p : Packet) (a : Nat) (place : Place) (readMostly : Bool) (s : State) : Answer × State :=
  let key := packetKey p
  match p.opcode.toNat with
  | 0x60 | 0x61 | 0x81 =>
    match moduleRead place key a (requestBytes p) s with
    | .error st => ({ status := st }, s)
    | .ok d =>
      let cacheable := readMostly && decide (p.opcode = 0x60) && decide (p.offset.toNat % 64 = 0) && decide (requestBytes p = 64)
      ({ status := stOk, payload := d, opx := if cacheable then 2 ^ 29 else 0 }, s)
  | 0x62 | 0x63 | 0x80 | 0xA0 =>
    let r := moduleWrite place key a p.payload p.poison s
    ({ status := r.1 }, r.2)
  | 0x66 =>
    match moduleRead place key a p.payload.length s with
    | .error st => ({ status := st }, s)
    | .ok d =>
      let r := moduleWrite place key a (reduceBytesInto (opField p) (typeField p) (d.length + 1) d p.payload) false s
      ({ status := r.1 }, r.2)
  | _ =>
    match moduleRead place key a (atomicSize p) s with
    | .error st => ({ status := st }, s)
    | .ok old =>
      let n := atomicResult p old
      match n.1 with
      | none => ({ status := stOk, payload := old }, s)
      | some v =>
        let r := moduleWrite place key a v false s
        ({ status := r.1, payload := if r.1 = stOk then old else [], opx := if n.2 then 2 ^ 30 else 0 }, r.2)

/-! ## Replay cache (R231 to R236) -/

/-- Replay entries of a unit (R232); the module's follow its CONTROL tiles in service once an image is loaded (R447). -/
def replaySize (sd : Side) (s : State) : Nat := match sd with
  | .module =>
    let image := s.rd .module Fld.tilRoleCntImage 4
    if image = 0 then 65536 else 65536 * s.rd .module Fld.tilRoleCntInService 4 / image
  | .endpoint => 8192

/-- An entry holds the packet's idempotency tag (R231). -/
def replayMatch (p : Packet) (r : ReplayEntry) : Bool :=
  decide (r.src = p.src) && decide (r.stream = p.stream) && decide (r.xseq = p.xseq)

/-- LWM of an atomic (R218). -/
def lwmOf (p : Packet) : BitVec 24 := BitVec.ofNat 24 (leNat (p.ext.take 3))

/-- Entries below the LWM of a later atomic of their space are freed (R233). -/
def replayFree (sd : Side) (p : Packet) (s : State) : State :=
  s.onXpt sd fun x => { x with replay := x.replay.filter fun r =>
    !(decide (r.src = p.src) && decide (r.stream = p.stream) && r.status.isSome && seqAfter (lwmOf p) r.xseq) }

/-- There is room for an atomic's entry (R233, R234). -/
def replayRoom (sd : Side) (p : Packet) (s : State) : Bool :=
  decide ((s.xpt sd).replay.length < replaySize sd s)
    && decide (((s.xpt sd).replay.filter fun r => decide (r.src = p.src)).length < 1024)

/-- An atomic takes its entry (R232). -/
def replayTake (sd : Side) (p : Packet) (s : State) : State :=
  s.onXpt sd fun x => { x with replay := x.replay ++ [{ src := p.src, stream := p.stream, xseq := p.xseq, keyIndex := p.keyIndex
                                                        keyEpoch := p.keyEpoch, writtenAt := s.now }] }

/-- An atomic's result is written to its entry (R232). -/
def replayWrite (sd : Side) (p : Packet) (a : Answer) (s : State) : State :=
  s.onXpt sd fun x => { x with replay := x.replay.map fun r => if replayMatch p r then
    { r with status := some a.status, old := a.payload, cas := a.opx.testBit 30, writtenAt := s.now } else r }

/-- A duplicate atomic is answered from its entry, or with UNKNOWN_OUTCOME (R235). -/
def answerReplay (sd : Side) (p : Packet) (s : State) : State :=
  match (s.xpt sd).replay.find? (replayMatch p) with
  | some r => sendResponse sd p (r.status.getD stUnknownOutcome) r.old (b2n r.cas * 2 ^ 30 + 2 ^ 31) (bump sd .memReplayHitCnt 0 s)
  | none => sendResponse sd p stUnknownOutcome [] 0 (bump sd .memUnknownCnt 0 s)

/-! ## Ending an incoming access -/

/-- A refused DMA write draws XPT_NACK before any XPT_ACK covers it, is counted and recorded (R226). -/
def refuseDma (sd : Side) (p : Packet) (st : Status) (s : State) : State :=
  let s1 := logEvent sd { code := 0xA4, severity := 1, block := 7, status := st.toNat, eid := some p.src, arg0 := p.xseq.toNat, arg1 := p.offset.toNat } s
  sendNack sd st p (s1.onXpt sd fun x => { x with refused := ((dstKey p.src p.dst p.stream, p.xseq), st) :: x.refused })

/-- An access ends: it is delivered, and its response, or the NACK of a refused DMA write, leaves (R186, R188, R226). A failed
tag is a failed check: it is not delivered (R501). -/
def endAccess (sd : Side) (p : Packet) (a : Answer) (s : State) : State :=
  if a.status = stCheckFail then
    sendNack sd stCheckFail p (s.onXpt sd fun x => { x with
      work := x.work.filter fun w => !sameSeq w.pkt p, replay := x.replay.filter fun r => !replayMatch p r })
  else
    let s1 := if isAtomicOp p.opcode then replayWrite sd p a s else s
    let s2 := if (p.opcode = 0x80 ∨ p.opcode = 0xA0) ∧ a.status ≠ stOk then refuseDma sd p a.status s1 else s1
    sendResponse sd p a.status a.payload a.opx (deliver sd p s2)

/-- An accepted packet whose application has not begun. -/
def findWork (sd : Side) (p : Packet) (s : State) : Option Work :=
  (s.xpt sd).work.find? fun w => sameSeq w.pkt p && !w.started

/-- Marks a packet's application as begun. -/
def startWork (sd : Side) (p : Packet) (s : State) : State :=
  s.onXpt sd fun x => { x with work := x.work.map fun w => if sameSeq w.pkt p then { w with started := true } else w }

end Sys2Proof.Machine
end

