-- ==== Sys2Proof/Machine/HomeOps.lean ====
section
/-! DEFINITION. The home of coherent pool lines (R245 to R266): regions, directory entries, snoops, and a transaction's course. -/

namespace Sys2Proof.Machine

/-! ## Lines and regions (R245 to R250) -/

/-- The state with the directory changed. -/
def onDir (f : DirState → DirState) (s : State) : State := s.onM fun m => { m with dir := f m.dir }

/-- DIRECTORY tiles in service: T (R250). -/
def dirTiles (s : State) : Nat := s.rd .module Fld.dirStatusTiles

/-- The home tile and the set of a line under T tiles (R250). -/
def homeTile (t line : Nat) : Nat := line % t
def homeSet (t line : Nat) : Nat := line / t % 8192

/-- The region of a line: the lowest-numbered valid one that covers its 2 MiB unit (R245, R271). -/
def regionOf (line : Nat) (s : State) : Option Nat :=
  findBelow 64 fun n => s.rdb .module Fld.dirRegionValid n && decide (s.rd .module Fld.dirRegionBase n ≤ line / 32768)
    && decide (line / 32768 ≤ s.rd .module Fld.dirRegionLimit n)

/-- A coherent line (R245): it lies in the pool, in a valid region whose COHERENT bit is 1. -/
def coherentLine (line : Nat) (s : State) : Bool :=
  decide (poolPlace (64 * line) s = some .ddr) && (match regionOf line s with
    | some n => s.rdb .module Fld.dirRegionCoherent n
    | none => false)

/-- The power loop holds DDR5 below its full rate: shed level 2 and above (R245, R470). -/
def ddrThrottled (s : State) : Bool := decide (2 ≤ s.rd .module Fld.pwrStatusShedLevel)

/-- The mode in force of a region: true for the owned-state variant (R245). -/
def modeNow (n : Nat) (s : State) : Bool :=
  s.rdb .module Fld.dirRegionMode n || (s.rdb .module Fld.dirRegionAuto n && ddrThrottled s)

/-- The owned-state variant is in force for a line. -/
def ownedMode (line : Nat) (s : State) : Bool := match regionOf line s with
  | some n => modeNow n s
  | none => false

/-- The DDR5 address that holds a pool line: through the window that covers it (R221). -/
def lineAddr (line : Nat) (s : State) : Nat := match findWindow .module (64 * line) (64 * line + 63) s with
  | some w => winLocal .module w (64 * line) s
  | none => 64 * line

/-- A pool line as the home reads it; none where it is poisoned (R265). -/
def homeRead (line : Nat) (s : State) : Option (List Byte) :=
  let a := lineAddr line s
  if poisoned (a / 64) s then none else some (ddrRead 0 a 64 s)

/-- The line lies in a window of a slot that is being scrubbed: what comes back of it is discarded (R509). -/
def lineScrubbed (line : Nat) (s : State) : Bool := match findWindow .module (64 * line) (64 * line + 63) s with
  | some w => decide (slotState .module (s.rd .module Fld.memWinKeyIndex w) s = 3)
      && slotRetired .module (s.rd .module Fld.memWinKeyIndex w) (s.rd .module Fld.memWinKeyEpoch w) s
  | none => false

/-- A pool line written by the home: a whole line, which clears its poison (R265). -/
def homeWrite (line : Nat) (data : List Byte) (s : State) : State :=
  if lineScrubbed line s then s else (moduleWrite .ddr 0 (lineAddr line s) (fitTo 64 data) false s).2

/-! ## Directory entries (R251) -/

/-- The entry of a line; none where no way holds it (INVALID). -/
def dirEntry (line : Nat) (s : State) : Option DirEntry := smapGet? s.m.dir.entries line

/-- An entry written, as the most recently used of its set; none frees the way. -/
def putEntry (line : Nat) (e : Option DirEntry) (s : State) : State :=
  onDir (fun d => { d with
    clock := d.clock + 1
    entries := match e with
      | some x => smapSet d.entries line { x with used := d.clock }
      | none => smapErase d.entries line }) s

/-- The slots an entry names. -/
def holders (e : DirEntry) : List Nat := (e.fo.toList ++ e.ptrs).eraseDups

/-- A sharer recorded; OVF where all four pointers are full (R251). -/
def addSharer (slot : Nat) (e : DirEntry) : DirEntry :=
  if e.ptrs.contains slot || decide (e.fo = some slot) then e
  else if e.ptrs.length < 4 then { e with ptrs := e.ptrs ++ [slot] } else { e with ovf := true }

/-- A slot removed from FO and pointers; none where no holder remains (R254). -/
def dropSlot (slot : Nat) (e : DirEntry) : Option DirEntry :=
  let fo := if e.fo = some slot then none else e.fo
  let ptrs := e.ptrs.filter fun x => decide (x ≠ slot)
  if fo.isNone && ptrs.isEmpty && !e.ovf then none
  else if fo.isNone && decide (e.state = 2) then none
  else some { e with state := if fo.isNone then 1 else e.state, fo := fo, ptrs := ptrs }

/-- An entry with one holder in E or M (R254). -/
def exclEntry (slot : Nat) : DirEntry := { state := 2, fo := some slot }

/-! ## Packets of the home (R252) -/

/-- The EID of a slot of this leaf's rack. -/
def slotEid (slot : Nat) (s : State) : Eid := endpointEid (eidIndex (s.myEid .module)) slot

/-- A TC2 packet of the leaf. -/
def tc2Packet (sd : Side) (dst : Eid) (plane : Bool) (op : BitVec 8) (tseq : BitVec 24) (off opx : Nat) (st : Status)
    (data : List Byte) (s : State) : Packet :=
  sealPacket { dst := dst, src := s.myEid sd, opcode := op, tc := 2, plane := plane, status := st, xseq := tseq
               offset := BitVec.ofNat 44 off, opx := BitVec.ofNat 32 opx, payload := data, length := lengthOf data }

/-- The snoop word (R252). -/
def snoopWord (fwd : Option Eid) (forward keepO toHome all : Bool) : Nat :=
  (fwd.getD 0xFFFFF).toNat + b2n forward * 2 ^ 20 + b2n keepO * 2 ^ 21 + b2n toHome * 2 ^ 22 + b2n all * 2 ^ 23

/-- A packet of the leaf to an endpoint. -/
def leafPacket (dst : Eid) (op : BitVec 8) (tseq : BitVec 24) (off opx : Nat) (st : Status) (data : List Byte) (s : State) : Packet :=
  tc2Packet .module dst (s.rdb .module Fld.glbRolePlane) op tseq off opx st data s

/-- DATA of a line to a requester, with its grant. -/
def sendData2 (dst : Eid) (tseq : BitVec 24) (line grant : Nat) (st : Status) (data : List Byte) (s : State) : State :=
  sendOwn (leafPacket dst 0x50 tseq (64 * line) grant st (if st = stOk then data else []) s) s

/-- GO to a requester. -/
def sendGo (dst : Eid) (tseq : BitVec 24) (off grant : Nat) (st : Status) (s : State) : State :=
  sendOwn (leafPacket dst 0x41 tseq off grant st [] s) s

/-- CMP to a requester. -/
def sendCmp (dst : Eid) (tseq : BitVec 24) (off : Nat) (stale : Bool) (s : State) : State :=
  sendOwn (leafPacket dst 0x42 tseq off (b2n stale) stOk [] s) s

/-- A snoop to one slot. -/
def snoopOne (op : BitVec 8) (line slot : Nat) (tseq : BitVec 24) (word : Nat) (forward : Bool) (s : State) : HomeSnoop :=
  { slot := slot, pkt := leafPacket (slotEid slot s) op tseq (64 * line) word stOk [] s, forward := forward }

/-- Slots that receive and answer a rack broadcast (R255). -/
def broadcastSlots (s : State) : List Nat := (List.range 64).filter fun k => s.rdb .module Fld.rteSlotValid k

/-- Invalidating snoops to every holder but one: unicast, or under OVF a forwarding copy first and the rack broadcast (R255). -/
def invSnoops (op : BitVec 8) (line : Nat) (e : DirEntry) (tseq : BitVec 24) (req : Option (Nat × Eid)) (fwd : Bool) (s : State) :
    List HomeSnoop :=
  let toward := req.map fun r => r.2
  let fw := match e.fo with
    | some h => if fwd then [snoopOne op line h tseq (snoopWord toward true false false false) true s] else []
    | none => []
  if e.ovf then
    let p := leafPacket (groupEid 2 (eidIndex (s.myEid .module))) op tseq (64 * line) (snoopWord toward false false false false) stOk [] s
    fw ++ (broadcastSlots s).map fun k => { slot := k, pkt := p, broadcast := true }
  else
    fw ++ ((holders e).filter fun h => !(fwd && decide (e.fo = some h)) && decide (req.map (fun r => r.1) ≠ some h)).map fun h =>
      snoopOne op line h tseq (snoopWord toward false false false false) false s

/-- Sends the snoops of a list: each unicast, the broadcast once, counted (R255). -/
def sendSnoops (l : List HomeSnoop) (s : State) : State :=
  let s1 := (l.filter fun x => !x.broadcast).foldl (fun s x => sendOwn x.pkt s) s
  match l.find? fun x => x.broadcast with
  | some b => sendOwn b.pkt (bump .module .dirBcastCnt 0 s1)
  | none => s1

/-! ## Transactions (R254, R257) -/

/-- A line is blocked. -/
def lineBlocked (line : Nat) (s : State) : Bool := s.m.dir.txns.any fun t => t.lines.contains line

/-- A transaction removed: its lines are unblocked. -/
def endTxn (id : Nat) (s : State) : State := onDir (fun d => { d with txns := d.txns.filter fun t => decide (t.id ≠ id) }) s

/-- A transaction replaced. -/
def putTxn (t : HomeTxn) (s : State) : State := onDir (fun d => { d with txns := d.txns.map fun x => if x.id = t.id then t else x }) s

/-- A transaction has given its grant: it waits for ACK, and ends at once where coherence recovery has taken the ACK as arrived
(R257, R263). -/
def grantTxn (t : HomeTxn) (grant : Nat) (s : State) : State :=
  if t.recovered then endTxn t.id s else putTxn { t with granted := some grant } s

/-- The lines of the directory that an access touches. -/
def accessLines (p : Packet) (s : State) : List Nat :=
  (linesOf p.offset.toNat (requestBytes p)).filter fun l => coherentLine l s

/-- The lines a use of the home blocks. -/
def useLines (u : HomeUse) (s : State) : List Nat :=
  match u with
  | .request _ _ p => if p.opcode = 0x25 ∨ p.opcode = 0x26 then [] else [p.offset.toNat / 64]
  | .access _ p _ _ => accessLines p s
  | .evict => []
  | .region => []

/-- The requester of a TC2 request may hold the line (R246). -/
def inScope (port slot : Nat) (p : Packet) (s : State) : Bool :=
  isEndpointEid p.src && decide (eidRack p.src = eidIndex (s.myEid .module)) && decide (eidSlot p.src = slot) && decide (slot < 64)
    && s.rdb .module Fld.rteSlotValid slot && decide (s.rd .module Fld.rteSlotPort slot = port)
    && coherentLine (p.offset.toNat / 64) s

/-- Grants a line to the requester from the home: DATA, and GO for ownership; the transaction then waits for ACK. A poisoned line
grants nothing and ends it (R254, R265). -/
def grantFromHome (t : HomeTxn) (p : Packet) (line grant : Nat) (entry : DirEntry) (s : State) : State :=
  let own := decide (p.opcode ≠ 0x20)
  match if t.lost then none else homeRead line s with
  | none =>
    let s1 := sendData2 p.src p.xseq line 0 stPoisoned [] s
    endTxn t.id (if own then sendGo p.src p.xseq (64 * line) 0 stPoisoned s1 else s1)
  | some d =>
    let s1 := sendData2 p.src p.xseq line grant stOk d (putEntry line (some entry) s)
    grantTxn t grant (if own then sendGo p.src p.xseq (64 * line) grant stOk s1 else s1)

/-- A line forwarded by its holder: the home records the grant and waits for ACK. -/
def grantForwarded (t : HomeTxn) (p : Packet) (line grant : Nat) (entry : DirEntry) (s : State) : State :=
  let s1 := grantTxn t grant (putEntry line (some entry) s)
  if p.opcode = 0x20 then s1 else sendGo p.src p.xseq (64 * line) grant stOk s1

/-- The sharers that stay in an entry beside a new FO. -/
def sharersBut (r : Nat) (e : DirEntry) : DirEntry := { e with ptrs := e.ptrs.filter fun x => decide (x ≠ r) }

/-- RD_SHARED once its snoop is answered, or where it needed none (R254). -/
def finishRead (t : HomeTxn) (r : Nat) (p : Packet) (line : Nat) (s : State) : State :=
  match dirEntry line s with
  | none => grantFromHome t p line 3 (exclEntry r) s
  | some e =>
    let old := match e.fo with
      | some h => if t.foState = 0 ∨ h = r then sharersBut r e else addSharer h { sharersBut r e with fo := none }
      | none => sharersBut r e
    let shared : DirEntry := { old with state := 1, fo := some r }
    if !t.forwarded then grantFromHome t p line 2 shared s
    else if t.foState = 5 then grantForwarded t p line 1 (addSharer r { sharersBut r e with state := 3 }) s
    else grantForwarded t p line 2 shared s

/-- RD_OWN or UPGRADE once every snoop is answered (R254). -/
def finishOwn (t : HomeTxn) (r : Nat) (p : Packet) (line : Nat) (upgrade : Bool) (s : State) : State :=
  if upgrade then
    if t.lost then endTxn t.id (sendGo p.src p.xseq (64 * line) 0 stPoisoned s)
    else grantTxn t 4 (sendGo p.src p.xseq (64 * line) 4 stOk (putEntry line (some (exclEntry r)) s))
  else if t.forwarded then grantForwarded t p line 4 (exclEntry r) s
  else grantFromHome t p line 4 (exclEntry r) s

/-- R holds the line in an entry that lets it upgrade (R254). -/
def mayUpgrade (r : Nat) (e : DirEntry) : Bool :=
  e.ptrs.contains r || (decide (e.fo = some r) && decide (e.state ≠ 2)) || (e.ovf && decide (e.fo ≠ some r))

/-- Read served without keeping the line (R247): grant NC. -/
def finishNc (t : HomeTxn) (p : Packet) (line : Nat) (s : State) : State :=
  let s1 := bump .module .dirNcGrantCnt 0 s
  match if t.lost then none else homeRead line s1 with
  | none => endTxn t.id (sendData2 p.src p.xseq line 0 stPoisoned [] s1)
  | some d => grantTxn t 6 (sendData2 p.src p.xseq line 6 stOk d s1)

/-- An access of R248 once its snoops are answered: writes free the entries of their lines; the access is applied and ends. -/
def finishAccess (t : HomeTxn) (p : Packet) (addr : Nat) (again : Bool) (s : State) : State :=
  let s1 := if isReadOp p.opcode then s else t.lines.foldl (fun s l => putEntry l none s) s
  if t.lost then
    let a : Answer := { status := stPoisoned }
    endTxn t.id (if again then sendResponse .module p a.status [] 0 s1 else endAccess .module p a s1)
  else
    let r := moduleApply p addr .ddr false s1
    endTxn t.id (if again then sendResponse .module p r.1.status r.1.payload r.1.opx r.2 else endAccess .module p r.1 r.2)

/-- A line lies in a region that is being cleared. -/
def lineClearing (line : Nat) (s : State) : Bool := s.m.dir.clearing.any fun c => decide (regionOf line s = some c.1)

/-- A region that is being cleared has no cached line left: the register write completes (R271). -/
def settleRegions (s : State) : State :=
  s.m.dir.clearing.foldl (fun s c =>
    if (s.m.dir.entries.any fun (x : Nat × DirEntry) => decide (regionOf x.1 s = some c.1)) then s
    else
      let s1 := onDir (fun d => { d with clearing := d.clearing.erase c }) s
      let s2 := if c.2.2 then s1.wrb .module Fld.dirRegionCoherent c.1 false else s1
      if c.2.1 then s2.wrb .module Fld.dirRegionValid c.1 false else s2) s

/-- A transaction whose snoops are all answered. -/
def finishTxn (t : HomeTxn) (s : State) : State :=
  match t.use with
  | .request _ r p =>
    let line := p.offset.toNat / 64
    if !t.mayHold then finishNc t p line s
    else if p.opcode = 0x20 then finishRead t r p line s
    else finishOwn t r p line (decide (p.opcode = 0x22) && (match dirEntry line s with
      | some e => mayUpgrade r e
      | none => false)) s
  | .access _ p addr again => finishAccess t p addr again s
  | .evict => endTxn t.id (t.lines.foldl (fun s l => putEntry l none s) s)
  | .region => settleRegions (endTxn t.id (t.lines.foldl (fun s l => putEntry l none s) s))

/-- Opens a transaction: its lines are blocked, its snoops leave; one that needs none goes on at once. -/
def openTxn (use : HomeUse) (lines : List Nat) (tseq : BitVec 24) (mayHold : Bool) (snoops : List HomeSnoop) (s : State) : State :=
  let t : HomeTxn := { id := s.m.dir.nextTxn, use := use, lines := lines, tseq := tseq, snoops := snoops, mayHold := mayHold }
  let s1 := sendSnoops snoops (onDir (fun d => { d with nextTxn := d.nextTxn + 1, txns := d.txns ++ [t] }) s)
  if snoops.isEmpty then finishTxn t s1 else s1

/-- A TSEQ of the home's own counter (R252). -/
def homeTseq (s : State) : BitVec 24 × State := (s.m.dir.tseq, onDir (fun d => { d with tseq := d.tseq + 1 }) s)

/-- The snoop of SNP_SHARED or SNP_CUR to the FO holder. -/
def foSnoop (op : BitVec 8) (line : Nat) (e : DirEntry) (tseq : BitVec 24) (word : Nat) (s : State) : List HomeSnoop :=
  match e.fo with
  | some h => [snoopOne op line h tseq word true s]
  | none => []

/-- Starts RD_SHARED, RD_OWN or UPGRADE (R254). -/
def startRequest (port r : Nat) (p : Packet) (s : State) : State :=
  let line := p.offset.toNat / 64
  let use : HomeUse := .request port r p
  let word := fun keep home => snoopWord (some p.src) true keep home false
  if !inScope port r p s then
    let snoops := match dirEntry line s with
      | some e => if 2 ≤ e.state then foSnoop 0x32 line e p.xseq (snoopWord none false false false false) s else []
      | none => []
    openTxn use [line] p.xseq false snoops s
  else match dirEntry line s with
    | none => openTxn use [line] p.xseq true [] s
    | some e =>
      if p.opcode = 0x20 then
        openTxn use [line] p.xseq true
          (if e.state = 1 then foSnoop 0x30 line e p.xseq (word false false) s
           else if ownedMode line s then foSnoop 0x30 line e p.xseq (word true false) s
           else foSnoop 0x30 line e p.xseq (word false true) s) s
      else if p.opcode = 0x22 ∧ mayUpgrade r e = true then
        openTxn use [line] p.xseq true (invSnoops 0x31 line e p.xseq (some (r, p.src)) false s) s
      else openTxn use [line] p.xseq true (invSnoops 0x31 line e p.xseq (some (r, p.src)) true s) s

/-- Starts an access of R248. -/
def startAccess (port : Nat) (p : Packet) (addr : Nat) (again : Bool) (s : State) : State :=
  let lines := accessLines p s
  let q := homeTseq s
  let snoops := lines.flatMap fun l => match dirEntry l q.2 with
    | none => []
    | some e =>
      if isReadOp p.opcode then
        (if 2 ≤ e.state then foSnoop 0x32 l e q.1 (snoopWord none false false false false) q.2 else [])
      else invSnoops 0x33 l e q.1 none false q.2
  openTxn (.access port p addr again) lines q.1 true snoops q.2

/-- A flush names the line's set alone: what is written back counts as a WB from a holder (R266). -/
def flushedSet (line : Nat) (s : State) : Bool := match s.m.dir.flush with
  | some f => decide (f.oneSet = some (homeTile (dirTiles s) line, homeSet (dirTiles s) line))
  | none => false

/-- The sender of a TC2 packet is an endpoint of the leaf's rack in a compute slot (R246): the only ones that entries name. -/
def fromSlot (p : Packet) (s : State) : Bool :=
  isEndpointEid p.src && decide (eidRack p.src = eidIndex (s.myEid .module)) && decide (eidSlot p.src < 64)

/-- WB of a line (R254, R258); after a WARM reset one of recovery is written although no entry names it (R543). -/
def takeWb (slot : Nat) (p : Packet) (s : State) : State :=
  let line := p.offset.toNat / 64
  let rec0 := (homeTile (dirTiles s) line, slot, p.xseq)
  if !fromSlot p s then sendCmp p.src p.xseq (64 * line) true s
  else if s.m.dir.stale.contains rec0 then
    sendCmp p.src p.xseq (64 * line) true (bump .module .dirStaleWbCnt 0 (onDir (fun d => { d with stale := d.stale.erase rec0 }) s))
  else match dirEntry line s with
    | some e =>
      if 2 ≤ e.state ∧ e.fo = some slot then
        let rest : Option DirEntry := if e.ptrs.isEmpty && !e.ovf then none else some { e with state := 1, fo := none }
        sendCmp p.src p.xseq (64 * line) false (putEntry line rest (homeWrite line p.payload s))
      else sendCmp p.src p.xseq (64 * line) true s
    | none =>
      if flushedSet line s || (p.opx.getLsbD 1 && !s.m.dir.owed.isEmpty) then
        sendCmp p.src p.xseq (64 * line) false (homeWrite line p.payload s)
      else sendCmp p.src p.xseq (64 * line) true s

/-- EVICT of a line (R254). -/
def takeEvict (slot : Nat) (p : Packet) (s : State) : State :=
  let line := p.offset.toNat / 64
  let s1 := match dirEntry line s with
    | some e => if fromSlot p s then putEntry line (dropSlot slot e) s else s
    | none => s
  sendCmp p.src p.xseq (64 * line) false s1

/-- The directory has no free way for a new entry of a line (R259). -/
def setFull (line : Nat) (s : State) : Bool :=
  let t := dirTiles s
  (dirEntry line s).isNone && decide (12 ≤ (s.m.dir.entries.filter fun (x : Nat × DirEntry) =>
    decide (homeTile t x.1 = homeTile t line) && decide (homeSet t x.1 = homeSet t line)).length)

/-- The eviction that makes room: the least recently used way whose line is not blocked (R259). -/
def evictWay (line : Nat) (s : State) : State :=
  let t := dirTiles s
  let ways := s.m.dir.entries.filter fun (x : Nat × DirEntry) =>
    decide (homeTile t x.1 = homeTile t line) && decide (homeSet t x.1 = homeSet t line) && !lineBlocked x.1 s
  match ways with
  | [] => s
  | w :: l =>
    let v := l.foldl (fun (b x : Nat × DirEntry) => if x.2.used < b.2.used then x else b) w
    let q := homeTseq s
    openTxn .evict [v.1] q.1 true (invSnoops 0x33 v.1 v.2 q.1 none false q.2) (bump .module .dirBinvCnt 0 q.2)

/-- Requests that a tile accepts while its stale table is full (R258). -/
def staleExempt (u : HomeUse) : Bool := match u with
  | .request _ _ p => p.opcode = 0x23 || p.opcode = 0x24 || p.opcode = 0x26
  | _ => false

/-- A use of the home cannot start now (R253, R257, R258, R264, R266); `ahead`: uses queued before it. -/
def homeWaits (u : HomeUse) (ahead : List HomeUse) (s : State) : Bool :=
  let lines := useLines u s
  let t := dirTiles s
  (s.m.dir.flush.isSome && !staleExempt u) || (!lines.isEmpty && !s.m.dir.scanning.isEmpty)
    || (!staleExempt u && lines.any fun l => lineClearing l s)
    || lines.any (fun l => lineBlocked l s || ahead.any (fun v => (useLines v s).contains l)
      || decide (256 ≤ (s.m.dir.txns.filter fun x => x.lines.any fun y => decide (homeTile t y = homeTile t l)).length))
    || (!staleExempt u && lines.any fun l => decide (512 ≤ (s.m.dir.stale.filter fun (x : Nat × Nat × BitVec 24) =>
        decide (x.1 = homeTile t l)).length))

/-- A TC2 request needs a directory entry. -/
def needsEntry (u : HomeUse) (s : State) : Bool := match u with
  | .request port r p => (p.opcode = 0x20 || p.opcode = 0x21 || p.opcode = 0x22) && inScope port r p s
  | _ => false

/-- Makes a way for a line that a queued request needs, one for each such request of its set (R259). -/
def makeEntry (line : Nat) (s : State) : State :=
  let t := dirTiles s
  let same := fun (x : Nat) => decide (homeTile t x = homeTile t line) && decide (homeSet t x = homeSet t line)
  let under := (s.m.dir.txns.filter fun x => decide (x.use = .evict) && x.lines.any same).length
  let need := (s.m.dir.queue.filter fun u => needsEntry u s && (useLines u s).any fun x => same x && (dirEntry x s).isNone).length
  if under < need then evictWay line s else s

/-- Starts a use of the home that need not wait. -/
def startUse (u : HomeUse) (s : State) : State :=
  match u with
  | .request port r p => if p.opcode = 0x23 then takeWb r p s else if p.opcode = 0x24 then takeEvict r p s else startRequest port r p s
  | .access port p addr again => startAccess port p addr again s
  | .evict => s
  | .region => s

/-- A use of the home arrives: it starts, or waits in its tile in arrival order (R257, R259). -/
def submitHome (u : HomeUse) (s : State) : State :=
  if homeWaits u s.m.dir.queue s then onDir (fun d => { d with queue := d.queue ++ [u] }) s
  else match useLines u s with
    | l :: _ =>
      if needsEntry u s && setFull l s then makeEntry l (onDir (fun d => { d with queue := d.queue ++ [u] }) s)
      else startUse u s
    | [] => startUse u s

/-- The first use that waits for a line and may start now. -/
def nextFor (line : Nat) (s : State) : List HomeUse → List HomeUse → Option HomeUse
  | _, [] => none
  | ahead, u :: l =>
    if (useLines u s).contains line then (if homeWaits u ahead s then none else some u) else nextFor line s (ahead ++ [u]) l

/-- The next request that waits for an unblocked line is served (R257). -/
def serveLine (line : Nat) (s : State) : State :=
  match nextFor line s [] s.m.dir.queue with
  | none => s
  | some u =>
    if needsEntry u s && setFull line s then makeEntry line s
    else startUse u (onDir (fun d => { d with queue := d.queue.erase u }) s)

/-- The back-invalidation of a line of a region that is being cleared starts once the line is not blocked (R271). -/
def clearLine (line : Nat) (s : State) : State :=
  match dirEntry line s with
  | some e =>
    if lineClearing line s && !lineBlocked line s then
      let q := homeTseq s
      openTxn .region [line] q.1 true (invSnoops 0x33 line e q.1 none false q.2) q.2
    else s
  | none => s

/-- A write clears VALID or COHERENT of a region: its cached lines are back-invalidated first (R271). -/
def clearRegion (n : Nat) (valid coherent : Bool) (s : State) : State :=
  let s1 := onDir (fun d => { d with clearing := d.clearing ++ [(n, valid, coherent)] }) s
  settleRegions ((s.m.dir.entries.map fun (x : Nat × DirEntry) => x.1).foldl (fun s l => clearLine l s) s1)

/-- Every request that waits tries to start, in arrival order (R264, R266). -/
def serveAll (s : State) : State :=
  (s.m.dir.queue.flatMap fun u => (useLines u s).take 1).foldl (fun s l => serveLine l s) s

/-! ## Snoop responses (R254, R258) -/

/-- The snoop of a transaction that a response answers: the unicast copy before the broadcast (R255). -/
def answeredSnoop (t : HomeTxn) (slot line : Nat) : Option HomeSnoop :=
  let mine := t.snoops.filter fun x => !x.done && decide (x.slot = slot) && decide (x.pkt.offset.toNat / 64 = line)
  match mine.find? fun x => !x.broadcast with
  | some x => some x
  | none => mine.head?

/-- Marks one unanswered snoop of a list done. -/
def markDone (x : HomeSnoop) : List HomeSnoop → List HomeSnoop
  | [] => []
  | y :: l => if y = x then { y with done := true } :: l else y :: markDone x l

/-- A snoop of a transaction is answered with a new state and FWD_DONE. -/
def answerSnoop (t : HomeTxn) (x : HomeSnoop) (state : Nat) (fwd lost : Bool) (s : State) : State :=
  let t1 := { t with
    snoops := markDone x t.snoops
    forwarded := t.forwarded || (x.forward && fwd)
    foState := if x.forward then state else t.foState
    lost := t.lost || lost }
  if t1.snoops.all fun y => y.done then finishTxn t1 (putTxn t1 s) else putTxn t1 s

/-- A SNP_RSP for a transaction (R254, R258). -/
def takeSnoopRsp (slot : Nat) (p : Packet) (s : State) : State :=
  let line := p.offset.toNat / 64
  let s1 := if p.opx.getLsbD 5 then
      onDir (fun d => { d with stale := d.stale ++ [(homeTile (dirTiles s) line, slot, (p.opx >>> 8).setWidth 24)] }) s
    else s
  let s2 := if p.opx.getLsbD 3 then homeWrite line p.payload s1 else s1
  match s2.m.dir.txns.find? fun t => decide (t.tseq = p.xseq) && t.lines.contains line && (answeredSnoop t slot line).isSome with
  | none => s2
  | some t =>
    match answeredSnoop t slot line with
    | some x => answerSnoop t x (p.opx.toNat % 8) (p.opx.getLsbD 4) false s2
    | none => s2

/-! ## Checks of a TC2 request (R247) -/

/-- The checks of R222 with the rights of R247: the status that fails, or none. -/
def checkTc2 (p : Packet) (s : State) : Option Status × State :=
  let off := p.offset.toNat / 64 * 64
  let bad := fun (st : Status) (r : Reg) => (some st, bump .module r 0 s)
  if p.opcode = 0x24 ∨ p.opcode = 0x25 ∨ p.opcode = 0x26 then (none, s)
  else if poolPlace off s ≠ some .ddr ∨ s.rdb .module Fld.dirPoolCtlEn = false then bad stNoWindow .memNoWindowCnt
  else match findWindow .module off (off + 63) s with
    | none => bad stNoWindow .memNoWindowCnt
    | some w =>
      if s.rd .module Fld.memWinKeyIndex w ≠ p.keyIndex.toNat ∨ s.rd .module Fld.memWinKeyEpoch w ≠ p.keyEpoch.toNat then
        bad stAccessDenied .memDenyKeyCnt
      else if s.rd .module Fld.memWinDclass w ≠ p.dclass.toNat then bad stAccessDenied .memDenyClassCnt
      else if (if p.opcode = 0x20 then s.rdb .module Fld.memWinRead w else s.rdb .module Fld.memWinWrite w) then (none, s)
      else bad stAccessDenied .memDenyRightsCnt

/-- A request of TC2 at the home (R247, R254). -/
def takeTc2 (port : Nat) (p : Packet) (s : State) : State :=
  if !pchkGood p then sendGo p.src p.xseq p.offset.toNat 0 stCheckFail s
  else match checkTc2 p s with
    | (some st, s1) => sendGo p.src p.xseq p.offset.toNat 0 st s1
    | (none, s1) =>
      let slot := eidSlot p.src
      if (p.opcode = 0x21 ∨ p.opcode = 0x22) ∧ inScope port slot p s1 = false then
        sendGo p.src p.xseq p.offset.toNat 0 stAccessDenied s1
      else submitHome (.request port slot p) s1

/-! ## Recovery, dead holders and flushes (R263 to R266) -/

/-- A transaction ends as though its ACK had arrived (R263 step 2); one that still waits for snoops ends once they are answered and its
grant is recorded. -/
def endGranted (t : HomeTxn) (s : State) : State := if t.granted.isSome then endTxn t.id s else putTxn { t with recovered := true } s

/-- The transactions in which a slot of the rack is the requester. -/
def requestedBy (slot : Nat) (s : State) : List HomeTxn := s.m.dir.txns.filter fun t => match t.use with
  | .request _ _ p => decide (p.src = slotEid slot s)
  | _ => false

/-- The unanswered snoops to a slot leave again (R263). -/
def resendSnoops (slot : Nat) (s : State) : State :=
  s.m.dir.txns.foldl (fun s t => (t.snoops.filter fun x => !x.done && decide (x.slot = slot)).foldl (fun s x =>
    sendOwn (if x.broadcast then sealPacket { x.pkt with dst := slotEid slot s } else x.pkt) s) s) s

/-- SNP_FLUSH with its T, tile and set (R252). -/
def flushPacket (dst : Eid) (tseq : BitVec 24) (tiles tile set : Nat) (all : Bool) (s : State) : Packet :=
  leafPacket dst 0x34 tseq (tiles * 2 ^ 22 + tile * 2 ^ 13 + set) (snoopWord none false false false all) stOk [] s

/-- Coherence recovery runs at the leaf (R263 steps 1 to 3): recorded and counted. -/
def leafRecovery (slot : Nat) (s : State) : State :=
  if s.m.dir.recovery.any fun r => decide (r.slot = slot) then s
  else
    let s1 := logModule { code := 0x30, severity := 1, block := 8, eid := some (slotEid slot s), arg0 := slot }
      (bump .module .dirRecoverCnt 0 (onDir (fun d => { d with recovery := d.recovery ++ [{ slot := slot, startedAt := s.now }] }) s))
    let s2 := (requestedBy slot s1).foldl (fun s t => endGranted t s) s1
    let q := homeTseq (resendSnoops slot s2)
    sendOwn (flushPacket (slotEid slot q.2) q.1 (dirTiles q.2) 0 0 true q.2) q.2

/-- A slot's hold on an entry is gone: a line it held in M or O is poisoned (R263), in M, O or E after its death (R264). -/
def loseSlot (slot : Nat) (s : State) (line : Nat) : State :=
  match dirEntry line s with
  | none => s
  | some e =>
    let s1 := if 2 ≤ e.state ∧ e.fo = some slot then markPoison (lineAddr line s / 64) s else s
    if (holders e).contains slot then putEntry line (dropSlot slot e) s1 else s1

/-- RECOVER_DONE (R263 step 6). -/
def takeRecoverDone (slot : Nat) (p : Packet) (s : State) : State :=
  let before := bitsOf (s.word .module .dirPoisonCnt 0 0) 47 0
  let s1 := (s.m.dir.entries.map fun (x : Nat × DirEntry) => x.1).foldl (loseSlot slot) s
  let n := bitsOf (s1.word .module .dirPoisonCnt 0 0) 47 0 - before
  let s2 := if s.m.dir.recovery.any fun r => decide (r.slot = slot) then
      logModule { code := 0x31, severity := 1, block := 8, eid := some p.src, arg0 := slot, arg1 := n }
        (onDir (fun d => { d with recovery := d.recovery.filter fun r => decide (r.slot ≠ slot) }) s1)
    else s1
  sendCmp p.src p.xseq p.offset.toNat false (onDir (fun d => { d with owed := d.owed.filter (· ≠ slot) }) s2)

/-- The entry of a line names a slot as its M, E or O holder. -/
def ownsLine (slot line : Nat) (s : State) : Bool := match dirEntry line s with
  | some e => decide (2 ≤ e.state) && decide (e.fo = some slot)
  | none => false

/-- The snoops a dead slot has not answered count as answered with I; where it held the line, its data is lost (R264). -/
def answerForDead (slot : Nat) (fuel : Nat) (s : State) : State :=
  match fuel with
  | 0 => s
  | fuel + 1 =>
    match s.m.dir.txns.findSome? fun t => (t.snoops.find? fun x => !x.done && decide (x.slot = slot)).map fun x => (t, x) with
    | none => s
    | some (t, x) => answerForDead slot fuel (answerSnoop t x 0 false (ownsLine slot (x.pkt.offset.toNat / 64) s) s)

/-- The requester has been granted M, or a holder forwards the line to it in M (R264). -/
def grantsDirty (t : HomeTxn) : Bool := decide (t.granted = some 4) || (match t.use with
  | .request _ _ p => decide (p.opcode ≠ 0x20) && t.granted.isNone && (t.forwarded || t.snoops.any fun x => x.forward && !x.done)
  | _ => false)

/-- A caching endpoint is dead or quarantined (R264): its transactions end, with the line poisoned where M was granted, its
snoops count as answered, its stale records go, and the scan of the entries begins. -/
def leafLosesSlot (slot : Nat) (s : State) : State :=
  let s1 := (requestedBy slot s).foldl (fun s t =>
    endTxn t.id (if grantsDirty t then t.lines.foldl (fun s l => markPoison (lineAddr l s / 64) s) s else s)) s
  let s2 := answerForDead slot (s1.m.dir.txns.map fun t => t.snoops.length).sum s1
  onDir (fun d => { d with
    stale := d.stale.filter fun (x : Nat × Nat × BitVec 24) => decide (x.2.1 ≠ slot)
    recovery := d.recovery.filter fun r => decide (r.slot ≠ slot)
    scanning := if d.scanning.contains slot then d.scanning else d.scanning ++ [slot] }) s2

/-- The scan of R264 for a slot: every entry it holds. -/
def scanSlot (slot : Nat) (s : State) : State :=
  onDir (fun d => { d with scanning := d.scanning.filter (· ≠ slot) })
    ((s.m.dir.entries.map fun (x : Nat × DirEntry) => x.1).foldl (loseSlot slot) s)

/-- A flush ends: the directory, or the set, is rebuilt empty, and requests are served under T (R266); a role change that waited for it
completes (R449). -/
def endFlush (f : DirFlush) (s : State) : State :=
  let t := dirTiles s
  let keep := fun (x : Nat × DirEntry) => match f.oneSet with
    | some (k, set) => !(decide (homeTile t x.1 = k) && decide (homeSet t x.1 = set))
    | none => false
  let s1 := onDir (fun d => { d with flush := none, entries := d.entries.filter keep }) s
  let s2 := ((s1.wr .module Fld.dirStatusTiles 0 f.tiles).wr .module Fld.dirStatusEntries 0 (f.tiles * 98304)).wrb .module Fld.dirStatusFlushing 0 false
  match s2.m.tile.change with
  | some c => if f.oneSet.isNone ∧ (c.role = 1 ∨ tileRole c.tile s2 = 1) then finishChange s2 else s2
  | none => s2

/-- The flush that a new one becomes where one is under way already: everything unless both name the same set. -/
def joinFlush (tiles : Nat) (oneSet : Option (Nat × Nat)) (s : State) : Nat × Option (Nat × Nat) :=
  match s.m.dir.flush with
  | none => (tiles, oneSet)
  | some f => (if oneSet.isSome then f.tiles else tiles, if f.oneSet = oneSet then oneSet else none)

/-- Starts SNP_FLUSH of every line, or of one set, to the rack (R266); it ends at once where no slot can answer. -/
def startFlush (tiles : Nat) (oneSet : Option (Nat × Nat)) (s : State) : State :=
  let j := joinFlush tiles oneSet s
  let q := homeTseq s
  let f : DirFlush := { waiting := broadcastSlots q.2, tseq := q.1, tiles := j.1, oneSet := j.2 }
  let p := match j.2 with
    | some (t, k) => flushPacket (groupEid 2 (eidIndex (s.myEid .module))) q.1 j.1 t k false q.2
    | none => flushPacket (groupEid 2 (eidIndex (s.myEid .module))) q.1 j.1 0 0 true q.2
  let s1 := sendOwn p ((onDir (fun d => { d with flush := some f }) q.2).wrb .module Fld.dirStatusFlushing 0 true)
  if f.waiting.isEmpty then serveAll (endFlush f s1) else s1

/-- A slot has answered a flush. -/
def flushAnswered (slot : Nat) (s : State) : State :=
  match s.m.dir.flush with
  | none => s
  | some f =>
    let f1 := { f with waiting := f.waiting.filter (· ≠ slot) }
    if f1.waiting.isEmpty then serveAll (endFlush f1 s) else onDir (fun d => { d with flush := some f1 }) s

end Sys2Proof.Machine
end

