-- ==== Sys2Proof/Machine/MemPort.lean ====
section
/-! DEFINITION. The endpoint block's side of the core port's MQ and MR channels (R360 to R362): requests, MTAGs, and
transactions of several requests. -/

namespace Sys2Proof.Machine

/-- MTAGs in use: requests without an answer, locks held, and tags of requests that timed out (R360, R362). -/
def mtagBusy (t : Nat) (e : EndpointState) : Bool :=
  (smapGet? e.mqOut t).isSome || e.mqDead.contains t || e.mqLocked.contains t

/-- The lowest free MTAG: half × 4,096 + MTAG. -/
def freeMtag (e : EndpointState) : Option Nat :=
  findBelow 8192 fun t => !mtagBusy t e

/-- One request leaves on MQ under a tag. -/
def emitMq (t : Nat) (r : MqReq) (s : State) : State :=
  (s.emit .endpoint (.mq (t / 4096) (t % 4096) r.op r.addr r.size r.poison r.data)).onE fun e => { e with
    mqOut := smapSet e.mqOut t (r.txn, r.part)
    mqLocked := if r.op = .readLock then e.mqLocked ++ [t] else if r.lockTag.isSome then e.mqLocked.filter (· ≠ t) else e.mqLocked }

/-- Requests that wait leave, in order, while MTAGs are free; a release uses the tag of its lock (R361). -/
def pumpMq : Nat → State → State
  | 0, s => s
  | fuel + 1, s =>
    match s.e.mqWait with
    | [] => s
    | r :: l =>
      match r.lockTag with
      | some t => pumpMq fuel (emitMq t r (s.onE fun e => { e with mqWait := l }))
      | none =>
        match freeMtag s.e with
        | some t => pumpMq fuel (emitMq t r (s.onE fun e => { e with mqWait := l }))
        | none => s

/-- A transaction of requests begins. Each request: operation, address, size, data. -/
def startTxnWith (cont : MemCont) (poison : Bool) (lockTag : Option Nat) (parts : List (MqOp × Nat × Nat × List Byte)) (s : State) :
    State :=
  let id := s.e.nextTxn
  let reqs := (List.range parts.length).filterMap fun i => (parts[i]?).map fun (p : MqOp × Nat × Nat × List Byte) =>
    ({ op := p.1, addr := p.2.1, size := p.2.2.1, data := p.2.2.2, poison := poison, txn := id, part := i, lockTag := lockTag } : MqReq)
  let s1 := s.onE fun e => { e with
    nextTxn := id + 1
    txns := e.txns ++ [{ id := id, cont := cont, answers := parts.map fun _ => none }]
    mqWait := e.mqWait ++ reqs }
  pumpMq (s1.e.mqWait.length) s1

/-- Pieces of at most 256 bytes (R360). -/
def pieces (a n : Nat) : List (Nat × Nat) :=
  (List.range ((n + 255) / 256)).map fun i => (a + 256 * i, min 256 (n - 256 * i))

/-- Reads bytes of accelerator memory. -/
def memLoad (cont : MemCont) (a n : Nat) (s : State) : State :=
  startTxnWith cont false none ((pieces a n).map fun x => (MqOp.read, x.1, x.2, [])) s

/-- Writes bytes of accelerator memory. -/
def memStore (cont : MemCont) (poison : Bool) (a : Nat) (data : List Byte) (s : State) : State :=
  startTxnWith cont poison none ((pieces a data.length).map fun x => (MqOp.write, x.1, x.2, slice data (x.1 - a) x.2)) s

/-- An MR status: any code but those of R360 is taken as INTERNAL (R361). -/
def mrStatus (st : Status) : Status :=
  if st = stOk ∨ st = stPoisoned ∨ st = stAccessDenied then st else stInternal

/-- Takes the answer of one request: the transaction's continuation with all answers, where this was the last. -/
def takeAnswer (t : Nat) (st : Status) (data : List Byte) (s : State) : Option (MemCont × List (Status × List Byte)) × State :=
  match smapGet? s.e.mqOut t with
  | none => (none, s)
  | some (id, part) =>
    let s1 := s.onE fun e => { e with
      mqOut := smapErase e.mqOut t
      txns := e.txns.map fun x => if x.id = id then { x with answers := x.answers.set part (some (st, data)) } else x }
    match s1.e.txns.find? fun x => decide (x.id = id) with
    | none => (none, s1)
    | some x =>
      if x.answers.all fun a => a.isSome then
        (some (x.cont, x.answers.filterMap fun a => a), s1.onE fun e => { e with txns := e.txns.filter fun y => decide (y.id ≠ id) })
      else (none, s1)

/-- The status of a whole transaction: the first in the order of R14, and its data. -/
def txnStatus (l : List (Status × List Byte)) : Status :=
  (reportStatus ((l.map fun a => a.1).filter fun x => decide (x ≠ stOk))).1

/-- The data of a whole transaction. -/
def txnData (l : List (Status × List Byte)) : List Byte := l.flatMap fun a => a.2

/-! ## XR completions (R359) -/

/-- A completion on XR. -/
def xrDone (ctx atag : Nat) (st : Status) (outcome : Nat) (cas replayed : Bool) (grant : Nat) (data : List Byte) (s : State) : State :=
  s.emit .endpoint (.xr (ctx / 32) atag st outcome cas replayed grant data)

/-- A completion that carries nothing but a status: APPLIED with OK, else NOT_APPLIED. -/
def xrStatus (ctx atag : Nat) (st : Status) (s : State) : State :=
  xrDone ctx atag st (if st = stOk then outApplied else outNotApplied) false false 0 [] s

end Sys2Proof.Machine
end

