-- ==== Sys2Proof/Machine/CacheOps.lean ====
section
/-! DEFINITION. The fabric line cache of the endpoint block (R237, R369 to R374), its TC2 requests (R253) and its answers to
snoops (R256). -/

namespace Sys2Proof.Machine

/-! ## Lines of the cache (R369) -/

/-- Line address of a GFA, and its parts. -/
def gfaLine (gfa : Nat) : Nat := gfa / 64
def lineEid (line : Nat) : Eid := BitVec.ofNat 20 (line / 2 ^ 38)
def lineOff (line : Nat) : Nat := line % 2 ^ 38 * 64

/-- The coherent range a GFA lies in (R370). -/
def cohRange (gfa : Nat) (s : State) : Option Nat :=
  findBelow 16 fun r => s.rdb .endpoint Fld.fxeCohValid r && decide (s.rd .endpoint Fld.fxeCohLeafEid r = gfa / 2 ^ 44)
    && decide (s.rd .endpoint Fld.fxeCohBase r ≤ gfa % 2 ^ 44 / 2 ^ 21) && decide (gfa % 2 ^ 44 / 2 ^ 21 ≤ s.rd .endpoint Fld.fxeCohLimit r)

/-- A line of the cache. -/
def cached (line : Nat) (s : State) : Option CacheLine := s.e.cache.find? fun c => decide (c.line = line)

/-- A line removed. -/
def dropLine (line : Nat) (s : State) : State := s.onE fun e => { e with cache := e.cache.filter fun c => decide (c.line ≠ line) }

/-- A line written, as the most recently used. -/
def putLine (c : CacheLine) (s : State) : State :=
  (dropLine c.line s).onE fun e => { e with clock := e.clock + 1, cache := e.cache ++ [{ c with used := e.clock }] }

/-- Bytes of a line replaced. -/
def patch (data : List Byte) (o : Nat) (v : List Byte) : List Byte := data.take o ++ v ++ data.drop (o + v.length)

/-- Loads in flight that a test picks fill no line any more. -/
def spoilFills (hit : Packet → Bool) (s : State) : State :=
  let l := ((s.xpt .endpoint).ops.filter fun o => decide (o.pkt.opcode = 0x60) && hit o.pkt).map fun o => o.id
  s.onE fun e => { e with noFill := e.noFill ++ l.filter fun i => !e.noFill.contains i }

/-- Every read-mostly line of an EID, or of all, is dropped (R238); what is in flight from there fills none. -/
def dropReadMostly (e : Option Eid) (s : State) : State :=
  (spoilFills (fun p => match e with
    | some d => decide (p.dst = d)
    | none => true) s).onE fun x => { x with cache := x.cache.filter fun c => !(c.readMostly && (match e with
    | some d => decide (lineEid c.line = d)
    | none => true)) }

/-! ## TC2 requests (R252, R253) -/

/-- A TC2 packet of the block. -/
def epTc2 (dst : Eid) (plane : Bool) (op : BitVec 8) (tseq : BitVec 24) (off opx : Nat) (st : Status) (data : List Byte)
    (key : Nat × Nat) (s : State) : Packet :=
  sealPacket { tc2Packet .endpoint dst plane op tseq off opx st data s with
    keyIndex := BitVec.ofNat 13 key.1, keyEpoch := BitVec.ofNat 4 key.2 }

/-- Incomplete TC2 requests towards a leaf. -/
def cohCount (leaf : Eid) (s : State) : Nat := (s.e.coh.filter fun c => decide (c.leaf = leaf)).length

/-- Sends a TC2 request to a leaf, numbered by TSEQ (R252). -/
def sendTc2 (leaf : Eid) (line : Nat) (op : BitVec 8) (opx : Nat) (data : List Byte) (key : Nat × Nat) (atag : Option (Nat × Nat))
    (s : State) : State :=
  let t := smapGet s.e.nextTseq 0 leaf.toNat
  let c : CohReq := { tseq := t, leaf := leaf, line := line, op := op, wb := data, atag := atag, key := key, sentAt := s.now }
  sendFrom .endpoint (epTc2 leaf (eidPlane leaf) op t (lineOff line) opx stOk data key s)
    (s.onE fun e => { e with nextTseq := smapSet e.nextTseq leaf.toNat (t + 1), coh := e.coh ++ [c] })

/-- The mirror STORE of a line that goes home (R267, R374). -/
def mirrorLine (line : Nat) (data : List Byte) (key : Nat × Nat) (s : State) : State :=
  match cohRange (64 * line) s with
  | some r =>
    if s.rdb .endpoint Fld.fxeCohMirror r then
      issueOp .endpoint none (.mirror r) true
        { dst := lineEid line ^^^ 0x8000, src := s.myEid .endpoint, opcode := 0x62, tc := 3, plane := false
          stream := BitVec.ofNat 4 (1 + line % 16 % 15), keyIndex := BitVec.ofNat 13 key.1, keyEpoch := BitVec.ofNat 4 key.2
          offset := BitVec.ofNat 44 (lineOff line), payload := data } s
    else s
  | none => s

/-- WB of a line to its leaf: the write-back buffer holds it until CMP (R253, R256). -/
def sendWb (c : CacheLine) (recovery : Bool) (s : State) : State :=
  mirrorLine c.line c.data c.key
    (sendTc2 (lineEid c.line) c.line 0x23 (b2n recovery * 2 + b2n (decide (c.state = 5))) c.data c.key none s)

/-- A line without a copy in the accelerator's caches leaves the cache as a victim (R373). -/
def evictLine (c : CacheLine) (s : State) : State :=
  let s1 := dropLine c.line s
  if c.readMostly then s1
  else if c.state = 4 ∨ c.state = 5 then sendWb c false s1
  else if c.state = 3 then sendTc2 (lineEid c.line) c.line 0x24 3 [] c.key none s1
  else s1

/-- The lowest STAG that no snoop on SQ uses. -/
def freeStag (s : State) : Nat := freeFrom (s.e.snoops.map fun x => x.stag) s.e.snoops.length 0

/-- A snoop leaves on SQ (R372); one for the same line and use is not repeated. -/
def sendSq (sop line : Nat) (use : SnoopUse) (s : State) : State :=
  if s.e.snoops.any fun x => decide (x.line = line) && decide (x.use = use) then s
  else
    let t := freeStag s
    (s.emit .endpoint (.sq t sop (64 * line))).onE fun e => { e with
      snoops := e.snoops ++ [{ stag := t, sop := sop, line := line, use := use, sentAt := s.now }] }

/-- Ways of a line's set in use, or promised to a request under way (R369). -/
def setUsed (line : Nat) (s : State) : Nat :=
  (s.e.cache.filter fun c => decide (c.line % 8192 = line % 8192)).length
    + (s.e.coh.filter fun c => decide (c.line % 8192 = line % 8192) && (c.op = 0x20 || c.op = 0x21) && (cached c.line s).isNone).length

/-- Makes a way for a line free: the least recently used line of its set goes, after an SQ INV where the accelerator holds it
(R373). -/
def makeWay (line : Nat) (s : State) : State :=
  if setUsed line s < 16 then s
  else match s.e.cache.filter fun c => decide (c.line % 8192 = line % 8192) with
    | [] => s
    | c :: l =>
      let v := l.foldl (fun b x => if x.used < b.used then x else b) c
      if v.accel ≠ 0 then sendSq 0 v.line .victim s else evictLine v s

/-! ## Accesses (R371, R237) -/

/-- The access needs its lines in M. -/
def accOwns (k : AccKind) : Bool := match k with
  | .store => true
  | .cohOwn => true
  | _ => false

/-- Bytes of an access that lie in a line: offset within the line, offset within the access, count. -/
def accPart (a : Acc) (line : Nat) : Nat × Nat × Nat :=
  let lo := max a.gfa (64 * line)
  let hi := min (a.gfa + a.len) (64 * line + 64)
  (lo - 64 * line, lo - a.gfa, hi - lo)

/-- One line of an access served from a copy held in a state that permits it. -/
def serveLineOf (a : Acc) (c : CacheLine) (s : State) : Acc × State :=
  let p := accPart a c.line
  let left := a.left.filter (· ≠ c.line)
  match a.kind with
  | .load => ({ a with data := patch a.data p.2.1 (slice c.data p.1 p.2.2), left := left }, putLine c s)
  | .store => ({ a with left := left }, putLine { c with state := 4, data := patch c.data p.1 (slice a.data p.2.1 p.2.2) } s)
  | .cohRead => ({ a with data := c.data, left := left }, putLine { c with accel := max c.accel 1 } s)
  | .cohOwn => ({ a with data := c.data, left := left }, putLine { c with state := 4, accel := 4 } s)

/-- The copy permits the access: any for a read, E or M for a write (R249). -/
def copyServes (k : AccKind) (c : CacheLine) : Bool :=
  !c.readMostly && (if accOwns k then decide (c.state = 3) || decide (c.state = 4) else true)

/-- An access ends: its completion on XR, with GRANT for the coherent operations (R359, R371). -/
def endAcc (a : Acc) (st : Status) (s : State) : State :=
  let s1 := tellFences .endpoint a.ctx a.id st (s.onE fun e => { e with accs := e.accs.filter fun x => decide (x.id ≠ a.id) })
  let s2 := if a.kind = .load ∧ (st = stTargetDead ∨ st = stTimeout) then raiseVector 0 s1 else s1
  let ok := decide (st = stOk)
  let grant := if !ok then 0 else match a.kind with
    | .cohRead => 1
    | .cohOwn => 4
    | _ => 0
  let data := match a.kind with
    | .store => []
    | .load => if ok then a.data else List.replicate a.len 0xFF
    | _ => if ok then a.data else []
  xrDone a.ctx a.atag st (if ok then outApplied else outNotApplied) false false grant data s2

/-- An access replaced. -/
def putAcc (a : Acc) (s : State) : State := s.onE fun e => { e with accs := e.accs.map fun x => if x.id = a.id then a else x }

/-- Asks the leaf for a line an access needs; nothing while a request for it is under way, the leaf's 256 are taken, or no way is
free (R253, R373). -/
def askLine (a : Acc) (line : Nat) (s : State) : State :=
  if s.e.coh.any (fun c => decide (c.line = line)) || decide (256 ≤ cohCount (lineEid line) s) then s
  else
    let key := (a.pkt.keyIndex.toNat, a.pkt.keyEpoch.toNat)
    match cached line s with
    | some _ => sendTc2 (lineEid line) line 0x22 0 [] key none s
    | none =>
      let s1 := makeWay line s
      if setUsed line s1 < 16 then sendTc2 (lineEid line) line (if accOwns a.kind then 0x21 else 0x20) 0 [] key none s1 else s1

/-- An access in a coherent range: its lines in order, each served or asked for. -/
def serveAcc : List Nat → Acc → State → Acc × State
  | [], a, s => (a, s)
  | l :: rest, a, s =>
    match cached l s with
    | some c =>
      if copyServes a.kind c then
        let r := serveLineOf a c s
        serveAcc rest r.1 r.2
      else if c.readMostly then serveAcc rest a (askLine a l (dropLine l s))
      else serveAcc rest a (askLine a l s)
    | none => serveAcc rest a (askLine a l s)

/-- The load lies within one 64-byte line. -/
def oneLine (gfa len : Nat) : Bool := decide (gfa / 64 = (gfa + len - 1) / 64)

/-- An access leaves the cache for the transport (R237, R371): a LOAD within one line is widened to it; a STORE updates a
read-mostly copy. -/
def leaveCache (a : Acc) (s : State) : State :=
  let s1 := s.onE fun e => { e with accs := e.accs.filter fun x => decide (x.id ≠ a.id) }
  let enter := fun (p : Packet) (skip : Nat) (s : State) =>
    enterOp .endpoint { id := a.id, ctx := some a.ctx, use := .xq a.ctx a.atag skip a.len, pkt := p } s
  match a.kind with
  | .store =>
    let lines := linesOf a.gfa a.len
    let s2 := spoilFills (fun p => decide (p.dst = a.pkt.dst) && lines.contains (p.dst.toNat * 2 ^ 38 + p.offset.toNat / 64)) s1
    enter a.pkt 0 (lines.foldl (fun s l => match cached l s with
      | some c => if c.readMostly then
          putLine { c with data := patch c.data (accPart a l).1 (slice a.data (accPart a l).2.1 (accPart a l).2.2) } s else s
      | none => s) s2)
  | _ =>
    if a.kind = .load ∧ oneLine a.gfa a.len = true then
      enter { a.pkt with offset := BitVec.ofNat 44 (a.gfa / 64 * 64), opx := 63 } (a.gfa % 64) s1
    else enter a.pkt 0 s1

/-- One access tries to go on: not while its context is blocked (R203, R204). Coherent lines are served in stream 0; a load that
hits a read-mostly line completes at once (R237). -/
def stepAcc (id : Nat) (s : State) : State :=
  match s.e.accs.find? fun a => decide (a.id = id) with
  | none => s
  | some a =>
    if ctxBlocked .endpoint a.ctx a.id s then s
    else if s.endpoint.dead.contains a.pkt.dst then endAcc a stTargetDead s
    else if !a.left.isEmpty then
      let r := serveAcc a.left a s
      if r.1.left.isEmpty then endAcc r.1 stOk r.2 else putAcc r.1 r.2
    else if a.kind = .load ∧ oneLine a.gfa a.len = true then
      match cached (a.gfa / 64) s with
      | some c =>
        if c.readMostly then endAcc { a with data := slice c.data (a.gfa % 64) a.len } stOk (putLine c s) else leaveCache a s
      | none => leaveCache a s
    else leaveCache a s

/-- Every access that waits tries again. -/
def stepAccs (s : State) : State := (s.e.accs.map fun a => a.id).foldl (fun s i => stepAcc i s) s

/-- A new access from XQ. -/
def newAcc (kind : AccKind) (ctx atag gfa len : Nat) (pkt : Packet) (data : List Byte) (coherent : Bool) (s : State) : State :=
  let id := (s.xpt .endpoint).nextOp
  let a : Acc := { id := id, kind := kind, ctx := ctx, atag := atag, gfa := gfa, len := len, pkt := pkt, data := data
                   left := if coherent then linesOf gfa len else [] }
  stepAcc id ((s.onXpt .endpoint fun x => { x with nextOp := id + 1 }).onE fun e => { e with accs := e.accs ++ [a] })

/-! ## Answers to TC2 requests (R253) -/

/-- The leaf a TC2 packet belongs to: its sender, or for a forwarded line this rack's leaf on its plane. -/
def tc2Leaf (p : Packet) (s : State) : Eid := if isModuleEid p.src then p.src else leafEid (eidRack (s.myEid .endpoint)) p.plane

/-- The request an answer belongs to. -/
def cohReq (leaf : Eid) (tseq : BitVec 24) (s : State) : Option CohReq :=
  s.e.coh.find? fun c => decide (c.leaf = leaf) && decide (c.tseq = tseq)

/-- A request removed or replaced. -/
def dropCoh (c : CohReq) (s : State) : State := s.onE fun e => { e with coh := e.coh.filter fun x => decide ((x.leaf, x.tseq) ≠ (c.leaf, c.tseq)) }
def putCoh (c : CohReq) (s : State) : State :=
  s.onE fun e => { e with coh := e.coh.map fun x => if (x.leaf, x.tseq) = (c.leaf, c.tseq) then c else x }

/-- The accesses that wait for a line. -/
def waitersOf (line : Nat) (s : State) : List Acc := s.e.accs.filter fun a => a.left.contains line

/-- A request that has ended with a status: the accesses that wait for its line end so. -/
def failReq (c : CohReq) (st : Status) (s : State) : State :=
  (waitersOf c.line s).foldl (fun s a => endAcc a st s) (dropCoh c s)

/-- ACK of a granted request (R253). -/
def sendAckTc2 (c : CohReq) (s : State) : State :=
  sendFrom .endpoint (epTc2 c.leaf (eidPlane c.leaf) 0x43 c.tseq (lineOff c.line) 0 stOk [] c.key s) s

/-- A request is granted: the line is held in the state of the grant, or with NC serves the first access that waits; ACK leaves and
the accesses go on. -/
def grantReq (c : CohReq) (grant : Nat) (data : Option (List Byte)) (s : State) : State :=
  let s1 := sendAckTc2 c (dropCoh c s)
  if grant = 6 then
    match waitersOf c.line s1, data with
    | a :: _, some d =>
      let r := serveLineOf a { line := c.line, state := 6, readMostly := false, data := d, filledAt := s.now, used := 0 } s1
      let s2 := dropLine c.line r.2
      stepAccs (if r.1.left.isEmpty then endAcc r.1 stOk s2 else putAcc r.1 s2)
    | _, _ => stepAccs s1
  else
    let old := cached c.line s1
    let line : CacheLine := {
      line := c.line, state := grant, readMostly := false
      data := match data with
        | some d => fitTo 64 d
        | none => (old.map fun x => x.data).getD (zeros 64)
      filledAt := s.now, used := 0, accel := (old.map fun x => x.accel).getD 0, key := c.key }
    stepAccs (putLine line s1)

/-- A request completes once it has what its opcode needs: DATA; DATA and GO; GO, and DATA where the line was lost (R253, R261). -/
def settleReq (c : CohReq) (s : State) : State :=
  match c.op.toNat, c.data, c.go with
  | 0x20, some (g, st, d), _ => if st = stOk then grantReq c g (some d) s else failReq c st s
  | 0x21, some (_, st, d), some (g, st2) =>
    if st = stOk ∧ st2 = stOk then grantReq c g (some d) s else failReq c (reportStatus [st, st2]).1 s
  | 0x22, some (_, st, d), some (g, st2) =>
    if st = stOk ∧ st2 = stOk then grantReq c g (some d) s else failReq c (reportStatus [st, st2]).1 s
  | 0x22, none, some (g, st) =>
    if st ≠ stOk then failReq c st s
    else match cached c.line s with
      | some _ => grantReq c g none s
      | none => putCoh c s
  | _, some (_, st, _), none => if st ≠ stOk then failReq c st s else putCoh c s
  | _, none, some (_, st) => if st ≠ stOk then failReq c st s else putCoh c s
  | _, _, _ => putCoh c s

/-- DATA arrives (R253); for a request that recovery has aborted, an M grant is written back (R263 step 4). -/
def takeData (p : Packet) (s : State) : State :=
  match cohReq (tc2Leaf p s) p.xseq s with
  | none => s
  | some c =>
    let st := if pchkGood p then receivedStatus p.status else stCheckFail
    if c.aborted then
      let s1 := dropCoh c s
      if st = stOk ∧ p.opx.toNat % 8 = 4 then
        sendWb { line := c.line, state := 4, readMostly := false, data := fitTo 64 p.payload, filledAt := s.now, used := 0, key := c.key } true s1
      else s1
    else settleReq { c with data := some (p.opx.toNat % 8, st, p.payload) } s

/-- The leaf has answered RECOVER_START with NO_WINDOW (R543): its lines are dropped without a write-back, and recovery ends. -/
def dropLeafLines (leaf : Eid) (s : State) : State :=
  let s1 := s.onE fun e => { e with
    cache := e.cache.filter fun c => c.readMostly || decide (lineEid c.line ≠ leaf)
    coh := e.coh.filter fun c => !(decide (c.leaf = leaf) && c.aborted)
    recovery := e.recovery.filter fun r => decide (r.leaf ≠ leaf) }
  raiseVector 6 s1

/-- GO arrives (R253). -/
def takeGo (p : Packet) (s : State) : State :=
  match cohReq (tc2Leaf p s) p.xseq s with
  | none =>
    let leaf := tc2Leaf p s
    if p.status = stNoWindow && s.e.recovery.any fun r => decide (r.leaf = leaf) && decide (r.startTseq = some p.xseq) && !r.done then
      dropLeafLines leaf s
    else s
  | some c =>
    let st := if pchkGood p then receivedStatus p.status else stCheckFail
    if c.aborted then s
    else if c.op = 0x23 ∨ c.op = 0x24 ∨ c.op = 0x26 then dropCoh c s
    else settleReq { c with go := some (p.opx.toNat % 8, st) } s

/-- CMP arrives (R253): a WB leaves the write-back buffer; recovery ends with the CMP of its RECOVER_DONE (R263). -/
def takeCmp (p : Packet) (s : State) : State :=
  match cohReq p.src p.xseq s with
  | none => s
  | some c =>
    let s1 := dropCoh c s
    if c.op = 0x26 then
      raiseVector 6 (s1.onE fun e => { e with recovery := e.recovery.filter fun r => decide (r.leaf ≠ c.leaf) })
    else stepAccs s1

/-! ## Snoops (R256, R372) -/

/-- How a holder answers (R256): forward with a grant, the state it keeps, and dirty data to the home. -/
structure SnoopAnswer where
  forward : Option Nat
  next : Nat
  dirty : Bool
deriving DecidableEq, Repr

/-- The table of R256, for a line in a state. -/
def snoopTable (p : Packet) (state : Nat) : SnoopAnswer :=
  let fwd := p.opx.getLsbD 20
  let keepO := p.opx.getLsbD 21
  let home := p.opx.getLsbD 22
  match p.opcode.toNat, state with
  | 0x30, 4 => if keepO then ⟨some 1, 5, false⟩ else ⟨some 2, 1, home⟩
  | 0x30, 5 => if keepO then ⟨some 1, 5, false⟩ else ⟨some 2, 1, true⟩
  | 0x30, 3 => ⟨some 2, 1, false⟩
  | 0x30, 2 => ⟨some 2, 1, false⟩
  | 0x30, n => ⟨none, n, false⟩
  | 0x31, 4 => ⟨if fwd then some 4 else none, 0, !fwd⟩
  | 0x31, 5 => ⟨if fwd then some 4 else none, 0, !fwd⟩
  | 0x31, 3 => ⟨if fwd then some 4 else none, 0, false⟩
  | 0x31, 2 => ⟨if fwd then some 4 else none, 0, false⟩
  | 0x31, _ => ⟨none, 0, false⟩
  | 0x32, n => ⟨none, n, decide (n = 4) || decide (n = 5)⟩
  | _, n => ⟨none, 0, decide (n = 4) || decide (n = 5)⟩

/-- SNP_RSP to the home. -/
def sendSnpRsp (p : Packet) (opx : Nat) (data : List Byte) (s : State) : State :=
  let leaf := tc2Leaf p s
  let q := epTc2 leaf (eidPlane leaf) 0x40 p.xseq p.offset.toNat opx stOk data (p.keyIndex.toNat, p.keyEpoch.toNat) s
  sendFrom .endpoint q s

/-- DATA forwarded to the requester, on the snoop's plane (R65, R252). -/
def forwardData (p : Packet) (grant : Nat) (data : List Byte) (s : State) : State :=
  sendFrom .endpoint (epTc2 (p.opx.setWidth 20) p.plane 0x50 p.xseq p.offset.toNat grant stOk data (p.keyIndex.toNat, p.keyEpoch.toNat) s) s

/-- The line address a TC2 packet of a leaf names. -/
def snoopLine (p : Packet) (s : State) : Nat := (tc2Leaf p s).toNat * 2 ^ 38 + p.offset.toNat / 64

/-- Answers a snoop by the block's own state for the line, or from the write-back buffer (R256). -/
def answerLeaf (p : Packet) (s : State) : State :=
  let line := snoopLine p s
  match s.e.coh.find? fun c => decide (c.op = 0x23) && decide (c.line = line) with
  | some c =>
    let fwd := p.opx.getLsbD 20
    let s1 := if fwd then forwardData p (if p.opcode = 0x31 then 4 else 2) c.wb s else s
    mirrorLine line c.wb c.key (sendSnpRsp p (c.tseq.toNat * 2 ^ 8 + 2 ^ 5 + b2n fwd * 2 ^ 4 + 2 ^ 3) c.wb s1)
  | none =>
    match cached line s with
    | none => sendSnpRsp p 0 [] s
    | some c =>
      if c.readMostly ∨ p.opx.setWidth 20 = s.myEid .endpoint then sendSnpRsp p (if c.readMostly then 0 else c.state) [] s
      else
        let a := snoopTable p c.state
        let s1 := match a.forward with
          | some g => forwardData p g c.data s
          | none => s
        let s2 := if a.next = 0 then dropLine line s1 else putLine { c with state := a.next } s1
        let s3 := sendSnpRsp p (b2n a.forward.isSome * 2 ^ 4 + b2n a.dirty * 2 ^ 3 + a.next) (if a.dirty then c.data else []) s2
        if a.dirty then mirrorLine line c.data c.key s3 else s3

/-- The SOP a snoop needs before the block answers (R372); none where the accelerator holds nothing that it lowers. -/
def sqNeeded (p : Packet) (c : CacheLine) : Option Nat :=
  if c.accel = 0 ∨ c.readMostly then none
  else match p.opcode.toNat with
    | 0x30 => if 2 ≤ c.state then some 1 else none
    | 0x32 => if c.accel = 4 then some 2 else none
    | _ => some 0

/-- A snoop of one line arrives: the accelerator is asked first where it holds the line (R372). -/
def takeSnoop (port : Nat) (p : Packet) (s : State) : State :=
  match cached (snoopLine p s) s with
  | some c =>
    if p.opx.setWidth 20 = s.myEid .endpoint then answerLeaf p s
    else match sqNeeded p c with
      | some sop => sendSq sop c.line (.leaf port p) s
      | none => answerLeaf p s
  | none => answerLeaf p s

/-- A line of the leaf that SNP_FLUSH matches (R256). -/
def flushMatches (p : Packet) (s : State) (c : CacheLine) : Bool :=
  let l := c.line % 2 ^ 38
  let o := p.offset.toNat
  let t := o / 2 ^ 22 % 512
  !c.readMostly && decide (lineEid c.line = tc2Leaf p s)
    && (p.opx.getLsbD 23 || (decide (t ≠ 0) && decide (homeTile t l = o / 2 ^ 13 % 512) && decide (homeSet t l = o % 8192)))

/-- A unicast SNP_FLUSH with ALL 1 is the leaf's part of coherence recovery (R263). -/
def isRecoveryFlush (p : Packet) : Bool := p.opx.getLsbD 23 && isEndpointEid p.dst

/-- Coherent requests to a leaf complete with ABORTED at the core port (R263 step 1); write-backs stay. -/
def abortCoherent (leaf : Eid) (s : State) : State :=
  let mine := s.e.coh.filter fun c => decide (c.leaf = leaf) && (c.op = 0x20 || c.op = 0x21 || c.op = 0x22) && !c.aborted
  let s1 := mine.foldl (fun s c => (waitersOf c.line s).foldl (fun s a => endAcc a stAborted s) s) s
  s1.onE fun e => { e with coh := e.coh.map fun c => if mine.contains c then { c with aborted := true } else c }

/-- RECOVER_START leaves as soon as a port to the leaf is UP (R262). -/
def sendRecoverStart (leaf : Eid) (s : State) : State :=
  if (epUpPorts (eidPlane leaf) s).isEmpty then s
  else
    let t := smapGet s.e.nextTseq 0 leaf.toNat
    sendFrom .endpoint (epTc2 leaf (eidPlane leaf) 0x25 t 0 0 stOk [] (0, 0) s) (s.onE fun e => { e with
      nextTseq := smapSet e.nextTseq leaf.toNat (t + 1)
      recovery := e.recovery.map fun r => if r.leaf = leaf then { r with startDue := false, startTseq := some t } else r })

/-- The endpoint block enters coherence recovery with a leaf (R262, R263 step 1). -/
def epRecovery (leaf : Eid) (announce : Bool) (s : State) : State :=
  if s.e.recovery.any fun r => decide (r.leaf = leaf) then s
  else
    let s1 := raiseVector 6 (abortCoherent leaf (s.onE fun e => { e with recovery := e.recovery ++ [{ leaf := leaf, startDue := announce }] }))
    if announce then sendRecoverStart leaf s1 else s1

/-- Write-backs that are still outstanding leave again with RECOVERY 1 (R263). -/
def resendWbs (leaf : Eid) (s : State) : State :=
  (s.e.coh.filter fun c => decide (c.leaf = leaf) && decide (c.op = 0x23)).foldl (fun s c =>
    sendFrom .endpoint (epTc2 leaf (eidPlane leaf) 0x23 c.tseq (lineOff c.line) 2 stOk c.wb c.key s) s) s

/-- RECOVER_DONE (R263 step 5): later DATA for aborted requests is discarded. -/
def sendRecoverDone (leaf : Eid) (s : State) : State :=
  let s1 := s.onE fun e => { e with
    coh := e.coh.filter fun c => !(decide (c.leaf = leaf) && c.aborted)
    recovery := e.recovery.map fun r => if r.leaf = leaf then { r with done := true, startDue := false } else r }
  sendTc2 leaf (leaf.toNat * 2 ^ 38) 0x26 0 [] (0, 0) none s1

/-- SNP_FLUSH goes on (R256, R263): each matching line leaves, dirty ones by WB, after an SQ INV where the accelerator holds it; the
SNP_RSP leaves once none is left, and in recovery RECOVER_DONE behind it. -/
def stepFlush (port : Nat) (p : Packet) (s : State) : State :=
  let rec1 := isRecoveryFlush p
  let s1 := (s.e.cache.filter (flushMatches p s)).foldl (fun s c =>
    if c.accel ≠ 0 then sendSq 0 c.line (.flush port p) s
    else if c.state = 4 ∨ c.state = 5 then sendWb c rec1 (dropLine c.line s)
    else dropLine c.line s) s
  if (s1.e.cache.filter (flushMatches p s1)).isEmpty then
    let s2 := sendSnpRsp p 0 [] s1
    if rec1 then sendRecoverDone (tc2Leaf p s) s2 else s2
  else s1

/-- A SNP_FLUSH arrives. -/
def takeFlush (port : Nat) (p : Packet) (s : State) : State :=
  let leaf := tc2Leaf p s
  if isRecoveryFlush p then stepFlush port p (resendWbs leaf (epRecovery leaf false s)) else stepFlush port p s

/-- An SR answer (R372): the accelerator's dirty copy, or the one its COH_WB on XQ carries, becomes the block's copy in M; then
the block goes on with what it sent the snoop for. -/
def takeSr (x : SqSnoop) (dirty : Option (List Byte)) (state : Nat) (s : State) : State :=
  let s1 := s.onE fun e => { e with snoops := e.snoops.filter fun y => decide (y.stag ≠ x.stag) }
  let s2 := match cached x.line s1 with
    | none => s1
    | some c =>
      let c1 := { c with accel := if x.sop = 2 then c.accel else if state = 0 then 0 else 1 }
      putLine (match dirty with
        | some d => { c1 with state := if c.state = 5 then 5 else 4, data := fitTo 64 d }
        | none => c1) s1
  match x.use with
  | .leaf _ p => answerLeaf p s2
  | .flush port p => stepFlush port p s2
  | .victim =>
    stepAccs (match cached x.line s2 with
      | some c => if c.accel = 0 then evictLine c s2 else s2
      | none => s2)

/-- A dead leaf (R268): lines held in M from a mirrored range go to the mirror leaf, and every line of the leaf is dropped. -/
def leafDied (leaf : Eid) (s : State) : State :=
  let mine := s.e.cache.filter fun c => !c.readMostly && decide (lineEid c.line = leaf)
  let s1 := mine.foldl (fun s c => if c.state = 4 then mirrorLine c.line c.data c.key s else s) s
  let s2 := mine.foldl (fun s c => dropLine c.line s) s1
  let s3 := s2.onE fun e => { e with
    coh := e.coh.filter fun c => decide (c.leaf ≠ leaf), recovery := e.recovery.filter fun r => decide (r.leaf ≠ leaf) }
  (s3.e.accs.filter fun a => decide (a.pkt.dst = leaf)).foldl (fun s a => endAcc a stTargetDead s) s3

end Sys2Proof.Machine
end

