-- ==== Sys2Proof/Machine/RmwOps.lean ====
section
/-! DEFINITION. The atomic unit and the reduce ALU of the endpoint block (R367, R368): lines locked at the accelerator, jobs applied
to the unit's copy, and the write-back that releases them. -/

namespace Sys2Proof.Machine

/-- A locked line of the unit. -/
def lockLine (line : Nat) (s : State) : Option LockLine := s.e.locks.find? fun l => decide (l.line = line)

/-- A locked line replaced, added or removed. -/
def putLock (l : LockLine) (s : State) : State :=
  s.onE fun e => { e with locks := if e.locks.any (fun x => decide (x.line = l.line)) then
      (e.locks.map fun x => if x.line = l.line then l else x) else e.locks ++ [l] }
def dropLock (line : Nat) (s : State) : State := s.onE fun e => { e with locks := e.locks.filter fun x => decide (x.line ≠ line) }

/-- A job of the unit. -/
def rmwJob (id : Nat) (s : State) : Option RmwJob := s.e.jobs.find? fun j => decide (j.id = id)

/-- READ_LOCK of a line (R361). -/
def askLock (line : Nat) (s : State) : State :=
  startTxnWith (.lock line) false none [(.readLock, 64 * line, 64, [])] s

/-- The bytes of a job's next line. -/
def jobChunk (j : RmwJob) : Nat := min j.data.length (64 - j.addr % 64)

/-- The job is an atomic. -/
def jobAtomic (j : RmwJob) : Option Packet := match j.use with
  | .packet _ p => if isAtomicOp p.opcode then some p else none
  | _ => none

/-- A job applied to the unit's copy of a line (R216): the job, the copy, and whether the copy changed. -/
def applyJob (j : RmwJob) (copy : List Byte) : RmwJob × List Byte × Bool :=
  let o := j.addr % 64
  match jobAtomic j with
  | some p =>
    let old := slice copy o (atomicSize p)
    let r := atomicResult p old
    match r.1 with
    | some v => ({ j with old := old, cas := r.2, data := [] }, copy.take o ++ v ++ copy.drop (o + v.length), true)
    | none => ({ j with old := old, cas := r.2, data := [] }, copy, false)
  | none =>
    let n := jobChunk j
    let v := reduceBytesInto j.op j.type (n + 1) (slice copy o n) (j.data.take n)
    ({ j with addr := j.addr + n, data := j.data.drop n }, copy.take o ++ v ++ copy.drop (o + n), true)

/-- The jobs that wait for a line whose copy is at hand are applied in arrival order. -/
def applyWaiting (line : Nat) (s : State) : State :=
  match lockLine line s with
  | none => s
  | some l =>
    match l.data with
    | none => s
    | some copy =>
      let r := l.waiting.foldl (fun (acc : List RmwJob × List Byte × Bool) id =>
        match acc.1.find? fun j => decide (j.id = id) with
        | some j =>
          let a := applyJob j acc.2.1
          (acc.1.map fun x => if x.id = id then a.1 else x, a.2.1, acc.2.2 || a.2.2)
        | none => acc) (s.e.jobs, copy, l.dirty)
      putLock { l with data := some r.2.1, dirty := r.2.2, waiting := [], applied := l.applied ++ l.waiting }
        (s.onE fun e => { e with jobs := r.1 })

/-- A job turns to a line: it joins the lock that is held or asked for, or asks for one. -/
def joinLine (line id : Nat) (s : State) : State :=
  match lockLine line s with
  | none => askLock line (putLock { line := line, waiting := [id] } s)
  | some l =>
    let s1 := putLock { l with waiting := l.waiting ++ [id] } s
    if l.releasing then s1 else applyWaiting line s1

/-- A new job of the unit. -/
def startJob (use : RmwUse) (addr op type : Nat) (data : List Byte) (s : State) : State :=
  let id := s.e.nextJob
  joinLine (addr / 64) id (s.onE fun e => { e with
    nextJob := id + 1, jobs := e.jobs ++ [{ id := id, use := use, addr := addr, op := op, type := type, data := data }] })

/-- Jobs that end, with their status. -/
abbrev JobEnds := List (RmwJob × Status)

/-- Jobs taken out of the unit with a status. -/
def endJobs (ids : List Nat) (st : Status) (s : State) : JobEnds × State :=
  ((s.e.jobs.filter fun j => ids.contains j.id).map fun j => (j, st),
   s.onE fun e => { e with jobs := e.jobs.filter fun j => !ids.contains j.id })

/-- READ_LOCK is answered: the copy arrives and the waiting jobs are applied; a refusal ends them and releases the line with
UNLOCK, unless the lock itself timed out (R362, R391). -/
def lockAnswered (line tag : Nat) (st : Status) (data : List Byte) (timeout : Bool) (s : State) : JobEnds × State :=
  match lockLine line s with
  | none => ([], s)
  | some l =>
    if st = stOk then ([], applyWaiting line (putLock { l with lockTag := some tag, data := some (fitTo 64 data) } s))
    else
      let r := endJobs l.waiting st (dropLock line s)
      (r.1, if timeout then r.2 else startTxnWith .drop false (some tag) [(.unlock, 64 * line, 64, [])] r.2)

/-- The line is written back, or released unchanged (R367). -/
def releaseLine (line : Nat) (s : State) : State :=
  match lockLine line s with
  | none => s
  | some l =>
    match l.data, l.lockTag with
    | some copy, some t =>
      if l.releasing then s
      else startTxnWith (.unlock line) false (some t)
        [if l.dirty then (.writeUnlock, 64 * line, 64, copy) else (.unlock, 64 * line, 64, [])]
        (putLock { l with releasing := true } s)
    | _, _ => s

/-- The release is answered: the jobs applied are complete, or go on with their next line; jobs that came meanwhile lock the
line again. -/
def unlockAnswered (line : Nat) (st : Status) (s : State) : JobEnds × State :=
  match lockLine line s with
  | none => ([], s)
  | some l =>
    let more := if st = stOk then l.applied.filter fun id => match rmwJob id s with
        | some j => !j.data.isEmpty
        | none => false
      else []
    let r := endJobs (l.applied.filter fun id => !more.contains id) st (dropLock line s)
    let s2 := if l.waiting.isEmpty then r.2 else askLock line (putLock { line := line, waiting := l.waiting } r.2)
    (r.1, more.foldl (fun s id => match rmwJob id s with
      | some j => joinLine (j.addr / 64) id s
      | none => s) s2)

end Sys2Proof.Machine
end

