-- ==== Sys2Proof/Machine/CoreOps.lean ====
section
/-! DEFINITION. What the endpoint block checks before it sends an operation of one of its issue contexts (R56, R219, R225, R354,
R366), and the packets of its operations (R214, R215). -/

namespace Sys2Proof.Machine

/-- The destination of an operation is an endpoint outside the block's domain (R56, R355). -/
def outsideDomain (dst : Eid) (s : State) : Bool :=
  isEndpointEid dst && !(s.word .endpoint .fxeDomain (eidRack dst / 64) 0).getLsbD (eidRack dst % 64)

/-- The slot that a context names is under retirement (R509): its operations are dropped and counted. -/
def ctxRetired (ctx : Nat) (s : State) : Bool :=
  slotRetired .endpoint (s.rd .endpoint Fld.fxeCtxcfgKeyIndex ctx) (s.rd .endpoint Fld.fxeCtxcfgKeyEpoch ctx) s

/-- The statuses that refuse an operation of a context before it is sent: no EID yet (R354), a context without an entry (R366), a
destination outside the domain (R56), and for a group EID what R225 says. -/
def sendChecks (ctx : Nat) (dst : Eid) (op : BitVec 8) (stream : Nat) (s : State) : List Status :=
  (if s.rdb .endpoint Fld.fxeIdValid then [] else [stResource])
    ++ (if s.rdb .endpoint Fld.fxeCtxcfgValid ctx then [] else [stAccessDenied])
    ++ (if outsideDomain dst s then [stAccessDenied] else [])
    ++ (if !isGroupEid dst then []
        else if op = 0x62 ∨ op = 0x63 ∨ op = 0x66 then
          (if stream ≠ 0 then [stVersion] else [])
            ++ (if isMcastEid dst && (mcastMembers (groupNumber dst) s).isSome then [] else [stNoWindow])
        else [stNoWindow])
    ++ (if eidKind dst = 3 then [stNoWindow] else [])

/-- A packet of a context, with the key and class of its entry (R366). -/
def ctxPacket (ctx : Nat) (dst : Eid) (op : BitVec 8) (stream : BitVec 4) (off opx : Nat) (payload : List Byte) (s : State) : Packet :=
  { dst := dst, src := s.myEid .endpoint, opcode := op, tc := BitVec.ofNat 3 ((opClass op).getD 3), plane := false, stream := stream
    keyIndex := BitVec.ofNat 13 (s.rd .endpoint Fld.fxeCtxcfgKeyIndex ctx)
    keyEpoch := BitVec.ofNat 4 (s.rd .endpoint Fld.fxeCtxcfgKeyEpoch ctx)
    dclass := BitVec.ofNat 2 (s.rd .endpoint Fld.fxeCtxcfgDclass ctx)
    offset := BitVec.ofNat 44 off, opx := BitVec.ofNat 32 opx, payload := payload, length := lengthOf payload }

/-- EID and offset of a GFA. -/
def gfaEid (gfa : Nat) : Eid := BitVec.ofNat 20 (gfa / 2 ^ 44)
def gfaOff (gfa : Nat) : Nat := gfa % 2 ^ 44

/-- A transfer cut at the 4 KiB boundaries of an offset (R219): (distance from the start, bytes). -/
def pages (off : Nat) : Nat → Nat → Nat → List (Nat × Nat)
  | 0, _, _ => []
  | fuel + 1, done, left =>
    if left = 0 then []
    else
      let n := min left (4096 - (off + done) % 4096)
      (done, n) :: pages off fuel (done + n) (left - n)

/-- The pieces of a transfer of `n` bytes. -/
def pageCuts (off n : Nat) : List (Nat × Nat) := pages off (n / 4096 + 2) 0 n

end Sys2Proof.Machine
end

