-- ==== Sys2Proof/Machine/DmaOps.lean ====
section
/-! DEFINITION. The queues of the endpoint block (R380 to R382): fetching descriptors, DMA descriptors and their records. -/

namespace Sys2Proof.Machine

/-! ## Queues (R380) -/

/-- The register set of a queue: FXE.DMAQ[q], or FXE.CQ for queue 32. -/
def qrd (f : Field) (q : Nat) (s : State) : Nat := if q = 32 then s.rd .endpoint { f with reg := .fxeCq } 0 else s.rd .endpoint f q
def qwr (f : Field) (q v : Nat) (s : State) : State := if q = 32 then s.wr .endpoint { f with reg := .fxeCq } 0 v else s.wr .endpoint f q v

/-- A queue's own part of the state. -/
def epQueue (q : Nat) (s : State) : EpQueue := smapGet s.e.queues {} q

/-- The state with a queue changed. -/
def onQueue (q : Nat) (f : EpQueue → EpQueue) (s : State) : State :=
  s.onE fun e => { e with queues := smapPut e.queues {} q (f (smapGet e.queues {} q)) }

/-- Descriptors a queue may have in progress: 16, or 64 for the collective queue (R380, R384). -/
def queueLimit (q : Nat) : Nat := if q = 32 then 64 else 16

/-- Fetches the descriptor at HEAD where EN is 1, one waits, and the queue has room; `active`: descriptors in progress that the
queue does not list itself. -/
def fetchNext (q active : Nat) (s : State) : State :=
  let k := epQueue q s
  let head := qrd Fld.fxeDmaqHead q s
  if qrd Fld.fxeDmaqEn q s = 0 ∨ head = qrd Fld.fxeDmaqTail q s % 2 ^ qrd Fld.fxeDmaqSizeLog2 q s ∨ k.fetching = true ∨ k.failed.isSome = true
      ∨ queueLimit q ≤ k.fetched.length + k.descs.length + active then s
  else memLoad (.fetch q) (64 * qrd Fld.fxeDmaqBase q s + 64 * head) 64 (onQueue q (fun k => { k with fetching := true }) s)

/-- A descriptor fetch is answered: HEAD passes it, or the failure waits to stop the queue. -/
def fetched (q active : Nat) (st : Status) (data : List Byte) (s : State) : State :=
  if st ≠ stOk then onQueue q (fun k => { k with fetching := false, failed := some st }) s
  else
    let head := (qrd Fld.fxeDmaqHead q s + 1) % 2 ^ qrd Fld.fxeDmaqSizeLog2 q s
    fetchNext q active (qwr Fld.fxeDmaqHead q head (onQueue q (fun k => { k with fetching := false, fetched := k.fetched ++ [data] }) s))

/-- A queue stops (R380, R382): EN clears, STATUS says why, vector 2. -/
def stopQueue (q : Nat) (st : Status) (s : State) : State :=
  raiseVector 2 (qwr Fld.fxeDmaqStatus q st.toNat (qwr Fld.fxeDmaqEn q 0 s))

/-! ## DMA descriptors (R381) -/

/-- A field of a DMA descriptor is reserved (R381). -/
def dmaReserved (d : List Byte) : Bool :=
  let f := fun a n => leNat (slice d a n)
  decide (2 ≤ f 0 1 % 16) || decide (32 ≤ f 0 1) || decide (16 ≤ f 1 1) || decide (f 2 2 ≠ 0) || decide (f 4 4 = 0)
    || decide (f 24 8 % 8 ≠ 0) || ((d.drop 32).any fun b => decide (b ≠ 0))

/-- FENCE_BEFORE of a descriptor. -/
def dmaFence (d : List Byte) : Bool := (leNat (slice d 0 1)).testBit 4

/-- A DMA descriptor replaced. -/
def onDesc (q serial : Nat) (f : DmaDesc → DmaDesc) (s : State) : State :=
  onQueue q (fun k => { k with descs := k.descs.map fun d => if d.serial = serial then f d else d }) s

/-- One packet of a descriptor: a WRITE_OUT packet waits for its data, which is read from LOCAL. -/
def dmaPacket (q serial : Nat) (write : Bool) (stream : BitVec 4) (localAddr remote : Nat) (s : State) (c : Nat × Nat) : State :=
  let off := gfaOff remote + c.1
  if write then
    memLoad (.dmaOut (nextOpId .endpoint s)) (localAddr + c.1) c.2
      (issueOp .endpoint (some (64 + q)) (.dma q serial) false (ctxPacket (64 + q) (gfaEid remote) 0x80 stream off 0 [] s) s)
  else issueOp .endpoint (some (64 + q)) (.dma q serial) true (ctxPacket (64 + q) (gfaEid remote) 0x81 stream off (c.2 - 1) [] s) s

/-- Starts a fetched descriptor (R381): split into packets, or ended at once where a field is reserved or its context may not send. -/
def startDma (q : Nat) (d : List Byte) (s : State) : State :=
  let f := fun a n => leNat (slice d a n)
  let k := epQueue q s
  let write := decide (f 0 1 % 16 = 0)
  let bad := if dmaReserved d then [stAccessDenied]
    else if ctxRetired (64 + q) s then [stAborted]
    else sendChecks (64 + q) (gfaEid (f 16 8)) (if write then 0x80 else 0x81) (f 1 1) s
  let cuts := pageCuts (gfaOff (f 16 8)) (f 4 4)
  let e : DmaDesc := { serial := k.nextSerial, write := write, len := f 4 4, localAddr := f 8 8, remote := f 16 8, compAddr := f 24 8
                       left := if bad.isEmpty then cuts.length else 0, statuses := bad
                       outcomes := if bad.isEmpty then [] else [outNotApplied] }
  let s1 := onQueue q (fun k => { k with nextSerial := k.nextSerial + 1, descs := k.descs ++ [e] }) s
  if bad.isEmpty then cuts.foldl (dmaPacket q e.serial write (BitVec.ofNat 4 (f 1 1)) e.localAddr e.remote) s1 else s1

/-- The next fetched descriptor of a queue starts, after every earlier one where FENCE_BEFORE asks for it. -/
def startNextDma (q : Nat) (s : State) : State :=
  let k := epQueue q s
  match k.fetched with
  | [] => s
  | d :: l =>
    if dmaFence d && !k.descs.isEmpty then s
    else startDma q d (onQueue q (fun k => { k with fetched := l }) s)

/-- One part of a descriptor is complete. -/
def dmaPart (q serial : Nat) (st : Status) (outcome bytes : Nat) (s : State) : State :=
  onDesc q serial (fun d => { d with
    left := d.left - 1, outcomes := d.outcomes ++ [outcome]
    statuses := if st = stOk then d.statuses else d.statuses ++ [st]
    bytesOk := if st = stOk then d.bytesOk + bytes else d.bytesOk }) s

/-- A packet of a descriptor completes: what a READ_IN packet returned is written to LOCAL, 0xFF where it failed (R229, R381). -/
def dmaPacketDone (q serial : Nat) (f : Finished) (s : State) : State :=
  match (epQueue q s).descs.find? fun d => decide (d.serial = serial) with
  | none => s
  | some d =>
    if d.write then dmaPart q serial f.status f.outcome f.op.pkt.payload.length s
    else
      let n := f.op.pkt.opx.toNat % 4096 + 1
      let data := if f.status = stOk then fitTo n f.data else List.replicate n 0xFF
      let s1 := if f.status = stOk then s else onDesc q serial (fun d => { d with statuses := d.statuses ++ [f.status] }) s
      memStore (.dmaIn q serial (if f.status = stOk then n else 0)) false (d.localAddr + (f.op.pkt.offset.toNat - gfaOff d.remote)) data s1

/-- The outcome of a whole descriptor (R382). -/
def dmaOutcome (d : DmaDesc) : Nat :=
  if d.statuses.isEmpty then outApplied
  else if d.outcomes.all fun o => decide (o = outNotApplied) then outNotApplied else outUnknown

/-- The completion record of a descriptor (R382). -/
def dmaRecord (d : DmaDesc) (late : Nat) : Word :=
  withBits (withBits (withBits (withBits (withBits 0 63 63 1) 62 59 (reportStatus d.statuses).1.toNat) 58 57 (dmaOutcome d))
    56 53 late) 31 0 d.bytesOk

/-- The oldest descriptor of a queue, whose packets are complete, ends (R381, R382): its record is written, with the queue's late
refusal; where it failed and STOP_ON_ERR is set, the queue stops. -/
def completeDma (q : Nat) (d : DmaDesc) (s : State) : State :=
  let late := qrd Fld.fxeDmaqLateStatus q s
  let s1 := qwr Fld.fxeDmaqLateStatus q 0 (onQueue q (fun k => { k with descs := k.descs.filter fun x => decide (x.serial ≠ d.serial) }) s)
  let s2 := memStore (.record q) false d.compAddr (leBytes 8 (dmaRecord d late).toNat) s1
  let s3 := if !d.statuses.isEmpty && decide (qrd Fld.fxeDmaqStopOnErr q s2 = 1) then stopQueue q (reportStatus d.statuses).1 s2 else s2
  fetchNext q 0 s3

end Sys2Proof.Machine
end

