-- ==== Sys2Proof/Machine/FragOps.lean ====
section
/-! DEFINITION. Chunks and fragments of collectives: geometry (R279, R280), formats (R281, R316 to R318, R588), the operations that
combine (R282, R319, R322), the packets' fields (R285), and the descriptor digest (R290). -/

namespace Sys2Proof.Machine

/-! ## Geometry -/

/-- A format code is assigned (R281). -/
def fmtAssigned (f : Nat) : Bool := decide (f ≤ 0xA)

/-- An integer format. -/
def fmtInt (f : Nat) : Bool := decide (f = 9) || decide (f = 0xA)

/-- A Microscaling format: its fragments carry block scales. -/
def fmtMx (f : Nat) : Bool := decide (3 ≤ f) && decide (f ≤ 8)

/-- Element bits of a format. -/
def fmtBits (f : Nat) : Nat :=
  if f = 0 ∨ f = 9 then 32 else if f = 0xA then 64 else if f = 1 ∨ f = 2 then 16 else mxBits f

/-- Elements of a fragment (R280). -/
def fragElems (f : Nat) : Nat := if f = 0xA then 512 else 1024

/-- Bytes of a fragment's payload. -/
def fragBytes (f : Nat) : Nat := (if fmtMx f then 32 else 0) + fragElems f * fmtBits f / 8

/-- Elements of a chunk (R279). -/
def chunkElems (code f : Nat) : Nat :=
  let s := 16384 * 2 ^ code
  if fmtBits f = 6 then s else s * 8 / fmtBits f

/-- Fragments and slots of a chunk (R280, R322). -/
def chunkFrags (code f : Nat) : Nat := chunkElems code f / fragElems f
def chunkSlots (code f : Nat) (comp : Bool) : Nat := max 1 (chunkFrags code f / 16) * (if comp then 2 else 1)

/-- OP and formats that R282 lets go together, with the result format's column of R281. -/
def opFormats (op fin fdown : Nat) : Bool :=
  decide (op ≤ 6) && fmtAssigned fin
    && (if fmtInt fin then decide (op ≠ 3) && decide (fdown = fin)
        else decide (op ≤ 3) && (decide (fdown = 1) || decide (fdown = 3)))

/-! ## Fragments (R316 to R318, R588) -/

/-- Bytes of a fragment that hold its first `n` elements, with the scales of their blocks: (offset, bytes). -/
def fragRanges (f n : Nat) : List (Nat × Nat) :=
  let b := (n * fmtBits f + 7) / 8
  if fmtMx f then [(0, (n + 31) / 32), (32, b)] else [(0, b)]

/-- A fragment of `n` elements put together from the bytes of its ranges: what lies past element n is zero. -/
def fragJoin (f n : Nat) (data : List Byte) : List Byte :=
  let b := (n * fmtBits f + 7) / 8
  let trim := fun (l : List Byte) => fitTo b (leBytes b (leNat (fitTo b l) % 2 ^ (n * fmtBits f)))
  if fmtMx f then
    let k := (n + 31) / 32
    fitTo (fragBytes f) (fitTo 32 (data.take k) ++ trim (data.drop k))
  else fitTo (fragBytes f) (trim data)

/-- A fragment with the elements past the first `n` zero, as bytes to write at its ranges. -/
def fragCut (f n : Nat) (payload : List Byte) : List Byte :=
  fragJoin f n ((fragRanges f n).flatMap fun r => slice payload r.1 r.2)

/-- Element code `i` of packed elements of `w` bits. -/
def codeAt (w : Nat) (l : List Byte) (i : Nat) : Nat := leNat (slice l (w * i / 8) 2) / 2 ^ (w * i % 8) % 2 ^ w

/-- Elements packed at `w` bits each, in ascending order from bit 0 (R316). -/
def packCodes (w : Nat) (l : List Nat) : List Byte :=
  leBytes ((w * l.length + 7) / 8) (l.foldr (fun c n => c % 2 ^ w + 2 ^ w * n) 0)

/-- The elements of a payload: FP32 words, or integers (R315, R318). -/
def fragDecode (f : Nat) (p : List Byte) : List Nat :=
  (List.range (fragElems f)).map fun i =>
    if fmtMx f then (mxDecode f (p.getD (i / 32) 0).toNat (codeAt (mxBits f) (p.drop 32) i)).toNat
    else
      let n := fmtBits f / 8
      let v := leNat (slice p (n * i) n)
      if f = 1 then v * 65536 else if f = 2 then (toFp32 (fmtFp16.decode v)).toNat else v

/-- An MX element saturates: rounded, it lies above the format's largest normal (R326). -/
def mxSaturates (f : Nat) (mode : Rounding) (m : Nat) (e : Int) : Bool :=
  if m = 0 then false
  else if f = 8 then decide (127 < if 0 ≤ e + 6 then m * 2 ^ (e + 6).toNat else roundShift mode m (-(e + 6)).toNat)
  else
    let r := (mxFmt f).quantum mode m e
    decide (mxLargest f < (mxFmt f).pack r.1 r.2)

/-- Saturated elements of a block whose scale is `sc`. -/
def blockSaturated (f : Nat) (mode : Nat → Rounding) (sc : Nat) (xs : List (BitVec 32)) : Nat :=
  if sc = 255 then 0
  else ((List.range xs.length).filter fun i => match fp32 (xs.getD i 0) with
    | .fin _ m e => mxSaturates f (mode i) m (e - (sc - 127))
    | _ => false).length

/-- FP32 words in blocks of 32. -/
def blocks32 : Nat → List (BitVec 32) → List (List (BitVec 32))
  | 0, _ => []
  | fuel + 1, l => if l.isEmpty then [] else l.take 32 :: blocks32 fuel (l.drop 32)

/-- FP32 words, or integers, as a payload in a format, and how many MX elements saturated; `mode i` rounds element i (R325, R326). -/
def fragEncode (f : Nat) (mode : Nat → Rounding) (l : List Nat) : List Byte × Nat :=
  if fmtMx f then
    let bs := blocks32 (l.length / 32 + 1) (l.map fun x => BitVec.ofNat 32 x)
    let enc := (List.range bs.length).map fun j =>
      let b := mxBlock f (fun i => mode (32 * j + i)) (bs.getD j [])
      (b.1, b.2, blockSaturated f (fun i => mode (32 * j + i)) b.1 (bs.getD j []))
    (enc.map (fun x => BitVec.ofNat 8 x.1) ++ packCodes (mxBits f) (enc.flatMap fun x => x.2.1), (enc.map fun x => x.2.2).sum)
  else
    ((List.range l.length).flatMap (fun i =>
      let x := l.getD i 0
      if f = 1 then leBytes 2 (toBf16 (mode i) (BitVec.ofNat 32 x))
      else if f = 2 then leBytes 2 (fmtFp16.encode (mode i) (fp32 (BitVec.ofNat 32 x)))
      else leBytes (fmtBits f / 8) x), 0)

/-! ## Combining (R282, R319, R322) -/

/-- One later contribution combined into an accumulator. -/
def combineElem (op f acc x : Nat) : Nat :=
  if fmtInt f then
    let w := fmtBits f
    atomicInt (([0, 1, 2, 0, 6, 7, 8] : List Nat).getD op 8) w acc x
  else
    let a := BitVec.ofNat 32 acc
    let b := BitVec.ofNat 32 x
    (match op with
     | 1 => fmin a b
     | 2 => fmax a b
     | _ => fadd a b).toNat

/-- One contribution in compensated mode: sum and compensation (R322). -/
def compElem (s c x : Nat) : Nat × Nat :=
  let s' := BitVec.ofNat 32 s
  let x' := BitVec.ofNat 32 x
  let t := fadd s' x'
  let z := fsub t s'
  let d := fadd (fsub s' (fsub t z)) (fsub x' z)
  (t.toNat, (fadd (BitVec.ofNat 32 c) d).toNat)

/-! ## Packets (R283, R285, R290) -/

/-- OFFSET of a collective packet. -/
def collOffset (chunk frag attempt : Nat) : Nat := chunk % 2 ^ 24 * 2 ^ 20 + frag % 2 ^ 13 * 2 ^ 7 + attempt % 16 * 2 ^ 3

/-- CHUNK, FRAG and ATTEMPT of a collective packet. -/
def collChunk (p : Packet) : Nat := p.offset.toNat / 2 ^ 20
def collFrag (p : Packet) : Nat := p.offset.toNat / 2 ^ 7 % 2 ^ 13
def collAttempt (p : Packet) : Nat := p.offset.toNat / 2 ^ 3 % 16

/-- MEMBER and COUNT of COLL_CONTRIB and COLL_RESULT. -/
def collMember (p : Packet) : Nat := p.opx.toNat % 2 ^ 14
def collCount (p : Packet) : Nat := p.opx.toNat / 2 ^ 14 % 2 ^ 15

/-- Digest and chunk check value of a contribution slot. -/
def slotDigest (p : Packet) : Nat := leNat (slice p.ext 0 8)
def slotCheck (p : Packet) : Nat := leNat (slice p.ext 8 8)

/-- Group number that a collective packet names: by its group EID, or by the GROUP field of COLL_ABORT and COLL_RESEND. -/
def collGroup (p : Packet) : Option Nat :=
  if isCommEid p.dst then some (groupNumber p.dst)
  else if p.opcode = 0x92 then some (p.opx.toNat / 2 ^ 15 % 2 ^ 16)
  else if p.opcode = 0x93 then some (p.opx.toNat / 2 % 2 ^ 16)
  else none

/-- The second word of an abort slot. -/
structure AbortSlot where
  digest : Nat
  culprit : Nat
  member : Option Nat
  first : Nat
  step : Bool
deriving DecidableEq, Repr

/-- An abort slot's bytes. -/
def abortBytes (a : AbortSlot) : List Byte :=
  leBytes 8 a.digest ++ leBytes 8 (a.culprit % 2 ^ 20 + a.member.getD 0 % 2 ^ 14 * 2 ^ 20 + b2n a.member.isSome * 2 ^ 34
    + a.first % 2 ^ 14 * 2 ^ 35 + b2n a.step * 2 ^ 49)

/-- The abort slot that bytes spell. -/
def abortSlot (l : List Byte) : AbortSlot :=
  let w := leNat (slice l 8 8)
  { digest := leNat (slice l 0 8), culprit := w % 2 ^ 20
    member := if w.testBit 34 then some (w / 2 ^ 20 % 2 ^ 14) else none
    first := w / 2 ^ 35 % 2 ^ 14, step := w.testBit 49 }

/-- What all packets of a communicator share: group, key and class. -/
structure CollKey where
  group : Nat
  index : Nat
  epoch : Nat
  dclass : Nat
deriving DecidableEq, Repr

/-- A collective packet to the group (R285); its PCHK and encryption are still to come. -/
def collPacket (k : CollKey) (src : Eid) (plane : Bool) (op : BitVec 8) (st : Status) (step offset opx : Nat) (ext payload : List Byte) :
    Packet :=
  { dst := groupEid 0 k.group, src := src, opcode := op, tc := 5, plane := plane, status := st, xseq := BitVec.ofNat 24 step
    keyIndex := BitVec.ofNat 13 k.index, keyEpoch := BitVec.ofNat 4 k.epoch, dclass := BitVec.ofNat 2 k.dclass
    offset := BitVec.ofNat 44 offset, opx := BitVec.ofNat 32 opx, ext := ext, payload := payload, length := lengthOf payload }

/-- A collective packet encrypted where its class asks for it, with its PCHK (R499, R500). -/
def finishColl (sd : Side) (group : Nat) (p : Packet) (s : State) : Packet :=
  finishPacket sd 2 (nonceColl p.xseq.toNat (collChunk p) (collFrag p) (collAttempt p) (b2n (p.opcode.getLsbD 0)))
    (groupEid 0 group) p s

/-- A received collective packet decrypted (R501). -/
def openColl (sd : Side) (group : Nat) (p : Packet) (s : State) : Opened :=
  openPacket sd 2 (nonceColl p.xseq.toNat (collChunk p) (collFrag p) (collAttempt p) (b2n (p.opcode.getLsbD 0))) (groupEid 0 group) p s

/-- The chunk check value of fragment payloads in ascending order (R283). -/
def checkValue (l : List (List Byte)) : Nat := (crc64 l.flatten).toNat

/-- The packets of a whole contribution, partial or result: one for each payload, the last with the check value. `opx` is that of
every packet. -/
def collPackets (k : CollKey) (src : Eid) (plane : Bool) (op : BitVec 8) (step chunk attempt opx digest : Nat)
    (payloads : List (List Byte)) : List Packet :=
  let check := checkValue payloads
  (List.range payloads.length).map fun f =>
    collPacket k src plane op stOk step (collOffset chunk f attempt) opx
      (leBytes 8 digest ++ (if f + 1 = payloads.length then leBytes 8 check else zeros 8)) (payloads.getD f [])

/-- The descriptor digest (R290). -/
def collDigest (group step opCode fmts count : Nat) : Nat :=
  leNat (fitTo 8 (Config.shake256 8 (leBytes 2 group ++ leBytes 3 step ++ leBytes 1 opCode ++ leBytes 1 fmts ++ zeros 1
    ++ leBytes 5 count ++ zeros 3)))

/-- A step is later than another (R334). -/
def laterStep (u w : Nat) : Bool := decide (u % 2 ^ 24 ≠ w % 2 ^ 24) && decide ((u + 2 ^ 24 - w % 2 ^ 24) % 2 ^ 24 < 2 ^ 23)

end Sys2Proof.Machine
end

