-- ==== Sys2Proof/Machine/CollOps.lean ====
section
/-! DEFINITION. A member of collectives inside the endpoint block (R279 to R311, R383 to R385): descriptors, contributions, results,
aborts and completion records. -/

namespace Sys2Proof.Machine

/-! ## Lookup and change -/

/-- The state with the member's collective state changed. -/
def onColl (f : CollState → CollState) (s : State) : State := s.onE fun e => { e with coll := f e.coll }

/-- A descriptor, and a chunk of it. -/
def collDesc (id : Nat) (s : State) : Option CollDesc := s.e.coll.descs.find? fun d => decide (d.id = id)
def collOf (id c : Nat) (s : State) : Option (CollDesc × CollChunk) :=
  match collDesc id s with
  | none => none
  | some d => (d.chunks.find? fun k => decide (k.chunk = c)).map fun k => (d, k)

/-- A descriptor replaced, and a chunk of it. -/
def onCollDesc (id : Nat) (f : CollDesc → CollDesc) (s : State) : State :=
  onColl (fun e => { e with descs := e.descs.map fun d => if d.id = id then f d else d }) s
def onCollChunk (id c : Nat) (f : CollChunk → CollChunk) (s : State) : State :=
  onCollDesc id (fun d => { d with chunks := d.chunks.map fun k => if k.chunk = c then f k else k }) s

/-- The valid entry of FXE.COLL that serves a group (R383). -/
def collCtx (group : Nat) (s : State) : Option Nat :=
  findBelow 256 fun g => s.rdb .endpoint Fld.fxeCollValid g && decide (s.rd .endpoint Fld.fxeCollGroup g = group)

/-- Group, key and class of a descriptor, and of an entry of FXE.COLL. -/
def descKey (d : CollDesc) : CollKey := { group := d.group, index := d.index, epoch := d.epoch, dclass := d.dclass }
def entryKey (g : Nat) (s : State) : CollKey :=
  { group := s.rd .endpoint Fld.fxeCollGroup g, index := s.rd .endpoint Fld.fxeCollKeyIndex g
    epoch := s.rd .endpoint Fld.fxeCollKeyEpoch g, dclass := s.rd .endpoint Fld.fxeCollDclass g }

/-- The collective queue fetches on, counting its active descriptors (R384). -/
def fetchColl (s : State) : State := fetchNext 32 s.e.coll.descs.length s

/-! ## Geometry of a chunk (R279, R588) -/

/-- Elements of chunk `c` below COUNT. -/
def chunkCount (d : CollDesc) (c : Nat) : Nat := min (chunkElems d.code d.fmtIn) (d.count - c * chunkElems d.code d.fmtIn)

/-- The fragments of chunk `c` that hold elements below COUNT: number, and how many such elements. -/
def chunkFragments (d : CollDesc) (c : Nat) : List (Nat × Nat) :=
  let n := chunkCount d c
  let fe := fragElems d.fmtIn
  (List.range ((n + fe - 1) / fe)).map fun f => (f, min fe (n - fe * f))

/-- Address of fragment `f` of chunk `c` in the wire layout of a format. -/
def fragAddress (d : CollDesc) (base fmt c f : Nat) : Nat := base + (c * chunkFrags d.code d.fmtIn + f) * fragBytes fmt

/-- What a member reads for chunk `c`: its fragments, or with error feedback its FP32 elements and residuals (R385, R588). -/
def sourceRanges (d : CollDesc) (c : Nat) : List (Nat × Nat) :=
  let first := 4 * (c * chunkElems d.code d.fmtIn)
  if d.ef then [(d.src + first, 4 * chunkCount d c), (d.efAddr + first, 4 * chunkCount d c)]
  else (chunkFragments d c).flatMap fun x => (fragRanges d.fmtIn x.2).map fun r => (fragAddress d d.src d.fmtIn c x.1 + r.1, r.2)

/-- The plane of a chunk by PLANE_MAP (R287). -/
def chunkPlane (map c : Nat) : Bool := if map = 0 then decide (c % 2 = 1) else decide (map = 2)

/-! ## Ending a chunk (R298, R384, R385, R589) -/

/-- The completion record of a chunk (R298). -/
def collRecordWord (d : CollDesc) (resent : Bool) (st : Status) (count : Nat) (member : Option Nat) : Word :=
  withBits (withBits (withBits (withBits (withBits (withBits (withBits (withBits 0 63 63 1) 62 59 st.toNat) 58 58 (b2n d.late))
    57 57 (b2n resent)) 56 33 d.step) 32 18 count) 17 4 (member.getD 0)) 3 3 (b2n member.isSome)

/-- Writes a chunk's record. -/
def writeCollRecord (id c : Nat) (s : State) : State :=
  match collOf id c s with
  | some (d, k) => (match k.ended with
    | some (_, w) => memStore (.collRecord id c) false (d.comp + 8 * c) (leBytes 8 w.toNat) s
    | none => s)
  | none => s

/-- A chunk ends: residuals of an OK chunk with error feedback first, then the record. `stops`: its failure counts for
STOP_ON_ERR. -/
def endChunk (id c : Nat) (st : Status) (count : Nat) (member : Option Nat) (stops : Bool) (s : State) : State :=
  match collOf id c s with
  | none => s
  | some (d, k) =>
    if k.ended.isSome then s
    else
      let s1 := onCollChunk id c (fun k => { k with ended := some (st, collRecordWord d k.resent st count member)
                                                    backoff := false, srcFailed := none }) s
      let s2 := if decide (st ≠ stOk) && stops then
          onCollDesc id (fun d => { d with failed := if d.failed.isSome then d.failed else some st }) s1 else s1
      if d.ef && decide (st = stOk) then
        memStore (.collResidual id c) false (d.efAddr + 4 * (c * chunkElems d.code d.fmtIn)) k.residual s2
      else writeCollRecord id c s2

/-- The residuals have been written, or refused: then the record (R385). -/
def residualWritten (id c : Nat) (st : Status) (s : State) : State :=
  writeCollRecord id c (if st = stOk then s
    else onCollChunk id c (fun k => { k with ended := k.ended.map fun e => (st, withBits (withBits e.2 62 59 st.toNat) 32 18 0) }) s)

/-- A chunk's record has been written, or refused: the chunk is complete, and the descriptor after its last record (R288, R384). -/
def recordWritten (id c : Nat) (st : Status) (s : State) : State :=
  match collOf id c s with
  | none => s
  | some (d, k) =>
    let e := (k.ended.map fun e => e.1).getD stOk
    let s1 := onCollDesc id (fun d => { d with chunks := d.chunks.filter fun k => decide (k.chunk ≠ c) }) s
    let s2 := if e = stMismatch ∨ e = stAborted then raiseVector 4 s1 else s1
    let s3 := if st ≠ stOk then stopQueue 32 st s2 else s2
    if 1 < d.chunks.length then s3
    else
      let s4 := onColl (fun e => { e with descs := e.descs.filter fun x => decide (x.id ≠ id) }) s3
      let s5 := if qrd Fld.fxeDmaqIntEn 32 s4 = 1 then raiseVector 3 s4 else s4
      fetchColl (match d.failed with
        | some f => if qrd Fld.fxeDmaqStopOnErr 32 s5 = 1 then stopQueue 32 f s5 else s5
        | none => s5)

/-! ## Sending (R284 to R289) -/

/-- A finished packet leaves on a plane's least occupied port; while all are down, nothing does. -/
def sendPlane (plane : Bool) (p : Packet) (s : State) : State :=
  match epPick plane s with
  | some q => portSend .endpoint q p s
  | none => s

/-- A COLL_ABORT towards the root of a chunk (R285, R306). -/
def sendAbort (k : CollKey) (plane : Bool) (st : Status) (step c : Nat) (slot : List Byte) (count : Nat) (s : State) : State :=
  sendPlane plane (sealPacket (collPacket k (s.myEid .endpoint) plane 0x92 st step (collOffset c 0 0)
    (count % 2 ^ 15 + k.group * 2 ^ 15) slot [])) s

/-- The abort slot of an abort that the member itself raises for a chunk of its own. -/
def ownAbort (d : CollDesc) (culprit : Eid) (member : Option Nat) : List Byte :=
  abortBytes { digest := d.digest, culprit := culprit.toNat, member := member, first := d.member, step := false }

/-- A member asks for the result (R298). -/
def sendProbe (d : CollDesc) (k : CollChunk) (s : State) : State :=
  sendPlane k.plane (sealPacket (collPacket (descKey d) (s.myEid .endpoint) k.plane 0x93 stOk d.step
    (collOffset k.chunk 0 k.attempt) (1 + d.group * 2) [] [])) s

/-- The member reads its contribution to a chunk, once more where asked again (R304). -/
def readContribution (id c : Nat) (s : State) : State :=
  match collOf id c s with
  | none => s
  | some (d, k) =>
    startTxnWith (.collSrc id c (k.reads + 1)) false none
      ((sourceRanges d c).flatMap fun r => (pieces r.1 r.2).map fun x => (MqOp.read, x.1, x.2, []))
      (onCollChunk id c (fun k => { k with reads := k.reads + 1, reading := true, backoff := false }) s)

/-- FP32 words of a byte list. -/
def wordsOf (n : Nat) (l : List Byte) : List (BitVec 32) := (List.range n).map fun i => BitVec.ofNat 32 (leNat (slice l (4 * i) 4))

/-- Fragment payloads cut from the bytes read for a chunk. -/
def cutFragments (fmt : Nat) : List (Nat × Nat) → List Byte → List (List Byte)
  | [], _ => []
  | x :: xs, data =>
    let n := ((fragRanges fmt x.2).map fun r => r.2).sum
    fragJoin fmt x.2 (data.take n) :: cutFragments fmt xs (data.drop n)

/-- The payloads of a contribution and the residuals it leaves (R385). -/
def contribution (d : CollDesc) (c : Nat) (data : List Byte) : List (List Byte) × List Byte :=
  let fr := chunkFragments d c
  if d.ef then
    let n := chunkCount d c
    let x := wordsOf n data
    let r := wordsOf n (data.drop (4 * n))
    let y := (List.range n).map fun i => fadd (x.getD i 0) (r.getD i 0)
    let fe := fragElems d.fmtIn
    let pay := fr.map fun f =>
      (fragEncode d.fmtIn (fun _ => .rne) ((List.range fe).map fun i => (y.getD (fe * f.1 + i) 0).toNat)).1
    let dec := (pay.flatMap fun p => fragDecode d.fmtIn p).take n
    (pay, (List.range n).flatMap fun i => leBytes 4 (fsub (y.getD i 0) (BitVec.ofNat 32 (dec.getD i 0))).toNat)
  else (cutFragments d.fmtIn fr data, [])

/-- The member's read of a contribution is answered: the whole contribution leaves, in ascending fragment order (R289); a failure
waits to end the chunk (R589). -/
def takeContribution (id c read : Nat) (st : Status) (data : List Byte) (s : State) : State :=
  match collOf id c s with
  | none => s
  | some (d, k) =>
    if k.ended.isSome || decide (k.reads ≠ read) then s
    else if st ≠ stOk then onCollChunk id c (fun k => { k with reading := false, srcFailed := some st }) s
    else
      let r := contribution d c data
      let s1 := onCollChunk id c (fun k => { k with reading := false, residual := r.2 }) s
      let ps := collPackets (descKey d) (s.myEid .endpoint) k.plane 0x90 d.step c k.attempt (d.member + 2 ^ 14) d.digest r.1
      if ps.any fun p => sendRefused .endpoint p s1 then s1
      else ps.foldl (fun s p => sendPlane k.plane (finishColl .endpoint d.group p s) s) s1

/-! ## Launch (R287 to R291, R383) -/

/-- Chunks of a context that are launched on a plane and not complete (R289). -/
def chunksOut (g : Nat) (plane : Bool) (s : State) : Nat :=
  (s.e.coll.descs.map fun d => if d.ctx = g then (d.chunks.filter fun k => k.launched && decide (k.plane = plane)).length else 0).sum

/-- The next chunk of a context to launch on a plane: that of its oldest descriptor that has one (R384). -/
def nextChunk (g : Nat) (plane : Bool) (s : State) : Option (CollDesc × CollChunk) :=
  let open_ := fun (d : CollDesc) => d.chunks.find? fun k => !k.launched && k.ended.isNone && decide (k.plane = plane)
  (s.e.coll.descs.find? fun d => decide (d.ctx = g) && (open_ d).isSome).bind fun d => (open_ d).map fun k => (d, k)

/-- The statuses that complete a chunk unsent: no EID (R354), keys that may not be used (R501, R502), a slot under retirement
(R509). -/
def launchRefused (d : CollDesc) (s : State) : List Status :=
  let p := collPacket (descKey d) 0 false 0x90 stOk d.step 0 0 [] [0]
  (if s.rdb .endpoint Fld.fxeIdValid then [] else [stResource])
    ++ (if d.dclass ≠ 0 ∧ 2 ^ 24 ≤ smapGet s.e.coll.steps 0 d.ctx then [stResource] else [])
    ++ (if sendRefused .endpoint p s then [stAccessDenied] else [])
    ++ (if slotRetired .endpoint d.index d.epoch s then [stAborted] else [])

/-- A chunk launches, at the attempt recorded for it (R289, R304). -/
def launchChunk (d : CollDesc) (k : CollChunk) (s : State) : State :=
  match launchRefused d s with
  | [] =>
    let hit := fun (x : AttemptRecord) => decide (x.ctx = d.ctx) && decide (x.step = d.step) && decide (x.chunk = k.chunk)
    let a := ((s.e.coll.attempts.find? hit).map fun x => x.attempt).getD 0
    readContribution d.id k.chunk (onCollChunk d.id k.chunk (fun k => { k with launched := true, attempt := a })
      (onColl (fun e => { e with attempts := e.attempts.filter fun x => !hit x }) s))
  | l => endChunk d.id k.chunk (reportStatus l).1 0 none true s

/-- The failures of a descriptor (R288, R383, R385), the range's own apart. -/
def descFailures (b : List Byte) (g : Option Nat) (s : State) : List Status :=
  let f := fun a n => leNat (slice b a n)
  match g with
  | none => [stAccessDenied]
  | some g =>
    let op := f 5 1 % 16
    let fin := f 6 1 % 16
    let flags := f 7 1
    let map := flags / 4 % 4
    let differ := decide (op ≠ s.rd .endpoint Fld.fxeCollOp g) || decide (f 5 1 / 16 ≠ s.rd .endpoint Fld.fxeCollChunkCode g)
      || decide (fin ≠ s.rd .endpoint Fld.fxeCollFmtIn g) || decide (f 6 1 / 16 ≠ s.rd .endpoint Fld.fxeCollFmtDown g)
    let ef := flags.testBit 1 && !(decide (1 ≤ fin) && decide (fin ≤ 8))
    let used := (chunkPlane map (f 13 3)) :: (if f 13 3 < f 16 3 then [chunkPlane map (f 13 3 + 1)] else [])
    let noPlane := used.any fun p => !(s.rd .endpoint Fld.fxeCollPlanes g).testBit (b2n p)
    if differ || !opFormats op fin (f 6 1 / 16) || decide (map = 3) || decide (32 ≤ flags) || decide (f 19 5 ≠ 0) || ef || noPlane then
      [stVersion] else []

/-- The chunk range of a descriptor holds (R288). -/
def rangeValid (b : List Byte) : Bool :=
  let f := fun a n => leNat (slice b a n)
  let code := f 5 1 / 16
  let fin := f 6 1 % 16
  if 8 < code || !fmtAssigned fin then false
  else
    let e := chunkElems code fin
    decide (f 8 5 ≠ 0) && decide (f 13 3 ≤ f 16 3) && decide (f 16 3 * e < f 8 5) && decide (f 8 5 ≤ 2 ^ 24 * e)

/-- A descriptor from its bytes and the entry of FXE.COLL that it uses. -/
def descOf (b : List Byte) (g : Nat) (chunks : List Nat) (s : State) : CollDesc :=
  let f := fun a n => leNat (slice b a n)
  let r := fun x => s.rd .endpoint x g
  { id := s.e.coll.nextDesc, ctx := g, group := f 0 2, step := f 2 3, fmtIn := f 6 1 % 16, fmtDown := f 6 1 / 16, code := f 5 1 / 16
    ef := (f 7 1).testBit 1, count := f 8 5, src := f 24 8, dst := f 32 8, comp := f 40 8, efAddr := f 48 8
    digest := collDigest (f 0 2) (f 2 3) (f 5 1) (f 6 1) (f 8 5)
    members := r Fld.fxeCollMembers, member := r Fld.fxeCollMember, window := r Fld.fxeCollW
    index := r Fld.fxeCollKeyIndex, epoch := r Fld.fxeCollKeyEpoch, dclass := r Fld.fxeCollDclass
    chunks := chunks.map fun c => { chunk := c, plane := chunkPlane (f 7 1 / 4 % 4) c } }

/-- The step is noted as launched (R304, R501). -/
def noteStep (g step : Nat) (s : State) : State :=
  onColl (fun e =>
    let last := smapGet? e.lastStep g
    { e with
      lastStep := if last.all fun w => laterStep step w then smapSet e.lastStep g step else e.lastStep
      steps := if last = some step then e.steps else smapSet e.steps g (smapGet e.steps 0 g + 1) }) s

/-- TIMED (R291, R389): when the descriptor waits, and whether it is late. -/
def timedStart (b : List Byte) (s : State) : Option Nat × Bool :=
  let t := leNat (slice b 56 8)
  if !(leNat (slice b 7 1)).testBit 0 then (none, false)
  else if !s.e.ftValid || decide (t ≤ s.endpoint.time / 65536) then (none, true)
  else (some t, false)

/-- A collective descriptor without CANCEL is checked (R288): its chunks become active, or complete with its failure. -/
def acceptDesc (b : List Byte) (s : State) : State :=
  let g := collCtx (leNat (slice b 0 2)) s
  let ok := rangeValid b
  let bad := descFailures b g s ++ (if ok then [] else [stResource])
  let first := leNat (slice b 13 3)
  let chunks := if ok then (List.range (leNat (slice b 16 3) + 1 - first)).map fun i => first + i else [first]
  let t := timedStart b s
  let d := { descOf b (g.getD 0) chunks s with startAt := t.1, late := t.2 }
  let s1 := onColl (fun e => { e with nextDesc := e.nextDesc + 1, descs := e.descs ++ [d] }) s
  match bad with
  | [] => noteStep d.ctx d.step s1
  | l => chunks.foldl (fun s c => endChunk d.id c (reportStatus l).1 0 none true s)
      (onCollDesc d.id (fun d => { d with late := false, startAt := none }) s1)

/-! ## Aborts, cancels, resends (R292, R300, R304, R306, R307) -/

/-- A step-scope abort or cancel is recorded: the last 16 of a context, and the step's attempt records end (R304). -/
def keepAbort (g step : Nat) (st : Status) (slot : List Byte) (count : Nat) (s : State) : State :=
  onColl (fun e =>
    let l := (smapGet e.aborts [] g).filter (fun x => decide (x.step ≠ step))
      ++ [{ step := step, status := st, slot := slot, count := count }]
    { e with aborts := smapSet e.aborts g (l.drop (l.length - 16))
             attempts := e.attempts.filter fun x => !(decide (x.ctx = g) && decide (x.step = step)) }) s

/-- Chunks that are not complete, among the descriptors and chunks chosen, end. -/
def endChunks (hit : CollDesc → CollChunk → Bool) (st : Status) (count : Nat) (member : Option Nat) (s : State) : State :=
  (s.e.coll.descs.flatMap fun d => (d.chunks.filter fun k => k.ended.isNone && hit d k).map fun k => (d.id, k.chunk)).foldl
    (fun s x => endChunk x.1 x.2 st count member true s) s

/-- A descriptor with CANCEL (R292). -/
def cancelStep (group step : Nat) (s : State) : State :=
  match collCtx group s with
  | none => s
  | some g =>
    let me := s.rd .endpoint Fld.fxeCollMember g
    let slot := abortBytes { digest := 0, culprit := (s.myEid .endpoint).toNat, member := some me, first := 0, step := true }
    endChunks (fun d _ => decide (d.ctx = g) && decide (d.step = step)) stAborted 0 none (keepAbort g step stAborted slot 0 s)

/-- A COLL_ABORT reaches a member (R306). -/
def takeAbort (p : Packet) (s : State) : State :=
  match (collGroup p).bind fun group => collCtx group s with
  | none => s
  | some g =>
    let a := abortSlot p.ext
    let count := p.opx.toNat % 2 ^ 15
    let step := p.xseq.toNat
    let s1 := if a.step then keepAbort g step (receivedStatus p.status) p.ext count s else s
    endChunks (fun d k => decide (d.ctx = g) && decide (d.step = step) && (a.step || decide (k.chunk = collChunk p)))
      (receivedStatus p.status) count a.member s1

/-- A refusal of a module (R300): the contribution is to be sent again later, or at the ninth the member gives up. -/
def refusedChunk (d : CollDesc) (k : CollChunk) (refuser : Eid) (s : State) : State :=
  if k.gaveUp then s
  else if k.refusals < 8 then onCollChunk d.id k.chunk (fun k => { k with refusals := k.refusals + 1, backoff := true }) s
  else
    sendAbort (descKey d) k.plane stRetryLater d.step k.chunk (ownAbort d refuser none) 0
      (onCollChunk d.id k.chunk (fun k => { k with refusals := k.refusals + 1, backoff := false, gaveUp := true }) s)

/-- An attempt is recorded for a chunk not yet launched, while the context keeps fewer than 256 (R304). -/
def keepAttempt (g step c attempt : Nat) (s : State) : State :=
  onColl (fun e =>
    let l := e.attempts.filter fun x => !(decide (x.ctx = g) && decide (x.step = step) && decide (x.chunk = c))
    if (l.filter fun x => decide (x.ctx = g)).length < 256 then
      { e with attempts := l ++ [{ ctx := g, step := step, chunk := c, attempt := attempt }] } else e) s

/-- A COLL_RESEND with WANT 0 reaches a member: the first row of R304 that applies. -/
def takeResend (p : Packet) (s : State) : State :=
  let step := p.xseq.toNat
  let c := collChunk p
  match (collGroup p).bind fun group => collCtx group s with
  | none => s
  | some g =>
    match (smapGet s.e.coll.aborts [] g).find? fun x => decide (x.step = step) with
    | some x => sendAbort (entryKey g s) p.plane x.status step c x.slot x.count s
    | none =>
      let ds := s.e.coll.descs.filter fun d => decide (d.ctx = g) && decide (d.step = step)
      match (ds.flatMap fun d => d.chunks.map fun k => (d, k)).find? fun x => decide (x.2.chunk = c) with
      | some (d, k) =>
        if k.ended.isSome then s
        else if !k.launched then (if p.status = stRetryLater then s else keepAttempt g step c (collAttempt p) s)
        else if p.status = stRetryLater then refusedChunk d k p.src s
        else readContribution d.id c (onCollChunk d.id c (fun k => { k with attempt := collAttempt p }) s)
      | none =>
        if p.status ≠ stRetryLater && (smapGet? s.e.coll.lastStep g).all (fun w => laterStep step w) then
          keepAttempt g step c (collAttempt p) s
        else s

/-- A plane has become unusable: its chunks that are not complete end (R307). -/
def planeChunksEnd (plane : Bool) (s : State) : State := endChunks (fun _ k => decide (k.plane = plane)) stAborted 0 none s

/-! ## Results (R298) -/

/-- The chunk a result fragment belongs to: by its digest, step and chunk (R285). -/
def resultChunk (p : Packet) (s : State) : Option (CollDesc × CollChunk) :=
  let ok := fun (d : CollDesc) => decide (d.step = p.xseq.toNat) && decide (d.digest = slotDigest p)
    && (!isGroupEid p.dst || decide (p.dst = groupEid 0 d.group))
  ((s.e.coll.descs.filter ok).flatMap fun d => d.chunks.map fun k => (d, k)).find? fun x =>
    decide (x.2.chunk = collChunk p) && x.2.launched && x.2.ended.isNone && !x.2.verified

/-- The chunk's last write is done, and its value has matched: it completes with OK. -/
def completeVerified (id c : Nat) (s : State) : State :=
  match collOf id c s with
  | some (d, k) => if k.verified && decide (k.writes = 0) then endChunk id c stOk d.members none true s else s
  | none => s

/-- All fragments have arrived: the check value decides (R298). -/
def verifyChunk (d : CollDesc) (k : CollChunk) (s : State) : State :=
  let n := (chunkFragments d k.chunk).length
  let frags := (List.range n).map fun f => smapGet? k.got f
  if frags.any fun f => f.isNone then s
  else if k.check = some (checkValue (frags.filterMap fun f => f)) then
    completeVerified d.id k.chunk (onCollChunk d.id k.chunk (fun k => { k with verified := true }) s)
  else onCollChunk d.id k.chunk (fun k => { k with got := [], check := none }) s

/-- A decrypted result fragment: written to DST, and its part in the check (R298, R588). -/
def takeFragment (d : CollDesc) (k : CollChunk) (p : Packet) (s : State) : State :=
  let f := collFrag p
  match (chunkFragments d k.chunk).find? fun x => decide (x.1 = f) with
  | none => s
  | some (_, n) =>
    let body := fitTo (fragBytes d.fmtDown) p.payload
    let cut := fragCut d.fmtDown n body
    let ranges := fragRanges d.fmtDown n
    let last := decide (f + 1 = (chunkFragments d k.chunk).length)
    let k1 := { k with got := smapSet k.got f p.payload, writes := k.writes + ranges.length, resent := k.resent || p.opx.getLsbD 30
                       check := if last then some (slotCheck p) else k.check }
    let s1 := onCollChunk d.id k.chunk (fun _ => k1) s
    verifyChunk d k1 (ranges.foldl (fun s r => memStore (.collDst d.id k.chunk) false
      (fragAddress d d.dst d.fmtDown k.chunk f + r.1) (slice cut r.1 r.2) s) s1)

/-- A write to DST is answered: a refusal ends the chunk (R589). -/
def resultWritten (id c : Nat) (st : Status) (s : State) : State :=
  let s1 := onCollChunk id c (fun k => { k with writes := k.writes - 1 }) s
  if st ≠ stOk then endChunk id c st 0 none false s1 else completeVerified id c s1

/-- A COLL_RESULT reaches a member: decrypted where it is encrypted (R501). -/
def takeResult (p : Packet) (s : State) : State :=
  match resultChunk p s with
  | none => s
  | some (d, k) =>
    match openColl .endpoint d.group p s with
    | .ok q => takeFragment d k q s
    | .denied => bump .endpoint .secNokeyCnt 0 s
    | .stale => s
    | .badTag => bump .endpoint .secTagFailCnt 0 s

end Sys2Proof.Machine
end

