-- ==== Sys2Proof/Machine/AptOps.lean ====
section
/-! DEFINITION. The fabric aperture of BAR2 (R558 to R560). -/

namespace Sys2Proof.Machine

/-- The issue context of an aperture window (R559). The module numbers its contexts: queues 0 to 71, puppet thread t of core c
72 + 16c + t, and window a 1,096 + a. -/
def aptCtx (a : Nat) : Nat := 1096 + a

/-- The state with the function changed. -/
def onPci (f : PciState → PciState) (s : State) : State := s.onM fun m => { m with pci := f m.pci }

/-- The GFA of a BAR2 offset (R558). -/
def aptGfa (off : Nat) (s : State) : Nat := s.rd .module Fld.pciAptGfaHi (off / 2 ^ 30) * 2 ^ 30 + off % 2 ^ 30

/-- The status that refuses an access at the window (R558). -/
def aptRefuses (write : Bool) (off : Nat) (s : State) : Option Status :=
  let a := off / 2 ^ 30
  if !s.rdb .module Fld.pciAptValid a then some stNoWindow
  else if (if write then s.rdb .module Fld.pciAptWrite a else s.rdb .module Fld.pciAptRead a) then none else some stAccessDenied

/-- A failure of the aperture (R560): counted, latched where nothing is, source APERTURE. -/
def aptFail (write : Bool) (off : Nat) (st : Status) (s : State) : State :=
  let s1 := bump .module .pciAptErrCnt 0 s
  raiseSource 80 (if s1.rdb .module Fld.pciAptErrValid then s1
    else (((s1.wrb .module Fld.pciAptErrValid 0 true).wr .module Fld.pciAptErrStatus 0 st.toNat).wrb .module Fld.pciAptErrWrite 0 write).wr
      .module Fld.pciAptErrOffset 0 off)

/-- Pieces of an access at the 256-byte boundaries of its GFA: (distance from the start, bytes). -/
def aptPieces (gfa : Nat) : Nat → Nat → Nat → List (Nat × Nat)
  | 0, _, _ => []
  | fuel + 1, done, left =>
    if left = 0 then []
    else
      let n := min left (256 - (gfa + done) % 256)
      (done, n) :: aptPieces gfa fuel (done + n) (left - n)

/-- A piece of an access as a packet (R558, R559). -/
def aptPacket (t : AptTlp) (c : Nat × Nat) (data : List Byte) (s : State) : Packet :=
  let g := t.gfa + c.1
  { dst := BitVec.ofNat 20 (g / 2 ^ 44), src := s.myEid .module, opcode := if t.write then 0x62 else 0x60, tc := 3
    plane := s.rdb .module Fld.glbRolePlane, stream := BitVec.ofNat 4 (s.rd .module Fld.pciAptStream t.window)
    keyIndex := BitVec.ofNat 13 (s.rd .module Fld.pciAptKeyIndex t.window)
    keyEpoch := BitVec.ofNat 4 (s.rd .module Fld.pciAptKeyEpoch t.window), offset := BitVec.ofNat 44 g
    opx := if t.write then 0 else BitVec.ofNat 32 (c.2 - 1), payload := slice data c.1 c.2 }

/-- A write piece of a window is incomplete that was issued before an operation. -/
def aptWriteBefore (a id : Nat) (s : State) : Bool :=
  (s.xpt .module).ops.any fun o => decide (o.id < id) && decide (o.ctx = some (aptCtx a)) && decide (o.pkt.opcode = 0x62)

/-- The pieces of an access are issued; a read piece waits for the earlier write pieces of its window (R559). -/
def startApt (t : AptTlp) (data : List Byte) (s : State) : State :=
  let cuts := aptPieces t.gfa (t.len / 256 + 2) 0 t.len
  let s1 := onPci (fun p => { p with apt := p.apt.map fun x => if x.id = t.id then { x with started := true, left := cuts.length } else x }) s
  cuts.foldl (fun s c =>
    let ready := t.write || !aptWriteBefore t.window (nextOpId .module s) s
    issueOp .module (some (aptCtx t.window)) (.aperture t.id c.1) ready (aptPacket t c data s) s) s1

/-- A new access to BAR2: reads past the 256th wait (R559). -/
def newApt (write : Bool) (off len : Nat) (data : List Byte) (s : State) : State :=
  match aptRefuses write off s with
  | some st => let s1 := aptFail write off st s; if write then s1 else s1.emit .module (.hostCompletion (List.replicate len 0xFF))
  | none =>
    let t : AptTlp := { id := s.m.pci.nextApt, window := off / 2 ^ 30, write := write, offset := off, gfa := aptGfa off s, len := len
                        data := List.replicate (if write then 0 else len) 0xFF }
    let s1 := onPci (fun p => { p with nextApt := p.nextApt + 1, apt := p.apt ++ [t] }) s
    if write || decide ((s.m.pci.apt.filter fun x => !x.write && x.started).length < 256) then startApt t data s1 else s1

/-- Read pieces that no earlier write piece of their window holds back any more leave; a read that waited for a place starts. -/
def wakeApt (s : State) : State :=
  let held := (s.xpt .module).ops.filter fun o => match o.use with
    | .aperture _ _ => !o.ready
    | _ => false
  let s1 := held.foldl (fun s o => match o.ctx with
    | some c => if aptWriteBefore (c - aptCtx 0) o.id s then s else readyOp .module o.id [] s
    | none => s) s
  match s1.m.pci.apt.find? fun t => !t.started with
  | some t => if (s1.m.pci.apt.filter fun x => !x.write && x.started).length < 256 then startApt t [] s1 else s1
  | none => s1

/-- The function enters D3hot once no aperture read is outstanding (R568). -/
def settleD3 (s : State) : State :=
  if s.m.pci.d3Due && s.m.pci.apt.all (fun t => t.write) then
    (onPci (fun p => { p with d3Due := false }) s).wr .module Fld.pciStatusDState 0 3
  else s

/-- A piece of an access has completed (R560). -/
def aptDone (id piece : Nat) (f : Finished) (s : State) : State :=
  match s.m.pci.apt.find? fun t => decide (t.id = id) with
  | none => s
  | some t =>
    let s1 := if f.status = stOk then s else aptFail t.write (t.offset + piece) f.status s
    let data := if f.status = stOk ∧ t.write = false then
        t.data.take piece ++ f.data ++ t.data.drop (piece + f.data.length) else t.data
    let t1 := { t with data := data, left := t.left - 1 }
    if t1.left = 0 then
      let s2 := onPci (fun p => { p with apt := p.apt.filter fun x => decide (x.id ≠ id) }) s1
      settleD3 (wakeApt (if t.write then s2 else s2.emit .module (.hostCompletion t1.data)))
    else wakeApt (onPci (fun p => { p with apt := p.apt.map fun x => if x.id = id then t1 else x }) s1)

end Sys2Proof.Machine
end

