-- ==== Sys2Proof/Machine/DominoOps.lean ====
section
/-! DEFINITION. Domino chains (R375 to R379): counters, triggered operations and segments. -/

namespace Sys2Proof.Machine

/-! ## Counters (R375) -/

/-- VALUE of a counter, and whether it is in error. -/
def domValue (n : Nat) (s : State) : Nat := s.rd .endpoint Fld.fxeDomCtrValue n
def domErr (n : Nat) (s : State) : Bool := s.rdb .endpoint Fld.fxeDomCtrErr n

/-- Places in use: PENDING of FXE.DOM_STATUS (R394). -/
def domPlaces (e : EndpointState) : Nat := e.trig.length + e.reached.length + e.fired.length

/-- PENDING follows the places in use. -/
def domPending (s : State) : State := s.wr .endpoint Fld.fxeDomStatusPending 0 (domPlaces s.e)

/-- The operations that wait on a counter whose threshold its VALUE has reached are marked, in posting order (R377). -/
def domReach (n : Nat) (s : State) : State :=
  if domErr n s then s
  else
    let v := domValue n s
    let hit := fun (t : TrigOp) => decide (t.counter = n) && decide (t.threshold ≤ v)
    s.onE fun e => { e with reached := e.reached ++ e.trig.filter hit, trig := e.trig.filter fun t => !hit t }

/-- Operations that wait on a counter in error are discarded and counted (R379). -/
def domDiscard (n : Nat) (s : State) : State :=
  let k := (s.e.trig.filter fun t => decide (t.counter = n)).length
  domPending (saturate .endpoint Fld.fxeDomStatusDiscardCnt 0 k
    (s.onE fun e => { e with trig := e.trig.filter fun t => decide (t.counter ≠ n) }))

/-- A counter's error (R378, R379): ERR with the status, the event and vector 5. -/
def domFail (n : Nat) (st : Status) (s : State) : State :=
  let s1 := (s.wr .endpoint Fld.fxeDomCtrErrStatus n st.toNat).wrb .endpoint Fld.fxeDomCtrErr n true
  domDiscard n (raiseVector 5 (logEvent .endpoint { code := 0xC3, severity := 2, block := 0x7F, arg0 := n, arg1 := st.toNat } s1))

/-- A counter increases by one, modulo 2^32. -/
def domCount (n : Nat) (s : State) : State := domReach n (s.wr .endpoint Fld.fxeDomCtrValue n (domValue n s + 1))

/-- The check state of a counter that has taken no byte: the CRC-64 register's initial value (R117). -/
def checkStart : Word := 0xFFFFFFFFFFFFFFFF

/-- The check state of a counter. -/
def domCheck (n : Nat) (s : State) : Word := smapGet s.e.domCheck checkStart n

/-- The state with a counter's check state set. -/
def setDomCheck (n : Nat) (v : Word) (s : State) : State := s.onE fun e => { e with domCheck := smapPut e.domCheck checkStart n v }

/-- A write to VALUE: it clears ERR and resets the check state, and each operation that waits is compared again (R375, R391). -/
def domWrite (n v : Nat) (s : State) : State :=
  domReach n (setDomCheck n checkStart
    (((s.wr .endpoint Fld.fxeDomCtrValue n v).wrb .endpoint Fld.fxeDomCtrErr n false).wr .endpoint Fld.fxeDomCtrErrStatus n 0))

/-! ## Posting (R376) -/

/-- The descriptor of a triggered operation. -/
def trigOf (d : List Byte) (id : Nat) : TrigOp :=
  let f := fun a n => leNat (slice d a n)
  { id := id, threshold := f 0 4, counter := f 4 2 % 1024, action := f 4 2 / 2 ^ 10 % 16, reduce := (f 4 2).testBit 14
    done := if (f 6 2).testBit 10 then some (f 6 2 % 1024) else none, op := f 6 2 / 2 ^ 11 % 16, fmt := f 8 1 % 16
    stream := BitVec.ofNat 4 (f 8 1 / 16), ctx := f 9 1 % 128, dst := BitVec.ofNat 20 (f 12 4), rcounter := f 12 4 / 2 ^ 20 % 1024
    dstAddr := f 16 8, src := f 24 8, digest := f 32 8, len := f 40 8 }

/-- A field of the descriptor is reserved, or a SEND names STREAM 0 (R376). -/
def trigReserved (d : List Byte) : Bool :=
  let t := trigOf d 0
  let f := fun a n => leNat (slice d a n)
  decide (d.length ≠ 64) || decide (4 ≤ t.action) || (f 4 2).testBit 15 || (f 6 2).testBit 15 || (f 9 1).testBit 7
    || decide (f 10 2 ≠ 0) || decide (2 ^ 30 ≤ f 12 4) || ((d.drop 48).any fun b => decide (b ≠ 0))
    || (decide (t.action = 0) && (decide (t.stream = 0) || decide (96 ≤ t.ctx)))
    || ((decide (t.action = 1) || (decide (t.action = 0) && t.reduce)) && !reduceServed t.op t.fmt)
    || (decide (t.action ≤ 1) && (decide (t.len = 0) || decide (2 ^ 32 ≤ t.len)))

/-- A post (R376): its status. -/
def postTrig (d : List Byte) (s : State) : Status × State :=
  if trigReserved d then (stAccessDenied, s)
  else if 4096 ≤ domPlaces s.e then (stResource, s)
  else
    let t := trigOf d s.e.nextTrig
    let s1 := s.onE fun e => { e with nextTrig := e.nextTrig + 1, trig := e.trig ++ [t] }
    (stOk, domPending (if domErr t.counter s1 then domDiscard t.counter s1 else domReach t.counter s1))

/-! ## Firing (R377) -/

/-- A fired operation's parts: some end, with the statuses that were not OK. -/
def trigEnds (id k : Nat) (st : Status) (s : State) : State :=
  s.onE fun e => { e with fired := e.fired.map fun r => if r.op.id = id then
    { r with left := r.left - k, statuses := if st = stOk then r.statuses else r.statuses ++ [st] } else r }

/-- A fired operation waits for that many parts. -/
def trigWaits (id k : Nat) (s : State) : State :=
  s.onE fun e => { e with fired := e.fired.map fun r => if r.op.id = id then { r with left := k } else r }

/-- The segments of a SEND (R311, R377), in ascending offset; the last carries LAST and the CRC-64 of all payloads. -/
def sendSegments (t : TrigOp) (data : List Byte) (s : State) : State :=
  let cuts := pageCuts t.dstAddr data.length
  let opx := t.rcounter + b2n t.reduce * 2 ^ 10 + t.op * 2 ^ 11 + t.fmt * 2 ^ 15
  cuts.foldl (fun s c =>
    let last := decide (c.1 + c.2 = data.length)
    let p := ctxPacket t.ctx t.dst 0x94 t.stream (t.dstAddr + c.1) (opx + b2n last * 2 ^ 19) (slice data c.1 c.2) s
    issueOp .endpoint none (.domino t.id) true
      { p with ext := leBytes 8 t.digest ++ (if last then leBytes 8 (crc64 data).toNat else zeros 8) } s)
    (trigWaits t.id cuts.length s)

/-- The first operation that has reached its threshold fires (R377). -/
def fireTrig (s : State) : State :=
  match s.e.reached with
  | [] => s
  | t :: l =>
    let s1 := s.onE fun e => { e with reached := l, fired := e.fired ++ [{ op := t, left := 1 }] }
    match t.action with
    | 0 =>
      match sendChecks t.ctx t.dst 0x94 t.stream.toNat s with
      | [] => memLoad (.domSend t.id) t.src t.len s1
      | st => trigEnds t.id 1 (reportStatus st).1 s1
    | 1 =>
      if t.dstAddr % reduceBytes t.fmt = 0 ∧ t.len % reduceBytes t.fmt = 0 then memLoad (.domReduce t.id) t.src t.len s1
      else trigEnds t.id 1 stAccessDenied s1
    | 2 => memStore (.domWord t.id) false t.dstAddr (leBytes 8 t.len) s1
    | _ => trigEnds t.id 1 stOk s1

/-- The data of a fired operation has been read: a SEND sends it, a LOCAL_REDUCE reduces it. -/
def trigData (id : Nat) (send : Bool) (st : Status) (data : List Byte) (s : State) : State :=
  match s.e.fired.find? fun r => decide (r.op.id = id) with
  | none => s
  | some r =>
    if st ≠ stOk then trigEnds id 1 st s
    else if send then sendSegments r.op data s
    else startJob (.localReduce id) r.op.dstAddr r.op.op r.op.fmt data s

/-- A fired operation completes (R377, R379): its place is freed and DONE_COUNTER counts, or the error is set. -/
def completeTrig (r : TrigRun) (s : State) : State :=
  let s1 := domPending (s.onE fun e => { e with fired := e.fired.filter fun x => decide (x.op.id ≠ r.op.id) })
  match r.statuses, r.op.done with
  | [], some n => domPending (domCount n s1)
  | [], none => s1
  | l, d => domFail (d.getD r.op.counter) (reportStatus l).1 s1

/-! ## Segments at the receiver (R311, R378) -/

/-- The counter a segment names. -/
def segmentCounter (p : Packet) : Nat := p.opx.toNat % 1024

/-- A segment ends: with a status it is refused by XPT_NACK; it counts as delivered either way. A failed tag is not delivered
(R192, R501). -/
def refuseSegment (p : Packet) (st : Status) (s : State) : State :=
  if st = stCheckFail then
    sendNack .endpoint st p (s.onXpt .endpoint fun x => { x with work := x.work.filter fun w => !sameSeq w.pkt p })
  else deliver .endpoint p (sendNack .endpoint st p s)

/-- What refuses a segment that passed R222: a counter in error, or another digest (R311, R378); R14 chooses. -/
def segmentChecks (p : Packet) (s : State) : List Status :=
  let n := segmentCounter p
  (if domErr n s then [stAborted] else [])
    ++ (if leNat (p.ext.take 8) = s.rd .endpoint Fld.fxeDomCtrDigest n then [] else [stMismatch])

/-- A checked segment begins to be applied. -/
def applySegment (port : Nat) (p : Packet) (addr : Nat) (s : State) : State :=
  let s1 := startWork .endpoint p s
  if p.opx.getLsbD 10 then startJob (.segment port p) addr (segmentOp p) (segmentFmt p) p.payload s1
  else memStore (.domSeg port p) p.poison addr p.payload s1

/-- A segment's bytes are in memory, or were refused there: the counter counts, and on LAST the check value is compared. -/
def segmentDone (p : Packet) (st : Status) (s : State) : State :=
  if st ≠ stOk then refuseSegment p st s
  else
    let n := segmentCounter p
    let c := p.payload.foldl crc64Byte (domCheck n s)
    let s1 := domCount n (setDomCheck n c s)
    let s2 := if p.opx.getLsbD 19 then
        let s3 := setDomCheck n checkStart s1
        if leNat (slice p.ext 8 8) = (~~~c).toNat then s3 else domFail n stCheckFail s3
      else s1
    deliver .endpoint p (domPending s2)

end Sys2Proof.Machine
end

