-- ==== Sys2Proof/Machine/Finish.lean ====
section
/-! DEFINITION. What follows when an operation of a source has completed: its user is told (R204, R229, R237, R359, R374, R377, R381,
R559). Engines and puppet threads take their own completions (MOVE, PUPPET_ACCESS_DONE). -/

namespace Sys2Proof.Machine

/-- A read-mostly line that a response brought joins the cache, where a way is free (R237, R373). -/
def fillLine (f : Finished) (s : State) : State :=
  let line := f.op.pkt.dst.toNat * 2 ^ 38 + f.op.pkt.offset.toNat / 64
  let fresh := !s.e.noFill.contains f.op.id
  let s1 := s.onE fun e => { e with noFill := e.noFill.filter fun i => decide (i ≠ f.op.id) }
  if f.cacheable && decide (f.status = stOk) && fresh && decide (f.data.length = 64) && (cached line s1).isNone
      && (cohRange (64 * line) s1).isNone then
    let s2 := makeWay line s1
    if setUsed line s2 < 16 then
      putLine { line := line, state := 1, readMostly := true, data := f.data, filledAt := s.now, used := 0 } s2
    else s2
  else s1

/-- An operation of the core port completes on XR (R359): load data, or 0xFF (R229). -/
def xqDone (ctx atag skip len : Nat) (f : Finished) (s : State) : State :=
  let op := f.op.pkt.opcode
  if op = 0x60 ∨ op = 0x61 then
    let s1 := if op = 0x61 then dropReadMostly (some f.op.pkt.dst) s else fillLine f s
    let s2 := if f.status = stTargetDead ∨ f.status = stTimeout then raiseVector 0 s1 else s1
    let ok := decide (f.status = stOk)
    xrDone ctx atag f.status (if ok then outApplied else outNotApplied) false false 0
      (if ok then fitTo len (slice f.data skip len) else List.replicate len 0xFF) s2
  else xrDone ctx atag f.status f.outcome f.cas f.replayed 0 f.data s

/-- One completed operation reaches its user. -/
def settleOne (_sd : Side) (f : Finished) (s : State) : State :=
  match f.op.use with
  | .xq ctx atag skip len => xqDone ctx atag skip len f s
  | .dma q serial => dmaPacketDone q serial f s
  | .domino id => trigEnds id 1 f.status s
  | .mirror r => s.onE fun e => { e with mirrored := e.mirrored ++ [(r, f.status)] }
  | .aperture id piece => aptDone id piece f s
  | .engine _ _ => s
  | .puppet _ _ => s
  | .telemetry _ => s
  | .none => s

/-- The completion stays with the transport until its engine or thread takes it. -/
def staysFinished (f : Finished) : Bool := match f.op.use with
  | .engine _ _ => true
  | .puppet _ _ => true
  | _ => false

/-- Completed operations are handed to their users, in order of completion. -/
def settleRun (sd : Side) : Nat → State → State
  | 0, s => s
  | fuel + 1, s =>
    match (s.xpt sd).finished.filter fun f => !staysFinished f with
    | [] => s
    | f :: _ => settleRun sd fuel (settleOne sd f (s.onXpt sd fun x => { x with finished := x.finished.erase f }))

/-- More hand-overs than one command can cause. -/
def settleFuel (sd : Side) (s : State) : Nat := 1 + (s.xpt sd).finished.length + 2 * (s.xpt sd).ops.length

/-- Every completed operation of a unit reaches its user. -/
def settle (sd : Side) (s : State) : State := settleRun sd (settleFuel sd s) s

/-- Both units. -/
def settleBoth (s : State) : State := settle .endpoint (settle .module s)

end Sys2Proof.Machine
end

