-- ==== Sys2Proof/Machine/CorePort.lean ====
section
/-! DEFINITION. The meanings of the core port's commands (11): operations on XQ, coherent operations, snoop answers, the atomic unit's
write-back and the plane maps. -/

namespace Sys2Proof.Machine

/-! ## Operations on XQ (R354, R358, R366) -/

/-- A command whose context's slot is under retirement is dropped and counted (R509); any other goes on. -/
def unlessRetired (ctx : Nat) (f : State → State) (s : State) : State :=
  if ctxRetired ctx s then bump .endpoint .secRetiredDropCnt 0 s else f s

/-- An operation on XQ: refused with the status that R14 reports, or issued. Refused loads carry 0xFF (R359). -/
def xqOp (ctx atag loadLen : Nat) (bad : List Status) (op : BitVec 8) (issue : State → State) (s : State) : State :=
  unlessRetired ctx (fun s =>
    match bad with
    | [] => settle .endpoint (issue s)
    | l =>
      let r := reportStatus l
      xrDone ctx atag r.1 outNotApplied false false 0 (List.replicate loadLen 0xFF) (noteAlso .endpoint r.1 r.2 op.toNat s)) s

/-- The bytes of an access lie in coherent ranges and the access is in stream 0 (R370, R371). -/
def coherentAccess (gfa len : Nat) (stream : BitVec 4) (s : State) : Bool :=
  decide (stream = 0) && (cohRange gfa s).isSome && (cohRange (gfa + len - 1) s).isSome

/-- XQ_LOAD (R237, R358, R371): `len` bytes from a GFA. -/
def execXqLoad (ctx atag gfa len : Nat) (stream : BitVec 4) (s : State) : Host.Outcome State Fault Refusal :=
  .next (xqOp ctx atag len (sendChecks ctx (gfaEid gfa) 0x60 stream.toNat s) 0x60 (fun s =>
    newAcc .load ctx atag gfa len (ctxPacket ctx (gfaEid gfa) 0x60 stream (gfaOff gfa) (len - 1) [] s) (List.replicate len 0)
      (coherentAccess gfa len stream s) s) s)

/-- XQ_LOAD_ACQ (R203, R238). -/
def execXqLoadAcq (ctx atag gfa len : Nat) (stream : BitVec 4) (s : State) : Host.Outcome State Fault Refusal :=
  .next (xqOp ctx atag len (sendChecks ctx (gfaEid gfa) 0x61 stream.toNat s) 0x61 (fun s =>
    issueOp .endpoint (some ctx) (.xq ctx atag 0 len) true
      (ctxPacket ctx (gfaEid gfa) 0x61 stream (gfaOff gfa) (len - 1) [] s) s) s)

/-- XQ_STORE (R358, R371). -/
def execXqStore (ctx atag gfa : Nat) (stream : BitVec 4) (data : List Byte) (s : State) : Host.Outcome State Fault Refusal :=
  .next (xqOp ctx atag 0 (sendChecks ctx (gfaEid gfa) 0x62 stream.toNat s) 0x62 (fun s =>
    newAcc .store ctx atag gfa data.length (ctxPacket ctx (gfaEid gfa) 0x62 stream (gfaOff gfa) 0 data s) data
      (coherentAccess gfa data.length stream s) s) s)

/-- A store of the block updates a read-mostly copy when it is issued (R237). -/
def patchReadMostly (gfa : Nat) (data : List Byte) (s : State) : State :=
  (linesOf gfa data.length).foldl (fun s l => match cached l s with
    | some c =>
      let lo := max gfa (64 * l)
      let hi := min (gfa + data.length) (64 * l + 64)
      if c.readMostly then putLine { c with data := patch c.data (lo - 64 * l) (slice data (lo - gfa) (hi - lo)) } s else s
    | none => s)
    (spoilFills (fun p => (linesOf gfa data.length).contains (p.dst.toNat * 2 ^ 38 + p.offset.toNat / 64)) s)

/-- XQ_STORE_FLAG (R202): it waits at its issue point for the earlier writes to its destination. -/
def execXqStoreFlag (ctx atag gfa : Nat) (stream : BitVec 4) (data : List Byte) (s : State) : Host.Outcome State Fault Refusal :=
  .next (xqOp ctx atag 0 (sendChecks ctx (gfaEid gfa) 0x63 stream.toNat s) 0x63 (fun s =>
    issueOp .endpoint (some ctx) (.xq ctx atag 0 0) true
      (ctxPacket ctx (gfaEid gfa) 0x63 stream (gfaOff gfa) 0 data s) (patchReadMostly gfa data s)) s)

/-- The operand of an atomic or reduce-store that is served is misaligned: the source refuses it (R219). -/
def misaligned (p : Packet) : List Status :=
  let n := if p.opcode = 0x66 then reduceBytes (typeField p) else atomicSize p
  if opServed p && decide (p.offset.toNat % n ≠ 0) then [stAccessDenied] else []

/-- An atomic or reduce-store on XQ. -/
def xqRmw (op : BitVec 8) (ctx atag gfa : Nat) (stream : BitVec 4) (aop : BitVec 8) (data : List Byte) (s : State) : State :=
  let p := ctxPacket ctx (gfaEid gfa) op stream (gfaOff gfa) aop.toNat data s
  xqOp ctx atag 0 (sendChecks ctx (gfaEid gfa) op stream.toNat s ++ misaligned p) op
    (issueOp .endpoint (some ctx) (.xq ctx atag 0 0) true p) s

/-- XQ_ATOMIC_INT (R358). -/
def execXqAtomicInt (ctx atag gfa : Nat) (stream : BitVec 4) (aop : BitVec 8) (data : List Byte) (s : State) :
    Host.Outcome State Fault Refusal := .next (xqRmw 0x64 ctx atag gfa stream aop data s)

/-- XQ_ATOMIC_FP (R358). -/
def execXqAtomicFp (ctx atag gfa : Nat) (stream : BitVec 4) (aop : BitVec 8) (data : List Byte) (s : State) :
    Host.Outcome State Fault Refusal := .next (xqRmw 0x65 ctx atag gfa stream aop data s)

/-- XQ_REDUCE_STORE (R358). -/
def execXqReduceStore (ctx atag gfa : Nat) (stream : BitVec 4) (aop : BitVec 8) (data : List Byte) (s : State) :
    Host.Outcome State Fault Refusal := .next (xqRmw 0x66 ctx atag gfa stream aop data s)

/-- RM_INV_ALL (R238, R358): no read-mostly line remains. -/
def execRmInvAll (ctx atag : Nat) (s : State) : Host.Outcome State Fault Refusal :=
  .next (xrStatus ctx atag stOk (dropReadMostly none s))

/-! ## Coherent operations (R371, R372) -/

/-- COH_RD and COH_RDOWN: the line of the GFA, or outside every range a LOAD of GFA and SIZE. -/
def cohAccess (kind : AccKind) (ctx atag gfa len : Nat) (s : State) : State :=
  let pkt := ctxPacket ctx (gfaEid gfa) 0x60 0 (gfaOff gfa) (len - 1) [] s
  let inside := (cohRange gfa s).isSome
  xqOp ctx atag (if inside then 0 else len) (sendChecks ctx (gfaEid gfa) 0x60 0 s) 0x60 (fun s =>
    if inside then newAcc kind ctx atag (gfa / 64 * 64) 64 pkt (zeros 64) true s
    else newAcc .load ctx atag gfa len pkt (List.replicate len 0) false s) s

/-- COH_RD (R371). -/
def execCohRd (ctx atag gfa len : Nat) (s : State) : Host.Outcome State Fault Refusal := .next (cohAccess .cohRead ctx atag gfa len s)

/-- COH_RDOWN (R371). -/
def execCohRdown (ctx atag gfa len : Nat) (s : State) : Host.Outcome State Fault Refusal := .next (cohAccess .cohOwn ctx atag gfa len s)

/-- COH_WB (R371): the dirty copy becomes the block's own in M; outside every range it is a STORE. The block has no copy only where the
accelerator broke the inclusion of R372; the operation is then refused. -/
def execCohWb (ctx atag gfa : Nat) (data : List Byte) (s : State) : Host.Outcome State Fault Refusal :=
  .next (xqOp ctx atag 0 (sendChecks ctx (gfaEid gfa) 0x62 0 s) 0x62 (fun s =>
    if (cohRange gfa s).isSome then
      match cached (gfaLine gfa) s with
      | some c =>
        if c.readMostly then xrStatus ctx atag stAccessDenied s
        else xrStatus ctx atag stOk (putLine { c with state := 4, data := fitTo 64 data, accel := 0 } s)
      | none => xrStatus ctx atag stAccessDenied s
    else newAcc .store ctx atag gfa data.length (ctxPacket ctx (gfaEid gfa) 0x62 0 (gfaOff gfa) 0 data s) data false s) s)

/-- COH_EVICT (R371): the accelerator drops a clean copy. -/
def execCohEvict (ctx atag gfa : Nat) (s : State) : Host.Outcome State Fault Refusal :=
  .next (if (cohRange gfa s).isSome then
      xqOp ctx atag 0 (sendChecks ctx (gfaEid gfa) 0x60 0 s) 0x60 (fun s =>
        xrStatus ctx atag stOk (match cached (gfaLine gfa) s with
          | some c => putLine { c with accel := 0 } s
          | none => s)) s
    else xrStatus ctx atag stOk s)

/-- SR_ANSWER (R372): the answer to an SQ snoop; `wb`: the COH_WB of the line that waited on XQ, which then completes with OK. -/
def execSrAnswer (stag : Nat) (dirty : Option (List Byte)) (newState : Nat) (wb : Option (Nat × Nat × List Byte)) (s : State) :
    Host.Outcome State Fault Refusal :=
  .next (match s.e.snoops.find? fun x => decide (x.stag = stag) with
    | none => s
    | some x =>
      let s1 := takeSr x (match wb with
        | some w => some w.2.2
        | none => dirty) newState s
      settle .endpoint (match wb with
        | some w => xrStatus w.1 w.2.1 stOk s1
        | none => s1))

/-- ATOMIC_LINE_WRITEBACK (R367, R368): a locked line goes back to accelerator memory. -/
def execAtomicLineWriteback (line : Nat) (s : State) : Host.Outcome State Fault Refusal := .next (releaseLine line s)

/-! ## Plane maps (R355) -/

/-- PLANE_DOWN_WRITE (R355): a word of a plane reachability map is written; streams on a plane now unusable take their barrier. -/
def execPlaneDownWrite (path : Path) (plane : Bool) (i : Nat) (value : Word) (s : State) : Host.Outcome State Fault Refusal :=
  let r : Reg := if plane then .fxePlaneDownB else .fxePlaneDownA
  .next (rwl .endpoint path (regOffset .endpoint r i 0) value.toNat (fun s =>
    settle .endpoint (settlePlanes .endpoint (s.setWord .endpoint r i 0 value))) s)

end Sys2Proof.Machine
end

