-- ==== Sys2Proof/Machine/Requests.lean ====
section
/-! DEFINITION. A sequenced packet at its destination: its reception (R69, R185), the answers to duplicates (R190) and the service of
requests (R213 to R226, R231 to R236, R367, R368). -/

namespace Sys2Proof.Machine

/-- CACHEABLE of a load that passed its checks (R237). -/
def loadCacheable (p : Packet) (readMostly : Bool) : Bool :=
  readMostly && decide (p.opcode = 0x60) && decide (p.offset.toNat % 64 = 0) && decide (requestBytes p = 64)

/-- A checked read of the bytes of a request: at the home where coherent lines are touched, in the module's memory, or through the
core port. `again`: a duplicate that only reads again. -/
def serveRead (sd : Side) (port : Nat) (p : Packet) (addr : Nat) (place : Place) (readMostly again : Bool) (s : State) : State :=
  match sd with
  | .endpoint => memLoad (.load port p (loadCacheable p readMostly) again) addr (requestBytes p) s
  | .module =>
    if decide (place = .ddr) && !(accessLines p s).isEmpty then submitHome (.access port p addr again) s
    else
      let r := moduleApply p addr place readMostly s
      if again then sendResponse .module p r.1.status r.1.payload r.1.opx r.2 else endAccess .module p r.1 r.2

/-- A checked write, atomic or reduction. -/
def serveWrite (sd : Side) (port : Nat) (p : Packet) (addr : Nat) (place : Place) (s : State) : State :=
  match sd with
  | .module =>
    if decide (place = .ddr) && !(accessLines p s).isEmpty then submitHome (.access port p addr false) s
    else
      let r := moduleApply p addr place false s
      endAccess .module p r.1 r.2
  | .endpoint =>
    if isAtomicOp p.opcode then startJob (.packet port p) addr (opField p) 0 p.payload s
    else if p.opcode = 0x66 then startJob (.packet port p) addr (opField p) (typeField p) p.payload s
    else memStore (.store port p) p.poison addr p.payload s

/-- A duplicate is answered without being applied again (R190, R226, R235). -/
def answerDuplicate (sd : Side) (port : Nat) (p : Packet) (s : State) : State :=
  if (responseOp p.opcode).isNone then
    match (s.xpt sd).refused.find? fun y => decide (y.1 = (dstKey p.src p.dst p.stream, p.xseq)) with
    | some y => sendNack sd y.2 p s
    | none => s
  else if notServed sd port p s then sendResponse sd p stVersion [] 0 s
  else if isAtomicOp p.opcode then answerReplay sd p s
  else match checkRequest sd p s with
    | (.bad st, s1) => if st = stCheckFail then sendNack sd st p s1 else sendResponse sd p st [] 0 s1
    | (.ok q addr place rm, s1) =>
      if isReadOp p.opcode then serveRead sd port q addr place rm true s1 else sendResponse sd p stOk [] 0 s1

/-- A sequenced packet arrives at its destination (R69, R185). -/
def receiveSeq (sd : Side) (port : Nat) (p : Packet) (s : State) : State :=
  match accept sd port p s with
  | (none, s1) => s1
  | (some _, s1) =>
    if !pchkGood p then sendNack sd stCheckFail p s1
    else
      let s2 := s1.onXpt sd fun x => { x with lastSeen := smapSet x.lastSeen p.src.toNat s1.now }
      match classify sd p s2 with
      | .duplicate => sendAck sd p.src p.dst p.stream (answerDuplicate sd port p (bump sd .xptDupCnt 0 s2))
      | .inProgress => bump sd .xptDupCnt 0 s2
      | .outOfWindow => bump sd .xptOowCnt 0 s2
      | .acceptable => acceptPacket sd port p s2

/-- A request is served once it has been received and accepted: where it has not been received yet, it is now. -/
def withRequest (sd : Side) (port : Nat) (p : Packet) (f : State → State) (s : State) : State :=
  let s1 := if (findWork sd p s).isSome then s else receiveSeq sd port p s
  if (findWork sd p s1).isSome then f s1 else s1

/-- The checks of R222 and then the access. -/
def checkAndServe (sd : Side) (port : Nat) (p : Packet) (s : State) : State :=
  match checkRequest sd p s with
  | (.bad st, s1) => endAccess sd p { status := st } s1
  | (.ok q addr place rm, s1) =>
    let s2 := startWork sd p s1
    if isReadOp p.opcode then serveRead sd port q addr place rm false s2 else serveWrite sd port q addr place s2

/-- An atomic takes its replay entry before its checks (R232 to R234). -/
def serveAtomic (sd : Side) (port : Nat) (p : Packet) (s : State) : State :=
  let s1 := replayFree sd p s
  if replayRoom sd p s1 then checkAndServe sd port p (replayTake sd p s1)
  else
    sendNack sd stRetryLater p (bump sd .memReplayFullCnt 0 (s1.onXpt sd fun x => { x with
      work := x.work.filter fun w => !sameSeq w.pkt p }))

/-- A request of TC3 or TC6 is received and served. -/
def takeRequest (sd : Side) (port : Nat) (p : Packet) (op : BitVec 8) (s : State) : State :=
  if p.opcode = op then
    settleBoth (withRequest sd port p (if isAtomicOp op then serveAtomic sd port p else checkAndServe sd port p) s)
  else s

end Sys2Proof.Machine
end

