-- ==== Sys2Proof/Machine/EpCmds.lean ====
section
/-! DEFINITION. The meanings of the endpoint block's commands that its own machinery or the accelerator's memory brings: answers on MR
(R360 to R362), fences (R204), Domino chains (R375 to R379) and DMA queues (R380 to R382). -/

namespace Sys2Proof.Machine

/-! ## Answers on MR -/

/-- One job of the atomic unit or the reduce ALU has ended: whoever asked for it is answered (R217, R378). -/
def jobEnded (s : State) (x : RmwJob × Status) : State :=
  match x.1.use with
  | .packet _ p =>
    endAccess .endpoint p (if isAtomicOp p.opcode then { status := x.2, payload := x.1.old, opx := b2n x.1.cas * 2 ^ 30 }
      else { status := x.2 }) s
  | .segment _ p => segmentDone p x.2 s
  | .localReduce id => trigEnds id 1 x.2 s

/-- Jobs that have ended. -/
def jobsEnded (r : JobEnds × State) : State := r.1.foldl jobEnded r.2

/-- A load's data is there: a response, or for a duplicate a second one (R190). -/
def loadDone (p : Packet) (cacheable again : Bool) (st : Status) (data : List Byte) (s : State) : State :=
  let opx := if cacheable ∧ st = stOk then 2 ^ 29 else 0
  if again then sendResponse .endpoint p st data opx s else endAccess .endpoint p { status := st, payload := data, opx := opx } s

/-- Data of a DMA packet that leaves has been read, or refused. -/
def dmaDataRead (op : Nat) (st : Status) (data : List Byte) (s : State) : State :=
  if st = stOk then readyOp .endpoint op data s
  else match (s.xpt .endpoint).ops.find? fun o => decide (o.id = op) with
    | some o => refuseOp .endpoint st o s
    | none => s

/-- A transaction of the core port is complete: what it continues goes on. -/
def continueTxn (tag : Nat) (timeout : Bool) (c : MemCont) (answers : List (Status × List Byte)) (s : State) : State :=
  let st := txnStatus answers
  let data := txnData answers
  match c with
  | .load _ p cacheable again => loadDone p cacheable again st data s
  | .store _ p => endAccess .endpoint p { status := st } s
  | .lock line => jobsEnded (lockAnswered line tag st data timeout s)
  | .unlock line => jobsEnded (unlockAnswered line st s)
  | .drop => s
  | .dmaOut op => dmaDataRead op st data s
  | .dmaIn q serial bytes => dmaPart q serial st (if bytes = 0 then outNotApplied else outApplied) bytes s
  | .record q => if st = stOk then s else stopQueue q st s
  | .fetch q => fetched q (if q = 32 then s.e.coll.descs.length else 0) st data s
  | .domSeg _ p => segmentDone p st s
  | .domSend id => trigData id true st data s
  | .domReduce id => trigData id false st data s
  | .domWord id => trigEnds id 1 st s
  | .collSrc d c r => takeContribution d c r st data s
  | .collDst d c => resultWritten d c st s
  | .collResidual d c => residualWritten d c st s
  | .collRecord d c => recordWritten d c st s

/-- One MQ request is answered, and requests that waited for a tag leave. -/
def answerMq (tag : Nat) (timeout : Bool) (st : Status) (data : List Byte) (s : State) : State :=
  match takeAnswer tag st data s with
  | (none, s1) => settle .endpoint (pumpMq s1.e.mqWait.length s1)
  | (some (c, l), s1) =>
    let s2 := continueTxn tag timeout c l s1
    settle .endpoint (pumpMq s2.e.mqWait.length s2)

/-- MR_ANSWER (R360): a beat with the tag of a request that timed out is discarded, and its tag is free again (R362). -/
def execMrAnswer (half mtag : Nat) (status : Status) (data : List Byte) (s : State) : Host.Outcome State Fault Refusal :=
  let tag := half * 4096 + mtag
  .next (if s.e.mqDead.contains tag then
      let s1 := s.onE fun e => { e with mqDead := e.mqDead.filter fun t => decide (t ≠ tag) }
      pumpMq s1.e.mqWait.length s1
    else if (smapGet? s.e.mqOut tag).isSome then answerMq tag false (mrStatus status) data s
    else s)

/-- MEM_TIMEOUT (R362): the request ends with INTERNAL, and its tag stays unused. -/
def execMemTimeout (half mtag : Nat) (s : State) : Host.Outcome State Fault Refusal :=
  let tag := half * 4096 + mtag
  .next (if (smapGet? s.e.mqOut tag).isSome then
      let s1 := s.onE fun e => { e with mqDead := e.mqDead ++ [tag], mqLocked := e.mqLocked.filter fun t => decide (t ≠ tag) }
      let s2 := raiseVector 10 (logEvent .endpoint { code := 0xC1, severity := 2, block := 0x7F, arg0 := mtag, arg1 := half } s1)
      answerMq tag true stInternal [] s2
    else s)

/-! ## Fences (R204) -/

/-- FENCE (R204, R358): it waits for every earlier operation of its context. -/
def execFence (ctx atag : Nat) (s : State) : Host.Outcome State Fault Refusal :=
  .next (unlessRetired ctx (fun s => s.onXpt .endpoint fun x => { x with
    nextOp := x.nextOp + 1, fences := x.fences ++ [{ id := x.nextOp, ctx := ctx, use := .xq ctx atag 0 0 }] }) s)

/-- An operation of a context that was issued before a fence is not complete. -/
def fenceWaits (sd : Side) (f : Fence) (s : State) : Bool :=
  ((s.xpt sd).ops.any fun o => decide (o.ctx = some f.ctx) && decide (o.id < f.id))
    || (decide (sd = .endpoint) && s.e.accs.any fun a => decide (a.ctx = f.ctx) && decide (a.id < f.id))

/-- The oldest fence of a context, where nothing before it is incomplete: it leaves, and what waited behind it may issue. -/
def takeFence (sd : Side) (ctx : Nat) (s : State) : Option (Fence × State) :=
  match (s.xpt sd).fences.find? fun f => decide (f.ctx = ctx) with
  | none => none
  | some f =>
    if fenceWaits sd f s then none
    else
      let s1 := s.onXpt sd fun x => { x with fences := x.fences.filter fun g => decide (g.id ≠ f.id) }
      some (f, ((s1.xpt sd).ops.filter fun o => decide (o.ctx = some ctx)).foldl (fun s o => tryIssue sd o.id s) s1)

/-! ## Domino chains (R311, R375 to R379) -/

/-- DOMINO_SEG (R311, R378): a segment reaches its receiver. -/
def execDominoSeg (port : Nat) (p : Packet) (s : State) : Host.Outcome State Fault Refusal :=
  .next (if p.opcode ≠ 0x94 then s
    else settle .endpoint (withRequest .endpoint port p (fun s =>
      if p.stream = 0 then refuseSegment p stAccessDenied s
      else match checkRequest .endpoint p s with
        | (.bad st, s1) => refuseSegment p st s1
        | (.ok q addr _ _, s1) =>
          match segmentChecks q s1 with
          | [] => applySegment port q addr s1
          | l => refuseSegment p (reportStatus l).1 s1) s))

/-- TRIG_POST (R376): a 64-byte write posts a triggered operation. -/
def execTrigPost (ctx atag : Nat) (data : List Byte) (s : State) : Host.Outcome State Fault Refusal :=
  let r := postTrig data s
  .next (xrStatus ctx atag r.1 r.2)

/-- TRIGGERED_OP_FIRE (R377): the first operation that has reached its threshold. -/
def execTriggeredOpFire (s : State) : Host.Outcome State Fault Refusal := .next (settle .endpoint (fireTrig s))

/-- TRIGGERED_OP_COMPLETE (R377, R379): the first fired operation whose parts have all ended. -/
def execTriggeredOpComplete (s : State) : Host.Outcome State Fault Refusal :=
  .next (match s.e.fired.find? fun r => decide (r.left = 0) with
    | some r => completeTrig r s
    | none => s)

/-- DOM_CTR_WRITE (R375). -/
def execDomCtrWrite (n value : Nat) (s : State) : Host.Outcome State Fault Refusal := .next (domPending (domWrite n value s))

/-! ## DMA queues (R380 to R382) -/

/-- Active descriptors of a queue that it does not list itself. -/
def activeDescs (q : Nat) (s : State) : Nat := if q = 32 then s.e.coll.descs.length else 0

/-- The queue fetches the descriptor that waits. -/
def pumpEpQueue (q : Nat) (s : State) : State := fetchNext q (activeDescs q s) s

/-- DMA_DOORBELL (R380): a write of TAIL; 32 is the collective queue. -/
def execDmaDoorbell (q tail : Nat) (s : State) : Host.Outcome State Fault Refusal :=
  .next (pumpEpQueue q (qwr Fld.fxeDmaqTail q tail s))

/-- DMA_DESCRIPTOR (R381): the next fetched descriptor of a DMA queue starts. -/
def execDmaDescriptor (q : Nat) (s : State) : Host.Outcome State Fault Refusal :=
  .next (if q < 32 then settle .endpoint (startNextDma q s) else s)

/-- DMA_DESCRIPTOR_DONE (R382): the oldest descriptor of a queue, once its packets are complete. -/
def execDmaDescriptorDone (q : Nat) (s : State) : Host.Outcome State Fault Refusal :=
  .next (match (epQueue q s).descs with
    | d :: _ => if d.left = 0 then completeDma q d s else s
    | [] => s)

/-- QUEUE_FETCH_FAIL (R380): a descriptor fetch was refused or timed out, and the queue stops. -/
def execQueueFetchFail (q : Nat) (s : State) : Host.Outcome State Fault Refusal :=
  .next (match (epQueue q s).failed with
    | some st => stopQueue q st (onQueue q (fun k => { k with failed := none }) s)
    | none => s)

end Sys2Proof.Machine
end

