-- ==== Sys2Proof/Machine/AtsOps.lean ====
section
/-! DEFINITION. Address translation of the module's engines (R410 to R417): the two levels of translations, Translation Requests, page
request groups and invalidations. -/

namespace Sys2Proof.Machine

/-- The state with the engines changed, and with translation changed. -/
def onEng (f : EngineState → EngineState) (s : State) : State := s.onM fun m => { m with eng := f m.eng }
def onAts (f : AtsState → AtsState) (s : State) : State := onEng (fun e => { e with ats := f e.ats }) s

/-- The first level's number of a queue and of a puppet core (R399). -/
def queueUnit (q : Nat) : Nat := if q < 64 then q / 4 else q - 48
def coreUnit (c : Nat) : Nat := 24 + c

/-- The host has enabled ATS and PASID (R414). -/
def atsOn (s : State) : Bool := s.rdb .module Fld.atsStatusAtsEn && s.rdb .module Fld.atsStatusPasidEn

/-- A translation covers a page, and grants what an access needs (R411). -/
def xlatCovers (x : Xlat) (pasid page : Nat) : Bool :=
  decide (x.pasid = pasid) && decide (x.page ≤ page) && decide (page < x.page + 2 ^ (x.size - 12))
def xlatGrants (x : Xlat) (write : Bool) : Bool := if write then x.write else x.read

/-- The 4 KiB pages that bytes touch. -/
def hostPages (a n : Nat) : List Nat := (List.range ((a + n + 4095) / 4096 - a / 4096)).map fun i => a / 4096 + i

/-- An entry put at the front of a list of at most `n`, most recently used first. -/
def useFirst (n : Nat) (x : Xlat) (l : List Xlat) : List Xlat := (x :: l.filter fun y => decide (y ≠ x)).take n

/-- The set of the second level that holds a page of a size (notes/assumptions: the spec names no index). -/
def l2Set (page size : Nat) : Nat := page / 2 ^ (size - 12) % 2048

/-- A translation enters both levels (R415). -/
def fillL1 (u : Nat) (x : Xlat) (s : State) : State := onAts (fun a => { a with l1 := smapSet a.l1 u (useFirst 64 x (smapGet a.l1 [] u)) }) s
def fillL2 (x : Xlat) (s : State) : State :=
  let k := l2Set x.page x.size
  onAts (fun a => { a with l2 := smapSet a.l2 k (useFirst 8 x (smapGet a.l2 [] k)) }) s

/-- A Translation Request leaves, counted (R415). -/
def sendAsk (pasid page : Nat) (s : State) : State :=
  (bump .module .atsL2MissCnt 0 s).emit .module (.translationRequest pasid page)

/-- The lookup of a page by a unit (R410, R415): the first level, the second, then a request that concurrent misses share. -/
def lookupPage (u pasid page : Nat) (write : Bool) (s : State) : Looked × State :=
  let a := s.m.eng.ats
  let ok := fun x => xlatCovers x pasid page && xlatGrants x write
  match (smapGet a.l1 [] u).find? ok with
  | some x => (.mapped, fillL1 u x s)
  | none =>
    match ([12, 21, 30].flatMap fun z => (smapGet a.l2 [] (l2Set page z)).filter fun x => decide (x.size = z)).find? ok with
    | some x => (.mapped, fillL1 u x (fillL2 x s))
    | none =>
      if a.asks.any fun k => decide (k.pasid = pasid) && decide (k.page = page) then (.asking, s)
      else (.asking, sendAsk pasid page (onAts (fun a => { a with asks := a.asks ++ [{ pasid := pasid, page := page }] }) s))

/-- The request for a page, and the state without it. -/
def takeAsk (pasid page : Nat) (s : State) : Option AtsAsk × State :=
  let hit := fun k : AtsAsk => decide (k.pasid = pasid) && decide (k.page = page)
  (s.m.eng.ats.asks.find? hit, onAts (fun a => { a with asks := a.asks.filter fun k => !hit k }) s)

/-- What a Translation Completion says of a lookup (R411). -/
def answerLookup (x : Xlat) (pasid : Nat) (l : Lookup) : Lookup :=
  if l.state = .asking && xlatCovers x pasid l.page then { l with state := if xlatGrants x l.write then .mapped else .unmapped } else l

/-- Page requests that await a response (R426). -/
def prOutstanding (s : State) : Nat := (s.m.eng.ats.groups.map fun g => g.pages).sum
def notePr (s : State) : State := s.wr .module Fld.atsStatusPrOutstanding 0 (prOutstanding s)

/-- A page request group (R412): sent where PRI is enabled and the group fits within the host's allocation; none is sent otherwise. -/
def pageRequest (pasid : Nat) (pages : List (Nat × Bool)) (thread : Option (Nat × Nat)) (s : State) : Bool × State :=
  if s.rdb .module Fld.atsStatusPriEn && s.m.pci.busMaster && !pages.isEmpty
      && decide (prOutstanding s + pages.length ≤ s.rd .module Fld.atsStatusPrAlloc) then
    match findBelow 512 fun g => !s.m.eng.ats.groups.any fun x => decide (x.group = g) with
    | none => (false, s)
    | some g =>
      let s1 := onAts (fun a => { a with groups := a.groups ++ [{ group := g, pages := pages.length, thread := thread }] }) s
      (true, (notePr (bump .module .atsPrCnt 0 s1)).emit .module (.pageRequest g pasid pages))
  else (false, s)

/-- An invalidation covers a page under a PASID (R416). -/
def invCovers (i : Inval) (pasid page : Nat) : Bool :=
  (match i.pasid with
   | some p => decide (p = pasid)
   | none => true) && decide (page * 4096 ≤ i.hi) && decide (i.lo < page * 4096 + 4096)

/-- An invalidation covers a translation. -/
def invTouches (i : Inval) (x : Xlat) : Bool :=
  (match i.pasid with
   | some p => decide (p = x.pasid)
   | none => true) && decide (x.page * 4096 ≤ i.hi) && decide (i.lo < x.page * 4096 + 2 ^ x.size)

/-- Translations of both levels that pass a test stay. -/
def keepXlats (keep : Xlat → Bool) (s : State) : State :=
  onAts (fun a => { a with l1 := a.l1.map (fun u => (u.1, u.2.filter keep)), l2 := a.l2.map (fun u => (u.1, u.2.filter keep)) }) s

/-- ATS.STATUS.INV_PENDING follows the invalidations in progress. -/
def noteInv (s : State) : State := s.wr .module Fld.atsStatusInvPending 0 s.m.eng.ats.invals.length

/-- An Invalidate Completion leaves (R416 steps 4 and 6). -/
def completeInval (itag : Nat) (s : State) : State :=
  let s1 := onAts (fun a => { a with invals := a.invals.filter fun i => decide (i.itag ≠ itag) }) s
  (bump .module .atsInvCnt 0 (noteInv s1)).emit .module (.invalidateCompletion itag)

end Sys2Proof.Machine
end

