-- ==== Sys2Proof/Machine/MrnOps.lean ====
section
/-! DEFINITION. Marionette, the reduction points of a module (R275 to R309, R319 to R327): contexts, chunk entries and slots,
contributions, partials, restarts and aborts. -/

namespace Sys2Proof.Machine

/-! ## Contexts (R277, R278, R313, R314) -/

/-- The state with Marionette's part changed. -/
def onMrn (f : MrnState → MrnState) (s : State) : State := s.onM fun m => { m with mrn := f m.mrn }

/-- The context that serves a group (R313). -/
def mrnCtx (group : Nat) (s : State) : Option Nat :=
  let n := group % 4096
  if s.rdb .module Fld.mrnCtxValid n && decide (s.rd .module Fld.mrnCtxGroup n = group) then some n else none

/-- Group, key and class of a context. -/
def ctxKey (n : Nat) (s : State) : CollKey :=
  { group := s.rd .module Fld.mrnCtxGroup n, index := s.rd .module Fld.mrnCtxKeyIndex n
    epoch := s.rd .module Fld.mrnCtxKeyEpoch n, dclass := s.rd .module Fld.mrnCtxDclass n }

/-- The packet carries its context's key and class (R286). -/
def keyMatches (n : Nat) (p : Packet) (s : State) : Bool :=
  let k := ctxKey n s
  decide (p.keyIndex.toNat = k.index) && decide (p.keyEpoch.toNat = k.epoch) && decide (p.dclass.toNat = k.dclass)

/-- Where the root of a chunk lies (R277, R314). -/
inductive RootAt where
  | none
  | here
  | port (p : Nat)
deriving DecidableEq, Repr

/-- The root of chunk `c` of a context. -/
def rootOf (n c : Nat) (s : State) : RootAt :=
  let i := (c * 2654435761 + s.rd .module Fld.mrnCtxSalt n) % 2 ^ 32 * s.rd .module Fld.mrnCtxRootCount n / 2 ^ 32
  let r := s.rd .module Fld.mrnCtxRootFirst n + i
  if !s.rdb .module Fld.mrnRootValid r then .none
  else if s.rdb .module Fld.mrnRootSelf r then .here
  else .port (s.rd .module Fld.mrnRootPort r)

/-- The children of a context: child number and port (R278). -/
def mrnChildren (n : Nat) (s : State) : List (Nat × Nat) :=
  let g := s.rd .module Fld.mrnCtxChildPgrp n
  if !s.rdb .module Fld.rtePgrpValid g then []
  else (List.range (s.rd .module Fld.rtePgrpCount g)).filterMap fun i =>
    let m := s.rd .module Fld.rtePgrpFirst g + i
    if m < 4096 ∧ s.rdb .module Fld.rtePmemValid m = true then some (i, s.rd .module Fld.rtePmemPort m) else none

/-- The child behind a port. -/
def childOf (n port : Nat) (s : State) : Option Nat := ((mrnChildren n s).find? fun x => decide (x.2 = port)).map fun x => x.1

/-- The EID of the unit behind a port: a module's own, or the endpoint's that the plan names. -/
def childEid (port : Nat) (s : State) : Eid :=
  let far := (farId .module port s).1
  if isModuleEid far then far else BitVec.ofNat 20 (s.rd .module Fld.lnkPlanEid port)

/-! ## Shadow entries (R536, R537) -/

/-- A shadow entry is in force for a context: KIND, SIDE. -/
def shadowsOf (kind side : Bool) (n : Nat) (s : State) : List Nat :=
  (List.range 16).filter fun e => s.rdb .module Fld.fltShadowValid e && (s.rdb .module Fld.fltShadowKind e == kind)
    && (kind || (s.rdb .module Fld.fltShadowSide e == side)) && decide (s.rd .module Fld.fltShadowCtx e = n)

/-- SHADOW_PORT of an entry. -/
def shadowPort (e : Nat) (s : State) : Nat := s.rd .module Fld.fltShadowShadowPort e

/-- A chunk of a shadow comparison. -/
def shadowChunk (e step c : Nat) (s : State) : ShadowChunk :=
  (s.m.live.shadows.find? fun x => decide (x.entry = e) && decide (x.step = step) && decide (x.chunk = c)).getD
    { entry := e, step := step, chunk := c }

/-- A chunk of a shadow comparison replaced. -/
def putShadow (x : ShadowChunk) (s : State) : State :=
  let l := s.m.live.shadows.filter fun y => !(decide (y.entry = x.entry) && decide (y.step = x.step) && decide (y.chunk = x.chunk))
  s.onM fun m => { m with live := { m.live with shadows := l ++ [x] } }

/-- A chunk is counted as skipped, once. -/
def skipShadow (x : ShadowChunk) (s : State) : State :=
  if x.ended then s else saturate .module Fld.fltShadowSkipped x.entry 1 (putShadow { x with ended := true, working := [], shadow := [] } s)

/-- A contribution that has passed R294 is copied to the shadow, but only while the port holds the credit (R536). -/
def copyToShadow (n : Nat) (p : Packet) (s : State) : State :=
  (shadowsOf false false n s).foldl (fun s e =>
    if mayStart .module (shadowPort e s) p s then startPacket .module (shadowPort e s) p s
    else skipShadow (shadowChunk e p.xseq.toNat (collChunk p) s) s) s

/-! ## Chunk entries and slots (R293, R299, R301) -/

/-- A chunk entry. -/
def mrnChunk (n step c : Nat) (s : State) : Option MrnChunk :=
  s.m.mrn.chunks.find? fun k => decide (k.ctx = n) && decide (k.step = step) && decide (k.chunk = c)

/-- The state with a chunk entry replaced. -/
def putChunk (k : MrnChunk) (s : State) : State :=
  onMrn (fun m => { m with chunks := m.chunks.map fun x => if x.ctx = k.ctx ∧ x.step = k.step ∧ x.chunk = k.chunk then k else x }) s

/-- Slots that chunks hold from some of the sources. -/
def slotsHeld (hit : MrnChunk → Bool) (s : State) : Nat := ((s.m.mrn.chunks.filter hit).map fun k => k.slots).sum

/-- A REDUCE tile on its way to SPARE goes once its slots are free (R449). -/
def settleSpare (s : State) : State :=
  if slotsWithheld s = 12 ∧ slotsHeld (fun x => decide (x.source ≤ 1)) s + 12 ≤ s.rd .module Fld.mrnStatusSlotsTotal then finishChange s
  else s

/-- The registers that show slots and entries follow the chunk entries (R313, R314): those of one context, and the totals. -/
def settleSlots (n : Nat) (s : State) : State :=
  let s1 := s.wr .module Fld.mrnCtxSlotsInUse n (slotsHeld (fun k => decide (k.ctx = n)) s)
  let s2 := s1.wr .module Fld.mrnStatusSharedInUse 0 (slotsHeld (fun k => decide (k.source = 1)) s)
  let s3 := s2.wr .module Fld.mrnOvfStatusOvfInUse 0 (slotsHeld (fun k => decide (k.source = 2)) s)
  let s4 := s3.wr .module Fld.mrnChunkStatusOpen 0 s.m.mrn.chunks.length
  let s5 := s4.wr .module Fld.redStatusEpiOpen 0 (s.m.mrn.chunks.filter fun k => decide (k.phase = .committing)).length
  let s6 := if s5.rd .module Fld.mrnCtxState n = 2 then s5
    else s5.wr .module Fld.mrnCtxState n (b2n (s.m.mrn.chunks.any fun k => decide (k.ctx = n)))
  settleSpare s6

/-- Chunk entries are given up and their slots freed. -/
def dropChunks (n : Nat) (hit : MrnChunk → Bool) (s : State) : State :=
  settleSlots n (onMrn (fun m => { m with chunks := m.chunks.filter fun k => !(decide (k.ctx = n) && hit k) }) s)

/-- One chunk entry is given up. -/
def freeChunk (k : MrnChunk) (s : State) : State :=
  dropChunks k.ctx (fun x => decide (x.step = k.step) && decide (x.chunk = k.chunk)) s

/-- The source of an opening chunk's `k` slots (R299); none where it is refused (R300). A tile that is gone leaves no physical
slot (R301). -/
def admitChunk (n k : Nat) (s : State) : Option Nat :=
  let total := s.rd .module Fld.mrnStatusSlotsTotal - slotsWithheld s
  let physical := decide (slotsHeld (fun x => decide (x.source ≤ 1)) s + k ≤ total)
  if s.m.power.loss then none
  else if 16384 ≤ s.m.mrn.chunks.length then none
  else if physical && decide (s.rd .module Fld.mrnCtxSlotsInUse n + k ≤ s.rd .module Fld.mrnCtxResSlots n) then some 0
  else if physical && decide (s.rd .module Fld.mrnStatusSlotsReserved + s.rd .module Fld.mrnStatusSharedInUse + k ≤ total) then some 1
  else if s.rdb .module Fld.mrnCtlOvfEn && decide (s.rd .module Fld.mrnOvfStatusOvfInUse + k ≤ s.rd .module Fld.mrnOvfStatusOvfSlots) then some 2
  else none

/-- A chunk opens (R293, R299), with the arithmetic and restart limit in force now (R313, R348); under a module shadow it counts twice the
slots (R538). -/
def openChunk (n step c attempt upAttempt first : Nat) (digest : Option Nat) (s : State) : Option State :=
  let arith := s.word .module .redArith n 0
  let shadowed := !(shadowsOf false false n s).isEmpty
  let k := chunkSlots (s.rd .module Fld.mrnCtxChunkCode n) (s.rd .module Fld.mrnCtxFmtIn n) (arith.getLsbD 38 || shadowed)
  (admitChunk n k s).map fun source =>
    let e : MrnChunk := { ctx := n, step := step, chunk := c, attempt := attempt, upAttempt := upAttempt, digest := digest, first := first, shadowed := shadowed
                          source := source, slots := k, arith := arith, maxRestarts := s.rd .module Fld.mrnCtxMaxRestarts n }
    let s1 := onMrn (fun m => { m with
      chunks := m.chunks ++ [e]
      passed := m.passed.filter fun x => decide (x ≠ { ctx := n, step := step, chunk := some c }) }) s
    settleSlots n (if source = 1 then bump .module .mrnSharedCnt 0 s1 else if source = 2 then bump .module .mrnSpillCnt 0 s1 else s1)

/-! ## Sending -/

/-- A finished packet leaves on one port (R277); a port that is not UP ends as unreachable (R154). -/
def sendOn (port : Nat) (p : Packet) (s : State) : State :=
  if !memberUp port s then countUnreachable ownPort p s
  else if featuresOk p (portFeat port s) then putOrWait port p ownPort false false false s
  else bump .module .rteFeatRefuseCnt 0 s

/-- A result fragment is copied to the shadow endpoints of a context (R537). -/
def copyResult (n : Nat) (p : Packet) (s : State) : State :=
  (shadowsOf true false n s).foldl (fun s e => sendOn (shadowPort e s) p s) s

/-- A finished packet goes towards the root of a chunk; at the root itself it goes nowhere. -/
def sendUp (n c : Nat) (p : Packet) (s : State) : State :=
  match rootOf n c s with
  | .none => countUnreachable ownPort p s
  | .here => s
  | .port q => sendOn q p s

/-- A packet is copied to every UP child (R165, R297). -/
def sendDown (n arrival : Nat) (p : Packet) (s : State) : State :=
  enqueueMany ((upMembers (s.rd .module Fld.mrnCtxChildPgrp n) s).filter fun q => featuresOk p (portFeat q s)) p arrival false s

/-- A packet of the module's own for a context. -/
def mrnPacket (n : Nat) (op : BitVec 8) (st : Status) (step offset opx : Nat) (ext payload : List Byte) (s : State) : Packet :=
  collPacket (ctxKey n s) (s.myEid .module) (s.rdb .module Fld.glbRolePlane) op st step offset opx ext payload

/-- A COLL_RESEND with WANT 0 to a child (R285, R300, R302). -/
def askChild (n step c attempt port : Nat) (st : Status) (s : State) : State :=
  let p := mrnPacket n 0x93 st step (collOffset c 0 attempt) (s.rd .module Fld.mrnCtxGroup n * 2) [] [] s
  sendOn port (sealPacket { p with dst := childEid port s }) s

/-- The packets of a partial or result, encrypted where the class asks for it: none where the key may not be used (R502). -/
def finishAll (group : Nat) (l : List Packet) (s : State) : List Packet :=
  if l.any fun p => sendRefused .module p s then [] else l.map fun p => finishColl .module group p s

/-- The held partial leaves, at the attempt the parent last asked for (R285, R296). -/
def sendPartial (k : MrnChunk) (s : State) : State :=
  let opx := k.first + s.rd .module Fld.mrnCtxExpectCount k.ctx * 2 ^ 14 + 2 ^ 29
  let ps := collPackets (ctxKey k.ctx s) (s.myEid .module) (s.rdb .module Fld.glbRolePlane) 0x90 k.step k.chunk k.upAttempt opx
    (k.digest.getD 0) k.payloads
  (finishAll (s.rd .module Fld.mrnCtxGroup k.ctx) ps s).foldl (fun s p => sendUp k.ctx k.chunk p s) s

/-! ## Aborts (R292, R302, R306, R308) -/

/-- A step-scope abort is recorded: the last 16 of a context (R293). -/
def mrnKeepAbort (n : Nat) (a : StepAbort) (s : State) : State :=
  onMrn (fun m =>
    let l := (smapGet m.aborts [] n).filter (fun x => decide (x.step ≠ a.step)) ++ [a]
    { m with aborts := smapSet m.aborts n (l.drop (l.length - 16)) }) s

/-- A step of a context has been aborted. -/
def stepAbort (n step : Nat) (s : State) : Option StepAbort := (smapGet s.m.mrn.aborts [] n).find? fun a => decide (a.step = step)

/-- An abort passes through the module (R306): the chunk, or every chunk of the step, closes; from a child or the module itself it
goes on towards the root, and from above down to the children. The root multicasts it once. -/
def passAbort (n : Nat) (arrival : Option Nat) (p : Packet) (s : State) : State :=
  let a := abortSlot p.ext
  let step := p.xseq.toNat
  let c := collChunk p
  let mark : PassedAbort := { ctx := n, step := step, chunk := if a.step then none else some c }
  let done := if a.step then (stepAbort n step s).isSome else s.m.mrn.passed.contains mark
  let s1 := dropChunks n (fun k => decide (k.step = step) && (a.step || decide (k.chunk = c)))
    (if a.step then (if done then s
        else mrnKeepAbort n { step := step, status := receivedStatus p.status, slot := p.ext, count := p.opx.toNat % 2 ^ 15 } s)
      else s)
  let fromAbove := (arrival.map fun q => (childOf n q s).isNone).getD false
  if fromAbove then sendDown n (arrival.getD ownPort) p s1
  else match rootOf n c s with
    | .here =>
      if done then s1
      else sendDown n ownPort (sealPacket { p with src := s.myEid .module }) (bump .module .mrnAbortCnt 0
        (if a.step then s1 else onMrn (fun m => { m with passed := m.passed ++ [mark] }) s1))
    | .port q => sendOn q p s1
    | .none => countUnreachable ownPort p s1

/-- The module ends a chunk, or its whole step, by an abort of its own. COUNT is the least count of the fragments seen. -/
def abortChunk (k : MrnChunk) (st : Status) (scope : Bool) (culprit : Eid) (member : Option Nat) (s : State) : State :=
  let count := match k.counts.map fun x => x.2 with
    | [] => 0
    | a :: l => l.foldl min a
  let slot := abortBytes { digest := k.digest.getD 0, culprit := culprit.toNat, member := member, first := k.first, step := scope }
  passAbort k.ctx none (sealPacket (mrnPacket k.ctx 0x92 st k.step (collOffset k.chunk 0 0)
    (count + s.rd .module Fld.mrnCtxGroup k.ctx * 2 ^ 15) slot [] s)) s

/-- The member index of a child, where contributions have shown it (a leaf's children are members). -/
def childMember (n port : Nat) (s : State) : Option Nat :=
  if s.isLeaf then smapGet? s.m.mrn.members (n * 1024 + port) else none

/-- A context whose member has died answers every chunk that opens with an abort (R305). -/
def abortIfFailed (k : MrnChunk) (s : State) : State :=
  match s.rd .module Fld.mrnCtxState k.ctx, smapGet? s.m.mrn.failed k.ctx with
  | 2, some x => abortChunk k stAborted true x.1 x.2 s
  | _, _ => s

/-- Every context that has the unit behind a port as a child fails (R305): each open chunk closes with a step-scope abort. -/
def failChild (port : Nat) (s : State) : State :=
  ((List.range 4096).filter fun n => s.rdb .module Fld.mrnCtxValid n && (childOf n port s).isSome).foldl (fun s n =>
    let x := (childEid port s, childMember n port s)
    let s1 := (onMrn (fun m => { m with failed := smapSet m.failed n x }) s).wr .module Fld.mrnCtxState n 2
    (s1.m.mrn.chunks.filter fun k => decide (k.ctx = n) && decide (k.phase = .isOpen)).foldl (fun s k =>
      if (mrnChunk n k.step k.chunk s).isSome then abortChunk k stAborted true x.1 x.2 s else s) s1) s

/-! ## Restarts and refusals (R300, R302) -/

/-- A chunk with nothing accumulated. -/
def clearedChunk (k : MrnChunk) : MrnChunk := { k with counts := [], acc := [], comp := [], abs := [], children := [] }

/-- A chunk restarts: its slots stay, its attempt rises, and every child is asked again (R302). -/
def restartChunk (k : MrnChunk) (badCheck : Bool) (s : State) : State :=
  let k1 := { clearedChunk k with attempt := (k.attempt + 1) % 16, restarts := k.restarts + 1, badCheck := k.badCheck || badCheck }
  (mrnChildren k.ctx s).foldl (fun s x => askChild k.ctx k.step k.chunk k1.attempt x.2 stOk s)
    (bump .module .mrnRestartCnt 0 (putChunk k1 s))

/-- A chunk that cannot open: the child is asked to send it again later, at most once in 10 µs (R300). -/
def refuseChunk (n step c attempt port : Nat) (s : State) : State :=
  let hit := fun (x : RefusalTime) => decide (x.ctx = n) && decide (x.step = step) && decide (x.chunk = c) && decide (x.port = port)
  match s.m.mrn.refusedAt.find? hit with
  | some x => if s.now < x.time + 10000 then s else again hit
  | none => again hit
where
  /-- The refusal itself. -/
  again (hit : RefusalTime → Bool) : State :=
    bump .module .mrnRefuseCnt 0 (askChild n step c attempt port stRetryLater
      (onMrn (fun m => { m with refusedAt := m.refusedAt.filter (fun x => !hit x)
        ++ [{ ctx := n, step := step, chunk := c, port := port, time := s.now }] }) s))

/-! ## Contributions (R294, R295, R319 to R322) -/

/-- Sums of absolute values with a fragment's FP32 elements (R538). -/
def addAbs (a : Option (List Nat)) (x : List Nat) : List Nat :=
  let y := x.map fun v => v % 2 ^ 31
  match a with
  | none => y
  | some a => (List.range y.length).map fun i => (fadd (BitVec.ofNat 32 (a.getD i 0)) (BitVec.ofNat 32 (y.getD i 0))).toNat

/-- A fragment's elements combined into the accumulators. -/
def accumulate (n : Nat) (k0 : MrnChunk) (f : Nat) (payload : List Byte) (s : State) : MrnChunk :=
  let fmt := s.rd .module Fld.mrnCtxFmtIn n
  let op := s.rd .module Fld.mrnCtxOp n
  let x := fragDecode fmt payload
  let k := if k0.shadowed && !fmtInt fmt then { k0 with abs := smapSet k0.abs f (addAbs (smapGet? k0.abs f) x) } else k0
  let comped := k.arith.getLsbD 38 && !fmtInt fmt && (decide (op = 0) || decide (op = 3))
  match smapGet? k.acc f with
  | none => { k with acc := smapSet k.acc f x, comp := if comped then smapSet k.comp f (x.map fun _ => 0) else k.comp }
  | some a =>
    if comped then
      let c := smapGet k.comp [] f
      let r := (List.range x.length).map fun i => compElem (a.getD i 0) (c.getD i 0) (x.getD i 0)
      { k with acc := smapSet k.acc f (r.map fun y => y.1), comp := smapSet k.comp f (r.map fun y => y.2) }
    else { k with acc := smapSet k.acc f ((List.range x.length).map fun i => combineElem op fmt (a.getD i 0) (x.getD i 0)) }

/-- The fragments of a chunk, as its children's last fragments show. -/
def chunkLength (k : MrnChunk) : Nat := (k.children.map fun c => match c.2.last with
  | some l => l.1 + 1
  | none => 0).foldl max 0

/-- Every child has delivered its last fragment and every counter has reached EXPECT_COUNT (R295). -/
def chunkFull (k : MrnChunk) (s : State) : Bool :=
  let n := chunkLength k
  decide (s.rd .module Fld.mrnCtxExpectChildren k.ctx ≤ (k.children.filter fun c => c.2.last.isSome).length) && decide (n ≠ 0)
    && (List.range n).all fun f => decide (smapGet k.counts 0 f = s.rd .module Fld.mrnCtxExpectCount k.ctx)

/-- The check value that a child's fragments give matches the one it sent. -/
def childChecked (n : Nat) (c : MrnChild) : Bool :=
  match c.last with
  | some l => decide (checkValue ((List.range n).map fun f => smapGet c.frags [] f) = l.2)
  | none => false

/-- Rounding mode of a code of RED.ARITH or RED.EPI_LIB for element `i` of a chunk (R324, R327). -/
def roundingOf (code : Nat) (arith : Word) (step chunk use i : Nat) : Rounding :=
  if code = 1 then .rne else if code = 2 then .rtz else .sr (srBits (bitsOf arith 31 0) step chunk i use)

/-- The value of each accumulator at completion (R322). -/
def finalValues (k : MrnChunk) (f : Nat) : List Nat :=
  let a := smapGet k.acc [] f
  match smapGet? k.comp f with
  | none => a
  | some c => (List.range a.length).map fun i => (fadd (BitVec.ofNat 32 (a.getD i 0)) (BitVec.ofNat 32 (c.getD i 0))).toNat

/-- Fragments of values as payloads in a format, with the MX elements that saturated (R324 to R327). -/
def narrowAll (k : MrnChunk) (fmt code use : Nat) (values : List (List Nat)) : List (List Byte) × Nat :=
  let r := (List.range values.length).map fun f =>
    let v := values.getD f []
    fragEncode fmt (fun i => roundingOf code k.arith k.step k.chunk use (f * v.length + i)) v
  (r.map fun x => x.1, (r.map fun x => x.2).sum)

/-- A chunk completes (R295 to R297): narrowed, sent and held below the root; at the root its epilogue is next. -/
def completeChunk (k : MrnChunk) (s : State) : State :=
  match rootOf k.ctx k.chunk s with
  | .here => putChunk { k with phase := .atRoot } s
  | _ =>
    let r := narrowAll k (s.rd .module Fld.mrnCtxFmtUp k.ctx) (bitsOf k.arith 35 34) 0
      ((List.range (chunkLength k)).map fun f => finalValues k f)
    let k1 := { clearedChunk k with phase := .held, payloads := r.1, abs := k.abs }
    sendPartial k1 (bumpBy .module .redSaturateCnt 0 r.2 (putChunk k1 s))

/-- A chunk whose conditions hold completes; a wrong check value restarts it (R295). -/
def tryComplete (k : MrnChunk) (s : State) : State :=
  if !chunkFull k s then s
  else
    let n := chunkLength k
    match (k.children.filter fun c => c.2.last.isSome && !childChecked n c.2).length with
    | 0 => completeChunk k s
    | _ => restartChunk k true (bump .module .mrnCrcFailCnt 0 s)

/-- A fragment of a child at its open chunk (R294): digest, counter, then the sum; `orig` is the packet as it arrived. -/
def applyFragment (k0 : MrnChunk) (child port : Nat) (orig p : Packet) (s0 : State) : State :=
  let k := if k0.digest.isNone then { k0 with digest := some (slotDigest p), first := collMember p } else k0
  let s := onMrn (fun m => { m with members := smapSet m.members (k.ctx * 1024 + port) (collMember p) }) (putChunk k s0)
  if k.digest ≠ some (slotDigest p) then
    abortChunk k stMismatch true p.src (some (collMember p)) (bump .module .mrnMismatchCnt 0 s)
  else
    let f := collFrag p
    let count := smapGet k.counts 0 f + collCount p
    if s.rd .module Fld.mrnCtxExpectCount k.ctx < count then restartChunk k false s
    else
      let c := smapGet k.children {} child
      let c1 : MrnChild := { frags := smapSet c.frags f p.payload, last := if slotCheck p = 0 then c.last else some (f, slotCheck p) }
      let k1 := { accumulate k.ctx k f p.payload s with counts := smapSet k.counts f count, children := smapSet k.children child c1 }
      tryComplete k1 (copyToShadow k.ctx orig (putChunk k1 s))

/-- A checked and decrypted contribution (R293): the chunk opens where it is not open. -/
def takeContrib (n port child : Nat) (orig p : Packet) (s : State) : State :=
  let step := p.xseq.toNat
  let c := collChunk p
  if (stepAbort n step s).isSome then bump .module .mrnStaleCnt 0 s
  else match mrnChunk n step c s with
    | some k =>
      if k.phase ≠ .isOpen ∨ k.attempt ≠ collAttempt p then bump .module .mrnStaleCnt 0 s
      else applyFragment k child port orig p s
    | none =>
      if rootOf n c s = .none then countUnreachable port p s
      else match openChunk n step c (collAttempt p) 0 (collMember p) (some (slotDigest p)) s with
        | none => refuseChunk n step c (collAttempt p) port s
        | some s1 =>
          match mrnChunk n step c s1 with
          | none => s1
          | some k =>
            let s2 := abortIfFailed k s1
            if (mrnChunk n step c s2).isSome then applyFragment k child port orig p s2 else s2

/-! ## Resends (R300, R304) -/

/-- A refusal by the parent: the partial goes again later, and at the ninth the module gives up (R300). -/
def refusedPartial (k : MrnChunk) (refuser : Eid) (s : State) : State :=
  if k.phase ≠ .held then s
  else if k.refusals < 8 then putChunk { k with refusals := k.refusals + 1, backoff := true } s
  else abortChunk k stRetryLater false refuser none s

/-- A COLL_RESEND with WANT 0 reaches a module: the first row of R304 that applies. -/
def mrnResend (n : Nat) (p : Packet) (s : State) : State :=
  let step := p.xseq.toNat
  let c := collChunk p
  match stepAbort n step s with
  | some a => sendUp n c (sealPacket (mrnPacket n 0x92 a.status step (collOffset c 0 0)
      (a.count + s.rd .module Fld.mrnCtxGroup n * 2 ^ 15) a.slot [] s)) s
  | none =>
    match mrnChunk n step c s with
    | some k =>
      if p.status = stRetryLater then refusedPartial k p.src s
      else
        let k1 := { k with upAttempt := collAttempt p, backoff := false }
        if k.phase = .held then sendPartial k1 (putChunk k1 s) else putChunk k1 s
    | none =>
      if p.status = stRetryLater then s
      else match openChunk n step c 0 (collAttempt p) 0 none s with
        | none => s
        | some s1 =>
          match mrnChunk n step c s1 with
          | none => s1
          | some k =>
            let s2 := abortIfFailed k s1
            if (mrnChunk n step c s2).isSome then restartChunk k false s2 else s2

/-- The lowest-numbered child whose contribution has not fully arrived (R302). -/
def missingChild (k : MrnChunk) (s : State) : Option Nat :=
  let n := max 1 (chunkLength k)
  let whole := fun (i : Nat) => match smapGet? k.children i with
    | some c => c.last.isSome && (List.range n).all fun f => (smapGet? c.frags f).isSome
    | none => false
  (((mrnChildren k.ctx s).find? fun x => !whole x.1).orElse fun _ => (mrnChildren k.ctx s).head?).map fun x => x.2

end Sys2Proof.Machine
end

