-- ==== Sys2Proof/Machine/RedOps.lean ====
section
/-! DEFINITION. The root of a chunk (R297, R329 to R346): epilogue programs, their state and its commit, and the results a root
keeps. -/

namespace Sys2Proof.Machine

/-! ## Parameter banks and programs (R332 to R334, R349) -/

/-- A field of bank `b` of RED.EPI[n]. -/
def epi (f : Field) (n b : Nat) (s : State) : Nat := s.rd .module { f with word := f.word + 8 * b } n

/-- A bank that a step may use: valid, and its FROM_STEP not later than the step. -/
def bankServes (n step b : Nat) (s : State) : Bool :=
  decide (epi Fld.redEpiValid n b s = 1) && !laterStep (epi Fld.redEpiFromStep n b s) step

/-- The later of two banks by FROM_STEP, among those that pass a test. -/
def laterBank (n : Nat) (ok : Nat → Bool) (s : State) : Option Nat :=
  match ok 0, ok 1 with
  | true, true => if laterStep (epi Fld.redEpiFromStep n 1 s) (epi Fld.redEpiFromStep n 0 s) then some 1 else some 0
  | true, false => some 0
  | false, true => some 1
  | false, false => none

/-- The bank a step uses (R334). -/
def stepBank (n step : Nat) (s : State) : Option Nat := laterBank n (fun b => bankServes n step b s) s

/-- The operations of an epilogue entry, up to END (R332). -/
def epilogueOps (e : Nat) (s : State) : List Nat :=
  ((List.range 8).map fun i => s.rd .module Fld.redEpiLibOps e / 16 ^ i % 16).takeWhile fun c => decide (c ≠ 0)

/-- Key of a context's data in DDR5 (R503). -/
def mrnDdrKey (n : Nat) (s : State) : Nat :=
  ddrKey (decide (s.rd .module Fld.mrnCtxDclass n = 1)) (s.rd .module Fld.mrnCtxKeyIndex n) (s.rd .module Fld.mrnCtxKeyEpoch n)

/-! ## Contraction arrays (R329 to R331) -/

/-- Arrays that may serve: neither gated nor disabled. -/
def arraysUp (s : State) : List Nat :=
  (List.range 8).filter fun a => !(s.rd .module Fld.ctaStatusGated).testBit a && !(s.rd .module Fld.ctaCtlArrayDis).testBit a

/-- The order of an inner product of `n` terms: that of Config, completed to a permutation. -/
def macSequence (n : Nat) : List Nat :=
  let l := ((Config.macOrder n).filter fun i => decide (i < n)).eraseDups
  l ++ (List.range n).filter fun i => !l.contains i

/-- The inner product of two FP32 vectors, accumulated in FP32. -/
def innerProduct (x y : List Nat) : Nat :=
  ((macSequence x.length).foldl (fun acc i =>
    fadd acc (fmul (BitVec.ofNat 32 (x.getD i 0)) (BitVec.ofNat 32 (y.getD i 0)))) 0#32).toNat

/-- Bytes of a matrix column of `d` elements (R329). -/
def columnBytes (fmt d : Nat) : Nat := (if fmtMx fmt then d / 32 else 0) + d * fmtBits fmt / 8

/-- The elements of a column, or of a row stored so: its scales first where the format is MX (R316, R329). -/
def columnDecode (fmt d : Nat) (l : List Byte) : List Nat :=
  (List.range d).map fun i =>
    if fmtMx fmt then (mxDecode fmt (l.getD (i / 32) 0).toNat (codeAt (mxBits fmt) (l.drop (d / 32)) i)).toNat
    else leNat (slice l (2 * i) 2) * 65536

/-- A row converted to a format by RNE and decoded again, with the MX elements that saturated. -/
def rowConvert (fmt : Nat) (l : List Nat) : List Nat × Nat :=
  let r := fragEncode fmt (fun _ => .rne) l
  (columnDecode fmt l.length r.1, r.2)

/-- D of PROJ_D. -/
def projD (code : Nat) : Nat := 32 * 2 ^ (code % 4)

/-- Array cycles of `n` elements through a matrix of `d` columns (R23, R330). -/
def macCycles (fmt d n : Nat) : Nat :=
  let work := n * d
  let perFour := if fmt = 1 then 1 else if fmt = 5 ∨ fmt = 6 ∨ fmt = 7 then 8 else 4
  (4 * work + perFour * 65536 - 1) / (perFour * 65536)

/-- PROJECT (R329): every row of D elements times P; the arrays load P where they do not hold it (R330). -/
def project (n b : Nat) (x : List Nat) (s : State) : Except Status (List Nat) × State :=
  let fmt := epi Fld.redEpiProjFmt n b s
  let d := projD (epi Fld.redEpiProjD n b s)
  let cb := columnBytes fmt d
  match moduleRead .ddr (mrnDdrKey n s) (epi Fld.redEpiProjBase n b s * 4096) (d * cb) s with
  | .error st => (.error st, s)
  | .ok bytes =>
    let cols := (List.range d).map fun j => columnDecode fmt d (slice bytes (j * cb) cb)
    let rows := (List.range (x.length / d)).map fun r => rowConvert fmt ((x.drop (r * d)).take d)
    let y := rows.flatMap fun r => cols.map fun c => innerProduct r.1 c
    let up := arraysUp s
    let loads := (up.filter fun a => decide (smapGet? s.m.mrn.arrays a ≠ some (n, b))).length
    let s1 := onMrn (fun m => { m with arrays := up.foldl (fun l a => smapSet l a (n, b)) m.arrays }) s
    (.ok y, bumpBy .module .ctaMacCycleCnt 0 (macCycles fmt d x.length) (bumpBy .module .ctaPLoadCnt 0 loads
      (bumpBy .module .redSaturateCnt 0 ((rows.map fun r => r.2).sum) s1)))

/-! ## Operations (R332) -/

/-- SCALE and CLIP of one element. -/
def scaleElem (scale x : Nat) : Nat := (fmul (BitVec.ofNat 32 x) (BitVec.ofNat 32 scale)).toNat
def clipElem (lo hi x : Nat) : Nat :=
  match fp32 (BitVec.ofNat 32 x) with
  | .nan => x
  | _ => (fmin (fmax (BitVec.ofNat 32 x) (BitVec.ofNat 32 lo)) (BitVec.ofNat 32 hi)).toNat

/-- CAST of the elements of a chunk: converted and decoded back, with the MX elements that saturated. -/
def castAll (k : MrnChunk) (fmt code : Nat) (x : List Nat) : List Nat × Nat :=
  let r := (List.range ((x.length + 1023) / 1024)).map fun f =>
    let v := (x.drop (1024 * f)).take 1024
    let e := fragEncode fmt (fun i => roundingOf code k.arith k.step k.chunk 2 (1024 * f + i)) v
    (fragDecode fmt e.1, e.2)
  (r.flatMap fun y => y.1, (r.map fun y => y.2).sum)

/-- Applies the operations before ADAMW in order; elements at or beyond COUNT stay zero. -/
def runOps (k : MrnChunk) (b below : Nat) : List Nat → List Nat → State → Except Status (List Nat) × State
  | [], x, s => (.ok x, s)
  | op :: l, x, s =>
    let n := k.ctx
    let keep := fun (y : List Nat) => (List.range y.length).map fun i => if i < below then y.getD i 0 else 0
    match op with
    | 1 => runOps k b below l (keep (x.map (scaleElem (epi Fld.redEpiScale n b s)))) s
    | 2 => runOps k b below l (keep (x.map (clipElem (epi Fld.redEpiClipLo n b s) (epi Fld.redEpiClipHi n b s)))) s
    | 3 =>
      let e := s.rd .module Fld.mrnCtxEpilogue n
      let r := castAll k (s.rd .module Fld.redEpiLibCastFmt e) (s.rd .module Fld.redEpiLibCastRound e) x
      runOps k b below l (keep r.1) (bumpBy .module .redSaturateCnt 0 r.2 s)
    | 4 =>
      match project n b x s with
      | (.error st, s1) => (.error st, s1)
      | (.ok y, s1) => runOps k b below l (keep y) s1
    | _ => runOps k b below l x s

/-! ## State and commit (R335 to R342) -/

/-- The commit record's fields (R339). -/
def recValid (w : Word) : Bool := w.getLsbD 63
def recCopy (w : Word) : Bool := w.getLsbD 62
def recStep (w : Word) : Nat := bitsOf w 61 38
def recT (w : Word) : Nat := bitsOf w 37 18
def recLocal (w : Word) : Nat := bitsOf w 17 0

/-- Base of a context's state area, and address of a chunk's commit record (R338). -/
def stateBase (n b : Nat) (s : State) : Nat := epi Fld.redEpiStateBase n b s * 4096
def recordAt (n b c : Nat) (s : State) : Nat := stateBase n b s + 8 * c

/-- Address of a copy of a chunk's state. -/
def copyAt (n b elems : Nat) (w : Word) (copy : Bool) (s : State) : Nat :=
  stateBase n b s + (epi Fld.redEpiNchunks n b s * 8 + 4095) / 4096 * 4096 + recLocal w * (24 * elems) + b2n copy * (12 * elems)

/-- Elements of a chunk of a context (R279). -/
def ctxElems (n : Nat) (s : State) : Nat := chunkElems (s.rd .module Fld.mrnCtxChunkCode n) (s.rd .module Fld.mrnCtxFmtIn n)

/-- Reads the commit record of a chunk: RESOURCE where the area has none (R297), POISONED where it cannot be read. -/
def readRecord (n b c : Nat) (s : State) : Except Status Word :=
  if epi Fld.redEpiNchunks n b s ≤ c then .error stResource
  else match moduleRead .ddr (mrnDdrKey n s) (recordAt n b c s) 8 s with
    | .error st => .error st
    | .ok l => .ok (BitVec.ofNat 64 (leNat l))

/-- FP32 words of bytes, and back. -/
def wordList (l : List Byte) : List Nat := (List.range (l.length / 4)).map fun i => leNat (slice l (4 * i) 4)
def wordBytes (l : List Nat) : List Byte := l.flatMap fun x => leBytes 4 x

/-- The parameters of ADAMW (R335). -/
structure Adamw where
  lr : BitVec 32
  beta1 : BitVec 32
  beta2 : BitVec 32
  wd : BitVec 32
  eps : BitVec 32
  b1t : BitVec 32
  b2t : BitVec 32
deriving DecidableEq, Repr

/-- The parameters of a bank at update count `t`. -/
def adamwOf (n b t : Nat) (s : State) : Adamw :=
  let f := fun x => BitVec.ofNat 32 (epi x n b s)
  { lr := f Fld.redEpiLr, beta1 := f Fld.redEpiBeta1, beta2 := f Fld.redEpiBeta2, wd := f Fld.redEpiWd, eps := f Fld.redEpiEps
    b1t := BitVec.ofNat 32 (Config.betaPower (epi Fld.redEpiBeta1 n b s) t)
    b2t := BitVec.ofNat 32 (Config.betaPower (epi Fld.redEpiBeta2 n b s) t) }

/-- One element of ADAMW: the new w, m and v (R335). -/
def adamwElem (a : Adamw) (w m v g : BitVec 32) : BitVec 32 × BitVec 32 × BitVec 32 :=
  let one := 0x3F800000#32
  let m' := fadd (fmul a.beta1 m) (fmul (fsub one a.beta1) g)
  let v' := fadd (fmul a.beta2 v) (fmul (fsub one a.beta2) (fmul g g))
  let mh := fdiv m' (fsub one a.b1t)
  let vh := fdiv v' (fsub one a.b2t)
  (fsub w (fmul a.lr (fadd (fdiv mh (fadd (fsqrt vh) a.eps)) (fmul a.wd w))), m', v')

/-- The new state of a whole copy: elements at or beyond COUNT keep theirs (R337). -/
def adamwAll (a : Adamw) (below elems : Nat) (st g : List Nat) : List Nat :=
  let at_ := fun (i : Nat) => BitVec.ofNat 32 (st.getD i 0)
  let r := (List.range elems).map fun i =>
    if i < below then adamwElem a (at_ i) (at_ (elems + i)) (at_ (2 * elems + i)) (BitVec.ofNat 32 (g.getD i 0))
    else (at_ i, at_ (elems + i), at_ (2 * elems + i))
  (r.map fun x => x.1.toNat) ++ (r.map fun x => x.2.1.toNat) ++ r.map fun x => x.2.2.toNat

/-- Values cut into fragments, zero at and beyond COUNT, in FMT_DOWN (R337). -/
def resultPayloads (k : MrnChunk) (frags below : Nat) (values : List Nat) (s : State) : List (List Byte) × Nat :=
  let fe := fragElems (s.rd .module Fld.mrnCtxFmtDown k.ctx)
  narrowAll k (s.rd .module Fld.mrnCtxFmtDown k.ctx) (bitsOf k.arith 37 36) 1
    ((List.range frags).map fun f => (List.range fe).map fun i => if fe * f + i < below then values.getD (fe * f + i) 0 else 0)

/-! ## Results (R297, R298) -/

/-- The packets of a result: to the group, or to one member as the answer to a probe. -/
def resultPackets (n step c digest first : Nat) (payloads : List (List Byte)) (toward : Option Eid) (s : State) : List Packet :=
  let opx := first + s.rd .module Fld.mrnCtxMembers n * 2 ^ 14 + b2n toward.isSome * 2 ^ 30
  let ps := collPackets (ctxKey n s) (s.myEid .module) (s.rdb .module Fld.glbRolePlane) 0x91 step c 0 opx digest payloads
  finishAll (s.rd .module Fld.mrnCtxGroup n) (ps.map fun p => match toward with
    | some e => { p with dst := e }
    | none => p) s

/-- The root multicasts a result, keeps a copy and frees the chunk's slots (R297). -/
def sendResult (k : MrnChunk) (payloads : List (List Byte)) (s : State) : State :=
  let dg := k.digest.getD 0
  let r : MrnResult := { ctx := k.ctx, step := k.step, chunk := k.chunk, digest := dg, first := k.first, payloads := payloads }
  let s1 := (resultPackets k.ctx k.step k.chunk dg k.first payloads none s).foldl (fun s p => copyResult k.ctx p (sendDown k.ctx ownPort p s)) s
  let rest := s1.m.mrn.results.filter fun x => !(decide (x.ctx = k.ctx) && decide (x.step = k.step) && decide (x.chunk = k.chunk))
  freeChunk k (onMrn (fun m => { m with results := rest ++ [r] }) s1)

/-- A root ends a chunk that its epilogue cannot serve (R297, R341, R345). -/
def rootAbort (k : MrnChunk) (st : Status) (s : State) : State :=
  abortChunk k st false (s.myEid .module) none (if st = stPoisoned then bump .module .redStateErrCnt 0 s else s)

/-- The stateful end of an epilogue (R336, R340, R341): the other copy is written, and the record waits for its commit. -/
def runStateful (k : MrnChunk) (b frags below : Nat) (g : List Nat) (w : Word) (s : State) : State :=
  let n := k.ctx
  let elems := ctxElems n s
  let key := mrnDdrKey n s
  match moduleRead .ddr key (copyAt n b elems w (recCopy w) s) (12 * elems) s with
  | .error st => rootAbort k st s
  | .ok bytes =>
    let st := wordList bytes
    let skip := bitsOf k.arith 39 39 = 1 ∧ ((List.range below).any fun i => nonFinite (BitVec.ofNat 32 (g.getD i 0))) = true
    let t := min (recT w + 1) 1048575
    if skip then
      let r := resultPayloads k frags below st s
      let k1 : MrnChunk := { k with
        phase := .committing, payloads := r.1, record := some (recordAt n b k.chunk s, withBits w 61 38 k.step) }
      settleSlots n (bumpBy .module .redSaturateCnt 0 r.2 (bump .module .redNonfiniteCnt 0 (putChunk k1 s)))
    else
      let st' := adamwAll (adamwOf n b t s) below elems st g
      let wr := moduleWrite .ddr key (copyAt n b elems w (!recCopy w) s) (wordBytes st') false s
      let r := resultPayloads k frags below st' s
      let w' := withBits (withBits (withBits w 62 62 (b2n (!recCopy w))) 61 38 k.step) 37 18 t
      let k1 : MrnChunk := { k with phase := .committing, payloads := r.1, record := some (recordAt n b k.chunk s, w') }
      if wr.1 ≠ stOk then rootAbort k stPoisoned s
      else settleSlots n (bumpBy .module .redSaturateCnt 0 r.2 (putChunk k1 wr.2))

/-- A replayed commit (R341): the committed weights are the result. -/
def replayCommit (k : MrnChunk) (b frags below : Nat) (w : Word) (s : State) : State :=
  let elems := ctxElems k.ctx s
  match moduleRead .ddr (mrnDdrKey k.ctx s) (copyAt k.ctx b elems w (recCopy w) s) (4 * elems) s with
  | .error st => rootAbort k st s
  | .ok bytes =>
    let r := resultPayloads k frags below (wordList bytes) s
    sendResult k r.1 (bumpBy .module .redSaturateCnt 0 r.2 (bump .module .redReplayCommitCnt 0 s))

/-- A chunk that waits at its root starts (R297, R331 to R341). `count`: COUNT of the invocation. -/
def startEpilogue (k : MrnChunk) (count : Nat) (s : State) : State :=
  let n := k.ctx
  let e := s.rd .module Fld.mrnCtxEpilogue n
  let frags := chunkLength k
  let below := min (ctxElems n s) (count - k.chunk * ctxElems n s)
  let avg := fun (x : Nat) => if s.rd .module Fld.mrnCtxOp n = 3 then
      (fdiv (BitVec.ofNat 32 x) (toFp32 (.fin false (s.rd .module Fld.mrnCtxMembers n) 0))).toNat else x
  let x := ((List.range frags).flatMap fun f => finalValues k f).map avg
  if s.rd .module Fld.mrnCtxExpectCount n ≠ s.rd .module Fld.mrnCtxMembers n then
    abortChunk k stInternal false (s.myEid .module) none s
  else if e = 0 ∨ fmtInt (s.rd .module Fld.mrnCtxFmtIn n) = true then
    let r := resultPayloads k frags below x s
    sendResult k r.1 (bumpBy .module .redSaturateCnt 0 r.2 s)
  else if s.rdb .module Fld.redCtlCommitPause then s
  else
    let ops := epilogueOps e s
    if ops.contains 4 && (arraysUp s).isEmpty then
      if k.waited then s else bump .module .ctaGateWaitCnt 0 (putChunk { k with waited := true } s)
    else match stepBank n k.step s with
      | none => rootAbort k stResource s
      | some b =>
        if !s.rdb .module Fld.redEpiLibValid e then rootAbort k stResource s
        else if !ops.contains 5 then
          match runOps k b below ops x s with
          | (.error st, s1) => rootAbort k st s1
          | (.ok y, s1) =>
            let r := resultPayloads k frags below y s1
            sendResult k r.1 (bumpBy .module .redSaturateCnt 0 r.2 s1)
        else match readRecord n b k.chunk s with
          | .error st => rootAbort k st s
          | .ok w =>
            if !recValid w then rootAbort k stResource s
            else if recStep w = k.step then replayCommit k b frags below w s
            else if !laterStep k.step (recStep w) then
              abortChunk k stAborted false (s.myEid .module) none (bump .module .redStaleStepCnt 0 s)
            else if s.m.power.loss then s
            else match runOps k b below ops x s with
              | (.error st, s1) => rootAbort k st s1
              | (.ok g, s1) => runStateful k b frags below g w s1

/-- The commit (R340): the record is written, and the result leaves. -/
def commitEpilogue (k : MrnChunk) (s : State) : State :=
  match k.record with
  | none => s
  | some (a, w) =>
    let key := mrnDdrKey k.ctx s
    let flipped := match moduleRead .ddr key a 8 s with
      | .ok l => decide (recCopy (BitVec.ofNat 64 (leNat l)) ≠ recCopy w)
      | .error _ => true
    let r := moduleWrite .ddr key a (leBytes 8 w.toNat) false s
    if r.1 ≠ stOk then rootAbort k stPoisoned s
    else sendResult k k.payloads (if flipped then bump .module .redCommitCnt 0 r.2 else r.2)

/-! ## Probes and queries (R298, R342, R348) -/

/-- The committed weights that answer a probe for a stateful chunk (R342): the payloads. -/
def committedResult (n step c count : Nat) (s : State) : Option (List (List Byte)) :=
  let e := s.rd .module Fld.mrnCtxEpilogue n
  if e = 0 || !s.rdb .module Fld.redEpiLibStateful e then none
  else (stepBank n step s).bind fun b =>
    match readRecord n b c s with
    | .error _ => none
    | .ok w =>
      let elems := ctxElems n s
      let below := min elems (count - c * elems)
      if recValid w && decide (recStep w = step) then
        match moduleRead .ddr (mrnDdrKey n s) (copyAt n b elems w (recCopy w) s) (4 * elems) s with
        | .error _ => none
        | .ok bytes =>
          let k : MrnChunk := { ctx := n, step := step, chunk := c, attempt := 0, digest := none, first := 0, source := 0, slots := 0
                                arith := s.word .module .redArith n 0, maxRestarts := 0 }
          let fe := fragElems (s.rd .module Fld.mrnCtxFmtDown n)
          some (resultPayloads k ((below + fe - 1) / fe) below (wordList bytes) s).1
      else none

/-- A result that the root keeps, or its record. -/
def mrnResult (n step c : Nat) (s : State) : Option MrnResult :=
  s.m.mrn.results.find? fun r => decide (r.ctx = n) && decide (r.step = step) && decide (r.chunk = c)

/-- A unicast packet of the module leaves by its route. -/
def answerProbe (l : List Packet) (s : State) : State := l.foldl (fun s p => sendModule p s) s

/-- A root answers a probe by the first row of R298 that applies. `count`: COUNT of the invocation. -/
def rootProbe (n count : Nat) (p : Packet) (s : State) : State :=
  let step := p.xseq.toNat
  let c := collChunk p
  let kept := mrnResult n step c s
  let live := kept.bind fun r => if r.dropped then none else some (r.payloads, r.digest, r.first)
  let digest := collDigest (s.rd .module Fld.mrnCtxGroup n) step
    (s.rd .module Fld.mrnCtxOp n + s.rd .module Fld.mrnCtxChunkCode n * 16)
    (s.rd .module Fld.mrnCtxFmtIn n + s.rd .module Fld.mrnCtxFmtDown n * 16) count
  let old := (committedResult n step c count s).map fun l => (l, (kept.map fun r => r.digest).getD digest, (kept.map fun r => r.first).getD 0)
  match live.orElse fun _ => old with
  | some (l, d, first) => answerProbe (resultPackets n step c d first l (some p.src) s) s
  | none =>
    match kept with
    | none => s
    | some r =>
      let a := abortBytes { digest := r.digest, culprit := (s.myEid .module).toNat, member := none, first := r.first, step := false }
      let q := mrnPacket n 0x92 stTimeout step (collOffset c 0 0) (s.rd .module Fld.mrnCtxGroup n * 2 ^ 15) a [] s
      answerProbe [sealPacket { q with dst := p.src }] s

/-- A query of a commit record (R348). -/
def queryRecord (n c : Nat) (s : State) : State :=
  let done := fun (st : Status) (s : State) => (s.wr .module Fld.redQueryStatusStatus 0 st.toNat).wrb .module Fld.redQueryStatusDone 0 true
  match laterBank n (fun b => decide (epi Fld.redEpiValid n b s = 1) && decide (c < epi Fld.redEpiNchunks n b s)) s with
  | none => done stResource s
  | some b =>
    match readRecord n b c s with
    | .error _ => done stCheckFail s
    | .ok w => done stOk (s.wr .module Fld.redQueryRecRecord 0 w.toNat)

end Sys2Proof.Machine
end

