-- ==== Sys2Proof/Machine/EngineOps.lean ====
section
/-! DEFINITION. Engine queues and their commands (R399 to R413, R561 to R564). -/

namespace Sys2Proof.Machine

/-! ## The four spaces (R401) -/

/-- A row of bytes lies in the scratchpad of one CONTROL tile. -/
def scratchOk (a n : Nat) (s : State) : Bool :=
  decide (a % 2 ^ 20 + n ≤ 786432) && decide (a / 2 ^ 20 < 2048) && decide (s.rd .module Fld.tilMapRole (a / 2 ^ 20) = 4)

/-- Bytes lie in the DDR5 space: below the installed capacity, and not in the pool while it is enabled. -/
def ddrOk (a n : Nat) (s : State) : Bool :=
  decide (a + n ≤ s.m.pool.installedGib * 2 ^ 30)
    && (!s.rdb .module Fld.dirPoolCtlEn || decide (s.rd .module Fld.dirPoolStatusPoolGib * 2 ^ 30 ≤ a))

/-- Rows of bytes lie in their space's valid range (R401). -/
def rowsOk (space base rows pitch width : Nat) (s : State) : Bool :=
  match space with
  | 0 => (List.range rows).all fun r => scratchOk (base + r * pitch) width s
  | 1 => ddrOk base ((rows - 1) * pitch + width) s
  | _ => decide (base + (rows - 1) * pitch + width ≤ 2 ^ 64)

/-! ## The fields of a command (R403) -/

def cmdAt (c : EngCmd) (i n : Nat) : Nat := leNat (slice c.data i n)
def cmdOp (c : EngCmd) : Nat := cmdAt c 0 1
def cmdSrcSpace (c : EngCmd) : Nat := cmdAt c 1 1 % 4
def cmdDstSpace (c : EngCmd) : Nat := cmdAt c 1 1 / 4 % 4
def cmdInt (c : EngCmd) : Bool := (cmdAt c 1 1).testBit 5
def cmdStream (c : EngCmd) : BitVec 4 := BitVec.ofNat 4 (cmdAt c 2 1)
def cmdWidth (c : EngCmd) : Nat := cmdAt c 4 4
def cmdHeight (c : EngCmd) : Nat := cmdAt c 8 4
def cmdTileW (c : EngCmd) : Nat := 2 ^ cmdAt c 12 1
def cmdTileH (c : EngCmd) : Nat := 2 ^ cmdAt c 13 1
def cmdSrc (c : EngCmd) : Nat := cmdAt c 16 8
def cmdDst (c : EngCmd) : Nat := cmdAt c 24 8
def cmdSrcPitch (c : EngCmd) : Nat := cmdAt c 32 8
def cmdDstPitch (c : EngCmd) : Nat := cmdAt c 40 8
def cmdFirst (c : EngCmd) : Nat := cmdAt c 48 4
def cmdK (c : EngCmd) : Nat := cmdAt c 8 4 % 16 * 32
def cmdN (c : EngCmd) : Nat := cmdAt c 8 4 / 16 % 16 * 32
def cmdAFmt (c : EngCmd) : Nat := cmdAt c 8 4 / 256 % 16
def cmdCFmt (c : EngCmd) : Nat := cmdAt c 8 4 / 4096 % 16

/-- The command reads a source, and writes a destination. -/
def cmdReads (c : EngCmd) : Bool := ([1, 0x10, 0x11] : List Nat).contains (cmdOp c)
def cmdWrites (c : EngCmd) : Bool := decide (cmdOp c ≠ 0x10)

/-- A field of the command is reserved, or holds a reserved value (R403). -/
def cmdReserved (q : Nat) (c : EngCmd) : Bool :=
  let op := cmdOp c
  let cta := decide (op = 0x10) || decide (op = 0x11)
  let copy := decide (op = 1) || decide (op = 2)
  !(if q < 64 then decide (1 ≤ op) && decide (op ≤ 3) else cta)
    || decide (cmdAt c 1 1 / 64 = 0) || decide (16 ≤ cmdAt c 2 1) || decide (cmdAt c 3 1 ≠ 0) || decide (cmdAt c 14 2 ≠ 0)
    || decide (cmdAt c 52 4 ≠ 0) || (decide (cmdAt c 56 8 ≠ 0) && !(decide (op = 2) || decide (op = 3)))
    || ((copy || cta) && decide (cmdWidth c = 0)) || (copy && decide (cmdHeight c = 0))
    || (copy && (decide (cmdAt c 12 1 < 6) || decide (16 < cmdAt c 12 1) || decide (8 < cmdAt c 13 1)))
    || (cta && (decide (2 ^ 16 ≤ cmdHeight c) || decide (cmdK c = 0) || decide (256 < cmdK c) || decide (cmdN c = 0)
      || decide (256 < cmdN c) || decide (1 < cmdCFmt c) || !([1, 3, 4, 5, 6, 7, 8] : List Nat).contains (cmdAFmt c)))

/-! ## Tiles (R404, R406) -/

/-- Bytes of a row of A, of the whole of B, and of a row of C. -/
def rowABytes (c : EngCmd) : Nat := columnBytes (cmdAFmt c) (cmdK c)
def matrixBytes (c : EngCmd) : Nat := cmdN c * columnBytes (cmdAFmt c) (cmdK c)
def rowCBytes (c : EngCmd) : Nat := cmdN c * (if cmdCFmt c = 0 then 4 else 2)

/-- Tile columns of a rectangle, and the tiles of a command. -/
def tileColumns (c : EngCmd) : Nat := (cmdWidth c + cmdTileW c - 1) / cmdTileW c
def cmdTiles (c : EngCmd) : Nat :=
  match cmdOp c with
  | 1 | 2 => tileColumns c * ((cmdHeight c + cmdTileH c - 1) / cmdTileH c)
  | 0x11 => (cmdWidth c + 255) / 256
  | _ => 1

/-- Rows of a tile: the bytes (address, length) of each, from a base with a pitch. -/
def tileRows (c : EngCmd) (i base pitch : Nat) : List (Nat × Nat) :=
  let x := i % tileColumns c * cmdTileW c
  let y := i / tileColumns c * cmdTileH c
  (List.range (min (cmdTileH c) (cmdHeight c - y))).map fun r => (base + (y + r) * pitch + x, min (cmdTileW c) (cmdWidth c - x))

/-- Rows of a block of 256 rows of a matrix. -/
def blockRows (c : EngCmd) (i base pitch bytes : Nat) : List (Nat × Nat) :=
  (List.range (min 256 (cmdWidth c - 256 * i))).map fun r => (base + (256 * i + r) * pitch, bytes)

/-- What a tile reads, and what it writes. -/
def tileReads (c : EngCmd) (i : Nat) : List (Nat × Nat) :=
  match cmdOp c with
  | 1 => tileRows c i (cmdSrc c) (cmdSrcPitch c)
  | 0x10 => [(cmdSrc c, matrixBytes c)]
  | 0x11 => blockRows c i (cmdSrc c) (cmdSrcPitch c) (rowABytes c)
  | _ => []
def tileWrites (c : EngCmd) (i : Nat) : List (Nat × Nat) :=
  match cmdOp c with
  | 1 | 2 => tileRows c i (cmdDst c) (cmdDstPitch c)
  | 3 => [(cmdDst c, 8)]
  | 0x11 => blockRows c i (cmdDst c) (cmdDstPitch c) (rowCBytes c)
  | _ => []

/-- The whole of a command's source, and of its destination: base, rows, pitch and bytes of a row. -/
def sourceShape (c : EngCmd) : Nat × Nat × Nat × Nat :=
  match cmdOp c with
  | 0x10 => (cmdSrc c, 1, 0, matrixBytes c)
  | 0x11 => (cmdSrc c, cmdWidth c, cmdSrcPitch c, rowABytes c)
  | _ => (cmdSrc c, cmdHeight c, cmdSrcPitch c, cmdWidth c)
def destShape (c : EngCmd) : Nat × Nat × Nat × Nat :=
  match cmdOp c with
  | 3 => (cmdDst c, 1, 0, 8)
  | 0x11 => (cmdDst c, cmdWidth c, cmdDstPitch c, rowCBytes c)
  | _ => (cmdDst c, cmdHeight c, cmdDstPitch c, cmdWidth c)

/-- Spaces a command names. -/
def cmdSpaces (c : EngCmd) : List Nat := (if cmdReads c then [cmdSrcSpace c] else []) ++ (if cmdWrites c then [cmdDstSpace c] else [])

/-- A byte of the source of a MOVE; a destination byte that is one holds an unspecified value afterwards (R404). -/
def sourceByte (c : EngCmd) (a : Nat) : Bool :=
  decide (cmdOp c = 1) && decide (cmdSrcSpace c = cmdDstSpace c) && decide (cmdSrc c ≤ a)
    && (if cmdHeight c = 1 then decide (a - cmdSrc c < cmdWidth c)
        else decide ((a - cmdSrc c) / cmdSrcPitch c < cmdHeight c) && decide ((a - cmdSrc c) % cmdSrcPitch c < cmdWidth c))

/-! ## Queues -/

def engQueue (q : Nat) (s : State) : EngQueue := smapGet s.m.eng.queues {} q
def onEngQueue (q : Nat) (f : EngQueue → EngQueue) (s : State) : State :=
  onEng (fun e => { e with queues := smapPut e.queues {} q (f (smapGet e.queues {} q)) }) s

/-- The command that runs: the oldest in progress. -/
def frontCmd (q : Nat) (s : State) : Option EngCmd := (engQueue q s).cmds.head?
def onFront (q : Nat) (f : EngCmd → EngCmd) (s : State) : State :=
  onEngQueue q (fun k => { k with cmds := match k.cmds with
    | [] => []
    | c :: l => f c :: l }) s

/-- Key index, epoch and class of a queue (R405), and the key of its DDR5 accesses (R503). -/
def queueKey (q : Nat) (s : State) : Nat := s.rd .module Fld.engQKeyIndex q
def queueEpoch (q : Nat) (s : State) : Nat := s.rd .module Fld.engQKeyEpoch q
def queueClass (q : Nat) (s : State) : Nat := s.rd .module Fld.engQDclass q
def queueDdrKey (q : Nat) (s : State) : Nat := ddrKey (decide (queueClass q s = 1)) (queueKey q s) (queueEpoch q s)

/-- The destination EID of a fabric address may not be sent to: a group or a reserved kind (R53). -/
def eidRefused (a : Nat) : Bool := isGroupEid (gfaEid a) || decide (eidKind (gfaEid a) = 3)

/-- The statuses that end a command before any byte moves (R401, R403, R404, R425, R506, R509). -/
def cmdChecks (q : Nat) (c : EngCmd) (s : State) : List Status :=
  let (sb, sr, sp, sw) := sourceShape c
  let (db, dr, dp, dw) := destShape c
  let w := decide (queueClass q s = 1)
  (if cmdReserved q c then [stVersion] else [])
    ++ (if (cmdReads c && decide (cmdSrcSpace c = 3) && eidRefused sb) || (cmdWrites c && decide (cmdDstSpace c = 3) && eidRefused db)
        then [stNoWindow] else [])
    ++ (if !s.rdb .module Fld.engQValid q || (cmdReads c && !rowsOk (cmdSrcSpace c) sb sr sp sw s)
          || (cmdWrites c && !rowsOk (cmdDstSpace c) db dr dp dw s)
          || (decide (cmdOp c = 1) && decide (1 < cmdHeight c) && (decide (sp < sw) || decide (dp < dw)))
          || (decide (cmdOp c = 2) && decide (1 < cmdHeight c) && decide (dp < dw))
          || (decide (cmdOp c = 3) && decide (cmdDst c % 8 ≠ 0))
          || (w && !(s.rdb .module Fld.secSlotEngineOk (queueKey q s)))
          || (w && (cmdSpaces c).contains 2) then [stAccessDenied] else [])
    ++ (if slotRetired .module (queueKey q s) (queueEpoch q s) s then [stAborted] else [])

/-- A command ends: its status, outcome, and the tile it stands at as the first not fully moved. -/
def endCmd (q : Nat) (st : Status) (outcome : Nat) (s : State) : State :=
  onFront q (fun c => { c with ended := true, statuses := c.statuses ++ [st], outcome := outcome, lookups := [] }) s

/-- The command at the front of a queue starts (R407): its checks, and its first tile. -/
def startFront (q : Nat) (s : State) : State :=
  match frontCmd q s with
  | none => s
  | some c =>
    if c.started || s.m.power.loss then s
    else
      let bad := cmdChecks q c s
      let t := if cmdReserved q c then cmdFirst c else min (cmdFirst c) (cmdTiles c)
      onFront q (fun c => { c with started := true, tile := t, statuses := bad, ended := !bad.isEmpty
                                   outcome := if bad.isEmpty then outApplied else outNotApplied }) s

/-- The engine of a queue may reach the host: Bus Master Enable is set (R568). -/
def hostOpen (s : State) : Bool := s.m.pci.busMaster

/-- A queue stops (R564): EN clears, STOPPED and STATUS are set, and its source is raised. -/
def stopEng (q : Nat) (st : Status) (s : State) : State :=
  let s1 := onEngQueue q (fun k => { k with fetching := false }) s
  raiseSource q (((s1.wrb .module Fld.engQrEn q false).wrb .module Fld.engQrStopped q true).wr .module Fld.engQrStatus q st.toNat)

/-- Entries of a queue's rings (R561). -/
def ringSize (q : Nat) (s : State) : Nat := 2 ^ s.rd .module Fld.engQrSizeLog2 q

/-- The address of a command, and of a record, in its ring. -/
def cmdAddr (q : Nat) (s : State) : Nat := s.rd .module Fld.engQrCmdBase q * 4096 + 64 * (s.rd .module Fld.engQrHead q % ringSize q s)
def cplAddr (q : Nat) (s : State) : Nat := s.rd .module Fld.engQrCplBase q * 4096 + 16 * (s.rd .module Fld.engQrCtail q % ringSize q s)

/-- The queue fetches its next command, where there is one, the completion ring has room for it and the function may read (R554,
R562, R568). -/
def pumpRing (q : Nat) (s : State) : State :=
  let head := s.rd .module Fld.engQrHead q
  let used := (head + 2 ^ 16 - s.rd .module Fld.engQdbChead q) % 2 ^ 16
  let ddr := s.rdb .module Fld.engQrCmdDdr q
  if s.rdb .module Fld.engQrEn q && !(engQueue q s).fetching && decide (head ≠ s.rd .module Fld.engQdbTail q)
      && decide (used < ringSize q s) && decide (s.rd .module Fld.pciStatusDState = 0) && (ddr || hostOpen s) then
    let s1 := onEngQueue q (fun k => { k with fetching := true }) s
    if ddr then s1 else s1.emit .module (.hostRead none (cmdAddr q s) 64)
  else s

/-- Every queue fetches what it may. -/
def pumpRings (s : State) : State := (List.range 72).foldl (fun s q => pumpRing q s) s

/-- A fetched command joins its queue. -/
def takeCmd (q : Nat) (data : List Byte) (s : State) : State :=
  let s1 := onEngQueue q (fun k => { k with fetching := false, count := k.count + 1, cmds := k.cmds ++ [{ index := k.count, data := data }] }) s
  pumpRing q (startFront q (s1.wr .module Fld.engQrHead q (s.rd .module Fld.engQrHead q + 1)))

/-- What a ring fetch has brought (R562, R564). -/
def ringFetched (q : Nat) (r : HostReply) (s : State) : State :=
  if !(engQueue q s).fetching then s
  else if s.rdb .module Fld.engQrCmdDdr q then
    if !ddrOk (cmdAddr q s) 64 s then stopEng q stAccessDenied s
    else match moduleRead .ddr 0 (cmdAddr q s) 64 s with
      | .ok d => takeCmd q d s
      | .error _ => stopEng q stCheckFail s
  else match r with
    | .data d => takeCmd q (fitTo 64 d) s
    | .refused => stopEng q stAccessDenied s
    | .poisoned => stopEng q stCheckFail s

/-- EN of a queue as written (R561, R568): from 0 to 1 the counts return to 0, from 1 to 0 nothing more is fetched. -/
def enableQueue (q : Nat) (on : Bool) (s : State) : State :=
  if on && !s.rdb .module Fld.engQrEn q then
    let s1 := onEngQueue q (fun k => { k with count := 0, fetching := false }) s
    ((((((s1.wrb .module Fld.engQrEn q true).wrb .module Fld.engQrStopped q false).wr .module Fld.engQrHead q 0).wr .module
      Fld.engQrCtail q 0).wr .module Fld.engQdbTail q 0).wr .module Fld.engQdbChead q 0)
  else if on then s
  else (onEngQueue q (fun k => { k with fetching := false }) s).wrb .module Fld.engQrEn q false

/-- A doorbell (R562, R564): TAIL is kept; one more than the ring's size ahead of HEAD stops the queue. -/
def ringDoorbell (q tail : Nat) (s : State) : State :=
  let s1 := s.wr .module Fld.engQdbTail q tail
  if !s.rdb .module Fld.engQrEn q then s1
  else if ringSize q s < (tail % 2 ^ 16 + 2 ^ 16 - s.rd .module Fld.engQrHead q) % 2 ^ 16 then stopEng q stResource s1
  else pumpRing q s1

/-! ## Moving a tile (R404 to R413) -/

/-- The host pages that a tile touches, with the permission each needs. -/
def tilePages (c : EngCmd) : List (Nat × Bool) :=
  ((if cmdSrcSpace c = 2 then (tileReads c c.tile).flatMap fun r => (hostPages r.1 r.2).map fun p => (p, false) else [])
    ++ (if cmdDstSpace c = 2 then (tileWrites c c.tile).flatMap fun r => (hostPages r.1 r.2).map fun p => (p, true) else [])).eraseDups

/-- The lookups that a tile still needs. -/
def lookTile (q : Nat) (c : EngCmd) (s : State) : State :=
  (tilePages c).foldl (fun s p =>
    match frontCmd q s with
    | none => s
    | some c =>
      if c.lookups.any fun l => decide (l.page = p.1) && decide (l.write = p.2) then s
      else
        let r := lookupPage (queueUnit q) (s.rd .module Fld.engQPasid q) p.1 p.2 s
        onFront q (fun c => { c with lookups := c.lookups ++ [{ page := p.1, write := p.2, state := r.1 }] }) r.2) s

/-- A tile with an unmapped page ends its command (R412); a page request goes out for the pages the host did not grant. -/
def tileFault (q : Nat) (c : EngCmd) (s : State) : State :=
  let pages := (c.lookups.filter fun l => decide (l.state = .unmapped)).map fun l => (l.page, l.write)
  let r := pageRequest (s.rd .module Fld.engQPasid q) pages none s
  onFront q (fun c => { c with prSent := r.1 }) (bump .module .engTileFaultCnt 0 (endCmd q stTranslationFault outNotApplied r.2))

/-- The running command's tile has every lookup answered and one not mapped. -/
def faultCheck (q : Nat) (s : State) : State :=
  match frontCmd q s with
  | none => s
  | some c =>
    if c.phase = .looking && c.lookups.all (fun l => decide (l.state ≠ .asking)) && c.lookups.any (fun l => decide (l.state ≠ .mapped)) then
      tileFault q c s
    else s

/-- The bytes of rows in the tile's buffer: (place in the buffer, address, length). -/
def placed : Nat → List (Nat × Nat) → List (Nat × Nat × Nat)
  | _, [] => []
  | i, (a, n) :: l => (i, a, n) :: placed (i + n) l

/-- Rows cut at the 4 KiB boundaries of the GFA (R219, R405). -/
def fabricCuts (rows : List (Nat × Nat)) : List (Nat × Nat × Nat) :=
  (placed 0 rows).flatMap fun r => (pageCuts (gfaOff r.2.1) r.2.2).map fun c => (r.1 + c.1, r.2.1 + c.1, c.2)

/-- A fabric packet of a queue. -/
def queuePacket (q : Nat) (c : EngCmd) (op : BitVec 8) (a opx : Nat) (payload : List Byte) (s : State) : Packet :=
  { dst := gfaEid a, src := s.myEid .module, opcode := op, tc := BitVec.ofNat 3 ((opClass op).getD 3), plane := s.rdb .module Fld.glbRolePlane
    stream := cmdStream c, keyIndex := BitVec.ofNat 13 (queueKey q s), keyEpoch := BitVec.ofNat 4 (queueEpoch q s)
    dclass := BitVec.ofNat 2 (queueClass q s), offset := BitVec.ofNat 44 (gfaOff a), opx := BitVec.ofNat 32 opx, payload := payload }

/-- Sends the packets of a tile. -/
def sendPieces (q : Nat) (c : EngCmd) (op : BitVec 8) (cuts : List (Nat × Nat × Nat)) (buf : List Byte) (s : State) : State :=
  cuts.foldl (fun s x => issueOp .module (some q) (.engine q x.1) true
    (queuePacket q c op x.2.1 (if op = 0x81 then x.2.2 - 1 else 0) (slice buf x.1 x.2.2) s) s)
    (onFront q (fun c => { c with left := cuts.length }) s)

/-- Reads rows of DDR5: the first that is uncorrectable fails the tile. -/
def readRows (key : Nat) (rows : List (Nat × Nat)) (s : State) : Except Status (List Byte) :=
  rows.foldl (fun acc r => match acc with
    | .error e => .error e
    | .ok l => match moduleRead .ddr key r.1 r.2 s with
      | .ok d => .ok (l ++ d)
      | .error e => .error e) (.ok [])

/-- The elements of one row of C (R406). -/
def rowOfC (c : EngCmd) (m : EngMatrix) (row : List Byte) : List Byte :=
  let x := columnDecode (cmdAFmt c) (cmdK c) row
  let cb := columnBytes m.fmt m.k
  (List.range (cmdN c)).flatMap fun j =>
    let v := innerProduct x (columnDecode m.fmt m.k (slice m.bytes (j * cb) cb))
    if cmdCFmt c = 0 then leBytes 4 v else leBytes 2 (toBf16 .rne (BitVec.ofNat 32 v))

/-- The block of C that a block of A gives; free values where the queue's B does not fit the command (R406 states none). -/
def blockOfC (q : Nat) (c : EngCmd) (a : List Byte) (s : State) : List Byte × State :=
  let rows := a.length / rowABytes c
  match (engQueue q s).matrix with
  | some m =>
    if m.fmt = cmdAFmt c ∧ m.k = cmdK c ∧ m.n = cmdN c then
      ((List.range rows).flatMap fun r => rowOfC c m (slice a (r * rowABytes c) (rowABytes c)), s)
    else ((List.range (rows * rowCBytes c)).map fun i => Config.freeByte s.free i, s.spendFree.2)
  | none => ((List.range (rows * rowCBytes c)).map fun i => Config.freeByte s.free i, s.spendFree.2)

/-- The running command has moved a tile; the next is to be looked up. -/
def nextTile (q : Nat) (s : State) : State :=
  onFront q (fun c => { c with tile := c.tile + 1, phase := .looking, lookups := [], buf := [], left := 0 }) s

/-- Rows of a tile written to a space of the module or to the host: the first status that is not OK. -/
def writeRows (q : Nat) (space : Nat) (rows : List (Nat × Nat × Nat)) (buf : List Byte) (s : State) : Status × State :=
  rows.foldl (fun acc r =>
    let d := slice buf r.1 r.2.2
    let w : Status × State := match space with
      | 0 => (stOk, onEng (fun e => { e with scratch := memWrite e.scratch r.2.1 d }) acc.2)
      | 1 => moduleWrite .ddr (queueDdrKey q acc.2) r.2.1 d false acc.2
      | _ => (stOk, acc.2.emit .module (.hostWrite (some (acc.2.rd .module Fld.engQPasid q)) r.2.1 d))
    (if acc.1 = stOk then w.1 else acc.1, w.2)) (stOk, s)

/-- The bytes a tile writes, unspecified where source and destination overlap (R404). -/
def overlapFree (c : EngCmd) (rows : List (Nat × Nat × Nat)) (buf : List Byte) (s : State) : List Byte × State :=
  let hit := rows.flatMap fun r => (List.range r.2.2).filterMap fun i => if sourceByte c (r.2.1 + i) then some (r.1 + i) else none
  if hit.isEmpty then (buf, s)
  else ((List.range buf.length).map fun i => if hit.contains i then Config.freeByte s.free i else buf.getD i 0, s.spendFree.2)

/-- The bytes of a tile are at hand: they are written (R404 to R406). -/
def writeTile (q : Nat) (buf0 : List Byte) (s0 : State) : State :=
  match frontCmd q s0 with
  | none => s0
  | some c =>
    if cmdOp c = 0x10 then
      nextTile q (onMrn (fun m => { m with arrays := smapErase m.arrays (q - 64) })
        (onEngQueue q (fun k => { k with matrix := some { fmt := cmdAFmt c, k := cmdK c, n := cmdN c, bytes := buf0 } }) s0))
    else
      let b : List Byte × State := if cmdOp c = 0x11 then blockOfC q c buf0 s0 else (buf0, s0)
      let rows := placed 0 (tileWrites c c.tile)
      let f := overlapFree c rows b.1 b.2
      let s1 := onFront q (fun c => { c with phase := .writing, buf := f.1 }) f.2
      if cmdDstSpace c = 3 then
        if cmdOp c = 3 then sendPieces q c 0x63 [(0, cmdDst c, 8)] f.1 s1
        else sendPieces q c 0x80 (fabricCuts (tileWrites c c.tile)) f.1 s1
      else
        let w := writeRows q (cmdDstSpace c) rows f.1 s1
        if w.1 = stOk then nextTile q w.2 else endCmd q w.1 outUnknown w.2

/-- What a FILL or a WRITE_IMM writes in a tile (R405): VALUE repeated from each row's first byte. -/
def fillBytes (c : EngCmd) (i : Nat) : List Byte :=
  (tileWrites c i).flatMap fun r =>
    let x := if cmdOp c = 2 then i % tileColumns c * cmdTileW c else 0
    (List.range r.2).map fun j => (slice c.data 56 8).getD ((x + j) % 8) 0

/-- PROJECT has replaced B, and the queue reloads it before its next block (R406). -/
def reloadB (q : Nat) (s : State) : State :=
  if (smapGet? s.m.mrn.arrays (q - 64)).isSome then
    bump .module .ctaPLoadCnt 0 (onMrn (fun m => { m with arrays := smapErase m.arrays (q - 64) }) s)
  else s

/-- The tile's lookups are mapped: its bytes are read (R410). `host`: what the host returns for the tile's host reads. -/
def readTile (q : Nat) (c : EngCmd) (host : List Byte) (s0 : State) : State :=
  let s := if cmdOp c = 0x11 then
      bumpBy .module .ctaMacCycleCnt 0 (macCycles (cmdAFmt c) (cmdN c) (min 256 (cmdWidth c - 256 * c.tile) * cmdK c)) (reloadB q s0)
    else s0
  let rows := tileReads c c.tile
  let total := (rows.map fun r => r.2).sum
  if !cmdReads c then writeTile q (fillBytes c c.tile) s
  else match cmdSrcSpace c with
    | 0 => writeTile q (rows.flatMap fun r => memRead s.m.eng.scratch r.1 r.2) s
    | 1 => match readRows (queueDdrKey q s) rows s with
      | .ok d => writeTile q d s
      | .error st => endCmd q st outUnknown s
    | 2 => writeTile q (fitTo total host)
        (rows.foldl (fun s r => s.emit .module (.hostRead (some (s.rd .module Fld.engQPasid q)) r.1 r.2)) s)
    | _ => sendPieces q c 0x81 (fabricCuts rows) [] (onFront q (fun c => { c with phase := .reading, buf := zeros total }) s)

/-- The array of a contraction-array queue is gated or disabled (R406). -/
def arrayHeld (q : Nat) (s : State) : Bool := decide (64 ≤ q) && !(arraysUp s).contains (q - 64)

/-- The current tile starts where it may (R410 to R412, R414). -/
def startTile (q : Nat) (host : List Byte) (s : State) : State :=
  match frontCmd q s with
  | none => s
  | some c =>
    if !c.started || c.ended || decide (cmdTiles c ≤ c.tile) || decide (c.phase ≠ .looking) || arrayHeld q s then s
    else if (cmdSpaces c).contains 2 && !atsOn s then endCmd q stTranslationFault outNotApplied s
    else if (cmdSpaces c).contains 2 && !hostOpen s then s
    else
      let s1 := lookTile q c s
      match frontCmd q s1 with
      | none => s1
      | some d =>
        if d.lookups.any fun l => decide (l.state = .asking) then s1
        else if d.lookups.any fun l => decide (l.state ≠ .mapped) then tileFault q d s1
        else readTile q d host s1

/-- One packet of the running command has completed. -/
def takePiece (q : Nat) (f : Finished) (s : State) : State :=
  let piece := match f.op.use with
    | .engine _ i => i
    | _ => 0
  let ok := decide (f.status = stOk)
  let n := f.op.pkt.opx.toNat % 4096 + 1
  let s1 := onFront q (fun c => { c with
    left := c.left - 1
    buf := if ok && decide (c.phase = .reading) then patch c.buf piece (fitTo n f.data) else c.buf
    statuses := if ok || c.ended then c.statuses else c.statuses ++ [f.status] }) s
  match frontCmd q s1 with
  | none => s1
  | some c =>
    if c.left ≠ 0 ∨ c.ended = true then s1
    else if !c.statuses.isEmpty then onFront q (fun c => { c with ended := true, outcome := outUnknown, lookups := [] }) s1
    else if c.phase = .reading then writeTile q c.buf s1
    else nextTile q s1

/-- The packets of a queue that have completed are taken, in order. -/
def takePieces (q : Nat) (s : State) : State :=
  let mine := fun f : Finished => match f.op.use with
    | .engine r _ => decide (r = q)
    | _ => false
  ((s.xpt .module).finished.filter mine).foldl (fun s f => takePiece q f (s.onXpt .module fun x => { x with finished := x.finished.erase f })) s

/-- One step of the engine on the running command: what has completed is taken, and the current tile starts where it may. -/
def engineStep (q op : Nat) (host : List Byte) (s : State) : State :=
  match frontCmd q s with
  | none => s
  | some c => if cmdOp c = op then settle .module (startTile q host (takePieces q s)) else s

/-! ## Completion (R408, R409, R563, R564) -/

/-- The command word (R409). -/
def commandWord (c : EngCmd) (st : Status) (late : Nat) : Word :=
  withBits (withBits (withBits (withBits 0 63 32 (if st = stOk then 0 else c.tile)) 31 31 (b2n c.prSent)) 30 30 (b2n c.invAbort)) 29 26 late

/-- Word 1 of a completion record (R563). -/
def recordWord (q size : Nat) (c : EngCmd) (st : Status) : Word :=
  withBits (withBits (withBits (withBits (withBits 0 63 63 (1 - c.index / size % 2)) 62 59 st.toNat) 58 57
    (if st = stOk then outApplied else c.outcome)) 54 48 q) 15 0 c.index

/-- The running command has ended or moved its last tile, and every packet of it is complete (R408). -/
def cmdDone (c : EngCmd) : Bool := c.started && decide (c.left = 0) && (c.ended || decide (cmdTiles c ≤ c.tile))

/-- A command's record is written, its queue's late refusal with it; an error stops the queue where STOP_ON_ERR asks for it, as does a
record that cannot be written. -/
def recordCmd (q : Nat) (c : EngCmd) (refused : Bool) (s : State) : State :=
  let r := reportStatus c.statuses
  let late := s.rd .module Fld.engQLateStatus q
  let bytes := leBytes 8 (commandWord c r.1 late).toNat ++ leBytes 8 (recordWord q (ringSize q s) c r.1).toNat
  let a := cplAddr q s
  let ddr := s.rdb .module Fld.engQrCplDdr q
  let bad := if ddr then !ddrOk a 16 s else refused
  let s1 := if ddr then (if bad then s else (moduleWrite .ddr 0 a bytes false s).2) else s.emit .module (.hostWrite none a bytes)
  let s2 := onEngQueue q (fun k => { k with cmds := k.cmds.drop 1 }) s1
  let s3 := bump .module .engCmdCnt 0 ((s2.wr .module Fld.engQrCtail q (s.rd .module Fld.engQrCtail q + 1)).wr .module Fld.engQLateStatus q 0)
  let s4 := if late = 0 then s3 else bump .module .engLateRefusalCnt 0 s3
  let s5 := noteAlso .module r.1 r.2 (cmdOp c) s4
  let s6 := if cmdInt c then raiseSource q s5 else s5
  if bad && s.rdb .module Fld.engQrEn q then stopEng q stAccessDenied s6
  else if decide (r.1 ≠ stOk) && s.rdb .module Fld.engQrStopOnErr q && s.rdb .module Fld.engQrEn q then stopEng q r.1 s6 else s6

/-- A command completes, and the next one starts. -/
def completeCmd (q : Nat) (c : EngCmd) (refused : Bool) (s : State) : State := pumpRing q (startFront q (recordCmd q c refused s))

/-! ## Invalidation and withdrawal (R416, R417) -/

/-- The running command of a queue uses a translation that an invalidation covers: its tile is moving. -/
def cmdUses (i : Inval) (q : Nat) (c : EngCmd) (s : State) : Bool :=
  !c.ended && decide (c.phase ≠ .looking) && c.lookups.any fun l => invCovers i (s.rd .module Fld.engQPasid q) l.page

/-- Queues whose running command does so. -/
def queuesUsing (i : Inval) (s : State) : List Nat :=
  (List.range 72).filter fun q => match frontCmd q s with
    | some c => cmdUses i q c s
    | none => false

/-- Lookups of tiles that have not started are discarded where an invalidation covers them; their tiles look up again. -/
def dropLookups (i : Inval) (s : State) : State :=
  (List.range 72).foldl (fun s q => onFront q (fun c =>
    if c.phase = .looking then
      { c with lookups := c.lookups.filter fun l => decide (l.state = .asking) || !invCovers i (s.rd .module Fld.engQPasid q) l.page }
    else c) s) s

/-- A command that an invalidation aborts (R416 step 5). -/
def abortCmd (q : Nat) (s : State) : State := onFront q (fun c => { c with invAbort := true }) (endCmd q stTranslationFault outUnknown s)

end Sys2Proof.Machine
end

