-- ==== Sys2Proof/Machine/PuppetOps.lean ====
section
/-! DEFINITION. Puppet cores and puppet programs (R418 to R424). -/

namespace Sys2Proof.Machine

/-! ## Threads and programs -/

def threadKey (c t : Nat) : Nat := c * 16 + t
def pupThread (c t : Nat) (s : State) : PupThread := smapGet s.m.eng.threads {} (threadKey c t)
def onThread (c t : Nat) (f : PupThread → PupThread) (s : State) : State :=
  onEng (fun e => { e with threads := smapPut e.threads {} (threadKey c t) (f (smapGet e.threads {} (threadKey c t))) }) s

/-- The issue context of a thread (R399). -/
def pupCtx (c t : Nat) : Nat := 72 + 16 * c + t

/-- STATE of PUP.PROG: RUNNING is 2, STOPPING 3, ENDED 4. -/
def progState (p : Nat) (s : State) : Nat := s.rd .module Fld.pupProgState p
def progBusy (p : Nat) (s : State) : Bool := decide (1 ≤ progState p s) && decide (progState p s ≤ 3)

/-- The slot of the program that holds a core. -/
def progOf (c : Nat) (s : State) : Option Nat :=
  findBelow 16 fun p => progBusy p s && decide (s.rd .module Fld.pupProgCoreFirst p ≤ c)
    && decide (c < s.rd .module Fld.pupProgCoreFirst p + s.rd .module Fld.pupProgCoreCount p)

/-- The core runs vendor firmware (R422). -/
def isFirmware (c : Nat) (s : State) : Bool := decide (c < s.rd .module Fld.pupStatusFwCores)

def grantOf (p : Nat) (s : State) : Option Grant := smapGet? s.m.eng.grants p

/-- The grant a thread runs under; none for vendor firmware. -/
def coreGrant (c : Nat) (s : State) : Option Grant := (progOf c s).bind fun p => grantOf p s

/-- A thread may execute: not switched out. -/
def threadReady (c t : Nat) (s : State) : Bool :=
  let x := pupThread c t s
  (isFirmware c s || x.running) && x.waiting.isNone && !x.fence

/-- A program's operations in the fabric. -/
def progOps (p : Nat) (s : State) : List SrcOp :=
  (s.xpt .module).ops.filter fun o => match o.use with
    | .puppet c _ => decide (s.rd .module Fld.pupProgCoreFirst p ≤ c)
        && decide (c < s.rd .module Fld.pupProgCoreFirst p + s.rd .module Fld.pupProgCoreCount p)
    | _ => false

/-- A stopping program has ended once every access of its threads is complete: its cores are free (R423). -/
def settleProg (p : Nat) (s : State) : State :=
  if progState p s = 3 ∧ (progOps p s).isEmpty then
    let n := s.rd .module Fld.pupProgCoreCount p
    raiseSource 82 ((s.wr .module Fld.pupProgState p 4).wr .module Fld.pupStatusFreeCores 0 (s.rd .module Fld.pupStatusFreeCores + n))
  else s
def settleProgs (s : State) : State := (List.range 16).foldl (fun s p => settleProg p s) s

/-- A program stops (R421, R423): its threads execute no more, and their accesses that no packet carries are dropped. -/
def endProgram (p : Nat) (st : Status) (pc : Nat) (s : State) : State :=
  if progState p s = 2 then
    let first := s.rd .module Fld.pupProgCoreFirst p
    let cores := (List.range (s.rd .module Fld.pupProgCoreCount p)).map fun i => first + i
    let s1 := onEng (fun e => { e with threads := e.threads.filter fun x => !cores.contains (x.1 / 16) }) s
    let s2 := s1.onXpt .module fun x => { x with
      fences := x.fences.filter fun f => match f.use with
        | .puppet c _ => !cores.contains c
        | _ => true
      ops := x.ops.filter fun o => match o.use with
        | .puppet c _ => !cores.contains c || o.sent.isSome
        | _ => true }
    settleProg p (((s2.wr .module Fld.pupProgState p 3).wr .module Fld.pupProgStatus p st.toNat).wr .module Fld.pupProgFaultPc p pc)
  else s

/-- A fault of a thread (R421): it ends a program; vendor firmware handles its own. -/
def pupFault (c t pc : Nat) (st : Status) (s : State) : State :=
  match progOf c s with
  | some p => endProgram p st pc s
  | none => onThread c t (fun x => { x with waiting := none }) s

/-! ## The data cache (R418, R420) -/

/-- The line of a core's data cache: 64 bytes (notes/assumptions: the spec gives no line size). -/
def dcacheLine (c line : Nat) (s : State) : Option (List Byte) := (smapGet s.m.eng.dcache [] c).lookup line
def putDcache (c line : Nat) (d : List Byte) (s : State) : State :=
  let keep := (smapGet s.m.eng.dcache [] c).filter fun x => decide (x.1 ≠ line)
  onEng (fun e => { e with dcache := smapSet e.dcache c (((line, d) :: keep).take 512) }) s
def dropDcache (c : Nat) (s : State) : State := onEng (fun e => { e with dcache := smapErase e.dcache c }) s

/-- Scratchpad bytes written, and the core's own cached line with them: the cache writes through. -/
def scratchWrite (c a : Nat) (d : List Byte) (s : State) : State :=
  let s1 := onEng (fun e => { e with scratch := memWrite e.scratch a d }) s
  match dcacheLine c (a / 64) s1 with
  | some l => putDcache c (a / 64) (patch l (a % 64) d) s1
  | none => s1

/-! ## Accesses -/

/-- Key of a thread's DDR5 accesses (R503). -/
def pupDdrKey (c : Nat) (s : State) : Nat := match coreGrant c s with
  | some g => ddrKey (decide (g.dclass = 1)) g.keyIndex g.keyEpoch
  | none => 0

/-- PASID of a core's host space. -/
def corePasid (c : Nat) (s : State) : Nat := match coreGrant c s with
  | some g => g.pasid
  | none => 0

/-- A range lies inside another. -/
def within (a n base size : Nat) : Bool := decide (base ≤ a) && decide (a + n ≤ base + size)

/-- The fault an access takes before anything happens (R401, R414, R419, R421, R422, R506): the program's status, or none. -/
def accessFault (c : Nat) (addr size : Nat) (s : State) : Option Status :=
  let a := addr % 2 ^ 62
  let g := coreGrant c s
  match addr / 2 ^ 62 with
  | 0 => if scratchOk a size s && (match g with
      | some g => within a size g.scratchBase g.scratchSize
      | none => true) then none else some stAccessDenied
  | 1 => if ddrOk a size s && (match g with
      | some g => within a size g.ddrBase g.ddrSize
      | none => true) then none else some stAccessDenied
  | 2 => match g with
    | none => some stAccessDenied
    | some g => if 2 ^ 57 ≤ a ∨ g.dclass = 1 then some stAccessDenied else if atsOn s then none else some stTranslationFault
  | _ => if 2 ^ 44 ≤ a then some stAccessDenied else none

/-- Posted stores of a thread in flight (R418). -/
def postedStores (c t : Nat) (s : State) : Nat :=
  ((s.xpt .module).ops.filter fun o => decide (o.use = .puppet c t) && (decide (o.pkt.opcode = 0x62) || decide (o.pkt.opcode = 0x63))).length

/-- The fabric operation of an access (R419). -/
def pupOpcode (k : PupKind) : BitVec 8 := match k with
  | .load => 0x60
  | .acquire => 0x61
  | .store => 0x62
  | .flag => 0x63
  | .atomic => 0x64

/-- The fabric packet of an access, with the EID and stream of pfeid and the program's key. -/
def pupPacket (c t : Nat) (a : PupAccess) (s : State) : Packet :=
  let f := (pupThread c t s).pfeid
  let g := coreGrant c s
  { dst := BitVec.ofNat 20 (bitsOf f 19 0), src := s.myEid .module, opcode := pupOpcode a.kind, tc := 3
    plane := s.rdb .module Fld.glbRolePlane, stream := BitVec.ofNat 4 (bitsOf f 23 20)
    keyIndex := BitVec.ofNat 13 ((g.map fun g => g.keyIndex).getD 0), keyEpoch := BitVec.ofNat 4 ((g.map fun g => g.keyEpoch).getD 0)
    dclass := BitVec.ofNat 2 ((g.map fun g => g.dclass).getD 0), offset := BitVec.ofNat 44 a.addr
    opx := BitVec.ofNat 32 (match a.kind with
      | .load | .acquire => a.size - 1
      | .atomic => a.op + 16 * (if a.size = 4 then 0 else 1)
      | _ => 0)
    payload := a.data }

/-- The old value and the new one of an atomic on bytes at hand. -/
def pupAtomic (a : PupAccess) (old : List Byte) : Option (List Byte) :=
  (atomicResult { dst := 0, src := 0, opcode := 0x64, tc := 3, plane := false
                  opx := BitVec.ofNat 32 (a.op + 16 * (if a.size = 4 then 0 else 1)), payload := a.data } old).1

/-- The access is complete: what it writes to rd, and the thread is ready. -/
def pupDone (c t : Nat) (rd : Option (List Byte)) (s : State) : State :=
  onThread c t (fun x => { x with waiting := none, rd := rd.getD x.rd }) s

/-- The thread is switched out with an access. -/
def pupWait (c t : Nat) (a : PupAccess) (s : State) : State := onThread c t (fun x => { x with waiting := some a }) s

/-- A fabric access leaves (R419): loads and atomics switch the thread out, stores are posted. A GFA that names a group or a reserved kind
is refused unsent (R53). -/
def pupFabric (c t : Nat) (a : PupAccess) (s : State) : State :=
  let posted := decide (a.kind = .store) || decide (a.kind = .flag)
  let p := pupPacket c t a s
  if isGroupEid p.dst || decide (eidKind p.dst = 3) then
    onThread c t (fun x => { x with pstat := BitVec.ofNat 64 stNoWindow.toNat })
      (pupDone c t (if posted then none else some (List.replicate a.size 0xFF)) s)
  else if posted then
    if 8 ≤ postedStores c t s then pupWait c t a s
    else issueOp .module (some (pupCtx c t)) (.puppet c t) true p (pupDone c t none s)
  else issueOp .module (some (pupCtx c t)) (.puppet c t) true p (pupWait c t { a with issued := true } s)

/-- An access to the scratchpad (R418, R420): a load that misses the cache switches the thread out. -/
def pupScratch (c t : Nat) (a : PupAccess) (fill : Bool) (s : State) : State :=
  let at' := a.addr % 2 ^ 62
  match a.kind with
  | .load | .acquire =>
    match dcacheLine c (at' / 64) s with
    | some l => pupDone c t (some (slice l (at' % 64) a.size)) (putDcache c (at' / 64) l s)
    | none =>
      if fill then
        let l := memRead s.m.eng.scratch (at' / 64 * 64) 64
        pupDone c t (some (slice l (at' % 64) a.size)) (putDcache c (at' / 64) l s)
      else pupWait c t a s
  | .atomic =>
    let old := memRead s.m.eng.scratch at' a.size
    pupDone c t (some old) (match pupAtomic a old with
      | some v => scratchWrite c at' v s
      | none => s)
  | _ => pupDone c t none (scratchWrite c at' a.data s)

/-- An access to DDR5 completes: uncorrectable bytes read as free values (R418 states none). -/
def pupDdr (c t : Nat) (a : PupAccess) (s : State) : State :=
  let at' := a.addr % 2 ^ 62
  let key := pupDdrKey c s
  let r : List Byte × State := match moduleRead .ddr key at' a.size s with
    | .ok d => (d, s)
    | .error _ => ((List.range a.size).map fun i => Config.freeByte s.free i, s.spendFree.2)
  match a.kind with
  | .load | .acquire => pupDone c t (some r.1) r.2
  | .atomic => pupDone c t (some r.1) (match pupAtomic a r.1 with
      | some v => (moduleWrite .ddr key at' v false r.2).2
      | none => r.2)
  | _ => pupDone c t none (moduleWrite .ddr key at' a.data false s).2

/-- An access to the host with its page mapped completes (R414): `host` is what the host returns. -/
def pupHost (c t : Nat) (a : PupAccess) (host : List Byte) (s : State) : State :=
  let at' := a.addr % 2 ^ 62
  let pasid := corePasid c s
  let d := fitTo a.size host
  match a.kind with
  | .load | .acquire => pupDone c t (some d) (s.emit .module (.hostRead (some pasid) at' a.size))
  | .atomic => pupDone c t (some d) (match pupAtomic a d with
      | some v => (s.emit .module (.hostRead (some pasid) at' a.size)).emit .module (.hostWrite (some pasid) at' v)
      | none => s.emit .module (.hostRead (some pasid) at' a.size))
  | _ => pupDone c t none (s.emit .module (.hostWrite (some pasid) at' a.data))

/-- The access needs the permission Write. -/
def pupWrites (k : PupKind) : Bool := match k with
  | .load | .acquire => false
  | _ => true

/-- What a translation's answer does to a waiting access (R421): mapped, a page request, or a page fault. -/
def pupLooked (c t : Nat) (a : PupAccess) (l : Looked) (s : State) : State :=
  match l with
  | .mapped => pupWait c t { a with look := some .mapped } s
  | .asking => pupWait c t { a with look := some .asking } s
  | .timeout => pupFault c t a.pc stTranslationFault s
  | .unmapped =>
    if a.retried then pupFault c t a.pc stTranslationFault s
    else
      let r := pageRequest (corePasid c s) [(a.addr % 2 ^ 62 / 4096, pupWrites a.kind)] (some (c, t)) s
      if r.1 then pupWait c t { a with look := some .unmapped } r.2 else pupFault c t a.pc stTranslationFault r.2

/-- A host access looks its page up; a store whose page is mapped is posted at once. -/
def pupLookup (c t : Nat) (a : PupAccess) (s : State) : State :=
  let r := lookupPage (coreUnit c) (corePasid c s) (a.addr % 2 ^ 62 / 4096) (pupWrites a.kind) s
  if r.1 = .mapped ∧ (a.kind = .store ∨ a.kind = .flag) ∧ hostOpen s = true then pupHost c t a [] r.2 else pupLooked c t a r.1 r.2

/-- Completions of a thread's fabric operations are taken, in order: pstat takes their status and outcome, a load or atomic gives rd. -/
def drainThread (c t : Nat) (s : State) : State :=
  ((s.xpt .module).finished.filter fun f => decide (f.op.use = .puppet c t)).foldl (fun s f =>
    let posted := f.op.pkt.opcode = 0x62 ∨ f.op.pkt.opcode = 0x63
    let n := match (pupThread c t s).waiting with
      | some a => a.size
      | none => 0
    let data := if f.status = stOk then fitTo n f.data else List.replicate n 0xFF
    let s1 := s.onXpt .module fun x => { x with finished := x.finished.erase f }
    let s2 := if isFirmware c s1 || (pupThread c t s1).running then
        onThread c t (fun x => { x with pstat := BitVec.ofNat 64 (f.status.toNat + 16 * f.outcome) }) s1
      else s1
    if posted then s2 else if (pupThread c t s2).waiting.isSome then pupDone c t (some data) s2 else s2) s

/-- A thread executes an access (R418 to R421). -/
def pupAccess (c t : Nat) (pfeid : Option Word) (a : PupAccess) (s0 : State) : State :=
  if !threadReady c t s0 || s0.m.power.loss then s0
  else
    let s1 := drainThread c t s0
    let s := match pfeid with
      | some w => onThread c t (fun x => { x with pfeid := w }) s1
      | none => s1
    match accessFault c a.addr a.size s with
    | some st => pupFault c t a.pc st s
    | none =>
      match a.addr / 2 ^ 62 with
      | 0 => if !pupWrites a.kind || decide (a.kind = .atomic) || decide (postedStores c t s < 8) then pupScratch c t a false s
             else pupWait c t a s
      | 1 => if (a.kind = .store ∨ a.kind = .flag) ∧ postedStores c t s < 8 then pupDdr c t a s else pupWait c t a s
      | 2 => if (a.kind = .store ∨ a.kind = .flag) ∧ 8 ≤ postedStores c t s then pupWait c t a s else pupLookup c t a s
      | _ => pupFabric c t a s

/-- The access that a switched-out thread waits for completes where it can (R418). -/
def pupResume (c t : Nat) (host : List Byte) (s0 : State) : State :=
  let s := drainThread c t s0
  match (pupThread c t s).waiting with
  | none => settleProgs s
  | some a =>
    if a.issued then s
    else if (a.kind = .store ∨ a.kind = .flag) ∧ 8 ≤ postedStores c t s then s
    else match a.addr / 2 ^ 62 with
      | 0 => pupScratch c t a true s
      | 1 => pupDdr c t a s
      | 2 => match a.look with
        | some .mapped => if hostOpen s then pupHost c t a host s else s
        | some _ => s
        | none => pupLookup c t a s
      | _ => pupFabric c t a s

/-- Threads whose waiting access passes a test. -/
def waitingThreads (ok : Nat → PupAccess → Bool) (s : State) : List (Nat × Nat × PupAccess) :=
  s.m.eng.threads.filterMap fun x => match x.2.waiting with
    | some a => if ok (x.1 / 16) a then some (x.1 / 16, x.1 % 16, a) else none
    | none => none

/-- The accesses that use a translation an invalidation covers (R416). -/
def threadsUsing (i : Inval) (s : State) : List (Nat × Nat × PupAccess) :=
  waitingThreads (fun c a => decide (a.look = some .mapped) && invCovers i (corePasid c s) (a.addr % 2 ^ 62 / 4096)) s

/-! ## Loading a program (R422, R423) -/

/-- Two ranges overlap. -/
def overlap (a n b m : Nat) : Bool := decide (a < b + m) && decide (b < a + n)

/-- A grant overlaps another program's. -/
def grantClash (p : Nat) (g : Grant) (s : State) : Bool :=
  (List.range 16).any fun q => decide (q ≠ p) && progBusy q s && (match grantOf q s with
    | some h => overlap g.scratchBase g.scratchSize h.scratchBase h.scratchSize || overlap g.ddrBase g.ddrSize h.ddrBase h.ddrSize
        || g.queues.any fun x => h.queues.contains x
    | none => false)

/-- The first of `n` free cores in a row. -/
def freeCores (n : Nat) (s : State) : Option Nat :=
  findBelow (65 - n) fun c => (List.range n).all fun i => !isFirmware (c + i) s && (progOf (c + i) s).isNone

/-- The staged image: its bytes, where DDR5 holds them (SIZE counts header and code; notes/assumptions). -/
def stagedImage (a : Nat) (s : State) : Option (List Byte × List Byte) :=
  match moduleRead .ddr 0 a 128 s with
  | .error _ => none
  | .ok h =>
    let n := leNat (slice h 8 4)
    match moduleRead .ddr 0 a (n + 114) s with
    | .error _ => none
    | .ok b => if n < 128 then none else some (b.take n, slice b n 114)

/-- The statuses a load ends with (R423, R506). -/
def loadChecks (p n : Nat) (img : Option (List Byte × List Byte)) (g : Grant) (s : State) : List Status :=
  let h := (img.map fun x => x.1).getD []
  let k := leNat (slice h 17 1)
  let signed := match img with
    | some (b, sig) => decide (k < 16) && s.rdb .module Fld.secSignerValid k && !s.rdb .module Fld.secSignerRevoked k
        && Config.ed448Verify (smapGet s.m.signers [] k) (Config.shake256 64 b) sig
    | none => false
  (if signed then [] else [stCheckFail])
    ++ (if leNat (slice h 0 4) = 0x51555050 ∧ leNat (slice h 4 2) = 1 ∧ 1 ≤ leNat (slice h 16 1) ∧ leNat (slice h 16 1) ≤ 16 then [] else [stVersion])
    ++ (if g.dclass = 1 ∧ s.rdb .module Fld.secSlotProgOk g.keyIndex = false then [stAccessDenied] else [])
    ++ (if progBusy p s || (freeCores n s).isNone || grantClash p g s then [stResource] else [])

/-- Words 0 to 7 of a measurement (R491). -/
def setMeasurement (m : Nat) (digest : List Byte) (s : State) : State :=
  (List.range 8).foldl (fun s w => s.setWord .module .secMeas m w (BitVec.ofNat 64 (leNat (slice digest (8 * w) 8)))) s

/-- PUP.LOAD (R423): the image is verified; it starts on the first free cores, or the load ends with its status. -/
def loadProgram (p n img : Nat) (g : Grant) (s : State) : State :=
  let image := stagedImage img s
  let r := reportStatus (loadChecks p n image g s)
  let s1 := noteAlso .module r.1 r.2 p s
  match image, freeCores n s with
  | some (b, _), some first =>
    if r.1 = stOk then
      let threads := leNat (slice b 16 1)
      let s2 := setMeasurement (16 + p) (Config.shake256 64 b) s1
      let s3 := (((((s2.wr .module Fld.pupProgState p 2).wr .module Fld.pupProgStatus p 0).wr .module Fld.pupProgCoreFirst p first).wr .module
        Fld.pupProgCoreCount p n).wr .module Fld.pupProgFaultPc p 0).wr .module Fld.pupStatusFreeCores 0
          (s.rd .module Fld.pupStatusFreeCores - n)
      let s4 := (List.range 6).foldl (fun s w => s.setWord .module .pupProg p (2 + w) (Config.grantWord g (2 + w))) s3
      onEng (fun e => { e with
        grants := smapSet e.grants p g
        dcache := (List.range n).foldl (fun m i => smapErase m (first + i)) e.dcache
        threads := (List.range n).foldl (fun m i => (List.range threads).foldl (fun m t => smapSet m (threadKey (first + i) t) { running := true }) m)
          e.threads }) s4
    else s1.wr .module Fld.pupProgStatus p r.1.toNat
  | _, _ => s1.wr .module Fld.pupProgStatus p r.1.toNat

end Sys2Proof.Machine
end

