-- ==== Sys2Proof/Machine/Engines.lean ====
section
/-! DEFINITION. Commands of the engines, of translation and of the puppet cores (12), and FENCE_COMPLETE (R204). -/

namespace Sys2Proof.Machine

/-! ## Engine commands (R403 to R413) -/

/-- MOVE (R404): one step of a queue whose running command is a MOVE. `host`: what the host returns for its tile's host reads. -/
def execMove (q : Nat) (host : List Byte) (s : State) : Host.Outcome State Fault Refusal := .next (engineStep q 0x01 host s)

/-- FILL (R405). -/
def execFill (q : Nat) (s : State) : Host.Outcome State Fault Refusal := .next (engineStep q 0x02 [] s)

/-- WRITE_IMM (R405). -/
def execWriteImm (q : Nat) (s : State) : Host.Outcome State Fault Refusal := .next (engineStep q 0x03 [] s)

/-- CTA_LOAD_B (R406). -/
def execCtaLoadB (q : Nat) (host : List Byte) (s : State) : Host.Outcome State Fault Refusal := .next (engineStep q 0x10 host s)

/-- CTA_MATMUL (R406): one block of 256 rows. -/
def execCtaMatmul (q : Nat) (host : List Byte) (s : State) : Host.Outcome State Fault Refusal := .next (engineStep q 0x11 host s)

/-- COMMAND_COMPLETE (R408). `refused`: the write of a record to host memory ends with Unsupported Request or Completer Abort (R564). -/
def execCommandComplete (q : Nat) (refused : Bool) (s : State) : Host.Outcome State Fault Refusal :=
  let s1 := takePieces q s
  .next (match frontCmd q s1 with
    | none => s1
    | some c => if cmdDone c && (s1.rdb .module Fld.engQrCplDdr q || hostOpen s1) then completeCmd q c refused s1 else s1)

/-! ## Translation (R410 to R417, R421) -/

/-- The answer to a request reaches every tile and access that waits for it. -/
def spreadAnswer (pasid : Nat) (x : Xlat) (s : State) : State :=
  let s1 := (List.range 72).foldl (fun s q =>
    if s.rd .module Fld.engQPasid q = pasid then
      match frontCmd q s with
      | none => s
      | some c =>
        if c.phase = .looking && c.lookups.any fun l => decide (l.state = .asking) && xlatCovers x pasid l.page then
          faultCheck q (onFront q (fun c => { c with lookups := c.lookups.map (answerLookup x pasid) })
            (if x.read || x.write then fillL1 (queueUnit q) x s else s))
        else s
    else s) s
  (waitingThreads (fun c a => decide (a.look = some .asking) && decide (corePasid c s1 = pasid)
      && xlatCovers x pasid (a.addr % 2 ^ 62 / 4096)) s1).foldl (fun s w =>
    let s2 := if x.read || x.write then fillL1 (coreUnit w.1) x s else s
    pupLooked w.1 w.2.1 w.2.2 (if xlatGrants x (pupWrites w.2.2.kind) then .mapped else .unmapped) s2) s1

/-- ATS_TRANSLATION_COMPLETION (R411, R415): the page asked for, the log2 of the size returned and the permissions granted. An answer to a
request that an invalidation has overtaken is discarded, and the page asked for again (R416). -/
def execAtsTranslationCompletion (pasid page size : Nat) (read write : Bool) (s : State) : Host.Outcome State Fault Refusal :=
  .next (match takeAsk pasid page s with
    | (none, _) => s
    | (some k, s1) =>
      if k.stale then sendAsk pasid page (onAts (fun a => { a with asks := a.asks ++ [{ pasid := pasid, page := page }] }) s1)
      else
        let x : Xlat := { pasid := pasid, page := page / 2 ^ (size - 12) * 2 ^ (size - 12), size := size, read := read, write := write }
        spreadAnswer pasid x (if read || write then fillL2 x s1 else s1))

/-- A Translation Request reaches the Completion Timeout (R415): its page counts as not mapped, and no page request is raised. -/
def translationTimeout (pasid page : Nat) (s : State) : State :=
  match takeAsk pasid page s with
  | (none, _) => s
  | (some _, s1) =>
    let s2 := (List.range 72).foldl (fun s q =>
      if s.rd .module Fld.engQPasid q = pasid then
        faultCheck q (onFront q (fun c => { c with lookups := c.lookups.map fun l =>
          if l.state = .asking ∧ l.page = page then { l with state := .timeout } else l }) s)
      else s) s1
    (waitingThreads (fun c a => decide (a.look = some .asking) && decide (corePasid c s2 = pasid)
        && decide (a.addr % 2 ^ 62 / 4096 = page)) s2).foldl (fun s w => pupLooked w.1 w.2.1 w.2.2 .timeout s) s2

/-- PAGE_REQUEST_RESPONSE (R413, R421): a waiting puppet access retries, or takes a page fault. -/
def execPageRequestResponse (group : Nat) (success : Bool) (s : State) : Host.Outcome State Fault Refusal :=
  .next (match s.m.eng.ats.groups.find? fun g => decide (g.group = group) with
    | none => s
    | some g =>
      let s1 := notePr (onAts (fun a => { a with groups := a.groups.filter fun x => decide (x.group ≠ group) }) s)
      let s2 := if success then s1 else raiseSource 79 (bump .module .atsPrFailCnt 0 s1)
      match g.thread with
      | none => s2
      | some (c, t) => match (pupThread c t s2).waiting with
        | some a =>
          if a.look ≠ some .unmapped then s2
          else if success then pupLookup c t { a with retried := true, look := none } s2 else pupFault c t a.pc stTranslationFault s2
        | none => s2)

/-- ATS_INVALIDATE (R416 steps 1 and 2): of a PASID, or of all, over the addresses `lo` to `hi`. -/
def execAtsInvalidate (itag : Nat) (pasid : Option Nat) (lo hi : Nat) (s : State) : Host.Outcome State Fault Refusal :=
  let i : Inval := { itag := itag, pasid := pasid, lo := lo, hi := hi }
  .next (if (s.m.eng.ats.invals.any fun x => decide (x.itag = itag)) || decide (32 ≤ s.m.eng.ats.invals.length) then s
    else
      let s1 := noteInv (onAts (fun a => { a with
        invals := a.invals ++ [i]
        asks := a.asks.map fun k => if invCovers i k.pasid k.page then { k with stale := true } else k }) s)
      dropLookups i (keepXlats (fun x => !invTouches i x) s1))

/-- An invalidation in progress. -/
def invalOf (itag : Nat) (s : State) : Option Inval := s.m.eng.ats.invals.find? fun i => decide (i.itag = itag)

/-- INVALIDATE_DRAINED (R416 steps 3 and 4). -/
def execInvalidateDrained (itag : Nat) (s : State) : Host.Outcome State Fault Refusal :=
  .next (match invalOf itag s with
    | none => s
    | some i => if (queuesUsing i s).isEmpty && (threadsUsing i s).isEmpty then completeInval itag s else s)

/-- INVALIDATE_BOUND (R416 steps 5 and 6): what still uses a withdrawn translation is aborted. -/
def execInvalidateBound (itag : Nat) (s : State) : Host.Outcome State Fault Refusal :=
  .next (match invalOf itag s with
    | none => s
    | some i =>
      let qs := queuesUsing i s
      let ts := threadsUsing i s
      let s1 := qs.foldl (fun s q => abortCmd q s) s
      let s2 := ts.foldl (fun s w => pupFault w.1 w.2.1 w.2.2.pc stTranslationFault s) s1
      completeInval itag (if qs.isEmpty && ts.isEmpty then s2 else raiseSource 79 (bump .module .atsInvAbortCnt 0 s2)))

/-- ATS_FLUSH (R426): a write of ATS.CTL.FLUSH. -/
def execAtsFlush (_path : Path) (s : State) : Host.Outcome State Fault Refusal := .next (keepXlats (fun _ => false) s)

/-! ## Puppet cores (R418 to R424) -/

/-- PUPPET_LOAD (R419). `pfeid`: the CSR as the thread has it. -/
def execPuppetLoad (core thread pc addr size : Nat) (pfeid : Word) (s : State) : Host.Outcome State Fault Refusal :=
  .next (settle .module (pupAccess core thread (some pfeid) { kind := .load, addr := addr, size := size, pc := pc } s))

/-- PUPPET_STORE (R419). -/
def execPuppetStore (core thread pc addr : Nat) (data : List Byte) (pfeid : Word) (s : State) : Host.Outcome State Fault Refusal :=
  .next (settle .module (pupAccess core thread (some pfeid) { kind := .store, addr := addr, size := data.length, data := data, pc := pc } s))

/-- PUPPET_LR_AQ (R419): an acquire load; no reservation is kept. -/
def execPuppetLrAq (core thread pc addr size : Nat) (pfeid : Word) (s : State) : Host.Outcome State Fault Refusal :=
  .next (settle .module (pupAccess core thread (some pfeid) { kind := .acquire, addr := addr, size := size, pc := pc } s))

/-- PUPPET_SC (R419): no access; rd takes 1. -/
def execPuppetSc (core thread : Nat) (s : State) : Host.Outcome State Fault Refusal :=
  .next (if threadReady core thread s then onThread core thread (fun x => { x with rd := leBytes 8 1 }) s else s)

/-- PUPPET_AMO (R419): `op` is the OP of R215; AMOSWAP with rl set and rd = x0 is a flagged store. -/
def execPuppetAmo (core thread pc addr op : Nat) (data : List Byte) (rl rdZero : Bool) (pfeid : Word) (s : State) :
    Host.Outcome State Fault Refusal :=
  let flag := decide (op = 5) && rl && rdZero && decide (3 ≤ addr / 2 ^ 62)
  .next (settle .module (pupAccess core thread (some pfeid)
    { kind := if flag then .flag else .atomic, addr := addr, size := data.length, data := data, op := op, pc := pc } s))

/-- PCAS (R419): the compare value is CSR pcmp, `size` 4 or 8. -/
def execPcas (core thread pc addr size : Nat) (swap : List Byte) (pcmp pfeid : Word) (s : State) : Host.Outcome State Fault Refusal :=
  let s1 := if threadReady core thread s then onThread core thread (fun x => { x with pcmp := pcmp }) s else s
  .next (settle .module (pupAccess core thread (some pfeid)
    { kind := .atomic, addr := addr, size := size, data := leBytes size pcmp.toNat ++ fitTo size swap, op := 9, pc := pc } s1))

/-- PUPPET_FENCE (R204, R419): the thread waits for every earlier access of its own. -/
def execPuppetFence (core thread : Nat) (s : State) : Host.Outcome State Fault Refusal :=
  .next (if threadReady core thread s then
      onThread core thread (fun x => { x with fence := true }) ((drainThread core thread s).onXpt .module fun x => { x with
        nextOp := x.nextOp + 1, fences := x.fences ++ [{ id := x.nextOp, ctx := pupCtx core thread, use := .puppet core thread }] })
    else s)

/-- PUPPET_ACCESS_DONE (R418): the access a thread waits for completes. `host`: what the host returns for a host read. -/
def execPuppetAccessDone (core thread : Nat) (host : List Byte) (s : State) : Host.Outcome State Fault Refusal :=
  .next (settle .module (pupResume core thread host s))

/-- FENCE_COMPLETE (R204): a fence of the core port completes on XR, a puppet thread's makes the thread ready and empties its core's data
cache (R419). -/
def execFenceComplete (sd : Side) (ctx : Nat) (s : State) : Host.Outcome State Fault Refusal :=
  .next (match takeFence sd ctx s with
    | none => s
    | some (f, s1) =>
      let r := reportStatus f.statuses
      match sd, f.use with
      | .endpoint, .xq c atag _ _ => settle .endpoint (xrStatus c atag r.1 s1)
      | .module, .puppet c t =>
        settle .module (onThread c t (fun x => { x with fence := false, pstat := BitVec.ofNat 64 r.1.toNat }) (dropDcache c (drainThread c t s1)))
      | _, _ => settle sd s1)

/-- PUPPET_EXIT (R423): a write of the exit CSR 0x803. -/
def execPuppetExit (core thread : Nat) (s : State) : Host.Outcome State Fault Refusal :=
  .next (if threadReady core thread s then
      match progOf core s with
      | some p => endProgram p stOk 0 s
      | none => s
    else s)

/-- PUP_LOAD (R423): a write of PUP.LOAD, with the grant that the load procedure gives the program (R422). -/
def execPupLoad (_path : Path) (value : Word) (grant : Grant) (s : State) : Host.Outcome State Fault Refusal :=
  let n := bitsOf value 59 48
  .next (if n = 0 ∨ 64 < n then regAccess .module (regOffset .module .pupLoad 0 0) value.toNat s
    else loadProgram (bitsOf value 63 60) n (bitsOf value 41 0) grant s)

/-- PUP_KILL (R423): a write of PUP.PROG.KILL. -/
def execPupKill (_path : Path) (slot : Nat) (s : State) : Host.Outcome State Fault Refusal := .next (endProgram slot stAborted 0 s)

/-- The reason a PUPPET_MSG is refused, with the packet as opened (R424). -/
def msgChecks (p : Packet) (room : Option Nat) (s : State) : Sum Packet Status × State :=
  let slot := p.opx.toNat % 4096 / 16
  match grantOf slot s with
  | none => (.inr stNoWindow, s)
  | some g =>
    if 16 ≤ slot || decide (progState slot s ≠ 2) || decide (4096 ≤ p.opx.toNat) then (.inr stNoWindow, s)
    else if g.keyIndex ≠ p.keyIndex.toNat ∨ g.keyEpoch ≠ p.keyEpoch.toNat ∨ g.dclass ≠ p.dclass.toNat ∨ encOk p = false then
      (.inr stAccessDenied, s)
    else match openRequest .module p s with
      | (.inr (.bad st), s1) => (.inr st, s1)
      | (.inr _, s1) => (.inr stAccessDenied, s1)
      | (.inl q, s1) => if room.isNone then (.inr stRetryLater, s1) else (.inl q, s1)

/-- PUPPET_MSG (R424) at a module: checked, then written whole to the mailbox ring, its length word last. `room`: where the ring's words say
the message goes (an address of the scratchpad), or none where the ring is full. -/
def execPuppetMsg (port : Nat) (p : Packet) (room : Option Nat) (s : State) : Host.Outcome State Fault Refusal :=
  .next (if p.opcode ≠ 0xA1 then s
    else settle .module (withRequest .module port p (fun s =>
      match msgChecks p room s with
      | (.inl q, s1) =>
        let a := room.getD 0
        deliver .module p (onEng (fun e => { e with
          scratch := memWrite (memWrite e.scratch (a + 8) q.payload) a (leBytes 8 q.payload.length) }) s1)
      | (.inr st, s1) =>
        if st = stRetryLater ∨ st = stCheckFail then
          sendNack .module st p (s1.onXpt .module fun x => { x with work := x.work.filter fun w => !sameSeq w.pkt p })
        else deliver .module p (sendNack .module st p s1)) s))

end Sys2Proof.Machine
end

