-- ==== Sys2Proof/Machine/HostPort.lean ====
section
/-! DEFINITION. Commands of the host interface (17): the aperture, engine queues, interrupts, and the state of the PCIe function. -/

namespace Sys2Proof.Machine

/-! ## The fabric aperture (R554, R558 to R560) -/

/-- The function answers memory requests: Memory Space Enable is set, and it is in D0 (R554). -/
def memoryOpen (s : State) : Bool := s.m.pci.memEnable && decide (s.rd .module Fld.pciStatusDState = 0)

/-- APERTURE_READ (R559): a host read of BAR2. -/
def execApertureRead (off len : Nat) (s : State) : Host.Outcome State Fault Refusal :=
  .next (if memoryOpen s then settle .module (newApt false off len [] s) else s.emit .module .hostUnsupported)

/-- APERTURE_WRITE (R559): a host write of BAR2. -/
def execApertureWrite (off : Nat) (data : List Byte) (s : State) : Host.Outcome State Fault Refusal :=
  .next (if memoryOpen s then settle .module (newApt true off data.length data s) else s)

/-! ## Engine queues (R561, R562) -/

/-- QUEUE_DOORBELL (R562): a write of ENG.QDB.TAIL. -/
def execQueueDoorbell (q tail : Nat) (s : State) : Host.Outcome State Fault Refusal := .next (ringDoorbell q tail s)

/-- CHEAD written (R562). -/
def writeChead (q v : Nat) (s : State) : State := pumpRing q (s.wr .module Fld.engQdbChead q v)

/-- CHEAD_WRITE (R562): a write of ENG.QDB.CHEAD. -/
def execCheadWrite (q chead : Nat) (s : State) : Host.Outcome State Fault Refusal := .next (writeChead q chead s)

/-- Word 2 of ENG.QR as written (R9, R561, R569). -/
def writeQr2 (q : Nat) (v : Word) (s : State) : State :=
  let size := bitsOf v 4 0
  let s1 := if 6 ≤ size ∧ size ≤ 16 then s.wr .module Fld.engQrSizeLog2 q size
    else regAccess .module (regOffset .module .engQr q 2) v.toNat s
  enableQueue q (v.getLsbD 63) (s1.wrb .module Fld.engQrStopOnErr q (v.getLsbD 62))

/-- QUEUE_ENABLE (R561): a write of word 2 of ENG.QR. -/
def execQueueEnable (path : Path) (q : Nat) (value : Word) (s : State) : Host.Outcome State Fault Refusal :=
  .next (rwl .module path (regOffset .module .engQr q 2) value.toNat (writeQr2 q value) s)

/-- RING_FETCH_DONE (R562, R564): a command ring fetch returns. A ring in DDR5 is read from there. -/
def execRingFetchDone (q : Nat) (reply : HostReply) (s : State) : Host.Outcome State Fault Refusal := .next (ringFetched q reply s)

/-- COMPLETION_TIMEOUT (R415, R564): a read of the module's reaches the Completion Timeout. -/
def execCompletionTimeout (what : HostRequest) (s : State) : Host.Outcome State Fault Refusal :=
  .next (match what with
    | .translation pasid page => translationTimeout pasid page s
    | .ringFetch q => if (engQueue q s).fetching && !s.rdb .module Fld.engQrCmdDdr q then stopEng q stTimeout s else s)

/-! ## Interrupts (R565, R566) -/

/-- The condition of a source still holds (R566). -/
def sourceHolds (src : Nat) (s : State) : Bool :=
  if src < 72 then s.rdb .module Fld.engQrStopped src
  else if src = 72 then decide (s.rd .module Fld.fltLogStatusWriteSeq ≠ s.rd .module Fld.fltLogReadReadSeq)
  else if src = 74 then s.rdb .module Fld.mgtStatusRspReady
  else false

/-- Bits of a word of PCI.INT_STATUS are cleared; those whose condition still holds set again (R566). -/
def clearSources (i : Nat) (mask : Word) (s : State) : State :=
  let w := s.word .module .pciIntStatus i 0
  let s1 := s.setWord .module .pciIntStatus i 0 (w &&& ~~~mask)
  ((setBits 64 (w &&& mask).toNat).filter fun b => sourceHolds (64 * i + b) s).foldl (fun s b => raiseSource (64 * i + b) s) s1

/-- INT_STATUS_CLEAR (R566): a write of ones to PCI.INT_STATUS[i]. -/
def execIntStatusClear (_path : Path) (i : Nat) (mask : Word) (s : State) : Host.Outcome State Fault Refusal := .next (clearSources i mask s)

/-- INTERRUPT_HOLDOFF (R566): the deferred message of a source leaves. -/
def execInterruptHoldoff (src : Nat) (s : State) : Host.Outcome State Fault Refusal :=
  .next (if s.m.pci.deferred.contains src && mayMessage s then sendSource src s else s)

/-- Messages deferred that may leave now. -/
def sendDeferred (s : State) : State :=
  s.m.pci.deferred.foldl (fun s src => if mayMessage s && holdoffPassed src s then sendSource src s else s) s

/-- A vector that is not masked any more sends the message its PBA bit stands for (R566). -/
def sendPending (v : Nat) (s : State) : State :=
  if s.m.pci.pba.contains v && s.m.pci.unmasked.contains v && !s.m.pci.functionMask then
    (onPci (fun p => { p with pba := p.pba.filter fun x => decide (x ≠ v) }) s).emit .module (.msix v)
  else s

/-- VECTOR_UNMASK (R566). -/
def execVectorUnmask (v : Nat) (s : State) : Host.Outcome State Fault Refusal :=
  .next (sendPending v (onPci (fun p => { p with unmasked := if p.unmasked.contains v then p.unmasked else p.unmasked ++ [v] }) s))

/-! ## The function (R552, R554, R568) -/

/-- Bus Master Enable clears (R568): no further request, and queues with fetches outstanding stop. -/
def disableBusMaster (s : State) : State :=
  (List.range 72).foldl (fun s q =>
    if (engQueue q s).fetching && !s.rdb .module Fld.engQrCmdDdr q then stopEng q stAccessDenied s else s)
    (onPci (fun p => { p with busMaster := false }) s)

/-- BUS_MASTER_DISABLE (R568). -/
def execBusMasterDisable (s : State) : Host.Outcome State Fault Refusal := .next (disableBusMaster s)

/-- D_STATE_CHANGE (R554, R568): to D3hot, once aperture reads have completed, or back to D0. -/
def execDStateChange (d3 : Bool) (s : State) : Host.Outcome State Fault Refusal :=
  .next (if d3 then settleD3 (onPci (fun p => { p with d3Due := true }) s)
    else pumpRings (sendDeferred ((onPci (fun p => { p with d3Due := false }) s).wr .module Fld.pciStatusDState 0 0)))

/-- What a host write to configuration space or to the MSI-X structure changes (R414, R552, R566). -/
def configWrite (w : ConfigWrite) (s : State) : State :=
  match w with
  | .memoryEnable on => onPci (fun p => { p with memEnable := on }) s
  | .busMaster on => if on then pumpRings (sendDeferred (onPci (fun p => { p with busMaster := true }) s)) else disableBusMaster s
  | .ats on => s.wrb .module Fld.atsStatusAtsEn 0 on
  | .pasid on => s.wrb .module Fld.atsStatusPasidEn 0 on
  | .pri on alloc => (s.wrb .module Fld.atsStatusPriEn 0 on).wr .module Fld.atsStatusPrAlloc 0 (min alloc 512)
  | .completionTimeout v => onPci (fun p => { p with completionTimeout := v }) s
  | .functionMask on =>
    let s1 := onPci (fun p => { p with functionMask := on }) s
    if on then s1 else s1.m.pci.pba.foldl (fun s v => sendPending v s) s1
  | .vectorMask v => onPci (fun p => { p with unmasked := p.unmasked.filter fun x => decide (x ≠ v) }) s

end Sys2Proof.Machine
end

