-- ==== Sys2Proof/Machine/PortEvents.lean ====
section
/-! DEFINITION. What a port's going down or a lane's leaving means for the whole unit. -/

namespace Sys2Proof.Machine

/-- The endpoint block's packets that wait at a port which has gone down: another UP port of the plane takes them; with none they are
lost, which the transport repairs. Link-local packets are dropped. -/
def epRequeue (p : Nat) (s : State) : State :=
  let pkts := (s.port .endpoint p).egress.flatMap fun q => q.2.map fun e => e.pkt
  (pkts.filter fun k => decide (2 ≤ k.tc.toNat)).foldl (fun s k => match epPick (decide (8 ≤ p)) s with
    | some q => portSend .endpoint q k s
    | none => s) (s.onPort .endpoint p fun ps => { ps with egress := [] })

/-- Coherence recovery with the far end of a port that has gone down with unacknowledged flits (R262). -/
def recoverPort (sd : Side) (p : Nat) (s : State) : State :=
  match sd with
  | .endpoint => epRecovery (leafEid (eidRack (s.myEid .endpoint)) (decide (8 ≤ p))) true s
  | .module =>
    match (List.range 128).find? fun k => s.rdb .module Fld.rteSlotValid k && decide (s.rd .module Fld.rteSlotPort k = p) with
    | some k => if s.isLeaf then leafRecovery k s else s
    | none => s

/-- A port goes down (R122): the link layer's part; on the module, LINK_DOWN evidence (R524) and a new lookup for what waits
at the port (R179); where flits were lost, coherence recovery (R262). -/
def portDown (sd : Side) (p reason : Nat) (s : State) : State :=
  let lost := !(s.port sd p).retry.isEmpty
  let s1 := portDownLink sd p reason s
  let s2 := match sd with
    | .module => requeuePort p (setEvidence p 0 (if portUp .module p s then
        s1.onM fun m => { m with live := { m.live with downAt := smapSet m.live.downAt p s.now } } else s1))
    | .endpoint => epRequeue p s1
  if lost then recoverPort sd p s2 else s2

/-- A port that has formed becomes UP once CREDIT_INIT has been received and acknowledged (R132); the endpoint block then sends the
RECOVER_START that waits for a port to its leaf (R262), and a stream whose plane is lost takes the plane that has become usable
(R198). -/
def portComesUp (sd : Side) (p : Nat) (s : State) : State :=
  let s1 := maybeUp sd p s
  match sd with
  | .module => s1
  | .endpoint => if portUp .endpoint p s1 && !portUp .endpoint p s then
      runBarriers .endpoint ((s1.e.recovery.filter fun r => r.startDue && decide (eidPlane r.leaf = decide (8 ≤ p))).foldl
        (fun s r => sendRecoverStart r.leaf s) s1)
    else s1

/-- The lane is one of its port's active lanes. -/
def laneInPort (sd : Side) (n : Nat) (s : State) : Bool :=
  match portOf sd n s with
  | some p => (activeMask sd p s).testBit (n - p)
  | none => false

/-- A lane leaves its port: degrade, or port down where fewer lanes than MIN_WIDTH would remain (R122, R133). -/
def laneLeaves (sd : Side) (n : Nat) (s : State) : State :=
  match portOf sd n s with
  | none => s
  | some p =>
    let mask := activeMask sd p s
    if mask.testBit (n - p) then
      if popcount 8 (clearBit mask (n - p)) < max 1 (s.rd sd Fld.prtCtlMinWidth p) then portDown sd p 2 s
      else dropLane sd p n true s
    else s

/-- A lane leaves its port, where it is in one, and retrains (R93, R101, R109). -/
def leaveAndRetrain (sd : Side) (n : Nat) (ignoreCache : Bool) (s : State) : State :=
  enterDetect sd n ignoreCache (laneLeaves sd n s)

/-- A slice is replaced by a free spare once the lane has left its port; nothing where no spare is free (R98). -/
def spareLane (sd : Side) (n : Nat) (s : State) : State :=
  match freeSlice sd n s with
  | none => s
  | some x => remapSlice sd n x (laneLeaves sd n s)

/-- The replay limit of R122: the lane with the most failed flits leaves the port, or the port goes down. -/
def replayLimit (sd : Side) (p : Nat) (s : State) : State :=
  let lanes := maskLanes p (activeMask sd p s)
  if lanes.length ≤ max 1 (s.rd sd Fld.prtCtlMinWidth p) then portDown sd p 1 s
  else
    let ps := s.port sd p
    let worst := lanes.foldl (fun b n => if smapGet ps.failed 0 b < smapGet ps.failed 0 n then n else b) (lanes.getD 0 p)
    let s1 := (dropLane sd p worst true s).onPort sd p fun ps => { ps with replays := 0, failed := [] }
    replay sd p (oldestSeq (s1.port sd p)) (enterDetect sd worst false s1)

/-- A replay, unless the oldest unacknowledged SEQ has been replayed eight times already (R121, R122). -/
def replayOrLimit (sd : Side) (p : Nat) (seq : BitVec 12) (s : State) : State :=
  if 8 ≤ (s.port sd p).replays then replayLimit sd p s else replay sd p seq s

/-- The ACK and the credit return of a good flit are taken; a total that jumps by more than the grant takes the port
down with reason CREDIT (R119, R126, R139). The Bool says that the port stays. -/
def takeLinkFields (sd : Side) (p : Nat) (f : Flit) (s : State) : Bool × State :=
  match takeCredits (s.port sd p) f.credit with
  | none => (false, portDown sd p 3 s)
  | some ps => (true, portComesUp sd p (takeAck sd p f.ack (s.onPort sd p fun _ => ps)))

end Sys2Proof.Machine
end

