-- ==== Sys2Proof/Machine/Lanes.lean ====
section
/-! DEFINITION. The meanings of the lane commands (03). -/

namespace Sys2Proof.Machine

/-! ## Software requests (R97, R98, R105, R109) -/

/-- A full training that ignores the cache (R109): a disabled lane and a lane powered off stay as they are. -/
def retrainLane (sd : Side) (n : Nat) (s : State) : State :=
  let st := laneSt sd n s
  if st = 0 ∨ st = 10 then s
  else if st = 12 then enterDetect sd n true (s.wr sd Fld.lnkStatusAttempts n 0)
  else leaveAndRetrain sd n true s

/-- LANE_RETRAIN: LNK.CTL.RETRAIN is a WO field, which no lock gates (R10). -/
def execLaneRetrain (sd : Side) (_path : Path) (n : Nat) (s : State) : Host.Outcome State Fault Refusal :=
  .next (retrainLane sd n s)

/-- Clears a lane's preset cache (R97). -/
def flushCache (sd : Side) (n : Nat) (s : State) : State := s.onLane sd n fun l => { l with cache := [] }

/-- CACHE_FLUSH (R97). -/
def execCacheFlush (sd : Side) (_path : Path) (n : Nat) (s : State) : Host.Outcome State Fault Refusal :=
  .next (flushCache sd n s)

/-- The remap that software requests: a lane in DISABLED or OFF changes its slice and stays there (R98). -/
def spareNow (sd : Side) (n : Nat) (s : State) : State :=
  let st := laneSt sd n s
  let t := spareLane sd n s
  if (st = 0 ∨ st = 10) ∧ (freeSlice sd n s).isSome then setLaneSt sd n st t else t

/-- SPARE_NOW (R98). -/
def execSpareNow (sd : Side) (_path : Path) (n : Nat) (s : State) : Host.Outcome State Fault Refusal :=
  .next (spareNow sd n s)

/-- Asks the far end to release lanes; not where fewer than MIN_WIDTH would remain (R135). -/
def askRelease (sd : Side) (n toward : Nat) (s : State) : State :=
  match portOf sd n s with
  | none => s
  | some p =>
    let mask := activeMask sd p s
    let ps := s.port sd p
    let left := clearBit mask (n - p) &&& (255 - ps.releasing.toNat)
    if !mask.testBit (n - p) || !portUp sd p s || decide (popcount 8 left < max 1 (s.rd sd Fld.prtCtlMinWidth p)) then s
    else
      ((sendCtrl sd p 4 (2 ^ (n - p)) [] s).onPort sd p fun ps => { ps with releasing := ps.releasing ||| (1#8 <<< (n - p)) }).onLane
        sd n fun l => { l with releaseTo := toward }

/-- The power state in force: what software requests, or the lower one that the power loop holds (R105, R107, R478). -/
def wantedPower (sd : Side) (n : Nat) (s : State) : Nat := max (s.rd sd Fld.lnkCtlPower n) (s.lane sd n).powerHold

/-- Moves a lane towards the power state in force (R104, R105, R107). A sleeping lane that may wake waits for LANE_WAKE. -/
def applyPower (sd : Side) (n : Nat) (s : State) : State :=
  let st := laneSt sd n s
  match wantedPower sd n s with
  | 0 => if st = 10 then enterDetect sd n false s else s
  | 1 => if st = 8 then askRelease sd n 1 s else s
  | _ =>
    if st = 8 then askRelease sd n 2 s
    else if st = 0 ∨ st = 10 then s
    else enterOff sd n s

/-- A write of LNK.CTL.POWER: 0b11 is reserved (R9). -/
def writePower (sd : Side) (n power : Nat) (s : State) : State :=
  if power ≤ 2 then applyPower sd n (s.wr sd Fld.lnkCtlPower n power)
  else regAccess sd (regOffset sd .lnkCtl n 0) (power * 2 ^ 12) s

/-- LANE_POWER_REQUEST (R105). -/
def execLanePowerRequest (sd : Side) (path : Path) (n power : Nat) (s : State) : Host.Outcome State Fault Refusal :=
  .next (rwl sd path (regOffset sd .lnkCtl n 0) (power * 2 ^ 12) (writePower sd n power) s)

/-- Lanes may leave DISABLED: bring-up step 9 has been reached, which the endpoint block does not have (R109, R351). -/
def mayEnable (sd : Side) (s : State) : Bool :=
  match sd with
  | .module => decide (9 ≤ s.rd .module Fld.glbBringupStatusStep)
  | .endpoint => true

/-- Setting ENABLE: DISABLED to DETECT (R88). -/
def enableLane (sd : Side) (n : Nat) (s : State) : State :=
  let s1 := s.wrb sd Fld.lnkCtlEnable n true
  if laneSt sd n s = 0 ∧ mayEnable sd s = true then applyPower sd n (enterDetect sd n false s1) else s1

/-- LANE_ENABLE (R88, R109). -/
def execLaneEnable (sd : Side) (path : Path) (n : Nat) (s : State) : Host.Outcome State Fault Refusal :=
  .next (rwl sd path (regOffset sd .lnkCtl n 0) 1 (enableLane sd n) s)

/-! ## Training (R83 to R96) -/

/-- FAR_SIGNAL_DETECTED: DETECT to LOCK; an attempt begins and is counted (R88, R108). -/
def execFarSignalDetected (sd : Side) (n : Nat) (s : State) : Host.Outcome State Fault Refusal :=
  .next (if laneSt sd n s = 1 then
    (setLaneSt sd n 2 (bump sd .lnkTrainCnt n s)).onLane sd n fun l => { l with goodBlocks := 0 } else s)

/-- The fast path is abandoned: the attempt fails with REASON TIMEOUT, the cache entry goes and the next training is full
and ignores the cache (R95). -/
def abandonFast (sd : Side) (n : Nat) (s : State) : State :=
  let f := farId sd n s
  failAttempt sd n true ((setReason sd n 5 s).onLane sd n fun l => { l with cache := cacheDrop f.1 f.2 l.cache })

/-- FAR_SIGNAL_LOST (R95, R96, R107): an attempt ends, uncounted on a circuit port; a lane in data is a lane fault. -/
def execFarSignalLost (sd : Side) (n : Nat) (s : State) : Host.Outcome State Fault Refusal :=
  let st := laneSt sd n s
  let circuit := s.rdb sd Fld.lnkCtlCircuit n
  .next (
    if inAttempt st then
      if circuit then enterDetect sd n false (laneLeaves sd n s)
      else if (s.lane sd n).fast then abandonFast sd n (laneLeaves sd n s)
      else failAttempt sd n false (laneLeaves sd n s)
    else if st = 8 ∨ st = 9 ∨ st = 11 then leaveAndRetrain sd n false s
    else s)

/-- A response to this end's outstanding request (R86, R87, R90). -/
def takeTapResponse (sd : Side) (n : Nat) (r : BitVec 16) (s : State) : State :=
  match (s.lane sd n).myRequest with
  | none => s
  | some (req, taps) =>
    if r.toNat / 2 ^ 12 ≠ req.toNat / 2 ^ 12 then s
    else
      (s.wrb sd Fld.lnkStatusPrecodeRx n (r.getLsbD 8)).onLane sd n fun l =>
        { l with myRequest := none
                 farTaps := if r.toNat / 2 ^ 9 % 8 = 0 then
                     BitVec.ofNat 30 (applyRequest l.farTaps.toNat req.toNat taps.toNat).2 else l.farTaps }

/-- What every good control block gives: the far end's state, offer and request, and its answer to this end. A request
with a new SEQ replaces an unanswered one (R87). -/
def takeBlock (sd : Side) (n : Nat) (cb : ControlBlock) (s : State) : State :=
  takeTapResponse sd n cb.response (s.onLane sd n fun l =>
    { l with farTstate := cb.tstate, farRxDone := cb.request.getLsbD 0, farVersion := cb.version
             farAssign := BitVec.ofNat 20 cb.assign.toNat
             farRequest := if l.answered = some (cb.request.extractLsb' 12 4) then l.farRequest
               else some (cb.request, cb.tapset) })

/-- The receiver's own view: it asks for what it next wants while no request is outstanding, and shows when it is done. -/
def takeReceiver (sd : Side) (n : Nat) (rx : ReceiverView) (s : State) : State :=
  s.onLane sd n fun l =>
    let l1 := { l with rxDone := rx.rxDone, eqState := rx.eqState, spanPs := rx.spanPs }
    match rx.wish, l.myRequest with
    | some (w, taps), none =>
      let pre := if s.rdb sd Fld.lnkCtlPrecodeAllow n then w else w &&& 0xFFD#12
      { l1 with myRequestSeq := l.myRequestSeq + 1
                myRequest := some ((l.myRequestSeq + 1).setWidth 16 <<< 12 ||| pre.setWidth 16, taps) }
    | _, _ => l1

/-- Within ±64 ns of the centre of the port's lanes (R101). -/
def inSpan (ps : Int) : Bool := decide (ps ≤ 64000) && decide (-64000 ≤ ps)

/-- IDENTIFY stores the far end's identity (R91). -/
def storeIdentity (sd : Side) (n : Nat) (cb : ControlBlock) (s : State) : State :=
  ((s.wrb sd Fld.lnkFarIdValid n true).wr sd Fld.lnkFarIdEid n (cb.ident.toNat % 2 ^ 20)).wr sd Fld.lnkFarIdPort n
    (cb.ident.toNat / 2 ^ 20 % 2 ^ 10)

/-- What a good control block does to a lane in each training state (R88). -/
def trainStep (sd : Side) (n : Nat) (cb : ControlBlock) (rx : ReceiverView) (s : State) : State :=
  match laneSt sd n s with
  | 2 =>
    let s1 := (takeBlock sd n cb s).onLane sd n fun l => { l with goodBlocks := l.goodBlocks + 1 }
    if 3 ≤ (s1.lane sd n).goodBlocks then setLaneSt sd n 3 s1 else s1
  | 3 => compareIdentity sd n (storeIdentity sd n cb (takeBlock sd n cb s))
  | 11 => compareIdentity sd n (storeIdentity sd n cb (takeBlock sd n cb s))
  | 4 =>
    let s1 := takeReceiver sd n rx (takeBlock sd n cb s)
    if rx.rxDone && (s1.lane sd n).farRxDone then setLaneSt sd n 5 s1 else s1
  | 5 =>
    let s1 := takeReceiver sd n rx (takeBlock sd n cb s)
    if inSpan rx.spanPs then setLaneSt sd n 6 s1 else failAttempt sd n false (setReason sd n 7 s1)
  | 6 => takeBlock sd n cb s
  | 7 => takeBlock sd n cb s
  | 13 => takeReceiver sd n rx (takeBlock sd n cb s)
  | _ => s

/-- CONTROL_BLOCK (R83, R84): a bad one is discarded and counted. -/
def execControlBlock (sd : Side) (n : Nat) (cb : ControlBlock) (rx : ReceiverView) (s : State) :
    Host.Outcome State Fault Refusal :=
  .next (if controlGood cb then trainStep sd n cb rx s else bump sd .lnkCbErr n s)

/-- A lane still in training sends training frames and serves requests (R82, R87). -/
def sendsFrames (st : Nat) : Bool := (decide (1 ≤ st) && decide (st ≤ 7)) || decide (st = 11) || decide (st = 13)

/-- TAP_REQUEST_APPLY (R80, R87): the far end's latest request is applied or refused and answered; the next control block
this end sends carries the answer. -/
def execTapRequestApply (sd : Side) (n : Nat) (s : State) : Host.Outcome State Fault Refusal :=
  .next (match (s.lane sd n).farRequest with
    | none => s
    | some (req, taps) =>
      if sendsFrames (laneSt sd n s) then
        let s1 := serveRequest sd n req taps true s
        s1.emit sd (.controlBlock n (myControlBlock sd n ((portOf sd n s1).getD n) s1))
      else s)

/-- TRAINING_TIMEOUT (R88): the attempt ends as failed. FAST has its own bound (FAST_TIMEOUT). -/
def execTrainingTimeout (sd : Side) (n : Nat) (s : State) : Host.Outcome State Fault Refusal :=
  let st := laneSt sd n s
  .next (if 2 ≤ st ∧ st ≤ 7 then failAttempt sd n false (setReason sd n 5 (laneLeaves sd n s)) else s)

/-- VERIFY_END (R88, R95): at most 537,600 errors of a full VERIFY pass, at most 4,480 of a fast one. A fast VERIFY that
fails goes on in TUNE from the initial preset; one whose load taps request is unanswered or whose deskew is outside the span
cannot hand over. -/
def execVerifyEnd (sd : Side) (n errors : Nat) (s : State) : Host.Outcome State Fault Refusal :=
  let l := s.lane sd n
  .next (match laneSt sd n s with
    | 6 => if errors ≤ 537600 then setLaneSt sd n 7 s else failAttempt sd n false (setReason sd n 6 s)
    | 13 =>
      if 4480 < errors then
        (loadInitPreset sd n (setLaneSt sd n 4 s)).onLane sd n fun l =>
          { l with fast := false, rxDone := false, farTaps := BitVec.ofNat 30 (presetTaps (s.rd sd Fld.lnkCtlInitPreset n)).1 }
      else if l.myRequest.isNone && inSpan l.spanPs then setLaneSt sd n 7 s else s
    | _ => s)

/-- HANDOVER_ACCEPT (R88, R95): a lane that its port's active lane mask names becomes ACTIVE, writes its cache entry and
resets its count of failed attempts. -/
def execHandoverAccept (sd : Side) (n : Nat) (s : State) : Host.Outcome State Fault Refusal :=
  .next (if laneSt sd n s = 7 ∧ laneInPort sd n s = true then
    let f := farId sd n s
    let s1 := (setReason sd n 0 (setLaneSt sd n 8 s)).wr sd Fld.lnkStatusAttempts n 0
    applyPower sd n (s1.onLane sd n fun l =>
      { l with fast := false, ignoreCache := false
               cache := cacheWrite { eid := f.1, lane := f.2, taps := l.farTaps, eqState := l.eqState
                                     precode := s.rdb sd Fld.lnkStatusPrecodeRx n } l.cache })
  else s)

/-- FAST_TIMEOUT (R95): t0 + 500 µs passed without ACTIVE, in FAST, in the fast path's HANDOVER, or in LOCK or IDENTIFY of a
lane that holds an entry for its far end. -/
def execFastTimeout (sd : Side) (n : Nat) (s : State) : Host.Outcome State Fault Refusal :=
  let st := laneSt sd n s
  .next (if st = 13 ∨ (st = 7 ∧ (s.lane sd n).fast = true) ∨ ((st = 2 ∨ st = 3) ∧ cacheHit sd n s = true) then
    abandonFast sd n (laneLeaves sd n s) else s)

/-! ## The wiring plan (R93) -/

/-- The lane is compared again with its plan. -/
def recheckPlan (n : Nat) (s : State) : State :=
  let st := laneSt .module n s
  if !s.rdb .module Fld.lnkFarIdValid n then s
  else if st = 11 then compareIdentity .module n s
  else
    let f := farId .module n s
    let r := planReason n f.1 f.2 s
    if r = 0 then s
    else if st = 8 then enterMiswired .module n r (laneLeaves .module n s)
    else if (4 ≤ st ∧ st ≤ 7) ∨ st = 13 then enterMiswired .module n r (laneLeaves .module n s)
    else s

/-- A write to LNK.PLAN and the comparison it causes (R93). -/
def writePlan (n : Nat) (v : Word) (s : State) : State :=
  recheckPlan n (((s.wr .module Fld.lnkPlanValid n (bitsOf v 63 63)).wr .module Fld.lnkPlanPort n (bitsOf v 29 20)).wr
    .module Fld.lnkPlanEid n (bitsOf v 19 0))

/-- LNK_PLAN_WRITE (R93, R111). -/
def execLnkPlanWrite (path : Path) (n : Nat) (v : Word) (s : State) : Host.Outcome State Fault Refusal :=
  .next (rwl .module path (regOffset .module .lnkPlan n 0) v.toNat (writePlan n v) s)

/-! ## ID_ANNOUNCE (R94) -/

/-- The lanes of a port retrain because its far end is not the one planned: the port keeps no lane. -/
def retrainPort (sd : Side) (p : Nat) (s : State) : State := portDown sd p 2 s

/-- ID_ANNOUNCE (R94). -/
def execIdAnnounce (sd : Side) (p : Nat) (pkt : Packet) (s : State) : Host.Outcome State Fault Refusal :=
  let s1 := consumeArrived sd p pkt s
  .next (if !portUp sd p s then s
    else if !pchkGood pkt then bump sd .xptPchkDiscardCnt 0 s1
    else if (maskLanes p (activeMask sd p s)).all (fun n => decide ((farId sd n s).1 = pkt.src))
        && decide ((farId sd p s).2 = pkt.opx.toNat % 2 ^ 10) then s1
    else retrainPort sd p s1)

/-- ID_ANNOUNCE_TIMER (R94): every 1 ms on a port that carries traffic. -/
def execIdAnnounceTimer (sd : Side) (p : Nat) (s : State) : Host.Outcome State Fault Refusal :=
  .next (if portUp sd p s then portSend sd p (linkPacket sd p 3 (p + portWidth sd p s * 2 ^ 10) [] s) s else s)

/-! ## In data (R98 to R103) -/

/-- The lane's pre-FEC error ratio over 100 ms has stayed above 5.0 × 10^-4 (R98). -/
def ratioHigh (errors bits : Nat) : Bool := decide (5 * bits < errors * 10000)

/-- ERROR_RATIO_CHECK (R98): remap where a spare is free; otherwise the lane stays, with REASON NO_SPARE and an event at
first and at each rise by a factor of ten. -/
def execErrorRatioCheck (sd : Side) (n errors bits : Nat) (s : State) : Host.Outcome State Fault Refusal :=
  .next (if laneSt sd n s ≠ 8 then s
    else if !ratioHigh errors bits then s.onLane sd n fun l => { l with noSpareRatio := none }
    else if (freeSlice sd n s).isSome then spareLane sd n (setReason sd n 6 s)
    else
      let again := match (s.lane sd n).noSpareRatio with
        | none => true
        | some (e, b) => decide (10 * e * bits ≤ errors * b)
      let s1 := setReason sd n 8 s
      if again then
        (logEvent sd { code := 0x11, severity := 2, block := 4, arg0 := n, arg1 := 8 } s1).onLane sd n fun l =>
          { l with noSpareRatio := some (errors, bits) }
      else s1)

/-- The adaptation override of R103 and its end: precedence 2 loop 3 of R476. -/
def freezeLoop (sd : Side) (n errors bits : Nat) (s : State) : State :=
  let l := s.lane sd n
  let frozen := s.rdb sd Fld.lnkCtlAdaptFreeze n
  if !frozen then s.onLane sd n fun l => { l with freezeOverridden := false, quietSince := none }
  else if !l.freezeOverridden then
    if bits < errors * 10000 then
      let s1 := s.onLane sd n fun l => { l with freezeOverridden := true, quietSince := none }
      match sd with
      | .module =>
        overridePolicy 3 4 (regOffset .module .lnkCtl n 0) s1
      | .endpoint => s1
    else s
  else if errors * 100000 < 5 * bits then
    match l.quietSince with
    | none => s.onLane sd n fun l => { l with quietSince := some s.now }
    | some t => if t + 100000000 ≤ s.now then s.onLane sd n fun l => { l with freezeOverridden := false, quietSince := none } else s
  else s.onLane sd n fun l => { l with quietSince := none }

/-- TEL.POLICY.ACTIVE of loop 3 shows whether some lane adapts against the freeze (R477). -/
def settleFreezeBit (s : State) : State :=
  if s.module.lanes.any fun x => x.2.freezeOverridden then s
  else s.wr .module Fld.telPolicyActive 0 (clearBit (s.rd .module Fld.telPolicyActive) 3)

/-- Adaptation and its tap requests may run on the lane: not frozen, or overridden (R103); a pause of activity 2 freezes
every lane (R479). -/
def mayAdapt (sd : Side) (n : Nat) (s : State) : Bool :=
  let paused := match sd with
    | .module => (s.rd .module Fld.telBgCtlPause).testBit 2
    | .endpoint => false
  (!s.rdb sd Fld.lnkCtlAdaptFreeze n && !paused) || (s.lane sd n).freezeOverridden

/-- The receiver asks the far transmitter for one step, at most once in 100 µs (R102). -/
def askStep (sd : Side) (n : Nat) (wish : Option (BitVec 12)) (s : State) : State :=
  let l := s.lane sd n
  let due := match l.laneCtlAt with
    | none => true
    | some t => decide (t + 100000 ≤ s.now)
  match wish, portOf sd n s with
  | some w, some p =>
    if mayAdapt sd n s && l.laneCtl.isNone && due then
      let seq := l.myRequestSeq + 1
      let req : BitVec 16 := seq.setWidth 16 <<< 12 ||| (w.setWidth 16 &&& 0x3E0#16)
      (portSend sd p (linkPacket sd p 4 (req.toNat + n * 2 ^ 16) [] s) s).onLane sd n fun l =>
        { l with laneCtl := some req, laneCtlAt := some s.now, myRequestSeq := seq }
    else s
  | _, _ => s

/-- ALIGNMENT_MARKER (R100, R101, R103): parity errors are counted; a lane outside the span, or with three consecutive markers
that fail SYNC or COUNT, leaves its port and retrains. -/
def execAlignmentMarker (sd : Side) (n : Nat) (m : Marker) (bipSeen : BitVec 8) (spanPs : Int) (errors bits : Nat)
    (wish : Option (BitVec 12)) (s : State) : Host.Outcome State Fault Refusal :=
  .next (if laneSt sd n s ≠ 8 then s
    else
      let l := s.lane sd n
      let syncOk := decide (m.sync = 0xC35A96)
      let countOk := match l.nextMarker with
        | none => true
        | some c => decide (m.count = c)
      let s1 := if syncOk then bumpBy sd .lnkBipErr n (popcount 8 (m.bip ^^^ bipSeen).toNat) s else s
      let s2 := s1.onLane sd n fun l =>
        { l with spanPs := spanPs, badMarkers := if syncOk && countOk then 0 else l.badMarkers + 1
                 nextMarker := if syncOk then some (m.count + 1) else l.nextMarker.map (· + 1) }
      if !inSpan spanPs then leaveAndRetrain sd n false (setReason sd n 7 s2)
      else if 3 ≤ (s2.lane sd n).badMarkers then leaveAndRetrain sd n false s2
      else askStep sd n wish (settleFreezeBit (freezeLoop sd n errors bits s2)))

/-- The lane of a port whose far end has a given lane number. -/
def laneByFar (sd : Side) (p far : Nat) (s : State) : Option Nat :=
  (maskLanes p (activeMask sd p s)).find? fun n => decide ((farId sd n s).2 = far)

/-- LANE_CTL (R102): a response ends this end's request; a request for one step is applied at once and answered. -/
def execLaneCtl (sd : Side) (p : Nat) (pkt : Packet) (s : State) : Host.Outcome State Fault Refusal :=
  let s1 := consumeArrived sd p pkt s
  let w : BitVec 16 := pkt.opx.setWidth 16
  let lane := pkt.opx.toNat / 2 ^ 16 % 2 ^ 10
  .next (if !pchkGood pkt then bump sd .xptPchkDiscardCnt 0 s1
    else if pkt.opx.getLsbD 26 then
      match (s1.lane sd lane).laneCtl with
      | none => s1
      | some req =>
        if req.toNat / 2 ^ 12 ≠ w.toNat / 2 ^ 12 then s1
        else s1.onLane sd lane fun l =>
          { l with laneCtl := none
                   farTaps := if w.toNat / 2 ^ 9 % 8 = 0 then BitVec.ofNat 30 (applyRequest l.farTaps.toNat req.toNat 0).2
                     else l.farTaps }
    else
      match laneByFar sd p lane s1 with
      | none => s1
      | some n =>
        let step : BitVec 16 := if w.toNat / 2 ^ 10 % 4 = 0 then w else w ||| 0xC00
        let s2 := serveRequest sd n step 0 false s1
        portSend sd p (linkPacket sd p 4 ((s2.lane sd n).response.toNat + lane * 2 ^ 16 + 2 ^ 26) [] s2) s2)

/-- LANE_CTL_TIMEOUT (R102): the request is abandoned and counted. -/
def execLaneCtlTimeout (sd : Side) (n : Nat) (s : State) : Host.Outcome State Fault Refusal :=
  .next (if (s.lane sd n).laneCtl.isSome then
    s.onLane sd n fun l => { l with laneCtl := none, laneCtlAbandoned := l.laneCtlAbandoned + 1 } else s)

/-! ## Sleep (R104) -/

/-- SLEEP_SIGNAL_LOSS (R104): the lane is lost and retrains. -/
def execSleepSignalLoss (sd : Side) (n : Nat) (s : State) : Host.Outcome State Fault Refusal :=
  .next (if laneSt sd n s = 9 then enterDetect sd n false s else s)

/-- LANE_WAKE (R104, R105): unless sleep is still wanted, the lane relocks and hands over, or retrains where it is outside
the span. -/
def execLaneWake (sd : Side) (n : Nat) (spanPs : Int) (s : State) : Host.Outcome State Fault Refusal :=
  .next (if laneSt sd n s ≠ 9 ∨ wantedPower sd n s ≠ 0 then s
    else if inSpan spanPs then (setLaneSt sd n 7 s).onLane sd n fun l => { l with spanPs := spanPs }
    else enterDetect sd n false (setReason sd n 7 s))

/-- SLEEP_CONTROL_BLOCK (R104): every 10 µs a lane in SLEEP sends one control block, with TSTATE showing SLEEP. -/
def execSleepControlBlock (sd : Side) (n : Nat) (s : State) : Host.Outcome State Fault Refusal :=
  .next (if laneSt sd n s = 9 then
    s.emit sd (.controlBlock n (myControlBlock sd n ((portOf sd n s).getD n) s)) else s)

end Sys2Proof.Machine
end

