-- ==== Sys2Proof/Machine/TileOps.lean ====
section
/-! DEFINITION. Retirement, replacement and the loss of tiles (R443 to R448). -/

namespace Sys2Proof.Machine

/-! ## Contents lost (R445) -/

/-- Lane group of a BUFFER tile, and the number of a FASTPOOL tile among those the image gives that role (R244). -/
def tileGroup (t : Nat) (s : State) : Nat := s.rd .module Fld.tilMapLaneGroup t
def fastNumber (t : Nat) (s : State) : Nat :=
  ((List.range t).filter fun u => decide ((s.m.bring.roleMap.getD (2 * u) 0).toNat % 8 = 3)).length

/-- The number of a DIRECTORY tile among those in service, in logical tile order (R250). -/
def dirNumber (t : Nat) (s : State) : Nat := ((List.range t).filter fun u => decide (tileRole u s = 1)).length

/-- Discards a packet that a BUFFER tile held: it leaves its queue, and is counted at its arrival port. -/
def dropHeld (x : Nat × Packet) (s : State) : State :=
  let s1 := (s.m.sw.waiting.filter fun w => decide (w.port = x.1) && decide (w.pkt = x.2)).foldl (fun s w =>
    leaveIngress w.port w.held w.pkt s) s
  let s2 := s1.onM fun m => { m with sw := { m.sw with
    waiting := m.sw.waiting.filter fun w => !(decide (w.port = x.1) && decide (w.pkt = x.2))
    store := m.sw.store.filter fun e => decide (e.pkt ≠ x.2) } }
  let s3 := s2.onUnit .module fun u => { u with ports := u.ports.map fun (p, ps) =>
    (p, { ps with egress := ps.egress.map fun (q, l) => (q, l.filter fun e => decide (e.pkt ≠ x.2)) }) }
  bump .module .prtIngressDiscard x.1 s3

/-- Every item of a tile, or of one word of it, is lost: what the module does by the tile's role (R445). `whole`: all of the tile;
`gone`: the tile went MISSING. -/
def loseContents (t : Nat) (role : Nat) (whole gone : Bool) (l : TileItems) (s : State) : State :=
  match role with
  | 0 => l.chunks.foldl (fun s x => match mrnChunk x.1 x.2.1 x.2.2 s with
      | some k => restartChunk k false s
      | none => s) s
  | 1 =>
    if whole then startFlush (roleCount 1 s) none s
    else l.sets.foldl (fun s k => startFlush (dirTiles s) (some (dirNumber t s, k)) s) s
  | 2 => l.packets.foldl (fun s x => dropHeld x s) s
  | 3 =>
    let base := fastBase / 64 + fastNumber t s * 12288
    if gone then s
    else (if whole then List.range 12288 else l.lines).foldl (fun s i => markPoison (base + i) s) s
  | 4 =>
    let s1 := s.onXpt .module fun x => { x with replay := x.replay.filter fun r => !l.replay.contains (r.src, r.stream, r.xseq) }
    settleProgs (l.programs.foldl (fun s p => endProgram p stInternal 0 s) s1)
  | _ => s

/-! ## Replacement (R444) and MISSING (R446) -/

/-- A physical tile goes out of service: RETIRED, recorded and counted, with its event. -/
def retirePhys (phys t : Nat) (s : State) : State :=
  let s1 := (s.wr .module Fld.tilPhysRole phys 6).wr .module Fld.tilPhysLogical phys 0xFFF
  let s2 := recordEntry (.tile phys) (s1.wr .module Fld.tilRoleCntInService 6 (roleCount 6 s + 1))
  logModule { code := 0x51, severity := 1, block := 2, arg0 := phys, arg1 := t } (bump .module .tilRetireCnt 0 s2)

/-- The repair path switches a logical tile to a replacement (R444 step 6). -/
def switchTile (t phys : Nat) (s : State) : State :=
  let s1 := retirePhys (physOf t s) t s
  let s2 := ((s1.wr .module Fld.tilMapPhysCol t (phys % 34)).wrb .module Fld.tilMapRedirect t true).wr .module Fld.tilMapUeCnt t 0
  settleFigures ((s2.wr .module Fld.tilPhysRole phys (tileRole t s)).wr .module Fld.tilPhysLogical phys t)

/-- A lane group with fewer slots than its ports were given: they go down, to form again (R448). -/
def shrinkGroup (g : Nat) (s : State) : State :=
  let s1 := s.onM fun m => { m with sw := { m.sw with bufTiles := smapPut m.sw.bufTiles 0 g (smapGet m.sw.bufTiles 0 g - 1) } }
  if groupSlots g s1 < groupCommitted g 4096 s1 then
    (List.range 8).foldl (fun s i => if portSt .module (8 * g + i) s = 0 then s else portDown .module (8 * g + i) Config.resourceReason s) s1
  else s1

/-- The functions of the role stop using a tile that went MISSING (R446). -/
def leaveRole (t role : Nat) (s : State) : State :=
  match role with
  | 2 => shrinkGroup (tileGroup t s) s
  | 3 => (onPool (fun p => { p with missing := p.missing ++ [fastNumber t s] }) s).wr .module Fld.dirPoolStatusFastMissing 0
      (s.rd .module Fld.dirPoolStatusFastMissing + 1)
  | _ => s

/-- A role change under way cannot complete once its tile is gone: RESOURCE. -/
def dropChange (t : Nat) (s : State) : State :=
  match s.m.tile.change with
  | some c => if c.tile = t then endRole stResource (onTile (fun x => { x with change := none }) s) else s
  | none => s

/-- A logical tile goes MISSING: its physical tile is retired and none replaces it (R446); its contents are lost (R445). -/
def loseTile (t : Nat) (l : TileItems) (s : State) : State :=
  let role := tileRole t s
  let s1 := leaveRole t role (changeRole t 7 (retirePhys (physOf t s) t (dropChange t s)))
  loseContents t role true true l s1

/-- The next migration begins (R444: one at a time). -/
def nextMigration (s : State) : State :=
  match s.m.tile.migration, s.m.tile.waiting with
  | none, m :: l => (onTile (fun x => { x with migration := some m, waiting := l }) s).wrb .module Fld.tilStatusMigrating 0 true
  | none, [] => s.wrb .module Fld.tilStatusMigrating 0 false
  | _, _ => s

/-- The migration of a logical tile, under way or waiting. -/
def migrationOf (t : Nat) (s : State) : Option Migration :=
  (s.m.tile.migration.toList ++ s.m.tile.waiting).find? fun x => decide (x.tile = t)

/-- A migration is over; where JIG.ROLE_CMD asked for it, the command completes. -/
def endMigration (x : Migration) (s : State) : State :=
  let s1 := onTile (fun y => { y with
    migration := y.migration.filter fun z => decide (z.tile ≠ x.tile)
    waiting := y.waiting.filter fun z => decide (z.tile ≠ x.tile) }) s
  nextMigration (if x.command then endRole stOk s1 else s1)

/-- A tile whose contents can be read retires (R444), or goes MISSING where its row has no free tile (R446). -/
def retireReadable (t : Nat) (command : Bool) (l : TileItems) (s : State) : State :=
  if (migrationOf t s).isSome then s
  else match freePhys t s with
    | some p => nextMigration (onTile (fun x => { x with waiting := x.waiting ++ [{ tile := t, phys := p, command := command }] }) s)
    | none => (fun s => if command then endRole stOk s else s) (loseTile t l s)

/-- A tile whose contents are lost retires at once (R443, R445): onto a replacement with an empty SRAM, or MISSING. A migration of the
tile ends, and its replacement takes over (R450). -/
def retireLost (t : Nat) (l : TileItems) (s : State) : State :=
  let role := tileRole t s
  match migrationOf t s with
  | some x => endMigration x (loseContents t role true false l (switchTile t x.phys s))
  | none => match freePhys t s with
    | some p => loseContents t role true false l (switchTile t p s)
    | none => loseTile t l s

/-- The replacement fails during a migration (R450): it is retired; another free tile of the row is used, or the tile goes MISSING. -/
def replacementFails (t : Nat) (l : TileItems) (s : State) : State :=
  match migrationOf t s with
  | none => s
  | some x =>
    let s1 := retirePhys x.phys t s
    match freePhys t s1 with
    | some p => onTile (fun y => { y with
        migration := y.migration.map fun z => if z.tile = t then { z with phys := p } else z
        waiting := y.waiting.map fun z => if z.tile = t then { z with phys := p } else z }) s1
    | none => endMigration x (loseTile t l s1)

/-! ## When a retirement may proceed -/

/-- Bring-up is past step 5 and the tiles are in service (R450). -/
def tilesServe (s : State) : Bool := decide (6 ≤ s.rd .module Fld.glbBringupStatusStep)

/-- A retirement during steps 3 to 5: the tile is marked bad, for BIST or the next bring-up to map out (R450). -/
def markBad (t : Nat) (s : State) : State :=
  if s.rd .module Fld.glbBringupStatusStep < 3 then s
  else recordEntry (.tile (physOf t s)) (s.wrb .module Fld.tilPhysFieldBad (physOf t s) true)

/-- The tile may be retired: it is neither MISSING nor on no physical tile. -/
def tileServes (t : Nat) (s : State) : Bool := decide (t < 2048) && decide (tileRole t s < 6)

/-- The corrected words of a scrub pass reach CE_THRESH (R443): AUTO_RETIRE 0 defers the retirement and records an event. -/
def scrubbed (t corrected : Nat) (l : TileItems) (s : State) : State :=
  let s1 := s.wr .module Fld.tilMapCeLast t (min corrected 65535)
  if corrected < s.rd .module Fld.tilCtlCeThresh then s1
  else if !s.rdb .module Fld.tilCtlAutoRetire then
    logModule { code := Config.unlistedEvent 0, severity := 1, block := 2, arg0 := physOf t s, arg1 := t }
      (onTile (fun x => { x with deferred := if x.deferred.contains t then x.deferred else x.deferred ++ [t] }) s1)
  else if tilesServe s then retireReadable t false l s1
  else markBad t s1

/-- An uncorrectable word, or a failed self-check (R443): the tile retires with its contents lost, against AUTO_RETIRE 0 as loop 4 of
R476; or the word's items are handled by role. -/
def tileError (t : Nat) (self : Bool) (l : TileItems) (s : State) : State :=
  let s1 := if self then s else saturate .module Fld.tilMapUeCnt t 1 s
  let retire := self || decide (s.rd .module Fld.tilCtlUeThresh ≤ s1.rd .module Fld.tilMapUeCnt t) || s.m.tile.deferred.contains t
    || (migrationOf t s).isSome
  if !retire then loseContents t (tileRole t s) false false l s1
  else if !tilesServe s then markBad t s1
  else
    let s2 := retireLost t l (onTile (fun x => { x with deferred := x.deferred.filter (· ≠ t) }) s1)
    if s.rdb .module Fld.tilCtlAutoRetire then s2 else endOverride 4 (overridePolicy 4 2 (regOffset .module .tilCtl 0 0) s2)

end Sys2Proof.Machine
end

