-- ==== Sys2Proof/Machine/BringOps.lean ====
section
/-! DEFINITION. Bring-up: the steps, the logical map, the image and its checks (R428 to R442). -/

namespace Sys2Proof.Machine

/-! ## Steps (R435, R436, R440) -/

def bringStep (s : State) : Nat := s.rd .module Fld.glbBringupStatusStep
def bringBusy (s : State) : Bool := s.rdb .module Fld.glbBringupStatusBusy
def bringFail (s : State) : Bool := s.rdb .module Fld.glbBringupStatusFail

/-- The write of STEP that starts step `n` (R435). -/
def mayStartStep (n : Nat) (s : State) : Bool :=
  decide (3 ≤ n) && decide (n ≤ 11)
    && ((decide (bringStep s + 1 = n) && !bringBusy s && !bringFail s) || (decide (bringStep s = n) && bringFail s))

/-- A step begins: BUSY 1, no failure, and a new count of time. -/
def enterStep (n : Nat) (s : State) : State :=
  let s1 := ((s.wr .module Fld.glbBringupStatusStep 0 n).wrb .module Fld.glbBringupStatusBusy 0 true).wrb .module Fld.glbBringupStatusFail 0 false
  onBring (fun b => { b with startedAt := s.now, outcome := none }) (s1.wr .module Fld.glbBringupStatusStatus 0 0)

/-- Software writes STEP (R435): the step starts, or the write is discarded and recorded. -/
def startStep (n : Nat) (s : State) : State :=
  if mayStartStep n s then enterStep n (s.wr .module Fld.glbBringupCtlStep 0 n)
  else regAccess .module (regOffset .module .glbBringupCtl 0 0) n s

/-- The work of the step under way has ended: well, or with a status. -/
def stepDone (st : Option Status) (s : State) : State := onBring (fun b => { b with outcome := some st }) s

/-- A step ends (R435): BUSY 0, FAIL and STATUS where it failed; interrupt source 76, and event BRINGUP_FAIL. -/
def endStep (st : Option Status) (s : State) : State :=
  let s1 := onBring (fun b => { b with outcome := none, lastedMs := (s.now - b.startedAt) / 1000000 }) (s.wrb .module Fld.glbBringupStatusBusy 0 false)
  raiseSource 76 (match st with
    | none => s1
    | some x =>
      logModule { code := 0xA2, severity := 2, block := 0, arg0 := bringStep s, arg1 := x.toNat }
        ((s1.wrb .module Fld.glbBringupStatusFail 0 true).wr .module Fld.glbBringupStatusStatus 0 x.toNat))

/-- A step's work, in the step that software has started or starts with this command (over the path's gate, R10). -/
def stepWork (n : Nat) (path : Path) (f : State → State) (s : State) : State :=
  let run := fun (s : State) => if bringStep s = n ∧ bringBusy s = true ∧ s.m.bring.outcome = none then f s else s
  if bringStep s = n ∧ bringBusy s = true then run s
  else rwl .module path (regOffset .module .glbBringupCtl 0 0) n (fun s => run (startStep n s)) s

/-- Step 9 has nothing left to wait for: every enabled lane is ACTIVE, MISWIRED, FAILED or OFF (R436). -/
def lanesSettled (s : State) : Bool :=
  (List.range 1024).all fun n => !s.rdb .module Fld.lnkCtlEnable n || ([8, 10, 11, 12] : List Nat).contains (laneSt .module n s)

/-- Top is LOCKED (R484). -/
def topLocked (s : State) : Bool := decide (s.rd .module Fld.topStatusState = 2)

/-! ## The logical map (R16, R442) -/

/-- A physical tile is bad in the merged map: listed, in the field record, or with more than 16 repaired rows (R441). -/
def rowRepairs (p : Nat) (extra : List (Nat × Nat)) (s : State) : Nat :=
  ((s.m.tile.fuse.rows ++ extra).filter fun x => decide (x.1 = p)).foldl (fun n x => n + x.2) 0
    + (s.m.tile.record.filter fun e => decide (e = .row p)).length
def fuseBad (p : Nat) (s : State) : Bool := s.m.tile.fuse.badTiles.contains p
def fieldBad (p : Nat) (s : State) : Bool := s.m.tile.record.contains (.tile p)
def physBad (p : Nat) (extra : List (Nat × Nat)) (s : State) : Bool :=
  fuseBad p s || fieldBad p s || decide (16 < rowRepairs p extra s) || s.rdb .module Fld.tilPhysBistBad p

/-- The good physical columns of a row, in rising order: logical column c takes the c-th, and is MISSING where there is none. -/
def goodColumns (row : Nat) (bad : Nat → Bool) : List Nat := (List.range 34).filter fun c => !bad (row * 34 + c)

/-- One physical tile's register: what it is and which logical tile it serves. -/
def mapPhys (p : Nat) (bad : Nat → Bool) (extra : List (Nat × Nat)) (s : State) : State :=
  let i := ((goodColumns (p / 34) bad).idxOf? (p % 34)).getD 34
  let t := p / 34 * 32 + i
  let s1 := (s.wrb .module Fld.tilPhysFuseBad p (fuseBad p s)).wrb .module Fld.tilPhysFieldBad p (fieldBad p s)
  let s2 := s1.wr .module Fld.tilPhysRowsRepaired p (min (rowRepairs p extra s) 31)
  if bad p then (s2.wr .module Fld.tilPhysRole p 6).wr .module Fld.tilPhysLogical p 0xFFF
  else if 32 ≤ i then (s2.wr .module Fld.tilPhysRole p 5).wr .module Fld.tilPhysLogical p 0xFFF
  else (s2.wr .module Fld.tilPhysRole p (tileRole t s)).wr .module Fld.tilPhysLogical p t

/-- The role that the image gives a logical tile, and its lane group (R429); 0 and 0 where no image is loaded. -/
def imageRole (t : Nat) (s : State) : Nat := (s.m.bring.roleMap.getD (2 * t) 0).toNat % 8
def imageGroup (t : Nat) (s : State) : Nat := (s.m.bring.roleMap.getD (2 * t + 1) 0).toNat

/-- A logical tile is MISSING under a map. -/
def tileMissing (t : Nat) (bad : Nat → Bool) : Bool := decide ((goodColumns (t / 32) bad).length ≤ t % 32)

/-- One logical tile's register. -/
def mapTile (t : Nat) (bad : Nat → Bool) (s : State) : State :=
  let role := if s.m.bring.roleMap.isEmpty then 0 else if tileMissing t bad then 7 else imageRole t s
  let s1 := (s.wr .module Fld.tilMapPhysCol t ((goodColumns (t / 32) bad).getD (t % 32) 0)).wrb .module Fld.tilMapRedirect t false
  (s1.wr .module Fld.tilMapRole t role).wr .module Fld.tilMapLaneGroup t (if s.m.bring.roleMap.isEmpty then 0 else imageGroup t s)

/-- The map as a whole: physical and logical tiles, and the figures of R21 and R452 that follow. -/
def mapTiles (extra : List (Nat × Nat)) (s : State) : State :=
  let bad := fun p => physBad p extra s
  let s1 := (List.range 2048).foldl (fun s t => mapTile t bad s) s
  let s2 := (List.range 2176).foldl (fun s p => mapPhys p bad extra s) s1
  let missing := ((List.range 2048).filter fun t => tileMissing t bad).length
  let s3 := ((s2.wr .module Fld.glbRoleLogicalTiles 0 (2048 - missing)).wr .module Fld.tilStatusMissing 0 missing).wr .module
    Fld.tilStatusRowsNoSpare 0 (rowsNoSpare s2)
  let s4 := s3.wr .module Fld.glbRolePhysicalGood 0 ((List.range 2176).filter fun p => !bad p).length
  (s4.wr .module Fld.tilRecordStatusUsed 0 s.m.tile.record.length).wr .module Fld.tilRecordStatusFree 0 (512 - s.m.tile.record.length)

/-- Connector lanes in ascending order onto the good slices of their chiplet (R25, R98); 0xFF where a lane is left without one. -/
def mapSlices (s : State) : State :=
  (List.range 1024).foldl (fun s n =>
    let good := (List.range 136).filter fun x => !s.module.badSlices.contains (n / 128, x)
    s.wr .module Fld.lnkStatusSlice n (good.getD (n % 128) 255)) s

/-! ## The image (R428 to R432) -/

/-- A little-endian field of the header or of the section table. -/
def imgField (image : List Byte) (at' n : Nat) : Nat := leNat (slice image at' n)
def imgSections (image : List Byte) : Nat := imgField image 28 4
def secType (image : List Byte) (i : Nat) : Nat := imgField image (256 + 96 * i) 2
def secOffset (image : List Byte) (i : Nat) : Nat := imgField image (256 + 96 * i + 8) 8
def secSize (image : List Byte) (i : Nat) : Nat := imgField image (256 + 96 * i + 16) 8
def secDigest (image : List Byte) (i : Nat) : List Byte := slice image (256 + 96 * i + 24) 64

/-- Header and section table, over which the image digest is taken (R430). -/
def imgTable (image : List Byte) : List Byte := image.take (256 + 96 * imgSections image)

/-- A section by its type. -/
def findSection (image : List Byte) (type : Nat) : Option Nat := (List.range (imgSections image)).find? fun i => decide (secType image i = type)
def sectionBytes (image : List Byte) (i : Nat) : List Byte := slice image (secOffset image i) (secSize image i)

/-- A section lies inside the file, overlaps no earlier one and matches its digest (R431 check 8). -/
def sectionOk (image : List Byte) (i : Nat) : Bool :=
  decide (secOffset image i + secSize image i ≤ imgField image 8 8)
    && decide (Config.shake256 64 (sectionBytes image i) = secDigest image i)
    && (List.range i).all fun j => !overlap (secOffset image i) (secSize image i) (secOffset image j) (secSize image j)

/-- Tiles that the image's ROLE_MAP gives a role, and ROLE_COUNT's count and MIN (R428). -/
def mapRoleAt (roleMap : List Byte) (t : Nat) : Nat := (roleMap.getD (2 * t) 0).toNat
def mapCount (roleMap : List Byte) (role : Nat) : Nat := ((List.range 2048).filter fun t => decide (mapRoleAt roleMap t = role)).length
def imgCount (image : List Byte) (role : Nat) : Nat := imgField image (32 + 4 * role) 2
def imgMin (image : List Byte) (role : Nat) : Nat := imgField image (34 + 4 * role) 2

/-- The BUFFER tiles of a lane group. -/
def groupTiles (roleMap : List Byte) (g : Nat) : List Nat :=
  (List.range 2048).filter fun t => decide (mapRoleAt roleMap t = 2) && decide ((roleMap.getD (2 * t + 1) 0).toNat = g)

/-- The structure rules of R432 that the role map and the header answer for. -/
def roleMapOk (image roleMap : List Byte) : Bool :=
  (List.range 2048).all (fun t => decide (mapRoleAt roleMap t ≤ 5)
      && (decide (mapRoleAt roleMap t = 2) == decide (roleMap.getD (2 * t + 1) 0 ≠ 0xFF)))
    && (List.range 6).all (fun r => decide (mapCount roleMap r = imgCount image r) && decide (imgMin image r ≤ imgCount image r))
    && (decide (imgField image 16 1 = 0) || (decide (mapCount roleMap 1 = 0) && decide (mapCount roleMap 3 = 0)))
    && (List.range 128).all (fun g => decide (2 ≤ (groupTiles roleMap g).length)
      && (groupTiles roleMap g).all fun t => decide (nocHops (Config.attachRouter g) t ≤ 4))
    && decide (16 ≤ mapCount roleMap 4) && decide (mapCount roleMap 0 ≤ 1365) && decide (mapCount roleMap 1 ≤ 511)
    && decide (mapCount roleMap 3 ≤ 255)

/-- The register field that a triple names (R432): one whose Reset entry is "image", with a value that is not reserved. -/
def fieldMask (hi lo : Nat) : Nat := (2 ^ (hi + 1 - lo) - 1) * 2 ^ lo
def imageFieldAt (f : ImageField) : Option (Field × Nat) :=
  match regAt .module f.addr with
  | none => none
  | some (r, i, w) =>
    (imageFields.find? fun x => decide (x.reg = r) && decide (x.word = w) && decide (fieldMask x.hi x.lo = f.mask.toNat)).map fun x => (x, i)
def fieldAllowed (x : Field) (v : Nat) : Bool :=
  match x.reg.fields.find? fun d => decide (d.word = x.word) && decide (d.hi = x.hi) && decide (d.lo = x.lo) with
  | some d => d.allowed.ok v
  | none => false

/-- An epilogue entry follows R333. -/
def epilogueOk (w : Word) : Bool :=
  let ops := (List.range 8).map fun i => bitsOf w (4 * i + 3) (4 * i)
  let body := ops.takeWhile fun o => decide (o ≠ 0)
  !w.getLsbD 63 || (body.all (fun o => decide (o ≤ 5))
    && decide ((body.filter fun o => decide (o = 3)).length ≤ 1) && decide ((body.filter fun o => decide (o = 4)).length ≤ 1)
    && decide ((body.filter fun o => decide (o = 5)).length ≤ 1) && (!body.contains 5 || body.getLast? = some 5)
    && (!body.contains 3 || (decide (1 ≤ bitsOf w 61 58) && decide (bitsOf w 61 58 ≤ 7)))
    && (w.getLsbD 62 == body.contains 5))

/-- A port width follows R129: a power of two that divides the port's number, the lanes within no other port. -/
def widthOk (widths : Nat → Nat) (p : Nat) : Bool :=
  let w := widths p
  decide (w = 0) || (([1, 2, 4, 8] : List Nat).contains w && decide (p % w = 0)
    && (List.range 8).all fun i => decide (i = 0) || decide (w ≤ i) || decide (widths (p + i) = 0))

/-- The fields that an image gives, written (R436 step 4). -/
def loadFields (l : List ImageField) (s : State) : State :=
  l.foldl (fun s f => match imageFieldAt f with
    | some (x, i) => s.wr .module x i (bitsOf f.value x.hi x.lo)
    | none => s) s

/-- The structure rules of R432 that PORTS, EPI_LIB and REG_DEFAULTS answer for. -/
def fieldsOk (l : List ImageField) (s : State) : Bool :=
  let s1 := loadFields l s
  l.all (fun f => match imageFieldAt f with
      | some (x, _) => fieldAllowed x (bitsOf f.value x.hi x.lo)
      | none => false)
    && (List.range 1024).all (fun p => widthOk (fun q => if q < 1024 then s1.rd .module Fld.prtCtlWidth q else 0) p)
    && (List.range 256).all fun e => epilogueOk (s1.word .module .redEpiLib e 0)

/-- The checks of R431 in order: the status of the first that fails, with the section it names. -/
def imageChecks (image : List Byte) (fields : List ImageField) (s : State) : Option (Status × Nat) :=
  let n := imgSections image
  let total := imgField image 8 8
  let signer := imgField image 19 1
  let roleMap := sectionBytes image ((findSection image 1).getD 0)
  let hostIf := s.rd .module Fld.jigCtlHostRegIf
  if !(decide (imgField image 0 4 = 0x4A494753) && decide (imgField image 4 2 = 3) && decide (imgField image 6 2 = 256)) then some (stVersion, 0)
  else if imgField image 18 1 ≠ 0xA0 then some (stVersion, 0)
  else if !(decide (total = s.rd .module Fld.jigSrcSizeSize) && decide (total ≤ 134217728) && decide (256 + 96 * n + 114 ≤ total)) then
    some (stCheckFail, 0)
  else if !(decide (signer < 4) && s.rdb .module Fld.secSignerValid signer && !s.rdb .module Fld.secSignerRevoked signer
      && Config.ed448Verify (smapGet s.m.signers [] signer) (Config.shake256 64 (imgTable image)) (slice image (256 + 96 * n) 114)) then
    some (stCheckFail, 0)
  else if imgField image 20 4 < s.rd .module Fld.secMinVerMinImageVersion then some (stVersion, 0)
  else if hostIf ≠ 0 ∧ hostIf ≠ imgField image 25 1 then some (stVersion, 0)
  else if !(decide (7 ≤ n) && decide (n ≤ 64) && (List.range n).all (fun i => decide (1 ≤ secType image i) && decide (secType image i ≤ 7))
      && (List.range 7).all fun t => decide (((List.range n).filter fun i => decide (secType image i = t + 1)).length = 1)) then
    some (stVersion, 0)
  else match (List.range n).find? fun i => !sectionOk image i with
    | some i => some (stCheckFail, i)
    | none =>
      if !(decide (imgField image 16 1 ≤ 2) && decide (imgField image 17 1 ≤ 1) && roleMapOk image roleMap && fieldsOk fields s) then
        some (stVersion, 0)
      else if (List.range 6).any fun r => decide (((List.range 2048).filter fun t => decide (mapRoleAt roleMap t = r)
          && !tileMissing t (fun p => physBad p [] s)).length < imgMin image r) then some (stResource, 0)
      else none

/-- Every field whose Reset entry is "image" reads zero again (R439). -/
def clearImage (s : State) : State :=
  imageFields.foldl (fun s f => match f.reg.loc .module with
    | some l => (List.range l.count).foldl (fun s i => s.wr .module f i 0) s
    | none => s) s

/-- The verified image takes hold (R430, R436 step 4): role, versions, digest and measurement, and every field it gives. -/
def takeImage (image : List Byte) (fields : List ImageField) (s : State) : State :=
  let digest := Config.shake256 64 (imgTable image)
  let roleMap := sectionBytes image ((findSection image 1).getD 0)
  let s1 := ((((s.wr .module Fld.glbRoleImageFmt 0 (imgField image 4 2)).wr .module Fld.glbRolePlane 0 (imgField image 17 1)).wr .module
    Fld.glbRoleRole 0 (imgField image 16 1)).wrb .module Fld.glbRoleValid 0 true)
  let s2 := ((s1.wr .module Fld.jigStatusSections 0 (imgSections image)).wr .module Fld.jigStatusStatus 0 0).wr .module Fld.jigStatusState 0 2
  let s3 := ((s2.wr .module Fld.jigImageIdImageVersion 0 (imgField image 20 4)).wr .module Fld.jigImageIdRegIf 0 (imgField image 24 2)).wr .module
    Fld.jigImageIdMgmtIf 0 (imgField image 26 2)
  let s4 := (List.range 8).foldl (fun s i => s.wr .module Fld.jigDigestDigest i (leNat (slice digest (8 * i) 8))) (setMeasurement 4 digest s3)
  let s5 := (List.range 6).foldl (fun s r => (s.wr .module Fld.tilRoleCntImage r (imgCount image r)).wr .module Fld.tilRoleCntMin r (imgMin image r)) s4
  let s6 := ((s5.wr .module Fld.mrnOvfStatusOvfSlots 0 (imgField image 60 4)).wr .module Fld.dirPoolCtlReserveGib 0 (imgField image 64 2)).wr .module
    Fld.pupStatusFwCores 0 (imgField image 56 1)
  let s7 := s6.wr .module Fld.pupStatusFreeCores 0 (64 - imgField image 56 1)
  let s8 := onBring (fun b => { b with table := imgTable image, roleMap := roleMap, fields := fields }) s7
  mapTiles [] (loadFields fields s8)

/-- The image is no longer valid (R431, R438): its state is FAILED with a status and the section that failed. -/
def failImage (st : Status) (sec : Nat) (s : State) : State :=
  (((s.wrb .module Fld.glbRoleValid 0 false).wr .module Fld.jigStatusState 0 4).wr .module Fld.jigStatusStatus 0 st.toNat).wr .module
    Fld.jigStatusFailSection 0 sec

/-- The first section of some types that no longer matches the digest of the verified table (R438). -/
def changedSection (types : List Nat) (image : List Byte) (s : State) : Option Nat :=
  let t := s.m.bring.table
  (List.range (imgSections t)).find? fun i => types.contains (secType t i)
    && decide (Config.shake256 64 (slice image (secOffset t i) (secSize t i)) ≠ secDigest t i)

/-! ## Roles and capacities (R436 step 5, R447) -/

/-- Roles as the final map gives them: counts, and every figure that follows. -/
def assignRoles (s : State) : State :=
  let count := fun (r : Nat) => ((List.range 2048).filter fun t => decide (tileRole t s = r)).length
  let s1 := (List.range 8).foldl (fun s r => s.wr .module Fld.tilRoleCntInService r (if r = 6 then 0 else count r)) s
  let s2 := (s1.wr .module Fld.dirStatusTiles 0 (count 1)).wr .module Fld.dirStatusEntries 0 (count 1 * 98304)
  let fast := ((List.range 2048).filter fun t => decide (imageRole t s = 3))
  let lost := (List.range fast.length).filter fun k => decide (tileRole (fast.getD k 0) s = 7)
  let s3 := (s2.wr .module Fld.dirPoolStatusFastTiles 0 fast.length).wr .module Fld.dirPoolStatusFastMissing 0 lost.length
  let buf := (List.range 128).foldl (fun m g => smapPut m 0 g ((List.range 2048).filter fun t =>
    decide (tileRole t s = 2) && decide (imageGroup t s = g)).length) []
  settleFigures (onPool (fun p => { p with missing := lost }) (s3.onM fun m => { m with sw := { m.sw with bufTiles := buf } }))

/-- Every role holds at least MIN tiles that are not MISSING (R436). -/
def rolesMet (s : State) : Bool := (List.range 6).all fun r => decide (s.rd .module Fld.tilRoleCntMin r ≤ roleCount r s)

/-- The pool's size (R243, R270). -/
def settlePool (s : State) : State :=
  s.wr .module Fld.dirPoolStatusPoolGib 0 (if s.isLeaf then s.m.pool.installedGib - s.rd .module Fld.dirPoolCtlReserveGib else 0)

end Sys2Proof.Machine
end

