-- ==== Sys2Proof/Machine/TimeOps.lean ====
section
/-! DEFINITION. Fabric time (R453 to R463): time stamps, exchanges, sources, corrections and the states of Top. -/

namespace Sys2Proof.Machine

/-! ## The parts -/

def onSync (sd : Side) (f : SyncState → SyncState) (s : State) : State := s.onUnit sd fun u => { u with sync := f u.sync }
def onTop (f : TopState → TopState) (s : State) : State := s.onM fun m => { m with top := f m.top }
def onPower (f : PowerState → PowerState) (s : State) : State := s.onM fun m => { m with power := f m.power }

/-- The exchange of a port. -/
def exchange (sd : Side) (p : Nat) (s : State) : Exchange := smapGet (s.unit sd).sync.exchanges {} p
def onExchange (sd : Side) (p : Nat) (f : Exchange → Exchange) (s : State) : State :=
  onSync sd (fun x => { x with exchanges := smapPut x.exchanges {} p (f (smapGet x.exchanges {} p)) }) s

/-- Roles of R454: 0 FOLLOWER, 1 ROOT, 2 RACK_GM, 3 RACK_STANDBY. States of R458: 0 FREE, 1 ACQUIRING, 2 LOCKED, 3 HOLDOVER. -/
def topRole (s : State) : Nat := s.rd .module Fld.topCtlRole
def topState (s : State) : Nat := s.rd .module Fld.topStatusState

/-- The discipline is paused by TEL.BG_CTL and has not resumed over it (R477, R479). -/
def topPaused (s : State) : Bool := (s.rd .module Fld.telBgCtlPause).testBit 3 && !(s.rd .module Fld.telPolicyActive).testBit 7

/-- The module marks its downlink messages as grandmaster messages (R454, R463). -/
def isGm (s : State) : Bool := decide (topRole s = 2) || (decide (topRole s = 1) && s.isLeaf) || (decide (topRole s = 3) && s.m.top.gmTaken)

/-- The reference clock outputs run, and PPS_OUT pulses (R461). -/
def timeOutputs (s : State) : Bool := (decide (topState s = 2) || decide (topState s = 3)) && !s.m.power.loss
def refclkOn (s : State) : Bool := timeOutputs s && s.rdb .module Fld.topCtlRefclkEn
def ppsOn (s : State) : Bool := timeOutputs s && s.rdb .module Fld.topCtlPpsOutEn

/-! ## Messages (R456) -/

/-- FLAGS of a message on a port: GM, LOCKED, HOLDOVER, STEPPED. -/
def timeFlags (p : Nat) (s : State) : Nat :=
  b2n (isGm s && !facesModule .module p s) + 2 * b2n (decide (topState s = 2)) + 4 * b2n (decide (topState s = 3))
    + 8 * b2n (s.rdb .module Fld.topStatusStepped)

/-- A time stamp has a resolution of 2^-4 ns (R457). -/
def stampOf (t : Nat) : Nat := t % 2 ^ 80 / 4096 * 4096

/-- The 16-byte payload of a TC1 packet. -/
def timePayload (time flags stratum : Nat) : List Byte := leBytes 10 time ++ leBytes 1 flags ++ leBytes 1 stratum ++ zeros 4
def packetTime (p : Packet) : Nat := leNat (slice p.payload 0 10)
def packetFlags (p : Packet) : Nat := leNat (slice p.payload 10 1)
def packetStratum (p : Packet) : Nat := leNat (slice p.payload 11 1) % 16
def packetSeq (p : Packet) : Nat := p.opx.toNat % 65536

/-- A message of the module on a port. -/
def sendTime (p : Nat) (op : BitVec 8) (seq time : Nat) (s : State) : State :=
  portSend .module p (linkPacket .module p op seq (timePayload time (timeFlags p s) (s.rd .module Fld.topStatusStratum)) s) s

/-- A TIME_DELAY_REQ of a unit on a port; its t3 is kept. -/
def sendDelayReq (sd : Side) (p seq t3 : Nat) (s : State) : State :=
  onExchange sd p (fun e => { e with req := some (seq, t3) }) (portSend sd p (linkPacket sd p 0x12 seq (timePayload 0 0 0) s) s)

/-! ## Sources (R454, R458) -/

/-- The valid parents in order of preference. -/
def parents (s : State) : List Nat :=
  (if s.rdb .module Fld.topCtlParent0Valid then [s.rd .module Fld.topCtlParent0] else [])
    ++ (if s.rdb .module Fld.topCtlParent1Valid then [s.rd .module Fld.topCtlParent1] else [])

/-- A port's messages carry LOCKED, or HOLDOVER. -/
def portLocked (sd : Side) (p : Nat) (s : State) : Bool := (exchange sd p s).flags.testBit 1
def portHolds (sd : Side) (p : Nat) (s : State) : Bool := (exchange sd p s).flags.testBit 2

/-- The parent in use: PARENT0, or PARENT1 while PARENT0 gives no locked time; one in holdover where none is locked. -/
def usableParent (s : State) : Option Nat :=
  match (parents s).find? fun p => portLocked .module p s with
  | some p => some p
  | none => (parents s).find? fun p => portHolds .module p s

/-- The module takes its phase from PPS_IN: a ROOT with its reference, or a standby with the peer's pulse and a second count. -/
def ppsSource (s : State) : Bool :=
  match topRole s with
  | 1 => s.rdb .module Fld.topStatusExtOk
  | 3 => s.rdb .module Fld.topStatusPeerPpsOk && !s.m.top.gmTaken && (s.m.top.setLoaded || !(parents s).isEmpty)
  | _ => false

/-- The module's own oscillator serves: a ROOT without external reference, or a parentless standby that has taken over (R454, R458). -/
def ownSource (s : State) : Bool :=
  s.rdb .module Fld.topCtlFreeRoot &&
    ((decide (topRole s = 1) && !s.rdb .module Fld.topStatusExtOk) || (decide (topRole s = 3) && s.m.top.gmTaken && (parents s).isEmpty))

/-- Some source is usable. -/
def anySource (s : State) : Bool := ppsSource s || ownSource s || (decide (topRole s ≠ 1) && (usableParent s).isSome)

/-- Top enters a state: STRATUM where it stops being locked, the lock-loss count, and interrupt source 78 on leaving LOCKED (R458, R565). -/
def enterTop (st : Nat) (s : State) : State :=
  let s1 := s.wr .module Fld.topStatusState 0 st
  let s2 := if topState s = 2 ∧ st ≠ 2 then raiseSource 78 (bump .module .topLockLossCnt 0 s1) else s1
  if st ≤ 1 then s2.wr .module Fld.topStatusStratum 0 15 else s2

/-- The stratum of a module that has locked. -/
def lockedStratum (s : State) : Nat :=
  if topRole s = 1 ∨ ownSource s = true then 0
  else match s.unit .module |>.sync.source with
    | some p => min 14 ((exchange .module p s).stratum + 1)
    | none => match parents s with
      | p :: _ => min 14 ((exchange .module p s).stratum + 1)
      | [] => 1

/-- Top locks. -/
def lockTop (s : State) : State := (enterTop 2 s).wr .module Fld.topStatusStratum 0 (lockedStratum s)

/-- The source in use follows what is usable; a source that appears in FREE or HOLDOVER starts acquisition, and the own oscillator
locks at once. -/
def settleSource (s : State) : State :=
  let src := if ppsSource s || ownSource s || decide (topRole s = 1) then none else usableParent s
  let s1 := onSync .module (fun x => { x with source := src, good := if x.source = src then x.good else 0 }) s
  let s2 := match src with
    | some p => s1.wr .module Fld.topStatusSourcePort 0 p
    | none => s1
  if topPaused s2 then s2
  else if ownSource s2 then if topState s2 = 2 then s2 else lockTop s2
  else if anySource s2 && (decide (topState s2 = 0) || decide (topState s2 = 3)) then
    onSync .module (fun x => { x with good := 0 }) (enterTop 1 s2)
  else s2

/-! ## Corrections (R457, R459) -/

/-- The difference of two fabric times, in 2^-16 ns. -/
def timeDiff (a b : Nat) : Int :=
  let d : Nat := (a + 2 ^ 80 - b % 2 ^ 80) % 2 ^ 80
  if d < 2 ^ 79 then (d : Int) else (d : Int) - 2 ^ 80

/-- An offset in ps, and its two's complement of some width. -/
def toPs (x : Int) : Int := x * 1000 / 65536
def twosComp (w : Nat) (x : Int) : Nat := (x % (2 ^ w : Int)).toNat

/-- ASYM of a port in 2^-16 ns. -/
def asymOf (p : Nat) (s : State) : Int :=
  let v := s.rd .module Fld.topAsymPs p
  (if v < 32768 then (v : Int) else (v : Int) - 65536) * 65536 / 1000

/-- Adds to a unit's fabric time. -/
def addTime (sd : Side) (d : Int) (s : State) : State := s.onUnit sd fun u => { u with time := (((u.time : Int) + d) % (2 ^ 80 : Int)).toNat }

/-- Timed launches whose START_TIME a step has passed start at once, LATE (R291, R459). -/
def passLaunches (s : State) : State :=
  onColl (fun c => { c with descs := c.descs.map fun d => match d.startAt with
    | some t => if t ≤ s.endpoint.time / 65536 then { d with startAt := none, late := true } else d
    | none => d }) s

/-- A step (R459): counted, recorded, and shown by STEPPED for 100 ms. -/
def stepTime (sd : Side) (off : Int) (s : State) : State :=
  let s1 := onSync sd (fun x => { x with slew := 0 }) (addTime sd (-off) s)
  let e : Event := { code := 0x60, severity := 1, block := 16, arg0 := twosComp 44 (toPs off) }
  match sd with
  | .module => raiseSource 78 (logEvent sd e ((bump .module .topStepCnt 0 s1).wrb .module Fld.topStatusStepped 0 true))
  | .endpoint => passLaunches (logEvent sd e s1)

/-- The threshold between slewing and a step, in 2^-16 ns: TOP.CTL.STEP_THRESH, and its reset value at the endpoint block (notes/assumptions). -/
def stepThreshold (sd : Side) (s : State) : Int := (match sd with
  | .module => s.rd .module Fld.topCtlStepThresh
  | .endpoint => 1000 : Nat) * 65536

/-- A backward step is allowed (R459). -/
def mayStepBack (sd : Side) (s : State) : Bool := match sd with
  | .module => !s.rdb .module Fld.glbBringupStatusEnabled || s.rdb .module Fld.topCtlBackStep
  | .endpoint => false

/-- Corrects an offset of a unit's time (R459): a slew, or a step. -/
def correctTime (sd : Side) (off : Int) (s : State) : State :=
  if off.natAbs < (stepThreshold sd s).natAbs then onSync sd (fun x => { x with slew := -off }) s
  else if off < 0 ∨ mayStepBack sd s = true then stepTime sd off s
  else onSync sd (fun x => { x with slew := -off }) s

/-- The offset goes through the filter; TOP.OFFSET shows it, and it counts towards LOCKED below 5 ns (R458, R484). -/
def filterTime (sd : Side) (off : Int) (s : State) : State :=
  let f := Config.offsetFilter (s.unit sd).sync.filtered off
  let s1 := onSync sd (fun x => { x with filtered := f, good := if f.natAbs < 5 * 65536 then x.good + 1 else 0 }) s
  match sd with
  | .module => s1.wr .module Fld.topOffsetPs 0 (twosComp 64 (toPs f))
  | .endpoint => s1

/-- ACQUIRING ends once enough exchanges or edges in a row were good (R458). -/
def settleLock (need : Nat) (s : State) : State :=
  if topState s = 1 ∧ need ≤ s.module.sync.good then lockTop s else s

/-- The offset that a completed exchange shows (R457). -/
def exchangeOffset (t1 t2 t3 t4 : Nat) : Int := (timeDiff t2 t1 - timeDiff t4 t3) / 2

/-- The tree's offset at a standby that follows the peer's pulse (R454, R463): whole seconds are corrected, and a difference above
100 ns is recorded. -/
def treeOffset (off : Int) (s : State) : State :=
  let sec : Int := 65536 * 1000000000
  let whole := (off + sec / 2) / sec * sec
  let s1 := filterTime .module (off - whole) s
  let s2 := if 100 * 65536 < (off - whole).natAbs then
    logModule { code := 0x61, severity := 1, block := 16, arg0 := twosComp 44 (toPs (off - whole)) } s1 else s1
  if whole = 0 then s2 else correctTime .module whole s2

/-- A completed exchange with a port (R457, R458). -/
def takeOffset (sd : Side) (p : Nat) (off : Int) (s : State) : State :=
  match sd with
  | .module =>
    if topPaused s || !(parents s).contains p then s
    else if topRole s = 3 && ppsSource s then treeOffset (off - asymOf p s) s
    else if s.module.sync.source = some p then
      settleLock 100 (correctTime .module (off - asymOf p s) (filterTime .module (off - asymOf p s) s))
    else s
  | .endpoint =>
    if s.endpoint.sync.source = some p then
      (correctTime .endpoint off (filterTime .endpoint off s)).onE fun e => { e with ftValid := true }
    else s

/-! ## Losing the source (R458, R462) -/

/-- No source is usable (R458): LOCKED goes to HOLDOVER. -/
def loseSource (s : State) : State :=
  let s1 := settleSource s
  if !anySource s1 && decide (topState s1 = 2) then enterTop 3 s1 else s1

/-- The endpoint block follows a leaf (R462). -/
def followLeaf (p : Nat) (s : State) : State := onSync .endpoint (fun x => { x with source := some p }) s

/-- A TIME_SYNC at the endpoint block (R462): a grandmaster message is followed unless another grandmaster is; a locked leaf is followed
once no grandmaster message has come for 2 ms. -/
def chooseLeaf (p : Nat) (flags : Nat) (s : State) : State :=
  let cur := s.endpoint.sync.source
  if flags.testBit 0 && flags.testBit 1 then
    let s1 := onSync .endpoint (fun x => { x with gmLost := false }) s
    match cur with
    | some q => if q ≠ p ∧ (exchange .endpoint q s).flags.testBit 0 = true ∧ portLocked .endpoint q s = true then s1 else followLeaf p s1
    | none => followLeaf p s1
  else if flags.testBit 1 && s.endpoint.sync.gmLost && cur.isNone then followLeaf p s
  else s

/-- A leaf whose messages carry LOCKED: the one followed, else the lowest port. -/
def lockedLeaf (s : State) : Option Nat :=
  let l := (s.endpoint.sync.exchanges.filter fun x => x.2.flags.testBit 1).map fun x => x.1
  match s.endpoint.sync.source with
  | some p => if l.contains p then some p else l.head?
  | none => l.head?

end Sys2Proof.Machine
end

