-- ==== Sys2Proof/Machine/Isolate.lean ====
section
/-! DEFINITION. Quarantine, expulsion and fatal faults (R524 to R533, R540): what they do to the module. -/

namespace Sys2Proof.Machine

/-- The state with liveness changed. -/
def onLive (f : LiveState → LiveState) (s : State) : State := s.onM fun m => { m with live := f m.live }

/-- The slot of this leaf's rack behind a port. -/
def slotAt (p : Nat) (s : State) : Option Nat :=
  if s.isLeaf then (List.range 128).find? fun k => s.rdb .module Fld.rteSlotValid k && decide (s.rd .module Fld.rteSlotPort k = p) else none

/-- The port that faces a unit: the lowest whose far end is it. -/
def portFacing (e : Eid) (s : State) : Option Nat := (List.range 1024).find? fun p => decide (unitBehind p s = e)

/-- What isolation does at once (R526): R264 for the slot's coherent lines, R305 for contexts with the unit as a child, and a new lookup
for what waits at the port. -/
def isolate (p : Nat) (s : State) : State :=
  let s1 := match slotAt p s with
    | some k => serveAll (leafLosesSlot k s)
    | none => s
  requeuePort p (failChild p s1)

/-- The unit behind a port is quarantined (R525), where it may be. -/
def quarantine (p : Nat) (s : State) : State := if mayQuarantine p s then isolate p (markQuarantine p s) else s

/-- Evidence arises (R524); two bits other than LINK_DOWN quarantine at once (R525). -/
def evidence (p bit : Nat) (s : State) : State :=
  let s1 := setEvidence p bit s
  if twoEvidence p s1 then quarantine p s1 else s1

/-- Evidence against the unit behind a slot's port. -/
def slotEvidence (k bit : Nat) (s : State) : State :=
  if s.isLeaf && s.rdb .module Fld.rteSlotValid k then evidence (s.rd .module Fld.rteSlotPort k) bit s else s

/-- The slots of a tray (R521). -/
def traySlots (t : Nat) (s : State) : List Nat :=
  (List.range 128).filter fun k => s.rdb .module Fld.fltDomainValid k && decide (s.rd .module Fld.fltDomainTray k = t)

/-- The port of a slot. -/
def slotPort (s : State) (k : Nat) : Nat := s.rd .module Fld.rteSlotPort k

/-- Every slot of a tray has left UP within 2 ms (R533). -/
def trayDown (t : Nat) (s : State) : Bool :=
  let ports := ((traySlots t s).filter fun k => s.rdb .module Fld.rteSlotValid k).map (slotPort s)
  let times := ports.map fun p => smapGet s.m.live.downAt 0 p
  !ports.isEmpty && ports.all (fun p => !portUp .module p s && (smapGet? s.m.live.downAt p).isSome)
    && decide (times.foldl max 0 ≤ times.foldl min (times.headD 0) + 2000000)

/-- The tray of a slot recorded as down that the unit behind a port belongs to (R533). -/
def downTrayOf (p : Nat) (s : State) : Option Nat :=
  (slotAt p s).bind fun k => s.m.live.trays.find? fun t => (traySlots t s).contains k

/-- A fatal internal fault (R540): every port goes down, FATAL, and the event. -/
def fatalFault (structure' detail : Nat) (s : State) : State :=
  let s1 := ((List.range 1024).filter fun p => decide (portSt .module p s ≠ 0)).foldl (fun s p => portDown .module p Config.resourceReason s) s
  (logModule { code := 0x81, severity := 3, block := 20, status := stInternal.toNat, arg0 := structure', arg1 := detail } s1).wrb
    .module Fld.fltStatusFatal 0 true

/-- Ends the effects of quarantine (R530). -/
def readmit (p nonce : Nat) (s : State) : State :=
  logModule { code := 0x43, severity := 0, block := 20, eid := some (unitBehind p s), arg0 := p, arg1 := nonce }
    (s.wr .module Fld.fltLiveState p 0)

/-- A unit is declared dead at a unit of the fabric (R191, R264, R530). -/
def markDead (sd : Side) (e : Eid) (s : State) : State :=
  let s1 := s.onUnit sd fun u => { u with dead := if u.dead.contains e then u.dead else u.dead ++ [e] }
  settle sd (endToDead sd e s1)

/-- A unit leaves a dead list (R530). -/
def unmarkDead (sd : Side) (e : Eid) (s : State) : State := s.onUnit sd fun u => { u with dead := u.dead.filter (· ≠ e) }

end Sys2Proof.Machine
end

