-- ==== Sys2Proof/Machine/SlotOps.lean ====
section
/-! DEFINITION. Key slots as management loads, activates and retires them (R494 to R511). -/

namespace Sys2Proof.Machine

/-- The state with the module's security state changed. -/
def onSec (f : SecState → SecState) (s : State) : State := s.onM fun m => { m with sec := f m.sec }

/-- The first 4 bytes of a key's digest (R519), of a digest. -/
def keyId (digest : List Byte) : Nat := leNat (digest.take 4)

/-- A slot as a whole: status and key material. -/
def slotAll (sd : Side) (k : Nat) (s : State) : KeySlot :=
  match sd with
  | .endpoint => epSlot k s
  | .module => { slotKeys .module k s with
      state := slotState .module k s, cls := slotClass .module k s, epoch := slotEpoch .module k s
      epochOpen := s.rdb .module Fld.secSlotEpochOpen k, engineOk := s.rdb .module Fld.secSlotEngineOk k
      progOk := s.rdb .module Fld.secSlotProgOk k, loadPrGen := slotPrGen .module k s }

/-- SEC.SLOT of a slot (R519), with STALE left to the read. -/
def slotWord (x : KeySlot) : Word :=
  let w1 := withBits (withBits (withBits 0 63 62 x.state) 61 60 x.cls) 58 58 (b2n x.engineOk)
  let w2 := withBits (withBits (withBits w1 57 57 (b2n x.progOk)) 56 56 (b2n !x.prev.isEmpty)) 55 52 x.epoch
  withBits (withBits (withBits w2 48 48 (b2n x.epochOpen)) 47 32 x.loadPrGen) 31 0 (if x.cls = 0 then 0 else keyId x.owner)

/-- A slot is set as a whole; SEC.STATUS.W_SLOTS follows (R519). -/
def setSlot (sd : Side) (k : Nat) (x : KeySlot) (s : State) : State :=
  match sd with
  | .endpoint => s.onUnit .endpoint fun u => { u with keys := smapSet u.keys k x }
  | .module =>
    let y : KeySlot := { link := x.link, prev := x.prev, xts := x.xts, owner := x.owner }
    let s1 := (s.onUnit .module fun u => { u with keys := smapPut u.keys {} k y }).setWord .module .secSlot k 0 (slotWord x)
    s1.wr .module Fld.secStatusWSlots 0 (s1.module.keys.filter fun z => !z.2.xts.isEmpty).length

/-- The endpoint block has an entry for a key index: it has one in use, or fewer than 64 are (R494). -/
def slotRoom (sd : Side) (k : Nat) (s : State) : Bool :=
  match sd with
  | .module => true
  | .endpoint => decide (slotState .endpoint k s ≠ 0) || decide (k = 0)
      || decide ((s.endpoint.keys.filter fun x => decide (x.2.state ≠ 0) && decide (x.1 ≠ 0)).length + 1 < 64)

/-! ## Loading (R496) -/

/-- Key material is as long as its class asks for: LINK, and XTS where the unit keeps it (R494). -/
def materialOk (sd : Side) (cls : Nat) (l : List Byte) : Bool :=
  match sd with
  | .module => decide (l.length = 96)
  | .endpoint => decide (32 ≤ l.length) && decide (cls = 1 ∨ cls = 2)

/-- The steps launched under a slot's keys are counted anew (R501). -/
def forgetSteps (k : Nat) (s : State) : State :=
  s.onE fun e => { e with coll := { e.coll with steps := e.coll.steps.filter fun x => decide (s.rd .endpoint Fld.fxeCollKeyIndex x.1 ≠ k) } }

/-- The status of KEY_LOAD where it is refused. `own`: the requester's key digest. -/
def loadRefused (sd : Side) (k epoch cls : Nat) (own : List Byte) (s : State) : Option Status :=
  let x := slotAll sd k s
  if cls = 2 ∧ sd = .module then some stAccessDenied
  else if 2 ≤ x.state then some stResource
  else if x.state = 1 then
    if x.owner.isEmpty ∨ x.owner ≠ own then some stAccessDenied
    else if epoch ≠ x.epoch ∨ cls ≠ x.cls then some stVersion else none
  else if !slotRoom sd k s then some stResource
  else if (cls ≠ 1 ∧ cls ≠ 2) ∨ (x.epochOpen = false ∧ epoch ≠ x.epoch) then some stVersion
  else none

/-- A load to an EMPTY slot, or a rekey of an ACTIVE one (R496, R502). -/
def loadSlot (sd : Side) (k epoch cls : Nat) (engineOk progOk : Bool) (own l : List Byte) (s : State) : State :=
  let x := slotAll sd k s
  let s1 := match sd with
    | .module => s
    | .endpoint => forgetSteps k s
  if x.state = 1 then setSlot sd k { x with link := l.take 32, prev := x.link, loadPrGen := prGen sd s } s1
  else
    let y : KeySlot := { state := 1, cls := cls, epoch := epoch, epochOpen := false, engineOk := engineOk, progOk := progOk
                         loadPrGen := prGen sd s, link := l.take 32, owner := own
                         xts := match sd with
                           | .module => slice l 32 64
                           | .endpoint => [] }
    match sd with
    | .endpoint => setSlot .endpoint k y s1
    | .module => (onSec (fun z => { z with xtsKeys := smapSet z.xtsKeys k (smapGet z.xtsKeys 0 k + 1) })
        (setSlot .module k y s1)).wrb .module Fld.secCtlFullRes 0 false

/-- KEY_LOAD (R496): its status. -/
def keyLoad (sd : Side) (k epoch cls : Nat) (engineOk progOk : Bool) (own secret wrapped : List Byte) (s : State) : Status × State :=
  match loadRefused sd k epoch cls own s with
  | some st => (st, s)
  | none => match Config.unwrapKey secret wrapped with
    | some l => if materialOk sd cls l then (stOk, loadSlot sd k epoch cls engineOk progOk own l s) else (stCheckFail, s)
    | none => (stCheckFail, s)

/-! ## ORD slots (R498) -/

/-- ACTIVATE_ORD by the rows of R498; the row of the session's role is the caller's. -/
def activateOrd (sd : Side) (k epoch : Nat) (s : State) : Status × State :=
  let x := slotAll sd k s
  if k = 0 then (stAccessDenied, s)
  else if !slotRoom sd k s then (stResource, s)
  else if 2 ≤ x.state then (stResource, s)
  else if x.state = 1 then (stVersion, s)
  else if x.epochOpen = false ∧ epoch ≠ x.epoch then (stVersion, s)
  else (stOk, setSlot sd k { state := 1, cls := 0, epoch := epoch, epochOpen := false, loadPrGen := prGen sd s } s)

/-! ## Tenant removal (R509 to R511) -/

/-- A packet travels under a slot's epoch. -/
def underSlot (k e : Nat) (p : Packet) : Bool := decide (p.keyIndex.toNat = k) && decide (p.keyEpoch.toNat = e)

/-- The module's contexts under a slot. -/
def slotContexts (k e : Nat) (s : State) : List Nat :=
  (List.range 4096).filter fun n => s.rdb .module Fld.mrnCtxValid n && decide (s.rd .module Fld.mrnCtxKeyIndex n = k)
    && decide (s.rd .module Fld.mrnCtxKeyEpoch n = e)

/-- The module's programs under a slot. -/
def slotPrograms (k e : Nat) (s : State) : List Nat :=
  (List.range 16).filter fun p => match grantOf p s with
    | some g => decide (g.keyIndex = k) && decide (g.keyEpoch = e)
    | none => false

/-- An epilogue commit that was under way: its record is written, and no result leaves (R511). -/
def writeRecordOnly (c : MrnChunk) (s : State) : State := match c.record with
  | some (a, w) => (moduleWrite .ddr (mrnDdrKey c.ctx s) a (leBytes 8 w.toNat) false s).2
  | none => s

/-- What the module ends at once (R509 step 2). -/
def endSlotModule (k e : Nat) (s : State) : State :=
  let s1 := (List.range 72).foldl (fun s q =>
    if queueKey q s = k ∧ queueEpoch q s = e then match frontCmd q s with
      | some c => if c.started && !c.ended then endCmd q stAborted outUnknown s else s
      | none => s
    else s) s
  let s2 := (slotPrograms k e s1).foldl (fun s p => endProgram p stAborted 0 s) s1
  (slotContexts k e s2).foldl (fun s n =>
    dropChunks n (fun _ => true) ((s.m.mrn.chunks.filter fun c => decide (c.ctx = n)).foldl (fun s c => writeRecordOnly c s) s)) s2

/-- A triggered operation that waits ends with ABORTED. -/
def abortTrig (s : State) (t : TrigOp) : State :=
  domFail (t.done.getD t.counter) stAborted (s.onE fun e => { e with trig := e.trig.erase t, reached := e.reached.erase t })

/-- What the endpoint block ends at once. -/
def endSlotEndpoint (k e : Nat) (s : State) : State :=
  let mine := fun (ctx : Nat) => decide (s.rd .endpoint Fld.fxeCtxcfgKeyIndex ctx = k) && decide (s.rd .endpoint Fld.fxeCtxcfgKeyEpoch ctx = e)
  let s1 := ((s.e.trig ++ s.e.reached).filter fun t => mine t.ctx).foldl abortTrig s
  let s2 := (s1.e.fired.filter fun r => mine r.op.ctx).foldl (fun s r => trigEnds r.op.id r.left stAborted s) s1
  let s3 := (s2.e.accs.filter fun a => mine a.ctx).foldl (fun s a => endAcc a stAborted s) s2
  endChunks (fun d _ => decide (d.index = k) && decide (d.epoch = e)) stAborted 0 none s3

/-- Every incomplete operation under a slot ends with ABORTED (R509 step 2). -/
def endSlotOps (sd : Side) (k e : Nat) (s : State) : State :=
  let s1 := match sd with
    | .module => endSlotModule k e s
    | .endpoint => endSlotEndpoint k e s
  settleBoth (endOps sd stAborted ((s1.xpt sd).ops.filter fun o => underSlot k e o.pkt) s1)

/-- SEC.RETIRE_STATUS after a command (R519). -/
def retireStatus (k : Nat) (st : Status) (s : State) : State :=
  ((s.wr .module Fld.secRetireStatusKeyIndex 0 k).wr .module Fld.secRetireStatusStatus 0 st.toNat).wrb .module Fld.secRetireStatusBusy 0
    (!s.m.sec.retiring.isEmpty)

/-- Retirement of a slot's epoch: its refusal, or steps 1 and 2 (R509). -/
def retireSlot (sd : Side) (k e : Nat) (s : State) : Status × State :=
  let x := slotAll sd k s
  if k = 0 then (stAccessDenied, s)
  else if x.state ≠ 1 ∨ x.epoch ≠ e then (stVersion, s)
  else
    let s1 := setSlot sd k { x with state := 2 } s
    let s2 := match sd with
      | .module => onSec (fun z => { z with retiring := z.retiring ++ [k] }) s1
      | .endpoint => s1
    (stOk, endSlotOps sd k e s2)

/-- The directory lines in the windows of a slot that is scrubbed: back-invalidated, with their entries gone (R509 step 4). -/
def scrubLines (s : State) : State :=
  ((s.m.dir.entries.map fun (x : Nat × DirEntry) => x.1).filter fun l => lineScrubbed l s).foldl (fun s l => match dirEntry l s with
    | some e =>
      let q := homeTseq s
      putEntry l none (sendSnoops (invSnoops 0x33 l e q.1 none false q.2) (bump .module .dirBinvCnt 0 q.2))
    | none => s) s

/-- Step 3 (R509): key material is zeroized, EPOCH advances, and the slot is SCRUBBING. -/
def zeroizeSlot (sd : Side) (k : Nat) (s : State) : State :=
  let x := slotAll sd k s
  let s1 := setSlot sd k { state := 3, cls := x.cls, epoch := (x.epoch + 1) % 16, epochOpen := false } s
  match sd with
  | .module => scrubLines s1
  | .endpoint => s1

/-- DDR5 bytes filled with zeros under a key (R509 step 4). -/
def zeroFill (key lo n : Nat) (s : State) : State :=
  if n = 0 then s
  else
    let a := lo / 64
    let b := (lo + n + 63) / 64
    let inside := fun (l : Nat) => decide (a ≤ l) && decide (l < b)
    onPool (fun p => { p with
      ddr := p.ddr.filter fun c => !(decide (lo ≤ c.1) && decide (c.1 < lo + n))
      keyed := p.keyed.filter fun x => !inside x.1
      fills := (a, b, keyMaterial key s) :: p.fills
      poison := p.poison.filter fun l => !inside l }) s

/-- The windows of a slot in the DDR5 pool: local address and bytes. -/
def slotWindows (k e : Nat) (s : State) : List (Nat × Nat × Nat) :=
  ((List.range 1024).filter fun w => s.rdb .module Fld.memWinValid w && decide (s.rd .module Fld.memWinKeyIndex w = k)
      && decide (s.rd .module Fld.memWinKeyEpoch w = e) && decide (poolPlace (s.rd .module Fld.memWinBase w * 4096) s = some .ddr)).map fun w =>
    (ddrKey (decide (s.rd .module Fld.memWinDclass w = 1)) k e, winLocal .module w (s.rd .module Fld.memWinBase w * 4096) s
    , (s.rd .module Fld.memWinLimit w + 1 - s.rd .module Fld.memWinBase w) * 4096)

/-- The state areas of a slot's contexts, by bank: records, and two copies of the state of each chunk with a local number (R338). -/
def slotStates (k e : Nat) (s : State) : List (Nat × Nat × Nat) :=
  (slotContexts k e s).flatMap fun n => ((List.range 2).filter fun b => decide (epi Fld.redEpiValid n b s ≠ 0)).map fun b =>
    let chunks := epi Fld.redEpiNchunks n b s
    (mrnDdrKey n s, stateBase n b s, (chunks * 8 + 4095) / 4096 * 4096 + chunks * (24 * ctxElems n s))

/-- Step 4 at the module (R509): contexts, replay entries, DDR5 ranges and scratchpads of a slot. -/
def scrubModule (k e : Nat) (s : State) : State :=
  let grants := (slotPrograms k e s).filterMap fun p => grantOf p s
  let fills := slotWindows k e s ++ slotStates k e s ++ grants.map fun g => (ddrKey (decide (g.dclass = 1)) k e, g.ddrBase, g.ddrSize)
  let s1 := (slotContexts k e s).foldl (fun s n => dropChunks n (fun _ => true) (onMrn (fun m => { m with
    results := m.results.filter fun r => decide (r.ctx ≠ n) }) s)) s
  let s2 := fills.foldl (fun s f => zeroFill f.1 f.2.1 f.2.2 s) s1
  grants.foldl (fun s g => onEng (fun x => { x with
    scratch := x.scratch.filter fun c => !(decide (g.scratchBase ≤ c.1) && decide (c.1 < g.scratchBase + g.scratchSize)) }) s) s2

/-- The end of step 4: the slot is EMPTY, with an event (R509 step 5). -/
def emptySlot (sd : Side) (k : Nat) (s : State) : State :=
  let x := slotAll sd k s
  let e := (x.epoch + 15) % 16
  let s1 := match sd with
    | .module => scrubModule k e s
    | .endpoint => s
  let s2 := s1.onXpt sd fun t => { t with replay := t.replay.filter fun r =>
    !(decide (r.keyIndex.toNat = k) && decide (r.keyEpoch.toNat = e)) }
  let s3 := setSlot sd k { epoch := x.epoch, epochOpen := false } s2
  let s4 := logEvent sd { code := 0xA0, severity := 0, block := 19, arg0 := k, status := stOk.toNat } s3
  match sd with
  | .endpoint => s4
  | .module =>
    let s5 := onSec (fun z => { z with retiring := z.retiring.filter (· ≠ k) }) s4
    if s5.rd .module Fld.secRetireStatusKeyIndex = k then retireStatus k stOk s5
    else s5.wrb .module Fld.secRetireStatusBusy 0 (!s5.m.sec.retiring.isEmpty)

end Sys2Proof.Machine
end

