-- ==== Sys2Proof/Machine/MgmtOps.lean ====
section
/-! DEFINITION. Identity, attestation, sessions and roles (R487 to R493, R512 to R515). -/

namespace Sys2Proof.Machine

/-- The state with a unit's management changed. -/
def onMgmt (sd : Side) (f : MgmtState → MgmtState) (s : State) : State := s.onUnit sd fun u => { u with mgmt := f u.mgmt }

/-- A request is answered, inside a session where one is named (R493). -/
def respond (sd : Side) (session : Option Nat) (r : SpdmResponse) (s : State) : State := s.emit sd (.spdm session r)

/-- The unit answers on a transport (R493): the endpoint block in-band only. -/
def answersOn (sd : Side) (via : Via) : Bool := match sd with
  | .module => decide (via ≠ .inBand)
  | .endpoint => decide (via = .inBand)

/-- The side as the constants of Config name it. -/
def isEndpointSide (sd : Side) : Bool := decide (sd = .endpoint)

/-! ## Measurements and keys (R487, R488, R491) -/

/-- The words of a measurement of the module. -/
def moduleMeasure (m : Nat) (s : State) : List Byte := (List.range 8).flatMap fun w => leBytes 8 (s.word .module .secMeas m w).toNat

/-- Measurement 3: the fuse map, the signer slots and the OTP configuration. -/
def measureFuses (s : State) : State :=
  let signers := (List.range 16).flatMap fun k => [leBytes 8 (s.word .module .secSigner k 0).toNat, smapGet s.m.signers [] k]
  let fuses := [s.m.tile.fuse.badTiles, s.m.tile.fuse.rows.flatMap (fun x => [x.1, x.2]), s.m.tile.fuse.badSlices.flatMap (fun x => [x.1, x.2])
    , s.m.tile.fuse.phyRepairs.flatMap fun x => [x.1, x.2]].map fun l => l.flatMap (leBytes 4)
  setMeasurement 3 (fitTo 64 (Config.measured false 3 (fuses ++ signers))) s

/-- Measurement 5: the credential slots. -/
def measureCreds (s : State) : State :=
  let parts := (List.range 16).flatMap fun k => [leBytes 8 (s.word .module .secCred k 0).toNat, smapGet s.m.sec.creds [] k]
  setMeasurement 5 (fitTo 64 (Config.measured false 5 parts)) s

/-- The indices of R491. -/
def measureIndices : List Nat := [1, 2, 3, 4, 5] ++ (List.range 16).map (· + 16)

/-- A measurement as SPDM reports it. -/
def measurement (sd : Side) (m : Nat) (s : State) : List Byte := match sd with
  | .module => moduleMeasure m s
  | .endpoint => if m = 4 ∨ 16 ≤ m then zeros 64 else fitTo 64 (Config.measured true m [])

/-- The Puppeteer is in recovery mode (R490). -/
def inRecovery (sd : Side) (s : State) : Bool := decide (sd = .module) && decide (s.rd .module Fld.mgtStatusPupState = 2)

/-- The alias secret: from the DeviceID secret and the measurement of what started (R487, R488); the ROM's own in recovery mode. -/
def aliasSecret (sd : Side) (s : State) : List Byte :=
  Config.shake256 57 (Config.deviceSecret (isEndpointSide sd) ++ measurement sd (if inRecovery sd s then 1 else 2) s)

/-- The certificate chain down to the alias certificate. -/
def certChain (sd : Side) (s : State) : List Byte :=
  Config.certificates (isEndpointSide sd) ++ Config.aliasCertificate (Config.deviceSecret (isEndpointSide sd)) (aliasSecret sd s)

/-- A signature by the alias key over what an SPDM response's signature covers. -/
def spdmSign (sd : Side) (op : Nat) (nonce body : List Byte) (s : State) : List Byte :=
  Config.ed448Sign (aliasSecret sd s) (Config.spdmSigned op nonce body)

/-! ## Sessions (R493) -/

/-- Sessions a unit holds at once. -/
def sessionLimit (sd : Side) : Nat := match sd with
  | .module => 8
  | .endpoint => 2

/-- An open session. -/
def session (sd : Side) (id : Nat) (s : State) : Option Session := (s.unit sd).mgmt.sessions.find? fun x => decide (x.id = id)

/-- An established session. -/
def established (sd : Side) (id : Nat) (s : State) : Option Session := (session sd id s).filter fun x => x.established

/-- The sessions are set, and SEC.STATUS.SESSIONS with them. -/
def setSessions (sd : Side) (l : List Session) (s : State) : State :=
  let s1 := onMgmt sd (fun m => { m with sessions := l }) s
  match sd with
  | .module => s1.wr .module Fld.secStatusSessions 0 l.length
  | .endpoint => s1

/-- A session changed. -/
def putSession (sd : Side) (x : Session) (s : State) : State :=
  setSessions sd ((s.unit sd).mgmt.sessions.map fun y => if y.id = x.id then x else y) s

/-- A session closed. -/
def dropSession (sd : Side) (id : Nat) (s : State) : State :=
  setSessions sd ((s.unit sd).mgmt.sessions.filter fun y => decide (y.id ≠ id)) s

/-- Role bits as SEC.CRED.ROLES numbers them (R519). -/
def roleAdmin : Nat := 3
def roleManage : Nat := 2
def roleDiag : Nat := 1
def roleTest : Nat := 0

/-- The digest of a public key (R519). -/
def keyDigest (key : List Byte) : List Byte := Config.shake256 64 key

/-- The roles of a requester's key (R513): of the credential slots that hold it. -/
def rolesOf (sd : Side) (key : List Byte) (s : State) : Nat := match sd with
  | .endpoint => Config.endpointRoles key % 16
  | .module => ((List.range 16).filter fun c => s.rdb .module Fld.secCredValid c && decide (smapGet s.m.sec.creds [] c = key)).foldl
      (fun r c => r ||| s.rd .module Fld.secCredRoles c) 0

/-- A request outside the session's roles (R513). -/
def denied (sd : Side) (id : Nat) (s : State) : State :=
  respond sd (some id) (.vendor stAccessDenied []) (bump sd .secAuthFailCnt 0 s)

/-- A management request inside a session that has a role; in recovery mode only boot-image writes and reads (R490, R512, R513). -/
def withRole (sd : Side) (id role : Nat) (recovery : Bool) (f : Session → State → State) (s : State) : State :=
  match established sd id s with
  | some x => if x.roles.testBit role && (recovery || !inRecovery sd s) then f x s else denied sd id s
  | none => denied sd id s

/-- A management request that is answered with a status. -/
def answered (sd : Side) (id : Nat) (r : Status × State) : State := respond sd (some id) (.vendor r.1 []) r.2

/-! ## Credentials and signers (R492, R513) -/

/-- A credential slot is set; an empty key clears it. -/
def setCred (c roles : Nat) (key : List Byte) (s : State) : State :=
  let w : Word := if key.isEmpty then 0 else withBits (withBits (withBits 0 63 63 1) 62 59 roles) 31 0 (keyId (keyDigest key))
  measureCreds ((onSec (fun x => { x with creds := smapPut x.creds [] c key }) s).setWord .module .secCred c 0 w)

/-- A signer slot is set (R519): vendor slots verify images, the others programs. -/
def setSigner (k : Nat) (key : List Byte) (revoked : Bool) (s : State) : State :=
  let w : Word := if key.isEmpty then 0 else withBits (withBits (withBits (withBits 0 63 63 1) 62 62 (b2n revoked)) 61 60 (if k < 4 then 0 else 1))
    31 0 (keyId (keyDigest key))
  (s.onM fun m => { m with signers := smapPut m.signers [] k key }).setWord .module .secSigner k 0 w

/-- A vendor slot other than one holds an unrevoked key. -/
def otherVendor (k : Nat) (s : State) : Bool :=
  (List.range 4).any fun j => decide (j ≠ k) && s.rdb .module Fld.secSignerValid j && !s.rdb .module Fld.secSignerRevoked j

/-- SIGNER_SET (R492): an operator slot takes a key; a slot is revoked, unless no vendor slot would be left. -/
def signerSet (k : Nat) (key : List Byte) (revoke : Bool) (s : State) : Status × State :=
  if 16 ≤ k then (stAccessDenied, s)
  else if revoke then
    if k < 4 ∧ otherVendor k s = false then (stAccessDenied, s)
    else
      let otp := fun (o : OtpMap) => { o with signers := o.signers.map fun x => if x.1 = k then (x.1, x.2.1, true) else x }
      (stOk, measureFuses ((onSec (fun x => { x with otp := x.otp.map otp }) s).wrb .module Fld.secSignerRevoked k true))
  else if k < 4 then (stAccessDenied, s)
  else
    let otp := fun (o : OtpMap) => { o with signers := o.signers.filter (fun x => decide (x.1 ≠ k)) ++ [(k, key, false)] }
    (stOk, measureFuses (setSigner k key false (onSec (fun x => { x with otp := some (otp (x.otp.getD {})) }) s)))

/-- The signer slots and the minimum versions are loaded as fuses and flash hold them (R11, R492). -/
def loadOtp (s : State) : State := match s.m.sec.otp with
  | none => s
  | some o =>
    let s1 := (o.signers.filter fun x => decide (x.1 < 16)).foldl (fun s x => setSigner x.1 x.2.1 x.2.2 s) s
    measureFuses ((s1.wr .module Fld.secMinVerMinBootVersion 0 o.minBoot).wr .module Fld.secMinVerMinImageVersion 0 o.minImage)

/-- ROLLBACK_RAISE (R492): refused above the versions that run; the minimum versions rise only. -/
def rollbackRaise (boot image : Nat) (s : State) : Status × State :=
  if s.m.sec.bootVersion < boot ∨ s.rd .module Fld.jigImageIdImageVersion < image then (stVersion, s)
  else
    let b := max boot (s.rd .module Fld.secMinVerMinBootVersion)
    let i := max image (s.rd .module Fld.secMinVerMinImageVersion)
    (stOk, ((onSec (fun x => { x with otp := x.otp.map fun o => { o with minBoot := b, minImage := i } }) s).wr .module
      Fld.secMinVerMinBootVersion 0 b).wr .module Fld.secMinVerMinImageVersion 0 i)

/-! ## Tokens (R514) -/

/-- A token's lease from now. -/
def grantToken (g id : Nat) (s : State) : State :=
  (onSec (fun x => { x with leases := smapSet x.leases g (id, s.now + 1000000000 * s.rd .module Fld.secCtlLeaseS) }) s).wr
    .module Fld.secOwnHeld 0 (setBit (s.rd .module Fld.secOwnHeld) g)

/-- A token is released. -/
def dropToken (g : Nat) (s : State) : State :=
  (onSec (fun x => { x with leases := smapErase x.leases g }) s).wr .module Fld.secOwnHeld 0 (clearBit (s.rd .module Fld.secOwnHeld) g)

/-- The session that holds a group's token. -/
def tokenOwner (g : Nat) (s : State) : Option Nat := (smapGet? s.m.sec.leases g).map fun x => x.1

/-- TOKEN_ACQUIRE: the first holds it. -/
def acquireToken (g id : Nat) (s : State) : Status × State :=
  if 12 ≤ g then (stAccessDenied, s)
  else match tokenOwner g s with
    | some o => if o = id then (stOk, grantToken g id s) else (stResource, s)
    | none => (stOk, grantToken g id s)

/-! ## Boot (R490, R517) -/

/-- A boot image passes the checks of R490: layout, signature, signer and version. -/
def bootOk (image : List Byte) (otp : OtpMap) : Bool :=
  let size := imgField image 8 4
  let signer := imgField image 16 1
  decide (imgField image 0 4 = 0x51554254) && decide (imgField image 4 2 = 1) && decide (128 ≤ size) && decide (size + 114 ≤ image.length)
    && decide (otp.minBoot ≤ imgField image 12 4)
    && otp.signers.any fun x => decide (x.1 = signer) && decide (x.1 < 4) && !x.2.2
      && Config.ed448Verify x.2.1 (Config.shake256 64 (image.take size)) (slice image size 114)

/-- A boot image starts: measured, and the Puppeteer runs it. -/
def startBoot (image : List Byte) (b : Bool) (s : State) : State :=
  let s1 := onSec (fun x => { x with bootVersion := imgField image 12 4 }) s
  let s2 := setMeasurement 2 (Config.shake256 64 (image.take (imgField image 8 4))) (setMeasurement 1 (fitTo 64 (Config.measured false 1 [])) s1)
  (s2.wrb .module Fld.secStatusBootB 0 b).wr .module Fld.mgtStatusPupState 0 1

/-- The ROM verifies image A, then image B, and starts the first that passes; else recovery mode (R490). The Bool says that one started. -/
def boot (s : State) : Bool × State :=
  let otp := s.m.sec.otp.getD {}
  let a := smapGet s.m.sec.flash [] 0
  let b := smapGet s.m.sec.flash [] 1
  if bootOk a otp then (true, startBoot a false s)
  else if bootOk b otp then (true, startBoot b true s)
  else (false, (setMeasurement 1 (fitTo 64 (Config.measured false 1 [])) s).wr .module Fld.mgtStatusPupState 0 2)

/-- A reset is recorded (R540, R548). -/
def resetEvent (cls trigger : Nat) (s : State) : State :=
  logModule { code := 0x80, severity := 0, block := 20, arg0 := cls, arg1 := Config.resetTrigger trigger } (s.wr .module Fld.fltStatusLastReset 0 cls)

/-- The Puppeteer cores restart (R517, R540): sessions close; a boot image is verified next. -/
def restartPuppeteer (trigger : Nat) (s : State) : State :=
  let s1 := setSessions .module [] (onMgmt .module (fun m => { m with algorithms := false, assembly := [] }) s)
  resetEvent 4 trigger ((s1.wr .module Fld.mgtStatusPupState 0 0).wrb .module Fld.mgtStatusBusy 0 false)

end Sys2Proof.Machine
end

