-- ==== Sys2Proof/Machine/Bringup.lean ====
section
/-! DEFINITION. The steps of bring-up (R435 to R442): the meanings of their commands. -/

namespace Sys2Proof.Machine

/-- PCI.STATUS as the link came up (R570): what it negotiated is the host's as well, so the spec leaves it open. -/
def linkUp (s : State) : State :=
  ((s.wr .module Fld.pciStatusSpeed 0 (bitsOf Config.pcieLink 15 12)).wr .module Fld.pciStatusWidth 0 (bitsOf Config.pcieLink 11 6)).wr .module
    Fld.pciStatusFlit 0 (bitsOf Config.pcieLink 5 5)

/-- PCIE_ENUMERATION (R436 step 2): PCIe answers, or the link has not come up within its maximum time. -/
def execPcieEnumeration (up : Bool) (s : State) : Host.Outcome State Fault Refusal :=
  .next (if bringStep s = 1 ∧ bringBusy s = false ∧ bringFail s = false then
      if up then enterStep 2 (linkUp s) else endStep (some stTimeout) s
    else s)

/-- Step 2 ends once the host has set Memory Space Enable and Bus Master Enable (R436). -/
def enumerated (s : State) : State :=
  if bringStep s = 2 ∧ bringBusy s = true ∧ s.m.pci.memEnable = true ∧ s.m.pci.busMaster = true then endStep none s else s

/-- CONFIGURATION_WRITE (R414, R436, R552). -/
def execConfigurationWrite (w : ConfigWrite) (s : State) : Host.Outcome State Fault Refusal := .next (enumerated (configWrite w s))

/-- FUSE_MAP_READ (R436 step 3, R441): the fuse map, merged with the field record. -/
def readFuses (fuse : FuseMap) (s : State) : State :=
  if fuse.parityError then stepDone (some stInternal) s
  else
    let slices := s.m.tile.record.filterMap fun e => match e with
      | .slice c x => some (c, x)
      | _ => none
    let s1 := (onTile (fun t => { t with fuse := fuse }) s).onUnit .module fun u => { u with badSlices := fuse.badSlices ++ slices }
    stepDone none (loadOtp (mapSlices (mapTiles [] s1)))

def execFuseMapRead (path : Path) (fuse : FuseMap) (s : State) : Host.Outcome State Fault Refusal :=
  .next (stepWork 3 path (readFuses fuse) s)

/-- IMAGE_LOAD (R431, R436 step 4): the image as read from host memory, and the register fields that its sections PORTS, EPI_LIB and
REG_DEFAULTS spell. -/
def loadImage (image : List Byte) (fields : List ImageField) (s : State) : State :=
  match imageChecks image fields s with
  | some (st, sec) => stepDone (some st) (failImage st sec s)
  | none => stepDone none (takeImage image fields s)

def execImageLoad (path : Path) (image : List Byte) (fields : List ImageField) (s : State) : Host.Outcome State Fault Refusal :=
  .next (stepWork 4 path (fun s => loadImage image fields (s.wr .module Fld.jigStatusState 0 1)) s)

/-- TILE_BIST (R436 step 5, R441, R442): physical tiles that fail, and rows repaired now by physical tile. -/
def runBist (failing : List Nat) (rows : List (Nat × Nat)) (s : State) : State :=
  let s1 := (List.range 2176).foldl (fun s p => s.wrb .module Fld.tilPhysBistBad p (failing.contains p)) s
  let s2 := (List.range 2048).foldl (fun s t => (s.wr .module Fld.tilMapUeCnt t 0).wr .module Fld.tilMapCeLast t 0) s1
  let s3 := assignRoles (mapTiles rows s2)
  stepDone (if rolesMet s3 then none else some stResource) s3

def execTileBist (path : Path) (failing : List Nat) (rows : List (Nat × Nat)) (s : State) : Host.Outcome State Fault Refusal :=
  .next (stepWork 5 path (runBist failing rows) s)

/-- NOC_TRAINING (R436 step 6, R438): which NoC planes pass, and the image as it is fetched again. -/
def trainNoc (ok0 ok1 : Bool) (image : List Byte) (s : State) : State :=
  let s1 := ((s.onM fun m => { m with sw := { m.sw with nocFault := (if ok0 then [] else [0]) ++ (if ok1 then [] else [1]) } }).wrb .module
    Fld.nocStatusPlane0Ok 0 (ok0 && !s.rdb .module Fld.nocCtlPlane0Dis)).wrb .module Fld.nocStatusPlane1Ok 0
    (ok1 && !s.rdb .module Fld.nocCtlPlane1Dis)
  if !(nocOk 0 s1 || nocOk 1 s1) then stepDone (some stInternal) s1
  else match changedSection [1, 2, 3] image s1 with
    | some i => stepDone (some stCheckFail) (failImage stCheckFail i s1)
    | none => stepDone none (onBring (fun b => { b with codeLoaded := true }) s1)

def execNocTraining (path : Path) (ok0 ok1 : Bool) (image : List Byte) (s : State) : Host.Outcome State Fault Refusal :=
  .next (stepWork 6 path (trainNoc ok0 ok1 image) s)

/-- DDR5_TRAINING (R436 step 7, R438): what training shows of the twelve channels, the image as it is copied to the staging area, and
whether vendor firmware has reported ready. -/
def trainDdr (channels : List DdrChannel) (image : List Byte) (ready : Bool) (s : State) : State :=
  let chs := channels.take 12
  let s1 := (List.range chs.length).foldl (fun s c => match chs[c]? with
    | some d => ((((s.wrb .module Fld.ddrChPresent c d.present).wrb .module Fld.ddrChTrained c (d.present && d.trained)).wrb .module
        Fld.ddrChFailed c (d.present && !d.trained)).wr .module Fld.ddrChSizeGib c d.sizeGib).wr .module Fld.ddrChRate c d.rate
    | none => s) s
  if chs.any fun d => d.present && !d.trained then stepDone (some stInternal) s1
  else
    let gib := (chs.map fun d => if d.present then d.sizeGib else 0).sum
    let s2 := settlePool (onPool (fun p => { p with installedGib := gib }) s1)
    match changedSection [1, 2, 3, 4, 5, 6, 7] image s2 with
    | some i => stepDone (some stCheckFail) (failImage stCheckFail i s2)
    | none =>
      let s3 := (ddrWrite 0 (gib * 2 ^ 30 - 2 ^ 28) image s2).wr .module Fld.jigStatusState 0 3
      if ready then stepDone none (onBring (fun b => { b with firmware := true }) s3) else s3

def execDdr5Training (path : Path) (channels : List DdrChannel) (image : List Byte) (ready : Bool) (s : State) :
    Host.Outcome State Fault Refusal := .next (stepWork 7 path (trainDdr channels image ready) s)

/-- SERDES_CALIBRATION (R98, R436 step 8): chiplets that reported, and slices that fail. A lane left without a slice is FAILED. -/
def calibrate (reported : List Nat) (bad : List (Nat × Nat)) (s : State) : State :=
  if !(List.range 8).all fun c => reported.contains c then stepDone (some stInternal) s
  else
    let s1 := mapSlices (s.onUnit .module fun u => { u with badSlices := u.badSlices ++ bad.filter fun x => !u.badSlices.contains x })
    stepDone none ((List.range 1024).foldl (fun s n => if s.rd .module Fld.lnkStatusSlice n = 255 then setReason .module n 8 (setLaneSt .module n 12 s)
      else s) s1)

def execSerdesCalibration (path : Path) (reported : List Nat) (bad : List (Nat × Nat)) (s : State) : Host.Outcome State Fault Refusal :=
  .next (stepWork 8 path (calibrate reported bad) s)

/-- LINK_TRAINING (R50, R51, R436 step 9): GLB.EID is locked, and enabled lanes train. The step ends by BRINGUP_STEP_END. -/
def trainLinks (s : State) : State :=
  if !isModuleEid (s.myEid .module) then stepDone (some stVersion) s
  else (List.range 1024).foldl (fun s n => if s.rdb .module Fld.lnkCtlEnable n then enableLane .module n s else s)
    (s.wrb .module Fld.glbEidLocked 0 true)

def execLinkTraining (path : Path) (s : State) : Host.Outcome State Fault Refusal := .next (stepWork 9 path trainLinks s)

/-- TOP_LOCK (R436 step 10): the step waits for Top; a Top that is locked already ends it. -/
def execTopLock (path : Path) (s : State) : Host.Outcome State Fault Refusal :=
  .next (stepWork 10 path (fun s => if topLocked s then stepDone none s else s) s)

/-- ENABLE (R436 step 11): every port opens to all traffic classes. -/
def execEnable (path : Path) (s : State) : Host.Outcome State Fault Refusal :=
  .next (stepWork 11 path (fun s => stepDone none (s.wrb .module Fld.glbBringupStatusEnabled 0 true)) s)

/-- BRINGUP_STEP_END (R435, R436): the step whose work has ended ends; step 9 when its lanes have settled, step 10 when Top is locked. -/
def execBringupStepEnd (s : State) : Host.Outcome State Fault Refusal :=
  .next (if !bringBusy s then s
    else match s.m.bring.outcome with
      | some st => endStep st s
      | none => if (bringStep s = 9 ∧ lanesSettled s = true) ∨ (bringStep s = 10 ∧ topLocked s = true) then endStep none s else enumerated s)

/-- BRINGUP_STEP_TIMEOUT (R435, R436): FAIL with TIMEOUT, but for step 9, which ends, and step 10, which ends with NO_TOP_LOCK. -/
def execBringupStepTimeout (s : State) : Host.Outcome State Fault Refusal :=
  .next (if !bringBusy s ∨ bringStep s < 3 then s
    else match s.m.bring.outcome with
      | some st => endStep st s
      | none =>
        if bringStep s = 9 then endStep none s
        else if bringStep s = 10 then endStep none (if topLocked s then s else s.wrb .module Fld.glbBringupStatusNoTopLock 0 true)
        else endStep (some stTimeout) s)

/-- Every port goes down and every lane goes to DISABLED (R439). -/
def stopLinks (s : State) : State :=
  let s1 := (List.range 1024).foldl (fun s p => if portSt .module p s = 0 then s else portDown .module p 4 s) s
  (List.range 1024).foldl (fun s n => if laneSt .module n s = 0 then s else
    (setLaneSt .module n 0 s).onLane .module n (clearTraining false)) s1

/-- The puppet programs end and what the image gave goes: its registers, its measurement and its digest (R439). -/
def dropImage (s : State) : State :=
  let s1 := (List.range 16).foldl (fun s p => endProgram p stAborted 0 s) s
  let s2 := clearImage ((s1.setWord .module .jigStatus 0 0 0).setWord .module .jigImageId 0 0 0)
  let s3 := (List.range 8).foldl (fun s i => s.wr .module Fld.jigDigestDigest i 0) (setMeasurement 4 [] (s2.wrb .module Fld.glbRoleValid 0 false))
  (List.range 8).foldl (fun s r => s.wr .module Fld.tilRoleCntInService r 0) s3

/-- No role holds tiles any more: neither the fast pool nor a lane group's buffers (R243, R439). -/
def dropRoles (s : State) : State :=
  s.onM fun m => { m with
    sw := { m.sw with bufTiles := [] }
    pool := { m.pool with missing := [] }
    bring := { m.bring with table := [], roleMap := [], fields := [], codeLoaded := false, firmware := false, outcome := none } }

/-- What an unload leaves (R439): the state that follows step 3, with the staging area kept. -/
def unload (s : State) : State :=
  let s1 := dropRoles (dropImage (stopLinks s))
  let s2 := ((s1.wr .module Fld.dirPoolStatusFastMissing 0 0).wr .module Fld.dirPoolStatusPoolGib 0 0).wr .module Fld.glbBringupStatusStep 0 3
  mapTiles [] ((((s2.wrb .module Fld.glbBringupStatusFail 0 false).wr .module Fld.glbBringupStatusStatus 0 0).wrb .module
    Fld.glbBringupStatusEnabled 0 false).wrb .module Fld.glbBringupStatusNoTopLock 0 false)

/-- GLB.BRINGUP_CTL.UNLOAD (R439, R440, R450): discarded and recorded while a step or a migration runs; nothing before step 4. -/
def writeUnload (s : State) : State :=
  if bringBusy s || s.m.tile.migration.isSome then regAccess .module (regOffset .module .glbBringupCtl 0 0) 16 s
  else if bringStep s < 4 then s
  else unload s

/-- UNLOAD (R439). -/
def execUnload (s : State) : Host.Outcome State Fault Refusal := .next (settle .module (writeUnload s))

end Sys2Proof.Machine
end

