-- ==== Sys2Proof/Machine/Coherence.lean ====
section
/-! DEFINITION. The meanings of the coherence commands (08): TC2 packets at the home and at the endpoint block, and their timers. -/

namespace Sys2Proof.Machine

/-! ## At the home -/

/-- A TC2 packet reaches the leaf. -/
def atHome (port : Nat) (p : Packet) (op : BitVec 8) (f : State → State) (s : State) : State :=
  if p.opcode = op && s.isLeaf then
    match accept .module port p s with
    | (none, s1) => s1
    | (some _, s1) => settle .module (f s1)
  else s

/-- RD_SHARED (R254). -/
def execRdShared (port : Nat) (p : Packet) (s : State) : Host.Outcome State Fault Refusal := .next (atHome port p 0x20 (takeTc2 port p) s)

/-- RD_OWN (R254). -/
def execRdOwn (port : Nat) (p : Packet) (s : State) : Host.Outcome State Fault Refusal := .next (atHome port p 0x21 (takeTc2 port p) s)

/-- UPGRADE (R254). -/
def execUpgrade (port : Nat) (p : Packet) (s : State) : Host.Outcome State Fault Refusal := .next (atHome port p 0x22 (takeTc2 port p) s)

/-- WB (R254). -/
def execWb (port : Nat) (p : Packet) (s : State) : Host.Outcome State Fault Refusal := .next (atHome port p 0x23 (takeTc2 port p) s)

/-- EVICT (R254). -/
def execEvict (port : Nat) (p : Packet) (s : State) : Host.Outcome State Fault Refusal := .next (atHome port p 0x24 (takeTc2 port p) s)

/-- RECOVER_START (R262): the leaf runs its part of coherence recovery; with the pool off it answers NO_WINDOW (R543). -/
def execRecoverStart (port : Nat) (p : Packet) (s : State) : Host.Outcome State Fault Refusal :=
  .next (atHome port p 0x25 (fun s =>
    if !pchkGood p then dropBadCheck .module s
    else if !s.rdb .module Fld.dirPoolCtlEn then sendGo p.src p.xseq p.offset.toNat 0 stNoWindow s
    else if fromSlot p s then leafRecovery (eidSlot p.src) s else s) s)

/-- RECOVER_DONE (R263 step 6). -/
def execRecoverDone (port : Nat) (p : Packet) (s : State) : Host.Outcome State Fault Refusal :=
  .next (atHome port p 0x26 (fun s =>
    if !pchkGood p then sendGo p.src p.xseq p.offset.toNat 0 stCheckFail s
    else if fromSlot p s then takeRecoverDone (eidSlot p.src) p s else s) s)

/-- A SNP_RSP answers the flush in progress of its slot, or a snoop of a transaction. -/
def takeHomeRsp (p : Packet) (s : State) : State :=
  let slot := eidSlot p.src
  match s.m.dir.flush with
  | some f => if p.xseq = f.tseq ∧ f.waiting.contains slot = true then flushAnswered slot s else takeSnoopRsp slot p s
  | none => takeSnoopRsp slot p s

/-- SNP_RSP (R254, R258). -/
def execSnpRsp (port : Nat) (p : Packet) (s : State) : Host.Outcome State Fault Refusal :=
  .next (atHome port p 0x40 (fun s =>
    if !pchkGood p then dropBadCheck .module s else if fromSlot p s then takeHomeRsp p s else s) s)

/-- The transaction that an ACK ends (R257): granted, of this requester and TSEQ. -/
def ackedTxn (p : Packet) (s : State) : Option HomeTxn :=
  s.m.dir.txns.find? fun t => t.granted.isSome && decide (t.tseq = p.xseq) && (match t.use with
    | .request _ _ q => decide (q.src = p.src)
    | _ => false)

/-- ACK (R257): the requester's transaction ends and its line is unblocked. -/
def execAck (port : Nat) (p : Packet) (s : State) : Host.Outcome State Fault Refusal :=
  .next (atHome port p 0x43 (fun s =>
    if !pchkGood p then dropBadCheck .module s
    else match ackedTxn p s with
      | some t => endTxn t.id s
      | none => s) s)

/-- LINE_UNBLOCK (R257, R271): a line that is not blocked any more serves the next request that waits for it. -/
def execLineUnblock (line : Nat) (s : State) : Host.Outcome State Fault Refusal :=
  .next (if lineBlocked line s then s else settle .module (serveLine line (settleRegions (clearLine line s))))

/-- DIRECTORY_FLUSH (R266): the number of DIRECTORY tiles in service changes to `tiles`. -/
def execDirectoryFlush (tiles : Nat) (s : State) : Host.Outcome State Fault Refusal :=
  .next (if s.isLeaf && s.m.dir.flush.isNone then startFlush tiles none s else s)

/-- DIR_REGION_CLEAR (R271): a write that clears VALID, COHERENT or both of a region. -/
def execDirRegionClear (path : Path) (n : Nat) (valid coherent : Bool) (s : State) : Host.Outcome State Fault Refusal :=
  .next (rwl .module path (regOffset .module .dirRegion n 0) 0 (fun s =>
    if s.isLeaf && decide (n < 64) then settle .module (clearRegion n valid coherent s) else s) s)

/-- DIRECTORY_SCAN_END (R264): the scan for a lost slot ends, and what waited proceeds. -/
def execDirectoryScanEnd (slot : Nat) (s : State) : Host.Outcome State Fault Refusal :=
  .next (if s.m.dir.scanning.contains slot then settle .module (serveAll (scanSlot slot s)) else s)

/-! ## At the endpoint block -/

/-- A TC2 packet reaches the endpoint block. -/
def atHolder (port : Nat) (p : Packet) (op : BitVec 8) (f : State → State) (s : State) : State :=
  if p.opcode = op then
    match accept .endpoint port p s with
    | (none, s1) => s1
    | (some _, s1) => settle .endpoint (f s1)
  else s

/-- A snoop that fails its check is discarded and counted (R69). -/
def checkedSnoop (p : Packet) (f : State → State) (s : State) : State := if pchkGood p then f s else dropBadCheck .endpoint s

/-- SNP_SHARED (R256, R372). -/
def execSnpShared (port : Nat) (p : Packet) (s : State) : Host.Outcome State Fault Refusal :=
  .next (atHolder port p 0x30 (checkedSnoop p (takeSnoop port p)) s)

/-- SNP_INV (R256, R372). -/
def execSnpInv (port : Nat) (p : Packet) (s : State) : Host.Outcome State Fault Refusal :=
  .next (atHolder port p 0x31 (checkedSnoop p (takeSnoop port p)) s)

/-- SNP_CUR (R256, R372). -/
def execSnpCur (port : Nat) (p : Packet) (s : State) : Host.Outcome State Fault Refusal :=
  .next (atHolder port p 0x32 (checkedSnoop p (takeSnoop port p)) s)

/-- BINV (R256, R372). -/
def execBinv (port : Nat) (p : Packet) (s : State) : Host.Outcome State Fault Refusal :=
  .next (atHolder port p 0x33 (checkedSnoop p (takeSnoop port p)) s)

/-- SNP_FLUSH (R256, R263). -/
def execSnpFlush (port : Nat) (p : Packet) (s : State) : Host.Outcome State Fault Refusal :=
  .next (atHolder port p 0x34 (checkedSnoop p (takeFlush port p)) s)

/-- GO (R253). -/
def execGo (port : Nat) (p : Packet) (s : State) : Host.Outcome State Fault Refusal := .next (atHolder port p 0x41 (takeGo p) s)

/-- CMP (R253). -/
def execCmp (port : Nat) (p : Packet) (s : State) : Host.Outcome State Fault Refusal := .next (atHolder port p 0x42 (takeCmp p) s)

/-- DATA (R253). -/
def execData (port : Nat) (p : Packet) (s : State) : Host.Outcome State Fault Refusal := .next (atHolder port p 0x50 (takeData p) s)

/-- COH_TIMEOUT (R262): a coherent request has stayed incomplete for FXE.CTL.COH_TIMEOUT. -/
def execCohTimeout (leaf : Eid) (tseq : BitVec 24) (s : State) : Host.Outcome State Fault Refusal :=
  .next (match cohReq leaf tseq s with
    | some c => if c.aborted then s else settle .endpoint (epRecovery leaf true s)
    | none => s)

/-- MIRROR_STORE_DONE (R374): the oldest mirror store that has completed; a failure marks its range stale. -/
def execMirrorStoreDone (s : State) : Host.Outcome State Fault Refusal :=
  .next (match s.e.mirrored with
    | [] => s
    | (r, st) :: l =>
      let s1 := s.onE fun e => { e with mirrored := l }
      if st = stOk then s1
      else raiseVector 6 (logEvent .endpoint { code := 0xC2, severity := 2, block := 0x7F, status := st.toNat, arg0 := r, arg1 := st.toNat }
        (s1.wrb .endpoint Fld.fxeCohMirrorStale r true)))

/-- SNOOP_SLOW (R391): an SQ snoop has gone unanswered for 2 µs. -/
def execSnoopSlow (stag : Nat) (s : State) : Host.Outcome State Fault Refusal :=
  .next (match s.e.snoops.find? fun x => decide (x.stag = stag) with
    | some x => logEvent .endpoint { code := 0xC4, severity := 1, block := 0x7F, arg0 := stag, arg1 := 64 * x.line } s
    | none => s)

end Sys2Proof.Machine
end

