-- ==== Sys2Proof/Machine/ShadowOps.lean ====
section
/-! DEFINITION. Shadow admission: the comparison of a new unit's outputs with a working one's (R536 to R539). -/

namespace Sys2Proof.Machine

/-! ## Elements (R538) -/

/-- A finite FP32 word as a multiple of 2^-200. -/
def scaled (w : Nat) : Option Int := match fp32 (BitVec.ofNat 32 w) with
  | .fin neg m e => some (signedOf neg (m * 2 ^ (e + 200).toNat))
  | _ => none

/-- floor(log2 |v|) + 200 of an FP32 word; none of zero. -/
def topBit (w : Nat) : Option Nat := match fp32 (BitVec.ofNat 32 w) with
  | .fin _ m e => if m = 0 then none else some ((Nat.log2 m : Int) + e + 200).toNat
  | _ => none

/-- The unit of R328 of element `i` of a partial, in 2^-200: of its own magnitude in BF16, of its block's largest in an MX format. -/
def partialUnit (fmt : Nat) (l : List Nat) (i : Nat) : Nat :=
  let shift := fun (m : Nat) (t : Option Nat) => match t with
    | some b => 2 ^ (b - m)
    | none => Config.shadowZeroUnit fmt
  if fmt = 0 then 0
  else if fmt = 1 then shift 7 (topBit (l.getD i 0))
  else shift (if fmt = 3 then 3 else 2) (((slice' l (i / 32 * 32)).filterMap topBit).max?)
where
  slice' (l : List Nat) (a : Nat) : List Nat := (l.drop a).take 32

/-- Bit-equal, with every NaN equal to every NaN. -/
def sameElement (fmt a b : Nat) : Bool :=
  decide (a = b) || (!fmtInt fmt && decide (fp32 (BitVec.ofNat 32 a) = .nan) && decide (fp32 (BitVec.ofNat 32 b) = .nan))

/-- The pass condition of a floating SUM at a module shadow; `n`: EXPECT_CHILDREN, `absSum`: A. -/
def sumClose (comp : Bool) (n absSum a b ua ub : Nat) : Bool := match scaled a, scaled b, scaled absSum with
  | some x, some y, some t =>
    let bound := if comp then 2 * (t / 2 ^ 23 + n * (t / 2 ^ 47)) else 2 * n * (t / 2 ^ 24)
    decide ((x - y).natAbs ≤ bound.natAbs + ua + ub)
  | _, _, _ => Config.shadowSpecial a b

/-- The pass condition of a floating endpoint shadow. -/
def tolClose (tolAbs tolRel a b : Nat) : Bool := match scaled a, scaled b, scaled tolAbs, scaled tolRel with
  | some x, some y, some ta, some tr => decide (((x - y).natAbs : Int) * 2 ^ 200 ≤ ta * 2 ^ 200 + tr * (max x.natAbs y.natAbs : Nat))
  | _, _, _, _ => Config.shadowSpecial a b

/-- The first element of a fragment that fails. -/
def firstFailing (n : Nat) (pass : Nat → Bool) : Option Nat := findBelow n fun i => !pass i

/-- A context's fragments compare bit for bit: integers, and floating MIN and MAX. -/
def comparesBits (n fmt : Nat) (s : State) : Bool :=
  fmtInt fmt || decide (s.rd .module Fld.mrnCtxOp n = 1) || decide (s.rd .module Fld.mrnCtxOp n = 2)

/-! ## Outcomes (R539) -/

/-- Comparison is under way in an entry. -/
def comparing (e : Nat) (s : State) : Bool := !s.rdb .module Fld.fltShadowFailed e

/-- An element has failed: FAILED, counted, with its event. -/
def shadowFails (x : ShadowChunk) (element : Nat) (s : State) : State :=
  let s1 := (putShadow { x with ended := true, working := [], shadow := [] } s).wrb .module Fld.fltShadowFailed x.entry true
  logModule { code := 0x46, severity := 2, block := 20, eid := some (unitBehind (shadowPort x.entry s) s), arg0 := x.entry
              arg1 := x.chunk * 2 ^ 16 + element } (bump .module .fltShadowFailCnt 0 s1)

/-- A chunk has passed: counted, and at MIN_CHUNKS the unit has passed. -/
def shadowPasses (x : ShadowChunk) (s : State) : State :=
  let e := x.entry
  let s1 := saturate .module Fld.fltShadowCompared e 1 (putShadow { x with ended := true, working := [], shadow := [] } s)
  let n := s1.rd .module Fld.fltShadowCompared e
  if s1.rd .module Fld.fltShadowMinChunks e ≤ n ∧ s1.rdb .module Fld.fltShadowPassed e = false then
    logModule { code := 0x47, severity := 0, block := 20, eid := some (unitBehind (shadowPort e s) s), arg0 := e, arg1 := n }
      ((s1.wrb .module Fld.fltShadowPassed e true).wr .module Fld.fltLiveState (shadowPort e s) 4)
  else s1

/-- A fragment has been compared: what that gives. -/
def comparedFragment (x : ShadowChunk) (f elems : Nat) (failing : Option Nat) (s : State) : State := match failing with
  | some i => shadowFails x (f * elems + i) s
  | none =>
    let y := { x with compared := f :: x.compared, working := smapErase x.working f, shadow := smapErase x.shadow f }
    if y.last = some (y.compared.length - 1) then shadowPasses y s else putShadow y s

/-! ## Module shadows (R536) -/

/-- A fragment of the shadow's partial against the working module's own held partial. -/
def comparePartial (e n : Nat) (p : Packet) (s : State) : State :=
  let x := shadowChunk e p.xseq.toNat (collChunk p) s
  let f := collFrag p
  if x.ended || !comparing e s || x.compared.contains f then s
  else match mrnChunk n p.xseq.toNat (collChunk p) s with
    | none => skipShadow x s
    | some k =>
      if k.phase ≠ .held then skipShadow x s
      else
        let fmt := s.rd .module Fld.mrnCtxFmtUp n
        let a := fragDecode fmt (k.payloads.getD f [])
        let b := fragDecode fmt p.payload
        let m := s.rd .module Fld.mrnCtxExpectChildren n
        let pass := fun i => if comparesBits n fmt s then sameElement fmt (a.getD i 0) (b.getD i 0)
          else sumClose (k.arith.getLsbD 38) m ((smapGet k.abs [] f).getD i 0) (a.getD i 0) (b.getD i 0) (partialUnit fmt a i) (partialUnit fmt b i)
        comparedFragment { x with last := some (k.payloads.length - 1) } f (fragElems fmt) (firstFailing (fragElems fmt) pass) s

/-- A chunk of the shadow module is complete: every counter at EXPECT_COUNT and every sender's last fragment there; no check values. Its
partial goes back on SHADOW_PORT. -/
def finishShadow (e : Nat) (k : MrnChunk) (s : State) : State :=
  if !chunkFull k s then s
  else
    let r := narrowAll k (s.rd .module Fld.mrnCtxFmtUp k.ctx) (bitsOf k.arith 35 34) 0
      ((List.range (chunkLength k)).map fun f => finalValues k f)
    let k1 := { clearedChunk k with phase := .held, payloads := r.1 }
    let s1 := bumpBy .module .redSaturateCnt 0 r.2 (putChunk k1 s)
    let ps := collPackets (ctxKey k.ctx s) (s.myEid .module) (s.rdb .module Fld.glbRolePlane) 0x90 k.step k.chunk k.attempt
      (k.first + s.rd .module Fld.mrnCtxExpectCount k.ctx * 2 ^ 14 + 2 ^ 29) (k.digest.getD 0) r.1
    (finishAll (s.rd .module Fld.mrnCtxGroup k.ctx) ps s1).foldl (fun s p => sendOn (shadowPort e s) p s) s1

/-- A fragment at its open chunk of the shadow module: one that fails R294 ends the chunk, in silence. -/
def addShadow (e : Nat) (k0 : MrnChunk) (p : Packet) (s : State) : State :=
  let k := if k0.digest.isNone then { k0 with digest := some (slotDigest p), first := collMember p } else k0
  let f := collFrag p
  let count := smapGet k.counts 0 f + collCount p
  if k.digest ≠ some (slotDigest p) ∨ s.rd .module Fld.mrnCtxExpectCount k.ctx < count then freeChunk k s
  else
    let c := smapGet k.children {} p.src.toNat
    let c1 : MrnChild := { frags := smapSet c.frags f p.payload, last := if slotCheck p = 0 then c.last else some (f, slotCheck p) }
    let k1 := { accumulate k.ctx k f p.payload s with counts := smapSet k.counts f count, children := smapSet k.children p.src.toNat c1 }
    finishShadow e k1 (putChunk k1 s)

/-- A copied contribution reaches the shadow module: it sends no COLL_RESEND and no abort. -/
def shadowContrib (e n : Nat) (p : Packet) (s : State) : State :=
  let step := p.xseq.toNat
  let c := collChunk p
  match mrnChunk n step c s with
  | some k => if k.phase = .isOpen ∧ k.attempt = collAttempt p then addShadow e k p s else bump .module .mrnStaleCnt 0 s
  | none => match openChunk n step c (collAttempt p) 0 (collMember p) (some (slotDigest p)) s with
    | none => s
    | some s1 => match mrnChunk n step c s1 with
      | some k => addShadow e k p s1
      | none => s1

/-! ## Endpoint shadows (R537) -/

/-- Bytes that the comparator of an entry holds. -/
def comparatorBytes (e : Nat) (s : State) : Nat :=
  ((s.m.live.shadows.filter fun x => decide (x.entry = e)).map fun x => ((x.working ++ x.shadow).map fun y => y.2.length).sum).sum

/-- A fragment of the working member or of the shadow endpoint: compared where the other has come, or held. -/
def pairFragment (e n : Nat) (fromShadow : Bool) (p : Packet) (s : State) : State :=
  let f := collFrag p
  let x0 := shadowChunk e p.xseq.toNat (collChunk p) s
  let x := if slotCheck p = 0 then x0 else { x0 with last := some f }
  if x0.ended || !comparing e s || x0.compared.contains f then s
  else match smapGet? (if fromShadow then x.working else x.shadow) f with
    | some other =>
      let fmt := s.rd .module Fld.mrnCtxFmtIn n
      let a := fragDecode fmt other
      let b := fragDecode fmt p.payload
      let pass := fun i => if comparesBits n fmt s then sameElement fmt (a.getD i 0) (b.getD i 0)
        else tolClose (s.rd .module Fld.fltShadowTolAbs e) (s.rd .module Fld.fltShadowTolRel e) (a.getD i 0) (b.getD i 0)
      comparedFragment x f (fragElems fmt) (firstFailing (fragElems fmt) pass) s
    | none =>
      if 4194304 < comparatorBytes e s + p.payload.length then skipShadow x s
      else putShadow (if fromShadow then { x with shadow := smapSet x.shadow f p.payload } else { x with working := smapSet x.working f p.payload }) s

/-! ## Arrivals -/

/-- The entry, of any kind, whose SHADOW_PORT a context's packet arrives on. -/
def shadowEntryAt (n port : Nat) (s : State) : Option Nat :=
  (List.range 16).find? fun e => s.rdb .module Fld.fltShadowValid e && decide (s.rd .module Fld.fltShadowCtx e = n) && decide (shadowPort e s = port)

/-- A contribution on SHADOW_PORT (R536, R537). -/
def atShadowPort (e n : Nat) (p : Packet) (s : State) : State :=
  if s.rdb .module Fld.fltShadowKind e then pairFragment e n true p s
  else if s.rdb .module Fld.fltShadowSide e then shadowContrib e n p s
  else comparePartial e n p s

/-- The contribution of a member that a shadow endpoint duplicates reaches its comparators. -/
def pairWorking (n : Nat) (p : Packet) (s : State) : State :=
  ((shadowsOf true false n s).filter fun e => decide (s.rd .module Fld.fltShadowPeerMember e = collMember p)).foldl (fun s e =>
    pairFragment e n false p s) s

end Sys2Proof.Machine
end

