-- ==== Sys2Proof/Machine/Collectives.lean ====
section
/-! DEFINITION. The meanings of the collective commands (09, 10), but for those that add evidence about a unit. -/

namespace Sys2Proof.Machine

/-! ## At a member -/

/-- COLL_DESCRIPTOR (R288, R384): the next descriptor fetched from the collective queue is checked and becomes active. -/
def execCollDescriptor (s : State) : Host.Outcome State Fault Refusal :=
  .next (match (epQueue 32 s).fetched with
    | d :: l => if (leNat (slice d 7 1)).testBit 4 then s else acceptDesc d (onQueue 32 (fun k => { k with fetched := l }) s)
    | [] => s)

/-- COLL_CANCEL (R292): the next fetched descriptor carries CANCEL. -/
def execCollCancel (s : State) : Host.Outcome State Fault Refusal :=
  .next (match (epQueue 32 s).fetched with
    | d :: l =>
      if (leNat (slice d 7 1)).testBit 4 then
        fetchColl (cancelStep (leNat (slice d 0 2)) (leNat (slice d 2 3)) (onQueue 32 (fun k => { k with fetched := l }) s))
      else s
    | [] => s)

/-- TIMED_START (R291): fabric time has reached a descriptor's START_TIME. -/
def execTimedStart (id : Nat) (s : State) : Host.Outcome State Fault Refusal :=
  .next (onCollDesc id (fun d => { d with startAt := none }) s)

/-- CHUNK_SEND (R289): the next chunk of a context on a plane launches, while fewer than W are incomplete there. -/
def execChunkSend (g : Nat) (plane : Bool) (s : State) : Host.Outcome State Fault Refusal :=
  .next (match nextChunk g plane s with
    | some (d, k) => if d.startAt.isNone && decide (chunksOut g plane s < d.window) then launchChunk d k s else s
    | none => s)

/-- PROBE_TIMER (R298): the member asks for the result of a chunk that is incomplete. -/
def execProbeTimer (id chunk : Nat) (s : State) : Host.Outcome State Fault Refusal :=
  .next (match collOf id chunk s with
    | some (d, k) => if k.launched && k.ended.isNone && !k.verified then sendProbe d k s else s
    | none => s)

/-- COLL_TIMEOUT (R298): a chunk still incomplete at the collective timeout ends. -/
def execCollTimeout (id chunk : Nat) (s : State) : Host.Outcome State Fault Refusal :=
  .next (match collOf id chunk s with
    | some (_, k) => if k.launched then endChunk id chunk stTimeout 0 none true s else s
    | none => s)

/-- SRC_READ_FAIL (R589): nothing more of the chunk is sent; an abort goes to its root, and its record is written. -/
def execSrcReadFail (id chunk : Nat) (s : State) : Host.Outcome State Fault Refusal :=
  .next (match collOf id chunk s with
    | some (d, k) => (match k.srcFailed with
      | some st => endChunk id chunk st 0 (some d.member) false
          (sendAbort (descKey d) k.plane st d.step chunk (ownAbort d (s.myEid .endpoint) (some d.member)) 0 s)
      | none => s)
    | none => s)

/-! ## At a module -/

/-- A collective packet reaches a unit (R69, R72): none where it is discarded. -/
def receiveColl (sd : Side) (port : Nat) (p : Packet) (s : State) : Bool × State :=
  match accept sd port p s with
  | (none, s1) => (false, s1)
  | (some _, s1) => if pchkGood p then (true, s1) else (false, dropBadCheck sd s1)

/-- The context of a collective packet at a module, where its key and class match (R286, R313). -/
def contextOf (port : Nat) (p : Packet) (s : State) : Option Nat × State :=
  match (collGroup p).bind fun g => mrnCtx g s with
  | none => (none, countUnreachable port p s)
  | some n => if keyMatches n p s then (some n, s) else (none, bump .module .mrnKeyDiscardCnt 0 s)

/-- A context's collective packet that arrives on a shadow port is not for the working tree (R536, R537). -/
def onShadowPort (n port : Nat) (s : State) : Bool := (shadowEntryAt n port s).isSome

/-- COLL_CONTRIB (R293, R294, R536, R537): a fragment from a child, or from the other side of a shadow. -/
def execCollContrib (port : Nat) (p : Packet) (s : State) : Host.Outcome State Fault Refusal :=
  .next (if p.opcode ≠ 0x90 then s
    else match receiveColl .module port p s with
      | (false, s1) => s1
      | (true, s1) =>
        match contextOf port p s1 with
        | (none, s2) => s2
        | (some n, s2) =>
          match shadowEntryAt n port s2, childOf n port s2, openColl .module (s2.rd .module Fld.mrnCtxGroup n) p s2 with
          | none, none, _ => s2
          | some e, _, .ok q => atShadowPort e n q s2
          | none, some c, .ok q => pairWorking n q (takeContrib n port c p q s2)
          | _, _, .denied => bump .module .secNokeyCnt 0 s2
          | _, _, .stale => s2
          | _, _, .badTag => bump .module .secTagFailCnt 0 s2)

/-- EPILOGUE_START (R297, R331): a chunk complete at its root goes on. `count`: COUNT of the invocation. -/
def execEpilogueStart (ctx step chunk count : Nat) (s : State) : Host.Outcome State Fault Refusal :=
  .next (match mrnChunk ctx step chunk s with
    | some k => if k.phase = .atRoot then startEpilogue k count s else s
    | none => s)

/-- EPILOGUE_COMMIT (R340): every write of the other copy has completed. -/
def execEpilogueCommit (ctx step chunk : Nat) (s : State) : Host.Outcome State Fault Refusal :=
  .next (match mrnChunk ctx step chunk s with
    | some k => if k.phase = .committing then commitEpilogue k s else s
    | none => s)

/-- A result fragment at a module below the root: forwarded, and the partial is given up after the last (R296, R297). -/
def forwardResult (n port : Nat) (p : Packet) (s : State) : State :=
  if rootOf n (collChunk p) s = .here || onShadowPort n port s then s
  else
    let s1 := copyResult n p (sendDown n port p s)
    match mrnChunk n p.xseq.toNat (collChunk p) s1 with
    | some k => if k.phase = .held ∧ k.payloads.length ≤ collFrag p + 1 then freeChunk k s1 else s1
    | none => s1

/-- COLL_RESULT (R297, R298): forwarded at a module, written to DST at a member. -/
def execCollResult (side : Side) (port : Nat) (p : Packet) (s : State) : Host.Outcome State Fault Refusal :=
  .next (if p.opcode ≠ 0x91 then s
    else match side with
      | .endpoint =>
        (match receiveColl .endpoint port p s with
        | (false, s1) => s1
        | (true, s1) => takeResult p s1)
      | .module =>
        (match accept .module port p s with
        | (none, s1) => s1
        | (some _, s1) =>
          match contextOf port p s1 with
          | (none, s2) => s2
          | (some n, s2) => forwardResult n port p s2))

/-- COLL_ABORT (R306). -/
def execCollAbort (side : Side) (port : Nat) (p : Packet) (s : State) : Host.Outcome State Fault Refusal :=
  .next (if p.opcode ≠ 0x92 then s
    else match receiveColl side port p s with
      | (false, s1) => s1
      | (true, s1) =>
        match side with
        | .endpoint => takeAbort p s1
        | .module => match contextOf port p s1 with
          | (none, s2) => s2
          | (some n, s2) => if onShadowPort n port s2 then s2 else passAbort n (some port) p s2)

/-- COLL_RESEND with WANT 0 (R300, R304). -/
def execCollResend (side : Side) (port : Nat) (p : Packet) (s : State) : Host.Outcome State Fault Refusal :=
  .next (if p.opcode ≠ 0x93 ∨ p.opx.getLsbD 0 = true then s
    else match receiveColl side port p s with
      | (false, s1) => s1
      | (true, s1) =>
        match side with
        | .endpoint => takeResend p s1
        | .module => match contextOf port p s1 with
          | (none, s2) => s2
          | (some n, s2) => if onShadowPort n port s2 then s2 else mrnResend n p s2)

/-- COLL_PROBE (R298): a COLL_RESEND with WANT 1 travels to the root, which answers. -/
def execCollProbe (port : Nat) (p : Packet) (count : Nat) (s : State) : Host.Outcome State Fault Refusal :=
  .next (if p.opcode ≠ 0x93 ∨ p.opx.getLsbD 0 = false then s
    else match receiveColl .module port p s with
      | (false, s1) => s1
      | (true, s1) =>
        match contextOf port p s1 with
        | (none, s2) => s2
        | (some n, s2) =>
          if onShadowPort n port s2 then s2
          else if rootOf n (collChunk p) s2 = .here then rootProbe n count p s2 else sendUp n (collChunk p) p s2)

/-- REFUSAL_BACKOFF (R300): the contribution of a member, or the partial of a module, goes again. At a member `unit` is the
descriptor and `step` is not used; at a module it is the context. -/
def execRefusalBackoff (side : Side) (unit step chunk : Nat) (s : State) : Host.Outcome State Fault Refusal :=
  .next (match side with
    | .endpoint => (match collOf unit chunk s with
      | some (_, k) => if k.backoff then readContribution unit chunk s else s
      | none => s)
    | .module => (match mrnChunk unit step chunk s with
      | some k => if k.backoff then sendPartial k (putChunk { k with backoff := false } s) else s
      | none => s))

/-- PARTIAL_HOLD_EXPIRE (R296). -/
def execPartialHoldExpire (ctx step chunk : Nat) (s : State) : Host.Outcome State Fault Refusal :=
  .next (match mrnChunk ctx step chunk s with
    | some k => if k.phase = .held then freeChunk k s else s
    | none => s)

/-- RESULT_RETAIN_EXPIRE (R297): the copy goes, the record stays. -/
def execResultRetainExpire (ctx step chunk : Nat) (s : State) : Host.Outcome State Fault Refusal :=
  .next (onMrn (fun m => { m with results := m.results.map fun r =>
    if r.ctx = ctx ∧ r.step = step ∧ r.chunk = chunk then { r with payloads := [], dropped := true } else r }) s)

/-- CHUNK_RECORD_EXPIRE (R297): the 64 ms record goes. -/
def execChunkRecordExpire (ctx step chunk : Nat) (s : State) : Host.Outcome State Fault Refusal :=
  .next (onMrn (fun m => { m with results := m.results.filter fun r =>
    !(r.dropped && decide (r.ctx = ctx) && decide (r.step = step) && decide (r.chunk = chunk)) }) s)

/-- RECORD_QUERY (R348): a write of RED.QUERY_CTL. -/
def execRecordQuery (ctx chunk : Nat) (s : State) : Host.Outcome State Fault Refusal :=
  .next (queryRecord ctx chunk s)

end Sys2Proof.Machine
end

