-- ==== Sys2Proof/Machine/Switch.lean ====
section
/-! DEFINITION. The meanings of the switching core's commands (05), and the discard of packets held too long (R193, R286). -/

namespace Sys2Proof.Machine

/-- The module forwards packets: it holds a role (R2). -/
def switching (s : State) : Bool := s.hasRole

/-- Takes a packet from a port's arrivals without freeing its slots; the Bool says that it was among them. -/
def takeArrived (p : Nat) (pkt : Packet) (s : State) : Bool × State :=
  if (s.port .module p).arrived.contains pkt then
    (!creditOnArrival (poolOf pkt.opcode), s.onPort .module p fun ps => { ps with arrived := ps.arrived.erase pkt })
  else (false, s)

/-- PACKET_INGRESS (R145): a packet that arrived on a port of the module. -/
def execPacketIngress (p : Nat) (pkt : Packet) (s : State) : Host.Outcome State Fault Refusal :=
  .next (if switching s && portUp .module p s then
    let r := takeArrived p pkt s
    ingress p pkt r.1 r.2
  else s)

/-- An older packet of the same arrival port and pool waits before entry `i`. -/
def waitsBehind (i : Nat) (w : WaitEntry) (s : State) : Bool :=
  (s.m.sw.waiting.take i).any fun x => decide (x.port = w.port) && decide (poolOf x.pkt.opcode = poolOf w.pkt.opcode)

/-- BUFFER_ROOM_FREED (R163, R166): the i-th packet that waits moves on where there is room now, with push-out as before. -/
def execBufferRoomFreed (i : Nat) (s : State) : Host.Outcome State Fault Refusal :=
  .next (match s.m.sw.waiting[i]? with
    | none => s
    | some w =>
      if waitsBehind i w s then s
      else
        let s1 := s.onM fun m => { m with sw := { m.sw with waiting := m.sw.waiting.eraseIdx i } }
        if w.multicast then enqueueMany w.targets w.pkt w.port w.held s1
        else match w.targets with
          | p :: _ =>
            if portUp .module p s then enqueuePort p w.pkt w.port w.held w.transit w.entering s1
            else routePacket w.pkt w.port w.held s1
          | [] => s1)

/-- RESIDUE_SEND (R165): the i-th entry of a port's residue queue goes once no older packet of its pool waits at the port. -/
def execResidueSend (p i : Nat) (s : State) : Host.Outcome State Fault Refusal :=
  let ps := s.port .module p
  .next (match ps.residue[i]? with
    | none => s
    | some (id, o) =>
      match s.m.sw.store.find? fun e => decide (e.id = id) with
      | none => s.onPort .module p fun ps => { ps with residue := ps.residue.eraseIdx i }
      | some e =>
        let k := poolOf e.pkt.opcode
        if mayStart .module p e.pkt s && !(egressQueue p k s).any (fun x => decide (x.order < o)) && !residueBefore p k o s then
          storeLeft id p (startPacket .module p (sealPacket e.pkt)
            (s.onPort .module p fun ps => { ps with residue := ps.residue.eraseIdx i }))
        else s)

/-- RESEQ_ARRIVE (R169): a packet on its way to a resequencer reaches it. -/
def execReseqArrive (p : Nat) (pkt : Packet) (s : State) : Host.Outcome State Fault Refusal :=
  .next (match s.m.sw.toReseq.find? fun x => decide (x.1 = p) && decide (x.2.2 = pkt) with
    | none => if s.isLeaf && reseqClass pkt then reseqArrive p p pkt s else s
    | some x => reseqArrive p x.2.1 pkt (s.onM fun m => { m with sw := { m.sw with toReseq := m.sw.toReseq.erase x } }))

/-- RESEQ_GAP_TIMEOUT (R170). -/
def execReseqGapTimeout (p : Nat) (src dst : Eid) (stream epoch : BitVec 4) (s : State) : Host.Outcome State Fault Refusal :=
  .next (reseqTimeout p src dst stream epoch s)

/-- NOC.CTL and the router faults settle which NoC planes are in service (R151, R152). -/
def settleNoc (s : State) : State :=
  let on := decide (6 ≤ s.rd .module Fld.glbBringupStatusStep)
  let ok := fun p d => on && !d && !s.m.sw.nocFault.contains p
  (s.wrb .module Fld.nocStatusPlane0Ok 0 (ok 0 (s.rdb .module Fld.nocCtlPlane0Dis))).wrb .module Fld.nocStatusPlane1Ok 0
    (ok 1 (s.rdb .module Fld.nocCtlPlane1Dis))

/-- A NoC plane goes out of service with its event (R151). -/
def nocPlaneOut (plane router : Nat) (s : State) : State :=
  settleNoc (logModule { code := 0x23, severity := 2, block := 3, arg0 := plane, arg1 := router }
    (s.onM fun m => { m with sw := { m.sw with
      nocFault := if m.sw.nocFault.contains plane then m.sw.nocFault else m.sw.nocFault ++ [plane] } }))

/-- A write of both fields of NOC.CTL: one that would leave no plane in service is discarded and recorded (R152). -/
def writeNocCtl (value : Nat) (plane0 plane1 : Bool) (s : State) : State :=
  let off := fun p d => d || s.m.sw.nocFault.contains p
  if off 0 plane0 && off 1 plane1 then
    regAccess .module (regOffset .module .nocCtl 0 0) value s
  else settleNoc ((s.wrb .module Fld.nocCtlPlane0Dis 0 plane0).wrb .module Fld.nocCtlPlane1Dis 0 plane1)

/-- NOC_PLANE_DISABLE (R152). -/
def execNocPlaneDisable (path : Path) (plane0 plane1 : Bool) (s : State) : Host.Outcome State Fault Refusal :=
  let value := b2n plane0 + 2 * b2n plane1
  .next (rwl .module path (regOffset .module .nocCtl 0 0) value (writeNocCtl value plane0 plane1) s)

/-- Counts a packet held too long: TC5 packets in MRN.AGE_CNT (R286), the others in XPT.AGE_DISCARD_CNT (R193). -/
def countAge (pkt : Packet) (s : State) : State :=
  if pkt.tc = 5 then bump .module .mrnAgeCnt 0 s else bump .module .xptAgeDiscardCnt 0 s

/-- The packet is one that ages: sequenced, a response, or of TC5 (R193, R286). -/
def ages (pkt : Packet) : Bool := opSequenced pkt.opcode || opResponse pkt.opcode || decide (pkt.tc = 5)

/-- PACKET_AGE_OUT (R193): the packet, held 100 µs in an egress queue of the port or waiting from it, is discarded. -/
def execPacketAgeOut (p : Nat) (pkt : Packet) (s : State) : Host.Outcome State Fault Refusal :=
  let k := poolOf pkt.opcode
  .next (
    if !ages pkt then s
    else match (egressQueue p k s).find? fun e => decide (e.pkt = pkt) with
      | some e => countAge pkt (s.onPort .module p fun ps => { ps with egress := smapSet ps.egress k ((egressQueue p k s).erase e) })
      | none =>
        match s.m.sw.waiting.find? fun w => decide (w.port = p) && decide (w.pkt = pkt) with
        | some w => countAge pkt (leaveIngress p w.held pkt (s.onM fun m => { m with sw := { m.sw with waiting := m.sw.waiting.erase w } }))
        | none => s)

/-- REORDER_HOLD_EXPIRE (R545 kind 3): the i-th packet that Rattle holds goes on to its port. -/
def execReorderHoldExpire (i : Nat) (s : State) : Host.Outcome State Fault Refusal :=
  .next (match s.m.sw.reordered[i]? with
    | none => s
    | some h => enqueuePort h.port h.pkt h.arrival false false false
        (s.onM fun m => { m with sw := { m.sw with reordered := m.sw.reordered.eraseIdx i } }))

end Sys2Proof.Machine
end

