-- ==== Sys2Proof/Machine/Transport.lean ====
section
/-! DEFINITION. The meanings of the transport's commands (06). -/

namespace Sys2Proof.Machine

/-- The incomplete packet of a space with an XSEQ. -/
def sentPacket (sd : Side) (dst : Eid) (stream : BitVec 4) (x : BitVec 24) (s : State) : Option (SrcOp × Sent) :=
  (inFlight sd dst stream s).find? fun y => decide (y.2.xseq = x)

/-- SEQ_PACKET_SEND (R182): the operation with this number leaves its issue point where it may. -/
def execSeqPacketSend (sd : Side) (id : Nat) (s : State) : Host.Outcome State Fault Refusal :=
  .next (settle sd (match sd with
    | .module => tryIssue .module id s
    | .endpoint => if s.e.accs.any fun a => decide (a.id = id) then stepAcc id s else tryIssue .endpoint id s))

/-- SEQ_PACKET_RECEIVE (R185). TELEMETRY, which has no command of its own, is checked and applied as a DMA_WRITE (R483). -/
def execSeqPacketReceive (sd : Side) (port : Nat) (p : Packet) (s : State) : Host.Outcome State Fault Refusal :=
  .next (if p.opcode = 0xA0 then takeRequest sd port p 0xA0 s
    else if opSequenced p.opcode then settle sd (receiveSeq sd port p s) else s)

/-- ACK_TIMER (R187): deliveries of a space that no acknowledgement has covered are acknowledged. -/
def execAckTimer (sd : Side) (src dst : Eid) (stream : BitVec 4) (s : State) : Host.Outcome State Fault Refusal :=
  .next (if (dstSpace sd src dst stream s).sinceAck = 0 then s else sendAck sd src dst stream s)

/-- A packet of the transport's own (0x7C, 0x7E, 0x7F) reaches its unit; one that fails its check is discarded and counted (R69). -/
def takeControl (sd : Side) (port : Nat) (p : Packet) (op : BitVec 8) (f : State → State) (s : State) : State :=
  if p.opcode = op then
    match accept sd port p s with
    | (none, s1) => s1
    | (some _, s1) => if pchkGood p then settle sd (f s1) else dropBadCheck sd s1
  else s

/-- XPT_ACK (R188). Where it ends a plane's mark for the destination, barriers that wait for that plane run (R198). -/
def execXptAck (sd : Side) (port : Nat) (p : Packet) (s : State) : Host.Outcome State Fault Refusal :=
  .next (takeControl sd port p 0x7E (fun s =>
    if planeSuspect sd p.src p.plane s then runBarriers sd (takeXptAck sd p s) else takeXptAck sd p s) s)

/-- XPT_NACK (R192). -/
def execXptNack (sd : Side) (port : Nat) (p : Packet) (s : State) : Host.Outcome State Fault Refusal :=
  .next (takeControl sd port p 0x7F (takeXptNack sd p) s)

/-- XPT_RESTART (R195). -/
def execXptRestart (sd : Side) (port : Nat) (p : Packet) (s : State) : Host.Outcome State Fault Refusal :=
  .next (takeControl sd port p 0x7C (takeRestart sd p) s)

/-- NACK_RETRY_TIMER (R192): the 2 µs after a RETRY_LATER NACK have passed. -/
def execNackRetryTimer (sd : Side) (dst : Eid) (stream : BitVec 4) (x : BitVec 24) (s : State) : Host.Outcome State Fault Refusal :=
  .next (match sentPacket sd dst stream x s with
    | some (o, t) => if t.retryLater then retransmit sd o t s else s
    | none => s)

/-- Every port of a plane of the endpoint block is down: the plane's chunks end (R307). -/
def endPlaneChunks (sd : Side) (plane : Bool) (s : State) : State :=
  match sd with
  | .endpoint => if (epUpPorts plane s).isEmpty then planeChunksEnd plane s else s
  | .module => s

/-- PLANE_UNUSABLE (R196, R198, R307): the ordered streams of a destination follow a plane that is unusable for it. -/
def execPlaneUnusable (sd : Side) (dst : Eid) (plane : Bool) (s : State) : Host.Outcome State Fault Refusal :=
  .next (if planeUsable sd dst plane s then s
    else settle sd (endPlaneChunks sd plane (((orderedSpaces sd s).filter fun x => decide (x.1 = dst)).foldl (fun s x => settleStream sd x.1 x.2 s) s)))

/-- PLANE_SUSPECT_EXPIRE (R196): the mark of four unacknowledged transmissions ends after 1 ms. -/
def execPlaneSuspectExpire (sd : Side) (dst : Eid) (plane : Bool) (s : State) : Host.Outcome State Fault Refusal :=
  .next (if planeSuspect sd dst plane s then settle sd (settlePlanes sd (clearSuspect sd dst plane s)) else s)

/-- A stream is off its home plane, which is usable for its destination (R199). -/
def mayReturn (sd : Side) (dst : Eid) (stream : BitVec 4) (s : State) : Bool :=
  let sp := srcSpace sd dst stream s
  decide (sd = .endpoint) && decide (stream ≠ 0) && isEndpointEid dst && sp.epoch.getLsbD 0 && sp.restart.isNone && !sp.broken
    && planeUsable sd dst (homePlane (s.myEid sd) dst stream.toNat) s

/-- HOME_PLANE_RETURN (R199): the home plane has been usable for 1 ms, and the stream returns by a planned barrier, at once where
nothing is incomplete. -/
def execHomePlaneReturn (sd : Side) (dst : Eid) (stream : BitVec 4) (s : State) : Host.Outcome State Fault Refusal :=
  .next (if mayReturn sd dst stream s then
      plannedAdvance sd dst stream (onSrcSpace sd dst stream (fun sp => { sp with planned := true }) s)
    else s)

/-- PLANNED_BARRIER_DONE (R198): the last packet of the old epoch is complete. -/
def execPlannedBarrierDone (sd : Side) (dst : Eid) (stream : BitVec 4) (s : State) : Host.Outcome State Fault Refusal :=
  .next (plannedAdvance sd dst stream s)

/-- XPT_PEER_RESET (R183, R212): a write of XPT.PEER_RESET; refused, it is discarded and recorded. -/
def execXptPeerReset (sd : Side) (e : Eid) (s : State) : Host.Outcome State Fault Refusal :=
  .next (writePeerReset sd e s)

end Sys2Proof.Machine
end

