-- ==== Sys2Proof/Machine/FaultCmds.lean ====
section
/-! DEFINITION. Timers and faults that give liveness evidence (16), and the commands of quarantine: their meanings. -/

namespace Sys2Proof.Machine

/-- The module has given up on an operation: evidence against the unit it was for (R524). -/
def gaveUp (dst : Eid) (s : State) : State := match portFacing dst s with
  | some p => evidence p 5 s
  | none => s

/-- RETRANSMIT_TIMER (R189): a retransmission interval of a packet, or of the space's XPT_RESTART, has run out. -/
def execRetransmitTimer (sd : Side) (dst : Eid) (stream : BitVec 4) (x : BitVec 24) (s : State) : Host.Outcome State Fault Refusal :=
  .next (match sentPacket sd dst stream x s with
    | some (o, t) =>
      let s1 := retransmitExpired sd o t s
      let isOver := !((s1.xpt sd).ops.any fun y => decide (y.id = o.id))
      settle sd (if sd = .module ∧ isOver = true then gaveUp dst s1 else s1)
    | none => match (srcSpace sd dst stream s).restart with
      | some r => if r.xseq = x then settle sd (restartExpired sd dst stream r s) else s
      | none => s)

/-- ID_ANNOUNCE_TIMEOUT (R94, R524): no ID_ANNOUNCE for 5 ms on an UP port. -/
def execIdAnnounceTimeout (sd : Side) (p : Nat) (s : State) : Host.Outcome State Fault Refusal :=
  .next (if portUp sd p s then match sd with
      | .module => evidence p 1 (retrainPort .module p s)
      | .endpoint => retrainPort .endpoint p s
    else s)

/-- REPORT_TIMEOUT (R471, R524): a slot with no POWER_REPORT for 100 µs; from 1 ms on it is evidence. -/
def execReportTimeout (slot : Nat) (s : State) : Host.Outcome State Fault Refusal :=
  .next (if s.isLeaf && s.rdb .module Fld.rteSlotValid slot then
      let s1 := s.wrb .module Fld.pwrEpNoReport slot true
      if smapGet s.m.power.reportAt 0 slot + 1000000 ≤ s.now then slotEvidence slot 4 s1 else s1
    else s)

/-- The unanswered snoop of a slot's transaction. -/
def openSnoop (slot : Nat) (tseq : BitVec 24) (line : Nat) (s : State) : Option (HomeTxn × HomeSnoop) :=
  s.m.dir.txns.findSome? fun t => (t.snoops.find? fun x =>
    !x.done && decide (x.slot = slot) && decide (x.pkt.xseq = tseq) && decide (x.pkt.offset.toNat / 64 = line)).map fun x => (t, x)

/-- SNOOP_TIMEOUT (R260): an unanswered snoop, or flush, is sent again; after a second period coherence recovery starts with the slot, and
it is evidence. -/
def execSnoopTimeout (slot : Nat) (tseq : BitVec 24) (line : Nat) (s : State) : Host.Outcome State Fault Refusal :=
  let second := fun (s : State) => slotEvidence slot 2 (leafRecovery slot s)
  .next (match openSnoop slot tseq line s with
    | some (t, x) =>
      if x.sent < 2 then
        let p := if x.broadcast then sealPacket { x.pkt with dst := slotEid slot s } else x.pkt
        let hit := fun (y : HomeSnoop) => if y = x then { y with sent := y.sent + 1 } else y
        sendOwn p (putTxn { t with snoops := t.snoops.map hit } (bump .module .dirSnpTimeoutCnt 0 s))
      else second s
    | none => match s.m.dir.flush with
      | some f =>
        if f.tseq = tseq ∧ f.waiting.contains slot = true then
          if f.again.contains slot then second s
          else
            let p := match f.oneSet with
              | some (t, k) => flushPacket (slotEid slot s) f.tseq f.tiles t k false s
              | none => flushPacket (slotEid slot s) f.tseq f.tiles 0 0 true s
            sendOwn p (onDir (fun d => { d with flush := some { f with again := f.again ++ [slot] } }) (bump .module .dirSnpTimeoutCnt 0 s))
        else s
      | none => s)

/-- RECOVER_TIMEOUT (R263): RECOVER_DONE has not arrived. -/
def execRecoverTimeout (slot : Nat) (s : State) : Host.Outcome State Fault Refusal :=
  .next (if s.m.dir.recovery.any fun r => decide (r.slot = slot) then slotEvidence slot 3 s else s)

/-- CHUNK_TIMEOUT (R302, R524, R536): a restart, or after MAX_RESTARTS a step-scope abort naming the lowest child that is missing. A chunk
that shadows another is dropped. -/
def execChunkTimeout (ctx step chunk : Nat) (s : State) : Host.Outcome State Fault Refusal :=
  .next (match mrnChunk ctx step chunk s with
    | none => s
    | some k =>
      if k.phase ≠ .isOpen then s
      else if shadowSide ctx s then freeChunk k s
      else if k.restarts < k.maxRestarts then restartChunk k false s
      else
        let port := (missingChild k s).getD 0
        let s1 := abortChunk k (if k.badCheck then stCheckFail else stTimeout) true (childEid port s) (childMember ctx port s) s
        if k.badCheck then s1 else evidence port 6 s1)
where
  shadowSide (n : Nat) (s : State) : Bool := (List.range 16).any fun e =>
    s.rdb .module Fld.fltShadowValid e && !s.rdb .module Fld.fltShadowKind e && s.rdb .module Fld.fltShadowSide e
      && decide (s.rd .module Fld.fltShadowCtx e = n)

/-- A bit's condition still holds, as far as the state shows it: a port with no ACTIVE lane (R524). -/
def evidenceHolds (p bit : Nat) (s : State) : Bool := decide (bit = 0) && decide (activeMask .module p s = 0)

/-- EVIDENCE_CLEAR (R524): the condition has been absent for 100 ms. -/
def execEvidenceClear (port bit : Nat) (s : State) : Host.Outcome State Fault Refusal :=
  .next (if evidenceHolds port bit s then s else s.wr .module Fld.fltLiveEvidence port (clearBit (s.rd .module Fld.fltLiveEvidence port) bit))

/-- QUARANTINE_TIMER (R525, R533): LINK_DOWN has held for QUAR_MS; a tray that went down at once is quarantined whole. -/
def execQuarantineTimer (port : Nat) (s : State) : Host.Outcome State Fault Refusal :=
  .next (if (s.rd .module Fld.fltLiveEvidence port).testBit 0 && evidenceHolds port 0 s then
      match downTrayOf port s with
      | some t => onLive (fun l => { l with trays := l.trays.filter (· ≠ t) })
          (((traySlots t s).filter fun k => s.rdb .module Fld.rteSlotValid k).foldl (fun s k => quarantine (slotPort s k) s) s)
      | none => quarantine port s
    else s)

/-- TRAY_DOWN (R533): the ports of every slot of one tray have left UP within 2 ms of one another. -/
def execTrayDown (tray : Nat) (s : State) : Host.Outcome State Fault Refusal :=
  .next (if s.isLeaf && trayDown tray s && !s.m.live.trays.contains tray then
      let mask := ((traySlots tray s).filter fun k => decide (k < 64)).foldl (fun m k => setBit m k) 0
      logModule { code := 0x45, severity := 2, block := 20, arg0 := tray, arg1 := mask } (onLive (fun l => { l with trays := l.trays ++ [tray] }) s)
    else s)

/-- NOC_ROUTER_FAULT (R151, R540): the loss of both NoC planes is fatal. -/
def execNocRouterFault (plane router : Nat) (s : State) : Host.Outcome State Fault Refusal :=
  let s1 := nocPlaneOut plane router s
  .next (if s1.m.sw.nocFault.contains 0 && s1.m.sw.nocFault.contains 1 && !(s.m.sw.nocFault.contains 0 && s.m.sw.nocFault.contains 1) then
      fatalFault Config.nocStructure.1 Config.nocStructure.2 s1
    else s1)

/-- INTERNAL_FATAL (R540): an uncorrectable error in a structure that carries no recovery rule. -/
def execInternalFatal (structure' detail : Nat) (s : State) : Host.Outcome State Fault Refusal := .next (fatalFault structure' detail s)

end Sys2Proof.Machine
end

