-- ==== Sys2Proof/Machine/Links.lean ====
section
/-! DEFINITION. The meanings of the link-layer commands (04). A CTRL flit is accepted by FLIT_RECEIVE; its message is the
effect of the message's own command (notes/assumptions/10.md). -/

namespace Sys2Proof.Machine

/-! ## Flits (R114 to R126) -/

/-- A DATA flit is accepted: its slots join the slot stream and the whole packets in it arrive; a TYPE below 15 ends the
stream (R118). A packet that no credit covers takes the port down (R139). -/
def acceptData (sd : Side) (p : Nat) (f : Flit) (s : State) : State :=
  let ps := s.port sd p
  let r := takePackets 16 (ps.rxStream ++ f.slots.take (16 * f.type.toNat))
  let ps1 := { ps with rxAck := f.seq, rxStream := if f.type.toNat < 15 then [] else r.2 }
  match admitPackets r.1 ps1 with
  | (true, ps2) => s.onPort sd p fun _ => ps2
  | (false, ps2) => portDown sd p 3 (s.onPort sd p fun _ => ps2)

/-- A CTRL flit is accepted and acknowledged; a reserved CODE is recorded (R130, R139). -/
def acceptCtrl (sd : Side) (p : Nat) (f : Flit) (s : State) : State :=
  let code := (f.slots.getD 0 0).toNat
  let s1 := s.onPort sd p fun ps => { ps with rxAck := f.seq }
  if 1 ≤ code ∧ code ≤ 5 then s1
  else logEvent sd { code := 0x21, severity := 1, block := 5, arg0 := p, arg1 := leNat (f.slots.take 8) } s1

/-- A good RETRY_REQ (R121): a RESYNC group from its ACK plus one, and the replay. -/
def takeRetryReq (sd : Side) (p : Nat) (f : Flit) (s : State) : State :=
  match takeLinkFields sd p f s with
  | (false, s1) => s1
  | (true, s1) => replayOrLimit sd p (f.ack + 1) s1

/-- A good RESYNC (R131): acceptance resumes, and the mask of its slot 0 byte 0 takes effect. Where the mask changes, or this
end has a resync due, it answers with its own group and replays (R133, R134). -/
def takeResync (sd : Side) (p : Nat) (f : Flit) (s : State) : State :=
  match takeLinkFields sd p f s with
  | (false, s1) => s1
  | (true, s1) =>
    let mask := (f.slots.getD 0 0).toNat
    let s2 := resumeAt sd p f.seq s1
    let due := decide (mask ≠ activeMask sd p s2) || (s2.port sd p).resyncDue
    if mask = 0 then s2
    else if portSt sd p s2 = 1 then s2.wr sd Fld.prtStatusActiveMask p mask
    else if due then
      let s3 := (settleState sd p (s2.wr sd Fld.prtStatusActiveMask p mask)).onPort sd p fun ps => { ps with resyncDue := false }
      replay sd p (oldestSeq (s3.port sd p)) s3
    else settleState sd p s2

/-- A flit on a lane of the active mask of a port that is not DOWN. -/
def flitHeard (sd : Side) (p lane : Nat) (s : State) : Bool :=
  decide (portSt sd p s ≠ 0) && decide (p ≤ lane) && (activeMask sd p s).testBit (lane - p)

/-- FLIT_RECEIVE (R114, R116, R119, R120, R139). -/
def execFlitReceive (sd : Side) (p lane : Nat) (f : Flit) (uncorrectable : Bool) (corrected : Nat) (s : State) :
    Host.Outcome State Fault Refusal :=
  .next (
    if !flitHeard sd p lane s then s
    else
      let s0 := bumpBy sd .prtFecCorr p corrected s
      let s1 := if uncorrectable then bump sd .prtFecUncorr p s0 else s0
      let ps := s1.port sd p
      if isReplayed ps f && !ps.discarding && decide (f.crc = crc64 (flitCrcBytes f)) && !uncorrectable then
        s1.onPort sd p fun ps => { ps with skip := ps.skip - 1 }
      else if flitFails ps f uncorrectable then failFlit sd p lane s1
      else if f.type = 0x31 then takeResync sd p f s1
      else if ps.discarding then s1
      else if f.type = 0x30 then takeRetryReq sd p f s1
      else match takeLinkFields sd p f s1 with
        | (false, s2) => s2
        | (true, s2) =>
          if f.type = 0 then s2 else if f.type = 0x20 then acceptCtrl sd p f s2 else acceptData sd p f s2)

/-- RETRY_REQ (R121): its flit must be good and of that type. -/
def execRetryReq (sd : Side) (p lane : Nat) (f : Flit) (s : State) : Host.Outcome State Fault Refusal :=
  .next (if !flitHeard sd p lane s || decide (f.type ≠ 0x30) then s
    else if flitFails (s.port sd p) f false then failFlit sd p lane s
    else if (s.port sd p).discarding then s
    else takeRetryReq sd p f s)

/-- RESYNC (R131). -/
def execResync (sd : Side) (p lane : Nat) (f : Flit) (s : State) : Host.Outcome State Fault Refusal :=
  .next (if !flitHeard sd p lane s || decide (f.type ≠ 0x31) then s
    else if flitFails (s.port sd p) f false then failFlit sd p lane s
    else takeResync sd p f s)

/-- RETRY_REQ_TIMER (R120): another RETRY_REQ while no RESYNC has arrived. -/
def execRetryReqTimer (sd : Side) (p : Nat) (s : State) : Host.Outcome State Fault Refusal :=
  .next (if decide (portSt sd p s ≠ 0) && (s.port sd p).discarding then sendFlit sd p 0x30 (s.port sd p).txSeq [] s else s)

/-- REPLAY_TIMEOUT (R121): a replay from the oldest unacknowledged flit. -/
def execReplayTimeout (sd : Side) (p : Nat) (s : State) : Host.Outcome State Fault Refusal :=
  .next (if portSt sd p s ≠ 0 ∧ (s.port sd p).retry ≠ [] then replayOrLimit sd p (oldestSeq (s.port sd p)) s else s)

/-! ## Ports (R122, R127, R132 to R136) -/

/-- PEER_PORT_DOWN (R122): the far end has taken the port down. -/
def execPeerPortDown (sd : Side) (p : Nat) (s : State) : Host.Outcome State Fault Refusal :=
  .next (if portUp sd p s then portDown sd p 5 s else s)

/-- The software's port-down (R141). -/
def downCommand (sd : Side) (p : Nat) (s : State) : State := if portSt sd p s = 0 then s else portDown sd p 4 s

/-- PORT_DOWN_CMD (R141): a window of no port discards the write and records it (R140). -/
def execPortDownCmd (sd : Side) (_path : Path) (p : Nat) (s : State) : Host.Outcome State Fault Refusal :=
  .next (if portWidth sd p s = 0 then regAccess sd (regOffset sd .prtCtl p 0) 2 s else downCommand sd p s)

/-- Both ends' MAJOR versions are 1 or 2 (R136). -/
def majorOk (v : BitVec 64) : Bool := decide (1 ≤ v.toNat / 16 % 16) && decide (v.toNat / 16 % 16 ≤ 2)

/-- The lanes of a port's configured set that are in HANDOVER. -/
def readyLanes (sd : Side) (p : Nat) (s : State) : List Nat :=
  ((List.range (portWidth sd p s)).map (p + ·)).filter fun n => decide (laneSt sd n s = 7)

/-- The port forms on some lanes with the far end's version `v` (R113, R127, R132, R136, R143, R161). -/
def formPort (sd : Side) (p : Nat) (lanes : List Nat) (v : BitVec 64) (s : State) : State :=
  let w := portWidth sd p s
  let g := myGrants sd p w s
  let mask := (lanes.map fun n => 2 ^ (n - p)).sum
  let s1 := match sd with
    | .module => s
    | .endpoint =>
      let b := p / 8 * 8
      s.onUnit .endpoint fun u => { u with
        bundle := (u.bundle.filter fun (x : Nat × Nat) => decide (x.1 / 8 * 8 ≠ b)) ++ planeBundle s p }
  let s2 := (((s1.wr sd Fld.prtStatusState p 1).wr sd Fld.prtStatusActiveMask p mask).wrb sd Fld.prtStatusVerFail p false).wr
    sd Fld.prtVersionNegMajor p (min 2 (v.toNat / 16 % 16))
  let s3 := s2.wr sd Fld.prtVersionNegMinor p (if v.toNat / 16 % 16 < 2 then v.toNat % 16 else 0)
  let s4 := s3.onPort sd p fun ps => freshPort ps w g (myReserves sd p w s) v
  let s5 := s4.wrb sd Fld.prtStatusIlOn p (inForce sd p 8 s4)
  sendCtrl sd p 1 0 (grantBytes g) (resyncGroup sd p 0 s5)

/-- The lane group has room for a port of the module (R162). -/
def formFits (sd : Side) (p : Nat) (s : State) : Bool :=
  match sd with
  | .module =>
    let w := portWidth .module p s
    decide ((myGrants .module p w s).sum + (myReserves .module p w s).sum + groupCommitted (p / 8) p s ≤ groupSlots (p / 8) s)
  | .endpoint => true

/-- PORT_FORM (R132, R136, R162): at least MIN_WIDTH lanes in HANDOVER with one VERSION; lanes of another are left out, and
an unsupported MAJOR keeps the lanes from passing HANDOVER. -/
def execPortForm (sd : Side) (p : Nat) (s : State) : Host.Outcome State Fault Refusal :=
  .next (
    if portSt sd p s ≠ 0 ∨ portWidth sd p s = 0 then s
    else
      match readyLanes sd p s with
      | [] => s
      | n :: l =>
        let v := (s.lane sd n).farVersion
        let same := (n :: l).filter fun k => decide ((s.lane sd k).farVersion = v)
        if !majorOk v then s.wrb sd Fld.prtStatusVerFail p true
        else if same.length < max 1 (s.rd sd Fld.prtCtlMinWidth p) then s
        else if !formFits sd p s then
          logEvent sd { code := 0x14, severity := 2, block := 5, status := stResource.toNat, arg0 := p, arg1 := stResource.toNat } s
        else formPort sd p same v (s.wrb sd Fld.prtStatusVerMismatch p (decide (same.length ≠ l.length + 1))))

/-- CREDIT_INIT (R132): the far end's grants; the port becomes UP once its own has been acknowledged as well. -/
def execCreditInit (sd : Side) (p : Nat) (grants : List Nat) (s : State) : Host.Outcome State Fault Refusal :=
  .next (if portSt sd p s = 1 ∧ (s.port sd p).initReceived = false then
    let g := (List.range 11).map fun k => grants.getD k 0 % 4096
    portComesUp sd p (s.onPort sd p fun ps => { ps with farGrant := g, credits := g, initReceived := true })
  else s)

/-- LANE_FAULT (R107, R133): the lane leaves its port and retrains, on a spare slice where its own has failed. -/
def execLaneFault (sd : Side) (n : Nat) (slice : Bool) (s : State) : Host.Outcome State Fault Refusal :=
  .next (if !laneInPort sd n s then s
    else if slice && (freeSlice sd n s).isSome then spareLane sd n s
    else leaveAndRetrain sd n false s)

/-- Lanes are taken out of the mask, a RESYNC group is sent on what remains, and the replay follows (R133, R135). -/
def shrinkMask (sd : Side) (p : Nat) (mask : Nat) (s : State) : State :=
  let lanes := maskLanes p (activeMask sd p s &&& mask)
  let s1 := lanes.foldl (fun s n => dropLane sd p n false s) s
  let s2 := replay sd p (oldestSeq (s1.port sd p)) s1
  settleState sd p s2

/-- LANE_DROP (R133, R139): the lanes the far end no longer receives; they retrain. -/
def execLaneDrop (sd : Side) (p : Nat) (mask : BitVec 8) (s : State) : Host.Outcome State Fault Refusal :=
  let hit := activeMask sd p s &&& mask.toNat
  let s0 := s.onPort sd p fun ps => { ps with addFar := ps.addFar &&& ~~~mask, addMine := ps.addMine &&& ~~~mask }
  .next (
    if !portUp sd p s then s
    else if hit = 0 then s0
    else if popcount 8 (activeMask sd p s) - popcount 8 hit < max 1 (s.rd sd Fld.prtCtlMinWidth p) then portDown sd p 2 s0
    else (maskLanes p hit).foldl (fun s n => enterDetect sd n false s) (shrinkMask sd p hit s0))

/-- This end sends the first RESYNC group of an up-configure: the lower EID, or between equal EIDs the lower lane number
(R134). -/
def leadsAdd (sd : Side) (p : Nat) (s : State) : Bool :=
  let f := farId sd p s
  decide ((s.myEid sd).toNat < f.1.toNat) || (decide (s.myEid sd = f.1) && decide (p < f.2))

/-- The lanes that both ends have offered join, where this end leads (R134). -/
def tryAdd (sd : Side) (p : Nat) (s : State) : State :=
  let ps := s.port sd p
  let both := (ps.addMine &&& ps.addFar).toNat
  if both ≠ 0 ∧ leadsAdd sd p s = true then
    let s1 := (s.wr sd Fld.prtStatusActiveMask p (activeMask sd p s ||| both)).onPort sd p fun ps =>
      { ps with addMine := 0, addFar := 0 }
    settleState sd p (replay sd p (oldestSeq ps) s1)
  else s

/-- LANE_ADD (R134). -/
def execLaneAdd (sd : Side) (p : Nat) (mask : BitVec 8) (s : State) : Host.Outcome State Fault Refusal :=
  .next (if portUp sd p s then tryAdd sd p (s.onPort sd p fun ps => { ps with addFar := ps.addFar ||| mask }) else s)

/-- UPCONFIG_LANE_READY (R132, R134): a lane of another VERSION is left out. -/
def execUpconfigLaneReady (sd : Side) (n : Nat) (s : State) : Host.Outcome State Fault Refusal :=
  .next (match portOf sd n s with
    | none => s
    | some p =>
      if !portUp sd p s || decide (laneSt sd n s ≠ 7) || (activeMask sd p s).testBit (n - p) || !s.rdb sd Fld.prtCtlUpconfigEn p then s
      else if (s.lane sd n).farVersion ≠ (s.port sd p).farOffer then s.wrb sd Fld.prtStatusVerMismatch p true
      else tryAdd sd p ((sendCtrl sd p 3 (2 ^ (n - p)) [] s).onPort sd p fun ps =>
        { ps with addMine := ps.addMine ||| (1#8 <<< (n - p)) }))

/-- A released lane enters SLEEP or OFF (R104, R135). -/
def settleReleased (sd : Side) (n toward : Nat) (s : State) : State := if toward = 2 then enterOff sd n s else enterSleep sd n s

/-- LANE_RELEASE (R135, R139): answered with RELEASE_ACK for the lanes that remain in the mask, or refused below MIN_WIDTH.
This end's lanes go to the state its own software or power loop wants, SLEEP where it wants none. -/
def execLaneRelease (sd : Side) (p : Nat) (mask : BitVec 8) (s : State) : Host.Outcome State Fault Refusal :=
  let hit := activeMask sd p s &&& mask.toNat
  .next (
    if !portUp sd p s || decide (hit = 0)
      || decide (popcount 8 (activeMask sd p s) - popcount 8 hit < max 1 (s.rd sd Fld.prtCtlMinWidth p)) then s
    else
      let s1 := shrinkMask sd p hit (sendCtrl sd p 5 hit [] s)
      (maskLanes p hit).foldl (fun s n =>
        settleReleased sd n (max (s.rd sd Fld.lnkCtlPower n) (s.lane sd n).powerHold) s) s1)

/-- RELEASE_ACK (R135, R139): the lanes this end asked for, as far as they are still in the mask, leave it and sleep or
power off. -/
def execReleaseAck (sd : Side) (p : Nat) (mask : BitVec 8) (s : State) : Host.Outcome State Fault Refusal :=
  let hit := activeMask sd p s &&& mask.toNat &&& (s.port sd p).releasing.toNat
  .next (
    if !portUp sd p s || decide (hit = 0) then s
    else
      let s1 := (shrinkMask sd p hit s).onPort sd p fun ps => { ps with releasing := ps.releasing &&& ~~~mask }
      (maskLanes p hit).foldl (fun s n => settleReleased sd n (s.lane sd n).releaseTo s) s1)

/-- PACKET_TRANSMIT (R118, R123, R125, R138, R175): the packet whose turn it is in a pool starts, once its credits cover every
slot; an entering packet on a ring port needs the bubble as well. -/
def execPacketTransmit (sd : Side) (p pool : Nat) (s : State) : Host.Outcome State Fault Refusal :=
  let q := smapGet (s.port sd p).egress [] pool
  .next (match nextEntry q with
    | none => s
    | some e =>
      let bubble := !e.entering || decide (bubbleCredits pool ≤ (s.port sd p).credits.getD pool 0)
      if mayStart sd p e.pkt s && bubble && !(match sd with
          | .module => residueBefore p pool e.order s
          | .endpoint => false) then
        startPacket sd p e.pkt (s.onPort sd p fun ps => { ps with egress := smapSet ps.egress pool (q.erase e) })
      else s)

end Sys2Proof.Machine
end

