-- ==== Sys2Proof/Machine/MemCmds.lean ====
section
/-! DEFINITION. The meanings of the commands of the memory operations (07): requests at their destination, responses at their
source, and their timers. -/

namespace Sys2Proof.Machine

/-- LOAD (R222). -/
def execLoad (sd : Side) (port : Nat) (p : Packet) (s : State) : Host.Outcome State Fault Refusal := .next (takeRequest sd port p 0x60 s)

/-- LOAD_ACQ (R222). -/
def execLoadAcq (sd : Side) (port : Nat) (p : Packet) (s : State) : Host.Outcome State Fault Refusal := .next (takeRequest sd port p 0x61 s)

/-- STORE (R222). -/
def execStore (sd : Side) (port : Nat) (p : Packet) (s : State) : Host.Outcome State Fault Refusal := .next (takeRequest sd port p 0x62 s)

/-- STORE_FLAG (R222). -/
def execStoreFlag (sd : Side) (port : Nat) (p : Packet) (s : State) : Host.Outcome State Fault Refusal := .next (takeRequest sd port p 0x63 s)

/-- ATOMIC_INT (R232). -/
def execAtomicInt (sd : Side) (port : Nat) (p : Packet) (s : State) : Host.Outcome State Fault Refusal := .next (takeRequest sd port p 0x64 s)

/-- ATOMIC_FP (R232). -/
def execAtomicFp (sd : Side) (port : Nat) (p : Packet) (s : State) : Host.Outcome State Fault Refusal := .next (takeRequest sd port p 0x65 s)

/-- REDUCE_STORE (R368). -/
def execReduceStore (sd : Side) (port : Nat) (p : Packet) (s : State) : Host.Outcome State Fault Refusal := .next (takeRequest sd port p 0x66 s)

/-- DMA_WRITE (R226). -/
def execDmaWrite (sd : Side) (port : Nat) (p : Packet) (s : State) : Host.Outcome State Fault Refusal := .next (takeRequest sd port p 0x80 s)

/-- DMA_READ_REQ (R222). -/
def execDmaReadReq (sd : Side) (port : Nat) (p : Packet) (s : State) : Host.Outcome State Fault Refusal := .next (takeRequest sd port p 0x81 s)

/-- A response reaches its source; the check code is part of taking it (R69, R188). -/
def receiveResponse (sd : Side) (port : Nat) (p : Packet) (op : BitVec 8) (s : State) : State :=
  if p.opcode = op then
    match accept sd port p s with
    | (none, s1) => s1
    | (some _, s1) => settle sd (takeResponse sd p s1)
  else s

/-- LOAD_DATA (R237). -/
def execLoadData (sd : Side) (port : Nat) (p : Packet) (s : State) : Host.Outcome State Fault Refusal := .next (receiveResponse sd port p 0x70 s)

/-- STORE_ACK (R225). -/
def execStoreAck (sd : Side) (port : Nat) (p : Packet) (s : State) : Host.Outcome State Fault Refusal := .next (receiveResponse sd port p 0x71 s)

/-- ATOMIC_RESULT (R217). -/
def execAtomicResult (sd : Side) (port : Nat) (p : Packet) (s : State) : Host.Outcome State Fault Refusal :=
  .next (receiveResponse sd port p 0x72 s)

/-- REDUCE_ACK (R188). -/
def execReduceAck (sd : Side) (port : Nat) (p : Packet) (s : State) : Host.Outcome State Fault Refusal := .next (receiveResponse sd port p 0x73 s)

/-- DMA_READ_DATA (R188). -/
def execDmaReadData (sd : Side) (port : Nat) (p : Packet) (s : State) : Host.Outcome State Fault Refusal := .next (receiveResponse sd port p 0x82 s)

/-- LOAD_TIMEOUT (R228): T_L has passed since a load's first transmission; the load is counted (R240). -/
def execLoadTimeout (sd : Side) (tag : Nat) (s : State) : Host.Outcome State Fault Refusal :=
  .next (match (s.xpt sd).ops.findSome? fun o => match o.sent with
      | some t => if t.tag = tag ∧ (o.pkt.opcode = 0x60 ∨ o.pkt.opcode = 0x61) then some (o, t) else none
      | none => none with
    | some (o, t) => settle sd (giveUp sd (if (s.unit sd).dead.contains o.pkt.dst then stTargetDead else stTimeout) o t
        (bump sd .memLoadTimeoutCnt 0 s))
    | none => s)

/-- REPLAY_ENTRY_EXPIRE (R233): 8 ms after an entry was written it is freed. -/
def execReplayEntryExpire (sd : Side) (src : Eid) (stream : BitVec 4) (x : BitVec 24) (s : State) : Host.Outcome State Fault Refusal :=
  .next (s.onXpt sd fun t => { t with replay := t.replay.filter fun r =>
    !(decide (r.src = src) && decide (r.stream = stream) && decide (r.xseq = x) && r.status.isSome) })

/-- RM_LINE_EXPIRE (R237): a read-mostly line is dropped RM_MAX_AGE after its fill. -/
def execRmLineExpire (gfa : Nat) (s : State) : Host.Outcome State Fault Refusal :=
  .next (match cached (gfaLine gfa) s with
    | some c => if c.readMostly then dropLine c.line s else s
    | none => s)

end Sys2Proof.Machine
end

