-- ==== Sys2Proof/Machine/MgmtCmds.lean ====
section
/-! DEFINITION. Management requests (R490 to R517): tokens, flash, credentials, key slots, debug and the mailbox. -/

namespace Sys2Proof.Machine

/-- TOKEN_ACQUIRE (R514). -/
def execTokenAcquire (session group : Nat) (s : State) : Host.Outcome State Fault Refusal :=
  .next (withRole .module session roleManage false (fun _ s => answered .module session (acquireToken group session s)) s)

/-- TOKEN_RENEW (R514). -/
def execTokenRenew (session group : Nat) (s : State) : Host.Outcome State Fault Refusal :=
  .next (withRole .module session roleManage false (fun _ s => answered .module session
    (if tokenOwner group s = some session then (stOk, grantToken group session s) else (stAccessDenied, s))) s)

/-- TOKEN_RELEASE (R514). -/
def execTokenRelease (session group : Nat) (s : State) : Host.Outcome State Fault Refusal :=
  .next (withRole .module session roleManage false (fun _ s => answered .module session
    (if tokenOwner group s = some session then (stOk, dropToken group s) else (stAccessDenied, s))) s)

/-- TOKEN_EXPIRED (R514): the lease has run out. -/
def execTokenExpired (group : Nat) (s : State) : Host.Outcome State Fault Refusal :=
  .next (if (tokenOwner group s).isSome then dropToken group (logModule { code := 0xA1, severity := 1, block := 19, arg0 := group } s) else s)

/-- FLASH_WRITE (R490, R513): image A, or image B. -/
def execFlashWrite (session : Nat) (b : Bool) (image : List Byte) (s : State) : Host.Outcome State Fault Refusal :=
  .next (withRole .module session roleAdmin true (fun _ s => answered .module session
    (stOk, onSec (fun x => { x with flash := smapSet x.flash (b2n b) image }) s)) s)

/-- CRED_SET (R513). -/
def execCredSet (session slot roles : Nat) (key : List Byte) (s : State) : Host.Outcome State Fault Refusal :=
  .next (withRole .module session roleAdmin false (fun _ s => answered .module session
    (if slot < 16 then (stOk, setCred slot roles key s) else (stAccessDenied, s))) s)

/-- SIGNER_SET (R492). -/
def execSignerSet (session slot : Nat) (key : List Byte) (revoke : Bool) (s : State) : Host.Outcome State Fault Refusal :=
  .next (withRole .module session roleAdmin false (fun _ s => answered .module session (signerSet slot key revoke s)) s)

/-- ROLLBACK_RAISE (R492). -/
def execRollbackRaise (session bootVersion imageVersion : Nat) (s : State) : Host.Outcome State Fault Refusal :=
  .next (withRole .module session roleAdmin false (fun _ s => answered .module session (rollbackRaise bootVersion imageVersion s)) s)

/-- KEY_LOAD (R496, R513): inside a secured session; it needs no role. -/
def execKeyLoad (sd : Side) (session slot epoch cls : Nat) (engineOk progOk : Bool) (wrapped : List Byte) (s : State) :
    Host.Outcome State Fault Refusal :=
  .next (match established sd session s with
    | some x => if inRecovery sd s then denied sd session s
      else answered sd session (keyLoad sd slot epoch cls engineOk progOk x.key x.secret wrapped s)
    | none => denied sd session s)

/-- PREV_KEY_EXPIRE (R496): 10 ms after a rekey. -/
def execPrevKeyExpire (sd : Side) (slot : Nat) (s : State) : Host.Outcome State Fault Refusal :=
  .next (if (slotAll sd slot s).prev.isEmpty then s else setSlot sd slot { slotAll sd slot s with prev := [] } s)

/-- ACTIVATE_ORD (R498): the endpoint block's request. -/
def execActivateOrd (session slot epoch : Nat) (s : State) : Host.Outcome State Fault Refusal :=
  .next (if slot = 0 then respond .endpoint (some session) (.vendor stAccessDenied []) s
    else withRole .endpoint session roleManage false (fun _ s => answered .endpoint session (activateOrd .endpoint slot epoch s)) s)

/-- SLOT_CMD_ACTIVATE_ORD (R498): SEC.SLOT_CMD with OP 0x2; the result shows in SEC.RETIRE_STATUS. -/
def execSlotCmdActivateOrd (slot epoch : Nat) (s : State) : Host.Outcome State Fault Refusal :=
  let r := activateOrd .module slot epoch s
  .next (retireStatus slot r.1 r.2)

/-- SLOT_RETIRE (R509): the endpoint block's request. -/
def execSlotRetire (session slot epoch : Nat) (s : State) : Host.Outcome State Fault Refusal :=
  .next (withRole .endpoint session roleManage false (fun _ s => answered .endpoint session (retireSlot .endpoint slot epoch s)) s)

/-- SLOT_CMD_RETIRE (R509): SEC.SLOT_CMD with OP 0x1. -/
def execSlotCmdRetire (slot epoch : Nat) (s : State) : Host.Outcome State Fault Refusal :=
  let r := retireSlot .module slot epoch s
  .next (retireStatus slot r.1 r.2)

/-- DRAIN_EXPIRE (R509 step 3): DRAIN_US have passed since a slot began to retire. -/
def execDrainExpire (sd : Side) (slot : Nat) (s : State) : Host.Outcome State Fault Refusal :=
  .next (if slotState sd slot s = 2 then zeroizeSlot sd slot s else s)

/-- TENANT_RETIRED (R509 steps 4 and 5): the scrub has ended. -/
def execTenantRetired (sd : Side) (slot : Nat) (s : State) : Host.Outcome State Fault Refusal :=
  .next (if slotState sd slot s = 3 then emptySlot sd slot s else s)

/-- WATCHDOG_EXPIRE (R517): 1,000 ms without service. -/
def execWatchdogExpire (s : State) : Host.Outcome State Fault Refusal := .next (restartPuppeteer 5 (bump .module .mgtWdogCnt 0 s))

/-- A write of MGT.DOORBELL (R520). -/
def writeDoorbell (length : Nat) (s : State) : State :=
  if s.rdb .module Fld.mgtStatusBusy || decide (length = 0) || decide (4096 < length) then
    regAccess .module (regOffset .module .mgtDoorbell 0 0) length s
  else s.wrb .module Fld.mgtStatusBusy 0 true

/-- MGT_DOORBELL (R520). -/
def execMgtDoorbell (length : Nat) (s : State) : Host.Outcome State Fault Refusal := .next (writeDoorbell length s)

/-- MGT_RESPONSE (R520): the answer to the mailbox request, as SPDM spells it. -/
def execMgtResponse (data : List Byte) (s : State) : Host.Outcome State Fault Refusal :=
  .next (if s.rdb .module Fld.mgtStatusBusy then
      let s1 := onSec (fun x => { x with response := data.take 4096 }) s
      let s2 := (s1.wr .module Fld.mgtRspLenLength 0 (data.take 4096).length).wrb .module Fld.mgtStatusBusy 0 false
      raiseSource 74 (s2.wrb .module Fld.mgtStatusRspReady 0 true)
    else s)

/-- RSP_LEN_READ (R520): the read clears RSP_READY. -/
def execRspLenRead (s : State) : Host.Outcome State Fault Refusal :=
  .next ((s.emit .module (.hostCompletion (leBytes 8 (s.word .module .mgtRspLen 0 0).toNat))).wrb .module Fld.mgtStatusRspReady 0 false)

/-- I3C_ADMIN_INSTALL (R513): while no slot holds ADMIN. -/
def execI3cAdminInstall (slot : Nat) (key : List Byte) (s : State) : Host.Outcome State Fault Refusal :=
  .next (if decide (slot < 16) && !(List.range 16).any fun c => s.rdb .module Fld.secCredValid c && (s.rd .module Fld.secCredRoles c).testBit roleAdmin then
      setCred slot (2 ^ roleAdmin) key s
    else s)

/-- TEST_ARM (R515). -/
def execTestArm (session : Nat) (on : Bool) (s : State) : Host.Outcome State Fault Refusal :=
  .next (withRole .module session roleTest false (fun _ s => answered .module session (stOk, s.wrb .module Fld.secStatusTestArmed 0 on)) s)

/-- Every key slot and the device memory key are zeroized (R507): a keyed slot becomes EMPTY with its epoch kept. -/
def zeroizeAll (s : State) : State :=
  let s1 := ((List.range 8192).filter fun k => decide (slotClass .module k s ≠ 0)).foldl (fun s k =>
    setSlot .module k { epoch := slotEpoch .module k s, epochOpen := false } s) s
  onSec (fun x => { x with deviceKey := x.deviceKey + 1 }) s1

/-- DEBUG_ACCESS_OPEN (R507). -/
def execDebugAccessOpen (session : Nat) (s : State) : Host.Outcome State Fault Refusal :=
  .next (withRole .module session roleTest false (fun _ s => answered .module session
    (stOk, (zeroizeAll s).wrb .module Fld.secStatusDebugOn 0 true)) s)

/-- FULL_RES_SET (R508): set only while no slot holds W-class keys. -/
def execFullResSet (session : Nat) (on : Bool) (s : State) : Host.Outcome State Fault Refusal :=
  .next (withRole .module session roleDiag false (fun _ s => answered .module session
    (if on ∧ s.rd .module Fld.secStatusWSlots ≠ 0 then (stAccessDenied, s) else (stOk, s.wrb .module Fld.secCtlFullRes 0 on))) s)

end Sys2Proof.Machine
end

