-- ==== Sys2Proof/Machine/PowerOps.lean ====
section
/-! DEFINITION. The power loop of a module (R464 to R475): grants, stages, shedding and the input conditions. -/

namespace Sys2Proof.Machine

/-! ## Grants (R465, R466) -/

/-- Slots that grants are computed for, and their registers. -/
def grantSlots (s : State) : List Nat :=
  (List.range 128).filter fun k => s.rdb .module Fld.rteSlotValid k && !quarantined (s.rd .module Fld.rteSlotPort k) s
def lastGrant (k : Nat) (s : State) : Nat := s.rd .module Fld.pwrEpGrant k
def slotFloor (k : Nat) (s : State) : Nat := s.rd .module Fld.pwrEpFloor k
def slotReport (k : Nat) (s : State) : Nat := s.rd .module Fld.pwrEpReport k

/-- A floor condition of R473 holds, or the power-loss procedure runs. -/
def floorHolds (s : State) : Bool := s.rdb .module Fld.pwrStatusWarnPin || s.m.power.uvWarn || s.m.power.loss

/-- The accelerator budget (R465) less the closed-loop reduction (R471), in 0.25 W. -/
def budget (s : State) : Int :=
  4 * ((s.rd .module Fld.pwrCapCtlRackCap : Int) - s.rd .module Fld.pwrCapCtlOtherW - s.rd .module Fld.pwrCapCtlOwnCap - s.m.power.reduction)

/-- A slot in the computation: its cap, its weight, and its grant so far. A slot held at its floor has weight 0. -/
structure Share where
  slot : Nat
  cap : Nat
  weight : Nat
  grant : Rat

/-- The slot has a weight and is below its cap. -/
def Share.unsated (x : Share) : Bool := decide (0 < x.weight) && decide (x.grant < x.cap)

/-- The loop of R466: what is left goes to the unsated slots by weight, never above a slot's cap. -/
def fillShares : Nat → Rat → List Share → List Share
  | 0, _, l => l
  | fuel + 1, left, l =>
    if 0 < left ∧ l.any (fun x => x.unsated) = true then
      let share := left / ((l.filter fun x => x.unsated).map fun x => x.weight).sum
      let add := fun (x : Share) => if x.unsated then min (share * x.weight) (x.cap - x.grant) else 0
      fillShares fuel (left - (l.map add).sum) (l.map fun x => { x with grant := x.grant + add x })
    else l

/-- The final grants (R466, R471, R473, R474), in whole codes of 0.25 W. -/
def finalGrants (s : State) : SMap Nat :=
  let slots := grantSlots s
  if s.m.power.loss then slots.map fun k => (k, 0)
  else if floorHolds s || decide (budget s < (slots.map fun k => slotFloor k s).sum) then slots.map fun k => (k, slotFloor k s)
  else
    let l := slots.map fun k =>
      let f := slotFloor k s
      { slot := k, weight := if s.rdb .module Fld.pwrEpForcedFloor k then 0 else s.rd .module Fld.pwrEpWeight k, grant := f
        cap := max f (min (s.rd .module Fld.pwrEpMax k) (slotReport k s + 4 * s.rd .module Fld.pwrCtlHeadroom)) : Share }
    let left : Rat := budget s - ((slots.map fun k => slotFloor k s).sum : Nat)
    (fillShares (l.length + 1) left l).map fun x => (x.slot, x.grant.floor.toNat)

/-! ## Sending (R467) -/

/-- A grant leaves on the slot's port; a lower one is checked 60 µs later (R471). -/
def sendGrant (k g throttle : Nat) (s : State) : State :=
  let p := s.rd .module Fld.rteSlotPort k
  let q := (smapGet s.m.power.gseq 0 k + 1) % 4096
  let lower := decide (g < lastGrant k s)
  let s1 := onPower (fun x => { x with
    gseq := smapSet x.gseq k q, lowered := if lower && !x.lowered.contains k then x.lowered ++ [k] else x.lowered }) s
  let s2 := s1.wr .module Fld.pwrEpGrant k g
  if portUp .module p s && !quarantined p s then
    portSend .module p (linkPacket .module p 5 (g + throttle * 2 ^ 16 + q * 2 ^ 18) [] s2) s2
  else s2

/-- THROTTLE of a grant: the floor, a fall, or neither (R467, R471). -/
def throttleOf (k g : Nat) (s : State) : Nat :=
  if floorHolds s || s.rdb .module Fld.pwrEpForcedFloor k then 2 else if g < lastGrant k s then 1 else 0

/-- Every grant that changes is sent, while GRANT_EN is 1 on a leaf; those of the power-loss procedure always. -/
def sendGrants (l : SMap Nat) (s : State) : State :=
  if s.isLeaf && (s.rdb .module Fld.pwrCapCtlGrantEn || s.m.power.loss) then
    l.foldl (fun s (k, g) => if g = lastGrant k s ∧ s.m.power.loss = false then s else sendGrant k g (throttleOf k g s) s) s
  else s

/-! ## Stages (R469) -/

def grantSum (l : SMap Nat) : Nat := (l.map fun x => x.2).sum
def sentSum (s : State) : Nat := ((grantSlots s).map fun k => lastGrant k s).sum

/-- The sum of the next stage from a sum towards a final one. -/
def stageSum (last final : Rat) : Rat := if final < last then max final (3 * last / 5) else min final (5 * last / 3)

/-- Stages from a sum to the final one. -/
def stageCount : Nat → Rat → Rat → Nat
  | 0, _, _ => 0
  | fuel + 1, last, final => if last = final then 0 else 1 + stageCount fuel (stageSum last final) final

/-- The next stage of the change under way leaves. -/
def sendStage (s : State) : State :=
  let l := s.m.power.target
  let final : Rat := grantSum l
  let last : Rat := sentSum s
  let sum := stageSum last final
  let s1 := bump .module .pwrStageCnt 0 s
  if sum = final then
    sendGrants l ((onPower (fun x => { x with target := [] }) s1).wr .module Fld.pwrStatusStagesLeft 0 0 |>.wrb .module Fld.pwrStatusStaging 0 false)
  else
    let part := l.map fun (k, g) => (k, ((g : Rat) + ((lastGrant k s : Rat) - g) * (sum - final) / (last - final)).floor.toNat)
    sendGrants part (s1.wr .module Fld.pwrStatusStagesLeft 0 (min 15 (stageCount 64 sum final)))

/-- New final grants take effect: in stages where the change is deep and staging is on, else at once (R469, R473). -/
def applyGrants (s : State) : State :=
  let l := finalGrants s
  let final := grantSum l
  let last := sentSum s
  let deep := decide (5 * final < 3 * last) || decide (5 * last < 3 * final)
  if deep && s.rdb .module Fld.pwrCapCtlStageEn && decide (last ≠ 0) && !floorHolds s then
    sendStage ((onPower (fun x => { x with target := l }) s).wrb .module Fld.pwrStatusStaging 0 true)
  else
    sendGrants l (((onPower (fun x => { x with target := [] }) s).wr .module Fld.pwrStatusStagesLeft 0 0).wrb .module Fld.pwrStatusStaging 0 false)

/-- A status bit of PWR.STATUS that raises interrupt source 77 when it sets (R565). -/
def setPowerBit (f : Field) (b : Bool) (s : State) : State :=
  let s1 := s.wrb .module f 0 b
  if b && !s.rdb .module f then raiseSource 77 s1 else s1

/-- INFEASIBLE follows the budget, with its event (R466, R472). -/
def settleInfeasible (s : State) : State :=
  let bad := s.isLeaf && decide (budget s < ((grantSlots s).map fun k => slotFloor k s).sum)
  let s1 := setPowerBit Fld.pwrStatusInfeasible bad s
  if bad && !s.rdb .module Fld.pwrStatusInfeasible then logModule { code := Config.unlistedEvent 2, severity := 2, block := 17 } s1 else s1

/-! ## Shedding (R470, R475) -/

/-- The level in force: what the own cap asks for, the thermal level, and 5 for a floor condition or an infeasible cap. -/
def shedWanted (s : State) : Nat :=
  max (max s.m.power.capLevel s.m.power.thermalLevel) (if floorHolds s || s.rdb .module Fld.pwrStatusInfeasible then 5 else 0)

/-- A port leads to a higher tier. -/
def isUplink (p : Nat) (s : State) : Bool :=
  facesModule .module p s && decide (s.rd .module Fld.glbRoleRole < eidTier (farId .module p s).1)

/-- Ports are released to MIN_WIDTH and the released lanes sleep, uplinks first (level 4, R135). -/
def releasePorts (s : State) : State :=
  let up := (List.range 1024).filter fun p => portUp .module p s
  ((up.filter fun p => isUplink p s) ++ up.filter fun p => !isUplink p s).foldl (fun s p =>
    ((maskLanes p (activeMask .module p s)).drop (max 1 (s.rd .module Fld.prtCtlMinWidth p))).foldl (fun s n =>
      applyPower .module n (s.onLane .module n fun l => { l with powerHold := 1 })) s) s

/-- The loop releases the lanes it held (R107, R478). -/
def restorePorts (s : State) : State :=
  ((List.range 1024).filter fun n => decide ((s.lane .module n).powerHold = 1)).foldl (fun s n =>
    applyPower .module n (s.onLane .module n fun l => { l with powerHold := 0 })) s

/-- The shed level takes effect: arrays gated from level 2, lanes asleep from level 4. The issue rate of levels 3 and 5 is timing. -/
def settleShed (s : State) : State :=
  let old := s.rd .module Fld.pwrStatusShedLevel
  let new := shedWanted s
  let s1 := (s.wr .module Fld.pwrStatusShedLevel 0 new).wr .module Fld.ctaStatusGated 0 (if 2 ≤ new then 255 else 0)
  if old < 4 ∧ 4 ≤ new then releasePorts s1 else if 4 ≤ old ∧ new < 4 then restorePorts s1 else s1

/-- The lowest level whose power (in W, by level) is at most OWN_CAP; level 5 with OWN_OVER where none is (R470). -/
def chooseLevel (power : List Nat) (s : State) : State :=
  let cap := s.rd .module Fld.pwrCapCtlOwnCap
  match (List.range 6).find? fun l => decide (power.getD l 0 ≤ cap) with
  | some l => settleShed (setPowerBit Fld.pwrStatusOwnOver false (onPower (fun x => { x with capLevel := l }) s))
  | none =>
    let s1 := setPowerBit Fld.pwrStatusOwnOver true (onPower (fun x => { x with capLevel := 5 }) s)
    settleShed (if s.rdb .module Fld.pwrStatusOwnOver then s1
      else logModule { code := 0x71, severity := 2, block := 17, arg0 := 5, arg1 := power.getD 5 0 } s1)

/-! ## The rack estimate (R471) -/

/-- ΣREPORT, a silent slot at its MAX, with the module's own power and OTHER_W, in W. -/
def rackEstimate (s : State) : Nat :=
  ((grantSlots s).map fun k => if s.rdb .module Fld.pwrEpNoReport k then s.rd .module Fld.pwrEpMax k else slotReport k s).sum / 4
    + s.rd .module Fld.pwrInputPin + s.rd .module Fld.pwrCapCtlOtherW

/-- Closed-loop reduction: B falls by the excess at each computation; OVER until the estimate is below the cap. -/
def settleOver (s : State) : State :=
  let e := rackEstimate s
  let cap := s.rd .module Fld.pwrCapCtlRackCap
  let s1 := s.wr .module Fld.pwrStatusEstimate 0 e
  if s.rdb .module Fld.pwrStatusStaging then s1
  else if cap < e then setPowerBit Fld.pwrStatusOver true (onPower (fun x => { x with reduction := x.reduction + (e - cap) }) s1)
  else if e < cap then setPowerBit Fld.pwrStatusOver false (onPower (fun x => { x with reduction := 0 }) s1)
  else s1

/-- The leaf computes its grants (R466): during a staged change only the final grants change. -/
def computeGrants (s : State) : State :=
  if !s.isLeaf then s
  else
    let s1 := settleShed (settleInfeasible (settleOver s))
    if s1.rdb .module Fld.pwrStatusStaging && !floorHolds s1 then onPower (fun x => { x with target := finalGrants s1 }) s1
    else applyGrants s1

/-! ## Input conditions (R473, R474) -/

/-- A floor condition has begun or ended: WARN, grants and shed level follow; grants return by staged rises. -/
def settleFloor (s : State) : State :=
  let s1 := settleShed (setPowerBit Fld.pwrStatusWarn (floorHolds s) s)
  if s1.isLeaf then applyGrants s1 else s1

/-- An input condition is entered: counted and recorded. -/
def warnEvent (row : Nat) (s : State) : State :=
  logModule { code := 0x70, severity := 2, block := 17, arg0 := Config.warnCondition row, arg1 := s.rd .module Fld.pwrInputVin } s

/-- WARN_PIN ends once POWER_WARN_N is high and the input is at least 31.0 V. -/
def settlePin (s : State) : State :=
  if s.m.power.pinHigh && decide (31000 ≤ s.rd .module Fld.pwrInputVin) then
    settleFloor (onPower (fun x => { x with pinHigh := false }) (s.wrb .module Fld.pwrStatusWarnPin 0 false))
  else s

/-- A log entry's words. -/
def logWords (q : Nat) (s : State) : List Word := (List.range 4).map fun w => s.word .module .fltLog (q % 4096) w

/-- The power-loss procedure (R474), which always runs to its end: outputs stop, grants fall to 0, level 5, DDR5 completes and
refreshes itself, the last-gasp record is written, and main-side power goes. -/
def powerLoss (thermal : Bool) (s : State) : State :=
  if s.m.power.loss then s
  else
    let q := s.rd .module Fld.fltLogStatusWriteSeq
    let s1 := settleFloor (onPower (fun x => { x with loss := true }) s)
    let r : GaspRecord := { time := s.module.time, samples := s.m.power.samples.take 64, thermal := thermal
                            events := (List.range (min q 8)).map fun i => logWords (q - min q 8 + i) s1 }
    (onPower (fun x => { x with lastGasp := some r }) s1).onM fun m => { m with bring := { m.bring with powerGood := false } }

/-- An input sample against the conditions of R473. -/
def takeSample (mv s0 : Nat) (s : State) : State :=
  let p := s.m.power
  let low := decide (mv < 30000)
  let high := decide (31000 ≤ mv)
  let back := if high then some (p.uvBackAt.getD s0) else none
  let s1 := if low && !p.uvWarn then
      settleFloor (warnEvent 1 (bump .module .pwrWarnCnt 0 (onPower (fun x => { x with uvWarn := true, uvBackAt := none }) s)))
    else if p.uvWarn && high && decide (back.getD s0 + 1000000 ≤ s0) then
      settleFloor (onPower (fun x => { x with uvWarn := false, uvBackAt := none }) s)
    else onPower (fun x => { x with uvBackAt := back }) s
  let since := if 40500 < mv then some (p.ovSince.getD s0) else none
  let s2 := onPower (fun x => { x with ovSince := since, ovWarn := x.ovWarn && !decide (mv < 40000) }) s1
  settlePin (if !p.ovWarn && since.any fun t => decide (t + 100000 ≤ s0) then warnEvent 3 (onPower (fun x => { x with ovWarn := true }) s2) else s2)

/-- The 36 V input falls below 28 V during bring-up (R450): bring-up stops, to begin again at step 1. -/
def stopBringup (s : State) : State :=
  ((s.wr .module Fld.glbBringupStatusStep 0 1).wrb .module Fld.glbBringupStatusBusy 0 false).onM fun m =>
    { m with bring := { m.bring with outcome := none, powerGood := false } }

end Sys2Proof.Machine
end

