-- ==== Sys2Proof/Machine/PowerCmds.lean ====
section
/-! DEFINITION. The power loop (R386 to R388, R464 to R475): the meanings of its commands. -/

namespace Sys2Proof.Machine

/-! ## Leaf and module -/

/-- CAP_WRITE (R465, R466, R468, R470): the whole of PWR.CAP_CTL is written; `power` gives the modelled power of the module by shed level,
in W. -/
def writeCap (v : Word) (power : List Nat) (s : State) : State :=
  let w := (0xFFFFFFFFFFFFF006 : Word)
  let s1 := bump .module .pwrCapCnt 0 (s.setWord .module .pwrCapCtl 0 0 (v &&& w))
  let s2 := chooseLevel power s1
  if !s2.isLeaf then s2
  else applyGrants (settleShed (settleInfeasible (onPower (fun x => { x with reduction := 0 }) s2)))

def execCapWrite (path : Path) (v : Word) (power : List Nat) (s : State) : Host.Outcome State Fault Refusal :=
  .next (rwl .module path (regOffset .module .pwrCapCtl 0 0) v.toNat (writeCap v power) s)

/-- GRANT_COMPUTE_TIMER (R466, R471). -/
def execGrantComputeTimer (s : State) : Host.Outcome State Fault Refusal := .next (computeGrants s)

/-- GRANT_REFRESH_TIMER (R467): each slot's grant once more. -/
def execGrantRefreshTimer (s : State) : Host.Outcome State Fault Refusal :=
  .next (if s.isLeaf && s.rdb .module Fld.pwrCapCtlGrantEn then
      (grantSlots s).foldl (fun s k => sendGrant k (lastGrant k s) (throttleOf k (lastGrant k s) s) s) s
    else s)

/-- STAGE_TIMER (R469). -/
def execStageTimer (s : State) : Host.Outcome State Fault Refusal :=
  .next (if s.rdb .module Fld.pwrStatusStaging then sendStage s else s)

/-- POWER_REPORT (R467): a leaf records it for the slot behind the port. -/
def execPowerReport (p : Nat) (pkt : Packet) (s : State) : Host.Outcome State Fault Refusal :=
  .next (if pkt.opcode ≠ 6 then s
    else
      let s1 := consumeArrived .module p pkt s
      let k := eidSlot pkt.src
      if !pchkGood pkt then bump .module .xptPchkDiscardCnt 0 s1
      else if s.isLeaf && decide (s.rd .module Fld.rteSlotPort k = p) && s.rdb .module Fld.rteSlotValid k then
        ((onPower (fun x => { x with reportAt := smapSet x.reportAt k s.now }) s1).wr .module Fld.pwrEpReport k (pkt.opx.toNat % 65536)).wrb .module Fld.pwrEpNoReport k false
      else s1)

/-- VIOLATION_CHECK (R471): a slot's REPORT 60 µs after a lower grant. -/
def execViolationCheck (k : Nat) (s : State) : Host.Outcome State Fault Refusal :=
  .next (if !s.m.power.lowered.contains k then s
    else
      let s1 := onPower (fun x => { x with lowered := x.lowered.filter (· ≠ k) }) s
      if slotReport k s ≤ lastGrant k s + 4 * s.rd .module Fld.pwrCtlTol then s1
      else
        let times := s.now :: (smapGet s.m.power.violations [] k).filter fun t => decide (s.now ≤ t + 10000000)
        let s2 := bump .module .pwrViolCnt 0 (saturate .module Fld.pwrEpViolations k 1 (onPower (fun x => { x with
          violations := smapSet x.violations k times }) s1))
        if s.rd .module Fld.pwrCtlViolLimit ≤ times.length && !s.rdb .module Fld.pwrEpForcedFloor k then
          sendGrants [(k, slotFloor k s)] (logModule { code := 0x72, severity := 2, block := 17, arg0 := k, arg1 := slotReport k s / 4 }
            (s2.wrb .module Fld.pwrEpForcedFloor k true))
        else s2)

/-- PWR.EP.CLEAR (R471, R485): a spine or crown discards the write. -/
def clearSlot (k : Nat) (s : State) : State :=
  if s.isLeaf then (onPower (fun x => { x with violations := smapErase x.violations k }) s).wrb .module Fld.pwrEpForcedFloor k false else s

/-- EP_CLEAR (R471). -/
def execEpClear (k : Nat) (s : State) : Host.Outcome State Fault Refusal := .next (clearSlot k s)

/-- SHED_CORRECT_TIMER (R470): `power` is the module's power by shed level, corrected from what is measured. -/
def execShedCorrectTimer (power : List Nat) (s : State) : Host.Outcome State Fault Refusal := .next (chooseLevel power s)

/-- POWER_WARN_N (R473): low for 2 µs, or high for 1 ms. -/
def execPowerWarnN (low : Bool) (s : State) : Host.Outcome State Fault Refusal :=
  .next (if low then
      let s1 := onPower (fun x => { x with pinHigh := false }) s
      if s.rdb .module Fld.pwrStatusWarnPin then s1
      else settleFloor (warnEvent 0 (bump .module .pwrWarnCnt 0 (s1.wrb .module Fld.pwrStatusWarnPin 0 true)))
    else if s.rdb .module Fld.pwrStatusWarnPin then settlePin (onPower (fun x => { x with pinHigh := true }) s)
    else s)

/-- INPUT_SAMPLE (R450, R464, R473): mV, units of 10 mA, and W. -/
def execInputSample (mv iin pin : Nat) (s : State) : Host.Outcome State Fault Refusal :=
  let s1 := ((s.wr .module Fld.pwrInputVin 0 mv).wr .module Fld.pwrInputIin 0 iin).wr .module Fld.pwrInputPin 0 pin
  let w := s1.word .module .pwrInput 0 0
  let s1' := s1.onM fun m => { m with tel := { m.tel with
      samples := m.tel.samples.filter (fun x => decide (s.now < x.1 + 1000000000)) ++ [(s.now, w)] } }
  let s2 := onPower (fun x => { x with samples := (w :: x.samples).take 64 }) s1'
  .next (if mv < 28000 && !s.rdb .module Fld.glbBringupStatusEnabled then stopBringup (takeSample mv s.now s2) else takeSample mv s.now s2)

/-- UV_LOSS (R473, R474). -/
def execUvLoss (s : State) : Host.Outcome State Fault Refusal := .next (powerLoss false (if s.m.power.loss then s else warnEvent 2 s))

/-- A sensor's temperature (R475): above 105 °C the module sheds to level 3, above 115 °C it powers down; THERMAL until every sensor is
below 100 °C. -/
def thermalSample (sensor temp : Nat) (s : State) : State :=
  if 115 < temp then powerLoss true (bump .module .pwrThermalCnt 0 (logModule { code := 0x73, severity := 2, block := 17, arg0 := sensor, arg1 := temp } s))
  else if 105 < temp then
    let s1 := onPower (fun x => { x with
      thermalLevel := max x.thermalLevel 3, hot := if x.hot.contains sensor then x.hot else x.hot ++ [sensor] }) s
    settleShed (setPowerBit Fld.pwrStatusThermal true
      (if s.m.power.hot.contains sensor then s1 else logModule { code := 0x73, severity := 2, block := 17, arg0 := sensor, arg1 := temp } s1))
  else if temp < 100 then
    let s1 := onPower (fun x => { x with hot := x.hot.filter (· ≠ sensor) }) s
    if s1.m.power.hot.isEmpty then settleShed (setPowerBit Fld.pwrStatusThermal false (onPower (fun x => { x with thermalLevel := 0 }) s1)) else s1
  else s

/-- THERMAL_SAMPLE (R475). -/
def execThermalSample (sensor temp : Nat) (s : State) : Host.Outcome State Fault Refusal := .next (thermalSample sensor temp s)

/-- THERMAL_RECHECK (R475): the sensor 1 ms after the module shed to level 3. -/
def execThermalRecheck (sensor temp : Nat) (s : State) : Host.Outcome State Fault Refusal :=
  .next (if 105 < temp ∧ s.m.power.hot.contains sensor = true then
      settleShed (onPower (fun x => { x with thermalLevel := 5 }) (thermalSample sensor temp s))
    else thermalSample sensor temp s)

/-! ## Endpoint block (R386 to R388, R467) -/

/-- POWER_REPORT to the leaf of each plane: REPORT, the leaf's last GSEQ, and AT_GRANT. -/
def sendReports (s : State) : State :=
  let r := s.rd .endpoint Fld.fxePwrReport
  let at' := b2n (decide (r ≤ s.rd .endpoint Fld.fxePwrGrant))
  [false, true].foldl (fun s plane => match epUpPorts plane s with
    | [] => s
    | p :: _ =>
      let q := ((s.e.grants.find? fun g => decide (g.plane = plane)).map fun g => g.gseq).getD 0
      portSend .endpoint p (linkPacket .endpoint p 6 (r + q * 2 ^ 16 + at' * 2 ^ 28) [] s) s) s

/-- The lower of the grants received within the last 5 ms is driven on the sideband (R387, R388). -/
def applyGrant (s : State) : State :=
  let recent := s.e.grants.filter fun g => decide (s.now ≤ g.time + 5000000)
  match recent with
  | [] => s
  | g :: l =>
    let x := l.foldl (fun a b => if b.grant < a.grant ∨ (b.grant = a.grant ∧ a.throttle < b.throttle) then b else a) g
    ((((s.wr .endpoint Fld.fxePwrGrant 0 x.grant).wr .endpoint Fld.fxePwrThrottle 0 x.throttle).wrb .endpoint Fld.fxePwrNoGrant 0 false).emit
      .endpoint (.grant x.grant x.throttle))

/-- POWER_GRANT (R387, R467). -/
def execPowerGrant (p : Nat) (pkt : Packet) (s : State) : Host.Outcome State Fault Refusal :=
  .next (if pkt.opcode ≠ 5 then s
    else
      let s1 := consumeArrived .endpoint p pkt s
      if !pchkGood pkt then bump .endpoint .xptPchkDiscardCnt 0 s1
      else
        let w := pkt.opx.toNat
        let plane := portPlane .endpoint p s
        let g : LeafGrant := { plane := plane, time := s.now, grant := w % 65536, throttle := w / 2 ^ 16 % 4, gseq := w / 2 ^ 18 % 4096 }
        sendReports (applyGrant (s1.onE fun e => { e with grants := e.grants.filter (fun x => decide (x.plane ≠ plane)) ++ [g] })))

/-- GRANT_TIMEOUT (R388, R397): the floor grant. -/
def execGrantTimeout (s : State) : Host.Outcome State Fault Refusal :=
  let f := s.rd .endpoint Fld.fxePwrFloor
  let s1 := ((s.wr .endpoint Fld.fxePwrGrant 0 f).wr .endpoint Fld.fxePwrThrottle 0 2).wrb .endpoint Fld.fxePwrNoGrant 0 true
  .next (raiseVector 7 (logEndpoint { code := 0xC7, severity := 2, block := 0x7F, arg0 := 3, arg1 := f }
    ((s1.onE fun e => { e with grants := [] }).emit .endpoint (.grant f 2))))

/-- POWER_REPORT_TIMER (R387, R467): `report` is what the accelerator drives. -/
def execPowerReportTimer (report : Nat) (s : State) : Host.Outcome State Fault Refusal :=
  .next (sendReports (s.wr .endpoint Fld.fxePwrReport 0 report))

end Sys2Proof.Machine
end

