-- ==== Sys2Proof/Machine/Quorum.lean ====
section
/-! DEFINITION. Votes, decisions and notices (R523, R527 to R532): the meanings of their commands. -/

namespace Sys2Proof.Machine

/-- The fields of a ballot (R527). -/
def ballotField (b : Ballot) (at' n : Nat) : Nat := leNat (slice b.bytes at' n)
def ballotVoter (b : Ballot) : Nat := ballotField b 1 1

/-- The key that a voter signs with, as the unit knows it. -/
def voterKey (sd : Side) (voter : Nat) (e : Eid) (s : State) : List Byte :=
  if voter = 2 then Config.witnessKey e
  else match sd with
    | .module => if s.rdb .module Fld.secCredValid voter then smapGet s.m.sec.creds [] voter else []
    | .endpoint => Config.managerKey voter

/-- A YES ballot for a proposal, unit and NONCE that verifies, with a fabric time within 1 s of the unit's own (R529). -/
def yesBallot (sd : Side) (proposal : Nat) (e : Eid) (nonce : Nat) (s : State) (b : Ballot) : Bool :=
  let d := timeDiff (ballotField b 8 10) (s.unit sd).time
  decide (b.bytes.length = 64) && decide (ballotField b 0 1 = proposal) && decide (ballotField b 2 1 = 1) && decide (ballotVoter b ≤ 2)
    && decide (ballotField b 4 3 % 2 ^ 20 = e.toNat) && decide (ballotField b 24 8 = nonce) && decide (d.natAbs ≤ 1000000000 * 65536)
    && Config.ed448Verify (voterKey sd (ballotVoter b) e s) b.bytes b.signature

/-- The voters whose YES ballots hold. -/
def yesVoters (sd : Side) (proposal : Nat) (e : Eid) (nonce : Nat) (l : List Ballot) (s : State) : List Nat :=
  ((l.filter (yesBallot sd proposal e nonce s)).map ballotVoter).eraseDups

/-! ## The witness (R523, R528) -/

/-- An evidence bit of a port has been set within the last 100 ms. -/
def recentEvidence (p : Nat) (s : State) : Bool :=
  decide (s.rd .module Fld.fltLiveEvidence p ≠ 0) || (match smapGet? s.m.live.evidenceAt p with
    | some t => decide (s.now < t + 100000000)
    | none => false)

/-- LINK_DOWN of a port has held for QUAR_MS. -/
def longDown (p : Nat) (s : State) : Bool :=
  (s.rd .module Fld.fltLiveEvidence p).testBit 0 && (match smapGet? s.m.live.downAt p with
    | some t => decide (t + 1000000 * s.rd .module Fld.fltCtlQuarMs ≤ s.now)
    | none => false)

/-- The witness's vote (R528): 0 NO, 1 YES, 2 ABSTAIN. `shadow`: the unit needs shadow admission under R531. -/
def witnessVote (proposal p : Nat) (shadow : Bool) (s : State) : Nat :=
  let st := s.rd .module Fld.fltLiveState p
  if proposal = 1 then
    if st = 1 ∨ longDown p s = true then 1 else if portUp .module p s = true ∧ recentEvidence p s = false then 0 else 2
  else if st = 4 ∨ (st = 1 ∧ recentEvidence p s = false ∧ shadow = false) then 1
  else if s.rd .module Fld.fltLiveEvidence p ≠ 0 then 0 else 2

/-- The bytes of a witness's ballot (R527). -/
def witnessBallot (proposal vote p : Nat) (e : Eid) (nonce : Nat) (s : State) : List Byte :=
  leBytes 1 proposal ++ leBytes 1 2 ++ leBytes 1 vote ++ leBytes 1 (s.rd .module Fld.fltLiveEvidence p) ++ leBytes 3 e.toNat ++ zeros 1
    ++ leBytes 10 s.module.time ++ zeros 6 ++ leBytes 8 nonce ++ zeros 32

/-- VOTE (R527, R528): answered by the unit's witness, inside a MANAGE session. -/
def execVote (session proposal : Nat) (unit : Eid) (nonce : Nat) (shadow : Bool) (s : State) : Host.Outcome State Fault Refusal :=
  .next (withRole .module session roleManage false (fun _ s => match portFacing unit s with
    | some p =>
      if (proposal = 1 ∨ proposal = 2) ∧ s.rdb .module Fld.fltLiveWitness p = true then
        let v := witnessVote proposal p shadow s
        let b := witnessBallot proposal v p unit nonce s
        respond .module (some session) (.vendor stOk (b ++ fitTo 114 (Config.ed448Sign (aliasSecret .module s) b)))
          (logModule { code := 0x44, severity := 0, block := 20, eid := some unit, arg0 := proposal, arg1 := v } s)
      else answered .module session (stAccessDenied, s)
    | none => answered .module session (stAccessDenied, s)) s)

/-! ## Decisions and notices (R529, R530) -/

/-- A leaf tells its endpoint blocks of an expulsion or readmission, by a MGMT_REQ on each slot's port. -/
def relayNotice (dead : Bool) (e : Eid) (s : State) : State :=
  if s.isLeaf then
    (((List.range 128).filter fun k => s.rdb .module Fld.rteSlotValid k).map (slotPort s)).foldl (fun s p =>
      if portUp .module p s then portSend .module p (linkPacket .module p 1 256 ((Config.noticeBytes dead e).take 256) s) s else s) s
  else s

/-- A module that holds a unit dead (R264, R530). -/
def moduleDead (e : Eid) (s : State) : State := markDead .module e s

/-- Expulsion at a port (R530): R526 applies on, and the unit is dead. -/
def expel (p : Nat) (e : Eid) (nonce : Nat) (s : State) : State :=
  let ev : Event := { code := 0x42, severity := 2, block := 20, eid := some e, arg0 := p, arg1 := nonce }
  let s1 := logModule ev (s.wr .module Fld.fltLiveState p 2)
  relayNotice true e (moduleDead e (isolate p s1))

/-- DECIDE (R523, R529, R530). `witness`: the new WITNESS bit that it carries, which both managers have to vote for. -/
def execDecide (session proposal : Nat) (unit : Eid) (nonce : Nat) (ballots : List Ballot) (witness : Option Bool) (s : State) :
    Host.Outcome State Fault Refusal :=
  .next (withRole .module session roleManage false (fun _ s => match portFacing unit s with
    | none => answered .module session (stAccessDenied, s)
    | some p =>
      let yes := yesVoters .module proposal unit nonce ballots s
      if yes.length < 2 ∨ ¬(proposal = 1 ∨ proposal = 2) then answered .module session (stAccessDenied, s)
      else match witness with
        | some w =>
          if yes.contains 0 && yes.contains 1 then answered .module session (stOk, s.wrb .module Fld.fltLiveWitness p w)
          else answered .module session (stAccessDenied, s)
        | none =>
          if proposal = 1 then answered .module session (stOk, expel p unit nonce s)
          else answered .module session (stOk, relayNotice false unit (unmarkDead .module unit (readmit p nonce s)))) s)

/-- A unit takes an EID onto its dead list, of 1,024 (R530). -/
def takeDead (sd : Side) (e : Eid) (s : State) : Status × State :=
  if (s.unit sd).dead.contains e then (stOk, s)
  else if 1024 ≤ (s.unit sd).dead.length then (stResource, s)
  else match sd with
    | .module => (stOk, relayNotice true e (markDead .module e s))
    | .endpoint => (stOk, settle .endpoint (if isLeafEid e then leafDied e (markDead .endpoint e s) else markDead .endpoint e s))

/-- A unit takes an EID off its dead list. -/
def takeLive (sd : Side) (e : Eid) (s : State) : Status × State := match sd with
  | .module => (stOk, relayNotice false e (unmarkDead .module e s))
  | .endpoint => (stOk, unmarkDead .endpoint e s)

/-- A notice acts inside a MANAGE session with two YES ballots, or at an endpoint block as its leaf relays it. -/
def notice (sd : Side) (session proposal : Nat) (e : Eid) (nonce : Nat) (ballots : List Ballot) (relayed : Bool)
    (f : State → Status × State) (s : State) : State :=
  if relayed ∧ sd = .endpoint then (f s).2
  else withRole sd session roleManage false (fun _ s =>
    if (yesVoters sd proposal e nonce ballots s).length < 2 then answered sd session (stAccessDenied, s)
    else answered sd session (f s)) s

/-- DEAD_NOTICE (R530). -/
def execDeadNotice (sd : Side) (session : Nat) (unit : Eid) (nonce : Nat) (ballots : List Ballot) (relayed : Bool) (s : State) :
    Host.Outcome State Fault Refusal := .next (notice sd session 1 unit nonce ballots relayed (takeDead sd unit) s)

/-- LIVE_NOTICE (R530). -/
def execLiveNotice (sd : Side) (session : Nat) (unit : Eid) (nonce : Nat) (ballots : List Ballot) (relayed : Bool) (s : State) :
    Host.Outcome State Fault Refusal := .next (notice sd session 2 unit nonce ballots relayed (takeLive sd unit) s)

end Sys2Proof.Machine
end

