-- ==== Sys2Proof/Machine/ResetOps.lean ====
section
/-! DEFINITION. The reset classes (R540 to R544) and what each leaves. -/

namespace Sys2Proof.Machine

/-! ## Registers -/

/-- The register that a key of the register file belongs to. -/
def regOfKey (k : Nat) : Option Reg := allRegs.find? fun r => decide (r.ctorIdx = k % 1024)

/-- Fields that pass a test, at their reset values in every word that is not at its reset value. -/
def resetFields (hit : Reg → FieldDesc → Bool) (s : State) : State :=
  s.module.regs.foldl (fun s x => match regOfKey x.1 with
    | none => s
    | some r =>
      let i := x.1 / 16384
      let w := x.1 / 1024 % 16
      s.setWord .module r i w ((r.fields.filter fun f => decide (f.word = w) && hit r f).foldl
        (fun v f => withBits v f.hi f.lo (bitsOf (regReset .module r i w) f.hi f.lo)) (s.word .module r i w))) s

/-- Registers of the parts that a WARM reset restarts whose status fields start anew. -/
def warmStatus : List Reg :=
  [.nocStatus, .lnkFarId, .lnkTxTaps, .prtStatus, .prtVersion, .rteFeat, .rtePgrp, .xptStatus, .mrnStatus, .mrnChunkStatus, .mrnCtx
  , .redStatus, .redQueryStatus, .redQueryRec, .ctaStatus, .telSnapStatus]

/-! ## POWER_ON and COLD -/

/-- The module with everything at its reset value but what every class keeps: the field record, the last-gasp record, boot flash and
fuses (R541); DDR5 has a new device memory key (R503). -/
def clearModule (s : State) : State :=
  let sec : SecState := { otp := s.m.sec.otp, flash := s.m.sec.flash, deviceKey := s.m.sec.deviceKey + 1, xtsKeys := s.m.sec.xtsKeys }
  { s with
    module := { out := s.module.out, mgmt := { nextSession := s.module.mgmt.nextSession } }
    m := { sec := sec, tile := { record := s.m.tile.record }, power := { lastGasp := s.m.power.lastGasp } } }

/-- POWER_ON (R540, R541). -/
def powerOn (s : State) : State := resetEvent 0 0 (clearModule s)

/-- COLD (R540, R541): the Puppeteer goes on with the image it runs; bring-up resumes at step 2. -/
def coldReset (fundamental : Bool) (s : State) : State :=
  let s1 := clearModule s
  let s2 := (s1.wr .module Fld.mgtStatusPupState 0 (s.rd .module Fld.mgtStatusPupState)).wrb .module Fld.secStatusBootB 0
    (s.rdb .module Fld.secStatusBootB)
  let s3 := setMeasurement 2 (moduleMeasure 2 s) (setMeasurement 1 (moduleMeasure 1 s) (onSec (fun x => { x with bootVersion := s.m.sec.bootVersion }) s2))
  resetEvent 1 (if fundamental then 1 else 2) (onBring (fun b => { b with powerGood := true }) (s3.wr .module Fld.glbBringupStatusStep 0 1))

/-! ## WARM -/

/-- A key slot under WARM (R495, R544): all key material goes; an ORD slot keeps state and epoch, a W or IO slot becomes EMPTY, and one
under retirement is SCRUBBING under its next epoch. -/
def warmSlot (x : KeySlot) : KeySlot :=
  if x.state = 2 then { state := 3, cls := x.cls, epoch := (x.epoch + 1) % 16, epochOpen := x.epochOpen }
  else if x.state = 3 then { x with link := [], prev := [], xts := [] }
  else if x.cls = 0 then { state := x.state, epoch := x.epoch, epochOpen := x.epochOpen, loadPrGen := x.loadPrGen }
  else { epoch := x.epoch, epochOpen := x.epochOpen }

/-- The key slots that are not as at reset. -/
def usedSlots (s : State) : List Nat :=
  s.module.regs.filterMap fun x => if x.1 % 1024 = Reg.secSlot.ctorIdx then some (x.1 / 16384) else none

/-- Every operation of the module that is in progress ends (R541, R544): programs and engine commands with ABORTED, host accesses with what
their pieces give; the transport's state is cleared, and PR_GEN rises (R183, R502). -/
def warmTraffic (s : State) : State :=
  let s1 := (List.range 16).foldl (fun s p => endProgram p stAborted 0 s) s
  let s2 := settle .module (endOps .module stAborted (s1.xpt .module).ops s1)
  let s3 := s2.onXpt .module fun x => { nextOp := x.nextOp }
  let s4 := onEng (fun e => { e with
    queues := e.queues.map fun x => (x.1, { x.2 with fetching := false, cmds := [], matrix := none })
    threads := [], dcache := [], scratch := [] }) s3
  let s5 := s4.m.eng.ats.invals.foldl (fun s i => completeInval i.itag s) s4
  let s6 := notePr (noteInv (onAts (fun _ => {}) s5))
  settleProgs (s6.wr .module Fld.secStatusPrGen 0 (s6.rd .module Fld.secStatusPrGen + 1))

/-- What the core die and the chiplets hold (R541, R543): lanes keep their preset caches, DDR5 its contents. -/
def warmCore (s : State) : State :=
  let owed := if s.isLeaf then broadcastSlots s else []
  let s1 := s.onUnit .module fun u => { u with
    lanes := u.lanes.filterMap fun x => if x.2.cache.isEmpty then none else some (x.1, { cache := x.2.cache })
    ports := [], inbox := [], sync := { nextSeq := u.sync.nextSeq } }
  let s2 := s1.onM fun m => { m with
    sw := {}, dir := { owed := owed }, mrn := {}, live := { m.live with downAt := [], shadows := [] }
    pool := { m.pool with fast := [], missing := [], poison := m.pool.poison.filter fun l => decide (l < fastBase / 64) }
    tile := { m.tile with migration := none, waiting := [], change := none, deferred := [] }
    power := { m.power with target := [], lowered := [] }
    tel := { m.tel with latch := none }
    rattle := { m.rattle with flaps := [] } }
  let s3 := resetFields (fun r f => (warmStatus.contains r && decide (f.acc = .ro)) || (decide (r = .mrnCtx) && decide (f.word = 0) && decide (f.hi = 63))
    || (decide (r = .lnkStatus) && decide (f.lo ≠ 40))) s2
  (((s3.wrb .module Fld.tilStatusMigrating 0 false).wrb .module Fld.jigRoleStatusBusy 0 false).wrb .module Fld.dirStatusFlushing 0 false).wrb
    .module Fld.pwrStatusStaging 0 false

/-- WARM (R540 to R544): bring-up resumes at step 5. -/
def warmReset (trigger : Nat) (s : State) : State :=
  let s1 := if bringBusy s then endStep (some stAborted) s else s
  let s2 := warmCore (warmTraffic s1)
  let s3 := (usedSlots s2).foldl (fun s k => setSlot .module k (warmSlot (slotAll .module k s)) s) s2
  let s4 := setSessions .module [] (onMgmt .module (fun m => { m with algorithms := false, assembly := [] }) s3)
  let s5 := (List.range 1024).foldl (fun s p => s.wr .module Fld.fltLiveState p 1) s4
  let s6 := (((s5.wr .module Fld.glbBringupStatusStep 0 4).wrb .module Fld.glbBringupStatusBusy 0 false).wrb .module Fld.glbBringupStatusFail 0
    false).wr .module Fld.glbBringupStatusStatus 0 0
  let s7 := ((s6.wrb .module Fld.glbBringupStatusEnabled 0 false).wrb .module Fld.glbBringupStatusNoTopLock 0 false).wrb .module Fld.fltStatusFatal
    0 false
  resetEvent 2 trigger (onBring (fun b => { b with outcome := none, codeLoaded := false, firmware := false }) s7)

/-! ## FUNCTION -/

/-- The commands of an engine queue end with ABORTED and UNKNOWN; their records are written where the ring is still reachable: in DDR5
(R544). -/
def abortQueue (q : Nat) (s : State) : State :=
  let cmds := (engQueue q s).cmds
  let s1 := cmds.foldl (fun s c =>
    let c1 := { c with started := true, ended := true, left := 0, statuses := c.statuses ++ [stAborted], outcome := outUnknown }
    if s.rdb .module Fld.engQrCplDdr q then recordCmd q c1 false s else onEngQueue q (fun k => { k with cmds := k.cmds.drop 1 }) s) s
  (onEngQueue q (fun k => { count := k.count }) s1).wrb .module Fld.engQValid q false

/-- Nothing waits any more for an engine's or the aperture's packets that have left; those that have not are dropped. -/
def orphanOps (s : State) : State :=
  let mine := fun (u : OpUse) => match u with
    | .engine _ _ => true
    | .aperture _ _ => true
    | _ => false
  s.onXpt .module fun x => { x with
    ops := (x.ops.filter fun o => !mine o.use || o.sent.isSome).map fun o => if mine o.use then { o with use := .none } else o
    finished := x.finished.filter fun f => !mine f.op.use }

/-- A puppet thread that waits for the host faults (R541). -/
def faultHost (s : State) (x : Nat × Nat × PupAccess) : State :=
  pupFault x.1 x.2.1 x.2.2.pc ((accessFault x.1 x.2.2.addr x.2.2.size s).getD stTranslationFault) s

/-- FUNCTION (R540, R541, R544): the function's configuration, engine queues, ATS and the mailbox start anew. -/
def functionReset (s : State) : State :=
  let s1 := (List.range 72).foldl (fun s q => abortQueue q s) s
  let s2 := s1.m.eng.ats.invals.foldl (fun s i => completeInval i.itag s) (orphanOps s1)
  let s3 := s2.onM fun m => { m with pci := { nextApt := m.pci.nextApt }, sec := { m.sec with request := [], response := [] } }
  let s4 := resetFields (fun r _ => decide (r = .atsStatus)) (onAts (fun _ => {}) s3)
  let s5 := (((s4.wr .module Fld.pciStatusDState 0 0).wrb .module Fld.mgtStatusBusy 0 false).wrb .module Fld.mgtStatusRspReady 0 false).wr
    .module Fld.mgtRspLenLength 0 0
  resetEvent 3 4 ((waitingThreads (fun _ a => decide (a.addr / 2 ^ 62 = 2)) s5).foldl faultHost s5)

/-! ## Boot (R436 step 1, R490) -/

/-- Step 1 ends: main-side power is good, or neither boot image verifies. -/
def endBoot (ok : Bool) (s : State) : State :=
  let s1 := (s.wr .module Fld.glbBringupStatusStep 0 1).wrb .module Fld.glbBringupStatusFail 0 false
  if ok then (onBring (fun b => { b with powerGood := true }) s1).wrb .module Fld.glbBringupStatusBusy 0 false
  else endStep (some Config.bootStatus) s1

/-- The Puppeteer boots: with the fuses and the flash contents that manufacture left, where the module has none yet. -/
def bootPuppeteer (a b : List Byte) (otp : OtpMap) (s : State) : State :=
  let s1 := onSec (fun x => { x with
    otp := some (x.otp.getD otp)
    flash := smapSet (smapSet x.flash 0 ((smapGet? x.flash 0).getD a)) 1 ((smapGet? x.flash 1).getD b) }) s
  if !s.m.bring.powerGood then
    let r := boot s1
    endBoot r.1 r.2
  else if s.rd .module Fld.mgtStatusPupState = 0 then (boot s1).2
  else s

end Sys2Proof.Machine
end

