-- ==== Sys2Proof/Machine/TelOps.lean ====
section
/-! DEFINITION. Counters as snapshots and telemetry streams carry them (R480 to R483), and coarsened readings (R508). -/

namespace Sys2Proof.Machine

/-- The state with telemetry changed. -/
def onTel (f : TelState → TelState) (s : State) : State := s.onM fun m => { m with tel := f m.tel }

/-- The blocks of a group of R483, by position (R555). Group 12 names no counter of a register, and groups 13 to 15 are reserved. -/
def groupBlocks : Nat → List Nat
  | 0 => [5]
  | 1 => [4]
  | 2 => [6]
  | 3 => [7]
  | 4 => [8]
  | 5 => [9]
  | 6 => [10]
  | 7 => [11, 12]
  | 8 => [13, 14]
  | 9 => [17]
  | 10 => [16]
  | 11 => [2]
  | _ => []

/-- The counters of a block with the number of their entries, those whose entries interleave together, in the order of their addresses. -/
def blockFamilies (b : Nat) : List (List (Reg × Loc)) :=
  (allRegs.filterMap fun r => match r.loc .module with
    | some l => if r.isCounter && decide (blockOf l.base = b) then some (r, l) else none
    | none => none).splitBy fun x y => decide (x.2.stride = y.2.stride) && decide (x.2.count = y.2.count) && decide (1 < x.2.count)

/-- The counters of a block by rising address: register and entry. -/
def blockCounters (b : Nat) : List (Reg × Nat) :=
  (blockFamilies b).flatMap fun f => match f with
    | [] => []
    | x :: _ => (List.range x.2.count).flatMap fun i => f.map fun y => (y.1, i)

/-- The counters of a group mask in block base order. -/
def maskCounters (mask : Nat) : List (Reg × Nat) :=
  ((List.range 25).filter fun b => (List.range 13).any fun g => mask.testBit g && (groupBlocks g).contains b).flatMap blockCounters

/-- The counters of a group mask, latched in one cycle (R481, R482). -/
def latchCounters (mask : Nat) (s : State) : List Word := (maskCounters mask).map fun x => s.word .module x.1 x.2 0

/-- A reading of power in W and one of current in 10 mA, coarsened (R508). -/
def coarseW (s : State) (w : Nat) : Nat := if s.rdb .module Fld.secCtlFullRes then w else w / 10 * 10
def coarseAmps (s : State) (a : Nat) : Nat := if s.rdb .module Fld.secCtlFullRes then a else a / 25 * 25

/-- An input sample as software sees it (R508). -/
def coarseInput (s : State) (w : Word) : Word := withBits (withBits w 47 32 (coarseAmps s (bitsOf w 47 32))) 31 16 (coarseW s (bitsOf w 31 16))

/-- The average of samples, field by field. -/
def averageInput (l : List Word) : Word :=
  let mean := fun (hi lo : Nat) => (l.map fun w => bitsOf w hi lo).sum / max l.length 1
  withBits (withBits (withBits 0 63 48 (mean 63 48)) 47 32 (mean 47 32)) 31 16 (mean 31 16)

/-- The input samples of the last `us` µs as group 9 sends them: each as it was taken at full resolution, else 1 ms averages coarsened. -/
def periodSamples (us : Nat) (s : State) : List Word :=
  let l := s.m.tel.samples.filter fun x => decide (s.now < x.1 + 1000 * us)
  if s.rdb .module Fld.secCtlFullRes then l.map (·.2)
  else (l.splitBy fun x y => decide (x.1 / 1000000 = y.1 / 1000000)).map fun ms => coarseInput s (averageInput (ms.map (·.2)))

/-- The values of a group that a stream sends: its counters; with group 2 the congestion levels of R176, with group 9 the samples. -/
def groupValues (us g : Nat) (s : State) : List Word :=
  let own := latchCounters (2 ^ g) s
  if g = 2 then own ++ Config.congestionWords ((List.range 1024).flatMap fun p => (List.range 11).map fun q => congestion p q s)
  else if g = 9 then own ++ periodSamples us s
  else own

/-- The payloads of a group's packets: a 32-byte record header and up to 508 values (R483). -/
def groupPayloads (seq g : Nat) (values : List Word) (s : State) : List (List Byte) :=
  (List.range ((values.length + 507) / 508)).map fun i =>
    let v := slice' values (508 * i)
    (Config.recordHeader (s.module.time / 65536) seq g (508 * i) v.length ++ zeros 32).take 32 ++ v.flatMap fun w => leBytes 8 w.toNat
where
  slice' (l : List Word) (i : Nat) : List Word := (l.drop i).take 508

/-- The payloads of a stream's period. -/
def streamPayloads (k seq : Nat) (s : State) : List (List Byte) :=
  let us := s.rd .module Fld.telStreamPeriodUs k
  ((List.range 13).filter fun g => (s.rd .module Fld.telStreamGroups k).testBit g).flatMap fun g => groupPayloads seq g (groupValues us g s) s

/-- A TELEMETRY packet of a stream at an offset of its collector. -/
def telemetryPacket (k off : Nat) (payload : List Byte) (s : State) : Packet :=
  { dst := BitVec.ofNat 20 (s.rd .module Fld.telStreamDstEid k), src := s.myEid .module, opcode := 0xA0, tc := 7, plane := false
    keyIndex := BitVec.ofNat 13 (s.rd .module Fld.telStreamKeyIndex k), keyEpoch := BitVec.ofNat 4 (s.rd .module Fld.telStreamKeyEpoch k)
    offset := BitVec.ofNat 44 off, payload := payload, length := BitVec.ofNat 12 (payload.length - 1) }

/-- Packets of a stream's period that are not complete. -/
def streamBusy (k : Nat) (s : State) : Bool := s.module.xpt.ops.any fun o => decide (o.use = .telemetry k)

/-- The bytes that all streams have sent within the last `us` µs. -/
def sentWithin (us : Nat) (s : State) : Nat := ((s.m.tel.sent.filter fun x => decide (s.now < x.1 + 1000 * us)).map (·.2)).sum

/-- A stream's period falls due (R483): its packets leave, or the period is skipped. -/
def streamPeriod (k : Nat) (s : State) : State :=
  let n := smapGet s.m.tel.periods 0 k
  let s0 := onTel (fun t => { t with periods := smapPut t.periods 0 k (n + 1) }) s
  let us := s.rd .module Fld.telStreamPeriodUs k
  let ps := streamPayloads k n s
  let bytes := (ps.map List.length).sum
  if streamBusy k s || decide (s.rd .module Fld.telCtlMaxRate * us < sentWithin us s + bytes) then bump .module .telSkipCnt 0 s0
  else
    let s1 := onTel (fun t => { t with sent := (s.now, bytes) :: t.sent.filter fun x => decide (s.now < x.1 + 1000000000) }) s0
    (List.range ps.length).foldl (fun s j =>
      let slot := (n * ps.length + j) % 2 ^ s.rd .module Fld.telStreamRingLog2 k
      let off := (s.rd .module Fld.telStreamBase k + slot) * 4096
      issueOp .module none (.telemetry k) true (telemetryPacket k off (ps.getD j []) s) s) s1

end Sys2Proof.Machine
end

