-- ==== Sys2Proof/Machine/TelCmds.lean ====
section
/-! DEFINITION. Snapshots, streams and background pauses (R479 to R483): the meanings of their commands. -/

namespace Sys2Proof.Machine

/-- A write of TEL.SNAP_CTL (R481): the counters of the groups are latched; while a snapshot is being written it is discarded and
recorded. -/
def writeSnapCtl (groups : Nat) (s : State) : State :=
  let mask := groups % 8192
  if s.rdb .module Fld.telSnapStatusBusy then regAccess .module (regOffset .module .telSnapCtl 0 0) groups s
  else (onTel (fun t => { t with latch := some (mask, s.module.time, latchCounters mask s) }) s).wrb .module Fld.telSnapStatusBusy 0 true

/-- SNAP_CTL (R481). -/
def execSnapCtl (groups : Nat) (s : State) : Host.Outcome State Fault Refusal := .next (writeSnapCtl groups s)

/-- The header of a snapshot (R481). -/
def snapHeader (seq mask time : Nat) : List Byte := leBytes 4 seq ++ leBytes 2 mask ++ zeros 2 ++ leBytes 10 time ++ zeros 14

/-- SNAPSHOT_PUBLISH (R481): the half that was not published last is written and published. -/
def execSnapshotPublish (s : State) : Host.Outcome State Fault Refusal :=
  .next (match s.m.tel.latch with
    | none => s
    | some (mask, time, values) =>
      let half := !s.m.tel.lastHalf
      let base := if half then 524288 else 0
      let seq := (s.rd .module Fld.telSnapStatusSeq + 1) % 2 ^ 32
      let data := (snapHeader seq mask time ++ values.flatMap fun w => leBytes 8 w.toNat).take 524288
      let s1 := onPool (fun p => { p with mwin := memWrite p.mwin base data }) s
      let s2 := onTel (fun t => { t with latch := none, lastHalf := half }) s1
      raiseSource 81 ((s2.wr .module Fld.telSnapStatusSeq 0 seq).wrb .module Fld.telSnapStatusBusy 0 false))

/-- TELEMETRY_PERIOD (R479, R483): PERIOD_US of a stream that runs has passed. -/
def execTelemetryPeriod (k : Nat) (s : State) : Host.Outcome State Fault Refusal :=
  .next (if s.rdb .module Fld.telStreamValid k && !(s.rd .module Fld.telBgCtlPause).testBit 5 then settleBoth (streamPeriod k s) else s)

/-- PAUSE_LIMIT_EXPIRE (R476, R477, R479): a paused scrub resumes over policy. -/
def execPauseLimitExpire (activity : Nat) (s : State) : Host.Outcome State Fault Refusal :=
  .next (if activity < 2 ∧ (s.rd .module Fld.telBgCtlPause).testBit activity = true then overridePolicy 6 18 (regOffset .module .telBgCtl 0 0) s
    else s)

end Sys2Proof.Machine
end

