-- ==== Sys2Proof/Machine/Tiles.lean ====
section
/-! DEFINITION. Repair in service and role changes (R443 to R449): the meanings of their commands. -/

namespace Sys2Proof.Machine

/-- SRAM_SCRUB_PASS_END (R443): a scrub pass over a logical tile corrected so many words. -/
def execSramScrubPassEnd (t corrected : Nat) (items : TileItems) (s : State) : Host.Outcome State Fault Refusal :=
  .next (if tileServes t s then settle .module (scrubbed t corrected items s) else s)

/-- TILE_UE (R443, R445, R450). -/
def execTileUe (t : Nat) (fault : TileFault) (items : TileItems) (s : State) : Host.Outcome State Fault Refusal :=
  .next (if !tileServes t s then s
    else settle .module (match fault with
      | .word => tileError t false items s
      | .selfCheck => tileError t true items s
      | .replacement => replacementFails t items s))

/-- A JIG.ROLE_CMD write: one written while a command runs is discarded and recorded (R449). -/
def roleCommand (t value : Nat) (f : State → State) (s : State) : State :=
  if s.rdb .module Fld.jigRoleStatusBusy then regAccess .module (regOffset .module .jigRoleCmd 0 0) value s
  else f (beginRole t s)

/-- RETIRE (R444, R446, R449, R450). -/
def retireCommand (t : Nat) (items : TileItems) (s : State) : State :=
  if !tileServes t s || decide (s.rd .module Fld.glbBringupStatusStep < 3) then endRole stResource s
  else if tilesServe s then retireReadable t true items s
  else endRole stOk (markBad t s)

def execRetire (t : Nat) (items : TileItems) (s : State) : Host.Outcome State Fault Refusal :=
  .next (settle .module (roleCommand t (2 ^ 60 + t) (retireCommand t items) s))

/-- TO_SPARE (R449): a REDUCE tile whose slots have to free first, or a DIRECTORY tile. -/
def toSpare (t : Nat) (s : State) : State :=
  let role := tileRole t s
  if !tileServes t s then endRole stVersion s
  else if role = 0 then
    if s.rd .module Fld.mrnStatusSlotsReserved + 12 ≤ s.rd .module Fld.mrnStatusSlotsTotal then
      settleSpare (onTile (fun x => { x with change := some { tile := t, role := 5 } }) s)
    else endRole stResource s
  else if role = 1 && s.isLeaf then
    startFlush (roleCount 1 s - 1) none (onTile (fun x => { x with change := some { tile := t, role := 5 } }) s)
  else endRole stVersion s

def execToSpare (t : Nat) (s : State) : Host.Outcome State Fault Refusal :=
  .next (settle .module (roleCommand t (2 * 2 ^ 60 + t) (toSpare t) s))

/-- FROM_SPARE (R449). -/
def fromSpare (t role : Nat) (s : State) : State :=
  let begin' := onTile (fun x => { x with change := some { tile := t, role := role } }) s
  if t < 2048 ∧ tileRole t s = 5 then
    if role = 0 then finishChange begin'
    else if role = 1 ∧ s.isLeaf = true then
      if roleCount 1 s < 511 then startFlush (roleCount 1 s + 1) none begin' else endRole stResource s
    else endRole stVersion s
  else endRole stVersion s

def execFromSpare (t role : Nat) (s : State) : Host.Outcome State Fault Refusal :=
  .next (settle .module (roleCommand t (3 * 2 ^ 60 + role * 2 ^ 54 + t) (fromSpare t role) s))

/-- TO_SPARE_TIMEOUT (R449): slots still held after 100 ms; admission resumes. -/
def execToSpareTimeout (s : State) : Host.Outcome State Fault Refusal :=
  .next (if slotsWithheld s = 12 then endRole stRetryLater (onTile (fun x => { x with change := none }) s) else s)

/-- MIGRATION_COMPLETE (R444 step 6). -/
def execMigrationComplete (s : State) : Host.Outcome State Fault Refusal :=
  .next (match s.m.tile.migration with
    | none => s
    | some x => settle .module (endMigration x (switchTile x.tile x.phys s)))

end Sys2Proof.Machine
end

