-- ==== Sys2Proof/Machine/TimeCmds.lean ====
section
/-! DEFINITION. Fabric time (R453 to R463): the meanings of its commands. -/

namespace Sys2Proof.Machine

/-- A TC1 packet that arrived on a port: taken, and dropped where its check fails (R69). -/
def takeTc1 (sd : Side) (p : Nat) (pkt : Packet) (op : BitVec 8) (f : State → State) (s : State) : State :=
  if pkt.opcode ≠ op then s
  else
    let s1 := consumeArrived sd p pkt s
    if !pchkGood pkt then bump sd .xptPchkDiscardCnt 0 s1 else f s1

/-- TIME_SYNC (R457): its receive time is t2 of the exchange; its flags tell whether the source is usable. -/
def execTimeSync (sd : Side) (p : Nat) (pkt : Packet) (stamp : Nat) (s : State) : Host.Outcome State Fault Refusal :=
  .next (takeTc1 sd p pkt 0x10 (fun s =>
    let s1 := onExchange sd p (fun e => { e with
      flags := packetFlags pkt, stratum := packetStratum pkt, seq := packetSeq pkt, t2 := some (stampOf stamp), t1 := none }) s
    match sd with
    | .module => settleSource s1
    | .endpoint => chooseLeaf p (packetFlags pkt) s1) s)

/-- TIME_FOLLOW (R456, R457): t1 of the TIME_SYNC with the same SEQ_ID. -/
def execTimeFollow (sd : Side) (p : Nat) (pkt : Packet) (s : State) : Host.Outcome State Fault Refusal :=
  .next (takeTc1 sd p pkt 0x11 (fun s =>
    if (exchange sd p s).seq = packetSeq pkt ∧ (exchange sd p s).t2.isSome = true then
      onExchange sd p (fun e => { e with t1 := some (packetTime pkt) }) s
    else s) s)

/-- TIME_DELAY_REQ (R457): a module answers it with its receive time. -/
def execTimeDelayReq (sd : Side) (p : Nat) (pkt : Packet) (stamp : Nat) (s : State) : Host.Outcome State Fault Refusal :=
  .next (takeTc1 sd p pkt 0x12 (fun s => match sd with
    | .module => sendTime p 0x13 (packetSeq pkt) (stampOf stamp) s
    | .endpoint => s) s)

/-- TIME_DELAY_RSP (R457, R459): the exchange is complete; one that lost a packet is skipped. -/
def execTimeDelayRsp (sd : Side) (p : Nat) (pkt : Packet) (s : State) : Host.Outcome State Fault Refusal :=
  .next (takeTc1 sd p pkt 0x13 (fun s =>
    let e := exchange sd p s
    match e.t1, e.t2, e.req with
    | some t1, some t2, some (seq, t3) =>
      if seq = packetSeq pkt then
        takeOffset sd p (exchangeOffset t1 t2 t3 (packetTime pkt)) (onExchange sd p (fun e => { e with t1 := none, t2 := none, req := none }) s)
      else s
    | _, _, _ => s) s)

/-- The endpoint block's ports towards the leaves: the lowest UP port of each plane. -/
def leafPorts (s : State) : List Nat := ((epUpPorts false s).take 1) ++ ((epUpPorts true s).take 1)

/-- TIME_SYNC_TIMER (R457): `stamps` gives the transmit times at the pins by port; a port it does not name transmits now. -/
def execTimeSyncTimer (sd : Side) (stamps : List (Nat × Nat)) (s : State) : Host.Outcome State Fault Refusal :=
  let at' := fun (p : Nat) => stampOf ((stamps.lookup p).getD (s.unit sd).time)
  let seq := (s.unit sd).sync.nextSeq
  let s0 := onSync sd (fun x => { x with nextSeq := (seq + 1) % 65536 }) s
  .next (match sd with
    | .module =>
      let s1 := settleSource s0
      let s2 := ((List.range 1024).filter fun p => portUp .module p s1).foldl (fun s p => sendTime p 0x11 seq (at' p) (sendTime p 0x10 seq 0 s)) s1
      if topRole s2 = 1 then s2
      else ((parents s2).filter fun p => portUp .module p s2).foldl (fun s p => sendDelayReq .module p seq (at' p) s) s2
    | .endpoint => (leafPorts s0).foldl (fun s p => sendDelayReq .endpoint p seq (at' p) s) s0)

/-- The offset of fabric time from whole seconds at an edge, after the cable delay (R454, R484: units of 10 ps). -/
def ppsOffset (stamp : Nat) (s : State) : Int :=
  let sec : Int := 65536 * 1000000000
  let delay : Int := s.rd .module Fld.topPpsDelayPs * 10 * 65536 / 1000
  let x := ((stamp : Int) - delay) % sec
  if x < sec / 2 then x else x - sec

/-- An edge of PPS_IN (R454, R458, R463, R484): `good` within 10 ppm, and the 10 MHz input present. -/
def ppsEdge (stamp : Nat) (good tenMhz : Bool) (s : State) : State :=
  let ok := match topRole s with
    | 1 => good && tenMhz
    | _ => good
  let s1 := (s.wrb .module Fld.topStatusExtOk 0 (good && tenMhz)).wrb .module Fld.topStatusPeerPpsOk 0 (decide (topRole s = 3) && good)
  let s2 := if s1.m.top.atPps && ok then
      correctTime .module (timeDiff stamp (s1.rd .module Fld.topSetNs * 65536)) (onTop (fun t => { t with atPps := false, setLoaded := true }) s1)
    else s1
  let s3 := settleSource s2
  if topRole s3 = 3 ∧ s3.m.top.gmTaken = true ∧ good = true then logModule { code := 0x61, severity := 1, block := 16 } s3
  else if !ok || topPaused s3 || !ppsSource s3 then s3
  else
    let off := if s.m.top.atPps then 0 else ppsOffset stamp s3
    settleLock 25 (correctTime .module off (filterTime .module off s3))

/-- PPS_IN_EDGE (R458). -/
def execPpsInEdge (stamp : Nat) (good tenMhz : Bool) (s : State) : Host.Outcome State Fault Refusal := .next (ppsEdge stamp good tenMhz s)

/-- TIME_SOURCE_LOSS (R458): nothing usable for 2 ms from a parent port, or from the external reference or peer pulse. -/
def execTimeSourceLoss (port : Option Nat) (s : State) : Host.Outcome State Fault Refusal :=
  .next (loseSource (match port with
    | some p => onExchange .module p (fun e => { e with flags := 0 }) s
    | none => (s.wrb .module Fld.topStatusExtOk 0 false).wrb .module Fld.topStatusPeerPpsOk 0 false))

/-- HOLDOVER_EXPIRE (R458, R479): HOLDOVER has lasted HOLDOVER_MS. Where a pause made it, the discipline resumes over the policy. -/
def execHoldoverExpire (s : State) : Host.Outcome State Fault Refusal :=
  .next (if topState s ≠ 3 then s
    else if topPaused s then
      let s1 := overridePolicy 7 18 (regOffset .module .telBgCtl 0 0) s
      settleSource (if anySource s1 then s1 else enterTop 0 s1)
    else enterTop 0 s)

/-- TOP.SET_CTL.GO (R459, R484). -/
def setTime (atPps : Bool) (s : State) : State :=
  if atPps then onTop (fun t => { t with atPps := true }) s
  else correctTime .module (timeDiff s.module.time (s.rd .module Fld.topSetNs * 65536)) s

/-- TOP_SET_GO (R459, R484). -/
def execTopSetGo (atPps : Bool) (s : State) : Host.Outcome State Fault Refusal := .next (setTime atPps s)

/-- GM_CHANGE (R463): the standby takes over. -/
def execGmChange (s : State) : Host.Outcome State Fault Refusal :=
  .next (if topRole s = 3 && s.rdb .module Fld.topCtlAutoGm && !s.rdb .module Fld.topStatusPeerPpsOk && !s.m.top.gmTaken then
      settleSource (logModule { code := 0x61, severity := 1, block := 16, arg0 := s.rd .module Fld.topOffsetPs % 2 ^ 44 }
        (onTop (fun t => { t with gmTaken := true }) s))
    else s)

/-- STEPPED_EXPIRE (R459). -/
def execSteppedExpire (s : State) : Host.Outcome State Fault Refusal := .next (s.wrb .module Fld.topStatusStepped 0 false)

/-- GRANDMASTER_TIMEOUT (R462): no grandmaster message for 2 ms; the block follows a locked leaf. -/
def execGrandmasterTimeout (s : State) : Host.Outcome State Fault Refusal :=
  let s1 := onSync .endpoint (fun x => { x with
    gmLost := true
    exchanges := x.exchanges.map fun (q, e) => (q, if e.flags.testBit 0 && e.flags.testBit 1 then { e with flags := 0 } else e) }) s
  .next (match lockedLeaf s1 with
    | some p => followLeaf p s1
    | none => s1)

/-- TIME_LOST (R397, R462): no leaf is usable; the block enters holdover. -/
def execTimeLost (s : State) : Host.Outcome State Fault Refusal :=
  .next (logEndpoint { code := 0xC8, severity := 1, block := 0x7F } (onSync .endpoint (fun x => { x with source := none, gmLost := true }) s))

/-- FT_VALID_EXPIRE (R462): 100 ms into holdover, FT_VALID falls. -/
def execFtValidExpire (s : State) : Host.Outcome State Fault Refusal :=
  .next (if s.e.ftValid && s.endpoint.sync.source.isNone then raiseVector 8 (s.onE fun e => { e with ftValid := false }) else s)

end Sys2Proof.Machine
end

