-- ==== Sys2Proof/Machine/RegOps.lean ====
section
/-! DEFINITION. What a read of a register returns and what a write of one does (R9, R10, R353, R392, R514, R555, R556): the fields by
their access codes, and the registers whose write acts. -/

namespace Sys2Proof.Machine

/-! ## Reads -/

/-- The registers of a lane window and of a port window (R108, R140). -/
def isPrt : Reg → Bool
  | .prtCtl | .prtStatus | .prtVersion | .prtCrcErr | .prtReplayCnt | .prtFecCorr | .prtFecUncorr | .prtFlitLost | .prtDegradeCnt
  | .prtIngressDiscard | .prtMalformed => true
  | _ => false

/-- The registers of the DIR block. -/
def isDir : Reg → Bool
  | .dirCtl | .dirStatus | .dirPoolCtl | .dirPoolStatus | .dirBinvCnt | .dirBcastCnt | .dirStaleWbCnt | .dirPoisonCnt | .dirSnpTimeoutCnt
  | .dirNcGrantCnt | .dirRecoverCnt | .dirRegion => true
  | _ => false

/-- A port window that begins no port (R140, R352). -/
def portShut (sd : Side) (r : Reg) (i : Nat) (s : State) : Bool := isPrt r && decide (portWidth sd i s = 0)

/-- A register that a spine or crown does not have (R269, R485), or the endpoint block's LNK.PLAN (R393): it reads as zero and a write is
discarded. -/
def absent (sd : Side) (r : Reg) (s : State) : Bool := match sd with
  | .module => (isDir r || decide (r = .pwrEp)) && s.hasRole && !s.isLeaf
  | .endpoint => decide (r = .lnkPlan)

/-- A register word as it reads, with the fields that follow other state (R160, R212, R240, R271, R344, R435, R484, R508, R519, R550). -/
def liveWord (sd : Side) (r : Reg) (i w : Nat) (s : State) : Word :=
  let v := s.word sd r i w
  match r with
  | .glbBringupStatus => withBits v 63 32 (if bringBusy s then (s.now - s.m.bring.startedAt) / 1000000 else s.m.bring.lastedMs)
  | .rteFeat => withBits (withBits 0 63 63 (b2n (portUp .module i s))) 18 8 (portFeat i s)
  | .rtePgrp => withBits (withBits v 58 48 (groupFeat i s)) 47 38 (upMembers i s).length
  | .xptStatus => withBits v 39 20 (entriesUsed sd s).length
  | .memReplayStatus => withBits v 16 0 (s.xpt sd).replay.length
  | .dirRegion => if w = 0 then withBits v 58 58 (b2n (modeNow i s)) else v
  | .ctaStatus => withBits v 7 0 (((List.range 8).filter fun a => match frontCmd (64 + a) s with
      | some c => c.started && !c.ended
      | none => false).foldl (fun n a => n + 2 ^ a) 0)
  | .pupProg => match grantOf i s with
    | some g => if 2 ≤ w then Config.grantWord g w else v
    | none => v
  | .topTime => BitVec.ofNat 64 (s.module.time / 65536)
  | .topStatus => withBits v 20 20 (b2n (isGm s))
  | .pwrInput => coarseInput s v
  | .pwrStatus => withBits v 63 32 (coarseW s (bitsOf v 63 32))
  | .pwrEp => if w = 1 then withBits (withBits v 63 48 (4 * coarseW s (bitsOf v 63 48 / 4) + (if s.rdb .module Fld.secCtlFullRes then
      bitsOf v 63 48 % 4 else 0))) 47 32 (4 * coarseW s (bitsOf v 47 32 / 4) + (if s.rdb .module Fld.secCtlFullRes then bitsOf v 47 32 % 4 else 0))
    else v
  | .secSlot => withBits v 59 59 (b2n (slotStale .module i s))
  | .fltLive => withBits v 19 0 (unitBehind i s).toNat
  | _ => v

/-- The bytes of MGT.MBX_RSP from an address of BAR0 (R520). -/
def mailboxRead (a : Nat) (s : State) : Word :=
  if 0x2802000 ≤ a ∧ a < 0x2803000 then BitVec.ofNat 64 (leNat (slice s.m.sec.response (a - 0x2802000) 8)) else 0

/-- What a read of 8 bytes at an aligned address returns; an address that no chapter lists reads as zero (R392, R556). -/
def readRegister (sd : Side) (a : Nat) (s : State) : Word :=
  if a % 8 ≠ 0 then 0
  else match regAt sd a with
    | some (r, i, w) => if absent sd r s || (portShut sd r i s && !(decide (sd = .endpoint) && decide (r = .prtCtl))) then 0
      else if portShut sd r i s then s.word sd r i w &&& 0xFF0
      else liveWord sd r i w s
    | none => match sd with
      | .module => mailboxRead a s
      | .endpoint => 0

/-- A read changes nothing, but that of MGT.RSP_LEN (R520, R556). -/
def afterRead (sd : Side) (a : Nat) (s : State) : State :=
  if sd = .module ∧ a = regOffset .module .mgtRspLen 0 0 then s.wrb .module Fld.mgtStatusRspReady 0 false else s

/-! ## Plain fields -/

/-- One field takes its part of a written word (R9, R10). -/
def putField (sd : Side) (a : Nat) (r : Reg) (i : Nat) (v : Word) (s : State) (f : FieldDesc) : State :=
  let old := s.word sd r i f.word
  let x := bitsOf v f.hi f.lo
  match f.acc with
  | .ro => s
  | .wo => s
  | .rw => if f.allowed.ok x then s.setWord sd r i f.word (withBits old f.hi f.lo x) else regAccess sd a v.toNat s
  | .rwl => if f.allowed.ok x then s.setWord sd r i f.word (withBits old f.hi f.lo x) else regAccess sd a v.toNat s
  | .w1c => s.setWord sd r i f.word (withBits old f.hi f.lo (bitsOf (old &&& ~~~v) f.hi f.lo))
  | .w1s => s.setWord sd r i f.word (withBits old f.hi f.lo (bitsOf (old ||| v) f.hi f.lo))

/-- A counter (R480): a 1 to OVF clears OVF and COUNT. -/
def putCounter (sd : Side) (r : Reg) (i : Nat) (v : Word) (s : State) : State :=
  if v.getLsbD 63 then s.setWord sd r i 0 0 else s

/-- The fields of a word that pass a test take a written word; RWL fields through the path's gate, which discards and counts once. -/
def putFields (sd : Side) (path : Path) (a : Nat) (r : Reg) (i w : Nat) (v : Word) (keep : FieldDesc → Bool) (s : State) : State :=
  if r.isCounter then putCounter sd r i v s
  else
    let fs := r.fields.filter fun f => decide (f.word = w) && keep f
    let rest := (fs.filter fun f => decide (f.acc ≠ .rwl)).foldl (putField sd a r i v) s
    if fs.any fun f => decide (f.acc = .rwl) then
      rwl sd path a v.toNat (fun s => (fs.filter fun f => decide (f.acc = .rwl)).foldl (putField sd a r i v) s) rest
    else rest

/-- The fields of a word take a written word. -/
def putWord (sd : Side) (path : Path) (a : Nat) (r : Reg) (i w : Nat) (v : Word) (s : State) : State :=
  putFields sd path a r i w v (fun _ => true) s

/-! ## Lanes and ports -/

/-- A lane whose ENABLE clears goes to DISABLED (R88). -/
def disableLane (sd : Side) (n : Nat) (s : State) : State :=
  let s1 := s.wrb sd Fld.lnkCtlEnable n false
  if laneSt sd n s = 0 then s1 else (setLaneSt sd n 0 (laneLeaves sd n s1)).onLane sd n (clearTraining false)

/-- A write of LNK.CTL (R88, R97, R98, R105, R109). -/
def writeLnkCtl (sd : Side) (path : Path) (a n : Nat) (v : Word) (s : State) : State :=
  let s1 := putFields sd path a .lnkCtl n 0 v (fun f => !(([13, 0] : List Nat).contains f.hi)) s
  let s2 := if rwlOpen sd path a s then
      let t := writePower sd n (bitsOf v 13 12) s1
      if v.getLsbD 0 then (if t.rdb sd Fld.lnkCtlEnable n then t else enableLane sd n t) else disableLane sd n t
    else s1
  let s3 := if v.getLsbD 2 then flushCache sd n s2 else s2
  let s4 := if v.getLsbD 1 then spareNow sd n s3 else s3
  if v.getLsbD 3 then retrainLane sd n s4 else s4

/-- A width that the endpoint block's window may hold (R352). -/
def portWidthOk (p x min : Nat) : Bool := ([1, 2, 4, 8] : List Nat).contains x && decide (p % x = 0) && decide (min ≤ x)

/-- A write of PRT.CTL (R140, R142, R352). MIN_WIDTH may not exceed WIDTH as it reads; on the endpoint block WIDTH is RWL. -/
def writePrtCtl (sd : Side) (path : Path) (a p : Nat) (v : Word) (s : State) : State :=
  let shut := portShut sd .prtCtl p s
  let old := s.word sd .prtCtl p 0
  let min := bitsOf v 7 4
  let setMin := fun (s : State) =>
    if 1 ≤ min ∧ min ≤ s.rd sd Fld.prtCtlWidth p then s.wr sd Fld.prtCtlMinWidth p min else regAccess sd a v.toNat s
  let setWidth := fun (s : State) => match sd with
    | .module => s
    | .endpoint => if portWidthOk p (bitsOf v 11 8) (bitsOf old 7 4) then s.wr sd Fld.prtCtlWidth p (bitsOf v 11 8) else regAccess sd a v.toNat s
  match sd, shut with
  | .module, true => regAccess .module a v.toNat s
  | .endpoint, true => rwl .endpoint path a v.toNat (fun s => setWidth (setMin s)) s
  | _, false =>
    let s1 := putFields sd path a .prtCtl p 0 v (fun f => !(([11, 7] : List Nat).contains f.hi)) s
    let s2 := if rwlOpen sd path a s then setWidth (setMin s1) else s1
    if v.getLsbD 1 then downCommand sd p s2 else s2

/-! ## The module -/

/-- An index of a module EID that its tier allows (R49). -/
def indexOk (tier index : Nat) : Bool := match tier with
  | 0 => decide (index < 2048)
  | 1 => decide (index < 2048)
  | 2 => decide (index < 1024)
  | _ => false

/-- A write of GLB.EID.EID (R50, R51). -/
def writeEid (a : Nat) (v : Word) (s : State) : State :=
  let e : Eid := BitVec.ofNat 20 (bitsOf v 19 0)
  if s.rdb .module Fld.glbEidLocked || !isModuleEid e || decide (eidTier e ≠ s.rd .module Fld.glbRoleRole)
      || (eidPlane e != s.rdb .module Fld.glbRolePlane) || !indexOk (eidTier e) (eidIndex e) then regAccess .module a v.toNat s
  else s.wr .module Fld.glbEidEid 0 e.toNat

/-- A write of GLB.BRINGUP_CTL (R435, R439): STEP is not written where UNLOAD is and STEP is 0. -/
def writeBringupCtl (path : Path) (a : Nat) (v : Word) (s : State) : State :=
  let n := bitsOf v 3 0
  let s1 := if v.getLsbD 4 then writeUnload s else s
  if v.getLsbD 4 && decide (n = 0) then s1 else rwl .module path a v.toNat (startStep n) s1

/-- A write of GLB.RESET (R540). -/
def writeReset (a : Nat) (v : Word) (s : State) : State := match bitsOf v 2 0 with
  | 1 => coldReset false s
  | 2 => warmReset 2 s
  | 4 => restartPuppeteer 2 s
  | _ => regAccess .module a v.toNat s

/-- A write of JIG.ROLE_CMD (R449): what the tile held is a free value where the command has no operand for it. -/
def writeRoleCmd (a : Nat) (v : Word) (s : State) : State :=
  let t := bitsOf v 10 0
  match bitsOf v 63 60 with
  | 1 => let f := s.spendFree
    roleCommand t v.toNat (retireCommand t (Config.retiredItems f.1)) f.2
  | 2 => roleCommand t v.toNat (toSpare t) s
  | 3 => roleCommand t v.toNat (fromSpare t (bitsOf v 56 54)) s
  | _ => regAccess .module a v.toNat s

/-- A write of JIG.SRC_ADDR or JIG.SRC_SIZE during steps 4 to 7 is discarded and recorded (R450). -/
def sourceLocked (s : State) : Bool := bringBusy s && decide (4 ≤ bringStep s) && decide (bringStep s ≤ 7)

/-- A write of RTE.RACK or RTE.MOD names a reserved value (R160): LOCAL but for a leaf's own rack, or RING_HOPS beyond 1 to 4 on a
BYPASS. -/
def routeReserved (r : Reg) (i : Nat) (v : Word) (s : State) : Bool :=
  let kind := bitsOf v 62 60
  let own := decide (r = .rteRack) && s.isLeaf && decide (i = eidIndex (s.myEid .module))
  (v.getLsbD 63 && decide (kind = 0) && !own) || (decide (kind = 3) && !(decide (1 ≤ bitsOf v 36 34) && decide (bitsOf v 36 34 ≤ 4)))

/-- A write of DIR.REGION (R271): VALID and COHERENT clear only once the region's lines are back-invalidated. -/
def writeRegion (path : Path) (a i w : Nat) (v : Word) (s : State) : State :=
  if w ≠ 0 then putWord .module path a .dirRegion i w v s
  else
    let cv := s.rdb .module Fld.dirRegionValid i && !v.getLsbD Fld.dirRegionValid.lo
    let cc := s.rdb .module Fld.dirRegionCoherent i && !v.getLsbD Fld.dirRegionCoherent.lo
    let v1 := if cv then withBits v Fld.dirRegionValid.hi Fld.dirRegionValid.lo 1 else v
    let v2 := if cc then withBits v1 Fld.dirRegionCoherent.hi Fld.dirRegionCoherent.lo 1 else v1
    let s1 := putWord .module path a .dirRegion i 0 v2 s
    if (cv || cc) && rwlOpen .module path a s then clearRegion i cv cc s1 else s1

/-- The reserved slots of the valid contexts (R275). -/
def reservedSlots (s : State) : Nat :=
  ((List.range 256).map fun n => if s.rdb .module Fld.mrnCtxValid n then s.rd .module Fld.mrnCtxResSlots n else 0).sum

/-- A context whose VALID clears: its open chunks are discarded, and nothing of it is kept (R275). -/
def forgetContext (n : Nat) (s : State) : State :=
  let s1 := dropChunks n (fun _ => true) s
  let s2 := onMrn (fun m => { m with
    results := m.results.filter fun r => decide (r.ctx ≠ n)
    aborts := smapErase m.aborts n
    passed := m.passed.filter fun p => decide (p.ctx ≠ n)
    refusedAt := m.refusedAt.filter fun p => decide (p.ctx ≠ n)
    members := m.members.filter fun p => decide (p.1 / 1024 ≠ n)
    failed := smapErase m.failed n }) s1
  s2.wr .module Fld.mrnCtxState n 0

/-- A write of a word of MRN.CTX (R275). -/
def writeMrnCtx (path : Path) (a n w : Nat) (v : Word) (s : State) : State :=
  let t := putWord .module path a .mrnCtx n w v s
  let sum := reservedSlots t
  if t.rdb .module Fld.mrnCtxValid n && decide (s.rd .module Fld.mrnStatusSlotsTotal < sum) && rwlOpen .module path a s then
    regAccess .module a v.toNat s
  else
    let t1 := t.wr .module Fld.mrnStatusSlotsReserved 0 sum
    if s.rdb .module Fld.mrnCtxValid n && !t.rdb .module Fld.mrnCtxValid n then forgetContext n t1 else t1

/-- A write of ENG.CTL (R409): scratchpad windows that do not fit 8,192 KiB are refused as a whole. -/
def writeEngCtl (path : Path) (a : Nat) (v : Word) (s : State) : State :=
  if 8192 < 16 * bitsOf v 9 0 + 8 * bitsOf v 25 16 + bitsOf v 45 32 then regAccess .module a v.toNat s
  else putWord .module path a .engCtl 0 0 v s

/-- A write of PUP.LOAD (R423). -/
def writePupLoad (a : Nat) (v : Word) (s : State) : State :=
  let n := bitsOf v 59 48
  let f := s.spendFree
  if n = 0 ∨ 64 < n then regAccess .module a v.toNat s
  else loadProgram (bitsOf v 63 60) n (bitsOf v 41 0) (Config.loadGrant f.1) f.2

/-- A write of TOP.CTL (R458, R463, R484): the new role and parents choose the source afresh. -/
def writeTopCtl (path : Path) (a : Nat) (v : Word) (s : State) : State :=
  settleSource (onTop (fun t => { t with gmTaken := t.gmTaken && decide (bitsOf v 41 40 = 3) }) (putWord .module path a .topCtl 0 0 v s))

/-- A write of PWR.CAP_CTL (R465); the modelled power is a free value where the command has no operand for it. Stages that are left when
STAGE_EN clears are sent at once (R469). -/
def writeCapCtl (v : Word) (s : State) : State :=
  let f := s.spendFree
  writeCap v (Config.shedPower f.1) f.2

/-- A write of TEL.BG_CTL (R477, R479): a pause of Top enters holdover; a loop that acted against a pause ends with it. -/
def writeBgCtl (path : Path) (a : Nat) (v : Word) (s : State) : State :=
  let t := putWord .module path a .telBgCtl 0 0 v s
  let on := t.rd .module Fld.telBgCtlPause
  let t1 := if on.testBit 0 || on.testBit 1 then t else endOverride 6 t
  let t2 := if on.testBit 3 then t1 else endOverride 7 t1
  settleSource t2

/-- A write of SEC.SLOT_CMD (R498, R509, R519). -/
def writeSlotCmd (a : Nat) (v : Word) (s : State) : State :=
  let k := bitsOf v 16 4
  match bitsOf v 63 60 with
  | 1 => let r := retireSlot .module k (bitsOf v 3 0) s
    retireStatus k r.1 r.2
  | 2 => let r := activateOrd .module k (bitsOf v 3 0) s
    retireStatus k r.1 r.2
  | _ => regAccess .module a v.toNat s

/-- A write of word 0 of FLT.SHADOW (R531, R536, R539): an entry put in force begins its comparison anew, and the unit behind its port, where this module
is the working one, is in SHADOW. -/
def writeShadow (path : Path) (a e w : Nat) (v : Word) (s : State) : State :=
  let t := putWord .module path a .fltShadow e w v s
  if w = 0 ∧ t.rdb .module Fld.fltShadowValid e = true ∧ rwlOpen .module path a s = true then
    let t1 := (onLive (fun l => { l with shadows := l.shadows.filter fun x => decide (x.entry ≠ e) }) t).setWord .module .fltShadow e 2 0
    let t2 := t1.setWord .module .fltShadow e 3 (withBits (t1.word .module .fltShadow e 3) 1 0 0)
    if t2.rdb .module Fld.fltShadowKind e || !t2.rdb .module Fld.fltShadowSide e then
      t2.wr .module Fld.fltLiveState (t2.rd .module Fld.fltShadowShadowPort e) 3
    else t2
  else t

/-- A write of the RAT block (R515, R545): one that enables injection takes effect only while armed, from a TEST session. -/
def writeRat (test : Bool) (path : Path) (a : Nat) (r : Reg) (i w : Nat) (v : Word) (s : State) : State :=
  if w = 0 && v.getLsbD 63 && !(test && s.rdb .module Fld.secStatusTestArmed) then regAccess .module a v.toNat s
  else
    let t := putWord .module path a r i w v s
    if r = .ratRule ∧ w = 0 ∧ rwlOpen .module path a s = true then
      t.onM fun m => { m with rattle := { m.rattle with spent := smapErase m.rattle.spent i } }
    else t

/-- What a write of a register of BAR0 does; `test`: it comes from a TEST session. -/
def writeModule (test : Bool) (path : Path) (a : Nat) (r : Reg) (i w : Nat) (v : Word) (s : State) : State :=
  let put := putWord .module path a r i w v
  let gated := fun (f : State → State) => rwl .module path a v.toNat f s
  match r with
  | .glbEid => gated (writeEid a v)
  | .glbBringupCtl => writeBringupCtl path a v s
  | .glbReset => writeReset a v s
  | .jigSrcAddr => if sourceLocked s then regAccess .module a v.toNat s else put s
  | .jigSrcSize => if sourceLocked s then regAccess .module a v.toNat s else put s
  | .jigRoleCmd => writeRoleCmd a v s
  | .nocCtl => gated (writeNocCtl v.toNat (v.getLsbD 0) (v.getLsbD 1))
  | .lnkCtl => writeLnkCtl .module path a i v s
  | .lnkPlan => gated (writePlan i v)
  | .prtCtl => writePrtCtl .module path a i v s
  | .rteRack => if routeReserved .rteRack i v s then regAccess .module a v.toNat s else put s
  | .rteMod => if routeReserved .rteMod i v s then regAccess .module a v.toNat s else put s
  | .xptPeerReset => writePeerReset .module (BitVec.ofNat 20 (bitsOf v 19 0)) s
  | .memWin => if w = 0 ∧ bitsOf v 57 56 = 2 then regAccess .module a v.toNat s else put s
  | .dirPoolCtl => settlePool (if s.m.pool.installedGib < bitsOf v 12 1 ∧ 0 < s.m.pool.installedGib then regAccess .module a v.toNat s else put s)
  | .dirRegion => writeRegion path a i w v s
  | .mrnCtx => writeMrnCtx path a i w v s
  | .redQueryCtl => queryRecord (bitsOf v 35 24) (bitsOf v 23 0) s
  | .engCtl => writeEngCtl path a v s
  | .engQr => if w = 2 then gated (writeQr2 i v) else put s
  | .engQdb => if w = 0 then ringDoorbell i (bitsOf v 15 0) s else writeChead i (bitsOf v 15 0) s
  | .atsCtl => if v.getLsbD 0 then keepXlats (fun _ => false) s else s
  | .pupLoad => writePupLoad a v s
  | .pupProg => if w = 0 && v.getLsbD 56 then endProgram i stAborted 0 s else s
  | .topCtl => writeTopCtl path a v s
  | .topSetCtl => if v.getLsbD 0 then setTime (v.getLsbD 1) s else s
  | .pwrCapCtl => gated (writeCapCtl v)
  | .pwrEp => let t := put s
    if w = 0 && v.getLsbD 0 then clearSlot i t else t
  | .telSnapCtl => writeSnapCtl (bitsOf v 15 0) s
  | .telBgCtl => writeBgCtl path a v s
  | .secSlotCmd => writeSlotCmd a v s
  | .fltShadow => writeShadow path a i w v s
  | .fltLive => regAccess .module a v.toNat s
  | .ratCtl => writeRat test path a .ratCtl i w v s
  | .ratRule => writeRat test path a .ratRule i w v s
  | .pciIntStatus => clearSources i v s
  | .mgtDoorbell => writeDoorbell (bitsOf v 12 0) s
  | _ => put s

/-! ## The endpoint block -/

/-- A write of FXE.ID.MGMT_LOCK, which only management may write (R353). -/
def writeFxeId (path : Path) (a : Nat) (v : Word) (s : State) : State := match path with
  | .corePort => if s.rdb .endpoint Fld.fxeIdMgmtLock then rwlDiscard .endpoint a v.toNat s else s
  | _ => s.wrb .endpoint Fld.fxeIdMgmtLock 0 (v.getLsbD 62)

/-- A write of word `w` of a queue's register set (R380): EN set fetches from HEAD 0; TAIL is the doorbell. -/
def writeEpQueue (path : Path) (a : Nat) (r : Reg) (i w : Nat) (v : Word) (s : State) : State :=
  let q := if r = .fxeCq then 32 else i
  let was := qrd Fld.fxeDmaqEn q s
  let t := putWord .endpoint path a r i w v s
  if w = 1 ∧ was = 0 ∧ v.getLsbD 63 = true then pumpEpQueue q (qwr Fld.fxeDmaqStatus q 0 t)
  else if w = 2 then pumpEpQueue q t
  else t

/-- A collective context that is rewritten forgets what it recorded (R291, R304). -/
def forgetColl (g : Nat) (s : State) : State :=
  s.onE fun e => { e with coll := { e.coll with
    aborts := smapErase e.coll.aborts g
    attempts := e.coll.attempts.filter fun x => decide (x.ctx ≠ g)
    lastStep := smapErase e.coll.lastStep g
    steps := smapErase e.coll.steps g } }

/-- What a write of a register of the FXE space does. -/
def writeEndpoint (path : Path) (a : Nat) (r : Reg) (i w : Nat) (v : Word) (s : State) : State :=
  let put := putWord .endpoint path a r i w v
  match r with
  | .fxeId => writeFxeId path a v s
  | .lnkCtl => writeLnkCtl .endpoint path a i v s
  | .prtCtl => writePrtCtl .endpoint path a i v s
  | .xptPeerReset => writePeerReset .endpoint (BitVec.ofNat 20 (bitsOf v 19 0)) s
  | .fxePlaneDownA => settlePlanes .endpoint (put s)
  | .fxePlaneDownB => settlePlanes .endpoint (put s)
  | .fxeColl => if rwlOpen .endpoint path a s then forgetColl i (put s) else put s
  | .fxeCq => writeEpQueue path a .fxeCq i w v s
  | .fxeDmaq => writeEpQueue path a .fxeDmaq i w v s
  | .fxeDomCtr => if w = 0 then domPending (domWrite i (bitsOf v 31 0) s) else put s
  | _ => put s

/-! ## Writes -/

/-- A write of 8 bytes at an aligned address of a unit's register space, and what completes by it. -/
def writeRegister (sd : Side) (path : Path) (test : Bool) (a : Nat) (v : Word) (s : State) : State :=
  settleBoth (match regAt sd a with
    | none => regAccess sd a v.toNat s
    | some (r, i, w) =>
      if absent sd r s then s
      else if portShut sd r i s && !decide (r = .prtCtl) then regAccess sd a v.toNat s
      else match sd with
        | .module => writeModule test path a r i w v s
        | .endpoint => writeEndpoint path a r i w v s)

/-- A host write into MGT.MBX_REQ (R520, R556). -/
def mailboxWrite (o : Nat) (data : List Byte) (s : State) : State :=
  onSec (fun x => { x with request := ((fitTo 4096 x.request).take o ++ data ++ (fitTo 4096 x.request).drop (o + data.length)).take 4096 }) s

/-- A write at a unit's register space, of any size (R556). The core port and management write 8 bytes (R358, R513). -/
def writeBytes (sd : Side) (path : Path) (a : Nat) (data : List Byte) (poisoned : Bool) (s : State) : State :=
  let v : Word := BitVec.ofNat 64 (leNat (data.take 8))
  if poisoned then regAccess sd a v.toNat s
  else if sd = .module ∧ 0x2801000 ≤ a ∧ a + data.length ≤ 0x2802000 ∧ a % 4 = 0 ∧ data.length % 4 = 0 then mailboxWrite (a - 0x2801000) data s
  else if data.length ≠ 8 ∨ a % 8 ≠ 0 then regAccess sd a v.toNat s
  else writeRegister sd path false a v s

end Sys2Proof.Machine
end

