-- ==== Sys2Proof/Machine/RegCmds.lean ====
section
/-! DEFINITION. Reads and writes of registers over the three paths: host, core port and management (R10, R353, R358, R512, R513, R556). -/

namespace Sys2Proof.Machine

/-- REGISTER_WRITE (R10, R556). -/
def execRegisterWrite (sd : Side) (path : Path) (addr : Nat) (data : List Byte) (poisoned : Bool) (s : State) :
    Host.Outcome State Fault Refusal := .next (writeBytes sd path addr data poisoned s)

/-- REG_RD (R358, R359): 8 bytes at an aligned offset of the FXE space. -/
def execRegRd (ctx atag offset size : Nat) (s : State) : Host.Outcome State Fault Refusal :=
  let a := offset % 2 ^ 20
  .next (if size ≠ 8 ∨ a % 8 ≠ 0 then xrStatus ctx atag stAccessDenied s
    else afterRead .endpoint a (xrDone ctx atag stOk outApplied false false 0 (leBytes 8 (readRegister .endpoint a s).toNat) s))

/-- A core-port write is discarded under R353 (a locked register, MGMT_LOCK) or names a reserved value (R9, R352). -/
def coreDiscards (a : Nat) (v : Word) (s : State) : Bool :=
  match regAt .endpoint a with
  | none => false
  | some (r, i, w) =>
    let fs := r.fields.filter fun f => decide (f.word = w)
    decide (r = .fxeId) || ((fs.any fun f => decide (f.acc = .rwl)) && !rwlOpen .endpoint .corePort a s)
      || (decide (r = .prtCtl) && (!portWidthOk i (bitsOf v 11 8) (s.rd .endpoint Fld.prtCtlMinWidth i)
        || decide (bitsOf v 7 4 = 0) || decide (s.rd .endpoint Fld.prtCtlWidth i < bitsOf v 7 4)))
      || fs.any fun f => (decide (f.acc = .rwl) || decide (f.acc = .rw)) && !f.allowed.ok (bitsOf v f.hi f.lo)

/-- REG_WR (R353, R358, R359, R376): 8 bytes at an aligned offset, or 64 bytes to FXE.TRIG_POST. -/
def execRegWr (ctx atag offset : Nat) (data : List Byte) (s : State) : Host.Outcome State Fault Refusal :=
  let a := offset % 2 ^ 20
  .next (if data.length = 64 ∧ a = 0x80000 then
      let r := postTrig data s
      xrStatus ctx atag r.1 r.2
    else if data.length ≠ 8 ∨ a % 8 ≠ 0 then xrStatus ctx atag stAccessDenied s
    else
      let v : Word := BitVec.ofNat 64 (leNat data)
      let out := if coreDiscards a v s then outNotApplied else outApplied
      xrDone ctx atag stOk out false false 0 [] (writeRegister .endpoint .corePort false a v s))

/-- REG_READ (R505, R512, R513): a MANAGE session reads a register; in recovery mode it reads the unit's status. -/
def execRegRead (sd : Side) (session addr : Nat) (s : State) : Host.Outcome State Fault Refusal :=
  .next (withRole sd session roleManage true (fun _ s =>
    afterRead sd addr (respond sd (some session) (.vendor stOk (leBytes 8 (readRegister sd addr s).toNat)) s)) s)

/-- REG_WRITE (R10, R513): a MANAGE session writes a register; a session that also has TEST may enable injection (R515). -/
def execRegWrite (sd : Side) (session addr : Nat) (value : Word) (s : State) : Host.Outcome State Fault Refusal :=
  .next (withRole sd session roleManage false (fun x s =>
    respond sd (some session) (.vendor stOk [])
      (if addr % 8 = 0 then writeRegister sd .management (x.roles.testBit roleTest) addr value s else regAccess sd addr value.toNat s)) s)

end Sys2Proof.Machine
end

