-- ==== Sys2Proof/Machine/Resets.lean ====
section
/-! DEFINITION. The commands of resets, hot swap and interval-based injection: their meanings. -/

namespace Sys2Proof.Machine

/-! ## Resets (R540 to R544) -/

/-- POWER_ON_RESET (R540): the input enters its operating range. -/
def execPowerOnReset (s : State) : Host.Outcome State Fault Refusal := .next (powerOn s)

/-- PUPPETEER_BOOT (R436 step 1, R490): boot images A and B and the one-time-programmable fuses, as the parts hold them. -/
def execPuppeteerBoot (a b : List Byte) (otp : OtpMap) (s : State) : Host.Outcome State Fault Refusal := .next (bootPuppeteer a b otp s)

/-- COLD_RESET (R540): a PCIe fundamental reset, or GLB.RESET with CLASS COLD. -/
def execColdReset (fundamental : Bool) (s : State) : Host.Outcome State Fault Refusal := .next (coldReset fundamental s)

/-- WARM_RESET (R540, R542): GLB.RESET with CLASS WARM. -/
def execWarmReset (s : State) : Host.Outcome State Fault Refusal := .next (warmReset 2 s)

/-- AUTO_WARM_TIMER (R540): 10 ms after a fatal internal fault, with AUTO_WARM set. -/
def execAutoWarmTimer (s : State) : Host.Outcome State Fault Refusal :=
  .next (if s.rdb .module Fld.fltStatusFatal && s.rdb .module Fld.fltCtlAutoWarm then warmReset 3 s else s)

/-- FUNCTION_RESET (R540): a PCIe Function Level Reset. -/
def execFunctionReset (s : State) : Host.Outcome State Fault Refusal := .next (functionReset s)

/-- PUPPETEER_RESET (R540): GLB.RESET with CLASS PUPPETEER. -/
def execPuppeteerReset (s : State) : Host.Outcome State Fault Refusal := .next (restartPuppeteer 2 s)

/-- RST_N (R386): a cold reset of the endpoint block. -/
def execRstN (s : State) : Host.Outcome State Fault Refusal :=
  .next { s with endpoint := { out := s.endpoint.out, mgmt := { nextSession := s.endpoint.mgmt.nextSession } }, e := {} }

/-! ## Hot swap and cables (R574, R583) -/

/-- PRESENT_N_BREAK (R574, R583): the main path turns off, and the hold-up runs the power-loss procedure. -/
def execPresentNBreak (s : State) : Host.Outcome State Fault Refusal := .next (powerLoss false s)

/-- CBL_3V3_OVERLOAD (R583): the connector's supply turns off; its lanes keep running. -/
def execCbl3v3Overload (connector : Nat) (s : State) : Host.Outcome State Fault Refusal :=
  .next (onPower (fun x => { x with cblOff := if x.cblOff.contains connector then x.cblOff else x.cblOff ++ [connector] }) s)

/-! ## Injection at intervals (R545, R546) -/

/-- FLAP: the port goes down as if software had asked, and its lanes stay down for the rule's time. -/
def flapPort (p : Nat) (s : State) : State :=
  let lanes := maskLanes p (activeMask .module p s)
  let s1 := lanes.foldl (fun s n => setLaneSt .module n 0 s) (portDown .module p 4 s)
  s1.onM fun m => { m with rattle := { m.rattle with flaps := smapSet m.rattle.flaps p lanes } }

/-- An injected SRAM error in a word of a tile: counted in TIL.MAP, and where it is not correctable the word's items are lost; it never
retires the tile (R546). -/
def injectSram (t bits : Nat) (items : TileItems) (s : State) : State :=
  if !tileServes t s then s
  else if bits = 1 then saturate .module Fld.tilMapCeLast t 1 s
  else loseContents t (tileRole t s) false false items (saturate .module Fld.tilMapUeCnt t 1 s)

/-- An injected error in a line of DDR5: counted as a corrected read, or as one that is not correctable, which poisons the line. -/
def injectDdr (line bits : Nat) (s : State) : State :=
  if bits = 1 then bump .module .ddrCeCnt 0 s
  else bump .module .ddrUeCnt 0 (onPool (fun p => { p with poison := if p.poison.contains line then p.poison else line :: p.poison }) s)

/-- One rule at the end of an interval: it draws, and acts as its KIND states. -/
def intervalRule (items : TileItems) (line : Nat) (s : State) (i : Nat) : State :=
  let kind := s.rd .module Fld.ratRuleKind i
  let target := s.rd .module Fld.ratRuleTarget i
  let type' := s.rd .module Fld.ratRuleTargetType i
  let bits := s.rd .module Fld.ratRuleParam i
  let fits := (decide (kind = 5) && decide (type' = 0) && decide (portSt .module target s ≠ 0)) || (decide (kind = 6) && decide (type' = 2))
    || (decide (kind = 7) && decide (type' = 3) && decide (target < 12))
  if !rattleArmed s || !s.rdb .module Fld.ratRuleValid i || !fits then s
  else match rattleDraws i s with
    | (false, s1) => s1
    | (true, s1) =>
      let s2 := rattleCount i s1
      if kind = 5 then flapPort target s2 else if kind = 6 then injectSram target bits items s2 else injectDdr line bits s2

/-- RATTLE_INTERVAL (R545): the end of a 1 ms interval, with the items that the word hit of a tile holds and the DDR5 line hit. -/
def execRattleInterval (items : TileItems) (line : Nat) (s : State) : Host.Outcome State Fault Refusal :=
  .next (settle .module ((List.range 64).foldl (intervalRule items line) s))

/-- FLAP_DOWN_EXPIRE (R545): the down time has passed, and the port's lanes retrain. -/
def execFlapDownExpire (p : Nat) (s : State) : Host.Outcome State Fault Refusal :=
  .next (match smapGet? s.m.rattle.flaps p with
    | none => s
    | some lanes => (lanes.foldl (fun s n => enterDetect .module n false s) s).onM fun m => { m with rattle := { m.rattle with
        flaps := smapErase m.rattle.flaps p } })

end Sys2Proof.Machine
end

