-- ==== Sys2Proof/Machine/Spdm.lean ====
section
/-! DEFINITION. SPDM (R493): the meanings of its requests. What SPDM 1.3 itself lays down of a message is not part of the spec: a request
carries what the unit acts on, and its answer leaves the unit as an `SpdmResponse`. -/

namespace Sys2Proof.Machine

/-- A request that asks nothing of the unit's state. -/
def answerOn (sd : Side) (via : Via) (f : State → State) (s : State) : State := if answersOn sd via then f s else s

/-- GET_VERSION (R493). -/
def execGetVersion (sd : Side) (via : Via) (s : State) : Host.Outcome State Fault Refusal := .next (answerOn sd via (respond sd none .version) s)

/-- GET_CAPABILITIES (R493). -/
def execGetCapabilities (sd : Side) (via : Via) (s : State) : Host.Outcome State Fault Refusal :=
  .next (answerOn sd via (respond sd none .capabilities) s)

/-- NEGOTIATE_ALGORITHMS (R493): the identifiers of R493 that the requester offers, or ERROR where it offers none. -/
def execNegotiateAlgorithms (sd : Side) (via : Via) (offers : List Nat) (s : State) : Host.Outcome State Fault Refusal :=
  let ids := ([1, 2, 3, 4] : List Nat).filter fun i => offers.contains i
  .next (answerOn sd via (fun s => if ids.isEmpty then respond sd none .unsupported s
    else respond sd none (.algorithms ids) (onMgmt sd (fun m => { m with algorithms := true }) s)) s)

/-- GET_DIGESTS (R493). -/
def execGetDigests (sd : Side) (via : Via) (s : State) : Host.Outcome State Fault Refusal :=
  .next (answerOn sd via (fun s => respond sd none (.digests [Config.shake256 64 (certChain sd s)]) s) s)

/-- GET_CERTIFICATE (R487, R493). -/
def execGetCertificate (sd : Side) (via : Via) (offset len : Nat) (s : State) : Host.Outcome State Fault Refusal :=
  .next (answerOn sd via (fun s => respond sd none (.certificate (slice (certChain sd s) offset len)) s) s)

/-- CHALLENGE (R493): signed with the alias key. -/
def execChallenge (sd : Side) (via : Via) (nonce : List Byte) (s : State) : Host.Outcome State Fault Refusal :=
  .next (answerOn sd via (fun s => respond sd none (.challengeAuth (spdmSign sd 0x83 nonce (Config.shake256 64 (certChain sd s)) s)) s) s)

/-- GET_MEASUREMENTS (R491): one index, or all of them where `index` is 255. -/
def execGetMeasurements (sd : Side) (via : Via) (index : Nat) (nonce : List Byte) (s : State) : Host.Outcome State Fault Refusal :=
  .next (answerOn sd via (fun s =>
    let blocks := (if index = 255 then measureIndices else measureIndices.filter fun m => decide (m = index)).map fun m => (m, measurement sd m s)
    respond sd none (.measurements blocks (spdmSign sd 0xE0 nonce (blocks.flatMap fun b => b.2) s)) s) s)

/-- KEY_EXCHANGE (R493): a session opens, with mutual authentication asked for; a unit that holds all its sessions refuses. -/
def execKeyExchange (sd : Side) (via : Via) (share : List Byte) (s : State) : Host.Outcome State Fault Refusal :=
  .next (answerOn sd via (fun s =>
    let m := (s.unit sd).mgmt
    if sessionLimit sd ≤ m.sessions.length then respond sd none .refused s
    else
      let mine := Config.keyShare (isEndpointSide sd) m.nextSession
      let x : Session := { id := m.nextSession, secret := Config.sessionSecret mine share }
      let s1 := onMgmt sd (fun m => { m with nextSession := m.nextSession + 1 }) (setSessions sd (m.sessions ++ [x]) s)
      respond sd none (.keyExchange x.id true mine (spdmSign sd 0xE4 share mine s)) s1) s)

/-- FINISH (R493): the requester proves its key and the session secret; the session takes the roles of its credential. -/
def execFinish (sd : Side) (id : Nat) (key signature verify : List Byte) (s : State) : Host.Outcome State Fault Refusal :=
  .next (match session sd id s with
    | none => respond sd none .refused s
    | some x =>
      if x.established then respond sd (some id) .refused s
      else if verify = Config.finishData x.secret ∧ Config.ed448Verify key (Config.spdmSigned 0xE5 x.secret []) signature = true then
        respond sd (some id) .finished (putSession sd { x with established := true, key := keyDigest key, roles := rolesOf sd key s } s)
      else respond sd none .refused (dropSession sd id s))

/-- HEARTBEAT (R493). -/
def execHeartbeat (sd : Side) (id : Nat) (s : State) : Host.Outcome State Fault Refusal :=
  .next (respond sd (some id) (if (established sd id s).isSome then .heartbeatAck else .refused) s)

/-- KEY_UPDATE (R493): the session's keys are derived anew. -/
def execKeyUpdate (sd : Side) (id : Nat) (s : State) : Host.Outcome State Fault Refusal :=
  .next (match established sd id s with
    | some x => respond sd (some id) .keyUpdateAck (putSession sd { x with
        updates := x.updates + 1, secret := Config.sessionSecret x.secret (leBytes 4 (x.updates + 1)) } s)
    | none => respond sd (some id) .refused s)

/-- END_SESSION (R493); its tokens hold until their leases run out (R516). -/
def execEndSession (sd : Side) (id : Nat) (s : State) : Host.Outcome State Fault Refusal :=
  .next (match session sd id s with
    | some _ => respond sd (some id) .endSessionAck (dropSession sd id s)
    | none => respond sd (some id) .refused s)

/-- The message under assembly on a port (R512). -/
def assembly (sd : Side) (port : Nat) (rsp : Bool) (s : State) : Option Assembly :=
  (s.unit sd).mgmt.assembly.find? fun a => decide (a.port = port) && decide (a.response = rsp)

/-- A message under assembly is set, or dropped. -/
def setAssembly (sd : Side) (port : Nat) (rsp : Bool) (a : Option Assembly) (s : State) : State :=
  onMgmt sd (fun m => { m with assembly := (m.assembly.filter fun x => !(decide (x.port = port) && decide (x.response = rsp))) ++ a.toList }) s

/-- A segment of MGMT_REQ or MGMT_RSP (R512): assembled in index order; a missing one, one out of order or a message over 4,096 bytes
discards the whole message. -/
def takeSegment (sd : Side) (port : Nat) (p : Packet) (s : State) : State :=
  let rsp := decide (p.opcode = 2)
  let index := p.opx.toNat % 256
  let last := p.opx.getLsbD 8
  let number := p.opx.toNat / 65536
  let old := assembly sd port rsp s
  let broken := fun (s : State) => onMgmt sd (fun m => { m with discards := m.discards + 1 }) (setAssembly sd port rsp none s)
  let s1 := match old with
    | some a => if a.number = number then s else broken s
    | none => s
  let now' := assembly sd port rsp s1
  let next := match now' with
    | some a => a.next
    | none => 0
  let bytes := (match now' with
    | some a => a.bytes
    | none => []) ++ p.payload
  if index ≠ next ∨ 16 ≤ index ∨ 4096 < bytes.length then broken s1
  else if last then (setAssembly sd port rsp none s1).emit sd (.mgmtMessage port rsp bytes)
  else setAssembly sd port rsp (some { port := port, response := rsp, number := number, next := index + 1, bytes := bytes }) s1

/-- MGMT_SEGMENT (R69, R512). -/
def execMgmtSegment (sd : Side) (port : Nat) (p : Packet) (s : State) : Host.Outcome State Fault Refusal :=
  .next (if p.opcode = 1 ∨ p.opcode = 2 then
      let s1 := consumeArrived sd port p s
      if pchkGood p then takeSegment sd port p s1 else bump sd .xptPchkDiscardCnt 0 s1
    else s)

end Sys2Proof.Machine
end

