-- ==== Sys2Proof/Machine/Dispatch.lean ====
section
/-! DEFINITION. One arm per command: the meaning of each. -/

namespace Sys2Proof.Machine

def exec (i : Instr) (s : State) : Host.Outcome State Fault Refusal :=
  match i with
  | .registerWrite side path addr data poisoned => Sys2Proof.Machine.execRegisterWrite side path addr data poisoned s
  | .laneRetrain side path lane => Sys2Proof.Machine.execLaneRetrain side path lane s
  | .cacheFlush side path lane => Sys2Proof.Machine.execCacheFlush side path lane s
  | .spareNow side path lane => Sys2Proof.Machine.execSpareNow side path lane s
  | .lanePowerRequest side path lane power => Sys2Proof.Machine.execLanePowerRequest side path lane power s
  | .laneEnable side path lane => Sys2Proof.Machine.execLaneEnable side path lane s
  | .farSignalDetected side lane => Sys2Proof.Machine.execFarSignalDetected side lane s
  | .farSignalLost side lane => Sys2Proof.Machine.execFarSignalLost side lane s
  | .controlBlock side lane cb rx => Sys2Proof.Machine.execControlBlock side lane cb rx s
  | .tapRequestApply side lane => Sys2Proof.Machine.execTapRequestApply side lane s
  | .trainingTimeout side lane => Sys2Proof.Machine.execTrainingTimeout side lane s
  | .verifyEnd side lane errors => Sys2Proof.Machine.execVerifyEnd side lane errors s
  | .handoverAccept side lane => Sys2Proof.Machine.execHandoverAccept side lane s
  | .fastTimeout side lane => Sys2Proof.Machine.execFastTimeout side lane s
  | .lnkPlanWrite path lane value => Sys2Proof.Machine.execLnkPlanWrite path lane value s
  | .idAnnounce side port p => Sys2Proof.Machine.execIdAnnounce side port p s
  | .idAnnounceTimer side port => Sys2Proof.Machine.execIdAnnounceTimer side port s
  | .idAnnounceTimeout side port => Sys2Proof.Machine.execIdAnnounceTimeout side port s
  | .errorRatioCheck side lane errors bits => Sys2Proof.Machine.execErrorRatioCheck side lane errors bits s
  | .alignmentMarker side lane m bipSeen spanPs errors bits wish => Sys2Proof.Machine.execAlignmentMarker side lane m bipSeen spanPs errors bits wish s
  | .laneCtl side port p => Sys2Proof.Machine.execLaneCtl side port p s
  | .laneCtlTimeout side lane => Sys2Proof.Machine.execLaneCtlTimeout side lane s
  | .sleepSignalLoss side lane => Sys2Proof.Machine.execSleepSignalLoss side lane s
  | .laneWake side lane spanPs => Sys2Proof.Machine.execLaneWake side lane spanPs s
  | .flitReceive side port lane f uncorrectable corrected => Sys2Proof.Machine.execFlitReceive side port lane f uncorrectable corrected s
  | .retryReq side port lane f => Sys2Proof.Machine.execRetryReq side port lane f s
  | .resync side port lane f => Sys2Proof.Machine.execResync side port lane f s
  | .retryReqTimer side port => Sys2Proof.Machine.execRetryReqTimer side port s
  | .replayTimeout side port => Sys2Proof.Machine.execReplayTimeout side port s
  | .peerPortDown side port => Sys2Proof.Machine.execPeerPortDown side port s
  | .portForm side port => Sys2Proof.Machine.execPortForm side port s
  | .creditInit side port grants => Sys2Proof.Machine.execCreditInit side port grants s
  | .laneFault side lane slice => Sys2Proof.Machine.execLaneFault side lane slice s
  | .laneDrop side port mask => Sys2Proof.Machine.execLaneDrop side port mask s
  | .laneAdd side port mask => Sys2Proof.Machine.execLaneAdd side port mask s
  | .upconfigLaneReady side lane => Sys2Proof.Machine.execUpconfigLaneReady side lane s
  | .laneRelease side port mask => Sys2Proof.Machine.execLaneRelease side port mask s
  | .releaseAck side port mask => Sys2Proof.Machine.execReleaseAck side port mask s
  | .portDownCmd side path port => Sys2Proof.Machine.execPortDownCmd side path port s
  | .packetTransmit side port pool => Sys2Proof.Machine.execPacketTransmit side port pool s
  | .packetIngress port p => Sys2Proof.Machine.execPacketIngress port p s
  | .bufferRoomFreed ix => Sys2Proof.Machine.execBufferRoomFreed ix s
  | .residueSend port ix => Sys2Proof.Machine.execResidueSend port ix s
  | .reseqArrive port p => Sys2Proof.Machine.execReseqArrive port p s
  | .reseqGapTimeout port src dst stream epoch => Sys2Proof.Machine.execReseqGapTimeout port src dst stream epoch s
  | .nocRouterFault plane router => Sys2Proof.Machine.execNocRouterFault plane router s
  | .nocPlaneDisable path plane0 plane1 => Sys2Proof.Machine.execNocPlaneDisable path plane0 plane1 s
  | .packetAgeOut port p => Sys2Proof.Machine.execPacketAgeOut port p s
  | .seqPacketSend side id => Sys2Proof.Machine.execSeqPacketSend side id s
  | .seqPacketReceive side port p => Sys2Proof.Machine.execSeqPacketReceive side port p s
  | .ackTimer side src dst stream => Sys2Proof.Machine.execAckTimer side src dst stream s
  | .xptAck side port p => Sys2Proof.Machine.execXptAck side port p s
  | .xptNack side port p => Sys2Proof.Machine.execXptNack side port p s
  | .nackRetryTimer side dst stream xseq => Sys2Proof.Machine.execNackRetryTimer side dst stream xseq s
  | .retransmitTimer side dst stream xseq => Sys2Proof.Machine.execRetransmitTimer side dst stream xseq s
  | .xptRestart side port p => Sys2Proof.Machine.execXptRestart side port p s
  | .planeUnusable side dst plane => Sys2Proof.Machine.execPlaneUnusable side dst plane s
  | .planeSuspectExpire side dst plane => Sys2Proof.Machine.execPlaneSuspectExpire side dst plane s
  | .homePlaneReturn side dst stream => Sys2Proof.Machine.execHomePlaneReturn side dst stream s
  | .plannedBarrierDone side dst stream => Sys2Proof.Machine.execPlannedBarrierDone side dst stream s
  | .xptPeerReset side eid => Sys2Proof.Machine.execXptPeerReset side eid s
  | .xqLoad ctx atag gfa len stream => Sys2Proof.Machine.execXqLoad ctx atag gfa len stream s
  | .xqLoadAcq ctx atag gfa len stream => Sys2Proof.Machine.execXqLoadAcq ctx atag gfa len stream s
  | .xqStore ctx atag gfa stream data => Sys2Proof.Machine.execXqStore ctx atag gfa stream data s
  | .xqStoreFlag ctx atag gfa stream data => Sys2Proof.Machine.execXqStoreFlag ctx atag gfa stream data s
  | .xqAtomicInt ctx atag gfa stream aop data => Sys2Proof.Machine.execXqAtomicInt ctx atag gfa stream aop data s
  | .xqAtomicFp ctx atag gfa stream aop data => Sys2Proof.Machine.execXqAtomicFp ctx atag gfa stream aop data s
  | .xqReduceStore ctx atag gfa stream aop data => Sys2Proof.Machine.execXqReduceStore ctx atag gfa stream aop data s
  | .fence ctx atag => Sys2Proof.Machine.execFence ctx atag s
  | .fenceComplete side ctx => Sys2Proof.Machine.execFenceComplete side ctx s
  | .rmInvAll ctx atag => Sys2Proof.Machine.execRmInvAll ctx atag s
  | .cohRd ctx atag gfa len => Sys2Proof.Machine.execCohRd ctx atag gfa len s
  | .cohRdown ctx atag gfa len => Sys2Proof.Machine.execCohRdown ctx atag gfa len s
  | .cohWb ctx atag gfa data => Sys2Proof.Machine.execCohWb ctx atag gfa data s
  | .cohEvict ctx atag gfa => Sys2Proof.Machine.execCohEvict ctx atag gfa s
  | .regRd ctx atag offset size => Sys2Proof.Machine.execRegRd ctx atag offset size s
  | .regWr ctx atag offset data => Sys2Proof.Machine.execRegWr ctx atag offset data s
  | .load side port p => Sys2Proof.Machine.execLoad side port p s
  | .loadAcq side port p => Sys2Proof.Machine.execLoadAcq side port p s
  | .store side port p => Sys2Proof.Machine.execStore side port p s
  | .storeFlag side port p => Sys2Proof.Machine.execStoreFlag side port p s
  | .atomicInt side port p => Sys2Proof.Machine.execAtomicInt side port p s
  | .atomicFp side port p => Sys2Proof.Machine.execAtomicFp side port p s
  | .reduceStore side port p => Sys2Proof.Machine.execReduceStore side port p s
  | .dmaWrite side port p => Sys2Proof.Machine.execDmaWrite side port p s
  | .dmaReadReq side port p => Sys2Proof.Machine.execDmaReadReq side port p s
  | .loadData side port p => Sys2Proof.Machine.execLoadData side port p s
  | .storeAck side port p => Sys2Proof.Machine.execStoreAck side port p s
  | .atomicResult side port p => Sys2Proof.Machine.execAtomicResult side port p s
  | .reduceAck side port p => Sys2Proof.Machine.execReduceAck side port p s
  | .dmaReadData side port p => Sys2Proof.Machine.execDmaReadData side port p s
  | .loadTimeout side tag => Sys2Proof.Machine.execLoadTimeout side tag s
  | .replayEntryExpire side src stream xseq => Sys2Proof.Machine.execReplayEntryExpire side src stream xseq s
  | .rmLineExpire gfa => Sys2Proof.Machine.execRmLineExpire gfa s
  | .rdShared port p => Sys2Proof.Machine.execRdShared port p s
  | .rdOwn port p => Sys2Proof.Machine.execRdOwn port p s
  | .upgrade port p => Sys2Proof.Machine.execUpgrade port p s
  | .wb port p => Sys2Proof.Machine.execWb port p s
  | .evict port p => Sys2Proof.Machine.execEvict port p s
  | .recoverStart port p => Sys2Proof.Machine.execRecoverStart port p s
  | .recoverDone port p => Sys2Proof.Machine.execRecoverDone port p s
  | .snpRsp port p => Sys2Proof.Machine.execSnpRsp port p s
  | .ack port p => Sys2Proof.Machine.execAck port p s
  | .lineUnblock line => Sys2Proof.Machine.execLineUnblock line s
  | .snpShared port p => Sys2Proof.Machine.execSnpShared port p s
  | .snpInv port p => Sys2Proof.Machine.execSnpInv port p s
  | .snpCur port p => Sys2Proof.Machine.execSnpCur port p s
  | .binv port p => Sys2Proof.Machine.execBinv port p s
  | .snpFlush port p => Sys2Proof.Machine.execSnpFlush port p s
  | .go port p => Sys2Proof.Machine.execGo port p s
  | .cmp port p => Sys2Proof.Machine.execCmp port p s
  | .data port p => Sys2Proof.Machine.execData port p s
  | .snoopTimeout slot tseq line => Sys2Proof.Machine.execSnoopTimeout slot tseq line s
  | .recoverTimeout slot => Sys2Proof.Machine.execRecoverTimeout slot s
  | .cohTimeout leaf tseq => Sys2Proof.Machine.execCohTimeout leaf tseq s
  | .directoryFlush tiles => Sys2Proof.Machine.execDirectoryFlush tiles s
  | .dirRegionClear path n valid coherent => Sys2Proof.Machine.execDirRegionClear path n valid coherent s
  | .mirrorStoreDone => Sys2Proof.Machine.execMirrorStoreDone s
  | .collDescriptor => Sys2Proof.Machine.execCollDescriptor s
  | .collCancel => Sys2Proof.Machine.execCollCancel s
  | .timedStart id => Sys2Proof.Machine.execTimedStart id s
  | .chunkSend g plane => Sys2Proof.Machine.execChunkSend g plane s
  | .collContrib port p => Sys2Proof.Machine.execCollContrib port p s
  | .epilogueStart ctx step chunk count => Sys2Proof.Machine.execEpilogueStart ctx step chunk count s
  | .epilogueCommit ctx step chunk => Sys2Proof.Machine.execEpilogueCommit ctx step chunk s
  | .collResult side port p => Sys2Proof.Machine.execCollResult side port p s
  | .collAbort side port p => Sys2Proof.Machine.execCollAbort side port p s
  | .collResend side port p => Sys2Proof.Machine.execCollResend side port p s
  | .collProbe port p count => Sys2Proof.Machine.execCollProbe port p count s
  | .probeTimer id chunk => Sys2Proof.Machine.execProbeTimer id chunk s
  | .chunkTimeout ctx step chunk => Sys2Proof.Machine.execChunkTimeout ctx step chunk s
  | .collTimeout id chunk => Sys2Proof.Machine.execCollTimeout id chunk s
  | .refusalBackoff side unit step chunk => Sys2Proof.Machine.execRefusalBackoff side unit step chunk s
  | .partialHoldExpire ctx step chunk => Sys2Proof.Machine.execPartialHoldExpire ctx step chunk s
  | .resultRetainExpire ctx step chunk => Sys2Proof.Machine.execResultRetainExpire ctx step chunk s
  | .chunkRecordExpire ctx step chunk => Sys2Proof.Machine.execChunkRecordExpire ctx step chunk s
  | .srcReadFail id chunk => Sys2Proof.Machine.execSrcReadFail id chunk s
  | .dominoSeg port p => Sys2Proof.Machine.execDominoSeg port p s
  | .trigPost ctx atag data => Sys2Proof.Machine.execTrigPost ctx atag data s
  | .triggeredOpFire => Sys2Proof.Machine.execTriggeredOpFire s
  | .triggeredOpComplete => Sys2Proof.Machine.execTriggeredOpComplete s
  | .domCtrWrite n value => Sys2Proof.Machine.execDomCtrWrite n value s
  | .dmaDoorbell q tail => Sys2Proof.Machine.execDmaDoorbell q tail s
  | .dmaDescriptor q => Sys2Proof.Machine.execDmaDescriptor q s
  | .dmaDescriptorDone q => Sys2Proof.Machine.execDmaDescriptorDone q s
  | .queueFetchFail q => Sys2Proof.Machine.execQueueFetchFail q s
  | .mrAnswer half mtag status data => Sys2Proof.Machine.execMrAnswer half mtag status data s
  | .memTimeout half mtag => Sys2Proof.Machine.execMemTimeout half mtag s
  | .srAnswer stag dirty newState wb => Sys2Proof.Machine.execSrAnswer stag dirty newState wb s
  | .atomicLineWriteback line => Sys2Proof.Machine.execAtomicLineWriteback line s
  | .planeDownWrite path plane ix value => Sys2Proof.Machine.execPlaneDownWrite path plane ix value s
  | .powerGrant port p => Sys2Proof.Machine.execPowerGrant port p s
  | .grantTimeout => Sys2Proof.Machine.execGrantTimeout s
  | .powerReportTimer report => Sys2Proof.Machine.execPowerReportTimer report s
  | .rstN => Sys2Proof.Machine.execRstN s
  | .move queue host => Sys2Proof.Machine.execMove queue host s
  | .fill queue => Sys2Proof.Machine.execFill queue s
  | .writeImm queue => Sys2Proof.Machine.execWriteImm queue s
  | .ctaLoadB queue host => Sys2Proof.Machine.execCtaLoadB queue host s
  | .ctaMatmul queue host => Sys2Proof.Machine.execCtaMatmul queue host s
  | .commandComplete queue declined => Sys2Proof.Machine.execCommandComplete queue declined s
  | .atsTranslationCompletion pasid page size read write => Sys2Proof.Machine.execAtsTranslationCompletion pasid page size read write s
  | .pageRequestResponse group success => Sys2Proof.Machine.execPageRequestResponse group success s
  | .atsInvalidate itag pasid lo hi => Sys2Proof.Machine.execAtsInvalidate itag pasid lo hi s
  | .invalidateDrained itag => Sys2Proof.Machine.execInvalidateDrained itag s
  | .invalidateBound itag => Sys2Proof.Machine.execInvalidateBound itag s
  | .atsFlush path => Sys2Proof.Machine.execAtsFlush path s
  | .puppetLoad core thread pc addr size pfeid => Sys2Proof.Machine.execPuppetLoad core thread pc addr size pfeid s
  | .puppetStore core thread pc addr data pfeid => Sys2Proof.Machine.execPuppetStore core thread pc addr data pfeid s
  | .puppetLrAq core thread pc addr size pfeid => Sys2Proof.Machine.execPuppetLrAq core thread pc addr size pfeid s
  | .puppetSc core thread => Sys2Proof.Machine.execPuppetSc core thread s
  | .puppetAmo core thread pc addr op data rl rdZero pfeid => Sys2Proof.Machine.execPuppetAmo core thread pc addr op data rl rdZero pfeid s
  | .pcas core thread pc addr size swap pcmp pfeid => Sys2Proof.Machine.execPcas core thread pc addr size swap pcmp pfeid s
  | .puppetFence core thread => Sys2Proof.Machine.execPuppetFence core thread s
  | .puppetAccessDone core thread host => Sys2Proof.Machine.execPuppetAccessDone core thread host s
  | .puppetExit core thread => Sys2Proof.Machine.execPuppetExit core thread s
  | .pupLoad path value grant => Sys2Proof.Machine.execPupLoad path value grant s
  | .pupKill path slot => Sys2Proof.Machine.execPupKill path slot s
  | .puppetMsg port p room => Sys2Proof.Machine.execPuppetMsg port p room s
  | .puppeteerBoot a b otp => Sys2Proof.Machine.execPuppeteerBoot a b otp s
  | .pcieEnumeration up => Sys2Proof.Machine.execPcieEnumeration up s
  | .fuseMapRead path fuse => Sys2Proof.Machine.execFuseMapRead path fuse s
  | .imageLoad path image fields => Sys2Proof.Machine.execImageLoad path image fields s
  | .tileBist path failing rows => Sys2Proof.Machine.execTileBist path failing rows s
  | .nocTraining path ok0 ok1 image => Sys2Proof.Machine.execNocTraining path ok0 ok1 image s
  | .ddr5Training path channels image ready => Sys2Proof.Machine.execDdr5Training path channels image ready s
  | .serdesCalibration path reported bad => Sys2Proof.Machine.execSerdesCalibration path reported bad s
  | .linkTraining path => Sys2Proof.Machine.execLinkTraining path s
  | .topLock path => Sys2Proof.Machine.execTopLock path s
  | .enable path => Sys2Proof.Machine.execEnable path s
  | .bringupStepEnd => Sys2Proof.Machine.execBringupStepEnd s
  | .bringupStepTimeout => Sys2Proof.Machine.execBringupStepTimeout s
  | .unload => Sys2Proof.Machine.execUnload s
  | .sramScrubPassEnd tile corrected items => Sys2Proof.Machine.execSramScrubPassEnd tile corrected items s
  | .tileUe tile fault items => Sys2Proof.Machine.execTileUe tile fault items s
  | .retire tile items => Sys2Proof.Machine.execRetire tile items s
  | .toSpare tile => Sys2Proof.Machine.execToSpare tile s
  | .fromSpare tile role => Sys2Proof.Machine.execFromSpare tile role s
  | .toSpareTimeout => Sys2Proof.Machine.execToSpareTimeout s
  | .migrationComplete => Sys2Proof.Machine.execMigrationComplete s
  | .timeSync side port p stamp => Sys2Proof.Machine.execTimeSync side port p stamp s
  | .timeFollow side port p => Sys2Proof.Machine.execTimeFollow side port p s
  | .timeDelayReq side port p stamp => Sys2Proof.Machine.execTimeDelayReq side port p stamp s
  | .timeDelayRsp side port p => Sys2Proof.Machine.execTimeDelayRsp side port p s
  | .timeSyncTimer side stamps => Sys2Proof.Machine.execTimeSyncTimer side stamps s
  | .ppsInEdge stamp good tenMhz => Sys2Proof.Machine.execPpsInEdge stamp good tenMhz s
  | .timeSourceLoss port => Sys2Proof.Machine.execTimeSourceLoss port s
  | .holdoverExpire => Sys2Proof.Machine.execHoldoverExpire s
  | .topSetGo atPps => Sys2Proof.Machine.execTopSetGo atPps s
  | .gmChange => Sys2Proof.Machine.execGmChange s
  | .timeLost => Sys2Proof.Machine.execTimeLost s
  | .capWrite path value power => Sys2Proof.Machine.execCapWrite path value power s
  | .grantComputeTimer => Sys2Proof.Machine.execGrantComputeTimer s
  | .grantRefreshTimer => Sys2Proof.Machine.execGrantRefreshTimer s
  | .stageTimer => Sys2Proof.Machine.execStageTimer s
  | .powerReport port p => Sys2Proof.Machine.execPowerReport port p s
  | .violationCheck slot => Sys2Proof.Machine.execViolationCheck slot s
  | .reportTimeout slot => Sys2Proof.Machine.execReportTimeout slot s
  | .epClear slot => Sys2Proof.Machine.execEpClear slot s
  | .shedCorrectTimer power => Sys2Proof.Machine.execShedCorrectTimer power s
  | .powerWarnN low => Sys2Proof.Machine.execPowerWarnN low s
  | .inputSample mv iin pin => Sys2Proof.Machine.execInputSample mv iin pin s
  | .uvLoss => Sys2Proof.Machine.execUvLoss s
  | .thermalSample sensor temp => Sys2Proof.Machine.execThermalSample sensor temp s
  | .thermalRecheck sensor temp => Sys2Proof.Machine.execThermalRecheck sensor temp s
  | .snapCtl groups => Sys2Proof.Machine.execSnapCtl groups s
  | .snapshotPublish => Sys2Proof.Machine.execSnapshotPublish s
  | .telemetryPeriod stream => Sys2Proof.Machine.execTelemetryPeriod stream s
  | .pauseLimitExpire activity => Sys2Proof.Machine.execPauseLimitExpire activity s
  | .getVersion side via => Sys2Proof.Machine.execGetVersion side via s
  | .getCapabilities side via => Sys2Proof.Machine.execGetCapabilities side via s
  | .negotiateAlgorithms side via offers => Sys2Proof.Machine.execNegotiateAlgorithms side via offers s
  | .getDigests side via => Sys2Proof.Machine.execGetDigests side via s
  | .getCertificate side via offset len => Sys2Proof.Machine.execGetCertificate side via offset len s
  | .challenge side via nonce => Sys2Proof.Machine.execChallenge side via nonce s
  | .getMeasurements side via index nonce => Sys2Proof.Machine.execGetMeasurements side via index nonce s
  | .keyExchange side via share => Sys2Proof.Machine.execKeyExchange side via share s
  | .finish side session key signature verify => Sys2Proof.Machine.execFinish side session key signature verify s
  | .heartbeat side session => Sys2Proof.Machine.execHeartbeat side session s
  | .keyUpdate side session => Sys2Proof.Machine.execKeyUpdate side session s
  | .endSession side session => Sys2Proof.Machine.execEndSession side session s
  | .mgmtSegment side port p => Sys2Proof.Machine.execMgmtSegment side port p s
  | .regRead side session addr => Sys2Proof.Machine.execRegRead side session addr s
  | .regWrite side session addr value => Sys2Proof.Machine.execRegWrite side session addr value s
  | .tokenAcquire session group => Sys2Proof.Machine.execTokenAcquire session group s
  | .tokenRenew session group => Sys2Proof.Machine.execTokenRenew session group s
  | .tokenRelease session group => Sys2Proof.Machine.execTokenRelease session group s
  | .tokenExpired group => Sys2Proof.Machine.execTokenExpired group s
  | .flashWrite session b image => Sys2Proof.Machine.execFlashWrite session b image s
  | .credSet session slot roles key => Sys2Proof.Machine.execCredSet session slot roles key s
  | .signerSet session slot key revoke => Sys2Proof.Machine.execSignerSet session slot key revoke s
  | .rollbackRaise session bootVersion imageVersion => Sys2Proof.Machine.execRollbackRaise session bootVersion imageVersion s
  | .keyLoad side session slot epoch cls engineOk progOk wrapped => Sys2Proof.Machine.execKeyLoad side session slot epoch cls engineOk progOk wrapped s
  | .prevKeyExpire side slot => Sys2Proof.Machine.execPrevKeyExpire side slot s
  | .activateOrd session slot epoch => Sys2Proof.Machine.execActivateOrd session slot epoch s
  | .slotCmdActivateOrd slot epoch => Sys2Proof.Machine.execSlotCmdActivateOrd slot epoch s
  | .slotRetire session slot epoch => Sys2Proof.Machine.execSlotRetire session slot epoch s
  | .slotCmdRetire slot epoch => Sys2Proof.Machine.execSlotCmdRetire slot epoch s
  | .drainExpire side slot => Sys2Proof.Machine.execDrainExpire side slot s
  | .tenantRetired side slot => Sys2Proof.Machine.execTenantRetired side slot s
  | .watchdogExpire => Sys2Proof.Machine.execWatchdogExpire s
  | .mgtDoorbell length => Sys2Proof.Machine.execMgtDoorbell length s
  | .mgtResponse data => Sys2Proof.Machine.execMgtResponse data s
  | .evidenceClear port bit => Sys2Proof.Machine.execEvidenceClear port bit s
  | .quarantineTimer port => Sys2Proof.Machine.execQuarantineTimer port s
  | .vote session proposal unit nonce shadow => Sys2Proof.Machine.execVote session proposal unit nonce shadow s
  | .decide session proposal unit nonce ballots witness => Sys2Proof.Machine.execDecide session proposal unit nonce ballots witness s
  | .deadNotice side session unit nonce ballots relayed => Sys2Proof.Machine.execDeadNotice side session unit nonce ballots relayed s
  | .liveNotice side session unit nonce ballots relayed => Sys2Proof.Machine.execLiveNotice side session unit nonce ballots relayed s
  | .trayDown tray => Sys2Proof.Machine.execTrayDown tray s
  | .coldReset fundamental => Sys2Proof.Machine.execColdReset fundamental s
  | .warmReset => Sys2Proof.Machine.execWarmReset s
  | .puppeteerReset => Sys2Proof.Machine.execPuppeteerReset s
  | .functionReset => Sys2Proof.Machine.execFunctionReset s
  | .powerOnReset => Sys2Proof.Machine.execPowerOnReset s
  | .internalFatal struct detail => Sys2Proof.Machine.execInternalFatal struct detail s
  | .autoWarmTimer => Sys2Proof.Machine.execAutoWarmTimer s
  | .apertureRead off len => Sys2Proof.Machine.execApertureRead off len s
  | .apertureWrite off data => Sys2Proof.Machine.execApertureWrite off data s
  | .queueDoorbell queue tail => Sys2Proof.Machine.execQueueDoorbell queue tail s
  | .cheadWrite queue chead => Sys2Proof.Machine.execCheadWrite queue chead s
  | .queueEnable path queue value => Sys2Proof.Machine.execQueueEnable path queue value s
  | .ringFetchDone queue reply => Sys2Proof.Machine.execRingFetchDone queue reply s
  | .intStatusClear path ix mask => Sys2Proof.Machine.execIntStatusClear path ix mask s
  | .interruptHoldoff src => Sys2Proof.Machine.execInterruptHoldoff src s
  | .dStateChange d3 => Sys2Proof.Machine.execDStateChange d3 s
  | .busMasterDisable => Sys2Proof.Machine.execBusMasterDisable s
  | .presentNBreak => Sys2Proof.Machine.execPresentNBreak s
  | .cbl3v3Overload connector => Sys2Proof.Machine.execCbl3v3Overload connector s
  | .configurationWrite w => Sys2Proof.Machine.execConfigurationWrite w s
  | .completionTimeout what => Sys2Proof.Machine.execCompletionTimeout what s
  | .directoryScanEnd slot => Sys2Proof.Machine.execDirectoryScanEnd slot s
  | .ftValidExpire => Sys2Proof.Machine.execFtValidExpire s
  | .grandmasterTimeout => Sys2Proof.Machine.execGrandmasterTimeout s
  | .steppedExpire => Sys2Proof.Machine.execSteppedExpire s
  | .sleepControlBlock side lane => Sys2Proof.Machine.execSleepControlBlock side lane s
  | .i3cAdminInstall slot key => Sys2Proof.Machine.execI3cAdminInstall slot key s
  | .testArm session on => Sys2Proof.Machine.execTestArm session on s
  | .debugAccessOpen session => Sys2Proof.Machine.execDebugAccessOpen session s
  | .fullResSet session on => Sys2Proof.Machine.execFullResSet session on s
  | .rspLenRead => Sys2Proof.Machine.execRspLenRead s
  | .recordQuery ctx chunk => Sys2Proof.Machine.execRecordQuery ctx chunk s
  | .snoopSlow stag => Sys2Proof.Machine.execSnoopSlow stag s
  | .rattleInterval items line => Sys2Proof.Machine.execRattleInterval items line s
  | .reorderHoldExpire ix => Sys2Proof.Machine.execReorderHoldExpire ix s
  | .flapDownExpire p => Sys2Proof.Machine.execFlapDownExpire p s
  | .vectorUnmask vector => Sys2Proof.Machine.execVectorUnmask vector s

end Sys2Proof.Machine
end

