-- ==== Sys2Proof/Machine/Tick.lean ====
section
/-! DEFINITION. What happens while no command waits: time passes (R453). -/

namespace Sys2Proof.Machine

/-- How much of a correction one nanosecond of slewing takes: at most 100 ppm of it (R459). -/
def slewPart (x : Int) : Int :=
  let n : Nat := min x.natAbs (Config.slewRate % 7)
  if x < 0 then -(n : Int) else n

/-- A unit's fabric time advances by 1 ns and the part of a correction that slews. -/
def advance (sd : Side) (s : State) : State :=
  let x := slewPart (s.unit sd).sync.slew
  onSync sd (fun y => { y with slew := y.slew - x }) (addTime sd (65536 + x) s)

/-- PPS_OUT rises at each whole second of the module's fabric time (R461). -/
def pulse (before : Nat) (s : State) : State :=
  let sec := 65536 * 1000000000
  if ppsOn s && decide (before / sec ≠ s.module.time / sec) then s.emit .module .ppsOut else s

/-- One nanosecond passes: the block's own interval clock and both units' fabric time advance (R453; DESIGN CHOICE,
notes/assumptions/1.md). -/
def tick (s : State) : State :=
  pulse s.module.time { advance .endpoint (advance .module s) with now := s.now + 1 }

end Sys2Proof.Machine
end

