-- ==== Sys2Proof/Frame.lean ====
section
/-! DEFINITION. The terms in which frames and invariants are stated: the parts of the state, what it means that a step leaves
a part unchanged, and the invariant that every step keeps. -/

namespace Sys2Proof.Machine

/-- A part of what both units hold beside their registers. -/
inductive UnitPart where
  | lanes | ports | bundle | badSlices | evtTimes | dead | inbox | time | sync | mgmt | xpt | keys | out
deriving DecidableEq, Repr

/-- A part of the module's memory (R224, R243, R265, R503). -/
inductive PoolPart where
  | ddr | fast | poison | keyed | fills | mwin | installedGib | missing
deriving DecidableEq, Repr

/-- A part of the engines (R399 to R424). -/
inductive EngPart where
  | queues | ats | threads | dcache | grants | scratch
deriving DecidableEq, Repr

/-- A part of what only the module holds. -/
inductive ModPart where
  | sw | pci | rattle | dir | mrn | tile | bring | top | power | tel | sec | live | signers | ownDiscardAt
deriving DecidableEq, Repr

/-- A part of what only the endpoint block holds. -/
inductive EpPart where
  | mqWait | mqOut | mqDead | mqLocked | txns | nextTxn | jobs | nextJob | locks | cache | clock | accs | coh | snoops | nextTseq | recovery | noFill | mirrored | trig | reached | fired | nextTrig | domCheck | queues | coll | ftValid | grants
deriving DecidableEq, Repr

/-- A part of the state: all entries of one register of one unit, or one field of the plain data beside the registers. -/
inductive Part where
  | reg (sd : Side) (r : Reg)
  | unit (sd : Side) (u : UnitPart)
  | pool (p : PoolPart)
  | eng (g : EngPart)
  | mod (m : ModPart)
  | ep (e : EpPart)
  | free
deriving DecidableEq, Repr

/-- A part of a unit is the same in two units. -/
def UnitPart.Same (a b : UnitState) : UnitPart → Prop
  | .lanes => b.lanes = a.lanes
  | .ports => b.ports = a.ports
  | .bundle => b.bundle = a.bundle
  | .badSlices => b.badSlices = a.badSlices
  | .evtTimes => b.evtTimes = a.evtTimes
  | .dead => b.dead = a.dead
  | .inbox => b.inbox = a.inbox
  | .time => b.time = a.time
  | .sync => b.sync = a.sync
  | .mgmt => b.mgmt = a.mgmt
  | .xpt => b.xpt = a.xpt
  | .keys => b.keys = a.keys
  | .out => b.out = a.out

/-- A part of the memory is the same. -/
def PoolPart.Same (a b : PoolState) : PoolPart → Prop
  | .ddr => b.ddr = a.ddr
  | .fast => b.fast = a.fast
  | .poison => b.poison = a.poison
  | .keyed => b.keyed = a.keyed
  | .fills => b.fills = a.fills
  | .mwin => b.mwin = a.mwin
  | .installedGib => b.installedGib = a.installedGib
  | .missing => b.missing = a.missing

/-- A part of the engines is the same. -/
def EngPart.Same (a b : EngineState) : EngPart → Prop
  | .queues => b.queues = a.queues
  | .ats => b.ats = a.ats
  | .threads => b.threads = a.threads
  | .dcache => b.dcache = a.dcache
  | .grants => b.grants = a.grants
  | .scratch => b.scratch = a.scratch

/-- A part of the module is the same. -/
def ModPart.Same (a b : ModuleState) : ModPart → Prop
  | .sw => b.sw = a.sw
  | .pci => b.pci = a.pci
  | .rattle => b.rattle = a.rattle
  | .dir => b.dir = a.dir
  | .mrn => b.mrn = a.mrn
  | .tile => b.tile = a.tile
  | .bring => b.bring = a.bring
  | .top => b.top = a.top
  | .power => b.power = a.power
  | .tel => b.tel = a.tel
  | .sec => b.sec = a.sec
  | .live => b.live = a.live
  | .signers => b.signers = a.signers
  | .ownDiscardAt => b.ownDiscardAt = a.ownDiscardAt

/-- A part of the endpoint block is the same. -/
def EpPart.Same (a b : EndpointState) : EpPart → Prop
  | .mqWait => b.mqWait = a.mqWait
  | .mqOut => b.mqOut = a.mqOut
  | .mqDead => b.mqDead = a.mqDead
  | .mqLocked => b.mqLocked = a.mqLocked
  | .txns => b.txns = a.txns
  | .nextTxn => b.nextTxn = a.nextTxn
  | .jobs => b.jobs = a.jobs
  | .nextJob => b.nextJob = a.nextJob
  | .locks => b.locks = a.locks
  | .cache => b.cache = a.cache
  | .clock => b.clock = a.clock
  | .accs => b.accs = a.accs
  | .coh => b.coh = a.coh
  | .snoops => b.snoops = a.snoops
  | .nextTseq => b.nextTseq = a.nextTseq
  | .recovery => b.recovery = a.recovery
  | .noFill => b.noFill = a.noFill
  | .mirrored => b.mirrored = a.mirrored
  | .trig => b.trig = a.trig
  | .reached => b.reached = a.reached
  | .fired => b.fired = a.fired
  | .nextTrig => b.nextTrig = a.nextTrig
  | .domCheck => b.domCheck = a.domCheck
  | .queues => b.queues = a.queues
  | .coll => b.coll = a.coll
  | .ftValid => b.ftValid = a.ftValid
  | .grants => b.grants = a.grants

/-- A part of the state is the same in two states; for a register, every word of every entry reads the same. -/
def Part.Same (s t : State) : Part → Prop
  | .reg sd r => ∀ i w, t.word sd r i w = s.word sd r i w
  | .unit sd u => u.Same (s.unit sd) (t.unit sd)
  | .pool p => p.Same s.m.pool t.m.pool
  | .eng g => g.Same s.m.eng t.m.eng
  | .mod m => m.Same s.m t.m
  | .ep e => e.Same s.e t.e
  | .free => t.free = s.free

/-- Every part that is not listed is the same in `t` as in `s`. -/
def OnlyChanges (parts : List Part) (s t : State) : Prop := ∀ p, p ∉ parts → p.Same s t

/-! ## The invariant -/

/-- The bits of a register word that some field of the register tables covers. -/
def definedBits (r : Reg) (w : Nat) : Word :=
  r.fields.foldl (fun acc f => if f.word = w then withBits acc f.hi f.lo (2 ^ (f.hi + 1 - f.lo) - 1) else acc) 0

/-- Every register word reads zero in its reserved bits, those that no field covers (R9). -/
def reservedZero (s : State) : Prop := ∀ sd r i w, w < 16 → s.word sd r i w &&& ~~~(definedBits r w) = 0

/-- What every step keeps: the memories and the register files in their canonical order, fabric time within its 80 bits (R453) and
reserved register bits at zero (R9). -/
structure Inv (s : State) : Prop where
  ddr : Memory.wf s.m.pool.ddr
  fast : Memory.wf s.m.pool.fast
  mwin : Memory.wf s.m.pool.mwin
  scratch : Memory.wf s.m.eng.scratch
  regs : ∀ sd, smapSorted (s.unit sd).regs
  time : ∀ sd, (s.unit sd).time < 2 ^ 80
  reserved : reservedZero s

end Sys2Proof.Machine
end

