-- ==== Sys2Proof/Footprint.lean ====
section
/-! DEFINITION. What one command may change at all, row by row of the opcode table: the frame of every command. A part that is not in
a command's list is the same in every next state of that command. -/

namespace Sys2Proof.Machine

/-- Every register of one unit. -/
def everyReg (sd : Side) : List Part := allRegs.map (Part.reg sd)

/-- What `applyPower` may change. -/
def touchesApplyPower : Side → List Part
  | .module => [.reg .module .lnkStatus, .reg .module .lnkTxTaps, .unit .module .lanes, .unit .module .ports, .unit .module .out]
  | .endpoint => [.reg .endpoint .lnkStatus, .reg .endpoint .lnkTxTaps, .unit .endpoint .lanes, .unit .endpoint .ports, .unit .endpoint .out]

/-- What `logEvent` may change. -/
def touchesLogEvent : Side → List Part
  | .module => [.reg .module .fltLogStatus, .reg .module .fltLostCnt, .reg .module .fltSuppressCnt, .reg .module .fltLog,
    .reg .module .pciIntStatus, .unit .module .evtTimes, .unit .module .out, .mod .pci]
  | .endpoint => [.reg .endpoint .fxeIntStatus, .reg .endpoint .fxeEvtStatus, .reg .endpoint .fxeEvtLostCnt, .reg .endpoint .fxeEvtSuppressCnt,
    .reg .endpoint .fxeEvt, .unit .endpoint .evtTimes, .unit .endpoint .out]

/-- What `bump` may change. -/
def touchesBump : Side → List Part
  | .module => touchesLogEvent .module ++ [.reg .module .telOvfEventCnt]
  | .endpoint => touchesLogEvent .endpoint

/-- What `replay` may change. -/
def touchesReplay : Side → List Part
  | .module => touchesBump .module ++ [.reg .module .prtReplayCnt, .unit .module .ports]
  | .endpoint => touchesLogEvent .endpoint ++ [.reg .endpoint .prtReplayCnt, .unit .endpoint .ports]

/-- What `loseSource` may change. -/
def touchesLoseSource : List Part := touchesBump .module ++ [.reg .module .topStatus, .reg .module .topLockLossCnt, .unit .module .sync]

/-- What `stepWork` may change. -/
def touchesStepWork : List Part := touchesBump .module ++ [.reg .module .glbBringupCtl, .reg .module .glbBringupStatus, .reg .module .secOwnDiscardCnt, .mod .bring, .mod .ownDiscardAt]

/-- What `homeWrite` may change. -/
def touchesHomeWrite : List Part := touchesBump .module ++ [.reg .module .dirPoisonCnt, .pool .ddr, .pool .fast, .pool .poison, .pool .keyed]

/-- What `pupLooked` may change. -/
def touchesPupLooked : List Part := touchesBump .module ++ [.reg .module .atsStatus, .reg .module .atsPrCnt, .reg .module .pupStatus, .reg .module .pupProg, .unit .module .xpt,
    .eng .ats, .eng .threads]

/-- What `abandonFast` may change. -/
def touchesAbandonFast : Side → List Part
  | .module => touchesLogEvent .module ++ [.reg .module .tilRecordStatus, .reg .module .lnkStatus, .reg .module .lnkTxTaps, .reg .endpoint .fxeIntStatus,
    .unit .module .lanes, .unit .module .badSlices, .unit .endpoint .out, .mod .tile]
  | .endpoint => touchesLogEvent .endpoint ++ [.reg .endpoint .lnkStatus, .reg .endpoint .lnkTxTaps, .unit .endpoint .lanes, .unit .endpoint .badSlices]

/-- What `sendGo` may change. -/
def touchesSendGo : List Part := touchesBump .module ++ [.reg .module .rteUnreachCnt, .reg .module .rteFeatRefuseCnt, .reg .module .rteEvictCnt, .reg .module .ratRule,
    .unit .module .ports, .unit .module .inbox, .mod .sw, .mod .rattle]

/-- What `settleSpare` may change. -/
def touchesSettleSpare : List Part := touchesBump .module ++ [.reg .module .glbRole, .reg .module .jigRoleStatus, .reg .module .tilStatus, .reg .module .tilCapEventCnt,
    .reg .module .tilRoleCnt, .reg .module .tilMap, .reg .module .tilPhys, .reg .module .mrnStatus, .mod .tile]

/-- What `settlePin` may change. -/
def touchesSettlePin : List Part := touchesBump .module ++ touchesApplyPower .module ++ [.reg .module .ctaStatus, .reg .module .pwrStatus, .reg .module .pwrStageCnt, .reg .module .pwrEp, .mod .sw, .mod .power]

/-- What `receiveColl` may change. -/
def touchesReceiveColl : Side → List Part
  | .module => touchesBump .module ++ touchesLogEvent .endpoint ++ [.reg .endpoint .prtIngressDiscard, .reg .module .prtMalformed, .reg .module .xptPchkDiscardCnt,
    .reg .module .secRetiredDropCnt, .unit .module .inbox]
  | .endpoint => touchesLogEvent .endpoint ++ [.reg .endpoint .prtIngressDiscard, .reg .endpoint .prtMalformed, .reg .endpoint .xptPchkDiscardCnt,
    .reg .endpoint .secRetiredDropCnt, .unit .endpoint .ports]

/-- What `loadImage` may change. -/
def touchesLoadImage : List Part := [.reg .module .glbRole, .reg .module .jigStatus, .reg .module .jigImageId, .reg .module .jigDigest, .reg .module .tilStatus,
    .reg .module .tilRecordStatus, .reg .module .tilRoleCnt, .reg .module .tilMap, .reg .module .tilPhys, .reg .module .prtCtl,
    .reg .module .rteRsqCtl, .reg .module .rtePart, .reg .module .rteSlot, .reg .module .dirStatus, .reg .module .dirPoolCtl,
    .reg .module .dirPoolStatus, .reg .module .mrnStatus, .reg .module .mrnOvfStatus, .reg .module .redEpiLib,
    .reg .module .pupStatus, .reg .module .topCtl, .reg .module .secMeas, .mod .bring]

/-- What `portDown` may change. -/
def touchesPortDown : Side → List Part
  | .module => touchesSendGo ++ [.reg .module .lnkStatus, .reg .module .lnkTxTaps, .reg .module .prtStatus, .reg .module .prtVersion,
    .reg .module .prtFlitLost, .reg .module .prtMalformed, .reg .module .dirRecoverCnt, .reg .module .fltLive,
    .unit .module .lanes, .mod .dir, .mod .live]
  | .endpoint => touchesLogEvent .endpoint ++ touchesApplyPower .endpoint ++ [.reg .endpoint .prtStatus, .reg .endpoint .prtVersion, .reg .endpoint .prtFlitLost, .unit .endpoint .xpt, .mod .sw,
    .ep .accs, .ep .coh, .ep .nextTseq, .ep .recovery]

/-- What `sendResult` may change. -/
def touchesSendResult : List Part := touchesSettleSpare ++ touchesSendGo ++ [.reg .module .mrnOvfStatus, .reg .module .mrnChunkStatus, .reg .module .mrnCtx, .reg .module .redStatus, .mod .mrn]

/-- What `serveRead` may change. -/
def touchesServeRead : Side → List Part
  | .module => touchesSendGo ++ touchesHomeWrite ++ touchesReplay .endpoint ++ [.reg .module .prtReplayCnt, .reg .module .dirBinvCnt, .reg .module .dirBcastCnt, .reg .module .dirStaleWbCnt,
    .reg .module .dirNcGrantCnt, .reg .module .dirRegion, .unit .module .xpt, .mod .dir]
  | .endpoint => [.unit .endpoint .out, .ep .mqWait, .ep .mqOut, .ep .mqLocked, .ep .txns, .ep .nextTxn]

/-- What `settleBoth` may change. -/
def touchesSettleBoth : List Part := touchesSendGo ++ touchesLogEvent .endpoint ++ touchesServeRead .endpoint ++ [.reg .module .xptRetxCnt, .reg .endpoint .xptRetxCnt, .reg .module .xptBarrierCnt, .reg .endpoint .xptBarrierCnt,
    .reg .module .pciStatus, .reg .module .pciAptErr, .reg .module .pciAptErrCnt, .unit .endpoint .ports, .unit .module .xpt,
    .unit .endpoint .xpt, .ep .cache, .ep .clock, .ep .coh, .ep .snoops, .ep .nextTseq, .ep .noFill, .ep .mirrored, .ep .fired,
    .ep .queues]

/-- What `receiveSeq` may change. -/
def touchesReceiveSeq : Side → List Part
  | .module => touchesServeRead .module ++ [.reg .endpoint .prtIngressDiscard, .reg .module .prtMalformed, .reg .module .xptDupCnt, .reg .module .xptOowCnt,
    .reg .module .xptReorderNackCnt, .reg .module .memNoWindowCnt, .reg .module .memDenyKeyCnt, .reg .module .memDenyClassCnt,
    .reg .module .memDenyRightsCnt, .reg .module .memDenyAlignCnt, .reg .module .memReplayHitCnt, .reg .module .memUnknownCnt,
    .reg .module .secRetiredDropCnt, .reg .module .secTagFailCnt, .reg .module .secClassFailCnt, .reg .module .secNokeyCnt,
    .reg .module .secStaleRefuseCnt]
  | .endpoint => touchesLogEvent .endpoint ++ touchesServeRead .endpoint ++ [.reg .endpoint .prtIngressDiscard, .reg .endpoint .prtMalformed, .reg .endpoint .xptDupCnt, .reg .endpoint .xptOowCnt,
    .reg .endpoint .xptReorderNackCnt, .reg .endpoint .memNoWindowCnt, .reg .endpoint .memDenyKeyCnt,
    .reg .endpoint .memDenyClassCnt, .reg .endpoint .memDenyRightsCnt, .reg .endpoint .memDenyAlignCnt,
    .reg .endpoint .memReplayHitCnt, .reg .endpoint .memUnknownCnt, .reg .endpoint .secRetiredDropCnt,
    .reg .endpoint .secTagFailCnt, .reg .endpoint .secClassFailCnt, .reg .endpoint .secNokeyCnt,
    .reg .endpoint .secStaleRefuseCnt, .unit .endpoint .ports, .unit .endpoint .xpt, .mod .sw]

/-- What `gaveUp` may change. -/
def touchesGaveUp : List Part := touchesServeRead .module ++ touchesSendResult ++ [.reg .module .prtMalformed, .reg .module .mrnAbortCnt, .reg .module .fltQuarCnt, .reg .module .fltLive, .mod .live]

/-- What `registerWrite` may change. -/
def registerWriteTouches : Side → List Part
  | .module => everyReg .module ++ touchesGaveUp ++ touchesSettleBoth ++ [.unit .module .lanes, .unit .module .bundle, .unit .module .badSlices, .unit .module .dead, .unit .module .time,
    .unit .module .sync, .unit .module .mgmt, .unit .module .keys, .pool .fills, .pool .mwin, .pool .installedGib,
    .pool .missing, .eng .queues, .eng .ats, .eng .threads, .eng .dcache, .eng .grants, .eng .scratch, .mod .bring, .mod .top,
    .mod .power, .mod .tel, .mod .sec, .mod .signers, .mod .ownDiscardAt, .free]
  | .endpoint => everyReg .endpoint ++ touchesSettleBoth ++ [.reg .module .prtReplayCnt, .unit .endpoint .lanes, .unit .endpoint .badSlices, .unit .endpoint .dead, .mod .sec, .ep .accs,
    .ep .recovery, .ep .trig, .ep .reached, .ep .domCheck, .ep .coll]

/-- What `laneRetrain` may change. -/
def laneRetrainTouches : Side → List Part
  | .module => touchesPortDown .module ++ [.reg .module .prtDegradeCnt]
  | .endpoint => touchesPortDown .endpoint ++ [.reg .endpoint .prtDegradeCnt]

/-- What `cacheFlush` may change. -/
def cacheFlushTouches : Side → List Part
  | .module => [.unit .module .lanes]
  | .endpoint => [.unit .endpoint .lanes]

/-- What `spareNow` may change. -/
def spareNowTouches : Side → List Part
  | .module => touchesPortDown .module ++ [.reg .module .tilRecordStatus, .reg .module .prtDegradeCnt, .unit .module .badSlices, .mod .tile]
  | .endpoint => touchesPortDown .endpoint ++ [.reg .endpoint .prtDegradeCnt, .unit .endpoint .badSlices]

/-- What `lanePowerRequest` may change. -/
def lanePowerRequestTouches : Side → List Part
  | .module => touchesBump .module ++ touchesApplyPower .module ++ [.reg .module .lnkCtl, .reg .module .secOwnDiscardCnt, .mod .ownDiscardAt]
  | .endpoint => touchesLogEvent .endpoint ++ touchesApplyPower .endpoint ++ [.reg .endpoint .lnkCtl, .reg .endpoint .fxeLockDiscardCnt]

/-- What `laneEnable` may change. -/
def laneEnableTouches : Side → List Part
  | .module => touchesBump .module ++ touchesApplyPower .module ++ [.reg .module .lnkCtl, .reg .module .secOwnDiscardCnt, .mod .ownDiscardAt]
  | .endpoint => touchesLogEvent .endpoint ++ touchesApplyPower .endpoint ++ [.reg .endpoint .lnkCtl, .reg .endpoint .fxeLockDiscardCnt]

/-- What `farSignalDetected` may change. -/
def farSignalDetectedTouches : Side → List Part
  | .module => touchesBump .module ++ [.reg .module .lnkStatus, .reg .module .lnkTrainCnt, .unit .module .lanes]
  | .endpoint => touchesLogEvent .endpoint ++ [.reg .endpoint .lnkStatus, .reg .endpoint .lnkTrainCnt, .unit .endpoint .lanes]

/-- What `farSignalLost` may change. -/
def farSignalLostTouches : Side → List Part
  | .module => touchesPortDown .module ++ touchesAbandonFast .module ++ [.reg .module .prtDegradeCnt]
  | .endpoint => touchesPortDown .endpoint ++ [.reg .endpoint .prtDegradeCnt, .unit .endpoint .badSlices]

/-- What `controlBlock` may change. -/
def controlBlockTouches : Side → List Part
  | .module => touchesAbandonFast .module ++ [.reg .module .lnkFarId, .reg .module .lnkCbErr, .reg .module .telOvfEventCnt]
  | .endpoint => touchesAbandonFast .endpoint ++ [.reg .endpoint .lnkFarId, .reg .endpoint .lnkCbErr, .reg .endpoint .fxeId]

/-- What `tapRequestApply` may change. -/
def tapRequestApplyTouches : Side → List Part
  | .module => [.reg .module .lnkStatus, .reg .module .lnkTxTaps, .unit .module .lanes, .unit .module .out, .unit .endpoint .out]
  | .endpoint => [.reg .endpoint .lnkStatus, .reg .endpoint .lnkTxTaps, .unit .endpoint .lanes, .unit .module .out, .unit .endpoint .out]

/-- What `trainingTimeout` may change. -/
def trainingTimeoutTouches : Side → List Part
  | .module => touchesPortDown .module ++ touchesAbandonFast .module ++ [.reg .module .prtDegradeCnt]
  | .endpoint => touchesPortDown .endpoint ++ [.reg .endpoint .prtDegradeCnt, .unit .endpoint .badSlices]

/-- What `verifyEnd` may change. -/
def verifyEndTouches : Side → List Part
  | .module => touchesAbandonFast .module
  | .endpoint => touchesAbandonFast .endpoint

/-- What `handoverAccept` may change. -/
def handoverAcceptTouches : Side → List Part
  | .module => touchesApplyPower .module
  | .endpoint => touchesApplyPower .endpoint

/-- What `fastTimeout` may change. -/
def fastTimeoutTouches : Side → List Part
  | .module => touchesPortDown .module ++ touchesAbandonFast .module ++ [.reg .module .prtDegradeCnt]
  | .endpoint => touchesPortDown .endpoint ++ [.reg .endpoint .prtDegradeCnt, .unit .endpoint .badSlices]

/-- What `lnkPlanWrite` may change. -/
def lnkPlanWriteTouches : List Part := touchesPortDown .module ++ [.reg .module .lnkPlan, .reg .module .prtDegradeCnt, .reg .module .secOwnDiscardCnt, .mod .ownDiscardAt]

/-- What `idAnnounce` may change. -/
def idAnnounceTouches : Side → List Part
  | .module => touchesPortDown .module ++ [.reg .module .xptPchkDiscardCnt]
  | .endpoint => touchesPortDown .endpoint ++ [.reg .endpoint .xptPchkDiscardCnt]

/-- What `idAnnounceTimer` may change. -/
def idAnnounceTimerTouches : Side → List Part
  | .module => [.unit .module .ports, .mod .sw]
  | .endpoint => [.unit .endpoint .ports, .mod .sw]

/-- What `idAnnounceTimeout` may change. -/
def idAnnounceTimeoutTouches : Side → List Part
  | .module => touchesGaveUp ++ touchesPortDown .module
  | .endpoint => touchesPortDown .endpoint

/-- What `errorRatioCheck` may change. -/
def errorRatioCheckTouches : Side → List Part
  | .module => touchesPortDown .module ++ [.reg .module .tilRecordStatus, .reg .module .prtDegradeCnt, .unit .module .badSlices, .mod .tile]
  | .endpoint => touchesPortDown .endpoint ++ [.reg .endpoint .prtDegradeCnt, .unit .endpoint .badSlices]

/-- What `alignmentMarker` may change. -/
def alignmentMarkerTouches : Side → List Part
  | .module => touchesPortDown .module ++ [.reg .module .lnkBipErr, .reg .module .prtDegradeCnt, .reg .module .telPolicy]
  | .endpoint => touchesPortDown .endpoint ++ [.reg .endpoint .lnkBipErr, .reg .endpoint .prtDegradeCnt, .reg .module .telPolicy]

/-- What `laneCtl` may change. -/
def laneCtlTouches : Side → List Part
  | .module => touchesBump .module ++ touchesApplyPower .module ++ [.reg .module .xptPchkDiscardCnt, .unit .endpoint .out, .mod .sw]
  | .endpoint => touchesLogEvent .endpoint ++ touchesApplyPower .endpoint ++ [.reg .endpoint .xptPchkDiscardCnt, .unit .module .out, .mod .sw]

/-- What `laneCtlTimeout` may change. -/
def laneCtlTimeoutTouches : Side → List Part
  | .module => [.unit .module .lanes]
  | .endpoint => [.unit .endpoint .lanes]

/-- What `sleepSignalLoss` may change. -/
def sleepSignalLossTouches : Side → List Part
  | .module => [.reg .module .lnkStatus, .reg .module .lnkTxTaps, .unit .module .lanes]
  | .endpoint => [.reg .endpoint .lnkStatus, .reg .endpoint .lnkTxTaps, .unit .endpoint .lanes]

/-- What `laneWake` may change. -/
def laneWakeTouches : Side → List Part
  | .module => [.reg .module .lnkStatus, .reg .module .lnkTxTaps, .unit .module .lanes]
  | .endpoint => [.reg .endpoint .lnkStatus, .reg .endpoint .lnkTxTaps, .unit .endpoint .lanes]

/-- What `flitReceive` may change. -/
def flitReceiveTouches : Side → List Part
  | .module => touchesPortDown .module ++ [.reg .module .prtCrcErr, .reg .module .prtReplayCnt, .reg .module .prtFecCorr, .reg .module .prtFecUncorr,
    .reg .module .prtDegradeCnt]
  | .endpoint => touchesPortDown .endpoint ++ [.reg .endpoint .prtCrcErr, .reg .endpoint .prtReplayCnt, .reg .endpoint .prtFecCorr, .reg .endpoint .prtFecUncorr,
    .reg .endpoint .prtDegradeCnt, .reg .endpoint .xptRetxCnt, .reg .endpoint .xptBarrierCnt]

/-- What `retryReq` may change. -/
def retryReqTouches : Side → List Part
  | .module => touchesPortDown .module ++ [.reg .module .prtCrcErr, .reg .module .prtReplayCnt, .reg .module .prtDegradeCnt]
  | .endpoint => touchesPortDown .endpoint ++ [.reg .endpoint .prtCrcErr, .reg .endpoint .prtReplayCnt, .reg .endpoint .prtDegradeCnt, .reg .endpoint .xptRetxCnt,
    .reg .endpoint .xptBarrierCnt]

/-- What `resync` may change. -/
def resyncTouches : Side → List Part
  | .module => touchesPortDown .module ++ [.reg .module .prtCrcErr, .reg .module .prtReplayCnt]
  | .endpoint => touchesPortDown .endpoint ++ [.reg .endpoint .prtCrcErr, .reg .endpoint .prtReplayCnt, .reg .endpoint .xptRetxCnt, .reg .endpoint .xptBarrierCnt]

/-- What `retryReqTimer` may change. -/
def retryReqTimerTouches : Side → List Part
  | .module => [.unit .module .ports, .unit .module .out]
  | .endpoint => [.unit .endpoint .ports, .unit .endpoint .out]

/-- What `replayTimeout` may change. -/
def replayTimeoutTouches : Side → List Part
  | .module => touchesPortDown .module ++ [.reg .module .prtReplayCnt, .reg .module .prtDegradeCnt]
  | .endpoint => touchesPortDown .endpoint ++ [.reg .endpoint .prtReplayCnt, .reg .endpoint .prtDegradeCnt]

/-- What `peerPortDown` may change. -/
def peerPortDownTouches : Side → List Part
  | .module => touchesPortDown .module
  | .endpoint => touchesPortDown .endpoint

/-- What `portForm` may change. -/
def portFormTouches : Side → List Part
  | .module => touchesLogEvent .module ++ [.reg .module .prtStatus, .reg .module .prtVersion, .unit .module .ports]
  | .endpoint => touchesLogEvent .endpoint ++ [.reg .endpoint .prtStatus, .reg .endpoint .prtVersion, .unit .endpoint .ports, .unit .endpoint .bundle]

/-- What `creditInit` may change. -/
def creditInitTouches : Side → List Part
  | .module => [.reg .module .prtStatus, .unit .module .ports]
  | .endpoint => touchesLogEvent .endpoint ++ [.reg .endpoint .prtStatus, .reg .endpoint .xptRetxCnt, .reg .endpoint .xptBarrierCnt, .unit .endpoint .ports,
    .unit .endpoint .xpt, .mod .sw, .ep .nextTseq, .ep .recovery]

/-- What `laneFault` may change. -/
def laneFaultTouches : Side → List Part
  | .module => touchesPortDown .module ++ [.reg .module .tilRecordStatus, .reg .module .prtDegradeCnt, .unit .module .badSlices, .mod .tile]
  | .endpoint => touchesPortDown .endpoint ++ [.reg .endpoint .prtDegradeCnt, .unit .endpoint .badSlices]

/-- What `laneDrop` may change. -/
def laneDropTouches : Side → List Part
  | .module => touchesPortDown .module ++ [.reg .module .prtReplayCnt, .reg .module .prtDegradeCnt]
  | .endpoint => touchesPortDown .endpoint ++ [.reg .endpoint .prtReplayCnt, .reg .endpoint .prtDegradeCnt]

/-- What `laneAdd` may change. -/
def laneAddTouches : Side → List Part
  | .module => touchesReplay .module ++ [.reg .module .prtStatus]
  | .endpoint => touchesReplay .endpoint ++ [.reg .endpoint .prtStatus]

/-- What `upconfigLaneReady` may change. -/
def upconfigLaneReadyTouches : Side → List Part
  | .module => touchesReplay .module ++ [.reg .module .prtStatus]
  | .endpoint => touchesReplay .endpoint ++ [.reg .endpoint .prtStatus]

/-- What `laneRelease` may change. -/
def laneReleaseTouches : Side → List Part
  | .module => touchesReplay .module ++ [.reg .module .lnkStatus, .reg .module .prtStatus, .reg .module .prtDegradeCnt, .unit .module .lanes]
  | .endpoint => touchesReplay .endpoint ++ [.reg .endpoint .lnkStatus, .reg .endpoint .prtStatus, .reg .endpoint .prtDegradeCnt, .unit .endpoint .lanes]

/-- What `releaseAck` may change. -/
def releaseAckTouches : Side → List Part
  | .module => touchesReplay .module ++ [.reg .module .lnkStatus, .reg .module .prtStatus, .reg .module .prtDegradeCnt, .unit .module .lanes]
  | .endpoint => touchesReplay .endpoint ++ [.reg .endpoint .lnkStatus, .reg .endpoint .prtStatus, .reg .endpoint .prtDegradeCnt, .unit .endpoint .lanes]

/-- What `portDownCmd` may change. -/
def portDownCmdTouches : Side → List Part
  | .module => touchesPortDown .module
  | .endpoint => touchesPortDown .endpoint

/-- What `packetTransmit` may change. -/
def packetTransmitTouches : Side → List Part
  | .module => touchesLogEvent .module ++ [.reg .module .ratRule, .unit .module .ports, .mod .rattle]
  | .endpoint => [.unit .endpoint .ports, .unit .endpoint .out]

/-- What `packetIngress` may change. -/
def packetIngressTouches : List Part := touchesSendGo ++ [.reg .module .prtIngressDiscard, .reg .module .prtMalformed, .reg .module .secRetiredDropCnt]

/-- What `bufferRoomFreed` may change. -/
def bufferRoomFreedTouches : List Part := touchesSendGo ++ [.reg .module .prtMalformed]

/-- What `residueSend` may change. -/
def residueSendTouches : List Part := touchesLogEvent .module ++ [.reg .module .ratRule, .unit .module .ports, .mod .sw, .mod .rattle]

/-- What `reseqArrive` may change. -/
def reseqArriveTouches : List Part := touchesSendGo ++ [.reg .module .rteRsqBypassCnt]

/-- What `reseqGapTimeout` may change. -/
def reseqGapTimeoutTouches : List Part := touchesSendGo ++ [.reg .module .rteRsqTimeoutCnt]

/-- What `nocRouterFault` may change. -/
def nocRouterFaultTouches : List Part := touchesPortDown .module ++ [.reg .module .nocStatus, .reg .module .fltStatus]

/-- What `nocPlaneDisable` may change. -/
def nocPlaneDisableTouches : List Part := touchesBump .module ++ [.reg .module .nocStatus, .reg .module .nocCtl, .reg .module .secOwnDiscardCnt, .mod .ownDiscardAt]

/-- What `packetAgeOut` may change. -/
def packetAgeOutTouches : List Part := touchesBump .module ++ [.reg .module .xptAgeDiscardCnt, .reg .module .mrnAgeCnt, .unit .module .ports, .mod .sw]

/-- What `seqPacketSend` may change. -/
def seqPacketSendTouches : Side → List Part
  | .module => touchesSettleBoth
  | .endpoint => touchesSettleBoth ++ [.ep .accs]

/-- What `seqPacketReceive` may change. -/
def seqPacketReceiveTouches : Side → List Part
  | .module => touchesReceiveSeq .module ++ touchesSettleBoth ++ [.reg .module .memReplayFullCnt]
  | .endpoint => touchesSettleBoth ++ touchesReceiveSeq .endpoint ++ [.reg .module .prtReplayCnt, .reg .endpoint .prtReplayCnt, .reg .endpoint .memReplayFullCnt, .ep .jobs, .ep .nextJob,
    .ep .locks]

/-- What `ackTimer` may change. -/
def ackTimerTouches : Side → List Part
  | .module => touchesSendGo ++ [.unit .module .xpt]
  | .endpoint => [.unit .endpoint .ports, .unit .endpoint .xpt, .mod .sw]

/-- What `xptAck` may change. -/
def xptAckTouches : Side → List Part
  | .module => touchesSettleBoth ++ touchesReceiveColl .module
  | .endpoint => touchesSettleBoth ++ touchesReceiveColl .endpoint

/-- What `xptNack` may change. -/
def xptNackTouches : Side → List Part
  | .module => touchesSettleBoth ++ touchesReceiveColl .module ++ [.reg .module .xptNackUnmatchedCnt, .reg .module .memLateRefusalCnt, .reg .module .engQ]
  | .endpoint => touchesSettleBoth ++ touchesReceiveColl .endpoint ++ [.reg .endpoint .xptNackUnmatchedCnt, .reg .endpoint .memLateRefusalCnt, .reg .endpoint .fxeDmaq]

/-- What `nackRetryTimer` may change. -/
def nackRetryTimerTouches : Side → List Part
  | .module => touchesSendGo ++ [.reg .module .xptRetxCnt, .unit .module .xpt]
  | .endpoint => touchesLogEvent .endpoint ++ [.reg .endpoint .xptRetxCnt, .unit .endpoint .ports, .unit .endpoint .xpt, .mod .sw]

/-- What `retransmitTimer` may change. -/
def retransmitTimerTouches : Side → List Part
  | .module => touchesGaveUp ++ touchesSettleBoth ++ [.reg .module .xptGiveupCnt]
  | .endpoint => touchesGaveUp ++ touchesSettleBoth ++ [.reg .endpoint .xptGiveupCnt]

/-- What `xptRestart` may change. -/
def xptRestartTouches : Side → List Part
  | .module => touchesSettleBoth ++ touchesReceiveColl .module
  | .endpoint => touchesSettleBoth ++ touchesReceiveColl .endpoint

/-- What `planeUnusable` may change. -/
def planeUnusableTouches : Side → List Part
  | .module => touchesSettleBoth
  | .endpoint => touchesSettleBoth ++ [.ep .coll]

/-- What `planeSuspectExpire` may change. -/
def planeSuspectExpireTouches : Side → List Part
  | .module => touchesSettleBoth
  | .endpoint => touchesSettleBoth

/-- What `homePlaneReturn` may change. -/
def homePlaneReturnTouches : Side → List Part
  | .module => touchesBump .module ++ [.reg .module .xptBarrierCnt, .unit .module .xpt]
  | .endpoint => touchesLogEvent .endpoint ++ [.reg .endpoint .xptBarrierCnt, .unit .endpoint .xpt]

/-- What `plannedBarrierDone` may change. -/
def plannedBarrierDoneTouches : Side → List Part
  | .module => touchesBump .module ++ [.reg .module .xptBarrierCnt, .unit .module .xpt]
  | .endpoint => touchesLogEvent .endpoint ++ [.reg .endpoint .xptBarrierCnt, .unit .endpoint .xpt]

/-- What `xptPeerReset` may change. -/
def xptPeerResetTouches : Side → List Part
  | .module => touchesReplay .module ++ touchesReplay .endpoint ++ [.reg .module .secStatus, .unit .module .dead, .unit .module .xpt]
  | .endpoint => touchesReplay .module ++ touchesReplay .endpoint ++ [.reg .endpoint .secStatus, .unit .endpoint .dead, .unit .endpoint .xpt]

/-- What `xqLoad` may change. -/
def xqLoadTouches : List Part := touchesSettleBoth ++ [.reg .endpoint .secRetiredDropCnt, .ep .accs]

/-- What `xqLoadAcq` may change. -/
def xqLoadAcqTouches : List Part := touchesSettleBoth ++ [.reg .endpoint .secRetiredDropCnt]

/-- What `xqStore` may change. -/
def xqStoreTouches : List Part := touchesSettleBoth ++ [.reg .endpoint .secRetiredDropCnt, .ep .accs]

/-- What `xqStoreFlag` may change. -/
def xqStoreFlagTouches : List Part := touchesSettleBoth ++ [.reg .endpoint .secRetiredDropCnt]

/-- What `xqAtomicInt` may change. -/
def xqAtomicIntTouches : List Part := touchesSettleBoth ++ [.reg .endpoint .secRetiredDropCnt]

/-- What `xqAtomicFp` may change. -/
def xqAtomicFpTouches : List Part := touchesSettleBoth ++ [.reg .endpoint .secRetiredDropCnt]

/-- What `xqReduceStore` may change. -/
def xqReduceStoreTouches : List Part := touchesSettleBoth ++ [.reg .endpoint .secRetiredDropCnt]

/-- What `fence` may change. -/
def fenceTouches : List Part := touchesLogEvent .endpoint ++ [.reg .endpoint .secRetiredDropCnt, .unit .endpoint .xpt]

/-- What `fenceComplete` may change. -/
def fenceCompleteTouches : Side → List Part
  | .module => touchesSettleBoth ++ [.eng .threads, .eng .dcache]
  | .endpoint => touchesSettleBoth

/-- What `rmInvAll` may change. -/
def rmInvAllTouches : List Part := [.unit .endpoint .out, .ep .cache, .ep .noFill]

/-- What `cohRd` may change. -/
def cohRdTouches : List Part := touchesSettleBoth ++ [.reg .endpoint .secRetiredDropCnt, .ep .accs]

/-- What `cohRdown` may change. -/
def cohRdownTouches : List Part := touchesSettleBoth ++ [.reg .endpoint .secRetiredDropCnt, .ep .accs]

/-- What `cohWb` may change. -/
def cohWbTouches : List Part := touchesSettleBoth ++ [.reg .endpoint .secRetiredDropCnt, .ep .accs]

/-- What `cohEvict` may change. -/
def cohEvictTouches : List Part := touchesSettleBoth ++ [.reg .endpoint .secRetiredDropCnt]

/-- What `regRd` may change. -/
def regRdTouches : List Part := [.reg .module .mgtStatus, .unit .endpoint .out]

/-- What `regWr` may change. -/
def regWrTouches : List Part := everyReg .endpoint ++ touchesSettleBoth ++ [.reg .module .prtReplayCnt, .unit .endpoint .lanes, .unit .endpoint .badSlices, .unit .endpoint .dead, .ep .accs,
  .ep .recovery, .ep .trig, .ep .reached, .ep .nextTrig, .ep .domCheck, .ep .coll]

/-- What `load` may change. -/
def loadTouches : Side → List Part
  | .module => touchesReceiveSeq .module ++ touchesSettleBoth ++ [.reg .module .memReplayFullCnt]
  | .endpoint => touchesSettleBoth ++ touchesReceiveSeq .endpoint ++ [.reg .module .prtReplayCnt, .reg .endpoint .prtReplayCnt, .reg .endpoint .memReplayFullCnt, .ep .jobs, .ep .nextJob,
    .ep .locks]

/-- What `loadAcq` may change. -/
def loadAcqTouches : Side → List Part
  | .module => touchesReceiveSeq .module ++ touchesSettleBoth ++ [.reg .module .memReplayFullCnt]
  | .endpoint => touchesSettleBoth ++ touchesReceiveSeq .endpoint ++ [.reg .module .prtReplayCnt, .reg .endpoint .prtReplayCnt, .reg .endpoint .memReplayFullCnt, .ep .jobs, .ep .nextJob,
    .ep .locks]

/-- What `store` may change. -/
def storeTouches : Side → List Part
  | .module => touchesReceiveSeq .module ++ touchesSettleBoth ++ [.reg .module .memReplayFullCnt]
  | .endpoint => touchesSettleBoth ++ touchesReceiveSeq .endpoint ++ [.reg .module .prtReplayCnt, .reg .endpoint .prtReplayCnt, .reg .endpoint .memReplayFullCnt, .ep .jobs, .ep .nextJob,
    .ep .locks]

/-- What `storeFlag` may change. -/
def storeFlagTouches : Side → List Part
  | .module => touchesReceiveSeq .module ++ touchesSettleBoth ++ [.reg .module .memReplayFullCnt]
  | .endpoint => touchesSettleBoth ++ touchesReceiveSeq .endpoint ++ [.reg .module .prtReplayCnt, .reg .endpoint .prtReplayCnt, .reg .endpoint .memReplayFullCnt, .ep .jobs, .ep .nextJob,
    .ep .locks]

/-- What `atomicInt` may change. -/
def atomicIntTouches : Side → List Part
  | .module => touchesReceiveSeq .module ++ touchesSettleBoth ++ [.reg .module .memReplayFullCnt]
  | .endpoint => touchesSettleBoth ++ touchesReceiveSeq .endpoint ++ [.reg .module .prtReplayCnt, .reg .endpoint .prtReplayCnt, .reg .endpoint .memReplayFullCnt, .ep .jobs, .ep .nextJob,
    .ep .locks]

/-- What `atomicFp` may change. -/
def atomicFpTouches : Side → List Part
  | .module => touchesReceiveSeq .module ++ touchesSettleBoth ++ [.reg .module .memReplayFullCnt]
  | .endpoint => touchesSettleBoth ++ touchesReceiveSeq .endpoint ++ [.reg .module .prtReplayCnt, .reg .endpoint .prtReplayCnt, .reg .endpoint .memReplayFullCnt, .ep .jobs, .ep .nextJob,
    .ep .locks]

/-- What `reduceStore` may change. -/
def reduceStoreTouches : Side → List Part
  | .module => touchesReceiveSeq .module ++ touchesSettleBoth ++ [.reg .module .memReplayFullCnt]
  | .endpoint => touchesSettleBoth ++ touchesReceiveSeq .endpoint ++ [.reg .module .prtReplayCnt, .reg .endpoint .prtReplayCnt, .reg .endpoint .memReplayFullCnt, .ep .jobs, .ep .nextJob,
    .ep .locks]

/-- What `dmaWrite` may change. -/
def dmaWriteTouches : Side → List Part
  | .module => touchesReceiveSeq .module ++ touchesSettleBoth ++ [.reg .module .memReplayFullCnt]
  | .endpoint => touchesSettleBoth ++ touchesReceiveSeq .endpoint ++ [.reg .module .prtReplayCnt, .reg .endpoint .prtReplayCnt, .reg .endpoint .memReplayFullCnt, .ep .jobs, .ep .nextJob,
    .ep .locks]

/-- What `dmaReadReq` may change. -/
def dmaReadReqTouches : Side → List Part
  | .module => touchesReceiveSeq .module ++ touchesSettleBoth ++ [.reg .module .memReplayFullCnt]
  | .endpoint => touchesSettleBoth ++ touchesReceiveSeq .endpoint ++ [.reg .module .prtReplayCnt, .reg .endpoint .prtReplayCnt, .reg .endpoint .memReplayFullCnt, .ep .jobs, .ep .nextJob,
    .ep .locks]

/-- What `loadData` may change. -/
def loadDataTouches : Side → List Part
  | .module => touchesSettleBoth ++ [.reg .endpoint .prtIngressDiscard, .reg .module .prtMalformed, .reg .module .xptNackUnmatchedCnt,
    .reg .module .secRetiredDropCnt, .reg .module .secTagFailCnt, .reg .module .secNokeyCnt, .reg .module .secStaleRefuseCnt]
  | .endpoint => touchesSettleBoth ++ [.reg .endpoint .prtIngressDiscard, .reg .endpoint .prtMalformed, .reg .endpoint .xptNackUnmatchedCnt,
    .reg .endpoint .secRetiredDropCnt, .reg .endpoint .secTagFailCnt, .reg .endpoint .secNokeyCnt,
    .reg .endpoint .secStaleRefuseCnt]

/-- What `storeAck` may change. -/
def storeAckTouches : Side → List Part
  | .module => touchesSettleBoth ++ [.reg .endpoint .prtIngressDiscard, .reg .module .prtMalformed, .reg .module .xptNackUnmatchedCnt,
    .reg .module .secRetiredDropCnt, .reg .module .secTagFailCnt, .reg .module .secNokeyCnt, .reg .module .secStaleRefuseCnt]
  | .endpoint => touchesSettleBoth ++ [.reg .endpoint .prtIngressDiscard, .reg .endpoint .prtMalformed, .reg .endpoint .xptNackUnmatchedCnt,
    .reg .endpoint .secRetiredDropCnt, .reg .endpoint .secTagFailCnt, .reg .endpoint .secNokeyCnt,
    .reg .endpoint .secStaleRefuseCnt]

/-- What `atomicResult` may change. -/
def atomicResultTouches : Side → List Part
  | .module => touchesSettleBoth ++ [.reg .endpoint .prtIngressDiscard, .reg .module .prtMalformed, .reg .module .xptNackUnmatchedCnt,
    .reg .module .secRetiredDropCnt, .reg .module .secTagFailCnt, .reg .module .secNokeyCnt, .reg .module .secStaleRefuseCnt]
  | .endpoint => touchesSettleBoth ++ [.reg .endpoint .prtIngressDiscard, .reg .endpoint .prtMalformed, .reg .endpoint .xptNackUnmatchedCnt,
    .reg .endpoint .secRetiredDropCnt, .reg .endpoint .secTagFailCnt, .reg .endpoint .secNokeyCnt,
    .reg .endpoint .secStaleRefuseCnt]

/-- What `reduceAck` may change. -/
def reduceAckTouches : Side → List Part
  | .module => touchesSettleBoth ++ [.reg .endpoint .prtIngressDiscard, .reg .module .prtMalformed, .reg .module .xptNackUnmatchedCnt,
    .reg .module .secRetiredDropCnt, .reg .module .secTagFailCnt, .reg .module .secNokeyCnt, .reg .module .secStaleRefuseCnt]
  | .endpoint => touchesSettleBoth ++ [.reg .endpoint .prtIngressDiscard, .reg .endpoint .prtMalformed, .reg .endpoint .xptNackUnmatchedCnt,
    .reg .endpoint .secRetiredDropCnt, .reg .endpoint .secTagFailCnt, .reg .endpoint .secNokeyCnt,
    .reg .endpoint .secStaleRefuseCnt]

/-- What `dmaReadData` may change. -/
def dmaReadDataTouches : Side → List Part
  | .module => touchesSettleBoth ++ [.reg .endpoint .prtIngressDiscard, .reg .module .prtMalformed, .reg .module .xptNackUnmatchedCnt,
    .reg .module .secRetiredDropCnt, .reg .module .secTagFailCnt, .reg .module .secNokeyCnt, .reg .module .secStaleRefuseCnt]
  | .endpoint => touchesSettleBoth ++ [.reg .endpoint .prtIngressDiscard, .reg .endpoint .prtMalformed, .reg .endpoint .xptNackUnmatchedCnt,
    .reg .endpoint .secRetiredDropCnt, .reg .endpoint .secTagFailCnt, .reg .endpoint .secNokeyCnt,
    .reg .endpoint .secStaleRefuseCnt]

/-- What `loadTimeout` may change. -/
def loadTimeoutTouches : Side → List Part
  | .module => touchesSettleBoth ++ [.reg .module .memLoadTimeoutCnt]
  | .endpoint => touchesSettleBoth ++ [.reg .endpoint .memLoadTimeoutCnt]

/-- What `replayEntryExpire` may change. -/
def replayEntryExpireTouches : Side → List Part
  | .module => touchesReplay .module ++ touchesReplay .endpoint ++ [.unit .module .xpt]
  | .endpoint => touchesReplay .module ++ touchesReplay .endpoint ++ [.unit .endpoint .xpt]

/-- What `rmLineExpire` may change. -/
def rmLineExpireTouches : List Part := [.ep .cache]

/-- What `rdShared` may change. -/
def rdSharedTouches : List Part := touchesSettleBoth ++ touchesServeRead .module ++ [.reg .endpoint .prtIngressDiscard, .reg .module .prtMalformed, .reg .module .memNoWindowCnt, .reg .module .memDenyKeyCnt,
  .reg .module .memDenyClassCnt, .reg .module .memDenyRightsCnt, .reg .module .secRetiredDropCnt]

/-- What `rdOwn` may change. -/
def rdOwnTouches : List Part := touchesSettleBoth ++ touchesServeRead .module ++ [.reg .endpoint .prtIngressDiscard, .reg .module .prtMalformed, .reg .module .memNoWindowCnt, .reg .module .memDenyKeyCnt,
  .reg .module .memDenyClassCnt, .reg .module .memDenyRightsCnt, .reg .module .secRetiredDropCnt]

/-- What `upgrade` may change. -/
def upgradeTouches : List Part := touchesSettleBoth ++ touchesServeRead .module ++ [.reg .endpoint .prtIngressDiscard, .reg .module .prtMalformed, .reg .module .memNoWindowCnt, .reg .module .memDenyKeyCnt,
  .reg .module .memDenyClassCnt, .reg .module .memDenyRightsCnt, .reg .module .secRetiredDropCnt]

/-- What `wb` may change. -/
def wbTouches : List Part := touchesSettleBoth ++ touchesServeRead .module ++ [.reg .endpoint .prtIngressDiscard, .reg .module .prtMalformed, .reg .module .memNoWindowCnt, .reg .module .memDenyKeyCnt,
  .reg .module .memDenyClassCnt, .reg .module .memDenyRightsCnt, .reg .module .secRetiredDropCnt]

/-- What `evict` may change. -/
def evictTouches : List Part := touchesSettleBoth ++ touchesServeRead .module ++ [.reg .endpoint .prtIngressDiscard, .reg .module .prtMalformed, .reg .module .memNoWindowCnt, .reg .module .memDenyKeyCnt,
  .reg .module .memDenyClassCnt, .reg .module .memDenyRightsCnt, .reg .module .secRetiredDropCnt]

/-- What `recoverStart` may change. -/
def recoverStartTouches : List Part := touchesSettleBoth ++ touchesReceiveColl .module ++ [.reg .module .dirRecoverCnt, .mod .dir]

/-- What `recoverDone` may change. -/
def recoverDoneTouches : List Part := touchesSettleBoth ++ [.reg .endpoint .prtIngressDiscard, .reg .module .prtMalformed, .reg .module .dirPoisonCnt, .reg .module .secRetiredDropCnt,
  .pool .poison, .mod .dir]

/-- What `snpRsp` may change. -/
def snpRspTouches : List Part := touchesSettleBoth ++ touchesServeRead .module ++ touchesReceiveColl .module ++ touchesSettleSpare ++ [.reg .module .dirStatus]

/-- What `ack` may change. -/
def ackTouches : List Part := touchesSettleBoth ++ touchesReceiveColl .module ++ [.mod .dir]

/-- What `lineUnblock` may change. -/
def lineUnblockTouches : List Part := touchesSettleBoth ++ touchesServeRead .module

/-- What `snpShared` may change. -/
def snpSharedTouches : List Part := touchesSettleBoth ++ touchesReceiveColl .endpoint

/-- What `snpInv` may change. -/
def snpInvTouches : List Part := touchesSettleBoth ++ touchesReceiveColl .endpoint

/-- What `snpCur` may change. -/
def snpCurTouches : List Part := touchesSettleBoth ++ touchesReceiveColl .endpoint

/-- What `binv` may change. -/
def binvTouches : List Part := touchesSettleBoth ++ touchesReceiveColl .endpoint

/-- What `snpFlush` may change. -/
def snpFlushTouches : List Part := touchesSettleBoth ++ touchesReceiveColl .endpoint ++ [.ep .accs, .ep .recovery]

/-- What `go` may change. -/
def goTouches : List Part := touchesSettleBoth ++ [.reg .endpoint .prtIngressDiscard, .reg .endpoint .prtMalformed, .reg .endpoint .secRetiredDropCnt, .ep .accs, .ep .recovery]

/-- What `cmp` may change. -/
def cmpTouches : List Part := touchesSettleBoth ++ [.reg .endpoint .prtIngressDiscard, .reg .endpoint .prtMalformed, .reg .endpoint .secRetiredDropCnt, .ep .accs, .ep .recovery]

/-- What `data` may change. -/
def dataTouches : List Part := touchesSettleBoth ++ [.reg .endpoint .prtIngressDiscard, .reg .endpoint .prtMalformed, .reg .endpoint .secRetiredDropCnt, .ep .accs]

/-- What `snoopTimeout` may change. -/
def snoopTimeoutTouches : List Part := touchesGaveUp ++ [.reg .module .dirSnpTimeoutCnt, .reg .module .dirRecoverCnt]

/-- What `recoverTimeout` may change. -/
def recoverTimeoutTouches : List Part := touchesGaveUp

/-- What `cohTimeout` may change. -/
def cohTimeoutTouches : List Part := touchesSettleBoth ++ [.ep .accs, .ep .recovery]

/-- What `directoryFlush` may change. -/
def directoryFlushTouches : List Part := touchesServeRead .module ++ touchesSettleSpare ++ [.reg .module .dirStatus]

/-- What `dirRegionClear` may change. -/
def dirRegionClearTouches : List Part := touchesSettleBoth ++ touchesHomeWrite ++ [.reg .module .prtReplayCnt, .reg .endpoint .prtReplayCnt, .reg .module .dirBcastCnt, .reg .module .dirNcGrantCnt,
  .reg .module .dirRegion, .reg .module .secOwnDiscardCnt, .mod .dir, .mod .ownDiscardAt]

/-- What `mirrorStoreDone` may change. -/
def mirrorStoreDoneTouches : List Part := touchesLogEvent .endpoint ++ [.reg .endpoint .fxeCoh, .ep .mirrored]

/-- What `collDescriptor` may change. -/
def collDescriptorTouches : List Part := touchesServeRead .endpoint ++ [.reg .endpoint .fxeCq, .reg .endpoint .fxeDmaq, .ep .queues, .ep .coll]

/-- What `collCancel` may change. -/
def collCancelTouches : List Part := touchesServeRead .endpoint ++ [.reg .endpoint .fxeCq, .reg .endpoint .fxeDmaq, .ep .queues, .ep .coll]

/-- What `timedStart` may change. -/
def timedStartTouches : List Part := [.ep .coll]

/-- What `chunkSend` may change. -/
def chunkSendTouches : List Part := touchesServeRead .endpoint ++ [.ep .coll]

/-- What `collContrib` may change. -/
def collContribTouches : List Part := touchesSendResult ++ touchesReceiveColl .module ++ [.reg .module .mrnMismatchCnt, .reg .module .mrnCrcFailCnt, .reg .module .mrnRestartCnt, .reg .module .mrnSharedCnt,
  .reg .module .mrnSpillCnt, .reg .module .mrnRefuseCnt, .reg .module .mrnAbortCnt, .reg .module .mrnStaleCnt,
  .reg .module .mrnKeyDiscardCnt, .reg .module .redSaturateCnt, .reg .module .secTagFailCnt, .reg .module .secNokeyCnt,
  .reg .module .fltShadowFailCnt, .reg .module .fltShadow, .reg .module .fltLive, .mod .live]

/-- What `epilogueStart` may change. -/
def epilogueStartTouches : List Part := touchesSendResult ++ touchesHomeWrite ++ [.reg .module .mrnAbortCnt, .reg .module .redReplayCommitCnt, .reg .module .redStaleStepCnt, .reg .module .redNonfiniteCnt,
  .reg .module .redStateErrCnt, .reg .module .redSaturateCnt, .reg .module .ctaMacCycleCnt, .reg .module .ctaGateWaitCnt,
  .reg .module .ctaPLoadCnt]

/-- What `epilogueCommit` may change. -/
def epilogueCommitTouches : List Part := touchesSendResult ++ touchesHomeWrite ++ [.reg .module .mrnAbortCnt, .reg .module .redCommitCnt, .reg .module .redStateErrCnt]

/-- What `collResult` may change. -/
def collResultTouches : Side → List Part
  | .module => touchesSendResult ++ touchesLogEvent .endpoint ++ [.reg .endpoint .prtIngressDiscard, .reg .module .prtMalformed, .reg .module .mrnKeyDiscardCnt,
    .reg .module .secRetiredDropCnt]
  | .endpoint => touchesReceiveColl .endpoint ++ touchesServeRead .endpoint ++ [.reg .endpoint .secTagFailCnt, .reg .endpoint .secNokeyCnt, .ep .coll]

/-- What `collAbort` may change. -/
def collAbortTouches : Side → List Part
  | .module => touchesSendResult ++ touchesReceiveColl .module ++ [.reg .module .mrnAbortCnt, .reg .module .mrnKeyDiscardCnt]
  | .endpoint => touchesReceiveColl .endpoint ++ touchesServeRead .endpoint ++ [.ep .coll]

/-- What `collResend` may change. -/
def collResendTouches : Side → List Part
  | .module => touchesSendResult ++ touchesReceiveColl .module ++ [.reg .module .mrnRestartCnt, .reg .module .mrnSharedCnt, .reg .module .mrnSpillCnt, .reg .module .mrnAbortCnt,
    .reg .module .mrnKeyDiscardCnt]
  | .endpoint => touchesGaveUp ++ touchesReceiveColl .endpoint ++ touchesServeRead .endpoint ++ [.ep .coll]

/-- What `collProbe` may change. -/
def collProbeTouches : List Part := touchesReceiveColl .module ++ [.reg .module .rteUnreachCnt, .reg .module .rteFeatRefuseCnt, .reg .module .mrnKeyDiscardCnt, .reg .module .ratRule,
  .unit .module .ports, .mod .sw, .mod .rattle]

/-- What `probeTimer` may change. -/
def probeTimerTouches : List Part := [.unit .endpoint .ports, .mod .sw]

/-- What `chunkTimeout` may change. -/
def chunkTimeoutTouches : List Part := touchesGaveUp ++ [.reg .module .mrnRestartCnt]

/-- What `collTimeout` may change. -/
def collTimeoutTouches : List Part := touchesServeRead .endpoint ++ [.ep .coll]

/-- What `refusalBackoff` may change. -/
def refusalBackoffTouches : Side → List Part
  | .module => touchesBump .module ++ [.reg .module .rteUnreachCnt, .reg .module .rteFeatRefuseCnt, .unit .module .ports, .mod .sw, .mod .mrn]
  | .endpoint => touchesServeRead .endpoint ++ [.ep .coll]

/-- What `partialHoldExpire` may change. -/
def partialHoldExpireTouches : List Part := touchesSettleSpare ++ [.reg .module .mrnOvfStatus, .reg .module .mrnChunkStatus, .reg .module .mrnCtx, .reg .module .redStatus, .mod .mrn]

/-- What `resultRetainExpire` may change. -/
def resultRetainExpireTouches : List Part := [.mod .mrn]

/-- What `chunkRecordExpire` may change. -/
def chunkRecordExpireTouches : List Part := [.mod .mrn]

/-- What `srcReadFail` may change. -/
def srcReadFailTouches : List Part := touchesServeRead .endpoint ++ [.unit .endpoint .ports, .mod .sw, .ep .coll]

/-- What `dominoSeg` may change. -/
def dominoSegTouches : List Part := touchesSettleBoth ++ touchesReceiveSeq .endpoint ++ [.ep .jobs, .ep .nextJob, .ep .locks]

/-- What `trigPost` may change. -/
def trigPostTouches : List Part := [.reg .endpoint .fxeDomStatus, .unit .endpoint .out, .ep .trig, .ep .reached, .ep .nextTrig]

/-- What `triggeredOpFire` may change. -/
def triggeredOpFireTouches : List Part := touchesSettleBoth ++ [.ep .reached]

/-- What `triggeredOpComplete` may change. -/
def triggeredOpCompleteTouches : List Part := touchesLogEvent .endpoint ++ [.reg .endpoint .fxeDomStatus, .reg .endpoint .fxeDomCtr, .ep .trig, .ep .reached, .ep .fired]

/-- What `domCtrWrite` may change. -/
def domCtrWriteTouches : List Part := [.reg .endpoint .fxeDomStatus, .reg .endpoint .fxeDomCtr, .ep .trig, .ep .reached, .ep .domCheck]

/-- What `dmaDoorbell` may change. -/
def dmaDoorbellTouches : List Part := touchesServeRead .endpoint ++ [.reg .endpoint .fxeCq, .reg .endpoint .fxeDmaq, .ep .queues]

/-- What `dmaDescriptor` may change. -/
def dmaDescriptorTouches : List Part := touchesSettleBoth ++ [.reg .endpoint .fxeCq, .reg .endpoint .fxeDmaq]

/-- What `dmaDescriptorDone` may change. -/
def dmaDescriptorDoneTouches : List Part := touchesServeRead .endpoint ++ [.reg .endpoint .fxeIntStatus, .reg .endpoint .fxeCq, .reg .endpoint .fxeDmaq, .ep .queues]

/-- What `queueFetchFail` may change. -/
def queueFetchFailTouches : List Part := [.reg .endpoint .fxeIntStatus, .reg .endpoint .fxeCq, .reg .endpoint .fxeDmaq, .unit .endpoint .out, .ep .queues]

/-- What `mrAnswer` may change. -/
def mrAnswerTouches : List Part := touchesSettleBoth ++ [.reg .module .prtReplayCnt, .reg .endpoint .prtReplayCnt, .reg .endpoint .fxeDomStatus, .reg .endpoint .fxeCq,
  .reg .endpoint .fxeDmaq, .reg .endpoint .fxeDomCtr, .ep .mqDead, .ep .jobs, .ep .nextJob, .ep .locks, .ep .trig, .ep .reached,
  .ep .domCheck, .ep .coll]

/-- What `memTimeout` may change. -/
def memTimeoutTouches : List Part := touchesSettleBoth ++ [.reg .module .prtReplayCnt, .reg .endpoint .prtReplayCnt, .reg .endpoint .fxeDomStatus, .reg .endpoint .fxeCq,
  .reg .endpoint .fxeDmaq, .reg .endpoint .fxeDomCtr, .ep .mqDead, .ep .jobs, .ep .nextJob, .ep .locks, .ep .trig, .ep .reached,
  .ep .domCheck, .ep .coll]

/-- What `srAnswer` may change. -/
def srAnswerTouches : List Part := touchesSettleBoth ++ [.ep .accs, .ep .recovery]

/-- What `atomicLineWriteback` may change. -/
def atomicLineWritebackTouches : List Part := touchesServeRead .endpoint ++ [.ep .locks]

/-- What `planeDownWrite` may change. -/
def planeDownWriteTouches : List Part := touchesSettleBoth ++ [.reg .endpoint .fxeLockDiscardCnt, .reg .endpoint .fxePlaneDownA, .reg .endpoint .fxePlaneDownB]

/-- What `powerGrant` may change. -/
def powerGrantTouches : List Part := touchesLogEvent .endpoint ++ [.reg .endpoint .xptPchkDiscardCnt, .reg .endpoint .fxePwr, .unit .endpoint .ports, .mod .sw, .ep .grants]

/-- What `grantTimeout` may change. -/
def grantTimeoutTouches : List Part := touchesLogEvent .endpoint ++ [.reg .endpoint .fxePwr, .ep .grants]

/-- What `powerReportTimer` may change. -/
def powerReportTimerTouches : List Part := [.reg .endpoint .fxePwr, .unit .endpoint .ports, .mod .sw]

/-- What `rstN` may change. -/
def rstNTouches : List Part := everyReg .endpoint ++ touchesAbandonFast .endpoint ++ touchesServeRead .endpoint ++ [.unit .endpoint .ports, .unit .endpoint .bundle, .unit .endpoint .dead, .unit .endpoint .inbox, .unit .endpoint .time,
  .unit .endpoint .sync, .unit .endpoint .mgmt, .unit .endpoint .xpt, .unit .endpoint .keys, .ep .mqDead, .ep .jobs,
  .ep .nextJob, .ep .locks, .ep .cache, .ep .clock, .ep .accs, .ep .coh, .ep .snoops, .ep .nextTseq, .ep .recovery, .ep .noFill,
  .ep .mirrored, .ep .trig, .ep .reached, .ep .fired, .ep .nextTrig, .ep .domCheck, .ep .queues, .ep .coll, .ep .ftValid,
  .ep .grants]

/-- What `move` may change. -/
def moveTouches : List Part := touchesSettleBoth ++ touchesHomeWrite ++ [.reg .module .ctaMacCycleCnt, .reg .module .ctaPLoadCnt, .reg .module .engTileFaultCnt, .reg .module .atsStatus,
  .reg .module .atsL2MissCnt, .reg .module .atsPrCnt, .eng .queues, .eng .ats, .eng .scratch, .mod .mrn, .free]

/-- What `fill` may change. -/
def fillTouches : List Part := touchesSettleBoth ++ touchesHomeWrite ++ [.reg .module .ctaMacCycleCnt, .reg .module .ctaPLoadCnt, .reg .module .engTileFaultCnt, .reg .module .atsStatus,
  .reg .module .atsL2MissCnt, .reg .module .atsPrCnt, .eng .queues, .eng .ats, .eng .scratch, .mod .mrn, .free]

/-- What `writeImm` may change. -/
def writeImmTouches : List Part := touchesSettleBoth ++ touchesHomeWrite ++ [.reg .module .ctaMacCycleCnt, .reg .module .ctaPLoadCnt, .reg .module .engTileFaultCnt, .reg .module .atsStatus,
  .reg .module .atsL2MissCnt, .reg .module .atsPrCnt, .eng .queues, .eng .ats, .eng .scratch, .mod .mrn, .free]

/-- What `ctaLoadB` may change. -/
def ctaLoadBTouches : List Part := touchesSettleBoth ++ touchesHomeWrite ++ [.reg .module .ctaMacCycleCnt, .reg .module .ctaPLoadCnt, .reg .module .engTileFaultCnt, .reg .module .atsStatus,
  .reg .module .atsL2MissCnt, .reg .module .atsPrCnt, .eng .queues, .eng .ats, .eng .scratch, .mod .mrn, .free]

/-- What `ctaMatmul` may change. -/
def ctaMatmulTouches : List Part := touchesSettleBoth ++ touchesHomeWrite ++ [.reg .module .ctaMacCycleCnt, .reg .module .ctaPLoadCnt, .reg .module .engTileFaultCnt, .reg .module .atsStatus,
  .reg .module .atsL2MissCnt, .reg .module .atsPrCnt, .eng .queues, .eng .ats, .eng .scratch, .mod .mrn, .free]

/-- What `commandComplete` may change. -/
def commandCompleteTouches : List Part := touchesSendGo ++ touchesHomeWrite ++ [.reg .module .xptRetxCnt, .reg .module .xptBarrierCnt, .reg .module .engCmdCnt, .reg .module .engLateRefusalCnt,
  .reg .module .engQ, .reg .module .engQr, .unit .module .xpt, .eng .queues, .eng .scratch, .mod .mrn, .free]

/-- What `atsTranslationCompletion` may change. -/
def atsTranslationCompletionTouches : List Part := touchesPupLooked ++ [.reg .module .engTileFaultCnt, .reg .module .atsL2MissCnt, .eng .queues]

/-- What `pageRequestResponse` may change. -/
def pageRequestResponseTouches : List Part := touchesPupLooked ++ [.reg .module .atsL2MissCnt, .reg .module .atsPrFailCnt]

/-- What `atsInvalidate` may change. -/
def atsInvalidateTouches : List Part := [.reg .module .atsStatus, .eng .queues, .eng .ats]

/-- What `invalidateDrained` may change. -/
def invalidateDrainedTouches : List Part := touchesBump .module ++ [.reg .module .atsStatus, .reg .module .atsInvCnt, .eng .ats]

/-- What `invalidateBound` may change. -/
def invalidateBoundTouches : List Part := touchesBump .module ++ [.reg .module .atsStatus, .reg .module .atsInvCnt, .reg .module .atsInvAbortCnt, .reg .module .pupStatus, .reg .module .pupProg,
  .unit .module .xpt, .eng .queues, .eng .ats, .eng .threads]

/-- What `atsFlush` may change. -/
def atsFlushTouches : List Part := [.eng .ats]

/-- What `puppetLoad` may change. -/
def puppetLoadTouches : List Part := touchesSettleBoth ++ touchesPupLooked ++ touchesHomeWrite ++ [.reg .module .atsL2MissCnt, .eng .dcache, .eng .scratch, .free]

/-- What `puppetStore` may change. -/
def puppetStoreTouches : List Part := touchesSettleBoth ++ touchesPupLooked ++ touchesHomeWrite ++ [.reg .module .atsL2MissCnt, .eng .dcache, .eng .scratch, .free]

/-- What `puppetLrAq` may change. -/
def puppetLrAqTouches : List Part := touchesSettleBoth ++ touchesPupLooked ++ touchesHomeWrite ++ [.reg .module .atsL2MissCnt, .eng .dcache, .eng .scratch, .free]

/-- What `puppetSc` may change. -/
def puppetScTouches : List Part := [.eng .threads]

/-- What `puppetAmo` may change. -/
def puppetAmoTouches : List Part := touchesSettleBoth ++ touchesPupLooked ++ touchesHomeWrite ++ [.reg .module .atsL2MissCnt, .eng .dcache, .eng .scratch, .free]

/-- What `pcas` may change. -/
def pcasTouches : List Part := touchesSettleBoth ++ touchesPupLooked ++ touchesHomeWrite ++ [.reg .module .atsL2MissCnt, .eng .dcache, .eng .scratch, .free]

/-- What `puppetFence` may change. -/
def puppetFenceTouches : List Part := [.unit .module .xpt, .eng .threads]

/-- What `puppetAccessDone` may change. -/
def puppetAccessDoneTouches : List Part := touchesSettleBoth ++ touchesPupLooked ++ touchesHomeWrite ++ [.reg .module .atsL2MissCnt, .eng .dcache, .eng .scratch, .free]

/-- What `puppetExit` may change. -/
def puppetExitTouches : List Part := [.reg .module .pupStatus, .reg .module .pupProg, .reg .module .pciIntStatus, .unit .module .xpt, .unit .module .out,
  .eng .threads, .mod .pci]

/-- What `pupLoad` may change. -/
def pupLoadTouches : List Part := touchesLogEvent .module ++ [.reg .module .pupStatus, .reg .module .pupProg, .reg .module .secMeas, .eng .threads, .eng .dcache, .eng .grants]

/-- What `pupKill` may change. -/
def pupKillTouches : List Part := [.reg .module .pupStatus, .reg .module .pupProg, .reg .module .pciIntStatus, .unit .module .xpt, .unit .module .out,
  .eng .threads, .mod .pci]

/-- What `puppetMsg` may change. -/
def puppetMsgTouches : List Part := touchesReceiveSeq .module ++ touchesSettleBoth ++ [.eng .scratch]

/-- What `puppeteerBoot` may change. -/
def puppeteerBootTouches : List Part := touchesLogEvent .module ++ [.reg .module .glbBringupStatus, .reg .module .secStatus, .reg .module .secMeas, .reg .module .mgtStatus, .mod .bring,
  .mod .sec]

/-- What `pcieEnumeration` may change. -/
def pcieEnumerationTouches : List Part := touchesLogEvent .module ++ [.reg .module .glbBringupStatus, .reg .module .pciStatus, .mod .bring]

/-- What `fuseMapRead` may change. -/
def fuseMapReadTouches : List Part := touchesStepWork ++ [.reg .module .glbRole, .reg .module .tilStatus, .reg .module .tilRecordStatus, .reg .module .tilMap, .reg .module .tilPhys,
  .reg .module .lnkStatus, .reg .module .secMinVer, .reg .module .secSigner, .reg .module .secMeas, .unit .module .badSlices,
  .mod .tile, .mod .signers]

/-- What `imageLoad` may change. -/
def imageLoadTouches : List Part := touchesLoadImage ++ touchesStepWork

/-- What `tileBist` may change. -/
def tileBistTouches : List Part := touchesStepWork ++ [.reg .module .glbRole, .reg .module .tilStatus, .reg .module .tilRecordStatus, .reg .module .tilRoleCnt, .reg .module .tilMap,
  .reg .module .tilPhys, .reg .module .dirStatus, .reg .module .dirPoolStatus, .reg .module .mrnStatus, .pool .missing, .mod .sw]

/-- What `nocTraining` may change. -/
def nocTrainingTouches : List Part := touchesStepWork ++ [.reg .module .glbRole, .reg .module .jigStatus, .reg .module .nocStatus, .mod .sw]

/-- What `ddr5Training` may change. -/
def ddr5TrainingTouches : List Part := touchesStepWork ++ [.reg .module .glbRole, .reg .module .jigStatus, .reg .module .dirPoolStatus, .reg .module .ddrCh, .pool .ddr, .pool .keyed,
  .pool .installedGib]

/-- What `serdesCalibration` may change. -/
def serdesCalibrationTouches : List Part := touchesStepWork ++ [.reg .module .lnkStatus, .unit .module .badSlices]

/-- What `linkTraining` may change. -/
def linkTrainingTouches : List Part := touchesStepWork ++ touchesApplyPower .module ++ [.reg .module .glbEid, .reg .module .lnkCtl]

/-- What `topLock` may change. -/
def topLockTouches : List Part := touchesStepWork

/-- What `enable` may change. -/
def enableTouches : List Part := touchesStepWork

/-- What `bringupStepEnd` may change. -/
def bringupStepEndTouches : List Part := touchesLogEvent .module ++ [.reg .module .glbBringupStatus, .mod .bring]

/-- What `bringupStepTimeout` may change. -/
def bringupStepTimeoutTouches : List Part := touchesLogEvent .module ++ [.reg .module .glbBringupStatus, .mod .bring]

/-- What `unload` may change. -/
def unloadTouches : List Part := touchesSettleBoth ++ touchesPortDown .module ++ touchesLoadImage ++ [.reg .module .glbBringupStatus, .reg .module .pupProg, .pool .missing, .eng .threads]

/-- What `sramScrubPassEnd` may change. -/
def sramScrubPassEndTouches : List Part := touchesSettleBoth ++ touchesServeRead .module ++ touchesPortDown .module ++ touchesSettleSpare ++ [.reg .module .tilRetireCnt, .reg .module .tilRecordStatus, .reg .module .prtIngressDiscard, .reg .module .dirStatus,
  .reg .module .dirPoolStatus, .reg .module .mrnRestartCnt, .reg .module .pupStatus, .reg .module .pupProg, .pool .missing,
  .eng .threads, .mod .mrn]

/-- What `tileUe` may change. -/
def tileUeTouches : List Part := touchesSettleBoth ++ touchesServeRead .module ++ touchesPortDown .module ++ touchesSettleSpare ++ [.reg .module .tilRetireCnt, .reg .module .tilRecordStatus, .reg .module .prtIngressDiscard, .reg .module .dirStatus,
  .reg .module .dirPoolStatus, .reg .module .mrnRestartCnt, .reg .module .pupStatus, .reg .module .pupProg,
  .reg .module .telPolicy, .pool .missing, .eng .threads, .mod .mrn]

/-- What `retire` may change. -/
def retireTouches : List Part := touchesSettleBoth ++ touchesServeRead .module ++ touchesPortDown .module ++ touchesSettleSpare ++ [.reg .module .tilRetireCnt, .reg .module .tilRecordStatus, .reg .module .prtIngressDiscard, .reg .module .dirStatus,
  .reg .module .dirPoolStatus, .reg .module .mrnRestartCnt, .reg .module .pupStatus, .reg .module .pupProg, .pool .missing,
  .eng .threads, .mod .mrn]

/-- What `toSpare` may change. -/
def toSpareTouches : List Part := touchesSettleBoth ++ touchesServeRead .module ++ touchesSettleSpare ++ [.reg .module .dirStatus]

/-- What `fromSpare` may change. -/
def fromSpareTouches : List Part := touchesSettleBoth ++ touchesServeRead .module ++ touchesSettleSpare ++ [.reg .module .dirStatus]

/-- What `toSpareTimeout` may change. -/
def toSpareTimeoutTouches : List Part := [.reg .module .jigRoleStatus, .mod .tile]

/-- What `migrationComplete` may change. -/
def migrationCompleteTouches : List Part := touchesSettleBoth ++ [.reg .module .glbRole, .reg .module .jigRoleStatus, .reg .module .tilStatus, .reg .module .tilRetireCnt,
  .reg .module .tilRecordStatus, .reg .module .tilRoleCnt, .reg .module .tilMap, .reg .module .tilPhys, .reg .module .mrnStatus,
  .mod .tile]

/-- What `timeSync` may change. -/
def timeSyncTouches : Side → List Part
  | .module => touchesLoseSource ++ [.reg .module .xptPchkDiscardCnt, .unit .module .ports]
  | .endpoint => touchesLogEvent .endpoint ++ [.reg .endpoint .xptPchkDiscardCnt, .unit .endpoint .ports, .unit .endpoint .sync]

/-- What `timeFollow` may change. -/
def timeFollowTouches : Side → List Part
  | .module => touchesBump .module ++ [.reg .module .xptPchkDiscardCnt, .unit .module .ports, .unit .module .sync]
  | .endpoint => touchesLogEvent .endpoint ++ [.reg .endpoint .xptPchkDiscardCnt, .unit .endpoint .ports, .unit .endpoint .sync]

/-- What `timeDelayReq` may change. -/
def timeDelayReqTouches : Side → List Part
  | .module => touchesBump .module ++ [.reg .module .xptPchkDiscardCnt, .unit .module .ports, .mod .sw]
  | .endpoint => touchesLogEvent .endpoint ++ [.reg .endpoint .xptPchkDiscardCnt, .unit .endpoint .ports]

/-- What `timeDelayRsp` may change. -/
def timeDelayRspTouches : Side → List Part
  | .module => touchesLoseSource ++ [.reg .module .xptPchkDiscardCnt, .reg .module .topOffset, .reg .module .topStepCnt, .unit .module .ports,
    .unit .module .time]
  | .endpoint => touchesLogEvent .endpoint ++ [.reg .endpoint .xptPchkDiscardCnt, .unit .endpoint .ports, .unit .endpoint .time, .unit .endpoint .sync, .ep .coll,
    .ep .ftValid]

/-- What `timeSyncTimer` may change. -/
def timeSyncTimerTouches : Side → List Part
  | .module => touchesLoseSource ++ [.unit .module .ports, .mod .sw]
  | .endpoint => [.unit .endpoint .ports, .unit .endpoint .sync, .mod .sw]

/-- What `ppsInEdge` may change. -/
def ppsInEdgeTouches : List Part := touchesLoseSource ++ [.reg .module .topOffset, .reg .module .topStepCnt, .unit .module .time, .mod .top]

/-- What `timeSourceLoss` may change. -/
def timeSourceLossTouches : List Part := touchesLoseSource

/-- What `holdoverExpire` may change. -/
def holdoverExpireTouches : List Part := touchesLoseSource ++ [.reg .module .telPolicy]

/-- What `topSetGo` may change. -/
def topSetGoTouches : List Part := touchesBump .module ++ [.reg .module .topStatus, .reg .module .topStepCnt, .unit .module .time, .unit .module .sync, .mod .top]

/-- What `gmChange` may change. -/
def gmChangeTouches : List Part := touchesLoseSource ++ [.mod .top]

/-- What `timeLost` may change. -/
def timeLostTouches : List Part := touchesLogEvent .endpoint ++ [.unit .endpoint .sync]

/-- What `capWrite` may change. -/
def capWriteTouches : List Part := touchesSettlePin ++ [.reg .module .pwrCapCtl, .reg .module .pwrCapCnt, .reg .module .secOwnDiscardCnt, .mod .ownDiscardAt]

/-- What `grantComputeTimer` may change. -/
def grantComputeTimerTouches : List Part := touchesSettlePin

/-- What `grantRefreshTimer` may change. -/
def grantRefreshTimerTouches : List Part := [.reg .module .pwrEp, .unit .module .ports, .mod .sw, .mod .power]

/-- What `stageTimer` may change. -/
def stageTimerTouches : List Part := touchesBump .module ++ [.reg .module .pwrStatus, .reg .module .pwrStageCnt, .reg .module .pwrEp, .unit .module .ports, .mod .sw, .mod .power]

/-- What `powerReport` may change. -/
def powerReportTouches : List Part := touchesBump .module ++ [.reg .module .xptPchkDiscardCnt, .reg .module .pwrEp, .unit .module .ports, .mod .power]

/-- What `violationCheck` may change. -/
def violationCheckTouches : List Part := touchesBump .module ++ [.reg .module .pwrViolCnt, .reg .module .pwrEp, .unit .module .ports, .mod .sw, .mod .power]

/-- What `reportTimeout` may change. -/
def reportTimeoutTouches : List Part := touchesGaveUp ++ [.reg .module .pwrEp]

/-- What `epClear` may change. -/
def epClearTouches : List Part := [.reg .module .pwrEp, .mod .power]

/-- What `shedCorrectTimer` may change. -/
def shedCorrectTimerTouches : List Part := touchesLogEvent .module ++ touchesApplyPower .module ++ [.reg .module .ctaStatus, .reg .module .pwrStatus, .mod .power]

/-- What `powerWarnN` may change. -/
def powerWarnNTouches : List Part := touchesSettlePin ++ [.reg .module .pwrWarnCnt]

/-- What `inputSample` may change. -/
def inputSampleTouches : List Part := touchesSettlePin ++ [.reg .module .glbBringupStatus, .reg .module .pwrInput, .reg .module .pwrWarnCnt, .mod .bring, .mod .tel]

/-- What `uvLoss` may change. -/
def uvLossTouches : List Part := touchesSettlePin ++ [.mod .bring]

/-- What `thermalSample` may change. -/
def thermalSampleTouches : List Part := touchesSettlePin ++ [.reg .module .pwrThermalCnt, .mod .bring]

/-- What `thermalRecheck` may change. -/
def thermalRecheckTouches : List Part := touchesSettlePin ++ [.reg .module .pwrThermalCnt, .mod .bring]

/-- What `snapCtl` may change. -/
def snapCtlTouches : List Part := touchesLogEvent .module ++ [.reg .module .telSnapStatus, .mod .tel]

/-- What `snapshotPublish` may change. -/
def snapshotPublishTouches : List Part := [.reg .module .telSnapStatus, .reg .module .pciIntStatus, .unit .module .out, .pool .mwin, .mod .pci, .mod .tel]

/-- What `telemetryPeriod` may change. -/
def telemetryPeriodTouches : List Part := touchesSettleBoth ++ [.reg .module .telSkipCnt, .mod .tel]

/-- What `pauseLimitExpire` may change. -/
def pauseLimitExpireTouches : List Part := touchesLogEvent .module ++ [.reg .module .telPolicy]

/-- What `getVersion` may change. -/
def getVersionTouches : Side → List Part
  | .module => [.unit .module .out]
  | .endpoint => [.unit .endpoint .out]

/-- What `getCapabilities` may change. -/
def getCapabilitiesTouches : Side → List Part
  | .module => [.unit .module .out]
  | .endpoint => [.unit .endpoint .out]

/-- What `negotiateAlgorithms` may change. -/
def negotiateAlgorithmsTouches : Side → List Part
  | .module => [.unit .module .mgmt, .unit .module .out]
  | .endpoint => [.unit .endpoint .mgmt, .unit .endpoint .out]

/-- What `getDigests` may change. -/
def getDigestsTouches : Side → List Part
  | .module => [.unit .module .out]
  | .endpoint => [.unit .endpoint .out]

/-- What `getCertificate` may change. -/
def getCertificateTouches : Side → List Part
  | .module => [.unit .module .out]
  | .endpoint => [.unit .endpoint .out]

/-- What `challenge` may change. -/
def challengeTouches : Side → List Part
  | .module => [.unit .module .out]
  | .endpoint => [.unit .endpoint .out]

/-- What `getMeasurements` may change. -/
def getMeasurementsTouches : Side → List Part
  | .module => [.unit .module .out]
  | .endpoint => [.unit .endpoint .out]

/-- What `keyExchange` may change. -/
def keyExchangeTouches : Side → List Part
  | .module => [.reg .module .secStatus, .unit .module .mgmt, .unit .module .out]
  | .endpoint => [.unit .endpoint .mgmt, .unit .endpoint .out]

/-- What `finish` may change. -/
def finishTouches : Side → List Part
  | .module => [.reg .module .secStatus, .unit .module .mgmt, .unit .module .out]
  | .endpoint => [.unit .endpoint .mgmt, .unit .endpoint .out]

/-- What `heartbeat` may change. -/
def heartbeatTouches : Side → List Part
  | .module => [.unit .module .out]
  | .endpoint => [.unit .endpoint .out]

/-- What `keyUpdate` may change. -/
def keyUpdateTouches : Side → List Part
  | .module => [.reg .module .secStatus, .unit .module .mgmt, .unit .module .out]
  | .endpoint => [.unit .endpoint .mgmt, .unit .endpoint .out]

/-- What `endSession` may change. -/
def endSessionTouches : Side → List Part
  | .module => [.reg .module .secStatus, .unit .module .mgmt, .unit .module .out]
  | .endpoint => [.unit .endpoint .mgmt, .unit .endpoint .out]

/-- What `mgmtSegment` may change. -/
def mgmtSegmentTouches : Side → List Part
  | .module => touchesBump .module ++ [.reg .module .xptPchkDiscardCnt, .unit .module .ports, .unit .module .mgmt]
  | .endpoint => touchesLogEvent .endpoint ++ [.reg .endpoint .xptPchkDiscardCnt, .unit .endpoint .ports, .unit .endpoint .mgmt]

/-- What `regRead` may change. -/
def regReadTouches : Side → List Part
  | .module => touchesBump .module ++ [.reg .module .secAuthFailCnt, .reg .module .mgtStatus]
  | .endpoint => touchesLogEvent .endpoint ++ [.reg .endpoint .secAuthFailCnt, .reg .module .mgtStatus]

/-- What `regWrite` may change. -/
def regWriteTouches : Side → List Part
  | .module => everyReg .module ++ touchesGaveUp ++ touchesSettleBoth ++ [.unit .module .lanes, .unit .module .bundle, .unit .module .badSlices, .unit .module .dead, .unit .module .time,
    .unit .module .sync, .unit .module .mgmt, .unit .module .keys, .pool .fills, .pool .mwin, .pool .installedGib,
    .pool .missing, .eng .queues, .eng .ats, .eng .threads, .eng .dcache, .eng .grants, .eng .scratch, .mod .bring, .mod .top,
    .mod .power, .mod .tel, .mod .sec, .mod .signers, .mod .ownDiscardAt, .free]
  | .endpoint => everyReg .endpoint ++ touchesSettleBoth ++ [.reg .module .prtReplayCnt, .unit .endpoint .lanes, .unit .endpoint .badSlices, .unit .endpoint .dead, .ep .accs,
    .ep .recovery, .ep .trig, .ep .reached, .ep .domCheck, .ep .coll]

/-- What `tokenAcquire` may change. -/
def tokenAcquireTouches : List Part := touchesBump .module ++ [.reg .module .secOwn, .reg .module .secAuthFailCnt, .mod .sec]

/-- What `tokenRenew` may change. -/
def tokenRenewTouches : List Part := touchesBump .module ++ [.reg .module .secOwn, .reg .module .secAuthFailCnt, .mod .sec]

/-- What `tokenRelease` may change. -/
def tokenReleaseTouches : List Part := touchesBump .module ++ [.reg .module .secOwn, .reg .module .secAuthFailCnt, .mod .sec]

/-- What `tokenExpired` may change. -/
def tokenExpiredTouches : List Part := touchesLogEvent .module ++ [.reg .module .secOwn, .mod .sec]

/-- What `flashWrite` may change. -/
def flashWriteTouches : List Part := touchesBump .module ++ [.reg .module .secAuthFailCnt, .mod .sec]

/-- What `credSet` may change. -/
def credSetTouches : List Part := touchesBump .module ++ [.reg .module .secAuthFailCnt, .reg .module .secCred, .reg .module .secMeas, .mod .sec]

/-- What `signerSet` may change. -/
def signerSetTouches : List Part := touchesBump .module ++ [.reg .module .secAuthFailCnt, .reg .module .secSigner, .reg .module .secMeas, .mod .sec, .mod .signers]

/-- What `rollbackRaise` may change. -/
def rollbackRaiseTouches : List Part := touchesBump .module ++ [.reg .module .secStatus, .reg .module .secMinVer, .reg .module .secAuthFailCnt, .reg .module .secMeas, .reg .module .mgtStatus,
  .mod .sec]

/-- What `keyLoad` may change. -/
def keyLoadTouches : Side → List Part
  | .module => touchesBump .module ++ [.reg .module .secCtl, .reg .module .secStatus, .reg .module .secAuthFailCnt, .reg .module .secSlot, .unit .module .keys,
    .mod .sec]
  | .endpoint => touchesLogEvent .endpoint ++ [.reg .endpoint .secAuthFailCnt, .unit .endpoint .keys, .ep .coll]

/-- What `prevKeyExpire` may change. -/
def prevKeyExpireTouches : Side → List Part
  | .module => [.reg .module .secStatus, .reg .module .secSlot, .unit .module .keys]
  | .endpoint => [.unit .endpoint .keys]

/-- What `activateOrd` may change. -/
def activateOrdTouches : List Part := touchesLogEvent .endpoint ++ [.reg .endpoint .secAuthFailCnt, .unit .endpoint .keys]

/-- What `slotCmdActivateOrd` may change. -/
def slotCmdActivateOrdTouches : List Part := [.reg .module .secStatus, .reg .module .secRetireStatus, .reg .module .secSlot, .unit .module .keys]

/-- What `slotRetire` may change. -/
def slotRetireTouches : List Part := touchesSettleBoth ++ [.reg .endpoint .secAuthFailCnt, .reg .endpoint .fxeDomStatus, .reg .endpoint .fxeDomCtr, .unit .endpoint .keys, .ep .accs,
  .ep .trig, .ep .reached, .ep .coll]

/-- What `slotCmdRetire` may change. -/
def slotCmdRetireTouches : List Part := touchesSettleBoth ++ touchesSendResult ++ touchesHomeWrite ++ [.reg .module .pupStatus, .reg .module .pupProg, .reg .module .secStatus, .reg .module .secRetireStatus, .reg .module .secSlot,
  .unit .module .keys, .eng .queues, .eng .threads, .mod .sec]

/-- What `drainExpire` may change. -/
def drainExpireTouches : Side → List Part
  | .module => touchesSendGo ++ [.reg .module .dirBinvCnt, .reg .module .dirBcastCnt, .reg .module .secStatus, .reg .module .secSlot, .unit .module .keys,
    .mod .dir]
  | .endpoint => [.unit .endpoint .keys]

/-- What `tenantRetired` may change. -/
def tenantRetiredTouches : Side → List Part
  | .module => touchesSettleSpare ++ touchesReplay .endpoint ++ [.reg .module .prtReplayCnt, .reg .module .mrnOvfStatus, .reg .module .mrnChunkStatus, .reg .module .mrnCtx,
    .reg .module .redStatus, .reg .module .secStatus, .reg .module .secRetireStatus, .reg .module .secSlot, .unit .module .ports,
    .unit .module .xpt, .unit .module .keys, .pool .ddr, .pool .poison, .pool .keyed, .pool .fills, .eng .scratch, .mod .mrn,
    .mod .sec]
  | .endpoint => touchesReplay .module ++ touchesReplay .endpoint ++ [.unit .endpoint .xpt, .unit .endpoint .keys]

/-- What `watchdogExpire` may change. -/
def watchdogExpireTouches : List Part := touchesBump .module ++ [.reg .module .secStatus, .reg .module .fltStatus, .reg .module .mgtStatus, .reg .module .mgtWdogCnt, .unit .module .mgmt]

/-- What `mgtDoorbell` may change. -/
def mgtDoorbellTouches : List Part := touchesLogEvent .module ++ [.reg .module .mgtStatus]

/-- What `mgtResponse` may change. -/
def mgtResponseTouches : List Part := [.reg .module .pciIntStatus, .reg .module .mgtStatus, .reg .module .mgtRspLen, .unit .module .out, .mod .pci, .mod .sec]

/-- What `evidenceClear` may change. -/
def evidenceClearTouches : List Part := [.reg .module .fltLive]

/-- What `quarantineTimer` may change. -/
def quarantineTimerTouches : List Part := touchesGaveUp

/-- What `vote` may change. -/
def voteTouches : List Part := touchesBump .module ++ [.reg .module .secAuthFailCnt]

/-- What `decide` may change. -/
def decideTouches : List Part := touchesSettleBoth ++ touchesServeRead .module ++ touchesSendResult ++ [.reg .module .prtMalformed, .reg .module .mrnAbortCnt, .reg .module .secAuthFailCnt, .reg .module .fltLive,
  .unit .module .dead]

/-- What `deadNotice` may change. -/
def deadNoticeTouches : Side → List Part
  | .module => touchesSettleBoth ++ [.reg .module .secAuthFailCnt, .unit .module .dead]
  | .endpoint => touchesSettleBoth ++ [.reg .endpoint .secAuthFailCnt, .unit .endpoint .dead, .ep .accs, .ep .recovery]

/-- What `liveNotice` may change. -/
def liveNoticeTouches : Side → List Part
  | .module => touchesBump .module ++ [.reg .module .secAuthFailCnt, .unit .module .ports, .unit .module .dead, .mod .sw]
  | .endpoint => touchesLogEvent .endpoint ++ [.reg .endpoint .secAuthFailCnt, .unit .endpoint .dead]

/-- What `trayDown` may change. -/
def trayDownTouches : List Part := touchesLogEvent .module ++ [.mod .live]

/-- What `coldReset` may change. -/
def coldResetTouches : List Part := everyReg .module ++ touchesSendResult ++ touchesHomeWrite ++ [.unit .module .lanes, .unit .module .bundle, .unit .module .badSlices, .unit .module .dead, .unit .module .time,
  .unit .module .sync, .unit .module .mgmt, .unit .module .xpt, .unit .module .keys, .pool .fills, .pool .mwin,
  .pool .installedGib, .pool .missing, .eng .queues, .eng .ats, .eng .threads, .eng .dcache, .eng .grants, .eng .scratch,
  .mod .dir, .mod .bring, .mod .top, .mod .power, .mod .tel, .mod .sec, .mod .live, .mod .signers, .mod .ownDiscardAt]

/-- What `warmReset` may change. -/
def warmResetTouches : List Part := everyReg .module ++ touchesSettleBoth ++ [.unit .module .lanes, .unit .module .sync, .unit .module .mgmt, .unit .module .keys, .pool .fast, .pool .poison,
  .pool .missing, .eng .queues, .eng .ats, .eng .threads, .eng .dcache, .eng .scratch, .mod .dir, .mod .mrn, .mod .tile,
  .mod .bring, .mod .power, .mod .tel, .mod .live]

/-- What `puppeteerReset` may change. -/
def puppeteerResetTouches : List Part := touchesLogEvent .module ++ [.reg .module .secStatus, .reg .module .fltStatus, .reg .module .mgtStatus, .unit .module .mgmt]

/-- What `functionReset` may change. -/
def functionResetTouches : List Part := everyReg .module ++ touchesPupLooked ++ touchesHomeWrite ++ [.eng .queues, .mod .sec]

/-- What `powerOnReset` may change. -/
def powerOnResetTouches : List Part := everyReg .module ++ touchesSendResult ++ touchesHomeWrite ++ [.unit .module .lanes, .unit .module .bundle, .unit .module .badSlices, .unit .module .dead, .unit .module .time,
  .unit .module .sync, .unit .module .mgmt, .unit .module .xpt, .unit .module .keys, .pool .fills, .pool .mwin,
  .pool .installedGib, .pool .missing, .eng .queues, .eng .ats, .eng .threads, .eng .dcache, .eng .grants, .eng .scratch,
  .mod .dir, .mod .bring, .mod .top, .mod .power, .mod .tel, .mod .sec, .mod .live, .mod .signers, .mod .ownDiscardAt]

/-- What `internalFatal` may change. -/
def internalFatalTouches : List Part := touchesPortDown .module ++ [.reg .module .fltStatus]

/-- What `autoWarmTimer` may change. -/
def autoWarmTimerTouches : List Part := everyReg .module ++ touchesSettleBoth ++ [.unit .module .lanes, .unit .module .sync, .unit .module .mgmt, .unit .module .keys, .pool .fast, .pool .poison,
  .pool .missing, .eng .queues, .eng .ats, .eng .threads, .eng .dcache, .eng .scratch, .mod .dir, .mod .mrn, .mod .tile,
  .mod .bring, .mod .power, .mod .tel, .mod .live]

/-- What `apertureRead` may change. -/
def apertureReadTouches : List Part := touchesSettleBoth

/-- What `apertureWrite` may change. -/
def apertureWriteTouches : List Part := touchesSettleBoth

/-- What `queueDoorbell` may change. -/
def queueDoorbellTouches : List Part := [.reg .module .engQr, .reg .module .engQdb, .reg .module .pciIntStatus, .unit .module .out, .eng .queues, .mod .pci]

/-- What `cheadWrite` may change. -/
def cheadWriteTouches : List Part := [.reg .module .engQdb, .unit .module .out, .eng .queues]

/-- What `queueEnable` may change. -/
def queueEnableTouches : List Part := touchesBump .module ++ [.reg .module .engQr, .reg .module .engQdb, .reg .module .secOwnDiscardCnt, .eng .queues, .mod .ownDiscardAt]

/-- What `ringFetchDone` may change. -/
def ringFetchDoneTouches : List Part := [.reg .module .engQr, .reg .module .pciIntStatus, .unit .module .out, .eng .queues, .mod .pci]

/-- What `intStatusClear` may change. -/
def intStatusClearTouches : List Part := [.reg .module .pciIntStatus, .unit .module .out, .mod .pci]

/-- What `interruptHoldoff` may change. -/
def interruptHoldoffTouches : List Part := [.unit .module .out, .mod .pci]

/-- What `dStateChange` may change. -/
def dStateChangeTouches : List Part := [.reg .module .pciStatus, .unit .module .out, .eng .queues, .mod .pci]

/-- What `busMasterDisable` may change. -/
def busMasterDisableTouches : List Part := [.reg .module .engQr, .reg .module .pciIntStatus, .unit .module .out, .eng .queues, .mod .pci]

/-- What `presentNBreak` may change. -/
def presentNBreakTouches : List Part := touchesSettlePin ++ [.mod .bring]

/-- What `cbl3v3Overload` may change. -/
def cbl3v3OverloadTouches : List Part := [.mod .power]

/-- What `configurationWrite` may change. -/
def configurationWriteTouches : List Part := touchesLogEvent .module ++ [.reg .module .glbBringupStatus, .reg .module .engQr, .reg .module .atsStatus, .eng .queues, .mod .bring]

/-- What `completionTimeout` may change. -/
def completionTimeoutTouches : List Part := touchesPupLooked ++ [.reg .module .engTileFaultCnt, .reg .module .engQr, .eng .queues]

/-- What `directoryScanEnd` may change. -/
def directoryScanEndTouches : List Part := touchesSettleBoth ++ touchesServeRead .module

/-- What `ftValidExpire` may change. -/
def ftValidExpireTouches : List Part := [.reg .endpoint .fxeIntStatus, .unit .endpoint .out, .ep .ftValid]

/-- What `grandmasterTimeout` may change. -/
def grandmasterTimeoutTouches : List Part := [.unit .endpoint .sync]

/-- What `steppedExpire` may change. -/
def steppedExpireTouches : List Part := [.reg .module .topStatus]

/-- What `sleepControlBlock` may change. -/
def sleepControlBlockTouches : Side → List Part
  | .module => [.unit .module .out]
  | .endpoint => [.unit .endpoint .out]

/-- What `i3cAdminInstall` may change. -/
def i3cAdminInstallTouches : List Part := [.reg .module .secCred, .reg .module .secMeas, .mod .sec]

/-- What `testArm` may change. -/
def testArmTouches : List Part := touchesBump .module ++ [.reg .module .secStatus, .reg .module .secAuthFailCnt]

/-- What `debugAccessOpen` may change. -/
def debugAccessOpenTouches : List Part := touchesBump .module ++ [.reg .module .secStatus, .reg .module .secAuthFailCnt, .reg .module .secSlot, .unit .module .keys, .mod .sec]

/-- What `fullResSet` may change. -/
def fullResSetTouches : List Part := touchesBump .module ++ [.reg .module .secCtl, .reg .module .secAuthFailCnt]

/-- What `rspLenRead` may change. -/
def rspLenReadTouches : List Part := [.reg .module .mgtStatus, .unit .module .out]

/-- What `recordQuery` may change. -/
def recordQueryTouches : List Part := [.reg .module .redQueryStatus, .reg .module .redQueryRec]

/-- What `snoopSlow` may change. -/
def snoopSlowTouches : List Part := touchesLogEvent .endpoint

/-- What `rattleInterval` may change. -/
def rattleIntervalTouches : List Part := touchesSettleBoth ++ touchesServeRead .module ++ touchesPortDown .module ++ touchesSettleSpare ++ [.reg .module .prtIngressDiscard, .reg .module .dirStatus, .reg .module .mrnRestartCnt, .reg .module .pupStatus,
  .reg .module .pupProg, .reg .module .ddrCeCnt, .reg .module .ddrUeCnt, .eng .threads, .mod .mrn]

/-- What `reorderHoldExpire` may change. -/
def reorderHoldExpireTouches : List Part := touchesSendGo

/-- What `flapDownExpire` may change. -/
def flapDownExpireTouches : List Part := [.reg .module .lnkStatus, .reg .module .lnkTxTaps, .unit .module .lanes, .mod .rattle]

/-- What `vectorUnmask` may change. -/
def vectorUnmaskTouches : List Part := [.unit .module .out, .mod .pci]

/-- What a command may change. -/
def touched : Instr → List Part
  | .registerWrite side _ _ _ _ => registerWriteTouches side
  | .laneRetrain side _ _ => laneRetrainTouches side
  | .cacheFlush side _ _ => cacheFlushTouches side
  | .spareNow side _ _ => spareNowTouches side
  | .lanePowerRequest side _ _ _ => lanePowerRequestTouches side
  | .laneEnable side _ _ => laneEnableTouches side
  | .farSignalDetected side _ => farSignalDetectedTouches side
  | .farSignalLost side _ => farSignalLostTouches side
  | .controlBlock side _ _ _ => controlBlockTouches side
  | .tapRequestApply side _ => tapRequestApplyTouches side
  | .trainingTimeout side _ => trainingTimeoutTouches side
  | .verifyEnd side _ _ => verifyEndTouches side
  | .handoverAccept side _ => handoverAcceptTouches side
  | .fastTimeout side _ => fastTimeoutTouches side
  | .lnkPlanWrite _ _ _ => lnkPlanWriteTouches
  | .idAnnounce side _ _ => idAnnounceTouches side
  | .idAnnounceTimer side _ => idAnnounceTimerTouches side
  | .idAnnounceTimeout side _ => idAnnounceTimeoutTouches side
  | .errorRatioCheck side _ _ _ => errorRatioCheckTouches side
  | .alignmentMarker side _ _ _ _ _ _ _ => alignmentMarkerTouches side
  | .laneCtl side _ _ => laneCtlTouches side
  | .laneCtlTimeout side _ => laneCtlTimeoutTouches side
  | .sleepSignalLoss side _ => sleepSignalLossTouches side
  | .laneWake side _ _ => laneWakeTouches side
  | .flitReceive side _ _ _ _ _ => flitReceiveTouches side
  | .retryReq side _ _ _ => retryReqTouches side
  | .resync side _ _ _ => resyncTouches side
  | .retryReqTimer side _ => retryReqTimerTouches side
  | .replayTimeout side _ => replayTimeoutTouches side
  | .peerPortDown side _ => peerPortDownTouches side
  | .portForm side _ => portFormTouches side
  | .creditInit side _ _ => creditInitTouches side
  | .laneFault side _ _ => laneFaultTouches side
  | .laneDrop side _ _ => laneDropTouches side
  | .laneAdd side _ _ => laneAddTouches side
  | .upconfigLaneReady side _ => upconfigLaneReadyTouches side
  | .laneRelease side _ _ => laneReleaseTouches side
  | .releaseAck side _ _ => releaseAckTouches side
  | .portDownCmd side _ _ => portDownCmdTouches side
  | .packetTransmit side _ _ => packetTransmitTouches side
  | .packetIngress _ _ => packetIngressTouches
  | .bufferRoomFreed _ => bufferRoomFreedTouches
  | .residueSend _ _ => residueSendTouches
  | .reseqArrive _ _ => reseqArriveTouches
  | .reseqGapTimeout _ _ _ _ _ => reseqGapTimeoutTouches
  | .nocRouterFault _ _ => nocRouterFaultTouches
  | .nocPlaneDisable _ _ _ => nocPlaneDisableTouches
  | .packetAgeOut _ _ => packetAgeOutTouches
  | .seqPacketSend side _ => seqPacketSendTouches side
  | .seqPacketReceive side _ _ => seqPacketReceiveTouches side
  | .ackTimer side _ _ _ => ackTimerTouches side
  | .xptAck side _ _ => xptAckTouches side
  | .xptNack side _ _ => xptNackTouches side
  | .nackRetryTimer side _ _ _ => nackRetryTimerTouches side
  | .retransmitTimer side _ _ _ => retransmitTimerTouches side
  | .xptRestart side _ _ => xptRestartTouches side
  | .planeUnusable side _ _ => planeUnusableTouches side
  | .planeSuspectExpire side _ _ => planeSuspectExpireTouches side
  | .homePlaneReturn side _ _ => homePlaneReturnTouches side
  | .plannedBarrierDone side _ _ => plannedBarrierDoneTouches side
  | .xptPeerReset side _ => xptPeerResetTouches side
  | .xqLoad _ _ _ _ _ => xqLoadTouches
  | .xqLoadAcq _ _ _ _ _ => xqLoadAcqTouches
  | .xqStore _ _ _ _ _ => xqStoreTouches
  | .xqStoreFlag _ _ _ _ _ => xqStoreFlagTouches
  | .xqAtomicInt _ _ _ _ _ _ => xqAtomicIntTouches
  | .xqAtomicFp _ _ _ _ _ _ => xqAtomicFpTouches
  | .xqReduceStore _ _ _ _ _ _ => xqReduceStoreTouches
  | .fence _ _ => fenceTouches
  | .fenceComplete side _ => fenceCompleteTouches side
  | .rmInvAll _ _ => rmInvAllTouches
  | .cohRd _ _ _ _ => cohRdTouches
  | .cohRdown _ _ _ _ => cohRdownTouches
  | .cohWb _ _ _ _ => cohWbTouches
  | .cohEvict _ _ _ => cohEvictTouches
  | .regRd _ _ _ _ => regRdTouches
  | .regWr _ _ _ _ => regWrTouches
  | .load side _ _ => loadTouches side
  | .loadAcq side _ _ => loadAcqTouches side
  | .store side _ _ => storeTouches side
  | .storeFlag side _ _ => storeFlagTouches side
  | .atomicInt side _ _ => atomicIntTouches side
  | .atomicFp side _ _ => atomicFpTouches side
  | .reduceStore side _ _ => reduceStoreTouches side
  | .dmaWrite side _ _ => dmaWriteTouches side
  | .dmaReadReq side _ _ => dmaReadReqTouches side
  | .loadData side _ _ => loadDataTouches side
  | .storeAck side _ _ => storeAckTouches side
  | .atomicResult side _ _ => atomicResultTouches side
  | .reduceAck side _ _ => reduceAckTouches side
  | .dmaReadData side _ _ => dmaReadDataTouches side
  | .loadTimeout side _ => loadTimeoutTouches side
  | .replayEntryExpire side _ _ _ => replayEntryExpireTouches side
  | .rmLineExpire _ => rmLineExpireTouches
  | .rdShared _ _ => rdSharedTouches
  | .rdOwn _ _ => rdOwnTouches
  | .upgrade _ _ => upgradeTouches
  | .wb _ _ => wbTouches
  | .evict _ _ => evictTouches
  | .recoverStart _ _ => recoverStartTouches
  | .recoverDone _ _ => recoverDoneTouches
  | .snpRsp _ _ => snpRspTouches
  | .ack _ _ => ackTouches
  | .lineUnblock _ => lineUnblockTouches
  | .snpShared _ _ => snpSharedTouches
  | .snpInv _ _ => snpInvTouches
  | .snpCur _ _ => snpCurTouches
  | .binv _ _ => binvTouches
  | .snpFlush _ _ => snpFlushTouches
  | .go _ _ => goTouches
  | .cmp _ _ => cmpTouches
  | .data _ _ => dataTouches
  | .snoopTimeout _ _ _ => snoopTimeoutTouches
  | .recoverTimeout _ => recoverTimeoutTouches
  | .cohTimeout _ _ => cohTimeoutTouches
  | .directoryFlush _ => directoryFlushTouches
  | .dirRegionClear _ _ _ _ => dirRegionClearTouches
  | .mirrorStoreDone => mirrorStoreDoneTouches
  | .collDescriptor => collDescriptorTouches
  | .collCancel => collCancelTouches
  | .timedStart _ => timedStartTouches
  | .chunkSend _ _ => chunkSendTouches
  | .collContrib _ _ => collContribTouches
  | .epilogueStart _ _ _ _ => epilogueStartTouches
  | .epilogueCommit _ _ _ => epilogueCommitTouches
  | .collResult side _ _ => collResultTouches side
  | .collAbort side _ _ => collAbortTouches side
  | .collResend side _ _ => collResendTouches side
  | .collProbe _ _ _ => collProbeTouches
  | .probeTimer _ _ => probeTimerTouches
  | .chunkTimeout _ _ _ => chunkTimeoutTouches
  | .collTimeout _ _ => collTimeoutTouches
  | .refusalBackoff side _ _ _ => refusalBackoffTouches side
  | .partialHoldExpire _ _ _ => partialHoldExpireTouches
  | .resultRetainExpire _ _ _ => resultRetainExpireTouches
  | .chunkRecordExpire _ _ _ => chunkRecordExpireTouches
  | .srcReadFail _ _ => srcReadFailTouches
  | .dominoSeg _ _ => dominoSegTouches
  | .trigPost _ _ _ => trigPostTouches
  | .triggeredOpFire => triggeredOpFireTouches
  | .triggeredOpComplete => triggeredOpCompleteTouches
  | .domCtrWrite _ _ => domCtrWriteTouches
  | .dmaDoorbell _ _ => dmaDoorbellTouches
  | .dmaDescriptor _ => dmaDescriptorTouches
  | .dmaDescriptorDone _ => dmaDescriptorDoneTouches
  | .queueFetchFail _ => queueFetchFailTouches
  | .mrAnswer _ _ _ _ => mrAnswerTouches
  | .memTimeout _ _ => memTimeoutTouches
  | .srAnswer _ _ _ _ => srAnswerTouches
  | .atomicLineWriteback _ => atomicLineWritebackTouches
  | .planeDownWrite _ _ _ _ => planeDownWriteTouches
  | .powerGrant _ _ => powerGrantTouches
  | .grantTimeout => grantTimeoutTouches
  | .powerReportTimer _ => powerReportTimerTouches
  | .rstN => rstNTouches
  | .move _ _ => moveTouches
  | .fill _ => fillTouches
  | .writeImm _ => writeImmTouches
  | .ctaLoadB _ _ => ctaLoadBTouches
  | .ctaMatmul _ _ => ctaMatmulTouches
  | .commandComplete _ _ => commandCompleteTouches
  | .atsTranslationCompletion _ _ _ _ _ => atsTranslationCompletionTouches
  | .pageRequestResponse _ _ => pageRequestResponseTouches
  | .atsInvalidate _ _ _ _ => atsInvalidateTouches
  | .invalidateDrained _ => invalidateDrainedTouches
  | .invalidateBound _ => invalidateBoundTouches
  | .atsFlush _ => atsFlushTouches
  | .puppetLoad _ _ _ _ _ _ => puppetLoadTouches
  | .puppetStore _ _ _ _ _ _ => puppetStoreTouches
  | .puppetLrAq _ _ _ _ _ _ => puppetLrAqTouches
  | .puppetSc _ _ => puppetScTouches
  | .puppetAmo _ _ _ _ _ _ _ _ _ => puppetAmoTouches
  | .pcas _ _ _ _ _ _ _ _ => pcasTouches
  | .puppetFence _ _ => puppetFenceTouches
  | .puppetAccessDone _ _ _ => puppetAccessDoneTouches
  | .puppetExit _ _ => puppetExitTouches
  | .pupLoad _ _ _ => pupLoadTouches
  | .pupKill _ _ => pupKillTouches
  | .puppetMsg _ _ _ => puppetMsgTouches
  | .puppeteerBoot _ _ _ => puppeteerBootTouches
  | .pcieEnumeration _ => pcieEnumerationTouches
  | .fuseMapRead _ _ => fuseMapReadTouches
  | .imageLoad _ _ _ => imageLoadTouches
  | .tileBist _ _ _ => tileBistTouches
  | .nocTraining _ _ _ _ => nocTrainingTouches
  | .ddr5Training _ _ _ _ => ddr5TrainingTouches
  | .serdesCalibration _ _ _ => serdesCalibrationTouches
  | .linkTraining _ => linkTrainingTouches
  | .topLock _ => topLockTouches
  | .enable _ => enableTouches
  | .bringupStepEnd => bringupStepEndTouches
  | .bringupStepTimeout => bringupStepTimeoutTouches
  | .unload => unloadTouches
  | .sramScrubPassEnd _ _ _ => sramScrubPassEndTouches
  | .tileUe _ _ _ => tileUeTouches
  | .retire _ _ => retireTouches
  | .toSpare _ => toSpareTouches
  | .fromSpare _ _ => fromSpareTouches
  | .toSpareTimeout => toSpareTimeoutTouches
  | .migrationComplete => migrationCompleteTouches
  | .timeSync side _ _ _ => timeSyncTouches side
  | .timeFollow side _ _ => timeFollowTouches side
  | .timeDelayReq side _ _ _ => timeDelayReqTouches side
  | .timeDelayRsp side _ _ => timeDelayRspTouches side
  | .timeSyncTimer side _ => timeSyncTimerTouches side
  | .ppsInEdge _ _ _ => ppsInEdgeTouches
  | .timeSourceLoss _ => timeSourceLossTouches
  | .holdoverExpire => holdoverExpireTouches
  | .topSetGo _ => topSetGoTouches
  | .gmChange => gmChangeTouches
  | .timeLost => timeLostTouches
  | .capWrite _ _ _ => capWriteTouches
  | .grantComputeTimer => grantComputeTimerTouches
  | .grantRefreshTimer => grantRefreshTimerTouches
  | .stageTimer => stageTimerTouches
  | .powerReport _ _ => powerReportTouches
  | .violationCheck _ => violationCheckTouches
  | .reportTimeout _ => reportTimeoutTouches
  | .epClear _ => epClearTouches
  | .shedCorrectTimer _ => shedCorrectTimerTouches
  | .powerWarnN _ => powerWarnNTouches
  | .inputSample _ _ _ => inputSampleTouches
  | .uvLoss => uvLossTouches
  | .thermalSample _ _ => thermalSampleTouches
  | .thermalRecheck _ _ => thermalRecheckTouches
  | .snapCtl _ => snapCtlTouches
  | .snapshotPublish => snapshotPublishTouches
  | .telemetryPeriod _ => telemetryPeriodTouches
  | .pauseLimitExpire _ => pauseLimitExpireTouches
  | .getVersion side _ => getVersionTouches side
  | .getCapabilities side _ => getCapabilitiesTouches side
  | .negotiateAlgorithms side _ _ => negotiateAlgorithmsTouches side
  | .getDigests side _ => getDigestsTouches side
  | .getCertificate side _ _ _ => getCertificateTouches side
  | .challenge side _ _ => challengeTouches side
  | .getMeasurements side _ _ _ => getMeasurementsTouches side
  | .keyExchange side _ _ => keyExchangeTouches side
  | .finish side _ _ _ _ => finishTouches side
  | .heartbeat side _ => heartbeatTouches side
  | .keyUpdate side _ => keyUpdateTouches side
  | .endSession side _ => endSessionTouches side
  | .mgmtSegment side _ _ => mgmtSegmentTouches side
  | .regRead side _ _ => regReadTouches side
  | .regWrite side _ _ _ => regWriteTouches side
  | .tokenAcquire _ _ => tokenAcquireTouches
  | .tokenRenew _ _ => tokenRenewTouches
  | .tokenRelease _ _ => tokenReleaseTouches
  | .tokenExpired _ => tokenExpiredTouches
  | .flashWrite _ _ _ => flashWriteTouches
  | .credSet _ _ _ _ => credSetTouches
  | .signerSet _ _ _ _ => signerSetTouches
  | .rollbackRaise _ _ _ => rollbackRaiseTouches
  | .keyLoad side _ _ _ _ _ _ _ => keyLoadTouches side
  | .prevKeyExpire side _ => prevKeyExpireTouches side
  | .activateOrd _ _ _ => activateOrdTouches
  | .slotCmdActivateOrd _ _ => slotCmdActivateOrdTouches
  | .slotRetire _ _ _ => slotRetireTouches
  | .slotCmdRetire _ _ => slotCmdRetireTouches
  | .drainExpire side _ => drainExpireTouches side
  | .tenantRetired side _ => tenantRetiredTouches side
  | .watchdogExpire => watchdogExpireTouches
  | .mgtDoorbell _ => mgtDoorbellTouches
  | .mgtResponse _ => mgtResponseTouches
  | .evidenceClear _ _ => evidenceClearTouches
  | .quarantineTimer _ => quarantineTimerTouches
  | .vote _ _ _ _ _ => voteTouches
  | .decide _ _ _ _ _ _ => decideTouches
  | .deadNotice side _ _ _ _ _ => deadNoticeTouches side
  | .liveNotice side _ _ _ _ _ => liveNoticeTouches side
  | .trayDown _ => trayDownTouches
  | .coldReset _ => coldResetTouches
  | .warmReset => warmResetTouches
  | .puppeteerReset => puppeteerResetTouches
  | .functionReset => functionResetTouches
  | .powerOnReset => powerOnResetTouches
  | .internalFatal _ _ => internalFatalTouches
  | .autoWarmTimer => autoWarmTimerTouches
  | .apertureRead _ _ => apertureReadTouches
  | .apertureWrite _ _ => apertureWriteTouches
  | .queueDoorbell _ _ => queueDoorbellTouches
  | .cheadWrite _ _ => cheadWriteTouches
  | .queueEnable _ _ _ => queueEnableTouches
  | .ringFetchDone _ _ => ringFetchDoneTouches
  | .intStatusClear _ _ _ => intStatusClearTouches
  | .interruptHoldoff _ => interruptHoldoffTouches
  | .dStateChange _ => dStateChangeTouches
  | .busMasterDisable => busMasterDisableTouches
  | .presentNBreak => presentNBreakTouches
  | .cbl3v3Overload _ => cbl3v3OverloadTouches
  | .configurationWrite _ => configurationWriteTouches
  | .completionTimeout _ => completionTimeoutTouches
  | .directoryScanEnd _ => directoryScanEndTouches
  | .ftValidExpire => ftValidExpireTouches
  | .grandmasterTimeout => grandmasterTimeoutTouches
  | .steppedExpire => steppedExpireTouches
  | .sleepControlBlock side _ => sleepControlBlockTouches side
  | .i3cAdminInstall _ _ => i3cAdminInstallTouches
  | .testArm _ _ => testArmTouches
  | .debugAccessOpen _ => debugAccessOpenTouches
  | .fullResSet _ _ => fullResSetTouches
  | .rspLenRead => rspLenReadTouches
  | .recordQuery _ _ => recordQueryTouches
  | .snoopSlow _ => snoopSlowTouches
  | .rattleInterval _ _ => rattleIntervalTouches
  | .reorderHoldExpire _ => reorderHoldExpireTouches
  | .flapDownExpire _ => flapDownExpireTouches
  | .vectorUnmask _ => vectorUnmaskTouches

end Sys2Proof.Machine
end

