-- ==== Sys2Proof/Machine/LineCode.lean ====
section
/-! DEFINITION. The code of a lane's line (03, 04): flit bytes as bits and message symbols, codewords and their interleaving, levels
and precoding. No command takes or gives bits of the line: flits and control blocks are the operands and the outputs. -/

namespace Sys2Proof.Machine

/-! ## Bits and symbols (R78, R112) -/

/-- The bits of bytes in the order of transmission: byte 0 first, bit 0 of each byte first (R78, R112). -/
def lineBits (l : List Byte) : List Bool := l.flatMap fun b => (List.range 8).map b.getLsbD

/-- The number that bits spell, the first the least significant. -/
def natOfBits : List Bool → Nat
  | [] => 0
  | b :: bs => b2n b + 2 * natOfBits bs

/-- The message symbols of a lane's flit bit stream: consecutive groups of 10 bits, the first bit the least significant (R112). -/
def lineSymbols (l : List Bool) : List (BitVec 10) :=
  (List.range (l.length / 10)).map fun j => BitVec.ofNat 10 (natOfBits ((l.drop (10 * j)).take 10))

/-- The bits of symbols in the order of transmission. -/
def symbolBits (l : List (BitVec 10)) : List Bool := l.flatMap fun x => (List.range 10).map x.getLsbD

/-- The 256 bytes of a flit (R115): link header, slots, CRC, credit return. -/
def flitBytes (f : Flit) : List Byte :=
  leBytes 4 (f.type.toNat + f.seq.toNat * 2 ^ 8 + f.ack.toNat * 2 ^ 20) ++ f.slots ++ leBytes 8 f.crc.toNat ++ leBytes 4 f.credit.toNat

/-- The message symbols of the flits that one lane sends, in their order: they run on without alignment to codewords (R112). -/
def laneMessage (fs : List Flit) : List (BitVec 10) := lineSymbols (lineBits (fs.flatMap flitBytes))

/-! ## Codewords (R112, R113) -/

/-- The codewords of a message, back to back: one for each whole 514 symbols (R112). -/
def codewords (msg : List (BitVec 10)) : List (List (BitVec 10)) :=
  (List.range (msg.length / 514)).map fun j => Config.fecCodeword ((msg.drop (514 * j)).take 514)

/-- Two codewords interleaved: their symbols alternate, the earlier codeword's first (R113). -/
def interleave : List (BitVec 10) → List (BitVec 10) → List (BitVec 10)
  | a :: as, b :: bs => a :: b :: interleave as bs
  | as, [] => as
  | [], bs => bs

/-- Codewords in pairs, each pair interleaved. -/
def interleavePairs : List (List (BitVec 10)) → List (BitVec 10)
  | a :: b :: rest => interleave a b ++ interleavePairs rest
  | [a] => a
  | [] => []

/-- The symbols that a lane of a port sends for a message: interleaved while FEC_IL is in force on the port, else one codeword after
the other (R113). -/
def lineStream (sd : Side) (p : Nat) (msg : List (BitVec 10)) (s : State) : List (BitVec 10) :=
  if inForce sd p 8 s then interleavePairs (codewords msg) else (codewords msg).flatten

/-! ## Levels and precoding (R77, R79) -/

/-- The level of a bit pair, the first-transmitted bit first (R77). -/
def grayLevel : Bool → Bool → BitVec 2
  | false, false => 0
  | false, true => 1
  | true, true => 2
  | true, false => 3

/-- The bit pair of a level. -/
def levelPair (x : BitVec 2) : List Bool := [x.getLsbD 1, xor (x.getLsbD 1) (x.getLsbD 0)]

/-- The levels of a bit stream of pairs (R77, R78). -/
def lineLevels : List Bool → List (BitVec 2)
  | a :: b :: rest => grayLevel a b :: lineLevels rest
  | _ => []

/-- The bits of levels. -/
def levelBits (l : List (BitVec 2)) : List Bool := l.flatMap levelPair

/-- The precoder: y(n) = (x(n) − y(n−1)) mod 4 (R79). -/
def precode (last : BitVec 2) : List (BitVec 2) → List (BitVec 2)
  | [] => []
  | x :: xs => (x - last) :: precode (x - last) xs

/-- The decoder of precoded levels: x(n) = (y(n) + y(n−1)) mod 4 (R79). -/
def unprecode (last : BitVec 2) : List (BitVec 2) → List (BitVec 2)
  | [] => []
  | y :: ys => (y + last) :: unprecode y ys

/-- What a lane puts on its line for the bits from an alignment marker or a training pattern on, where y(n−1) is 0: precoded while
the far receiver's choice is (R79). -/
def sentLevels (sd : Side) (n : Nat) (bits : List Bool) (s : State) : List (BitVec 2) :=
  if s.rdb sd Fld.lnkStatusPrecodeTx n then precode 0 (lineLevels bits) else lineLevels bits

/-- What a lane reads from the levels it receives from there on (R79). -/
def receivedBits (sd : Side) (n : Nat) (ys : List (BitVec 2)) (s : State) : List Bool :=
  levelBits (if s.rdb sd Fld.lnkStatusPrecodeRx n then unprecode 0 ys else ys)

/-- The levels of a control block: its 62 bytes and its CRC, never precoded (R78, R79, R83). -/
def controlLevels (c : ControlBlock) : List (BitVec 2) := lineLevels (lineBits (controlBytes c ++ leBytes 2 c.crc.toNat))

end Sys2Proof.Machine
end

