-- ==== Sys2Proof/Safety.lean ====
section
/-! DEFINITION. What counts as a safe run, and the form in which the claims say that a command completes. -/

namespace Sys2Proof

/-- A run of `k` steps from a state ends in a next state: no fault and no refusal on the way. -/
def RunsFor (k : Nat) (s : Machine.State) : Prop := ∃ t, core.run k s = .next t

/-- The command, run on `s`, answers a next state, and `P` holds of that state. -/
def Answers (c : Instr) (s : Machine.State) (P : Machine.State → Prop) : Prop := ∃ t, Machine.exec c s = .next t ∧ P t

end Sys2Proof
end

