-- ==== Sys2Proof/Certificates/Slice0/Obligations.lean ====
section
/-! DEFINITION. The statements for the provers. -/

open Sys2Proof Sys2Proof.Machine

/-- For every command c and state s, a step of s with c at the front of its queue is exec of c on s with the queue's rest. The
queue is the model's form of commands waiting first in, first out (notes/assumptions/1.md). Rests on
95_what_each_step_holds.md: R1. -/
def Obligations.StepRunsTheFrontCommand : Prop := ∀ (c : Instr) (s : State) (rest : List Instr),
  step { s with pending := c :: rest } = exec c { s with pending := rest }

/-- On an empty queue a step answers a next state whose interval clock is one nanosecond on, with the queue still empty, and only
the two units' fabric time, their time exchanges (the rest of a slewed correction) and what has left the module (PPS_OUT) may
differ. That a step on an empty queue is one nanosecond is the model's choice (notes/assumptions/1.md). Rests on
14_time_power.md: R453, R461. -/
def Obligations.IdleStepPassesANanosecond : Prop := ∀ s : State, s.pending = [] →
  ∃ t, step s = .next t ∧ t.now = s.now + 1 ∧ t.pending = []
    ∧ (slewPart s.module.sync.slew = 0 → t.module.time = (s.module.time + 65536) % 2 ^ 80)
    ∧ OnlyChanges [.unit .module .time, .unit .module .sync, .unit .module .out, .unit .endpoint .time, .unit .endpoint .sync] s t

/-- At State.reset the memories and register files are in canonical order, both units' fabric time lies within its 80 bits and
every register word reads zero in its reserved bits. Rests on 02_identities_addresses.md: R9, R11. -/
def Obligations.ResetMeetsTheInvariant : Prop := Inv State.reset

/-- From every state that meets the invariant (DDR5, fast pool, management window and scratchpads in canonical form; both register
files in order; both fabric times below 2^80; every register word zero in the bits that no field of the register tables
covers), whatever command is at the front of the queue or with none waiting, a step that answers a next state answers one that
meets it. Rests on 02_identities_addresses.md: R9; 14_time_power.md: R453. -/
def Obligations.EveryStepKeepsTheInvariant : Prop := ∀ s t : State, Inv s → step s = .next t → Inv t

/-- For every command, on every state where it answers a next state, every part of the state that the command's list in
Footprint.lean does not name (each register of each unit with all its entries, the lanes, ports, inboxes, transports and what
has left each unit, each memory with its bytes, each part of the engines, of the module and of the endpoint block) is the same
after it as before it; so are the queue and the interval clock. Rests on 95_what_each_step_holds.md: R1. -/
def Obligations.CommandsTouchOnlyTheirParts : Prop := ∀ (c : Instr) (s t : State), exec c s = .next t →
  OnlyChanges (touched c) s t ∧ t.pending = s.pending ∧ t.now = s.now

/-- Whatever the command and the state, exec answers a next state, which keeps the queue and, where the state meets the invariant,
meets it too. Rests on 00_scope.md: scope. -/
def Obligations.EveryCommandCompletes : Prop := ∀ (c : Instr) (s : State),
  Answers c s fun t => t.pending = s.pending ∧ (Inv s → Inv t)

/-- FAR_SIGNAL_DETECTED in DETECT starts an attempt and counts it. CONTROL_BLOCK discards and counts a bad block in every state; a
good one counts towards LOCK's three, stores the far identity in IDENTIFY, ends TUNE when both receivers are done, and ends
DESKEW by the span; it does nothing in a state without training. VERIFY_END with at most 537,600 errors goes on to HANDOVER,
and HANDOVER_ACCEPT makes a lane of the port's mask ACTIVE with REASON and ATTEMPTS zero and its cache entry first.
TAP_REQUEST_APPLY serves the waiting request and sends the answer. Rests on 03_lanes.md: R83, R84, R87, R88, R91, R95, R101,
R108. -/
def Obligations.LaneTrainingAdvances : Prop := ∀ (sd : Side) (n : Nat) (s : State),
  (laneSt sd n s = 1 → Answers (.farSignalDetected sd n) s fun t =>
    laneSt sd n t = 2 ∧ (t.lane sd n).goodBlocks = 0
      ∧ t.word sd .lnkTrainCnt n 0 = countedWord (s.word sd .lnkTrainCnt n 0) 1)
  ∧ (laneSt sd n s ≠ 1 → Answers (.farSignalDetected sd n) s fun t => t = s)
  ∧ (∀ cb rx, controlGood cb = false → Answers (.controlBlock sd n cb rx) s fun t =>
    t.word sd .lnkCbErr n 0 = countedWord (s.word sd .lnkCbErr n 0) 1 ∧ laneSt sd n t = laneSt sd n s
      ∧ t.lane sd n = s.lane sd n)
  ∧ (∀ cb rx, controlGood cb = true → laneSt sd n s = 2 → Answers (.controlBlock sd n cb rx) s fun t =>
    laneSt sd n t = (if 2 ≤ (s.lane sd n).goodBlocks then 3 else 2)
      ∧ (t.lane sd n).goodBlocks = (s.lane sd n).goodBlocks + 1 ∧ (t.lane sd n).farTstate = cb.tstate)
  ∧ (∀ cb rx, controlGood cb = true → laneSt sd n s = 3 → Answers (.controlBlock sd n cb rx) s fun t =>
    t.rdb sd Fld.lnkFarIdValid n = true ∧ t.rd sd Fld.lnkFarIdEid n = cb.ident.toNat % 2 ^ 20
      ∧ t.rd sd Fld.lnkFarIdPort n = cb.ident.toNat / 2 ^ 20 % 2 ^ 10)
  ∧ (∀ cb rx, controlGood cb = true → laneSt sd n s = 4 → Answers (.controlBlock sd n cb rx) s fun t =>
    laneSt sd n t = (if rx.rxDone && cb.request.getLsbD 0 then 5 else 4) ∧ (t.lane sd n).eqState = rx.eqState)
  ∧ (∀ cb rx, controlGood cb = true → laneSt sd n s = 5 → Answers (.controlBlock sd n cb rx) s fun t =>
    inSpan rx.spanPs = true → laneSt sd n t = 6)
  ∧ (∀ cb rx, controlGood cb = true → laneSt sd n s = 5 → s.rd sd Fld.lnkStatusAttempts n < 2 → inSpan rx.spanPs = false →
    Answers (.controlBlock sd n cb rx) s fun t =>
      laneSt sd n t = 1 ∧ t.rd sd Fld.lnkStatusReason n = 7
        ∧ t.rd sd Fld.lnkStatusAttempts n = s.rd sd Fld.lnkStatusAttempts n + 1)
  ∧ (∀ cb rx, controlGood cb = true → laneSt sd n s ∈ [0, 1, 8, 9, 10, 12] → Answers (.controlBlock sd n cb rx) s fun t => t = s)
  ∧ (∀ errors, laneSt sd n s = 6 → errors ≤ 537600 → Answers (.verifyEnd sd n errors) s fun t => laneSt sd n t = 7)
  ∧ (laneSt sd n s = 7 → laneInPort sd n s = true → Answers (.handoverAccept sd n) s fun t =>
    laneSt sd n t = 8 ∧ t.rd sd Fld.lnkStatusReason n = 0 ∧ t.rd sd Fld.lnkStatusAttempts n = 0
      ∧ (t.lane sd n).cache.head? = some
        { eid := (farId sd n s).1, lane := (farId sd n s).2, taps := (s.lane sd n).farTaps
          eqState := (s.lane sd n).eqState, precode := s.rdb sd Fld.lnkStatusPrecodeRx n })
  ∧ (laneInPort sd n s = false → Answers (.handoverAccept sd n) s fun t => t = s)
  ∧ (∀ req taps, (s.lane sd n).farRequest = some (req, taps) → sendsFrames (laneSt sd n s) = true →
    Answers (.tapRequestApply sd n) s fun t =>
      t.rd sd Fld.lnkTxTapsOuter n = (applyRequest (s.rd sd Fld.lnkTxTapsOuter n) req.toNat taps.toNat).2 % 2 ^ 30
        ∧ (t.lane sd n).farRequest = none ∧ (t.lane sd n).answered = some (req.extractLsb' 12 4)
        ∧ (t.unit sd).out.length = (s.unit sd).out.length + 1)
  ∧ ((s.lane sd n).farRequest = none → Answers (.tapRequestApply sd n) s fun t => t = s)

/-- TRAINING_TIMEOUT from LOCK to HANDOVER (REASON TIMEOUT), VERIFY_END with too many errors (REASON of VERIFY), FAR_SIGNAL_LOST
in an attempt that is not fast and FAST_TIMEOUT in the fast path end the attempt: with the lane first out of its port,
ATTEMPTS rises by one and the lane returns to DETECT, or, at the third failed attempt with no free slice, is FAILED with
REASON NO_SPARE. The fast path's failure drops the far end's cache entry and the next training ignores the cache. Rests on
03_lanes.md: R88, R95, R96, R98. -/
def Obligations.LaneAttemptFails : Prop := ∀ (sd : Side) (n : Nat) (s : State),
  let u := laneLeaves sd n s
  let a := u.rd sd Fld.lnkStatusAttempts n
  (2 ≤ laneSt sd n s → laneSt sd n s ≤ 7 → a < 2 → Answers (.trainingTimeout sd n) s fun t =>
    laneSt sd n t = 1 ∧ t.rd sd Fld.lnkStatusAttempts n = a + 1 ∧ t.rd sd Fld.lnkStatusReason n = 5)
  ∧ (2 ≤ laneSt sd n s → laneSt sd n s ≤ 7 → 2 ≤ a → freeSlice sd n u = none → Answers (.trainingTimeout sd n) s fun t =>
    laneSt sd n t = 12 ∧ t.rd sd Fld.lnkStatusReason n = 8)
  ∧ (laneSt sd n s < 2 ∨ 7 < laneSt sd n s → Answers (.trainingTimeout sd n) s fun t => t = s)
  ∧ (∀ errors, laneSt sd n s = 6 → 537600 < errors → s.rd sd Fld.lnkStatusAttempts n < 2 →
    Answers (.verifyEnd sd n errors) s fun t => laneSt sd n t = 1 ∧ t.rd sd Fld.lnkStatusReason n = 6
      ∧ t.rd sd Fld.lnkStatusAttempts n = s.rd sd Fld.lnkStatusAttempts n + 1)
  ∧ (∀ errors, laneSt sd n s = 13 → 4480 < errors → Answers (.verifyEnd sd n errors) s fun t =>
    laneSt sd n t = 4 ∧ (t.lane sd n).fast = false)
  ∧ (inAttempt (laneSt sd n s) = true → s.rdb sd Fld.lnkCtlCircuit n = false → (s.lane sd n).fast = false → a < 2 →
    Answers (.farSignalLost sd n) s fun t => laneSt sd n t = 1 ∧ t.rd sd Fld.lnkStatusAttempts n = a + 1)
  ∧ (inAttempt (laneSt sd n s) = true → s.rdb sd Fld.lnkCtlCircuit n = true →
    Answers (.farSignalLost sd n) s fun t => laneSt sd n t = 1 ∧ t.rd sd Fld.lnkStatusAttempts n = a)
  ∧ (laneSt sd n s = 8 → Answers (.farSignalLost sd n) s fun t => laneSt sd n t = 1)
  ∧ (laneSt sd n s = 13 → a < 2 → Answers (.fastTimeout sd n) s fun t =>
    laneSt sd n t = 1 ∧ t.rd sd Fld.lnkStatusAttempts n = a + 1 ∧ t.rd sd Fld.lnkStatusReason n = 5
      ∧ (t.lane sd n).ignoreCache = true
      ∧ (t.lane sd n).cache = cacheDrop (farId sd n u).1 (farId sd n u).2 (u.lane sd n).cache)

/-- LANE_RETRAIN returns a lane to DETECT, but leaves one that is disabled or off. CACHE_FLUSH empties the lane's preset cache and
does nothing else to the lane. SPARE_NOW gives the lane the free slice with the cache empty, and does nothing where no slice
is free. LANE_POWER_REQUEST writes POWER where RWL writes are open, and moves a lane that is not in data to OFF or from OFF to
DETECT; LANE_ENABLE sets ENABLE and starts a disabled lane once it may; both are discarded where the gate is closed. Rests on
02_identities_addresses.md: R9, R10; 03_lanes.md: R88, R97, R98, R104, R105, R109. -/
def Obligations.LaneSoftwareRequests : Prop := ∀ (sd : Side) (path : Path) (n : Nat) (s : State),
  (laneSt sd n s ≠ 0 → laneSt sd n s ≠ 10 → Answers (.laneRetrain sd path n) s fun t => laneSt sd n t = 1)
  ∧ (laneSt sd n s = 0 ∨ laneSt sd n s = 10 → Answers (.laneRetrain sd path n) s fun t => t = s)
  ∧ (Answers (.cacheFlush sd path n) s fun t => t.lane sd n = { s.lane sd n with cache := [] }
      ∧ (∀ k, k ≠ n → t.lane sd k = s.lane sd k) ∧ OnlyChanges [.unit sd .lanes] s t)
  ∧ (∀ x, freeSlice sd n s = some x → Answers (.spareNow sd path n) s fun t =>
    t.rd sd Fld.lnkStatusSlice n = x ∧ (t.lane sd n).cache = []
      ∧ laneSt sd n t = (if laneSt sd n s = 0 ∨ laneSt sd n s = 10 then laneSt sd n s else 1))
  ∧ (freeSlice sd n s = none → Answers (.spareNow sd path n) s fun t => t = s)
  ∧ (∀ power, power ≤ 2 → rwlOpen sd path (regOffset sd .lnkCtl n 0) s = true →
    Answers (.lanePowerRequest sd path n power) s fun t => t.rd sd Fld.lnkCtlPower n = power
      ∧ (power = 2 → laneSt sd n s ∉ [0, 8, 10] → laneSt sd n t = 10)
      ∧ (power = 0 → (s.lane sd n).powerHold = 0 → laneSt sd n s = 10 → laneSt sd n t = 1))
  ∧ (∀ power, rwlOpen sd path (regOffset sd .lnkCtl n 0) s = false → Answers (.lanePowerRequest sd path n power) s fun t =>
    t.rd sd Fld.lnkCtlPower n = s.rd sd Fld.lnkCtlPower n ∧ laneSt sd n t = laneSt sd n s)
  ∧ (rwlOpen sd path (regOffset sd .lnkCtl n 0) s = true → Answers (.laneEnable sd path n) s fun t =>
    t.rdb sd Fld.lnkCtlEnable n = true ∧ (laneSt sd n s = 0 → mayEnable sd s = true → wantedPower sd n s = 0 → laneSt sd n t = 1)
      ∧ (mayEnable sd s = false → laneSt sd n t = laneSt sd n s))
  ∧ (rwlOpen sd path (regOffset sd .lnkCtl n 0) s = false → Answers (.laneEnable sd path n) s fun t =>
    t.rd sd Fld.lnkCtlEnable n = s.rd sd Fld.lnkCtlEnable n ∧ laneSt sd n t = laneSt sd n s)

/-- ALIGNMENT_MARKER counts the parity bits that differ, resets the run of bad markers on a good one, and takes a lane outside the
span back to DETECT. ERROR_RATIO_CHECK below the bound forgets the noted ratio, above it remaps the slice or leaves REASON
NO_SPARE. LNK_PLAN_WRITE writes the plan; ID_ANNOUNCE with a bad PCHK is counted, ID_ANNOUNCE_TIMER queues one announcement on
a port that carries traffic, ID_ANNOUNCE_TIMEOUT takes a port that carries traffic down. LANE_CTL's answer ends the lane's
request, LANE_CTL_TIMEOUT abandons and counts it. A sleeping lane whose signal is lost retrains, one that wakes inside the
span hands over, and sends its control block. Rests on 03_lanes.md: R93, R94, R98, R100, R101, R102, R104. -/
def Obligations.LaneInData : Prop := ∀ (sd : Side) (n : Nat) (s : State),
  (∀ m bipSeen spanPs errors bits wish, laneSt sd n s = 8 → m.sync = 0xC35A96 → inSpan spanPs = false →
    Answers (.alignmentMarker sd n m bipSeen spanPs errors bits wish) s fun t => laneSt sd n t = 1)
  ∧ (∀ m bipSeen spanPs errors bits wish, laneSt sd n s = 8 → m.sync = 0xC35A96 → (s.lane sd n).nextMarker = some m.count →
    inSpan spanPs = true → bitsOf (s.word sd .lnkBipErr n 0) 47 0 + 8 < countMax →
    Answers (.alignmentMarker sd n m bipSeen spanPs errors bits wish) s fun t => laneSt sd n t = 8
      ∧ bitsOf (t.word sd .lnkBipErr n 0) 47 0 = bitsOf (s.word sd .lnkBipErr n 0) 47 0 + popcount 8 (m.bip ^^^ bipSeen).toNat
      ∧ (t.lane sd n).badMarkers = 0 ∧ (t.lane sd n).nextMarker = some (m.count + 1) ∧ (t.lane sd n).spanPs = spanPs)
  ∧ (∀ errors bits, laneSt sd n s = 8 → ratioHigh errors bits = false → Answers (.errorRatioCheck sd n errors bits) s fun t =>
    (t.lane sd n).noSpareRatio = none ∧ laneSt sd n t = 8)
  ∧ (∀ errors bits, laneSt sd n s = 8 → ratioHigh errors bits = true → freeSlice sd n s = none →
    Answers (.errorRatioCheck sd n errors bits) s fun t => laneSt sd n t = 8 ∧ t.rd sd Fld.lnkStatusReason n = 8)
  ∧ (∀ errors bits x, laneSt sd n s = 8 → ratioHigh errors bits = true → freeSlice sd n s = some x →
    Answers (.errorRatioCheck sd n errors bits) s fun t => laneSt sd n t = 1 ∧ t.rd sd Fld.lnkStatusSlice n = x)
  ∧ (∀ path v, rwlOpen .module path (regOffset .module .lnkPlan n 0) s = true → Answers (.lnkPlanWrite path n v) s fun t =>
    t.rd .module Fld.lnkPlanValid n = bitsOf v 63 63 ∧ t.rd .module Fld.lnkPlanPort n = bitsOf v 29 20
      ∧ t.rd .module Fld.lnkPlanEid n = bitsOf v 19 0)
  ∧ (∀ pkt, portUp sd n s = true → pchkGood pkt = false → Answers (.idAnnounce sd n pkt) s fun t =>
    t.word sd .xptPchkDiscardCnt 0 0 = countedWord (s.word sd .xptPchkDiscardCnt 0 0) 1 ∧ portSt sd n t = portSt sd n s)
  ∧ (portUp sd n s = true → Answers (.idAnnounceTimer sd n) s fun t =>
    t = portSend sd n (linkPacket sd n 3 (n + portWidth sd n s * 2 ^ 10) [] s) s)
  ∧ (portUp sd n s = true → Answers (.idAnnounceTimeout sd n) s fun t => portUp sd n t = false)
  ∧ (portUp sd n s = false → (Answers (.idAnnounceTimer sd n) s fun t => t = s)
    ∧ (Answers (.idAnnounceTimeout sd n) s fun t => t = s))
  ∧ (∀ pkt req, pchkGood pkt = true → pkt.opx.getLsbD 26 = true → (s.lane sd (pkt.opx.toNat / 2 ^ 16 % 2 ^ 10)).laneCtl = some req →
    req.toNat / 2 ^ 12 = (pkt.opx.setWidth 16).toNat / 2 ^ 12 → Answers (.laneCtl sd n pkt) s fun t =>
      (t.lane sd (pkt.opx.toNat / 2 ^ 16 % 2 ^ 10)).laneCtl = none)
  ∧ ((s.lane sd n).laneCtl.isSome = true → Answers (.laneCtlTimeout sd n) s fun t =>
    (t.lane sd n).laneCtl = none ∧ (t.lane sd n).laneCtlAbandoned = (s.lane sd n).laneCtlAbandoned + 1)
  ∧ (laneSt sd n s = 9 → Answers (.sleepSignalLoss sd n) s fun t => laneSt sd n t = 1)
  ∧ (∀ spanPs, laneSt sd n s = 9 → wantedPower sd n s = 0 → Answers (.laneWake sd n spanPs) s fun t =>
    (inSpan spanPs = true → laneSt sd n t = 7 ∧ (t.lane sd n).spanPs = spanPs)
      ∧ (inSpan spanPs = false → laneSt sd n t = 1 ∧ t.rd sd Fld.lnkStatusReason n = 7))
  ∧ (laneSt sd n s = 9 → Answers (.sleepControlBlock sd n) s fun t =>
    t = s.emit sd (.controlBlock n (myControlBlock sd n ((portOf sd n s).getD n) s)))
  ∧ (laneSt sd n s ≠ 9 → (Answers (.sleepSignalLoss sd n) s fun t => t = s) ∧ (Answers (.sleepControlBlock sd n) s fun t => t = s))

/-- FLIT_RECEIVE does nothing on a lane outside the port's active mask or on a port that is down. A flit that fails is counted in
PRT.CRC_ERR, and the first failure makes the port discard until a RESYNC, with the last SEQ accepted unchanged. A good CTRL
flit with a known code and a good DATA flit in sequence become the last SEQ accepted; a DATA flit whose slots complete no
packet only joins the slot stream, one that completes a packet that holds its credits lets it arrive; an idle flit leaves the
last SEQ accepted. Rests on 04_link_layer.md: R114, R116, R118, R119, R120, R130, R139. -/
def Obligations.LinkFlitsAreTaken : Prop := ∀ (sd : Side) (p lane : Nat) (f : Flit) (unc : Bool) (k : Nat) (s : State),
  (flitHeard sd p lane s = false → Answers (.flitReceive sd p lane f unc k) s fun t => t = s)
  ∧ (flitHeard sd p lane s = true → flitFails (s.port sd p) f unc = true → isReplayed (s.port sd p) f = false →
    Answers (.flitReceive sd p lane f unc k) s fun t =>
      t.word sd .prtCrcErr p 0 = countedWord (s.word sd .prtCrcErr p 0) 1 ∧ (t.port sd p).discarding = true
        ∧ (t.port sd p).rxAck = (s.port sd p).rxAck
        ∧ smapGet (t.port sd p).failed 0 lane = smapGet (s.port sd p).failed 0 lane + 1)
  ∧ (∀ ps, flitHeard sd p lane s = true → flitFails (s.port sd p) f unc = false → isReplayed (s.port sd p) f = false →
    (s.port sd p).discarding = false → takeCredits (s.port sd p) f.credit = some ps → f.type = 0x20 →
    Answers (.flitReceive sd p lane f unc k) s fun t =>
      (t.port sd p).rxAck = f.seq ∧ (t.port sd p).credits = ps.credits ∧ (t.port sd p).rxStream = (s.port sd p).rxStream)
  ∧ (∀ ps rest, flitHeard sd p lane s = true → flitFails (s.port sd p) f unc = false → isReplayed (s.port sd p) f = false →
    (s.port sd p).discarding = false → takeCredits (s.port sd p) f.credit = some ps → 1 ≤ f.type.toNat → f.type.toNat ≤ 15 →
    takePackets 16 ((s.port sd p).rxStream ++ f.slots.take (16 * f.type.toNat)) = ([], rest) →
    Answers (.flitReceive sd p lane f unc k) s fun t =>
      (t.port sd p).rxAck = f.seq ∧ (t.port sd p).arrived = (s.port sd p).arrived
        ∧ (t.port sd p).rxStream = if f.type.toNat < 15 then [] else rest)
  ∧ (∀ ps pkt rest, flitHeard sd p lane s = true → flitFails (s.port sd p) f unc = false → isReplayed (s.port sd p) f = false →
    (s.port sd p).discarding = false → takeCredits (s.port sd p) f.credit = some ps → 1 ≤ f.type.toNat → f.type.toNat ≤ 15 →
    takePackets 16 ((s.port sd p).rxStream ++ f.slots.take (16 * f.type.toNat)) = ([pkt], rest) →
    (s.port sd p).inUse.getD (poolOf pkt.opcode) 0 + packetSlots pkt ≤ (s.port sd p).grant.getD (poolOf pkt.opcode) 0 →
    Answers (.flitReceive sd p lane f unc k) s fun t =>
      (t.port sd p).rxAck = f.seq ∧ (t.port sd p).arrived = (s.port sd p).arrived ++ [pkt])
  ∧ (∀ ps, flitHeard sd p lane s = true → flitFails (s.port sd p) f unc = false → isReplayed (s.port sd p) f = false →
    (s.port sd p).discarding = false → takeCredits (s.port sd p) f.credit = some ps → f.type = 0 →
    Answers (.flitReceive sd p lane f unc k) s fun t =>
      (t.port sd p).rxAck = (s.port sd p).rxAck ∧ (t.port sd p).arrived = (s.port sd p).arrived)

/-- RETRY_REQ replays from its ACK plus one and counts the replay; RETRY_REQ_TIMER sends another RETRY_REQ while the port
discards. REPLAY_TIMEOUT replays from the oldest unacknowledged flit, and, where that flit has been replayed eight times and
no lane can leave, takes the port down with REASON of the replay limit. RESYNC ends the discarding, takes its mask in a port
that forms, and leaves a port whose mask it repeats UP or DEGRADED. Rests on 04_link_layer.md: R120, R121, R122, R131, R133. -/
def Obligations.LinkReplaysAndResyncs : Prop := ∀ (sd : Side) (p lane : Nat) (f : Flit) (s : State),
  (∀ ps, flitHeard sd p lane s = true → f.type = 0x30 → flitFails (s.port sd p) f false = false → (s.port sd p).discarding = false →
    takeCredits (s.port sd p) f.credit = some ps → (s.port sd p).replays < 8 → Answers (.retryReq sd p lane f) s fun t =>
      t.word sd .prtReplayCnt p 0 = countedWord (s.word sd .prtReplayCnt p 0) 1 ∧ (t.port sd p).rxAck = (s.port sd p).rxAck)
  ∧ (f.type ≠ 0x30 → Answers (.retryReq sd p lane f) s fun t => t = s)
  ∧ (∀ ps, flitHeard sd p lane s = true → f.type = 0x31 → flitFails (s.port sd p) f false = false →
    takeCredits (s.port sd p) f.credit = some ps → portSt sd p s = 1 → (s.port sd p).initReceived = false → f.slots.getD 0 0 ≠ 0 →
    Answers (.resync sd p lane f) s fun t => portSt sd p t = 1 ∧ activeMask sd p t = (f.slots.getD 0 0).toNat
      ∧ (((s.port sd p).rxAck + 1 - f.seq).toNat < 2048 → (t.port sd p).discarding = false
        ∧ (t.port sd p).skip = ((s.port sd p).rxAck + 1 - f.seq).toNat))
  ∧ (∀ ps, flitHeard sd p lane s = true → f.type = 0x31 → flitFails (s.port sd p) f false = false →
    takeCredits (s.port sd p) f.credit = some ps → portUp sd p s = true → (f.slots.getD 0 0).toNat = activeMask sd p s →
    f.slots.getD 0 0 ≠ 0 → (s.port sd p).resyncDue = false →
    Answers (.resync sd p lane f) s fun t =>
      portSt sd p t = (if popcount 8 (activeMask sd p s) < portWidth sd p s then 3 else 2)
        ∧ activeMask sd p t = activeMask sd p s)
  ∧ (f.type ≠ 0x31 → Answers (.resync sd p lane f) s fun t => t = s)
  ∧ (portSt sd p s ≠ 0 → (s.port sd p).discarding = true → Answers (.retryReqTimer sd p) s fun t =>
    t = sendFlit sd p 0x30 (s.port sd p).txSeq [] s ∧ (t.unit sd).out.length = (s.unit sd).out.length + 1)
  ∧ ((s.port sd p).discarding = false → Answers (.retryReqTimer sd p) s fun t => t = s)
  ∧ (portSt sd p s ≠ 0 → (s.port sd p).retry ≠ [] → (s.port sd p).replays < 8 → Answers (.replayTimeout sd p) s fun t =>
    t.word sd .prtReplayCnt p 0 = countedWord (s.word sd .prtReplayCnt p 0) 1 ∧ (t.port sd p).retry = (s.port sd p).retry
      ∧ (t.port sd p).replays = (s.port sd p).replays + 1)
  ∧ (portSt sd p s ≠ 0 → (s.port sd p).retry ≠ [] → 8 ≤ (s.port sd p).replays →
    (maskLanes p (activeMask sd p s)).length ≤ max 1 (s.rd sd Fld.prtCtlMinWidth p) → Answers (.replayTimeout sd p) s fun t =>
      portSt sd p t = 0 ∧ t.rd sd Fld.prtStatusReason p = 1 ∧ activeMask sd p t = 0)
  ∧ ((s.port sd p).retry = [] → Answers (.replayTimeout sd p) s fun t => t = s)

/-- PORT_FORM puts a port that is down into INIT on the lanes in HANDOVER of one version, with the lower of both MAJOR versions
and nothing held from before, sets VER_FAIL where the MAJOR is not supported, and does nothing without a lane in HANDOVER.
CREDIT_INIT takes the far end's grants as the credits held, and the port is UP, or DEGRADED below its width, once its own
grant is acknowledged. PEER_PORT_DOWN and PORT_DOWN_CMD take a port down with their reason, its lanes leaving the mask and its
unacknowledged flits gone; a window of no port changes nothing but the record of the access. Rests on 04_link_layer.md: R122,
R127, R132, R136, R140, R141. -/
def Obligations.PortsFormAndGoDown : Prop := ∀ (sd : Side) (path : Path) (p : Nat) (s : State),
  (∀ n l, portSt sd p s = 0 → portWidth sd p s ≠ 0 → readyLanes sd p s = n :: l →
    (∀ k ∈ l, (s.lane sd k).farVersion = (s.lane sd n).farVersion) → majorOk (s.lane sd n).farVersion = true →
    max 1 (s.rd sd Fld.prtCtlMinWidth p) ≤ l.length + 1 → formFits sd p s = true → Answers (.portForm sd p) s fun t =>
      portSt sd p t = 1 ∧ activeMask sd p t = ((n :: l).map fun k => 2 ^ (k - p)).sum % 256
        ∧ t.rd sd Fld.prtVersionNegMajor p = min 2 ((s.lane sd n).farVersion.toNat / 16 % 16)
        ∧ t.rd sd Fld.prtStatusVerMismatch p = 0
        ∧ (t.port sd p).txSeq = 1 ∧ (t.port sd p).rxAck = 0xFFF ∧ (t.port sd p).grant = myGrants sd p (portWidth sd p s) s
        ∧ (t.port sd p).retry.map (·.seq) = [0])
  ∧ (∀ n l, portSt sd p s = 0 → portWidth sd p s ≠ 0 → readyLanes sd p s = n :: l → majorOk (s.lane sd n).farVersion = false →
    Answers (.portForm sd p) s fun t => portSt sd p t = 0 ∧ t.rdb sd Fld.prtStatusVerFail p = true)
  ∧ (portSt sd p s ≠ 0 ∨ portWidth sd p s = 0 ∨ readyLanes sd p s = [] → Answers (.portForm sd p) s fun t => t = s)
  ∧ (∀ grants, portSt sd p s = 1 → (s.port sd p).initReceived = false → Answers (.creditInit sd p grants) s fun t =>
    (t.port sd p).initReceived = true ∧ (∀ k, k < 11 → (t.port sd p).credits.getD k 0 = grants.getD k 0 % 4096)
      ∧ portSt sd p t = (if (s.port sd p).initAcked then
          if popcount 8 (activeMask sd p s) < portWidth sd p s then 3 else 2 else 1))
  ∧ (∀ grants, portSt sd p s ≠ 1 ∨ (s.port sd p).initReceived = true → Answers (.creditInit sd p grants) s fun t => t = s)
  ∧ (portUp sd p s = true → Answers (.peerPortDown sd p) s fun t =>
    portSt sd p t = 0 ∧ t.rd sd Fld.prtStatusReason p = 5 ∧ activeMask sd p t = 0 ∧ (t.port sd p).retry = [])
  ∧ (portUp sd p s = false → Answers (.peerPortDown sd p) s fun t => t = s)
  ∧ (portWidth sd p s ≠ 0 → portSt sd p s ≠ 0 → Answers (.portDownCmd sd path p) s fun t =>
    portSt sd p t = 0 ∧ t.rd sd Fld.prtStatusReason p = 4 ∧ activeMask sd p t = 0 ∧ (t.port sd p).retry = [])
  ∧ (portWidth sd p s ≠ 0 → portSt sd p s = 0 → Answers (.portDownCmd sd path p) s fun t => t = s)
  ∧ (portWidth sd p s = 0 → Answers (.portDownCmd sd path p) s fun t =>
    t = regAccess sd (regOffset sd .prtCtl p 0) 2 s ∧ portSt sd p t = portSt sd p s)

/-- LANE_FAULT of an active lane takes it back to DETECT, on a free slice where its own failed, and does nothing for a lane in no
port. LANE_DROP takes the lanes it names out of the mask, or the port down where too few would remain. LANE_ADD notes the far
end's offer, and the end that leads puts the lanes both have offered into the mask. UPCONFIG_LANE_READY offers a lane of the
port's version, or sets VER_MISMATCH. LANE_RELEASE and RELEASE_ACK take the lanes that are in the mask out of it while
MIN_WIDTH remains, and only lanes this end asked for in the latter. Rests on 04_link_layer.md: R104, R107, R132, R133, R134,
R135, R139. -/
def Obligations.LanesJoinAndLeaveAPort : Prop := ∀ (sd : Side) (p n : Nat) (mask : BitVec 8) (s : State),
  (∀ slice, laneInPort sd n s = false → Answers (.laneFault sd n slice) s fun t => t = s)
  ∧ (laneInPort sd n s = true → Answers (.laneFault sd n false) s fun t => laneSt sd n t = 1)
  ∧ (∀ x, laneInPort sd n s = true → freeSlice sd n s = some x → Answers (.laneFault sd n true) s fun t =>
    laneSt sd n t = 1 ∧ t.rd sd Fld.lnkStatusSlice n = x)
  ∧ (portUp sd p s = true → activeMask sd p s &&& mask.toNat ≠ 0 →
    max 1 (s.rd sd Fld.prtCtlMinWidth p) ≤ popcount 8 (activeMask sd p s) - popcount 8 (activeMask sd p s &&& mask.toNat) →
    Answers (.laneDrop sd p mask) s fun t => activeMask sd p t = activeMask sd p s &&& (255 - mask.toNat)
      ∧ portUp sd p t = true ∧ (mask.getLsbD 0 = true → (activeMask sd p s).testBit 0 = true → laneSt sd p t = 1))
  ∧ (portUp sd p s = true → activeMask sd p s &&& mask.toNat ≠ 0 →
    popcount 8 (activeMask sd p s) - popcount 8 (activeMask sd p s &&& mask.toNat) < max 1 (s.rd sd Fld.prtCtlMinWidth p) →
    Answers (.laneDrop sd p mask) s fun t => portSt sd p t = 0 ∧ t.rd sd Fld.prtStatusReason p = 2)
  ∧ (portUp sd p s = true → leadsAdd sd p s = false → Answers (.laneAdd sd p mask) s fun t =>
    (t.port sd p).addFar = (s.port sd p).addFar ||| mask ∧ activeMask sd p t = activeMask sd p s)
  ∧ (portUp sd p s = true → leadsAdd sd p s = true → (s.port sd p).addMine &&& ((s.port sd p).addFar ||| mask) ≠ 0 →
    Answers (.laneAdd sd p mask) s fun t =>
      activeMask sd p t = activeMask sd p s ||| ((s.port sd p).addMine &&& ((s.port sd p).addFar ||| mask)).toNat
        ∧ (t.port sd p).addMine = 0 ∧ (t.port sd p).addFar = 0)
  ∧ (portUp sd p s = false → (Answers (.laneAdd sd p mask) s fun t => t = s) ∧ (Answers (.laneDrop sd p mask) s fun t => t = s))
  ∧ (portOf sd n s = some p → portUp sd p s = true → laneSt sd n s = 7 → (activeMask sd p s).testBit (n - p) = false →
    s.rdb sd Fld.prtCtlUpconfigEn p = true → (s.lane sd n).farVersion = (s.port sd p).farOffer → leadsAdd sd p s = false →
    Answers (.upconfigLaneReady sd n) s fun t =>
      (t.port sd p).addMine = (s.port sd p).addMine ||| (1#8 <<< (n - p)) ∧ (t.port sd p).txSeq = (s.port sd p).txSeq + 1)
  ∧ (portOf sd n s = some p → portUp sd p s = true → laneSt sd n s = 7 → (activeMask sd p s).testBit (n - p) = false →
    s.rdb sd Fld.prtCtlUpconfigEn p = true → (s.lane sd n).farVersion ≠ (s.port sd p).farOffer →
    Answers (.upconfigLaneReady sd n) s fun t =>
      t.rdb sd Fld.prtStatusVerMismatch p = true ∧ (t.port sd p).addMine = (s.port sd p).addMine)
  ∧ (portUp sd p s = true → activeMask sd p s &&& mask.toNat ≠ 0 →
    max 1 (s.rd sd Fld.prtCtlMinWidth p) ≤ popcount 8 (activeMask sd p s) - popcount 8 (activeMask sd p s &&& mask.toNat) →
    Answers (.laneRelease sd p mask) s fun t => activeMask sd p t = activeMask sd p s &&& (255 - mask.toNat)
      ∧ portUp sd p t = true)
  ∧ (portUp sd p s = true → activeMask sd p s &&& mask.toNat ≠ 0 →
    popcount 8 (activeMask sd p s) - popcount 8 (activeMask sd p s &&& mask.toNat) < max 1 (s.rd sd Fld.prtCtlMinWidth p) →
    Answers (.laneRelease sd p mask) s fun t => t = s)
  ∧ (portUp sd p s = true → activeMask sd p s &&& mask.toNat &&& (s.port sd p).releasing.toNat ≠ 0 →
    Answers (.releaseAck sd p mask) s fun t =>
      activeMask sd p t = activeMask sd p s &&& (255 - (mask &&& (s.port sd p).releasing).toNat)
        ∧ (t.port sd p).releasing = (s.port sd p).releasing &&& ~~~mask)
  ∧ (activeMask sd p s &&& mask.toNat &&& (s.port sd p).releasing.toNat = 0 → Answers (.releaseAck sd p mask) s fun t => t = s)

/-- PACKET_TRANSMIT starts the packet whose turn it is in a pool (transit packets first) where the port is up, its class is open,
its credits and the retry buffer cover it and, in a ring, an entering packet finds the bubble; the packet leaves its queue and
its slots are spent from the credits of its pool. Where no packet waits or one may not start, nothing changes. Rests on
04_link_layer.md: R118, R123, R125; 05_switching_core.md: R175. -/
def Obligations.PacketsStartWithCredit : Prop := ∀ (sd : Side) (p pool : Nat) (e : EgressEntry) (s : State),
  (nextEntry (smapGet (s.port sd p).egress [] pool) = some e → mayStart sd p e.pkt s = true →
    (e.entering = false ∨ bubbleCredits pool ≤ (s.port sd p).credits.getD pool 0) →
    (sd = .module → residueBefore p pool e.order s = false) → Answers (.packetTransmit sd p pool) s fun t =>
      smapGet (t.port sd p).egress [] pool = (smapGet (s.port sd p).egress [] pool).erase e
        ∧ (t.port sd p).credits.getD (poolOf e.pkt.opcode) 0
          = (s.port sd p).credits.getD (poolOf e.pkt.opcode) 0 - packetSlots (adaptPacket sd p e.pkt s)
        ∧ (s.unit sd).out.length < (t.unit sd).out.length)
  ∧ (nextEntry (smapGet (s.port sd p).egress [] pool) = some e → mayStart sd p e.pkt s = false →
    Answers (.packetTransmit sd p pool) s fun t => t = s)
  ∧ (nextEntry (smapGet (s.port sd p).egress [] pool) = none → Answers (.packetTransmit sd p pool) s fun t => t = s)

/-- For an even number of bits, a receiver whose PRECODE_RX agrees with the sender's PRECODE_TX reads the bits that were sent.
Precoding and its decoder undo each other from every last level. The message symbols of a bit stream of whole groups of 10
give that stream back, and bit i of a byte string's stream is bit i mod 8 of byte i div 8. Interleaved codewords of one length
are told apart: symbol 2i is symbol i of the earlier one and symbol 2i + 1 of the later. The four bit pairs have the levels of
R77. Rests on 03_lanes.md: R77, R78, R79; 04_link_layer.md: R112, R113. -/
def Obligations.LineCodeIsUndoneAtTheOtherEnd : Prop :=
  (∀ (sd far : Side) (n m : Nat) (bits : List Bool) (s : State), bits.length % 2 = 0 →
    s.rdb far Fld.lnkStatusPrecodeRx m = s.rdb sd Fld.lnkStatusPrecodeTx n →
    receivedBits far m (sentLevels sd n bits s) s = bits)
  ∧ (∀ (last : BitVec 2) (xs : List (BitVec 2)), unprecode last (precode last xs) = xs ∧ precode last (unprecode last xs) = xs)
  ∧ (∀ bits : List Bool, bits.length % 10 = 0 → symbolBits (lineSymbols bits) = bits)
  ∧ (∀ (l : List Byte) (i : Nat), i < 8 * l.length →
    (lineBits l)[i]? = some ((l.getD (i / 8) 0).getLsbD (i % 8)))
  ∧ (∀ (a b : List (BitVec 10)) (i : Nat), a.length = b.length → i < a.length →
    (interleave a b)[2 * i]? = a[i]? ∧ (interleave a b)[2 * i + 1]? = b[i]?)
  ∧ grayLevel false false = 0 ∧ grayLevel false true = 1 ∧ grayLevel true true = 2 ∧ grayLevel true false = 3

/-- PACKET_INGRESS does nothing while the module holds no role or the port carries no traffic. A packet taken from the arrivals
whose class is not open, whose header is malformed, or whose source, plane or hop count is wrong (past the checks before) is
counted in the port's register of that cause; one for the module itself, not in an ordered stream, is delivered with its hop
count one less; one whose route is a port with the features and with room is queued at the end of that port's queue of its
pool. BUFFER_ROOM_FREED moves a packet that waits, oldest of its port and pool first, into the room that a port has;
REORDER_HOLD_EXPIRE passes a held packet on. Rests on 05_switching_core.md: R145, R154, R155, R163;
02_identities_addresses.md: R48, R72. -/
def Obligations.SwitchTakesPackets : Prop := ∀ (p : Nat) (pkt : Packet) (s : State),
  let k : Packet := { pkt with hops := pkt.hops - 1 }
  let ready := s.hasRole = true ∧ portUp .module p s = true
  let fits := classOpen .module pkt.tc.toNat s = true ∧ malformed pkt = false ∧ retiredPacket pkt s = false
    ∧ (quarantined p s && decide (2 ≤ pkt.tc.toNat)) = false
  let good := sourceOk p pkt.src s = true ∧ pkt.plane = s.rdb .module Fld.glbRolePlane ∧ pkt.hops ≠ 0
  (¬ ready → Answers (.packetIngress p pkt) s fun t => t = s)
  ∧ (ready → classOpen .module pkt.tc.toNat s = false → Answers (.packetIngress p pkt) s fun t =>
    t.word .module .prtIngressDiscard p 0 = countedWord (s.word .module .prtIngressDiscard p 0) 1
      ∧ (t.port .module p).arrived = (s.port .module p).arrived.erase pkt ∧ t.module.inbox = s.module.inbox)
  ∧ (ready → classOpen .module pkt.tc.toNat s = true → malformed pkt = true → Answers (.packetIngress p pkt) s fun t =>
    t.word .module .prtMalformed p 0 = countedWord (s.word .module .prtMalformed p 0) 1
      ∧ (t.port .module p).arrived = (s.port .module p).arrived.erase pkt ∧ t.module.inbox = s.module.inbox)
  ∧ (ready → fits → ¬ good → Answers (.packetIngress p pkt) s fun t =>
    t.word .module .prtIngressDiscard p 0 = countedWord (s.word .module .prtIngressDiscard p 0) 1
      ∧ (t.port .module p).arrived = (s.port .module p).arrived.erase pkt ∧ t.module.inbox = s.module.inbox)
  ∧ (ready → fits → good → pkt.dst = s.myEid .module → opAssigned pkt.opcode = true → pkt.stream = 0 →
    Answers (.packetIngress p pkt) s fun t => t.module.inbox = s.module.inbox ++ [(p, k)]
      ∧ (t.port .module p).arrived = (s.port .module p).arrived.erase pkt)
  ∧ (∀ q room slot, ready → fits → good → pkt.stream = 0 → lookupRoute k p s = (.port q none slot false false, s) →
    featuresOk k (portFeat q s) = true → rattleArmed s = false → egressRoom q (poolOf k.opcode) (packetSlots k) s = some room →
    Answers (.packetIngress p pkt) s fun t =>
      smapGet (t.port .module q).egress [] (poolOf k.opcode) = smapGet (s.port .module q).egress [] (poolOf k.opcode)
        ++ [{ pkt := k, order := s.m.sw.nextOrder, shared := room }])
  ∧ (∀ ix w q room, s.m.sw.waiting[ix]? = some w → waitsBehind ix w s = false → w.multicast = false → w.targets = [q] →
    portUp .module q s = true → egressRoom q (poolOf w.pkt.opcode) (packetSlots w.pkt) s = some room →
    Answers (.bufferRoomFreed ix) s fun t => t.m.sw.waiting = s.m.sw.waiting.eraseIdx ix
      ∧ smapGet (t.port .module q).egress [] (poolOf w.pkt.opcode) = smapGet (s.port .module q).egress [] (poolOf w.pkt.opcode)
        ++ [{ pkt := w.pkt, order := s.m.sw.nextOrder, shared := room, transit := w.transit, entering := w.entering }])
  ∧ (∀ ix w, s.m.sw.waiting[ix]? = some w → waitsBehind ix w s = true → Answers (.bufferRoomFreed ix) s fun t => t = s)
  ∧ (∀ ix, s.m.sw.waiting.length ≤ ix → Answers (.bufferRoomFreed ix) s fun t => t = s)
  ∧ (∀ ix h room, s.m.sw.reordered[ix]? = some h → egressRoom h.port (poolOf h.pkt.opcode) (packetSlots h.pkt) s = some room →
    Answers (.reorderHoldExpire ix) s fun t => t.m.sw.reordered = s.m.sw.reordered.eraseIdx ix
      ∧ smapGet (t.port .module h.port).egress [] (poolOf h.pkt.opcode)
        = smapGet (s.port .module h.port).egress [] (poolOf h.pkt.opcode)
          ++ [{ pkt := h.pkt, order := s.m.sw.nextOrder, shared := room }])
  ∧ (∀ ix, s.m.sw.reordered.length ≤ ix → Answers (.reorderHoldExpire ix) s fun t => t = s)

/-- RESIDUE_SEND starts the copy whose turn it is and takes it from the residue queue and the store, or drops an entry whose
packet has gone. RESEQ_ARRIVE delivers the packet that a stream expects and raises the value by one, and holds one that is
ahead; RESEQ_GAP_TIMEOUT counts and releases what is held, the value then following the last. PACKET_AGE_OUT takes a packet
that ages from its queue and counts it by class. NOC_PLANE_DISABLE writes NOC.CTL, but not where it would leave no plane in
service. Rests on 05_switching_core.md: R151, R152, R165, R169, R170; 06_transport_ordering.md: R193; 09_collectives.md: R286. -/
def Obligations.SwitchStoresAndOrders : Prop := ∀ (p : Nat) (pkt : Packet) (s : State),
  (∀ ix id o e, (s.port .module p).residue[ix]? = some (id, o) → (s.m.sw.store.find? fun e => decide (e.id = id)) = some e →
    mayStart .module p e.pkt s = true →
    ((egressQueue p (poolOf e.pkt.opcode) s).any fun x => decide (x.order < o)) = false →
    residueBefore p (poolOf e.pkt.opcode) o s = false → Answers (.residueSend p ix) s fun t =>
      (t.port .module p).residue = (s.port .module p).residue.eraseIdx ix ∧ s.module.out.length < t.module.out.length
        ∧ (t.m.sw.store.all fun x => decide (x.id ≠ id) || !x.left.contains p) = true)
  ∧ (∀ ix id o, (s.port .module p).residue[ix]? = some (id, o) → (s.m.sw.store.find? fun e => decide (e.id = id)) = none →
    Answers (.residueSend p ix) s fun t => (t.port .module p).residue = (s.port .module p).residue.eraseIdx ix)
  ∧ (∀ ix, (s.port .module p).residue.length ≤ ix → Answers (.residueSend p ix) s fun t => t = s)
  ∧ (∀ st, (s.m.sw.toReseq.find? fun x => decide (x.1 = p) && decide (x.2.2 = pkt)) = none → s.isLeaf = true →
    reseqClass pkt = true → (smapGet s.m.sw.reseq [] p).find? (streamMatch pkt) = some st → p = localReseq →
    st.expected = some pkt.xseq → st.held = [] → Answers (.reseqArrive p pkt) s fun t =>
      t.module.inbox = s.module.inbox ++ [(p, pkt)]
        ∧ (smapGet t.m.sw.reseq [] p).head? = some { st with expected := some (pkt.xseq + 1) })
  ∧ (∀ st e, (s.m.sw.toReseq.find? fun x => decide (x.1 = p) && decide (x.2.2 = pkt)) = none → s.isLeaf = true →
    reseqClass pkt = true → (smapGet s.m.sw.reseq [] p).find? (streamMatch pkt) = some st →
    st.expected = some e → pkt.xseq ≠ e → seqAhead pkt.xseq e = true → (st.held.any fun x => decide (x.xseq = pkt.xseq)) = false →
    reseqCount (smapGet s.m.sw.reseq [] p) < 16384 → Answers (.reseqArrive p pkt) s fun t =>
      t.module.inbox = s.module.inbox
        ∧ (smapGet t.m.sw.reseq [] p).head? = some { st with held := st.held ++ [pkt] })
  ∧ (∀ src dst stream epoch st e, (smapGet s.m.sw.reseq [] localReseq).find? (fun x => decide (x.src = src) && decide (x.dst = dst)
      && decide (x.stream = stream) && decide (x.epoch = epoch)) = some st → st.expected = some e → st.held = [pkt] →
    Answers (.reseqGapTimeout localReseq src dst stream epoch) s fun t =>
      t.module.inbox = s.module.inbox ++ [(ownPort, pkt)]
        ∧ t.word .module .rteRsqTimeoutCnt 0 0 = countedWord (s.word .module .rteRsqTimeoutCnt 0 0) 1
        ∧ (smapGet t.m.sw.reseq [] localReseq).head? = some { st with held := [], expected := some (pkt.xseq + 1) })
  ∧ (∀ src dst stream epoch, smapGet s.m.sw.reseq [] p = [] → Answers (.reseqGapTimeout p src dst stream epoch) s fun t => t = s)
  ∧ (∀ e, ages pkt = true → ((egressQueue p (poolOf pkt.opcode) s).find? fun e => decide (e.pkt = pkt)) = some e →
    Answers (.packetAgeOut p pkt) s fun t =>
      egressQueue p (poolOf pkt.opcode) t = (egressQueue p (poolOf pkt.opcode) s).erase e
        ∧ t.word .module .mrnAgeCnt 0 0 = (if pkt.tc = 5 then countedWord (s.word .module .mrnAgeCnt 0 0) 1
          else s.word .module .mrnAgeCnt 0 0)
        ∧ t.word .module .xptAgeDiscardCnt 0 0 = (if pkt.tc = 5 then s.word .module .xptAgeDiscardCnt 0 0
          else countedWord (s.word .module .xptAgeDiscardCnt 0 0) 1))
  ∧ (ages pkt = false → Answers (.packetAgeOut p pkt) s fun t => t = s)
  ∧ (∀ path a b, rwlOpen .module path (regOffset .module .nocCtl 0 0) s = true →
    ((a || s.m.sw.nocFault.contains 0) && (b || s.m.sw.nocFault.contains 1)) = false →
    Answers (.nocPlaneDisable path a b) s fun t =>
      t.rdb .module Fld.nocCtlPlane0Dis = a ∧ t.rdb .module Fld.nocCtlPlane1Dis = b
        ∧ (a = true → t.rdb .module Fld.nocStatusPlane0Ok = false) ∧ (b = true → t.rdb .module Fld.nocStatusPlane1Ok = false))
  ∧ (∀ path a b, ((a || s.m.sw.nocFault.contains 0) && (b || s.m.sw.nocFault.contains 1)) = true →
    Answers (.nocPlaneDisable path a b) s fun t =>
      t.word .module .nocCtl 0 0 = s.word .module .nocCtl 0 0 ∧ t.word .module .nocStatus 0 0 = s.word .module .nocStatus 0 0)

/-- SEQ_PACKET_SEND sends an operation that may issue: it takes the next XSEQ of its space, which then rises by one; one that
waits changes nothing. SEQ_PACKET_RECEIVE of a packet that reaches its unit (and whose opcode is sequenced, TELEMETRY apart)
answers a bad check with CHECK_FAIL, counts and acknowledges a duplicate, counts a copy in progress or one out of the window,
all without a change of what the space expects where the check is bad or nothing is delivered, and begins the one expected
next. ACK_TIMER acknowledges deliveries that no acknowledgement has covered. NACK_RETRY_TIMER sends again what waits after
RETRY_LATER. Rests on 06_transport_ordering.md: R69, R182, R183, R185, R186, R187, R189, R192. -/
def Obligations.SequencedPacketsMove : Prop := ∀ (sd : Side) (port id : Nat) (p : Packet) (src dst : Eid) (stream : BitVec 4)
    (x : BitVec 24) (s : State),
  let sp := fun (u : State) => dstSpace sd p.src p.dst p.stream u
  let taken := opSequenced p.opcode = true ∧ p.opcode ≠ 0xA0 ∧ (accept sd port p s).1.isSome = true ∧ (s.xpt sd).finished = []
  (∀ o plane entry tag, (s.xpt sd).ops.find? (fun o => decide (o.id = id)) = some o → mayIssue sd o s = .send plane entry tag →
    (sd = .module ∨ (s.e.accs.any fun a => decide (a.id = id)) = false) → (s.xpt sd).finished = [] →
    Answers (.seqPacketSend sd id) s fun t =>
      (srcSpace sd o.pkt.dst o.pkt.stream t).next = (srcSpace sd o.pkt.dst o.pkt.stream s).next + 1
        ∧ (((t.xpt sd).ops.find? fun o => decide (o.id = id)).bind fun o => o.sent.map (·.xseq))
          = some (low24 (srcSpace sd o.pkt.dst o.pkt.stream s).next))
  ∧ (∀ o, (s.xpt sd).ops.find? (fun o => decide (o.id = id)) = some o → mayIssue sd o s = .wait →
    (sd = .module ∨ (s.e.accs.any fun a => decide (a.id = id)) = false) → (s.xpt sd).finished = [] →
    Answers (.seqPacketSend sd id) s fun t => t = s)
  ∧ (taken → pchkGood p = false → Answers (.seqPacketReceive sd port p) s fun t =>
    t = sendNack sd stCheckFail p (accept sd port p s).2 ∧ sp t = sp s)
  ∧ (taken → pchkGood p = true → classify sd p s = .duplicate → Answers (.seqPacketReceive sd port p) s fun t =>
    t.word sd .xptDupCnt 0 0 = countedWord (s.word sd .xptDupCnt 0 0) 1 ∧ (sp t).sinceAck = 0)
  ∧ (taken → pchkGood p = true → classify sd p s = .inProgress → Answers (.seqPacketReceive sd port p) s fun t =>
    t.word sd .xptDupCnt 0 0 = countedWord (s.word sd .xptDupCnt 0 0) 1 ∧ sp t = sp s)
  ∧ (taken → pchkGood p = true → classify sd p s = .outOfWindow → Answers (.seqPacketReceive sd port p) s fun t =>
    t.word sd .xptOowCnt 0 0 = countedWord (s.word sd .xptOowCnt 0 0) 1 ∧ sp t = sp s)
  ∧ (taken → pchkGood p = true → classify sd p s = .acceptable → p.xseq = low24 (sp s).expected → notServed sd port p s = false →
    Answers (.seqPacketReceive sd port p) s fun t =>
      (t.xpt sd).work = (s.xpt sd).work ++ [{ port := port, pkt := p }] ∧ sp t = sp s
        ∧ smapGet? (t.xpt sd).lastSeen p.src.toNat = some s.now)
  ∧ (opSequenced p.opcode = false → p.opcode ≠ 0xA0 → Answers (.seqPacketReceive sd port p) s fun t => t = s)
  ∧ ((dstSpace sd src dst stream s).sinceAck ≠ 0 → Answers (.ackTimer sd src dst stream) s fun t =>
    t = sendAck sd src dst stream s ∧ (dstSpace sd src dst stream t).sinceAck = 0
      ∧ (dstSpace sd src dst stream t).expected = (dstSpace sd src dst stream s).expected)
  ∧ ((dstSpace sd src dst stream s).sinceAck = 0 → Answers (.ackTimer sd src dst stream) s fun t => t = s)
  ∧ (∀ o t0, sentPacket sd dst stream x s = some (o, t0) → t0.retryLater = true →
    Answers (.nackRetryTimer sd dst stream x) s fun t => t.word sd .xptRetxCnt 0 0 = countedWord (s.word sd .xptRetxCnt 0 0) 1)
  ∧ (∀ o t0, sentPacket sd dst stream x s = some (o, t0) → t0.retryLater = false →
    Answers (.nackRetryTimer sd dst stream x) s fun t => t = s)

/-- XPT_ACK, XPT_NACK and XPT_RESTART with a bad check are discarded and counted. A good XPT_ACK completes a covered packet that
has no response and marks one that has a response as acknowledged; one from a group is ignored. A good XPT_NACK of nothing in
flight is counted as unmatched; RETRY_LATER of stream 0 leaves the packet to wait; another refusal completes it. A good
XPT_RESTART ahead of the value expected moves it there, with nothing held or recorded above. RETRANSMIT_TIMER sends a packet
again while it has retransmissions left and counts it. Rests on 06_transport_ordering.md: R69, R187, R188, R191, R192, R195,
R225; 16_faults_recovery.md: R524. -/
def Obligations.TransportControlIsTaken : Prop := ∀ (sd : Side) (port : Nat) (p : Packet) (s : State),
  let here := (accept sd port p s).1.isSome = true ∧ (s.xpt sd).finished = []
  (∀ c op, (c, op) ∈ [(Instr.xptAck sd port p, 0x7E), (Instr.xptNack sd port p, 0x7F), (Instr.xptRestart sd port p, 0x7C)] →
    p.opcode = op → here → pchkGood p = false → Answers c s fun t =>
      t.word sd .xptPchkDiscardCnt 0 0 = countedWord (s.word sd .xptPchkDiscardCnt 0 0) 1 ∧ t.xpt sd = s.xpt sd)
  ∧ (∀ o u, p.opcode = 0x7E → here → pchkGood p = true → isGroupEid p.src = false → (s.xpt sd).ops = [o] → o.sent = some u →
    o.pkt.dst = p.src → o.pkt.stream = p.stream → ackCovers p u.xseq = true → responseOp o.pkt.opcode = none →
    o.use = .none → Answers (.xptAck sd port p) s fun t =>
      (t.xpt sd).ops = [] ∧ planeSuspect sd p.src p.plane t = false)
  ∧ (∀ o u, p.opcode = 0x7E → here → pchkGood p = true → isGroupEid p.src = false → (s.xpt sd).ops = [o] → o.sent = some u →
    o.pkt.dst = p.src → o.pkt.stream = p.stream → ackCovers p u.xseq = true → (responseOp o.pkt.opcode).isSome = true →
    Answers (.xptAck sd port p) s fun t => (t.xpt sd).ops = [{ o with sent := some { u with acked := true } }])
  ∧ (p.opcode = 0x7E → here → pchkGood p = true → isGroupEid p.src = true →
    Answers (.xptAck sd port p) s fun t => t.xpt sd = s.xpt sd)
  ∧ (p.opcode = 0x7F → here → pchkGood p = true → (s.xpt sd).ops = [] → (s.xpt sd).acked = [] →
    Answers (.xptNack sd port p) s fun t => t.word sd .xptNackUnmatchedCnt 0 0 = countedWord (s.word sd .xptNackUnmatchedCnt 0 0) 1 ∧ (t.xpt sd).ops = [])
  ∧ (∀ o u, p.opcode = 0x7F → here → pchkGood p = true → (s.xpt sd).ops = [o] → o.sent = some u → o.pkt.dst = p.src →
    o.pkt.stream = p.stream → u.xseq = p.xseq → p.stream = 0 → p.status = stRetryLater → Answers (.xptNack sd port p) s fun t =>
      (t.xpt sd).ops = [{ o with sent := some { u with retryLater := true } }])
  ∧ (∀ o u, p.opcode = 0x7F → here → pchkGood p = true → (s.xpt sd).ops = [o] → o.sent = some u → o.pkt.dst = p.src →
    o.pkt.stream = p.stream → u.xseq = p.xseq → p.stream = 0 → p.status = stNoWindow → o.use = .none →
    Answers (.xptNack sd port p) s fun t => (t.xpt sd).ops = [])
  ∧ (p.opcode = 0x7C → here → pchkGood p = true → seqAfter p.xseq (low24 (dstSpace sd p.src p.dst p.stream s).expected) = true →
    Answers (.xptRestart sd port p) s fun t =>
      let y := dstSpace sd p.src p.dst p.stream t
      low24 y.expected = p.xseq ∧ y.above = [] ∧ y.held = [] ∧ y.epoch = p.epoch ∧ y.sinceAck = 0)
  ∧ (∀ o u x, sentPacket sd p.dst p.stream x s = some (o, u) → u.tries < u.retries → (s.xpt sd).finished = [] →
    (s.xpt sd).ops = [o] → Answers (.retransmitTimer sd p.dst p.stream x) s fun t =>
      t.word sd .xptRetxCnt 0 0 = countedWord (s.word sd .xptRetxCnt 0 0) 1
        ∧ (t.xpt sd).ops.map (fun y => y.sent.map (·.tries)) = [some (u.tries + 1)])
  ∧ (∀ x, (s.xpt sd).ops = [] → (srcSpace sd p.dst p.stream s).restart = none →
    Answers (.retransmitTimer sd p.dst p.stream x) s fun t => t = s)

/-- PLANE_UNUSABLE does nothing while the plane is usable for the destination; for an endpoint's ordered stream to an endpoint on
the lost plane, the other one being usable, the epoch advances by one and the barrier is counted. PLANE_SUSPECT_EXPIRE ends
the mark. HOME_PLANE_RETURN and PLANNED_BARRIER_DONE advance the epoch once nothing of the old one is incomplete, and
HOME_PLANE_RETURN only plans the barrier before. XPT_PEER_RESET clears the spaces shared with the EID, takes it off the dead
list and counts in PR_GEN; refused, it leaves the transport and is recorded. Rests on 06_transport_ordering.md: R183, R195,
R196, R198, R199, R212; 16_faults_recovery.md: R530. -/
def Obligations.PlanesAndSpacesChange : Prop := ∀ (sd : Side) (dst : Eid) (stream : BitVec 4) (plane : Bool) (s : State),
  (planeUsable sd dst plane s = true → Answers (.planeUnusable sd dst plane) s fun t => t = s)
  ∧ (∀ o u, sd = .endpoint → planeUsable sd dst plane s = false → planeUsable sd dst (!plane) s = true →
    (s.xpt sd).ops = [o] → o.sent = some u → o.pkt.dst = dst → o.pkt.stream = stream → stream ≠ 0 → isModuleEid dst = false → (s.xpt sd).finished = [] →
    (srcSpace sd dst stream s).restart = none → s.e.coll.descs = [] →
    packetPlane sd dst stream (srcSpace sd dst stream s).epoch false s = plane → Answers (.planeUnusable sd dst plane) s fun t =>
      (srcSpace sd dst stream t).epoch = (srcSpace sd dst stream s).epoch + 1
        ∧ t.word sd .xptBarrierCnt 0 0 = countedWord (s.word sd .xptBarrierCnt 0 0) 1)
  ∧ (planeSuspect sd dst plane s = true → (s.xpt sd).ops = [] → (s.xpt sd).finished = [] →
    Answers (.planeSuspectExpire sd dst plane) s fun t => planeSuspect sd dst plane t = false ∧ t = clearSuspect sd dst plane s)
  ∧ (planeSuspect sd dst plane s = false → Answers (.planeSuspectExpire sd dst plane) s fun t => t = s)
  ∧ (mayReturn sd dst stream s = true → inFlight sd dst stream s = [] → Answers (.homePlaneReturn sd dst stream) s fun t =>
    (srcSpace sd dst stream t).epoch = (srcSpace sd dst stream s).epoch + 1 ∧ (srcSpace sd dst stream t).planned = false
      ∧ t.word sd .xptBarrierCnt 0 0 = countedWord (s.word sd .xptBarrierCnt 0 0) 1)
  ∧ (mayReturn sd dst stream s = true → inFlight sd dst stream s ≠ [] → Answers (.homePlaneReturn sd dst stream) s fun t =>
    (srcSpace sd dst stream t).epoch = (srcSpace sd dst stream s).epoch ∧ (srcSpace sd dst stream t).planned = true)
  ∧ (mayReturn sd dst stream s = false → Answers (.homePlaneReturn sd dst stream) s fun t => t = s)
  ∧ ((srcSpace sd dst stream s).planned = true → inFlight sd dst stream s = [] →
    Answers (.plannedBarrierDone sd dst stream) s fun t => (srcSpace sd dst stream t).epoch = (srcSpace sd dst stream s).epoch + 1 ∧ (srcSpace sd dst stream t).planned = false)
  ∧ ((srcSpace sd dst stream s).planned = false → Answers (.plannedBarrierDone sd dst stream) s fun t => t = s)
  ∧ (peerResetRefused sd dst s = false → Answers (.xptPeerReset sd dst) s fun t =>
    srcSpace sd dst stream t = {} ∧ dst ∉ (t.unit sd).dead
      ∧ (t.xpt sd).replay = (s.xpt sd).replay.filter (fun r => decide (r.src ≠ dst))
      ∧ t.rd sd Fld.secStatusPrGen = (prGen sd s + 1) % 2 ^ 16)
  ∧ (peerResetRefused sd dst s = true → Answers (.xptPeerReset sd dst) s fun t =>
    t = regAccess sd (regOffset sd .xptPeerReset 0 0) dst.toNat s ∧ t.xpt sd = s.xpt sd)

/-- A request that has been accepted at a module and whose checks of R222 place it in the fast pool is served whole: LOAD,
LOAD_ACQ and DMA_READ_REQ change no memory and answer with the bytes at its address; STORE, STORE_FLAG and DMA_WRITE make
those bytes the payload and leave every other byte of the fast pool, DDR5 and the management window; REDUCE_STORE, ATOMIC_INT
and ATOMIC_FP write the combined bytes there and nowhere else, and an atomic's old value stands in its replay entry. An atomic
with no room in the replay cache is counted and changes no memory. Rests on 07_memory_operations.md: R213, R215, R216, R222,
R226, R232, R234, R244. -/
def Obligations.ModuleServesMemory : Prop := ∀ (port : Nat) (p q : Packet) (a : Nat) (rm : Bool) (s : State),
  let idle := s.module.xpt.finished = [] ∧ s.endpoint.xpt.finished = []
  let waits := (findWork .module p s).isSome = true
  let checked := checkRequest .module p s = (.ok q a .fast rm, s) ∧ q.opcode = p.opcode
  let whole := fun (l : List Byte) => (moduleWrite .fast (packetKey q) a l q.poison s).1 = stOk
  let holds := fun (t : State) (l : List Byte) => memRead t.m.pool.fast (a - fastBase) l.length = l
    ∧ (∀ b, b < a - fastBase ∨ a - fastBase + l.length ≤ b → memByte t.m.pool.fast b = memByte s.m.pool.fast b)
    ∧ t.m.pool.ddr = s.m.pool.ddr ∧ t.m.pool.mwin = s.m.pool.mwin
  let taken := replayTake .module p (replayFree .module p s)
  (∀ c op l, (c, op) ∈ [(Instr.load .module port p, 0x60), (Instr.loadAcq .module port p, 0x61), (Instr.dmaReadReq .module port p, 0x81)] →
    p.opcode = op → idle → waits → checked → moduleRead .fast (packetKey q) a (requestBytes q) s = .ok l → Answers c s fun t =>
      t = sendResponse .module q stOk l (if loadCacheable q rm then 2 ^ 29 else 0) (deliver .module q (startWork .module p s))
        ∧ t.m.pool = s.m.pool)
  ∧ (∀ c op, (c, op) ∈ [(Instr.store .module port p, 0x62), (Instr.storeFlag .module port p, 0x63), (Instr.dmaWrite .module port p, 0x80)] →
    p.opcode = op → idle → waits → checked → whole q.payload → Answers c s fun t => holds t q.payload)
  ∧ (∀ l, p.opcode = 0x66 → idle → waits → checked → moduleRead .fast (packetKey q) a q.payload.length s = .ok l →
    (moduleWrite .fast (packetKey q) a (reduceBytesInto (opField q) (typeField q) (l.length + 1) l q.payload) false s).1 = stOk →
    Answers (.reduceStore .module port p) s fun t =>
      holds t (reduceBytesInto (opField q) (typeField q) (l.length + 1) l q.payload))
  ∧ (∀ c op l v, (c, op) ∈ [(Instr.atomicInt .module port p, 0x64), (Instr.atomicFp .module port p, 0x65)] →
    p.opcode = op → idle → waits → replayRoom .module p (replayFree .module p s) = true →
    checkRequest .module p taken = (.ok p a .fast rm, taken) → moduleRead .fast (packetKey p) a (atomicSize p) s = .ok l →
    (atomicResult p l).1 = some v → (moduleWrite .fast (packetKey p) a v false s).1 = stOk → Answers c s fun t =>
      holds t v ∧ ((t.module.xpt.replay.find? (replayMatch p)).map fun r => (r.status, r.old)) = some (some stOk, l))
  ∧ (∀ c op, (c, op) ∈ [(Instr.atomicInt .module port p, 0x64), (Instr.atomicFp .module port p, 0x65)] →
    p.opcode = op → idle → waits → replayRoom .module p (replayFree .module p s) = false → Answers c s fun t =>
      t.word .module .memReplayFullCnt 0 0 = countedWord (s.word .module .memReplayFullCnt 0 0) 1 ∧ t.m.pool = s.m.pool)

/-- A request that has been accepted at the endpoint block and passed the checks of R222 begins one access: a load or DMA read
begins a read of its bytes on MQ, a store or DMA write begins a write of them, and an atomic or REDUCE_STORE becomes a job of
the unit with its operation, address and operand. A request of either unit that the checks refuse is delivered and answered
with the status, and a refused DMA write keeps it for duplicates. Rests on 07_memory_operations.md: R213, R222, R237;
11_endpoint_block.md: R360, R367, R368. -/
def Obligations.EndpointServesMemory : Prop := ∀ (port : Nat) (p q : Packet) (a : Nat) (rm : Bool) (s : State),
  let idle := s.module.xpt.finished = [] ∧ s.endpoint.xpt.finished = []
  let waits := (findWork .endpoint p s).isSome = true
  let checked := checkRequest .endpoint p s = (.ok q a .ddr rm, s) ∧ q.opcode = p.opcode
  let taken := replayTake .endpoint p (replayFree .endpoint p s)
  (∀ c op, (c, op) ∈ [(Instr.load .endpoint port p, 0x60), (Instr.loadAcq .endpoint port p, 0x61),
      (Instr.dmaReadReq .endpoint port p, 0x81)] →
    p.opcode = op → idle → waits → checked → Answers c s fun t =>
      t.e.txns = s.e.txns ++ [{ id := s.e.nextTxn, cont := .load port q (loadCacheable q rm) false
                                answers := (pieces a (requestBytes q)).map fun _ => none }]
        ∧ t.e.nextTxn = s.e.nextTxn + 1)
  ∧ (∀ c op, (c, op) ∈ [(Instr.store .endpoint port p, 0x62), (Instr.storeFlag .endpoint port p, 0x63),
      (Instr.dmaWrite .endpoint port p, 0x80)] →
    p.opcode = op → idle → waits → checked → Answers c s fun t =>
      t.e.txns = s.e.txns ++ [{ id := s.e.nextTxn, cont := .store port q
                                answers := (pieces a q.payload.length).map fun _ => none }]
        ∧ t.e.nextTxn = s.e.nextTxn + 1)
  ∧ (p.opcode = 0x66 → idle → waits → checked → lockLine (a / 64) s = none → Answers (.reduceStore .endpoint port p) s fun t =>
    t.e.jobs = s.e.jobs ++ [{ id := s.e.nextJob, use := .packet port q, addr := a, op := opField q, type := typeField q
                              data := q.payload }]
      ∧ (lockLine (a / 64) t).map (·.waiting) = some [s.e.nextJob])
  ∧ (∀ c op, (c, op) ∈ [(Instr.atomicInt .endpoint port p, 0x64), (Instr.atomicFp .endpoint port p, 0x65)] →
    p.opcode = op → idle → waits → replayRoom .endpoint p (replayFree .endpoint p s) = true →
    checkRequest .endpoint p taken = (.ok q a .ddr rm, taken) → q.opcode = p.opcode → lockLine (a / 64) s = none → Answers c s fun t =>
      t.e.jobs = s.e.jobs ++ [{ id := s.e.nextJob, use := .packet port q, addr := a, op := opField q, type := 0
                                data := q.payload }]
        ∧ (t.endpoint.xpt.replay.any (replayMatch p)) = true)
  ∧ (∀ (sd : Side) c op st u, (c, op) ∈ [(Instr.load sd port p, 0x60), (Instr.loadAcq sd port p, 0x61), (Instr.store sd port p, 0x62),
      (Instr.storeFlag sd port p, 0x63), (Instr.reduceStore sd port p, 0x66), (Instr.dmaReadReq sd port p, 0x81)] →
    p.opcode = op → idle → (findWork sd p s).isSome = true → checkRequest sd p s = (.bad st, u) → st ≠ stCheckFail →
    Answers c s fun t => t = sendResponse sd p st [] 0 (deliver sd p u) ∧ t.m.pool = s.m.pool)
  ∧ (∀ (sd : Side) st u, p.opcode = 0x80 → idle → (findWork sd p s).isSome = true → checkRequest sd p s = (.bad st, u) →
    st ≠ stCheckFail → st ≠ stOk → Answers (.dmaWrite sd port p) s fun t =>
      t = deliver sd p (refuseDma sd p st u) ∧ t.m.pool = s.m.pool)

/-- LOAD_DATA, STORE_ACK, ATOMIC_RESULT, REDUCE_ACK and DMA_READ_DATA that reach their unit complete the request of their TAG: it
leaves the transport with the status, the payload where that is OK, and CHECK_FAIL where the check is bad; a response of no
request is counted. LOAD_TIMEOUT ends the load of a TAG with TIMEOUT, or TARGET_DEAD where its destination is known dead.
REPLAY_ENTRY_EXPIRE frees the finished entry it names, and RM_LINE_EXPIRE drops a read-mostly line. Rests on
06_transport_ordering.md: R69, R188, R225; 07_memory_operations.md: R217, R228, R233, R237. -/
def Obligations.ResponsesCompleteRequests : Prop := ∀ (sd : Side) (port : Nat) (p : Packet) (o : SrcOp) (u : Sent) (s : State),
  let kinds := [(Instr.loadData sd port p, 0x70), (Instr.storeAck sd port p, 0x71), (Instr.atomicResult sd port p, 0x72),
    (Instr.reduceAck sd port p, 0x73), (Instr.dmaReadData sd port p, 0x82)]
  let one := (s.xpt sd).ops = [o] ∧ o.sent = some u ∧ (s.xpt sd).finished = [] ∧ staysFinished { op := o, status := stOk, outcome := 0 } = true
  let answered := (accept sd port p s).1.isSome = true ∧ u.tag = p.tag.toNat ∧ responseOp o.pkt.opcode = some p.opcode ∧ o.pkt.dst = p.src
  (∀ c op, (c, op) ∈ kinds → p.opcode = op → one → answered → isGroupEid o.pkt.dst = false → pchkGood p = true → p.enc = false →
    p.status = stOk → Answers c s fun t => (t.xpt sd).ops = []
      ∧ (t.xpt sd).finished.map (fun f => (f.op, f.status, f.outcome, f.data)) = [(o, stOk, outApplied, p.payload)])
  ∧ (∀ c op, (c, op) ∈ kinds → p.opcode = op → one → answered → pchkGood p = false → Answers c s fun t =>
    (t.xpt sd).ops = [] ∧ (t.xpt sd).finished.map (fun f => (f.status, f.data)) = [(stCheckFail, [])])
  ∧ (∀ c op, (c, op) ∈ kinds → p.opcode = op → (accept sd port p s).1.isSome = true → (s.xpt sd).ops = [] → (s.xpt sd).finished = [] →
    Answers c s fun t => t.word sd .xptNackUnmatchedCnt 0 0 = countedWord (s.word sd .xptNackUnmatchedCnt 0 0) 1)
  ∧ (one → (o.pkt.opcode = 0x60 ∨ o.pkt.opcode = 0x61) → o.pkt.stream = 0 → Answers (.loadTimeout sd u.tag) s fun t =>
    (t.xpt sd).ops = [] ∧ (t.xpt sd).finished.map (fun f => f.status)
      = [if (s.unit sd).dead.contains o.pkt.dst then stTargetDead else stTimeout])
  ∧ (∀ tag, (s.xpt sd).ops = [] → Answers (.loadTimeout sd tag) s fun t => t = s)
  ∧ (∀ src stream x, Answers (.replayEntryExpire sd src stream x) s fun t =>
    (t.xpt sd).replay = (s.xpt sd).replay.filter (fun r =>
        !(decide (r.src = src) && decide (r.stream = stream) && decide (r.xseq = x) && r.status.isSome))
      ∧ OnlyChanges [.unit sd .xpt] s t)
  ∧ (∀ gfa c, cached (gfaLine gfa) s = some c → c.readMostly = true → Answers (.rmLineExpire gfa) s fun t =>
    cached (gfaLine gfa) t = none ∧ OnlyChanges [.ep .cache] s t)
  ∧ (∀ gfa c, cached (gfaLine gfa) s = some c → c.readMostly = false → Answers (.rmLineExpire gfa) s fun t => t = s)

/-- A TC2 request does nothing at a unit that is no leaf. One with a bad check or one that the checks of R247 refuse gets GO with
the status. RD_SHARED of an unblocked line that no entry names gets DATA with grant E and makes the requester its holder;
RD_OWN gets DATA and GO with grant M; UPGRADE by the one sharer gets GO with grant M; each leaves the line blocked until its
ACK. WB of the holder writes the line and frees the entry, that of another is stale; EVICT takes the slot from the entry. ACK
ends the transaction it names, and LINE_UNBLOCK starts a request that waits for a line not blocked. Rests on
08_coherent_pool.md: R246, R247, R252, R254, R257, R258, R271; 02_identities_addresses.md: R69. -/
def Obligations.HomeServesCoherentRequests : Prop := ∀ (port : Nat) (p : Packet) (s : State),
  let u := (accept .module port p s).2
  let came := s.isLeaf = true ∧ (accept .module port p s).1.isSome = true ∧ s.module.xpt.finished = []
  let requests := [(Instr.rdShared port p, 0x20), (Instr.rdOwn port p, 0x21), (Instr.upgrade port p, 0x22), (Instr.wb port p, 0x23), (Instr.evict port p, 0x24)]
  let slot := eidSlot p.src
  let line := p.offset.toNat / 64
  let use := HomeUse.request port slot p
  let ready := came ∧ pchkGood p = true ∧ checkTc2 p u = (none, u) ∧ homeWaits use u.m.dir.queue u = false
  let mine := ready ∧ inScope port slot p u = true
  let x : HomeTxn := { id := u.m.dir.nextTxn, use := use, lines := [line], tseq := p.xseq }
  let opened := onDir (fun d => { d with nextTxn := d.nextTxn + 1, txns := d.txns ++ [x] }) u
  (∀ c op, (c, op) ∈ requests → s.isLeaf = false ∨ p.opcode ≠ op → Answers c s fun t => t = s)
  ∧ (∀ c op, (c, op) ∈ requests → p.opcode = op → came → pchkGood p = false → Answers c s fun t =>
    t = sendGo p.src p.xseq p.offset.toNat 0 stCheckFail u)
  ∧ (∀ c op st v, (c, op) ∈ requests → p.opcode = op → came → pchkGood p = true → checkTc2 p u = (some st, v) → Answers c s fun t =>
    t = sendGo p.src p.xseq p.offset.toNat 0 st v ∧ t.m.dir = s.m.dir ∧ t.m.pool = s.m.pool)
  ∧ (∀ d, p.opcode = 0x20 → mine → dirEntry line u = none → setFull line u = false → homeRead line u = some d →
    Answers (.rdShared port p) s fun t =>
      t = putTxn { x with granted := some 3 } (sendData2 p.src p.xseq line 3 stOk d (putEntry line (some (exclEntry slot)) opened))
        ∧ (dirEntry line t).map (fun e => (e.state, e.fo, e.ptrs)) = some (2, some slot, []) ∧ t.m.pool = s.m.pool)
  ∧ (∀ d, p.opcode = 0x21 → mine → dirEntry line u = none → setFull line u = false → homeRead line u = some d →
    Answers (.rdOwn port p) s fun t =>
      t = putTxn { x with granted := some 4 } (sendGo p.src p.xseq (64 * line) 4 stOk
        (sendData2 p.src p.xseq line 4 stOk d (putEntry line (some (exclEntry slot)) opened)))
        ∧ (dirEntry line t).map (fun e => (e.state, e.fo, e.ptrs)) = some (2, some slot, []) ∧ t.m.pool = s.m.pool)
  ∧ (∀ e, p.opcode = 0x22 → mine → dirEntry line u = some e → e.state = 1 → e.fo = none → e.ptrs = [slot] → e.ovf = false →
    Answers (.upgrade port p) s fun t =>
      t = putTxn { x with granted := some 4 } (sendGo p.src p.xseq (64 * line) 4 stOk (putEntry line (some (exclEntry slot)) opened))
        ∧ (dirEntry line t).map (fun e => (e.state, e.fo, e.ptrs)) = some (2, some slot, []))
  ∧ (∀ e, p.opcode = 0x23 → ready → u.m.dir.stale.contains (homeTile (dirTiles u) line, slot, p.xseq) = false →
    dirEntry line u = some e → 2 ≤ e.state → e.fo = some slot → e.ptrs = [] → e.ovf = false → Answers (.wb port p) s fun t =>
      t = sendCmp p.src p.xseq (64 * line) false (putEntry line none (homeWrite line p.payload u)))
  ∧ (∀ e, p.opcode = 0x23 → ready → u.m.dir.stale.contains (homeTile (dirTiles u) line, slot, p.xseq) = false →
    dirEntry line u = some e → e.fo ≠ some slot → Answers (.wb port p) s fun t =>
      t = sendCmp p.src p.xseq (64 * line) true u ∧ t.m.pool = s.m.pool)
  ∧ (p.opcode = 0x23 → ready → u.m.dir.stale.contains (homeTile (dirTiles u) line, slot, p.xseq) = true →
    Answers (.wb port p) s fun t => t.m.pool = s.m.pool
      ∧ t.m.dir.stale = s.m.dir.stale.erase (homeTile (dirTiles u) line, slot, p.xseq)
      ∧ t.word .module .dirStaleWbCnt 0 0 = countedWord (s.word .module .dirStaleWbCnt 0 0) 1)
  ∧ (∀ e, p.opcode = 0x24 → ready → dirEntry line u = some e → Answers (.evict port p) s fun t =>
    t = sendCmp p.src p.xseq (64 * line) false (putEntry line (dropSlot slot e) u) ∧ t.m.pool = s.m.pool)
  ∧ (p.opcode = 0x43 → came → pchkGood p = false → Answers (.ack port p) s fun t => t = dropBadCheck .module u)
  ∧ (∀ y, p.opcode = 0x43 → came → pchkGood p = true → ackedTxn p u = some y → Answers (.ack port p) s fun t =>
    t = endTxn y.id u ∧ t.m.dir.txns = s.m.dir.txns.filter fun z => decide (z.id ≠ y.id))
  ∧ (p.opcode = 0x43 → came → pchkGood p = true → ackedTxn p u = none → Answers (.ack port p) s fun t => t = u)
  ∧ (∀ l, lineBlocked l s = true → Answers (.lineUnblock l) s fun t => t = s)
  ∧ (∀ l q r, lineBlocked l s = false → s.m.dir.clearing = [] → s.module.xpt.finished = [] → q.opcode = 0x24 →
    nextFor l s [] s.m.dir.queue = some (.request port r q) → Answers (.lineUnblock l) s fun t =>
      t = takeEvict r q (onDir (fun d => { d with queue := d.queue.erase (.request port r q) }) s))

/-- A SNP_RSP of no transaction writes the line it carries and records a stale write-back as it says; the one forwarded answer of
RD_SHARED makes the requester the holder of a shared line. The answers of a flush take their slot from it, the last empties
the directory under the new number of tiles. RECOVER_START begins a slot's recovery, and RECOVER_DONE ends it, with GO
NO_WINDOW or CHECK_FAIL where the pool is off or the check fails. A scan takes the lost slot out of an entry and poisons the
line it owned. DIRECTORY_FLUSH and a region's clear wait for what they send for. Rests on 08_coherent_pool.md: R251, R254,
R258, R262, R263, R264, R266, R271. -/
def Obligations.HomeSnoopsAndRecovers : Prop := ∀ (port : Nat) (p : Packet) (s : State),
  let u := (accept .module port p s).2
  let came := s.isLeaf = true ∧ (accept .module port p s).1.isSome = true ∧ s.module.xpt.finished = []
  let slot := eidSlot p.src
  let line := p.offset.toNat / 64
  let rest := fun (k l : Nat) (e : DirEntry) (t : State) =>
    (dirEntry l t).map (fun e => (e.state, e.ovf, e.fo, e.ptrs))
      = (if (holders e).contains k then dropSlot k e else some e).map (fun e => (e.state, e.ovf, e.fo, e.ptrs))
  (p.opcode = 0x40 → came → pchkGood p = false → Answers (.snpRsp port p) s fun t => t = dropBadCheck .module u)
  ∧ (p.opcode = 0x40 → came → pchkGood p = true → s.m.dir.flush = none → s.m.dir.txns = [] → Answers (.snpRsp port p) s fun t =>
    t.m.dir.stale = (if p.opx.getLsbD 5 then
        s.m.dir.stale ++ [(homeTile (dirTiles s) line, slot, (p.opx >>> 8).setWidth 24)] else s.m.dir.stale)
      ∧ t.m.pool = if p.opx.getLsbD 3 then (homeWrite line p.payload u).m.pool else s.m.pool)
  ∧ (∀ q r h e x y, p.opcode = 0x40 → came → pchkGood p = true → s.m.dir.flush = none → p.opx = 0x11 → s.m.dir.txns = [x] →
    x = { id := 0, use := .request port r q, lines := [line], tseq := p.xseq, snoops := [y] } →
    y = { slot := slot, pkt := { q with offset := p.offset }, forward := true } → q.opcode = 0x20 → q.offset = p.offset → h = slot → h ≠ r →
    dirEntry line u = some e → e.state = 2 → e.fo = some h → e.ptrs = [] → e.ovf = false → Answers (.snpRsp port p) s fun t =>
      (dirEntry line t).map (fun e => (e.state, e.fo, e.ptrs)) = some (1, some r, [h])
        ∧ t.m.dir.txns = [{ x with snoops := [{ y with done := true }], forwarded := true, foState := 1, granted := some 2 }]
        ∧ t.m.pool = s.m.pool)
  ∧ (∀ f, p.opcode = 0x40 → came → pchkGood p = true → s.m.dir.flush = some f → f.tseq = p.xseq → f.waiting.contains slot = true →
    (f.waiting.filter (· ≠ slot)) ≠ [] → Answers (.snpRsp port p) s fun t =>
      t.m.dir = { s.m.dir with flush := some { f with waiting := f.waiting.filter (· ≠ slot) } })
  ∧ (∀ f, p.opcode = 0x40 → came → pchkGood p = true → s.m.dir.flush = some f → f.tseq = p.xseq → f.waiting = [slot] →
    f.oneSet = none → f.tiles < 4096 → s.m.dir.queue = [] → s.m.tile.change = none → Answers (.snpRsp port p) s fun t =>
      t.m.dir = { s.m.dir with flush := none, entries := [] } ∧ t.rd .module Fld.dirStatusTiles = f.tiles
        ∧ t.rdb .module Fld.dirStatusFlushing = false)
  ∧ (p.opcode = 0x25 → came → pchkGood p = true → u.rdb .module Fld.dirPoolCtlEn = false → Answers (.recoverStart port p) s fun t =>
    t = sendGo p.src p.xseq p.offset.toNat 0 stNoWindow u)
  ∧ (p.opcode = 0x25 → came → pchkGood p = false → Answers (.recoverStart port p) s fun t => t = dropBadCheck .module u)
  ∧ (p.opcode = 0x25 → came → pchkGood p = true → u.rdb .module Fld.dirPoolCtlEn = true → fromSlot p u = true → s.m.dir.txns = [] →
    (s.m.dir.recovery.any fun r => decide (r.slot = slot)) = false → Answers (.recoverStart port p) s fun t =>
      t.m.dir.recovery = s.m.dir.recovery ++ [{ slot := slot, startedAt := s.now }] ∧ t.m.dir.entries = s.m.dir.entries
        ∧ t.m.dir.tseq = s.m.dir.tseq + 1 ∧ t.word .module .dirRecoverCnt 0 0 = countedWord (s.word .module .dirRecoverCnt 0 0) 1)
  ∧ (p.opcode = 0x26 → came → pchkGood p = false → Answers (.recoverDone port p) s fun t =>
    t = sendGo p.src p.xseq p.offset.toNat 0 stCheckFail u)
  ∧ (∀ l e, p.opcode = 0x26 → came → pchkGood p = true → fromSlot p u = true → s.m.dir.entries = [(l, e)] →
    Answers (.recoverDone port p) s fun t => t.m.dir.recovery = (s.m.dir.recovery.filter fun r => decide (r.slot ≠ slot))
      ∧ t.m.dir.owed = s.m.dir.owed.filter (· ≠ slot) ∧ rest slot l e t
      ∧ (2 ≤ e.state ∧ e.fo = some slot → poisoned (lineAddr l u / 64) t = true))
  ∧ (∀ k, s.m.dir.scanning.contains k = false → Answers (.directoryScanEnd k) s fun t => t = s)
  ∧ (∀ k l e, s.m.dir.scanning.contains k = true → s.m.dir.entries = [(l, e)] → s.m.dir.queue = [] → s.module.xpt.finished = [] →
    Answers (.directoryScanEnd k) s fun t => t.m.dir.scanning = s.m.dir.scanning.filter (· ≠ k) ∧ rest k l e t
      ∧ (2 ≤ e.state ∧ e.fo = some k → poisoned (lineAddr l s / 64) t = true))
  ∧ (∀ tiles, s.isLeaf = false ∨ s.m.dir.flush.isSome = true → Answers (.directoryFlush tiles) s fun t => t = s)
  ∧ (∀ tiles, s.isLeaf = true → s.m.dir.flush = none → broadcastSlots s ≠ [] → Answers (.directoryFlush tiles) s fun t =>
    t.m.dir = { s.m.dir with tseq := s.m.dir.tseq + 1
                             flush := some { waiting := broadcastSlots s, tseq := s.m.dir.tseq, tiles := tiles } }
      ∧ t.rdb .module Fld.dirStatusFlushing = true)
  ∧ (∀ path n valid coherent, rwlOpen .module path (regOffset .module .dirRegion n 0) s = true → s.isLeaf = true → n < 64 →
    s.m.dir.entries = [] → s.m.dir.clearing = [] → s.module.xpt.finished = [] → Answers (.dirRegionClear path n valid coherent) s fun t =>
      t.m.dir = s.m.dir ∧ t.rdb .module Fld.dirRegionValid n = (s.rdb .module Fld.dirRegionValid n && !valid)
        ∧ t.rdb .module Fld.dirRegionCoherent n = (s.rdb .module Fld.dirRegionCoherent n && !coherent))
  ∧ (∀ path n valid coherent, rwlOpen .module path (regOffset .module .dirRegion n 0) s = false →
    Answers (.dirRegionClear path n valid coherent) s fun t =>
      t.word .module .dirRegion n 0 = s.word .module .dirRegion n 0 ∧ t.m.dir = s.m.dir)

/-- A snoop of a line that the block neither holds nor writes back is answered with I. SNP_SHARED takes a line in M to S and
forwards it, SNP_INV and BINV drop it, SNP_CUR leaves it in M, where the accelerator holds no copy; where it holds one that
the snoop lowers, the block asks it on SQ first. SNP_FLUSH sends every dirty line it names home. DATA, and GO and DATA where
the request needs both, fill the line in the granted state and send ACK; CMP empties the write-back buffer. COH_TIMEOUT begins
coherence recovery and aborts the requests to the leaf. A mirror store that failed marks its range stale, and a slow snoop is
logged. Rests on 08_coherent_pool.md: R249, R253, R256, R262, R263, R267; 11_endpoint_block.md: R372, R374, R391;
02_identities_addresses.md: R69. -/
def Obligations.HolderAnswersSnoops : Prop := ∀ (port : Nat) (p : Packet) (s : State),
  let u := (accept .endpoint port p s).2
  let came := (accept .endpoint port p s).1.isSome = true ∧ s.endpoint.xpt.finished = [] ∧ s.module.xpt.finished = []
  let snoops := [(Instr.snpShared port p, 0x30), (Instr.snpInv port p, 0x31), (Instr.snpCur port p, 0x32), (Instr.binv port p, 0x33)]
  let line := snoopLine p u
  let buffered := s.e.coh.any fun c => decide (c.op = 0x23) && decide (c.line = line)
  let other := p.opx.setWidth 20 ≠ u.myEid .endpoint
  let held : State → Option (Nat × List Byte) := fun (t : State) => (cached line t).map fun c => (c.state, c.data)
  let request := cohReq (tc2Leaf p u) p.xseq u
  (∀ c op, (c, op) ∈ snoops → p.opcode ≠ op → Answers c s fun t => t = s)
  ∧ (∀ c op, (c, op) ∈ snoops → p.opcode = op → came → pchkGood p = false → Answers c s fun t => t = dropBadCheck .endpoint u)
  ∧ (∀ c op, (c, op) ∈ snoops → p.opcode = op → came → pchkGood p = true → cached line u = none → buffered = false →
    Answers c s fun t => t = sendSnpRsp p 0 [] u ∧ t.e.cache = s.e.cache ∧ t.e.coh = s.e.coh)
  ∧ (∀ (c : CacheLine), p.opcode = 0x30 → came → pchkGood p = true → cached line u = some c → other → buffered = false → c.readMostly = false → c.accel = 0 →
    c.state = 4 → p.opx.getLsbD 21 = false → p.opx.getLsbD 22 = false → Answers (.snpShared port p) s fun t => held t = some (1, c.data)
      ∧ t.e.coh = s.e.coh)
  ∧ (∀ k op c, (k, op) ∈ [(Instr.snpInv port p, 0x31), (Instr.binv port p, 0x33)] → p.opcode = op → came → pchkGood p = true →
    cached line u = some c → other → buffered = false → c.readMostly = false → c.accel = 0 → cohRange (64 * line) u = none →
    Answers k s fun t => held t = none ∧ t.e.cache = (s.e.cache.filter fun c => decide (c.line ≠ line)) ∧ t.e.coh = s.e.coh)
  ∧ (∀ (c : CacheLine), p.opcode = 0x32 → came → pchkGood p = true → cached line u = some c → other → buffered = false → c.readMostly = false → c.accel = 0 →
    c.state = 4 → cohRange (64 * line) u = none → Answers (.snpCur port p) s fun t => held t = some (4, c.data) ∧ t.e.coh = s.e.coh)
  ∧ (∀ k op c sop, (k, op) ∈ snoops → p.opcode = op → came → pchkGood p = true → cached line u = some c → other → sqNeeded p c = some sop →
    s.e.snoops = [] → Answers k s fun t => t.e.cache = s.e.cache
      ∧ t.e.snoops = [{ stag := 0, sop := sop, line := c.line, use := .leaf port p, sentAt := s.now }])
  ∧ (p.opcode = 0x34 → came → pchkGood p = true → isRecoveryFlush p = false → (u.e.cache.filter (flushMatches p u)) = [] →
    Answers (.snpFlush port p) s fun t => t = sendSnpRsp p 0 [] u)
  ∧ (∀ c, p.opcode = 0x34 → came → pchkGood p = true → isRecoveryFlush p = false → s.e.cache = [c] → flushMatches p u c = true → c.accel = 0 →
    c.state = 4 → cohRange (64 * c.line) u = none → Answers (.snpFlush port p) s fun t => t.e.cache = []
      ∧ t.e.coh.map (fun x => (x.op, x.line, x.wb)) = s.e.coh.map (fun x => (x.op, x.line, x.wb)) ++ [(0x23, c.line, c.data)])
  ∧ (∀ k op, (k, op) ∈ [(Instr.go port p, 0x41), (Instr.data port p, 0x50)] → p.opcode = op → came → request = none → p.status ≠ stNoWindow →
    Answers k s fun t => t = u)
  ∧ (∀ c, p.opcode = 0x50 → came → request = some c → c.aborted = false → c.op = 0x20 → pchkGood p = true → receivedStatus p.status = stOk →
    p.opx.toNat % 8 ≠ 6 → s.e.accs = [] → Answers (.data port p) s fun t =>
      (cached c.line t).map (fun x => (x.state, x.data)) = some (p.opx.toNat % 8, fitTo 64 p.payload)
        ∧ t.e.coh = s.e.coh.filter fun x => decide ((x.leaf, x.tseq) ≠ (c.leaf, c.tseq)))
  ∧ (∀ c d, p.opcode = 0x41 → came → request = some c → c.aborted = false → c.op = 0x21 → c.data = some (4, stOk, d) → pchkGood p = true →
    receivedStatus p.status = stOk → p.opx.toNat % 8 = 4 → s.e.accs = [] → Answers (.go port p) s fun t =>
      (cached c.line t).map (fun x => (x.state, x.data)) = some (4, fitTo 64 d)
        ∧ t.e.coh = s.e.coh.filter fun x => decide ((x.leaf, x.tseq) ≠ (c.leaf, c.tseq)))
  ∧ (∀ c, p.opcode = 0x42 → came → cohReq p.src p.xseq u = some c → c.op = 0x23 → s.e.accs = [] → Answers (.cmp port p) s fun t =>
    t = dropCoh c u ∧ t.e.coh = s.e.coh.filter fun x => decide ((x.leaf, x.tseq) ≠ (c.leaf, c.tseq)))
  ∧ (p.opcode = 0x42 → came → cohReq p.src p.xseq u = none → Answers (.cmp port p) s fun t => t = u)
  ∧ (∀ leaf tseq, cohReq leaf tseq s = none → Answers (.cohTimeout leaf tseq) s fun t => t = s)
  ∧ (∀ leaf tseq c, cohReq leaf tseq s = some c → c.aborted = false → s.e.recovery = [] → s.e.accs = [] → s.endpoint.xpt.finished = [] →
    Answers (.cohTimeout leaf tseq) s fun t => t.e.recovery.map (·.leaf) = [leaf]
      ∧ (t.word .endpoint .fxeIntStatus 0 0).getLsbD 6 = true ∧ t.e.cache = s.e.cache
      ∧ (∀ x ∈ t.e.coh, x.leaf = leaf → x.op = 0x20 ∨ x.op = 0x21 ∨ x.op = 0x22 → x.aborted = true))
  ∧ (s.e.mirrored = [] → Answers .mirrorStoreDone s fun t => t = s)
  ∧ (∀ r st l, s.e.mirrored = (r, st) :: l → Answers .mirrorStoreDone s fun t => t.e.mirrored = l
    ∧ (st = stOk → OnlyChanges [.ep .mirrored] s t)
    ∧ (st ≠ stOk → t.rdb .endpoint Fld.fxeCohMirrorStale r = true ∧ (t.word .endpoint .fxeIntStatus 0 0).getLsbD 6 = true))
  ∧ (∀ stag, s.e.snoops.find? (fun x => decide (x.stag = stag)) = none → Answers (.snoopSlow stag) s fun t => t = s)
  ∧ (∀ stag x, s.e.snoops.find? (fun x => decide (x.stag = stag)) = some x → Answers (.snoopSlow stag) s fun t => t.e = s.e
    ∧ t = logEvent .endpoint { code := 0xC4, severity := 1, block := 0x7F, arg0 := stag, arg1 := 64 * x.line } s)

/-- COLL_DESCRIPTOR makes the next descriptor active with its chunks, or ends them with the failure it finds; one with CANCEL is
left to COLL_CANCEL, which ends the chunks of its step with ABORTED. TIMED_START lets a descriptor start. CHUNK_SEND launches
the next chunk of a plane while the window has room, and reads its contribution; a launch that may not be made ends it.
PROBE_TIMER asks for a result, COLL_TIMEOUT and SRC_READ_FAIL end a chunk with TIMEOUT and with the read's status. COLL_RESULT
records and writes a fragment, COLL_ABORT ends the chunk it names, and COLL_RESEND and REFUSAL_BACKOFF read the contribution
again, a refusal being counted first. Rests on 09_collectives.md: R284, R288, R289, R291, R292, R297, R298, R300, R304, R306;
11_endpoint_block.md: R384, R385; 95_what_each_step_holds.md: R589. -/
def Obligations.MembersRunCollectives : Prop := ∀ (port : Nat) (p : Packet) (s : State),
  let u := (accept .endpoint port p s).2
  let came := (accept .endpoint port p s).1.isSome = true ∧ pchkGood p = true
  let ends := fun (t : State) => t.e.coll.descs.map fun d => d.chunks.map fun k => k.ended.map fun e => e.1
  let one := fun (d : CollDesc) (k : CollChunk) => s.e.coll.descs = [d] ∧ d.chunks = [k]
  let mine := fun (d : CollDesc) => ((collGroup p).bind fun group => collCtx group u) = some d.ctx ∧ d.step = p.xseq.toNat
  (∀ c, c ∈ [Instr.collDescriptor, Instr.collCancel] → (epQueue 32 s).fetched = [] → Answers c s fun t => t = s)
  ∧ (∀ b l, (epQueue 32 s).fetched = b :: l → (leNat (slice b 7 1)).testBit 4 = true → Answers .collDescriptor s fun t => t = s)
  ∧ (∀ b l g, (epQueue 32 s).fetched = b :: l → (leNat (slice b 7 1)).testBit 4 = false → collCtx (leNat (slice b 0 2)) s = some g →
    descFailures b (some g) s = [] → rangeValid b = true → Answers .collDescriptor s fun t =>
      t.e.coll.descs = s.e.coll.descs ++ [{ descOf b g ((List.range (leNat (slice b 16 3) + 1 - leNat (slice b 13 3))).map fun i =>
          leNat (slice b 13 3) + i) s with startAt := (timedStart b s).1, late := (timedStart b s).2 }]
        ∧ (epQueue 32 t).fetched = l ∧ t.e.coll.nextDesc = s.e.coll.nextDesc + 1 ∧ OnlyChanges [.ep .coll, .ep .queues] s t)
  ∧ (∀ b l, (epQueue 32 s).fetched = b :: l → (leNat (slice b 7 1)).testBit 4 = false → rangeValid b = false → s.e.coll.descs = [] →
    Answers .collDescriptor s fun t =>
      ends t = [[some (reportStatus (descFailures b (collCtx (leNat (slice b 0 2)) s) s ++ [stResource])).1]])
  ∧ (∀ b l, (epQueue 32 s).fetched = b :: l → (leNat (slice b 7 1)).testBit 4 = false → Answers .collCancel s fun t => t = s)
  ∧ (∀ b l g d k, (epQueue 32 s).fetched = b :: l → (leNat (slice b 7 1)).testBit 4 = true → collCtx (leNat (slice b 0 2)) s = some g →
    one d k → d.ctx = g → d.step = leNat (slice b 2 3) → k.ended = none → Answers .collCancel s fun t =>
      ends t = [[some stAborted]] ∧ (smapGet t.e.coll.aborts [] g).getLast?.map (fun a => (a.step, a.status, a.count)) = some (d.step, stAborted, 0))
  ∧ (∀ id d, collDesc id s = some d → Answers (.timedStart id) s fun t =>
    collDesc id t = some { d with startAt := none } ∧ OnlyChanges [.ep .coll] s t)
  ∧ (∀ g plane, nextChunk g plane s = none → Answers (.chunkSend g plane) s fun t => t = s)
  ∧ (∀ g plane d k, nextChunk g plane s = some (d, k) → d.startAt ≠ none ∨ d.window ≤ chunksOut g plane s → Answers (.chunkSend g plane) s fun t => t = s)
  ∧ (∀ g plane d k, nextChunk g plane s = some (d, k) → d.startAt = none → chunksOut g plane s < d.window → one d k → s.e.coll.attempts = [] →
    launchRefused d s = [] → Answers (.chunkSend g plane) s fun t =>
      t.e.coll.descs = [{ d with chunks := [{ k with launched := true, attempt := 0, reads := k.reads + 1, reading := true, backoff := false }] }]
        ∧ t.e.txns.map (·.cont) = s.e.txns.map (·.cont) ++ [MemCont.collSrc d.id k.chunk (k.reads + 1)])
  ∧ (∀ g plane d k, nextChunk g plane s = some (d, k) → d.startAt = none → chunksOut g plane s < d.window → one d k → launchRefused d s ≠ [] →
    Answers (.chunkSend g plane) s fun t => ends t = [[some (reportStatus (launchRefused d s)).1]])
  ∧ (∀ id c d k, collOf id c s = some (d, k) → k.launched = true → k.ended = none → k.verified = false → Answers (.probeTimer id c) s fun t =>
    t = sendProbe d k s ∧ t.e.coll = s.e.coll)
  ∧ (∀ x id c, x ∈ [Instr.probeTimer id c, Instr.collTimeout id c, Instr.srcReadFail id c, Instr.refusalBackoff .endpoint id 0 c] →
    collOf id c s = none → Answers x s fun t => t = s)
  ∧ (∀ id c d k, collOf id c s = some (d, k) → k.launched = true → k.ended = none → Answers (.collTimeout id c) s fun t =>
    (collOf id c t).map (fun x => (x.2.ended.map (·.1), x.1.failed)) = some (some stTimeout, some (d.failed.getD stTimeout)))
  ∧ (∀ id c d k, collOf id c s = some (d, k) → k.launched = false → Answers (.collTimeout id c) s fun t => t = s)
  ∧ (∀ id c d k st, collOf id c s = some (d, k) → k.srcFailed = some st → k.ended = none → Answers (.srcReadFail id c) s fun t =>
    (collOf id c t).map (fun x => (x.2.ended.map (·.1), x.1.failed)) = some (some st, d.failed))
  ∧ (p.opcode = 0x91 → (accept .endpoint port p s).1.isSome = true → pchkGood p = false → Answers (.collResult .endpoint port p) s fun t =>
    t = dropBadCheck .endpoint u)
  ∧ (p.opcode = 0x91 → came → resultChunk p u = none → Answers (.collResult .endpoint port p) s fun t => t = u)
  ∧ (∀ d k n, p.opcode = 0x91 → came → p.enc = false → one d k → resultChunk p u = some (d, k) →
    (chunkFragments d k.chunk).find? (fun x => decide (x.1 = collFrag p)) = some (collFrag p, n) → fmtMx d.fmtDown = false →
    ((chunkFragments d k.chunk).any fun x => decide (x.1 ≠ collFrag p) && (smapGet? k.got x.1).isNone) = true →
    Answers (.collResult .endpoint port p) s fun t =>
      t.e.coll.descs.map (fun x => x.chunks.map fun y => (smapGet? y.got (collFrag p), y.writes, y.ended)) = [[(some p.payload, k.writes + 1, k.ended)]]
        ∧ t.e.txns.map (·.cont) = s.e.txns.map (·.cont) ++ [MemCont.collDst d.id k.chunk])
  ∧ (∀ d k, p.opcode = 0x92 → came → mine d → one d k → k.ended = none → k.chunk = collChunk p → Answers (.collAbort .endpoint port p) s fun t =>
    ends t = [[some (receivedStatus p.status)]])
  ∧ (p.opcode = 0x92 → came → ((collGroup p).bind fun group => collCtx group u) = none → Answers (.collAbort .endpoint port p) s fun t => t = u)
  ∧ (∀ d k, p.opcode = 0x93 → p.opx.getLsbD 0 = false → came → mine d → one d k → k.ended = none → k.launched = true → k.chunk = collChunk p →
    (smapGet s.e.coll.aborts [] d.ctx).find? (fun x => decide (x.step = d.step)) = none → p.status ≠ stRetryLater →
    Answers (.collResend .endpoint port p) s fun t => t.e.coll.descs
      = [{ d with chunks := [{ k with attempt := collAttempt p, reads := k.reads + 1, reading := true, backoff := false }] }])
  ∧ (∀ d k, p.opcode = 0x93 → p.opx.getLsbD 0 = false → came → mine d → one d k → k.ended = none → k.launched = true → k.chunk = collChunk p →
    (smapGet s.e.coll.aborts [] d.ctx).find? (fun x => decide (x.step = d.step)) = none → p.status = stRetryLater → k.gaveUp = false →
    k.refusals < 8 → Answers (.collResend .endpoint port p) s fun t =>
      t.e.coll.descs = [{ d with chunks := [{ k with refusals := k.refusals + 1, backoff := true }] }] ∧ t.e.txns = s.e.txns)
  ∧ (∀ id x c d k, collOf id c s = some (d, k) → one d k → k.backoff = true → Answers (.refusalBackoff .endpoint id x c) s fun t =>
    t.e.coll.descs = [{ d with chunks := [{ k with reads := k.reads + 1, reading := true, backoff := false }] }])

/-- COLL_CONTRIB of no valid context is counted as unreachable, one with another key or class as MRN.KEY_DISCARD_CNT, one of a
closed chunk or another attempt as MRN.STALE_CNT. The first fragment of a chunk opens it with its digest and attempt; a later
one is combined element by element with what the chunk has summed and raises its counter. COLL_RESULT passed on frees the
partial that a module holds; COLL_ABORT closes the chunk; COLL_RESEND records the attempt wanted and sends a held partial
again; COLL_PROBE at the root is answered by the result kept. REFUSAL_BACKOFF sends a partial again and PARTIAL_HOLD_EXPIRE
gives it up. Rests on 09_collectives.md: R286, R293, R294, R296, R298, R299, R300, R304, R306; 10_reduction_datapath.md: R313,
R321. -/
def Obligations.ModulesReduceContributions : Prop := ∀ (port : Nat) (p : Packet) (n : Nat) (s : State),
  let u := (accept .module port p s).2
  let came := (accept .module port p s).1.isSome = true ∧ pchkGood p = true
  let served := contextOf port p u = (some n, u)
  let step := p.xseq.toNat
  let c := collChunk p
  let f := collFrag p
  let quiet := shadowEntryAt n port u = none ∧ shadowsOf false false n u = [] ∧ shadowsOf true false n u = [] ∧ s.m.tile.change = none
  let contrib := p.opcode = 0x90 ∧ came ∧ served ∧ quiet ∧ p.enc = false ∧ (childOf n port u).isSome = true ∧ stepAbort n step u = none
  let partly := collCount p ≤ u.rd .module Fld.mrnCtxExpectCount n ∧ 2 ≤ u.rd .module Fld.mrnCtxExpectChildren n
  (∀ x op, (x, op) ∈ [(Instr.collContrib port p, 0x90), (Instr.collResult .module port p, 0x91), (Instr.collAbort .module port p, 0x92),
      (Instr.collResend .module port p, 0x93), (Instr.collProbe port p 0, 0x93)] → p.opcode ≠ op → Answers x s fun t => t = s)
  ∧ (p.opcode = 0x90 → came → ((collGroup p).bind fun g => mrnCtx g u) = none → Answers (.collContrib port p) s fun t =>
    t = countUnreachable port p u ∧ t.m.mrn = s.m.mrn)
  ∧ (p.opcode = 0x90 → came → ((collGroup p).bind fun g => mrnCtx g u) = some n → keyMatches n p u = false → Answers (.collContrib port p) s fun t =>
    t.word .module .mrnKeyDiscardCnt 0 0 = countedWord (s.word .module .mrnKeyDiscardCnt 0 0) 1 ∧ t.m.mrn = s.m.mrn)
  ∧ (∀ k, contrib → mrnChunk n step c u = some k → k.phase ≠ .isOpen ∨ k.attempt ≠ collAttempt p → Answers (.collContrib port p) s fun t =>
    t.word .module .mrnStaleCnt 0 0 = countedWord (s.word .module .mrnStaleCnt 0 0) 1 ∧ t.m.mrn = s.m.mrn)
  ∧ (contrib → partly → mrnChunk n step c u = none → rootOf n c u ≠ .none → u.rd .module Fld.mrnCtxState n ≠ 2 →
    (admitChunk n (chunkSlots (u.rd .module Fld.mrnCtxChunkCode n) (u.rd .module Fld.mrnCtxFmtIn n) ((u.word .module .redArith n 0).getLsbD 38)) u).isSome = true →
    Answers (.collContrib port p) s fun t =>
      (mrnChunk n step c t).map (fun k => (k.phase, k.attempt, k.digest, smapGet k.counts 0 f, smapGet? k.acc f))
        = some (.isOpen, collAttempt p, some (slotDigest p), collCount p, some (fragDecode (u.rd .module Fld.mrnCtxFmtIn n) p.payload)))
  ∧ (∀ k a, contrib → mrnChunk n step c u = some k → k.phase = .isOpen → k.attempt = collAttempt p → k.digest = some (slotDigest p) →
    smapGet k.counts 0 f + collCount p ≤ u.rd .module Fld.mrnCtxExpectCount n → chunkFull k u = false → slotCheck p = 0 →
    (k.children.filter fun x => x.2.last.isSome).length < u.rd .module Fld.mrnCtxExpectChildren n → (∀ x ∈ k.children, x.2.last = none) →
    k.arith.getLsbD 38 = false → k.shadowed = false → smapGet? k.acc f = some a → Answers (.collContrib port p) s fun t =>
      (mrnChunk n step c t).map (fun x => (x.phase, smapGet? x.acc f, smapGet x.counts 0 f))
        = some (.isOpen, some ((List.range (fragDecode (u.rd .module Fld.mrnCtxFmtIn n) p.payload).length).map fun i =>
            combineElem (u.rd .module Fld.mrnCtxOp n) (u.rd .module Fld.mrnCtxFmtIn n) (a.getD i 0)
              ((fragDecode (u.rd .module Fld.mrnCtxFmtIn n) p.payload).getD i 0)), smapGet k.counts 0 f + collCount p))
  ∧ (p.opcode = 0x91 → (accept .module port p s).1.isSome = true → served → rootOf n c u = .here → Answers (.collResult .module port p) s fun t => t = u)
  ∧ (∀ k, p.opcode = 0x91 → (accept .module port p s).1.isSome = true → served → quiet → rootOf n c u ≠ .here → mrnChunk n step c u = some k →
    k.phase = .held → k.payloads.length ≤ f + 1 → Answers (.collResult .module port p) s fun t => mrnChunk n step c t = none)
  ∧ (p.opcode = 0x92 → came → served → quiet → (abortSlot p.ext).step = false → Answers (.collAbort .module port p) s fun t =>
    mrnChunk n step c t = none ∧ t.m.mrn.aborts = s.m.mrn.aborts)
  ∧ (p.opcode = 0x92 → came → served → quiet → (abortSlot p.ext).step = true → stepAbort n step u = none → Answers (.collAbort .module port p) s fun t =>
    (∀ k ∈ t.m.mrn.chunks, ¬ (k.ctx = n ∧ k.step = step))
      ∧ (smapGet t.m.mrn.aborts [] n).getLast?.map (fun a => (a.step, a.status)) = some (step, receivedStatus p.status))
  ∧ (∀ k, p.opcode = 0x93 → p.opx.getLsbD 0 = false → came → served → quiet → stepAbort n step u = none → mrnChunk n step c u = some k →
    p.status ≠ stRetryLater → k.phase = .held → Answers (.collResend .module port p) s fun t =>
      mrnChunk n step c t = some { k with upAttempt := collAttempt p, backoff := false })
  ∧ (∀ k, p.opcode = 0x93 → p.opx.getLsbD 0 = false → came → served → quiet → stepAbort n step u = none → mrnChunk n step c u = some k →
    p.status = stRetryLater → k.phase = .held → k.refusals < 8 → Answers (.collResend .module port p) s fun t =>
      mrnChunk n step c t = some { k with refusals := k.refusals + 1, backoff := true })
  ∧ (∀ count, p.opcode = 0x93 → p.opx.getLsbD 0 = true → came → served → quiet → rootOf n c u ≠ .here → Answers (.collProbe port p count) s fun t =>
    t = sendUp n c p u ∧ t.m.mrn = s.m.mrn)
  ∧ (∀ count r, p.opcode = 0x93 → p.opx.getLsbD 0 = true → came → served → quiet → rootOf n c u = .here → mrnResult n step c u = some r →
    r.dropped = false → Answers (.collProbe port p count) s fun t =>
      t = answerProbe (resultPackets n step c r.digest r.first r.payloads (some p.src) u) u ∧ t.m.mrn = s.m.mrn)
  ∧ (∀ x st ch, x ∈ [Instr.refusalBackoff .module n st ch, Instr.partialHoldExpire n st ch] → mrnChunk n st ch s = none → Answers x s fun t => t = s)
  ∧ (∀ st ch k, mrnChunk n st ch s = some k → k.backoff = true → Answers (.refusalBackoff .module n st ch) s fun t =>
    mrnChunk n st ch t = some { k with backoff := false })
  ∧ (∀ st ch k, mrnChunk n st ch s = some k → k.phase = .held → s.m.tile.change = none → Answers (.partialHoldExpire n st ch) s fun t =>
    mrnChunk n st ch t = none ∧ t.m.mrn.results = s.m.mrn.results)
  ∧ (∀ st ch k, mrnChunk n st ch s = some k → k.phase ≠ .held → Answers (.partialHoldExpire n st ch) s fun t => t = s)

/-- EPILOGUE_START of a chunk complete at its root with no epilogue keeps the result narrowed to the result format and gives the
chunk up; it does nothing while the chunk is not there or commits are paused, and a context whose members do not agree with
its count ends the chunk. EPILOGUE_COMMIT writes the commit record to DDR5 and then keeps and sends the result.
RESULT_RETAIN_EXPIRE drops the copy of a result and keeps its record, CHUNK_RECORD_EXPIRE drops such a record. RECORD_QUERY
shows the record of a chunk, or RESOURCE or CHECK_FAIL, and sets DONE. Rests on 09_collectives.md: R297, R298;
10_reduction_datapath.md: R331, R340, R341, R345, R348. -/
def Obligations.RootsFinishChunks : Prop := ∀ (n step c : Nat) (s : State),
  let kept := fun (k : MrnChunk) (l : List (List Byte)) => ({ ctx := n, step := step, chunk := c, digest := k.digest.getD 0, first := k.first, payloads := l } : MrnResult)
  let at_ := fun (phase : MrnPhase) (k : MrnChunk) => mrnChunk n step c s = some k ∧ k.phase = phase ∧ s.m.tile.change = none
  let values := fun (k : MrnChunk) => (List.range (chunkLength k)).flatMap fun f => finalValues k f
  let below := fun (count : Nat) => min (ctxElems n s) (count - c * ctxElems n s)
  let bank := fun (b : Nat) => laterBank n (fun b => decide (epi Fld.redEpiValid n b s = 1) && decide (c < epi Fld.redEpiNchunks n b s)) s = some b
  (∀ count, mrnChunk n step c s = none → Answers (.epilogueStart n step c count) s fun t => t = s)
  ∧ (∀ count k, mrnChunk n step c s = some k → k.phase ≠ .atRoot → Answers (.epilogueStart n step c count) s fun t => t = s)
  ∧ (∀ count k, at_ .atRoot k → s.rd .module Fld.mrnCtxExpectCount n = s.rd .module Fld.mrnCtxMembers n → s.rd .module Fld.mrnCtxEpilogue n = 0 →
    s.rd .module Fld.mrnCtxOp n ≠ 3 → Answers (.epilogueStart n step c count) s fun t =>
      mrnResult n step c t = some (kept k (resultPayloads k (chunkLength k) (below count) (values k) s).1)
        ∧ mrnChunk n step c t = none ∧ t.m.pool = s.m.pool)
  ∧ (∀ count k, at_ .atRoot k → s.rd .module Fld.mrnCtxExpectCount n = s.rd .module Fld.mrnCtxMembers n → s.rd .module Fld.mrnCtxEpilogue n ≠ 0 →
    fmtInt (s.rd .module Fld.mrnCtxFmtIn n) = false → s.rdb .module Fld.redCtlCommitPause = true → Answers (.epilogueStart n step c count) s fun t => t = s)
  ∧ (∀ count k, step < 2 ^ 24 → c < 2 ^ 24 → at_ .atRoot k → s.rd .module Fld.mrnCtxExpectCount n ≠ s.rd .module Fld.mrnCtxMembers n →
    Answers (.epilogueStart n step c count) s fun t =>
      mrnChunk n step c t = none ∧ t.m.mrn.results = s.m.mrn.results ∧ t.m.pool = s.m.pool)
  ∧ (mrnChunk n step c s = none → Answers (.epilogueCommit n step c) s fun t => t = s)
  ∧ (∀ k, mrnChunk n step c s = some k → k.phase ≠ .committing → Answers (.epilogueCommit n step c) s fun t => t = s)
  ∧ (∀ k a w, at_ .committing k → k.record = some (a, w) → (moduleWrite .ddr (mrnDdrKey n s) a (leBytes 8 w.toNat) false s).1 = stOk →
    Answers (.epilogueCommit n step c) s fun t => t.m.pool = (moduleWrite .ddr (mrnDdrKey n s) a (leBytes 8 w.toNat) false s).2.m.pool
      ∧ mrnResult n step c t = some (kept k k.payloads) ∧ mrnChunk n step c t = none)
  ∧ (∀ k a w, step < 2 ^ 24 → c < 2 ^ 24 → at_ .committing k → k.record = some (a, w) →
    (moduleWrite .ddr (mrnDdrKey n s) a (leBytes 8 w.toNat) false s).1 ≠ stOk →
    Answers (.epilogueCommit n step c) s fun t => mrnChunk n step c t = none ∧ t.m.mrn.results = s.m.mrn.results
      ∧ t.word .module .redStateErrCnt 0 0 = countedWord (s.word .module .redStateErrCnt 0 0) 1)
  ∧ (∀ r, mrnResult n step c s = some r → Answers (.resultRetainExpire n step c) s fun t =>
    mrnResult n step c t = some { r with payloads := [], dropped := true } ∧ OnlyChanges [.mod .mrn] s t)
  ∧ (∀ r, s.m.mrn.results = [r] → mrnResult n step c s = some r → Answers (.chunkRecordExpire n step c) s fun t =>
    t.m.mrn.results = (if r.dropped then [] else [r]) ∧ OnlyChanges [.mod .mrn] s t)
  ∧ (laterBank n (fun b => decide (epi Fld.redEpiValid n b s = 1) && decide (c < epi Fld.redEpiNchunks n b s)) s = none →
    Answers (.recordQuery n c) s fun t => t.rd .module Fld.redQueryStatusStatus = stResource.toNat ∧ t.rdb .module Fld.redQueryStatusDone = true
      ∧ t.word .module .redQueryRec 0 0 = s.word .module .redQueryRec 0 0)
  ∧ (∀ b w, bank b → readRecord n b c s = .ok w → Answers (.recordQuery n c) s fun t =>
    t.rd .module Fld.redQueryRecRecord = w.toNat ∧ t.rd .module Fld.redQueryStatusStatus = stOk.toNat ∧ t.rdb .module Fld.redQueryStatusDone = true
      ∧ OnlyChanges [.reg .module .redQueryRec, .reg .module .redQueryStatus] s t)
  ∧ (∀ b st, bank b → readRecord n b c s = .error st → Answers (.recordQuery n c) s fun t =>
    t.rd .module Fld.redQueryStatusStatus = stCheckFail.toNat ∧ t.rdb .module Fld.redQueryStatusDone = true)

/-- An operation of a context whose slot is under retirement is dropped and counted; one that may not be sent completes on XR with
the status of R14, NOT_APPLIED, and 0xFF for a load. An acquire, flagged store, atomic or reduce-store enters the transport
after the operations before it; a load or store that its context blocks waits at the cache, and one outside coherent ranges
enters the transport. COH_RD and COH_RDOWN of a held line complete with the line and grant S and M, XQ_STORE into a line in M
changes it, COH_WB makes the block's copy dirty in M, COH_EVICT leaves it to the block alone. RM_INV_ALL drops every read-
mostly line. Rests on 07_memory_operations.md: R219, R225, R237, R238; 11_endpoint_block.md: R354, R358, R359, R366, R370,
R371, R372; 15_security_management.md: R509. -/
def Obligations.CorePortOperationsIssue : Prop := ∀ (ctx atag gfa len : Nat) (stream : BitVec 4) (aop : BitVec 8) (data : List Byte) (s : State),
  let dst := gfaEid gfa
  let free := ctxRetired ctx s = false
  let id := s.endpoint.xpt.nextOp
  let quiet := s.endpoint.xpt.finished = [] ∧ s.module.xpt.finished = []
  let pkt := fun (op : BitVec 8) (opx : Nat) (l : List Byte) => ctxPacket ctx dst op stream (gfaOff gfa) opx l s
  let loads := [(Instr.xqLoad ctx atag gfa len stream, (0x60 : BitVec 8), len), (Instr.xqLoadAcq ctx atag gfa len stream, 0x61, len)]
  let stores := [(Instr.xqStore ctx atag gfa stream data, (0x62 : BitVec 8), 0), (Instr.xqStoreFlag ctx atag gfa stream data, 0x63, 0)]
  let rmws := [(Instr.xqAtomicInt ctx atag gfa stream aop data, (0x64 : BitVec 8)), (Instr.xqAtomicFp ctx atag gfa stream aop data, 0x65), (Instr.xqReduceStore ctx atag gfa stream aop data, 0x66)]
  let coherent := [Instr.cohRd ctx atag gfa len, Instr.cohRdown ctx atag gfa len]
  let goes := fun (o : SrcOp) => (match mayIssue .endpoint o (s.onXpt .endpoint fun x => { x with nextOp := id + 1, ops := x.ops ++ [o] }) with | .fail _ => false | .restart => false | _ => true) = true
  let enters := fun (t : State) (q : Packet) => t.endpoint.xpt.ops.map (fun o => (o.id, o.ctx, o.pkt))
      = s.endpoint.xpt.ops.map (fun o => (o.id, o.ctx, o.pkt)) ++ [(id, some ctx, q)] ∧ t.endpoint.xpt.nextOp = id + 1
  let xr := fun (t : State) (st : Status) (grant : Nat) (l : List Byte) => t.endpoint.out.getLast?
      = some (.xr (ctx / 32) atag st (if st = stOk then outApplied else outNotApplied) false false grant l)
  let may := free ∧ sendChecks ctx dst 0x60 0 s = [] ∧ (cohRange gfa s).isSome = true
  let runs := ctxBlocked .endpoint ctx id s = false ∧ s.endpoint.dead.contains dst = false
  let line := gfa / 64
  (∀ c, c ∈ loads.map (·.1) ++ stores.map (·.1) ++ rmws.map (·.1) ++ coherent ++ [Instr.cohWb ctx atag gfa data] → ctxRetired ctx s = true → Answers c s fun t =>
    t.word .endpoint .secRetiredDropCnt 0 0 = countedWord (s.word .endpoint .secRetiredDropCnt 0 0) 1 ∧ t.e = s.e ∧ t.endpoint.xpt = s.endpoint.xpt)
  ∧ (∀ c op n, (c, op, n) ∈ loads ++ stores → free → sendChecks ctx dst op stream.toNat s ≠ [] → Answers c s fun t =>
    xr t (reportStatus (sendChecks ctx dst op stream.toNat s)).1 0 (List.replicate n 0xFF) ∧ t.e = s.e ∧ t.endpoint.xpt = s.endpoint.xpt)
  ∧ (∀ c op, (c, op) ∈ rmws → free → sendChecks ctx dst op stream.toNat s ++ misaligned (pkt op aop.toNat data) ≠ [] → Answers c s fun t =>
    xr t (reportStatus (sendChecks ctx dst op stream.toNat s ++ misaligned (pkt op aop.toNat data))).1 0 [] ∧ t.endpoint.xpt = s.endpoint.xpt)
  ∧ (∀ c op, (c, op) ∈ rmws → free → quiet → sendChecks ctx dst op stream.toNat s = [] → misaligned (pkt op aop.toNat data) = [] →
    (∀ o ∈ s.endpoint.xpt.ops, o.id < id) → goes { id := id, ctx := some ctx, use := .xq ctx atag 0 0, pkt := pkt op aop.toNat data, ready := true } →
    Answers c s fun t => enters t (pkt op aop.toNat data))
  ∧ (free → quiet → sendChecks ctx dst 0x61 stream.toNat s = [] → (∀ o ∈ s.endpoint.xpt.ops, o.id < id) →
    goes { id := id, ctx := some ctx, use := .xq ctx atag 0 len, pkt := pkt 0x61 (len - 1) [], ready := true } →
    Answers (.xqLoadAcq ctx atag gfa len stream) s fun t => enters t (pkt 0x61 (len - 1) []) ∧ t.e = s.e)
  ∧ (free → quiet → sendChecks ctx dst 0x63 stream.toNat s = [] → (∀ o ∈ s.endpoint.xpt.ops, o.id < id) → s.e.cache = [] → s.e.accs = [] →
    (s.endpoint.xpt.ops.filter fun o => decide (o.pkt.opcode = 0x60)) = [] →
    goes { id := id, ctx := some ctx, use := .xq ctx atag 0 0, pkt := pkt 0x63 0 data, ready := true } →
    Answers (.xqStoreFlag ctx atag gfa stream data) s fun t => enters t (pkt 0x63 0 data))
  ∧ (free → quiet → sendChecks ctx dst 0x60 stream.toNat s = [] → ctxBlocked .endpoint ctx id s = true → (∀ a ∈ s.e.accs, a.id ≠ id) →
    coherentAccess gfa len stream s = false → Answers (.xqLoad ctx atag gfa len stream) s fun t =>
      t.e.accs.map (fun a => (a.id, a.kind, a.gfa, a.len, a.left)) = s.e.accs.map (fun a => (a.id, a.kind, a.gfa, a.len, a.left)) ++ [(id, .load, gfa, len, [])]
        ∧ t.endpoint.xpt.ops = s.endpoint.xpt.ops)
  ∧ (∀ c, free → quiet → runs → sendChecks ctx dst 0x60 stream.toNat s = [] → coherentAccess gfa len stream s = false → s.e.accs = [] → oneLine gfa len = true →
    cached line s = some c → c.readMostly = true → Answers (.xqLoad ctx atag gfa len stream) s fun t => xr t stOk 0 (slice c.data (gfa % 64) len)
      ∧ t.endpoint.xpt.ops = s.endpoint.xpt.ops)
  ∧ (∀ c, free → quiet → runs → sendChecks ctx dst 0x62 stream.toNat s = [] → coherentAccess gfa data.length stream s = true → s.e.accs = [] →
    linesOf gfa data.length = [line] → cached line s = some c → c.readMostly = false → c.state = 4 → Answers (.xqStore ctx atag gfa stream data) s fun t =>
      xr t stOk 0 [] ∧ (cached line t).map (fun x => (x.state, x.data)) = some (4, patch c.data (gfa - 64 * line) (slice data 0 (min (gfa + data.length) (64 * line + 64) - gfa))))
  ∧ (∀ c, may → quiet → runs → s.e.accs = [] → cached line s = some c → c.readMostly = false → Answers (.cohRd ctx atag gfa len) s fun t =>
    xr t stOk 1 c.data ∧ (cached line t).map (fun x => (x.state, x.data, x.accel)) = some (c.state, c.data, max c.accel 1))
  ∧ (∀ c, may → quiet → runs → s.e.accs = [] → cached line s = some c → c.readMostly = false → c.state = 3 ∨ c.state = 4 →
    Answers (.cohRdown ctx atag gfa len) s fun t => xr t stOk 4 c.data ∧ (cached line t).map (fun x => (x.state, x.data, x.accel)) = some (4, c.data, 4))
  ∧ (∀ c, free → quiet → sendChecks ctx dst 0x62 0 s = [] → (cohRange gfa s).isSome = true → cached line s = some c → c.readMostly = false →
    Answers (.cohWb ctx atag gfa data) s fun t => xr t stOk 0 []
      ∧ (cached line t).map (fun x => (x.state, x.data, x.accel)) = some (4, fitTo 64 data, 0))
  ∧ (∀ c, may → quiet → cached line s = some c → Answers (.cohEvict ctx atag gfa) s fun t => xr t stOk 0 []
    ∧ (cached line t).map (fun x => (x.state, x.data, x.accel)) = some (c.state, c.data, 0))
  ∧ ((cohRange gfa s).isSome = false → Answers (.cohEvict ctx atag gfa) s fun t => xr t stOk 0 [] ∧ t.e = s.e)
  ∧ (Answers (.rmInvAll ctx atag) s fun t => xr t stOk 0 [] ∧ (∀ c ∈ t.e.cache, c.readMostly = false)
    ∧ (∀ c ∈ s.e.cache, c.readMostly = false → c ∈ t.e.cache))

/-- SR_ANSWER of no snoop does nothing; the answer to a victim's snoop takes the copy back and lets the line leave, dirty by a
write-back. ATOMIC_LINE_WRITEBACK sends a locked line back once, with its data where it is dirty. PLANE_DOWN_WRITE writes its
word of the map, or is discarded while the management lock holds. MR_ANSWER frees the tag of its request and records the
answer; one for a request that timed out only frees the tag, one of no request does nothing. MEM_TIMEOUT ends a request with
INTERNAL, raises its vector and keeps the tag unused. Rests on 11_endpoint_block.md: R355, R360, R362, R367, R368, R372, R373. -/
def Obligations.SnoopAnswersAndPlaneMaps : Prop := ∀ (s : State),
  let quiet := s.endpoint.xpt.finished = [] ∧ s.module.xpt.finished = []
  (∀ stag d n w, s.e.snoops.find? (fun x => decide (x.stag = stag)) = none → Answers (.srAnswer stag d n w) s fun t => t = s)
  ∧ (∀ stag d x c, quiet → s.e.snoops.find? (fun x => decide (x.stag = stag)) = some x → x.use = .victim → x.sop = 0 → s.e.accs = [] →
    cached x.line s = some c → c.readMostly = false → c.state = 4 → cohRange (64 * x.line) s = none → Answers (.srAnswer stag (some d) 0 none) s fun t =>
      cached x.line t = none ∧ t.e.snoops = (s.e.snoops.filter fun y => decide (y.stag ≠ stag))
        ∧ t.e.coh.map (fun y => (y.op, y.line, y.wb)) = s.e.coh.map (fun y => (y.op, y.line, y.wb)) ++ [(0x23, x.line, fitTo 64 d)])
  ∧ (∀ line, lockLine line s = none → Answers (.atomicLineWriteback line) s fun t => t = s)
  ∧ (∀ line l, lockLine line s = some l → l.releasing = true ∨ l.data = none → Answers (.atomicLineWriteback line) s fun t => t = s)
  ∧ (∀ line l d tag, lockLine line s = some l → l.releasing = false → l.data = some d → l.lockTag = some tag → l.line = line →
    Answers (.atomicLineWriteback line) s fun t => (lockLine line t).map (·.releasing) = some true
      ∧ t.e.txns.map (fun x => (x.id, x.cont)) = s.e.txns.map (fun x => (x.id, x.cont)) ++ [(s.e.nextTxn, MemCont.unlock line)])
  ∧ (∀ path plane i v, rwlOpen .endpoint path (regOffset .endpoint (if plane then .fxePlaneDownB else .fxePlaneDownA) i 0) s = true → quiet →
    s.endpoint.xpt.ops = [] → Answers (.planeDownWrite path plane i v) s fun t => t.word .endpoint (if plane then .fxePlaneDownB else .fxePlaneDownA) i 0 = v)
  ∧ (∀ path plane i v, rwlOpen .endpoint path (regOffset .endpoint (if plane then .fxePlaneDownB else .fxePlaneDownA) i 0) s = false →
    Answers (.planeDownWrite path plane i v) s fun t =>
      t.word .endpoint (if plane then .fxePlaneDownB else .fxePlaneDownA) i 0 = s.word .endpoint (if plane then .fxePlaneDownB else .fxePlaneDownA) i 0
        ∧ t.word .endpoint .fxeLockDiscardCnt 0 0 = countedWord (s.word .endpoint .fxeLockDiscardCnt 0 0) 1)
  ∧ (∀ half mtag st d, s.e.mqDead.contains (half * 4096 + mtag) = true → s.e.mqWait = [] → Answers (.mrAnswer half mtag st d) s fun t =>
    t.e.mqDead = (s.e.mqDead.filter fun x => decide (x ≠ half * 4096 + mtag)) ∧ OnlyChanges [.ep .mqDead] s t)
  ∧ (∀ c half mtag st d, c ∈ [Instr.mrAnswer half mtag st d, Instr.memTimeout half mtag] → s.e.mqDead.contains (half * 4096 + mtag) = false →
    smapGet? s.e.mqOut (half * 4096 + mtag) = none → Answers c s fun t => t = s)
  ∧ (∀ half mtag st d x part, quiet → s.e.mqDead.contains (half * 4096 + mtag) = false → smapGet? s.e.mqOut (half * 4096 + mtag) = some (x.id, part) →
    s.e.txns = [x] → x.answers = [none, none] → part < 2 → s.e.mqWait = [] → Answers (.mrAnswer half mtag st d) s fun t =>
      t.e.txns = [{ x with answers := [none, none].set part (some (mrStatus st, d)) }] ∧ t.e.mqOut = smapErase s.e.mqOut (half * 4096 + mtag)
        ∧ OnlyChanges [.ep .txns, .ep .mqOut] s t)
  ∧ (∀ half mtag x part, quiet → smapGet? s.e.mqOut (half * 4096 + mtag) = some (x.id, part) → s.e.txns = [x] → x.answers = [none, none] → part < 2 →
    s.e.mqWait = [] → Answers (.memTimeout half mtag) s fun t => t.e.txns = [{ x with answers := [none, none].set part (some (stInternal, [])) }]
      ∧ t.e.mqDead = s.e.mqDead ++ [half * 4096 + mtag] ∧ (t.word .endpoint .fxeIntStatus 0 0).getLsbD 10 = true)

/-- FENCE takes its place behind the operations of its context. A segment that passes every check begins one write of its bytes; a
refused one is answered with its status. TRIG_POST refuses a reserved descriptor or a full table, and else keeps the operation
until its counter reaches the threshold. A fired WRITE_WORD writes, a fired INC ends at once; the oldest that has ended counts
its done counter up. A write of a counter clears its error and check. A doorbell writes TAIL and fetches what waits; a fetched
descriptor starts, its packets waiting for their data; the oldest that is done writes its record, and a failed fetch stops the
queue. Rests on 06_transport_ordering.md: R204; 09_collectives.md: R311; 11_endpoint_block.md: R375, R376, R377, R378, R379,
R380, R381, R382; 15_security_management.md: R509. -/
def Obligations.DominoAndDmaQueuesRun : Prop := ∀ (port ctx atag : Nat) (p : Packet) (data : List Byte) (s : State),
  let quiet := s.endpoint.xpt.finished = [] ∧ s.module.xpt.finished = []
  let xr := fun (t : State) (st : Status) => t.endpoint.out.getLast? = some (.xr (ctx / 32) atag st (if st = stOk then outApplied else outNotApplied) false false 0 [])
  let conts : State → List MemCont := fun t => t.e.txns.map fun x => x.cont
  let waits := p.opcode = 0x94 ∧ quiet ∧ (findWork .endpoint p s).isSome = true
  let trig := trigOf data s.e.nextTrig
  let posted := trigReserved data = false ∧ domPlaces s.e < 4096 ∧ s.e.trig = []
  let id := s.endpoint.xpt.nextOp
  (ctxRetired ctx s = false → Answers (.fence ctx atag) s fun t =>
    t.endpoint.xpt.fences = s.endpoint.xpt.fences ++ [{ id := id, ctx := ctx, use := .xq ctx atag 0 0 }] ∧ t.endpoint.xpt.nextOp = id + 1
      ∧ OnlyChanges [.unit .endpoint .xpt] s t)
  ∧ (ctxRetired ctx s = true → Answers (.fence ctx atag) s fun t =>
    t.word .endpoint .secRetiredDropCnt 0 0 = countedWord (s.word .endpoint .secRetiredDropCnt 0 0) 1 ∧ t.endpoint.xpt = s.endpoint.xpt)
  ∧ (p.opcode ≠ 0x94 → Answers (.dominoSeg port p) s fun t => t = s)
  ∧ (waits → p.stream = 0 → Answers (.dominoSeg port p) s fun t => t = refuseSegment p stAccessDenied s)
  ∧ (∀ st u, waits → p.stream ≠ 0 → checkRequest .endpoint p s = (.bad st, u) → Answers (.dominoSeg port p) s fun t => t = refuseSegment p st u)
  ∧ (∀ q a rm u, waits → p.stream ≠ 0 → checkRequest .endpoint p s = (.ok q a .ddr rm, u) → segmentChecks q u ≠ [] → Answers (.dominoSeg port p) s fun t =>
    t = refuseSegment p (reportStatus (segmentChecks q u)).1 u)
  ∧ (∀ q a rm, waits → p.stream ≠ 0 → checkRequest .endpoint p s = (.ok q a .ddr rm, s) → segmentChecks q s = [] → q.opx.getLsbD 10 = false →
    Answers (.dominoSeg port p) s fun t => conts t = conts s ++ [.domSeg port q]
      ∧ t.e.txns.getLast?.map (fun x => x.answers.length) = some ((q.payload.length + 255) / 256))
  ∧ (trigReserved data = true → Answers (.trigPost ctx atag data) s fun t => xr t stAccessDenied ∧ t.e = s.e)
  ∧ (trigReserved data = false → 4096 ≤ domPlaces s.e → Answers (.trigPost ctx atag data) s fun t => xr t stResource ∧ t.e = s.e)
  ∧ (posted → domErr trig.counter s = false → domValue trig.counter s < trig.threshold → Answers (.trigPost ctx atag data) s fun t =>
    xr t stOk ∧ t.e.trig = [trig] ∧ t.e.reached = s.e.reached ∧ t.rd .endpoint Fld.fxeDomStatusPending = domPlaces s.e + 1)
  ∧ (posted → domErr trig.counter s = false → trig.threshold ≤ domValue trig.counter s → Answers (.trigPost ctx atag data) s fun t =>
    xr t stOk ∧ t.e.trig = [] ∧ t.e.reached = s.e.reached ++ [trig] ∧ t.rd .endpoint Fld.fxeDomStatusPending = domPlaces s.e + 1)
  ∧ (posted → domErr trig.counter s = true → Answers (.trigPost ctx atag data) s fun t =>
    xr t stOk ∧ t.e.trig = [] ∧ t.e.reached = s.e.reached ∧ t.rd .endpoint Fld.fxeDomStatusPending = domPlaces s.e)
  ∧ (quiet → s.e.reached = [] → Answers .triggeredOpFire s fun t => t = s)
  ∧ (∀ r l, quiet → s.e.reached = r :: l → s.e.fired = [] → r.action = 2 → Answers .triggeredOpFire s fun t =>
    t.e.reached = l ∧ t.e.fired = [{ op := r, left := 1 }] ∧ conts t = conts s ++ [.domWord r.id])
  ∧ (∀ r l, quiet → s.e.reached = r :: l → s.e.fired = [] → r.action = 3 → Answers .triggeredOpFire s fun t =>
    t.e.reached = l ∧ t.e.fired = [{ op := r, left := 0 }] ∧ t.e.txns = s.e.txns)
  ∧ (s.e.fired.find? (fun r => decide (r.left = 0)) = none → Answers .triggeredOpComplete s fun t => t = s)
  ∧ (∀ r n, s.e.fired.find? (fun r => decide (r.left = 0)) = some r → r.statuses = [] → r.op.done = some n → domErr n s = false →
    Answers .triggeredOpComplete s fun t => t.e.fired = (s.e.fired.filter fun x => decide (x.op.id ≠ r.op.id))
      ∧ domValue n t = (domValue n s + 1) % 2 ^ 32)
  ∧ (∀ r, s.e.fired.find? (fun r => decide (r.left = 0)) = some r → r.statuses ≠ [] → Answers .triggeredOpComplete s fun t =>
    domErr (r.op.done.getD r.op.counter) t = true ∧ t.rd .endpoint Fld.fxeDomCtrErrStatus (r.op.done.getD r.op.counter) = (reportStatus r.statuses).1.toNat
      ∧ (t.word .endpoint .fxeIntStatus 0 0).getLsbD 5 = true ∧ t.e.fired = s.e.fired.filter fun x => decide (x.op.id ≠ r.op.id))
  ∧ (∀ n v, Answers (.domCtrWrite n v) s fun t => domValue n t = v % 2 ^ 32 ∧ domErr n t = false ∧ domCheck n t = checkStart
    ∧ OnlyChanges [.reg .endpoint .fxeDomCtr, .reg .endpoint .fxeDomStatus, .ep .domCheck, .ep .trig, .ep .reached] s t)
  ∧ (∀ q tail, qrd Fld.fxeDmaqEn q s = 0 → Answers (.dmaDoorbell q tail) s fun t => qrd Fld.fxeDmaqTail q t = tail % 2 ^ 16 ∧ t.e = s.e)
  ∧ (∀ q tail, q < 32 → qrd Fld.fxeDmaqEn q s = 1 → qrd Fld.fxeDmaqHead q s ≠ tail % 2 ^ 16 % 2 ^ qrd Fld.fxeDmaqSizeLog2 q s →
    (epQueue q s).fetching = false → (epQueue q s).failed = none → (epQueue q s).fetched.length + (epQueue q s).descs.length < 16 →
    Answers (.dmaDoorbell q tail) s fun t => qrd Fld.fxeDmaqTail q t = tail % 2 ^ 16 ∧ (epQueue q t).fetching = true ∧ conts t = conts s ++ [.fetch q])
  ∧ (∀ q, quiet → 32 ≤ q ∨ (epQueue q s).fetched = [] → Answers (.dmaDescriptor q) s fun t => t = s)
  ∧ (∀ q d l, quiet → q < 32 → (epQueue q s).fetched = d :: l → (dmaFence d && !(epQueue q s).descs.isEmpty) = false → dmaReserved d = true →
    Answers (.dmaDescriptor q) s fun t => (epQueue q t).fetched = l ∧ t.endpoint.xpt = s.endpoint.xpt
      ∧ (epQueue q t).descs.map (fun x => (x.serial, x.left, x.statuses)) = (epQueue q s).descs.map (fun x => (x.serial, x.left, x.statuses))
          ++ [((epQueue q s).nextSerial, 0, [stAccessDenied])])
  ∧ (∀ q d l n, quiet → q < 32 → (epQueue q s).fetched = d :: l → (dmaFence d && !(epQueue q s).descs.isEmpty) = false → dmaReserved d = false →
    leNat (slice d 0 1) % 16 = 0 → ctxRetired (64 + q) s = false → sendChecks (64 + q) (gfaEid (leNat (slice d 16 8))) 0x80 (leNat (slice d 1 1)) s = [] →
    pageCuts (gfaOff (leNat (slice d 16 8))) (leNat (slice d 4 4)) = [(0, n)] → (∀ o ∈ s.endpoint.xpt.ops, o.id < id) → Answers (.dmaDescriptor q) s fun t =>
      (epQueue q t).descs.map (fun x => (x.serial, x.left)) = (epQueue q s).descs.map (fun x => (x.serial, x.left)) ++ [((epQueue q s).nextSerial, 1)]
        ∧ t.endpoint.xpt.ops.map (fun o => (o.id, o.ctx, o.ready)) = s.endpoint.xpt.ops.map (fun o => (o.id, o.ctx, o.ready)) ++ [(id, some (64 + q), false)]
        ∧ conts t = conts s ++ [.dmaOut id])
  ∧ (∀ q, (epQueue q s).descs = [] → Answers (.dmaDescriptorDone q) s fun t => t = s)
  ∧ (∀ q d l, (epQueue q s).descs = d :: l → d.left ≠ 0 → Answers (.dmaDescriptorDone q) s fun t => t = s)
  ∧ (∀ q d l, (epQueue q s).descs = d :: l → d.left = 0 → Answers (.dmaDescriptorDone q) s fun t =>
    (epQueue q t).descs = ((d :: l).filter fun x => decide (x.serial ≠ d.serial)) ∧ qrd Fld.fxeDmaqLateStatus q t = 0
      ∧ conts s ++ [.record q] <+: conts t
      ∧ (d.statuses ≠ [] ∧ qrd Fld.fxeDmaqStopOnErr q s = 1 → qrd Fld.fxeDmaqEn q t = 0 ∧ qrd Fld.fxeDmaqStatus q t = (reportStatus d.statuses).1.toNat))
  ∧ (∀ q, (epQueue q s).failed = none → Answers (.queueFetchFail q) s fun t => t = s)
  ∧ (∀ q st, (epQueue q s).failed = some st → Answers (.queueFetchFail q) s fun t => (epQueue q t).failed = none ∧ qrd Fld.fxeDmaqEn q t = 0
    ∧ qrd Fld.fxeDmaqStatus q t = st.toNat ∧ (t.word .endpoint .fxeIntStatus 0 0).getLsbD 2 = true)

/-- A command of a queue whose running command is another does nothing. One tile of a MOVE from DDR5 puts its bytes at the
destination in the scratchpad; FILL and WRITE_IMM put VALUE there; CTA_LOAD_B keeps the bytes read as the matrix of its queue;
CTA_MATMUL writes the row of C that a row of A and that matrix give; each goes on to the next tile and leaves every other byte
of the scratchpad. A command that names the host space while translation is off ends with TRANSLATION_FAULT. COMMAND_COMPLETE
writes the record of the command that has ended, counts it and takes it from the queue; nothing happens before that. Rests on
12_engines_translation.md: R401, R403, R404, R405, R406, R408, R412; 10_reduction_datapath.md: R329; 17_host_interface.md:
R563. -/
def Obligations.EnginesRunCommands : Prop := ∀ (q a b n : Nat) (host : List Byte) (c : EngCmd) (s : State),
  let kinds := [(Instr.move q host, 0x01), (Instr.fill q, 0x02), (Instr.writeImm q, 0x03), (Instr.ctaLoadB q host, 0x10), (Instr.ctaMatmul q host, 0x11)]
  let quiet := s.endpoint.xpt.finished = [] ∧ s.module.xpt.finished = []
  let front := frontCmd q s = some c ∧ quiet
  let runs := front ∧ c.started = true ∧ c.ended = false ∧ c.tile < cmdTiles c ∧ c.phase = .looking ∧ c.lookups = [] ∧ arrayHeld q s = false
  let wrote := fun (t : State) (l : List Byte) => memRead t.m.eng.scratch b n = l ∧ (∀ x, x < b ∨ b + n ≤ x → memByte t.m.eng.scratch x = memByte s.m.eng.scratch x)
    ∧ frontCmd q t = some { c with tile := c.tile + 1, phase := .looking, lookups := [], buf := [], left := 0 }
  let done := front ∧ cmdDone c = true
  (∀ i op, (i, op) ∈ kinds → frontCmd q s = none → Answers i s fun t => t = s)
  ∧ (∀ i op, (i, op) ∈ kinds → frontCmd q s = some c → cmdOp c ≠ op → Answers i s fun t => t = s)
  ∧ (∀ i op, (i, op) ∈ kinds → front → cmdOp c = op → c.started = false ∨ c.ended = true ∨ cmdTiles c ≤ c.tile → Answers i s fun t => t = s)
  ∧ (∀ d, runs → cmdOp c = 0x01 → cmdSrcSpace c = 1 → cmdDstSpace c = 0 → tileReads c c.tile = [(a, n)] → tileWrites c c.tile = [(b, n)] →
    moduleRead .ddr (queueDdrKey q s) a n s = .ok d → d.length = n → Answers (.move q host) s fun t =>
      wrote t d ∧ OnlyChanges [.eng .scratch, .eng .queues] s t)
  ∧ (runs → cmdOp c = 0x02 → cmdDstSpace c = 0 → tileWrites c c.tile = [(b, n)] → Answers (.fill q) s fun t =>
    wrote t (fillBytes c c.tile) ∧ OnlyChanges [.eng .scratch, .eng .queues] s t)
  ∧ (runs → c.data.length = 64 → cmdOp c = 0x03 → cmdDstSpace c = 0 → b = cmdDst c → n = 8 → Answers (.writeImm q) s fun t =>
    wrote t (slice c.data 56 8) ∧ OnlyChanges [.eng .scratch, .eng .queues] s t)
  ∧ (runs → cmdOp c = 0x10 → cmdSrcSpace c = 0 → Answers (.ctaLoadB q host) s fun t =>
    (engQueue q t).matrix = some { fmt := cmdAFmt c, k := cmdK c, n := cmdN c, bytes := memRead s.m.eng.scratch (cmdSrc c) (matrixBytes c) }
      ∧ (frontCmd q t).map (fun x => (x.tile, x.phase)) = some (c.tile + 1, .looking) ∧ t.m.eng.scratch = s.m.eng.scratch)
  ∧ (∀ m, runs → cmdOp c = 0x11 → cmdSrcSpace c = 0 → cmdDstSpace c = 0 → (engQueue q s).matrix = some m → m.fmt = cmdAFmt c → m.k = cmdK c →
    m.n = cmdN c → tileReads c c.tile = [(a, rowABytes c)] → tileWrites c c.tile = [(b, n)] → 0 < rowABytes c →
    (rowOfC c m (memRead s.m.eng.scratch a (rowABytes c))).length = n → Answers (.ctaMatmul q host) s fun t =>
      wrote t (rowOfC c m (memRead s.m.eng.scratch a (rowABytes c))) ∧ (engQueue q t).matrix = some m)
  ∧ (∀ i op, (i, op) ∈ kinds → runs → cmdOp c = op → (cmdSpaces c).contains 2 = true → atsOn s = false → Answers i s fun t =>
    (frontCmd q t).map (fun x => (x.ended, x.statuses, x.outcome, x.tile)) = some (true, c.statuses ++ [stTranslationFault], outNotApplied, c.tile)
      ∧ OnlyChanges [.eng .queues] s t)
  ∧ (∀ refused, front → cmdDone c = false → Answers (.commandComplete q refused) s fun t => t = s)
  ∧ (∀ refused, quiet → frontCmd q s = none → Answers (.commandComplete q refused) s fun t => t = s)
  ∧ (∀ l, done → (engQueue q s).cmds = c :: l → s.rdb .module Fld.engQrCplDdr q = false → hostOpen s = true → s.rdb .module Fld.engQrEn q = false →
    Answers (.commandComplete q false) s fun t => (engQueue q t).cmds.map (·.index) = l.map (·.index)
      ∧ t.rd .module Fld.engQrCtail q = (s.rd .module Fld.engQrCtail q + 1) % 2 ^ 16 ∧ t.rd .module Fld.engQLateStatus q = 0
      ∧ s.module.out ++ [.hostWrite none (cplAddr q s) (leBytes 8 (commandWord c (reportStatus c.statuses).1 (s.rd .module Fld.engQLateStatus q)).toNat
          ++ leBytes 8 (recordWord q (ringSize q s) c (reportStatus c.statuses).1).toNat)] <+: t.module.out
      ∧ t.word .module .engCmdCnt 0 0 = countedWord (s.word .module .engCmdCnt 0 0) 1)

/-- A Translation Completion of no request does nothing; one that an invalidation has overtaken asks again; any other enters the
second level where it grants something. A Page Request Group Response takes its group, and is counted and signalled where it
fails. An Invalidate Request withdraws every translation it touches and marks the requests it covers, unless its ITag is in
use or 32 are in progress. It completes, counted and answered, once nothing uses what it covers, or at the bound after the
commands that still do have been aborted. ATS_FLUSH empties both levels. Rests on 12_engines_translation.md: R411, R412, R413,
R415, R416, R421, R426. -/
def Obligations.TranslationsComeAndGo : Prop := ∀ (pasid page size : Nat) (r w : Bool) (itag lo hi : Nat) (who : Option Nat) (s : State),
  let mine := fun (k : AtsAsk) => decide (k.pasid = pasid) && decide (k.page = page)
  let x : Xlat := { pasid := pasid, page := page / 2 ^ (size - 12) * 2 ^ (size - 12), size := size, read := r, write := w }
  let i : Inval := { itag := itag, pasid := who, lo := lo, hi := hi }
  let bare := s.m.eng.queues = [] ∧ s.m.eng.threads = []
  let completed := fun (t : State) => t.m.eng.ats.invals = (s.m.eng.ats.invals.filter fun y => decide (y.itag ≠ itag))
    ∧ t.word .module .atsInvCnt 0 0 = countedWord (s.word .module .atsInvCnt 0 0) 1 ∧ t.module.out.getLast? = some (.invalidateCompletion itag)
  (s.m.eng.ats.asks.find? mine = none → Answers (.atsTranslationCompletion pasid page size r w) s fun t => t = s)
  ∧ (∀ k, s.m.eng.ats.asks.find? mine = some k → k.stale = true → Answers (.atsTranslationCompletion pasid page size r w) s fun t =>
    t.m.eng.ats.asks = (s.m.eng.ats.asks.filter fun k => !mine k) ++ [{ pasid := pasid, page := page }]
      ∧ t.module.out.getLast? = some (.translationRequest pasid page) ∧ t.m.eng.ats.l2 = s.m.eng.ats.l2)
  ∧ (∀ k, s.m.eng.ats.asks.find? mine = some k → k.stale = false → (r || w) = true → bare → Answers (.atsTranslationCompletion pasid page size r w) s fun t =>
    (smapGet t.m.eng.ats.l2 [] (l2Set x.page size)).head? = some x ∧ t.m.eng.ats.asks = (s.m.eng.ats.asks.filter fun k => !mine k)
      ∧ OnlyChanges [.eng .ats] s t)
  ∧ (∀ g ok, s.m.eng.ats.groups.find? (fun y => decide (y.group = g)) = none → Answers (.pageRequestResponse g ok) s fun t => t = s)
  ∧ (∀ g ok y, s.m.eng.ats.groups.find? (fun y => decide (y.group = g)) = some y → y.thread = none → Answers (.pageRequestResponse g ok) s fun t =>
    t.m.eng.ats.groups = (s.m.eng.ats.groups.filter fun y => decide (y.group ≠ g))
      ∧ (ok = false → t.word .module .atsPrFailCnt 0 0 = countedWord (s.word .module .atsPrFailCnt 0 0) 1))
  ∧ ((s.m.eng.ats.invals.any fun y => decide (y.itag = itag)) = true ∨ 32 ≤ s.m.eng.ats.invals.length → Answers (.atsInvalidate itag who lo hi) s fun t => t = s)
  ∧ ((s.m.eng.ats.invals.any fun y => decide (y.itag = itag)) = false → s.m.eng.ats.invals.length < 32 → Answers (.atsInvalidate itag who lo hi) s fun t =>
    t.m.eng.ats.invals = s.m.eng.ats.invals ++ [i] ∧ t.rd .module Fld.atsStatusInvPending = s.m.eng.ats.invals.length + 1
      ∧ (∀ y ∈ t.m.eng.ats.l1 ++ t.m.eng.ats.l2, ∀ z ∈ y.2, invTouches i z = false)
      ∧ t.m.eng.ats.asks = s.m.eng.ats.asks.map fun k => if invCovers i k.pasid k.page then { k with stale := true } else k)
  ∧ (∀ c, c ∈ [Instr.invalidateDrained itag, Instr.invalidateBound itag] → invalOf itag s = none → Answers c s fun t => t = s)
  ∧ (∀ y, invalOf itag s = some y → ((queuesUsing y s).isEmpty && (threadsUsing y s).isEmpty) = false → Answers (.invalidateDrained itag) s fun t => t = s)
  ∧ (∀ c y, c ∈ [Instr.invalidateDrained itag, Instr.invalidateBound itag] → invalOf itag s = some y → queuesUsing y s = [] → threadsUsing y s = [] →
    Answers c s fun t => completed t ∧ t.m.eng.queues = s.m.eng.queues)
  ∧ (∀ y q, invalOf itag s = some y → queuesUsing y s = [q] → threadsUsing y s = [] → Answers (.invalidateBound itag) s fun t => completed t
    ∧ (frontCmd q t).map (fun c => (c.ended, c.invAbort, c.outcome)) = some (true, true, outUnknown)
    ∧ t.word .module .atsInvAbortCnt 0 0 = countedWord (s.word .module .atsInvAbortCnt 0 0) 1)
  ∧ (∀ path, Answers (.atsFlush path) s fun t => (∀ y ∈ t.m.eng.ats.l1 ++ t.m.eng.ats.l2, y.2 = []) ∧ OnlyChanges [.eng .ats] s t)

/-- A thread that is not ready executes nothing. A load or acquire load of a cached line gives rd its bytes, one that misses waits
until PUPPET_ACCESS_DONE fills the line; a store writes its bytes, an atomic or PCAS gives rd the old bytes and writes the
new; SC gives 1; a fabric access to a group is refused with NO_WINDOW. An access outside the grant ends the program with its
status. PUPPET_EXIT and PUP_KILL end a program, PUP_LOAD starts one on free cores or reports why not. A fence makes its thread
wait until FENCE_COMPLETE. PUPPET_MSG writes a message and its length into the ring, or is refused. Rests on
12_engines_translation.md: R418, R419, R420, R421, R422, R423, R424; 06_transport_ordering.md: R204;
02_identities_addresses.md: R53. -/
def Obligations.PuppetThreadsAccess : Prop := ∀ (c h pc addr size op : Nat) (data : List Byte) (rl rz : Bool) (pcmp w : Word) (s : State),
  let quiet := s.endpoint.xpt.finished = [] ∧ s.module.xpt.finished = []
  let ready := quiet ∧ threadReady c h s = true
  let can := ready ∧ s.m.power.loss = false ∧ accessFault c addr size s = none
  let at_ := addr % 2 ^ 62
  let x := pupThread c h s
  let loads := [Instr.puppetLoad c h pc addr size w, Instr.puppetLrAq c h pc addr size w]
  let accesses := loads ++ [Instr.puppetStore c h pc addr data w, Instr.puppetAmo c h pc addr op data rl rz w, Instr.pcas c h pc addr size data pcmp w]
  let scratch := addr / 2 ^ 62 = 0
  let wrote := fun (t : State) (l : List Byte) => memRead t.m.eng.scratch at_ l.length = l
    ∧ (∀ y, y < at_ ∨ at_ + l.length ≤ y → memByte t.m.eng.scratch y = memByte s.m.eng.scratch y)
  let amo : PupAccess := { kind := .atomic, addr := addr, size := data.length, data := data, op := op, pc := pc }
  let swap : PupAccess := { kind := .atomic, addr := addr, size := size, data := leBytes size pcmp.toNat ++ fitTo size data, op := 9, pc := pc }
  (∀ i, i ∈ accesses ++ [Instr.puppetSc c h, Instr.puppetFence c h, Instr.puppetExit c h] → quiet → threadReady c h s = false → Answers i s fun t => t = s)
  ∧ (∀ i l, i ∈ loads → can → scratch → dcacheLine c (at_ / 64) s = some l → Answers i s fun t =>
    (pupThread c h t).rd = slice l (at_ % 64) size ∧ (pupThread c h t).waiting = none ∧ (pupThread c h t).pfeid = w ∧ t.m.eng.scratch = s.m.eng.scratch)
  ∧ (∀ i, i ∈ loads → can → scratch → dcacheLine c (at_ / 64) s = none → Answers i s fun t =>
    (pupThread c h t).waiting.map (fun a => (a.addr, a.size, a.issued)) = some (addr, size, false) ∧ (pupThread c h t).rd = x.rd)
  ∧ (∀ a, quiet → x.waiting = some a → a.issued = false → a.kind = .load ∨ a.kind = .acquire → a.addr / 2 ^ 62 = 0 → dcacheLine c (a.addr % 2 ^ 62 / 64) s = none →
    Answers (.puppetAccessDone c h data) s fun t => (pupThread c h t).waiting = none
      ∧ (pupThread c h t).rd = slice (memRead s.m.eng.scratch (a.addr % 2 ^ 62 / 64 * 64) 64) (a.addr % 2 ^ 62 % 64) a.size
      ∧ dcacheLine c (a.addr % 2 ^ 62 / 64) t = some (memRead s.m.eng.scratch (a.addr % 2 ^ 62 / 64 * 64) 64))
  ∧ (quiet → ready → s.m.power.loss = false → accessFault c addr data.length s = none → scratch → postedStores c h s < 8 →
    Answers (.puppetStore c h pc addr data w) s fun t => wrote t data ∧ (pupThread c h t).waiting = none ∧ t.m.pool = s.m.pool)
  ∧ (∀ v, ready → s.m.power.loss = false → accessFault c addr data.length s = none → scratch → pupAtomic amo (memRead s.m.eng.scratch at_ data.length) = some v →
    Answers (.puppetAmo c h pc addr op data rl rz w) s fun t => wrote t v ∧ (pupThread c h t).rd = memRead s.m.eng.scratch at_ data.length)
  ∧ (∀ v, can → scratch → pupAtomic swap (memRead s.m.eng.scratch at_ size) = some v → Answers (.pcas c h pc addr size data pcmp w) s fun t =>
    wrote t v ∧ (pupThread c h t).rd = memRead s.m.eng.scratch at_ size ∧ (pupThread c h t).pcmp = pcmp)
  ∧ (∀ i, i ∈ loads → can → 3 ≤ addr / 2 ^ 62 → isGroupEid (BitVec.ofNat 20 (bitsOf w 19 0)) = true → Answers i s fun t =>
    (pupThread c h t).rd = List.replicate size 0xFF ∧ (pupThread c h t).pstat = BitVec.ofNat 64 stNoWindow.toNat ∧ t.module.xpt = s.module.xpt)
  ∧ (ready → Answers (.puppetSc c h) s fun t => (pupThread c h t).rd = leBytes 8 1 ∧ OnlyChanges [.eng .threads] s t)
  ∧ (∀ i st p, i ∈ loads → ready → s.m.power.loss = false → accessFault c addr size s = some st → progOf c s = some p → progState p s = 2 → s.module.xpt.ops = [] →
    Answers i s fun t => progState p t = 4 ∧ t.rd .module Fld.pupProgStatus p = st.toNat ∧ t.m.eng.scratch = s.m.eng.scratch ∧ t.m.pool = s.m.pool)
  ∧ (ready → Answers (.puppetFence c h) s fun t => (pupThread c h t).fence = true
    ∧ t.module.xpt.fences = s.module.xpt.fences ++ [{ id := s.module.xpt.nextOp, ctx := pupCtx c h, use := .puppet c h }])
  ∧ (∀ sd ctx, takeFence sd ctx s = none → Answers (.fenceComplete sd ctx) s fun t => t = s)
  ∧ (∀ f c' atag, quiet → s.endpoint.xpt.ops = [] → s.e.accs = [] → s.endpoint.xpt.fences.find? (fun f => decide (f.ctx = c')) = some f →
    f.use = .xq c' atag 0 0 → Answers (.fenceComplete .endpoint c') s fun t =>
      t.endpoint.xpt.fences = (s.endpoint.xpt.fences.filter fun g => decide (g.id ≠ f.id))
        ∧ t.endpoint.out.getLast? = some (.xr (c' / 32) atag (reportStatus f.statuses).1 (if (reportStatus f.statuses).1 = stOk then outApplied else outNotApplied) false false 0 []))
  ∧ (∀ f, quiet → s.module.xpt.ops = [] → s.module.xpt.fences.find? (fun f => decide (f.ctx = pupCtx c h)) = some f → f.use = .puppet c h →
    Answers (.fenceComplete .module (pupCtx c h)) s fun t => (pupThread c h t).fence = false ∧ smapGet? t.m.eng.dcache c = none
      ∧ (pupThread c h t).pstat = BitVec.ofNat 64 (reportStatus f.statuses).1.toNat)
  ∧ (∀ p, threadReady c h s = true → progOf c s = some p → progState p s = 2 → s.module.xpt.ops = [] → Answers (.puppetExit c h) s fun t =>
    progState p t = 4 ∧ t.rd .module Fld.pupProgStatus p = stOk.toNat)
  ∧ (∀ path p, progState p s = 2 → s.module.xpt.ops = [] → Answers (.pupKill path p) s fun t =>
    progState p t = 4 ∧ t.rd .module Fld.pupProgStatus p = stAborted.toNat)
  ∧ (∀ path p, progState p s ≠ 2 → Answers (.pupKill path p) s fun t => t = s)
  ∧ (∀ path g, bitsOf w 59 48 = 0 ∨ 64 < bitsOf w 59 48 → Answers (.pupLoad path w g) s fun t =>
    t = regAccess .module (regOffset .module .pupLoad 0 0) w.toNat s ∧ t.m.eng = s.m.eng)
  ∧ (∀ path g, 1 ≤ bitsOf w 59 48 → bitsOf w 59 48 ≤ 64 → Answers (.pupLoad path w g) s fun t =>
    let st := (reportStatus (loadChecks (bitsOf w 63 60) (bitsOf w 59 48) (stagedImage (bitsOf w 41 0) s) g s)).1
    t.rd .module Fld.pupProgStatus (bitsOf w 63 60) = st.toNat ∧ (st ≠ stOk → t.m.eng = s.m.eng)
      ∧ (st = stOk → progState (bitsOf w 63 60) t = 2 ∧ grantOf (bitsOf w 63 60) t = some g
        ∧ t.rd .module Fld.pupProgCoreCount (bitsOf w 63 60) = bitsOf w 59 48))
  ∧ (∀ port p, p.opcode ≠ 0xA1 → Answers (.puppetMsg port p none) s fun t => t = s)
  ∧ (∀ port p q, quiet → p.opcode = 0xA1 → (findWork .module p s).isSome = true → msgChecks p (some at_) s = (.inl q, s) → Answers (.puppetMsg port p (some at_)) s fun t =>
    wrote t (leBytes 8 q.payload.length ++ q.payload) ∧ t.m.pool = s.m.pool)
  ∧ (∀ port p u, quiet → p.opcode = 0xA1 → (findWork .module p s).isSome = true → msgChecks p none s = (.inr stRetryLater, u) → Answers (.puppetMsg port p none) s fun t =>
    t.m.eng.scratch = s.m.eng.scratch ∧ t = sendNack .module stRetryLater p (u.onXpt .module fun x => { x with work := x.work.filter fun w => !sameSeq w.pkt p }))

/-- A read of BAR2 while the function is closed ends with Unsupported Request, a write is dropped. A window that is not valid or
lacks the right fails the access: counted, latched where nothing is, a read answered with 0xFF. An open access of one piece
enters the transport in the context of its window; a read past the 256th waits. A doorbell writes TAIL, fetches what waits,
and stops a queue that is overrun; CHEAD is written; EN set from 0 starts the counts anew and EN cleared ends fetching. A
fetched command joins its queue and HEAD passes it; a refused or timed-out fetch stops the queue with its status. Rests on
17_host_interface.md: R554, R558, R559, R560, R561, R562, R564; 12_engines_translation.md: R399. -/
def Obligations.ApertureAndQueueRegisters : Prop := ∀ (off len q : Nat) (data : List Byte) (s : State),
  let quiet := s.endpoint.xpt.finished = [] ∧ s.module.xpt.finished = []
  let window := off / 2 ^ 30
  let id := s.module.xpt.nextOp
  let tlp := fun (write : Bool) (n : Nat) => ({ id := s.m.pci.nextApt, window := window, write := write, offset := off, gfa := aptGfa off s, len := n, data := List.replicate (if write then 0 else n) 0xFF } : AptTlp)
  let op := fun (write : Bool) (n : Nat) => ({ id := id, ctx := some (aptCtx window), use := .aperture s.m.pci.nextApt 0, pkt := aptPacket (tlp write n) (0, n) data s, ready := true } : SrcOp)
  let goes := fun (o : SrcOp) => (match mayIssue .module o (s.onXpt .module fun x => { x with nextOp := id + 1, ops := x.ops ++ [o] }) with | .fail _ => false | .restart => false | _ => true) = true
  let enters := fun (t : State) (o : SrcOp) => t.module.xpt.ops.map (fun o => (o.id, o.ctx, o.pkt)) = s.module.xpt.ops.map (fun o => (o.id, o.ctx, o.pkt)) ++ [(o.id, o.ctx, o.pkt)]
    ∧ t.m.pci.apt.map (fun x => (x.id, x.started, x.left)) = s.m.pci.apt.map (fun x => (x.id, x.started, x.left)) ++ [(s.m.pci.nextApt, true, 1)]
  let fresh := (∀ o ∈ s.module.xpt.ops, o.id < id) ∧ (∀ x ∈ s.m.pci.apt, x.id < s.m.pci.nextApt)
  let stopped := fun (t : State) (st : Status) => t.rdb .module Fld.engQrEn q = false ∧ t.rdb .module Fld.engQrStopped q = true
    ∧ t.rd .module Fld.engQrStatus q = st.toNat ∧ (engQueue q t).fetching = false ∧ (t.word .module .pciIntStatus (q / 64) 0).getLsbD (q % 64) = true
  let failed := fun (t : State) (st : Status) (write : Bool) => t.word .module .pciAptErrCnt 0 0 = countedWord (s.word .module .pciAptErrCnt 0 0) 1
    ∧ (s.rdb .module Fld.pciAptErrValid = false → t.rdb .module Fld.pciAptErrValid = true ∧ t.rd .module Fld.pciAptErrStatus = st.toNat
      ∧ t.rdb .module Fld.pciAptErrWrite = write)
  (memoryOpen s = false → Answers (.apertureRead off len) s fun t => t.module.out = s.module.out ++ [.hostUnsupported] ∧ OnlyChanges [.unit .module .out] s t)
  ∧ (memoryOpen s = false → Answers (.apertureWrite off data) s fun t => t = s)
  ∧ (∀ st, memoryOpen s = true → quiet → aptRefuses false off s = some st → Answers (.apertureRead off len) s fun t =>
    failed t st false ∧ t.module.out.getLast? = some (.hostCompletion (List.replicate len 0xFF)) ∧ t.module.xpt = s.module.xpt)
  ∧ (∀ st, memoryOpen s = true → quiet → aptRefuses true off s = some st → Answers (.apertureWrite off data) s fun t =>
    failed t st true ∧ t.module.xpt = s.module.xpt)
  ∧ (memoryOpen s = true → quiet → aptRefuses false off s = none → 256 ≤ (s.m.pci.apt.filter fun x => !x.write && x.started).length →
    Answers (.apertureRead off len) s fun t => t.m.pci.apt = s.m.pci.apt ++ [tlp false len] ∧ t.module.xpt = s.module.xpt)
  ∧ (memoryOpen s = true → quiet → aptRefuses false off s = none → (s.m.pci.apt.filter fun x => !x.write && x.started).length < 256 → fresh →
    aptWriteBefore window id s = false → aptPieces (aptGfa off s) (len / 256 + 2) 0 len = [(0, len)] →
    goes { op false len with pkt := aptPacket (tlp false len) (0, len) [] s } → Answers (.apertureRead off len) s fun t =>
      enters t { op false len with pkt := aptPacket (tlp false len) (0, len) [] s })
  ∧ (memoryOpen s = true → quiet → aptRefuses true off s = none → fresh → aptPieces (aptGfa off s) (data.length / 256 + 2) 0 data.length = [(0, data.length)] →
    goes (op true data.length) → Answers (.apertureWrite off data) s fun t => enters t (op true data.length))
  ∧ (∀ tail, s.rdb .module Fld.engQrEn q = false → Answers (.queueDoorbell q tail) s fun t =>
    t.rd .module Fld.engQdbTail q = tail % 2 ^ 16 ∧ OnlyChanges [.reg .module .engQdb] s t)
  ∧ (∀ tail, s.rdb .module Fld.engQrEn q = true → ringSize q s < (tail % 2 ^ 16 + 2 ^ 16 - s.rd .module Fld.engQrHead q) % 2 ^ 16 →
    Answers (.queueDoorbell q tail) s fun t => t.rd .module Fld.engQdbTail q = tail % 2 ^ 16 ∧ stopped t stResource)
  ∧ (∀ tail, s.rdb .module Fld.engQrEn q = true → (tail % 2 ^ 16 + 2 ^ 16 - s.rd .module Fld.engQrHead q) % 2 ^ 16 ≤ ringSize q s →
    (engQueue q s).fetching = false → s.rd .module Fld.engQrHead q ≠ tail % 2 ^ 16 → s.rdb .module Fld.engQrCmdDdr q = true →
    (s.rd .module Fld.engQrHead q + 2 ^ 16 - s.rd .module Fld.engQdbChead q) % 2 ^ 16 < ringSize q s → s.rd .module Fld.pciStatusDState = 0 →
    Answers (.queueDoorbell q tail) s fun t => t.rd .module Fld.engQdbTail q = tail % 2 ^ 16 ∧ (engQueue q t).fetching = true)
  ∧ (∀ v, Answers (.cheadWrite q v) s fun t => t.rd .module Fld.engQdbChead q = v % 2 ^ 16
    ∧ OnlyChanges [.reg .module .engQdb, .eng .queues, .unit .module .out] s t)
  ∧ (∀ path v, rwlOpen .module path (regOffset .module .engQr q 2) s = true → s.rdb .module Fld.engQrEn q = false → v.getLsbD 63 = true →
    6 ≤ bitsOf v 4 0 → bitsOf v 4 0 ≤ 16 → Answers (.queueEnable path q v) s fun t => t.rdb .module Fld.engQrEn q = true
      ∧ t.rd .module Fld.engQrSizeLog2 q = bitsOf v 4 0 ∧ t.rd .module Fld.engQrHead q = 0 ∧ t.rd .module Fld.engQdbTail q = 0
      ∧ t.rdb .module Fld.engQrStopped q = false ∧ t.rdb .module Fld.engQrStopOnErr q = v.getLsbD 62 ∧ (engQueue q t).count = 0)
  ∧ (∀ path v, rwlOpen .module path (regOffset .module .engQr q 2) s = true → v.getLsbD 63 = false → Answers (.queueEnable path q v) s fun t =>
    t.rdb .module Fld.engQrEn q = false ∧ (engQueue q t).fetching = false)
  ∧ (∀ path v, rwlOpen .module path (regOffset .module .engQr q 2) s = false → Answers (.queueEnable path q v) s fun t =>
    t.word .module .engQr q 2 = s.word .module .engQr q 2 ∧ t.m.eng = s.m.eng)
  ∧ (∀ r, (engQueue q s).fetching = false → Answers (.ringFetchDone q r) s fun t => t = s)
  ∧ (∀ l, (engQueue q s).fetching = true → s.rdb .module Fld.engQrCmdDdr q = false → Answers (.ringFetchDone q (.data l)) s fun t =>
    (engQueue q t).cmds.map (·.data) = (engQueue q s).cmds.map (·.data) ++ [fitTo 64 l] ∧ (engQueue q t).count = (engQueue q s).count + 1
      ∧ t.rd .module Fld.engQrHead q = (s.rd .module Fld.engQrHead q + 1) % 2 ^ 16)
  ∧ ((engQueue q s).fetching = true → s.rdb .module Fld.engQrCmdDdr q = false → Answers (.ringFetchDone q .refused) s fun t => stopped t stAccessDenied)
  ∧ ((engQueue q s).fetching = true → s.rdb .module Fld.engQrCmdDdr q = false → Answers (.completionTimeout (.ringFetch q)) s fun t => stopped t stTimeout)
  ∧ ((engQueue q s).fetching = false → Answers (.completionTimeout (.ringFetch q)) s fun t => t = s)

/-- A write of ones clears bits of PCI.INT_STATUS, and a source whose condition still holds sets again. A deferred message leaves
once it may: to its vector, or into the pending bit of a masked one. Unmasking a vector sends what is pending. Bus Master
Enable cleared stops queues that wait for the host. The function enters D3hot once no aperture read is outstanding, and
returns to D0. Configuration writes set Memory Space Enable, ATS, PASID and PRI. Rests on 17_host_interface.md: R552, R554,
R565, R566, R568; 12_engines_translation.md: R414. -/
def Obligations.InterruptsAndTheFunction : Prop := ∀ (s : State),
  let pci := s.m.pci
  (∀ path i mask, ((setBits 64 (s.word .module .pciIntStatus i 0 &&& mask).toNat).filter fun b => sourceHolds (64 * i + b) s) = [] →
    Answers (.intStatusClear path i mask) s fun t => t.word .module .pciIntStatus i 0 = s.word .module .pciIntStatus i 0 &&& ~~~mask
      ∧ OnlyChanges [.reg .module .pciIntStatus] s t)
  ∧ (∀ path q, q < 72 → (s.word .module .pciIntStatus (q / 64) 0).getLsbD (q % 64) = true → s.rdb .module Fld.engQrStopped q = true →
    Answers (.intStatusClear path (q / 64) (1#64 <<< (q % 64))) s fun t => (t.word .module .pciIntStatus (q / 64) 0).getLsbD (q % 64) = true)
  ∧ (∀ src, pci.deferred.contains src = true → mayMessage s = true → pci.functionMask = false → pci.unmasked.contains (s.rd .module Fld.pciIntRouteVector src) = true →
    Answers (.interruptHoldoff src) s fun t => t.module.out = s.module.out ++ [.msix (s.rd .module Fld.pciIntRouteVector src)]
      ∧ t.m.pci.deferred = pci.deferred.filter (· ≠ src) ∧ smapGet? t.m.pci.lastMessage src = some s.now
      ∧ OnlyChanges [.unit .module .out, .mod .pci] s t)
  ∧ (∀ src, pci.deferred.contains src = true → mayMessage s = true → pci.functionMask = true ∨ pci.unmasked.contains (s.rd .module Fld.pciIntRouteVector src) = false →
    Answers (.interruptHoldoff src) s fun t => t.module.out = s.module.out ∧ t.m.pci.pba.contains (s.rd .module Fld.pciIntRouteVector src) = true
      ∧ t.m.pci.deferred = pci.deferred.filter (· ≠ src))
  ∧ (∀ src, pci.deferred.contains src = false ∨ mayMessage s = false → Answers (.interruptHoldoff src) s fun t => t = s)
  ∧ (∀ v, pci.pba.contains v = true → pci.functionMask = false → Answers (.vectorUnmask v) s fun t => t.module.out = s.module.out ++ [.msix v]
    ∧ t.m.pci.pba = (pci.pba.filter fun x => decide (x ≠ v)) ∧ t.m.pci.unmasked.contains v = true ∧ OnlyChanges [.unit .module .out, .mod .pci] s t)
  ∧ (∀ v, pci.pba.contains v = false ∨ pci.functionMask = true → Answers (.vectorUnmask v) s fun t =>
    t.m.pci.unmasked.contains v = true ∧ OnlyChanges [.mod .pci] s t)
  ∧ ((∀ (q : Nat), q < 72 → (engQueue q s).fetching = false) → Answers .busMasterDisable s fun t => t.m.pci = { pci with busMaster := false } ∧ OnlyChanges [.mod .pci] s t)
  ∧ (∀ q k, s.m.eng.queues = [(q, k)] → q < 72 → k.fetching = true → s.rdb .module Fld.engQrCmdDdr q = false → Answers .busMasterDisable s fun t =>
    t.m.pci.busMaster = false ∧ t.rdb .module Fld.engQrStopped q = true ∧ t.rd .module Fld.engQrStatus q = stAccessDenied.toNat)
  ∧ (pci.apt.all (fun x => x.write) = true → Answers (.dStateChange true) s fun t => t.rd .module Fld.pciStatusDState = 3
    ∧ t.m.pci.d3Due = false ∧ OnlyChanges [.reg .module .pciStatus, .mod .pci] s t)
  ∧ (pci.apt.all (fun x => x.write) = false → Answers (.dStateChange true) s fun t => t.m.pci = { pci with d3Due := true } ∧ OnlyChanges [.mod .pci] s t)
  ∧ (Answers (.dStateChange false) s fun t => t.rd .module Fld.pciStatusDState = 0 ∧ t.m.pci.d3Due = false)
  ∧ (∀ b, bringStep s ≠ 2 → Answers (.configurationWrite (.memoryEnable b)) s fun t => t.m.pci = { pci with memEnable := b } ∧ OnlyChanges [.mod .pci] s t)
  ∧ (∀ b, bringStep s ≠ 2 → Answers (.configurationWrite (.ats b)) s fun t => t.rdb .module Fld.atsStatusAtsEn = b ∧ OnlyChanges [.reg .module .atsStatus] s t)
  ∧ (∀ b, bringStep s ≠ 2 → Answers (.configurationWrite (.pasid b)) s fun t => t.rdb .module Fld.atsStatusPasidEn = b ∧ OnlyChanges [.reg .module .atsStatus] s t)
  ∧ (∀ b n, bringStep s ≠ 2 → Answers (.configurationWrite (.pri b n)) s fun t => t.rdb .module Fld.atsStatusPriEn = b
    ∧ t.rd .module Fld.atsStatusPrAlloc = min n 512 ∧ OnlyChanges [.reg .module .atsStatus] s t)

/-- For the step under way, and for the step that the command's write of STEP starts: the fuse map is kept and the map and slices
follow it, or a parity error ends the step with INTERNAL; the image's first failed check sets STATE FAILED, STATUS and
section, and a passing image gives role and digest; BIST sets the bad tiles, the map, the counts; NoC training needs one plane
and the image's sections as verified; DDR5 training records the channels; calibration maps lanes to good slices; link training
needs a module's EID; Top lock and enable. A write that may not start the step is discarded and recorded. Rests on
13_jigsaw_bringup.md: R16, R430, R431, R435, R436, R438, R441, R442, R447; 03_lanes.md: R98. -/
def Obligations.BringUpStepsDoTheirWork : Prop := ∀ (path : Path) (s : State),
  let runs := fun (n : Nat) => bringStep s = n ∧ bringBusy s = true ∧ s.m.bring.outcome = none
  let begins := fun (n : Nat) => bringBusy s = false ∧ rwlOpen .module path (regOffset .module .glbBringupCtl 0 0) s = true ∧ mayStartStep n s = true
  let closed := fun (n : Nat) => bringBusy s = false ∧ (rwlOpen .module path (regOffset .module .glbBringupCtl 0 0) s = false ∨ mayStartStep n s = false)
  let busyAt := fun (n : Nat) (t : State) => bringStep t = n ∧ bringBusy t = true ∧ bringFail t = (if bringBusy s then bringFail s else false)
  let ended := fun (t : State) (o : Option Status) => t.m.bring.outcome = some o
  let discarded := fun (t : State) => OnlyChanges [.reg .module .secOwnDiscardCnt, .reg .module .fltLogStatus, .reg .module .fltLostCnt,
    .reg .module .fltSuppressCnt, .reg .module .fltLog, .reg .module .telOvfEventCnt, .reg .module .pciIntStatus, .unit .module .evtTimes, .unit .module .out,
    .mod .ownDiscardAt, .mod .pci] s t
  let failedImage := fun (t : State) (st : Nat) (sec : Nat) => t.rdb .module Fld.glbRoleValid = false ∧ t.rd .module Fld.jigStatusState = 4
    ∧ t.rd .module Fld.jigStatusStatus = st ∧ t.rd .module Fld.jigStatusFailSection = sec % 256
  let mapped := fun (t : State) (rows : List (Nat × Nat)) => (∀ k : Nat, k < 2048 → t.rd .module Fld.tilMapPhysCol k = (goodColumns (k / 32) fun p => physBad p rows t).getD (k % 32) 0)
    ∧ (∀ k : Nat, k < 2048 → t.rdb .module Fld.tilMapRedirect k = false)
    ∧ (∀ k : Nat, k < 2048 → tileRole k t = if s.m.bring.roleMap.isEmpty then 0 else if tileMissing k (fun p => physBad p rows t) then 7 else imageRole k s)
  let sliced := fun (t : State) => ∀ n : Nat, n < 1024 → t.rd .module Fld.lnkStatusSlice n = ((List.range 136).filter fun x => !t.module.badSlices.contains (n / 128, x)).getD (n % 128) 255
  let noc0 := fun (ok : Bool) => ok && !s.rdb .module Fld.nocCtlPlane0Dis
  let noc1 := fun (ok : Bool) => ok && !s.rdb .module Fld.nocCtlPlane1Dis
  (∀ fuse, (runs 3 ∨ begins 3) → fuse.parityError = true → Answers (.fuseMapRead path fuse) s fun t => busyAt 3 t ∧ ended t (some stInternal)
    ∧ t.m.tile = s.m.tile)
  ∧ (∀ fuse, (runs 3 ∨ begins 3) → fuse.parityError = false → Answers (.fuseMapRead path fuse) s fun t => busyAt 3 t ∧ ended t none
    ∧ t.m.tile = { s.m.tile with fuse := fuse } ∧ mapped t [] ∧ sliced t)
  ∧ (∀ fuse, closed 3 → Answers (.fuseMapRead path fuse) s discarded)
  ∧ (∀ image fields, runs 4 → Answers (.imageLoad path image fields) s fun t =>
    let c := imageChecks image fields (s.wr .module Fld.jigStatusState 0 1)
    (c.isSome = true → ended t (c.map (·.1)) ∧ failedImage t (c.getD (0, 0)).1.toNat (c.getD (0, 0)).2)
    ∧ (c = none → ended t none ∧ t.rdb .module Fld.glbRoleValid = true ∧ t.rd .module Fld.glbRoleRole = imgField image 16 1
      ∧ t.rd .module Fld.jigStatusState = 2 ∧ t.m.bring.table = imgTable image ∧ t.m.bring.fields = fields
      ∧ t.m.bring.roleMap = sectionBytes image ((findSection image 1).getD 0)
      ∧ (∀ i : Nat, i < 8 → t.rd .module Fld.jigDigestDigest i = leNat (slice (Config.shake256 64 (imgTable image)) (8 * i) 8))))
  ∧ (∀ image fields, (runs 4 ∨ begins 4) → imgField image 0 4 ≠ 0x4A494753 → Answers (.imageLoad path image fields) s fun t => busyAt 4 t
    ∧ ended t (some stVersion) ∧ failedImage t stVersion.toNat 0 ∧ t.m.bring.table = s.m.bring.table)
  ∧ (∀ image fields, closed 4 → Answers (.imageLoad path image fields) s discarded)
  ∧ (∀ failing rows, (runs 5 ∨ begins 5) → Answers (.tileBist path failing rows) s fun t => busyAt 5 t
    ∧ ended t (if rolesMet t then none else some stResource) ∧ mapped t rows
    ∧ (∀ p : Nat, p < 2176 → t.rdb .module Fld.tilPhysBistBad p = failing.contains p)
    ∧ (∀ k : Nat, k < 2048 → t.rd .module Fld.tilMapUeCnt k = 0 ∧ t.rd .module Fld.tilMapCeLast k = 0)
    ∧ (∀ r : Nat, r < 8 → roleCount r t = if r = 6 then 0 else ((List.range 2048).filter fun k => decide (tileRole k t = r)).length)
    ∧ t.rd .module Fld.dirStatusEntries = roleCount 1 t * 98304)
  ∧ (∀ failing rows, closed 5 → Answers (.tileBist path failing rows) s discarded)
  ∧ (∀ ok0 ok1 image, (runs 6 ∨ begins 6) → Answers (.nocTraining path ok0 ok1 image) s fun t => busyAt 6 t
    ∧ t.rdb .module Fld.nocStatusPlane0Ok = noc0 ok0 ∧ t.rdb .module Fld.nocStatusPlane1Ok = noc1 ok1
    ∧ (noc0 ok0 = false → noc1 ok1 = false → ended t (some stInternal))
    ∧ ((noc0 ok0 || noc1 ok1) = true → changedSection [1, 2, 3] image s = none → ended t none ∧ t.m.bring.codeLoaded = true)
    ∧ ((noc0 ok0 || noc1 ok1) = true → (changedSection [1, 2, 3] image s).isSome = true →
      ended t (some stCheckFail) ∧ failedImage t stCheckFail.toNat ((changedSection [1, 2, 3] image s).getD 0)))
  ∧ (∀ ok0 ok1 image, closed 6 → Answers (.nocTraining path ok0 ok1 image) s discarded)
  ∧ (∀ channels image ready, (runs 7 ∨ begins 7) → Answers (.ddr5Training path channels image ready) s fun t => busyAt 7 t
    ∧ (∀ c : Nat, c < 12 → c < channels.length → (((channels.map (·.present)).getD c false) = t.rdb .module Fld.ddrChPresent c
      ∧ t.rdb .module Fld.ddrChTrained c = ((channels.map fun d => d.present && d.trained).getD c false)
      ∧ t.rd .module Fld.ddrChSizeGib c = ((channels.map (·.sizeGib)).getD c 0) % 4096))
    ∧ (((channels.take 12).any fun d => d.present && !d.trained) = true → ended t (some stInternal))
    ∧ (((channels.take 12).any fun d => d.present && !d.trained) = false →
      t.m.pool.installedGib = ((channels.take 12).map fun d => if d.present then d.sizeGib else 0).sum
      ∧ (changedSection [1, 2, 3, 4, 5, 6, 7] image s = none → t.rd .module Fld.jigStatusState = 3
        ∧ t.m.bring.outcome = (if ready then some none else none) ∧ (ready = true → t.m.bring.firmware = true))
      ∧ ((changedSection [1, 2, 3, 4, 5, 6, 7] image s).isSome = true → ended t (some stCheckFail))))
  ∧ (∀ channels image ready, closed 7 → Answers (.ddr5Training path channels image ready) s discarded)
  ∧ (∀ reported bad, (runs 8 ∨ begins 8) → ((List.range 8).all fun c => reported.contains c) = false →
    Answers (.serdesCalibration path reported bad) s fun t => busyAt 8 t ∧ ended t (some stInternal) ∧ t.module.badSlices = s.module.badSlices)
  ∧ (∀ reported bad, (runs 8 ∨ begins 8) → ((List.range 8).all fun c => reported.contains c) = true →
    Answers (.serdesCalibration path reported bad) s fun t => busyAt 8 t ∧ ended t none ∧ sliced t
      ∧ t.module.badSlices = s.module.badSlices ++ bad.filter (fun x => !s.module.badSlices.contains x)
      ∧ (∀ n : Nat, n < 1024 → laneSt .module n t = if t.rd .module Fld.lnkStatusSlice n = 255 then 12 else laneSt .module n s))
  ∧ (∀ reported bad, closed 8 → Answers (.serdesCalibration path reported bad) s discarded)
  ∧ ((runs 9 ∨ begins 9) → isModuleEid (s.myEid .module) = false → Answers (.linkTraining path) s fun t => busyAt 9 t ∧ ended t (some stVersion)
    ∧ t.module.lanes = s.module.lanes)
  ∧ ((runs 9 ∨ begins 9) → isModuleEid (s.myEid .module) = true → Answers (.linkTraining path) s fun t => busyAt 9 t ∧ t.m.bring.outcome = none
    ∧ t.rdb .module Fld.glbEidLocked = true
    ∧ (∀ n : Nat, n < 1024 → s.rdb .module Fld.lnkCtlEnable n = true → laneSt .module n s = 0 → laneSt .module n t ≠ 0)
    ∧ (∀ n : Nat, n < 1024 → s.rdb .module Fld.lnkCtlEnable n = false → laneSt .module n t = laneSt .module n s))
  ∧ (closed 9 → Answers (.linkTraining path) s discarded)
  ∧ ((runs 10 ∨ begins 10) → Answers (.topLock path) s fun t => busyAt 10 t ∧ t.m.bring.outcome = (if topLocked s then some none else none))
  ∧ (closed 10 → Answers (.topLock path) s discarded)
  ∧ ((runs 11 ∨ begins 11) → Answers (.enable path) s fun t => busyAt 11 t ∧ ended t none ∧ t.rdb .module Fld.glbBringupStatusEnabled = true)
  ∧ (closed 11 → Answers (.enable path) s discarded)

/-- PCIe's answer starts step 2, its silence fails step 1 with TIMEOUT. A step whose work has ended ends: BUSY 0, interrupt source
76, and FAIL and STATUS where it failed; step 9 ends when its lanes settle or its time is up, step 10 when Top locks, or with
NO_TOP_LOCK; any other step's time fails it with TIMEOUT. UNLOAD while a step or a migration runs is recorded, before step 4
it changes nothing, else it leaves step 3's state: every lane DISABLED, the image, its role and its digest gone. Rests on
13_jigsaw_bringup.md: R435, R436, R439, R440, R450. -/
def Obligations.BringUpStepsEndAndUnload : Prop := ∀ (s : State),
  let endsWith := fun (t : State) (st : Option Nat) => bringBusy t = false ∧ bringStep t = bringStep s ∧ t.m.bring.outcome = none
    ∧ (t.word .module .pciIntStatus 1 0).getLsbD 12 = true ∧ bringFail t = (st.isSome || bringFail s)
    ∧ t.rd .module Fld.glbBringupStatusStatus = st.getD (s.rd .module Fld.glbBringupStatusStatus)
  let untouched := fun (t : State) => t = s
  (bringStep s = 1 → bringBusy s = false → bringFail s = false → Answers (.pcieEnumeration true) s fun t =>
    bringStep t = 2 ∧ bringBusy t = true ∧ bringFail t = false ∧ t.m.bring.startedAt = s.now ∧ t.m.bring.outcome = none)
  ∧ (bringStep s = 1 → bringBusy s = false → bringFail s = false → Answers (.pcieEnumeration false) s fun t => endsWith t (some stTimeout.toNat))
  ∧ (∀ up, bringStep s ≠ 1 ∨ bringBusy s = true ∨ bringFail s = true → Answers (.pcieEnumeration up) s untouched)
  ∧ (bringBusy s = false → Answers .bringupStepEnd s untouched)
  ∧ (bringBusy s = true → s.m.bring.outcome = some none → Answers .bringupStepEnd s fun t => endsWith t none)
  ∧ (∀ st : Status, bringBusy s = true → s.m.bring.outcome = some (some st) → Answers .bringupStepEnd s fun t => endsWith t (some st.toNat))
  ∧ (bringBusy s = true → s.m.bring.outcome = none → ((bringStep s = 9 ∧ lanesSettled s = true) ∨ (bringStep s = 10 ∧ topLocked s = true)) →
    Answers .bringupStepEnd s fun t => endsWith t none)
  ∧ (bringBusy s = true → s.m.bring.outcome = none → bringStep s = 2 → s.m.pci.memEnable = true → s.m.pci.busMaster = true →
    Answers .bringupStepEnd s fun t => endsWith t none)
  ∧ (bringBusy s = true → s.m.bring.outcome = none → ((bringStep s = 9 ∧ lanesSettled s = false) ∨ (bringStep s = 10 ∧ topLocked s = false)
    ∨ (bringStep s ≠ 2 ∧ bringStep s ≠ 9 ∧ bringStep s ≠ 10)) → Answers .bringupStepEnd s untouched)
  ∧ ((bringBusy s = false ∨ bringStep s < 3) → Answers .bringupStepTimeout s untouched)
  ∧ (bringBusy s = true → 3 ≤ bringStep s → s.m.bring.outcome = none → bringStep s ≠ 9 → bringStep s ≠ 10 →
    Answers .bringupStepTimeout s fun t => endsWith t (some stTimeout.toNat))
  ∧ (bringBusy s = true → s.m.bring.outcome = none → bringStep s = 9 → Answers .bringupStepTimeout s fun t => endsWith t none)
  ∧ (bringBusy s = true → s.m.bring.outcome = none → bringStep s = 10 → Answers .bringupStepTimeout s fun t => endsWith t none
    ∧ t.rdb .module Fld.glbBringupStatusNoTopLock = (!topLocked s || s.rdb .module Fld.glbBringupStatusNoTopLock))
  ∧ ((bringBusy s = true ∨ s.m.tile.migration.isSome = true) → Answers .unload s fun t =>
    t.word .module .glbBringupStatus 0 0 = s.word .module .glbBringupStatus 0 0 ∧ t.module.lanes = s.module.lanes ∧ t.m.bring = s.m.bring ∧ t.m.tile = s.m.tile)
  ∧ (bringBusy s = false → s.m.tile.migration = none → bringStep s < 4 → Answers .unload s fun t =>
    t.word .module .glbBringupStatus 0 0 = s.word .module .glbBringupStatus 0 0 ∧ t.module.lanes = s.module.lanes ∧ t.m.bring = s.m.bring ∧ t.m.tile = s.m.tile)
  ∧ (bringBusy s = false → s.m.tile.migration = none → 4 ≤ bringStep s → Answers .unload s fun t =>
    bringStep t = 3 ∧ bringBusy t = false ∧ bringFail t = false ∧ t.rd .module Fld.glbBringupStatusStatus = 0
    ∧ t.rdb .module Fld.glbBringupStatusEnabled = false ∧ t.rdb .module Fld.glbBringupStatusNoTopLock = false
    ∧ t.rdb .module Fld.glbRoleValid = false ∧ t.word .module .jigStatus 0 0 = 0 ∧ t.word .module .jigImageId 0 0 = 0
    ∧ (∀ i : Nat, i < 8 → t.rd .module Fld.jigDigestDigest i = 0) ∧ t.m.bring.table = [] ∧ t.m.bring.roleMap = [] ∧ t.m.bring.fields = []
    ∧ t.m.bring.codeLoaded = false ∧ t.m.bring.firmware = false ∧ (∀ n : Nat, n < 1024 → laneSt .module n t = 0)
    ∧ t.m.pool.missing = [] ∧ t.rd .module Fld.dirPoolStatusPoolGib = 0)

/-- A scrub pass's count is kept; one that reaches the threshold retires the tile, or defers it under AUTO_RETIRE 0, or marks it
bad before step 6. An uncorrectable word is counted; a failed self-check switches the tile to a free one of its row at once.
RETIRE begins a migration where the row has a free tile, else the tile goes MISSING with the counts changed;
MIGRATION_COMPLETE switches. TO_SPARE and FROM_SPARE change a REDUCE tile's role and both counts, wait for slots, or end with
RESOURCE or VERSION; a command written while one runs changes nothing. A tile not in service is left alone. Rests on
13_jigsaw_bringup.md: R443, R444, R445, R446, R447, R449, R450, R451. -/
def Obligations.TilesRetireAndChangeRole : Prop := ∀ (k : Nat) (items : TileItems) (s : State),
  let same := fun (t : State) => t = s
  let ends := fun (t : State) (st : Nat) => t.rdb .module Fld.jigRoleStatusBusy = false ∧ t.rd .module Fld.jigRoleStatusStatus = st
  let free := s.rdb .module Fld.jigRoleStatusBusy = false
  let serves := tileServes k s = true
  let late := tilesServe s = true
  let still := (migrationOf k s).isNone = true
  let waits := fun (t : State) (p : Nat) (c : Bool) => (t.m.tile.migration.toList ++ t.m.tile.waiting).map (fun x => (x.tile, x.phys, x.command))
    = (s.m.tile.migration.toList ++ s.m.tile.waiting).map (fun x => (x.tile, x.phys, x.command)) ++ [(k, p, c)] ∧ t.m.tile.migration.isSome = true
  let switched := fun (t : State) (p : Nat) => t.rd .module Fld.tilMapPhysCol k = p % 34 ∧ t.rdb .module Fld.tilMapRedirect k = true
    ∧ t.rd .module Fld.tilPhysLogical p = k ∧ t.rd .module Fld.tilPhysRole p = tileRole k s ∧ tileRole k t = tileRole k s
  let moved := fun (t : State) (new : Nat) => tileRole k t = new ∧ roleCount new t = (roleCount new s + 1) % 4096 ∧ roleCount (tileRole k s) t = roleCount (tileRole k s) s - 1
    ∧ t.rd .module Fld.mrnStatusSlotsTotal = 12 * roleCount 0 t
  (∀ n, tileServes k s = false → Answers (.sramScrubPassEnd k n items) s same)
  ∧ (∀ n, serves → s.module.xpt.finished = [] → n < s.rd .module Fld.tilCtlCeThresh → Answers (.sramScrubPassEnd k n items) s fun t =>
    t.rd .module Fld.tilMapCeLast k = min n 65535 ∧ t.m.tile = s.m.tile)
  ∧ (∀ n, serves → s.rd .module Fld.tilCtlCeThresh ≤ n → s.rdb .module Fld.tilCtlAutoRetire = false → Answers (.sramScrubPassEnd k n items) s fun t =>
    t.rd .module Fld.tilMapCeLast k = min n 65535 ∧ k ∈ t.m.tile.deferred ∧ t.m.tile.migration = s.m.tile.migration)
  ∧ (∀ n p, serves → s.rd .module Fld.tilCtlCeThresh ≤ n → s.rdb .module Fld.tilCtlAutoRetire = true → late → still → freePhys k s = some p →
    Answers (.sramScrubPassEnd k n items) s fun t => waits t p false)
  ∧ (∀ n, serves → s.rd .module Fld.tilCtlCeThresh ≤ n → s.rdb .module Fld.tilCtlAutoRetire = true → tilesServe s = false → 3 ≤ bringStep s →
    Answers (.sramScrubPassEnd k n items) s fun t => t.rdb .module Fld.tilPhysFieldBad (physOf k s) = true)
  ∧ (∀ f, tileServes k s = false → Answers (.tileUe k f items) s same)
  ∧ (serves → s.rd .module Fld.tilMapUeCnt k + 1 < s.rd .module Fld.tilCtlUeThresh → s.m.tile.deferred.contains k = false → still →
    Answers (.tileUe k .word items) s fun t => t.rd .module Fld.tilMapUeCnt k = min (s.rd .module Fld.tilMapUeCnt k + 1) 255 ∧ t.m.tile = s.m.tile)
  ∧ (∀ p, serves → late → still → freePhys k s = some p → tileRole k s = 5 → p ≠ physOf k s → Answers (.tileUe k .selfCheck items) s fun t =>
    switched t p ∧ t.rd .module Fld.tilPhysRole (physOf k s) = 6)
  ∧ (serves → late → still → freePhys k s = none → tileRole k s = 5 → s.m.tile.change = none → Answers (.tileUe k .selfCheck items) s fun t =>
    tileRole k t = 7 ∧ roleCount 7 t = (roleCount 7 s + 1) % 4096 ∧ roleCount 5 t = roleCount 5 s - 1 ∧ t.rd .module Fld.tilStatusMissing = roleCount 7 t % 4096)
  ∧ (serves → still → Answers (.tileUe k .replacement items) s fun t => t.m.tile = s.m.tile ∧ t.m.bring = s.m.bring ∧ tileRole k t = tileRole k s)
  ∧ (∀ p, free → serves → late → still → freePhys k s = some p → Answers (.retire k items) s fun t => waits t p true
    ∧ t.rdb .module Fld.jigRoleStatusBusy = true ∧ t.rd .module Fld.jigRoleStatusTile = k)
  ∧ (free → serves → late → still → freePhys k s = none → tileRole k s = 5 → s.m.tile.change = none → Answers (.retire k items) s fun t => ends t 0
    ∧ tileRole k t = 7 ∧ roleCount 7 t = (roleCount 7 s + 1) % 4096)
  ∧ (free → tileServes k s = false → Answers (.retire k items) s fun t => ends t stResource.toNat ∧ t.m.tile = s.m.tile)
  ∧ (free → serves → 3 ≤ bringStep s → tilesServe s = false → Answers (.retire k items) s fun t => ends t 0
    ∧ t.rdb .module Fld.tilPhysFieldBad (physOf k s) = true)
  ∧ (s.rdb .module Fld.jigRoleStatusBusy = true → Answers (.retire k items) s fun t => t.m.tile = s.m.tile
    ∧ t.word .module .jigRoleStatus 0 0 = s.word .module .jigRoleStatus 0 0)
  ∧ (s.m.tile.migration = none → Answers .migrationComplete s same)
  ∧ (∀ p, s.m.tile.migration.map (fun x => (x.tile, x.phys, x.command)) = some (k, p, true) → k < 2048 → p < 2176 → p ≠ physOf k s →
    s.m.tile.waiting = [] → Answers .migrationComplete s fun t => switched t p ∧ ends t 0 ∧ t.m.tile.migration = none
      ∧ t.rd .module Fld.tilPhysRole (physOf k s) = 6)
  ∧ (free → tileServes k s = false → Answers (.toSpare k) s fun t => ends t stVersion.toNat ∧ t.m.tile = s.m.tile)
  ∧ (free → serves → tileRole k s = 0 → s.rd .module Fld.mrnStatusSlotsTotal < s.rd .module Fld.mrnStatusSlotsReserved + 12 →
    Answers (.toSpare k) s fun t => ends t stResource.toNat ∧ t.m.tile = s.m.tile)
  ∧ (free → serves → 1 < tileRole k s → Answers (.toSpare k) s fun t => ends t stVersion.toNat ∧ t.m.tile = s.m.tile)
  ∧ (free → k < 2048 → tileRole k s = 5 → physOf k s < 2176 → roleCount 5 s ≠ 0 → Answers (.fromSpare k 0) s fun t => ends t 0 ∧ moved t 0 ∧ t.m.tile.change = none)
  ∧ (∀ r, free → tileRole k s ≠ 5 → Answers (.fromSpare k r) s fun t => ends t stVersion.toNat ∧ t.m.tile = s.m.tile)
  ∧ (∀ r, free → k < 2048 → tileRole k s = 5 → 1 < r → Answers (.fromSpare k r) s fun t => ends t stVersion.toNat ∧ t.m.tile = s.m.tile)
  ∧ (s.rdb .module Fld.jigRoleStatusBusy = true → Answers (.fromSpare k 0) s fun t => t.m.tile = s.m.tile
    ∧ t.word .module .jigRoleStatus 0 0 = s.word .module .jigRoleStatus 0 0)
  ∧ (slotsWithheld s = 12 → Answers .toSpareTimeout s fun t => ends t stRetryLater.toNat ∧ t.m.tile = { s.m.tile with change := none }
    ∧ OnlyChanges [.reg .module .jigRoleStatus, .mod .tile] s t)
  ∧ (slotsWithheld s ≠ 12 → Answers .toSpareTimeout s same)

/-- TIME_SYNC, TIME_FOLLOW, TIME_DELAY_REQ and TIME_DELAY_RSP with a failing check are counted and dropped. TIME_SYNC keeps flags,
stratum, SEQ and t2, TIME_FOLLOW of the same SEQ gives t1, a module answers TIME_DELAY_REQ with its receive time,
TIME_DELAY_RSP completes an exchange whose SEQ it carries: the offset goes through the filter, a small one slews, one of a
step's size changes the time at once, is counted and shown. The timer sends TIME_SYNC and TIME_FOLLOW on every UP port and
asks each parent. The endpoint follows the grandmaster's leaf and FT_VALID holds. Rests on 14_time_power.md: R454, R456, R457,
R458, R459, R462; 02_identities_addresses.md: R69. -/
def Obligations.TimeMessagesAreExchanged : Prop := ∀ (p : Nat) (pkt : Packet) (s : State),
  let ok := pchkGood pkt = true
  let ex := fun (sd : Side) (t : State) => exchange sd p t
  let dropped := fun (sd : Side) (t : State) => t.word sd .xptPchkDiscardCnt 0 0 = countedWord (s.word sd .xptPchkDiscardCnt 0 0) 1
    ∧ (t.unit sd).sync = (s.unit sd).sync ∧ (t.unit sd).time = (s.unit sd).time
  let lone := topRole s = 0 ∧ parents s = [p]
  let sent := fun (t : State) (q : Nat) (op : BitVec 8) => (smapGet (t.port .module q).egress [] (poolOf op)).map (·.pkt)
  let answer : Nat → Packet := fun stamp => linkPacket .module p 0x13 (packetSeq pkt) (timePayload (stampOf stamp) (timeFlags p s) (s.rd .module Fld.topStatusStratum)) s
  (∀ sd stamp, pkt.opcode ≠ 0x10 → Answers (.timeSync sd p pkt stamp) s fun t => t = s)
  ∧ (∀ sd, pkt.opcode ≠ 0x11 → Answers (.timeFollow sd p pkt) s fun t => t = s)
  ∧ (∀ sd stamp, pkt.opcode ≠ 0x12 → Answers (.timeDelayReq sd p pkt stamp) s fun t => t = s)
  ∧ (∀ sd, pkt.opcode ≠ 0x13 → Answers (.timeDelayRsp sd p pkt) s fun t => t = s)
  ∧ (∀ sd stamp, pkt.opcode = 0x10 → pchkGood pkt = false → Answers (.timeSync sd p pkt stamp) s (dropped sd))
  ∧ (∀ sd, pkt.opcode = 0x11 → pchkGood pkt = false → Answers (.timeFollow sd p pkt) s (dropped sd))
  ∧ (∀ sd stamp, pkt.opcode = 0x12 → pchkGood pkt = false → Answers (.timeDelayReq sd p pkt stamp) s (dropped sd))
  ∧ (∀ sd, pkt.opcode = 0x13 → pchkGood pkt = false → Answers (.timeDelayRsp sd p pkt) s (dropped sd))
  ∧ (∀ sd stamp, pkt.opcode = 0x10 → ok → Answers (.timeSync sd p pkt stamp) s fun t =>
    ex sd t = { ex sd s with flags := packetFlags pkt, stratum := packetStratum pkt, seq := packetSeq pkt, t2 := some (stampOf stamp), t1 := none }
    ∧ (t.unit sd).time = (s.unit sd).time)
  ∧ (∀ stamp, pkt.opcode = 0x10 → ok → lone → (packetFlags pkt).testBit 1 = true → topPaused s = false → topState s = 0 →
    Answers (.timeSync .module p pkt stamp) s fun t => t.module.sync.source = some p ∧ t.rd .module Fld.topStatusSourcePort = p ∧ topState t = 1)
  ∧ (∀ stamp, pkt.opcode = 0x10 → ok → (packetFlags pkt).testBit 0 = true → (packetFlags pkt).testBit 1 = true → s.endpoint.sync.source = none →
    Answers (.timeSync .endpoint p pkt stamp) s fun t => t.endpoint.sync.source = some p ∧ t.endpoint.sync.gmLost = false)
  ∧ (∀ sd, pkt.opcode = 0x11 → ok → (ex sd s).seq = packetSeq pkt → (ex sd s).t2.isSome = true → Answers (.timeFollow sd p pkt) s fun t =>
    ex sd t = { ex sd s with t1 := some (packetTime pkt) } ∧ (t.unit sd).time = (s.unit sd).time)
  ∧ (∀ sd, pkt.opcode = 0x11 → ok → ((ex sd s).seq ≠ packetSeq pkt ∨ (ex sd s).t2 = none) → Answers (.timeFollow sd p pkt) s fun t =>
    (t.unit sd).sync = (s.unit sd).sync)
  ∧ (∀ stamp, pkt.opcode = 0x12 → ok → Answers (.timeDelayReq .module p pkt stamp) s fun t => (sent t p 0x13 == sent s p 0x13
    ++ [answer stamp]) = true
    ∧ OnlyChanges [.unit .module .ports, .mod .sw] s t)
  ∧ (∀ t1 t2 t3, pkt.opcode = 0x13 → ok → (ex .module s).t1 = some t1 → (ex .module s).t2 = some t2 → (ex .module s).req = some (packetSeq pkt, t3) →
    topPaused s = false → p ∈ parents s → topRole s = 0 → s.module.sync.source = some p → Answers (.timeDelayRsp .module p pkt) s fun t =>
      let off := exchangeOffset t1 t2 t3 (packetTime pkt) - asymOf p s
      t.module.sync.filtered = Config.offsetFilter s.module.sync.filtered off
      ∧ (off.natAbs < s.rd .module Fld.topCtlStepThresh * 65536 → t.module.sync.slew = -off ∧ t.module.time = s.module.time)
      ∧ (s.rd .module Fld.topCtlStepThresh * 65536 ≤ off.natAbs → (off < 0 ∨ mayStepBack .module s = true) →
        (t.module.time : Int) = ((s.module.time : Int) - off) % 2 ^ 80 ∧ t.module.sync.slew = 0 ∧ t.rdb .module Fld.topStatusStepped = true
        ∧ t.word .module .topStepCnt 0 0 = countedWord (s.word .module .topStepCnt 0 0) 1))
  ∧ (∀ t1 t2 t3, pkt.opcode = 0x13 → ok → (ex .endpoint s).t1 = some t1 → (ex .endpoint s).t2 = some t2 → (ex .endpoint s).req = some (packetSeq pkt, t3) →
    s.endpoint.sync.source = some p → Answers (.timeDelayRsp .endpoint p pkt) s fun t => t.e.ftValid = true
      ∧ t.endpoint.sync.filtered = Config.offsetFilter s.endpoint.sync.filtered (exchangeOffset t1 t2 t3 (packetTime pkt)))
  ∧ (∀ sd, pkt.opcode = 0x13 → ok → ((ex sd s).t1 = none ∨ (ex sd s).t2 = none ∨ (ex sd s).req.map (·.1) ≠ some (packetSeq pkt)) →
    Answers (.timeDelayRsp sd p pkt) s fun t => (t.unit sd).sync = (s.unit sd).sync ∧ (t.unit sd).time = (s.unit sd).time)
  ∧ (∀ stamps, p < 1024 → portUp .module p s = true → Answers (.timeSyncTimer .module stamps) s fun t =>
    t.module.sync.nextSeq = (s.module.sync.nextSeq + 1) % 65536
    ∧ ((sent t p 0x10).any fun k => k.opcode == 0x10 && k.opx == BitVec.ofNat 32 s.module.sync.nextSeq) = true
    ∧ ((sent t p 0x11).any fun k => k.opcode == 0x11 && k.opx == BitVec.ofNat 32 s.module.sync.nextSeq
      && packetTime k == stampOf ((stamps.lookup p).getD s.module.time)) = true
    ∧ (topRole s ≠ 1 → p ∈ parents s → (ex .module t).req = some (s.module.sync.nextSeq, stampOf ((stamps.lookup p).getD s.module.time))))
  ∧ (∀ stamps, p ∈ leafPorts s → Answers (.timeSyncTimer .endpoint stamps) s fun t =>
    t.endpoint.sync.nextSeq = (s.endpoint.sync.nextSeq + 1) % 65536
    ∧ (ex .endpoint t).req = some (s.endpoint.sync.nextSeq, stampOf ((stamps.lookup p).getD s.endpoint.time)))

/-- A good PPS edge at a ROOT goes through filter and correction, and loads TOP.SET where a load waits; a bad one clears EXT_OK.
Losing the last source takes Top from LOCKED to HOLDOVER; HOLDOVER_EXPIRE takes HOLDOVER to FREE with stratum 15.
TOP.SET_CTL.GO sets the time by a step or a slew, or waits for the edge. A standby with AUTO_GM whose peer's pulse is gone
takes over. STEPPED falls. The endpoint block forgets the grandmaster, follows a locked leaf, and FT_VALID falls with vector 8
when holdover has lasted. Rests on 14_time_power.md: R453, R454, R458, R459, R462, R463, R484. -/
def Obligations.TopFollowsItsSources : Prop := ∀ (stamp : Nat) (s : State),
  let thresh := s.rd .module Fld.topCtlStepThresh * 65536
  let lost := fun (t : State) => topState t = 3 ∧ t.word .module .topLockLossCnt 0 0 = countedWord (s.word .module .topLockLossCnt 0 0) 1
    ∧ (t.word .module .pciIntStatus 1 0).getLsbD 14 = true
  let setOff := timeDiff s.module.time (s.rd .module Fld.topSetNs * 65536)
  (topRole s = 1 → s.m.top.atPps = false → topPaused s = false → Answers (.ppsInEdge stamp true true) s fun t =>
    let off := ppsOffset stamp s
    t.rdb .module Fld.topStatusExtOk = true ∧ t.rdb .module Fld.topStatusPeerPpsOk = false
    ∧ t.module.sync.filtered = Config.offsetFilter s.module.sync.filtered off
    ∧ (off.natAbs < thresh → t.module.sync.slew = -off ∧ t.module.time = s.module.time)
    ∧ (thresh ≤ off.natAbs → (off < 0 ∨ mayStepBack .module s = true) → (t.module.time : Int) = ((s.module.time : Int) - off) % 2 ^ 80))
  ∧ (topRole s = 1 → s.m.top.atPps = true → thresh ≤ (timeDiff stamp (s.rd .module Fld.topSetNs * 65536)).natAbs → mayStepBack .module s = true →
    topPaused s = true → Answers (.ppsInEdge stamp true true) s fun t => t.m.top.atPps = false ∧ t.m.top.setLoaded = true
      ∧ (t.module.time : Int) = ((s.module.time : Int) - timeDiff stamp (s.rd .module Fld.topSetNs * 65536)) % 2 ^ 80)
  ∧ (∀ ref : Bool, topRole s ≠ 3 → Answers (.ppsInEdge stamp false ref) s fun t => t.rdb .module Fld.topStatusExtOk = false
    ∧ t.rdb .module Fld.topStatusPeerPpsOk = false ∧ (topRole s = 1 → t.module.time = s.module.time ∧ t.m.top = s.m.top))
  ∧ (topRole s = 1 → topState s = 2 → s.rdb .module Fld.topCtlFreeRoot = false → Answers (.timeSourceLoss none) s fun t => lost t
    ∧ t.rdb .module Fld.topStatusExtOk = false)
  ∧ (∀ p, topRole s = 0 → topState s = 2 → parents s = [p] → (s.module.sync.exchanges.map (·.1)).Nodup → Answers (.timeSourceLoss (some p)) s fun t =>
    lost t ∧ t.module.sync.source = none)
  ∧ (∀ p q, topRole s = 0 → topState s = 2 → parents s = [p, q] → p ≠ q → portLocked .module q s = true → (s.module.sync.exchanges.map (·.1)).Nodup →
    Answers (.timeSourceLoss (some p)) s fun t => topState t = 2 ∧ t.module.sync.source = some q ∧ t.rd .module Fld.topStatusSourcePort = q)
  ∧ (topState s ≠ 3 → Answers .holdoverExpire s fun t => t = s)
  ∧ (topState s = 3 → topPaused s = false → Answers .holdoverExpire s fun t => topState t = 0 ∧ t.rd .module Fld.topStatusStratum = 15
    ∧ OnlyChanges [.reg .module .topStatus] s t)
  ∧ (topState s = 3 → topPaused s = true → (s.rd .module Fld.telBgCtlPause).testBit 3 = true → anySource s = false → Answers .holdoverExpire s fun t =>
    topState t = 0 ∧ (t.rd .module Fld.telPolicyActive).testBit 7 = true)
  ∧ (Answers (.topSetGo true) s fun t => t.m.top = { s.m.top with atPps := true } ∧ OnlyChanges [.mod .top] s t)
  ∧ (thresh ≤ setOff.natAbs → (setOff < 0 ∨ mayStepBack .module s = true) → Answers (.topSetGo false) s fun t =>
    t.module.time = s.rd .module Fld.topSetNs * 65536 ∧ t.rdb .module Fld.topStatusStepped = true
    ∧ t.word .module .topStepCnt 0 0 = countedWord (s.word .module .topStepCnt 0 0) 1)
  ∧ ((setOff.natAbs < thresh ∨ (0 ≤ setOff ∧ mayStepBack .module s = false)) → Answers (.topSetGo false) s fun t =>
    t.module.sync = { s.module.sync with slew := -setOff } ∧ OnlyChanges [.unit .module .sync] s t)
  ∧ (topRole s = 3 → s.rdb .module Fld.topCtlAutoGm = true → s.rdb .module Fld.topStatusPeerPpsOk = false → s.m.top.gmTaken = false →
    Answers .gmChange s fun t => t.m.top = { s.m.top with gmTaken := true })
  ∧ ((topRole s ≠ 3 ∨ s.rdb .module Fld.topCtlAutoGm = false ∨ s.rdb .module Fld.topStatusPeerPpsOk = true ∨ s.m.top.gmTaken = true) →
    Answers .gmChange s fun t => t = s)
  ∧ (Answers .steppedExpire s fun t => t.rdb .module Fld.topStatusStepped = false ∧ OnlyChanges [.reg .module .topStatus] s t
    ∧ topState t = topState s)
  ∧ (Answers .grandmasterTimeout s fun t => t.endpoint.sync.gmLost = true
    ∧ (∀ x ∈ t.endpoint.sync.exchanges, (x.2.flags.testBit 0 && x.2.flags.testBit 1) = false)
    ∧ OnlyChanges [.unit .endpoint .sync] s t)
  ∧ (∀ p, (∀ x ∈ s.endpoint.sync.exchanges, x.2.flags.testBit 1 = true → x.2.flags.testBit 0 = false → x.1 = p) →
    (s.endpoint.sync.exchanges.any fun x => x.2.flags.testBit 1 && !x.2.flags.testBit 0) = true →
    Answers .grandmasterTimeout s fun t => t.endpoint.sync.source = some p)
  ∧ (Answers .timeLost s fun t => t.endpoint.sync = { s.endpoint.sync with source := none, gmLost := true } ∧ t.e.ftValid = s.e.ftValid)
  ∧ (s.e.ftValid = true → s.endpoint.sync.source = none → Answers .ftValidExpire s fun t => t.e.ftValid = false
    ∧ (t.word .endpoint .fxeIntStatus 0 0).getLsbD 8 = true)
  ∧ ((s.e.ftValid = false ∨ s.endpoint.sync.source.isSome = true) → Answers .ftValidExpire s fun t => t = s)

/-- CAP_WRITE keeps the cap, counts it, takes the lowest level within OWN_CAP or OWN_OVER with level 5, and where the change is
not staged every grant of the final set is in force; so does the computation, which shows the estimate. A refresh sends every
slot's grant once more. A stage that reaches the final sum ends staging with the final grants. A leaf records a report of a
slot behind its port. A report above grant and tolerance is a violation; the limit's forces the floor, and CLEAR releases it.
Rests on 14_time_power.md: R464, R465, R466, R467, R468, R469, R470, R471, R472, R485. -/
def Obligations.LeafGrantsAndStages : Prop := ∀ (k : Nat) (s : State),
  let leaf := s.isLeaf = true
  let grantEn := s.rdb .module Fld.pwrCapCtlGrantEn = true
  let granted := fun (t : State) => ∀ x ∈ finalGrants t, lastGrant x.1 t = x.2 % 65536
  let level := fun (t : State) => t.rd .module Fld.pwrStatusShedLevel = shedWanted t % 8 ∧ t.rd .module Fld.ctaStatusGated = (if 2 ≤ shedWanted t then 255 else 0)
  let lowest := fun (power : List Nat) (cap : Nat) => (List.range 6).find? fun l => decide (power.getD l 0 ≤ cap)
  let chosen := fun (t : State) (l : Option Nat) => t.m.power.capLevel = l.getD 5 ∧ t.rdb .module Fld.pwrStatusOwnOver = l.isNone
  let capOf := fun (v : Word) => bitsOf v 43 32
  let opens := fun (path : Path) => rwlOpen .module path (regOffset .module .pwrCapCtl 0 0) s = true
  let listed := s.m.power.lowered.contains k = true
  let above := lastGrant k s + 4 * s.rd .module Fld.pwrCtlTol < slotReport k s
  let times := s.now :: (smapGet s.m.power.violations [] k).filter fun t => decide (s.now ≤ t + 10000000)
  (∀ path v power, rwlOpen .module path (regOffset .module .pwrCapCtl 0 0) s = false → Answers (.capWrite path v power) s fun t =>
    t.word .module .pwrCapCtl 0 0 = s.word .module .pwrCapCtl 0 0 ∧ t.m.power = s.m.power ∧ t.word .module .pwrEp k 1 = s.word .module .pwrEp k 1)
  ∧ (∀ path v power, opens path → Answers (.capWrite path v power) s fun t => t.word .module .pwrCapCtl 0 0 = v &&& 0xFFFFFFFFFFFFF006
    ∧ t.word .module .pwrCapCnt 0 0 = countedWord (s.word .module .pwrCapCnt 0 0) 1 ∧ chosen t (lowest power (capOf v))
    ∧ t.rd .module Fld.pwrCapCtlRackCap = bitsOf v 63 44 ∧ (s.isLeaf = true → t.m.power.reduction = 0))
  ∧ (∀ path v power, opens path → leaf → v.getLsbD 1 = true → v.getLsbD 2 = false → Answers (.capWrite path v power) s fun t =>
    granted t ∧ t.rdb .module Fld.pwrStatusStaging = false ∧ t.m.power.target = [] ∧ t.rdb .module Fld.pwrStatusInfeasible =
      decide (budget t < ((grantSlots t).map fun k => slotFloor k t).sum))
  ∧ (s.isLeaf = false → Answers .grantComputeTimer s fun t => t = s)
  ∧ (leaf → grantEn → s.rdb .module Fld.pwrCapCtlStageEn = false → s.rdb .module Fld.pwrStatusStaging = false → Answers .grantComputeTimer s fun t =>
    granted t ∧ t.rd .module Fld.pwrStatusEstimate = rackEstimate s % 2 ^ 32 ∧ level t
    ∧ (s.rd .module Fld.pwrCapCtlRackCap < rackEstimate s → t.rdb .module Fld.pwrStatusOver = true
      ∧ t.m.power.reduction = s.m.power.reduction + (rackEstimate s - s.rd .module Fld.pwrCapCtlRackCap))
    ∧ (rackEstimate s < s.rd .module Fld.pwrCapCtlRackCap → t.rdb .module Fld.pwrStatusOver = false ∧ t.m.power.reduction = 0))
  ∧ (leaf → s.rdb .module Fld.pwrStatusStaging = true → floorHolds s = false → Answers .grantComputeTimer s fun t =>
    t.m.power.target = finalGrants t ∧ lastGrant k t = lastGrant k s ∧ t.rd .module Fld.pwrStatusEstimate = rackEstimate s % 2 ^ 32)
  ∧ ((s.isLeaf = false ∨ s.rdb .module Fld.pwrCapCtlGrantEn = false) → Answers .grantRefreshTimer s fun t => t = s)
  ∧ (leaf → grantEn → Answers .grantRefreshTimer s fun t => ∀ j ∈ grantSlots s, lastGrant j t = lastGrant j s
    ∧ smapGet t.m.power.gseq 0 j = (smapGet s.m.power.gseq 0 j + 1) % 4096
    ∧ (portUp .module (s.rd .module Fld.rteSlotPort j) s = true → (smapGet (t.port .module (s.rd .module Fld.rteSlotPort j)).egress [] (poolOf 5)).any
      (fun e => e.pkt.opcode == 5 && e.pkt.opx.toNat % 65536 == lastGrant j s) = true))
  ∧ (s.rdb .module Fld.pwrStatusStaging = false → Answers .stageTimer s fun t => t = s)
  ∧ (s.rdb .module Fld.pwrStatusStaging = true → leaf → grantEn → (s.m.power.target.map fun x => x.1).Nodup →
    stageSum (sentSum s : Nat) (grantSum s.m.power.target : Nat) = ((grantSum s.m.power.target : Nat) : Rat) → Answers .stageTimer s fun t =>
      (∀ x ∈ s.m.power.target, lastGrant x.1 t = x.2 % 65536) ∧ t.rdb .module Fld.pwrStatusStaging = false ∧ t.rd .module Fld.pwrStatusStagesLeft = 0
      ∧ t.m.power.target = [] ∧ t.word .module .pwrStageCnt 0 0 = countedWord (s.word .module .pwrStageCnt 0 0) 1)
  ∧ (s.rdb .module Fld.pwrStatusStaging = true → stageSum (sentSum s : Nat) (grantSum s.m.power.target : Nat) ≠ ((grantSum s.m.power.target : Nat) : Rat) →
    Answers .stageTimer s fun t => t.rdb .module Fld.pwrStatusStaging = true ∧ t.m.power.target = s.m.power.target
      ∧ t.rd .module Fld.pwrStatusStagesLeft = min 15 (stageCount 64 (stageSum (sentSum s : Nat) (grantSum s.m.power.target : Nat)) (grantSum s.m.power.target : Nat)))
  ∧ (∀ p pkt, pkt.opcode ≠ 6 → Answers (.powerReport p pkt) s fun t => t = s)
  ∧ (∀ p pkt, pkt.opcode = 6 → pchkGood pkt = false → Answers (.powerReport p pkt) s fun t => t.m.power = s.m.power
    ∧ t.word .module .pwrEp k 1 = s.word .module .pwrEp k 1 ∧ t.word .module .xptPchkDiscardCnt 0 0 = countedWord (s.word .module .xptPchkDiscardCnt 0 0) 1)
  ∧ (∀ p pkt, pkt.opcode = 6 → pchkGood pkt = true → leaf → s.rd .module Fld.rteSlotPort (eidSlot pkt.src) = p → s.rdb .module Fld.rteSlotValid (eidSlot pkt.src) = true →
    Answers (.powerReport p pkt) s fun t => slotReport (eidSlot pkt.src) t = pkt.opx.toNat % 65536 ∧ t.rdb .module Fld.pwrEpNoReport (eidSlot pkt.src) = false
      ∧ smapGet t.m.power.reportAt 0 (eidSlot pkt.src) = s.now ∧ lastGrant (eidSlot pkt.src) t = lastGrant (eidSlot pkt.src) s)
  ∧ (∀ p pkt, pkt.opcode = 6 → pchkGood pkt = true → (s.isLeaf = false ∨ s.rd .module Fld.rteSlotPort (eidSlot pkt.src) ≠ p) →
    Answers (.powerReport p pkt) s fun t => OnlyChanges [.unit .module .ports] s t)
  ∧ (s.m.power.lowered.contains k = false → Answers (.violationCheck k) s fun t => t = s)
  ∧ (listed → slotReport k s ≤ lastGrant k s + 4 * s.rd .module Fld.pwrCtlTol → Answers (.violationCheck k) s fun t =>
    t.m.power = { s.m.power with lowered := s.m.power.lowered.filter (· ≠ k) } ∧ OnlyChanges [.mod .power] s t)
  ∧ (listed → above → times.length < s.rd .module Fld.pwrCtlViolLimit → Answers (.violationCheck k) s fun t =>
    smapGet t.m.power.violations [] k = times ∧ t.rdb .module Fld.pwrEpForcedFloor k = s.rdb .module Fld.pwrEpForcedFloor k
    ∧ t.rd .module Fld.pwrEpViolations k = min (s.rd .module Fld.pwrEpViolations k + 1) 15
    ∧ t.word .module .pwrViolCnt 0 0 = countedWord (s.word .module .pwrViolCnt 0 0) 1)
  ∧ (listed → above → s.rd .module Fld.pwrCtlViolLimit ≤ times.length → s.rdb .module Fld.pwrEpForcedFloor k = false → leaf → grantEn →
    Answers (.violationCheck k) s fun t => t.rdb .module Fld.pwrEpForcedFloor k = true ∧ lastGrant k t = slotFloor k s)
  ∧ (leaf → (s.m.power.violations.map fun x => x.1).Nodup → Answers (.epClear k) s fun t => t.rdb .module Fld.pwrEpForcedFloor k = false
    ∧ smapGet t.m.power.violations [] k = [] ∧ lastGrant k t = lastGrant k s ∧ OnlyChanges [.reg .module .pwrEp, .mod .power] s t)
  ∧ (s.isLeaf = false → Answers (.epClear k) s fun t => t = s)
  ∧ (∀ power, Answers (.shedCorrectTimer power) s fun t => chosen t (lowest power (s.rd .module Fld.pwrCapCtlOwnCap)) ∧ level t
    ∧ t.word .module .pwrEp k 1 = s.word .module .pwrEp k 1)

/-- POWER_WARN_N low enters WARN with shed level 5 at least, high it ends once the input is back at 31.0 V. A sample is shown and
kept; below 30.0 V warns, below 28.0 V stops bring-up, 31.0 V for 1 ms ends the warning, above 40.5 V for 100 us is over-
voltage. UV_LOSS and a sensor above 115 C run the power-loss procedure once: grants 0 and a last-gasp record. Above 105 C
sheds to 3, above it still to 5, until no sensor is hot. An endpoint block drives the lower of its leaves' recent grants and
reports, and its floor once grants cease. Rests on 14_time_power.md: R464, R467, R470, R473, R474, R475; 13_jigsaw_bringup.md:
R450; 11_endpoint_block.md: R386, R387, R388. -/
def Obligations.PowerConditionsAndEndpointGrants : Prop := ∀ (s : State),
  let level := fun (t : State) => t.rd .module Fld.pwrStatusShedLevel = shedWanted t % 8 ∧ t.rd .module Fld.ctaStatusGated = (if 2 ≤ shedWanted t then 255 else 0)
  let warned := fun (t : State) => t.word .module .pwrWarnCnt 0 0 = countedWord (s.word .module .pwrWarnCnt 0 0) 1 ∧ t.rdb .module Fld.pwrStatusWarn = true
    ∧ 5 ≤ shedWanted t ∧ level t
  let same := fun (t : State) => t = s
  let pin := s.rdb .module Fld.pwrStatusWarnPin = true
  let lossRan := fun (t : State) => t.m.power.loss = true ∧ t.m.bring.powerGood = false ∧ (t.m.power.lastGasp.map (·.time)) = some s.module.time
    ∧ (s.isLeaf = true → ∀ k ∈ grantSlots s, lastGrant k t = 0)
  let reports := fun (t : State) (r : Nat) => ∀ plane : Bool, ((epUpPorts plane s).head?.all fun p =>
    (smapGet (t.port .endpoint p).egress [] (poolOf 6)).any fun e => e.pkt.opcode == 6 && e.pkt.opx.toNat % 65536 == r) = true
  let shown := fun (t : State) (mv iin pinW : Nat) => t.rd .module Fld.pwrInputVin = mv % 65536 ∧ t.rd .module Fld.pwrInputIin = iin % 65536
    ∧ t.rd .module Fld.pwrInputPin = pinW % 65536 ∧ t.m.power.samples = (t.word .module .pwrInput 0 0 :: s.m.power.samples).take 64
  (s.rdb .module Fld.pwrStatusWarnPin = false → Answers (.powerWarnN true) s fun t => t.rdb .module Fld.pwrStatusWarnPin = true ∧ warned t
    ∧ t.m.power.pinHigh = false)
  ∧ (pin → Answers (.powerWarnN true) s fun t => t.m.power = { s.m.power with pinHigh := false } ∧ OnlyChanges [.mod .power] s t)
  ∧ (s.rdb .module Fld.pwrStatusWarnPin = false → Answers (.powerWarnN false) s same)
  ∧ (pin → 31000 ≤ s.rd .module Fld.pwrInputVin → Answers (.powerWarnN false) s fun t => t.rdb .module Fld.pwrStatusWarnPin = false ∧ t.m.power.pinHigh = false
    ∧ t.rdb .module Fld.pwrStatusWarn = (s.m.power.uvWarn || s.m.power.loss) ∧ level t)
  ∧ (pin → s.rd .module Fld.pwrInputVin < 31000 → Answers (.powerWarnN false) s fun t => t.m.power = { s.m.power with pinHigh := true }
    ∧ OnlyChanges [.mod .power] s t)
  ∧ (∀ mv iin w, Answers (.inputSample mv iin w) s fun t => shown t mv iin w)
  ∧ (∀ mv iin w, mv < 30000 → s.m.power.uvWarn = false → Answers (.inputSample mv iin w) s fun t => t.m.power.uvWarn = true ∧ warned t)
  ∧ (∀ mv iin w, mv < 28000 → s.rdb .module Fld.glbBringupStatusEnabled = false → Answers (.inputSample mv iin w) s fun t =>
    t.rd .module Fld.glbBringupStatusStep = 1 ∧ t.rdb .module Fld.glbBringupStatusBusy = false ∧ t.m.bring.powerGood = false ∧ t.m.bring.outcome = none)
  ∧ (∀ mv iin w, 28000 ≤ mv → Answers (.inputSample mv iin w) s fun t => t.word .module .glbBringupStatus 0 0 = s.word .module .glbBringupStatus 0 0
    ∧ t.m.bring = s.m.bring)
  ∧ (∀ mv iin w b, s.m.power.uvWarn = true → 31000 ≤ mv → s.m.power.uvBackAt = some b → b + 1000000 ≤ s.now → Answers (.inputSample mv iin w) s fun t =>
    t.m.power.uvWarn = false)
  ∧ (∀ mv iin w, s.m.power.uvWarn = true → 31000 ≤ mv → s.m.power.uvBackAt = none → Answers (.inputSample mv iin w) s fun t =>
    t.m.power.uvWarn = true ∧ t.m.power.uvBackAt = some s.now)
  ∧ (∀ mv iin w b, 40500 < mv → s.m.power.ovSince = some b → b + 100000 ≤ s.now → Answers (.inputSample mv iin w) s fun t => t.m.power.ovWarn = true)
  ∧ (s.m.power.loss = false → Answers .uvLoss s lossRan)
  ∧ (s.m.power.loss = true → Answers .uvLoss s same)
  ∧ (∀ sensor temp, 115 < temp → s.m.power.loss = false → Answers (.thermalSample sensor temp) s fun t => lossRan t
    ∧ t.m.power.lastGasp.map (·.thermal) = some true ∧ t.word .module .pwrThermalCnt 0 0 = countedWord (s.word .module .pwrThermalCnt 0 0) 1)
  ∧ (∀ sensor temp, 105 < temp → temp ≤ 115 → Answers (.thermalSample sensor temp) s fun t => t.m.power.thermalLevel = max s.m.power.thermalLevel 3
    ∧ t.m.power.hot.contains sensor = true ∧ t.rdb .module Fld.pwrStatusThermal = true ∧ level t)
  ∧ (∀ sensor temp, 100 ≤ temp → temp ≤ 105 → Answers (.thermalSample sensor temp) s same)
  ∧ (∀ sensor temp, temp < 100 → s.m.power.hot.all (· == sensor) = true → Answers (.thermalSample sensor temp) s fun t =>
    t.m.power.thermalLevel = 0 ∧ t.m.power.hot = [] ∧ t.rdb .module Fld.pwrStatusThermal = false ∧ level t)
  ∧ (∀ sensor temp, temp < 100 → s.m.power.hot.all (· == sensor) = false → Answers (.thermalSample sensor temp) s fun t =>
    t.m.power = { s.m.power with hot := s.m.power.hot.filter (· ≠ sensor) } ∧ OnlyChanges [.mod .power] s t)
  ∧ (∀ sensor temp, 105 < temp → temp ≤ 115 → s.m.power.hot.contains sensor = true → Answers (.thermalRecheck sensor temp) s fun t =>
    t.m.power.thermalLevel = 5 ∧ 5 ≤ shedWanted t ∧ level t)
  ∧ (∀ sensor temp, 100 ≤ temp → temp ≤ 105 → Answers (.thermalRecheck sensor temp) s same)
  ∧ (∀ sensor temp, 115 < temp → s.m.power.loss = false → Answers (.thermalRecheck sensor temp) s lossRan)
  ∧ (∀ p pkt, pkt.opcode ≠ 5 → Answers (.powerGrant p pkt) s same)
  ∧ (∀ p pkt, pkt.opcode = 5 → pchkGood pkt = false → Answers (.powerGrant p pkt) s fun t => t.e = s.e
    ∧ t.word .endpoint .fxePwr 0 0 = s.word .endpoint .fxePwr 0 0)
  ∧ (∀ p pkt g, pkt.opcode = 5 → pchkGood pkt = true → s.e.grants = [g] → g.plane ≠ portPlane .endpoint p s → s.now ≤ g.time + 5000000 →
    Answers (.powerGrant p pkt) s fun t => t.rd .endpoint Fld.fxePwrGrant = (min g.grant (pkt.opx.toNat % 65536)) % 65536 ∧ t.rdb .endpoint Fld.fxePwrNoGrant = false
      ∧ (t.e.grants.map fun x => (x.plane, x.time, x.grant)) = [(g.plane, g.time, g.grant), (portPlane .endpoint p s, s.now, pkt.opx.toNat % 65536)]
      ∧ reports t (s.rd .endpoint Fld.fxePwrReport))
  ∧ (∀ p pkt, pkt.opcode = 5 → pchkGood pkt = true → s.e.grants.all (fun g => g.plane == portPlane .endpoint p s || decide (g.time + 5000000 < s.now)) = true →
    Answers (.powerGrant p pkt) s fun t => t.rd .endpoint Fld.fxePwrGrant = pkt.opx.toNat % 65536 ∧ t.rd .endpoint Fld.fxePwrThrottle = pkt.opx.toNat / 2 ^ 16 % 4
      ∧ t.endpoint.out = s.endpoint.out ++ [.grant (pkt.opx.toNat % 65536) (pkt.opx.toNat / 2 ^ 16 % 4)])
  ∧ (Answers .grantTimeout s fun t => t.rd .endpoint Fld.fxePwrGrant = s.rd .endpoint Fld.fxePwrFloor ∧ t.rd .endpoint Fld.fxePwrThrottle = 2
    ∧ t.rdb .endpoint Fld.fxePwrNoGrant = true ∧ t.e.grants = [] ∧ (t.word .endpoint .fxeIntStatus 0 0).getLsbD 7 = true)
  ∧ (∀ r, Answers (.powerReportTimer r) s fun t => t.rd .endpoint Fld.fxePwrReport = r % 65536 ∧ reports t (r % 65536)
    ∧ OnlyChanges [.reg .endpoint .fxePwr, .unit .endpoint .ports, .mod .sw] s t)

/-- SNAP_CTL latches the counters of the groups with the fabric time, and is discarded and recorded while a snapshot is being
written. The snapshot goes into the half not published last, with the next SEQ, BUSY 0 and interrupt source 81. A stream's
period leaves, or is skipped and counted while packets of it are under way or the rate would be exceeded; an invalid stream or
a paused one has none. A scrub paused past its limit resumes over the policy. Rests on 14_time_power.md: R476, R477, R479,
R481, R482, R483. -/
def Obligations.CountersAreSnapshotAndStreamed : Prop := ∀ (k : Nat) (s : State),
  let period := fun (t : State) => smapGet t.m.tel.periods 0 k = smapGet s.m.tel.periods 0 k + 1
  let bytes := ((streamPayloads k (smapGet s.m.tel.periods 0 k) s).map List.length).sum
  let held := streamBusy k s = true ∨ s.rd .module Fld.telCtlMaxRate * s.rd .module Fld.telStreamPeriodUs k < sentWithin (s.rd .module Fld.telStreamPeriodUs k) s + bytes
  let runs := s.rdb .module Fld.telStreamValid k = true ∧ (s.rd .module Fld.telBgCtlPause).testBit 5 = false
  (∀ g, s.rdb .module Fld.telSnapStatusBusy = true → Answers (.snapCtl g) s fun t => t.m.tel = s.m.tel
    ∧ t.word .module .telSnapStatus 0 0 = s.word .module .telSnapStatus 0 0 ∧ t.m.pool = s.m.pool)
  ∧ (∀ g, s.rdb .module Fld.telSnapStatusBusy = false → Answers (.snapCtl g) s fun t => t.rdb .module Fld.telSnapStatusBusy = true
    ∧ t.m.tel = { s.m.tel with latch := some (g % 8192, s.module.time, (maskCounters (g % 8192)).map fun x => s.word .module x.1 x.2 0) }
    ∧ OnlyChanges [.reg .module .telSnapStatus, .mod .tel] s t)
  ∧ (s.m.tel.latch = none → Answers .snapshotPublish s fun t => t = s)
  ∧ (∀ mask time values, s.m.tel.latch = some (mask, time, values) → Answers .snapshotPublish s fun t =>
    t.m.tel = { s.m.tel with latch := none, lastHalf := !s.m.tel.lastHalf } ∧ t.rdb .module Fld.telSnapStatusBusy = false
    ∧ t.rd .module Fld.telSnapStatusSeq = (s.rd .module Fld.telSnapStatusSeq + 1) % 2 ^ 32 ∧ (t.word .module .pciIntStatus 1 0).getLsbD 17 = true
    ∧ t.m.pool.mwin = memWrite s.m.pool.mwin (if s.m.tel.lastHalf then 0 else 524288)
      ((leBytes 4 ((s.rd .module Fld.telSnapStatusSeq + 1) % 2 ^ 32) ++ leBytes 2 mask ++ zeros 2 ++ leBytes 10 time ++ zeros 14
        ++ values.flatMap fun w => leBytes 8 w.toNat).take 524288))
  ∧ ((s.rdb .module Fld.telStreamValid k = false ∨ (s.rd .module Fld.telBgCtlPause).testBit 5 = true) → Answers (.telemetryPeriod k) s fun t => t = s)
  ∧ (runs → held → Answers (.telemetryPeriod k) s fun t => period t ∧ t.m.tel.sent = s.m.tel.sent
    ∧ t.word .module .telSkipCnt 0 0 = countedWord (s.word .module .telSkipCnt 0 0) 1)
  ∧ (runs → streamBusy k s = false → sentWithin (s.rd .module Fld.telStreamPeriodUs k) s + bytes ≤ s.rd .module Fld.telCtlMaxRate * s.rd .module Fld.telStreamPeriodUs k →
    Answers (.telemetryPeriod k) s fun t => period t ∧ t.m.tel.sent = (s.now, bytes) :: s.m.tel.sent.filter (fun x => decide (s.now < x.1 + 1000000000))
      ∧ t.word .module .telSkipCnt 0 0 = s.word .module .telSkipCnt 0 0)
  ∧ (∀ a, a < 2 → (s.rd .module Fld.telBgCtlPause).testBit a = true → Answers (.pauseLimitExpire a) s fun t =>
    (t.rd .module Fld.telPolicyActive).testBit 6 = true ∧ t.m.tel = s.m.tel)
  ∧ (∀ a, (2 ≤ a ∨ (s.rd .module Fld.telBgCtlPause).testBit a = false) → Answers (.pauseLimitExpire a) s fun t => t = s)

/-- Outside an established session with the role, or in recovery mode (but for boot images), each request is answered
ACCESS_DENIED and counted, and changes nothing else. Inside: a free token is leased, another's is RESOURCE, its holder renews
or releases it and a lease that ends frees it; an image goes to flash; a credential slot, an operator's signer slot and a
revocation are set, the last vendor signer is kept; minimum versions only rise; TEST_ARMED, debug access with every key slot
zeroized, FULL_RES. ADMIN may be installed while no slot holds it. Rests on 15_security_management.md: R490, R492, R507, R508,
R513, R514, R515. -/
def Obligations.ManagementRequestsActInTheirRoles : Prop := ∀ (id : Nat) (s : State),
  let has := fun (role : Nat) => (established .module id s).any (fun x => x.roles.testBit role) = true ∧ inRecovery .module s = false
  let lacks := fun (role : Nat) => (established .module id s).any (fun x => x.roles.testBit role) = false ∨ inRecovery .module s = true
  let reply := fun (t : State) (st : Status) => t.module.out.getLast? = some (.spdm (some id) (.vendor st []))
  let denied := fun (t : State) => reply t stAccessDenied ∧ t.word .module .secAuthFailCnt 0 0 = countedWord (s.word .module .secAuthFailCnt 0 0) 1
    ∧ t.m.sec = s.m.sec ∧ t.word .module .secStatus 0 0 = s.word .module .secStatus 0 0 ∧ t.word .module .secOwn 0 0 = s.word .module .secOwn 0 0
  let kept := fun (t : State) => t.m.sec = s.m.sec ∧ OnlyChanges [.unit .module .out] s t
  let leased := fun (t : State) (g : Nat) => smapGet? t.m.sec.leases g = some (id, s.now + 1000000000 * s.rd .module Fld.secCtlLeaseS)
    ∧ (t.rd .module Fld.secOwnHeld).testBit g = true
  let freed := fun (t : State) (g : Nat) => (t.rd .module Fld.secOwnHeld).testBit g = false ∧ t.m.sec = { s.m.sec with leases := smapErase s.m.sec.leases g }
  let owner := fun (g : Nat) => tokenOwner g s
  (∀ g, lacks roleManage → Answers (.tokenAcquire id g) s denied)
  ∧ (∀ g, has roleManage → g < 12 → (owner g = none ∨ owner g = some id) → Answers (.tokenAcquire id g) s fun t => leased t g ∧ reply t stOk)
  ∧ (∀ g o, has roleManage → g < 12 → owner g = some o → o ≠ id → Answers (.tokenAcquire id g) s fun t => kept t ∧ reply t stResource)
  ∧ (∀ g, has roleManage → 12 ≤ g → Answers (.tokenAcquire id g) s fun t => kept t ∧ reply t stAccessDenied)
  ∧ (∀ g, lacks roleManage → Answers (.tokenRenew id g) s denied)
  ∧ (∀ g, has roleManage → g < 12 → owner g = some id → Answers (.tokenRenew id g) s fun t => leased t g ∧ reply t stOk)
  ∧ (∀ g, has roleManage → owner g ≠ some id → Answers (.tokenRenew id g) s fun t => kept t ∧ reply t stAccessDenied)
  ∧ (∀ g, lacks roleManage → Answers (.tokenRelease id g) s denied)
  ∧ (∀ g, has roleManage → owner g = some id → Answers (.tokenRelease id g) s fun t => freed t g ∧ reply t stOk)
  ∧ (∀ g, has roleManage → owner g ≠ some id → Answers (.tokenRelease id g) s fun t => kept t ∧ reply t stAccessDenied)
  ∧ (∀ g, (owner g).isSome = true → Answers (.tokenExpired g) s fun t => freed t g)
  ∧ (∀ g, owner g = none → Answers (.tokenExpired g) s fun t => t = s)
  ∧ (∀ b image, (established .module id s).any (fun x => x.roles.testBit roleAdmin) = false → Answers (.flashWrite id b image) s denied)
  ∧ (∀ b image, (established .module id s).any (fun x => x.roles.testBit roleAdmin) = true → Answers (.flashWrite id b image) s fun t => reply t stOk
    ∧ smapGet t.m.sec.flash [] (if b then 1 else 0) = image ∧ smapGet t.m.sec.flash [] (if b then 0 else 1) = smapGet s.m.sec.flash [] (if b then 0 else 1)
    ∧ OnlyChanges [.mod .sec, .unit .module .out] s t)
  ∧ (∀ c roles key, lacks roleAdmin → Answers (.credSet id c roles key) s denied)
  ∧ (∀ c roles key, has roleAdmin → c < 16 → key ≠ [] → Answers (.credSet id c roles key) s fun t => reply t stOk
    ∧ smapGet t.m.sec.creds [] c = key ∧ t.rdb .module Fld.secCredValid c = true ∧ t.rd .module Fld.secCredRoles c = roles % 16
    ∧ t.rd .module Fld.secCredKeyId c = leNat ((Config.shake256 64 key).take 4))
  ∧ (∀ c roles, has roleAdmin → c < 16 → Answers (.credSet id c roles []) s fun t => reply t stOk ∧ t.word .module .secCred c 0 = 0)
  ∧ (∀ c roles key, has roleAdmin → 16 ≤ c → Answers (.credSet id c roles key) s fun t => kept t ∧ reply t stAccessDenied)
  ∧ (∀ k key revoke, lacks roleAdmin → Answers (.signerSet id k key revoke) s denied)
  ∧ (∀ k key, has roleAdmin → 4 ≤ k → k < 16 → key ≠ [] → Answers (.signerSet id k key false) s fun t => reply t stOk ∧ smapGet t.m.signers [] k = key
    ∧ t.rdb .module Fld.secSignerValid k = true ∧ t.rdb .module Fld.secSignerRevoked k = false ∧ t.rd .module Fld.secSignerUse k = 1)
  ∧ (∀ k key, has roleAdmin → (k < 4 ∨ 16 ≤ k) → Answers (.signerSet id k key false) s fun t => kept t ∧ reply t stAccessDenied)
  ∧ (∀ k key, has roleAdmin → k < 16 → (4 ≤ k ∨ otherVendor k s = true) → Answers (.signerSet id k key true) s fun t => reply t stOk
    ∧ t.rdb .module Fld.secSignerRevoked k = true ∧ t.rdb .module Fld.secSignerValid k = s.rdb .module Fld.secSignerValid k)
  ∧ (∀ k key, has roleAdmin → k < 4 → otherVendor k s = false → Answers (.signerSet id k key true) s fun t => kept t ∧ reply t stAccessDenied)
  ∧ (∀ b i, lacks roleAdmin → Answers (.rollbackRaise id b i) s denied)
  ∧ (∀ b i, has roleAdmin → b ≤ s.m.sec.bootVersion → b < 2 ^ 32 → i ≤ s.rd .module Fld.jigImageIdImageVersion → Answers (.rollbackRaise id b i) s fun t =>
    reply t stOk ∧ t.rd .module Fld.secMinVerMinBootVersion = max b (s.rd .module Fld.secMinVerMinBootVersion)
    ∧ t.rd .module Fld.secMinVerMinImageVersion = max i (s.rd .module Fld.secMinVerMinImageVersion))
  ∧ (∀ b i, has roleAdmin → (s.m.sec.bootVersion < b ∨ s.rd .module Fld.jigImageIdImageVersion < i) → Answers (.rollbackRaise id b i) s fun t =>
    kept t ∧ reply t stVersion)
  ∧ (∀ on, lacks roleTest → Answers (.testArm id on) s denied)
  ∧ (∀ on, has roleTest → Answers (.testArm id on) s fun t => reply t stOk ∧ t.rdb .module Fld.secStatusTestArmed = on
    ∧ OnlyChanges [.reg .module .secStatus, .unit .module .out] s t)
  ∧ (lacks roleTest → Answers (.debugAccessOpen id) s denied)
  ∧ (has roleTest → Answers (.debugAccessOpen id) s fun t => reply t stOk ∧ t.rdb .module Fld.secStatusDebugOn = true
    ∧ t.m.sec = { s.m.sec with deviceKey := s.m.sec.deviceKey + 1 } ∧ (∀ k : Nat, k < 8192 → slotClass .module k t = 0)
    ∧ (∀ k : Nat, k < 8192 → slotClass .module k s ≠ 0 → slotState .module k t = 0 ∧ slotEpoch .module k t = slotEpoch .module k s))
  ∧ (∀ on, lacks roleDiag → Answers (.fullResSet id on) s denied)
  ∧ (∀ on, has roleDiag → (on = false ∨ s.rd .module Fld.secStatusWSlots = 0) → Answers (.fullResSet id on) s fun t => reply t stOk
    ∧ t.rdb .module Fld.secCtlFullRes = on ∧ OnlyChanges [.reg .module .secCtl, .unit .module .out] s t)
  ∧ (has roleDiag → s.rd .module Fld.secStatusWSlots ≠ 0 → Answers (.fullResSet id true) s fun t => kept t ∧ reply t stAccessDenied)
  ∧ (∀ c key, c < 16 → key ≠ [] → (∀ j : Nat, j < 16 → s.rdb .module Fld.secCredValid j = true → (s.rd .module Fld.secCredRoles j).testBit roleAdmin = false) →
    Answers (.i3cAdminInstall c key) s fun t => t.rdb .module Fld.secCredValid c = true ∧ t.rd .module Fld.secCredRoles c = 8 ∧ smapGet t.m.sec.creds [] c = key)
  ∧ (∀ c key j, j < 16 → s.rdb .module Fld.secCredValid j = true → (s.rd .module Fld.secCredRoles j).testBit roleAdmin = true →
    Answers (.i3cAdminInstall c key) s fun t => t = s)

/-- KEY_LOAD outside a session or in recovery mode is denied; a load that R496 refuses is answered with its status and changes no
slot; unwrapped material fills an EMPTY slot, which is then ACTIVE with class, epoch, owner and PR_GEN, or rekeys an ACTIVE
one and keeps the old key as PREV until it expires. ACTIVATE_ORD makes an EMPTY slot ACTIVE ORD, by the endpoint's request or
SEC.SLOT_CMD. RETIRE takes an ACTIVE slot of that epoch to RETIRING; the drain ends with its keys gone, EPOCH one on and
SCRUBBING; the scrub ends EMPTY, and SEC.RETIRE_STATUS shows it. Rests on 15_security_management.md: R494, R495, R496, R498,
R501, R502, R509, R511. -/
def Obligations.KeySlotsLoadAndRetire : Prop := ∀ (id k e : Nat) (s : State),
  let inside := fun (sd : Side) => (established sd id s).isSome = true ∧ inRecovery sd s = false
  let manage := (established .endpoint id s).any (fun x => x.roles.testBit roleManage) = true
  let reply := fun (sd : Side) (t : State) (st : Status) => (t.unit sd).out.getLast? = some (.spdm (some id) (.vendor st []))
  let own := fun (sd : Side) => ((established sd id s).map fun x => x.key).getD []
  let unwrapped := fun (sd : Side) (w : List Byte) => Config.unwrapKey (((established sd id s).map fun x => x.secret).getD []) w
  let slots := fun (sd : Side) (t : State) => (t.unit sd).keys = (s.unit sd).keys ∧ t.word .module .secSlot k 0 = s.word .module .secSlot k 0
  let empty := fun (sd : Side) => slotState sd k s = 0 ∧ ((slotAll sd k s).epochOpen = true ∨ e = slotEpoch sd k s) ∧ slotRoom sd k s = true ∧ 0 < k ∧ e < 16
  let ord := fun (sd : Side) (t : State) => slotState sd k t = 1 ∧ slotClass sd k t = 0 ∧ slotEpoch sd k t = e ∧ slotPrGen sd k t = prGen sd s
  let shown := fun (t : State) (st : Status) => t.rd .module Fld.secRetireStatusKeyIndex = k % 8192 ∧ t.rd .module Fld.secRetireStatusStatus = st.toNat
  let active := fun (sd : Side) => 0 < k ∧ slotState sd k s = 1 ∧ slotEpoch sd k s = e
  (∀ sd c eo po w, ((established sd id s).isNone = true ∨ inRecovery sd s = true) → Answers (.keyLoad sd id k e c eo po w) s fun t =>
    reply sd t stAccessDenied ∧ t.word sd .secAuthFailCnt 0 0 = countedWord (s.word sd .secAuthFailCnt 0 0) 1 ∧ slots sd t)
  ∧ (∀ sd c eo po w st, inside sd → loadRefused sd k e c (own sd) s = some st → Answers (.keyLoad sd id k e c eo po w) s fun t =>
    reply sd t st ∧ slots sd t)
  ∧ (∀ sd c eo po w, inside sd → slotState sd k s = 0 → loadRefused sd k e c (own sd) s = none → e < 16 → Answers (.keyLoad sd id k e c eo po w) s fun t =>
    (((unwrapped sd w).map (materialOk sd c)).getD false = false → reply sd t stCheckFail ∧ slots sd t)
    ∧ (∀ l ∈ (unwrapped sd w).toList, materialOk sd c l = true → reply sd t stOk ∧ slotState sd k t = 1 ∧ slotClass sd k t = c ∧ slotEpoch sd k t = e
      ∧ slotPrGen sd k t = prGen sd s ∧ (slotAll sd k t).link = l.take 32 ∧ (slotAll sd k t).prev = [] ∧ (slotAll sd k t).owner = own sd))
  ∧ (∀ sd c eo po w, inside sd → slotState sd k s = 1 → loadRefused sd k e c (own sd) s = none → Answers (.keyLoad sd id k e c eo po w) s fun t =>
    (((unwrapped sd w).map (materialOk sd c)).getD false = false → reply sd t stCheckFail ∧ slots sd t)
    ∧ (∀ l ∈ (unwrapped sd w).toList, materialOk sd c l = true → reply sd t stOk ∧ slotState sd k t = 1 ∧ slotEpoch sd k t = slotEpoch sd k s
      ∧ (slotAll sd k t).link = l.take 32 ∧ (slotAll sd k t).prev = (slotAll sd k s).link))
  ∧ (∀ sd, (slotAll sd k s).prev = [] → Answers (.prevKeyExpire sd k) s fun t => t = s)
  ∧ (∀ sd, (slotAll sd k s).prev ≠ [] → (slotAll sd k s).link ≠ [] → Answers (.prevKeyExpire sd k) s fun t => (slotAll sd k t).prev = []
    ∧ (slotAll sd k t).link = (slotAll sd k s).link ∧ slotState sd k t = slotState sd k s ∧ slotEpoch sd k t = slotEpoch sd k s)
  ∧ (k = 0 → Answers (.activateOrd id k e) s fun t => reply .endpoint t stAccessDenied ∧ slots .endpoint t)
  ∧ (0 < k → (established .endpoint id s).any (fun x => x.roles.testBit roleManage) = false → Answers (.activateOrd id k e) s fun t =>
    reply .endpoint t stAccessDenied ∧ slots .endpoint t)
  ∧ (manage → empty .endpoint → Answers (.activateOrd id k e) s fun t => ord .endpoint t ∧ reply .endpoint t stOk)
  ∧ (manage → 0 < k → slotState .endpoint k s = 1 → Answers (.activateOrd id k e) s fun t => reply .endpoint t stVersion ∧ slots .endpoint t)
  ∧ (manage → 0 < k → 2 ≤ slotState .endpoint k s → Answers (.activateOrd id k e) s fun t => reply .endpoint t stResource ∧ slots .endpoint t)
  ∧ (empty .module → Answers (.slotCmdActivateOrd k e) s fun t => ord .module t ∧ shown t stOk)
  ∧ (k = 0 → Answers (.slotCmdActivateOrd k e) s fun t => shown t stAccessDenied ∧ slots .module t)
  ∧ (0 < k → slotState .module k s = 1 → Answers (.slotCmdActivateOrd k e) s fun t => shown t stVersion ∧ slots .module t)
  ∧ (manage → active .endpoint → Answers (.slotRetire id k e) s fun t => slotState .endpoint k t = 2 ∧ slotEpoch .endpoint k t = e
    ∧ (slotAll .endpoint k t).link = (slotAll .endpoint k s).link ∧ reply .endpoint t stOk)
  ∧ ((established .endpoint id s).any (fun x => x.roles.testBit roleManage) = false → Answers (.slotRetire id k e) s fun t =>
    reply .endpoint t stAccessDenied ∧ slots .endpoint t)
  ∧ (manage → 0 < k → (slotState .endpoint k s ≠ 1 ∨ slotEpoch .endpoint k s ≠ e) → Answers (.slotRetire id k e) s fun t =>
    reply .endpoint t stVersion ∧ slots .endpoint t)
  ∧ (active .module → Answers (.slotCmdRetire k e) s fun t => slotState .module k t = 2 ∧ slotEpoch .module k t = e
    ∧ t.m.sec.retiring = s.m.sec.retiring ++ [k] ∧ shown t stOk ∧ t.rdb .module Fld.secRetireStatusBusy = true)
  ∧ (0 < k → (slotState .module k s ≠ 1 ∨ slotEpoch .module k s ≠ e) → Answers (.slotCmdRetire k e) s fun t => shown t stVersion ∧ slots .module t)
  ∧ (k = 0 → Answers (.slotCmdRetire k e) s fun t => shown t stAccessDenied ∧ slots .module t)
  ∧ (∀ sd, slotState sd k s ≠ 2 → Answers (.drainExpire sd k) s fun t => t = s)
  ∧ (∀ sd, slotState sd k s = 2 → ((s.unit sd).keys.map fun x => x.1).Nodup → Answers (.drainExpire sd k) s fun t => slotState sd k t = 3
    ∧ slotEpoch sd k t = (slotEpoch sd k s + 1) % 16 ∧ slotClass sd k t = slotClass sd k s ∧ (slotAll sd k t).link = [] ∧ (slotAll sd k t).xts = [])
  ∧ (∀ sd, slotState sd k s ≠ 3 → Answers (.tenantRetired sd k) s fun t => t = s)
  ∧ (∀ sd, slotState sd k s = 3 → Answers (.tenantRetired sd k) s fun t => slotState sd k t = 0 ∧ slotEpoch sd k t = slotEpoch sd k s
    ∧ slotClass sd k t = 0 ∧ (slotAll sd k t).epochOpen = false
    ∧ (sd = .module → t.m.sec.retiring = s.m.sec.retiring.filter (· ≠ k))
    ∧ (sd = .module → s.rd .module Fld.secRetireStatusKeyIndex = k → shown t stOk))

/-- A unit answers on its transports and ignores others. Versions, capabilities, the algorithms it knows of those offered or
ERROR, digest, certificate portion, signed challenge and measurements leave it. KEY_EXCHANGE opens a session below the limit;
FINISH with the right proof establishes it with its roles, else it closes; HEARTBEAT, KEY_UPDATE and END_SESSION act on an
open session and are refused otherwise. Segments in order make a message, one out of order discards it. A doorbell of 1 to
4,096 sets BUSY; the response clears it, and reading its length clears RSP_READY. The watchdog restarts the Puppeteer. Rests
on 15_security_management.md: R487, R491, R493, R512, R517, R520. -/
def Obligations.SpdmSessionsAndTheMailbox : Prop := ∀ (sd : Side) (via : Via) (id : Nat) (s : State),
  let hears := answersOn sd via = true
  let tells := fun (t : State) (x : Option Nat) (r : SpdmResponse) => (t.unit sd).out = (s.unit sd).out ++ [.spdm x r]
  let only := OnlyChanges [.unit sd .out] s
  let sessions := fun (t : State) => (t.unit sd).mgmt.sessions
  let chain := certChain sd s
  let one := fun (i : Nat) => [(i, measurement sd i s)]
  let est := (established sd id s).isSome = true
  let old := fun (p : Nat) => assembly sd p false s
  (answersOn sd via = false → Answers (.getVersion sd via) s fun t => t = s)
  ∧ (hears → Answers (.getVersion sd via) s fun t => tells t none .version ∧ only t)
  ∧ (answersOn sd via = false → Answers (.getCapabilities sd via) s fun t => t = s)
  ∧ (hears → Answers (.getCapabilities sd via) s fun t => tells t none .capabilities ∧ only t)
  ∧ (∀ o, hears → (o.contains 1 || o.contains 2 || o.contains 3 || o.contains 4) = true → Answers (.negotiateAlgorithms sd via o) s fun t =>
    tells t none (.algorithms (([1, 2, 3, 4] : List Nat).filter fun i => o.contains i)) ∧ (t.unit sd).mgmt = { (s.unit sd).mgmt with algorithms := true })
  ∧ (∀ o, hears → (o.contains 1 || o.contains 2 || o.contains 3 || o.contains 4) = false → Answers (.negotiateAlgorithms sd via o) s fun t =>
    tells t none .unsupported ∧ only t)
  ∧ (hears → Answers (.getDigests sd via) s fun t => tells t none (.digests [Config.shake256 64 chain]) ∧ only t)
  ∧ (∀ off len, hears → Answers (.getCertificate sd via off len) s fun t => tells t none (.certificate (slice chain off len)) ∧ only t)
  ∧ (∀ nonce, hears → Answers (.challenge sd via nonce) s fun t =>
    tells t none (.challengeAuth (spdmSign sd 0x83 nonce (Config.shake256 64 chain) s)) ∧ only t)
  ∧ (∀ i nonce, hears → i ∈ measureIndices → Answers (.getMeasurements sd via i nonce) s fun t =>
    tells t none (.measurements (one i) (spdmSign sd 0xE0 nonce (measurement sd i s) s)) ∧ only t)
  ∧ (∀ share, hears → (sessions s).length < sessionLimit sd → Answers (.keyExchange sd via share) s fun t =>
    sessions t = sessions s ++ [{ id := (s.unit sd).mgmt.nextSession, secret := Config.sessionSecret (Config.keyShare (decide (sd = .endpoint)) (s.unit sd).mgmt.nextSession) share }]
    ∧ (t.unit sd).mgmt.nextSession = (s.unit sd).mgmt.nextSession + 1 ∧ (sd = .module → t.rd .module Fld.secStatusSessions = (sessions s).length + 1))
  ∧ (∀ share, hears → sessionLimit sd ≤ (sessions s).length → Answers (.keyExchange sd via share) s fun t => tells t none .refused ∧ only t)
  ∧ (∀ key sg v, session sd id s = none → Answers (.finish sd id key sg v) s fun t => tells t none .refused ∧ only t)
  ∧ (∀ key sg v, est → Answers (.finish sd id key sg v) s fun t => tells t (some id) .refused ∧ only t)
  ∧ (∀ key sg v, (session sd id s).isSome = true → (established sd id s).isNone = true → Answers (.finish sd id key sg v) s fun t =>
    let secret := ((session sd id s).map fun x => x.secret).getD []
    let good := v = Config.finishData secret ∧ Config.ed448Verify key (Config.spdmSigned 0xE5 secret []) sg = true
    (good → tells t (some id) .finished ∧ (established sd id t).map (fun x => (x.roles, x.key)) = some (rolesOf sd key s, Config.shake256 64 key))
    ∧ (¬good → tells t none .refused ∧ session sd id t = none))
  ∧ (Answers (.heartbeat sd id) s fun t => tells t (some id) (if (established sd id s).isSome then .heartbeatAck else .refused) ∧ only t)
  ∧ (est → Answers (.keyUpdate sd id) s fun t => tells t (some id) .keyUpdateAck
    ∧ (established sd id t).map (fun x => (x.updates, x.roles)) = (established sd id s).map fun x => (x.updates + 1, x.roles))
  ∧ ((established sd id s).isNone = true → Answers (.keyUpdate sd id) s fun t => tells t (some id) .refused ∧ only t)
  ∧ ((session sd id s).isSome = true → Answers (.endSession sd id) s fun t => tells t (some id) .endSessionAck
    ∧ sessions t = (sessions s).filter (fun y => decide (y.id ≠ id)) ∧ t.m.sec.leases = s.m.sec.leases)
  ∧ (session sd id s = none → Answers (.endSession sd id) s fun t => tells t (some id) .refused ∧ only t)
  ∧ (∀ p k, k.opcode ≠ 1 → k.opcode ≠ 2 → Answers (.mgmtSegment sd p k) s fun t => t = s)
  ∧ (∀ p k, k.opcode = 1 → pchkGood k = false → Answers (.mgmtSegment sd p k) s fun t => (t.unit sd).mgmt = (s.unit sd).mgmt
    ∧ t.word sd .xptPchkDiscardCnt 0 0 = countedWord (s.word sd .xptPchkDiscardCnt 0 0) 1)
  ∧ (∀ p k, k.opcode = 1 → pchkGood k = true → old p = none → k.opx.toNat % 256 = 0 → k.opx.getLsbD 8 = true → k.payload.length ≤ 4096 →
    Answers (.mgmtSegment sd p k) s fun t => (t.unit sd).out = (s.unit sd).out ++ [.mgmtMessage p false k.payload])
  ∧ (∀ p k, k.opcode = 1 → pchkGood k = true → old p = none → k.opx.toNat % 256 = 0 → k.opx.getLsbD 8 = false → k.payload.length ≤ 4096 →
    Answers (.mgmtSegment sd p k) s fun t => assembly sd p false t = some { port := p, response := false, number := k.opx.toNat / 65536, next := 1, bytes := k.payload })
  ∧ (∀ p k, k.opcode = 1 → pchkGood k = true → (old p).map (fun a => a.number) = some (k.opx.toNat / 65536) →
    (old p).map (fun a => a.next) ≠ some (k.opx.toNat % 256) → Answers (.mgmtSegment sd p k) s fun t => assembly sd p false t = none
      ∧ (t.unit sd).mgmt.discards = (s.unit sd).mgmt.discards + 1)
  ∧ (∀ n, s.rdb .module Fld.mgtStatusBusy = false → 0 < n → n ≤ 4096 → Answers (.mgtDoorbell n) s fun t => t.rdb .module Fld.mgtStatusBusy = true
    ∧ OnlyChanges [.reg .module .mgtStatus] s t)
  ∧ (∀ n, (s.rdb .module Fld.mgtStatusBusy = true ∨ n = 0 ∨ 4096 < n) → Answers (.mgtDoorbell n) s fun t =>
    t.word .module .mgtStatus 0 0 = s.word .module .mgtStatus 0 0 ∧ t.m.sec = s.m.sec)
  ∧ (∀ l, s.rdb .module Fld.mgtStatusBusy = true → Answers (.mgtResponse l) s fun t => t.m.sec = { s.m.sec with response := l.take 4096 }
    ∧ t.rd .module Fld.mgtRspLenLength = min 4096 l.length ∧ t.rdb .module Fld.mgtStatusBusy = false ∧ t.rdb .module Fld.mgtStatusRspReady = true
    ∧ (t.word .module .pciIntStatus 1 0).getLsbD 10 = true)
  ∧ (∀ l, s.rdb .module Fld.mgtStatusBusy = false → Answers (.mgtResponse l) s fun t => t = s)
  ∧ (Answers .rspLenRead s fun t => t.rdb .module Fld.mgtStatusRspReady = false
    ∧ t.module.out = s.module.out ++ [.hostCompletion (leBytes 8 (s.word .module .mgtRspLen 0 0).toNat)]
    ∧ OnlyChanges [.reg .module .mgtStatus, .unit .module .out] s t)
  ∧ (Answers .watchdogExpire s fun t => t.word .module .mgtWdogCnt 0 0 = countedWord (s.word .module .mgtWdogCnt 0 0) 1
    ∧ t.rd .module Fld.mgtStatusPupState = 0 ∧ t.rdb .module Fld.mgtStatusBusy = false ∧ t.module.mgmt.sessions = [] ∧ t.rd .module Fld.secStatusSessions = 0
    ∧ t.rd .module Fld.fltStatusLastReset = 4 ∧ t.m.sec = s.m.sec)

/-- A slot without a report shows NO_REPORT, and after 1 ms it is evidence. An unanswered snoop is counted and sent again, then
recovers and is evidence, as is a missing RECOVER_DONE. A chunk past its time restarts, or once its restarts are spent aborts.
An evidence bit clears once its condition is gone. LINK_DOWN held quarantines a live unit while QUAR_EN is 1. A tray whose
ports left UP together is recorded. Both NoC planes lost, or an internal error, is FATAL with every port down. Rests on
16_faults_recovery.md: R524, R525, R526, R533, R540; 08_coherent_pool.md: R260, R263; 09_collectives.md: R302;
14_time_power.md: R471; 05_switching_core.md: R151. -/
def Obligations.FaultsGiveEvidenceAndQuarantine : Prop := ∀ (k : Nat) (s : State),
  let same := fun (t : State) => t = s
  let port := s.rd .module Fld.rteSlotPort k
  let shows := fun (t : State) (p bit : Nat) => (t.rd .module Fld.fltLiveEvidence p).testBit bit = true
  let leafSlot := s.isLeaf = true ∧ s.rdb .module Fld.rteSlotValid k = true
  let reported := smapGet s.m.power.reportAt 0 k
  (s.isLeaf = false ∨ s.rdb .module Fld.rteSlotValid k = false → Answers (.reportTimeout k) s same)
  ∧ (leafSlot → s.now < reported + 1000000 → Answers (.reportTimeout k) s fun t => t.rdb .module Fld.pwrEpNoReport k = true
    ∧ OnlyChanges [.reg .module .pwrEp] s t)
  ∧ (leafSlot → reported + 1000000 ≤ s.now → Answers (.reportTimeout k) s fun t => t.rdb .module Fld.pwrEpNoReport k = true ∧ shows t port 4)
  ∧ (∀ q l, openSnoop k q l s = none → s.m.dir.flush = none → Answers (.snoopTimeout k q l) s same)
  ∧ (∀ q l, (openSnoop k q l s).any (fun x => decide (x.2.sent < 2)) = true → Answers (.snoopTimeout k q l) s fun t =>
    t.word .module .dirSnpTimeoutCnt 0 0 = countedWord (s.word .module .dirSnpTimeoutCnt 0 0) 1 ∧ t.m.dir.txns.length = s.m.dir.txns.length
    ∧ t.m.dir.recovery = s.m.dir.recovery)
  ∧ (∀ q l, (openSnoop k q l s).any (fun x => decide (2 ≤ x.2.sent)) = true → leafSlot → Answers (.snoopTimeout k q l) s fun t => shows t port 2)
  ∧ ((s.m.dir.recovery.any fun r => decide (r.slot = k)) = false → Answers (.recoverTimeout k) s same)
  ∧ ((s.m.dir.recovery.any fun r => decide (r.slot = k)) = true → leafSlot → Answers (.recoverTimeout k) s fun t => shows t port 3)
  ∧ (∀ st c, mrnChunk k st c s = none → Answers (.chunkTimeout k st c) s same)
  ∧ (∀ st c, (mrnChunk k st c s).any (fun x => decide (x.phase = .isOpen) && decide (x.restarts < x.maxRestarts)) = true →
    (∀ e : Nat, e < 16 → s.rdb .module Fld.fltShadowValid e = false) → (s.m.mrn.chunks.map fun x => (x.ctx, x.step, x.chunk)).Nodup →
    Answers (.chunkTimeout k st c) s fun t =>
      (mrnChunk k st c t).map (fun x => (x.restarts, x.attempt)) = (mrnChunk k st c s).map (fun x => (x.restarts + 1, (x.attempt + 1) % 16))
      ∧ t.word .module .mrnRestartCnt 0 0 = countedWord (s.word .module .mrnRestartCnt 0 0) 1)
  ∧ (∀ st c, (mrnChunk k st c s).any (fun x => decide (x.phase = .isOpen) && decide (x.maxRestarts ≤ x.restarts) && x.badCheck) = true →
    (∀ e : Nat, e < 16 → s.rdb .module Fld.fltShadowValid e = false) → Answers (.chunkTimeout k st c) s fun t =>
      t.word .module .fltLive k 0 = s.word .module .fltLive k 0 ∧ t.word .module .mrnRestartCnt 0 0 = s.word .module .mrnRestartCnt 0 0)
  ∧ (∀ bit, evidenceHolds k bit s = true → Answers (.evidenceClear k bit) s same)
  ∧ (∀ bit, evidenceHolds k bit s = false → Answers (.evidenceClear k bit) s fun t => (t.rd .module Fld.fltLiveEvidence k).testBit bit = false
    ∧ (∀ b : Nat, b ≠ bit → (t.rd .module Fld.fltLiveEvidence k).testBit b = (s.rd .module Fld.fltLiveEvidence k).testBit b)
    ∧ t.rd .module Fld.fltLiveState k = s.rd .module Fld.fltLiveState k ∧ OnlyChanges [.reg .module .fltLive] s t)
  ∧ ((s.rd .module Fld.fltLiveEvidence k).testBit 0 = true → activeMask .module k s = 0 → downTrayOf k s = none → mayQuarantine k s = true →
    Answers (.quarantineTimer k) s fun t => t.rd .module Fld.fltLiveState k = 1 ∧ t.word .module .fltQuarCnt 0 0 = countedWord (s.word .module .fltQuarCnt 0 0) 1)
  ∧ (((s.rd .module Fld.fltLiveEvidence k).testBit 0 = false ∨ activeMask .module k s ≠ 0 ∨ (downTrayOf k s = none ∧ mayQuarantine k s = false)) →
    Answers (.quarantineTimer k) s same)
  ∧ (∀ tr, (s.rd .module Fld.fltLiveEvidence k).testBit 0 = true → activeMask .module k s = 0 → downTrayOf k s = some tr → Answers (.quarantineTimer k) s fun t =>
    t.m.live.trays = s.m.live.trays.filter (· ≠ tr)
    ∧ (∀ j ∈ traySlots tr s, s.rdb .module Fld.rteSlotValid j = true → mayQuarantine (slotPort s j) s = true → t.rd .module Fld.fltLiveState (slotPort s j) = 1))
  ∧ (s.isLeaf = true → trayDown k s = true → s.m.live.trays.contains k = false → Answers (.trayDown k) s fun t => t.m.live = { s.m.live with trays := s.m.live.trays ++ [k] })
  ∧ (s.isLeaf = false ∨ trayDown k s = false ∨ s.m.live.trays.contains k = true → Answers (.trayDown k) s same)
  ∧ (∀ r, Answers (.nocRouterFault k r) s fun t => t.m.sw.nocFault = (if s.m.sw.nocFault.contains k then s.m.sw.nocFault else s.m.sw.nocFault ++ [k])
    ∧ ((t.m.sw.nocFault.contains 0 && t.m.sw.nocFault.contains 1 && !(s.m.sw.nocFault.contains 0 && s.m.sw.nocFault.contains 1)) = true →
      t.rdb .module Fld.fltStatusFatal = true ∧ (∀ p : Nat, p < 1024 → portUp .module p t = false)))
  ∧ (∀ d, Answers (.internalFatal k d) s fun t => t.rdb .module Fld.fltStatusFatal = true ∧ (∀ p : Nat, p < 1024 → portUp .module p t = false))

/-- Outside a MANAGE session a vote, decision or notice is denied. The witness answers a proposal on a unit it faces with a signed
ballot of its evidence, and denies others. A decision needs YES ballots of two voters: it expels, with the port's unit
EXPELLED and dead, or readmits, with STATE LIVE and the unit off the list, or sets WITNESS where both managers voted; with
fewer it is denied. A relayed notice at the endpoint block puts an EID on its dead list of 1,024, or takes it off. Rests on
16_faults_recovery.md: R523, R527, R528, R529, R530; 15_security_management.md: R513. -/
def Obligations.QuorumDecidesAndNoticesSpread : Prop := ∀ (id n nonce : Nat) (e : Eid) (s : State),
  let has := (established .module id s).any (fun x => x.roles.testBit roleManage) = true ∧ inRecovery .module s = false
  let lacks := (established .module id s).any (fun x => x.roles.testBit roleManage) = false ∨ inRecovery .module s = true
  let reply := fun (t : State) (st : Status) => t.module.out.getLast? = some (.spdm (some id) (.vendor st []))
  let denied := fun (t : State) => reply t stAccessDenied ∧ t.module.dead = s.module.dead
  let kept := fun (t : State) => denied t ∧ OnlyChanges [.unit .module .out] s t
  let faces := fun (p : Nat) => portFacing e s = some p
  (∀ sh, lacks → Answers (.vote id n e nonce sh) s denied)
  ∧ (∀ sh, has → portFacing e s = none → Answers (.vote id n e nonce sh) s kept)
  ∧ (∀ sh p, has → faces p → (s.rdb .module Fld.fltLiveWitness p = false ∨ (n ≠ 1 ∧ n ≠ 2)) → Answers (.vote id n e nonce sh) s kept)
  ∧ (∀ sh p, has → faces p → (n = 1 ∨ n = 2) → s.rdb .module Fld.fltLiveWitness p = true → Answers (.vote id n e nonce sh) s fun t =>
    t.module.out.getLast? = some (.spdm (some id) (.vendor stOk (witnessBallot n (witnessVote n p sh s) p e nonce s
      ++ fitTo 114 (Config.ed448Sign (aliasSecret .module s) (witnessBallot n (witnessVote n p sh s) p e nonce s)))))
    ∧ t.word .module .fltLive p 0 = s.word .module .fltLive p 0)
  ∧ (∀ b w, lacks → Answers (.decide id n e nonce b w) s denied)
  ∧ (∀ b w, has → portFacing e s = none → Answers (.decide id n e nonce b w) s kept)
  ∧ (∀ b w p, has → faces p → ((yesVoters .module n e nonce b s).length < 2 ∨ (n ≠ 1 ∧ n ≠ 2)) → Answers (.decide id n e nonce b w) s kept)
  ∧ (∀ b p, has → faces p → Answers (.decide id n e nonce b none) s fun t =>
    let yes := yesVoters .module n e nonce b s
    (2 ≤ yes.length → n = 1 → reply t stOk ∧ t.rd .module Fld.fltLiveState p = 2 ∧ t.module.dead.contains e = true)
    ∧ (2 ≤ yes.length → n = 2 → reply t stOk ∧ t.rd .module Fld.fltLiveState p = 0 ∧ t.module.dead = s.module.dead.filter (· ≠ e))
    ∧ (yes.length < 2 → kept t))
  ∧ (∀ b w p, has → faces p → (n = 1 ∨ n = 2) → Answers (.decide id n e nonce b (some w)) s fun t =>
    let yes := yesVoters .module n e nonce b s
    ((yes.contains 0 && yes.contains 1) = true → 2 ≤ yes.length → reply t stOk ∧ t.rdb .module Fld.fltLiveWitness p = w)
    ∧ ((yes.contains 0 && yes.contains 1) = false → kept t))
  ∧ (∀ b, lacks → Answers (.deadNotice .module id e nonce b false) s denied)
  ∧ (∀ b, has → Answers (.deadNotice .module id e nonce b false) s fun t =>
    let yes := yesVoters .module 1 e nonce b s
    (yes.length < 2 → kept t)
    ∧ (2 ≤ yes.length → s.module.dead.contains e = true → reply t stOk ∧ OnlyChanges [.unit .module .out] s t)
    ∧ (2 ≤ yes.length → s.module.dead.contains e = false → s.module.dead.length < 1024 → reply t stOk ∧ t.module.dead = s.module.dead ++ [e])
    ∧ (2 ≤ yes.length → s.module.dead.contains e = false → 1024 ≤ s.module.dead.length → reply t stResource ∧ t.module.dead = s.module.dead))
  ∧ (∀ b, s.endpoint.dead.contains e = true → Answers (.deadNotice .endpoint id e nonce b true) s fun t => t = s)
  ∧ (∀ b, s.endpoint.dead.contains e = false → s.endpoint.dead.length < 1024 → Answers (.deadNotice .endpoint id e nonce b true) s fun t =>
    t.endpoint.dead = s.endpoint.dead ++ [e] ∧ t.module.dead = s.module.dead)
  ∧ (∀ b, s.endpoint.dead.contains e = false → 1024 ≤ s.endpoint.dead.length → Answers (.deadNotice .endpoint id e nonce b true) s fun t => t = s)
  ∧ (∀ b, Answers (.liveNotice .endpoint id e nonce b true) s fun t => t.endpoint.dead = s.endpoint.dead.filter (· ≠ e)
    ∧ OnlyChanges [.unit .endpoint .dead] s t)
  ∧ (∀ b, lacks → Answers (.liveNotice .module id e nonce b false) s denied)
  ∧ (∀ b, has → Answers (.liveNotice .module id e nonce b false) s fun t =>
    let yes := yesVoters .module 2 e nonce b s
    (yes.length < 2 → kept t) ∧ (2 ≤ yes.length → reply t stOk ∧ t.module.dead = s.module.dead.filter (· ≠ e)))

/-- POWER_ON and COLD leave every register but the log's and the reset record at its reset value and keep the field record, boot
flash, fuses and last-gasp record; COLD keeps what runs and returns to step 1's end. WARM returns to step 4 with links, switch
and reduction state anew and every unit quarantined; FUNCTION empties queues and mailbox; PUPPETEER closes sessions; RST_N
leaves the endpoint block as at reset. With no valid boot image the Puppeteer is in recovery. A present break runs power loss;
an overload turns one supply off. An armed rule injects, a flapped port's lanes come back. Rests on 16_faults_recovery.md:
R540, R541, R544, R545, R546; 13_jigsaw_bringup.md: R436; 15_security_management.md: R490, R495; 11_endpoint_block.md: R386;
18_module_hardware.md: R574, R583. -/
def Obligations.ResetsLeaveWhatTheySay : Prop := ∀ (i w : Nat) (s : State),
  let noted : List Reg := [.fltLog, .fltLogStatus, .fltLostCnt, .fltSuppressCnt, .fltStatus, .pciIntStatus, .telOvfEventCnt]
  let keeps := fun (t : State) => t.m.tile.record = s.m.tile.record ∧ t.m.sec.otp = s.m.sec.otp ∧ t.m.sec.flash = s.m.sec.flash
    ∧ t.m.power.lastGasp = s.m.power.lastGasp ∧ t.endpoint = s.endpoint ∧ t.e = s.e
  let fresh := fun (t : State) => t.module.lanes = [] ∧ t.module.ports = [] ∧ t.module.inbox = [] ∧ t.module.keys = [] ∧ t.module.dead = []
    ∧ t.module.xpt = {} ∧ t.m.pool = {} ∧ t.m.dir = {} ∧ t.m.mrn = {} ∧ t.m.eng = {} ∧ t.m.sw = {} ∧ t.module.mgmt.sessions = []
  let last := fun (t : State) (c : Nat) => t.rd .module Fld.fltStatusLastReset = c
  let warm := fun (t : State) => last t 2 ∧ bringStep t = 4 ∧ bringBusy t = false ∧ bringFail t = false ∧ t.rdb .module Fld.glbBringupStatusEnabled = false
    ∧ t.rdb .module Fld.fltStatusFatal = false ∧ (∀ p : Nat, p < 1024 → t.rd .module Fld.fltLiveState p = 1) ∧ t.module.ports = [] ∧ t.module.inbox = []
    ∧ t.m.mrn = {} ∧ t.m.sw = {} ∧ t.m.pool.fast = [] ∧ t.module.mgmt.sessions = [] ∧ t.m.bring.codeLoaded = false ∧ t.m.bring.firmware = false
    ∧ t.m.tile.migration = none ∧ t.m.tile.change = none ∧ t.m.tile.record.length = s.m.tile.record.length
  let same := fun (t : State) => t = s
  let lossRan := fun (t : State) => t.m.power.loss = true ∧ t.m.bring.powerGood = false ∧ (t.m.power.lastGasp.map (·.time)) = some s.module.time
  let quiet := s.endpoint.xpt.finished = [] ∧ s.module.xpt.finished = []
  let lone := fun (j : Nat) => j < 64 ∧ s.rdb .module Fld.ratRuleValid j = true ∧ (∀ m : Nat, m < 64 → m ≠ j → s.rdb .module Fld.ratRuleValid m = false)
  let bad := fun (a : List Byte) => imgField a 0 4 ≠ 0x51554254
  (Answers .powerOnReset s fun t => keeps t ∧ fresh t ∧ last t 0 ∧ (∀ r ∈ allRegs, r ∉ noted → t.word .module r i w = regReset .module r i w)
    ∧ t.m.sec.deviceKey = s.m.sec.deviceKey + 1 ∧ t.m.bring = {} ∧ t.now = s.now)
  ∧ (∀ f, Answers (.coldReset f) s fun t => keeps t ∧ fresh t ∧ last t 1
    ∧ (∀ r ∈ allRegs, r ∉ noted → r ∉ ([.mgtStatus, .secStatus, .secMeas, .glbBringupStatus] : List Reg) → t.word .module r i w = regReset .module r i w)
    ∧ t.rd .module Fld.mgtStatusPupState = s.rd .module Fld.mgtStatusPupState ∧ bringStep t = 1 ∧ bringBusy t = false ∧ t.m.bring.powerGood = true
    ∧ t.m.sec.bootVersion = s.m.sec.bootVersion)
  ∧ (Answers .warmReset s warm)
  ∧ (s.rdb .module Fld.fltStatusFatal = true → s.rdb .module Fld.fltCtlAutoWarm = true → Answers .autoWarmTimer s warm)
  ∧ (s.rdb .module Fld.fltStatusFatal = false ∨ s.rdb .module Fld.fltCtlAutoWarm = false → Answers .autoWarmTimer s same)
  ∧ (Answers .functionReset s fun t => last t 3 ∧ t.m.pci.apt = [] ∧ t.m.pci.memEnable = false ∧ t.m.pci.busMaster = false
    ∧ t.m.sec.request = [] ∧ t.m.sec.response = [] ∧ t.rdb .module Fld.mgtStatusBusy = false ∧ t.rd .module Fld.mgtRspLenLength = 0
    ∧ t.rd .module Fld.pciStatusDState = 0 ∧ (∀ q : Nat, q < 72 → t.rdb .module Fld.engQValid q = false ∧ (engQueue q t).cmds = [])
    ∧ t.endpoint = s.endpoint ∧ t.module.lanes = s.module.lanes ∧ t.module.ports = s.module.ports)
  ∧ (Answers .puppeteerReset s fun t => last t 4 ∧ t.rd .module Fld.mgtStatusPupState = 0 ∧ t.rdb .module Fld.mgtStatusBusy = false
    ∧ t.module.mgmt.sessions = [] ∧ t.module.mgmt.assembly = [] ∧ t.m.sec = s.m.sec ∧ t.module.lanes = s.module.lanes)
  ∧ (Answers .rstN s fun t => t.endpoint.regs = [] ∧ t.endpoint.lanes = [] ∧ t.endpoint.ports = [] ∧ t.endpoint.xpt = {} ∧ t.endpoint.keys = []
    ∧ t.endpoint.mgmt.sessions = [] ∧ t.e = {} ∧ t.module = s.module ∧ t.m = s.m)
  ∧ (∀ a b otp, s.m.bring.powerGood = true → s.rd .module Fld.mgtStatusPupState ≠ 0 → Answers (.puppeteerBoot a b otp) s same)
  ∧ (∀ a b otp, s.m.bring.powerGood = false → s.m.sec.flash = [] → bad a → bad b → Answers (.puppeteerBoot a b otp) s fun t =>
    t.rd .module Fld.mgtStatusPupState = 2 ∧ bringStep t = 1 ∧ bringFail t = true ∧ bringBusy t = false ∧ t.m.bring.powerGood = false)
  ∧ (∀ a b otp, s.m.bring.powerGood = false → s.m.sec.flash = [] → s.m.sec.otp = none → Answers (.puppeteerBoot a b otp) s fun t =>
    t.m.sec.otp = some otp ∧ smapGet t.m.sec.flash [] 0 = a ∧ smapGet t.m.sec.flash [] 1 = b
    ∧ (bootOk a otp = true → t.rd .module Fld.mgtStatusPupState = 1 ∧ t.rdb .module Fld.secStatusBootB = false ∧ bringStep t = 1 ∧ bringFail t = false
      ∧ bringBusy t = false ∧ t.m.bring.powerGood = true ∧ t.m.sec.bootVersion = imgField a 12 4)
    ∧ (bootOk a otp = false → bootOk b otp = true → t.rd .module Fld.mgtStatusPupState = 1 ∧ t.rdb .module Fld.secStatusBootB = true
      ∧ t.m.sec.bootVersion = imgField b 12 4))
  ∧ (s.m.power.loss = false → Answers .presentNBreak s lossRan)
  ∧ (s.m.power.loss = true → Answers .presentNBreak s same)
  ∧ (∀ c, Answers (.cbl3v3Overload c) s fun t => t.m.power.cblOff.contains c = true ∧ OnlyChanges [.mod .power] s t)
  ∧ (∀ items l, quiet → rattleArmed s = false → Answers (.rattleInterval items l) s same)
  ∧ (∀ items l j, quiet → rattleArmed s = true → lone j → s.rd .module Fld.ratRuleKind j = 7 → s.rd .module Fld.ratRuleTargetType j = 3 →
    s.rd .module Fld.ratRuleTarget j < 12 → s.rd .module Fld.ratRuleRateLog2 j = 0 → Answers (.rattleInterval items l) s fun t =>
      (s.rd .module Fld.ratRuleParam j = 1 → t.word .module .ddrCeCnt 0 0 = countedWord (s.word .module .ddrCeCnt 0 0) 1 ∧ t.m.pool = s.m.pool)
      ∧ (s.rd .module Fld.ratRuleParam j ≠ 1 → t.word .module .ddrUeCnt 0 0 = countedWord (s.word .module .ddrUeCnt 0 0) 1 ∧ t.m.pool.poison.contains l = true)
      ∧ smapGet t.m.rattle.spent 0 j = smapGet s.m.rattle.spent 0 j + 1)
  ∧ (∀ p, smapGet? s.m.rattle.flaps p = none → Answers (.flapDownExpire p) s same)
  ∧ (∀ p lanes, smapGet? s.m.rattle.flaps p = some lanes → Answers (.flapDownExpire p) s fun t => (∀ n ∈ lanes, laneSt .module n t = 1)
    ∧ t.m.rattle = { s.m.rattle with flaps := smapErase s.m.rattle.flaps p })

/-- For registers whose write only sets fields: a field takes an allowed value, keeps its own against a reserved one or where it
is read-only; a host write while another holds the group's token, a poisoned one, one not of 8 aligned bytes and one to no
register leave every such register. A MANAGE session reads and writes, others are denied. The core port reads 8 aligned bytes,
writes with the outcome APPLIED, or NOT_APPLIED under MGMT_LOCK or for a reserved value, and is answered ACCESS_DENIED
otherwise. The mailbox takes the host's bytes. Rests on 02_identities_addresses.md: R9, R10; 11_endpoint_block.md: R353, R358,
R359; 15_security_management.md: R512, R513, R520; 17_host_interface.md: R555, R556. -/
def Obligations.RegistersAreReadAndWritten : Prop := ∀ (a : Nat) (r : Reg) (i w : Nat) (v : Word) (s : State),
  let quiet := s.endpoint.xpt.finished = [] ∧ s.module.xpt.finished = []
  let plain : List Reg := [.jigCtl, .tilCtl, .memCtl, .mrnCtl, .redCtl, .telCtl, .telStream, .secCtl, .fltCtl, .fltDomain, .pwrCtl]
  let plainE : List Reg := [.fxeIntEn, .fxeCtxcfg, .fxeMcast, .fxePwr, .memWin]
  let at' := fun (sd : Side) => regAt sd a = some (r, i, w)
  let takes := fun (sd : Side) (t : State) => ∀ f ∈ r.fields, f.word = w → bitsOf (t.word sd r i w) f.hi f.lo =
    (if f.acc ≠ .ro ∧ f.allowed.ok (bitsOf v f.hi f.lo) = true then bitsOf v f.hi f.lo else bitsOf (s.word sd r i w) f.hi f.lo)
  let opens := fun (sd : Side) (path : Path) => rwlOpen sd path a s = true
  let closed := fun (sd : Side) (path : Path) => rwlOpen sd path a s = false
  let bytes := leBytes 8 v.toNat
  let holds := fun (sd : Side) (t : State) => t.word sd r i w = s.word sd r i w
  let has := fun (sd : Side) (id : Nat) => (established sd id s).any (fun x => x.roles.testBit roleManage) = true
  let lacks := fun (sd : Side) (id : Nat) => (established sd id s).any (fun x => x.roles.testBit roleManage) = false
  let said := fun (sd : Side) (t : State) (id : Nat) (st : Status) (l : List Byte) => (t.unit sd).out.getLast? = some (.spdm (some id) (.vendor st l))
  let xr := fun (t : State) (ctx atag : Nat) (st : Status) (o : Nat) (l : List Byte) => t.endpoint.out.getLast? = some (.xr (ctx / 32) atag st o false false 0 l)
  (∀ path, quiet → at' .module → r ∈ plain → opens .module path → Answers (.registerWrite .module path a bytes false) s (takes .module))
  ∧ (∀ path, quiet → at' .module → r ∈ plain → r ≠ .secCtl → closed .module path → Answers (.registerWrite .module path a bytes false) s (holds .module))
  ∧ (∀ path, quiet → at' .endpoint → r ∈ plainE → opens .endpoint path → Answers (.registerWrite .endpoint path a bytes false) s (takes .endpoint))
  ∧ (∀ sd path l, r ∈ plain → Answers (.registerWrite sd path a l true) s fun t => holds sd t ∧ t.m.sec = s.m.sec)
  ∧ (∀ sd path l, r ∈ plain → (l.length ≠ 8 ∨ a % 8 ≠ 0) → (a < 0x2801000 ∨ 0x2802000 ≤ a) → Answers (.registerWrite sd path a l false) s fun t =>
    holds sd t ∧ t.m.sec = s.m.sec)
  ∧ (∀ sd path, quiet → r ∈ plain → regAt sd a = none → (a < 0x2801000 ∨ 0x2802000 ≤ a) → Answers (.registerWrite sd path a bytes false) s fun t =>
    holds sd t ∧ t.m.sec = s.m.sec)
  ∧ (∀ path l, 0x2801000 ≤ a → a + l.length ≤ 0x2802000 → a % 4 = 0 → l.length % 4 = 0 → Answers (.registerWrite .module path a l false) s fun t =>
    t.m.sec.request.length = 4096 ∧ (t.m.sec.request.drop (a - 0x2801000)).take l.length = l
    ∧ t.m.sec.request.take (a - 0x2801000) = (fitTo 4096 s.m.sec.request).take (a - 0x2801000) ∧ OnlyChanges [.mod .sec] s t)
  ∧ (∀ sd id, has sd id → Answers (.regRead sd id a) s fun t => said sd t id stOk (leBytes 8 (readRegister sd a s).toNat)
    ∧ OnlyChanges [.unit sd .out, .reg .module .mgtStatus] s t)
  ∧ (∀ id, has .module id → at' .module → r ∈ plain → Answers (.regRead .module id a) s fun t =>
    said .module t id stOk (leBytes 8 (s.word .module r i w).toNat) ∧ OnlyChanges [.unit .module .out] s t)
  ∧ (∀ sd id, lacks sd id → Answers (.regRead sd id a) s fun t => said sd t id stAccessDenied []
    ∧ t.word sd .secAuthFailCnt 0 0 = countedWord (s.word sd .secAuthFailCnt 0 0) 1)
  ∧ (∀ id, quiet → has .module id → inRecovery .module s = false → at' .module → r ∈ plain → Answers (.regWrite .module id a v) s fun t =>
    takes .module t ∧ said .module t id stOk [])
  ∧ (∀ id, quiet → has .endpoint id → at' .endpoint → r ∈ plainE → Answers (.regWrite .endpoint id a v) s fun t =>
    takes .endpoint t ∧ said .endpoint t id stOk [])
  ∧ (∀ sd id, lacks sd id → r ∈ plain → Answers (.regWrite sd id a v) s fun t => holds sd t ∧ said sd t id stAccessDenied [])
  ∧ (∀ id, inRecovery .module s = true → r ∈ plain → Answers (.regWrite .module id a v) s fun t => holds .module t ∧ said .module t id stAccessDenied [])
  ∧ (∀ ctx atag n, n ≠ 8 ∨ a % 8 ≠ 0 → Answers (.regRd ctx atag a n) s fun t => xr t ctx atag stAccessDenied outNotApplied []
    ∧ OnlyChanges [.unit .endpoint .out] s t)
  ∧ (∀ ctx atag, a % 8 = 0 → a < 2 ^ 20 → Answers (.regRd ctx atag a 8) s fun t => xr t ctx atag stOk outApplied (leBytes 8 (readRegister .endpoint a s).toNat)
    ∧ OnlyChanges [.unit .endpoint .out] s t)
  ∧ (∀ ctx atag, quiet → at' .endpoint → a < 2 ^ 20 → a % 8 = 0 → r ∈ plainE → coreDiscards a v s = false → opens .endpoint .corePort → Answers (.regWr ctx atag a bytes) s fun t =>
    takes .endpoint t ∧ xr t ctx atag stOk outApplied [])
  ∧ (∀ ctx atag, quiet → at' .endpoint → a < 2 ^ 20 → a % 8 = 0 → r = .fxePwr → closed .endpoint .corePort → Answers (.regWr ctx atag a bytes) s fun t =>
    holds .endpoint t ∧ xr t ctx atag stOk outNotApplied [])
  ∧ (∀ ctx atag l, l.length ≠ 8 ∨ a % 8 ≠ 0 → l.length ≠ 64 → Answers (.regWr ctx atag a l) s fun t => xr t ctx atag stAccessDenied outNotApplied []
    ∧ OnlyChanges [.unit .endpoint .out] s t)

/-- A register write of RAT.CTL or of a rule's first word that sets its enable bit, by the host or any other path that is no TEST
session, and one of a MANAGE session without the TEST role or while TEST_ARMED is 0, leaves the RAT block and is recorded as a
register-access event, whatever token is held; one of a session with MANAGE and TEST while TEST_ARMED is 1 takes effect. A
TEST session sets and clears TEST_ARMED, and a session without that role does not. Formalises R515. -/
def Obligations.InjectionNeedsTestArmed : Prop := ∀ (a : Nat) (r : Reg) (i id : Nat) (v : Word) (s : State),
  let quiet := s.endpoint.xpt.finished = [] ∧ s.module.xpt.finished = []
  let enables := regAt .module a = some (r, i, 0) ∧ (r = .ratCtl ∨ r = .ratRule) ∧ v.getLsbD 63 = true
  let recorded := regAccess .module a v.toNat s
  let armed := s.rdb .module Fld.secStatusTestArmed
  let has := fun (role : Nat) => (established .module id s).any (fun x => x.roles.testBit role) && !inRecovery .module s
  let ok := fun (t : State) => respond .module (some id) (.vendor stOk []) t
  let takes := fun (t : State) => ∀ f ∈ r.fields, f.word = 0 → bitsOf (t.word .module r i 0) f.hi f.lo =
    (if f.allowed.ok (bitsOf v f.hi f.lo) = true then bitsOf v f.hi f.lo else bitsOf (s.word .module r i 0) f.hi f.lo)
  (∀ path, quiet → enables → Answers (.registerWrite .module path a (leBytes 8 v.toNat) false) s fun t => t = recorded
    ∧ (∀ k w : Nat, t.word .module .ratCtl k w = s.word .module .ratCtl k w ∧ t.word .module .ratRule k w = s.word .module .ratRule k w))
  ∧ (quiet → enables → has roleManage = true → (has roleTest && armed) = false → Answers (.regWrite .module id a v) s fun t => t = ok recorded
    ∧ (∀ k w : Nat, t.word .module .ratCtl k w = s.word .module .ratCtl k w ∧ t.word .module .ratRule k w = s.word .module .ratRule k w))
  ∧ (quiet → enables → has roleManage = true → (has roleTest && armed) = true → Answers (.regWrite .module id a v) s fun t => takes t
    ∧ (t.word .module r i 0).getLsbD 63 = true ∧ (t.unit .module).out.getLast? = some (.spdm (some id) (.vendor stOk [])))
  ∧ (∀ on, has roleTest = true → Answers (.testArm id on) s fun t => t.rdb .module Fld.secStatusTestArmed = on)
  ∧ (∀ on, has roleTest = false → Answers (.testArm id on) s fun t => t.rdb .module Fld.secStatusTestArmed = armed)

/-- A write of GLB.EID whose EID has a kind other than 01, a tier other than the role, another plane bit, or an index its tier
does not use, completes, leaves GLB.EID and records a register-access event; with the other group held it leaves the field
too. One with none of these faults, before the lock and with the group open, sets the field. LINK_TRAINING, begun or under
way, with a kind other than 01 in GLB.EID ends its step with VERSION_MISMATCH and no lane or lane register changes. Formalises
R51. -/
def Obligations.OwnEidNeedsItsKindTierAndPlane : Prop := ∀ (path : Path) (v : Word) (s : State),
  let quiet := s.endpoint.xpt.finished = [] ∧ s.module.xpt.finished = []
  let a := regOffset .module .glbEid 0 0
  let bytes := leBytes 8 v.toNat
  let kind := bitsOf v 19 18
  let tier := bitsOf v 17 16
  let plane := v.getLsbD 15
  let index := bitsOf v 14 0
  let wrong := kind ≠ 1 ∨ tier ≠ s.rd .module Fld.glbRoleRole ∨ plane ≠ s.rdb .module Fld.glbRolePlane
    ∨ 3 ≤ tier ∨ (if tier = 2 then 1024 else 2048) ≤ index
  let opens := rwlOpen .module path a s
  let runs := bringStep s = 9 ∧ bringBusy s = true ∧ s.m.bring.outcome = none
  let begins := bringBusy s = false ∧ rwlOpen .module path (regOffset .module .glbBringupCtl 0 0) s = true ∧ mayStartStep 9 s = true
  (quiet → wrong → opens = true → Answers (.registerWrite .module path a bytes false) s fun t => t = regAccess .module a v.toNat s
    ∧ t.word .module .glbEid 0 0 = s.word .module .glbEid 0 0)
  ∧ (quiet → wrong → opens = false → Answers (.registerWrite .module path a bytes false) s fun t =>
    t.word .module .glbEid 0 0 = s.word .module .glbEid 0 0)
  ∧ (quiet → ¬ wrong → opens = true → s.rdb .module Fld.glbEidLocked = false → Answers (.registerWrite .module path a bytes false) s fun t =>
    t.rd .module Fld.glbEidEid 0 = bitsOf v 19 0 ∧ t.rdb .module Fld.glbEidLocked = false)
  ∧ (runs ∨ begins → s.rd .module Fld.glbEidEid / 2 ^ 18 ≠ 1 → Answers (.linkTraining path) s fun t => t.m.bring.outcome = some (some stVersion)
    ∧ t.module.lanes = s.module.lanes ∧ t.module.ports = s.module.ports ∧ (∀ n : Nat, t.word .module .lnkStatus n 0 = s.word .module .lnkStatus n 0)
    ∧ t.rdb .module Fld.glbEidLocked = s.rdb .module Fld.glbEidLocked)

/-- POWER_ON_RESET and COLD_RESET clear the preset cache of every lane of the module, RST_N, the endpoint block's cold reset,
those of the endpoint block. WARM_RESET, AUTO_WARM_TIMER, FUNCTION_RESET, PUPPETEER_RESET and WATCHDOG_EXPIRE keep every
lane's. CACHE_FLUSH clears its lane's and no other. A remap of a lane's slice, by SPARE_NOW, by the error ratio or by the
third failed attempt, with a spare slice free, clears that lane's. Formalises R97. -/
def Obligations.PresetCachesAreClearedByColdResets : Prop := ∀ (sd : Side) (path : Path) (n : Nat) (s : State),
  let cache := fun (sd : Side) (k : Nat) (t : State) => (t.lane sd k).cache
  let kept := fun (t : State) => ∀ (k : Nat), cache .module k t = cache .module k s ∧ cache .endpoint k t = cache .endpoint k s
  let cleared := fun (t : State) => ∀ (k : Nat), cache .module k t = []
  let u := laneLeaves sd n s
  (Answers .powerOnReset s cleared)
  ∧ (∀ b, Answers (.coldReset b) s cleared)
  ∧ (Answers .rstN s fun t => ∀ (k : Nat), cache .endpoint k t = [])
  ∧ (Answers .warmReset s kept)
  ∧ (Answers .autoWarmTimer s kept)
  ∧ (Answers .functionReset s kept)
  ∧ (Answers .puppeteerReset s kept)
  ∧ (Answers .watchdogExpire s kept)
  ∧ (Answers (.cacheFlush sd path n) s fun t => cache sd n t = [] ∧ (∀ (k : Nat), k ≠ n → t.lane sd k = s.lane sd k))
  ∧ (∀ x, freeSlice sd n s = some x → Answers (.spareNow sd path n) s fun t => cache sd n t = [])
  ∧ (∀ x errors bits, laneSt sd n s = 8 → ratioHigh errors bits = true → freeSlice sd n s = some x →
    Answers (.errorRatioCheck sd n errors bits) s fun t => cache sd n t = [] ∧ t.rd sd Fld.lnkStatusSlice n = x)
  ∧ (∀ x, 2 ≤ laneSt sd n s → laneSt sd n s ≤ 7 → u.rd sd Fld.lnkStatusAttempts n = 2 → freeSlice sd n u = some x →
    Answers (.trainingTimeout sd n) s fun t => cache sd n t = [] ∧ t.rd sd Fld.lnkStatusSlice n = x)

/-- Before the final XOR the register holds all ones for no bytes, and each further byte takes it to the remainder of long
division by the 65-bit polynomial of the register and the byte, most significant bit first. The bytes a flit's CRC covers are
the first 244 and the last 4 of its 256 (header, slots, CRC, credit return). A flit that a port makes carries that CRC.
Formalises R117. -/
def Obligations.FlitCrcIsTheEcmaRemainder : Prop := ∀ (l : List Byte) (b : Byte) (f : Flit) (ps : PortState) (ty : BitVec 8) (q : BitVec 12) (slots : List Byte),
  let poly := 2 ^ 64 + 0x42F0E1EBA9EA3693
  let reduce := fun (x : Nat) => (List.range 8).foldl (fun x k => if x.testBit (71 - k) then x ^^^ (poly * 2 ^ (7 - k)) else x) x
  let wire := fun (f : Flit) => leBytes 4 (f.type.toNat + f.seq.toNat * 2 ^ 8 + f.ack.toNat * 2 ^ 20) ++ f.slots ++ leBytes 8 f.crc.toNat ++ leBytes 4 f.credit.toNat
  (~~~ crc64 [] = BitVec.allOnes 64)
  ∧ ((~~~ crc64 (l ++ [b])).toNat = reduce ((~~~ crc64 l).toNat * 2 ^ 8 ^^^ b.toNat * 2 ^ 64))
  ∧ (f.slots.length = 240 → (wire f).length = 256 ∧ flitCrcBytes f = (wire f).take 244 ++ (wire f).drop 252)
  ∧ ((makeFlit ps ty q slots).slots.length = 240 ∧ (makeFlit ps ty q slots).crc = crc64 (flitCrcBytes (makeFlit ps ty q slots)))

/-- NOC.STATUS lies at offset 0 and NOC.CTL at offset 8 of the NOC block; after reset both read 0. Writes never change NOC.STATUS,
and the bits above the two of NOC.CTL stay. Training at step 6 sets each plane's OK to whether it passed and is not disabled.
A write of NOC.CTL with the group open sets the two DIS bits, and each OK bit is then whether step 6 is reached and the plane
is neither disabled nor out by a fault; one that would leave no plane is discarded and recorded. Formalises R152. -/
def Obligations.NocPlanesAreReportedAndTakenOut : Prop := ∀ (path : Path) (v : Word) (s : State),
  let quiet := s.endpoint.xpt.finished = [] ∧ s.module.xpt.finished = []
  let base := regOffset .module .nocStatus 0 0
  let a := base + 8
  let bytes := leBytes 8 v.toNat
  let opens := rwlOpen .module path a s
  let out := fun (k : Nat) => v.getLsbD k || s.m.sw.nocFault.contains k
  let reached := decide (6 ≤ s.rd .module Fld.glbBringupStatusStep)
  let rest := fun (t : State) => (t.word .module .nocCtl 0 0) >>> 2 = (s.word .module .nocCtl 0 0) >>> 2
  let runs := bringStep s = 6 ∧ bringBusy s = true ∧ s.m.bring.outcome = none
  let begins := bringBusy s = false ∧ rwlOpen .module path (regOffset .module .glbBringupCtl 0 0) s = true ∧ mayStartStep 6 s = true
  let ok := fun (t : State) => [t.rdb .module Fld.nocStatusPlane0Ok, t.rdb .module Fld.nocStatusPlane1Ok]
  (regAt .module base = some (.nocStatus, 0, 0) ∧ regAt .module a = some (.nocCtl, 0, 0)
    ∧ readRegister .module base State.reset = 0 ∧ readRegister .module a State.reset = 0)
  ∧ (quiet → Answers (.registerWrite .module path base bytes false) s fun t => t.word .module .nocStatus 0 0 = s.word .module .nocStatus 0 0
    ∧ t.word .module .nocCtl 0 0 = s.word .module .nocCtl 0 0)
  ∧ (quiet → opens = true → (out 0 && out 1) = false → Answers (.registerWrite .module path a bytes false) s fun t =>
    t.rdb .module Fld.nocCtlPlane0Dis = v.getLsbD 0 ∧ t.rdb .module Fld.nocCtlPlane1Dis = v.getLsbD 1 ∧ rest t
    ∧ ok t = [reached && !out 0, reached && !out 1])
  ∧ (quiet → opens = true → (out 0 && out 1) = true → Answers (.registerWrite .module path a bytes false) s fun t =>
    t = regAccess .module a v.toNat s ∧ t.word .module .nocCtl 0 0 = s.word .module .nocCtl 0 0 ∧ ok t = ok s)
  ∧ (quiet → opens = false → Answers (.registerWrite .module path a bytes false) s fun t =>
    t.word .module .nocCtl 0 0 = s.word .module .nocCtl 0 0 ∧ ok t = ok s)
  ∧ (∀ ok0 ok1 image, (runs ∨ begins) → Answers (.nocTraining path ok0 ok1 image) s fun t =>
    ok t = [ok0 && !s.rdb .module Fld.nocCtlPlane0Dis, ok1 && !s.rdb .module Fld.nocCtlPlane1Dis])
end

