-- ==== Sys2Proof/Laws/Bits.lean ====
section
/-! SUPPORT. Laws of bit fields: a field read after a field written, in the same place and in another. -/

namespace Sys2Proof.Machine

theorem lowMask_getLsbD (n i : Nat) : (lowMask n).getLsbD i = (decide (i < 64) && decide (i < n)) := by
  simp [lowMask, BitVec.getLsbD_ofNat, Nat.testBit_two_pow_sub_one]

theorem bitsOf_testBit (w : Word) (hi lo i : Nat) :
    (bitsOf w hi lo).testBit i = (w.getLsbD (lo + i) && decide (i < 64) && decide (i < hi + 1 - lo)) := by
  simp [bitsOf, ← BitVec.getLsbD.eq_1, lowMask_getLsbD, Bool.and_assoc]

theorem withBits_getLsbD (w : Word) (hi lo v i : Nat) :
    (withBits w hi lo v).getLsbD i =
      if lo ≤ i ∧ i < hi + 1 ∧ i < 64 then v.testBit (i - lo) else w.getLsbD i := by
  simp only [withBits, BitVec.getLsbD_or, BitVec.getLsbD_and, BitVec.getLsbD_not, BitVec.getLsbD_shiftLeft, lowMask_getLsbD,
    BitVec.getLsbD_ofNat]
  by_cases h64 : i < 64
  · by_cases hlo : lo ≤ i
    · by_cases hhi : i < hi + 1
      · have : ¬ i < lo := by omega
        have h2 : i - lo < 64 := by omega
        have h3 : i - lo < hi + 1 - lo := by omega
        simp [*]
      · have : ¬ i < lo := by omega
        have h3 : ¬ i - lo < hi + 1 - lo := by omega
        simp [*]
    · have : i < lo := by omega
      simp [*]
  · have : w.getLsbD i = false := BitVec.getLsbD_of_ge _ _ (by omega)
    simp [h64, this]

/-- A field read after it was written gives what was written, as far as the field holds it. -/
theorem bitsOf_withBits_same (w : Word) (hi lo v : Nat) (h : lo ≤ hi) (h64 : hi < 64) :
    bitsOf (withBits w hi lo v) hi lo = v % 2 ^ (hi + 1 - lo) := by
  apply Nat.eq_of_testBit_eq
  intro i
  rw [bitsOf_testBit, withBits_getLsbD, Nat.testBit_mod_two_pow]
  by_cases hi' : i < hi + 1 - lo
  · have h1 : lo ≤ lo + i ∧ lo + i < hi + 1 ∧ lo + i < 64 := by omega
    have h2 : i < 64 := by omega
    simp [h1, h2, hi']
  · simp [hi']

/-- A field that lies apart from the one written reads as before. -/
theorem bitsOf_withBits_other (w : Word) (hi lo v hi' lo' : Nat) (h : hi' < lo ∨ hi < lo') :
    bitsOf (withBits w hi lo v) hi' lo' = bitsOf w hi' lo' := by
  apply Nat.eq_of_testBit_eq
  intro i
  rw [bitsOf_testBit, bitsOf_testBit, withBits_getLsbD]
  by_cases hi' : i < hi' + 1 - lo'
  · have h1 : ¬ (lo ≤ lo' + i ∧ lo' + i < hi + 1 ∧ lo' + i < 64) := by omega
    rw [if_neg h1]
  · simp [hi']

theorem bitsOf_lt (w : Word) (hi lo : Nat) : bitsOf w hi lo < 2 ^ (hi + 1 - lo) := by
  apply Nat.lt_pow_two_of_testBit
  intro i hi'
  rw [bitsOf_testBit]
  have : ¬ i < hi + 1 - lo := by omega
  simp [this]

/-- Writing a field inside a set of bits keeps the word inside it. -/
theorem withBits_mask (w m : Word) (hi lo v : Nat) (hw : w &&& ~~~m = 0)
    (hm : withBits m hi lo (2 ^ (hi + 1 - lo) - 1) = m) : withBits w hi lo v &&& ~~~m = 0 := by
  apply BitVec.eq_of_getLsbD_eq
  intro i hi'
  have hw' : (w &&& ~~~m).getLsbD i = false := by rw [hw]; simp
  have hm' := congrArg (fun x => x.getLsbD i) hm
  simp only [withBits_getLsbD, BitVec.getLsbD_and, BitVec.getLsbD_not] at hw' hm' ⊢
  split
  · next h =>
    rw [if_pos h, Nat.testBit_two_pow_sub_one] at hm'
    have : i - lo < hi + 1 - lo := by omega
    simp [← hm', this]
  · rw [hw']; simp

@[simp] theorem b2n_ne_zero (b : Bool) : (b2n b ≠ 0) = (b = true) := by cases b <;> simp [b2n]

theorem b2n_lt (b : Bool) : b2n b < 2 := by cases b <;> simp [b2n]

end Sys2Proof.Machine
end

