-- ==== Sys2Proof/Laws/SMap.lean ====
section
/-! SUPPORT. Laws of the sparse tables: a read after a write, and the order that every operation keeps. -/

namespace Sys2Proof.Machine

variable {α : Type}

theorem smapGet?_set_same (m : SMap α) (i : Nat) (x : α) : smapGet? (smapSet m i x) i = some x := by
  induction m with
  | nil => simp [smapSet, smapGet?]
  | cons a m ih =>
    obtain ⟨k, v⟩ := a
    simp only [smapSet]
    split
    · next h => simp [smapGet?, h]
    · next h =>
      split
      · simp [smapGet?]
      · simp [smapGet?, h, ih]

theorem smapGet?_set_other (m : SMap α) (i j : Nat) (x : α) (h : j ≠ i) : smapGet? (smapSet m i x) j = smapGet? m j := by
  induction m with
  | nil => simp [smapSet, smapGet?, h]
  | cons a m ih =>
    obtain ⟨k, v⟩ := a
    simp only [smapSet]
    split
    · next e => subst e; simp [smapGet?, h]
    · split
      · simp [smapGet?, h]
      · simp [smapGet?, ih]

theorem smapGet?_erase_same (m : SMap α) (i : Nat) : smapGet? (smapErase m i) i = none := by
  induction m with
  | nil => rfl
  | cons a m ih =>
    obtain ⟨k, v⟩ := a
    simp only [smapErase, List.filter_cons] at ih ⊢
    by_cases e : k = i
    · simpa [e] using ih
    · simp only [e, ne_eq, not_false_eq_true, decide_true, if_true, smapGet?, if_neg (Ne.symm e)]
      simpa using ih

theorem smapGet?_erase_other (m : SMap α) (i j : Nat) (h : j ≠ i) : smapGet? (smapErase m i) j = smapGet? m j := by
  induction m with
  | nil => rfl
  | cons a m ih =>
    obtain ⟨k, v⟩ := a
    simp only [smapErase, List.filter_cons] at ih ⊢
    by_cases e : k = i
    · subst e; simpa [smapGet?, h] using ih
    · simp only [e, ne_eq, not_false_eq_true, decide_true, if_true, smapGet?]
      split
      · rfl
      · simpa using ih

/-- A read of the key just written gives the value written. -/
@[simp] theorem smapGet_put_same [DecidableEq α] (m : SMap α) (d : α) (i : Nat) (x : α) : smapGet (smapPut m d i x) d i = x := by
  unfold smapPut smapGet
  split
  · next h => simp [smapGet?_erase_same, h]
  · simp [smapGet?_set_same]

/-- A write leaves every other key alone. -/
@[simp] theorem smapGet_put_other [DecidableEq α] (m : SMap α) (d e : α) (i j : Nat) (x : α) (h : j ≠ i) :
    smapGet (smapPut m d i x) e j = smapGet m e j := by
  unfold smapPut smapGet
  split
  · rw [smapGet?_erase_other _ _ _ h]
  · rw [smapGet?_set_other _ _ _ _ h]

@[simp] theorem smapGet_set_same (m : SMap α) (d : α) (i : Nat) (x : α) : smapGet (smapSet m i x) d i = x := by
  simp [smapGet, smapGet?_set_same]

@[simp] theorem smapGet_set_other (m : SMap α) (d : α) (i j : Nat) (x : α) (h : j ≠ i) :
    smapGet (smapSet m i x) d j = smapGet m d j := by
  simp [smapGet, smapGet?_set_other _ _ _ _ h]

/-! ## Order -/

theorem smapSortedFrom_mono (m : SMap α) (a b : Nat) (h : a ≤ b) (hm : smapSortedFrom b m = true) : smapSortedFrom a m = true := by
  cases m with
  | nil => rfl
  | cons x m =>
    simp only [smapSortedFrom, Bool.and_eq_true, decide_eq_true_eq] at hm ⊢
    exact ⟨h.trans hm.1, hm.2⟩

theorem smapSortedFrom_set (m : SMap α) (lo i : Nat) (x : α) (hi : lo ≤ i) (hm : smapSortedFrom lo m = true) :
    smapSortedFrom lo (smapSet m i x) = true := by
  induction m generalizing lo with
  | nil => simp [smapSet, smapSortedFrom, hi]
  | cons a m ih =>
    obtain ⟨k, v⟩ := a
    simp only [smapSortedFrom, Bool.and_eq_true, decide_eq_true_eq] at hm
    simp only [smapSet]
    split
    · next e => simpa [smapSortedFrom] using hm
    · next ne =>
      split
      · next lt => simp [smapSortedFrom, hi, hm.2]; omega
      · next nlt =>
        simp only [smapSortedFrom, Bool.and_eq_true, decide_eq_true_eq]
        exact ⟨hm.1, ih (k + 1) (by omega) hm.2⟩

theorem smapSortedFrom_filter (m : SMap α) (p : Nat × α → Bool) (lo : Nat) (hm : smapSortedFrom lo m = true) :
    smapSortedFrom lo (m.filter p) = true := by
  induction m generalizing lo with
  | nil => rfl
  | cons a m ih =>
    obtain ⟨k, v⟩ := a
    simp only [smapSortedFrom, Bool.and_eq_true, decide_eq_true_eq] at hm
    simp only [List.filter_cons]
    split
    · simp only [smapSortedFrom, Bool.and_eq_true, decide_eq_true_eq]
      exact ⟨hm.1, ih _ hm.2⟩
    · exact smapSortedFrom_mono _ _ _ (by omega) (ih _ hm.2)

/-- A write keeps the table's order. -/
theorem smapSorted_put [DecidableEq α] (m : SMap α) (d : α) (i : Nat) (x : α) (hm : smapSorted m = true) :
    smapSorted (smapPut m d i x) = true := by
  unfold smapPut
  split
  · exact smapSortedFrom_filter _ _ _ hm
  · exact smapSortedFrom_set _ _ _ _ (Nat.zero_le _) hm

theorem smapSet_values (m : SMap α) (p : α → Bool) (i : Nat) (x : α) (hx : p x = true) (hm : m.all (fun e => p e.2) = true) :
    (smapSet m i x).all (fun e => p e.2) = true := by
  induction m with
  | nil => simp [smapSet, hx]
  | cons a m ih =>
    obtain ⟨k, v⟩ := a
    simp only [List.all_cons, Bool.and_eq_true] at hm
    simp only [smapSet]
    split
    · simp only [List.all_cons, Bool.and_eq_true]; exact ⟨hx, hm.2⟩
    · split
      · simp only [List.all_cons, Bool.and_eq_true]; exact ⟨hx, hm⟩
      · simp only [List.all_cons, Bool.and_eq_true]; exact ⟨hm.1, ih hm.2⟩

end Sys2Proof.Machine
end

