-- ==== Sys2Proof/Laws/State.lean ====
section
/-! SUPPORT. Laws of the state's updates: one lemma per field per update, and a register read after a register write. -/

namespace Sys2Proof.Machine

variable (s : State) (sd sd' : Side)

/-! ## Units -/

@[simp] theorem unit_setUnit_same (u : UnitState) : (s.setUnit sd u).unit sd = u := by cases sd <;> rfl
theorem unit_setUnit_other (u : UnitState) (h : sd' ≠ sd) : (s.setUnit sd u).unit sd' = s.unit sd' := by
  cases sd <;> cases sd' <;> first | rfl | exact absurd rfl h
@[simp] theorem setUnit_m (u : UnitState) : (s.setUnit sd u).m = s.m := by cases sd <;> rfl
@[simp] theorem setUnit_e (u : UnitState) : (s.setUnit sd u).e = s.e := by cases sd <;> rfl
@[simp] theorem setUnit_now (u : UnitState) : (s.setUnit sd u).now = s.now := by cases sd <;> rfl
@[simp] theorem setUnit_free (u : UnitState) : (s.setUnit sd u).free = s.free := by cases sd <;> rfl
@[simp] theorem setUnit_pending (u : UnitState) : (s.setUnit sd u).pending = s.pending := by cases sd <;> rfl

@[simp] theorem unit_onUnit_same (f : UnitState → UnitState) : (s.onUnit sd f).unit sd = f (s.unit sd) := by cases sd <;> rfl
theorem unit_onUnit_other (f : UnitState → UnitState) (h : sd' ≠ sd) : (s.onUnit sd f).unit sd' = s.unit sd' :=
  unit_setUnit_other s sd sd' _ h
theorem unit_onUnit (f : UnitState → UnitState) :
    (s.onUnit sd f).unit sd' = if sd' = sd then f (s.unit sd) else s.unit sd' := by
  split
  · next h => subst h; simp
  · next h => exact unit_onUnit_other s sd sd' f h
@[simp] theorem onUnit_m (f : UnitState → UnitState) : (s.onUnit sd f).m = s.m := by cases sd <;> rfl
@[simp] theorem onUnit_e (f : UnitState → UnitState) : (s.onUnit sd f).e = s.e := by cases sd <;> rfl
@[simp] theorem onUnit_now (f : UnitState → UnitState) : (s.onUnit sd f).now = s.now := by cases sd <;> rfl
@[simp] theorem onUnit_free (f : UnitState → UnitState) : (s.onUnit sd f).free = s.free := by cases sd <;> rfl
@[simp] theorem onUnit_pending (f : UnitState → UnitState) : (s.onUnit sd f).pending = s.pending := by cases sd <;> rfl

@[simp] theorem onM_m (f : ModuleState → ModuleState) : (s.onM f).m = f s.m := rfl
@[simp] theorem onM_unit (f : ModuleState → ModuleState) : (s.onM f).unit sd = s.unit sd := by cases sd <;> rfl
@[simp] theorem onM_e (f : ModuleState → ModuleState) : (s.onM f).e = s.e := rfl
@[simp] theorem onM_now (f : ModuleState → ModuleState) : (s.onM f).now = s.now := rfl
@[simp] theorem onM_free (f : ModuleState → ModuleState) : (s.onM f).free = s.free := rfl
@[simp] theorem onM_pending (f : ModuleState → ModuleState) : (s.onM f).pending = s.pending := rfl
@[simp] theorem onE_e (f : EndpointState → EndpointState) : (s.onE f).e = f s.e := rfl
@[simp] theorem onE_unit (f : EndpointState → EndpointState) : (s.onE f).unit sd = s.unit sd := by cases sd <;> rfl
@[simp] theorem onE_m (f : EndpointState → EndpointState) : (s.onE f).m = s.m := rfl
@[simp] theorem onE_now (f : EndpointState → EndpointState) : (s.onE f).now = s.now := rfl
@[simp] theorem onE_free (f : EndpointState → EndpointState) : (s.onE f).free = s.free := rfl
@[simp] theorem onE_pending (f : EndpointState → EndpointState) : (s.onE f).pending = s.pending := rfl

/-! ## Registers -/

theorem ctorIdx_lt (r : Reg) : r.ctorIdx < 1024 := by cases r <;> decide

theorem ctorIdx_inj (r q : Reg) (h : r.ctorIdx = q.ctorIdx) : r = q := by
  rw [← Reg.ofNat_ctorIdx r, ← Reg.ofNat_ctorIdx q, h]

theorem regKey_reg (r q : Reg) (i w j v : Nat) (h : regKey r i w = regKey q j v) : r = q := by
  have hr := ctorIdx_lt r
  have hq := ctorIdx_lt q
  apply ctorIdx_inj
  simp only [regKey] at h
  omega

theorem regKey_entry (r : Reg) (i w j v : Nat) (hw : w < 16) (hv : v < 16) (h : regKey r i w = regKey r j v) : i = j ∧ w = v := by
  simp only [regKey] at h
  omega

/-- A register word read after it was written. -/
@[simp] theorem word_setWord_same (r : Reg) (i w : Nat) (v : Word) : (s.setWord sd r i w v).word sd r i w = v := by
  simp [State.setWord, State.word, regWord, regSet]

/-- Writing a word of one register leaves every other register alone. -/
theorem word_setWord_reg (r q : Reg) (i w j v : Nat) (x : Word) (h : q ≠ r) :
    (s.setWord sd r i w x).word sd' q j v = s.word sd' q j v := by
  simp only [State.setWord, State.word, unit_onUnit]
  split
  · next e =>
    subst e
    simp only [regWord, regSet]
    rw [smapGet_put_other]
    exact fun e => h (regKey_reg _ _ _ _ _ _ e)
  · rfl

/-- Writing a register word leaves the other entries and words of the register alone. -/
theorem word_setWord_entry (r : Reg) (i w j v : Nat) (x : Word) (hw : w < 16) (hv : v < 16) (h : j ≠ i ∨ v ≠ w) :
    (s.setWord sd r i w x).word sd' r j v = s.word sd' r j v := by
  simp only [State.setWord, State.word, unit_onUnit]
  split
  · next e =>
    subst e
    simp only [regWord, regSet]
    rw [smapGet_put_other]
    intro e
    have := regKey_entry _ _ _ _ _ hv hw e
    omega
  · rfl

/-- Writing a register word of one unit leaves the other unit's registers alone. -/
theorem word_setWord_side (r q : Reg) (i w j v : Nat) (x : Word) (h : sd' ≠ sd) :
    (s.setWord sd r i w x).word sd' q j v = s.word sd' q j v := by
  simp only [State.setWord, State.word, unit_onUnit, if_neg h]

@[simp] theorem setWord_m (r : Reg) (i w : Nat) (v : Word) : (s.setWord sd r i w v).m = s.m := onUnit_m _ _ _
@[simp] theorem setWord_e (r : Reg) (i w : Nat) (v : Word) : (s.setWord sd r i w v).e = s.e := onUnit_e _ _ _
@[simp] theorem setWord_now (r : Reg) (i w : Nat) (v : Word) : (s.setWord sd r i w v).now = s.now := onUnit_now _ _ _
@[simp] theorem setWord_free (r : Reg) (i w : Nat) (v : Word) : (s.setWord sd r i w v).free = s.free := onUnit_free _ _ _
@[simp] theorem setWord_pending (r : Reg) (i w : Nat) (v : Word) : (s.setWord sd r i w v).pending = s.pending :=
  onUnit_pending _ _ _

/-- A field read after it was written gives what was written, as far as the field holds it. -/
theorem rd_wr_same (f : Field) (i v : Nat) (h : f.lo ≤ f.hi) (h64 : f.hi < 64) :
    (s.wr sd f i v).rd sd f i = v % 2 ^ (f.hi + 1 - f.lo) := by
  simp only [State.rd, State.wr, word_setWord_same]
  exact bitsOf_withBits_same _ _ _ _ h h64

/-- Writing a field leaves a field of another register alone. -/
theorem rd_wr_reg (f g : Field) (i j v : Nat) (h : g.reg ≠ f.reg) : (s.wr sd f i v).rd sd' g j = s.rd sd' g j := by
  simp only [State.rd, State.wr]
  rw [word_setWord_reg _ _ _ _ _ _ _ _ _ _ h]

/-- Writing a field leaves another entry of its register, or another word, alone. -/
theorem rd_wr_entry (f g : Field) (i j v : Nat) (hr : g.reg = f.reg) (hf : f.word < 16) (hg : g.word < 16)
    (h : j ≠ i ∨ g.word ≠ f.word) : (s.wr sd f i v).rd sd' g j = s.rd sd' g j := by
  simp only [State.rd, State.wr, hr]
  rw [word_setWord_entry _ _ _ _ _ _ _ _ _ hf hg h]

/-- Writing a field leaves the fields of the same word that lie apart from it alone. -/
theorem rd_wr_field (f g : Field) (i v : Nat) (hr : g.reg = f.reg) (hw : g.word = f.word)
    (h : g.hi < f.lo ∨ f.hi < g.lo) : (s.wr sd f i v).rd sd g i = s.rd sd g i := by
  simp only [State.rd, State.wr, hr, hw, word_setWord_same]
  exact bitsOf_withBits_other _ _ _ _ _ _ h

/-- Writing a field of one unit leaves the other unit's fields alone. -/
theorem rd_wr_side (f g : Field) (i j v : Nat) (h : sd' ≠ sd) : (s.wr sd f i v).rd sd' g j = s.rd sd' g j := by
  simp only [State.rd, State.wr]
  rw [word_setWord_side _ _ _ _ _ _ _ _ _ _ h]

theorem rd_lt (f : Field) (i : Nat) : s.rd sd f i < 2 ^ (f.hi + 1 - f.lo) := bitsOf_lt _ _ _

/-! ## Lanes and ports -/

@[simp] theorem lane_onLane_same (n : Nat) (f : LaneState → LaneState) : (s.onLane sd n f).lane sd n = f (s.lane sd n) := by
  simp [State.onLane, State.lane]

theorem lane_onLane_other (n k : Nat) (f : LaneState → LaneState) (h : k ≠ n) :
    (s.onLane sd n f).lane sd' k = s.lane sd' k := by
  simp only [State.onLane, State.lane, unit_onUnit]
  split
  · next e => subst e; simp [h]
  · rfl

@[simp] theorem port_onPort_same (n : Nat) (f : PortState → PortState) : (s.onPort sd n f).port sd n = f (s.port sd n) := by
  simp [State.onPort, State.port]

theorem port_onPort_other (n k : Nat) (f : PortState → PortState) (h : k ≠ n) :
    (s.onPort sd n f).port sd' k = s.port sd' k := by
  simp only [State.onPort, State.port, unit_onUnit]
  split
  · next e => subst e; simp [h]
  · rfl

@[simp] theorem word_onLane (n : Nat) (f : LaneState → LaneState) (r : Reg) (i w : Nat) :
    (s.onLane sd n f).word sd' r i w = s.word sd' r i w := by
  simp only [State.onLane, State.word, unit_onUnit]; split <;> simp [*]
@[simp] theorem word_onPort (n : Nat) (f : PortState → PortState) (r : Reg) (i w : Nat) :
    (s.onPort sd n f).word sd' r i w = s.word sd' r i w := by
  simp only [State.onPort, State.word, unit_onUnit]; split <;> simp [*]
@[simp] theorem word_emit (o : Out) (r : Reg) (i w : Nat) : (s.emit sd o).word sd' r i w = s.word sd' r i w := by
  simp only [State.emit, State.word, unit_onUnit]; split <;> simp [*]
@[simp] theorem word_onM (f : ModuleState → ModuleState) (r : Reg) (i w : Nat) : (s.onM f).word sd r i w = s.word sd r i w := by
  simp [State.word]
@[simp] theorem word_onE (f : EndpointState → EndpointState) (r : Reg) (i w : Nat) : (s.onE f).word sd r i w = s.word sd r i w := by
  simp [State.word]

@[simp] theorem rd_onLane (n : Nat) (f : LaneState → LaneState) (g : Field) (i : Nat) :
    (s.onLane sd n f).rd sd' g i = s.rd sd' g i := by simp [State.rd]
@[simp] theorem rd_onPort (n : Nat) (f : PortState → PortState) (g : Field) (i : Nat) :
    (s.onPort sd n f).rd sd' g i = s.rd sd' g i := by simp [State.rd]
@[simp] theorem rd_emit (o : Out) (g : Field) (i : Nat) : (s.emit sd o).rd sd' g i = s.rd sd' g i := by simp [State.rd]
@[simp] theorem rd_onM (f : ModuleState → ModuleState) (g : Field) (i : Nat) : (s.onM f).rd sd g i = s.rd sd g i := by
  simp [State.rd]
@[simp] theorem rd_onE (f : EndpointState → EndpointState) (g : Field) (i : Nat) : (s.onE f).rd sd g i = s.rd sd g i := by
  simp [State.rd]

@[simp] theorem lane_setWord (n : Nat) (r : Reg) (i w : Nat) (v : Word) : (s.setWord sd r i w v).lane sd' n = s.lane sd' n := by
  simp only [State.setWord, State.lane, unit_onUnit]; split <;> simp [*]
@[simp] theorem port_setWord (n : Nat) (r : Reg) (i w : Nat) (v : Word) : (s.setWord sd r i w v).port sd' n = s.port sd' n := by
  simp only [State.setWord, State.port, unit_onUnit]; split <;> simp [*]
@[simp] theorem lane_wr (n : Nat) (f : Field) (i v : Nat) : (s.wr sd f i v).lane sd' n = s.lane sd' n := lane_setWord _ _ _ _ _ _ _ _
@[simp] theorem port_wr (n : Nat) (f : Field) (i v : Nat) : (s.wr sd f i v).port sd' n = s.port sd' n := port_setWord _ _ _ _ _ _ _ _
@[simp] theorem lane_onPort (n p : Nat) (f : PortState → PortState) : (s.onPort sd p f).lane sd' n = s.lane sd' n := by
  simp only [State.onPort, State.lane, unit_onUnit]; split <;> simp [*]
@[simp] theorem port_onLane (n p : Nat) (f : LaneState → LaneState) : (s.onLane sd n f).port sd' p = s.port sd' p := by
  simp only [State.onLane, State.port, unit_onUnit]; split <;> simp [*]

end Sys2Proof.Machine
end

