-- ==== Sys2Proof/Laws/Frame.lean ====
section
/-! SUPPORT. What a change of the state may touch: `Ev F s t` says that `t` differs from `s` only in the parts whose bits are set
in `F`, that the queue and the time stay and that the invariant is kept. One law for each named operation of Machine/Ops.lean. -/

namespace Sys2Proof.Machine

/-! ## Sets of parts as bits -/

/-- The bit of a part. -/
def Part.idx : Part → Nat
  | .reg sd r => 2 * r.ctorIdx + sd.ctorIdx
  | .unit sd u => 500 + 2 * u.ctorIdx + sd.ctorIdx
  | .pool p => 540 + p.ctorIdx
  | .eng g => 550 + g.ctorIdx
  | .mod m => 560 + m.ctorIdx
  | .ep e => 580 + e.ctorIdx
  | .free => 620

/-- The set that holds one part. -/
def Part.bit (p : Part) : Nat := 2 ^ p.idx

/-- The set of the parts of a list. -/
def bitsOfParts (l : List Part) : Nat := l.foldl (fun a p => a ||| p.bit) 0

/-- One set lies within another. -/
def Sub (a b : Nat) : Prop := Nat.beq (Nat.land a b) a = true

theorem Sub.out {a b i : Nat} (h : Sub a b) (hb : b.testBit i = false) : a.testBit i = false := by
  have h' : a &&& b = a := Nat.eq_of_beq_eq_true h
  have := congrArg (fun x => x.testBit i) h'
  simp only [Nat.testBit_land, hb, Bool.and_false] at this
  exact this.symm

theorem Sub.refl (a : Nat) : Sub a a := by
  have : a &&& a = a := Nat.and_self a
  unfold Sub
  rw [show Nat.land a a = a from this]
  exact Nat.beq_refl a

theorem Sub.mk' {a b : Nat} (h : ∀ i, a.testBit i = true → b.testBit i = true) : Sub a b := by
  have : a &&& b = a := by
    apply Nat.eq_of_testBit_eq
    intro i
    rw [Nat.testBit_land]
    cases ha : a.testBit i
    · rfl
    · rw [h i ha]; rfl
  unfold Sub
  rw [show Nat.land a b = a from this]
  exact Nat.beq_refl a

theorem Sub.trans {a b c : Nat} (h : Sub a b) (k : Sub b c) : Sub a c := by
  refine Sub.mk' fun i hi => ?_
  cases hc : c.testBit i
  · rw [h.out (k.out hc)] at hi; exact absurd hi (by decide)
  · rfl

theorem Sub.trans' {a b c : Nat} (k : Sub b c) (h : Sub a b) : Sub a c := h.trans k

theorem Sub.orLeft (a b : Nat) : Sub a (a ||| b) := Sub.mk' fun i hi => by rw [Nat.testBit_lor, hi]; rfl

theorem Sub.orRight (a b : Nat) : Sub b (a ||| b) := Sub.mk' fun i hi => by rw [Nat.testBit_lor, hi, Bool.or_true]

theorem Part.bit_self (p : Part) : p.bit.testBit p.idx = true := by simp [Part.bit]

/-- `t` differs from `s` in parts of `F` only, and keeps queue, time and invariant. -/
structure Ev (F : Nat) (s t : State) : Prop where
  same : ∀ p : Part, F.testBit p.idx = false → p.Same s t
  inv : Inv s → Inv t
  now : t.now = s.now
  pending : t.pending = s.pending

theorem Part.Same.refl (p : Part) (s : State) : p.Same s s := by
  cases p with
  | reg => exact fun _ _ => rfl
  | unit sd u => cases u <;> rfl
  | pool p => cases p <;> rfl
  | eng p => cases p <;> rfl
  | mod p => cases p <;> rfl
  | ep p => cases p <;> rfl
  | free => rfl

theorem Part.Same.trans {p : Part} {s t u : State} (h : p.Same s t) (k : p.Same t u) : p.Same s u := by
  cases p with
  | reg => exact fun i w => (k i w).trans (h i w)
  | unit sd x => cases x <;> exact Eq.trans k h
  | pool p => cases p <;> exact Eq.trans k h
  | eng p => cases p <;> exact Eq.trans k h
  | mod p => cases p <;> exact Eq.trans k h
  | ep p => cases p <;> exact Eq.trans k h
  | free => exact Eq.trans k h

theorem Ev.refl {F : Nat} (s : State) : Ev F s s := ⟨fun p _ => .refl p s, id, rfl, rfl⟩

theorem Ev.seq {A F : Nat} {s t u : State} (h : Ev A t u) (hs : Sub A F) (k : Ev F s t) : Ev F s u :=
  ⟨fun p hp => (k.same p hp).trans (h.same p (hs.out hp)), fun i => h.inv (k.inv i), h.now.trans k.now,
    h.pending.trans k.pending⟩

theorem Ev.mono {A F : Nat} {s t : State} (hs : Sub A F) (h : Ev A s t) : Ev F s t := h.seq hs (.refl s)

theorem Ev.ite {F : Nat} {s a b : State} {c : Prop} [Decidable c] (ha : Ev F s a) (hb : Ev F s b) : Ev F s (if c then a else b) := by
  split <;> assumption

theorem Ev.iteSnd {α : Type} {F : Nat} {s : State} {a b : α × State} {c : Prop} [Decidable c] (ha : Ev F s a.2) (hb : Ev F s b.2) :
    Ev F s (if c then a else b).2 := by
  split <;> assumption

theorem Ev.ofPair {α : Type} {F : Nat} {s b : State} {x : α × State} {a : α} (h : x = (a, b)) (k : Ev F s x.2) : Ev F s b := by
  subst h; exact k

theorem Ev.foldl {α : Type} {F : Nat} {s0 s : State} {f : State → α → State} {l : List α} (hf : ∀ t a, Ev F t (f t a))
    (h : Ev F s0 s) : Ev F s0 (l.foldl f s) := by
  induction l generalizing s with
  | nil => exact h
  | cons a l ih => exact ih ((hf s a).seq (.refl F) h)

theorem Ev.foldlMem {α : Type} {F : Nat} {s0 s : State} {f : State → α → State} {l : List α} (hf : ∀ t, ∀ a ∈ l, Ev F t (f t a))
    (h : Ev F s0 s) : Ev F s0 (l.foldl f s) := by
  induction l generalizing s with
  | nil => exact h
  | cons a l ih =>
    exact ih (fun t b hb => hf t b (List.mem_cons_of_mem _ hb)) ((hf s a (List.mem_cons_self ..)).seq (.refl F) h)

theorem Ev.foldlSnd {α β : Type} {F : Nat} {s0 : State} {s : β × State} {f : β × State → α → β × State} {l : List α}
    (hf : ∀ t a, Ev F t.2 (f t a).2) (h : Ev F s0 s.2) : Ev F s0 (l.foldl f s).2 := by
  induction l generalizing s with
  | nil => exact h
  | cons a l ih => exact ih ((hf s a).seq (.refl F) h)

/-- A command's meaning answers a next state that has evolved so. -/
def OutEv (F : Nat) (s : State) (o : Host.Outcome State Fault Refusal) : Prop := ∃ t, o = .next t ∧ Ev F s t

theorem OutEv.next {F : Nat} {s t : State} (h : Ev F s t) : OutEv F s (.next t) := ⟨t, rfl, h⟩

/-! ## The invariant's parts -/

theorem Inv.congr {s t : State} (h : Inv s) (hp : t.m.pool = s.m.pool) (hg : t.m.eng.scratch = s.m.eng.scratch)
    (hu : ∀ sd, (t.unit sd).regs = (s.unit sd).regs) (ht : ∀ sd, (t.unit sd).time = (s.unit sd).time) : Inv t := by
  refine ⟨hp ▸ h.ddr, hp ▸ h.fast, hp ▸ h.mwin, hg ▸ h.scratch, fun sd => hu sd ▸ h.regs sd, fun sd => ht sd ▸ h.time sd, ?_⟩
  intro sd r i w hw
  have := h.reserved sd r i w hw
  simpa only [State.word, hu sd] using this

theorem memWrite_wf (m : Memory) (a : Nat) (l : List Byte) (h : Memory.wf m = true) : Memory.wf (memWrite m a l) = true := by
  induction l generalizing m a with
  | nil => exact h
  | cons b l ih =>
    apply ih
    simp only [Memory.wf, Bool.and_eq_true] at h ⊢
    refine ⟨smapSorted_put _ _ _ _ h.1, ?_⟩
    simp only [memPut, smapPut]
    split
    · exact List.all_eq_true.2 fun x hx => (List.all_eq_true.1 h.2) x (List.mem_of_mem_filter hx)
    · next hb => exact smapSet_values m (fun c => decide (c ≠ 0)) a b (by simpa using hb) h.2

theorem filter_wf (m : Memory) (p : Host.Cell → Bool) (h : Memory.wf m = true) : Memory.wf (m.filter p) = true := by
  simp only [Memory.wf, Bool.and_eq_true] at h ⊢
  refine ⟨smapSortedFrom_filter _ _ _ h.1, ?_⟩
  exact List.all_eq_true.2 fun x hx => (List.all_eq_true.1 h.2) x (List.mem_of_mem_filter hx)

/-! ## One unit -/

/-- What a change of one unit may touch. -/
structure UnitOk (F : Nat) (sd : Side) (a b : UnitState) : Prop where
  regs : b.regs = a.regs
  lanes : F.testBit (Part.unit sd .lanes).idx = true ∨ b.lanes = a.lanes
  ports : F.testBit (Part.unit sd .ports).idx = true ∨ b.ports = a.ports
  bundle : F.testBit (Part.unit sd .bundle).idx = true ∨ b.bundle = a.bundle
  badSlices : F.testBit (Part.unit sd .badSlices).idx = true ∨ b.badSlices = a.badSlices
  evtTimes : F.testBit (Part.unit sd .evtTimes).idx = true ∨ b.evtTimes = a.evtTimes
  dead : F.testBit (Part.unit sd .dead).idx = true ∨ b.dead = a.dead
  inbox : F.testBit (Part.unit sd .inbox).idx = true ∨ b.inbox = a.inbox
  time : (F.testBit (Part.unit sd .time).idx = true ∧ (a.time < 2 ^ 80 → b.time < 2 ^ 80)) ∨ b.time = a.time
  sync : F.testBit (Part.unit sd .sync).idx = true ∨ b.sync = a.sync
  mgmt : F.testBit (Part.unit sd .mgmt).idx = true ∨ b.mgmt = a.mgmt
  xpt : F.testBit (Part.unit sd .xpt).idx = true ∨ b.xpt = a.xpt
  keys : F.testBit (Part.unit sd .keys).idx = true ∨ b.keys = a.keys
  out : F.testBit (Part.unit sd .out).idx = true ∨ b.out = a.out

theorem orOut {F i : Nat} {p : Prop} (h : F.testBit i = true ∨ p) (hi : F.testBit i = false) : p := by
  rcases h with h | h
  · rw [hi] at h; exact absurd h (by decide)
  · exact h

theorem onUnit_ev {F : Nat} (sd : Side) (f : UnitState → UnitState) (s : State) (h : UnitOk F sd (s.unit sd) (f (s.unit sd))) :
    Ev F s (s.onUnit sd f) := by
  refine ⟨?_, ?_, by simp, by simp⟩
  · intro p hp
    cases p with
    | reg q r =>
      intro i w
      simp only [State.word, unit_onUnit]
      split
      · next e => subst e; rw [h.regs]
      · rfl
    | unit q u =>
      simp only [Part.Same, unit_onUnit]
      split
      · next e =>
        subst e
        cases u with
        | lanes => exact orOut h.lanes hp
        | ports => exact orOut h.ports hp
        | bundle => exact orOut h.bundle hp
        | badSlices => exact orOut h.badSlices hp
        | evtTimes => exact orOut h.evtTimes hp
        | dead => exact orOut h.dead hp
        | inbox => exact orOut h.inbox hp
        | time => exact orOut (h.time.imp_left (·.1)) hp
        | sync => exact orOut h.sync hp
        | mgmt => exact orOut h.mgmt hp
        | xpt => exact orOut h.xpt hp
        | keys => exact orOut h.keys hp
        | out => exact orOut h.out hp
      · cases u <;> rfl
    | pool x => simp only [Part.Same, onUnit_m]; exact Part.Same.refl (.pool x) s
    | eng x => simp only [Part.Same, onUnit_m]; exact Part.Same.refl (.eng x) s
    | mod x => simp only [Part.Same, onUnit_m]; exact Part.Same.refl (.mod x) s
    | ep x => simp only [Part.Same, onUnit_e]; exact Part.Same.refl (.ep x) s
    | free => simp [Part.Same]
  · intro i
    refine ⟨by simpa using i.ddr, by simpa using i.fast, by simpa using i.mwin, by simpa using i.scratch, ?_, ?_, ?_⟩
    · intro q
      rw [unit_onUnit]
      split
      · rw [h.regs]; exact i.regs sd
      · exact i.regs q
    · intro q
      rw [unit_onUnit]
      split
      · rcases h.time with ht | ht
        · exact ht.2 (i.time sd)
        · rw [ht]; exact i.time sd
      · exact i.time q
    · intro q r k w hw
      simp only [State.word, unit_onUnit]
      split
      · next e => subst e; rw [h.regs]; exact i.reserved q r k w hw
      · exact i.reserved q r k w hw

theorem onLane_ev (sd : Side) (n : Nat) (f : LaneState → LaneState) (s : State) :
    Ev (Part.unit sd .lanes).bit s (s.onLane sd n f) :=
  onUnit_ev _ _ _ (by constructor <;> first | rfl | exact .inr rfl | exact .inl (Part.bit_self _))

theorem onPort_ev (sd : Side) (n : Nat) (f : PortState → PortState) (s : State) :
    Ev (Part.unit sd .ports).bit s (s.onPort sd n f) :=
  onUnit_ev _ _ _ (by constructor <;> first | rfl | exact .inr rfl | exact .inl (Part.bit_self _))

theorem emit_ev (sd : Side) (o : Out) (s : State) : Ev (Part.unit sd .out).bit s (s.emit sd o) :=
  onUnit_ev _ _ _ (by constructor <;> first | rfl | exact .inr rfl | exact .inl (Part.bit_self _))

/-! ## Registers -/

/-- A word written to a register holds nothing in reserved bits. -/
theorem setWord_ev (sd : Side) (r : Reg) (i w : Nat) (v : Word) (s : State) (hw : w < 16)
    (hv : reservedZero s → v &&& ~~~(definedBits r w) = 0) : Ev (Part.reg sd r).bit s (s.setWord sd r i w v) := by
  refine ⟨?_, ?_, by simp, by simp⟩
  · intro p hp
    cases p with
    | reg q x =>
      intro j u
      by_cases hq : q = sd
      · subst hq
        by_cases hx : x = r
        · subst hx; rw [Part.bit_self] at hp; exact absurd hp (by decide)
        · exact word_setWord_reg _ _ _ _ _ _ _ _ _ _ hx
      · exact word_setWord_side _ _ _ _ _ _ _ _ _ _ hq
    | unit q u =>
      simp only [Part.Same, State.setWord, unit_onUnit]
      split
      · next e => subst e; cases u <;> rfl
      · cases u <;> rfl
    | pool x => simp only [Part.Same, setWord_m]; exact Part.Same.refl (.pool x) s
    | eng x => simp only [Part.Same, setWord_m]; exact Part.Same.refl (.eng x) s
    | mod x => simp only [Part.Same, setWord_m]; exact Part.Same.refl (.mod x) s
    | ep x => simp only [Part.Same, setWord_e]; exact Part.Same.refl (.ep x) s
    | free => simp [Part.Same]
  · intro h
    refine ⟨by simpa using h.ddr, by simpa using h.fast, by simpa using h.mwin, by simpa using h.scratch, ?_, ?_, ?_⟩
    · intro q
      simp only [State.setWord, unit_onUnit]
      split
      · exact smapSorted_put _ _ _ _ (h.regs sd)
      · exact h.regs q
    · intro q
      simp only [State.setWord, unit_onUnit]
      split
      · exact h.time sd
      · exact h.time q
    · intro q x j u hu
      by_cases hq : q = sd
      · subst hq
        by_cases hx : x = r
        · subst hx
          by_cases hj : j = i ∧ u = w
          · obtain ⟨rfl, rfl⟩ := hj
            rw [word_setWord_same]
            exact hv h.reserved
          · rw [word_setWord_entry _ _ _ _ _ _ _ _ _ hw hu (by omega)]
            exact h.reserved q x j u hu
        · rw [word_setWord_reg _ _ _ _ _ _ _ _ _ _ hx]; exact h.reserved q x j u hu
      · rw [word_setWord_side _ _ _ _ _ _ _ _ _ _ hq]; exact h.reserved q x j u hu

/-- The field is one of the register tables. -/
def Field.listed (f : Field) : Bool :=
  decide (f.word < 16) &&
    f.reg.fields.any fun d => Nat.beq d.word f.word && Nat.beq d.hi f.hi && Nat.beq d.lo f.lo

theorem definedBits_step (l : List FieldDesc) (w i : Nat) (acc : Word) :
    (l.foldl (fun acc f => if f.word = w then withBits acc f.hi f.lo (2 ^ (f.hi + 1 - f.lo) - 1) else acc) acc).getLsbD i
      = (acc.getLsbD i || l.any fun f => decide (f.word = w) && decide (f.lo ≤ i ∧ i < f.hi + 1 ∧ i < 64)) := by
  induction l generalizing acc with
  | nil => simp
  | cons f l ih =>
    rw [List.foldl_cons, ih, List.any_cons]
    by_cases hw : f.word = w
    · rw [if_pos hw, withBits_getLsbD]
      split
      · next h =>
        rw [Nat.testBit_two_pow_sub_one]
        have : i - f.lo < f.hi + 1 - f.lo := by omega
        simp [this, hw, h]
      · next h => rw [decide_eq_false h, Bool.and_false, Bool.false_or]
    · simp [hw]

theorem definedBits_covers (f : Field) (h : f.listed = true) :
    withBits (definedBits f.reg f.word) f.hi f.lo (2 ^ (f.hi + 1 - f.lo) - 1) = definedBits f.reg f.word := by
  apply BitVec.eq_of_getLsbD_eq
  intro i hi
  rw [withBits_getLsbD]
  split
  · next hr =>
    rw [Nat.testBit_two_pow_sub_one, definedBits, definedBits_step]
    simp only [Field.listed, Bool.and_eq_true, List.any_eq_true] at h
    obtain ⟨d, hd, ⟨h1, h2⟩, h3⟩ := h.2
    have h1 := Nat.eq_of_beq_eq_true h1
    have h2 := Nat.eq_of_beq_eq_true h2
    have h3 := Nat.eq_of_beq_eq_true h3
    have hlt : i - f.lo < f.hi + 1 - f.lo := by omega
    have : (f.reg.fields.any fun x => decide (x.word = f.word) && decide (x.lo ≤ i ∧ i < x.hi + 1 ∧ i < 64)) = true :=
      List.any_eq_true.2 ⟨d, hd, by simp [h1, h2, h3, hr]⟩
    rw [this, Bool.or_true]
    exact decide_eq_true hlt
  · rfl

theorem wr_ev (sd : Side) (f : Field) (i v : Nat) (s : State) (h : f.listed = true) :
    Ev (Part.reg sd f.reg).bit s (s.wr sd f i v) := by
  have hw : f.word < 16 := by
    simp only [Field.listed, Bool.and_eq_true, decide_eq_true_eq] at h; exact h.1
  exact setWord_ev _ _ _ _ _ _ hw fun hz => withBits_mask _ _ _ _ _ (hz sd f.reg i f.word hw) (definedBits_covers f h)

theorem wrb_ev (sd : Side) (f : Field) (i : Nat) (b : Bool) (s : State) (h : f.listed = true) :
    Ev (Part.reg sd f.reg).bit s (s.wrb sd f i b) := wr_ev _ _ _ _ _ h

/-! ## The module's part and the endpoint block's part -/

/-- What a change of the module's part may touch. -/
structure ModOk (F : Nat) (a b : ModuleState) : Prop where
  pool_ddr : F.testBit (Part.pool .ddr).idx = true ∨ b.pool.ddr = a.pool.ddr
  pool_fast : F.testBit (Part.pool .fast).idx = true ∨ b.pool.fast = a.pool.fast
  pool_poison : F.testBit (Part.pool .poison).idx = true ∨ b.pool.poison = a.pool.poison
  pool_keyed : F.testBit (Part.pool .keyed).idx = true ∨ b.pool.keyed = a.pool.keyed
  pool_fills : F.testBit (Part.pool .fills).idx = true ∨ b.pool.fills = a.pool.fills
  pool_mwin : F.testBit (Part.pool .mwin).idx = true ∨ b.pool.mwin = a.pool.mwin
  pool_installedGib : F.testBit (Part.pool .installedGib).idx = true ∨ b.pool.installedGib = a.pool.installedGib
  pool_missing : F.testBit (Part.pool .missing).idx = true ∨ b.pool.missing = a.pool.missing
  eng_queues : F.testBit (Part.eng .queues).idx = true ∨ b.eng.queues = a.eng.queues
  eng_ats : F.testBit (Part.eng .ats).idx = true ∨ b.eng.ats = a.eng.ats
  eng_threads : F.testBit (Part.eng .threads).idx = true ∨ b.eng.threads = a.eng.threads
  eng_dcache : F.testBit (Part.eng .dcache).idx = true ∨ b.eng.dcache = a.eng.dcache
  eng_grants : F.testBit (Part.eng .grants).idx = true ∨ b.eng.grants = a.eng.grants
  eng_scratch : F.testBit (Part.eng .scratch).idx = true ∨ b.eng.scratch = a.eng.scratch
  sw : F.testBit (Part.mod .sw).idx = true ∨ b.sw = a.sw
  pci : F.testBit (Part.mod .pci).idx = true ∨ b.pci = a.pci
  rattle : F.testBit (Part.mod .rattle).idx = true ∨ b.rattle = a.rattle
  dir : F.testBit (Part.mod .dir).idx = true ∨ b.dir = a.dir
  mrn : F.testBit (Part.mod .mrn).idx = true ∨ b.mrn = a.mrn
  tile : F.testBit (Part.mod .tile).idx = true ∨ b.tile = a.tile
  bring : F.testBit (Part.mod .bring).idx = true ∨ b.bring = a.bring
  top : F.testBit (Part.mod .top).idx = true ∨ b.top = a.top
  power : F.testBit (Part.mod .power).idx = true ∨ b.power = a.power
  tel : F.testBit (Part.mod .tel).idx = true ∨ b.tel = a.tel
  sec : F.testBit (Part.mod .sec).idx = true ∨ b.sec = a.sec
  live : F.testBit (Part.mod .live).idx = true ∨ b.live = a.live
  signers : F.testBit (Part.mod .signers).idx = true ∨ b.signers = a.signers
  ownDiscardAt : F.testBit (Part.mod .ownDiscardAt).idx = true ∨ b.ownDiscardAt = a.ownDiscardAt
  wf_ddr : Memory.wf a.pool.ddr = true → Memory.wf b.pool.ddr = true
  wf_fast : Memory.wf a.pool.fast = true → Memory.wf b.pool.fast = true
  wf_mwin : Memory.wf a.pool.mwin = true → Memory.wf b.pool.mwin = true
  wf_scratch : Memory.wf a.eng.scratch = true → Memory.wf b.eng.scratch = true

theorem onM_ev {F : Nat} (f : ModuleState → ModuleState) (s : State) (h : ModOk F s.m (f s.m)) : Ev F s (s.onM f) := by
  refine ⟨?_, ?_, rfl, rfl⟩
  · intro p hp
    cases p with
    | reg q r => intro i w; simp
    | unit q u => simp only [Part.Same, onM_unit]; exact Part.Same.refl (.unit q u) s
    | pool x =>
      cases x with
      | ddr => exact orOut h.pool_ddr hp
      | fast => exact orOut h.pool_fast hp
      | poison => exact orOut h.pool_poison hp
      | keyed => exact orOut h.pool_keyed hp
      | fills => exact orOut h.pool_fills hp
      | mwin => exact orOut h.pool_mwin hp
      | installedGib => exact orOut h.pool_installedGib hp
      | missing => exact orOut h.pool_missing hp
    | eng x =>
      cases x with
      | queues => exact orOut h.eng_queues hp
      | ats => exact orOut h.eng_ats hp
      | threads => exact orOut h.eng_threads hp
      | dcache => exact orOut h.eng_dcache hp
      | grants => exact orOut h.eng_grants hp
      | scratch => exact orOut h.eng_scratch hp
    | mod x =>
      cases x with
      | sw => exact orOut h.sw hp
      | pci => exact orOut h.pci hp
      | rattle => exact orOut h.rattle hp
      | dir => exact orOut h.dir hp
      | mrn => exact orOut h.mrn hp
      | tile => exact orOut h.tile hp
      | bring => exact orOut h.bring hp
      | top => exact orOut h.top hp
      | power => exact orOut h.power hp
      | tel => exact orOut h.tel hp
      | sec => exact orOut h.sec hp
      | live => exact orOut h.live hp
      | signers => exact orOut h.signers hp
      | ownDiscardAt => exact orOut h.ownDiscardAt hp
    | ep x => exact Part.Same.refl (.ep x) s
    | free => rfl
  · intro i
    refine ⟨h.wf_ddr i.ddr, h.wf_fast i.fast, h.wf_mwin i.mwin, h.wf_scratch i.scratch, ?_, ?_, ?_⟩
    · intro q; rw [onM_unit]; exact i.regs q
    · intro q; rw [onM_unit]; exact i.time q
    · intro q r k w hw; rw [word_onM]; exact i.reserved q r k w hw

/-- What a change of the endpoint block's part may touch. -/
structure EpOk (F : Nat) (a b : EndpointState) : Prop where
  mqWait : F.testBit (Part.ep .mqWait).idx = true ∨ b.mqWait = a.mqWait
  mqOut : F.testBit (Part.ep .mqOut).idx = true ∨ b.mqOut = a.mqOut
  mqDead : F.testBit (Part.ep .mqDead).idx = true ∨ b.mqDead = a.mqDead
  mqLocked : F.testBit (Part.ep .mqLocked).idx = true ∨ b.mqLocked = a.mqLocked
  txns : F.testBit (Part.ep .txns).idx = true ∨ b.txns = a.txns
  nextTxn : F.testBit (Part.ep .nextTxn).idx = true ∨ b.nextTxn = a.nextTxn
  jobs : F.testBit (Part.ep .jobs).idx = true ∨ b.jobs = a.jobs
  nextJob : F.testBit (Part.ep .nextJob).idx = true ∨ b.nextJob = a.nextJob
  locks : F.testBit (Part.ep .locks).idx = true ∨ b.locks = a.locks
  cache : F.testBit (Part.ep .cache).idx = true ∨ b.cache = a.cache
  clock : F.testBit (Part.ep .clock).idx = true ∨ b.clock = a.clock
  accs : F.testBit (Part.ep .accs).idx = true ∨ b.accs = a.accs
  coh : F.testBit (Part.ep .coh).idx = true ∨ b.coh = a.coh
  snoops : F.testBit (Part.ep .snoops).idx = true ∨ b.snoops = a.snoops
  nextTseq : F.testBit (Part.ep .nextTseq).idx = true ∨ b.nextTseq = a.nextTseq
  recovery : F.testBit (Part.ep .recovery).idx = true ∨ b.recovery = a.recovery
  noFill : F.testBit (Part.ep .noFill).idx = true ∨ b.noFill = a.noFill
  mirrored : F.testBit (Part.ep .mirrored).idx = true ∨ b.mirrored = a.mirrored
  trig : F.testBit (Part.ep .trig).idx = true ∨ b.trig = a.trig
  reached : F.testBit (Part.ep .reached).idx = true ∨ b.reached = a.reached
  fired : F.testBit (Part.ep .fired).idx = true ∨ b.fired = a.fired
  nextTrig : F.testBit (Part.ep .nextTrig).idx = true ∨ b.nextTrig = a.nextTrig
  domCheck : F.testBit (Part.ep .domCheck).idx = true ∨ b.domCheck = a.domCheck
  queues : F.testBit (Part.ep .queues).idx = true ∨ b.queues = a.queues
  coll : F.testBit (Part.ep .coll).idx = true ∨ b.coll = a.coll
  ftValid : F.testBit (Part.ep .ftValid).idx = true ∨ b.ftValid = a.ftValid
  grants : F.testBit (Part.ep .grants).idx = true ∨ b.grants = a.grants

theorem onE_ev {F : Nat} (f : EndpointState → EndpointState) (s : State) (h : EpOk F s.e (f s.e)) : Ev F s (s.onE f) := by
  refine ⟨?_, ?_, rfl, rfl⟩
  · intro p hp
    cases p with
    | reg q r => intro i w; simp
    | unit q u => simp only [Part.Same, onE_unit]; exact Part.Same.refl (.unit q u) s
    | pool x => exact Part.Same.refl (.pool x) s
    | eng x => exact Part.Same.refl (.eng x) s
    | mod x => exact Part.Same.refl (.mod x) s
    | ep x =>
      cases x with
      | mqWait => exact orOut h.mqWait hp
      | mqOut => exact orOut h.mqOut hp
      | mqDead => exact orOut h.mqDead hp
      | mqLocked => exact orOut h.mqLocked hp
      | txns => exact orOut h.txns hp
      | nextTxn => exact orOut h.nextTxn hp
      | jobs => exact orOut h.jobs hp
      | nextJob => exact orOut h.nextJob hp
      | locks => exact orOut h.locks hp
      | cache => exact orOut h.cache hp
      | clock => exact orOut h.clock hp
      | accs => exact orOut h.accs hp
      | coh => exact orOut h.coh hp
      | snoops => exact orOut h.snoops hp
      | nextTseq => exact orOut h.nextTseq hp
      | recovery => exact orOut h.recovery hp
      | noFill => exact orOut h.noFill hp
      | mirrored => exact orOut h.mirrored hp
      | trig => exact orOut h.trig hp
      | reached => exact orOut h.reached hp
      | fired => exact orOut h.fired hp
      | nextTrig => exact orOut h.nextTrig hp
      | domCheck => exact orOut h.domCheck hp
      | queues => exact orOut h.queues hp
      | coll => exact orOut h.coll hp
      | ftValid => exact orOut h.ftValid hp
      | grants => exact orOut h.grants hp
    | free => rfl
  · intro i
    refine i.congr rfl rfl ?_ ?_ <;> intro q <;> rw [onE_unit]

/-- Spending a free value. -/
theorem spendFree_ev (s : State) : Ev Part.free.bit s s.spendFree.2 := by
  refine ⟨?_, ?_, rfl, rfl⟩
  · intro p hp
    cases p with
    | reg => exact fun _ _ => rfl
    | unit sd u => cases sd <;> cases u <;> rfl
    | pool p => exact Part.Same.refl (.pool p) s
    | eng p => exact Part.Same.refl (.eng p) s
    | mod p => exact Part.Same.refl (.mod p) s
    | ep p => exact Part.Same.refl (.ep p) s
    | free => rw [Part.bit_self] at hp; exact absurd hp (by decide)
  · intro i
    refine i.congr rfl rfl ?_ ?_ <;> intro q <;> cases q <;> rfl

end Sys2Proof.Machine
end

