-- ==== Sys2Proof/Laws/EvOps.lean ====
section
/-! SUPPORT. What the operations of Machine/Ops.lean may touch: one law for each, cited in place of unfolding it. The numbers are
sets of parts (Laws/Frame.lean, `Part.idx`). -/

set_option exponentiation.threshold 1024
set_option linter.unreachableTactic false
set_option linter.unusedTactic false

namespace Sys2Proof.Machine

/-- A word of a register without reserved bits. -/
theorem fullWord {r : Reg} {w : Nat} (v : Word) {p : Prop} (h : definedBits r w = 0xFFFFFFFFFFFFFFFF#64) :
    p → v &&& ~~~(definedBits r w) = 0 := fun _ => by rw [h]; simp

/-- A word masked to bits that are not reserved. -/
theorem maskedWord {v c d : Word} {p : Prop} (h : c &&& ~~~d = 0) : p → v &&& c &&& ~~~d = 0 := fun _ => by
  rw [BitVec.and_assoc, h]; simp

theorem zeroWord {d : Word} {p : Prop} : p → (0 : Word) &&& d = 0 := fun _ => by simp

theorem definedBits_counter (r : Reg) (h : r.isCounter = true) : definedBits r 0 = 0x8000FFFFFFFFFFFF#64 := by
  revert h
  cases r <;> first | (intro h; exact absurd h (by decide)) | (intro _; decide)

theorem countedWord_ok (w : Word) (n : Nat) (h : w &&& ~~~(0x8000FFFFFFFFFFFF#64) = 0) :
    countedWord w n &&& ~~~(0x8000FFFFFFFFFFFF#64) = 0 := by
  have h1 : ∀ v, withBits w 47 0 v &&& ~~~(0x8000FFFFFFFFFFFF#64) = 0 := fun v => withBits_mask _ _ _ _ _ h (by decide)
  unfold countedWord
  split
  · exact withBits_mask _ _ _ _ _ (h1 _) (by decide)
  · exact h1 _

theorem setCounter_ev (sd : Side) (r : Reg) (i n : Nat) (s : State) (h : r.isCounter = true) :
    Ev (Part.reg sd r).bit s (s.setWord sd r i 0 (countedWord (s.word sd r i 0) n)) := by
  refine setWord_ev _ _ _ _ _ _ (by decide) fun hz => ?_
  have := hz sd r i 0 (by decide)
  rw [definedBits_counter r h] at this ⊢
  exact countedWord_ok _ _ this

theorem bumpQuiet_ev (sd : Side) (r : Reg) (i n : Nat) (s : State) (h : r.isCounter = true) :
    Ev (Part.reg sd r).bit s (bumpQuiet sd r i n s) := setCounter_ev _ _ _ _ _ h

theorem writeEntry_ev (sd : Side) (r : Reg) (i : Nat) (e : Event) (block q : Nat) (s : State)
    (h : ∀ w < 4, definedBits r w = 0xFFFFFFFFFFFFFFFF#64) : Ev (Part.reg sd r).bit s (writeEntry sd r i e block q s) := by
  unfold writeEntry
  refine Ev.seq (setWord_ev _ _ _ _ _ _ (by decide) (fullWord _ (h 3 (by decide)))) (Sub.refl _) ?_
  refine Ev.seq (setWord_ev _ _ _ _ _ _ (by decide) (fullWord _ (h 2 (by decide)))) (Sub.refl _) ?_
  refine Ev.seq (setWord_ev _ _ _ _ _ _ (by decide) (fullWord _ (h 1 (by decide)))) (Sub.refl _) ?_
  exact setWord_ev _ _ _ _ _ _ (by decide) (fullWord _ (h 0 (by decide)))

theorem saturate_ev (sd : Side) (f : Field) (i n : Nat) (s : State) (h : f.listed = true) :
    Ev (Part.reg sd f.reg).bit s (saturate sd f i n s) := wr_ev _ _ _ _ _ h

theorem fltLog_full : ∀ w < 4, definedBits .fltLog w = 0xFFFFFFFFFFFFFFFF#64 := by decide

theorem fxeEvt_full : ∀ w < 4, definedBits .fxeEvt w = 0xFFFFFFFFFFFFFFFF#64 := by decide

def Fp.sendVector : Nat := 0x200000000100000000000000000000000000000000000000000000000000000000000000000000000000000000000000000000000000000000000000000000000000000000000
theorem sendVector_ev (v : Nat) (s : State) :
    Ev Fp.sendVector s (sendVector v s) := by
  unfold sendVector
  repeat' first
    | with_reducible apply Ev.refl | with_reducible assumption | exact rfl | with_reducible apply Ev.seq (emit_ev ..) ?_ ?_
    | with_reducible apply Ev.seq (onM_ev _ _ ?_) (Sub.refl _) ?_ | with_reducible apply Ev.ite ?_ ?_
    | (constructor <;> first | exact .inl rfl | exact .inr rfl | exact rfl | exact fun h => h | exact fun _ => rfl)
    | dsimp only | split

def Fp.sendSource : Nat := 0x200000000100000000000000000000000000000000000000000000000000000000000000000000000000000000000000000000000000000000000000000000000000000000000
theorem sendSource_ev (src : Nat) (s : State) :
    Ev Fp.sendSource s (sendSource src s) := by
  unfold sendSource
  repeat' first
    | with_reducible apply Ev.refl | with_reducible assumption | exact rfl
    | with_reducible apply Ev.seq (onM_ev _ _ ?_) (Sub.refl _) ?_ | with_reducible apply Ev.seq (sendVector_ev ..) ?_ ?_
    | (constructor <;> first | exact .inl rfl | exact .inr rfl | exact rfl | exact fun h => h | exact fun _ => rfl)
    | dsimp only | split

def Fp.messageSource : Nat := 0x200000000100000000000000000000000000000000000000000000000000000000000000000000000000000000000000000000000000000000000000000000000000000000000
theorem messageSource_ev (src : Nat) (s : State) :
    Ev Fp.messageSource s (messageSource src s) := by
  unfold messageSource
  repeat' first
    | with_reducible apply Ev.refl | with_reducible assumption | exact rfl
    | with_reducible apply Ev.seq (onM_ev _ _ ?_) (Sub.refl _) ?_ | with_reducible apply Ev.seq (sendSource_ev ..) ?_ ?_
    | with_reducible apply Ev.ite ?_ ?_
    | (constructor <;> first | exact .inl rfl | exact .inr rfl | exact rfl | exact fun h => h | exact fun _ => rfl)
    | dsimp only | split

def Fp.raiseSource : Nat := 0x200000000100000000000000000000000100000000000000000000000000000000000000000000000000000000000000000000000000000000000000000000000000000000000
theorem raiseSource_ev (src : Nat) (s : State) : Ev Fp.raiseSource s (raiseSource src s) := by
  unfold raiseSource
  dsimp only
  split
  · exact Ev.refl _
  · exact Ev.seq (messageSource_ev ..) rfl (Ev.seq (setWord_ev _ _ _ _ _ _ (by decide) (fullWord _ (by decide))) rfl (Ev.refl _))

def Fp.raiseVector : Nat := 0x200000000000000000080000000000000000000000000000000000000000000000000000000000000000000000000000000000000000000000000000000000000000
theorem bitWord_ok (w : Word) (v : Nat) (h : v < 13) (hw : w &&& ~~~(0x1FFF#64) = 0) :
    (w ||| (1#64 <<< v)) &&& ~~~(0x1FFF#64) = 0 := by
  apply BitVec.eq_of_getLsbD_eq
  intro i hi
  have := congrArg (fun x => x.getLsbD i) hw
  have h2 : (0x1FFF#64).getLsbD i = decide (i < 13) := by
    have : (0x1FFF#64).getLsbD i = (2 ^ 13 - 1).testBit i := rfl
    rw [this, Nat.testBit_two_pow_sub_one]
  simp only [BitVec.getLsbD_and, BitVec.getLsbD_or, BitVec.getLsbD_not, h2, BitVec.getLsbD_shiftLeft, BitVec.getLsbD_one] at this ⊢
  by_cases h13 : i < 13
  · simp [h13]
  · have : ¬ i - v = 0 ∨ i < v := by omega
    rcases this with h | h <;> simp_all

theorem raiseVector_ev (v : Nat) (s : State) (hv : v < 13) : Ev Fp.raiseVector s (raiseVector v s) := by
  have key : Ev (Part.reg .endpoint .fxeIntStatus).bit s
      (s.setWord .endpoint .fxeIntStatus 0 0 (s.word .endpoint .fxeIntStatus 0 0 ||| (1#64 <<< v))) := by
    refine setWord_ev _ _ _ _ _ _ (by decide) fun hz => ?_
    have := hz .endpoint .fxeIntStatus 0 0 (by decide)
    rw [show definedBits .fxeIntStatus 0 = 0x1FFF#64 from by decide] at this ⊢
    exact bitWord_ok _ _ hv this
  unfold raiseVector
  dsimp only
  split
  · exact Ev.seq (emit_ev ..) rfl (Ev.mono (A := (Part.reg .endpoint .fxeIntStatus).bit) rfl key)
  · exact Ev.mono (A := (Part.reg .endpoint .fxeIntStatus).bit) rfl key

def Fp.noteEvent : Side → Nat
  | .module => 0x10000000000000000000000000000000000000000000000000000000000000000000000000000000000000000000000000000000000000000000000000000000
  | .endpoint => 0x20000000000000000000000000000000000000000000000000000000000000000000000000000000000000000000000000000000000000000000000000000000
theorem noteEvent_ev (sd : Side) (e : Event) (s : State) :
    Ev (Fp.noteEvent sd) s (noteEvent sd e s) := by
  cases sd <;> (
    unfold noteEvent
    repeat' first
      | with_reducible apply Ev.refl | with_reducible assumption | exact rfl
      | with_reducible apply Ev.seq (onUnit_ev _ _ _ ?_) (Sub.refl _) ?_
      | (constructor <;> first | exact .inl rfl | exact .inr rfl | exact rfl | exact fun h => h | exact fun _ => rfl)
      | dsimp only | contradiction | split)

def Fp.logModule : Nat := 0x200000000100010000000000000000000100004005100000000000000000000000000000000000000000000000000000000000000000000000000000000000000000000000000
theorem logModule_ev (e : Event) (s : State) :
    Ev Fp.logModule s (logModule e s) := by
  unfold logModule
  repeat' first
    | with_reducible apply Ev.refl | with_reducible assumption | exact rfl | exact fltLog_full | exact fxeEvt_full
    | with_reducible apply Ev.seq (wr_ev _ _ _ _ _ ?_) ?_ ?_
    | with_reducible apply Ev.seq (bumpQuiet_ev _ _ _ _ _ ?_) ?_ ?_
    | with_reducible apply Ev.seq (writeEntry_ev _ _ _ _ _ _ _ ?_) ?_ ?_
    | with_reducible apply Ev.seq (noteEvent_ev ..) ?_ ?_ | with_reducible apply Ev.seq (raiseSource_ev ..) ?_ ?_
    | with_reducible apply Ev.ite ?_ ?_ | dsimp only | split

def Fp.logEndpoint : Nat := 0x200020000020000028880000000000000000000000000000000000000000000000000000000000000000000000000000000000000000000000000000000000000000
theorem logEndpoint_ev (e0 : Event) (s : State) :
    Ev Fp.logEndpoint s (logEndpoint e0 s) := by
  unfold logEndpoint
  repeat' first
    | with_reducible apply Ev.refl | with_reducible assumption | exact rfl | exact fltLog_full | exact fxeEvt_full
    | with_reducible apply Ev.seq (wr_ev _ _ _ _ _ ?_) ?_ ?_
    | with_reducible apply Ev.seq (bumpQuiet_ev _ _ _ _ _ ?_) ?_ ?_
    | with_reducible apply Ev.seq (writeEntry_ev _ _ _ _ _ _ _ ?_) ?_ ?_
    | with_reducible apply Ev.seq (noteEvent_ev ..) ?_ ?_
    | with_reducible apply Ev.seq (raiseVector_ev _ _ (by decide)) ?_ ?_ | with_reducible apply Ev.ite ?_ ?_ | dsimp only
    | split

def Fp.logEvent : Side → Nat
  | .module => 0x200000000100010000000000000000000100004005100000000000000000000000000000000000000000000000000000000000000000000000000000000000000000000000000
  | .endpoint => 0x200020000020000028880000000000000000000000000000000000000000000000000000000000000000000000000000000000000000000000000000000000000000
theorem logEvent_ev (sd : Side) (e : Event) (s : State) :
    Ev (Fp.logEvent sd) s (logEvent sd e s) := by
  cases sd <;> (
    unfold logEvent
    repeat' first
      | with_reducible apply Ev.refl | with_reducible assumption | exact rfl
      | with_reducible apply Ev.seq (logEndpoint_ev ..) ?_ ?_ | with_reducible apply Ev.seq (logModule_ev ..) ?_ ?_
      | dsimp only | with_reducible refine Ev.ofPair (by assumption) ?_ | contradiction | split)

def Fp.logBump : Side → Nat
  | .module => 0x200000000100010000000000000000000100004005100000000001000000000000000000000000000000000000000000000000000000000000000000000000000000000000000
  | .endpoint => 0x200020000020000028880000000000000000000000000000000000000000000000000000000000000000000000000000000000000000000000000000000000000000
theorem bumpBy_ev (sd : Side) (r : Reg) (i n : Nat) (s : State) (h : r.isCounter = true) :
    Ev ((Part.reg sd r).bit ||| Fp.logBump sd) s (bumpBy sd r i n s) := by
  have h1 := (setCounter_ev sd r i n s h).mono (F := (Part.reg sd r).bit ||| Fp.logBump sd) (Sub.orLeft _ _)
  unfold bumpBy
  dsimp only
  split
  · cases sd
    · refine Ev.seq (logEvent_ev ..) (Sub.trans' (Sub.orRight _ _) rfl) (Ev.seq (bumpQuiet_ev _ _ _ _ _ rfl) (Sub.trans' (Sub.orRight _ _) rfl) h1)
    · exact Ev.seq (logEvent_ev ..) (Sub.trans' (Sub.orRight _ _) rfl) h1
  · exact h1

theorem bump_ev (sd : Side) (r : Reg) (i : Nat) (s : State) (h : r.isCounter = true) :
    Ev ((Part.reg sd r).bit ||| Fp.logBump sd) s (bump sd r i s) := bumpBy_ev _ _ _ _ _ h

def Fp.regAccess : Side → Nat
  | .module => 0x200000000100010000000000000000000100004005100000000000000000000000000000000000000000000000000000000000000000000000000000000000000000000000000
  | .endpoint => 0x200020000020000028880000000000000000000000000000000000000000000000000000000000000000000000000000000000000000000000000000000000000000
theorem regAccess_ev (sd : Side) (addr : Nat) (value : Nat) (s : State) :
    Ev (Fp.regAccess sd) s (regAccess sd addr value s) := by
  cases sd <;> (
    unfold regAccess
    repeat' first
      | with_reducible apply Ev.refl | with_reducible assumption | exact rfl
      | with_reducible apply Ev.seq (logEvent_ev ..) ?_ ?_ | dsimp only | contradiction | split)

def Fp.overridePolicy : Nat := 0x200000000100010000000000000000000100004005100000000000040000000000000000000000000000000000000000000000000000000000000000000000000000000000000
theorem overridePolicy_ev (loop : Nat) (block : Nat) (addr : Nat) (s : State) :
    Ev Fp.overridePolicy s (overridePolicy loop block addr s) := by
  unfold overridePolicy
  repeat' first
    | with_reducible apply Ev.refl | with_reducible assumption | exact rfl
    | with_reducible apply Ev.seq (wr_ev _ _ _ _ _ ?_) ?_ ?_ | with_reducible apply Ev.seq (logModule_ev ..) ?_ ?_
    | dsimp only | split

def Fp.endOverride : Nat := 0x40000000000000000000000000000000000000000000000000000000000000000000000000000000000000
theorem endOverride_ev (loop : Nat) (s : State) :
    Ev Fp.endOverride s (endOverride loop s) := by
  unfold endOverride
  repeat' first
    | with_reducible apply Ev.refl | with_reducible assumption | exact rfl
    | with_reducible apply Ev.seq (wr_ev _ _ _ _ _ ?_) ?_ ?_ | dsimp only | split

def Fp.rwlDiscard : Side → Nat
  | .module => 0x200200000000100010000000000000000000100004005100010000001000000000000000000000000000000000000000000000000000000000000000000000000000000000000000
  | .endpoint => 0x2000200000200000a8880000000000000000000000000000000000000000000000000000000000000000000000000000000000000000000000000000000000000000
theorem rwlDiscard_ev (sd : Side) (a : Nat) (v : Nat) (s : State) :
    Ev (Fp.rwlDiscard sd) s (rwlDiscard sd a v s) := by
  cases sd <;> (
    unfold rwlDiscard
    repeat' first
      | with_reducible apply Ev.refl | with_reducible assumption | exact rfl
      | with_reducible apply Ev.seq (onM_ev _ _ ?_) (Sub.refl _) ?_ | with_reducible apply Ev.seq (bump_ev _ _ _ _ ?_) ?_ ?_
      | with_reducible apply Ev.seq (logEvent_ev ..) ?_ ?_ | with_reducible apply Ev.seq (regAccess_ev ..) ?_ ?_
      | with_reducible apply Ev.ite ?_ ?_
      | (constructor <;> first | exact .inl rfl | exact .inr rfl | exact rfl | exact fun h => h | exact fun _ => rfl)
      | dsimp only | with_reducible refine Ev.ofPair (by assumption) ?_ | contradiction | split)

def Fp.rwl : Side → Nat
  | .module => 0x200200000000100010000000000000000000100004005100010000001000000000000000000000000000000000000000000000000000000000000000000000000000000000000000
  | .endpoint => 0x2000200000200000a8880000000000000000000000000000000000000000000000000000000000000000000000000000000000000000000000000000000000000000
theorem rwl_ev {F : Nat} {s0 : State} (sd : Side) (path : Path) (a : Nat) (v : Nat) (f : State → State) (s : State) (hF : Sub (Fp.rwl sd) F) (hf : ∀ x, Ev F x (f x)) (h0 : Ev F s0 s) :
    Ev F s0 (rwl sd path a v f s) := by
  cases sd <;> (
    unfold rwl
    repeat' first
      | with_reducible apply Ev.refl | with_reducible assumption | exact rfl | exact Sub.trans' hF rfl
      | with_reducible apply Ev.seq (hf _) (Sub.refl _) ?_ | with_reducible apply Ev.seq (rwlDiscard_ev ..) ?_ ?_
      | with_reducible apply Ev.ite ?_ ?_ | dsimp only | contradiction | split)

end Sys2Proof.Machine
end

