-- ==== Sys2Proof/Laws/EvFlags.lean ====
section
/-! SUPPORT. What the operations of Machine/Flags.lean may touch: one law for each, cited in place of unfolding it. The numbers are
sets of parts (Laws/Frame.lean, `Part.idx`). -/

set_option exponentiation.threshold 1024
set_option linter.unreachableTactic false
set_option linter.unusedTactic false

namespace Sys2Proof.Machine

def Fp.noteReserved : Side → Nat
  | .module => 0x200000000100010000000000000000000100004005100000000000000000000000000000000000000000000000000000000000000000000000000000000000000000000000000
  | .endpoint => 0x200020000020000028880000000000000000000000000000000000000000000000000000000000000000000000000000000000000000000000000000000000000000
theorem noteReserved_ev (sd : Side) (st : Status) (arg0 : Nat) (arg1 : Nat) (s : State) :
    Ev (Fp.noteReserved sd) s (noteReserved sd st arg0 arg1 s) := by
  cases sd <;> (
    unfold noteReserved
    repeat' first
      | with_reducible apply Ev.refl | with_reducible assumption | exact rfl
      | with_reducible apply Ev.seq (logEvent_ev ..) ?_ ?_ | with_reducible apply Ev.ite ?_ ?_ | dsimp only | contradiction
      | split)

def Fp.noteAlso : Side → Nat
  | .module => 0x200000000100010000000000000000000100004005100000000000000000000000000000000000000000000000000000000000000000000000000000000000000000000000000
  | .endpoint => 0x200020000020000028880000000000000000000000000000000000000000000000000000000000000000000000000000000000000000000000000000000000000000
theorem noteAlso_ev (sd : Side) (reported : Status) (also : List Status) (what : Nat) (s : State) :
    Ev (Fp.noteAlso sd) s (noteAlso sd reported also what s) := by
  cases sd <;> (
    unfold noteAlso
    repeat' first
      | with_reducible apply Ev.refl | with_reducible assumption | exact rfl
      | with_reducible apply Ev.seq (logEvent_ev ..) ?_ ?_ | with_reducible apply Ev.foldl (fun _ _ => ?_) ?_
      | with_reducible apply Ev.foldlSnd (fun _ _ => ?_) ?_ | dsimp only | contradiction | split)

end Sys2Proof.Machine
end

