-- ==== Sys2Proof/Laws/EvRoleOps.lean ====
section
/-! SUPPORT. What the operations of Machine/RoleOps.lean may touch: one law for each, cited in place of unfolding it. The numbers are
sets of parts (Laws/Frame.lean, `Part.idx`). -/

set_option exponentiation.threshold 1024
set_option linter.unreachableTactic false
set_option linter.unusedTactic false

namespace Sys2Proof.Machine

def Fp.onTile : Nat := 0x2000000000000000000000000000000000000000000000000000000000000000000000000000000000000000000000000000000000000000000000000000000000000000000000
theorem onTile_ev (f : TileState → TileState) (s : State) :
    Ev Fp.onTile s (onTile f s) := by
  unfold onTile
  repeat' first
    | with_reducible apply Ev.refl | with_reducible assumption | exact rfl
    | with_reducible apply Ev.seq (onM_ev _ _ ?_) (Sub.refl _) ?_
    | (constructor <;> first | exact .inl rfl | exact .inr rfl | exact rfl | exact fun h => h | exact fun _ => rfl)
    | dsimp only | split

def Fp.onBring : Nat := 0x4000000000000000000000000000000000000000000000000000000000000000000000000000000000000000000000000000000000000000000000000000000000000000000000
theorem onBring_ev (f : BringState → BringState) (s : State) :
    Ev Fp.onBring s (onBring f s) := by
  unfold onBring
  repeat' first
    | with_reducible apply Ev.refl | with_reducible assumption | exact rfl
    | with_reducible apply Ev.seq (onM_ev _ _ ?_) (Sub.refl _) ?_
    | (constructor <;> first | exact .inl rfl | exact .inr rfl | exact rfl | exact fun h => h | exact fun _ => rfl)
    | dsimp only | split

def Fp.settleFigures : Nat := 0x4000000000000000000000000000000000000000010000001
theorem settleFigures_ev (s : State) :
    Ev Fp.settleFigures s (settleFigures s) := by
  unfold settleFigures
  repeat' first
    | with_reducible apply Ev.refl | with_reducible assumption | exact rfl
    | with_reducible apply Ev.seq (wr_ev _ _ _ _ _ ?_) ?_ ?_ | dsimp only | split

def Fp.capacityEvent : Nat := 0x200000000100010000000000000000000100004005100000000001000000000000000000000000000000000000000000000000000000000000000000000000000000040000000
theorem capacityEvent_ev (role : Nat) (old : Nat) (new : Nat) (s : State) :
    Ev Fp.capacityEvent s (capacityEvent role old new s) := by
  unfold capacityEvent
  repeat' first
    | with_reducible apply Ev.refl | with_reducible assumption | exact rfl
    | with_reducible apply Ev.seq (bump_ev _ _ _ _ ?_) ?_ ?_ | with_reducible apply Ev.seq (logModule_ev ..) ?_ ?_
    | with_reducible apply Ev.seq (raiseSource_ev ..) ?_ ?_ | dsimp only | split

def Fp.setCount : Nat := 0x200000000100010000000000000000000100004005100000000001000000000000000000000000000000000000000000000000000000000000000000000000000001040000000
theorem setCount_ev (role : Nat) (new : Nat) (s : State) :
    Ev Fp.setCount s (setCount role new s) := by
  unfold setCount
  repeat' first
    | with_reducible apply Ev.refl | with_reducible assumption | exact rfl
    | with_reducible apply Ev.seq (wr_ev _ _ _ _ _ ?_) ?_ ?_ | with_reducible apply Ev.seq (capacityEvent_ev ..) ?_ ?_
    | with_reducible apply Ev.ite ?_ ?_ | dsimp only | split

def Fp.changeRole : Nat := 0x200000000100010000000000000000000100004005100000000001000000000000000000000000000000000000004000000000000000000000000000000000000015050000001
theorem changeRole_ev (t : Nat) (new : Nat) (s : State) :
    Ev Fp.changeRole s (changeRole t new s) := by
  unfold changeRole
  repeat' first
    | with_reducible apply Ev.refl | with_reducible assumption | exact rfl
    | with_reducible apply Ev.seq (wr_ev _ _ _ _ _ ?_) ?_ ?_ | with_reducible apply Ev.seq (setCount_ev ..) ?_ ?_
    | with_reducible apply Ev.seq (settleFigures_ev ..) ?_ ?_ | with_reducible apply Ev.ite ?_ ?_ | dsimp only | split

def Fp.beginRole : Nat := 0x400000
theorem beginRole_ev (t : Nat) (s : State) :
    Ev Fp.beginRole s (beginRole t s) := by
  unfold beginRole
  repeat' first
    | with_reducible apply Ev.refl | with_reducible assumption | exact rfl
    | with_reducible apply Ev.seq (wr_ev _ _ _ _ _ ?_) ?_ ?_ | with_reducible apply Ev.seq (wrb_ev _ _ _ _ _ ?_) ?_ ?_
    | dsimp only | split

def Fp.endRole : Nat := 0x400000
theorem endRole_ev (st : Status) (s : State) :
    Ev Fp.endRole s (endRole st s) := by
  unfold endRole
  repeat' first
    | with_reducible apply Ev.refl | with_reducible assumption | exact rfl
    | with_reducible apply Ev.seq (wr_ev _ _ _ _ _ ?_) ?_ ?_ | with_reducible apply Ev.seq (wrb_ev _ _ _ _ _ ?_) ?_ ?_
    | dsimp only | split

def Fp.finishChange : Nat := 0x2200000000100010000000000000000000100004005100000000001000000000000000000000000000000000000004000000000000000000000000000000000000015050400001
theorem finishChange_ev (s : State) :
    Ev Fp.finishChange s (finishChange s) := by
  unfold finishChange
  repeat' first
    | with_reducible apply Ev.refl | with_reducible assumption | exact rfl
    | with_reducible apply Ev.seq (changeRole_ev ..) ?_ ?_ | with_reducible apply Ev.seq (endRole_ev ..) ?_ ?_
    | with_reducible apply Ev.seq (onTile_ev ..) ?_ ?_ | dsimp only | with_reducible refine Ev.ofPair (by assumption) ?_
    | split

def Fp.recordEntry : Nat := 0x2200000000100010000000000000000000100004005100000000000000000000000000000000000000000000000000000000000000000000000000000000000000000400000000
theorem recordEntry_ev (e : RecordEntry) (s : State) :
    Ev Fp.recordEntry s (recordEntry e s) := by
  unfold recordEntry
  repeat' first
    | with_reducible apply Ev.refl | with_reducible assumption | exact rfl
    | with_reducible apply Ev.seq (wr_ev _ _ _ _ _ ?_) ?_ ?_ | with_reducible apply Ev.seq (logModule_ev ..) ?_ ?_
    | with_reducible apply Ev.seq (onTile_ev ..) ?_ ?_ | with_reducible apply Ev.ite ?_ ?_ | dsimp only | split

end Sys2Proof.Machine
end

