-- ==== Sys2Proof/Laws/EvLaneOps.lean ====
section
/-! SUPPORT. What the operations of Machine/LaneOps.lean may touch: one law for each, cited in place of unfolding it. The numbers are
sets of parts (Laws/Frame.lean, `Part.idx`). -/

set_option exponentiation.threshold 1024
set_option linter.unreachableTactic false
set_option linter.unusedTactic false

namespace Sys2Proof.Machine

def Fp.setLaneSt : Side → Nat
  | .module => 0x1000000000000
  | .endpoint => 0x2000000000000
theorem setLaneSt_ev (sd : Side) (n : Nat) (st : Nat) (s : State) :
    Ev (Fp.setLaneSt sd) s (setLaneSt sd n st s) := by
  cases sd <;> (
    unfold setLaneSt
    repeat' first
      | with_reducible apply Ev.refl | with_reducible assumption | exact rfl
      | with_reducible apply Ev.seq (wr_ev _ _ _ _ _ ?_) ?_ ?_ | dsimp only | contradiction | split)

def Fp.setReason : Side → Nat
  | .module => 0x1000000000000
  | .endpoint => 0x2000000000000
theorem setReason_ev (sd : Side) (n : Nat) (r : Nat) (s : State) :
    Ev (Fp.setReason sd) s (setReason sd n r s) := by
  cases sd <;> (
    unfold setReason
    repeat' first
      | with_reducible apply Ev.refl | with_reducible assumption | exact rfl
      | with_reducible apply Ev.seq (wr_ev _ _ _ _ _ ?_) ?_ ?_ | dsimp only | contradiction | split)

def Fp.loadPreset : Side → Nat
  | .module => 0x40000000000000
  | .endpoint => 0x80000000000000
theorem loadPreset_ev (sd : Side) (n : Nat) (p : Nat) (s : State) :
    Ev (Fp.loadPreset sd) s (loadPreset sd n p s) := by
  cases sd <;> (
    unfold loadPreset
    repeat' first
      | with_reducible apply Ev.refl | with_reducible assumption | exact rfl
      | with_reducible apply Ev.seq (wr_ev _ _ _ _ _ ?_) ?_ ?_ | dsimp only | contradiction | split)

def Fp.loadInitPreset : Side → Nat
  | .module => 0x40000000000000
  | .endpoint => 0x80000000000000
theorem loadInitPreset_ev (sd : Side) (n : Nat) (s : State) :
    Ev (Fp.loadInitPreset sd) s (loadInitPreset sd n s) := by
  cases sd <;> (
    unfold loadInitPreset
    repeat' first
      | with_reducible apply Ev.refl | with_reducible assumption | exact rfl
      | with_reducible apply Ev.seq (loadPreset_ev ..) ?_ ?_ | dsimp only | contradiction | split)

def Fp.enterDetect : Side → Nat
  | .module => 0x100000000000000000000000000000000000000000000000000000000000000000000000000000000000000000000000000000000000000041000000000000
  | .endpoint => 0x200000000000000000000000000000000000000000000000000000000000000000000000000000000000000000000000000000000000000082000000000000
theorem enterDetect_ev (sd : Side) (n : Nat) (ignoreCache : Bool) (s : State) :
    Ev (Fp.enterDetect sd) s (enterDetect sd n ignoreCache s) := by
  cases sd <;> (
    unfold enterDetect
    repeat' first
      | with_reducible apply Ev.refl | with_reducible assumption | exact rfl
      | with_reducible apply Ev.seq (wrb_ev _ _ _ _ _ ?_) ?_ ?_ | with_reducible apply Ev.seq (onLane_ev ..) ?_ ?_
      | with_reducible apply Ev.seq (loadInitPreset_ev ..) ?_ ?_ | with_reducible apply Ev.seq (setLaneSt_ev ..) ?_ ?_
      | dsimp only | contradiction | split)

def Fp.enterOff : Side → Nat
  | .module => 0x100000000000000000000000000000000000000000000000000000000000000000000000000000000000000000000000000000000000000001000000000000
  | .endpoint => 0x200000000000000000000000000000000000000000000000000000000000000000000000000000000000000000000000000000000000000002000000000000
theorem enterOff_ev (sd : Side) (n : Nat) (s : State) :
    Ev (Fp.enterOff sd) s (enterOff sd n s) := by
  cases sd <;> (
    unfold enterOff
    repeat' first
      | with_reducible apply Ev.refl | with_reducible assumption | exact rfl
      | with_reducible apply Ev.seq (onLane_ev ..) ?_ ?_ | with_reducible apply Ev.seq (setLaneSt_ev ..) ?_ ?_ | dsimp only
      | contradiction | split)

def Fp.enterSleep : Side → Nat
  | .module => 0x100000000000000000000000000000000000000000000000000000000000000000000000000000000000000000000000000000000000000001000000000000
  | .endpoint => 0x200000000000000000000000000000000000000000000000000000000000000000000000000000000000000000000000000000000000000002000000000000
theorem enterSleep_ev (sd : Side) (n : Nat) (s : State) :
    Ev (Fp.enterSleep sd) s (enterSleep sd n s) := by
  cases sd <;> (
    unfold enterSleep
    repeat' first
      | with_reducible apply Ev.refl | with_reducible assumption | exact rfl
      | with_reducible apply Ev.seq (onLane_ev ..) ?_ ?_ | with_reducible apply Ev.seq (setLaneSt_ev ..) ?_ ?_ | dsimp only
      | contradiction | split)

def Fp.raiseLane : Side → Nat
  | .module => 0x200000000100000000000000000000000100000000000000000000000000000000000000000000000000000000000000000000000000000000000000000000000000000000000
  | .endpoint => 0x200000000000000000080000000000000000000000000000000000000000000000000000000000000000000000000000000000000000000000000000000000000000
theorem raiseLane_ev (sd : Side) (s : State) :
    Ev (Fp.raiseLane sd) s (raiseLane sd s) := by
  cases sd <;> (
    unfold raiseLane
    repeat' first
      | with_reducible apply Ev.refl | with_reducible assumption | exact rfl
      | with_reducible apply Ev.seq (raiseSource_ev ..) ?_ ?_
      | with_reducible apply Ev.seq (raiseVector_ev _ _ (by decide)) ?_ ?_ | dsimp only
      | with_reducible refine Ev.ofPair (by assumption) ?_ | contradiction | split)

def Fp.enterMiswired : Side → Nat
  | .module => 0x200000000100010000000000000000000100004005100000000000000000000000000000000000000000000000000000000000000000000000000000000000001000000000000
  | .endpoint => 0x200020000020000028880000000000000000000000000000000000000000000000000000000000000000000000000000000000000000000000000002000000000000
theorem enterMiswired_ev (sd : Side) (n : Nat) (reason : Nat) (s : State) :
    Ev (Fp.enterMiswired sd) s (enterMiswired sd n reason s) := by
  cases sd <;> (
    unfold enterMiswired
    repeat' first
      | with_reducible apply Ev.refl | with_reducible assumption | exact rfl
      | with_reducible apply Ev.seq (logEvent_ev ..) ?_ ?_ | with_reducible apply Ev.seq (raiseLane_ev ..) ?_ ?_
      | with_reducible apply Ev.seq (setLaneSt_ev ..) ?_ ?_ | with_reducible apply Ev.seq (setReason_ev ..) ?_ ?_
      | dsimp only | contradiction | split)

def Fp.remapSlice : Side → Nat
  | .module => 0x2200000000100014100000000000000000100004005100000000000000000000000000000000000000000000000000000000000000000000000000000000000041000400000000
  | .endpoint => 0x200028200020000028880000000000000000000000000000000000000000000000000000000000000000000000000000000000000000000000000082000000000000
theorem remapSlice_ev (sd : Side) (n : Nat) (spare : Nat) (s : State) :
    Ev (Fp.remapSlice sd) s (remapSlice sd n spare s) := by
  cases sd <;> (
    unfold remapSlice
    repeat' first
      | with_reducible apply Ev.refl | with_reducible assumption | exact rfl
      | with_reducible apply Ev.seq (wr_ev _ _ _ _ _ ?_) ?_ ?_ | with_reducible apply Ev.seq (onLane_ev ..) ?_ ?_
      | with_reducible apply Ev.seq (onUnit_ev _ _ _ ?_) (Sub.refl _) ?_
      | with_reducible apply Ev.seq (enterDetect_ev ..) ?_ ?_ | with_reducible apply Ev.seq (logEvent_ev ..) ?_ ?_
      | with_reducible apply Ev.seq (recordEntry_ev ..) ?_ ?_
      | (constructor <;> first | exact .inl rfl | exact .inr rfl | exact rfl | exact fun h => h | exact fun _ => rfl)
      | dsimp only | with_reducible refine Ev.ofPair (by assumption) ?_ | contradiction | split)

def Fp.enterFailed : Side → Nat
  | .module => 0x2200000000300014100000000000080000100004005100000000000000000000000000000000000000000000000000000000000000000000000000000000000041000400000000
  | .endpoint => 0x200028200020000028880000000000000000000000000000000000000000000000000000000000000000000000000000000000000000000000000082000000000000
theorem enterFailed_ev (sd : Side) (n : Nat) (s : State) :
    Ev (Fp.enterFailed sd) s (enterFailed sd n s) := by
  cases sd <;> (
    unfold enterFailed
    repeat' first
      | with_reducible apply Ev.refl | with_reducible assumption | exact rfl
      | with_reducible apply Ev.seq (logEvent_ev ..) ?_ ?_ | with_reducible apply Ev.seq (raiseLane_ev ..) ?_ ?_
      | with_reducible apply Ev.seq (remapSlice_ev ..) ?_ ?_ | with_reducible apply Ev.seq (setLaneSt_ev ..) ?_ ?_
      | with_reducible apply Ev.seq (setReason_ev ..) ?_ ?_ | dsimp only | with_reducible refine Ev.ofPair (by assumption) ?_
      | contradiction | split)

def Fp.failAttempt : Side → Nat
  | .module => 0x2200000000300014100000000000080000100004005100000000000000000000000000000000000000000000000000000000000000000000000000000000000041000400000000
  | .endpoint => 0x200028200020000028880000000000000000000000000000000000000000000000000000000000000000000000000000000000000000000000000082000000000000
theorem failAttempt_ev (sd : Side) (n : Nat) (ignoreCache : Bool) (s : State) :
    Ev (Fp.failAttempt sd) s (failAttempt sd n ignoreCache s) := by
  cases sd <;> (
    unfold failAttempt
    repeat' first
      | with_reducible apply Ev.refl | with_reducible assumption | exact rfl
      | with_reducible apply Ev.seq (wr_ev _ _ _ _ _ ?_) ?_ ?_ | with_reducible apply Ev.seq (enterDetect_ev ..) ?_ ?_
      | with_reducible apply Ev.seq (enterFailed_ev ..) ?_ ?_ | with_reducible apply Ev.ite ?_ ?_ | dsimp only
      | contradiction | split)

def Fp.serveRequest : Side → Nat
  | .module => 0x300000100000000000000000000000000000000000000000000000000000000000000000000000000000000000000000000000000000000000000041000000000000
  | .endpoint => 0x300000200000000000000000000000000000000000000000000000000000000000000000000000000000000000000000000000000000000000000082000000000000
theorem serveRequest_ev (sd : Side) (n : Nat) (req : BitVec 16) (tapset : BitVec 32) (training : Bool) (s : State) :
    Ev (Fp.serveRequest sd) s (serveRequest sd n req tapset training s) := by
  cases sd <;> (
    unfold serveRequest
    repeat' first
      | with_reducible apply Ev.refl | with_reducible assumption | exact rfl
      | with_reducible apply Ev.seq (wr_ev _ _ _ _ _ ?_) ?_ ?_ | with_reducible apply Ev.seq (wrb_ev _ _ _ _ _ ?_) ?_ ?_
      | with_reducible apply Ev.seq (onLane_ev ..) ?_ ?_ | with_reducible apply Ev.seq (answered_ev ..) ?_ ?_
      | with_reducible apply Ev.ite ?_ ?_ | dsimp only | contradiction | split)

def Fp.takeAssign : Nat := 0x200000000000000000080800000000000000000000000000000000000000000000000000000000000000000000000000000000000000000000000000000000000000
theorem takeAssign_ev (assign : Eid) (s : State) :
    Ev Fp.takeAssign s (takeAssign assign s) := by
  unfold takeAssign
  repeat' first
    | with_reducible apply Ev.refl | with_reducible assumption | exact rfl
    | with_reducible apply Ev.seq (wr_ev _ _ _ _ _ ?_) ?_ ?_ | with_reducible apply Ev.seq (wrb_ev _ _ _ _ _ ?_) ?_ ?_
    | with_reducible apply Ev.seq (raiseVector_ev _ _ (by decide)) ?_ ?_ | with_reducible apply Ev.ite ?_ ?_ | dsimp only
    | split

def Fp.identityMatched : Side → Nat
  | .module => 0x100000000000000000000000000000000000000000000000000000000000000000000000000000000000000000000000000000000000000041000000000000
  | .endpoint => 0x200000000000000000000000000000000000000000000000000000000000000000000000000000000000000000000000000000000000000082000000000000
theorem identityMatched_ev (sd : Side) (n : Nat) (s : State) :
    Ev (Fp.identityMatched sd) s (identityMatched sd n s) := by
  cases sd <;> (
    unfold identityMatched
    repeat' first
      | with_reducible apply Ev.refl | with_reducible assumption | exact rfl
      | with_reducible apply Ev.seq (wrb_ev _ _ _ _ _ ?_) ?_ ?_ | with_reducible apply Ev.seq (onLane_ev ..) ?_ ?_
      | with_reducible apply Ev.seq (loadInitPreset_ev ..) ?_ ?_ | with_reducible apply Ev.seq (setLaneSt_ev ..) ?_ ?_
      | with_reducible apply Ev.seq (setReason_ev ..) ?_ ?_ | with_reducible apply Ev.ite ?_ ?_ | dsimp only
      | with_reducible refine Ev.ofPair (by assumption) ?_ | contradiction | split)

def Fp.compareIdentity : Side → Nat
  | .module => 0x200000000100010100000000000000000100004005100000000000000000000000000000000000000000000000000000000000000000000000000000000000041000000000000
  | .endpoint => 0x200020200020000028880800000000000000000000000000000000000000000000000000000000000000000000000000000000000000000000000082000000000000
theorem compareIdentity_ev (sd : Side) (n : Nat) (s : State) :
    Ev (Fp.compareIdentity sd) s (compareIdentity sd n s) := by
  cases sd <;> (
    unfold compareIdentity
    repeat' first
      | with_reducible apply Ev.refl | with_reducible assumption | exact rfl
      | with_reducible apply Ev.seq (enterMiswired_ev ..) ?_ ?_ | with_reducible apply Ev.seq (identityMatched_ev ..) ?_ ?_
      | with_reducible apply Ev.seq (logEvent_ev ..) ?_ ?_ | with_reducible apply Ev.seq (setReason_ev ..) ?_ ?_
      | with_reducible apply Ev.seq (takeAssign_ev ..) ?_ ?_ | with_reducible apply Ev.ite ?_ ?_ | dsimp only
      | with_reducible refine Ev.ofPair (by assumption) ?_ | contradiction | split)

end Sys2Proof.Machine
end

