-- ==== Sys2Proof/Laws/EvLinkOps.lean ====
section
/-! SUPPORT. What the operations of Machine/LinkOps.lean may touch: one law for each, cited in place of unfolding it. The numbers are
sets of parts (Laws/Frame.lean, `Part.idx`). -/

set_option exponentiation.threshold 1024
set_option linter.unreachableTactic false
set_option linter.unusedTactic false

namespace Sys2Proof.Machine

def Fp.settleState : Side → Nat
  | .module => 0x10000000000000000
  | .endpoint => 0x20000000000000000
theorem settleState_ev (sd : Side) (p : Nat) (s : State) :
    Ev (Fp.settleState sd) s (settleState sd p s) := by
  cases sd <;> (
    unfold settleState
    repeat' first
      | with_reducible apply Ev.refl | with_reducible assumption | exact rfl
      | with_reducible apply Ev.seq (wr_ev _ _ _ _ _ ?_) ?_ ?_ | with_reducible apply Ev.ite ?_ ?_ | dsimp only
      | contradiction | split)

def Fp.sendFlit : Side → Nat
  | .module => 0x100000400000000000000000000000000000000000000000000000000000000000000000000000000000000000000000000000000000000000000000000000000000
  | .endpoint => 0x200000800000000000000000000000000000000000000000000000000000000000000000000000000000000000000000000000000000000000000000000000000000
theorem sendFlit_ev (sd : Side) (p : Nat) (type : BitVec 8) (seq : BitVec 12) (slots : List Byte) (s : State) :
    Ev (Fp.sendFlit sd) s (sendFlit sd p type seq slots s) := by
  cases sd <;> (
    unfold sendFlit
    repeat' first
      | with_reducible apply Ev.refl | with_reducible assumption | exact rfl
      | with_reducible apply Ev.seq (onPort_ev ..) ?_ ?_ | with_reducible apply Ev.seq (emit_ev ..) ?_ ?_
      | with_reducible apply Ev.ite ?_ ?_ | dsimp only | contradiction | split)

def Fp.sendSequenced : Side → Nat
  | .module => 0x100000400000000000000000000000000000000000000000000000000000000000000000000000000000000000000000000000000000000000000000000000000000
  | .endpoint => 0x200000800000000000000000000000000000000000000000000000000000000000000000000000000000000000000000000000000000000000000000000000000000
theorem sendSequenced_ev (sd : Side) (p : Nat) (type : BitVec 8) (slots : List Byte) (s : State) :
    Ev (Fp.sendSequenced sd) s (sendSequenced sd p type slots s) := by
  cases sd <;> (
    unfold sendSequenced
    repeat' first
      | with_reducible apply Ev.refl | with_reducible assumption | exact rfl
      | with_reducible apply Ev.seq (onPort_ev ..) ?_ ?_ | with_reducible apply Ev.seq (sendFlit_ev ..) ?_ ?_ | dsimp only
      | contradiction | split)

def Fp.sendCtrl : Side → Nat
  | .module => 0x100000400000000000000000000000000000000000000000000000000000000000000000000000000000000000000000000000000000000000000000000000000000
  | .endpoint => 0x200000800000000000000000000000000000000000000000000000000000000000000000000000000000000000000000000000000000000000000000000000000000
theorem sendCtrl_ev (sd : Side) (p : Nat) (code : Nat) (mask : Nat) (more : List Byte) (s : State) :
    Ev (Fp.sendCtrl sd) s (sendCtrl sd p code mask more s) := by
  cases sd <;> (
    unfold sendCtrl
    repeat' first
      | with_reducible apply Ev.refl | with_reducible assumption | exact rfl
      | with_reducible apply Ev.seq (sendSequenced_ev ..) ?_ ?_ | dsimp only | contradiction | split)

def Fp.resyncGroup : Side → Nat
  | .module => 0x100000400000000000000000000000000000000000000000000000000000000000000000000000000000000000000000000000000000000000000000000000000000
  | .endpoint => 0x200000800000000000000000000000000000000000000000000000000000000000000000000000000000000000000000000000000000000000000000000000000000
theorem resyncGroup_ev (sd : Side) (p : Nat) (seq : BitVec 12) (s : State) :
    Ev (Fp.resyncGroup sd) s (resyncGroup sd p seq s) := by
  cases sd <;> (
    unfold resyncGroup
    repeat' first
      | with_reducible apply Ev.refl | with_reducible assumption | exact rfl
      | with_reducible apply Ev.seq (onPort_ev ..) ?_ ?_ | with_reducible apply Ev.seq (emit_ev ..) ?_ ?_
      | with_reducible apply Ev.foldl (fun _ _ => ?_) ?_ | with_reducible apply Ev.foldlSnd (fun _ _ => ?_) ?_ | dsimp only
      | contradiction | split)

def Fp.replay : Side → Nat
  | .module => 0x200000000100010400000000000000000100004005100000000001000000000000000000000000000000000000000000000000000000000000000000000400000000000000000
  | .endpoint => 0x200020800020000028880000000000000000000000000000000000000000000000000000000000000000000000000000000000000000000000800000000000000000
theorem replay_ev (sd : Side) (p : Nat) (seq : BitVec 12) (s : State) :
    Ev (Fp.replay sd) s (replay sd p seq s) := by
  cases sd <;> (
    unfold replay
    repeat' first
      | with_reducible apply Ev.refl | with_reducible assumption | exact rfl
      | with_reducible apply Ev.seq (onPort_ev ..) ?_ ?_ | with_reducible apply Ev.seq (bump_ev _ _ _ _ ?_) ?_ ?_
      | with_reducible apply Ev.seq (resyncGroup_ev ..) ?_ ?_ | with_reducible apply Ev.seq (sendFlit_ev ..) ?_ ?_
      | with_reducible apply Ev.ite ?_ ?_ | with_reducible apply Ev.foldl (fun _ _ => ?_) ?_
      | with_reducible apply Ev.foldlSnd (fun _ _ => ?_) ?_ | dsimp only | contradiction | split)

def Fp.takeAck : Side → Nat
  | .module => 0x400000000000000000000000000000000000000000000000000000000000000000000000000000000000000000000000000000000000000000000000000000
  | .endpoint => 0x800000000000000000000000000000000000000000000000000000000000000000000000000000000000000000000000000000000000000000000000000000
theorem takeAck_ev (sd : Side) (p : Nat) (a : BitVec 12) (s : State) :
    Ev (Fp.takeAck sd) s (takeAck sd p a s) := by
  cases sd <;> (
    unfold takeAck
    repeat' first
      | with_reducible apply Ev.refl | with_reducible assumption | exact rfl
      | with_reducible apply Ev.seq (onPort_ev ..) ?_ ?_ | with_reducible apply Ev.ite ?_ ?_ | dsimp only | contradiction
      | split)

def Fp.failFlit : Side → Nat
  | .module => 0x200000000100010400000000000000000100004005100000000001000000000000000000000000000000000000000000000000000000000000000000000100000000000000000
  | .endpoint => 0x200020800020000028880000000000000000000000000000000000000000000000000000000000000000000000000000000000000000000000200000000000000000
theorem failFlit_ev (sd : Side) (p : Nat) (lane : Nat) (s : State) :
    Ev (Fp.failFlit sd) s (failFlit sd p lane s) := by
  cases sd <;> (
    unfold failFlit
    repeat' first
      | with_reducible apply Ev.refl | with_reducible assumption | exact rfl
      | with_reducible apply Ev.seq (onPort_ev ..) ?_ ?_ | with_reducible apply Ev.seq (bump_ev _ _ _ _ ?_) ?_ ?_
      | with_reducible apply Ev.seq (sendFlit_ev ..) ?_ ?_ | with_reducible apply Ev.ite ?_ ?_ | dsimp only | contradiction
      | split)

def Fp.resumeAt : Side → Nat
  | .module => 0x400000000000000000000000000000000000000000000000000000000000000000000000000000000000000000000000000000000000000000000000000000
  | .endpoint => 0x800000000000000000000000000000000000000000000000000000000000000000000000000000000000000000000000000000000000000000000000000000
theorem resumeAt_ev (sd : Side) (p : Nat) (seq : BitVec 12) (s : State) :
    Ev (Fp.resumeAt sd) s (resumeAt sd p seq s) := by
  cases sd <;> (
    unfold resumeAt
    repeat' first
      | with_reducible apply Ev.refl | with_reducible assumption | exact rfl
      | with_reducible apply Ev.seq (onPort_ev ..) ?_ ?_ | with_reducible apply Ev.ite ?_ ?_ | dsimp only | contradiction
      | split)

def Fp.freeSlots : Side → Nat
  | .module => 0x400000000000000000000000000000000000000000000000000000000000000000000000000000000000000000000000000000000000000000000000000000
  | .endpoint => 0x800000000000000000000000000000000000000000000000000000000000000000000000000000000000000000000000000000000000000000000000000000
theorem freeSlots_ev (sd : Side) (p : Nat) (pool : Nat) (n : Nat) (s : State) :
    Ev (Fp.freeSlots sd) s (freeSlots sd p pool n s) := by
  cases sd <;> (
    unfold freeSlots
    repeat' first
      | with_reducible apply Ev.refl | with_reducible assumption | exact rfl
      | with_reducible apply Ev.seq (onPort_ev ..) ?_ ?_ | with_reducible apply Ev.ite ?_ ?_ | dsimp only | contradiction
      | split)

def Fp.portSend : Side → Nat
  | .module => 0x100000000000000400000000000000000000000000000000000000000000000000000000000000000000000000000000000000000000000000000000000000000000000000000
  | .endpoint => 0x100000000000000800000000000000000000000000000000000000000000000000000000000000000000000000000000000000000000000000000000000000000000000000000
theorem portSend_ev (sd : Side) (p : Nat) (pkt : Packet) (s : State) :
    Ev (Fp.portSend sd) s (portSend sd p pkt s) := by
  cases sd <;> (
    unfold portSend
    repeat' first
      | with_reducible apply Ev.refl | with_reducible assumption | exact rfl
      | with_reducible apply Ev.seq (onPort_ev ..) ?_ ?_ | with_reducible apply Ev.seq (onM_ev _ _ ?_) (Sub.refl _) ?_
      | (constructor <;> first | exact .inl rfl | exact .inr rfl | exact rfl | exact fun h => h | exact fun _ => rfl)
      | dsimp only | contradiction | split)

def Fp.consumeArrived : Side → Nat
  | .module => 0x400000000000000000000000000000000000000000000000000000000000000000000000000000000000000000000000000000000000000000000000000000
  | .endpoint => 0x800000000000000000000000000000000000000000000000000000000000000000000000000000000000000000000000000000000000000000000000000000
theorem consumeArrived_ev (sd : Side) (p : Nat) (pkt : Packet) (s : State) :
    Ev (Fp.consumeArrived sd) s (consumeArrived sd p pkt s) := by
  cases sd <;> (
    unfold consumeArrived
    repeat' first
      | with_reducible apply Ev.refl | with_reducible assumption | exact rfl
      | with_reducible apply Ev.seq (onPort_ev ..) ?_ ?_ | with_reducible apply Ev.seq (freeSlots_ev ..) ?_ ?_
      | with_reducible apply Ev.ite ?_ ?_ | dsimp only | contradiction | split)

def Fp.consumeInbox : Side → Nat
  | .module => 0x100000000000000000000000000000000000000000000000000000000000000000000000000000000000000000000000000000000000000000000000000000000
  | .endpoint => 0x200000000000000000000000000000000000000000000000000000000000000000000000000000000000000000000000000000000000000000000000000000000
theorem consumeInbox_ev (sd : Side) (pkt : Packet) (s : State) :
    Ev (Fp.consumeInbox sd) s (consumeInbox sd pkt s) := by
  cases sd <;> (
    unfold consumeInbox
    repeat' first
      | with_reducible apply Ev.refl | with_reducible assumption | exact rfl
      | with_reducible apply Ev.seq (onUnit_ev _ _ _ ?_) (Sub.refl _) ?_
      | (constructor <;> first | exact .inl rfl | exact .inr rfl | exact rfl | exact fun h => h | exact fun _ => rfl)
      | dsimp only | contradiction | split)

def Fp.maybeUp : Side → Nat
  | .module => 0x10000000000000000
  | .endpoint => 0x20000000000000000
theorem maybeUp_ev (sd : Side) (p : Nat) (s : State) :
    Ev (Fp.maybeUp sd) s (maybeUp sd p s) := by
  cases sd <;> (
    unfold maybeUp
    repeat' first
      | with_reducible apply Ev.refl | with_reducible assumption | exact rfl
      | with_reducible apply Ev.seq (settleState_ev ..) ?_ ?_ | with_reducible apply Ev.ite ?_ ?_ | dsimp only
      | contradiction | split)

def Fp.portDownLink : Side → Nat
  | .module => 0x200000000100010500000000000000000100004005100000000001000000000000000000000000000000000000000000000000000000000000000000010050041000000000000
  | .endpoint => 0x200020a000200000288800000000000000000000000000000000000000000000000000000000000000000000000000000000000000000000200a0082000000000000
theorem portDownLink_ev (sd : Side) (p : Nat) (reason : Nat) (s : State) :
    Ev (Fp.portDownLink sd) s (portDownLink sd p reason s) := by
  cases sd <;> (
    unfold portDownLink
    repeat' first
      | with_reducible apply Ev.refl | with_reducible assumption | exact rfl
      | with_reducible apply Ev.seq (wr_ev _ _ _ _ _ ?_) ?_ ?_ | with_reducible apply Ev.seq (onPort_ev ..) ?_ ?_
      | with_reducible apply Ev.seq (bumpBy_ev _ _ _ _ _ ?_) ?_ ?_ | with_reducible apply Ev.seq (enterDetect_ev ..) ?_ ?_
      | with_reducible apply Ev.seq (logEvent_ev ..) ?_ ?_ | with_reducible apply Ev.seq (raiseLane_ev ..) ?_ ?_
      | with_reducible apply Ev.foldl (fun _ _ => ?_) ?_ | with_reducible apply Ev.foldlSnd (fun _ _ => ?_) ?_ | dsimp only
      | contradiction | split)

def Fp.dropLane : Side → Nat
  | .module => 0x200000000100010400000000000000000100004005100000000001000000000000000000000000000000000000000000000000000000000000000000040010000000000000000
  | .endpoint => 0x200020800020000028880000000000000000000000000000000000000000000000000000000000000000000000000000000000000000000080020000000000000000
theorem dropLane_ev (sd : Side) (p : Nat) (n : Nat) (announce : Bool) (s : State) :
    Ev (Fp.dropLane sd) s (dropLane sd p n announce s) := by
  cases sd <;> (
    unfold dropLane
    repeat' first
      | with_reducible apply Ev.refl | with_reducible assumption | exact rfl
      | with_reducible apply Ev.seq (wr_ev _ _ _ _ _ ?_) ?_ ?_ | with_reducible apply Ev.seq (onPort_ev ..) ?_ ?_
      | with_reducible apply Ev.seq (bump_ev _ _ _ _ ?_) ?_ ?_ | with_reducible apply Ev.seq (sendCtrl_ev ..) ?_ ?_
      | with_reducible apply Ev.ite ?_ ?_ | dsimp only | contradiction | split)

end Sys2Proof.Machine
end

