-- ==== Sys2Proof/Laws/EvRattleOps.lean ====
section
/-! SUPPORT. What the operations of Machine/RattleOps.lean may touch: one law for each, cited in place of unfolding it. The numbers are
sets of parts (Laws/Frame.lean, `Part.idx`). -/

set_option exponentiation.threshold 1024
set_option linter.unreachableTactic false
set_option linter.unusedTactic false

namespace Sys2Proof.Machine

def Fp.rattleDraws : Nat := 0x400000000000000000000000000000000000000000000000000000000000000000000000000000000000000000000000000000000000000000000000000000000000000000000
theorem rattleDraws_ev (i : Nat) (s : State) :
    Ev Fp.rattleDraws s (rattleDraws i s).2 := by
  unfold rattleDraws
  repeat' first
    | with_reducible apply Ev.refl | with_reducible assumption | exact rfl
    | with_reducible apply Ev.seq (onM_ev _ _ ?_) (Sub.refl _) ?_
    | (constructor <;> first | exact .inl rfl | exact .inr rfl | exact rfl | exact fun h => h | exact fun _ => rfl)
    | dsimp only | split

def Fp.rattleCount : Nat := 0x600000000100010000000000000000000100044005100000000000000000000000000000000000000000000000000000000000000000000000000000000000000000000000000
theorem rattleCount_ev (i : Nat) (s : State) :
    Ev Fp.rattleCount s (rattleCount i s) := by
  unfold rattleCount
  repeat' first
    | with_reducible apply Ev.refl | with_reducible assumption | exact rfl
    | with_reducible apply Ev.seq (wrb_ev _ _ _ _ _ ?_) ?_ ?_ | with_reducible apply Ev.seq (onM_ev _ _ ?_) (Sub.refl _) ?_
    | with_reducible apply Ev.seq (saturate_ev _ _ _ _ _ ?_) ?_ ?_ | with_reducible apply Ev.seq (logModule_ev ..) ?_ ?_
    | with_reducible apply Ev.ite ?_ ?_
    | (constructor <;> first | exact .inl rfl | exact .inr rfl | exact rfl | exact fun h => h | exact fun _ => rfl)
    | dsimp only | with_reducible refine Ev.ofPair (by assumption) ?_ | split

def Fp.rattleFirst : Nat := 0x600000000100010000000000000000000100044005100000000000000000000000000000000000000000000000000000000000000000000000000000000000000000000000000
theorem rattleFirst_ev (l : List Nat) (s : State) : Ev Fp.rattleFirst s (rattleFirst l s).2 := by
  induction l generalizing s with
  | nil => exact Ev.refl _
  | cons i l ih =>
    unfold rattleFirst
    repeat' first
      | with_reducible apply Ev.refl | with_reducible assumption | with_reducible apply Ev.seq (ih ..) (Sub.refl _) ?_
      | exact rfl | with_reducible apply Ev.seq (rattleCount_ev ..) ?_ ?_
      | with_reducible apply Ev.seq (rattleDraws_ev ..) ?_ ?_ | dsimp only
      | with_reducible refine Ev.ofPair (by assumption) ?_ | split

def Fp.rattleAct : Nat := 0x600000000100010000000000000000000100044005100000000000000000000000000000000000000000000000000000000000000000000000000000000000000000000000000
theorem rattleAct_ev (kind : Nat) (targetType : Nat) (target : Nat) (tc : Option Nat) (s : State) :
    Ev Fp.rattleAct s (rattleAct kind targetType target tc s).2 := by
  unfold rattleAct
  repeat' first
    | with_reducible apply Ev.refl | with_reducible assumption | exact rfl
    | with_reducible apply Ev.seq (rattleFirst_ev ..) ?_ ?_ | dsimp only | split

end Sys2Proof.Machine
end

