-- ==== Sys2Proof/Laws/EvSwitchOps.lean ====
section
/-! SUPPORT. What the operations of Machine/SwitchOps.lean may touch: one law for each, cited in place of unfolding it. The numbers are
sets of parts (Laws/Frame.lean, `Part.idx`). -/

set_option exponentiation.threshold 1024
set_option linter.unreachableTactic false
set_option linter.unusedTactic false

namespace Sys2Proof.Machine

def Fp.putEgress : Nat := 0x100000000000000400000000000000000000000000000000000000000000000000000000000000000000000000000000000000000000000000000000000000000000000000000
theorem putEgress_ev (p : Nat) (pkt : Packet) (shared : Bool) (transit : Bool) (entering : Bool) (s : State) :
    Ev Fp.putEgress s (putEgress p pkt shared transit entering s) := by
  unfold putEgress
  repeat' first
    | with_reducible apply Ev.refl | with_reducible assumption | exact rfl
    | with_reducible apply Ev.seq (onPort_ev ..) ?_ ?_ | with_reducible apply Ev.seq (onM_ev _ _ ?_) (Sub.refl _) ?_
    | (constructor <;> first | exact .inl rfl | exact .inr rfl | exact rfl | exact fun h => h | exact fun _ => rfl)
    | dsimp only | split

def Fp.pushOne : Nat := 0x200000000100010400000000000000000100004005100000000001000000000000000000000000000000000000000000000000000000000000000040000000000000000000000
theorem pushOne_ev (p : Nat) (e : EgressEntry) (s : State) :
    Ev Fp.pushOne s (pushOne p e s) := by
  unfold pushOne
  repeat' first
    | with_reducible apply Ev.refl | with_reducible assumption | exact rfl
    | with_reducible apply Ev.seq (onPort_ev ..) ?_ ?_ | with_reducible apply Ev.seq (bump_ev _ _ _ _ ?_) ?_ ?_
    | dsimp only | split

def Fp.pushUntil : Nat := 0x200000000100010400000000000000000100004005100000000001000000000000000000000000000000000000000000000000000000000000000040000000000000000000000
theorem pushUntil_ev (fits : State → Bool) (g n : Nat) (s : State) : Ev Fp.pushUntil s (pushUntil fits g n s).2 := by
  induction n generalizing s with
  | zero => exact Ev.refl _
  | succ n ih =>
    unfold pushUntil
    repeat' first
      | with_reducible apply Ev.refl | with_reducible assumption | with_reducible apply Ev.seq (ih ..) (Sub.refl _) ?_
      | exact rfl | with_reducible apply Ev.seq (pushOne_ev ..) ?_ ?_ | with_reducible apply Ev.ite ?_ ?_ | dsimp only
      | with_reducible refine Ev.ofPair (by assumption) ?_ | split

def Fp.chooseMember : Nat := 0x100000000000000000000000000000000000000000000000000000000000000000000000000000000000000000000000000000000000000000000000000000000000000000000
theorem chooseMember_ev (g : Nat) (pool : Nat) (s : State) :
    Ev Fp.chooseMember s (chooseMember g pool s).2 := by
  unfold chooseMember
  repeat' first
    | with_reducible apply Ev.refl | with_reducible assumption | exact rfl
    | with_reducible apply Ev.seq (onM_ev _ _ ?_) (Sub.refl _) ?_ | with_reducible apply Ev.foldl (fun _ _ => ?_) ?_
    | with_reducible apply Ev.foldlSnd (fun _ _ => ?_) ?_
    | (constructor <;> first | exact .inl rfl | exact .inr rfl | exact rfl | exact fun h => h | exact fun _ => rfl)
    | dsimp only | with_reducible refine Ev.ofPair (by assumption) ?_ | split

def Fp.viaGroup : Nat := 0x100000000000000000000000000000000000000000000000000000000000000000000000000000000000000000000000000000000000000000000000000000000000000000000
theorem viaGroup_ev (w : Word) (pool : Nat) (s : State) :
    Ev Fp.viaGroup s (viaGroup w pool s).2 := by
  unfold viaGroup
  repeat' first
    | with_reducible apply Ev.refl | with_reducible assumption | exact rfl
    | with_reducible apply Ev.seq (chooseMember_ev ..) ?_ ?_ | dsimp only
    | with_reducible refine Ev.ofPair (by assumption) ?_ | split

def Fp.followEntry : Nat := 0x100000000000000000000000000000000000000000000000000000000000000000000000000000000000000000000000000000000000000000000000000000000000000000000
theorem followEntry_ev (w : Word) (pool : Nat) (arrival : Nat) (s : State) :
    Ev Fp.followEntry s (followEntry w pool arrival s).2 := by
  unfold followEntry
  repeat' first
    | with_reducible apply Ev.refl | with_reducible assumption | exact rfl
    | with_reducible apply Ev.seq (viaGroup_ev ..) ?_ ?_ | with_reducible apply Ev.ite ?_ ?_ | dsimp only
    | with_reducible refine Ev.ofPair (by assumption) ?_ | split

def Fp.lookupRoute : Nat := 0x100000000000000000000000000000000000000000000000000000000000000000000000000000000000000000000000000000000000000000000000000000000000000000000
theorem lookupRoute_ev (pkt : Packet) (arrival : Nat) (s : State) :
    Ev Fp.lookupRoute s (lookupRoute pkt arrival s).2 := by
  unfold lookupRoute
  repeat' first
    | with_reducible apply Ev.refl | with_reducible assumption | exact rfl
    | with_reducible apply Ev.seq (followEntry_ev ..) ?_ ?_ | with_reducible apply Ev.ite ?_ ?_ | dsimp only
    | with_reducible refine Ev.ofPair (by assumption) ?_ | split

def Fp.sendData : Side → Nat
  | .module => 0x600000000100010400000000000000000100044005100000000000000000000000000000000000000000000000000000000000000000000000000000000000000000000000000
  | .endpoint => 0x200000800000000000000000000000000000000000000000000000000000000000000000000000000000000000000000000000000000000000000000000000000000
theorem sendData_ev (sd : Side) (p : Nat) (type : Nat) (slots : List Byte) (s : State) :
    Ev (Fp.sendData sd) s (sendData sd p type slots s) := by
  cases sd <;> (
    unfold sendData
    repeat' first
      | with_reducible apply Ev.refl | with_reducible assumption | exact rfl
      | with_reducible apply Ev.seq (onUnit_ev _ _ _ ?_) (Sub.refl _) ?_
      | with_reducible apply Ev.seq (rattleAct_ev ..) ?_ ?_ | with_reducible apply Ev.seq (sendSequenced_ev ..) ?_ ?_
      | (constructor <;> first | exact .inl rfl | exact .inr rfl | exact rfl | exact fun h => h | exact fun _ => rfl)
      | dsimp only | with_reducible refine Ev.ofPair (by assumption) ?_ | contradiction | split)

def Fp.startPacket : Side → Nat
  | .module => 0x600000000100010400000000000000000100044005100000000000000000000000000000000000000000000000000000000000000000000000000000000000000000000000000
  | .endpoint => 0x200000800000000000000000000000000000000000000000000000000000000000000000000000000000000000000000000000000000000000000000000000000000
theorem startPacket_ev (sd : Side) (p : Nat) (pkt : Packet) (s : State) :
    Ev (Fp.startPacket sd) s (startPacket sd p pkt s) := by
  cases sd <;> (
    unfold startPacket
    repeat' first
      | with_reducible apply Ev.refl | with_reducible assumption | exact rfl
      | with_reducible apply Ev.seq (onPort_ev ..) ?_ ?_ | with_reducible apply Ev.seq (sendData_ev ..) ?_ ?_
      | with_reducible apply Ev.foldl (fun _ _ => ?_) ?_ | with_reducible apply Ev.foldlSnd (fun _ _ => ?_) ?_ | dsimp only
      | contradiction | split)

def Fp.mcastCopy : Nat := 0x700000000100010400000000000000000100044005100000000000000000000000000000000000000000000000000000000000000000000000000000000000000000000000000
theorem mcastCopy_ev (id : Nat) (pkt : Packet) (p : Nat) (s : State) :
    Ev Fp.mcastCopy s (mcastCopy id pkt p s).2 := by
  unfold mcastCopy
  repeat' first
    | with_reducible apply Ev.refl | with_reducible assumption | exact rfl
    | with_reducible apply Ev.seq (onPort_ev ..) ?_ ?_ | with_reducible apply Ev.seq (onM_ev _ _ ?_) (Sub.refl _) ?_
    | with_reducible apply Ev.seq (startPacket_ev ..) ?_ ?_ | with_reducible apply Ev.ite ?_ ?_
    | (constructor <;> first | exact .inl rfl | exact .inr rfl | exact rfl | exact fun h => h | exact fun _ => rfl)
    | dsimp only | split

def Fp.mcastCopies : Nat := 0x700000000100010400000000000000000100044005100000000000000000000000000000000000000000000000000000000000000000000000000000000000000000000000000
theorem mcastCopies_ev (id : Nat) (pkt : Packet) (l : List Nat) (s : State) : Ev Fp.mcastCopies s (mcastCopies id pkt l s).2 := by
  induction l generalizing s with
  | nil => exact Ev.refl _
  | cons p l ih =>
    unfold mcastCopies
    repeat' first
      | with_reducible apply Ev.refl | with_reducible assumption | with_reducible apply Ev.seq (ih ..) (Sub.refl _) ?_
      | exact rfl | with_reducible apply Ev.seq (mcastCopy_ev ..) ?_ ?_ | with_reducible apply Ev.ite ?_ ?_ | dsimp only
      | split

def Fp.mcastStore : Nat := 0x700000000100010400000000000000000100044005100000000000000000000000000000000000000000000000000000000000000000000000000000000000000000000000000
theorem mcastStore_ev (g : Nat) (pkt : Packet) (ports : List Nat) (s : State) :
    Ev Fp.mcastStore s (mcastStore g pkt ports s) := by
  unfold mcastStore
  repeat' first
    | with_reducible apply Ev.refl | with_reducible assumption | exact rfl
    | with_reducible apply Ev.seq (onM_ev _ _ ?_) (Sub.refl _) ?_ | with_reducible apply Ev.seq (mcastCopies_ev ..) ?_ ?_
    | with_reducible apply Ev.ite ?_ ?_
    | (constructor <;> first | exact .inl rfl | exact .inr rfl | exact rfl | exact fun h => h | exact fun _ => rfl)
    | dsimp only | split

def Fp.storeLeft : Nat := 0x100000000000000000000000000000000000000000000000000000000000000000000000000000000000000000000000000000000000000000000000000000000000000000000
theorem storeLeft_ev (id : Nat) (p : Nat) (s : State) :
    Ev Fp.storeLeft s (storeLeft id p s) := by
  unfold storeLeft
  repeat' first
    | with_reducible apply Ev.refl | with_reducible assumption | exact rfl
    | with_reducible apply Ev.seq (onM_ev _ _ ?_) (Sub.refl _) ?_ | with_reducible apply Ev.ite ?_ ?_
    | (constructor <;> first | exact .inl rfl | exact .inr rfl | exact rfl | exact fun h => h | exact fun _ => rfl)
    | dsimp only | split

def Fp.addWaiting : Nat := 0x100000000000000000000000000000000000000000000000000000000000000000000000000000000000000000000000000000000000000000000000000000000000000000000
theorem addWaiting_ev (w : WaitEntry) (s : State) :
    Ev Fp.addWaiting s (addWaiting w s) := by
  unfold addWaiting
  repeat' first
    | with_reducible apply Ev.refl | with_reducible assumption | exact rfl
    | with_reducible apply Ev.seq (onM_ev _ _ ?_) (Sub.refl _) ?_
    | (constructor <;> first | exact .inl rfl | exact .inr rfl | exact rfl | exact fun h => h | exact fun _ => rfl)
    | dsimp only | split

def Fp.toInbox : Side → Nat
  | .module => 0x100000000000000000000000000000000000000000000000000000000000000000000000000000000000000000000000000000000000000000000000000000000
  | .endpoint => 0x200000000000000000000000000000000000000000000000000000000000000000000000000000000000000000000000000000000000000000000000000000000
theorem toInbox_ev (sd : Side) (p : Nat) (pkt : Packet) (s : State) :
    Ev (Fp.toInbox sd) s (toInbox sd p pkt s) := by
  cases sd <;> (
    unfold toInbox
    repeat' first
      | with_reducible apply Ev.refl | with_reducible assumption | exact rfl
      | with_reducible apply Ev.seq (onUnit_ev _ _ _ ?_) (Sub.refl _) ?_
      | (constructor <;> first | exact .inl rfl | exact .inr rfl | exact rfl | exact fun h => h | exact fun _ => rfl)
      | dsimp only | contradiction | split)

def Fp.countUnreachable : Nat := 0x200000000100010000000000000000000100004005100000000001000000000000000000000000000000000000000000000000000000000000000004000000000000000000000
theorem countUnreachable_ev (arrival : Nat) (pkt : Packet) (s : State) :
    Ev Fp.countUnreachable s (countUnreachable arrival pkt s) := by
  unfold countUnreachable
  repeat' first
    | with_reducible apply Ev.refl | with_reducible assumption | exact rfl
    | with_reducible apply Ev.seq (bump_ev _ _ _ _ ?_) ?_ ?_ | with_reducible apply Ev.seq (logModule_ev ..) ?_ ?_
    | dsimp only | split

def Fp.putOrWait : Nat := 0x100000000000000400000000000000000000000000000000000000000000000000000000000000000000000000000000000000000000000000000000000000000000000000000
theorem putOrWait_ev (p : Nat) (pkt : Packet) (arrival : Nat) (held : Bool) (transit : Bool) (entering : Bool) (s : State) :
    Ev Fp.putOrWait s (putOrWait p pkt arrival held transit entering s) := by
  unfold putOrWait
  repeat' first
    | with_reducible apply Ev.refl | with_reducible assumption | exact rfl
    | with_reducible apply Ev.seq (addWaiting_ev ..) ?_ ?_ | with_reducible apply Ev.seq (putEgress_ev ..) ?_ ?_
    | dsimp only | with_reducible refine Ev.ofPair (by assumption) ?_ | split

def Fp.sendModule : Nat := 0x700000000100110400000000000000000100044005100000000001000000000000000000000000000000000000000000000000000000000000000014000000000000000000000
theorem sendModule_ev (pkt : Packet) (s : State) :
    Ev Fp.sendModule s (sendModule pkt s) := by
  unfold sendModule
  repeat' first
    | with_reducible apply Ev.refl | with_reducible assumption | exact rfl
    | with_reducible apply Ev.seq (bump_ev _ _ _ _ ?_) ?_ ?_ | with_reducible apply Ev.seq (addWaiting_ev ..) ?_ ?_
    | with_reducible apply Ev.seq (countUnreachable_ev ..) ?_ ?_ | with_reducible apply Ev.seq (lookupRoute_ev ..) ?_ ?_
    | with_reducible apply Ev.seq (mcastStore_ev ..) ?_ ?_ | with_reducible apply Ev.seq (putOrWait_ev ..) ?_ ?_
    | with_reducible apply Ev.seq (toInbox_ev ..) ?_ ?_ | with_reducible apply Ev.ite ?_ ?_ | dsimp only
    | with_reducible refine Ev.ofPair (by assumption) ?_ | split

def Fp.proxyRefuse : Nat := 0x700000000100110400000000000000000100044005100000000001000000000000000000000000000000000000000000000000000000000000000014000000000000000000000
theorem proxyRefuse_ev (st : Status) (pkt : Packet) (s : State) :
    Ev Fp.proxyRefuse s (proxyRefuse st pkt s).2 := by
  unfold proxyRefuse
  repeat' first
    | with_reducible apply Ev.refl | with_reducible assumption | exact rfl
    | with_reducible apply Ev.seq (sendModule_ev ..) ?_ ?_ | with_reducible apply Ev.ite ?_ ?_ | dsimp only | split

def Fp.nackPushed : Nat := 0x700000000100110400000000000000000100044005100000000001000000000000000000000000000000000000000000000000000000000000000014000000000000000000000
theorem nackPushed_ev (l : List Packet) (s : State) :
    Ev Fp.nackPushed s (nackPushed l s) := by
  unfold nackPushed
  repeat' first
    | with_reducible apply Ev.refl | with_reducible assumption | exact rfl
    | with_reducible apply Ev.seq (sendModule_ev ..) ?_ ?_ | with_reducible apply Ev.foldl (fun _ _ => ?_) ?_
    | with_reducible apply Ev.foldlSnd (fun _ _ => ?_) ?_ | dsimp only | split

def Fp.enqueuePort : Nat := 0x700000000100110400000000000000000100044005100000000001000000000000000000000000000000000000000000000000000000000000000054000000000000000000000
theorem enqueuePort_ev (p : Nat) (pkt : Packet) (arrival : Nat) (held : Bool) (transit : Bool) (entering : Bool) (s : State) :
    Ev Fp.enqueuePort s (enqueuePort p pkt arrival held transit entering s) := by
  unfold enqueuePort
  repeat' first
    | with_reducible apply Ev.refl | with_reducible assumption | exact rfl
    | with_reducible apply Ev.seq (addWaiting_ev ..) ?_ ?_ | with_reducible apply Ev.seq (freeSlots_ev ..) ?_ ?_
    | with_reducible apply Ev.seq (nackPushed_ev ..) ?_ ?_ | with_reducible apply Ev.seq (pushUntil_ev ..) ?_ ?_
    | with_reducible apply Ev.seq (putEgress_ev ..) ?_ ?_ | with_reducible apply Ev.ite ?_ ?_ | dsimp only
    | with_reducible refine Ev.ofPair (by assumption) ?_ | split

def Fp.enqueueMany : Nat := 0x700000000100110400000000000000000100044005100000000001000000000000000000000000000000000000000000000000000000000000000054000000000000000000000
theorem enqueueMany_ev (l : List Nat) (pkt : Packet) (arrival : Nat) (held : Bool) (s : State) :
    Ev Fp.enqueueMany s (enqueueMany l pkt arrival held s) := by
  unfold enqueueMany
  repeat' first
    | with_reducible apply Ev.refl | with_reducible assumption | exact rfl
    | with_reducible apply Ev.seq (addWaiting_ev ..) ?_ ?_ | with_reducible apply Ev.seq (freeSlots_ev ..) ?_ ?_
    | with_reducible apply Ev.seq (mcastStore_ev ..) ?_ ?_ | with_reducible apply Ev.seq (nackPushed_ev ..) ?_ ?_
    | with_reducible apply Ev.seq (pushUntil_ev ..) ?_ ?_ | with_reducible apply Ev.ite ?_ ?_ | dsimp only | split

def Fp.setReseq : Nat := 0x100000000000000000000000000000000000000000000000000000000000000000000000000000000000000000000000000000000000000000000000000000000000000000000
theorem setReseq_ev (key : Nat) (l : List ReseqStream) (s : State) :
    Ev Fp.setReseq s (setReseq key l s) := by
  unfold setReseq
  repeat' first
    | with_reducible apply Ev.refl | with_reducible assumption | exact rfl
    | with_reducible apply Ev.seq (onM_ev _ _ ?_) (Sub.refl _) ?_
    | (constructor <;> first | exact .inl rfl | exact .inr rfl | exact rfl | exact fun h => h | exact fun _ => rfl)
    | dsimp only | split

def Fp.releaseReseq : Nat := 0x700000000100110400000000000000000100044005100000000001000000000000000000000000000000000000000000000000000000000000000054000000000000000000000
theorem releaseReseq_ev (key : Nat) (arrival : Nat) (p : Packet) (s : State) :
    Ev Fp.releaseReseq s (releaseReseq key arrival p s) := by
  unfold releaseReseq
  repeat' first
    | with_reducible apply Ev.refl | with_reducible assumption | exact rfl
    | with_reducible apply Ev.seq (enqueuePort_ev ..) ?_ ?_ | with_reducible apply Ev.seq (toInbox_ev ..) ?_ ?_
    | with_reducible apply Ev.ite ?_ ?_ | dsimp only | split

def Fp.releaseAll : Nat := 0x700000000100110400000000000000000100044005100000000001000000000000000000000000000000000000000000000000000000000000000054000000000000000000000
theorem releaseAll_ev (key : Nat) (arrival : Nat) (l : List Packet) (s : State) :
    Ev Fp.releaseAll s (releaseAll key arrival l s) := by
  unfold releaseAll
  repeat' first
    | with_reducible apply Ev.refl | with_reducible assumption | exact rfl
    | with_reducible apply Ev.seq (releaseReseq_ev ..) ?_ ?_ | with_reducible apply Ev.foldl (fun _ _ => ?_) ?_
    | with_reducible apply Ev.foldlSnd (fun _ _ => ?_) ?_ | dsimp only | split

def Fp.reseqArrive : Nat := 0x700000000100110400000000000000000100044005100000000001000000000000000000000000000000000000000000000000000000000000000154000000000000000000000
theorem reseqArrive_ev (key : Nat) (arrival : Nat) (p : Packet) (s : State) :
    Ev Fp.reseqArrive s (reseqArrive key arrival p s) := by
  unfold reseqArrive
  repeat' first
    | with_reducible apply Ev.refl | with_reducible assumption | exact rfl
    | with_reducible apply Ev.seq (bump_ev _ _ _ _ ?_) ?_ ?_ | with_reducible apply Ev.seq (releaseAll_ev ..) ?_ ?_
    | with_reducible apply Ev.seq (releaseReseq_ev ..) ?_ ?_ | with_reducible apply Ev.seq (setReseq_ev ..) ?_ ?_
    | with_reducible apply Ev.ite ?_ ?_ | dsimp only | with_reducible refine Ev.ofPair (by assumption) ?_ | split

def Fp.reseqTimeout : Nat := 0x700000000100110400000000000000000100044005100000000001000000000000000000000000000000000000000000000000000000000000000454000000000000000000000
theorem reseqTimeout_ev (key : Nat) (src : Eid) (dst : Eid) (stream : BitVec 4) (epoch : BitVec 4) (s : State) :
    Ev Fp.reseqTimeout s (reseqTimeout key src dst stream epoch s) := by
  unfold reseqTimeout
  repeat' first
    | with_reducible apply Ev.refl | with_reducible assumption | exact rfl
    | with_reducible apply Ev.seq (bump_ev _ _ _ _ ?_) ?_ ?_ | with_reducible apply Ev.seq (releaseAll_ev ..) ?_ ?_
    | with_reducible apply Ev.seq (setReseq_ev ..) ?_ ?_ | dsimp only | with_reducible refine Ev.ofPair (by assumption) ?_
    | split

def Fp.learnExpected : Nat := 0x700000000100110400000000000000000100044005100000000001000000000000000000000000000000000000000000000000000000000000000054000000000000000000000
theorem learnExpected_ev (ack : Packet) (s : State) :
    Ev Fp.learnExpected s (learnExpected ack s) := by
  unfold learnExpected
  repeat' first
    | with_reducible apply Ev.refl | with_reducible assumption | exact rfl
    | with_reducible apply Ev.seq (releaseAll_ev ..) ?_ ?_ | with_reducible apply Ev.seq (setReseq_ev ..) ?_ ?_
    | with_reducible apply Ev.ite ?_ ?_ | dsimp only | with_reducible refine Ev.ofPair (by assumption) ?_ | split

def Fp.sendOwn : Nat := 0x700000000100110400000000000000000100044005100000000001000000000000000000000000000000000000000000000000000000000000000054000000000000000000000
theorem sendOwn_ev (pkt : Packet) (s : State) :
    Ev Fp.sendOwn s (sendOwn pkt s) := by
  unfold sendOwn
  repeat' first
    | with_reducible apply Ev.refl | with_reducible assumption | exact rfl
    | with_reducible apply Ev.seq (learnExpected_ev ..) ?_ ?_ | with_reducible apply Ev.seq (sendModule_ev ..) ?_ ?_
    | dsimp only | split

def Fp.refuseFeature : Nat := 0x700000000100110400000000000000000100044005100000000001000000000000000000000000000000000000000000000000000000000000000014000000000000000000000
theorem refuseFeature_ev (pkt : Packet) (s : State) :
    Ev Fp.refuseFeature s (refuseFeature pkt s) := by
  unfold refuseFeature
  repeat' first
    | with_reducible apply Ev.refl | with_reducible assumption | exact rfl
    | with_reducible apply Ev.seq (bump_ev _ _ _ _ ?_) ?_ ?_ | with_reducible apply Ev.seq (proxyRefuse_ev ..) ?_ ?_
    | dsimp only | split

def Fp.refuseUnreachable : Nat := 0x700000000100110400000000000000000100044005100000000001000000000000000000000000000000000000000000000000000000000000000014000000000000000000000
theorem refuseUnreachable_ev (arrival : Nat) (pkt : Packet) (s : State) :
    Ev Fp.refuseUnreachable s (refuseUnreachable arrival pkt s) := by
  unfold refuseUnreachable
  repeat' first
    | with_reducible apply Ev.refl | with_reducible assumption | exact rfl
    | with_reducible apply Ev.seq (countUnreachable_ev ..) ?_ ?_ | with_reducible apply Ev.seq (proxyRefuse_ev ..) ?_ ?_
    | dsimp only | with_reducible refine Ev.ofPair (by assumption) ?_ | split

def Fp.leaveIngress : Nat := 0x400000000000000000000000000000000000000000000000000000000000000000000000000000000000000000000000000000000000000000000000000000
theorem leaveIngress_ev (arrival : Nat) (held : Bool) (pkt : Packet) (s : State) :
    Ev Fp.leaveIngress s (leaveIngress arrival held pkt s) := by
  unfold leaveIngress
  repeat' first
    | with_reducible apply Ev.refl | with_reducible assumption | exact rfl
    | with_reducible apply Ev.seq (freeSlots_ev ..) ?_ ?_ | with_reducible apply Ev.ite ?_ ?_ | dsimp only | split

def Fp.toEgress : Nat := 0x700000000100110400000000000000000100044005100000000001000000000000000000000000000000000000000000000000000000000000000054000000000000000000000
theorem toEgress_ev (p : Nat) (toSlot : Bool) (pkt : Packet) (arrival : Nat) (held : Bool) (transit : Bool) (entering : Bool) (s : State) :
    Ev Fp.toEgress s (toEgress p toSlot pkt arrival held transit entering s) := by
  unfold toEgress
  repeat' first
    | with_reducible apply Ev.refl | with_reducible assumption | exact rfl
    | with_reducible apply Ev.seq (onM_ev _ _ ?_) (Sub.refl _) ?_ | with_reducible apply Ev.seq (enqueuePort_ev ..) ?_ ?_
    | with_reducible apply Ev.seq (leaveIngress_ev ..) ?_ ?_ | with_reducible apply Ev.seq (rattleAct_ev ..) ?_ ?_
    | with_reducible apply Ev.ite ?_ ?_
    | (constructor <;> first | exact .inl rfl | exact .inr rfl | exact rfl | exact fun h => h | exact fun _ => rfl)
    | dsimp only | with_reducible refine Ev.ofPair (by assumption) ?_ | split

def Fp.countMalformed : Side → Nat
  | .module => 0x200000000100010000000000000000000100004005100000000001000000000000000000000000000000000000000000000000000000000000000000400000000000000000000
  | .endpoint => 0x200020000020000028880000000000000000000000000000000000000000000000000000000000000000000000000000000000000000000800000000000000000000
theorem countMalformed_ev (sd : Side) (p : Nat) (pkt : Packet) (s : State) :
    Ev (Fp.countMalformed sd) s (countMalformed sd p pkt s) := by
  cases sd <;> (
    unfold countMalformed
    repeat' first
      | with_reducible apply Ev.refl | with_reducible assumption | exact rfl
      | with_reducible apply Ev.seq (bump_ev _ _ _ _ ?_) ?_ ?_ | with_reducible apply Ev.seq (logEvent_ev ..) ?_ ?_
      | dsimp only | contradiction | split)

def Fp.routePacket : Nat := 0x700000000100110400000000000000000100044005100000000001000000000000000000000000000000000000000000000000000000000000000054400000000000000000000
theorem routePacket_ev (pkt : Packet) (arrival : Nat) (held : Bool) (s : State) :
    Ev Fp.routePacket s (routePacket pkt arrival held s) := by
  unfold routePacket
  repeat' first
    | with_reducible apply Ev.refl | with_reducible assumption | exact rfl
    | with_reducible apply Ev.seq (onM_ev _ _ ?_) (Sub.refl _) ?_ | with_reducible apply Ev.seq (bump_ev _ _ _ _ ?_) ?_ ?_
    | with_reducible apply Ev.seq (countMalformed_ev ..) ?_ ?_ | with_reducible apply Ev.seq (enqueueMany_ev ..) ?_ ?_
    | with_reducible apply Ev.seq (learnExpected_ev ..) ?_ ?_ | with_reducible apply Ev.seq (leaveIngress_ev ..) ?_ ?_
    | with_reducible apply Ev.seq (lookupRoute_ev ..) ?_ ?_ | with_reducible apply Ev.seq (refuseFeature_ev ..) ?_ ?_
    | with_reducible apply Ev.seq (refuseUnreachable_ev ..) ?_ ?_ | with_reducible apply Ev.seq (toEgress_ev ..) ?_ ?_
    | with_reducible apply Ev.seq (toInbox_ev ..) ?_ ?_ | with_reducible apply Ev.ite ?_ ?_
    | (constructor <;> first | exact .inl rfl | exact .inr rfl | exact rfl | exact fun h => h | exact fun _ => rfl)
    | dsimp only | with_reducible refine Ev.ofPair (by assumption) ?_ | split

def Fp.discardIngress : Side → Nat
  | .module => 0x200000000100010000000000000000000100004005100000000001000000000000000000000000000000000000000000000000000000000000000000100000000000000000000
  | .endpoint => 0x200020000020000028880000000000000000000000000000000000000000000000000000000000000000000000000000000000000000000200000000000000000000
theorem discardIngress_ev (sd : Side) (p : Nat) (pkt : Packet) (s : State) :
    Ev (Fp.discardIngress sd) s (discardIngress sd p pkt s) := by
  cases sd <;> (
    unfold discardIngress
    repeat' first
      | with_reducible apply Ev.refl | with_reducible assumption | exact rfl
      | with_reducible apply Ev.seq (bump_ev _ _ _ _ ?_) ?_ ?_ | with_reducible apply Ev.seq (logEvent_ev ..) ?_ ?_
      | dsimp only | contradiction | split)

def Fp.ingress : Nat := 0x700000000100110400000000000000000100044005100000010001000000000000000000000000000000000000000000000000000000000000000054500000000000000000000
theorem ingress_ev (p : Nat) (pkt : Packet) (held : Bool) (s : State) :
    Ev Fp.ingress s (ingress p pkt held s) := by
  unfold ingress
  repeat' first
    | with_reducible apply Ev.refl | with_reducible assumption | exact rfl
    | with_reducible apply Ev.seq (bump_ev _ _ _ _ ?_) ?_ ?_ | with_reducible apply Ev.seq (countMalformed_ev ..) ?_ ?_
    | with_reducible apply Ev.seq (discardIngress_ev ..) ?_ ?_ | with_reducible apply Ev.seq (leaveIngress_ev ..) ?_ ?_
    | with_reducible apply Ev.seq (routePacket_ev ..) ?_ ?_ | with_reducible apply Ev.ite ?_ ?_ | dsimp only | split

def Fp.requeuePort : Nat := 0x700000000100110400000000000000000100044005100000000001000000000000000000000000000000000000000000000000000000000000000054400000000000000000000
theorem requeuePort_ev (p : Nat) (s : State) :
    Ev Fp.requeuePort s (requeuePort p s) := by
  unfold requeuePort
  repeat' first
    | with_reducible apply Ev.refl | with_reducible assumption | exact rfl
    | with_reducible apply Ev.seq (onPort_ev ..) ?_ ?_ | with_reducible apply Ev.seq (routePacket_ev ..) ?_ ?_
    | with_reducible apply Ev.seq (storeLeft_ev ..) ?_ ?_ | with_reducible apply Ev.foldl (fun _ _ => ?_) ?_
    | with_reducible apply Ev.foldlSnd (fun _ _ => ?_) ?_ | dsimp only | split

end Sys2Proof.Machine
end

