-- ==== Sys2Proof/Laws/EvFaultOps.lean ====
section
/-! SUPPORT. What the operations of Machine/FaultOps.lean may touch: one law for each, cited in place of unfolding it. The numbers are
sets of parts (Laws/Frame.lean, `Part.idx`). -/

set_option exponentiation.threshold 1024
set_option linter.unreachableTactic false
set_option linter.unusedTactic false

namespace Sys2Proof.Machine

def Fp.setEvidence : Nat := 0x80200000000100010000000000000000000100005005100000000000000000000000000000000000000000000000000000000000000000000000000000000000000000000000000
theorem setEvidence_ev (p : Nat) (bit : Nat) (s : State) :
    Ev Fp.setEvidence s (setEvidence p bit s) := by
  unfold setEvidence
  repeat' first
    | with_reducible apply Ev.refl | with_reducible assumption | exact rfl
    | with_reducible apply Ev.seq (wr_ev _ _ _ _ _ ?_) ?_ ?_ | with_reducible apply Ev.seq (onM_ev _ _ ?_) (Sub.refl _) ?_
    | with_reducible apply Ev.seq (logModule_ev ..) ?_ ?_ | with_reducible apply Ev.ite ?_ ?_
    | (constructor <;> first | exact .inl rfl | exact .inr rfl | exact rfl | exact fun h => h | exact fun _ => rfl)
    | dsimp only | split

def Fp.markQuarantine : Nat := 0x200000000100010000000000000000000100005015100000000001000000000000000000000000000000000000000000000000000000000000000000000000000000000000000
theorem markQuarantine_ev (p : Nat) (s : State) :
    Ev Fp.markQuarantine s (markQuarantine p s) := by
  unfold markQuarantine
  repeat' first
    | with_reducible apply Ev.refl | with_reducible assumption | exact rfl
    | with_reducible apply Ev.seq (wr_ev _ _ _ _ _ ?_) ?_ ?_ | with_reducible apply Ev.seq (bump_ev _ _ _ _ ?_) ?_ ?_
    | with_reducible apply Ev.seq (logModule_ev ..) ?_ ?_ | dsimp only | split

end Sys2Proof.Machine
end

