-- ==== Sys2Proof/Laws/EvXptOps.lean ====
section
/-! SUPPORT. What the operations of Machine/XptOps.lean may touch: one law for each, cited in place of unfolding it. The numbers are
sets of parts (Laws/Frame.lean, `Part.idx`). -/

set_option exponentiation.threshold 1024
set_option linter.unreachableTactic false
set_option linter.unusedTactic false

namespace Sys2Proof.Machine

def Fp.onXpt : Side → Nat
  | .module => 0x10000000000000000000000000000000000000000000000000000000000000000000000000000000000000000000000000000000000000000000000000000000000
  | .endpoint => 0x20000000000000000000000000000000000000000000000000000000000000000000000000000000000000000000000000000000000000000000000000000000000
theorem onXpt_ev (s : State) (sd : Side) (f : Transport → Transport) :
    Ev (Fp.onXpt sd) s (State.onXpt s sd f) := by
  cases sd <;> (
    unfold State.onXpt
    repeat' first
      | with_reducible apply Ev.refl | with_reducible assumption | exact rfl
      | with_reducible apply Ev.seq (onUnit_ev _ _ _ ?_) (Sub.refl _) ?_
      | (constructor <;> first | exact .inl rfl | exact .inr rfl | exact rfl | exact fun h => h | exact fun _ => rfl)
      | dsimp only | contradiction | split)

def Fp.onSrcSpace : Side → Nat
  | .module => 0x10000000000000000000000000000000000000000000000000000000000000000000000000000000000000000000000000000000000000000000000000000000000
  | .endpoint => 0x20000000000000000000000000000000000000000000000000000000000000000000000000000000000000000000000000000000000000000000000000000000000
theorem onSrcSpace_ev (sd : Side) (dst : Eid) (stream : BitVec 4) (f : SrcSpace → SrcSpace) (s : State) :
    Ev (Fp.onSrcSpace sd) s (onSrcSpace sd dst stream f s) := by
  cases sd <;> (
    unfold onSrcSpace
    repeat' first
      | with_reducible apply Ev.refl | with_reducible assumption | exact rfl
      | with_reducible apply Ev.seq (onXpt_ev ..) ?_ ?_ | dsimp only | contradiction | split)

def Fp.onDstSpace : Side → Nat
  | .module => 0x10000000000000000000000000000000000000000000000000000000000000000000000000000000000000000000000000000000000000000000000000000000000
  | .endpoint => 0x20000000000000000000000000000000000000000000000000000000000000000000000000000000000000000000000000000000000000000000000000000000000
theorem onDstSpace_ev (sd : Side) (src : Eid) (dst : Eid) (stream : BitVec 4) (f : DstSpace → DstSpace) (s : State) :
    Ev (Fp.onDstSpace sd) s (onDstSpace sd src dst stream f s) := by
  cases sd <;> (
    unfold onDstSpace
    repeat' first
      | with_reducible apply Ev.refl | with_reducible assumption | exact rfl
      | with_reducible apply Ev.seq (onXpt_ev ..) ?_ ?_ | dsimp only | contradiction | split)

def Fp.sendFrom : Side → Nat
  | .module => 0x700000000100110400000000000000000100044005100000000001000000000000000000000000000000000000000000000000000000000000000054000000000000000000000
  | .endpoint => 0x100000000000000800000000000000000000000000000000000000000000000000000000000000000000000000000000000000000000000000000000000000000000000000000
theorem sendFrom_ev (sd : Side) (pkt : Packet) (s : State) :
    Ev (Fp.sendFrom sd) s (sendFrom sd pkt s) := by
  cases sd <;> (
    unfold sendFrom
    repeat' first
      | with_reducible apply Ev.refl | with_reducible assumption | exact rfl
      | with_reducible apply Ev.seq (portSend_ev ..) ?_ ?_ | with_reducible apply Ev.seq (sendOwn_ev ..) ?_ ?_ | dsimp only
      | with_reducible refine Ev.ofPair (by assumption) ?_ | contradiction | split)

def Fp.putOp : Side → Nat
  | .module => 0x10000000000000000000000000000000000000000000000000000000000000000000000000000000000000000000000000000000000000000000000000000000000
  | .endpoint => 0x20000000000000000000000000000000000000000000000000000000000000000000000000000000000000000000000000000000000000000000000000000000000
theorem putOp_ev (sd : Side) (o : SrcOp) (s : State) :
    Ev (Fp.putOp sd) s (putOp sd o s) := by
  cases sd <;> (
    unfold putOp
    repeat' first
      | with_reducible apply Ev.refl | with_reducible assumption | exact rfl
      | with_reducible apply Ev.seq (onXpt_ev ..) ?_ ?_ | with_reducible apply Ev.ite ?_ ?_ | dsimp only | contradiction
      | split)

def Fp.firstSend : Side → Nat
  | .module => 0x700000000110110400000000000000000100044005100000000001000000000000000000000000000000000000000000000000000000000000000054000000000000000000000
  | .endpoint => 0x100000000020000800000000000000000000000000000000000000000000000000000000000000000000000000000000000000000000000000000000000000000000000000000
theorem firstSend_ev (sd : Side) (o : SrcOp) (plane : Bool) (entry : Bool) (tag : Nat) (s : State) :
    Ev (Fp.firstSend sd) s (firstSend sd o plane entry tag s) := by
  cases sd <;> (
    unfold firstSend
    repeat' first
      | with_reducible apply Ev.refl | with_reducible assumption | exact rfl
      | with_reducible apply Ev.seq (onSrcSpace_ev ..) ?_ ?_ | with_reducible apply Ev.seq (putOp_ev ..) ?_ ?_
      | with_reducible apply Ev.seq (sendFrom_ev ..) ?_ ?_ | dsimp only | with_reducible refine Ev.ofPair (by assumption) ?_
      | contradiction | split)

def Fp.finishOp : Side → Nat
  | .module => 0x200000000110010000000000000000000100004005100000000000000000000000000000000000000000000000000000000000000000000000000000000000000000000000000
  | .endpoint => 0x220020000020000028880000000000000000000000000000000000000000000000000000000000000000000000000000000000000000000000000000000000000000
theorem finishOp_ev (sd : Side) (o : SrcOp) (statuses : List Status) (outcome : Nat) (data : List Byte) (cas : Bool) (replayed : Bool) (s : State) (cacheable : Bool) :
    Ev (Fp.finishOp sd) s (finishOp sd o statuses outcome data cas replayed s cacheable) := by
  cases sd <;> (
    unfold finishOp
    repeat' first
      | with_reducible apply Ev.refl | with_reducible assumption | exact rfl
      | with_reducible apply Ev.seq (onXpt_ev ..) ?_ ?_ | with_reducible apply Ev.seq (noteAlso_ev ..) ?_ ?_
      | with_reducible apply Ev.ite ?_ ?_ | dsimp only | contradiction | split)

def Fp.endOp : Side → Nat
  | .module => 0x200000000110010000000000000000000100004005100000000000000000000000000000000000000000000000000000000000000000000000000000000000000000000000000
  | .endpoint => 0x220020000020000028880000000000000000000000000000000000000000000000000000000000000000000000000000000000000000000000000000000000000000
theorem endOp_ev (sd : Side) (st : Status) (o : SrcOp) (s : State) :
    Ev (Fp.endOp sd) s (endOp sd st o s) := by
  cases sd <;> (
    unfold endOp
    repeat' first
      | with_reducible apply Ev.refl | with_reducible assumption | exact rfl
      | with_reducible apply Ev.seq (finishOp_ev ..) ?_ ?_ | with_reducible apply Ev.ite ?_ ?_ | dsimp only | contradiction
      | split)

def Fp.endOps : Side → Nat
  | .module => 0x200000000110010000000000000000000100004005100000000000000000000000000000000000000000000000000000000000000000000000000000000000000000000000000
  | .endpoint => 0x220020000020000028880000000000000000000000000000000000000000000000000000000000000000000000000000000000000000000000000000000000000000
theorem endOps_ev (sd : Side) (st : Status) (l : List SrcOp) (s : State) :
    Ev (Fp.endOps sd) s (endOps sd st l s) := by
  cases sd <;> (
    unfold endOps
    repeat' first
      | with_reducible apply Ev.refl | with_reducible assumption | exact rfl
      | with_reducible apply Ev.seq (endOp_ev ..) ?_ ?_ | with_reducible apply Ev.foldl (fun _ _ => ?_) ?_
      | with_reducible apply Ev.foldlSnd (fun _ _ => ?_) ?_ | dsimp only | contradiction | split)

def Fp.refuseOp : Side → Nat
  | .module => 0x200000000110010000000000000000000100004005100000000000000000000000000000000000000000000000000000000000000000000000000000000000000000000000000
  | .endpoint => 0x220020000020000028880000000000000000000000000000000000000000000000000000000000000000000000000000000000000000000000000000000000000000
theorem refuseOp_ev (sd : Side) (st : Status) (o : SrcOp) (s : State) :
    Ev (Fp.refuseOp sd) s (refuseOp sd st o s) := by
  cases sd <;> (
    unfold refuseOp
    repeat' first
      | with_reducible apply Ev.refl | with_reducible assumption | exact rfl
      | with_reducible apply Ev.seq (finishOp_ev ..) ?_ ?_ | dsimp only | contradiction | split)

def Fp.startRestart : Side → Nat
  | .module => 0x700000000110110400000000000000000100044005100000000001000000000000000000000000000000000000000000000000000004000000000054000000000000000000000
  | .endpoint => 0x100000000220020800020000028880000000000000000000000000000000000000000000000000000000000000000000000000000008000000000000000000000000000000000
theorem startRestart_ev (sd : Side) (dst : Eid) (stream : BitVec 4) (s : State) :
    Ev (Fp.startRestart sd) s (startRestart sd dst stream s) := by
  cases sd <;> (
    unfold startRestart
    repeat' first
      | with_reducible apply Ev.refl | with_reducible assumption | exact rfl
      | with_reducible apply Ev.seq (bump_ev _ _ _ _ ?_) ?_ ?_ | with_reducible apply Ev.seq (onSrcSpace_ev ..) ?_ ?_
      | with_reducible apply Ev.seq (sendFrom_ev ..) ?_ ?_ | dsimp only | contradiction | split)

def Fp.breakSpace : Side → Nat
  | .module => 0x700000000110110400000000000000000100044005100000000001000000000000000000000000000000000000000000000000000004000000000054000000000000000000000
  | .endpoint => 0x100000000220020800020000028880000000000000000000000000000000000000000000000000000000000000000000000000000008000000000000000000000000000000000
theorem breakSpace_ev (sd : Side) (dst : Eid) (stream : BitVec 4) (x : BitVec 24) (st : Status) (s : State) :
    Ev (Fp.breakSpace sd) s (breakSpace sd dst stream x st s) := by
  cases sd <;> (
    unfold breakSpace
    repeat' first
      | with_reducible apply Ev.refl | with_reducible assumption | exact rfl
      | with_reducible apply Ev.seq (endOps_ev ..) ?_ ?_ | with_reducible apply Ev.seq (startRestart_ev ..) ?_ ?_
      | with_reducible apply Ev.ite ?_ ?_ | dsimp only | contradiction | split)

def Fp.giveUp : Side → Nat
  | .module => 0x700000000110110400000000000000000100044005100000000001000000000000000000000000000000000000000000000000000004000000000054000000000000000000000
  | .endpoint => 0x100000000220020800020000028880000000000000000000000000000000000000000000000000000000000000000000000000000008000000000000000000000000000000000
theorem giveUp_ev (sd : Side) (st : Status) (o : SrcOp) (t : Sent) (s : State) :
    Ev (Fp.giveUp sd) s (giveUp sd st o t s) := by
  cases sd <;> (
    unfold giveUp
    repeat' first
      | with_reducible apply Ev.refl | with_reducible assumption | exact rfl
      | with_reducible apply Ev.seq (breakSpace_ev ..) ?_ ?_ | with_reducible apply Ev.seq (endOp_ev ..) ?_ ?_
      | with_reducible apply Ev.ite ?_ ?_ | dsimp only | contradiction | split)

def Fp.retransmit : Side → Nat
  | .module => 0x700000000110110400000000000000000100044005100000000001000000000000000000000000000000000000000000000000000000004000000054000000000000000000000
  | .endpoint => 0x100000000220020800020000028880000000000000000000000000000000000000000000000000000000000000000000000000000000008000000000000000000000000000000
theorem retransmit_ev (sd : Side) (o : SrcOp) (t : Sent) (s : State) :
    Ev (Fp.retransmit sd) s (retransmit sd o t s) := by
  cases sd <;> (
    unfold retransmit
    repeat' first
      | with_reducible apply Ev.refl | with_reducible assumption | exact rfl
      | with_reducible apply Ev.seq (bump_ev _ _ _ _ ?_) ?_ ?_ | with_reducible apply Ev.seq (putOp_ev ..) ?_ ?_
      | with_reducible apply Ev.seq (sendFrom_ev ..) ?_ ?_ | with_reducible apply Ev.ite ?_ ?_ | dsimp only | contradiction
      | split)

def Fp.missAck : Side → Nat
  | .module => 0x10000000000000000000000000000000000000000000000000000000000000000000000000000000000000000000000000000000000000000000000000000000000
  | .endpoint => 0x20000000000000000000000000000000000000000000000000000000000000000000000000000000000000000000000000000000000000000000000000000000000
theorem missAck_ev (sd : Side) (dst : Eid) (plane : Bool) (s : State) :
    Ev (Fp.missAck sd) s (missAck sd dst plane s) := by
  cases sd <;> (
    unfold missAck
    repeat' first
      | with_reducible apply Ev.refl | with_reducible assumption | exact rfl
      | with_reducible apply Ev.seq (onXpt_ev ..) ?_ ?_ | with_reducible apply Ev.ite ?_ ?_ | dsimp only | contradiction
      | split)

def Fp.clearSuspect : Side → Nat
  | .module => 0x10000000000000000000000000000000000000000000000000000000000000000000000000000000000000000000000000000000000000000000000000000000000
  | .endpoint => 0x20000000000000000000000000000000000000000000000000000000000000000000000000000000000000000000000000000000000000000000000000000000000
theorem clearSuspect_ev (sd : Side) (dst : Eid) (plane : Bool) (s : State) :
    Ev (Fp.clearSuspect sd) s (clearSuspect sd dst plane s) := by
  cases sd <;> (
    unfold clearSuspect
    repeat' first
      | with_reducible apply Ev.refl | with_reducible assumption | exact rfl
      | with_reducible apply Ev.seq (onXpt_ev ..) ?_ ?_ | dsimp only | contradiction | split)

def Fp.retransmitExpired : Side → Nat
  | .module => 0x700000000110110400000000000000000100044005100000000001000000000000000000000000000000000000000000000000000004014000000054000000000000000000000
  | .endpoint => 0x100000000220020800020000028880000000000000000000000000000000000000000000000000000000000000000000000000000008028000000000000000000000000000000
theorem retransmitExpired_ev (sd : Side) (o : SrcOp) (t : Sent) (s : State) :
    Ev (Fp.retransmitExpired sd) s (retransmitExpired sd o t s) := by
  cases sd <;> (
    unfold retransmitExpired
    repeat' first
      | with_reducible apply Ev.refl | with_reducible assumption | exact rfl
      | with_reducible apply Ev.seq (bump_ev _ _ _ _ ?_) ?_ ?_ | with_reducible apply Ev.seq (giveUp_ev ..) ?_ ?_
      | with_reducible apply Ev.seq (missAck_ev ..) ?_ ?_ | with_reducible apply Ev.seq (retransmit_ev ..) ?_ ?_
      | with_reducible apply Ev.ite ?_ ?_ | dsimp only | contradiction | split)

def Fp.restartExpired : Side → Nat
  | .module => 0x700000000110110400000000000000000100044005100000000001000000000000000000000000000000000000000000000000000000004000000054000000000000000000000
  | .endpoint => 0x100000000220020800020000028880000000000000000000000000000000000000000000000000000000000000000000000000000000008000000000000000000000000000000
theorem restartExpired_ev (sd : Side) (dst : Eid) (stream : BitVec 4) (r : Restart) (s : State) :
    Ev (Fp.restartExpired sd) s (restartExpired sd dst stream r s) := by
  cases sd <;> (
    unfold restartExpired
    repeat' first
      | with_reducible apply Ev.refl | with_reducible assumption | exact rfl
      | with_reducible apply Ev.seq (bump_ev _ _ _ _ ?_) ?_ ?_ | with_reducible apply Ev.seq (endOps_ev ..) ?_ ?_
      | with_reducible apply Ev.seq (onSrcSpace_ev ..) ?_ ?_ | with_reducible apply Ev.seq (sendFrom_ev ..) ?_ ?_
      | with_reducible apply Ev.ite ?_ ?_ | dsimp only | contradiction | split)

def Fp.planeLossBarrier : Side → Nat
  | .module => 0x700000000110110400000000000000000100044005100000000001000000000000000000000000000000000000000000000000000004004000000054000000000000000000000
  | .endpoint => 0x100000000220020800020000028880000000000000000000000000000000000000000000000000000000000000000000000000000008008000000000000000000000000000000
theorem planeLossBarrier_ev (sd : Side) (dst : Eid) (stream : BitVec 4) (s : State) :
    Ev (Fp.planeLossBarrier sd) s (planeLossBarrier sd dst stream s) := by
  cases sd <;> (
    unfold planeLossBarrier
    repeat' first
      | with_reducible apply Ev.refl | with_reducible assumption | exact rfl
      | with_reducible apply Ev.seq (bump_ev _ _ _ _ ?_) ?_ ?_ | with_reducible apply Ev.seq (onSrcSpace_ev ..) ?_ ?_
      | with_reducible apply Ev.seq (retransmit_ev ..) ?_ ?_ | with_reducible apply Ev.foldl (fun _ _ => ?_) ?_
      | with_reducible apply Ev.foldlSnd (fun _ _ => ?_) ?_ | dsimp only | contradiction | split)

def Fp.tryIssue : Side → Nat
  | .module => 0x700000000110110400000000000000000100044005100000000001000000000000000000000000000000000000000000000000000004004000000054000000000000000000000
  | .endpoint => 0x100000000220020800020000028880000000000000000000000000000000000000000000000000000000000000000000000000000008008000000000000000000000000000000
theorem tryIssue_ev (sd : Side) (id : Nat) (s : State) :
    Ev (Fp.tryIssue sd) s (tryIssue sd id s) := by
  cases sd <;> (
    unfold tryIssue
    repeat' first
      | with_reducible apply Ev.refl | with_reducible assumption | exact rfl
      | with_reducible apply Ev.seq (firstSend_ev ..) ?_ ?_ | with_reducible apply Ev.seq (onSrcSpace_ev ..) ?_ ?_
      | with_reducible apply Ev.seq (planeLossBarrier_ev ..) ?_ ?_ | with_reducible apply Ev.seq (refuseOp_ev ..) ?_ ?_
      | with_reducible apply Ev.seq (startRestart_ev ..) ?_ ?_ | with_reducible apply Ev.ite ?_ ?_ | dsimp only
      | with_reducible refine Ev.ofPair (by assumption) ?_ | contradiction | split)

def Fp.tellFences : Side → Nat
  | .module => 0x10000000000000000000000000000000000000000000000000000000000000000000000000000000000000000000000000000000000000000000000000000000000
  | .endpoint => 0x20000000000000000000000000000000000000000000000000000000000000000000000000000000000000000000000000000000000000000000000000000000000
theorem tellFences_ev (sd : Side) (ctx : Nat) (id : Nat) (st : Status) (s : State) :
    Ev (Fp.tellFences sd) s (tellFences sd ctx id st s) := by
  cases sd <;> (
    unfold tellFences
    repeat' first
      | with_reducible apply Ev.refl | with_reducible assumption | exact rfl
      | with_reducible apply Ev.seq (onXpt_ev ..) ?_ ?_ | with_reducible apply Ev.ite ?_ ?_ | dsimp only | contradiction
      | split)

def Fp.enterOp : Side → Nat
  | .module => 0x700000000110110400000000000000000100044005100000000001000000000000000000000000000000000000000000000000000004004000000054000000000000000000000
  | .endpoint => 0x100000000220020800020000028880000000000000000000000000000000000000000000000000000000000000000000000000000008008000000000000000000000000000000
theorem enterOp_ev (sd : Side) (o : SrcOp) (s : State) :
    Ev (Fp.enterOp sd) s (enterOp sd o s) := by
  cases sd <;> (
    unfold enterOp
    repeat' first
      | with_reducible apply Ev.refl | with_reducible assumption | exact rfl
      | with_reducible apply Ev.seq (onXpt_ev ..) ?_ ?_ | with_reducible apply Ev.seq (tryIssue_ev ..) ?_ ?_ | dsimp only
      | contradiction | split)

def Fp.issueOp : Side → Nat
  | .module => 0x700000000110110400000000000000000100044005100000000001000000000000000000000000000000000000000000000000000004004000000054000000000000000000000
  | .endpoint => 0x100000000220020800020000028880000000000000000000000000000000000000000000000000000000000000000000000000000008008000000000000000000000000000000
theorem issueOp_ev (sd : Side) (ctx : Option Nat) (use : OpUse) (ready : Bool) (p : Packet) (s : State) :
    Ev (Fp.issueOp sd) s (issueOp sd ctx use ready p s) := by
  cases sd <;> (
    unfold issueOp
    repeat' first
      | with_reducible apply Ev.refl | with_reducible assumption | exact rfl
      | with_reducible apply Ev.seq (onXpt_ev ..) ?_ ?_ | with_reducible apply Ev.seq (tryIssue_ev ..) ?_ ?_ | dsimp only
      | contradiction | split)

def Fp.readyOp : Side → Nat
  | .module => 0x700000000110110400000000000000000100044005100000000001000000000000000000000000000000000000000000000000000004004000000054000000000000000000000
  | .endpoint => 0x100000000220020800020000028880000000000000000000000000000000000000000000000000000000000000000000000000000008008000000000000000000000000000000
theorem readyOp_ev (sd : Side) (id : Nat) (payload : List Byte) (s : State) :
    Ev (Fp.readyOp sd) s (readyOp sd id payload s) := by
  cases sd <;> (
    unfold readyOp
    repeat' first
      | with_reducible apply Ev.refl | with_reducible assumption | exact rfl
      | with_reducible apply Ev.seq (putOp_ev ..) ?_ ?_ | with_reducible apply Ev.seq (tryIssue_ev ..) ?_ ?_ | dsimp only
      | with_reducible refine Ev.ofPair (by assumption) ?_ | contradiction | split)

def Fp.ackOne : Side → Nat
  | .module => 0x700000000110110400000000000000000100044005100000000001000000000000000000000000000000000000000000000000000000004000000054000000000000000000000
  | .endpoint => 0x100000000220020800020000028880000000000000000000000000000000000000000000000000000000000000000000000000000000008000000000000000000000000000000
theorem ackOne_ev (sd : Side) (pkt : Packet) (o : SrcOp) (t : Sent) (s : State) :
    Ev (Fp.ackOne sd) s (ackOne sd pkt o t s) := by
  cases sd <;> (
    unfold ackOne
    repeat' first
      | with_reducible apply Ev.refl | with_reducible assumption | exact rfl
      | with_reducible apply Ev.seq (onXpt_ev ..) ?_ ?_ | with_reducible apply Ev.seq (finishOp_ev ..) ?_ ?_
      | with_reducible apply Ev.seq (putOp_ev ..) ?_ ?_ | with_reducible apply Ev.seq (retransmit_ev ..) ?_ ?_
      | with_reducible apply Ev.ite ?_ ?_ | dsimp only | with_reducible refine Ev.ofPair (by assumption) ?_ | contradiction
      | split)

def Fp.takeXptAck : Side → Nat
  | .module => 0x700000000110110400000000000000000100044005100000000001000000000000000000000000000000000000000000000000000000004000000054000000000000000000000
  | .endpoint => 0x100000000220020800020000028880000000000000000000000000000000000000000000000000000000000000000000000000000000008000000000000000000000000000000
theorem takeXptAck_ev (sd : Side) (pkt : Packet) (s : State) :
    Ev (Fp.takeXptAck sd) s (takeXptAck sd pkt s) := by
  cases sd <;> (
    unfold takeXptAck
    repeat' first
      | with_reducible apply Ev.refl | with_reducible assumption | exact rfl
      | with_reducible apply Ev.seq (ackOne_ev ..) ?_ ?_ | with_reducible apply Ev.seq (clearSuspect_ev ..) ?_ ?_
      | with_reducible apply Ev.seq (onSrcSpace_ev ..) ?_ ?_ | with_reducible apply Ev.ite ?_ ?_
      | with_reducible apply Ev.foldl (fun _ _ => ?_) ?_ | with_reducible apply Ev.foldlSnd (fun _ _ => ?_) ?_ | dsimp only
      | with_reducible refine Ev.ofPair (by assumption) ?_ | contradiction | split)

def Fp.lateRefusal : Side → Nat
  | .module => 0x200000000100010000000000000000000100004005100000000001000000000000000000040000000000000000000000000100000000000000000000000000000000000000000
  | .endpoint => 0x200020000022000028880000000000000000000000000000000000000000000000000000000000000000000000200000000000000000000000000000000000000000
theorem lateRefusal_ev (sd : Side) (dst : Eid) (x : BitVec 24) (st : Status) (use : OpUse) (s : State) :
    Ev (Fp.lateRefusal sd) s (lateRefusal sd dst x st use s) := by
  cases sd <;> (
    unfold lateRefusal
    repeat' first
      | with_reducible apply Ev.refl | with_reducible assumption | exact rfl
      | with_reducible apply Ev.seq (wr_ev _ _ _ _ _ ?_) ?_ ?_ | with_reducible apply Ev.seq (bump_ev _ _ _ _ ?_) ?_ ?_
      | with_reducible apply Ev.seq (logEvent_ev ..) ?_ ?_
      | with_reducible apply Ev.seq (raiseVector_ev _ _ (by decide)) ?_ ?_ | dsimp only
      | with_reducible refine Ev.ofPair (by assumption) ?_ | contradiction | split)

def Fp.takeXptNack : Side → Nat
  | .module => 0x700000000110110400000000000000000100044005100000000001000000000000000000040000000000000000000000000100000014004000000054000000000000000000000
  | .endpoint => 0x100000000220020800022000028880000000000000000000000000000000000000000000000000000000000000000000000200000028008000000000000000000000000000000
theorem takeXptNack_ev (sd : Side) (pkt : Packet) (s0 : State) :
    Ev (Fp.takeXptNack sd) s0 (takeXptNack sd pkt s0) := by
  cases sd <;> (
    unfold takeXptNack
    repeat' first
      | with_reducible apply Ev.refl | with_reducible assumption | exact rfl
      | with_reducible apply Ev.seq (bump_ev _ _ _ _ ?_) ?_ ?_ | with_reducible apply Ev.seq (onXpt_ev ..) ?_ ?_
      | with_reducible apply Ev.seq (breakSpace_ev ..) ?_ ?_ | with_reducible apply Ev.seq (finishOp_ev ..) ?_ ?_
      | with_reducible apply Ev.seq (lateRefusal_ev ..) ?_ ?_ | with_reducible apply Ev.seq (noteReserved_ev ..) ?_ ?_
      | with_reducible apply Ev.seq (putOp_ev ..) ?_ ?_ | with_reducible apply Ev.seq (retransmit_ev ..) ?_ ?_
      | with_reducible apply Ev.ite ?_ ?_ | dsimp only | with_reducible refine Ev.ofPair (by assumption) ?_ | contradiction
      | split)

def Fp.takeMember : Side → Nat
  | .module => 0x200000000110010000000000000000000100004005100000000000000000000000000000000000000000000000000000000000000000000000000000000000000000000000000
  | .endpoint => 0x220020000020000028880000000000000000000000000000000000000000000000000000000000000000000000000000000000000000000000000000000000000000
theorem takeMember_ev (sd : Side) (o : SrcOp) (t : Sent) (member : Eid) (st : Status) (s : State) :
    Ev (Fp.takeMember sd) s (takeMember sd o t member st s) := by
  cases sd <;> (
    unfold takeMember
    repeat' first
      | with_reducible apply Ev.refl | with_reducible assumption | exact rfl
      | with_reducible apply Ev.seq (finishOp_ev ..) ?_ ?_ | with_reducible apply Ev.seq (logEvent_ev ..) ?_ ?_
      | with_reducible apply Ev.seq (putOp_ev ..) ?_ ?_ | with_reducible apply Ev.ite ?_ ?_ | dsimp only
      | with_reducible refine Ev.ofPair (by assumption) ?_ | contradiction | split)

def Fp.takeResponse : Side → Nat
  | .module => 0x700000000110110400000000000000000100044005100001440001000000000000000000000000000000000000000000000000000014000000000054000000000000000000000
  | .endpoint => 0x100000000220020800020000028880000000000000000002880000000000000000000000000000000000000000000000000000000028000000000000000000000000000000000
theorem takeResponse_ev (sd : Side) (pkt : Packet) (s0 : State) :
    Ev (Fp.takeResponse sd) s0 (takeResponse sd pkt s0) := by
  cases sd <;> (
    unfold takeResponse
    repeat' first
      | with_reducible apply Ev.refl | with_reducible assumption | exact rfl
      | with_reducible apply Ev.seq (bump_ev _ _ _ _ ?_) ?_ ?_ | with_reducible apply Ev.seq (breakSpace_ev ..) ?_ ?_
      | with_reducible apply Ev.seq (clearSuspect_ev ..) ?_ ?_ | with_reducible apply Ev.seq (finishOp_ev ..) ?_ ?_
      | with_reducible apply Ev.seq (noteReserved_ev ..) ?_ ?_ | with_reducible apply Ev.seq (takeMember_ev ..) ?_ ?_
      | with_reducible apply Ev.ite ?_ ?_ | dsimp only | with_reducible refine Ev.ofPair (by assumption) ?_ | contradiction
      | split)

def Fp.sendAck : Side → Nat
  | .module => 0x700000000110110400000000000000000100044005100000000001000000000000000000000000000000000000000000000000000000000000000054000000000000000000000
  | .endpoint => 0x100000000020000800000000000000000000000000000000000000000000000000000000000000000000000000000000000000000000000000000000000000000000000000000
theorem sendAck_ev (sd : Side) (src : Eid) (dst : Eid) (stream : BitVec 4) (s : State) :
    Ev (Fp.sendAck sd) s (sendAck sd src dst stream s) := by
  cases sd <;> (
    unfold sendAck
    repeat' first
      | with_reducible apply Ev.refl | with_reducible assumption | exact rfl
      | with_reducible apply Ev.seq (onDstSpace_ev ..) ?_ ?_ | with_reducible apply Ev.seq (sendFrom_ev ..) ?_ ?_
      | with_reducible apply Ev.ite ?_ ?_ | with_reducible apply Ev.foldl (fun _ _ => ?_) ?_
      | with_reducible apply Ev.foldlSnd (fun _ _ => ?_) ?_ | dsimp only | with_reducible refine Ev.ofPair (by assumption) ?_
      | contradiction | split)

def Fp.sendNack : Side → Nat
  | .module => 0x700000000100110400000000000000000100044005100000000001000000000000000000000000000000000000000000000000000000000000000054000000000000000000000
  | .endpoint => 0x100000000000000800000000000000000000000000000000000000000000000000000000000000000000000000000000000000000000000000000000000000000000000000000
theorem sendNack_ev (sd : Side) (st : Status) (pkt : Packet) (s : State) :
    Ev (Fp.sendNack sd) s (sendNack sd st pkt s) := by
  cases sd <;> (
    unfold sendNack
    repeat' first
      | with_reducible apply Ev.refl | with_reducible assumption | exact rfl
      | with_reducible apply Ev.seq (sendFrom_ev ..) ?_ ?_ | dsimp only | contradiction | split)

def Fp.sendResponse : Side → Nat
  | .module => 0x700000000100110400000000000000000100044005100000000001000000000000000000000000000000000000000000000000000000000000000054000000000000000000000
  | .endpoint => 0x100000000000000800000000000000000000000000000000000000000000000000000000000000000000000000000000000000000000000000000000000000000000000000000
theorem sendResponse_ev (sd : Side) (req : Packet) (st : Status) (payload : List Byte) (opx : Nat) (s : State) :
    Ev (Fp.sendResponse sd) s (sendResponse sd req st payload opx s) := by
  cases sd <;> (
    unfold sendResponse
    repeat' first
      | with_reducible apply Ev.refl | with_reducible assumption | exact rfl
      | with_reducible apply Ev.seq (sendFrom_ev ..) ?_ ?_ | with_reducible apply Ev.ite ?_ ?_ | dsimp only
      | with_reducible refine Ev.ofPair (by assumption) ?_ | contradiction | split)

def Fp.delivered : Side → Nat
  | .module => 0x700000000110110400000000000000000100044005100000000001000000000000000000000000000000000000000000000000000000000000000054000000000000000000000
  | .endpoint => 0x100000000020000800000000000000000000000000000000000000000000000000000000000000000000000000000000000000000000000000000000000000000000000000000
theorem delivered_ev (sd : Side) (pkt : Packet) (s : State) :
    Ev (Fp.delivered sd) s (delivered sd pkt s) := by
  cases sd <;> (
    unfold delivered
    repeat' first
      | with_reducible apply Ev.refl | with_reducible assumption | exact rfl
      | with_reducible apply Ev.seq (onXpt_ev ..) ?_ ?_ | with_reducible apply Ev.seq (onDstSpace_ev ..) ?_ ?_
      | with_reducible apply Ev.seq (sendAck_ev ..) ?_ ?_ | with_reducible apply Ev.ite ?_ ?_ | dsimp only | contradiction
      | split)

def Fp.refuseVersion : Side → Nat
  | .module => 0x700000000110110400000000000000000100044005100000000001000000000000000000000000000000000000000000000000000000000000000054000000000000000000000
  | .endpoint => 0x100000000020000800000000000000000000000000000000000000000000000000000000000000000000000000000000000000000000000000000000000000000000000000000
theorem refuseVersion_ev (sd : Side) (pkt : Packet) (s : State) :
    Ev (Fp.refuseVersion sd) s (refuseVersion sd pkt s) := by
  cases sd <;> (
    unfold refuseVersion
    repeat' first
      | with_reducible apply Ev.refl | with_reducible assumption | exact rfl
      | with_reducible apply Ev.seq (delivered_ev ..) ?_ ?_ | with_reducible apply Ev.seq (sendNack_ev ..) ?_ ?_
      | with_reducible apply Ev.seq (sendResponse_ev ..) ?_ ?_ | with_reducible apply Ev.ite ?_ ?_ | dsimp only
      | contradiction | split)

def Fp.releaseHeld : Side → Nat
  | .module => 0x700000000110110400000000000000000100044005100000000001000000000000000000000000000000000000000000000000000000000000000054000000000000000000000
  | .endpoint => 0x100000000020000800000000000000000000000000000000000000000000000000000000000000000000000000000000000000000000000000000000000000000000000000000
theorem releaseHeld_ev (sd : Side) (src dst : Eid) (stream : BitVec 4) (n : Nat) (s : State) :
    Ev (Fp.releaseHeld sd) s (releaseHeld sd src dst stream n s) := by
  induction n generalizing s with
  | zero => exact Ev.refl _
  | succ n ih =>
    cases sd <;> (
      unfold releaseHeld
      repeat' first
        | with_reducible apply Ev.refl | with_reducible assumption | with_reducible apply Ev.seq (ih ..) (Sub.refl _) ?_
        | exact rfl | with_reducible apply Ev.seq (onXpt_ev ..) ?_ ?_ | with_reducible apply Ev.seq (onDstSpace_ev ..) ?_ ?_
        | with_reducible apply Ev.seq (refuseVersion_ev ..) ?_ ?_ | with_reducible apply Ev.ite ?_ ?_ | dsimp only
        | with_reducible refine Ev.ofPair (by assumption) ?_ | contradiction | split)

def Fp.deliver : Side → Nat
  | .module => 0x700000000110110400000000000000000100044005100000000001000000000000000000000000000000000000000000000000000000000000000054000000000000000000000
  | .endpoint => 0x100000000020000800000000000000000000000000000000000000000000000000000000000000000000000000000000000000000000000000000000000000000000000000000
theorem deliver_ev (sd : Side) (pkt : Packet) (s : State) :
    Ev (Fp.deliver sd) s (deliver sd pkt s) := by
  cases sd <;> (
    unfold deliver
    repeat' first
      | with_reducible apply Ev.refl | with_reducible assumption | exact rfl
      | with_reducible apply Ev.seq (delivered_ev ..) ?_ ?_ | with_reducible apply Ev.seq (releaseHeld_ev ..) ?_ ?_
      | with_reducible apply Ev.ite ?_ ?_ | dsimp only | contradiction | split)

def Fp.beginWork : Side → Nat
  | .module => 0x700000000110110400000000000000000100044005100000000001000000000000000000000000000000000000000000000000000000000000000054000000000000000000000
  | .endpoint => 0x100000000020000800000000000000000000000000000000000000000000000000000000000000000000000000000000000000000000000000000000000000000000000000000
theorem beginWork_ev (sd : Side) (port : Nat) (pkt : Packet) (s : State) :
    Ev (Fp.beginWork sd) s (beginWork sd port pkt s) := by
  cases sd <;> (
    unfold beginWork
    repeat' first
      | with_reducible apply Ev.refl | with_reducible assumption | exact rfl
      | with_reducible apply Ev.seq (onXpt_ev ..) ?_ ?_ | with_reducible apply Ev.seq (refuseVersion_ev ..) ?_ ?_
      | with_reducible apply Ev.seq (releaseHeld_ev ..) ?_ ?_ | with_reducible apply Ev.ite ?_ ?_ | dsimp only
      | contradiction | split)

def Fp.acceptPacket : Side → Nat
  | .module => 0x700000000110110400000000000000000100044005100000000001000000000000000000000000000000000000000000000000000001000000000054000000000000000000000
  | .endpoint => 0x100000000220020800020000028880000000000000000000000000000000000000000000000000000000000000000000000000000002000000000000000000000000000000000
theorem acceptPacket_ev (sd : Side) (port : Nat) (pkt : Packet) (s : State) :
    Ev (Fp.acceptPacket sd) s (acceptPacket sd port pkt s) := by
  cases sd <;> (
    unfold acceptPacket
    repeat' first
      | with_reducible apply Ev.refl | with_reducible assumption | exact rfl
      | with_reducible apply Ev.seq (bump_ev _ _ _ _ ?_) ?_ ?_ | with_reducible apply Ev.seq (onXpt_ev ..) ?_ ?_
      | with_reducible apply Ev.seq (beginWork_ev ..) ?_ ?_ | with_reducible apply Ev.seq (onDstSpace_ev ..) ?_ ?_
      | with_reducible apply Ev.seq (sendAck_ev ..) ?_ ?_ | with_reducible apply Ev.seq (sendNack_ev ..) ?_ ?_
      | with_reducible apply Ev.ite ?_ ?_ | dsimp only | contradiction | split)

def Fp.accept : Side → Nat
  | .module => 0x200000000300130000020000028880000100004005100000010001000000000000000000000000000000000000000000000000000000000000000000600000000000000000000
  | .endpoint => 0x200020800020000028880000000000000000000020000000000000000000000000000000000000000000000000000000000000000000000a00000000000000000000
theorem accept_ev (sd : Side) (port : Nat) (pkt : Packet) (s : State) :
    Ev (Fp.accept sd) s (accept sd port pkt s).2 := by
  cases sd <;> (
    unfold accept
    repeat' first
      | with_reducible apply Ev.refl | with_reducible assumption | exact rfl
      | with_reducible apply Ev.seq (bump_ev _ _ _ _ ?_) ?_ ?_ | with_reducible apply Ev.seq (consumeArrived_ev ..) ?_ ?_
      | with_reducible apply Ev.seq (consumeInbox_ev ..) ?_ ?_ | with_reducible apply Ev.seq (countMalformed_ev ..) ?_ ?_
      | with_reducible apply Ev.seq (discardIngress_ev ..) ?_ ?_ | with_reducible apply Ev.ite ?_ ?_ | dsimp only
      | with_reducible refine Ev.ofPair (by assumption) ?_ | contradiction | split)

def Fp.dropBadCheck : Side → Nat
  | .module => 0x200000000100010000000000000000000100004005100000000001000000000000000000000000000000000000000000000000000040000000000000000000000000000000000
  | .endpoint => 0x200020000020000028880000000000000000000000000000000000000000000000000000000000000000000000000000080000000000000000000000000000000000
theorem dropBadCheck_ev (sd : Side) (s : State) :
    Ev (Fp.dropBadCheck sd) s (dropBadCheck sd s) := by
  cases sd <;> (
    unfold dropBadCheck
    repeat' first
      | with_reducible apply Ev.refl | with_reducible assumption | exact rfl
      | with_reducible apply Ev.seq (bump_ev _ _ _ _ ?_) ?_ ?_ | dsimp only | contradiction | split)

def Fp.takeRestart : Side → Nat
  | .module => 0x700000000110110400000000000000000100044005100000000001000000000000000000000000000000000000000000000000000000000000000054000000000000000000000
  | .endpoint => 0x100000000020000800000000000000000000000000000000000000000000000000000000000000000000000000000000000000000000000000000000000000000000000000000
theorem takeRestart_ev (sd : Side) (pkt : Packet) (s : State) :
    Ev (Fp.takeRestart sd) s (takeRestart sd pkt s) := by
  cases sd <;> (
    unfold takeRestart
    repeat' first
      | with_reducible apply Ev.refl | with_reducible assumption | exact rfl
      | with_reducible apply Ev.seq (onXpt_ev ..) ?_ ?_ | with_reducible apply Ev.seq (onDstSpace_ev ..) ?_ ?_
      | with_reducible apply Ev.seq (sendAck_ev ..) ?_ ?_ | with_reducible apply Ev.ite ?_ ?_ | dsimp only | contradiction
      | split)

def Fp.breakModuleStream : Side → Nat
  | .module => 0x200000000110010000000000000000000100004005100000000000000000000000000000000000000000000000000000000000000000000000000000000000000000000000000
  | .endpoint => 0x220020000020000028880000000000000000000000000000000000000000000000000000000000000000000000000000000000000000000000000000000000000000
theorem breakModuleStream_ev (sd : Side) (dst : Eid) (stream : BitVec 4) (s : State) :
    Ev (Fp.breakModuleStream sd) s (breakModuleStream sd dst stream s) := by
  cases sd <;> (
    unfold breakModuleStream
    repeat' first
      | with_reducible apply Ev.refl | with_reducible assumption | exact rfl
      | with_reducible apply Ev.seq (endOps_ev ..) ?_ ?_ | with_reducible apply Ev.seq (onSrcSpace_ev ..) ?_ ?_ | dsimp only
      | contradiction | split)

def Fp.settleStream : Side → Nat
  | .module => 0x700000000110110400000000000000000100044005100000000001000000000000000000000000000000000000000000000000000004004000000054000000000000000000000
  | .endpoint => 0x100000000220020800020000028880000000000000000000000000000000000000000000000000000000000000000000000000000008008000000000000000000000000000000
theorem settleStream_ev (sd : Side) (dst : Eid) (stream : BitVec 4) (s : State) :
    Ev (Fp.settleStream sd) s (settleStream sd dst stream s) := by
  cases sd <;> (
    unfold settleStream
    repeat' first
      | with_reducible apply Ev.refl | with_reducible assumption | exact rfl
      | with_reducible apply Ev.seq (breakModuleStream_ev ..) ?_ ?_
      | with_reducible apply Ev.seq (planeLossBarrier_ev ..) ?_ ?_ | with_reducible apply Ev.ite ?_ ?_ | dsimp only
      | contradiction | split)

def Fp.settlePlanes : Side → Nat
  | .module => 0x700000000110110400000000000000000100044005100000000001000000000000000000000000000000000000000000000000000004004000000054000000000000000000000
  | .endpoint => 0x100000000220020800020000028880000000000000000000000000000000000000000000000000000000000000000000000000000008008000000000000000000000000000000
theorem settlePlanes_ev (sd : Side) (s : State) :
    Ev (Fp.settlePlanes sd) s (settlePlanes sd s) := by
  cases sd <;> (
    unfold settlePlanes
    repeat' first
      | with_reducible apply Ev.refl | with_reducible assumption | exact rfl
      | with_reducible apply Ev.seq (settleStream_ev ..) ?_ ?_ | with_reducible apply Ev.foldl (fun _ _ => ?_) ?_
      | with_reducible apply Ev.foldlSnd (fun _ _ => ?_) ?_ | dsimp only | contradiction | split)

def Fp.runBarriers : Side → Nat
  | .module => 0x700000000110110400000000000000000100044005100000000001000000000000000000000000000000000000000000000000000004004000000054000000000000000000000
  | .endpoint => 0x100000000220020800020000028880000000000000000000000000000000000000000000000000000000000000000000000000000008008000000000000000000000000000000
theorem runBarriers_ev (sd : Side) (s : State) :
    Ev (Fp.runBarriers sd) s (runBarriers sd s) := by
  cases sd <;> (
    unfold runBarriers
    repeat' first
      | with_reducible apply Ev.refl | with_reducible assumption | exact rfl
      | with_reducible apply Ev.seq (planeLossBarrier_ev ..) ?_ ?_ | with_reducible apply Ev.ite ?_ ?_
      | with_reducible apply Ev.foldl (fun _ _ => ?_) ?_ | with_reducible apply Ev.foldlSnd (fun _ _ => ?_) ?_ | dsimp only
      | contradiction | split)

def Fp.plannedAdvance : Side → Nat
  | .module => 0x200000000110010000000000000000000100004005100000000001000000000000000000000000000000000000000000000000000004000000000000000000000000000000000
  | .endpoint => 0x220020000020000028880000000000000000000000000000000000000000000000000000000000000000000000000000008000000000000000000000000000000000
theorem plannedAdvance_ev (sd : Side) (dst : Eid) (stream : BitVec 4) (s : State) :
    Ev (Fp.plannedAdvance sd) s (plannedAdvance sd dst stream s) := by
  cases sd <;> (
    unfold plannedAdvance
    repeat' first
      | with_reducible apply Ev.refl | with_reducible assumption | exact rfl
      | with_reducible apply Ev.seq (bump_ev _ _ _ _ ?_) ?_ ?_ | with_reducible apply Ev.seq (onSrcSpace_ev ..) ?_ ?_
      | with_reducible apply Ev.ite ?_ ?_ | dsimp only | contradiction | split)

def Fp.endToDead : Side → Nat
  | .module => 0x200000000110010000000000000000000100004005100000000000000000000000000000000000000000000000000000000000000000000000000000000000000000000000000
  | .endpoint => 0x220020000020000028880000000000000000000000000000000000000000000000000000000000000000000000000000000000000000000000000000000000000000
theorem endToDead_ev (sd : Side) (dst : Eid) (s : State) :
    Ev (Fp.endToDead sd) s (endToDead sd dst s) := by
  cases sd <;> (
    unfold endToDead
    repeat' first
      | with_reducible apply Ev.refl | with_reducible assumption | exact rfl
      | with_reducible apply Ev.seq (onXpt_ev ..) ?_ ?_ | with_reducible apply Ev.seq (endOps_ev ..) ?_ ?_
      | with_reducible apply Ev.ite ?_ ?_ | dsimp only | contradiction | split)

def Fp.peerReset : Side → Nat
  | .module => 0x200000000310070c00020000028880000100004005100000000041000000000000000000000000000000000000000000000000000000000000000000000c00000000000000000
  | .endpoint => 0x2000000003200b0c00020000028880000100004005100000000081000000000000000000000000000000000000000000000000000000000000000000000c00000000000000000
theorem peerReset_ev (sd : Side) (e : Eid) (s : State) :
    Ev (Fp.peerReset sd) s (peerReset sd e s) := by
  cases sd <;> (
    unfold peerReset
    repeat' first
      | with_reducible apply Ev.refl | with_reducible assumption | exact rfl
      | with_reducible apply Ev.seq (wr_ev _ _ _ _ _ ?_) ?_ ?_
      | with_reducible apply Ev.seq (onUnit_ev _ _ _ ?_) (Sub.refl _) ?_ | with_reducible apply Ev.seq (onXpt_ev ..) ?_ ?_
      | with_reducible apply Ev.seq (replay_ev ..) ?_ ?_
      | (constructor <;> first | exact .inl rfl | exact .inr rfl | exact rfl | exact fun h => h | exact fun _ => rfl)
      | dsimp only | contradiction | split)

def Fp.writePeerReset : Side → Nat
  | .module => 0x200000000310070c00020000028880000100004005100000000041000000000000000000000000000000000000000000000000000000000000000000000c00000000000000000
  | .endpoint => 0x2000000003200b0c00020000028880000100004005100000000081000000000000000000000000000000000000000000000000000000000000000000000c00000000000000000
theorem writePeerReset_ev (sd : Side) (e : Eid) (s : State) :
    Ev (Fp.writePeerReset sd) s (writePeerReset sd e s) := by
  cases sd <;> (
    unfold writePeerReset
    repeat' first
      | with_reducible apply Ev.refl | with_reducible assumption | exact rfl
      | with_reducible apply Ev.seq (peerReset_ev ..) ?_ ?_ | with_reducible apply Ev.seq (regAccess_ev ..) ?_ ?_
      | with_reducible apply Ev.ite ?_ ?_ | dsimp only | contradiction | split)

end Sys2Proof.Machine
end

