-- ==== Sys2Proof/Laws/EvPoolOps.lean ====
section
/-! SUPPORT. What the operations of Machine/PoolOps.lean may touch: one law for each, cited in place of unfolding it. The numbers are
sets of parts (Laws/Frame.lean, `Part.idx`). -/

set_option exponentiation.threshold 1024
set_option linter.unreachableTactic false
set_option linter.unusedTactic false

namespace Sys2Proof.Machine

theorem onPool_ev {F : Nat} (f : PoolState → PoolState) (s : State) (h : ModOk F s.m { s.m with pool := f s.m.pool }) :
    Ev F s (onPool f s) := onM_ev _ _ h

def Fp.ddrWrite : Nat := 0x9000000000000000000000000000000000000000000000000000000000000000000000000000000000000000000000000000000000000000000000000000000000000000
theorem ddrWrite_ev (key : Nat) (a : Nat) (data : List Byte) (s : State) :
    Ev Fp.ddrWrite s (ddrWrite key a data s) := by
  unfold ddrWrite
  repeat' first
    | with_reducible apply Ev.refl | with_reducible assumption | exact rfl
    | with_reducible apply Ev.seq (onPool_ev _ _ ?_) (Sub.refl _) ?_ | with_reducible apply Ev.foldl (fun _ _ => ?_) ?_
    | with_reducible apply Ev.foldlSnd (fun _ _ => ?_) ?_
    | (constructor <;> first | exact .inl rfl | exact fun h => memWrite_wf _ _ _ h | exact fun h => memWrite_wf _ _ _ (memWrite_wf _ _ _ h) | exact .inr rfl | exact rfl | exact fun h => h | exact fun _ => rfl)
    | dsimp only | split

def Fp.markPoison : Nat := 0x200004000100010000000000000000000100004005100000000001000000000000000000000000000000000000000004000000000000000000000000000000000000000000000
theorem markPoison_ev (line : Nat) (s : State) :
    Ev Fp.markPoison s (markPoison line s) := by
  unfold markPoison
  repeat' first
    | with_reducible apply Ev.refl | with_reducible assumption | exact rfl
    | with_reducible apply Ev.seq (bump_ev _ _ _ _ ?_) ?_ ?_
    | with_reducible apply Ev.seq (onPool_ev _ _ ?_) (Sub.refl _) ?_ | with_reducible apply Ev.ite ?_ ?_
    | (constructor <;> first | exact .inl rfl | exact .inr rfl | exact rfl | exact fun h => h | exact fun _ => rfl)
    | dsimp only | split

def Fp.clearPoison : Nat := 0x4000000000000000000000000000000000000000000000000000000000000000000000000000000000000000000000000000000000000000000000000000000000000000
theorem clearPoison_ev (l : List Nat) (s : State) :
    Ev Fp.clearPoison s (clearPoison l s) := by
  unfold clearPoison
  repeat' first
    | with_reducible apply Ev.refl | with_reducible assumption | exact rfl
    | with_reducible apply Ev.seq (onPool_ev _ _ ?_) (Sub.refl _) ?_
    | (constructor <;> first | exact .inl rfl | exact .inr rfl | exact rfl | exact fun h => h | exact fun _ => rfl)
    | dsimp only | split

theorem refuse_ev (sd : Side) (st : Status) (r : Reg) (s : State) (h : r.isCounter = true) :
    Ev ((Part.reg sd r).bit ||| Fp.logBump sd) s (refuse sd st r s).2 := bump_ev _ _ _ _ h

def Fp.openRequest : Side → Nat
  | .module => 0x200000000100010000000000000000000100004005100001440001000000000000000000000000000000000000000000000000000000000000000000000000000000000000000
  | .endpoint => 0x200020000020000028880000000000000000002880000000000000000000000000000000000000000000000000000000000000000000000000000000000000000000
theorem openRequest_ev (sd : Side) (p : Packet) (s : State) :
    Ev (Fp.openRequest sd) s (openRequest sd p s).2 := by
  cases sd <;> (
    unfold openRequest
    repeat' first
      | with_reducible apply Ev.refl | with_reducible assumption | exact rfl
      | with_reducible apply Ev.seq (bump_ev _ _ _ _ ?_) ?_ ?_ | dsimp only
      | with_reducible refine Ev.ofPair (by assumption) ?_ | contradiction | split)

def Fp.checkWindow : Side → Nat
  | .module => 0x200000000100010000000000000000000100004005100001540001000000000000000000000000000000000000000000000000550000000000000000000000000000000000000
  | .endpoint => 0x200020000020000028880000000000000000002a80000000000000000000000000000000000000000000000000000aa0000000000000000000000000000000000000
theorem checkWindow_ev (sd : Side) (p : Packet) (w : Nat) (place : Place) (s : State) :
    Ev (Fp.checkWindow sd) s (checkWindow sd p w place s).2 := by
  cases sd <;> (
    unfold checkWindow
    repeat' first
      | with_reducible apply Ev.refl | with_reducible assumption | exact rfl
      | with_reducible apply Ev.seq (bump_ev _ _ _ _ ?_) ?_ ?_ | with_reducible apply Ev.seq (refuse_ev _ _ _ _ ?_) ?_ ?_
      | with_reducible apply Ev.seq (openRequest_ev ..) ?_ ?_ | with_reducible apply Ev.ite ?_ ?_ | dsimp only
      | with_reducible refine Ev.ofPair (by assumption) ?_ | contradiction | split)

def Fp.checkMgmt : Nat := 0x200000000100010000000000000000000100004005100000000001000000000000000000000000000000000000000000000000550000000000000000000000000000000000000
theorem checkMgmt_ev (p : Packet) (s : State) :
    Ev Fp.checkMgmt s (checkMgmt p s).2 := by
  unfold checkMgmt
  repeat' first
    | with_reducible apply Ev.refl | with_reducible assumption | exact rfl
    | with_reducible apply Ev.seq (refuse_ev _ _ _ _ ?_) ?_ ?_ | with_reducible apply Ev.ite ?_ ?_ | dsimp only | split

def Fp.checkPlace : Side → Nat
  | .module => 0x200000000100010000000000000000000100004005100001540001000000000000000000000000000000000000000000000000554000000000000000000000000000000000000
  | .endpoint => 0x200020000020000028880000000000000000002a80000000000000000000000000000000000000000000000000000aa8000000000000000000000000000000000000
theorem checkPlace_ev (sd : Side) (p : Packet) (s : State) :
    Ev (Fp.checkPlace sd) s (checkPlace sd p s).2 := by
  cases sd <;> (
    unfold checkPlace
    repeat' first
      | with_reducible apply Ev.refl | with_reducible assumption | exact rfl
      | with_reducible apply Ev.seq (refuse_ev _ _ _ _ ?_) ?_ ?_ | with_reducible apply Ev.seq (checkMgmt_ev ..) ?_ ?_
      | with_reducible apply Ev.seq (checkWindow_ev ..) ?_ ?_ | with_reducible apply Ev.ite ?_ ?_ | dsimp only
      | with_reducible refine Ev.ofPair (by assumption) ?_ | contradiction | split)

def Fp.checkRequest : Side → Nat
  | .module => 0x200000000100010000000000000000000100004005100001540001000000000000000000000000000000000000000000000000554000000000000000000000000000000000000
  | .endpoint => 0x200020000020000028880000000000000000002a80000000000000000000000000000000000000000000000000000aa8000000000000000000000000000000000000
theorem checkRequest_ev (sd : Side) (p : Packet) (s : State) :
    Ev (Fp.checkRequest sd) s (checkRequest sd p s).2 := by
  cases sd <;> (
    unfold checkRequest
    repeat' first
      | with_reducible apply Ev.refl | with_reducible assumption | exact rfl
      | with_reducible apply Ev.seq (checkPlace_ev ..) ?_ ?_ | with_reducible apply Ev.ite ?_ ?_ | dsimp only | contradiction
      | split)

def Fp.moduleWrite : Nat := 0x20000f000100010000000000000000000100004005100000000001000000000000000000000000000000000000000004000000000000000000000000000000000000000000000
theorem moduleWrite_ev (place : Place) (key : Nat) (a : Nat) (data : List Byte) (poison : Bool) (s : State) :
    Ev Fp.moduleWrite s (moduleWrite place key a data poison s).2 := by
  unfold moduleWrite
  repeat' first
    | with_reducible apply Ev.refl | with_reducible assumption | exact rfl
    | with_reducible apply Ev.seq (onPool_ev _ _ ?_) (Sub.refl _) ?_
    | with_reducible apply Ev.seq (clearPoison_ev ..) ?_ ?_ | with_reducible apply Ev.seq (ddrWrite_ev ..) ?_ ?_
    | with_reducible apply Ev.seq (markPoison_ev ..) ?_ ?_ | with_reducible apply Ev.ite ?_ ?_
    | with_reducible apply Ev.foldl (fun _ _ => ?_) ?_ | with_reducible apply Ev.foldlSnd (fun _ _ => ?_) ?_
    | (constructor <;> first | exact .inl rfl | exact fun h => memWrite_wf _ _ _ h | exact fun h => memWrite_wf _ _ _ (memWrite_wf _ _ _ h) | exact .inr rfl | exact rfl | exact fun h => h | exact fun _ => rfl)
    | dsimp only | with_reducible refine Ev.ofPair (by assumption) ?_ | split

def Fp.moduleApply : Nat := 0x20000f000100010000000000000000000100004005100000000001000000000000000000000000000000000000000004000000000000000000000000000000000000000000000
theorem moduleApply_ev (p : Packet) (a : Nat) (place : Place) (readMostly : Bool) (s : State) :
    Ev Fp.moduleApply s (moduleApply p a place readMostly s).2 := by
  unfold moduleApply
  repeat' first
    | with_reducible apply Ev.refl | with_reducible assumption | exact rfl
    | with_reducible apply Ev.seq (moduleWrite_ev ..) ?_ ?_ | with_reducible apply Ev.ite ?_ ?_ | dsimp only
    | with_reducible refine Ev.ofPair (by assumption) ?_ | split

def Fp.replayFree : Side → Nat
  | .module => 0x200000000310030c00020000028880000100004005100000000001000000000000000000000000000000000000000000000000000000000000000000000c00000000000000000
  | .endpoint => 0x200000000320030c00020000028880000100004005100000000001000000000000000000000000000000000000000000000000000000000000000000000c00000000000000000
theorem replayFree_ev (sd : Side) (p : Packet) (s : State) :
    Ev (Fp.replayFree sd) s (replayFree sd p s) := by
  cases sd <;> (
    unfold replayFree
    repeat' first
      | with_reducible apply Ev.refl | with_reducible assumption | exact rfl
      | with_reducible apply Ev.seq (onXpt_ev ..) ?_ ?_ | with_reducible apply Ev.seq (replay_ev ..) ?_ ?_ | dsimp only
      | contradiction | split)

def Fp.replayTake : Side → Nat
  | .module => 0x200000000310030c00020000028880000100004005100000000001000000000000000000000000000000000000000000000000000000000000000000000c00000000000000000
  | .endpoint => 0x200000000320030c00020000028880000100004005100000000001000000000000000000000000000000000000000000000000000000000000000000000c00000000000000000
theorem replayTake_ev (sd : Side) (p : Packet) (s : State) :
    Ev (Fp.replayTake sd) s (replayTake sd p s) := by
  cases sd <;> (
    unfold replayTake
    repeat' first
      | with_reducible apply Ev.refl | with_reducible assumption | exact rfl
      | with_reducible apply Ev.seq (onXpt_ev ..) ?_ ?_ | with_reducible apply Ev.seq (replay_ev ..) ?_ ?_ | dsimp only
      | contradiction | split)

def Fp.replayWrite : Side → Nat
  | .module => 0x200000000310030c00020000028880000100004005100000000001000000000000000000000000000000000000000000000000000000000000000000000c00000000000000000
  | .endpoint => 0x200000000320030c00020000028880000100004005100000000001000000000000000000000000000000000000000000000000000000000000000000000c00000000000000000
theorem replayWrite_ev (sd : Side) (p : Packet) (a : Answer) (s : State) :
    Ev (Fp.replayWrite sd) s (replayWrite sd p a s) := by
  cases sd <;> (
    unfold replayWrite
    repeat' first
      | with_reducible apply Ev.refl | with_reducible assumption | exact rfl
      | with_reducible apply Ev.seq (onXpt_ev ..) ?_ ?_ | with_reducible apply Ev.seq (replay_ev ..) ?_ ?_
      | with_reducible apply Ev.ite ?_ ?_ | dsimp only | contradiction | split)

def Fp.answerReplay : Side → Nat
  | .module => 0x700000000100110400000000000000000100044005100000000001000000000000000000000000000000000000000000000011000000000000000054000000000000000000000
  | .endpoint => 0x100000000200020800020000028880000000000000000000000000000000000000000000000000000000000000000000000022000000000000000000000000000000000000000
theorem answerReplay_ev (sd : Side) (p : Packet) (s : State) :
    Ev (Fp.answerReplay sd) s (answerReplay sd p s) := by
  cases sd <;> (
    unfold answerReplay
    repeat' first
      | with_reducible apply Ev.refl | with_reducible assumption | exact rfl
      | with_reducible apply Ev.seq (bump_ev _ _ _ _ ?_) ?_ ?_ | with_reducible apply Ev.seq (sendResponse_ev ..) ?_ ?_
      | dsimp only | with_reducible refine Ev.ofPair (by assumption) ?_ | contradiction | split)

def Fp.refuseDma : Side → Nat
  | .module => 0x700000000110110400000000000000000100044005100000000001000000000000000000000000000000000000000000000000000000000000000054000000000000000000000
  | .endpoint => 0x100000000220020800020000028880000000000000000000000000000000000000000000000000000000000000000000000000000000000000000000000000000000000000000
theorem refuseDma_ev (sd : Side) (p : Packet) (st : Status) (s : State) :
    Ev (Fp.refuseDma sd) s (refuseDma sd p st s) := by
  cases sd <;> (
    unfold refuseDma
    repeat' first
      | with_reducible apply Ev.refl | with_reducible assumption | exact rfl
      | with_reducible apply Ev.seq (onXpt_ev ..) ?_ ?_ | with_reducible apply Ev.seq (logEvent_ev ..) ?_ ?_
      | with_reducible apply Ev.seq (sendNack_ev ..) ?_ ?_ | dsimp only | contradiction | split)

def Fp.endAccess : Side → Nat
  | .module => 0x700000000310130c00020000028880000100044005100000000001000000000000000000000000000000000000000000000000000000000000000054000c00000000000000000
  | .endpoint => 0x300000000320030c00020000028880000100004005100000000001000000000000000000000000000000000000000000000000000000000000000000000c00000000000000000
theorem endAccess_ev (sd : Side) (p : Packet) (a : Answer) (s : State) :
    Ev (Fp.endAccess sd) s (endAccess sd p a s) := by
  cases sd <;> (
    unfold endAccess
    repeat' first
      | with_reducible apply Ev.refl | with_reducible assumption | exact rfl
      | with_reducible apply Ev.seq (onXpt_ev ..) ?_ ?_ | with_reducible apply Ev.seq (deliver_ev ..) ?_ ?_
      | with_reducible apply Ev.seq (refuseDma_ev ..) ?_ ?_ | with_reducible apply Ev.seq (replay_ev ..) ?_ ?_
      | with_reducible apply Ev.seq (replayWrite_ev ..) ?_ ?_ | with_reducible apply Ev.seq (sendNack_ev ..) ?_ ?_
      | with_reducible apply Ev.seq (sendResponse_ev ..) ?_ ?_ | with_reducible apply Ev.ite ?_ ?_ | dsimp only
      | contradiction | split)

def Fp.startWork : Side → Nat
  | .module => 0x10000000000000000000000000000000000000000000000000000000000000000000000000000000000000000000000000000000000000000000000000000000000
  | .endpoint => 0x20000000000000000000000000000000000000000000000000000000000000000000000000000000000000000000000000000000000000000000000000000000000
theorem startWork_ev (sd : Side) (p : Packet) (s : State) :
    Ev (Fp.startWork sd) s (startWork sd p s) := by
  cases sd <;> (
    unfold startWork
    repeat' first
      | with_reducible apply Ev.refl | with_reducible assumption | exact rfl
      | with_reducible apply Ev.seq (onXpt_ev ..) ?_ ?_ | with_reducible apply Ev.ite ?_ ?_ | dsimp only | contradiction
      | split)

end Sys2Proof.Machine
end

