-- ==== Sys2Proof/Laws/EvAptOps.lean ====
section
/-! SUPPORT. What the operations of Machine/AptOps.lean may touch: one law for each, cited in place of unfolding it. The numbers are
sets of parts (Laws/Frame.lean, `Part.idx`). -/

set_option exponentiation.threshold 1024
set_option linter.unreachableTactic false
set_option linter.unusedTactic false

namespace Sys2Proof.Machine

def Fp.onPci : Nat := 0x200000000000000000000000000000000000000000000000000000000000000000000000000000000000000000000000000000000000000000000000000000000000000000000
theorem onPci_ev (f : PciState → PciState) (s : State) :
    Ev Fp.onPci s (onPci f s) := by
  unfold onPci
  repeat' first
    | with_reducible apply Ev.refl | with_reducible assumption | exact rfl
    | with_reducible apply Ev.seq (onM_ev _ _ ?_) (Sub.refl _) ?_
    | (constructor <;> first | exact .inl rfl | exact .inr rfl | exact rfl | exact fun h => h | exact fun _ => rfl)
    | dsimp only | split

def Fp.aptFail : Nat := 0x200000000100010000000000000000000150004005100000000001000000000000000000000000000000000000000000000000000000000000000000000000000000000000000
theorem aptFail_ev (write : Bool) (off : Nat) (st : Status) (s : State) :
    Ev Fp.aptFail s (aptFail write off st s) := by
  unfold aptFail
  repeat' first
    | with_reducible apply Ev.refl | with_reducible assumption | exact rfl
    | with_reducible apply Ev.seq (wr_ev _ _ _ _ _ ?_) ?_ ?_ | with_reducible apply Ev.seq (wrb_ev _ _ _ _ _ ?_) ?_ ?_
    | with_reducible apply Ev.seq (bump_ev _ _ _ _ ?_) ?_ ?_ | with_reducible apply Ev.seq (raiseSource_ev ..) ?_ ?_
    | with_reducible apply Ev.ite ?_ ?_ | dsimp only | split

def Fp.startApt : Nat := 0x700000000110110400000000000000000100044005100000000001000000000000000000000000000000000000000000000000000004004000000054000000000000000000000
theorem startApt_ev (t : AptTlp) (data : List Byte) (s : State) :
    Ev Fp.startApt s (startApt t data s) := by
  unfold startApt
  repeat' first
    | with_reducible apply Ev.refl | with_reducible assumption | exact rfl
    | with_reducible apply Ev.seq (issueOp_ev ..) ?_ ?_ | with_reducible apply Ev.seq (onPci_ev ..) ?_ ?_
    | with_reducible apply Ev.ite ?_ ?_ | with_reducible apply Ev.foldl (fun _ _ => ?_) ?_
    | with_reducible apply Ev.foldlSnd (fun _ _ => ?_) ?_ | dsimp only | split

def Fp.newApt : Nat := 0x700000000110110400000000000000000150044005100000000001000000000000000000000000000000000000000000000000000004004000000054000000000000000000000
theorem newApt_ev (write : Bool) (off : Nat) (len : Nat) (data : List Byte) (s : State) :
    Ev Fp.newApt s (newApt write off len data s) := by
  unfold newApt
  repeat' first
    | with_reducible apply Ev.refl | with_reducible assumption | exact rfl | with_reducible apply Ev.seq (emit_ev ..) ?_ ?_
    | with_reducible apply Ev.seq (aptFail_ev ..) ?_ ?_ | with_reducible apply Ev.seq (onPci_ev ..) ?_ ?_
    | with_reducible apply Ev.seq (startApt_ev ..) ?_ ?_ | with_reducible apply Ev.ite ?_ ?_ | dsimp only
    | with_reducible refine Ev.ofPair (by assumption) ?_ | split

def Fp.wakeApt : Nat := 0x700000000110110400000000000000000100044005100000000001000000000000000000000000000000000000000000000000000004004000000054000000000000000000000
theorem wakeApt_ev (s : State) :
    Ev Fp.wakeApt s (wakeApt s) := by
  unfold wakeApt
  repeat' first
    | with_reducible apply Ev.refl | with_reducible assumption | exact rfl
    | with_reducible apply Ev.seq (readyOp_ev ..) ?_ ?_ | with_reducible apply Ev.seq (startApt_ev ..) ?_ ?_
    | with_reducible apply Ev.ite ?_ ?_ | with_reducible apply Ev.foldl (fun _ _ => ?_) ?_
    | with_reducible apply Ev.foldlSnd (fun _ _ => ?_) ?_ | dsimp only | with_reducible refine Ev.ofPair (by assumption) ?_
    | split

def Fp.settleD3 : Nat := 0x200000000000000000000000000000000004000000000000000000000000000000000000000000000000000000000000000000000000000000000000000000000000000000000
theorem settleD3_ev (s : State) :
    Ev Fp.settleD3 s (settleD3 s) := by
  unfold settleD3
  repeat' first
    | with_reducible apply Ev.refl | with_reducible assumption | exact rfl
    | with_reducible apply Ev.seq (wr_ev _ _ _ _ _ ?_) ?_ ?_ | with_reducible apply Ev.seq (onPci_ev ..) ?_ ?_
    | with_reducible apply Ev.ite ?_ ?_ | dsimp only | split

def Fp.aptDone : Nat := 0x700000000110110400000000000000000154044005100000000001000000000000000000000000000000000000000000000000000004004000000054000000000000000000000
theorem aptDone_ev (id : Nat) (piece : Nat) (f : Finished) (s : State) :
    Ev Fp.aptDone s (aptDone id piece f s) := by
  unfold aptDone
  repeat' first
    | with_reducible apply Ev.refl | with_reducible assumption | exact rfl | with_reducible apply Ev.seq (emit_ev ..) ?_ ?_
    | with_reducible apply Ev.seq (aptFail_ev ..) ?_ ?_ | with_reducible apply Ev.seq (onPci_ev ..) ?_ ?_
    | with_reducible apply Ev.seq (settleD3_ev ..) ?_ ?_ | with_reducible apply Ev.seq (wakeApt_ev ..) ?_ ?_
    | with_reducible apply Ev.ite ?_ ?_ | dsimp only | with_reducible refine Ev.ofPair (by assumption) ?_ | split

end Sys2Proof.Machine
end

