-- ==== Sys2Proof/Laws/EvAtsOps.lean ====
section
/-! SUPPORT. What the operations of Machine/AtsOps.lean may touch: one law for each, cited in place of unfolding it. The numbers are
sets of parts (Laws/Frame.lean, `Part.idx`). -/

set_option exponentiation.threshold 1024
set_option linter.unreachableTactic false
set_option linter.unusedTactic false

namespace Sys2Proof.Machine

theorem onEng_ev {F : Nat} (f : EngineState → EngineState) (s : State) (h : ModOk F s.m { s.m with eng := f s.m.eng }) :
    Ev F s (onEng f s) := onM_ev _ _ h

def Fp.onAts : Nat := 0x800000000000000000000000000000000000000000000000000000000000000000000000000000000000000000000000000000000000000000000000000000000000000000
theorem onAts_ev (f : AtsState → AtsState) (s : State) :
    Ev Fp.onAts s (onAts f s) := by
  unfold onAts
  repeat' first
    | with_reducible apply Ev.refl | with_reducible assumption | exact rfl
    | with_reducible apply Ev.seq (onEng_ev _ _ ?_) (Sub.refl _) ?_
    | (constructor <;> first | exact .inl rfl | exact .inr rfl | exact rfl | exact fun h => h | exact fun _ => rfl)
    | dsimp only | split

def Fp.fillL1 : Nat := 0x800000000000000000000000000000000000000000000000000000000000000000000000000000000000000000000000000000000000000000000000000000000000000000
theorem fillL1_ev (u : Nat) (x : Xlat) (s : State) :
    Ev Fp.fillL1 s (fillL1 u x s) := by
  unfold fillL1
  repeat' first
    | with_reducible apply Ev.refl | with_reducible assumption | exact rfl
    | with_reducible apply Ev.seq (onAts_ev ..) ?_ ?_ | dsimp only | split

def Fp.fillL2 : Nat := 0x800000000000000000000000000000000000000000000000000000000000000000000000000000000000000000000000000000000000000000000000000000000000000000
theorem fillL2_ev (x : Xlat) (s : State) :
    Ev Fp.fillL2 s (fillL2 x s) := by
  unfold fillL2
  repeat' first
    | with_reducible apply Ev.refl | with_reducible assumption | exact rfl
    | with_reducible apply Ev.seq (onAts_ev ..) ?_ ?_ | dsimp only | split

def Fp.sendAsk : Nat := 0x200000000100010000000000000000000100004005100000000001000000000000000010000000000000000000000000000000000000000000000000000000000000000000000
theorem sendAsk_ev (pasid : Nat) (page : Nat) (s : State) :
    Ev Fp.sendAsk s (sendAsk pasid page s) := by
  unfold sendAsk
  repeat' first
    | with_reducible apply Ev.refl | with_reducible assumption | exact rfl | with_reducible apply Ev.seq (emit_ev ..) ?_ ?_
    | with_reducible apply Ev.seq (bump_ev _ _ _ _ ?_) ?_ ?_ | dsimp only | split

def Fp.lookupPage : Nat := 0x200800000100010000000000000000000100004005100000000001000000000000000010000000000000000000000000000000000000000000000000000000000000000000000
theorem lookupPage_ev (u : Nat) (pasid : Nat) (page : Nat) (write : Bool) (s : State) :
    Ev Fp.lookupPage s (lookupPage u pasid page write s).2 := by
  unfold lookupPage
  repeat' first
    | with_reducible apply Ev.refl | with_reducible assumption | exact rfl
    | with_reducible apply Ev.seq (fillL1_ev ..) ?_ ?_ | with_reducible apply Ev.seq (fillL2_ev ..) ?_ ?_
    | with_reducible apply Ev.seq (onAts_ev ..) ?_ ?_ | with_reducible apply Ev.seq (sendAsk_ev ..) ?_ ?_
    | with_reducible apply Ev.ite ?_ ?_ | dsimp only | with_reducible refine Ev.ofPair (by assumption) ?_ | split

def Fp.takeAsk : Nat := 0x800000000000000000000000000000000000000000000000000000000000000000000000000000000000000000000000000000000000000000000000000000000000000000
theorem takeAsk_ev (pasid : Nat) (page : Nat) (s : State) :
    Ev Fp.takeAsk s (takeAsk pasid page s).2 := by
  unfold takeAsk
  repeat' first
    | with_reducible apply Ev.refl | with_reducible assumption | exact rfl
    | with_reducible apply Ev.seq (onAts_ev ..) ?_ ?_ | dsimp only | split

def Fp.notePr : Nat := 0x1000000000000000000000000000000000000000000000000000000000000000000000
theorem notePr_ev (s : State) :
    Ev Fp.notePr s (notePr s) := by
  unfold notePr
  repeat' first
    | with_reducible apply Ev.refl | with_reducible assumption | exact rfl
    | with_reducible apply Ev.seq (wr_ev _ _ _ _ _ ?_) ?_ ?_ | dsimp only | split

def Fp.pageRequest : Nat := 0x200800000100010000000000000000000100004005100000000001000000000000000041000000000000000000000000000000000000000000000000000000000000000000000
theorem pageRequest_ev (pasid : Nat) (pages : List (Nat × Bool)) (thread : Option (Nat × Nat)) (s : State) :
    Ev Fp.pageRequest s (pageRequest pasid pages thread s).2 := by
  unfold pageRequest
  repeat' first
    | with_reducible apply Ev.refl | with_reducible assumption | exact rfl | with_reducible apply Ev.seq (emit_ev ..) ?_ ?_
    | with_reducible apply Ev.seq (bump_ev _ _ _ _ ?_) ?_ ?_ | with_reducible apply Ev.seq (notePr_ev ..) ?_ ?_
    | with_reducible apply Ev.seq (onAts_ev ..) ?_ ?_ | with_reducible apply Ev.ite ?_ ?_ | dsimp only
    | with_reducible refine Ev.ofPair (by assumption) ?_ | split

def Fp.keepXlats : Nat := 0x800000000000000000000000000000000000000000000000000000000000000000000000000000000000000000000000000000000000000000000000000000000000000000
theorem keepXlats_ev (keep : Xlat → Bool) (s : State) :
    Ev Fp.keepXlats s (keepXlats keep s) := by
  unfold keepXlats
  repeat' first
    | with_reducible apply Ev.refl | with_reducible assumption | exact rfl
    | with_reducible apply Ev.seq (onAts_ev ..) ?_ ?_ | dsimp only | split

def Fp.noteInv : Nat := 0x1000000000000000000000000000000000000000000000000000000000000000000000
theorem noteInv_ev (s : State) :
    Ev Fp.noteInv s (noteInv s) := by
  unfold noteInv
  repeat' first
    | with_reducible apply Ev.refl | with_reducible assumption | exact rfl
    | with_reducible apply Ev.seq (wr_ev _ _ _ _ _ ?_) ?_ ?_ | dsimp only | split

def Fp.completeInval : Nat := 0x200800000100010000000000000000000100004005100000000001000000000000000401000000000000000000000000000000000000000000000000000000000000000000000
theorem completeInval_ev (itag : Nat) (s : State) :
    Ev Fp.completeInval s (completeInval itag s) := by
  unfold completeInval
  repeat' first
    | with_reducible apply Ev.refl | with_reducible assumption | exact rfl | with_reducible apply Ev.seq (emit_ev ..) ?_ ?_
    | with_reducible apply Ev.seq (bump_ev _ _ _ _ ?_) ?_ ?_ | with_reducible apply Ev.seq (noteInv_ev ..) ?_ ?_
    | with_reducible apply Ev.seq (onAts_ev ..) ?_ ?_ | dsimp only | split

end Sys2Proof.Machine
end

