-- ==== Sys2Proof/Laws/EvHomeOps.lean ====
section
/-! SUPPORT. What the operations of Machine/HomeOps.lean may touch: one law for each, cited in place of unfolding it. The numbers are
sets of parts (Laws/Frame.lean, `Part.idx`). -/

set_option exponentiation.threshold 1024
set_option linter.unreachableTactic false
set_option linter.unusedTactic false

namespace Sys2Proof.Machine

def Fp.onDir : Nat := 0x800000000000000000000000000000000000000000000000000000000000000000000000000000000000000000000000000000000000000000000000000000000000000000000
theorem onDir_ev (f : DirState → DirState) (s : State) :
    Ev Fp.onDir s (onDir f s) := by
  unfold onDir
  repeat' first
    | with_reducible apply Ev.refl | with_reducible assumption | exact rfl
    | with_reducible apply Ev.seq (onM_ev _ _ ?_) (Sub.refl _) ?_
    | (constructor <;> first | exact .inl rfl | exact .inr rfl | exact rfl | exact fun h => h | exact fun _ => rfl)
    | dsimp only | split

def Fp.homeWrite : Nat := 0x20000f000100010000000000000000000100004005100000000001000000000000000000000000000000000000000004000000000000000000000000000000000000000000000
theorem homeWrite_ev (line : Nat) (data : List Byte) (s : State) :
    Ev Fp.homeWrite s (homeWrite line data s) := by
  unfold homeWrite
  repeat' first
    | with_reducible apply Ev.refl | with_reducible assumption | exact rfl
    | with_reducible apply Ev.seq (moduleWrite_ev ..) ?_ ?_ | with_reducible apply Ev.ite ?_ ?_ | dsimp only | split

def Fp.putEntry : Nat := 0x800000000000000000000000000000000000000000000000000000000000000000000000000000000000000000000000000000000000000000000000000000000000000000000
theorem putEntry_ev (line : Nat) (e : Option DirEntry) (s : State) :
    Ev Fp.putEntry s (putEntry line e s) := by
  unfold putEntry
  repeat' first
    | with_reducible apply Ev.refl | with_reducible assumption | exact rfl
    | with_reducible apply Ev.seq (onDir_ev ..) ?_ ?_ | dsimp only | with_reducible refine Ev.ofPair (by assumption) ?_
    | split

def Fp.sendData2 : Nat := 0x700000000100110400000000000000000100044005100000000001000000000000000000000000000000000000000000000000000000000000000054000000000000000000000
theorem sendData2_ev (dst : Eid) (tseq : BitVec 24) (line : Nat) (grant : Nat) (st : Status) (data : List Byte) (s : State) :
    Ev Fp.sendData2 s (sendData2 dst tseq line grant st data s) := by
  unfold sendData2
  repeat' first
    | with_reducible apply Ev.refl | with_reducible assumption | exact rfl
    | with_reducible apply Ev.seq (sendOwn_ev ..) ?_ ?_ | with_reducible apply Ev.ite ?_ ?_ | dsimp only | split

def Fp.sendGo : Nat := 0x700000000100110400000000000000000100044005100000000001000000000000000000000000000000000000000000000000000000000000000054000000000000000000000
theorem sendGo_ev (dst : Eid) (tseq : BitVec 24) (off : Nat) (grant : Nat) (st : Status) (s : State) :
    Ev Fp.sendGo s (sendGo dst tseq off grant st s) := by
  unfold sendGo
  repeat' first
    | with_reducible apply Ev.refl | with_reducible assumption | exact rfl
    | with_reducible apply Ev.seq (sendOwn_ev ..) ?_ ?_ | dsimp only | split

def Fp.sendCmp : Nat := 0x700000000100110400000000000000000100044005100000000001000000000000000000000000000000000000000000000000000000000000000054000000000000000000000
theorem sendCmp_ev (dst : Eid) (tseq : BitVec 24) (off : Nat) (stale : Bool) (s : State) :
    Ev Fp.sendCmp s (sendCmp dst tseq off stale s) := by
  unfold sendCmp
  repeat' first
    | with_reducible apply Ev.refl | with_reducible assumption | exact rfl
    | with_reducible apply Ev.seq (sendOwn_ev ..) ?_ ?_ | dsimp only | split

def Fp.sendSnoops : Nat := 0x700000000100110400000000000000000100044005100000000001000000000000000000000000000000000000000000400000000000000000000054000000000000000000000
theorem sendSnoops_ev (l : List HomeSnoop) (s : State) :
    Ev Fp.sendSnoops s (sendSnoops l s) := by
  unfold sendSnoops
  repeat' first
    | with_reducible apply Ev.refl | with_reducible assumption | exact rfl
    | with_reducible apply Ev.seq (bump_ev _ _ _ _ ?_) ?_ ?_ | with_reducible apply Ev.seq (sendOwn_ev ..) ?_ ?_
    | with_reducible apply Ev.foldl (fun _ _ => ?_) ?_ | with_reducible apply Ev.foldlSnd (fun _ _ => ?_) ?_ | dsimp only
    | with_reducible refine Ev.ofPair (by assumption) ?_ | split

def Fp.endTxn : Nat := 0x800000000000000000000000000000000000000000000000000000000000000000000000000000000000000000000000000000000000000000000000000000000000000000000
theorem endTxn_ev (id : Nat) (s : State) :
    Ev Fp.endTxn s (endTxn id s) := by
  unfold endTxn
  repeat' first
    | with_reducible apply Ev.refl | with_reducible assumption | exact rfl
    | with_reducible apply Ev.seq (onDir_ev ..) ?_ ?_ | dsimp only | split

def Fp.putTxn : Nat := 0x800000000000000000000000000000000000000000000000000000000000000000000000000000000000000000000000000000000000000000000000000000000000000000000
theorem putTxn_ev (t : HomeTxn) (s : State) :
    Ev Fp.putTxn s (putTxn t s) := by
  unfold putTxn
  repeat' first
    | with_reducible apply Ev.refl | with_reducible assumption | exact rfl
    | with_reducible apply Ev.seq (onDir_ev ..) ?_ ?_ | with_reducible apply Ev.ite ?_ ?_ | dsimp only | split

def Fp.grantTxn : Nat := 0x800000000000000000000000000000000000000000000000000000000000000000000000000000000000000000000000000000000000000000000000000000000000000000000
theorem grantTxn_ev (t : HomeTxn) (grant : Nat) (s : State) :
    Ev Fp.grantTxn s (grantTxn t grant s) := by
  unfold grantTxn
  repeat' first
    | with_reducible apply Ev.refl | with_reducible assumption | exact rfl
    | with_reducible apply Ev.seq (endTxn_ev ..) ?_ ?_ | with_reducible apply Ev.seq (putTxn_ev ..) ?_ ?_
    | with_reducible apply Ev.ite ?_ ?_ | dsimp only | split

def Fp.grantFromHome : Nat := 0xf00000000100110400000000000000000100044005100000000001000000000000000000000000000000000000000000000000000000000000000054000000000000000000000
theorem grantFromHome_ev (t : HomeTxn) (p : Packet) (line : Nat) (grant : Nat) (entry : DirEntry) (s : State) :
    Ev Fp.grantFromHome s (grantFromHome t p line grant entry s) := by
  unfold grantFromHome
  repeat' first
    | with_reducible apply Ev.refl | with_reducible assumption | exact rfl
    | with_reducible apply Ev.seq (endTxn_ev ..) ?_ ?_ | with_reducible apply Ev.seq (grantTxn_ev ..) ?_ ?_
    | with_reducible apply Ev.seq (putEntry_ev ..) ?_ ?_ | with_reducible apply Ev.seq (sendData2_ev ..) ?_ ?_
    | with_reducible apply Ev.seq (sendGo_ev ..) ?_ ?_ | with_reducible apply Ev.ite ?_ ?_ | dsimp only
    | with_reducible refine Ev.ofPair (by assumption) ?_ | split

def Fp.grantForwarded : Nat := 0xf00000000100110400000000000000000100044005100000000001000000000000000000000000000000000000000000000000000000000000000054000000000000000000000
theorem grantForwarded_ev (t : HomeTxn) (p : Packet) (line : Nat) (grant : Nat) (entry : DirEntry) (s : State) :
    Ev Fp.grantForwarded s (grantForwarded t p line grant entry s) := by
  unfold grantForwarded
  repeat' first
    | with_reducible apply Ev.refl | with_reducible assumption | exact rfl
    | with_reducible apply Ev.seq (grantTxn_ev ..) ?_ ?_ | with_reducible apply Ev.seq (putEntry_ev ..) ?_ ?_
    | with_reducible apply Ev.seq (sendGo_ev ..) ?_ ?_ | with_reducible apply Ev.ite ?_ ?_ | dsimp only | split

def Fp.finishRead : Nat := 0xf00000000100110400000000000000000100044005100000000001000000000000000000000000000000000000000000000000000000000000000054000000000000000000000
theorem finishRead_ev (t : HomeTxn) (r : Nat) (p : Packet) (line : Nat) (s : State) :
    Ev Fp.finishRead s (finishRead t r p line s) := by
  unfold finishRead
  repeat' first
    | with_reducible apply Ev.refl | with_reducible assumption | exact rfl
    | with_reducible apply Ev.seq (grantForwarded_ev ..) ?_ ?_ | with_reducible apply Ev.seq (grantFromHome_ev ..) ?_ ?_
    | with_reducible apply Ev.ite ?_ ?_ | dsimp only | with_reducible refine Ev.ofPair (by assumption) ?_ | split

def Fp.finishOwn : Nat := 0xf00000000100110400000000000000000100044005100000000001000000000000000000000000000000000000000000000000000000000000000054000000000000000000000
theorem finishOwn_ev (t : HomeTxn) (r : Nat) (p : Packet) (line : Nat) (upgrade : Bool) (s : State) :
    Ev Fp.finishOwn s (finishOwn t r p line upgrade s) := by
  unfold finishOwn
  repeat' first
    | with_reducible apply Ev.refl | with_reducible assumption | exact rfl
    | with_reducible apply Ev.seq (endTxn_ev ..) ?_ ?_ | with_reducible apply Ev.seq (grantForwarded_ev ..) ?_ ?_
    | with_reducible apply Ev.seq (grantFromHome_ev ..) ?_ ?_ | with_reducible apply Ev.seq (grantTxn_ev ..) ?_ ?_
    | with_reducible apply Ev.seq (putEntry_ev ..) ?_ ?_ | with_reducible apply Ev.seq (sendGo_ev ..) ?_ ?_
    | with_reducible apply Ev.ite ?_ ?_ | dsimp only | split

def Fp.finishNc : Nat := 0xf00000000100110400000000000000000100044005100000000001000000000000000000000000000000000000000040000000000000000000000054000000000000000000000
theorem finishNc_ev (t : HomeTxn) (p : Packet) (line : Nat) (s : State) :
    Ev Fp.finishNc s (finishNc t p line s) := by
  unfold finishNc
  repeat' first
    | with_reducible apply Ev.refl | with_reducible assumption | exact rfl
    | with_reducible apply Ev.seq (bump_ev _ _ _ _ ?_) ?_ ?_ | with_reducible apply Ev.seq (endTxn_ev ..) ?_ ?_
    | with_reducible apply Ev.seq (grantTxn_ev ..) ?_ ?_ | with_reducible apply Ev.seq (sendData2_ev ..) ?_ ?_
    | with_reducible apply Ev.ite ?_ ?_ | dsimp only | with_reducible refine Ev.ofPair (by assumption) ?_ | split

def Fp.finishAccess : Nat := 0xf0000f000310130c00020000028880000100044005100000000001000000000000000000000000000000000000000004000000000000000000000054000c00000000000000000
theorem finishAccess_ev (t : HomeTxn) (p : Packet) (addr : Nat) (again : Bool) (s : State) :
    Ev Fp.finishAccess s (finishAccess t p addr again s) := by
  unfold finishAccess
  repeat' first
    | with_reducible apply Ev.refl | with_reducible assumption | exact rfl
    | with_reducible apply Ev.seq (endAccess_ev ..) ?_ ?_ | with_reducible apply Ev.seq (endTxn_ev ..) ?_ ?_
    | with_reducible apply Ev.seq (moduleApply_ev ..) ?_ ?_ | with_reducible apply Ev.seq (putEntry_ev ..) ?_ ?_
    | with_reducible apply Ev.seq (sendResponse_ev ..) ?_ ?_ | with_reducible apply Ev.ite ?_ ?_
    | with_reducible apply Ev.foldl (fun _ _ => ?_) ?_ | with_reducible apply Ev.foldlSnd (fun _ _ => ?_) ?_ | dsimp only
    | split

def Fp.settleRegions : Nat := 0x800000000000000000000000000000000000000000000000000000000000000000000000000000000000000000000400000000000000000000000000000000000000000000000
theorem settleRegions_ev (s : State) :
    Ev Fp.settleRegions s (settleRegions s) := by
  unfold settleRegions
  repeat' first
    | with_reducible apply Ev.refl | with_reducible assumption | exact rfl
    | with_reducible apply Ev.seq (wrb_ev _ _ _ _ _ ?_) ?_ ?_ | with_reducible apply Ev.seq (onDir_ev ..) ?_ ?_
    | with_reducible apply Ev.ite ?_ ?_ | with_reducible apply Ev.foldl (fun _ _ => ?_) ?_
    | with_reducible apply Ev.foldlSnd (fun _ _ => ?_) ?_ | dsimp only | split

def Fp.finishTxn : Nat := 0xf0000f000310130c00020000028880000100044005100000000001000000000000000000000000000000000000000444000000000000000000000054000c00000000000000000
theorem finishTxn_ev (t : HomeTxn) (s : State) :
    Ev Fp.finishTxn s (finishTxn t s) := by
  unfold finishTxn
  repeat' first
    | with_reducible apply Ev.refl | with_reducible assumption | exact rfl
    | with_reducible apply Ev.seq (endTxn_ev ..) ?_ ?_ | with_reducible apply Ev.seq (finishAccess_ev ..) ?_ ?_
    | with_reducible apply Ev.seq (finishNc_ev ..) ?_ ?_ | with_reducible apply Ev.seq (finishOwn_ev ..) ?_ ?_
    | with_reducible apply Ev.seq (finishRead_ev ..) ?_ ?_ | with_reducible apply Ev.seq (putEntry_ev ..) ?_ ?_
    | with_reducible apply Ev.seq (settleRegions_ev ..) ?_ ?_ | with_reducible apply Ev.ite ?_ ?_
    | with_reducible apply Ev.foldl (fun _ _ => ?_) ?_ | with_reducible apply Ev.foldlSnd (fun _ _ => ?_) ?_ | dsimp only
    | with_reducible refine Ev.ofPair (by assumption) ?_ | split

def Fp.openTxn : Nat := 0xf0000f000310130c00020000028880000100044005100000000001000000000000000000000000000000000000000444400000000000000000000054000c00000000000000000
theorem openTxn_ev (use : HomeUse) (lines : List Nat) (tseq : BitVec 24) (mayHold : Bool) (snoops : List HomeSnoop) (s : State) :
    Ev Fp.openTxn s (openTxn use lines tseq mayHold snoops s) := by
  unfold openTxn
  repeat' first
    | with_reducible apply Ev.refl | with_reducible assumption | exact rfl
    | with_reducible apply Ev.seq (finishTxn_ev ..) ?_ ?_ | with_reducible apply Ev.seq (onDir_ev ..) ?_ ?_
    | with_reducible apply Ev.seq (sendSnoops_ev ..) ?_ ?_ | with_reducible apply Ev.ite ?_ ?_ | dsimp only | split

def Fp.homeTseq : Nat := 0x800000000000000000000000000000000000000000000000000000000000000000000000000000000000000000000000000000000000000000000000000000000000000000000
theorem homeTseq_ev (s : State) :
    Ev Fp.homeTseq s (homeTseq s).2 := by
  unfold homeTseq
  repeat' first
    | with_reducible apply Ev.refl | with_reducible assumption | exact rfl
    | with_reducible apply Ev.seq (onDir_ev ..) ?_ ?_ | dsimp only | split

def Fp.startRequest : Nat := 0xf0000f000310130c00020000028880000100044005100000000001000000000000000000000000000000000000000444400000000000000000000054000c00000000000000000
theorem startRequest_ev (port : Nat) (r : Nat) (p : Packet) (s : State) :
    Ev Fp.startRequest s (startRequest port r p s) := by
  unfold startRequest
  repeat' first
    | with_reducible apply Ev.refl | with_reducible assumption | exact rfl
    | with_reducible apply Ev.seq (openTxn_ev ..) ?_ ?_ | with_reducible apply Ev.ite ?_ ?_ | dsimp only
    | with_reducible refine Ev.ofPair (by assumption) ?_ | split

def Fp.startAccess : Nat := 0xf0000f000310130c00020000028880000100044005100000000001000000000000000000000000000000000000000444400000000000000000000054000c00000000000000000
theorem startAccess_ev (port : Nat) (p : Packet) (addr : Nat) (again : Bool) (s : State) :
    Ev Fp.startAccess s (startAccess port p addr again s) := by
  unfold startAccess
  repeat' first
    | with_reducible apply Ev.refl | with_reducible assumption | exact rfl
    | with_reducible apply Ev.seq (homeTseq_ev ..) ?_ ?_ | with_reducible apply Ev.seq (openTxn_ev ..) ?_ ?_
    | with_reducible apply Ev.ite ?_ ?_ | dsimp only | with_reducible refine Ev.ofPair (by assumption) ?_ | split

def Fp.takeWb : Nat := 0xf0000f000100110400000000000000000100044005100000000001000000000000000000000000000000000000000005000000000000000000000054000000000000000000000
theorem takeWb_ev (slot : Nat) (p : Packet) (s : State) :
    Ev Fp.takeWb s (takeWb slot p s) := by
  unfold takeWb
  repeat' first
    | with_reducible apply Ev.refl | with_reducible assumption | exact rfl
    | with_reducible apply Ev.seq (bump_ev _ _ _ _ ?_) ?_ ?_ | with_reducible apply Ev.seq (homeWrite_ev ..) ?_ ?_
    | with_reducible apply Ev.seq (onDir_ev ..) ?_ ?_ | with_reducible apply Ev.seq (putEntry_ev ..) ?_ ?_
    | with_reducible apply Ev.seq (sendCmp_ev ..) ?_ ?_ | with_reducible apply Ev.ite ?_ ?_ | dsimp only
    | with_reducible refine Ev.ofPair (by assumption) ?_ | split

def Fp.takeEvict : Nat := 0xf00000000100110400000000000000000100044005100000000001000000000000000000000000000000000000000000000000000000000000000054000000000000000000000
theorem takeEvict_ev (slot : Nat) (p : Packet) (s : State) :
    Ev Fp.takeEvict s (takeEvict slot p s) := by
  unfold takeEvict
  repeat' first
    | with_reducible apply Ev.refl | with_reducible assumption | exact rfl
    | with_reducible apply Ev.seq (putEntry_ev ..) ?_ ?_ | with_reducible apply Ev.seq (sendCmp_ev ..) ?_ ?_
    | with_reducible apply Ev.ite ?_ ?_ | dsimp only | with_reducible refine Ev.ofPair (by assumption) ?_ | split

def Fp.evictWay : Nat := 0xf0000f000310130c00020000028880000100044005100000000001000000000000000000000000000000000000000444500000000000000000000054000c00000000000000000
theorem evictWay_ev (line : Nat) (s : State) :
    Ev Fp.evictWay s (evictWay line s) := by
  unfold evictWay
  repeat' first
    | with_reducible apply Ev.refl | with_reducible assumption | exact rfl
    | with_reducible apply Ev.seq (bump_ev _ _ _ _ ?_) ?_ ?_ | with_reducible apply Ev.seq (homeTseq_ev ..) ?_ ?_
    | with_reducible apply Ev.seq (openTxn_ev ..) ?_ ?_ | with_reducible apply Ev.ite ?_ ?_
    | with_reducible apply Ev.foldl (fun _ _ => ?_) ?_ | with_reducible apply Ev.foldlSnd (fun _ _ => ?_) ?_ | dsimp only
    | with_reducible refine Ev.ofPair (by assumption) ?_ | split

def Fp.makeEntry : Nat := 0xf0000f000310130c00020000028880000100044005100000000001000000000000000000000000000000000000000444500000000000000000000054000c00000000000000000
theorem makeEntry_ev (line : Nat) (s : State) :
    Ev Fp.makeEntry s (makeEntry line s) := by
  unfold makeEntry
  repeat' first
    | with_reducible apply Ev.refl | with_reducible assumption | exact rfl
    | with_reducible apply Ev.seq (evictWay_ev ..) ?_ ?_ | with_reducible apply Ev.ite ?_ ?_ | dsimp only | split

def Fp.startUse : Nat := 0xf0000f000310130c00020000028880000100044005100000000001000000000000000000000000000000000000000445400000000000000000000054000c00000000000000000
theorem startUse_ev (u : HomeUse) (s : State) :
    Ev Fp.startUse s (startUse u s) := by
  unfold startUse
  repeat' first
    | with_reducible apply Ev.refl | with_reducible assumption | exact rfl
    | with_reducible apply Ev.seq (startAccess_ev ..) ?_ ?_ | with_reducible apply Ev.seq (startRequest_ev ..) ?_ ?_
    | with_reducible apply Ev.seq (takeEvict_ev ..) ?_ ?_ | with_reducible apply Ev.seq (takeWb_ev ..) ?_ ?_
    | with_reducible apply Ev.ite ?_ ?_ | dsimp only | with_reducible refine Ev.ofPair (by assumption) ?_ | split

def Fp.submitHome : Nat := 0xf0000f000310130c00020000028880000100044005100000000001000000000000000000000000000000000000000445500000000000000000000054000c00000000000000000
theorem submitHome_ev (u : HomeUse) (s : State) :
    Ev Fp.submitHome s (submitHome u s) := by
  unfold submitHome
  repeat' first
    | with_reducible apply Ev.refl | with_reducible assumption | exact rfl
    | with_reducible apply Ev.seq (makeEntry_ev ..) ?_ ?_ | with_reducible apply Ev.seq (onDir_ev ..) ?_ ?_
    | with_reducible apply Ev.seq (startUse_ev ..) ?_ ?_ | with_reducible apply Ev.ite ?_ ?_ | dsimp only
    | with_reducible refine Ev.ofPair (by assumption) ?_ | split

def Fp.serveLine : Nat := 0xf0000f000310130c00020000028880000100044005100000000001000000000000000000000000000000000000000445500000000000000000000054000c00000000000000000
theorem serveLine_ev (line : Nat) (s : State) :
    Ev Fp.serveLine s (serveLine line s) := by
  unfold serveLine
  repeat' first
    | with_reducible apply Ev.refl | with_reducible assumption | exact rfl
    | with_reducible apply Ev.seq (makeEntry_ev ..) ?_ ?_ | with_reducible apply Ev.seq (onDir_ev ..) ?_ ?_
    | with_reducible apply Ev.seq (startUse_ev ..) ?_ ?_ | with_reducible apply Ev.ite ?_ ?_ | dsimp only
    | with_reducible refine Ev.ofPair (by assumption) ?_ | split

def Fp.clearLine : Nat := 0xf0000f000310130c00020000028880000100044005100000000001000000000000000000000000000000000000000444400000000000000000000054000c00000000000000000
theorem clearLine_ev (line : Nat) (s : State) :
    Ev Fp.clearLine s (clearLine line s) := by
  unfold clearLine
  repeat' first
    | with_reducible apply Ev.refl | with_reducible assumption | exact rfl
    | with_reducible apply Ev.seq (homeTseq_ev ..) ?_ ?_ | with_reducible apply Ev.seq (openTxn_ev ..) ?_ ?_
    | with_reducible apply Ev.ite ?_ ?_ | dsimp only | with_reducible refine Ev.ofPair (by assumption) ?_ | split

def Fp.clearRegion : Nat := 0xf0000f000310130c00020000028880000100044005100000000001000000000000000000000000000000000000000444400000000000000000000054000c00000000000000000
theorem clearRegion_ev (n : Nat) (valid : Bool) (coherent : Bool) (s : State) :
    Ev Fp.clearRegion s (clearRegion n valid coherent s) := by
  unfold clearRegion
  repeat' first
    | with_reducible apply Ev.refl | with_reducible assumption | exact rfl
    | with_reducible apply Ev.seq (clearLine_ev ..) ?_ ?_ | with_reducible apply Ev.seq (onDir_ev ..) ?_ ?_
    | with_reducible apply Ev.seq (settleRegions_ev ..) ?_ ?_ | with_reducible apply Ev.foldl (fun _ _ => ?_) ?_
    | with_reducible apply Ev.foldlSnd (fun _ _ => ?_) ?_ | dsimp only | split

def Fp.serveAll : Nat := 0xf0000f000310130c00020000028880000100044005100000000001000000000000000000000000000000000000000445500000000000000000000054000c00000000000000000
theorem serveAll_ev (s : State) :
    Ev Fp.serveAll s (serveAll s) := by
  unfold serveAll
  repeat' first
    | with_reducible apply Ev.refl | with_reducible assumption | exact rfl
    | with_reducible apply Ev.seq (serveLine_ev ..) ?_ ?_ | with_reducible apply Ev.foldl (fun _ _ => ?_) ?_
    | with_reducible apply Ev.foldlSnd (fun _ _ => ?_) ?_ | dsimp only | split

def Fp.answerSnoop : Nat := 0xf0000f000310130c00020000028880000100044005100000000001000000000000000000000000000000000000000444000000000000000000000054000c00000000000000000
theorem answerSnoop_ev (t : HomeTxn) (x : HomeSnoop) (state : Nat) (fwd : Bool) (lost : Bool) (s : State) :
    Ev Fp.answerSnoop s (answerSnoop t x state fwd lost s) := by
  unfold answerSnoop
  repeat' first
    | with_reducible apply Ev.refl | with_reducible assumption | exact rfl
    | with_reducible apply Ev.seq (finishTxn_ev ..) ?_ ?_ | with_reducible apply Ev.seq (putTxn_ev ..) ?_ ?_
    | with_reducible apply Ev.ite ?_ ?_ | dsimp only | split

def Fp.takeSnoopRsp : Nat := 0xf0000f000310130c00020000028880000100044005100000000001000000000000000000000000000000000000000444000000000000000000000054000c00000000000000000
theorem takeSnoopRsp_ev (slot : Nat) (p : Packet) (s : State) :
    Ev Fp.takeSnoopRsp s (takeSnoopRsp slot p s) := by
  unfold takeSnoopRsp
  repeat' first
    | with_reducible apply Ev.refl | with_reducible assumption | exact rfl
    | with_reducible apply Ev.seq (answerSnoop_ev ..) ?_ ?_ | with_reducible apply Ev.seq (homeWrite_ev ..) ?_ ?_
    | with_reducible apply Ev.seq (onDir_ev ..) ?_ ?_ | with_reducible apply Ev.ite ?_ ?_ | dsimp only
    | with_reducible refine Ev.ofPair (by assumption) ?_ | split

def Fp.checkTc2 : Nat := 0x200000000100010000000000000000000100004005100000000001000000000000000000000000000000000000000000000000154000000000000000000000000000000000000
theorem checkTc2_ev (p : Packet) (s : State) :
    Ev Fp.checkTc2 s (checkTc2 p s).2 := by
  unfold checkTc2
  repeat' first
    | with_reducible apply Ev.refl | with_reducible assumption | exact rfl
    | with_reducible apply Ev.seq (bump_ev _ _ _ _ ?_) ?_ ?_ | with_reducible apply Ev.ite ?_ ?_ | dsimp only
    | with_reducible refine Ev.ofPair (by assumption) ?_ | split

def Fp.takeTc2 : Nat := 0xf0000f000310130c00020000028880000100044005100000000001000000000000000000000000000000000000000445500000154000000000000054000c00000000000000000
theorem takeTc2_ev (port : Nat) (p : Packet) (s : State) :
    Ev Fp.takeTc2 s (takeTc2 port p s) := by
  unfold takeTc2
  repeat' first
    | with_reducible apply Ev.refl | with_reducible assumption | exact rfl
    | with_reducible apply Ev.seq (checkTc2_ev ..) ?_ ?_ | with_reducible apply Ev.seq (sendGo_ev ..) ?_ ?_
    | with_reducible apply Ev.seq (submitHome_ev ..) ?_ ?_ | with_reducible apply Ev.ite ?_ ?_ | dsimp only
    | with_reducible refine Ev.ofPair (by assumption) ?_ | split

def Fp.endGranted : Nat := 0x800000000000000000000000000000000000000000000000000000000000000000000000000000000000000000000000000000000000000000000000000000000000000000000
theorem endGranted_ev (t : HomeTxn) (s : State) :
    Ev Fp.endGranted s (endGranted t s) := by
  unfold endGranted
  repeat' first
    | with_reducible apply Ev.refl | with_reducible assumption | exact rfl
    | with_reducible apply Ev.seq (endTxn_ev ..) ?_ ?_ | with_reducible apply Ev.seq (putTxn_ev ..) ?_ ?_
    | with_reducible apply Ev.ite ?_ ?_ | dsimp only | split

def Fp.resendSnoops : Nat := 0x700000000100110400000000000000000100044005100000000001000000000000000000000000000000000000000000000000000000000000000054000000000000000000000
theorem resendSnoops_ev (slot : Nat) (s : State) :
    Ev Fp.resendSnoops s (resendSnoops slot s) := by
  unfold resendSnoops
  repeat' first
    | with_reducible apply Ev.refl | with_reducible assumption | exact rfl
    | with_reducible apply Ev.seq (sendOwn_ev ..) ?_ ?_ | with_reducible apply Ev.ite ?_ ?_
    | with_reducible apply Ev.foldl (fun _ _ => ?_) ?_ | with_reducible apply Ev.foldlSnd (fun _ _ => ?_) ?_ | dsimp only
    | split

def Fp.leafRecovery : Nat := 0xf00000000100110400000000000000000100044005100000000001000000000000000000000000000000000000000100000000000000000000000054000000000000000000000
theorem leafRecovery_ev (slot : Nat) (s : State) :
    Ev Fp.leafRecovery s (leafRecovery slot s) := by
  unfold leafRecovery
  repeat' first
    | with_reducible apply Ev.refl | with_reducible assumption | exact rfl
    | with_reducible apply Ev.seq (bump_ev _ _ _ _ ?_) ?_ ?_ | with_reducible apply Ev.seq (endGranted_ev ..) ?_ ?_
    | with_reducible apply Ev.seq (homeTseq_ev ..) ?_ ?_ | with_reducible apply Ev.seq (logModule_ev ..) ?_ ?_
    | with_reducible apply Ev.seq (onDir_ev ..) ?_ ?_ | with_reducible apply Ev.seq (resendSnoops_ev ..) ?_ ?_
    | with_reducible apply Ev.seq (sendOwn_ev ..) ?_ ?_ | with_reducible apply Ev.ite ?_ ?_
    | with_reducible apply Ev.foldl (fun _ _ => ?_) ?_ | with_reducible apply Ev.foldlSnd (fun _ _ => ?_) ?_ | dsimp only
    | split

def Fp.loseSlot : Nat := 0xa00004000100010000000000000000000100004005100000000001000000000000000000000000000000000000000004000000000000000000000000000000000000000000000
theorem loseSlot_ev (slot : Nat) (s : State) (line : Nat) :
    Ev Fp.loseSlot s (loseSlot slot s line) := by
  unfold loseSlot
  repeat' first
    | with_reducible apply Ev.refl | with_reducible assumption | exact rfl
    | with_reducible apply Ev.seq (markPoison_ev ..) ?_ ?_ | with_reducible apply Ev.seq (putEntry_ev ..) ?_ ?_
    | with_reducible apply Ev.ite ?_ ?_ | dsimp only | with_reducible refine Ev.ofPair (by assumption) ?_ | split

def Fp.takeRecoverDone : Nat := 0xf00004000100110400000000000000000100044005100000000001000000000000000000000000000000000000000004000000000000000000000054000000000000000000000
theorem takeRecoverDone_ev (slot : Nat) (p : Packet) (s : State) :
    Ev Fp.takeRecoverDone s (takeRecoverDone slot p s) := by
  unfold takeRecoverDone
  repeat' first
    | with_reducible apply Ev.refl | with_reducible assumption | exact rfl
    | with_reducible apply Ev.seq (logModule_ev ..) ?_ ?_ | with_reducible apply Ev.seq (loseSlot_ev ..) ?_ ?_
    | with_reducible apply Ev.seq (onDir_ev ..) ?_ ?_ | with_reducible apply Ev.seq (sendCmp_ev ..) ?_ ?_
    | with_reducible apply Ev.ite ?_ ?_ | with_reducible apply Ev.foldl (fun _ _ => ?_) ?_
    | with_reducible apply Ev.foldlSnd (fun _ _ => ?_) ?_ | dsimp only | split

def Fp.answerForDead : Nat := 0xf0000f000310130c00020000028880000100044005100000000001000000000000000000000000000000000000000444000000000000000000000054000c00000000000000000
theorem answerForDead_ev (slot n : Nat) (s : State) : Ev Fp.answerForDead s (answerForDead slot n s) := by
  induction n generalizing s with
  | zero => exact Ev.refl _
  | succ n ih =>
    unfold answerForDead
    repeat' first
      | with_reducible apply Ev.refl | with_reducible assumption | with_reducible apply Ev.seq (ih ..) (Sub.refl _) ?_
      | exact rfl | with_reducible apply Ev.seq (answerSnoop_ev ..) ?_ ?_ | dsimp only
      | with_reducible refine Ev.ofPair (by assumption) ?_ | split

def Fp.leafLosesSlot : Nat := 0xf0000f000310130c00020000028880000100044005100000000001000000000000000000000000000000000000000444000000000000000000000054000c00000000000000000
theorem leafLosesSlot_ev (slot : Nat) (s : State) :
    Ev Fp.leafLosesSlot s (leafLosesSlot slot s) := by
  unfold leafLosesSlot
  repeat' first
    | with_reducible apply Ev.refl | with_reducible assumption | exact rfl
    | with_reducible apply Ev.seq (answerForDead_ev ..) ?_ ?_ | with_reducible apply Ev.seq (endTxn_ev ..) ?_ ?_
    | with_reducible apply Ev.seq (markPoison_ev ..) ?_ ?_ | with_reducible apply Ev.seq (onDir_ev ..) ?_ ?_
    | with_reducible apply Ev.ite ?_ ?_ | with_reducible apply Ev.foldl (fun _ _ => ?_) ?_
    | with_reducible apply Ev.foldlSnd (fun _ _ => ?_) ?_ | dsimp only | split

def Fp.scanSlot : Nat := 0xa00004000100010000000000000000000100004005100000000001000000000000000000000000000000000000000004000000000000000000000000000000000000000000000
theorem scanSlot_ev (slot : Nat) (s : State) :
    Ev Fp.scanSlot s (scanSlot slot s) := by
  unfold scanSlot
  repeat' first
    | with_reducible apply Ev.refl | with_reducible assumption | exact rfl
    | with_reducible apply Ev.seq (loseSlot_ev ..) ?_ ?_ | with_reducible apply Ev.seq (onDir_ev ..) ?_ ?_
    | with_reducible apply Ev.foldl (fun _ _ => ?_) ?_ | with_reducible apply Ev.foldlSnd (fun _ _ => ?_) ?_ | dsimp only
    | split

def Fp.endFlush : Nat := 0x2a00000000100010000000000000000000100004005100000000001000000000000000000000000000000000000004000004000000000000000000000000000000015050400001
theorem endFlush_ev (f : DirFlush) (s : State) :
    Ev Fp.endFlush s (endFlush f s) := by
  unfold endFlush
  repeat' first
    | with_reducible apply Ev.refl | with_reducible assumption | exact rfl
    | with_reducible apply Ev.seq (wr_ev _ _ _ _ _ ?_) ?_ ?_ | with_reducible apply Ev.seq (wrb_ev _ _ _ _ _ ?_) ?_ ?_
    | with_reducible apply Ev.seq (finishChange_ev ..) ?_ ?_ | with_reducible apply Ev.seq (onDir_ev ..) ?_ ?_
    | with_reducible apply Ev.ite ?_ ?_ | dsimp only | with_reducible refine Ev.ofPair (by assumption) ?_ | split

def Fp.startFlush : Nat := 0x2f0000f000310130c00020000028880000100044005100000000001000000000000000000000000000000000000004445504000000000000000000054000c00000015050400001
theorem startFlush_ev (tiles : Nat) (oneSet : Option (Nat × Nat)) (s : State) :
    Ev Fp.startFlush s (startFlush tiles oneSet s) := by
  unfold startFlush
  repeat' first
    | with_reducible apply Ev.refl | with_reducible assumption | exact rfl
    | with_reducible apply Ev.seq (wrb_ev _ _ _ _ _ ?_) ?_ ?_ | with_reducible apply Ev.seq (endFlush_ev ..) ?_ ?_
    | with_reducible apply Ev.seq (homeTseq_ev ..) ?_ ?_ | with_reducible apply Ev.seq (onDir_ev ..) ?_ ?_
    | with_reducible apply Ev.seq (sendOwn_ev ..) ?_ ?_ | with_reducible apply Ev.seq (serveAll_ev ..) ?_ ?_
    | with_reducible apply Ev.ite ?_ ?_ | dsimp only | with_reducible refine Ev.ofPair (by assumption) ?_ | split

def Fp.flushAnswered : Nat := 0x2f0000f000310130c00020000028880000100044005100000000001000000000000000000000000000000000000004445504000000000000000000054000c00000015050400001
theorem flushAnswered_ev (slot : Nat) (s : State) :
    Ev Fp.flushAnswered s (flushAnswered slot s) := by
  unfold flushAnswered
  repeat' first
    | with_reducible apply Ev.refl | with_reducible assumption | exact rfl
    | with_reducible apply Ev.seq (endFlush_ev ..) ?_ ?_ | with_reducible apply Ev.seq (onDir_ev ..) ?_ ?_
    | with_reducible apply Ev.seq (serveAll_ev ..) ?_ ?_ | with_reducible apply Ev.ite ?_ ?_ | dsimp only
    | with_reducible refine Ev.ofPair (by assumption) ?_ | split

end Sys2Proof.Machine
end

