-- ==== Sys2Proof/Laws/EvMrnOps.lean ====
section
/-! SUPPORT. What the operations of Machine/MrnOps.lean may touch: one law for each, cited in place of unfolding it. The numbers are
sets of parts (Laws/Frame.lean, `Part.idx`). -/

set_option exponentiation.threshold 1024
set_option linter.unreachableTactic false
set_option linter.unusedTactic false

namespace Sys2Proof.Machine

def Fp.onMrn : Nat := 0x1000000000000000000000000000000000000000000000000000000000000000000000000000000000000000000000000000000000000000000000000000000000000000000000
theorem onMrn_ev (f : MrnState → MrnState) (s : State) :
    Ev Fp.onMrn s (onMrn f s) := by
  unfold onMrn
  repeat' first
    | with_reducible apply Ev.refl | with_reducible assumption | exact rfl
    | with_reducible apply Ev.seq (onM_ev _ _ ?_) (Sub.refl _) ?_
    | (constructor <;> first | exact .inl rfl | exact .inr rfl | exact rfl | exact fun h => h | exact fun _ => rfl)
    | dsimp only | split

def Fp.putShadow : Nat := 0x80000000000000000000000000000000000000000000000000000000000000000000000000000000000000000000000000000000000000000000000000000000000000000000000
theorem putShadow_ev (x : ShadowChunk) (s : State) :
    Ev Fp.putShadow s (putShadow x s) := by
  unfold putShadow
  repeat' first
    | with_reducible apply Ev.refl | with_reducible assumption | exact rfl
    | with_reducible apply Ev.seq (onM_ev _ _ ?_) (Sub.refl _) ?_
    | (constructor <;> first | exact .inl rfl | exact .inr rfl | exact rfl | exact fun h => h | exact fun _ => rfl)
    | dsimp only | split

def Fp.skipShadow : Nat := 0x80000000000000000000000000000000000000000100000000000000000000000000000000000000000000000000000000000000000000000000000000000000000000000000000
theorem skipShadow_ev (x : ShadowChunk) (s : State) :
    Ev Fp.skipShadow s (skipShadow x s) := by
  unfold skipShadow
  repeat' first
    | with_reducible apply Ev.refl | with_reducible assumption | exact rfl
    | with_reducible apply Ev.seq (saturate_ev _ _ _ _ _ ?_) ?_ ?_ | with_reducible apply Ev.seq (putShadow_ev ..) ?_ ?_
    | with_reducible apply Ev.ite ?_ ?_ | dsimp only | split

def Fp.copyToShadow : Nat := 0x80600000000100010400000000000000000100044105100000000000000000000000000000000000000000000000000000000000000000000000000000000000000000000000000
theorem copyToShadow_ev (n : Nat) (p : Packet) (s : State) :
    Ev Fp.copyToShadow s (copyToShadow n p s) := by
  unfold copyToShadow
  repeat' first
    | with_reducible apply Ev.refl | with_reducible assumption | exact rfl
    | with_reducible apply Ev.seq (skipShadow_ev ..) ?_ ?_ | with_reducible apply Ev.seq (startPacket_ev ..) ?_ ?_
    | with_reducible apply Ev.ite ?_ ?_ | with_reducible apply Ev.foldl (fun _ _ => ?_) ?_
    | with_reducible apply Ev.foldlSnd (fun _ _ => ?_) ?_ | dsimp only | split

def Fp.putChunk : Nat := 0x1000000000000000000000000000000000000000000000000000000000000000000000000000000000000000000000000000000000000000000000000000000000000000000000
theorem putChunk_ev (k : MrnChunk) (s : State) :
    Ev Fp.putChunk s (putChunk k s) := by
  unfold putChunk
  repeat' first
    | with_reducible apply Ev.refl | with_reducible assumption | exact rfl
    | with_reducible apply Ev.seq (onMrn_ev ..) ?_ ?_ | with_reducible apply Ev.ite ?_ ?_ | dsimp only | split

def Fp.settleSpare : Nat := 0x2200000000100010000000000000000000100004005100000000001000000000000000000000000000000000000004000000000000000000000000000000000000015050400001
theorem settleSpare_ev (s : State) :
    Ev Fp.settleSpare s (settleSpare s) := by
  unfold settleSpare
  repeat' first
    | with_reducible apply Ev.refl | with_reducible assumption | exact rfl
    | with_reducible apply Ev.seq (finishChange_ev ..) ?_ ?_ | with_reducible apply Ev.ite ?_ ?_ | dsimp only | split

def Fp.settleSlots : Nat := 0x2200000000100010000000000000000000100004005100000000001000000000000000000000000000000410000054000000000000000000000000000000000000015050400001
theorem settleSlots_ev (n : Nat) (s : State) :
    Ev Fp.settleSlots s (settleSlots n s) := by
  unfold settleSlots
  repeat' first
    | with_reducible apply Ev.refl | with_reducible assumption | exact rfl
    | with_reducible apply Ev.seq (wr_ev _ _ _ _ _ ?_) ?_ ?_ | with_reducible apply Ev.seq (settleSpare_ev ..) ?_ ?_
    | with_reducible apply Ev.ite ?_ ?_ | dsimp only | split

def Fp.dropChunks : Nat := 0x3200000000100010000000000000000000100004005100000000001000000000000000000000000000000410000054000000000000000000000000000000000000015050400001
theorem dropChunks_ev (n : Nat) (hit : MrnChunk → Bool) (s : State) :
    Ev Fp.dropChunks s (dropChunks n hit s) := by
  unfold dropChunks
  repeat' first
    | with_reducible apply Ev.refl | with_reducible assumption | exact rfl
    | with_reducible apply Ev.seq (onMrn_ev ..) ?_ ?_ | with_reducible apply Ev.seq (settleSlots_ev ..) ?_ ?_ | dsimp only
    | split

def Fp.freeChunk : Nat := 0x3200000000100010000000000000000000100004005100000000001000000000000000000000000000000410000054000000000000000000000000000000000000015050400001
theorem freeChunk_ev (k : MrnChunk) (s : State) :
    Ev Fp.freeChunk s (freeChunk k s) := by
  unfold freeChunk
  repeat' first
    | with_reducible apply Ev.refl | with_reducible assumption | exact rfl
    | with_reducible apply Ev.seq (dropChunks_ev ..) ?_ ?_ | dsimp only | split

def Fp.openChunk : Nat := 0x3200000000100010000000000000000000100004005100000000001000000000000000000000000000000410014054000000000000000000000000000000000000015050400001
theorem openChunk_ev (n step c attempt upAttempt first : Nat) (digest : Option Nat) (s t : State)
    (h : openChunk n step c attempt upAttempt first digest s = some t) : Ev Fp.openChunk s t := by
  unfold openChunk at h
  simp only [Option.map_eq_some_iff] at h
  obtain ⟨_, _, rfl⟩ := h
  repeat' first
    | with_reducible apply Ev.refl | with_reducible assumption | exact rfl
    | with_reducible apply Ev.seq (bump_ev _ _ _ _ ?_) ?_ ?_ | with_reducible apply Ev.seq (onMrn_ev ..) ?_ ?_
    | with_reducible apply Ev.seq (settleSlots_ev ..) ?_ ?_ | with_reducible apply Ev.ite ?_ ?_ | dsimp only | split

def Fp.sendOn : Nat := 0x300000000100010400000000000000000100004005100000000001000000000000000000000000000000000000000000000000000000000000000014000000000000000000000
theorem sendOn_ev (port : Nat) (p : Packet) (s : State) :
    Ev Fp.sendOn s (sendOn port p s) := by
  unfold sendOn
  repeat' first
    | with_reducible apply Ev.refl | with_reducible assumption | exact rfl
    | with_reducible apply Ev.seq (bump_ev _ _ _ _ ?_) ?_ ?_ | with_reducible apply Ev.seq (countUnreachable_ev ..) ?_ ?_
    | with_reducible apply Ev.seq (putOrWait_ev ..) ?_ ?_ | with_reducible apply Ev.ite ?_ ?_ | dsimp only | split

def Fp.copyResult : Nat := 0x300000000100010400000000000000000100004005100000000001000000000000000000000000000000000000000000000000000000000000000014000000000000000000000
theorem copyResult_ev (n : Nat) (p : Packet) (s : State) :
    Ev Fp.copyResult s (copyResult n p s) := by
  unfold copyResult
  repeat' first
    | with_reducible apply Ev.refl | with_reducible assumption | exact rfl
    | with_reducible apply Ev.seq (sendOn_ev ..) ?_ ?_ | with_reducible apply Ev.foldl (fun _ _ => ?_) ?_
    | with_reducible apply Ev.foldlSnd (fun _ _ => ?_) ?_ | dsimp only | split

def Fp.sendUp : Nat := 0x300000000100010400000000000000000100004005100000000001000000000000000000000000000000000000000000000000000000000000000014000000000000000000000
theorem sendUp_ev (n : Nat) (c : Nat) (p : Packet) (s : State) :
    Ev Fp.sendUp s (sendUp n c p s) := by
  unfold sendUp
  repeat' first
    | with_reducible apply Ev.refl | with_reducible assumption | exact rfl
    | with_reducible apply Ev.seq (countUnreachable_ev ..) ?_ ?_ | with_reducible apply Ev.seq (sendOn_ev ..) ?_ ?_
    | dsimp only | with_reducible refine Ev.ofPair (by assumption) ?_ | split

def Fp.sendDown : Nat := 0x700000000100110400000000000000000100044005100000000001000000000000000000000000000000000000000000000000000000000000000054000000000000000000000
theorem sendDown_ev (n : Nat) (arrival : Nat) (p : Packet) (s : State) :
    Ev Fp.sendDown s (sendDown n arrival p s) := by
  unfold sendDown
  repeat' first
    | with_reducible apply Ev.refl | with_reducible assumption | exact rfl
    | with_reducible apply Ev.seq (enqueueMany_ev ..) ?_ ?_ | dsimp only | split

def Fp.askChild : Nat := 0x300000000100010400000000000000000100004005100000000001000000000000000000000000000000000000000000000000000000000000000014000000000000000000000
theorem askChild_ev (n : Nat) (step : Nat) (c : Nat) (attempt : Nat) (port : Nat) (st : Status) (s : State) :
    Ev Fp.askChild s (askChild n step c attempt port st s) := by
  unfold askChild
  repeat' first
    | with_reducible apply Ev.refl | with_reducible assumption | exact rfl
    | with_reducible apply Ev.seq (sendOn_ev ..) ?_ ?_ | dsimp only | split

def Fp.sendPartial : Nat := 0x300000000100010400000000000000000100004005100000000001000000000000000000000000000000000000000000000000000000000000000014000000000000000000000
theorem sendPartial_ev (k : MrnChunk) (s : State) :
    Ev Fp.sendPartial s (sendPartial k s) := by
  unfold sendPartial
  repeat' first
    | with_reducible apply Ev.refl | with_reducible assumption | exact rfl
    | with_reducible apply Ev.seq (sendUp_ev ..) ?_ ?_ | with_reducible apply Ev.foldl (fun _ _ => ?_) ?_
    | with_reducible apply Ev.foldlSnd (fun _ _ => ?_) ?_ | dsimp only | split

def Fp.mrnKeepAbort : Nat := 0x1000000000000000000000000000000000000000000000000000000000000000000000000000000000000000000000000000000000000000000000000000000000000000000000
theorem mrnKeepAbort_ev (n : Nat) (a : StepAbort) (s : State) :
    Ev Fp.mrnKeepAbort s (mrnKeepAbort n a s) := by
  unfold mrnKeepAbort
  repeat' first
    | with_reducible apply Ev.refl | with_reducible assumption | exact rfl
    | with_reducible apply Ev.seq (onMrn_ev ..) ?_ ?_ | dsimp only | split

def Fp.passAbort : Nat := 0x3700000000100110400000000000000000100044005100000000001000000000000000000000000000000410100054000000000000000000000000054000000000015050400001
theorem passAbort_ev (n : Nat) (arrival : Option Nat) (p : Packet) (s : State) :
    Ev Fp.passAbort s (passAbort n arrival p s) := by
  unfold passAbort
  repeat' first
    | with_reducible apply Ev.refl | with_reducible assumption | exact rfl
    | with_reducible apply Ev.seq (bump_ev _ _ _ _ ?_) ?_ ?_ | with_reducible apply Ev.seq (countUnreachable_ev ..) ?_ ?_
    | with_reducible apply Ev.seq (dropChunks_ev ..) ?_ ?_ | with_reducible apply Ev.seq (mrnKeepAbort_ev ..) ?_ ?_
    | with_reducible apply Ev.seq (onMrn_ev ..) ?_ ?_ | with_reducible apply Ev.seq (sendDown_ev ..) ?_ ?_
    | with_reducible apply Ev.seq (sendOn_ev ..) ?_ ?_ | with_reducible apply Ev.ite ?_ ?_ | dsimp only
    | with_reducible refine Ev.ofPair (by assumption) ?_ | split

def Fp.abortChunk : Nat := 0x3700000000100110400000000000000000100044005100000000001000000000000000000000000000000410100054000000000000000000000000054000000000015050400001
theorem abortChunk_ev (k : MrnChunk) (st : Status) (scope : Bool) (culprit : Eid) (member : Option Nat) (s : State) :
    Ev Fp.abortChunk s (abortChunk k st scope culprit member s) := by
  unfold abortChunk
  repeat' first
    | with_reducible apply Ev.refl | with_reducible assumption | exact rfl
    | with_reducible apply Ev.seq (passAbort_ev ..) ?_ ?_ | with_reducible apply Ev.foldl (fun _ _ => ?_) ?_
    | with_reducible apply Ev.foldlSnd (fun _ _ => ?_) ?_ | dsimp only | with_reducible refine Ev.ofPair (by assumption) ?_
    | split

def Fp.abortIfFailed : Nat := 0x3700000000100110400000000000000000100044005100000000001000000000000000000000000000000410100054000000000000000000000000054000000000015050400001
theorem abortIfFailed_ev (k : MrnChunk) (s : State) :
    Ev Fp.abortIfFailed s (abortIfFailed k s) := by
  unfold abortIfFailed
  repeat' first
    | with_reducible apply Ev.refl | with_reducible assumption | exact rfl
    | with_reducible apply Ev.seq (abortChunk_ev ..) ?_ ?_ | dsimp only
    | with_reducible refine Ev.ofPair (by assumption) ?_ | split

def Fp.failChild : Nat := 0x3700000000100110400000000000000000100044005100000000001000000000000000000000000000000410100054000000000000000000000000054000000000015050400001
theorem failChild_ev (port : Nat) (s : State) :
    Ev Fp.failChild s (failChild port s) := by
  unfold failChild
  repeat' first
    | with_reducible apply Ev.refl | with_reducible assumption | exact rfl
    | with_reducible apply Ev.seq (wr_ev _ _ _ _ _ ?_) ?_ ?_ | with_reducible apply Ev.seq (abortChunk_ev ..) ?_ ?_
    | with_reducible apply Ev.seq (onMrn_ev ..) ?_ ?_ | with_reducible apply Ev.ite ?_ ?_
    | with_reducible apply Ev.foldl (fun _ _ => ?_) ?_ | with_reducible apply Ev.foldlSnd (fun _ _ => ?_) ?_ | dsimp only
    | split

def Fp.restartChunk : Nat := 0x1300000000100010400000000000000000100004005100000000001000000000000000000000000000000000001000000000000000000000000000014000000000000000000000
theorem restartChunk_ev (k : MrnChunk) (badCheck : Bool) (s : State) :
    Ev Fp.restartChunk s (restartChunk k badCheck s) := by
  unfold restartChunk
  repeat' first
    | with_reducible apply Ev.refl | with_reducible assumption | exact rfl
    | with_reducible apply Ev.seq (bump_ev _ _ _ _ ?_) ?_ ?_ | with_reducible apply Ev.seq (askChild_ev ..) ?_ ?_
    | with_reducible apply Ev.seq (putChunk_ev ..) ?_ ?_ | with_reducible apply Ev.foldl (fun _ _ => ?_) ?_
    | with_reducible apply Ev.foldlSnd (fun _ _ => ?_) ?_ | dsimp only | split

def Fp.refuseChunk : Nat := 0x1300000000100010400000000000000000100004005100000000001000000000000000000000000000000000040000000000000000000000000000014000000000000000000000
theorem refuseChunk_ev (n : Nat) (step : Nat) (c : Nat) (attempt : Nat) (port : Nat) (s : State) :
    Ev Fp.refuseChunk s (refuseChunk n step c attempt port s) := by
  unfold refuseChunk
  repeat' first
    | with_reducible apply Ev.refl | with_reducible assumption | exact rfl
    | with_reducible apply Ev.seq (bump_ev _ _ _ _ ?_) ?_ ?_ | with_reducible apply Ev.seq (askChild_ev ..) ?_ ?_
    | with_reducible apply Ev.seq (onMrn_ev ..) ?_ ?_ | with_reducible apply Ev.ite ?_ ?_ | dsimp only
    | with_reducible refine Ev.ofPair (by assumption) ?_ | unfold refuseChunk.again | split

def Fp.completeChunk : Nat := 0x1300000000100010400000000000000000100004005100000000001000000000000000000000000010000000000000000000000000000000000000014000000000000000000000
theorem completeChunk_ev (k : MrnChunk) (s : State) :
    Ev Fp.completeChunk s (completeChunk k s) := by
  unfold completeChunk
  repeat' first
    | with_reducible apply Ev.refl | with_reducible assumption | exact rfl
    | with_reducible apply Ev.seq (bumpBy_ev _ _ _ _ _ ?_) ?_ ?_ | with_reducible apply Ev.seq (putChunk_ev ..) ?_ ?_
    | with_reducible apply Ev.seq (sendPartial_ev ..) ?_ ?_ | dsimp only
    | with_reducible refine Ev.ofPair (by assumption) ?_ | split

def Fp.tryComplete : Nat := 0x1300000000100010400000000000000000100004005100000000001000000000000000000000000010000000001400000000000000000000000000014000000000000000000000
theorem tryComplete_ev (k : MrnChunk) (s : State) :
    Ev Fp.tryComplete s (tryComplete k s) := by
  unfold tryComplete
  repeat' first
    | with_reducible apply Ev.refl | with_reducible assumption | exact rfl
    | with_reducible apply Ev.seq (bump_ev _ _ _ _ ?_) ?_ ?_ | with_reducible apply Ev.seq (completeChunk_ev ..) ?_ ?_
    | with_reducible apply Ev.seq (restartChunk_ev ..) ?_ ?_ | with_reducible apply Ev.ite ?_ ?_ | dsimp only
    | with_reducible refine Ev.ofPair (by assumption) ?_ | split

def Fp.applyFragment : Nat := 0x83700000000100110400000000000000000100044105100000000001000000000000000000000000010000410101554000000000000000000000000054000000000015050400001
theorem applyFragment_ev (k0 : MrnChunk) (child : Nat) (port : Nat) (orig : Packet) (p : Packet) (s0 : State) :
    Ev Fp.applyFragment s0 (applyFragment k0 child port orig p s0) := by
  unfold applyFragment
  repeat' first
    | with_reducible apply Ev.refl | with_reducible assumption | exact rfl
    | with_reducible apply Ev.seq (bump_ev _ _ _ _ ?_) ?_ ?_ | with_reducible apply Ev.seq (abortChunk_ev ..) ?_ ?_
    | with_reducible apply Ev.seq (copyToShadow_ev ..) ?_ ?_ | with_reducible apply Ev.seq (onMrn_ev ..) ?_ ?_
    | with_reducible apply Ev.seq (putChunk_ev ..) ?_ ?_ | with_reducible apply Ev.seq (restartChunk_ev ..) ?_ ?_
    | with_reducible apply Ev.seq (tryComplete_ev ..) ?_ ?_ | with_reducible apply Ev.ite ?_ ?_ | dsimp only
    | with_reducible refine Ev.ofPair (by assumption) ?_ | split

def Fp.takeContrib : Nat := 0x83700000000100110400000000000000000100044105100000000001000000000000000000000000010000410555554000000000000000000000000054000000000015050400001
theorem takeContrib_ev (n : Nat) (port : Nat) (child : Nat) (orig : Packet) (p : Packet) (s : State) :
    Ev Fp.takeContrib s (takeContrib n port child orig p s) := by
  unfold takeContrib
  repeat' first
    | with_reducible apply Ev.refl | with_reducible assumption | exact rfl
    | with_reducible apply Ev.seq (bump_ev _ _ _ _ ?_) ?_ ?_ | with_reducible apply Ev.seq (abortIfFailed_ev ..) ?_ ?_
    | with_reducible apply Ev.seq (applyFragment_ev ..) ?_ ?_ | with_reducible apply Ev.seq (countUnreachable_ev ..) ?_ ?_
    | with_reducible apply Ev.seq (openChunk_ev _ _ _ _ _ _ _ _ _ (by assumption)) ?_ ?_
    | with_reducible apply Ev.seq (refuseChunk_ev ..) ?_ ?_ | with_reducible apply Ev.ite ?_ ?_ | dsimp only
    | with_reducible refine Ev.ofPair (by assumption) ?_ | split

def Fp.refusedPartial : Nat := 0x3700000000100110400000000000000000100044005100000000001000000000000000000000000000000410100054000000000000000000000000054000000000015050400001
theorem refusedPartial_ev (k : MrnChunk) (refuser : Eid) (s : State) :
    Ev Fp.refusedPartial s (refusedPartial k refuser s) := by
  unfold refusedPartial
  repeat' first
    | with_reducible apply Ev.refl | with_reducible assumption | exact rfl
    | with_reducible apply Ev.seq (abortChunk_ev ..) ?_ ?_ | with_reducible apply Ev.seq (putChunk_ev ..) ?_ ?_
    | with_reducible apply Ev.ite ?_ ?_ | dsimp only | split

def Fp.mrnResend : Nat := 0x3700000000100110400000000000000000100044005100000000001000000000000000000000000000000410115054000000000000000000000000054000000000015050400001
theorem mrnResend_ev (n : Nat) (p : Packet) (s : State) :
    Ev Fp.mrnResend s (mrnResend n p s) := by
  unfold mrnResend
  repeat' first
    | with_reducible apply Ev.refl | with_reducible assumption | exact rfl
    | with_reducible apply Ev.seq (abortIfFailed_ev ..) ?_ ?_
    | with_reducible apply Ev.seq (openChunk_ev _ _ _ _ _ _ _ _ _ (by assumption)) ?_ ?_
    | with_reducible apply Ev.seq (putChunk_ev ..) ?_ ?_ | with_reducible apply Ev.seq (refusedPartial_ev ..) ?_ ?_
    | with_reducible apply Ev.seq (restartChunk_ev ..) ?_ ?_ | with_reducible apply Ev.seq (sendPartial_ev ..) ?_ ?_
    | with_reducible apply Ev.seq (sendUp_ev ..) ?_ ?_ | with_reducible apply Ev.ite ?_ ?_ | dsimp only
    | with_reducible refine Ev.ofPair (by assumption) ?_ | split

end Sys2Proof.Machine
end

