-- ==== Sys2Proof/Laws/EvMemPort.lean ====
section
/-! SUPPORT. What the operations of Machine/MemPort.lean may touch: one law for each, cited in place of unfolding it. The numbers are
sets of parts (Laws/Frame.lean, `Part.idx`). -/

set_option exponentiation.threshold 1024
set_option linter.unreachableTactic false
set_option linter.unusedTactic false

namespace Sys2Proof.Machine

def Fp.emitMq : Nat := 0xa0000000000000200000000000000000000000000000000000000000000000000000000000000000000000000000000000000000000000000000000000000000000000000000000000
theorem emitMq_ev (t : Nat) (r : MqReq) (s : State) :
    Ev Fp.emitMq s (emitMq t r s) := by
  unfold emitMq
  repeat' first
    | with_reducible apply Ev.refl | with_reducible assumption | exact rfl | with_reducible apply Ev.seq (emit_ev ..) ?_ ?_
    | with_reducible apply Ev.seq (onE_ev _ _ ?_) (Sub.refl _) ?_ | with_reducible apply Ev.ite ?_ ?_
    | (constructor <;> first | exact .inl rfl | exact .inr rfl | exact rfl | exact fun h => h | exact fun _ => rfl)
    | dsimp only | split

def Fp.pumpMq : Nat := 0xb0000000000000200000000000000000000000000000000000000000000000000000000000000000000000000000000000000000000000000000000000000000000000000000000000
theorem pumpMq_ev (n : Nat) (s : State) : Ev Fp.pumpMq s (pumpMq n s) := by
  induction n generalizing s with
  | zero => exact Ev.refl _
  | succ n ih =>
    unfold pumpMq
    repeat' first
      | with_reducible apply Ev.refl | with_reducible assumption | with_reducible apply Ev.seq (ih ..) (Sub.refl _) ?_
      | exact rfl | with_reducible apply Ev.seq (onE_ev _ _ ?_) (Sub.refl _) ?_
      | with_reducible apply Ev.seq (emitMq_ev ..) ?_ ?_
      | (constructor <;> first | exact .inl rfl | exact .inr rfl | exact rfl | exact fun h => h | exact fun _ => rfl)
      | dsimp only | with_reducible refine Ev.ofPair (by assumption) ?_ | split

def Fp.startTxnWith : Nat := 0x3b0000000000000200000000000000000000000000000000000000000000000000000000000000000000000000000000000000000000000000000000000000000000000000000000000
theorem startTxnWith_ev (cont : MemCont) (poison : Bool) (lockTag : Option Nat) (parts : List (MqOp × Nat × Nat × List Byte)) (s : State) :
    Ev Fp.startTxnWith s (startTxnWith cont poison lockTag parts s) := by
  unfold startTxnWith
  repeat' first
    | with_reducible apply Ev.refl | with_reducible assumption | exact rfl
    | with_reducible apply Ev.seq (onE_ev _ _ ?_) (Sub.refl _) ?_ | with_reducible apply Ev.seq (pumpMq_ev ..) ?_ ?_
    | (constructor <;> first | exact .inl rfl | exact .inr rfl | exact rfl | exact fun h => h | exact fun _ => rfl)
    | dsimp only | split

def Fp.memLoad : Nat := 0x3b0000000000000200000000000000000000000000000000000000000000000000000000000000000000000000000000000000000000000000000000000000000000000000000000000
theorem memLoad_ev (cont : MemCont) (a : Nat) (n : Nat) (s : State) :
    Ev Fp.memLoad s (memLoad cont a n s) := by
  unfold memLoad
  repeat' first
    | with_reducible apply Ev.refl | with_reducible assumption | exact rfl
    | with_reducible apply Ev.seq (startTxnWith_ev ..) ?_ ?_ | dsimp only | split

def Fp.memStore : Nat := 0x3b0000000000000200000000000000000000000000000000000000000000000000000000000000000000000000000000000000000000000000000000000000000000000000000000000
theorem memStore_ev (cont : MemCont) (poison : Bool) (a : Nat) (data : List Byte) (s : State) :
    Ev Fp.memStore s (memStore cont poison a data s) := by
  unfold memStore
  repeat' first
    | with_reducible apply Ev.refl | with_reducible assumption | exact rfl
    | with_reducible apply Ev.seq (startTxnWith_ev ..) ?_ ?_ | dsimp only | split

def Fp.takeAnswer : Nat := 0x120000000000000000000000000000000000000000000000000000000000000000000000000000000000000000000000000000000000000000000000000000000000000000000000000
theorem takeAnswer_ev (t : Nat) (st : Status) (data : List Byte) (s : State) :
    Ev Fp.takeAnswer s (takeAnswer t st data s).2 := by
  unfold takeAnswer
  repeat' first
    | with_reducible apply Ev.refl | with_reducible assumption | exact rfl
    | with_reducible apply Ev.seq (onE_ev _ _ ?_) (Sub.refl _) ?_ | with_reducible apply Ev.ite ?_ ?_
    | (constructor <;> first | exact .inl rfl | exact .inr rfl | exact rfl | exact fun h => h | exact fun _ => rfl)
    | dsimp only | with_reducible refine Ev.ofPair (by assumption) ?_ | split

def Fp.xrDone : Nat := 0x200000000000000000000000000000000000000000000000000000000000000000000000000000000000000000000000000000000000000000000000000000000000
theorem xrDone_ev (ctx : Nat) (atag : Nat) (st : Status) (outcome : Nat) (cas : Bool) (replayed : Bool) (grant : Nat) (data : List Byte) (s : State) :
    Ev Fp.xrDone s (xrDone ctx atag st outcome cas replayed grant data s) := by
  unfold xrDone
  repeat' first
    | with_reducible apply Ev.refl | with_reducible assumption | exact rfl | with_reducible apply Ev.seq (emit_ev ..) ?_ ?_
    | dsimp only | split

def Fp.xrStatus : Nat := 0x200000000000000000000000000000000000000000000000000000000000000000000000000000000000000000000000000000000000000000000000000000000000
theorem xrStatus_ev (ctx : Nat) (atag : Nat) (st : Status) (s : State) :
    Ev Fp.xrStatus s (xrStatus ctx atag st s) := by
  unfold xrStatus
  repeat' first
    | with_reducible apply Ev.refl | with_reducible assumption | exact rfl
    | with_reducible apply Ev.seq (xrDone_ev ..) ?_ ?_ | with_reducible apply Ev.ite ?_ ?_ | dsimp only | split

end Sys2Proof.Machine
end

