-- ==== Sys2Proof/Laws/EvCacheOps.lean ====
section
/-! SUPPORT. What the operations of Machine/CacheOps.lean may touch: one law for each, cited in place of unfolding it. The numbers are
sets of parts (Laws/Frame.lean, `Part.idx`). -/

set_option exponentiation.threshold 1024
set_option linter.unreachableTactic false
set_option linter.unusedTactic false

namespace Sys2Proof.Machine

def Fp.dropLine : Nat := 0x2000000000000000000000000000000000000000000000000000000000000000000000000000000000000000000000000000000000000000000000000000000000000000000000000000
theorem dropLine_ev (line : Nat) (s : State) :
    Ev Fp.dropLine s (dropLine line s) := by
  unfold dropLine
  repeat' first
    | with_reducible apply Ev.refl | with_reducible assumption | exact rfl
    | with_reducible apply Ev.seq (onE_ev _ _ ?_) (Sub.refl _) ?_
    | (constructor <;> first | exact .inl rfl | exact .inr rfl | exact rfl | exact fun h => h | exact fun _ => rfl)
    | dsimp only | split

def Fp.putLine : Nat := 0x6000000000000000000000000000000000000000000000000000000000000000000000000000000000000000000000000000000000000000000000000000000000000000000000000000
theorem putLine_ev (c : CacheLine) (s : State) :
    Ev Fp.putLine s (putLine c s) := by
  unfold putLine
  repeat' first
    | with_reducible apply Ev.refl | with_reducible assumption | exact rfl
    | with_reducible apply Ev.seq (onE_ev _ _ ?_) (Sub.refl _) ?_ | with_reducible apply Ev.seq (dropLine_ev ..) ?_ ?_
    | (constructor <;> first | exact .inl rfl | exact .inr rfl | exact rfl | exact fun h => h | exact fun _ => rfl)
    | dsimp only | split

def Fp.spoilFills : Nat := 0x100000000000000000000000000000000000000000000000000000000000000000000000000000000000000000000000000000000000000000000000000000000000000000000000000000
theorem spoilFills_ev (hit : Packet → Bool) (s : State) :
    Ev Fp.spoilFills s (spoilFills hit s) := by
  unfold spoilFills
  repeat' first
    | with_reducible apply Ev.refl | with_reducible assumption | exact rfl
    | with_reducible apply Ev.seq (onE_ev _ _ ?_) (Sub.refl _) ?_
    | (constructor <;> first | exact .inl rfl | exact .inr rfl | exact rfl | exact fun h => h | exact fun _ => rfl)
    | dsimp only | split

def Fp.dropReadMostly : Nat := 0x102000000000000000000000000000000000000000000000000000000000000000000000000000000000000000000000000000000000000000000000000000000000000000000000000000
theorem dropReadMostly_ev (e : Option Eid) (s : State) :
    Ev Fp.dropReadMostly s (dropReadMostly e s) := by
  unfold dropReadMostly
  repeat' first
    | with_reducible apply Ev.refl | with_reducible assumption | exact rfl
    | with_reducible apply Ev.seq (onE_ev _ _ ?_) (Sub.refl _) ?_ | with_reducible apply Ev.seq (spoilFills_ev ..) ?_ ?_
    | (constructor <;> first | exact .inl rfl | exact .inr rfl | exact rfl | exact fun h => h | exact fun _ => rfl)
    | dsimp only | with_reducible refine Ev.ofPair (by assumption) ?_ | split

def Fp.sendTc2 : Nat := 0x50000000100000000000000800000000000000000000000000000000000000000000000000000000000000000000000000000000000000000000000000000000000000000000000000000
theorem sendTc2_ev (leaf : Eid) (line : Nat) (op : BitVec 8) (opx : Nat) (data : List Byte) (key : Nat × Nat) (atag : Option (Nat × Nat)) (s : State) :
    Ev Fp.sendTc2 s (sendTc2 leaf line op opx data key atag s) := by
  unfold sendTc2
  repeat' first
    | with_reducible apply Ev.refl | with_reducible assumption | exact rfl
    | with_reducible apply Ev.seq (onE_ev _ _ ?_) (Sub.refl _) ?_ | with_reducible apply Ev.seq (sendFrom_ev ..) ?_ ?_
    | (constructor <;> first | exact .inl rfl | exact .inr rfl | exact rfl | exact fun h => h | exact fun _ => rfl)
    | dsimp only | split

def Fp.mirrorLine : Nat := 0x100000000220020800020000028880000000000000000000000000000000000000000000000000000000000000000000000000000008008000000000000000000000000000000
theorem mirrorLine_ev (line : Nat) (data : List Byte) (key : Nat × Nat) (s : State) :
    Ev Fp.mirrorLine s (mirrorLine line data key s) := by
  unfold mirrorLine
  repeat' first
    | with_reducible apply Ev.refl | with_reducible assumption | exact rfl
    | with_reducible apply Ev.seq (issueOp_ev ..) ?_ ?_ | with_reducible apply Ev.ite ?_ ?_ | dsimp only
    | with_reducible refine Ev.ofPair (by assumption) ?_ | split

def Fp.sendWb : Nat := 0x50000000100000000220020800020000028880000000000000000000000000000000000000000000000000000000000000000000000000000008008000000000000000000000000000000
theorem sendWb_ev (c : CacheLine) (recovery : Bool) (s : State) :
    Ev Fp.sendWb s (sendWb c recovery s) := by
  unfold sendWb
  repeat' first
    | with_reducible apply Ev.refl | with_reducible assumption | exact rfl
    | with_reducible apply Ev.seq (mirrorLine_ev ..) ?_ ?_ | with_reducible apply Ev.seq (sendTc2_ev ..) ?_ ?_ | dsimp only
    | split

def Fp.evictLine : Nat := 0x52000000100000000220020800020000028880000000000000000000000000000000000000000000000000000000000000000000000000000008008000000000000000000000000000000
theorem evictLine_ev (c : CacheLine) (s : State) :
    Ev Fp.evictLine s (evictLine c s) := by
  unfold evictLine
  repeat' first
    | with_reducible apply Ev.refl | with_reducible assumption | exact rfl
    | with_reducible apply Ev.seq (dropLine_ev ..) ?_ ?_ | with_reducible apply Ev.seq (sendTc2_ev ..) ?_ ?_
    | with_reducible apply Ev.seq (sendWb_ev ..) ?_ ?_ | with_reducible apply Ev.ite ?_ ?_ | dsimp only | split

def Fp.sendSq : Nat := 0x20000000000000000200000000000000000000000000000000000000000000000000000000000000000000000000000000000000000000000000000000000000000000000000000000000
theorem sendSq_ev (sop : Nat) (line : Nat) (use : SnoopUse) (s : State) :
    Ev Fp.sendSq s (sendSq sop line use s) := by
  unfold sendSq
  repeat' first
    | with_reducible apply Ev.refl | with_reducible assumption | exact rfl | with_reducible apply Ev.seq (emit_ev ..) ?_ ?_
    | with_reducible apply Ev.seq (onE_ev _ _ ?_) (Sub.refl _) ?_ | with_reducible apply Ev.ite ?_ ?_
    | (constructor <;> first | exact .inl rfl | exact .inr rfl | exact rfl | exact fun h => h | exact fun _ => rfl)
    | dsimp only | split

def Fp.makeWay : Nat := 0x72000000100000000220020800020000028880000000000000000000000000000000000000000000000000000000000000000000000000000008008000000000000000000000000000000
theorem makeWay_ev (line : Nat) (s : State) :
    Ev Fp.makeWay s (makeWay line s) := by
  unfold makeWay
  repeat' first
    | with_reducible apply Ev.refl | with_reducible assumption | exact rfl
    | with_reducible apply Ev.seq (evictLine_ev ..) ?_ ?_ | with_reducible apply Ev.seq (sendSq_ev ..) ?_ ?_
    | with_reducible apply Ev.ite ?_ ?_ | with_reducible apply Ev.foldl (fun _ _ => ?_) ?_
    | with_reducible apply Ev.foldlSnd (fun _ _ => ?_) ?_ | dsimp only | with_reducible refine Ev.ofPair (by assumption) ?_
    | split

def Fp.serveLineOf : Nat := 0x6000000000000000000000000000000000000000000000000000000000000000000000000000000000000000000000000000000000000000000000000000000000000000000000000000
theorem serveLineOf_ev (a : Acc) (c : CacheLine) (s : State) :
    Ev Fp.serveLineOf s (serveLineOf a c s).2 := by
  unfold serveLineOf
  repeat' first
    | with_reducible apply Ev.refl | with_reducible assumption | exact rfl
    | with_reducible apply Ev.seq (putLine_ev ..) ?_ ?_ | dsimp only | with_reducible refine Ev.ofPair (by assumption) ?_
    | split

def Fp.endAcc : Nat := 0x8000000000000000220000000000000000080000000000000000000000000000000000000000000000000000000000000000000000000000000000000000000000000000000000000000
theorem endAcc_ev (a : Acc) (st : Status) (s : State) :
    Ev Fp.endAcc s (endAcc a st s) := by
  unfold endAcc
  repeat' first
    | with_reducible apply Ev.refl | with_reducible assumption | exact rfl
    | with_reducible apply Ev.seq (onE_ev _ _ ?_) (Sub.refl _) ?_
    | with_reducible apply Ev.seq (raiseVector_ev _ _ (by decide)) ?_ ?_
    | with_reducible apply Ev.seq (tellFences_ev ..) ?_ ?_ | with_reducible apply Ev.seq (xrDone_ev ..) ?_ ?_
    | with_reducible apply Ev.ite ?_ ?_
    | (constructor <;> first | exact .inl rfl | exact .inr rfl | exact rfl | exact fun h => h | exact fun _ => rfl)
    | dsimp only | with_reducible refine Ev.ofPair (by assumption) ?_ | split

def Fp.putAcc : Nat := 0x8000000000000000000000000000000000000000000000000000000000000000000000000000000000000000000000000000000000000000000000000000000000000000000000000000
theorem putAcc_ev (a : Acc) (s : State) :
    Ev Fp.putAcc s (putAcc a s) := by
  unfold putAcc
  repeat' first
    | with_reducible apply Ev.refl | with_reducible assumption | exact rfl
    | with_reducible apply Ev.seq (onE_ev _ _ ?_) (Sub.refl _) ?_ | with_reducible apply Ev.ite ?_ ?_
    | (constructor <;> first | exact .inl rfl | exact .inr rfl | exact rfl | exact fun h => h | exact fun _ => rfl)
    | dsimp only | split

def Fp.askLine : Nat := 0x72000000100000000220020800020000028880000000000000000000000000000000000000000000000000000000000000000000000000000008008000000000000000000000000000000
theorem askLine_ev (a : Acc) (line : Nat) (s : State) :
    Ev Fp.askLine s (askLine a line s) := by
  unfold askLine
  repeat' first
    | with_reducible apply Ev.refl | with_reducible assumption | exact rfl
    | with_reducible apply Ev.seq (makeWay_ev ..) ?_ ?_ | with_reducible apply Ev.seq (sendTc2_ev ..) ?_ ?_
    | with_reducible apply Ev.ite ?_ ?_ | dsimp only | with_reducible refine Ev.ofPair (by assumption) ?_ | split

def Fp.serveAcc : Nat := 0x76000000100000000220020800020000028880000000000000000000000000000000000000000000000000000000000000000000000000000008008000000000000000000000000000000
theorem serveAcc_ev (l : List Nat) (a : Acc) (s : State) : Ev Fp.serveAcc s (serveAcc l a s).2 := by
  induction l generalizing a s with
  | nil => exact Ev.refl _
  | cons i l ih =>
    unfold serveAcc
    repeat' first
      | with_reducible apply Ev.refl | with_reducible assumption | with_reducible apply Ev.seq (ih ..) (Sub.refl _) ?_
      | exact rfl | with_reducible apply Ev.seq (askLine_ev ..) ?_ ?_ | with_reducible apply Ev.seq (dropLine_ev ..) ?_ ?_
      | with_reducible apply Ev.seq (serveLineOf_ev ..) ?_ ?_ | with_reducible apply Ev.ite ?_ ?_ | dsimp only
      | with_reducible refine Ev.ofPair (by assumption) ?_ | split

def Fp.leaveCache : Nat := 0x10e000000100000000220020800020000028880000000000000000000000000000000000000000000000000000000000000000000000000000008008000000000000000000000000000000
theorem leaveCache_ev (a : Acc) (s : State) :
    Ev Fp.leaveCache s (leaveCache a s) := by
  unfold leaveCache
  repeat' first
    | with_reducible apply Ev.refl | with_reducible assumption | exact rfl
    | with_reducible apply Ev.seq (onE_ev _ _ ?_) (Sub.refl _) ?_ | with_reducible apply Ev.seq (enterOp_ev ..) ?_ ?_
    | with_reducible apply Ev.seq (putLine_ev ..) ?_ ?_ | with_reducible apply Ev.seq (spoilFills_ev ..) ?_ ?_
    | with_reducible apply Ev.ite ?_ ?_ | with_reducible apply Ev.foldl (fun _ _ => ?_) ?_
    | with_reducible apply Ev.foldlSnd (fun _ _ => ?_) ?_
    | (constructor <;> first | exact .inl rfl | exact .inr rfl | exact rfl | exact fun h => h | exact fun _ => rfl)
    | dsimp only | with_reducible refine Ev.ofPair (by assumption) ?_ | split

def Fp.stepAcc : Nat := 0x17e000000100000000220020800020000028880000000000000000000000000000000000000000000000000000000000000000000000000000008008000000000000000000000000000000
theorem stepAcc_ev (id : Nat) (s : State) :
    Ev Fp.stepAcc s (stepAcc id s) := by
  unfold stepAcc
  repeat' first
    | with_reducible apply Ev.refl | with_reducible assumption | exact rfl
    | with_reducible apply Ev.seq (endAcc_ev ..) ?_ ?_ | with_reducible apply Ev.seq (leaveCache_ev ..) ?_ ?_
    | with_reducible apply Ev.seq (putAcc_ev ..) ?_ ?_ | with_reducible apply Ev.seq (putLine_ev ..) ?_ ?_
    | with_reducible apply Ev.seq (serveAcc_ev ..) ?_ ?_ | with_reducible apply Ev.ite ?_ ?_ | dsimp only
    | with_reducible refine Ev.ofPair (by assumption) ?_ | split

def Fp.stepAccs : Nat := 0x17e000000100000000220020800020000028880000000000000000000000000000000000000000000000000000000000000000000000000000008008000000000000000000000000000000
theorem stepAccs_ev (s : State) :
    Ev Fp.stepAccs s (stepAccs s) := by
  unfold stepAccs
  repeat' first
    | with_reducible apply Ev.refl | with_reducible assumption | exact rfl
    | with_reducible apply Ev.seq (stepAcc_ev ..) ?_ ?_ | with_reducible apply Ev.foldl (fun _ _ => ?_) ?_
    | with_reducible apply Ev.foldlSnd (fun _ _ => ?_) ?_ | dsimp only | split

def Fp.newAcc : Nat := 0x17e000000100000000220020800020000028880000000000000000000000000000000000000000000000000000000000000000000000000000008008000000000000000000000000000000
theorem newAcc_ev (kind : AccKind) (ctx : Nat) (atag : Nat) (gfa : Nat) (len : Nat) (pkt : Packet) (data : List Byte) (coherent : Bool) (s : State) :
    Ev Fp.newAcc s (newAcc kind ctx atag gfa len pkt data coherent s) := by
  unfold newAcc
  repeat' first
    | with_reducible apply Ev.refl | with_reducible assumption | exact rfl
    | with_reducible apply Ev.seq (onE_ev _ _ ?_) (Sub.refl _) ?_ | with_reducible apply Ev.seq (onXpt_ev ..) ?_ ?_
    | with_reducible apply Ev.seq (stepAcc_ev ..) ?_ ?_ | with_reducible apply Ev.ite ?_ ?_
    | (constructor <;> first | exact .inl rfl | exact .inr rfl | exact rfl | exact fun h => h | exact fun _ => rfl)
    | dsimp only | split

def Fp.dropCoh : Nat := 0x10000000000000000000000000000000000000000000000000000000000000000000000000000000000000000000000000000000000000000000000000000000000000000000000000000
theorem dropCoh_ev (c : CohReq) (s : State) :
    Ev Fp.dropCoh s (dropCoh c s) := by
  unfold dropCoh
  repeat' first
    | with_reducible apply Ev.refl | with_reducible assumption | exact rfl
    | with_reducible apply Ev.seq (onE_ev _ _ ?_) (Sub.refl _) ?_
    | (constructor <;> first | exact .inl rfl | exact .inr rfl | exact rfl | exact fun h => h | exact fun _ => rfl)
    | dsimp only | split

def Fp.putCoh : Nat := 0x10000000000000000000000000000000000000000000000000000000000000000000000000000000000000000000000000000000000000000000000000000000000000000000000000000
theorem putCoh_ev (c : CohReq) (s : State) :
    Ev Fp.putCoh s (putCoh c s) := by
  unfold putCoh
  repeat' first
    | with_reducible apply Ev.refl | with_reducible assumption | exact rfl
    | with_reducible apply Ev.seq (onE_ev _ _ ?_) (Sub.refl _) ?_ | with_reducible apply Ev.ite ?_ ?_
    | (constructor <;> first | exact .inl rfl | exact .inr rfl | exact rfl | exact fun h => h | exact fun _ => rfl)
    | dsimp only | split

def Fp.failReq : Nat := 0x18000000000000000220000000000000000080000000000000000000000000000000000000000000000000000000000000000000000000000000000000000000000000000000000000000
theorem failReq_ev (c : CohReq) (st : Status) (s : State) :
    Ev Fp.failReq s (failReq c st s) := by
  unfold failReq
  repeat' first
    | with_reducible apply Ev.refl | with_reducible assumption | exact rfl
    | with_reducible apply Ev.seq (dropCoh_ev ..) ?_ ?_ | with_reducible apply Ev.seq (endAcc_ev ..) ?_ ?_
    | with_reducible apply Ev.foldl (fun _ _ => ?_) ?_ | with_reducible apply Ev.foldlSnd (fun _ _ => ?_) ?_ | dsimp only
    | split

def Fp.sendAckTc2 : Nat := 0x100000000000000800000000000000000000000000000000000000000000000000000000000000000000000000000000000000000000000000000000000000000000000000000
theorem sendAckTc2_ev (c : CohReq) (s : State) :
    Ev Fp.sendAckTc2 s (sendAckTc2 c s) := by
  unfold sendAckTc2
  repeat' first
    | with_reducible apply Ev.refl | with_reducible assumption | exact rfl
    | with_reducible apply Ev.seq (sendFrom_ev ..) ?_ ?_ | dsimp only | split

def Fp.grantReq : Nat := 0x17e000000100000000220020800020000028880000000000000000000000000000000000000000000000000000000000000000000000000000008008000000000000000000000000000000
theorem grantReq_ev (c : CohReq) (grant : Nat) (data : Option (List Byte)) (s : State) :
    Ev Fp.grantReq s (grantReq c grant data s) := by
  unfold grantReq
  repeat' first
    | with_reducible apply Ev.refl | with_reducible assumption | exact rfl
    | with_reducible apply Ev.seq (dropCoh_ev ..) ?_ ?_ | with_reducible apply Ev.seq (dropLine_ev ..) ?_ ?_
    | with_reducible apply Ev.seq (endAcc_ev ..) ?_ ?_ | with_reducible apply Ev.seq (putAcc_ev ..) ?_ ?_
    | with_reducible apply Ev.seq (putLine_ev ..) ?_ ?_ | with_reducible apply Ev.seq (sendAckTc2_ev ..) ?_ ?_
    | with_reducible apply Ev.seq (serveLineOf_ev ..) ?_ ?_ | with_reducible apply Ev.seq (stepAccs_ev ..) ?_ ?_
    | with_reducible apply Ev.ite ?_ ?_ | dsimp only | with_reducible refine Ev.ofPair (by assumption) ?_ | split

def Fp.settleReq : Nat := 0x17e000000100000000220020800020000028880000000000000000000000000000000000000000000000000000000000000000000000000000008008000000000000000000000000000000
theorem settleReq_ev (c : CohReq) (s : State) :
    Ev Fp.settleReq s (settleReq c s) := by
  unfold settleReq
  repeat' first
    | with_reducible apply Ev.refl | with_reducible assumption | exact rfl
    | with_reducible apply Ev.seq (failReq_ev ..) ?_ ?_ | with_reducible apply Ev.seq (grantReq_ev ..) ?_ ?_
    | with_reducible apply Ev.seq (putCoh_ev ..) ?_ ?_ | with_reducible apply Ev.ite ?_ ?_ | dsimp only
    | with_reducible refine Ev.ofPair (by assumption) ?_ | split

def Fp.takeData : Nat := 0x17e000000100000000220020800020000028880000000000000000000000000000000000000000000000000000000000000000000000000000008008000000000000000000000000000000
theorem takeData_ev (p : Packet) (s : State) :
    Ev Fp.takeData s (takeData p s) := by
  unfold takeData
  repeat' first
    | with_reducible apply Ev.refl | with_reducible assumption | exact rfl
    | with_reducible apply Ev.seq (dropCoh_ev ..) ?_ ?_ | with_reducible apply Ev.seq (sendWb_ev ..) ?_ ?_
    | with_reducible apply Ev.seq (settleReq_ev ..) ?_ ?_ | with_reducible apply Ev.ite ?_ ?_ | dsimp only
    | with_reducible refine Ev.ofPair (by assumption) ?_ | split

def Fp.dropLeafLines : Nat := 0x92000000000000000200000000000000000080000000000000000000000000000000000000000000000000000000000000000000000000000000000000000000000000000000000000000
theorem dropLeafLines_ev (leaf : Eid) (s : State) :
    Ev Fp.dropLeafLines s (dropLeafLines leaf s) := by
  unfold dropLeafLines
  repeat' first
    | with_reducible apply Ev.refl | with_reducible assumption | exact rfl
    | with_reducible apply Ev.seq (onE_ev _ _ ?_) (Sub.refl _) ?_
    | with_reducible apply Ev.seq (raiseVector_ev _ _ (by decide)) ?_ ?_
    | (constructor <;> first | exact .inl rfl | exact .inr rfl | exact rfl | exact fun h => h | exact fun _ => rfl)
    | dsimp only | split

def Fp.takeGo : Nat := 0x1fe000000100000000220020800020000028880000000000000000000000000000000000000000000000000000000000000000000000000000008008000000000000000000000000000000
theorem takeGo_ev (p : Packet) (s : State) :
    Ev Fp.takeGo s (takeGo p s) := by
  unfold takeGo
  repeat' first
    | with_reducible apply Ev.refl | with_reducible assumption | exact rfl
    | with_reducible apply Ev.seq (dropCoh_ev ..) ?_ ?_ | with_reducible apply Ev.seq (dropLeafLines_ev ..) ?_ ?_
    | with_reducible apply Ev.seq (settleReq_ev ..) ?_ ?_ | with_reducible apply Ev.ite ?_ ?_ | dsimp only
    | with_reducible refine Ev.ofPair (by assumption) ?_ | split

def Fp.takeCmp : Nat := 0x1fe000000100000000220020800020000028880000000000000000000000000000000000000000000000000000000000000000000000000000008008000000000000000000000000000000
theorem takeCmp_ev (p : Packet) (s : State) :
    Ev Fp.takeCmp s (takeCmp p s) := by
  unfold takeCmp
  repeat' first
    | with_reducible apply Ev.refl | with_reducible assumption | exact rfl
    | with_reducible apply Ev.seq (onE_ev _ _ ?_) (Sub.refl _) ?_ | with_reducible apply Ev.seq (dropCoh_ev ..) ?_ ?_
    | with_reducible apply Ev.seq (raiseVector_ev _ _ (by decide)) ?_ ?_
    | with_reducible apply Ev.seq (stepAccs_ev ..) ?_ ?_ | with_reducible apply Ev.ite ?_ ?_
    | (constructor <;> first | exact .inl rfl | exact .inr rfl | exact rfl | exact fun h => h | exact fun _ => rfl)
    | dsimp only | with_reducible refine Ev.ofPair (by assumption) ?_ | split

def Fp.sendSnpRsp : Nat := 0x100000000000000800000000000000000000000000000000000000000000000000000000000000000000000000000000000000000000000000000000000000000000000000000
theorem sendSnpRsp_ev (p : Packet) (opx : Nat) (data : List Byte) (s : State) :
    Ev Fp.sendSnpRsp s (sendSnpRsp p opx data s) := by
  unfold sendSnpRsp
  repeat' first
    | with_reducible apply Ev.refl | with_reducible assumption | exact rfl
    | with_reducible apply Ev.seq (sendFrom_ev ..) ?_ ?_ | dsimp only | split

def Fp.forwardData : Nat := 0x100000000000000800000000000000000000000000000000000000000000000000000000000000000000000000000000000000000000000000000000000000000000000000000
theorem forwardData_ev (p : Packet) (grant : Nat) (data : List Byte) (s : State) :
    Ev Fp.forwardData s (forwardData p grant data s) := by
  unfold forwardData
  repeat' first
    | with_reducible apply Ev.refl | with_reducible assumption | exact rfl
    | with_reducible apply Ev.seq (sendFrom_ev ..) ?_ ?_ | dsimp only | split

def Fp.answerLeaf : Nat := 0x6000000100000000220020800020000028880000000000000000000000000000000000000000000000000000000000000000000000000000008008000000000000000000000000000000
theorem answerLeaf_ev (p : Packet) (s : State) :
    Ev Fp.answerLeaf s (answerLeaf p s) := by
  unfold answerLeaf
  repeat' first
    | with_reducible apply Ev.refl | with_reducible assumption | exact rfl
    | with_reducible apply Ev.seq (dropLine_ev ..) ?_ ?_ | with_reducible apply Ev.seq (forwardData_ev ..) ?_ ?_
    | with_reducible apply Ev.seq (mirrorLine_ev ..) ?_ ?_ | with_reducible apply Ev.seq (putLine_ev ..) ?_ ?_
    | with_reducible apply Ev.seq (sendSnpRsp_ev ..) ?_ ?_ | with_reducible apply Ev.ite ?_ ?_ | dsimp only
    | with_reducible refine Ev.ofPair (by assumption) ?_ | split

def Fp.takeSnoop : Nat := 0x26000000100000000220020800020000028880000000000000000000000000000000000000000000000000000000000000000000000000000008008000000000000000000000000000000
theorem takeSnoop_ev (port : Nat) (p : Packet) (s : State) :
    Ev Fp.takeSnoop s (takeSnoop port p s) := by
  unfold takeSnoop
  repeat' first
    | with_reducible apply Ev.refl | with_reducible assumption | exact rfl
    | with_reducible apply Ev.seq (answerLeaf_ev ..) ?_ ?_ | with_reducible apply Ev.seq (sendSq_ev ..) ?_ ?_
    | with_reducible apply Ev.ite ?_ ?_ | dsimp only | with_reducible refine Ev.ofPair (by assumption) ?_ | split

def Fp.abortCoherent : Nat := 0x18000000000000000220000000000000000080000000000000000000000000000000000000000000000000000000000000000000000000000000000000000000000000000000000000000
theorem abortCoherent_ev (leaf : Eid) (s : State) :
    Ev Fp.abortCoherent s (abortCoherent leaf s) := by
  unfold abortCoherent
  repeat' first
    | with_reducible apply Ev.refl | with_reducible assumption | exact rfl
    | with_reducible apply Ev.seq (onE_ev _ _ ?_) (Sub.refl _) ?_ | with_reducible apply Ev.seq (endAcc_ev ..) ?_ ?_
    | with_reducible apply Ev.ite ?_ ?_ | with_reducible apply Ev.foldl (fun _ _ => ?_) ?_
    | with_reducible apply Ev.foldlSnd (fun _ _ => ?_) ?_
    | (constructor <;> first | exact .inl rfl | exact .inr rfl | exact rfl | exact fun h => h | exact fun _ => rfl)
    | dsimp only | split

def Fp.sendRecoverStart : Nat := 0xc0000000100000000000000800000000000000000000000000000000000000000000000000000000000000000000000000000000000000000000000000000000000000000000000000000
theorem sendRecoverStart_ev (leaf : Eid) (s : State) :
    Ev Fp.sendRecoverStart s (sendRecoverStart leaf s) := by
  unfold sendRecoverStart
  repeat' first
    | with_reducible apply Ev.refl | with_reducible assumption | exact rfl
    | with_reducible apply Ev.seq (onE_ev _ _ ?_) (Sub.refl _) ?_ | with_reducible apply Ev.seq (sendFrom_ev ..) ?_ ?_
    | with_reducible apply Ev.ite ?_ ?_
    | (constructor <;> first | exact .inl rfl | exact .inr rfl | exact rfl | exact fun h => h | exact fun _ => rfl)
    | dsimp only | split

def Fp.epRecovery : Nat := 0xd8000000100000000220000800000000000080000000000000000000000000000000000000000000000000000000000000000000000000000000000000000000000000000000000000000
theorem epRecovery_ev (leaf : Eid) (announce : Bool) (s : State) :
    Ev Fp.epRecovery s (epRecovery leaf announce s) := by
  unfold epRecovery
  repeat' first
    | with_reducible apply Ev.refl | with_reducible assumption | exact rfl
    | with_reducible apply Ev.seq (onE_ev _ _ ?_) (Sub.refl _) ?_ | with_reducible apply Ev.seq (abortCoherent_ev ..) ?_ ?_
    | with_reducible apply Ev.seq (raiseVector_ev _ _ (by decide)) ?_ ?_
    | with_reducible apply Ev.seq (sendRecoverStart_ev ..) ?_ ?_ | with_reducible apply Ev.ite ?_ ?_
    | (constructor <;> first | exact .inl rfl | exact .inr rfl | exact rfl | exact fun h => h | exact fun _ => rfl)
    | dsimp only | split

def Fp.resendWbs : Nat := 0x100000000000000800000000000000000000000000000000000000000000000000000000000000000000000000000000000000000000000000000000000000000000000000000
theorem resendWbs_ev (leaf : Eid) (s : State) :
    Ev Fp.resendWbs s (resendWbs leaf s) := by
  unfold resendWbs
  repeat' first
    | with_reducible apply Ev.refl | with_reducible assumption | exact rfl
    | with_reducible apply Ev.seq (sendFrom_ev ..) ?_ ?_ | with_reducible apply Ev.foldl (fun _ _ => ?_) ?_
    | with_reducible apply Ev.foldlSnd (fun _ _ => ?_) ?_ | dsimp only | split

def Fp.sendRecoverDone : Nat := 0xd0000000100000000000000800000000000000000000000000000000000000000000000000000000000000000000000000000000000000000000000000000000000000000000000000000
theorem sendRecoverDone_ev (leaf : Eid) (s : State) :
    Ev Fp.sendRecoverDone s (sendRecoverDone leaf s) := by
  unfold sendRecoverDone
  repeat' first
    | with_reducible apply Ev.refl | with_reducible assumption | exact rfl
    | with_reducible apply Ev.seq (onE_ev _ _ ?_) (Sub.refl _) ?_ | with_reducible apply Ev.seq (sendTc2_ev ..) ?_ ?_
    | with_reducible apply Ev.ite ?_ ?_
    | (constructor <;> first | exact .inl rfl | exact .inr rfl | exact rfl | exact fun h => h | exact fun _ => rfl)
    | dsimp only | split

def Fp.stepFlush : Nat := 0xf2000000100000000220020800020000028880000000000000000000000000000000000000000000000000000000000000000000000000000008008000000000000000000000000000000
theorem stepFlush_ev (port : Nat) (p : Packet) (s : State) :
    Ev Fp.stepFlush s (stepFlush port p s) := by
  unfold stepFlush
  repeat' first
    | with_reducible apply Ev.refl | with_reducible assumption | exact rfl
    | with_reducible apply Ev.seq (dropLine_ev ..) ?_ ?_ | with_reducible apply Ev.seq (sendRecoverDone_ev ..) ?_ ?_
    | with_reducible apply Ev.seq (sendSnpRsp_ev ..) ?_ ?_ | with_reducible apply Ev.seq (sendSq_ev ..) ?_ ?_
    | with_reducible apply Ev.seq (sendWb_ev ..) ?_ ?_ | with_reducible apply Ev.ite ?_ ?_
    | with_reducible apply Ev.foldl (fun _ _ => ?_) ?_ | with_reducible apply Ev.foldlSnd (fun _ _ => ?_) ?_ | dsimp only
    | split

def Fp.takeFlush : Nat := 0xfa000000100000000220020800020000028880000000000000000000000000000000000000000000000000000000000000000000000000000008008000000000000000000000000000000
theorem takeFlush_ev (port : Nat) (p : Packet) (s : State) :
    Ev Fp.takeFlush s (takeFlush port p s) := by
  unfold takeFlush
  repeat' first
    | with_reducible apply Ev.refl | with_reducible assumption | exact rfl
    | with_reducible apply Ev.seq (epRecovery_ev ..) ?_ ?_ | with_reducible apply Ev.seq (resendWbs_ev ..) ?_ ?_
    | with_reducible apply Ev.seq (stepFlush_ev ..) ?_ ?_ | with_reducible apply Ev.ite ?_ ?_ | dsimp only | split

def Fp.takeSr : Nat := 0x1fe000000100000000220020800020000028880000000000000000000000000000000000000000000000000000000000000000000000000000008008000000000000000000000000000000
theorem takeSr_ev (x : SqSnoop) (dirty : Option (List Byte)) (state : Nat) (s : State) :
    Ev Fp.takeSr s (takeSr x dirty state s) := by
  unfold takeSr
  repeat' first
    | with_reducible apply Ev.refl | with_reducible assumption | exact rfl
    | with_reducible apply Ev.seq (onE_ev _ _ ?_) (Sub.refl _) ?_ | with_reducible apply Ev.seq (answerLeaf_ev ..) ?_ ?_
    | with_reducible apply Ev.seq (evictLine_ev ..) ?_ ?_ | with_reducible apply Ev.seq (putLine_ev ..) ?_ ?_
    | with_reducible apply Ev.seq (stepAccs_ev ..) ?_ ?_ | with_reducible apply Ev.seq (stepFlush_ev ..) ?_ ?_
    | with_reducible apply Ev.ite ?_ ?_
    | (constructor <;> first | exact .inl rfl | exact .inr rfl | exact rfl | exact fun h => h | exact fun _ => rfl)
    | dsimp only | with_reducible refine Ev.ofPair (by assumption) ?_ | split

def Fp.leafDied : Nat := 0x9a000000100000000220020800020000028880000000000000000000000000000000000000000000000000000000000000000000000000000008008000000000000000000000000000000
theorem leafDied_ev (leaf : Eid) (s : State) :
    Ev Fp.leafDied s (leafDied leaf s) := by
  unfold leafDied
  repeat' first
    | with_reducible apply Ev.refl | with_reducible assumption | exact rfl
    | with_reducible apply Ev.seq (onE_ev _ _ ?_) (Sub.refl _) ?_ | with_reducible apply Ev.seq (dropLine_ev ..) ?_ ?_
    | with_reducible apply Ev.seq (endAcc_ev ..) ?_ ?_ | with_reducible apply Ev.seq (mirrorLine_ev ..) ?_ ?_
    | with_reducible apply Ev.ite ?_ ?_ | with_reducible apply Ev.foldl (fun _ _ => ?_) ?_
    | with_reducible apply Ev.foldlSnd (fun _ _ => ?_) ?_
    | (constructor <;> first | exact .inl rfl | exact .inr rfl | exact rfl | exact fun h => h | exact fun _ => rfl)
    | dsimp only | split

end Sys2Proof.Machine
end

