-- ==== Sys2Proof/Laws/EvPortEvents.lean ====
section
/-! SUPPORT. What the operations of Machine/PortEvents.lean may touch: one law for each, cited in place of unfolding it. The numbers are
sets of parts (Laws/Frame.lean, `Part.idx`). -/

set_option exponentiation.threshold 1024
set_option linter.unreachableTactic false
set_option linter.unusedTactic false

namespace Sys2Proof.Machine

def Fp.epRequeue : Nat := 0x100000000000000800000000000000000000000000000000000000000000000000000000000000000000000000000000000000000000000000000000000000000000000000000
theorem epRequeue_ev (p : Nat) (s : State) :
    Ev Fp.epRequeue s (epRequeue p s) := by
  unfold epRequeue
  repeat' first
    | with_reducible apply Ev.refl | with_reducible assumption | exact rfl
    | with_reducible apply Ev.seq (onPort_ev ..) ?_ ?_ | with_reducible apply Ev.seq (portSend_ev ..) ?_ ?_
    | with_reducible apply Ev.foldl (fun _ _ => ?_) ?_ | with_reducible apply Ev.foldlSnd (fun _ _ => ?_) ?_ | dsimp only
    | with_reducible refine Ev.ofPair (by assumption) ?_ | split

def Fp.recoverPort : Side → Nat
  | .module => 0xf00000000100110400000000000000000100044005100000000001000000000000000000000000000000000000000100000000000000000000000054000000000000000000000
  | .endpoint => 0xd8000000100000000220000800000000000080000000000000000000000000000000000000000000000000000000000000000000000000000000000000000000000000000000000000000
theorem recoverPort_ev (sd : Side) (p : Nat) (s : State) :
    Ev (Fp.recoverPort sd) s (recoverPort sd p s) := by
  cases sd <;> (
    unfold recoverPort
    repeat' first
      | with_reducible apply Ev.refl | with_reducible assumption | exact rfl
      | with_reducible apply Ev.seq (epRecovery_ev ..) ?_ ?_ | with_reducible apply Ev.seq (leafRecovery_ev ..) ?_ ?_
      | with_reducible apply Ev.ite ?_ ?_ | dsimp only | with_reducible refine Ev.ofPair (by assumption) ?_ | contradiction
      | split)

def Fp.portDown : Side → Nat
  | .module => 0x80f00000000100110500000000000000000100045005100000000001000000000000000000000000000000000000000100000000000000000000000054410050041000000000000
  | .endpoint => 0xd8000000100000000220020a000200000288800000000000000000000000000000000000000000000000000000000000000000000000000000000000000000000200a0082000000000000
theorem portDown_ev (sd : Side) (p : Nat) (reason : Nat) (s : State) :
    Ev (Fp.portDown sd) s (portDown sd p reason s) := by
  cases sd <;> (
    unfold portDown
    repeat' first
      | with_reducible apply Ev.refl | with_reducible assumption | exact rfl
      | with_reducible apply Ev.seq (onM_ev _ _ ?_) (Sub.refl _) ?_ | with_reducible apply Ev.seq (epRequeue_ev ..) ?_ ?_
      | with_reducible apply Ev.seq (portDownLink_ev ..) ?_ ?_ | with_reducible apply Ev.seq (recoverPort_ev ..) ?_ ?_
      | with_reducible apply Ev.seq (requeuePort_ev ..) ?_ ?_ | with_reducible apply Ev.seq (setEvidence_ev ..) ?_ ?_
      | with_reducible apply Ev.ite ?_ ?_
      | (constructor <;> first | exact .inl rfl | exact .inr rfl | exact rfl | exact fun h => h | exact fun _ => rfl)
      | dsimp only | with_reducible refine Ev.ofPair (by assumption) ?_ | contradiction | split)

def Fp.portComesUp : Side → Nat
  | .module => 0x10000000000000000
  | .endpoint => 0xc0000000100000000220020800020000028880000000000000000000000000000000000000000000000000000000000000000000000000000008008000000000000020000000000000000
theorem portComesUp_ev (sd : Side) (p : Nat) (s : State) :
    Ev (Fp.portComesUp sd) s (portComesUp sd p s) := by
  cases sd <;> (
    unfold portComesUp
    repeat' first
      | with_reducible apply Ev.refl | with_reducible assumption | exact rfl
      | with_reducible apply Ev.seq (maybeUp_ev ..) ?_ ?_ | with_reducible apply Ev.seq (runBarriers_ev ..) ?_ ?_
      | with_reducible apply Ev.seq (sendRecoverStart_ev ..) ?_ ?_ | with_reducible apply Ev.ite ?_ ?_
      | with_reducible apply Ev.foldl (fun _ _ => ?_) ?_ | with_reducible apply Ev.foldlSnd (fun _ _ => ?_) ?_ | dsimp only
      | with_reducible refine Ev.ofPair (by assumption) ?_ | contradiction | split)

def Fp.laneLeaves : Side → Nat
  | .module => 0x80f00000000100110500000000000000000100045005100000000001000000000000000000000000000000000000000100000000000000000000000054450050041000000000000
  | .endpoint => 0xd8000000100000000220020a000200000288800000000000000000000000000000000000000000000000000000000000000000000000000000000000000000000a00a0082000000000000
theorem laneLeaves_ev (sd : Side) (n : Nat) (s : State) :
    Ev (Fp.laneLeaves sd) s (laneLeaves sd n s) := by
  cases sd <;> (
    unfold laneLeaves
    repeat' first
      | with_reducible apply Ev.refl | with_reducible assumption | exact rfl
      | with_reducible apply Ev.seq (dropLane_ev ..) ?_ ?_ | with_reducible apply Ev.seq (portDown_ev ..) ?_ ?_
      | with_reducible apply Ev.ite ?_ ?_ | dsimp only | with_reducible refine Ev.ofPair (by assumption) ?_ | contradiction
      | split)

def Fp.leaveAndRetrain : Side → Nat
  | .module => 0x80f00000000100110500000000000000000100045005100000000001000000000000000000000000000000000000000100000000000000000000000054450050041000000000000
  | .endpoint => 0xd8000000100000000220020a000200000288800000000000000000000000000000000000000000000000000000000000000000000000000000000000000000000a00a0082000000000000
theorem leaveAndRetrain_ev (sd : Side) (n : Nat) (ignoreCache : Bool) (s : State) :
    Ev (Fp.leaveAndRetrain sd) s (leaveAndRetrain sd n ignoreCache s) := by
  cases sd <;> (
    unfold leaveAndRetrain
    repeat' first
      | with_reducible apply Ev.refl | with_reducible assumption | exact rfl
      | with_reducible apply Ev.seq (enterDetect_ev ..) ?_ ?_ | with_reducible apply Ev.seq (laneLeaves_ev ..) ?_ ?_
      | dsimp only | contradiction | split)

def Fp.spareLane : Side → Nat
  | .module => 0x82f00000000100114500000000000000000100045005100000000001000000000000000000000000000000000000000100000000000000000000000054450050041000400000000
  | .endpoint => 0xd8000000100000000220028a000200000288800000000000000000000000000000000000000000000000000000000000000000000000000000000000000000000a00a0082000000000000
theorem spareLane_ev (sd : Side) (n : Nat) (s : State) :
    Ev (Fp.spareLane sd) s (spareLane sd n s) := by
  cases sd <;> (
    unfold spareLane
    repeat' first
      | with_reducible apply Ev.refl | with_reducible assumption | exact rfl
      | with_reducible apply Ev.seq (laneLeaves_ev ..) ?_ ?_ | with_reducible apply Ev.seq (remapSlice_ev ..) ?_ ?_
      | dsimp only | with_reducible refine Ev.ofPair (by assumption) ?_ | contradiction | split)

def Fp.replayLimit : Side → Nat
  | .module => 0x80f00000000100110500000000000000000100045005100000000001000000000000000000000000000000000000000100000000000000000000000054450450041000000000000
  | .endpoint => 0xd8000000100000000220020a000200000288800000000000000000000000000000000000000000000000000000000000000000000000000000000000000000000a08a0082000000000000
theorem replayLimit_ev (sd : Side) (p : Nat) (s : State) :
    Ev (Fp.replayLimit sd) s (replayLimit sd p s) := by
  cases sd <;> (
    unfold replayLimit
    repeat' first
      | with_reducible apply Ev.refl | with_reducible assumption | exact rfl
      | with_reducible apply Ev.seq (onPort_ev ..) ?_ ?_ | with_reducible apply Ev.seq (dropLane_ev ..) ?_ ?_
      | with_reducible apply Ev.seq (enterDetect_ev ..) ?_ ?_ | with_reducible apply Ev.seq (portDown_ev ..) ?_ ?_
      | with_reducible apply Ev.seq (replay_ev ..) ?_ ?_ | with_reducible apply Ev.ite ?_ ?_
      | with_reducible apply Ev.foldl (fun _ _ => ?_) ?_ | with_reducible apply Ev.foldlSnd (fun _ _ => ?_) ?_ | dsimp only
      | contradiction | split)

def Fp.replayOrLimit : Side → Nat
  | .module => 0x80f00000000100110500000000000000000100045005100000000001000000000000000000000000000000000000000100000000000000000000000054450450041000000000000
  | .endpoint => 0xd8000000100000000220020a000200000288800000000000000000000000000000000000000000000000000000000000000000000000000000000000000000000a08a0082000000000000
theorem replayOrLimit_ev (sd : Side) (p : Nat) (seq : BitVec 12) (s : State) :
    Ev (Fp.replayOrLimit sd) s (replayOrLimit sd p seq s) := by
  cases sd <;> (
    unfold replayOrLimit
    repeat' first
      | with_reducible apply Ev.refl | with_reducible assumption | exact rfl
      | with_reducible apply Ev.seq (replay_ev ..) ?_ ?_ | with_reducible apply Ev.seq (replayLimit_ev ..) ?_ ?_
      | with_reducible apply Ev.ite ?_ ?_ | dsimp only | contradiction | split)

def Fp.takeLinkFields : Side → Nat
  | .module => 0x80f00000000100110500000000000000000100045005100000000001000000000000000000000000000000000000000100000000000000000000000054410050041000000000000
  | .endpoint => 0xd8000000100000000220020a000200000288800000000000000000000000000000000000000000000000000000000000000000000000000000080080000000000200a0082000000000000
theorem takeLinkFields_ev (sd : Side) (p : Nat) (f : Flit) (s : State) :
    Ev (Fp.takeLinkFields sd) s (takeLinkFields sd p f s).2 := by
  cases sd <;> (
    unfold takeLinkFields
    repeat' first
      | with_reducible apply Ev.refl | with_reducible assumption | exact rfl
      | with_reducible apply Ev.seq (onPort_ev ..) ?_ ?_ | with_reducible apply Ev.seq (portComesUp_ev ..) ?_ ?_
      | with_reducible apply Ev.seq (portDown_ev ..) ?_ ?_ | with_reducible apply Ev.seq (takeAck_ev ..) ?_ ?_ | dsimp only
      | with_reducible refine Ev.ofPair (by assumption) ?_ | contradiction | split)

end Sys2Proof.Machine
end

