-- ==== Sys2Proof/Laws/EvRmwOps.lean ====
section
/-! SUPPORT. What the operations of Machine/RmwOps.lean may touch: one law for each, cited in place of unfolding it. The numbers are
sets of parts (Laws/Frame.lean, `Part.idx`). -/

set_option exponentiation.threshold 1024
set_option linter.unreachableTactic false
set_option linter.unusedTactic false

namespace Sys2Proof.Machine

def Fp.putLock : Nat := 0x1000000000000000000000000000000000000000000000000000000000000000000000000000000000000000000000000000000000000000000000000000000000000000000000000000
theorem putLock_ev (l : LockLine) (s : State) :
    Ev Fp.putLock s (putLock l s) := by
  unfold putLock
  repeat' first
    | with_reducible apply Ev.refl | with_reducible assumption | exact rfl
    | with_reducible apply Ev.seq (onE_ev _ _ ?_) (Sub.refl _) ?_ | with_reducible apply Ev.ite ?_ ?_
    | (constructor <;> first | exact .inl rfl | exact .inr rfl | exact rfl | exact fun h => h | exact fun _ => rfl)
    | dsimp only | split

def Fp.dropLock : Nat := 0x1000000000000000000000000000000000000000000000000000000000000000000000000000000000000000000000000000000000000000000000000000000000000000000000000000
theorem dropLock_ev (line : Nat) (s : State) :
    Ev Fp.dropLock s (dropLock line s) := by
  unfold dropLock
  repeat' first
    | with_reducible apply Ev.refl | with_reducible assumption | exact rfl
    | with_reducible apply Ev.seq (onE_ev _ _ ?_) (Sub.refl _) ?_
    | (constructor <;> first | exact .inl rfl | exact .inr rfl | exact rfl | exact fun h => h | exact fun _ => rfl)
    | dsimp only | split

def Fp.askLock : Nat := 0x3b0000000000000200000000000000000000000000000000000000000000000000000000000000000000000000000000000000000000000000000000000000000000000000000000000
theorem askLock_ev (line : Nat) (s : State) :
    Ev Fp.askLock s (askLock line s) := by
  unfold askLock
  repeat' first
    | with_reducible apply Ev.refl | with_reducible assumption | exact rfl
    | with_reducible apply Ev.seq (startTxnWith_ev ..) ?_ ?_ | dsimp only | split

def Fp.applyWaiting : Nat := 0x1400000000000000000000000000000000000000000000000000000000000000000000000000000000000000000000000000000000000000000000000000000000000000000000000000
theorem applyWaiting_ev (line : Nat) (s : State) :
    Ev Fp.applyWaiting s (applyWaiting line s) := by
  unfold applyWaiting
  repeat' first
    | with_reducible apply Ev.refl | with_reducible assumption | exact rfl
    | with_reducible apply Ev.seq (onE_ev _ _ ?_) (Sub.refl _) ?_ | with_reducible apply Ev.seq (putLock_ev ..) ?_ ?_
    | with_reducible apply Ev.ite ?_ ?_ | with_reducible apply Ev.foldl (fun _ _ => ?_) ?_
    | with_reducible apply Ev.foldlSnd (fun _ _ => ?_) ?_
    | (constructor <;> first | exact .inl rfl | exact .inr rfl | exact rfl | exact fun h => h | exact fun _ => rfl)
    | dsimp only | with_reducible refine Ev.ofPair (by assumption) ?_ | split

def Fp.joinLine : Nat := 0x17b0000000000000200000000000000000000000000000000000000000000000000000000000000000000000000000000000000000000000000000000000000000000000000000000000
theorem joinLine_ev (line : Nat) (id : Nat) (s : State) :
    Ev Fp.joinLine s (joinLine line id s) := by
  unfold joinLine
  repeat' first
    | with_reducible apply Ev.refl | with_reducible assumption | exact rfl
    | with_reducible apply Ev.seq (applyWaiting_ev ..) ?_ ?_ | with_reducible apply Ev.seq (askLock_ev ..) ?_ ?_
    | with_reducible apply Ev.seq (putLock_ev ..) ?_ ?_ | with_reducible apply Ev.ite ?_ ?_ | dsimp only
    | with_reducible refine Ev.ofPair (by assumption) ?_ | split

def Fp.startJob : Nat := 0x1fb0000000000000200000000000000000000000000000000000000000000000000000000000000000000000000000000000000000000000000000000000000000000000000000000000
theorem startJob_ev (use : RmwUse) (addr : Nat) (op : Nat) (type : Nat) (data : List Byte) (s : State) :
    Ev Fp.startJob s (startJob use addr op type data s) := by
  unfold startJob
  repeat' first
    | with_reducible apply Ev.refl | with_reducible assumption | exact rfl
    | with_reducible apply Ev.seq (onE_ev _ _ ?_) (Sub.refl _) ?_ | with_reducible apply Ev.seq (joinLine_ev ..) ?_ ?_
    | (constructor <;> first | exact .inl rfl | exact .inr rfl | exact rfl | exact fun h => h | exact fun _ => rfl)
    | dsimp only | split

def Fp.endJobs : Nat := 0x400000000000000000000000000000000000000000000000000000000000000000000000000000000000000000000000000000000000000000000000000000000000000000000000000
theorem endJobs_ev (ids : List Nat) (st : Status) (s : State) :
    Ev Fp.endJobs s (endJobs ids st s).2 := by
  unfold endJobs
  repeat' first
    | with_reducible apply Ev.refl | with_reducible assumption | exact rfl
    | with_reducible apply Ev.seq (onE_ev _ _ ?_) (Sub.refl _) ?_
    | (constructor <;> first | exact .inl rfl | exact .inr rfl | exact rfl | exact fun h => h | exact fun _ => rfl)
    | dsimp only | split

def Fp.lockAnswered : Nat := 0x17b0000000000000200000000000000000000000000000000000000000000000000000000000000000000000000000000000000000000000000000000000000000000000000000000000
theorem lockAnswered_ev (line : Nat) (tag : Nat) (st : Status) (data : List Byte) (timeout : Bool) (s : State) :
    Ev Fp.lockAnswered s (lockAnswered line tag st data timeout s).2 := by
  unfold lockAnswered
  repeat' first
    | with_reducible apply Ev.refl | with_reducible assumption | exact rfl
    | with_reducible apply Ev.seq (applyWaiting_ev ..) ?_ ?_ | with_reducible apply Ev.seq (dropLock_ev ..) ?_ ?_
    | with_reducible apply Ev.seq (endJobs_ev ..) ?_ ?_ | with_reducible apply Ev.seq (putLock_ev ..) ?_ ?_
    | with_reducible apply Ev.seq (startTxnWith_ev ..) ?_ ?_ | with_reducible apply Ev.ite ?_ ?_ | dsimp only
    | with_reducible refine Ev.ofPair (by assumption) ?_ | split

def Fp.releaseLine : Nat := 0x13b0000000000000200000000000000000000000000000000000000000000000000000000000000000000000000000000000000000000000000000000000000000000000000000000000
theorem releaseLine_ev (line : Nat) (s : State) :
    Ev Fp.releaseLine s (releaseLine line s) := by
  unfold releaseLine
  repeat' first
    | with_reducible apply Ev.refl | with_reducible assumption | exact rfl
    | with_reducible apply Ev.seq (putLock_ev ..) ?_ ?_ | with_reducible apply Ev.seq (startTxnWith_ev ..) ?_ ?_
    | with_reducible apply Ev.ite ?_ ?_ | dsimp only | with_reducible refine Ev.ofPair (by assumption) ?_ | split

def Fp.unlockAnswered : Nat := 0x17b0000000000000200000000000000000000000000000000000000000000000000000000000000000000000000000000000000000000000000000000000000000000000000000000000
theorem unlockAnswered_ev (line : Nat) (st : Status) (s : State) :
    Ev Fp.unlockAnswered s (unlockAnswered line st s).2 := by
  unfold unlockAnswered
  repeat' first
    | with_reducible apply Ev.refl | with_reducible assumption | exact rfl
    | with_reducible apply Ev.seq (askLock_ev ..) ?_ ?_ | with_reducible apply Ev.seq (dropLock_ev ..) ?_ ?_
    | with_reducible apply Ev.seq (endJobs_ev ..) ?_ ?_ | with_reducible apply Ev.seq (joinLine_ev ..) ?_ ?_
    | with_reducible apply Ev.seq (putLock_ev ..) ?_ ?_ | with_reducible apply Ev.ite ?_ ?_
    | with_reducible apply Ev.foldl (fun _ _ => ?_) ?_ | with_reducible apply Ev.foldlSnd (fun _ _ => ?_) ?_ | dsimp only
    | with_reducible refine Ev.ofPair (by assumption) ?_ | split

end Sys2Proof.Machine
end

