-- ==== Sys2Proof/Laws/EvDmaOps.lean ====
section
/-! SUPPORT. What the operations of Machine/DmaOps.lean may touch: one law for each, cited in place of unfolding it. The numbers are
sets of parts (Laws/Frame.lean, `Part.idx`). -/

set_option exponentiation.threshold 1024
set_option linter.unreachableTactic false
set_option linter.unusedTactic false

namespace Sys2Proof.Machine

def Fp.qwr : Nat := (Part.reg .endpoint .fxeCq).bit ||| (Part.reg .endpoint .fxeDmaq).bit
theorem qwr_ev (f : Field) (q v : Nat) (s : State) (h1 : Sub (Part.reg .endpoint f.reg).bit Fp.qwr)
    (h2 : f.listed = true) (h3 : ({ f with reg := .fxeCq } : Field).listed = true) : Ev Fp.qwr s (qwr f q v s) := by
  unfold qwr
  split
  · exact Ev.mono (A := (Part.reg .endpoint .fxeCq).bit) rfl (wr_ev _ _ _ _ _ h3)
  · exact Ev.mono h1 (wr_ev _ _ _ _ _ h2)

def Fp.onQueue : Nat := 0x8000000000000000000000000000000000000000000000000000000000000000000000000000000000000000000000000000000000000000000000000000000000000000000000000000000
theorem onQueue_ev (q : Nat) (f : EpQueue → EpQueue) (s : State) :
    Ev Fp.onQueue s (onQueue q f s) := by
  unfold onQueue
  repeat' first
    | with_reducible apply Ev.refl | with_reducible assumption | exact rfl
    | with_reducible apply Ev.seq (onE_ev _ _ ?_) (Sub.refl _) ?_
    | (constructor <;> first | exact .inl rfl | exact .inr rfl | exact rfl | exact fun h => h | exact fun _ => rfl)
    | dsimp only | split

def Fp.fetchNext : Nat := 0x80003b0000000000000200000000000000000000000000000000000000000000000000000000000000000000000000000000000000000000000000000000000000000000000000000000000
theorem fetchNext_ev (q : Nat) (active : Nat) (s : State) :
    Ev Fp.fetchNext s (fetchNext q active s) := by
  unfold fetchNext
  repeat' first
    | with_reducible apply Ev.refl | with_reducible assumption | exact rfl
    | with_reducible apply Ev.seq (memLoad_ev ..) ?_ ?_ | with_reducible apply Ev.seq (onQueue_ev ..) ?_ ?_
    | with_reducible apply Ev.ite ?_ ?_ | dsimp only | split

def Fp.fetched : Nat := 0x80003b0000000000000200000000002800000000000000000000000000000000000000000000000000000000000000000000000000000000000000000000000000000000000000000000000
theorem fetched_ev (q : Nat) (active : Nat) (st : Status) (data : List Byte) (s : State) :
    Ev Fp.fetched s (fetched q active st data s) := by
  unfold fetched
  repeat' first
    | with_reducible apply Ev.refl | with_reducible assumption | exact rfl
    | with_reducible apply Ev.seq (fetchNext_ev ..) ?_ ?_ | with_reducible apply Ev.seq (onQueue_ev ..) ?_ ?_
    | with_reducible apply Ev.seq (qwr_ev _ _ _ _ ?_ ?_ ?_) ?_ ?_ | with_reducible apply Ev.ite ?_ ?_ | dsimp only | split

def Fp.stopQueue : Nat := 0x200000000002800000080000000000000000000000000000000000000000000000000000000000000000000000000000000000000000000000000000000000000000
theorem stopQueue_ev (q : Nat) (st : Status) (s : State) :
    Ev Fp.stopQueue s (stopQueue q st s) := by
  unfold stopQueue
  repeat' first
    | with_reducible apply Ev.refl | with_reducible assumption | exact rfl
    | with_reducible apply Ev.seq (qwr_ev _ _ _ _ ?_ ?_ ?_) ?_ ?_
    | with_reducible apply Ev.seq (raiseVector_ev _ _ (by decide)) ?_ ?_ | dsimp only | split

def Fp.onDesc : Nat := 0x8000000000000000000000000000000000000000000000000000000000000000000000000000000000000000000000000000000000000000000000000000000000000000000000000000000
theorem onDesc_ev (q : Nat) (serial : Nat) (f : DmaDesc → DmaDesc) (s : State) :
    Ev Fp.onDesc s (onDesc q serial f s) := by
  unfold onDesc
  repeat' first
    | with_reducible apply Ev.refl | with_reducible assumption | exact rfl
    | with_reducible apply Ev.seq (onQueue_ev ..) ?_ ?_ | with_reducible apply Ev.ite ?_ ?_ | dsimp only | split

def Fp.dmaPacket : Nat := 0x3b0000100000000220020800020000028880000000000000000000000000000000000000000000000000000000000000000000000000000008008000000000000000000000000000000
theorem dmaPacket_ev (q : Nat) (serial : Nat) (write : Bool) (stream : BitVec 4) (localAddr : Nat) (remote : Nat) (s : State) (c : Nat × Nat) :
    Ev Fp.dmaPacket s (dmaPacket q serial write stream localAddr remote s c) := by
  unfold dmaPacket
  repeat' first
    | with_reducible apply Ev.refl | with_reducible assumption | exact rfl
    | with_reducible apply Ev.seq (issueOp_ev ..) ?_ ?_ | with_reducible apply Ev.seq (memLoad_ev ..) ?_ ?_
    | with_reducible apply Ev.ite ?_ ?_ | dsimp only | split

def Fp.startDma : Nat := 0x80003b0000100000000220020800020000028880000000000000000000000000000000000000000000000000000000000000000000000000000008008000000000000000000000000000000
theorem startDma_ev (q : Nat) (d : List Byte) (s : State) :
    Ev Fp.startDma s (startDma q d s) := by
  unfold startDma
  repeat' first
    | with_reducible apply Ev.refl | with_reducible assumption | exact rfl
    | with_reducible apply Ev.seq (dmaPacket_ev ..) ?_ ?_ | with_reducible apply Ev.seq (onQueue_ev ..) ?_ ?_
    | with_reducible apply Ev.ite ?_ ?_ | with_reducible apply Ev.foldl (fun _ _ => ?_) ?_
    | with_reducible apply Ev.foldlSnd (fun _ _ => ?_) ?_ | dsimp only | split

def Fp.startNextDma : Nat := 0x80003b0000100000000220020800022800028880000000000000000000000000000000000000000000000000000000000000000000000000000008008000000000000000000000000000000
theorem startNextDma_ev (q : Nat) (s : State) :
    Ev Fp.startNextDma s (startNextDma q s) := by
  unfold startNextDma
  repeat' first
    | with_reducible apply Ev.refl | with_reducible assumption | exact rfl
    | with_reducible apply Ev.seq (fetched_ev ..) ?_ ?_ | with_reducible apply Ev.seq (onQueue_ev ..) ?_ ?_
    | with_reducible apply Ev.seq (startDma_ev ..) ?_ ?_ | with_reducible apply Ev.ite ?_ ?_ | dsimp only
    | with_reducible refine Ev.ofPair (by assumption) ?_ | split

def Fp.dmaPart : Nat := 0x8000000000000000000000000000000000000000000000000000000000000000000000000000000000000000000000000000000000000000000000000000000000000000000000000000000
theorem dmaPart_ev (q : Nat) (serial : Nat) (st : Status) (outcome : Nat) (bytes : Nat) (s : State) :
    Ev Fp.dmaPart s (dmaPart q serial st outcome bytes s) := by
  unfold dmaPart
  repeat' first
    | with_reducible apply Ev.refl | with_reducible assumption | exact rfl
    | with_reducible apply Ev.seq (onDesc_ev ..) ?_ ?_ | with_reducible apply Ev.ite ?_ ?_ | dsimp only | split

def Fp.dmaPacketDone : Nat := 0x80003b0000000000000200000000000000000000000000000000000000000000000000000000000000000000000000000000000000000000000000000000000000000000000000000000000
theorem dmaPacketDone_ev (q : Nat) (serial : Nat) (f : Finished) (s : State) :
    Ev Fp.dmaPacketDone s (dmaPacketDone q serial f s) := by
  unfold dmaPacketDone
  repeat' first
    | with_reducible apply Ev.refl | with_reducible assumption | exact rfl
    | with_reducible apply Ev.seq (dmaPart_ev ..) ?_ ?_ | with_reducible apply Ev.seq (memStore_ev ..) ?_ ?_
    | with_reducible apply Ev.seq (onDesc_ev ..) ?_ ?_ | with_reducible apply Ev.ite ?_ ?_ | dsimp only
    | with_reducible refine Ev.ofPair (by assumption) ?_ | split

def Fp.completeDma : Nat := 0x80003b0000000000000200000000002800000080000000000000000000000000000000000000000000000000000000000000000000000000000000000000000000000000000000000000000
theorem completeDma_ev (q : Nat) (d : DmaDesc) (s : State) :
    Ev Fp.completeDma s (completeDma q d s) := by
  unfold completeDma
  repeat' first
    | with_reducible apply Ev.refl | with_reducible assumption | exact rfl
    | with_reducible apply Ev.seq (fetchNext_ev ..) ?_ ?_ | with_reducible apply Ev.seq (memStore_ev ..) ?_ ?_
    | with_reducible apply Ev.seq (onQueue_ev ..) ?_ ?_ | with_reducible apply Ev.seq (qwr_ev _ _ _ _ ?_ ?_ ?_) ?_ ?_
    | with_reducible apply Ev.seq (stopQueue_ev ..) ?_ ?_ | with_reducible apply Ev.ite ?_ ?_ | dsimp only | split

end Sys2Proof.Machine
end

