-- ==== Sys2Proof/Laws/EvDominoOps.lean ====
section
/-! SUPPORT. What the operations of Machine/DominoOps.lean may touch: one law for each, cited in place of unfolding it. The numbers are
sets of parts (Laws/Frame.lean, `Part.idx`). -/

set_option exponentiation.threshold 1024
set_option linter.unreachableTactic false
set_option linter.unusedTactic false

namespace Sys2Proof.Machine

def Fp.domPending : Nat := 0x20000000000000000000000000000000000000000000000000000000000000000000000000000000000000000000000000000000000000000
theorem domPending_ev (s : State) :
    Ev Fp.domPending s (domPending s) := by
  unfold domPending
  repeat' first
    | with_reducible apply Ev.refl | with_reducible assumption | exact rfl
    | with_reducible apply Ev.seq (wr_ev _ _ _ _ _ ?_) ?_ ?_ | dsimp only | split

def Fp.domReach : Nat := 0xc00000000000000000000000000000000000000000000000000000000000000000000000000000000000000000000000000000000000000000000000000000000000000000000000000000
theorem domReach_ev (n : Nat) (s : State) :
    Ev Fp.domReach s (domReach n s) := by
  unfold domReach
  repeat' first
    | with_reducible apply Ev.refl | with_reducible assumption | exact rfl
    | with_reducible apply Ev.seq (onE_ev _ _ ?_) (Sub.refl _) ?_ | with_reducible apply Ev.ite ?_ ?_
    | (constructor <;> first | exact .inl rfl | exact .inr rfl | exact rfl | exact fun h => h | exact fun _ => rfl)
    | dsimp only | split

def Fp.domDiscard : Nat := 0x400000000000000000000000000000000000020000000000000000000000000000000000000000000000000000000000000000000000000000000000000000000000000000000000000000
theorem domDiscard_ev (n : Nat) (s : State) :
    Ev Fp.domDiscard s (domDiscard n s) := by
  unfold domDiscard
  repeat' first
    | with_reducible apply Ev.refl | with_reducible assumption | exact rfl
    | with_reducible apply Ev.seq (onE_ev _ _ ?_) (Sub.refl _) ?_
    | with_reducible apply Ev.seq (saturate_ev _ _ _ _ _ ?_) ?_ ?_ | with_reducible apply Ev.seq (domPending_ev ..) ?_ ?_
    | (constructor <;> first | exact .inl rfl | exact .inr rfl | exact rfl | exact fun h => h | exact fun _ => rfl)
    | dsimp only | split

def Fp.domFail : Nat := 0x4000000000000000002000200000280000288a0000000000000000000000000000000000000000000000000000000000000000000000000000000000000000000000000000000000000000
theorem domFail_ev (n : Nat) (st : Status) (s : State) :
    Ev Fp.domFail s (domFail n st s) := by
  unfold domFail
  repeat' first
    | with_reducible apply Ev.refl | with_reducible assumption | exact rfl
    | with_reducible apply Ev.seq (wr_ev _ _ _ _ _ ?_) ?_ ?_ | with_reducible apply Ev.seq (wrb_ev _ _ _ _ _ ?_) ?_ ?_
    | with_reducible apply Ev.seq (domDiscard_ev ..) ?_ ?_ | with_reducible apply Ev.seq (logEvent_ev ..) ?_ ?_
    | with_reducible apply Ev.seq (raiseVector_ev _ _ (by decide)) ?_ ?_ | dsimp only | split

def Fp.domCount : Nat := 0xc00000000000000000000000000008000000000000000000000000000000000000000000000000000000000000000000000000000000000000000000000000000000000000000000000000
theorem domCount_ev (n : Nat) (s : State) :
    Ev Fp.domCount s (domCount n s) := by
  unfold domCount
  repeat' first
    | with_reducible apply Ev.refl | with_reducible assumption | exact rfl
    | with_reducible apply Ev.seq (wr_ev _ _ _ _ _ ?_) ?_ ?_ | with_reducible apply Ev.seq (domReach_ev ..) ?_ ?_
    | dsimp only | split

def Fp.setDomCheck : Nat := 0x4000000000000000000000000000000000000000000000000000000000000000000000000000000000000000000000000000000000000000000000000000000000000000000000000000000
theorem setDomCheck_ev (n : Nat) (v : Word) (s : State) :
    Ev Fp.setDomCheck s (setDomCheck n v s) := by
  unfold setDomCheck
  repeat' first
    | with_reducible apply Ev.refl | with_reducible assumption | exact rfl
    | with_reducible apply Ev.seq (onE_ev _ _ ?_) (Sub.refl _) ?_
    | (constructor <;> first | exact .inl rfl | exact .inr rfl | exact rfl | exact fun h => h | exact fun _ => rfl)
    | dsimp only | split

def Fp.domWrite : Nat := 0x4c00000000000000000000000000008000000000000000000000000000000000000000000000000000000000000000000000000000000000000000000000000000000000000000000000000
theorem domWrite_ev (n : Nat) (v : Nat) (s : State) :
    Ev Fp.domWrite s (domWrite n v s) := by
  unfold domWrite
  repeat' first
    | with_reducible apply Ev.refl | with_reducible assumption | exact rfl
    | with_reducible apply Ev.seq (wr_ev _ _ _ _ _ ?_) ?_ ?_ | with_reducible apply Ev.seq (wrb_ev _ _ _ _ _ ?_) ?_ ?_
    | with_reducible apply Ev.seq (domReach_ev ..) ?_ ?_ | with_reducible apply Ev.seq (setDomCheck_ev ..) ?_ ?_
    | dsimp only | split

def Fp.postTrig : Nat := 0x2c00000000000000000000000000000000000020000000000000000000000000000000000000000000000000000000000000000000000000000000000000000000000000000000000000000
theorem postTrig_ev (d : List Byte) (s : State) :
    Ev Fp.postTrig s (postTrig d s).2 := by
  unfold postTrig
  repeat' first
    | with_reducible apply Ev.refl | with_reducible assumption | exact rfl
    | with_reducible apply Ev.seq (onE_ev _ _ ?_) (Sub.refl _) ?_ | with_reducible apply Ev.seq (domDiscard_ev ..) ?_ ?_
    | with_reducible apply Ev.seq (domPending_ev ..) ?_ ?_ | with_reducible apply Ev.seq (domReach_ev ..) ?_ ?_
    | with_reducible apply Ev.ite ?_ ?_
    | (constructor <;> first | exact .inl rfl | exact .inr rfl | exact rfl | exact fun h => h | exact fun _ => rfl)
    | dsimp only | split

def Fp.trigEnds : Nat := 0x1000000000000000000000000000000000000000000000000000000000000000000000000000000000000000000000000000000000000000000000000000000000000000000000000000000
theorem trigEnds_ev (id : Nat) (k : Nat) (st : Status) (s : State) :
    Ev Fp.trigEnds s (trigEnds id k st s) := by
  unfold trigEnds
  repeat' first
    | with_reducible apply Ev.refl | with_reducible assumption | exact rfl
    | with_reducible apply Ev.seq (onE_ev _ _ ?_) (Sub.refl _) ?_ | with_reducible apply Ev.ite ?_ ?_
    | (constructor <;> first | exact .inl rfl | exact .inr rfl | exact rfl | exact fun h => h | exact fun _ => rfl)
    | dsimp only | split

def Fp.trigWaits : Nat := 0x1000000000000000000000000000000000000000000000000000000000000000000000000000000000000000000000000000000000000000000000000000000000000000000000000000000
theorem trigWaits_ev (id : Nat) (k : Nat) (s : State) :
    Ev Fp.trigWaits s (trigWaits id k s) := by
  unfold trigWaits
  repeat' first
    | with_reducible apply Ev.refl | with_reducible assumption | exact rfl
    | with_reducible apply Ev.seq (onE_ev _ _ ?_) (Sub.refl _) ?_ | with_reducible apply Ev.ite ?_ ?_
    | (constructor <;> first | exact .inl rfl | exact .inr rfl | exact rfl | exact fun h => h | exact fun _ => rfl)
    | dsimp only | split

def Fp.sendSegments : Nat := 0x1000000000100000000220020800020000028880000000000000000000000000000000000000000000000000000000000000000000000000000008008000000000000000000000000000000
theorem sendSegments_ev (t : TrigOp) (data : List Byte) (s : State) :
    Ev Fp.sendSegments s (sendSegments t data s) := by
  unfold sendSegments
  repeat' first
    | with_reducible apply Ev.refl | with_reducible assumption | exact rfl
    | with_reducible apply Ev.seq (issueOp_ev ..) ?_ ?_ | with_reducible apply Ev.seq (trigWaits_ev ..) ?_ ?_
    | with_reducible apply Ev.ite ?_ ?_ | with_reducible apply Ev.foldl (fun _ _ => ?_) ?_
    | with_reducible apply Ev.foldlSnd (fun _ _ => ?_) ?_ | dsimp only | split

def Fp.fireTrig : Nat := 0x18003b0000000000000200000000000000000000000000000000000000000000000000000000000000000000000000000000000000000000000000000000000000000000000000000000000
theorem fireTrig_ev (s : State) :
    Ev Fp.fireTrig s (fireTrig s) := by
  unfold fireTrig
  repeat' first
    | with_reducible apply Ev.refl | with_reducible assumption | exact rfl
    | with_reducible apply Ev.seq (onE_ev _ _ ?_) (Sub.refl _) ?_ | with_reducible apply Ev.seq (memLoad_ev ..) ?_ ?_
    | with_reducible apply Ev.seq (memStore_ev ..) ?_ ?_ | with_reducible apply Ev.seq (trigEnds_ev ..) ?_ ?_
    | with_reducible apply Ev.ite ?_ ?_
    | (constructor <;> first | exact .inl rfl | exact .inr rfl | exact rfl | exact fun h => h | exact fun _ => rfl)
    | dsimp only | with_reducible refine Ev.ofPair (by assumption) ?_ | split

def Fp.trigData : Nat := 0x1001fb0000100000000220020800020000028880000000000000000000000000000000000000000000000000000000000000000000000000000008008000000000000000000000000000000
theorem trigData_ev (id : Nat) (send : Bool) (st : Status) (data : List Byte) (s : State) :
    Ev Fp.trigData s (trigData id send st data s) := by
  unfold trigData
  repeat' first
    | with_reducible apply Ev.refl | with_reducible assumption | exact rfl
    | with_reducible apply Ev.seq (sendSegments_ev ..) ?_ ?_ | with_reducible apply Ev.seq (startJob_ev ..) ?_ ?_
    | with_reducible apply Ev.seq (trigEnds_ev ..) ?_ ?_ | with_reducible apply Ev.ite ?_ ?_ | dsimp only
    | with_reducible refine Ev.ofPair (by assumption) ?_ | split

def Fp.completeTrig : Nat := 0x1c000000000000000002000200000280000288a0000000000000000000000000000000000000000000000000000000000000000000000000000000000000000000000000000000000000000
theorem completeTrig_ev (r : TrigRun) (s : State) :
    Ev Fp.completeTrig s (completeTrig r s) := by
  unfold completeTrig
  repeat' first
    | with_reducible apply Ev.refl | with_reducible assumption | exact rfl
    | with_reducible apply Ev.seq (onE_ev _ _ ?_) (Sub.refl _) ?_ | with_reducible apply Ev.seq (domCount_ev ..) ?_ ?_
    | with_reducible apply Ev.seq (domFail_ev ..) ?_ ?_ | with_reducible apply Ev.seq (domPending_ev ..) ?_ ?_
    | (constructor <;> first | exact .inl rfl | exact .inr rfl | exact rfl | exact fun h => h | exact fun _ => rfl)
    | dsimp only | with_reducible refine Ev.ofPair (by assumption) ?_ | split

def Fp.refuseSegment : Nat := 0x100000000020000800000000000000000000000000000000000000000000000000000000000000000000000000000000000000000000000000000000000000000000000000000
theorem refuseSegment_ev (p : Packet) (st : Status) (s : State) :
    Ev Fp.refuseSegment s (refuseSegment p st s) := by
  unfold refuseSegment
  repeat' first
    | with_reducible apply Ev.refl | with_reducible assumption | exact rfl
    | with_reducible apply Ev.seq (onXpt_ev ..) ?_ ?_ | with_reducible apply Ev.seq (deliver_ev ..) ?_ ?_
    | with_reducible apply Ev.seq (sendNack_ev ..) ?_ ?_ | with_reducible apply Ev.ite ?_ ?_ | dsimp only | split

def Fp.applySegment : Nat := 0x1fb0000000000000220000000000000000000000000000000000000000000000000000000000000000000000000000000000000000000000000000000000000000000000000000000000
theorem applySegment_ev (port : Nat) (p : Packet) (addr : Nat) (s : State) :
    Ev Fp.applySegment s (applySegment port p addr s) := by
  unfold applySegment
  repeat' first
    | with_reducible apply Ev.refl | with_reducible assumption | exact rfl
    | with_reducible apply Ev.seq (memStore_ev ..) ?_ ?_ | with_reducible apply Ev.seq (startJob_ev ..) ?_ ?_
    | with_reducible apply Ev.seq (startWork_ev ..) ?_ ?_ | with_reducible apply Ev.ite ?_ ?_ | dsimp only | split

def Fp.segmentDone : Nat := 0x4c000000001000000002200208000280000288a0000000000000000000000000000000000000000000000000000000000000000000000000000000000000000000000000000000000000000
theorem segmentDone_ev (p : Packet) (st : Status) (s : State) :
    Ev Fp.segmentDone s (segmentDone p st s) := by
  unfold segmentDone
  repeat' first
    | with_reducible apply Ev.refl | with_reducible assumption | exact rfl
    | with_reducible apply Ev.seq (deliver_ev ..) ?_ ?_ | with_reducible apply Ev.seq (domCount_ev ..) ?_ ?_
    | with_reducible apply Ev.seq (domFail_ev ..) ?_ ?_ | with_reducible apply Ev.seq (domPending_ev ..) ?_ ?_
    | with_reducible apply Ev.seq (refuseSegment_ev ..) ?_ ?_ | with_reducible apply Ev.seq (setDomCheck_ev ..) ?_ ?_
    | with_reducible apply Ev.ite ?_ ?_ | with_reducible apply Ev.foldl (fun _ _ => ?_) ?_
    | with_reducible apply Ev.foldlSnd (fun _ _ => ?_) ?_ | dsimp only | split

end Sys2Proof.Machine
end

