-- ==== Sys2Proof/Laws/EvFinish.lean ====
section
/-! SUPPORT. What the operations of Machine/Finish.lean may touch: one law for each, cited in place of unfolding it. The numbers are
sets of parts (Laws/Frame.lean, `Part.idx`). -/

set_option exponentiation.threshold 1024
set_option linter.unreachableTactic false
set_option linter.unusedTactic false

namespace Sys2Proof.Machine

def Fp.fillLine : Nat := 0x176000000100000000220020800020000028880000000000000000000000000000000000000000000000000000000000000000000000000000008008000000000000000000000000000000
theorem fillLine_ev (f : Finished) (s : State) :
    Ev Fp.fillLine s (fillLine f s) := by
  unfold fillLine
  repeat' first
    | with_reducible apply Ev.refl | with_reducible assumption | exact rfl
    | with_reducible apply Ev.seq (onE_ev _ _ ?_) (Sub.refl _) ?_ | with_reducible apply Ev.seq (makeWay_ev ..) ?_ ?_
    | with_reducible apply Ev.seq (putLine_ev ..) ?_ ?_ | with_reducible apply Ev.ite ?_ ?_
    | (constructor <;> first | exact .inl rfl | exact .inr rfl | exact rfl | exact fun h => h | exact fun _ => rfl)
    | dsimp only | split

def Fp.xqDone : Nat := 0x176000000100000000220020800020000028880000000000000000000000000000000000000000000000000000000000000000000000000000008008000000000000000000000000000000
theorem xqDone_ev (ctx : Nat) (atag : Nat) (skip : Nat) (len : Nat) (f : Finished) (s : State) :
    Ev Fp.xqDone s (xqDone ctx atag skip len f s) := by
  unfold xqDone
  repeat' first
    | with_reducible apply Ev.refl | with_reducible assumption | exact rfl
    | with_reducible apply Ev.seq (dropReadMostly_ev ..) ?_ ?_ | with_reducible apply Ev.seq (fillLine_ev ..) ?_ ?_
    | with_reducible apply Ev.seq (raiseVector_ev _ _ (by decide)) ?_ ?_ | with_reducible apply Ev.seq (xrDone_ev ..) ?_ ?_
    | with_reducible apply Ev.ite ?_ ?_ | dsimp only | split

def Fp.settleOne : Side → Nat
  | .module => 0x93763b0000700000000330130c0002000002888000015404400510000000000100000000000000000000000000000000000000000000000000000c00c000000054000000000000000000000
  | .endpoint => 0x93763b0000700000000330130c0002000002888000015404400510000000000100000000000000000000000000000000000000000000000000000c00c000000054000000000000000000000
theorem settleOne_ev (_sd : Side) (f : Finished) (s : State) :
    Ev (Fp.settleOne _sd) s (settleOne _sd f s) := by
  cases _sd <;> (
    unfold settleOne
    repeat' first
      | with_reducible apply Ev.refl | with_reducible assumption | exact rfl
      | with_reducible apply Ev.seq (onE_ev _ _ ?_) (Sub.refl _) ?_ | with_reducible apply Ev.seq (aptDone_ev ..) ?_ ?_
      | with_reducible apply Ev.seq (dmaPacketDone_ev ..) ?_ ?_ | with_reducible apply Ev.seq (trigEnds_ev ..) ?_ ?_
      | with_reducible apply Ev.seq (xqDone_ev ..) ?_ ?_
      | (constructor <;> first | exact .inl rfl | exact .inr rfl | exact rfl | exact fun h => h | exact fun _ => rfl)
      | dsimp only | with_reducible refine Ev.ofPair (by assumption) ?_ | contradiction | split)

def Fp.settleRun : Side → Nat
  | .module => 0x93763b0000700000000330130c0002000002888000015404400510000000000100000000000000000000000000000000000000000000000000000c00c000000054000000000000000000000
  | .endpoint => 0x93763b0000700000000330130c0002000002888000015404400510000000000100000000000000000000000000000000000000000000000000000c00c000000054000000000000000000000
theorem settleRun_ev (sd : Side) (n : Nat) (s : State) : Ev (Fp.settleRun sd) s (settleRun sd n s) := by
  induction n generalizing s with
  | zero => exact Ev.refl _
  | succ n ih =>
    cases sd <;> (
      unfold settleRun
      repeat' first
        | with_reducible apply Ev.refl | with_reducible assumption | with_reducible apply Ev.seq (ih ..) (Sub.refl _) ?_
        | exact rfl | with_reducible apply Ev.seq (onXpt_ev ..) ?_ ?_ | with_reducible apply Ev.seq (settleOne_ev ..) ?_ ?_
        | dsimp only | with_reducible refine Ev.ofPair (by assumption) ?_ | contradiction | split)

def Fp.settle : Side → Nat
  | .module => 0x93763b0000700000000330130c0002000002888000015404400510000000000100000000000000000000000000000000000000000000000000000c00c000000054000000000000000000000
  | .endpoint => 0x93763b0000700000000330130c0002000002888000015404400510000000000100000000000000000000000000000000000000000000000000000c00c000000054000000000000000000000
theorem settle_ev (sd : Side) (s : State) :
    Ev (Fp.settle sd) s (settle sd s) := by
  cases sd <;> (
    unfold settle
    repeat' first
      | with_reducible apply Ev.refl | with_reducible assumption | exact rfl
      | with_reducible apply Ev.seq (settleRun_ev ..) ?_ ?_ | dsimp only | contradiction | split)

def Fp.settleBoth : Nat := 0x93763b0000700000000330130c0002000002888000015404400510000000000100000000000000000000000000000000000000000000000000000c00c000000054000000000000000000000
theorem settleBoth_ev (s : State) :
    Ev Fp.settleBoth s (settleBoth s) := by
  unfold settleBoth
  repeat' first
    | with_reducible apply Ev.refl | with_reducible assumption | exact rfl
    | with_reducible apply Ev.seq (settle_ev ..) ?_ ?_ | dsimp only | split

end Sys2Proof.Machine
end

