-- ==== Sys2Proof/Laws/EvRedOps.lean ====
section
/-! SUPPORT. What the operations of Machine/RedOps.lean may touch: one law for each, cited in place of unfolding it. The numbers are
sets of parts (Laws/Frame.lean, `Part.idx`). -/

set_option exponentiation.threshold 1024
set_option linter.unreachableTactic false
set_option linter.unusedTactic false

namespace Sys2Proof.Machine

def Fp.project : Nat := 0x1200000000100010000000000000000000100004005100000000001000000000000000000000110010000000000000000000000000000000000000000000000000000000000000
theorem project_ev (n : Nat) (b : Nat) (x : List Nat) (s : State) :
    Ev Fp.project s (project n b x s).2 := by
  unfold project
  repeat' first
    | with_reducible apply Ev.refl | with_reducible assumption | exact rfl
    | with_reducible apply Ev.seq (bumpBy_ev _ _ _ _ _ ?_) ?_ ?_ | with_reducible apply Ev.seq (onMrn_ev ..) ?_ ?_
    | with_reducible apply Ev.foldl (fun _ _ => ?_) ?_ | with_reducible apply Ev.foldlSnd (fun _ _ => ?_) ?_ | dsimp only
    | with_reducible refine Ev.ofPair (by assumption) ?_ | split

def Fp.runOps : Nat := 0x1200000000100010000000000000000000100004005100000000001000000000000000000000110010000000000000000000000000000000000000000000000000000000000000
theorem runOps_ev (k : MrnChunk) (b below : Nat) (l x : List Nat) (s : State) : Ev Fp.runOps s (runOps k b below l x s).2 := by
  induction l generalizing x s with
  | nil => exact Ev.refl _
  | cons i l ih =>
    unfold runOps
    repeat' first
      | with_reducible apply Ev.refl | with_reducible assumption | with_reducible apply Ev.seq (ih ..) (Sub.refl _) ?_
      | exact rfl | with_reducible apply Ev.seq (bumpBy_ev _ _ _ _ _ ?_) ?_ ?_
      | with_reducible apply Ev.seq (project_ev ..) ?_ ?_ | with_reducible apply Ev.ite ?_ ?_ | dsimp only
      | with_reducible refine Ev.ofPair (by assumption) ?_ | split

def Fp.sendResult : Nat := 0x3700000000100110400000000000000000100044005100000000001000000000000000000000000000000410000054000000000000000000000000054000000000015050400001
theorem sendResult_ev (k : MrnChunk) (payloads : List (List Byte)) (s : State) :
    Ev Fp.sendResult s (sendResult k payloads s) := by
  unfold sendResult
  repeat' first
    | with_reducible apply Ev.refl | with_reducible assumption | exact rfl
    | with_reducible apply Ev.seq (copyResult_ev ..) ?_ ?_ | with_reducible apply Ev.seq (freeChunk_ev ..) ?_ ?_
    | with_reducible apply Ev.seq (onMrn_ev ..) ?_ ?_ | with_reducible apply Ev.seq (sendDown_ev ..) ?_ ?_
    | with_reducible apply Ev.foldl (fun _ _ => ?_) ?_ | with_reducible apply Ev.foldlSnd (fun _ _ => ?_) ?_ | dsimp only
    | split

def Fp.rootAbort : Nat := 0x3700000000100110400000000000000000100044005100000000001000000000000000000000000004000410100054000000000000000000000000054000000000015050400001
theorem rootAbort_ev (k : MrnChunk) (st : Status) (s : State) :
    Ev Fp.rootAbort s (rootAbort k st s) := by
  unfold rootAbort
  repeat' first
    | with_reducible apply Ev.refl | with_reducible assumption | exact rfl
    | with_reducible apply Ev.seq (bump_ev _ _ _ _ ?_) ?_ ?_ | with_reducible apply Ev.seq (abortChunk_ev ..) ?_ ?_
    | with_reducible apply Ev.ite ?_ ?_ | dsimp only | split

def Fp.runStateful : Nat := 0x370000f000100110400000000000000000100044005100000000001000000000000000000000000015000410100054004000000000000000000000054000000000015050400001
theorem runStateful_ev (k : MrnChunk) (b : Nat) (frags : Nat) (below : Nat) (g : List Nat) (w : Word) (s : State) :
    Ev Fp.runStateful s (runStateful k b frags below g w s) := by
  unfold runStateful
  repeat' first
    | with_reducible apply Ev.refl | with_reducible assumption | exact rfl
    | with_reducible apply Ev.seq (bump_ev _ _ _ _ ?_) ?_ ?_ | with_reducible apply Ev.seq (bumpBy_ev _ _ _ _ _ ?_) ?_ ?_
    | with_reducible apply Ev.seq (moduleWrite_ev ..) ?_ ?_ | with_reducible apply Ev.seq (putChunk_ev ..) ?_ ?_
    | with_reducible apply Ev.seq (rootAbort_ev ..) ?_ ?_ | with_reducible apply Ev.seq (settleSlots_ev ..) ?_ ?_
    | with_reducible apply Ev.ite ?_ ?_ | dsimp only | with_reducible refine Ev.ofPair (by assumption) ?_ | split

def Fp.replayCommit : Nat := 0x3700000000100110400000000000000000100044005100000000001000000000000000000000000014100410100054000000000000000000000000054000000000015050400001
theorem replayCommit_ev (k : MrnChunk) (b : Nat) (frags : Nat) (below : Nat) (w : Word) (s : State) :
    Ev Fp.replayCommit s (replayCommit k b frags below w s) := by
  unfold replayCommit
  repeat' first
    | with_reducible apply Ev.refl | with_reducible assumption | exact rfl
    | with_reducible apply Ev.seq (bump_ev _ _ _ _ ?_) ?_ ?_ | with_reducible apply Ev.seq (bumpBy_ev _ _ _ _ _ ?_) ?_ ?_
    | with_reducible apply Ev.seq (rootAbort_ev ..) ?_ ?_ | with_reducible apply Ev.seq (sendResult_ev ..) ?_ ?_
    | dsimp only | with_reducible refine Ev.ofPair (by assumption) ?_ | split

def Fp.startEpilogue : Nat := 0x370000f000100110400000000000000000100044005100000000001000000000000000000000150015500410100054004000000000000000000000054000000000015050400001
theorem startEpilogue_ev (k : MrnChunk) (count : Nat) (s : State) :
    Ev Fp.startEpilogue s (startEpilogue k count s) := by
  unfold startEpilogue
  repeat' first
    | with_reducible apply Ev.refl | with_reducible assumption | exact rfl
    | with_reducible apply Ev.seq (bump_ev _ _ _ _ ?_) ?_ ?_ | with_reducible apply Ev.seq (bumpBy_ev _ _ _ _ _ ?_) ?_ ?_
    | with_reducible apply Ev.seq (abortChunk_ev ..) ?_ ?_ | with_reducible apply Ev.seq (putChunk_ev ..) ?_ ?_
    | with_reducible apply Ev.seq (replayCommit_ev ..) ?_ ?_ | with_reducible apply Ev.seq (rootAbort_ev ..) ?_ ?_
    | with_reducible apply Ev.seq (runOps_ev ..) ?_ ?_ | with_reducible apply Ev.seq (runStateful_ev ..) ?_ ?_
    | with_reducible apply Ev.seq (sendResult_ev ..) ?_ ?_ | with_reducible apply Ev.ite ?_ ?_ | dsimp only
    | with_reducible refine Ev.ofPair (by assumption) ?_ | split

def Fp.commitEpilogue : Nat := 0x370000f000100110400000000000000000100044005100000000001000000000000000000000000004040410100054004000000000000000000000054000000000015050400001
theorem commitEpilogue_ev (k : MrnChunk) (s : State) :
    Ev Fp.commitEpilogue s (commitEpilogue k s) := by
  unfold commitEpilogue
  repeat' first
    | with_reducible apply Ev.refl | with_reducible assumption | exact rfl
    | with_reducible apply Ev.seq (bump_ev _ _ _ _ ?_) ?_ ?_ | with_reducible apply Ev.seq (moduleWrite_ev ..) ?_ ?_
    | with_reducible apply Ev.seq (rootAbort_ev ..) ?_ ?_ | with_reducible apply Ev.seq (sendResult_ev ..) ?_ ?_
    | with_reducible apply Ev.ite ?_ ?_ | dsimp only | with_reducible refine Ev.ofPair (by assumption) ?_ | split

def Fp.answerProbe : Nat := 0x700000000100110400000000000000000100044005100000000001000000000000000000000000000000000000000000000000000000000000000014000000000000000000000
theorem answerProbe_ev (l : List Packet) (s : State) :
    Ev Fp.answerProbe s (answerProbe l s) := by
  unfold answerProbe
  repeat' first
    | with_reducible apply Ev.refl | with_reducible assumption | exact rfl
    | with_reducible apply Ev.seq (sendModule_ev ..) ?_ ?_ | with_reducible apply Ev.foldl (fun _ _ => ?_) ?_
    | with_reducible apply Ev.foldlSnd (fun _ _ => ?_) ?_ | dsimp only | split

def Fp.rootProbe : Nat := 0x700000000100110400000000000000000100044005100000000001000000000000000000000000000000000000000000000000000000000000000014000000000000000000000
theorem rootProbe_ev (n : Nat) (count : Nat) (p : Packet) (s : State) :
    Ev Fp.rootProbe s (rootProbe n count p s) := by
  unfold rootProbe
  repeat' first
    | with_reducible apply Ev.refl | with_reducible assumption | exact rfl
    | with_reducible apply Ev.seq (answerProbe_ev ..) ?_ ?_ | with_reducible apply Ev.ite ?_ ?_ | dsimp only
    | with_reducible refine Ev.ofPair (by assumption) ?_ | split

def Fp.queryRecord : Nat := 0x14000000000000000000000000000000000000000000000000000000000
theorem queryRecord_ev (n : Nat) (c : Nat) (s : State) :
    Ev Fp.queryRecord s (queryRecord n c s) := by
  unfold queryRecord
  repeat' first
    | with_reducible apply Ev.refl | with_reducible assumption | exact rfl
    | with_reducible apply Ev.seq (wr_ev _ _ _ _ _ ?_) ?_ ?_ | with_reducible apply Ev.seq (wrb_ev _ _ _ _ _ ?_) ?_ ?_
    | dsimp only | with_reducible refine Ev.ofPair (by assumption) ?_ | split

end Sys2Proof.Machine
end

