-- ==== Sys2Proof/Laws/EvEngineOps.lean ====
section
/-! SUPPORT. What the operations of Machine/EngineOps.lean may touch: one law for each, cited in place of unfolding it. The numbers are
sets of parts (Laws/Frame.lean, `Part.idx`). -/

set_option exponentiation.threshold 1024
set_option linter.unreachableTactic false
set_option linter.unusedTactic false

namespace Sys2Proof.Machine

def Fp.onEngQueue : Nat := 0x400000000000000000000000000000000000000000000000000000000000000000000000000000000000000000000000000000000000000000000000000000000000000000
theorem onEngQueue_ev (q : Nat) (f : EngQueue → EngQueue) (s : State) :
    Ev Fp.onEngQueue s (onEngQueue q f s) := by
  unfold onEngQueue
  repeat' first
    | with_reducible apply Ev.refl | with_reducible assumption | exact rfl
    | with_reducible apply Ev.seq (onEng_ev _ _ ?_) (Sub.refl _) ?_
    | (constructor <;> first | exact .inl rfl | exact .inr rfl | exact rfl | exact fun h => h | exact fun _ => rfl)
    | dsimp only | split

def Fp.onFront : Nat := 0x400000000000000000000000000000000000000000000000000000000000000000000000000000000000000000000000000000000000000000000000000000000000000000
theorem onFront_ev (q : Nat) (f : EngCmd → EngCmd) (s : State) :
    Ev Fp.onFront s (onFront q f s) := by
  unfold onFront
  repeat' first
    | with_reducible apply Ev.refl | with_reducible assumption | exact rfl
    | with_reducible apply Ev.seq (onEngQueue_ev ..) ?_ ?_ | dsimp only
    | with_reducible refine Ev.ofPair (by assumption) ?_ | split

def Fp.endCmd : Nat := 0x400000000000000000000000000000000000000000000000000000000000000000000000000000000000000000000000000000000000000000000000000000000000000000
theorem endCmd_ev (q : Nat) (st : Status) (outcome : Nat) (s : State) :
    Ev Fp.endCmd s (endCmd q st outcome s) := by
  unfold endCmd
  repeat' first
    | with_reducible apply Ev.refl | with_reducible assumption | exact rfl
    | with_reducible apply Ev.seq (onFront_ev ..) ?_ ?_ | dsimp only | split

def Fp.startFront : Nat := 0x400000000000000000000000000000000000000000000000000000000000000000000000000000000000000000000000000000000000000000000000000000000000000000
theorem startFront_ev (q : Nat) (s : State) :
    Ev Fp.startFront s (startFront q s) := by
  unfold startFront
  repeat' first
    | with_reducible apply Ev.refl | with_reducible assumption | exact rfl
    | with_reducible apply Ev.seq (onFront_ev ..) ?_ ?_ | with_reducible apply Ev.ite ?_ ?_ | dsimp only
    | with_reducible refine Ev.ofPair (by assumption) ?_ | split

def Fp.stopEng : Nat := 0x200400000100000000000000000000000100000000000000000000000000000000000000100000000000000000000000000000000000000000000000000000000000000000000
theorem stopEng_ev (q : Nat) (st : Status) (s : State) :
    Ev Fp.stopEng s (stopEng q st s) := by
  unfold stopEng
  repeat' first
    | with_reducible apply Ev.refl | with_reducible assumption | exact rfl
    | with_reducible apply Ev.seq (wr_ev _ _ _ _ _ ?_) ?_ ?_ | with_reducible apply Ev.seq (wrb_ev _ _ _ _ _ ?_) ?_ ?_
    | with_reducible apply Ev.seq (onEngQueue_ev ..) ?_ ?_ | with_reducible apply Ev.seq (raiseSource_ev ..) ?_ ?_
    | dsimp only | split

def Fp.pumpRing : Nat := 0x400000100000000000000000000000000000000000000000000000000000000000000000000000000000000000000000000000000000000000000000000000000000000000
theorem pumpRing_ev (q : Nat) (s : State) :
    Ev Fp.pumpRing s (pumpRing q s) := by
  unfold pumpRing
  repeat' first
    | with_reducible apply Ev.refl | with_reducible assumption | exact rfl | with_reducible apply Ev.seq (emit_ev ..) ?_ ?_
    | with_reducible apply Ev.seq (onEngQueue_ev ..) ?_ ?_ | with_reducible apply Ev.ite ?_ ?_ | dsimp only | split

def Fp.pumpRings : Nat := 0x400000100000000000000000000000000000000000000000000000000000000000000000000000000000000000000000000000000000000000000000000000000000000000
theorem pumpRings_ev (s : State) :
    Ev Fp.pumpRings s (pumpRings s) := by
  unfold pumpRings
  repeat' first
    | with_reducible apply Ev.refl | with_reducible assumption | exact rfl
    | with_reducible apply Ev.seq (pumpRing_ev ..) ?_ ?_ | with_reducible apply Ev.foldl (fun _ _ => ?_) ?_
    | with_reducible apply Ev.foldlSnd (fun _ _ => ?_) ?_ | dsimp only | split

def Fp.takeCmd : Nat := 0x400000100000000000000000000000000000000000000000000000000000000000000100000000000000000000000000000000000000000000000000000000000000000000
theorem takeCmd_ev (q : Nat) (data : List Byte) (s : State) :
    Ev Fp.takeCmd s (takeCmd q data s) := by
  unfold takeCmd
  repeat' first
    | with_reducible apply Ev.refl | with_reducible assumption | exact rfl
    | with_reducible apply Ev.seq (wr_ev _ _ _ _ _ ?_) ?_ ?_ | with_reducible apply Ev.seq (onEngQueue_ev ..) ?_ ?_
    | with_reducible apply Ev.seq (pumpRing_ev ..) ?_ ?_ | with_reducible apply Ev.seq (startFront_ev ..) ?_ ?_
    | dsimp only | split

def Fp.ringFetched : Nat := 0x200400000100000000000000000000000100000000000000000000000000000000000000100000000000000000000000000000000000000000000000000000000000000000000
theorem ringFetched_ev (q : Nat) (r : HostReply) (s : State) :
    Ev Fp.ringFetched s (ringFetched q r s) := by
  unfold ringFetched
  repeat' first
    | with_reducible apply Ev.refl | with_reducible assumption | exact rfl
    | with_reducible apply Ev.seq (stopEng_ev ..) ?_ ?_ | with_reducible apply Ev.seq (takeCmd_ev ..) ?_ ?_
    | with_reducible apply Ev.ite ?_ ?_ | dsimp only | with_reducible refine Ev.ofPair (by assumption) ?_ | split

def Fp.enableQueue : Nat := 0x400000000000000000000000000000000000000000000000000000000000000000000500000000000000000000000000000000000000000000000000000000000000000000
theorem enableQueue_ev (q : Nat) (on : Bool) (s : State) :
    Ev Fp.enableQueue s (enableQueue q on s) := by
  unfold enableQueue
  repeat' first
    | with_reducible apply Ev.refl | with_reducible assumption | exact rfl
    | with_reducible apply Ev.seq (wr_ev _ _ _ _ _ ?_) ?_ ?_ | with_reducible apply Ev.seq (wrb_ev _ _ _ _ _ ?_) ?_ ?_
    | with_reducible apply Ev.seq (onEngQueue_ev ..) ?_ ?_ | with_reducible apply Ev.ite ?_ ?_ | dsimp only | split

def Fp.ringDoorbell : Nat := 0x200400000100000000000000000000000100000000000000000000000000000000000000500000000000000000000000000000000000000000000000000000000000000000000
theorem ringDoorbell_ev (q : Nat) (tail : Nat) (s : State) :
    Ev Fp.ringDoorbell s (ringDoorbell q tail s) := by
  unfold ringDoorbell
  repeat' first
    | with_reducible apply Ev.refl | with_reducible assumption | exact rfl
    | with_reducible apply Ev.seq (wr_ev _ _ _ _ _ ?_) ?_ ?_ | with_reducible apply Ev.seq (pumpRing_ev ..) ?_ ?_
    | with_reducible apply Ev.seq (stopEng_ev ..) ?_ ?_ | with_reducible apply Ev.ite ?_ ?_ | dsimp only | split

def Fp.lookTile : Nat := 0x200c00000100010000000000000000000100004005100000000001000000000000000010000000000000000000000000000000000000000000000000000000000000000000000
theorem lookTile_ev (q : Nat) (c : EngCmd) (s : State) :
    Ev Fp.lookTile s (lookTile q c s) := by
  unfold lookTile
  repeat' first
    | with_reducible apply Ev.refl | with_reducible assumption | exact rfl
    | with_reducible apply Ev.seq (lookupPage_ev ..) ?_ ?_ | with_reducible apply Ev.seq (onFront_ev ..) ?_ ?_
    | with_reducible apply Ev.ite ?_ ?_ | with_reducible apply Ev.foldl (fun _ _ => ?_) ?_
    | with_reducible apply Ev.foldlSnd (fun _ _ => ?_) ?_ | dsimp only | with_reducible refine Ev.ofPair (by assumption) ?_
    | split

def Fp.tileFault : Nat := 0x200c00000100010000000000000000000100004005100000000001000000000000000041001000000000000000000000000000000000000000000000000000000000000000000
theorem tileFault_ev (q : Nat) (c : EngCmd) (s : State) :
    Ev Fp.tileFault s (tileFault q c s) := by
  unfold tileFault
  repeat' first
    | with_reducible apply Ev.refl | with_reducible assumption | exact rfl
    | with_reducible apply Ev.seq (bump_ev _ _ _ _ ?_) ?_ ?_ | with_reducible apply Ev.seq (endCmd_ev ..) ?_ ?_
    | with_reducible apply Ev.seq (onFront_ev ..) ?_ ?_ | with_reducible apply Ev.seq (pageRequest_ev ..) ?_ ?_
    | dsimp only | split

def Fp.faultCheck : Nat := 0x200c00000100010000000000000000000100004005100000000001000000000000000041001000000000000000000000000000000000000000000000000000000000000000000
theorem faultCheck_ev (q : Nat) (s : State) :
    Ev Fp.faultCheck s (faultCheck q s) := by
  unfold faultCheck
  repeat' first
    | with_reducible apply Ev.refl | with_reducible assumption | exact rfl
    | with_reducible apply Ev.seq (tileFault_ev ..) ?_ ?_ | with_reducible apply Ev.ite ?_ ?_ | dsimp only
    | with_reducible refine Ev.ofPair (by assumption) ?_ | split

def Fp.sendPieces : Nat := 0x700400000110110400000000000000000100044005100000000001000000000000000000000000000000000000000000000000000004004000000054000000000000000000000
theorem sendPieces_ev (q : Nat) (c : EngCmd) (op : BitVec 8) (cuts : List (Nat × Nat × Nat)) (buf : List Byte) (s : State) :
    Ev Fp.sendPieces s (sendPieces q c op cuts buf s) := by
  unfold sendPieces
  repeat' first
    | with_reducible apply Ev.refl | with_reducible assumption | exact rfl
    | with_reducible apply Ev.seq (issueOp_ev ..) ?_ ?_ | with_reducible apply Ev.seq (onFront_ev ..) ?_ ?_
    | with_reducible apply Ev.ite ?_ ?_ | with_reducible apply Ev.foldl (fun _ _ => ?_) ?_
    | with_reducible apply Ev.foldlSnd (fun _ _ => ?_) ?_ | dsimp only | split

def Fp.blockOfC : Nat := 0x100000000000000000000000000000000000000000000000000000000000000000000000000000000000000000000000000000000000000000000000000000000000000000000000000000000000
theorem blockOfC_ev (q : Nat) (c : EngCmd) (a : List Byte) (s : State) :
    Ev Fp.blockOfC s (blockOfC q c a s).2 := by
  unfold blockOfC
  repeat' first
    | with_reducible apply Ev.refl | with_reducible assumption | exact rfl
    | with_reducible apply Ev.seq (spendFree_ev ..) ?_ ?_ | with_reducible apply Ev.ite ?_ ?_ | dsimp only
    | with_reducible refine Ev.ofPair (by assumption) ?_ | split

def Fp.nextTile : Nat := 0x400000000000000000000000000000000000000000000000000000000000000000000000000000000000000000000000000000000000000000000000000000000000000000
theorem nextTile_ev (q : Nat) (s : State) :
    Ev Fp.nextTile s (nextTile q s) := by
  unfold nextTile
  repeat' first
    | with_reducible apply Ev.refl | with_reducible assumption | exact rfl
    | with_reducible apply Ev.seq (onFront_ev ..) ?_ ?_ | dsimp only | split

def Fp.writeRows : Nat := 0x20800f000100010000000000000000000100004005100000000001000000000000000000000000000000000000000004000000000000000000000000000000000000000000000
theorem writeRows_ev (q : Nat) (space : Nat) (rows : List (Nat × Nat × Nat)) (buf : List Byte) (s : State) :
    Ev Fp.writeRows s (writeRows q space rows buf s).2 := by
  unfold writeRows
  repeat' first
    | with_reducible apply Ev.refl | with_reducible assumption | exact rfl | with_reducible apply Ev.seq (emit_ev ..) ?_ ?_
    | with_reducible apply Ev.seq (onEng_ev _ _ ?_) (Sub.refl _) ?_ | with_reducible apply Ev.seq (moduleWrite_ev ..) ?_ ?_
    | with_reducible apply Ev.ite ?_ ?_ | with_reducible apply Ev.foldl (fun _ _ => ?_) ?_
    | with_reducible apply Ev.foldlSnd (fun _ _ => ?_) ?_
    | (constructor <;> first | exact .inl rfl | exact fun h => memWrite_wf _ _ _ h | exact fun h => memWrite_wf _ _ _ (memWrite_wf _ _ _ h) | exact .inr rfl | exact rfl | exact fun h => h | exact fun _ => rfl)
    | dsimp only | with_reducible refine Ev.ofPair (by assumption) ?_ | split

def Fp.overlapFree : Nat := 0x100000000000000000000000000000000000000000000000000000000000000000000000000000000000000000000000000000000000000000000000000000000000000000000000000000000000
theorem overlapFree_ev (c : EngCmd) (rows : List (Nat × Nat × Nat)) (buf : List Byte) (s : State) :
    Ev Fp.overlapFree s (overlapFree c rows buf s).2 := by
  unfold overlapFree
  repeat' first
    | with_reducible apply Ev.refl | with_reducible assumption | exact rfl
    | with_reducible apply Ev.seq (spendFree_ev ..) ?_ ?_ | with_reducible apply Ev.ite ?_ ?_ | dsimp only | split

def Fp.writeTile : Nat := 0x10000000000000170840f000110110400000000000000000100044005100000000001000000000000000000000000000000000000000004000000000004004000000054000000000000000000000
theorem writeTile_ev (q : Nat) (buf0 : List Byte) (s0 : State) :
    Ev Fp.writeTile s0 (writeTile q buf0 s0) := by
  unfold writeTile
  repeat' first
    | with_reducible apply Ev.refl | with_reducible assumption | exact rfl
    | with_reducible apply Ev.seq (blockOfC_ev ..) ?_ ?_ | with_reducible apply Ev.seq (endCmd_ev ..) ?_ ?_
    | with_reducible apply Ev.seq (nextTile_ev ..) ?_ ?_ | with_reducible apply Ev.seq (onEngQueue_ev ..) ?_ ?_
    | with_reducible apply Ev.seq (onFront_ev ..) ?_ ?_ | with_reducible apply Ev.seq (onMrn_ev ..) ?_ ?_
    | with_reducible apply Ev.seq (overlapFree_ev ..) ?_ ?_ | with_reducible apply Ev.seq (sendPieces_ev ..) ?_ ?_
    | with_reducible apply Ev.seq (writeRows_ev ..) ?_ ?_ | with_reducible apply Ev.ite ?_ ?_ | dsimp only
    | with_reducible refine Ev.ofPair (by assumption) ?_ | split

def Fp.reloadB : Nat := 0x1200000000100010000000000000000000100004005100000000001000000000000000000000100000000000000000000000000000000000000000000000000000000000000000
theorem reloadB_ev (q : Nat) (s : State) :
    Ev Fp.reloadB s (reloadB q s) := by
  unfold reloadB
  repeat' first
    | with_reducible apply Ev.refl | with_reducible assumption | exact rfl
    | with_reducible apply Ev.seq (bump_ev _ _ _ _ ?_) ?_ ?_ | with_reducible apply Ev.seq (onMrn_ev ..) ?_ ?_
    | with_reducible apply Ev.ite ?_ ?_ | dsimp only | split

def Fp.readTile : Nat := 0x10000000000000170840f000110110400000000000000000100044005100000000001000000000000000000000110000000000000000004000000000004004000000054000000000000000000000
theorem readTile_ev (q : Nat) (c : EngCmd) (host : List Byte) (s0 : State) :
    Ev Fp.readTile s0 (readTile q c host s0) := by
  unfold readTile
  repeat' first
    | with_reducible apply Ev.refl | with_reducible assumption | exact rfl | with_reducible apply Ev.seq (emit_ev ..) ?_ ?_
    | with_reducible apply Ev.seq (bumpBy_ev _ _ _ _ _ ?_) ?_ ?_ | with_reducible apply Ev.seq (endCmd_ev ..) ?_ ?_
    | with_reducible apply Ev.seq (onFront_ev ..) ?_ ?_ | with_reducible apply Ev.seq (reloadB_ev ..) ?_ ?_
    | with_reducible apply Ev.seq (sendPieces_ev ..) ?_ ?_ | with_reducible apply Ev.seq (writeTile_ev ..) ?_ ?_
    | with_reducible apply Ev.ite ?_ ?_ | with_reducible apply Ev.foldl (fun _ _ => ?_) ?_
    | with_reducible apply Ev.foldlSnd (fun _ _ => ?_) ?_ | dsimp only | with_reducible refine Ev.ofPair (by assumption) ?_
    | split

def Fp.startTile : Nat := 0x100000000000001708c0f000110110400000000000000000100044005100000000001000000000000000051001110000000000000000004000000000004004000000054000000000000000000000
theorem startTile_ev (q : Nat) (host : List Byte) (s : State) :
    Ev Fp.startTile s (startTile q host s) := by
  unfold startTile
  repeat' first
    | with_reducible apply Ev.refl | with_reducible assumption | exact rfl
    | with_reducible apply Ev.seq (endCmd_ev ..) ?_ ?_ | with_reducible apply Ev.seq (lookTile_ev ..) ?_ ?_
    | with_reducible apply Ev.seq (readTile_ev ..) ?_ ?_ | with_reducible apply Ev.seq (tileFault_ev ..) ?_ ?_
    | with_reducible apply Ev.ite ?_ ?_ | dsimp only | with_reducible refine Ev.ofPair (by assumption) ?_ | split

def Fp.takePiece : Nat := 0x10000000000000170840f000110110400000000000000000100044005100000000001000000000000000000000000000000000000000004000000000004004000000054000000000000000000000
theorem takePiece_ev (q : Nat) (f : Finished) (s : State) :
    Ev Fp.takePiece s (takePiece q f s) := by
  unfold takePiece
  repeat' first
    | with_reducible apply Ev.refl | with_reducible assumption | exact rfl
    | with_reducible apply Ev.seq (nextTile_ev ..) ?_ ?_ | with_reducible apply Ev.seq (onFront_ev ..) ?_ ?_
    | with_reducible apply Ev.seq (writeTile_ev ..) ?_ ?_ | with_reducible apply Ev.ite ?_ ?_ | dsimp only
    | with_reducible refine Ev.ofPair (by assumption) ?_ | split

def Fp.takePieces : Nat := 0x10000000000000170840f000110110400000000000000000100044005100000000001000000000000000000000000000000000000000004000000000004004000000054000000000000000000000
theorem takePieces_ev (q : Nat) (s : State) :
    Ev Fp.takePieces s (takePieces q s) := by
  unfold takePieces
  repeat' first
    | with_reducible apply Ev.refl | with_reducible assumption | exact rfl
    | with_reducible apply Ev.seq (onXpt_ev ..) ?_ ?_ | with_reducible apply Ev.seq (takePiece_ev ..) ?_ ?_
    | with_reducible apply Ev.foldl (fun _ _ => ?_) ?_ | with_reducible apply Ev.foldlSnd (fun _ _ => ?_) ?_ | dsimp only
    | with_reducible refine Ev.ofPair (by assumption) ?_ | split

def Fp.engineStep : Nat := 0x1000093763b0001708c0f000330130c0002000002888000015404400510000000000100000000000000005100111000000000000000000400000000000c00c000000054000000000000000000000
theorem engineStep_ev (q : Nat) (op : Nat) (host : List Byte) (s : State) :
    Ev Fp.engineStep s (engineStep q op host s) := by
  unfold engineStep
  repeat' first
    | with_reducible apply Ev.refl | with_reducible assumption | exact rfl
    | with_reducible apply Ev.seq (settle_ev ..) ?_ ?_ | with_reducible apply Ev.seq (startTile_ev ..) ?_ ?_
    | with_reducible apply Ev.seq (takePieces_ev ..) ?_ ?_ | with_reducible apply Ev.ite ?_ ?_ | dsimp only
    | with_reducible refine Ev.ofPair (by assumption) ?_ | split

def Fp.recordCmd : Nat := 0x20040f000100010000000000000000000100004005100000000001000000000000000000154000000000000000000004000000000000000000000000000000000000000000000
theorem recordCmd_ev (q : Nat) (c : EngCmd) (refused : Bool) (s : State) :
    Ev Fp.recordCmd s (recordCmd q c refused s) := by
  unfold recordCmd
  repeat' first
    | with_reducible apply Ev.refl | with_reducible assumption | exact rfl
    | with_reducible apply Ev.seq (wr_ev _ _ _ _ _ ?_) ?_ ?_ | with_reducible apply Ev.seq (emit_ev ..) ?_ ?_
    | with_reducible apply Ev.seq (bump_ev _ _ _ _ ?_) ?_ ?_ | with_reducible apply Ev.seq (moduleWrite_ev ..) ?_ ?_
    | with_reducible apply Ev.seq (noteAlso_ev ..) ?_ ?_ | with_reducible apply Ev.seq (onEngQueue_ev ..) ?_ ?_
    | with_reducible apply Ev.seq (raiseSource_ev ..) ?_ ?_ | with_reducible apply Ev.seq (stopEng_ev ..) ?_ ?_
    | with_reducible apply Ev.ite ?_ ?_ | dsimp only | split

def Fp.completeCmd : Nat := 0x20040f000100010000000000000000000100004005100000000001000000000000000000154000000000000000000004000000000000000000000000000000000000000000000
theorem completeCmd_ev (q : Nat) (c : EngCmd) (refused : Bool) (s : State) :
    Ev Fp.completeCmd s (completeCmd q c refused s) := by
  unfold completeCmd
  repeat' first
    | with_reducible apply Ev.refl | with_reducible assumption | exact rfl
    | with_reducible apply Ev.seq (pumpRing_ev ..) ?_ ?_ | with_reducible apply Ev.seq (recordCmd_ev ..) ?_ ?_
    | with_reducible apply Ev.seq (startFront_ev ..) ?_ ?_ | dsimp only | split

def Fp.dropLookups : Nat := 0x400000000000000000000000000000000000000000000000000000000000000000000000000000000000000000000000000000000000000000000000000000000000000000
theorem dropLookups_ev (i : Inval) (s : State) :
    Ev Fp.dropLookups s (dropLookups i s) := by
  unfold dropLookups
  repeat' first
    | with_reducible apply Ev.refl | with_reducible assumption | exact rfl
    | with_reducible apply Ev.seq (onFront_ev ..) ?_ ?_ | with_reducible apply Ev.ite ?_ ?_
    | with_reducible apply Ev.foldl (fun _ _ => ?_) ?_ | with_reducible apply Ev.foldlSnd (fun _ _ => ?_) ?_ | dsimp only
    | split

def Fp.abortCmd : Nat := 0x400000000000000000000000000000000000000000000000000000000000000000000000000000000000000000000000000000000000000000000000000000000000000000
theorem abortCmd_ev (q : Nat) (s : State) :
    Ev Fp.abortCmd s (abortCmd q s) := by
  unfold abortCmd
  repeat' first
    | with_reducible apply Ev.refl | with_reducible assumption | exact rfl
    | with_reducible apply Ev.seq (endCmd_ev ..) ?_ ?_ | with_reducible apply Ev.seq (onFront_ev ..) ?_ ?_ | dsimp only
    | split

end Sys2Proof.Machine
end

