-- ==== Sys2Proof/Laws/EvPuppetOps.lean ====
section
/-! SUPPORT. What the operations of Machine/PuppetOps.lean may touch: one law for each, cited in place of unfolding it. The numbers are
sets of parts (Laws/Frame.lean, `Part.idx`). -/

set_option exponentiation.threshold 1024
set_option linter.unreachableTactic false
set_option linter.unusedTactic false

namespace Sys2Proof.Machine

def Fp.onThread : Nat := 0x1000000000000000000000000000000000000000000000000000000000000000000000000000000000000000000000000000000000000000000000000000000000000000000
theorem onThread_ev (c : Nat) (t : Nat) (f : PupThread → PupThread) (s : State) :
    Ev Fp.onThread s (onThread c t f s) := by
  unfold onThread
  repeat' first
    | with_reducible apply Ev.refl | with_reducible assumption | exact rfl
    | with_reducible apply Ev.seq (onEng_ev _ _ ?_) (Sub.refl _) ?_
    | (constructor <;> first | exact .inl rfl | exact .inr rfl | exact rfl | exact fun h => h | exact fun _ => rfl)
    | dsimp only | split

def Fp.settleProg : Nat := 0x200000000100000000000000000000000100000000000000000000000000000000044000000000000000000000000000000000000000000000000000000000000000000000000
theorem settleProg_ev (p : Nat) (s : State) :
    Ev Fp.settleProg s (settleProg p s) := by
  unfold settleProg
  repeat' first
    | with_reducible apply Ev.refl | with_reducible assumption | exact rfl
    | with_reducible apply Ev.seq (wr_ev _ _ _ _ _ ?_) ?_ ?_ | with_reducible apply Ev.seq (raiseSource_ev ..) ?_ ?_
    | with_reducible apply Ev.ite ?_ ?_ | dsimp only | split

def Fp.settleProgs : Nat := 0x200000000100000000000000000000000100000000000000000000000000000000044000000000000000000000000000000000000000000000000000000000000000000000000
theorem settleProgs_ev (s : State) :
    Ev Fp.settleProgs s (settleProgs s) := by
  unfold settleProgs
  repeat' first
    | with_reducible apply Ev.refl | with_reducible assumption | exact rfl
    | with_reducible apply Ev.seq (settleProg_ev ..) ?_ ?_ | with_reducible apply Ev.foldl (fun _ _ => ?_) ?_
    | with_reducible apply Ev.foldlSnd (fun _ _ => ?_) ?_ | dsimp only | split

def Fp.endProgram : Nat := 0x201000000110000000000000000000000100000000000000000000000000000000044000000000000000000000000000000000000000000000000000000000000000000000000
theorem endProgram_ev (p : Nat) (st : Status) (pc : Nat) (s : State) :
    Ev Fp.endProgram s (endProgram p st pc s) := by
  unfold endProgram
  repeat' first
    | with_reducible apply Ev.refl | with_reducible assumption | exact rfl
    | with_reducible apply Ev.seq (wr_ev _ _ _ _ _ ?_) ?_ ?_
    | with_reducible apply Ev.seq (onEng_ev _ _ ?_) (Sub.refl _) ?_ | with_reducible apply Ev.seq (onXpt_ev ..) ?_ ?_
    | with_reducible apply Ev.seq (settleProg_ev ..) ?_ ?_ | with_reducible apply Ev.ite ?_ ?_
    | (constructor <;> first | exact .inl rfl | exact .inr rfl | exact rfl | exact fun h => h | exact fun _ => rfl)
    | dsimp only | with_reducible refine Ev.ofPair (by assumption) ?_ | split

def Fp.pupFault : Nat := 0x201000000110000000000000000000000100000000000000000000000000000000044000000000000000000000000000000000000000000000000000000000000000000000000
theorem pupFault_ev (c : Nat) (t : Nat) (pc : Nat) (st : Status) (s : State) :
    Ev Fp.pupFault s (pupFault c t pc st s) := by
  unfold pupFault
  repeat' first
    | with_reducible apply Ev.refl | with_reducible assumption | exact rfl
    | with_reducible apply Ev.seq (endProgram_ev ..) ?_ ?_ | with_reducible apply Ev.seq (onThread_ev ..) ?_ ?_
    | dsimp only | with_reducible refine Ev.ofPair (by assumption) ?_ | split

def Fp.putDcache : Nat := 0x2000000000000000000000000000000000000000000000000000000000000000000000000000000000000000000000000000000000000000000000000000000000000000000
theorem putDcache_ev (c : Nat) (line : Nat) (d : List Byte) (s : State) :
    Ev Fp.putDcache s (putDcache c line d s) := by
  unfold putDcache
  repeat' first
    | with_reducible apply Ev.refl | with_reducible assumption | exact rfl
    | with_reducible apply Ev.seq (onEng_ev _ _ ?_) (Sub.refl _) ?_
    | (constructor <;> first | exact .inl rfl | exact .inr rfl | exact rfl | exact fun h => h | exact fun _ => rfl)
    | dsimp only | split

def Fp.dropDcache : Nat := 0x2000000000000000000000000000000000000000000000000000000000000000000000000000000000000000000000000000000000000000000000000000000000000000000
theorem dropDcache_ev (c : Nat) (s : State) :
    Ev Fp.dropDcache s (dropDcache c s) := by
  unfold dropDcache
  repeat' first
    | with_reducible apply Ev.refl | with_reducible assumption | exact rfl
    | with_reducible apply Ev.seq (onEng_ev _ _ ?_) (Sub.refl _) ?_
    | (constructor <;> first | exact .inl rfl | exact .inr rfl | exact rfl | exact fun h => h | exact fun _ => rfl)
    | dsimp only | split

def Fp.scratchWrite : Nat := 0xa000000000000000000000000000000000000000000000000000000000000000000000000000000000000000000000000000000000000000000000000000000000000000000
theorem scratchWrite_ev (c : Nat) (a : Nat) (d : List Byte) (s : State) :
    Ev Fp.scratchWrite s (scratchWrite c a d s) := by
  unfold scratchWrite
  repeat' first
    | with_reducible apply Ev.refl | with_reducible assumption | exact rfl
    | with_reducible apply Ev.seq (onEng_ev _ _ ?_) (Sub.refl _) ?_ | with_reducible apply Ev.seq (putDcache_ev ..) ?_ ?_
    | (constructor <;> first | exact .inl rfl | exact fun h => memWrite_wf _ _ _ h | exact fun h => memWrite_wf _ _ _ (memWrite_wf _ _ _ h) | exact .inr rfl | exact rfl | exact fun h => h | exact fun _ => rfl)
    | dsimp only | with_reducible refine Ev.ofPair (by assumption) ?_ | split

def Fp.pupDone : Nat := 0x1000000000000000000000000000000000000000000000000000000000000000000000000000000000000000000000000000000000000000000000000000000000000000000
theorem pupDone_ev (c : Nat) (t : Nat) (rd : Option (List Byte)) (s : State) :
    Ev Fp.pupDone s (pupDone c t rd s) := by
  unfold pupDone
  repeat' first
    | with_reducible apply Ev.refl | with_reducible assumption | exact rfl
    | with_reducible apply Ev.seq (onThread_ev ..) ?_ ?_ | dsimp only | split

def Fp.pupWait : Nat := 0x1000000000000000000000000000000000000000000000000000000000000000000000000000000000000000000000000000000000000000000000000000000000000000000
theorem pupWait_ev (c : Nat) (t : Nat) (a : PupAccess) (s : State) :
    Ev Fp.pupWait s (pupWait c t a s) := by
  unfold pupWait
  repeat' first
    | with_reducible apply Ev.refl | with_reducible assumption | exact rfl
    | with_reducible apply Ev.seq (onThread_ev ..) ?_ ?_ | dsimp only | split

def Fp.pupFabric : Nat := 0x701000000110110400000000000000000100044005100000000001000000000000000000000000000000000000000000000000000004004000000054000000000000000000000
theorem pupFabric_ev (c : Nat) (t : Nat) (a : PupAccess) (s : State) :
    Ev Fp.pupFabric s (pupFabric c t a s) := by
  unfold pupFabric
  repeat' first
    | with_reducible apply Ev.refl | with_reducible assumption | exact rfl
    | with_reducible apply Ev.seq (issueOp_ev ..) ?_ ?_ | with_reducible apply Ev.seq (onThread_ev ..) ?_ ?_
    | with_reducible apply Ev.seq (pupDone_ev ..) ?_ ?_ | with_reducible apply Ev.seq (pupWait_ev ..) ?_ ?_
    | with_reducible apply Ev.ite ?_ ?_ | dsimp only | split

def Fp.pupScratch : Nat := 0xb000000000000000000000000000000000000000000000000000000000000000000000000000000000000000000000000000000000000000000000000000000000000000000
theorem pupScratch_ev (c : Nat) (t : Nat) (a : PupAccess) (fill : Bool) (s : State) :
    Ev Fp.pupScratch s (pupScratch c t a fill s) := by
  unfold pupScratch
  repeat' first
    | with_reducible apply Ev.refl | with_reducible assumption | exact rfl
    | with_reducible apply Ev.seq (pupDone_ev ..) ?_ ?_ | with_reducible apply Ev.seq (pupWait_ev ..) ?_ ?_
    | with_reducible apply Ev.seq (putDcache_ev ..) ?_ ?_ | with_reducible apply Ev.seq (scratchWrite_ev ..) ?_ ?_
    | with_reducible apply Ev.ite ?_ ?_ | dsimp only | with_reducible refine Ev.ofPair (by assumption) ?_ | split

def Fp.pupDdr : Nat := 0x10000000000000020100f000100010000000000000000000100004005100000000001000000000000000000000000000000000000000004000000000000000000000000000000000000000000000
theorem pupDdr_ev (c : Nat) (t : Nat) (a : PupAccess) (s : State) :
    Ev Fp.pupDdr s (pupDdr c t a s) := by
  unfold pupDdr
  repeat' first
    | with_reducible apply Ev.refl | with_reducible assumption | exact rfl
    | with_reducible apply Ev.seq (spendFree_ev ..) ?_ ?_ | with_reducible apply Ev.seq (moduleWrite_ev ..) ?_ ?_
    | with_reducible apply Ev.seq (pupDone_ev ..) ?_ ?_ | dsimp only | with_reducible refine Ev.ofPair (by assumption) ?_
    | split

def Fp.pupHost : Nat := 0x1000000100000000000000000000000000000000000000000000000000000000000000000000000000000000000000000000000000000000000000000000000000000000000
theorem pupHost_ev (c : Nat) (t : Nat) (a : PupAccess) (host : List Byte) (s : State) :
    Ev Fp.pupHost s (pupHost c t a host s) := by
  unfold pupHost
  repeat' first
    | with_reducible apply Ev.refl | with_reducible assumption | exact rfl | with_reducible apply Ev.seq (emit_ev ..) ?_ ?_
    | with_reducible apply Ev.seq (pupDone_ev ..) ?_ ?_ | dsimp only | with_reducible refine Ev.ofPair (by assumption) ?_
    | split

def Fp.pupLooked : Nat := 0x201800000110010000000000000000000100004005100000000001000000000000044041000000000000000000000000000000000000000000000000000000000000000000000
theorem pupLooked_ev (c : Nat) (t : Nat) (a : PupAccess) (l : Looked) (s : State) :
    Ev Fp.pupLooked s (pupLooked c t a l s) := by
  unfold pupLooked
  repeat' first
    | with_reducible apply Ev.refl | with_reducible assumption | exact rfl
    | with_reducible apply Ev.seq (pageRequest_ev ..) ?_ ?_ | with_reducible apply Ev.seq (pupFault_ev ..) ?_ ?_
    | with_reducible apply Ev.seq (pupWait_ev ..) ?_ ?_ | with_reducible apply Ev.ite ?_ ?_ | dsimp only
    | with_reducible refine Ev.ofPair (by assumption) ?_ | split

def Fp.pupLookup : Nat := 0x201800000110010000000000000000000100004005100000000001000000000000044051000000000000000000000000000000000000000000000000000000000000000000000
theorem pupLookup_ev (c : Nat) (t : Nat) (a : PupAccess) (s : State) :
    Ev Fp.pupLookup s (pupLookup c t a s) := by
  unfold pupLookup
  repeat' first
    | with_reducible apply Ev.refl | with_reducible assumption | exact rfl
    | with_reducible apply Ev.seq (lookupPage_ev ..) ?_ ?_ | with_reducible apply Ev.seq (pupHost_ev ..) ?_ ?_
    | with_reducible apply Ev.seq (pupLooked_ev ..) ?_ ?_ | with_reducible apply Ev.ite ?_ ?_ | dsimp only | split

def Fp.drainThread : Nat := 0x1000000010000000000000000000000000000000000000000000000000000000000000000000000000000000000000000000000000000000000000000000000000000000000
theorem drainThread_ev (c : Nat) (t : Nat) (s : State) :
    Ev Fp.drainThread s (drainThread c t s) := by
  unfold drainThread
  repeat' first
    | with_reducible apply Ev.refl | with_reducible assumption | exact rfl
    | with_reducible apply Ev.seq (onXpt_ev ..) ?_ ?_ | with_reducible apply Ev.seq (onThread_ev ..) ?_ ?_
    | with_reducible apply Ev.seq (pupDone_ev ..) ?_ ?_ | with_reducible apply Ev.ite ?_ ?_
    | with_reducible apply Ev.foldl (fun _ _ => ?_) ?_ | with_reducible apply Ev.foldlSnd (fun _ _ => ?_) ?_ | dsimp only
    | with_reducible refine Ev.ofPair (by assumption) ?_ | split

def Fp.pupAccess : Nat := 0x10000000000000070b80f000110110400000000000000000100044005100000000001000000000000044051000000000000000000000004000000000004004000000054000000000000000000000
theorem pupAccess_ev (c : Nat) (t : Nat) (pfeid : Option Word) (a : PupAccess) (s0 : State) :
    Ev Fp.pupAccess s0 (pupAccess c t pfeid a s0) := by
  unfold pupAccess
  repeat' first
    | with_reducible apply Ev.refl | with_reducible assumption | exact rfl
    | with_reducible apply Ev.seq (drainThread_ev ..) ?_ ?_ | with_reducible apply Ev.seq (onThread_ev ..) ?_ ?_
    | with_reducible apply Ev.seq (pupDdr_ev ..) ?_ ?_ | with_reducible apply Ev.seq (pupFabric_ev ..) ?_ ?_
    | with_reducible apply Ev.seq (pupFault_ev ..) ?_ ?_ | with_reducible apply Ev.seq (pupLookup_ev ..) ?_ ?_
    | with_reducible apply Ev.seq (pupScratch_ev ..) ?_ ?_ | with_reducible apply Ev.seq (pupWait_ev ..) ?_ ?_
    | with_reducible apply Ev.ite ?_ ?_ | dsimp only | with_reducible refine Ev.ofPair (by assumption) ?_ | split

def Fp.pupResume : Nat := 0x10000000000000070b80f000110110400000000000000000100044005100000000001000000000000044051000000000000000000000004000000000004004000000054000000000000000000000
theorem pupResume_ev (c : Nat) (t : Nat) (host : List Byte) (s0 : State) :
    Ev Fp.pupResume s0 (pupResume c t host s0) := by
  unfold pupResume
  repeat' first
    | with_reducible apply Ev.refl | with_reducible assumption | exact rfl
    | with_reducible apply Ev.seq (drainThread_ev ..) ?_ ?_ | with_reducible apply Ev.seq (pupDdr_ev ..) ?_ ?_
    | with_reducible apply Ev.seq (pupFabric_ev ..) ?_ ?_ | with_reducible apply Ev.seq (pupHost_ev ..) ?_ ?_
    | with_reducible apply Ev.seq (pupLookup_ev ..) ?_ ?_ | with_reducible apply Ev.seq (pupScratch_ev ..) ?_ ?_
    | with_reducible apply Ev.seq (settleProgs_ev ..) ?_ ?_ | with_reducible apply Ev.ite ?_ ?_ | dsimp only
    | with_reducible refine Ev.ofPair (by assumption) ?_ | split

def Fp.setMeasurement : Nat := 0x1000000000000000000000000000000000000000000000000000000000000000000000000000000000000000000000000
theorem secMeas_full : ∀ w < 8, definedBits .secMeas w = 0xFFFFFFFFFFFFFFFF#64 := by decide

theorem setMeasurement_ev (m : Nat) (digest : List Byte) (s : State) : Ev Fp.setMeasurement s (setMeasurement m digest s) := by
  unfold setMeasurement
  refine Ev.foldlMem (fun t w hw => ?_) (Ev.refl _)
  have hw := List.mem_range.1 hw
  exact Ev.mono (A := (Part.reg .module .secMeas).bit) rfl (setWord_ev _ _ _ _ _ _ (by omega) (fullWord _ (secMeas_full w hw)))

theorem pupProg_full : ∀ w < 6, definedBits .pupProg (2 + w) = 0xFFFFFFFFFFFFFFFF#64 := by decide

theorem grantWords_ev (p : Nat) (g : Grant) (s : State) : Ev (Part.reg .module .pupProg).bit s
    ((List.range 6).foldl (fun s w => s.setWord .module .pupProg p (2 + w) (Config.grantWord g (2 + w))) s) := by
  refine Ev.foldlMem (fun t w hw => ?_) (Ev.refl _)
  have hw := List.mem_range.1 hw
  exact setWord_ev _ _ _ _ _ _ (by omega) (fullWord _ (pupProg_full w hw))

def Fp.loadProgram : Nat := 0x207000000100010000000000000000000100004005101000000000000000000000044000000000000000000000000000000000000000000000000000000000000000000000000
theorem loadProgram_ev (p : Nat) (n : Nat) (img : Nat) (g : Grant) (s : State) :
    Ev Fp.loadProgram s (loadProgram p n img g s) := by
  unfold loadProgram
  repeat' first
    | with_reducible apply Ev.refl | with_reducible assumption | exact rfl | decide | exact fullWord _ (by decide)
    | exact maskedWord (by decide) | exact zeroWord
    | exact fun hz => withBits_mask _ _ _ _ _ (hz _ _ _ _ (by decide)) (by decide)
    | with_reducible apply Ev.seq (grantWords_ev ..) ?_ ?_ | with_reducible apply Ev.seq (wr_ev _ _ _ _ _ ?_) ?_ ?_
    | with_reducible apply Ev.seq (setWord_ev _ _ _ _ _ _ ?_ ?_) ?_ ?_
    | with_reducible apply Ev.seq (onEng_ev _ _ ?_) (Sub.refl _) ?_ | with_reducible apply Ev.seq (noteAlso_ev ..) ?_ ?_
    | with_reducible apply Ev.seq (setMeasurement_ev ..) ?_ ?_ | with_reducible apply Ev.ite ?_ ?_
    | with_reducible apply Ev.foldl (fun _ _ => ?_) ?_ | with_reducible apply Ev.foldlSnd (fun _ _ => ?_) ?_
    | (constructor <;> first | exact .inl rfl | exact .inr rfl | exact rfl | exact fun h => h | exact fun _ => rfl)
    | dsimp only | with_reducible refine Ev.ofPair (by assumption) ?_ | split

end Sys2Proof.Machine
end

