-- ==== Sys2Proof/Laws/EvTileOps.lean ====
section
/-! SUPPORT. What the operations of Machine/TileOps.lean may touch: one law for each, cited in place of unfolding it. The numbers are
sets of parts (Laws/Frame.lean, `Part.idx`). -/

set_option exponentiation.threshold 1024
set_option linter.unreachableTactic false
set_option linter.unusedTactic false

namespace Sys2Proof.Machine

def Fp.dropHeld : Nat := 0x300000000100010400000000000000000100004005100000000001000000000000000000000000000000000000000000000000000000000000000000100000000000000000000
theorem dropHeld_ev (x : Nat × Packet) (s : State) :
    Ev Fp.dropHeld s (dropHeld x s) := by
  unfold dropHeld
  repeat' first
    | with_reducible apply Ev.refl | with_reducible assumption | exact rfl
    | with_reducible apply Ev.seq (onUnit_ev _ _ _ ?_) (Sub.refl _) ?_
    | with_reducible apply Ev.seq (onM_ev _ _ ?_) (Sub.refl _) ?_ | with_reducible apply Ev.seq (bump_ev _ _ _ _ ?_) ?_ ?_
    | with_reducible apply Ev.seq (leaveIngress_ev ..) ?_ ?_ | with_reducible apply Ev.foldl (fun _ _ => ?_) ?_
    | with_reducible apply Ev.foldlSnd (fun _ _ => ?_) ?_
    | (constructor <;> first | exact .inl rfl | exact .inr rfl | exact rfl | exact fun h => h | exact fun _ => rfl)
    | dsimp only | split

def Fp.loseContents : Nat := 0x3f0100f000310130c00020000028880000100044005100000000001000000000000044000000000000000000001004445504000000000000000000054100c00000015050400001
theorem loseContents_ev (t : Nat) (role : Nat) (whole : Bool) (gone : Bool) (l : TileItems) (s : State) :
    Ev Fp.loseContents s (loseContents t role whole gone l s) := by
  unfold loseContents
  repeat' first
    | with_reducible apply Ev.refl | with_reducible assumption | exact rfl
    | with_reducible apply Ev.seq (onXpt_ev ..) ?_ ?_ | with_reducible apply Ev.seq (dropHeld_ev ..) ?_ ?_
    | with_reducible apply Ev.seq (endProgram_ev ..) ?_ ?_ | with_reducible apply Ev.seq (markPoison_ev ..) ?_ ?_
    | with_reducible apply Ev.seq (replay_ev ..) ?_ ?_ | with_reducible apply Ev.seq (restartChunk_ev ..) ?_ ?_
    | with_reducible apply Ev.seq (settleProgs_ev ..) ?_ ?_ | with_reducible apply Ev.seq (startFlush_ev ..) ?_ ?_
    | with_reducible apply Ev.ite ?_ ?_ | with_reducible apply Ev.foldl (fun _ _ => ?_) ?_
    | with_reducible apply Ev.foldlSnd (fun _ _ => ?_) ?_ | dsimp only | with_reducible refine Ev.ofPair (by assumption) ?_
    | split

def Fp.retirePhys : Nat := 0x2200000000100010000000000000000000100004005100000000001000000000000000000000000000000000000000000000000000000000000000000000000000011500000000
theorem retirePhys_ev (phys : Nat) (t : Nat) (s : State) :
    Ev Fp.retirePhys s (retirePhys phys t s) := by
  unfold retirePhys
  repeat' first
    | with_reducible apply Ev.refl | with_reducible assumption | exact rfl
    | with_reducible apply Ev.seq (wr_ev _ _ _ _ _ ?_) ?_ ?_ | with_reducible apply Ev.seq (bump_ev _ _ _ _ ?_) ?_ ?_
    | with_reducible apply Ev.seq (logModule_ev ..) ?_ ?_ | with_reducible apply Ev.seq (recordEntry_ev ..) ?_ ?_
    | dsimp only | split

def Fp.switchTile : Nat := 0x2200000000100010000000000000000000100004005100000000001000000000000000000000000000000000000004000000000000000000000000000000000000015510000001
theorem switchTile_ev (t : Nat) (phys : Nat) (s : State) :
    Ev Fp.switchTile s (switchTile t phys s) := by
  unfold switchTile
  repeat' first
    | with_reducible apply Ev.refl | with_reducible assumption | exact rfl
    | with_reducible apply Ev.seq (wr_ev _ _ _ _ _ ?_) ?_ ?_ | with_reducible apply Ev.seq (wrb_ev _ _ _ _ _ ?_) ?_ ?_
    | with_reducible apply Ev.seq (retirePhys_ev ..) ?_ ?_ | with_reducible apply Ev.seq (settleFigures_ev ..) ?_ ?_
    | dsimp only | split

def Fp.shrinkGroup : Nat := 0x80f00000000100110500000000000000000100045005100000000001000000000000000000000000000000000000000100000000000000000000000054410050041000000000000
theorem shrinkGroup_ev (g : Nat) (s : State) :
    Ev Fp.shrinkGroup s (shrinkGroup g s) := by
  unfold shrinkGroup
  repeat' first
    | with_reducible apply Ev.refl | with_reducible assumption | exact rfl
    | with_reducible apply Ev.seq (onM_ev _ _ ?_) (Sub.refl _) ?_ | with_reducible apply Ev.seq (portDown_ev ..) ?_ ?_
    | with_reducible apply Ev.ite ?_ ?_ | with_reducible apply Ev.foldl (fun _ _ => ?_) ?_
    | with_reducible apply Ev.foldlSnd (fun _ _ => ?_) ?_
    | (constructor <;> first | exact .inl rfl | exact .inr rfl | exact rfl | exact fun h => h | exact fun _ => rfl)
    | dsimp only | split

def Fp.leaveRole : Nat := 0x80f00080000100110500000000000000000100045005100000000001000000000000000000000000000000000000000100040000000000000000000054410050041000000000000
theorem leaveRole_ev (t : Nat) (role : Nat) (s : State) :
    Ev Fp.leaveRole s (leaveRole t role s) := by
  unfold leaveRole
  repeat' first
    | with_reducible apply Ev.refl | with_reducible assumption | exact rfl
    | with_reducible apply Ev.seq (wr_ev _ _ _ _ _ ?_) ?_ ?_
    | with_reducible apply Ev.seq (onPool_ev _ _ ?_) (Sub.refl _) ?_
    | with_reducible apply Ev.seq (shrinkGroup_ev ..) ?_ ?_
    | (constructor <;> first | exact .inl rfl | exact .inr rfl | exact rfl | exact fun h => h | exact fun _ => rfl)
    | dsimp only | with_reducible refine Ev.ofPair (by assumption) ?_ | split

def Fp.dropChange : Nat := 0x2000000000000000000000000000000000000000000000000000000000000000000000000000000000000000000000000000000000000000000000000000000000000000400000
theorem dropChange_ev (t : Nat) (s : State) :
    Ev Fp.dropChange s (dropChange t s) := by
  unfold dropChange
  repeat' first
    | with_reducible apply Ev.refl | with_reducible assumption | exact rfl
    | with_reducible apply Ev.seq (endRole_ev ..) ?_ ?_ | with_reducible apply Ev.seq (onTile_ev ..) ?_ ?_
    | with_reducible apply Ev.ite ?_ ?_ | dsimp only | with_reducible refine Ev.ofPair (by assumption) ?_ | split

def Fp.loseTile : Nat := 0x83f0108f000310130d00020000028880000100045005100000000001000000000000044000000000000000000001004545544000000000000000000054510c50041015550400001
theorem loseTile_ev (t : Nat) (l : TileItems) (s : State) :
    Ev Fp.loseTile s (loseTile t l s) := by
  unfold loseTile
  repeat' first
    | with_reducible apply Ev.refl | with_reducible assumption | exact rfl
    | with_reducible apply Ev.seq (changeRole_ev ..) ?_ ?_ | with_reducible apply Ev.seq (dropChange_ev ..) ?_ ?_
    | with_reducible apply Ev.seq (leaveRole_ev ..) ?_ ?_ | with_reducible apply Ev.seq (loseContents_ev ..) ?_ ?_
    | with_reducible apply Ev.seq (retirePhys_ev ..) ?_ ?_ | dsimp only | split

def Fp.nextMigration : Nat := 0x2000000000000000000000000000000000000000000000000000000000000000000000000000000000000000000000000000000000000000000000000000000000000010000000
theorem nextMigration_ev (s : State) :
    Ev Fp.nextMigration s (nextMigration s) := by
  unfold nextMigration
  repeat' first
    | with_reducible apply Ev.refl | with_reducible assumption | exact rfl
    | with_reducible apply Ev.seq (wrb_ev _ _ _ _ _ ?_) ?_ ?_ | with_reducible apply Ev.seq (onTile_ev ..) ?_ ?_
    | dsimp only | with_reducible refine Ev.ofPair (by assumption) ?_ | split

def Fp.endMigration : Nat := 0x2000000000000000000000000000000000000000000000000000000000000000000000000000000000000000000000000000000000000000000000000000000000000010400000
theorem endMigration_ev (x : Migration) (s : State) :
    Ev Fp.endMigration s (endMigration x s) := by
  unfold endMigration
  repeat' first
    | with_reducible apply Ev.refl | with_reducible assumption | exact rfl
    | with_reducible apply Ev.seq (endRole_ev ..) ?_ ?_ | with_reducible apply Ev.seq (nextMigration_ev ..) ?_ ?_
    | with_reducible apply Ev.seq (onTile_ev ..) ?_ ?_ | with_reducible apply Ev.ite ?_ ?_ | dsimp only | split

def Fp.retireReadable : Nat := 0x83f0108f000310130d00020000028880000100045005100000000001000000000000044000000000000000000001004545544000000000000000000054510c50041015550400001
theorem retireReadable_ev (t : Nat) (command : Bool) (l : TileItems) (s : State) :
    Ev Fp.retireReadable s (retireReadable t command l s) := by
  unfold retireReadable
  repeat' first
    | with_reducible apply Ev.refl | with_reducible assumption | exact rfl
    | with_reducible apply Ev.seq (endRole_ev ..) ?_ ?_ | with_reducible apply Ev.seq (loseTile_ev ..) ?_ ?_
    | with_reducible apply Ev.seq (nextMigration_ev ..) ?_ ?_ | with_reducible apply Ev.seq (onTile_ev ..) ?_ ?_
    | with_reducible apply Ev.ite ?_ ?_ | dsimp only | with_reducible refine Ev.ofPair (by assumption) ?_ | split

def Fp.retireLost : Nat := 0x83f0108f000310130d00020000028880000100045005100000000001000000000000044000000000000000000001004545544000000000000000000054510c50041015550400001
theorem retireLost_ev (t : Nat) (l : TileItems) (s : State) :
    Ev Fp.retireLost s (retireLost t l s) := by
  unfold retireLost
  repeat' first
    | with_reducible apply Ev.refl | with_reducible assumption | exact rfl
    | with_reducible apply Ev.seq (endMigration_ev ..) ?_ ?_ | with_reducible apply Ev.seq (loseContents_ev ..) ?_ ?_
    | with_reducible apply Ev.seq (loseTile_ev ..) ?_ ?_ | with_reducible apply Ev.seq (switchTile_ev ..) ?_ ?_
    | dsimp only | with_reducible refine Ev.ofPair (by assumption) ?_ | split

def Fp.replacementFails : Nat := 0x83f0108f000310130d00020000028880000100045005100000000001000000000000044000000000000000000001004545544000000000000000000054510c50041015550400001
theorem replacementFails_ev (t : Nat) (l : TileItems) (s : State) :
    Ev Fp.replacementFails s (replacementFails t l s) := by
  unfold replacementFails
  repeat' first
    | with_reducible apply Ev.refl | with_reducible assumption | exact rfl
    | with_reducible apply Ev.seq (endMigration_ev ..) ?_ ?_ | with_reducible apply Ev.seq (loseTile_ev ..) ?_ ?_
    | with_reducible apply Ev.seq (onTile_ev ..) ?_ ?_ | with_reducible apply Ev.seq (retirePhys_ev ..) ?_ ?_
    | with_reducible apply Ev.ite ?_ ?_ | dsimp only | with_reducible refine Ev.ofPair (by assumption) ?_ | split

def Fp.markBad : Nat := 0x2200000000100010000000000000000000100004005100000000000000000000000000000000000000000000000000000000000000000000000000000000000000010400000000
theorem markBad_ev (t : Nat) (s : State) :
    Ev Fp.markBad s (markBad t s) := by
  unfold markBad
  repeat' first
    | with_reducible apply Ev.refl | with_reducible assumption | exact rfl
    | with_reducible apply Ev.seq (wrb_ev _ _ _ _ _ ?_) ?_ ?_ | with_reducible apply Ev.seq (recordEntry_ev ..) ?_ ?_
    | with_reducible apply Ev.ite ?_ ?_ | dsimp only | split

def Fp.scrubbed : Nat := 0x83f0108f000310130d00020000028880000100045005100000000001000000000000044000000000000000000001004545544000000000000000000054510c50041015550400001
theorem scrubbed_ev (t : Nat) (corrected : Nat) (l : TileItems) (s : State) :
    Ev Fp.scrubbed s (scrubbed t corrected l s) := by
  unfold scrubbed
  repeat' first
    | with_reducible apply Ev.refl | with_reducible assumption | exact rfl
    | with_reducible apply Ev.seq (wr_ev _ _ _ _ _ ?_) ?_ ?_ | with_reducible apply Ev.seq (logModule_ev ..) ?_ ?_
    | with_reducible apply Ev.seq (markBad_ev ..) ?_ ?_ | with_reducible apply Ev.seq (onTile_ev ..) ?_ ?_
    | with_reducible apply Ev.seq (retireReadable_ev ..) ?_ ?_ | with_reducible apply Ev.ite ?_ ?_ | dsimp only | split

def Fp.tileError : Nat := 0x83f0108f000310130d00020000028880000100045005100000000001040000000000044000000000000000000001004545544000000000000000000054510c50041015550400001
theorem tileError_ev (t : Nat) (self : Bool) (l : TileItems) (s : State) :
    Ev Fp.tileError s (tileError t self l s) := by
  unfold tileError
  repeat' first
    | with_reducible apply Ev.refl | with_reducible assumption | exact rfl
    | with_reducible apply Ev.seq (saturate_ev _ _ _ _ _ ?_) ?_ ?_ | with_reducible apply Ev.seq (endOverride_ev ..) ?_ ?_
    | with_reducible apply Ev.seq (loseContents_ev ..) ?_ ?_ | with_reducible apply Ev.seq (markBad_ev ..) ?_ ?_
    | with_reducible apply Ev.seq (onTile_ev ..) ?_ ?_ | with_reducible apply Ev.seq (overridePolicy_ev ..) ?_ ?_
    | with_reducible apply Ev.seq (retireLost_ev ..) ?_ ?_ | with_reducible apply Ev.ite ?_ ?_ | dsimp only | split

end Sys2Proof.Machine
end

