-- ==== Sys2Proof/Laws/EvBringOps.lean ====
section
/-! SUPPORT. What the operations of Machine/BringOps.lean may touch: one law for each, cited in place of unfolding it. The numbers are
sets of parts (Laws/Frame.lean, `Part.idx`). -/

set_option exponentiation.threshold 1024
set_option linter.unreachableTactic false
set_option linter.unusedTactic false

namespace Sys2Proof.Machine

def Fp.enterStep : Nat := 0x4000000000000000000000000000000000000000000000000000000000000000000000000000000000000000000000000000000000000000000000000000000000000000000040
theorem enterStep_ev (n : Nat) (s : State) :
    Ev Fp.enterStep s (enterStep n s) := by
  unfold enterStep
  repeat' first
    | with_reducible apply Ev.refl | with_reducible assumption | exact rfl
    | with_reducible apply Ev.seq (wr_ev _ _ _ _ _ ?_) ?_ ?_ | with_reducible apply Ev.seq (wrb_ev _ _ _ _ _ ?_) ?_ ?_
    | with_reducible apply Ev.seq (onBring_ev ..) ?_ ?_ | dsimp only | split

def Fp.startStep : Nat := 0x4200000000100010000000000000000000100004005100000000000000000000000000000000000000000000000000000000000000000000000000000000000000000000000050
theorem startStep_ev (n : Nat) (s : State) :
    Ev Fp.startStep s (startStep n s) := by
  unfold startStep
  repeat' first
    | with_reducible apply Ev.refl | with_reducible assumption | exact rfl
    | with_reducible apply Ev.seq (wr_ev _ _ _ _ _ ?_) ?_ ?_ | with_reducible apply Ev.seq (enterStep_ev ..) ?_ ?_
    | with_reducible apply Ev.seq (regAccess_ev ..) ?_ ?_ | with_reducible apply Ev.ite ?_ ?_ | dsimp only | split

def Fp.stepDone : Nat := 0x4000000000000000000000000000000000000000000000000000000000000000000000000000000000000000000000000000000000000000000000000000000000000000000000
theorem stepDone_ev (st : Option Status) (s : State) :
    Ev Fp.stepDone s (stepDone st s) := by
  unfold stepDone
  repeat' first
    | with_reducible apply Ev.refl | with_reducible assumption | exact rfl
    | with_reducible apply Ev.seq (onBring_ev ..) ?_ ?_ | dsimp only | split

def Fp.endStep : Nat := 0x4200000000100010000000000000000000100004005100000000000000000000000000000000000000000000000000000000000000000000000000000000000000000000000040
theorem endStep_ev (st : Option Status) (s : State) :
    Ev Fp.endStep s (endStep st s) := by
  unfold endStep
  repeat' first
    | with_reducible apply Ev.refl | with_reducible assumption | exact rfl
    | with_reducible apply Ev.seq (wr_ev _ _ _ _ _ ?_) ?_ ?_ | with_reducible apply Ev.seq (wrb_ev _ _ _ _ _ ?_) ?_ ?_
    | with_reducible apply Ev.seq (logModule_ev ..) ?_ ?_ | with_reducible apply Ev.seq (onBring_ev ..) ?_ ?_
    | with_reducible apply Ev.seq (raiseSource_ev ..) ?_ ?_ | dsimp only
    | with_reducible refine Ev.ofPair (by assumption) ?_ | split

def Fp.stepWork : Nat := 0x204200000000100010000000000000000000100004005100010000001000000000000000000000000000000000000000000000000000000000000000000000000000000000000050
theorem stepWork_ev {F : Nat} {s0 : State} (n : Nat) (path : Path) (f : State → State) (s : State) (hF : Sub Fp.stepWork F) (hf : ∀ x, Ev F x (f x)) (h0 : Ev F s0 s) :
    Ev F s0 (stepWork n path f s) := by
  unfold stepWork
  repeat' first
    | with_reducible apply Ev.refl | with_reducible assumption | exact rfl | exact Sub.trans' hF rfl
    | with_reducible apply Ev.seq (hf _) (Sub.refl _) ?_ | with_reducible apply rwl_ev _ _ _ _ _ _ ?_ (fun _ => ?_) ?_
    | with_reducible apply Ev.seq (startStep_ev ..) ?_ ?_ | with_reducible apply Ev.ite ?_ ?_ | dsimp only | split

def Fp.mapPhys : Nat := 0x10000000000
theorem mapPhys_ev (p : Nat) (bad : Nat → Bool) (extra : List (Nat × Nat)) (s : State) :
    Ev Fp.mapPhys s (mapPhys p bad extra s) := by
  unfold mapPhys
  repeat' first
    | with_reducible apply Ev.refl | with_reducible assumption | exact rfl
    | with_reducible apply Ev.seq (wr_ev _ _ _ _ _ ?_) ?_ ?_ | with_reducible apply Ev.seq (wrb_ev _ _ _ _ _ ?_) ?_ ?_
    | with_reducible apply Ev.ite ?_ ?_ | dsimp only | split

def Fp.mapTile : Nat := 0x4000000000
theorem mapTile_ev (t : Nat) (bad : Nat → Bool) (s : State) :
    Ev Fp.mapTile s (mapTile t bad s) := by
  unfold mapTile
  repeat' first
    | with_reducible apply Ev.refl | with_reducible assumption | exact rfl
    | with_reducible apply Ev.seq (wr_ev _ _ _ _ _ ?_) ?_ ?_ | with_reducible apply Ev.seq (wrb_ev _ _ _ _ _ ?_) ?_ ?_
    | with_reducible apply Ev.ite ?_ ?_ | dsimp only | split

def Fp.mapTiles : Nat := 0x14410000001
theorem mapTiles_ev (extra : List (Nat × Nat)) (s : State) :
    Ev Fp.mapTiles s (mapTiles extra s) := by
  unfold mapTiles
  repeat' first
    | with_reducible apply Ev.refl | with_reducible assumption | exact rfl
    | with_reducible apply Ev.seq (wr_ev _ _ _ _ _ ?_) ?_ ?_ | with_reducible apply Ev.seq (mapPhys_ev ..) ?_ ?_
    | with_reducible apply Ev.seq (mapTile_ev ..) ?_ ?_ | with_reducible apply Ev.foldl (fun _ _ => ?_) ?_
    | with_reducible apply Ev.foldlSnd (fun _ _ => ?_) ?_ | dsimp only | split

def Fp.mapSlices : Nat := 0x1000000000000
theorem mapSlices_ev (s : State) :
    Ev Fp.mapSlices s (mapSlices s) := by
  unfold mapSlices
  repeat' first
    | with_reducible apply Ev.refl | with_reducible assumption | exact rfl
    | with_reducible apply Ev.seq (wr_ev _ _ _ _ _ ?_) ?_ ?_ | with_reducible apply Ev.foldl (fun _ _ => ?_) ?_
    | with_reducible apply Ev.foldlSnd (fun _ _ => ?_) ?_ | dsimp only | split

def Fp.loadFields : Nat := 0x104000000000100000000000014000054000000000000001005000000004000005000000001
theorem imageFields_ok : (imageFields.all fun f => f.listed
    && Nat.beq (Nat.land (Part.reg .module f.reg).bit Fp.loadFields) (Part.reg .module f.reg).bit) = true := by decide

theorem imageField_ok (f : Field) (h : f ∈ imageFields) : f.listed = true ∧ Sub (Part.reg .module f.reg).bit Fp.loadFields := by
  have := (List.all_eq_true.1 imageFields_ok) f h
  rwa [Bool.and_eq_true] at this

theorem loadFields_ev (l : List ImageField) (s : State) : Ev Fp.loadFields s (loadFields l s) := by
  unfold loadFields
  refine Ev.foldl (fun t f => ?_) (Ev.refl _)
  split
  · next x i h =>
    have hx : x ∈ imageFields := by
      unfold imageFieldAt at h
      split at h
      · cases h
      · simp only [Option.map_eq_some_iff, Prod.mk.injEq] at h
        obtain ⟨y, hy, rfl, _⟩ := h
        exact List.mem_of_find?_eq_some hy
    exact Ev.mono (imageField_ok x hx).2 (wr_ev _ _ _ _ _ (imageField_ok x hx).1)
  · exact Ev.refl _

def Fp.clearImage : Nat := 0x104000000000100000000000014000054000000000000001005000000004000005000000001
theorem clearImage_ev (s : State) : Ev Fp.clearImage s (clearImage s) := by
  unfold clearImage
  refine Ev.foldlMem (fun t f hf => ?_) (Ev.refl _)
  split
  · refine Ev.foldl (fun u i => ?_) (Ev.refl _)
    exact Ev.mono (imageField_ok f hf).2 (wr_ev _ _ _ _ _ (imageField_ok f hf).1)
  · exact Ev.refl _

def Fp.takeImage : Nat := 0x4000000000000000000000000000000000000000000001000000000000000000000104000000000100000000000014000054000000000000001005000000004000015411050001
theorem takeImage_ev (image : List Byte) (fields : List ImageField) (s : State) :
    Ev Fp.takeImage s (takeImage image fields s) := by
  unfold takeImage
  repeat' first
    | with_reducible apply Ev.refl | with_reducible assumption | exact rfl
    | with_reducible apply Ev.seq (wr_ev _ _ _ _ _ ?_) ?_ ?_ | with_reducible apply Ev.seq (wrb_ev _ _ _ _ _ ?_) ?_ ?_
    | with_reducible apply Ev.seq (loadFields_ev ..) ?_ ?_ | with_reducible apply Ev.seq (mapTiles_ev ..) ?_ ?_
    | with_reducible apply Ev.seq (onBring_ev ..) ?_ ?_ | with_reducible apply Ev.seq (setMeasurement_ev ..) ?_ ?_
    | with_reducible apply Ev.foldl (fun _ _ => ?_) ?_ | with_reducible apply Ev.foldlSnd (fun _ _ => ?_) ?_ | dsimp only
    | split

def Fp.failImage : Nat := 0x10001
theorem failImage_ev (st : Status) (sec : Nat) (s : State) :
    Ev Fp.failImage s (failImage st sec s) := by
  unfold failImage
  repeat' first
    | with_reducible apply Ev.refl | with_reducible assumption | exact rfl
    | with_reducible apply Ev.seq (wr_ev _ _ _ _ _ ?_) ?_ ?_ | with_reducible apply Ev.seq (wrb_ev _ _ _ _ _ ?_) ?_ ?_
    | dsimp only | split

def Fp.assignRoles : Nat := 0x100080000000000000000000000000000000000000000000000000000000000000000000000000000000000000004000044000000000000000000000000000000001010000001
theorem assignRoles_ev (s : State) : Ev Fp.assignRoles s (assignRoles s) := by
  unfold assignRoles
  extract_lets count s1 s2 fast lost s3 buf
  clear_value count fast lost buf
  have h1 : Ev Fp.assignRoles s s1 := by
    repeat' first
      | with_reducible apply Ev.refl | with_reducible assumption | exact rfl
      | with_reducible apply Ev.seq (wr_ev _ _ _ _ _ ?_) ?_ ?_ | with_reducible apply Ev.seq (onM_ev _ _ ?_) (Sub.refl _) ?_
      | with_reducible apply Ev.seq (onPool_ev _ _ ?_) (Sub.refl _) ?_
      | with_reducible apply Ev.seq (settleFigures_ev ..) ?_ ?_ | with_reducible apply Ev.ite ?_ ?_
      | with_reducible apply Ev.foldl (fun _ _ => ?_) ?_ | with_reducible apply Ev.foldlSnd (fun _ _ => ?_) ?_
      | (constructor <;> first | exact .inl rfl | exact .inr rfl | exact rfl | exact fun h => h | exact fun _ => rfl)
      | dsimp only | split
  clear_value s1
  have h3 : Ev Fp.assignRoles s s3 := by
    repeat' first
      | with_reducible apply Ev.refl | with_reducible assumption | exact rfl
      | with_reducible apply Ev.seq (wr_ev _ _ _ _ _ ?_) ?_ ?_ | with_reducible apply Ev.seq (onM_ev _ _ ?_) (Sub.refl _) ?_
      | with_reducible apply Ev.seq (onPool_ev _ _ ?_) (Sub.refl _) ?_
      | with_reducible apply Ev.seq (settleFigures_ev ..) ?_ ?_ | with_reducible apply Ev.ite ?_ ?_
      | with_reducible apply Ev.foldl (fun _ _ => ?_) ?_ | with_reducible apply Ev.foldlSnd (fun _ _ => ?_) ?_
      | (constructor <;> first | exact .inl rfl | exact .inr rfl | exact rfl | exact fun h => h | exact fun _ => rfl)
      | dsimp only | split
  clear_value s3
  repeat' first
    | with_reducible apply Ev.refl | with_reducible assumption | exact rfl
    | with_reducible apply Ev.seq (wr_ev _ _ _ _ _ ?_) ?_ ?_ | with_reducible apply Ev.seq (onM_ev _ _ ?_) (Sub.refl _) ?_
    | with_reducible apply Ev.seq (onPool_ev _ _ ?_) (Sub.refl _) ?_
    | with_reducible apply Ev.seq (settleFigures_ev ..) ?_ ?_ | with_reducible apply Ev.ite ?_ ?_
    | with_reducible apply Ev.foldl (fun _ _ => ?_) ?_ | with_reducible apply Ev.foldlSnd (fun _ _ => ?_) ?_
    | (constructor <;> first | exact .inl rfl | exact .inr rfl | exact rfl | exact fun h => h | exact fun _ => rfl)
    | dsimp only | split

def Fp.settlePool : Nat := 0x40000000000000000000000000000000000000000000
theorem settlePool_ev (s : State) :
    Ev Fp.settlePool s (settlePool s) := by
  unfold settlePool
  repeat' first
    | with_reducible apply Ev.refl | with_reducible assumption | exact rfl
    | with_reducible apply Ev.seq (wr_ev _ _ _ _ _ ?_) ?_ ?_ | with_reducible apply Ev.ite ?_ ?_ | dsimp only | split

end Sys2Proof.Machine
end

