-- ==== Sys2Proof/Laws/EvCollOps.lean ====
section
/-! SUPPORT. What the operations of Machine/CollOps.lean may touch: one law for each, cited in place of unfolding it. The numbers are
sets of parts (Laws/Frame.lean, `Part.idx`). -/

set_option exponentiation.threshold 1024
set_option linter.unreachableTactic false
set_option linter.unusedTactic false

namespace Sys2Proof.Machine

def Fp.onColl : Nat := 0x10000000000000000000000000000000000000000000000000000000000000000000000000000000000000000000000000000000000000000000000000000000000000000000000000000000
theorem onColl_ev (f : CollState → CollState) (s : State) :
    Ev Fp.onColl s (onColl f s) := by
  unfold onColl
  repeat' first
    | with_reducible apply Ev.refl | with_reducible assumption | exact rfl
    | with_reducible apply Ev.seq (onE_ev _ _ ?_) (Sub.refl _) ?_
    | (constructor <;> first | exact .inl rfl | exact .inr rfl | exact rfl | exact fun h => h | exact fun _ => rfl)
    | dsimp only | split

def Fp.onCollDesc : Nat := 0x10000000000000000000000000000000000000000000000000000000000000000000000000000000000000000000000000000000000000000000000000000000000000000000000000000000
theorem onCollDesc_ev (id : Nat) (f : CollDesc → CollDesc) (s : State) :
    Ev Fp.onCollDesc s (onCollDesc id f s) := by
  unfold onCollDesc
  repeat' first
    | with_reducible apply Ev.refl | with_reducible assumption | exact rfl
    | with_reducible apply Ev.seq (onColl_ev ..) ?_ ?_ | with_reducible apply Ev.ite ?_ ?_ | dsimp only | split

def Fp.onCollChunk : Nat := 0x10000000000000000000000000000000000000000000000000000000000000000000000000000000000000000000000000000000000000000000000000000000000000000000000000000000
theorem onCollChunk_ev (id : Nat) (c : Nat) (f : CollChunk → CollChunk) (s : State) :
    Ev Fp.onCollChunk s (onCollChunk id c f s) := by
  unfold onCollChunk
  repeat' first
    | with_reducible apply Ev.refl | with_reducible assumption | exact rfl
    | with_reducible apply Ev.seq (onCollDesc_ev ..) ?_ ?_ | with_reducible apply Ev.ite ?_ ?_ | dsimp only | split

def Fp.fetchColl : Nat := 0x80003b0000000000000200000000000000000000000000000000000000000000000000000000000000000000000000000000000000000000000000000000000000000000000000000000000
theorem fetchColl_ev (s : State) :
    Ev Fp.fetchColl s (fetchColl s) := by
  unfold fetchColl
  repeat' first
    | with_reducible apply Ev.refl | with_reducible assumption | exact rfl
    | with_reducible apply Ev.seq (fetchNext_ev ..) ?_ ?_ | dsimp only | split

def Fp.writeCollRecord : Nat := 0x3b0000000000000200000000000000000000000000000000000000000000000000000000000000000000000000000000000000000000000000000000000000000000000000000000000
theorem writeCollRecord_ev (id : Nat) (c : Nat) (s : State) :
    Ev Fp.writeCollRecord s (writeCollRecord id c s) := by
  unfold writeCollRecord
  repeat' first
    | with_reducible apply Ev.refl | with_reducible assumption | exact rfl
    | with_reducible apply Ev.seq (memStore_ev ..) ?_ ?_ | dsimp only | with_reducible refine Ev.ofPair (by assumption) ?_
    | split

def Fp.endChunk : Nat := 0x100003b0000000000000200000000000000000000000000000000000000000000000000000000000000000000000000000000000000000000000000000000000000000000000000000000000
theorem endChunk_ev (id : Nat) (c : Nat) (st : Status) (count : Nat) (member : Option Nat) (stops : Bool) (s : State) :
    Ev Fp.endChunk s (endChunk id c st count member stops s) := by
  unfold endChunk
  repeat' first
    | with_reducible apply Ev.refl | with_reducible assumption | exact rfl
    | with_reducible apply Ev.seq (memStore_ev ..) ?_ ?_ | with_reducible apply Ev.seq (onCollChunk_ev ..) ?_ ?_
    | with_reducible apply Ev.seq (onCollDesc_ev ..) ?_ ?_ | with_reducible apply Ev.seq (writeCollRecord_ev ..) ?_ ?_
    | with_reducible apply Ev.ite ?_ ?_ | dsimp only | with_reducible refine Ev.ofPair (by assumption) ?_ | split

def Fp.residualWritten : Nat := 0x100003b0000000000000200000000000000000000000000000000000000000000000000000000000000000000000000000000000000000000000000000000000000000000000000000000000
theorem residualWritten_ev (id : Nat) (c : Nat) (st : Status) (s : State) :
    Ev Fp.residualWritten s (residualWritten id c st s) := by
  unfold residualWritten
  repeat' first
    | with_reducible apply Ev.refl | with_reducible assumption | exact rfl
    | with_reducible apply Ev.seq (onCollChunk_ev ..) ?_ ?_ | with_reducible apply Ev.seq (writeCollRecord_ev ..) ?_ ?_
    | with_reducible apply Ev.ite ?_ ?_ | dsimp only | split

def Fp.recordWritten : Nat := 0x180003b0000000000000200000000002800000080000000000000000000000000000000000000000000000000000000000000000000000000000000000000000000000000000000000000000
theorem recordWritten_ev (id : Nat) (c : Nat) (st : Status) (s : State) :
    Ev Fp.recordWritten s (recordWritten id c st s) := by
  unfold recordWritten
  repeat' first
    | with_reducible apply Ev.refl | with_reducible assumption | exact rfl
    | with_reducible apply Ev.seq (fetchColl_ev ..) ?_ ?_ | with_reducible apply Ev.seq (onColl_ev ..) ?_ ?_
    | with_reducible apply Ev.seq (onCollDesc_ev ..) ?_ ?_
    | with_reducible apply Ev.seq (raiseVector_ev _ _ (by decide)) ?_ ?_
    | with_reducible apply Ev.seq (stopQueue_ev ..) ?_ ?_ | with_reducible apply Ev.ite ?_ ?_ | dsimp only
    | with_reducible refine Ev.ofPair (by assumption) ?_ | split

def Fp.sendPlane : Nat := 0x100000000000000800000000000000000000000000000000000000000000000000000000000000000000000000000000000000000000000000000000000000000000000000000
theorem sendPlane_ev (plane : Bool) (p : Packet) (s : State) :
    Ev Fp.sendPlane s (sendPlane plane p s) := by
  unfold sendPlane
  repeat' first
    | with_reducible apply Ev.refl | with_reducible assumption | exact rfl
    | with_reducible apply Ev.seq (portSend_ev ..) ?_ ?_ | dsimp only | with_reducible refine Ev.ofPair (by assumption) ?_
    | split

def Fp.sendAbort : Nat := 0x100000000000000800000000000000000000000000000000000000000000000000000000000000000000000000000000000000000000000000000000000000000000000000000
theorem sendAbort_ev (k : CollKey) (plane : Bool) (st : Status) (step : Nat) (c : Nat) (slot : List Byte) (count : Nat) (s : State) :
    Ev Fp.sendAbort s (sendAbort k plane st step c slot count s) := by
  unfold sendAbort
  repeat' first
    | with_reducible apply Ev.refl | with_reducible assumption | exact rfl
    | with_reducible apply Ev.seq (sendPlane_ev ..) ?_ ?_ | dsimp only | split

def Fp.sendProbe : Nat := 0x100000000000000800000000000000000000000000000000000000000000000000000000000000000000000000000000000000000000000000000000000000000000000000000
theorem sendProbe_ev (d : CollDesc) (k : CollChunk) (s : State) :
    Ev Fp.sendProbe s (sendProbe d k s) := by
  unfold sendProbe
  repeat' first
    | with_reducible apply Ev.refl | with_reducible assumption | exact rfl
    | with_reducible apply Ev.seq (sendPlane_ev ..) ?_ ?_ | dsimp only | split

def Fp.readContribution : Nat := 0x100003b0000000000000200000000000000000000000000000000000000000000000000000000000000000000000000000000000000000000000000000000000000000000000000000000000
theorem readContribution_ev (id : Nat) (c : Nat) (s : State) :
    Ev Fp.readContribution s (readContribution id c s) := by
  unfold readContribution
  repeat' first
    | with_reducible apply Ev.refl | with_reducible assumption | exact rfl
    | with_reducible apply Ev.seq (onCollChunk_ev ..) ?_ ?_ | with_reducible apply Ev.seq (startTxnWith_ev ..) ?_ ?_
    | dsimp only | with_reducible refine Ev.ofPair (by assumption) ?_ | split

def Fp.takeContribution : Nat := 0x10000000000100000000000000800000000000000000000000000000000000000000000000000000000000000000000000000000000000000000000000000000000000000000000000000000
theorem takeContribution_ev (id : Nat) (c : Nat) (read : Nat) (st : Status) (data : List Byte) (s : State) :
    Ev Fp.takeContribution s (takeContribution id c read st data s) := by
  unfold takeContribution
  repeat' first
    | with_reducible apply Ev.refl | with_reducible assumption | exact rfl
    | with_reducible apply Ev.seq (onCollChunk_ev ..) ?_ ?_ | with_reducible apply Ev.seq (sendPlane_ev ..) ?_ ?_
    | with_reducible apply Ev.ite ?_ ?_ | with_reducible apply Ev.foldl (fun _ _ => ?_) ?_
    | with_reducible apply Ev.foldlSnd (fun _ _ => ?_) ?_ | dsimp only | with_reducible refine Ev.ofPair (by assumption) ?_
    | split

def Fp.launchChunk : Nat := 0x100003b0000000000000200000000000000000000000000000000000000000000000000000000000000000000000000000000000000000000000000000000000000000000000000000000000
theorem launchChunk_ev (d : CollDesc) (k : CollChunk) (s : State) :
    Ev Fp.launchChunk s (launchChunk d k s) := by
  unfold launchChunk
  repeat' first
    | with_reducible apply Ev.refl | with_reducible assumption | exact rfl
    | with_reducible apply Ev.seq (endChunk_ev ..) ?_ ?_ | with_reducible apply Ev.seq (onColl_ev ..) ?_ ?_
    | with_reducible apply Ev.seq (onCollChunk_ev ..) ?_ ?_ | with_reducible apply Ev.seq (readContribution_ev ..) ?_ ?_
    | dsimp only | with_reducible refine Ev.ofPair (by assumption) ?_ | split

def Fp.noteStep : Nat := 0x10000000000000000000000000000000000000000000000000000000000000000000000000000000000000000000000000000000000000000000000000000000000000000000000000000000
theorem noteStep_ev (g : Nat) (step : Nat) (s : State) :
    Ev Fp.noteStep s (noteStep g step s) := by
  unfold noteStep
  repeat' first
    | with_reducible apply Ev.refl | with_reducible assumption | exact rfl
    | with_reducible apply Ev.seq (onColl_ev ..) ?_ ?_ | with_reducible apply Ev.ite ?_ ?_ | dsimp only | split

def Fp.acceptDesc : Nat := 0x100003b0000000000000200000000000000000000000000000000000000000000000000000000000000000000000000000000000000000000000000000000000000000000000000000000000
theorem acceptDesc_ev (b : List Byte) (s : State) :
    Ev Fp.acceptDesc s (acceptDesc b s) := by
  unfold acceptDesc
  repeat' first
    | with_reducible apply Ev.refl | with_reducible assumption | exact rfl
    | with_reducible apply Ev.seq (endChunk_ev ..) ?_ ?_ | with_reducible apply Ev.seq (noteStep_ev ..) ?_ ?_
    | with_reducible apply Ev.seq (onColl_ev ..) ?_ ?_ | with_reducible apply Ev.seq (onCollDesc_ev ..) ?_ ?_
    | with_reducible apply Ev.ite ?_ ?_ | with_reducible apply Ev.foldl (fun _ _ => ?_) ?_
    | with_reducible apply Ev.foldlSnd (fun _ _ => ?_) ?_ | dsimp only | with_reducible refine Ev.ofPair (by assumption) ?_
    | split

def Fp.keepAbort : Nat := 0x10000000000000000000000000000000000000000000000000000000000000000000000000000000000000000000000000000000000000000000000000000000000000000000000000000000
theorem keepAbort_ev (g : Nat) (step : Nat) (st : Status) (slot : List Byte) (count : Nat) (s : State) :
    Ev Fp.keepAbort s (keepAbort g step st slot count s) := by
  unfold keepAbort
  repeat' first
    | with_reducible apply Ev.refl | with_reducible assumption | exact rfl
    | with_reducible apply Ev.seq (onColl_ev ..) ?_ ?_ | dsimp only | split

def Fp.endChunks : Nat := 0x100003b0000000000000200000000000000000000000000000000000000000000000000000000000000000000000000000000000000000000000000000000000000000000000000000000000
theorem endChunks_ev (hit : CollDesc → CollChunk → Bool) (st : Status) (count : Nat) (member : Option Nat) (s : State) :
    Ev Fp.endChunks s (endChunks hit st count member s) := by
  unfold endChunks
  repeat' first
    | with_reducible apply Ev.refl | with_reducible assumption | exact rfl
    | with_reducible apply Ev.seq (endChunk_ev ..) ?_ ?_ | with_reducible apply Ev.foldl (fun _ _ => ?_) ?_
    | with_reducible apply Ev.foldlSnd (fun _ _ => ?_) ?_ | dsimp only | split

def Fp.cancelStep : Nat := 0x100003b0000000000000200000000000000000000000000000000000000000000000000000000000000000000000000000000000000000000000000000000000000000000000000000000000
theorem cancelStep_ev (group : Nat) (step : Nat) (s : State) :
    Ev Fp.cancelStep s (cancelStep group step s) := by
  unfold cancelStep
  repeat' first
    | with_reducible apply Ev.refl | with_reducible assumption | exact rfl
    | with_reducible apply Ev.seq (endChunks_ev ..) ?_ ?_ | with_reducible apply Ev.seq (keepAbort_ev ..) ?_ ?_
    | dsimp only | with_reducible refine Ev.ofPair (by assumption) ?_ | split

def Fp.takeAbort : Nat := 0x100003b0000000000000200000000000000000000000000000000000000000000000000000000000000000000000000000000000000000000000000000000000000000000000000000000000
theorem takeAbort_ev (p : Packet) (s : State) :
    Ev Fp.takeAbort s (takeAbort p s) := by
  unfold takeAbort
  repeat' first
    | with_reducible apply Ev.refl | with_reducible assumption | exact rfl
    | with_reducible apply Ev.seq (endChunks_ev ..) ?_ ?_ | with_reducible apply Ev.seq (keepAbort_ev ..) ?_ ?_
    | with_reducible apply Ev.ite ?_ ?_ | dsimp only | with_reducible refine Ev.ofPair (by assumption) ?_ | split

def Fp.refusedChunk : Nat := 0x10000000083f0000f000310130c00020000028880000100045015100000000001000000000000000000000000000000410100054445500000000000000000000054400c00000015050400001
theorem refusedChunk_ev (d : CollDesc) (k : CollChunk) (refuser : Eid) (s : State) :
    Ev Fp.refusedChunk s (refusedChunk d k refuser s) := by
  unfold refusedChunk
  repeat' first
    | with_reducible apply Ev.refl | with_reducible assumption | exact rfl
    | with_reducible apply Ev.seq (gaveUp_ev ..) ?_ ?_ | with_reducible apply Ev.seq (onCollChunk_ev ..) ?_ ?_
    | with_reducible apply Ev.seq (sendAbort_ev ..) ?_ ?_ | with_reducible apply Ev.ite ?_ ?_ | dsimp only | split

def Fp.keepAttempt : Nat := 0x10000000000000000000000000000000000000000000000000000000000000000000000000000000000000000000000000000000000000000000000000000000000000000000000000000000
theorem keepAttempt_ev (g : Nat) (step : Nat) (c : Nat) (attempt : Nat) (s : State) :
    Ev Fp.keepAttempt s (keepAttempt g step c attempt s) := by
  unfold keepAttempt
  repeat' first
    | with_reducible apply Ev.refl | with_reducible assumption | exact rfl
    | with_reducible apply Ev.seq (onColl_ev ..) ?_ ?_ | with_reducible apply Ev.ite ?_ ?_ | dsimp only | split

def Fp.takeResend : Nat := 0x100003b0083f0000f000310130c00020000028880000100045015100000000001000000000000000000000000000000410100054445500000000000000000000054400c00000015050400001
theorem takeResend_ev (p : Packet) (s : State) :
    Ev Fp.takeResend s (takeResend p s) := by
  unfold takeResend
  repeat' first
    | with_reducible apply Ev.refl | with_reducible assumption | exact rfl
    | with_reducible apply Ev.seq (keepAttempt_ev ..) ?_ ?_ | with_reducible apply Ev.seq (onCollChunk_ev ..) ?_ ?_
    | with_reducible apply Ev.seq (readContribution_ev ..) ?_ ?_ | with_reducible apply Ev.seq (refusedChunk_ev ..) ?_ ?_
    | with_reducible apply Ev.seq (sendAbort_ev ..) ?_ ?_ | with_reducible apply Ev.ite ?_ ?_ | dsimp only
    | with_reducible refine Ev.ofPair (by assumption) ?_ | split

def Fp.planeChunksEnd : Nat := 0x100003b0000000000000200000000000000000000000000000000000000000000000000000000000000000000000000000000000000000000000000000000000000000000000000000000000
theorem planeChunksEnd_ev (plane : Bool) (s : State) :
    Ev Fp.planeChunksEnd s (planeChunksEnd plane s) := by
  unfold planeChunksEnd
  repeat' first
    | with_reducible apply Ev.refl | with_reducible assumption | exact rfl
    | with_reducible apply Ev.seq (endChunks_ev ..) ?_ ?_ | dsimp only | split

def Fp.completeVerified : Nat := 0x100003b0000000000000200000000000000000000000000000000000000000000000000000000000000000000000000000000000000000000000000000000000000000000000000000000000
theorem completeVerified_ev (id : Nat) (c : Nat) (s : State) :
    Ev Fp.completeVerified s (completeVerified id c s) := by
  unfold completeVerified
  repeat' first
    | with_reducible apply Ev.refl | with_reducible assumption | exact rfl
    | with_reducible apply Ev.seq (endChunk_ev ..) ?_ ?_ | with_reducible apply Ev.ite ?_ ?_ | dsimp only
    | with_reducible refine Ev.ofPair (by assumption) ?_ | split

def Fp.verifyChunk : Nat := 0x100003b0000000000000200000000000000000000000000000000000000000000000000000000000000000000000000000000000000000000000000000000000000000000000000000000000
theorem verifyChunk_ev (d : CollDesc) (k : CollChunk) (s : State) :
    Ev Fp.verifyChunk s (verifyChunk d k s) := by
  unfold verifyChunk
  repeat' first
    | with_reducible apply Ev.refl | with_reducible assumption | exact rfl
    | with_reducible apply Ev.seq (completeVerified_ev ..) ?_ ?_ | with_reducible apply Ev.seq (onCollChunk_ev ..) ?_ ?_
    | with_reducible apply Ev.ite ?_ ?_ | dsimp only | split

def Fp.takeFragment : Nat := 0x100003b0000000000000200000000000000000000000000000000000000000000000000000000000000000000000000000000000000000000000000000000000000000000000000000000000
theorem takeFragment_ev (d : CollDesc) (k : CollChunk) (p : Packet) (s : State) :
    Ev Fp.takeFragment s (takeFragment d k p s) := by
  unfold takeFragment
  repeat' first
    | with_reducible apply Ev.refl | with_reducible assumption | exact rfl
    | with_reducible apply Ev.seq (memStore_ev ..) ?_ ?_ | with_reducible apply Ev.seq (onCollChunk_ev ..) ?_ ?_
    | with_reducible apply Ev.seq (verifyChunk_ev ..) ?_ ?_ | with_reducible apply Ev.ite ?_ ?_
    | with_reducible apply Ev.foldl (fun _ _ => ?_) ?_ | with_reducible apply Ev.foldlSnd (fun _ _ => ?_) ?_ | dsimp only
    | with_reducible refine Ev.ofPair (by assumption) ?_ | split

def Fp.resultWritten : Nat := 0x100003b0000000000000200000000000000000000000000000000000000000000000000000000000000000000000000000000000000000000000000000000000000000000000000000000000
theorem resultWritten_ev (id : Nat) (c : Nat) (st : Status) (s : State) :
    Ev Fp.resultWritten s (resultWritten id c st s) := by
  unfold resultWritten
  repeat' first
    | with_reducible apply Ev.refl | with_reducible assumption | exact rfl
    | with_reducible apply Ev.seq (completeVerified_ev ..) ?_ ?_ | with_reducible apply Ev.seq (endChunk_ev ..) ?_ ?_
    | with_reducible apply Ev.seq (onCollChunk_ev ..) ?_ ?_ | with_reducible apply Ev.ite ?_ ?_ | dsimp only | split

def Fp.takeResult : Nat := 0x100003b0000000000000200020000020000028880000000000000000000880000000000000000000000000000000000000000000000000000000000000000000000000000000000000000000
theorem takeResult_ev (p : Packet) (s : State) :
    Ev Fp.takeResult s (takeResult p s) := by
  unfold takeResult
  repeat' first
    | with_reducible apply Ev.refl | with_reducible assumption | exact rfl
    | with_reducible apply Ev.seq (bump_ev _ _ _ _ ?_) ?_ ?_ | with_reducible apply Ev.seq (takeFragment_ev ..) ?_ ?_
    | dsimp only | with_reducible refine Ev.ofPair (by assumption) ?_ | split

end Sys2Proof.Machine
end

