-- ==== Sys2Proof/Laws/EvCorePort.lean ====
section
/-! SUPPORT. What the operations of Machine/CorePort.lean may touch: one law for each, cited in place of unfolding it. The numbers are
sets of parts (Laws/Frame.lean, `Part.idx`). -/

set_option exponentiation.threshold 1024
set_option linter.unreachableTactic false
set_option linter.unusedTactic false

namespace Sys2Proof.Machine

def Fp.unlessRetired : Nat := 0x200020000020000028880000000000000000000020000000000000000000000000000000000000000000000000000000000000000000000000000000000000000000
theorem unlessRetired_ev {F : Nat} {s0 : State} (ctx : Nat) (f : State → State) (s : State) (hF : Sub Fp.unlessRetired F) (hf : ∀ x, Ev F x (f x)) (h0 : Ev F s0 s) :
    Ev F s0 (unlessRetired ctx f s) := by
  unfold unlessRetired
  repeat' first
    | with_reducible apply Ev.refl | with_reducible assumption | exact rfl | exact Sub.trans' hF rfl
    | with_reducible apply Ev.seq (hf _) (Sub.refl _) ?_ | with_reducible apply Ev.seq (bump_ev _ _ _ _ ?_) ?_ ?_
    | with_reducible apply Ev.ite ?_ ?_ | dsimp only | split

def Fp.xqOp : Nat := 0x93763b0000700000000330130c0002000002888000015404400510000002000100000000000000000000000000000000000000000000000000000c00c000000054000000000000000000000
theorem xqOp_ev {F : Nat} {s0 : State} (ctx : Nat) (atag : Nat) (loadLen : Nat) (bad : List Status) (op : BitVec 8) (issue : State → State) (s : State) (hF : Sub Fp.xqOp F) (hissue : ∀ x, Ev F x (issue x)) (h0 : Ev F s0 s) :
    Ev F s0 (xqOp ctx atag loadLen bad op issue s) := by
  unfold xqOp
  repeat' first
    | with_reducible apply Ev.refl | with_reducible assumption | exact rfl | exact Sub.trans' hF rfl
    | with_reducible apply Ev.seq (hissue _) (Sub.refl _) ?_ | with_reducible apply Ev.seq (noteAlso_ev ..) ?_ ?_
    | with_reducible apply Ev.seq (settle_ev ..) ?_ ?_ | with_reducible apply unlessRetired_ev _ _ _ ?_ (fun _ => ?_) ?_
    | with_reducible apply Ev.seq (xrDone_ev ..) ?_ ?_ | dsimp only | with_reducible refine Ev.ofPair (by assumption) ?_
    | split

def Fp.execXqLoad : Nat := 0x937e3b0000700000000330130c0002000002888000015404400510000002000100000000000000000000000000000000000000000000000000000c00c000000054000000000000000000000
theorem execXqLoad_ev (ctx : Nat) (atag : Nat) (gfa : Nat) (len : Nat) (stream : BitVec 4) (s : State) :
    OutEv Fp.execXqLoad s (execXqLoad ctx atag gfa len stream s) := by
  unfold execXqLoad
  repeat' first
    | with_reducible apply Ev.refl | with_reducible assumption | exact rfl
    | with_reducible apply Ev.seq (newAcc_ev ..) ?_ ?_ | with_reducible apply xqOp_ev _ _ _ _ _ _ _ ?_ (fun _ => ?_) ?_
    | with_reducible apply OutEv.next | dsimp only | split

def Fp.execXqLoadAcq : Nat := 0x93763b0000700000000330130c0002000002888000015404400510000002000100000000000000000000000000000000000000000000000000000c00c000000054000000000000000000000
theorem execXqLoadAcq_ev (ctx : Nat) (atag : Nat) (gfa : Nat) (len : Nat) (stream : BitVec 4) (s : State) :
    OutEv Fp.execXqLoadAcq s (execXqLoadAcq ctx atag gfa len stream s) := by
  unfold execXqLoadAcq
  repeat' first
    | with_reducible apply Ev.refl | with_reducible assumption | exact rfl
    | with_reducible apply Ev.seq (issueOp_ev ..) ?_ ?_ | with_reducible apply xqOp_ev _ _ _ _ _ _ _ ?_ (fun _ => ?_) ?_
    | with_reducible apply OutEv.next | dsimp only | split

def Fp.execXqStore : Nat := 0x937e3b0000700000000330130c0002000002888000015404400510000002000100000000000000000000000000000000000000000000000000000c00c000000054000000000000000000000
theorem execXqStore_ev (ctx : Nat) (atag : Nat) (gfa : Nat) (stream : BitVec 4) (data : List Byte) (s : State) :
    OutEv Fp.execXqStore s (execXqStore ctx atag gfa stream data s) := by
  unfold execXqStore
  repeat' first
    | with_reducible apply Ev.refl | with_reducible assumption | exact rfl
    | with_reducible apply Ev.seq (newAcc_ev ..) ?_ ?_ | with_reducible apply xqOp_ev _ _ _ _ _ _ _ ?_ (fun _ => ?_) ?_
    | with_reducible apply OutEv.next | dsimp only | split

def Fp.patchReadMostly : Nat := 0x106000000000000000000000000000000000000000000000000000000000000000000000000000000000000000000000000000000000000000000000000000000000000000000000000000
theorem patchReadMostly_ev (gfa : Nat) (data : List Byte) (s : State) :
    Ev Fp.patchReadMostly s (patchReadMostly gfa data s) := by
  unfold patchReadMostly
  repeat' first
    | with_reducible apply Ev.refl | with_reducible assumption | exact rfl
    | with_reducible apply Ev.seq (putLine_ev ..) ?_ ?_ | with_reducible apply Ev.seq (spoilFills_ev ..) ?_ ?_
    | with_reducible apply Ev.ite ?_ ?_ | with_reducible apply Ev.foldl (fun _ _ => ?_) ?_
    | with_reducible apply Ev.foldlSnd (fun _ _ => ?_) ?_ | dsimp only | with_reducible refine Ev.ofPair (by assumption) ?_
    | split

def Fp.execXqStoreFlag : Nat := 0x93763b0000700000000330130c0002000002888000015404400510000002000100000000000000000000000000000000000000000000000000000c00c000000054000000000000000000000
theorem execXqStoreFlag_ev (ctx : Nat) (atag : Nat) (gfa : Nat) (stream : BitVec 4) (data : List Byte) (s : State) :
    OutEv Fp.execXqStoreFlag s (execXqStoreFlag ctx atag gfa stream data s) := by
  unfold execXqStoreFlag
  repeat' first
    | with_reducible apply Ev.refl | with_reducible assumption | exact rfl
    | with_reducible apply Ev.seq (issueOp_ev ..) ?_ ?_ | with_reducible apply Ev.seq (patchReadMostly_ev ..) ?_ ?_
    | with_reducible apply xqOp_ev _ _ _ _ _ _ _ ?_ (fun _ => ?_) ?_ | with_reducible apply OutEv.next | dsimp only | split

def Fp.xqRmw : Nat := 0x93763b0000700000000330130c0002000002888000015404400510000002000100000000000000000000000000000000000000000000000000000c00c000000054000000000000000000000
theorem xqRmw_ev (op : BitVec 8) (ctx : Nat) (atag : Nat) (gfa : Nat) (stream : BitVec 4) (aop : BitVec 8) (data : List Byte) (s : State) :
    Ev Fp.xqRmw s (xqRmw op ctx atag gfa stream aop data s) := by
  unfold xqRmw
  repeat' first
    | with_reducible apply Ev.refl | with_reducible assumption | exact rfl
    | with_reducible apply Ev.seq (issueOp_ev ..) ?_ ?_ | with_reducible apply xqOp_ev _ _ _ _ _ _ _ ?_ (fun _ => ?_) ?_
    | dsimp only | split

def Fp.execXqAtomicInt : Nat := 0x93763b0000700000000330130c0002000002888000015404400510000002000100000000000000000000000000000000000000000000000000000c00c000000054000000000000000000000
theorem execXqAtomicInt_ev (ctx : Nat) (atag : Nat) (gfa : Nat) (stream : BitVec 4) (aop : BitVec 8) (data : List Byte) (s : State) :
    OutEv Fp.execXqAtomicInt s (execXqAtomicInt ctx atag gfa stream aop data s) := by
  unfold execXqAtomicInt
  repeat' first
    | with_reducible apply Ev.refl | with_reducible assumption | exact rfl
    | with_reducible apply Ev.seq (xqRmw_ev ..) ?_ ?_ | with_reducible apply OutEv.next | dsimp only | split

def Fp.execXqAtomicFp : Nat := 0x93763b0000700000000330130c0002000002888000015404400510000002000100000000000000000000000000000000000000000000000000000c00c000000054000000000000000000000
theorem execXqAtomicFp_ev (ctx : Nat) (atag : Nat) (gfa : Nat) (stream : BitVec 4) (aop : BitVec 8) (data : List Byte) (s : State) :
    OutEv Fp.execXqAtomicFp s (execXqAtomicFp ctx atag gfa stream aop data s) := by
  unfold execXqAtomicFp
  repeat' first
    | with_reducible apply Ev.refl | with_reducible assumption | exact rfl
    | with_reducible apply Ev.seq (xqRmw_ev ..) ?_ ?_ | with_reducible apply OutEv.next | dsimp only | split

def Fp.execXqReduceStore : Nat := 0x93763b0000700000000330130c0002000002888000015404400510000002000100000000000000000000000000000000000000000000000000000c00c000000054000000000000000000000
theorem execXqReduceStore_ev (ctx : Nat) (atag : Nat) (gfa : Nat) (stream : BitVec 4) (aop : BitVec 8) (data : List Byte) (s : State) :
    OutEv Fp.execXqReduceStore s (execXqReduceStore ctx atag gfa stream aop data s) := by
  unfold execXqReduceStore
  repeat' first
    | with_reducible apply Ev.refl | with_reducible assumption | exact rfl
    | with_reducible apply Ev.seq (xqRmw_ev ..) ?_ ?_ | with_reducible apply OutEv.next | dsimp only | split

def Fp.execRmInvAll : Nat := 0x102000000000000000200000000000000000000000000000000000000000000000000000000000000000000000000000000000000000000000000000000000000000000000000000000000
theorem execRmInvAll_ev (ctx : Nat) (atag : Nat) (s : State) :
    OutEv Fp.execRmInvAll s (execRmInvAll ctx atag s) := by
  unfold execRmInvAll
  repeat' first
    | with_reducible apply Ev.refl | with_reducible assumption | exact rfl
    | with_reducible apply Ev.seq (dropReadMostly_ev ..) ?_ ?_ | with_reducible apply Ev.seq (xrStatus_ev ..) ?_ ?_
    | with_reducible apply OutEv.next | dsimp only | split

def Fp.cohAccess : Nat := 0x937e3b0000700000000330130c0002000002888000015404400510000002000100000000000000000000000000000000000000000000000000000c00c000000054000000000000000000000
theorem cohAccess_ev (kind : AccKind) (ctx : Nat) (atag : Nat) (gfa : Nat) (len : Nat) (s : State) :
    Ev Fp.cohAccess s (cohAccess kind ctx atag gfa len s) := by
  unfold cohAccess
  repeat' first
    | with_reducible apply Ev.refl | with_reducible assumption | exact rfl
    | with_reducible apply Ev.seq (newAcc_ev ..) ?_ ?_ | with_reducible apply xqOp_ev _ _ _ _ _ _ _ ?_ (fun _ => ?_) ?_
    | with_reducible apply Ev.ite ?_ ?_ | dsimp only | split

def Fp.execCohRd : Nat := 0x937e3b0000700000000330130c0002000002888000015404400510000002000100000000000000000000000000000000000000000000000000000c00c000000054000000000000000000000
theorem execCohRd_ev (ctx : Nat) (atag : Nat) (gfa : Nat) (len : Nat) (s : State) :
    OutEv Fp.execCohRd s (execCohRd ctx atag gfa len s) := by
  unfold execCohRd
  repeat' first
    | with_reducible apply Ev.refl | with_reducible assumption | exact rfl
    | with_reducible apply Ev.seq (cohAccess_ev ..) ?_ ?_ | with_reducible apply OutEv.next | dsimp only | split

def Fp.execCohRdown : Nat := 0x937e3b0000700000000330130c0002000002888000015404400510000002000100000000000000000000000000000000000000000000000000000c00c000000054000000000000000000000
theorem execCohRdown_ev (ctx : Nat) (atag : Nat) (gfa : Nat) (len : Nat) (s : State) :
    OutEv Fp.execCohRdown s (execCohRdown ctx atag gfa len s) := by
  unfold execCohRdown
  repeat' first
    | with_reducible apply Ev.refl | with_reducible assumption | exact rfl
    | with_reducible apply Ev.seq (cohAccess_ev ..) ?_ ?_ | with_reducible apply OutEv.next | dsimp only | split

def Fp.execCohWb : Nat := 0x937e3b0000700000000330130c0002000002888000015404400510000002000100000000000000000000000000000000000000000000000000000c00c000000054000000000000000000000
theorem execCohWb_ev (ctx : Nat) (atag : Nat) (gfa : Nat) (data : List Byte) (s : State) :
    OutEv Fp.execCohWb s (execCohWb ctx atag gfa data s) := by
  unfold execCohWb
  repeat' first
    | with_reducible apply Ev.refl | with_reducible assumption | exact rfl
    | with_reducible apply Ev.seq (newAcc_ev ..) ?_ ?_ | with_reducible apply Ev.seq (putLine_ev ..) ?_ ?_
    | with_reducible apply xqOp_ev _ _ _ _ _ _ _ ?_ (fun _ => ?_) ?_ | with_reducible apply Ev.seq (xrStatus_ev ..) ?_ ?_
    | with_reducible apply Ev.ite ?_ ?_ | with_reducible apply OutEv.next | dsimp only
    | with_reducible refine Ev.ofPair (by assumption) ?_ | split

def Fp.execCohEvict : Nat := 0x93763b0000700000000330130c0002000002888000015404400510000002000100000000000000000000000000000000000000000000000000000c00c000000054000000000000000000000
theorem execCohEvict_ev (ctx : Nat) (atag : Nat) (gfa : Nat) (s : State) :
    OutEv Fp.execCohEvict s (execCohEvict ctx atag gfa s) := by
  unfold execCohEvict
  repeat' first
    | with_reducible apply Ev.refl | with_reducible assumption | exact rfl
    | with_reducible apply Ev.seq (putLine_ev ..) ?_ ?_ | with_reducible apply xqOp_ev _ _ _ _ _ _ _ ?_ (fun _ => ?_) ?_
    | with_reducible apply Ev.seq (xrStatus_ev ..) ?_ ?_ | with_reducible apply Ev.ite ?_ ?_
    | with_reducible apply OutEv.next | dsimp only | with_reducible refine Ev.ofPair (by assumption) ?_ | split

def Fp.execSrAnswer : Nat := 0x93fe3b0000700000000330130c0002000002888000015404400510000000000100000000000000000000000000000000000000000000000000000c00c000000054000000000000000000000
theorem execSrAnswer_ev (stag : Nat) (dirty : Option (List Byte)) (newState : Nat) (wb : Option (Nat × Nat × List Byte)) (s : State) :
    OutEv Fp.execSrAnswer s (execSrAnswer stag dirty newState wb s) := by
  unfold execSrAnswer
  repeat' first
    | with_reducible apply Ev.refl | with_reducible assumption | exact rfl
    | with_reducible apply Ev.seq (settle_ev ..) ?_ ?_ | with_reducible apply Ev.seq (takeSr_ev ..) ?_ ?_
    | with_reducible apply Ev.seq (xrStatus_ev ..) ?_ ?_ | with_reducible apply OutEv.next | dsimp only
    | with_reducible refine Ev.ofPair (by assumption) ?_ | split

def Fp.execAtomicLineWriteback : Nat := 0x13b0000000000000200000000000000000000000000000000000000000000000000000000000000000000000000000000000000000000000000000000000000000000000000000000000
theorem execAtomicLineWriteback_ev (line : Nat) (s : State) :
    OutEv Fp.execAtomicLineWriteback s (execAtomicLineWriteback line s) := by
  unfold execAtomicLineWriteback
  repeat' first
    | with_reducible apply Ev.refl | with_reducible assumption | exact rfl
    | with_reducible apply Ev.seq (releaseLine_ev ..) ?_ ?_ | with_reducible apply OutEv.next | dsimp only | split

def Fp.execPlaneDownWrite : Nat := 0x93763b0000700000000330130c000200028a888000015404400510000000000100000000000000000000000000000000000000000000000000000c00c000000054000000000000000000000
theorem execPlaneDownWrite_ev (path : Path) (plane : Bool) (i : Nat) (value : Word) (s : State) :
    OutEv Fp.execPlaneDownWrite s (execPlaneDownWrite path plane i value s) := by
  unfold execPlaneDownWrite
  repeat' first
    | with_reducible apply Ev.refl | with_reducible assumption | exact rfl | decide | exact fullWord _ (by decide)
    | exact maskedWord (by decide) | exact zeroWord
    | exact fun hz => withBits_mask _ _ _ _ _ (hz _ _ _ _ (by decide)) (by decide)
    | with_reducible apply Ev.seq (setWord_ev _ _ _ _ _ _ ?_ ?_) ?_ ?_
    | with_reducible apply rwl_ev _ _ _ _ _ _ ?_ (fun _ => ?_) ?_ | with_reducible apply Ev.seq (settle_ev ..) ?_ ?_
    | with_reducible apply Ev.seq (settlePlanes_ev ..) ?_ ?_ | with_reducible apply Ev.ite ?_ ?_
    | with_reducible apply OutEv.next | dsimp only | split

end Sys2Proof.Machine
end

