-- ==== Sys2Proof/Laws/EvRequests.lean ====
section
/-! SUPPORT. What the operations of Machine/Requests.lean may touch: one law for each, cited in place of unfolding it. The numbers are
sets of parts (Laws/Frame.lean, `Part.idx`). -/

set_option exponentiation.threshold 1024
set_option linter.unreachableTactic false
set_option linter.unusedTactic false

namespace Sys2Proof.Machine

def Fp.serveRead : Side → Nat
  | .module => 0xf0000f000310130c00020000028880000100044005100000000001000000000000000000000000000000000000000445500000000000000000000054000c00000000000000000
  | .endpoint => 0x3b0000000000000200000000000000000000000000000000000000000000000000000000000000000000000000000000000000000000000000000000000000000000000000000000000
theorem serveRead_ev (sd : Side) (port : Nat) (p : Packet) (addr : Nat) (place : Place) (readMostly : Bool) (again : Bool) (s : State) :
    Ev (Fp.serveRead sd) s (serveRead sd port p addr place readMostly again s) := by
  cases sd <;> (
    unfold serveRead
    repeat' first
      | with_reducible apply Ev.refl | with_reducible assumption | exact rfl
      | with_reducible apply Ev.seq (endAccess_ev ..) ?_ ?_ | with_reducible apply Ev.seq (memLoad_ev ..) ?_ ?_
      | with_reducible apply Ev.seq (moduleApply_ev ..) ?_ ?_ | with_reducible apply Ev.seq (sendResponse_ev ..) ?_ ?_
      | with_reducible apply Ev.seq (submitHome_ev ..) ?_ ?_ | with_reducible apply Ev.ite ?_ ?_ | dsimp only
      | with_reducible refine Ev.ofPair (by assumption) ?_ | contradiction | split)

def Fp.serveWrite : Side → Nat
  | .module => 0xf0000f000310130c00020000028880000100044005100000000001000000000000000000000000000000000000000445500000000000000000000054000c00000000000000000
  | .endpoint => 0x1fb0000000000000200000000000000000000000000000000000000000000000000000000000000000000000000000000000000000000000000000000000000000000000000000000000
theorem serveWrite_ev (sd : Side) (port : Nat) (p : Packet) (addr : Nat) (place : Place) (s : State) :
    Ev (Fp.serveWrite sd) s (serveWrite sd port p addr place s) := by
  cases sd <;> (
    unfold serveWrite
    repeat' first
      | with_reducible apply Ev.refl | with_reducible assumption | exact rfl
      | with_reducible apply Ev.seq (endAccess_ev ..) ?_ ?_ | with_reducible apply Ev.seq (memStore_ev ..) ?_ ?_
      | with_reducible apply Ev.seq (moduleApply_ev ..) ?_ ?_ | with_reducible apply Ev.seq (startJob_ev ..) ?_ ?_
      | with_reducible apply Ev.seq (submitHome_ev ..) ?_ ?_ | with_reducible apply Ev.ite ?_ ?_ | dsimp only
      | with_reducible refine Ev.ofPair (by assumption) ?_ | contradiction | split)

def Fp.answerDuplicate : Side → Nat
  | .module => 0xf0000f000310130c00020000028880000100044005100001540001000000000000000000000000000000000000000445500011554000000000000054000c00000000000000000
  | .endpoint => 0x3b0000100000000200020800020000028880000000000000000002a80000000000000000000000000000000000000000000000000022aa8000000000000000000000000000000000000
theorem answerDuplicate_ev (sd : Side) (port : Nat) (p : Packet) (s : State) :
    Ev (Fp.answerDuplicate sd) s (answerDuplicate sd port p s) := by
  cases sd <;> (
    unfold answerDuplicate
    repeat' first
      | with_reducible apply Ev.refl | with_reducible assumption | exact rfl
      | with_reducible apply Ev.seq (answerReplay_ev ..) ?_ ?_ | with_reducible apply Ev.seq (checkRequest_ev ..) ?_ ?_
      | with_reducible apply Ev.seq (sendNack_ev ..) ?_ ?_ | with_reducible apply Ev.seq (sendResponse_ev ..) ?_ ?_
      | with_reducible apply Ev.seq (serveRead_ev ..) ?_ ?_ | with_reducible apply Ev.ite ?_ ?_ | dsimp only
      | with_reducible refine Ev.ofPair (by assumption) ?_ | contradiction | split)

def Fp.receiveSeq : Side → Nat
  | .module => 0xf0000f000310130c00020000028880000100044005100001550001000000000000000000000000000000000000000445500011554001140000000054600c00000000000000000
  | .endpoint => 0x3b0000100000000220020800020000028880000000000000000002aa0000000000000000000000000000000000000000000000000022aa8002280000000000a00000000000000000000
theorem receiveSeq_ev (sd : Side) (port : Nat) (p : Packet) (s : State) :
    Ev (Fp.receiveSeq sd) s (receiveSeq sd port p s) := by
  cases sd <;> (
    unfold receiveSeq
    repeat' first
      | with_reducible apply Ev.refl | with_reducible assumption | exact rfl
      | with_reducible apply Ev.seq (bump_ev _ _ _ _ ?_) ?_ ?_ | with_reducible apply Ev.seq (onXpt_ev ..) ?_ ?_
      | with_reducible apply Ev.seq (accept_ev ..) ?_ ?_ | with_reducible apply Ev.seq (acceptPacket_ev ..) ?_ ?_
      | with_reducible apply Ev.seq (answerDuplicate_ev ..) ?_ ?_ | with_reducible apply Ev.seq (sendAck_ev ..) ?_ ?_
      | with_reducible apply Ev.seq (sendNack_ev ..) ?_ ?_ | with_reducible apply Ev.ite ?_ ?_ | dsimp only
      | with_reducible refine Ev.ofPair (by assumption) ?_ | contradiction | split)

def Fp.withRequest : Side → Nat
  | .module => 0xf0000f000310130c00020000028880000100044005100001550001000000000000000000000000000000000000000445500011554001140000000054600c00000000000000000
  | .endpoint => 0x3b0000100000000220020800020000028880000000000000000002aa0000000000000000000000000000000000000000000000000022aa8002280000000000a00000000000000000000
theorem withRequest_ev {F : Nat} {s0 : State} (sd : Side) (port : Nat) (p : Packet) (f : State → State) (s : State) (hF : Sub (Fp.withRequest sd) F) (hf : ∀ x, Ev F x (f x)) (h0 : Ev F s0 s) :
    Ev F s0 (withRequest sd port p f s) := by
  cases sd <;> (
    unfold withRequest
    repeat' first
      | with_reducible apply Ev.refl | with_reducible assumption | exact rfl | exact Sub.trans' hF rfl
      | with_reducible apply Ev.seq (hf _) (Sub.refl _) ?_ | with_reducible apply Ev.seq (receiveSeq_ev ..) ?_ ?_
      | with_reducible apply Ev.ite ?_ ?_ | dsimp only | contradiction | split)

def Fp.checkAndServe : Side → Nat
  | .module => 0xf0000f000310130c00020000028880000100044005100001540001000000000000000000000000000000000000000445500000554000000000000054000c00000000000000000
  | .endpoint => 0x1fb0000300000000320030c00020000028880000100004005100002a80001000000000000000000000000000000000000000000000000aa8000000000000000000c00000000000000000
theorem checkAndServe_ev (sd : Side) (port : Nat) (p : Packet) (s : State) :
    Ev (Fp.checkAndServe sd) s (checkAndServe sd port p s) := by
  cases sd <;> (
    unfold checkAndServe
    repeat' first
      | with_reducible apply Ev.refl | with_reducible assumption | exact rfl
      | with_reducible apply Ev.seq (checkRequest_ev ..) ?_ ?_ | with_reducible apply Ev.seq (endAccess_ev ..) ?_ ?_
      | with_reducible apply Ev.seq (serveRead_ev ..) ?_ ?_ | with_reducible apply Ev.seq (serveWrite_ev ..) ?_ ?_
      | with_reducible apply Ev.seq (startWork_ev ..) ?_ ?_ | with_reducible apply Ev.ite ?_ ?_ | dsimp only
      | with_reducible refine Ev.ofPair (by assumption) ?_ | contradiction | split)

def Fp.serveAtomic : Side → Nat
  | .module => 0xf0000f000310130c00020000028880000100044005100001540001000000000000000000000000000000000000000445500004554000000000000054000c00000000000000000
  | .endpoint => 0x1fb0000300000000320030c00020000028880000100004005100002a80001000000000000000000000000000000000000000000000008aa8000000000000000000c00000000000000000
theorem serveAtomic_ev (sd : Side) (port : Nat) (p : Packet) (s : State) :
    Ev (Fp.serveAtomic sd) s (serveAtomic sd port p s) := by
  cases sd <;> (
    unfold serveAtomic
    repeat' first
      | with_reducible apply Ev.refl | with_reducible assumption | exact rfl
      | with_reducible apply Ev.seq (bump_ev _ _ _ _ ?_) ?_ ?_ | with_reducible apply Ev.seq (onXpt_ev ..) ?_ ?_
      | with_reducible apply Ev.seq (checkAndServe_ev ..) ?_ ?_ | with_reducible apply Ev.seq (replayFree_ev ..) ?_ ?_
      | with_reducible apply Ev.seq (replayTake_ev ..) ?_ ?_ | with_reducible apply Ev.seq (sendNack_ev ..) ?_ ?_
      | with_reducible apply Ev.ite ?_ ?_ | dsimp only | contradiction | split)

def Fp.takeRequest : Side → Nat
  | .module => 0x93763b0000f0000f000330130c0002000002888000015404400510000155000100000000000000000000000000000000000000044550001555400d14c000000054600c00000000000000000
  | .endpoint => 0x9377fb0000700000000330130c00020000028880000154044005100002aa000100000000000000000000000000000000000000000000002aaa800e28c000000054a00c00000000000000000
theorem takeRequest_ev (sd : Side) (port : Nat) (p : Packet) (op : BitVec 8) (s : State) :
    Ev (Fp.takeRequest sd) s (takeRequest sd port p op s) := by
  cases sd <;> (
    unfold takeRequest
    repeat' first
      | with_reducible apply Ev.refl | with_reducible assumption | exact rfl
      | with_reducible apply Ev.seq (checkAndServe_ev ..) ?_ ?_ | with_reducible apply Ev.seq (serveAtomic_ev ..) ?_ ?_
      | with_reducible apply Ev.seq (settleBoth_ev ..) ?_ ?_
      | with_reducible apply withRequest_ev _ _ _ _ _ ?_ (fun _ => ?_) ?_ | with_reducible apply Ev.ite ?_ ?_ | dsimp only
      | contradiction | split)

end Sys2Proof.Machine
end

