-- ==== Sys2Proof/Laws/EvEpCmds.lean ====
section
/-! SUPPORT. What the operations of Machine/EpCmds.lean may touch: one law for each, cited in place of unfolding it. The numbers are
sets of parts (Laws/Frame.lean, `Part.idx`). -/

set_option exponentiation.threshold 1024
set_option linter.unreachableTactic false
set_option linter.unusedTactic false

namespace Sys2Proof.Machine

def Fp.jobEnded : Nat := 0x5c00000000300000000320030c000280000288a0000100004005100000000001000000000000000000000000000000000000000000000000000000000000000000000c00000000000000000
theorem jobEnded_ev (s : State) (x : RmwJob × Status) :
    Ev Fp.jobEnded s (jobEnded s x) := by
  unfold jobEnded
  repeat' first
    | with_reducible apply Ev.refl | with_reducible assumption | exact rfl
    | with_reducible apply Ev.seq (endAccess_ev ..) ?_ ?_ | with_reducible apply Ev.seq (segmentDone_ev ..) ?_ ?_
    | with_reducible apply Ev.seq (trigEnds_ev ..) ?_ ?_ | with_reducible apply Ev.ite ?_ ?_ | dsimp only
    | with_reducible refine Ev.ofPair (by assumption) ?_ | split

def Fp.jobsEnded : Nat := 0x5c00000000300000000320030c000280000288a0000100004005100000000001000000000000000000000000000000000000000000000000000000000000000000000c00000000000000000
theorem jobsEnded_ev (r : JobEnds × State) : Ev Fp.jobsEnded r.2 (jobsEnded r) := by
  unfold jobsEnded
  repeat' first
    | with_reducible apply Ev.refl | with_reducible assumption | exact rfl
    | with_reducible apply Ev.seq (jobEnded_ev ..) ?_ ?_ | with_reducible apply Ev.foldl (fun _ _ => ?_) ?_
    | with_reducible apply Ev.foldlSnd (fun _ _ => ?_) ?_ | dsimp only | split

def Fp.loadDone : Nat := 0x300000000320030c00020000028880000100004005100000000001000000000000000000000000000000000000000000000000000000000000000000000c00000000000000000
theorem loadDone_ev (p : Packet) (cacheable : Bool) (again : Bool) (st : Status) (data : List Byte) (s : State) :
    Ev Fp.loadDone s (loadDone p cacheable again st data s) := by
  unfold loadDone
  repeat' first
    | with_reducible apply Ev.refl | with_reducible assumption | exact rfl
    | with_reducible apply Ev.seq (endAccess_ev ..) ?_ ?_ | with_reducible apply Ev.seq (sendResponse_ev ..) ?_ ?_
    | with_reducible apply Ev.ite ?_ ?_ | dsimp only | split

def Fp.dmaDataRead : Nat := 0x100000000220020800020000028880000000000000000000000000000000000000000000000000000000000000000000000000000008008000000000000000000000000000000
theorem dmaDataRead_ev (op : Nat) (st : Status) (data : List Byte) (s : State) :
    Ev Fp.dmaDataRead s (dmaDataRead op st data s) := by
  unfold dmaDataRead
  repeat' first
    | with_reducible apply Ev.refl | with_reducible assumption | exact rfl
    | with_reducible apply Ev.seq (readyOp_ev ..) ?_ ?_ | with_reducible apply Ev.seq (refuseOp_ev ..) ?_ ?_
    | with_reducible apply Ev.ite ?_ ?_ | dsimp only | with_reducible refine Ev.ofPair (by assumption) ?_ | split

def Fp.continueTxn : Nat := 0x1dc01fb0000300000000320030c0002a8000288a0000100004005100000000001000000000000000000000000000000000000000000000000000008008000000000000c00000000000000000
theorem continueTxn_ev (tag : Nat) (timeout : Bool) (c : MemCont) (answers : List (Status × List Byte)) (s : State) :
    Ev Fp.continueTxn s (continueTxn tag timeout c answers s) := by
  unfold continueTxn
  repeat' first
    | with_reducible apply Ev.refl | with_reducible assumption | exact rfl
    | with_reducible apply Ev.seq (dmaDataRead_ev ..) ?_ ?_ | with_reducible apply Ev.seq (dmaPart_ev ..) ?_ ?_
    | with_reducible apply Ev.seq (endAccess_ev ..) ?_ ?_ | with_reducible apply Ev.seq (fetched_ev ..) ?_ ?_
    | with_reducible apply Ev.seq (jobsEnded_ev ..) ?_ ?_ | with_reducible apply Ev.seq (loadDone_ev ..) ?_ ?_
    | with_reducible apply Ev.seq (lockAnswered_ev ..) ?_ ?_ | with_reducible apply Ev.seq (recordWritten_ev ..) ?_ ?_
    | with_reducible apply Ev.seq (residualWritten_ev ..) ?_ ?_ | with_reducible apply Ev.seq (resultWritten_ev ..) ?_ ?_
    | with_reducible apply Ev.seq (segmentDone_ev ..) ?_ ?_ | with_reducible apply Ev.seq (stopQueue_ev ..) ?_ ?_
    | with_reducible apply Ev.seq (takeContribution_ev ..) ?_ ?_ | with_reducible apply Ev.seq (trigData_ev ..) ?_ ?_
    | with_reducible apply Ev.seq (trigEnds_ev ..) ?_ ?_ | with_reducible apply Ev.seq (unlockAnswered_ev ..) ?_ ?_
    | with_reducible apply Ev.ite ?_ ?_ | dsimp only | with_reducible refine Ev.ofPair (by assumption) ?_ | split

def Fp.answerMq : Nat := 0x1df77fb0000700000000330130c0002a8000288a000015404400510000000000100000000000000000000000000000000000000000000000000000c00c000000054000c00000000000000000
theorem answerMq_ev (tag : Nat) (timeout : Bool) (st : Status) (data : List Byte) (s : State) :
    Ev Fp.answerMq s (answerMq tag timeout st data s) := by
  unfold answerMq
  repeat' first
    | with_reducible apply Ev.refl | with_reducible assumption | exact rfl
    | with_reducible apply Ev.seq (continueTxn_ev ..) ?_ ?_ | with_reducible apply Ev.seq (pumpMq_ev ..) ?_ ?_
    | with_reducible apply Ev.seq (settle_ev ..) ?_ ?_ | with_reducible apply Ev.seq (takeAnswer_ev ..) ?_ ?_ | dsimp only
    | with_reducible refine Ev.ofPair (by assumption) ?_ | split

def Fp.execMrAnswer : Nat := 0x1df77ff0000700000000330130c0002a8000288a000015404400510000000000100000000000000000000000000000000000000000000000000000c00c000000054000c00000000000000000
theorem execMrAnswer_ev (half : Nat) (mtag : Nat) (status : Status) (data : List Byte) (s : State) :
    OutEv Fp.execMrAnswer s (execMrAnswer half mtag status data s) := by
  unfold execMrAnswer
  repeat' first
    | with_reducible apply Ev.refl | with_reducible assumption | exact rfl
    | with_reducible apply Ev.seq (onE_ev _ _ ?_) (Sub.refl _) ?_ | with_reducible apply Ev.seq (answerMq_ev ..) ?_ ?_
    | with_reducible apply Ev.seq (pumpMq_ev ..) ?_ ?_ | with_reducible apply Ev.ite ?_ ?_
    | (constructor <;> first | exact .inl rfl | exact .inr rfl | exact rfl | exact fun h => h | exact fun _ => rfl)
    | with_reducible apply OutEv.next | dsimp only | split

def Fp.execMemTimeout : Nat := 0x1df77ff0000700000000330130c0002a8000288a000015404400510000000000100000000000000000000000000000000000000000000000000000c00c000000054000c00000000000000000
theorem execMemTimeout_ev (half : Nat) (mtag : Nat) (s : State) :
    OutEv Fp.execMemTimeout s (execMemTimeout half mtag s) := by
  unfold execMemTimeout
  repeat' first
    | with_reducible apply Ev.refl | with_reducible assumption | exact rfl
    | with_reducible apply Ev.seq (onE_ev _ _ ?_) (Sub.refl _) ?_ | with_reducible apply Ev.seq (answerMq_ev ..) ?_ ?_
    | with_reducible apply Ev.seq (logEvent_ev ..) ?_ ?_
    | with_reducible apply Ev.seq (raiseVector_ev _ _ (by decide)) ?_ ?_ | with_reducible apply Ev.ite ?_ ?_
    | (constructor <;> first | exact .inl rfl | exact .inr rfl | exact rfl | exact fun h => h | exact fun _ => rfl)
    | with_reducible apply OutEv.next | dsimp only | split

def Fp.execFence : Nat := 0x220020000020000028880000000000000000000020000000000000000000000000000000000000000000000000000000000000000000000000000000000000000000
theorem execFence_ev (ctx : Nat) (atag : Nat) (s : State) :
    OutEv Fp.execFence s (execFence ctx atag s) := by
  unfold execFence
  repeat' first
    | with_reducible apply Ev.refl | with_reducible assumption | exact rfl
    | with_reducible apply Ev.seq (onXpt_ev ..) ?_ ?_ | with_reducible apply unlessRetired_ev _ _ _ ?_ (fun _ => ?_) ?_
    | with_reducible apply OutEv.next | dsimp only | split

def Fp.takeFence : Side → Nat
  | .module => 0x700000000110110400000000000000000100044005100000000001000000000000000000000000000000000000000000000000000004004000000054000000000000000000000
  | .endpoint => 0x100000000220020800020000028880000000000000000000000000000000000000000000000000000000000000000000000000000008008000000000000000000000000000000
theorem takeFence_ev (sd : Side) (ctx : Nat) (s : State) (f : Fence) (t : State) (h : takeFence sd ctx s = some (f, t)) :
    Ev (Fp.takeFence sd) s t := by
  unfold takeFence at h
  dsimp only at h
  split at h
  · cases h
  · split at h
    · cases h
    · simp only [Option.some.injEq, Prod.mk.injEq] at h
      obtain ⟨_, rfl⟩ := h
      cases sd <;> (
        repeat' first
          | with_reducible apply Ev.refl | with_reducible assumption | exact rfl
          | with_reducible apply Ev.seq (onXpt_ev ..) ?_ ?_ | with_reducible apply Ev.seq (tryIssue_ev ..) ?_ ?_
          | with_reducible apply Ev.ite ?_ ?_ | with_reducible apply Ev.foldl (fun _ _ => ?_) ?_
          | with_reducible apply Ev.foldlSnd (fun _ _ => ?_) ?_ | dsimp only
          | with_reducible refine Ev.ofPair (by assumption) ?_ | contradiction | split)

def Fp.execDominoSeg : Nat := 0x9377fb0000700000000330130c00020000028880000154044005100002aa0001000000000000000000000000000000000000000000000022aa800e28c000000054a00000000000000000000
theorem execDominoSeg_ev (port : Nat) (p : Packet) (s : State) :
    OutEv Fp.execDominoSeg s (execDominoSeg port p s) := by
  unfold execDominoSeg
  repeat' first
    | with_reducible apply Ev.refl | with_reducible assumption | exact rfl
    | with_reducible apply Ev.seq (applySegment_ev ..) ?_ ?_ | with_reducible apply Ev.seq (checkRequest_ev ..) ?_ ?_
    | with_reducible apply Ev.seq (refuseSegment_ev ..) ?_ ?_ | with_reducible apply Ev.seq (settle_ev ..) ?_ ?_
    | with_reducible apply withRequest_ev _ _ _ _ _ ?_ (fun _ => ?_) ?_ | with_reducible apply Ev.ite ?_ ?_
    | with_reducible apply OutEv.next | dsimp only | with_reducible refine Ev.ofPair (by assumption) ?_ | split

def Fp.execTrigPost : Nat := 0x2c00000000000000000200000000000000000020000000000000000000000000000000000000000000000000000000000000000000000000000000000000000000000000000000000000000
theorem execTrigPost_ev (ctx : Nat) (atag : Nat) (data : List Byte) (s : State) :
    OutEv Fp.execTrigPost s (execTrigPost ctx atag data s) := by
  unfold execTrigPost
  repeat' first
    | with_reducible apply Ev.refl | with_reducible assumption | exact rfl
    | with_reducible apply Ev.seq (postTrig_ev ..) ?_ ?_ | with_reducible apply Ev.seq (xrStatus_ev ..) ?_ ?_
    | with_reducible apply OutEv.next | dsimp only | split

def Fp.execTriggeredOpFire : Nat := 0x9b763b0000700000000330130c0002000002888000015404400510000000000100000000000000000000000000000000000000000000000000000c00c000000054000000000000000000000
theorem execTriggeredOpFire_ev (s : State) :
    OutEv Fp.execTriggeredOpFire s (execTriggeredOpFire s) := by
  unfold execTriggeredOpFire
  repeat' first
    | with_reducible apply Ev.refl | with_reducible assumption | exact rfl
    | with_reducible apply Ev.seq (fireTrig_ev ..) ?_ ?_ | with_reducible apply Ev.seq (settle_ev ..) ?_ ?_
    | with_reducible apply OutEv.next | dsimp only | split

def Fp.execTriggeredOpComplete : Nat := 0x1c000000000000000002000200000280000288a0000000000000000000000000000000000000000000000000000000000000000000000000000000000000000000000000000000000000000
theorem execTriggeredOpComplete_ev (s : State) :
    OutEv Fp.execTriggeredOpComplete s (execTriggeredOpComplete s) := by
  unfold execTriggeredOpComplete
  repeat' first
    | with_reducible apply Ev.refl | with_reducible assumption | exact rfl
    | with_reducible apply Ev.seq (completeTrig_ev ..) ?_ ?_ | with_reducible apply OutEv.next | dsimp only
    | with_reducible refine Ev.ofPair (by assumption) ?_ | split

def Fp.execDomCtrWrite : Nat := 0x4c00000000000000000000000000008000000020000000000000000000000000000000000000000000000000000000000000000000000000000000000000000000000000000000000000000
theorem execDomCtrWrite_ev (n : Nat) (value : Nat) (s : State) :
    OutEv Fp.execDomCtrWrite s (execDomCtrWrite n value s) := by
  unfold execDomCtrWrite
  repeat' first
    | with_reducible apply Ev.refl | with_reducible assumption | exact rfl
    | with_reducible apply Ev.seq (domPending_ev ..) ?_ ?_ | with_reducible apply Ev.seq (domWrite_ev ..) ?_ ?_
    | with_reducible apply OutEv.next | dsimp only | split

def Fp.pumpEpQueue : Nat := 0x80003b0000000000000200000000000000000000000000000000000000000000000000000000000000000000000000000000000000000000000000000000000000000000000000000000000
theorem pumpEpQueue_ev (q : Nat) (s : State) :
    Ev Fp.pumpEpQueue s (pumpEpQueue q s) := by
  unfold pumpEpQueue
  repeat' first
    | with_reducible apply Ev.refl | with_reducible assumption | exact rfl
    | with_reducible apply Ev.seq (fetchNext_ev ..) ?_ ?_ | dsimp only | split

def Fp.execDmaDoorbell : Nat := 0x80003b0000000000000200000000002800000000000000000000000000000000000000000000000000000000000000000000000000000000000000000000000000000000000000000000000
theorem execDmaDoorbell_ev (q : Nat) (tail : Nat) (s : State) :
    OutEv Fp.execDmaDoorbell s (execDmaDoorbell q tail s) := by
  unfold execDmaDoorbell
  repeat' first
    | with_reducible apply Ev.refl | with_reducible assumption | exact rfl
    | with_reducible apply Ev.seq (pumpEpQueue_ev ..) ?_ ?_ | with_reducible apply Ev.seq (qwr_ev _ _ _ _ ?_ ?_ ?_) ?_ ?_
    | with_reducible apply OutEv.next | dsimp only | split

def Fp.execDmaDescriptor : Nat := 0x93763b0000700000000330130c0002280002888000015404400510000000000100000000000000000000000000000000000000000000000000000c00c000000054000000000000000000000
theorem execDmaDescriptor_ev (q : Nat) (s : State) :
    OutEv Fp.execDmaDescriptor s (execDmaDescriptor q s) := by
  unfold execDmaDescriptor
  repeat' first
    | with_reducible apply Ev.refl | with_reducible assumption | exact rfl
    | with_reducible apply Ev.seq (settle_ev ..) ?_ ?_ | with_reducible apply Ev.seq (startNextDma_ev ..) ?_ ?_
    | with_reducible apply Ev.ite ?_ ?_ | with_reducible apply OutEv.next | dsimp only | split

def Fp.execDmaDescriptorDone : Nat := 0x80003b0000000000000200000000002800000080000000000000000000000000000000000000000000000000000000000000000000000000000000000000000000000000000000000000000
theorem execDmaDescriptorDone_ev (q : Nat) (s : State) :
    OutEv Fp.execDmaDescriptorDone s (execDmaDescriptorDone q s) := by
  unfold execDmaDescriptorDone
  repeat' first
    | with_reducible apply Ev.refl | with_reducible assumption | exact rfl
    | with_reducible apply Ev.seq (completeDma_ev ..) ?_ ?_ | with_reducible apply Ev.ite ?_ ?_
    | with_reducible apply OutEv.next | dsimp only | with_reducible refine Ev.ofPair (by assumption) ?_ | split

def Fp.execQueueFetchFail : Nat := 0x8000000000000000000200000000002800000080000000000000000000000000000000000000000000000000000000000000000000000000000000000000000000000000000000000000000
theorem execQueueFetchFail_ev (q : Nat) (s : State) :
    OutEv Fp.execQueueFetchFail s (execQueueFetchFail q s) := by
  unfold execQueueFetchFail
  repeat' first
    | with_reducible apply Ev.refl | with_reducible assumption | exact rfl
    | with_reducible apply Ev.seq (onQueue_ev ..) ?_ ?_ | with_reducible apply Ev.seq (stopQueue_ev ..) ?_ ?_
    | with_reducible apply OutEv.next | dsimp only | with_reducible refine Ev.ofPair (by assumption) ?_ | split

end Sys2Proof.Machine
end

