-- ==== Sys2Proof/Laws/EvEngines.lean ====
section
/-! SUPPORT. What the operations of Machine/Engines.lean may touch: one law for each, cited in place of unfolding it. The numbers are
sets of parts (Laws/Frame.lean, `Part.idx`). -/

set_option exponentiation.threshold 1024
set_option linter.unreachableTactic false
set_option linter.unusedTactic false

namespace Sys2Proof.Machine

def Fp.execMove : Nat := 0x1000093763b0001708c0f000330130c0002000002888000015404400510000000000100000000000000005100111000000000000000000400000000000c00c000000054000000000000000000000
theorem execMove_ev (q : Nat) (host : List Byte) (s : State) :
    OutEv Fp.execMove s (execMove q host s) := by
  unfold execMove
  repeat' first
    | with_reducible apply Ev.refl | with_reducible assumption | exact rfl
    | with_reducible apply Ev.seq (engineStep_ev ..) ?_ ?_ | with_reducible apply OutEv.next | dsimp only | split

def Fp.execFill : Nat := 0x1000093763b0001708c0f000330130c0002000002888000015404400510000000000100000000000000005100111000000000000000000400000000000c00c000000054000000000000000000000
theorem execFill_ev (q : Nat) (s : State) :
    OutEv Fp.execFill s (execFill q s) := by
  unfold execFill
  repeat' first
    | with_reducible apply Ev.refl | with_reducible assumption | exact rfl
    | with_reducible apply Ev.seq (engineStep_ev ..) ?_ ?_ | with_reducible apply OutEv.next | dsimp only | split

def Fp.execWriteImm : Nat := 0x1000093763b0001708c0f000330130c0002000002888000015404400510000000000100000000000000005100111000000000000000000400000000000c00c000000054000000000000000000000
theorem execWriteImm_ev (q : Nat) (s : State) :
    OutEv Fp.execWriteImm s (execWriteImm q s) := by
  unfold execWriteImm
  repeat' first
    | with_reducible apply Ev.refl | with_reducible assumption | exact rfl
    | with_reducible apply Ev.seq (engineStep_ev ..) ?_ ?_ | with_reducible apply OutEv.next | dsimp only | split

def Fp.execCtaLoadB : Nat := 0x1000093763b0001708c0f000330130c0002000002888000015404400510000000000100000000000000005100111000000000000000000400000000000c00c000000054000000000000000000000
theorem execCtaLoadB_ev (q : Nat) (host : List Byte) (s : State) :
    OutEv Fp.execCtaLoadB s (execCtaLoadB q host s) := by
  unfold execCtaLoadB
  repeat' first
    | with_reducible apply Ev.refl | with_reducible assumption | exact rfl
    | with_reducible apply Ev.seq (engineStep_ev ..) ?_ ?_ | with_reducible apply OutEv.next | dsimp only | split

def Fp.execCtaMatmul : Nat := 0x1000093763b0001708c0f000330130c0002000002888000015404400510000000000100000000000000005100111000000000000000000400000000000c00c000000054000000000000000000000
theorem execCtaMatmul_ev (q : Nat) (host : List Byte) (s : State) :
    OutEv Fp.execCtaMatmul s (execCtaMatmul q host s) := by
  unfold execCtaMatmul
  repeat' first
    | with_reducible apply Ev.refl | with_reducible assumption | exact rfl
    | with_reducible apply Ev.seq (engineStep_ev ..) ?_ ?_ | with_reducible apply OutEv.next | dsimp only | split

def Fp.execCommandComplete : Nat := 0x10000000000000170840f000110110400000000000000000100044005100000000001000000000000000000154000000000000000000004000000000004004000000054000000000000000000000
theorem execCommandComplete_ev (q : Nat) (refused : Bool) (s : State) :
    OutEv Fp.execCommandComplete s (execCommandComplete q refused s) := by
  unfold execCommandComplete
  repeat' first
    | with_reducible apply Ev.refl | with_reducible assumption | exact rfl
    | with_reducible apply Ev.seq (completeCmd_ev ..) ?_ ?_ | with_reducible apply Ev.seq (takePieces_ev ..) ?_ ?_
    | with_reducible apply Ev.ite ?_ ?_ | with_reducible apply OutEv.next | dsimp only
    | with_reducible refine Ev.ofPair (by assumption) ?_ | split

def Fp.spreadAnswer : Nat := 0x201c00000110010000000000000000000100004005100000000001000000000000044041001000000000000000000000000000000000000000000000000000000000000000000
theorem spreadAnswer_ev (pasid : Nat) (x : Xlat) (s : State) :
    Ev Fp.spreadAnswer s (spreadAnswer pasid x s) := by
  unfold spreadAnswer
  repeat' first
    | with_reducible apply Ev.refl | with_reducible assumption | exact rfl
    | with_reducible apply Ev.seq (faultCheck_ev ..) ?_ ?_ | with_reducible apply Ev.seq (fillL1_ev ..) ?_ ?_
    | with_reducible apply Ev.seq (onFront_ev ..) ?_ ?_ | with_reducible apply Ev.seq (pupLooked_ev ..) ?_ ?_
    | with_reducible apply Ev.ite ?_ ?_ | with_reducible apply Ev.foldl (fun _ _ => ?_) ?_
    | with_reducible apply Ev.foldlSnd (fun _ _ => ?_) ?_ | dsimp only | with_reducible refine Ev.ofPair (by assumption) ?_
    | split

def Fp.execAtsTranslationCompletion : Nat := 0x201c00000110010000000000000000000100004005100000000001000000000000044051001000000000000000000000000000000000000000000000000000000000000000000
theorem execAtsTranslationCompletion_ev (pasid : Nat) (page : Nat) (size : Nat) (read : Bool) (write : Bool) (s : State) :
    OutEv Fp.execAtsTranslationCompletion s (execAtsTranslationCompletion pasid page size read write s) := by
  unfold execAtsTranslationCompletion
  repeat' first
    | with_reducible apply Ev.refl | with_reducible assumption | exact rfl
    | with_reducible apply Ev.seq (fillL2_ev ..) ?_ ?_ | with_reducible apply Ev.seq (onAts_ev ..) ?_ ?_
    | with_reducible apply Ev.seq (sendAsk_ev ..) ?_ ?_ | with_reducible apply Ev.seq (spreadAnswer_ev ..) ?_ ?_
    | with_reducible apply Ev.seq (takeAsk_ev ..) ?_ ?_ | with_reducible apply Ev.ite ?_ ?_
    | with_reducible apply OutEv.next | dsimp only | with_reducible refine Ev.ofPair (by assumption) ?_ | split

def Fp.translationTimeout : Nat := 0x201c00000110010000000000000000000100004005100000000001000000000000044041001000000000000000000000000000000000000000000000000000000000000000000
theorem translationTimeout_ev (pasid : Nat) (page : Nat) (s : State) :
    Ev Fp.translationTimeout s (translationTimeout pasid page s) := by
  unfold translationTimeout
  repeat' first
    | with_reducible apply Ev.refl | with_reducible assumption | exact rfl
    | with_reducible apply Ev.seq (faultCheck_ev ..) ?_ ?_ | with_reducible apply Ev.seq (onFront_ev ..) ?_ ?_
    | with_reducible apply Ev.seq (pupLooked_ev ..) ?_ ?_ | with_reducible apply Ev.seq (takeAsk_ev ..) ?_ ?_
    | with_reducible apply Ev.ite ?_ ?_ | with_reducible apply Ev.foldl (fun _ _ => ?_) ?_
    | with_reducible apply Ev.foldlSnd (fun _ _ => ?_) ?_ | dsimp only | with_reducible refine Ev.ofPair (by assumption) ?_
    | split

def Fp.execPageRequestResponse : Nat := 0x201800000110010000000000000000000100004005100000000001000000000000044151000000000000000000000000000000000000000000000000000000000000000000000
theorem execPageRequestResponse_ev (group : Nat) (success : Bool) (s : State) :
    OutEv Fp.execPageRequestResponse s (execPageRequestResponse group success s) := by
  unfold execPageRequestResponse
  repeat' first
    | with_reducible apply Ev.refl | with_reducible assumption | exact rfl
    | with_reducible apply Ev.seq (bump_ev _ _ _ _ ?_) ?_ ?_ | with_reducible apply Ev.seq (notePr_ev ..) ?_ ?_
    | with_reducible apply Ev.seq (onAts_ev ..) ?_ ?_ | with_reducible apply Ev.seq (pupFault_ev ..) ?_ ?_
    | with_reducible apply Ev.seq (pupLookup_ev ..) ?_ ?_ | with_reducible apply Ev.seq (raiseSource_ev ..) ?_ ?_
    | with_reducible apply Ev.ite ?_ ?_ | with_reducible apply OutEv.next | dsimp only
    | with_reducible refine Ev.ofPair (by assumption) ?_ | split

def Fp.execAtsInvalidate : Nat := 0xc00000000000000000000000000000000000000000000000000000000000000000001000000000000000000000000000000000000000000000000000000000000000000000
theorem execAtsInvalidate_ev (itag : Nat) (pasid : Option Nat) (lo : Nat) (hi : Nat) (s : State) :
    OutEv Fp.execAtsInvalidate s (execAtsInvalidate itag pasid lo hi s) := by
  unfold execAtsInvalidate
  repeat' first
    | with_reducible apply Ev.refl | with_reducible assumption | exact rfl
    | with_reducible apply Ev.seq (dropLookups_ev ..) ?_ ?_ | with_reducible apply Ev.seq (keepXlats_ev ..) ?_ ?_
    | with_reducible apply Ev.seq (noteInv_ev ..) ?_ ?_ | with_reducible apply Ev.seq (onAts_ev ..) ?_ ?_
    | with_reducible apply Ev.ite ?_ ?_ | with_reducible apply OutEv.next | dsimp only | split

def Fp.execInvalidateDrained : Nat := 0x200800000100010000000000000000000100004005100000000001000000000000000401000000000000000000000000000000000000000000000000000000000000000000000
theorem execInvalidateDrained_ev (itag : Nat) (s : State) :
    OutEv Fp.execInvalidateDrained s (execInvalidateDrained itag s) := by
  unfold execInvalidateDrained
  repeat' first
    | with_reducible apply Ev.refl | with_reducible assumption | exact rfl
    | with_reducible apply Ev.seq (completeInval_ev ..) ?_ ?_ | with_reducible apply Ev.ite ?_ ?_
    | with_reducible apply OutEv.next | dsimp only | with_reducible refine Ev.ofPair (by assumption) ?_ | split

def Fp.execInvalidateBound : Nat := 0x201c00000110010000000000000000000100004005100000000001000000000000045401000000000000000000000000000000000000000000000000000000000000000000000
theorem execInvalidateBound_ev (itag : Nat) (s : State) :
    OutEv Fp.execInvalidateBound s (execInvalidateBound itag s) := by
  unfold execInvalidateBound
  repeat' first
    | with_reducible apply Ev.refl | with_reducible assumption | exact rfl
    | with_reducible apply Ev.seq (bump_ev _ _ _ _ ?_) ?_ ?_ | with_reducible apply Ev.seq (abortCmd_ev ..) ?_ ?_
    | with_reducible apply Ev.seq (completeInval_ev ..) ?_ ?_ | with_reducible apply Ev.seq (pupFault_ev ..) ?_ ?_
    | with_reducible apply Ev.seq (raiseSource_ev ..) ?_ ?_ | with_reducible apply Ev.ite ?_ ?_
    | with_reducible apply Ev.foldl (fun _ _ => ?_) ?_ | with_reducible apply Ev.foldlSnd (fun _ _ => ?_) ?_
    | with_reducible apply OutEv.next | dsimp only | with_reducible refine Ev.ofPair (by assumption) ?_ | split

def Fp.execAtsFlush : Nat := 0x800000000000000000000000000000000000000000000000000000000000000000000000000000000000000000000000000000000000000000000000000000000000000000
theorem execAtsFlush_ev (_path : Path) (s : State) :
    OutEv Fp.execAtsFlush s (execAtsFlush _path s) := by
  unfold execAtsFlush
  repeat' first
    | with_reducible apply Ev.refl | with_reducible assumption | exact rfl
    | with_reducible apply Ev.seq (keepXlats_ev ..) ?_ ?_ | with_reducible apply OutEv.next | dsimp only | split

def Fp.execPuppetLoad : Nat := 0x1000093763b000070b80f000330130c0002000002888000015404400510000000000100000000000004405100000000000000000000000400000000000c00c000000054000000000000000000000
theorem execPuppetLoad_ev (core : Nat) (thread : Nat) (pc : Nat) (addr : Nat) (size : Nat) (pfeid : Word) (s : State) :
    OutEv Fp.execPuppetLoad s (execPuppetLoad core thread pc addr size pfeid s) := by
  unfold execPuppetLoad
  repeat' first
    | with_reducible apply Ev.refl | with_reducible assumption | exact rfl
    | with_reducible apply Ev.seq (pupAccess_ev ..) ?_ ?_ | with_reducible apply Ev.seq (settle_ev ..) ?_ ?_
    | with_reducible apply OutEv.next | dsimp only | split

def Fp.execPuppetStore : Nat := 0x1000093763b000070b80f000330130c0002000002888000015404400510000000000100000000000004405100000000000000000000000400000000000c00c000000054000000000000000000000
theorem execPuppetStore_ev (core : Nat) (thread : Nat) (pc : Nat) (addr : Nat) (data : List Byte) (pfeid : Word) (s : State) :
    OutEv Fp.execPuppetStore s (execPuppetStore core thread pc addr data pfeid s) := by
  unfold execPuppetStore
  repeat' first
    | with_reducible apply Ev.refl | with_reducible assumption | exact rfl
    | with_reducible apply Ev.seq (pupAccess_ev ..) ?_ ?_ | with_reducible apply Ev.seq (settle_ev ..) ?_ ?_
    | with_reducible apply OutEv.next | dsimp only | split

def Fp.execPuppetLrAq : Nat := 0x1000093763b000070b80f000330130c0002000002888000015404400510000000000100000000000004405100000000000000000000000400000000000c00c000000054000000000000000000000
theorem execPuppetLrAq_ev (core : Nat) (thread : Nat) (pc : Nat) (addr : Nat) (size : Nat) (pfeid : Word) (s : State) :
    OutEv Fp.execPuppetLrAq s (execPuppetLrAq core thread pc addr size pfeid s) := by
  unfold execPuppetLrAq
  repeat' first
    | with_reducible apply Ev.refl | with_reducible assumption | exact rfl
    | with_reducible apply Ev.seq (pupAccess_ev ..) ?_ ?_ | with_reducible apply Ev.seq (settle_ev ..) ?_ ?_
    | with_reducible apply OutEv.next | dsimp only | split

def Fp.execPuppetSc : Nat := 0x1000000000000000000000000000000000000000000000000000000000000000000000000000000000000000000000000000000000000000000000000000000000000000000
theorem execPuppetSc_ev (core : Nat) (thread : Nat) (s : State) :
    OutEv Fp.execPuppetSc s (execPuppetSc core thread s) := by
  unfold execPuppetSc
  repeat' first
    | with_reducible apply Ev.refl | with_reducible assumption | exact rfl
    | with_reducible apply Ev.seq (onThread_ev ..) ?_ ?_ | with_reducible apply Ev.ite ?_ ?_
    | with_reducible apply OutEv.next | dsimp only | split

def Fp.execPuppetAmo : Nat := 0x1000093763b000070b80f000330130c0002000002888000015404400510000000000100000000000004405100000000000000000000000400000000000c00c000000054000000000000000000000
theorem execPuppetAmo_ev (core : Nat) (thread : Nat) (pc : Nat) (addr : Nat) (op : Nat) (data : List Byte) (rl : Bool) (rdZero : Bool) (pfeid : Word) (s : State) :
    OutEv Fp.execPuppetAmo s (execPuppetAmo core thread pc addr op data rl rdZero pfeid s) := by
  unfold execPuppetAmo
  repeat' first
    | with_reducible apply Ev.refl | with_reducible assumption | exact rfl
    | with_reducible apply Ev.seq (pupAccess_ev ..) ?_ ?_ | with_reducible apply Ev.seq (settle_ev ..) ?_ ?_
    | with_reducible apply Ev.ite ?_ ?_ | with_reducible apply OutEv.next | dsimp only | split

def Fp.execPcas : Nat := 0x1000093763b000070b80f000330130c0002000002888000015404400510000000000100000000000004405100000000000000000000000400000000000c00c000000054000000000000000000000
theorem execPcas_ev (core : Nat) (thread : Nat) (pc : Nat) (addr : Nat) (size : Nat) (swap : List Byte) (pcmp : Word) (pfeid : Word) (s : State) :
    OutEv Fp.execPcas s (execPcas core thread pc addr size swap pcmp pfeid s) := by
  unfold execPcas
  repeat' first
    | with_reducible apply Ev.refl | with_reducible assumption | exact rfl
    | with_reducible apply Ev.seq (onThread_ev ..) ?_ ?_ | with_reducible apply Ev.seq (pupAccess_ev ..) ?_ ?_
    | with_reducible apply Ev.seq (settle_ev ..) ?_ ?_ | with_reducible apply Ev.ite ?_ ?_
    | with_reducible apply OutEv.next | dsimp only | split

def Fp.execPuppetFence : Nat := 0x1000000010000000000000000000000000000000000000000000000000000000000000000000000000000000000000000000000000000000000000000000000000000000000
theorem execPuppetFence_ev (core : Nat) (thread : Nat) (s : State) :
    OutEv Fp.execPuppetFence s (execPuppetFence core thread s) := by
  unfold execPuppetFence
  repeat' first
    | with_reducible apply Ev.refl | with_reducible assumption | exact rfl
    | with_reducible apply Ev.seq (onXpt_ev ..) ?_ ?_ | with_reducible apply Ev.seq (drainThread_ev ..) ?_ ?_
    | with_reducible apply Ev.seq (onThread_ev ..) ?_ ?_ | with_reducible apply Ev.ite ?_ ?_
    | with_reducible apply OutEv.next | dsimp only | split

def Fp.execPuppetAccessDone : Nat := 0x1000093763b000070b80f000330130c0002000002888000015404400510000000000100000000000004405100000000000000000000000400000000000c00c000000054000000000000000000000
theorem execPuppetAccessDone_ev (core : Nat) (thread : Nat) (host : List Byte) (s : State) :
    OutEv Fp.execPuppetAccessDone s (execPuppetAccessDone core thread host s) := by
  unfold execPuppetAccessDone
  repeat' first
    | with_reducible apply Ev.refl | with_reducible assumption | exact rfl
    | with_reducible apply Ev.seq (pupResume_ev ..) ?_ ?_ | with_reducible apply Ev.seq (settle_ev ..) ?_ ?_
    | with_reducible apply OutEv.next | dsimp only | split

def Fp.execFenceComplete : Side → Nat
  | .module => 0x93763b0000703000000330130c0002000002888000015404400510000000000100000000000000000000000000000000000000000000000000000c00c000000054000000000000000000000
  | .endpoint => 0x93763b0000700000000330130c0002000002888000015404400510000000000100000000000000000000000000000000000000000000000000000c00c000000054000000000000000000000
theorem execFenceComplete_ev (sd : Side) (ctx : Nat) (s : State) :
    OutEv (Fp.execFenceComplete sd) s (execFenceComplete sd ctx s) := by
  cases sd <;> (
    unfold execFenceComplete
    repeat' first
      | with_reducible apply Ev.refl | with_reducible assumption | exact rfl
      | with_reducible apply Ev.seq (drainThread_ev ..) ?_ ?_ | with_reducible apply Ev.seq (dropDcache_ev ..) ?_ ?_
      | with_reducible apply Ev.seq (onThread_ev ..) ?_ ?_ | with_reducible apply Ev.seq (settle_ev ..) ?_ ?_
      | with_reducible apply Ev.seq (takeFence_ev _ _ _ _ _ (by assumption)) ?_ ?_
      | with_reducible apply Ev.seq (xrStatus_ev ..) ?_ ?_ | with_reducible apply OutEv.next | dsimp only
      | with_reducible refine Ev.ofPair (by assumption) ?_ | contradiction | split)

def Fp.execPuppetExit : Nat := 0x201000000110000000000000000000000100000000000000000000000000000000044000000000000000000000000000000000000000000000000000000000000000000000000
theorem execPuppetExit_ev (core : Nat) (thread : Nat) (s : State) :
    OutEv Fp.execPuppetExit s (execPuppetExit core thread s) := by
  unfold execPuppetExit
  repeat' first
    | with_reducible apply Ev.refl | with_reducible assumption | exact rfl
    | with_reducible apply Ev.seq (endProgram_ev ..) ?_ ?_ | with_reducible apply Ev.ite ?_ ?_
    | with_reducible apply OutEv.next | dsimp only | with_reducible refine Ev.ofPair (by assumption) ?_ | split

def Fp.execPupLoad : Nat := 0x207000000100010000000000000000000100004005101000000000000000000000044000000000000000000000000000000000000000000000000000000000000000000000000
theorem execPupLoad_ev (_path : Path) (value : Word) (grant : Grant) (s : State) :
    OutEv Fp.execPupLoad s (execPupLoad _path value grant s) := by
  unfold execPupLoad
  repeat' first
    | with_reducible apply Ev.refl | with_reducible assumption | exact rfl
    | with_reducible apply Ev.seq (loadProgram_ev ..) ?_ ?_ | with_reducible apply Ev.seq (regAccess_ev ..) ?_ ?_
    | with_reducible apply Ev.ite ?_ ?_ | with_reducible apply OutEv.next | dsimp only | split

def Fp.execPupKill : Nat := 0x201000000110000000000000000000000100000000000000000000000000000000044000000000000000000000000000000000000000000000000000000000000000000000000
theorem execPupKill_ev (_path : Path) (slot : Nat) (s : State) :
    OutEv Fp.execPupKill s (execPupKill _path slot s) := by
  unfold execPupKill
  repeat' first
    | with_reducible apply Ev.refl | with_reducible assumption | exact rfl
    | with_reducible apply Ev.seq (endProgram_ev ..) ?_ ?_ | with_reducible apply OutEv.next | dsimp only | split

def Fp.msgChecks : Nat := 0x200000000100010000000000000000000100004005100001440001000000000000000000000000000000000000000000000000000000000000000000000000000000000000000
theorem msgChecks_ev (p : Packet) (room : Option Nat) (s : State) :
    Ev Fp.msgChecks s (msgChecks p room s).2 := by
  unfold msgChecks
  repeat' first
    | with_reducible apply Ev.refl | with_reducible assumption | exact rfl
    | with_reducible apply Ev.seq (openRequest_ev ..) ?_ ?_ | with_reducible apply Ev.ite ?_ ?_ | dsimp only
    | with_reducible refine Ev.ofPair (by assumption) ?_ | split

def Fp.execPuppetMsg : Nat := 0x93763b0000f0800f000330130c0002000002888000015404400510000155000100000000000000000000000000000000000000044550001155400d14c000000054600c00000000000000000
theorem execPuppetMsg_ev (port : Nat) (p : Packet) (room : Option Nat) (s : State) :
    OutEv Fp.execPuppetMsg s (execPuppetMsg port p room s) := by
  unfold execPuppetMsg
  repeat' first
    | with_reducible apply Ev.refl | with_reducible assumption | exact rfl
    | with_reducible apply Ev.seq (onEng_ev _ _ ?_) (Sub.refl _) ?_ | with_reducible apply Ev.seq (onXpt_ev ..) ?_ ?_
    | with_reducible apply Ev.seq (deliver_ev ..) ?_ ?_ | with_reducible apply Ev.seq (msgChecks_ev ..) ?_ ?_
    | with_reducible apply Ev.seq (sendNack_ev ..) ?_ ?_ | with_reducible apply Ev.seq (settle_ev ..) ?_ ?_
    | with_reducible apply withRequest_ev _ _ _ _ _ ?_ (fun _ => ?_) ?_ | with_reducible apply Ev.ite ?_ ?_
    | (constructor <;> first | exact .inl rfl | exact fun h => memWrite_wf _ _ _ h | exact fun h => memWrite_wf _ _ _ (memWrite_wf _ _ _ h) | exact .inr rfl | exact rfl | exact fun h => h | exact fun _ => rfl)
    | with_reducible apply OutEv.next | dsimp only | with_reducible refine Ev.ofPair (by assumption) ?_ | split

end Sys2Proof.Machine
end

