-- ==== Sys2Proof/Laws/EvHostPort.lean ====
section
/-! SUPPORT. What the operations of Machine/HostPort.lean may touch: one law for each, cited in place of unfolding it. The numbers are
sets of parts (Laws/Frame.lean, `Part.idx`). -/

set_option exponentiation.threshold 1024
set_option linter.unreachableTactic false
set_option linter.unusedTactic false

namespace Sys2Proof.Machine

def Fp.execApertureRead : Nat := 0x93763b0000700000000330130c0002000002888000015404400510000000000100000000000000000000000000000000000000000000000000000c00c000000054000000000000000000000
theorem execApertureRead_ev (off : Nat) (len : Nat) (s : State) :
    OutEv Fp.execApertureRead s (execApertureRead off len s) := by
  unfold execApertureRead
  repeat' first
    | with_reducible apply Ev.refl | with_reducible assumption | exact rfl | with_reducible apply Ev.seq (emit_ev ..) ?_ ?_
    | with_reducible apply Ev.seq (newApt_ev ..) ?_ ?_ | with_reducible apply Ev.seq (settle_ev ..) ?_ ?_
    | with_reducible apply Ev.ite ?_ ?_ | with_reducible apply OutEv.next | dsimp only | split

def Fp.execApertureWrite : Nat := 0x93763b0000700000000330130c0002000002888000015404400510000000000100000000000000000000000000000000000000000000000000000c00c000000054000000000000000000000
theorem execApertureWrite_ev (off : Nat) (data : List Byte) (s : State) :
    OutEv Fp.execApertureWrite s (execApertureWrite off data s) := by
  unfold execApertureWrite
  repeat' first
    | with_reducible apply Ev.refl | with_reducible assumption | exact rfl
    | with_reducible apply Ev.seq (newApt_ev ..) ?_ ?_ | with_reducible apply Ev.seq (settle_ev ..) ?_ ?_
    | with_reducible apply Ev.ite ?_ ?_ | with_reducible apply OutEv.next | dsimp only | split

def Fp.execQueueDoorbell : Nat := 0x200400000100000000000000000000000100000000000000000000000000000000000000500000000000000000000000000000000000000000000000000000000000000000000
theorem execQueueDoorbell_ev (q : Nat) (tail : Nat) (s : State) :
    OutEv Fp.execQueueDoorbell s (execQueueDoorbell q tail s) := by
  unfold execQueueDoorbell
  repeat' first
    | with_reducible apply Ev.refl | with_reducible assumption | exact rfl
    | with_reducible apply Ev.seq (ringDoorbell_ev ..) ?_ ?_ | with_reducible apply OutEv.next | dsimp only | split

def Fp.writeChead : Nat := 0x400000100000000000000000000000000000000000000000000000000000000000000400000000000000000000000000000000000000000000000000000000000000000000
theorem writeChead_ev (q : Nat) (v : Nat) (s : State) :
    Ev Fp.writeChead s (writeChead q v s) := by
  unfold writeChead
  repeat' first
    | with_reducible apply Ev.refl | with_reducible assumption | exact rfl
    | with_reducible apply Ev.seq (wr_ev _ _ _ _ _ ?_) ?_ ?_ | with_reducible apply Ev.seq (pumpRing_ev ..) ?_ ?_
    | dsimp only | split

def Fp.execCheadWrite : Nat := 0x400000100000000000000000000000000000000000000000000000000000000000000400000000000000000000000000000000000000000000000000000000000000000000
theorem execCheadWrite_ev (q : Nat) (chead : Nat) (s : State) :
    OutEv Fp.execCheadWrite s (execCheadWrite q chead s) := by
  unfold execCheadWrite
  repeat' first
    | with_reducible apply Ev.refl | with_reducible assumption | exact rfl
    | with_reducible apply Ev.seq (writeChead_ev ..) ?_ ?_ | with_reducible apply OutEv.next | dsimp only | split

def Fp.writeQr2 : Nat := 0x200400000100010000000000000000000100004005100000000000000000000000000000500000000000000000000000000000000000000000000000000000000000000000000
theorem writeQr2_ev (q : Nat) (v : Word) (s : State) :
    Ev Fp.writeQr2 s (writeQr2 q v s) := by
  unfold writeQr2
  repeat' first
    | with_reducible apply Ev.refl | with_reducible assumption | exact rfl
    | with_reducible apply Ev.seq (wr_ev _ _ _ _ _ ?_) ?_ ?_ | with_reducible apply Ev.seq (wrb_ev _ _ _ _ _ ?_) ?_ ?_
    | with_reducible apply Ev.seq (enableQueue_ev ..) ?_ ?_ | with_reducible apply Ev.seq (regAccess_ev ..) ?_ ?_
    | with_reducible apply Ev.ite ?_ ?_ | dsimp only | split

def Fp.execQueueEnable : Nat := 0x200200400000100010000000000000000000100004005100010000001000000000000000000500000000000000000000000000000000000000000000000000000000000000000000
theorem execQueueEnable_ev (path : Path) (q : Nat) (value : Word) (s : State) :
    OutEv Fp.execQueueEnable s (execQueueEnable path q value s) := by
  unfold execQueueEnable
  repeat' first
    | with_reducible apply Ev.refl | with_reducible assumption | exact rfl
    | with_reducible apply rwl_ev _ _ _ _ _ _ ?_ (fun _ => ?_) ?_ | with_reducible apply Ev.seq (writeQr2_ev ..) ?_ ?_
    | with_reducible apply OutEv.next | dsimp only | split

def Fp.execRingFetchDone : Nat := 0x200400000100000000000000000000000100000000000000000000000000000000000000100000000000000000000000000000000000000000000000000000000000000000000
theorem execRingFetchDone_ev (q : Nat) (reply : HostReply) (s : State) :
    OutEv Fp.execRingFetchDone s (execRingFetchDone q reply s) := by
  unfold execRingFetchDone
  repeat' first
    | with_reducible apply Ev.refl | with_reducible assumption | exact rfl
    | with_reducible apply Ev.seq (ringFetched_ev ..) ?_ ?_ | with_reducible apply OutEv.next | dsimp only | split

def Fp.execCompletionTimeout : Nat := 0x201c00000110010000000000000000000100004005100000000001000000000000044041101000000000000000000000000000000000000000000000000000000000000000000
theorem execCompletionTimeout_ev (what : HostRequest) (s : State) :
    OutEv Fp.execCompletionTimeout s (execCompletionTimeout what s) := by
  unfold execCompletionTimeout
  repeat' first
    | with_reducible apply Ev.refl | with_reducible assumption | exact rfl
    | with_reducible apply Ev.seq (stopEng_ev ..) ?_ ?_ | with_reducible apply Ev.seq (translationTimeout_ev ..) ?_ ?_
    | with_reducible apply Ev.ite ?_ ?_ | with_reducible apply OutEv.next | dsimp only
    | with_reducible refine Ev.ofPair (by assumption) ?_ | split

def Fp.clearSources : Nat := 0x200000000100000000000000000000000100000000000000000000000000000000000000000000000000000000000000000000000000000000000000000000000000000000000
theorem clearSources_ev (i : Nat) (mask : Word) (s : State) :
    Ev Fp.clearSources s (clearSources i mask s) := by
  unfold clearSources
  repeat' first
    | with_reducible apply Ev.refl | with_reducible assumption | exact rfl | decide | exact fullWord _ (by decide)
    | exact maskedWord (by decide) | exact zeroWord
    | exact fun hz => withBits_mask _ _ _ _ _ (hz _ _ _ _ (by decide)) (by decide)
    | with_reducible apply Ev.seq (setWord_ev _ _ _ _ _ _ ?_ ?_) ?_ ?_
    | with_reducible apply Ev.seq (raiseSource_ev ..) ?_ ?_ | with_reducible apply Ev.foldl (fun _ _ => ?_) ?_
    | with_reducible apply Ev.foldlSnd (fun _ _ => ?_) ?_ | dsimp only | split

def Fp.execIntStatusClear : Nat := 0x200000000100000000000000000000000100000000000000000000000000000000000000000000000000000000000000000000000000000000000000000000000000000000000
theorem execIntStatusClear_ev (_path : Path) (i : Nat) (mask : Word) (s : State) :
    OutEv Fp.execIntStatusClear s (execIntStatusClear _path i mask s) := by
  unfold execIntStatusClear
  repeat' first
    | with_reducible apply Ev.refl | with_reducible assumption | exact rfl
    | with_reducible apply Ev.seq (clearSources_ev ..) ?_ ?_ | with_reducible apply OutEv.next | dsimp only | split

def Fp.execInterruptHoldoff : Nat := 0x200000000100000000000000000000000000000000000000000000000000000000000000000000000000000000000000000000000000000000000000000000000000000000000
theorem execInterruptHoldoff_ev (src : Nat) (s : State) :
    OutEv Fp.execInterruptHoldoff s (execInterruptHoldoff src s) := by
  unfold execInterruptHoldoff
  repeat' first
    | with_reducible apply Ev.refl | with_reducible assumption | exact rfl
    | with_reducible apply Ev.seq (sendSource_ev ..) ?_ ?_ | with_reducible apply Ev.ite ?_ ?_
    | with_reducible apply OutEv.next | dsimp only | split

def Fp.sendDeferred : Nat := 0x200000000100000000000000000000000000000000000000000000000000000000000000000000000000000000000000000000000000000000000000000000000000000000000
theorem sendDeferred_ev (s : State) :
    Ev Fp.sendDeferred s (sendDeferred s) := by
  unfold sendDeferred
  repeat' first
    | with_reducible apply Ev.refl | with_reducible assumption | exact rfl
    | with_reducible apply Ev.seq (sendSource_ev ..) ?_ ?_ | with_reducible apply Ev.ite ?_ ?_
    | with_reducible apply Ev.foldl (fun _ _ => ?_) ?_ | with_reducible apply Ev.foldlSnd (fun _ _ => ?_) ?_ | dsimp only
    | split

def Fp.sendPending : Nat := 0x200000000100000000000000000000000000000000000000000000000000000000000000000000000000000000000000000000000000000000000000000000000000000000000
theorem sendPending_ev (v : Nat) (s : State) :
    Ev Fp.sendPending s (sendPending v s) := by
  unfold sendPending
  repeat' first
    | with_reducible apply Ev.refl | with_reducible assumption | exact rfl | with_reducible apply Ev.seq (emit_ev ..) ?_ ?_
    | with_reducible apply Ev.seq (onPci_ev ..) ?_ ?_ | with_reducible apply Ev.ite ?_ ?_ | dsimp only | split

def Fp.execVectorUnmask : Nat := 0x200000000100000000000000000000000000000000000000000000000000000000000000000000000000000000000000000000000000000000000000000000000000000000000
theorem execVectorUnmask_ev (v : Nat) (s : State) :
    OutEv Fp.execVectorUnmask s (execVectorUnmask v s) := by
  unfold execVectorUnmask
  repeat' first
    | with_reducible apply Ev.refl | with_reducible assumption | exact rfl
    | with_reducible apply Ev.seq (onPci_ev ..) ?_ ?_ | with_reducible apply Ev.seq (sendPending_ev ..) ?_ ?_
    | with_reducible apply Ev.ite ?_ ?_ | with_reducible apply OutEv.next | dsimp only | split

def Fp.disableBusMaster : Nat := 0x200400000100000000000000000000000100000000000000000000000000000000000000100000000000000000000000000000000000000000000000000000000000000000000
theorem disableBusMaster_ev (s : State) :
    Ev Fp.disableBusMaster s (disableBusMaster s) := by
  unfold disableBusMaster
  repeat' first
    | with_reducible apply Ev.refl | with_reducible assumption | exact rfl
    | with_reducible apply Ev.seq (onPci_ev ..) ?_ ?_ | with_reducible apply Ev.seq (stopEng_ev ..) ?_ ?_
    | with_reducible apply Ev.ite ?_ ?_ | with_reducible apply Ev.foldl (fun _ _ => ?_) ?_
    | with_reducible apply Ev.foldlSnd (fun _ _ => ?_) ?_ | dsimp only | split

def Fp.execBusMasterDisable : Nat := 0x200400000100000000000000000000000100000000000000000000000000000000000000100000000000000000000000000000000000000000000000000000000000000000000
theorem execBusMasterDisable_ev (s : State) :
    OutEv Fp.execBusMasterDisable s (execBusMasterDisable s) := by
  unfold execBusMasterDisable
  repeat' first
    | with_reducible apply Ev.refl | with_reducible assumption | exact rfl
    | with_reducible apply Ev.seq (disableBusMaster_ev ..) ?_ ?_ | with_reducible apply OutEv.next | dsimp only | split

def Fp.execDStateChange : Nat := 0x200400000100000000000000000000000004000000000000000000000000000000000000000000000000000000000000000000000000000000000000000000000000000000000
theorem execDStateChange_ev (d3 : Bool) (s : State) :
    OutEv Fp.execDStateChange s (execDStateChange d3 s) := by
  unfold execDStateChange
  repeat' first
    | with_reducible apply Ev.refl | with_reducible assumption | exact rfl
    | with_reducible apply Ev.seq (wr_ev _ _ _ _ _ ?_) ?_ ?_ | with_reducible apply Ev.seq (onPci_ev ..) ?_ ?_
    | with_reducible apply Ev.seq (pumpRings_ev ..) ?_ ?_ | with_reducible apply Ev.seq (sendDeferred_ev ..) ?_ ?_
    | with_reducible apply Ev.seq (settleD3_ev ..) ?_ ?_ | with_reducible apply Ev.ite ?_ ?_
    | with_reducible apply OutEv.next | dsimp only | split

def Fp.configWrite : Nat := 0x200400000100000000000000000000000100000000000000000000000000000000000001100000000000000000000000000000000000000000000000000000000000000000000
theorem configWrite_ev (w : ConfigWrite) (s : State) :
    Ev Fp.configWrite s (configWrite w s) := by
  unfold configWrite
  repeat' first
    | with_reducible apply Ev.refl | with_reducible assumption | exact rfl
    | with_reducible apply Ev.seq (wr_ev _ _ _ _ _ ?_) ?_ ?_ | with_reducible apply Ev.seq (wrb_ev _ _ _ _ _ ?_) ?_ ?_
    | with_reducible apply Ev.seq (disableBusMaster_ev ..) ?_ ?_ | with_reducible apply Ev.seq (onPci_ev ..) ?_ ?_
    | with_reducible apply Ev.seq (pumpRings_ev ..) ?_ ?_ | with_reducible apply Ev.seq (sendDeferred_ev ..) ?_ ?_
    | with_reducible apply Ev.seq (sendPending_ev ..) ?_ ?_ | with_reducible apply Ev.ite ?_ ?_
    | with_reducible apply Ev.foldl (fun _ _ => ?_) ?_ | with_reducible apply Ev.foldlSnd (fun _ _ => ?_) ?_ | dsimp only
    | with_reducible refine Ev.ofPair (by assumption) ?_ | split

end Sys2Proof.Machine
end

