-- ==== Sys2Proof/Laws/EvLanes.lean ====
section
/-! SUPPORT. What the operations of Machine/Lanes.lean may touch: one law for each, cited in place of unfolding it. The numbers are
sets of parts (Laws/Frame.lean, `Part.idx`). -/

set_option exponentiation.threshold 1024
set_option linter.unreachableTactic false
set_option linter.unusedTactic false

namespace Sys2Proof.Machine

def Fp.retrainLane : Side → Nat
  | .module => 0x80f00000000100110500000000000000000100045005100000000001000000000000000000000000000000000000000100000000000000000000000054450050041000000000000
  | .endpoint => 0xd8000000100000000220020a000200000288800000000000000000000000000000000000000000000000000000000000000000000000000000000000000000000a00a0082000000000000
theorem retrainLane_ev (sd : Side) (n : Nat) (s : State) :
    Ev (Fp.retrainLane sd) s (retrainLane sd n s) := by
  cases sd <;> (
    unfold retrainLane
    repeat' first
      | with_reducible apply Ev.refl | with_reducible assumption | exact rfl
      | with_reducible apply Ev.seq (wr_ev _ _ _ _ _ ?_) ?_ ?_ | with_reducible apply Ev.seq (enterDetect_ev ..) ?_ ?_
      | with_reducible apply Ev.seq (leaveAndRetrain_ev ..) ?_ ?_ | with_reducible apply Ev.ite ?_ ?_ | dsimp only
      | contradiction | split)

def Fp.execLaneRetrain : Side → Nat
  | .module => 0x80f00000000100110500000000000000000100045005100000000001000000000000000000000000000000000000000100000000000000000000000054450050041000000000000
  | .endpoint => 0xd8000000100000000220020a000200000288800000000000000000000000000000000000000000000000000000000000000000000000000000000000000000000a00a0082000000000000
theorem execLaneRetrain_ev (sd : Side) (_path : Path) (n : Nat) (s : State) :
    OutEv (Fp.execLaneRetrain sd) s (execLaneRetrain sd _path n s) := by
  cases sd <;> (
    unfold execLaneRetrain
    repeat' first
      | with_reducible apply Ev.refl | with_reducible assumption | exact rfl
      | with_reducible apply Ev.seq (retrainLane_ev ..) ?_ ?_ | with_reducible apply OutEv.next | dsimp only | contradiction
      | split)

def Fp.flushCache : Side → Nat
  | .module => 0x100000000000000000000000000000000000000000000000000000000000000000000000000000000000000000000000000000000000000000000000000000
  | .endpoint => 0x200000000000000000000000000000000000000000000000000000000000000000000000000000000000000000000000000000000000000000000000000000
theorem flushCache_ev (sd : Side) (n : Nat) (s : State) :
    Ev (Fp.flushCache sd) s (flushCache sd n s) := by
  cases sd <;> (
    unfold flushCache
    repeat' first
      | with_reducible apply Ev.refl | with_reducible assumption | exact rfl
      | with_reducible apply Ev.seq (onLane_ev ..) ?_ ?_ | dsimp only | contradiction | split)

def Fp.execCacheFlush : Side → Nat
  | .module => 0x100000000000000000000000000000000000000000000000000000000000000000000000000000000000000000000000000000000000000000000000000000
  | .endpoint => 0x200000000000000000000000000000000000000000000000000000000000000000000000000000000000000000000000000000000000000000000000000000
theorem execCacheFlush_ev (sd : Side) (_path : Path) (n : Nat) (s : State) :
    OutEv (Fp.execCacheFlush sd) s (execCacheFlush sd _path n s) := by
  cases sd <;> (
    unfold execCacheFlush
    repeat' first
      | with_reducible apply Ev.refl | with_reducible assumption | exact rfl
      | with_reducible apply Ev.seq (flushCache_ev ..) ?_ ?_ | with_reducible apply OutEv.next | dsimp only | contradiction
      | split)

def Fp.spareNow : Side → Nat
  | .module => 0x82f00000000100114500000000000000000100045005100000000001000000000000000000000000000000000000000100000000000000000000000054450050041000400000000
  | .endpoint => 0xd8000000100000000220028a000200000288800000000000000000000000000000000000000000000000000000000000000000000000000000000000000000000a00a0082000000000000
theorem spareNow_ev (sd : Side) (n : Nat) (s : State) :
    Ev (Fp.spareNow sd) s (spareNow sd n s) := by
  cases sd <;> (
    unfold spareNow
    repeat' first
      | with_reducible apply Ev.refl | with_reducible assumption | exact rfl
      | with_reducible apply Ev.seq (setLaneSt_ev ..) ?_ ?_ | with_reducible apply Ev.seq (spareLane_ev ..) ?_ ?_
      | with_reducible apply Ev.ite ?_ ?_ | dsimp only | contradiction | split)

def Fp.execSpareNow : Side → Nat
  | .module => 0x82f00000000100114500000000000000000100045005100000000001000000000000000000000000000000000000000100000000000000000000000054450050041000400000000
  | .endpoint => 0xd8000000100000000220028a000200000288800000000000000000000000000000000000000000000000000000000000000000000000000000000000000000000a00a0082000000000000
theorem execSpareNow_ev (sd : Side) (_path : Path) (n : Nat) (s : State) :
    OutEv (Fp.execSpareNow sd) s (execSpareNow sd _path n s) := by
  cases sd <;> (
    unfold execSpareNow
    repeat' first
      | with_reducible apply Ev.refl | with_reducible assumption | exact rfl
      | with_reducible apply Ev.seq (spareNow_ev ..) ?_ ?_ | with_reducible apply OutEv.next | dsimp only | contradiction
      | split)

def Fp.askRelease : Side → Nat
  | .module => 0x100000500000000000000000000000000000000000000000000000000000000000000000000000000000000000000000000000000000000000000000000000000000
  | .endpoint => 0x200000a00000000000000000000000000000000000000000000000000000000000000000000000000000000000000000000000000000000000000000000000000000
theorem askRelease_ev (sd : Side) (n : Nat) (toward : Nat) (s : State) :
    Ev (Fp.askRelease sd) s (askRelease sd n toward s) := by
  cases sd <;> (
    unfold askRelease
    repeat' first
      | with_reducible apply Ev.refl | with_reducible assumption | exact rfl
      | with_reducible apply Ev.seq (onLane_ev ..) ?_ ?_ | with_reducible apply Ev.seq (onPort_ev ..) ?_ ?_
      | with_reducible apply Ev.seq (sendCtrl_ev ..) ?_ ?_ | with_reducible apply Ev.ite ?_ ?_ | dsimp only
      | with_reducible refine Ev.ofPair (by assumption) ?_ | contradiction | split)

def Fp.applyPower : Side → Nat
  | .module => 0x100000500000000000000000000000000000000000000000000000000000000000000000000000000000000000000000000000000000000000000041000000000000
  | .endpoint => 0x200000a00000000000000000000000000000000000000000000000000000000000000000000000000000000000000000000000000000000000000082000000000000
theorem applyPower_ev (sd : Side) (n : Nat) (s : State) :
    Ev (Fp.applyPower sd) s (applyPower sd n s) := by
  cases sd <;> (
    unfold applyPower
    repeat' first
      | with_reducible apply Ev.refl | with_reducible assumption | exact rfl
      | with_reducible apply Ev.seq (askRelease_ev ..) ?_ ?_ | with_reducible apply Ev.seq (enterDetect_ev ..) ?_ ?_
      | with_reducible apply Ev.seq (enterOff_ev ..) ?_ ?_ | with_reducible apply Ev.ite ?_ ?_ | dsimp only
      | with_reducible refine Ev.ofPair (by assumption) ?_ | contradiction | split)

def Fp.writePower : Side → Nat
  | .module => 0x200000000100010500000000000000000100004005100000000000000000000000000000000000000000000000000000000000000000000000000000000000041400000000000
  | .endpoint => 0x200020a00020000028880000000000000000000000000000000000000000000000000000000000000000000000000000000000000000000000000082800000000000
theorem writePower_ev (sd : Side) (n : Nat) (power : Nat) (s : State) :
    Ev (Fp.writePower sd) s (writePower sd n power s) := by
  cases sd <;> (
    unfold writePower
    repeat' first
      | with_reducible apply Ev.refl | with_reducible assumption | exact rfl
      | with_reducible apply Ev.seq (wr_ev _ _ _ _ _ ?_) ?_ ?_ | with_reducible apply Ev.seq (applyPower_ev ..) ?_ ?_
      | with_reducible apply Ev.seq (regAccess_ev ..) ?_ ?_ | with_reducible apply Ev.ite ?_ ?_ | dsimp only | contradiction
      | split)

def Fp.execLanePowerRequest : Side → Nat
  | .module => 0x200200000000100010500000000000000000100004005100010000001000000000000000000000000000000000000000000000000000000000000000000000000041400000000000
  | .endpoint => 0x200020a000200000a8880000000000000000000000000000000000000000000000000000000000000000000000000000000000000000000000000082800000000000
theorem execLanePowerRequest_ev (sd : Side) (path : Path) (n : Nat) (power : Nat) (s : State) :
    OutEv (Fp.execLanePowerRequest sd) s (execLanePowerRequest sd path n power s) := by
  cases sd <;> (
    unfold execLanePowerRequest
    repeat' first
      | with_reducible apply Ev.refl | with_reducible assumption | exact rfl
      | with_reducible apply rwl_ev _ _ _ _ _ _ ?_ (fun _ => ?_) ?_ | with_reducible apply Ev.seq (writePower_ev ..) ?_ ?_
      | with_reducible apply OutEv.next | dsimp only | contradiction | split)

def Fp.enableLane : Side → Nat
  | .module => 0x100000500000000000000000000000000000000000000000000000000000000000000000000000000000000000000000000000000000000000000041400000000000
  | .endpoint => 0x200000a00000000000000000000000000000000000000000000000000000000000000000000000000000000000000000000000000000000000000082800000000000
theorem enableLane_ev (sd : Side) (n : Nat) (s : State) :
    Ev (Fp.enableLane sd) s (enableLane sd n s) := by
  cases sd <;> (
    unfold enableLane
    repeat' first
      | with_reducible apply Ev.refl | with_reducible assumption | exact rfl
      | with_reducible apply Ev.seq (wrb_ev _ _ _ _ _ ?_) ?_ ?_ | with_reducible apply Ev.seq (applyPower_ev ..) ?_ ?_
      | with_reducible apply Ev.seq (enterDetect_ev ..) ?_ ?_ | with_reducible apply Ev.ite ?_ ?_ | dsimp only
      | contradiction | split)

def Fp.execLaneEnable : Side → Nat
  | .module => 0x200200000000100010500000000000000000100004005100010000001000000000000000000000000000000000000000000000000000000000000000000000000041400000000000
  | .endpoint => 0x200020a000200000a8880000000000000000000000000000000000000000000000000000000000000000000000000000000000000000000000000082800000000000
theorem execLaneEnable_ev (sd : Side) (path : Path) (n : Nat) (s : State) :
    OutEv (Fp.execLaneEnable sd) s (execLaneEnable sd path n s) := by
  cases sd <;> (
    unfold execLaneEnable
    repeat' first
      | with_reducible apply Ev.refl | with_reducible assumption | exact rfl
      | with_reducible apply Ev.seq (enableLane_ev ..) ?_ ?_ | with_reducible apply rwl_ev _ _ _ _ _ _ ?_ (fun _ => ?_) ?_
      | with_reducible apply OutEv.next | dsimp only | contradiction | split)

def Fp.execFarSignalDetected : Side → Nat
  | .module => 0x200000000100010100000000000000000100004005100000000001000000000000000000000000000000000000000000000000000000000000000000000001001000000000000
  | .endpoint => 0x200020200020000028880000000000000000000000000000000000000000000000000000000000000000000000000000000000000000000000002002000000000000
theorem execFarSignalDetected_ev (sd : Side) (n : Nat) (s : State) :
    OutEv (Fp.execFarSignalDetected sd) s (execFarSignalDetected sd n s) := by
  cases sd <;> (
    unfold execFarSignalDetected
    repeat' first
      | with_reducible apply Ev.refl | with_reducible assumption | exact rfl
      | with_reducible apply Ev.seq (onLane_ev ..) ?_ ?_ | with_reducible apply Ev.seq (bump_ev _ _ _ _ ?_) ?_ ?_
      | with_reducible apply Ev.seq (setLaneSt_ev ..) ?_ ?_ | with_reducible apply Ev.ite ?_ ?_
      | with_reducible apply OutEv.next | dsimp only | contradiction | split)

def Fp.abandonFast : Side → Nat
  | .module => 0x2200000000300014100000000000080000100004005100000000000000000000000000000000000000000000000000000000000000000000000000000000000041000400000000
  | .endpoint => 0x200028200020000028880000000000000000000000000000000000000000000000000000000000000000000000000000000000000000000000000082000000000000
theorem abandonFast_ev (sd : Side) (n : Nat) (s : State) :
    Ev (Fp.abandonFast sd) s (abandonFast sd n s) := by
  cases sd <;> (
    unfold abandonFast
    repeat' first
      | with_reducible apply Ev.refl | with_reducible assumption | exact rfl
      | with_reducible apply Ev.seq (onLane_ev ..) ?_ ?_ | with_reducible apply Ev.seq (failAttempt_ev ..) ?_ ?_
      | with_reducible apply Ev.seq (setReason_ev ..) ?_ ?_ | dsimp only | contradiction | split)

def Fp.execFarSignalLost : Side → Nat
  | .module => 0x82f00000000300114500000000000080000100045005100000000001000000000000000000000000000000000000000100000000000000000000000054450050041000400000000
  | .endpoint => 0xd8000000100000000220028a000200000288800000000000000000000000000000000000000000000000000000000000000000000000000000000000000000000a00a0082000000000000
theorem execFarSignalLost_ev (sd : Side) (n : Nat) (s : State) :
    OutEv (Fp.execFarSignalLost sd) s (execFarSignalLost sd n s) := by
  cases sd <;> (
    unfold execFarSignalLost
    repeat' first
      | with_reducible apply Ev.refl | with_reducible assumption | exact rfl
      | with_reducible apply Ev.seq (abandonFast_ev ..) ?_ ?_ | with_reducible apply Ev.seq (enterDetect_ev ..) ?_ ?_
      | with_reducible apply Ev.seq (failAttempt_ev ..) ?_ ?_ | with_reducible apply Ev.seq (laneLeaves_ev ..) ?_ ?_
      | with_reducible apply Ev.seq (leaveAndRetrain_ev ..) ?_ ?_ | with_reducible apply Ev.ite ?_ ?_
      | with_reducible apply OutEv.next | dsimp only | contradiction | split)

def Fp.takeTapResponse : Side → Nat
  | .module => 0x100000000000000000000000000000000000000000000000000000000000000000000000000000000000000000000000000000000000000001000000000000
  | .endpoint => 0x200000000000000000000000000000000000000000000000000000000000000000000000000000000000000000000000000000000000000002000000000000
theorem takeTapResponse_ev (sd : Side) (n : Nat) (r : BitVec 16) (s : State) :
    Ev (Fp.takeTapResponse sd) s (takeTapResponse sd n r s) := by
  cases sd <;> (
    unfold takeTapResponse
    repeat' first
      | with_reducible apply Ev.refl | with_reducible assumption | exact rfl
      | with_reducible apply Ev.seq (wrb_ev _ _ _ _ _ ?_) ?_ ?_ | with_reducible apply Ev.seq (onLane_ev ..) ?_ ?_
      | with_reducible apply Ev.ite ?_ ?_ | dsimp only | with_reducible refine Ev.ofPair (by assumption) ?_ | contradiction
      | split)

def Fp.takeBlock : Side → Nat
  | .module => 0x100000000000000000000000000000000000000000000000000000000000000000000000000000000000000000000000000000000000000001000000000000
  | .endpoint => 0x200000000000000000000000000000000000000000000000000000000000000000000000000000000000000000000000000000000000000002000000000000
theorem takeBlock_ev (sd : Side) (n : Nat) (cb : ControlBlock) (s : State) :
    Ev (Fp.takeBlock sd) s (takeBlock sd n cb s) := by
  cases sd <;> (
    unfold takeBlock
    repeat' first
      | with_reducible apply Ev.refl | with_reducible assumption | exact rfl
      | with_reducible apply Ev.seq (onLane_ev ..) ?_ ?_ | with_reducible apply Ev.seq (takeTapResponse_ev ..) ?_ ?_
      | with_reducible apply Ev.ite ?_ ?_ | dsimp only | contradiction | split)

def Fp.takeReceiver : Side → Nat
  | .module => 0x100000000000000000000000000000000000000000000000000000000000000000000000000000000000000000000000000000000000000000000000000000
  | .endpoint => 0x200000000000000000000000000000000000000000000000000000000000000000000000000000000000000000000000000000000000000000000000000000
theorem takeReceiver_ev (sd : Side) (n : Nat) (rx : ReceiverView) (s : State) :
    Ev (Fp.takeReceiver sd) s (takeReceiver sd n rx s) := by
  cases sd <;> (
    unfold takeReceiver
    repeat' first
      | with_reducible apply Ev.refl | with_reducible assumption | exact rfl
      | with_reducible apply Ev.seq (onLane_ev ..) ?_ ?_ | with_reducible apply Ev.ite ?_ ?_ | dsimp only
      | with_reducible refine Ev.ofPair (by assumption) ?_ | contradiction | split)

def Fp.storeIdentity : Side → Nat
  | .module => 0x4000000000000
  | .endpoint => 0x8000000000000
theorem storeIdentity_ev (sd : Side) (n : Nat) (cb : ControlBlock) (s : State) :
    Ev (Fp.storeIdentity sd) s (storeIdentity sd n cb s) := by
  cases sd <;> (
    unfold storeIdentity
    repeat' first
      | with_reducible apply Ev.refl | with_reducible assumption | exact rfl
      | with_reducible apply Ev.seq (wr_ev _ _ _ _ _ ?_) ?_ ?_ | with_reducible apply Ev.seq (wrb_ev _ _ _ _ _ ?_) ?_ ?_
      | dsimp only | contradiction | split)

def Fp.trainStep : Side → Nat
  | .module => 0x2200000000300014100000000000080000100004005100000000000000000000000000000000000000000000000000000000000000000000000000000000000045000400000000
  | .endpoint => 0x20002820002000002888080000000000000000000000000000000000000000000000000000000000000000000000000000000000000000000000008a000000000000
theorem trainStep_ev (sd : Side) (n : Nat) (cb : ControlBlock) (rx : ReceiverView) (s : State) :
    Ev (Fp.trainStep sd) s (trainStep sd n cb rx s) := by
  cases sd <;> (
    unfold trainStep
    repeat' first
      | with_reducible apply Ev.refl | with_reducible assumption | exact rfl
      | with_reducible apply Ev.seq (onLane_ev ..) ?_ ?_ | with_reducible apply Ev.seq (compareIdentity_ev ..) ?_ ?_
      | with_reducible apply Ev.seq (failAttempt_ev ..) ?_ ?_ | with_reducible apply Ev.seq (setLaneSt_ev ..) ?_ ?_
      | with_reducible apply Ev.seq (setReason_ev ..) ?_ ?_ | with_reducible apply Ev.seq (storeIdentity_ev ..) ?_ ?_
      | with_reducible apply Ev.seq (takeBlock_ev ..) ?_ ?_ | with_reducible apply Ev.seq (takeReceiver_ev ..) ?_ ?_
      | with_reducible apply Ev.ite ?_ ?_ | dsimp only | with_reducible refine Ev.ofPair (by assumption) ?_ | contradiction
      | split)

def Fp.execControlBlock : Side → Nat
  | .module => 0x2200000000300014100000000000080000100004005100000000001000000000000000000000000000000000000000000000000000000000000000000000000445000400000000
  | .endpoint => 0x20002820002000002888080000000000000000000000000000000000000000000000000000000000000000000000000000000000000000000000088a000000000000
theorem execControlBlock_ev (sd : Side) (n : Nat) (cb : ControlBlock) (rx : ReceiverView) (s : State) :
    OutEv (Fp.execControlBlock sd) s (execControlBlock sd n cb rx s) := by
  cases sd <;> (
    unfold execControlBlock
    repeat' first
      | with_reducible apply Ev.refl | with_reducible assumption | exact rfl
      | with_reducible apply Ev.seq (bump_ev _ _ _ _ ?_) ?_ ?_ | with_reducible apply Ev.seq (trainStep_ev ..) ?_ ?_
      | with_reducible apply Ev.ite ?_ ?_ | with_reducible apply OutEv.next | dsimp only | contradiction | split)

def Fp.execTapRequestApply : Side → Nat
  | .module => 0x300000100000000000000000000000000000000000000000000000000000000000000000000000000000000000000000000000000000000000000041000000000000
  | .endpoint => 0x300000200000000000000000000000000000000000000000000000000000000000000000000000000000000000000000000000000000000000000082000000000000
theorem execTapRequestApply_ev (sd : Side) (n : Nat) (s : State) :
    OutEv (Fp.execTapRequestApply sd) s (execTapRequestApply sd n s) := by
  cases sd <;> (
    unfold execTapRequestApply
    repeat' first
      | with_reducible apply Ev.refl | with_reducible assumption | exact rfl | with_reducible apply Ev.seq (emit_ev ..) ?_ ?_
      | with_reducible apply Ev.seq (serveRequest_ev ..) ?_ ?_ | with_reducible apply Ev.ite ?_ ?_
      | with_reducible apply OutEv.next | dsimp only | with_reducible refine Ev.ofPair (by assumption) ?_ | contradiction
      | split)

def Fp.execTrainingTimeout : Side → Nat
  | .module => 0x82f00000000300114500000000000080000100045005100000000001000000000000000000000000000000000000000100000000000000000000000054450050041000400000000
  | .endpoint => 0xd8000000100000000220028a000200000288800000000000000000000000000000000000000000000000000000000000000000000000000000000000000000000a00a0082000000000000
theorem execTrainingTimeout_ev (sd : Side) (n : Nat) (s : State) :
    OutEv (Fp.execTrainingTimeout sd) s (execTrainingTimeout sd n s) := by
  cases sd <;> (
    unfold execTrainingTimeout
    repeat' first
      | with_reducible apply Ev.refl | with_reducible assumption | exact rfl
      | with_reducible apply Ev.seq (failAttempt_ev ..) ?_ ?_ | with_reducible apply Ev.seq (laneLeaves_ev ..) ?_ ?_
      | with_reducible apply Ev.seq (setReason_ev ..) ?_ ?_ | with_reducible apply Ev.ite ?_ ?_
      | with_reducible apply OutEv.next | dsimp only | contradiction | split)

def Fp.execVerifyEnd : Side → Nat
  | .module => 0x2200000000300014100000000000080000100004005100000000000000000000000000000000000000000000000000000000000000000000000000000000000041000400000000
  | .endpoint => 0x200028200020000028880000000000000000000000000000000000000000000000000000000000000000000000000000000000000000000000000082000000000000
theorem execVerifyEnd_ev (sd : Side) (n : Nat) (errors : Nat) (s : State) :
    OutEv (Fp.execVerifyEnd sd) s (execVerifyEnd sd n errors s) := by
  cases sd <;> (
    unfold execVerifyEnd
    repeat' first
      | with_reducible apply Ev.refl | with_reducible assumption | exact rfl
      | with_reducible apply Ev.seq (onLane_ev ..) ?_ ?_ | with_reducible apply Ev.seq (failAttempt_ev ..) ?_ ?_
      | with_reducible apply Ev.seq (loadInitPreset_ev ..) ?_ ?_ | with_reducible apply Ev.seq (setLaneSt_ev ..) ?_ ?_
      | with_reducible apply Ev.seq (setReason_ev ..) ?_ ?_ | with_reducible apply Ev.ite ?_ ?_
      | with_reducible apply OutEv.next | dsimp only | with_reducible refine Ev.ofPair (by assumption) ?_ | contradiction
      | split)

def Fp.execHandoverAccept : Side → Nat
  | .module => 0x100000500000000000000000000000000000000000000000000000000000000000000000000000000000000000000000000000000000000000000041000000000000
  | .endpoint => 0x200000a00000000000000000000000000000000000000000000000000000000000000000000000000000000000000000000000000000000000000082000000000000
theorem execHandoverAccept_ev (sd : Side) (n : Nat) (s : State) :
    OutEv (Fp.execHandoverAccept sd) s (execHandoverAccept sd n s) := by
  cases sd <;> (
    unfold execHandoverAccept
    repeat' first
      | with_reducible apply Ev.refl | with_reducible assumption | exact rfl
      | with_reducible apply Ev.seq (wr_ev _ _ _ _ _ ?_) ?_ ?_ | with_reducible apply Ev.seq (onLane_ev ..) ?_ ?_
      | with_reducible apply Ev.seq (applyPower_ev ..) ?_ ?_ | with_reducible apply Ev.seq (setLaneSt_ev ..) ?_ ?_
      | with_reducible apply Ev.seq (setReason_ev ..) ?_ ?_ | with_reducible apply Ev.ite ?_ ?_
      | with_reducible apply OutEv.next | dsimp only | contradiction | split)

def Fp.execFastTimeout : Side → Nat
  | .module => 0x82f00000000300114500000000000080000100045005100000000001000000000000000000000000000000000000000100000000000000000000000054450050041000400000000
  | .endpoint => 0xd8000000100000000220028a000200000288800000000000000000000000000000000000000000000000000000000000000000000000000000000000000000000a00a0082000000000000
theorem execFastTimeout_ev (sd : Side) (n : Nat) (s : State) :
    OutEv (Fp.execFastTimeout sd) s (execFastTimeout sd n s) := by
  cases sd <;> (
    unfold execFastTimeout
    repeat' first
      | with_reducible apply Ev.refl | with_reducible assumption | exact rfl
      | with_reducible apply Ev.seq (abandonFast_ev ..) ?_ ?_ | with_reducible apply Ev.seq (laneLeaves_ev ..) ?_ ?_
      | with_reducible apply Ev.ite ?_ ?_ | with_reducible apply OutEv.next | dsimp only | contradiction | split)

def Fp.recheckPlan : Nat := 0x80f00000000100110500000000000000000100045005100000000001000000000000000000000000000000000000000100000000000000000000000054450050041000000000000
theorem recheckPlan_ev (n : Nat) (s : State) :
    Ev Fp.recheckPlan s (recheckPlan n s) := by
  unfold recheckPlan
  repeat' first
    | with_reducible apply Ev.refl | with_reducible assumption | exact rfl
    | with_reducible apply Ev.seq (compareIdentity_ev ..) ?_ ?_ | with_reducible apply Ev.seq (enterMiswired_ev ..) ?_ ?_
    | with_reducible apply Ev.seq (laneLeaves_ev ..) ?_ ?_ | with_reducible apply Ev.ite ?_ ?_ | dsimp only | split

def Fp.writePlan : Nat := 0x80f00000000100110500000000000000000100045005100000000001000000000000000000000000000000000000000100000000000000000000000054450050051000000000000
theorem writePlan_ev (n : Nat) (v : Word) (s : State) :
    Ev Fp.writePlan s (writePlan n v s) := by
  unfold writePlan
  repeat' first
    | with_reducible apply Ev.refl | with_reducible assumption | exact rfl
    | with_reducible apply Ev.seq (wr_ev _ _ _ _ _ ?_) ?_ ?_ | with_reducible apply Ev.seq (recheckPlan_ev ..) ?_ ?_
    | dsimp only | split

def Fp.execLnkPlanWrite : Nat := 0x280f00000000100110500000000000000000100045005100010000001000000000000000000000000000000000000000100000000000000000000000054450050051000000000000
theorem execLnkPlanWrite_ev (path : Path) (n : Nat) (v : Word) (s : State) :
    OutEv Fp.execLnkPlanWrite s (execLnkPlanWrite path n v s) := by
  unfold execLnkPlanWrite
  repeat' first
    | with_reducible apply Ev.refl | with_reducible assumption | exact rfl
    | with_reducible apply rwl_ev _ _ _ _ _ _ ?_ (fun _ => ?_) ?_ | with_reducible apply Ev.seq (writePlan_ev ..) ?_ ?_
    | with_reducible apply OutEv.next | dsimp only | split

def Fp.retrainPort : Side → Nat
  | .module => 0x80f00000000100110500000000000000000100045005100000000001000000000000000000000000000000000000000100000000000000000000000054410050041000000000000
  | .endpoint => 0xd8000000100000000220020a000200000288800000000000000000000000000000000000000000000000000000000000000000000000000000000000000000000200a0082000000000000
theorem retrainPort_ev (sd : Side) (p : Nat) (s : State) :
    Ev (Fp.retrainPort sd) s (retrainPort sd p s) := by
  cases sd <;> (
    unfold retrainPort
    repeat' first
      | with_reducible apply Ev.refl | with_reducible assumption | exact rfl
      | with_reducible apply Ev.seq (portDown_ev ..) ?_ ?_ | dsimp only | contradiction | split)

def Fp.execIdAnnounce : Side → Nat
  | .module => 0x80f00000000100110500000000000000000100045005100000000001000000000000000000000000000000000000000100000000000040000000000054410050041000000000000
  | .endpoint => 0xd8000000100000000220020a000200000288800000000000000000000000000000000000000000000000000000000000000000000000000000800000000000000200a0082000000000000
theorem execIdAnnounce_ev (sd : Side) (p : Nat) (pkt : Packet) (s : State) :
    OutEv (Fp.execIdAnnounce sd) s (execIdAnnounce sd p pkt s) := by
  cases sd <;> (
    unfold execIdAnnounce
    repeat' first
      | with_reducible apply Ev.refl | with_reducible assumption | exact rfl
      | with_reducible apply Ev.seq (bump_ev _ _ _ _ ?_) ?_ ?_ | with_reducible apply Ev.seq (consumeArrived_ev ..) ?_ ?_
      | with_reducible apply Ev.seq (retrainPort_ev ..) ?_ ?_ | with_reducible apply Ev.ite ?_ ?_
      | with_reducible apply OutEv.next | dsimp only | contradiction | split)

def Fp.execIdAnnounceTimer : Side → Nat
  | .module => 0x100000000000000400000000000000000000000000000000000000000000000000000000000000000000000000000000000000000000000000000000000000000000000000000
  | .endpoint => 0x100000000000000800000000000000000000000000000000000000000000000000000000000000000000000000000000000000000000000000000000000000000000000000000
theorem execIdAnnounceTimer_ev (sd : Side) (p : Nat) (s : State) :
    OutEv (Fp.execIdAnnounceTimer sd) s (execIdAnnounceTimer sd p s) := by
  cases sd <;> (
    unfold execIdAnnounceTimer
    repeat' first
      | with_reducible apply Ev.refl | with_reducible assumption | exact rfl
      | with_reducible apply Ev.seq (portSend_ev ..) ?_ ?_ | with_reducible apply Ev.ite ?_ ?_
      | with_reducible apply OutEv.next | dsimp only | contradiction | split)

def Fp.execErrorRatioCheck : Side → Nat
  | .module => 0x82f00000000100114500000000000000000100045005100000000001000000000000000000000000000000000000000100000000000000000000000054450050041000400000000
  | .endpoint => 0xd8000000100000000220028a000200000288800000000000000000000000000000000000000000000000000000000000000000000000000000000000000000000a00a0082000000000000
theorem execErrorRatioCheck_ev (sd : Side) (n : Nat) (errors : Nat) (bits : Nat) (s : State) :
    OutEv (Fp.execErrorRatioCheck sd) s (execErrorRatioCheck sd n errors bits s) := by
  cases sd <;> (
    unfold execErrorRatioCheck
    repeat' first
      | with_reducible apply Ev.refl | with_reducible assumption | exact rfl
      | with_reducible apply Ev.seq (onLane_ev ..) ?_ ?_ | with_reducible apply Ev.seq (logEvent_ev ..) ?_ ?_
      | with_reducible apply Ev.seq (setReason_ev ..) ?_ ?_ | with_reducible apply Ev.seq (spareLane_ev ..) ?_ ?_
      | with_reducible apply Ev.ite ?_ ?_ | with_reducible apply OutEv.next | dsimp only
      | with_reducible refine Ev.ofPair (by assumption) ?_ | contradiction | split)

def Fp.freezeLoop : Side → Nat
  | .module => 0x200000000100010100000000000000000100004005100000000000040000000000000000000000000000000000000000000000000000000000000000000000000000000000000
  | .endpoint => 0x200000000000000000000000000000000000000000000000000000000000000000000000000000000000000000000000000000000000000000000000000000
theorem freezeLoop_ev (sd : Side) (n : Nat) (errors : Nat) (bits : Nat) (s : State) :
    Ev (Fp.freezeLoop sd) s (freezeLoop sd n errors bits s) := by
  cases sd <;> (
    unfold freezeLoop
    repeat' first
      | with_reducible apply Ev.refl | with_reducible assumption | exact rfl
      | with_reducible apply Ev.seq (onLane_ev ..) ?_ ?_ | with_reducible apply Ev.seq (overridePolicy_ev ..) ?_ ?_
      | with_reducible apply Ev.ite ?_ ?_ | dsimp only | with_reducible refine Ev.ofPair (by assumption) ?_ | contradiction
      | split)

def Fp.settleFreezeBit : Nat := 0x40000000000000000000000000000000000000000000000000000000000000000000000000000000000000
theorem settleFreezeBit_ev (s : State) :
    Ev Fp.settleFreezeBit s (settleFreezeBit s) := by
  unfold settleFreezeBit
  repeat' first
    | with_reducible apply Ev.refl | with_reducible assumption | exact rfl
    | with_reducible apply Ev.seq (wr_ev _ _ _ _ _ ?_) ?_ ?_ | with_reducible apply Ev.ite ?_ ?_ | dsimp only | split

def Fp.askStep : Side → Nat
  | .module => 0x100000000000000500000000000000000000000000000000000000000000000000000000000000000000000000000000000000000000000000000000000000000000000000000
  | .endpoint => 0x100000000000000a00000000000000000000000000000000000000000000000000000000000000000000000000000000000000000000000000000000000000000000000000000
theorem askStep_ev (sd : Side) (n : Nat) (wish : Option (BitVec 12)) (s : State) :
    Ev (Fp.askStep sd) s (askStep sd n wish s) := by
  cases sd <;> (
    unfold askStep
    repeat' first
      | with_reducible apply Ev.refl | with_reducible assumption | exact rfl
      | with_reducible apply Ev.seq (onLane_ev ..) ?_ ?_ | with_reducible apply Ev.seq (portSend_ev ..) ?_ ?_
      | with_reducible apply Ev.ite ?_ ?_ | dsimp only | with_reducible refine Ev.ofPair (by assumption) ?_ | contradiction
      | split)

def Fp.execAlignmentMarker : Side → Nat
  | .module => 0x80f00000000100110500000000000000000100045005100000000001040000000000000000000000000000000000000100000000000000000000000054450050141000000000000
  | .endpoint => 0xd8000000100000000220020a000200000288800000000000000000000000000400000000000000000000000000000000000000000000000000000000000000000a00a0282000000000000
theorem execAlignmentMarker_ev (sd : Side) (n : Nat) (m : Marker) (bipSeen : BitVec 8) (spanPs : Int) (errors : Nat) (bits : Nat) (wish : Option (BitVec 12)) (s : State) :
    OutEv (Fp.execAlignmentMarker sd) s (execAlignmentMarker sd n m bipSeen spanPs errors bits wish s) := by
  cases sd <;> (
    unfold execAlignmentMarker
    repeat' first
      | with_reducible apply Ev.refl | with_reducible assumption | exact rfl
      | with_reducible apply Ev.seq (onLane_ev ..) ?_ ?_ | with_reducible apply Ev.seq (bumpBy_ev _ _ _ _ _ ?_) ?_ ?_
      | with_reducible apply Ev.seq (askStep_ev ..) ?_ ?_ | with_reducible apply Ev.seq (freezeLoop_ev ..) ?_ ?_
      | with_reducible apply Ev.seq (leaveAndRetrain_ev ..) ?_ ?_ | with_reducible apply Ev.seq (setReason_ev ..) ?_ ?_
      | with_reducible apply Ev.seq (settleFreezeBit_ev ..) ?_ ?_ | with_reducible apply Ev.ite ?_ ?_
      | with_reducible apply OutEv.next | dsimp only | with_reducible refine Ev.ofPair (by assumption) ?_ | contradiction
      | split)

def Fp.execLaneCtl : Side → Nat
  | .module => 0x300000000300010500000000000000000100004005100000000001000000000000000000000000000000000000000000000000000040000000000000000000041000000000000
  | .endpoint => 0x100000000300020a00020000028880000000000000000000000000000000000000000000000000000000000000000000000000000080000000000000000000082000000000000
theorem execLaneCtl_ev (sd : Side) (p : Nat) (pkt : Packet) (s : State) :
    OutEv (Fp.execLaneCtl sd) s (execLaneCtl sd p pkt s) := by
  cases sd <;> (
    unfold execLaneCtl
    repeat' first
      | with_reducible apply Ev.refl | with_reducible assumption | exact rfl
      | with_reducible apply Ev.seq (onLane_ev ..) ?_ ?_ | with_reducible apply Ev.seq (bump_ev _ _ _ _ ?_) ?_ ?_
      | with_reducible apply Ev.seq (consumeArrived_ev ..) ?_ ?_ | with_reducible apply Ev.seq (portSend_ev ..) ?_ ?_
      | with_reducible apply Ev.seq (serveRequest_ev ..) ?_ ?_ | with_reducible apply Ev.ite ?_ ?_
      | with_reducible apply OutEv.next | dsimp only | with_reducible refine Ev.ofPair (by assumption) ?_ | contradiction
      | split)

def Fp.execLaneCtlTimeout : Side → Nat
  | .module => 0x100000000000000000000000000000000000000000000000000000000000000000000000000000000000000000000000000000000000000000000000000000
  | .endpoint => 0x200000000000000000000000000000000000000000000000000000000000000000000000000000000000000000000000000000000000000000000000000000
theorem execLaneCtlTimeout_ev (sd : Side) (n : Nat) (s : State) :
    OutEv (Fp.execLaneCtlTimeout sd) s (execLaneCtlTimeout sd n s) := by
  cases sd <;> (
    unfold execLaneCtlTimeout
    repeat' first
      | with_reducible apply Ev.refl | with_reducible assumption | exact rfl
      | with_reducible apply Ev.seq (onLane_ev ..) ?_ ?_ | with_reducible apply Ev.ite ?_ ?_
      | with_reducible apply OutEv.next | dsimp only | contradiction | split)

def Fp.execSleepSignalLoss : Side → Nat
  | .module => 0x100000000000000000000000000000000000000000000000000000000000000000000000000000000000000000000000000000000000000041000000000000
  | .endpoint => 0x200000000000000000000000000000000000000000000000000000000000000000000000000000000000000000000000000000000000000082000000000000
theorem execSleepSignalLoss_ev (sd : Side) (n : Nat) (s : State) :
    OutEv (Fp.execSleepSignalLoss sd) s (execSleepSignalLoss sd n s) := by
  cases sd <;> (
    unfold execSleepSignalLoss
    repeat' first
      | with_reducible apply Ev.refl | with_reducible assumption | exact rfl
      | with_reducible apply Ev.seq (enterDetect_ev ..) ?_ ?_ | with_reducible apply Ev.ite ?_ ?_
      | with_reducible apply OutEv.next | dsimp only | contradiction | split)

def Fp.execLaneWake : Side → Nat
  | .module => 0x100000000000000000000000000000000000000000000000000000000000000000000000000000000000000000000000000000000000000041000000000000
  | .endpoint => 0x200000000000000000000000000000000000000000000000000000000000000000000000000000000000000000000000000000000000000082000000000000
theorem execLaneWake_ev (sd : Side) (n : Nat) (spanPs : Int) (s : State) :
    OutEv (Fp.execLaneWake sd) s (execLaneWake sd n spanPs s) := by
  cases sd <;> (
    unfold execLaneWake
    repeat' first
      | with_reducible apply Ev.refl | with_reducible assumption | exact rfl
      | with_reducible apply Ev.seq (onLane_ev ..) ?_ ?_ | with_reducible apply Ev.seq (enterDetect_ev ..) ?_ ?_
      | with_reducible apply Ev.seq (setLaneSt_ev ..) ?_ ?_ | with_reducible apply Ev.seq (setReason_ev ..) ?_ ?_
      | with_reducible apply Ev.ite ?_ ?_ | with_reducible apply OutEv.next | dsimp only | contradiction | split)

def Fp.execSleepControlBlock : Side → Nat
  | .module => 0x100000000000000000000000000000000000000000000000000000000000000000000000000000000000000000000000000000000000000000000000000000000000
  | .endpoint => 0x200000000000000000000000000000000000000000000000000000000000000000000000000000000000000000000000000000000000000000000000000000000000
theorem execSleepControlBlock_ev (sd : Side) (n : Nat) (s : State) :
    OutEv (Fp.execSleepControlBlock sd) s (execSleepControlBlock sd n s) := by
  cases sd <;> (
    unfold execSleepControlBlock
    repeat' first
      | with_reducible apply Ev.refl | with_reducible assumption | exact rfl | with_reducible apply Ev.seq (emit_ev ..) ?_ ?_
      | with_reducible apply Ev.ite ?_ ?_ | with_reducible apply OutEv.next | dsimp only | contradiction | split)

end Sys2Proof.Machine
end

