-- ==== Sys2Proof/Laws/EvTimeOps.lean ====
section
/-! SUPPORT. What the operations of Machine/TimeOps.lean may touch: one law for each, cited in place of unfolding it. The numbers are
sets of parts (Laws/Frame.lean, `Part.idx`). -/

set_option exponentiation.threshold 1024
set_option linter.unreachableTactic false
set_option linter.unusedTactic false

namespace Sys2Proof.Machine

def Fp.onSync : Side → Nat
  | .module => 0x1000000000000000000000000000000000000000000000000000000000000000000000000000000000000000000000000000000000000000000000000000000000
  | .endpoint => 0x2000000000000000000000000000000000000000000000000000000000000000000000000000000000000000000000000000000000000000000000000000000000
theorem onSync_ev (sd : Side) (f : SyncState → SyncState) (s : State) :
    Ev (Fp.onSync sd) s (onSync sd f s) := by
  cases sd <;> (
    unfold onSync
    repeat' first
      | with_reducible apply Ev.refl | with_reducible assumption | exact rfl
      | with_reducible apply Ev.seq (onUnit_ev _ _ _ ?_) (Sub.refl _) ?_
      | (constructor <;> first | exact .inl rfl | exact .inr rfl | exact rfl | exact fun h => h | exact fun _ => rfl)
      | dsimp only | contradiction | split)

def Fp.onTop : Nat := 0x8000000000000000000000000000000000000000000000000000000000000000000000000000000000000000000000000000000000000000000000000000000000000000000000
theorem onTop_ev (f : TopState → TopState) (s : State) :
    Ev Fp.onTop s (onTop f s) := by
  unfold onTop
  repeat' first
    | with_reducible apply Ev.refl | with_reducible assumption | exact rfl
    | with_reducible apply Ev.seq (onM_ev _ _ ?_) (Sub.refl _) ?_
    | (constructor <;> first | exact .inl rfl | exact .inr rfl | exact rfl | exact fun h => h | exact fun _ => rfl)
    | dsimp only | split

def Fp.onPower : Nat := 0x10000000000000000000000000000000000000000000000000000000000000000000000000000000000000000000000000000000000000000000000000000000000000000000000
theorem onPower_ev (f : PowerState → PowerState) (s : State) :
    Ev Fp.onPower s (onPower f s) := by
  unfold onPower
  repeat' first
    | with_reducible apply Ev.refl | with_reducible assumption | exact rfl
    | with_reducible apply Ev.seq (onM_ev _ _ ?_) (Sub.refl _) ?_
    | (constructor <;> first | exact .inl rfl | exact .inr rfl | exact rfl | exact fun h => h | exact fun _ => rfl)
    | dsimp only | split

def Fp.onExchange : Side → Nat
  | .module => 0x1000000000000000000000000000000000000000000000000000000000000000000000000000000000000000000000000000000000000000000000000000000000
  | .endpoint => 0x2000000000000000000000000000000000000000000000000000000000000000000000000000000000000000000000000000000000000000000000000000000000
theorem onExchange_ev (sd : Side) (p : Nat) (f : Exchange → Exchange) (s : State) :
    Ev (Fp.onExchange sd) s (onExchange sd p f s) := by
  cases sd <;> (
    unfold onExchange
    repeat' first
      | with_reducible apply Ev.refl | with_reducible assumption | exact rfl
      | with_reducible apply Ev.seq (onSync_ev ..) ?_ ?_ | dsimp only | contradiction | split)

def Fp.sendTime : Nat := 0x100000000000000400000000000000000000000000000000000000000000000000000000000000000000000000000000000000000000000000000000000000000000000000000
theorem sendTime_ev (p : Nat) (op : BitVec 8) (seq : Nat) (time : Nat) (s : State) :
    Ev Fp.sendTime s (sendTime p op seq time s) := by
  unfold sendTime
  repeat' first
    | with_reducible apply Ev.refl | with_reducible assumption | exact rfl
    | with_reducible apply Ev.seq (portSend_ev ..) ?_ ?_ | dsimp only | split

def Fp.sendDelayReq : Side → Nat
  | .module => 0x100000000001000400000000000000000000000000000000000000000000000000000000000000000000000000000000000000000000000000000000000000000000000000000
  | .endpoint => 0x100000000002000800000000000000000000000000000000000000000000000000000000000000000000000000000000000000000000000000000000000000000000000000000
theorem sendDelayReq_ev (sd : Side) (p : Nat) (seq : Nat) (t3 : Nat) (s : State) :
    Ev (Fp.sendDelayReq sd) s (sendDelayReq sd p seq t3 s) := by
  cases sd <;> (
    unfold sendDelayReq
    repeat' first
      | with_reducible apply Ev.refl | with_reducible assumption | exact rfl
      | with_reducible apply Ev.seq (onExchange_ev ..) ?_ ?_ | with_reducible apply Ev.seq (portSend_ev ..) ?_ ?_
      | dsimp only | contradiction | split)

def Fp.enterTop : Nat := 0x200000000100010000000000000000000100004005100000000001000000001000400000000000000000000000000000000000000000000000000000000000000000000000000
theorem enterTop_ev (st : Nat) (s : State) :
    Ev Fp.enterTop s (enterTop st s) := by
  unfold enterTop
  repeat' first
    | with_reducible apply Ev.refl | with_reducible assumption | exact rfl
    | with_reducible apply Ev.seq (wr_ev _ _ _ _ _ ?_) ?_ ?_ | with_reducible apply Ev.seq (bump_ev _ _ _ _ ?_) ?_ ?_
    | with_reducible apply Ev.seq (raiseSource_ev ..) ?_ ?_ | with_reducible apply Ev.ite ?_ ?_ | dsimp only | split

def Fp.lockTop : Nat := 0x200000000100010000000000000000000100004005100000000001000000001000400000000000000000000000000000000000000000000000000000000000000000000000000
theorem lockTop_ev (s : State) :
    Ev Fp.lockTop s (lockTop s) := by
  unfold lockTop
  repeat' first
    | with_reducible apply Ev.refl | with_reducible assumption | exact rfl
    | with_reducible apply Ev.seq (wr_ev _ _ _ _ _ ?_) ?_ ?_ | with_reducible apply Ev.seq (enterTop_ev ..) ?_ ?_
    | dsimp only | split

def Fp.settleSource : Nat := 0x200000000101010000000000000000000100004005100000000001000000001000400000000000000000000000000000000000000000000000000000000000000000000000000
theorem settleSource_ev (s : State) :
    Ev Fp.settleSource s (settleSource s) := by
  unfold settleSource
  repeat' first
    | with_reducible apply Ev.refl | with_reducible assumption | exact rfl
    | with_reducible apply Ev.seq (wr_ev _ _ _ _ _ ?_) ?_ ?_ | with_reducible apply Ev.seq (enterTop_ev ..) ?_ ?_
    | with_reducible apply Ev.seq (lockTop_ev ..) ?_ ?_ | with_reducible apply Ev.seq (onSync_ev ..) ?_ ?_
    | with_reducible apply Ev.ite ?_ ?_ | dsimp only | with_reducible refine Ev.ofPair (by assumption) ?_ | split

def Fp.addTime : Side → Nat
  | .module => 0x400000000000000000000000000000000000000000000000000000000000000000000000000000000000000000000000000000000000000000000000000000000
  | .endpoint => 0x800000000000000000000000000000000000000000000000000000000000000000000000000000000000000000000000000000000000000000000000000000000
theorem addTime_ev (sd : Side) (d : Int) (s : State) : Ev (Fp.addTime sd) s (addTime sd d s) := by
  have hb : ((((s.unit sd).time : Int) + d) % (2 ^ 80 : Int)).toNat < 2 ^ 80 := by
    have h1 := Int.emod_nonneg (((s.unit sd).time : Int) + d) (show (2 ^ 80 : Int) ≠ 0 by decide)
    have h2 := Int.emod_lt_of_pos (((s.unit sd).time : Int) + d) (show (0 : Int) < 2 ^ 80 by decide)
    omega
  cases sd <;> exact onUnit_ev _ _ _ (by
    constructor <;> first | rfl | exact .inr rfl | exact .inl ⟨rfl, fun _ => hb⟩)

def Fp.passLaunches : Nat := 0x10000000000000000000000000000000000000000000000000000000000000000000000000000000000000000000000000000000000000000000000000000000000000000000000000000000
theorem passLaunches_ev (s : State) :
    Ev Fp.passLaunches s (passLaunches s) := by
  unfold passLaunches
  repeat' first
    | with_reducible apply Ev.refl | with_reducible assumption | exact rfl
    | with_reducible apply Ev.seq (onColl_ev ..) ?_ ?_ | with_reducible apply Ev.ite ?_ ?_ | dsimp only
    | with_reducible refine Ev.ofPair (by assumption) ?_ | split

def Fp.stepTime : Side → Nat
  | .module => 0x200000000101410000000000000000000100004005100000000001000000000400400000000000000000000000000000000000000000000000000000000000000000000000000
  | .endpoint => 0x10000000000000000000202820000020000028880000000000000000000000000000000000000000000000000000000000000000000000000000000000000000000000000000000000000000
theorem stepTime_ev (sd : Side) (off : Int) (s : State) :
    Ev (Fp.stepTime sd) s (stepTime sd off s) := by
  cases sd <;> (
    unfold stepTime
    repeat' first
      | with_reducible apply Ev.refl | with_reducible assumption | exact rfl
      | with_reducible apply Ev.seq (wrb_ev _ _ _ _ _ ?_) ?_ ?_ | with_reducible apply Ev.seq (bump_ev _ _ _ _ ?_) ?_ ?_
      | with_reducible apply Ev.seq (addTime_ev ..) ?_ ?_ | with_reducible apply Ev.seq (logEvent_ev ..) ?_ ?_
      | with_reducible apply Ev.seq (onSync_ev ..) ?_ ?_ | with_reducible apply Ev.seq (passLaunches_ev ..) ?_ ?_
      | with_reducible apply Ev.seq (raiseSource_ev ..) ?_ ?_ | dsimp only
      | with_reducible refine Ev.ofPair (by assumption) ?_ | contradiction | split)

def Fp.correctTime : Side → Nat
  | .module => 0x200000000101410000000000000000000100004005100000000001000000000400400000000000000000000000000000000000000000000000000000000000000000000000000
  | .endpoint => 0x10000000000000000000202820000020000028880000000000000000000000000000000000000000000000000000000000000000000000000000000000000000000000000000000000000000
theorem correctTime_ev (sd : Side) (off : Int) (s : State) :
    Ev (Fp.correctTime sd) s (correctTime sd off s) := by
  cases sd <;> (
    unfold correctTime
    repeat' first
      | with_reducible apply Ev.refl | with_reducible assumption | exact rfl
      | with_reducible apply Ev.seq (onSync_ev ..) ?_ ?_ | with_reducible apply Ev.seq (stepTime_ev ..) ?_ ?_
      | with_reducible apply Ev.ite ?_ ?_ | dsimp only | contradiction | split)

def Fp.filterTime : Side → Nat
  | .module => 0x1000000000000000000000000000000000000000000000000000040000000000000000000000000000000000000000000000000000000000000000000000000000
  | .endpoint => 0x2000000000000000000000000000000000000000000000000000000000000000000000000000000000000000000000000000000000000000000000000000000000
theorem filterTime_ev (sd : Side) (off : Int) (s : State) :
    Ev (Fp.filterTime sd) s (filterTime sd off s) := by
  cases sd <;> (
    unfold filterTime
    repeat' first
      | with_reducible apply Ev.refl | with_reducible assumption | exact rfl
      | with_reducible apply Ev.seq (wr_ev _ _ _ _ _ ?_) ?_ ?_ | with_reducible apply Ev.seq (onSync_ev ..) ?_ ?_
      | with_reducible apply Ev.ite ?_ ?_ | dsimp only | with_reducible refine Ev.ofPair (by assumption) ?_ | contradiction
      | split)

def Fp.settleLock : Nat := 0x200000000100010000000000000000000100004005100000000001000000001000400000000000000000000000000000000000000000000000000000000000000000000000000
theorem settleLock_ev (need : Nat) (s : State) :
    Ev Fp.settleLock s (settleLock need s) := by
  unfold settleLock
  repeat' first
    | with_reducible apply Ev.refl | with_reducible assumption | exact rfl
    | with_reducible apply Ev.seq (lockTop_ev ..) ?_ ?_ | with_reducible apply Ev.ite ?_ ?_ | dsimp only | split

def Fp.treeOffset : Nat := 0x200000000101410000000000000000000100004005100000000001000000000440400000000000000000000000000000000000000000000000000000000000000000000000000
theorem treeOffset_ev (off : Int) (s : State) :
    Ev Fp.treeOffset s (treeOffset off s) := by
  unfold treeOffset
  repeat' first
    | with_reducible apply Ev.refl | with_reducible assumption | exact rfl
    | with_reducible apply Ev.seq (correctTime_ev ..) ?_ ?_ | with_reducible apply Ev.seq (filterTime_ev ..) ?_ ?_
    | with_reducible apply Ev.seq (logModule_ev ..) ?_ ?_ | with_reducible apply Ev.ite ?_ ?_ | dsimp only | split

def Fp.takeOffset : Side → Nat
  | .module => 0x200000000101410000000000000000000100004005100000000001000000001440400000000000000000000000000000000000000000000000000000000000000000000000000
  | .endpoint => 0x30000000000000000000202820000020000028880000000000000000000000000000000000000000000000000000000000000000000000000000000000000000000000000000000000000000
theorem takeOffset_ev (sd : Side) (p : Nat) (off : Int) (s : State) :
    Ev (Fp.takeOffset sd) s (takeOffset sd p off s) := by
  cases sd <;> (
    unfold takeOffset
    repeat' first
      | with_reducible apply Ev.refl | with_reducible assumption | exact rfl
      | with_reducible apply Ev.seq (onE_ev _ _ ?_) (Sub.refl _) ?_ | with_reducible apply Ev.seq (correctTime_ev ..) ?_ ?_
      | with_reducible apply Ev.seq (filterTime_ev ..) ?_ ?_ | with_reducible apply Ev.seq (settleLock_ev ..) ?_ ?_
      | with_reducible apply Ev.seq (treeOffset_ev ..) ?_ ?_ | with_reducible apply Ev.ite ?_ ?_
      | (constructor <;> first | exact .inl rfl | exact .inr rfl | exact rfl | exact fun h => h | exact fun _ => rfl)
      | dsimp only | with_reducible refine Ev.ofPair (by assumption) ?_ | contradiction | split)

def Fp.loseSource : Nat := 0x200000000101010000000000000000000100004005100000000001000000001000400000000000000000000000000000000000000000000000000000000000000000000000000
theorem loseSource_ev (s : State) :
    Ev Fp.loseSource s (loseSource s) := by
  unfold loseSource
  repeat' first
    | with_reducible apply Ev.refl | with_reducible assumption | exact rfl
    | with_reducible apply Ev.seq (enterTop_ev ..) ?_ ?_ | with_reducible apply Ev.seq (settleSource_ev ..) ?_ ?_
    | with_reducible apply Ev.ite ?_ ?_ | dsimp only | split

def Fp.followLeaf : Nat := 0x2000000000000000000000000000000000000000000000000000000000000000000000000000000000000000000000000000000000000000000000000000000000
theorem followLeaf_ev (p : Nat) (s : State) :
    Ev Fp.followLeaf s (followLeaf p s) := by
  unfold followLeaf
  repeat' first
    | with_reducible apply Ev.refl | with_reducible assumption | exact rfl
    | with_reducible apply Ev.seq (onSync_ev ..) ?_ ?_ | dsimp only | split

def Fp.chooseLeaf : Nat := 0x2000000000000000000000000000000000000000000000000000000000000000000000000000000000000000000000000000000000000000000000000000000000
theorem chooseLeaf_ev (p : Nat) (flags : Nat) (s : State) :
    Ev Fp.chooseLeaf s (chooseLeaf p flags s) := by
  unfold chooseLeaf
  repeat' first
    | with_reducible apply Ev.refl | with_reducible assumption | exact rfl
    | with_reducible apply Ev.seq (followLeaf_ev ..) ?_ ?_ | with_reducible apply Ev.seq (onSync_ev ..) ?_ ?_
    | with_reducible apply Ev.ite ?_ ?_ | dsimp only | with_reducible refine Ev.ofPair (by assumption) ?_ | split

end Sys2Proof.Machine
end

