-- ==== Sys2Proof/Laws/EvIsolate.lean ====
section
/-! SUPPORT. What the operations of Machine/Isolate.lean may touch: one law for each, cited in place of unfolding it. The numbers are
sets of parts (Laws/Frame.lean, `Part.idx`). -/

set_option exponentiation.threshold 1024
set_option linter.unreachableTactic false
set_option linter.unusedTactic false

namespace Sys2Proof.Machine

def Fp.onLive : Nat := 0x80000000000000000000000000000000000000000000000000000000000000000000000000000000000000000000000000000000000000000000000000000000000000000000000
theorem onLive_ev (f : LiveState → LiveState) (s : State) :
    Ev Fp.onLive s (onLive f s) := by
  unfold onLive
  repeat' first
    | with_reducible apply Ev.refl | with_reducible assumption | exact rfl
    | with_reducible apply Ev.seq (onM_ev _ _ ?_) (Sub.refl _) ?_
    | (constructor <;> first | exact .inl rfl | exact .inr rfl | exact rfl | exact fun h => h | exact fun _ => rfl)
    | dsimp only | split

def Fp.isolate : Nat := 0x3f0000f000310130c00020000028880000100044005100000000001000000000000000000000000000000410100054445500000000000000000000054400c00000015050400001
theorem isolate_ev (p : Nat) (s : State) :
    Ev Fp.isolate s (isolate p s) := by
  unfold isolate
  repeat' first
    | with_reducible apply Ev.refl | with_reducible assumption | exact rfl
    | with_reducible apply Ev.seq (failChild_ev ..) ?_ ?_ | with_reducible apply Ev.seq (leafLosesSlot_ev ..) ?_ ?_
    | with_reducible apply Ev.seq (requeuePort_ev ..) ?_ ?_ | with_reducible apply Ev.seq (serveAll_ev ..) ?_ ?_
    | dsimp only | with_reducible refine Ev.ofPair (by assumption) ?_ | split

def Fp.quarantine : Nat := 0x3f0000f000310130c00020000028880000100045015100000000001000000000000000000000000000000410100054445500000000000000000000054400c00000015050400001
theorem quarantine_ev (p : Nat) (s : State) :
    Ev Fp.quarantine s (quarantine p s) := by
  unfold quarantine
  repeat' first
    | with_reducible apply Ev.refl | with_reducible assumption | exact rfl
    | with_reducible apply Ev.seq (isolate_ev ..) ?_ ?_ | with_reducible apply Ev.seq (markQuarantine_ev ..) ?_ ?_
    | with_reducible apply Ev.ite ?_ ?_ | dsimp only | split

def Fp.evidence : Nat := 0x83f0000f000310130c00020000028880000100045015100000000001000000000000000000000000000000410100054445500000000000000000000054400c00000015050400001
theorem evidence_ev (p : Nat) (bit : Nat) (s : State) :
    Ev Fp.evidence s (evidence p bit s) := by
  unfold evidence
  repeat' first
    | with_reducible apply Ev.refl | with_reducible assumption | exact rfl
    | with_reducible apply Ev.seq (quarantine_ev ..) ?_ ?_ | with_reducible apply Ev.seq (setEvidence_ev ..) ?_ ?_
    | with_reducible apply Ev.ite ?_ ?_ | dsimp only | split

def Fp.slotEvidence : Nat := 0x83f0000f000310130c00020000028880000100045015100000000001000000000000000000000000000000410100054445500000000000000000000054400c00000015050400001
theorem slotEvidence_ev (k : Nat) (bit : Nat) (s : State) :
    Ev Fp.slotEvidence s (slotEvidence k bit s) := by
  unfold slotEvidence
  repeat' first
    | with_reducible apply Ev.refl | with_reducible assumption | exact rfl
    | with_reducible apply Ev.seq (evidence_ev ..) ?_ ?_ | with_reducible apply Ev.ite ?_ ?_ | dsimp only | split

def Fp.fatalFault : Nat := 0x80f00000000100110500000000000000000100045005140000000001000000000000000000000000000000000000000100000000000000000000000054410050041000000000000
theorem fatalFault_ev (structure' : Nat) (detail : Nat) (s : State) :
    Ev Fp.fatalFault s (fatalFault structure' detail s) := by
  unfold fatalFault
  repeat' first
    | with_reducible apply Ev.refl | with_reducible assumption | exact rfl
    | with_reducible apply Ev.seq (wrb_ev _ _ _ _ _ ?_) ?_ ?_ | with_reducible apply Ev.seq (logModule_ev ..) ?_ ?_
    | with_reducible apply Ev.seq (portDown_ev ..) ?_ ?_ | with_reducible apply Ev.foldl (fun _ _ => ?_) ?_
    | with_reducible apply Ev.foldlSnd (fun _ _ => ?_) ?_ | dsimp only | split

def Fp.readmit : Nat := 0x200000000100010000000000000000000100005005100000000000000000000000000000000000000000000000000000000000000000000000000000000000000000000000000
theorem readmit_ev (p : Nat) (nonce : Nat) (s : State) :
    Ev Fp.readmit s (readmit p nonce s) := by
  unfold readmit
  repeat' first
    | with_reducible apply Ev.refl | with_reducible assumption | exact rfl
    | with_reducible apply Ev.seq (wr_ev _ _ _ _ _ ?_) ?_ ?_ | with_reducible apply Ev.seq (logModule_ev ..) ?_ ?_
    | dsimp only | split

def Fp.markDead : Side → Nat
  | .module => 0x93763b0000700000000330170c0002000002888000015404400510000000000100000000000000000000000000000000000000000000000000000c00c000000054000000000000000000000
  | .endpoint => 0x93763b00007000000003301b0c0002000002888000015404400510000000000100000000000000000000000000000000000000000000000000000c00c000000054000000000000000000000
theorem markDead_ev (sd : Side) (e : Eid) (s : State) :
    Ev (Fp.markDead sd) s (markDead sd e s) := by
  cases sd <;> (
    unfold markDead
    repeat' first
      | with_reducible apply Ev.refl | with_reducible assumption | exact rfl
      | with_reducible apply Ev.seq (onUnit_ev _ _ _ ?_) (Sub.refl _) ?_
      | with_reducible apply Ev.seq (endToDead_ev ..) ?_ ?_ | with_reducible apply Ev.seq (settle_ev ..) ?_ ?_
      | with_reducible apply Ev.ite ?_ ?_
      | (constructor <;> first | exact .inl rfl | exact .inr rfl | exact rfl | exact fun h => h | exact fun _ => rfl)
      | dsimp only | contradiction | split)

def Fp.unmarkDead : Side → Nat
  | .module => 0x40000000000000000000000000000000000000000000000000000000000000000000000000000000000000000000000000000000000000000000000000000000
  | .endpoint => 0x80000000000000000000000000000000000000000000000000000000000000000000000000000000000000000000000000000000000000000000000000000000
theorem unmarkDead_ev (sd : Side) (e : Eid) (s : State) :
    Ev (Fp.unmarkDead sd) s (unmarkDead sd e s) := by
  cases sd <;> (
    unfold unmarkDead
    repeat' first
      | with_reducible apply Ev.refl | with_reducible assumption | exact rfl
      | with_reducible apply Ev.seq (onUnit_ev _ _ _ ?_) (Sub.refl _) ?_
      | (constructor <;> first | exact .inl rfl | exact .inr rfl | exact rfl | exact fun h => h | exact fun _ => rfl)
      | dsimp only | contradiction | split)

end Sys2Proof.Machine
end

