-- ==== Sys2Proof/Laws/EvSlotOps.lean ====
section
/-! SUPPORT. What the operations of Machine/SlotOps.lean may touch: one law for each, cited in place of unfolding it. The numbers are
sets of parts (Laws/Frame.lean, `Part.idx`). -/

set_option exponentiation.threshold 1024
set_option linter.unreachableTactic false
set_option linter.unusedTactic false

namespace Sys2Proof.Machine

def Fp.onSec : Nat := 0x40000000000000000000000000000000000000000000000000000000000000000000000000000000000000000000000000000000000000000000000000000000000000000000000
theorem onSec_ev (f : SecState → SecState) (s : State) :
    Ev Fp.onSec s (onSec f s) := by
  unfold onSec
  repeat' first
    | with_reducible apply Ev.refl | with_reducible assumption | exact rfl
    | with_reducible apply Ev.seq (onM_ev _ _ ?_) (Sub.refl _) ?_
    | (constructor <;> first | exact .inl rfl | exact .inr rfl | exact rfl | exact fun h => h | exact fun _ => rfl)
    | dsimp only | split

def Fp.setSlot : Side → Nat
  | .module => 0x40000000000000000000000000000000004000000040000000000000000000000000000000000000000000000000000000000000000000000000000000000000000
  | .endpoint => 0x80000000000000000000000000000000000000000000000000000000000000000000000000000000000000000000000000000000000000000000000000000000000
theorem slotWord_ok (x : KeySlot) : slotWord x &&& ~~~(definedBits .secSlot 0) = 0 := by
  rw [show definedBits .secSlot 0 = 0xFFF1FFFFFFFFFFFF#64 from by decide]
  unfold slotWord
  refine withBits_mask _ _ _ _ _ ?_ (by decide)
  refine withBits_mask _ _ _ _ _ (withBits_mask _ _ _ _ _ ?_ (by decide)) (by decide)
  refine withBits_mask _ _ _ _ _ (withBits_mask _ _ _ _ _ (withBits_mask _ _ _ _ _ ?_ (by decide)) (by decide)) (by decide)
  exact withBits_mask _ _ _ _ _ (withBits_mask _ _ _ _ _ (withBits_mask _ _ _ _ _ (by decide) (by decide)) (by decide)) (by decide)

theorem setSlot_ev (sd : Side) (k : Nat) (x : KeySlot) (s : State) :
    Ev (Fp.setSlot sd) s (setSlot sd k x s) := by
  cases sd <;> (
    unfold setSlot
    repeat' first
      | with_reducible apply Ev.refl | with_reducible assumption | exact rfl | decide | exact fullWord _ (by decide)
      | exact maskedWord (by decide) | exact zeroWord
      | exact fun hz => withBits_mask _ _ _ _ _ (hz _ _ _ _ (by decide)) (by decide) | exact fun _ => slotWord_ok _
      | with_reducible apply Ev.seq (wr_ev _ _ _ _ _ ?_) ?_ ?_
      | with_reducible apply Ev.seq (setWord_ev _ _ _ _ _ _ ?_ ?_) ?_ ?_
      | with_reducible apply Ev.seq (onUnit_ev _ _ _ ?_) (Sub.refl _) ?_
      | (constructor <;> first | exact .inl rfl | exact .inr rfl | exact rfl | exact fun h => h | exact fun _ => rfl)
      | dsimp only | with_reducible refine Ev.ofPair (by assumption) ?_ | contradiction | split)

def Fp.forgetSteps : Nat := 0x10000000000000000000000000000000000000000000000000000000000000000000000000000000000000000000000000000000000000000000000000000000000000000000000000000000
theorem forgetSteps_ev (k : Nat) (s : State) :
    Ev Fp.forgetSteps s (forgetSteps k s) := by
  unfold forgetSteps
  repeat' first
    | with_reducible apply Ev.refl | with_reducible assumption | exact rfl
    | with_reducible apply Ev.seq (onE_ev _ _ ?_) (Sub.refl _) ?_
    | (constructor <;> first | exact .inl rfl | exact .inr rfl | exact rfl | exact fun h => h | exact fun _ => rfl)
    | dsimp only | split

def Fp.loadSlot : Side → Nat
  | .module => 0x40000000000040000000000000000000000000000000004000000050000000000000000000000000000000000000000000000000000000000000000000000000000000000000000
  | .endpoint => 0x10000000000000000000080000000000000000000000000000000000000000000000000000000000000000000000000000000000000000000000000000000000000000000000000000000000
theorem loadSlot_ev (sd : Side) (k : Nat) (epoch : Nat) (cls : Nat) (engineOk : Bool) (progOk : Bool) (own : List Byte) (l : List Byte) (s : State) :
    Ev (Fp.loadSlot sd) s (loadSlot sd k epoch cls engineOk progOk own l s) := by
  cases sd <;> (
    unfold loadSlot
    repeat' first
      | with_reducible apply Ev.refl | with_reducible assumption | exact rfl
      | with_reducible apply Ev.seq (wrb_ev _ _ _ _ _ ?_) ?_ ?_ | with_reducible apply Ev.seq (forgetSteps_ev ..) ?_ ?_
      | with_reducible apply Ev.seq (onSec_ev ..) ?_ ?_ | with_reducible apply Ev.seq (setSlot_ev ..) ?_ ?_
      | with_reducible apply Ev.ite ?_ ?_ | dsimp only | with_reducible refine Ev.ofPair (by assumption) ?_ | contradiction
      | split)

def Fp.keyLoad : Side → Nat
  | .module => 0x40000000000040000000000000000000000000000000004000000050000000000000000000000000000000000000000000000000000000000000000000000000000000000000000
  | .endpoint => 0x10000000000000000000080000000000000000000000000000000000000000000000000000000000000000000000000000000000000000000000000000000000000000000000000000000000
theorem keyLoad_ev (sd : Side) (k : Nat) (epoch : Nat) (cls : Nat) (engineOk : Bool) (progOk : Bool) (own : List Byte) (secret : List Byte) (wrapped : List Byte) (s : State) :
    Ev (Fp.keyLoad sd) s (keyLoad sd k epoch cls engineOk progOk own secret wrapped s).2 := by
  cases sd <;> (
    unfold keyLoad
    repeat' first
      | with_reducible apply Ev.refl | with_reducible assumption | exact rfl
      | with_reducible apply Ev.seq (loadSlot_ev ..) ?_ ?_ | with_reducible apply Ev.ite ?_ ?_ | dsimp only
      | with_reducible refine Ev.ofPair (by assumption) ?_ | contradiction | split)

def Fp.activateOrd : Side → Nat
  | .module => 0x40000000000000000000000000000000004000000040000000000000000000000000000000000000000000000000000000000000000000000000000000000000000
  | .endpoint => 0x80000000000000000000000000000000000000000000000000000000000000000000000000000000000000000000000000000000000000000000000000000000000
theorem activateOrd_ev (sd : Side) (k : Nat) (epoch : Nat) (s : State) :
    Ev (Fp.activateOrd sd) s (activateOrd sd k epoch s).2 := by
  cases sd <;> (
    unfold activateOrd
    repeat' first
      | with_reducible apply Ev.refl | with_reducible assumption | exact rfl
      | with_reducible apply Ev.seq (setSlot_ev ..) ?_ ?_ | with_reducible apply Ev.ite ?_ ?_ | dsimp only | contradiction
      | split)

def Fp.writeRecordOnly : Nat := 0x20000f000100010000000000000000000100004005100000000001000000000000000000000000000000000000000004000000000000000000000000000000000000000000000
theorem writeRecordOnly_ev (c : MrnChunk) (s : State) :
    Ev Fp.writeRecordOnly s (writeRecordOnly c s) := by
  unfold writeRecordOnly
  repeat' first
    | with_reducible apply Ev.refl | with_reducible assumption | exact rfl
    | with_reducible apply Ev.seq (moduleWrite_ev ..) ?_ ?_ | dsimp only
    | with_reducible refine Ev.ofPair (by assumption) ?_ | split

def Fp.endSlotModule : Nat := 0x320140f000110010000000000000000000100004005100000000001000000000000044000000000000000410000054004000000000000000000000000000000000015050400001
theorem endSlotModule_ev (k : Nat) (e : Nat) (s : State) :
    Ev Fp.endSlotModule s (endSlotModule k e s) := by
  unfold endSlotModule
  repeat' first
    | with_reducible apply Ev.refl | with_reducible assumption | exact rfl
    | with_reducible apply Ev.seq (dropChunks_ev ..) ?_ ?_ | with_reducible apply Ev.seq (endCmd_ev ..) ?_ ?_
    | with_reducible apply Ev.seq (endProgram_ev ..) ?_ ?_ | with_reducible apply Ev.seq (writeRecordOnly_ev ..) ?_ ?_
    | with_reducible apply Ev.ite ?_ ?_ | with_reducible apply Ev.foldl (fun _ _ => ?_) ?_
    | with_reducible apply Ev.foldlSnd (fun _ _ => ?_) ?_ | dsimp only | with_reducible refine Ev.ofPair (by assumption) ?_
    | split

def Fp.abortTrig : Nat := 0xc000000000000000002000200000280000288a0000000000000000000000000000000000000000000000000000000000000000000000000000000000000000000000000000000000000000
theorem abortTrig_ev (s : State) (t : TrigOp) :
    Ev Fp.abortTrig s (abortTrig s t) := by
  unfold abortTrig
  repeat' first
    | with_reducible apply Ev.refl | with_reducible assumption | exact rfl
    | with_reducible apply Ev.seq (onE_ev _ _ ?_) (Sub.refl _) ?_ | with_reducible apply Ev.seq (domFail_ev ..) ?_ ?_
    | (constructor <;> first | exact .inl rfl | exact .inr rfl | exact rfl | exact fun h => h | exact fun _ => rfl)
    | dsimp only | split

def Fp.endSlotEndpoint : Nat := 0x11c083b00000000000002200200000280000288a0000000000000000000000000000000000000000000000000000000000000000000000000000000000000000000000000000000000000000
theorem endSlotEndpoint_ev (k : Nat) (e : Nat) (s : State) :
    Ev Fp.endSlotEndpoint s (endSlotEndpoint k e s) := by
  unfold endSlotEndpoint
  repeat' first
    | with_reducible apply Ev.refl | with_reducible assumption | exact rfl
    | with_reducible apply Ev.seq (abortTrig_ev ..) ?_ ?_ | with_reducible apply Ev.seq (endAcc_ev ..) ?_ ?_
    | with_reducible apply Ev.seq (endChunks_ev ..) ?_ ?_ | with_reducible apply Ev.seq (trigEnds_ev ..) ?_ ?_
    | with_reducible apply Ev.foldl (fun _ _ => ?_) ?_ | with_reducible apply Ev.foldlSnd (fun _ _ => ?_) ?_ | dsimp only
    | split

def Fp.endSlotOps : Side → Nat
  | .module => 0x93763b000370140f000330130c0002000002888000015404400510000000000100000000000004400000000000000041000005400400000000000c00c000000054000000000015050400001
  | .endpoint => 0x19f7e3b0000700000000330130c000280000288a000015404400510000000000100000000000000000000000000000000000000000000000000000c00c000000054000000000000000000000
theorem endSlotOps_ev (sd : Side) (k : Nat) (e : Nat) (s : State) :
    Ev (Fp.endSlotOps sd) s (endSlotOps sd k e s) := by
  cases sd <;> (
    unfold endSlotOps
    repeat' first
      | with_reducible apply Ev.refl | with_reducible assumption | exact rfl
      | with_reducible apply Ev.seq (endOps_ev ..) ?_ ?_ | with_reducible apply Ev.seq (endSlotEndpoint_ev ..) ?_ ?_
      | with_reducible apply Ev.seq (endSlotModule_ev ..) ?_ ?_ | with_reducible apply Ev.seq (settleBoth_ev ..) ?_ ?_
      | dsimp only | with_reducible refine Ev.ofPair (by assumption) ?_ | contradiction | split)

def Fp.retireStatus : Nat := 0x1000000000000000000000000000000000000000000000000000000000000000000000000000000000000000000
theorem retireStatus_ev (k : Nat) (st : Status) (s : State) :
    Ev Fp.retireStatus s (retireStatus k st s) := by
  unfold retireStatus
  repeat' first
    | with_reducible apply Ev.refl | with_reducible assumption | exact rfl
    | with_reducible apply Ev.seq (wr_ev _ _ _ _ _ ?_) ?_ ?_ | with_reducible apply Ev.seq (wrb_ev _ _ _ _ _ ?_) ?_ ?_
    | dsimp only | split

def Fp.retireSlot : Side → Nat
  | .module => 0x93763b004370140f000370130c0002000002888000015404400510400000004100000000000004400000000000000041000005400400000000000c00c000000054000000000015050400001
  | .endpoint => 0x19f7e3b00007000000003b0130c000280000288a000015404400510000000000100000000000000000000000000000000000000000000000000000c00c000000054000000000000000000000
theorem retireSlot_ev (sd : Side) (k : Nat) (e : Nat) (s : State) :
    Ev (Fp.retireSlot sd) s (retireSlot sd k e s).2 := by
  cases sd <;> (
    unfold retireSlot
    repeat' first
      | with_reducible apply Ev.refl | with_reducible assumption | exact rfl
      | with_reducible apply Ev.seq (endSlotOps_ev ..) ?_ ?_ | with_reducible apply Ev.seq (onSec_ev ..) ?_ ?_
      | with_reducible apply Ev.seq (setSlot_ev ..) ?_ ?_ | with_reducible apply Ev.ite ?_ ?_ | dsimp only
      | with_reducible refine Ev.ofPair (by assumption) ?_ | contradiction | split)

def Fp.scrubLines : Nat := 0xf00000000100110400000000000000000100044005100000000001000000000000000000000000000000000000000000500000000000000000000054000000000000000000000
theorem scrubLines_ev (s : State) :
    Ev Fp.scrubLines s (scrubLines s) := by
  unfold scrubLines
  repeat' first
    | with_reducible apply Ev.refl | with_reducible assumption | exact rfl
    | with_reducible apply Ev.seq (bump_ev _ _ _ _ ?_) ?_ ?_ | with_reducible apply Ev.seq (homeTseq_ev ..) ?_ ?_
    | with_reducible apply Ev.seq (putEntry_ev ..) ?_ ?_ | with_reducible apply Ev.seq (sendSnoops_ev ..) ?_ ?_
    | with_reducible apply Ev.foldl (fun _ _ => ?_) ?_ | with_reducible apply Ev.foldlSnd (fun _ _ => ?_) ?_ | dsimp only
    | with_reducible refine Ev.ofPair (by assumption) ?_ | split

def Fp.zeroizeSlot : Side → Nat
  | .module => 0xf00000000140110400000000000000000100044005104000000041000000000000000000000000000000000000000000500000000000000000000054000000000000000000000
  | .endpoint => 0x80000000000000000000000000000000000000000000000000000000000000000000000000000000000000000000000000000000000000000000000000000000000
theorem zeroizeSlot_ev (sd : Side) (k : Nat) (s : State) :
    Ev (Fp.zeroizeSlot sd) s (zeroizeSlot sd k s) := by
  cases sd <;> (
    unfold zeroizeSlot
    repeat' first
      | with_reducible apply Ev.refl | with_reducible assumption | exact rfl
      | with_reducible apply Ev.seq (scrubLines_ev ..) ?_ ?_ | with_reducible apply Ev.seq (setSlot_ev ..) ?_ ?_ | dsimp only
      | with_reducible refine Ev.ofPair (by assumption) ?_ | contradiction | split)

def Fp.zeroFill : Nat := 0x1d000000000000000000000000000000000000000000000000000000000000000000000000000000000000000000000000000000000000000000000000000000000000000
theorem zeroFill_ev (key : Nat) (lo : Nat) (n : Nat) (s : State) :
    Ev Fp.zeroFill s (zeroFill key lo n s) := by
  unfold zeroFill
  repeat' first
    | with_reducible apply Ev.refl | with_reducible assumption | exact rfl
    | with_reducible apply Ev.seq (onPool_ev _ _ ?_) (Sub.refl _) ?_ | with_reducible apply Ev.ite ?_ ?_
    | (constructor <;> first | exact .inl rfl | exact fun h => filter_wf _ _ h | exact .inr rfl | exact rfl | exact fun h => h | exact fun _ => rfl)
    | dsimp only | split

def Fp.scrubModule : Nat := 0x320801d000100010000000000000000000100004005100000000001000000000000000000000000000000410000054000000000000000000000000000000000000015050400001
theorem scrubModule_ev (k : Nat) (e : Nat) (s : State) :
    Ev Fp.scrubModule s (scrubModule k e s) := by
  unfold scrubModule
  repeat' first
    | with_reducible apply Ev.refl | with_reducible assumption | exact rfl
    | with_reducible apply Ev.seq (onEng_ev _ _ ?_) (Sub.refl _) ?_ | with_reducible apply Ev.seq (dropChunks_ev ..) ?_ ?_
    | with_reducible apply Ev.seq (onMrn_ev ..) ?_ ?_ | with_reducible apply Ev.seq (zeroFill_ev ..) ?_ ?_
    | with_reducible apply Ev.foldl (fun _ _ => ?_) ?_ | with_reducible apply Ev.foldlSnd (fun _ _ => ?_) ?_
    | (constructor <;> first | exact .inl rfl | exact fun h => filter_wf _ _ h | exact .inr rfl | exact rfl | exact fun h => h | exact fun _ => rfl)
    | dsimp only | split

def Fp.emptySlot : Side → Nat
  | .module => 0x4320801d000350030c00020000028880000100004005104000001041000000000000000000000000000000410000054000000000000000000000000000000c00000015050400001
  | .endpoint => 0x2000000003a0030c00020000028880000100004005100000000001000000000000000000000000000000000000000000000000000000000000000000000c00000000000000000
theorem emptySlot_ev (sd : Side) (k : Nat) (s : State) :
    Ev (Fp.emptySlot sd) s (emptySlot sd k s) := by
  cases sd <;> (
    unfold emptySlot
    repeat' first
      | with_reducible apply Ev.refl | with_reducible assumption | exact rfl
      | with_reducible apply Ev.seq (wrb_ev _ _ _ _ _ ?_) ?_ ?_ | with_reducible apply Ev.seq (onXpt_ev ..) ?_ ?_
      | with_reducible apply Ev.seq (logEvent_ev ..) ?_ ?_ | with_reducible apply Ev.seq (onSec_ev ..) ?_ ?_
      | with_reducible apply Ev.seq (replay_ev ..) ?_ ?_ | with_reducible apply Ev.seq (retireStatus_ev ..) ?_ ?_
      | with_reducible apply Ev.seq (scrubModule_ev ..) ?_ ?_ | with_reducible apply Ev.seq (setSlot_ev ..) ?_ ?_
      | with_reducible apply Ev.ite ?_ ?_ | dsimp only | with_reducible refine Ev.ofPair (by assumption) ?_ | contradiction
      | split)

end Sys2Proof.Machine
end

