-- ==== Sys2Proof/Laws/EvMgmtOps.lean ====
section
/-! SUPPORT. What the operations of Machine/MgmtOps.lean may touch: one law for each, cited in place of unfolding it. The numbers are
sets of parts (Laws/Frame.lean, `Part.idx`). -/

set_option exponentiation.threshold 1024
set_option linter.unreachableTactic false
set_option linter.unusedTactic false

namespace Sys2Proof.Machine

def Fp.onMgmt : Side → Nat
  | .module => 0x4000000000000000000000000000000000000000000000000000000000000000000000000000000000000000000000000000000000000000000000000000000000
  | .endpoint => 0x8000000000000000000000000000000000000000000000000000000000000000000000000000000000000000000000000000000000000000000000000000000000
theorem onMgmt_ev (sd : Side) (f : MgmtState → MgmtState) (s : State) :
    Ev (Fp.onMgmt sd) s (onMgmt sd f s) := by
  cases sd <;> (
    unfold onMgmt
    repeat' first
      | with_reducible apply Ev.refl | with_reducible assumption | exact rfl
      | with_reducible apply Ev.seq (onUnit_ev _ _ _ ?_) (Sub.refl _) ?_
      | (constructor <;> first | exact .inl rfl | exact .inr rfl | exact rfl | exact fun h => h | exact fun _ => rfl)
      | dsimp only | contradiction | split)

def Fp.respond : Side → Nat
  | .module => 0x100000000000000000000000000000000000000000000000000000000000000000000000000000000000000000000000000000000000000000000000000000000000
  | .endpoint => 0x200000000000000000000000000000000000000000000000000000000000000000000000000000000000000000000000000000000000000000000000000000000000
theorem respond_ev (sd : Side) (session : Option Nat) (r : SpdmResponse) (s : State) :
    Ev (Fp.respond sd) s (respond sd session r s) := by
  cases sd <;> (
    unfold respond
    repeat' first
      | with_reducible apply Ev.refl | with_reducible assumption | exact rfl | with_reducible apply Ev.seq (emit_ev ..) ?_ ?_
      | dsimp only | contradiction | split)

def Fp.measureFuses : Nat := 0x1000000000000000000000000000000000000000000000000000000000000000000000000000000000000000000000000
theorem measureFuses_ev (s : State) :
    Ev Fp.measureFuses s (measureFuses s) := by
  unfold measureFuses
  repeat' first
    | with_reducible apply Ev.refl | with_reducible assumption | exact rfl
    | with_reducible apply Ev.seq (setMeasurement_ev ..) ?_ ?_ | dsimp only | split

def Fp.measureCreds : Nat := 0x1000000000000000000000000000000000000000000000000000000000000000000000000000000000000000000000000
theorem measureCreds_ev (s : State) :
    Ev Fp.measureCreds s (measureCreds s) := by
  unfold measureCreds
  repeat' first
    | with_reducible apply Ev.refl | with_reducible assumption | exact rfl
    | with_reducible apply Ev.seq (setMeasurement_ev ..) ?_ ?_ | dsimp only | split

def Fp.setSessions : Side → Nat
  | .module => 0x4000000000000000000000000000000000000000040000000000000000000000000000000000000000000000000000000000000000000000000000000000000000
  | .endpoint => 0x8000000000000000000000000000000000000000000000000000000000000000000000000000000000000000000000000000000000000000000000000000000000
theorem setSessions_ev (sd : Side) (l : List Session) (s : State) :
    Ev (Fp.setSessions sd) s (setSessions sd l s) := by
  cases sd <;> (
    unfold setSessions
    repeat' first
      | with_reducible apply Ev.refl | with_reducible assumption | exact rfl
      | with_reducible apply Ev.seq (wr_ev _ _ _ _ _ ?_) ?_ ?_ | with_reducible apply Ev.seq (onMgmt_ev ..) ?_ ?_
      | dsimp only | with_reducible refine Ev.ofPair (by assumption) ?_ | contradiction | split)

def Fp.putSession : Side → Nat
  | .module => 0x4000000000000000000000000000000000000000040000000000000000000000000000000000000000000000000000000000000000000000000000000000000000
  | .endpoint => 0x8000000000000000000000000000000000000000000000000000000000000000000000000000000000000000000000000000000000000000000000000000000000
theorem putSession_ev (sd : Side) (x : Session) (s : State) :
    Ev (Fp.putSession sd) s (putSession sd x s) := by
  cases sd <;> (
    unfold putSession
    repeat' first
      | with_reducible apply Ev.refl | with_reducible assumption | exact rfl
      | with_reducible apply Ev.seq (setSessions_ev ..) ?_ ?_ | with_reducible apply Ev.ite ?_ ?_ | dsimp only
      | contradiction | split)

def Fp.dropSession : Side → Nat
  | .module => 0x4000000000000000000000000000000000000000040000000000000000000000000000000000000000000000000000000000000000000000000000000000000000
  | .endpoint => 0x8000000000000000000000000000000000000000000000000000000000000000000000000000000000000000000000000000000000000000000000000000000000
theorem dropSession_ev (sd : Side) (id : Nat) (s : State) :
    Ev (Fp.dropSession sd) s (dropSession sd id s) := by
  cases sd <;> (
    unfold dropSession
    repeat' first
      | with_reducible apply Ev.refl | with_reducible assumption | exact rfl
      | with_reducible apply Ev.seq (setSessions_ev ..) ?_ ?_ | dsimp only | contradiction | split)

def Fp.denied : Side → Nat
  | .module => 0x200000000100010000000000000000000100004005100040000001000000000000000000000000000000000000000000000000000000000000000000000000000000000000000
  | .endpoint => 0x200020000020000028880000000000000000080000000000000000000000000000000000000000000000000000000000000000000000000000000000000000000000
theorem denied_ev (sd : Side) (id : Nat) (s : State) :
    Ev (Fp.denied sd) s (denied sd id s) := by
  cases sd <;> (
    unfold denied
    repeat' first
      | with_reducible apply Ev.refl | with_reducible assumption | exact rfl
      | with_reducible apply Ev.seq (bump_ev _ _ _ _ ?_) ?_ ?_ | with_reducible apply Ev.seq (respond_ev ..) ?_ ?_
      | dsimp only | contradiction | split)

def Fp.withRole : Side → Nat
  | .module => 0x200000000100010000000000000000000100004005100040000001000000000000000000000000000000000000000000000000000000000000000000000000000000000000000
  | .endpoint => 0x200020000020000028880000000000000000080000000000000000000000000000000000000000000000000000000000000000000000000000000000000000000000
theorem withRole_ev {F : Nat} {s0 : State} (sd : Side) (id : Nat) (role : Nat) (recovery : Bool) (f : Session → State → State) (s : State) (hF : Sub (Fp.withRole sd) F) (hf : ∀ a0 x, Ev F x (f a0 x)) (h0 : Ev F s0 s) :
    Ev F s0 (withRole sd id role recovery f s) := by
  cases sd <;> (
    unfold withRole
    repeat' first
      | with_reducible apply Ev.refl | with_reducible assumption | exact rfl | exact Sub.trans' hF rfl
      | with_reducible apply Ev.seq (hf _ _) (Sub.refl _) ?_ | with_reducible apply Ev.seq (denied_ev ..) ?_ ?_
      | with_reducible apply Ev.ite ?_ ?_ | dsimp only | with_reducible refine Ev.ofPair (by assumption) ?_ | contradiction
      | split)

def Fp.answered : Side → Nat
  | .module => 0x100000000000000000000000000000000000000000000000000000000000000000000000000000000000000000000000000000000000000000000000000000000000
  | .endpoint => 0x200000000000000000000000000000000000000000000000000000000000000000000000000000000000000000000000000000000000000000000000000000000000
theorem answered_ev (sd : Side) (id : Nat) (r : Status × State) : Ev (Fp.answered sd) r.2 (answered sd id r) := by
  cases sd <;> (
    unfold answered
    repeat' first
      | with_reducible apply Ev.refl | with_reducible assumption | exact rfl
      | with_reducible apply Ev.seq (respond_ev ..) ?_ ?_ | dsimp only | contradiction | split)

def Fp.setCred : Nat := 0x40000000000000000000000000000000000000000000001400000000000000000000000000000000000000000000000000000000000000000000000000000000000000000000000
theorem credWord_ok (c : Prop) [Decidable c] (roles x : Nat) (p : Prop) :
    p → (if c then (0 : Word) else withBits (withBits (withBits 0 63 63 1) 62 59 roles) 31 0 x) &&& ~~~(definedBits .secCred 0) = 0 := by
  intro _
  split
  · exact zeroWord trivial
  · exact withBits_mask _ _ _ _ _ (withBits_mask _ _ _ _ _ (withBits_mask _ _ _ _ _ (by decide) (by decide)) (by decide)) (by decide)

theorem setCred_ev (c roles : Nat) (key : List Byte) (s : State) : Ev Fp.setCred s (setCred c roles key s) := by
  unfold setCred
  repeat' first
    | with_reducible apply Ev.refl | with_reducible assumption | exact rfl | decide | exact fullWord _ (by decide)
    | exact maskedWord (by decide) | exact zeroWord
    | exact fun hz => withBits_mask _ _ _ _ _ (hz _ _ _ _ (by decide)) (by decide) | with_reducible apply credWord_ok
    | with_reducible apply Ev.seq (setWord_ev _ _ _ _ _ _ ?_ ?_) ?_ ?_
    | with_reducible apply Ev.seq (measureCreds_ev ..) ?_ ?_ | with_reducible apply Ev.seq (onSec_ev ..) ?_ ?_
    | with_reducible apply Ev.ite ?_ ?_ | dsimp only | split

def Fp.setSigner : Nat := 0x100000000000000000000000000000000000000000000000100000000000000000000000000000000000000000000000000000000000000000000000000000000000000000000000
theorem signerWord_ok (c : Prop) [Decidable c] (a b x : Nat) (p : Prop) :
    p → (if c then (0 : Word) else withBits (withBits (withBits (withBits 0 63 63 1) 62 62 a) 61 60 b) 31 0 x)
      &&& ~~~(definedBits .secSigner 0) = 0 := by
  intro _
  split
  · exact zeroWord trivial
  · exact withBits_mask _ _ _ _ _ (withBits_mask _ _ _ _ _ (withBits_mask _ _ _ _ _ (withBits_mask _ _ _ _ _ (by decide)
      (by decide)) (by decide)) (by decide)) (by decide)

theorem setSigner_ev (k : Nat) (key : List Byte) (revoked : Bool) (s : State) : Ev Fp.setSigner s (setSigner k key revoked s) := by
  unfold setSigner
  repeat' first
    | with_reducible apply Ev.refl | with_reducible assumption | exact rfl | decide | exact fullWord _ (by decide)
    | exact maskedWord (by decide) | exact zeroWord
    | exact fun hz => withBits_mask _ _ _ _ _ (hz _ _ _ _ (by decide)) (by decide) | with_reducible apply signerWord_ok
    | with_reducible apply Ev.seq (setWord_ev _ _ _ _ _ _ ?_ ?_) ?_ ?_
    | with_reducible apply Ev.seq (onM_ev _ _ ?_) (Sub.refl _) ?_ | with_reducible apply Ev.ite ?_ ?_
    | (constructor <;> first | exact .inl rfl | exact .inr rfl | exact rfl | exact fun h => h | exact fun _ => rfl)
    | dsimp only | split

def Fp.signerSet : Nat := 0x140000000000000000000000000000000000000000000001100000000000000000000000000000000000000000000000000000000000000000000000000000000000000000000000
theorem signerSet_ev (k : Nat) (key : List Byte) (revoke : Bool) (s : State) :
    Ev Fp.signerSet s (signerSet k key revoke s).2 := by
  unfold signerSet
  repeat' first
    | with_reducible apply Ev.refl | with_reducible assumption | exact rfl
    | with_reducible apply Ev.seq (wrb_ev _ _ _ _ _ ?_) ?_ ?_ | with_reducible apply Ev.seq (measureFuses_ev ..) ?_ ?_
    | with_reducible apply Ev.seq (onSec_ev ..) ?_ ?_ | with_reducible apply Ev.seq (setSigner_ev ..) ?_ ?_
    | with_reducible apply Ev.ite ?_ ?_ | dsimp only | split

def Fp.loadOtp : Nat := 0x100000000000000000000000000000000000000000000001100000100000000000000000000000000000000000000000000000000000000000000000000000000000000000000000
theorem loadOtp_ev (s : State) :
    Ev Fp.loadOtp s (loadOtp s) := by
  unfold loadOtp
  repeat' first
    | with_reducible apply Ev.refl | with_reducible assumption | exact rfl
    | with_reducible apply Ev.seq (wr_ev _ _ _ _ _ ?_) ?_ ?_ | with_reducible apply Ev.seq (measureFuses_ev ..) ?_ ?_
    | with_reducible apply Ev.seq (setSigner_ev ..) ?_ ?_ | with_reducible apply Ev.foldl (fun _ _ => ?_) ?_
    | with_reducible apply Ev.foldlSnd (fun _ _ => ?_) ?_ | dsimp only | with_reducible refine Ev.ofPair (by assumption) ?_
    | split

def Fp.rollbackRaise : Nat := 0x40000000000000000000000000000000004000000000001000000140000000000000000000000000000000000000000000000000000000000000000000000000000000000000000
theorem rollbackRaise_ev (boot : Nat) (image : Nat) (s : State) :
    Ev Fp.rollbackRaise s (rollbackRaise boot image s).2 := by
  unfold rollbackRaise
  repeat' first
    | with_reducible apply Ev.refl | with_reducible assumption | exact rfl
    | with_reducible apply Ev.seq (wr_ev _ _ _ _ _ ?_) ?_ ?_ | with_reducible apply Ev.seq (boot_ev ..) ?_ ?_
    | with_reducible apply Ev.seq (onSec_ev ..) ?_ ?_ | with_reducible apply Ev.ite ?_ ?_ | dsimp only | split

def Fp.grantToken : Nat := 0x40000000000000000000000000000000000000000000000000004000000000000000000000000000000000000000000000000000000000000000000000000000000000000000000
theorem grantToken_ev (g : Nat) (id : Nat) (s : State) :
    Ev Fp.grantToken s (grantToken g id s) := by
  unfold grantToken
  repeat' first
    | with_reducible apply Ev.refl | with_reducible assumption | exact rfl
    | with_reducible apply Ev.seq (wr_ev _ _ _ _ _ ?_) ?_ ?_ | with_reducible apply Ev.seq (onSec_ev ..) ?_ ?_ | dsimp only
    | split

def Fp.dropToken : Nat := 0x40000000000000000000000000000000000000000000000000004000000000000000000000000000000000000000000000000000000000000000000000000000000000000000000
theorem dropToken_ev (g : Nat) (s : State) :
    Ev Fp.dropToken s (dropToken g s) := by
  unfold dropToken
  repeat' first
    | with_reducible apply Ev.refl | with_reducible assumption | exact rfl
    | with_reducible apply Ev.seq (wr_ev _ _ _ _ _ ?_) ?_ ?_ | with_reducible apply Ev.seq (onSec_ev ..) ?_ ?_ | dsimp only
    | split

def Fp.acquireToken : Nat := 0x40000000000000000000000000000000000000000000000000004000000000000000000000000000000000000000000000000000000000000000000000000000000000000000000
theorem acquireToken_ev (g : Nat) (id : Nat) (s : State) :
    Ev Fp.acquireToken s (acquireToken g id s).2 := by
  unfold acquireToken
  repeat' first
    | with_reducible apply Ev.refl | with_reducible assumption | exact rfl
    | with_reducible apply Ev.seq (grantToken_ev ..) ?_ ?_ | with_reducible apply Ev.ite ?_ ?_ | dsimp only
    | with_reducible refine Ev.ofPair (by assumption) ?_ | split

def Fp.startBoot : Nat := 0x40000000000000000000000000000000004000000000001000000040000000000000000000000000000000000000000000000000000000000000000000000000000000000000000
theorem startBoot_ev (image : List Byte) (b : Bool) (s : State) :
    Ev Fp.startBoot s (startBoot image b s) := by
  unfold startBoot
  repeat' first
    | with_reducible apply Ev.refl | with_reducible assumption | exact rfl
    | with_reducible apply Ev.seq (wr_ev _ _ _ _ _ ?_) ?_ ?_ | with_reducible apply Ev.seq (wrb_ev _ _ _ _ _ ?_) ?_ ?_
    | with_reducible apply Ev.seq (onSec_ev ..) ?_ ?_ | with_reducible apply Ev.seq (setMeasurement_ev ..) ?_ ?_
    | dsimp only | split

def Fp.boot : Nat := 0x40000000000000000000000000000000004000000000001000000040000000000000000000000000000000000000000000000000000000000000000000000000000000000000000
theorem boot_ev (s : State) :
    Ev Fp.boot s (boot s).2 := by
  unfold boot
  repeat' first
    | with_reducible apply Ev.refl | with_reducible assumption | exact rfl
    | with_reducible apply Ev.seq (wr_ev _ _ _ _ _ ?_) ?_ ?_ | with_reducible apply Ev.seq (setMeasurement_ev ..) ?_ ?_
    | with_reducible apply Ev.seq (startBoot_ev ..) ?_ ?_ | with_reducible apply Ev.ite ?_ ?_ | dsimp only | split

def Fp.resetEvent : Nat := 0x200000000100010000000000000000000100004005140000000000000000000000000000000000000000000000000000000000000000000000000000000000000000000000000
theorem resetEvent_ev (cls : Nat) (trigger : Nat) (s : State) :
    Ev Fp.resetEvent s (resetEvent cls trigger s) := by
  unfold resetEvent
  repeat' first
    | with_reducible apply Ev.refl | with_reducible assumption | exact rfl
    | with_reducible apply Ev.seq (wr_ev _ _ _ _ _ ?_) ?_ ?_ | with_reducible apply Ev.seq (logModule_ev ..) ?_ ?_
    | dsimp only | split

def Fp.restartPuppeteer : Nat := 0x200000000104010000000000000000004100004005140000000040000000000000000000000000000000000000000000000000000000000000000000000000000000000000000
theorem restartPuppeteer_ev (trigger : Nat) (s : State) :
    Ev Fp.restartPuppeteer s (restartPuppeteer trigger s) := by
  unfold restartPuppeteer
  repeat' first
    | with_reducible apply Ev.refl | with_reducible assumption | exact rfl
    | with_reducible apply Ev.seq (wr_ev _ _ _ _ _ ?_) ?_ ?_ | with_reducible apply Ev.seq (wrb_ev _ _ _ _ _ ?_) ?_ ?_
    | with_reducible apply Ev.seq (onMgmt_ev ..) ?_ ?_ | with_reducible apply Ev.seq (resetEvent_ev ..) ?_ ?_
    | with_reducible apply Ev.seq (setSessions_ev ..) ?_ ?_ | dsimp only | split

end Sys2Proof.Machine
end

