-- ==== Sys2Proof/Laws/EvBringup.lean ====
section
/-! SUPPORT. What the operations of Machine/Bringup.lean may touch: one law for each, cited in place of unfolding it. The numbers are
sets of parts (Laws/Frame.lean, `Part.idx`). -/

set_option exponentiation.threshold 1024
set_option linter.unreachableTactic false
set_option linter.unusedTactic false

namespace Sys2Proof.Machine

def Fp.linkUp : Nat := 0x4000000000000000000000000000000000000000000000000000000000000000000000000000000000000000000000000000000000
theorem linkUp_ev (s : State) :
    Ev Fp.linkUp s (linkUp s) := by
  unfold linkUp
  repeat' first
    | with_reducible apply Ev.refl | with_reducible assumption | exact rfl
    | with_reducible apply Ev.seq (wr_ev _ _ _ _ _ ?_) ?_ ?_ | dsimp only | split

def Fp.execPcieEnumeration : Nat := 0x4200000000100010000000000000000000104004005100000000000000000000000000000000000000000000000000000000000000000000000000000000000000000000000040
theorem execPcieEnumeration_ev (up : Bool) (s : State) :
    OutEv Fp.execPcieEnumeration s (execPcieEnumeration up s) := by
  unfold execPcieEnumeration
  repeat' first
    | with_reducible apply Ev.refl | with_reducible assumption | exact rfl
    | with_reducible apply Ev.seq (endStep_ev ..) ?_ ?_ | with_reducible apply Ev.seq (enterStep_ev ..) ?_ ?_
    | with_reducible apply Ev.seq (linkUp_ev ..) ?_ ?_ | with_reducible apply Ev.ite ?_ ?_
    | with_reducible apply OutEv.next | dsimp only | split

def Fp.enumerated : Nat := 0x4200000000100010000000000000000000100004005100000000000000000000000000000000000000000000000000000000000000000000000000000000000000000000000040
theorem enumerated_ev (s : State) :
    Ev Fp.enumerated s (enumerated s) := by
  unfold enumerated
  repeat' first
    | with_reducible apply Ev.refl | with_reducible assumption | exact rfl
    | with_reducible apply Ev.seq (endStep_ev ..) ?_ ?_ | with_reducible apply Ev.ite ?_ ?_ | dsimp only | split

def Fp.execConfigurationWrite : Nat := 0x4200400000100010000000000000000000100004005100000000000000000000000000001100000000000000000000000000000000000000000000000000000000000000000040
theorem execConfigurationWrite_ev (w : ConfigWrite) (s : State) :
    OutEv Fp.execConfigurationWrite s (execConfigurationWrite w s) := by
  unfold execConfigurationWrite
  repeat' first
    | with_reducible apply Ev.refl | with_reducible assumption | exact rfl
    | with_reducible apply Ev.seq (configWrite_ev ..) ?_ ?_ | with_reducible apply Ev.seq (enumerated_ev ..) ?_ ?_
    | with_reducible apply OutEv.next | dsimp only | split

def Fp.readFuses : Nat := 0x106000000000000004000000000000000000000000000001100000100000000000000000000000000000000000000000000000000000000000000000000000000001014410000001
theorem readFuses_ev (fuse : FuseMap) (s : State) :
    Ev Fp.readFuses s (readFuses fuse s) := by
  unfold readFuses
  repeat' first
    | with_reducible apply Ev.refl | with_reducible assumption | exact rfl
    | with_reducible apply Ev.seq (onUnit_ev _ _ _ ?_) (Sub.refl _) ?_ | with_reducible apply Ev.seq (loadOtp_ev ..) ?_ ?_
    | with_reducible apply Ev.seq (mapSlices_ev ..) ?_ ?_ | with_reducible apply Ev.seq (mapTiles_ev ..) ?_ ?_
    | with_reducible apply Ev.seq (onTile_ev ..) ?_ ?_ | with_reducible apply Ev.seq (stepDone_ev ..) ?_ ?_
    | with_reducible apply Ev.ite ?_ ?_
    | (constructor <;> first | exact .inl rfl | exact .inr rfl | exact rfl | exact fun h => h | exact fun _ => rfl)
    | dsimp only | with_reducible refine Ev.ofPair (by assumption) ?_ | split

def Fp.execFuseMapRead : Nat := 0x306200000000100014000000000000000000100004005101110000101000000000000000000000000000000000000000000000000000000000000000000000000001014410000051
theorem execFuseMapRead_ev (path : Path) (fuse : FuseMap) (s : State) :
    OutEv Fp.execFuseMapRead s (execFuseMapRead path fuse s) := by
  unfold execFuseMapRead
  repeat' first
    | with_reducible apply Ev.refl | with_reducible assumption | exact rfl
    | with_reducible apply Ev.seq (readFuses_ev ..) ?_ ?_ | with_reducible apply stepWork_ev _ _ _ _ ?_ (fun _ => ?_) ?_
    | with_reducible apply OutEv.next | dsimp only | split

def Fp.loadImage : Nat := 0x4000000000000000000000000000000000000000000001000000000000000000000104000000000100000000000014000054000000000000001005000000004000015411050001
theorem loadImage_ev (image : List Byte) (fields : List ImageField) (s : State) :
    Ev Fp.loadImage s (loadImage image fields s) := by
  unfold loadImage
  repeat' first
    | with_reducible apply Ev.refl | with_reducible assumption | exact rfl
    | with_reducible apply Ev.seq (failImage_ev ..) ?_ ?_ | with_reducible apply Ev.seq (stepDone_ev ..) ?_ ?_
    | with_reducible apply Ev.seq (takeImage_ev ..) ?_ ?_ | dsimp only | with_reducible refine Ev.ofPair (by assumption) ?_
    | split

def Fp.execImageLoad : Nat := 0x204200000000100010000000000000000000100004005101010000001000000000000104000000000100000000000014000054000000000000001005000000004000015411050051
theorem execImageLoad_ev (path : Path) (image : List Byte) (fields : List ImageField) (s : State) :
    OutEv Fp.execImageLoad s (execImageLoad path image fields s) := by
  unfold execImageLoad
  repeat' first
    | with_reducible apply Ev.refl | with_reducible assumption | exact rfl
    | with_reducible apply Ev.seq (wr_ev _ _ _ _ _ ?_) ?_ ?_ | with_reducible apply Ev.seq (loadImage_ev ..) ?_ ?_
    | with_reducible apply stepWork_ev _ _ _ _ ?_ (fun _ => ?_) ?_ | with_reducible apply OutEv.next | dsimp only | split

def Fp.runBist : Nat := 0x4100080000000000000000000000000000000000000000000000000000000000000000000000000000000000000004000044000000000000000000000000000000015410000001
theorem runBist_ev (failing : List Nat) (rows : List (Nat × Nat)) (s : State) :
    Ev Fp.runBist s (runBist failing rows s) := by
  unfold runBist
  repeat' first
    | with_reducible apply Ev.refl | with_reducible assumption | exact rfl
    | with_reducible apply Ev.seq (wr_ev _ _ _ _ _ ?_) ?_ ?_ | with_reducible apply Ev.seq (wrb_ev _ _ _ _ _ ?_) ?_ ?_
    | with_reducible apply Ev.seq (assignRoles_ev ..) ?_ ?_ | with_reducible apply Ev.seq (mapTiles_ev ..) ?_ ?_
    | with_reducible apply Ev.seq (stepDone_ev ..) ?_ ?_ | with_reducible apply Ev.ite ?_ ?_
    | with_reducible apply Ev.foldl (fun _ _ => ?_) ?_ | with_reducible apply Ev.foldlSnd (fun _ _ => ?_) ?_ | dsimp only
    | split

def Fp.execTileBist : Nat := 0x204300080000100010000000000000000000100004005100010000001000000000000000000000000000000000000004000044000000000000000000000000000000015410000051
theorem execTileBist_ev (path : Path) (failing : List Nat) (rows : List (Nat × Nat)) (s : State) :
    OutEv Fp.execTileBist s (execTileBist path failing rows s) := by
  unfold execTileBist
  repeat' first
    | with_reducible apply Ev.refl | with_reducible assumption | exact rfl
    | with_reducible apply Ev.seq (runBist_ev ..) ?_ ?_ | with_reducible apply stepWork_ev _ _ _ _ ?_ (fun _ => ?_) ?_
    | with_reducible apply OutEv.next | dsimp only | split

def Fp.trainNoc : Nat := 0x4100000000000000000000000000000000000000000000000000000000000000000000000000000000000000000000000000000000000000000000000000000000040000010001
theorem trainNoc_ev (ok0 : Bool) (ok1 : Bool) (image : List Byte) (s : State) :
    Ev Fp.trainNoc s (trainNoc ok0 ok1 image s) := by
  unfold trainNoc
  repeat' first
    | with_reducible apply Ev.refl | with_reducible assumption | exact rfl
    | with_reducible apply Ev.seq (wrb_ev _ _ _ _ _ ?_) ?_ ?_ | with_reducible apply Ev.seq (onM_ev _ _ ?_) (Sub.refl _) ?_
    | with_reducible apply Ev.seq (failImage_ev ..) ?_ ?_ | with_reducible apply Ev.seq (onBring_ev ..) ?_ ?_
    | with_reducible apply Ev.seq (stepDone_ev ..) ?_ ?_ | with_reducible apply Ev.ite ?_ ?_
    | (constructor <;> first | exact .inl rfl | exact .inr rfl | exact rfl | exact fun h => h | exact fun _ => rfl)
    | dsimp only | with_reducible refine Ev.ofPair (by assumption) ?_ | split

def Fp.execNocTraining : Nat := 0x204300000000100010000000000000000000100004005100010000001000000000000000000000000000000000000000000000000000000000000000000000000000040000010051
theorem execNocTraining_ev (path : Path) (ok0 : Bool) (ok1 : Bool) (image : List Byte) (s : State) :
    OutEv Fp.execNocTraining s (execNocTraining path ok0 ok1 image s) := by
  unfold execNocTraining
  repeat' first
    | with_reducible apply Ev.refl | with_reducible assumption | exact rfl
    | with_reducible apply stepWork_ev _ _ _ _ ?_ (fun _ => ?_) ?_ | with_reducible apply Ev.seq (trainNoc_ev ..) ?_ ?_
    | with_reducible apply OutEv.next | dsimp only | split

def Fp.trainDdr : Nat := 0x4000049000000000000000000000000000001000000000000000000000000000000000000000000000000000000000000040000000000000000000000000000000000000010001
theorem trainDdr_ev (channels : List DdrChannel) (image : List Byte) (ready : Bool) (s : State) :
    Ev Fp.trainDdr s (trainDdr channels image ready s) := by
  unfold trainDdr
  repeat' first
    | with_reducible apply Ev.refl | with_reducible assumption | exact rfl
    | with_reducible apply Ev.seq (wr_ev _ _ _ _ _ ?_) ?_ ?_ | with_reducible apply Ev.seq (wrb_ev _ _ _ _ _ ?_) ?_ ?_
    | with_reducible apply Ev.seq (onPool_ev _ _ ?_) (Sub.refl _) ?_ | with_reducible apply Ev.seq (ddrWrite_ev ..) ?_ ?_
    | with_reducible apply Ev.seq (failImage_ev ..) ?_ ?_ | with_reducible apply Ev.seq (onBring_ev ..) ?_ ?_
    | with_reducible apply Ev.seq (settlePool_ev ..) ?_ ?_ | with_reducible apply Ev.seq (stepDone_ev ..) ?_ ?_
    | with_reducible apply Ev.ite ?_ ?_ | with_reducible apply Ev.foldl (fun _ _ => ?_) ?_
    | with_reducible apply Ev.foldlSnd (fun _ _ => ?_) ?_
    | (constructor <;> first | exact .inl rfl | exact .inr rfl | exact rfl | exact fun h => h | exact fun _ => rfl)
    | dsimp only | with_reducible refine Ev.ofPair (by assumption) ?_ | split

def Fp.execDdr5Training : Nat := 0x204200049000100010000000000000000000101004005100010000001000000000000000000000000000000000000000000040000000000000000000000000000000000000010051
theorem execDdr5Training_ev (path : Path) (channels : List DdrChannel) (image : List Byte) (ready : Bool) (s : State) :
    OutEv Fp.execDdr5Training s (execDdr5Training path channels image ready s) := by
  unfold execDdr5Training
  repeat' first
    | with_reducible apply Ev.refl | with_reducible assumption | exact rfl
    | with_reducible apply stepWork_ev _ _ _ _ ?_ (fun _ => ?_) ?_ | with_reducible apply Ev.seq (trainDdr_ev ..) ?_ ?_
    | with_reducible apply OutEv.next | dsimp only | split

def Fp.calibrate : Nat := 0x4000000000000004000000000000000000000000000000000000000000000000000000000000000000000000000000000000000000000000000000000000000001000000000000
theorem calibrate_ev (reported : List Nat) (bad : List (Nat × Nat)) (s : State) :
    Ev Fp.calibrate s (calibrate reported bad s) := by
  unfold calibrate
  repeat' first
    | with_reducible apply Ev.refl | with_reducible assumption | exact rfl
    | with_reducible apply Ev.seq (onUnit_ev _ _ _ ?_) (Sub.refl _) ?_
    | with_reducible apply Ev.seq (mapSlices_ev ..) ?_ ?_ | with_reducible apply Ev.seq (setLaneSt_ev ..) ?_ ?_
    | with_reducible apply Ev.seq (setReason_ev ..) ?_ ?_ | with_reducible apply Ev.seq (stepDone_ev ..) ?_ ?_
    | with_reducible apply Ev.ite ?_ ?_ | with_reducible apply Ev.foldl (fun _ _ => ?_) ?_
    | with_reducible apply Ev.foldlSnd (fun _ _ => ?_) ?_
    | (constructor <;> first | exact .inl rfl | exact .inr rfl | exact rfl | exact fun h => h | exact fun _ => rfl)
    | dsimp only | split

def Fp.execSerdesCalibration : Nat := 0x204200000000100014000000000000000000100004005100010000001000000000000000000000000000000000000000000000000000000000000000000000000001000000000050
theorem execSerdesCalibration_ev (path : Path) (reported : List Nat) (bad : List (Nat × Nat)) (s : State) :
    OutEv Fp.execSerdesCalibration s (execSerdesCalibration path reported bad s) := by
  unfold execSerdesCalibration
  repeat' first
    | with_reducible apply Ev.refl | with_reducible assumption | exact rfl
    | with_reducible apply Ev.seq (calibrate_ev ..) ?_ ?_ | with_reducible apply stepWork_ev _ _ _ _ ?_ (fun _ => ?_) ?_
    | with_reducible apply OutEv.next | dsimp only | split

def Fp.trainLinks : Nat := 0x4000000000100000500000000000000000000000000000000000000000000000000000000000000000000000000000000000000000000000000000000000000041400000000004
theorem trainLinks_ev (s : State) :
    Ev Fp.trainLinks s (trainLinks s) := by
  unfold trainLinks
  repeat' first
    | with_reducible apply Ev.refl | with_reducible assumption | exact rfl
    | with_reducible apply Ev.seq (wrb_ev _ _ _ _ _ ?_) ?_ ?_ | with_reducible apply Ev.seq (enableLane_ev ..) ?_ ?_
    | with_reducible apply Ev.seq (stepDone_ev ..) ?_ ?_ | with_reducible apply Ev.ite ?_ ?_
    | with_reducible apply Ev.foldl (fun _ _ => ?_) ?_ | with_reducible apply Ev.foldlSnd (fun _ _ => ?_) ?_ | dsimp only
    | split

def Fp.execLinkTraining : Nat := 0x204200000000100010500000000000000000100004005100010000001000000000000000000000000000000000000000000000000000000000000000000000000041400000000054
theorem execLinkTraining_ev (path : Path) (s : State) :
    OutEv Fp.execLinkTraining s (execLinkTraining path s) := by
  unfold execLinkTraining
  repeat' first
    | with_reducible apply Ev.refl | with_reducible assumption | exact rfl
    | with_reducible apply stepWork_ev _ _ _ _ ?_ (fun _ => ?_) ?_ | with_reducible apply Ev.seq (trainLinks_ev ..) ?_ ?_
    | with_reducible apply OutEv.next | dsimp only | split

def Fp.execTopLock : Nat := 0x204200000000100010000000000000000000100004005100010000001000000000000000000000000000000000000000000000000000000000000000000000000000000000000050
theorem execTopLock_ev (path : Path) (s : State) :
    OutEv Fp.execTopLock s (execTopLock path s) := by
  unfold execTopLock
  repeat' first
    | with_reducible apply Ev.refl | with_reducible assumption | exact rfl
    | with_reducible apply Ev.seq (stepDone_ev ..) ?_ ?_ | with_reducible apply stepWork_ev _ _ _ _ ?_ (fun _ => ?_) ?_
    | with_reducible apply Ev.ite ?_ ?_ | with_reducible apply OutEv.next | dsimp only | split

def Fp.execEnable : Nat := 0x204200000000100010000000000000000000100004005100010000001000000000000000000000000000000000000000000000000000000000000000000000000000000000000050
theorem execEnable_ev (path : Path) (s : State) :
    OutEv Fp.execEnable s (execEnable path s) := by
  unfold execEnable
  repeat' first
    | with_reducible apply Ev.refl | with_reducible assumption | exact rfl
    | with_reducible apply Ev.seq (wrb_ev _ _ _ _ _ ?_) ?_ ?_ | with_reducible apply Ev.seq (stepDone_ev ..) ?_ ?_
    | with_reducible apply stepWork_ev _ _ _ _ ?_ (fun _ => ?_) ?_ | with_reducible apply OutEv.next | dsimp only | split

def Fp.execBringupStepEnd : Nat := 0x4200000000100010000000000000000000100004005100000000000000000000000000000000000000000000000000000000000000000000000000000000000000000000000040
theorem execBringupStepEnd_ev (s : State) :
    OutEv Fp.execBringupStepEnd s (execBringupStepEnd s) := by
  unfold execBringupStepEnd
  repeat' first
    | with_reducible apply Ev.refl | with_reducible assumption | exact rfl
    | with_reducible apply Ev.seq (endStep_ev ..) ?_ ?_ | with_reducible apply Ev.seq (enumerated_ev ..) ?_ ?_
    | with_reducible apply Ev.ite ?_ ?_ | with_reducible apply OutEv.next | dsimp only
    | with_reducible refine Ev.ofPair (by assumption) ?_ | split

def Fp.execBringupStepTimeout : Nat := 0x4200000000100010000000000000000000100004005100000000000000000000000000000000000000000000000000000000000000000000000000000000000000000000000040
theorem execBringupStepTimeout_ev (s : State) :
    OutEv Fp.execBringupStepTimeout s (execBringupStepTimeout s) := by
  unfold execBringupStepTimeout
  repeat' first
    | with_reducible apply Ev.refl | with_reducible assumption | exact rfl
    | with_reducible apply Ev.seq (wrb_ev _ _ _ _ _ ?_) ?_ ?_ | with_reducible apply Ev.seq (endStep_ev ..) ?_ ?_
    | with_reducible apply Ev.ite ?_ ?_ | with_reducible apply OutEv.next | dsimp only
    | with_reducible refine Ev.ofPair (by assumption) ?_ | split

def Fp.stopLinks : Nat := 0x80f00000000100110500000000000000000100045005100000000001000000000000000000000000000000000000000100000000000000000000000054410050041000000000000
theorem stopLinks_ev (s : State) :
    Ev Fp.stopLinks s (stopLinks s) := by
  unfold stopLinks
  repeat' first
    | with_reducible apply Ev.refl | with_reducible assumption | exact rfl
    | with_reducible apply Ev.seq (onLane_ev ..) ?_ ?_ | with_reducible apply Ev.seq (portDown_ev ..) ?_ ?_
    | with_reducible apply Ev.seq (setLaneSt_ev ..) ?_ ?_ | with_reducible apply Ev.ite ?_ ?_
    | with_reducible apply Ev.foldl (fun _ _ => ?_) ?_ | with_reducible apply Ev.foldlSnd (fun _ _ => ?_) ?_ | dsimp only
    | split

def Fp.dropImage : Nat := 0x201000000110000000000000000000000100000000001000000000000000000000144000000000100000000000014000054000000000000001005000000004000005001050001
theorem dropImage_ev (s : State) :
    Ev Fp.dropImage s (dropImage s) := by
  unfold dropImage
  repeat' first
    | with_reducible apply Ev.refl | with_reducible assumption | exact rfl | decide | exact fullWord _ (by decide)
    | exact maskedWord (by decide) | exact zeroWord
    | exact fun hz => withBits_mask _ _ _ _ _ (hz _ _ _ _ (by decide)) (by decide)
    | with_reducible apply Ev.seq (wr_ev _ _ _ _ _ ?_) ?_ ?_ | with_reducible apply Ev.seq (wrb_ev _ _ _ _ _ ?_) ?_ ?_
    | with_reducible apply Ev.seq (setWord_ev _ _ _ _ _ _ ?_ ?_) ?_ ?_
    | with_reducible apply Ev.seq (clearImage_ev ..) ?_ ?_ | with_reducible apply Ev.seq (endProgram_ev ..) ?_ ?_
    | with_reducible apply Ev.seq (setMeasurement_ev ..) ?_ ?_ | with_reducible apply Ev.foldl (fun _ _ => ?_) ?_
    | with_reducible apply Ev.foldlSnd (fun _ _ => ?_) ?_ | dsimp only | split

def Fp.dropRoles : Nat := 0x4100080000000000000000000000000000000000000000000000000000000000000000000000000000000000000000000000000000000000000000000000000000000000000000
theorem dropRoles_ev (s : State) :
    Ev Fp.dropRoles s (dropRoles s) := by
  unfold dropRoles
  repeat' first
    | with_reducible apply Ev.refl | with_reducible assumption | exact rfl
    | with_reducible apply Ev.seq (onM_ev _ _ ?_) (Sub.refl _) ?_
    | (constructor <;> first | exact .inl rfl | exact .inr rfl | exact rfl | exact fun h => h | exact fun _ => rfl)
    | dsimp only | split

def Fp.unload : Nat := 0x84f01080000110110500000000000000000100045005101000000001000000000000144000000000100000000000014100054000000000000001005054410054041015411050041
theorem unload_ev (s : State) :
    Ev Fp.unload s (unload s) := by
  unfold unload
  repeat' first
    | with_reducible apply Ev.refl | with_reducible assumption | exact rfl
    | with_reducible apply Ev.seq (wr_ev _ _ _ _ _ ?_) ?_ ?_ | with_reducible apply Ev.seq (wrb_ev _ _ _ _ _ ?_) ?_ ?_
    | with_reducible apply Ev.seq (dropImage_ev ..) ?_ ?_ | with_reducible apply Ev.seq (dropRoles_ev ..) ?_ ?_
    | with_reducible apply Ev.seq (mapTiles_ev ..) ?_ ?_ | with_reducible apply Ev.seq (stopLinks_ev ..) ?_ ?_ | dsimp only
    | split

def Fp.writeUnload : Nat := 0x84f01080000110110500000000000000000100045005101000000001000000000000144000000000100000000000014100054000000000000001005054410054041015411050041
theorem writeUnload_ev (s : State) :
    Ev Fp.writeUnload s (writeUnload s) := by
  unfold writeUnload
  repeat' first
    | with_reducible apply Ev.refl | with_reducible assumption | exact rfl
    | with_reducible apply Ev.seq (regAccess_ev ..) ?_ ?_ | with_reducible apply Ev.seq (unload_ev ..) ?_ ?_
    | with_reducible apply Ev.ite ?_ ?_ | dsimp only | split

def Fp.execUnload : Nat := 0x93763b0084f01080000330130d0002000002888000015404500510100000000100000000000014400000000010000000000001410005400000000c00c001005054410054041015411050041
theorem execUnload_ev (s : State) :
    OutEv Fp.execUnload s (execUnload s) := by
  unfold execUnload
  repeat' first
    | with_reducible apply Ev.refl | with_reducible assumption | exact rfl
    | with_reducible apply Ev.seq (settle_ev ..) ?_ ?_ | with_reducible apply Ev.seq (writeUnload_ev ..) ?_ ?_
    | with_reducible apply OutEv.next | dsimp only | split

end Sys2Proof.Machine
end

