-- ==== Sys2Proof/Laws/EvCoherence.lean ====
section
/-! SUPPORT. What the operations of Machine/Coherence.lean may touch: one law for each, cited in place of unfolding it. The numbers are
sets of parts (Laws/Frame.lean, `Part.idx`). -/

set_option exponentiation.threshold 1024
set_option linter.unreachableTactic false
set_option linter.unusedTactic false

namespace Sys2Proof.Machine

def Fp.atHome : Nat := 0x93763b0000700000000330130c0002000002888000015404400510000001000100000000000000000000000000000000000000000000000000000c00c000000054600000000000000000000
theorem atHome_ev {F : Nat} {s0 : State} (port : Nat) (p : Packet) (op : BitVec 8) (f : State → State) (s : State) (hF : Sub Fp.atHome F) (hf : ∀ x, Ev F x (f x)) (h0 : Ev F s0 s) :
    Ev F s0 (atHome port p op f s) := by
  unfold atHome
  repeat' first
    | with_reducible apply Ev.refl | with_reducible assumption | exact rfl | exact Sub.trans' hF rfl
    | with_reducible apply Ev.seq (hf _) (Sub.refl _) ?_ | with_reducible apply Ev.seq (accept_ev ..) ?_ ?_
    | with_reducible apply Ev.seq (settle_ev ..) ?_ ?_ | with_reducible apply Ev.ite ?_ ?_ | dsimp only
    | with_reducible refine Ev.ofPair (by assumption) ?_ | split

def Fp.execRdShared : Nat := 0x93763b0000f0000f000330130c0002000002888000015404400510000001000100000000000000000000000000000000000000044550000015400c00c000000054600c00000000000000000
theorem execRdShared_ev (port : Nat) (p : Packet) (s : State) :
    OutEv Fp.execRdShared s (execRdShared port p s) := by
  unfold execRdShared
  repeat' first
    | with_reducible apply Ev.refl | with_reducible assumption | exact rfl
    | with_reducible apply atHome_ev _ _ _ _ _ ?_ (fun _ => ?_) ?_ | with_reducible apply Ev.seq (takeTc2_ev ..) ?_ ?_
    | with_reducible apply OutEv.next | dsimp only | split

def Fp.execRdOwn : Nat := 0x93763b0000f0000f000330130c0002000002888000015404400510000001000100000000000000000000000000000000000000044550000015400c00c000000054600c00000000000000000
theorem execRdOwn_ev (port : Nat) (p : Packet) (s : State) :
    OutEv Fp.execRdOwn s (execRdOwn port p s) := by
  unfold execRdOwn
  repeat' first
    | with_reducible apply Ev.refl | with_reducible assumption | exact rfl
    | with_reducible apply atHome_ev _ _ _ _ _ ?_ (fun _ => ?_) ?_ | with_reducible apply Ev.seq (takeTc2_ev ..) ?_ ?_
    | with_reducible apply OutEv.next | dsimp only | split

def Fp.execUpgrade : Nat := 0x93763b0000f0000f000330130c0002000002888000015404400510000001000100000000000000000000000000000000000000044550000015400c00c000000054600c00000000000000000
theorem execUpgrade_ev (port : Nat) (p : Packet) (s : State) :
    OutEv Fp.execUpgrade s (execUpgrade port p s) := by
  unfold execUpgrade
  repeat' first
    | with_reducible apply Ev.refl | with_reducible assumption | exact rfl
    | with_reducible apply atHome_ev _ _ _ _ _ ?_ (fun _ => ?_) ?_ | with_reducible apply Ev.seq (takeTc2_ev ..) ?_ ?_
    | with_reducible apply OutEv.next | dsimp only | split

def Fp.execWb : Nat := 0x93763b0000f0000f000330130c0002000002888000015404400510000001000100000000000000000000000000000000000000044550000015400c00c000000054600c00000000000000000
theorem execWb_ev (port : Nat) (p : Packet) (s : State) :
    OutEv Fp.execWb s (execWb port p s) := by
  unfold execWb
  repeat' first
    | with_reducible apply Ev.refl | with_reducible assumption | exact rfl
    | with_reducible apply atHome_ev _ _ _ _ _ ?_ (fun _ => ?_) ?_ | with_reducible apply Ev.seq (takeTc2_ev ..) ?_ ?_
    | with_reducible apply OutEv.next | dsimp only | split

def Fp.execEvict : Nat := 0x93763b0000f0000f000330130c0002000002888000015404400510000001000100000000000000000000000000000000000000044550000015400c00c000000054600c00000000000000000
theorem execEvict_ev (port : Nat) (p : Packet) (s : State) :
    OutEv Fp.execEvict s (execEvict port p s) := by
  unfold execEvict
  repeat' first
    | with_reducible apply Ev.refl | with_reducible assumption | exact rfl
    | with_reducible apply atHome_ev _ _ _ _ _ ?_ (fun _ => ?_) ?_ | with_reducible apply Ev.seq (takeTc2_ev ..) ?_ ?_
    | with_reducible apply OutEv.next | dsimp only | split

def Fp.execRecoverStart : Nat := 0x93763b0000f00000000330130c0002000002888000015404400510000001000100000000000000000000000000000000000000010000000000004c00c000000054600000000000000000000
theorem execRecoverStart_ev (port : Nat) (p : Packet) (s : State) :
    OutEv Fp.execRecoverStart s (execRecoverStart port p s) := by
  unfold execRecoverStart
  repeat' first
    | with_reducible apply Ev.refl | with_reducible assumption | exact rfl
    | with_reducible apply atHome_ev _ _ _ _ _ ?_ (fun _ => ?_) ?_ | with_reducible apply Ev.seq (dropBadCheck_ev ..) ?_ ?_
    | with_reducible apply Ev.seq (leafRecovery_ev ..) ?_ ?_ | with_reducible apply Ev.seq (sendGo_ev ..) ?_ ?_
    | with_reducible apply Ev.ite ?_ ?_ | with_reducible apply OutEv.next | dsimp only | split

def Fp.execRecoverDone : Nat := 0x93763b0000f00004000330130c0002000002888000015404400510000001000100000000000000000000000000000000000000000400000000000c00c000000054600000000000000000000
theorem execRecoverDone_ev (port : Nat) (p : Packet) (s : State) :
    OutEv Fp.execRecoverDone s (execRecoverDone port p s) := by
  unfold execRecoverDone
  repeat' first
    | with_reducible apply Ev.refl | with_reducible assumption | exact rfl
    | with_reducible apply atHome_ev _ _ _ _ _ ?_ (fun _ => ?_) ?_ | with_reducible apply Ev.seq (sendGo_ev ..) ?_ ?_
    | with_reducible apply Ev.seq (takeRecoverDone_ev ..) ?_ ?_ | with_reducible apply Ev.ite ?_ ?_
    | with_reducible apply OutEv.next | dsimp only | split

def Fp.takeHomeRsp : Nat := 0x2f0000f000310130c00020000028880000100044005100000000001000000000000000000000000000000000000004445504000000000000000000054000c00000015050400001
theorem takeHomeRsp_ev (p : Packet) (s : State) :
    Ev Fp.takeHomeRsp s (takeHomeRsp p s) := by
  unfold takeHomeRsp
  repeat' first
    | with_reducible apply Ev.refl | with_reducible assumption | exact rfl
    | with_reducible apply Ev.seq (flushAnswered_ev ..) ?_ ?_ | with_reducible apply Ev.seq (takeSnoopRsp_ev ..) ?_ ?_
    | with_reducible apply Ev.ite ?_ ?_ | dsimp only | with_reducible refine Ev.ofPair (by assumption) ?_ | split

def Fp.execSnpRsp : Nat := 0x93763b0002f0000f000330130c0002000002888000015404400510000001000100000000000000000000000000000000000000444550400000004c00c000000054600c00000015050400001
theorem execSnpRsp_ev (port : Nat) (p : Packet) (s : State) :
    OutEv Fp.execSnpRsp s (execSnpRsp port p s) := by
  unfold execSnpRsp
  repeat' first
    | with_reducible apply Ev.refl | with_reducible assumption | exact rfl
    | with_reducible apply atHome_ev _ _ _ _ _ ?_ (fun _ => ?_) ?_ | with_reducible apply Ev.seq (dropBadCheck_ev ..) ?_ ?_
    | with_reducible apply Ev.seq (takeHomeRsp_ev ..) ?_ ?_ | with_reducible apply Ev.ite ?_ ?_
    | with_reducible apply OutEv.next | dsimp only | split

def Fp.execAck : Nat := 0x93763b0000f00000000330130c0002000002888000015404400510000001000100000000000000000000000000000000000000000000000000004c00c000000054600000000000000000000
theorem execAck_ev (port : Nat) (p : Packet) (s : State) :
    OutEv Fp.execAck s (execAck port p s) := by
  unfold execAck
  repeat' first
    | with_reducible apply Ev.refl | with_reducible assumption | exact rfl
    | with_reducible apply atHome_ev _ _ _ _ _ ?_ (fun _ => ?_) ?_ | with_reducible apply Ev.seq (dropBadCheck_ev ..) ?_ ?_
    | with_reducible apply Ev.seq (endTxn_ev ..) ?_ ?_ | with_reducible apply Ev.ite ?_ ?_
    | with_reducible apply OutEv.next | dsimp only | with_reducible refine Ev.ofPair (by assumption) ?_ | split

def Fp.execLineUnblock : Nat := 0x93763b0000f0000f000330130c0002000002888000015404400510000000000100000000000000000000000000000000000000044550000000000c00c000000054000c00000000000000000
theorem execLineUnblock_ev (line : Nat) (s : State) :
    OutEv Fp.execLineUnblock s (execLineUnblock line s) := by
  unfold execLineUnblock
  repeat' first
    | with_reducible apply Ev.refl | with_reducible assumption | exact rfl
    | with_reducible apply Ev.seq (clearLine_ev ..) ?_ ?_ | with_reducible apply Ev.seq (serveLine_ev ..) ?_ ?_
    | with_reducible apply Ev.seq (settle_ev ..) ?_ ?_ | with_reducible apply Ev.seq (settleRegions_ev ..) ?_ ?_
    | with_reducible apply Ev.ite ?_ ?_ | with_reducible apply OutEv.next | dsimp only | split

def Fp.execDirectoryFlush : Nat := 0x2f0000f000310130c00020000028880000100044005100000000001000000000000000000000000000000000000004445504000000000000000000054000c00000015050400001
theorem execDirectoryFlush_ev (tiles : Nat) (s : State) :
    OutEv Fp.execDirectoryFlush s (execDirectoryFlush tiles s) := by
  unfold execDirectoryFlush
  repeat' first
    | with_reducible apply Ev.refl | with_reducible assumption | exact rfl
    | with_reducible apply Ev.seq (startFlush_ev ..) ?_ ?_ | with_reducible apply Ev.ite ?_ ?_
    | with_reducible apply OutEv.next | dsimp only | split

def Fp.execDirRegionClear : Nat := 0x93763b0200f0000f000330130c0002000002888000015404400510001000000100000000000000000000000000000000000000044440000000000c00c000000054000c00000000000000000
theorem execDirRegionClear_ev (path : Path) (n : Nat) (valid : Bool) (coherent : Bool) (s : State) :
    OutEv Fp.execDirRegionClear s (execDirRegionClear path n valid coherent s) := by
  unfold execDirRegionClear
  repeat' first
    | with_reducible apply Ev.refl | with_reducible assumption | exact rfl
    | with_reducible apply Ev.seq (clearRegion_ev ..) ?_ ?_ | with_reducible apply rwl_ev _ _ _ _ _ _ ?_ (fun _ => ?_) ?_
    | with_reducible apply Ev.seq (settle_ev ..) ?_ ?_ | with_reducible apply Ev.ite ?_ ?_
    | with_reducible apply OutEv.next | dsimp only | split

def Fp.execDirectoryScanEnd : Nat := 0x93763b0000f0000f000330130c0002000002888000015404400510000000000100000000000000000000000000000000000000044550000000000c00c000000054000c00000000000000000
theorem execDirectoryScanEnd_ev (slot : Nat) (s : State) :
    OutEv Fp.execDirectoryScanEnd s (execDirectoryScanEnd slot s) := by
  unfold execDirectoryScanEnd
  repeat' first
    | with_reducible apply Ev.refl | with_reducible assumption | exact rfl
    | with_reducible apply Ev.seq (scanSlot_ev ..) ?_ ?_ | with_reducible apply Ev.seq (serveAll_ev ..) ?_ ?_
    | with_reducible apply Ev.seq (settle_ev ..) ?_ ?_ | with_reducible apply Ev.ite ?_ ?_
    | with_reducible apply OutEv.next | dsimp only | split

def Fp.atHolder : Nat := 0x93763b0000700000000330130c0002000002888000015404400510000002000100000000000000000000000000000000000000000000000000000c00c000000054a00000000000000000000
theorem atHolder_ev {F : Nat} {s0 : State} (port : Nat) (p : Packet) (op : BitVec 8) (f : State → State) (s : State) (hF : Sub Fp.atHolder F) (hf : ∀ x, Ev F x (f x)) (h0 : Ev F s0 s) :
    Ev F s0 (atHolder port p op f s) := by
  unfold atHolder
  repeat' first
    | with_reducible apply Ev.refl | with_reducible assumption | exact rfl | exact Sub.trans' hF rfl
    | with_reducible apply Ev.seq (hf _) (Sub.refl _) ?_ | with_reducible apply Ev.seq (accept_ev ..) ?_ ?_
    | with_reducible apply Ev.seq (settle_ev ..) ?_ ?_ | with_reducible apply Ev.ite ?_ ?_ | dsimp only
    | with_reducible refine Ev.ofPair (by assumption) ?_ | split

def Fp.checkedSnoop : Nat := 0x200020000020000028880000000000000000000000000000000000000000000000000000000000000000000000000000080000000000000000000000000000000000
theorem checkedSnoop_ev {F : Nat} {s0 : State} (p : Packet) (f : State → State) (s : State) (hF : Sub Fp.checkedSnoop F) (hf : ∀ x, Ev F x (f x)) (h0 : Ev F s0 s) :
    Ev F s0 (checkedSnoop p f s) := by
  unfold checkedSnoop
  repeat' first
    | with_reducible apply Ev.refl | with_reducible assumption | exact rfl | exact Sub.trans' hF rfl
    | with_reducible apply Ev.seq (hf _) (Sub.refl _) ?_ | with_reducible apply Ev.seq (dropBadCheck_ev ..) ?_ ?_
    | with_reducible apply Ev.ite ?_ ?_ | dsimp only | split

def Fp.execSnpShared : Nat := 0x93763b0000700000000330130c0002000002888000015404400510000002000100000000000000000000000000000000000000000000000000008c00c000000054a00000000000000000000
theorem execSnpShared_ev (port : Nat) (p : Packet) (s : State) :
    OutEv Fp.execSnpShared s (execSnpShared port p s) := by
  unfold execSnpShared
  repeat' first
    | with_reducible apply Ev.refl | with_reducible assumption | exact rfl
    | with_reducible apply atHolder_ev _ _ _ _ _ ?_ (fun _ => ?_) ?_
    | with_reducible apply checkedSnoop_ev _ _ _ ?_ (fun _ => ?_) ?_ | with_reducible apply Ev.seq (takeSnoop_ev ..) ?_ ?_
    | with_reducible apply OutEv.next | dsimp only | split

def Fp.execSnpInv : Nat := 0x93763b0000700000000330130c0002000002888000015404400510000002000100000000000000000000000000000000000000000000000000008c00c000000054a00000000000000000000
theorem execSnpInv_ev (port : Nat) (p : Packet) (s : State) :
    OutEv Fp.execSnpInv s (execSnpInv port p s) := by
  unfold execSnpInv
  repeat' first
    | with_reducible apply Ev.refl | with_reducible assumption | exact rfl
    | with_reducible apply atHolder_ev _ _ _ _ _ ?_ (fun _ => ?_) ?_
    | with_reducible apply checkedSnoop_ev _ _ _ ?_ (fun _ => ?_) ?_ | with_reducible apply Ev.seq (takeSnoop_ev ..) ?_ ?_
    | with_reducible apply OutEv.next | dsimp only | split

def Fp.execSnpCur : Nat := 0x93763b0000700000000330130c0002000002888000015404400510000002000100000000000000000000000000000000000000000000000000008c00c000000054a00000000000000000000
theorem execSnpCur_ev (port : Nat) (p : Packet) (s : State) :
    OutEv Fp.execSnpCur s (execSnpCur port p s) := by
  unfold execSnpCur
  repeat' first
    | with_reducible apply Ev.refl | with_reducible assumption | exact rfl
    | with_reducible apply atHolder_ev _ _ _ _ _ ?_ (fun _ => ?_) ?_
    | with_reducible apply checkedSnoop_ev _ _ _ ?_ (fun _ => ?_) ?_ | with_reducible apply Ev.seq (takeSnoop_ev ..) ?_ ?_
    | with_reducible apply OutEv.next | dsimp only | split

def Fp.execBinv : Nat := 0x93763b0000700000000330130c0002000002888000015404400510000002000100000000000000000000000000000000000000000000000000008c00c000000054a00000000000000000000
theorem execBinv_ev (port : Nat) (p : Packet) (s : State) :
    OutEv Fp.execBinv s (execBinv port p s) := by
  unfold execBinv
  repeat' first
    | with_reducible apply Ev.refl | with_reducible assumption | exact rfl
    | with_reducible apply atHolder_ev _ _ _ _ _ ?_ (fun _ => ?_) ?_
    | with_reducible apply checkedSnoop_ev _ _ _ ?_ (fun _ => ?_) ?_ | with_reducible apply Ev.seq (takeSnoop_ev ..) ?_ ?_
    | with_reducible apply OutEv.next | dsimp only | split

def Fp.execSnpFlush : Nat := 0x93fe3b0000700000000330130c0002000002888000015404400510000002000100000000000000000000000000000000000000000000000000008c00c000000054a00000000000000000000
theorem execSnpFlush_ev (port : Nat) (p : Packet) (s : State) :
    OutEv Fp.execSnpFlush s (execSnpFlush port p s) := by
  unfold execSnpFlush
  repeat' first
    | with_reducible apply Ev.refl | with_reducible assumption | exact rfl
    | with_reducible apply atHolder_ev _ _ _ _ _ ?_ (fun _ => ?_) ?_
    | with_reducible apply checkedSnoop_ev _ _ _ ?_ (fun _ => ?_) ?_ | with_reducible apply Ev.seq (takeFlush_ev ..) ?_ ?_
    | with_reducible apply OutEv.next | dsimp only | split

def Fp.execGo : Nat := 0x93fe3b0000700000000330130c0002000002888000015404400510000002000100000000000000000000000000000000000000000000000000000c00c000000054a00000000000000000000
theorem execGo_ev (port : Nat) (p : Packet) (s : State) :
    OutEv Fp.execGo s (execGo port p s) := by
  unfold execGo
  repeat' first
    | with_reducible apply Ev.refl | with_reducible assumption | exact rfl
    | with_reducible apply atHolder_ev _ _ _ _ _ ?_ (fun _ => ?_) ?_ | with_reducible apply Ev.seq (takeGo_ev ..) ?_ ?_
    | with_reducible apply OutEv.next | dsimp only | split

def Fp.execCmp : Nat := 0x93fe3b0000700000000330130c0002000002888000015404400510000002000100000000000000000000000000000000000000000000000000000c00c000000054a00000000000000000000
theorem execCmp_ev (port : Nat) (p : Packet) (s : State) :
    OutEv Fp.execCmp s (execCmp port p s) := by
  unfold execCmp
  repeat' first
    | with_reducible apply Ev.refl | with_reducible assumption | exact rfl
    | with_reducible apply atHolder_ev _ _ _ _ _ ?_ (fun _ => ?_) ?_ | with_reducible apply Ev.seq (takeCmp_ev ..) ?_ ?_
    | with_reducible apply OutEv.next | dsimp only | split

def Fp.execData : Nat := 0x937e3b0000700000000330130c0002000002888000015404400510000002000100000000000000000000000000000000000000000000000000000c00c000000054a00000000000000000000
theorem execData_ev (port : Nat) (p : Packet) (s : State) :
    OutEv Fp.execData s (execData port p s) := by
  unfold execData
  repeat' first
    | with_reducible apply Ev.refl | with_reducible assumption | exact rfl
    | with_reducible apply atHolder_ev _ _ _ _ _ ?_ (fun _ => ?_) ?_ | with_reducible apply Ev.seq (takeData_ev ..) ?_ ?_
    | with_reducible apply OutEv.next | dsimp only | split

def Fp.execCohTimeout : Nat := 0x93fe3b0000700000000330130c0002000002888000015404400510000000000100000000000000000000000000000000000000000000000000000c00c000000054000000000000000000000
theorem execCohTimeout_ev (leaf : Eid) (tseq : BitVec 24) (s : State) :
    OutEv Fp.execCohTimeout s (execCohTimeout leaf tseq s) := by
  unfold execCohTimeout
  repeat' first
    | with_reducible apply Ev.refl | with_reducible assumption | exact rfl
    | with_reducible apply Ev.seq (epRecovery_ev ..) ?_ ?_ | with_reducible apply Ev.seq (settle_ev ..) ?_ ?_
    | with_reducible apply Ev.ite ?_ ?_ | with_reducible apply OutEv.next | dsimp only
    | with_reducible refine Ev.ofPair (by assumption) ?_ | split

def Fp.execMirrorStoreDone : Nat := 0x200000000000000000200020000020020028880000000000000000000000000000000000000000000000000000000000000000000000000000000000000000000000000000000000000000
theorem execMirrorStoreDone_ev (s : State) :
    OutEv Fp.execMirrorStoreDone s (execMirrorStoreDone s) := by
  unfold execMirrorStoreDone
  repeat' first
    | with_reducible apply Ev.refl | with_reducible assumption | exact rfl
    | with_reducible apply Ev.seq (wrb_ev _ _ _ _ _ ?_) ?_ ?_ | with_reducible apply Ev.seq (onE_ev _ _ ?_) (Sub.refl _) ?_
    | with_reducible apply Ev.seq (logEvent_ev ..) ?_ ?_
    | with_reducible apply Ev.seq (raiseVector_ev _ _ (by decide)) ?_ ?_ | with_reducible apply Ev.ite ?_ ?_
    | (constructor <;> first | exact .inl rfl | exact .inr rfl | exact rfl | exact fun h => h | exact fun _ => rfl)
    | with_reducible apply OutEv.next | dsimp only | with_reducible refine Ev.ofPair (by assumption) ?_ | split

def Fp.execSnoopSlow : Nat := 0x200020000020000028880000000000000000000000000000000000000000000000000000000000000000000000000000000000000000000000000000000000000000
theorem execSnoopSlow_ev (stag : Nat) (s : State) :
    OutEv Fp.execSnoopSlow s (execSnoopSlow stag s) := by
  unfold execSnoopSlow
  repeat' first
    | with_reducible apply Ev.refl | with_reducible assumption | exact rfl
    | with_reducible apply Ev.seq (logEvent_ev ..) ?_ ?_ | with_reducible apply OutEv.next | dsimp only
    | with_reducible refine Ev.ofPair (by assumption) ?_ | split

end Sys2Proof.Machine
end

