-- ==== Sys2Proof/Laws/EvShadowOps.lean ====
section
/-! SUPPORT. What the operations of Machine/ShadowOps.lean may touch: one law for each, cited in place of unfolding it. The numbers are
sets of parts (Laws/Frame.lean, `Part.idx`). -/

set_option exponentiation.threshold 1024
set_option linter.unreachableTactic false
set_option linter.unusedTactic false

namespace Sys2Proof.Machine

def Fp.shadowFails : Nat := 0x80200000000100010000000000000000000100004145100000000001000000000000000000000000000000000000000000000000000000000000000000000000000000000000000
theorem shadowFails_ev (x : ShadowChunk) (element : Nat) (s : State) :
    Ev Fp.shadowFails s (shadowFails x element s) := by
  unfold shadowFails
  repeat' first
    | with_reducible apply Ev.refl | with_reducible assumption | exact rfl
    | with_reducible apply Ev.seq (wrb_ev _ _ _ _ _ ?_) ?_ ?_ | with_reducible apply Ev.seq (bump_ev _ _ _ _ ?_) ?_ ?_
    | with_reducible apply Ev.seq (logModule_ev ..) ?_ ?_ | with_reducible apply Ev.seq (putShadow_ev ..) ?_ ?_
    | dsimp only | split

def Fp.shadowPasses : Nat := 0x80200000000100010000000000000000000100005105100000000000000000000000000000000000000000000000000000000000000000000000000000000000000000000000000
theorem shadowPasses_ev (x : ShadowChunk) (s : State) :
    Ev Fp.shadowPasses s (shadowPasses x s) := by
  unfold shadowPasses
  repeat' first
    | with_reducible apply Ev.refl | with_reducible assumption | exact rfl
    | with_reducible apply Ev.seq (wr_ev _ _ _ _ _ ?_) ?_ ?_ | with_reducible apply Ev.seq (wrb_ev _ _ _ _ _ ?_) ?_ ?_
    | with_reducible apply Ev.seq (saturate_ev _ _ _ _ _ ?_) ?_ ?_ | with_reducible apply Ev.seq (logModule_ev ..) ?_ ?_
    | with_reducible apply Ev.seq (putShadow_ev ..) ?_ ?_ | with_reducible apply Ev.ite ?_ ?_ | dsimp only | split

def Fp.comparedFragment : Nat := 0x80200000000100010000000000000000000100005145100000000001000000000000000000000000000000000000000000000000000000000000000000000000000000000000000
theorem comparedFragment_ev (x : ShadowChunk) (f : Nat) (elems : Nat) (failing : Option Nat) (s : State) :
    Ev Fp.comparedFragment s (comparedFragment x f elems failing s) := by
  unfold comparedFragment
  repeat' first
    | with_reducible apply Ev.refl | with_reducible assumption | exact rfl
    | with_reducible apply Ev.seq (putShadow_ev ..) ?_ ?_ | with_reducible apply Ev.seq (shadowFails_ev ..) ?_ ?_
    | with_reducible apply Ev.seq (shadowPasses_ev ..) ?_ ?_ | with_reducible apply Ev.ite ?_ ?_ | dsimp only
    | with_reducible refine Ev.ofPair (by assumption) ?_ | split

def Fp.comparePartial : Nat := 0x80200000000100010000000000000000000100005145100000000001000000000000000000000000000000000000000000000000000000000000000000000000000000000000000
theorem comparePartial_ev (e : Nat) (n : Nat) (p : Packet) (s : State) :
    Ev Fp.comparePartial s (comparePartial e n p s) := by
  unfold comparePartial
  repeat' first
    | with_reducible apply Ev.refl | with_reducible assumption | exact rfl
    | with_reducible apply Ev.seq (comparedFragment_ev ..) ?_ ?_ | with_reducible apply Ev.seq (skipShadow_ev ..) ?_ ?_
    | with_reducible apply Ev.ite ?_ ?_ | dsimp only | with_reducible refine Ev.ofPair (by assumption) ?_ | split

def Fp.finishShadow : Nat := 0x1300000000100010400000000000000000100004005100000000001000000000000000000000000010000000000000000000000000000000000000014000000000000000000000
theorem finishShadow_ev (e : Nat) (k : MrnChunk) (s : State) :
    Ev Fp.finishShadow s (finishShadow e k s) := by
  unfold finishShadow
  repeat' first
    | with_reducible apply Ev.refl | with_reducible assumption | exact rfl
    | with_reducible apply Ev.seq (bumpBy_ev _ _ _ _ _ ?_) ?_ ?_ | with_reducible apply Ev.seq (putChunk_ev ..) ?_ ?_
    | with_reducible apply Ev.seq (sendOn_ev ..) ?_ ?_ | with_reducible apply Ev.ite ?_ ?_
    | with_reducible apply Ev.foldl (fun _ _ => ?_) ?_ | with_reducible apply Ev.foldlSnd (fun _ _ => ?_) ?_ | dsimp only
    | split

def Fp.addShadow : Nat := 0x3300000000100010400000000000000000100004005100000000001000000000000000000000000010000410000054000000000000000000000000014000000000015050400001
theorem addShadow_ev (e : Nat) (k0 : MrnChunk) (p : Packet) (s : State) :
    Ev Fp.addShadow s (addShadow e k0 p s) := by
  unfold addShadow
  repeat' first
    | with_reducible apply Ev.refl | with_reducible assumption | exact rfl
    | with_reducible apply Ev.seq (finishShadow_ev ..) ?_ ?_ | with_reducible apply Ev.seq (freeChunk_ev ..) ?_ ?_
    | with_reducible apply Ev.seq (putChunk_ev ..) ?_ ?_ | with_reducible apply Ev.ite ?_ ?_ | dsimp only | split

def Fp.shadowContrib : Nat := 0x3300000000100010400000000000000000100004005100000000001000000000000000000000000010000410414054000000000000000000000000014000000000015050400001
theorem shadowContrib_ev (e : Nat) (n : Nat) (p : Packet) (s : State) :
    Ev Fp.shadowContrib s (shadowContrib e n p s) := by
  unfold shadowContrib
  repeat' first
    | with_reducible apply Ev.refl | with_reducible assumption | exact rfl
    | with_reducible apply Ev.seq (bump_ev _ _ _ _ ?_) ?_ ?_ | with_reducible apply Ev.seq (addShadow_ev ..) ?_ ?_
    | with_reducible apply Ev.seq (openChunk_ev _ _ _ _ _ _ _ _ _ (by assumption)) ?_ ?_
    | with_reducible apply Ev.ite ?_ ?_ | dsimp only | with_reducible refine Ev.ofPair (by assumption) ?_ | split

def Fp.pairFragment : Nat := 0x80200000000100010000000000000000000100005145100000000001000000000000000000000000000000000000000000000000000000000000000000000000000000000000000
theorem pairFragment_ev (e : Nat) (n : Nat) (fromShadow : Bool) (p : Packet) (s : State) :
    Ev Fp.pairFragment s (pairFragment e n fromShadow p s) := by
  unfold pairFragment
  repeat' first
    | with_reducible apply Ev.refl | with_reducible assumption | exact rfl
    | with_reducible apply Ev.seq (comparedFragment_ev ..) ?_ ?_ | with_reducible apply Ev.seq (putShadow_ev ..) ?_ ?_
    | with_reducible apply Ev.seq (skipShadow_ev ..) ?_ ?_ | with_reducible apply Ev.ite ?_ ?_ | dsimp only
    | with_reducible refine Ev.ofPair (by assumption) ?_ | split

def Fp.atShadowPort : Nat := 0x83300000000100010400000000000000000100005145100000000001000000000000000000000000010000410414054000000000000000000000000014000000000015050400001
theorem atShadowPort_ev (e : Nat) (n : Nat) (p : Packet) (s : State) :
    Ev Fp.atShadowPort s (atShadowPort e n p s) := by
  unfold atShadowPort
  repeat' first
    | with_reducible apply Ev.refl | with_reducible assumption | exact rfl
    | with_reducible apply Ev.seq (comparePartial_ev ..) ?_ ?_ | with_reducible apply Ev.seq (pairFragment_ev ..) ?_ ?_
    | with_reducible apply Ev.seq (shadowContrib_ev ..) ?_ ?_ | with_reducible apply Ev.ite ?_ ?_ | dsimp only | split

def Fp.pairWorking : Nat := 0x80200000000100010000000000000000000100005145100000000001000000000000000000000000000000000000000000000000000000000000000000000000000000000000000
theorem pairWorking_ev (n : Nat) (p : Packet) (s : State) :
    Ev Fp.pairWorking s (pairWorking n p s) := by
  unfold pairWorking
  repeat' first
    | with_reducible apply Ev.refl | with_reducible assumption | exact rfl
    | with_reducible apply Ev.seq (pairFragment_ev ..) ?_ ?_ | with_reducible apply Ev.foldl (fun _ _ => ?_) ?_
    | with_reducible apply Ev.foldlSnd (fun _ _ => ?_) ?_ | dsimp only | split

end Sys2Proof.Machine
end

