-- ==== Sys2Proof/Laws/EvCollectives.lean ====
section
/-! SUPPORT. What the operations of Machine/Collectives.lean may touch: one law for each, cited in place of unfolding it. The numbers are
sets of parts (Laws/Frame.lean, `Part.idx`). -/

set_option exponentiation.threshold 1024
set_option linter.unreachableTactic false
set_option linter.unusedTactic false

namespace Sys2Proof.Machine

def Fp.execCollDescriptor : Nat := 0x180003b0000000000000200000000002800000000000000000000000000000000000000000000000000000000000000000000000000000000000000000000000000000000000000000000000
theorem execCollDescriptor_ev (s : State) :
    OutEv Fp.execCollDescriptor s (execCollDescriptor s) := by
  unfold execCollDescriptor
  repeat' first
    | with_reducible apply Ev.refl | with_reducible assumption | exact rfl
    | with_reducible apply Ev.seq (acceptDesc_ev ..) ?_ ?_ | with_reducible apply Ev.seq (fetched_ev ..) ?_ ?_
    | with_reducible apply Ev.seq (onQueue_ev ..) ?_ ?_ | with_reducible apply Ev.ite ?_ ?_
    | with_reducible apply OutEv.next | dsimp only | with_reducible refine Ev.ofPair (by assumption) ?_ | split

def Fp.execCollCancel : Nat := 0x180003b0000000000000200000000002800000000000000000000000000000000000000000000000000000000000000000000000000000000000000000000000000000000000000000000000
theorem execCollCancel_ev (s : State) :
    OutEv Fp.execCollCancel s (execCollCancel s) := by
  unfold execCollCancel
  repeat' first
    | with_reducible apply Ev.refl | with_reducible assumption | exact rfl
    | with_reducible apply Ev.seq (cancelStep_ev ..) ?_ ?_ | with_reducible apply Ev.seq (fetchColl_ev ..) ?_ ?_
    | with_reducible apply Ev.seq (fetched_ev ..) ?_ ?_ | with_reducible apply Ev.seq (onQueue_ev ..) ?_ ?_
    | with_reducible apply Ev.ite ?_ ?_ | with_reducible apply OutEv.next | dsimp only
    | with_reducible refine Ev.ofPair (by assumption) ?_ | split

def Fp.execTimedStart : Nat := 0x10000000000000000000000000000000000000000000000000000000000000000000000000000000000000000000000000000000000000000000000000000000000000000000000000000000
theorem execTimedStart_ev (id : Nat) (s : State) :
    OutEv Fp.execTimedStart s (execTimedStart id s) := by
  unfold execTimedStart
  repeat' first
    | with_reducible apply Ev.refl | with_reducible assumption | exact rfl
    | with_reducible apply Ev.seq (onCollDesc_ev ..) ?_ ?_ | with_reducible apply OutEv.next | dsimp only | split

def Fp.execChunkSend : Nat := 0x100003b0000000000000200000000000000000000000000000000000000000000000000000000000000000000000000000000000000000000000000000000000000000000000000000000000
theorem execChunkSend_ev (g : Nat) (plane : Bool) (s : State) :
    OutEv Fp.execChunkSend s (execChunkSend g plane s) := by
  unfold execChunkSend
  repeat' first
    | with_reducible apply Ev.refl | with_reducible assumption | exact rfl
    | with_reducible apply Ev.seq (launchChunk_ev ..) ?_ ?_ | with_reducible apply Ev.ite ?_ ?_
    | with_reducible apply OutEv.next | dsimp only | with_reducible refine Ev.ofPair (by assumption) ?_ | split

def Fp.execProbeTimer : Nat := 0x100000000000000800000000000000000000000000000000000000000000000000000000000000000000000000000000000000000000000000000000000000000000000000000
theorem execProbeTimer_ev (id : Nat) (chunk : Nat) (s : State) :
    OutEv Fp.execProbeTimer s (execProbeTimer id chunk s) := by
  unfold execProbeTimer
  repeat' first
    | with_reducible apply Ev.refl | with_reducible assumption | exact rfl
    | with_reducible apply Ev.seq (sendProbe_ev ..) ?_ ?_ | with_reducible apply Ev.ite ?_ ?_
    | with_reducible apply OutEv.next | dsimp only | with_reducible refine Ev.ofPair (by assumption) ?_ | split

def Fp.execCollTimeout : Nat := 0x100003b0000000000000200000000000000000000000000000000000000000000000000000000000000000000000000000000000000000000000000000000000000000000000000000000000
theorem execCollTimeout_ev (id : Nat) (chunk : Nat) (s : State) :
    OutEv Fp.execCollTimeout s (execCollTimeout id chunk s) := by
  unfold execCollTimeout
  repeat' first
    | with_reducible apply Ev.refl | with_reducible assumption | exact rfl
    | with_reducible apply Ev.seq (endChunk_ev ..) ?_ ?_ | with_reducible apply Ev.ite ?_ ?_
    | with_reducible apply OutEv.next | dsimp only | with_reducible refine Ev.ofPair (by assumption) ?_ | split

def Fp.execSrcReadFail : Nat := 0x100003b0000100000000200000800000000000000000000000000000000000000000000000000000000000000000000000000000000000000000000000000000000000000000000000000000
theorem execSrcReadFail_ev (id : Nat) (chunk : Nat) (s : State) :
    OutEv Fp.execSrcReadFail s (execSrcReadFail id chunk s) := by
  unfold execSrcReadFail
  repeat' first
    | with_reducible apply Ev.refl | with_reducible assumption | exact rfl
    | with_reducible apply Ev.seq (endChunk_ev ..) ?_ ?_ | with_reducible apply Ev.seq (sendAbort_ev ..) ?_ ?_
    | with_reducible apply OutEv.next | dsimp only | with_reducible refine Ev.ofPair (by assumption) ?_ | split

def Fp.receiveColl : Side → Nat
  | .module => 0x200000000300130000020000028880000100004005100000010001000000000000000000000000000000000000000000000000000040000000000000600000000000000000000
  | .endpoint => 0x200020800020000028880000000000000000000020000000000000000000000000000000000000000000000000000000080000000000000a00000000000000000000
theorem receiveColl_ev (sd : Side) (port : Nat) (p : Packet) (s : State) :
    Ev (Fp.receiveColl sd) s (receiveColl sd port p s).2 := by
  cases sd <;> (
    unfold receiveColl
    repeat' first
      | with_reducible apply Ev.refl | with_reducible assumption | exact rfl
      | with_reducible apply Ev.seq (accept_ev ..) ?_ ?_ | with_reducible apply Ev.seq (dropBadCheck_ev ..) ?_ ?_
      | with_reducible apply Ev.ite ?_ ?_ | dsimp only | with_reducible refine Ev.ofPair (by assumption) ?_ | contradiction
      | split)

def Fp.contextOf : Nat := 0x200000000100010000000000000000000100004005100000000001000000000000000000000000000000004000000000000000000000000000000004000000000000000000000
theorem contextOf_ev (port : Nat) (p : Packet) (s : State) :
    Ev Fp.contextOf s (contextOf port p s).2 := by
  unfold contextOf
  repeat' first
    | with_reducible apply Ev.refl | with_reducible assumption | exact rfl
    | with_reducible apply Ev.seq (bump_ev _ _ _ _ ?_) ?_ ?_ | with_reducible apply Ev.seq (countUnreachable_ev ..) ?_ ?_
    | with_reducible apply Ev.ite ?_ ?_ | dsimp only | with_reducible refine Ev.ofPair (by assumption) ?_ | split

def Fp.execCollContrib : Nat := 0x83700000000300130400020000028880000100045145100000450001000000000000000000000000010000414555554000000000000040000000000054600000000015050400001
theorem execCollContrib_ev (port : Nat) (p : Packet) (s : State) :
    OutEv Fp.execCollContrib s (execCollContrib port p s) := by
  unfold execCollContrib
  repeat' first
    | with_reducible apply Ev.refl | with_reducible assumption | exact rfl
    | with_reducible apply Ev.seq (bump_ev _ _ _ _ ?_) ?_ ?_ | with_reducible apply Ev.seq (atShadowPort_ev ..) ?_ ?_
    | with_reducible apply Ev.seq (contextOf_ev ..) ?_ ?_ | with_reducible apply Ev.seq (pairWorking_ev ..) ?_ ?_
    | with_reducible apply Ev.seq (receiveColl_ev ..) ?_ ?_ | with_reducible apply Ev.seq (takeContrib_ev ..) ?_ ?_
    | with_reducible apply Ev.ite ?_ ?_ | with_reducible apply OutEv.next | dsimp only
    | with_reducible refine Ev.ofPair (by assumption) ?_ | split

def Fp.execEpilogueStart : Nat := 0x370000f000100110400000000000000000100044005100000000001000000000000000000000150015500410100054004000000000000000000000054000000000015050400001
theorem execEpilogueStart_ev (ctx : Nat) (step : Nat) (chunk : Nat) (count : Nat) (s : State) :
    OutEv Fp.execEpilogueStart s (execEpilogueStart ctx step chunk count s) := by
  unfold execEpilogueStart
  repeat' first
    | with_reducible apply Ev.refl | with_reducible assumption | exact rfl
    | with_reducible apply Ev.seq (startEpilogue_ev ..) ?_ ?_ | with_reducible apply Ev.ite ?_ ?_
    | with_reducible apply OutEv.next | dsimp only | with_reducible refine Ev.ofPair (by assumption) ?_ | split

def Fp.execEpilogueCommit : Nat := 0x370000f000100110400000000000000000100044005100000000001000000000000000000000000004040410100054004000000000000000000000054000000000015050400001
theorem execEpilogueCommit_ev (ctx : Nat) (step : Nat) (chunk : Nat) (s : State) :
    OutEv Fp.execEpilogueCommit s (execEpilogueCommit ctx step chunk s) := by
  unfold execEpilogueCommit
  repeat' first
    | with_reducible apply Ev.refl | with_reducible assumption | exact rfl
    | with_reducible apply Ev.seq (commitEpilogue_ev ..) ?_ ?_ | with_reducible apply Ev.ite ?_ ?_
    | with_reducible apply OutEv.next | dsimp only | with_reducible refine Ev.ofPair (by assumption) ?_ | split

def Fp.forwardResult : Nat := 0x3700000000100110400000000000000000100044005100000000001000000000000000000000000000000410000054000000000000000000000000054000000000015050400001
theorem forwardResult_ev (n : Nat) (port : Nat) (p : Packet) (s : State) :
    Ev Fp.forwardResult s (forwardResult n port p s) := by
  unfold forwardResult
  repeat' first
    | with_reducible apply Ev.refl | with_reducible assumption | exact rfl
    | with_reducible apply Ev.seq (copyResult_ev ..) ?_ ?_ | with_reducible apply Ev.seq (freeChunk_ev ..) ?_ ?_
    | with_reducible apply Ev.seq (sendDown_ev ..) ?_ ?_ | with_reducible apply Ev.ite ?_ ?_ | dsimp only
    | with_reducible refine Ev.ofPair (by assumption) ?_ | split

def Fp.execCollResult : Side → Nat
  | .module => 0x3700000000300130400020000028880000100044005100000010001000000000000000000000000000000414000054000000000000000000000000054600000000015050400001
  | .endpoint => 0x100003b00000000000002000208000200000288800000000000000000008a0000000000000000000000000000000000000000000000000000000080000000000000a00000000000000000000
theorem execCollResult_ev (side : Side) (port : Nat) (p : Packet) (s : State) :
    OutEv (Fp.execCollResult side) s (execCollResult side port p s) := by
  cases side <;> (
    unfold execCollResult
    repeat' first
      | with_reducible apply Ev.refl | with_reducible assumption | exact rfl
      | with_reducible apply Ev.seq (accept_ev ..) ?_ ?_ | with_reducible apply Ev.seq (contextOf_ev ..) ?_ ?_
      | with_reducible apply Ev.seq (forwardResult_ev ..) ?_ ?_ | with_reducible apply Ev.seq (receiveColl_ev ..) ?_ ?_
      | with_reducible apply Ev.seq (takeResult_ev ..) ?_ ?_ | with_reducible apply Ev.ite ?_ ?_
      | with_reducible apply OutEv.next | dsimp only | with_reducible refine Ev.ofPair (by assumption) ?_ | contradiction
      | split)

def Fp.execCollAbort : Side → Nat
  | .module => 0x3700000000300130400020000028880000100044005100000010001000000000000000000000000000000414100054000000000000040000000000054600000000015050400001
  | .endpoint => 0x100003b0000000000000200020800020000028880000000000000000000020000000000000000000000000000000000000000000000000000000080000000000000a00000000000000000000
theorem execCollAbort_ev (side : Side) (port : Nat) (p : Packet) (s : State) :
    OutEv (Fp.execCollAbort side) s (execCollAbort side port p s) := by
  cases side <;> (
    unfold execCollAbort
    repeat' first
      | with_reducible apply Ev.refl | with_reducible assumption | exact rfl
      | with_reducible apply Ev.seq (contextOf_ev ..) ?_ ?_ | with_reducible apply Ev.seq (passAbort_ev ..) ?_ ?_
      | with_reducible apply Ev.seq (receiveColl_ev ..) ?_ ?_ | with_reducible apply Ev.seq (takeAbort_ev ..) ?_ ?_
      | with_reducible apply Ev.ite ?_ ?_ | with_reducible apply OutEv.next | dsimp only
      | with_reducible refine Ev.ofPair (by assumption) ?_ | contradiction | split)

def Fp.execCollResend : Side → Nat
  | .module => 0x3700000000300130400020000028880000100044005100000010001000000000000000000000000000000414115054000000000000040000000000054600000000015050400001
  | .endpoint => 0x100003b0083f0000f000310130c00020000028880000100045015100000020001000000000000000000000000000000410100054445500000000080000000000054e00c00000015050400001
theorem execCollResend_ev (side : Side) (port : Nat) (p : Packet) (s : State) :
    OutEv (Fp.execCollResend side) s (execCollResend side port p s) := by
  cases side <;> (
    unfold execCollResend
    repeat' first
      | with_reducible apply Ev.refl | with_reducible assumption | exact rfl
      | with_reducible apply Ev.seq (contextOf_ev ..) ?_ ?_ | with_reducible apply Ev.seq (mrnResend_ev ..) ?_ ?_
      | with_reducible apply Ev.seq (receiveColl_ev ..) ?_ ?_ | with_reducible apply Ev.seq (takeResend_ev ..) ?_ ?_
      | with_reducible apply Ev.ite ?_ ?_ | with_reducible apply OutEv.next | dsimp only
      | with_reducible refine Ev.ofPair (by assumption) ?_ | contradiction | split)

def Fp.execCollProbe : Nat := 0x700000000300130400020000028880000100044005100000010001000000000000000000000000000000004000000000000000000040000000000014600000000000000000000
theorem execCollProbe_ev (port : Nat) (p : Packet) (count : Nat) (s : State) :
    OutEv Fp.execCollProbe s (execCollProbe port p count s) := by
  unfold execCollProbe
  repeat' first
    | with_reducible apply Ev.refl | with_reducible assumption | exact rfl
    | with_reducible apply Ev.seq (contextOf_ev ..) ?_ ?_ | with_reducible apply Ev.seq (receiveColl_ev ..) ?_ ?_
    | with_reducible apply Ev.seq (rootProbe_ev ..) ?_ ?_ | with_reducible apply Ev.seq (sendUp_ev ..) ?_ ?_
    | with_reducible apply Ev.ite ?_ ?_ | with_reducible apply OutEv.next | dsimp only
    | with_reducible refine Ev.ofPair (by assumption) ?_ | split

def Fp.execRefusalBackoff : Side → Nat
  | .module => 0x1300000000100010400000000000000000100004005100000000001000000000000000000000000000000000000000000000000000000000000000014000000000000000000000
  | .endpoint => 0x100003b0000000000000200000000000000000000000000000000000000000000000000000000000000000000000000000000000000000000000000000000000000000000000000000000000
theorem execRefusalBackoff_ev (side : Side) (unit : Nat) (step : Nat) (chunk : Nat) (s : State) :
    OutEv (Fp.execRefusalBackoff side) s (execRefusalBackoff side unit step chunk s) := by
  cases side <;> (
    unfold execRefusalBackoff
    repeat' first
      | with_reducible apply Ev.refl | with_reducible assumption | exact rfl
      | with_reducible apply Ev.seq (putChunk_ev ..) ?_ ?_ | with_reducible apply Ev.seq (readContribution_ev ..) ?_ ?_
      | with_reducible apply Ev.seq (sendPartial_ev ..) ?_ ?_ | with_reducible apply Ev.ite ?_ ?_
      | with_reducible apply OutEv.next | dsimp only | with_reducible refine Ev.ofPair (by assumption) ?_ | contradiction
      | split)

def Fp.execPartialHoldExpire : Nat := 0x3200000000100010000000000000000000100004005100000000001000000000000000000000000000000410000054000000000000000000000000000000000000015050400001
theorem execPartialHoldExpire_ev (ctx : Nat) (step : Nat) (chunk : Nat) (s : State) :
    OutEv Fp.execPartialHoldExpire s (execPartialHoldExpire ctx step chunk s) := by
  unfold execPartialHoldExpire
  repeat' first
    | with_reducible apply Ev.refl | with_reducible assumption | exact rfl
    | with_reducible apply Ev.seq (freeChunk_ev ..) ?_ ?_ | with_reducible apply Ev.ite ?_ ?_
    | with_reducible apply OutEv.next | dsimp only | with_reducible refine Ev.ofPair (by assumption) ?_ | split

def Fp.execResultRetainExpire : Nat := 0x1000000000000000000000000000000000000000000000000000000000000000000000000000000000000000000000000000000000000000000000000000000000000000000000
theorem execResultRetainExpire_ev (ctx : Nat) (step : Nat) (chunk : Nat) (s : State) :
    OutEv Fp.execResultRetainExpire s (execResultRetainExpire ctx step chunk s) := by
  unfold execResultRetainExpire
  repeat' first
    | with_reducible apply Ev.refl | with_reducible assumption | exact rfl
    | with_reducible apply Ev.seq (onMrn_ev ..) ?_ ?_ | with_reducible apply Ev.ite ?_ ?_ | with_reducible apply OutEv.next
    | dsimp only | split

def Fp.execChunkRecordExpire : Nat := 0x1000000000000000000000000000000000000000000000000000000000000000000000000000000000000000000000000000000000000000000000000000000000000000000000
theorem execChunkRecordExpire_ev (ctx : Nat) (step : Nat) (chunk : Nat) (s : State) :
    OutEv Fp.execChunkRecordExpire s (execChunkRecordExpire ctx step chunk s) := by
  unfold execChunkRecordExpire
  repeat' first
    | with_reducible apply Ev.refl | with_reducible assumption | exact rfl
    | with_reducible apply Ev.seq (onMrn_ev ..) ?_ ?_ | with_reducible apply OutEv.next | dsimp only | split

def Fp.execRecordQuery : Nat := 0x14000000000000000000000000000000000000000000000000000000000
theorem execRecordQuery_ev (ctx : Nat) (chunk : Nat) (s : State) :
    OutEv Fp.execRecordQuery s (execRecordQuery ctx chunk s) := by
  unfold execRecordQuery
  repeat' first
    | with_reducible apply Ev.refl | with_reducible assumption | exact rfl
    | with_reducible apply Ev.seq (queryRecord_ev ..) ?_ ?_ | with_reducible apply OutEv.next | dsimp only | split

end Sys2Proof.Machine
end

