-- ==== Sys2Proof/Laws/EvSwitch.lean ====
section
/-! SUPPORT. What the operations of Machine/Switch.lean may touch: one law for each, cited in place of unfolding it. The numbers are
sets of parts (Laws/Frame.lean, `Part.idx`). -/

set_option exponentiation.threshold 1024
set_option linter.unreachableTactic false
set_option linter.unusedTactic false

namespace Sys2Proof.Machine

def Fp.takeArrived : Nat := 0x400000000000000000000000000000000000000000000000000000000000000000000000000000000000000000000000000000000000000000000000000000
theorem takeArrived_ev (p : Nat) (pkt : Packet) (s : State) :
    Ev Fp.takeArrived s (takeArrived p pkt s).2 := by
  unfold takeArrived
  repeat' first
    | with_reducible apply Ev.refl | with_reducible assumption | exact rfl
    | with_reducible apply Ev.seq (onPort_ev ..) ?_ ?_ | with_reducible apply Ev.ite ?_ ?_ | dsimp only | split

def Fp.execPacketIngress : Nat := 0x700000000100110400000000000000000100044005100000010001000000000000000000000000000000000000000000000000000000000000000054500000000000000000000
theorem execPacketIngress_ev (p : Nat) (pkt : Packet) (s : State) :
    OutEv Fp.execPacketIngress s (execPacketIngress p pkt s) := by
  unfold execPacketIngress
  repeat' first
    | with_reducible apply Ev.refl | with_reducible assumption | exact rfl
    | with_reducible apply Ev.seq (ingress_ev ..) ?_ ?_ | with_reducible apply Ev.seq (takeArrived_ev ..) ?_ ?_
    | with_reducible apply Ev.ite ?_ ?_ | with_reducible apply OutEv.next | dsimp only | split

def Fp.execBufferRoomFreed : Nat := 0x700000000100110400000000000000000100044005100000000001000000000000000000000000000000000000000000000000000000000000000054400000000000000000000
theorem execBufferRoomFreed_ev (i : Nat) (s : State) :
    OutEv Fp.execBufferRoomFreed s (execBufferRoomFreed i s) := by
  unfold execBufferRoomFreed
  repeat' first
    | with_reducible apply Ev.refl | with_reducible assumption | exact rfl
    | with_reducible apply Ev.seq (onM_ev _ _ ?_) (Sub.refl _) ?_ | with_reducible apply Ev.seq (enqueueMany_ev ..) ?_ ?_
    | with_reducible apply Ev.seq (enqueuePort_ev ..) ?_ ?_ | with_reducible apply Ev.seq (routePacket_ev ..) ?_ ?_
    | with_reducible apply Ev.ite ?_ ?_
    | (constructor <;> first | exact .inl rfl | exact .inr rfl | exact rfl | exact fun h => h | exact fun _ => rfl)
    | with_reducible apply OutEv.next | dsimp only | with_reducible refine Ev.ofPair (by assumption) ?_ | split

def Fp.execResidueSend : Nat := 0x700000000100010400000000000000000100044005100000000000000000000000000000000000000000000000000000000000000000000000000000000000000000000000000
theorem execResidueSend_ev (p : Nat) (i : Nat) (s : State) :
    OutEv Fp.execResidueSend s (execResidueSend p i s) := by
  unfold execResidueSend
  repeat' first
    | with_reducible apply Ev.refl | with_reducible assumption | exact rfl
    | with_reducible apply Ev.seq (onPort_ev ..) ?_ ?_ | with_reducible apply Ev.seq (startPacket_ev ..) ?_ ?_
    | with_reducible apply Ev.seq (storeLeft_ev ..) ?_ ?_ | with_reducible apply Ev.ite ?_ ?_
    | with_reducible apply OutEv.next | dsimp only | with_reducible refine Ev.ofPair (by assumption) ?_ | split

def Fp.execReseqArrive : Nat := 0x700000000100110400000000000000000100044005100000000001000000000000000000000000000000000000000000000000000000000000000154000000000000000000000
theorem execReseqArrive_ev (p : Nat) (pkt : Packet) (s : State) :
    OutEv Fp.execReseqArrive s (execReseqArrive p pkt s) := by
  unfold execReseqArrive
  repeat' first
    | with_reducible apply Ev.refl | with_reducible assumption | exact rfl
    | with_reducible apply Ev.seq (onM_ev _ _ ?_) (Sub.refl _) ?_ | with_reducible apply Ev.seq (reseqArrive_ev ..) ?_ ?_
    | with_reducible apply Ev.ite ?_ ?_
    | (constructor <;> first | exact .inl rfl | exact .inr rfl | exact rfl | exact fun h => h | exact fun _ => rfl)
    | with_reducible apply OutEv.next | dsimp only | with_reducible refine Ev.ofPair (by assumption) ?_ | split

def Fp.execReseqGapTimeout : Nat := 0x700000000100110400000000000000000100044005100000000001000000000000000000000000000000000000000000000000000000000000000454000000000000000000000
theorem execReseqGapTimeout_ev (p : Nat) (src : Eid) (dst : Eid) (stream : BitVec 4) (epoch : BitVec 4) (s : State) :
    OutEv Fp.execReseqGapTimeout s (execReseqGapTimeout p src dst stream epoch s) := by
  unfold execReseqGapTimeout
  repeat' first
    | with_reducible apply Ev.refl | with_reducible assumption | exact rfl
    | with_reducible apply Ev.seq (reseqTimeout_ev ..) ?_ ?_ | with_reducible apply OutEv.next | dsimp only | split

def Fp.settleNoc : Nat := 0x40000000000
theorem settleNoc_ev (s : State) :
    Ev Fp.settleNoc s (settleNoc s) := by
  unfold settleNoc
  repeat' first
    | with_reducible apply Ev.refl | with_reducible assumption | exact rfl
    | with_reducible apply Ev.seq (wrb_ev _ _ _ _ _ ?_) ?_ ?_ | dsimp only | split

def Fp.nocPlaneOut : Nat := 0x300000000100010000000000000000000100004005100000000000000000000000000000000000000000000000000000000000000000000000000000000000000040000000000
theorem nocPlaneOut_ev (plane : Nat) (router : Nat) (s : State) :
    Ev Fp.nocPlaneOut s (nocPlaneOut plane router s) := by
  unfold nocPlaneOut
  repeat' first
    | with_reducible apply Ev.refl | with_reducible assumption | exact rfl
    | with_reducible apply Ev.seq (onM_ev _ _ ?_) (Sub.refl _) ?_ | with_reducible apply Ev.seq (logModule_ev ..) ?_ ?_
    | with_reducible apply Ev.seq (settleNoc_ev ..) ?_ ?_ | with_reducible apply Ev.ite ?_ ?_
    | (constructor <;> first | exact .inl rfl | exact .inr rfl | exact rfl | exact fun h => h | exact fun _ => rfl)
    | dsimp only | split

def Fp.writeNocCtl : Nat := 0x200000000100010000000000000000000100004005100000000000000000000000000000000000000000000000000000000000000000000000000000000000000140000000000
theorem writeNocCtl_ev (value : Nat) (plane0 : Bool) (plane1 : Bool) (s : State) :
    Ev Fp.writeNocCtl s (writeNocCtl value plane0 plane1 s) := by
  unfold writeNocCtl
  repeat' first
    | with_reducible apply Ev.refl | with_reducible assumption | exact rfl
    | with_reducible apply Ev.seq (wrb_ev _ _ _ _ _ ?_) ?_ ?_ | with_reducible apply Ev.seq (regAccess_ev ..) ?_ ?_
    | with_reducible apply Ev.seq (settleNoc_ev ..) ?_ ?_ | with_reducible apply Ev.ite ?_ ?_ | dsimp only | split

def Fp.execNocPlaneDisable : Nat := 0x200200000000100010000000000000000000100004005100010000001000000000000000000000000000000000000000000000000000000000000000000000000000140000000000
theorem execNocPlaneDisable_ev (path : Path) (plane0 : Bool) (plane1 : Bool) (s : State) :
    OutEv Fp.execNocPlaneDisable s (execNocPlaneDisable path plane0 plane1 s) := by
  unfold execNocPlaneDisable
  repeat' first
    | with_reducible apply Ev.refl | with_reducible assumption | exact rfl
    | with_reducible apply rwl_ev _ _ _ _ _ _ ?_ (fun _ => ?_) ?_ | with_reducible apply Ev.seq (writeNocCtl_ev ..) ?_ ?_
    | with_reducible apply OutEv.next | dsimp only | split

def Fp.countAge : Nat := 0x200000000100010000000000000000000100004005100000000001000000000000000000000000000000001000000000000000000000400000000000000000000000000000000
theorem countAge_ev (pkt : Packet) (s : State) :
    Ev Fp.countAge s (countAge pkt s) := by
  unfold countAge
  repeat' first
    | with_reducible apply Ev.refl | with_reducible assumption | exact rfl
    | with_reducible apply Ev.seq (bump_ev _ _ _ _ ?_) ?_ ?_ | with_reducible apply Ev.ite ?_ ?_ | dsimp only | split

def Fp.execPacketAgeOut : Nat := 0x300000000100010400000000000000000100004005100000000001000000000000000000000000000000001000000000000000000000400000000000000000000000000000000
theorem execPacketAgeOut_ev (p : Nat) (pkt : Packet) (s : State) :
    OutEv Fp.execPacketAgeOut s (execPacketAgeOut p pkt s) := by
  unfold execPacketAgeOut
  repeat' first
    | with_reducible apply Ev.refl | with_reducible assumption | exact rfl
    | with_reducible apply Ev.seq (onPort_ev ..) ?_ ?_ | with_reducible apply Ev.seq (onM_ev _ _ ?_) (Sub.refl _) ?_
    | with_reducible apply Ev.seq (countAge_ev ..) ?_ ?_ | with_reducible apply Ev.seq (leaveIngress_ev ..) ?_ ?_
    | with_reducible apply Ev.ite ?_ ?_
    | (constructor <;> first | exact .inl rfl | exact .inr rfl | exact rfl | exact fun h => h | exact fun _ => rfl)
    | with_reducible apply OutEv.next | dsimp only | with_reducible refine Ev.ofPair (by assumption) ?_ | split

def Fp.execReorderHoldExpire : Nat := 0x700000000100110400000000000000000100044005100000000001000000000000000000000000000000000000000000000000000000000000000054000000000000000000000
theorem execReorderHoldExpire_ev (i : Nat) (s : State) :
    OutEv Fp.execReorderHoldExpire s (execReorderHoldExpire i s) := by
  unfold execReorderHoldExpire
  repeat' first
    | with_reducible apply Ev.refl | with_reducible assumption | exact rfl
    | with_reducible apply Ev.seq (onM_ev _ _ ?_) (Sub.refl _) ?_ | with_reducible apply Ev.seq (enqueuePort_ev ..) ?_ ?_
    | (constructor <;> first | exact .inl rfl | exact .inr rfl | exact rfl | exact fun h => h | exact fun _ => rfl)
    | with_reducible apply OutEv.next | dsimp only | with_reducible refine Ev.ofPair (by assumption) ?_ | split

end Sys2Proof.Machine
end

