-- ==== Sys2Proof/Laws/EvTransport.lean ====
section
/-! SUPPORT. What the operations of Machine/Transport.lean may touch: one law for each, cited in place of unfolding it. The numbers are
sets of parts (Laws/Frame.lean, `Part.idx`). -/

set_option exponentiation.threshold 1024
set_option linter.unreachableTactic false
set_option linter.unusedTactic false

namespace Sys2Proof.Machine

def Fp.execSeqPacketSend : Side → Nat
  | .module => 0x93763b0000700000000330130c0002000002888000015404400510000000000100000000000000000000000000000000000000000000000000000c00c000000054000000000000000000000
  | .endpoint => 0x937e3b0000700000000330130c0002000002888000015404400510000000000100000000000000000000000000000000000000000000000000000c00c000000054000000000000000000000
theorem execSeqPacketSend_ev (sd : Side) (id : Nat) (s : State) :
    OutEv (Fp.execSeqPacketSend sd) s (execSeqPacketSend sd id s) := by
  cases sd <;> (
    unfold execSeqPacketSend
    repeat' first
      | with_reducible apply Ev.refl | with_reducible assumption | exact rfl
      | with_reducible apply Ev.seq (settle_ev ..) ?_ ?_ | with_reducible apply Ev.seq (stepAcc_ev ..) ?_ ?_
      | with_reducible apply Ev.seq (tryIssue_ev ..) ?_ ?_ | with_reducible apply Ev.ite ?_ ?_
      | with_reducible apply OutEv.next | dsimp only | with_reducible refine Ev.ofPair (by assumption) ?_ | contradiction
      | split)

def Fp.execSeqPacketReceive : Side → Nat
  | .module => 0x93763b0000f0000f000330130c0002000002888000015404400510000155000100000000000000000000000000000000000000044550001555400d14c000000054600c00000000000000000
  | .endpoint => 0x9377fb0000700000000330130c00020000028880000154044005100002aa000100000000000000000000000000000000000000000000002aaa800e28c000000054a00c00000000000000000
theorem execSeqPacketReceive_ev (sd : Side) (port : Nat) (p : Packet) (s : State) :
    OutEv (Fp.execSeqPacketReceive sd) s (execSeqPacketReceive sd port p s) := by
  cases sd <;> (
    unfold execSeqPacketReceive
    repeat' first
      | with_reducible apply Ev.refl | with_reducible assumption | exact rfl
      | with_reducible apply Ev.seq (receiveSeq_ev ..) ?_ ?_ | with_reducible apply Ev.seq (settle_ev ..) ?_ ?_
      | with_reducible apply Ev.seq (takeRequest_ev ..) ?_ ?_ | with_reducible apply Ev.ite ?_ ?_
      | with_reducible apply OutEv.next | dsimp only | contradiction | split)

def Fp.execAckTimer : Side → Nat
  | .module => 0x700000000110110400000000000000000100044005100000000001000000000000000000000000000000000000000000000000000000000000000054000000000000000000000
  | .endpoint => 0x100000000020000800000000000000000000000000000000000000000000000000000000000000000000000000000000000000000000000000000000000000000000000000000
theorem execAckTimer_ev (sd : Side) (src : Eid) (dst : Eid) (stream : BitVec 4) (s : State) :
    OutEv (Fp.execAckTimer sd) s (execAckTimer sd src dst stream s) := by
  cases sd <;> (
    unfold execAckTimer
    repeat' first
      | with_reducible apply Ev.refl | with_reducible assumption | exact rfl
      | with_reducible apply Ev.seq (sendAck_ev ..) ?_ ?_ | with_reducible apply Ev.ite ?_ ?_
      | with_reducible apply OutEv.next | dsimp only | contradiction | split)

def Fp.takeControl : Side → Nat
  | .module => 0x93763b0000700000000330130c0002000002888000015404400510000001000100000000000000000000000000000000000000000000000000004c00c000000054600000000000000000000
  | .endpoint => 0x93763b0000700000000330130c0002000002888000015404400510000002000100000000000000000000000000000000000000000000000000008c00c000000054a00000000000000000000
theorem takeControl_ev {F : Nat} {s0 : State} (sd : Side) (port : Nat) (p : Packet) (op : BitVec 8) (f : State → State) (s : State) (hF : Sub (Fp.takeControl sd) F) (hf : ∀ x, Ev F x (f x)) (h0 : Ev F s0 s) :
    Ev F s0 (takeControl sd port p op f s) := by
  cases sd <;> (
    unfold takeControl
    repeat' first
      | with_reducible apply Ev.refl | with_reducible assumption | exact rfl | exact Sub.trans' hF rfl
      | with_reducible apply Ev.seq (hf _) (Sub.refl _) ?_ | with_reducible apply Ev.seq (accept_ev ..) ?_ ?_
      | with_reducible apply Ev.seq (dropBadCheck_ev ..) ?_ ?_ | with_reducible apply Ev.seq (settle_ev ..) ?_ ?_
      | with_reducible apply Ev.ite ?_ ?_ | dsimp only | with_reducible refine Ev.ofPair (by assumption) ?_ | contradiction
      | split)

def Fp.execXptAck : Side → Nat
  | .module => 0x93763b0000700000000330130c0002000002888000015404400510000001000100000000000000000000000000000000000000000000000000004c00c000000054600000000000000000000
  | .endpoint => 0x93763b0000700000000330130c0002000002888000015404400510000002000100000000000000000000000000000000000000000000000000008c00c000000054a00000000000000000000
theorem execXptAck_ev (sd : Side) (port : Nat) (p : Packet) (s : State) :
    OutEv (Fp.execXptAck sd) s (execXptAck sd port p s) := by
  cases sd <;> (
    unfold execXptAck
    repeat' first
      | with_reducible apply Ev.refl | with_reducible assumption | exact rfl
      | with_reducible apply Ev.seq (runBarriers_ev ..) ?_ ?_
      | with_reducible apply takeControl_ev _ _ _ _ _ _ ?_ (fun _ => ?_) ?_
      | with_reducible apply Ev.seq (takeXptAck_ev ..) ?_ ?_ | with_reducible apply Ev.ite ?_ ?_
      | with_reducible apply OutEv.next | dsimp only | contradiction | split)

def Fp.execXptNack : Side → Nat
  | .module => 0x93763b0000700000000330130c0002000002888000015404400510000001000100000000000000000004000000000000000000000000010000005c00c000000054600000000000000000000
  | .endpoint => 0x93763b0000700000000330130c000220000288800001540440051000000200010000000000000000000000000000000000000000000002000000ac00c000000054a00000000000000000000
theorem execXptNack_ev (sd : Side) (port : Nat) (p : Packet) (s : State) :
    OutEv (Fp.execXptNack sd) s (execXptNack sd port p s) := by
  cases sd <;> (
    unfold execXptNack
    repeat' first
      | with_reducible apply Ev.refl | with_reducible assumption | exact rfl
      | with_reducible apply takeControl_ev _ _ _ _ _ _ ?_ (fun _ => ?_) ?_
      | with_reducible apply Ev.seq (takeXptNack_ev ..) ?_ ?_ | with_reducible apply OutEv.next | dsimp only | contradiction
      | split)

def Fp.execXptRestart : Side → Nat
  | .module => 0x93763b0000700000000330130c0002000002888000015404400510000001000100000000000000000000000000000000000000000000000000004c00c000000054600000000000000000000
  | .endpoint => 0x93763b0000700000000330130c0002000002888000015404400510000002000100000000000000000000000000000000000000000000000000008c00c000000054a00000000000000000000
theorem execXptRestart_ev (sd : Side) (port : Nat) (p : Packet) (s : State) :
    OutEv (Fp.execXptRestart sd) s (execXptRestart sd port p s) := by
  cases sd <;> (
    unfold execXptRestart
    repeat' first
      | with_reducible apply Ev.refl | with_reducible assumption | exact rfl
      | with_reducible apply takeControl_ev _ _ _ _ _ _ ?_ (fun _ => ?_) ?_
      | with_reducible apply Ev.seq (takeRestart_ev ..) ?_ ?_ | with_reducible apply OutEv.next | dsimp only | contradiction
      | split)

def Fp.execNackRetryTimer : Side → Nat
  | .module => 0x700000000110110400000000000000000100044005100000000001000000000000000000000000000000000000000000000000000000004000000054000000000000000000000
  | .endpoint => 0x100000000220020800020000028880000000000000000000000000000000000000000000000000000000000000000000000000000000008000000000000000000000000000000
theorem execNackRetryTimer_ev (sd : Side) (dst : Eid) (stream : BitVec 4) (x : BitVec 24) (s : State) :
    OutEv (Fp.execNackRetryTimer sd) s (execNackRetryTimer sd dst stream x s) := by
  cases sd <;> (
    unfold execNackRetryTimer
    repeat' first
      | with_reducible apply Ev.refl | with_reducible assumption | exact rfl
      | with_reducible apply Ev.seq (retransmit_ev ..) ?_ ?_ | with_reducible apply Ev.ite ?_ ?_
      | with_reducible apply OutEv.next | dsimp only | with_reducible refine Ev.ofPair (by assumption) ?_ | contradiction
      | split)

def Fp.endPlaneChunks : Side → Nat
  | .module => 0x0
  | .endpoint => 0x100003b0000000000000200000000000000000000000000000000000000000000000000000000000000000000000000000000000000000000000000000000000000000000000000000000000
theorem endPlaneChunks_ev (sd : Side) (plane : Bool) (s : State) :
    Ev (Fp.endPlaneChunks sd) s (endPlaneChunks sd plane s) := by
  cases sd <;> (
    unfold endPlaneChunks
    repeat' first
      | with_reducible apply Ev.refl | with_reducible assumption | exact rfl
      | with_reducible apply Ev.seq (planeChunksEnd_ev ..) ?_ ?_ | with_reducible apply Ev.ite ?_ ?_ | dsimp only
      | with_reducible refine Ev.ofPair (by assumption) ?_ | contradiction | split)

def Fp.execPlaneUnusable : Side → Nat
  | .module => 0x93763b0000700000000330130c0002000002888000015404400510000000000100000000000000000000000000000000000000000000000000000c00c000000054000000000000000000000
  | .endpoint => 0x193763b0000700000000330130c0002000002888000015404400510000000000100000000000000000000000000000000000000000000000000000c00c000000054000000000000000000000
theorem execPlaneUnusable_ev (sd : Side) (dst : Eid) (plane : Bool) (s : State) :
    OutEv (Fp.execPlaneUnusable sd) s (execPlaneUnusable sd dst plane s) := by
  cases sd <;> (
    unfold execPlaneUnusable
    repeat' first
      | with_reducible apply Ev.refl | with_reducible assumption | exact rfl
      | with_reducible apply Ev.seq (endPlaneChunks_ev ..) ?_ ?_ | with_reducible apply Ev.seq (settle_ev ..) ?_ ?_
      | with_reducible apply Ev.seq (settleStream_ev ..) ?_ ?_ | with_reducible apply Ev.ite ?_ ?_
      | with_reducible apply Ev.foldl (fun _ _ => ?_) ?_ | with_reducible apply Ev.foldlSnd (fun _ _ => ?_) ?_
      | with_reducible apply OutEv.next | dsimp only | contradiction | split)

def Fp.execPlaneSuspectExpire : Side → Nat
  | .module => 0x93763b0000700000000330130c0002000002888000015404400510000000000100000000000000000000000000000000000000000000000000000c00c000000054000000000000000000000
  | .endpoint => 0x93763b0000700000000330130c0002000002888000015404400510000000000100000000000000000000000000000000000000000000000000000c00c000000054000000000000000000000
theorem execPlaneSuspectExpire_ev (sd : Side) (dst : Eid) (plane : Bool) (s : State) :
    OutEv (Fp.execPlaneSuspectExpire sd) s (execPlaneSuspectExpire sd dst plane s) := by
  cases sd <;> (
    unfold execPlaneSuspectExpire
    repeat' first
      | with_reducible apply Ev.refl | with_reducible assumption | exact rfl
      | with_reducible apply Ev.seq (clearSuspect_ev ..) ?_ ?_ | with_reducible apply Ev.seq (settle_ev ..) ?_ ?_
      | with_reducible apply Ev.seq (settlePlanes_ev ..) ?_ ?_ | with_reducible apply Ev.ite ?_ ?_
      | with_reducible apply OutEv.next | dsimp only | contradiction | split)

def Fp.execHomePlaneReturn : Side → Nat
  | .module => 0x200000000110010000000000000000000100004005100000000001000000000000000000000000000000000000000000000000000004000000000000000000000000000000000
  | .endpoint => 0x220020000020000028880000000000000000000000000000000000000000000000000000000000000000000000000000008000000000000000000000000000000000
theorem execHomePlaneReturn_ev (sd : Side) (dst : Eid) (stream : BitVec 4) (s : State) :
    OutEv (Fp.execHomePlaneReturn sd) s (execHomePlaneReturn sd dst stream s) := by
  cases sd <;> (
    unfold execHomePlaneReturn
    repeat' first
      | with_reducible apply Ev.refl | with_reducible assumption | exact rfl
      | with_reducible apply Ev.seq (onSrcSpace_ev ..) ?_ ?_ | with_reducible apply Ev.seq (plannedAdvance_ev ..) ?_ ?_
      | with_reducible apply Ev.ite ?_ ?_ | with_reducible apply OutEv.next | dsimp only | contradiction | split)

def Fp.execPlannedBarrierDone : Side → Nat
  | .module => 0x200000000110010000000000000000000100004005100000000001000000000000000000000000000000000000000000000000000004000000000000000000000000000000000
  | .endpoint => 0x220020000020000028880000000000000000000000000000000000000000000000000000000000000000000000000000008000000000000000000000000000000000
theorem execPlannedBarrierDone_ev (sd : Side) (dst : Eid) (stream : BitVec 4) (s : State) :
    OutEv (Fp.execPlannedBarrierDone sd) s (execPlannedBarrierDone sd dst stream s) := by
  cases sd <;> (
    unfold execPlannedBarrierDone
    repeat' first
      | with_reducible apply Ev.refl | with_reducible assumption | exact rfl
      | with_reducible apply Ev.seq (plannedAdvance_ev ..) ?_ ?_ | with_reducible apply OutEv.next | dsimp only
      | contradiction | split)

def Fp.execXptPeerReset : Side → Nat
  | .module => 0x200000000310070c00020000028880000100004005100000000041000000000000000000000000000000000000000000000000000000000000000000000c00000000000000000
  | .endpoint => 0x2000000003200b0c00020000028880000100004005100000000081000000000000000000000000000000000000000000000000000000000000000000000c00000000000000000
theorem execXptPeerReset_ev (sd : Side) (e : Eid) (s : State) :
    OutEv (Fp.execXptPeerReset sd) s (execXptPeerReset sd e s) := by
  cases sd <;> (
    unfold execXptPeerReset
    repeat' first
      | with_reducible apply Ev.refl | with_reducible assumption | exact rfl
      | with_reducible apply Ev.seq (writePeerReset_ev ..) ?_ ?_ | with_reducible apply OutEv.next | dsimp only
      | contradiction | split)

end Sys2Proof.Machine
end

