-- ==== Sys2Proof/Laws/EvFaultCmds.lean ====
section
/-! SUPPORT. What the operations of Machine/FaultCmds.lean may touch: one law for each, cited in place of unfolding it. The numbers are
sets of parts (Laws/Frame.lean, `Part.idx`). -/

set_option exponentiation.threshold 1024
set_option linter.unreachableTactic false
set_option linter.unusedTactic false

namespace Sys2Proof.Machine

def Fp.gaveUp : Nat := 0x83f0000f000310130c00020000028880000100045015100000000001000000000000000000000000000000410100054445500000000000000000000054400c00000015050400001
theorem gaveUp_ev (dst : Eid) (s : State) :
    Ev Fp.gaveUp s (gaveUp dst s) := by
  unfold gaveUp
  repeat' first
    | with_reducible apply Ev.refl | with_reducible assumption | exact rfl
    | with_reducible apply Ev.seq (evidence_ev ..) ?_ ?_ | dsimp only | with_reducible refine Ev.ofPair (by assumption) ?_
    | split

def Fp.execRetransmitTimer : Side → Nat
  | .module => 0x93763b0083f0000f000330130c0002000002888000015404501510000000000100000000000000000000000000000041010005444550000000000c01c000000054400c00000015050400001
  | .endpoint => 0x93763b0083f0000f000330130c0002000002888000015404501510000000000100000000000000000000000000000041010005444550000000000c02c000000054400c00000015050400001
theorem execRetransmitTimer_ev (sd : Side) (dst : Eid) (stream : BitVec 4) (x : BitVec 24) (s : State) :
    OutEv (Fp.execRetransmitTimer sd) s (execRetransmitTimer sd dst stream x s) := by
  cases sd <;> (
    unfold execRetransmitTimer
    repeat' first
      | with_reducible apply Ev.refl | with_reducible assumption | exact rfl
      | with_reducible apply Ev.seq (gaveUp_ev ..) ?_ ?_ | with_reducible apply Ev.seq (restartExpired_ev ..) ?_ ?_
      | with_reducible apply Ev.seq (retransmitExpired_ev ..) ?_ ?_ | with_reducible apply Ev.seq (settle_ev ..) ?_ ?_
      | with_reducible apply Ev.ite ?_ ?_ | with_reducible apply OutEv.next | dsimp only
      | with_reducible refine Ev.ofPair (by assumption) ?_ | contradiction | split)

def Fp.execIdAnnounceTimeout : Side → Nat
  | .module => 0x83f0000f000310130d00020000028880000100045015100000000001000000000000000000000000000000410100054545500000000000000000000054410c50041015050400001
  | .endpoint => 0xd8000000100000000220020a000200000288800000000000000000000000000000000000000000000000000000000000000000000000000000000000000000000200a0082000000000000
theorem execIdAnnounceTimeout_ev (sd : Side) (p : Nat) (s : State) :
    OutEv (Fp.execIdAnnounceTimeout sd) s (execIdAnnounceTimeout sd p s) := by
  cases sd <;> (
    unfold execIdAnnounceTimeout
    repeat' first
      | with_reducible apply Ev.refl | with_reducible assumption | exact rfl
      | with_reducible apply Ev.seq (evidence_ev ..) ?_ ?_ | with_reducible apply Ev.seq (retrainPort_ev ..) ?_ ?_
      | with_reducible apply Ev.ite ?_ ?_ | with_reducible apply OutEv.next | dsimp only
      | with_reducible refine Ev.ofPair (by assumption) ?_ | contradiction | split)

def Fp.execReportTimeout : Nat := 0x83f0000f000310130c00020000028880000100045015100000000001000400000000000000000000000000410100054445500000000000000000000054400c00000015050400001
theorem execReportTimeout_ev (slot : Nat) (s : State) :
    OutEv Fp.execReportTimeout s (execReportTimeout slot s) := by
  unfold execReportTimeout
  repeat' first
    | with_reducible apply Ev.refl | with_reducible assumption | exact rfl
    | with_reducible apply Ev.seq (wrb_ev _ _ _ _ _ ?_) ?_ ?_ | with_reducible apply Ev.seq (slotEvidence_ev ..) ?_ ?_
    | with_reducible apply Ev.ite ?_ ?_ | with_reducible apply OutEv.next | dsimp only | split

def Fp.execSnoopTimeout : Nat := 0x83f0000f000310130c00020000028880000100045015100000000001000000000000000000000000000000410100054555500000000000000000000054400c00000015050400001
theorem execSnoopTimeout_ev (slot : Nat) (tseq : BitVec 24) (line : Nat) (s : State) :
    OutEv Fp.execSnoopTimeout s (execSnoopTimeout slot tseq line s) := by
  unfold execSnoopTimeout
  repeat' first
    | with_reducible apply Ev.refl | with_reducible assumption | exact rfl
    | with_reducible apply Ev.seq (bump_ev _ _ _ _ ?_) ?_ ?_ | with_reducible apply Ev.seq (leafRecovery_ev ..) ?_ ?_
    | with_reducible apply Ev.seq (onDir_ev ..) ?_ ?_ | with_reducible apply Ev.seq (putTxn_ev ..) ?_ ?_
    | with_reducible apply Ev.seq (sendOwn_ev ..) ?_ ?_ | with_reducible apply Ev.seq (slotEvidence_ev ..) ?_ ?_
    | with_reducible apply Ev.ite ?_ ?_ | with_reducible apply OutEv.next | dsimp only
    | with_reducible refine Ev.ofPair (by assumption) ?_ | split

def Fp.execRecoverTimeout : Nat := 0x83f0000f000310130c00020000028880000100045015100000000001000000000000000000000000000000410100054445500000000000000000000054400c00000015050400001
theorem execRecoverTimeout_ev (slot : Nat) (s : State) :
    OutEv Fp.execRecoverTimeout s (execRecoverTimeout slot s) := by
  unfold execRecoverTimeout
  repeat' first
    | with_reducible apply Ev.refl | with_reducible assumption | exact rfl
    | with_reducible apply Ev.seq (slotEvidence_ev ..) ?_ ?_ | with_reducible apply Ev.ite ?_ ?_
    | with_reducible apply OutEv.next | dsimp only | split

def Fp.execChunkTimeout : Nat := 0x83f0000f000310130c00020000028880000100045015100000000001000000000000000000000000000000410101054445500000000000000000000054400c00000015050400001
theorem execChunkTimeout_ev (ctx : Nat) (step : Nat) (chunk : Nat) (s : State) :
    OutEv Fp.execChunkTimeout s (execChunkTimeout ctx step chunk s) := by
  unfold execChunkTimeout
  repeat' first
    | with_reducible apply Ev.refl | with_reducible assumption | exact rfl
    | with_reducible apply Ev.seq (abortChunk_ev ..) ?_ ?_ | with_reducible apply Ev.seq (evidence_ev ..) ?_ ?_
    | with_reducible apply Ev.seq (freeChunk_ev ..) ?_ ?_ | with_reducible apply Ev.seq (restartChunk_ev ..) ?_ ?_
    | with_reducible apply Ev.ite ?_ ?_ | with_reducible apply OutEv.next | dsimp only
    | with_reducible refine Ev.ofPair (by assumption) ?_ | split

def Fp.execEvidenceClear : Nat := 0x1000000000000000000000000000000000000000000000000000000000000000000000000000000000000000000000000000000
theorem execEvidenceClear_ev (port : Nat) (bit : Nat) (s : State) :
    OutEv Fp.execEvidenceClear s (execEvidenceClear port bit s) := by
  unfold execEvidenceClear
  repeat' first
    | with_reducible apply Ev.refl | with_reducible assumption | exact rfl
    | with_reducible apply Ev.seq (wr_ev _ _ _ _ _ ?_) ?_ ?_ | with_reducible apply Ev.ite ?_ ?_
    | with_reducible apply OutEv.next | dsimp only | split

def Fp.execQuarantineTimer : Nat := 0x83f0000f000310130c00020000028880000100045015100000000001000000000000000000000000000000410100054445500000000000000000000054400c00000015050400001
theorem execQuarantineTimer_ev (port : Nat) (s : State) :
    OutEv Fp.execQuarantineTimer s (execQuarantineTimer port s) := by
  unfold execQuarantineTimer
  repeat' first
    | with_reducible apply Ev.refl | with_reducible assumption | exact rfl
    | with_reducible apply Ev.seq (onLive_ev ..) ?_ ?_ | with_reducible apply Ev.seq (quarantine_ev ..) ?_ ?_
    | with_reducible apply Ev.ite ?_ ?_ | with_reducible apply Ev.foldl (fun _ _ => ?_) ?_
    | with_reducible apply Ev.foldlSnd (fun _ _ => ?_) ?_ | with_reducible apply OutEv.next | dsimp only
    | with_reducible refine Ev.ofPair (by assumption) ?_ | split

def Fp.execTrayDown : Nat := 0x80200000000100010000000000000000000100004005100000000000000000000000000000000000000000000000000000000000000000000000000000000000000000000000000
theorem execTrayDown_ev (tray : Nat) (s : State) :
    OutEv Fp.execTrayDown s (execTrayDown tray s) := by
  unfold execTrayDown
  repeat' first
    | with_reducible apply Ev.refl | with_reducible assumption | exact rfl
    | with_reducible apply Ev.seq (logModule_ev ..) ?_ ?_ | with_reducible apply Ev.seq (onLive_ev ..) ?_ ?_
    | with_reducible apply Ev.ite ?_ ?_ | with_reducible apply Ev.foldl (fun _ _ => ?_) ?_
    | with_reducible apply Ev.foldlSnd (fun _ _ => ?_) ?_ | with_reducible apply OutEv.next | dsimp only | split

def Fp.execNocRouterFault : Nat := 0x80f00000000100110500000000000000000100045005140000000001000000000000000000000000000000000000000100000000000000000000000054410050041040000000000
theorem execNocRouterFault_ev (plane : Nat) (router : Nat) (s : State) :
    OutEv Fp.execNocRouterFault s (execNocRouterFault plane router s) := by
  unfold execNocRouterFault
  repeat' first
    | with_reducible apply Ev.refl | with_reducible assumption | exact rfl
    | with_reducible apply Ev.seq (fatalFault_ev ..) ?_ ?_ | with_reducible apply Ev.seq (nocPlaneOut_ev ..) ?_ ?_
    | with_reducible apply Ev.ite ?_ ?_ | with_reducible apply OutEv.next | dsimp only | split

def Fp.execInternalFatal : Nat := 0x80f00000000100110500000000000000000100045005140000000001000000000000000000000000000000000000000100000000000000000000000054410050041000000000000
theorem execInternalFatal_ev (structure' : Nat) (detail : Nat) (s : State) :
    OutEv Fp.execInternalFatal s (execInternalFatal structure' detail s) := by
  unfold execInternalFatal
  repeat' first
    | with_reducible apply Ev.refl | with_reducible assumption | exact rfl
    | with_reducible apply Ev.seq (fatalFault_ev ..) ?_ ?_ | with_reducible apply OutEv.next | dsimp only | split

end Sys2Proof.Machine
end

