-- ==== Sys2Proof/Laws/EvLinks.lean ====
section
/-! SUPPORT. What the operations of Machine/Links.lean may touch: one law for each, cited in place of unfolding it. The numbers are
sets of parts (Laws/Frame.lean, `Part.idx`). -/

set_option exponentiation.threshold 1024
set_option linter.unreachableTactic false
set_option linter.unusedTactic false

namespace Sys2Proof.Machine

def Fp.acceptData : Side → Nat
  | .module => 0x80f00000000100110500000000000000000100045005100000000001000000000000000000000000000000000000000100000000000000000000000054410050041000000000000
  | .endpoint => 0xd8000000100000000220020a000200000288800000000000000000000000000000000000000000000000000000000000000000000000000000000000000000000200a0082000000000000
theorem acceptData_ev (sd : Side) (p : Nat) (f : Flit) (s : State) :
    Ev (Fp.acceptData sd) s (acceptData sd p f s) := by
  cases sd <;> (
    unfold acceptData
    repeat' first
      | with_reducible apply Ev.refl | with_reducible assumption | exact rfl
      | with_reducible apply Ev.seq (onPort_ev ..) ?_ ?_ | with_reducible apply Ev.seq (portDown_ev ..) ?_ ?_
      | with_reducible apply Ev.ite ?_ ?_ | dsimp only | with_reducible refine Ev.ofPair (by assumption) ?_ | contradiction
      | split)

def Fp.acceptCtrl : Side → Nat
  | .module => 0x200000000100010400000000000000000100004005100000000000000000000000000000000000000000000000000000000000000000000000000000000000000000000000000
  | .endpoint => 0x200020800020000028880000000000000000000000000000000000000000000000000000000000000000000000000000000000000000000000000000000000000000
theorem acceptCtrl_ev (sd : Side) (p : Nat) (f : Flit) (s : State) :
    Ev (Fp.acceptCtrl sd) s (acceptCtrl sd p f s) := by
  cases sd <;> (
    unfold acceptCtrl
    repeat' first
      | with_reducible apply Ev.refl | with_reducible assumption | exact rfl
      | with_reducible apply Ev.seq (onPort_ev ..) ?_ ?_ | with_reducible apply Ev.seq (logEvent_ev ..) ?_ ?_
      | with_reducible apply Ev.ite ?_ ?_ | dsimp only | contradiction | split)

def Fp.takeRetryReq : Side → Nat
  | .module => 0x80f00000000100110500000000000000000100045005100000000001000000000000000000000000000000000000000100000000000000000000000054450450041000000000000
  | .endpoint => 0xd8000000100000000220020a000200000288800000000000000000000000000000000000000000000000000000000000000000000000000000080080000000000a08a0082000000000000
theorem takeRetryReq_ev (sd : Side) (p : Nat) (f : Flit) (s : State) :
    Ev (Fp.takeRetryReq sd) s (takeRetryReq sd p f s) := by
  cases sd <;> (
    unfold takeRetryReq
    repeat' first
      | with_reducible apply Ev.refl | with_reducible assumption | exact rfl
      | with_reducible apply Ev.seq (replayOrLimit_ev ..) ?_ ?_ | with_reducible apply Ev.seq (takeLinkFields_ev ..) ?_ ?_
      | dsimp only | with_reducible refine Ev.ofPair (by assumption) ?_ | contradiction | split)

def Fp.takeResync : Side → Nat
  | .module => 0x80f00000000100110500000000000000000100045005100000000001000000000000000000000000000000000000000100000000000000000000000054410450041000000000000
  | .endpoint => 0xd8000000100000000220020a000200000288800000000000000000000000000000000000000000000000000000000000000000000000000000080080000000000208a0082000000000000
theorem takeResync_ev (sd : Side) (p : Nat) (f : Flit) (s : State) :
    Ev (Fp.takeResync sd) s (takeResync sd p f s) := by
  cases sd <;> (
    unfold takeResync
    repeat' first
      | with_reducible apply Ev.refl | with_reducible assumption | exact rfl
      | with_reducible apply Ev.seq (wr_ev _ _ _ _ _ ?_) ?_ ?_ | with_reducible apply Ev.seq (onPort_ev ..) ?_ ?_
      | with_reducible apply Ev.seq (replay_ev ..) ?_ ?_ | with_reducible apply Ev.seq (resumeAt_ev ..) ?_ ?_
      | with_reducible apply Ev.seq (settleState_ev ..) ?_ ?_ | with_reducible apply Ev.seq (takeLinkFields_ev ..) ?_ ?_
      | with_reducible apply Ev.ite ?_ ?_ | dsimp only | with_reducible refine Ev.ofPair (by assumption) ?_ | contradiction
      | split)

def Fp.execFlitReceive : Side → Nat
  | .module => 0x80f00000000100110500000000000000000100045005100000000001000000000000000000000000000000000000000100000000000000000000000054455550041000000000000
  | .endpoint => 0xd8000000100000000220020a000200000288800000000000000000000000000000000000000000000000000000000000000000000000000000080080000000000aaaa0082000000000000
theorem execFlitReceive_ev (sd : Side) (p : Nat) (lane : Nat) (f : Flit) (uncorrectable : Bool) (corrected : Nat) (s : State) :
    OutEv (Fp.execFlitReceive sd) s (execFlitReceive sd p lane f uncorrectable corrected s) := by
  cases sd <;> (
    unfold execFlitReceive
    repeat' first
      | with_reducible apply Ev.refl | with_reducible assumption | exact rfl
      | with_reducible apply Ev.seq (onPort_ev ..) ?_ ?_ | with_reducible apply Ev.seq (bump_ev _ _ _ _ ?_) ?_ ?_
      | with_reducible apply Ev.seq (bumpBy_ev _ _ _ _ _ ?_) ?_ ?_ | with_reducible apply Ev.seq (acceptCtrl_ev ..) ?_ ?_
      | with_reducible apply Ev.seq (acceptData_ev ..) ?_ ?_ | with_reducible apply Ev.seq (failFlit_ev ..) ?_ ?_
      | with_reducible apply Ev.seq (takeLinkFields_ev ..) ?_ ?_ | with_reducible apply Ev.seq (takeResync_ev ..) ?_ ?_
      | with_reducible apply Ev.seq (takeRetryReq_ev ..) ?_ ?_ | with_reducible apply Ev.ite ?_ ?_
      | with_reducible apply OutEv.next | dsimp only | with_reducible refine Ev.ofPair (by assumption) ?_ | contradiction
      | split)

def Fp.execRetryReq : Side → Nat
  | .module => 0x80f00000000100110500000000000000000100045005100000000001000000000000000000000000000000000000000100000000000000000000000054450550041000000000000
  | .endpoint => 0xd8000000100000000220020a000200000288800000000000000000000000000000000000000000000000000000000000000000000000000000080080000000000a0aa0082000000000000
theorem execRetryReq_ev (sd : Side) (p : Nat) (lane : Nat) (f : Flit) (s : State) :
    OutEv (Fp.execRetryReq sd) s (execRetryReq sd p lane f s) := by
  cases sd <;> (
    unfold execRetryReq
    repeat' first
      | with_reducible apply Ev.refl | with_reducible assumption | exact rfl
      | with_reducible apply Ev.seq (failFlit_ev ..) ?_ ?_ | with_reducible apply Ev.seq (takeRetryReq_ev ..) ?_ ?_
      | with_reducible apply Ev.ite ?_ ?_ | with_reducible apply OutEv.next | dsimp only | contradiction | split)

def Fp.execResync : Side → Nat
  | .module => 0x80f00000000100110500000000000000000100045005100000000001000000000000000000000000000000000000000100000000000000000000000054410550041000000000000
  | .endpoint => 0xd8000000100000000220020a00020000028880000000000000000000000000000000000000000000000000000000000000000000000000000008008000000000020aa0082000000000000
theorem execResync_ev (sd : Side) (p : Nat) (lane : Nat) (f : Flit) (s : State) :
    OutEv (Fp.execResync sd) s (execResync sd p lane f s) := by
  cases sd <;> (
    unfold execResync
    repeat' first
      | with_reducible apply Ev.refl | with_reducible assumption | exact rfl
      | with_reducible apply Ev.seq (failFlit_ev ..) ?_ ?_ | with_reducible apply Ev.seq (takeResync_ev ..) ?_ ?_
      | with_reducible apply Ev.ite ?_ ?_ | with_reducible apply OutEv.next | dsimp only | contradiction | split)

def Fp.execRetryReqTimer : Side → Nat
  | .module => 0x100000400000000000000000000000000000000000000000000000000000000000000000000000000000000000000000000000000000000000000000000000000000
  | .endpoint => 0x200000800000000000000000000000000000000000000000000000000000000000000000000000000000000000000000000000000000000000000000000000000000
theorem execRetryReqTimer_ev (sd : Side) (p : Nat) (s : State) :
    OutEv (Fp.execRetryReqTimer sd) s (execRetryReqTimer sd p s) := by
  cases sd <;> (
    unfold execRetryReqTimer
    repeat' first
      | with_reducible apply Ev.refl | with_reducible assumption | exact rfl
      | with_reducible apply Ev.seq (sendFlit_ev ..) ?_ ?_ | with_reducible apply Ev.ite ?_ ?_
      | with_reducible apply OutEv.next | dsimp only | contradiction | split)

def Fp.execReplayTimeout : Side → Nat
  | .module => 0x80f00000000100110500000000000000000100045005100000000001000000000000000000000000000000000000000100000000000000000000000054450450041000000000000
  | .endpoint => 0xd8000000100000000220020a000200000288800000000000000000000000000000000000000000000000000000000000000000000000000000000000000000000a08a0082000000000000
theorem execReplayTimeout_ev (sd : Side) (p : Nat) (s : State) :
    OutEv (Fp.execReplayTimeout sd) s (execReplayTimeout sd p s) := by
  cases sd <;> (
    unfold execReplayTimeout
    repeat' first
      | with_reducible apply Ev.refl | with_reducible assumption | exact rfl
      | with_reducible apply Ev.seq (replayOrLimit_ev ..) ?_ ?_ | with_reducible apply Ev.ite ?_ ?_
      | with_reducible apply OutEv.next | dsimp only | contradiction | split)

def Fp.execPeerPortDown : Side → Nat
  | .module => 0x80f00000000100110500000000000000000100045005100000000001000000000000000000000000000000000000000100000000000000000000000054410050041000000000000
  | .endpoint => 0xd8000000100000000220020a000200000288800000000000000000000000000000000000000000000000000000000000000000000000000000000000000000000200a0082000000000000
theorem execPeerPortDown_ev (sd : Side) (p : Nat) (s : State) :
    OutEv (Fp.execPeerPortDown sd) s (execPeerPortDown sd p s) := by
  cases sd <;> (
    unfold execPeerPortDown
    repeat' first
      | with_reducible apply Ev.refl | with_reducible assumption | exact rfl
      | with_reducible apply Ev.seq (portDown_ev ..) ?_ ?_ | with_reducible apply Ev.ite ?_ ?_
      | with_reducible apply OutEv.next | dsimp only | contradiction | split)

def Fp.downCommand : Side → Nat
  | .module => 0x80f00000000100110500000000000000000100045005100000000001000000000000000000000000000000000000000100000000000000000000000054410050041000000000000
  | .endpoint => 0xd8000000100000000220020a000200000288800000000000000000000000000000000000000000000000000000000000000000000000000000000000000000000200a0082000000000000
theorem downCommand_ev (sd : Side) (p : Nat) (s : State) :
    Ev (Fp.downCommand sd) s (downCommand sd p s) := by
  cases sd <;> (
    unfold downCommand
    repeat' first
      | with_reducible apply Ev.refl | with_reducible assumption | exact rfl
      | with_reducible apply Ev.seq (portDown_ev ..) ?_ ?_ | with_reducible apply Ev.ite ?_ ?_ | dsimp only | contradiction
      | split)

def Fp.execPortDownCmd : Side → Nat
  | .module => 0x80f00000000100110500000000000000000100045005100000000001000000000000000000000000000000000000000100000000000000000000000054410050041000000000000
  | .endpoint => 0xd8000000100000000220020a000200000288800000000000000000000000000000000000000000000000000000000000000000000000000000000000000000000200a0082000000000000
theorem execPortDownCmd_ev (sd : Side) (_path : Path) (p : Nat) (s : State) :
    OutEv (Fp.execPortDownCmd sd) s (execPortDownCmd sd _path p s) := by
  cases sd <;> (
    unfold execPortDownCmd
    repeat' first
      | with_reducible apply Ev.refl | with_reducible assumption | exact rfl
      | with_reducible apply Ev.seq (downCommand_ev ..) ?_ ?_ | with_reducible apply Ev.seq (regAccess_ev ..) ?_ ?_
      | with_reducible apply Ev.ite ?_ ?_ | with_reducible apply OutEv.next | dsimp only | contradiction | split)

def Fp.formPort : Side → Nat
  | .module => 0x100000400000000000000000000000000000000000000000000000000000000000000000000000000000000000000000000000000000000000050000000000000000
  | .endpoint => 0x2000028000000000000000000000000000000000000000000000000000000000000000000000000000000000000000000000000000000000000a0000000000000000
theorem formPort_ev (sd : Side) (p : Nat) (lanes : List Nat) (v : BitVec 64) (s : State) :
    Ev (Fp.formPort sd) s (formPort sd p lanes v s) := by
  cases sd <;> (
    unfold formPort
    repeat' first
      | with_reducible apply Ev.refl | with_reducible assumption | exact rfl
      | with_reducible apply Ev.seq (wr_ev _ _ _ _ _ ?_) ?_ ?_ | with_reducible apply Ev.seq (wrb_ev _ _ _ _ _ ?_) ?_ ?_
      | with_reducible apply Ev.seq (onPort_ev ..) ?_ ?_ | with_reducible apply Ev.seq (onUnit_ev _ _ _ ?_) (Sub.refl _) ?_
      | with_reducible apply Ev.seq (resyncGroup_ev ..) ?_ ?_ | with_reducible apply Ev.seq (sendCtrl_ev ..) ?_ ?_
      | with_reducible apply Ev.ite ?_ ?_
      | (constructor <;> first | exact .inl rfl | exact .inr rfl | exact rfl | exact fun h => h | exact fun _ => rfl)
      | dsimp only | with_reducible refine Ev.ofPair (by assumption) ?_ | contradiction | split)

def Fp.execPortForm : Side → Nat
  | .module => 0x200000000100010400000000000000000100004005100000000000000000000000000000000000000000000000000000000000000000000000000000000050000000000000000
  | .endpoint => 0x2000228000200000288800000000000000000000000000000000000000000000000000000000000000000000000000000000000000000000000a0000000000000000
theorem execPortForm_ev (sd : Side) (p : Nat) (s : State) :
    OutEv (Fp.execPortForm sd) s (execPortForm sd p s) := by
  cases sd <;> (
    unfold execPortForm
    repeat' first
      | with_reducible apply Ev.refl | with_reducible assumption | exact rfl
      | with_reducible apply Ev.seq (wrb_ev _ _ _ _ _ ?_) ?_ ?_ | with_reducible apply Ev.seq (formPort_ev ..) ?_ ?_
      | with_reducible apply Ev.seq (logEvent_ev ..) ?_ ?_ | with_reducible apply Ev.ite ?_ ?_
      | with_reducible apply OutEv.next | dsimp only | with_reducible refine Ev.ofPair (by assumption) ?_ | contradiction
      | split)

def Fp.execCreditInit : Side → Nat
  | .module => 0x400000000000000000000000000000000000000000000000000000000000000000000000000000000000000000000000000000000000010000000000000000
  | .endpoint => 0xc0000000100000000220020800020000028880000000000000000000000000000000000000000000000000000000000000000000000000000008008000000000000020000000000000000
theorem execCreditInit_ev (sd : Side) (p : Nat) (grants : List Nat) (s : State) :
    OutEv (Fp.execCreditInit sd) s (execCreditInit sd p grants s) := by
  cases sd <;> (
    unfold execCreditInit
    repeat' first
      | with_reducible apply Ev.refl | with_reducible assumption | exact rfl
      | with_reducible apply Ev.seq (onPort_ev ..) ?_ ?_ | with_reducible apply Ev.seq (portComesUp_ev ..) ?_ ?_
      | with_reducible apply Ev.ite ?_ ?_ | with_reducible apply OutEv.next | dsimp only | contradiction | split)

def Fp.execLaneFault : Side → Nat
  | .module => 0x82f00000000100114500000000000000000100045005100000000001000000000000000000000000000000000000000100000000000000000000000054450050041000400000000
  | .endpoint => 0xd8000000100000000220028a000200000288800000000000000000000000000000000000000000000000000000000000000000000000000000000000000000000a00a0082000000000000
theorem execLaneFault_ev (sd : Side) (n : Nat) (slice : Bool) (s : State) :
    OutEv (Fp.execLaneFault sd) s (execLaneFault sd n slice s) := by
  cases sd <;> (
    unfold execLaneFault
    repeat' first
      | with_reducible apply Ev.refl | with_reducible assumption | exact rfl
      | with_reducible apply Ev.seq (leaveAndRetrain_ev ..) ?_ ?_ | with_reducible apply Ev.seq (spareLane_ev ..) ?_ ?_
      | with_reducible apply Ev.ite ?_ ?_ | with_reducible apply OutEv.next | dsimp only | contradiction | split)

def Fp.shrinkMask : Side → Nat
  | .module => 0x200000000100010400000000000000000100004005100000000001000000000000000000000000000000000000000000000000000000000000000000040410000000000000000
  | .endpoint => 0x200020800020000028880000000000000000000000000000000000000000000000000000000000000000000000000000000000000000000080820000000000000000
theorem shrinkMask_ev (sd : Side) (p : Nat) (mask : Nat) (s : State) :
    Ev (Fp.shrinkMask sd) s (shrinkMask sd p mask s) := by
  cases sd <;> (
    unfold shrinkMask
    repeat' first
      | with_reducible apply Ev.refl | with_reducible assumption | exact rfl
      | with_reducible apply Ev.seq (dropLane_ev ..) ?_ ?_ | with_reducible apply Ev.seq (replay_ev ..) ?_ ?_
      | with_reducible apply Ev.seq (settleState_ev ..) ?_ ?_ | with_reducible apply Ev.foldl (fun _ _ => ?_) ?_
      | with_reducible apply Ev.foldlSnd (fun _ _ => ?_) ?_ | dsimp only | contradiction | split)

def Fp.execLaneDrop : Side → Nat
  | .module => 0x80f00000000100110500000000000000000100045005100000000001000000000000000000000000000000000000000100000000000000000000000054450450041000000000000
  | .endpoint => 0xd8000000100000000220020a000200000288800000000000000000000000000000000000000000000000000000000000000000000000000000000000000000000a08a0082000000000000
theorem execLaneDrop_ev (sd : Side) (p : Nat) (mask : BitVec 8) (s : State) :
    OutEv (Fp.execLaneDrop sd) s (execLaneDrop sd p mask s) := by
  cases sd <;> (
    unfold execLaneDrop
    repeat' first
      | with_reducible apply Ev.refl | with_reducible assumption | exact rfl
      | with_reducible apply Ev.seq (onPort_ev ..) ?_ ?_ | with_reducible apply Ev.seq (enterDetect_ev ..) ?_ ?_
      | with_reducible apply Ev.seq (portDown_ev ..) ?_ ?_ | with_reducible apply Ev.seq (shrinkMask_ev ..) ?_ ?_
      | with_reducible apply Ev.ite ?_ ?_ | with_reducible apply Ev.foldl (fun _ _ => ?_) ?_
      | with_reducible apply Ev.foldlSnd (fun _ _ => ?_) ?_ | with_reducible apply OutEv.next | dsimp only | contradiction
      | split)

def Fp.tryAdd : Side → Nat
  | .module => 0x200000000100010400000000000000000100004005100000000001000000000000000000000000000000000000000000000000000000000000000000000410000000000000000
  | .endpoint => 0x200020800020000028880000000000000000000000000000000000000000000000000000000000000000000000000000000000000000000000820000000000000000
theorem tryAdd_ev (sd : Side) (p : Nat) (s : State) :
    Ev (Fp.tryAdd sd) s (tryAdd sd p s) := by
  cases sd <;> (
    unfold tryAdd
    repeat' first
      | with_reducible apply Ev.refl | with_reducible assumption | exact rfl
      | with_reducible apply Ev.seq (wr_ev _ _ _ _ _ ?_) ?_ ?_ | with_reducible apply Ev.seq (onPort_ev ..) ?_ ?_
      | with_reducible apply Ev.seq (replay_ev ..) ?_ ?_ | with_reducible apply Ev.seq (settleState_ev ..) ?_ ?_
      | with_reducible apply Ev.ite ?_ ?_ | dsimp only | contradiction | split)

def Fp.execLaneAdd : Side → Nat
  | .module => 0x200000000100010400000000000000000100004005100000000001000000000000000000000000000000000000000000000000000000000000000000000410000000000000000
  | .endpoint => 0x200020800020000028880000000000000000000000000000000000000000000000000000000000000000000000000000000000000000000000820000000000000000
theorem execLaneAdd_ev (sd : Side) (p : Nat) (mask : BitVec 8) (s : State) :
    OutEv (Fp.execLaneAdd sd) s (execLaneAdd sd p mask s) := by
  cases sd <;> (
    unfold execLaneAdd
    repeat' first
      | with_reducible apply Ev.refl | with_reducible assumption | exact rfl
      | with_reducible apply Ev.seq (onPort_ev ..) ?_ ?_ | with_reducible apply Ev.seq (tryAdd_ev ..) ?_ ?_
      | with_reducible apply Ev.ite ?_ ?_ | with_reducible apply OutEv.next | dsimp only | contradiction | split)

def Fp.execUpconfigLaneReady : Side → Nat
  | .module => 0x200000000100010400000000000000000100004005100000000001000000000000000000000000000000000000000000000000000000000000000000000410000000000000000
  | .endpoint => 0x200020800020000028880000000000000000000000000000000000000000000000000000000000000000000000000000000000000000000000820000000000000000
theorem execUpconfigLaneReady_ev (sd : Side) (n : Nat) (s : State) :
    OutEv (Fp.execUpconfigLaneReady sd) s (execUpconfigLaneReady sd n s) := by
  cases sd <;> (
    unfold execUpconfigLaneReady
    repeat' first
      | with_reducible apply Ev.refl | with_reducible assumption | exact rfl
      | with_reducible apply Ev.seq (wrb_ev _ _ _ _ _ ?_) ?_ ?_ | with_reducible apply Ev.seq (onPort_ev ..) ?_ ?_
      | with_reducible apply Ev.seq (sendCtrl_ev ..) ?_ ?_ | with_reducible apply Ev.seq (tryAdd_ev ..) ?_ ?_
      | with_reducible apply Ev.ite ?_ ?_ | with_reducible apply OutEv.next | dsimp only
      | with_reducible refine Ev.ofPair (by assumption) ?_ | contradiction | split)

def Fp.settleReleased : Side → Nat
  | .module => 0x100000000000000000000000000000000000000000000000000000000000000000000000000000000000000000000000000000000000000001000000000000
  | .endpoint => 0x200000000000000000000000000000000000000000000000000000000000000000000000000000000000000000000000000000000000000002000000000000
theorem settleReleased_ev (sd : Side) (n : Nat) (toward : Nat) (s : State) :
    Ev (Fp.settleReleased sd) s (settleReleased sd n toward s) := by
  cases sd <;> (
    unfold settleReleased
    repeat' first
      | with_reducible apply Ev.refl | with_reducible assumption | exact rfl
      | with_reducible apply Ev.seq (enterOff_ev ..) ?_ ?_ | with_reducible apply Ev.seq (enterSleep_ev ..) ?_ ?_
      | with_reducible apply Ev.ite ?_ ?_ | dsimp only | contradiction | split)

def Fp.execLaneRelease : Side → Nat
  | .module => 0x200000000100010500000000000000000100004005100000000001000000000000000000000000000000000000000000000000000000000000000000040410001000000000000
  | .endpoint => 0x200020a00020000028880000000000000000000000000000000000000000000000000000000000000000000000000000000000000000000080820002000000000000
theorem execLaneRelease_ev (sd : Side) (p : Nat) (mask : BitVec 8) (s : State) :
    OutEv (Fp.execLaneRelease sd) s (execLaneRelease sd p mask s) := by
  cases sd <;> (
    unfold execLaneRelease
    repeat' first
      | with_reducible apply Ev.refl | with_reducible assumption | exact rfl
      | with_reducible apply Ev.seq (sendCtrl_ev ..) ?_ ?_ | with_reducible apply Ev.seq (settleReleased_ev ..) ?_ ?_
      | with_reducible apply Ev.seq (shrinkMask_ev ..) ?_ ?_ | with_reducible apply Ev.ite ?_ ?_
      | with_reducible apply Ev.foldl (fun _ _ => ?_) ?_ | with_reducible apply Ev.foldlSnd (fun _ _ => ?_) ?_
      | with_reducible apply OutEv.next | dsimp only | contradiction | split)

def Fp.execReleaseAck : Side → Nat
  | .module => 0x200000000100010500000000000000000100004005100000000001000000000000000000000000000000000000000000000000000000000000000000040410001000000000000
  | .endpoint => 0x200020a00020000028880000000000000000000000000000000000000000000000000000000000000000000000000000000000000000000080820002000000000000
theorem execReleaseAck_ev (sd : Side) (p : Nat) (mask : BitVec 8) (s : State) :
    OutEv (Fp.execReleaseAck sd) s (execReleaseAck sd p mask s) := by
  cases sd <;> (
    unfold execReleaseAck
    repeat' first
      | with_reducible apply Ev.refl | with_reducible assumption | exact rfl
      | with_reducible apply Ev.seq (onPort_ev ..) ?_ ?_ | with_reducible apply Ev.seq (settleReleased_ev ..) ?_ ?_
      | with_reducible apply Ev.seq (shrinkMask_ev ..) ?_ ?_ | with_reducible apply Ev.ite ?_ ?_
      | with_reducible apply Ev.foldl (fun _ _ => ?_) ?_ | with_reducible apply Ev.foldlSnd (fun _ _ => ?_) ?_
      | with_reducible apply OutEv.next | dsimp only | contradiction | split)

def Fp.execPacketTransmit : Side → Nat
  | .module => 0x600000000100010400000000000000000100044005100000000000000000000000000000000000000000000000000000000000000000000000000000000000000000000000000
  | .endpoint => 0x200000800000000000000000000000000000000000000000000000000000000000000000000000000000000000000000000000000000000000000000000000000000
theorem execPacketTransmit_ev (sd : Side) (p : Nat) (pool : Nat) (s : State) :
    OutEv (Fp.execPacketTransmit sd) s (execPacketTransmit sd p pool s) := by
  cases sd <;> (
    unfold execPacketTransmit
    repeat' first
      | with_reducible apply Ev.refl | with_reducible assumption | exact rfl
      | with_reducible apply Ev.seq (onPort_ev ..) ?_ ?_ | with_reducible apply Ev.seq (startPacket_ev ..) ?_ ?_
      | with_reducible apply Ev.ite ?_ ?_ | with_reducible apply OutEv.next | dsimp only
      | with_reducible refine Ev.ofPair (by assumption) ?_ | contradiction | split)

end Sys2Proof.Machine
end

