-- ==== Sys2Proof/Laws/EvMemCmds.lean ====
section
/-! SUPPORT. What the operations of Machine/MemCmds.lean may touch: one law for each, cited in place of unfolding it. The numbers are
sets of parts (Laws/Frame.lean, `Part.idx`). -/

set_option exponentiation.threshold 1024
set_option linter.unreachableTactic false
set_option linter.unusedTactic false

namespace Sys2Proof.Machine

def Fp.execLoad : Side → Nat
  | .module => 0x93763b0000f0000f000330130c0002000002888000015404400510000155000100000000000000000000000000000000000000044550001555400d14c000000054600c00000000000000000
  | .endpoint => 0x9377fb0000700000000330130c00020000028880000154044005100002aa000100000000000000000000000000000000000000000000002aaa800e28c000000054a00c00000000000000000
theorem execLoad_ev (sd : Side) (port : Nat) (p : Packet) (s : State) :
    OutEv (Fp.execLoad sd) s (execLoad sd port p s) := by
  cases sd <;> (
    unfold execLoad
    repeat' first
      | with_reducible apply Ev.refl | with_reducible assumption | exact rfl
      | with_reducible apply Ev.seq (takeRequest_ev ..) ?_ ?_ | with_reducible apply OutEv.next | dsimp only | contradiction
      | split)

def Fp.execLoadAcq : Side → Nat
  | .module => 0x93763b0000f0000f000330130c0002000002888000015404400510000155000100000000000000000000000000000000000000044550001555400d14c000000054600c00000000000000000
  | .endpoint => 0x9377fb0000700000000330130c00020000028880000154044005100002aa000100000000000000000000000000000000000000000000002aaa800e28c000000054a00c00000000000000000
theorem execLoadAcq_ev (sd : Side) (port : Nat) (p : Packet) (s : State) :
    OutEv (Fp.execLoadAcq sd) s (execLoadAcq sd port p s) := by
  cases sd <;> (
    unfold execLoadAcq
    repeat' first
      | with_reducible apply Ev.refl | with_reducible assumption | exact rfl
      | with_reducible apply Ev.seq (takeRequest_ev ..) ?_ ?_ | with_reducible apply OutEv.next | dsimp only | contradiction
      | split)

def Fp.execStore : Side → Nat
  | .module => 0x93763b0000f0000f000330130c0002000002888000015404400510000155000100000000000000000000000000000000000000044550001555400d14c000000054600c00000000000000000
  | .endpoint => 0x9377fb0000700000000330130c00020000028880000154044005100002aa000100000000000000000000000000000000000000000000002aaa800e28c000000054a00c00000000000000000
theorem execStore_ev (sd : Side) (port : Nat) (p : Packet) (s : State) :
    OutEv (Fp.execStore sd) s (execStore sd port p s) := by
  cases sd <;> (
    unfold execStore
    repeat' first
      | with_reducible apply Ev.refl | with_reducible assumption | exact rfl
      | with_reducible apply Ev.seq (takeRequest_ev ..) ?_ ?_ | with_reducible apply OutEv.next | dsimp only | contradiction
      | split)

def Fp.execStoreFlag : Side → Nat
  | .module => 0x93763b0000f0000f000330130c0002000002888000015404400510000155000100000000000000000000000000000000000000044550001555400d14c000000054600c00000000000000000
  | .endpoint => 0x9377fb0000700000000330130c00020000028880000154044005100002aa000100000000000000000000000000000000000000000000002aaa800e28c000000054a00c00000000000000000
theorem execStoreFlag_ev (sd : Side) (port : Nat) (p : Packet) (s : State) :
    OutEv (Fp.execStoreFlag sd) s (execStoreFlag sd port p s) := by
  cases sd <;> (
    unfold execStoreFlag
    repeat' first
      | with_reducible apply Ev.refl | with_reducible assumption | exact rfl
      | with_reducible apply Ev.seq (takeRequest_ev ..) ?_ ?_ | with_reducible apply OutEv.next | dsimp only | contradiction
      | split)

def Fp.execAtomicInt : Side → Nat
  | .module => 0x93763b0000f0000f000330130c0002000002888000015404400510000155000100000000000000000000000000000000000000044550001555400d14c000000054600c00000000000000000
  | .endpoint => 0x9377fb0000700000000330130c00020000028880000154044005100002aa000100000000000000000000000000000000000000000000002aaa800e28c000000054a00c00000000000000000
theorem execAtomicInt_ev (sd : Side) (port : Nat) (p : Packet) (s : State) :
    OutEv (Fp.execAtomicInt sd) s (execAtomicInt sd port p s) := by
  cases sd <;> (
    unfold execAtomicInt
    repeat' first
      | with_reducible apply Ev.refl | with_reducible assumption | exact rfl
      | with_reducible apply Ev.seq (takeRequest_ev ..) ?_ ?_ | with_reducible apply OutEv.next | dsimp only | contradiction
      | split)

def Fp.execAtomicFp : Side → Nat
  | .module => 0x93763b0000f0000f000330130c0002000002888000015404400510000155000100000000000000000000000000000000000000044550001555400d14c000000054600c00000000000000000
  | .endpoint => 0x9377fb0000700000000330130c00020000028880000154044005100002aa000100000000000000000000000000000000000000000000002aaa800e28c000000054a00c00000000000000000
theorem execAtomicFp_ev (sd : Side) (port : Nat) (p : Packet) (s : State) :
    OutEv (Fp.execAtomicFp sd) s (execAtomicFp sd port p s) := by
  cases sd <;> (
    unfold execAtomicFp
    repeat' first
      | with_reducible apply Ev.refl | with_reducible assumption | exact rfl
      | with_reducible apply Ev.seq (takeRequest_ev ..) ?_ ?_ | with_reducible apply OutEv.next | dsimp only | contradiction
      | split)

def Fp.execReduceStore : Side → Nat
  | .module => 0x93763b0000f0000f000330130c0002000002888000015404400510000155000100000000000000000000000000000000000000044550001555400d14c000000054600c00000000000000000
  | .endpoint => 0x9377fb0000700000000330130c00020000028880000154044005100002aa000100000000000000000000000000000000000000000000002aaa800e28c000000054a00c00000000000000000
theorem execReduceStore_ev (sd : Side) (port : Nat) (p : Packet) (s : State) :
    OutEv (Fp.execReduceStore sd) s (execReduceStore sd port p s) := by
  cases sd <;> (
    unfold execReduceStore
    repeat' first
      | with_reducible apply Ev.refl | with_reducible assumption | exact rfl
      | with_reducible apply Ev.seq (takeRequest_ev ..) ?_ ?_ | with_reducible apply OutEv.next | dsimp only | contradiction
      | split)

def Fp.execDmaWrite : Side → Nat
  | .module => 0x93763b0000f0000f000330130c0002000002888000015404400510000155000100000000000000000000000000000000000000044550001555400d14c000000054600c00000000000000000
  | .endpoint => 0x9377fb0000700000000330130c00020000028880000154044005100002aa000100000000000000000000000000000000000000000000002aaa800e28c000000054a00c00000000000000000
theorem execDmaWrite_ev (sd : Side) (port : Nat) (p : Packet) (s : State) :
    OutEv (Fp.execDmaWrite sd) s (execDmaWrite sd port p s) := by
  cases sd <;> (
    unfold execDmaWrite
    repeat' first
      | with_reducible apply Ev.refl | with_reducible assumption | exact rfl
      | with_reducible apply Ev.seq (takeRequest_ev ..) ?_ ?_ | with_reducible apply OutEv.next | dsimp only | contradiction
      | split)

def Fp.execDmaReadReq : Side → Nat
  | .module => 0x93763b0000f0000f000330130c0002000002888000015404400510000155000100000000000000000000000000000000000000044550001555400d14c000000054600c00000000000000000
  | .endpoint => 0x9377fb0000700000000330130c00020000028880000154044005100002aa000100000000000000000000000000000000000000000000002aaa800e28c000000054a00c00000000000000000
theorem execDmaReadReq_ev (sd : Side) (port : Nat) (p : Packet) (s : State) :
    OutEv (Fp.execDmaReadReq sd) s (execDmaReadReq sd port p s) := by
  cases sd <;> (
    unfold execDmaReadReq
    repeat' first
      | with_reducible apply Ev.refl | with_reducible assumption | exact rfl
      | with_reducible apply Ev.seq (takeRequest_ev ..) ?_ ?_ | with_reducible apply OutEv.next | dsimp only | contradiction
      | split)

def Fp.receiveResponse : Side → Nat
  | .module => 0x93763b0000700000000330130c0002000002888000015404400510000145000100000000000000000000000000000000000000000000000000001c00c000000054600000000000000000000
  | .endpoint => 0x93763b0000700000000330130c000200000288800001540440051000028a000100000000000000000000000000000000000000000000000000002c00c000000054a00000000000000000000
theorem receiveResponse_ev (sd : Side) (port : Nat) (p : Packet) (op : BitVec 8) (s : State) :
    Ev (Fp.receiveResponse sd) s (receiveResponse sd port p op s) := by
  cases sd <;> (
    unfold receiveResponse
    repeat' first
      | with_reducible apply Ev.refl | with_reducible assumption | exact rfl
      | with_reducible apply Ev.seq (accept_ev ..) ?_ ?_ | with_reducible apply Ev.seq (settle_ev ..) ?_ ?_
      | with_reducible apply Ev.seq (takeResponse_ev ..) ?_ ?_ | with_reducible apply Ev.ite ?_ ?_ | dsimp only
      | with_reducible refine Ev.ofPair (by assumption) ?_ | contradiction | split)

def Fp.execLoadData : Side → Nat
  | .module => 0x93763b0000700000000330130c0002000002888000015404400510000145000100000000000000000000000000000000000000000000000000001c00c000000054600000000000000000000
  | .endpoint => 0x93763b0000700000000330130c000200000288800001540440051000028a000100000000000000000000000000000000000000000000000000002c00c000000054a00000000000000000000
theorem execLoadData_ev (sd : Side) (port : Nat) (p : Packet) (s : State) :
    OutEv (Fp.execLoadData sd) s (execLoadData sd port p s) := by
  cases sd <;> (
    unfold execLoadData
    repeat' first
      | with_reducible apply Ev.refl | with_reducible assumption | exact rfl
      | with_reducible apply Ev.seq (receiveResponse_ev ..) ?_ ?_ | with_reducible apply OutEv.next | dsimp only
      | contradiction | split)

def Fp.execStoreAck : Side → Nat
  | .module => 0x93763b0000700000000330130c0002000002888000015404400510000145000100000000000000000000000000000000000000000000000000001c00c000000054600000000000000000000
  | .endpoint => 0x93763b0000700000000330130c000200000288800001540440051000028a000100000000000000000000000000000000000000000000000000002c00c000000054a00000000000000000000
theorem execStoreAck_ev (sd : Side) (port : Nat) (p : Packet) (s : State) :
    OutEv (Fp.execStoreAck sd) s (execStoreAck sd port p s) := by
  cases sd <;> (
    unfold execStoreAck
    repeat' first
      | with_reducible apply Ev.refl | with_reducible assumption | exact rfl
      | with_reducible apply Ev.seq (receiveResponse_ev ..) ?_ ?_ | with_reducible apply OutEv.next | dsimp only
      | contradiction | split)

def Fp.execAtomicResult : Side → Nat
  | .module => 0x93763b0000700000000330130c0002000002888000015404400510000145000100000000000000000000000000000000000000000000000000001c00c000000054600000000000000000000
  | .endpoint => 0x93763b0000700000000330130c000200000288800001540440051000028a000100000000000000000000000000000000000000000000000000002c00c000000054a00000000000000000000
theorem execAtomicResult_ev (sd : Side) (port : Nat) (p : Packet) (s : State) :
    OutEv (Fp.execAtomicResult sd) s (execAtomicResult sd port p s) := by
  cases sd <;> (
    unfold execAtomicResult
    repeat' first
      | with_reducible apply Ev.refl | with_reducible assumption | exact rfl
      | with_reducible apply Ev.seq (receiveResponse_ev ..) ?_ ?_ | with_reducible apply OutEv.next | dsimp only
      | contradiction | split)

def Fp.execReduceAck : Side → Nat
  | .module => 0x93763b0000700000000330130c0002000002888000015404400510000145000100000000000000000000000000000000000000000000000000001c00c000000054600000000000000000000
  | .endpoint => 0x93763b0000700000000330130c000200000288800001540440051000028a000100000000000000000000000000000000000000000000000000002c00c000000054a00000000000000000000
theorem execReduceAck_ev (sd : Side) (port : Nat) (p : Packet) (s : State) :
    OutEv (Fp.execReduceAck sd) s (execReduceAck sd port p s) := by
  cases sd <;> (
    unfold execReduceAck
    repeat' first
      | with_reducible apply Ev.refl | with_reducible assumption | exact rfl
      | with_reducible apply Ev.seq (receiveResponse_ev ..) ?_ ?_ | with_reducible apply OutEv.next | dsimp only
      | contradiction | split)

def Fp.execDmaReadData : Side → Nat
  | .module => 0x93763b0000700000000330130c0002000002888000015404400510000145000100000000000000000000000000000000000000000000000000001c00c000000054600000000000000000000
  | .endpoint => 0x93763b0000700000000330130c000200000288800001540440051000028a000100000000000000000000000000000000000000000000000000002c00c000000054a00000000000000000000
theorem execDmaReadData_ev (sd : Side) (port : Nat) (p : Packet) (s : State) :
    OutEv (Fp.execDmaReadData sd) s (execDmaReadData sd port p s) := by
  cases sd <;> (
    unfold execDmaReadData
    repeat' first
      | with_reducible apply Ev.refl | with_reducible assumption | exact rfl
      | with_reducible apply Ev.seq (receiveResponse_ev ..) ?_ ?_ | with_reducible apply OutEv.next | dsimp only
      | contradiction | split)

def Fp.execLoadTimeout : Side → Nat
  | .module => 0x93763b0000700000000330130c0002000002888000015404400510000000000100000000000000000000000000000000000000000000004000000c00c000000054000000000000000000000
  | .endpoint => 0x93763b0000700000000330130c0002000002888000015404400510000000000100000000000000000000000000000000000000000000008000000c00c000000054000000000000000000000
theorem execLoadTimeout_ev (sd : Side) (tag : Nat) (s : State) :
    OutEv (Fp.execLoadTimeout sd) s (execLoadTimeout sd tag s) := by
  cases sd <;> (
    unfold execLoadTimeout
    repeat' first
      | with_reducible apply Ev.refl | with_reducible assumption | exact rfl
      | with_reducible apply Ev.seq (bump_ev _ _ _ _ ?_) ?_ ?_ | with_reducible apply Ev.seq (giveUp_ev ..) ?_ ?_
      | with_reducible apply Ev.seq (settle_ev ..) ?_ ?_ | with_reducible apply Ev.ite ?_ ?_
      | with_reducible apply OutEv.next | dsimp only | with_reducible refine Ev.ofPair (by assumption) ?_ | contradiction
      | split)

def Fp.execReplayEntryExpire : Side → Nat
  | .module => 0x200000000310030c00020000028880000100004005100000000001000000000000000000000000000000000000000000000000000000000000000000000c00000000000000000
  | .endpoint => 0x200000000320030c00020000028880000100004005100000000001000000000000000000000000000000000000000000000000000000000000000000000c00000000000000000
theorem execReplayEntryExpire_ev (sd : Side) (src : Eid) (stream : BitVec 4) (x : BitVec 24) (s : State) :
    OutEv (Fp.execReplayEntryExpire sd) s (execReplayEntryExpire sd src stream x s) := by
  cases sd <;> (
    unfold execReplayEntryExpire
    repeat' first
      | with_reducible apply Ev.refl | with_reducible assumption | exact rfl
      | with_reducible apply Ev.seq (onXpt_ev ..) ?_ ?_ | with_reducible apply Ev.seq (replay_ev ..) ?_ ?_
      | with_reducible apply OutEv.next | dsimp only | contradiction | split)

def Fp.execRmLineExpire : Nat := 0x2000000000000000000000000000000000000000000000000000000000000000000000000000000000000000000000000000000000000000000000000000000000000000000000000000
theorem execRmLineExpire_ev (gfa : Nat) (s : State) :
    OutEv Fp.execRmLineExpire s (execRmLineExpire gfa s) := by
  unfold execRmLineExpire
  repeat' first
    | with_reducible apply Ev.refl | with_reducible assumption | exact rfl
    | with_reducible apply Ev.seq (dropLine_ev ..) ?_ ?_ | with_reducible apply Ev.ite ?_ ?_
    | with_reducible apply OutEv.next | dsimp only | with_reducible refine Ev.ofPair (by assumption) ?_ | split

end Sys2Proof.Machine
end

