-- ==== Sys2Proof/Laws/EvMgmtCmds.lean ====
section
/-! SUPPORT. What the operations of Machine/MgmtCmds.lean may touch: one law for each, cited in place of unfolding it. The numbers are
sets of parts (Laws/Frame.lean, `Part.idx`). -/

set_option exponentiation.threshold 1024
set_option linter.unreachableTactic false
set_option linter.unusedTactic false

namespace Sys2Proof.Machine

def Fp.execTokenAcquire : Nat := 0x40200000000100010000000000000000000100004005100040004001000000000000000000000000000000000000000000000000000000000000000000000000000000000000000
theorem execTokenAcquire_ev (session : Nat) (group : Nat) (s : State) :
    OutEv Fp.execTokenAcquire s (execTokenAcquire session group s) := by
  unfold execTokenAcquire
  repeat' first
    | with_reducible apply Ev.refl | with_reducible assumption | exact rfl
    | with_reducible apply Ev.seq (acquireToken_ev ..) ?_ ?_ | with_reducible apply Ev.seq (answered_ev ..) ?_ ?_
    | with_reducible apply withRole_ev _ _ _ _ _ _ ?_ (fun _ _ => ?_) ?_ | with_reducible apply OutEv.next | dsimp only
    | split

def Fp.execTokenRenew : Nat := 0x40200000000100010000000000000000000100004005100040004001000000000000000000000000000000000000000000000000000000000000000000000000000000000000000
theorem execTokenRenew_ev (session : Nat) (group : Nat) (s : State) :
    OutEv Fp.execTokenRenew s (execTokenRenew session group s) := by
  unfold execTokenRenew
  repeat' first
    | with_reducible apply Ev.refl | with_reducible assumption | exact rfl
    | with_reducible apply Ev.seq (answered_ev ..) ?_ ?_ | with_reducible apply Ev.seq (grantToken_ev ..) ?_ ?_
    | with_reducible apply withRole_ev _ _ _ _ _ _ ?_ (fun _ _ => ?_) ?_ | with_reducible apply Ev.ite ?_ ?_
    | with_reducible apply OutEv.next | dsimp only | split

def Fp.execTokenRelease : Nat := 0x40200000000100010000000000000000000100004005100040004001000000000000000000000000000000000000000000000000000000000000000000000000000000000000000
theorem execTokenRelease_ev (session : Nat) (group : Nat) (s : State) :
    OutEv Fp.execTokenRelease s (execTokenRelease session group s) := by
  unfold execTokenRelease
  repeat' first
    | with_reducible apply Ev.refl | with_reducible assumption | exact rfl
    | with_reducible apply Ev.seq (answered_ev ..) ?_ ?_ | with_reducible apply Ev.seq (dropToken_ev ..) ?_ ?_
    | with_reducible apply withRole_ev _ _ _ _ _ _ ?_ (fun _ _ => ?_) ?_ | with_reducible apply Ev.ite ?_ ?_
    | with_reducible apply OutEv.next | dsimp only | split

def Fp.execTokenExpired : Nat := 0x40200000000100010000000000000000000100004005100000004000000000000000000000000000000000000000000000000000000000000000000000000000000000000000000
theorem execTokenExpired_ev (group : Nat) (s : State) :
    OutEv Fp.execTokenExpired s (execTokenExpired group s) := by
  unfold execTokenExpired
  repeat' first
    | with_reducible apply Ev.refl | with_reducible assumption | exact rfl
    | with_reducible apply Ev.seq (dropToken_ev ..) ?_ ?_ | with_reducible apply Ev.seq (logModule_ev ..) ?_ ?_
    | with_reducible apply Ev.ite ?_ ?_ | with_reducible apply OutEv.next | dsimp only | split

def Fp.execFlashWrite : Nat := 0x40200000000100010000000000000000000100004005100040000001000000000000000000000000000000000000000000000000000000000000000000000000000000000000000
theorem execFlashWrite_ev (session : Nat) (b : Bool) (image : List Byte) (s : State) :
    OutEv Fp.execFlashWrite s (execFlashWrite session b image s) := by
  unfold execFlashWrite
  repeat' first
    | with_reducible apply Ev.refl | with_reducible assumption | exact rfl
    | with_reducible apply Ev.seq (answered_ev ..) ?_ ?_ | with_reducible apply Ev.seq (onSec_ev ..) ?_ ?_
    | with_reducible apply withRole_ev _ _ _ _ _ _ ?_ (fun _ _ => ?_) ?_ | with_reducible apply OutEv.next | dsimp only
    | split

def Fp.execCredSet : Nat := 0x40200000000100010000000000000000000100004005101440000001000000000000000000000000000000000000000000000000000000000000000000000000000000000000000
theorem execCredSet_ev (session : Nat) (slot : Nat) (roles : Nat) (key : List Byte) (s : State) :
    OutEv Fp.execCredSet s (execCredSet session slot roles key s) := by
  unfold execCredSet
  repeat' first
    | with_reducible apply Ev.refl | with_reducible assumption | exact rfl
    | with_reducible apply Ev.seq (answered_ev ..) ?_ ?_ | with_reducible apply Ev.seq (setCred_ev ..) ?_ ?_
    | with_reducible apply withRole_ev _ _ _ _ _ _ ?_ (fun _ _ => ?_) ?_ | with_reducible apply Ev.ite ?_ ?_
    | with_reducible apply OutEv.next | dsimp only | split

def Fp.execSignerSet : Nat := 0x140200000000100010000000000000000000100004005101140000001000000000000000000000000000000000000000000000000000000000000000000000000000000000000000
theorem execSignerSet_ev (session : Nat) (slot : Nat) (key : List Byte) (revoke : Bool) (s : State) :
    OutEv Fp.execSignerSet s (execSignerSet session slot key revoke s) := by
  unfold execSignerSet
  repeat' first
    | with_reducible apply Ev.refl | with_reducible assumption | exact rfl
    | with_reducible apply Ev.seq (answered_ev ..) ?_ ?_ | with_reducible apply Ev.seq (signerSet_ev ..) ?_ ?_
    | with_reducible apply withRole_ev _ _ _ _ _ _ ?_ (fun _ _ => ?_) ?_ | with_reducible apply OutEv.next | dsimp only
    | split

def Fp.execRollbackRaise : Nat := 0x40200000000100010000000000000000004100004005101040000141000000000000000000000000000000000000000000000000000000000000000000000000000000000000000
theorem execRollbackRaise_ev (session : Nat) (bootVersion : Nat) (imageVersion : Nat) (s : State) :
    OutEv Fp.execRollbackRaise s (execRollbackRaise session bootVersion imageVersion s) := by
  unfold execRollbackRaise
  repeat' first
    | with_reducible apply Ev.refl | with_reducible assumption | exact rfl
    | with_reducible apply Ev.seq (answered_ev ..) ?_ ?_ | with_reducible apply Ev.seq (rollbackRaise_ev ..) ?_ ?_
    | with_reducible apply withRole_ev _ _ _ _ _ _ ?_ (fun _ _ => ?_) ?_ | with_reducible apply OutEv.next | dsimp only
    | split

def Fp.execKeyLoad : Side → Nat
  | .module => 0x40200000000140010000000000000000000100004005104040000051000000000000000000000000000000000000000000000000000000000000000000000000000000000000000
  | .endpoint => 0x10000000000000000000280020000020000028880000000000000000080000000000000000000000000000000000000000000000000000000000000000000000000000000000000000000000
theorem execKeyLoad_ev (sd : Side) (session : Nat) (slot : Nat) (epoch : Nat) (cls : Nat) (engineOk : Bool) (progOk : Bool) (wrapped : List Byte) (s : State) :
    OutEv (Fp.execKeyLoad sd) s (execKeyLoad sd session slot epoch cls engineOk progOk wrapped s) := by
  cases sd <;> (
    unfold execKeyLoad
    repeat' first
      | with_reducible apply Ev.refl | with_reducible assumption | exact rfl
      | with_reducible apply Ev.seq (answered_ev ..) ?_ ?_ | with_reducible apply Ev.seq (denied_ev ..) ?_ ?_
      | with_reducible apply Ev.seq (keyLoad_ev ..) ?_ ?_ | with_reducible apply Ev.ite ?_ ?_
      | with_reducible apply OutEv.next | dsimp only | with_reducible refine Ev.ofPair (by assumption) ?_ | contradiction
      | split)

def Fp.execPrevKeyExpire : Side → Nat
  | .module => 0x40000000000000000000000000000000004000000040000000000000000000000000000000000000000000000000000000000000000000000000000000000000000
  | .endpoint => 0x80000000000000000000000000000000000000000000000000000000000000000000000000000000000000000000000000000000000000000000000000000000000
theorem execPrevKeyExpire_ev (sd : Side) (slot : Nat) (s : State) :
    OutEv (Fp.execPrevKeyExpire sd) s (execPrevKeyExpire sd slot s) := by
  cases sd <;> (
    unfold execPrevKeyExpire
    repeat' first
      | with_reducible apply Ev.refl | with_reducible assumption | exact rfl
      | with_reducible apply Ev.seq (setSlot_ev ..) ?_ ?_ | with_reducible apply Ev.ite ?_ ?_
      | with_reducible apply OutEv.next | dsimp only | contradiction | split)

def Fp.execActivateOrd : Nat := 0x280020000020000028880000000000000000080000000000000000000000000000000000000000000000000000000000000000000000000000000000000000000000
theorem execActivateOrd_ev (session : Nat) (slot : Nat) (epoch : Nat) (s : State) :
    OutEv Fp.execActivateOrd s (execActivateOrd session slot epoch s) := by
  unfold execActivateOrd
  repeat' first
    | with_reducible apply Ev.refl | with_reducible assumption | exact rfl
    | with_reducible apply Ev.seq (activateOrd_ev ..) ?_ ?_ | with_reducible apply Ev.seq (answered_ev ..) ?_ ?_
    | with_reducible apply Ev.seq (respond_ev ..) ?_ ?_
    | with_reducible apply withRole_ev _ _ _ _ _ _ ?_ (fun _ _ => ?_) ?_ | with_reducible apply Ev.ite ?_ ?_
    | with_reducible apply OutEv.next | dsimp only | split

def Fp.execSlotCmdActivateOrd : Nat := 0x40000000000000000000000000000000004000001040000000000000000000000000000000000000000000000000000000000000000000000000000000000000000
theorem execSlotCmdActivateOrd_ev (slot : Nat) (epoch : Nat) (s : State) :
    OutEv Fp.execSlotCmdActivateOrd s (execSlotCmdActivateOrd slot epoch s) := by
  unfold execSlotCmdActivateOrd
  repeat' first
    | with_reducible apply Ev.refl | with_reducible assumption | exact rfl
    | with_reducible apply Ev.seq (activateOrd_ev ..) ?_ ?_ | with_reducible apply Ev.seq (retireStatus_ev ..) ?_ ?_
    | with_reducible apply OutEv.next | dsimp only | split

def Fp.execSlotRetire : Nat := 0x19f7e3b00007000000003b0130c000280000288a000015404400510008000000100000000000000000000000000000000000000000000000000000c00c000000054000000000000000000000
theorem execSlotRetire_ev (session : Nat) (slot : Nat) (epoch : Nat) (s : State) :
    OutEv Fp.execSlotRetire s (execSlotRetire session slot epoch s) := by
  unfold execSlotRetire
  repeat' first
    | with_reducible apply Ev.refl | with_reducible assumption | exact rfl
    | with_reducible apply Ev.seq (answered_ev ..) ?_ ?_ | with_reducible apply Ev.seq (retireSlot_ev ..) ?_ ?_
    | with_reducible apply withRole_ev _ _ _ _ _ _ ?_ (fun _ _ => ?_) ?_ | with_reducible apply OutEv.next | dsimp only
    | split

def Fp.execSlotCmdRetire : Nat := 0x93763b004370140f000370130c0002000002888000015404400510400000104100000000000004400000000000000041000005400400000000000c00c000000054000000000015050400001
theorem execSlotCmdRetire_ev (slot : Nat) (epoch : Nat) (s : State) :
    OutEv Fp.execSlotCmdRetire s (execSlotCmdRetire slot epoch s) := by
  unfold execSlotCmdRetire
  repeat' first
    | with_reducible apply Ev.refl | with_reducible assumption | exact rfl
    | with_reducible apply Ev.seq (retireSlot_ev ..) ?_ ?_ | with_reducible apply Ev.seq (retireStatus_ev ..) ?_ ?_
    | with_reducible apply OutEv.next | dsimp only | split

def Fp.execDrainExpire : Side → Nat
  | .module => 0xf00000000140110400000000000000000100044005104000000041000000000000000000000000000000000000000000500000000000000000000054000000000000000000000
  | .endpoint => 0x80000000000000000000000000000000000000000000000000000000000000000000000000000000000000000000000000000000000000000000000000000000000
theorem execDrainExpire_ev (sd : Side) (slot : Nat) (s : State) :
    OutEv (Fp.execDrainExpire sd) s (execDrainExpire sd slot s) := by
  cases sd <;> (
    unfold execDrainExpire
    repeat' first
      | with_reducible apply Ev.refl | with_reducible assumption | exact rfl
      | with_reducible apply Ev.seq (zeroizeSlot_ev ..) ?_ ?_ | with_reducible apply Ev.ite ?_ ?_
      | with_reducible apply OutEv.next | dsimp only | contradiction | split)

def Fp.execTenantRetired : Side → Nat
  | .module => 0x4320801d000350030c00020000028880000100004005104000001041000000000000000000000000000000410000054000000000000000000000000000000c00000015050400001
  | .endpoint => 0x2000000003a0030c00020000028880000100004005100000000001000000000000000000000000000000000000000000000000000000000000000000000c00000000000000000
theorem execTenantRetired_ev (sd : Side) (slot : Nat) (s : State) :
    OutEv (Fp.execTenantRetired sd) s (execTenantRetired sd slot s) := by
  cases sd <;> (
    unfold execTenantRetired
    repeat' first
      | with_reducible apply Ev.refl | with_reducible assumption | exact rfl
      | with_reducible apply Ev.seq (emptySlot_ev ..) ?_ ?_ | with_reducible apply Ev.ite ?_ ?_
      | with_reducible apply OutEv.next | dsimp only | contradiction | split)

def Fp.execWatchdogExpire : Nat := 0x200000000104010000000000000000104100004005140000000041000000000000000000000000000000000000000000000000000000000000000000000000000000000000000
theorem execWatchdogExpire_ev (s : State) :
    OutEv Fp.execWatchdogExpire s (execWatchdogExpire s) := by
  unfold execWatchdogExpire
  repeat' first
    | with_reducible apply Ev.refl | with_reducible assumption | exact rfl
    | with_reducible apply Ev.seq (bump_ev _ _ _ _ ?_) ?_ ?_ | with_reducible apply Ev.seq (restartPuppeteer_ev ..) ?_ ?_
    | with_reducible apply OutEv.next | dsimp only | split

def Fp.writeDoorbell : Nat := 0x200000000100010000000000000000004100004005100000000000000000000000000000000000000000000000000000000000000000000000000000000000000000000000000
theorem writeDoorbell_ev (length : Nat) (s : State) :
    Ev Fp.writeDoorbell s (writeDoorbell length s) := by
  unfold writeDoorbell
  repeat' first
    | with_reducible apply Ev.refl | with_reducible assumption | exact rfl
    | with_reducible apply Ev.seq (wrb_ev _ _ _ _ _ ?_) ?_ ?_ | with_reducible apply Ev.seq (regAccess_ev ..) ?_ ?_
    | with_reducible apply Ev.ite ?_ ?_ | dsimp only | split

def Fp.execMgtDoorbell : Nat := 0x200000000100010000000000000000004100004005100000000000000000000000000000000000000000000000000000000000000000000000000000000000000000000000000
theorem execMgtDoorbell_ev (length : Nat) (s : State) :
    OutEv Fp.execMgtDoorbell s (execMgtDoorbell length s) := by
  unfold execMgtDoorbell
  repeat' first
    | with_reducible apply Ev.refl | with_reducible assumption | exact rfl
    | with_reducible apply Ev.seq (writeDoorbell_ev ..) ?_ ?_ | with_reducible apply OutEv.next | dsimp only | split

def Fp.execMgtResponse : Nat := 0x40200000000100000000000000000000044100000000000000000000000000000000000000000000000000000000000000000000000000000000000000000000000000000000000
theorem execMgtResponse_ev (data : List Byte) (s : State) :
    OutEv Fp.execMgtResponse s (execMgtResponse data s) := by
  unfold execMgtResponse
  repeat' first
    | with_reducible apply Ev.refl | with_reducible assumption | exact rfl
    | with_reducible apply Ev.seq (wr_ev _ _ _ _ _ ?_) ?_ ?_ | with_reducible apply Ev.seq (wrb_ev _ _ _ _ _ ?_) ?_ ?_
    | with_reducible apply Ev.seq (onSec_ev ..) ?_ ?_ | with_reducible apply Ev.seq (raiseSource_ev ..) ?_ ?_
    | with_reducible apply Ev.ite ?_ ?_ | with_reducible apply OutEv.next | dsimp only | split

def Fp.execRspLenRead : Nat := 0x100000000000000000000004000000000000000000000000000000000000000000000000000000000000000000000000000000000000000000000000000000000000
theorem execRspLenRead_ev (s : State) :
    OutEv Fp.execRspLenRead s (execRspLenRead s) := by
  unfold execRspLenRead
  repeat' first
    | with_reducible apply Ev.refl | with_reducible assumption | exact rfl
    | with_reducible apply Ev.seq (wrb_ev _ _ _ _ _ ?_) ?_ ?_ | with_reducible apply Ev.seq (emit_ev ..) ?_ ?_
    | with_reducible apply OutEv.next | dsimp only | split

def Fp.execI3cAdminInstall : Nat := 0x40000000000000000000000000000000000000000000001400000000000000000000000000000000000000000000000000000000000000000000000000000000000000000000000
theorem execI3cAdminInstall_ev (slot : Nat) (key : List Byte) (s : State) :
    OutEv Fp.execI3cAdminInstall s (execI3cAdminInstall slot key s) := by
  unfold execI3cAdminInstall
  repeat' first
    | with_reducible apply Ev.refl | with_reducible assumption | exact rfl
    | with_reducible apply Ev.seq (setCred_ev ..) ?_ ?_ | with_reducible apply Ev.ite ?_ ?_
    | with_reducible apply OutEv.next | dsimp only | split

def Fp.execTestArm : Nat := 0x200000000100010000000000000000000100004005100040000041000000000000000000000000000000000000000000000000000000000000000000000000000000000000000
theorem execTestArm_ev (session : Nat) (on : Bool) (s : State) :
    OutEv Fp.execTestArm s (execTestArm session on s) := by
  unfold execTestArm
  repeat' first
    | with_reducible apply Ev.refl | with_reducible assumption | exact rfl
    | with_reducible apply Ev.seq (wrb_ev _ _ _ _ _ ?_) ?_ ?_ | with_reducible apply Ev.seq (answered_ev ..) ?_ ?_
    | with_reducible apply withRole_ev _ _ _ _ _ _ ?_ (fun _ _ => ?_) ?_ | with_reducible apply OutEv.next | dsimp only
    | split

def Fp.zeroizeAll : Nat := 0x40000000000040000000000000000000000000000000004000000040000000000000000000000000000000000000000000000000000000000000000000000000000000000000000
theorem zeroizeAll_ev (s : State) :
    Ev Fp.zeroizeAll s (zeroizeAll s) := by
  unfold zeroizeAll
  repeat' first
    | with_reducible apply Ev.refl | with_reducible assumption | exact rfl
    | with_reducible apply Ev.seq (onSec_ev ..) ?_ ?_ | with_reducible apply Ev.seq (setSlot_ev ..) ?_ ?_
    | with_reducible apply Ev.foldl (fun _ _ => ?_) ?_ | with_reducible apply Ev.foldlSnd (fun _ _ => ?_) ?_ | dsimp only
    | split

def Fp.execDebugAccessOpen : Nat := 0x40200000000140010000000000000000000100004005104040000041000000000000000000000000000000000000000000000000000000000000000000000000000000000000000
theorem execDebugAccessOpen_ev (session : Nat) (s : State) :
    OutEv Fp.execDebugAccessOpen s (execDebugAccessOpen session s) := by
  unfold execDebugAccessOpen
  repeat' first
    | with_reducible apply Ev.refl | with_reducible assumption | exact rfl
    | with_reducible apply Ev.seq (wrb_ev _ _ _ _ _ ?_) ?_ ?_ | with_reducible apply Ev.seq (answered_ev ..) ?_ ?_
    | with_reducible apply withRole_ev _ _ _ _ _ _ ?_ (fun _ _ => ?_) ?_
    | with_reducible apply Ev.seq (zeroizeAll_ev ..) ?_ ?_ | with_reducible apply OutEv.next | dsimp only | split

def Fp.execFullResSet : Nat := 0x200000000100010000000000000000000100004005100040000011000000000000000000000000000000000000000000000000000000000000000000000000000000000000000
theorem execFullResSet_ev (session : Nat) (on : Bool) (s : State) :
    OutEv Fp.execFullResSet s (execFullResSet session on s) := by
  unfold execFullResSet
  repeat' first
    | with_reducible apply Ev.refl | with_reducible assumption | exact rfl
    | with_reducible apply Ev.seq (wrb_ev _ _ _ _ _ ?_) ?_ ?_ | with_reducible apply Ev.seq (answered_ev ..) ?_ ?_
    | with_reducible apply withRole_ev _ _ _ _ _ _ ?_ (fun _ _ => ?_) ?_ | with_reducible apply Ev.ite ?_ ?_
    | with_reducible apply OutEv.next | dsimp only | split

end Sys2Proof.Machine
end

