-- ==== Sys2Proof/Laws/EvPowerOps.lean ====
section
/-! SUPPORT. What the operations of Machine/PowerOps.lean may touch: one law for each, cited in place of unfolding it. The numbers are
sets of parts (Laws/Frame.lean, `Part.idx`). -/

set_option exponentiation.threshold 1024
set_option linter.unreachableTactic false
set_option linter.unusedTactic false

namespace Sys2Proof.Machine

def Fp.sendGrant : Nat := 0x10100000000000000400000000000000000000000000000000000000000400000000000000000000000000000000000000000000000000000000000000000000000000000000000
theorem sendGrant_ev (k : Nat) (g : Nat) (throttle : Nat) (s : State) :
    Ev Fp.sendGrant s (sendGrant k g throttle s) := by
  unfold sendGrant
  repeat' first
    | with_reducible apply Ev.refl | with_reducible assumption | exact rfl
    | with_reducible apply Ev.seq (wr_ev _ _ _ _ _ ?_) ?_ ?_ | with_reducible apply Ev.seq (onPower_ev ..) ?_ ?_
    | with_reducible apply Ev.seq (portSend_ev ..) ?_ ?_ | with_reducible apply Ev.ite ?_ ?_ | dsimp only | split

def Fp.sendGrants : Nat := 0x10100000000000000400000000000000000000000000000000000000000400000000000000000000000000000000000000000000000000000000000000000000000000000000000
theorem sendGrants_ev (l : SMap Nat) (s : State) :
    Ev Fp.sendGrants s (sendGrants l s) := by
  unfold sendGrants
  repeat' first
    | with_reducible apply Ev.refl | with_reducible assumption | exact rfl
    | with_reducible apply Ev.seq (sendGrant_ev ..) ?_ ?_ | with_reducible apply Ev.ite ?_ ?_
    | with_reducible apply Ev.foldl (fun _ _ => ?_) ?_ | with_reducible apply Ev.foldlSnd (fun _ _ => ?_) ?_ | dsimp only
    | split

def Fp.sendStage : Nat := 0x10300000000100010400000000000000000100004005100000000001000404040000000000000000000000000000000000000000000000000000000000000000000000000000000
theorem sendStage_ev (s : State) :
    Ev Fp.sendStage s (sendStage s) := by
  unfold sendStage
  repeat' first
    | with_reducible apply Ev.refl | with_reducible assumption | exact rfl
    | with_reducible apply Ev.seq (wr_ev _ _ _ _ _ ?_) ?_ ?_ | with_reducible apply Ev.seq (wrb_ev _ _ _ _ _ ?_) ?_ ?_
    | with_reducible apply Ev.seq (bump_ev _ _ _ _ ?_) ?_ ?_ | with_reducible apply Ev.seq (onPower_ev ..) ?_ ?_
    | with_reducible apply Ev.seq (sendGrants_ev ..) ?_ ?_ | with_reducible apply Ev.ite ?_ ?_ | dsimp only | split

def Fp.applyGrants : Nat := 0x10300000000100010400000000000000000100004005100000000001000404040000000000000000000000000000000000000000000000000000000000000000000000000000000
theorem applyGrants_ev (s : State) :
    Ev Fp.applyGrants s (applyGrants s) := by
  unfold applyGrants
  repeat' first
    | with_reducible apply Ev.refl | with_reducible assumption | exact rfl
    | with_reducible apply Ev.seq (wr_ev _ _ _ _ _ ?_) ?_ ?_ | with_reducible apply Ev.seq (wrb_ev _ _ _ _ _ ?_) ?_ ?_
    | with_reducible apply Ev.seq (onPower_ev ..) ?_ ?_ | with_reducible apply Ev.seq (sendGrants_ev ..) ?_ ?_
    | with_reducible apply Ev.seq (sendStage_ev ..) ?_ ?_ | with_reducible apply Ev.ite ?_ ?_ | dsimp only | split

theorem setPowerBit_ev (f : Field) (b : Bool) (s : State) (h : f.listed = true) :
    Ev ((Part.reg .module f.reg).bit ||| Fp.raiseSource) s (setPowerBit f b s) := by
  have h1 := (wrb_ev .module f 0 b s h).mono (Sub.orLeft _ Fp.raiseSource)
  unfold setPowerBit
  dsimp only
  split
  · exact Ev.seq (raiseSource_ev ..) (Sub.orRight _ _) h1
  · exact h1

def Fp.settleInfeasible : Nat := 0x200000000100010000000000000000000100004005100000000000000000040000000000000000000000000000000000000000000000000000000000000000000000000000000
theorem settleInfeasible_ev (s : State) :
    Ev Fp.settleInfeasible s (settleInfeasible s) := by
  unfold settleInfeasible
  repeat' first
    | with_reducible apply Ev.refl | with_reducible assumption | exact rfl
    | with_reducible apply Ev.seq (logModule_ev ..) ?_ ?_ | with_reducible apply Ev.seq (setPowerBit_ev _ _ _ ?_) ?_ ?_
    | with_reducible apply Ev.ite ?_ ?_ | dsimp only | split

def Fp.releasePorts : Nat := 0x100000500000000000000000000000000000000000000000000000000000000000000000000000000000000000000000000000000000000000000041000000000000
theorem releasePorts_ev (s : State) :
    Ev Fp.releasePorts s (releasePorts s) := by
  unfold releasePorts
  repeat' first
    | with_reducible apply Ev.refl | with_reducible assumption | exact rfl
    | with_reducible apply Ev.seq (onLane_ev ..) ?_ ?_ | with_reducible apply Ev.seq (applyPower_ev ..) ?_ ?_
    | with_reducible apply Ev.foldl (fun _ _ => ?_) ?_ | with_reducible apply Ev.foldlSnd (fun _ _ => ?_) ?_ | dsimp only
    | split

def Fp.restorePorts : Nat := 0x100000500000000000000000000000000000000000000000000000000000000000000000000000000000000000000000000000000000000000000041000000000000
theorem restorePorts_ev (s : State) :
    Ev Fp.restorePorts s (restorePorts s) := by
  unfold restorePorts
  repeat' first
    | with_reducible apply Ev.refl | with_reducible assumption | exact rfl
    | with_reducible apply Ev.seq (onLane_ev ..) ?_ ?_ | with_reducible apply Ev.seq (applyPower_ev ..) ?_ ?_
    | with_reducible apply Ev.foldl (fun _ _ => ?_) ?_ | with_reducible apply Ev.foldlSnd (fun _ _ => ?_) ?_ | dsimp only
    | split

def Fp.settleShed : Nat := 0x100000500000000000000000000000000000000000000000000040000000000000004000000000000000000000000000000000000000000000000041000000000000
theorem settleShed_ev (s : State) :
    Ev Fp.settleShed s (settleShed s) := by
  unfold settleShed
  repeat' first
    | with_reducible apply Ev.refl | with_reducible assumption | exact rfl
    | with_reducible apply Ev.seq (wr_ev _ _ _ _ _ ?_) ?_ ?_ | with_reducible apply Ev.seq (releasePorts_ev ..) ?_ ?_
    | with_reducible apply Ev.seq (restorePorts_ev ..) ?_ ?_ | with_reducible apply Ev.ite ?_ ?_ | dsimp only | split

def Fp.chooseLevel : Nat := 0x10200000000100010500000000000000000100004005100000000000000000040000000000000004000000000000000000000000000000000000000000000000041000000000000
theorem chooseLevel_ev (power : List Nat) (s : State) :
    Ev Fp.chooseLevel s (chooseLevel power s) := by
  unfold chooseLevel
  repeat' first
    | with_reducible apply Ev.refl | with_reducible assumption | exact rfl
    | with_reducible apply Ev.seq (logModule_ev ..) ?_ ?_ | with_reducible apply Ev.seq (onPower_ev ..) ?_ ?_
    | with_reducible apply Ev.seq (setPowerBit_ev _ _ _ ?_) ?_ ?_ | with_reducible apply Ev.seq (settleShed_ev ..) ?_ ?_
    | with_reducible apply Ev.ite ?_ ?_ | dsimp only | with_reducible refine Ev.ofPair (by assumption) ?_ | split

def Fp.settleOver : Nat := 0x10200000000100000000000000000000000100000000000000000000000000040000000000000000000000000000000000000000000000000000000000000000000000000000000
theorem settleOver_ev (s : State) :
    Ev Fp.settleOver s (settleOver s) := by
  unfold settleOver
  repeat' first
    | with_reducible apply Ev.refl | with_reducible assumption | exact rfl
    | with_reducible apply Ev.seq (wr_ev _ _ _ _ _ ?_) ?_ ?_ | with_reducible apply Ev.seq (onPower_ev ..) ?_ ?_
    | with_reducible apply Ev.seq (setPowerBit_ev _ _ _ ?_) ?_ ?_ | with_reducible apply Ev.ite ?_ ?_ | dsimp only | split

def Fp.computeGrants : Nat := 0x10300000000100010500000000000000000100004005100000000001000404040000000000000004000000000000000000000000000000000000000000000000041000000000000
theorem computeGrants_ev (s : State) :
    Ev Fp.computeGrants s (computeGrants s) := by
  unfold computeGrants
  repeat' first
    | with_reducible apply Ev.refl | with_reducible assumption | exact rfl
    | with_reducible apply Ev.seq (applyGrants_ev ..) ?_ ?_ | with_reducible apply Ev.seq (onPower_ev ..) ?_ ?_
    | with_reducible apply Ev.seq (settleInfeasible_ev ..) ?_ ?_ | with_reducible apply Ev.seq (settleOver_ev ..) ?_ ?_
    | with_reducible apply Ev.seq (settleShed_ev ..) ?_ ?_ | with_reducible apply Ev.ite ?_ ?_ | dsimp only | split

def Fp.settleFloor : Nat := 0x10300000000100010500000000000000000100004005100000000001000404040000000000000004000000000000000000000000000000000000000000000000041000000000000
theorem settleFloor_ev (s : State) :
    Ev Fp.settleFloor s (settleFloor s) := by
  unfold settleFloor
  repeat' first
    | with_reducible apply Ev.refl | with_reducible assumption | exact rfl
    | with_reducible apply Ev.seq (applyGrants_ev ..) ?_ ?_ | with_reducible apply Ev.seq (setPowerBit_ev _ _ _ ?_) ?_ ?_
    | with_reducible apply Ev.seq (settleShed_ev ..) ?_ ?_ | with_reducible apply Ev.ite ?_ ?_ | dsimp only | split

def Fp.warnEvent : Nat := 0x200000000100010000000000000000000100004005100000000000000000000000000000000000000000000000000000000000000000000000000000000000000000000000000
theorem warnEvent_ev (row : Nat) (s : State) :
    Ev Fp.warnEvent s (warnEvent row s) := by
  unfold warnEvent
  repeat' first
    | with_reducible apply Ev.refl | with_reducible assumption | exact rfl
    | with_reducible apply Ev.seq (logModule_ev ..) ?_ ?_ | dsimp only | split

def Fp.settlePin : Nat := 0x10300000000100010500000000000000000100004005100000000001000404040000000000000004000000000000000000000000000000000000000000000000041000000000000
theorem settlePin_ev (s : State) :
    Ev Fp.settlePin s (settlePin s) := by
  unfold settlePin
  repeat' first
    | with_reducible apply Ev.refl | with_reducible assumption | exact rfl
    | with_reducible apply Ev.seq (wrb_ev _ _ _ _ _ ?_) ?_ ?_ | with_reducible apply Ev.seq (onPower_ev ..) ?_ ?_
    | with_reducible apply Ev.seq (settleFloor_ev ..) ?_ ?_ | with_reducible apply Ev.ite ?_ ?_ | dsimp only | split

def Fp.powerLoss : Nat := 0x14300000000100010500000000000000000100004005100000000001000404040000000000000004000000000000000000000000000000000000000000000000041000000000000
theorem powerLoss_ev (thermal : Bool) (s : State) :
    Ev Fp.powerLoss s (powerLoss thermal s) := by
  unfold powerLoss
  repeat' first
    | with_reducible apply Ev.refl | with_reducible assumption | exact rfl
    | with_reducible apply Ev.seq (onM_ev _ _ ?_) (Sub.refl _) ?_ | with_reducible apply Ev.seq (onPower_ev ..) ?_ ?_
    | with_reducible apply Ev.seq (settleFloor_ev ..) ?_ ?_ | with_reducible apply Ev.ite ?_ ?_
    | (constructor <;> first | exact .inl rfl | exact .inr rfl | exact rfl | exact fun h => h | exact fun _ => rfl)
    | dsimp only | split

def Fp.takeSample : Nat := 0x10300000000100010500000000000000000100004005100000000001000414040000000000000004000000000000000000000000000000000000000000000000041000000000000
theorem takeSample_ev (mv : Nat) (s0 : Nat) (s : State) :
    Ev Fp.takeSample s (takeSample mv s0 s) := by
  unfold takeSample
  repeat' first
    | with_reducible apply Ev.refl | with_reducible assumption | exact rfl
    | with_reducible apply Ev.seq (bump_ev _ _ _ _ ?_) ?_ ?_ | with_reducible apply Ev.seq (onPower_ev ..) ?_ ?_
    | with_reducible apply Ev.seq (settleFloor_ev ..) ?_ ?_ | with_reducible apply Ev.seq (settlePin_ev ..) ?_ ?_
    | with_reducible apply Ev.seq (warnEvent_ev ..) ?_ ?_ | with_reducible apply Ev.ite ?_ ?_ | dsimp only | split

def Fp.stopBringup : Nat := 0x4000000000000000000000000000000000000000000000000000000000000000000000000000000000000000000000000000000000000000000000000000000000000000000040
theorem stopBringup_ev (s : State) :
    Ev Fp.stopBringup s (stopBringup s) := by
  unfold stopBringup
  repeat' first
    | with_reducible apply Ev.refl | with_reducible assumption | exact rfl
    | with_reducible apply Ev.seq (wr_ev _ _ _ _ _ ?_) ?_ ?_ | with_reducible apply Ev.seq (wrb_ev _ _ _ _ _ ?_) ?_ ?_
    | with_reducible apply Ev.seq (onM_ev _ _ ?_) (Sub.refl _) ?_
    | (constructor <;> first | exact .inl rfl | exact .inr rfl | exact rfl | exact fun h => h | exact fun _ => rfl)
    | dsimp only | split

end Sys2Proof.Machine
end

