-- ==== Sys2Proof/Laws/EvPowerCmds.lean ====
section
/-! SUPPORT. What the operations of Machine/PowerCmds.lean may touch: one law for each, cited in place of unfolding it. The numbers are
sets of parts (Laws/Frame.lean, `Part.idx`). -/

set_option exponentiation.threshold 1024
set_option linter.unreachableTactic false
set_option linter.unusedTactic false

namespace Sys2Proof.Machine

def Fp.writeCap : Nat := 0x10300000000100010500000000000000000100004005100000000001000405050000000000000004000000000000000000000000000000000000000000000000041000000000000
theorem writeCap_ev (v : Word) (power : List Nat) (s : State) :
    Ev Fp.writeCap s (writeCap v power s) := by
  unfold writeCap
  repeat' first
    | with_reducible apply Ev.refl | with_reducible assumption | exact rfl | decide | exact fullWord _ (by decide)
    | exact maskedWord (by decide) | exact zeroWord
    | exact fun hz => withBits_mask _ _ _ _ _ (hz _ _ _ _ (by decide)) (by decide)
    | with_reducible apply Ev.seq (setWord_ev _ _ _ _ _ _ ?_ ?_) ?_ ?_
    | with_reducible apply Ev.seq (bump_ev _ _ _ _ ?_) ?_ ?_ | with_reducible apply Ev.seq (applyGrants_ev ..) ?_ ?_
    | with_reducible apply Ev.seq (chooseLevel_ev ..) ?_ ?_ | with_reducible apply Ev.seq (onPower_ev ..) ?_ ?_
    | with_reducible apply Ev.seq (settleInfeasible_ev ..) ?_ ?_ | with_reducible apply Ev.seq (settleShed_ev ..) ?_ ?_
    | with_reducible apply Ev.ite ?_ ?_ | dsimp only | split

def Fp.execCapWrite : Nat := 0x210300000000100010500000000000000000100004005100010000001000405050000000000000004000000000000000000000000000000000000000000000000041000000000000
theorem execCapWrite_ev (path : Path) (v : Word) (power : List Nat) (s : State) :
    OutEv Fp.execCapWrite s (execCapWrite path v power s) := by
  unfold execCapWrite
  repeat' first
    | with_reducible apply Ev.refl | with_reducible assumption | exact rfl
    | with_reducible apply rwl_ev _ _ _ _ _ _ ?_ (fun _ => ?_) ?_ | with_reducible apply Ev.seq (writeCap_ev ..) ?_ ?_
    | with_reducible apply OutEv.next | dsimp only | split

def Fp.execGrantComputeTimer : Nat := 0x10300000000100010500000000000000000100004005100000000001000404040000000000000004000000000000000000000000000000000000000000000000041000000000000
theorem execGrantComputeTimer_ev (s : State) :
    OutEv Fp.execGrantComputeTimer s (execGrantComputeTimer s) := by
  unfold execGrantComputeTimer
  repeat' first
    | with_reducible apply Ev.refl | with_reducible assumption | exact rfl
    | with_reducible apply Ev.seq (computeGrants_ev ..) ?_ ?_ | with_reducible apply OutEv.next | dsimp only | split

def Fp.execGrantRefreshTimer : Nat := 0x10100000000000000400000000000000000000000000000000000000000400000000000000000000000000000000000000000000000000000000000000000000000000000000000
theorem execGrantRefreshTimer_ev (s : State) :
    OutEv Fp.execGrantRefreshTimer s (execGrantRefreshTimer s) := by
  unfold execGrantRefreshTimer
  repeat' first
    | with_reducible apply Ev.refl | with_reducible assumption | exact rfl
    | with_reducible apply Ev.seq (sendGrant_ev ..) ?_ ?_ | with_reducible apply Ev.ite ?_ ?_
    | with_reducible apply Ev.foldl (fun _ _ => ?_) ?_ | with_reducible apply Ev.foldlSnd (fun _ _ => ?_) ?_
    | with_reducible apply OutEv.next | dsimp only | split

def Fp.execStageTimer : Nat := 0x10300000000100010400000000000000000100004005100000000001000404040000000000000000000000000000000000000000000000000000000000000000000000000000000
theorem execStageTimer_ev (s : State) :
    OutEv Fp.execStageTimer s (execStageTimer s) := by
  unfold execStageTimer
  repeat' first
    | with_reducible apply Ev.refl | with_reducible assumption | exact rfl
    | with_reducible apply Ev.seq (sendStage_ev ..) ?_ ?_ | with_reducible apply Ev.ite ?_ ?_
    | with_reducible apply OutEv.next | dsimp only | split

def Fp.execPowerReport : Nat := 0x10200000000100010400000000000000000100004005100000000001000400000000000000000000000000000000000000000000000040000000000000000000000000000000000
theorem execPowerReport_ev (p : Nat) (pkt : Packet) (s : State) :
    OutEv Fp.execPowerReport s (execPowerReport p pkt s) := by
  unfold execPowerReport
  repeat' first
    | with_reducible apply Ev.refl | with_reducible assumption | exact rfl
    | with_reducible apply Ev.seq (wr_ev _ _ _ _ _ ?_) ?_ ?_ | with_reducible apply Ev.seq (wrb_ev _ _ _ _ _ ?_) ?_ ?_
    | with_reducible apply Ev.seq (bump_ev _ _ _ _ ?_) ?_ ?_ | with_reducible apply Ev.seq (consumeArrived_ev ..) ?_ ?_
    | with_reducible apply Ev.seq (onPower_ev ..) ?_ ?_ | with_reducible apply Ev.ite ?_ ?_
    | with_reducible apply OutEv.next | dsimp only | split

def Fp.execViolationCheck : Nat := 0x10300000000100010400000000000000000100004005100000000001000440000000000000000000000000000000000000000000000000000000000000000000000000000000000
theorem execViolationCheck_ev (k : Nat) (s : State) :
    OutEv Fp.execViolationCheck s (execViolationCheck k s) := by
  unfold execViolationCheck
  repeat' first
    | with_reducible apply Ev.refl | with_reducible assumption | exact rfl
    | with_reducible apply Ev.seq (wrb_ev _ _ _ _ _ ?_) ?_ ?_ | with_reducible apply Ev.seq (bump_ev _ _ _ _ ?_) ?_ ?_
    | with_reducible apply Ev.seq (saturate_ev _ _ _ _ _ ?_) ?_ ?_ | with_reducible apply Ev.seq (logModule_ev ..) ?_ ?_
    | with_reducible apply Ev.seq (onPower_ev ..) ?_ ?_ | with_reducible apply Ev.seq (sendGrants_ev ..) ?_ ?_
    | with_reducible apply Ev.ite ?_ ?_ | with_reducible apply OutEv.next | dsimp only | split

def Fp.clearSlot : Nat := 0x10000000000000000000000000000000000000000000000000000000000400000000000000000000000000000000000000000000000000000000000000000000000000000000000
theorem clearSlot_ev (k : Nat) (s : State) :
    Ev Fp.clearSlot s (clearSlot k s) := by
  unfold clearSlot
  repeat' first
    | with_reducible apply Ev.refl | with_reducible assumption | exact rfl
    | with_reducible apply Ev.seq (wrb_ev _ _ _ _ _ ?_) ?_ ?_ | with_reducible apply Ev.seq (onPower_ev ..) ?_ ?_
    | with_reducible apply Ev.ite ?_ ?_ | dsimp only | split

def Fp.execEpClear : Nat := 0x10000000000000000000000000000000000000000000000000000000000400000000000000000000000000000000000000000000000000000000000000000000000000000000000
theorem execEpClear_ev (k : Nat) (s : State) :
    OutEv Fp.execEpClear s (execEpClear k s) := by
  unfold execEpClear
  repeat' first
    | with_reducible apply Ev.refl | with_reducible assumption | exact rfl
    | with_reducible apply Ev.seq (clearSlot_ev ..) ?_ ?_ | with_reducible apply OutEv.next | dsimp only | split

def Fp.execShedCorrectTimer : Nat := 0x10200000000100010500000000000000000100004005100000000000000000040000000000000004000000000000000000000000000000000000000000000000041000000000000
theorem execShedCorrectTimer_ev (power : List Nat) (s : State) :
    OutEv Fp.execShedCorrectTimer s (execShedCorrectTimer power s) := by
  unfold execShedCorrectTimer
  repeat' first
    | with_reducible apply Ev.refl | with_reducible assumption | exact rfl
    | with_reducible apply Ev.seq (chooseLevel_ev ..) ?_ ?_ | with_reducible apply OutEv.next | dsimp only | split

def Fp.execPowerWarnN : Nat := 0x10300000000100010500000000000000000100004005100000000001000414040000000000000004000000000000000000000000000000000000000000000000041000000000000
theorem execPowerWarnN_ev (low : Bool) (s : State) :
    OutEv Fp.execPowerWarnN s (execPowerWarnN low s) := by
  unfold execPowerWarnN
  repeat' first
    | with_reducible apply Ev.refl | with_reducible assumption | exact rfl
    | with_reducible apply Ev.seq (wrb_ev _ _ _ _ _ ?_) ?_ ?_ | with_reducible apply Ev.seq (bump_ev _ _ _ _ ?_) ?_ ?_
    | with_reducible apply Ev.seq (onPower_ev ..) ?_ ?_ | with_reducible apply Ev.seq (settleFloor_ev ..) ?_ ?_
    | with_reducible apply Ev.seq (settlePin_ev ..) ?_ ?_ | with_reducible apply Ev.seq (warnEvent_ev ..) ?_ ?_
    | with_reducible apply Ev.ite ?_ ?_ | with_reducible apply OutEv.next | dsimp only | split

def Fp.execInputSample : Nat := 0x34300000000100010500000000000000000100004005100000000001000414140000000000000004000000000000000000000000000000000000000000000000041000000000040
theorem execInputSample_ev (mv : Nat) (iin : Nat) (pin : Nat) (s : State) :
    OutEv Fp.execInputSample s (execInputSample mv iin pin s) := by
  unfold execInputSample
  repeat' first
    | with_reducible apply Ev.refl | with_reducible assumption | exact rfl
    | with_reducible apply Ev.seq (wr_ev _ _ _ _ _ ?_) ?_ ?_ | with_reducible apply Ev.seq (onM_ev _ _ ?_) (Sub.refl _) ?_
    | with_reducible apply Ev.seq (onPower_ev ..) ?_ ?_ | with_reducible apply Ev.seq (stopBringup_ev ..) ?_ ?_
    | with_reducible apply Ev.seq (takeSample_ev ..) ?_ ?_ | with_reducible apply Ev.ite ?_ ?_
    | (constructor <;> first | exact .inl rfl | exact .inr rfl | exact rfl | exact fun h => h | exact fun _ => rfl)
    | with_reducible apply OutEv.next | dsimp only | split

def Fp.execUvLoss : Nat := 0x14300000000100010500000000000000000100004005100000000001000404040000000000000004000000000000000000000000000000000000000000000000041000000000000
theorem execUvLoss_ev (s : State) :
    OutEv Fp.execUvLoss s (execUvLoss s) := by
  unfold execUvLoss
  repeat' first
    | with_reducible apply Ev.refl | with_reducible assumption | exact rfl
    | with_reducible apply Ev.seq (powerLoss_ev ..) ?_ ?_ | with_reducible apply Ev.seq (warnEvent_ev ..) ?_ ?_
    | with_reducible apply Ev.ite ?_ ?_ | with_reducible apply OutEv.next | dsimp only | split

def Fp.thermalSample : Nat := 0x14300000000100010500000000000000000100004005100000000001000504040000000000000004000000000000000000000000000000000000000000000000041000000000000
theorem thermalSample_ev (sensor : Nat) (temp : Nat) (s : State) :
    Ev Fp.thermalSample s (thermalSample sensor temp s) := by
  unfold thermalSample
  repeat' first
    | with_reducible apply Ev.refl | with_reducible assumption | exact rfl
    | with_reducible apply Ev.seq (bump_ev _ _ _ _ ?_) ?_ ?_ | with_reducible apply Ev.seq (logModule_ev ..) ?_ ?_
    | with_reducible apply Ev.seq (onPower_ev ..) ?_ ?_ | with_reducible apply Ev.seq (powerLoss_ev ..) ?_ ?_
    | with_reducible apply Ev.seq (setPowerBit_ev _ _ _ ?_) ?_ ?_ | with_reducible apply Ev.seq (settleShed_ev ..) ?_ ?_
    | with_reducible apply Ev.ite ?_ ?_ | dsimp only | split

def Fp.execThermalSample : Nat := 0x14300000000100010500000000000000000100004005100000000001000504040000000000000004000000000000000000000000000000000000000000000000041000000000000
theorem execThermalSample_ev (sensor : Nat) (temp : Nat) (s : State) :
    OutEv Fp.execThermalSample s (execThermalSample sensor temp s) := by
  unfold execThermalSample
  repeat' first
    | with_reducible apply Ev.refl | with_reducible assumption | exact rfl
    | with_reducible apply Ev.seq (thermalSample_ev ..) ?_ ?_ | with_reducible apply OutEv.next | dsimp only | split

def Fp.execThermalRecheck : Nat := 0x14300000000100010500000000000000000100004005100000000001000504040000000000000004000000000000000000000000000000000000000000000000041000000000000
theorem execThermalRecheck_ev (sensor : Nat) (temp : Nat) (s : State) :
    OutEv Fp.execThermalRecheck s (execThermalRecheck sensor temp s) := by
  unfold execThermalRecheck
  repeat' first
    | with_reducible apply Ev.refl | with_reducible assumption | exact rfl
    | with_reducible apply Ev.seq (onPower_ev ..) ?_ ?_ | with_reducible apply Ev.seq (settleShed_ev ..) ?_ ?_
    | with_reducible apply Ev.seq (thermalSample_ev ..) ?_ ?_ | with_reducible apply Ev.ite ?_ ?_
    | with_reducible apply OutEv.next | dsimp only | split

def Fp.sendReports : Nat := 0x100000000000000800000000000000000000000000000000000000000000000000000000000000000000000000000000000000000000000000000000000000000000000000000
theorem sendReports_ev (s : State) :
    Ev Fp.sendReports s (sendReports s) := by
  unfold sendReports
  repeat' first
    | with_reducible apply Ev.refl | with_reducible assumption | exact rfl
    | with_reducible apply Ev.seq (portSend_ev ..) ?_ ?_ | with_reducible apply Ev.foldl (fun _ _ => ?_) ?_
    | with_reducible apply Ev.foldlSnd (fun _ _ => ?_) ?_ | dsimp only | with_reducible refine Ev.ofPair (by assumption) ?_
    | split

def Fp.applyGrant : Nat := 0x200000000000000000008000000000000000000000000000000000000000000000000000000000000000000000000000000000000000000000000000000000000000
theorem applyGrant_ev (s : State) :
    Ev Fp.applyGrant s (applyGrant s) := by
  unfold applyGrant
  repeat' first
    | with_reducible apply Ev.refl | with_reducible assumption | exact rfl
    | with_reducible apply Ev.seq (wr_ev _ _ _ _ _ ?_) ?_ ?_ | with_reducible apply Ev.seq (wrb_ev _ _ _ _ _ ?_) ?_ ?_
    | with_reducible apply Ev.seq (emit_ev ..) ?_ ?_ | with_reducible apply Ev.ite ?_ ?_
    | with_reducible apply Ev.foldl (fun _ _ => ?_) ?_ | with_reducible apply Ev.foldlSnd (fun _ _ => ?_) ?_ | dsimp only
    | with_reducible refine Ev.ofPair (by assumption) ?_ | split

def Fp.execPowerGrant : Nat := 0x40000000000100000000200020800020000028888000000000000000000000000000000000000000000000000000000000000000000000000000080000000000000000000000000000000000
theorem execPowerGrant_ev (p : Nat) (pkt : Packet) (s : State) :
    OutEv Fp.execPowerGrant s (execPowerGrant p pkt s) := by
  unfold execPowerGrant
  repeat' first
    | with_reducible apply Ev.refl | with_reducible assumption | exact rfl
    | with_reducible apply Ev.seq (onE_ev _ _ ?_) (Sub.refl _) ?_ | with_reducible apply Ev.seq (bump_ev _ _ _ _ ?_) ?_ ?_
    | with_reducible apply Ev.seq (applyGrant_ev ..) ?_ ?_ | with_reducible apply Ev.seq (consumeArrived_ev ..) ?_ ?_
    | with_reducible apply Ev.seq (sendReports_ev ..) ?_ ?_ | with_reducible apply Ev.ite ?_ ?_
    | (constructor <;> first | exact .inl rfl | exact .inr rfl | exact rfl | exact fun h => h | exact fun _ => rfl)
    | with_reducible apply OutEv.next | dsimp only | split

def Fp.execGrantTimeout : Nat := 0x40000000000000000000200020000020000028888000000000000000000000000000000000000000000000000000000000000000000000000000000000000000000000000000000000000000
theorem execGrantTimeout_ev (s : State) :
    OutEv Fp.execGrantTimeout s (execGrantTimeout s) := by
  unfold execGrantTimeout
  repeat' first
    | with_reducible apply Ev.refl | with_reducible assumption | exact rfl
    | with_reducible apply Ev.seq (wr_ev _ _ _ _ _ ?_) ?_ ?_ | with_reducible apply Ev.seq (wrb_ev _ _ _ _ _ ?_) ?_ ?_
    | with_reducible apply Ev.seq (emit_ev ..) ?_ ?_ | with_reducible apply Ev.seq (onE_ev _ _ ?_) (Sub.refl _) ?_
    | with_reducible apply Ev.seq (logEndpoint_ev ..) ?_ ?_
    | with_reducible apply Ev.seq (raiseVector_ev _ _ (by decide)) ?_ ?_
    | (constructor <;> first | exact .inl rfl | exact .inr rfl | exact rfl | exact fun h => h | exact fun _ => rfl)
    | with_reducible apply OutEv.next | dsimp only | split

def Fp.execPowerReportTimer : Nat := 0x100000000000000800000000000008000000000000000000000000000000000000000000000000000000000000000000000000000000000000000000000000000000000000000
theorem execPowerReportTimer_ev (report : Nat) (s : State) :
    OutEv Fp.execPowerReportTimer s (execPowerReportTimer report s) := by
  unfold execPowerReportTimer
  repeat' first
    | with_reducible apply Ev.refl | with_reducible assumption | exact rfl
    | with_reducible apply Ev.seq (wr_ev _ _ _ _ _ ?_) ?_ ?_ | with_reducible apply Ev.seq (sendReports_ev ..) ?_ ?_
    | with_reducible apply OutEv.next | dsimp only | split

end Sys2Proof.Machine
end

