-- ==== Sys2Proof/Laws/EvQuorum.lean ====
section
/-! SUPPORT. What the operations of Machine/Quorum.lean may touch: one law for each, cited in place of unfolding it. The numbers are
sets of parts (Laws/Frame.lean, `Part.idx`). -/

set_option exponentiation.threshold 1024
set_option linter.unreachableTactic false
set_option linter.unusedTactic false

namespace Sys2Proof.Machine

def Fp.execVote : Nat := 0x200000000100010000000000000000000100004005100040000001000000000000000000000000000000000000000000000000000000000000000000000000000000000000000
theorem execVote_ev (session : Nat) (proposal : Nat) (unit : Eid) (nonce : Nat) (shadow : Bool) (s : State) :
    OutEv Fp.execVote s (execVote session proposal unit nonce shadow s) := by
  unfold execVote
  repeat' first
    | with_reducible apply Ev.refl | with_reducible assumption | exact rfl
    | with_reducible apply Ev.seq (answered_ev ..) ?_ ?_ | with_reducible apply Ev.seq (logModule_ev ..) ?_ ?_
    | with_reducible apply Ev.seq (respond_ev ..) ?_ ?_
    | with_reducible apply withRole_ev _ _ _ _ _ _ ?_ (fun _ _ => ?_) ?_ | with_reducible apply Ev.ite ?_ ?_
    | with_reducible apply OutEv.next | dsimp only | with_reducible refine Ev.ofPair (by assumption) ?_ | split

def Fp.relayNotice : Nat := 0x100000000000000400000000000000000000000000000000000000000000000000000000000000000000000000000000000000000000000000000000000000000000000000000
theorem relayNotice_ev (dead : Bool) (e : Eid) (s : State) :
    Ev Fp.relayNotice s (relayNotice dead e s) := by
  unfold relayNotice
  repeat' first
    | with_reducible apply Ev.refl | with_reducible assumption | exact rfl
    | with_reducible apply Ev.seq (portSend_ev ..) ?_ ?_ | with_reducible apply Ev.ite ?_ ?_
    | with_reducible apply Ev.foldl (fun _ _ => ?_) ?_ | with_reducible apply Ev.foldlSnd (fun _ _ => ?_) ?_ | dsimp only
    | split

def Fp.moduleDead : Nat := 0x93763b0000700000000330170c0002000002888000015404400510000000000100000000000000000000000000000000000000000000000000000c00c000000054000000000000000000000
theorem moduleDead_ev (e : Eid) (s : State) :
    Ev Fp.moduleDead s (moduleDead e s) := by
  unfold moduleDead
  repeat' first
    | with_reducible apply Ev.refl | with_reducible assumption | exact rfl
    | with_reducible apply Ev.seq (markDead_ev ..) ?_ ?_ | dsimp only | split

def Fp.expel : Nat := 0x93763b0003f0000f000330170c0002000002888000015404500510000000000100000000000000000000000000000041010005444550000000000c00c000000054400c00000015050400001
theorem expel_ev (p : Nat) (e : Eid) (nonce : Nat) (s : State) :
    Ev Fp.expel s (expel p e nonce s) := by
  unfold expel
  repeat' first
    | with_reducible apply Ev.refl | with_reducible assumption | exact rfl
    | with_reducible apply Ev.seq (wr_ev _ _ _ _ _ ?_) ?_ ?_ | with_reducible apply Ev.seq (isolate_ev ..) ?_ ?_
    | with_reducible apply Ev.seq (logModule_ev ..) ?_ ?_ | with_reducible apply Ev.seq (moduleDead_ev ..) ?_ ?_
    | with_reducible apply Ev.seq (relayNotice_ev ..) ?_ ?_ | dsimp only | split

def Fp.execDecide : Nat := 0x93763b0003f0000f000330170c0002000002888000015404500510004000000100000000000000000000000000000041010005444550000000000c00c000000054400c00000015050400001
theorem execDecide_ev (session : Nat) (proposal : Nat) (unit : Eid) (nonce : Nat) (ballots : List Ballot) (witness : Option Bool) (s : State) :
    OutEv Fp.execDecide s (execDecide session proposal unit nonce ballots witness s) := by
  unfold execDecide
  repeat' first
    | with_reducible apply Ev.refl | with_reducible assumption | exact rfl
    | with_reducible apply Ev.seq (wrb_ev _ _ _ _ _ ?_) ?_ ?_ | with_reducible apply Ev.seq (answered_ev ..) ?_ ?_
    | with_reducible apply Ev.seq (expel_ev ..) ?_ ?_ | with_reducible apply Ev.seq (readmit_ev ..) ?_ ?_
    | with_reducible apply Ev.seq (relayNotice_ev ..) ?_ ?_ | with_reducible apply Ev.seq (unmarkDead_ev ..) ?_ ?_
    | with_reducible apply withRole_ev _ _ _ _ _ _ ?_ (fun _ _ => ?_) ?_ | with_reducible apply Ev.ite ?_ ?_
    | with_reducible apply OutEv.next | dsimp only | with_reducible refine Ev.ofPair (by assumption) ?_ | split

def Fp.takeDead : Side → Nat
  | .module => 0x93763b0000700000000330170c0002000002888000015404400510000000000100000000000000000000000000000000000000000000000000000c00c000000054000000000000000000000
  | .endpoint => 0x93fe3b00007000000003301b0c0002000002888000015404400510000000000100000000000000000000000000000000000000000000000000000c00c000000054000000000000000000000
theorem takeDead_ev (sd : Side) (e : Eid) (s : State) :
    Ev (Fp.takeDead sd) s (takeDead sd e s).2 := by
  cases sd <;> (
    unfold takeDead
    repeat' first
      | with_reducible apply Ev.refl | with_reducible assumption | exact rfl
      | with_reducible apply Ev.seq (leafDied_ev ..) ?_ ?_ | with_reducible apply Ev.seq (markDead_ev ..) ?_ ?_
      | with_reducible apply Ev.seq (relayNotice_ev ..) ?_ ?_ | with_reducible apply Ev.seq (settle_ev ..) ?_ ?_
      | with_reducible apply Ev.ite ?_ ?_ | dsimp only | with_reducible refine Ev.ofPair (by assumption) ?_ | contradiction
      | split)

def Fp.takeLive : Side → Nat
  | .module => 0x100000000000040400000000000000000000000000000000000000000000000000000000000000000000000000000000000000000000000000000000000000000000000000000
  | .endpoint => 0x80000000000000000000000000000000000000000000000000000000000000000000000000000000000000000000000000000000000000000000000000000000
theorem takeLive_ev (sd : Side) (e : Eid) (s : State) :
    Ev (Fp.takeLive sd) s (takeLive sd e s).2 := by
  cases sd <;> (
    unfold takeLive
    repeat' first
      | with_reducible apply Ev.refl | with_reducible assumption | exact rfl
      | with_reducible apply Ev.seq (relayNotice_ev ..) ?_ ?_ | with_reducible apply Ev.seq (unmarkDead_ev ..) ?_ ?_
      | dsimp only | with_reducible refine Ev.ofPair (by assumption) ?_ | contradiction | split)

def Fp.notice : Side → Nat
  | .module => 0x200000000100010000000000000000000100004005100040000001000000000000000000000000000000000000000000000000000000000000000000000000000000000000000
  | .endpoint => 0x200020000020000028880000000000000000080000000000000000000000000000000000000000000000000000000000000000000000000000000000000000000000
theorem notice_ev {F : Nat} {s0 : State} (sd : Side) (session : Nat) (proposal : Nat) (e : Eid) (nonce : Nat) (ballots : List Ballot) (relayed : Bool) (f : State → Status × State) (s : State) (hF : Sub (Fp.notice sd) F) (hf : ∀ x, Ev F x (f x).2) (h0 : Ev F s0 s) :
    Ev F s0 (notice sd session proposal e nonce ballots relayed f s) := by
  cases sd <;> (
    unfold notice
    repeat' first
      | with_reducible apply Ev.refl | with_reducible assumption | exact rfl | exact Sub.trans' hF rfl
      | with_reducible apply Ev.seq (hf _) (Sub.refl _) ?_ | with_reducible apply Ev.seq (answered_ev ..) ?_ ?_
      | with_reducible apply withRole_ev _ _ _ _ _ _ ?_ (fun _ _ => ?_) ?_ | with_reducible apply Ev.ite ?_ ?_ | dsimp only
      | contradiction | split)

def Fp.execDeadNotice : Side → Nat
  | .module => 0x93763b0000700000000330170c0002000002888000015404400510004000000100000000000000000000000000000000000000000000000000000c00c000000054000000000000000000000
  | .endpoint => 0x93fe3b00007000000003301b0c0002000002888000015404400510008000000100000000000000000000000000000000000000000000000000000c00c000000054000000000000000000000
theorem execDeadNotice_ev (sd : Side) (session : Nat) (unit : Eid) (nonce : Nat) (ballots : List Ballot) (relayed : Bool) (s : State) :
    OutEv (Fp.execDeadNotice sd) s (execDeadNotice sd session unit nonce ballots relayed s) := by
  cases sd <;> (
    unfold execDeadNotice
    repeat' first
      | with_reducible apply Ev.refl | with_reducible assumption | exact rfl
      | with_reducible apply notice_ev _ _ _ _ _ _ _ _ _ ?_ (fun _ => ?_) ?_
      | with_reducible apply Ev.seq (takeDead_ev ..) ?_ ?_ | with_reducible apply OutEv.next | dsimp only | contradiction
      | split)

def Fp.execLiveNotice : Side → Nat
  | .module => 0x300000000100050400000000000000000100004005100040000001000000000000000000000000000000000000000000000000000000000000000000000000000000000000000
  | .endpoint => 0x2000a0000020000028880000000000000000080000000000000000000000000000000000000000000000000000000000000000000000000000000000000000000000
theorem execLiveNotice_ev (sd : Side) (session : Nat) (unit : Eid) (nonce : Nat) (ballots : List Ballot) (relayed : Bool) (s : State) :
    OutEv (Fp.execLiveNotice sd) s (execLiveNotice sd session unit nonce ballots relayed s) := by
  cases sd <;> (
    unfold execLiveNotice
    repeat' first
      | with_reducible apply Ev.refl | with_reducible assumption | exact rfl
      | with_reducible apply notice_ev _ _ _ _ _ _ _ _ _ ?_ (fun _ => ?_) ?_
      | with_reducible apply Ev.seq (takeLive_ev ..) ?_ ?_ | with_reducible apply OutEv.next | dsimp only | contradiction
      | split)

end Sys2Proof.Machine
end

