-- ==== Sys2Proof/Laws/EvResetOps.lean ====
section
/-! SUPPORT. What the operations of Machine/ResetOps.lean may touch: one law for each, cited in place of unfolding it. The numbers are
sets of parts (Laws/Frame.lean, `Part.idx`). -/

set_option exponentiation.threshold 1024
set_option linter.unreachableTactic false
set_option linter.unusedTactic false

namespace Sys2Proof.Machine

def Fp.resetFields : Nat := 0x15555555555555555555555555555555555555555555555555555555555555555555555555555555555555555555555555555555555555555555555555
theorem fieldsFold_ok (r : Reg) (w : Nat) (hw : w < 16) (x : Word) (l : List FieldDesc) (hl : ∀ f ∈ l, f ∈ r.fields ∧ f.word = w) (v : Word)
    (hv : v &&& ~~~(definedBits r w) = 0) :
    l.foldl (fun v f => withBits v f.hi f.lo (bitsOf x f.hi f.lo)) v &&& ~~~(definedBits r w) = 0 := by
  induction l generalizing v with
  | nil => exact hv
  | cons f l ih =>
    refine ih (fun g hg => hl g (List.mem_cons_of_mem _ hg)) _ ?_
    obtain ⟨hf, rfl⟩ := hl f (List.mem_cons_self ..)
    have hlist : (⟨r, f.word, f.hi, f.lo⟩ : Field).listed = true := by
      simp only [Field.listed, Bool.and_eq_true, decide_eq_true_eq, List.any_eq_true]
      exact ⟨hw, f, hf, ⟨Nat.beq_refl _, Nat.beq_refl _⟩, Nat.beq_refl _⟩
    exact withBits_mask _ _ _ _ _ hv (definedBits_covers _ hlist)

theorem allRegs_bits : ∀ r : Reg, Sub (Part.reg .module r).bit Fp.resetFields := by
  intro r
  cases r <;> rfl

theorem resetFields_ev (hit : Reg → FieldDesc → Bool) (s : State) : Ev Fp.resetFields s (resetFields hit s) := by
  unfold resetFields
  refine Ev.foldl (fun t x => ?_) (Ev.refl _)
  split
  · exact Ev.refl _
  · next r _ =>
    have hw : x.1 / 1024 % 16 < 16 := Nat.mod_lt _ (by decide)
    refine Ev.mono (allRegs_bits r) (setWord_ev _ _ _ _ _ _ hw fun hz => ?_)
    refine fieldsFold_ok _ _ hw _ _ (fun f hf => ?_) _ (hz .module r _ _ hw)
    obtain ⟨h1, h2⟩ := List.mem_filter.1 hf
    rw [Bool.and_eq_true, decide_eq_true_eq] at h2
    exact ⟨h1, h2.1⟩

def Fp.clearModule : Nat := 0x3fff0fcff000155555500015555555555555555555555555555555555555555555555555555555555555555555555555555555555555555555555555555555555555555555555555
theorem tableReset_ok (r : Reg) (w : Nat) (hw : w < 16) : tableReset r w &&& ~~~(definedBits r w) = 0 := by
  unfold tableReset
  suffices h : ∀ (l : List FieldDesc), (∀ f ∈ l, f ∈ r.fields) → ∀ v : Word, v &&& ~~~(definedBits r w) = 0 →
      l.foldl (fun acc f => if f.word = w then withBits acc f.hi f.lo f.reset else acc) v &&& ~~~(definedBits r w) = 0 from
    h r.fields (fun _ h => h) 0 (by simp)
  intro l
  induction l with
  | nil => exact fun _ _ hv => hv
  | cons f l ih =>
    intro hl v hv
    refine ih (fun g hg => hl g (List.mem_cons_of_mem _ hg)) _ ?_
    beta_reduce
    by_cases hf : f.word = w
    · rw [if_pos hf]
      subst hf
      have hlist : (⟨r, f.word, f.hi, f.lo⟩ : Field).listed = true := by
        simp only [Field.listed, Bool.and_eq_true, decide_eq_true_eq, List.any_eq_true]
        exact ⟨hw, f, hl f (List.mem_cons_self ..), ⟨Nat.beq_refl _, Nat.beq_refl _⟩, Nat.beq_refl _⟩
      exact withBits_mask _ _ _ _ _ hv (definedBits_covers _ hlist)
    · rw [if_neg hf]; exact hv

/-- No register resets with a reserved bit set. -/
theorem regReset_ok (sd : Side) (r : Reg) (i w : Nat) (hw : w < 16) : regReset sd r i w &&& ~~~(definedBits r w) = 0 := by
  unfold regReset
  split
  · exact withBits_mask _ _ _ _ _ (tableReset_ok _ _ (by decide)) (by decide)
  · split
    · exact withBits_mask _ _ _ _ _ (withBits_mask _ _ _ _ _ (tableReset_ok _ _ (by decide)) (by decide)) (by decide)
    · exact withBits_mask _ _ _ _ _ (tableReset_ok _ _ (by decide)) (by decide)
  · exact withBits_mask _ _ _ _ _ (withBits_mask _ _ _ _ _ (tableReset_ok _ _ (by decide)) (by decide)) (by decide)
  · exact withBits_mask _ _ _ _ _ (withBits_mask _ _ _ _ _ (tableReset_ok _ _ (by decide)) (by decide)) (by decide)
  · exact withBits_mask _ _ _ _ _ (withBits_mask _ _ _ _ _ (by decide) (by decide)) (by decide)
  · exact withBits_mask _ _ _ _ _ (tableReset_ok _ _ (by decide)) (by decide)
  · exact tableReset_ok _ _ hw

theorem clearModule_regs : ∀ r : Reg, Fp.clearModule.testBit (Part.reg .module r).idx = true := by
  intro r
  cases r <;> rfl

theorem clearModule_ev (s : State) : Ev Fp.clearModule s (clearModule s) := by
  refine ⟨?_, ?_, rfl, rfl⟩
  · intro p hp
    cases p with
    | reg sd r =>
      cases sd
      · rw [clearModule_regs] at hp; exact absurd hp (by decide)
      · exact fun _ _ => rfl
    | unit sd u =>
      cases sd
      · cases u <;> exact absurd hp (by decide)
      · cases u <;> rfl
    | pool x => cases x <;> exact absurd hp (by decide)
    | eng x => cases x <;> exact absurd hp (by decide)
    | mod x => cases x <;> exact absurd hp (by decide)
    | ep x => exact Part.Same.refl (.ep x) s
    | free => rfl
  · intro h
    refine ⟨rfl, rfl, rfl, rfl, ?_, ?_, ?_⟩
    · intro sd; cases sd
      · rfl
      · exact h.regs .endpoint
    · intro sd; cases sd
      · exact show (0 : Nat) < 2 ^ 80 by decide
      · exact h.time .endpoint
    · intro sd r i w hw; cases sd
      · exact regReset_ok .module r i w hw
      · exact h.reserved .endpoint r i w hw

def Fp.powerOn : Nat := 0x3fff0fcff000155555500015555555555555555555555555555555555555555555555555555555555555555555555555555555555555555555555555555555555555555555555555
theorem powerOn_ev (s : State) :
    Ev Fp.powerOn s (powerOn s) := by
  unfold powerOn
  repeat' first
    | with_reducible apply Ev.refl | with_reducible assumption | exact rfl
    | with_reducible apply Ev.seq (clearModule_ev ..) ?_ ?_ | with_reducible apply Ev.seq (resetEvent_ev ..) ?_ ?_
    | dsimp only | split

def Fp.coldReset : Nat := 0x3fff0fcff000155555500015555555555555555555555555555555555555555555555555555555555555555555555555555555555555555555555555555555555555555555555555
theorem coldReset_ev (fundamental : Bool) (s : State) :
    Ev Fp.coldReset s (coldReset fundamental s) := by
  unfold coldReset
  repeat' first
    | with_reducible apply Ev.refl | with_reducible assumption | exact rfl
    | with_reducible apply Ev.seq (wr_ev _ _ _ _ _ ?_) ?_ ?_ | with_reducible apply Ev.seq (wrb_ev _ _ _ _ _ ?_) ?_ ?_
    | with_reducible apply Ev.seq (clearModule_ev ..) ?_ ?_ | with_reducible apply Ev.seq (onBring_ev ..) ?_ ?_
    | with_reducible apply Ev.seq (onSec_ev ..) ?_ ?_ | with_reducible apply Ev.seq (resetEvent_ev ..) ?_ ?_
    | with_reducible apply Ev.seq (setMeasurement_ev ..) ?_ ?_ | with_reducible apply Ev.ite ?_ ?_ | dsimp only | split

def Fp.warmTraffic : Nat := 0x93763b000070bc00000330130c0002000002888000015404400510000000004100000000000004440100000000000000000000000000000000000c00c000000054000000000000000000000
theorem warmTraffic_ev (s : State) :
    Ev Fp.warmTraffic s (warmTraffic s) := by
  unfold warmTraffic
  extract_lets s1 s2 s3 s4 s5 s6
  have hs1 : Ev Fp.warmTraffic s s1 := by
    repeat' first
      | with_reducible apply Ev.refl | with_reducible assumption | exact rfl
      | with_reducible apply Ev.seq (wr_ev _ _ _ _ _ ?_) ?_ ?_
      | with_reducible apply Ev.seq (onEng_ev _ _ ?_) (Sub.refl _) ?_ | with_reducible apply Ev.seq (onXpt_ev ..) ?_ ?_
      | with_reducible apply Ev.seq (completeInval_ev ..) ?_ ?_ | with_reducible apply Ev.seq (endOps_ev ..) ?_ ?_
      | with_reducible apply Ev.seq (endProgram_ev ..) ?_ ?_ | with_reducible apply Ev.seq (noteInv_ev ..) ?_ ?_
      | with_reducible apply Ev.seq (notePr_ev ..) ?_ ?_ | with_reducible apply Ev.seq (onAts_ev ..) ?_ ?_
      | with_reducible apply Ev.seq (settle_ev ..) ?_ ?_ | with_reducible apply Ev.seq (settleProgs_ev ..) ?_ ?_
      | with_reducible apply Ev.foldl (fun _ _ => ?_) ?_ | with_reducible apply Ev.foldlSnd (fun _ _ => ?_) ?_
      | (constructor <;> first | exact .inl rfl | exact .inr rfl | exact rfl | exact fun h => h | exact fun _ => rfl)
      | dsimp only | split
  clear_value s1
  have hs2 : Ev Fp.warmTraffic s s2 := by
    repeat' first
      | with_reducible apply Ev.refl | with_reducible assumption | exact rfl
      | with_reducible apply Ev.seq (wr_ev _ _ _ _ _ ?_) ?_ ?_
      | with_reducible apply Ev.seq (onEng_ev _ _ ?_) (Sub.refl _) ?_ | with_reducible apply Ev.seq (onXpt_ev ..) ?_ ?_
      | with_reducible apply Ev.seq (completeInval_ev ..) ?_ ?_ | with_reducible apply Ev.seq (endOps_ev ..) ?_ ?_
      | with_reducible apply Ev.seq (endProgram_ev ..) ?_ ?_ | with_reducible apply Ev.seq (noteInv_ev ..) ?_ ?_
      | with_reducible apply Ev.seq (notePr_ev ..) ?_ ?_ | with_reducible apply Ev.seq (onAts_ev ..) ?_ ?_
      | with_reducible apply Ev.seq (settle_ev ..) ?_ ?_ | with_reducible apply Ev.seq (settleProgs_ev ..) ?_ ?_
      | with_reducible apply Ev.foldl (fun _ _ => ?_) ?_ | with_reducible apply Ev.foldlSnd (fun _ _ => ?_) ?_
      | (constructor <;> first | exact .inl rfl | exact .inr rfl | exact rfl | exact fun h => h | exact fun _ => rfl)
      | dsimp only | split
  clear_value s2
  have hs3 : Ev Fp.warmTraffic s s3 := by
    repeat' first
      | with_reducible apply Ev.refl | with_reducible assumption | exact rfl
      | with_reducible apply Ev.seq (wr_ev _ _ _ _ _ ?_) ?_ ?_
      | with_reducible apply Ev.seq (onEng_ev _ _ ?_) (Sub.refl _) ?_ | with_reducible apply Ev.seq (onXpt_ev ..) ?_ ?_
      | with_reducible apply Ev.seq (completeInval_ev ..) ?_ ?_ | with_reducible apply Ev.seq (endOps_ev ..) ?_ ?_
      | with_reducible apply Ev.seq (endProgram_ev ..) ?_ ?_ | with_reducible apply Ev.seq (noteInv_ev ..) ?_ ?_
      | with_reducible apply Ev.seq (notePr_ev ..) ?_ ?_ | with_reducible apply Ev.seq (onAts_ev ..) ?_ ?_
      | with_reducible apply Ev.seq (settle_ev ..) ?_ ?_ | with_reducible apply Ev.seq (settleProgs_ev ..) ?_ ?_
      | with_reducible apply Ev.foldl (fun _ _ => ?_) ?_ | with_reducible apply Ev.foldlSnd (fun _ _ => ?_) ?_
      | (constructor <;> first | exact .inl rfl | exact .inr rfl | exact rfl | exact fun h => h | exact fun _ => rfl)
      | dsimp only | split
  clear_value s3
  have hs4 : Ev Fp.warmTraffic s s4 := by
    repeat' first
      | with_reducible apply Ev.refl | with_reducible assumption | exact rfl
      | with_reducible apply Ev.seq (wr_ev _ _ _ _ _ ?_) ?_ ?_
      | with_reducible apply Ev.seq (onEng_ev _ _ ?_) (Sub.refl _) ?_ | with_reducible apply Ev.seq (onXpt_ev ..) ?_ ?_
      | with_reducible apply Ev.seq (completeInval_ev ..) ?_ ?_ | with_reducible apply Ev.seq (endOps_ev ..) ?_ ?_
      | with_reducible apply Ev.seq (endProgram_ev ..) ?_ ?_ | with_reducible apply Ev.seq (noteInv_ev ..) ?_ ?_
      | with_reducible apply Ev.seq (notePr_ev ..) ?_ ?_ | with_reducible apply Ev.seq (onAts_ev ..) ?_ ?_
      | with_reducible apply Ev.seq (settle_ev ..) ?_ ?_ | with_reducible apply Ev.seq (settleProgs_ev ..) ?_ ?_
      | with_reducible apply Ev.foldl (fun _ _ => ?_) ?_ | with_reducible apply Ev.foldlSnd (fun _ _ => ?_) ?_
      | (constructor <;> first | exact .inl rfl | exact .inr rfl | exact rfl | exact fun h => h | exact fun _ => rfl)
      | dsimp only | split
  clear_value s4
  have hs5 : Ev Fp.warmTraffic s s5 := by
    repeat' first
      | with_reducible apply Ev.refl | with_reducible assumption | exact rfl
      | with_reducible apply Ev.seq (wr_ev _ _ _ _ _ ?_) ?_ ?_
      | with_reducible apply Ev.seq (onEng_ev _ _ ?_) (Sub.refl _) ?_ | with_reducible apply Ev.seq (onXpt_ev ..) ?_ ?_
      | with_reducible apply Ev.seq (completeInval_ev ..) ?_ ?_ | with_reducible apply Ev.seq (endOps_ev ..) ?_ ?_
      | with_reducible apply Ev.seq (endProgram_ev ..) ?_ ?_ | with_reducible apply Ev.seq (noteInv_ev ..) ?_ ?_
      | with_reducible apply Ev.seq (notePr_ev ..) ?_ ?_ | with_reducible apply Ev.seq (onAts_ev ..) ?_ ?_
      | with_reducible apply Ev.seq (settle_ev ..) ?_ ?_ | with_reducible apply Ev.seq (settleProgs_ev ..) ?_ ?_
      | with_reducible apply Ev.foldl (fun _ _ => ?_) ?_ | with_reducible apply Ev.foldlSnd (fun _ _ => ?_) ?_
      | (constructor <;> first | exact .inl rfl | exact .inr rfl | exact rfl | exact fun h => h | exact fun _ => rfl)
      | dsimp only | split
  clear_value s5
  have hs6 : Ev Fp.warmTraffic s s6 := by
    repeat' first
      | with_reducible apply Ev.refl | with_reducible assumption | exact rfl
      | with_reducible apply Ev.seq (wr_ev _ _ _ _ _ ?_) ?_ ?_
      | with_reducible apply Ev.seq (onEng_ev _ _ ?_) (Sub.refl _) ?_ | with_reducible apply Ev.seq (onXpt_ev ..) ?_ ?_
      | with_reducible apply Ev.seq (completeInval_ev ..) ?_ ?_ | with_reducible apply Ev.seq (endOps_ev ..) ?_ ?_
      | with_reducible apply Ev.seq (endProgram_ev ..) ?_ ?_ | with_reducible apply Ev.seq (noteInv_ev ..) ?_ ?_
      | with_reducible apply Ev.seq (notePr_ev ..) ?_ ?_ | with_reducible apply Ev.seq (onAts_ev ..) ?_ ?_
      | with_reducible apply Ev.seq (settle_ev ..) ?_ ?_ | with_reducible apply Ev.seq (settleProgs_ev ..) ?_ ?_
      | with_reducible apply Ev.foldl (fun _ _ => ?_) ?_ | with_reducible apply Ev.foldlSnd (fun _ _ => ?_) ?_
      | (constructor <;> first | exact .inl rfl | exact .inr rfl | exact rfl | exact fun h => h | exact fun _ => rfl)
      | dsimp only | split
  clear_value s6
  repeat' first
    | with_reducible apply Ev.refl | with_reducible assumption | exact rfl
    | with_reducible apply Ev.seq (wr_ev _ _ _ _ _ ?_) ?_ ?_ | with_reducible apply Ev.seq (onEng_ev _ _ ?_) (Sub.refl _) ?_
    | with_reducible apply Ev.seq (onXpt_ev ..) ?_ ?_ | with_reducible apply Ev.seq (completeInval_ev ..) ?_ ?_
    | with_reducible apply Ev.seq (endOps_ev ..) ?_ ?_ | with_reducible apply Ev.seq (endProgram_ev ..) ?_ ?_
    | with_reducible apply Ev.seq (noteInv_ev ..) ?_ ?_ | with_reducible apply Ev.seq (notePr_ev ..) ?_ ?_
    | with_reducible apply Ev.seq (onAts_ev ..) ?_ ?_ | with_reducible apply Ev.seq (settle_ev ..) ?_ ?_
    | with_reducible apply Ev.seq (settleProgs_ev ..) ?_ ?_ | with_reducible apply Ev.foldl (fun _ _ => ?_) ?_
    | with_reducible apply Ev.foldlSnd (fun _ _ => ?_) ?_
    | (constructor <;> first | exact .inl rfl | exact .inr rfl | exact rfl | exact fun h => h | exact fun _ => rfl)
    | dsimp only | split

def Fp.warmCore : Nat := 0xb3d00086000001100500015555555555555555555555555555555555555555555555555555555555555555555555555555555555555555555555555555555555555555555555555
theorem warmCore_ev (s : State) :
    Ev Fp.warmCore s (warmCore s) := by
  unfold warmCore
  extract_lets owed s1 s2 s3
  clear_value owed
  have hs1 : Ev Fp.warmCore s s1 := by
    repeat' first
      | with_reducible apply Ev.refl | with_reducible assumption | exact rfl
      | with_reducible apply Ev.seq (wrb_ev _ _ _ _ _ ?_) ?_ ?_
      | with_reducible apply Ev.seq (onUnit_ev _ _ _ ?_) (Sub.refl _) ?_
      | with_reducible apply Ev.seq (onM_ev _ _ ?_) (Sub.refl _) ?_ | with_reducible apply Ev.seq (resetFields_ev ..) ?_ ?_
      | with_reducible apply Ev.ite ?_ ?_
      | (constructor <;> first | exact .inl rfl | exact .inr rfl | exact rfl | exact fun h => h | exact fun _ => rfl)
      | dsimp only | split
  clear_value s1
  have hs2 : Ev Fp.warmCore s s2 := by
    repeat' first
      | with_reducible apply Ev.refl | with_reducible assumption | exact rfl
      | with_reducible apply Ev.seq (wrb_ev _ _ _ _ _ ?_) ?_ ?_
      | with_reducible apply Ev.seq (onUnit_ev _ _ _ ?_) (Sub.refl _) ?_
      | with_reducible apply Ev.seq (onM_ev _ _ ?_) (Sub.refl _) ?_ | with_reducible apply Ev.seq (resetFields_ev ..) ?_ ?_
      | with_reducible apply Ev.ite ?_ ?_
      | (constructor <;> first | exact .inl rfl | exact .inr rfl | exact rfl | exact fun h => h | exact fun _ => rfl)
      | dsimp only | split
  clear_value s2
  have hs3 : Ev Fp.warmCore s s3 := by
    repeat' first
      | with_reducible apply Ev.refl | with_reducible assumption | exact rfl
      | with_reducible apply Ev.seq (wrb_ev _ _ _ _ _ ?_) ?_ ?_
      | with_reducible apply Ev.seq (onUnit_ev _ _ _ ?_) (Sub.refl _) ?_
      | with_reducible apply Ev.seq (onM_ev _ _ ?_) (Sub.refl _) ?_ | with_reducible apply Ev.seq (resetFields_ev ..) ?_ ?_
      | with_reducible apply Ev.ite ?_ ?_
      | (constructor <;> first | exact .inl rfl | exact .inr rfl | exact rfl | exact fun h => h | exact fun _ => rfl)
      | dsimp only | split
  clear_value s3
  repeat' first
    | with_reducible apply Ev.refl | with_reducible assumption | exact rfl
    | with_reducible apply Ev.seq (wrb_ev _ _ _ _ _ ?_) ?_ ?_
    | with_reducible apply Ev.seq (onUnit_ev _ _ _ ?_) (Sub.refl _) ?_
    | with_reducible apply Ev.seq (onM_ev _ _ ?_) (Sub.refl _) ?_ | with_reducible apply Ev.seq (resetFields_ev ..) ?_ ?_
    | with_reducible apply Ev.ite ?_ ?_
    | (constructor <;> first | exact .inl rfl | exact .inr rfl | exact rfl | exact fun h => h | exact fun _ => rfl)
    | dsimp only | split

def Fp.warmReset : Nat := 0x93763b00b7f0bc86000375130d0003555557ddd555555555555555555555555555555555555555555555555555555555555555555555555555555d55d555555555555555555555555555555
theorem warmReset_ev (trigger : Nat) (s : State) :
    Ev Fp.warmReset s (warmReset trigger s) := by
  unfold warmReset
  extract_lets s1 s2 s3 s4 s5 s6 s7
  have hs1 : Ev Fp.warmReset s s1 := by
    repeat' first
      | with_reducible apply Ev.refl | with_reducible assumption | exact rfl
      | with_reducible apply Ev.seq (wr_ev _ _ _ _ _ ?_) ?_ ?_ | with_reducible apply Ev.seq (wrb_ev _ _ _ _ _ ?_) ?_ ?_
      | with_reducible apply Ev.seq (endStep_ev ..) ?_ ?_ | with_reducible apply Ev.seq (onBring_ev ..) ?_ ?_
      | with_reducible apply Ev.seq (onMgmt_ev ..) ?_ ?_ | with_reducible apply Ev.seq (resetEvent_ev ..) ?_ ?_
      | with_reducible apply Ev.seq (setSessions_ev ..) ?_ ?_ | with_reducible apply Ev.seq (setSlot_ev ..) ?_ ?_
      | with_reducible apply Ev.seq (warmCore_ev ..) ?_ ?_ | with_reducible apply Ev.seq (warmTraffic_ev ..) ?_ ?_
      | with_reducible apply Ev.ite ?_ ?_ | with_reducible apply Ev.foldl (fun _ _ => ?_) ?_
      | with_reducible apply Ev.foldlSnd (fun _ _ => ?_) ?_ | dsimp only | split
  clear_value s1
  have hs2 : Ev Fp.warmReset s s2 := by
    repeat' first
      | with_reducible apply Ev.refl | with_reducible assumption | exact rfl
      | with_reducible apply Ev.seq (wr_ev _ _ _ _ _ ?_) ?_ ?_ | with_reducible apply Ev.seq (wrb_ev _ _ _ _ _ ?_) ?_ ?_
      | with_reducible apply Ev.seq (endStep_ev ..) ?_ ?_ | with_reducible apply Ev.seq (onBring_ev ..) ?_ ?_
      | with_reducible apply Ev.seq (onMgmt_ev ..) ?_ ?_ | with_reducible apply Ev.seq (resetEvent_ev ..) ?_ ?_
      | with_reducible apply Ev.seq (setSessions_ev ..) ?_ ?_ | with_reducible apply Ev.seq (setSlot_ev ..) ?_ ?_
      | with_reducible apply Ev.seq (warmCore_ev ..) ?_ ?_ | with_reducible apply Ev.seq (warmTraffic_ev ..) ?_ ?_
      | with_reducible apply Ev.ite ?_ ?_ | with_reducible apply Ev.foldl (fun _ _ => ?_) ?_
      | with_reducible apply Ev.foldlSnd (fun _ _ => ?_) ?_ | dsimp only | split
  clear_value s2
  have hs3 : Ev Fp.warmReset s s3 := by
    repeat' first
      | with_reducible apply Ev.refl | with_reducible assumption | exact rfl
      | with_reducible apply Ev.seq (wr_ev _ _ _ _ _ ?_) ?_ ?_ | with_reducible apply Ev.seq (wrb_ev _ _ _ _ _ ?_) ?_ ?_
      | with_reducible apply Ev.seq (endStep_ev ..) ?_ ?_ | with_reducible apply Ev.seq (onBring_ev ..) ?_ ?_
      | with_reducible apply Ev.seq (onMgmt_ev ..) ?_ ?_ | with_reducible apply Ev.seq (resetEvent_ev ..) ?_ ?_
      | with_reducible apply Ev.seq (setSessions_ev ..) ?_ ?_ | with_reducible apply Ev.seq (setSlot_ev ..) ?_ ?_
      | with_reducible apply Ev.seq (warmCore_ev ..) ?_ ?_ | with_reducible apply Ev.seq (warmTraffic_ev ..) ?_ ?_
      | with_reducible apply Ev.ite ?_ ?_ | with_reducible apply Ev.foldl (fun _ _ => ?_) ?_
      | with_reducible apply Ev.foldlSnd (fun _ _ => ?_) ?_ | dsimp only | split
  clear_value s3
  have hs4 : Ev Fp.warmReset s s4 := by
    repeat' first
      | with_reducible apply Ev.refl | with_reducible assumption | exact rfl
      | with_reducible apply Ev.seq (wr_ev _ _ _ _ _ ?_) ?_ ?_ | with_reducible apply Ev.seq (wrb_ev _ _ _ _ _ ?_) ?_ ?_
      | with_reducible apply Ev.seq (endStep_ev ..) ?_ ?_ | with_reducible apply Ev.seq (onBring_ev ..) ?_ ?_
      | with_reducible apply Ev.seq (onMgmt_ev ..) ?_ ?_ | with_reducible apply Ev.seq (resetEvent_ev ..) ?_ ?_
      | with_reducible apply Ev.seq (setSessions_ev ..) ?_ ?_ | with_reducible apply Ev.seq (setSlot_ev ..) ?_ ?_
      | with_reducible apply Ev.seq (warmCore_ev ..) ?_ ?_ | with_reducible apply Ev.seq (warmTraffic_ev ..) ?_ ?_
      | with_reducible apply Ev.ite ?_ ?_ | with_reducible apply Ev.foldl (fun _ _ => ?_) ?_
      | with_reducible apply Ev.foldlSnd (fun _ _ => ?_) ?_ | dsimp only | split
  clear_value s4
  have hs5 : Ev Fp.warmReset s s5 := by
    repeat' first
      | with_reducible apply Ev.refl | with_reducible assumption | exact rfl
      | with_reducible apply Ev.seq (wr_ev _ _ _ _ _ ?_) ?_ ?_ | with_reducible apply Ev.seq (wrb_ev _ _ _ _ _ ?_) ?_ ?_
      | with_reducible apply Ev.seq (endStep_ev ..) ?_ ?_ | with_reducible apply Ev.seq (onBring_ev ..) ?_ ?_
      | with_reducible apply Ev.seq (onMgmt_ev ..) ?_ ?_ | with_reducible apply Ev.seq (resetEvent_ev ..) ?_ ?_
      | with_reducible apply Ev.seq (setSessions_ev ..) ?_ ?_ | with_reducible apply Ev.seq (setSlot_ev ..) ?_ ?_
      | with_reducible apply Ev.seq (warmCore_ev ..) ?_ ?_ | with_reducible apply Ev.seq (warmTraffic_ev ..) ?_ ?_
      | with_reducible apply Ev.ite ?_ ?_ | with_reducible apply Ev.foldl (fun _ _ => ?_) ?_
      | with_reducible apply Ev.foldlSnd (fun _ _ => ?_) ?_ | dsimp only | split
  clear_value s5
  have hs6 : Ev Fp.warmReset s s6 := by
    repeat' first
      | with_reducible apply Ev.refl | with_reducible assumption | exact rfl
      | with_reducible apply Ev.seq (wr_ev _ _ _ _ _ ?_) ?_ ?_ | with_reducible apply Ev.seq (wrb_ev _ _ _ _ _ ?_) ?_ ?_
      | with_reducible apply Ev.seq (endStep_ev ..) ?_ ?_ | with_reducible apply Ev.seq (onBring_ev ..) ?_ ?_
      | with_reducible apply Ev.seq (onMgmt_ev ..) ?_ ?_ | with_reducible apply Ev.seq (resetEvent_ev ..) ?_ ?_
      | with_reducible apply Ev.seq (setSessions_ev ..) ?_ ?_ | with_reducible apply Ev.seq (setSlot_ev ..) ?_ ?_
      | with_reducible apply Ev.seq (warmCore_ev ..) ?_ ?_ | with_reducible apply Ev.seq (warmTraffic_ev ..) ?_ ?_
      | with_reducible apply Ev.ite ?_ ?_ | with_reducible apply Ev.foldl (fun _ _ => ?_) ?_
      | with_reducible apply Ev.foldlSnd (fun _ _ => ?_) ?_ | dsimp only | split
  clear_value s6
  have hs7 : Ev Fp.warmReset s s7 := by
    repeat' first
      | with_reducible apply Ev.refl | with_reducible assumption | exact rfl
      | with_reducible apply Ev.seq (wr_ev _ _ _ _ _ ?_) ?_ ?_ | with_reducible apply Ev.seq (wrb_ev _ _ _ _ _ ?_) ?_ ?_
      | with_reducible apply Ev.seq (endStep_ev ..) ?_ ?_ | with_reducible apply Ev.seq (onBring_ev ..) ?_ ?_
      | with_reducible apply Ev.seq (onMgmt_ev ..) ?_ ?_ | with_reducible apply Ev.seq (resetEvent_ev ..) ?_ ?_
      | with_reducible apply Ev.seq (setSessions_ev ..) ?_ ?_ | with_reducible apply Ev.seq (setSlot_ev ..) ?_ ?_
      | with_reducible apply Ev.seq (warmCore_ev ..) ?_ ?_ | with_reducible apply Ev.seq (warmTraffic_ev ..) ?_ ?_
      | with_reducible apply Ev.ite ?_ ?_ | with_reducible apply Ev.foldl (fun _ _ => ?_) ?_
      | with_reducible apply Ev.foldlSnd (fun _ _ => ?_) ?_ | dsimp only | split
  clear_value s7
  repeat' first
    | with_reducible apply Ev.refl | with_reducible assumption | exact rfl
    | with_reducible apply Ev.seq (wr_ev _ _ _ _ _ ?_) ?_ ?_ | with_reducible apply Ev.seq (wrb_ev _ _ _ _ _ ?_) ?_ ?_
    | with_reducible apply Ev.seq (endStep_ev ..) ?_ ?_ | with_reducible apply Ev.seq (onBring_ev ..) ?_ ?_
    | with_reducible apply Ev.seq (onMgmt_ev ..) ?_ ?_ | with_reducible apply Ev.seq (resetEvent_ev ..) ?_ ?_
    | with_reducible apply Ev.seq (setSessions_ev ..) ?_ ?_ | with_reducible apply Ev.seq (setSlot_ev ..) ?_ ?_
    | with_reducible apply Ev.seq (warmCore_ev ..) ?_ ?_ | with_reducible apply Ev.seq (warmTraffic_ev ..) ?_ ?_
    | with_reducible apply Ev.ite ?_ ?_ | with_reducible apply Ev.foldl (fun _ _ => ?_) ?_
    | with_reducible apply Ev.foldlSnd (fun _ _ => ?_) ?_ | dsimp only | split

def Fp.abortQueue : Nat := 0x20040f000100010000000000000000000100004005100000000001000000000000000000154000000000000000000004000000000000000000000000000000000000000000000
theorem abortQueue_ev (q : Nat) (s : State) :
    Ev Fp.abortQueue s (abortQueue q s) := by
  unfold abortQueue
  repeat' first
    | with_reducible apply Ev.refl | with_reducible assumption | exact rfl
    | with_reducible apply Ev.seq (wrb_ev _ _ _ _ _ ?_) ?_ ?_ | with_reducible apply Ev.seq (onEngQueue_ev ..) ?_ ?_
    | with_reducible apply Ev.seq (recordCmd_ev ..) ?_ ?_ | with_reducible apply Ev.ite ?_ ?_
    | with_reducible apply Ev.foldl (fun _ _ => ?_) ?_ | with_reducible apply Ev.foldlSnd (fun _ _ => ?_) ?_ | dsimp only
    | split

def Fp.orphanOps : Nat := 0x10000000000000000000000000000000000000000000000000000000000000000000000000000000000000000000000000000000000000000000000000000000000
theorem orphanOps_ev (s : State) :
    Ev Fp.orphanOps s (orphanOps s) := by
  unfold orphanOps
  repeat' first
    | with_reducible apply Ev.refl | with_reducible assumption | exact rfl
    | with_reducible apply Ev.seq (onXpt_ev ..) ?_ ?_ | with_reducible apply Ev.ite ?_ ?_ | dsimp only
    | with_reducible refine Ev.ofPair (by assumption) ?_ | split

def Fp.faultHost : Nat := 0x201000000110000000000000000000000100000000000000000000000000000000044000000000000000000000000000000000000000000000000000000000000000000000000
theorem faultHost_ev (s : State) (x : Nat × Nat × PupAccess) :
    Ev Fp.faultHost s (faultHost s x) := by
  unfold faultHost
  repeat' first
    | with_reducible apply Ev.refl | with_reducible assumption | exact rfl
    | with_reducible apply Ev.seq (pupFault_ev ..) ?_ ?_ | dsimp only | split

def Fp.functionReset : Nat := 0x40201c0f000110010000015555555555555555555555555555555555555555555555555555555555555555555555555555555555555555555555555555555555555555555555555
theorem functionReset_ev (s : State) :
    Ev Fp.functionReset s (functionReset s) := by
  unfold functionReset
  extract_lets s1 s2 s3 s4 s5
  have hs1 : Ev Fp.functionReset s s1 := by
    repeat' first
      | with_reducible apply Ev.refl | with_reducible assumption | exact rfl
      | with_reducible apply Ev.seq (wr_ev _ _ _ _ _ ?_) ?_ ?_ | with_reducible apply Ev.seq (wrb_ev _ _ _ _ _ ?_) ?_ ?_
      | with_reducible apply Ev.seq (onM_ev _ _ ?_) (Sub.refl _) ?_ | with_reducible apply Ev.seq (abortQueue_ev ..) ?_ ?_
      | with_reducible apply Ev.seq (completeInval_ev ..) ?_ ?_ | with_reducible apply Ev.seq (faultHost_ev ..) ?_ ?_
      | with_reducible apply Ev.seq (onAts_ev ..) ?_ ?_ | with_reducible apply Ev.seq (orphanOps_ev ..) ?_ ?_
      | with_reducible apply Ev.seq (resetEvent_ev ..) ?_ ?_ | with_reducible apply Ev.seq (resetFields_ev ..) ?_ ?_
      | with_reducible apply Ev.foldl (fun _ _ => ?_) ?_ | with_reducible apply Ev.foldlSnd (fun _ _ => ?_) ?_
      | (constructor <;> first | exact .inl rfl | exact .inr rfl | exact rfl | exact fun h => h | exact fun _ => rfl)
      | dsimp only | split
  clear_value s1
  have hs2 : Ev Fp.functionReset s s2 := by
    repeat' first
      | with_reducible apply Ev.refl | with_reducible assumption | exact rfl
      | with_reducible apply Ev.seq (wr_ev _ _ _ _ _ ?_) ?_ ?_ | with_reducible apply Ev.seq (wrb_ev _ _ _ _ _ ?_) ?_ ?_
      | with_reducible apply Ev.seq (onM_ev _ _ ?_) (Sub.refl _) ?_ | with_reducible apply Ev.seq (abortQueue_ev ..) ?_ ?_
      | with_reducible apply Ev.seq (completeInval_ev ..) ?_ ?_ | with_reducible apply Ev.seq (faultHost_ev ..) ?_ ?_
      | with_reducible apply Ev.seq (onAts_ev ..) ?_ ?_ | with_reducible apply Ev.seq (orphanOps_ev ..) ?_ ?_
      | with_reducible apply Ev.seq (resetEvent_ev ..) ?_ ?_ | with_reducible apply Ev.seq (resetFields_ev ..) ?_ ?_
      | with_reducible apply Ev.foldl (fun _ _ => ?_) ?_ | with_reducible apply Ev.foldlSnd (fun _ _ => ?_) ?_
      | (constructor <;> first | exact .inl rfl | exact .inr rfl | exact rfl | exact fun h => h | exact fun _ => rfl)
      | dsimp only | split
  clear_value s2
  have hs3 : Ev Fp.functionReset s s3 := by
    repeat' first
      | with_reducible apply Ev.refl | with_reducible assumption | exact rfl
      | with_reducible apply Ev.seq (wr_ev _ _ _ _ _ ?_) ?_ ?_ | with_reducible apply Ev.seq (wrb_ev _ _ _ _ _ ?_) ?_ ?_
      | with_reducible apply Ev.seq (onM_ev _ _ ?_) (Sub.refl _) ?_ | with_reducible apply Ev.seq (abortQueue_ev ..) ?_ ?_
      | with_reducible apply Ev.seq (completeInval_ev ..) ?_ ?_ | with_reducible apply Ev.seq (faultHost_ev ..) ?_ ?_
      | with_reducible apply Ev.seq (onAts_ev ..) ?_ ?_ | with_reducible apply Ev.seq (orphanOps_ev ..) ?_ ?_
      | with_reducible apply Ev.seq (resetEvent_ev ..) ?_ ?_ | with_reducible apply Ev.seq (resetFields_ev ..) ?_ ?_
      | with_reducible apply Ev.foldl (fun _ _ => ?_) ?_ | with_reducible apply Ev.foldlSnd (fun _ _ => ?_) ?_
      | (constructor <;> first | exact .inl rfl | exact .inr rfl | exact rfl | exact fun h => h | exact fun _ => rfl)
      | dsimp only | split
  clear_value s3
  have hs4 : Ev Fp.functionReset s s4 := by
    repeat' first
      | with_reducible apply Ev.refl | with_reducible assumption | exact rfl
      | with_reducible apply Ev.seq (wr_ev _ _ _ _ _ ?_) ?_ ?_ | with_reducible apply Ev.seq (wrb_ev _ _ _ _ _ ?_) ?_ ?_
      | with_reducible apply Ev.seq (onM_ev _ _ ?_) (Sub.refl _) ?_ | with_reducible apply Ev.seq (abortQueue_ev ..) ?_ ?_
      | with_reducible apply Ev.seq (completeInval_ev ..) ?_ ?_ | with_reducible apply Ev.seq (faultHost_ev ..) ?_ ?_
      | with_reducible apply Ev.seq (onAts_ev ..) ?_ ?_ | with_reducible apply Ev.seq (orphanOps_ev ..) ?_ ?_
      | with_reducible apply Ev.seq (resetEvent_ev ..) ?_ ?_ | with_reducible apply Ev.seq (resetFields_ev ..) ?_ ?_
      | with_reducible apply Ev.foldl (fun _ _ => ?_) ?_ | with_reducible apply Ev.foldlSnd (fun _ _ => ?_) ?_
      | (constructor <;> first | exact .inl rfl | exact .inr rfl | exact rfl | exact fun h => h | exact fun _ => rfl)
      | dsimp only | split
  clear_value s4
  have hs5 : Ev Fp.functionReset s s5 := by
    repeat' first
      | with_reducible apply Ev.refl | with_reducible assumption | exact rfl
      | with_reducible apply Ev.seq (wr_ev _ _ _ _ _ ?_) ?_ ?_ | with_reducible apply Ev.seq (wrb_ev _ _ _ _ _ ?_) ?_ ?_
      | with_reducible apply Ev.seq (onM_ev _ _ ?_) (Sub.refl _) ?_ | with_reducible apply Ev.seq (abortQueue_ev ..) ?_ ?_
      | with_reducible apply Ev.seq (completeInval_ev ..) ?_ ?_ | with_reducible apply Ev.seq (faultHost_ev ..) ?_ ?_
      | with_reducible apply Ev.seq (onAts_ev ..) ?_ ?_ | with_reducible apply Ev.seq (orphanOps_ev ..) ?_ ?_
      | with_reducible apply Ev.seq (resetEvent_ev ..) ?_ ?_ | with_reducible apply Ev.seq (resetFields_ev ..) ?_ ?_
      | with_reducible apply Ev.foldl (fun _ _ => ?_) ?_ | with_reducible apply Ev.foldlSnd (fun _ _ => ?_) ?_
      | (constructor <;> first | exact .inl rfl | exact .inr rfl | exact rfl | exact fun h => h | exact fun _ => rfl)
      | dsimp only | split
  clear_value s5
  repeat' first
    | with_reducible apply Ev.refl | with_reducible assumption | exact rfl
    | with_reducible apply Ev.seq (wr_ev _ _ _ _ _ ?_) ?_ ?_ | with_reducible apply Ev.seq (wrb_ev _ _ _ _ _ ?_) ?_ ?_
    | with_reducible apply Ev.seq (onM_ev _ _ ?_) (Sub.refl _) ?_ | with_reducible apply Ev.seq (abortQueue_ev ..) ?_ ?_
    | with_reducible apply Ev.seq (completeInval_ev ..) ?_ ?_ | with_reducible apply Ev.seq (faultHost_ev ..) ?_ ?_
    | with_reducible apply Ev.seq (onAts_ev ..) ?_ ?_ | with_reducible apply Ev.seq (orphanOps_ev ..) ?_ ?_
    | with_reducible apply Ev.seq (resetEvent_ev ..) ?_ ?_ | with_reducible apply Ev.seq (resetFields_ev ..) ?_ ?_
    | with_reducible apply Ev.foldl (fun _ _ => ?_) ?_ | with_reducible apply Ev.foldlSnd (fun _ _ => ?_) ?_
    | (constructor <;> first | exact .inl rfl | exact .inr rfl | exact rfl | exact fun h => h | exact fun _ => rfl)
    | dsimp only | split

def Fp.endBoot : Nat := 0x4200000000100010000000000000000000100004005100000000000000000000000000000000000000000000000000000000000000000000000000000000000000000000000040
theorem endBoot_ev (ok : Bool) (s : State) :
    Ev Fp.endBoot s (endBoot ok s) := by
  unfold endBoot
  repeat' first
    | with_reducible apply Ev.refl | with_reducible assumption | exact rfl
    | with_reducible apply Ev.seq (wr_ev _ _ _ _ _ ?_) ?_ ?_ | with_reducible apply Ev.seq (wrb_ev _ _ _ _ _ ?_) ?_ ?_
    | with_reducible apply Ev.seq (endStep_ev ..) ?_ ?_ | with_reducible apply Ev.seq (onBring_ev ..) ?_ ?_
    | with_reducible apply Ev.ite ?_ ?_ | dsimp only | split

def Fp.bootPuppeteer : Nat := 0x44200000000100010000000000000000004100004005101000000040000000000000000000000000000000000000000000000000000000000000000000000000000000000000040
theorem bootPuppeteer_ev (a : List Byte) (b : List Byte) (otp : OtpMap) (s : State) :
    Ev Fp.bootPuppeteer s (bootPuppeteer a b otp s) := by
  unfold bootPuppeteer
  repeat' first
    | with_reducible apply Ev.refl | with_reducible assumption | exact rfl | with_reducible apply Ev.seq (boot_ev ..) ?_ ?_
    | with_reducible apply Ev.seq (endBoot_ev ..) ?_ ?_ | with_reducible apply Ev.seq (onSec_ev ..) ?_ ?_
    | with_reducible apply Ev.ite ?_ ?_ | dsimp only | split

end Sys2Proof.Machine
end

