-- ==== Sys2Proof/Laws/EvTelOps.lean ====
section
/-! SUPPORT. What the operations of Machine/TelOps.lean may touch: one law for each, cited in place of unfolding it. The numbers are
sets of parts (Laws/Frame.lean, `Part.idx`). -/

set_option exponentiation.threshold 1024
set_option linter.unreachableTactic false
set_option linter.unusedTactic false

namespace Sys2Proof.Machine

def Fp.onTel : Nat := 0x20000000000000000000000000000000000000000000000000000000000000000000000000000000000000000000000000000000000000000000000000000000000000000000000
theorem onTel_ev (f : TelState → TelState) (s : State) :
    Ev Fp.onTel s (onTel f s) := by
  unfold onTel
  repeat' first
    | with_reducible apply Ev.refl | with_reducible assumption | exact rfl
    | with_reducible apply Ev.seq (onM_ev _ _ ?_) (Sub.refl _) ?_
    | (constructor <;> first | exact .inl rfl | exact .inr rfl | exact rfl | exact fun h => h | exact fun _ => rfl)
    | dsimp only | split

def Fp.streamPeriod : Nat := 0x20700000000110110400000000000000000100044005100000000001400000000000000000000000000000000000000000000000000004004000000054000000000000000000000
theorem streamPeriod_ev (k : Nat) (s : State) :
    Ev Fp.streamPeriod s (streamPeriod k s) := by
  unfold streamPeriod
  repeat' first
    | with_reducible apply Ev.refl | with_reducible assumption | exact rfl
    | with_reducible apply Ev.seq (bump_ev _ _ _ _ ?_) ?_ ?_ | with_reducible apply Ev.seq (issueOp_ev ..) ?_ ?_
    | with_reducible apply Ev.seq (onTel_ev ..) ?_ ?_ | with_reducible apply Ev.ite ?_ ?_
    | with_reducible apply Ev.foldl (fun _ _ => ?_) ?_ | with_reducible apply Ev.foldlSnd (fun _ _ => ?_) ?_ | dsimp only
    | split

end Sys2Proof.Machine
end

