-- ==== Sys2Proof/Laws/EvTelCmds.lean ====
section
/-! SUPPORT. What the operations of Machine/TelCmds.lean may touch: one law for each, cited in place of unfolding it. The numbers are
sets of parts (Laws/Frame.lean, `Part.idx`). -/

set_option exponentiation.threshold 1024
set_option linter.unreachableTactic false
set_option linter.unusedTactic false

namespace Sys2Proof.Machine

def Fp.writeSnapCtl : Nat := 0x20200000000100010000000000000000000100004005100000000000010000000000000000000000000000000000000000000000000000000000000000000000000000000000000
theorem writeSnapCtl_ev (groups : Nat) (s : State) :
    Ev Fp.writeSnapCtl s (writeSnapCtl groups s) := by
  unfold writeSnapCtl
  repeat' first
    | with_reducible apply Ev.refl | with_reducible assumption | exact rfl
    | with_reducible apply Ev.seq (wrb_ev _ _ _ _ _ ?_) ?_ ?_ | with_reducible apply Ev.seq (onTel_ev ..) ?_ ?_
    | with_reducible apply Ev.seq (regAccess_ev ..) ?_ ?_ | with_reducible apply Ev.ite ?_ ?_ | dsimp only | split

def Fp.execSnapCtl : Nat := 0x20200000000100010000000000000000000100004005100000000000010000000000000000000000000000000000000000000000000000000000000000000000000000000000000
theorem execSnapCtl_ev (groups : Nat) (s : State) :
    OutEv Fp.execSnapCtl s (execSnapCtl groups s) := by
  unfold execSnapCtl
  repeat' first
    | with_reducible apply Ev.refl | with_reducible assumption | exact rfl
    | with_reducible apply Ev.seq (writeSnapCtl_ev ..) ?_ ?_ | with_reducible apply OutEv.next | dsimp only | split

def Fp.execSnapshotPublish : Nat := 0x20200020000100000000000000000000000100000000000000000000010000000000000000000000000000000000000000000000000000000000000000000000000000000000000
theorem execSnapshotPublish_ev (s : State) : OutEv Fp.execSnapshotPublish s (execSnapshotPublish s) := by
  unfold execSnapshotPublish
  refine OutEv.next ?_
  split
  · exact Ev.refl _
  · rename_i mask time values _
    generalize (524288 : Nat) = half
    repeat' first
      | with_reducible apply Ev.refl | with_reducible assumption | exact rfl
      | with_reducible apply Ev.seq (wr_ev _ _ _ _ _ ?_) ?_ ?_ | with_reducible apply Ev.seq (wrb_ev _ _ _ _ _ ?_) ?_ ?_
      | with_reducible apply Ev.seq (onPool_ev _ _ ?_) (Sub.refl _) ?_ | with_reducible apply Ev.seq (onTel_ev ..) ?_ ?_
      | with_reducible apply Ev.seq (raiseSource_ev ..) ?_ ?_ | with_reducible apply Ev.ite ?_ ?_
      | (constructor <;> first | exact .inl rfl | exact fun h => memWrite_wf _ _ _ h | exact fun h => memWrite_wf _ _ _ (memWrite_wf _ _ _ h) | exact .inr rfl | exact rfl | exact fun h => h | exact fun _ => rfl)
      | with_reducible apply OutEv.next | dsimp only | with_reducible refine Ev.ofPair (by assumption) ?_ | split

def Fp.execTelemetryPeriod : Nat := 0x93763b0020700000000330130c0002000002888000015404400510000000000140000000000000000000000000000000000000000000000000000c00c000000054000000000000000000000
theorem execTelemetryPeriod_ev (k : Nat) (s : State) :
    OutEv Fp.execTelemetryPeriod s (execTelemetryPeriod k s) := by
  unfold execTelemetryPeriod
  repeat' first
    | with_reducible apply Ev.refl | with_reducible assumption | exact rfl
    | with_reducible apply Ev.seq (settleBoth_ev ..) ?_ ?_ | with_reducible apply Ev.seq (streamPeriod_ev ..) ?_ ?_
    | with_reducible apply Ev.ite ?_ ?_ | with_reducible apply OutEv.next | dsimp only | split

def Fp.execPauseLimitExpire : Nat := 0x200000000100010000000000000000000100004005100000000000040000000000000000000000000000000000000000000000000000000000000000000000000000000000000
theorem execPauseLimitExpire_ev (activity : Nat) (s : State) :
    OutEv Fp.execPauseLimitExpire s (execPauseLimitExpire activity s) := by
  unfold execPauseLimitExpire
  repeat' first
    | with_reducible apply Ev.refl | with_reducible assumption | exact rfl
    | with_reducible apply Ev.seq (overridePolicy_ev ..) ?_ ?_ | with_reducible apply Ev.ite ?_ ?_
    | with_reducible apply OutEv.next | dsimp only | split

end Sys2Proof.Machine
end

