-- ==== Sys2Proof/Laws/EvTiles.lean ====
section
/-! SUPPORT. What the operations of Machine/Tiles.lean may touch: one law for each, cited in place of unfolding it. The numbers are
sets of parts (Laws/Frame.lean, `Part.idx`). -/

set_option exponentiation.threshold 1024
set_option linter.unreachableTactic false
set_option linter.unusedTactic false

namespace Sys2Proof.Machine

def Fp.execSramScrubPassEnd : Nat := 0x93763b0083f0108f000330130d0002000002888000015404500510000000000100000000000004400000000000000000000100454554400000000c00c000000054510c50041015550400001
theorem execSramScrubPassEnd_ev (t : Nat) (corrected : Nat) (items : TileItems) (s : State) :
    OutEv Fp.execSramScrubPassEnd s (execSramScrubPassEnd t corrected items s) := by
  unfold execSramScrubPassEnd
  repeat' first
    | with_reducible apply Ev.refl | with_reducible assumption | exact rfl
    | with_reducible apply Ev.seq (scrubbed_ev ..) ?_ ?_ | with_reducible apply Ev.seq (settle_ev ..) ?_ ?_
    | with_reducible apply Ev.ite ?_ ?_ | with_reducible apply OutEv.next | dsimp only | split

def Fp.execTileUe : Nat := 0x93763b0083f0108f000330130d0002000002888000015404500510000000000104000000000004400000000000000000000100454554400000000c00c000000054510c50041015550400001
theorem execTileUe_ev (t : Nat) (fault : TileFault) (items : TileItems) (s : State) :
    OutEv Fp.execTileUe s (execTileUe t fault items s) := by
  unfold execTileUe
  repeat' first
    | with_reducible apply Ev.refl | with_reducible assumption | exact rfl
    | with_reducible apply Ev.seq (replacementFails_ev ..) ?_ ?_ | with_reducible apply Ev.seq (settle_ev ..) ?_ ?_
    | with_reducible apply Ev.seq (tileError_ev ..) ?_ ?_ | with_reducible apply Ev.ite ?_ ?_
    | with_reducible apply OutEv.next | dsimp only | with_reducible refine Ev.ofPair (by assumption) ?_ | split

def Fp.roleCommand : Nat := 0x200000000100010000000000000000000100004005100000000000000000000000000000000000000000000000000000000000000000000000000000000000000000000400000
theorem roleCommand_ev {F : Nat} {s0 : State} (t : Nat) (value : Nat) (f : State → State) (s : State) (hF : Sub Fp.roleCommand F) (hf : ∀ x, Ev F x (f x)) (h0 : Ev F s0 s) :
    Ev F s0 (roleCommand t value f s) := by
  unfold roleCommand
  repeat' first
    | with_reducible apply Ev.refl | with_reducible assumption | exact rfl | exact Sub.trans' hF rfl
    | with_reducible apply Ev.seq (hf _) (Sub.refl _) ?_ | with_reducible apply Ev.seq (beginRole_ev ..) ?_ ?_
    | with_reducible apply Ev.seq (regAccess_ev ..) ?_ ?_ | with_reducible apply Ev.ite ?_ ?_ | dsimp only | split

def Fp.retireCommand : Nat := 0x83f0108f000310130d00020000028880000100045005100000000001000000000000044000000000000000000001004545544000000000000000000054510c50041015550400001
theorem retireCommand_ev (t : Nat) (items : TileItems) (s : State) :
    Ev Fp.retireCommand s (retireCommand t items s) := by
  unfold retireCommand
  repeat' first
    | with_reducible apply Ev.refl | with_reducible assumption | exact rfl
    | with_reducible apply Ev.seq (endRole_ev ..) ?_ ?_ | with_reducible apply Ev.seq (markBad_ev ..) ?_ ?_
    | with_reducible apply Ev.seq (retireReadable_ev ..) ?_ ?_ | with_reducible apply Ev.ite ?_ ?_ | dsimp only | split

def Fp.execRetire : Nat := 0x93763b0083f0108f000330130d0002000002888000015404500510000000000100000000000004400000000000000000000100454554400000000c00c000000054510c50041015550400001
theorem execRetire_ev (t : Nat) (items : TileItems) (s : State) :
    OutEv Fp.execRetire s (execRetire t items s) := by
  unfold execRetire
  repeat' first
    | with_reducible apply Ev.refl | with_reducible assumption | exact rfl
    | with_reducible apply Ev.seq (retireCommand_ev ..) ?_ ?_
    | with_reducible apply roleCommand_ev _ _ _ _ ?_ (fun _ => ?_) ?_ | with_reducible apply Ev.seq (settle_ev ..) ?_ ?_
    | with_reducible apply OutEv.next | dsimp only | split

def Fp.toSpare : Nat := 0x2f0000f000310130c00020000028880000100044005100000000001000000000000000000000000000000000000004445504000000000000000000054000c00000015050400001
theorem toSpare_ev (t : Nat) (s : State) :
    Ev Fp.toSpare s (toSpare t s) := by
  unfold toSpare
  repeat' first
    | with_reducible apply Ev.refl | with_reducible assumption | exact rfl
    | with_reducible apply Ev.seq (endRole_ev ..) ?_ ?_ | with_reducible apply Ev.seq (onTile_ev ..) ?_ ?_
    | with_reducible apply Ev.seq (settleSpare_ev ..) ?_ ?_ | with_reducible apply Ev.seq (startFlush_ev ..) ?_ ?_
    | with_reducible apply Ev.ite ?_ ?_ | dsimp only | split

def Fp.execToSpare : Nat := 0x93763b0002f0000f000330130c0002000002888000015404400510000000000100000000000000000000000000000000000000444550400000000c00c000000054000c00000015050400001
theorem execToSpare_ev (t : Nat) (s : State) :
    OutEv Fp.execToSpare s (execToSpare t s) := by
  unfold execToSpare
  repeat' first
    | with_reducible apply Ev.refl | with_reducible assumption | exact rfl
    | with_reducible apply roleCommand_ev _ _ _ _ ?_ (fun _ => ?_) ?_ | with_reducible apply Ev.seq (settle_ev ..) ?_ ?_
    | with_reducible apply Ev.seq (toSpare_ev ..) ?_ ?_ | with_reducible apply OutEv.next | dsimp only | split

def Fp.fromSpare : Nat := 0x2f0000f000310130c00020000028880000100044005100000000001000000000000000000000000000000000000004445504000000000000000000054000c00000015050400001
theorem fromSpare_ev (t : Nat) (role : Nat) (s : State) :
    Ev Fp.fromSpare s (fromSpare t role s) := by
  unfold fromSpare
  repeat' first
    | with_reducible apply Ev.refl | with_reducible assumption | exact rfl
    | with_reducible apply Ev.seq (endRole_ev ..) ?_ ?_ | with_reducible apply Ev.seq (finishChange_ev ..) ?_ ?_
    | with_reducible apply Ev.seq (onTile_ev ..) ?_ ?_ | with_reducible apply Ev.seq (startFlush_ev ..) ?_ ?_
    | with_reducible apply Ev.ite ?_ ?_ | dsimp only | split

def Fp.execFromSpare : Nat := 0x93763b0002f0000f000330130c0002000002888000015404400510000000000100000000000000000000000000000000000000444550400000000c00c000000054000c00000015050400001
theorem execFromSpare_ev (t : Nat) (role : Nat) (s : State) :
    OutEv Fp.execFromSpare s (execFromSpare t role s) := by
  unfold execFromSpare
  repeat' first
    | with_reducible apply Ev.refl | with_reducible assumption | exact rfl
    | with_reducible apply Ev.seq (fromSpare_ev ..) ?_ ?_ | with_reducible apply roleCommand_ev _ _ _ _ ?_ (fun _ => ?_) ?_
    | with_reducible apply Ev.seq (settle_ev ..) ?_ ?_ | with_reducible apply OutEv.next | dsimp only | split

def Fp.execToSpareTimeout : Nat := 0x2000000000000000000000000000000000000000000000000000000000000000000000000000000000000000000000000000000000000000000000000000000000000000400000
theorem execToSpareTimeout_ev (s : State) :
    OutEv Fp.execToSpareTimeout s (execToSpareTimeout s) := by
  unfold execToSpareTimeout
  repeat' first
    | with_reducible apply Ev.refl | with_reducible assumption | exact rfl
    | with_reducible apply Ev.seq (endRole_ev ..) ?_ ?_ | with_reducible apply Ev.seq (onTile_ev ..) ?_ ?_
    | with_reducible apply Ev.ite ?_ ?_ | with_reducible apply OutEv.next | dsimp only | split

def Fp.execMigrationComplete : Nat := 0x93763b0002700000000330130c0002000002888000015404400510000000000100000000000000000000000000000000000000400000000000000c00c000000054000000000015510400001
theorem execMigrationComplete_ev (s : State) :
    OutEv Fp.execMigrationComplete s (execMigrationComplete s) := by
  unfold execMigrationComplete
  repeat' first
    | with_reducible apply Ev.refl | with_reducible assumption | exact rfl
    | with_reducible apply Ev.seq (endMigration_ev ..) ?_ ?_ | with_reducible apply Ev.seq (settle_ev ..) ?_ ?_
    | with_reducible apply Ev.seq (switchTile_ev ..) ?_ ?_ | with_reducible apply OutEv.next | dsimp only
    | with_reducible refine Ev.ofPair (by assumption) ?_ | split

end Sys2Proof.Machine
end

