-- ==== Sys2Proof/Laws/EvTimeCmds.lean ====
section
/-! SUPPORT. What the operations of Machine/TimeCmds.lean may touch: one law for each, cited in place of unfolding it. The numbers are
sets of parts (Laws/Frame.lean, `Part.idx`). -/

set_option exponentiation.threshold 1024
set_option linter.unreachableTactic false
set_option linter.unusedTactic false

namespace Sys2Proof.Machine

def Fp.takeTc1 : Side → Nat
  | .module => 0x200000000100010400000000000000000100004005100000000001000000000000000000000000000000000000000000000000000040000000000000000000000000000000000
  | .endpoint => 0x200020800020000028880000000000000000000000000000000000000000000000000000000000000000000000000000080000000000000000000000000000000000
theorem takeTc1_ev {F : Nat} {s0 : State} (sd : Side) (p : Nat) (pkt : Packet) (op : BitVec 8) (f : State → State) (s : State) (hF : Sub (Fp.takeTc1 sd) F) (hf : ∀ x, Ev F x (f x)) (h0 : Ev F s0 s) :
    Ev F s0 (takeTc1 sd p pkt op f s) := by
  cases sd <;> (
    unfold takeTc1
    repeat' first
      | with_reducible apply Ev.refl | with_reducible assumption | exact rfl | exact Sub.trans' hF rfl
      | with_reducible apply Ev.seq (hf _) (Sub.refl _) ?_ | with_reducible apply Ev.seq (bump_ev _ _ _ _ ?_) ?_ ?_
      | with_reducible apply Ev.seq (consumeArrived_ev ..) ?_ ?_ | with_reducible apply Ev.ite ?_ ?_ | dsimp only
      | contradiction | split)

def Fp.execTimeSync : Side → Nat
  | .module => 0x200000000101010400000000000000000100004005100000000001000000001000400000000000000000000000000000000000000040000000000000000000000000000000000
  | .endpoint => 0x202020800020000028880000000000000000000000000000000000000000000000000000000000000000000000000000080000000000000000000000000000000000
theorem execTimeSync_ev (sd : Side) (p : Nat) (pkt : Packet) (stamp : Nat) (s : State) :
    OutEv (Fp.execTimeSync sd) s (execTimeSync sd p pkt stamp s) := by
  cases sd <;> (
    unfold execTimeSync
    repeat' first
      | with_reducible apply Ev.refl | with_reducible assumption | exact rfl
      | with_reducible apply Ev.seq (chooseLeaf_ev ..) ?_ ?_ | with_reducible apply Ev.seq (onExchange_ev ..) ?_ ?_
      | with_reducible apply Ev.seq (settleSource_ev ..) ?_ ?_
      | with_reducible apply takeTc1_ev _ _ _ _ _ _ ?_ (fun _ => ?_) ?_ | with_reducible apply OutEv.next | dsimp only
      | with_reducible refine Ev.ofPair (by assumption) ?_ | contradiction | split)

def Fp.execTimeFollow : Side → Nat
  | .module => 0x200000000101010400000000000000000100004005100000000001000000000000000000000000000000000000000000000000000040000000000000000000000000000000000
  | .endpoint => 0x202020800020000028880000000000000000000000000000000000000000000000000000000000000000000000000000080000000000000000000000000000000000
theorem execTimeFollow_ev (sd : Side) (p : Nat) (pkt : Packet) (s : State) :
    OutEv (Fp.execTimeFollow sd) s (execTimeFollow sd p pkt s) := by
  cases sd <;> (
    unfold execTimeFollow
    repeat' first
      | with_reducible apply Ev.refl | with_reducible assumption | exact rfl
      | with_reducible apply Ev.seq (onExchange_ev ..) ?_ ?_
      | with_reducible apply takeTc1_ev _ _ _ _ _ _ ?_ (fun _ => ?_) ?_ | with_reducible apply Ev.ite ?_ ?_
      | with_reducible apply OutEv.next | dsimp only | contradiction | split)

def Fp.execTimeDelayReq : Side → Nat
  | .module => 0x300000000100010400000000000000000100004005100000000001000000000000000000000000000000000000000000000000000040000000000000000000000000000000000
  | .endpoint => 0x200020800020000028880000000000000000000000000000000000000000000000000000000000000000000000000000080000000000000000000000000000000000
theorem execTimeDelayReq_ev (sd : Side) (p : Nat) (pkt : Packet) (stamp : Nat) (s : State) :
    OutEv (Fp.execTimeDelayReq sd) s (execTimeDelayReq sd p pkt stamp s) := by
  cases sd <;> (
    unfold execTimeDelayReq
    repeat' first
      | with_reducible apply Ev.refl | with_reducible assumption | exact rfl
      | with_reducible apply Ev.seq (sendTime_ev ..) ?_ ?_ | with_reducible apply takeTc1_ev _ _ _ _ _ _ ?_ (fun _ => ?_) ?_
      | with_reducible apply OutEv.next | dsimp only | with_reducible refine Ev.ofPair (by assumption) ?_ | contradiction
      | split)

def Fp.execTimeDelayRsp : Side → Nat
  | .module => 0x200000000101410400000000000000000100004005100000000001000000001440400000000000000000000000000000000000000040000000000000000000000000000000000
  | .endpoint => 0x30000000000000000000202820800020000028880000000000000000000000000000000000000000000000000000000000000000000000000000080000000000000000000000000000000000
theorem execTimeDelayRsp_ev (sd : Side) (p : Nat) (pkt : Packet) (s : State) :
    OutEv (Fp.execTimeDelayRsp sd) s (execTimeDelayRsp sd p pkt s) := by
  cases sd <;> (
    unfold execTimeDelayRsp
    repeat' first
      | with_reducible apply Ev.refl | with_reducible assumption | exact rfl
      | with_reducible apply Ev.seq (onExchange_ev ..) ?_ ?_ | with_reducible apply Ev.seq (takeOffset_ev ..) ?_ ?_
      | with_reducible apply takeTc1_ev _ _ _ _ _ _ ?_ (fun _ => ?_) ?_ | with_reducible apply Ev.ite ?_ ?_
      | with_reducible apply OutEv.next | dsimp only | with_reducible refine Ev.ofPair (by assumption) ?_ | contradiction
      | split)

def Fp.execTimeSyncTimer : Side → Nat
  | .module => 0x300000000101010400000000000000000100004005100000000001000000001000400000000000000000000000000000000000000000000000000000000000000000000000000
  | .endpoint => 0x100000000002000800000000000000000000000000000000000000000000000000000000000000000000000000000000000000000000000000000000000000000000000000000
theorem execTimeSyncTimer_ev (sd : Side) (stamps : List (Nat × Nat)) (s : State) :
    OutEv (Fp.execTimeSyncTimer sd) s (execTimeSyncTimer sd stamps s) := by
  cases sd <;> (
    unfold execTimeSyncTimer
    repeat' first
      | with_reducible apply Ev.refl | with_reducible assumption | exact rfl
      | with_reducible apply Ev.seq (onSync_ev ..) ?_ ?_ | with_reducible apply Ev.seq (sendDelayReq_ev ..) ?_ ?_
      | with_reducible apply Ev.seq (sendTime_ev ..) ?_ ?_ | with_reducible apply Ev.seq (settleSource_ev ..) ?_ ?_
      | with_reducible apply Ev.ite ?_ ?_ | with_reducible apply Ev.foldl (fun _ _ => ?_) ?_
      | with_reducible apply Ev.foldlSnd (fun _ _ => ?_) ?_ | with_reducible apply OutEv.next | dsimp only
      | with_reducible refine Ev.ofPair (by assumption) ?_ | contradiction | split)

def Fp.ppsEdge : Nat := 0x8200000000101410000000000000000000100004005100000000001000000001440400000000000000000000000000000000000000000000000000000000000000000000000000
theorem ppsEdge_ev (stamp : Nat) (good : Bool) (tenMhz : Bool) (s : State) :
    Ev Fp.ppsEdge s (ppsEdge stamp good tenMhz s) := by
  unfold ppsEdge
  repeat' first
    | with_reducible apply Ev.refl | with_reducible assumption | exact rfl
    | with_reducible apply Ev.seq (wrb_ev _ _ _ _ _ ?_) ?_ ?_ | with_reducible apply Ev.seq (correctTime_ev ..) ?_ ?_
    | with_reducible apply Ev.seq (filterTime_ev ..) ?_ ?_ | with_reducible apply Ev.seq (logModule_ev ..) ?_ ?_
    | with_reducible apply Ev.seq (onTop_ev ..) ?_ ?_ | with_reducible apply Ev.seq (settleLock_ev ..) ?_ ?_
    | with_reducible apply Ev.seq (settleSource_ev ..) ?_ ?_ | with_reducible apply Ev.ite ?_ ?_ | dsimp only
    | with_reducible refine Ev.ofPair (by assumption) ?_ | split

def Fp.execPpsInEdge : Nat := 0x8200000000101410000000000000000000100004005100000000001000000001440400000000000000000000000000000000000000000000000000000000000000000000000000
theorem execPpsInEdge_ev (stamp : Nat) (good : Bool) (tenMhz : Bool) (s : State) :
    OutEv Fp.execPpsInEdge s (execPpsInEdge stamp good tenMhz s) := by
  unfold execPpsInEdge
  repeat' first
    | with_reducible apply Ev.refl | with_reducible assumption | exact rfl
    | with_reducible apply Ev.seq (ppsEdge_ev ..) ?_ ?_ | with_reducible apply OutEv.next | dsimp only | split

def Fp.execTimeSourceLoss : Nat := 0x200000000101010000000000000000000100004005100000000001000000001000400000000000000000000000000000000000000000000000000000000000000000000000000
theorem execTimeSourceLoss_ev (port : Option Nat) (s : State) :
    OutEv Fp.execTimeSourceLoss s (execTimeSourceLoss port s) := by
  unfold execTimeSourceLoss
  repeat' first
    | with_reducible apply Ev.refl | with_reducible assumption | exact rfl
    | with_reducible apply Ev.seq (wrb_ev _ _ _ _ _ ?_) ?_ ?_ | with_reducible apply Ev.seq (loseSource_ev ..) ?_ ?_
    | with_reducible apply Ev.seq (onExchange_ev ..) ?_ ?_ | with_reducible apply OutEv.next | dsimp only
    | with_reducible refine Ev.ofPair (by assumption) ?_ | split

def Fp.execHoldoverExpire : Nat := 0x200000000101010000000000000000000100004005100000000001040000001000400000000000000000000000000000000000000000000000000000000000000000000000000
theorem execHoldoverExpire_ev (s : State) :
    OutEv Fp.execHoldoverExpire s (execHoldoverExpire s) := by
  unfold execHoldoverExpire
  repeat' first
    | with_reducible apply Ev.refl | with_reducible assumption | exact rfl
    | with_reducible apply Ev.seq (enterTop_ev ..) ?_ ?_ | with_reducible apply Ev.seq (overridePolicy_ev ..) ?_ ?_
    | with_reducible apply Ev.seq (settleSource_ev ..) ?_ ?_ | with_reducible apply Ev.ite ?_ ?_
    | with_reducible apply OutEv.next | dsimp only | split

def Fp.setTime : Nat := 0x8200000000101410000000000000000000100004005100000000001000000000400400000000000000000000000000000000000000000000000000000000000000000000000000
theorem setTime_ev (atPps : Bool) (s : State) :
    Ev Fp.setTime s (setTime atPps s) := by
  unfold setTime
  repeat' first
    | with_reducible apply Ev.refl | with_reducible assumption | exact rfl
    | with_reducible apply Ev.seq (correctTime_ev ..) ?_ ?_ | with_reducible apply Ev.seq (onTop_ev ..) ?_ ?_
    | with_reducible apply Ev.ite ?_ ?_ | dsimp only | split

def Fp.execTopSetGo : Nat := 0x8200000000101410000000000000000000100004005100000000001000000000400400000000000000000000000000000000000000000000000000000000000000000000000000
theorem execTopSetGo_ev (atPps : Bool) (s : State) :
    OutEv Fp.execTopSetGo s (execTopSetGo atPps s) := by
  unfold execTopSetGo
  repeat' first
    | with_reducible apply Ev.refl | with_reducible assumption | exact rfl
    | with_reducible apply Ev.seq (setTime_ev ..) ?_ ?_ | with_reducible apply OutEv.next | dsimp only | split

def Fp.execGmChange : Nat := 0x8200000000101010000000000000000000100004005100000000001000000001000400000000000000000000000000000000000000000000000000000000000000000000000000
theorem execGmChange_ev (s : State) :
    OutEv Fp.execGmChange s (execGmChange s) := by
  unfold execGmChange
  repeat' first
    | with_reducible apply Ev.refl | with_reducible assumption | exact rfl
    | with_reducible apply Ev.seq (logModule_ev ..) ?_ ?_ | with_reducible apply Ev.seq (onTop_ev ..) ?_ ?_
    | with_reducible apply Ev.seq (settleSource_ev ..) ?_ ?_ | with_reducible apply Ev.ite ?_ ?_
    | with_reducible apply OutEv.next | dsimp only | split

def Fp.execSteppedExpire : Nat := 0x400000000000000000000000000000000000000000000000000000000000000000000000000
theorem execSteppedExpire_ev (s : State) :
    OutEv Fp.execSteppedExpire s (execSteppedExpire s) := by
  unfold execSteppedExpire
  repeat' first
    | with_reducible apply Ev.refl | with_reducible assumption | exact rfl
    | with_reducible apply Ev.seq (wrb_ev _ _ _ _ _ ?_) ?_ ?_ | with_reducible apply OutEv.next | dsimp only | split

def Fp.execGrandmasterTimeout : Nat := 0x2000000000000000000000000000000000000000000000000000000000000000000000000000000000000000000000000000000000000000000000000000000000
theorem execGrandmasterTimeout_ev (s : State) :
    OutEv Fp.execGrandmasterTimeout s (execGrandmasterTimeout s) := by
  unfold execGrandmasterTimeout
  repeat' first
    | with_reducible apply Ev.refl | with_reducible assumption | exact rfl
    | with_reducible apply Ev.seq (followLeaf_ev ..) ?_ ?_ | with_reducible apply Ev.seq (onSync_ev ..) ?_ ?_
    | with_reducible apply Ev.ite ?_ ?_ | with_reducible apply OutEv.next | dsimp only
    | with_reducible refine Ev.ofPair (by assumption) ?_ | split

def Fp.execTimeLost : Nat := 0x202020000020000028880000000000000000000000000000000000000000000000000000000000000000000000000000000000000000000000000000000000000000
theorem execTimeLost_ev (s : State) :
    OutEv Fp.execTimeLost s (execTimeLost s) := by
  unfold execTimeLost
  repeat' first
    | with_reducible apply Ev.refl | with_reducible assumption | exact rfl
    | with_reducible apply Ev.seq (logEndpoint_ev ..) ?_ ?_ | with_reducible apply Ev.seq (onSync_ev ..) ?_ ?_
    | with_reducible apply OutEv.next | dsimp only | split

def Fp.execFtValidExpire : Nat := 0x20000000000000000000200000000000000000080000000000000000000000000000000000000000000000000000000000000000000000000000000000000000000000000000000000000000
theorem execFtValidExpire_ev (s : State) :
    OutEv Fp.execFtValidExpire s (execFtValidExpire s) := by
  unfold execFtValidExpire
  repeat' first
    | with_reducible apply Ev.refl | with_reducible assumption | exact rfl
    | with_reducible apply Ev.seq (onE_ev _ _ ?_) (Sub.refl _) ?_
    | with_reducible apply Ev.seq (raiseVector_ev _ _ (by decide)) ?_ ?_ | with_reducible apply Ev.ite ?_ ?_
    | (constructor <;> first | exact .inl rfl | exact .inr rfl | exact rfl | exact fun h => h | exact fun _ => rfl)
    | with_reducible apply OutEv.next | dsimp only | split

end Sys2Proof.Machine
end

