-- ==== Sys2Proof/Laws/EvRegOps.lean ====
section
/-! SUPPORT. What the operations of Machine/RegOps.lean may touch: one law for each, cited in place of unfolding it. The numbers are
sets of parts (Laws/Frame.lean, `Part.idx`). -/

set_option exponentiation.threshold 1024
set_option linter.unreachableTactic false
set_option linter.unusedTactic false

namespace Sys2Proof.Machine

def Fp.afterRead : Side → Nat
  | .module => 0x4000000000000000000000000000000000000000000000000000000000000000000000000000000000000000000000000000000000000
  | .endpoint => 0x4000000000000000000000000000000000000000000000000000000000000000000000000000000000000000000000000000000000000
theorem afterRead_ev (sd : Side) (a : Nat) (s : State) :
    Ev (Fp.afterRead sd) s (afterRead sd a s) := by
  cases sd <;> (
    unfold afterRead
    repeat' first
      | with_reducible apply Ev.refl | with_reducible assumption | exact rfl
      | with_reducible apply Ev.seq (wrb_ev _ _ _ _ _ ?_) ?_ ?_ | with_reducible apply Ev.ite ?_ ?_ | dsimp only
      | contradiction | split)

def Fp.putField : Side → Nat
  | .module => 0x200000000100010000015555555555555555555555555555555555555555555555555555555555555555555555555555555555555555555555555555555555555555555555555
  | .endpoint => 0x20002000002aaaaaaaaaaaaaaaaaaaaaaaaaaaaaaaaaaaaaaaaaaaaaaaaaaaaaaaaaaaaaaaaaaaaaaaaaaaaaaaaaaaaaaaaaaaaaaaaaaaaaaaaaaaaaaaaaaaaaaaaa
theorem fields_word : ∀ r : Reg, (r.fields.all fun f => decide (f.word < 16)) = true := by
  intro r
  cases r <;> decide

theorem putField_bits (sd : Side) (r : Reg) : Sub (Part.reg sd r).bit (Fp.putField sd) := by
  cases sd <;> cases r <;> rfl

theorem field_listed (r : Reg) (f : FieldDesc) (h : f ∈ r.fields) : (⟨r, f.word, f.hi, f.lo⟩ : Field).listed = true := by
  have hw := (List.all_eq_true.1 (fields_word r)) f h
  simp only [Field.listed, Bool.and_eq_true, List.any_eq_true]
  exact ⟨hw, f, h, ⟨Nat.beq_refl _, Nat.beq_refl _⟩, Nat.beq_refl _⟩

theorem putField_ev (sd : Side) (a : Nat) (r : Reg) (i : Nat) (v : Word) (s : State) (f : FieldDesc) (h : f ∈ r.fields) :
    Ev (Fp.putField sd) s (putField sd a r i v s f) := by
  have hl := field_listed r f h
  have hw : f.word < 16 := of_decide_eq_true ((List.all_eq_true.1 (fields_word r)) f h)
  have key : ∀ x, Ev (Fp.putField sd) s (s.setWord sd r i f.word (withBits (s.word sd r i f.word) f.hi f.lo x)) := fun x =>
    Ev.mono (putField_bits sd r) (setWord_ev _ _ _ _ _ _ hw fun hz =>
      withBits_mask _ _ _ _ _ (hz sd r i f.word hw) (definedBits_covers _ hl))
  have log : ∀ x, Ev (Fp.putField sd) s (regAccess sd a x s) := fun x => by
    refine Ev.mono ?_ (regAccess_ev ..)
    cases sd <;> rfl
  unfold putField
  dsimp only
  split
  · exact Ev.refl _
  · exact Ev.refl _
  · exact Ev.ite (key _) (log _)
  · exact Ev.ite (key _) (log _)
  · exact key _
  · exact key _

def Fp.putCounter : Side → Nat
  | .module => 0x15555555555555555555555555555555555555555555555555555555555555555555555555555555555555555555555555555555555555555555555555
  | .endpoint => 0x2aaaaaaaaaaaaaaaaaaaaaaaaaaaaaaaaaaaaaaaaaaaaaaaaaaaaaaaaaaaaaaaaaaaaaaaaaaaaaaaaaaaaaaaaaaaaaaaaaaaaaaaaaaaaaaaaaaaaaaaaa
theorem putCounter_bits (sd : Side) (r : Reg) : Sub (Part.reg sd r).bit (Fp.putCounter sd) := by
  cases sd <;> cases r <;> rfl

theorem putCounter_ev (sd : Side) (r : Reg) (i : Nat) (v : Word) (s : State) : Ev (Fp.putCounter sd) s (putCounter sd r i v s) := by
  unfold putCounter
  exact Ev.ite (Ev.mono (putCounter_bits sd r) (setWord_ev _ _ _ _ _ _ (by decide) zeroWord)) (Ev.refl _)

def Fp.putFields : Side → Nat
  | .module => 0x200200000000100010000015555555555555555555555555555555555555555555555555555555555555555555555555555555555555555555555555555555555555555555555555
  | .endpoint => 0x20002000002aaaaaaaaaaaaaaaaaaaaaaaaaaaaaaaaaaaaaaaaaaaaaaaaaaaaaaaaaaaaaaaaaaaaaaaaaaaaaaaaaaaaaaaaaaaaaaaaaaaaaaaaaaaaaaaaaaaaaaaaa
theorem putFields_ev (sd : Side) (path : Path) (a : Nat) (r : Reg) (i w : Nat) (v : Word) (keep : FieldDesc → Bool) (s : State) :
    Ev (Fp.putFields sd) s (putFields sd path a r i w v keep s) := by
  have hsub : Sub (Fp.putField sd) (Fp.putFields sd) := by cases sd <;> rfl
  have hsub2 : Sub (Fp.putCounter sd) (Fp.putFields sd) := by cases sd <;> rfl
  have fold : ∀ (p : FieldDesc → Bool) t, Ev (Fp.putFields sd) t
      (((r.fields.filter fun f => decide (f.word = w) && keep f).filter p).foldl (putField sd a r i v) t) := fun p t =>
    Ev.foldlMem (fun u f hf => Ev.mono hsub (putField_ev _ _ _ _ _ _ _
      (List.mem_of_mem_filter (List.mem_of_mem_filter hf)))) (Ev.refl _)
  unfold putFields
  dsimp only
  split
  · exact Ev.mono hsub2 (putCounter_ev ..)
  · split
    · exact rwl_ev _ _ _ _ _ _ (by cases sd <;> rfl) (fun x => fold _ x) (fold _ _)
    · exact fold _ _

def Fp.putWord : Side → Nat
  | .module => 0x200200000000100010000015555555555555555555555555555555555555555555555555555555555555555555555555555555555555555555555555555555555555555555555555
  | .endpoint => 0x20002000002aaaaaaaaaaaaaaaaaaaaaaaaaaaaaaaaaaaaaaaaaaaaaaaaaaaaaaaaaaaaaaaaaaaaaaaaaaaaaaaaaaaaaaaaaaaaaaaaaaaaaaaaaaaaaaaaaaaaaaaaa
theorem putWord_ev (sd : Side) (path : Path) (a : Nat) (r : Reg) (i : Nat) (w : Nat) (v : Word) (s : State) :
    Ev (Fp.putWord sd) s (putWord sd path a r i w v s) := by
  cases sd <;> (
    unfold putWord
    repeat' first
      | with_reducible apply Ev.refl | with_reducible assumption | exact rfl
      | with_reducible apply Ev.seq (putFields_ev ..) ?_ ?_ | dsimp only | contradiction | split)

def Fp.disableLane : Side → Nat
  | .module => 0x80f00000000100110500000000000000000100045005100000000001000000000000000000000000000000000000000100000000000000000000000054450050041400000000000
  | .endpoint => 0xd8000000100000000220020a000200000288800000000000000000000000000000000000000000000000000000000000000000000000000000000000000000000a00a0082800000000000
theorem disableLane_ev (sd : Side) (n : Nat) (s : State) :
    Ev (Fp.disableLane sd) s (disableLane sd n s) := by
  cases sd <;> (
    unfold disableLane
    repeat' first
      | with_reducible apply Ev.refl | with_reducible assumption | exact rfl
      | with_reducible apply Ev.seq (wrb_ev _ _ _ _ _ ?_) ?_ ?_ | with_reducible apply Ev.seq (onLane_ev ..) ?_ ?_
      | with_reducible apply Ev.seq (laneLeaves_ev ..) ?_ ?_ | with_reducible apply Ev.seq (setLaneSt_ev ..) ?_ ?_
      | with_reducible apply Ev.ite ?_ ?_ | dsimp only | contradiction | split)

def Fp.writeLnkCtl : Side → Nat
  | .module => 0x282f00000000100114500015555555555555555555555555555555555555555555555555555555555555555555555555555555555555555555555555555555555555555555555555
  | .endpoint => 0xd8000000100000000220028a0002aaaaaaaaaaaaaaaaaaaaaaaaaaaaaaaaaaaaaaaaaaaaaaaaaaaaaaaaaaaaaaaaaaaaaaaaaaaaaaaaaaaaaaaaaaaaaaaaaaaaaaaaaaaaaaaaaaaaaaaaa
theorem writeLnkCtl_ev (sd : Side) (path : Path) (a : Nat) (n : Nat) (v : Word) (s : State) :
    Ev (Fp.writeLnkCtl sd) s (writeLnkCtl sd path a n v s) := by
  cases sd <;> (
    unfold writeLnkCtl
    repeat' first
      | with_reducible apply Ev.refl | with_reducible assumption | exact rfl
      | with_reducible apply Ev.seq (disableLane_ev ..) ?_ ?_ | with_reducible apply Ev.seq (enableLane_ev ..) ?_ ?_
      | with_reducible apply Ev.seq (flushCache_ev ..) ?_ ?_ | with_reducible apply Ev.seq (putFields_ev ..) ?_ ?_
      | with_reducible apply Ev.seq (retrainLane_ev ..) ?_ ?_ | with_reducible apply Ev.seq (spareNow_ev ..) ?_ ?_
      | with_reducible apply Ev.seq (writePower_ev ..) ?_ ?_ | with_reducible apply Ev.ite ?_ ?_ | dsimp only | contradiction
      | split)

def Fp.writePrtCtl : Side → Nat
  | .module => 0x280f00000000100110500015555555555555555555555555555555555555555555555555555555555555555555555555555555555555555555555555555555555555555555555555
  | .endpoint => 0xd8000000100000000220020a0002aaaaaaaaaaaaaaaaaaaaaaaaaaaaaaaaaaaaaaaaaaaaaaaaaaaaaaaaaaaaaaaaaaaaaaaaaaaaaaaaaaaaaaaaaaaaaaaaaaaaaaaaaaaaaaaaaaaaaaaaa
theorem writePrtCtl_ev (sd : Side) (path : Path) (a : Nat) (p : Nat) (v : Word) (s : State) :
    Ev (Fp.writePrtCtl sd) s (writePrtCtl sd path a p v s) := by
  cases sd <;> (
    unfold writePrtCtl
    repeat' first
      | with_reducible apply Ev.refl | with_reducible assumption | exact rfl
      | with_reducible apply Ev.seq (wr_ev _ _ _ _ _ ?_) ?_ ?_ | with_reducible apply Ev.seq (downCommand_ev ..) ?_ ?_
      | with_reducible apply Ev.seq (putFields_ev ..) ?_ ?_ | with_reducible apply Ev.seq (regAccess_ev ..) ?_ ?_
      | with_reducible apply rwl_ev _ _ _ _ _ _ ?_ (fun _ => ?_) ?_ | with_reducible apply Ev.ite ?_ ?_ | dsimp only
      | with_reducible refine Ev.ofPair (by assumption) ?_ | contradiction | split)

def Fp.writeEid : Nat := 0x200000000100010000000000000000000100004005100000000000000000000000000000000000000000000000000000000000000000000000000000000000000000000000004
theorem writeEid_ev (a : Nat) (v : Word) (s : State) :
    Ev Fp.writeEid s (writeEid a v s) := by
  unfold writeEid
  repeat' first
    | with_reducible apply Ev.refl | with_reducible assumption | exact rfl
    | with_reducible apply Ev.seq (wr_ev _ _ _ _ _ ?_) ?_ ?_ | with_reducible apply Ev.seq (regAccess_ev ..) ?_ ?_
    | with_reducible apply Ev.ite ?_ ?_ | dsimp only | split

def Fp.writeBringupCtl : Nat := 0x284f01080000110110500000000000000000100045005101010000001000000000000144000000000100000000000014100054000000000000001005054410054041015411050051
theorem writeBringupCtl_ev (path : Path) (a : Nat) (v : Word) (s : State) :
    Ev Fp.writeBringupCtl s (writeBringupCtl path a v s) := by
  unfold writeBringupCtl
  repeat' first
    | with_reducible apply Ev.refl | with_reducible assumption | exact rfl
    | with_reducible apply rwl_ev _ _ _ _ _ _ ?_ (fun _ => ?_) ?_ | with_reducible apply Ev.seq (startStep_ev ..) ?_ ?_
    | with_reducible apply Ev.seq (writeUnload_ev ..) ?_ ?_ | with_reducible apply Ev.ite ?_ ?_ | dsimp only | split

def Fp.writeReset : Nat := 0x93763b03fff0fcff000375575d0003555557ddd555555555555555555555555555555555555555555555555555555555555555555555555555555d55d555555555555555555555555555555
theorem writeReset_ev (a : Nat) (v : Word) (s : State) :
    Ev Fp.writeReset s (writeReset a v s) := by
  unfold writeReset
  repeat' first
    | with_reducible apply Ev.refl | with_reducible assumption | exact rfl
    | with_reducible apply Ev.seq (coldReset_ev ..) ?_ ?_ | with_reducible apply Ev.seq (regAccess_ev ..) ?_ ?_
    | with_reducible apply Ev.seq (restartPuppeteer_ev ..) ?_ ?_ | with_reducible apply Ev.seq (warmReset_ev ..) ?_ ?_
    | dsimp only | with_reducible refine Ev.ofPair (by assumption) ?_ | split

def Fp.writeRoleCmd : Nat := 0x100000000000083f0108f000310130d00020000028880000100045005100000000001000000000000044000000000000000000001004545544000000000000000000054510c50041015550400001
theorem writeRoleCmd_ev (a : Nat) (v : Word) (s : State) :
    Ev Fp.writeRoleCmd s (writeRoleCmd a v s) := by
  unfold writeRoleCmd
  repeat' first
    | with_reducible apply Ev.refl | with_reducible assumption | exact rfl
    | with_reducible apply Ev.seq (spendFree_ev ..) ?_ ?_ | with_reducible apply Ev.seq (fromSpare_ev ..) ?_ ?_
    | with_reducible apply Ev.seq (regAccess_ev ..) ?_ ?_ | with_reducible apply Ev.seq (retireCommand_ev ..) ?_ ?_
    | with_reducible apply roleCommand_ev _ _ _ _ ?_ (fun _ => ?_) ?_ | with_reducible apply Ev.seq (toSpare_ev ..) ?_ ?_
    | dsimp only | with_reducible refine Ev.ofPair (by assumption) ?_ | split

def Fp.writeRegion : Nat := 0x200f0000f000310130c0003555557ddd5555555555555555555555555555555555555555555555555555555555555555555555555555555555555555555555d55555555555555555
theorem writeRegion_ev (path : Path) (a : Nat) (i : Nat) (w : Nat) (v : Word) (s : State) :
    Ev Fp.writeRegion s (writeRegion path a i w v s) := by
  unfold writeRegion
  repeat' first
    | with_reducible apply Ev.refl | with_reducible assumption | exact rfl
    | with_reducible apply Ev.seq (clearRegion_ev ..) ?_ ?_ | with_reducible apply Ev.seq (putWord_ev ..) ?_ ?_
    | with_reducible apply Ev.ite ?_ ?_ | dsimp only | split

def Fp.forgetContext : Nat := 0x3200000000100010000000000000000000100004005100000000001000000000000000000000000000000410000054000000000000000000000000000000000000015050400001
theorem forgetContext_ev (n : Nat) (s : State) :
    Ev Fp.forgetContext s (forgetContext n s) := by
  unfold forgetContext
  repeat' first
    | with_reducible apply Ev.refl | with_reducible assumption | exact rfl
    | with_reducible apply Ev.seq (wr_ev _ _ _ _ _ ?_) ?_ ?_ | with_reducible apply Ev.seq (dropChunks_ev ..) ?_ ?_
    | with_reducible apply Ev.seq (onMrn_ev ..) ?_ ?_ | dsimp only | split

def Fp.writeMrnCtx : Nat := 0x203200000000100010000015555555555555555555555555555555555555555555555555555555555555555555555555555555555555555555555555555555555555555555555555
theorem writeMrnCtx_ev (path : Path) (a : Nat) (n : Nat) (w : Nat) (v : Word) (s : State) :
    Ev Fp.writeMrnCtx s (writeMrnCtx path a n w v s) := by
  unfold writeMrnCtx
  repeat' first
    | with_reducible apply Ev.refl | with_reducible assumption | exact rfl
    | with_reducible apply Ev.seq (wr_ev _ _ _ _ _ ?_) ?_ ?_ | with_reducible apply Ev.seq (forgetContext_ev ..) ?_ ?_
    | with_reducible apply Ev.seq (putWord_ev ..) ?_ ?_ | with_reducible apply Ev.seq (regAccess_ev ..) ?_ ?_
    | with_reducible apply Ev.ite ?_ ?_ | dsimp only | split

def Fp.writeEngCtl : Nat := 0x200200000000100010000015555555555555555555555555555555555555555555555555555555555555555555555555555555555555555555555555555555555555555555555555
theorem writeEngCtl_ev (path : Path) (a : Nat) (v : Word) (s : State) :
    Ev Fp.writeEngCtl s (writeEngCtl path a v s) := by
  unfold writeEngCtl
  repeat' first
    | with_reducible apply Ev.refl | with_reducible assumption | exact rfl
    | with_reducible apply Ev.seq (putWord_ev ..) ?_ ?_ | with_reducible apply Ev.seq (regAccess_ev ..) ?_ ?_
    | with_reducible apply Ev.ite ?_ ?_ | dsimp only | split

def Fp.writePupLoad : Nat := 0x100000000000000207000000100010000000000000000000100004005101000000000000000000000044000000000000000000000000000000000000000000000000000000000000000000000000
theorem writePupLoad_ev (a : Nat) (v : Word) (s : State) :
    Ev Fp.writePupLoad s (writePupLoad a v s) := by
  unfold writePupLoad
  repeat' first
    | with_reducible apply Ev.refl | with_reducible assumption | exact rfl
    | with_reducible apply Ev.seq (spendFree_ev ..) ?_ ?_ | with_reducible apply Ev.seq (loadProgram_ev ..) ?_ ?_
    | with_reducible apply Ev.seq (regAccess_ev ..) ?_ ?_ | with_reducible apply Ev.ite ?_ ?_ | dsimp only | split

def Fp.writeTopCtl : Nat := 0x208200000000101010000015555555555555555555555555555555555555555555555555555555555555555555555555555555555555555555555555555555555555555555555555
theorem writeTopCtl_ev (path : Path) (a : Nat) (v : Word) (s : State) :
    Ev Fp.writeTopCtl s (writeTopCtl path a v s) := by
  unfold writeTopCtl
  repeat' first
    | with_reducible apply Ev.refl | with_reducible assumption | exact rfl
    | with_reducible apply Ev.seq (onTop_ev ..) ?_ ?_ | with_reducible apply Ev.seq (putWord_ev ..) ?_ ?_
    | with_reducible apply Ev.seq (settleSource_ev ..) ?_ ?_ | dsimp only | split

def Fp.writeCapCtl : Nat := 0x100000000000010300000000100010500000000000000000100004005100000000001000405050000000000000004000000000000000000000000000000000000000000000000041000000000000
theorem writeCapCtl_ev (v : Word) (s : State) :
    Ev Fp.writeCapCtl s (writeCapCtl v s) := by
  unfold writeCapCtl
  repeat' first
    | with_reducible apply Ev.refl | with_reducible assumption | exact rfl
    | with_reducible apply Ev.seq (spendFree_ev ..) ?_ ?_ | with_reducible apply Ev.seq (writeCap_ev ..) ?_ ?_ | dsimp only
    | split

def Fp.writeBgCtl : Nat := 0x200200000000101010000015555555555555555555555555555555555555555555555555555555555555555555555555555555555555555555555555555555555555555555555555
theorem writeBgCtl_ev (path : Path) (a : Nat) (v : Word) (s : State) :
    Ev Fp.writeBgCtl s (writeBgCtl path a v s) := by
  unfold writeBgCtl
  repeat' first
    | with_reducible apply Ev.refl | with_reducible assumption | exact rfl
    | with_reducible apply Ev.seq (endOverride_ev ..) ?_ ?_ | with_reducible apply Ev.seq (putWord_ev ..) ?_ ?_
    | with_reducible apply Ev.seq (settleSource_ev ..) ?_ ?_ | with_reducible apply Ev.ite ?_ ?_ | dsimp only | split

def Fp.writeSlotCmd : Nat := 0x93763b004370140f000370130c0002000002888000015404400510400000104100000000000004400000000000000041000005400400000000000c00c000000054000000000015050400001
theorem writeSlotCmd_ev (a : Nat) (v : Word) (s : State) :
    Ev Fp.writeSlotCmd s (writeSlotCmd a v s) := by
  unfold writeSlotCmd
  repeat' first
    | with_reducible apply Ev.refl | with_reducible assumption | exact rfl
    | with_reducible apply Ev.seq (activateOrd_ev ..) ?_ ?_ | with_reducible apply Ev.seq (regAccess_ev ..) ?_ ?_
    | with_reducible apply Ev.seq (retireSlot_ev ..) ?_ ?_ | with_reducible apply Ev.seq (retireStatus_ev ..) ?_ ?_
    | dsimp only | with_reducible refine Ev.ofPair (by assumption) ?_ | split

def Fp.writeShadow : Nat := 0x280200000000100010000015555555555555555555555555555555555555555555555555555555555555555555555555555555555555555555555555555555555555555555555555
theorem writeShadow_ev (path : Path) (a : Nat) (e : Nat) (w : Nat) (v : Word) (s : State) :
    Ev Fp.writeShadow s (writeShadow path a e w v s) := by
  unfold writeShadow
  repeat' first
    | with_reducible apply Ev.refl | with_reducible assumption | exact rfl | decide | exact fullWord _ (by decide)
    | exact maskedWord (by decide) | exact zeroWord
    | exact fun hz => withBits_mask _ _ _ _ _ (hz _ _ _ _ (by decide)) (by decide)
    | with_reducible apply Ev.seq (wr_ev _ _ _ _ _ ?_) ?_ ?_
    | with_reducible apply Ev.seq (setWord_ev _ _ _ _ _ _ ?_ ?_) ?_ ?_ | with_reducible apply Ev.seq (onLive_ev ..) ?_ ?_
    | with_reducible apply Ev.seq (putWord_ev ..) ?_ ?_ | with_reducible apply Ev.ite ?_ ?_ | dsimp only | split

def Fp.writeRat : Nat := 0x200600000000100010000015555555555555555555555555555555555555555555555555555555555555555555555555555555555555555555555555555555555555555555555555
theorem writeRat_ev (test : Bool) (path : Path) (a : Nat) (r : Reg) (i : Nat) (w : Nat) (v : Word) (s : State) :
    Ev Fp.writeRat s (writeRat test path a r i w v s) := by
  unfold writeRat
  repeat' first
    | with_reducible apply Ev.refl | with_reducible assumption | exact rfl
    | with_reducible apply Ev.seq (onM_ev _ _ ?_) (Sub.refl _) ?_ | with_reducible apply Ev.seq (putWord_ev ..) ?_ ?_
    | with_reducible apply Ev.seq (regAccess_ev ..) ?_ ?_ | with_reducible apply Ev.ite ?_ ?_
    | (constructor <;> first | exact .inl rfl | exact .inr rfl | exact rfl | exact fun h => h | exact fun _ => rfl)
    | dsimp only | split

def Fp.writeModule : Nat := 0x1000093763b03fff0fcff000375575d0003555557ddd555555555555555555555555555555555555555555555555555555555555555555555555555555d55d555555555555d55555555555555555
theorem writeModule_ev (test : Bool) (path : Path) (a : Nat) (r : Reg) (i : Nat) (w : Nat) (v : Word) (s : State) :
    Ev Fp.writeModule s (writeModule test path a r i w v s) := by
  unfold writeModule
  repeat' first
    | with_reducible apply Ev.refl | with_reducible assumption | exact rfl
    | with_reducible apply Ev.seq (clearSlot_ev ..) ?_ ?_ | with_reducible apply Ev.seq (clearSources_ev ..) ?_ ?_
    | with_reducible apply Ev.seq (endProgram_ev ..) ?_ ?_ | with_reducible apply Ev.seq (keepXlats_ev ..) ?_ ?_
    | with_reducible apply Ev.seq (putWord_ev ..) ?_ ?_ | with_reducible apply Ev.seq (queryRecord_ev ..) ?_ ?_
    | with_reducible apply Ev.seq (regAccess_ev ..) ?_ ?_ | with_reducible apply Ev.seq (ringDoorbell_ev ..) ?_ ?_
    | with_reducible apply rwl_ev _ _ _ _ _ _ ?_ (fun _ => ?_) ?_ | with_reducible apply Ev.seq (setTime_ev ..) ?_ ?_
    | with_reducible apply Ev.seq (settlePool_ev ..) ?_ ?_ | with_reducible apply Ev.seq (writeBgCtl_ev ..) ?_ ?_
    | with_reducible apply Ev.seq (writeBringupCtl_ev ..) ?_ ?_ | with_reducible apply Ev.seq (writeCapCtl_ev ..) ?_ ?_
    | with_reducible apply Ev.seq (writeChead_ev ..) ?_ ?_ | with_reducible apply Ev.seq (writeDoorbell_ev ..) ?_ ?_
    | with_reducible apply Ev.seq (writeEid_ev ..) ?_ ?_ | with_reducible apply Ev.seq (writeEngCtl_ev ..) ?_ ?_
    | with_reducible apply Ev.seq (writeLnkCtl_ev ..) ?_ ?_ | with_reducible apply Ev.seq (writeMrnCtx_ev ..) ?_ ?_
    | with_reducible apply Ev.seq (writeNocCtl_ev ..) ?_ ?_ | with_reducible apply Ev.seq (writePeerReset_ev ..) ?_ ?_
    | with_reducible apply Ev.seq (writePlan_ev ..) ?_ ?_ | with_reducible apply Ev.seq (writePrtCtl_ev ..) ?_ ?_
    | with_reducible apply Ev.seq (writePupLoad_ev ..) ?_ ?_ | with_reducible apply Ev.seq (writeQr2_ev ..) ?_ ?_
    | with_reducible apply Ev.seq (writeRat_ev ..) ?_ ?_ | with_reducible apply Ev.seq (writeRegion_ev ..) ?_ ?_
    | with_reducible apply Ev.seq (writeReset_ev ..) ?_ ?_ | with_reducible apply Ev.seq (writeRoleCmd_ev ..) ?_ ?_
    | with_reducible apply Ev.seq (writeShadow_ev ..) ?_ ?_ | with_reducible apply Ev.seq (writeSlotCmd_ev ..) ?_ ?_
    | with_reducible apply Ev.seq (writeSnapCtl_ev ..) ?_ ?_ | with_reducible apply Ev.seq (writeTopCtl_ev ..) ?_ ?_
    | with_reducible apply Ev.ite ?_ ?_ | dsimp only | with_reducible refine Ev.ofPair (by assumption) ?_ | split

def Fp.writeFxeId : Nat := 0x2000200000200000a8880800000000000000000000000000000000000000000000000000000000000000000000000000000000000000000000000000000000000000
theorem writeFxeId_ev (path : Path) (a : Nat) (v : Word) (s : State) :
    Ev Fp.writeFxeId s (writeFxeId path a v s) := by
  unfold writeFxeId
  repeat' first
    | with_reducible apply Ev.refl | with_reducible assumption | exact rfl
    | with_reducible apply Ev.seq (wrb_ev _ _ _ _ _ ?_) ?_ ?_ | with_reducible apply Ev.seq (rwlDiscard_ev ..) ?_ ?_
    | with_reducible apply Ev.ite ?_ ?_ | dsimp only | with_reducible refine Ev.ofPair (by assumption) ?_ | split

def Fp.writeEpQueue : Nat := 0x80003b000000000000020002000002aaaaaaaaaaaaaaaaaaaaaaaaaaaaaaaaaaaaaaaaaaaaaaaaaaaaaaaaaaaaaaaaaaaaaaaaaaaaaaaaaaaaaaaaaaaaaaaaaaaaaaaaaaaaaaaaaaaaaaaaa
theorem writeEpQueue_ev (path : Path) (a : Nat) (r : Reg) (i : Nat) (w : Nat) (v : Word) (s : State) :
    Ev Fp.writeEpQueue s (writeEpQueue path a r i w v s) := by
  unfold writeEpQueue
  repeat' first
    | with_reducible apply Ev.refl | with_reducible assumption | exact rfl
    | with_reducible apply Ev.seq (pumpEpQueue_ev ..) ?_ ?_ | with_reducible apply Ev.seq (putWord_ev ..) ?_ ?_
    | with_reducible apply Ev.seq (qwr_ev _ _ _ _ ?_ ?_ ?_) ?_ ?_ | with_reducible apply Ev.ite ?_ ?_ | dsimp only | split

def Fp.forgetColl : Nat := 0x10000000000000000000000000000000000000000000000000000000000000000000000000000000000000000000000000000000000000000000000000000000000000000000000000000000
theorem forgetColl_ev (g : Nat) (s : State) :
    Ev Fp.forgetColl s (forgetColl g s) := by
  unfold forgetColl
  repeat' first
    | with_reducible apply Ev.refl | with_reducible assumption | exact rfl
    | with_reducible apply Ev.seq (onE_ev _ _ ?_) (Sub.refl _) ?_
    | (constructor <;> first | exact .inl rfl | exact .inr rfl | exact rfl | exact fun h => h | exact fun _ => rfl)
    | dsimp only | split

def Fp.writeEndpoint : Nat := 0x1ccd83b00003000000003200b8e0002aaaaaaaaaaaaabaaaaeaafbaaaaaaaaaabaaaaaaaaaaaaaaaaaaaaaaaaaaaaaaaaaaaaaaaaaaaaaaaaaaaaaaaaaaaaaaaaaaaaaeaaaaaaaaaaaaaaaaa
theorem writeEndpoint_ev (path : Path) (a : Nat) (r : Reg) (i : Nat) (w : Nat) (v : Word) (s : State) :
    Ev Fp.writeEndpoint s (writeEndpoint path a r i w v s) := by
  unfold writeEndpoint
  repeat' first
    | with_reducible apply Ev.refl | with_reducible assumption | exact rfl
    | with_reducible apply Ev.seq (domPending_ev ..) ?_ ?_ | with_reducible apply Ev.seq (domWrite_ev ..) ?_ ?_
    | with_reducible apply Ev.seq (forgetColl_ev ..) ?_ ?_ | with_reducible apply Ev.seq (putWord_ev ..) ?_ ?_
    | with_reducible apply Ev.seq (settlePlanes_ev ..) ?_ ?_ | with_reducible apply Ev.seq (writeEpQueue_ev ..) ?_ ?_
    | with_reducible apply Ev.seq (writeFxeId_ev ..) ?_ ?_ | with_reducible apply Ev.seq (writeLnkCtl_ev ..) ?_ ?_
    | with_reducible apply Ev.seq (writePeerReset_ev ..) ?_ ?_ | with_reducible apply Ev.seq (writePrtCtl_ev ..) ?_ ?_
    | with_reducible apply Ev.ite ?_ ?_ | dsimp only | with_reducible refine Ev.ofPair (by assumption) ?_ | split

def Fp.writeRegister : Side → Nat
  | .module => 0x1000093763b03fff0fcff000375575d0003555557ddd555555555555555555555555555555555555555555555555555555555555555555555555555555d55d555555555555d55555555555555555
  | .endpoint => 0x1dffe3b00007000000003301b8e0002aaaaaaaaaaaaabfeaeeaafbaaaaaaaaaabaaaaaaaaaaaaaaaaaaaaaaaaaaaaaaaaaaaaaaaaaaaaaaaaaaaaaeaaeaaaaaaafeaaaeaaaaaaaaaaaaaaaaa
theorem writeRegister_ev (sd : Side) (path : Path) (test : Bool) (a : Nat) (v : Word) (s : State) :
    Ev (Fp.writeRegister sd) s (writeRegister sd path test a v s) := by
  cases sd <;> (
    unfold writeRegister
    repeat' first
      | with_reducible apply Ev.refl | with_reducible assumption | exact rfl
      | with_reducible apply Ev.seq (regAccess_ev ..) ?_ ?_ | with_reducible apply Ev.seq (settleBoth_ev ..) ?_ ?_
      | with_reducible apply Ev.seq (writeEndpoint_ev ..) ?_ ?_ | with_reducible apply Ev.seq (writeModule_ev ..) ?_ ?_
      | with_reducible apply Ev.ite ?_ ?_ | dsimp only | with_reducible refine Ev.ofPair (by assumption) ?_ | contradiction
      | split)

def Fp.mailboxWrite : Nat := 0x40000000000000000000000000000000000000000000000000000000000000000000000000000000000000000000000000000000000000000000000000000000000000000000000
theorem mailboxWrite_ev (o : Nat) (data : List Byte) (s : State) :
    Ev Fp.mailboxWrite s (mailboxWrite o data s) := by
  unfold mailboxWrite
  repeat' first
    | with_reducible apply Ev.refl | with_reducible assumption | exact rfl
    | with_reducible apply Ev.seq (onSec_ev ..) ?_ ?_ | dsimp only | split

def Fp.writeBytes : Side → Nat
  | .module => 0x1000093763b03fff0fcff000375575d0003555557ddd555555555555555555555555555555555555555555555555555555555555555555555555555555d55d555555555555d55555555555555555
  | .endpoint => 0x1dffe3b00407000000003301b8e0002aaaaaaaaaaaaabfeaeeaafbaaaaaaaaaabaaaaaaaaaaaaaaaaaaaaaaaaaaaaaaaaaaaaaaaaaaaaaaaaaaaaaeaaeaaaaaaafeaaaeaaaaaaaaaaaaaaaaa
theorem writeBytes_ev (sd : Side) (path : Path) (a : Nat) (data : List Byte) (poisoned : Bool) (s : State) :
    Ev (Fp.writeBytes sd) s (writeBytes sd path a data poisoned s) := by
  cases sd <;> (
    unfold writeBytes
    repeat' first
      | with_reducible apply Ev.refl | with_reducible assumption | exact rfl
      | with_reducible apply Ev.seq (mailboxWrite_ev ..) ?_ ?_ | with_reducible apply Ev.seq (regAccess_ev ..) ?_ ?_
      | with_reducible apply Ev.seq (writeRegister_ev ..) ?_ ?_ | with_reducible apply Ev.ite ?_ ?_ | dsimp only
      | contradiction | split)

end Sys2Proof.Machine
end

