-- ==== Sys2Proof/Laws/EvRegCmds.lean ====
section
/-! SUPPORT. What the operations of Machine/RegCmds.lean may touch: one law for each, cited in place of unfolding it. The numbers are
sets of parts (Laws/Frame.lean, `Part.idx`). -/

set_option exponentiation.threshold 1024
set_option linter.unreachableTactic false
set_option linter.unusedTactic false

namespace Sys2Proof.Machine

def Fp.execRegisterWrite : Side → Nat
  | .module => 0x1000093763b03fff0fcff000375575d0003555557ddd555555555555555555555555555555555555555555555555555555555555555555555555555555d55d555555555555d55555555555555555
  | .endpoint => 0x1dffe3b00407000000003301b8e0002aaaaaaaaaaaaabfeaeeaafbaaaaaaaaaabaaaaaaaaaaaaaaaaaaaaaaaaaaaaaaaaaaaaaaaaaaaaaaaaaaaaaeaaeaaaaaaafeaaaeaaaaaaaaaaaaaaaaa
theorem execRegisterWrite_ev (sd : Side) (path : Path) (addr : Nat) (data : List Byte) (poisoned : Bool) (s : State) :
    OutEv (Fp.execRegisterWrite sd) s (execRegisterWrite sd path addr data poisoned s) := by
  cases sd <;> (
    unfold execRegisterWrite
    repeat' first
      | with_reducible apply Ev.refl | with_reducible assumption | exact rfl
      | with_reducible apply Ev.seq (writeBytes_ev ..) ?_ ?_ | with_reducible apply OutEv.next | dsimp only | contradiction
      | split)

def Fp.execRegRd : Nat := 0x200000000000000000000004000000000000000000000000000000000000000000000000000000000000000000000000000000000000000000000000000000000000
theorem execRegRd_ev (ctx : Nat) (atag : Nat) (offset : Nat) (size : Nat) (s : State) :
    OutEv Fp.execRegRd s (execRegRd ctx atag offset size s) := by
  unfold execRegRd
  repeat' first
    | with_reducible apply Ev.refl | with_reducible assumption | exact rfl
    | with_reducible apply Ev.seq (afterRead_ev ..) ?_ ?_ | with_reducible apply Ev.seq (xrDone_ev ..) ?_ ?_
    | with_reducible apply Ev.seq (xrStatus_ev ..) ?_ ?_ | with_reducible apply Ev.ite ?_ ?_
    | with_reducible apply OutEv.next | dsimp only | split

def Fp.execRegWr : Nat := 0x1fffe3b00007000000003301b8e0002aaaaaaaaaaaaabfeaeeaafbaaaaaaaaaabaaaaaaaaaaaaaaaaaaaaaaaaaaaaaaaaaaaaaaaaaaaaaaaaaaaaaeaaeaaaaaaafeaaaeaaaaaaaaaaaaaaaaa
theorem execRegWr_ev (ctx : Nat) (atag : Nat) (offset : Nat) (data : List Byte) (s : State) :
    OutEv Fp.execRegWr s (execRegWr ctx atag offset data s) := by
  unfold execRegWr
  repeat' first
    | with_reducible apply Ev.refl | with_reducible assumption | exact rfl
    | with_reducible apply Ev.seq (postTrig_ev ..) ?_ ?_ | with_reducible apply Ev.seq (writeRegister_ev ..) ?_ ?_
    | with_reducible apply Ev.seq (xrDone_ev ..) ?_ ?_ | with_reducible apply Ev.seq (xrStatus_ev ..) ?_ ?_
    | with_reducible apply Ev.ite ?_ ?_ | with_reducible apply OutEv.next | dsimp only | split

def Fp.execRegRead : Side → Nat
  | .module => 0x200000000100010000000000000000004100004005100040000001000000000000000000000000000000000000000000000000000000000000000000000000000000000000000
  | .endpoint => 0x200020000020000028880004000000000000080000000000000000000000000000000000000000000000000000000000000000000000000000000000000000000000
theorem execRegRead_ev (sd : Side) (session : Nat) (addr : Nat) (s : State) :
    OutEv (Fp.execRegRead sd) s (execRegRead sd session addr s) := by
  cases sd <;> (
    unfold execRegRead
    repeat' first
      | with_reducible apply Ev.refl | with_reducible assumption | exact rfl
      | with_reducible apply Ev.seq (afterRead_ev ..) ?_ ?_ | with_reducible apply Ev.seq (respond_ev ..) ?_ ?_
      | with_reducible apply withRole_ev _ _ _ _ _ _ ?_ (fun _ _ => ?_) ?_ | with_reducible apply OutEv.next | dsimp only
      | contradiction | split)

def Fp.execRegWrite : Side → Nat
  | .module => 0x1000093763b03fff0fcff000375575d0003555557ddd555555555555555555555555555555555555555555555555555555555555555555555555555555d55d555555555555d55555555555555555
  | .endpoint => 0x1dffe3b00007000000003301b8e0002aaaaaaaaaaaaabfeaeeaafbaaaaaaaaaabaaaaaaaaaaaaaaaaaaaaaaaaaaaaaaaaaaaaaaaaaaaaaaaaaaaaaeaaeaaaaaaafeaaaeaaaaaaaaaaaaaaaaa
theorem execRegWrite_ev (sd : Side) (session : Nat) (addr : Nat) (value : Word) (s : State) :
    OutEv (Fp.execRegWrite sd) s (execRegWrite sd session addr value s) := by
  cases sd <;> (
    unfold execRegWrite
    repeat' first
      | with_reducible apply Ev.refl | with_reducible assumption | exact rfl
      | with_reducible apply Ev.seq (regAccess_ev ..) ?_ ?_ | with_reducible apply Ev.seq (respond_ev ..) ?_ ?_
      | with_reducible apply withRole_ev _ _ _ _ _ _ ?_ (fun _ _ => ?_) ?_
      | with_reducible apply Ev.seq (writeRegister_ev ..) ?_ ?_ | with_reducible apply Ev.ite ?_ ?_
      | with_reducible apply OutEv.next | dsimp only | contradiction | split)

end Sys2Proof.Machine
end

