-- ==== Sys2Proof/Laws/EvResets.lean ====
section
/-! SUPPORT. What the operations of Machine/Resets.lean may touch: one law for each, cited in place of unfolding it. The numbers are
sets of parts (Laws/Frame.lean, `Part.idx`). -/

set_option exponentiation.threshold 1024
set_option linter.unreachableTactic false
set_option linter.unusedTactic false

namespace Sys2Proof.Machine

def Fp.execPowerOnReset : Nat := 0x3fff0fcff000155555500015555555555555555555555555555555555555555555555555555555555555555555555555555555555555555555555555555555555555555555555555
theorem execPowerOnReset_ev (s : State) :
    OutEv Fp.execPowerOnReset s (execPowerOnReset s) := by
  unfold execPowerOnReset
  repeat' first
    | with_reducible apply Ev.refl | with_reducible assumption | exact rfl
    | with_reducible apply Ev.seq (powerOn_ev ..) ?_ ?_ | with_reducible apply OutEv.next | dsimp only | split

def Fp.execPuppeteerBoot : Nat := 0x44200000000100010000000000000000004100004005101000000040000000000000000000000000000000000000000000000000000000000000000000000000000000000000040
theorem execPuppeteerBoot_ev (a : List Byte) (b : List Byte) (otp : OtpMap) (s : State) :
    OutEv Fp.execPuppeteerBoot s (execPuppeteerBoot a b otp s) := by
  unfold execPuppeteerBoot
  repeat' first
    | with_reducible apply Ev.refl | with_reducible assumption | exact rfl
    | with_reducible apply Ev.seq (bootPuppeteer_ev ..) ?_ ?_ | with_reducible apply OutEv.next | dsimp only | split

def Fp.execColdReset : Nat := 0x3fff0fcff000155555500015555555555555555555555555555555555555555555555555555555555555555555555555555555555555555555555555555555555555555555555555
theorem execColdReset_ev (fundamental : Bool) (s : State) :
    OutEv Fp.execColdReset s (execColdReset fundamental s) := by
  unfold execColdReset
  repeat' first
    | with_reducible apply Ev.refl | with_reducible assumption | exact rfl
    | with_reducible apply Ev.seq (coldReset_ev ..) ?_ ?_ | with_reducible apply OutEv.next | dsimp only | split

def Fp.execWarmReset : Nat := 0x93763b00b7f0bc86000375130d0003555557ddd555555555555555555555555555555555555555555555555555555555555555555555555555555d55d555555555555555555555555555555
theorem execWarmReset_ev (s : State) :
    OutEv Fp.execWarmReset s (execWarmReset s) := by
  unfold execWarmReset
  repeat' first
    | with_reducible apply Ev.refl | with_reducible assumption | exact rfl
    | with_reducible apply Ev.seq (warmReset_ev ..) ?_ ?_ | with_reducible apply OutEv.next | dsimp only | split

def Fp.execAutoWarmTimer : Nat := 0x93763b00b7f0bc86000375130d0003555557ddd555555555555555555555555555555555555555555555555555555555555555555555555555555d55d555555555555555555555555555555
theorem execAutoWarmTimer_ev (s : State) :
    OutEv Fp.execAutoWarmTimer s (execAutoWarmTimer s) := by
  unfold execAutoWarmTimer
  repeat' first
    | with_reducible apply Ev.refl | with_reducible assumption | exact rfl
    | with_reducible apply Ev.seq (warmReset_ev ..) ?_ ?_ | with_reducible apply Ev.ite ?_ ?_
    | with_reducible apply OutEv.next | dsimp only | split

def Fp.execFunctionReset : Nat := 0x40201c0f000110010000015555555555555555555555555555555555555555555555555555555555555555555555555555555555555555555555555555555555555555555555555
theorem execFunctionReset_ev (s : State) :
    OutEv Fp.execFunctionReset s (execFunctionReset s) := by
  unfold execFunctionReset
  repeat' first
    | with_reducible apply Ev.refl | with_reducible assumption | exact rfl
    | with_reducible apply Ev.seq (functionReset_ev ..) ?_ ?_ | with_reducible apply OutEv.next | dsimp only | split

def Fp.execPuppeteerReset : Nat := 0x200000000104010000000000000000004100004005140000000040000000000000000000000000000000000000000000000000000000000000000000000000000000000000000
theorem execPuppeteerReset_ev (s : State) :
    OutEv Fp.execPuppeteerReset s (execPuppeteerReset s) := by
  unfold execPuppeteerReset
  repeat' first
    | with_reducible apply Ev.refl | with_reducible assumption | exact rfl
    | with_reducible apply Ev.seq (restartPuppeteer_ev ..) ?_ ?_ | with_reducible apply OutEv.next | dsimp only | split

def Fp.execRstN : Nat := 0x7ffffff00000000000002aaaaaa0002aaaaaaaaaaaaaaaaaaaaaaaaaaaaaaaaaaaaaaaaaaaaaaaaaaaaaaaaaaaaaaaaaaaaaaaaaaaaaaaaaaaaaaaaaaaaaaaaaaaaaaaaaaaaaaaaaaaaaaaaa
theorem execRstN_regs : ∀ r : Reg, Fp.execRstN.testBit (Part.reg .endpoint r).idx = true := by
  intro r
  cases r <;> rfl

theorem execRstN_ev (s : State) : OutEv Fp.execRstN s (execRstN s) := by
  refine OutEv.next ⟨?_, ?_, rfl, rfl⟩
  · intro p hp
    cases p with
    | reg sd r =>
      cases sd
      · exact fun _ _ => rfl
      · rw [execRstN_regs] at hp; exact absurd hp (by decide)
    | unit sd u =>
      cases sd
      · cases u <;> rfl
      · cases u <;> exact absurd hp (by decide)
    | pool x => exact Part.Same.refl (.pool x) s
    | eng x => exact Part.Same.refl (.eng x) s
    | mod x => exact Part.Same.refl (.mod x) s
    | ep x => cases x <;> exact absurd hp (by decide)
    | free => rfl
  · intro h
    refine ⟨h.ddr, h.fast, h.mwin, h.scratch, ?_, ?_, ?_⟩
    · intro sd; cases sd
      · exact h.regs .module
      · rfl
    · intro sd; cases sd
      · exact h.time .module
      · exact show (0 : Nat) < 2 ^ 80 by decide
    · intro sd r i w hw; cases sd
      · exact h.reserved .module r i w hw
      · exact regReset_ok .endpoint r i w hw

def Fp.execPresentNBreak : Nat := 0x14300000000100010500000000000000000100004005100000000001000404040000000000000004000000000000000000000000000000000000000000000000041000000000000
theorem execPresentNBreak_ev (s : State) :
    OutEv Fp.execPresentNBreak s (execPresentNBreak s) := by
  unfold execPresentNBreak
  repeat' first
    | with_reducible apply Ev.refl | with_reducible assumption | exact rfl
    | with_reducible apply Ev.seq (powerLoss_ev ..) ?_ ?_ | with_reducible apply OutEv.next | dsimp only | split

def Fp.execCbl3v3Overload : Nat := 0x10000000000000000000000000000000000000000000000000000000000000000000000000000000000000000000000000000000000000000000000000000000000000000000000
theorem execCbl3v3Overload_ev (connector : Nat) (s : State) :
    OutEv Fp.execCbl3v3Overload s (execCbl3v3Overload connector s) := by
  unfold execCbl3v3Overload
  repeat' first
    | with_reducible apply Ev.refl | with_reducible assumption | exact rfl
    | with_reducible apply Ev.seq (onPower_ev ..) ?_ ?_ | with_reducible apply Ev.ite ?_ ?_
    | with_reducible apply OutEv.next | dsimp only | split

def Fp.flapPort : Nat := 0x80f00000000100110500000000000000000100045005100000000001000000000000000000000000000000000000000100000000000000000000000054410050041000000000000
theorem flapPort_ev (p : Nat) (s : State) :
    Ev Fp.flapPort s (flapPort p s) := by
  unfold flapPort
  repeat' first
    | with_reducible apply Ev.refl | with_reducible assumption | exact rfl
    | with_reducible apply Ev.seq (onM_ev _ _ ?_) (Sub.refl _) ?_ | with_reducible apply Ev.seq (portDown_ev ..) ?_ ?_
    | with_reducible apply Ev.seq (setLaneSt_ev ..) ?_ ?_ | with_reducible apply Ev.foldl (fun _ _ => ?_) ?_
    | with_reducible apply Ev.foldlSnd (fun _ _ => ?_) ?_
    | (constructor <;> first | exact .inl rfl | exact .inr rfl | exact rfl | exact fun h => h | exact fun _ => rfl)
    | dsimp only | split

def Fp.injectSram : Nat := 0x3f0100f000310130c00020000028880000100044005100000000001000000000000044000000000000000000001004445504000000000000000000054100c00000015050400001
theorem injectSram_ev (t : Nat) (bits : Nat) (items : TileItems) (s : State) :
    Ev Fp.injectSram s (injectSram t bits items s) := by
  unfold injectSram
  repeat' first
    | with_reducible apply Ev.refl | with_reducible assumption | exact rfl
    | with_reducible apply Ev.seq (saturate_ev _ _ _ _ _ ?_) ?_ ?_ | with_reducible apply Ev.seq (loseContents_ev ..) ?_ ?_
    | with_reducible apply Ev.ite ?_ ?_ | dsimp only | split

def Fp.injectDdr : Nat := 0x200004000100010000000000000000000100504005100000000001000000000000000000000000000000000000000000000000000000000000000000000000000000000000000
theorem injectDdr_ev (line : Nat) (bits : Nat) (s : State) :
    Ev Fp.injectDdr s (injectDdr line bits s) := by
  unfold injectDdr
  repeat' first
    | with_reducible apply Ev.refl | with_reducible assumption | exact rfl
    | with_reducible apply Ev.seq (bump_ev _ _ _ _ ?_) ?_ ?_
    | with_reducible apply Ev.seq (onPool_ev _ _ ?_) (Sub.refl _) ?_ | with_reducible apply Ev.ite ?_ ?_
    | (constructor <;> first | exact .inl rfl | exact .inr rfl | exact rfl | exact fun h => h | exact fun _ => rfl)
    | dsimp only | split

def Fp.intervalRule : Nat := 0x83f0100f000310130d00020000028880000100545005100000000001000000000000044000000000000000000001004545504000000000000000000054510c50041015050400001
theorem intervalRule_ev (items : TileItems) (line : Nat) (s : State) (i : Nat) :
    Ev Fp.intervalRule s (intervalRule items line s i) := by
  unfold intervalRule
  repeat' first
    | with_reducible apply Ev.refl | with_reducible assumption | exact rfl
    | with_reducible apply Ev.seq (flapPort_ev ..) ?_ ?_ | with_reducible apply Ev.seq (injectDdr_ev ..) ?_ ?_
    | with_reducible apply Ev.seq (injectSram_ev ..) ?_ ?_ | with_reducible apply Ev.seq (rattleCount_ev ..) ?_ ?_
    | with_reducible apply Ev.seq (rattleDraws_ev ..) ?_ ?_ | with_reducible apply Ev.ite ?_ ?_ | dsimp only
    | with_reducible refine Ev.ofPair (by assumption) ?_ | split

def Fp.execRattleInterval : Nat := 0x93763b0083f0100f000330130d0002000002888000015454500510000000000100000000000004400000000000000000000100454550400000000c00c000000054510c50041015050400001
theorem execRattleInterval_ev (items : TileItems) (line : Nat) (s : State) :
    OutEv Fp.execRattleInterval s (execRattleInterval items line s) := by
  unfold execRattleInterval
  repeat' first
    | with_reducible apply Ev.refl | with_reducible assumption | exact rfl
    | with_reducible apply Ev.seq (intervalRule_ev ..) ?_ ?_ | with_reducible apply Ev.seq (settle_ev ..) ?_ ?_
    | with_reducible apply Ev.foldl (fun _ _ => ?_) ?_ | with_reducible apply Ev.foldlSnd (fun _ _ => ?_) ?_
    | with_reducible apply OutEv.next | dsimp only | split

def Fp.execFlapDownExpire : Nat := 0x400000000000000100000000000000000000000000000000000000000000000000000000000000000000000000000000000000000000000000000000000000041000000000000
theorem execFlapDownExpire_ev (p : Nat) (s : State) :
    OutEv Fp.execFlapDownExpire s (execFlapDownExpire p s) := by
  unfold execFlapDownExpire
  repeat' first
    | with_reducible apply Ev.refl | with_reducible assumption | exact rfl
    | with_reducible apply Ev.seq (onM_ev _ _ ?_) (Sub.refl _) ?_ | with_reducible apply Ev.seq (enterDetect_ev ..) ?_ ?_
    | with_reducible apply Ev.foldl (fun _ _ => ?_) ?_ | with_reducible apply Ev.foldlSnd (fun _ _ => ?_) ?_
    | (constructor <;> first | exact .inl rfl | exact .inr rfl | exact rfl | exact fun h => h | exact fun _ => rfl)
    | with_reducible apply OutEv.next | dsimp only | with_reducible refine Ev.ofPair (by assumption) ?_ | split

end Sys2Proof.Machine
end

