-- ==== Sys2Proof/Laws/EvSpdm.lean ====
section
/-! SUPPORT. What the operations of Machine/Spdm.lean may touch: one law for each, cited in place of unfolding it. The numbers are
sets of parts (Laws/Frame.lean, `Part.idx`). -/

set_option exponentiation.threshold 1024
set_option linter.unreachableTactic false
set_option linter.unusedTactic false

namespace Sys2Proof.Machine

def Fp.answerOn : Side → Nat
  | .module => 0x0
  | .endpoint => 0x0
theorem answerOn_ev {F : Nat} {s0 : State} (sd : Side) (via : Via) (f : State → State) (s : State) (hF : Sub (Fp.answerOn sd) F) (hf : ∀ x, Ev F x (f x)) (h0 : Ev F s0 s) :
    Ev F s0 (answerOn sd via f s) := by
  cases sd <;> (
    unfold answerOn
    repeat' first
      | with_reducible apply Ev.refl | with_reducible assumption | exact rfl | exact Sub.trans' hF rfl
      | with_reducible apply Ev.seq (hf _) (Sub.refl _) ?_ | with_reducible apply Ev.ite ?_ ?_ | dsimp only | contradiction
      | split)

def Fp.execGetVersion : Side → Nat
  | .module => 0x100000000000000000000000000000000000000000000000000000000000000000000000000000000000000000000000000000000000000000000000000000000000
  | .endpoint => 0x200000000000000000000000000000000000000000000000000000000000000000000000000000000000000000000000000000000000000000000000000000000000
theorem execGetVersion_ev (sd : Side) (via : Via) (s : State) :
    OutEv (Fp.execGetVersion sd) s (execGetVersion sd via s) := by
  cases sd <;> (
    unfold execGetVersion
    repeat' first
      | with_reducible apply Ev.refl | with_reducible assumption | exact rfl
      | with_reducible apply answerOn_ev _ _ _ _ ?_ (fun _ => ?_) ?_ | with_reducible apply Ev.seq (respond_ev ..) ?_ ?_
      | with_reducible apply OutEv.next | dsimp only | contradiction | split)

def Fp.execGetCapabilities : Side → Nat
  | .module => 0x100000000000000000000000000000000000000000000000000000000000000000000000000000000000000000000000000000000000000000000000000000000000
  | .endpoint => 0x200000000000000000000000000000000000000000000000000000000000000000000000000000000000000000000000000000000000000000000000000000000000
theorem execGetCapabilities_ev (sd : Side) (via : Via) (s : State) :
    OutEv (Fp.execGetCapabilities sd) s (execGetCapabilities sd via s) := by
  cases sd <;> (
    unfold execGetCapabilities
    repeat' first
      | with_reducible apply Ev.refl | with_reducible assumption | exact rfl
      | with_reducible apply answerOn_ev _ _ _ _ ?_ (fun _ => ?_) ?_ | with_reducible apply Ev.seq (respond_ev ..) ?_ ?_
      | with_reducible apply OutEv.next | dsimp only | contradiction | split)

def Fp.execNegotiateAlgorithms : Side → Nat
  | .module => 0x104000000000000000000000000000000000000000000000000000000000000000000000000000000000000000000000000000000000000000000000000000000000
  | .endpoint => 0x208000000000000000000000000000000000000000000000000000000000000000000000000000000000000000000000000000000000000000000000000000000000
theorem execNegotiateAlgorithms_ev (sd : Side) (via : Via) (offers : List Nat) (s : State) :
    OutEv (Fp.execNegotiateAlgorithms sd) s (execNegotiateAlgorithms sd via offers s) := by
  cases sd <;> (
    unfold execNegotiateAlgorithms
    repeat' first
      | with_reducible apply Ev.refl | with_reducible assumption | exact rfl
      | with_reducible apply answerOn_ev _ _ _ _ ?_ (fun _ => ?_) ?_ | with_reducible apply Ev.seq (onMgmt_ev ..) ?_ ?_
      | with_reducible apply Ev.seq (respond_ev ..) ?_ ?_ | with_reducible apply Ev.ite ?_ ?_
      | with_reducible apply OutEv.next | dsimp only | contradiction | split)

def Fp.execGetDigests : Side → Nat
  | .module => 0x100000000000000000000000000000000000000000000000000000000000000000000000000000000000000000000000000000000000000000000000000000000000
  | .endpoint => 0x200000000000000000000000000000000000000000000000000000000000000000000000000000000000000000000000000000000000000000000000000000000000
theorem execGetDigests_ev (sd : Side) (via : Via) (s : State) :
    OutEv (Fp.execGetDigests sd) s (execGetDigests sd via s) := by
  cases sd <;> (
    unfold execGetDigests
    repeat' first
      | with_reducible apply Ev.refl | with_reducible assumption | exact rfl
      | with_reducible apply answerOn_ev _ _ _ _ ?_ (fun _ => ?_) ?_ | with_reducible apply Ev.seq (respond_ev ..) ?_ ?_
      | with_reducible apply OutEv.next | dsimp only | contradiction | split)

def Fp.execGetCertificate : Side → Nat
  | .module => 0x100000000000000000000000000000000000000000000000000000000000000000000000000000000000000000000000000000000000000000000000000000000000
  | .endpoint => 0x200000000000000000000000000000000000000000000000000000000000000000000000000000000000000000000000000000000000000000000000000000000000
theorem execGetCertificate_ev (sd : Side) (via : Via) (offset : Nat) (len : Nat) (s : State) :
    OutEv (Fp.execGetCertificate sd) s (execGetCertificate sd via offset len s) := by
  cases sd <;> (
    unfold execGetCertificate
    repeat' first
      | with_reducible apply Ev.refl | with_reducible assumption | exact rfl
      | with_reducible apply answerOn_ev _ _ _ _ ?_ (fun _ => ?_) ?_ | with_reducible apply Ev.seq (respond_ev ..) ?_ ?_
      | with_reducible apply OutEv.next | dsimp only | contradiction | split)

def Fp.execChallenge : Side → Nat
  | .module => 0x100000000000000000000000000000000000000000000000000000000000000000000000000000000000000000000000000000000000000000000000000000000000
  | .endpoint => 0x200000000000000000000000000000000000000000000000000000000000000000000000000000000000000000000000000000000000000000000000000000000000
theorem execChallenge_ev (sd : Side) (via : Via) (nonce : List Byte) (s : State) :
    OutEv (Fp.execChallenge sd) s (execChallenge sd via nonce s) := by
  cases sd <;> (
    unfold execChallenge
    repeat' first
      | with_reducible apply Ev.refl | with_reducible assumption | exact rfl
      | with_reducible apply answerOn_ev _ _ _ _ ?_ (fun _ => ?_) ?_ | with_reducible apply Ev.seq (respond_ev ..) ?_ ?_
      | with_reducible apply OutEv.next | dsimp only | contradiction | split)

def Fp.execGetMeasurements : Side → Nat
  | .module => 0x100000000000000000000000000000000000000000000000000000000000000000000000000000000000000000000000000000000000000000000000000000000000
  | .endpoint => 0x200000000000000000000000000000000000000000000000000000000000000000000000000000000000000000000000000000000000000000000000000000000000
theorem execGetMeasurements_ev (sd : Side) (via : Via) (index : Nat) (nonce : List Byte) (s : State) :
    OutEv (Fp.execGetMeasurements sd) s (execGetMeasurements sd via index nonce s) := by
  cases sd <;> (
    unfold execGetMeasurements
    repeat' first
      | with_reducible apply Ev.refl | with_reducible assumption | exact rfl
      | with_reducible apply answerOn_ev _ _ _ _ ?_ (fun _ => ?_) ?_ | with_reducible apply Ev.seq (respond_ev ..) ?_ ?_
      | with_reducible apply Ev.ite ?_ ?_ | with_reducible apply OutEv.next | dsimp only | contradiction | split)

def Fp.execKeyExchange : Side → Nat
  | .module => 0x104000000000000000000000000000000000000000040000000000000000000000000000000000000000000000000000000000000000000000000000000000000000
  | .endpoint => 0x208000000000000000000000000000000000000000000000000000000000000000000000000000000000000000000000000000000000000000000000000000000000
theorem execKeyExchange_ev (sd : Side) (via : Via) (share : List Byte) (s : State) :
    OutEv (Fp.execKeyExchange sd) s (execKeyExchange sd via share s) := by
  cases sd <;> (
    unfold execKeyExchange
    repeat' first
      | with_reducible apply Ev.refl | with_reducible assumption | exact rfl
      | with_reducible apply answerOn_ev _ _ _ _ ?_ (fun _ => ?_) ?_ | with_reducible apply Ev.seq (onMgmt_ev ..) ?_ ?_
      | with_reducible apply Ev.seq (respond_ev ..) ?_ ?_ | with_reducible apply Ev.seq (setSessions_ev ..) ?_ ?_
      | with_reducible apply Ev.ite ?_ ?_ | with_reducible apply OutEv.next | dsimp only | contradiction | split)

def Fp.execFinish : Side → Nat
  | .module => 0x104000000000000000000000000000000000000000040000000000000000000000000000000000000000000000000000000000000000000000000000000000000000
  | .endpoint => 0x208000000000000000000000000000000000000000000000000000000000000000000000000000000000000000000000000000000000000000000000000000000000
theorem execFinish_ev (sd : Side) (id : Nat) (key : List Byte) (signature : List Byte) (verify : List Byte) (s : State) :
    OutEv (Fp.execFinish sd) s (execFinish sd id key signature verify s) := by
  cases sd <;> (
    unfold execFinish
    repeat' first
      | with_reducible apply Ev.refl | with_reducible assumption | exact rfl
      | with_reducible apply Ev.seq (dropSession_ev ..) ?_ ?_ | with_reducible apply Ev.seq (putSession_ev ..) ?_ ?_
      | with_reducible apply Ev.seq (respond_ev ..) ?_ ?_ | with_reducible apply Ev.ite ?_ ?_
      | with_reducible apply OutEv.next | dsimp only | with_reducible refine Ev.ofPair (by assumption) ?_ | contradiction
      | split)

def Fp.execHeartbeat : Side → Nat
  | .module => 0x100000000000000000000000000000000000000000000000000000000000000000000000000000000000000000000000000000000000000000000000000000000000
  | .endpoint => 0x200000000000000000000000000000000000000000000000000000000000000000000000000000000000000000000000000000000000000000000000000000000000
theorem execHeartbeat_ev (sd : Side) (id : Nat) (s : State) :
    OutEv (Fp.execHeartbeat sd) s (execHeartbeat sd id s) := by
  cases sd <;> (
    unfold execHeartbeat
    repeat' first
      | with_reducible apply Ev.refl | with_reducible assumption | exact rfl
      | with_reducible apply Ev.seq (respond_ev ..) ?_ ?_ | with_reducible apply Ev.ite ?_ ?_
      | with_reducible apply OutEv.next | dsimp only | contradiction | split)

def Fp.execKeyUpdate : Side → Nat
  | .module => 0x104000000000000000000000000000000000000000040000000000000000000000000000000000000000000000000000000000000000000000000000000000000000
  | .endpoint => 0x208000000000000000000000000000000000000000000000000000000000000000000000000000000000000000000000000000000000000000000000000000000000
theorem execKeyUpdate_ev (sd : Side) (id : Nat) (s : State) :
    OutEv (Fp.execKeyUpdate sd) s (execKeyUpdate sd id s) := by
  cases sd <;> (
    unfold execKeyUpdate
    repeat' first
      | with_reducible apply Ev.refl | with_reducible assumption | exact rfl
      | with_reducible apply Ev.seq (putSession_ev ..) ?_ ?_ | with_reducible apply Ev.seq (respond_ev ..) ?_ ?_
      | with_reducible apply OutEv.next | dsimp only | with_reducible refine Ev.ofPair (by assumption) ?_ | contradiction
      | split)

def Fp.execEndSession : Side → Nat
  | .module => 0x104000000000000000000000000000000000000000040000000000000000000000000000000000000000000000000000000000000000000000000000000000000000
  | .endpoint => 0x208000000000000000000000000000000000000000000000000000000000000000000000000000000000000000000000000000000000000000000000000000000000
theorem execEndSession_ev (sd : Side) (id : Nat) (s : State) :
    OutEv (Fp.execEndSession sd) s (execEndSession sd id s) := by
  cases sd <;> (
    unfold execEndSession
    repeat' first
      | with_reducible apply Ev.refl | with_reducible assumption | exact rfl
      | with_reducible apply Ev.seq (dropSession_ev ..) ?_ ?_ | with_reducible apply Ev.seq (respond_ev ..) ?_ ?_
      | with_reducible apply OutEv.next | dsimp only | with_reducible refine Ev.ofPair (by assumption) ?_ | contradiction
      | split)

def Fp.setAssembly : Side → Nat
  | .module => 0x4000000000000000000000000000000000000000000000000000000000000000000000000000000000000000000000000000000000000000000000000000000000
  | .endpoint => 0x8000000000000000000000000000000000000000000000000000000000000000000000000000000000000000000000000000000000000000000000000000000000
theorem setAssembly_ev (sd : Side) (port : Nat) (rsp : Bool) (a : Option Assembly) (s : State) :
    Ev (Fp.setAssembly sd) s (setAssembly sd port rsp a s) := by
  cases sd <;> (
    unfold setAssembly
    repeat' first
      | with_reducible apply Ev.refl | with_reducible assumption | exact rfl
      | with_reducible apply Ev.seq (onMgmt_ev ..) ?_ ?_ | dsimp only | contradiction | split)

def Fp.takeSegment : Side → Nat
  | .module => 0x104000000000000000000000000000000000000000000000000000000000000000000000000000000000000000000000000000000000000000000000000000000000
  | .endpoint => 0x208000000000000000000000000000000000000000000000000000000000000000000000000000000000000000000000000000000000000000000000000000000000
theorem takeSegment_ev (sd : Side) (port : Nat) (p : Packet) (s : State) :
    Ev (Fp.takeSegment sd) s (takeSegment sd port p s) := by
  cases sd <;> (
    unfold takeSegment
    repeat' first
      | with_reducible apply Ev.refl | with_reducible assumption | exact rfl | with_reducible apply Ev.seq (emit_ev ..) ?_ ?_
      | with_reducible apply Ev.seq (onMgmt_ev ..) ?_ ?_ | with_reducible apply Ev.seq (setAssembly_ev ..) ?_ ?_
      | with_reducible apply Ev.ite ?_ ?_ | dsimp only | with_reducible refine Ev.ofPair (by assumption) ?_ | contradiction
      | split)

def Fp.execMgmtSegment : Side → Nat
  | .module => 0x200000000104010400000000000000000100004005100000000001000000000000000000000000000000000000000000000000000040000000000000000000000000000000000
  | .endpoint => 0x208020800020000028880000000000000000000000000000000000000000000000000000000000000000000000000000080000000000000000000000000000000000
theorem execMgmtSegment_ev (sd : Side) (port : Nat) (p : Packet) (s : State) :
    OutEv (Fp.execMgmtSegment sd) s (execMgmtSegment sd port p s) := by
  cases sd <;> (
    unfold execMgmtSegment
    repeat' first
      | with_reducible apply Ev.refl | with_reducible assumption | exact rfl
      | with_reducible apply Ev.seq (bump_ev _ _ _ _ ?_) ?_ ?_ | with_reducible apply Ev.seq (consumeArrived_ev ..) ?_ ?_
      | with_reducible apply Ev.seq (takeSegment_ev ..) ?_ ?_ | with_reducible apply Ev.ite ?_ ?_
      | with_reducible apply OutEv.next | dsimp only | contradiction | split)

end Sys2Proof.Machine
end

