-- ==== Sys2Proof/Laws/EvTick.lean ====
section
/-! SUPPORT. What the operations of Machine/Tick.lean may touch: one law for each, cited in place of unfolding it. The numbers are
sets of parts (Laws/Frame.lean, `Part.idx`). -/

set_option exponentiation.threshold 1024
set_option linter.unreachableTactic false
set_option linter.unusedTactic false

namespace Sys2Proof.Machine

def Fp.advance : Side → Nat
  | .module => 0x1400000000000000000000000000000000000000000000000000000000000000000000000000000000000000000000000000000000000000000000000000000000
  | .endpoint => 0x2800000000000000000000000000000000000000000000000000000000000000000000000000000000000000000000000000000000000000000000000000000000
theorem advance_ev (sd : Side) (s : State) :
    Ev (Fp.advance sd) s (advance sd s) := by
  cases sd <;> (
    unfold advance
    repeat' first
      | with_reducible apply Ev.refl | with_reducible assumption | exact rfl
      | with_reducible apply Ev.seq (addTime_ev ..) ?_ ?_ | with_reducible apply Ev.seq (onSync_ev ..) ?_ ?_ | dsimp only
      | contradiction | split)

def Fp.pulse : Nat := 0x100000000000000000000000000000000000000000000000000000000000000000000000000000000000000000000000000000000000000000000000000000000000
theorem pulse_ev (before : Nat) (s : State) :
    Ev Fp.pulse s (pulse before s) := by
  unfold pulse
  repeat' first
    | with_reducible apply Ev.refl | with_reducible assumption | exact rfl | with_reducible apply Ev.seq (emit_ev ..) ?_ ?_
    | with_reducible apply Ev.ite ?_ ?_ | dsimp only | split

end Sys2Proof.Machine
end

