-- ==== Sys2Proof/Laws/Exec.lean ====
section
/-! SUPPORT. What one command may touch, for all commands at once: the set of parts of its meaning, by constructor, and the law of exec
and of the tick. -/

set_option exponentiation.threshold 1024

namespace Sys2Proof.Machine

/-- The set of the parts that a command may touch. -/
def Fp.exec : Instr → Nat
  | .registerWrite side _ _ _ _ => Fp.execRegisterWrite side
  | .laneRetrain side _ _ => Fp.execLaneRetrain side
  | .cacheFlush side _ _ => Fp.execCacheFlush side
  | .spareNow side _ _ => Fp.execSpareNow side
  | .lanePowerRequest side _ _ _ => Fp.execLanePowerRequest side
  | .laneEnable side _ _ => Fp.execLaneEnable side
  | .farSignalDetected side _ => Fp.execFarSignalDetected side
  | .farSignalLost side _ => Fp.execFarSignalLost side
  | .controlBlock side _ _ _ => Fp.execControlBlock side
  | .tapRequestApply side _ => Fp.execTapRequestApply side
  | .trainingTimeout side _ => Fp.execTrainingTimeout side
  | .verifyEnd side _ _ => Fp.execVerifyEnd side
  | .handoverAccept side _ => Fp.execHandoverAccept side
  | .fastTimeout side _ => Fp.execFastTimeout side
  | .lnkPlanWrite _ _ _ => Fp.execLnkPlanWrite
  | .idAnnounce side _ _ => Fp.execIdAnnounce side
  | .idAnnounceTimer side _ => Fp.execIdAnnounceTimer side
  | .idAnnounceTimeout side _ => Fp.execIdAnnounceTimeout side
  | .errorRatioCheck side _ _ _ => Fp.execErrorRatioCheck side
  | .alignmentMarker side _ _ _ _ _ _ _ => Fp.execAlignmentMarker side
  | .laneCtl side _ _ => Fp.execLaneCtl side
  | .laneCtlTimeout side _ => Fp.execLaneCtlTimeout side
  | .sleepSignalLoss side _ => Fp.execSleepSignalLoss side
  | .laneWake side _ _ => Fp.execLaneWake side
  | .flitReceive side _ _ _ _ _ => Fp.execFlitReceive side
  | .retryReq side _ _ _ => Fp.execRetryReq side
  | .resync side _ _ _ => Fp.execResync side
  | .retryReqTimer side _ => Fp.execRetryReqTimer side
  | .replayTimeout side _ => Fp.execReplayTimeout side
  | .peerPortDown side _ => Fp.execPeerPortDown side
  | .portForm side _ => Fp.execPortForm side
  | .creditInit side _ _ => Fp.execCreditInit side
  | .laneFault side _ _ => Fp.execLaneFault side
  | .laneDrop side _ _ => Fp.execLaneDrop side
  | .laneAdd side _ _ => Fp.execLaneAdd side
  | .upconfigLaneReady side _ => Fp.execUpconfigLaneReady side
  | .laneRelease side _ _ => Fp.execLaneRelease side
  | .releaseAck side _ _ => Fp.execReleaseAck side
  | .portDownCmd side _ _ => Fp.execPortDownCmd side
  | .packetTransmit side _ _ => Fp.execPacketTransmit side
  | .packetIngress _ _ => Fp.execPacketIngress
  | .bufferRoomFreed _ => Fp.execBufferRoomFreed
  | .residueSend _ _ => Fp.execResidueSend
  | .reseqArrive _ _ => Fp.execReseqArrive
  | .reseqGapTimeout _ _ _ _ _ => Fp.execReseqGapTimeout
  | .nocRouterFault _ _ => Fp.execNocRouterFault
  | .nocPlaneDisable _ _ _ => Fp.execNocPlaneDisable
  | .packetAgeOut _ _ => Fp.execPacketAgeOut
  | .seqPacketSend side _ => Fp.execSeqPacketSend side
  | .seqPacketReceive side _ _ => Fp.execSeqPacketReceive side
  | .ackTimer side _ _ _ => Fp.execAckTimer side
  | .xptAck side _ _ => Fp.execXptAck side
  | .xptNack side _ _ => Fp.execXptNack side
  | .nackRetryTimer side _ _ _ => Fp.execNackRetryTimer side
  | .retransmitTimer side _ _ _ => Fp.execRetransmitTimer side
  | .xptRestart side _ _ => Fp.execXptRestart side
  | .planeUnusable side _ _ => Fp.execPlaneUnusable side
  | .planeSuspectExpire side _ _ => Fp.execPlaneSuspectExpire side
  | .homePlaneReturn side _ _ => Fp.execHomePlaneReturn side
  | .plannedBarrierDone side _ _ => Fp.execPlannedBarrierDone side
  | .xptPeerReset side _ => Fp.execXptPeerReset side
  | .xqLoad _ _ _ _ _ => Fp.execXqLoad
  | .xqLoadAcq _ _ _ _ _ => Fp.execXqLoadAcq
  | .xqStore _ _ _ _ _ => Fp.execXqStore
  | .xqStoreFlag _ _ _ _ _ => Fp.execXqStoreFlag
  | .xqAtomicInt _ _ _ _ _ _ => Fp.execXqAtomicInt
  | .xqAtomicFp _ _ _ _ _ _ => Fp.execXqAtomicFp
  | .xqReduceStore _ _ _ _ _ _ => Fp.execXqReduceStore
  | .fence _ _ => Fp.execFence
  | .fenceComplete side _ => Fp.execFenceComplete side
  | .rmInvAll _ _ => Fp.execRmInvAll
  | .cohRd _ _ _ _ => Fp.execCohRd
  | .cohRdown _ _ _ _ => Fp.execCohRdown
  | .cohWb _ _ _ _ => Fp.execCohWb
  | .cohEvict _ _ _ => Fp.execCohEvict
  | .regRd _ _ _ _ => Fp.execRegRd
  | .regWr _ _ _ _ => Fp.execRegWr
  | .load side _ _ => Fp.execLoad side
  | .loadAcq side _ _ => Fp.execLoadAcq side
  | .store side _ _ => Fp.execStore side
  | .storeFlag side _ _ => Fp.execStoreFlag side
  | .atomicInt side _ _ => Fp.execAtomicInt side
  | .atomicFp side _ _ => Fp.execAtomicFp side
  | .reduceStore side _ _ => Fp.execReduceStore side
  | .dmaWrite side _ _ => Fp.execDmaWrite side
  | .dmaReadReq side _ _ => Fp.execDmaReadReq side
  | .loadData side _ _ => Fp.execLoadData side
  | .storeAck side _ _ => Fp.execStoreAck side
  | .atomicResult side _ _ => Fp.execAtomicResult side
  | .reduceAck side _ _ => Fp.execReduceAck side
  | .dmaReadData side _ _ => Fp.execDmaReadData side
  | .loadTimeout side _ => Fp.execLoadTimeout side
  | .replayEntryExpire side _ _ _ => Fp.execReplayEntryExpire side
  | .rmLineExpire _ => Fp.execRmLineExpire
  | .rdShared _ _ => Fp.execRdShared
  | .rdOwn _ _ => Fp.execRdOwn
  | .upgrade _ _ => Fp.execUpgrade
  | .wb _ _ => Fp.execWb
  | .evict _ _ => Fp.execEvict
  | .recoverStart _ _ => Fp.execRecoverStart
  | .recoverDone _ _ => Fp.execRecoverDone
  | .snpRsp _ _ => Fp.execSnpRsp
  | .ack _ _ => Fp.execAck
  | .lineUnblock _ => Fp.execLineUnblock
  | .snpShared _ _ => Fp.execSnpShared
  | .snpInv _ _ => Fp.execSnpInv
  | .snpCur _ _ => Fp.execSnpCur
  | .binv _ _ => Fp.execBinv
  | .snpFlush _ _ => Fp.execSnpFlush
  | .go _ _ => Fp.execGo
  | .cmp _ _ => Fp.execCmp
  | .data _ _ => Fp.execData
  | .snoopTimeout _ _ _ => Fp.execSnoopTimeout
  | .recoverTimeout _ => Fp.execRecoverTimeout
  | .cohTimeout _ _ => Fp.execCohTimeout
  | .directoryFlush _ => Fp.execDirectoryFlush
  | .dirRegionClear _ _ _ _ => Fp.execDirRegionClear
  | .mirrorStoreDone => Fp.execMirrorStoreDone
  | .collDescriptor => Fp.execCollDescriptor
  | .collCancel => Fp.execCollCancel
  | .timedStart _ => Fp.execTimedStart
  | .chunkSend _ _ => Fp.execChunkSend
  | .collContrib _ _ => Fp.execCollContrib
  | .epilogueStart _ _ _ _ => Fp.execEpilogueStart
  | .epilogueCommit _ _ _ => Fp.execEpilogueCommit
  | .collResult side _ _ => Fp.execCollResult side
  | .collAbort side _ _ => Fp.execCollAbort side
  | .collResend side _ _ => Fp.execCollResend side
  | .collProbe _ _ _ => Fp.execCollProbe
  | .probeTimer _ _ => Fp.execProbeTimer
  | .chunkTimeout _ _ _ => Fp.execChunkTimeout
  | .collTimeout _ _ => Fp.execCollTimeout
  | .refusalBackoff side _ _ _ => Fp.execRefusalBackoff side
  | .partialHoldExpire _ _ _ => Fp.execPartialHoldExpire
  | .resultRetainExpire _ _ _ => Fp.execResultRetainExpire
  | .chunkRecordExpire _ _ _ => Fp.execChunkRecordExpire
  | .srcReadFail _ _ => Fp.execSrcReadFail
  | .dominoSeg _ _ => Fp.execDominoSeg
  | .trigPost _ _ _ => Fp.execTrigPost
  | .triggeredOpFire => Fp.execTriggeredOpFire
  | .triggeredOpComplete => Fp.execTriggeredOpComplete
  | .domCtrWrite _ _ => Fp.execDomCtrWrite
  | .dmaDoorbell _ _ => Fp.execDmaDoorbell
  | .dmaDescriptor _ => Fp.execDmaDescriptor
  | .dmaDescriptorDone _ => Fp.execDmaDescriptorDone
  | .queueFetchFail _ => Fp.execQueueFetchFail
  | .mrAnswer _ _ _ _ => Fp.execMrAnswer
  | .memTimeout _ _ => Fp.execMemTimeout
  | .srAnswer _ _ _ _ => Fp.execSrAnswer
  | .atomicLineWriteback _ => Fp.execAtomicLineWriteback
  | .planeDownWrite _ _ _ _ => Fp.execPlaneDownWrite
  | .powerGrant _ _ => Fp.execPowerGrant
  | .grantTimeout => Fp.execGrantTimeout
  | .powerReportTimer _ => Fp.execPowerReportTimer
  | .rstN => Fp.execRstN
  | .move _ _ => Fp.execMove
  | .fill _ => Fp.execFill
  | .writeImm _ => Fp.execWriteImm
  | .ctaLoadB _ _ => Fp.execCtaLoadB
  | .ctaMatmul _ _ => Fp.execCtaMatmul
  | .commandComplete _ _ => Fp.execCommandComplete
  | .atsTranslationCompletion _ _ _ _ _ => Fp.execAtsTranslationCompletion
  | .pageRequestResponse _ _ => Fp.execPageRequestResponse
  | .atsInvalidate _ _ _ _ => Fp.execAtsInvalidate
  | .invalidateDrained _ => Fp.execInvalidateDrained
  | .invalidateBound _ => Fp.execInvalidateBound
  | .atsFlush _ => Fp.execAtsFlush
  | .puppetLoad _ _ _ _ _ _ => Fp.execPuppetLoad
  | .puppetStore _ _ _ _ _ _ => Fp.execPuppetStore
  | .puppetLrAq _ _ _ _ _ _ => Fp.execPuppetLrAq
  | .puppetSc _ _ => Fp.execPuppetSc
  | .puppetAmo _ _ _ _ _ _ _ _ _ => Fp.execPuppetAmo
  | .pcas _ _ _ _ _ _ _ _ => Fp.execPcas
  | .puppetFence _ _ => Fp.execPuppetFence
  | .puppetAccessDone _ _ _ => Fp.execPuppetAccessDone
  | .puppetExit _ _ => Fp.execPuppetExit
  | .pupLoad _ _ _ => Fp.execPupLoad
  | .pupKill _ _ => Fp.execPupKill
  | .puppetMsg _ _ _ => Fp.execPuppetMsg
  | .puppeteerBoot _ _ _ => Fp.execPuppeteerBoot
  | .pcieEnumeration _ => Fp.execPcieEnumeration
  | .fuseMapRead _ _ => Fp.execFuseMapRead
  | .imageLoad _ _ _ => Fp.execImageLoad
  | .tileBist _ _ _ => Fp.execTileBist
  | .nocTraining _ _ _ _ => Fp.execNocTraining
  | .ddr5Training _ _ _ _ => Fp.execDdr5Training
  | .serdesCalibration _ _ _ => Fp.execSerdesCalibration
  | .linkTraining _ => Fp.execLinkTraining
  | .topLock _ => Fp.execTopLock
  | .enable _ => Fp.execEnable
  | .bringupStepEnd => Fp.execBringupStepEnd
  | .bringupStepTimeout => Fp.execBringupStepTimeout
  | .unload => Fp.execUnload
  | .sramScrubPassEnd _ _ _ => Fp.execSramScrubPassEnd
  | .tileUe _ _ _ => Fp.execTileUe
  | .retire _ _ => Fp.execRetire
  | .toSpare _ => Fp.execToSpare
  | .fromSpare _ _ => Fp.execFromSpare
  | .toSpareTimeout => Fp.execToSpareTimeout
  | .migrationComplete => Fp.execMigrationComplete
  | .timeSync side _ _ _ => Fp.execTimeSync side
  | .timeFollow side _ _ => Fp.execTimeFollow side
  | .timeDelayReq side _ _ _ => Fp.execTimeDelayReq side
  | .timeDelayRsp side _ _ => Fp.execTimeDelayRsp side
  | .timeSyncTimer side _ => Fp.execTimeSyncTimer side
  | .ppsInEdge _ _ _ => Fp.execPpsInEdge
  | .timeSourceLoss _ => Fp.execTimeSourceLoss
  | .holdoverExpire => Fp.execHoldoverExpire
  | .topSetGo _ => Fp.execTopSetGo
  | .gmChange => Fp.execGmChange
  | .timeLost => Fp.execTimeLost
  | .capWrite _ _ _ => Fp.execCapWrite
  | .grantComputeTimer => Fp.execGrantComputeTimer
  | .grantRefreshTimer => Fp.execGrantRefreshTimer
  | .stageTimer => Fp.execStageTimer
  | .powerReport _ _ => Fp.execPowerReport
  | .violationCheck _ => Fp.execViolationCheck
  | .reportTimeout _ => Fp.execReportTimeout
  | .epClear _ => Fp.execEpClear
  | .shedCorrectTimer _ => Fp.execShedCorrectTimer
  | .powerWarnN _ => Fp.execPowerWarnN
  | .inputSample _ _ _ => Fp.execInputSample
  | .uvLoss => Fp.execUvLoss
  | .thermalSample _ _ => Fp.execThermalSample
  | .thermalRecheck _ _ => Fp.execThermalRecheck
  | .snapCtl _ => Fp.execSnapCtl
  | .snapshotPublish => Fp.execSnapshotPublish
  | .telemetryPeriod _ => Fp.execTelemetryPeriod
  | .pauseLimitExpire _ => Fp.execPauseLimitExpire
  | .getVersion side _ => Fp.execGetVersion side
  | .getCapabilities side _ => Fp.execGetCapabilities side
  | .negotiateAlgorithms side _ _ => Fp.execNegotiateAlgorithms side
  | .getDigests side _ => Fp.execGetDigests side
  | .getCertificate side _ _ _ => Fp.execGetCertificate side
  | .challenge side _ _ => Fp.execChallenge side
  | .getMeasurements side _ _ _ => Fp.execGetMeasurements side
  | .keyExchange side _ _ => Fp.execKeyExchange side
  | .finish side _ _ _ _ => Fp.execFinish side
  | .heartbeat side _ => Fp.execHeartbeat side
  | .keyUpdate side _ => Fp.execKeyUpdate side
  | .endSession side _ => Fp.execEndSession side
  | .mgmtSegment side _ _ => Fp.execMgmtSegment side
  | .regRead side _ _ => Fp.execRegRead side
  | .regWrite side _ _ _ => Fp.execRegWrite side
  | .tokenAcquire _ _ => Fp.execTokenAcquire
  | .tokenRenew _ _ => Fp.execTokenRenew
  | .tokenRelease _ _ => Fp.execTokenRelease
  | .tokenExpired _ => Fp.execTokenExpired
  | .flashWrite _ _ _ => Fp.execFlashWrite
  | .credSet _ _ _ _ => Fp.execCredSet
  | .signerSet _ _ _ _ => Fp.execSignerSet
  | .rollbackRaise _ _ _ => Fp.execRollbackRaise
  | .keyLoad side _ _ _ _ _ _ _ => Fp.execKeyLoad side
  | .prevKeyExpire side _ => Fp.execPrevKeyExpire side
  | .activateOrd _ _ _ => Fp.execActivateOrd
  | .slotCmdActivateOrd _ _ => Fp.execSlotCmdActivateOrd
  | .slotRetire _ _ _ => Fp.execSlotRetire
  | .slotCmdRetire _ _ => Fp.execSlotCmdRetire
  | .drainExpire side _ => Fp.execDrainExpire side
  | .tenantRetired side _ => Fp.execTenantRetired side
  | .watchdogExpire => Fp.execWatchdogExpire
  | .mgtDoorbell _ => Fp.execMgtDoorbell
  | .mgtResponse _ => Fp.execMgtResponse
  | .evidenceClear _ _ => Fp.execEvidenceClear
  | .quarantineTimer _ => Fp.execQuarantineTimer
  | .vote _ _ _ _ _ => Fp.execVote
  | .decide _ _ _ _ _ _ => Fp.execDecide
  | .deadNotice side _ _ _ _ _ => Fp.execDeadNotice side
  | .liveNotice side _ _ _ _ _ => Fp.execLiveNotice side
  | .trayDown _ => Fp.execTrayDown
  | .coldReset _ => Fp.execColdReset
  | .warmReset => Fp.execWarmReset
  | .puppeteerReset => Fp.execPuppeteerReset
  | .functionReset => Fp.execFunctionReset
  | .powerOnReset => Fp.execPowerOnReset
  | .internalFatal _ _ => Fp.execInternalFatal
  | .autoWarmTimer => Fp.execAutoWarmTimer
  | .apertureRead _ _ => Fp.execApertureRead
  | .apertureWrite _ _ => Fp.execApertureWrite
  | .queueDoorbell _ _ => Fp.execQueueDoorbell
  | .cheadWrite _ _ => Fp.execCheadWrite
  | .queueEnable _ _ _ => Fp.execQueueEnable
  | .ringFetchDone _ _ => Fp.execRingFetchDone
  | .intStatusClear _ _ _ => Fp.execIntStatusClear
  | .interruptHoldoff _ => Fp.execInterruptHoldoff
  | .dStateChange _ => Fp.execDStateChange
  | .busMasterDisable => Fp.execBusMasterDisable
  | .presentNBreak => Fp.execPresentNBreak
  | .cbl3v3Overload _ => Fp.execCbl3v3Overload
  | .configurationWrite _ => Fp.execConfigurationWrite
  | .completionTimeout _ => Fp.execCompletionTimeout
  | .directoryScanEnd _ => Fp.execDirectoryScanEnd
  | .ftValidExpire => Fp.execFtValidExpire
  | .grandmasterTimeout => Fp.execGrandmasterTimeout
  | .steppedExpire => Fp.execSteppedExpire
  | .sleepControlBlock side _ => Fp.execSleepControlBlock side
  | .i3cAdminInstall _ _ => Fp.execI3cAdminInstall
  | .testArm _ _ => Fp.execTestArm
  | .debugAccessOpen _ => Fp.execDebugAccessOpen
  | .fullResSet _ _ => Fp.execFullResSet
  | .rspLenRead => Fp.execRspLenRead
  | .recordQuery _ _ => Fp.execRecordQuery
  | .snoopSlow _ => Fp.execSnoopSlow
  | .rattleInterval _ _ => Fp.execRattleInterval
  | .reorderHoldExpire _ => Fp.execReorderHoldExpire
  | .flapDownExpire _ => Fp.execFlapDownExpire
  | .vectorUnmask _ => Fp.execVectorUnmask

/-- Every command answers a next state that differs in those parts only, keeps the queue and the time and keeps the invariant. -/
theorem exec_ev (c : Instr) (s : State) : OutEv (Fp.exec c) s (exec c s) :=
  match c with
  | .registerWrite side path addr data poisoned => execRegisterWrite_ev side path addr data poisoned s
  | .laneRetrain side path lane => execLaneRetrain_ev side path lane s
  | .cacheFlush side path lane => execCacheFlush_ev side path lane s
  | .spareNow side path lane => execSpareNow_ev side path lane s
  | .lanePowerRequest side path lane power => execLanePowerRequest_ev side path lane power s
  | .laneEnable side path lane => execLaneEnable_ev side path lane s
  | .farSignalDetected side lane => execFarSignalDetected_ev side lane s
  | .farSignalLost side lane => execFarSignalLost_ev side lane s
  | .controlBlock side lane cb rx => execControlBlock_ev side lane cb rx s
  | .tapRequestApply side lane => execTapRequestApply_ev side lane s
  | .trainingTimeout side lane => execTrainingTimeout_ev side lane s
  | .verifyEnd side lane errors => execVerifyEnd_ev side lane errors s
  | .handoverAccept side lane => execHandoverAccept_ev side lane s
  | .fastTimeout side lane => execFastTimeout_ev side lane s
  | .lnkPlanWrite path lane value => execLnkPlanWrite_ev path lane value s
  | .idAnnounce side port p => execIdAnnounce_ev side port p s
  | .idAnnounceTimer side port => execIdAnnounceTimer_ev side port s
  | .idAnnounceTimeout side port => execIdAnnounceTimeout_ev side port s
  | .errorRatioCheck side lane errors bits => execErrorRatioCheck_ev side lane errors bits s
  | .alignmentMarker side lane m bipSeen spanPs errors bits wish => execAlignmentMarker_ev side lane m bipSeen spanPs errors bits wish s
  | .laneCtl side port p => execLaneCtl_ev side port p s
  | .laneCtlTimeout side lane => execLaneCtlTimeout_ev side lane s
  | .sleepSignalLoss side lane => execSleepSignalLoss_ev side lane s
  | .laneWake side lane spanPs => execLaneWake_ev side lane spanPs s
  | .flitReceive side port lane f uncorrectable corrected => execFlitReceive_ev side port lane f uncorrectable corrected s
  | .retryReq side port lane f => execRetryReq_ev side port lane f s
  | .resync side port lane f => execResync_ev side port lane f s
  | .retryReqTimer side port => execRetryReqTimer_ev side port s
  | .replayTimeout side port => execReplayTimeout_ev side port s
  | .peerPortDown side port => execPeerPortDown_ev side port s
  | .portForm side port => execPortForm_ev side port s
  | .creditInit side port grants => execCreditInit_ev side port grants s
  | .laneFault side lane slice => execLaneFault_ev side lane slice s
  | .laneDrop side port mask => execLaneDrop_ev side port mask s
  | .laneAdd side port mask => execLaneAdd_ev side port mask s
  | .upconfigLaneReady side lane => execUpconfigLaneReady_ev side lane s
  | .laneRelease side port mask => execLaneRelease_ev side port mask s
  | .releaseAck side port mask => execReleaseAck_ev side port mask s
  | .portDownCmd side path port => execPortDownCmd_ev side path port s
  | .packetTransmit side port pool => execPacketTransmit_ev side port pool s
  | .packetIngress port p => execPacketIngress_ev port p s
  | .bufferRoomFreed ix => execBufferRoomFreed_ev ix s
  | .residueSend port ix => execResidueSend_ev port ix s
  | .reseqArrive port p => execReseqArrive_ev port p s
  | .reseqGapTimeout port src dst stream epoch => execReseqGapTimeout_ev port src dst stream epoch s
  | .nocRouterFault plane router => execNocRouterFault_ev plane router s
  | .nocPlaneDisable path plane0 plane1 => execNocPlaneDisable_ev path plane0 plane1 s
  | .packetAgeOut port p => execPacketAgeOut_ev port p s
  | .seqPacketSend side id => execSeqPacketSend_ev side id s
  | .seqPacketReceive side port p => execSeqPacketReceive_ev side port p s
  | .ackTimer side src dst stream => execAckTimer_ev side src dst stream s
  | .xptAck side port p => execXptAck_ev side port p s
  | .xptNack side port p => execXptNack_ev side port p s
  | .nackRetryTimer side dst stream xseq => execNackRetryTimer_ev side dst stream xseq s
  | .retransmitTimer side dst stream xseq => execRetransmitTimer_ev side dst stream xseq s
  | .xptRestart side port p => execXptRestart_ev side port p s
  | .planeUnusable side dst plane => execPlaneUnusable_ev side dst plane s
  | .planeSuspectExpire side dst plane => execPlaneSuspectExpire_ev side dst plane s
  | .homePlaneReturn side dst stream => execHomePlaneReturn_ev side dst stream s
  | .plannedBarrierDone side dst stream => execPlannedBarrierDone_ev side dst stream s
  | .xptPeerReset side eid => execXptPeerReset_ev side eid s
  | .xqLoad ctx atag gfa len stream => execXqLoad_ev ctx atag gfa len stream s
  | .xqLoadAcq ctx atag gfa len stream => execXqLoadAcq_ev ctx atag gfa len stream s
  | .xqStore ctx atag gfa stream data => execXqStore_ev ctx atag gfa stream data s
  | .xqStoreFlag ctx atag gfa stream data => execXqStoreFlag_ev ctx atag gfa stream data s
  | .xqAtomicInt ctx atag gfa stream aop data => execXqAtomicInt_ev ctx atag gfa stream aop data s
  | .xqAtomicFp ctx atag gfa stream aop data => execXqAtomicFp_ev ctx atag gfa stream aop data s
  | .xqReduceStore ctx atag gfa stream aop data => execXqReduceStore_ev ctx atag gfa stream aop data s
  | .fence ctx atag => execFence_ev ctx atag s
  | .fenceComplete side ctx => execFenceComplete_ev side ctx s
  | .rmInvAll ctx atag => execRmInvAll_ev ctx atag s
  | .cohRd ctx atag gfa len => execCohRd_ev ctx atag gfa len s
  | .cohRdown ctx atag gfa len => execCohRdown_ev ctx atag gfa len s
  | .cohWb ctx atag gfa data => execCohWb_ev ctx atag gfa data s
  | .cohEvict ctx atag gfa => execCohEvict_ev ctx atag gfa s
  | .regRd ctx atag offset size => execRegRd_ev ctx atag offset size s
  | .regWr ctx atag offset data => execRegWr_ev ctx atag offset data s
  | .load side port p => execLoad_ev side port p s
  | .loadAcq side port p => execLoadAcq_ev side port p s
  | .store side port p => execStore_ev side port p s
  | .storeFlag side port p => execStoreFlag_ev side port p s
  | .atomicInt side port p => execAtomicInt_ev side port p s
  | .atomicFp side port p => execAtomicFp_ev side port p s
  | .reduceStore side port p => execReduceStore_ev side port p s
  | .dmaWrite side port p => execDmaWrite_ev side port p s
  | .dmaReadReq side port p => execDmaReadReq_ev side port p s
  | .loadData side port p => execLoadData_ev side port p s
  | .storeAck side port p => execStoreAck_ev side port p s
  | .atomicResult side port p => execAtomicResult_ev side port p s
  | .reduceAck side port p => execReduceAck_ev side port p s
  | .dmaReadData side port p => execDmaReadData_ev side port p s
  | .loadTimeout side tag => execLoadTimeout_ev side tag s
  | .replayEntryExpire side src stream xseq => execReplayEntryExpire_ev side src stream xseq s
  | .rmLineExpire gfa => execRmLineExpire_ev gfa s
  | .rdShared port p => execRdShared_ev port p s
  | .rdOwn port p => execRdOwn_ev port p s
  | .upgrade port p => execUpgrade_ev port p s
  | .wb port p => execWb_ev port p s
  | .evict port p => execEvict_ev port p s
  | .recoverStart port p => execRecoverStart_ev port p s
  | .recoverDone port p => execRecoverDone_ev port p s
  | .snpRsp port p => execSnpRsp_ev port p s
  | .ack port p => execAck_ev port p s
  | .lineUnblock line => execLineUnblock_ev line s
  | .snpShared port p => execSnpShared_ev port p s
  | .snpInv port p => execSnpInv_ev port p s
  | .snpCur port p => execSnpCur_ev port p s
  | .binv port p => execBinv_ev port p s
  | .snpFlush port p => execSnpFlush_ev port p s
  | .go port p => execGo_ev port p s
  | .cmp port p => execCmp_ev port p s
  | .data port p => execData_ev port p s
  | .snoopTimeout slot tseq line => execSnoopTimeout_ev slot tseq line s
  | .recoverTimeout slot => execRecoverTimeout_ev slot s
  | .cohTimeout leaf tseq => execCohTimeout_ev leaf tseq s
  | .directoryFlush tiles => execDirectoryFlush_ev tiles s
  | .dirRegionClear path n valid coherent => execDirRegionClear_ev path n valid coherent s
  | .mirrorStoreDone => execMirrorStoreDone_ev s
  | .collDescriptor => execCollDescriptor_ev s
  | .collCancel => execCollCancel_ev s
  | .timedStart id => execTimedStart_ev id s
  | .chunkSend g plane => execChunkSend_ev g plane s
  | .collContrib port p => execCollContrib_ev port p s
  | .epilogueStart ctx step chunk count => execEpilogueStart_ev ctx step chunk count s
  | .epilogueCommit ctx step chunk => execEpilogueCommit_ev ctx step chunk s
  | .collResult side port p => execCollResult_ev side port p s
  | .collAbort side port p => execCollAbort_ev side port p s
  | .collResend side port p => execCollResend_ev side port p s
  | .collProbe port p count => execCollProbe_ev port p count s
  | .probeTimer id chunk => execProbeTimer_ev id chunk s
  | .chunkTimeout ctx step chunk => execChunkTimeout_ev ctx step chunk s
  | .collTimeout id chunk => execCollTimeout_ev id chunk s
  | .refusalBackoff side unit step chunk => execRefusalBackoff_ev side unit step chunk s
  | .partialHoldExpire ctx step chunk => execPartialHoldExpire_ev ctx step chunk s
  | .resultRetainExpire ctx step chunk => execResultRetainExpire_ev ctx step chunk s
  | .chunkRecordExpire ctx step chunk => execChunkRecordExpire_ev ctx step chunk s
  | .srcReadFail id chunk => execSrcReadFail_ev id chunk s
  | .dominoSeg port p => execDominoSeg_ev port p s
  | .trigPost ctx atag data => execTrigPost_ev ctx atag data s
  | .triggeredOpFire => execTriggeredOpFire_ev s
  | .triggeredOpComplete => execTriggeredOpComplete_ev s
  | .domCtrWrite n value => execDomCtrWrite_ev n value s
  | .dmaDoorbell q tail => execDmaDoorbell_ev q tail s
  | .dmaDescriptor q => execDmaDescriptor_ev q s
  | .dmaDescriptorDone q => execDmaDescriptorDone_ev q s
  | .queueFetchFail q => execQueueFetchFail_ev q s
  | .mrAnswer half mtag status data => execMrAnswer_ev half mtag status data s
  | .memTimeout half mtag => execMemTimeout_ev half mtag s
  | .srAnswer stag dirty newState wb => execSrAnswer_ev stag dirty newState wb s
  | .atomicLineWriteback line => execAtomicLineWriteback_ev line s
  | .planeDownWrite path plane ix value => execPlaneDownWrite_ev path plane ix value s
  | .powerGrant port p => execPowerGrant_ev port p s
  | .grantTimeout => execGrantTimeout_ev s
  | .powerReportTimer report => execPowerReportTimer_ev report s
  | .rstN => execRstN_ev s
  | .move queue host => execMove_ev queue host s
  | .fill queue => execFill_ev queue s
  | .writeImm queue => execWriteImm_ev queue s
  | .ctaLoadB queue host => execCtaLoadB_ev queue host s
  | .ctaMatmul queue host => execCtaMatmul_ev queue host s
  | .commandComplete queue declined => execCommandComplete_ev queue declined s
  | .atsTranslationCompletion pasid page size read write => execAtsTranslationCompletion_ev pasid page size read write s
  | .pageRequestResponse group success => execPageRequestResponse_ev group success s
  | .atsInvalidate itag pasid lo hi => execAtsInvalidate_ev itag pasid lo hi s
  | .invalidateDrained itag => execInvalidateDrained_ev itag s
  | .invalidateBound itag => execInvalidateBound_ev itag s
  | .atsFlush path => execAtsFlush_ev path s
  | .puppetLoad core thread pc addr size pfeid => execPuppetLoad_ev core thread pc addr size pfeid s
  | .puppetStore core thread pc addr data pfeid => execPuppetStore_ev core thread pc addr data pfeid s
  | .puppetLrAq core thread pc addr size pfeid => execPuppetLrAq_ev core thread pc addr size pfeid s
  | .puppetSc core thread => execPuppetSc_ev core thread s
  | .puppetAmo core thread pc addr op data rl rdZero pfeid => execPuppetAmo_ev core thread pc addr op data rl rdZero pfeid s
  | .pcas core thread pc addr size swap pcmp pfeid => execPcas_ev core thread pc addr size swap pcmp pfeid s
  | .puppetFence core thread => execPuppetFence_ev core thread s
  | .puppetAccessDone core thread host => execPuppetAccessDone_ev core thread host s
  | .puppetExit core thread => execPuppetExit_ev core thread s
  | .pupLoad path value grant => execPupLoad_ev path value grant s
  | .pupKill path slot => execPupKill_ev path slot s
  | .puppetMsg port p room => execPuppetMsg_ev port p room s
  | .puppeteerBoot a b otp => execPuppeteerBoot_ev a b otp s
  | .pcieEnumeration up => execPcieEnumeration_ev up s
  | .fuseMapRead path fuse => execFuseMapRead_ev path fuse s
  | .imageLoad path image fields => execImageLoad_ev path image fields s
  | .tileBist path failing rows => execTileBist_ev path failing rows s
  | .nocTraining path ok0 ok1 image => execNocTraining_ev path ok0 ok1 image s
  | .ddr5Training path channels image ready => execDdr5Training_ev path channels image ready s
  | .serdesCalibration path reported bad => execSerdesCalibration_ev path reported bad s
  | .linkTraining path => execLinkTraining_ev path s
  | .topLock path => execTopLock_ev path s
  | .enable path => execEnable_ev path s
  | .bringupStepEnd => execBringupStepEnd_ev s
  | .bringupStepTimeout => execBringupStepTimeout_ev s
  | .unload => execUnload_ev s
  | .sramScrubPassEnd tile corrected items => execSramScrubPassEnd_ev tile corrected items s
  | .tileUe tile fault items => execTileUe_ev tile fault items s
  | .retire tile items => execRetire_ev tile items s
  | .toSpare tile => execToSpare_ev tile s
  | .fromSpare tile role => execFromSpare_ev tile role s
  | .toSpareTimeout => execToSpareTimeout_ev s
  | .migrationComplete => execMigrationComplete_ev s
  | .timeSync side port p stamp => execTimeSync_ev side port p stamp s
  | .timeFollow side port p => execTimeFollow_ev side port p s
  | .timeDelayReq side port p stamp => execTimeDelayReq_ev side port p stamp s
  | .timeDelayRsp side port p => execTimeDelayRsp_ev side port p s
  | .timeSyncTimer side stamps => execTimeSyncTimer_ev side stamps s
  | .ppsInEdge stamp good tenMhz => execPpsInEdge_ev stamp good tenMhz s
  | .timeSourceLoss port => execTimeSourceLoss_ev port s
  | .holdoverExpire => execHoldoverExpire_ev s
  | .topSetGo atPps => execTopSetGo_ev atPps s
  | .gmChange => execGmChange_ev s
  | .timeLost => execTimeLost_ev s
  | .capWrite path value power => execCapWrite_ev path value power s
  | .grantComputeTimer => execGrantComputeTimer_ev s
  | .grantRefreshTimer => execGrantRefreshTimer_ev s
  | .stageTimer => execStageTimer_ev s
  | .powerReport port p => execPowerReport_ev port p s
  | .violationCheck slot => execViolationCheck_ev slot s
  | .reportTimeout slot => execReportTimeout_ev slot s
  | .epClear slot => execEpClear_ev slot s
  | .shedCorrectTimer power => execShedCorrectTimer_ev power s
  | .powerWarnN low => execPowerWarnN_ev low s
  | .inputSample mv iin pin => execInputSample_ev mv iin pin s
  | .uvLoss => execUvLoss_ev s
  | .thermalSample sensor temp => execThermalSample_ev sensor temp s
  | .thermalRecheck sensor temp => execThermalRecheck_ev sensor temp s
  | .snapCtl groups => execSnapCtl_ev groups s
  | .snapshotPublish => execSnapshotPublish_ev s
  | .telemetryPeriod stream => execTelemetryPeriod_ev stream s
  | .pauseLimitExpire activity => execPauseLimitExpire_ev activity s
  | .getVersion side via => execGetVersion_ev side via s
  | .getCapabilities side via => execGetCapabilities_ev side via s
  | .negotiateAlgorithms side via offers => execNegotiateAlgorithms_ev side via offers s
  | .getDigests side via => execGetDigests_ev side via s
  | .getCertificate side via offset len => execGetCertificate_ev side via offset len s
  | .challenge side via nonce => execChallenge_ev side via nonce s
  | .getMeasurements side via index nonce => execGetMeasurements_ev side via index nonce s
  | .keyExchange side via share => execKeyExchange_ev side via share s
  | .finish side session key signature verify => execFinish_ev side session key signature verify s
  | .heartbeat side session => execHeartbeat_ev side session s
  | .keyUpdate side session => execKeyUpdate_ev side session s
  | .endSession side session => execEndSession_ev side session s
  | .mgmtSegment side port p => execMgmtSegment_ev side port p s
  | .regRead side session addr => execRegRead_ev side session addr s
  | .regWrite side session addr value => execRegWrite_ev side session addr value s
  | .tokenAcquire session group => execTokenAcquire_ev session group s
  | .tokenRenew session group => execTokenRenew_ev session group s
  | .tokenRelease session group => execTokenRelease_ev session group s
  | .tokenExpired group => execTokenExpired_ev group s
  | .flashWrite session b image => execFlashWrite_ev session b image s
  | .credSet session slot roles key => execCredSet_ev session slot roles key s
  | .signerSet session slot key revoke => execSignerSet_ev session slot key revoke s
  | .rollbackRaise session bootVersion imageVersion => execRollbackRaise_ev session bootVersion imageVersion s
  | .keyLoad side session slot epoch cls engineOk progOk wrapped => execKeyLoad_ev side session slot epoch cls engineOk progOk wrapped s
  | .prevKeyExpire side slot => execPrevKeyExpire_ev side slot s
  | .activateOrd session slot epoch => execActivateOrd_ev session slot epoch s
  | .slotCmdActivateOrd slot epoch => execSlotCmdActivateOrd_ev slot epoch s
  | .slotRetire session slot epoch => execSlotRetire_ev session slot epoch s
  | .slotCmdRetire slot epoch => execSlotCmdRetire_ev slot epoch s
  | .drainExpire side slot => execDrainExpire_ev side slot s
  | .tenantRetired side slot => execTenantRetired_ev side slot s
  | .watchdogExpire => execWatchdogExpire_ev s
  | .mgtDoorbell length => execMgtDoorbell_ev length s
  | .mgtResponse data => execMgtResponse_ev data s
  | .evidenceClear port bit => execEvidenceClear_ev port bit s
  | .quarantineTimer port => execQuarantineTimer_ev port s
  | .vote session proposal unit nonce shadow => execVote_ev session proposal unit nonce shadow s
  | .decide session proposal unit nonce ballots witness => execDecide_ev session proposal unit nonce ballots witness s
  | .deadNotice side session unit nonce ballots relayed => execDeadNotice_ev side session unit nonce ballots relayed s
  | .liveNotice side session unit nonce ballots relayed => execLiveNotice_ev side session unit nonce ballots relayed s
  | .trayDown tray => execTrayDown_ev tray s
  | .coldReset fundamental => execColdReset_ev fundamental s
  | .warmReset => execWarmReset_ev s
  | .puppeteerReset => execPuppeteerReset_ev s
  | .functionReset => execFunctionReset_ev s
  | .powerOnReset => execPowerOnReset_ev s
  | .internalFatal struct detail => execInternalFatal_ev struct detail s
  | .autoWarmTimer => execAutoWarmTimer_ev s
  | .apertureRead off len => execApertureRead_ev off len s
  | .apertureWrite off data => execApertureWrite_ev off data s
  | .queueDoorbell queue tail => execQueueDoorbell_ev queue tail s
  | .cheadWrite queue chead => execCheadWrite_ev queue chead s
  | .queueEnable path queue value => execQueueEnable_ev path queue value s
  | .ringFetchDone queue reply => execRingFetchDone_ev queue reply s
  | .intStatusClear path ix mask => execIntStatusClear_ev path ix mask s
  | .interruptHoldoff src => execInterruptHoldoff_ev src s
  | .dStateChange d3 => execDStateChange_ev d3 s
  | .busMasterDisable => execBusMasterDisable_ev s
  | .presentNBreak => execPresentNBreak_ev s
  | .cbl3v3Overload connector => execCbl3v3Overload_ev connector s
  | .configurationWrite w => execConfigurationWrite_ev w s
  | .completionTimeout what => execCompletionTimeout_ev what s
  | .directoryScanEnd slot => execDirectoryScanEnd_ev slot s
  | .ftValidExpire => execFtValidExpire_ev s
  | .grandmasterTimeout => execGrandmasterTimeout_ev s
  | .steppedExpire => execSteppedExpire_ev s
  | .sleepControlBlock side lane => execSleepControlBlock_ev side lane s
  | .i3cAdminInstall slot key => execI3cAdminInstall_ev slot key s
  | .testArm session on => execTestArm_ev session on s
  | .debugAccessOpen session => execDebugAccessOpen_ev session s
  | .fullResSet session on => execFullResSet_ev session on s
  | .rspLenRead => execRspLenRead_ev s
  | .recordQuery ctx chunk => execRecordQuery_ev ctx chunk s
  | .snoopSlow stag => execSnoopSlow_ev stag s
  | .rattleInterval items line => execRattleInterval_ev items line s
  | .reorderHoldExpire ix => execReorderHoldExpire_ev ix s
  | .flapDownExpire p => execFlapDownExpire_ev p s
  | .vectorUnmask vector => execVectorUnmask_ev vector s

/-! ## The tick -/

/-- The set of the parts that a nanosecond may touch. -/
def Fp.tick : Nat := (Fp.advance .module ||| Fp.advance .endpoint) ||| Fp.pulse

theorem Part.Same.now {p : Part} {s t : State} (n : Nat) (h : p.Same s t) : p.Same s { t with now := n } := by
  cases p with
  | reg sd r => cases sd <;> exact h
  | unit sd u => cases sd <;> exact h
  | pool p => exact h
  | eng p => exact h
  | mod p => exact h
  | ep p => exact h
  | free => exact h

theorem advance_both (s : State) :
    Ev (Fp.advance .module ||| Fp.advance .endpoint) s (advance .endpoint (advance .module s)) :=
  (advance_ev .endpoint _).seq (Sub.orRight _ _) ((advance_ev .module s).mono (Sub.orLeft _ _))

theorem tick_same (s : State) (p : Part) (h : Fp.tick.testBit p.idx = false) : p.Same s (tick s) := by
  have h1 := (advance_both s).same p ((Sub.orLeft _ Fp.pulse).out h)
  exact (h1.now _).trans ((pulse_ev _ _).same p ((Sub.orRight _ _).out h))

/-- A nanosecond keeps the invariant. -/
theorem tick_inv (s : State) (h : Inv s) : Inv (tick s) := by
  refine (pulse_ev _ _).inv (((advance_both s).inv h).congr rfl rfl ?_ ?_) <;> intro sd <;> cases sd <;> rfl

/-- A nanosecond moves the block's own clock on by one. -/
theorem tick_now (s : State) : (tick s).now = s.now + 1 := (pulse_ev _ _).now

/-- A nanosecond keeps the queue. -/
theorem tick_pending (s : State) : (tick s).pending = s.pending := (pulse_ev _ _).pending.trans (advance_both s).pending

theorem withPending_inv (s : State) (l : List Instr) (h : Inv s) : Inv { s with pending := l } :=
  h.congr rfl rfl (fun sd => by cases sd <;> rfl) (fun sd => by cases sd <;> rfl)

end Sys2Proof.Machine
end

