-- ==== Sys2Proof/Laws/Footprint.lean ====
section
/-! SUPPORT. The table of Footprint.lean beside the sets of parts of Laws/Exec.lean, and what a set of parts says of its list. -/

set_option exponentiation.threshold 1024
set_option maxRecDepth 100000
namespace Sys2Proof.Machine
/-- The table of Footprint.lean lists every part of the set that Laws/Exec.lean gives a command. -/
theorem touched_bits (c : Instr) : Sub (Fp.exec c) (bitsOfParts (touched c)) :=
  match c with
  | .registerWrite side _ _ _ _ => show Sub (Fp.execRegisterWrite side) (bitsOfParts (registerWriteTouches side)) by unfold Sub; cases side <;> decide
  | .laneRetrain side _ _ => show Sub (Fp.execLaneRetrain side) (bitsOfParts (laneRetrainTouches side)) by unfold Sub; cases side <;> decide
  | .cacheFlush side _ _ => show Sub (Fp.execCacheFlush side) (bitsOfParts (cacheFlushTouches side)) by unfold Sub; cases side <;> decide
  | .spareNow side _ _ => show Sub (Fp.execSpareNow side) (bitsOfParts (spareNowTouches side)) by unfold Sub; cases side <;> decide
  | .lanePowerRequest side _ _ _ => show Sub (Fp.execLanePowerRequest side) (bitsOfParts (lanePowerRequestTouches side)) by unfold Sub; cases side <;> decide
  | .laneEnable side _ _ => show Sub (Fp.execLaneEnable side) (bitsOfParts (laneEnableTouches side)) by unfold Sub; cases side <;> decide
  | .farSignalDetected side _ => show Sub (Fp.execFarSignalDetected side) (bitsOfParts (farSignalDetectedTouches side)) by unfold Sub; cases side <;> decide
  | .farSignalLost side _ => show Sub (Fp.execFarSignalLost side) (bitsOfParts (farSignalLostTouches side)) by unfold Sub; cases side <;> decide
  | .controlBlock side _ _ _ => show Sub (Fp.execControlBlock side) (bitsOfParts (controlBlockTouches side)) by unfold Sub; cases side <;> decide
  | .tapRequestApply side _ => show Sub (Fp.execTapRequestApply side) (bitsOfParts (tapRequestApplyTouches side)) by unfold Sub; cases side <;> decide
  | .trainingTimeout side _ => show Sub (Fp.execTrainingTimeout side) (bitsOfParts (trainingTimeoutTouches side)) by unfold Sub; cases side <;> decide
  | .verifyEnd side _ _ => show Sub (Fp.execVerifyEnd side) (bitsOfParts (verifyEndTouches side)) by unfold Sub; cases side <;> decide
  | .handoverAccept side _ => show Sub (Fp.execHandoverAccept side) (bitsOfParts (handoverAcceptTouches side)) by unfold Sub; cases side <;> decide
  | .fastTimeout side _ => show Sub (Fp.execFastTimeout side) (bitsOfParts (fastTimeoutTouches side)) by unfold Sub; cases side <;> decide
  | .lnkPlanWrite _ _ _ => show Sub Fp.execLnkPlanWrite (bitsOfParts lnkPlanWriteTouches) by unfold Sub; decide
  | .idAnnounce side _ _ => show Sub (Fp.execIdAnnounce side) (bitsOfParts (idAnnounceTouches side)) by unfold Sub; cases side <;> decide
  | .idAnnounceTimer side _ => show Sub (Fp.execIdAnnounceTimer side) (bitsOfParts (idAnnounceTimerTouches side)) by unfold Sub; cases side <;> decide
  | .idAnnounceTimeout side _ => show Sub (Fp.execIdAnnounceTimeout side) (bitsOfParts (idAnnounceTimeoutTouches side)) by unfold Sub; cases side <;> decide
  | .errorRatioCheck side _ _ _ => show Sub (Fp.execErrorRatioCheck side) (bitsOfParts (errorRatioCheckTouches side)) by unfold Sub; cases side <;> decide
  | .alignmentMarker side _ _ _ _ _ _ _ => show Sub (Fp.execAlignmentMarker side) (bitsOfParts (alignmentMarkerTouches side)) by unfold Sub; cases side <;> decide
  | .laneCtl side _ _ => show Sub (Fp.execLaneCtl side) (bitsOfParts (laneCtlTouches side)) by unfold Sub; cases side <;> decide
  | .laneCtlTimeout side _ => show Sub (Fp.execLaneCtlTimeout side) (bitsOfParts (laneCtlTimeoutTouches side)) by unfold Sub; cases side <;> decide
  | .sleepSignalLoss side _ => show Sub (Fp.execSleepSignalLoss side) (bitsOfParts (sleepSignalLossTouches side)) by unfold Sub; cases side <;> decide
  | .laneWake side _ _ => show Sub (Fp.execLaneWake side) (bitsOfParts (laneWakeTouches side)) by unfold Sub; cases side <;> decide
  | .flitReceive side _ _ _ _ _ => show Sub (Fp.execFlitReceive side) (bitsOfParts (flitReceiveTouches side)) by unfold Sub; cases side <;> decide
  | .retryReq side _ _ _ => show Sub (Fp.execRetryReq side) (bitsOfParts (retryReqTouches side)) by unfold Sub; cases side <;> decide
  | .resync side _ _ _ => show Sub (Fp.execResync side) (bitsOfParts (resyncTouches side)) by unfold Sub; cases side <;> decide
  | .retryReqTimer side _ => show Sub (Fp.execRetryReqTimer side) (bitsOfParts (retryReqTimerTouches side)) by unfold Sub; cases side <;> decide
  | .replayTimeout side _ => show Sub (Fp.execReplayTimeout side) (bitsOfParts (replayTimeoutTouches side)) by unfold Sub; cases side <;> decide
  | .peerPortDown side _ => show Sub (Fp.execPeerPortDown side) (bitsOfParts (peerPortDownTouches side)) by unfold Sub; cases side <;> decide
  | .portForm side _ => show Sub (Fp.execPortForm side) (bitsOfParts (portFormTouches side)) by unfold Sub; cases side <;> decide
  | .creditInit side _ _ => show Sub (Fp.execCreditInit side) (bitsOfParts (creditInitTouches side)) by unfold Sub; cases side <;> decide
  | .laneFault side _ _ => show Sub (Fp.execLaneFault side) (bitsOfParts (laneFaultTouches side)) by unfold Sub; cases side <;> decide
  | .laneDrop side _ _ => show Sub (Fp.execLaneDrop side) (bitsOfParts (laneDropTouches side)) by unfold Sub; cases side <;> decide
  | .laneAdd side _ _ => show Sub (Fp.execLaneAdd side) (bitsOfParts (laneAddTouches side)) by unfold Sub; cases side <;> decide
  | .upconfigLaneReady side _ => show Sub (Fp.execUpconfigLaneReady side) (bitsOfParts (upconfigLaneReadyTouches side)) by unfold Sub; cases side <;> decide
  | .laneRelease side _ _ => show Sub (Fp.execLaneRelease side) (bitsOfParts (laneReleaseTouches side)) by unfold Sub; cases side <;> decide
  | .releaseAck side _ _ => show Sub (Fp.execReleaseAck side) (bitsOfParts (releaseAckTouches side)) by unfold Sub; cases side <;> decide
  | .portDownCmd side _ _ => show Sub (Fp.execPortDownCmd side) (bitsOfParts (portDownCmdTouches side)) by unfold Sub; cases side <;> decide
  | .packetTransmit side _ _ => show Sub (Fp.execPacketTransmit side) (bitsOfParts (packetTransmitTouches side)) by unfold Sub; cases side <;> decide
  | .packetIngress _ _ => show Sub Fp.execPacketIngress (bitsOfParts packetIngressTouches) by unfold Sub; decide
  | .bufferRoomFreed _ => show Sub Fp.execBufferRoomFreed (bitsOfParts bufferRoomFreedTouches) by unfold Sub; decide
  | .residueSend _ _ => show Sub Fp.execResidueSend (bitsOfParts residueSendTouches) by unfold Sub; decide
  | .reseqArrive _ _ => show Sub Fp.execReseqArrive (bitsOfParts reseqArriveTouches) by unfold Sub; decide
  | .reseqGapTimeout _ _ _ _ _ => show Sub Fp.execReseqGapTimeout (bitsOfParts reseqGapTimeoutTouches) by unfold Sub; decide
  | .nocRouterFault _ _ => show Sub Fp.execNocRouterFault (bitsOfParts nocRouterFaultTouches) by unfold Sub; decide
  | .nocPlaneDisable _ _ _ => show Sub Fp.execNocPlaneDisable (bitsOfParts nocPlaneDisableTouches) by unfold Sub; decide
  | .packetAgeOut _ _ => show Sub Fp.execPacketAgeOut (bitsOfParts packetAgeOutTouches) by unfold Sub; decide
  | .seqPacketSend side _ => show Sub (Fp.execSeqPacketSend side) (bitsOfParts (seqPacketSendTouches side)) by unfold Sub; cases side <;> decide
  | .seqPacketReceive side _ _ => show Sub (Fp.execSeqPacketReceive side) (bitsOfParts (seqPacketReceiveTouches side)) by unfold Sub; cases side <;> decide
  | .ackTimer side _ _ _ => show Sub (Fp.execAckTimer side) (bitsOfParts (ackTimerTouches side)) by unfold Sub; cases side <;> decide
  | .xptAck side _ _ => show Sub (Fp.execXptAck side) (bitsOfParts (xptAckTouches side)) by unfold Sub; cases side <;> decide
  | .xptNack side _ _ => show Sub (Fp.execXptNack side) (bitsOfParts (xptNackTouches side)) by unfold Sub; cases side <;> decide
  | .nackRetryTimer side _ _ _ => show Sub (Fp.execNackRetryTimer side) (bitsOfParts (nackRetryTimerTouches side)) by unfold Sub; cases side <;> decide
  | .retransmitTimer side _ _ _ => show Sub (Fp.execRetransmitTimer side) (bitsOfParts (retransmitTimerTouches side)) by unfold Sub; cases side <;> decide
  | .xptRestart side _ _ => show Sub (Fp.execXptRestart side) (bitsOfParts (xptRestartTouches side)) by unfold Sub; cases side <;> decide
  | .planeUnusable side _ _ => show Sub (Fp.execPlaneUnusable side) (bitsOfParts (planeUnusableTouches side)) by unfold Sub; cases side <;> decide
  | .planeSuspectExpire side _ _ => show Sub (Fp.execPlaneSuspectExpire side) (bitsOfParts (planeSuspectExpireTouches side)) by unfold Sub; cases side <;> decide
  | .homePlaneReturn side _ _ => show Sub (Fp.execHomePlaneReturn side) (bitsOfParts (homePlaneReturnTouches side)) by unfold Sub; cases side <;> decide
  | .plannedBarrierDone side _ _ => show Sub (Fp.execPlannedBarrierDone side) (bitsOfParts (plannedBarrierDoneTouches side)) by unfold Sub; cases side <;> decide
  | .xptPeerReset side _ => show Sub (Fp.execXptPeerReset side) (bitsOfParts (xptPeerResetTouches side)) by unfold Sub; cases side <;> decide
  | .xqLoad _ _ _ _ _ => show Sub Fp.execXqLoad (bitsOfParts xqLoadTouches) by unfold Sub; decide
  | .xqLoadAcq _ _ _ _ _ => show Sub Fp.execXqLoadAcq (bitsOfParts xqLoadAcqTouches) by unfold Sub; decide
  | .xqStore _ _ _ _ _ => show Sub Fp.execXqStore (bitsOfParts xqStoreTouches) by unfold Sub; decide
  | .xqStoreFlag _ _ _ _ _ => show Sub Fp.execXqStoreFlag (bitsOfParts xqStoreFlagTouches) by unfold Sub; decide
  | .xqAtomicInt _ _ _ _ _ _ => show Sub Fp.execXqAtomicInt (bitsOfParts xqAtomicIntTouches) by unfold Sub; decide
  | .xqAtomicFp _ _ _ _ _ _ => show Sub Fp.execXqAtomicFp (bitsOfParts xqAtomicFpTouches) by unfold Sub; decide
  | .xqReduceStore _ _ _ _ _ _ => show Sub Fp.execXqReduceStore (bitsOfParts xqReduceStoreTouches) by unfold Sub; decide
  | .fence _ _ => show Sub Fp.execFence (bitsOfParts fenceTouches) by unfold Sub; decide
  | .fenceComplete side _ => show Sub (Fp.execFenceComplete side) (bitsOfParts (fenceCompleteTouches side)) by unfold Sub; cases side <;> decide
  | .rmInvAll _ _ => show Sub Fp.execRmInvAll (bitsOfParts rmInvAllTouches) by unfold Sub; decide
  | .cohRd _ _ _ _ => show Sub Fp.execCohRd (bitsOfParts cohRdTouches) by unfold Sub; decide
  | .cohRdown _ _ _ _ => show Sub Fp.execCohRdown (bitsOfParts cohRdownTouches) by unfold Sub; decide
  | .cohWb _ _ _ _ => show Sub Fp.execCohWb (bitsOfParts cohWbTouches) by unfold Sub; decide
  | .cohEvict _ _ _ => show Sub Fp.execCohEvict (bitsOfParts cohEvictTouches) by unfold Sub; decide
  | .regRd _ _ _ _ => show Sub Fp.execRegRd (bitsOfParts regRdTouches) by unfold Sub; decide
  | .regWr _ _ _ _ => show Sub Fp.execRegWr (bitsOfParts regWrTouches) by unfold Sub; decide
  | .load side _ _ => show Sub (Fp.execLoad side) (bitsOfParts (loadTouches side)) by unfold Sub; cases side <;> decide
  | .loadAcq side _ _ => show Sub (Fp.execLoadAcq side) (bitsOfParts (loadAcqTouches side)) by unfold Sub; cases side <;> decide
  | .store side _ _ => show Sub (Fp.execStore side) (bitsOfParts (storeTouches side)) by unfold Sub; cases side <;> decide
  | .storeFlag side _ _ => show Sub (Fp.execStoreFlag side) (bitsOfParts (storeFlagTouches side)) by unfold Sub; cases side <;> decide
  | .atomicInt side _ _ => show Sub (Fp.execAtomicInt side) (bitsOfParts (atomicIntTouches side)) by unfold Sub; cases side <;> decide
  | .atomicFp side _ _ => show Sub (Fp.execAtomicFp side) (bitsOfParts (atomicFpTouches side)) by unfold Sub; cases side <;> decide
  | .reduceStore side _ _ => show Sub (Fp.execReduceStore side) (bitsOfParts (reduceStoreTouches side)) by unfold Sub; cases side <;> decide
  | .dmaWrite side _ _ => show Sub (Fp.execDmaWrite side) (bitsOfParts (dmaWriteTouches side)) by unfold Sub; cases side <;> decide
  | .dmaReadReq side _ _ => show Sub (Fp.execDmaReadReq side) (bitsOfParts (dmaReadReqTouches side)) by unfold Sub; cases side <;> decide
  | .loadData side _ _ => show Sub (Fp.execLoadData side) (bitsOfParts (loadDataTouches side)) by unfold Sub; cases side <;> decide
  | .storeAck side _ _ => show Sub (Fp.execStoreAck side) (bitsOfParts (storeAckTouches side)) by unfold Sub; cases side <;> decide
  | .atomicResult side _ _ => show Sub (Fp.execAtomicResult side) (bitsOfParts (atomicResultTouches side)) by unfold Sub; cases side <;> decide
  | .reduceAck side _ _ => show Sub (Fp.execReduceAck side) (bitsOfParts (reduceAckTouches side)) by unfold Sub; cases side <;> decide
  | .dmaReadData side _ _ => show Sub (Fp.execDmaReadData side) (bitsOfParts (dmaReadDataTouches side)) by unfold Sub; cases side <;> decide
  | .loadTimeout side _ => show Sub (Fp.execLoadTimeout side) (bitsOfParts (loadTimeoutTouches side)) by unfold Sub; cases side <;> decide
  | .replayEntryExpire side _ _ _ => show Sub (Fp.execReplayEntryExpire side) (bitsOfParts (replayEntryExpireTouches side)) by unfold Sub; cases side <;> decide
  | .rmLineExpire _ => show Sub Fp.execRmLineExpire (bitsOfParts rmLineExpireTouches) by unfold Sub; decide
  | .rdShared _ _ => show Sub Fp.execRdShared (bitsOfParts rdSharedTouches) by unfold Sub; decide
  | .rdOwn _ _ => show Sub Fp.execRdOwn (bitsOfParts rdOwnTouches) by unfold Sub; decide
  | .upgrade _ _ => show Sub Fp.execUpgrade (bitsOfParts upgradeTouches) by unfold Sub; decide
  | .wb _ _ => show Sub Fp.execWb (bitsOfParts wbTouches) by unfold Sub; decide
  | .evict _ _ => show Sub Fp.execEvict (bitsOfParts evictTouches) by unfold Sub; decide
  | .recoverStart _ _ => show Sub Fp.execRecoverStart (bitsOfParts recoverStartTouches) by unfold Sub; decide
  | .recoverDone _ _ => show Sub Fp.execRecoverDone (bitsOfParts recoverDoneTouches) by unfold Sub; decide
  | .snpRsp _ _ => show Sub Fp.execSnpRsp (bitsOfParts snpRspTouches) by unfold Sub; decide
  | .ack _ _ => show Sub Fp.execAck (bitsOfParts ackTouches) by unfold Sub; decide
  | .lineUnblock _ => show Sub Fp.execLineUnblock (bitsOfParts lineUnblockTouches) by unfold Sub; decide
  | .snpShared _ _ => show Sub Fp.execSnpShared (bitsOfParts snpSharedTouches) by unfold Sub; decide
  | .snpInv _ _ => show Sub Fp.execSnpInv (bitsOfParts snpInvTouches) by unfold Sub; decide
  | .snpCur _ _ => show Sub Fp.execSnpCur (bitsOfParts snpCurTouches) by unfold Sub; decide
  | .binv _ _ => show Sub Fp.execBinv (bitsOfParts binvTouches) by unfold Sub; decide
  | .snpFlush _ _ => show Sub Fp.execSnpFlush (bitsOfParts snpFlushTouches) by unfold Sub; decide
  | .go _ _ => show Sub Fp.execGo (bitsOfParts goTouches) by unfold Sub; decide
  | .cmp _ _ => show Sub Fp.execCmp (bitsOfParts cmpTouches) by unfold Sub; decide
  | .data _ _ => show Sub Fp.execData (bitsOfParts dataTouches) by unfold Sub; decide
  | .snoopTimeout _ _ _ => show Sub Fp.execSnoopTimeout (bitsOfParts snoopTimeoutTouches) by unfold Sub; decide
  | .recoverTimeout _ => show Sub Fp.execRecoverTimeout (bitsOfParts recoverTimeoutTouches) by unfold Sub; decide
  | .cohTimeout _ _ => show Sub Fp.execCohTimeout (bitsOfParts cohTimeoutTouches) by unfold Sub; decide
  | .directoryFlush _ => show Sub Fp.execDirectoryFlush (bitsOfParts directoryFlushTouches) by unfold Sub; decide
  | .dirRegionClear _ _ _ _ => show Sub Fp.execDirRegionClear (bitsOfParts dirRegionClearTouches) by unfold Sub; decide
  | .mirrorStoreDone => show Sub Fp.execMirrorStoreDone (bitsOfParts mirrorStoreDoneTouches) by unfold Sub; decide
  | .collDescriptor => show Sub Fp.execCollDescriptor (bitsOfParts collDescriptorTouches) by unfold Sub; decide
  | .collCancel => show Sub Fp.execCollCancel (bitsOfParts collCancelTouches) by unfold Sub; decide
  | .timedStart _ => show Sub Fp.execTimedStart (bitsOfParts timedStartTouches) by unfold Sub; decide
  | .chunkSend _ _ => show Sub Fp.execChunkSend (bitsOfParts chunkSendTouches) by unfold Sub; decide
  | .collContrib _ _ => show Sub Fp.execCollContrib (bitsOfParts collContribTouches) by unfold Sub; decide
  | .epilogueStart _ _ _ _ => show Sub Fp.execEpilogueStart (bitsOfParts epilogueStartTouches) by unfold Sub; decide
  | .epilogueCommit _ _ _ => show Sub Fp.execEpilogueCommit (bitsOfParts epilogueCommitTouches) by unfold Sub; decide
  | .collResult side _ _ => show Sub (Fp.execCollResult side) (bitsOfParts (collResultTouches side)) by unfold Sub; cases side <;> decide
  | .collAbort side _ _ => show Sub (Fp.execCollAbort side) (bitsOfParts (collAbortTouches side)) by unfold Sub; cases side <;> decide
  | .collResend side _ _ => show Sub (Fp.execCollResend side) (bitsOfParts (collResendTouches side)) by unfold Sub; cases side <;> decide
  | .collProbe _ _ _ => show Sub Fp.execCollProbe (bitsOfParts collProbeTouches) by unfold Sub; decide
  | .probeTimer _ _ => show Sub Fp.execProbeTimer (bitsOfParts probeTimerTouches) by unfold Sub; decide
  | .chunkTimeout _ _ _ => show Sub Fp.execChunkTimeout (bitsOfParts chunkTimeoutTouches) by unfold Sub; decide
  | .collTimeout _ _ => show Sub Fp.execCollTimeout (bitsOfParts collTimeoutTouches) by unfold Sub; decide
  | .refusalBackoff side _ _ _ => show Sub (Fp.execRefusalBackoff side) (bitsOfParts (refusalBackoffTouches side)) by unfold Sub; cases side <;> decide
  | .partialHoldExpire _ _ _ => show Sub Fp.execPartialHoldExpire (bitsOfParts partialHoldExpireTouches) by unfold Sub; decide
  | .resultRetainExpire _ _ _ => show Sub Fp.execResultRetainExpire (bitsOfParts resultRetainExpireTouches) by unfold Sub; decide
  | .chunkRecordExpire _ _ _ => show Sub Fp.execChunkRecordExpire (bitsOfParts chunkRecordExpireTouches) by unfold Sub; decide
  | .srcReadFail _ _ => show Sub Fp.execSrcReadFail (bitsOfParts srcReadFailTouches) by unfold Sub; decide
  | .dominoSeg _ _ => show Sub Fp.execDominoSeg (bitsOfParts dominoSegTouches) by unfold Sub; decide
  | .trigPost _ _ _ => show Sub Fp.execTrigPost (bitsOfParts trigPostTouches) by unfold Sub; decide
  | .triggeredOpFire => show Sub Fp.execTriggeredOpFire (bitsOfParts triggeredOpFireTouches) by unfold Sub; decide
  | .triggeredOpComplete => show Sub Fp.execTriggeredOpComplete (bitsOfParts triggeredOpCompleteTouches) by unfold Sub; decide
  | .domCtrWrite _ _ => show Sub Fp.execDomCtrWrite (bitsOfParts domCtrWriteTouches) by unfold Sub; decide
  | .dmaDoorbell _ _ => show Sub Fp.execDmaDoorbell (bitsOfParts dmaDoorbellTouches) by unfold Sub; decide
  | .dmaDescriptor _ => show Sub Fp.execDmaDescriptor (bitsOfParts dmaDescriptorTouches) by unfold Sub; decide
  | .dmaDescriptorDone _ => show Sub Fp.execDmaDescriptorDone (bitsOfParts dmaDescriptorDoneTouches) by unfold Sub; decide
  | .queueFetchFail _ => show Sub Fp.execQueueFetchFail (bitsOfParts queueFetchFailTouches) by unfold Sub; decide
  | .mrAnswer _ _ _ _ => show Sub Fp.execMrAnswer (bitsOfParts mrAnswerTouches) by unfold Sub; decide
  | .memTimeout _ _ => show Sub Fp.execMemTimeout (bitsOfParts memTimeoutTouches) by unfold Sub; decide
  | .srAnswer _ _ _ _ => show Sub Fp.execSrAnswer (bitsOfParts srAnswerTouches) by unfold Sub; decide
  | .atomicLineWriteback _ => show Sub Fp.execAtomicLineWriteback (bitsOfParts atomicLineWritebackTouches) by unfold Sub; decide
  | .planeDownWrite _ _ _ _ => show Sub Fp.execPlaneDownWrite (bitsOfParts planeDownWriteTouches) by unfold Sub; decide
  | .powerGrant _ _ => show Sub Fp.execPowerGrant (bitsOfParts powerGrantTouches) by unfold Sub; decide
  | .grantTimeout => show Sub Fp.execGrantTimeout (bitsOfParts grantTimeoutTouches) by unfold Sub; decide
  | .powerReportTimer _ => show Sub Fp.execPowerReportTimer (bitsOfParts powerReportTimerTouches) by unfold Sub; decide
  | .rstN => show Sub Fp.execRstN (bitsOfParts rstNTouches) by unfold Sub; decide
  | .move _ _ => show Sub Fp.execMove (bitsOfParts moveTouches) by unfold Sub; decide
  | .fill _ => show Sub Fp.execFill (bitsOfParts fillTouches) by unfold Sub; decide
  | .writeImm _ => show Sub Fp.execWriteImm (bitsOfParts writeImmTouches) by unfold Sub; decide
  | .ctaLoadB _ _ => show Sub Fp.execCtaLoadB (bitsOfParts ctaLoadBTouches) by unfold Sub; decide
  | .ctaMatmul _ _ => show Sub Fp.execCtaMatmul (bitsOfParts ctaMatmulTouches) by unfold Sub; decide
  | .commandComplete _ _ => show Sub Fp.execCommandComplete (bitsOfParts commandCompleteTouches) by unfold Sub; decide
  | .atsTranslationCompletion _ _ _ _ _ => show Sub Fp.execAtsTranslationCompletion (bitsOfParts atsTranslationCompletionTouches) by unfold Sub; decide
  | .pageRequestResponse _ _ => show Sub Fp.execPageRequestResponse (bitsOfParts pageRequestResponseTouches) by unfold Sub; decide
  | .atsInvalidate _ _ _ _ => show Sub Fp.execAtsInvalidate (bitsOfParts atsInvalidateTouches) by unfold Sub; decide
  | .invalidateDrained _ => show Sub Fp.execInvalidateDrained (bitsOfParts invalidateDrainedTouches) by unfold Sub; decide
  | .invalidateBound _ => show Sub Fp.execInvalidateBound (bitsOfParts invalidateBoundTouches) by unfold Sub; decide
  | .atsFlush _ => show Sub Fp.execAtsFlush (bitsOfParts atsFlushTouches) by unfold Sub; decide
  | .puppetLoad _ _ _ _ _ _ => show Sub Fp.execPuppetLoad (bitsOfParts puppetLoadTouches) by unfold Sub; decide
  | .puppetStore _ _ _ _ _ _ => show Sub Fp.execPuppetStore (bitsOfParts puppetStoreTouches) by unfold Sub; decide
  | .puppetLrAq _ _ _ _ _ _ => show Sub Fp.execPuppetLrAq (bitsOfParts puppetLrAqTouches) by unfold Sub; decide
  | .puppetSc _ _ => show Sub Fp.execPuppetSc (bitsOfParts puppetScTouches) by unfold Sub; decide
  | .puppetAmo _ _ _ _ _ _ _ _ _ => show Sub Fp.execPuppetAmo (bitsOfParts puppetAmoTouches) by unfold Sub; decide
  | .pcas _ _ _ _ _ _ _ _ => show Sub Fp.execPcas (bitsOfParts pcasTouches) by unfold Sub; decide
  | .puppetFence _ _ => show Sub Fp.execPuppetFence (bitsOfParts puppetFenceTouches) by unfold Sub; decide
  | .puppetAccessDone _ _ _ => show Sub Fp.execPuppetAccessDone (bitsOfParts puppetAccessDoneTouches) by unfold Sub; decide
  | .puppetExit _ _ => show Sub Fp.execPuppetExit (bitsOfParts puppetExitTouches) by unfold Sub; decide
  | .pupLoad _ _ _ => show Sub Fp.execPupLoad (bitsOfParts pupLoadTouches) by unfold Sub; decide
  | .pupKill _ _ => show Sub Fp.execPupKill (bitsOfParts pupKillTouches) by unfold Sub; decide
  | .puppetMsg _ _ _ => show Sub Fp.execPuppetMsg (bitsOfParts puppetMsgTouches) by unfold Sub; decide
  | .puppeteerBoot _ _ _ => show Sub Fp.execPuppeteerBoot (bitsOfParts puppeteerBootTouches) by unfold Sub; decide
  | .pcieEnumeration _ => show Sub Fp.execPcieEnumeration (bitsOfParts pcieEnumerationTouches) by unfold Sub; decide
  | .fuseMapRead _ _ => show Sub Fp.execFuseMapRead (bitsOfParts fuseMapReadTouches) by unfold Sub; decide
  | .imageLoad _ _ _ => show Sub Fp.execImageLoad (bitsOfParts imageLoadTouches) by unfold Sub; decide
  | .tileBist _ _ _ => show Sub Fp.execTileBist (bitsOfParts tileBistTouches) by unfold Sub; decide
  | .nocTraining _ _ _ _ => show Sub Fp.execNocTraining (bitsOfParts nocTrainingTouches) by unfold Sub; decide
  | .ddr5Training _ _ _ _ => show Sub Fp.execDdr5Training (bitsOfParts ddr5TrainingTouches) by unfold Sub; decide
  | .serdesCalibration _ _ _ => show Sub Fp.execSerdesCalibration (bitsOfParts serdesCalibrationTouches) by unfold Sub; decide
  | .linkTraining _ => show Sub Fp.execLinkTraining (bitsOfParts linkTrainingTouches) by unfold Sub; decide
  | .topLock _ => show Sub Fp.execTopLock (bitsOfParts topLockTouches) by unfold Sub; decide
  | .enable _ => show Sub Fp.execEnable (bitsOfParts enableTouches) by unfold Sub; decide
  | .bringupStepEnd => show Sub Fp.execBringupStepEnd (bitsOfParts bringupStepEndTouches) by unfold Sub; decide
  | .bringupStepTimeout => show Sub Fp.execBringupStepTimeout (bitsOfParts bringupStepTimeoutTouches) by unfold Sub; decide
  | .unload => show Sub Fp.execUnload (bitsOfParts unloadTouches) by unfold Sub; decide
  | .sramScrubPassEnd _ _ _ => show Sub Fp.execSramScrubPassEnd (bitsOfParts sramScrubPassEndTouches) by unfold Sub; decide
  | .tileUe _ _ _ => show Sub Fp.execTileUe (bitsOfParts tileUeTouches) by unfold Sub; decide
  | .retire _ _ => show Sub Fp.execRetire (bitsOfParts retireTouches) by unfold Sub; decide
  | .toSpare _ => show Sub Fp.execToSpare (bitsOfParts toSpareTouches) by unfold Sub; decide
  | .fromSpare _ _ => show Sub Fp.execFromSpare (bitsOfParts fromSpareTouches) by unfold Sub; decide
  | .toSpareTimeout => show Sub Fp.execToSpareTimeout (bitsOfParts toSpareTimeoutTouches) by unfold Sub; decide
  | .migrationComplete => show Sub Fp.execMigrationComplete (bitsOfParts migrationCompleteTouches) by unfold Sub; decide
  | .timeSync side _ _ _ => show Sub (Fp.execTimeSync side) (bitsOfParts (timeSyncTouches side)) by unfold Sub; cases side <;> decide
  | .timeFollow side _ _ => show Sub (Fp.execTimeFollow side) (bitsOfParts (timeFollowTouches side)) by unfold Sub; cases side <;> decide
  | .timeDelayReq side _ _ _ => show Sub (Fp.execTimeDelayReq side) (bitsOfParts (timeDelayReqTouches side)) by unfold Sub; cases side <;> decide
  | .timeDelayRsp side _ _ => show Sub (Fp.execTimeDelayRsp side) (bitsOfParts (timeDelayRspTouches side)) by unfold Sub; cases side <;> decide
  | .timeSyncTimer side _ => show Sub (Fp.execTimeSyncTimer side) (bitsOfParts (timeSyncTimerTouches side)) by unfold Sub; cases side <;> decide
  | .ppsInEdge _ _ _ => show Sub Fp.execPpsInEdge (bitsOfParts ppsInEdgeTouches) by unfold Sub; decide
  | .timeSourceLoss _ => show Sub Fp.execTimeSourceLoss (bitsOfParts timeSourceLossTouches) by unfold Sub; decide
  | .holdoverExpire => show Sub Fp.execHoldoverExpire (bitsOfParts holdoverExpireTouches) by unfold Sub; decide
  | .topSetGo _ => show Sub Fp.execTopSetGo (bitsOfParts topSetGoTouches) by unfold Sub; decide
  | .gmChange => show Sub Fp.execGmChange (bitsOfParts gmChangeTouches) by unfold Sub; decide
  | .timeLost => show Sub Fp.execTimeLost (bitsOfParts timeLostTouches) by unfold Sub; decide
  | .capWrite _ _ _ => show Sub Fp.execCapWrite (bitsOfParts capWriteTouches) by unfold Sub; decide
  | .grantComputeTimer => show Sub Fp.execGrantComputeTimer (bitsOfParts grantComputeTimerTouches) by unfold Sub; decide
  | .grantRefreshTimer => show Sub Fp.execGrantRefreshTimer (bitsOfParts grantRefreshTimerTouches) by unfold Sub; decide
  | .stageTimer => show Sub Fp.execStageTimer (bitsOfParts stageTimerTouches) by unfold Sub; decide
  | .powerReport _ _ => show Sub Fp.execPowerReport (bitsOfParts powerReportTouches) by unfold Sub; decide
  | .violationCheck _ => show Sub Fp.execViolationCheck (bitsOfParts violationCheckTouches) by unfold Sub; decide
  | .reportTimeout _ => show Sub Fp.execReportTimeout (bitsOfParts reportTimeoutTouches) by unfold Sub; decide
  | .epClear _ => show Sub Fp.execEpClear (bitsOfParts epClearTouches) by unfold Sub; decide
  | .shedCorrectTimer _ => show Sub Fp.execShedCorrectTimer (bitsOfParts shedCorrectTimerTouches) by unfold Sub; decide
  | .powerWarnN _ => show Sub Fp.execPowerWarnN (bitsOfParts powerWarnNTouches) by unfold Sub; decide
  | .inputSample _ _ _ => show Sub Fp.execInputSample (bitsOfParts inputSampleTouches) by unfold Sub; decide
  | .uvLoss => show Sub Fp.execUvLoss (bitsOfParts uvLossTouches) by unfold Sub; decide
  | .thermalSample _ _ => show Sub Fp.execThermalSample (bitsOfParts thermalSampleTouches) by unfold Sub; decide
  | .thermalRecheck _ _ => show Sub Fp.execThermalRecheck (bitsOfParts thermalRecheckTouches) by unfold Sub; decide
  | .snapCtl _ => show Sub Fp.execSnapCtl (bitsOfParts snapCtlTouches) by unfold Sub; decide
  | .snapshotPublish => show Sub Fp.execSnapshotPublish (bitsOfParts snapshotPublishTouches) by unfold Sub; decide
  | .telemetryPeriod _ => show Sub Fp.execTelemetryPeriod (bitsOfParts telemetryPeriodTouches) by unfold Sub; decide
  | .pauseLimitExpire _ => show Sub Fp.execPauseLimitExpire (bitsOfParts pauseLimitExpireTouches) by unfold Sub; decide
  | .getVersion side _ => show Sub (Fp.execGetVersion side) (bitsOfParts (getVersionTouches side)) by unfold Sub; cases side <;> decide
  | .getCapabilities side _ => show Sub (Fp.execGetCapabilities side) (bitsOfParts (getCapabilitiesTouches side)) by unfold Sub; cases side <;> decide
  | .negotiateAlgorithms side _ _ => show Sub (Fp.execNegotiateAlgorithms side) (bitsOfParts (negotiateAlgorithmsTouches side)) by unfold Sub; cases side <;> decide
  | .getDigests side _ => show Sub (Fp.execGetDigests side) (bitsOfParts (getDigestsTouches side)) by unfold Sub; cases side <;> decide
  | .getCertificate side _ _ _ => show Sub (Fp.execGetCertificate side) (bitsOfParts (getCertificateTouches side)) by unfold Sub; cases side <;> decide
  | .challenge side _ _ => show Sub (Fp.execChallenge side) (bitsOfParts (challengeTouches side)) by unfold Sub; cases side <;> decide
  | .getMeasurements side _ _ _ => show Sub (Fp.execGetMeasurements side) (bitsOfParts (getMeasurementsTouches side)) by unfold Sub; cases side <;> decide
  | .keyExchange side _ _ => show Sub (Fp.execKeyExchange side) (bitsOfParts (keyExchangeTouches side)) by unfold Sub; cases side <;> decide
  | .finish side _ _ _ _ => show Sub (Fp.execFinish side) (bitsOfParts (finishTouches side)) by unfold Sub; cases side <;> decide
  | .heartbeat side _ => show Sub (Fp.execHeartbeat side) (bitsOfParts (heartbeatTouches side)) by unfold Sub; cases side <;> decide
  | .keyUpdate side _ => show Sub (Fp.execKeyUpdate side) (bitsOfParts (keyUpdateTouches side)) by unfold Sub; cases side <;> decide
  | .endSession side _ => show Sub (Fp.execEndSession side) (bitsOfParts (endSessionTouches side)) by unfold Sub; cases side <;> decide
  | .mgmtSegment side _ _ => show Sub (Fp.execMgmtSegment side) (bitsOfParts (mgmtSegmentTouches side)) by unfold Sub; cases side <;> decide
  | .regRead side _ _ => show Sub (Fp.execRegRead side) (bitsOfParts (regReadTouches side)) by unfold Sub; cases side <;> decide
  | .regWrite side _ _ _ => show Sub (Fp.execRegWrite side) (bitsOfParts (regWriteTouches side)) by unfold Sub; cases side <;> decide
  | .tokenAcquire _ _ => show Sub Fp.execTokenAcquire (bitsOfParts tokenAcquireTouches) by unfold Sub; decide
  | .tokenRenew _ _ => show Sub Fp.execTokenRenew (bitsOfParts tokenRenewTouches) by unfold Sub; decide
  | .tokenRelease _ _ => show Sub Fp.execTokenRelease (bitsOfParts tokenReleaseTouches) by unfold Sub; decide
  | .tokenExpired _ => show Sub Fp.execTokenExpired (bitsOfParts tokenExpiredTouches) by unfold Sub; decide
  | .flashWrite _ _ _ => show Sub Fp.execFlashWrite (bitsOfParts flashWriteTouches) by unfold Sub; decide
  | .credSet _ _ _ _ => show Sub Fp.execCredSet (bitsOfParts credSetTouches) by unfold Sub; decide
  | .signerSet _ _ _ _ => show Sub Fp.execSignerSet (bitsOfParts signerSetTouches) by unfold Sub; decide
  | .rollbackRaise _ _ _ => show Sub Fp.execRollbackRaise (bitsOfParts rollbackRaiseTouches) by unfold Sub; decide
  | .keyLoad side _ _ _ _ _ _ _ => show Sub (Fp.execKeyLoad side) (bitsOfParts (keyLoadTouches side)) by unfold Sub; cases side <;> decide
  | .prevKeyExpire side _ => show Sub (Fp.execPrevKeyExpire side) (bitsOfParts (prevKeyExpireTouches side)) by unfold Sub; cases side <;> decide
  | .activateOrd _ _ _ => show Sub Fp.execActivateOrd (bitsOfParts activateOrdTouches) by unfold Sub; decide
  | .slotCmdActivateOrd _ _ => show Sub Fp.execSlotCmdActivateOrd (bitsOfParts slotCmdActivateOrdTouches) by unfold Sub; decide
  | .slotRetire _ _ _ => show Sub Fp.execSlotRetire (bitsOfParts slotRetireTouches) by unfold Sub; decide
  | .slotCmdRetire _ _ => show Sub Fp.execSlotCmdRetire (bitsOfParts slotCmdRetireTouches) by unfold Sub; decide
  | .drainExpire side _ => show Sub (Fp.execDrainExpire side) (bitsOfParts (drainExpireTouches side)) by unfold Sub; cases side <;> decide
  | .tenantRetired side _ => show Sub (Fp.execTenantRetired side) (bitsOfParts (tenantRetiredTouches side)) by unfold Sub; cases side <;> decide
  | .watchdogExpire => show Sub Fp.execWatchdogExpire (bitsOfParts watchdogExpireTouches) by unfold Sub; decide
  | .mgtDoorbell _ => show Sub Fp.execMgtDoorbell (bitsOfParts mgtDoorbellTouches) by unfold Sub; decide
  | .mgtResponse _ => show Sub Fp.execMgtResponse (bitsOfParts mgtResponseTouches) by unfold Sub; decide
  | .evidenceClear _ _ => show Sub Fp.execEvidenceClear (bitsOfParts evidenceClearTouches) by unfold Sub; decide
  | .quarantineTimer _ => show Sub Fp.execQuarantineTimer (bitsOfParts quarantineTimerTouches) by unfold Sub; decide
  | .vote _ _ _ _ _ => show Sub Fp.execVote (bitsOfParts voteTouches) by unfold Sub; decide
  | .decide _ _ _ _ _ _ => show Sub Fp.execDecide (bitsOfParts decideTouches) by unfold Sub; decide
  | .deadNotice side _ _ _ _ _ => show Sub (Fp.execDeadNotice side) (bitsOfParts (deadNoticeTouches side)) by unfold Sub; cases side <;> decide
  | .liveNotice side _ _ _ _ _ => show Sub (Fp.execLiveNotice side) (bitsOfParts (liveNoticeTouches side)) by unfold Sub; cases side <;> decide
  | .trayDown _ => show Sub Fp.execTrayDown (bitsOfParts trayDownTouches) by unfold Sub; decide
  | .coldReset _ => show Sub Fp.execColdReset (bitsOfParts coldResetTouches) by unfold Sub; decide
  | .warmReset => show Sub Fp.execWarmReset (bitsOfParts warmResetTouches) by unfold Sub; decide
  | .puppeteerReset => show Sub Fp.execPuppeteerReset (bitsOfParts puppeteerResetTouches) by unfold Sub; decide
  | .functionReset => show Sub Fp.execFunctionReset (bitsOfParts functionResetTouches) by unfold Sub; decide
  | .powerOnReset => show Sub Fp.execPowerOnReset (bitsOfParts powerOnResetTouches) by unfold Sub; decide
  | .internalFatal _ _ => show Sub Fp.execInternalFatal (bitsOfParts internalFatalTouches) by unfold Sub; decide
  | .autoWarmTimer => show Sub Fp.execAutoWarmTimer (bitsOfParts autoWarmTimerTouches) by unfold Sub; decide
  | .apertureRead _ _ => show Sub Fp.execApertureRead (bitsOfParts apertureReadTouches) by unfold Sub; decide
  | .apertureWrite _ _ => show Sub Fp.execApertureWrite (bitsOfParts apertureWriteTouches) by unfold Sub; decide
  | .queueDoorbell _ _ => show Sub Fp.execQueueDoorbell (bitsOfParts queueDoorbellTouches) by unfold Sub; decide
  | .cheadWrite _ _ => show Sub Fp.execCheadWrite (bitsOfParts cheadWriteTouches) by unfold Sub; decide
  | .queueEnable _ _ _ => show Sub Fp.execQueueEnable (bitsOfParts queueEnableTouches) by unfold Sub; decide
  | .ringFetchDone _ _ => show Sub Fp.execRingFetchDone (bitsOfParts ringFetchDoneTouches) by unfold Sub; decide
  | .intStatusClear _ _ _ => show Sub Fp.execIntStatusClear (bitsOfParts intStatusClearTouches) by unfold Sub; decide
  | .interruptHoldoff _ => show Sub Fp.execInterruptHoldoff (bitsOfParts interruptHoldoffTouches) by unfold Sub; decide
  | .dStateChange _ => show Sub Fp.execDStateChange (bitsOfParts dStateChangeTouches) by unfold Sub; decide
  | .busMasterDisable => show Sub Fp.execBusMasterDisable (bitsOfParts busMasterDisableTouches) by unfold Sub; decide
  | .presentNBreak => show Sub Fp.execPresentNBreak (bitsOfParts presentNBreakTouches) by unfold Sub; decide
  | .cbl3v3Overload _ => show Sub Fp.execCbl3v3Overload (bitsOfParts cbl3v3OverloadTouches) by unfold Sub; decide
  | .configurationWrite _ => show Sub Fp.execConfigurationWrite (bitsOfParts configurationWriteTouches) by unfold Sub; decide
  | .completionTimeout _ => show Sub Fp.execCompletionTimeout (bitsOfParts completionTimeoutTouches) by unfold Sub; decide
  | .directoryScanEnd _ => show Sub Fp.execDirectoryScanEnd (bitsOfParts directoryScanEndTouches) by unfold Sub; decide
  | .ftValidExpire => show Sub Fp.execFtValidExpire (bitsOfParts ftValidExpireTouches) by unfold Sub; decide
  | .grandmasterTimeout => show Sub Fp.execGrandmasterTimeout (bitsOfParts grandmasterTimeoutTouches) by unfold Sub; decide
  | .steppedExpire => show Sub Fp.execSteppedExpire (bitsOfParts steppedExpireTouches) by unfold Sub; decide
  | .sleepControlBlock side _ => show Sub (Fp.execSleepControlBlock side) (bitsOfParts (sleepControlBlockTouches side)) by unfold Sub; cases side <;> decide
  | .i3cAdminInstall _ _ => show Sub Fp.execI3cAdminInstall (bitsOfParts i3cAdminInstallTouches) by unfold Sub; decide
  | .testArm _ _ => show Sub Fp.execTestArm (bitsOfParts testArmTouches) by unfold Sub; decide
  | .debugAccessOpen _ => show Sub Fp.execDebugAccessOpen (bitsOfParts debugAccessOpenTouches) by unfold Sub; decide
  | .fullResSet _ _ => show Sub Fp.execFullResSet (bitsOfParts fullResSetTouches) by unfold Sub; decide
  | .rspLenRead => show Sub Fp.execRspLenRead (bitsOfParts rspLenReadTouches) by unfold Sub; decide
  | .recordQuery _ _ => show Sub Fp.execRecordQuery (bitsOfParts recordQueryTouches) by unfold Sub; decide
  | .snoopSlow _ => show Sub Fp.execSnoopSlow (bitsOfParts snoopSlowTouches) by unfold Sub; decide
  | .rattleInterval _ _ => show Sub Fp.execRattleInterval (bitsOfParts rattleIntervalTouches) by unfold Sub; decide
  | .reorderHoldExpire _ => show Sub Fp.execReorderHoldExpire (bitsOfParts reorderHoldExpireTouches) by unfold Sub; decide
  | .flapDownExpire _ => show Sub Fp.execFlapDownExpire (bitsOfParts flapDownExpireTouches) by unfold Sub; decide
  | .vectorUnmask _ => show Sub Fp.execVectorUnmask (bitsOfParts vectorUnmaskTouches) by unfold Sub; decide

/-- A register's number is below 250. -/
theorem reg_idx_lt (r : Reg) : r.ctorIdx < 250 := by cases r <;> decide

/-- A register is given by its number. -/
theorem reg_idx_inj {r r' : Reg} (h : r.ctorIdx = r'.ctorIdx) : r = r' := by
  have k : ∀ r : Reg, Reg.ofNat r.ctorIdx = r := by intro r; cases r <;> rfl
  rw [← k r, ← k r', h]

/-- A part is given by its number. -/
theorem part_idx_inj {p q : Part} (h : p.idx = q.idx) : p = q := by
  have hs : ∀ sd : Side, sd.ctorIdx < 2 := by intro sd; cases sd <;> decide
  have hu : ∀ u : UnitPart, u.ctorIdx < 20 := by intro u; cases u <;> decide
  have hp : ∀ u : PoolPart, u.ctorIdx < 10 := by intro u; cases u <;> decide
  have hg : ∀ u : EngPart, u.ctorIdx < 10 := by intro u; cases u <;> decide
  have hm : ∀ u : ModPart, u.ctorIdx < 20 := by intro u; cases u <;> decide
  have he : ∀ u : EpPart, u.ctorIdx < 40 := by intro u; cases u <;> decide
  have is : ∀ a b : Side, a.ctorIdx = b.ctorIdx → a = b := by intro a b; cases a <;> cases b <;> simp [Side.ctorIdx]
  have iu : ∀ a b : UnitPart, a.ctorIdx = b.ctorIdx → a = b := by intro a b; cases a <;> cases b <;> simp [UnitPart.ctorIdx]
  have ip : ∀ a b : PoolPart, a.ctorIdx = b.ctorIdx → a = b := by intro a b; cases a <;> cases b <;> simp [PoolPart.ctorIdx]
  have ig : ∀ a b : EngPart, a.ctorIdx = b.ctorIdx → a = b := by intro a b; cases a <;> cases b <;> simp [EngPart.ctorIdx]
  have im : ∀ a b : ModPart, a.ctorIdx = b.ctorIdx → a = b := by intro a b; cases a <;> cases b <;> simp [ModPart.ctorIdx]
  have ie : ∀ a b : EpPart, a.ctorIdx = b.ctorIdx → a = b := by intro a b; cases a <;> cases b <;> simp [EpPart.ctorIdx]
  cases p with
  | reg sd r => cases q with
    | reg sd' r' => simp only [Part.idx] at h; have := hs sd; have := hs sd'; rw [is sd sd' (by omega), reg_idx_inj (r := r) (r' := r') (by omega)]
    | unit sd' r' => simp only [Part.idx] at h; have := hs sd; have := hs sd'; have := reg_idx_lt r; omega
    | _ => simp only [Part.idx] at h; have := hs sd; have := reg_idx_lt r; omega
  | unit sd r => cases q with
    | unit sd' r' => simp only [Part.idx] at h; have := hs sd; have := hs sd'; rw [is sd sd' (by omega), iu r r' (by omega)]
    | reg sd' r' => simp only [Part.idx] at h; have := hs sd; have := hs sd'; have := reg_idx_lt r'; omega
    | _ => simp only [Part.idx] at h; have := hs sd; have := hu r; omega
  | pool r => cases q with
    | pool r' => simp only [Part.idx] at h; rw [ip r r' (by omega)]
    | reg sd' r' => simp only [Part.idx] at h; have := hs sd'; have := reg_idx_lt r'; omega
    | unit sd' r' => simp only [Part.idx] at h; have := hs sd'; have := hu r'; omega
    | _ => simp only [Part.idx] at h; have := hp r; omega
  | eng r => cases q with
    | eng r' => simp only [Part.idx] at h; rw [ig r r' (by omega)]
    | reg sd' r' => simp only [Part.idx] at h; have := hs sd'; have := reg_idx_lt r'; omega
    | unit sd' r' => simp only [Part.idx] at h; have := hs sd'; have := hu r'; omega
    | pool r' => simp only [Part.idx] at h; have := hp r'; omega
    | _ => simp only [Part.idx] at h; have := hg r; omega
  | mod r => cases q with
    | mod r' => simp only [Part.idx] at h; rw [im r r' (by omega)]
    | reg sd' r' => simp only [Part.idx] at h; have := hs sd'; have := reg_idx_lt r'; omega
    | unit sd' r' => simp only [Part.idx] at h; have := hs sd'; have := hu r'; omega
    | pool r' => simp only [Part.idx] at h; have := hp r'; omega
    | eng r' => simp only [Part.idx] at h; have := hg r'; omega
    | _ => simp only [Part.idx] at h; have := hm r; omega
  | ep r => cases q with
    | ep r' => simp only [Part.idx] at h; rw [ie r r' (by omega)]
    | reg sd' r' => simp only [Part.idx] at h; have := hs sd'; have := reg_idx_lt r'; omega
    | unit sd' r' => simp only [Part.idx] at h; have := hs sd'; have := hu r'; omega
    | pool r' => simp only [Part.idx] at h; have := hp r'; omega
    | eng r' => simp only [Part.idx] at h; have := hg r'; omega
    | mod r' => simp only [Part.idx] at h; have := hm r'; omega
    | free => simp only [Part.idx] at h; have := he r; omega
  | free => cases q with
    | free => rfl
    | reg sd' r' => simp only [Part.idx] at h; have := hs sd'; have := reg_idx_lt r'; omega
    | unit sd' r' => simp only [Part.idx] at h; have := hs sd'; have := hu r'; omega
    | pool r' => simp only [Part.idx] at h; have := hp r'; omega
    | eng r' => simp only [Part.idx] at h; have := hg r'; omega
    | mod r' => simp only [Part.idx] at h; have := hm r'; omega
    | ep r' => simp only [Part.idx] at h; have := he r'; omega

/-- A bit of the set of a list is the bit of one of its parts. -/
theorem bits_mem (l : List Part) : ∀ (a i : Nat), (l.foldl (fun (a : Nat) (p : Part) => a ||| p.bit) a).testBit i = true → a.testBit i = true ∨ ∃ p ∈ l, p.idx = i := by
  induction l with
  | nil => intro a i h; exact .inl h
  | cons p l ih =>
    intro a i h
    rcases ih _ i h with h | ⟨q, hq, e⟩
    · rw [Nat.testBit_or, Bool.or_eq_true] at h
      rcases h with h | h
      · exact .inl h
      · refine .inr ⟨p, by simp, ?_⟩
        rw [Part.bit, Nat.testBit_two_pow] at h; simpa using h
    · exact .inr ⟨q, by simp [hq], e⟩
end Sys2Proof.Machine
end

