-- ==== Sys2Proof/Laws/Read.lean ====
section
/-! SUPPORT. Reading a field, a lane or a port through an operation that may not change its part, and what register words hold at reset. -/

set_option exponentiation.threshold 1024
set_option maxRecDepth 100000

namespace Sys2Proof.Machine

/-- A register whose part the operation may not change reads the same word. -/
theorem Ev.word {F : Nat} {s t : State} (h : Ev F s t) (sd : Side) (r : Reg) (hb : F.testBit (Part.reg sd r).idx = false) (i w) :
    t.word sd r i w = s.word sd r i w := h.same (.reg sd r) hb i w

/-- The same for a field. -/
theorem Ev.rd {F : Nat} {s t : State} (h : Ev F s t) (sd : Side) (f : Field) (hb : F.testBit (Part.reg sd f.reg).idx = false) (i) :
    t.rd sd f i = s.rd sd f i := by unfold State.rd; rw [h.word _ _ hb]

/-- The same for a field of one bit. -/
theorem Ev.rdb {F : Nat} {s t : State} (h : Ev F s t) (sd : Side) (f : Field) (hb : F.testBit (Part.reg sd f.reg).idx = false) (i) :
    t.rdb sd f i = s.rdb sd f i := by unfold State.rdb; rw [h.rd _ _ hb]

/-- The same for a lane. -/
theorem Ev.lane {F : Nat} {s t : State} (h : Ev F s t) (sd : Side) (hb : F.testBit (Part.unit sd .lanes).idx = false) (n) :
    t.lane sd n = s.lane sd n := by unfold State.lane; rw [show (t.unit sd).lanes = (s.unit sd).lanes from h.same (.unit sd .lanes) hb]

/-- The same for a port. -/
theorem Ev.port {F : Nat} {s t : State} (h : Ev F s t) (sd : Side) (hb : F.testBit (Part.unit sd .ports).idx = false) (n) :
    t.port sd n = s.port sd n := by unfold State.port; rw [show (t.unit sd).ports = (s.unit sd).ports from h.same (.unit sd .ports) hb]

/-- The same for any part. -/
theorem Ev.part {F : Nat} {s t : State} (h : Ev F s t) (p : Part) (hb : F.testBit p.idx = false) : p.Same s t := h.same p hb

/-- A field written with a value that fits it reads that value. -/
theorem rd_wr_lit (sd : Side) (s : State) (f : Field) (i v : Nat) (h : f.lo ≤ f.hi) (h64 : f.hi < 64) (hv : v < 2 ^ (f.hi + 1 - f.lo)) :
    (s.wr sd f i v).rd sd f i = v := by rw [rd_wr_same _ _ _ _ _ h h64, Nat.mod_eq_of_lt hv]

/-- A field written with a bit reads that bit. -/
theorem rd_wrb_lit (sd : Side) (s : State) (f : Field) (i : Nat) (b : Bool) (h : f.lo ≤ f.hi) (h64 : f.hi < 64) :
    (s.wrb sd f i b).rd sd f i = b2n b := by
  unfold State.wrb; rw [rd_wr_same _ _ _ _ _ h h64, Nat.mod_eq_of_lt]
  have : 2 ^ 1 ≤ 2 ^ (f.hi + 1 - f.lo) := Nat.pow_le_pow_right (by omega) (by omega)
  cases b <;> simp [b2n]
  omega

/-- A write of a bit leaves the fields of other registers. -/
theorem rd_wrb_reg (sd sd' : Side) (s : State) (f g : Field) (i j : Nat) (b : Bool) (h : g.reg ≠ f.reg) : (s.wrb sd f i b).rd sd' g j = s.rd sd' g j := rd_wr_reg _ _ _ _ _ _ _ _ h

/-- A write of a bit leaves the other fields of its word. -/
theorem rd_wrb_field (sd : Side) (s : State) (f g : Field) (i : Nat) (b : Bool) (hr : g.reg = f.reg) (hw : g.word = f.word)
    (h : g.hi < f.lo ∨ f.hi < g.lo) : (s.wrb sd f i b).rd sd g i = s.rd sd g i := rd_wr_field _ _ _ _ _ _ hr hw h

/-- A bit is a field that is not 0. -/
theorem rdb_def (s : State) (sd : Side) (f : Field) (i : Nat) : s.rdb sd f i = decide (s.rd sd f i ≠ 0) := rfl

/-- A counter that is bumped counts, up to its largest value (R480), and its overflow event does not touch it. -/
@[simp] theorem word_bump (sd : Side) (r : Reg) (i : Nat) (s : State) (h : (Fp.logBump sd).testBit (Part.reg sd r).idx = false) :
    (bump sd r i s).word sd r i 0 = countedWord (s.word sd r i 0) 1 := by
  unfold bump bumpBy; dsimp only; split
  · cases sd
    · rw [(logEvent_ev .module _ _).word .module r ?_, ]
      · unfold bumpQuiet
        rw [word_setWord_reg]
        · simp
        · rintro rfl; revert h; decide
      · have : Sub (Fp.logEvent .module) (Fp.logBump .module) := by unfold Sub; decide
        exact this.out h
    · rw [(logEvent_ev .endpoint _ _).word .endpoint r ?_, ]
      · simp
      · have : Sub (Fp.logEvent .endpoint) (Fp.logBump .endpoint) := by unfold Sub; decide
        exact this.out h
  · simp

/-- A bit as a number is not 0 where it is set. -/
theorem b2n_ne (b : Bool) : (b2n b ≠ 0) = (b = true) := by cases b <;> simp [b2n]

/-- An operation whose set of parts lies within a list changes nothing outside the list. -/
theorem onlyChanges {F : Nat} {s t : State} (h : Ev F s t) (l : List Part) (hs : Sub F (bitsOfParts l)) : OnlyChanges l s t := by
  intro p hp
  refine h.same p (hs.out ?_)
  cases hb : (bitsOfParts l).testBit p.idx
  · rfl
  · rcases bits_mem _ _ _ hb with h | ⟨q, hq, e⟩
    · simp at h
    · rw [part_idx_inj e] at hq; exact absurd hq hp

/-- The Reset column lies within the fields, for every register word. -/
theorem tableReset_reserved (r : Reg) : (List.range 16).all (fun w => decide (tableReset r w &&& ~~~(definedBits r w) = 0)) = true := by
  cases r <;> decide +kernel


/-- The Reset column of a word lies within its fields. -/
theorem tableReset_word (r : Reg) (w : Nat) (h : w < 16) : tableReset r w &&& ~~~(definedBits r w) = 0 := by
  have := List.all_eq_true.mp (tableReset_reserved r) w (List.mem_range.mpr h)
  simpa using this


/-- Every register word resets with zero in its reserved bits. -/
theorem regReset_reserved (sd : Side) (r : Reg) (i w : Nat) (h : w < 16) : regReset sd r i w &&& ~~~(definedBits r w) = 0 := by
  have z (m : Word) : (0 : Word) &&& ~~~m = 0 := by simp
  unfold regReset
  split
  · exact withBits_mask _ _ _ _ _ (tableReset_word _ _ h) (by decide +kernel)
  · split
    · exact withBits_mask _ _ _ _ _ (withBits_mask _ _ _ _ _ (tableReset_word _ _ h) (by decide +kernel)) (by decide +kernel)
    · exact withBits_mask _ _ _ _ _ (tableReset_word _ _ h) (by decide +kernel)
  · exact withBits_mask _ _ _ _ _ (withBits_mask _ _ _ _ _ (tableReset_word _ _ h) (by decide +kernel)) (by decide +kernel)
  · exact withBits_mask _ _ _ _ _ (withBits_mask _ _ _ _ _ (tableReset_word _ _ h) (by decide +kernel)) (by decide +kernel)
  · exact withBits_mask _ _ _ _ _ (withBits_mask _ _ _ _ _ (z _) (by decide +kernel)) (by decide +kernel)
  · exact withBits_mask _ _ _ _ _ (tableReset_word _ _ h) (by decide +kernel)
  · exact tableReset_word _ _ h

end Sys2Proof.Machine
end

