-- ==== Sys2Proof/WellFormed.lean ====
section
/-! DEFINITION. Which commands are well formed: every number names something that the spec gives the unit. The meanings are total and
take any command; a well-formed one is one that the block can be given. -/

namespace Sys2Proof.WellFormed

/-- A number below a bound. -/
def below (n x : Nat) : Bool := decide (x < n)

/-- A lane or port number of a unit (R73, R129, R351): 1,024 at the module, 16 at the endpoint block. -/
def laneOk : Side → Nat → Bool
  | .module, n => below 1024 n
  | .endpoint, n => below 16 n

/-- A size in bytes from 1 up. -/
def sizeOk (most n : Nat) : Bool := decide (1 ≤ n) && decide (n ≤ most)

/-- A puppet access of 1, 2, 4 or 8 bytes at its natural alignment (R419). -/
def aligned (addr n : Nat) : Bool := ([1, 2, 4, 8] : List Nat).contains n && decide (addr % n = 0)

/-- An address of a unit's register space: BAR0's 64 MiB (R555), or the endpoint block's 1 MiB (R392). -/
def registerOk : Side → Nat → Bool
  | .module, a => below (2 ^ 26) a
  | .endpoint, a => below (2 ^ 20) a

/-- A path that leads to a unit's registers: the host's or management's to the module (R10), the core port's or management's to the endpoint
block (R353). -/
def pathOk : Side → Path → Bool
  | .module, .host => true
  | .module, .management => true
  | .module, .corePort => false
  | .endpoint, .host => false
  | .endpoint, .management => true
  | .endpoint, .corePort => true

end Sys2Proof.WellFormed

namespace Sys2Proof

open WellFormed

/-- A well-formed command. -/
def wellFormed : Instr → Bool
  | .registerWrite side path addr _ _ => pathOk side path && registerOk side addr
  | .laneRetrain side path lane => pathOk side path && laneOk side lane
  | .cacheFlush side path lane => pathOk side path && laneOk side lane
  | .spareNow side path lane => pathOk side path && laneOk side lane
  | .lanePowerRequest side path lane power => pathOk side path && laneOk side lane && below 4 power
  | .laneEnable side path lane => pathOk side path && laneOk side lane
  | .farSignalDetected side lane => laneOk side lane
  | .farSignalLost side lane => laneOk side lane
  | .controlBlock side lane _ _ => laneOk side lane
  | .tapRequestApply side lane => laneOk side lane
  | .trainingTimeout side lane => laneOk side lane
  | .verifyEnd side lane _ => laneOk side lane
  | .handoverAccept side lane => laneOk side lane
  | .fastTimeout side lane => laneOk side lane
  | .lnkPlanWrite path lane _ => pathOk .module path && laneOk .module lane
  | .idAnnounce side port _ => laneOk side port
  | .idAnnounceTimer side port => laneOk side port
  | .idAnnounceTimeout side port => laneOk side port
  | .errorRatioCheck side lane _ _ => laneOk side lane
  | .alignmentMarker side lane _ _ _ _ _ _ => laneOk side lane
  | .laneCtl side port _ => laneOk side port
  | .laneCtlTimeout side lane => laneOk side lane
  | .sleepSignalLoss side lane => laneOk side lane
  | .laneWake side lane _ => laneOk side lane
  | .flitReceive side port lane _ _ _ => laneOk side port && laneOk side lane
  | .retryReq side port lane _ => laneOk side port && laneOk side lane
  | .resync side port lane _ => laneOk side port && laneOk side lane
  | .retryReqTimer side port => laneOk side port
  | .replayTimeout side port => laneOk side port
  | .peerPortDown side port => laneOk side port
  | .portForm side port => laneOk side port
  | .creditInit side port _ => laneOk side port
  | .laneFault side lane _ => laneOk side lane
  | .laneDrop side port _ => laneOk side port
  | .laneAdd side port _ => laneOk side port
  | .upconfigLaneReady side lane => laneOk side lane
  | .laneRelease side port _ => laneOk side port
  | .releaseAck side port _ => laneOk side port
  | .portDownCmd side path port => pathOk side path && laneOk side port
  | .packetTransmit side port pool => laneOk side port && below 11 pool
  | .packetIngress port _ => laneOk .module port
  | .bufferRoomFreed _ => true
  | .residueSend port _ => laneOk .module port
  | .reseqArrive port _ => laneOk .module port
  | .reseqGapTimeout port _ _ _ _ => laneOk .module port
  | .nocRouterFault _ _ => true
  | .nocPlaneDisable path _ _ => pathOk .module path
  | .packetAgeOut port _ => laneOk .module port
  | .seqPacketSend _ _ => true
  | .seqPacketReceive side port _ => laneOk side port
  | .ackTimer _ _ _ _ => true
  | .xptAck side port _ => laneOk side port
  | .xptNack side port _ => laneOk side port
  | .nackRetryTimer _ _ _ _ => true
  | .retransmitTimer _ _ _ _ => true
  | .xptRestart side port _ => laneOk side port
  | .planeUnusable _ _ _ => true
  | .planeSuspectExpire _ _ _ => true
  | .homePlaneReturn _ _ _ => true
  | .plannedBarrierDone _ _ _ => true
  | .xptPeerReset _ _ => true
  | .xqLoad ctx atag gfa len _ => below 64 ctx && below 4096 atag && below (2 ^ 64) gfa && sizeOk 256 len
  | .xqLoadAcq ctx atag gfa len _ => below 64 ctx && below 4096 atag && below (2 ^ 64) gfa && sizeOk 256 len
  | .xqStore ctx atag gfa _ data => below 64 ctx && below 4096 atag && below (2 ^ 64) gfa && sizeOk 256 data.length
  | .xqStoreFlag ctx atag gfa _ data => below 64 ctx && below 4096 atag && below (2 ^ 64) gfa && sizeOk 256 data.length
  | .xqAtomicInt ctx atag gfa _ _ data => below 64 ctx && below 4096 atag && below (2 ^ 64) gfa && sizeOk 256 data.length
  | .xqAtomicFp ctx atag gfa _ _ data => below 64 ctx && below 4096 atag && below (2 ^ 64) gfa && sizeOk 256 data.length
  | .xqReduceStore ctx atag gfa _ _ data => below 64 ctx && below 4096 atag && below (2 ^ 64) gfa && sizeOk 256 data.length
  | .fence ctx atag => below 64 ctx && below 4096 atag
  | .fenceComplete _ ctx => below 128 ctx
  | .rmInvAll ctx atag => below 64 ctx && below 4096 atag
  | .cohRd ctx atag gfa len => below 64 ctx && below 4096 atag && below (2 ^ 64) gfa && sizeOk 256 len
  | .cohRdown ctx atag gfa len => below 64 ctx && below 4096 atag && below (2 ^ 64) gfa && sizeOk 256 len
  | .cohWb ctx atag gfa data => below 64 ctx && below 4096 atag && below (2 ^ 64) gfa && sizeOk 256 data.length
  | .cohEvict ctx atag gfa => below 64 ctx && below 4096 atag && below (2 ^ 64) gfa
  | .regRd ctx atag offset _ => below 64 ctx && below 4096 atag && below (2 ^ 64) offset
  | .regWr ctx atag offset _ => below 64 ctx && below 4096 atag && below (2 ^ 64) offset
  | .load side port _ => laneOk side port
  | .loadAcq side port _ => laneOk side port
  | .store side port _ => laneOk side port
  | .storeFlag side port _ => laneOk side port
  | .atomicInt side port _ => laneOk side port
  | .atomicFp side port _ => laneOk side port
  | .reduceStore side port _ => laneOk side port
  | .dmaWrite side port _ => laneOk side port
  | .dmaReadReq side port _ => laneOk side port
  | .loadData side port _ => laneOk side port
  | .storeAck side port _ => laneOk side port
  | .atomicResult side port _ => laneOk side port
  | .reduceAck side port _ => laneOk side port
  | .dmaReadData side port _ => laneOk side port
  | .loadTimeout _ _ => true
  | .replayEntryExpire _ _ _ _ => true
  | .rmLineExpire gfa => below (2 ^ 64) gfa
  | .rdShared port _ => laneOk .module port
  | .rdOwn port _ => laneOk .module port
  | .upgrade port _ => laneOk .module port
  | .wb port _ => laneOk .module port
  | .evict port _ => laneOk .module port
  | .recoverStart port _ => laneOk .module port
  | .recoverDone port _ => laneOk .module port
  | .snpRsp port _ => laneOk .module port
  | .ack port _ => laneOk .module port
  | .lineUnblock _ => true
  | .snpShared port _ => laneOk .endpoint port
  | .snpInv port _ => laneOk .endpoint port
  | .snpCur port _ => laneOk .endpoint port
  | .binv port _ => laneOk .endpoint port
  | .snpFlush port _ => laneOk .endpoint port
  | .go port _ => laneOk .endpoint port
  | .cmp port _ => laneOk .endpoint port
  | .data port _ => laneOk .endpoint port
  | .snoopTimeout slot _ _ => below 128 slot
  | .recoverTimeout slot => below 128 slot
  | .cohTimeout _ _ => true
  | .directoryFlush _ => true
  | .dirRegionClear path n _ _ => pathOk .module path && below 64 n
  | .mirrorStoreDone => true
  | .collDescriptor => true
  | .collCancel => true
  | .timedStart _ => true
  | .chunkSend _ _ => true
  | .collContrib port _ => laneOk .module port
  | .epilogueStart ctx _ _ _ => below 256 ctx
  | .epilogueCommit ctx _ _ => below 256 ctx
  | .collResult side port _ => laneOk side port
  | .collAbort side port _ => laneOk side port
  | .collResend side port _ => laneOk side port
  | .collProbe port _ _ => laneOk .module port
  | .probeTimer _ _ => true
  | .chunkTimeout ctx _ _ => below 256 ctx
  | .collTimeout _ _ => true
  | .refusalBackoff _ _ _ _ => true
  | .partialHoldExpire ctx _ _ => below 256 ctx
  | .resultRetainExpire ctx _ _ => below 256 ctx
  | .chunkRecordExpire ctx _ _ => below 256 ctx
  | .srcReadFail _ _ => true
  | .dominoSeg port _ => laneOk .endpoint port
  | .trigPost ctx atag data => below 64 ctx && below 4096 atag && data.length == 64
  | .triggeredOpFire => true
  | .triggeredOpComplete => true
  | .domCtrWrite n value => below 1024 n && below (2 ^ 32) value
  | .dmaDoorbell q tail => below 33 q && below 65536 tail
  | .dmaDescriptor q => below 33 q
  | .dmaDescriptorDone q => below 33 q
  | .queueFetchFail q => below 33 q
  | .mrAnswer half mtag _ _ => below 2 half && below 4096 mtag
  | .memTimeout half mtag => below 2 half && below 4096 mtag
  | .srAnswer _ _ _ _ => true
  | .atomicLineWriteback _ => true
  | .planeDownWrite path _ _ _ => pathOk .endpoint path
  | .powerGrant port _ => laneOk .endpoint port
  | .grantTimeout => true
  | .powerReportTimer report => below 65536 report
  | .rstN => true
  | .move queue _ => below 72 queue
  | .fill queue => below 72 queue
  | .writeImm queue => below 72 queue
  | .ctaLoadB queue _ => below 72 queue
  | .ctaMatmul queue _ => below 72 queue
  | .commandComplete queue _ => below 72 queue
  | .atsTranslationCompletion _ _ _ _ _ => true
  | .pageRequestResponse _ _ => true
  | .atsInvalidate _ _ _ _ => true
  | .invalidateDrained _ => true
  | .invalidateBound _ => true
  | .atsFlush path => pathOk .module path
  | .puppetLoad core thread _ addr size _ => below 1024 core && below 16 thread && aligned addr size
  | .puppetStore core thread _ addr data _ => below 1024 core && below 16 thread && aligned addr data.length
  | .puppetLrAq core thread _ addr size _ => below 1024 core && below 16 thread && aligned addr size
  | .puppetSc core thread => below 1024 core && below 16 thread
  | .puppetAmo core thread _ addr _ data _ _ _ => below 1024 core && below 16 thread && aligned addr data.length
  | .pcas core thread _ _ _ _ _ _ => below 1024 core && below 16 thread
  | .puppetFence core thread => below 1024 core && below 16 thread
  | .puppetAccessDone core thread _ => below 1024 core && below 16 thread
  | .puppetExit core thread => below 1024 core && below 16 thread
  | .pupLoad path _ _ => pathOk .module path
  | .pupKill path slot => pathOk .module path && below 16 slot
  | .puppetMsg port _ _ => laneOk .module port
  | .puppeteerBoot _ _ _ => true
  | .pcieEnumeration _ => true
  | .fuseMapRead path _ => pathOk .module path
  | .imageLoad path _ _ => pathOk .module path
  | .tileBist path _ _ => pathOk .module path
  | .nocTraining path _ _ _ => pathOk .module path
  | .ddr5Training path channels _ _ => pathOk .module path && channels.length == 12
  | .serdesCalibration path _ _ => pathOk .module path
  | .linkTraining path => pathOk .module path
  | .topLock path => pathOk .module path
  | .enable path => pathOk .module path
  | .bringupStepEnd => true
  | .bringupStepTimeout => true
  | .unload => true
  | .sramScrubPassEnd tile _ _ => below 2048 tile
  | .tileUe tile _ _ => below 2048 tile
  | .retire tile _ => below 2048 tile
  | .toSpare tile => below 2048 tile
  | .fromSpare tile _ => below 2048 tile
  | .toSpareTimeout => true
  | .migrationComplete => true
  | .timeSync side port _ _ => laneOk side port
  | .timeFollow side port _ => laneOk side port
  | .timeDelayReq side port _ _ => laneOk side port
  | .timeDelayRsp side port _ => laneOk side port
  | .timeSyncTimer _ _ => true
  | .ppsInEdge _ _ _ => true
  | .timeSourceLoss _ => true
  | .holdoverExpire => true
  | .topSetGo _ => true
  | .gmChange => true
  | .timeLost => true
  | .capWrite path _ _ => pathOk .module path
  | .grantComputeTimer => true
  | .grantRefreshTimer => true
  | .stageTimer => true
  | .powerReport port _ => laneOk .module port
  | .violationCheck slot => below 128 slot
  | .reportTimeout slot => below 128 slot
  | .epClear slot => below 128 slot
  | .shedCorrectTimer _ => true
  | .powerWarnN _ => true
  | .inputSample _ _ _ => true
  | .uvLoss => true
  | .thermalSample sensor _ => below 64 sensor
  | .thermalRecheck sensor _ => below 64 sensor
  | .snapCtl groups => below 65536 groups
  | .snapshotPublish => true
  | .telemetryPeriod stream => below 16 stream
  | .pauseLimitExpire activity => below 6 activity
  | .getVersion _ _ => true
  | .getCapabilities _ _ => true
  | .negotiateAlgorithms _ _ _ => true
  | .getDigests _ _ => true
  | .getCertificate _ _ _ _ => true
  | .challenge _ _ _ => true
  | .getMeasurements _ _ _ _ => true
  | .keyExchange _ _ _ => true
  | .finish _ _ _ _ _ => true
  | .heartbeat _ _ => true
  | .keyUpdate _ _ => true
  | .endSession _ _ => true
  | .mgmtSegment side port _ => laneOk side port
  | .regRead side _ addr => registerOk side addr
  | .regWrite side _ addr _ => registerOk side addr
  | .tokenAcquire _ group => below 12 group
  | .tokenRenew _ group => below 12 group
  | .tokenRelease _ group => below 12 group
  | .tokenExpired group => below 12 group
  | .flashWrite _ _ _ => true
  | .credSet _ slot _ _ => below 16 slot
  | .signerSet _ slot _ _ => below 16 slot
  | .rollbackRaise _ _ _ => true
  | .keyLoad _ _ slot epoch _ _ _ _ => below 8192 slot && below 16 epoch
  | .prevKeyExpire _ slot => below 8192 slot
  | .activateOrd _ slot epoch => below 8192 slot && below 16 epoch
  | .slotCmdActivateOrd slot epoch => below 8192 slot && below 16 epoch
  | .slotRetire _ slot epoch => below 8192 slot && below 16 epoch
  | .slotCmdRetire slot epoch => below 8192 slot && below 16 epoch
  | .drainExpire _ slot => below 8192 slot
  | .tenantRetired _ slot => below 8192 slot
  | .watchdogExpire => true
  | .mgtDoorbell _ => true
  | .mgtResponse _ => true
  | .evidenceClear port _ => laneOk .module port
  | .quarantineTimer port => laneOk .module port
  | .vote _ _ _ _ _ => true
  | .decide _ _ _ _ _ _ => true
  | .deadNotice _ _ _ _ _ _ => true
  | .liveNotice _ _ _ _ _ _ => true
  | .trayDown _ => true
  | .coldReset _ => true
  | .warmReset => true
  | .puppeteerReset => true
  | .functionReset => true
  | .powerOnReset => true
  | .internalFatal _ _ => true
  | .autoWarmTimer => true
  | .apertureRead off len => below (2 ^ 36) off && sizeOk 4096 len
  | .apertureWrite off data => below (2 ^ 36) off && sizeOk 4096 data.length
  | .queueDoorbell queue tail => below 72 queue && below 65536 tail
  | .cheadWrite queue chead => below 72 queue && below 65536 chead
  | .queueEnable path queue _ => pathOk .module path && below 72 queue
  | .ringFetchDone queue _ => below 72 queue
  | .intStatusClear path _ _ => pathOk .module path
  | .interruptHoldoff src => below 128 src
  | .dStateChange _ => true
  | .busMasterDisable => true
  | .presentNBreak => true
  | .cbl3v3Overload connector => below 256 connector
  | .configurationWrite _ => true
  | .completionTimeout _ => true
  | .directoryScanEnd slot => below 128 slot
  | .ftValidExpire => true
  | .grandmasterTimeout => true
  | .steppedExpire => true
  | .sleepControlBlock side lane => laneOk side lane
  | .i3cAdminInstall slot _ => below 16 slot
  | .testArm _ _ => true
  | .debugAccessOpen _ => true
  | .fullResSet _ _ => true
  | .rspLenRead => true
  | .recordQuery ctx _ => below 256 ctx
  | .snoopSlow _ => true
  | .rattleInterval _ _ => true
  | .reorderHoldExpire _ => true
  | .flapDownExpire _ => true
  | .vectorUnmask vector => below 2048 vector

end Sys2Proof
end

