-- ==== Sys2Proof/Tests/Slice0.lean ====
section
/-! SUPPORT. Tests: which ill-formed commands the check refuses, check values of the spec's codes, single steps on small states, and for
every statement with hypotheses a state and operands that meet them, clause by clause (`met_<statement>`). -/

set_option linter.all false
set_option maxRecDepth 100000
set_option exponentiation.threshold 1024

namespace Sys2Proof.Tests
set_option Elab.async false
open Sys2Proof Sys2Proof.Machine

/-! ## Small states and operands -/

/-- A control block with its MARK and CRC. -/
def goodBlock (c : ControlBlock) : ControlBlock := { c with mark := 0x3C5AC3A5, crc := crc16 (controlBytes { c with mark := 0x3C5AC3A5 }) }

def testBlock : ControlBlock :=
  let c : ControlBlock := { mark := 0x3C5AC3A5, request := 1, response := 0, tapset := 0, ident := 0, assign := 0, tstate := 0
                            version := 0, crc := 0 }
  goodBlock c

/-- A packet with its PCHK. -/
def sealed (p : Packet) : Packet := { p with pchk := pchkOf p }

/-- A packet of a class and opcode from one unit to another, with its PCHK. -/
def testPacket (tc : BitVec 3) (opcode : BitVec 8) (src dst : Eid) : Packet :=
  sealed { dst := dst, src := src, opcode := opcode, tc := tc, plane := false }

/-- A flit of zeros with its CRC. -/
def testFlit (type : BitVec 8) (seq : BitVec 12) : Flit :=
  let f : Flit := { type := type, seq := seq, ack := 0, slots := padSlots [BitVec.ofNat 8 (if type = 0x20 then 1 else 0)], crc := 0, credit := 0xF000F000 }
  { f with crc := crc64 (flitCrcBytes f) }

/-- A RESYNC flit with a mask. -/
def resyncFlit (seq : BitVec 12) (mask : BitVec 8) : Flit :=
  let f : Flit := { type := 0x31, seq := seq, ack := 0, slots := padSlots [mask], crc := 0, credit := 0xF000F000 }
  { f with crc := crc64 (flitCrcBytes f) }

/-- A link-local packet of one header, with its PCHK. -/
def creditPacket : Packet := testPacket 0 3 0 0

/-- A leaf of rack 5 with its ports 3 and 5 up: its slots 0 and 1 lie behind them. -/
def leafState (s : State) : State :=
  let s1 := ((((s.wr .module Fld.glbRoleValid 0 1).wr .module Fld.glbRoleRole 0 0).wr .module Fld.glbRolePlane 0 0).wr .module
    Fld.glbEidEid 0 0x40005).wr .module Fld.glbBringupStatusEnabled 0 1
  let s2 := [3, 5].foldl (fun s p => ((((s.wr .module Fld.prtStatusState p 2).wr .module Fld.prtStatusActiveMask p 1).wr .module
    Fld.lnkFarIdEid p (0x280 + p / 4)).wr .module Fld.lnkPlanEid p (0x280 + p / 4)).wr .module Fld.fltLiveState p 0) s1
  let s3 := ((((s2.setWord .module .rteRack 5 0 (1#64 <<< 63)).wr .module Fld.rteSlotValid 0 1).wr .module Fld.rteSlotPort 0 3).wr .module Fld.rteSlotValid 1 1).wr .module
    Fld.rteSlotPort 1 5
  s3.onPort .module 5 fun x => { x with egressRes := List.replicate 11 300 }

/-- A packet of an ordered stream. -/
def streamPacket : Packet := sealed
  { dst := 0x40005, src := 0x280, opcode := 0x60, tc := 3, plane := false, stream := 1, xseq := 7 }

/-- A sequenced packet of no stream, the first of its space. -/
def seqPacket : Packet := sealed { dst := 0x40005, src := 0x281, opcode := 0x62, tc := 3, plane := false, payload := [7] }

/-- XPT_ACK of no stream up to XSEQ 10. -/
def ackPacket : Packet := sealed { dst := 0x40005, src := 0x281, opcode := 0x7E, tc := 4, plane := false, xseq := 10 }

/-- A packet sent with XSEQ 9. -/
def sentNine : Sent := { xseq := 9, tag := 0, entryPlane := false, plane := false, firstAt := 0, lastAt := 0, base := 1, retries := 3 }

/-- A store that waits at its issue point. -/
def opWait : SrcOp := { id := 4, ctx := none, use := .none, pkt := { seqPacket with dst := 0x281, src := 0x40005 } }

/-- A store that has been sent. -/
def opSent : SrcOp := { opWait with sent := some sentNine }

/-- A request of some opcode at byte 64 of a page of the fast pool. -/
def fastPacket (opcode : BitVec 8) (payload : List Byte) : Packet := sealed
  { dst := 0x40005, src := 0x281, opcode := opcode, tc := 3, plane := false, offset := 0xF0000000040, payload := payload
    ext := if isAtomicOp opcode then zeros 16 else [] }

/-- A leaf whose window 0 maps the first page of its fast pool, with a packet accepted. -/
def fastState (p : Packet) (s : State) : State :=
  let s1 := ((leafState s).wr .module Fld.dirPoolStatusFastTiles 0 1).setWord .module .memWin 0 0 0
  let s2 := [(Fld.memWinValid, 1), (Fld.memWinBase, 0xF0000000), (Fld.memWinLimit, 0xF0000000), (Fld.memWinLocal, 0xF0000000), (Fld.memWinRead, 1),
    (Fld.memWinWrite, 1), (Fld.memWinAtomic, 1), (Fld.memWinKeyIndex, 0), (Fld.memWinKeyEpoch, 0), (Fld.memWinDclass, 0)].foldl
    (fun s f => s.wr .module f.1 0 f.2) s1
  s2.onXpt .module fun x => { x with work := [{ port := 3, pkt := p }] }

/-- An endpoint block whose window 0 maps that page to address 0x10000, with a packet accepted. -/
def windowState (p : Packet) (s : State) : State :=
  let s2 := [(Fld.memWinValid, 1), (Fld.memWinBase, 0xF0000000), (Fld.memWinLimit, 0xF0000000), (Fld.memWinLocal, 0x10), (Fld.memWinRead, 1),
    (Fld.memWinWrite, 1), (Fld.memWinAtomic, 1), (Fld.memWinKeyIndex, 0), (Fld.memWinKeyEpoch, 0), (Fld.memWinDclass, 0), (Fld.memWinRdMostly, 1)].foldl
    (fun s f => s.wr .endpoint f.1 0 f.2) s
  s2.onXpt .endpoint fun x => { x with work := [{ port := 3, pkt := p }] }

/-- LOAD_DATA of two bytes with TAG 0. -/
def responsePacket : Packet := sealed
  { dst := 0x40005, src := 0x281, opcode := 0x70, tc := 4, plane := false, tag := 0, length := 1, payload := [5, 6] }


/-- A TC2 packet of slot 0 of rack 5 about line 0. -/
def homePacket (opcode : BitVec 8) (payload : List Byte) : Packet := sealed
  { dst := 0x40005, src := 0x280, opcode := opcode, tc := 2, plane := false, payload := payload }

/-- The leaf with its pool on: a GiB, line 0 in window 0 and in coherent region 0. -/
def homeState (s : State) : State :=
  [(Fld.dirPoolStatusPoolGib, 1), (Fld.dirPoolCtlEn, 1), (Fld.dirRegionValid, 1), (Fld.dirRegionBase, 0), (Fld.dirRegionLimit, 0),
    (Fld.dirRegionCoherent, 1), (Fld.dirRegionMode, 0), (Fld.dirStatusTiles, 1), (Fld.memWinValid, 1), (Fld.memWinBase, 0), (Fld.memWinLimit, 0),
    (Fld.memWinLocal, 0), (Fld.memWinRead, 1), (Fld.memWinWrite, 1), (Fld.memWinKeyIndex, 0), (Fld.memWinKeyEpoch, 0), (Fld.memWinDclass, 0)].foldl
    (fun s f => s.wr .module f.1 0 f.2) (leafState s)

/-- RD_SHARED of slot 1 that waits for the answer of slot 0. -/
def forwardTxn : HomeTxn := { id := 0, use := .request 3 1 (homePacket 0x20 []), lines := [0], tseq := 0, snoops := [{ slot := 0, pkt := homePacket 0x20 [], forward := true }] }

/-- A TC2 packet of the leaf of rack 5 about line 0. -/
def snoopPacket (opcode : BitVec 8) (payload : List Byte) : Packet := sealed
  { dst := 0x280, src := 0x40005, opcode := opcode, tc := 2, plane := false, opx := 0xFFFFF, payload := payload }

/-- Line 0 of the leaf of rack 5, held in M. -/
def heldLine : CacheLine := { line := 0x40005 * 2 ^ 38, state := 4, readMostly := false, data := zeros 64, filledAt := 0, used := 0 }

/-- A request about line 0 of the leaf of rack 5 that is under way. -/
def askedLine (op : BitVec 8) : CohReq := { tseq := 0, leaf := 0x40005, line := 0x40005 * 2 ^ 38, op := op, sentAt := 0 }

/-- A chunk that a member has launched. -/
def launchedChunk : CollChunk := { chunk := 0, plane := false, launched := true }

/-- An active descriptor of group 7 and step 2 with one chunk of 2048 elements. -/
def testDesc : CollDesc := { id := 9, ctx := 0, group := 7, step := 2, fmtIn := 1, fmtDown := 1, code := 0, ef := false, count := 2048, src := 0
                             dst := 0x8000, comp := 0x10000, efAddr := 0, digest := 5, chunks := [launchedChunk] }

/-- A member of group 7 with one descriptor. -/
def collMember (d : CollDesc) (s : State) : State :=
  ([(Fld.fxeCollValid, 1), (Fld.fxeCollGroup, 7), (Fld.fxeCollPlanes, 3), (Fld.fxeCollOp, 0), (Fld.fxeCollChunkCode, 0), (Fld.fxeCollFmtIn, 1),
    (Fld.fxeCollFmtDown, 1)].foldl (fun s f => s.wr .endpoint f.1 0 f.2) s).onE fun e => { e with coll := { e.coll with descs := [d] } }

/-- A descriptor of group 7 and step 2 with COUNT 1 and some flags. -/
def collBytes (flags : Byte) : List Byte := [7, 0, 2, 0, 0, 0, 0x11, flags, 1] ++ zeros 55

/-- A collective packet of group 7 and step 2. -/
def collTest (opcode : BitVec 8) (offset : BitVec 44) : Packet := sealed
  { dst := groupEid 0 7, src := 0x40005, opcode := opcode, tc := 5, plane := false, xseq := 2, offset := offset, ext := [5] ++ zeros 15, payload := zeros 4096 }

/-- An open chunk of context 7 and step 2. -/
def openedChunk : MrnChunk := { ctx := 7, step := 2, chunk := 0, attempt := 0, digest := some 5, first := 0, source := 0, slots := 1, arith := 0x1400000000, maxRestarts := 3 }

/-- A COLL_CONTRIB or other packet of group 7 and step 2. -/
def contribTest (opcode : BitVec 8) : Packet := sealed
  { dst := groupEid 0 7, src := 0x280, opcode := opcode, tc := 5, plane := false, xseq := 2, opx := if opcode = 0x90 then 2 ^ 14 else if opcode = 0x93 then 14 else 0
    ext := [5] ++ zeros 15, payload := zeros 8 }

/-- A module whose context 7 has two children, on ports 3 and 5, and its root behind port 9. -/
def reduceState (l : List MrnChunk) (s : State) : State :=
  let s1 := [(Fld.mrnCtxValid, 1), (Fld.mrnCtxGroup, 7), (Fld.mrnCtxKeyIndex, 0), (Fld.mrnCtxKeyEpoch, 0), (Fld.mrnCtxDclass, 0), (Fld.mrnCtxRootFirst, 0),
    (Fld.mrnCtxRootCount, 1), (Fld.mrnCtxChildPgrp, 0), (Fld.mrnCtxOp, 0), (Fld.mrnCtxFmtIn, 1), (Fld.mrnCtxFmtUp, 1), (Fld.mrnCtxFmtDown, 1),
    (Fld.mrnCtxChunkCode, 0), (Fld.mrnCtxExpectCount, 2), (Fld.mrnCtxExpectChildren, 2), (Fld.mrnCtxMembers, 2), (Fld.mrnCtxState, 0), (Fld.mrnCtxEpilogue, 0),
    (Fld.mrnCtxResSlots, 4), (Fld.mrnCtxSlotsInUse, 0)].foldl (fun s f => s.wr .module f.1 7 f.2) (leafState s)
  let s2 := [(Fld.rtePgrpValid, 1), (Fld.rtePgrpCount, 2), (Fld.rtePgrpFirst, 0), (Fld.rtePmemValid, 1), (Fld.rtePmemPort, 3), (Fld.mrnRootValid, 1),
    (Fld.mrnRootSelf, 0), (Fld.mrnRootPort, 9), (Fld.mrnStatusSlotsTotal, 132), (Fld.redCtlCommitPause, 0)].foldl (fun s f => s.wr .module f.1 0 f.2) s1
  let s3 := (s2.wr .module Fld.rtePmemValid 1 1).wr .module Fld.rtePmemPort 1 5
  let s4 := (List.range 16).foldl (fun s e => s.wr .module Fld.fltShadowValid e 0) (s3.setWord .module .redArith 7 0 0)
  s4.onM fun m => { m with mrn := { m.mrn with chunks := l } }

/-- Bank 0 of context 7 holds the record of one chunk at address 0. -/
def queryState (s : State) : State :=
  ((((reduceState [] s).wr .module { Fld.redEpiValid with word := Fld.redEpiValid.word + 8 } 7 0).wr .module Fld.redEpiValid 7 1).wr .module Fld.redEpiNchunks 7 1).wr
    .module Fld.redEpiStateBase 7 0

/-- Context 33 of an endpoint block may send; the first range of the leaf of rack 5 is coherent. -/
def coreState (l : List CacheLine) (s : State) : State :=
  let s1 := [(Fld.fxeIdValid, 0, 1), (Fld.fxeCtxcfgValid, 33, 1), (Fld.fxeCtxcfgKeyIndex, 33, 0), (Fld.fxeCtxcfgKeyEpoch, 33, 0), (Fld.fxeCtxcfgDclass, 33, 0),
    (Fld.fxeCohValid, 0, 1), (Fld.fxeCohLeafEid, 0, 0x40005), (Fld.fxeCohBase, 0, 0), (Fld.fxeCohLimit, 0, 9), (Fld.fxeCohMirror, 0, 0)].foldl
    (fun s f => s.wr .endpoint f.1 f.2.1 f.2.2) s
  s1.onE fun e => { e with cache := l }

/-- A core-port transaction of two requests. -/
def waitingTxn : MemTxn := { id := 6, cont := .drop, answers := [none, none] }

/-- A Domino segment for counter 3. -/
def segmentPacket (stream : BitVec 4) (opx : BitVec 32) (digest : Byte) : Packet := sealed
  { dst := 0x280, src := 0x281, opcode := 0x94, tc := 6, plane := false, stream := stream, offset := 0xF0000000040, opx := opx + 3
    ext := [digest] ++ zeros 15, payload := [1, 2, 3, 4] }

/-- An endpoint block that has accepted it, with DIGEST 5 at counter 3. -/
def segmentState (p : Packet) (s : State) : State :=
  (((windowState p s).wr .endpoint Fld.fxeDomCtrDigest 3 5).wrb .endpoint Fld.fxeDomCtrErr 3 false)

/-- A triggered operation of counter 3 with some action. -/
def trigBytes (counter threshold action : Nat) : List Byte := leBytes 4 threshold ++ leBytes 2 (counter + action * 1024) ++ zeros 58

/-- A WRITE_OUT of 8 bytes to the leaf of rack 5. -/
def dmaBytes : List Byte := [0, 0, 0, 0, 8, 0, 0, 0] ++ zeros 8 ++ leBytes 8 (0x40005 * 2 ^ 44) ++ zeros 40

/-- Context 67, that of DMA queue 3, may send. -/
def dmaReady (s : State) : State := (s.wr .endpoint Fld.fxeIdValid 0 1).wr .endpoint Fld.fxeCtxcfgValid 67 1

/-- A descriptor whose one packet has failed. -/
def doneDesc : DmaDesc := { serial := 4, write := true, len := 8, localAddr := 0, remote := 0, compAddr := 64, left := 0, statuses := [2], outcomes := [0] }

/-- A command of one tile of 64 bytes, from 0x40 to 0x80. -/
def testCmd (op spaces : Byte) : EngCmd :=
  { index := 0, data := [op, spaces, 0, 0] ++ leBytes 4 64 ++ leBytes 4 1 ++ [6, 0, 0, 0] ++ leBytes 8 0x40 ++ leBytes 8 0x80 ++ zeros 24 ++ [1, 2, 3, 4, 5, 6, 7, 8]
    started := true }

/-- A command of a contraction array with one row of A, K and N 32, A from 0x40 and C to 0x80. -/
def arrayCmd (op : Byte) : EngCmd :=
  { index := 0, data := [op, 0, 0, 0] ++ leBytes 4 1 ++ leBytes 4 0x111 ++ zeros 4 ++ leBytes 8 0x40 ++ leBytes 8 0x80 ++ zeros 32, started := true }

/-- A queue that runs a command; every contraction array is up. -/
def runsCmd (q : Nat) (c : EngCmd) (s : State) : State := onEngQueue q (fun k => { k with cmds := [c] }) ((s.setWord .module .ctaStatus 0 0 0).setWord .module .ctaCtl 0 0 0)

/-- Queue 5 moves a tile with a translation that the invalidation of ITag 3 covers. -/
def invalUsed (s : State) : State :=
  onAts (fun a => { a with invals := [{ itag := 3, pasid := none, lo := 0, hi := 0xFFFFF }] })
    (onEngQueue 5 (fun k => { k with cmds := [{ testCmd 1 8 with phase := .writing, lookups := [{ page := 1, write := true, state := .mapped }] }] }) s)

/-- Core 0 runs vendor firmware, and tile 0 is a CONTROL tile. -/
def pupState (s : State) : State := (s.wr .module Fld.pupStatusFwCores 0 1).wr .module Fld.tilMapRole 0 4

/-- A grant of the first 256 KiB of tile 0. -/
def noGrant : Grant := { scratchBase := 0, scratchSize := 262144, ddrBase := 0, ddrSize := 0, pasid := 0, keyIndex := 0, keyEpoch := 0, dclass := 0, queues := [] }

/-- Program 3 runs on core 9, with thread 0. -/
def progRuns (s : State) : State :=
  let s1 := (List.range 16).foldl (fun s p => s.wr .module Fld.pupProgState p 0) s
  let s2 := [(Fld.pupProgState, 2), (Fld.pupProgCoreFirst, 9), (Fld.pupProgCoreCount, 1)].foldl (fun s f => s.wr .module f.1 3 f.2) s1
  onEng (fun e => { e with grants := [(3, noGrant)] }) (onThread 9 0 (fun x => { x with running := true }) s2)

/-- PUPPET_MSG to thread 0 of the first core of program 3. -/
def msgPacket : Packet := sealed { dst := 0x40005, src := 0x281, opcode := 0xA1, tc := 6, plane := false, opx := 0x30, payload := [5, 6, 7] }

/-- The function answers, and window 0 of BAR2 maps the leaf of rack 5. -/
def aptState (s : State) : State :=
  let s1 := [(Fld.pciAptValid, 1), (Fld.pciAptRead, 1), (Fld.pciAptWrite, 1), (Fld.pciAptGfaHi, 0x40005 * 2 ^ 14), (Fld.pciAptKeyIndex, 0), (Fld.pciAptStream, 0),
    (Fld.pciStatusDState, 0)].foldl (fun s f => s.wr .module f.1 0 f.2) s
  s1.onM fun m => { m with pci := { m.pci with memEnable := true } }

/-- A module at a bring-up step, under way or ended. -/
def bringState (step : Nat) (busy : Bool) (s : State) : State :=
  (s.wr .module Fld.glbBringupStatusStep 0 step).wrb .module Fld.glbBringupStatusBusy 0 busy

/-- A module past a step, whose logical tile 5 has a role and lies on physical tile 5, with physical tile 33 free. -/
def tileState (role step : Nat) (s : State) : State :=
  let s1 := [(Fld.tilMapRole, 5, role), (Fld.tilMapPhysCol, 5, 5), (Fld.tilPhysRole, 5, role), (Fld.tilPhysRole, 33, 5), (Fld.tilPhysLogical, 5, 5), (Fld.tilPhysLogical, 33, 4095), (Fld.tilRoleCntInService, role, 20)].foldl
    (fun s f => s.wr .module f.1 f.2.1 f.2.2) (bringState step false s)
  (s1.onM fun m => { m with tile := { m.tile with migration := none, waiting := [], change := none } }).wrb .module Fld.jigRoleStatusBusy 0 false

/-- A TC1 packet with a time, and FLAGS, as its payload. -/
def timePkt (op : BitVec 8) (time flags : Nat) : Packet :=
  sealed { dst := 0x40005, src := 0x280, opcode := op, tc := 1, plane := false, opx := 7, length := 15, payload := timePayload time flags 1 }

/-- A follower in FREE whose one parent is port 3, which it follows. -/
def followState (s : State) : State :=
  let s1 := [(Fld.topCtlRole, 0), (Fld.topCtlParent0Valid, 1), (Fld.topCtlParent0, 3), (Fld.topCtlParent1Valid, 0), (Fld.topStatusState, 0), (Fld.telBgCtlPause, 0)].foldl
    (fun s f => s.wr .module f.1 0 f.2) s
  s1.onUnit .module fun u => { u with sync := { u.sync with source := some 3 } }

/-- A unit with an exchange of SEQ 7 under way on port 3, whose port it follows. -/
def timedState (sd : Side) (s : State) : State :=
  s.onUnit sd fun u => { u with sync := { u.sync with source := some 3, exchanges := [(3, { flags := 2, seq := 7, t1 := some (2 ^ 30), t2 := some (2 ^ 30 + 4096), req := some (7, 2 ^ 31) })] } }

/-- A ROOT without FREE_ROOT in a state of Top, whose discipline is not paused. -/
def rootState (st : Nat) (s : State) : State :=
  let s1 := [(Fld.topCtlRole, 1), (Fld.topCtlFreeRoot, 0), (Fld.topStatusState, st), (Fld.telBgCtlPause, 0), (Fld.glbBringupStatusEnabled, 0)].foldl
    (fun s f => s.wr .module f.1 0 f.2) s
  s1.onM fun m => { m with top := { m.top with atPps := false } }

/-- A follower in a state of Top with parents 3 and 5. -/
def twoParents (st : Nat) (s : State) (second : Bool) : State :=
  let s1 := [(Fld.topCtlRole, 0), (Fld.topCtlParent0Valid, 1), (Fld.topCtlParent0, 3), (Fld.topCtlParent1Valid, b2n second), (Fld.topCtlParent1, 5), (Fld.topStatusState, st),
    (Fld.telBgCtlPause, 0)].foldl (fun s f => s.wr .module f.1 0 f.2) s
  s1.onUnit .module fun u => { u with sync := { u.sync with source := some 3, exchanges := [(3, { flags := 2 }), (5, { flags := 2, seq := 3 })] } }

/-- A standby with AUTO_GM whose peer's pulse is gone. -/
def standbyState (s : State) : State :=
  let s1 := [(Fld.topCtlRole, 3), (Fld.topCtlAutoGm, 1), (Fld.topStatusPeerPpsOk, 0)].foldl (fun s f => s.wr .module f.1 0 f.2) s
  s1.onM fun m => { m with top := { m.top with gmTaken := false } }

/-- A leaf with GRANT_EN, whose slots 0 and 1 have limits, reports and grants, slot 1's lowered. -/
def powerLeaf (s : State) : State :=
  let s1 := [(Fld.pwrEpMax, 400), (Fld.pwrEpFloor, 50), (Fld.pwrEpWeight, 1), (Fld.pwrEpGrant, 200), (Fld.pwrEpReport, 300)].foldl
    (fun s f => (s.wr .module f.1 0 f.2).wr .module f.1 1 f.2) (leafState s)
  let s2 := [(Fld.pwrCapCtlRackCap, 500), (Fld.pwrCapCtlGrantEn, 1), (Fld.pwrCapCtlOtherW, 0), (Fld.pwrCapCtlOwnCap, 100), (Fld.pwrStatusWarnPin, 0)].foldl
    (fun s f => s.wr .module f.1 0 f.2) s1
  s2.onM fun m => { m with power := { m.power with lowered := [1], violations := [], uvWarn := false, loss := false } }

/-- A unit with one established session, number 5, of some roles, out of recovery mode. -/
def sessionState (sd : Side) (roles : Nat) (s : State) : State :=
  (s.wr .module Fld.mgtStatusPupState 0 1).onUnit sd fun u => { u with mgmt := { u.mgmt with sessions := [{ id := 5, key := [9], roles := roles, secret := [4], established := true }] } }

/-- Both units' slot 7 in a state, at an epoch, with keys. -/
def slotAt (st e : Nat) (s : State) : State :=
  let s1 := [(Fld.secSlotState, st), (Fld.secSlotEpoch, e), (Fld.secSlotClass, 0), (Fld.secSlotEpochOpen, 0)].foldl (fun s f => s.wr .module f.1 7 f.2) s
  let x : KeySlot := { state := st, epoch := e, epochOpen := false, link := [1], prev := [2], owner := [9] }
  (s1.onUnit .module fun u => { u with keys := [(7, x)] }).onUnit .endpoint fun u => { u with keys := [(7, x)] }

/-- Both units with no operation that has finished. -/
def settledState (s : State) : State := (s.onXpt .module fun x => { x with finished := [] }).onXpt .endpoint fun x => { x with finished := [] }

/-- A snoop to slot 1 of line 9, sent so many times, that waits for its answer. -/
def snoopWaits (n : Nat) (s : State) : State :=
  let p := { testPacket 2 0x40 0x40005 0x281 with xseq := 4, offset := 576 }
  (leafState s).onM fun m => { m with dir := { m.dir with txns := [{ id := 1, use := .evict, lines := [9], tseq := 4, snoops := [{ slot := 1, pkt := p, sent := n }] }] } }

/-- An open chunk of context 2 whose check has failed, restarted so many times of 3. -/
def lateChunk (n : Nat) (s : State) : State :=
  let s1 := (List.range 16).foldl (fun s e => s.wrb .module Fld.fltShadowValid e false) s
  s1.onM fun m => { m with mrn := { m.mrn with chunks := [{ openedChunk with ctx := 2, step := 5, chunk := 6, restarts := n, maxRestarts := 3, badCheck := true }] } }

/-- A port with LINK_DOWN and no active lane, whose unit is live. -/
def liveDown (p : Nat) (s : State) : State :=
  [(Fld.fltLiveEvidence, p, 1), (Fld.prtStatusActiveMask, p, 0), (Fld.fltLiveState, p, 0), (Fld.fltCtlQuarEn, 0, 1)].foldl (fun s f => s.wr .module f.1 f.2.1 f.2.2) s

/-- A leaf whose slots 0 and 1 are tray 4, whose ports have left UP. -/
def trayState (s : State) : State :=
  let s0 := (List.range 128).foldl (fun s k => s.wr .module Fld.fltDomainValid k 0) (leafState s)
  let s1 := [0, 1].foldl (fun s k => (s.wr .module Fld.fltDomainValid k 1).wr .module Fld.fltDomainTray k 4) s0
  let s2 := [3, 5].foldl (fun s p => s.wr .module Fld.prtStatusState p 0) s1
  s2.onM fun m => { m with live := { m.live with trays := [4], downAt := [(3, 100), (5, 1000)] } }

/-- A leaf with a MANAGE session and WITNESS, whose port 3 alone faces 0x281. -/
def facesState (s : State) : State :=
  let s1 := (List.range 1024).foldl (fun s p => s.wr .module Fld.lnkFarIdEid p 0) (sessionState .module 15 s)
  (s1.wr .module Fld.lnkFarIdEid 3 0x281).wr .module Fld.fltLiveWitness 3 1

/-- Injection armed, with one rule, number 4, on a DDR5 channel, at every interval. -/
def armedRule (bits : Nat) (s : State) : State :=
  let s0 := (List.range 64).foldl (fun s j => s.wr .module Fld.ratRuleValid j 0) (settledState s)
  [(Fld.ratRuleValid, 4, 1), (Fld.ratRuleKind, 4, 7), (Fld.ratRuleTargetType, 4, 3), (Fld.ratRuleTarget, 4, 2), (Fld.ratRuleParam, 4, bits),
    (Fld.ratRuleRateLog2, 4, 0), (Fld.secStatusTestArmed, 0, 1), (Fld.ratCtlEnable, 0, 1)].foldl (fun s f => s.wr .module f.1 f.2.1 f.2.2) s0

/-- The answer is this value. -/
def isOk {ε α : Type} [DecidableEq α] (x : Except ε α) (v : α) : Bool := match x with
  | .ok a => decide (a = v)
  | .error _ => false

/-- The answer is this error. -/
def isErr {ε α : Type} [DecidableEq ε] (x : Except ε α) (v : ε) : Bool := match x with
  | .ok _ => false
  | .error a => decide (a = v)

theorem isOk_eq {ε α : Type} [DecidableEq α] {x : Except ε α} {v : α} (h : isOk x v = true) : x = .ok v := by
  cases x <;> simp_all [isOk]

theorem isErr_eq {ε α : Type} [DecidableEq ε] {x : Except ε α} {v : ε} (h : isErr x v = true) : x = .error v := by
  cases x <;> simp_all [isErr]

/-! ## WellFormed -/

/-- A well-formed command of each kind of check is accepted. -/
theorem test_wellFormed_accepts : ([.registerWrite .module .host 0x3FFFFF8 [1] false, .registerWrite .endpoint .corePort 0xFFFF8 [1] false,
    .farSignalDetected .module 1023, .farSignalDetected .endpoint 15, .lanePowerRequest .module .host 0 3, .packetTransmit .module 0 10,
    .xqLoad 63 4095 0 256 0, .cohRd 63 4095 (2 ^ 64 - 1) 1, .dmaDoorbell 32 65535, .memTimeout 1 4095, .fill 71,
    .tokenExpired 11, .pauseLimitExpire 5, .domCtrWrite 1023 (2 ^ 32 - 1), .fenceComplete .endpoint 127] : List Instr).all wellFormed = true := by
  decide +kernel

/-- A command with one operand out of range is refused, a term for each check. -/
theorem test_wellFormed_refuses : ([
    .registerWrite .module .corePort 0 [] false, .registerWrite .endpoint .host 0 [] false, .registerWrite .module .host (2 ^ 26) [] false,
    .registerWrite .endpoint .management (2 ^ 20) [] false, .lnkPlanWrite .corePort 0 0, .farSignalDetected .module 1024,
    .farSignalLost .endpoint 16, .lanePowerRequest .module .host 0 4, .packetTransmit .module 0 11, .xqLoad 64 0 0 1 0, .xqLoad 0 4096 0 1 0,
    .cohRd 0 0 (2 ^ 64) 1, .xqLoad 0 0 0 0 0, .cohRd 0 0 0 257, .xqStore 0 0 0 0 [], .fenceComplete .endpoint 128, .trigPost 0 0 [1],
    .domCtrWrite 1024 0, .domCtrWrite 0 (2 ^ 32), .dmaDoorbell 33 0, .dmaDoorbell 0 65536, .memTimeout 2 0, .fill 72, .tokenExpired 12,
    .pauseLimitExpire 6, .snapCtl 65536, .apertureRead (2 ^ 36) 8, .apertureRead 0 4097, .ddr5Training .host [] [] true] : List Instr).all
    (fun c => !wellFormed c) = true := by decide +kernel

/-! ## Codes: the published check values over the ASCII digits 1 to 9 -/

/-- CRC-64 of R117 (polynomial of ECMA-182, all ones before and after, not reflected). -/
theorem test_crc64 : crc64 ([0x31, 0x32, 0x33, 0x34, 0x35, 0x36, 0x37, 0x38, 0x39] : List Byte) = 0x62EC59E3F1A4F00A := by decide +kernel

/-- CRC-32C of the packet check (R69). -/
theorem test_crc32c : crc32c ([0x31, 0x32, 0x33, 0x34, 0x35, 0x36, 0x37, 0x38, 0x39] : List Byte) = 0xE3069283 := by decide +kernel

/-- CRC-16 of a control block (R83). -/
theorem test_crc16 : crc16 ([0x31, 0x32, 0x33, 0x34, 0x35, 0x36, 0x37, 0x38, 0x39] : List Byte) = 0x29B1 := by decide +kernel

/-! ## Single steps -/

/-- What one step answers, looked at. -/
def after (s : State) (f : State → Bool) : Bool := match step s with
  | .next t => f t
  | _ => false

/-- R453: a nanosecond is 2^16 units of the fabric time's fraction. -/
theorem test_idle_nanosecond : after State.reset (fun t => decide (t.module.time = 65536) && decide (t.now = 1)) = true := by decide +kernel

/-- R88: a far-end signal takes a lane from DETECT to LOCK. -/
theorem test_farSignalDetected : after { State.reset.wr .module Fld.lnkStatusState 9 1 with pending := [.farSignalDetected .module 9] }
    (fun t => decide (t.rd .module Fld.lnkStatusState 9 = 2) && t.pending.isEmpty) = true := by decide +kernel

/-- R519: TEST_ARMED needs a TEST session. -/
theorem test_testArm_denied : after { sessionState .module 14 State.reset with pending := [.testArm 5 true] }
    (fun t => !t.rdb .module Fld.secStatusTestArmed) = true := by decide +kernel

/-- R152: bit 1 of NOC.CTL is PLANE1_DIS, in the first of the eight bytes of a host write (R556). -/
theorem test_registerWrite_nocCtl : after { State.reset with pending := [.registerWrite .module .host (regOffset .module .nocCtl 0 0)
    [2, 0, 0, 0, 0, 0, 0, 0] false] } (fun t => t.rdb .module Fld.nocCtlPlane1Dis && !t.rdb .module Fld.nocCtlPlane0Dis) = true := by
  decide +kernel

/-- R79's worked example: the bit pairs 00, 11, 10, 01 give levels 0, 2, 3, 1 and precode to 0, 2, 1, 0. -/
theorem test_precode_example : lineLevels [false, false, true, true, true, false, false, true] = [0, 2, 3, 1]
    ∧ precode 0 [0, 2, 3, 1] = [0, 2, 1, 0] ∧ unprecode 0 [0, 2, 1, 0] = [0, 2, 3, 1] := by decide

/-- No row of the table has bits. -/
theorem test_decode_none : decodeTableWord 64 0 = none := by decide

/-! ## States and operands that meet the statements' hypotheses -/

/-- An empty queue meets the hypothesis of IdleStepPassesANanosecond. -/
theorem met_IdleStepPassesANanosecond : State.reset.pending = [] := by decide +kernel

/-- A lane waits in DETECT and a command is at the front of the queue. -/
def waiting : State := { State.reset with pending := [.farSignalDetected .module 9] }

/-- That state meets the invariant, and a step from it answers a next state. -/
theorem met_EveryStepKeepsTheInvariant : ∃ t, Inv waiting ∧ step waiting = .next t :=
  ⟨_, { ddr := by decide, fast := by decide, mwin := by decide, scratch := by decide
        regs := fun sd => by cases sd <;> decide
        time := fun sd => by cases sd <;> decide
        reserved := fun sd r i w h => by cases sd <;> exact regReset_reserved _ r i w h }, rfl⟩
/-- A command answers a next state. -/
theorem met_CommandsTouchOnlyTheirParts : ∃ t, exec (.farSignalDetected .module 9) State.reset = .next t := ⟨_, rfl⟩

/-- A flit of 240 slot bytes, as FlitCrcIsTheEcmaRemainder's third clause asks. -/
theorem met_FlitCrcIsTheEcmaRemainder : (testFlit 2 5).slots.length = 240 := by decide +kernel

/-- A stream of 20 bits, two lanes that both precode, and two codewords meet each clause of LineCodeIsUndoneAtTheOtherEnd. -/
theorem met_LineCodeIsUndoneAtTheOtherEnd :
    let s := (State.reset.wrb .module Fld.lnkStatusPrecodeTx 3 true).wrb .endpoint Fld.lnkStatusPrecodeRx 5 true
    (List.replicate 20 true).length % 2 = 0 ∧ (List.replicate 20 true).length % 10 = 0
      ∧ s.rdb .endpoint Fld.lnkStatusPrecodeRx 5 = s.rdb .module Fld.lnkStatusPrecodeTx 3
      ∧ 15 < 8 * ([1, 2] : List Byte).length ∧ ([1, 2] : List (BitVec 10)).length = ([3, 4] : List (BitVec 10)).length := by
  decide +kernel

theorem met_LaneTrainingAdvances :
    (let sd : Side := .module;
      let n : Nat := 0;
      let s : State := State.reset;
      let s : State := s.wr sd Fld.lnkStatusState n 1;
      decide ((laneSt sd n s = 1))) = true
    ∧ (let sd : Side := .module;
      let n : Nat := 0;
      let s : State := State.reset;
      decide ((laneSt sd n s ≠ 1))) = true
    ∧ ((fun (cb : ControlBlock) => decide ((controlGood cb = false))) ({ testBlock with mark := 0 })) = true
    ∧ (let sd : Side := .module;
      let n : Nat := 0;
      let s : State := State.reset;
      let s : State := (s.wr sd Fld.lnkStatusState n 2).onLane sd n fun l => { l with goodBlocks := 2 };
      (fun (cb : ControlBlock) => decide ((controlGood cb = true) ∧ (laneSt sd n s = 2))) (testBlock)) = true
    ∧ (let sd : Side := .endpoint;
      let n : Nat := 3;
      let s : State := State.reset;
      let s : State := s.wr sd Fld.lnkStatusState n 3;
      (fun (cb : ControlBlock) => decide ((controlGood cb = true) ∧ (laneSt sd n s = 3))) (goodBlock { testBlock with ident := 0x3FF12345 })) = true
    ∧ (let sd : Side := .module;
      let n : Nat := 0;
      let s : State := State.reset;
      let s : State := s.wr sd Fld.lnkStatusState n 4;
      (fun (cb : ControlBlock) => decide ((controlGood cb = true) ∧ (laneSt sd n s = 4))) (testBlock)) = true
    ∧ (let sd : Side := .module;
      let n : Nat := 0;
      let s : State := State.reset;
      let s : State := s.wr sd Fld.lnkStatusState n 5;
      (fun (cb : ControlBlock) => decide ((controlGood cb = true) ∧ (laneSt sd n s = 5))) (testBlock)) = true
    ∧ (let sd : Side := .module;
      let n : Nat := 0;
      let s : State := State.reset;
      let s : State := (s.wr sd Fld.lnkStatusState n 5).wr sd Fld.lnkStatusAttempts n 1;
      (fun (cb : ControlBlock) (rx : ReceiverView) => decide ((controlGood cb = true) ∧ (laneSt sd n s = 5) ∧ (s.rd sd Fld.lnkStatusAttempts n < 2) ∧ (inSpan rx.spanPs = false))) (testBlock) ({ rxDone := true, spanPs := 64001 })) = true
    ∧ (let sd : Side := .module;
      let n : Nat := 0;
      let s : State := State.reset;
      let s : State := s.wr sd Fld.lnkStatusState n 12;
      (fun (cb : ControlBlock) => decide ((controlGood cb = true) ∧ (laneSt sd n s ∈ [0, 1, 8, 9, 10, 12]))) (testBlock)) = true
    ∧ (let sd : Side := .module;
      let n : Nat := 0;
      let s : State := State.reset;
      let s : State := s.wr sd Fld.lnkStatusState n 6;
      (fun errors => decide ((laneSt sd n s = 6) ∧ (errors ≤ 537600))) (537600)) = true
    ∧ (let sd : Side := .module;
      let n : Nat := 0;
      let s : State := State.reset;
      let s : State := ((s.wr sd Fld.lnkStatusState n 7).wr sd Fld.prtCtlWidth 0 8).wr sd Fld.prtStatusActiveMask 0 1;
      decide ((laneSt sd n s = 7) ∧ (laneInPort sd n s = true))) = true
    ∧ (let sd : Side := .module;
      let n : Nat := 0;
      let s : State := State.reset;
      let s : State := (s.wr sd Fld.prtCtlWidth 0 8).wr sd Fld.prtStatusActiveMask 0 2;
      decide ((laneInPort sd n s = false))) = true
    ∧ (let sd : Side := .module;
      let n : Nat := 0;
      let s : State := State.reset;
      let s : State := (s.wr sd Fld.lnkStatusState n 4).onLane sd n fun l => { l with farRequest := some (0x1020, 0) };
      (fun req taps => decide (((s.lane sd n).farRequest = some (req, taps)) ∧ (sendsFrames (laneSt sd n s) = true))) (0x1020) (0)) = true
    ∧ (let sd : Side := .module;
      let n : Nat := 0;
      let s : State := State.reset;
      decide (((s.lane sd n).farRequest = none))) = true := by decide +kernel

theorem met_LaneAttemptFails :
    (let sd : Side := .module;
      let n : Nat := 0;
      let s : State := State.reset;
      let s : State := (s.wr sd Fld.lnkStatusState n 7).wr sd Fld.lnkStatusAttempts n 1;
      let u := laneLeaves sd n s;
      let a := u.rd sd Fld.lnkStatusAttempts n;
      decide ((2 ≤ laneSt sd n s) ∧ (laneSt sd n s ≤ 7) ∧ (a < 2))) = true
    ∧ (let sd : Side := .module;
      let n : Nat := 0;
      let s : State := State.reset;
      let s : State := ((s.wr sd Fld.lnkStatusState n 2).wr sd Fld.lnkStatusAttempts n 2).onUnit sd fun u => { u with badSlices := (List.range 136).map fun x => (0, x) };
      let u := laneLeaves sd n s;
      let a := u.rd sd Fld.lnkStatusAttempts n;
      decide ((2 ≤ laneSt sd n s) ∧ (laneSt sd n s ≤ 7) ∧ (2 ≤ a) ∧ (freeSlice sd n u = none))) = true
    ∧ (let sd : Side := .module;
      let n : Nat := 0;
      let s : State := State.reset;
      let s : State := s.wr sd Fld.lnkStatusState n 8;
      decide ((laneSt sd n s < 2 ∨ 7 < laneSt sd n s))) = true
    ∧ (let sd : Side := .module;
      let n : Nat := 0;
      let s : State := State.reset;
      let s : State := (s.wr sd Fld.lnkStatusState n 6).wr sd Fld.lnkStatusAttempts n 1;
      (fun errors => decide ((laneSt sd n s = 6) ∧ (537600 < errors) ∧ (s.rd sd Fld.lnkStatusAttempts n < 2))) (537601)) = true
    ∧ (let sd : Side := .module;
      let n : Nat := 0;
      let s : State := State.reset;
      let s : State := s.wr sd Fld.lnkStatusState n 13;
      (fun errors => decide ((laneSt sd n s = 13) ∧ (4480 < errors))) (4481)) = true
    ∧ (let sd : Side := .module;
      let n : Nat := 0;
      let s : State := State.reset;
      let s : State := ((s.wr sd Fld.lnkStatusState n 2).wr sd Fld.lnkStatusAttempts n 1).wr sd Fld.lnkCtlCircuit n 0;
      let u := laneLeaves sd n s;
      let a := u.rd sd Fld.lnkStatusAttempts n;
      decide ((inAttempt (laneSt sd n s) = true) ∧ (s.rdb sd Fld.lnkCtlCircuit n = false) ∧ ((s.lane sd n).fast = false) ∧ (a < 2))) = true
    ∧ (let sd : Side := .module;
      let n : Nat := 0;
      let s : State := State.reset;
      let s : State := (s.wr sd Fld.lnkStatusState n 13).wr sd Fld.lnkCtlCircuit n 1;
      decide ((inAttempt (laneSt sd n s) = true) ∧ (s.rdb sd Fld.lnkCtlCircuit n = true))) = true
    ∧ (let sd : Side := .module;
      let n : Nat := 0;
      let s : State := State.reset;
      let s : State := ((s.wr sd Fld.lnkStatusState n 8).wr sd Fld.prtCtlWidth 0 8).wr sd Fld.prtStatusActiveMask 0 1;
      decide ((laneSt sd n s = 8))) = true
    ∧ (let sd : Side := .module;
      let n : Nat := 0;
      let s : State := State.reset;
      let s : State := (s.wr sd Fld.lnkStatusState n 13).wr sd Fld.lnkStatusAttempts n 1;
      let u := laneLeaves sd n s;
      let a := u.rd sd Fld.lnkStatusAttempts n;
      decide ((laneSt sd n s = 13) ∧ (a < 2))) = true := by decide +kernel

theorem met_LaneSoftwareRequests :
    (let sd : Side := .module;
      let n : Nat := 0;
      let s : State := State.reset;
      let s : State := s.wr sd Fld.lnkStatusState n 12;
      decide ((laneSt sd n s ≠ 0) ∧ (laneSt sd n s ≠ 10))) = true
    ∧ (let sd : Side := .module;
      let n : Nat := 0;
      let s : State := State.reset;
      let s : State := s.wr sd Fld.lnkStatusState n 10;
      decide ((laneSt sd n s = 0 ∨ laneSt sd n s = 10))) = true
    ∧ (let sd : Side := .module;
      let n : Nat := 0;
      let s : State := State.reset;
      let s : State := (List.range 6).foldl (fun s k => s.wr sd Fld.lnkStatusSlice k 0) s;
      (fun x => decide ((freeSlice sd n s = some x))) (1)) = true
    ∧ (let sd : Side := .module;
      let n : Nat := 0;
      let s : State := State.reset;
      let s : State := s.onUnit sd fun u => { u with badSlices := (List.range 136).map fun x => (0, x) };
      decide ((freeSlice sd n s = none))) = true
    ∧ (let sd : Side := .module;
      let path : Path := .host;
      let n : Nat := 0;
      let s : State := State.reset;
      let s : State := s.wr sd Fld.lnkStatusState n 4;
      (fun power => decide ((power ≤ 2) ∧ (rwlOpen sd path (regOffset sd .lnkCtl n 0) s = true))) (2)) = true
    ∧ (let sd : Side := .module;
      let path : Path := .host;
      let n : Nat := 0;
      let s : State := State.reset;
      let s : State := s.wr .module Fld.secOwnHeld 0 0xFFF;
      decide ((rwlOpen sd path (regOffset sd .lnkCtl n 0) s = false))) = true
    ∧ (let sd : Side := .module;
      let path : Path := .host;
      let n : Nat := 0;
      let s : State := State.reset;
      let s : State := (s.wr sd Fld.lnkStatusState n 0).wr .module Fld.glbBringupStatusStep 0 9;
      decide ((rwlOpen sd path (regOffset sd .lnkCtl n 0) s = true))) = true
    ∧ (let sd : Side := .endpoint;
      let path : Path := .corePort;
      let n : Nat := 0;
      let s : State := State.reset;
      let s : State := s.wrb .endpoint Fld.fxeIdMgmtLock 0 true;
      decide ((rwlOpen sd path (regOffset sd .lnkCtl n 0) s = false))) = true := by decide +kernel

theorem met_LaneInData :
    (let sd : Side := .module;
      let n : Nat := 0;
      let s : State := State.reset;
      let s : State := s.wr sd Fld.lnkStatusState n 8;
      (fun (m : Marker) spanPs => decide ((laneSt sd n s = 8) ∧ (m.sync = 0xC35A96) ∧ (inSpan spanPs = false))) ({ sync := 0xC35A96, position := 0, port := 0, count := 0, bip := 0 }) (64001)) = true
    ∧ (let sd : Side := .module;
      let n : Nat := 0;
      let s : State := State.reset;
      let s : State := (s.wr sd Fld.lnkStatusState n 8).onLane sd n fun l => { l with nextMarker := some 5 };
      (fun (m : Marker) spanPs => decide ((laneSt sd n s = 8) ∧ (m.sync = 0xC35A96) ∧ ((s.lane sd n).nextMarker = some m.count) ∧ (inSpan spanPs = true) ∧ (bitsOf (s.word sd .lnkBipErr n 0) 47 0 + 8 < countMax))) ({ sync := 0xC35A96, position := 0, port := 0, count := 5, bip := 255 }) (-64000)) = true
    ∧ (let sd : Side := .module;
      let n : Nat := 0;
      let s : State := State.reset;
      let s : State := s.wr sd Fld.lnkStatusState n 8;
      (fun errors bits => decide ((laneSt sd n s = 8) ∧ (ratioHigh errors bits = false))) (5) (10000)) = true
    ∧ (let sd : Side := .module;
      let n : Nat := 0;
      let s : State := State.reset;
      let s : State := (s.wr sd Fld.lnkStatusState n 8).onUnit sd fun u => { u with badSlices := (List.range 136).map fun x => (0, x) };
      (fun errors bits => decide ((laneSt sd n s = 8) ∧ (ratioHigh errors bits = true) ∧ (freeSlice sd n s = none))) (6) (10000)) = true
    ∧ (let sd : Side := .module;
      let n : Nat := 0;
      let s : State := State.reset;
      let s : State := ((List.range 6).foldl (fun s k => s.wr sd Fld.lnkStatusSlice k 0) s).wr sd Fld.lnkStatusState n 8;
      (fun errors bits x => decide ((laneSt sd n s = 8) ∧ (ratioHigh errors bits = true) ∧ (freeSlice sd n s = some x))) (6) (10000) (1)) = true
    ∧ (let sd : Side := .module;
      let n : Nat := 0;
      let s : State := State.reset;
      let s : State := s.wr sd Fld.lnkStatusState n 8;
      (fun (path : Path) => decide ((rwlOpen .module path (regOffset .module .lnkPlan n 0) s = true))) (.management)) = true
    ∧ (let sd : Side := .module;
      let n : Nat := 0;
      let s : State := State.reset;
      let s : State := s.wr sd Fld.prtStatusState n 2;
      (fun pkt => decide ((portUp sd n s = true) ∧ (pchkGood pkt = false))) ({ dst := 0, src := 0, opcode := 3, tc := 0, plane := false, pchk := 1 })) = true
    ∧ (let sd : Side := .module;
      let n : Nat := 0;
      let s : State := State.reset;
      let s : State := s.wr sd Fld.prtStatusState n 4;
      decide ((portUp sd n s = true))) = true
    ∧ (let sd : Side := .module;
      let n : Nat := 0;
      let s : State := State.reset;
      let s : State := s.wr sd Fld.prtStatusState n 4;
      decide ((portUp sd n s = true))) = true
    ∧ (let sd : Side := .module;
      let n : Nat := 0;
      let s : State := State.reset;
      let s : State := s.wr sd Fld.prtStatusState n 1;
      decide ((portUp sd n s = false))) = true
    ∧ (let sd : Side := .module;
      let n : Nat := 0;
      let s : State := State.reset;
      let s : State := s.onLane sd n fun l => { l with laneCtl := some 0x1020 };
      (fun pkt req => decide ((pchkGood pkt = true) ∧ (pkt.opx.getLsbD 26 = true) ∧ ((s.lane sd (pkt.opx.toNat / 2 ^ 16 % 2 ^ 10)).laneCtl = some req) ∧ (req.toNat / 2 ^ 12 = (pkt.opx.setWidth 16).toNat / 2 ^ 12))) (sealed { dst := 0, src := 0, opcode := 4, tc := 0, plane := false, opx := 0x4001000 }) (0x1020)) = true
    ∧ (let sd : Side := .module;
      let n : Nat := 0;
      let s : State := State.reset;
      let s : State := s.onLane sd n fun l => { l with laneCtl := some 0x1020 };
      decide (((s.lane sd n).laneCtl.isSome = true))) = true
    ∧ (let sd : Side := .module;
      let n : Nat := 0;
      let s : State := State.reset;
      let s : State := s.wr sd Fld.lnkStatusState n 9;
      decide ((laneSt sd n s = 9))) = true
    ∧ (let sd : Side := .module;
      let n : Nat := 0;
      let s : State := State.reset;
      let s : State := s.wr sd Fld.lnkStatusState n 9;
      decide ((laneSt sd n s = 9) ∧ (wantedPower sd n s = 0))) = true
    ∧ (let sd : Side := .module;
      let n : Nat := 0;
      let s : State := State.reset;
      let s : State := ((s.wr sd Fld.lnkStatusState n 9).wr sd Fld.lnkCtlPower n 0);
      decide ((laneSt sd n s = 9) ∧ (wantedPower sd n s = 0))) = true
    ∧ (let sd : Side := .module;
      let n : Nat := 0;
      let s : State := State.reset;
      let s : State := s.wr sd Fld.lnkStatusState n 9;
      decide ((laneSt sd n s = 9))) = true
    ∧ (let sd : Side := .module;
      let n : Nat := 0;
      let s : State := State.reset;
      let s : State := s.wr sd Fld.lnkStatusState n 8;
      decide ((laneSt sd n s ≠ 9))) = true := by decide +kernel

theorem met_LinkFlitsAreTaken :
    (let sd : Side := .module;
      let p : Nat := 0;
      let lane : Nat := 1;
      let s : State := State.reset;
      let s : State := (s.wr sd Fld.prtStatusState 0 2).wr sd Fld.prtStatusActiveMask 0 1;
      decide ((flitHeard sd p lane s = false))) = true
    ∧ (let sd : Side := .module;
      let p : Nat := 0;
      let lane : Nat := 0;
      let f : Flit := testFlit 7 5;
      let unc : Bool := false;
      let s : State := State.reset;
      let s : State := (s.wr sd Fld.prtStatusState 0 2).wr sd Fld.prtStatusActiveMask 0 1;
      decide ((flitHeard sd p lane s = true) ∧ (flitFails (s.port sd p) f unc = true) ∧ (isReplayed (s.port sd p) f = false))) = true
    ∧ (let sd : Side := .module;
      let p : Nat := 0;
      let lane : Nat := 0;
      let f : Flit := testFlit 0x20 0;
      let unc : Bool := false;
      let s : State := State.reset;
      let s : State := (s.wr sd Fld.prtStatusState 0 2).wr sd Fld.prtStatusActiveMask 0 1;
      (fun ps => decide ((flitHeard sd p lane s = true) ∧ (flitFails (s.port sd p) f unc = false) ∧ (isReplayed (s.port sd p) f = false) ∧ ((s.port sd p).discarding = false) ∧ (takeCredits (s.port sd p) f.credit = some ps) ∧ (f.type = 0x20))) (s.port sd p)) = true
    ∧ (let sd : Side := .module;
      let p : Nat := 0;
      let lane : Nat := 0;
      let f : Flit := testFlit 1 0;
      let unc : Bool := false;
      let s : State := State.reset;
      let s : State := (s.wr sd Fld.prtStatusState 0 2).wr sd Fld.prtStatusActiveMask 0 1;
      (fun ps rest => decide ((flitHeard sd p lane s = true) ∧ (flitFails (s.port sd p) f unc = false) ∧ (isReplayed (s.port sd p) f = false) ∧ ((s.port sd p).discarding = false) ∧ (takeCredits (s.port sd p) f.credit = some ps) ∧ (1 ≤ f.type.toNat) ∧ (f.type.toNat ≤ 15) ∧ (takePackets 16 ((s.port sd p).rxStream ++ f.slots.take (16 * f.type.toNat)) = ([], rest)))) (s.port sd p) (zeros 16)) = true
    ∧ (let sd : Side := .module;
      let p : Nat := 0;
      let lane : Nat := 0;
      let f : Flit := { testFlit 2 0 with slots := padSlots (packetBytes creditPacket), crc := crc64 (flitCrcBytes { testFlit 2 0 with slots := padSlots (packetBytes creditPacket) }) };
      let unc : Bool := false;
      let s : State := State.reset;
      let s : State := ((s.wr sd Fld.prtStatusState 0 2).wr sd Fld.prtStatusActiveMask 0 1).onPort sd 0 fun x => { x with grant := List.replicate 11 300, inUse := List.replicate 11 298 };
      (fun ps pkt rest => decide ((flitHeard sd p lane s = true) ∧ (flitFails (s.port sd p) f unc = false) ∧ (isReplayed (s.port sd p) f = false) ∧ ((s.port sd p).discarding = false) ∧ (takeCredits (s.port sd p) f.credit = some ps) ∧ (1 ≤ f.type.toNat) ∧ (f.type.toNat ≤ 15) ∧ (takePackets 16 ((s.port sd p).rxStream ++ f.slots.take (16 * f.type.toNat)) = ([pkt], rest)) ∧ ((s.port sd p).inUse.getD (poolOf pkt.opcode) 0 + packetSlots pkt ≤ (s.port sd p).grant.getD (poolOf pkt.opcode) 0))) (s.port sd p) (creditPacket) ([])) = true
    ∧ (let sd : Side := .module;
      let p : Nat := 0;
      let lane : Nat := 0;
      let f : Flit := testFlit 0 5;
      let unc : Bool := false;
      let s : State := State.reset;
      let s : State := (s.wr sd Fld.prtStatusState 0 2).wr sd Fld.prtStatusActiveMask 0 1;
      (fun ps => decide ((flitHeard sd p lane s = true) ∧ (flitFails (s.port sd p) f unc = false) ∧ (isReplayed (s.port sd p) f = false) ∧ ((s.port sd p).discarding = false) ∧ (takeCredits (s.port sd p) f.credit = some ps) ∧ (f.type = 0))) (s.port sd p)) = true := by decide +kernel

theorem met_LinkReplaysAndResyncs :
    (let sd : Side := .module;
      let p : Nat := 0;
      let lane : Nat := 0;
      let f : Flit := testFlit 0x30 0;
      let s : State := State.reset;
      let s : State := (s.wr sd Fld.prtStatusState 0 2).wr sd Fld.prtStatusActiveMask 0 1;
      (fun ps => decide ((flitHeard sd p lane s = true) ∧ (f.type = 0x30) ∧ (flitFails (s.port sd p) f false = false) ∧ ((s.port sd p).discarding = false) ∧ (takeCredits (s.port sd p) f.credit = some ps) ∧ ((s.port sd p).replays < 8))) (s.port sd p)) = true
    ∧ (let f : Flit := testFlit 0x20 0;
      decide ((f.type ≠ 0x30))) = true
    ∧ (let sd : Side := .module;
      let p : Nat := 0;
      let lane : Nat := 0;
      let f : Flit := resyncFlit 0xFFF 3;
      let s : State := State.reset;
      let s : State := (s.wr sd Fld.prtStatusState 0 1).wr sd Fld.prtStatusActiveMask 0 1;
      (fun ps => decide ((flitHeard sd p lane s = true) ∧ (f.type = 0x31) ∧ (flitFails (s.port sd p) f false = false) ∧ (takeCredits (s.port sd p) f.credit = some ps) ∧ (portSt sd p s = 1) ∧ ((s.port sd p).initReceived = false) ∧ (f.slots.getD 0 0 ≠ 0))) (s.port sd p)) = true
    ∧ (let sd : Side := .module;
      let p : Nat := 0;
      let lane : Nat := 0;
      let f : Flit := resyncFlit 0 1;
      let s : State := State.reset;
      let s : State := (s.wr sd Fld.prtStatusState 0 4).wr sd Fld.prtStatusActiveMask 0 1;
      (fun ps => decide ((flitHeard sd p lane s = true) ∧ (f.type = 0x31) ∧ (flitFails (s.port sd p) f false = false) ∧ (takeCredits (s.port sd p) f.credit = some ps) ∧ (portUp sd p s = true) ∧ ((f.slots.getD 0 0).toNat = activeMask sd p s) ∧ (f.slots.getD 0 0 ≠ 0) ∧ ((s.port sd p).resyncDue = false))) (s.port sd p)) = true
    ∧ (let f : Flit := testFlit 0x20 0;
      decide ((f.type ≠ 0x31))) = true
    ∧ (let sd : Side := .module;
      let p : Nat := 0;
      let s : State := State.reset;
      let s : State := (s.wr sd Fld.prtStatusState 0 1).onPort sd 0 fun x => { x with discarding := true };
      decide ((portSt sd p s ≠ 0) ∧ ((s.port sd p).discarding = true))) = true
    ∧ (let sd : Side := .module;
      let p : Nat := 0;
      let s : State := State.reset;
      let s : State := (s.wr sd Fld.prtStatusState 0 2).wr sd Fld.prtStatusActiveMask 0 1;
      decide (((s.port sd p).discarding = false))) = true
    ∧ (let sd : Side := .module;
      let p : Nat := 0;
      let s : State := State.reset;
      let s : State := (s.wr sd Fld.prtStatusState 0 1).onPort sd 0 fun x => { x with replays := 7, retry := [{ type := 1, seq := 4, slots := zeros 240 }] };
      decide ((portSt sd p s ≠ 0) ∧ ((s.port sd p).retry ≠ []) ∧ ((s.port sd p).replays < 8))) = true
    ∧ (let sd : Side := .module;
      let p : Nat := 0;
      let s : State := State.reset;
      let s : State := ((s.wr sd Fld.prtStatusState 0 1).wr sd Fld.prtStatusActiveMask 0 1).onPort sd 0 fun x => { x with replays := 8, retry := [{ type := 1, seq := 4, slots := zeros 240 }] };
      decide ((portSt sd p s ≠ 0) ∧ ((s.port sd p).retry ≠ []) ∧ (8 ≤ (s.port sd p).replays) ∧ ((maskLanes p (activeMask sd p s)).length ≤ max 1 (s.rd sd Fld.prtCtlMinWidth p)))) = true
    ∧ (let sd : Side := .module;
      let p : Nat := 0;
      let s : State := State.reset;
      let s : State := (s.wr sd Fld.prtStatusState 0 2).wr sd Fld.prtStatusActiveMask 0 1;
      decide (((s.port sd p).retry = []))) = true := by decide +kernel

theorem met_PortsFormAndGoDown :
    (let sd : Side := .module;
      let p : Nat := 0;
      let s : State := State.reset;
      let s : State := ((List.range 2).foldl (fun s k => (s.wr sd Fld.lnkStatusState k 7).onLane sd k fun l => { l with farVersion := 0x2F }) ((List.range 8).foldl (fun s k => s.wr sd Fld.lnkStatusState k 1) (((s.wr sd Fld.prtStatusState 0 0).wr sd Fld.prtCtlWidth 0 2).wr sd Fld.prtCtlMinWidth 0 2))).onM fun m => { m with sw := { m.sw with bufTiles := [(0, 32)] } };
      (fun n l => decide ((portSt sd p s = 0) ∧ (portWidth sd p s ≠ 0) ∧ (readyLanes sd p s = n :: l) ∧ ((∀ k ∈ l, (s.lane sd k).farVersion = (s.lane sd n).farVersion)) ∧ (majorOk (s.lane sd n).farVersion = true) ∧ (max 1 (s.rd sd Fld.prtCtlMinWidth p) ≤ l.length + 1) ∧ (formFits sd p s = true))) (0) ([1])) = true
    ∧ (let sd : Side := .module;
      let p : Nat := 0;
      let s : State := State.reset;
      let s : State := ((s.wr sd Fld.lnkStatusState 0 7).onLane sd 0 fun l => { l with farVersion := 0x30 }) |> fun s => ((s.wr sd Fld.prtStatusState 0 0).wr sd Fld.prtCtlWidth 0 1).wr sd Fld.lnkStatusState 1 1;
      (fun n l => decide ((portSt sd p s = 0) ∧ (portWidth sd p s ≠ 0) ∧ (readyLanes sd p s = n :: l) ∧ (majorOk (s.lane sd n).farVersion = false))) (0) ([])) = true
    ∧ (let sd : Side := .module;
      let p : Nat := 7;
      let s : State := State.reset;
      decide ((portSt sd p s ≠ 0 ∨ portWidth sd p s = 0 ∨ readyLanes sd p s = []))) = true
    ∧ (let sd : Side := .module;
      let p : Nat := 0;
      let s : State := State.reset;
      let s : State := s.wr sd Fld.prtStatusState 0 1 |>.onPort sd 0 fun x => { x with initAcked := true };
      decide ((portSt sd p s = 1) ∧ ((s.port sd p).initReceived = false))) = true
    ∧ (let sd : Side := .module;
      let p : Nat := 7;
      let s : State := State.reset;
      decide ((portSt sd p s ≠ 1 ∨ (s.port sd p).initReceived = true))) = true
    ∧ (let sd : Side := .module;
      let p : Nat := 0;
      let s : State := State.reset;
      let s : State := s.wr sd Fld.prtStatusState 0 4;
      decide ((portUp sd p s = true))) = true
    ∧ (let sd : Side := .module;
      let p : Nat := 7;
      let s : State := State.reset;
      decide ((portUp sd p s = false))) = true
    ∧ (let sd : Side := .module;
      let p : Nat := 0;
      let s : State := State.reset;
      let s : State := (s.wr sd Fld.prtCtlWidth 0 8).wr sd Fld.prtStatusState 0 1;
      decide ((portWidth sd p s ≠ 0) ∧ (portSt sd p s ≠ 0))) = true
    ∧ (let sd : Side := .module;
      let p : Nat := 0;
      let s : State := State.reset;
      let s : State := (s.wr sd Fld.prtCtlWidth 0 8).wr sd Fld.prtStatusState 0 0;
      decide ((portWidth sd p s ≠ 0) ∧ (portSt sd p s = 0))) = true
    ∧ (let sd : Side := .module;
      let p : Nat := 7;
      let s : State := State.reset;
      decide ((portWidth sd p s = 0))) = true := by decide +kernel

theorem met_LanesJoinAndLeaveAPort :
    (let sd : Side := .module;
      let n : Nat := 7;
      let s : State := State.reset;
      let s : State := ((s.wr sd Fld.prtCtlWidth 0 8).wr sd Fld.prtStatusState 0 2).wr sd Fld.prtStatusActiveMask 0 3 |>.wr sd Fld.prtCtlMinWidth 0 1;
      decide ((laneInPort sd n s = false))) = true
    ∧ (let sd : Side := .module;
      let n : Nat := 0;
      let s : State := State.reset;
      let s : State := ((s.wr sd Fld.prtCtlWidth 0 8).wr sd Fld.prtStatusState 0 2).wr sd Fld.prtStatusActiveMask 0 3 |>.wr sd Fld.prtCtlMinWidth 0 1;
      decide ((laneInPort sd n s = true))) = true
    ∧ (let sd : Side := .module;
      let n : Nat := 0;
      let s : State := State.reset;
      let s : State := ((s.wr sd Fld.prtCtlWidth 0 8).wr sd Fld.prtStatusActiveMask 0 3) |> fun s => (List.range 6).foldl (fun s k => s.wr sd Fld.lnkStatusSlice k 0) s;
      (fun x => decide ((laneInPort sd n s = true) ∧ (freeSlice sd n s = some x))) (1)) = true
    ∧ (let sd : Side := .module;
      let p : Nat := 0;
      let mask : BitVec 8 := 1;
      let s : State := State.reset;
      let s : State := ((s.wr sd Fld.prtCtlWidth 0 8).wr sd Fld.prtStatusState 0 2).wr sd Fld.prtStatusActiveMask 0 3 |>.wr sd Fld.prtCtlMinWidth 0 1;
      decide ((portUp sd p s = true) ∧ (activeMask sd p s &&& mask.toNat ≠ 0) ∧ (max 1 (s.rd sd Fld.prtCtlMinWidth p) ≤ popcount 8 (activeMask sd p s) - popcount 8 (activeMask sd p s &&& mask.toNat)))) = true
    ∧ (let sd : Side := .module;
      let p : Nat := 0;
      let mask : BitVec 8 := 255;
      let s : State := State.reset;
      let s : State := ((s.wr sd Fld.prtCtlWidth 0 8).wr sd Fld.prtStatusState 0 2).wr sd Fld.prtStatusActiveMask 0 3 |>.wr sd Fld.prtCtlMinWidth 0 1;
      decide ((portUp sd p s = true) ∧ (activeMask sd p s &&& mask.toNat ≠ 0) ∧ (popcount 8 (activeMask sd p s) - popcount 8 (activeMask sd p s &&& mask.toNat) < max 1 (s.rd sd Fld.prtCtlMinWidth p)))) = true
    ∧ (let sd : Side := .module;
      let p : Nat := 0;
      let s : State := State.reset;
      let s : State := ((s.wr sd Fld.prtStatusState 0 2).wr sd Fld.lnkFarIdEid 0 0).wr .module Fld.glbEidEid 0 5 |>.wr .endpoint Fld.fxeIdEid 0 5;
      decide ((portUp sd p s = true) ∧ (leadsAdd sd p s = false))) = true
    ∧ (let sd : Side := .module;
      let p : Nat := 0;
      let mask : BitVec 8 := 128;
      let s : State := State.reset;
      let s : State := ((s.wr sd Fld.prtStatusState 0 2).wr sd Fld.lnkFarIdEid 0 9).wr .module Fld.glbEidEid 0 5 |>.wr .endpoint Fld.fxeIdEid 0 5 |>.onPort sd 0 fun x => { x with addMine := 0x84 };
      decide ((portUp sd p s = true) ∧ (leadsAdd sd p s = true) ∧ ((s.port sd p).addMine &&& ((s.port sd p).addFar ||| mask) ≠ 0))) = true
    ∧ (let sd : Side := .module;
      let p : Nat := 7;
      let s : State := State.reset;
      let s : State := ((s.wr sd Fld.prtCtlWidth 0 8).wr sd Fld.prtStatusState 0 2).wr sd Fld.prtStatusActiveMask 0 3 |>.wr sd Fld.prtCtlMinWidth 0 1;
      decide ((portUp sd p s = false))) = true
    ∧ (let sd : Side := .module;
      let p : Nat := 0;
      let n : Nat := 7;
      let s : State := State.reset;
      let s : State := ((((s.wr sd Fld.prtCtlWidth 0 8).wr sd Fld.prtStatusState 0 2).wr sd Fld.prtStatusActiveMask 0 3).wr sd Fld.lnkStatusState 7 7).wr sd Fld.prtCtlUpconfigEn 0 1 |> fun s => (s.wr sd Fld.lnkFarIdEid 0 0).wr .module Fld.glbEidEid 0 5 |>.wr .endpoint Fld.fxeIdEid 0 5;
      decide ((portOf sd n s = some p) ∧ (portUp sd p s = true) ∧ (laneSt sd n s = 7) ∧ ((activeMask sd p s).testBit (n - p) = false) ∧ (s.rdb sd Fld.prtCtlUpconfigEn p = true) ∧ ((s.lane sd n).farVersion = (s.port sd p).farOffer) ∧ (leadsAdd sd p s = false))) = true
    ∧ (let sd : Side := .module;
      let p : Nat := 0;
      let n : Nat := 7;
      let s : State := State.reset;
      let s : State := (((((s.wr sd Fld.prtCtlWidth 0 8).wr sd Fld.prtStatusState 0 2).wr sd Fld.prtStatusActiveMask 0 3).wr sd Fld.lnkStatusState 7 7).wr sd Fld.prtCtlUpconfigEn 0 1).onLane sd 7 fun l => { l with farVersion := 0x2F };
      decide ((portOf sd n s = some p) ∧ (portUp sd p s = true) ∧ (laneSt sd n s = 7) ∧ ((activeMask sd p s).testBit (n - p) = false) ∧ (s.rdb sd Fld.prtCtlUpconfigEn p = true) ∧ ((s.lane sd n).farVersion ≠ (s.port sd p).farOffer))) = true
    ∧ (let sd : Side := .module;
      let p : Nat := 0;
      let mask : BitVec 8 := 1;
      let s : State := State.reset;
      let s : State := ((s.wr sd Fld.prtCtlWidth 0 8).wr sd Fld.prtStatusState 0 2).wr sd Fld.prtStatusActiveMask 0 3 |>.wr sd Fld.prtCtlMinWidth 0 1;
      decide ((portUp sd p s = true) ∧ (activeMask sd p s &&& mask.toNat ≠ 0) ∧ (max 1 (s.rd sd Fld.prtCtlMinWidth p) ≤ popcount 8 (activeMask sd p s) - popcount 8 (activeMask sd p s &&& mask.toNat)))) = true
    ∧ (let sd : Side := .module;
      let p : Nat := 0;
      let mask : BitVec 8 := 3;
      let s : State := State.reset;
      let s : State := ((s.wr sd Fld.prtCtlWidth 0 8).wr sd Fld.prtStatusState 0 2).wr sd Fld.prtStatusActiveMask 0 3 |>.wr sd Fld.prtCtlMinWidth 0 1;
      decide ((portUp sd p s = true) ∧ (activeMask sd p s &&& mask.toNat ≠ 0) ∧ (popcount 8 (activeMask sd p s) - popcount 8 (activeMask sd p s &&& mask.toNat) < max 1 (s.rd sd Fld.prtCtlMinWidth p)))) = true
    ∧ (let sd : Side := .module;
      let p : Nat := 0;
      let mask : BitVec 8 := 3;
      let s : State := State.reset;
      let s : State := ((s.wr sd Fld.prtCtlWidth 0 8).wr sd Fld.prtStatusState 0 3).wr sd Fld.prtStatusActiveMask 0 3 |>.onPort sd 0 fun x => { x with releasing := 2 };
      decide ((portUp sd p s = true) ∧ (activeMask sd p s &&& mask.toNat &&& (s.port sd p).releasing.toNat ≠ 0))) = true
    ∧ (let sd : Side := .module;
      let p : Nat := 0;
      let mask : BitVec 8 := 4;
      let s : State := State.reset;
      let s : State := ((s.wr sd Fld.prtCtlWidth 0 8).wr sd Fld.prtStatusState 0 2).wr sd Fld.prtStatusActiveMask 0 3 |>.wr sd Fld.prtCtlMinWidth 0 1;
      decide ((activeMask sd p s &&& mask.toNat &&& (s.port sd p).releasing.toNat = 0))) = true := by decide +kernel

theorem met_PacketsStartWithCredit :
    (let sd : Side := .module;
      let p : Nat := 0;
      let pool : Nat := 0;
      let e : EgressEntry := { pkt := creditPacket, order := 3, shared := false };
      let s : State := State.reset;
      let s : State := (((s.wr sd Fld.prtStatusState 0 2).wr sd Fld.prtStatusActiveMask 0 1).onPort sd 0 fun x => { x with egress := [(0, [{ pkt := creditPacket, order := 3, shared := false }])], credits := [2] });
      decide ((nextEntry (smapGet (s.port sd p).egress [] pool) = some e) ∧ (mayStart sd p e.pkt s = true) ∧ ((e.entering = false ∨ bubbleCredits pool ≤ (s.port sd p).credits.getD pool 0)) ∧ ((sd = .module → residueBefore p pool e.order s = false)))) = true
    ∧ (let sd : Side := .module;
      let p : Nat := 0;
      let pool : Nat := 0;
      let e : EgressEntry := { pkt := creditPacket, order := 3, shared := false };
      let s : State := State.reset;
      let s : State := ((s.wr sd Fld.prtStatusState 0 2).onPort sd 0 fun x => { x with egress := [(0, [{ pkt := creditPacket, order := 3, shared := false }])], credits := [1] });
      decide ((nextEntry (smapGet (s.port sd p).egress [] pool) = some e) ∧ (mayStart sd p e.pkt s = false))) = true
    ∧ (let sd : Side := .module;
      let p : Nat := 0;
      let pool : Nat := 0;
      let s : State := State.reset;
      let s : State := s;
      decide ((nextEntry (smapGet (s.port sd p).egress [] pool) = none))) = true := by decide +kernel

theorem met_SwitchTakesPackets :
    (let p : Nat := 3;
      let s : State := State.reset;
      let s : State := s.wr .module Fld.glbRoleValid 0 0;
      let ready := s.hasRole = true ∧ portUp .module p s = true;
      decide ((¬ ready))) = true
    ∧ (let p : Nat := 3;
      let pkt : Packet := { dst := 0x40005, src := 0x280, opcode := 0x20, tc := 3, plane := false };
      let s : State := State.reset;
      let s : State := (leafState s).wr .module Fld.glbBringupStatusEnabled 0 0;
      let ready := s.hasRole = true ∧ portUp .module p s = true;
      decide ((ready) ∧ (classOpen .module pkt.tc.toNat s = false))) = true
    ∧ (let p : Nat := 3;
      let pkt : Packet := { dst := 0x40005, src := 0x280, opcode := 0x03, tc := 3, plane := false };
      let s : State := State.reset;
      let s : State := leafState s;
      let ready := s.hasRole = true ∧ portUp .module p s = true;
      decide ((ready) ∧ (classOpen .module pkt.tc.toNat s = true) ∧ (malformed pkt = true))) = true
    ∧ (let p : Nat := 3;
      let pkt : Packet := sealed { dst := 0x40005, src := 0x281, opcode := 0x03, tc := 0, plane := false };
      let s : State := State.reset;
      let s : State := leafState s;
      let ready := s.hasRole = true ∧ portUp .module p s = true;
      let fits := classOpen .module pkt.tc.toNat s = true ∧ malformed pkt = false ∧ retiredPacket pkt s = false ∧ (quarantined p s && decide (2 ≤ pkt.tc.toNat)) = false;
      let good := sourceOk p pkt.src s = true ∧ pkt.plane = s.rdb .module Fld.glbRolePlane ∧ pkt.hops ≠ 0;
      decide ((ready) ∧ (fits) ∧ (¬ good))) = true
    ∧ (let p : Nat := 3;
      let pkt : Packet := sealed { dst := 0x40005, src := 0x280, opcode := 0x03, tc := 0, plane := false };
      let s : State := State.reset;
      let s : State := leafState s;
      let ready := s.hasRole = true ∧ portUp .module p s = true;
      let fits := classOpen .module pkt.tc.toNat s = true ∧ malformed pkt = false ∧ retiredPacket pkt s = false ∧ (quarantined p s && decide (2 ≤ pkt.tc.toNat)) = false;
      let good := sourceOk p pkt.src s = true ∧ pkt.plane = s.rdb .module Fld.glbRolePlane ∧ pkt.hops ≠ 0;
      decide ((ready) ∧ (fits) ∧ (good) ∧ (pkt.dst = s.myEid .module) ∧ (opAssigned pkt.opcode = true) ∧ (pkt.stream = 0))) = true
    ∧ (let p : Nat := 3;
      let pkt : Packet := sealed { dst := 0x281, src := 0x280, opcode := 0x7E, tc := 4, plane := false };
      let s : State := State.reset;
      let s : State := leafState s;
      let k : Packet := { pkt with hops := pkt.hops - 1 };
      let ready := s.hasRole = true ∧ portUp .module p s = true;
      let fits := classOpen .module pkt.tc.toNat s = true ∧ malformed pkt = false ∧ retiredPacket pkt s = false ∧ (quarantined p s && decide (2 ≤ pkt.tc.toNat)) = false;
      let good := sourceOk p pkt.src s = true ∧ pkt.plane = s.rdb .module Fld.glbRolePlane ∧ pkt.hops ≠ 0;
      (fun q room slot => decide ((ready) ∧ (fits) ∧ (good) ∧ (pkt.stream = 0) ∧ (lookupRoute k p s = (.port q none slot false false, s)) ∧ (featuresOk k (portFeat q s) = true) ∧ (rattleArmed s = false) ∧ (egressRoom q (poolOf k.opcode) (packetSlots k) s = some room))) (5) (false) (true)) = true
    ∧ (let pkt : Packet := { dst := 0x40005, src := 0x280, opcode := 3, tc := 1, plane := false };
      let s : State := State.reset;
      let s : State := (leafState s).onM fun m => { m with sw := { m.sw with waiting := [{ port := 3, pkt := creditPacket, targets := [5], multicast := false, held := false }, { port := 2, pkt := creditPacket, targets := [5], multicast := false, held := true, transit := true }] } };
      (fun ix w q room => decide ((s.m.sw.waiting[ix]? = some w) ∧ (waitsBehind ix w s = false) ∧ (w.multicast = false) ∧ (w.targets = [q]) ∧ (portUp .module q s = true) ∧ (egressRoom q (poolOf w.pkt.opcode) (packetSlots w.pkt) s = some room))) (1) ({ port := 2, pkt := creditPacket, targets := [5], multicast := false, held := true, transit := true }) (5) (false)) = true
    ∧ (let pkt : Packet := { dst := 0x40005, src := 0x280, opcode := 3, tc := 1, plane := false };
      let s : State := State.reset;
      let s : State := (leafState s).onM fun m => { m with sw := { m.sw with waiting := [{ port := 3, pkt := creditPacket, targets := [5], multicast := false, held := false }, { port := 3, pkt := creditPacket, targets := [5], multicast := false, held := true }] } };
      (fun ix w => decide ((s.m.sw.waiting[ix]? = some w) ∧ (waitsBehind ix w s = true))) (1) ({ port := 3, pkt := creditPacket, targets := [5], multicast := false, held := true })) = true
    ∧ (let s : State := State.reset;
      let s : State := leafState s;
      (fun ix => decide ((s.m.sw.waiting.length ≤ ix))) (default)) = true
    ∧ (let pkt : Packet := { dst := 0x40005, src := 0x280, opcode := 3, tc := 1, plane := false };
      let s : State := State.reset;
      let s : State := (leafState s).onM fun m => { m with sw := { m.sw with reordered := [{ rule := 0, port := 5, arrival := 3, pkt := creditPacket }] } };
      (fun ix h room => decide ((s.m.sw.reordered[ix]? = some h) ∧ (egressRoom h.port (poolOf h.pkt.opcode) (packetSlots h.pkt) s = some room))) (0) ({ rule := 0, port := 5, arrival := 3, pkt := creditPacket }) (false)) = true
    ∧ (let s : State := State.reset;
      let s : State := leafState s;
      (fun ix => decide ((s.m.sw.reordered.length ≤ ix))) (default)) = true := by decide +kernel

theorem met_SwitchStoresAndOrders :
    (let p : Nat := 5;
      let pkt : Packet := streamPacket;
      let s : State := State.reset;
      let s : State := ((leafState s).onPort .module 5 fun x => { x with residue := [(4, 9)], credits := [9, 9] }).onM fun m => { m with sw := { m.sw with store := [{ id := 4, pkt := creditPacket, left := [5, 6], group := 0 }] } };
      (fun ix id o e => decide (((s.port .module p).residue[ix]? = some (id, o)) ∧ ((s.m.sw.store.find? fun e => decide (e.id = id)) = some e) ∧ (mayStart .module p e.pkt s = true) ∧ (((egressQueue p (poolOf e.pkt.opcode) s).any fun x => decide (x.order < o)) = false) ∧ (residueBefore p (poolOf e.pkt.opcode) o s = false))) (0) (4) (9) ({ id := 4, pkt := creditPacket, left := [5, 6], group := 0 })) = true
    ∧ (let p : Nat := 5;
      let s : State := State.reset;
      let s : State := (leafState s).onPort .module 5 fun x => { x with residue := [(4, 9)] };
      (fun ix id o => decide (((s.port .module p).residue[ix]? = some (id, o)) ∧ ((s.m.sw.store.find? fun e => decide (e.id = id)) = none))) (0) (4) (9)) = true
    ∧ (let p : Nat := 5;
      let s : State := State.reset;
      (fun ix => decide (((s.port .module p).residue.length ≤ ix))) (default)) = true
    ∧ (let p : Nat := 1024;
      let pkt : Packet := streamPacket;
      let s : State := State.reset;
      let s : State := (leafState s).onM fun m => { m with sw := { m.sw with reseq := [(1024, [{ src := 0x280, dst := 0x40005, stream := 1, epoch := 0, expected := some 7 }])] } };
      (fun st => decide (((s.m.sw.toReseq.find? fun x => decide (x.1 = p) && decide (x.2.2 = pkt)) = none) ∧ (s.isLeaf = true) ∧ (reseqClass pkt = true) ∧ ((smapGet s.m.sw.reseq [] p).find? (streamMatch pkt) = some st) ∧ (p = localReseq) ∧ (st.expected = some pkt.xseq) ∧ (st.held = []))) ({ src := 0x280, dst := 0x40005, stream := 1, epoch := 0, expected := some 7 })) = true
    ∧ (let p : Nat := 1024;
      let pkt : Packet := streamPacket;
      let s : State := State.reset;
      let s : State := (leafState s).onM fun m => { m with sw := { m.sw with reseq := [(1024, [{ src := 0x280, dst := 0x40005, stream := 1, epoch := 0, expected := some 6 }])] } };
      (fun st e => decide (((s.m.sw.toReseq.find? fun x => decide (x.1 = p) && decide (x.2.2 = pkt)) = none) ∧ (s.isLeaf = true) ∧ (reseqClass pkt = true) ∧ ((smapGet s.m.sw.reseq [] p).find? (streamMatch pkt) = some st) ∧ (st.expected = some e) ∧ (pkt.xseq ≠ e) ∧ (seqAhead pkt.xseq e = true) ∧ ((st.held.any fun x => decide (x.xseq = pkt.xseq)) = false) ∧ (reseqCount (smapGet s.m.sw.reseq [] p) < 16384))) ({ src := 0x280, dst := 0x40005, stream := 1, epoch := 0, expected := some 6 }) (6)) = true
    ∧ (let pkt : Packet := streamPacket;
      let s : State := State.reset;
      let s : State := (leafState s).onM fun m => { m with sw := { m.sw with reseq := [(1024, [{ src := 0x280, dst := 0x40005, stream := 1, epoch := 0, expected := some 6, held := [streamPacket] }])] } };
      (fun src dst stream epoch st e => decide (((smapGet s.m.sw.reseq [] localReseq).find? (fun x => decide (x.src = src) && decide (x.dst = dst)
        && decide (x.stream = stream) && decide (x.epoch = epoch)) = some st) ∧ (st.expected = some e) ∧ (st.held = [pkt]))) (0x280) (0x40005) (1) (0) ({ src := 0x280, dst := 0x40005, stream := 1, epoch := 0, expected := some 6, held := [streamPacket] }) (6)) = true
    ∧ (let p : Nat := 5;
      let s : State := State.reset;
      decide ((smapGet s.m.sw.reseq [] p = []))) = true
    ∧ (let p : Nat := 5;
      let pkt : Packet := streamPacket;
      let s : State := State.reset;
      let s : State := s.onPort .module 5 fun x => { x with egress := [(poolOf streamPacket.opcode, [{ pkt := streamPacket, order := 1, shared := false }])] };
      (fun e => decide ((ages pkt = true) ∧ (((egressQueue p (poolOf pkt.opcode) s).find? fun e => decide (e.pkt = pkt)) = some e))) ({ pkt := streamPacket, order := 1, shared := false })) = true
    ∧ (let pkt : Packet := creditPacket;
      decide ((ages pkt = false))) = true
    ∧ (let s : State := State.reset;
      (fun (path : Path) a b => decide ((rwlOpen .module path (regOffset .module .nocCtl 0 0) s = true) ∧ (((a || s.m.sw.nocFault.contains 0) && (b || s.m.sw.nocFault.contains 1)) = false))) (.management) (true) (default)) = true
    ∧ (let s : State := State.reset;
      (fun a b => decide ((((a || s.m.sw.nocFault.contains 0) && (b || s.m.sw.nocFault.contains 1)) = true))) (true) (true)) = true := by decide +kernel

theorem met_SequencedPacketsMove :
    (let sd : Side := .module;
      let id : Nat := 4;
      let s : State := State.reset;
      let s : State := s.onXpt sd fun t => { t with ops := [opWait] };
      (fun o plane entry tag => decide (((s.xpt sd).ops.find? (fun o => decide (o.id = id)) = some o) ∧ (mayIssue sd o s = .send plane entry tag) ∧ ((sd = .module ∨ (s.e.accs.any fun a => decide (a.id = id)) = false)) ∧ ((s.xpt sd).finished = []))) (opWait) (false) (false) (0)) = true
    ∧ (let sd : Side := .module;
      let id : Nat := 4;
      let s : State := State.reset;
      let s : State := s.onXpt sd fun t => { t with ops := [opSent] };
      (fun o => decide (((s.xpt sd).ops.find? (fun o => decide (o.id = id)) = some o) ∧ (mayIssue sd o s = .wait) ∧ ((sd = .module ∨ (s.e.accs.any fun a => decide (a.id = id)) = false)) ∧ ((s.xpt sd).finished = []))) (opSent)) = true
    ∧ (let sd : Side := .module;
      let port : Nat := 3;
      let p : Packet := { seqPacket with pchk := 1 };
      let s : State := State.reset;
      let taken := opSequenced p.opcode = true ∧ p.opcode ≠ 0xA0 ∧ (accept sd port p s).1.isSome = true ∧ (s.xpt sd).finished = [];
      decide ((taken) ∧ (pchkGood p = false))) = true
    ∧ (let sd : Side := .module;
      let port : Nat := 3;
      let p : Packet := seqPacket;
      let s : State := State.reset;
      let s : State := onDstSpace sd seqPacket.src seqPacket.dst 0 (fun y => { y with expected := 5, sinceAck := 3 }) s;
      let taken := opSequenced p.opcode = true ∧ p.opcode ≠ 0xA0 ∧ (accept sd port p s).1.isSome = true ∧ (s.xpt sd).finished = [];
      decide ((taken) ∧ (pchkGood p = true) ∧ (classify sd p s = .duplicate))) = true
    ∧ (let sd : Side := .module;
      let port : Nat := 3;
      let p : Packet := seqPacket;
      let s : State := State.reset;
      let s : State := s.onXpt sd fun t => { t with work := [{ port := 3, pkt := seqPacket }] };
      let taken := opSequenced p.opcode = true ∧ p.opcode ≠ 0xA0 ∧ (accept sd port p s).1.isSome = true ∧ (s.xpt sd).finished = [];
      decide ((taken) ∧ (pchkGood p = true) ∧ (classify sd p s = .inProgress))) = true
    ∧ (let sd : Side := .module;
      let port : Nat := 3;
      let p : Packet := sealed { seqPacket with xseq := 1024 };
      let s : State := State.reset;
      let taken := opSequenced p.opcode = true ∧ p.opcode ≠ 0xA0 ∧ (accept sd port p s).1.isSome = true ∧ (s.xpt sd).finished = [];
      decide ((taken) ∧ (pchkGood p = true) ∧ (classify sd p s = .outOfWindow))) = true
    ∧ (let sd : Side := .module;
      let port : Nat := 3;
      let p : Packet := seqPacket;
      let s : State := State.reset;
      let sp := fun (u : State) => dstSpace sd p.src p.dst p.stream u;
      let taken := opSequenced p.opcode = true ∧ p.opcode ≠ 0xA0 ∧ (accept sd port p s).1.isSome = true ∧ (s.xpt sd).finished = [];
      decide ((taken) ∧ (pchkGood p = true) ∧ (classify sd p s = .acceptable) ∧ (p.xseq = low24 (sp s).expected) ∧ (notServed sd port p s = false))) = true
    ∧ (let p : Packet := { seqPacket with opcode := 0x70 };
      decide ((opSequenced p.opcode = false) ∧ (p.opcode ≠ 0xA0))) = true
    ∧ (let sd : Side := .module;
      let src : Eid := 0x280;
      let dst : Eid := 0x281;
      let stream : BitVec 4 := 1;
      let s : State := State.reset;
      let s : State := onDstSpace sd src dst stream (fun y => { y with expected := 5, sinceAck := 1 }) s;
      decide (((dstSpace sd src dst stream s).sinceAck ≠ 0))) = true
    ∧ (let sd : Side := .module;
      let src : Eid := 0x280;
      let dst : Eid := 0x281;
      let stream : BitVec 4 := 1;
      let s : State := State.reset;
      decide (((dstSpace sd src dst stream s).sinceAck = 0))) = true
    ∧ (let sd : Side := .module;
      let dst : Eid := 0x281;
      let stream : BitVec 4 := 0;
      let x : BitVec 24 := 9;
      let s : State := State.reset;
      let s : State := s.onXpt sd fun t => { t with ops := [{ opSent with sent := some { sentNine with retryLater := true } }] };
      (fun o t0 => decide ((sentPacket sd dst stream x s = some (o, t0)) ∧ (t0.retryLater = true))) ({ opSent with sent := some { sentNine with retryLater := true } }) ({ sentNine with retryLater := true })) = true
    ∧ (let sd : Side := .module;
      let dst : Eid := 0x281;
      let stream : BitVec 4 := 0;
      let x : BitVec 24 := 9;
      let s : State := State.reset;
      let s : State := s.onXpt sd fun t => { t with ops := [opSent] };
      (fun o t0 => decide ((sentPacket sd dst stream x s = some (o, t0)) ∧ (t0.retryLater = false))) (opSent) (sentNine)) = true := by decide +kernel

theorem met_TransportControlIsTaken :
    (let sd : Side := .module;
      let port : Nat := 3;
      let p : Packet := { ackPacket with opcode := 0x7F, pchk := 1 };
      let s : State := State.reset;
      let here := (accept sd port p s).1.isSome = true ∧ (s.xpt sd).finished = [];
      (fun c op => decide (((c, op) ∈ [(Instr.xptAck sd port p, 0x7E), (Instr.xptNack sd port p, 0x7F), (Instr.xptRestart sd port p, 0x7C)]) ∧ (p.opcode = op) ∧ (here) ∧ (pchkGood p = false))) (Instr.xptNack sd port p) (0x7F)) = true
    ∧ (let sd : Side := .module;
      let port : Nat := 3;
      let p : Packet := sealed { dst := 0x40005, src := 0x281, opcode := 0x7E, tc := 4, plane := false, stream := 0, xseq := 10 };
      let s : State := State.reset;
      let s : State := s.onXpt sd fun t => { t with ops := [{ opSent with pkt := { opSent.pkt with opcode := 0x80 } }] };
      let here := (accept sd port p s).1.isSome = true ∧ (s.xpt sd).finished = [];
      (fun o u => decide ((p.opcode = 0x7E) ∧ (here) ∧ (pchkGood p = true) ∧ (isGroupEid p.src = false) ∧ ((s.xpt sd).ops = [o]) ∧ (o.sent = some u) ∧ (o.pkt.dst = p.src) ∧ (o.pkt.stream = p.stream) ∧ (ackCovers p u.xseq = true) ∧ (responseOp o.pkt.opcode = none) ∧ (o.use = .none))) ({ opSent with pkt := { opSent.pkt with opcode := 0x80 } }) (sentNine)) = true
    ∧ (let sd : Side := .module;
      let port : Nat := 3;
      let p : Packet := sealed { dst := 0x40005, src := 0x281, opcode := 0x7E, tc := 4, plane := false, stream := 0, xseq := 10 };
      let s : State := State.reset;
      let s : State := s.onXpt sd fun t => { t with ops := [opSent] };
      let here := (accept sd port p s).1.isSome = true ∧ (s.xpt sd).finished = [];
      (fun o u => decide ((p.opcode = 0x7E) ∧ (here) ∧ (pchkGood p = true) ∧ (isGroupEid p.src = false) ∧ ((s.xpt sd).ops = [o]) ∧ (o.sent = some u) ∧ (o.pkt.dst = p.src) ∧ (o.pkt.stream = p.stream) ∧ (ackCovers p u.xseq = true) ∧ ((responseOp o.pkt.opcode).isSome = true))) (opSent) (sentNine)) = true
    ∧ (let sd : Side := .module;
      let port : Nat := 3;
      let p : Packet := sealed { dst := 0x40005, src := 0x81000, opcode := 0x7E, tc := 4, plane := false };
      let s : State := State.reset;
      let here := (accept sd port p s).1.isSome = true ∧ (s.xpt sd).finished = [];
      decide ((p.opcode = 0x7E) ∧ (here) ∧ (pchkGood p = true) ∧ (isGroupEid p.src = true))) = true
    ∧ (let sd : Side := .module;
      let port : Nat := 3;
      let p : Packet := sealed { ackPacket with opcode := 0x7F, status := stNoWindow };
      let s : State := State.reset;
      let here := (accept sd port p s).1.isSome = true ∧ (s.xpt sd).finished = [];
      decide ((p.opcode = 0x7F) ∧ (here) ∧ (pchkGood p = true) ∧ ((s.xpt sd).ops = []) ∧ ((s.xpt sd).acked = []))) = true
    ∧ (let sd : Side := .module;
      let port : Nat := 3;
      let p : Packet := sealed { ackPacket with opcode := 0x7F, status := stRetryLater, xseq := 9 };
      let s : State := State.reset;
      let s : State := s.onXpt sd fun t => { t with ops := [opSent] };
      let here := (accept sd port p s).1.isSome = true ∧ (s.xpt sd).finished = [];
      (fun o u => decide ((p.opcode = 0x7F) ∧ (here) ∧ (pchkGood p = true) ∧ ((s.xpt sd).ops = [o]) ∧ (o.sent = some u) ∧ (o.pkt.dst = p.src) ∧ (o.pkt.stream = p.stream) ∧ (u.xseq = p.xseq) ∧ (p.stream = 0) ∧ (p.status = stRetryLater))) (opSent) (sentNine)) = true
    ∧ (let sd : Side := .module;
      let port : Nat := 3;
      let p : Packet := sealed { ackPacket with opcode := 0x7F, status := stNoWindow, xseq := 9 };
      let s : State := State.reset;
      let s : State := s.onXpt sd fun t => { t with ops := [opSent] };
      let here := (accept sd port p s).1.isSome = true ∧ (s.xpt sd).finished = [];
      (fun o u => decide ((p.opcode = 0x7F) ∧ (here) ∧ (pchkGood p = true) ∧ ((s.xpt sd).ops = [o]) ∧ (o.sent = some u) ∧ (o.pkt.dst = p.src) ∧ (o.pkt.stream = p.stream) ∧ (u.xseq = p.xseq) ∧ (p.stream = 0) ∧ (p.status = stNoWindow) ∧ (o.use = .none))) (opSent) (sentNine)) = true
    ∧ (let sd : Side := .module;
      let port : Nat := 3;
      let p : Packet := sealed { ackPacket with opcode := 0x7C, stream := 1, xseq := 77 };
      let s : State := State.reset;
      let s : State := onDstSpace sd 0x281 0x40005 1 (fun y => { y with expected := 5, above := [9] }) s;
      let here := (accept sd port p s).1.isSome = true ∧ (s.xpt sd).finished = [];
      decide ((p.opcode = 0x7C) ∧ (here) ∧ (pchkGood p = true) ∧ (seqAfter p.xseq (low24 (dstSpace sd p.src p.dst p.stream s).expected) = true))) = true
    ∧ (let sd : Side := .module;
      let p : Packet := { ackPacket with dst := 0x281 };
      let s : State := State.reset;
      let s : State := s.onXpt sd fun t => { t with ops := [opSent] };
      (fun o u x => decide ((sentPacket sd p.dst p.stream x s = some (o, u)) ∧ (u.tries < u.retries) ∧ ((s.xpt sd).finished = []) ∧ ((s.xpt sd).ops = [o]))) (opSent) (sentNine) (9)) = true
    ∧ (let sd : Side := .module;
      let p : Packet := sealed { dst := 0x40005, src := 0x281, opcode := 0x7E, tc := 4, plane := false, stream := 0, xseq := 10 };
      let s : State := State.reset;
      decide (((s.xpt sd).ops = []) ∧ ((srcSpace sd p.dst p.stream s).restart = none))) = true := by decide +kernel

theorem met_PlanesAndSpacesChange :
    (let sd : Side := .endpoint;
      let dst : Eid := 0x281;
      let plane : Bool := false;
      let s : State := State.reset;
      let s : State := (s.wr .endpoint Fld.fxeIdEid 0 0).wr .endpoint Fld.prtStatusState 0 2 |>.setWord .endpoint .fxePlaneDownA 0 0 0;
      decide ((planeUsable sd dst plane s = true))) = true
    ∧ (let sd : Side := .endpoint;
      let dst : Eid := 0x281;
      let stream : BitVec 4 := 1;
      let plane : Bool := false;
      let s : State := State.reset;
      let s : State := (s.wr .endpoint Fld.fxeIdEid 0 0).wr .endpoint Fld.prtStatusState 8 2 |>.setWord .endpoint .fxePlaneDownB 0 0 0 |> fun s => ((List.range 8).foldl (fun s p => s.wr .endpoint Fld.prtStatusState p 0) s).onXpt .endpoint fun t => { t with ops := [{ opSent with pkt := { opSent.pkt with stream := 1 } }] };
      (fun o u => decide ((sd = .endpoint) ∧ (planeUsable sd dst plane s = false) ∧ (planeUsable sd dst (!plane) s = true) ∧ ((s.xpt sd).ops = [o]) ∧ (o.sent = some u) ∧ (o.pkt.dst = dst) ∧ (o.pkt.stream = stream) ∧ (stream ≠ 0) ∧ (isModuleEid dst = false) ∧ ((s.xpt sd).finished = []) ∧ ((srcSpace sd dst stream s).restart = none) ∧ (s.e.coll.descs = []) ∧ (packetPlane sd dst stream (srcSpace sd dst stream s).epoch false s = plane))) ({ opSent with pkt := { opSent.pkt with stream := 1 } }) (sentNine)) = true
    ∧ (let sd : Side := .endpoint;
      let dst : Eid := 0x281;
      let plane : Bool := false;
      let s : State := State.reset;
      let s : State := s.onXpt sd fun t => { t with suspect := [(suspectKey 0x281 false, { missed := 0, since := some 5 })] };
      decide ((planeSuspect sd dst plane s = true) ∧ ((s.xpt sd).ops = []) ∧ ((s.xpt sd).finished = []))) = true
    ∧ (let sd : Side := .endpoint;
      let dst : Eid := 0x281;
      let plane : Bool := false;
      let s : State := State.reset;
      decide ((planeSuspect sd dst plane s = false))) = true
    ∧ (let sd : Side := .endpoint;
      let dst : Eid := 0x281;
      let stream : BitVec 4 := 1;
      let s : State := State.reset;
      let s : State := onSrcSpace sd dst stream (fun y => { y with epoch := 1 }) ((s.wr .endpoint Fld.fxeIdEid 0 0).wr .endpoint Fld.prtStatusState 0 2 |>.setWord .endpoint .fxePlaneDownA 0 0 0);
      decide ((mayReturn sd dst stream s = true) ∧ (inFlight sd dst stream s = []))) = true
    ∧ (let sd : Side := .endpoint;
      let dst : Eid := 0x281;
      let stream : BitVec 4 := 1;
      let s : State := State.reset;
      let s : State := (onSrcSpace sd dst stream (fun y => { y with epoch := 1 }) ((s.wr .endpoint Fld.fxeIdEid 0 0).wr .endpoint Fld.prtStatusState 0 2 |>.setWord .endpoint .fxePlaneDownA 0 0 0)).onXpt .endpoint fun t => { t with ops := [{ opSent with pkt := { opSent.pkt with stream := 1 } }] };
      decide ((mayReturn sd dst stream s = true) ∧ (inFlight sd dst stream s ≠ []))) = true
    ∧ (let sd : Side := .endpoint;
      let dst : Eid := 0x281;
      let stream : BitVec 4 := 1;
      let s : State := State.reset;
      decide ((mayReturn sd dst stream s = false))) = true
    ∧ (let sd : Side := .endpoint;
      let dst : Eid := 0x281;
      let stream : BitVec 4 := 1;
      let s : State := State.reset;
      let s : State := onSrcSpace sd dst stream (fun y => { y with planned := true }) s;
      decide (((srcSpace sd dst stream s).planned = true) ∧ (inFlight sd dst stream s = []))) = true
    ∧ (let sd : Side := .endpoint;
      let dst : Eid := 0x281;
      let stream : BitVec 4 := 1;
      let s : State := State.reset;
      decide (((srcSpace sd dst stream s).planned = false))) = true
    ∧ (let sd : Side := .endpoint;
      let dst : Eid := 0x281;
      let stream : BitVec 4 := 1;
      let s : State := State.reset;
      let s : State := onSrcSpace sd dst stream (fun y => { y with next := 9 }) (s.wr sd Fld.xptStatusPeerResetBusy 0 0);
      decide ((peerResetRefused sd dst s = false))) = true
    ∧ (let sd : Side := .endpoint;
      let dst : Eid := 0x281;
      let s : State := State.reset;
      let s : State := s.wr sd Fld.xptStatusPeerResetBusy 0 1;
      decide ((peerResetRefused sd dst s = true))) = true := by decide +kernel

theorem met_ModuleServesMemory :
    (let port : Nat := 3;
      let p : Packet := fastPacket 0x60 [];
      let q : Packet := fastPacket 0x60 [];
      let a : Nat := fastBase + 64;
      let rm : Bool := false;
      let s : State := State.reset;
      let s : State := fastState (fastPacket 0x60 []) s;
      let idle := s.module.xpt.finished = [] ∧ s.endpoint.xpt.finished = [];
      let waits := (findWork .module p s).isSome = true;
      let checked := checkRequest .module p s = (.ok q a .fast rm, s) ∧ q.opcode = p.opcode;
      (fun (c : Instr) (op : BitVec 8) (l : List Byte) => decide (((c, op) ∈ [(Instr.load .module port p, 0x60), (Instr.loadAcq .module port p, 0x61), (Instr.dmaReadReq .module port p, 0x81)]) ∧ (p.opcode = op) ∧ (idle) ∧ (waits) ∧ (checked) ∧ (isOk (moduleRead .fast (packetKey q) a (requestBytes q) s) l = true))) (Instr.load .module 3 (fastPacket 0x60 [])) (0x60) ([0])) = true
    ∧ (let port : Nat := 3;
      let p : Packet := fastPacket 0x61 [];
      let q : Packet := fastPacket 0x61 [];
      let a : Nat := fastBase + 64;
      let rm : Bool := false;
      let s : State := State.reset;
      let s : State := fastState (fastPacket 0x61 []) s;
      let idle := s.module.xpt.finished = [] ∧ s.endpoint.xpt.finished = [];
      let waits := (findWork .module p s).isSome = true;
      let checked := checkRequest .module p s = (.ok q a .fast rm, s) ∧ q.opcode = p.opcode;
      (fun (c : Instr) (op : BitVec 8) (l : List Byte) => decide (((c, op) ∈ [(Instr.load .module port p, 0x60), (Instr.loadAcq .module port p, 0x61), (Instr.dmaReadReq .module port p, 0x81)]) ∧ (p.opcode = op) ∧ (idle) ∧ (waits) ∧ (checked) ∧ (isOk (moduleRead .fast (packetKey q) a (requestBytes q) s) l = true))) (Instr.loadAcq .module 3 (fastPacket 0x61 [])) (0x61) ([0])) = true
    ∧ (let port : Nat := 3;
      let p : Packet := fastPacket 0x81 [];
      let q : Packet := fastPacket 0x81 [];
      let a : Nat := fastBase + 64;
      let rm : Bool := false;
      let s : State := State.reset;
      let s : State := fastState (fastPacket 0x81 []) s;
      let idle := s.module.xpt.finished = [] ∧ s.endpoint.xpt.finished = [];
      let waits := (findWork .module p s).isSome = true;
      let checked := checkRequest .module p s = (.ok q a .fast rm, s) ∧ q.opcode = p.opcode;
      (fun (c : Instr) (op : BitVec 8) (l : List Byte) => decide (((c, op) ∈ [(Instr.load .module port p, 0x60), (Instr.loadAcq .module port p, 0x61), (Instr.dmaReadReq .module port p, 0x81)]) ∧ (p.opcode = op) ∧ (idle) ∧ (waits) ∧ (checked) ∧ (isOk (moduleRead .fast (packetKey q) a (requestBytes q) s) l = true))) (Instr.dmaReadReq .module 3 (fastPacket 0x81 [])) (0x81) ([0])) = true
    ∧ (let port : Nat := 3;
      let p : Packet := fastPacket 0x62 [7, 0];
      let q : Packet := fastPacket 0x62 [7, 0];
      let a : Nat := fastBase + 64;
      let rm : Bool := false;
      let s : State := State.reset;
      let s : State := fastState (fastPacket 0x62 [7, 0]) s;
      let idle := s.module.xpt.finished = [] ∧ s.endpoint.xpt.finished = [];
      let waits := (findWork .module p s).isSome = true;
      let checked := checkRequest .module p s = (.ok q a .fast rm, s) ∧ q.opcode = p.opcode;
      let whole := fun (l : List Byte) => (moduleWrite .fast (packetKey q) a l q.poison s).1 = stOk;
      (fun (c : Instr) (op : BitVec 8) => decide (((c, op) ∈ [(Instr.store .module port p, 0x62), (Instr.storeFlag .module port p, 0x63), (Instr.dmaWrite .module port p, 0x80)]) ∧ (p.opcode = op) ∧ (idle) ∧ (waits) ∧ (checked) ∧ (whole q.payload))) (Instr.store .module 3 (fastPacket 0x62 [7, 0])) (0x62)) = true
    ∧ (let port : Nat := 3;
      let p : Packet := fastPacket 0x63 [7, 0];
      let q : Packet := fastPacket 0x63 [7, 0];
      let a : Nat := fastBase + 64;
      let rm : Bool := false;
      let s : State := State.reset;
      let s : State := fastState (fastPacket 0x63 [7, 0]) s;
      let idle := s.module.xpt.finished = [] ∧ s.endpoint.xpt.finished = [];
      let waits := (findWork .module p s).isSome = true;
      let checked := checkRequest .module p s = (.ok q a .fast rm, s) ∧ q.opcode = p.opcode;
      let whole := fun (l : List Byte) => (moduleWrite .fast (packetKey q) a l q.poison s).1 = stOk;
      (fun (c : Instr) (op : BitVec 8) => decide (((c, op) ∈ [(Instr.store .module port p, 0x62), (Instr.storeFlag .module port p, 0x63), (Instr.dmaWrite .module port p, 0x80)]) ∧ (p.opcode = op) ∧ (idle) ∧ (waits) ∧ (checked) ∧ (whole q.payload))) (Instr.storeFlag .module 3 (fastPacket 0x63 [7, 0])) (0x63)) = true
    ∧ (let port : Nat := 3;
      let p : Packet := fastPacket 0x80 [7, 0];
      let q : Packet := fastPacket 0x80 [7, 0];
      let a : Nat := fastBase + 64;
      let rm : Bool := false;
      let s : State := State.reset;
      let s : State := fastState (fastPacket 0x80 [7, 0]) s;
      let idle := s.module.xpt.finished = [] ∧ s.endpoint.xpt.finished = [];
      let waits := (findWork .module p s).isSome = true;
      let checked := checkRequest .module p s = (.ok q a .fast rm, s) ∧ q.opcode = p.opcode;
      let whole := fun (l : List Byte) => (moduleWrite .fast (packetKey q) a l q.poison s).1 = stOk;
      (fun (c : Instr) (op : BitVec 8) => decide (((c, op) ∈ [(Instr.store .module port p, 0x62), (Instr.storeFlag .module port p, 0x63), (Instr.dmaWrite .module port p, 0x80)]) ∧ (p.opcode = op) ∧ (idle) ∧ (waits) ∧ (checked) ∧ (whole q.payload))) (Instr.dmaWrite .module 3 (fastPacket 0x80 [7, 0])) (0x80)) = true
    ∧ (let p : Packet := fastPacket 0x66 [1, 2, 3, 4];
      let q : Packet := fastPacket 0x66 [1, 2, 3, 4];
      let a : Nat := fastBase + 64;
      let rm : Bool := false;
      let s : State := State.reset;
      let s : State := fastState (fastPacket 0x66 [1, 2, 3, 4]) s;
      let idle := s.module.xpt.finished = [] ∧ s.endpoint.xpt.finished = [];
      let waits := (findWork .module p s).isSome = true;
      let checked := checkRequest .module p s = (.ok q a .fast rm, s) ∧ q.opcode = p.opcode;
      (fun (l : List Byte) => decide ((p.opcode = 0x66) ∧ (idle) ∧ (waits) ∧ (checked) ∧ (isOk (moduleRead .fast (packetKey q) a q.payload.length s) l = true) ∧ ((moduleWrite .fast (packetKey q) a (reduceBytesInto (opField q) (typeField q) (l.length + 1) l q.payload) false s).1 = stOk))) ([0, 0, 0, 0])) = true
    ∧ (let port : Nat := 3;
      let p : Packet := fastPacket 0x64 [1, 0, 0, 0];
      let a : Nat := fastBase + 64;
      let rm : Bool := false;
      let s : State := State.reset;
      let s : State := fastState (fastPacket 0x64 [1, 0, 0, 0]) s;
      let idle := s.module.xpt.finished = [] ∧ s.endpoint.xpt.finished = [];
      let waits := (findWork .module p s).isSome = true;
      let taken := replayTake .module p (replayFree .module p s);
      (fun (c : Instr) (op : BitVec 8) (l : List Byte) (v : List Byte) => decide (((c, op) ∈ [(Instr.atomicInt .module port p, 0x64), (Instr.atomicFp .module port p, 0x65)]) ∧ (p.opcode = op) ∧ (idle) ∧ (waits) ∧ (replayRoom .module p (replayFree .module p s) = true) ∧ (checkRequest .module p taken = (.ok p a .fast rm, taken)) ∧ (isOk (moduleRead .fast (packetKey p) a (atomicSize p) s) l = true) ∧ ((atomicResult p l).1 = some v) ∧ ((moduleWrite .fast (packetKey p) a v false s).1 = stOk))) (Instr.atomicInt .module 3 (fastPacket 0x64 [1, 0, 0, 0])) (0x64) ([0, 0, 0, 0]) ([1, 0, 0, 0])) = true
    ∧ (let port : Nat := 3;
      let p : Packet := fastPacket 0x65 [1, 0, 0, 0];
      let s : State := State.reset;
      let s : State := (fastState (fastPacket 0x65 [1, 0, 0, 0]) s).wr .module Fld.tilRoleCntImage 4 9 |>.wr .module Fld.tilRoleCntInService 4 0;
      let idle := s.module.xpt.finished = [] ∧ s.endpoint.xpt.finished = [];
      let waits := (findWork .module p s).isSome = true;
      (fun (c : Instr) (op : BitVec 8) => decide (((c, op) ∈ [(Instr.atomicInt .module port p, 0x64), (Instr.atomicFp .module port p, 0x65)]) ∧ (p.opcode = op) ∧ (idle) ∧ (waits) ∧ (replayRoom .module p (replayFree .module p s) = false))) (Instr.atomicFp .module 3 (fastPacket 0x65 [1, 0, 0, 0])) (0x65)) = true := by decide +kernel

theorem met_EndpointServesMemory :
    (let port : Nat := 3;
      let p : Packet := fastPacket 0x60 [];
      let q : Packet := fastPacket 0x60 [];
      let a : Nat := 0x10040;
      let rm : Bool := true;
      let s : State := State.reset;
      let s : State := windowState (fastPacket 0x60 []) s;
      let idle := s.module.xpt.finished = [] ∧ s.endpoint.xpt.finished = [];
      let waits := (findWork .endpoint p s).isSome = true;
      let checked := checkRequest .endpoint p s = (.ok q a .ddr rm, s) ∧ q.opcode = p.opcode;
      (fun (c : Instr) (op : BitVec 8) => decide (((c, op) ∈ [(Instr.load .endpoint port p, 0x60), (Instr.loadAcq .endpoint port p, 0x61),
        (Instr.dmaReadReq .endpoint port p, 0x81)]) ∧ (p.opcode = op) ∧ (idle) ∧ (waits) ∧ (checked))) (Instr.load .endpoint 3 (fastPacket 0x60 [])) (0x60)) = true
    ∧ (let port : Nat := 3;
      let p : Packet := fastPacket 0x61 [];
      let q : Packet := fastPacket 0x61 [];
      let a : Nat := 0x10040;
      let rm : Bool := true;
      let s : State := State.reset;
      let s : State := windowState (fastPacket 0x61 []) s;
      let idle := s.module.xpt.finished = [] ∧ s.endpoint.xpt.finished = [];
      let waits := (findWork .endpoint p s).isSome = true;
      let checked := checkRequest .endpoint p s = (.ok q a .ddr rm, s) ∧ q.opcode = p.opcode;
      (fun (c : Instr) (op : BitVec 8) => decide (((c, op) ∈ [(Instr.load .endpoint port p, 0x60), (Instr.loadAcq .endpoint port p, 0x61),
        (Instr.dmaReadReq .endpoint port p, 0x81)]) ∧ (p.opcode = op) ∧ (idle) ∧ (waits) ∧ (checked))) (Instr.loadAcq .endpoint 3 (fastPacket 0x61 [])) (0x61)) = true
    ∧ (let port : Nat := 3;
      let p : Packet := fastPacket 0x81 [];
      let q : Packet := fastPacket 0x81 [];
      let a : Nat := 0x10040;
      let rm : Bool := true;
      let s : State := State.reset;
      let s : State := windowState (fastPacket 0x81 []) s;
      let idle := s.module.xpt.finished = [] ∧ s.endpoint.xpt.finished = [];
      let waits := (findWork .endpoint p s).isSome = true;
      let checked := checkRequest .endpoint p s = (.ok q a .ddr rm, s) ∧ q.opcode = p.opcode;
      (fun (c : Instr) (op : BitVec 8) => decide (((c, op) ∈ [(Instr.load .endpoint port p, 0x60), (Instr.loadAcq .endpoint port p, 0x61),
        (Instr.dmaReadReq .endpoint port p, 0x81)]) ∧ (p.opcode = op) ∧ (idle) ∧ (waits) ∧ (checked))) (Instr.dmaReadReq .endpoint 3 (fastPacket 0x81 [])) (0x81)) = true
    ∧ (let port : Nat := 3;
      let p : Packet := fastPacket 0x62 [7, 0];
      let q : Packet := fastPacket 0x62 [7, 0];
      let a : Nat := 0x10040;
      let rm : Bool := true;
      let s : State := State.reset;
      let s : State := windowState (fastPacket 0x62 [7, 0]) s;
      let idle := s.module.xpt.finished = [] ∧ s.endpoint.xpt.finished = [];
      let waits := (findWork .endpoint p s).isSome = true;
      let checked := checkRequest .endpoint p s = (.ok q a .ddr rm, s) ∧ q.opcode = p.opcode;
      (fun (c : Instr) (op : BitVec 8) => decide (((c, op) ∈ [(Instr.store .endpoint port p, 0x62), (Instr.storeFlag .endpoint port p, 0x63),
        (Instr.dmaWrite .endpoint port p, 0x80)]) ∧ (p.opcode = op) ∧ (idle) ∧ (waits) ∧ (checked))) (Instr.store .endpoint 3 (fastPacket 0x62 [7, 0])) (0x62)) = true
    ∧ (let port : Nat := 3;
      let p : Packet := fastPacket 0x63 [7, 0];
      let q : Packet := fastPacket 0x63 [7, 0];
      let a : Nat := 0x10040;
      let rm : Bool := true;
      let s : State := State.reset;
      let s : State := windowState (fastPacket 0x63 [7, 0]) s;
      let idle := s.module.xpt.finished = [] ∧ s.endpoint.xpt.finished = [];
      let waits := (findWork .endpoint p s).isSome = true;
      let checked := checkRequest .endpoint p s = (.ok q a .ddr rm, s) ∧ q.opcode = p.opcode;
      (fun (c : Instr) (op : BitVec 8) => decide (((c, op) ∈ [(Instr.store .endpoint port p, 0x62), (Instr.storeFlag .endpoint port p, 0x63),
        (Instr.dmaWrite .endpoint port p, 0x80)]) ∧ (p.opcode = op) ∧ (idle) ∧ (waits) ∧ (checked))) (Instr.storeFlag .endpoint 3 (fastPacket 0x63 [7, 0])) (0x63)) = true
    ∧ (let port : Nat := 3;
      let p : Packet := fastPacket 0x80 [7, 0];
      let q : Packet := fastPacket 0x80 [7, 0];
      let a : Nat := 0x10040;
      let rm : Bool := true;
      let s : State := State.reset;
      let s : State := windowState (fastPacket 0x80 [7, 0]) s;
      let idle := s.module.xpt.finished = [] ∧ s.endpoint.xpt.finished = [];
      let waits := (findWork .endpoint p s).isSome = true;
      let checked := checkRequest .endpoint p s = (.ok q a .ddr rm, s) ∧ q.opcode = p.opcode;
      (fun (c : Instr) (op : BitVec 8) => decide (((c, op) ∈ [(Instr.store .endpoint port p, 0x62), (Instr.storeFlag .endpoint port p, 0x63),
        (Instr.dmaWrite .endpoint port p, 0x80)]) ∧ (p.opcode = op) ∧ (idle) ∧ (waits) ∧ (checked))) (Instr.dmaWrite .endpoint 3 (fastPacket 0x80 [7, 0])) (0x80)) = true
    ∧ (let p : Packet := fastPacket 0x66 [1, 2, 3, 4];
      let q : Packet := fastPacket 0x66 [1, 2, 3, 4];
      let a : Nat := 0x10040;
      let rm : Bool := true;
      let s : State := State.reset;
      let s : State := windowState (fastPacket 0x66 [1, 2, 3, 4]) s;
      let idle := s.module.xpt.finished = [] ∧ s.endpoint.xpt.finished = [];
      let waits := (findWork .endpoint p s).isSome = true;
      let checked := checkRequest .endpoint p s = (.ok q a .ddr rm, s) ∧ q.opcode = p.opcode;
      decide ((p.opcode = 0x66) ∧ (idle) ∧ (waits) ∧ (checked) ∧ (lockLine (a / 64) s = none))) = true
    ∧ (let port : Nat := 3;
      let p : Packet := fastPacket 0x65 [1, 0, 0, 0];
      let q : Packet := fastPacket 0x65 [1, 0, 0, 0];
      let a : Nat := 0x10040;
      let rm : Bool := true;
      let s : State := State.reset;
      let s : State := windowState (fastPacket 0x65 [1, 0, 0, 0]) s;
      let idle := s.module.xpt.finished = [] ∧ s.endpoint.xpt.finished = [];
      let waits := (findWork .endpoint p s).isSome = true;
      let taken := replayTake .endpoint p (replayFree .endpoint p s);
      (fun (c : Instr) (op : BitVec 8) => decide (((c, op) ∈ [(Instr.atomicInt .endpoint port p, 0x64), (Instr.atomicFp .endpoint port p, 0x65)]) ∧ (p.opcode = op) ∧ (idle) ∧ (waits) ∧ (replayRoom .endpoint p (replayFree .endpoint p s) = true) ∧ (checkRequest .endpoint p taken = (.ok q a .ddr rm, taken)) ∧ (q.opcode = p.opcode) ∧ (lockLine (a / 64) s = none))) (Instr.atomicFp .endpoint 3 (fastPacket 0x65 [1, 0, 0, 0])) (0x65)) = true
    ∧ (let port : Nat := 3;
      let p : Packet := fastPacket 0x60 [];
      let s : State := State.reset;
      let s : State := (fastState (fastPacket 0x60 []) s).wr .module Fld.memWinValid 0 0;
      let idle := s.module.xpt.finished = [] ∧ s.endpoint.xpt.finished = [];
      (fun (sd : Side) (c : Instr) (op : BitVec 8) st u => decide (((c, op) ∈ [(Instr.load sd port p, 0x60), (Instr.loadAcq sd port p, 0x61), (Instr.store sd port p, 0x62),
        (Instr.storeFlag sd port p, 0x63), (Instr.reduceStore sd port p, 0x66), (Instr.dmaReadReq sd port p, 0x81)]) ∧ (p.opcode = op) ∧ (idle) ∧ ((findWork sd p s).isSome = true) ∧ (checkRequest sd p s = (.bad st, u)) ∧ (st ≠ stCheckFail))) (.module) (Instr.load .module 3 (fastPacket 0x60 [])) (0x60) (stNoWindow) ((refuse .module stNoWindow .memNoWindowCnt s).2)) = true
    ∧ (let port : Nat := 3;
      let p : Packet := fastPacket 0x61 [];
      let s : State := State.reset;
      let s : State := (fastState (fastPacket 0x61 []) s).wr .module Fld.memWinValid 0 0;
      let idle := s.module.xpt.finished = [] ∧ s.endpoint.xpt.finished = [];
      (fun (sd : Side) (c : Instr) (op : BitVec 8) st u => decide (((c, op) ∈ [(Instr.load sd port p, 0x60), (Instr.loadAcq sd port p, 0x61), (Instr.store sd port p, 0x62),
        (Instr.storeFlag sd port p, 0x63), (Instr.reduceStore sd port p, 0x66), (Instr.dmaReadReq sd port p, 0x81)]) ∧ (p.opcode = op) ∧ (idle) ∧ ((findWork sd p s).isSome = true) ∧ (checkRequest sd p s = (.bad st, u)) ∧ (st ≠ stCheckFail))) (.module) (Instr.loadAcq .module 3 (fastPacket 0x61 [])) (0x61) (stNoWindow) ((refuse .module stNoWindow .memNoWindowCnt s).2)) = true
    ∧ (let port : Nat := 3;
      let p : Packet := fastPacket 0x62 [];
      let s : State := State.reset;
      let s : State := (fastState (fastPacket 0x62 []) s).wr .module Fld.memWinValid 0 0;
      let idle := s.module.xpt.finished = [] ∧ s.endpoint.xpt.finished = [];
      (fun (sd : Side) (c : Instr) (op : BitVec 8) st u => decide (((c, op) ∈ [(Instr.load sd port p, 0x60), (Instr.loadAcq sd port p, 0x61), (Instr.store sd port p, 0x62),
        (Instr.storeFlag sd port p, 0x63), (Instr.reduceStore sd port p, 0x66), (Instr.dmaReadReq sd port p, 0x81)]) ∧ (p.opcode = op) ∧ (idle) ∧ ((findWork sd p s).isSome = true) ∧ (checkRequest sd p s = (.bad st, u)) ∧ (st ≠ stCheckFail))) (.module) (Instr.store .module 3 (fastPacket 0x62 [])) (0x62) (stNoWindow) ((refuse .module stNoWindow .memNoWindowCnt s).2)) = true
    ∧ (let port : Nat := 3;
      let p : Packet := fastPacket 0x63 [];
      let s : State := State.reset;
      let s : State := (fastState (fastPacket 0x63 []) s).wr .module Fld.memWinValid 0 0;
      let idle := s.module.xpt.finished = [] ∧ s.endpoint.xpt.finished = [];
      (fun (sd : Side) (c : Instr) (op : BitVec 8) st u => decide (((c, op) ∈ [(Instr.load sd port p, 0x60), (Instr.loadAcq sd port p, 0x61), (Instr.store sd port p, 0x62),
        (Instr.storeFlag sd port p, 0x63), (Instr.reduceStore sd port p, 0x66), (Instr.dmaReadReq sd port p, 0x81)]) ∧ (p.opcode = op) ∧ (idle) ∧ ((findWork sd p s).isSome = true) ∧ (checkRequest sd p s = (.bad st, u)) ∧ (st ≠ stCheckFail))) (.module) (Instr.storeFlag .module 3 (fastPacket 0x63 [])) (0x63) (stNoWindow) ((refuse .module stNoWindow .memNoWindowCnt s).2)) = true
    ∧ (let port : Nat := 3;
      let p : Packet := fastPacket 0x66 [];
      let s : State := State.reset;
      let s : State := (fastState (fastPacket 0x66 []) s).wr .module Fld.memWinValid 0 0;
      let idle := s.module.xpt.finished = [] ∧ s.endpoint.xpt.finished = [];
      (fun (sd : Side) (c : Instr) (op : BitVec 8) st u => decide (((c, op) ∈ [(Instr.load sd port p, 0x60), (Instr.loadAcq sd port p, 0x61), (Instr.store sd port p, 0x62),
        (Instr.storeFlag sd port p, 0x63), (Instr.reduceStore sd port p, 0x66), (Instr.dmaReadReq sd port p, 0x81)]) ∧ (p.opcode = op) ∧ (idle) ∧ ((findWork sd p s).isSome = true) ∧ (checkRequest sd p s = (.bad st, u)) ∧ (st ≠ stCheckFail))) (.module) (Instr.reduceStore .module 3 (fastPacket 0x66 [])) (0x66) (stNoWindow) ((refuse .module stNoWindow .memNoWindowCnt s).2)) = true
    ∧ (let port : Nat := 3;
      let p : Packet := fastPacket 0x81 [];
      let s : State := State.reset;
      let s : State := (fastState (fastPacket 0x81 []) s).wr .module Fld.memWinValid 0 0;
      let idle := s.module.xpt.finished = [] ∧ s.endpoint.xpt.finished = [];
      (fun (sd : Side) (c : Instr) (op : BitVec 8) st u => decide (((c, op) ∈ [(Instr.load sd port p, 0x60), (Instr.loadAcq sd port p, 0x61), (Instr.store sd port p, 0x62),
        (Instr.storeFlag sd port p, 0x63), (Instr.reduceStore sd port p, 0x66), (Instr.dmaReadReq sd port p, 0x81)]) ∧ (p.opcode = op) ∧ (idle) ∧ ((findWork sd p s).isSome = true) ∧ (checkRequest sd p s = (.bad st, u)) ∧ (st ≠ stCheckFail))) (.module) (Instr.dmaReadReq .module 3 (fastPacket 0x81 [])) (0x81) (stNoWindow) ((refuse .module stNoWindow .memNoWindowCnt s).2)) = true
    ∧ (let p : Packet := fastPacket 0x80 [7];
      let s : State := State.reset;
      let s : State := (fastState (fastPacket 0x80 [7]) s).wr .module Fld.memWinValid 0 0;
      let idle := s.module.xpt.finished = [] ∧ s.endpoint.xpt.finished = [];
      (fun (sd : Side) st u => decide ((p.opcode = 0x80) ∧ (idle) ∧ ((findWork sd p s).isSome = true) ∧ (checkRequest sd p s = (.bad st, u)) ∧ (st ≠ stCheckFail) ∧ (st ≠ stOk))) (.module) (stNoWindow) ((refuse .module stNoWindow .memNoWindowCnt s).2)) = true := by decide +kernel

theorem met_ResponsesCompleteRequests :
    (let sd : Side := .module;
      let port : Nat := 3;
      let p : Packet := responsePacket;
      let o : SrcOp := { opSent with use := .engine 70 1, pkt := { opSent.pkt with opcode := 0x60 } };
      let u : Sent := sentNine;
      let s : State := State.reset;
      let s : State := s.onXpt sd fun t => { t with ops := [{ opSent with use := .engine 70 1, pkt := { opSent.pkt with opcode := 0x60 } }] };
      let kinds := [(Instr.loadData sd port p, 0x70), (Instr.storeAck sd port p, 0x71), (Instr.atomicResult sd port p, 0x72), (Instr.reduceAck sd port p, 0x73), (Instr.dmaReadData sd port p, 0x82)];
      let one := (s.xpt sd).ops = [o] ∧ o.sent = some u ∧ (s.xpt sd).finished = [] ∧ staysFinished { op := o, status := stOk, outcome := 0 } = true;
      let answered := (accept sd port p s).1.isSome = true ∧ u.tag = p.tag.toNat ∧ responseOp o.pkt.opcode = some p.opcode ∧ o.pkt.dst = p.src;
      (fun c op => decide (((c, op) ∈ kinds) ∧ (p.opcode = op) ∧ (one) ∧ (answered) ∧ (isGroupEid o.pkt.dst = false) ∧ (pchkGood p = true) ∧ (p.enc = false) ∧ (p.status = stOk))) (Instr.loadData sd 3 responsePacket) (0x70)) = true
    ∧ (let sd : Side := .module;
      let port : Nat := 3;
      let p : Packet := { responsePacket with pchk := 1 };
      let o : SrcOp := { opSent with use := .engine 70 1, pkt := { opSent.pkt with opcode := 0x60 } };
      let u : Sent := sentNine;
      let s : State := State.reset;
      let s : State := s.onXpt sd fun t => { t with ops := [{ opSent with use := .engine 70 1, pkt := { opSent.pkt with opcode := 0x60 } }] };
      let kinds := [(Instr.loadData sd port p, 0x70), (Instr.storeAck sd port p, 0x71), (Instr.atomicResult sd port p, 0x72), (Instr.reduceAck sd port p, 0x73), (Instr.dmaReadData sd port p, 0x82)];
      let one := (s.xpt sd).ops = [o] ∧ o.sent = some u ∧ (s.xpt sd).finished = [] ∧ staysFinished { op := o, status := stOk, outcome := 0 } = true;
      let answered := (accept sd port p s).1.isSome = true ∧ u.tag = p.tag.toNat ∧ responseOp o.pkt.opcode = some p.opcode ∧ o.pkt.dst = p.src;
      (fun c op => decide (((c, op) ∈ kinds) ∧ (p.opcode = op) ∧ (one) ∧ (answered) ∧ (pchkGood p = false))) (Instr.loadData sd 3 { responsePacket with pchk := 1 }) (0x70)) = true
    ∧ (let sd : Side := .module;
      let port : Nat := 3;
      let p : Packet := responsePacket;
      let s : State := State.reset;
      let s : State := s.onXpt sd fun t => { t with ops := [] };
      let kinds := [(Instr.loadData sd port p, 0x70), (Instr.storeAck sd port p, 0x71), (Instr.atomicResult sd port p, 0x72), (Instr.reduceAck sd port p, 0x73), (Instr.dmaReadData sd port p, 0x82)];
      (fun c op => decide (((c, op) ∈ kinds) ∧ (p.opcode = op) ∧ ((accept sd port p s).1.isSome = true) ∧ ((s.xpt sd).ops = []) ∧ ((s.xpt sd).finished = []))) (Instr.loadData sd 3 responsePacket) (0x70)) = true
    ∧ (let sd : Side := .module;
      let o : SrcOp := { opSent with use := .engine 70 1, pkt := { opSent.pkt with opcode := 0x60 } };
      let u : Sent := sentNine;
      let s : State := State.reset;
      let s : State := s.onXpt sd fun t => { t with ops := [{ opSent with use := .engine 70 1, pkt := { opSent.pkt with opcode := 0x60 } }] };
      let one := (s.xpt sd).ops = [o] ∧ o.sent = some u ∧ (s.xpt sd).finished = [] ∧ staysFinished { op := o, status := stOk, outcome := 0 } = true;
      decide ((one) ∧ ((o.pkt.opcode = 0x60 ∨ o.pkt.opcode = 0x61)) ∧ (o.pkt.stream = 0))) = true
    ∧ (let sd : Side := .module;
      let s : State := State.reset;
      let s : State := s.onXpt sd fun t => { t with ops := [] };
      decide (((s.xpt sd).ops = []))) = true
    ∧ (let s : State := State.reset;
      let s : State := s.onE fun e => { e with cache := [{ line := 1, state := 1, readMostly := true, data := [], filledAt := 0, used := 0 }] };
      (fun gfa c => decide ((cached (gfaLine gfa) s = some c) ∧ (c.readMostly = true))) (64) ({ line := 1, state := 1, readMostly := true, data := [], filledAt := 0, used := 0 })) = true
    ∧ (let s : State := State.reset;
      let s : State := s.onE fun e => { e with cache := [{ line := 1, state := 1, readMostly := false, data := [], filledAt := 0, used := 0 }] };
      (fun gfa c => decide ((cached (gfaLine gfa) s = some c) ∧ (c.readMostly = false))) (64) ({ line := 1, state := 1, readMostly := false, data := [], filledAt := 0, used := 0 })) = true := by decide +kernel

theorem met_HomeServesCoherentRequests :
    (let port : Nat := 3;
      let p : Packet := homePacket 0x20 [];
      let s : State := State.reset;
      let s : State := s;
      let requests := [(Instr.rdShared port p, 0x20), (Instr.rdOwn port p, 0x21), (Instr.upgrade port p, 0x22), (Instr.wb port p, 0x23), (Instr.evict port p, 0x24)];
      (fun c op => decide (((c, op) ∈ requests) ∧ (s.isLeaf = false ∨ p.opcode ≠ op))) (Instr.rdShared 3 (homePacket 0x20 [])) (0x20)) = true
    ∧ (let port : Nat := 3;
      let p : Packet := homePacket 0x21 [];
      let s : State := State.reset;
      let s : State := s;
      let requests := [(Instr.rdShared port p, 0x20), (Instr.rdOwn port p, 0x21), (Instr.upgrade port p, 0x22), (Instr.wb port p, 0x23), (Instr.evict port p, 0x24)];
      (fun c op => decide (((c, op) ∈ requests) ∧ (s.isLeaf = false ∨ p.opcode ≠ op))) (Instr.rdOwn 3 (homePacket 0x21 [])) (0x21)) = true
    ∧ (let port : Nat := 3;
      let p : Packet := homePacket 0x22 [];
      let s : State := State.reset;
      let s : State := s;
      let requests := [(Instr.rdShared port p, 0x20), (Instr.rdOwn port p, 0x21), (Instr.upgrade port p, 0x22), (Instr.wb port p, 0x23), (Instr.evict port p, 0x24)];
      (fun c op => decide (((c, op) ∈ requests) ∧ (s.isLeaf = false ∨ p.opcode ≠ op))) (Instr.upgrade 3 (homePacket 0x22 [])) (0x22)) = true
    ∧ (let port : Nat := 3;
      let p : Packet := homePacket 0x23 [];
      let s : State := State.reset;
      let s : State := s;
      let requests := [(Instr.rdShared port p, 0x20), (Instr.rdOwn port p, 0x21), (Instr.upgrade port p, 0x22), (Instr.wb port p, 0x23), (Instr.evict port p, 0x24)];
      (fun c op => decide (((c, op) ∈ requests) ∧ (s.isLeaf = false ∨ p.opcode ≠ op))) (Instr.wb 3 (homePacket 0x23 [])) (0x23)) = true
    ∧ (let port : Nat := 3;
      let p : Packet := homePacket 0x24 [];
      let s : State := State.reset;
      let s : State := s;
      let requests := [(Instr.rdShared port p, 0x20), (Instr.rdOwn port p, 0x21), (Instr.upgrade port p, 0x22), (Instr.wb port p, 0x23), (Instr.evict port p, 0x24)];
      (fun c op => decide (((c, op) ∈ requests) ∧ (s.isLeaf = false ∨ p.opcode ≠ op))) (Instr.evict 3 (homePacket 0x24 [])) (0x24)) = true
    ∧ (let port : Nat := 3;
      let p : Packet := { homePacket 0x20 [] with pchk := 1 };
      let s : State := State.reset;
      let s : State := homeState s;
      let came := s.isLeaf = true ∧ (accept .module port p s).1.isSome = true ∧ s.module.xpt.finished = [];
      let requests := [(Instr.rdShared port p, 0x20), (Instr.rdOwn port p, 0x21), (Instr.upgrade port p, 0x22), (Instr.wb port p, 0x23), (Instr.evict port p, 0x24)];
      (fun c op => decide (((c, op) ∈ requests) ∧ (p.opcode = op) ∧ (came) ∧ (pchkGood p = false))) (Instr.rdShared 3 { homePacket 0x20 [] with pchk := 1 }) (0x20)) = true
    ∧ (let port : Nat := 3;
      let p : Packet := { homePacket 0x21 [] with pchk := 1 };
      let s : State := State.reset;
      let s : State := homeState s;
      let came := s.isLeaf = true ∧ (accept .module port p s).1.isSome = true ∧ s.module.xpt.finished = [];
      let requests := [(Instr.rdShared port p, 0x20), (Instr.rdOwn port p, 0x21), (Instr.upgrade port p, 0x22), (Instr.wb port p, 0x23), (Instr.evict port p, 0x24)];
      (fun c op => decide (((c, op) ∈ requests) ∧ (p.opcode = op) ∧ (came) ∧ (pchkGood p = false))) (Instr.rdOwn 3 { homePacket 0x21 [] with pchk := 1 }) (0x21)) = true
    ∧ (let port : Nat := 3;
      let p : Packet := { homePacket 0x22 [] with pchk := 1 };
      let s : State := State.reset;
      let s : State := homeState s;
      let came := s.isLeaf = true ∧ (accept .module port p s).1.isSome = true ∧ s.module.xpt.finished = [];
      let requests := [(Instr.rdShared port p, 0x20), (Instr.rdOwn port p, 0x21), (Instr.upgrade port p, 0x22), (Instr.wb port p, 0x23), (Instr.evict port p, 0x24)];
      (fun c op => decide (((c, op) ∈ requests) ∧ (p.opcode = op) ∧ (came) ∧ (pchkGood p = false))) (Instr.upgrade 3 { homePacket 0x22 [] with pchk := 1 }) (0x22)) = true
    ∧ (let port : Nat := 3;
      let p : Packet := { homePacket 0x23 [] with pchk := 1 };
      let s : State := State.reset;
      let s : State := homeState s;
      let came := s.isLeaf = true ∧ (accept .module port p s).1.isSome = true ∧ s.module.xpt.finished = [];
      let requests := [(Instr.rdShared port p, 0x20), (Instr.rdOwn port p, 0x21), (Instr.upgrade port p, 0x22), (Instr.wb port p, 0x23), (Instr.evict port p, 0x24)];
      (fun c op => decide (((c, op) ∈ requests) ∧ (p.opcode = op) ∧ (came) ∧ (pchkGood p = false))) (Instr.wb 3 { homePacket 0x23 [] with pchk := 1 }) (0x23)) = true
    ∧ (let port : Nat := 3;
      let p : Packet := { homePacket 0x24 [] with pchk := 1 };
      let s : State := State.reset;
      let s : State := homeState s;
      let came := s.isLeaf = true ∧ (accept .module port p s).1.isSome = true ∧ s.module.xpt.finished = [];
      let requests := [(Instr.rdShared port p, 0x20), (Instr.rdOwn port p, 0x21), (Instr.upgrade port p, 0x22), (Instr.wb port p, 0x23), (Instr.evict port p, 0x24)];
      (fun c op => decide (((c, op) ∈ requests) ∧ (p.opcode = op) ∧ (came) ∧ (pchkGood p = false))) (Instr.evict 3 { homePacket 0x24 [] with pchk := 1 }) (0x24)) = true
    ∧ (let port : Nat := 3;
      let p : Packet := homePacket 0x20 [];
      let s : State := State.reset;
      let s : State := (homeState s).wr .module Fld.memWinKeyEpoch 0 1;
      let u := (accept .module port p s).2;
      let came := s.isLeaf = true ∧ (accept .module port p s).1.isSome = true ∧ s.module.xpt.finished = [];
      let requests := [(Instr.rdShared port p, 0x20), (Instr.rdOwn port p, 0x21), (Instr.upgrade port p, 0x22), (Instr.wb port p, 0x23), (Instr.evict port p, 0x24)];
      (fun c op st v => decide (((c, op) ∈ requests) ∧ (p.opcode = op) ∧ (came) ∧ (pchkGood p = true) ∧ (checkTc2 p u = (some st, v)))) (Instr.rdShared 3 (homePacket 0x20 [])) (0x20) (stAccessDenied) (bump .module .memDenyKeyCnt 0 s)) = true
    ∧ (let port : Nat := 3;
      let p : Packet := homePacket 0x21 [];
      let s : State := State.reset;
      let s : State := (homeState s).wr .module Fld.memWinKeyEpoch 0 1;
      let u := (accept .module port p s).2;
      let came := s.isLeaf = true ∧ (accept .module port p s).1.isSome = true ∧ s.module.xpt.finished = [];
      let requests := [(Instr.rdShared port p, 0x20), (Instr.rdOwn port p, 0x21), (Instr.upgrade port p, 0x22), (Instr.wb port p, 0x23), (Instr.evict port p, 0x24)];
      (fun c op st v => decide (((c, op) ∈ requests) ∧ (p.opcode = op) ∧ (came) ∧ (pchkGood p = true) ∧ (checkTc2 p u = (some st, v)))) (Instr.rdOwn 3 (homePacket 0x21 [])) (0x21) (stAccessDenied) (bump .module .memDenyKeyCnt 0 s)) = true
    ∧ (let port : Nat := 3;
      let p : Packet := homePacket 0x22 [];
      let s : State := State.reset;
      let s : State := (homeState s).wr .module Fld.memWinKeyEpoch 0 1;
      let u := (accept .module port p s).2;
      let came := s.isLeaf = true ∧ (accept .module port p s).1.isSome = true ∧ s.module.xpt.finished = [];
      let requests := [(Instr.rdShared port p, 0x20), (Instr.rdOwn port p, 0x21), (Instr.upgrade port p, 0x22), (Instr.wb port p, 0x23), (Instr.evict port p, 0x24)];
      (fun c op st v => decide (((c, op) ∈ requests) ∧ (p.opcode = op) ∧ (came) ∧ (pchkGood p = true) ∧ (checkTc2 p u = (some st, v)))) (Instr.upgrade 3 (homePacket 0x22 [])) (0x22) (stAccessDenied) (bump .module .memDenyKeyCnt 0 s)) = true
    ∧ (let port : Nat := 3;
      let p : Packet := homePacket 0x23 [];
      let s : State := State.reset;
      let s : State := (homeState s).wr .module Fld.memWinKeyEpoch 0 1;
      let u := (accept .module port p s).2;
      let came := s.isLeaf = true ∧ (accept .module port p s).1.isSome = true ∧ s.module.xpt.finished = [];
      let requests := [(Instr.rdShared port p, 0x20), (Instr.rdOwn port p, 0x21), (Instr.upgrade port p, 0x22), (Instr.wb port p, 0x23), (Instr.evict port p, 0x24)];
      (fun c op st v => decide (((c, op) ∈ requests) ∧ (p.opcode = op) ∧ (came) ∧ (pchkGood p = true) ∧ (checkTc2 p u = (some st, v)))) (Instr.wb 3 (homePacket 0x23 [])) (0x23) (stAccessDenied) (bump .module .memDenyKeyCnt 0 s)) = true
    ∧ (let port : Nat := 3;
      let p : Packet := homePacket 0x20 [];
      let s : State := State.reset;
      let s : State := homeState s;
      let u := (accept .module port p s).2;
      let came := s.isLeaf = true ∧ (accept .module port p s).1.isSome = true ∧ s.module.xpt.finished = [];
      let slot := eidSlot p.src;
      let line := p.offset.toNat / 64;
      let use := HomeUse.request port slot p;
      let ready := came ∧ pchkGood p = true ∧ checkTc2 p u = (none, u) ∧ homeWaits use u.m.dir.queue u = false;
      let mine := ready ∧ inScope port slot p u = true;
      (fun d => decide ((p.opcode = 0x20) ∧ (mine) ∧ (dirEntry line u = none) ∧ (setFull line u = false) ∧ (homeRead line u = some d))) (ddrRead 0 0 64 s)) = true
    ∧ (let port : Nat := 3;
      let p : Packet := homePacket 0x21 [];
      let s : State := State.reset;
      let s : State := homeState s;
      let u := (accept .module port p s).2;
      let came := s.isLeaf = true ∧ (accept .module port p s).1.isSome = true ∧ s.module.xpt.finished = [];
      let slot := eidSlot p.src;
      let line := p.offset.toNat / 64;
      let use := HomeUse.request port slot p;
      let ready := came ∧ pchkGood p = true ∧ checkTc2 p u = (none, u) ∧ homeWaits use u.m.dir.queue u = false;
      let mine := ready ∧ inScope port slot p u = true;
      (fun d => decide ((p.opcode = 0x21) ∧ (mine) ∧ (dirEntry line u = none) ∧ (setFull line u = false) ∧ (homeRead line u = some d))) (ddrRead 0 0 64 s)) = true
    ∧ (let port : Nat := 3;
      let p : Packet := homePacket 0x22 [];
      let s : State := State.reset;
      let s : State := onDir (fun d => { d with entries := [(0, { state := 1, ptrs := [0] })] }) (homeState s);
      let u := (accept .module port p s).2;
      let came := s.isLeaf = true ∧ (accept .module port p s).1.isSome = true ∧ s.module.xpt.finished = [];
      let slot := eidSlot p.src;
      let line := p.offset.toNat / 64;
      let use := HomeUse.request port slot p;
      let ready := came ∧ pchkGood p = true ∧ checkTc2 p u = (none, u) ∧ homeWaits use u.m.dir.queue u = false;
      let mine := ready ∧ inScope port slot p u = true;
      (fun e => decide ((p.opcode = 0x22) ∧ (mine) ∧ (dirEntry line u = some e) ∧ (e.state = 1) ∧ (e.fo = none) ∧ (e.ptrs = [slot]) ∧ (e.ovf = false))) ({ state := 1, ptrs := [0] })) = true
    ∧ (let port : Nat := 3;
      let p : Packet := homePacket 0x23 [7, 7];
      let s : State := State.reset;
      let s : State := onDir (fun d => { d with entries := [(0, { state := 2, fo := some 0 })] }) (homeState s);
      let u := (accept .module port p s).2;
      let came := s.isLeaf = true ∧ (accept .module port p s).1.isSome = true ∧ s.module.xpt.finished = [];
      let slot := eidSlot p.src;
      let line := p.offset.toNat / 64;
      let use := HomeUse.request port slot p;
      let ready := came ∧ pchkGood p = true ∧ checkTc2 p u = (none, u) ∧ homeWaits use u.m.dir.queue u = false;
      (fun e => decide ((p.opcode = 0x23) ∧ (ready) ∧ (u.m.dir.stale.contains (homeTile (dirTiles u) line, slot, p.xseq) = false) ∧ (dirEntry line u = some e) ∧ (2 ≤ e.state) ∧ (e.fo = some slot) ∧ (e.ptrs = []) ∧ (e.ovf = false))) ({ state := 2, fo := some 0 })) = true
    ∧ (let port : Nat := 3;
      let p : Packet := homePacket 0x23 [7, 7];
      let s : State := State.reset;
      let s : State := onDir (fun d => { d with entries := [(0, { state := 2, fo := some 9 })] }) (homeState s);
      let u := (accept .module port p s).2;
      let came := s.isLeaf = true ∧ (accept .module port p s).1.isSome = true ∧ s.module.xpt.finished = [];
      let slot := eidSlot p.src;
      let line := p.offset.toNat / 64;
      let use := HomeUse.request port slot p;
      let ready := came ∧ pchkGood p = true ∧ checkTc2 p u = (none, u) ∧ homeWaits use u.m.dir.queue u = false;
      (fun e => decide ((p.opcode = 0x23) ∧ (ready) ∧ (u.m.dir.stale.contains (homeTile (dirTiles u) line, slot, p.xseq) = false) ∧ (dirEntry line u = some e) ∧ (e.fo ≠ some slot))) ({ state := 2, fo := some 9 })) = true
    ∧ (let port : Nat := 3;
      let p : Packet := homePacket 0x23 [7, 7];
      let s : State := State.reset;
      let s : State := onDir (fun d => { d with stale := [(0, 0, 0)] }) (homeState s);
      let u := (accept .module port p s).2;
      let came := s.isLeaf = true ∧ (accept .module port p s).1.isSome = true ∧ s.module.xpt.finished = [];
      let slot := eidSlot p.src;
      let line := p.offset.toNat / 64;
      let use := HomeUse.request port slot p;
      let ready := came ∧ pchkGood p = true ∧ checkTc2 p u = (none, u) ∧ homeWaits use u.m.dir.queue u = false;
      decide ((p.opcode = 0x23) ∧ (ready) ∧ (u.m.dir.stale.contains (homeTile (dirTiles u) line, slot, p.xseq) = true))) = true
    ∧ (let port : Nat := 3;
      let p : Packet := homePacket 0x24 [];
      let s : State := State.reset;
      let s : State := onDir (fun d => { d with entries := [(0, { state := 1, ptrs := [0, 5] })] }) (homeState s);
      let u := (accept .module port p s).2;
      let came := s.isLeaf = true ∧ (accept .module port p s).1.isSome = true ∧ s.module.xpt.finished = [];
      let slot := eidSlot p.src;
      let line := p.offset.toNat / 64;
      let use := HomeUse.request port slot p;
      let ready := came ∧ pchkGood p = true ∧ checkTc2 p u = (none, u) ∧ homeWaits use u.m.dir.queue u = false;
      (fun e => decide ((p.opcode = 0x24) ∧ (ready) ∧ (dirEntry line u = some e))) ({ state := 1, ptrs := [0, 5] })) = true
    ∧ (let port : Nat := 3;
      let p : Packet := { homePacket 0x43 [] with pchk := 1 };
      let s : State := State.reset;
      let s : State := homeState s;
      let came := s.isLeaf = true ∧ (accept .module port p s).1.isSome = true ∧ s.module.xpt.finished = [];
      decide ((p.opcode = 0x43) ∧ (came) ∧ (pchkGood p = false))) = true
    ∧ (let port : Nat := 3;
      let p : Packet := homePacket 0x43 [];
      let s : State := State.reset;
      let s : State := onDir (fun d => { d with txns := [{ id := 4, use := .request 3 0 (homePacket 0x20 []), lines := [0], tseq := 0, granted := some 3 }] }) (homeState s);
      let u := (accept .module port p s).2;
      let came := s.isLeaf = true ∧ (accept .module port p s).1.isSome = true ∧ s.module.xpt.finished = [];
      (fun y => decide ((p.opcode = 0x43) ∧ (came) ∧ (pchkGood p = true) ∧ (ackedTxn p u = some y))) ({ id := 4, use := .request 3 0 (homePacket 0x20 []), lines := [0], tseq := 0, granted := some 3 })) = true
    ∧ (let port : Nat := 3;
      let p : Packet := homePacket 0x43 [];
      let s : State := State.reset;
      let s : State := homeState s;
      let u := (accept .module port p s).2;
      let came := s.isLeaf = true ∧ (accept .module port p s).1.isSome = true ∧ s.module.xpt.finished = [];
      decide ((p.opcode = 0x43) ∧ (came) ∧ (pchkGood p = true) ∧ (ackedTxn p u = none))) = true
    ∧ (let s : State := State.reset;
      let s : State := onDir (fun d => { d with txns := [{ id := 4, use := .evict, lines := [0], tseq := 0 }] }) (homeState s);
      (fun l => decide ((lineBlocked l s = true))) (0)) = true
    ∧ (let port : Nat := 3;
      let s : State := State.reset;
      let s : State := onDir (fun d => { d with queue := [.request 3 0 (homePacket 0x24 [])] }) (homeState s);
      (fun l q r => decide ((lineBlocked l s = false) ∧ (s.m.dir.clearing = []) ∧ (s.module.xpt.finished = []) ∧ (q.opcode = 0x24) ∧ (nextFor l s [] s.m.dir.queue = some (.request port r q)))) (0) (homePacket 0x24 []) (0)) = true := by decide +kernel

theorem met_HomeSnoopsAndRecovers :
    (let port : Nat := 3;
      let p : Packet := { homePacket 0x40 [] with pchk := 1 };
      let s : State := State.reset;
      let s : State := homeState s;
      let came := s.isLeaf = true ∧ (accept .module port p s).1.isSome = true ∧ s.module.xpt.finished = [];
      decide ((p.opcode = 0x40) ∧ (came) ∧ (pchkGood p = false))) = true
    ∧ (let port : Nat := 3;
      let p : Packet := sealed { homePacket 0x40 [7] with opx := 0x728 };
      let s : State := State.reset;
      let s : State := homeState s;
      let came := s.isLeaf = true ∧ (accept .module port p s).1.isSome = true ∧ s.module.xpt.finished = [];
      decide ((p.opcode = 0x40) ∧ (came) ∧ (pchkGood p = true) ∧ (s.m.dir.flush = none) ∧ (s.m.dir.txns = []))) = true
    ∧ (let port : Nat := 3;
      let p : Packet := sealed { homePacket 0x40 [] with opx := 0x11 };
      let s : State := State.reset;
      let s : State := onDir (fun d => { d with txns := [forwardTxn], entries := [(0, { state := 2, fo := some 0 })] }) (homeState s);
      let u := (accept .module port p s).2;
      let came := s.isLeaf = true ∧ (accept .module port p s).1.isSome = true ∧ s.module.xpt.finished = [];
      let slot := eidSlot p.src;
      let line := p.offset.toNat / 64;
      (fun q r h e x y => decide ((p.opcode = 0x40) ∧ (came) ∧ (pchkGood p = true) ∧ (s.m.dir.flush = none) ∧ (p.opx = 0x11) ∧ (s.m.dir.txns = [x]) ∧ (x = { id := 0, use := .request port r q, lines := [line], tseq := p.xseq, snoops := [y] }) ∧ (y = { slot := slot, pkt := { q with offset := p.offset }, forward := true }) ∧ (q.opcode = 0x20) ∧ (q.offset = p.offset) ∧ (h = slot) ∧ (h ≠ r) ∧ (dirEntry line u = some e) ∧ (e.state = 2) ∧ (e.fo = some h) ∧ (e.ptrs = []) ∧ (e.ovf = false))) (homePacket 0x20 []) (1) (0) ({ state := 2, fo := some 0 }) (forwardTxn) ({ slot := 0, pkt := homePacket 0x20 [], forward := true })) = true
    ∧ (let port : Nat := 3;
      let p : Packet := homePacket 0x40 [];
      let s : State := State.reset;
      let s : State := onDir (fun d => { d with flush := some { waiting := [0, 1], tseq := 0, tiles := 3 } }) (homeState s);
      let came := s.isLeaf = true ∧ (accept .module port p s).1.isSome = true ∧ s.module.xpt.finished = [];
      let slot := eidSlot p.src;
      (fun f => decide ((p.opcode = 0x40) ∧ (came) ∧ (pchkGood p = true) ∧ (s.m.dir.flush = some f) ∧ (f.tseq = p.xseq) ∧ (f.waiting.contains slot = true) ∧ ((f.waiting.filter (· ≠ slot)) ≠ []))) ({ waiting := [0, 1], tseq := 0, tiles := 3 })) = true
    ∧ (let port : Nat := 3;
      let p : Packet := homePacket 0x40 [];
      let s : State := State.reset;
      let s : State := onDir (fun d => { d with entries := [(4, { state := 1, ptrs := [1] })], flush := some { waiting := [0], tseq := 0, tiles := 3 } }) (homeState s);
      let came := s.isLeaf = true ∧ (accept .module port p s).1.isSome = true ∧ s.module.xpt.finished = [];
      let slot := eidSlot p.src;
      (fun f => decide ((p.opcode = 0x40) ∧ (came) ∧ (pchkGood p = true) ∧ (s.m.dir.flush = some f) ∧ (f.tseq = p.xseq) ∧ (f.waiting = [slot]) ∧ (f.oneSet = none) ∧ (f.tiles < 4096) ∧ (s.m.dir.queue = []) ∧ (s.m.tile.change = none))) ({ waiting := [0], tseq := 0, tiles := 3 })) = true
    ∧ (let port : Nat := 3;
      let p : Packet := homePacket 0x25 [];
      let s : State := State.reset;
      let s : State := (homeState s).wr .module Fld.dirPoolCtlEn 0 0;
      let u := (accept .module port p s).2;
      let came := s.isLeaf = true ∧ (accept .module port p s).1.isSome = true ∧ s.module.xpt.finished = [];
      decide ((p.opcode = 0x25) ∧ (came) ∧ (pchkGood p = true) ∧ (u.rdb .module Fld.dirPoolCtlEn = false))) = true
    ∧ (let port : Nat := 3;
      let p : Packet := { homePacket 0x25 [] with pchk := 1 };
      let s : State := State.reset;
      let s : State := homeState s;
      let came := s.isLeaf = true ∧ (accept .module port p s).1.isSome = true ∧ s.module.xpt.finished = [];
      decide ((p.opcode = 0x25) ∧ (came) ∧ (pchkGood p = false))) = true
    ∧ (let port : Nat := 3;
      let p : Packet := homePacket 0x25 [];
      let s : State := State.reset;
      let s : State := homeState s;
      let u := (accept .module port p s).2;
      let came := s.isLeaf = true ∧ (accept .module port p s).1.isSome = true ∧ s.module.xpt.finished = [];
      let slot := eidSlot p.src;
      decide ((p.opcode = 0x25) ∧ (came) ∧ (pchkGood p = true) ∧ (u.rdb .module Fld.dirPoolCtlEn = true) ∧ (fromSlot p u = true) ∧ (s.m.dir.txns = []) ∧ ((s.m.dir.recovery.any fun r => decide (r.slot = slot)) = false))) = true
    ∧ (let port : Nat := 3;
      let p : Packet := { homePacket 0x26 [] with pchk := 1 };
      let s : State := State.reset;
      let s : State := homeState s;
      let came := s.isLeaf = true ∧ (accept .module port p s).1.isSome = true ∧ s.module.xpt.finished = [];
      decide ((p.opcode = 0x26) ∧ (came) ∧ (pchkGood p = false))) = true
    ∧ (let port : Nat := 3;
      let p : Packet := homePacket 0x26 [];
      let s : State := State.reset;
      let s : State := onDir (fun d => { d with entries := [(7, { state := 3, fo := some 0, ptrs := [5] })], owed := [0, 2], recovery := [{ slot := 0, startedAt := 0 }, { slot := 1, startedAt := 0 }] }) (homeState s);
      let u := (accept .module port p s).2;
      let came := s.isLeaf = true ∧ (accept .module port p s).1.isSome = true ∧ s.module.xpt.finished = [];
      (fun l e => decide ((p.opcode = 0x26) ∧ (came) ∧ (pchkGood p = true) ∧ (fromSlot p u = true) ∧ (s.m.dir.entries = [(l, e)]))) (7) ({ state := 3, fo := some 0, ptrs := [5] })) = true
    ∧ (let s : State := State.reset;
      let s : State := homeState s;
      (fun k => decide ((s.m.dir.scanning.contains k = false))) (default)) = true
    ∧ (let s : State := State.reset;
      let s : State := onDir (fun d => { d with scanning := [1, 2], entries := [(7, { state := 2, fo := some 1 })] }) (homeState s);
      (fun k l e => decide ((s.m.dir.scanning.contains k = true) ∧ (s.m.dir.entries = [(l, e)]) ∧ (s.m.dir.queue = []) ∧ (s.module.xpt.finished = []))) (1) (7) ({ state := 2, fo := some 1 })) = true
    ∧ (let s : State := State.reset;
      let s : State := s;
      decide ((s.isLeaf = false ∨ s.m.dir.flush.isSome = true))) = true
    ∧ (let s : State := State.reset;
      let s : State := homeState s;
      decide ((s.isLeaf = true) ∧ (s.m.dir.flush = none) ∧ (broadcastSlots s ≠ []))) = true
    ∧ (let s : State := State.reset;
      let s : State := homeState s;
      (fun (path : Path) n => decide ((rwlOpen .module path (regOffset .module .dirRegion n 0) s = true) ∧ (s.isLeaf = true) ∧ (n < 64) ∧ (s.m.dir.entries = []) ∧ (s.m.dir.clearing = []) ∧ (s.module.xpt.finished = []))) (.host) (0)) = true
    ∧ (let s : State := State.reset;
      let s : State := (homeState s).wr .module Fld.secOwnHeld 0 0xFFFF;
      (fun (path : Path) n => decide ((rwlOpen .module path (regOffset .module .dirRegion n 0) s = false))) (.host) (default)) = true := by decide +kernel

theorem met_HolderAnswersSnoops :
    (let port : Nat := 1;
      let p : Packet := snoopPacket 0x50 [];
      let snoops := [(Instr.snpShared port p, 0x30), (Instr.snpInv port p, 0x31), (Instr.snpCur port p, 0x32), (Instr.binv port p, 0x33)];
      (fun c op => decide (((c, op) ∈ snoops) ∧ (p.opcode ≠ op))) (Instr.snpShared 1 (snoopPacket 0x50 [])) (0x30)) = true
    ∧ (let port : Nat := 1;
      let p : Packet := snoopPacket 0x50 [];
      let snoops := [(Instr.snpShared port p, 0x30), (Instr.snpInv port p, 0x31), (Instr.snpCur port p, 0x32), (Instr.binv port p, 0x33)];
      (fun c op => decide (((c, op) ∈ snoops) ∧ (p.opcode ≠ op))) (Instr.snpInv 1 (snoopPacket 0x50 [])) (0x31)) = true
    ∧ (let port : Nat := 1;
      let p : Packet := snoopPacket 0x50 [];
      let snoops := [(Instr.snpShared port p, 0x30), (Instr.snpInv port p, 0x31), (Instr.snpCur port p, 0x32), (Instr.binv port p, 0x33)];
      (fun c op => decide (((c, op) ∈ snoops) ∧ (p.opcode ≠ op))) (Instr.snpCur 1 (snoopPacket 0x50 [])) (0x32)) = true
    ∧ (let port : Nat := 1;
      let p : Packet := snoopPacket 0x50 [];
      let snoops := [(Instr.snpShared port p, 0x30), (Instr.snpInv port p, 0x31), (Instr.snpCur port p, 0x32), (Instr.binv port p, 0x33)];
      (fun c op => decide (((c, op) ∈ snoops) ∧ (p.opcode ≠ op))) (Instr.binv 1 (snoopPacket 0x50 [])) (0x33)) = true
    ∧ (let port : Nat := 1;
      let p : Packet := { snoopPacket 0x30 [] with pchk := 1 };
      let s : State := State.reset;
      let s : State := s;
      let came := (accept .endpoint port p s).1.isSome = true ∧ s.endpoint.xpt.finished = [] ∧ s.module.xpt.finished = [];
      let snoops := [(Instr.snpShared port p, 0x30), (Instr.snpInv port p, 0x31), (Instr.snpCur port p, 0x32), (Instr.binv port p, 0x33)];
      (fun c op => decide (((c, op) ∈ snoops) ∧ (p.opcode = op) ∧ (came) ∧ (pchkGood p = false))) (Instr.snpShared 1 { snoopPacket 0x30 [] with pchk := 1 }) (0x30)) = true
    ∧ (let port : Nat := 1;
      let p : Packet := { snoopPacket 0x31 [] with pchk := 1 };
      let s : State := State.reset;
      let s : State := s;
      let came := (accept .endpoint port p s).1.isSome = true ∧ s.endpoint.xpt.finished = [] ∧ s.module.xpt.finished = [];
      let snoops := [(Instr.snpShared port p, 0x30), (Instr.snpInv port p, 0x31), (Instr.snpCur port p, 0x32), (Instr.binv port p, 0x33)];
      (fun c op => decide (((c, op) ∈ snoops) ∧ (p.opcode = op) ∧ (came) ∧ (pchkGood p = false))) (Instr.snpInv 1 { snoopPacket 0x31 [] with pchk := 1 }) (0x31)) = true
    ∧ (let port : Nat := 1;
      let p : Packet := { snoopPacket 0x32 [] with pchk := 1 };
      let s : State := State.reset;
      let s : State := s;
      let came := (accept .endpoint port p s).1.isSome = true ∧ s.endpoint.xpt.finished = [] ∧ s.module.xpt.finished = [];
      let snoops := [(Instr.snpShared port p, 0x30), (Instr.snpInv port p, 0x31), (Instr.snpCur port p, 0x32), (Instr.binv port p, 0x33)];
      (fun c op => decide (((c, op) ∈ snoops) ∧ (p.opcode = op) ∧ (came) ∧ (pchkGood p = false))) (Instr.snpCur 1 { snoopPacket 0x32 [] with pchk := 1 }) (0x32)) = true
    ∧ (let port : Nat := 1;
      let p : Packet := { snoopPacket 0x33 [] with pchk := 1 };
      let s : State := State.reset;
      let s : State := s;
      let came := (accept .endpoint port p s).1.isSome = true ∧ s.endpoint.xpt.finished = [] ∧ s.module.xpt.finished = [];
      let snoops := [(Instr.snpShared port p, 0x30), (Instr.snpInv port p, 0x31), (Instr.snpCur port p, 0x32), (Instr.binv port p, 0x33)];
      (fun c op => decide (((c, op) ∈ snoops) ∧ (p.opcode = op) ∧ (came) ∧ (pchkGood p = false))) (Instr.binv 1 { snoopPacket 0x33 [] with pchk := 1 }) (0x33)) = true
    ∧ (let port : Nat := 1;
      let p : Packet := snoopPacket 0x30 [];
      let s : State := State.reset;
      let s : State := s;
      let u := (accept .endpoint port p s).2;
      let came := (accept .endpoint port p s).1.isSome = true ∧ s.endpoint.xpt.finished = [] ∧ s.module.xpt.finished = [];
      let snoops := [(Instr.snpShared port p, 0x30), (Instr.snpInv port p, 0x31), (Instr.snpCur port p, 0x32), (Instr.binv port p, 0x33)];
      let line := snoopLine p u;
      let buffered := s.e.coh.any fun c => decide (c.op = 0x23) && decide (c.line = line);
      (fun c op => decide (((c, op) ∈ snoops) ∧ (p.opcode = op) ∧ (came) ∧ (pchkGood p = true) ∧ (cached line u = none) ∧ (buffered = false))) (Instr.snpShared 1 (snoopPacket 0x30 [])) (0x30)) = true
    ∧ (let port : Nat := 1;
      let p : Packet := snoopPacket 0x31 [];
      let s : State := State.reset;
      let s : State := s;
      let u := (accept .endpoint port p s).2;
      let came := (accept .endpoint port p s).1.isSome = true ∧ s.endpoint.xpt.finished = [] ∧ s.module.xpt.finished = [];
      let snoops := [(Instr.snpShared port p, 0x30), (Instr.snpInv port p, 0x31), (Instr.snpCur port p, 0x32), (Instr.binv port p, 0x33)];
      let line := snoopLine p u;
      let buffered := s.e.coh.any fun c => decide (c.op = 0x23) && decide (c.line = line);
      (fun c op => decide (((c, op) ∈ snoops) ∧ (p.opcode = op) ∧ (came) ∧ (pchkGood p = true) ∧ (cached line u = none) ∧ (buffered = false))) (Instr.snpInv 1 (snoopPacket 0x31 [])) (0x31)) = true
    ∧ (let port : Nat := 1;
      let p : Packet := snoopPacket 0x32 [];
      let s : State := State.reset;
      let s : State := s;
      let u := (accept .endpoint port p s).2;
      let came := (accept .endpoint port p s).1.isSome = true ∧ s.endpoint.xpt.finished = [] ∧ s.module.xpt.finished = [];
      let snoops := [(Instr.snpShared port p, 0x30), (Instr.snpInv port p, 0x31), (Instr.snpCur port p, 0x32), (Instr.binv port p, 0x33)];
      let line := snoopLine p u;
      let buffered := s.e.coh.any fun c => decide (c.op = 0x23) && decide (c.line = line);
      (fun c op => decide (((c, op) ∈ snoops) ∧ (p.opcode = op) ∧ (came) ∧ (pchkGood p = true) ∧ (cached line u = none) ∧ (buffered = false))) (Instr.snpCur 1 (snoopPacket 0x32 [])) (0x32)) = true
    ∧ (let port : Nat := 1;
      let p : Packet := snoopPacket 0x33 [];
      let s : State := State.reset;
      let s : State := s;
      let u := (accept .endpoint port p s).2;
      let came := (accept .endpoint port p s).1.isSome = true ∧ s.endpoint.xpt.finished = [] ∧ s.module.xpt.finished = [];
      let snoops := [(Instr.snpShared port p, 0x30), (Instr.snpInv port p, 0x31), (Instr.snpCur port p, 0x32), (Instr.binv port p, 0x33)];
      let line := snoopLine p u;
      let buffered := s.e.coh.any fun c => decide (c.op = 0x23) && decide (c.line = line);
      (fun c op => decide (((c, op) ∈ snoops) ∧ (p.opcode = op) ∧ (came) ∧ (pchkGood p = true) ∧ (cached line u = none) ∧ (buffered = false))) (Instr.binv 1 (snoopPacket 0x33 [])) (0x33)) = true
    ∧ (let port : Nat := 1;
      let p : Packet := snoopPacket 0x30 [];
      let s : State := State.reset;
      let s : State := s.onE fun e => { e with cache := [heldLine] };
      let u := (accept .endpoint port p s).2;
      let came := (accept .endpoint port p s).1.isSome = true ∧ s.endpoint.xpt.finished = [] ∧ s.module.xpt.finished = [];
      let line := snoopLine p u;
      let buffered := s.e.coh.any fun c => decide (c.op = 0x23) && decide (c.line = line);
      let other := p.opx.setWidth 20 ≠ u.myEid .endpoint;
      (fun (c : CacheLine) => decide ((p.opcode = 0x30) ∧ (came) ∧ (pchkGood p = true) ∧ (cached line u = some c) ∧ (other) ∧ (buffered = false) ∧ (c.readMostly = false) ∧ (c.accel = 0) ∧ (c.state = 4) ∧ (p.opx.getLsbD 21 = false) ∧ (p.opx.getLsbD 22 = false))) (heldLine)) = true
    ∧ (let port : Nat := 1;
      let p : Packet := snoopPacket 0x31 [];
      let s : State := State.reset;
      let s : State := (s.onE fun e => { e with cache := [heldLine] }).wr .endpoint Fld.fxeCohValid 0 0;
      let u := (accept .endpoint port p s).2;
      let came := (accept .endpoint port p s).1.isSome = true ∧ s.endpoint.xpt.finished = [] ∧ s.module.xpt.finished = [];
      let line := snoopLine p u;
      let buffered := s.e.coh.any fun c => decide (c.op = 0x23) && decide (c.line = line);
      let other := p.opx.setWidth 20 ≠ u.myEid .endpoint;
      (fun k op c => decide (((k, op) ∈ [(Instr.snpInv port p, 0x31), (Instr.binv port p, 0x33)]) ∧ (p.opcode = op) ∧ (came) ∧ (pchkGood p = true) ∧ (cached line u = some c) ∧ (other) ∧ (buffered = false) ∧ (c.readMostly = false) ∧ (c.accel = 0) ∧ (cohRange (64 * line) u = none))) (Instr.snpInv 1 (snoopPacket 0x31 [])) (0x31) (heldLine)) = true
    ∧ (let port : Nat := 1;
      let p : Packet := snoopPacket 0x33 [];
      let s : State := State.reset;
      let s : State := (s.onE fun e => { e with cache := [heldLine] }).wr .endpoint Fld.fxeCohValid 0 0;
      let u := (accept .endpoint port p s).2;
      let came := (accept .endpoint port p s).1.isSome = true ∧ s.endpoint.xpt.finished = [] ∧ s.module.xpt.finished = [];
      let line := snoopLine p u;
      let buffered := s.e.coh.any fun c => decide (c.op = 0x23) && decide (c.line = line);
      let other := p.opx.setWidth 20 ≠ u.myEid .endpoint;
      (fun k op c => decide (((k, op) ∈ [(Instr.snpInv port p, 0x31), (Instr.binv port p, 0x33)]) ∧ (p.opcode = op) ∧ (came) ∧ (pchkGood p = true) ∧ (cached line u = some c) ∧ (other) ∧ (buffered = false) ∧ (c.readMostly = false) ∧ (c.accel = 0) ∧ (cohRange (64 * line) u = none))) (Instr.binv 1 (snoopPacket 0x33 [])) (0x33) (heldLine)) = true
    ∧ (let port : Nat := 1;
      let p : Packet := snoopPacket 0x32 [];
      let s : State := State.reset;
      let s : State := s.onE fun e => { e with cache := [heldLine] };
      let u := (accept .endpoint port p s).2;
      let came := (accept .endpoint port p s).1.isSome = true ∧ s.endpoint.xpt.finished = [] ∧ s.module.xpt.finished = [];
      let line := snoopLine p u;
      let buffered := s.e.coh.any fun c => decide (c.op = 0x23) && decide (c.line = line);
      let other := p.opx.setWidth 20 ≠ u.myEid .endpoint;
      (fun (c : CacheLine) => decide ((p.opcode = 0x32) ∧ (came) ∧ (pchkGood p = true) ∧ (cached line u = some c) ∧ (other) ∧ (buffered = false) ∧ (c.readMostly = false) ∧ (c.accel = 0) ∧ (c.state = 4) ∧ (cohRange (64 * line) u = none))) (heldLine)) = true
    ∧ (let port : Nat := 1;
      let p : Packet := snoopPacket 0x30 [];
      let s : State := State.reset;
      let s : State := s.onE fun e => { e with cache := [{ heldLine with accel := 4 }] };
      let u := (accept .endpoint port p s).2;
      let came := (accept .endpoint port p s).1.isSome = true ∧ s.endpoint.xpt.finished = [] ∧ s.module.xpt.finished = [];
      let snoops := [(Instr.snpShared port p, 0x30), (Instr.snpInv port p, 0x31), (Instr.snpCur port p, 0x32), (Instr.binv port p, 0x33)];
      let line := snoopLine p u;
      let other := p.opx.setWidth 20 ≠ u.myEid .endpoint;
      (fun k op c sop => decide (((k, op) ∈ snoops) ∧ (p.opcode = op) ∧ (came) ∧ (pchkGood p = true) ∧ (cached line u = some c) ∧ (other) ∧ (sqNeeded p c = some sop) ∧ (s.e.snoops = []))) (Instr.snpShared 1 (snoopPacket 0x30 [])) (0x30) ({ heldLine with accel := 4 }) (1)) = true
    ∧ (let port : Nat := 1;
      let p : Packet := snoopPacket 0x31 [];
      let s : State := State.reset;
      let s : State := s.onE fun e => { e with cache := [{ heldLine with accel := 4 }] };
      let u := (accept .endpoint port p s).2;
      let came := (accept .endpoint port p s).1.isSome = true ∧ s.endpoint.xpt.finished = [] ∧ s.module.xpt.finished = [];
      let snoops := [(Instr.snpShared port p, 0x30), (Instr.snpInv port p, 0x31), (Instr.snpCur port p, 0x32), (Instr.binv port p, 0x33)];
      let line := snoopLine p u;
      let other := p.opx.setWidth 20 ≠ u.myEid .endpoint;
      (fun k op c sop => decide (((k, op) ∈ snoops) ∧ (p.opcode = op) ∧ (came) ∧ (pchkGood p = true) ∧ (cached line u = some c) ∧ (other) ∧ (sqNeeded p c = some sop) ∧ (s.e.snoops = []))) (Instr.snpInv 1 (snoopPacket 0x31 [])) (0x31) ({ heldLine with accel := 4 }) (0)) = true
    ∧ (let port : Nat := 1;
      let p : Packet := snoopPacket 0x32 [];
      let s : State := State.reset;
      let s : State := s.onE fun e => { e with cache := [{ heldLine with accel := 4 }] };
      let u := (accept .endpoint port p s).2;
      let came := (accept .endpoint port p s).1.isSome = true ∧ s.endpoint.xpt.finished = [] ∧ s.module.xpt.finished = [];
      let snoops := [(Instr.snpShared port p, 0x30), (Instr.snpInv port p, 0x31), (Instr.snpCur port p, 0x32), (Instr.binv port p, 0x33)];
      let line := snoopLine p u;
      let other := p.opx.setWidth 20 ≠ u.myEid .endpoint;
      (fun k op c sop => decide (((k, op) ∈ snoops) ∧ (p.opcode = op) ∧ (came) ∧ (pchkGood p = true) ∧ (cached line u = some c) ∧ (other) ∧ (sqNeeded p c = some sop) ∧ (s.e.snoops = []))) (Instr.snpCur 1 (snoopPacket 0x32 [])) (0x32) ({ heldLine with accel := 4 }) (2)) = true
    ∧ (let port : Nat := 1;
      let p : Packet := snoopPacket 0x33 [];
      let s : State := State.reset;
      let s : State := s.onE fun e => { e with cache := [{ heldLine with accel := 4 }] };
      let u := (accept .endpoint port p s).2;
      let came := (accept .endpoint port p s).1.isSome = true ∧ s.endpoint.xpt.finished = [] ∧ s.module.xpt.finished = [];
      let snoops := [(Instr.snpShared port p, 0x30), (Instr.snpInv port p, 0x31), (Instr.snpCur port p, 0x32), (Instr.binv port p, 0x33)];
      let line := snoopLine p u;
      let other := p.opx.setWidth 20 ≠ u.myEid .endpoint;
      (fun k op c sop => decide (((k, op) ∈ snoops) ∧ (p.opcode = op) ∧ (came) ∧ (pchkGood p = true) ∧ (cached line u = some c) ∧ (other) ∧ (sqNeeded p c = some sop) ∧ (s.e.snoops = []))) (Instr.binv 1 (snoopPacket 0x33 [])) (0x33) ({ heldLine with accel := 4 }) (0)) = true
    ∧ (let port : Nat := 1;
      let p : Packet := snoopPacket 0x34 [];
      let s : State := State.reset;
      let s : State := s;
      let u := (accept .endpoint port p s).2;
      let came := (accept .endpoint port p s).1.isSome = true ∧ s.endpoint.xpt.finished = [] ∧ s.module.xpt.finished = [];
      decide ((p.opcode = 0x34) ∧ (came) ∧ (pchkGood p = true) ∧ (isRecoveryFlush p = false) ∧ ((u.e.cache.filter (flushMatches p u)) = []))) = true
    ∧ (let port : Nat := 1;
      let p : Packet := sealed { snoopPacket 0x34 [] with opx := 0, offset := 0x400000 };
      let s : State := State.reset;
      let s : State := s.onE fun e => { e with cache := [heldLine] };
      let u := (accept .endpoint port p s).2;
      let came := (accept .endpoint port p s).1.isSome = true ∧ s.endpoint.xpt.finished = [] ∧ s.module.xpt.finished = [];
      (fun c => decide ((p.opcode = 0x34) ∧ (came) ∧ (pchkGood p = true) ∧ (isRecoveryFlush p = false) ∧ (s.e.cache = [c]) ∧ (flushMatches p u c = true) ∧ (c.accel = 0) ∧ (c.state = 4) ∧ (cohRange (64 * c.line) u = none))) (heldLine)) = true
    ∧ (let port : Nat := 1;
      let p : Packet := snoopPacket 0x41 [];
      let s : State := State.reset;
      let s : State := s;
      let u := (accept .endpoint port p s).2;
      let came := (accept .endpoint port p s).1.isSome = true ∧ s.endpoint.xpt.finished = [] ∧ s.module.xpt.finished = [];
      let request := cohReq (tc2Leaf p u) p.xseq u;
      (fun k op => decide (((k, op) ∈ [(Instr.go port p, 0x41), (Instr.data port p, 0x50)]) ∧ (p.opcode = op) ∧ (came) ∧ (request = none) ∧ (p.status ≠ stNoWindow))) (Instr.go 1 (snoopPacket 0x41 [])) (0x41)) = true
    ∧ (let port : Nat := 1;
      let p : Packet := snoopPacket 0x50 [];
      let s : State := State.reset;
      let s : State := s;
      let u := (accept .endpoint port p s).2;
      let came := (accept .endpoint port p s).1.isSome = true ∧ s.endpoint.xpt.finished = [] ∧ s.module.xpt.finished = [];
      let request := cohReq (tc2Leaf p u) p.xseq u;
      (fun k op => decide (((k, op) ∈ [(Instr.go port p, 0x41), (Instr.data port p, 0x50)]) ∧ (p.opcode = op) ∧ (came) ∧ (request = none) ∧ (p.status ≠ stNoWindow))) (Instr.data 1 (snoopPacket 0x50 [])) (0x50)) = true
    ∧ (let port : Nat := 1;
      let p : Packet := sealed { snoopPacket 0x50 [9] with opx := 3 };
      let s : State := State.reset;
      let s : State := s.onE fun e => { e with coh := [askedLine 0x20, askedLine 0x23] };
      let u := (accept .endpoint port p s).2;
      let came := (accept .endpoint port p s).1.isSome = true ∧ s.endpoint.xpt.finished = [] ∧ s.module.xpt.finished = [];
      let request := cohReq (tc2Leaf p u) p.xseq u;
      (fun c => decide ((p.opcode = 0x50) ∧ (came) ∧ (request = some c) ∧ (c.aborted = false) ∧ (c.op = 0x20) ∧ (pchkGood p = true) ∧ (receivedStatus p.status = stOk) ∧ (p.opx.toNat % 8 ≠ 6) ∧ (s.e.accs = []))) (askedLine 0x20)) = true
    ∧ (let port : Nat := 1;
      let p : Packet := sealed { snoopPacket 0x41 [] with opx := 4 };
      let s : State := State.reset;
      let s : State := s.onE fun e => { e with coh := [{ askedLine 0x21 with data := some (4, 0, [9]) }] };
      let u := (accept .endpoint port p s).2;
      let came := (accept .endpoint port p s).1.isSome = true ∧ s.endpoint.xpt.finished = [] ∧ s.module.xpt.finished = [];
      let request := cohReq (tc2Leaf p u) p.xseq u;
      (fun c d => decide ((p.opcode = 0x41) ∧ (came) ∧ (request = some c) ∧ (c.aborted = false) ∧ (c.op = 0x21) ∧ (c.data = some (4, stOk, d)) ∧ (pchkGood p = true) ∧ (receivedStatus p.status = stOk) ∧ (p.opx.toNat % 8 = 4) ∧ (s.e.accs = []))) ({ askedLine 0x21 with data := some (4, 0, [9]) }) ([9])) = true
    ∧ (let port : Nat := 1;
      let p : Packet := snoopPacket 0x42 [];
      let s : State := State.reset;
      let s : State := s.onE fun e => { e with coh := [askedLine 0x23] };
      let u := (accept .endpoint port p s).2;
      let came := (accept .endpoint port p s).1.isSome = true ∧ s.endpoint.xpt.finished = [] ∧ s.module.xpt.finished = [];
      (fun c => decide ((p.opcode = 0x42) ∧ (came) ∧ (cohReq p.src p.xseq u = some c) ∧ (c.op = 0x23) ∧ (s.e.accs = []))) (askedLine 0x23)) = true
    ∧ (let port : Nat := 1;
      let p : Packet := snoopPacket 0x42 [];
      let s : State := State.reset;
      let s : State := s;
      let u := (accept .endpoint port p s).2;
      let came := (accept .endpoint port p s).1.isSome = true ∧ s.endpoint.xpt.finished = [] ∧ s.module.xpt.finished = [];
      decide ((p.opcode = 0x42) ∧ (came) ∧ (cohReq p.src p.xseq u = none))) = true
    ∧ (let s : State := State.reset;
      let s : State := s;
      (fun leaf tseq => decide ((cohReq leaf tseq s = none))) (default) (default)) = true
    ∧ (let s : State := State.reset;
      let s : State := s.onE fun e => { e with coh := [askedLine 0x20] };
      (fun leaf tseq c => decide ((cohReq leaf tseq s = some c) ∧ (c.aborted = false) ∧ (s.e.recovery = []) ∧ (s.e.accs = []) ∧ (s.endpoint.xpt.finished = []))) (0x40005) (default) (askedLine 0x20)) = true
    ∧ (let s : State := State.reset;
      let s : State := s;
      decide ((s.e.mirrored = []))) = true
    ∧ (let s : State := State.reset;
      let s : State := s.onE fun e => { e with mirrored := [(3, 0), (1, 0)] };
      (fun r st l => decide ((s.e.mirrored = (r, st) :: l))) (3) (0) ([(1, 0)])) = true
    ∧ (let s : State := State.reset;
      let s : State := s.onE fun e => { e with mirrored := [(3, 2), (1, 0)] };
      (fun r st l => decide ((s.e.mirrored = (r, st) :: l))) (3) (2) ([(1, 0)])) = true
    ∧ (let s : State := State.reset;
      let s : State := s;
      (fun stag => decide ((s.e.snoops.find? (fun x => decide (x.stag = stag)) = none))) (default)) = true
    ∧ (let s : State := State.reset;
      let s : State := s.onE fun e => { e with snoops := [{ stag := 4, sop := 0, line := 7, use := .victim, sentAt := 0 }] };
      (fun stag x => decide ((s.e.snoops.find? (fun x => decide (x.stag = stag)) = some x))) (4) ({ stag := 4, sop := 0, line := 7, use := .victim, sentAt := 0 })) = true := by decide +kernel

theorem met_MembersRunCollectives :
    (let s : State := State.reset;
      let s : State := collMember testDesc s;
      (fun c => decide ((c ∈ [Instr.collDescriptor, Instr.collCancel]) ∧ ((epQueue 32 s).fetched = []))) (Instr.collDescriptor)) = true
    ∧ (let s : State := State.reset;
      let s : State := onQueue 32 (fun k => { k with fetched := [collBytes 16] }) (collMember testDesc s);
      (fun b l => decide (((epQueue 32 s).fetched = b :: l) ∧ ((leNat (slice b 7 1)).testBit 4 = true))) (collBytes 16) ([])) = true
    ∧ (let s : State := State.reset;
      let s : State := onQueue 32 (fun k => { k with fetched := [collBytes 0] }) (collMember testDesc s);
      (fun b l g => decide (((epQueue 32 s).fetched = b :: l) ∧ ((leNat (slice b 7 1)).testBit 4 = false) ∧ (collCtx (leNat (slice b 0 2)) s = some g) ∧ (descFailures b (some g) s = []) ∧ (rangeValid b = true))) (collBytes 0) ([]) (0)) = true
    ∧ (let s : State := State.reset;
      let s : State := onQueue 32 (fun k => { k with fetched := [zeros 64] }) s;
      (fun b l => decide (((epQueue 32 s).fetched = b :: l) ∧ ((leNat (slice b 7 1)).testBit 4 = false) ∧ (rangeValid b = false) ∧ (s.e.coll.descs = []))) (zeros 64) ([])) = true
    ∧ (let s : State := State.reset;
      let s : State := onQueue 32 (fun k => { k with fetched := [collBytes 0] }) (collMember testDesc s);
      (fun b l => decide (((epQueue 32 s).fetched = b :: l) ∧ ((leNat (slice b 7 1)).testBit 4 = false))) (collBytes 0) ([])) = true
    ∧ (let s : State := State.reset;
      let s : State := onQueue 32 (fun k => { k with fetched := [collBytes 16] }) (collMember testDesc s);
      let one := fun (d : CollDesc) (k : CollChunk) => s.e.coll.descs = [d] ∧ d.chunks = [k];
      (fun b l g d k => decide (((epQueue 32 s).fetched = b :: l) ∧ ((leNat (slice b 7 1)).testBit 4 = true) ∧ (collCtx (leNat (slice b 0 2)) s = some g) ∧ (one d k) ∧ (d.ctx = g) ∧ (d.step = leNat (slice b 2 3)) ∧ (k.ended = none))) (collBytes 16) ([]) (0) (testDesc) (launchedChunk)) = true
    ∧ (let s : State := State.reset;
      let s : State := collMember testDesc s;
      (fun id d => decide ((collDesc id s = some d))) (9) (testDesc)) = true
    ∧ (let s : State := State.reset;
      let s : State := collMember testDesc s;
      (fun g plane => decide ((nextChunk g plane s = none))) (0) (true)) = true
    ∧ (let s : State := State.reset;
      let s : State := collMember { testDesc with startAt := some 9, chunks := [{ launchedChunk with launched := false }] } s;
      (fun g plane d k => decide ((nextChunk g plane s = some (d, k)) ∧ (d.startAt ≠ none ∨ d.window ≤ chunksOut g plane s))) (0) (default) ({ testDesc with startAt := some 9, chunks := [{ launchedChunk with launched := false }] }) ({ launchedChunk with launched := false })) = true
    ∧ (let s : State := State.reset;
      let s : State := (collMember { testDesc with chunks := [{ launchedChunk with launched := false }] } s).wr .endpoint Fld.fxeIdValid 0 1;
      let one := fun (d : CollDesc) (k : CollChunk) => s.e.coll.descs = [d] ∧ d.chunks = [k];
      (fun g plane d k => decide ((nextChunk g plane s = some (d, k)) ∧ (d.startAt = none) ∧ (chunksOut g plane s < d.window) ∧ (one d k) ∧ (s.e.coll.attempts = []) ∧ (launchRefused d s = []))) (0) (default) ({ testDesc with chunks := [{ launchedChunk with launched := false }] }) ({ launchedChunk with launched := false })) = true
    ∧ (let s : State := State.reset;
      let s : State := (collMember { testDesc with chunks := [{ launchedChunk with launched := false }] } s).wr .endpoint Fld.fxeIdValid 0 0;
      let one := fun (d : CollDesc) (k : CollChunk) => s.e.coll.descs = [d] ∧ d.chunks = [k];
      (fun g plane d k => decide ((nextChunk g plane s = some (d, k)) ∧ (d.startAt = none) ∧ (chunksOut g plane s < d.window) ∧ (one d k) ∧ (launchRefused d s ≠ []))) (0) (default) ({ testDesc with chunks := [{ launchedChunk with launched := false }] }) ({ launchedChunk with launched := false })) = true
    ∧ (let s : State := State.reset;
      let s : State := collMember testDesc s;
      (fun id c d k => decide ((collOf id c s = some (d, k)) ∧ (k.launched = true) ∧ (k.ended = none) ∧ (k.verified = false))) (9) (default) (testDesc) (launchedChunk)) = true
    ∧ (let s : State := State.reset;
      let s : State := collMember testDesc s;
      (fun x id c => decide ((x ∈ [Instr.probeTimer id c, Instr.collTimeout id c, Instr.srcReadFail id c, Instr.refusalBackoff .endpoint id 0 c]) ∧ (collOf id c s = none))) (Instr.probeTimer 8 0) (8) (default)) = true
    ∧ (let s : State := State.reset;
      let s : State := collMember testDesc s;
      (fun x id c => decide ((x ∈ [Instr.probeTimer id c, Instr.collTimeout id c, Instr.srcReadFail id c, Instr.refusalBackoff .endpoint id 0 c]) ∧ (collOf id c s = none))) (Instr.collTimeout 8 0) (8) (default)) = true
    ∧ (let s : State := State.reset;
      let s : State := collMember testDesc s;
      (fun x id c => decide ((x ∈ [Instr.probeTimer id c, Instr.collTimeout id c, Instr.srcReadFail id c, Instr.refusalBackoff .endpoint id 0 c]) ∧ (collOf id c s = none))) (Instr.srcReadFail 8 0) (8) (default)) = true
    ∧ (let s : State := State.reset;
      let s : State := collMember testDesc s;
      (fun x id c => decide ((x ∈ [Instr.probeTimer id c, Instr.collTimeout id c, Instr.srcReadFail id c, Instr.refusalBackoff .endpoint id 0 c]) ∧ (collOf id c s = none))) (Instr.refusalBackoff .endpoint 8 0 0) (8) (default)) = true
    ∧ (let s : State := State.reset;
      let s : State := collMember testDesc s;
      (fun id c d k => decide ((collOf id c s = some (d, k)) ∧ (k.launched = true) ∧ (k.ended = none))) (9) (default) (testDesc) (launchedChunk)) = true
    ∧ (let s : State := State.reset;
      let s : State := collMember { testDesc with chunks := [{ launchedChunk with launched := false }] } s;
      (fun id c d k => decide ((collOf id c s = some (d, k)) ∧ (k.launched = false))) (9) (default) ({ testDesc with chunks := [{ launchedChunk with launched := false }] }) ({ launchedChunk with launched := false })) = true
    ∧ (let s : State := State.reset;
      let s : State := collMember { testDesc with chunks := [{ launchedChunk with srcFailed := some stPoisoned }] } s;
      (fun id c d k st => decide ((collOf id c s = some (d, k)) ∧ (k.srcFailed = some st) ∧ (k.ended = none))) (9) (default) ({ testDesc with chunks := [{ launchedChunk with srcFailed := some stPoisoned }] }) ({ launchedChunk with srcFailed := some stPoisoned }) (stPoisoned)) = true
    ∧ (let port : Nat := 1;
      let p : Packet := { collTest 0x91 0 with pchk := 1, payload := [] };
      let s : State := State.reset;
      let s : State := collMember testDesc s;
      decide ((p.opcode = 0x91) ∧ ((accept .endpoint port p s).1.isSome = true) ∧ (pchkGood p = false))) = true
    ∧ (let port : Nat := 1;
      let p : Packet := sealed { collTest 0x91 (2 ^ 20) with payload := [] };
      let s : State := State.reset;
      let s : State := collMember testDesc s;
      let u := (accept .endpoint port p s).2;
      let came := (accept .endpoint port p s).1.isSome = true ∧ pchkGood p = true;
      decide ((p.opcode = 0x91) ∧ (came) ∧ (resultChunk p u = none))) = true
    ∧ (let port : Nat := 1;
      let p : Packet := sealed { collTest 0x91 0 with payload := zeros 64 };
      let s : State := State.reset;
      let s : State := collMember testDesc s;
      let u := (accept .endpoint port p s).2;
      let came := (accept .endpoint port p s).1.isSome = true ∧ pchkGood p = true;
      let one := fun (d : CollDesc) (k : CollChunk) => s.e.coll.descs = [d] ∧ d.chunks = [k];
      (fun d k n => decide ((p.opcode = 0x91) ∧ (came) ∧ (p.enc = false) ∧ (one d k) ∧ (resultChunk p u = some (d, k)) ∧ ((chunkFragments d k.chunk).find? (fun x => decide (x.1 = collFrag p)) = some (collFrag p, n)) ∧ (fmtMx d.fmtDown = false) ∧ (((chunkFragments d k.chunk).any fun x => decide (x.1 ≠ collFrag p) && (smapGet? k.got x.1).isNone) = true))) (testDesc) (launchedChunk) (1024)) = true
    ∧ (let port : Nat := 1;
      let p : Packet := sealed { collTest 0x92 0 with payload := [], status := 0x8 };
      let s : State := State.reset;
      let s : State := collMember testDesc s;
      let u := (accept .endpoint port p s).2;
      let came := (accept .endpoint port p s).1.isSome = true ∧ pchkGood p = true;
      let one := fun (d : CollDesc) (k : CollChunk) => s.e.coll.descs = [d] ∧ d.chunks = [k];
      let mine := fun (d : CollDesc) => ((collGroup p).bind fun group => collCtx group u) = some d.ctx ∧ d.step = p.xseq.toNat;
      (fun d k => decide ((p.opcode = 0x92) ∧ (came) ∧ (mine d) ∧ (one d k) ∧ (k.ended = none) ∧ (k.chunk = collChunk p))) (testDesc) (launchedChunk)) = true
    ∧ (let port : Nat := 1;
      let p : Packet := sealed { collTest 0x92 0 with payload := [], dst := groupEid 0 9 };
      let s : State := State.reset;
      let s : State := collMember testDesc s;
      let u := (accept .endpoint port p s).2;
      let came := (accept .endpoint port p s).1.isSome = true ∧ pchkGood p = true;
      decide ((p.opcode = 0x92) ∧ (came) ∧ (((collGroup p).bind fun group => collCtx group u) = none))) = true
    ∧ (let port : Nat := 1;
      let p : Packet := sealed { collTest 0x93 0x18 with payload := [] };
      let s : State := State.reset;
      let s : State := collMember testDesc s;
      let u := (accept .endpoint port p s).2;
      let came := (accept .endpoint port p s).1.isSome = true ∧ pchkGood p = true;
      let one := fun (d : CollDesc) (k : CollChunk) => s.e.coll.descs = [d] ∧ d.chunks = [k];
      let mine := fun (d : CollDesc) => ((collGroup p).bind fun group => collCtx group u) = some d.ctx ∧ d.step = p.xseq.toNat;
      (fun d k => decide ((p.opcode = 0x93) ∧ (p.opx.getLsbD 0 = false) ∧ (came) ∧ (mine d) ∧ (one d k) ∧ (k.ended = none) ∧ (k.launched = true) ∧ (k.chunk = collChunk p) ∧ ((smapGet s.e.coll.aborts [] d.ctx).find? (fun x => decide (x.step = d.step)) = none) ∧ (p.status ≠ stRetryLater))) (testDesc) (launchedChunk)) = true
    ∧ (let port : Nat := 1;
      let p : Packet := sealed { collTest 0x93 0 with payload := [], status := 0x1 };
      let s : State := State.reset;
      let s : State := collMember testDesc s;
      let u := (accept .endpoint port p s).2;
      let came := (accept .endpoint port p s).1.isSome = true ∧ pchkGood p = true;
      let one := fun (d : CollDesc) (k : CollChunk) => s.e.coll.descs = [d] ∧ d.chunks = [k];
      let mine := fun (d : CollDesc) => ((collGroup p).bind fun group => collCtx group u) = some d.ctx ∧ d.step = p.xseq.toNat;
      (fun d k => decide ((p.opcode = 0x93) ∧ (p.opx.getLsbD 0 = false) ∧ (came) ∧ (mine d) ∧ (one d k) ∧ (k.ended = none) ∧ (k.launched = true) ∧ (k.chunk = collChunk p) ∧ ((smapGet s.e.coll.aborts [] d.ctx).find? (fun x => decide (x.step = d.step)) = none) ∧ (p.status = stRetryLater) ∧ (k.gaveUp = false) ∧ (k.refusals < 8))) (testDesc) (launchedChunk)) = true
    ∧ (let s : State := State.reset;
      let s : State := collMember { testDesc with chunks := [{ launchedChunk with backoff := true }] } s;
      let one := fun (d : CollDesc) (k : CollChunk) => s.e.coll.descs = [d] ∧ d.chunks = [k];
      (fun id c d k => decide ((collOf id c s = some (d, k)) ∧ (one d k) ∧ (k.backoff = true))) (9) (default) ({ testDesc with chunks := [{ launchedChunk with backoff := true }] }) ({ launchedChunk with backoff := true })) = true := by decide +kernel

theorem met_ModulesReduceContributions :
    (let port : Nat := 3;
      let p : Packet := contribTest 0x12;
      (fun x op => decide (((x, op) ∈ [(Instr.collContrib port p, 0x90), (Instr.collResult .module port p, 0x91), (Instr.collAbort .module port p, 0x92),
        (Instr.collResend .module port p, 0x93), (Instr.collProbe port p 0, 0x93)]) ∧ (p.opcode ≠ op))) (Instr.collContrib 3 (contribTest 0x12)) (0x90)) = true
    ∧ (let port : Nat := 3;
      let p : Packet := contribTest 0x12;
      (fun x op => decide (((x, op) ∈ [(Instr.collContrib port p, 0x90), (Instr.collResult .module port p, 0x91), (Instr.collAbort .module port p, 0x92),
        (Instr.collResend .module port p, 0x93), (Instr.collProbe port p 0, 0x93)]) ∧ (p.opcode ≠ op))) (Instr.collResult .module 3 (contribTest 0x12)) (0x91)) = true
    ∧ (let port : Nat := 3;
      let p : Packet := contribTest 0x12;
      (fun x op => decide (((x, op) ∈ [(Instr.collContrib port p, 0x90), (Instr.collResult .module port p, 0x91), (Instr.collAbort .module port p, 0x92),
        (Instr.collResend .module port p, 0x93), (Instr.collProbe port p 0, 0x93)]) ∧ (p.opcode ≠ op))) (Instr.collAbort .module 3 (contribTest 0x12)) (0x92)) = true
    ∧ (let port : Nat := 3;
      let p : Packet := contribTest 0x12;
      (fun x op => decide (((x, op) ∈ [(Instr.collContrib port p, 0x90), (Instr.collResult .module port p, 0x91), (Instr.collAbort .module port p, 0x92),
        (Instr.collResend .module port p, 0x93), (Instr.collProbe port p 0, 0x93)]) ∧ (p.opcode ≠ op))) (Instr.collResend .module 3 (contribTest 0x12)) (0x93)) = true
    ∧ (let port : Nat := 3;
      let p : Packet := contribTest 0x12;
      (fun x op => decide (((x, op) ∈ [(Instr.collContrib port p, 0x90), (Instr.collResult .module port p, 0x91), (Instr.collAbort .module port p, 0x92),
        (Instr.collResend .module port p, 0x93), (Instr.collProbe port p 0, 0x93)]) ∧ (p.opcode ≠ op))) (Instr.collProbe 3 (contribTest 0x12) 0) (0x93)) = true
    ∧ (let port : Nat := 3;
      let p : Packet := sealed { contribTest 0x90 with dst := groupEid 0 9 };
      let s : State := State.reset;
      let s : State := reduceState [] s;
      let u := (accept .module port p s).2;
      let came := (accept .module port p s).1.isSome = true ∧ pchkGood p = true;
      decide ((p.opcode = 0x90) ∧ (came) ∧ (((collGroup p).bind fun g => mrnCtx g u) = none))) = true
    ∧ (let port : Nat := 3;
      let p : Packet := sealed { contribTest 0x90 with keyEpoch := 3 };
      let n : Nat := 7;
      let s : State := State.reset;
      let s : State := reduceState [] s;
      let u := (accept .module port p s).2;
      let came := (accept .module port p s).1.isSome = true ∧ pchkGood p = true;
      decide ((p.opcode = 0x90) ∧ (came) ∧ (((collGroup p).bind fun g => mrnCtx g u) = some n) ∧ (keyMatches n p u = false))) = true
    ∧ (let port : Nat := 3;
      let p : Packet := contribTest 0x90;
      let n : Nat := 7;
      let s : State := State.reset;
      let s : State := reduceState [{ openedChunk with attempt := 4 }] s;
      let u := (accept .module port p s).2;
      let came := (accept .module port p s).1.isSome = true ∧ pchkGood p = true;
      let served := contextOf port p u = (some n, u);
      let step := p.xseq.toNat;
      let c := collChunk p;
      let quiet := shadowEntryAt n port u = none ∧ shadowsOf false false n u = [] ∧ shadowsOf true false n u = [] ∧ s.m.tile.change = none;
      let contrib := p.opcode = 0x90 ∧ came ∧ served ∧ quiet ∧ p.enc = false ∧ (childOf n port u).isSome = true ∧ stepAbort n step u = none;
      (fun k => decide ((contrib) ∧ (mrnChunk n step c u = some k) ∧ (k.phase ≠ .isOpen ∨ k.attempt ≠ collAttempt p))) ({ openedChunk with attempt := 4 })) = true
    ∧ (let port : Nat := 3;
      let p : Packet := contribTest 0x90;
      let n : Nat := 7;
      let s : State := State.reset;
      let s : State := reduceState [] s;
      let u := (accept .module port p s).2;
      let came := (accept .module port p s).1.isSome = true ∧ pchkGood p = true;
      let served := contextOf port p u = (some n, u);
      let step := p.xseq.toNat;
      let c := collChunk p;
      let quiet := shadowEntryAt n port u = none ∧ shadowsOf false false n u = [] ∧ shadowsOf true false n u = [] ∧ s.m.tile.change = none;
      let contrib := p.opcode = 0x90 ∧ came ∧ served ∧ quiet ∧ p.enc = false ∧ (childOf n port u).isSome = true ∧ stepAbort n step u = none;
      let partly := collCount p ≤ u.rd .module Fld.mrnCtxExpectCount n ∧ 2 ≤ u.rd .module Fld.mrnCtxExpectChildren n;
      decide ((contrib) ∧ (partly) ∧ (mrnChunk n step c u = none) ∧ (rootOf n c u ≠ .none) ∧ (u.rd .module Fld.mrnCtxState n ≠ 2) ∧ ((admitChunk n (chunkSlots (u.rd .module Fld.mrnCtxChunkCode n) (u.rd .module Fld.mrnCtxFmtIn n) ((u.word .module .redArith n 0).getLsbD 38)) u).isSome = true))) = true
    ∧ (let port : Nat := 3;
      let p : Packet := contribTest 0x90;
      let n : Nat := 7;
      let s : State := State.reset;
      let s : State := reduceState [{ openedChunk with acc := [(0, [1, 2])] }] s;
      let u := (accept .module port p s).2;
      let came := (accept .module port p s).1.isSome = true ∧ pchkGood p = true;
      let served := contextOf port p u = (some n, u);
      let step := p.xseq.toNat;
      let c := collChunk p;
      let f := collFrag p;
      let quiet := shadowEntryAt n port u = none ∧ shadowsOf false false n u = [] ∧ shadowsOf true false n u = [] ∧ s.m.tile.change = none;
      let contrib := p.opcode = 0x90 ∧ came ∧ served ∧ quiet ∧ p.enc = false ∧ (childOf n port u).isSome = true ∧ stepAbort n step u = none;
      (fun k a => decide ((contrib) ∧ (mrnChunk n step c u = some k) ∧ (k.phase = .isOpen) ∧ (k.attempt = collAttempt p) ∧ (k.digest = some (slotDigest p)) ∧ (smapGet k.counts 0 f + collCount p ≤ u.rd .module Fld.mrnCtxExpectCount n) ∧ (chunkFull k u = false) ∧ (slotCheck p = 0) ∧ ((k.children.filter fun x => x.2.last.isSome).length < u.rd .module Fld.mrnCtxExpectChildren n) ∧ ((∀ x ∈ k.children, x.2.last = none)) ∧ (k.arith.getLsbD 38 = false) ∧ (k.shadowed = false) ∧ (smapGet? k.acc f = some a))) ({ openedChunk with acc := [(0, [1, 2])] }) ([1, 2])) = true
    ∧ (let port : Nat := 3;
      let p : Packet := contribTest 0x91;
      let n : Nat := 7;
      let s : State := State.reset;
      let s : State := (reduceState [] s).wr .module Fld.mrnRootSelf 0 1;
      let u := (accept .module port p s).2;
      let served := contextOf port p u = (some n, u);
      let c := collChunk p;
      decide ((p.opcode = 0x91) ∧ ((accept .module port p s).1.isSome = true) ∧ (served) ∧ (rootOf n c u = .here))) = true
    ∧ (let port : Nat := 3;
      let p : Packet := contribTest 0x91;
      let n : Nat := 7;
      let s : State := State.reset;
      let s : State := reduceState [{ openedChunk with phase := .held, payloads := [[7]] }] s;
      let u := (accept .module port p s).2;
      let served := contextOf port p u = (some n, u);
      let step := p.xseq.toNat;
      let c := collChunk p;
      let f := collFrag p;
      let quiet := shadowEntryAt n port u = none ∧ shadowsOf false false n u = [] ∧ shadowsOf true false n u = [] ∧ s.m.tile.change = none;
      (fun k => decide ((p.opcode = 0x91) ∧ ((accept .module port p s).1.isSome = true) ∧ (served) ∧ (quiet) ∧ (rootOf n c u ≠ .here) ∧ (mrnChunk n step c u = some k) ∧ (k.phase = .held) ∧ (k.payloads.length ≤ f + 1))) ({ openedChunk with phase := .held, payloads := [[7]] })) = true
    ∧ (let port : Nat := 3;
      let p : Packet := contribTest 0x92;
      let n : Nat := 7;
      let s : State := State.reset;
      let s : State := reduceState [openedChunk] s;
      let u := (accept .module port p s).2;
      let came := (accept .module port p s).1.isSome = true ∧ pchkGood p = true;
      let served := contextOf port p u = (some n, u);
      let quiet := shadowEntryAt n port u = none ∧ shadowsOf false false n u = [] ∧ shadowsOf true false n u = [] ∧ s.m.tile.change = none;
      decide ((p.opcode = 0x92) ∧ (came) ∧ (served) ∧ (quiet) ∧ ((abortSlot p.ext).step = false))) = true
    ∧ (let port : Nat := 3;
      let p : Packet := sealed { contribTest 0x92 with ext := zeros 14 ++ [2, 0] };
      let n : Nat := 7;
      let s : State := State.reset;
      let s : State := reduceState [openedChunk] s;
      let u := (accept .module port p s).2;
      let came := (accept .module port p s).1.isSome = true ∧ pchkGood p = true;
      let served := contextOf port p u = (some n, u);
      let step := p.xseq.toNat;
      let quiet := shadowEntryAt n port u = none ∧ shadowsOf false false n u = [] ∧ shadowsOf true false n u = [] ∧ s.m.tile.change = none;
      decide ((p.opcode = 0x92) ∧ (came) ∧ (served) ∧ (quiet) ∧ ((abortSlot p.ext).step = true) ∧ (stepAbort n step u = none))) = true
    ∧ (let port : Nat := 3;
      let p : Packet := contribTest 0x93;
      let n : Nat := 7;
      let s : State := State.reset;
      let s : State := reduceState [{ openedChunk with phase := .held, payloads := [[7]], backoff := true }] s;
      let u := (accept .module port p s).2;
      let came := (accept .module port p s).1.isSome = true ∧ pchkGood p = true;
      let served := contextOf port p u = (some n, u);
      let step := p.xseq.toNat;
      let c := collChunk p;
      let quiet := shadowEntryAt n port u = none ∧ shadowsOf false false n u = [] ∧ shadowsOf true false n u = [] ∧ s.m.tile.change = none;
      (fun k => decide ((p.opcode = 0x93) ∧ (p.opx.getLsbD 0 = false) ∧ (came) ∧ (served) ∧ (quiet) ∧ (stepAbort n step u = none) ∧ (mrnChunk n step c u = some k) ∧ (p.status ≠ stRetryLater) ∧ (k.phase = .held))) ({ openedChunk with phase := .held, payloads := [[7]], backoff := true })) = true
    ∧ (let port : Nat := 3;
      let p : Packet := sealed { contribTest 0x93 with status := 1 };
      let n : Nat := 7;
      let s : State := State.reset;
      let s : State := reduceState [{ openedChunk with phase := .held, payloads := [[7]] }] s;
      let u := (accept .module port p s).2;
      let came := (accept .module port p s).1.isSome = true ∧ pchkGood p = true;
      let served := contextOf port p u = (some n, u);
      let step := p.xseq.toNat;
      let c := collChunk p;
      let quiet := shadowEntryAt n port u = none ∧ shadowsOf false false n u = [] ∧ shadowsOf true false n u = [] ∧ s.m.tile.change = none;
      (fun k => decide ((p.opcode = 0x93) ∧ (p.opx.getLsbD 0 = false) ∧ (came) ∧ (served) ∧ (quiet) ∧ (stepAbort n step u = none) ∧ (mrnChunk n step c u = some k) ∧ (p.status = stRetryLater) ∧ (k.phase = .held) ∧ (k.refusals < 8))) ({ openedChunk with phase := .held, payloads := [[7]] })) = true
    ∧ (let port : Nat := 3;
      let p : Packet := sealed { contribTest 0x93 with opx := 1 };
      let n : Nat := 7;
      let s : State := State.reset;
      let s : State := reduceState [] s;
      let u := (accept .module port p s).2;
      let came := (accept .module port p s).1.isSome = true ∧ pchkGood p = true;
      let served := contextOf port p u = (some n, u);
      let c := collChunk p;
      let quiet := shadowEntryAt n port u = none ∧ shadowsOf false false n u = [] ∧ shadowsOf true false n u = [] ∧ s.m.tile.change = none;
      decide ((p.opcode = 0x93) ∧ (p.opx.getLsbD 0 = true) ∧ (came) ∧ (served) ∧ (quiet) ∧ (rootOf n c u ≠ .here))) = true
    ∧ (let port : Nat := 3;
      let p : Packet := sealed { contribTest 0x93 with opx := 1 };
      let n : Nat := 7;
      let s : State := State.reset;
      let s : State := ((reduceState [] s).wr .module Fld.mrnRootSelf 0 1).onM fun m => { m with mrn := { m.mrn with results := [{ ctx := 7, step := 2, chunk := 0, digest := 5, first := 0, payloads := [[7]] }] } };
      let u := (accept .module port p s).2;
      let came := (accept .module port p s).1.isSome = true ∧ pchkGood p = true;
      let served := contextOf port p u = (some n, u);
      let step := p.xseq.toNat;
      let c := collChunk p;
      let quiet := shadowEntryAt n port u = none ∧ shadowsOf false false n u = [] ∧ shadowsOf true false n u = [] ∧ s.m.tile.change = none;
      (fun r => decide ((p.opcode = 0x93) ∧ (p.opx.getLsbD 0 = true) ∧ (came) ∧ (served) ∧ (quiet) ∧ (rootOf n c u = .here) ∧ (mrnResult n step c u = some r) ∧ (r.dropped = false))) ({ ctx := 7, step := 2, chunk := 0, digest := 5, first := 0, payloads := [[7]] })) = true
    ∧ (let n : Nat := 7;
      let s : State := State.reset;
      let s : State := reduceState [] s;
      (fun x st ch => decide ((x ∈ [Instr.refusalBackoff .module n st ch, Instr.partialHoldExpire n st ch]) ∧ (mrnChunk n st ch s = none))) (Instr.refusalBackoff .module 7 2 0) (2) (0)) = true
    ∧ (let n : Nat := 7;
      let s : State := State.reset;
      let s : State := reduceState [] s;
      (fun x st ch => decide ((x ∈ [Instr.refusalBackoff .module n st ch, Instr.partialHoldExpire n st ch]) ∧ (mrnChunk n st ch s = none))) (Instr.partialHoldExpire 7 2 0) (2) (0)) = true
    ∧ (let n : Nat := 7;
      let s : State := State.reset;
      let s : State := reduceState [{ openedChunk with phase := .held, payloads := [[7]], backoff := true }] s;
      (fun st ch k => decide ((mrnChunk n st ch s = some k) ∧ (k.backoff = true))) (2) (0) ({ openedChunk with phase := .held, payloads := [[7]], backoff := true })) = true
    ∧ (let n : Nat := 7;
      let s : State := State.reset;
      let s : State := reduceState [{ openedChunk with phase := .held, payloads := [[7]] }] s;
      (fun st ch k => decide ((mrnChunk n st ch s = some k) ∧ (k.phase = .held) ∧ (s.m.tile.change = none))) (2) (0) ({ openedChunk with phase := .held, payloads := [[7]] })) = true
    ∧ (let n : Nat := 7;
      let s : State := State.reset;
      let s : State := reduceState [openedChunk] s;
      (fun st ch k => decide ((mrnChunk n st ch s = some k) ∧ (k.phase ≠ .held))) (2) (0) (openedChunk)) = true := by decide +kernel

theorem met_RootsFinishChunks :
    (let n : Nat := 7;
      let step : Nat := 2;
      let c : Nat := 0;
      let s : State := State.reset;
      let s : State := reduceState [] s;
      decide ((mrnChunk n step c s = none))) = true
    ∧ (let n : Nat := 7;
      let step : Nat := 2;
      let c : Nat := 0;
      let s : State := State.reset;
      let s : State := reduceState [openedChunk] s;
      (fun k => decide ((mrnChunk n step c s = some k) ∧ (k.phase ≠ .atRoot))) (openedChunk)) = true
    ∧ (let n : Nat := 7;
      let step : Nat := 2;
      let c : Nat := 0;
      let s : State := State.reset;
      let s : State := reduceState [{ openedChunk with phase := .atRoot, acc := [(0, [1, 2])] }] s;
      let at_ := fun (phase : MrnPhase) (k : MrnChunk) => mrnChunk n step c s = some k ∧ k.phase = phase ∧ s.m.tile.change = none;
      (fun k => decide ((at_ .atRoot k) ∧ (s.rd .module Fld.mrnCtxExpectCount n = s.rd .module Fld.mrnCtxMembers n) ∧ (s.rd .module Fld.mrnCtxEpilogue n = 0) ∧ (s.rd .module Fld.mrnCtxOp n ≠ 3))) ({ openedChunk with phase := .atRoot, acc := [(0, [1, 2])] })) = true
    ∧ (let n : Nat := 7;
      let step : Nat := 2;
      let c : Nat := 0;
      let s : State := State.reset;
      let s : State := (((reduceState [{ openedChunk with phase := .atRoot, acc := [(0, [1, 2])] }] s).wr .module Fld.mrnCtxEpilogue 7 4).wr .module Fld.redCtlCommitPause 0 1);
      let at_ := fun (phase : MrnPhase) (k : MrnChunk) => mrnChunk n step c s = some k ∧ k.phase = phase ∧ s.m.tile.change = none;
      (fun k => decide ((at_ .atRoot k) ∧ (s.rd .module Fld.mrnCtxExpectCount n = s.rd .module Fld.mrnCtxMembers n) ∧ (s.rd .module Fld.mrnCtxEpilogue n ≠ 0) ∧ (fmtInt (s.rd .module Fld.mrnCtxFmtIn n) = false) ∧ (s.rdb .module Fld.redCtlCommitPause = true))) ({ openedChunk with phase := .atRoot, acc := [(0, [1, 2])] })) = true
    ∧ (let n : Nat := 7;
      let step : Nat := 2;
      let c : Nat := 0;
      let s : State := State.reset;
      let s : State := (reduceState [{ openedChunk with phase := .atRoot, acc := [(0, [1, 2])] }] s).wr .module Fld.mrnCtxMembers 7 5;
      let at_ := fun (phase : MrnPhase) (k : MrnChunk) => mrnChunk n step c s = some k ∧ k.phase = phase ∧ s.m.tile.change = none;
      (fun k => decide ((step < 2 ^ 24) ∧ (c < 2 ^ 24) ∧ (at_ .atRoot k) ∧ (s.rd .module Fld.mrnCtxExpectCount n ≠ s.rd .module Fld.mrnCtxMembers n))) ({ openedChunk with phase := .atRoot, acc := [(0, [1, 2])] })) = true
    ∧ (let n : Nat := 7;
      let step : Nat := 2;
      let c : Nat := 0;
      let s : State := State.reset;
      let s : State := reduceState [] s;
      decide ((mrnChunk n step c s = none))) = true
    ∧ (let n : Nat := 7;
      let step : Nat := 2;
      let c : Nat := 0;
      let s : State := State.reset;
      let s : State := reduceState [{ openedChunk with phase := .atRoot, acc := [(0, [1, 2])] }] s;
      (fun k => decide ((mrnChunk n step c s = some k) ∧ (k.phase ≠ .committing))) ({ openedChunk with phase := .atRoot, acc := [(0, [1, 2])] })) = true
    ∧ (let n : Nat := 7;
      let step : Nat := 2;
      let c : Nat := 0;
      let s : State := State.reset;
      let s : State := reduceState [{ openedChunk with phase := .committing, payloads := [[7]], record := some (0x40, 9) }] s;
      let at_ := fun (phase : MrnPhase) (k : MrnChunk) => mrnChunk n step c s = some k ∧ k.phase = phase ∧ s.m.tile.change = none;
      (fun k a w => decide ((at_ .committing k) ∧ (k.record = some (a, w)) ∧ ((moduleWrite .ddr (mrnDdrKey n s) a (leBytes 8 w.toNat) false s).1 = stOk))) ({ openedChunk with phase := .committing, payloads := [[7]], record := some (0x40, 9) }) (0x40) (9)) = true
    ∧ (let n : Nat := 7;
      let step : Nat := 2;
      let c : Nat := 0;
      let s : State := State.reset;
      let s : State := markPoison 1 (reduceState [{ openedChunk with phase := .committing, payloads := [[7]], record := some (0x40, 9) }] s);
      let at_ := fun (phase : MrnPhase) (k : MrnChunk) => mrnChunk n step c s = some k ∧ k.phase = phase ∧ s.m.tile.change = none;
      (fun k a w => decide ((step < 2 ^ 24) ∧ (c < 2 ^ 24) ∧ (at_ .committing k) ∧ (k.record = some (a, w)) ∧ ((moduleWrite .ddr (mrnDdrKey n s) a (leBytes 8 w.toNat) false s).1 ≠ stOk))) ({ openedChunk with phase := .committing, payloads := [[7]], record := some (0x40, 9) }) (0x40) (9)) = true
    ∧ (let n : Nat := 7;
      let step : Nat := 2;
      let c : Nat := 0;
      let s : State := State.reset;
      let s : State := s.onM fun m => { m with mrn := { m.mrn with results := [{ ctx := 7, step := 2, chunk := 0, digest := 5, first := 0, payloads := [[7]] }] } };
      (fun r => decide ((mrnResult n step c s = some r))) ({ ctx := 7, step := 2, chunk := 0, digest := 5, first := 0, payloads := [[7]] })) = true
    ∧ (let n : Nat := 7;
      let step : Nat := 2;
      let c : Nat := 0;
      let s : State := State.reset;
      let s : State := s.onM fun m => { m with mrn := { m.mrn with results := [{ ctx := 7, step := 2, chunk := 0, digest := 5, first := 0, payloads := [[7]] }] } };
      (fun r => decide ((s.m.mrn.results = [r]) ∧ (mrnResult n step c s = some r))) ({ ctx := 7, step := 2, chunk := 0, digest := 5, first := 0, payloads := [[7]] })) = true
    ∧ (let n : Nat := 7;
      let step : Nat := 2;
      let c : Nat := 0;
      let s : State := State.reset;
      let s : State := s.onM fun m => { m with mrn := { m.mrn with results := [{ ctx := 7, step := 2, chunk := 0, digest := 5, first := 0, dropped := true }] } };
      (fun r => decide ((s.m.mrn.results = [r]) ∧ (mrnResult n step c s = some r))) ({ ctx := 7, step := 2, chunk := 0, digest := 5, first := 0, dropped := true })) = true
    ∧ (let n : Nat := 7;
      let c : Nat := 0;
      let s : State := State.reset;
      let s : State := ((s.wr .module { Fld.redEpiValid with word := 0 } 7 0).wr .module { Fld.redEpiValid with word := 8 } 7 0);
      decide ((laterBank n (fun b => decide (epi Fld.redEpiValid n b s = 1) && decide (c < epi Fld.redEpiNchunks n b s)) s = none))) = true
    ∧ (let n : Nat := 7;
      let c : Nat := 0;
      let s : State := State.reset;
      let s : State := queryState s;
      let bank := fun (b : Nat) => laterBank n (fun b => decide (epi Fld.redEpiValid n b s = 1) && decide (c < epi Fld.redEpiNchunks n b s)) s = some b;
      (fun b w => decide ((bank b) ∧ (isOk (readRecord n b c s) w = true))) (0) (0)) = true
    ∧ (let n : Nat := 7;
      let c : Nat := 0;
      let s : State := State.reset;
      let s : State := markPoison 0 (queryState s);
      let bank := fun (b : Nat) => laterBank n (fun b => decide (epi Fld.redEpiValid n b s = 1) && decide (c < epi Fld.redEpiNchunks n b s)) s = some b;
      (fun b st => decide ((bank b) ∧ (isErr (readRecord n b c s) st = true))) (0) (stPoisoned)) = true := by decide +kernel

theorem met_CorePortOperationsIssue :
    (let ctx : Nat := 33;
      let atag : Nat := 5;
      let gfa : Nat := 0x40005 * 2 ^ 44;
      let len : Nat := 4;
      let stream : BitVec 4 := default;
      let aop : BitVec 8 := default;
      let data : List Byte := [1, 2, 3, 4];
      let s : State := State.reset;
      let s : State := (coreState [] s).onUnit .endpoint fun u => { u with keys := [(0, { state := 2 })] };
      let loads := [(Instr.xqLoad ctx atag gfa len stream, (0x60 : BitVec 8), len), (Instr.xqLoadAcq ctx atag gfa len stream, 0x61, len)];
      let stores := [(Instr.xqStore ctx atag gfa stream data, (0x62 : BitVec 8), 0), (Instr.xqStoreFlag ctx atag gfa stream data, 0x63, 0)];
      let rmws := [(Instr.xqAtomicInt ctx atag gfa stream aop data, (0x64 : BitVec 8)), (Instr.xqAtomicFp ctx atag gfa stream aop data, 0x65), (Instr.xqReduceStore ctx atag gfa stream aop data, 0x66)];
      let coherent := [Instr.cohRd ctx atag gfa len, Instr.cohRdown ctx atag gfa len];
      (fun c => decide ((c ∈ loads.map (·.1) ++ stores.map (·.1) ++ rmws.map (·.1) ++ coherent ++ [Instr.cohWb ctx atag gfa data]) ∧ (ctxRetired ctx s = true))) (Instr.xqLoad 33 5 (0x40005 * 2 ^ 44) 4 0)) = true
    ∧ (let ctx : Nat := 33;
      let atag : Nat := 5;
      let gfa : Nat := 0x40005 * 2 ^ 44;
      let len : Nat := 4;
      let stream : BitVec 4 := default;
      let data : List Byte := [1, 2, 3, 4];
      let s : State := State.reset;
      let s : State := (coreState [] s).wr .endpoint Fld.fxeIdValid 0 0;
      let dst := gfaEid gfa;
      let free := ctxRetired ctx s = false;
      let loads := [(Instr.xqLoad ctx atag gfa len stream, (0x60 : BitVec 8), len), (Instr.xqLoadAcq ctx atag gfa len stream, 0x61, len)];
      let stores := [(Instr.xqStore ctx atag gfa stream data, (0x62 : BitVec 8), 0), (Instr.xqStoreFlag ctx atag gfa stream data, 0x63, 0)];
      (fun c op n => decide (((c, op, n) ∈ loads ++ stores) ∧ (free) ∧ (sendChecks ctx dst op stream.toNat s ≠ []))) (Instr.xqLoadAcq 33 5 (0x40005 * 2 ^ 44) 4 0) (0x61) (4)) = true
    ∧ (let ctx : Nat := 33;
      let atag : Nat := 5;
      let gfa : Nat := 0x40005 * 2 ^ 44;
      let len : Nat := 4;
      let stream : BitVec 4 := default;
      let data : List Byte := [1, 2, 3, 4];
      let s : State := State.reset;
      let s : State := (coreState [] s).wr .endpoint Fld.fxeIdValid 0 0;
      let dst := gfaEid gfa;
      let free := ctxRetired ctx s = false;
      let loads := [(Instr.xqLoad ctx atag gfa len stream, (0x60 : BitVec 8), len), (Instr.xqLoadAcq ctx atag gfa len stream, 0x61, len)];
      let stores := [(Instr.xqStore ctx atag gfa stream data, (0x62 : BitVec 8), 0), (Instr.xqStoreFlag ctx atag gfa stream data, 0x63, 0)];
      (fun c op n => decide (((c, op, n) ∈ loads ++ stores) ∧ (free) ∧ (sendChecks ctx dst op stream.toNat s ≠ []))) (Instr.xqStoreFlag 33 5 (0x40005 * 2 ^ 44) 0 [1, 2, 3, 4]) (0x63) (0)) = true
    ∧ (let ctx : Nat := 33;
      let atag : Nat := 5;
      let gfa : Nat := 0x40005 * 2 ^ 44 + 1;
      let stream : BitVec 4 := default;
      let aop : BitVec 8 := default;
      let data : List Byte := [1, 2, 3, 4];
      let s : State := State.reset;
      let s : State := coreState [heldLine] s;
      let dst := gfaEid gfa;
      let free := ctxRetired ctx s = false;
      let pkt := fun (op : BitVec 8) (opx : Nat) (l : List Byte) => ctxPacket ctx dst op stream (gfaOff gfa) opx l s;
      let rmws := [(Instr.xqAtomicInt ctx atag gfa stream aop data, (0x64 : BitVec 8)), (Instr.xqAtomicFp ctx atag gfa stream aop data, 0x65), (Instr.xqReduceStore ctx atag gfa stream aop data, 0x66)];
      (fun c op => decide (((c, op) ∈ rmws) ∧ (free) ∧ (sendChecks ctx dst op stream.toNat s ++ misaligned (pkt op aop.toNat data) ≠ []))) (Instr.xqAtomicInt 33 5 (0x40005 * 2 ^ 44 + 1) 0 0 [1, 2, 3, 4]) (0x64)) = true
    ∧ (let ctx : Nat := 33;
      let atag : Nat := 5;
      let gfa : Nat := 0x40005 * 2 ^ 44;
      let stream : BitVec 4 := default;
      let aop : BitVec 8 := default;
      let data : List Byte := [1, 2, 3, 4];
      let s : State := State.reset;
      let s : State := coreState [heldLine] s;
      let dst := gfaEid gfa;
      let free := ctxRetired ctx s = false;
      let id := s.endpoint.xpt.nextOp;
      let quiet := s.endpoint.xpt.finished = [] ∧ s.module.xpt.finished = [];
      let pkt := fun (op : BitVec 8) (opx : Nat) (l : List Byte) => ctxPacket ctx dst op stream (gfaOff gfa) opx l s;
      let rmws := [(Instr.xqAtomicInt ctx atag gfa stream aop data, (0x64 : BitVec 8)), (Instr.xqAtomicFp ctx atag gfa stream aop data, 0x65), (Instr.xqReduceStore ctx atag gfa stream aop data, 0x66)];
      let goes := fun (o : SrcOp) => (match mayIssue .endpoint o (s.onXpt .endpoint fun x => { x with nextOp := id + 1, ops := x.ops ++ [o] }) with | .fail _ => false | .restart => false | _ => true) = true;
      (fun c op => decide (((c, op) ∈ rmws) ∧ (free) ∧ (quiet) ∧ (sendChecks ctx dst op stream.toNat s = []) ∧ (misaligned (pkt op aop.toNat data) = []) ∧ ((∀ o ∈ s.endpoint.xpt.ops, o.id < id)) ∧ (goes { id := id, ctx := some ctx, use := .xq ctx atag 0 0, pkt := pkt op aop.toNat data, ready := true }))) (Instr.xqAtomicInt 33 5 (0x40005 * 2 ^ 44) 0 0 [1, 2, 3, 4]) (0x64)) = true
    ∧ (let ctx : Nat := 33;
      let atag : Nat := 5;
      let gfa : Nat := 0x40005 * 2 ^ 44;
      let stream : BitVec 4 := default;
      let aop : BitVec 8 := default;
      let data : List Byte := [1, 2, 3, 4];
      let s : State := State.reset;
      let s : State := coreState [heldLine] s;
      let dst := gfaEid gfa;
      let free := ctxRetired ctx s = false;
      let id := s.endpoint.xpt.nextOp;
      let quiet := s.endpoint.xpt.finished = [] ∧ s.module.xpt.finished = [];
      let pkt := fun (op : BitVec 8) (opx : Nat) (l : List Byte) => ctxPacket ctx dst op stream (gfaOff gfa) opx l s;
      let rmws := [(Instr.xqAtomicInt ctx atag gfa stream aop data, (0x64 : BitVec 8)), (Instr.xqAtomicFp ctx atag gfa stream aop data, 0x65), (Instr.xqReduceStore ctx atag gfa stream aop data, 0x66)];
      let goes := fun (o : SrcOp) => (match mayIssue .endpoint o (s.onXpt .endpoint fun x => { x with nextOp := id + 1, ops := x.ops ++ [o] }) with | .fail _ => false | .restart => false | _ => true) = true;
      (fun c op => decide (((c, op) ∈ rmws) ∧ (free) ∧ (quiet) ∧ (sendChecks ctx dst op stream.toNat s = []) ∧ (misaligned (pkt op aop.toNat data) = []) ∧ ((∀ o ∈ s.endpoint.xpt.ops, o.id < id)) ∧ (goes { id := id, ctx := some ctx, use := .xq ctx atag 0 0, pkt := pkt op aop.toNat data, ready := true }))) (Instr.xqAtomicFp 33 5 (0x40005 * 2 ^ 44) 0 0 [1, 2, 3, 4]) (0x65)) = true
    ∧ (let ctx : Nat := 33;
      let atag : Nat := 5;
      let gfa : Nat := 0x40005 * 2 ^ 44;
      let stream : BitVec 4 := default;
      let aop : BitVec 8 := default;
      let data : List Byte := [1, 2, 3, 4];
      let s : State := State.reset;
      let s : State := coreState [heldLine] s;
      let dst := gfaEid gfa;
      let free := ctxRetired ctx s = false;
      let id := s.endpoint.xpt.nextOp;
      let quiet := s.endpoint.xpt.finished = [] ∧ s.module.xpt.finished = [];
      let pkt := fun (op : BitVec 8) (opx : Nat) (l : List Byte) => ctxPacket ctx dst op stream (gfaOff gfa) opx l s;
      let rmws := [(Instr.xqAtomicInt ctx atag gfa stream aop data, (0x64 : BitVec 8)), (Instr.xqAtomicFp ctx atag gfa stream aop data, 0x65), (Instr.xqReduceStore ctx atag gfa stream aop data, 0x66)];
      let goes := fun (o : SrcOp) => (match mayIssue .endpoint o (s.onXpt .endpoint fun x => { x with nextOp := id + 1, ops := x.ops ++ [o] }) with | .fail _ => false | .restart => false | _ => true) = true;
      (fun c op => decide (((c, op) ∈ rmws) ∧ (free) ∧ (quiet) ∧ (sendChecks ctx dst op stream.toNat s = []) ∧ (misaligned (pkt op aop.toNat data) = []) ∧ ((∀ o ∈ s.endpoint.xpt.ops, o.id < id)) ∧ (goes { id := id, ctx := some ctx, use := .xq ctx atag 0 0, pkt := pkt op aop.toNat data, ready := true }))) (Instr.xqReduceStore 33 5 (0x40005 * 2 ^ 44) 0 0 [1, 2, 3, 4]) (0x66)) = true
    ∧ (let ctx : Nat := 33;
      let atag : Nat := 5;
      let gfa : Nat := 0x40005 * 2 ^ 44;
      let len : Nat := 4;
      let stream : BitVec 4 := default;
      let s : State := State.reset;
      let s : State := coreState [heldLine] s;
      let dst := gfaEid gfa;
      let free := ctxRetired ctx s = false;
      let id := s.endpoint.xpt.nextOp;
      let quiet := s.endpoint.xpt.finished = [] ∧ s.module.xpt.finished = [];
      let pkt := fun (op : BitVec 8) (opx : Nat) (l : List Byte) => ctxPacket ctx dst op stream (gfaOff gfa) opx l s;
      let goes := fun (o : SrcOp) => (match mayIssue .endpoint o (s.onXpt .endpoint fun x => { x with nextOp := id + 1, ops := x.ops ++ [o] }) with | .fail _ => false | .restart => false | _ => true) = true;
      decide ((free) ∧ (quiet) ∧ (sendChecks ctx dst 0x61 stream.toNat s = []) ∧ ((∀ o ∈ s.endpoint.xpt.ops, o.id < id)) ∧ (goes { id := id, ctx := some ctx, use := .xq ctx atag 0 len, pkt := pkt 0x61 (len - 1) [], ready := true }))) = true
    ∧ (let ctx : Nat := 33;
      let atag : Nat := 5;
      let gfa : Nat := 0x40005 * 2 ^ 44;
      let stream : BitVec 4 := default;
      let data : List Byte := [1, 2, 3, 4];
      let s : State := State.reset;
      let s : State := coreState [] s;
      let dst := gfaEid gfa;
      let free := ctxRetired ctx s = false;
      let id := s.endpoint.xpt.nextOp;
      let quiet := s.endpoint.xpt.finished = [] ∧ s.module.xpt.finished = [];
      let pkt := fun (op : BitVec 8) (opx : Nat) (l : List Byte) => ctxPacket ctx dst op stream (gfaOff gfa) opx l s;
      let goes := fun (o : SrcOp) => (match mayIssue .endpoint o (s.onXpt .endpoint fun x => { x with nextOp := id + 1, ops := x.ops ++ [o] }) with | .fail _ => false | .restart => false | _ => true) = true;
      decide ((free) ∧ (quiet) ∧ (sendChecks ctx dst 0x63 stream.toNat s = []) ∧ ((∀ o ∈ s.endpoint.xpt.ops, o.id < id)) ∧ (s.e.cache = []) ∧ (s.e.accs = []) ∧ ((s.endpoint.xpt.ops.filter fun o => decide (o.pkt.opcode = 0x60)) = []) ∧ (goes { id := id, ctx := some ctx, use := .xq ctx atag 0 0, pkt := pkt 0x63 0 data, ready := true }))) = true
    ∧ (let ctx : Nat := 33;
      let gfa : Nat := 0x40005 * 2 ^ 44;
      let len : Nat := 4;
      let stream : BitVec 4 := default;
      let s : State := State.reset;
      let s : State := ((coreState [] s).wr .endpoint Fld.fxeCohValid 0 0).onXpt .endpoint fun x => { x with nextOp := 5, ops := [{ opWait with ctx := some 33, pkt := { opWait.pkt with opcode := 0x61 } }] };
      let dst := gfaEid gfa;
      let free := ctxRetired ctx s = false;
      let id := s.endpoint.xpt.nextOp;
      let quiet := s.endpoint.xpt.finished = [] ∧ s.module.xpt.finished = [];
      decide ((free) ∧ (quiet) ∧ (sendChecks ctx dst 0x60 stream.toNat s = []) ∧ (ctxBlocked .endpoint ctx id s = true) ∧ ((∀ a ∈ s.e.accs, a.id ≠ id)) ∧ (coherentAccess gfa len stream s = false))) = true
    ∧ (let ctx : Nat := 33;
      let gfa : Nat := 0x40005 * 2 ^ 44;
      let len : Nat := 4;
      let stream : BitVec 4 := default;
      let s : State := State.reset;
      let s : State := (coreState [{ heldLine with readMostly := true }] s).wr .endpoint Fld.fxeCohValid 0 0;
      let dst := gfaEid gfa;
      let free := ctxRetired ctx s = false;
      let id := s.endpoint.xpt.nextOp;
      let quiet := s.endpoint.xpt.finished = [] ∧ s.module.xpt.finished = [];
      let runs := ctxBlocked .endpoint ctx id s = false ∧ s.endpoint.dead.contains dst = false;
      let line := gfa / 64;
      (fun c => decide ((free) ∧ (quiet) ∧ (runs) ∧ (sendChecks ctx dst 0x60 stream.toNat s = []) ∧ (coherentAccess gfa len stream s = false) ∧ (s.e.accs = []) ∧ (oneLine gfa len = true) ∧ (cached line s = some c) ∧ (c.readMostly = true))) ({ heldLine with readMostly := true })) = true
    ∧ (let ctx : Nat := 33;
      let gfa : Nat := 0x40005 * 2 ^ 44;
      let stream : BitVec 4 := default;
      let data : List Byte := [1, 2, 3, 4];
      let s : State := State.reset;
      let s : State := coreState [heldLine] s;
      let dst := gfaEid gfa;
      let free := ctxRetired ctx s = false;
      let id := s.endpoint.xpt.nextOp;
      let quiet := s.endpoint.xpt.finished = [] ∧ s.module.xpt.finished = [];
      let runs := ctxBlocked .endpoint ctx id s = false ∧ s.endpoint.dead.contains dst = false;
      let line := gfa / 64;
      (fun c => decide ((free) ∧ (quiet) ∧ (runs) ∧ (sendChecks ctx dst 0x62 stream.toNat s = []) ∧ (coherentAccess gfa data.length stream s = true) ∧ (s.e.accs = []) ∧ (linesOf gfa data.length = [line]) ∧ (cached line s = some c) ∧ (c.readMostly = false) ∧ (c.state = 4))) (heldLine)) = true
    ∧ (let ctx : Nat := 33;
      let gfa : Nat := 0x40005 * 2 ^ 44;
      let s : State := State.reset;
      let s : State := coreState [heldLine] s;
      let dst := gfaEid gfa;
      let free := ctxRetired ctx s = false;
      let id := s.endpoint.xpt.nextOp;
      let quiet := s.endpoint.xpt.finished = [] ∧ s.module.xpt.finished = [];
      let may := free ∧ sendChecks ctx dst 0x60 0 s = [] ∧ (cohRange gfa s).isSome = true;
      let runs := ctxBlocked .endpoint ctx id s = false ∧ s.endpoint.dead.contains dst = false;
      let line := gfa / 64;
      (fun c => decide ((may) ∧ (quiet) ∧ (runs) ∧ (s.e.accs = []) ∧ (cached line s = some c) ∧ (c.readMostly = false))) (heldLine)) = true
    ∧ (let ctx : Nat := 33;
      let gfa : Nat := 0x40005 * 2 ^ 44;
      let s : State := State.reset;
      let s : State := coreState [heldLine] s;
      let dst := gfaEid gfa;
      let free := ctxRetired ctx s = false;
      let id := s.endpoint.xpt.nextOp;
      let quiet := s.endpoint.xpt.finished = [] ∧ s.module.xpt.finished = [];
      let may := free ∧ sendChecks ctx dst 0x60 0 s = [] ∧ (cohRange gfa s).isSome = true;
      let runs := ctxBlocked .endpoint ctx id s = false ∧ s.endpoint.dead.contains dst = false;
      let line := gfa / 64;
      (fun c => decide ((may) ∧ (quiet) ∧ (runs) ∧ (s.e.accs = []) ∧ (cached line s = some c) ∧ (c.readMostly = false) ∧ (c.state = 3 ∨ c.state = 4))) (heldLine)) = true
    ∧ (let ctx : Nat := 33;
      let gfa : Nat := 0x40005 * 2 ^ 44;
      let s : State := State.reset;
      let s : State := coreState [heldLine] s;
      let dst := gfaEid gfa;
      let free := ctxRetired ctx s = false;
      let quiet := s.endpoint.xpt.finished = [] ∧ s.module.xpt.finished = [];
      let line := gfa / 64;
      (fun c => decide ((free) ∧ (quiet) ∧ (sendChecks ctx dst 0x62 0 s = []) ∧ ((cohRange gfa s).isSome = true) ∧ (cached line s = some c) ∧ (c.readMostly = false))) (heldLine)) = true
    ∧ (let ctx : Nat := 33;
      let gfa : Nat := 0x40005 * 2 ^ 44;
      let s : State := State.reset;
      let s : State := coreState [heldLine] s;
      let dst := gfaEid gfa;
      let free := ctxRetired ctx s = false;
      let quiet := s.endpoint.xpt.finished = [] ∧ s.module.xpt.finished = [];
      let may := free ∧ sendChecks ctx dst 0x60 0 s = [] ∧ (cohRange gfa s).isSome = true;
      let line := gfa / 64;
      (fun c => decide ((may) ∧ (quiet) ∧ (cached line s = some c))) (heldLine)) = true
    ∧ (let gfa : Nat := 0x40005 * 2 ^ 44;
      let s : State := State.reset;
      let s : State := (coreState [] s).wr .endpoint Fld.fxeCohValid 0 0;
      decide (((cohRange gfa s).isSome = false))) = true := by decide +kernel

theorem met_SnoopAnswersAndPlaneMaps :
    (let s : State := State.reset;
      let s : State := s;
      (fun stag => decide ((s.e.snoops.find? (fun x => decide (x.stag = stag)) = none))) (default)) = true
    ∧ (let s : State := State.reset;
      let s : State := (coreState [{ heldLine with accel := 1 }] (s.onE fun e => { e with snoops := [{ stag := 4, sop := 0, line := heldLine.line, use := .victim, sentAt := 0 }] })).wr .endpoint Fld.fxeCohValid 0 0;
      let quiet := s.endpoint.xpt.finished = [] ∧ s.module.xpt.finished = [];
      (fun stag x c => decide ((quiet) ∧ (s.e.snoops.find? (fun x => decide (x.stag = stag)) = some x) ∧ (x.use = .victim) ∧ (x.sop = 0) ∧ (s.e.accs = []) ∧ (cached x.line s = some c) ∧ (c.readMostly = false) ∧ (c.state = 4) ∧ (cohRange (64 * x.line) s = none))) (4) ({ stag := 4, sop := 0, line := heldLine.line, use := .victim, sentAt := 0 }) ({ heldLine with accel := 1 })) = true
    ∧ (let s : State := State.reset;
      let s : State := s;
      (fun line => decide ((lockLine line s = none))) (default)) = true
    ∧ (let s : State := State.reset;
      let s : State := s.onE fun e => { e with locks := [{ line := 5, releasing := true }] };
      (fun line l => decide ((lockLine line s = some l) ∧ (l.releasing = true ∨ l.data = none))) (5) ({ line := 5, releasing := true })) = true
    ∧ (let s : State := State.reset;
      let s : State := s.onE fun e => { e with locks := [{ line := 5, data := some [7], lockTag := some 9 }] };
      (fun line l d tag => decide ((lockLine line s = some l) ∧ (l.releasing = false) ∧ (l.data = some d) ∧ (l.lockTag = some tag) ∧ (l.line = line))) (5) ({ line := 5, data := some [7], lockTag := some 9 }) ([7]) (9)) = true
    ∧ (let s : State := State.reset;
      let s : State := s.wr .endpoint Fld.fxeIdMgmtLock 0 0;
      let quiet := s.endpoint.xpt.finished = [] ∧ s.module.xpt.finished = [];
      (fun (path : Path) (plane : Bool) i => decide ((rwlOpen .endpoint path (regOffset .endpoint (if plane then .fxePlaneDownB else .fxePlaneDownA) i 0) s = true) ∧ (quiet) ∧ (s.endpoint.xpt.ops = []))) (.corePort) (default) (default)) = true
    ∧ (let s : State := State.reset;
      let s : State := s.wr .endpoint Fld.fxeIdMgmtLock 0 1;
      (fun (path : Path) (plane : Bool) i => decide ((rwlOpen .endpoint path (regOffset .endpoint (if plane then .fxePlaneDownB else .fxePlaneDownA) i 0) s = false))) (.corePort) (default) (default)) = true
    ∧ (let s : State := State.reset;
      let s : State := s.onE fun e => { e with mqDead := [4099, 5] };
      (fun half mtag => decide ((s.e.mqDead.contains (half * 4096 + mtag) = true) ∧ (s.e.mqWait = []))) (1) (3)) = true
    ∧ (let s : State := State.reset;
      let s : State := s;
      (fun c half mtag st d => decide ((c ∈ [Instr.mrAnswer half mtag st d, Instr.memTimeout half mtag]) ∧ (s.e.mqDead.contains (half * 4096 + mtag) = false) ∧ (smapGet? s.e.mqOut (half * 4096 + mtag) = none))) (Instr.mrAnswer 1 3 0 [7]) (1) (3) (0) ([7])) = true
    ∧ (let s : State := State.reset;
      let s : State := s;
      (fun c half mtag st d => decide ((c ∈ [Instr.mrAnswer half mtag st d, Instr.memTimeout half mtag]) ∧ (s.e.mqDead.contains (half * 4096 + mtag) = false) ∧ (smapGet? s.e.mqOut (half * 4096 + mtag) = none))) (Instr.memTimeout 1 3) (1) (3) (0) ([7])) = true
    ∧ (let s : State := State.reset;
      let s : State := s.onE fun e => { e with txns := [waitingTxn], mqOut := [(4099, (6, 1))] };
      let quiet := s.endpoint.xpt.finished = [] ∧ s.module.xpt.finished = [];
      (fun half mtag x part => decide ((quiet) ∧ (s.e.mqDead.contains (half * 4096 + mtag) = false) ∧ (smapGet? s.e.mqOut (half * 4096 + mtag) = some (x.id, part)) ∧ (s.e.txns = [x]) ∧ (x.answers = [none, none]) ∧ (part < 2) ∧ (s.e.mqWait = []))) (1) (3) (waitingTxn) (1)) = true
    ∧ (let s : State := State.reset;
      let s : State := s.onE fun e => { e with txns := [waitingTxn], mqOut := [(4099, (6, 1))] };
      let quiet := s.endpoint.xpt.finished = [] ∧ s.module.xpt.finished = [];
      (fun half mtag x part => decide ((quiet) ∧ (smapGet? s.e.mqOut (half * 4096 + mtag) = some (x.id, part)) ∧ (s.e.txns = [x]) ∧ (x.answers = [none, none]) ∧ (part < 2) ∧ (s.e.mqWait = []))) (1) (3) (waitingTxn) (1)) = true := by decide +kernel

theorem met_DominoAndDmaQueuesRun :
    (let ctx : Nat := 33;
      let s : State := State.reset;
      let s : State := segmentState (segmentPacket 1 0 5) s;
      decide ((ctxRetired ctx s = false))) = true
    ∧ (let ctx : Nat := 33;
      let s : State := State.reset;
      let s : State := s.onUnit .endpoint fun u => { u with keys := [(0, { state := 2 })] };
      decide ((ctxRetired ctx s = true))) = true
    ∧ (let p : Packet := { segmentPacket 1 0 5 with opcode := 3 };
      decide ((p.opcode ≠ 0x94))) = true
    ∧ (let p : Packet := segmentPacket 0 0 5;
      let s : State := State.reset;
      let s : State := segmentState (segmentPacket 0 0 5) s;
      let quiet := s.endpoint.xpt.finished = [] ∧ s.module.xpt.finished = [];
      let waits := p.opcode = 0x94 ∧ quiet ∧ (findWork .endpoint p s).isSome = true;
      decide ((waits) ∧ (p.stream = 0))) = true
    ∧ (let p : Packet := segmentPacket 1 0 5;
      let s : State := State.reset;
      let s : State := (segmentState (segmentPacket 1 0 5) s).wr .endpoint Fld.memWinValid 0 0;
      let quiet := s.endpoint.xpt.finished = [] ∧ s.module.xpt.finished = [];
      let waits := p.opcode = 0x94 ∧ quiet ∧ (findWork .endpoint p s).isSome = true;
      (fun st u => decide ((waits) ∧ (p.stream ≠ 0) ∧ (checkRequest .endpoint p s = (.bad st, u)))) (stNoWindow) ((refuse .endpoint stNoWindow .memNoWindowCnt s).2)) = true
    ∧ (let p : Packet := segmentPacket 1 0 6;
      let s : State := State.reset;
      let s : State := segmentState (segmentPacket 1 0 6) s;
      let quiet := s.endpoint.xpt.finished = [] ∧ s.module.xpt.finished = [];
      let waits := p.opcode = 0x94 ∧ quiet ∧ (findWork .endpoint p s).isSome = true;
      (fun q a rm u => decide ((waits) ∧ (p.stream ≠ 0) ∧ (checkRequest .endpoint p s = (.ok q a .ddr rm, u)) ∧ (segmentChecks q u ≠ []))) (segmentPacket 1 0 6) (0x10040) (true) (s)) = true
    ∧ (let p : Packet := segmentPacket 1 0 5;
      let s : State := State.reset;
      let s : State := segmentState (segmentPacket 1 0 5) s;
      let quiet := s.endpoint.xpt.finished = [] ∧ s.module.xpt.finished = [];
      let waits := p.opcode = 0x94 ∧ quiet ∧ (findWork .endpoint p s).isSome = true;
      (fun q a rm => decide ((waits) ∧ (p.stream ≠ 0) ∧ (checkRequest .endpoint p s = (.ok q a .ddr rm, s)) ∧ (segmentChecks q s = []) ∧ (q.opx.getLsbD 10 = false))) (segmentPacket 1 0 5) (0x10040) (true)) = true
    ∧ (let data : List Byte := [7];
      decide ((trigReserved data = true))) = true
    ∧ (let data : List Byte := trigBytes 3 9 2;
      let s : State := State.reset;
      let s : State := s.onE fun e => { e with fired := List.replicate 4096 { op := trigOf (trigBytes 3 9 2) 1, left := 1 } };
      decide ((trigReserved data = false) ∧ (4096 ≤ domPlaces s.e))) = true
    ∧ (let data : List Byte := trigBytes 3 9 2;
      let s : State := State.reset;
      let s : State := (s.wrb .endpoint Fld.fxeDomCtrErr 3 false).wr .endpoint Fld.fxeDomCtrValue 3 2;
      let trig := trigOf data s.e.nextTrig;
      let posted := trigReserved data = false ∧ domPlaces s.e < 4096 ∧ s.e.trig = [];
      decide ((posted) ∧ (domErr trig.counter s = false) ∧ (domValue trig.counter s < trig.threshold))) = true
    ∧ (let data : List Byte := trigBytes 3 9 2;
      let s : State := State.reset;
      let s : State := (s.wrb .endpoint Fld.fxeDomCtrErr 3 false).wr .endpoint Fld.fxeDomCtrValue 3 9;
      let trig := trigOf data s.e.nextTrig;
      let posted := trigReserved data = false ∧ domPlaces s.e < 4096 ∧ s.e.trig = [];
      decide ((posted) ∧ (domErr trig.counter s = false) ∧ (trig.threshold ≤ domValue trig.counter s))) = true
    ∧ (let data : List Byte := trigBytes 3 9 2;
      let s : State := State.reset;
      let s : State := s.wrb .endpoint Fld.fxeDomCtrErr 3 true;
      let trig := trigOf data s.e.nextTrig;
      let posted := trigReserved data = false ∧ domPlaces s.e < 4096 ∧ s.e.trig = [];
      decide ((posted) ∧ (domErr trig.counter s = true))) = true
    ∧ (let s : State := State.reset;
      let s : State := s;
      let quiet := s.endpoint.xpt.finished = [] ∧ s.module.xpt.finished = [];
      decide ((quiet) ∧ (s.e.reached = []))) = true
    ∧ (let s : State := State.reset;
      let s : State := s.onE fun e => { e with reached := [trigOf (trigBytes 3 9 2) 1] };
      let quiet := s.endpoint.xpt.finished = [] ∧ s.module.xpt.finished = [];
      (fun r l => decide ((quiet) ∧ (s.e.reached = r :: l) ∧ (s.e.fired = []) ∧ (r.action = 2))) (trigOf (trigBytes 3 9 2) 1) ([])) = true
    ∧ (let s : State := State.reset;
      let s : State := s.onE fun e => { e with reached := [trigOf (trigBytes 3 9 3) 1] };
      let quiet := s.endpoint.xpt.finished = [] ∧ s.module.xpt.finished = [];
      (fun r l => decide ((quiet) ∧ (s.e.reached = r :: l) ∧ (s.e.fired = []) ∧ (r.action = 3))) (trigOf (trigBytes 3 9 3) 1) ([])) = true
    ∧ (let s : State := State.reset;
      let s : State := segmentState (segmentPacket 1 0 5) s;
      decide ((s.e.fired.find? (fun r => decide (r.left = 0)) = none))) = true
    ∧ (let s : State := State.reset;
      let s : State := ((s.wrb .endpoint Fld.fxeDomCtrErr 4 false).wr .endpoint Fld.fxeDomCtrValue 4 0xFFFFFFFF).onE fun e => { e with fired := [{ op := { trigOf (trigBytes 3 9 3) 1 with done := some 4 }, left := 0 }] };
      (fun r n => decide ((s.e.fired.find? (fun r => decide (r.left = 0)) = some r) ∧ (r.statuses = []) ∧ (r.op.done = some n) ∧ (domErr n s = false))) ({ op := { trigOf (trigBytes 3 9 3) 1 with done := some 4 }, left := 0 }) (4)) = true
    ∧ (let s : State := State.reset;
      let s : State := s.onE fun e => { e with fired := [{ op := trigOf (trigBytes 3 9 3) 1, left := 0, statuses := [4, 2] }] };
      (fun r => decide ((s.e.fired.find? (fun r => decide (r.left = 0)) = some r) ∧ (r.statuses ≠ []))) ({ op := trigOf (trigBytes 3 9 3) 1, left := 0, statuses := [4, 2] })) = true
    ∧ (let s : State := State.reset;
      let s : State := s.wr .endpoint Fld.fxeDmaqEn 3 0;
      (fun q => decide ((qrd Fld.fxeDmaqEn q s = 0))) (3)) = true
    ∧ (let s : State := State.reset;
      let s : State := ((s.wr .endpoint Fld.fxeDmaqEn 3 1).wr .endpoint Fld.fxeDmaqHead 3 1).wr .endpoint Fld.fxeDmaqSizeLog2 3 5;
      (fun q tail => decide ((q < 32) ∧ (qrd Fld.fxeDmaqEn q s = 1) ∧ (qrd Fld.fxeDmaqHead q s ≠ tail % 2 ^ 16 % 2 ^ qrd Fld.fxeDmaqSizeLog2 q s) ∧ ((epQueue q s).fetching = false) ∧ ((epQueue q s).failed = none) ∧ ((epQueue q s).fetched.length + (epQueue q s).descs.length < 16))) (3) (2)) = true
    ∧ (let s : State := State.reset;
      let s : State := s;
      let quiet := s.endpoint.xpt.finished = [] ∧ s.module.xpt.finished = [];
      (fun q => decide ((quiet) ∧ (32 ≤ q ∨ (epQueue q s).fetched = []))) (3)) = true
    ∧ (let s : State := State.reset;
      let s : State := onQueue 3 (fun k => { k with fetched := [zeros 64] }) s;
      let quiet := s.endpoint.xpt.finished = [] ∧ s.module.xpt.finished = [];
      (fun q d l => decide ((quiet) ∧ (q < 32) ∧ ((epQueue q s).fetched = d :: l) ∧ ((dmaFence d && !(epQueue q s).descs.isEmpty) = false) ∧ (dmaReserved d = true))) (3) (zeros 64) ([])) = true
    ∧ (let s : State := State.reset;
      let s : State := dmaReady (onQueue 3 (fun k => { k with fetched := [dmaBytes] }) s);
      let quiet := s.endpoint.xpt.finished = [] ∧ s.module.xpt.finished = [];
      let id := s.endpoint.xpt.nextOp;
      (fun q d l n => decide ((quiet) ∧ (q < 32) ∧ ((epQueue q s).fetched = d :: l) ∧ ((dmaFence d && !(epQueue q s).descs.isEmpty) = false) ∧ (dmaReserved d = false) ∧ (leNat (slice d 0 1) % 16 = 0) ∧ (ctxRetired (64 + q) s = false) ∧ (sendChecks (64 + q) (gfaEid (leNat (slice d 16 8))) 0x80 (leNat (slice d 1 1)) s = []) ∧ (pageCuts (gfaOff (leNat (slice d 16 8))) (leNat (slice d 4 4)) = [(0, n)]) ∧ ((∀ o ∈ s.endpoint.xpt.ops, o.id < id)))) (3) (dmaBytes) ([]) (8)) = true
    ∧ (let s : State := State.reset;
      let s : State := segmentState (segmentPacket 1 0 5) s;
      (fun q => decide (((epQueue q s).descs = []))) (3)) = true
    ∧ (let s : State := State.reset;
      let s : State := onQueue 3 (fun k => { k with descs := [{ doneDesc with left := 2 }] }) s;
      (fun q d l => decide (((epQueue q s).descs = d :: l) ∧ (d.left ≠ 0))) (3) ({ doneDesc with left := 2 }) ([])) = true
    ∧ (let s : State := State.reset;
      let s : State := (onQueue 3 (fun k => { k with descs := [doneDesc, { doneDesc with serial := 5, left := 1 }] }) s).wr .endpoint Fld.fxeDmaqStopOnErr 3 1;
      (fun q d l => decide (((epQueue q s).descs = d :: l) ∧ (d.left = 0))) (3) (doneDesc) ([{ doneDesc with serial := 5, left := 1 }])) = true
    ∧ (let s : State := State.reset;
      let s : State := segmentState (segmentPacket 1 0 5) s;
      (fun q => decide (((epQueue q s).failed = none))) (3)) = true
    ∧ (let s : State := State.reset;
      let s : State := onQueue 3 (fun k => { k with failed := some stPoisoned }) s;
      (fun q st => decide (((epQueue q s).failed = some st))) (3) (stPoisoned)) = true := by decide +kernel

theorem met_EnginesRunCommands :
    (let q : Nat := 5;
      let host : List Byte := default;
      let s : State := State.reset;
      let s : State := onEngQueue 5 (fun k => { k with cmds := [] }) s;
      let kinds := [(Instr.move q host, 0x01), (Instr.fill q, 0x02), (Instr.writeImm q, 0x03), (Instr.ctaLoadB q host, 0x10), (Instr.ctaMatmul q host, 0x11)];
      (fun i op => decide (((i, op) ∈ kinds) ∧ (frontCmd q s = none))) (Instr.move 5 []) (1)) = true
    ∧ (let q : Nat := 5;
      let host : List Byte := default;
      let c : EngCmd := testCmd 2 1;
      let s : State := State.reset;
      let s : State := runsCmd 5 (testCmd 2 1) s;
      let kinds := [(Instr.move q host, 0x01), (Instr.fill q, 0x02), (Instr.writeImm q, 0x03), (Instr.ctaLoadB q host, 0x10), (Instr.ctaMatmul q host, 0x11)];
      (fun i op => decide (((i, op) ∈ kinds) ∧ (frontCmd q s = some c) ∧ (cmdOp c ≠ op))) (Instr.move 5 []) (1)) = true
    ∧ (let q : Nat := 5;
      let host : List Byte := default;
      let c : EngCmd := { testCmd 2 1 with ended := true };
      let s : State := State.reset;
      let s : State := runsCmd 5 { testCmd 2 1 with ended := true } s;
      let kinds := [(Instr.move q host, 0x01), (Instr.fill q, 0x02), (Instr.writeImm q, 0x03), (Instr.ctaLoadB q host, 0x10), (Instr.ctaMatmul q host, 0x11)];
      let quiet := s.endpoint.xpt.finished = [] ∧ s.module.xpt.finished = [];
      let front := frontCmd q s = some c ∧ quiet;
      (fun i op => decide (((i, op) ∈ kinds) ∧ (front) ∧ (cmdOp c = op) ∧ (c.started = false ∨ c.ended = true ∨ cmdTiles c ≤ c.tile))) (Instr.fill 5) (2)) = true
    ∧ (let q : Nat := 5;
      let a : Nat := 0x40;
      let b : Nat := 0x80;
      let n : Nat := 64;
      let c : EngCmd := testCmd 1 1;
      let s : State := State.reset;
      let s : State := runsCmd 5 (testCmd 1 1) s;
      let quiet := s.endpoint.xpt.finished = [] ∧ s.module.xpt.finished = [];
      let front := frontCmd q s = some c ∧ quiet;
      let runs := front ∧ c.started = true ∧ c.ended = false ∧ c.tile < cmdTiles c ∧ c.phase = .looking ∧ c.lookups = [] ∧ arrayHeld q s = false;
      (fun d => decide ((runs) ∧ (cmdOp c = 0x01) ∧ (cmdSrcSpace c = 1) ∧ (cmdDstSpace c = 0) ∧ (tileReads c c.tile = [(a, n)]) ∧ (tileWrites c c.tile = [(b, n)]) ∧ (isOk (moduleRead .ddr (queueDdrKey q s) a n s) d = true) ∧ (d.length = n))) (zeros 64)) = true
    ∧ (let q : Nat := 5;
      let b : Nat := 0x80;
      let n : Nat := 64;
      let c : EngCmd := testCmd 2 1;
      let s : State := State.reset;
      let s : State := runsCmd 5 (testCmd 2 1) s;
      let quiet := s.endpoint.xpt.finished = [] ∧ s.module.xpt.finished = [];
      let front := frontCmd q s = some c ∧ quiet;
      let runs := front ∧ c.started = true ∧ c.ended = false ∧ c.tile < cmdTiles c ∧ c.phase = .looking ∧ c.lookups = [] ∧ arrayHeld q s = false;
      decide ((runs) ∧ (cmdOp c = 0x02) ∧ (cmdDstSpace c = 0) ∧ (tileWrites c c.tile = [(b, n)]))) = true
    ∧ (let q : Nat := 5;
      let b : Nat := 0x80;
      let n : Nat := 8;
      let c : EngCmd := testCmd 3 1;
      let s : State := State.reset;
      let s : State := runsCmd 5 (testCmd 3 1) s;
      let quiet := s.endpoint.xpt.finished = [] ∧ s.module.xpt.finished = [];
      let front := frontCmd q s = some c ∧ quiet;
      let runs := front ∧ c.started = true ∧ c.ended = false ∧ c.tile < cmdTiles c ∧ c.phase = .looking ∧ c.lookups = [] ∧ arrayHeld q s = false;
      decide ((runs) ∧ (c.data.length = 64) ∧ (cmdOp c = 0x03) ∧ (cmdDstSpace c = 0) ∧ (b = cmdDst c) ∧ (n = 8))) = true
    ∧ (let q : Nat := 64;
      let c : EngCmd := arrayCmd 0x10;
      let s : State := State.reset;
      let s : State := runsCmd 64 (arrayCmd 0x10) s;
      let quiet := s.endpoint.xpt.finished = [] ∧ s.module.xpt.finished = [];
      let front := frontCmd q s = some c ∧ quiet;
      let runs := front ∧ c.started = true ∧ c.ended = false ∧ c.tile < cmdTiles c ∧ c.phase = .looking ∧ c.lookups = [] ∧ arrayHeld q s = false;
      decide ((runs) ∧ (cmdOp c = 0x10) ∧ (cmdSrcSpace c = 0))) = true
    ∧ (let q : Nat := 64;
      let a : Nat := 0x40;
      let b : Nat := 0x80;
      let n : Nat := 128;
      let c : EngCmd := arrayCmd 0x11;
      let s : State := State.reset;
      let s : State := onEngQueue 64 (fun k => { k with matrix := some { fmt := 1, k := 32, n := 32, bytes := [] } }) (runsCmd 64 (arrayCmd 0x11) s);
      let quiet := s.endpoint.xpt.finished = [] ∧ s.module.xpt.finished = [];
      let front := frontCmd q s = some c ∧ quiet;
      let runs := front ∧ c.started = true ∧ c.ended = false ∧ c.tile < cmdTiles c ∧ c.phase = .looking ∧ c.lookups = [] ∧ arrayHeld q s = false;
      (fun m => decide ((runs) ∧ (cmdOp c = 0x11) ∧ (cmdSrcSpace c = 0) ∧ (cmdDstSpace c = 0) ∧ ((engQueue q s).matrix = some m) ∧ (m.fmt = cmdAFmt c) ∧ (m.k = cmdK c) ∧ (m.n = cmdN c) ∧ (tileReads c c.tile = [(a, rowABytes c)]) ∧ (tileWrites c c.tile = [(b, n)]) ∧ (0 < rowABytes c) ∧ ((rowOfC c m (memRead s.m.eng.scratch a (rowABytes c))).length = n))) ({ fmt := 1, k := 32, n := 32, bytes := [] })) = true
    ∧ (let q : Nat := 5;
      let host : List Byte := default;
      let c : EngCmd := testCmd 2 8;
      let s : State := State.reset;
      let s : State := (runsCmd 5 (testCmd 2 8) s).wr .module Fld.atsStatusAtsEn 0 0;
      let kinds := [(Instr.move q host, 0x01), (Instr.fill q, 0x02), (Instr.writeImm q, 0x03), (Instr.ctaLoadB q host, 0x10), (Instr.ctaMatmul q host, 0x11)];
      let quiet := s.endpoint.xpt.finished = [] ∧ s.module.xpt.finished = [];
      let front := frontCmd q s = some c ∧ quiet;
      let runs := front ∧ c.started = true ∧ c.ended = false ∧ c.tile < cmdTiles c ∧ c.phase = .looking ∧ c.lookups = [] ∧ arrayHeld q s = false;
      (fun i op => decide (((i, op) ∈ kinds) ∧ (runs) ∧ (cmdOp c = op) ∧ ((cmdSpaces c).contains 2 = true) ∧ (atsOn s = false))) (Instr.fill 5) (2)) = true
    ∧ (let q : Nat := 5;
      let c : EngCmd := testCmd 1 1;
      let s : State := State.reset;
      let s : State := runsCmd 5 (testCmd 1 1) s;
      let quiet := s.endpoint.xpt.finished = [] ∧ s.module.xpt.finished = [];
      let front := frontCmd q s = some c ∧ quiet;
      decide ((front) ∧ (cmdDone c = false))) = true
    ∧ (let q : Nat := 5;
      let s : State := State.reset;
      let s : State := onEngQueue 5 (fun k => { k with cmds := [] }) s;
      let quiet := s.endpoint.xpt.finished = [] ∧ s.module.xpt.finished = [];
      decide ((quiet) ∧ (frontCmd q s = none))) = true
    ∧ (let q : Nat := 5;
      let c : EngCmd := { testCmd 2 1 with tile := 1 };
      let s : State := State.reset;
      let s : State := ((runsCmd 5 { testCmd 2 1 with tile := 1 } s).wr .module Fld.engQrEn 5 0).wr .module Fld.engQrCplDdr 5 0 |>.onM fun m => { m with pci := { m.pci with busMaster := true } };
      let quiet := s.endpoint.xpt.finished = [] ∧ s.module.xpt.finished = [];
      let front := frontCmd q s = some c ∧ quiet;
      let done := front ∧ cmdDone c = true;
      (fun l => decide ((done) ∧ ((engQueue q s).cmds = c :: l) ∧ (s.rdb .module Fld.engQrCplDdr q = false) ∧ (hostOpen s = true) ∧ (s.rdb .module Fld.engQrEn q = false))) ([])) = true := by decide +kernel

theorem met_TranslationsComeAndGo :
    (let pasid : Nat := 4;
      let page : Nat := 9;
      let s : State := State.reset;
      let s : State := s;
      let mine := fun (k : AtsAsk) => decide (k.pasid = pasid) && decide (k.page = page);
      decide ((s.m.eng.ats.asks.find? mine = none))) = true
    ∧ (let pasid : Nat := 4;
      let page : Nat := 9;
      let s : State := State.reset;
      let s : State := onAts (fun a => { a with asks := [{ pasid := 4, page := 9, stale := true }, { pasid := 5, page := 9 }] }) s;
      let mine := fun (k : AtsAsk) => decide (k.pasid = pasid) && decide (k.page = page);
      (fun k => decide ((s.m.eng.ats.asks.find? mine = some k) ∧ (k.stale = true))) ({ pasid := 4, page := 9, stale := true })) = true
    ∧ (let pasid : Nat := 4;
      let page : Nat := 9;
      let r : Bool := true;
      let w : Bool := false;
      let s : State := State.reset;
      let s : State := onAts (fun a => { a with asks := [{ pasid := 4, page := 9 }, { pasid := 5, page := 9 }] }) s;
      let mine := fun (k : AtsAsk) => decide (k.pasid = pasid) && decide (k.page = page);
      let bare := s.m.eng.queues = [] ∧ s.m.eng.threads = [];
      (fun k => decide ((s.m.eng.ats.asks.find? mine = some k) ∧ (k.stale = false) ∧ ((r || w) = true) ∧ (bare))) ({ pasid := 4, page := 9 })) = true
    ∧ (let s : State := State.reset;
      let s : State := s;
      (fun g => decide ((s.m.eng.ats.groups.find? (fun y => decide (y.group = g)) = none))) (1)) = true
    ∧ (let s : State := State.reset;
      let s : State := onAts (fun a => { a with groups := [{ group := 2, pages := 3 }, { group := 1, pages := 3 }] }) s;
      (fun g y => decide ((s.m.eng.ats.groups.find? (fun y => decide (y.group = g)) = some y) ∧ (y.thread = none))) (1) ({ group := 1, pages := 3 })) = true
    ∧ (let pasid : Nat := 4;
      let itag : Nat := 3;
      let lo : Nat := 0;
      let hi : Nat := 0xFFFFF;
      let s : State := State.reset;
      let s : State := onAts (fun a => { a with invals := [{ itag := 3, pasid := none, lo := 0, hi := 0 }] }) s;
      decide (((s.m.eng.ats.invals.any fun y => decide (y.itag = itag)) = true ∨ 32 ≤ s.m.eng.ats.invals.length))) = true
    ∧ (let pasid : Nat := 4;
      let page : Nat := 9;
      let size : Nat := 12;
      let itag : Nat := 3;
      let s : State := State.reset;
      let s : State := onAts (fun a => { a with l1 := [(0, [{ pasid := 4, page := 9, size := 12, read := true, write := true }])], l2 := [(1, [{ pasid := 5, page := 9, size := 12, read := true, write := true }])], asks := [{ pasid := 4, page := 7 }] }) s;
      decide (((s.m.eng.ats.invals.any fun y => decide (y.itag = itag)) = false) ∧ (s.m.eng.ats.invals.length < 32))) = true
    ∧ (let itag : Nat := 3;
      let s : State := State.reset;
      let s : State := s;
      (fun c => decide ((c ∈ [Instr.invalidateDrained itag, Instr.invalidateBound itag]) ∧ (invalOf itag s = none))) (Instr.invalidateDrained 3)) = true
    ∧ (let itag : Nat := 3;
      let s : State := State.reset;
      let s : State := s;
      (fun c => decide ((c ∈ [Instr.invalidateDrained itag, Instr.invalidateBound itag]) ∧ (invalOf itag s = none))) (Instr.invalidateBound 3)) = true
    ∧ (let itag : Nat := 3;
      let s : State := State.reset;
      let s : State := invalUsed s;
      (fun y => decide ((invalOf itag s = some y) ∧ (((queuesUsing y s).isEmpty && (threadsUsing y s).isEmpty) = false))) ({ itag := 3, pasid := none, lo := 0, hi := 0xFFFFF })) = true
    ∧ (let pasid : Nat := 4;
      let itag : Nat := 3;
      let lo : Nat := 0;
      let hi : Nat := 0xFFFFF;
      let s : State := State.reset;
      let s : State := onAts (fun a => { a with invals := [{ itag := 3, pasid := none, lo := 0, hi := 0xFFFFF }] }) s;
      (fun c y => decide ((c ∈ [Instr.invalidateDrained itag, Instr.invalidateBound itag]) ∧ (invalOf itag s = some y) ∧ (queuesUsing y s = []) ∧ (threadsUsing y s = []))) (Instr.invalidateDrained 3) ({ itag := 3, pasid := none, lo := 0, hi := 0xFFFFF })) = true
    ∧ (let pasid : Nat := 4;
      let itag : Nat := 3;
      let lo : Nat := 0;
      let hi : Nat := 0xFFFFF;
      let s : State := State.reset;
      let s : State := onAts (fun a => { a with invals := [{ itag := 3, pasid := none, lo := 0, hi := 0xFFFFF }] }) s;
      (fun c y => decide ((c ∈ [Instr.invalidateDrained itag, Instr.invalidateBound itag]) ∧ (invalOf itag s = some y) ∧ (queuesUsing y s = []) ∧ (threadsUsing y s = []))) (Instr.invalidateBound 3) ({ itag := 3, pasid := none, lo := 0, hi := 0xFFFFF })) = true
    ∧ (let itag : Nat := 3;
      let s : State := State.reset;
      let s : State := invalUsed s;
      (fun y q => decide ((invalOf itag s = some y) ∧ (queuesUsing y s = [q]) ∧ (threadsUsing y s = []))) ({ itag := 3, pasid := none, lo := 0, hi := 0xFFFFF }) (5)) = true := by decide +kernel

theorem met_PuppetThreadsAccess :
    (let c : Nat := 0;
      let h : Nat := 0;
      let pc : Nat := 0;
      let addr : Nat := 0x40;
      let size : Nat := 4;
      let op : Nat := 0;
      let data : List Byte := [1, 2, 3, 4];
      let rl : Bool := false;
      let rz : Bool := false;
      let pcmp : Word := default;
      let w : Word := 0xE0001;
      let s : State := State.reset;
      let s : State := onThread 0 0 (fun x => { x with fence := true }) (pupState s);
      let quiet := s.endpoint.xpt.finished = [] ∧ s.module.xpt.finished = [];
      let loads := [Instr.puppetLoad c h pc addr size w, Instr.puppetLrAq c h pc addr size w];
      let accesses := loads ++ [Instr.puppetStore c h pc addr data w, Instr.puppetAmo c h pc addr op data rl rz w, Instr.pcas c h pc addr size data pcmp w];
      (fun i => decide ((i ∈ accesses ++ [Instr.puppetSc c h, Instr.puppetFence c h, Instr.puppetExit c h]) ∧ (quiet) ∧ (threadReady c h s = false))) (Instr.puppetLoad 0 0 0 0x40 4 0xE0001)) = true
    ∧ (let c : Nat := 0;
      let h : Nat := 0;
      let pc : Nat := 0;
      let addr : Nat := 0x40;
      let size : Nat := 4;
      let w : Word := 0xE0001;
      let s : State := State.reset;
      let s : State := putDcache 0 1 (zeros 64) (pupState s);
      let quiet := s.endpoint.xpt.finished = [] ∧ s.module.xpt.finished = [];
      let ready := quiet ∧ threadReady c h s = true;
      let can := ready ∧ s.m.power.loss = false ∧ accessFault c addr size s = none;
      let at_ := addr % 2 ^ 62;
      let loads := [Instr.puppetLoad c h pc addr size w, Instr.puppetLrAq c h pc addr size w];
      let scratch := addr / 2 ^ 62 = 0;
      (fun i l => decide ((i ∈ loads) ∧ (can) ∧ (scratch) ∧ (dcacheLine c (at_ / 64) s = some l))) (Instr.puppetLoad 0 0 0 0x40 4 0xE0001) (zeros 64)) = true
    ∧ (let c : Nat := 0;
      let h : Nat := 0;
      let pc : Nat := 0;
      let addr : Nat := 0x40;
      let size : Nat := 4;
      let w : Word := 0xE0001;
      let s : State := State.reset;
      let s : State := putDcache 0 1 (zeros 64) (pupState s);
      let quiet := s.endpoint.xpt.finished = [] ∧ s.module.xpt.finished = [];
      let ready := quiet ∧ threadReady c h s = true;
      let can := ready ∧ s.m.power.loss = false ∧ accessFault c addr size s = none;
      let at_ := addr % 2 ^ 62;
      let loads := [Instr.puppetLoad c h pc addr size w, Instr.puppetLrAq c h pc addr size w];
      let scratch := addr / 2 ^ 62 = 0;
      (fun i l => decide ((i ∈ loads) ∧ (can) ∧ (scratch) ∧ (dcacheLine c (at_ / 64) s = some l))) (Instr.puppetLrAq 0 0 0 0x40 4 0xE0001) (zeros 64)) = true
    ∧ (let c : Nat := 0;
      let h : Nat := 0;
      let pc : Nat := 0;
      let addr : Nat := 0x40;
      let size : Nat := 4;
      let w : Word := 0xE0001;
      let s : State := State.reset;
      let s : State := pupState s;
      let quiet := s.endpoint.xpt.finished = [] ∧ s.module.xpt.finished = [];
      let ready := quiet ∧ threadReady c h s = true;
      let can := ready ∧ s.m.power.loss = false ∧ accessFault c addr size s = none;
      let at_ := addr % 2 ^ 62;
      let loads := [Instr.puppetLoad c h pc addr size w, Instr.puppetLrAq c h pc addr size w];
      let scratch := addr / 2 ^ 62 = 0;
      (fun i => decide ((i ∈ loads) ∧ (can) ∧ (scratch) ∧ (dcacheLine c (at_ / 64) s = none))) (Instr.puppetLrAq 0 0 0 0x40 4 0xE0001)) = true
    ∧ (let c : Nat := 0;
      let h : Nat := 0;
      let pc : Nat := 0;
      let addr : Nat := 0x40;
      let size : Nat := 4;
      let s : State := State.reset;
      let s : State := pupWait 0 0 { kind := .load, addr := 0x40, size := 4, pc := 0 } (pupState s);
      let quiet := s.endpoint.xpt.finished = [] ∧ s.module.xpt.finished = [];
      let x := pupThread c h s;
      (fun a => decide ((quiet) ∧ (x.waiting = some a) ∧ (a.issued = false) ∧ (a.kind = .load ∨ a.kind = .acquire) ∧ (a.addr / 2 ^ 62 = 0) ∧ (dcacheLine c (a.addr % 2 ^ 62 / 64) s = none))) ({ kind := .load, addr := 0x40, size := 4, pc := 0 })) = true
    ∧ (let c : Nat := 0;
      let h : Nat := 0;
      let addr : Nat := 0x40;
      let data : List Byte := [1, 2, 3, 4];
      let s : State := State.reset;
      let s : State := pupState s;
      let quiet := s.endpoint.xpt.finished = [] ∧ s.module.xpt.finished = [];
      let ready := quiet ∧ threadReady c h s = true;
      let scratch := addr / 2 ^ 62 = 0;
      decide ((quiet) ∧ (ready) ∧ (s.m.power.loss = false) ∧ (accessFault c addr data.length s = none) ∧ (scratch) ∧ (postedStores c h s < 8))) = true
    ∧ (let c : Nat := 0;
      let h : Nat := 0;
      let pc : Nat := 0;
      let addr : Nat := 0x40;
      let size : Nat := 4;
      let op : Nat := 0;
      let data : List Byte := [1, 2, 3, 4];
      let s : State := State.reset;
      let s : State := pupState s;
      let quiet := s.endpoint.xpt.finished = [] ∧ s.module.xpt.finished = [];
      let ready := quiet ∧ threadReady c h s = true;
      let at_ := addr % 2 ^ 62;
      let scratch := addr / 2 ^ 62 = 0;
      let amo : PupAccess := { kind := .atomic, addr := addr, size := data.length, data := data, op := op, pc := pc };
      (fun v => decide ((ready) ∧ (s.m.power.loss = false) ∧ (accessFault c addr data.length s = none) ∧ (scratch) ∧ (pupAtomic amo (memRead s.m.eng.scratch at_ data.length) = some v))) ([1, 2, 3, 4])) = true
    ∧ (let c : Nat := 0;
      let h : Nat := 0;
      let pc : Nat := 0;
      let addr : Nat := 0x40;
      let size : Nat := 4;
      let op : Nat := 0;
      let data : List Byte := [1, 2, 3, 4];
      let pcmp : Word := default;
      let s : State := State.reset;
      let s : State := pupState s;
      let quiet := s.endpoint.xpt.finished = [] ∧ s.module.xpt.finished = [];
      let ready := quiet ∧ threadReady c h s = true;
      let can := ready ∧ s.m.power.loss = false ∧ accessFault c addr size s = none;
      let at_ := addr % 2 ^ 62;
      let scratch := addr / 2 ^ 62 = 0;
      let swap : PupAccess := { kind := .atomic, addr := addr, size := size, data := leBytes size pcmp.toNat ++ fitTo size data, op := 9, pc := pc };
      (fun v => decide ((can) ∧ (scratch) ∧ (pupAtomic swap (memRead s.m.eng.scratch at_ size) = some v))) ([1, 2, 3, 4])) = true
    ∧ (let c : Nat := 0;
      let h : Nat := 0;
      let pc : Nat := 0;
      let addr : Nat := 3 * 2 ^ 62;
      let size : Nat := 4;
      let w : Word := (groupEid 0 7).setWidth 64;
      let s : State := State.reset;
      let s : State := pupState s;
      let quiet := s.endpoint.xpt.finished = [] ∧ s.module.xpt.finished = [];
      let ready := quiet ∧ threadReady c h s = true;
      let can := ready ∧ s.m.power.loss = false ∧ accessFault c addr size s = none;
      let loads := [Instr.puppetLoad c h pc addr size w, Instr.puppetLrAq c h pc addr size w];
      (fun i => decide ((i ∈ loads) ∧ (can) ∧ (3 ≤ addr / 2 ^ 62) ∧ (isGroupEid (BitVec.ofNat 20 (bitsOf w 19 0)) = true))) (Instr.puppetLoad 0 0 0 (3 * 2 ^ 62) 4 ((groupEid 0 7).setWidth 64))) = true
    ∧ (let c : Nat := 0;
      let h : Nat := 0;
      let s : State := State.reset;
      let s : State := pupState s;
      let quiet := s.endpoint.xpt.finished = [] ∧ s.module.xpt.finished = [];
      let ready := quiet ∧ threadReady c h s = true;
      decide ((ready))) = true
    ∧ (let c : Nat := 9;
      let h : Nat := 0;
      let pc : Nat := 0;
      let addr : Nat := 0x80040;
      let size : Nat := 4;
      let w : Word := 0xE0001;
      let s : State := State.reset;
      let s : State := progRuns (pupState s);
      let quiet := s.endpoint.xpt.finished = [] ∧ s.module.xpt.finished = [];
      let ready := quiet ∧ threadReady c h s = true;
      let loads := [Instr.puppetLoad c h pc addr size w, Instr.puppetLrAq c h pc addr size w];
      (fun i st p => decide ((i ∈ loads) ∧ (ready) ∧ (s.m.power.loss = false) ∧ (accessFault c addr size s = some st) ∧ (progOf c s = some p) ∧ (progState p s = 2) ∧ (s.module.xpt.ops = []))) (Instr.puppetLoad 9 0 0 0x80040 4 0xE0001) (stAccessDenied) (3)) = true
    ∧ (let c : Nat := 0;
      let h : Nat := 0;
      let s : State := State.reset;
      let s : State := pupState s;
      let quiet := s.endpoint.xpt.finished = [] ∧ s.module.xpt.finished = [];
      let ready := quiet ∧ threadReady c h s = true;
      decide ((ready))) = true
    ∧ (let s : State := State.reset;
      let s : State := pupState s;
      (fun (sd : Side) ctx => decide ((takeFence sd ctx s = none))) (.module) (3)) = true
    ∧ (let s : State := State.reset;
      let s : State := s.onXpt .endpoint fun x => { x with fences := [{ id := 2, ctx := 33, use := .xq 33 5 0 0, statuses := [stPoisoned] }] };
      let quiet := s.endpoint.xpt.finished = [] ∧ s.module.xpt.finished = [];
      (fun f c' atag => decide ((quiet) ∧ (s.endpoint.xpt.ops = []) ∧ (s.e.accs = []) ∧ (s.endpoint.xpt.fences.find? (fun f => decide (f.ctx = c')) = some f) ∧ (f.use = .xq c' atag 0 0))) ({ id := 2, ctx := 33, use := .xq 33 5 0 0, statuses := [stPoisoned] }) (33) (5)) = true
    ∧ (let c : Nat := 0;
      let h : Nat := 0;
      let s : State := State.reset;
      let s : State := (onThread 0 0 (fun x => { x with fence := true }) (pupState s)).onXpt .module fun x => { x with fences := [{ id := 2, ctx := 72, use := .puppet 0 0 }] };
      let quiet := s.endpoint.xpt.finished = [] ∧ s.module.xpt.finished = [];
      (fun f => decide ((quiet) ∧ (s.module.xpt.ops = []) ∧ (s.module.xpt.fences.find? (fun f => decide (f.ctx = pupCtx c h)) = some f) ∧ (f.use = .puppet c h))) ({ id := 2, ctx := 72, use := .puppet 0 0 })) = true
    ∧ (let c : Nat := 9;
      let h : Nat := 0;
      let s : State := State.reset;
      let s : State := progRuns (pupState s);
      (fun p => decide ((threadReady c h s = true) ∧ (progOf c s = some p) ∧ (progState p s = 2) ∧ (s.module.xpt.ops = []))) (3)) = true
    ∧ (let s : State := State.reset;
      let s : State := progRuns (pupState s);
      (fun p => decide ((progState p s = 2) ∧ (s.module.xpt.ops = []))) (3)) = true
    ∧ (let s : State := State.reset;
      let s : State := s.wr .module Fld.pupProgState 3 4;
      (fun p => decide ((progState p s ≠ 2))) (3)) = true
    ∧ (let w : Word := 0xE0001;
      decide ((bitsOf w 59 48 = 0 ∨ 64 < bitsOf w 59 48))) = true
    ∧ (let w : Word := 0x3001000000000000;
      decide ((1 ≤ bitsOf w 59 48) ∧ (bitsOf w 59 48 ≤ 64))) = true
    ∧ ((fun p => decide ((p.opcode ≠ 0xA1))) (creditPacket)) = true
    ∧ (let addr : Nat := 0x40;
      let s : State := State.reset;
      let s : State := (progRuns (pupState s)).onXpt .module fun x => { x with work := [{ port := 3, pkt := msgPacket }] };
      let quiet := s.endpoint.xpt.finished = [] ∧ s.module.xpt.finished = [];
      let at_ := addr % 2 ^ 62;
      (fun p q => decide ((quiet) ∧ (p.opcode = 0xA1) ∧ ((findWork .module p s).isSome = true) ∧ (msgChecks p (some at_) s = (.inl q, s)))) (msgPacket) (msgPacket)) = true
    ∧ (let s : State := State.reset;
      let s : State := (progRuns (pupState s)).onXpt .module fun x => { x with work := [{ port := 3, pkt := msgPacket }] };
      let quiet := s.endpoint.xpt.finished = [] ∧ s.module.xpt.finished = [];
      (fun p u => decide ((quiet) ∧ (p.opcode = 0xA1) ∧ ((findWork .module p s).isSome = true) ∧ (msgChecks p none s = (.inr stRetryLater, u)))) (msgPacket) (s)) = true := by decide +kernel

theorem met_ApertureAndQueueRegisters :
    (let s : State := State.reset;
      let s : State := s.onM fun m => { m with pci := { m.pci with memEnable := false } };
      decide ((memoryOpen s = false))) = true
    ∧ (let s : State := State.reset;
      let s : State := s.onM fun m => { m with pci := { m.pci with memEnable := false } };
      decide ((memoryOpen s = false))) = true
    ∧ (let off : Nat := 0x100;
      let s : State := State.reset;
      let s : State := ((aptState s).wr .module Fld.pciAptValid 0 0).wr .module Fld.pciAptErrValid 0 0;
      let quiet := s.endpoint.xpt.finished = [] ∧ s.module.xpt.finished = [];
      (fun st => decide ((memoryOpen s = true) ∧ (quiet) ∧ (aptRefuses false off s = some st))) (stNoWindow)) = true
    ∧ (let off : Nat := 0x100;
      let s : State := State.reset;
      let s : State := ((aptState s).wr .module Fld.pciAptValid 0 0).wr .module Fld.pciAptErrValid 0 0;
      let quiet := s.endpoint.xpt.finished = [] ∧ s.module.xpt.finished = [];
      (fun st => decide ((memoryOpen s = true) ∧ (quiet) ∧ (aptRefuses true off s = some st))) (stNoWindow)) = true
    ∧ (let off : Nat := 0x100;
      let len : Nat := 4;
      let s : State := State.reset;
      let s : State := (aptState s).onM fun m => { m with pci := { m.pci with apt := List.replicate 256 { id := 0, window := 0, write := false, offset := 0, gfa := 0, len := 4, started := true } } };
      let quiet := s.endpoint.xpt.finished = [] ∧ s.module.xpt.finished = [];
      decide ((memoryOpen s = true) ∧ (quiet) ∧ (aptRefuses false off s = none) ∧ (256 ≤ (s.m.pci.apt.filter fun x => !x.write && x.started).length))) = true
    ∧ (let off : Nat := 0x100;
      let len : Nat := 4;
      let data : List Byte := [1, 2, 3, 4];
      let s : State := State.reset;
      let s : State := aptState s;
      let quiet := s.endpoint.xpt.finished = [] ∧ s.module.xpt.finished = [];
      let window := off / 2 ^ 30;
      let id := s.module.xpt.nextOp;
      let tlp := fun (write : Bool) (n : Nat) => ({ id := s.m.pci.nextApt, window := window, write := write, offset := off, gfa := aptGfa off s, len := n, data := List.replicate (if write then 0 else n) 0xFF } : AptTlp);
      let op := fun (write : Bool) (n : Nat) => ({ id := id, ctx := some (aptCtx window), use := .aperture s.m.pci.nextApt 0, pkt := aptPacket (tlp write n) (0, n) data s, ready := true } : SrcOp);
      let goes := fun (o : SrcOp) => (match mayIssue .module o (s.onXpt .module fun x => { x with nextOp := id + 1, ops := x.ops ++ [o] }) with | .fail _ => false | .restart => false | _ => true) = true;
      let fresh := (∀ o ∈ s.module.xpt.ops, o.id < id) ∧ (∀ x ∈ s.m.pci.apt, x.id < s.m.pci.nextApt);
      decide ((memoryOpen s = true) ∧ (quiet) ∧ (aptRefuses false off s = none) ∧ ((s.m.pci.apt.filter fun x => !x.write && x.started).length < 256) ∧ (fresh) ∧ (aptWriteBefore window id s = false) ∧ (aptPieces (aptGfa off s) (len / 256 + 2) 0 len = [(0, len)]) ∧ (goes { op false len with pkt := aptPacket (tlp false len) (0, len) [] s }))) = true
    ∧ (let off : Nat := 0x100;
      let len : Nat := 4;
      let data : List Byte := [1, 2, 3, 4];
      let s : State := State.reset;
      let s : State := aptState s;
      let quiet := s.endpoint.xpt.finished = [] ∧ s.module.xpt.finished = [];
      let window := off / 2 ^ 30;
      let id := s.module.xpt.nextOp;
      let tlp := fun (write : Bool) (n : Nat) => ({ id := s.m.pci.nextApt, window := window, write := write, offset := off, gfa := aptGfa off s, len := n, data := List.replicate (if write then 0 else n) 0xFF } : AptTlp);
      let op := fun (write : Bool) (n : Nat) => ({ id := id, ctx := some (aptCtx window), use := .aperture s.m.pci.nextApt 0, pkt := aptPacket (tlp write n) (0, n) data s, ready := true } : SrcOp);
      let goes := fun (o : SrcOp) => (match mayIssue .module o (s.onXpt .module fun x => { x with nextOp := id + 1, ops := x.ops ++ [o] }) with | .fail _ => false | .restart => false | _ => true) = true;
      let fresh := (∀ o ∈ s.module.xpt.ops, o.id < id) ∧ (∀ x ∈ s.m.pci.apt, x.id < s.m.pci.nextApt);
      decide ((memoryOpen s = true) ∧ (quiet) ∧ (aptRefuses true off s = none) ∧ (fresh) ∧ (aptPieces (aptGfa off s) (data.length / 256 + 2) 0 data.length = [(0, data.length)]) ∧ (goes (op true data.length)))) = true
    ∧ (let q : Nat := 5;
      let s : State := State.reset;
      let s : State := s.wr .module Fld.engQrEn 5 0;
      decide ((s.rdb .module Fld.engQrEn q = false))) = true
    ∧ (let q : Nat := 5;
      let s : State := State.reset;
      let s : State := ((s.wr .module Fld.engQrEn 5 1).wr .module Fld.engQrSizeLog2 5 6).wr .module Fld.engQrHead 5 1;
      (fun tail => decide ((s.rdb .module Fld.engQrEn q = true) ∧ (ringSize q s < (tail % 2 ^ 16 + 2 ^ 16 - s.rd .module Fld.engQrHead q) % 2 ^ 16))) (100)) = true
    ∧ (let q : Nat := 5;
      let s : State := State.reset;
      let s : State := ((((s.wr .module Fld.engQrEn 5 1).wr .module Fld.engQrSizeLog2 5 6).wr .module Fld.engQrHead 5 1).wr .module Fld.engQrCmdDdr 5 1).wr .module Fld.engQdbChead 5 0 |>.wr .module Fld.pciStatusDState 0 0;
      (fun tail => decide ((s.rdb .module Fld.engQrEn q = true) ∧ ((tail % 2 ^ 16 + 2 ^ 16 - s.rd .module Fld.engQrHead q) % 2 ^ 16 ≤ ringSize q s) ∧ ((engQueue q s).fetching = false) ∧ (s.rd .module Fld.engQrHead q ≠ tail % 2 ^ 16) ∧ (s.rdb .module Fld.engQrCmdDdr q = true) ∧ ((s.rd .module Fld.engQrHead q + 2 ^ 16 - s.rd .module Fld.engQdbChead q) % 2 ^ 16 < ringSize q s) ∧ (s.rd .module Fld.pciStatusDState = 0))) (3)) = true
    ∧ (let q : Nat := 5;
      let s : State := State.reset;
      let s : State := s.wr .module Fld.engQrEn 5 0;
      (fun (path : Path) (v : Word) => decide ((rwlOpen .module path (regOffset .module .engQr q 2) s = true) ∧ (s.rdb .module Fld.engQrEn q = false) ∧ (v.getLsbD 63 = true) ∧ (6 ≤ bitsOf v 4 0) ∧ (bitsOf v 4 0 ≤ 16))) (.host) (0xC000000000000006)) = true
    ∧ (let q : Nat := 5;
      let s : State := State.reset;
      let s : State := aptState s;
      (fun (path : Path) (v : Word) => decide ((rwlOpen .module path (regOffset .module .engQr q 2) s = true) ∧ (v.getLsbD 63 = false))) (.host) (0)) = true
    ∧ (let q : Nat := 5;
      let s : State := State.reset;
      let s : State := s.wr .module Fld.secOwnHeld 0 0xFFFF;
      (fun (path : Path) => decide ((rwlOpen .module path (regOffset .module .engQr q 2) s = false))) (.host)) = true
    ∧ (let q : Nat := 5;
      let s : State := State.reset;
      let s : State := aptState s;
      decide (((engQueue q s).fetching = false))) = true
    ∧ (let q : Nat := 5;
      let s : State := State.reset;
      let s : State := (onEngQueue 5 (fun k => { k with fetching := true }) s).wr .module Fld.engQrCmdDdr 5 0;
      decide (((engQueue q s).fetching = true) ∧ (s.rdb .module Fld.engQrCmdDdr q = false))) = true
    ∧ (let q : Nat := 5;
      let s : State := State.reset;
      let s : State := (onEngQueue 5 (fun k => { k with fetching := true }) s).wr .module Fld.engQrCmdDdr 5 0;
      decide (((engQueue q s).fetching = true) ∧ (s.rdb .module Fld.engQrCmdDdr q = false))) = true
    ∧ (let q : Nat := 5;
      let s : State := State.reset;
      let s : State := (onEngQueue 5 (fun k => { k with fetching := true }) s).wr .module Fld.engQrCmdDdr 5 0;
      decide (((engQueue q s).fetching = true) ∧ (s.rdb .module Fld.engQrCmdDdr q = false))) = true
    ∧ (let q : Nat := 5;
      let s : State := State.reset;
      let s : State := aptState s;
      decide (((engQueue q s).fetching = false))) = true := by decide +kernel

theorem met_InterruptsAndTheFunction :
    (let s : State := State.reset;
      let s : State := s.setWord .module .pciIntStatus 1 0 0x10000;
      (fun i mask => decide ((((setBits 64 (s.word .module .pciIntStatus i 0 &&& mask).toNat).filter fun b => sourceHolds (64 * i + b) s) = []))) (1) (0x100)) = true
    ∧ (let s : State := State.reset;
      let s : State := (s.setWord .module .pciIntStatus 0 0 0x20).wrb .module Fld.engQrStopped 5 true;
      (fun q => decide ((q < 72) ∧ ((s.word .module .pciIntStatus (q / 64) 0).getLsbD (q % 64) = true) ∧ (s.rdb .module Fld.engQrStopped q = true))) (5)) = true
    ∧ (let s : State := State.reset;
      let s : State := (s.onM fun m => { m with pci := { m.pci with busMaster := true, deferred := [7, 8], unmasked := [9] } }).wr .module Fld.pciIntRouteVector 7 9 |>.wr .module Fld.pciStatusDState 0 0;
      let pci := s.m.pci;
      (fun src => decide ((pci.deferred.contains src = true) ∧ (mayMessage s = true) ∧ (pci.functionMask = false) ∧ (pci.unmasked.contains (s.rd .module Fld.pciIntRouteVector src) = true))) (7)) = true
    ∧ (let s : State := State.reset;
      let s : State := (s.onM fun m => { m with pci := { m.pci with busMaster := true, deferred := [7, 8] } }).wr .module Fld.pciIntRouteVector 7 9 |>.wr .module Fld.pciStatusDState 0 0;
      let pci := s.m.pci;
      (fun src => decide ((pci.deferred.contains src = true) ∧ (mayMessage s = true) ∧ (pci.functionMask = true ∨ pci.unmasked.contains (s.rd .module Fld.pciIntRouteVector src) = false))) (7)) = true
    ∧ (let s : State := State.reset;
      let s : State := s;
      let pci := s.m.pci;
      (fun src => decide ((pci.deferred.contains src = false ∨ mayMessage s = false))) (default)) = true
    ∧ (let s : State := State.reset;
      let s : State := s.onM fun m => { m with pci := { m.pci with pba := [3, 4] } };
      let pci := s.m.pci;
      (fun v => decide ((pci.pba.contains v = true) ∧ (pci.functionMask = false))) (4)) = true
    ∧ (let s : State := State.reset;
      let s : State := s;
      let pci := s.m.pci;
      (fun v => decide ((pci.pba.contains v = false ∨ pci.functionMask = true))) (default)) = true
    ∧ (let s : State := State.reset;
      let s : State := s;
      decide (((∀ (q : Nat), q < 72 → (engQueue q s).fetching = false)))) = true
    ∧ (let s : State := State.reset;
      let s : State := (s.onM fun m => { m with eng := { m.eng with queues := [(5, { fetching := true })] } }).wr .module Fld.engQrCmdDdr 5 0;
      (fun q k => decide ((s.m.eng.queues = [(q, k)]) ∧ (q < 72) ∧ (k.fetching = true) ∧ (s.rdb .module Fld.engQrCmdDdr q = false))) (5) ({ fetching := true })) = true
    ∧ (let s : State := State.reset;
      let s : State := s;
      let pci := s.m.pci;
      decide ((pci.apt.all (fun x => x.write) = true))) = true
    ∧ (let s : State := State.reset;
      let s : State := s.onM fun m => { m with pci := { m.pci with apt := [{ id := 0, window := 0, write := false, offset := 0, gfa := 0, len := 4, started := true }] } };
      let pci := s.m.pci;
      decide ((pci.apt.all (fun x => x.write) = false))) = true
    ∧ (let s : State := State.reset;
      let s : State := s.wr .module Fld.glbBringupStatusStep 0 0;
      decide ((bringStep s ≠ 2))) = true
    ∧ (let s : State := State.reset;
      let s : State := s.wr .module Fld.glbBringupStatusStep 0 0;
      decide ((bringStep s ≠ 2))) = true
    ∧ (let s : State := State.reset;
      let s : State := s.wr .module Fld.glbBringupStatusStep 0 0;
      decide ((bringStep s ≠ 2))) = true
    ∧ (let s : State := State.reset;
      let s : State := s.wr .module Fld.glbBringupStatusStep 0 0;
      decide ((bringStep s ≠ 2))) = true := by decide +kernel

theorem met_BringUpStepsDoTheirWork :
    (let path : Path := .host;
      let s : State := State.reset;
      let s : State := bringState 3 true s;
      let runs := fun (n : Nat) => bringStep s = n ∧ bringBusy s = true ∧ s.m.bring.outcome = none;
      let begins := fun (n : Nat) => bringBusy s = false ∧ rwlOpen .module path (regOffset .module .glbBringupCtl 0 0) s = true ∧ mayStartStep n s = true;
      (fun (fuse : FuseMap) => decide (((runs 3 ∨ begins 3)) ∧ (fuse.parityError = true))) ({ parityError := true })) = true
    ∧ (let path : Path := .host;
      let s : State := State.reset;
      let s : State := bringState 2 false s;
      let runs := fun (n : Nat) => bringStep s = n ∧ bringBusy s = true ∧ s.m.bring.outcome = none;
      let begins := fun (n : Nat) => bringBusy s = false ∧ rwlOpen .module path (regOffset .module .glbBringupCtl 0 0) s = true ∧ mayStartStep n s = true;
      (fun (fuse : FuseMap) => decide (((runs 3 ∨ begins 3)) ∧ (fuse.parityError = true))) ({ parityError := true })) = true
    ∧ (let path : Path := .host;
      let s : State := State.reset;
      let s : State := bringState 3 true s;
      let runs := fun (n : Nat) => bringStep s = n ∧ bringBusy s = true ∧ s.m.bring.outcome = none;
      let begins := fun (n : Nat) => bringBusy s = false ∧ rwlOpen .module path (regOffset .module .glbBringupCtl 0 0) s = true ∧ mayStartStep n s = true;
      (fun (fuse : FuseMap) => decide (((runs 3 ∨ begins 3)) ∧ (fuse.parityError = false))) ({ badTiles := [0, 35], badSlices := [(0, 3)] })) = true
    ∧ (let path : Path := .host;
      let s : State := State.reset;
      let s : State := bringState 2 false s;
      let runs := fun (n : Nat) => bringStep s = n ∧ bringBusy s = true ∧ s.m.bring.outcome = none;
      let begins := fun (n : Nat) => bringBusy s = false ∧ rwlOpen .module path (regOffset .module .glbBringupCtl 0 0) s = true ∧ mayStartStep n s = true;
      (fun (fuse : FuseMap) => decide (((runs 3 ∨ begins 3)) ∧ (fuse.parityError = false))) ({ badTiles := [0, 35], badSlices := [(0, 3)] })) = true
    ∧ (let path : Path := .host;
      let s : State := State.reset;
      let s : State := bringState 7 false s;
      let closed := fun (n : Nat) => bringBusy s = false ∧ (rwlOpen .module path (regOffset .module .glbBringupCtl 0 0) s = false ∨ mayStartStep n s = false);
      decide ((closed 3))) = true
    ∧ (let s : State := State.reset;
      let s : State := bringState 4 true s;
      let runs := fun (n : Nat) => bringStep s = n ∧ bringBusy s = true ∧ s.m.bring.outcome = none;
      decide ((runs 4))) = true
    ∧ (let path : Path := .host;
      let s : State := State.reset;
      let s : State := bringState 3 false s;
      let runs := fun (n : Nat) => bringStep s = n ∧ bringBusy s = true ∧ s.m.bring.outcome = none;
      let begins := fun (n : Nat) => bringBusy s = false ∧ rwlOpen .module path (regOffset .module .glbBringupCtl 0 0) s = true ∧ mayStartStep n s = true;
      (fun image => decide (((runs 4 ∨ begins 4)) ∧ (imgField image 0 4 ≠ 0x4A494753))) ([])) = true
    ∧ (let path : Path := .host;
      let s : State := State.reset;
      let s : State := s;
      let closed := fun (n : Nat) => bringBusy s = false ∧ (rwlOpen .module path (regOffset .module .glbBringupCtl 0 0) s = false ∨ mayStartStep n s = false);
      decide ((closed 4))) = true
    ∧ (let path : Path := .host;
      let s : State := State.reset;
      let s : State := bringState 5 true s;
      let runs := fun (n : Nat) => bringStep s = n ∧ bringBusy s = true ∧ s.m.bring.outcome = none;
      let begins := fun (n : Nat) => bringBusy s = false ∧ rwlOpen .module path (regOffset .module .glbBringupCtl 0 0) s = true ∧ mayStartStep n s = true;
      decide (((runs 5 ∨ begins 5)))) = true
    ∧ (let path : Path := .host;
      let s : State := State.reset;
      let s : State := bringState 4 false s;
      let runs := fun (n : Nat) => bringStep s = n ∧ bringBusy s = true ∧ s.m.bring.outcome = none;
      let begins := fun (n : Nat) => bringBusy s = false ∧ rwlOpen .module path (regOffset .module .glbBringupCtl 0 0) s = true ∧ mayStartStep n s = true;
      decide (((runs 5 ∨ begins 5)))) = true
    ∧ (let path : Path := .host;
      let s : State := State.reset;
      let s : State := s;
      let closed := fun (n : Nat) => bringBusy s = false ∧ (rwlOpen .module path (regOffset .module .glbBringupCtl 0 0) s = false ∨ mayStartStep n s = false);
      decide ((closed 5))) = true
    ∧ (let path : Path := .host;
      let s : State := State.reset;
      let s : State := bringState 6 true s;
      let runs := fun (n : Nat) => bringStep s = n ∧ bringBusy s = true ∧ s.m.bring.outcome = none;
      let begins := fun (n : Nat) => bringBusy s = false ∧ rwlOpen .module path (regOffset .module .glbBringupCtl 0 0) s = true ∧ mayStartStep n s = true;
      decide (((runs 6 ∨ begins 6)))) = true
    ∧ (let path : Path := .host;
      let s : State := State.reset;
      let s : State := bringState 5 false s;
      let runs := fun (n : Nat) => bringStep s = n ∧ bringBusy s = true ∧ s.m.bring.outcome = none;
      let begins := fun (n : Nat) => bringBusy s = false ∧ rwlOpen .module path (regOffset .module .glbBringupCtl 0 0) s = true ∧ mayStartStep n s = true;
      decide (((runs 6 ∨ begins 6)))) = true
    ∧ (let path : Path := .host;
      let s : State := State.reset;
      let s : State := s;
      let closed := fun (n : Nat) => bringBusy s = false ∧ (rwlOpen .module path (regOffset .module .glbBringupCtl 0 0) s = false ∨ mayStartStep n s = false);
      decide ((closed 6))) = true
    ∧ (let path : Path := .host;
      let s : State := State.reset;
      let s : State := bringState 7 true s;
      let runs := fun (n : Nat) => bringStep s = n ∧ bringBusy s = true ∧ s.m.bring.outcome = none;
      let begins := fun (n : Nat) => bringBusy s = false ∧ rwlOpen .module path (regOffset .module .glbBringupCtl 0 0) s = true ∧ mayStartStep n s = true;
      decide (((runs 7 ∨ begins 7)))) = true
    ∧ (let path : Path := .host;
      let s : State := State.reset;
      let s : State := bringState 7 true s;
      let runs := fun (n : Nat) => bringStep s = n ∧ bringBusy s = true ∧ s.m.bring.outcome = none;
      let begins := fun (n : Nat) => bringBusy s = false ∧ rwlOpen .module path (regOffset .module .glbBringupCtl 0 0) s = true ∧ mayStartStep n s = true;
      decide (((runs 7 ∨ begins 7)))) = true
    ∧ (let path : Path := .host;
      let s : State := State.reset;
      let s : State := bringState 6 false s;
      let runs := fun (n : Nat) => bringStep s = n ∧ bringBusy s = true ∧ s.m.bring.outcome = none;
      let begins := fun (n : Nat) => bringBusy s = false ∧ rwlOpen .module path (regOffset .module .glbBringupCtl 0 0) s = true ∧ mayStartStep n s = true;
      decide (((runs 7 ∨ begins 7)))) = true
    ∧ (let path : Path := .host;
      let s : State := State.reset;
      let s : State := s;
      let closed := fun (n : Nat) => bringBusy s = false ∧ (rwlOpen .module path (regOffset .module .glbBringupCtl 0 0) s = false ∨ mayStartStep n s = false);
      decide ((closed 7))) = true
    ∧ (let path : Path := .host;
      let s : State := State.reset;
      let s : State := bringState 8 true s;
      let runs := fun (n : Nat) => bringStep s = n ∧ bringBusy s = true ∧ s.m.bring.outcome = none;
      let begins := fun (n : Nat) => bringBusy s = false ∧ rwlOpen .module path (regOffset .module .glbBringupCtl 0 0) s = true ∧ mayStartStep n s = true;
      (fun reported => decide (((runs 8 ∨ begins 8)) ∧ (((List.range 8).all fun c => reported.contains c) = false))) ([0, 1])) = true
    ∧ (let path : Path := .host;
      let s : State := State.reset;
      let s : State := bringState 8 true s;
      let runs := fun (n : Nat) => bringStep s = n ∧ bringBusy s = true ∧ s.m.bring.outcome = none;
      let begins := fun (n : Nat) => bringBusy s = false ∧ rwlOpen .module path (regOffset .module .glbBringupCtl 0 0) s = true ∧ mayStartStep n s = true;
      (fun reported => decide (((runs 8 ∨ begins 8)) ∧ (((List.range 8).all fun c => reported.contains c) = true))) ([0, 1, 2, 3, 4, 5, 6, 7])) = true
    ∧ (let path : Path := .host;
      let s : State := State.reset;
      let s : State := s;
      let closed := fun (n : Nat) => bringBusy s = false ∧ (rwlOpen .module path (regOffset .module .glbBringupCtl 0 0) s = false ∨ mayStartStep n s = false);
      decide ((closed 8))) = true
    ∧ (let path : Path := .host;
      let s : State := State.reset;
      let s : State := bringState 9 true s;
      let runs := fun (n : Nat) => bringStep s = n ∧ bringBusy s = true ∧ s.m.bring.outcome = none;
      let begins := fun (n : Nat) => bringBusy s = false ∧ rwlOpen .module path (regOffset .module .glbBringupCtl 0 0) s = true ∧ mayStartStep n s = true;
      decide (((runs 9 ∨ begins 9)) ∧ (isModuleEid (s.myEid .module) = false))) = true
    ∧ (let path : Path := .host;
      let s : State := State.reset;
      let s : State := (bringState 9 true (s.wr .module Fld.glbEidEid 0 0x40005)).wrb .module Fld.lnkCtlEnable 3 true;
      let runs := fun (n : Nat) => bringStep s = n ∧ bringBusy s = true ∧ s.m.bring.outcome = none;
      let begins := fun (n : Nat) => bringBusy s = false ∧ rwlOpen .module path (regOffset .module .glbBringupCtl 0 0) s = true ∧ mayStartStep n s = true;
      decide (((runs 9 ∨ begins 9)) ∧ (isModuleEid (s.myEid .module) = true))) = true
    ∧ (let path : Path := .host;
      let s : State := State.reset;
      let s : State := (bringState 8 false (s.wr .module Fld.glbEidEid 0 0x40005)).wrb .module Fld.lnkCtlEnable 3 true;
      let runs := fun (n : Nat) => bringStep s = n ∧ bringBusy s = true ∧ s.m.bring.outcome = none;
      let begins := fun (n : Nat) => bringBusy s = false ∧ rwlOpen .module path (regOffset .module .glbBringupCtl 0 0) s = true ∧ mayStartStep n s = true;
      decide (((runs 9 ∨ begins 9)) ∧ (isModuleEid (s.myEid .module) = true))) = true
    ∧ (let path : Path := .host;
      let s : State := State.reset;
      let s : State := s;
      let closed := fun (n : Nat) => bringBusy s = false ∧ (rwlOpen .module path (regOffset .module .glbBringupCtl 0 0) s = false ∨ mayStartStep n s = false);
      decide ((closed 9))) = true
    ∧ (let path : Path := .host;
      let s : State := State.reset;
      let s : State := bringState 10 true s;
      let runs := fun (n : Nat) => bringStep s = n ∧ bringBusy s = true ∧ s.m.bring.outcome = none;
      let begins := fun (n : Nat) => bringBusy s = false ∧ rwlOpen .module path (regOffset .module .glbBringupCtl 0 0) s = true ∧ mayStartStep n s = true;
      decide (((runs 10 ∨ begins 10)))) = true
    ∧ (let path : Path := .host;
      let s : State := State.reset;
      let s : State := (bringState 10 true s).wr .module Fld.topStatusState 0 2;
      let runs := fun (n : Nat) => bringStep s = n ∧ bringBusy s = true ∧ s.m.bring.outcome = none;
      let begins := fun (n : Nat) => bringBusy s = false ∧ rwlOpen .module path (regOffset .module .glbBringupCtl 0 0) s = true ∧ mayStartStep n s = true;
      decide (((runs 10 ∨ begins 10)))) = true
    ∧ (let path : Path := .host;
      let s : State := State.reset;
      let s : State := s;
      let closed := fun (n : Nat) => bringBusy s = false ∧ (rwlOpen .module path (regOffset .module .glbBringupCtl 0 0) s = false ∨ mayStartStep n s = false);
      decide ((closed 10))) = true
    ∧ (let path : Path := .host;
      let s : State := State.reset;
      let s : State := bringState 10 false s;
      let runs := fun (n : Nat) => bringStep s = n ∧ bringBusy s = true ∧ s.m.bring.outcome = none;
      let begins := fun (n : Nat) => bringBusy s = false ∧ rwlOpen .module path (regOffset .module .glbBringupCtl 0 0) s = true ∧ mayStartStep n s = true;
      decide (((runs 11 ∨ begins 11)))) = true
    ∧ (let path : Path := .host;
      let s : State := State.reset;
      let s : State := s;
      let closed := fun (n : Nat) => bringBusy s = false ∧ (rwlOpen .module path (regOffset .module .glbBringupCtl 0 0) s = false ∨ mayStartStep n s = false);
      decide ((closed 11))) = true := by decide +kernel

theorem met_BringUpStepsEndAndUnload :
    (let s : State := State.reset;
      let s : State := bringState 1 false s;
      decide ((bringStep s = 1) ∧ (bringBusy s = false) ∧ (bringFail s = false))) = true
    ∧ (let s : State := State.reset;
      let s : State := bringState 1 false s;
      decide ((bringStep s = 1) ∧ (bringBusy s = false) ∧ (bringFail s = false))) = true
    ∧ (let s : State := State.reset;
      let s : State := bringState 3 false s;
      decide ((bringStep s ≠ 1 ∨ bringBusy s = true ∨ bringFail s = true))) = true
    ∧ (let s : State := State.reset;
      let s : State := bringState 3 false s;
      decide ((bringBusy s = false))) = true
    ∧ (let s : State := State.reset;
      let s : State := (bringState 5 true s).onM fun m => { m with bring := { m.bring with outcome := some none } };
      decide ((bringBusy s = true) ∧ (s.m.bring.outcome = some none))) = true
    ∧ (let s : State := State.reset;
      let s : State := (bringState 5 true s).onM fun m => { m with bring := { m.bring with outcome := some (some 5) } };
      (fun (st : Status) => decide ((bringBusy s = true) ∧ (s.m.bring.outcome = some (some st)))) (5)) = true
    ∧ (let s : State := State.reset;
      let s : State := (bringState 10 true s).wr .module Fld.topStatusState 0 2;
      decide ((bringBusy s = true) ∧ (s.m.bring.outcome = none) ∧ (((bringStep s = 9 ∧ lanesSettled s = true) ∨ (bringStep s = 10 ∧ topLocked s = true))))) = true
    ∧ (let s : State := State.reset;
      let s : State := (bringState 2 true s).onM fun m => { m with pci := { m.pci with memEnable := true, busMaster := true } };
      decide ((bringBusy s = true) ∧ (s.m.bring.outcome = none) ∧ (bringStep s = 2) ∧ (s.m.pci.memEnable = true) ∧ (s.m.pci.busMaster = true))) = true
    ∧ (let s : State := State.reset;
      let s : State := bringState 10 true s;
      decide ((bringBusy s = true) ∧ (s.m.bring.outcome = none) ∧ (((bringStep s = 9 ∧ lanesSettled s = false) ∨ (bringStep s = 10 ∧ topLocked s = false)
      ∨ (bringStep s ≠ 2 ∧ bringStep s ≠ 9 ∧ bringStep s ≠ 10))))) = true
    ∧ (let s : State := State.reset;
      let s : State := bringState 5 false s;
      decide (((bringBusy s = false ∨ bringStep s < 3)))) = true
    ∧ (let s : State := State.reset;
      let s : State := bringState 5 true s;
      decide ((bringBusy s = true) ∧ (3 ≤ bringStep s) ∧ (s.m.bring.outcome = none) ∧ (bringStep s ≠ 9) ∧ (bringStep s ≠ 10))) = true
    ∧ (let s : State := State.reset;
      let s : State := bringState 9 true s;
      decide ((bringBusy s = true) ∧ (s.m.bring.outcome = none) ∧ (bringStep s = 9))) = true
    ∧ (let s : State := State.reset;
      let s : State := bringState 10 true s;
      decide ((bringBusy s = true) ∧ (s.m.bring.outcome = none) ∧ (bringStep s = 10))) = true
    ∧ (let s : State := State.reset;
      let s : State := bringState 9 true s;
      decide (((bringBusy s = true ∨ s.m.tile.migration.isSome = true)))) = true
    ∧ (let s : State := State.reset;
      let s : State := bringState 3 false s;
      decide ((bringBusy s = false) ∧ (s.m.tile.migration = none) ∧ (bringStep s < 4))) = true
    ∧ (let s : State := State.reset;
      let s : State := (leafState (bringState 11 false s)).wr .module Fld.lnkStatusState 3 8;
      decide ((bringBusy s = false) ∧ (s.m.tile.migration = none) ∧ (4 ≤ bringStep s))) = true := by decide +kernel

theorem met_TilesRetireAndChangeRole :
    (let k : Nat := 5;
      let s : State := State.reset;
      let s : State := tileState 7 8 s;
      decide ((tileServes k s = false))) = true
    ∧ (let k : Nat := 5;
      let s : State := State.reset;
      let s : State := (tileState 5 8 s).wr .module Fld.tilCtlCeThresh 0 64;
      let serves := tileServes k s = true;
      (fun n => decide ((serves) ∧ (s.module.xpt.finished = []) ∧ (n < s.rd .module Fld.tilCtlCeThresh))) (9)) = true
    ∧ (let k : Nat := 5;
      let s : State := State.reset;
      let s : State := (tileState 5 8 s).wrb .module Fld.tilCtlAutoRetire 0 false;
      let serves := tileServes k s = true;
      (fun n => decide ((serves) ∧ (s.rd .module Fld.tilCtlCeThresh ≤ n) ∧ (s.rdb .module Fld.tilCtlAutoRetire = false))) (90)) = true
    ∧ (let k : Nat := 5;
      let s : State := State.reset;
      let s : State := (tileState 5 8 s).wrb .module Fld.tilCtlAutoRetire 0 true;
      let serves := tileServes k s = true;
      let late := tilesServe s = true;
      let still := (migrationOf k s).isNone = true;
      (fun n p => decide ((serves) ∧ (s.rd .module Fld.tilCtlCeThresh ≤ n) ∧ (s.rdb .module Fld.tilCtlAutoRetire = true) ∧ (late) ∧ (still) ∧ (freePhys k s = some p))) (900) (33)) = true
    ∧ (let k : Nat := 5;
      let s : State := State.reset;
      let s : State := (tileState 5 4 s).wrb .module Fld.tilCtlAutoRetire 0 true;
      let serves := tileServes k s = true;
      (fun n => decide ((serves) ∧ (s.rd .module Fld.tilCtlCeThresh ≤ n) ∧ (s.rdb .module Fld.tilCtlAutoRetire = true) ∧ (tilesServe s = false) ∧ (3 ≤ bringStep s))) (900)) = true
    ∧ (let k : Nat := 5;
      let s : State := State.reset;
      let s : State := tileState 7 8 s;
      decide ((tileServes k s = false))) = true
    ∧ (let k : Nat := 5;
      let s : State := State.reset;
      let s : State := (tileState 5 8 s).wr .module Fld.tilCtlUeThresh 0 3;
      let serves := tileServes k s = true;
      let still := (migrationOf k s).isNone = true;
      decide ((serves) ∧ (s.rd .module Fld.tilMapUeCnt k + 1 < s.rd .module Fld.tilCtlUeThresh) ∧ (s.m.tile.deferred.contains k = false) ∧ (still))) = true
    ∧ (let k : Nat := 5;
      let s : State := State.reset;
      let s : State := tileState 5 8 s;
      let serves := tileServes k s = true;
      let late := tilesServe s = true;
      let still := (migrationOf k s).isNone = true;
      (fun p => decide ((serves) ∧ (late) ∧ (still) ∧ (freePhys k s = some p) ∧ (tileRole k s = 5) ∧ (p ≠ physOf k s))) (33)) = true
    ∧ (let k : Nat := 5;
      let s : State := State.reset;
      let s : State := (tileState 5 8 s).wr .module Fld.tilPhysRole 33 2;
      let serves := tileServes k s = true;
      let late := tilesServe s = true;
      let still := (migrationOf k s).isNone = true;
      decide ((serves) ∧ (late) ∧ (still) ∧ (freePhys k s = none) ∧ (tileRole k s = 5) ∧ (s.m.tile.change = none))) = true
    ∧ (let k : Nat := 5;
      let s : State := State.reset;
      let s : State := tileState 5 8 s;
      let serves := tileServes k s = true;
      let still := (migrationOf k s).isNone = true;
      decide ((serves) ∧ (still))) = true
    ∧ (let k : Nat := 5;
      let s : State := State.reset;
      let s : State := tileState 5 8 s;
      let free := s.rdb .module Fld.jigRoleStatusBusy = false;
      let serves := tileServes k s = true;
      let late := tilesServe s = true;
      let still := (migrationOf k s).isNone = true;
      (fun p => decide ((free) ∧ (serves) ∧ (late) ∧ (still) ∧ (freePhys k s = some p))) (33)) = true
    ∧ (let k : Nat := 5;
      let s : State := State.reset;
      let s : State := (tileState 5 8 s).wr .module Fld.tilPhysRole 33 2;
      let free := s.rdb .module Fld.jigRoleStatusBusy = false;
      let serves := tileServes k s = true;
      let late := tilesServe s = true;
      let still := (migrationOf k s).isNone = true;
      decide ((free) ∧ (serves) ∧ (late) ∧ (still) ∧ (freePhys k s = none) ∧ (tileRole k s = 5) ∧ (s.m.tile.change = none))) = true
    ∧ (let k : Nat := 5;
      let s : State := State.reset;
      let s : State := tileState 7 8 s;
      let free := s.rdb .module Fld.jigRoleStatusBusy = false;
      decide ((free) ∧ (tileServes k s = false))) = true
    ∧ (let k : Nat := 5;
      let s : State := State.reset;
      let s : State := tileState 5 4 s;
      let free := s.rdb .module Fld.jigRoleStatusBusy = false;
      let serves := tileServes k s = true;
      decide ((free) ∧ (serves) ∧ (3 ≤ bringStep s) ∧ (tilesServe s = false))) = true
    ∧ (let s : State := State.reset;
      let s : State := (tileState 5 4 s).wrb .module Fld.jigRoleStatusBusy 0 true;
      decide ((s.rdb .module Fld.jigRoleStatusBusy = true))) = true
    ∧ (let s : State := State.reset;
      let s : State := tileState 5 8 s;
      decide ((s.m.tile.migration = none))) = true
    ∧ (let k : Nat := 5;
      let s : State := State.reset;
      let s : State := (tileState 5 8 s).onM fun m => { m with tile := { m.tile with migration := some { tile := 5, phys := 33, command := true } } };
      (fun p => decide ((s.m.tile.migration.map (fun x => (x.tile, x.phys, x.command)) = some (k, p, true)) ∧ (k < 2048) ∧ (p < 2176) ∧ (p ≠ physOf k s) ∧ (s.m.tile.waiting = []))) (33)) = true
    ∧ (let k : Nat := 5;
      let s : State := State.reset;
      let s : State := tileState 7 8 s;
      let free := s.rdb .module Fld.jigRoleStatusBusy = false;
      decide ((free) ∧ (tileServes k s = false))) = true
    ∧ (let k : Nat := 5;
      let s : State := State.reset;
      let s : State := (tileState 0 8 s).wr .module Fld.mrnStatusSlotsTotal 0 8;
      let free := s.rdb .module Fld.jigRoleStatusBusy = false;
      let serves := tileServes k s = true;
      decide ((free) ∧ (serves) ∧ (tileRole k s = 0) ∧ (s.rd .module Fld.mrnStatusSlotsTotal < s.rd .module Fld.mrnStatusSlotsReserved + 12))) = true
    ∧ (let k : Nat := 5;
      let s : State := State.reset;
      let s : State := tileState 5 8 s;
      let free := s.rdb .module Fld.jigRoleStatusBusy = false;
      let serves := tileServes k s = true;
      decide ((free) ∧ (serves) ∧ (1 < tileRole k s))) = true
    ∧ (let k : Nat := 5;
      let s : State := State.reset;
      let s : State := tileState 5 8 s;
      let free := s.rdb .module Fld.jigRoleStatusBusy = false;
      decide ((free) ∧ (k < 2048) ∧ (tileRole k s = 5) ∧ (physOf k s < 2176) ∧ (roleCount 5 s ≠ 0))) = true
    ∧ (let k : Nat := 5;
      let s : State := State.reset;
      let s : State := tileState 4 8 s;
      let free := s.rdb .module Fld.jigRoleStatusBusy = false;
      decide ((free) ∧ (tileRole k s ≠ 5))) = true
    ∧ (let k : Nat := 5;
      let s : State := State.reset;
      let s : State := tileState 5 8 s;
      let free := s.rdb .module Fld.jigRoleStatusBusy = false;
      (fun r => decide ((free) ∧ (k < 2048) ∧ (tileRole k s = 5) ∧ (1 < r))) (2)) = true
    ∧ (let s : State := State.reset;
      let s : State := (tileState 5 4 s).wrb .module Fld.jigRoleStatusBusy 0 true;
      decide ((s.rdb .module Fld.jigRoleStatusBusy = true))) = true
    ∧ (let s : State := State.reset;
      let s : State := (tileState 0 8 s).onM fun m => { m with tile := { m.tile with change := some { tile := 5, role := 5 } } };
      decide ((slotsWithheld s = 12))) = true
    ∧ (let s : State := State.reset;
      let s : State := tileState 5 8 s;
      decide ((slotsWithheld s ≠ 12))) = true := by decide +kernel

theorem met_TimeMessagesAreExchanged :
    (let pkt : Packet := testPacket 1 0x14 0x280 0x40005;
      decide ((pkt.opcode ≠ 0x10))) = true
    ∧ (let pkt : Packet := testPacket 1 0x14 0x280 0x40005;
      decide ((pkt.opcode ≠ 0x11))) = true
    ∧ (let pkt : Packet := testPacket 1 0x14 0x280 0x40005;
      decide ((pkt.opcode ≠ 0x12))) = true
    ∧ (let pkt : Packet := testPacket 1 0x14 0x280 0x40005;
      decide ((pkt.opcode ≠ 0x13))) = true
    ∧ (let pkt : Packet := { timePkt 0x10 0 3 with pchk := 5 };
      decide ((pkt.opcode = 0x10) ∧ (pchkGood pkt = false))) = true
    ∧ (let pkt : Packet := { timePkt 0x11 0 3 with pchk := 5 };
      decide ((pkt.opcode = 0x11) ∧ (pchkGood pkt = false))) = true
    ∧ (let pkt : Packet := { timePkt 0x12 0 3 with pchk := 5 };
      decide ((pkt.opcode = 0x12) ∧ (pchkGood pkt = false))) = true
    ∧ (let pkt : Packet := { timePkt 0x13 0 3 with pchk := 5 };
      decide ((pkt.opcode = 0x13) ∧ (pchkGood pkt = false))) = true
    ∧ (let pkt : Packet := timePkt 0x10 0 3;
      let ok := pchkGood pkt = true;
      decide ((pkt.opcode = 0x10) ∧ (ok))) = true
    ∧ (let pkt : Packet := timePkt 0x10 0 3;
      let ok := pchkGood pkt = true;
      decide ((pkt.opcode = 0x10) ∧ (ok))) = true
    ∧ (let p : Nat := 3;
      let pkt : Packet := timePkt 0x10 0 3;
      let s : State := State.reset;
      let s : State := followState s;
      let ok := pchkGood pkt = true;
      let lone := topRole s = 0 ∧ parents s = [p];
      decide ((pkt.opcode = 0x10) ∧ (ok) ∧ (lone) ∧ ((packetFlags pkt).testBit 1 = true) ∧ (topPaused s = false) ∧ (topState s = 0))) = true
    ∧ (let pkt : Packet := timePkt 0x10 0 3;
      let s : State := State.reset;
      let s : State := s.onUnit .endpoint fun u => { u with sync := { u.sync with source := none } };
      let ok := pchkGood pkt = true;
      decide ((pkt.opcode = 0x10) ∧ (ok) ∧ ((packetFlags pkt).testBit 0 = true) ∧ ((packetFlags pkt).testBit 1 = true) ∧ (s.endpoint.sync.source = none))) = true
    ∧ (let p : Nat := 3;
      let pkt : Packet := timePkt 0x11 (5 * 2 ^ 40) 0;
      let s : State := State.reset;
      let s : State := timedState .module s;
      let ok := pchkGood pkt = true;
      let ex := fun (sd : Side) (t : State) => exchange sd p t;
      (fun (sd : Side) => decide ((pkt.opcode = 0x11) ∧ (ok) ∧ ((ex sd s).seq = packetSeq pkt) ∧ ((ex sd s).t2.isSome = true))) (.module)) = true
    ∧ (let p : Nat := 3;
      let pkt : Packet := timePkt 0x11 (5 * 2 ^ 40) 0;
      let s : State := State.reset;
      let s : State := s.onUnit .module fun u => { u with sync := { u.sync with exchanges := [] } };
      let ok := pchkGood pkt = true;
      let ex := fun (sd : Side) (t : State) => exchange sd p t;
      (fun (sd : Side) => decide ((pkt.opcode = 0x11) ∧ (ok) ∧ (((ex sd s).seq ≠ packetSeq pkt ∨ (ex sd s).t2 = none)))) (.module)) = true
    ∧ (let pkt : Packet := timePkt 0x12 0 0;
      let ok := pchkGood pkt = true;
      decide ((pkt.opcode = 0x12) ∧ (ok))) = true
    ∧ (let p : Nat := 3;
      let pkt : Packet := timePkt 0x13 (5 * 2 ^ 40) 0;
      let s : State := State.reset;
      let s : State := (followState (timedState .module s)).wr .module Fld.topCtlStepThresh 0 1000;
      let ok := pchkGood pkt = true;
      let ex := fun (sd : Side) (t : State) => exchange sd p t;
      (fun t1 t2 t3 => decide ((pkt.opcode = 0x13) ∧ (ok) ∧ ((ex .module s).t1 = some t1) ∧ ((ex .module s).t2 = some t2) ∧ ((ex .module s).req = some (packetSeq pkt, t3)) ∧ (topPaused s = false) ∧ (p ∈ parents s) ∧ (topRole s = 0) ∧ (s.module.sync.source = some p))) (2 ^ 30) (2 ^ 30 + 4096) (2 ^ 31)) = true
    ∧ (let p : Nat := 3;
      let pkt : Packet := timePkt 0x13 (2 ^ 31 + 8192) 0;
      let s : State := State.reset;
      let s : State := (followState (timedState .module s)).wr .module Fld.topCtlStepThresh 0 1000;
      let ok := pchkGood pkt = true;
      let ex := fun (sd : Side) (t : State) => exchange sd p t;
      (fun t1 t2 t3 => decide ((pkt.opcode = 0x13) ∧ (ok) ∧ ((ex .module s).t1 = some t1) ∧ ((ex .module s).t2 = some t2) ∧ ((ex .module s).req = some (packetSeq pkt, t3)) ∧ (topPaused s = false) ∧ (p ∈ parents s) ∧ (topRole s = 0) ∧ (s.module.sync.source = some p))) (2 ^ 30) (2 ^ 30 + 4096) (2 ^ 31)) = true
    ∧ (let p : Nat := 3;
      let pkt : Packet := timePkt 0x13 (5 * 2 ^ 40) 0;
      let s : State := State.reset;
      let s : State := timedState .endpoint s;
      let ok := pchkGood pkt = true;
      let ex := fun (sd : Side) (t : State) => exchange sd p t;
      (fun t1 t2 t3 => decide ((pkt.opcode = 0x13) ∧ (ok) ∧ ((ex .endpoint s).t1 = some t1) ∧ ((ex .endpoint s).t2 = some t2) ∧ ((ex .endpoint s).req = some (packetSeq pkt, t3)) ∧ (s.endpoint.sync.source = some p))) (2 ^ 30) (2 ^ 30 + 4096) (2 ^ 31)) = true
    ∧ (let p : Nat := 3;
      let pkt : Packet := timePkt 0x13 (5 * 2 ^ 40) 0;
      let s : State := State.reset;
      let s : State := s.onUnit .module fun u => { u with sync := { u.sync with exchanges := [] } };
      let ok := pchkGood pkt = true;
      let ex := fun (sd : Side) (t : State) => exchange sd p t;
      (fun (sd : Side) => decide ((pkt.opcode = 0x13) ∧ (ok) ∧ (((ex sd s).t1 = none ∨ (ex sd s).t2 = none ∨ (ex sd s).req.map (·.1) ≠ some (packetSeq pkt))))) (.module)) = true
    ∧ (let p : Nat := 3;
      let s : State := State.reset;
      let s : State := followState (leafState s);
      decide ((p < 1024) ∧ (portUp .module p s = true))) = true
    ∧ (let p : Nat := 3;
      let s : State := State.reset;
      let s : State := (s.wr .endpoint Fld.prtStatusState 3 2).wr .endpoint Fld.prtStatusActiveMask 3 1;
      decide ((p ∈ leafPorts s))) = true := by decide +kernel

theorem met_TopFollowsItsSources :
    (let s : State := State.reset;
      let s : State := (rootState 2 s).wr .module Fld.topCtlStepThresh 0 1000;
      decide ((topRole s = 1) ∧ (s.m.top.atPps = false) ∧ (topPaused s = false))) = true
    ∧ (let s : State := State.reset;
      let s : State := (rootState 1 s).wr .module Fld.topCtlStepThresh 0 1000;
      decide ((topRole s = 1) ∧ (s.m.top.atPps = false) ∧ (topPaused s = false))) = true
    ∧ (let stamp : Nat := 3 * 2 ^ 60;
      let s : State := State.reset;
      let s : State := (((rootState 2 s).wr .module Fld.telBgCtlPause 0 8).wr .module Fld.telPolicyActive 0 0).onM fun m => { m with top := { m.top with atPps := true } };
      let thresh := s.rd .module Fld.topCtlStepThresh * 65536;
      decide ((topRole s = 1) ∧ (s.m.top.atPps = true) ∧ (thresh ≤ (timeDiff stamp (s.rd .module Fld.topSetNs * 65536)).natAbs) ∧ (mayStepBack .module s = true) ∧ (topPaused s = true))) = true
    ∧ (let s : State := State.reset;
      let s : State := rootState 2 s;
      decide ((topRole s ≠ 3))) = true
    ∧ (let s : State := State.reset;
      let s : State := rootState 2 s;
      decide ((topRole s = 1) ∧ (topState s = 2) ∧ (s.rdb .module Fld.topCtlFreeRoot = false))) = true
    ∧ (let s : State := State.reset;
      let s : State := twoParents 2 (s.wrb .module Fld.topCtlParent1Valid 0 false) false;
      (fun p => decide ((topRole s = 0) ∧ (topState s = 2) ∧ (parents s = [p]) ∧ ((s.module.sync.exchanges.map (·.1)).Nodup))) (3)) = true
    ∧ (let s : State := State.reset;
      let s : State := twoParents 2 s true;
      (fun p q => decide ((topRole s = 0) ∧ (topState s = 2) ∧ (parents s = [p, q]) ∧ (p ≠ q) ∧ (portLocked .module q s = true) ∧ ((s.module.sync.exchanges.map (·.1)).Nodup))) (3) (5)) = true
    ∧ (let s : State := State.reset;
      let s : State := rootState 1 s;
      decide ((topState s ≠ 3))) = true
    ∧ (let s : State := State.reset;
      let s : State := rootState 3 s;
      decide ((topState s = 3) ∧ (topPaused s = false))) = true
    ∧ (let s : State := State.reset;
      let s : State := ((((rootState 3 s).wr .module Fld.telBgCtlPause 0 8).wr .module Fld.telPolicyActive 0 0).wrb .module Fld.topStatusExtOk 0 false);
      decide ((topState s = 3) ∧ (topPaused s = true) ∧ ((s.rd .module Fld.telBgCtlPause).testBit 3 = true) ∧ (anySource s = false))) = true
    ∧ (let s : State := State.reset;
      let s : State := (((rootState 3 s).wr .module Fld.topSetNs 0 (2 ^ 50)).wr .module Fld.topCtlBackStep 0 1);
      let thresh := s.rd .module Fld.topCtlStepThresh * 65536;
      let setOff := timeDiff s.module.time (s.rd .module Fld.topSetNs * 65536);
      decide ((thresh ≤ setOff.natAbs) ∧ ((setOff < 0 ∨ mayStepBack .module s = true)))) = true
    ∧ (let s : State := State.reset;
      let s : State := (((rootState 3 s).wr .module Fld.topSetNs 0 (s.module.time / 65536)).wr .module Fld.topCtlStepThresh 0 1000);
      let thresh := s.rd .module Fld.topCtlStepThresh * 65536;
      let setOff := timeDiff s.module.time (s.rd .module Fld.topSetNs * 65536);
      decide (((setOff.natAbs < thresh ∨ (0 ≤ setOff ∧ mayStepBack .module s = false))))) = true
    ∧ (let s : State := State.reset;
      let s : State := standbyState s;
      decide ((topRole s = 3) ∧ (s.rdb .module Fld.topCtlAutoGm = true) ∧ (s.rdb .module Fld.topStatusPeerPpsOk = false) ∧ (s.m.top.gmTaken = false))) = true
    ∧ (let s : State := State.reset;
      let s : State := rootState 1 s;
      decide (((topRole s ≠ 3 ∨ s.rdb .module Fld.topCtlAutoGm = false ∨ s.rdb .module Fld.topStatusPeerPpsOk = true ∨ s.m.top.gmTaken = true)))) = true
    ∧ (let s : State := State.reset;
      let s : State := s.onUnit .endpoint fun u => { u with sync := { u.sync with exchanges := [(2, { flags := 3 }), (5, { flags := 2 })] } };
      (fun p => decide (((∀ x ∈ s.endpoint.sync.exchanges, x.2.flags.testBit 1 = true → x.2.flags.testBit 0 = false → x.1 = p)) ∧ ((s.endpoint.sync.exchanges.any fun x => x.2.flags.testBit 1 && !x.2.flags.testBit 0) = true))) (5)) = true
    ∧ (let s : State := State.reset;
      let s : State := (s.onE fun e => { e with ftValid := true }).onUnit .endpoint fun u => { u with sync := { u.sync with source := none } };
      decide ((s.e.ftValid = true) ∧ (s.endpoint.sync.source = none))) = true
    ∧ (let s : State := State.reset;
      let s : State := s.onE fun e => { e with ftValid := false };
      decide (((s.e.ftValid = false ∨ s.endpoint.sync.source.isSome = true)))) = true := by decide +kernel

theorem met_LeafGrantsAndStages :
    (let s : State := State.reset;
      let s : State := s.wr .module Fld.secOwnHeld 0 65535;
      (fun (path : Path) => decide ((rwlOpen .module path (regOffset .module .pwrCapCtl 0 0) s = false))) (.host)) = true
    ∧ (let s : State := State.reset;
      let s : State := powerLeaf s;
      let opens := fun (path : Path) => rwlOpen .module path (regOffset .module .pwrCapCtl 0 0) s = true;
      (fun (path : Path) => decide ((opens path))) (.host)) = true
    ∧ (let s : State := State.reset;
      let s : State := powerLeaf s;
      let leaf := s.isLeaf = true;
      let opens := fun (path : Path) => rwlOpen .module path (regOffset .module .pwrCapCtl 0 0) s = true;
      (fun (path : Path) (v : Word) => decide ((opens path) ∧ (leaf) ∧ (v.getLsbD 1 = true) ∧ (v.getLsbD 2 = false))) (.host) (0x0320000C80000002)) = true
    ∧ (let s : State := State.reset;
      let s : State := s.wrb .module Fld.glbRoleValid 0 false;
      decide ((s.isLeaf = false))) = true
    ∧ (let s : State := State.reset;
      let s : State := ((powerLeaf s).wrb .module Fld.pwrCapCtlStageEn 0 false).wrb .module Fld.pwrStatusStaging 0 false;
      let leaf := s.isLeaf = true;
      let grantEn := s.rdb .module Fld.pwrCapCtlGrantEn = true;
      decide ((leaf) ∧ (grantEn) ∧ (s.rdb .module Fld.pwrCapCtlStageEn = false) ∧ (s.rdb .module Fld.pwrStatusStaging = false))) = true
    ∧ (let s : State := State.reset;
      let s : State := (powerLeaf s).wrb .module Fld.pwrStatusStaging 0 true;
      let leaf := s.isLeaf = true;
      decide ((leaf) ∧ (s.rdb .module Fld.pwrStatusStaging = true) ∧ (floorHolds s = false))) = true
    ∧ (let s : State := State.reset;
      let s : State := s.wrb .module Fld.glbRoleValid 0 false;
      decide (((s.isLeaf = false ∨ s.rdb .module Fld.pwrCapCtlGrantEn = false)))) = true
    ∧ (let s : State := State.reset;
      let s : State := powerLeaf s;
      let leaf := s.isLeaf = true;
      let grantEn := s.rdb .module Fld.pwrCapCtlGrantEn = true;
      decide ((leaf) ∧ (grantEn))) = true
    ∧ (let s : State := State.reset;
      let s : State := s.wrb .module Fld.pwrStatusStaging 0 false;
      decide ((s.rdb .module Fld.pwrStatusStaging = false))) = true
    ∧ (let s : State := State.reset;
      let s : State := ((powerLeaf s).wrb .module Fld.pwrStatusStaging 0 true).onM fun m => { m with power := { m.power with target := [(0, 220), (1, 300)] } };
      let leaf := s.isLeaf = true;
      let grantEn := s.rdb .module Fld.pwrCapCtlGrantEn = true;
      decide ((s.rdb .module Fld.pwrStatusStaging = true) ∧ (leaf) ∧ (grantEn) ∧ ((s.m.power.target.map fun x => x.1).Nodup) ∧ (stageSum (sentSum s : Nat) (grantSum s.m.power.target : Nat) = ((grantSum s.m.power.target : Nat) : Rat)))) = true
    ∧ (let s : State := State.reset;
      let s : State := ((powerLeaf s).wrb .module Fld.pwrStatusStaging 0 true).onM fun m => { m with power := { m.power with target := [(0, 20), (1, 10)] } };
      decide ((s.rdb .module Fld.pwrStatusStaging = true) ∧ (stageSum (sentSum s : Nat) (grantSum s.m.power.target : Nat) ≠ ((grantSum s.m.power.target : Nat) : Rat)))) = true
    ∧ ((fun pkt => decide ((pkt.opcode ≠ 6))) (testPacket 0 7 0x280 0x40005)) = true
    ∧ ((fun pkt => decide ((pkt.opcode = 6) ∧ (pchkGood pkt = false))) ({ testPacket 0 6 0x40005 0x280 with pchk := 7 })) = true
    ∧ (let s : State := State.reset;
      let s : State := powerLeaf s;
      let leaf := s.isLeaf = true;
      (fun p pkt => decide ((pkt.opcode = 6) ∧ (pchkGood pkt = true) ∧ (leaf) ∧ (s.rd .module Fld.rteSlotPort (eidSlot pkt.src) = p) ∧ (s.rdb .module Fld.rteSlotValid (eidSlot pkt.src) = true))) (3) (testPacket 0 6 0x280 0x40005)) = true
    ∧ (let s : State := State.reset;
      let s : State := powerLeaf s;
      (fun p pkt => decide ((pkt.opcode = 6) ∧ (pchkGood pkt = true) ∧ ((s.isLeaf = false ∨ s.rd .module Fld.rteSlotPort (eidSlot pkt.src) ≠ p)))) (4) (testPacket 0 6 0x280 0x40005)) = true
    ∧ (let k : Nat := 1;
      let s : State := State.reset;
      let s : State := s.onM fun m => { m with power := { m.power with lowered := [3] } };
      decide ((s.m.power.lowered.contains k = false))) = true
    ∧ (let k : Nat := 1;
      let s : State := State.reset;
      let s : State := (powerLeaf s).wr .module Fld.pwrCtlTol 0 250;
      let listed := s.m.power.lowered.contains k = true;
      decide ((listed) ∧ (slotReport k s ≤ lastGrant k s + 4 * s.rd .module Fld.pwrCtlTol))) = true
    ∧ (let k : Nat := 1;
      let s : State := State.reset;
      let s : State := ((powerLeaf s).wr .module Fld.pwrCtlTol 0 1).wr .module Fld.pwrCtlViolLimit 0 4;
      let listed := s.m.power.lowered.contains k = true;
      let above := lastGrant k s + 4 * s.rd .module Fld.pwrCtlTol < slotReport k s;
      let times := s.now :: (smapGet s.m.power.violations [] k).filter fun t => decide (s.now ≤ t + 10000000);
      decide ((listed) ∧ (above) ∧ (times.length < s.rd .module Fld.pwrCtlViolLimit))) = true
    ∧ (let k : Nat := 1;
      let s : State := State.reset;
      let s : State := (((powerLeaf s).wr .module Fld.pwrCtlTol 0 1).wr .module Fld.pwrCtlViolLimit 0 1).wr .module Fld.pwrEpForcedFloor 1 0;
      let leaf := s.isLeaf = true;
      let grantEn := s.rdb .module Fld.pwrCapCtlGrantEn = true;
      let listed := s.m.power.lowered.contains k = true;
      let above := lastGrant k s + 4 * s.rd .module Fld.pwrCtlTol < slotReport k s;
      let times := s.now :: (smapGet s.m.power.violations [] k).filter fun t => decide (s.now ≤ t + 10000000);
      decide ((listed) ∧ (above) ∧ (s.rd .module Fld.pwrCtlViolLimit ≤ times.length) ∧ (s.rdb .module Fld.pwrEpForcedFloor k = false) ∧ (leaf) ∧ (grantEn))) = true
    ∧ (let s : State := State.reset;
      let s : State := powerLeaf s;
      let leaf := s.isLeaf = true;
      decide ((leaf) ∧ ((s.m.power.violations.map fun x => x.1).Nodup))) = true
    ∧ (let s : State := State.reset;
      let s : State := s.wrb .module Fld.glbRoleValid 0 false;
      decide ((s.isLeaf = false))) = true := by decide +kernel

theorem met_PowerConditionsAndEndpointGrants :
    (let s : State := State.reset;
      let s : State := s.wrb .module Fld.pwrStatusWarnPin 0 false;
      decide ((s.rdb .module Fld.pwrStatusWarnPin = false))) = true
    ∧ (let s : State := State.reset;
      let s : State := s.wrb .module Fld.pwrStatusWarnPin 0 true;
      let pin := s.rdb .module Fld.pwrStatusWarnPin = true;
      decide ((pin))) = true
    ∧ (let s : State := State.reset;
      let s : State := s.wrb .module Fld.pwrStatusWarnPin 0 false;
      decide ((s.rdb .module Fld.pwrStatusWarnPin = false))) = true
    ∧ (let s : State := State.reset;
      let s : State := (s.wrb .module Fld.pwrStatusWarnPin 0 true).wr .module Fld.pwrInputVin 0 36000;
      let pin := s.rdb .module Fld.pwrStatusWarnPin = true;
      decide ((pin) ∧ (31000 ≤ s.rd .module Fld.pwrInputVin))) = true
    ∧ (let s : State := State.reset;
      let s : State := (s.wrb .module Fld.pwrStatusWarnPin 0 true).wr .module Fld.pwrInputVin 0 30500;
      let pin := s.rdb .module Fld.pwrStatusWarnPin = true;
      decide ((pin) ∧ (s.rd .module Fld.pwrInputVin < 31000))) = true
    ∧ (let s : State := State.reset;
      let s : State := s.onM fun m => { m with power := { m.power with uvWarn := false } };
      (fun mv => decide ((mv < 30000) ∧ (s.m.power.uvWarn = false))) (29999)) = true
    ∧ (let s : State := State.reset;
      let s : State := s.wrb .module Fld.glbBringupStatusEnabled 0 false;
      (fun mv => decide ((mv < 28000) ∧ (s.rdb .module Fld.glbBringupStatusEnabled = false))) (27999)) = true
    ∧ ((fun mv => decide ((28000 ≤ mv))) (36000)) = true
    ∧ (let s : State := State.reset;
      let s : State := { s.onM fun m => { m with power := { m.power with uvWarn := true, uvBackAt := some 5 } } with now := 1000005 };
      (fun mv b => decide ((s.m.power.uvWarn = true) ∧ (31000 ≤ mv) ∧ (s.m.power.uvBackAt = some b) ∧ (b + 1000000 ≤ s.now))) (31000) (5)) = true
    ∧ (let s : State := State.reset;
      let s : State := s.onM fun m => { m with power := { m.power with uvWarn := true, uvBackAt := none } };
      (fun mv => decide ((s.m.power.uvWarn = true) ∧ (31000 ≤ mv) ∧ (s.m.power.uvBackAt = none))) (31000)) = true
    ∧ (let s : State := State.reset;
      let s : State := { s.onM fun m => { m with power := { m.power with ovSince := some 5 } } with now := 100005 };
      (fun mv b => decide ((40500 < mv) ∧ (s.m.power.ovSince = some b) ∧ (b + 100000 ≤ s.now))) (40501) (5)) = true
    ∧ (let s : State := State.reset;
      let s : State := (powerLeaf s).onM fun m => { m with power := { m.power with loss := false } };
      decide ((s.m.power.loss = false))) = true
    ∧ (let s : State := State.reset;
      let s : State := s.onM fun m => { m with power := { m.power with loss := true } };
      decide ((s.m.power.loss = true))) = true
    ∧ (let s : State := State.reset;
      let s : State := (powerLeaf s).onM fun m => { m with power := { m.power with loss := false } };
      (fun temp => decide ((115 < temp) ∧ (s.m.power.loss = false))) (116)) = true
    ∧ ((fun temp => decide ((105 < temp) ∧ (temp ≤ 115))) (110)) = true
    ∧ ((fun temp => decide ((100 ≤ temp) ∧ (temp ≤ 105))) (100)) = true
    ∧ (let s : State := State.reset;
      let s : State := s.onM fun m => { m with power := { m.power with hot := [2] } };
      (fun sensor temp => decide ((temp < 100) ∧ (s.m.power.hot.all (· == sensor) = true))) (2) (99)) = true
    ∧ (let s : State := State.reset;
      let s : State := s.onM fun m => { m with power := { m.power with hot := [2, 5] } };
      (fun sensor temp => decide ((temp < 100) ∧ (s.m.power.hot.all (· == sensor) = false))) (2) (99)) = true
    ∧ (let s : State := State.reset;
      let s : State := s.onM fun m => { m with power := { m.power with hot := [2, 5] } };
      (fun sensor temp => decide ((105 < temp) ∧ (temp ≤ 115) ∧ (s.m.power.hot.contains sensor = true))) (2) (115)) = true
    ∧ ((fun temp => decide ((100 ≤ temp) ∧ (temp ≤ 105))) (105)) = true
    ∧ (let s : State := State.reset;
      let s : State := (powerLeaf s).onM fun m => { m with power := { m.power with loss := false } };
      (fun temp => decide ((115 < temp) ∧ (s.m.power.loss = false))) (116)) = true
    ∧ ((fun pkt => decide ((pkt.opcode ≠ 5))) (testPacket 0 6 0x280 0x40005)) = true
    ∧ ((fun pkt => decide ((pkt.opcode = 5) ∧ (pchkGood pkt = false))) ({ testPacket 0 5 0x280 0x40005 with pchk := 3 })) = true
    ∧ (let s : State := State.reset;
      let s : State := (s.wr .endpoint Fld.prtStatusState 3 2).onE fun e => { e with grants := [{ plane := true, time := s.now, grant := 650, throttle := 1, gseq := 4 }] };
      (fun p pkt g => decide ((pkt.opcode = 5) ∧ (pchkGood pkt = true) ∧ (s.e.grants = [g]) ∧ (g.plane ≠ portPlane .endpoint p s) ∧ (s.now ≤ g.time + 5000000))) (3) (sealed { testPacket 0 5 0x280 0x40005 with opx := 700 }) ({ plane := true, time := s.now, grant := 650, throttle := 1, gseq := 4 })) = true
    ∧ (let s : State := State.reset;
      let s : State := s.onE fun e => { e with grants := [] };
      (fun p pkt => decide ((pkt.opcode = 5) ∧ (pchkGood pkt = true) ∧ (s.e.grants.all (fun g => g.plane == portPlane .endpoint p s || decide (g.time + 5000000 < s.now)) = true))) (3) (sealed { testPacket 0 5 0x280 0x40005 with opx := 700 })) = true := by decide +kernel

theorem met_CountersAreSnapshotAndStreamed :
    (let s : State := State.reset;
      let s : State := s.wrb .module Fld.telSnapStatusBusy 0 true;
      decide ((s.rdb .module Fld.telSnapStatusBusy = true))) = true
    ∧ (let s : State := State.reset;
      let s : State := s.wrb .module Fld.telSnapStatusBusy 0 false;
      decide ((s.rdb .module Fld.telSnapStatusBusy = false))) = true
    ∧ (let s : State := State.reset;
      let s : State := s.onM fun m => { m with tel := { m.tel with latch := none } };
      decide ((s.m.tel.latch = none))) = true
    ∧ (let s : State := State.reset;
      let s : State := s.onM fun m => { m with tel := { m.tel with latch := some (5, 9, [7, 8]) } };
      (fun mask time values => decide ((s.m.tel.latch = some (mask, time, values)))) (5) (9) ([7, 8])) = true
    ∧ (let k : Nat := 2;
      let s : State := State.reset;
      let s : State := s.wrb .module Fld.telStreamValid 2 false;
      decide (((s.rdb .module Fld.telStreamValid k = false ∨ (s.rd .module Fld.telBgCtlPause).testBit 5 = true)))) = true
    ∧ (let k : Nat := 2;
      let s : State := State.reset;
      let s : State := ((s.wrb .module Fld.telStreamValid 2 true).wr .module Fld.telBgCtlPause 0 0).onUnit .module fun u => { u with xpt := { u.xpt with ops := [{ opWait with use := .telemetry 2 }] } };
      let bytes := ((streamPayloads k (smapGet s.m.tel.periods 0 k) s).map List.length).sum;
      let held := streamBusy k s = true ∨ s.rd .module Fld.telCtlMaxRate * s.rd .module Fld.telStreamPeriodUs k < sentWithin (s.rd .module Fld.telStreamPeriodUs k) s + bytes;
      let runs := s.rdb .module Fld.telStreamValid k = true ∧ (s.rd .module Fld.telBgCtlPause).testBit 5 = false;
      decide ((runs) ∧ (held))) = true
    ∧ (let k : Nat := 2;
      let s : State := State.reset;
      let s : State := (((s.wrb .module Fld.telStreamValid 2 true).wr .module Fld.telBgCtlPause 0 0).wr .module Fld.telCtlMaxRate 0 1000).wr .module Fld.telStreamGroups 2 0 |>.wr .module Fld.telStreamPeriodUs 2 1000;
      let bytes := ((streamPayloads k (smapGet s.m.tel.periods 0 k) s).map List.length).sum;
      let runs := s.rdb .module Fld.telStreamValid k = true ∧ (s.rd .module Fld.telBgCtlPause).testBit 5 = false;
      decide ((runs) ∧ (streamBusy k s = false) ∧ (sentWithin (s.rd .module Fld.telStreamPeriodUs k) s + bytes ≤ s.rd .module Fld.telCtlMaxRate * s.rd .module Fld.telStreamPeriodUs k))) = true
    ∧ (let s : State := State.reset;
      let s : State := s.wr .module Fld.telBgCtlPause 0 2;
      (fun a => decide ((a < 2) ∧ ((s.rd .module Fld.telBgCtlPause).testBit a = true))) (1)) = true
    ∧ (let s : State := State.reset;
      let s : State := s.wr .module Fld.telBgCtlPause 0 0;
      (fun a => decide (((2 ≤ a ∨ (s.rd .module Fld.telBgCtlPause).testBit a = false)))) (1)) = true := by decide +kernel

theorem met_ManagementRequestsActInTheirRoles :
    (let id : Nat := 6;
      let s : State := State.reset;
      let s : State := sessionState .module 15 s;
      let lacks := fun (role : Nat) => (established .module id s).any (fun x => x.roles.testBit role) = false ∨ inRecovery .module s = true;
      decide ((lacks roleManage))) = true
    ∧ (let id : Nat := 5;
      let s : State := State.reset;
      let s : State := (sessionState .module 15 s).onM fun m => { m with sec := { m.sec with leases := [] } };
      let has := fun (role : Nat) => (established .module id s).any (fun x => x.roles.testBit role) = true ∧ inRecovery .module s = false;
      let owner := fun (g : Nat) => tokenOwner g s;
      (fun (g : Nat) => decide ((has roleManage) ∧ (g < 12) ∧ ((owner g = none ∨ owner g = some id)))) (3)) = true
    ∧ (let id : Nat := 5;
      let s : State := State.reset;
      let s : State := (sessionState .module 15 s).onM fun m => { m with sec := { m.sec with leases := [(3, (9, 100))] } };
      let has := fun (role : Nat) => (established .module id s).any (fun x => x.roles.testBit role) = true ∧ inRecovery .module s = false;
      let owner := fun (g : Nat) => tokenOwner g s;
      (fun (g : Nat) o => decide ((has roleManage) ∧ (g < 12) ∧ (owner g = some o) ∧ (o ≠ id))) (3) (9)) = true
    ∧ (let id : Nat := 5;
      let s : State := State.reset;
      let s : State := sessionState .module 15 s;
      let has := fun (role : Nat) => (established .module id s).any (fun x => x.roles.testBit role) = true ∧ inRecovery .module s = false;
      (fun (g : Nat) => decide ((has roleManage) ∧ (12 ≤ g))) (12)) = true
    ∧ (let id : Nat := 6;
      let s : State := State.reset;
      let s : State := sessionState .module 15 s;
      let lacks := fun (role : Nat) => (established .module id s).any (fun x => x.roles.testBit role) = false ∨ inRecovery .module s = true;
      decide ((lacks roleManage))) = true
    ∧ (let id : Nat := 5;
      let s : State := State.reset;
      let s : State := (sessionState .module 15 s).onM fun m => { m with sec := { m.sec with leases := [(3, (5, 100))] } };
      let has := fun (role : Nat) => (established .module id s).any (fun x => x.roles.testBit role) = true ∧ inRecovery .module s = false;
      let owner := fun (g : Nat) => tokenOwner g s;
      (fun (g : Nat) => decide ((has roleManage) ∧ (g < 12) ∧ (owner g = some id))) (3)) = true
    ∧ (let id : Nat := 5;
      let s : State := State.reset;
      let s : State := (sessionState .module 15 s).onM fun m => { m with sec := { m.sec with leases := [] } };
      let has := fun (role : Nat) => (established .module id s).any (fun x => x.roles.testBit role) = true ∧ inRecovery .module s = false;
      let owner := fun (g : Nat) => tokenOwner g s;
      (fun (g : Nat) => decide ((has roleManage) ∧ (owner g ≠ some id))) (3)) = true
    ∧ (let id : Nat := 6;
      let s : State := State.reset;
      let s : State := sessionState .module 15 s;
      let lacks := fun (role : Nat) => (established .module id s).any (fun x => x.roles.testBit role) = false ∨ inRecovery .module s = true;
      decide ((lacks roleManage))) = true
    ∧ (let id : Nat := 5;
      let s : State := State.reset;
      let s : State := (sessionState .module 15 s).onM fun m => { m with sec := { m.sec with leases := [(3, (5, 100))] } };
      let has := fun (role : Nat) => (established .module id s).any (fun x => x.roles.testBit role) = true ∧ inRecovery .module s = false;
      let owner := fun (g : Nat) => tokenOwner g s;
      (fun (g : Nat) => decide ((has roleManage) ∧ (owner g = some id))) (3)) = true
    ∧ (let id : Nat := 5;
      let s : State := State.reset;
      let s : State := (sessionState .module 15 s).onM fun m => { m with sec := { m.sec with leases := [] } };
      let has := fun (role : Nat) => (established .module id s).any (fun x => x.roles.testBit role) = true ∧ inRecovery .module s = false;
      let owner := fun (g : Nat) => tokenOwner g s;
      (fun (g : Nat) => decide ((has roleManage) ∧ (owner g ≠ some id))) (3)) = true
    ∧ (let s : State := State.reset;
      let s : State := s.onM fun m => { m with sec := { m.sec with leases := [(3, (5, 100))] } };
      let owner := fun (g : Nat) => tokenOwner g s;
      (fun (g : Nat) => decide (((owner g).isSome = true))) (3)) = true
    ∧ (let s : State := State.reset;
      let s : State := s.onM fun m => { m with sec := { m.sec with leases := [] } };
      let owner := fun (g : Nat) => tokenOwner g s;
      (fun (g : Nat) => decide ((owner g = none))) (3)) = true
    ∧ (let id : Nat := 6;
      let s : State := State.reset;
      let s : State := sessionState .module 15 s;
      decide (((established .module id s).any (fun x => x.roles.testBit roleAdmin) = false))) = true
    ∧ (let id : Nat := 5;
      let s : State := State.reset;
      let s : State := sessionState .module 15 s;
      decide (((established .module id s).any (fun x => x.roles.testBit roleAdmin) = true))) = true
    ∧ (let id : Nat := 6;
      let s : State := State.reset;
      let s : State := sessionState .module 15 s;
      let lacks := fun (role : Nat) => (established .module id s).any (fun x => x.roles.testBit role) = false ∨ inRecovery .module s = true;
      decide ((lacks roleAdmin))) = true
    ∧ (let id : Nat := 5;
      let s : State := State.reset;
      let s : State := sessionState .module 15 s;
      let has := fun (role : Nat) => (established .module id s).any (fun x => x.roles.testBit role) = true ∧ inRecovery .module s = false;
      (fun (c : Nat) (key : List Byte) => decide ((has roleAdmin) ∧ (c < 16) ∧ (key ≠ []))) (4) ([7, 8])) = true
    ∧ (let id : Nat := 5;
      let s : State := State.reset;
      let s : State := sessionState .module 15 s;
      let has := fun (role : Nat) => (established .module id s).any (fun x => x.roles.testBit role) = true ∧ inRecovery .module s = false;
      (fun (c : Nat) => decide ((has roleAdmin) ∧ (c < 16))) (4)) = true
    ∧ (let id : Nat := 5;
      let s : State := State.reset;
      let s : State := sessionState .module 15 s;
      let has := fun (role : Nat) => (established .module id s).any (fun x => x.roles.testBit role) = true ∧ inRecovery .module s = false;
      (fun (c : Nat) => decide ((has roleAdmin) ∧ (16 ≤ c))) (16)) = true
    ∧ (let id : Nat := 6;
      let s : State := State.reset;
      let s : State := sessionState .module 15 s;
      let lacks := fun (role : Nat) => (established .module id s).any (fun x => x.roles.testBit role) = false ∨ inRecovery .module s = true;
      decide ((lacks roleAdmin))) = true
    ∧ (let id : Nat := 5;
      let s : State := State.reset;
      let s : State := sessionState .module 15 s;
      let has := fun (role : Nat) => (established .module id s).any (fun x => x.roles.testBit role) = true ∧ inRecovery .module s = false;
      (fun (k : Nat) (key : List Byte) => decide ((has roleAdmin) ∧ (4 ≤ k) ∧ (k < 16) ∧ (key ≠ []))) (6) ([7, 8])) = true
    ∧ (let id : Nat := 5;
      let s : State := State.reset;
      let s : State := sessionState .module 15 s;
      let has := fun (role : Nat) => (established .module id s).any (fun x => x.roles.testBit role) = true ∧ inRecovery .module s = false;
      (fun (k : Nat) => decide ((has roleAdmin) ∧ ((k < 4 ∨ 16 ≤ k)))) (3)) = true
    ∧ (let id : Nat := 5;
      let s : State := State.reset;
      let s : State := sessionState .module 15 s;
      let has := fun (role : Nat) => (established .module id s).any (fun x => x.roles.testBit role) = true ∧ inRecovery .module s = false;
      (fun (k : Nat) => decide ((has roleAdmin) ∧ (k < 16) ∧ ((4 ≤ k ∨ otherVendor k s = true)))) (6)) = true
    ∧ (let id : Nat := 5;
      let s : State := State.reset;
      let s : State := (((sessionState .module 15 s).wr .module Fld.secSignerValid 0 0).wr .module Fld.secSignerValid 1 0).wr .module Fld.secSignerValid 3 0;
      let has := fun (role : Nat) => (established .module id s).any (fun x => x.roles.testBit role) = true ∧ inRecovery .module s = false;
      (fun (k : Nat) => decide ((has roleAdmin) ∧ (k < 4) ∧ (otherVendor k s = false))) (2)) = true
    ∧ (let id : Nat := 6;
      let s : State := State.reset;
      let s : State := sessionState .module 15 s;
      let lacks := fun (role : Nat) => (established .module id s).any (fun x => x.roles.testBit role) = false ∨ inRecovery .module s = true;
      decide ((lacks roleAdmin))) = true
    ∧ (let id : Nat := 5;
      let s : State := State.reset;
      let s : State := ((sessionState .module 15 s).wr .module Fld.jigImageIdImageVersion 0 3).onM fun m => { m with sec := { m.sec with bootVersion := 3 } };
      let has := fun (role : Nat) => (established .module id s).any (fun x => x.roles.testBit role) = true ∧ inRecovery .module s = false;
      (fun b i => decide ((has roleAdmin) ∧ (b ≤ s.m.sec.bootVersion) ∧ (b < 2 ^ 32) ∧ (i ≤ s.rd .module Fld.jigImageIdImageVersion))) (2) (2)) = true
    ∧ (let id : Nat := 5;
      let s : State := State.reset;
      let s : State := ((sessionState .module 15 s).wr .module Fld.jigImageIdImageVersion 0 3).onM fun m => { m with sec := { m.sec with bootVersion := 3 } };
      let has := fun (role : Nat) => (established .module id s).any (fun x => x.roles.testBit role) = true ∧ inRecovery .module s = false;
      (fun b i => decide ((has roleAdmin) ∧ ((s.m.sec.bootVersion < b ∨ s.rd .module Fld.jigImageIdImageVersion < i)))) (4) (2)) = true
    ∧ (let id : Nat := 6;
      let s : State := State.reset;
      let s : State := sessionState .module 15 s;
      let lacks := fun (role : Nat) => (established .module id s).any (fun x => x.roles.testBit role) = false ∨ inRecovery .module s = true;
      decide ((lacks roleTest))) = true
    ∧ (let id : Nat := 5;
      let s : State := State.reset;
      let s : State := sessionState .module 15 s;
      let has := fun (role : Nat) => (established .module id s).any (fun x => x.roles.testBit role) = true ∧ inRecovery .module s = false;
      decide ((has roleTest))) = true
    ∧ (let id : Nat := 6;
      let s : State := State.reset;
      let s : State := sessionState .module 15 s;
      let lacks := fun (role : Nat) => (established .module id s).any (fun x => x.roles.testBit role) = false ∨ inRecovery .module s = true;
      decide ((lacks roleTest))) = true
    ∧ (let id : Nat := 5;
      let s : State := State.reset;
      let s : State := (sessionState .module 15 s).wr .module Fld.secSlotClass 3 1;
      let has := fun (role : Nat) => (established .module id s).any (fun x => x.roles.testBit role) = true ∧ inRecovery .module s = false;
      decide ((has roleTest))) = true
    ∧ (let id : Nat := 6;
      let s : State := State.reset;
      let s : State := sessionState .module 15 s;
      let lacks := fun (role : Nat) => (established .module id s).any (fun x => x.roles.testBit role) = false ∨ inRecovery .module s = true;
      decide ((lacks roleDiag))) = true
    ∧ (let id : Nat := 5;
      let s : State := State.reset;
      let s : State := (sessionState .module 15 s).wr .module Fld.secStatusWSlots 0 0;
      let has := fun (role : Nat) => (established .module id s).any (fun x => x.roles.testBit role) = true ∧ inRecovery .module s = false;
      (fun on => decide ((has roleDiag) ∧ ((on = false ∨ s.rd .module Fld.secStatusWSlots = 0)))) (true)) = true
    ∧ (let id : Nat := 5;
      let s : State := State.reset;
      let s : State := (sessionState .module 15 s).wr .module Fld.secStatusWSlots 0 2;
      let has := fun (role : Nat) => (established .module id s).any (fun x => x.roles.testBit role) = true ∧ inRecovery .module s = false;
      decide ((has roleDiag) ∧ (s.rd .module Fld.secStatusWSlots ≠ 0))) = true
    ∧ (let s : State := State.reset;
      let s : State := (List.range 16).foldl (fun s c => s.wr .module Fld.secCredRoles c 4) s;
      (fun (c : Nat) (key : List Byte) => decide ((c < 16) ∧ (key ≠ []) ∧ ((∀ j : Nat, j < 16 → s.rdb .module Fld.secCredValid j = true → (s.rd .module Fld.secCredRoles j).testBit roleAdmin = false)))) (4) ([7, 8])) = true
    ∧ (let s : State := State.reset;
      let s : State := (s.wr .module Fld.secCredRoles 2 8).wr .module Fld.secCredValid 2 1;
      (fun j => decide ((j < 16) ∧ (s.rdb .module Fld.secCredValid j = true) ∧ ((s.rd .module Fld.secCredRoles j).testBit roleAdmin = true))) (2)) = true := by decide +kernel

theorem met_KeySlotsLoadAndRetire :
    (let id : Nat := 6;
      let s : State := State.reset;
      let s : State := sessionState .endpoint 15 (sessionState .module 15 (slotAt 0 3 s));
      (fun (sd : Side) => decide ((((established sd id s).isNone = true ∨ inRecovery sd s = true)))) (.module)) = true
    ∧ (let id : Nat := 5;
      let k : Nat := 7;
      let e : Nat := 3;
      let s : State := State.reset;
      let s : State := sessionState .module 15 s;
      let inside := fun (sd : Side) => (established sd id s).isSome = true ∧ inRecovery sd s = false;
      let own := fun (sd : Side) => ((established sd id s).map fun x => x.key).getD [];
      (fun (sd : Side) c st => decide ((inside sd) ∧ (loadRefused sd k e c (own sd) s = some st))) (.module) (2) (stAccessDenied)) = true
    ∧ (let id : Nat := 5;
      let k : Nat := 7;
      let e : Nat := 4;
      let s : State := State.reset;
      let s : State := sessionState .endpoint 15 (slotAt 1 3 s);
      let inside := fun (sd : Side) => (established sd id s).isSome = true ∧ inRecovery sd s = false;
      let own := fun (sd : Side) => ((established sd id s).map fun x => x.key).getD [];
      (fun (sd : Side) c st => decide ((inside sd) ∧ (loadRefused sd k e c (own sd) s = some st))) (.endpoint) (1) (stVersion)) = true
    ∧ (let id : Nat := 5;
      let k : Nat := 7;
      let e : Nat := 3;
      let s : State := State.reset;
      let s : State := sessionState .endpoint 15 (slotAt 0 3 s);
      let inside := fun (sd : Side) => (established sd id s).isSome = true ∧ inRecovery sd s = false;
      let own := fun (sd : Side) => ((established sd id s).map fun x => x.key).getD [];
      (fun (sd : Side) c => decide ((inside sd) ∧ (slotState sd k s = 0) ∧ (loadRefused sd k e c (own sd) s = none) ∧ (e < 16))) (.endpoint) (1)) = true
    ∧ (let id : Nat := 5;
      let k : Nat := 7;
      let e : Nat := 3;
      let s : State := State.reset;
      let s : State := (sessionState .module 15 (slotAt 1 3 s)).wr .module Fld.secSlotClass 7 1;
      let inside := fun (sd : Side) => (established sd id s).isSome = true ∧ inRecovery sd s = false;
      let own := fun (sd : Side) => ((established sd id s).map fun x => x.key).getD [];
      (fun (sd : Side) c => decide ((inside sd) ∧ (slotState sd k s = 1) ∧ (loadRefused sd k e c (own sd) s = none))) (.module) (1)) = true
    ∧ (let k : Nat := 0;
      let s : State := State.reset;
      let s : State := s.onUnit .endpoint fun u => { u with keys := [] };
      (fun (sd : Side) => decide (((slotAll sd k s).prev = []))) (.endpoint)) = true
    ∧ (let k : Nat := 7;
      let s : State := State.reset;
      let s : State := slotAt 1 3 s;
      (fun (sd : Side) => decide (((slotAll sd k s).prev ≠ []) ∧ ((slotAll sd k s).link ≠ []))) (.module)) = true
    ∧ (let k : Nat := 7;
      let s : State := State.reset;
      let s : State := slotAt 1 3 s;
      (fun (sd : Side) => decide (((slotAll sd k s).prev ≠ []) ∧ ((slotAll sd k s).link ≠ []))) (.endpoint)) = true
    ∧ (let k : Nat := 0;
      decide ((k = 0))) = true
    ∧ (let id : Nat := 6;
      let k : Nat := 7;
      let s : State := State.reset;
      let s : State := sessionState .endpoint 15 s;
      decide ((0 < k) ∧ ((established .endpoint id s).any (fun x => x.roles.testBit roleManage) = false))) = true
    ∧ (let id : Nat := 5;
      let k : Nat := 7;
      let e : Nat := 3;
      let s : State := State.reset;
      let s : State := sessionState .endpoint 15 (sessionState .module 15 (slotAt 0 3 s));
      let manage := (established .endpoint id s).any (fun x => x.roles.testBit roleManage) = true;
      let empty := fun (sd : Side) => slotState sd k s = 0 ∧ ((slotAll sd k s).epochOpen = true ∨ e = slotEpoch sd k s) ∧ slotRoom sd k s = true ∧ 0 < k ∧ e < 16;
      decide ((manage) ∧ (empty .endpoint))) = true
    ∧ (let id : Nat := 5;
      let k : Nat := 7;
      let s : State := State.reset;
      let s : State := sessionState .endpoint 15 (slotAt 1 3 s);
      let manage := (established .endpoint id s).any (fun x => x.roles.testBit roleManage) = true;
      decide ((manage) ∧ (0 < k) ∧ (slotState .endpoint k s = 1))) = true
    ∧ (let id : Nat := 5;
      let k : Nat := 7;
      let s : State := State.reset;
      let s : State := sessionState .endpoint 15 (slotAt 2 3 s);
      let manage := (established .endpoint id s).any (fun x => x.roles.testBit roleManage) = true;
      decide ((manage) ∧ (0 < k) ∧ (2 ≤ slotState .endpoint k s))) = true
    ∧ (let k : Nat := 7;
      let e : Nat := 3;
      let s : State := State.reset;
      let s : State := sessionState .endpoint 15 (sessionState .module 15 (slotAt 0 3 s));
      let empty := fun (sd : Side) => slotState sd k s = 0 ∧ ((slotAll sd k s).epochOpen = true ∨ e = slotEpoch sd k s) ∧ slotRoom sd k s = true ∧ 0 < k ∧ e < 16;
      decide ((empty .module))) = true
    ∧ (let k : Nat := 0;
      decide ((k = 0))) = true
    ∧ (let k : Nat := 7;
      let s : State := State.reset;
      let s : State := slotAt 1 3 s;
      decide ((0 < k) ∧ (slotState .module k s = 1))) = true
    ∧ (let id : Nat := 5;
      let k : Nat := 7;
      let e : Nat := 3;
      let s : State := State.reset;
      let s : State := sessionState .endpoint 15 (slotAt 1 3 s);
      let manage := (established .endpoint id s).any (fun x => x.roles.testBit roleManage) = true;
      let active := fun (sd : Side) => 0 < k ∧ slotState sd k s = 1 ∧ slotEpoch sd k s = e;
      decide ((manage) ∧ (active .endpoint))) = true
    ∧ (let id : Nat := 6;
      let s : State := State.reset;
      let s : State := sessionState .endpoint 15 s;
      decide (((established .endpoint id s).any (fun x => x.roles.testBit roleManage) = false))) = true
    ∧ (let id : Nat := 5;
      let k : Nat := 7;
      let e : Nat := 3;
      let s : State := State.reset;
      let s : State := sessionState .endpoint 15 (slotAt 0 3 s);
      let manage := (established .endpoint id s).any (fun x => x.roles.testBit roleManage) = true;
      decide ((manage) ∧ (0 < k) ∧ ((slotState .endpoint k s ≠ 1 ∨ slotEpoch .endpoint k s ≠ e)))) = true
    ∧ (let k : Nat := 7;
      let e : Nat := 3;
      let s : State := State.reset;
      let s : State := slotAt 1 3 s;
      let active := fun (sd : Side) => 0 < k ∧ slotState sd k s = 1 ∧ slotEpoch sd k s = e;
      decide ((active .module))) = true
    ∧ (let k : Nat := 7;
      let e : Nat := 3;
      let s : State := State.reset;
      let s : State := slotAt 0 3 s;
      decide ((0 < k) ∧ ((slotState .module k s ≠ 1 ∨ slotEpoch .module k s ≠ e)))) = true
    ∧ (let k : Nat := 0;
      decide ((k = 0))) = true
    ∧ (let k : Nat := 7;
      let s : State := State.reset;
      let s : State := slotAt 0 3 s;
      (fun (sd : Side) => decide ((slotState sd k s ≠ 2))) (.endpoint)) = true
    ∧ (let k : Nat := 7;
      let s : State := State.reset;
      let s : State := slotAt 2 3 s;
      (fun (sd : Side) => decide ((slotState sd k s = 2) ∧ (((s.unit sd).keys.map fun x => x.1).Nodup))) (.endpoint)) = true
    ∧ (let k : Nat := 7;
      let s : State := State.reset;
      let s : State := slotAt 2 15 s;
      (fun (sd : Side) => decide ((slotState sd k s = 2) ∧ (((s.unit sd).keys.map fun x => x.1).Nodup))) (.module)) = true
    ∧ (let k : Nat := 7;
      let s : State := State.reset;
      let s : State := slotAt 0 3 s;
      (fun (sd : Side) => decide ((slotState sd k s ≠ 3))) (.module)) = true
    ∧ (let k : Nat := 7;
      let s : State := State.reset;
      let s : State := (slotAt 3 3 s).wr .module Fld.secRetireStatusKeyIndex 0 7;
      (fun (sd : Side) => decide ((slotState sd k s = 3))) (.module)) = true
    ∧ (let k : Nat := 7;
      let s : State := State.reset;
      let s : State := slotAt 3 3 s;
      (fun (sd : Side) => decide ((slotState sd k s = 3))) (.endpoint)) = true := by decide +kernel

theorem met_SpdmSessionsAndTheMailbox :
    (let sd : Side := .module;
      let via : Via := .inBand;
      decide ((answersOn sd via = false))) = true
    ∧ (let sd : Side := .endpoint;
      let via : Via := .inBand;
      let hears := answersOn sd via = true;
      decide ((hears))) = true
    ∧ (let sd : Side := .module;
      let via : Via := .inBand;
      decide ((answersOn sd via = false))) = true
    ∧ (let sd : Side := .module;
      let via : Via := .doe;
      let hears := answersOn sd via = true;
      decide ((hears))) = true
    ∧ (let sd : Side := .module;
      let via : Via := .doe;
      let hears := answersOn sd via = true;
      (fun o => decide ((hears) ∧ ((o.contains 1 || o.contains 2 || o.contains 3 || o.contains 4) = true))) ([2])) = true
    ∧ (let sd : Side := .module;
      let via : Via := .doe;
      let hears := answersOn sd via = true;
      (fun o => decide ((hears) ∧ ((o.contains 1 || o.contains 2 || o.contains 3 || o.contains 4) = false))) ([9])) = true
    ∧ (let sd : Side := .module;
      let via : Via := .doe;
      let hears := answersOn sd via = true;
      decide ((hears))) = true
    ∧ (let sd : Side := .module;
      let via : Via := .doe;
      let hears := answersOn sd via = true;
      decide ((hears))) = true
    ∧ (let sd : Side := .module;
      let via : Via := .doe;
      let hears := answersOn sd via = true;
      decide ((hears))) = true
    ∧ (let sd : Side := .module;
      let via : Via := .doe;
      let hears := answersOn sd via = true;
      (fun i => decide ((hears) ∧ (i ∈ measureIndices))) (17)) = true
    ∧ (let sd : Side := .module;
      let via : Via := .doe;
      let s : State := State.reset;
      let s : State := (sessionState sd 15 s).onUnit sd fun u => { u with mgmt := { u.mgmt with assembly := [] } };
      let hears := answersOn sd via = true;
      let sessions := fun (t : State) => (t.unit sd).mgmt.sessions;
      decide ((hears) ∧ ((sessions s).length < sessionLimit sd))) = true
    ∧ (let sd : Side := .endpoint;
      let via : Via := .inBand;
      let id : Nat := 5;
      let s : State := State.reset;
      let s : State := s.onUnit .endpoint fun u => { u with mgmt := { u.mgmt with sessions := [{ id := 1, secret := [] }, { id := 2, secret := [] }] } };
      let hears := answersOn sd via = true;
      let sessions := fun (t : State) => (t.unit sd).mgmt.sessions;
      decide ((hears) ∧ (sessionLimit sd ≤ (sessions s).length))) = true
    ∧ (let sd : Side := .module;
      let id : Nat := 6;
      let s : State := State.reset;
      let s : State := sessionState sd 15 s;
      decide ((session sd id s = none))) = true
    ∧ (let sd : Side := .module;
      let id : Nat := 5;
      let s : State := State.reset;
      let s : State := (sessionState sd 15 s).onUnit sd fun u => { u with mgmt := { u.mgmt with assembly := [] } };
      let est := (established sd id s).isSome = true;
      decide ((est))) = true
    ∧ (let sd : Side := .module;
      let id : Nat := 5;
      let s : State := State.reset;
      let s : State := s.onUnit sd fun u => { u with mgmt := { u.mgmt with sessions := [{ id := 5, secret := [4] }] } };
      decide (((session sd id s).isSome = true) ∧ ((established sd id s).isNone = true))) = true
    ∧ (let sd : Side := .module;
      let id : Nat := 5;
      let s : State := State.reset;
      let s : State := (sessionState sd 15 s).onUnit sd fun u => { u with mgmt := { u.mgmt with assembly := [] } };
      let est := (established sd id s).isSome = true;
      decide ((est))) = true
    ∧ (let sd : Side := .module;
      let id : Nat := 6;
      let s : State := State.reset;
      let s : State := sessionState sd 15 s;
      decide (((established sd id s).isNone = true))) = true
    ∧ (let sd : Side := .module;
      let id : Nat := 5;
      let s : State := State.reset;
      let s : State := (sessionState sd 15 s).onUnit sd fun u => { u with mgmt := { u.mgmt with assembly := [] } };
      decide (((session sd id s).isSome = true))) = true
    ∧ (let sd : Side := .module;
      let id : Nat := 6;
      let s : State := State.reset;
      let s : State := sessionState sd 15 s;
      decide ((session sd id s = none))) = true
    ∧ ((fun k => decide ((k.opcode ≠ 1) ∧ (k.opcode ≠ 2))) (testPacket 0 3 0x280 0x40005)) = true
    ∧ ((fun k => decide ((k.opcode = 1) ∧ (pchkGood k = false))) ({ testPacket 0 1 0x280 0x40005 with pchk := 3 })) = true
    ∧ (let sd : Side := .module;
      let s : State := State.reset;
      let s : State := s.onUnit sd fun u => { u with mgmt := { u.mgmt with assembly := [] } };
      let old := fun (p : Nat) => assembly sd p false s;
      (fun p k => decide ((k.opcode = 1) ∧ (pchkGood k = true) ∧ (old p = none) ∧ (k.opx.toNat % 256 = 0) ∧ (k.opx.getLsbD 8 = true) ∧ (k.payload.length ≤ 4096))) (3) (sealed { testPacket 0 1 0x280 0x40005 with opx := 0x10100, payload := [1, 2] })) = true
    ∧ (let sd : Side := .endpoint;
      let s : State := State.reset;
      let s : State := s.onUnit sd fun u => { u with mgmt := { u.mgmt with assembly := [] } };
      let old := fun (p : Nat) => assembly sd p false s;
      (fun p k => decide ((k.opcode = 1) ∧ (pchkGood k = true) ∧ (old p = none) ∧ (k.opx.toNat % 256 = 0) ∧ (k.opx.getLsbD 8 = false) ∧ (k.payload.length ≤ 4096))) (3) (sealed { testPacket 0 1 0x280 0x40005 with opx := 0x10000, payload := [1, 2] })) = true
    ∧ (let sd : Side := .module;
      let s : State := State.reset;
      let s : State := s.onUnit sd fun u => { u with mgmt := { u.mgmt with assembly := [{ port := 3, response := false, number := 1, next := 1, bytes := [8] }] } };
      let old := fun (p : Nat) => assembly sd p false s;
      (fun p k => decide ((k.opcode = 1) ∧ (pchkGood k = true) ∧ ((old p).map (fun a => a.number) = some (k.opx.toNat / 65536)) ∧ ((old p).map (fun a => a.next) ≠ some (k.opx.toNat % 256)))) (3) (sealed { testPacket 0 1 0x280 0x40005 with opx := 0x10002, payload := [1, 2] })) = true
    ∧ (let s : State := State.reset;
      let s : State := s.wrb .module Fld.mgtStatusBusy 0 false;
      (fun n => decide ((s.rdb .module Fld.mgtStatusBusy = false) ∧ (0 < n) ∧ (n ≤ 4096))) (4096)) = true
    ∧ (let sd : Side := .module;
      let s : State := State.reset;
      let s : State := (sessionState sd 15 s).onUnit sd fun u => { u with mgmt := { u.mgmt with assembly := [] } };
      (fun n => decide (((s.rdb .module Fld.mgtStatusBusy = true ∨ n = 0 ∨ 4096 < n)))) (0)) = true
    ∧ (let s : State := State.reset;
      let s : State := s.wrb .module Fld.mgtStatusBusy 0 true;
      decide ((s.rdb .module Fld.mgtStatusBusy = true))) = true
    ∧ (let s : State := State.reset;
      let s : State := s.wrb .module Fld.mgtStatusBusy 0 false;
      decide ((s.rdb .module Fld.mgtStatusBusy = false))) = true := by decide +kernel

theorem met_FaultsGiveEvidenceAndQuarantine :
    (let k : Nat := 9;
      let s : State := State.reset;
      let s : State := leafState s;
      decide ((s.isLeaf = false ∨ s.rdb .module Fld.rteSlotValid k = false))) = true
    ∧ (let k : Nat := 1;
      let s : State := State.reset;
      let s : State := { (leafState s).onM fun m => { m with power := { m.power with reportAt := [(1, 9)] } } with now := 1000008 };
      let leafSlot := s.isLeaf = true ∧ s.rdb .module Fld.rteSlotValid k = true;
      let reported := smapGet s.m.power.reportAt 0 k;
      decide ((leafSlot) ∧ (s.now < reported + 1000000))) = true
    ∧ (let k : Nat := 1;
      let s : State := State.reset;
      let s : State := { (leafState s).onM fun m => { m with power := { m.power with reportAt := [(1, 9)] } } with now := 1000009 };
      let leafSlot := s.isLeaf = true ∧ s.rdb .module Fld.rteSlotValid k = true;
      let reported := smapGet s.m.power.reportAt 0 k;
      decide ((leafSlot) ∧ (reported + 1000000 ≤ s.now))) = true
    ∧ (let k : Nat := 1;
      let s : State := State.reset;
      let s : State := s.onM fun m => { m with dir := { m.dir with txns := [], flush := none } };
      (fun q l => decide ((openSnoop k q l s = none) ∧ (s.m.dir.flush = none))) (4) (9)) = true
    ∧ (let k : Nat := 1;
      let s : State := State.reset;
      let s : State := snoopWaits 1 s;
      (fun q l => decide (((openSnoop k q l s).any (fun x => decide (x.2.sent < 2)) = true))) (4) (9)) = true
    ∧ (let k : Nat := 1;
      let s : State := State.reset;
      let s : State := snoopWaits 2 s;
      let leafSlot := s.isLeaf = true ∧ s.rdb .module Fld.rteSlotValid k = true;
      (fun q l => decide (((openSnoop k q l s).any (fun x => decide (2 ≤ x.2.sent)) = true) ∧ (leafSlot))) (4) (9)) = true
    ∧ (let k : Nat := 1;
      let s : State := State.reset;
      let s : State := s.onM fun m => { m with dir := { m.dir with recovery := [] } };
      decide (((s.m.dir.recovery.any fun r => decide (r.slot = k)) = false))) = true
    ∧ (let k : Nat := 1;
      let s : State := State.reset;
      let s : State := (leafState s).onM fun m => { m with dir := { m.dir with recovery := [{ slot := 1, startedAt := 0 }] } };
      let leafSlot := s.isLeaf = true ∧ s.rdb .module Fld.rteSlotValid k = true;
      decide (((s.m.dir.recovery.any fun r => decide (r.slot = k)) = true) ∧ (leafSlot))) = true
    ∧ (let k : Nat := 2;
      let s : State := State.reset;
      let s : State := s.onM fun m => { m with mrn := { m.mrn with chunks := [] } };
      (fun st c => decide ((mrnChunk k st c s = none))) (5) (6)) = true
    ∧ (let k : Nat := 2;
      let s : State := State.reset;
      let s : State := lateChunk 0 s;
      (fun st c => decide (((mrnChunk k st c s).any (fun x => decide (x.phase = .isOpen) && decide (x.restarts < x.maxRestarts)) = true) ∧ ((∀ e : Nat, e < 16 → s.rdb .module Fld.fltShadowValid e = false)) ∧ ((s.m.mrn.chunks.map fun x => (x.ctx, x.step, x.chunk)).Nodup))) (5) (6)) = true
    ∧ (let k : Nat := 2;
      let s : State := State.reset;
      let s : State := lateChunk 3 s;
      (fun st c => decide (((mrnChunk k st c s).any (fun x => decide (x.phase = .isOpen) && decide (x.maxRestarts ≤ x.restarts) && x.badCheck) = true) ∧ ((∀ e : Nat, e < 16 → s.rdb .module Fld.fltShadowValid e = false)))) (5) (6)) = true
    ∧ (let k : Nat := 1;
      let s : State := State.reset;
      let s : State := s.wr .module Fld.prtStatusActiveMask 1 0;
      (fun bit => decide ((evidenceHolds k bit s = true))) (0)) = true
    ∧ (let k : Nat := 1;
      let s : State := State.reset;
      (fun bit => decide ((evidenceHolds k bit s = false))) (2)) = true
    ∧ (let k : Nat := 1;
      let s : State := State.reset;
      let s : State := liveDown 1 (s.onM fun m => { m with live := { m.live with trays := [] } });
      decide (((s.rd .module Fld.fltLiveEvidence k).testBit 0 = true) ∧ (activeMask .module k s = 0) ∧ (downTrayOf k s = none) ∧ (mayQuarantine k s = true))) = true
    ∧ (let k : Nat := 1;
      let s : State := State.reset;
      let s : State := s.wr .module Fld.fltLiveEvidence 1 0;
      decide ((((s.rd .module Fld.fltLiveEvidence k).testBit 0 = false ∨ activeMask .module k s ≠ 0 ∨ (downTrayOf k s = none ∧ mayQuarantine k s = false))))) = true
    ∧ (let k : Nat := 5;
      let s : State := State.reset;
      let s : State := liveDown 5 (trayState s);
      (fun tr => decide (((s.rd .module Fld.fltLiveEvidence k).testBit 0 = true) ∧ (activeMask .module k s = 0) ∧ (downTrayOf k s = some tr))) (4)) = true
    ∧ (let k : Nat := 4;
      let s : State := State.reset;
      let s : State := (trayState s).onM fun m => { m with live := { m.live with trays := [] } };
      decide ((s.isLeaf = true) ∧ (trayDown k s = true) ∧ (s.m.live.trays.contains k = false))) = true
    ∧ (let k : Nat := 4;
      let s : State := State.reset;
      let s : State := trayState s;
      decide ((s.isLeaf = false ∨ trayDown k s = false ∨ s.m.live.trays.contains k = true))) = true := by decide +kernel

theorem met_QuorumDecidesAndNoticesSpread :
    (let id : Nat := 6;
      let s : State := State.reset;
      let s : State := facesState s;
      let lacks := (established .module id s).any (fun x => x.roles.testBit roleManage) = false ∨ inRecovery .module s = true;
      decide ((lacks))) = true
    ∧ (let id : Nat := 5;
      let e : Eid := 0x299;
      let s : State := State.reset;
      let s : State := facesState s;
      let has := (established .module id s).any (fun x => x.roles.testBit roleManage) = true ∧ inRecovery .module s = false;
      decide ((has) ∧ (portFacing e s = none))) = true
    ∧ (let id : Nat := 5;
      let n : Nat := 3;
      let e : Eid := 0x281;
      let s : State := State.reset;
      let s : State := facesState s;
      let has := (established .module id s).any (fun x => x.roles.testBit roleManage) = true ∧ inRecovery .module s = false;
      let faces := fun (p : Nat) => portFacing e s = some p;
      (fun p => decide ((has) ∧ (faces p) ∧ ((s.rdb .module Fld.fltLiveWitness p = false ∨ (n ≠ 1 ∧ n ≠ 2))))) (3)) = true
    ∧ (let id : Nat := 5;
      let n : Nat := 1;
      let e : Eid := 0x281;
      let s : State := State.reset;
      let s : State := facesState s;
      let has := (established .module id s).any (fun x => x.roles.testBit roleManage) = true ∧ inRecovery .module s = false;
      let faces := fun (p : Nat) => portFacing e s = some p;
      (fun p => decide ((has) ∧ (faces p) ∧ ((n = 1 ∨ n = 2)) ∧ (s.rdb .module Fld.fltLiveWitness p = true))) (3)) = true
    ∧ (let id : Nat := 6;
      let s : State := State.reset;
      let s : State := facesState s;
      let lacks := (established .module id s).any (fun x => x.roles.testBit roleManage) = false ∨ inRecovery .module s = true;
      decide ((lacks))) = true
    ∧ (let id : Nat := 5;
      let e : Eid := 0x299;
      let s : State := State.reset;
      let s : State := facesState s;
      let has := (established .module id s).any (fun x => x.roles.testBit roleManage) = true ∧ inRecovery .module s = false;
      decide ((has) ∧ (portFacing e s = none))) = true
    ∧ (let id : Nat := 5;
      let n : Nat := 1;
      let nonce : Nat := 99;
      let e : Eid := 0x281;
      let s : State := State.reset;
      let s : State := facesState s;
      let has := (established .module id s).any (fun x => x.roles.testBit roleManage) = true ∧ inRecovery .module s = false;
      let faces := fun (p : Nat) => portFacing e s = some p;
      (fun b p => decide ((has) ∧ (faces p) ∧ (((yesVoters .module n e nonce b s).length < 2 ∨ (n ≠ 1 ∧ n ≠ 2))))) (default) (3)) = true
    ∧ (let id : Nat := 5;
      let e : Eid := 0x281;
      let s : State := State.reset;
      let s : State := facesState s;
      let has := (established .module id s).any (fun x => x.roles.testBit roleManage) = true ∧ inRecovery .module s = false;
      let faces := fun (p : Nat) => portFacing e s = some p;
      (fun p => decide ((has) ∧ (faces p))) (3)) = true
    ∧ (let id : Nat := 5;
      let n : Nat := 1;
      let e : Eid := 0x281;
      let s : State := State.reset;
      let s : State := facesState s;
      let has := (established .module id s).any (fun x => x.roles.testBit roleManage) = true ∧ inRecovery .module s = false;
      let faces := fun (p : Nat) => portFacing e s = some p;
      (fun p => decide ((has) ∧ (faces p) ∧ ((n = 1 ∨ n = 2)))) (3)) = true
    ∧ (let id : Nat := 6;
      let s : State := State.reset;
      let s : State := facesState s;
      let lacks := (established .module id s).any (fun x => x.roles.testBit roleManage) = false ∨ inRecovery .module s = true;
      decide ((lacks))) = true
    ∧ (let id : Nat := 5;
      let s : State := State.reset;
      let s : State := facesState s;
      let has := (established .module id s).any (fun x => x.roles.testBit roleManage) = true ∧ inRecovery .module s = false;
      decide ((has))) = true
    ∧ (let e : Eid := 0x281;
      let s : State := State.reset;
      let s : State := s.onUnit .endpoint fun u => { u with dead := [0x281] };
      decide ((s.endpoint.dead.contains e = true))) = true
    ∧ (let e : Eid := 0x281;
      let s : State := State.reset;
      let s : State := s.onUnit .endpoint fun u => { u with dead := [] };
      decide ((s.endpoint.dead.contains e = false) ∧ (s.endpoint.dead.length < 1024))) = true
    ∧ (let e : Eid := 0x281;
      let s : State := State.reset;
      let s : State := s.onUnit .endpoint fun u => { u with dead := List.replicate 1024 0x282 };
      decide ((s.endpoint.dead.contains e = false) ∧ (1024 ≤ s.endpoint.dead.length))) = true
    ∧ (let id : Nat := 6;
      let s : State := State.reset;
      let s : State := facesState s;
      let lacks := (established .module id s).any (fun x => x.roles.testBit roleManage) = false ∨ inRecovery .module s = true;
      decide ((lacks))) = true
    ∧ (let id : Nat := 5;
      let s : State := State.reset;
      let s : State := facesState s;
      let has := (established .module id s).any (fun x => x.roles.testBit roleManage) = true ∧ inRecovery .module s = false;
      decide ((has))) = true := by decide +kernel

theorem met_ResetsLeaveWhatTheySay :
    (let s : State := State.reset;
      let s : State := (s.wrb .module Fld.fltStatusFatal 0 true).wrb .module Fld.fltCtlAutoWarm 0 true;
      decide ((s.rdb .module Fld.fltStatusFatal = true) ∧ (s.rdb .module Fld.fltCtlAutoWarm = true))) = true
    ∧ (let s : State := State.reset;
      let s : State := s.wrb .module Fld.fltStatusFatal 0 false;
      decide ((s.rdb .module Fld.fltStatusFatal = false ∨ s.rdb .module Fld.fltCtlAutoWarm = false))) = true
    ∧ (let s : State := State.reset;
      let s : State := (s.wr .module Fld.mgtStatusPupState 0 1).onM fun m => { m with bring := { m.bring with powerGood := true } };
      decide ((s.m.bring.powerGood = true) ∧ (s.rd .module Fld.mgtStatusPupState ≠ 0))) = true
    ∧ (let s : State := State.reset;
      let s : State := s.onM fun m => { m with bring := { m.bring with powerGood := false }, sec := { m.sec with flash := [] } };
      let bad := fun (a : List Byte) => imgField a 0 4 ≠ 0x51554254;
      (fun a b => decide ((s.m.bring.powerGood = false) ∧ (s.m.sec.flash = []) ∧ (bad a) ∧ (bad b))) ([1]) ([2])) = true
    ∧ (let s : State := State.reset;
      let s : State := s.onM fun m => { m with bring := { m.bring with powerGood := false }, sec := { m.sec with flash := [], otp := none } };
      decide ((s.m.bring.powerGood = false) ∧ (s.m.sec.flash = []) ∧ (s.m.sec.otp = none))) = true
    ∧ (let s : State := State.reset;
      let s : State := s.onM fun m => { m with power := { m.power with loss := false } };
      decide ((s.m.power.loss = false))) = true
    ∧ (let s : State := State.reset;
      let s : State := s.onM fun m => { m with power := { m.power with loss := true } };
      decide ((s.m.power.loss = true))) = true
    ∧ (let s : State := State.reset;
      let s : State := (armedRule 0 s).wrb .module Fld.ratCtlEnable 0 false;
      let quiet := s.endpoint.xpt.finished = [] ∧ s.module.xpt.finished = [];
      decide ((quiet) ∧ (rattleArmed s = false))) = true
    ∧ (let s : State := State.reset;
      let s : State := armedRule 1 s;
      let quiet := s.endpoint.xpt.finished = [] ∧ s.module.xpt.finished = [];
      let lone := fun (j : Nat) => j < 64 ∧ s.rdb .module Fld.ratRuleValid j = true ∧ (∀ m : Nat, m < 64 → m ≠ j → s.rdb .module Fld.ratRuleValid m = false);
      (fun j => decide ((quiet) ∧ (rattleArmed s = true) ∧ (lone j) ∧ (s.rd .module Fld.ratRuleKind j = 7) ∧ (s.rd .module Fld.ratRuleTargetType j = 3) ∧ (s.rd .module Fld.ratRuleTarget j < 12) ∧ (s.rd .module Fld.ratRuleRateLog2 j = 0))) (4)) = true
    ∧ (let s : State := State.reset;
      let s : State := armedRule 2 s;
      let quiet := s.endpoint.xpt.finished = [] ∧ s.module.xpt.finished = [];
      let lone := fun (j : Nat) => j < 64 ∧ s.rdb .module Fld.ratRuleValid j = true ∧ (∀ m : Nat, m < 64 → m ≠ j → s.rdb .module Fld.ratRuleValid m = false);
      (fun j => decide ((quiet) ∧ (rattleArmed s = true) ∧ (lone j) ∧ (s.rd .module Fld.ratRuleKind j = 7) ∧ (s.rd .module Fld.ratRuleTargetType j = 3) ∧ (s.rd .module Fld.ratRuleTarget j < 12) ∧ (s.rd .module Fld.ratRuleRateLog2 j = 0))) (4)) = true
    ∧ (let s : State := State.reset;
      let s : State := s.onM fun m => { m with rattle := { m.rattle with flaps := [] } };
      (fun p => decide ((smapGet? s.m.rattle.flaps p = none))) (3)) = true
    ∧ (let s : State := State.reset;
      let s : State := s.onM fun m => { m with rattle := { m.rattle with flaps := [(3, [3, 4])] } };
      (fun p lanes => decide ((smapGet? s.m.rattle.flaps p = some lanes))) (3) ([3, 4])) = true := by decide +kernel

theorem met_RegistersAreReadAndWritten :
    (let a : Nat := regOffset .module .tilCtl 0 0;
      let r : Reg := .tilCtl;
      let i : Nat := 0;
      let w : Nat := 0;
      let s : State := State.reset;
      let s : State := settledState (s.wr .module Fld.secOwnHeld 0 0);
      let quiet := s.endpoint.xpt.finished = [] ∧ s.module.xpt.finished = [];
      let plain : List Reg := [.jigCtl, .tilCtl, .memCtl, .mrnCtl, .redCtl, .telCtl, .telStream, .secCtl, .fltCtl, .fltDomain, .pwrCtl];
      let at' := fun (sd : Side) => regAt sd a = some (r, i, w);
      let opens := fun (sd : Side) (path : Path) => rwlOpen sd path a s = true;
      (fun (path : Path) => decide ((quiet) ∧ (at' .module) ∧ (r ∈ plain) ∧ (opens .module path))) (.host)) = true
    ∧ (let a : Nat := regOffset .module .telStream 3 1;
      let r : Reg := .telStream;
      let i : Nat := 3;
      let w : Nat := 1;
      let s : State := State.reset;
      let s : State := settledState s;
      let quiet := s.endpoint.xpt.finished = [] ∧ s.module.xpt.finished = [];
      let plain : List Reg := [.jigCtl, .tilCtl, .memCtl, .mrnCtl, .redCtl, .telCtl, .telStream, .secCtl, .fltCtl, .fltDomain, .pwrCtl];
      let at' := fun (sd : Side) => regAt sd a = some (r, i, w);
      let opens := fun (sd : Side) (path : Path) => rwlOpen sd path a s = true;
      (fun (path : Path) => decide ((quiet) ∧ (at' .module) ∧ (r ∈ plain) ∧ (opens .module path))) (.management)) = true
    ∧ (let a : Nat := regOffset .module .tilCtl 0 0;
      let r : Reg := .tilCtl;
      let i : Nat := 0;
      let w : Nat := 0;
      let s : State := State.reset;
      let s : State := settledState (s.wr .module Fld.secOwnHeld 0 4095);
      let quiet := s.endpoint.xpt.finished = [] ∧ s.module.xpt.finished = [];
      let plain : List Reg := [.jigCtl, .tilCtl, .memCtl, .mrnCtl, .redCtl, .telCtl, .telStream, .secCtl, .fltCtl, .fltDomain, .pwrCtl];
      let at' := fun (sd : Side) => regAt sd a = some (r, i, w);
      let closed := fun (sd : Side) (path : Path) => rwlOpen sd path a s = false;
      (fun (path : Path) => decide ((quiet) ∧ (at' .module) ∧ (r ∈ plain) ∧ (r ≠ .secCtl) ∧ (closed .module path))) (.host)) = true
    ∧ (let a : Nat := regOffset .endpoint .fxeIntEn 0 0;
      let r : Reg := .fxeIntEn;
      let i : Nat := 0;
      let w : Nat := 0;
      let s : State := State.reset;
      let s : State := settledState s;
      let quiet := s.endpoint.xpt.finished = [] ∧ s.module.xpt.finished = [];
      let plainE : List Reg := [.fxeIntEn, .fxeCtxcfg, .fxeMcast, .fxePwr, .memWin];
      let at' := fun (sd : Side) => regAt sd a = some (r, i, w);
      let opens := fun (sd : Side) (path : Path) => rwlOpen sd path a s = true;
      (fun (path : Path) => decide ((quiet) ∧ (at' .endpoint) ∧ (r ∈ plainE) ∧ (opens .endpoint path))) (.management)) = true
    ∧ (let r : Reg := .tilCtl;
      let plain : List Reg := [.jigCtl, .tilCtl, .memCtl, .mrnCtl, .redCtl, .telCtl, .telStream, .secCtl, .fltCtl, .fltDomain, .pwrCtl];
      decide ((r ∈ plain))) = true
    ∧ (let a : Nat := regOffset .module .tilCtl 0 0;
      let r : Reg := .tilCtl;
      let plain : List Reg := [.jigCtl, .tilCtl, .memCtl, .mrnCtl, .redCtl, .telCtl, .telStream, .secCtl, .fltCtl, .fltDomain, .pwrCtl];
      (fun l => decide ((r ∈ plain) ∧ ((l.length ≠ 8 ∨ a % 8 ≠ 0)) ∧ ((a < 0x2801000 ∨ 0x2802000 ≤ a)))) ([1, 2])) = true
    ∧ (let a : Nat := 0x70;
      let r : Reg := .tilCtl;
      let s : State := State.reset;
      let s : State := settledState s;
      let quiet := s.endpoint.xpt.finished = [] ∧ s.module.xpt.finished = [];
      let plain : List Reg := [.jigCtl, .tilCtl, .memCtl, .mrnCtl, .redCtl, .telCtl, .telStream, .secCtl, .fltCtl, .fltDomain, .pwrCtl];
      (fun (sd : Side) => decide ((quiet) ∧ (r ∈ plain) ∧ (regAt sd a = none) ∧ ((a < 0x2801000 ∨ 0x2802000 ≤ a)))) (.endpoint)) = true
    ∧ (let a : Nat := 0x2801010;
      (fun l => decide ((0x2801000 ≤ a) ∧ (a + l.length ≤ 0x2802000) ∧ (a % 4 = 0) ∧ (l.length % 4 = 0))) ([1, 2, 3, 4])) = true
    ∧ (let s : State := State.reset;
      let s : State := sessionState .endpoint 15 s;
      let has := fun (sd : Side) (id : Nat) => (established sd id s).any (fun x => x.roles.testBit roleManage) = true;
      (fun (sd : Side) id => decide ((has sd id))) (.endpoint) (5)) = true
    ∧ (let a : Nat := regOffset .module .tilCtl 0 0;
      let r : Reg := .tilCtl;
      let i : Nat := 0;
      let w : Nat := 0;
      let s : State := State.reset;
      let s : State := sessionState .endpoint 15 (sessionState .module 15 (s.wr .module Fld.secOwnHeld 0 0));
      let plain : List Reg := [.jigCtl, .tilCtl, .memCtl, .mrnCtl, .redCtl, .telCtl, .telStream, .secCtl, .fltCtl, .fltDomain, .pwrCtl];
      let at' := fun (sd : Side) => regAt sd a = some (r, i, w);
      let has := fun (sd : Side) (id : Nat) => (established sd id s).any (fun x => x.roles.testBit roleManage) = true;
      (fun id => decide ((has .module id) ∧ (at' .module) ∧ (r ∈ plain))) (5)) = true
    ∧ (let s : State := State.reset;
      let s : State := sessionState .module 15 s;
      let lacks := fun (sd : Side) (id : Nat) => (established sd id s).any (fun x => x.roles.testBit roleManage) = false;
      (fun (sd : Side) id => decide ((lacks sd id))) (.module) (6)) = true
    ∧ (let a : Nat := regOffset .module .fltDomain 3 0;
      let r : Reg := .fltDomain;
      let i : Nat := 3;
      let w : Nat := 0;
      let s : State := State.reset;
      let s : State := settledState (sessionState .module 15 s);
      let quiet := s.endpoint.xpt.finished = [] ∧ s.module.xpt.finished = [];
      let plain : List Reg := [.jigCtl, .tilCtl, .memCtl, .mrnCtl, .redCtl, .telCtl, .telStream, .secCtl, .fltCtl, .fltDomain, .pwrCtl];
      let at' := fun (sd : Side) => regAt sd a = some (r, i, w);
      let has := fun (sd : Side) (id : Nat) => (established sd id s).any (fun x => x.roles.testBit roleManage) = true;
      (fun id => decide ((quiet) ∧ (has .module id) ∧ (inRecovery .module s = false) ∧ (at' .module) ∧ (r ∈ plain))) (5)) = true
    ∧ (let a : Nat := regOffset .endpoint .fxeCtxcfg 3 0;
      let r : Reg := .fxeCtxcfg;
      let i : Nat := 3;
      let w : Nat := 0;
      let s : State := State.reset;
      let s : State := settledState (sessionState .endpoint 15 s);
      let quiet := s.endpoint.xpt.finished = [] ∧ s.module.xpt.finished = [];
      let plainE : List Reg := [.fxeIntEn, .fxeCtxcfg, .fxeMcast, .fxePwr, .memWin];
      let at' := fun (sd : Side) => regAt sd a = some (r, i, w);
      let has := fun (sd : Side) (id : Nat) => (established sd id s).any (fun x => x.roles.testBit roleManage) = true;
      (fun id => decide ((quiet) ∧ (has .endpoint id) ∧ (at' .endpoint) ∧ (r ∈ plainE))) (5)) = true
    ∧ (let r : Reg := .fltDomain;
      let s : State := State.reset;
      let s : State := sessionState .module 15 s;
      let plain : List Reg := [.jigCtl, .tilCtl, .memCtl, .mrnCtl, .redCtl, .telCtl, .telStream, .secCtl, .fltCtl, .fltDomain, .pwrCtl];
      let lacks := fun (sd : Side) (id : Nat) => (established sd id s).any (fun x => x.roles.testBit roleManage) = false;
      (fun (sd : Side) id => decide ((lacks sd id) ∧ (r ∈ plain))) (.module) (6)) = true
    ∧ (let r : Reg := .fltDomain;
      let s : State := State.reset;
      let s : State := (sessionState .module 15 s).wr .module Fld.mgtStatusPupState 0 2;
      let plain : List Reg := [.jigCtl, .tilCtl, .memCtl, .mrnCtl, .redCtl, .telCtl, .telStream, .secCtl, .fltCtl, .fltDomain, .pwrCtl];
      decide ((inRecovery .module s = true) ∧ (r ∈ plain))) = true
    ∧ (let a : Nat := regOffset .module .tilCtl 0 0;
      (fun n => decide ((n ≠ 8 ∨ a % 8 ≠ 0))) (4)) = true
    ∧ (let a : Nat := 16;
      decide ((a % 8 = 0) ∧ (a < 2 ^ 20))) = true
    ∧ (let a : Nat := regOffset .endpoint .fxeIntEn 0 0;
      let r : Reg := .fxeIntEn;
      let i : Nat := 0;
      let w : Nat := 0;
      let v : Word := 0x155;
      let s : State := State.reset;
      let s : State := settledState (s.wrb .endpoint Fld.fxeIdMgmtLock 0 false);
      let quiet := s.endpoint.xpt.finished = [] ∧ s.module.xpt.finished = [];
      let plainE : List Reg := [.fxeIntEn, .fxeCtxcfg, .fxeMcast, .fxePwr, .memWin];
      let at' := fun (sd : Side) => regAt sd a = some (r, i, w);
      let opens := fun (sd : Side) (path : Path) => rwlOpen sd path a s = true;
      decide ((quiet) ∧ (at' .endpoint) ∧ (a < 2 ^ 20) ∧ (a % 8 = 0) ∧ (r ∈ plainE) ∧ (coreDiscards a v s = false) ∧ (opens .endpoint .corePort))) = true
    ∧ (let a : Nat := regOffset .endpoint .fxePwr 0 0;
      let r : Reg := .fxePwr;
      let i : Nat := 0;
      let w : Nat := 0;
      let s : State := State.reset;
      let s : State := settledState (s.wrb .endpoint Fld.fxeIdMgmtLock 0 true);
      let quiet := s.endpoint.xpt.finished = [] ∧ s.module.xpt.finished = [];
      let at' := fun (sd : Side) => regAt sd a = some (r, i, w);
      let closed := fun (sd : Side) (path : Path) => rwlOpen sd path a s = false;
      decide ((quiet) ∧ (at' .endpoint) ∧ (a < 2 ^ 20) ∧ (a % 8 = 0) ∧ (r = .fxePwr) ∧ (closed .endpoint .corePort))) = true
    ∧ (let a : Nat := regOffset .module .tilCtl 0 0;
      (fun l => decide ((l.length ≠ 8 ∨ a % 8 ≠ 0) ∧ (l.length ≠ 64))) ([1, 2])) = true := by decide +kernel

theorem met_InjectionNeedsTestArmed :
    (let a : Nat := regOffset .module .ratRule 3 0;
      let r : Reg := .ratRule;
      let i : Nat := 3;
      let v : Word := 0x8000000000000001;
      let s : State := State.reset;
      let s : State := settledState ((sessionState .module 15 s).wr .module Fld.secOwnHeld 0 4095);
      let quiet := s.endpoint.xpt.finished = [] ∧ s.module.xpt.finished = [];
      let enables := regAt .module a = some (r, i, 0) ∧ (r = .ratCtl ∨ r = .ratRule) ∧ v.getLsbD 63 = true;
      decide ((quiet) ∧ (enables))) = true
    ∧ (let a : Nat := regOffset .module .ratCtl 0 0;
      let r : Reg := .ratCtl;
      let i : Nat := 0;
      let v : Word := 0x8000000000000007;
      let s : State := State.reset;
      let s : State := settledState ((sessionState .module 15 s).wrb .module Fld.secStatusTestArmed 0 true);
      let quiet := s.endpoint.xpt.finished = [] ∧ s.module.xpt.finished = [];
      let enables := regAt .module a = some (r, i, 0) ∧ (r = .ratCtl ∨ r = .ratRule) ∧ v.getLsbD 63 = true;
      decide ((quiet) ∧ (enables))) = true
    ∧ (let a : Nat := regOffset .module .ratCtl 0 0;
      let r : Reg := .ratCtl;
      let i : Nat := 0;
      let id : Nat := 5;
      let v : Word := 0x8000000000000007;
      let s : State := State.reset;
      let s : State := settledState ((sessionState .module 15 s).wrb .module Fld.secStatusTestArmed 0 false);
      let quiet := s.endpoint.xpt.finished = [] ∧ s.module.xpt.finished = [];
      let enables := regAt .module a = some (r, i, 0) ∧ (r = .ratCtl ∨ r = .ratRule) ∧ v.getLsbD 63 = true;
      let armed := s.rdb .module Fld.secStatusTestArmed;
      let has := fun (role : Nat) => (established .module id s).any (fun x => x.roles.testBit role) && !inRecovery .module s;
      decide ((quiet) ∧ (enables) ∧ (has roleManage = true) ∧ ((has roleTest && armed) = false))) = true
    ∧ (let a : Nat := regOffset .module .ratCtl 0 0;
      let r : Reg := .ratCtl;
      let i : Nat := 0;
      let id : Nat := 5;
      let v : Word := 0x8000000000000007;
      let s : State := State.reset;
      let s : State := settledState ((sessionState .module 14 s).wrb .module Fld.secStatusTestArmed 0 true);
      let quiet := s.endpoint.xpt.finished = [] ∧ s.module.xpt.finished = [];
      let enables := regAt .module a = some (r, i, 0) ∧ (r = .ratCtl ∨ r = .ratRule) ∧ v.getLsbD 63 = true;
      let armed := s.rdb .module Fld.secStatusTestArmed;
      let has := fun (role : Nat) => (established .module id s).any (fun x => x.roles.testBit role) && !inRecovery .module s;
      decide ((quiet) ∧ (enables) ∧ (has roleManage = true) ∧ ((has roleTest && armed) = false))) = true
    ∧ (let a : Nat := regOffset .module .ratRule 3 0;
      let r : Reg := .ratRule;
      let i : Nat := 3;
      let id : Nat := 5;
      let v : Word := 0x8000000000000001;
      let s : State := State.reset;
      let s : State := settledState ((sessionState .module 15 s).wrb .module Fld.secStatusTestArmed 0 true);
      let quiet := s.endpoint.xpt.finished = [] ∧ s.module.xpt.finished = [];
      let enables := regAt .module a = some (r, i, 0) ∧ (r = .ratCtl ∨ r = .ratRule) ∧ v.getLsbD 63 = true;
      let armed := s.rdb .module Fld.secStatusTestArmed;
      let has := fun (role : Nat) => (established .module id s).any (fun x => x.roles.testBit role) && !inRecovery .module s;
      decide ((quiet) ∧ (enables) ∧ (has roleManage = true) ∧ ((has roleTest && armed) = true))) = true
    ∧ (let a : Nat := regOffset .module .ratCtl 0 0;
      let r : Reg := .ratCtl;
      let i : Nat := 0;
      let id : Nat := 5;
      let v : Word := 0x8000000000000007;
      let s : State := State.reset;
      let s : State := settledState ((sessionState .module 15 s).wrb .module Fld.secStatusTestArmed 0 true);
      let quiet := s.endpoint.xpt.finished = [] ∧ s.module.xpt.finished = [];
      let enables := regAt .module a = some (r, i, 0) ∧ (r = .ratCtl ∨ r = .ratRule) ∧ v.getLsbD 63 = true;
      let armed := s.rdb .module Fld.secStatusTestArmed;
      let has := fun (role : Nat) => (established .module id s).any (fun x => x.roles.testBit role) && !inRecovery .module s;
      decide ((quiet) ∧ (enables) ∧ (has roleManage = true) ∧ ((has roleTest && armed) = true))) = true
    ∧ (let id : Nat := 5;
      let s : State := State.reset;
      let s : State := sessionState .module 15 s;
      let has := fun (role : Nat) => (established .module id s).any (fun x => x.roles.testBit role) && !inRecovery .module s;
      decide ((has roleTest = true))) = true
    ∧ (let id : Nat := 5;
      let s : State := State.reset;
      let s : State := (sessionState .module 15 s).wrb .module Fld.secStatusTestArmed 0 true;
      let has := fun (role : Nat) => (established .module id s).any (fun x => x.roles.testBit role) && !inRecovery .module s;
      decide ((has roleTest = true))) = true
    ∧ (let id : Nat := 6;
      let s : State := State.reset;
      let s : State := sessionState .module 15 s;
      let has := fun (role : Nat) => (established .module id s).any (fun x => x.roles.testBit role) && !inRecovery .module s;
      decide ((has roleTest = false))) = true := by decide +kernel

theorem met_OwnEidNeedsItsKindTierAndPlane :
    (let path : Path := .host;
      let v : Word := 0x80005;
      let s : State := State.reset;
      let s : State := settledState (s.wr .module Fld.secOwnHeld 0 0);
      let quiet := s.endpoint.xpt.finished = [] ∧ s.module.xpt.finished = [];
      let a := regOffset .module .glbEid 0 0;
      let kind := bitsOf v 19 18;
      let tier := bitsOf v 17 16;
      let plane := v.getLsbD 15;
      let index := bitsOf v 14 0;
      let wrong := kind ≠ 1 ∨ tier ≠ s.rd .module Fld.glbRoleRole ∨ plane ≠ s.rdb .module Fld.glbRolePlane ∨ 3 ≤ tier ∨ (if tier = 2 then 1024 else 2048) ≤ index;
      let opens := rwlOpen .module path a s;
      decide ((quiet) ∧ (wrong) ∧ (opens = true))) = true
    ∧ (let path : Path := .host;
      let v : Word := 0x50005;
      let s : State := State.reset;
      let s : State := settledState (s.wr .module Fld.secOwnHeld 0 0);
      let quiet := s.endpoint.xpt.finished = [] ∧ s.module.xpt.finished = [];
      let a := regOffset .module .glbEid 0 0;
      let kind := bitsOf v 19 18;
      let tier := bitsOf v 17 16;
      let plane := v.getLsbD 15;
      let index := bitsOf v 14 0;
      let wrong := kind ≠ 1 ∨ tier ≠ s.rd .module Fld.glbRoleRole ∨ plane ≠ s.rdb .module Fld.glbRolePlane ∨ 3 ≤ tier ∨ (if tier = 2 then 1024 else 2048) ≤ index;
      let opens := rwlOpen .module path a s;
      decide ((quiet) ∧ (wrong) ∧ (opens = true))) = true
    ∧ (let path : Path := .host;
      let v : Word := 0x48005;
      let s : State := State.reset;
      let s : State := settledState (s.wr .module Fld.secOwnHeld 0 0);
      let quiet := s.endpoint.xpt.finished = [] ∧ s.module.xpt.finished = [];
      let a := regOffset .module .glbEid 0 0;
      let kind := bitsOf v 19 18;
      let tier := bitsOf v 17 16;
      let plane := v.getLsbD 15;
      let index := bitsOf v 14 0;
      let wrong := kind ≠ 1 ∨ tier ≠ s.rd .module Fld.glbRoleRole ∨ plane ≠ s.rdb .module Fld.glbRolePlane ∨ 3 ≤ tier ∨ (if tier = 2 then 1024 else 2048) ≤ index;
      let opens := rwlOpen .module path a s;
      decide ((quiet) ∧ (wrong) ∧ (opens = true))) = true
    ∧ (let path : Path := .host;
      let v : Word := 0x40800;
      let s : State := State.reset;
      let s : State := settledState (s.wr .module Fld.secOwnHeld 0 0);
      let quiet := s.endpoint.xpt.finished = [] ∧ s.module.xpt.finished = [];
      let a := regOffset .module .glbEid 0 0;
      let kind := bitsOf v 19 18;
      let tier := bitsOf v 17 16;
      let plane := v.getLsbD 15;
      let index := bitsOf v 14 0;
      let wrong := kind ≠ 1 ∨ tier ≠ s.rd .module Fld.glbRoleRole ∨ plane ≠ s.rdb .module Fld.glbRolePlane ∨ 3 ≤ tier ∨ (if tier = 2 then 1024 else 2048) ≤ index;
      let opens := rwlOpen .module path a s;
      decide ((quiet) ∧ (wrong) ∧ (opens = true))) = true
    ∧ (let path : Path := .host;
      let v : Word := 0x40800;
      let s : State := State.reset;
      let s : State := settledState (s.wr .module Fld.secOwnHeld 0 4095);
      let quiet := s.endpoint.xpt.finished = [] ∧ s.module.xpt.finished = [];
      let a := regOffset .module .glbEid 0 0;
      let kind := bitsOf v 19 18;
      let tier := bitsOf v 17 16;
      let plane := v.getLsbD 15;
      let index := bitsOf v 14 0;
      let wrong := kind ≠ 1 ∨ tier ≠ s.rd .module Fld.glbRoleRole ∨ plane ≠ s.rdb .module Fld.glbRolePlane ∨ 3 ≤ tier ∨ (if tier = 2 then 1024 else 2048) ≤ index;
      let opens := rwlOpen .module path a s;
      decide ((quiet) ∧ (wrong) ∧ (opens = false))) = true
    ∧ (let path : Path := .host;
      let v : Word := 0x407FF;
      let s : State := State.reset;
      let s : State := settledState ((((s.wr .module Fld.secOwnHeld 0 0).wr .module Fld.glbRoleRole 0 0).wr .module Fld.glbRolePlane 0 0).wrb .module Fld.glbEidLocked 0 false);
      let quiet := s.endpoint.xpt.finished = [] ∧ s.module.xpt.finished = [];
      let a := regOffset .module .glbEid 0 0;
      let kind := bitsOf v 19 18;
      let tier := bitsOf v 17 16;
      let plane := v.getLsbD 15;
      let index := bitsOf v 14 0;
      let wrong := kind ≠ 1 ∨ tier ≠ s.rd .module Fld.glbRoleRole ∨ plane ≠ s.rdb .module Fld.glbRolePlane ∨ 3 ≤ tier ∨ (if tier = 2 then 1024 else 2048) ≤ index;
      let opens := rwlOpen .module path a s;
      decide ((quiet) ∧ (¬ wrong) ∧ (opens = true) ∧ (s.rdb .module Fld.glbEidLocked = false))) = true
    ∧ (let path : Path := .host;
      let s : State := State.reset;
      let s : State := bringState 9 true (s.wr .module Fld.glbEidEid 0 0x80005);
      let runs := bringStep s = 9 ∧ bringBusy s = true ∧ s.m.bring.outcome = none;
      let begins := bringBusy s = false ∧ rwlOpen .module path (regOffset .module .glbBringupCtl 0 0) s = true ∧ mayStartStep 9 s = true;
      decide ((runs ∨ begins) ∧ (s.rd .module Fld.glbEidEid / 2 ^ 18 ≠ 1))) = true
    ∧ (let path : Path := .host;
      let s : State := State.reset;
      let s : State := bringState 8 false (s.wr .module Fld.glbEidEid 0 5);
      let runs := bringStep s = 9 ∧ bringBusy s = true ∧ s.m.bring.outcome = none;
      let begins := bringBusy s = false ∧ rwlOpen .module path (regOffset .module .glbBringupCtl 0 0) s = true ∧ mayStartStep 9 s = true;
      decide ((runs ∨ begins) ∧ (s.rd .module Fld.glbEidEid / 2 ^ 18 ≠ 1))) = true := by decide +kernel

theorem met_PresetCachesAreClearedByColdResets :
    (let sd : Side := .module;
      let n : Nat := 3;
      let s : State := State.reset;
      let s : State := (List.range 6).foldl (fun s k => s.wr .module Fld.lnkStatusSlice k 0) ((s.onLane .module 3 fun l => { l with cache := [{ eid := 5, lane := 2, taps := 0, eqState := 7, precode := true }] }).onLane .endpoint 3 fun l => { l with cache := [{ eid := 5, lane := 2, taps := 0, eqState := 7, precode := true }] });
      (fun x => decide ((freeSlice sd n s = some x))) (1)) = true
    ∧ (let sd : Side := .module;
      let n : Nat := 3;
      let s : State := State.reset;
      let s : State := ((List.range 6).foldl (fun s k => s.wr .module Fld.lnkStatusSlice k 0) s).wr .module Fld.lnkStatusState 3 8;
      (fun x errors bits => decide ((laneSt sd n s = 8) ∧ (ratioHigh errors bits = true) ∧ (freeSlice sd n s = some x))) (1) (10000) (10000)) = true
    ∧ (let sd : Side := .module;
      let n : Nat := 3;
      let s : State := State.reset;
      let s : State := (((List.range 6).foldl (fun s k => s.wr .module Fld.lnkStatusSlice k 0) s).wr .module Fld.lnkStatusState 3 4).wr .module Fld.lnkStatusAttempts 3 2;
      let u := laneLeaves sd n s;
      (fun x => decide ((2 ≤ laneSt sd n s) ∧ (laneSt sd n s ≤ 7) ∧ (u.rd sd Fld.lnkStatusAttempts n = 2) ∧ (freeSlice sd n u = some x))) (1)) = true := by decide +kernel

theorem met_NocPlanesAreReportedAndTakenOut :
    (let s : State := State.reset;
      let s : State := settledState (s.wr .module Fld.secOwnHeld 0 0);
      let quiet := s.endpoint.xpt.finished = [] ∧ s.module.xpt.finished = [];
      decide ((quiet))) = true
    ∧ (let path : Path := .host;
      let v : Word := 2;
      let s : State := State.reset;
      let s : State := settledState ((s.wr .module Fld.secOwnHeld 0 0).wr .module Fld.glbBringupStatusStep 0 6);
      let quiet := s.endpoint.xpt.finished = [] ∧ s.module.xpt.finished = [];
      let base := regOffset .module .nocStatus 0 0;
      let a := base + 8;
      let opens := rwlOpen .module path a s;
      let out := fun (k : Nat) => v.getLsbD k || s.m.sw.nocFault.contains k;
      decide ((quiet) ∧ (opens = true) ∧ ((out 0 && out 1) = false))) = true
    ∧ (let path : Path := .host;
      let v : Word := 3;
      let s : State := State.reset;
      let s : State := settledState (s.wr .module Fld.secOwnHeld 0 0);
      let quiet := s.endpoint.xpt.finished = [] ∧ s.module.xpt.finished = [];
      let base := regOffset .module .nocStatus 0 0;
      let a := base + 8;
      let opens := rwlOpen .module path a s;
      let out := fun (k : Nat) => v.getLsbD k || s.m.sw.nocFault.contains k;
      decide ((quiet) ∧ (opens = true) ∧ ((out 0 && out 1) = true))) = true
    ∧ (let path : Path := .host;
      let v : Word := 2;
      let s : State := State.reset;
      let s : State := settledState ((s.wr .module Fld.secOwnHeld 0 0).onM fun m => { m with sw := { m.sw with nocFault := [0] } });
      let quiet := s.endpoint.xpt.finished = [] ∧ s.module.xpt.finished = [];
      let base := regOffset .module .nocStatus 0 0;
      let a := base + 8;
      let opens := rwlOpen .module path a s;
      let out := fun (k : Nat) => v.getLsbD k || s.m.sw.nocFault.contains k;
      decide ((quiet) ∧ (opens = true) ∧ ((out 0 && out 1) = true))) = true
    ∧ (let path : Path := .host;
      let s : State := State.reset;
      let s : State := settledState (s.wr .module Fld.secOwnHeld 0 4095);
      let quiet := s.endpoint.xpt.finished = [] ∧ s.module.xpt.finished = [];
      let base := regOffset .module .nocStatus 0 0;
      let a := base + 8;
      let opens := rwlOpen .module path a s;
      decide ((quiet) ∧ (opens = false))) = true
    ∧ (let path : Path := .host;
      let s : State := State.reset;
      let s : State := bringState 6 true s;
      let runs := bringStep s = 6 ∧ bringBusy s = true ∧ s.m.bring.outcome = none;
      let begins := bringBusy s = false ∧ rwlOpen .module path (regOffset .module .glbBringupCtl 0 0) s = true ∧ mayStartStep 6 s = true;
      decide (((runs ∨ begins)))) = true := by decide +kernel

end Sys2Proof.Tests
end

/-! ## One step, the invariant and the frame of a command -/

namespace Sys2Proof.Machine

/-- The next state that a command answers is the one that its law speaks of: it differs from the state before in the command's set
of parts only, and keeps the queue, the interval clock and the invariant. -/
theorem exec_next_ev {c : Instr} {s t : State} (h : exec c s = .next t) : Ev (Fp.exec c) s t := by
  obtain ⟨u, hu, hev⟩ := exec_ev c s
  rw [h] at hu
  cases hu
  exact hev

theorem step_of_pending_cons {s : State} {c : Instr} {rest : List Instr} (h : s.pending = c :: rest) :
    step s = exec c { s with pending := rest } := by
  unfold step
  rw [h]

theorem step_of_pending_nil {s : State} (h : s.pending = []) : step s = .next (tick s) := by
  unfold step
  rw [h]

theorem word_reset (sd : Side) (r : Reg) (i w : Nat) : State.reset.word sd r i w = regReset sd r i w := by
  cases sd <;> rfl

/-- At power-on every memory and register file is empty and both clocks are at 0, so a register word reads its Reset column (R11),
which lies within its fields (R9). -/
theorem reset_inv : Inv State.reset where
  ddr := rfl
  fast := rfl
  mwin := rfl
  scratch := rfl
  regs sd := by cases sd <;> rfl
  time sd := by cases sd <;> decide
  reserved sd r i w hw := by rw [word_reset]; exact regReset_reserved sd r i w hw

/-- A step is one nanosecond or one command, and either keeps the invariant. -/
theorem step_keeps_inv {s t : State} (hs : Inv s) (h : step s = .next t) : Inv t := by
  cases hp : s.pending with
  | nil =>
    rw [step_of_pending_nil hp] at h
    cases h
    exact tick_inv s hs
  | cons c rest =>
    rw [step_of_pending_cons hp] at h
    exact (exec_next_ev h).inv (withPending_inv s rest hs)

end Sys2Proof.Machine

section

open Sys2Proof Sys2Proof.Machine

/-- Settles O4, by the two kinds of step: a nanosecond (`tick_inv`) and a command (`exec_next_ev`). -/
theorem everyStepKeepsTheInvariant : Obligations.EveryStepKeepsTheInvariant :=
  fun _ _ => step_keeps_inv

/-- Settles O5: what a command may touch by its law lies within its row of the table of parts (`touched_bits`). -/
theorem commandsTouchOnlyTheirParts : Obligations.CommandsTouchOnlyTheirParts := by
  intro c s t h
  have hev : Ev (Fp.exec c) s t := exec_next_ev h
  exact ⟨onlyChanges hev (touched c) (touched_bits c), hev.pending, hev.now⟩

/-- Settles O1: the step of a queue that is not empty. -/
theorem stepRunsTheFrontCommand : Obligations.StepRunsTheFrontCommand :=
  fun _ _ _ => step_of_pending_cons rfl

/-- Settles O3. -/
theorem resetMeetsTheInvariant : Obligations.ResetMeetsTheInvariant := reset_inv

end

/-! ## Lanes: the state code, the slice and the preset cache after an operation -/

namespace Sys2Proof.Machine

variable (sd : Side) (n : Nat) (s : State)

theorem laneSt_setLaneSt {st : Nat} (h : st < 32) : laneSt sd n (setLaneSt sd n st s) = st :=
  rd_wr_lit sd s Fld.lnkStatusState n st (by decide) (by decide) h

/-- An operation that leaves LNK.STATUS alone keeps the lane's state. -/
theorem Ev.laneSt {F : Nat} {s t : State} (h : Ev F s t) (sd : Side)
    (hb : F.testBit (Part.reg sd Reg.lnkStatus).idx = false) (n : Nat) : laneSt sd n t = laneSt sd n s :=
  h.rd sd Fld.lnkStatusState hb n

/-- A write to a field of another register keeps the lane's state. -/
theorem laneSt_wr {f : Field} (h : f.reg ≠ .lnkStatus) (i v : Nat) : laneSt sd n (s.wr sd f i v) = laneSt sd n s :=
  rd_wr_reg s sd sd f Fld.lnkStatusState i n v (Ne.symm h)

/-- `enterDetect` leaves the fields of LNK.STATUS above CACHE_HIT. -/
theorem rd_enterDetect_high (ic : Bool) {f : Field} (hr : f.reg = .lnkStatus) (hw : f.word = 0) (hlo : 5 < f.lo) :
    (enterDetect sd n ic s).rd sd f n = s.rd sd f n := by
  have hpreset := (loadInitPreset_ev sd n (setLaneSt sd n 1 s)).rd sd f (by rw [hr]; cases sd <;> rfl) n
  unfold enterDetect
  rw [rd_onLane, rd_wrb_field sd _ Fld.lnkStatusCacheHit f n false hr hw (.inr hlo), hpreset]
  exact rd_wr_field s sd Fld.lnkStatusState f n 1 hr hw (.inr (show 4 < f.lo by omega))

@[simp] theorem laneSt_enterDetect (ic : Bool) : laneSt sd n (enterDetect sd n ic s) = 1 := by
  have hpreset := (loadInitPreset_ev sd n (setLaneSt sd n 1 s)).laneSt sd (by cases sd <;> rfl) n
  calc laneSt sd n (enterDetect sd n ic s)
    _ = laneSt sd n (loadInitPreset sd n (setLaneSt sd n 1 s)) := by
      unfold laneSt enterDetect
      rw [rd_onLane, rd_wrb_field sd _ Fld.lnkStatusCacheHit Fld.lnkStatusState n false rfl rfl (.inl (by decide))]
    _ = laneSt sd n (setLaneSt sd n 1 s) := hpreset
    _ = 1 := laneSt_setLaneSt sd n s (by decide)

@[simp] theorem lane_enterDetect (ic : Bool) : (enterDetect sd n ic s).lane sd n = clearTraining ic (s.lane sd n) := by
  have hpreset := (loadInitPreset_ev sd n (setLaneSt sd n 1 s)).lane sd (by cases sd <;> rfl) n
  unfold enterDetect State.wrb
  rw [lane_onLane_same, lane_wr, hpreset]
  unfold setLaneSt
  rw [lane_wr]

@[simp] theorem laneSt_enterOff : laneSt sd n (enterOff sd n s) = 10 := by
  unfold enterOff laneSt
  rw [rd_onLane]
  exact laneSt_setLaneSt sd n s (by decide)

theorem laneSt_leaveAndRetrain (ic : Bool) : laneSt sd n (leaveAndRetrain sd n ic s) = 1 :=
  laneSt_enterDetect sd n _ ic

/-! ### Sparing (R97, R98) -/

/-- A free slice is one of its chiplet's, so that LNK.STATUS.SLICE holds its number. -/
theorem freeSlice_lt {x : Nat} (h : freeSlice sd n s = some x) : x < 256 := by
  have hx : x < chipletSlices sd := List.mem_range.mp (List.mem_of_find?_eq_some h)
  have hmax : chipletSlices sd < 256 := by cases sd <;> decide
  omega

@[simp] theorem laneSt_remapSlice (x : Nat) : laneSt sd n (remapSlice sd n x s) = 1 := laneSt_enterDetect sd n _ false

theorem rd_remapSlice_slice {x : Nat} (h : x < 256) : (remapSlice sd n x s).rd sd Fld.lnkStatusSlice n = x := by
  unfold remapSlice
  dsimp only
  rw [rd_enterDetect_high sd n _ false rfl rfl (by decide), (logEvent_ev sd _ _).rd sd _ (by cases sd <;> rfl), rd_onLane,
    rd_wr_field _ sd Fld.lnkStatusAttempts Fld.lnkStatusSlice n 0 rfl rfl (.inr (by decide)),
    rd_wr_lit _ _ _ _ _ (by decide) (by decide) h]

@[simp] theorem cache_remapSlice (x : Nat) : ((remapSlice sd n x s).lane sd n).cache = [] := by
  unfold remapSlice
  dsimp only
  rw [lane_enterDetect, (logEvent_ev sd _ _).lane sd (by cases sd <;> rfl), lane_onLane_same]
  rfl

theorem spareNow_of_none (h : freeSlice sd n s = none) : spareNow sd n s = s := by
  simp [spareNow, spareLane, h]

theorem spareNow_of_some {x : Nat} (h : freeSlice sd n s = some x) :
    spareNow sd n s = if laneSt sd n s = 0 ∨ laneSt sd n s = 10
      then setLaneSt sd n (laneSt sd n s) (remapSlice sd n x (laneLeaves sd n s)) else remapSlice sd n x (laneLeaves sd n s) := by
  simp [spareNow, spareLane, h]

theorem rd_spareNow_slice {x : Nat} (h : freeSlice sd n s = some x) : (spareNow sd n s).rd sd Fld.lnkStatusSlice n = x := by
  have hx := rd_remapSlice_slice sd n (laneLeaves sd n s) (freeSlice_lt sd n s h)
  rw [spareNow_of_some sd n s h]
  split
  · exact (rd_wr_field _ sd Fld.lnkStatusState Fld.lnkStatusSlice n _ rfl rfl (.inr (by decide))).trans hx
  · exact hx

theorem cache_spareNow {x : Nat} (h : freeSlice sd n s = some x) : ((spareNow sd n s).lane sd n).cache = [] := by
  rw [spareNow_of_some sd n s h]
  split
  · exact (congrArg LaneState.cache (lane_wr _ _ _ _ _ _ _)).trans (cache_remapSlice sd n _ x)
  · exact cache_remapSlice sd n _ x

/-- A lane that is DISABLED or OFF stays there, every other one trains on its new slice (R98). -/
theorem laneSt_spareNow {x : Nat} (h : freeSlice sd n s = some x) :
    laneSt sd n (spareNow sd n s) = if laneSt sd n s = 0 ∨ laneSt sd n s = 10 then laneSt sd n s else 1 := by
  rw [spareNow_of_some sd n s h]
  split
  · exact laneSt_setLaneSt sd n _ (by omega)
  · exact laneSt_remapSlice sd n _ x

/-! ### Retraining (R109) -/

theorem laneSt_retrainLane (h0 : laneSt sd n s ≠ 0) (h10 : laneSt sd n s ≠ 10) : laneSt sd n (retrainLane sd n s) = 1 := by
  unfold retrainLane
  dsimp only
  rw [if_neg (not_or.mpr ⟨h0, h10⟩)]
  split
  · exact laneSt_enterDetect sd n _ true
  · exact laneSt_leaveAndRetrain sd n s true

theorem retrainLane_of_disabled_or_off (h : laneSt sd n s = 0 ∨ laneSt sd n s = 10) : retrainLane sd n s = s := if_pos h

/-! ### The gate of RWL fields (R10, R353, R514) -/

variable (path : Path) (a v : Nat) (f : State → State)

theorem rwl_of_open (h : rwlOpen sd path a s = true) : rwl sd path a v f s = f s := if_pos h

theorem rwl_of_closed (h : rwlOpen sd path a s = false) : rwl sd path a v f s = rwlDiscard sd a v s := if_neg (by simp [h])

/-- A write that its gate discards leaves every field of LNK.CTL. -/
theorem rd_rwl_of_closed (h : rwlOpen sd path a s = false) {g : Field} (hg : g.reg = .lnkCtl) :
    (rwl sd path a v f s).rd sd g n = s.rd sd g n := by
  rw [rwl_of_closed sd s path a v f h]
  exact (rwlDiscard_ev sd a v s).rd sd g (by rw [hg]; cases sd <;> rfl) n

theorem laneSt_rwl_of_closed (h : rwlOpen sd path a s = false) : laneSt sd n (rwl sd path a v f s) = laneSt sd n s := by
  rw [rwl_of_closed sd s path a v f h]
  exact (rwlDiscard_ev sd a v s).laneSt sd (by cases sd <;> rfl) n

/-! ### Power (R104, R105) -/

/-- The power loop writes nothing to LNK.CTL. -/
theorem rd_applyPower {g : Field} (hg : g.reg = .lnkCtl) : (applyPower sd n s).rd sd g n = s.rd sd g n :=
  (applyPower_ev sd n s).rd sd g (by rw [hg]; cases sd <;> rfl) n

theorem applyPower_of_wanted_zero (hw : wantedPower sd n s = 0) :
    applyPower sd n s = if laneSt sd n s = 10 then enterDetect sd n false s else s := by
  unfold applyPower
  rw [hw]
  rfl

theorem applyPower_of_wanted_off (hw : 2 ≤ wantedPower sd n s) (h : laneSt sd n s ∉ [0, 8, 10]) :
    applyPower sd n s = enterOff sd n s := by
  simp only [List.mem_cons, List.not_mem_nil, or_false, not_or] at h
  obtain ⟨h0, h8, h10⟩ := h
  unfold applyPower
  dsimp only
  split
  · omega
  · omega
  · rw [if_neg h8, if_neg (not_or.mpr ⟨h0, h10⟩)]

theorem rd_wr_power {power : Nat} (h : power ≤ 2) :
    (s.wr sd Fld.lnkCtlPower n power).rd sd Fld.lnkCtlPower n = power :=
  rd_wr_lit sd s Fld.lnkCtlPower n power (by decide) (by decide) (show power < 4 by omega)

theorem wantedPower_wr_power {power : Nat} (h : power ≤ 2) :
    wantedPower sd n (s.wr sd Fld.lnkCtlPower n power) = max power (s.lane sd n).powerHold := by
  unfold wantedPower
  rw [rd_wr_power sd n s h, lane_wr]

theorem writePower_eq {power : Nat} (h : power ≤ 2) :
    writePower sd n power s = applyPower sd n (s.wr sd Fld.lnkCtlPower n power) := if_pos h

theorem rd_writePower {power : Nat} (h : power ≤ 2) : (writePower sd n power s).rd sd Fld.lnkCtlPower n = power := by
  rw [writePower_eq sd n s h, rd_applyPower sd n _ rfl, rd_wr_power sd n s h]

/-- POWER = OFF takes a lane that is neither disabled nor in data to OFF. -/
theorem laneSt_writePower_off (h : laneSt sd n s ∉ [0, 8, 10]) : laneSt sd n (writePower sd n 2 s) = 10 := by
  have hst : laneSt sd n (s.wr sd Fld.lnkCtlPower n 2) = laneSt sd n s := laneSt_wr sd n s (by decide) n 2
  have hw : 2 ≤ wantedPower sd n (s.wr sd Fld.lnkCtlPower n 2) := by
    rw [wantedPower_wr_power sd n s le_rfl]
    exact le_max_left _ _
  rw [writePower_eq sd n s le_rfl, applyPower_of_wanted_off sd n _ hw (by rwa [hst]), laneSt_enterOff]

/-- POWER = ACTIVE takes a lane from OFF to DETECT where the power loop holds no lower state. -/
theorem laneSt_writePower_active (hhold : (s.lane sd n).powerHold = 0) (h : laneSt sd n s = 10) :
    laneSt sd n (writePower sd n 0 s) = 1 := by
  have hst : laneSt sd n (s.wr sd Fld.lnkCtlPower n 0) = 10 := (laneSt_wr sd n s (by decide) n 0).trans h
  have hw : wantedPower sd n (s.wr sd Fld.lnkCtlPower n 0) = 0 := by
    rw [wantedPower_wr_power sd n s (by decide), hhold]; rfl
  rw [writePower_eq sd n s (by decide), applyPower_of_wanted_zero sd n _ hw, if_pos hst, laneSt_enterDetect]

/-! ### Enabling (R88, R109) -/

theorem rdb_wrb_enable : (s.wrb sd Fld.lnkCtlEnable n true).rdb sd Fld.lnkCtlEnable n = true := by
  rw [rdb_def, rd_wrb_lit sd s _ n true (by decide) (by decide)]
  rfl

theorem enableLane_of_ready (h0 : laneSt sd n s = 0) (hm : mayEnable sd s = true) :
    enableLane sd n s = applyPower sd n (enterDetect sd n false (s.wrb sd Fld.lnkCtlEnable n true)) := if_pos ⟨h0, hm⟩

theorem enableLane_of_not_ready (h : ¬ (laneSt sd n s = 0 ∧ mayEnable sd s = true)) :
    enableLane sd n s = s.wrb sd Fld.lnkCtlEnable n true := if_neg h

theorem rdb_enableLane : (enableLane sd n s).rdb sd Fld.lnkCtlEnable n = true := by
  by_cases h : laneSt sd n s = 0 ∧ mayEnable sd s = true
  · rw [enableLane_of_ready sd n s h.1 h.2, (applyPower_ev sd n _).rdb sd _ (by cases sd <;> rfl),
      (enterDetect_ev sd n false _).rdb sd _ (by cases sd <;> rfl), rdb_wrb_enable]
  · rw [enableLane_of_not_ready sd n s h, rdb_wrb_enable]

/-- Enabling a lane and its entry into DETECT leave the power state that is wanted of it. -/
theorem wantedPower_enterDetect_enable :
    wantedPower sd n (enterDetect sd n false (s.wrb sd Fld.lnkCtlEnable n true)) = wantedPower sd n s := by
  unfold wantedPower
  rw [(enterDetect_ev sd n false _).rd sd _ (by cases sd <;> rfl), lane_enterDetect,
    rd_wrb_field sd s Fld.lnkCtlEnable Fld.lnkCtlPower n true rfl rfl (.inr (by decide))]
  unfold State.wrb
  rw [lane_wr]
  rfl

theorem laneSt_enableLane_of_ready (h0 : laneSt sd n s = 0) (hm : mayEnable sd s = true) (hw : wantedPower sd n s = 0) :
    laneSt sd n (enableLane sd n s) = 1 := by
  rw [enableLane_of_ready sd n s h0 hm, applyPower_of_wanted_zero sd n _ ((wantedPower_enterDetect_enable sd n s).trans hw),
    laneSt_enterDetect, if_neg (by decide), laneSt_enterDetect]

theorem laneSt_enableLane_of_not_mayEnable (hm : mayEnable sd s = false) : laneSt sd n (enableLane sd n s) = laneSt sd n s := by
  rw [enableLane_of_not_ready sd n s (by simp [hm])]
  exact laneSt_wr sd n s (by decide) n 1

/-! ### What software's requests at a lane answer -/

theorem laneRetrain_answers (h0 : laneSt sd n s ≠ 0) (h10 : laneSt sd n s ≠ 10) :
    Answers (.laneRetrain sd path n) s fun t => laneSt sd n t = 1 :=
  ⟨_, rfl, laneSt_retrainLane sd n s h0 h10⟩

theorem laneRetrain_unchanged (h : laneSt sd n s = 0 ∨ laneSt sd n s = 10) :
    Answers (.laneRetrain sd path n) s fun t => t = s :=
  ⟨_, rfl, retrainLane_of_disabled_or_off sd n s h⟩

theorem cacheFlush_answers : Answers (.cacheFlush sd path n) s fun t =>
    t.lane sd n = { s.lane sd n with cache := [] } ∧ (∀ k, k ≠ n → t.lane sd k = s.lane sd k)
      ∧ OnlyChanges [.unit sd .lanes] s t :=
  ⟨_, rfl, lane_onLane_same s sd n _, fun k hk => lane_onLane_other s sd sd n k _ hk,
    onlyChanges (onLane_ev sd n _ s) _ (Sub.orRight 0 _)⟩

theorem spareNow_answers {x : Nat} (h : freeSlice sd n s = some x) : Answers (.spareNow sd path n) s fun t =>
    t.rd sd Fld.lnkStatusSlice n = x ∧ (t.lane sd n).cache = []
      ∧ laneSt sd n t = (if laneSt sd n s = 0 ∨ laneSt sd n s = 10 then laneSt sd n s else 1) :=
  ⟨_, rfl, rd_spareNow_slice sd n s h, cache_spareNow sd n s h, laneSt_spareNow sd n s h⟩

theorem spareNow_unchanged (h : freeSlice sd n s = none) : Answers (.spareNow sd path n) s fun t => t = s :=
  ⟨_, rfl, spareNow_of_none sd n s h⟩

theorem lanePowerRequest_answers {power : Nat} (hp : power ≤ 2) (h : rwlOpen sd path (regOffset sd .lnkCtl n 0) s = true) :
    Answers (.lanePowerRequest sd path n power) s fun t => t.rd sd Fld.lnkCtlPower n = power
      ∧ (power = 2 → laneSt sd n s ∉ [0, 8, 10] → laneSt sd n t = 10)
      ∧ (power = 0 → (s.lane sd n).powerHold = 0 → laneSt sd n s = 10 → laneSt sd n t = 1) := by
  refine ⟨writePower sd n power s, congrArg Host.Outcome.next (rwl_of_open sd s path _ _ _ h), rd_writePower sd n s hp, ?_, ?_⟩
  · rintro rfl hst
    exact laneSt_writePower_off sd n s hst
  · rintro rfl hhold hst
    exact laneSt_writePower_active sd n s hhold hst

theorem lanePowerRequest_discarded (power : Nat) (h : rwlOpen sd path (regOffset sd .lnkCtl n 0) s = false) :
    Answers (.lanePowerRequest sd path n power) s fun t =>
      t.rd sd Fld.lnkCtlPower n = s.rd sd Fld.lnkCtlPower n ∧ laneSt sd n t = laneSt sd n s :=
  ⟨_, rfl, rd_rwl_of_closed sd n s path _ _ _ h rfl, laneSt_rwl_of_closed sd n s path _ _ _ h⟩

theorem laneEnable_answers (h : rwlOpen sd path (regOffset sd .lnkCtl n 0) s = true) :
    Answers (.laneEnable sd path n) s fun t => t.rdb sd Fld.lnkCtlEnable n = true
      ∧ (laneSt sd n s = 0 → mayEnable sd s = true → wantedPower sd n s = 0 → laneSt sd n t = 1)
      ∧ (mayEnable sd s = false → laneSt sd n t = laneSt sd n s) :=
  ⟨enableLane sd n s, congrArg Host.Outcome.next (rwl_of_open sd s path _ _ _ h), rdb_enableLane sd n s,
    laneSt_enableLane_of_ready sd n s, laneSt_enableLane_of_not_mayEnable sd n s⟩

theorem laneEnable_discarded (h : rwlOpen sd path (regOffset sd .lnkCtl n 0) s = false) :
    Answers (.laneEnable sd path n) s fun t =>
      t.rd sd Fld.lnkCtlEnable n = s.rd sd Fld.lnkCtlEnable n ∧ laneSt sd n t = laneSt sd n s :=
  ⟨_, rfl, rd_rwl_of_closed sd n s path _ _ _ h rfl, laneSt_rwl_of_closed sd n s path _ _ _ h⟩

end Sys2Proof.Machine

section

open Sys2Proof Sys2Proof.Machine

/-- Settles O9, one lemma for each command and each side of its gate. -/
theorem laneSoftwareRequests : Obligations.LaneSoftwareRequests := fun sd path n s =>
  ⟨laneRetrain_answers sd n s path, laneRetrain_unchanged sd n s path, cacheFlush_answers sd n s path,
    fun _ => spareNow_answers sd n s path, spareNow_unchanged sd n s path, fun _ => lanePowerRequest_answers sd n s path,
    lanePowerRequest_discarded sd n s path, laneEnable_answers sd n s path, laneEnable_discarded sd n s path⟩

end

/-! ## Bring-up: the map over tiles that are all good, and the width of DIR.STATUS.ENTRIES -/

namespace Sys2Proof.Machine

/-- A physical tile that neither fuses nor the field record name, and that passed BIST, is good (R441). -/
theorem physBad_of_clean {s : State} {p : Nat} (htile : s.m.tile = {}) (hbist : s.rdb .module Fld.tilPhysBistBad p = false) :
    physBad p [] s = false := by
  simp [physBad, fuseBad, fieldBad, rowRepairs, htile, hbist]

/-- A row without a bad tile keeps its 34 columns, so none of its 32 logical tiles is MISSING (R16). -/
theorem tileMissing_of_all_good {bad : Nat → Bool} (h : ∀ p < 2176, bad p = false) {k : Nat} (hk : k < 2048) :
    tileMissing k bad = false := by
  have hrow : goodColumns (k / 32) bad = List.range 34 := by
    refine List.filter_eq_self.mpr fun c hc => ?_
    have hc := List.mem_range.mp hc
    simp [h (k / 32 * 34 + c) (by omega)]
  have hcol : k % 32 < 34 := by omega
  simp [tileMissing, hrow, hcol]

/-- DIR.STATUS.ENTRIES has 26 bits: it cannot show the entries of more than 682 DIRECTORY tiles (R447). -/
theorem dirStatusEntries_ne_of_many {s : State} {n : Nat} (h : 682 < n) : s.rd .module Fld.dirStatusEntries ≠ n * 98304 := by
  have hlt : s.rd .module Fld.dirStatusEntries < 2 ^ 26 := rd_lt s .module Fld.dirStatusEntries 0
  omega

/-- TILE_BIST leaves the fuse map and the field record. -/
theorem tile_of_tileBist {path : Path} {failing : List Nat} {rows : List (Nat × Nat)} {s t : State}
    (h : execTileBist path failing rows s = .next t) : t.m.tile = s.m.tile := by
  obtain ⟨u, hu, hev⟩ := execTileBist_ev path failing rows s
  obtain rfl : u = t := by simpa [hu] using h
  exact hev.part (.mod .tile) (by decide)

/-- The role that a role map of one byte throughout gives every tile it reaches (R429). -/
theorem imageRole_of_replicate {s : State} {n : Nat} {b : Byte} (h : s.m.bring.roleMap = List.replicate n b) {k : Nat}
    (hk : 2 * k < n) : imageRole k s = b.toNat % 8 := by
  simp [imageRole, h, hk]

/-- Step 5 under way over a role map that makes every logical tile a DIRECTORY tile. -/
def allDirectoryBist : State :=
  enterStep 5 (onBring (fun b => { b with roleMap := List.replicate 4096 1 }) .reset)

end Sys2Proof.Machine

section

open Sys2Proof Sys2Proof.Machine

/-- Refutes O39: its TILE_BIST clause has DIR.STATUS.ENTRIES show 98,304 entries for every DIRECTORY tile in service, without
the bound of 511 that R432 sets on an image's DIRECTORY tiles, and the field's 26 bits hold no more than 682 tiles' worth. In the
state of the counterexample a passing BIST puts 2,048 DIRECTORY tiles in service, and ENTRIES reads 0. -/
theorem not_bringUpStepsDoTheirWork : ¬ Obligations.BringUpStepsDoTheirWork := by
  intro h
  obtain ⟨-, -, -, -, -, -, hclause, -⟩ := h .host allDirectoryBist
  obtain ⟨t, hnext, -, -, ⟨-, -, hrole⟩, hbist, -, hcount, hentries⟩ := hclause [] [] (.inl ⟨by decide, by decide, rfl⟩)
  have htile : t.m.tile = {} := tile_of_tileBist hnext
  have hgood : ∀ p < 2176, physBad p [] t = false := fun p hp => physBad_of_clean htile (hbist p hp)
  have hdir : ∀ k < 2048, tileRole k t = 1 := by
    intro k hk
    rw [hrole k hk, tileMissing_of_all_good hgood hk, imageRole_of_replicate (n := 4096) (b := 1) rfl (by omega)]
    rfl
  have hall : roleCount 1 t = 2048 := by
    rw [hcount 1 (by decide), if_neg (by decide),
      List.filter_eq_self.mpr fun k hk => decide_eq_true (hdir k (List.mem_range.mp hk)), List.length_range]
  exact dirStatusEntries_ne_of_many (by omega) hentries

end

/-! ## The transport at the source: completions and the responses that bring them -/

namespace Sys2Proof.Machine

/-- An operation that leaves a unit's transport alone. -/
theorem Ev.xpt {F : Nat} {s t : State} (h : Ev F s t) (sd : Side) (hb : F.testBit (Part.unit sd .xpt).idx = false) :
    t.xpt sd = s.xpt sd := h.part (.unit sd .xpt) hb

variable (sd : Side) (port : Nat) (p : Packet) (o : SrcOp) (u : Sent) (s : State)

@[simp] theorem xpt_onXpt (f : Transport → Transport) : (s.onXpt sd f).xpt sd = f (s.xpt sd) := by
  simp [State.onXpt, State.xpt]

@[simp] theorem accept_xpt : (accept sd port p s).2.xpt sd = s.xpt sd := (accept_ev sd port p s).xpt sd (by cases sd <;> rfl)

/-- Where a packet reaches its unit, the state that goes on is the one in which it has been taken from where it waited. -/
theorem accept_of_isSome (h : (accept sd port p s).1.isSome = true) :
    accept sd port p s = (some (accept sd port p s).2, (accept sd port p s).2) := by
  revert h
  unfold accept
  dsimp only
  repeat' split
  all_goals simp

/-! ### Handing over (R204) -/

/-- Nothing is handed over while every completion waits for its engine or thread. -/
theorem settle_of_all_stay (h : ∀ f ∈ (s.xpt sd).finished, staysFinished f = true) : settle sd s = s := by
  have hnone : (s.xpt sd).finished.filter (fun f => !staysFinished f) = [] := List.filter_eq_nil_iff.mpr fun f hf => by simp [h f hf]
  unfold settle
  cases settleFuel sd s with
  | zero => rfl
  | succ n => unfold settleRun; rw [hnone]

theorem settle_of_none_finished (h : (s.xpt sd).finished = []) : settle sd s = s := settle_of_all_stay sd s (by simp [h])

/-! ### Completion of the one operation that a transport holds (R188) -/

variable (sts : List Status) (outcome : Nat) (data : List Byte) (cas replayed cacheable : Bool)

/-- The completion that `finishOp` leaves for an operation's user. -/
def completion : Finished :=
  { op := o, status := (reportStatus (sts.filter fun x => decide (x ≠ stOk))).1
    also := (reportStatus (sts.filter fun x => decide (x ≠ stOk))).2
    outcome := outcome, data := data, cas := cas, replayed := replayed, cacheable := cacheable }

theorem finishOp_ops : ((finishOp sd o sts outcome data cas replayed s cacheable).xpt sd).ops
    = (s.xpt sd).ops.filter fun y => decide (y.id ≠ o.id) := by
  unfold finishOp
  dsimp only
  rw [(noteAlso_ev sd _ _ _ _).xpt sd (by cases sd <;> rfl), xpt_onXpt]

theorem finishOp_finished : ((finishOp sd o sts outcome data cas replayed s cacheable).xpt sd).finished
    = (s.xpt sd).finished ++ [completion o sts outcome data cas replayed cacheable] := by
  unfold finishOp
  dsimp only
  rw [(noteAlso_ev sd _ _ _ _).xpt sd (by cases sd <;> rfl), xpt_onXpt]
  rfl

/-- The one operation of a transport, of an engine or a puppet thread, completes: it is gone and its completion waits. -/
theorem settle_finishOp_sole {s : State} (hops : (s.xpt sd).ops = [o]) (hfin : (s.xpt sd).finished = [])
    (hstay : staysFinished { op := o, status := stOk, outcome := 0 } = true) :
    ((settle sd (finishOp sd o sts outcome data cas replayed s cacheable)).xpt sd).ops = []
      ∧ ((settle sd (finishOp sd o sts outcome data cas replayed s cacheable)).xpt sd).finished
        = [completion o sts outcome data cas replayed cacheable] := by
  have hf : ((finishOp sd o sts outcome data cas replayed s cacheable).xpt sd).finished
      = [completion o sts outcome data cas replayed cacheable] := by rw [finishOp_finished, hfin, List.nil_append]
  rw [settle_of_all_stay sd _ fun f hmem => by rw [hf] at hmem; rw [List.mem_singleton.mp hmem]; exact hstay]
  exact ⟨by rw [finishOp_ops, hops]; simp, hf⟩

/-! ### Responses (R188) -/

theorem clearSuspect_ops (dst : Eid) (plane : Bool) : ((clearSuspect sd dst plane s).xpt sd).ops = (s.xpt sd).ops := by
  simp [clearSuspect]

theorem clearSuspect_finished (dst : Eid) (plane : Bool) : ((clearSuspect sd dst plane s).xpt sd).finished = (s.xpt sd).finished := by
  simp [clearSuspect]

theorem requestOf_sole {s : State} (hops : (s.xpt sd).ops = [o]) (hsent : o.sent = some u) (htag : u.tag = p.tag.toNat)
    (hop : responseOp o.pkt.opcode = some p.opcode) (hdst : o.pkt.dst = p.src) : requestOf sd p s = some (o, u) := by
  simp [requestOf, hops, hsent, htag, hop, hdst]

theorem requestOf_none {s : State} (hops : (s.xpt sd).ops = []) : requestOf sd p s = none := by simp [requestOf, hops]

theorem takeResponse_unmatched {s : State} (h : requestOf sd p s = none) : takeResponse sd p s = bump sd .xptNackUnmatchedCnt 0 s := by
  simp [takeResponse, h]

theorem takeResponse_badCheck {s : State} (h : requestOf sd p s = some (o, u)) (hbad : pchkGood p = false) :
    takeResponse sd p s = finishOp sd o [stCheckFail] (silentOutcome o) [] false false s := by
  simp [takeResponse, h, hbad]

/-- A response with OK that is not encrypted, from the one destination of its request, completes it with its payload. -/
theorem takeResponse_ok {s : State} (h : requestOf sd p s = some (o, u)) (hgood : pchkGood p = true) (henc : p.enc = false)
    (hst : p.status = stOk) (hgroup : isGroupEid o.pkt.dst = false) :
    takeResponse sd p s = finishOp sd o [] outApplied p.payload (!p.proxy && p.opx.getLsbD 30) (!p.proxy && p.opx.getLsbD 31)
      (clearSuspect sd p.src p.plane s) (p.opx.getLsbD 29) := by
  have hreceived : receivedStatus stOk = stOk := by decide
  have hnote (a b : Nat) (s : State) : noteReserved sd stOk a b s = s := if_neg (by decide)
  simp [takeResponse, h, hgood, hst, hgroup, hreceived, hnote, openPacket, henc, answeredOutcome]

/-- The command of each response opcode. -/
def responseCommands : List (Instr × BitVec 8) :=
  [(.loadData sd port p, 0x70), (.storeAck sd port p, 0x71), (.atomicResult sd port p, 0x72), (.reduceAck sd port p, 0x73),
    (.dmaReadData sd port p, 0x82)]

variable {sd port p o u s} {c : Instr} {op : BitVec 8}

theorem exec_response (hc : (c, op) ∈ responseCommands sd port p) : exec c s = .next (receiveResponse sd port p op s) := by
  simp only [responseCommands, List.mem_cons, Prod.mk.injEq, List.not_mem_nil, or_false] at hc
  rcases hc with ⟨rfl, rfl⟩ | ⟨rfl, rfl⟩ | ⟨rfl, rfl⟩ | ⟨rfl, rfl⟩ | ⟨rfl, rfl⟩ <;> rfl

theorem receiveResponse_of_accepted (hop : p.opcode = op) (hacc : (accept sd port p s).1.isSome = true) :
    receiveResponse sd port p op s = settle sd (takeResponse sd p (accept sd port p s).2) := by
  unfold receiveResponse
  rw [if_pos hop, accept_of_isSome sd port p s hacc]

/-- A response that reaches its unit is taken, and what it completes is handed over. -/
theorem response_answers (hc : (c, op) ∈ responseCommands sd port p) (hop : p.opcode = op)
    (hacc : (accept sd port p s).1.isSome = true) {P : State → Prop}
    (h : P (settle sd (takeResponse sd p (accept sd port p s).2))) : Answers c s P :=
  ⟨_, exec_response hc, by rwa [receiveResponse_of_accepted hop hacc]⟩


/-- A transport holds one operation, which has been sent and whose completion its engine or puppet thread will take. -/
def holdsOnly (sd : Side) (o : SrcOp) (u : Sent) (s : State) : Prop :=
  (s.xpt sd).ops = [o] ∧ o.sent = some u ∧ (s.xpt sd).finished = []
    ∧ staysFinished { op := o, status := stOk, outcome := 0 } = true

/-- A response reaches its unit and answers a request there: by its TAG, its opcode and the unit it comes from (R188). -/
def answersRequest (sd : Side) (port : Nat) (p : Packet) (o : SrcOp) (u : Sent) (s : State) : Prop :=
  (accept sd port p s).1.isSome = true ∧ u.tag = p.tag.toNat ∧ responseOp o.pkt.opcode = some p.opcode ∧ o.pkt.dst = p.src

theorem requestOf_of_answersRequest (hone : holdsOnly sd o u s) (hans : answersRequest sd port p o u s) :
    requestOf sd p (accept sd port p s).2 = some (o, u) := by
  obtain ⟨hops, hsent, -, -⟩ := hone
  obtain ⟨-, htag, hresp, hdst⟩ := hans
  exact requestOf_sole sd p o u (by rw [accept_xpt, hops]) hsent htag hresp hdst

theorem response_completes_request (hc : (c, op) ∈ responseCommands sd port p) (hop : p.opcode = op) (hone : holdsOnly sd o u s)
    (hans : answersRequest sd port p o u s) (hgroup : isGroupEid o.pkt.dst = false) (hgood : pchkGood p = true)
    (henc : p.enc = false) (hst : p.status = stOk) :
    Answers c s fun t => (t.xpt sd).ops = []
      ∧ (t.xpt sd).finished.map (fun f => (f.op, f.status, f.outcome, f.data)) = [(o, stOk, outApplied, p.payload)] := by
  have hreq := requestOf_of_answersRequest hone hans
  obtain ⟨hops, -, hfin, hstay⟩ := hone
  refine response_answers hc hop hans.1 ?_
  rw [takeResponse_ok sd p o u hreq hgood henc hst hgroup]
  obtain ⟨hnone, hdone⟩ := settle_finishOp_sole sd o [] outApplied p.payload (!p.proxy && p.opx.getLsbD 30)
    (!p.proxy && p.opx.getLsbD 31) (p.opx.getLsbD 29) (s := clearSuspect sd p.src p.plane (accept sd port p s).2)
    (by rw [clearSuspect_ops, accept_xpt, hops]) (by rw [clearSuspect_finished, accept_xpt, hfin]) hstay
  exact ⟨hnone, by rw [hdone]; rfl⟩

theorem bad_response_fails_request (hc : (c, op) ∈ responseCommands sd port p) (hop : p.opcode = op) (hone : holdsOnly sd o u s)
    (hans : answersRequest sd port p o u s) (hbad : pchkGood p = false) :
    Answers c s fun t => (t.xpt sd).ops = [] ∧ (t.xpt sd).finished.map (fun f => (f.status, f.data)) = [(stCheckFail, [])] := by
  have hreq := requestOf_of_answersRequest hone hans
  obtain ⟨hops, -, hfin, hstay⟩ := hone
  refine response_answers hc hop hans.1 ?_
  rw [takeResponse_badCheck sd p o u hreq hbad]
  obtain ⟨hnone, hdone⟩ := settle_finishOp_sole sd o [stCheckFail] (silentOutcome o) [] false false false
    (s := (accept sd port p s).2) (by rw [accept_xpt, hops]) (by rw [accept_xpt, hfin]) hstay
  exact ⟨hnone, by rw [hdone]; rfl⟩

theorem unmatched_response_counts (hc : (c, op) ∈ responseCommands sd port p) (hop : p.opcode = op)
    (hacc : (accept sd port p s).1.isSome = true) (hops : (s.xpt sd).ops = []) (hfin : (s.xpt sd).finished = []) :
    Answers c s fun t => t.word sd .xptNackUnmatchedCnt 0 0 = countedWord (s.word sd .xptNackUnmatchedCnt 0 0) 1 := by
  refine response_answers hc hop hacc ?_
  have hbump := (bump_ev sd .xptNackUnmatchedCnt 0 (accept sd port p s).2 rfl).xpt sd (by cases sd <;> rfl)
  rw [takeResponse_unmatched sd p (requestOf_none sd p (by rw [accept_xpt, hops])),
    settle_of_none_finished sd _ (by rw [hbump, accept_xpt, hfin]), word_bump _ _ _ _ (by cases sd <;> rfl),
    (accept_ev sd port p s).word sd _ (by cases sd <;> rfl)]

/-! ### The timers of the memory operations (R228, R233, R237) -/

variable (sd s)

theorem loadTimeout_ends_load (hone : holdsOnly sd o u s) (hload : o.pkt.opcode = 0x60 ∨ o.pkt.opcode = 0x61)
    (hstream : o.pkt.stream = 0) :
    Answers (.loadTimeout sd u.tag) s fun t => (t.xpt sd).ops = []
      ∧ (t.xpt sd).finished.map (fun f => f.status) = [if (s.unit sd).dead.contains o.pkt.dst then stTargetDead else stTimeout] := by
  obtain ⟨hops, hsent, hfin, hstay⟩ := hone
  refine ⟨_, rfl, ?_⟩
  have hatomic : isAtomicOp o.pkt.opcode = false := by rcases hload with h | h <;> rw [h] <;> rfl
  have hbump := (bump_ev sd .memLoadTimeoutCnt 0 s rfl).xpt sd (by cases sd <;> rfl)
  simp only [hops, List.findSome?_cons, hsent, hload, and_self, if_true, giveUp, hstream, endOp, hatomic, Bool.false_and]
  obtain ⟨hnone, hdone⟩ := settle_finishOp_sole sd o [if (s.unit sd).dead.contains o.pkt.dst then stTargetDead else stTimeout]
    (silentOutcome o) [] false false false (by rw [hbump, hops]) (by rw [hbump, hfin]) hstay
  refine ⟨hnone, ?_⟩
  rw [if_neg Bool.false_ne_true, hdone]
  split <;> rfl

theorem loadTimeout_without_ops (tag : Nat) (hops : (s.xpt sd).ops = []) : Answers (.loadTimeout sd tag) s fun t => t = s := by
  refine ⟨_, rfl, ?_⟩
  rw [hops]
  rfl

theorem replayEntryExpire_answers (src : Eid) (stream : BitVec 4) (x : BitVec 24) :
    Answers (.replayEntryExpire sd src stream x) s fun t =>
      (t.xpt sd).replay = (s.xpt sd).replay.filter (fun r =>
          !(decide (r.src = src) && decide (r.stream = stream) && decide (r.xseq = x) && r.status.isSome))
        ∧ OnlyChanges [.unit sd .xpt] s t :=
  ⟨_, rfl, by rw [xpt_onXpt], onlyChanges (onXpt_ev s sd _) _ (by unfold Sub; cases sd <;> decide +kernel)⟩

theorem cached_line {line : Nat} {l : CacheLine} (h : cached line s = some l) : l.line = line := by
  simpa using List.find?_some h

theorem cached_dropLine (line : Nat) : cached line (dropLine line s) = none := by
  simp [cached, dropLine]

theorem execRmLineExpire_of_cached {gfa : Nat} {l : CacheLine} (h : cached (gfaLine gfa) s = some l) :
    exec (.rmLineExpire gfa) s = .next (if l.readMostly then dropLine (gfaLine gfa) s else s) := by
  change execRmLineExpire gfa s = _
  unfold execRmLineExpire
  rw [h, ← cached_line s h]

theorem rmLineExpire_drops {gfa : Nat} {l : CacheLine} (h : cached (gfaLine gfa) s = some l) (hrm : l.readMostly = true) :
    Answers (.rmLineExpire gfa) s fun t => cached (gfaLine gfa) t = none ∧ OnlyChanges [.ep .cache] s t := by
  refine ⟨_, execRmLineExpire_of_cached s h, ?_⟩
  rw [if_pos hrm]
  exact ⟨cached_dropLine s _, onlyChanges (dropLine_ev _ s) _ (by unfold Sub; decide +kernel)⟩

theorem rmLineExpire_keeps {gfa : Nat} {l : CacheLine} (h : cached (gfaLine gfa) s = some l) (hrm : l.readMostly = false) :
    Answers (.rmLineExpire gfa) s fun t => t = s :=
  ⟨_, execRmLineExpire_of_cached s h, if_neg (by simp [hrm])⟩

end Sys2Proof.Machine

section

open Sys2Proof Sys2Proof.Machine

/-- Settles O24, one lemma for each clause. -/
theorem responsesCompleteRequests : Obligations.ResponsesCompleteRequests := fun sd _ _ _ _ s =>
  ⟨fun _ _ => response_completes_request, fun _ _ => bad_response_fails_request, fun _ _ => unmatched_response_counts,
    loadTimeout_ends_load sd s, loadTimeout_without_ops sd s, replayEntryExpire_answers sd s, fun _ _ => rmLineExpire_drops s,
    fun _ _ => rmLineExpire_keeps s⟩

end

/-! ## Words as their bits, and the EID that a word of GLB.EID names -/

namespace Sys2Proof.Machine

theorem bitsOf_eq_div_mod (w : Word) (hi lo : Nat) : bitsOf w hi lo = w.toNat / 2 ^ lo % 2 ^ (hi + 1 - lo) := by
  apply Nat.eq_of_testBit_eq
  intro i
  rw [bitsOf_testBit, Nat.testBit_mod_two_pow, Nat.testBit_div_two_pow, Nat.add_comm i lo, ← BitVec.getLsbD.eq_1]
  by_cases h : i < 64
  · simp [h, Bool.and_comm]
  · simp [h, BitVec.getLsbD_of_ge w (lo + i) (by omega)]

theorem leNat_leBytes (n v : Nat) : leNat (leBytes n v) = v % 256 ^ n := by
  induction n generalizing v with
  | zero => simp [leBytes, leNat, Nat.mod_one]
  | succ n ih =>
    simp only [leBytes, leNat, ih, BitVec.toNat_ofNat]
    rw [show 256 ^ (n + 1) = 256 * 256 ^ n from Nat.pow_succ', Nat.mod_mul]

theorem length_leBytes (n v : Nat) : (leBytes n v).length = n := by
  induction n generalizing v with
  | zero => rfl
  | succ n ih => simp [leBytes, ih]

theorem ofNat_leNat_leBytes (v : Word) : BitVec.ofNat 64 (leNat ((leBytes 8 v.toNat).take 8)) = v := by
  rw [List.take_of_length_le (length_leBytes 8 _).le, leNat_leBytes, Nat.mod_eq_of_lt (show v.toNat < 256 ^ 8 from v.isLt),
    BitVec.ofNat_toNat, BitVec.setWidth_eq]

/-- The EID that bits 19:0 of a word name (R50). -/
def wordEid (v : Word) : Eid := BitVec.ofNat 20 (bitsOf v 19 0)

variable (v : Word)

theorem wordEid_toNat : (wordEid v).toNat = bitsOf v 19 0 := by
  rw [wordEid, BitVec.toNat_ofNat, Nat.mod_eq_of_lt (bitsOf_lt v 19 0)]

theorem wordEid_toNat_mod : (wordEid v).toNat = v.toNat % 2 ^ 20 := by
  rw [wordEid_toNat, bitsOf_eq_div_mod, Nat.pow_zero, Nat.div_one]

theorem eidKind_wordEid : eidKind (wordEid v) = bitsOf v 19 18 := by
  rw [eidKind, wordEid_toNat_mod, bitsOf_eq_div_mod]
  omega

theorem eidTier_wordEid : eidTier (wordEid v) = bitsOf v 17 16 := by
  rw [eidTier, wordEid_toNat_mod, bitsOf_eq_div_mod]
  omega

theorem eidPlane_wordEid : eidPlane (wordEid v) = v.getLsbD 15 := by
  rw [eidPlane, wordEid_toNat_mod, Nat.testBit_mod_two_pow, BitVec.getLsbD.eq_1]
  rfl

theorem eidIndex_wordEid : eidIndex (wordEid v) = bitsOf v 14 0 := by
  rw [eidIndex, wordEid_toNat_mod, bitsOf_eq_div_mod]
  omega

theorem indexOk_iff (tier index : Nat) :
    indexOk tier index = true ↔ ¬ (3 ≤ tier ∨ (if tier = 2 then 1024 else 2048) ≤ index) := by
  match tier with
  | 0 | 1 | 2 => simp [indexOk]
  | n + 3 => simp [indexOk]

/-! ## Writes of GLB.EID (R50, R51) -/

/-- The faults of R51 of an EID written to GLB.EID: another kind than 01, another tier than the module's role, the other plane, or an
index that its tier does not use. -/
def ownEidWrong (v : Word) (s : State) : Prop :=
  bitsOf v 19 18 ≠ 1 ∨ bitsOf v 17 16 ≠ s.rd .module Fld.glbRoleRole ∨ v.getLsbD 15 ≠ s.rdb .module Fld.glbRolePlane
    ∨ 3 ≤ bitsOf v 17 16 ∨ (if bitsOf v 17 16 = 2 then 1024 else 2048) ≤ bitsOf v 14 0

variable (s : State) (a : Nat) (path : Path)

/-- What GLB.EID.EID does not take: any EID while it is locked, and one with a fault. -/
theorem eidRefused_iff : (s.rdb .module Fld.glbEidLocked || !isModuleEid (wordEid v)
      || decide (eidTier (wordEid v) ≠ s.rd .module Fld.glbRoleRole) || (eidPlane (wordEid v) != s.rdb .module Fld.glbRolePlane)
      || !indexOk (eidTier (wordEid v)) (eidIndex (wordEid v))) = true
    ↔ s.rdb .module Fld.glbEidLocked = true ∨ ownEidWrong v s := by
  have hindex := indexOk_iff (bitsOf v 17 16) (bitsOf v 14 0)
  rw [isModuleEid, eidKind_wordEid, eidTier_wordEid, eidPlane_wordEid, eidIndex_wordEid]
  simp only [ownEidWrong, Bool.or_eq_true, Bool.not_eq_true', decide_eq_true_eq, bne_iff_ne, or_assoc,
    ← Bool.not_eq_true, hindex, not_not]

theorem writeEid_of_wrong {s : State} (h : ownEidWrong v s) : writeEid a v s = regAccess .module a v.toNat s :=
  if_pos ((eidRefused_iff v s).mpr (.inr h))

theorem writeEid_of_right {s : State} (h : ¬ ownEidWrong v s) (hlock : s.rdb .module Fld.glbEidLocked = false) :
    writeEid a v s = s.wr .module Fld.glbEidEid 0 (bitsOf v 19 0) := by
  rw [← wordEid_toNat]
  exact if_neg fun hr => ((eidRefused_iff v s).mp hr).elim (by simp [hlock]) h

theorem settleBoth_of_none_finished {s : State} (hm : (s.xpt .module).finished = []) (he : (s.xpt .endpoint).finished = []) :
    settleBoth s = s := by
  unfold settleBoth
  rw [settle_of_none_finished .module s hm, settle_of_none_finished .endpoint s he]

/-- An operation that leaves both transports alone hands nothing over where nothing has completed. -/
theorem settleBoth_of_ev {F : Nat} {s t : State} (h : Ev F s t) (hmb : F.testBit (Part.unit .module .xpt).idx = false)
    (heb : F.testBit (Part.unit .endpoint .xpt).idx = false) (hm : s.module.xpt.finished = []) (he : s.endpoint.xpt.finished = []) :
    settleBoth t = t :=
  settleBoth_of_none_finished (by rw [h.xpt .module hmb]; exact hm) (by rw [h.xpt .endpoint heb]; exact he)

/-- A whole write of 8 bytes at an aligned address outside MGT.MBX_REQ is a write of the register there (R556). -/
theorem registerWrite_word (sd : Side) {a : Nat} (halign : a % 8 = 0) (hbox : a < 0x2801000) :
    exec (.registerWrite sd path a (leBytes 8 v.toNat) false) s = .next (writeRegister sd path false a v s) := by
  change Host.Outcome.next (writeBytes sd path a (leBytes 8 v.toNat) false s) = _
  unfold writeBytes
  dsimp only
  rw [ofNat_leNat_leBytes, length_leBytes, if_neg (by simp), if_neg (by omega), if_neg (by omega)]

theorem writeRegister_glbEid (test : Bool) : writeRegister .module path test (regOffset .module .glbEid 0 0) v s
    = settleBoth (rwl .module path (regOffset .module .glbEid 0 0) v.toNat (writeEid (regOffset .module .glbEid 0 0) v) s) := by
  have hreg : regAt .module (regOffset .module .glbEid 0 0) = some (.glbEid, 0, 0) := by decide +kernel
  unfold writeRegister
  rw [hreg]
  rfl

theorem registerWrite_glbEid : exec (.registerWrite .module path (regOffset .module .glbEid 0 0) (leBytes 8 v.toNat) false) s
    = .next (settleBoth (rwl .module path (regOffset .module .glbEid 0 0) v.toNat
        (writeEid (regOffset .module .glbEid 0 0) v) s)) := by
  rw [registerWrite_word v s path .module (by decide) (by decide), writeRegister_glbEid]

section

variable {v s path} (hm : s.module.xpt.finished = []) (he : s.endpoint.xpt.finished = [])

include hm he

theorem glbEid_refuses_wrong (hwrong : ownEidWrong v s) (hopen : rwlOpen .module path (regOffset .module .glbEid 0 0) s = true) :
    Answers (.registerWrite .module path (regOffset .module .glbEid 0 0) (leBytes 8 v.toNat) false) s fun t =>
      t = regAccess .module (regOffset .module .glbEid 0 0) v.toNat s ∧ t.word .module .glbEid 0 0 = s.word .module .glbEid 0 0 := by
  have hev := regAccess_ev .module (regOffset .module .glbEid 0 0) v.toNat s
  refine ⟨_, registerWrite_glbEid v s path, ?_⟩
  rw [rwl_of_open .module s path _ _ _ hopen, writeEid_of_wrong v _ hwrong, settleBoth_of_ev hev rfl rfl hm he]
  exact ⟨rfl, hev.word .module .glbEid rfl 0 0⟩

theorem glbEid_keeps_while_held (hclosed : rwlOpen .module path (regOffset .module .glbEid 0 0) s = false) :
    Answers (.registerWrite .module path (regOffset .module .glbEid 0 0) (leBytes 8 v.toNat) false) s fun t =>
      t.word .module .glbEid 0 0 = s.word .module .glbEid 0 0 := by
  have hev := rwlDiscard_ev .module (regOffset .module .glbEid 0 0) v.toNat s
  refine ⟨_, registerWrite_glbEid v s path, ?_⟩
  rw [rwl_of_closed .module s path _ _ _ hclosed, settleBoth_of_ev hev rfl rfl hm he]
  exact hev.word .module .glbEid rfl 0 0

theorem glbEid_takes_right (hright : ¬ ownEidWrong v s) (hopen : rwlOpen .module path (regOffset .module .glbEid 0 0) s = true)
    (hlock : s.rdb .module Fld.glbEidLocked = false) :
    Answers (.registerWrite .module path (regOffset .module .glbEid 0 0) (leBytes 8 v.toNat) false) s fun t =>
      t.rd .module Fld.glbEidEid 0 = bitsOf v 19 0 ∧ t.rdb .module Fld.glbEidLocked = false := by
  have hev := wr_ev .module Fld.glbEidEid 0 (bitsOf v 19 0) s rfl
  refine ⟨_, registerWrite_glbEid v s path, ?_⟩
  rw [rwl_of_open .module s path _ _ _ hopen, writeEid_of_right v _ hright hlock,
    settleBoth_of_ev hev (by decide +kernel) (by decide +kernel) hm he]
  refine ⟨rd_wr_lit _ _ _ _ _ (by decide) (by decide) (bitsOf_lt v 19 0), ?_⟩
  rw [rdb_def, rd_wr_field _ _ Fld.glbEidEid Fld.glbEidLocked 0 _ rfl rfl (.inr (by decide))]
  exact hlock

end

/-! ## LINK_TRAINING without a module EID (R51, R436) -/

theorem startStep_of_mayStart {n : Nat} {s : State} (h : mayStartStep n s = true) :
    startStep n s = enterStep n (s.wr .module Fld.glbBringupCtlStep 0 n) := if_pos h

theorem bringStep_enterStep {n : Nat} (h : n < 16) : bringStep (enterStep n s) = n := by
  unfold bringStep enterStep onBring
  rw [rd_onM, rd_wr_field _ _ Fld.glbBringupStatusStatus Fld.glbBringupStatusStep 0 _ rfl rfl (.inl (by decide)),
    rd_wrb_field _ _ Fld.glbBringupStatusFail Fld.glbBringupStatusStep 0 _ rfl rfl (.inl (by decide)),
    rd_wrb_field _ _ Fld.glbBringupStatusBusy Fld.glbBringupStatusStep 0 _ rfl rfl (.inl (by decide)),
    rd_wr_lit _ _ _ _ _ (by decide) (by decide) h]

theorem bringBusy_enterStep (n : Nat) : bringBusy (enterStep n s) = true := by
  unfold bringBusy enterStep onBring
  rw [rdb_def, rd_onM, rd_wr_field _ _ Fld.glbBringupStatusStatus Fld.glbBringupStatusBusy 0 _ rfl rfl (by decide),
    rd_wrb_field _ _ Fld.glbBringupStatusFail Fld.glbBringupStatusBusy 0 _ rfl rfl (by decide),
    rd_wrb_lit _ _ _ _ _ (by decide) (by decide)]
  rfl

theorem stepWork_of_running {n : Nat} {f : State → State} {s : State} (hstep : bringStep s = n) (hbusy : bringBusy s = true)
    (hout : s.m.bring.outcome = none) : stepWork n path f s = f s := by
  simp [stepWork, hstep, hbusy, hout]

/-- A command whose step software may start starts it, over the path's gate, and then does its work. -/
theorem stepWork_of_starting {n : Nat} {f : State → State} {s : State} (hbusy : bringBusy s = false)
    (hopen : rwlOpen .module path (regOffset .module .glbBringupCtl 0 0) s = true) (hmay : mayStartStep n s = true) :
    stepWork n path f s = f (startStep n s) := by
  have hn : n < 16 := by
    simp only [mayStartStep, Bool.and_eq_true, decide_eq_true_eq] at hmay
    omega
  have hstep : bringStep (startStep n s) = n := by rw [startStep_of_mayStart hmay, bringStep_enterStep _ hn]
  have hbusy' : bringBusy (startStep n s) = true := by rw [startStep_of_mayStart hmay, bringBusy_enterStep]
  have hout : (startStep n s).m.bring.outcome = none := by rw [startStep_of_mayStart hmay]; rfl
  unfold stepWork
  dsimp only
  rw [if_neg (by simp [hbusy]), rwl_of_open .module s path _ _ _ hopen, if_pos ⟨hstep, hbusy', hout⟩]

theorem trainLinks_of_no_moduleEid {s : State} (h : s.rd .module Fld.glbEidEid / 2 ^ 18 ≠ 1) :
    trainLinks s = stepDone (some stVersion) s := by
  have hlt : s.rd .module Fld.glbEidEid < 2 ^ 20 := rd_lt s .module Fld.glbEidEid 0
  refine if_pos ?_
  simp only [isModuleEid, eidKind, State.myEid, BitVec.toNat_ofNat, Nat.mod_eq_of_lt hlt]
  simpa using h

/-- LINK_TRAINING with the step under way or begun by it fails the step where GLB.EID holds no module EID, and nothing else follows
the step's start. -/
theorem linkTraining_without_moduleEid {s u : State} (hrun : stepWork 9 path trainLinks s = trainLinks u)
    (hstart : Ev Fp.startStep s u) (hkind : s.rd .module Fld.glbEidEid / 2 ^ 18 ≠ 1) :
    Answers (.linkTraining path) s fun t => t.m.bring.outcome = some (some stVersion)
      ∧ t.module.lanes = s.module.lanes ∧ t.module.ports = s.module.ports
      ∧ (∀ n : Nat, t.word .module .lnkStatus n 0 = s.word .module .lnkStatus n 0)
      ∧ t.rdb .module Fld.glbEidLocked = s.rdb .module Fld.glbEidLocked := by
  have hend : Ev (Fp.startStep ||| Fp.stepDone) s (stepDone (some stVersion) u) :=
    (stepDone_ev (some stVersion) u).seq (Sub.orRight _ _) (hstart.mono (Sub.orLeft _ _))
  refine ⟨stepDone (some stVersion) u, ?_, rfl, hend.part (.unit .module .lanes) rfl, hend.part (.unit .module .ports) rfl,
    fun n => hend.word .module .lnkStatus rfl n 0, hend.rdb .module Fld.glbEidLocked rfl 0⟩
  change Host.Outcome.next (stepWork 9 path trainLinks s) = _
  rw [hrun, trainLinks_of_no_moduleEid (by rwa [hstart.rd .module Fld.glbEidEid rfl])]

end Sys2Proof.Machine

section

open Sys2Proof Sys2Proof.Machine

/-- Settles O55, one lemma for each outcome of the write and one for a LINK_TRAINING whose step runs. -/
theorem ownEidNeedsItsKindTierAndPlane : Obligations.OwnEidNeedsItsKindTierAndPlane := by
  intro path v s quiet a bytes kind tier plane index wrong opens runs begins
  refine ⟨?_, ?_, ?_, ?_⟩
  · rintro ⟨he, hm⟩ hwrong hopen
    exact glbEid_refuses_wrong hm he hwrong hopen
  · rintro ⟨he, hm⟩ - hclosed
    exact glbEid_keeps_while_held hm he hclosed
  · rintro ⟨he, hm⟩ hright hopen hlock
    exact glbEid_takes_right hm he hright hopen hlock
  · rintro (⟨hstep, hbusy, hout⟩ | ⟨hbusy, hopen, hmay⟩) hkind
    · exact linkTraining_without_moduleEid path (stepWork_of_running path hstep hbusy hout) (Ev.refl s) hkind
    · exact linkTraining_without_moduleEid path (stepWork_of_starting path hbusy hopen hmay) (startStep_ev 9 s) hkind

end

/-! ## An acknowledgement that brings a lost stream's other plane back (R196, R198) -/

namespace Sys2Proof.Machine

/-- A LOAD in ordered stream 1 to endpoint 0x281, sent once on plane A with XSEQ 9. -/
def orderedLoadSent : Sent :=
  { xseq := 9, tag := 0, entryPlane := false, plane := false, firstAt := 0, lastAt := 0, base := 1, retries := 3 }
def orderedLoad : SrcOp :=
  { id := 4, ctx := none, use := .none, sent := some orderedLoadSent
    pkt := { dst := 0x281, src := 0x280, opcode := 0x60, tc := 3, plane := false, stream := 1 } }

/-- Endpoint 0x280 with that load in flight: no port of plane A, the stream's plane, is up, and plane B, where port 8 is up, is
suspect for 0x281. -/
def planeLostState : State :=
  ((State.reset.wr .endpoint Fld.fxeIdEid 0 0x280).wr .endpoint Fld.prtStatusState 8 2).onXpt .endpoint fun x =>
    { x with ops := [orderedLoad], suspect := smapSet x.suspect (suspectKey 0x281 true) { since := some 0 } }

/-- The XPT_ACK of the load, on plane B. -/
def ackOnPlaneB : Packet :=
  sealPacket { dst := 0x280, src := 0x281, opcode := 0x7E, tc := 4, plane := true, stream := 1, xseq := 10 }

/-- The acknowledgement ends plane B's mark, the barrier of the stream runs (R198), and the load, which still waits for its response,
leaves a second time. -/
theorem ackOnPlaneB_resends {t : State} (h : exec (.xptAck .endpoint 8 ackOnPlaneB) planeLostState = .next t) :
    (t.xpt .endpoint).ops.map (fun o => o.sent.map (·.tries)) = [some 1] := by
  obtain rfl := Host.Outcome.next.inj h
  decide +kernel

end Sys2Proof.Machine

section

open Sys2Proof Sys2Proof.Machine

/-- Refutes O20: its third clause has a good XPT_ACK of a request that has a response change nothing of it but the mark that it is
acknowledged. Where the same XPT_ACK ends a plane's suspect mark and a barrier has waited for that plane (R198), the barrier
sends the request again, so that its count of retransmissions, its plane and its time change too. -/
theorem not_transportControlIsTaken : ¬ Obligations.TransportControlIsTaken := by
  intro h
  obtain ⟨-, -, hmarks, -⟩ := h .endpoint 8 ackOnPlaneB planeLostState
  obtain ⟨t, hnext, hops⟩ := hmarks orderedLoad orderedLoadSent rfl ⟨by decide +kernel, rfl⟩ (by decide +kernel) (by decide)
    rfl rfl rfl rfl (by decide) rfl
  have hresent := ackOnPlaneB_resends hnext
  rw [hops] at hresent
  exact absurd hresent (by decide)

end

/-! ## The code of a line and its undoing: levels, precoding, symbols and codewords -/

namespace Sys2Proof.Machine

/-! ### Levels and precoding (R77, R79) -/

theorem levelPair_grayLevel (a b : Bool) : levelPair (grayLevel a b) = [a, b] := by
  cases a <;> cases b <;> decide

theorem levelBits_cons (x : BitVec 2) (l : List (BitVec 2)) : levelBits (x :: l) = levelPair x ++ levelBits l := rfl

theorem levelBits_lineLevels : ∀ {bits : List Bool}, bits.length % 2 = 0 → levelBits (lineLevels bits) = bits
  | [], _ => rfl
  | [_], h => absurd h (by simp)
  | a :: b :: rest, h => by
    have hrest : levelBits (lineLevels rest) = rest := levelBits_lineLevels (by simp only [List.length_cons] at h; omega)
    rw [lineLevels, levelBits_cons, levelPair_grayLevel, hrest]
    rfl

theorem unprecode_precode (last : BitVec 2) (xs : List (BitVec 2)) : unprecode last (precode last xs) = xs := by
  induction xs generalizing last with
  | nil => rfl
  | cons x xs ih => rw [precode, unprecode, ih, BitVec.sub_add_cancel]

theorem precode_unprecode (last : BitVec 2) (xs : List (BitVec 2)) : precode last (unprecode last xs) = xs := by
  induction xs generalizing last with
  | nil => rfl
  | cons x xs ih => rw [unprecode, precode, BitVec.add_sub_cancel, ih]

/-- Sender and receiver that agree on precoding undo it. -/
theorem receivedBits_sentLevels {sd far : Side} {n m : Nat} {bits : List Bool} {s : State} (hlen : bits.length % 2 = 0)
    (hpre : s.rdb far Fld.lnkStatusPrecodeRx m = s.rdb sd Fld.lnkStatusPrecodeTx n) :
    receivedBits far m (sentLevels sd n bits s) s = bits := by
  unfold receivedBits sentLevels
  rw [hpre]
  split
  · rw [unprecode_precode, levelBits_lineLevels hlen]
  · exact levelBits_lineLevels hlen

/-! ### Symbols and bytes as bits (R78, R112) -/

theorem natOfBits_cons (b : Bool) (l : List Bool) : natOfBits (b :: l) = 2 * natOfBits l + b.toNat := by
  cases b <;> simp [natOfBits, b2n, Nat.add_comm]

theorem natOfBits_testBit (l : List Bool) (i : Nat) : (natOfBits l).testBit i = l.getD i false := by
  induction l generalizing i with
  | nil => simp [natOfBits]
  | cons b l ih =>
    have hb : b.toNat < 2 := b.toNat_lt
    rw [natOfBits_cons]
    cases i with
    | zero => cases b <;> simp
    | succ i =>
      have hdiv : (2 * natOfBits l + b.toNat) / 2 = natOfBits l := by omega
      rw [Nat.testBit_succ, hdiv, ih, List.getD_cons_succ]

/-- A symbol made of 10 bits gives those bits back. -/
theorem symbol_bits {l : List Bool} (h : l.length = 10) :
    (List.range 10).map (BitVec.ofNat 10 (natOfBits l)).getLsbD = l := by
  refine List.ext_getElem (by simp [h]) fun i hi hl => ?_
  have hi : i < 10 := by simpa using hi
  simp [-BitVec.getLsbD_eq_getElem, BitVec.getLsbD_ofNat, natOfBits_testBit, hi, hl]

/-- The first 10 bits make the first symbol, the others the rest. -/
theorem lineSymbols_of_le {bits : List Bool} (h : 10 ≤ bits.length) :
    lineSymbols bits = BitVec.ofNat 10 (natOfBits (bits.take 10)) :: lineSymbols (bits.drop 10) := by
  have hcount : bits.length / 10 = (bits.drop 10).length / 10 + 1 := by
    rw [List.length_drop]
    omega
  unfold lineSymbols
  rw [hcount, List.range_succ_eq_map, List.map_cons, List.map_map]
  simp [Function.comp_def, Nat.mul_succ, Nat.add_comm]

theorem symbolBits_lineSymbols {bits : List Bool} (h : bits.length % 10 = 0) : symbolBits (lineSymbols bits) = bits := by
  obtain ⟨k, hk⟩ : ∃ k, bits.length = 10 * k := ⟨_, (Nat.mul_div_cancel' (Nat.dvd_of_mod_eq_zero h)).symm⟩
  clear h
  induction k generalizing bits with
  | zero =>
    obtain rfl := List.length_eq_zero_iff.mp hk
    rfl
  | succ k ih =>
    have hrest : symbolBits (lineSymbols (bits.drop 10)) = bits.drop 10 := ih (by rw [List.length_drop]; omega)
    have hfirst := symbol_bits (l := bits.take 10) (by rw [List.length_take]; omega)
    rw [lineSymbols_of_le (by omega)]
    calc symbolBits (_ :: lineSymbols (bits.drop 10))
      _ = (List.range 10).map (BitVec.ofNat 10 (natOfBits (bits.take 10))).getLsbD ++ symbolBits (lineSymbols (bits.drop 10)) := rfl
      _ = bits.take 10 ++ bits.drop 10 := by rw [hfirst, hrest]
      _ = bits := List.take_append_drop 10 bits

theorem lineBits_getElem? {l : List Byte} {i : Nat} (h : i < 8 * l.length) :
    (lineBits l)[i]? = some ((l.getD (i / 8) 0).getLsbD (i % 8)) := by
  induction l generalizing i with
  | nil => simp at h
  | cons b l ih =>
    change ((List.range 8).map b.getLsbD ++ lineBits l)[i]? = _
    rw [List.getElem?_append, List.length_map, List.length_range]
    split
    · next hi => simp [hi, Nat.div_eq_of_lt hi, Nat.mod_eq_of_lt hi]
    · next hi =>
      rw [List.length_cons] at h
      rw [ih (by omega), show i / 8 = (i - 8) / 8 + 1 by omega, show i % 8 = (i - 8) % 8 by omega, List.getD_cons_succ]

/-! ### Interleaving (R113) -/

theorem interleave_getElem? {a b : List (BitVec 10)} {i : Nat} (hlen : a.length = b.length) (hi : i < a.length) :
    (interleave a b)[2 * i]? = a[i]? ∧ (interleave a b)[2 * i + 1]? = b[i]? := by
  induction a generalizing b i with
  | nil => simp at hi
  | cons x a ih =>
    cases b with
    | nil => simp at hlen
    | cons y b =>
      cases i with
      | zero => exact ⟨rfl, rfl⟩
      | succ i =>
        have hrest := ih (b := b) (i := i) (by simpa using hlen) (by simpa using hi)
        simpa [interleave, Nat.mul_succ] using hrest

end Sys2Proof.Machine

section

open Sys2Proof Sys2Proof.Machine

/-- Settles O16, one lemma for each way there and back. -/
theorem lineCodeIsUndoneAtTheOtherEnd : Obligations.LineCodeIsUndoneAtTheOtherEnd :=
  ⟨fun _ _ _ _ _ _ => receivedBits_sentLevels, fun last xs => ⟨unprecode_precode last xs, precode_unprecode last xs⟩,
    fun _ => symbolBits_lineSymbols, fun _ _ => lineBits_getElem?, fun _ _ _ => interleave_getElem?, rfl, rfl, rfl, rfl⟩

end

/-! ## Lanes in training: the fields of LNK.STATUS and what a lane holds after each operation -/

namespace Sys2Proof.Machine

/-- Writing a field leaves the fields that lie apart from it in every entry of its register. -/
theorem rd_wr_apart (s : State) (sd : Side) {f g : Field} (i j v : Nat) (hr : g.reg = f.reg) (hw : g.word = f.word)
    (hlt : f.word < 16) (h : g.hi < f.lo ∨ f.hi < g.lo) : (s.wr sd f i v).rd sd g j = s.rd sd g j := by
  by_cases hij : j = i
  · rw [hij, rd_wr_field s sd f g i v hr hw h]
  · exact rd_wr_entry s sd sd f g i j v hr hlt (hw ▸ hlt) (.inl hij)

variable (sd : Side) (n : Nat) (s : State)

@[simp] theorem lane_setLaneSt (st k : Nat) : (setLaneSt sd n st s).lane sd k = s.lane sd k := lane_wr s sd sd k _ n st

@[simp] theorem lane_setReason (r k : Nat) : (setReason sd n r s).lane sd k = s.lane sd k := lane_wr s sd sd k _ n r

@[simp] theorem laneSt_onLane (k : Nat) (f : LaneState → LaneState) : laneSt sd n (s.onLane sd k f) = laneSt sd n s :=
  rd_onLane s sd sd k f _ n

@[simp] theorem laneSt_setReason (r : Nat) : laneSt sd n (setReason sd n r s) = laneSt sd n s :=
  rd_wr_field s sd Fld.lnkStatusReason Fld.lnkStatusState n r rfl rfl (.inl (by decide))

@[simp] theorem laneSt_wr_attempts (a : Nat) : laneSt sd n (s.wr sd Fld.lnkStatusAttempts n a) = laneSt sd n s :=
  rd_wr_field s sd Fld.lnkStatusAttempts Fld.lnkStatusState n a rfl rfl (.inl (by decide))

theorem rd_setReason_reason {r : Nat} (h : r < 16) : (setReason sd n r s).rd sd Fld.lnkStatusReason n = r :=
  rd_wr_lit sd s Fld.lnkStatusReason n r (by decide) (by decide) h

theorem rd_wr_attempts {a : Nat} (h : a < 4) : (s.wr sd Fld.lnkStatusAttempts n a).rd sd Fld.lnkStatusAttempts n = a :=
  rd_wr_lit sd s Fld.lnkStatusAttempts n a (by decide) (by decide) h

@[simp] theorem rd_setReason_attempts (r : Nat) :
    (setReason sd n r s).rd sd Fld.lnkStatusAttempts n = s.rd sd Fld.lnkStatusAttempts n :=
  rd_wr_field s sd Fld.lnkStatusReason Fld.lnkStatusAttempts n r rfl rfl (.inl (by decide))

@[simp] theorem rd_wr_attempts_reason (a : Nat) :
    (s.wr sd Fld.lnkStatusAttempts n a).rd sd Fld.lnkStatusReason n = s.rd sd Fld.lnkStatusReason n :=
  rd_wr_field s sd Fld.lnkStatusAttempts Fld.lnkStatusReason n a rfl rfl (.inr (by decide))

/-! ### The free slice (R98) -/

/-- The lowest free slice depends on the slices in use and the bad ones alone. -/
theorem freeSlice_congr {t : State} (hslice : ∀ k, t.rd sd Fld.lnkStatusSlice k = s.rd sd Fld.lnkStatusSlice k)
    (hbad : (t.unit sd).badSlices = (s.unit sd).badSlices) : freeSlice sd n t = freeSlice sd n s := by
  unfold freeSlice
  simp only [hslice, hbad]

/-- A write below SLICE in LNK.STATUS leaves the free slice. -/
theorem freeSlice_wr {f : Field} (hr : f.reg = .lnkStatus) (hw : f.word = 0) (hhi : f.hi < 40) (i v : Nat) :
    freeSlice sd n (s.wr sd f i v) = freeSlice sd n s :=
  freeSlice_congr sd n s (fun k => rd_wr_apart s sd i k v hr.symm hw.symm (by omega) (.inr hhi)) (by simp [State.wr, State.setWord])

@[simp] theorem freeSlice_setReason (r : Nat) : freeSlice sd n (setReason sd n r s) = freeSlice sd n s :=
  freeSlice_wr sd n s (f := Fld.lnkStatusReason) rfl rfl (by decide) n r

@[simp] theorem freeSlice_wr_attempts (a : Nat) : freeSlice sd n (s.wr sd Fld.lnkStatusAttempts n a) = freeSlice sd n s :=
  freeSlice_wr sd n s (f := Fld.lnkStatusAttempts) rfl rfl (by decide) n a

@[simp] theorem freeSlice_setLaneSt (st : Nat) : freeSlice sd n (setLaneSt sd n st s) = freeSlice sd n s :=
  freeSlice_wr sd n s (f := Fld.lnkStatusState) rfl rfl (by decide) n st

/-- An operation that leaves LNK.STATUS and the bad slices alone leaves the free slice. -/
theorem Ev.freeSlice {F : Nat} {s t : State} (h : Ev F s t) (sd : Side)
    (hreg : F.testBit (Part.reg sd Reg.lnkStatus).idx = false) (hbad : F.testBit (Part.unit sd .badSlices).idx = false) (n : Nat) :
    freeSlice sd n t = freeSlice sd n s :=
  freeSlice_congr sd n s (fun k => h.rd sd Fld.lnkStatusSlice hreg k) (h.part (.unit sd .badSlices) hbad)

/-! ### An attempt that fails (R88) -/

section

variable {sd n s}

theorem failAttempt_of_lt {ic : Bool} (h : s.rd sd Fld.lnkStatusAttempts n < 2) :
    failAttempt sd n ic s = enterDetect sd n ic (s.wr sd Fld.lnkStatusAttempts n (s.rd sd Fld.lnkStatusAttempts n + 1)) :=
  if_neg (by omega)

theorem failAttempt_of_third {ic : Bool} (h : 2 ≤ s.rd sd Fld.lnkStatusAttempts n) :
    failAttempt sd n ic s = enterFailed sd n (s.wr sd Fld.lnkStatusAttempts n (s.rd sd Fld.lnkStatusAttempts n + 1)) :=
  if_pos (by omega)

theorem laneSt_failAttempt {ic : Bool} (h : s.rd sd Fld.lnkStatusAttempts n < 2) : laneSt sd n (failAttempt sd n ic s) = 1 := by
  rw [failAttempt_of_lt h, laneSt_enterDetect]

theorem rd_failAttempt_attempts {ic : Bool} (h : s.rd sd Fld.lnkStatusAttempts n < 2) :
    (failAttempt sd n ic s).rd sd Fld.lnkStatusAttempts n = s.rd sd Fld.lnkStatusAttempts n + 1 := by
  rw [failAttempt_of_lt h, rd_enterDetect_high sd n _ ic rfl rfl (by decide), rd_wr_attempts sd n s (by omega)]

theorem rd_failAttempt_reason {ic : Bool} (h : s.rd sd Fld.lnkStatusAttempts n < 2) :
    (failAttempt sd n ic s).rd sd Fld.lnkStatusReason n = s.rd sd Fld.lnkStatusReason n := by
  rw [failAttempt_of_lt h, rd_enterDetect_high sd n _ ic rfl rfl (by decide), rd_wr_attempts_reason]

theorem lane_failAttempt {ic : Bool} (h : s.rd sd Fld.lnkStatusAttempts n < 2) :
    (failAttempt sd n ic s).lane sd n = clearTraining ic (s.lane sd n) := by
  rw [failAttempt_of_lt h, lane_enterDetect, lane_wr]

end

/-- The lane in FAILED with its event, before its slice is replaced or NO_SPARE is noted (R88, R98). -/
def failedLane : State :=
  logEvent sd { code := 0x11, severity := 2, block := 4, arg0 := n, arg1 := s.rd sd Fld.lnkStatusReason n }
    (setLaneSt sd n 12 (match sd with | .module => s | .endpoint => raiseLane .endpoint s))

@[simp] theorem laneSt_failedLane : laneSt sd n (failedLane sd n s) = 12 := by
  unfold failedLane
  rw [(logEvent_ev sd _ _).laneSt sd (by cases sd <;> rfl), laneSt_setLaneSt sd n _ (by decide)]

@[simp] theorem freeSlice_failedLane : freeSlice sd n (failedLane sd n s) = freeSlice sd n s := by
  unfold failedLane
  rw [(logEvent_ev sd _ _).freeSlice sd (by cases sd <;> rfl) (by cases sd <;> rfl), freeSlice_setLaneSt]
  cases sd
  · rfl
  · exact (raiseLane_ev .endpoint s).freeSlice .endpoint rfl rfl n

theorem enterFailed_of_none (h : freeSlice sd n s = none) : enterFailed sd n s = setReason sd n 8 (failedLane sd n s) := by
  rw [← freeSlice_failedLane] at h
  change (match freeSlice sd n (failedLane sd n s) with | some x => _ | none => _) = _
  rw [h]
  rfl

section

variable {sd n s}

/-- The third failed attempt without a free slice leaves the lane in FAILED with REASON NO_SPARE. -/
theorem failAttempt_without_spare {ic : Bool} (h : 2 ≤ s.rd sd Fld.lnkStatusAttempts n) (hfree : freeSlice sd n s = none) :
    laneSt sd n (failAttempt sd n ic s) = 12 ∧ (failAttempt sd n ic s).rd sd Fld.lnkStatusReason n = 8 := by
  rw [failAttempt_of_third h, enterFailed_of_none sd n _ (by rwa [freeSlice_wr_attempts]), laneSt_setReason, laneSt_failedLane]
  exact ⟨rfl, rd_setReason_reason sd n _ (by decide)⟩

/-! ### The commands that end an attempt (R88, R95, R96) -/

theorem trainingTimeout_ends (hlo : 2 ≤ laneSt sd n s) (hhi : laneSt sd n s ≤ 7) :
    exec (.trainingTimeout sd n) s = .next (failAttempt sd n false (setReason sd n 5 (laneLeaves sd n s))) :=
  congrArg Host.Outcome.next (if_pos ⟨hlo, hhi⟩)

theorem trainingTimeout_returns (hlo : 2 ≤ laneSt sd n s) (hhi : laneSt sd n s ≤ 7)
    (ha : (laneLeaves sd n s).rd sd Fld.lnkStatusAttempts n < 2) : Answers (.trainingTimeout sd n) s fun t =>
      laneSt sd n t = 1 ∧ t.rd sd Fld.lnkStatusAttempts n = (laneLeaves sd n s).rd sd Fld.lnkStatusAttempts n + 1
        ∧ t.rd sd Fld.lnkStatusReason n = 5 := by
  rw [← rd_setReason_attempts sd n _ 5] at ha ⊢
  exact ⟨_, trainingTimeout_ends hlo hhi, laneSt_failAttempt ha, rd_failAttempt_attempts ha,
    (rd_failAttempt_reason ha).trans (rd_setReason_reason sd n _ (by decide))⟩

theorem trainingTimeout_without_spare (hlo : 2 ≤ laneSt sd n s) (hhi : laneSt sd n s ≤ 7)
    (ha : 2 ≤ (laneLeaves sd n s).rd sd Fld.lnkStatusAttempts n) (hfree : freeSlice sd n (laneLeaves sd n s) = none) :
    Answers (.trainingTimeout sd n) s fun t => laneSt sd n t = 12 ∧ t.rd sd Fld.lnkStatusReason n = 8 :=
  ⟨_, trainingTimeout_ends hlo hhi, failAttempt_without_spare (by rwa [rd_setReason_attempts]) (by rwa [freeSlice_setReason])⟩

theorem trainingTimeout_unchanged (h : laneSt sd n s < 2 ∨ 7 < laneSt sd n s) :
    Answers (.trainingTimeout sd n) s fun t => t = s :=
  ⟨_, congrArg Host.Outcome.next (if_neg (by omega)), rfl⟩

theorem verifyEnd_of_verify {errors : Nat} (hst : laneSt sd n s = 6) : exec (.verifyEnd sd n errors) s =
    .next (if errors ≤ 537600 then setLaneSt sd n 7 s else failAttempt sd n false (setReason sd n 6 s)) := by
  change execVerifyEnd sd n errors s = _
  unfold execVerifyEnd
  rw [hst]
  rfl

theorem verifyEnd_of_fast {errors : Nat} (hst : laneSt sd n s = 13) (herr : 4480 < errors) : exec (.verifyEnd sd n errors) s =
    .next ((loadInitPreset sd n (setLaneSt sd n 4 s)).onLane sd n fun l => { l with
      fast := false, rxDone := false, farTaps := BitVec.ofNat 30 (presetTaps (s.rd sd Fld.lnkCtlInitPreset n)).1 }) := by
  change execVerifyEnd sd n errors s = _
  unfold execVerifyEnd
  rw [hst]
  exact congrArg Host.Outcome.next (if_pos herr)

theorem verifyEnd_passes {errors : Nat} (hst : laneSt sd n s = 6) (herr : errors ≤ 537600) :
    Answers (.verifyEnd sd n errors) s fun t => laneSt sd n t = 7 :=
  ⟨_, (verifyEnd_of_verify hst).trans (congrArg Host.Outcome.next (if_pos herr)), laneSt_setLaneSt sd n s (by decide)⟩

theorem verifyEnd_fails {errors : Nat} (hst : laneSt sd n s = 6) (herr : 537600 < errors)
    (ha : s.rd sd Fld.lnkStatusAttempts n < 2) : Answers (.verifyEnd sd n errors) s fun t => laneSt sd n t = 1
      ∧ t.rd sd Fld.lnkStatusReason n = 6 ∧ t.rd sd Fld.lnkStatusAttempts n = s.rd sd Fld.lnkStatusAttempts n + 1 := by
  rw [← rd_setReason_attempts sd n s 6] at ha ⊢
  exact ⟨_, (verifyEnd_of_verify hst).trans (congrArg Host.Outcome.next (if_neg (by omega))), laneSt_failAttempt ha,
    (rd_failAttempt_reason ha).trans (rd_setReason_reason sd n s (by decide)), rd_failAttempt_attempts ha⟩

theorem verifyEnd_leaves_fast {errors : Nat} (hst : laneSt sd n s = 13) (herr : 4480 < errors) :
    Answers (.verifyEnd sd n errors) s fun t => laneSt sd n t = 4 ∧ (t.lane sd n).fast = false := by
  refine ⟨_, verifyEnd_of_fast hst herr, ?_, by rw [lane_onLane_same]⟩
  rw [laneSt_onLane, (loadInitPreset_ev sd n _).laneSt sd (by cases sd <;> rfl), laneSt_setLaneSt sd n s (by decide)]

theorem farSignalLost_fails (hin : inAttempt (laneSt sd n s) = true) (hcirc : s.rdb sd Fld.lnkCtlCircuit n = false)
    (hfast : (s.lane sd n).fast = false) (ha : (laneLeaves sd n s).rd sd Fld.lnkStatusAttempts n < 2) :
    Answers (.farSignalLost sd n) s fun t =>
      laneSt sd n t = 1 ∧ t.rd sd Fld.lnkStatusAttempts n = (laneLeaves sd n s).rd sd Fld.lnkStatusAttempts n + 1 := by
  refine ⟨failAttempt sd n false (laneLeaves sd n s), ?_, laneSt_failAttempt ha, rd_failAttempt_attempts ha⟩
  change execFarSignalLost sd n s = _
  simp [execFarSignalLost, hin, hcirc, hfast]

/-- On a circuit port the attempt ends uncounted (R96). -/
theorem farSignalLost_of_circuit (hin : inAttempt (laneSt sd n s) = true) (hcirc : s.rdb sd Fld.lnkCtlCircuit n = true) :
    Answers (.farSignalLost sd n) s fun t =>
      laneSt sd n t = 1 ∧ t.rd sd Fld.lnkStatusAttempts n = (laneLeaves sd n s).rd sd Fld.lnkStatusAttempts n := by
  refine ⟨enterDetect sd n false (laneLeaves sd n s), ?_, laneSt_enterDetect sd n _ false,
    rd_enterDetect_high sd n _ false rfl rfl (by decide)⟩
  change execFarSignalLost sd n s = _
  simp [execFarSignalLost, hin, hcirc]

theorem farSignalLost_in_data (hst : laneSt sd n s = 8) : Answers (.farSignalLost sd n) s fun t => laneSt sd n t = 1 := by
  refine ⟨leaveAndRetrain sd n false s, ?_, laneSt_leaveAndRetrain sd n s false⟩
  change execFarSignalLost sd n s = _
  simp [execFarSignalLost, hst, inAttempt]

/-- The fast path's failure drops the far end's entry of the cache, and the next training ignores the cache (R95). -/
theorem fastTimeout_abandons (hst : laneSt sd n s = 13) (ha : (laneLeaves sd n s).rd sd Fld.lnkStatusAttempts n < 2) :
    Answers (.fastTimeout sd n) s fun t =>
      laneSt sd n t = 1 ∧ t.rd sd Fld.lnkStatusAttempts n = (laneLeaves sd n s).rd sd Fld.lnkStatusAttempts n + 1
        ∧ t.rd sd Fld.lnkStatusReason n = 5 ∧ (t.lane sd n).ignoreCache = true
        ∧ (t.lane sd n).cache = cacheDrop (farId sd n (laneLeaves sd n s)).1 (farId sd n (laneLeaves sd n s)).2
          ((laneLeaves sd n s).lane sd n).cache := by
  have hnext : exec (.fastTimeout sd n) s = .next (abandonFast sd n (laneLeaves sd n s)) := congrArg Host.Outcome.next (if_pos (.inl hst))
  generalize laneLeaves sd n s = u at ha hnext ⊢
  have ha' : ((setReason sd n 5 u).onLane sd n fun l => { l with cache := cacheDrop (farId sd n u).1 (farId sd n u).2 l.cache }).rd sd
      Fld.lnkStatusAttempts n = u.rd sd Fld.lnkStatusAttempts n := by rw [rd_onLane, rd_setReason_attempts]
  rw [← ha'] at ha ⊢
  refine ⟨_, hnext, laneSt_failAttempt ha, rd_failAttempt_attempts ha, ?_, ?_⟩
  · exact (rd_failAttempt_reason ha).trans ((rd_onLane _ sd sd n _ _ n).trans (rd_setReason_reason sd n u (by decide)))
  · have hlane := lane_failAttempt (ic := true) ha
    rw [lane_onLane_same, lane_setReason] at hlane
    exact ⟨congrArg LaneState.ignoreCache hlane, congrArg LaneState.cache hlane⟩

end

end Sys2Proof.Machine

section

open Sys2Proof Sys2Proof.Machine

/-- Settles O8, one lemma for each command and each way its attempt ends. -/
theorem laneAttemptFails : Obligations.LaneAttemptFails := fun _ _ _ =>
  ⟨trainingTimeout_returns, trainingTimeout_without_spare, trainingTimeout_unchanged, fun _ => verifyEnd_fails,
    fun _ => verifyEnd_leaves_fast, farSignalLost_fails, farSignalLost_of_circuit, farSignalLost_in_data, fastTimeout_abandons⟩

end

/-! ## Lanes in training: control blocks, handover and tap requests -/

namespace Sys2Proof.Machine

variable (sd : Side) (n : Nat) (cb : ControlBlock) (rx : ReceiverView) (s : State)

/-! ### What a control block gives (R83 to R87) -/

/-- A response touches this end's outstanding request and what it knows of the far taps. -/
theorem lane_takeTapResponse (r : BitVec 16) : ∃ req taps,
    (takeTapResponse sd n r s).lane sd n = { s.lane sd n with myRequest := req, farTaps := taps } := by
  unfold takeTapResponse
  split
  · exact ⟨_, _, rfl⟩
  · split
    · exact ⟨_, _, rfl⟩
    · rw [lane_onLane_same]
      unfold State.wrb
      rw [lane_wr]
      exact ⟨_, _, rfl⟩

/-- A response may set PRECODE_RX and leaves the other fields of LNK.STATUS. -/
theorem rd_takeTapResponse (r : BitVec 16) {f : Field} (hr : f.reg = .lnkStatus) (hw : f.word = 0) (h : f.hi < 6 ∨ 6 < f.lo) :
    (takeTapResponse sd n r s).rd sd f n = s.rd sd f n := by
  unfold takeTapResponse
  split
  · rfl
  · split
    · rfl
    · rw [rd_onLane, rd_wrb_field sd s Fld.lnkStatusPrecodeRx f n _ hr hw h]

theorem lane_takeBlock : ∃ req taps far, (takeBlock sd n cb s).lane sd n = { s.lane sd n with
    farTstate := cb.tstate, farRxDone := cb.request.getLsbD 0, farVersion := cb.version
    farAssign := BitVec.ofNat 20 cb.assign.toNat, farRequest := far, myRequest := req, farTaps := taps } := by
  obtain ⟨req, taps, h⟩ := lane_takeTapResponse sd n (s.onLane sd n fun l =>
    { l with farTstate := cb.tstate, farRxDone := cb.request.getLsbD 0, farVersion := cb.version
             farAssign := BitVec.ofNat 20 cb.assign.toNat
             farRequest := if l.answered = some (cb.request.extractLsb' 12 4) then l.farRequest
               else some (cb.request, cb.tapset) }) cb.response
  rw [lane_onLane_same] at h
  exact ⟨_, _, _, h⟩

theorem rd_takeBlock {f : Field} (hr : f.reg = .lnkStatus) (hw : f.word = 0) (h : f.hi < 6 ∨ 6 < f.lo) :
    (takeBlock sd n cb s).rd sd f n = s.rd sd f n :=
  (rd_takeTapResponse sd n _ cb.response hr hw h).trans (rd_onLane s sd sd n _ f n)

@[simp] theorem laneSt_takeBlock : laneSt sd n (takeBlock sd n cb s) = laneSt sd n s :=
  rd_takeBlock sd n cb s rfl rfl (.inl (by decide))

theorem lane_takeReceiver : ∃ seq req, (takeReceiver sd n rx s).lane sd n = { s.lane sd n with
    rxDone := rx.rxDone, eqState := rx.eqState, spanPs := rx.spanPs, myRequestSeq := seq, myRequest := req } := by
  unfold takeReceiver
  rw [lane_onLane_same]
  dsimp only
  split <;> exact ⟨_, _, rfl⟩

theorem rd_takeReceiver (f : Field) : (takeReceiver sd n rx s).rd sd f n = s.rd sd f n := rd_onLane s sd sd n _ f n

@[simp] theorem laneSt_takeReceiver : laneSt sd n (takeReceiver sd n rx s) = laneSt sd n s := rd_takeReceiver sd n rx s _

/-- What TUNE and DESKEW take from a block and from the receiver. -/
theorem lane_takeReceiver_takeBlock : ((takeReceiver sd n rx (takeBlock sd n cb s)).lane sd n).farRxDone = cb.request.getLsbD 0
    ∧ ((takeReceiver sd n rx (takeBlock sd n cb s)).lane sd n).eqState = rx.eqState := by
  obtain ⟨seq, req, hrx⟩ := lane_takeReceiver sd n rx (takeBlock sd n cb s)
  obtain ⟨req', taps, far, hcb⟩ := lane_takeBlock sd n cb s
  rw [hrx, hcb]
  exact ⟨rfl, rfl⟩

/-! ### One good control block by the lane's state (R88) -/

section

variable {sd n cb s rx}

theorem controlBlock_of_good (h : controlGood cb = true) : exec (.controlBlock sd n cb rx) s = .next (trainStep sd n cb rx s) :=
  congrArg Host.Outcome.next (if_pos h)

theorem trainStep_of_lock (hst : laneSt sd n s = 2) : trainStep sd n cb rx s =
    (let s1 := (takeBlock sd n cb s).onLane sd n fun l => { l with goodBlocks := l.goodBlocks + 1 }
    if 3 ≤ (s1.lane sd n).goodBlocks then setLaneSt sd n 3 s1 else s1) := by
  unfold trainStep
  rw [hst]
  rfl

theorem trainStep_of_identify (hst : laneSt sd n s = 3) :
    trainStep sd n cb rx s = compareIdentity sd n (storeIdentity sd n cb (takeBlock sd n cb s)) := by
  unfold trainStep
  rw [hst]
  rfl

theorem trainStep_of_tune (hst : laneSt sd n s = 4) : trainStep sd n cb rx s =
    (let s1 := takeReceiver sd n rx (takeBlock sd n cb s)
    if rx.rxDone && (s1.lane sd n).farRxDone then setLaneSt sd n 5 s1 else s1) := by
  unfold trainStep
  rw [hst]
  rfl

theorem trainStep_of_deskew (hst : laneSt sd n s = 5) : trainStep sd n cb rx s =
    (let s1 := takeReceiver sd n rx (takeBlock sd n cb s)
    if inSpan rx.spanPs then setLaneSt sd n 6 s1 else failAttempt sd n false (setReason sd n 7 s1)) := by
  unfold trainStep
  rw [hst]
  rfl

theorem trainStep_of_no_training (hst : laneSt sd n s ∈ [0, 1, 8, 9, 10, 12]) : trainStep sd n cb rx s = s := by
  simp only [List.mem_cons, List.not_mem_nil, or_false] at hst
  unfold trainStep
  rcases hst with h | h | h | h | h | h <;> (rw [h]; rfl)

theorem controlBlock_in_lock (hgood : controlGood cb = true) (hst : laneSt sd n s = 2) :
    Answers (.controlBlock sd n cb rx) s fun t => laneSt sd n t = (if 2 ≤ (s.lane sd n).goodBlocks then 3 else 2)
      ∧ (t.lane sd n).goodBlocks = (s.lane sd n).goodBlocks + 1 ∧ (t.lane sd n).farTstate = cb.tstate := by
  refine ⟨_, (controlBlock_of_good hgood).trans (congrArg Host.Outcome.next (trainStep_of_lock hst)), ?_⟩
  obtain ⟨req, taps, far, hlane⟩ := lane_takeBlock sd n cb s
  by_cases hthird : 2 ≤ (s.lane sd n).goodBlocks
  · simp [hlane, hthird, laneSt_setLaneSt]
  · simp [hlane, hthird, hst]

theorem controlBlock_in_identify (hgood : controlGood cb = true) (hst : laneSt sd n s = 3) :
    Answers (.controlBlock sd n cb rx) s fun t => t.rdb sd Fld.lnkFarIdValid n = true
      ∧ t.rd sd Fld.lnkFarIdEid n = cb.ident.toNat % 2 ^ 20 ∧ t.rd sd Fld.lnkFarIdPort n = cb.ident.toNat / 2 ^ 20 % 2 ^ 10 := by
  refine ⟨_, (controlBlock_of_good hgood).trans (congrArg Host.Outcome.next (trainStep_of_identify hst)), ?_⟩
  have hfar : ∀ f : Field, f.reg = .lnkFarId → (compareIdentity sd n (storeIdentity sd n cb (takeBlock sd n cb s))).rd sd f n
      = (storeIdentity sd n cb (takeBlock sd n cb s)).rd sd f n := fun f hf =>
    (compareIdentity_ev sd n _).rd sd f (by rw [hf]; cases sd <;> rfl) n
  dsimp only
  rw [rdb_def, hfar _ rfl, hfar _ rfl, hfar _ rfl]
  unfold storeIdentity
  refine ⟨?_, ?_, rd_wr_lit _ _ _ _ _ (by decide) (by decide) (Nat.mod_lt _ (by decide))⟩
  · rw [rd_wr_field _ sd Fld.lnkFarIdPort Fld.lnkFarIdValid n _ rfl rfl (.inr (by decide)),
      rd_wr_field _ sd Fld.lnkFarIdEid Fld.lnkFarIdValid n _ rfl rfl (.inr (by decide)),
      rd_wrb_lit _ _ _ _ _ (by decide) (by decide)]
    rfl
  · rw [rd_wr_field _ sd Fld.lnkFarIdPort Fld.lnkFarIdEid n _ rfl rfl (.inl (by decide))]
    exact rd_wr_lit _ _ _ _ _ (by decide) (by decide) (Nat.mod_lt _ (by decide))

theorem controlBlock_in_tune (hgood : controlGood cb = true) (hst : laneSt sd n s = 4) :
    Answers (.controlBlock sd n cb rx) s fun t =>
      laneSt sd n t = (if rx.rxDone && cb.request.getLsbD 0 then 5 else 4) ∧ (t.lane sd n).eqState = rx.eqState := by
  refine ⟨_, (controlBlock_of_good hgood).trans (congrArg Host.Outcome.next (trainStep_of_tune hst)), ?_⟩
  obtain ⟨hdone, heq⟩ := lane_takeReceiver_takeBlock sd n cb rx s
  dsimp only
  rw [hdone]
  split
  · exact ⟨laneSt_setLaneSt sd n _ (by decide), (congrArg LaneState.eqState (lane_setLaneSt sd n _ 5 n)).trans heq⟩
  · exact ⟨by rw [laneSt_takeReceiver, laneSt_takeBlock, hst], heq⟩

theorem controlBlock_in_deskew (hgood : controlGood cb = true) (hst : laneSt sd n s = 5) :
    Answers (.controlBlock sd n cb rx) s fun t => inSpan rx.spanPs = true → laneSt sd n t = 6 := by
  refine ⟨_, (controlBlock_of_good hgood).trans (congrArg Host.Outcome.next (trainStep_of_deskew hst)), fun hspan => ?_⟩
  dsimp only
  rw [if_pos hspan, laneSt_setLaneSt sd n _ (by decide)]

/-- A lane outside the span in DESKEW has failed its attempt, with the reason of the span. -/
theorem controlBlock_outside_span (hgood : controlGood cb = true) (hst : laneSt sd n s = 5)
    (ha : s.rd sd Fld.lnkStatusAttempts n < 2) (hspan : inSpan rx.spanPs = false) :
    Answers (.controlBlock sd n cb rx) s fun t => laneSt sd n t = 1 ∧ t.rd sd Fld.lnkStatusReason n = 7
      ∧ t.rd sd Fld.lnkStatusAttempts n = s.rd sd Fld.lnkStatusAttempts n + 1 := by
  have hattempts : (setReason sd n 7 (takeReceiver sd n rx (takeBlock sd n cb s))).rd sd Fld.lnkStatusAttempts n
      = s.rd sd Fld.lnkStatusAttempts n := by
    rw [rd_setReason_attempts, rd_takeReceiver, rd_takeBlock sd n cb s rfl rfl (.inr (by decide))]
  rw [← hattempts] at ha ⊢
  exact ⟨_, (controlBlock_of_good hgood).trans (congrArg Host.Outcome.next ((trainStep_of_deskew hst).trans (if_neg (by simp [hspan])))),
    laneSt_failAttempt ha, (rd_failAttempt_reason ha).trans (rd_setReason_reason sd n _ (by decide)), rd_failAttempt_attempts ha⟩

theorem controlBlock_unchanged (hgood : controlGood cb = true) (hst : laneSt sd n s ∈ [0, 1, 8, 9, 10, 12]) :
    Answers (.controlBlock sd n cb rx) s fun t => t = s :=
  ⟨_, controlBlock_of_good hgood, trainStep_of_no_training hst⟩

/-- A bad control block is discarded and counted (R84). -/
theorem controlBlock_discarded (hbad : controlGood cb = false) : Answers (.controlBlock sd n cb rx) s fun t =>
    t.word sd .lnkCbErr n 0 = countedWord (s.word sd .lnkCbErr n 0) 1 ∧ laneSt sd n t = laneSt sd n s
      ∧ t.lane sd n = s.lane sd n := by
  have hev := bump_ev sd .lnkCbErr n s rfl
  exact ⟨bump sd .lnkCbErr n s, congrArg Host.Outcome.next (if_neg (by simp [hbad])),
    word_bump sd .lnkCbErr n s (by cases sd <;> rfl), hev.laneSt sd (by cases sd <;> rfl) n, hev.lane sd (by cases sd <;> rfl) n⟩

/-! ### The beginning of an attempt (R88, R108) -/

theorem farSignalDetected_starts (hst : laneSt sd n s = 1) : Answers (.farSignalDetected sd n) s fun t =>
    laneSt sd n t = 2 ∧ (t.lane sd n).goodBlocks = 0
      ∧ t.word sd .lnkTrainCnt n 0 = countedWord (s.word sd .lnkTrainCnt n 0) 1 := by
  refine ⟨_, congrArg Host.Outcome.next (if_pos hst), ?_, by rw [lane_onLane_same], ?_⟩
  · rw [laneSt_onLane, laneSt_setLaneSt sd n _ (by decide)]
  · rw [word_onLane, (setLaneSt_ev sd n 2 _).word sd .lnkTrainCnt (by cases sd <;> rfl),
      word_bump sd .lnkTrainCnt n s (by cases sd <;> rfl)]

theorem farSignalDetected_unchanged (hst : laneSt sd n s ≠ 1) : Answers (.farSignalDetected sd n) s fun t => t = s :=
  ⟨_, congrArg Host.Outcome.next (if_neg hst), rfl⟩

/-! ### Handover (R88, R95) -/

/-- A request to release a lane leaves LNK.STATUS and all of the lane but the state it enters once released. -/
theorem askRelease_keeps (toward : Nat) : (∀ f : Field, f.reg = .lnkStatus → (askRelease sd n toward s).rd sd f n = s.rd sd f n)
    ∧ ∃ r, (askRelease sd n toward s).lane sd n = { s.lane sd n with releaseTo := r } := by
  refine ⟨fun f hf => (askRelease_ev sd n toward s).rd sd f (by rw [hf]; cases sd <;> rfl) n, ?_⟩
  unfold askRelease
  split
  · exact ⟨_, rfl⟩
  · dsimp only
    split
    · exact ⟨_, rfl⟩
    · rw [lane_onLane_same, lane_onPort, (sendCtrl_ev sd _ _ _ _ s).lane sd (by cases sd <;> rfl)]
      exact ⟨_, rfl⟩

/-- Where a lower power state is wanted of a lane in data, its port is asked to release it; until then the lane stays. -/
theorem applyPower_in_data (hst : laneSt sd n s = 8) :
    (∀ f : Field, f.reg = .lnkStatus → (applyPower sd n s).rd sd f n = s.rd sd f n)
      ∧ ∃ r, (applyPower sd n s).lane sd n = { s.lane sd n with releaseTo := r } := by
  unfold applyPower
  dsimp only
  rw [hst]
  split
  · exact ⟨fun _ _ => rfl, _, rfl⟩
  · exact askRelease_keeps 1
  · exact askRelease_keeps 2

/-- The lane is in data, with its far end's settings the most recently used of its cache (R95). -/
def handedOver (sd : Side) (n : Nat) (s : State) : State :=
  ((setReason sd n 0 (setLaneSt sd n 8 s)).wr sd Fld.lnkStatusAttempts n 0).onLane sd n fun l =>
    { l with
      fast := false, ignoreCache := false
      cache := cacheWrite { eid := (farId sd n s).1, lane := (farId sd n s).2, taps := l.farTaps, eqState := l.eqState
                            precode := s.rdb sd Fld.lnkStatusPrecodeRx n } l.cache }

@[simp] theorem laneSt_handedOver : laneSt sd n (handedOver sd n s) = 8 := by
  unfold handedOver
  rw [laneSt_onLane, laneSt_wr_attempts, laneSt_setReason, laneSt_setLaneSt sd n s (by decide)]

theorem handoverAccept_hands_over (hst : laneSt sd n s = 7) (hport : laneInPort sd n s = true) :
    Answers (.handoverAccept sd n) s fun t =>
      laneSt sd n t = 8 ∧ t.rd sd Fld.lnkStatusReason n = 0 ∧ t.rd sd Fld.lnkStatusAttempts n = 0
        ∧ (t.lane sd n).cache.head? = some
          { eid := (farId sd n s).1, lane := (farId sd n s).2, taps := (s.lane sd n).farTaps
            eqState := (s.lane sd n).eqState, precode := s.rdb sd Fld.lnkStatusPrecodeRx n } := by
  obtain ⟨hrd, r, hlane⟩ := applyPower_in_data (laneSt_handedOver (sd := sd) (n := n) (s := s))
  refine ⟨applyPower sd n (handedOver sd n s), congrArg Host.Outcome.next (if_pos ⟨hst, hport⟩),
    (hrd _ rfl).trans laneSt_handedOver, ?_, ?_, ?_⟩
  · rw [hrd _ rfl]
    exact (rd_onLane _ sd sd n _ _ n).trans ((rd_wr_attempts_reason sd n _ 0).trans (rd_setReason_reason sd n _ (by decide)))
  · rw [hrd _ rfl]
    exact (rd_onLane _ sd sd n _ _ n).trans (rd_wr_attempts sd n _ (by decide))
  · rw [hlane]
    unfold handedOver
    rw [lane_onLane_same, lane_wr, lane_setReason, lane_setLaneSt]
    rfl

theorem handoverAccept_unchanged (hport : laneInPort sd n s = false) : Answers (.handoverAccept sd n) s fun t => t = s :=
  ⟨_, congrArg Host.Outcome.next (if_neg (by simp [hport])), rfl⟩

/-! ### Tap requests (R83, R85 to R87) -/

theorem rd_serveRequest_outer (req : BitVec 16) (taps : BitVec 32) (training : Bool) :
    (serveRequest sd n req taps training s).rd sd Fld.lnkTxTapsOuter n
      = (applyRequest (s.rd sd Fld.lnkTxTapsOuter n) req.toNat taps.toNat).2 % 2 ^ 30 := by
  unfold serveRequest
  dsimp only
  rw [rd_onLane, rd_wrb_reg sd sd _ Fld.lnkStatusPrecodeTx Fld.lnkTxTapsOuter n n _ (by decide),
    rd_wr_field _ sd Fld.lnkTxTapsMain Fld.lnkTxTapsOuter n _ rfl rfl (.inl (by decide)),
    rd_wr_same _ sd _ n _ (by decide) (by decide)]
  rfl

theorem lane_serveRequest (req : BitVec 16) (taps : BitVec 32) (training : Bool) :
    ((serveRequest sd n req taps training s).lane sd n).farRequest = none
      ∧ ((serveRequest sd n req taps training s).lane sd n).answered = some (req.extractLsb' 12 4) := by
  unfold serveRequest
  dsimp only
  rw [lane_onLane_same]
  exact ⟨rfl, rfl⟩

theorem out_serveRequest (req : BitVec 16) (taps : BitVec 32) (training : Bool) :
    ((serveRequest sd n req taps training s).unit sd).out = (s.unit sd).out := by
  simp [serveRequest, State.onLane, State.wrb, State.wr, State.setWord]

theorem lane_emit (o : Out) : (s.emit sd o).lane sd n = s.lane sd n := by simp [State.emit, State.lane]

theorem tapRequestApply_answers {req : BitVec 16} {taps : BitVec 32} (hreq : (s.lane sd n).farRequest = some (req, taps))
    (hst : sendsFrames (laneSt sd n s) = true) : Answers (.tapRequestApply sd n) s fun t =>
      t.rd sd Fld.lnkTxTapsOuter n = (applyRequest (s.rd sd Fld.lnkTxTapsOuter n) req.toNat taps.toNat).2 % 2 ^ 30
        ∧ (t.lane sd n).farRequest = none ∧ (t.lane sd n).answered = some (req.extractLsb' 12 4)
        ∧ (t.unit sd).out.length = (s.unit sd).out.length + 1 := by
  have hnext : exec (.tapRequestApply sd n) s = .next ((serveRequest sd n req taps true s).emit sd
      (.controlBlock n (myControlBlock sd n ((portOf sd n (serveRequest sd n req taps true s)).getD n)
        (serveRequest sd n req taps true s)))) := by
    change execTapRequestApply sd n s = _
    simp [execTapRequestApply, hreq, hst]
  refine ⟨_, hnext, ?_⟩
  dsimp only
  rw [rd_emit, lane_emit, rd_serveRequest_outer]
  refine ⟨rfl, (lane_serveRequest req taps true).1, (lane_serveRequest req taps true).2, ?_⟩
  simp [State.emit, out_serveRequest]

theorem tapRequestApply_unchanged (h : (s.lane sd n).farRequest = none) : Answers (.tapRequestApply sd n) s fun t => t = s := by
  refine ⟨s, ?_, rfl⟩
  change execTapRequestApply sd n s = _
  simp [execTapRequestApply, h]

end

end Sys2Proof.Machine

section

open Sys2Proof Sys2Proof.Machine

/-- Settles O7, one lemma for each command and each state it acts in. -/
theorem laneTrainingAdvances : Obligations.LaneTrainingAdvances := fun _ _ _ =>
  ⟨farSignalDetected_starts, farSignalDetected_unchanged, fun _ _ => controlBlock_discarded, fun _ _ => controlBlock_in_lock,
    fun _ _ => controlBlock_in_identify, fun _ _ => controlBlock_in_tune, fun _ _ => controlBlock_in_deskew,
    fun _ _ => controlBlock_outside_span, fun _ _ => controlBlock_unchanged, fun _ => verifyEnd_passes,
    handoverAccept_hands_over, handoverAccept_unchanged, fun _ _ => tapRequestApply_answers, tapRequestApply_unchanged⟩

end

/-! ## Warm reset: what it keeps of the module's lane table -/

namespace Sys2Proof.Machine

/-- An operation that leaves the module's lanes alone. -/
theorem Ev.moduleLanes {F : Nat} {s t : State} (h : Ev F s t) (hb : F.testBit (Part.unit .module .lanes).idx = false) :
    t.module.lanes = s.module.lanes := h.part (.unit .module .lanes) hb

/-- What every step of a fold leaves alone, the fold leaves alone. -/
theorem foldl_keeps {α β : Type} (g : State → β) {f : State → α → State} (hf : ∀ t a, g (f t a) = g t) (l : List α) (s : State) :
    g (l.foldl f s) = g s := by
  induction l generalizing s with
  | nil => rfl
  | cons a l ih => exact (ih (f s a)).trans (hf s a)

variable (s : State)

theorem lane_module (k : Nat) : s.lane .module k = smapGet s.module.lanes {} k := rfl

theorem moduleLanes_wr (f : Field) (i v : Nat) : (s.wr .module f i v).module.lanes = s.module.lanes := rfl

theorem moduleLanes_wrb (f : Field) (i : Nat) (b : Bool) : (s.wrb .module f i b).module.lanes = s.module.lanes := rfl

theorem moduleLanes_foldl_wr (f : Field) (v : Nat) (l : List Nat) :
    (l.foldl (fun t i => t.wr .module f i v) s).module.lanes = s.module.lanes :=
  foldl_keeps (fun t => t.module.lanes) (fun t i => moduleLanes_wr t f i v) l s

/-- What a warm reset keeps of one entry of the lane table: the preset cache, and nothing where it is empty (R97). -/
def warmLane (x : Nat × LaneState) : Option (Nat × LaneState) :=
  if x.2.cache.isEmpty then none else some (x.1, { cache := x.2.cache })

theorem moduleLanes_warmCore : (warmCore s).module.lanes = s.module.lanes.filterMap warmLane := by
  unfold warmCore
  extract_lets owed s1 s2 s3
  rw [moduleLanes_wrb, moduleLanes_wrb, moduleLanes_wrb, moduleLanes_wrb, (resetFields_ev _ s2).moduleLanes (by decide +kernel)]
  rfl

theorem moduleLanes_warmReset (trigger : Nat) : (warmReset trigger s).module.lanes = s.module.lanes.filterMap warmLane := by
  unfold warmReset
  extract_lets s1 s2 s3 s4 s5 s6 s7
  have h1 : s1.module.lanes = s.module.lanes := by
    unfold s1
    split
    · exact (endStep_ev _ s).moduleLanes (by decide +kernel)
    · rfl
  clear_value s1
  have h2 : s2.module.lanes = s.module.lanes.filterMap warmLane := by
    rw [moduleLanes_warmCore, (warmTraffic_ev s1).moduleLanes (by decide +kernel), h1]
  clear_value s2
  have h3 : s3.module.lanes = s2.module.lanes :=
    foldl_keeps (fun t => t.module.lanes) (fun t k => (setSlot_ev .module k _ t).moduleLanes (by decide +kernel)) _ s2
  clear_value s3
  have h4 : s4.module.lanes = s3.module.lanes :=
    ((setSessions_ev .module [] _).moduleLanes (by decide +kernel)).trans ((onMgmt_ev .module _ s3).moduleLanes (by decide +kernel))
  clear_value s4
  have h5 : s5.module.lanes = s4.module.lanes := by
    unfold s5
    exact moduleLanes_foldl_wr s4 Fld.fltLiveState 1 _
  clear_value s5
  have h7 : s7.module.lanes = s5.module.lanes := by
    unfold s7 s6
    rw [moduleLanes_wrb, moduleLanes_wrb, moduleLanes_wrb, moduleLanes_wr, moduleLanes_wrb, moduleLanes_wrb, moduleLanes_wr]
  rw [(resetEvent_ev 2 trigger _).moduleLanes (by decide +kernel), (onBring_ev _ s7).moduleLanes (by decide +kernel), h7, h5, h4, h3, h2]

/-- A module whose lane table lists lane 3 twice, first with an empty preset cache and then with one entry in it. -/
def laneListedTwice : State :=
  State.reset.onUnit .module fun u => { u with
    lanes := [(3, {}), (3, { cache := [{ eid := 5, lane := 2, taps := 0, eqState := 7, precode := true }] })] }

theorem cache_laneListedTwice : (laneListedTwice.lane .module 3).cache = [] := rfl

/-- The first listing goes with its empty cache, and the second one shows. -/
theorem cache_warmReset_laneListedTwice (trigger : Nat) : ((warmReset trigger laneListedTwice).lane .module 3).cache ≠ [] := by
  rw [lane_module, moduleLanes_warmReset]
  decide

end Sys2Proof.Machine

section

open Sys2Proof Sys2Proof.Machine

/-- Refutes O56: its WARM_RESET clause speaks of every state, those included whose lane table lists a lane twice, and nothing in it
says that the table's keys rise. The warm reset drops the entries whose preset cache is empty, so in the state of the counterexample
the first listing of lane 3, which is the one read, goes, and the cache of the second shows (`moduleLanes_warmReset`). -/
theorem not_presetCachesAreClearedByColdResets : ¬ Obligations.PresetCachesAreClearedByColdResets := by
  intro h
  obtain ⟨-, -, -, hwarm, -⟩ := h .module .host 3 laneListedTwice
  obtain ⟨t, hnext, hkept⟩ := hwarm
  obtain rfl : warmReset 2 laneListedTwice = t := Host.Outcome.next.inj hnext
  exact cache_warmReset_laneListedTwice 2 ((hkept 3).1.trans cache_laneListedTwice)

end

/-! ## Lanes in data: markers, the error ratio, the wiring plan, announcements and sleep -/

namespace Sys2Proof.Machine

variable {sd : Side} {n : Nat} {s : State}

/-! ### Alignment markers (R100, R101, R103) -/

/-- A bit count counts no more bits than there are. -/
theorem popcount_le (k v : Nat) : popcount k v ≤ k := by
  induction k with
  | zero => exact le_rfl
  | succ k ih =>
    have hbit := b2n_lt (v.testBit k)
    rw [popcount]
    omega

/-- A counter that stays below its maximum rises by what was counted, and nothing else happens (R480). -/
theorem bumpBy_of_lt {r : Reg} {k : Nat} (h : bitsOf (s.word sd r n 0) 47 0 + k < countMax) :
    bumpBy sd r n k s = s.setWord sd r n 0 (withBits (s.word sd r n 0) 47 0 (bitsOf (s.word sd r n 0) 47 0 + k)) := by
  have hc : ¬ countMax ≤ bitsOf (s.word sd r n 0) 47 0 + k := by omega
  simp [bumpBy, countedWord, hc]

theorem count_bumpBy_of_lt {r : Reg} {k : Nat} (h : bitsOf (s.word sd r n 0) 47 0 + k < countMax) :
    bitsOf ((bumpBy sd r n k s).word sd r n 0) 47 0 = bitsOf (s.word sd r n 0) 47 0 + k := by
  rw [bumpBy_of_lt h, word_setWord_same, bitsOf_withBits_same _ 47 0 _ (by decide) (by decide), Nat.mod_eq_of_lt]
  exact h.trans (by decide)

/-- The loop of the adaptation freeze touches the lane's override and the time since which its line has been quiet. -/
theorem lane_freezeLoop (errors bits : Nat) : ∃ b q,
    (freezeLoop sd n errors bits s).lane sd n = { s.lane sd n with freezeOverridden := b, quietSince := q } := by
  unfold freezeLoop
  dsimp only
  split
  · exact ⟨_, _, lane_onLane_same ..⟩
  · split
    · split
      · cases sd
        · exact ⟨_, _, ((overridePolicy_ev 3 4 _ _).lane .module (by decide +kernel) n).trans (lane_onLane_same ..)⟩
        · exact ⟨_, _, lane_onLane_same ..⟩
      · exact ⟨_, _, rfl⟩
    · split
      · split
        · exact ⟨_, _, lane_onLane_same ..⟩
        · split
          · exact ⟨_, _, lane_onLane_same ..⟩
          · exact ⟨_, _, rfl⟩
      · exact ⟨_, _, lane_onLane_same ..⟩

/-- Asking for a tap step touches the lane's request, its time and its sequence number. -/
theorem lane_askStep (wish : Option (BitVec 12)) : ∃ req t seq,
    (askStep sd n wish s).lane sd n = { s.lane sd n with laneCtl := req, laneCtlAt := t, myRequestSeq := seq } := by
  unfold askStep
  extract_lets l due
  split
  · split
    · dsimp only
      rw [lane_onLane_same, (portSend_ev sd _ _ s).lane sd (by cases sd <;> rfl)]
      exact ⟨_, _, _, rfl⟩
    · exact ⟨_, _, _, rfl⟩
  · exact ⟨_, _, _, rfl⟩

/-- What follows a marker, the adaptation of the receiver, leaves the marker's own results. -/
theorem adaptation_keeps (errors bits : Nat) (wish : Option (BitVec 12)) :
    let t := askStep sd n wish (settleFreezeBit (freezeLoop sd n errors bits s))
    laneSt sd n t = laneSt sd n s ∧ t.word sd .lnkBipErr n 0 = s.word sd .lnkBipErr n 0
      ∧ (t.lane sd n).badMarkers = (s.lane sd n).badMarkers ∧ (t.lane sd n).nextMarker = (s.lane sd n).nextMarker
      ∧ (t.lane sd n).spanPs = (s.lane sd n).spanPs := by
  intro t
  have hfreeze := freezeLoop_ev sd n errors bits s
  have hsettle := settleFreezeBit_ev (freezeLoop sd n errors bits s)
  have hask := askStep_ev sd n wish (settleFreezeBit (freezeLoop sd n errors bits s))
  refine ⟨?_, ?_, ?_⟩
  · rw [hask.laneSt sd (by cases sd <;> rfl), hsettle.laneSt sd (by cases sd <;> rfl), hfreeze.laneSt sd (by cases sd <;> rfl)]
  · rw [hask.word sd _ (by cases sd <;> rfl), hsettle.word sd _ (by cases sd <;> rfl), hfreeze.word sd _ (by cases sd <;> rfl)]
  · obtain ⟨b, q, hl⟩ := lane_freezeLoop (sd := sd) (n := n) (s := s) errors bits
    obtain ⟨req, at', seq, hl'⟩ := lane_askStep (sd := sd) (n := n) (s := settleFreezeBit (freezeLoop sd n errors bits s)) wish
    rw [hsettle.lane sd (by cases sd <;> rfl), hl] at hl'
    rw [hl']
    exact ⟨rfl, rfl, rfl⟩

/-- A good marker has been counted and noted. -/
def markerTaken (sd : Side) (n : Nat) (m : Marker) (bipSeen : BitVec 8) (spanPs : Int) (s : State) : State :=
  (bumpBy sd .lnkBipErr n (popcount 8 (m.bip ^^^ bipSeen).toNat) s).onLane sd n fun l =>
    { l with spanPs := spanPs, badMarkers := 0, nextMarker := some (m.count + 1) }

section

variable {m : Marker} {bipSeen : BitVec 8} {spanPs : Int} {errors bits : Nat} {wish : Option (BitVec 12)}

/-- A lane outside the span leaves its port and retrains, whatever its markers say. -/
theorem alignmentMarker_outside_span (hst : laneSt sd n s = 8) (hspan : inSpan spanPs = false) :
    Answers (.alignmentMarker sd n m bipSeen spanPs errors bits wish) s fun t => laneSt sd n t = 1 := by
  refine ⟨_, rfl, ?_⟩
  rw [if_neg (not_not.mpr hst)]
  dsimp only
  rw [if_pos (by simp [hspan])]
  exact laneSt_leaveAndRetrain sd n _ false

theorem execAlignmentMarker_of_good (hst : laneSt sd n s = 8) (hsync : m.sync = 0xC35A96)
    (hcount : (s.lane sd n).nextMarker = some m.count) (hspan : inSpan spanPs = true) :
    execAlignmentMarker sd n m bipSeen spanPs errors bits wish s
      = .next (askStep sd n wish (settleFreezeBit (freezeLoop sd n errors bits (markerTaken sd n m bipSeen spanPs s)))) := by
  simp [execAlignmentMarker, markerTaken, hst, hsync, hcount, hspan]

theorem alignmentMarker_counts (hst : laneSt sd n s = 8) (hsync : m.sync = 0xC35A96)
    (hcount : (s.lane sd n).nextMarker = some m.count) (hspan : inSpan spanPs = true)
    (hroom : bitsOf (s.word sd .lnkBipErr n 0) 47 0 + 8 < countMax) :
    Answers (.alignmentMarker sd n m bipSeen spanPs errors bits wish) s fun t => laneSt sd n t = 8
      ∧ bitsOf (t.word sd .lnkBipErr n 0) 47 0 = bitsOf (s.word sd .lnkBipErr n 0) 47 0 + popcount 8 (m.bip ^^^ bipSeen).toNat
      ∧ (t.lane sd n).badMarkers = 0 ∧ (t.lane sd n).nextMarker = some (m.count + 1) ∧ (t.lane sd n).spanPs = spanPs := by
  refine ⟨_, execAlignmentMarker_of_good hst hsync hcount hspan, ?_⟩
  obtain ⟨hkst, hkbip, hkbad, hknext, hkspan⟩ := adaptation_keeps (sd := sd) (n := n) (s := markerTaken sd n m bipSeen spanPs s)
    errors bits wish
  have hbits : bitsOf (s.word sd .lnkBipErr n 0) 47 0 + popcount 8 (m.bip ^^^ bipSeen).toNat < countMax := by
    have := popcount_le 8 (m.bip ^^^ bipSeen).toNat
    omega
  have hlane : (markerTaken sd n m bipSeen spanPs s).lane sd n = _ := lane_onLane_same ..
  refine ⟨hkst.trans ?_, ?_, hkbad.trans (congrArg LaneState.badMarkers hlane), hknext.trans (congrArg LaneState.nextMarker hlane),
    hkspan.trans (congrArg LaneState.spanPs hlane)⟩
  · unfold markerTaken
    rw [laneSt_onLane, (bumpBy_ev sd .lnkBipErr n _ s rfl).laneSt sd (by cases sd <;> rfl), hst]
  · rw [hkbip, ← count_bumpBy_of_lt hbits]
    exact congrArg (bitsOf · 47 0) (word_onLane ..)

end

/-! ### The error ratio (R98) -/

theorem spareLane_of_some {x : Nat} (h : freeSlice sd n s = some x) : spareLane sd n s = remapSlice sd n x (laneLeaves sd n s) := by
  simp [spareLane, h]

theorem rd_spareLane_slice {x : Nat} (h : freeSlice sd n s = some x) : (spareLane sd n s).rd sd Fld.lnkStatusSlice n = x := by
  rw [spareLane_of_some h, rd_remapSlice_slice sd n _ (freeSlice_lt sd n s h)]

theorem laneSt_spareLane {x : Nat} (h : freeSlice sd n s = some x) : laneSt sd n (spareLane sd n s) = 1 := by
  rw [spareLane_of_some h, laneSt_remapSlice]

section

variable {errors bits : Nat}

theorem errorRatioCheck_low (hst : laneSt sd n s = 8) (hratio : ratioHigh errors bits = false) :
    Answers (.errorRatioCheck sd n errors bits) s fun t => (t.lane sd n).noSpareRatio = none ∧ laneSt sd n t = 8 := by
  refine ⟨s.onLane sd n fun l => { l with noSpareRatio := none }, ?_, by rw [lane_onLane_same], by rw [laneSt_onLane, hst]⟩
  change execErrorRatioCheck sd n errors bits s = _
  simp [execErrorRatioCheck, hst, hratio]

theorem errorRatioCheck_remaps {x : Nat} (hst : laneSt sd n s = 8) (hratio : ratioHigh errors bits = true)
    (hfree : freeSlice sd n s = some x) : Answers (.errorRatioCheck sd n errors bits) s fun t =>
      laneSt sd n t = 1 ∧ t.rd sd Fld.lnkStatusSlice n = x := by
  have hfree' : freeSlice sd n (setReason sd n 6 s) = some x := by rw [freeSlice_setReason, hfree]
  refine ⟨spareLane sd n (setReason sd n 6 s), ?_, laneSt_spareLane hfree', rd_spareLane_slice hfree'⟩
  change execErrorRatioCheck sd n errors bits s = _
  simp [execErrorRatioCheck, hst, hratio, hfree]

/-- Without a free slice the lane stays in data, and the event of a ratio that has risen tenfold leaves LNK.STATUS. -/
theorem errorRatioCheck_without_spare (hst : laneSt sd n s = 8) (hratio : ratioHigh errors bits = true)
    (hfree : freeSlice sd n s = none) : Answers (.errorRatioCheck sd n errors bits) s fun t =>
      laneSt sd n t = 8 ∧ t.rd sd Fld.lnkStatusReason n = 8 := by
  refine ⟨_, rfl, ?_⟩
  rw [if_neg (not_not.mpr hst), if_neg (by simp [hratio]), if_neg (by simp [hfree])]
  extract_lets again s1
  have hst1 : laneSt sd n s1 = 8 := by rw [laneSt_setReason, hst]
  have hreason : s1.rd sd Fld.lnkStatusReason n = 8 := rd_setReason_reason sd n s (by decide)
  have hlog := logEvent_ev sd { code := 0x11, severity := 2, block := 4, arg0 := n, arg1 := 8 } s1
  split
  · dsimp only
    rw [laneSt_onLane, rd_onLane, hlog.laneSt sd (by cases sd <;> rfl), hlog.rd sd _ (by cases sd <;> rfl)]
    exact ⟨hst1, hreason⟩
  · exact ⟨hst1, hreason⟩

end

/-! ### The wiring plan and its announcements (R93, R94) -/

/-- A plan that is written stays, whatever the comparison that follows does (R93). -/
theorem lnkPlanWrite_writes {path : Path} {v : Word} (hopen : rwlOpen .module path (regOffset .module .lnkPlan n 0) s = true) :
    Answers (.lnkPlanWrite path n v) s fun t => t.rd .module Fld.lnkPlanValid n = bitsOf v 63 63
      ∧ t.rd .module Fld.lnkPlanPort n = bitsOf v 29 20 ∧ t.rd .module Fld.lnkPlanEid n = bitsOf v 19 0 := by
  refine ⟨writePlan n v s, congrArg Host.Outcome.next (rwl_of_open .module s path _ _ _ hopen), ?_⟩
  unfold writePlan
  have hkeep : ∀ (u : State) (f : Field), f.reg = .lnkPlan → (recheckPlan n u).rd .module f n = u.rd .module f n :=
    fun u f hf => (recheckPlan_ev n u).rd .module f (by rw [hf]; decide +kernel) n
  dsimp only
  rw [hkeep _ _ rfl, hkeep _ _ rfl, hkeep _ _ rfl]
  refine ⟨?_, ?_, rd_wr_lit _ _ _ _ _ (by decide) (by decide) (bitsOf_lt v 19 0)⟩
  · rw [rd_wr_field _ .module Fld.lnkPlanEid Fld.lnkPlanValid n _ rfl rfl (.inr (by decide)),
      rd_wr_field _ .module Fld.lnkPlanPort Fld.lnkPlanValid n _ rfl rfl (.inr (by decide))]
    exact rd_wr_lit _ _ _ _ _ (by decide) (by decide) (bitsOf_lt v 63 63)
  · rw [rd_wr_field _ .module Fld.lnkPlanEid Fld.lnkPlanPort n _ rfl rfl (.inr (by decide))]
    exact rd_wr_lit _ _ _ _ _ (by decide) (by decide) (bitsOf_lt v 29 20)

/-- An operation that leaves PRT.STATUS alone keeps the port's state. -/
theorem Ev.portSt {F : Nat} {s t : State} (h : Ev F s t) (sd : Side)
    (hb : F.testBit (Part.reg sd Reg.prtStatus).idx = false) (p : Nat) : portSt sd p t = portSt sd p s :=
  h.rd sd Fld.prtStatusState hb p

theorem idAnnounce_discarded {pkt : Packet} (hup : portUp sd n s = true) (hbad : pchkGood pkt = false) :
    Answers (.idAnnounce sd n pkt) s fun t =>
      t.word sd .xptPchkDiscardCnt 0 0 = countedWord (s.word sd .xptPchkDiscardCnt 0 0) 1 ∧ portSt sd n t = portSt sd n s := by
  have htaken := consumeArrived_ev sd n pkt s
  have hbump := bump_ev sd .xptPchkDiscardCnt 0 (consumeArrived sd n pkt s) rfl
  refine ⟨bump sd .xptPchkDiscardCnt 0 (consumeArrived sd n pkt s), ?_, ?_, ?_⟩
  · change execIdAnnounce sd n pkt s = _
    simp [execIdAnnounce, hup, hbad]
  · rw [word_bump sd .xptPchkDiscardCnt 0 _ (by cases sd <;> rfl), htaken.word sd _ (by cases sd <;> rfl)]
  · rw [hbump.portSt sd (by cases sd <;> rfl), htaken.portSt sd (by cases sd <;> rfl)]

theorem idAnnounceTimer_sends (hup : portUp sd n s = true) : Answers (.idAnnounceTimer sd n) s fun t =>
    t = portSend sd n (linkPacket sd n 3 (n + portWidth sd n s * 2 ^ 10) [] s) s :=
  ⟨_, congrArg Host.Outcome.next (if_pos hup), rfl⟩

theorem idAnnounceTimer_unchanged (hdown : portUp sd n s = false) : Answers (.idAnnounceTimer sd n) s fun t => t = s :=
  ⟨_, congrArg Host.Outcome.next (if_neg (by simp [hdown])), rfl⟩

/-! ### A port that goes down (R122) -/

/-- After the link layer's part of going down, the unit's part leaves PRT.STATUS. -/
theorem rd_portDown (reason k : Nat) {f : Field} (hf : f.reg = .prtStatus) :
    (portDown sd n reason s).rd sd f k = (portDownLink sd n reason s).rd sd f k := by
  unfold portDown
  extract_lets lost s1 s2
  have h2 : s2.rd sd f k = s1.rd sd f k := by
    unfold s2
    cases sd
    · refine ((requeuePort_ev n _).rd .module f (by rw [hf]; decide +kernel) k).trans
        (((setEvidence_ev n 0 _).rd .module f (by rw [hf]; decide +kernel) k).trans ?_)
      split
      · exact rd_onM s1 .module _ f k
      · rfl
    · exact (epRequeue_ev n s1).rd .endpoint f (by rw [hf]; decide +kernel) k
  split
  · exact ((recoverPort_ev sd n s2).rd sd f (by rw [hf]; cases sd <;> decide +kernel) k).trans h2
  · exact h2

/-- The state of a port that has gone down, before the event is recorded and its lanes retrain. -/
def downStatus (sd : Side) (p reason : Nat) (s : State) : State :=
  ((s.wr sd Fld.prtStatusState p 0).wr sd Fld.prtStatusReason p reason).wr sd Fld.prtStatusActiveMask p 0

theorem rd_portDownLink (reason k : Nat) {f : Field} (hf : f.reg = .prtStatus) :
    (portDownLink sd n reason s).rd sd f k
      = (downStatus sd n reason (bumpBy sd .prtFlitLost n (s.port sd n).retry.length s)).rd sd f k := by
  unfold portDownLink
  extract_lets lanes s1 s2 s3 s4 s5
  have hlanes : (lanes.foldl (fun s k => enterDetect sd k false s) s5).rd sd f k = s5.rd sd f k :=
    foldl_keeps (fun t => t.rd sd f k) (fun t j => (enterDetect_ev sd j false t).rd sd f (by rw [hf]; cases sd <;> rfl) k) lanes s5
  rw [hlanes, (raiseLane_ev sd _).rd sd f (by rw [hf]; cases sd <;> rfl), (logEvent_ev sd _ _).rd sd f (by rw [hf]; cases sd <;> rfl),
    rd_onPort, rd_wr_reg _ sd sd Fld.prtVersionNegMinor f n k 0 (by rw [hf]; decide),
    rd_wr_reg _ sd sd Fld.prtVersionNegMajor f n k 0 (by rw [hf]; decide)]
  rfl

@[simp] theorem portSt_portDown (reason : Nat) : portSt sd n (portDown sd n reason s) = 0 := by
  unfold portSt
  rw [rd_portDown reason n rfl, rd_portDownLink reason n rfl]
  unfold downStatus
  rw [rd_wr_field _ sd Fld.prtStatusActiveMask Fld.prtStatusState n 0 rfl rfl (.inl (by decide)),
    rd_wr_field _ sd Fld.prtStatusReason Fld.prtStatusState n reason rfl rfl (.inl (by decide))]
  exact rd_wr_lit _ _ _ _ _ (by decide) (by decide) (by decide)

theorem rd_portDown_reason {reason : Nat} (h : reason < 16) : (portDown sd n reason s).rd sd Fld.prtStatusReason n = reason := by
  rw [rd_portDown reason n rfl, rd_portDownLink reason n rfl]
  unfold downStatus
  rw [rd_wr_field _ sd Fld.prtStatusActiveMask Fld.prtStatusReason n 0 rfl rfl (.inr (by decide))]
  exact rd_wr_lit _ _ _ _ _ (by decide) (by decide) h

theorem portUp_of_down (h : portSt sd n s = 0) : portUp sd n s = false := by simp [portUp, h]

/-- A port without announcements goes down; on a module that is evidence against it, which leaves PRT.STATUS (R94, R524). -/
theorem idAnnounceTimeout_takes_down (hup : portUp sd n s = true) :
    Answers (.idAnnounceTimeout sd n) s fun t => portUp sd n t = false := by
  refine ⟨_, congrArg Host.Outcome.next (if_pos hup), portUp_of_down ?_⟩
  cases sd
  · exact ((evidence_ev n 1 _).portSt .module (by decide +kernel) n).trans (portSt_portDown 2)
  · exact portSt_portDown 2

theorem idAnnounceTimeout_unchanged (hdown : portUp sd n s = false) : Answers (.idAnnounceTimeout sd n) s fun t => t = s :=
  ⟨_, congrArg Host.Outcome.next (if_neg (by simp [hdown])), rfl⟩

/-! ### LANE_CTL (R102) -/

/-- A response with the sequence number of the lane's request ends the request. -/
theorem laneCtl_ends_request {pkt : Packet} {req : BitVec 16} (hgood : pchkGood pkt = true) (hresp : pkt.opx.getLsbD 26 = true)
    (hreq : (s.lane sd (pkt.opx.toNat / 2 ^ 16 % 2 ^ 10)).laneCtl = some req)
    (hseq : req.toNat / 2 ^ 12 = (pkt.opx.setWidth 16).toNat / 2 ^ 12) : Answers (.laneCtl sd n pkt) s fun t =>
      (t.lane sd (pkt.opx.toNat / 2 ^ 16 % 2 ^ 10)).laneCtl = none := by
  rw [← (consumeArrived_ev sd n pkt s).lane sd (by cases sd <;> rfl)] at hreq
  refine ⟨_, rfl, ?_⟩
  rw [if_neg (by simp [hgood]), if_pos hresp, hreq]
  dsimp only
  rw [if_neg (not_not.mpr hseq), lane_onLane_same]

theorem laneCtlTimeout_abandons (hreq : (s.lane sd n).laneCtl.isSome = true) : Answers (.laneCtlTimeout sd n) s fun t =>
    (t.lane sd n).laneCtl = none ∧ (t.lane sd n).laneCtlAbandoned = (s.lane sd n).laneCtlAbandoned + 1 :=
  ⟨_, congrArg Host.Outcome.next (if_pos hreq), by rw [lane_onLane_same], by rw [lane_onLane_same]⟩

/-! ### Sleep (R104) -/

theorem sleepSignalLoss_retrains (hst : laneSt sd n s = 9) : Answers (.sleepSignalLoss sd n) s fun t => laneSt sd n t = 1 :=
  ⟨_, congrArg Host.Outcome.next (if_pos hst), laneSt_enterDetect sd n s false⟩

theorem sleepSignalLoss_unchanged (hst : laneSt sd n s ≠ 9) : Answers (.sleepSignalLoss sd n) s fun t => t = s :=
  ⟨_, congrArg Host.Outcome.next (if_neg hst), rfl⟩

theorem laneWake_wakes {spanPs : Int} (hst : laneSt sd n s = 9) (hwant : wantedPower sd n s = 0) :
    Answers (.laneWake sd n spanPs) s fun t => (inSpan spanPs = true → laneSt sd n t = 7 ∧ (t.lane sd n).spanPs = spanPs)
      ∧ (inSpan spanPs = false → laneSt sd n t = 1 ∧ t.rd sd Fld.lnkStatusReason n = 7) := by
  refine ⟨_, congrArg Host.Outcome.next (if_neg (by simp [hst, hwant])), fun hspan => ?_, fun hspan => ?_⟩
  · rw [if_pos hspan, laneSt_onLane, laneSt_setLaneSt sd n s (by decide), lane_onLane_same]
    exact ⟨rfl, rfl⟩
  · rw [if_neg (by simp [hspan]), laneSt_enterDetect, rd_enterDetect_high sd n _ false rfl rfl (by decide)]
    exact ⟨rfl, rd_setReason_reason sd n s (by decide)⟩

theorem sleepControlBlock_sends (hst : laneSt sd n s = 9) : Answers (.sleepControlBlock sd n) s fun t =>
    t = s.emit sd (.controlBlock n (myControlBlock sd n ((portOf sd n s).getD n) s)) :=
  ⟨_, congrArg Host.Outcome.next (if_pos hst), rfl⟩

theorem sleepControlBlock_unchanged (hst : laneSt sd n s ≠ 9) : Answers (.sleepControlBlock sd n) s fun t => t = s :=
  ⟨_, congrArg Host.Outcome.next (if_neg hst), rfl⟩

end Sys2Proof.Machine

section

open Sys2Proof Sys2Proof.Machine

/-- Settles O10, one lemma for each command and each way it answers. -/
theorem laneInData : Obligations.LaneInData := fun _ _ _ =>
  ⟨fun _ _ _ _ _ _ hst _ => alignmentMarker_outside_span hst, fun _ _ _ _ _ _ => alignmentMarker_counts, fun _ _ => errorRatioCheck_low,
    fun _ _ => errorRatioCheck_without_spare, fun _ _ _ => errorRatioCheck_remaps, fun _ _ => lnkPlanWrite_writes,
    fun _ => idAnnounce_discarded, idAnnounceTimer_sends, idAnnounceTimeout_takes_down,
    fun hdown => ⟨idAnnounceTimer_unchanged hdown, idAnnounceTimeout_unchanged hdown⟩, fun _ _ => laneCtl_ends_request,
    laneCtlTimeout_abandons, sleepSignalLoss_retrains, fun _ => laneWake_wakes, sleepControlBlock_sends,
    fun hst => ⟨sleepSignalLoss_unchanged hst, sleepControlBlock_unchanged hst⟩⟩

end

/-! ## Lane masks as bits -/

namespace Sys2Proof.Machine

theorem testBit_sub_two_pow {v i : Nat} (h : v.testBit i = true) (j : Nat) :
    (v - 2 ^ i).testBit j = (v.testBit j && decide (j ≠ i)) := by
  have hle : 2 ^ i ≤ v := Nat.ge_two_pow_of_testBit h
  induction i generalizing v j with
  | zero =>
    have hodd : v % 2 = 1 := by simpa [Nat.testBit_zero] using h
    cases j with
    | zero =>
      have heven : (v - 1) % 2 = 0 := by omega
      simp [Nat.testBit_zero, heven]
    | succ j =>
      have hhalf : (v - 1) / 2 = v / 2 := by omega
      simp [Nat.testBit_succ, hhalf]
  | succ i ih =>
    rw [Nat.pow_succ] at hle ⊢
    cases j with
    | zero =>
      have hlow : (v - 2 ^ i * 2) % 2 = v % 2 := by omega
      simp [Nat.testBit_zero, hlow]
    | succ j =>
      have hhalf : (v - 2 ^ i * 2) / 2 = v / 2 - 2 ^ i := by omega
      rw [Nat.testBit_succ] at h
      simp [Nat.testBit_succ, hhalf, ih h j (by omega)]

theorem clearBit_testBit (v i j : Nat) : (clearBit v i).testBit j = (v.testBit j && decide (j ≠ i)) := by
  unfold clearBit
  split
  · next h => exact testBit_sub_two_pow h j
  · next h =>
    by_cases hj : j = i
    · subst hj
      simpa using h
    · simp [hj]

theorem clearBit_le (v i : Nat) : clearBit v i ≤ v := by
  unfold clearBit
  split
  · exact Nat.sub_le v (2 ^ i)
  · exact le_rfl

theorem foldl_clearBit_testBit (l : List Nat) (v j : Nat) :
    (l.foldl clearBit v).testBit j = (v.testBit j && decide (j ∉ l)) := by
  induction l generalizing v with
  | nil => simp
  | cons i l ih =>
    rw [List.foldl_cons, ih, clearBit_testBit, Bool.and_assoc, ← Bool.decide_and]
    simp [not_or]

theorem mem_setBits {k v i : Nat} : i ∈ setBits k v ↔ i < k ∧ v.testBit i = true := by simp [setBits]

/-- Clearing, one by one, the bits that a mask shares with an 8-bit word clears the mask's bits in the word. -/
theorem foldl_clearBit_setBits {a : Nat} (ha : a < 256) (m : BitVec 8) :
    (setBits 8 (a &&& m.toNat)).foldl clearBit a = a &&& (255 - m.toNat) := by
  apply Nat.eq_of_testBit_eq
  intro j
  have hm : (255 - m.toNat).testBit j = (decide (j < 8) && !m.toNat.testBit j) := by
    rw [show 255 - m.toNat = 2 ^ 8 - (m.toNat + 1) by omega]
    exact Nat.testBit_two_pow_sub_succ m.isLt j
  have hsmall : 8 ≤ j → a.testBit j = false := fun hj =>
    Nat.testBit_lt_two_pow (ha.trans_le (Nat.pow_le_pow_right (n := 2) (by decide) hj))
  simp only [foldl_clearBit_testBit, mem_setBits, Nat.testBit_and, hm]
  by_cases hj : j < 8
  · cases a.testBit j <;> simp [hj]
  · simp [hsmall (by omega)]

/-! ## A port's mask and what its operations leave -/

variable {sd : Side} {p n : Nat} {s : State}

theorem activeMask_lt : activeMask sd p s < 256 := rd_lt s sd Fld.prtStatusActiveMask p

/-- An operation that leaves PRT.STATUS alone keeps the mask of a port. -/
theorem Ev.activeMask {F : Nat} {s t : State} (h : Ev F s t) (sd : Side)
    (hb : F.testBit (Part.reg sd Reg.prtStatus).idx = false) (p : Nat) : activeMask sd p t = activeMask sd p s :=
  h.rd sd Fld.prtStatusActiveMask hb p

/-- An operation that leaves PRT.STATUS alone keeps whether the port carries packets. -/
theorem Ev.portUp {F : Nat} {s t : State} (h : Ev F s t) (sd : Side)
    (hb : F.testBit (Part.reg sd Reg.prtStatus).idx = false) (p : Nat) : portUp sd p t = portUp sd p s := by
  unfold Machine.portUp
  rw [h.portSt sd hb]

@[simp] theorem activeMask_onPort (q : Nat) (f : PortState → PortState) : activeMask sd p (s.onPort sd q f) = activeMask sd p s :=
  rd_onPort s sd sd q f _ p

@[simp] theorem activeMask_wr_state (v : Nat) : activeMask sd p (s.wr sd Fld.prtStatusState p v) = activeMask sd p s :=
  rd_wr_field s sd Fld.prtStatusState Fld.prtStatusActiveMask p v rfl rfl (.inr (by decide))

theorem activeMask_wr {v : Nat} (h : v < 256) : activeMask sd p (s.wr sd Fld.prtStatusActiveMask p v) = v :=
  rd_wr_lit sd s Fld.prtStatusActiveMask p v (by decide) (by decide) h

@[simp] theorem activeMask_settleState : activeMask sd p (settleState sd p s) = activeMask sd p s := activeMask_wr_state _

@[simp] theorem port_settleState : (settleState sd p s).port sd p = s.port sd p := port_wr s sd sd p _ p _

/-- A port that settles is UP or DEGRADED (R142). -/
@[simp] theorem portUp_settleState : portUp sd p (settleState sd p s) = true := by
  have hst : portSt sd p (settleState sd p s) = if popcount 8 (activeMask sd p s) < portWidth sd p s then 3 else 2 :=
    rd_wr_lit sd s Fld.prtStatusState p _ (by decide) (by decide) (by split <;> decide)
  unfold portUp
  rw [hst]
  split <;> rfl

/-! ### Flits that leave (R121, R131) -/

/-- What does not look at the rotation, the totals reported and the count of replays: sending flits leaves it. -/
def LineBlind {β : Type} (g : PortState → β) : Prop :=
  ∀ ps k r c, g { ps with nextLane := k, reported := r, replays := c } = g ps

/-- A blind look at a port does not see the rotation alone change. -/
theorem LineBlind.nextLane {β : Type} {g : PortState → β} (hg : LineBlind g) (ps : PortState) (k : Nat) :
    g { ps with nextLane := k } = g ps := hg ps k ps.reported ps.replays

/-- It does not see the count of replays alone change. -/
theorem LineBlind.replays {β : Type} {g : PortState → β} (hg : LineBlind g) (ps : PortState) (c : Nat) :
    g { ps with replays := c } = g ps := hg ps ps.nextLane ps.reported c

theorem lineBlind_addMine : LineBlind PortState.addMine := fun _ _ _ _ => rfl
theorem lineBlind_addFar : LineBlind PortState.addFar := fun _ _ _ _ => rfl
theorem lineBlind_releasing : LineBlind PortState.releasing := fun _ _ _ _ => rfl

theorem port_emit (o : Out) (q : Nat) : (s.emit sd o).port sd q = s.port sd q := by simp [State.emit, State.port]

section

variable {β : Type} {g : PortState → β} (hg : LineBlind g)

include hg

theorem sendFlit_lineBlind (type : BitVec 8) (seq : BitVec 12) (slots : List Byte) :
    g ((sendFlit sd p type seq slots s).port sd p) = g (s.port sd p) := by
  unfold sendFlit
  dsimp only
  rw [port_onPort_same, port_emit]
  exact hg (s.port sd p) _ _ (s.port sd p).replays

theorem sendFlits_lineBlind (l : List RetryEntry) :
    g ((l.foldl (fun s e => sendFlit sd p e.type e.seq e.slots s) s).port sd p) = g (s.port sd p) := by
  induction l generalizing s with
  | nil => rfl
  | cons e l ih => rw [List.foldl_cons, ih, sendFlit_lineBlind hg]

theorem resyncGroup_lineBlind (seq : BitVec 12) : g ((resyncGroup sd p seq s).port sd p) = g (s.port sd p) := by
  unfold resyncGroup
  extract_lets mask s1
  have h1 : s1.port sd p = s.port sd p := foldl_keeps (fun t => t.port sd p) (fun t n => port_emit _ p) _ s
  rw [port_onPort_same, h1]
  exact hg.nextLane _ 0

theorem replay_lineBlind (seq : BitVec 12) : g ((replay sd p seq s).port sd p) = g (s.port sd p) := by
  unfold replay
  extract_lets s1 es s2
  have h1 : g (s1.port sd p) = g (s.port sd p) := by
    rw [resyncGroup_lineBlind hg, (bump_ev sd .prtReplayCnt p s rfl).port sd (by cases sd <;> rfl)]
  have h2 : g (s2.port sd p) = g (s1.port sd p) := sendFlits_lineBlind hg es
  rw [port_onPort_same, ← h1, ← h2]
  exact hg.replays _ _

end

/-- A control message takes the next SEQ. -/
theorem txSeq_sendCtrl (code mask : Nat) (more : List Byte) :
    ((sendCtrl sd p code mask more s).port sd p).txSeq = (s.port sd p).txSeq + 1 := by
  unfold sendCtrl sendSequenced
  dsimp only
  rw [port_onPort_same]

theorem addMine_sendCtrl (code mask : Nat) (more : List Byte) :
    ((sendCtrl sd p code mask more s).port sd p).addMine = (s.port sd p).addMine := by
  unfold sendCtrl sendSequenced
  dsimp only
  rw [port_onPort_same]
  exact sendFlit_lineBlind lineBlind_addMine _ _ _

/-! ### Lanes that leave the mask (R133, R135) -/

theorem activeMask_dropLane : activeMask sd p (dropLane sd p n false s) = clearBit (activeMask sd p s) (n - p) := by
  have hlt : clearBit (activeMask sd p s) (n - p) < 256 := (clearBit_le _ _).trans_lt activeMask_lt
  unfold dropLane
  dsimp only
  rw [if_neg (by decide), activeMask_onPort, (bump_ev sd .prtDegradeCnt p _ rfl).activeMask sd (by cases sd <;> rfl),
    activeMask_wr_state, activeMask_wr hlt]

theorem releasing_dropLane : ((dropLane sd p n false s).port sd p).releasing = (s.port sd p).releasing := by
  unfold dropLane
  dsimp only
  rw [if_neg (by decide), port_onPort_same]
  dsimp only
  rw [(bump_ev sd .prtDegradeCnt p _ rfl).port sd (by cases sd <;> rfl), port_wr, port_wr]

theorem activeMask_foldl_dropLane (l : List Nat) : activeMask sd p ((l.map (p + ·)).foldl (fun s n => dropLane sd p n false s) s)
    = l.foldl clearBit (activeMask sd p s) := by
  induction l generalizing s with
  | nil => rfl
  | cons i l ih => rw [List.map_cons, List.foldl_cons, ih, activeMask_dropLane, Nat.add_sub_cancel_left, List.foldl_cons]

/-- The lanes that a mask names leave the port's mask. -/
theorem activeMask_shrinkMask {m : BitVec 8} {hit : Nat} (hhit : activeMask sd p s &&& hit = activeMask sd p s &&& m.toNat) :
    activeMask sd p (shrinkMask sd p hit s) = activeMask sd p s &&& (255 - m.toNat) := by
  unfold shrinkMask
  dsimp only
  rw [activeMask_settleState, (replay_ev sd p _ _).activeMask sd (by cases sd <;> rfl), maskLanes, activeMask_foldl_dropLane, hhit,
    foldl_clearBit_setBits activeMask_lt]

@[simp] theorem portUp_shrinkMask (hit : Nat) : portUp sd p (shrinkMask sd p hit s) = true := portUp_settleState

theorem releasing_shrinkMask (hit : Nat) : ((shrinkMask sd p hit s).port sd p).releasing = (s.port sd p).releasing := by
  unfold shrinkMask
  dsimp only
  rw [port_settleState, replay_lineBlind lineBlind_releasing]
  exact foldl_keeps (fun t => (t.port sd p).releasing) (fun t k => releasing_dropLane) _ s

/-! ### Lanes that retrain or rest once they have left -/

theorem laneSt_enterDetect_other {k : Nat} (ic : Bool) (h : k ≠ n) : laneSt sd k (enterDetect sd n ic s) = laneSt sd k s := by
  unfold enterDetect
  rw [laneSt_onLane]
  unfold laneSt
  rw [State.wrb, rd_wr_entry _ sd sd Fld.lnkStatusCacheHit Fld.lnkStatusState n k _ rfl (by decide) (by decide) (.inl h),
    (loadInitPreset_ev sd n _).rd sd _ (by cases sd <;> rfl)]
  exact rd_wr_entry s sd sd Fld.lnkStatusState _ n k 1 rfl (by decide) (by decide) (.inl h)

/-- Of lanes that enter DETECT one after the other, each is in DETECT at the end. -/
theorem laneSt_foldl_enterDetect {k : Nat} {l : List Nat} (h : k ∈ l ∨ laneSt sd k s = 1) :
    laneSt sd k (l.foldl (fun s n => enterDetect sd n false s) s) = 1 := by
  induction l generalizing s with
  | nil => simpa using h
  | cons n l ih =>
    refine ih ?_
    by_cases hk : k = n
    · rw [hk]
      exact .inr (laneSt_enterDetect sd n s false)
    · rw [laneSt_enterDetect_other false hk]
      simpa [hk] using h

theorem foldl_enterDetect_keeps (l : List Nat) : activeMask sd p (l.foldl (fun s n => enterDetect sd n false s) s) = activeMask sd p s
    ∧ portUp sd p (l.foldl (fun s n => enterDetect sd n false s) s) = portUp sd p s :=
  ⟨foldl_keeps (fun t => activeMask sd p t) (fun t k => (enterDetect_ev sd k false t).activeMask sd (by cases sd <;> rfl) p) l s,
    foldl_keeps (fun t => portUp sd p t) (fun t k => (enterDetect_ev sd k false t).portUp sd (by cases sd <;> rfl) p) l s⟩

/-- Lanes that settle in SLEEP or OFF leave the registers and the state of their port. -/
theorem foldl_settleReleased_keeps (toward : State → Nat → Nat) (l : List Nat) :
    let t := l.foldl (fun s n => settleReleased sd n (toward s n) s) s
    activeMask sd p t = activeMask sd p s ∧ portUp sd p t = portUp sd p s ∧ t.port sd p = s.port sd p :=
  ⟨foldl_keeps (fun t => activeMask sd p t) (fun t k => (settleReleased_ev sd k _ t).activeMask sd (by cases sd <;> rfl) p) l s,
    foldl_keeps (fun t => portUp sd p t) (fun t k => (settleReleased_ev sd k _ t).portUp sd (by cases sd <;> rfl) p) l s,
    foldl_keeps (fun t => t.port sd p) (fun t k => (settleReleased_ev sd k _ t).port sd (by cases sd <;> rfl) p) l s⟩

/-! ## The commands: lanes that leave -/

theorem laneFault_unchanged {slice : Bool} (h : laneInPort sd n s = false) : Answers (.laneFault sd n slice) s fun t => t = s :=
  ⟨_, congrArg Host.Outcome.next (if_pos (by simp [h])), rfl⟩

theorem laneFault_retrains (h : laneInPort sd n s = true) : Answers (.laneFault sd n false) s fun t => laneSt sd n t = 1 :=
  ⟨_, congrArg Host.Outcome.next (if_neg (by simp [h])), laneSt_leaveAndRetrain sd n s false⟩

theorem laneFault_remaps {x : Nat} (h : laneInPort sd n s = true) (hfree : freeSlice sd n s = some x) :
    Answers (.laneFault sd n true) s fun t => laneSt sd n t = 1 ∧ t.rd sd Fld.lnkStatusSlice n = x :=
  ⟨_, congrArg Host.Outcome.next ((if_neg (by simp [h])).trans (if_pos (by simp [hfree]))), laneSt_spareLane hfree,
    rd_spareLane_slice hfree⟩

section

variable {mask : BitVec 8}

theorem laneDrop_drops (hup : portUp sd p s = true) (hhit : activeMask sd p s &&& mask.toNat ≠ 0)
    (hmin : max 1 (s.rd sd Fld.prtCtlMinWidth p) ≤ popcount 8 (activeMask sd p s) - popcount 8 (activeMask sd p s &&& mask.toNat)) :
    Answers (.laneDrop sd p mask) s fun t => activeMask sd p t = activeMask sd p s &&& (255 - mask.toNat)
      ∧ portUp sd p t = true ∧ (mask.getLsbD 0 = true → (activeMask sd p s).testBit 0 = true → laneSt sd p t = 1) := by
  refine ⟨_, congrArg Host.Outcome.next ((if_neg (by simp [hup])).trans ((if_neg hhit).trans (if_neg (by omega)))), ?_⟩
  dsimp only
  rw [(foldl_enterDetect_keeps _).1, (foldl_enterDetect_keeps _).2, portUp_shrinkMask]
  refine ⟨?_, rfl, fun hm0 ha0 => laneSt_foldl_enterDetect (.inl ?_)⟩
  · rw [activeMask_shrinkMask (m := mask) (by rw [activeMask_onPort, ← Nat.and_assoc, Nat.and_self]), activeMask_onPort]
  · have h0 : (activeMask sd p s &&& mask.toNat).testBit 0 = true := by
      rw [Nat.testBit_and, ha0]
      exact hm0
    exact List.mem_map.mpr ⟨0, mem_setBits.mpr ⟨by decide, h0⟩, rfl⟩

theorem laneDrop_takes_port_down (hup : portUp sd p s = true) (hhit : activeMask sd p s &&& mask.toNat ≠ 0)
    (hmin : popcount 8 (activeMask sd p s) - popcount 8 (activeMask sd p s &&& mask.toNat) < max 1 (s.rd sd Fld.prtCtlMinWidth p)) :
    Answers (.laneDrop sd p mask) s fun t => portSt sd p t = 0 ∧ t.rd sd Fld.prtStatusReason p = 2 :=
  ⟨_, congrArg Host.Outcome.next ((if_neg (by simp [hup])).trans ((if_neg hhit).trans (if_pos hmin))), portSt_portDown 2,
    rd_portDown_reason (by decide)⟩

theorem laneDrop_unchanged (hdown : portUp sd p s = false) : Answers (.laneDrop sd p mask) s fun t => t = s :=
  ⟨_, congrArg Host.Outcome.next (if_pos (by simp [hdown])), rfl⟩

theorem laneRelease_releases (hup : portUp sd p s = true) (hhit : activeMask sd p s &&& mask.toNat ≠ 0)
    (hmin : max 1 (s.rd sd Fld.prtCtlMinWidth p) ≤ popcount 8 (activeMask sd p s) - popcount 8 (activeMask sd p s &&& mask.toNat)) :
    Answers (.laneRelease sd p mask) s fun t =>
      activeMask sd p t = activeMask sd p s &&& (255 - mask.toNat) ∧ portUp sd p t = true := by
  refine ⟨_, congrArg Host.Outcome.next (if_neg (by simp [hup, hhit]; omega)), ?_⟩
  obtain ⟨hmask, hport, -⟩ := foldl_settleReleased_keeps (sd := sd) (p := p)
    (s := shrinkMask sd p (activeMask sd p s &&& mask.toNat) (sendCtrl sd p 5 (activeMask sd p s &&& mask.toNat) [] s))
    (fun s n => max (s.rd sd Fld.lnkCtlPower n) (s.lane sd n).powerHold) (maskLanes p (activeMask sd p s &&& mask.toNat))
  have hctrl : activeMask sd p (sendCtrl sd p 5 (activeMask sd p s &&& mask.toNat) [] s) = activeMask sd p s :=
    (sendCtrl_ev sd p 5 _ [] s).activeMask sd (by cases sd <;> rfl) p
  refine ⟨hmask.trans ?_, hport.trans (portUp_shrinkMask _)⟩
  rw [activeMask_shrinkMask (m := mask) (by rw [hctrl, ← Nat.and_assoc, Nat.and_self]), hctrl]

/-- Fewer than MIN_WIDTH lanes may not remain, and the request goes unanswered (R135). -/
theorem laneRelease_refused
    (hmin : popcount 8 (activeMask sd p s) - popcount 8 (activeMask sd p s &&& mask.toNat) < max 1 (s.rd sd Fld.prtCtlMinWidth p)) :
    Answers (.laneRelease sd p mask) s fun t => t = s :=
  ⟨_, congrArg Host.Outcome.next (if_pos (by rw [decide_eq_true hmin, Bool.or_true])), rfl⟩

theorem releaseAck_releases (hup : portUp sd p s = true)
    (hhit : activeMask sd p s &&& mask.toNat &&& (s.port sd p).releasing.toNat ≠ 0) : Answers (.releaseAck sd p mask) s fun t =>
      activeMask sd p t = activeMask sd p s &&& (255 - (mask &&& (s.port sd p).releasing).toNat)
        ∧ (t.port sd p).releasing = (s.port sd p).releasing &&& ~~~mask := by
  refine ⟨_, congrArg Host.Outcome.next (if_neg (by simp [hup, hhit])), ?_⟩
  obtain ⟨hmask, -, hport⟩ := foldl_settleReleased_keeps (sd := sd) (p := p)
    (s := (shrinkMask sd p (activeMask sd p s &&& mask.toNat &&& (s.port sd p).releasing.toNat) s).onPort sd p fun ps =>
      { ps with releasing := ps.releasing &&& ~~~mask })
    (fun s n => (s.lane sd n).releaseTo) (maskLanes p (activeMask sd p s &&& mask.toNat &&& (s.port sd p).releasing.toNat))
  refine ⟨hmask.trans ?_, (congrArg PortState.releasing hport).trans ?_⟩
  · rw [activeMask_onPort]
    refine activeMask_shrinkMask ?_
    rw [BitVec.toNat_and, Nat.and_assoc, ← Nat.and_assoc, Nat.and_self]
  · rw [port_onPort_same]
    exact congrArg (· &&& ~~~mask) (releasing_shrinkMask _)

theorem releaseAck_unchanged (hhit : activeMask sd p s &&& mask.toNat &&& (s.port sd p).releasing.toNat = 0) :
    Answers (.releaseAck sd p mask) s fun t => t = s :=
  ⟨_, congrArg Host.Outcome.next (if_pos (by simp [hhit])), rfl⟩

end

/-! ## The commands: lanes that join (R132, R134) -/

/-- Which end leads depends on the two identities alone. -/
theorem Ev.leadsAdd {F : Nat} {s t : State} (h : Ev F s t) (sd : Side) (hfar : F.testBit (Part.reg sd Reg.lnkFarId).idx = false)
    (hglb : F.testBit (Part.reg .module Reg.glbEid).idx = false) (hfxe : F.testBit (Part.reg .endpoint Reg.fxeId).idx = false) (p : Nat) :
    leadsAdd sd p t = leadsAdd sd p s := by
  have heid : t.myEid sd = s.myEid sd := by
    cases sd
    · exact congrArg (BitVec.ofNat 20) (h.rd .module Fld.glbEidEid hglb 0)
    · exact congrArg (BitVec.ofNat 20) (h.rd .endpoint Fld.fxeIdEid hfxe 0)
  have hid : farId sd p t = farId sd p s := by
    unfold farId
    rw [h.rd sd Fld.lnkFarIdEid hfar, h.rd sd Fld.lnkFarIdPort hfar]
  unfold Machine.leadsAdd
  rw [heid, hid]

theorem leadsAdd_onPort (f : PortState → PortState) : leadsAdd sd p (s.onPort sd p f) = leadsAdd sd p s :=
  (onPort_ev sd p f s).leadsAdd sd (by cases sd <;> decide +kernel) (by cases sd <;> decide +kernel) (by cases sd <;> decide +kernel) p

theorem leadsAdd_sendCtrl (code mask : Nat) (more : List Byte) : leadsAdd sd p (sendCtrl sd p code mask more s) = leadsAdd sd p s :=
  (sendCtrl_ev sd p code mask more s).leadsAdd sd (by cases sd <;> rfl) (by cases sd <;> rfl) (by cases sd <;> rfl) p

theorem tryAdd_of_follower (h : leadsAdd sd p s = false) : tryAdd sd p s = s := if_neg (by simp [h])

/-- The end that leads puts the lanes that both have offered into the mask, and the offers are spent. -/
theorem tryAdd_of_leader (hlead : leadsAdd sd p s = true) (hboth : (s.port sd p).addMine &&& (s.port sd p).addFar ≠ 0) :
    activeMask sd p (tryAdd sd p s) = activeMask sd p s ||| ((s.port sd p).addMine &&& (s.port sd p).addFar).toNat
      ∧ ((tryAdd sd p s).port sd p).addMine = 0 ∧ ((tryAdd sd p s).port sd p).addFar = 0 := by
  have hne : ((s.port sd p).addMine &&& (s.port sd p).addFar).toNat ≠ 0 := fun h => hboth (BitVec.eq_of_toNat_eq h)
  have hlt : activeMask sd p s ||| ((s.port sd p).addMine &&& (s.port sd p).addFar).toNat < 256 :=
    Nat.or_lt_two_pow (n := 8) activeMask_lt ((s.port sd p).addMine &&& (s.port sd p).addFar).isLt
  unfold tryAdd
  dsimp only
  rw [if_pos ⟨hne, hlead⟩, activeMask_settleState, port_settleState, replay_lineBlind lineBlind_addMine,
    replay_lineBlind lineBlind_addFar, port_onPort_same, (replay_ev sd p _ _).activeMask sd (by cases sd <;> rfl), activeMask_onPort,
    activeMask_wr hlt]
  exact ⟨rfl, rfl, rfl⟩

section

variable {mask : BitVec 8}

theorem laneAdd_tries (hup : portUp sd p s = true) : exec (.laneAdd sd p mask) s
    = .next (tryAdd sd p (s.onPort sd p fun ps => { ps with addFar := ps.addFar ||| mask })) :=
  congrArg Host.Outcome.next (if_pos hup)

theorem laneAdd_notes (hup : portUp sd p s = true) (hlead : leadsAdd sd p s = false) : Answers (.laneAdd sd p mask) s fun t =>
    (t.port sd p).addFar = (s.port sd p).addFar ||| mask ∧ activeMask sd p t = activeMask sd p s := by
  refine ⟨_, laneAdd_tries hup, ?_⟩
  dsimp only
  rw [tryAdd_of_follower (by rwa [leadsAdd_onPort]), port_onPort_same, activeMask_onPort]
  exact ⟨rfl, rfl⟩

theorem laneAdd_adds (hup : portUp sd p s = true) (hlead : leadsAdd sd p s = true)
    (hboth : (s.port sd p).addMine &&& ((s.port sd p).addFar ||| mask) ≠ 0) : Answers (.laneAdd sd p mask) s fun t =>
      activeMask sd p t = activeMask sd p s ||| ((s.port sd p).addMine &&& ((s.port sd p).addFar ||| mask)).toNat
        ∧ (t.port sd p).addMine = 0 ∧ (t.port sd p).addFar = 0 := by
  have hport : (s.onPort sd p fun ps => { ps with addFar := ps.addFar ||| mask }).port sd p
      = { s.port sd p with addFar := (s.port sd p).addFar ||| mask } := port_onPort_same ..
  have hadd := tryAdd_of_leader (sd := sd) (p := p) (s := s.onPort sd p fun ps => { ps with addFar := ps.addFar ||| mask })
    (by rwa [leadsAdd_onPort]) (by rwa [hport])
  rw [hport, activeMask_onPort] at hadd
  exact ⟨_, laneAdd_tries hup, hadd⟩

theorem laneAdd_unchanged (hdown : portUp sd p s = false) : Answers (.laneAdd sd p mask) s fun t => t = s :=
  ⟨_, congrArg Host.Outcome.next (if_neg (by simp [hdown])), rfl⟩

end

section

variable (hport : portOf sd n s = some p) (hup : portUp sd p s = true) (hst : laneSt sd n s = 7)
  (hout : (activeMask sd p s).testBit (n - p) = false) (hen : s.rdb sd Fld.prtCtlUpconfigEn p = true)

include hport hup hst hout hen

theorem upconfigLaneReady_offers (hver : (s.lane sd n).farVersion = (s.port sd p).farOffer) (hlead : leadsAdd sd p s = false) :
    Answers (.upconfigLaneReady sd n) s fun t =>
      (t.port sd p).addMine = (s.port sd p).addMine ||| (1#8 <<< (n - p)) ∧ (t.port sd p).txSeq = (s.port sd p).txSeq + 1 := by
  have hnext : exec (.upconfigLaneReady sd n) s = .next (tryAdd sd p ((sendCtrl sd p 3 (2 ^ (n - p)) [] s).onPort sd p fun ps =>
      { ps with addMine := ps.addMine ||| (1#8 <<< (n - p)) })) := by
    change execUpconfigLaneReady sd n s = _
    simp [execUpconfigLaneReady, hport, hup, hst, hout, hen, hver]
  refine ⟨_, hnext, ?_⟩
  dsimp only
  rw [tryAdd_of_follower (by rwa [leadsAdd_onPort, leadsAdd_sendCtrl]), port_onPort_same]
  exact ⟨congrArg (· ||| (1#8 <<< (n - p))) (addMine_sendCtrl 3 _ []), txSeq_sendCtrl 3 _ []⟩

/-- A lane whose far end speaks another version is left out (R132). -/
theorem upconfigLaneReady_mismatch (hver : (s.lane sd n).farVersion ≠ (s.port sd p).farOffer) :
    Answers (.upconfigLaneReady sd n) s fun t =>
      t.rdb sd Fld.prtStatusVerMismatch p = true ∧ (t.port sd p).addMine = (s.port sd p).addMine := by
  refine ⟨s.wrb sd Fld.prtStatusVerMismatch p true, ?_, ?_, congrArg PortState.addMine (port_wr ..)⟩
  · change execUpconfigLaneReady sd n s = _
    simp [execUpconfigLaneReady, hport, hup, hst, hout, hen, hver]
  · rw [rdb_def, rd_wrb_lit sd s _ p true (by decide) (by decide)]
    rfl

end

end Sys2Proof.Machine

section

open Sys2Proof Sys2Proof.Machine

/-- Settles O14, one lemma for each command and each way it answers. -/
theorem lanesJoinAndLeaveAPort : Obligations.LanesJoinAndLeaveAPort := fun _ _ _ _ _ =>
  ⟨fun _ => laneFault_unchanged, laneFault_retrains, fun _ => laneFault_remaps, laneDrop_drops, laneDrop_takes_port_down, laneAdd_notes,
    laneAdd_adds, fun hdown => ⟨laneAdd_unchanged hdown, laneDrop_unchanged hdown⟩, upconfigLaneReady_offers, upconfigLaneReady_mismatch,
    laneRelease_releases, fun _ _ => laneRelease_refused, releaseAck_releases, releaseAck_unchanged⟩

end

/-! ## The flit CRC as long division (R117) -/

namespace Sys2Proof.Machine

/-- The ECMA-182 polynomial with its leading term: 65 bits. -/
def ecmaPoly : Nat := 2 ^ 64 + 0x42F0E1EBA9EA3693

/-- One step of long division of a 72-bit number by the polynomial: where bit 71 - k is set, the multiple that cancels it is
added. -/
def divStep (x k : Nat) : Nat := if x.testBit (71 - k) then x ^^^ (ecmaPoly * 2 ^ (7 - k)) else x

theorem xor_mul_two_pow (a b j : Nat) : (a ^^^ b) * 2 ^ j = a * 2 ^ j ^^^ b * 2 ^ j := by
  simpa only [Nat.shiftLeft_eq] using Nat.shiftLeft_xor_distrib (a := a) (b := b) (i := j)

/-- The register shifts up by one bit, and the polynomial cancels the bit that leaves it. -/
theorem toNat_crc64Bit (c : BitVec 64) :
    (crc64Bit c).toNat = if c.toNat.testBit 63 then c.toNat * 2 ^ 1 ^^^ ecmaPoly else c.toNat * 2 ^ 1 := by
  have htop : c.toNat.testBit 63 = true ↔ 2 ^ 63 ≤ c.toNat := by
    rw [Nat.testBit_eq_decide_div_mod_eq]
    have := c.isLt
    simp only [decide_eq_true_eq]
    omega
  unfold crc64Bit BitVec.getLsbD
  split
  · next hbit =>
    have hdiv : (c.toNat * 2 ^ 1 ^^^ ecmaPoly) / 2 ^ 64 = 0 := by
      have hone : c.toNat * 2 ^ 1 / 2 ^ 64 = 1 := by have := htop.mp hbit; have := c.isLt; omega
      rw [Nat.xor_div_two_pow, hone]
      decide
    have hlt : c.toNat * 2 ^ 1 ^^^ ecmaPoly < 2 ^ 64 := Nat.lt_of_div_eq_zero (by decide) hdiv
    rw [BitVec.toNat_xor, BitVec.toNat_shiftLeft, Nat.shiftLeft_eq, ← Nat.mod_eq_of_lt hlt, Nat.xor_mod_two_pow]
    rfl
  · next hbit =>
    have hlow : ¬ 2 ^ 63 ≤ c.toNat := fun h => hbit (htop.mpr h)
    rw [BitVec.toNat_shiftLeft, Nat.shiftLeft_eq, Nat.mod_eq_of_lt (by omega)]

/-- A bit step of the register is a step of the division, `7 - k` bits further down. -/
theorem divStep_eq_crc64Bit (c : BitVec 64) {k : Nat} (hk : k < 8) :
    divStep (c.toNat * 2 ^ (8 - k)) k = (crc64Bit c).toNat * 2 ^ (7 - k) := by
  have htop : (c.toNat * 2 ^ (8 - k)).testBit (71 - k) = c.toNat.testBit 63 := by
    rw [Nat.testBit_mul_two_pow, decide_eq_true (by omega), Bool.true_and, show 71 - k - (8 - k) = 63 by omega]
  have hshift : c.toNat * 2 ^ (8 - k) = c.toNat * 2 ^ 1 * 2 ^ (7 - k) := by
    rw [Nat.mul_assoc, ← Nat.pow_add, show 1 + (7 - k) = 8 - k by omega]
  unfold divStep
  rw [htop, toNat_crc64Bit, hshift]
  split
  · rw [xor_mul_two_pow]
  · rfl

/-- After `n` steps of the division of a register and eight zeros, what is left is the register after `n` bit steps. -/
theorem foldl_divStep (c : BitVec 64) : ∀ n ≤ 8,
    (List.range n).foldl divStep (c.toNat * 2 ^ 8) = (crc64Bit^[n] c).toNat * 2 ^ (8 - n)
  | 0, _ => rfl
  | n + 1, hn => by
    rw [List.range_succ, List.foldl_append, foldl_divStep c n (by omega), List.foldl_cons, List.foldl_nil,
      divStep_eq_crc64Bit _ (by omega), Function.iterate_succ_apply', show 8 - (n + 1) = 7 - n by omega]

/-- A byte joins the register at its top. -/
theorem toNat_crc64Byte (c : BitVec 64) (b : Byte) :
    (crc64Byte c b).toNat = (List.range 8).foldl divStep (c.toNat * 2 ^ 8 ^^^ b.toNat * 2 ^ 64) := by
  have hjoin : c.toNat * 2 ^ 8 ^^^ b.toNat * 2 ^ 64 = (c ^^^ (b.setWidth 64 <<< 56)).toNat * 2 ^ 8 := by
    have hb : (b.setWidth 64 <<< 56).toNat = b.toNat * 2 ^ 56 := by
      have := b.isLt
      rw [BitVec.toNat_shiftLeft, BitVec.toNat_setWidth, Nat.shiftLeft_eq]
      omega
    rw [BitVec.toNat_xor, hb, xor_mul_two_pow, Nat.mul_assoc, ← Nat.pow_add]
  rw [hjoin, foldl_divStep _ 8 le_rfl, Nat.sub_self, Nat.pow_zero, Nat.mul_one]
  rfl

/-- Before its final XOR the CRC goes on byte by byte. -/
theorem not_crc64_append (l : List Byte) (b : Byte) : ~~~ crc64 (l ++ [b]) = crc64Byte (~~~ crc64 l) b := by
  unfold crc64
  rw [BitVec.not_not, BitVec.not_not, List.foldl_append, List.foldl_cons, List.foldl_nil]

/-! ### The bytes of a flit that it covers -/

theorem length_flitBytes {f : Flit} (h : f.slots.length = 240) : (flitBytes f).length = 256 := by
  simp [flitBytes, length_leBytes, h]

/-- The CRC covers all of a flit but the CRC itself, which stands at bytes 244 to 251. -/
theorem flitCrcBytes_eq {f : Flit} (h : f.slots.length = 240) :
    flitCrcBytes f = (flitBytes f).take 244 ++ (flitBytes f).drop 252 := by
  have hfront : (leBytes 4 (f.type.toNat + f.seq.toNat * 2 ^ 8 + f.ack.toNat * 2 ^ 20) ++ f.slots).length = 244 := by
    simp [length_leBytes, h]
  have hcrc := length_leBytes 8 f.crc.toNat
  unfold flitBytes flitCrcBytes
  rw [List.drop_left' (by rw [List.length_append, hfront, hcrc]), List.append_assoc _ (leBytes 8 _), List.take_left' hfront]

theorem length_padSlots (l : List Byte) : (padSlots l).length = 240 := by
  simp [padSlots, zeros]
  omega

end Sys2Proof.Machine

section

open Sys2Proof Sys2Proof.Machine

/-- Settles O57: a byte step of the register is eight steps of long division (`toNat_crc64Byte`). -/
theorem flitCrcIsTheEcmaRemainder : Obligations.FlitCrcIsTheEcmaRemainder := fun l b _ _ _ _ slots =>
  ⟨BitVec.not_not, (congrArg BitVec.toNat (not_crc64_append l b)).trans (toNat_crc64Byte _ b),
    fun h => ⟨length_flitBytes h, flitCrcBytes_eq h⟩, length_padSlots slots, rfl⟩

end

/-! ## What queueing leaves of a port: its link layer, while it is down or the endpoint block's -/

namespace Sys2Proof.Machine

/-- A port without its egress queues, its residue queue and the slots of its ingress partition. -/
def PortState.link (ps : PortState) : PortState := { ps with egress := [], residue := [], inUse := [], freed := [] }

/-- From one state to the next a port's link layer stays where packets are queued and not started: on a port that carries none,
and on any port of the endpoint block, whose packets start at PACKET_TRANSMIT alone. -/
structure LinkKept (sd : Side) (p : Nat) (s t : State) : Prop where
  st : portSt sd p t = portSt sd p s
  link : sd = .endpoint ∨ portUp sd p s = false → (t.port sd p).link = (s.port sd p).link

/-- The ports of both units and their PRT.STATUS, as a set of parts. -/
def linkParts : Nat :=
  bitsOfParts [.unit .module .ports, .unit .endpoint .ports, .reg .module .prtStatus, .reg .endpoint .prtStatus]

variable {sd : Side} {p q : Nat} {s t u : State}

theorem LinkKept.up (h : LinkKept sd p s t) : portUp sd p t = portUp sd p s := by
  unfold portUp
  rw [h.st]

theorem LinkKept.refl (s : State) : LinkKept sd p s s := ⟨rfl, fun _ => rfl⟩

theorem LinkKept.trans (h : LinkKept sd p s t) (k : LinkKept sd p t u) : LinkKept sd p s u :=
  ⟨k.st.trans h.st, fun hq => (k.link (by rwa [h.up])).trans (h.link hq)⟩

theorem LinkKept.foldl {α : Type} {f : State → α → State} (hf : ∀ t a, LinkKept sd p t (f t a)) (l : List α) (s : State) :
    LinkKept sd p s (l.foldl f s) := by
  induction l generalizing s with
  | nil => exact .refl s
  | cons a l ih => exact (hf s a).trans (ih (f s a))

theorem LinkKept.ite {c : Prop} [Decidable c] (ht : LinkKept sd p s t) (hu : LinkKept sd p s u) :
    LinkKept sd p s (if c then t else u) := by
  split
  · exact ht
  · exact hu

/-- An operation that leaves the ports and PRT.STATUS alone keeps every port's link layer. -/
theorem Ev.linkKept {F : Nat} (h : Ev F s t) (hF : F &&& linkParts = 0) : LinkKept sd p s t := by
  have hbit : ∀ i, linkParts.testBit i = true → F.testBit i = false := fun i hi => by
    have hi' := congrArg (fun x => x.testBit i) hF
    simpa [hi] using hi'
  exact ⟨h.portSt sd (hbit _ (by cases sd <;> decide +kernel)) p,
    fun _ => congrArg PortState.link (h.port sd (hbit _ (by cases sd <;> decide +kernel)) p)⟩

/-- Counting in a counter, with the event of its overflow, is such an operation. -/
theorem linkKept_bump (sd' : Side) {r : Reg} (i : Nat) (hr : r.isCounter = true)
    (hF : ((Part.reg sd' r).bit ||| Fp.logBump sd') &&& linkParts = 0) : LinkKept sd p s (bump sd' r i s) :=
  (bump_ev sd' r i s hr).linkKept hF

/-- A change of a port's queues and partition alone. -/
theorem linkKept_onPort (sd' : Side) (q : Nat) {f : PortState → PortState} (hf : ∀ ps, (f ps).link = ps.link) :
    LinkKept sd p s (s.onPort sd' q f) := by
  refine ⟨rd_onPort s sd' sd q f _ p, fun _ => ?_⟩
  simp only [State.onPort, State.port, unit_onUnit]
  split
  · next hsd =>
    subst hsd
    by_cases hq : p = q
    · subst hq
      rw [smapGet_put_same, hf]
    · rw [smapGet_put_other _ _ _ _ _ _ hq]
  · rfl

theorem linkKept_onM (f : ModuleState → ModuleState) : LinkKept sd p s (s.onM f) :=
  ⟨rd_onM s sd f _ p, fun _ => by unfold State.port; rw [onM_unit]⟩

theorem linkKept_onE (f : EndpointState → EndpointState) : LinkKept sd p s (s.onE f) :=
  ⟨rd_onE s sd f _ p, fun _ => by unfold State.port; rw [onE_unit]⟩

/-! ### Packets that the module queues or waits with -/

theorem linkKept_putEgress (pkt : Packet) (shared transit entering : Bool) :
    LinkKept sd p s (putEgress q pkt shared transit entering s) := by
  unfold putEgress
  exact (linkKept_onPort .module q (by intro ps; rfl)).trans (linkKept_onM _)

theorem linkKept_portSend (sd' : Side) (pkt : Packet) : LinkKept sd p s (portSend sd' q pkt s) := by
  unfold portSend
  exact (linkKept_onPort sd' q (by intro ps; rfl)).trans (linkKept_onM _)

theorem linkKept_addWaiting (w : WaitEntry) : LinkKept sd p s (addWaiting w s) := linkKept_onM _

theorem linkKept_toInbox (sd' : Side) (pkt : Packet) : LinkKept sd p s (toInbox sd' q pkt s) :=
  (toInbox_ev sd' q pkt s).linkKept (by cases sd' <;> decide +kernel)

theorem linkKept_freeSlots (sd' : Side) (pool n : Nat) : LinkKept sd p s (freeSlots sd' q pool n s) := by
  unfold freeSlots
  exact .ite (.refl s) (linkKept_onPort sd' q (by intro ps; rfl))

theorem linkKept_leaveIngress (held : Bool) (pkt : Packet) : LinkKept sd p s (leaveIngress q held pkt s) :=
  .ite (linkKept_freeSlots .module _ _) (.refl s)

theorem linkKept_putOrWait (pkt : Packet) (arrival : Nat) (held transit entering : Bool) :
    LinkKept sd p s (putOrWait q pkt arrival held transit entering s) := by
  unfold putOrWait
  split
  · exact linkKept_putEgress ..
  · exact linkKept_addWaiting _

theorem linkKept_pushOne (e : EgressEntry) : LinkKept sd p s (pushOne q e s) := by
  unfold pushOne
  exact (linkKept_onPort .module q (by intro ps; rfl)).trans (linkKept_bump .module 0 (by decide) (by decide +kernel))

theorem linkKept_pushUntil (fits : State → Bool) (g n : Nat) : LinkKept sd p s (pushUntil fits g n s).2 := by
  induction n generalizing s with
  | zero => exact .refl s
  | succ n ih =>
    unfold pushUntil
    split
    · exact .refl s
    · split
      · exact .refl s
      · exact (linkKept_pushOne _).trans ih

/-! ### Multicast copies: one starts at once on a port that is up, and on no other (R165) -/

theorem port_onUnit (sd' : Side) {f : UnitState → UnitState} (hf : ∀ u, (f u).ports = u.ports) :
    (s.onUnit sd' f).port sd p = s.port sd p := by
  simp only [State.port, unit_onUnit]
  split
  · next hsd => rw [hsd, hf]
  · rfl

/-- The fault injector acts on a flit once it has left, and on no port. -/
theorem port_sendData (sd' : Side) (type : Nat) (slots : List Byte) :
    (sendData sd' q type slots s).port sd p = (sendSequenced sd' q (BitVec.ofNat 8 type) slots s).port sd p := by
  unfold sendData
  extract_lets s1
  cases sd' with
  | endpoint => rfl
  | module =>
    have hact := (rattleAct_ev 1 0 q none s1).port sd (by cases sd <;> decide +kernel) p
    dsimp only
    split
    · next s2 hs2 => rwa [hs2] at hact
    · next s2 hs2 =>
      rw [hs2] at hact
      exact (port_onUnit .module (by intro u; rfl)).trans hact

theorem port_sendSequenced_other (h : p ≠ q) (type : BitVec 8) (slots : List Byte) :
    (sendSequenced sd q type slots s).port sd p = s.port sd p := by
  unfold sendSequenced sendFlit
  dsimp only
  rw [port_onPort_other _ _ _ _ _ _ h, port_onPort_other _ _ _ _ _ _ h, port_emit]

theorem port_startPacket_other (h : p ≠ q) (pkt : Packet) : (startPacket sd q pkt s).port sd p = s.port sd p := by
  unfold startPacket
  dsimp only
  refine (foldl_keeps (fun t => t.port sd p) (fun t f => ?_) _ _).trans (port_onPort_other _ _ _ _ _ _ h)
  exact (port_sendData sd f.1 f.2).trans (port_sendSequenced_other h _ f.2)

theorem linkKept_startPacket (hup : portUp .module q s = true) (pkt : Packet) : LinkKept sd p s (startPacket .module q pkt s) := by
  have hev := startPacket_ev .module q pkt s
  cases sd with
  | endpoint => exact ⟨hev.portSt .endpoint (by decide +kernel) p, fun _ => by rw [hev.port .endpoint (by decide +kernel)]⟩
  | module =>
    refine ⟨hev.portSt .module (by decide +kernel) p, fun hdown => ?_⟩
    have hne : p ≠ q := by
      rintro rfl
      simp [hup] at hdown
    rw [port_startPacket_other hne]

theorem linkKept_mcastCopy (id : Nat) (pkt : Packet) : LinkKept sd p s (mcastCopy id pkt q s).2 := by
  unfold mcastCopy
  split
  · next hready =>
    have hup : portUp .module q s = true := by
      simp only [mcastReady, mayStart, Bool.and_eq_true] at hready
      exact hready.1.1.1.1.1
    exact linkKept_startPacket hup _
  · dsimp only
    exact (linkKept_onPort .module q (by intro ps; rfl)).trans (linkKept_onM _)

theorem linkKept_mcastCopies (id : Nat) (pkt : Packet) (l : List Nat) : LinkKept sd p s (mcastCopies id pkt l s).2 := by
  induction l generalizing s with
  | nil => exact .refl s
  | cons q l ih => exact (linkKept_mcastCopy id pkt).trans ih

theorem linkKept_mcastStore (g : Nat) (pkt : Packet) (ports : List Nat) : LinkKept sd p s (mcastStore g pkt ports s) := by
  unfold mcastStore
  extract_lets id r
  have hcopies : LinkKept sd p s r.2 := (linkKept_onM _).trans (linkKept_mcastCopies id pkt ports)
  exact .ite hcopies (hcopies.trans (linkKept_onM _))

/-! ### Packets of the module's own and the routing of others -/

/-- A lookup moves at most the rotating pointer of a port group (R155). -/
theorem linkKept_lookupRoute {pkt : Packet} {arrival : Nat} {r : Route} (h : lookupRoute pkt arrival s = (r, t)) :
    LinkKept sd p s t :=
  (Ev.ofPair h (lookupRoute_ev pkt arrival s)).linkKept (by decide +kernel)

/-- The fault injector changes its own rules and the event log. -/
theorem linkKept_rattleAct {kind targetType target : Nat} {tc : Option Nat} {r : Option Nat}
    (h : rattleAct kind targetType target tc s = (r, t)) : LinkKept sd p s t :=
  (Ev.ofPair h (rattleAct_ev kind targetType target tc s)).linkKept (by decide +kernel)

theorem linkKept_countUnreachable (arrival : Nat) (pkt : Packet) : LinkKept sd p s (countUnreachable arrival pkt s) :=
  (countUnreachable_ev arrival pkt s).linkKept (by decide +kernel)

theorem linkKept_setReseq (key : Nat) (l : List ReseqStream) : LinkKept sd p s (setReseq key l s) := linkKept_onM _

theorem linkKept_sendModule (pkt : Packet) : LinkKept sd p s (sendModule pkt s) := by
  unfold sendModule
  split <;> refine (linkKept_lookupRoute ‹_›).trans ?_
  case h_1 => exact linkKept_toInbox .module pkt
  case h_2 => exact .ite (linkKept_mcastStore 0 pkt _) (linkKept_addWaiting _)
  case h_3 => exact .ite (linkKept_putOrWait ..) (linkKept_bump .module 0 (by decide) (by decide +kernel))
  case h_4 => exact linkKept_bump .module 0 (by decide) (by decide +kernel)
  case h_5 => exact linkKept_countUnreachable ownPort pkt

theorem linkKept_nackPushed (l : List Packet) : LinkKept sd p s (nackPushed l s) :=
  .foldl (fun _ _ => linkKept_sendModule _) l s

theorem linkKept_proxyRefuse (st : Status) (pkt : Packet) : LinkKept sd p s (proxyRefuse st pkt s).2 := by
  unfold proxyRefuse
  split
  · exact linkKept_sendModule _
  · exact .refl s

theorem linkKept_enqueuePort (pkt : Packet) (arrival : Nat) (held transit entering : Bool) :
    LinkKept sd p s (enqueuePort q pkt arrival held transit entering s) := by
  unfold enqueuePort
  extract_lets k n free w r
  have hfree : ∀ t, LinkKept sd p t (free t) := fun t => linkKept_leaveIngress held pkt
  have hpush : LinkKept sd p s r.2 := linkKept_pushUntil _ _ _
  split
  · exact (linkKept_putEgress ..).trans (hfree _)
  · split
    · split
      · exact hpush.trans ((linkKept_putEgress ..).trans ((hfree _).trans (linkKept_nackPushed _)))
      · exact hpush.trans ((linkKept_addWaiting w).trans (linkKept_nackPushed _))
    · exact linkKept_addWaiting w

theorem linkKept_enqueueMany (l : List Nat) (pkt : Packet) (arrival : Nat) (held : Bool) :
    LinkKept sd p s (enqueueMany l pkt arrival held s) := by
  unfold enqueueMany
  extract_lets g k free w r
  have hfree : ∀ t, LinkKept sd p t (free t) := fun t => linkKept_leaveIngress held pkt
  have hpush : LinkKept sd p s r.2 := linkKept_pushUntil _ _ _
  split
  · exact hfree s
  · refine .ite ((linkKept_mcastStore ..).trans (hfree _)) (.ite (.ite ?_ ?_) (linkKept_addWaiting w))
    · exact hpush.trans ((linkKept_mcastStore ..).trans ((hfree _).trans (linkKept_nackPushed _)))
    · exact hpush.trans ((linkKept_addWaiting w).trans (linkKept_nackPushed _))

theorem linkKept_releaseAll (key arrival : Nat) (l : List Packet) : LinkKept sd p s (releaseAll key arrival l s) :=
  .foldl (fun _ _ => .ite (linkKept_toInbox ..) (linkKept_enqueuePort ..)) l s

theorem linkKept_learnExpected (ack : Packet) : LinkKept sd p s (learnExpected ack s) := by
  unfold learnExpected
  split
  · exact .refl s
  · split
    · exact .refl s
    · extract_lets l same fresh
      split
      · refine .ite (linkKept_setReseq ..) ?_
        split
        · exact linkKept_setReseq ..
        · exact .refl s
      · extract_lets rest
        split
        · exact linkKept_setReseq ..
        · exact .ite ((linkKept_setReseq ..).trans (linkKept_releaseAll ..)) (linkKept_setReseq ..)

theorem linkKept_sendOwn (pkt : Packet) : LinkKept sd p s (sendOwn pkt s) :=
  (linkKept_learnExpected pkt).trans (linkKept_sendModule pkt)

theorem linkKept_refuseFeature (pkt : Packet) : LinkKept sd p s (refuseFeature pkt s) :=
  (linkKept_bump .module 0 (by decide) (by decide +kernel)).trans (linkKept_proxyRefuse stVersion pkt)

theorem linkKept_refuseUnreachable (arrival : Nat) (pkt : Packet) : LinkKept sd p s (refuseUnreachable arrival pkt s) := by
  have hrefuse := linkKept_proxyRefuse (sd := sd) (p := p) (s := s) stNoWindow pkt
  unfold refuseUnreachable
  split
  · next h => rwa [h] at hrefuse
  · next h =>
    rw [h] at hrefuse
    exact hrefuse.trans (linkKept_countUnreachable arrival pkt)

theorem linkKept_toEgress (toSlot : Bool) (pkt : Packet) (arrival : Nat) (held transit entering : Bool) :
    LinkKept sd p s (toEgress q toSlot pkt arrival held transit entering s) := by
  unfold toEgress
  extract_lets tc
  split
  · next h1 => exact (linkKept_rattleAct h1).trans (linkKept_leaveIngress held pkt)
  · next s1 h1 =>
    extract_lets dropNoc
    have h2 : LinkKept sd p s dropNoc.2 := (linkKept_rattleAct h1).trans (linkKept_rattleAct rfl)
    clear_value dropNoc
    split
    · exact h2.trans (linkKept_leaveIngress held pkt)
    · next s2 =>
      extract_lets c f
      have h3 : LinkKept sd p s c.2 := h2.trans (linkKept_rattleAct rfl)
      split
      · next h4 => exact (h3.trans (linkKept_rattleAct h4)).trans ((linkKept_leaveIngress held pkt).trans (linkKept_onM _))
      · next s3 h4 =>
        extract_lets d s4
        have h5 : LinkKept sd p s d.2 := (h3.trans (linkKept_rattleAct h4)).trans (linkKept_rattleAct rfl)
        have h6 : LinkKept sd p s s4 :=
          h5.trans (.ite ((linkKept_leaveIngress held pkt).trans (linkKept_onM _)) (linkKept_enqueuePort ..))
        exact .ite (h6.trans (linkKept_enqueuePort ..)) h6

theorem linkKept_routePacket (pkt : Packet) (arrival : Nat) (held : Bool) :
    LinkKept sd p s (routePacket pkt arrival held s) := by
  have hleave : ∀ t, LinkKept sd p t (leaveIngress arrival held pkt t) := fun t => linkKept_leaveIngress held pkt
  unfold routePacket
  split <;> refine (linkKept_learnExpected pkt).trans ((linkKept_lookupRoute ‹_›).trans ?_)
  case h_1 s1 _ =>
    refine (hleave s1).trans (.ite ?_ (.ite (linkKept_onM _) (linkKept_toInbox .module pkt)))
    exact (countMalformed_ev .module arrival pkt _).linkKept (by decide +kernel)
  case h_2 s1 _ => exact (hleave s1).trans (linkKept_bump .module 0 (by decide) (by decide +kernel))
  case h_3 s1 _ => exact (hleave s1).trans (linkKept_refuseUnreachable arrival pkt)
  case h_4 s1 _ =>
    exact LinkKept.trans (.ite (linkKept_bump .module 0 (by decide) (by decide +kernel)) (.refl s1)) (linkKept_enqueueMany ..)
  case h_5 s1 _ => exact .ite (linkKept_toEgress ..) ((hleave s1).trans (linkKept_refuseFeature pkt))

theorem linkKept_requeuePort : LinkKept sd p s (requeuePort q s) := by
  unfold requeuePort
  extract_lets ps pkts s1 s2
  have h1 : LinkKept sd p s s1 := linkKept_onPort .module q (by intro ps; rfl)
  have h2 : LinkKept sd p s1 s2 := .foldl (fun t x => linkKept_onM _) _ _
  exact (h1.trans h2).trans (.foldl (fun t k => linkKept_routePacket k ownPort false) _ _)

/-! ### What the unit sends when a port goes down or comes up (R198, R262, R263) -/

theorem linkKept_leafRecovery (slot : Nat) : LinkKept sd p s (leafRecovery slot s) := by
  unfold leafRecovery
  split
  · exact .refl s
  · extract_lets s1 s2 h
    have h1 : LinkKept sd p s s1 := ((onDir_ev _ s).linkKept (by decide +kernel)).trans
      ((linkKept_bump .module 0 (by decide) (by decide +kernel)).trans ((logModule_ev _ _).linkKept (by decide +kernel)))
    have h2 : LinkKept sd p s1 s2 := .foldl (fun t x => (endGranted_ev x t).linkKept (by decide +kernel)) _ _
    have h3 : LinkKept sd p s2 (resendSnoops slot s2) := .foldl (fun t x => .foldl (fun t y => linkKept_sendOwn _) _ _) _ _
    have h4 : LinkKept sd p (resendSnoops slot s2) h.2 := (homeTseq_ev _).linkKept (by decide +kernel)
    exact ((h1.trans h2).trans (h3.trans h4)).trans (linkKept_sendOwn _)

theorem linkKept_sendFrom (sd' : Side) (pkt : Packet) : LinkKept sd p s (sendFrom sd' pkt s) := by
  cases sd' with
  | module => exact linkKept_sendOwn pkt
  | endpoint =>
    unfold sendFrom
    dsimp only
    split
    · exact linkKept_portSend .endpoint pkt
    · exact .refl s

theorem linkKept_sendRecoverStart (leaf : Eid) : LinkKept sd p s (sendRecoverStart leaf s) :=
  .ite (.refl s) ((linkKept_onE _).trans (linkKept_sendFrom .endpoint _))

theorem linkKept_epRecovery (leaf : Eid) (announce : Bool) : LinkKept sd p s (epRecovery leaf announce s) := by
  unfold epRecovery
  split
  · exact .refl s
  · extract_lets s1
    have h1 : LinkKept sd p s s1 := (linkKept_onE _).trans (((abortCoherent_ev leaf _).linkKept (by decide +kernel)).trans
      ((raiseVector_ev 6 _ (by decide)).linkKept (by decide +kernel)))
    exact .ite (h1.trans (linkKept_sendRecoverStart leaf)) h1

theorem linkKept_recoverPort (sd' : Side) : LinkKept sd p s (recoverPort sd' q s) := by
  cases sd' with
  | endpoint => exact linkKept_epRecovery _ true
  | module =>
    unfold recoverPort
    dsimp only
    split
    · exact .ite (linkKept_leafRecovery _) (.refl s)
    · exact .refl s

theorem linkKept_epRequeue : LinkKept sd p s (epRequeue q s) := by
  unfold epRequeue
  extract_lets pkts
  refine (linkKept_onPort .endpoint q (by intro ps; rfl)).trans (.foldl (fun t k => ?_) _ _)
  split
  · exact linkKept_portSend .endpoint k
  · exact .refl t

theorem linkKept_retransmit (sd' : Side) (o : SrcOp) (x : Sent) : LinkKept sd p s (retransmit sd' o x s) := by
  unfold retransmit
  extract_lets numbered t1 o1 s1
  have hput : LinkKept sd p s (putOp sd' o1 s) := (putOp_ev sd' o1 s).linkKept (by cases sd' <;> decide +kernel)
  have h1 : LinkKept sd p s s1 := hput.trans (linkKept_bump sd' 0 (by decide) (by cases sd' <;> decide +kernel))
  exact h1.trans (linkKept_sendFrom sd' _)

theorem linkKept_planeLossBarrier (sd' : Side) (dst : Eid) (stream : BitVec 4) :
    LinkKept sd p s (planeLossBarrier sd' dst stream s) := by
  unfold planeLossBarrier
  extract_lets s1
  have h1 : LinkKept sd p s s1 := ((onSrcSpace_ev sd' dst stream _ s).linkKept (by cases sd' <;> decide +kernel)).trans
    (linkKept_bump sd' 0 (by decide) (by cases sd' <;> decide +kernel))
  refine h1.trans (LinkKept.foldl ?_ _ s1)
  intro t x
  exact linkKept_retransmit sd' x.1 x.2

theorem linkKept_runBarriers (sd' : Side) : LinkKept sd p s (runBarriers sd' s) := by
  unfold runBarriers
  refine LinkKept.foldl ?_ _ s
  intro t x
  exact .ite (linkKept_planeLossBarrier sd' x.1 x.2) (.refl t)

end Sys2Proof.Machine

/-! ## A port that goes down (R122, R141) -/

namespace Sys2Proof.Machine

variable {sd : Side} {p : Nat} {s t : State}

theorem retry_portDownLink (reason : Nat) : ((portDownLink sd p reason s).port sd p).retry = [] := by
  unfold portDownLink
  extract_lets lanes s1 s2 s3 s4 s5
  have hlanes : (lanes.foldl (fun s k => enterDetect sd k false s) s5).port sd p = s5.port sd p :=
    foldl_keeps (fun t => t.port sd p) (fun t j => (enterDetect_ev sd j false t).port sd (by cases sd <;> decide +kernel) p) lanes s5
  have h5 : s5.port sd p = s4.port sd p := ((raiseLane_ev sd _).port sd (by cases sd <;> decide +kernel) p).trans
    ((logEvent_ev sd _ s4).port sd (by cases sd <;> decide +kernel) p)
  rw [hlanes, h5, port_onPort_same]
  rfl

/-- What follows the link layer's part queues packets and starts none on the port. -/
theorem linkKept_portDown (reason : Nat) : LinkKept sd p (portDownLink sd p reason s) (portDown sd p reason s) := by
  unfold portDown
  extract_lets lost s1 s2
  have h2 : LinkKept sd p s1 s2 := by
    cases sd with
    | endpoint => exact linkKept_epRequeue
    | module =>
      have hdown : LinkKept .module p s1 (if portUp .module p s then
          s1.onM fun m => { m with live := { m.live with downAt := smapSet m.live.downAt p s.now } } else s1) :=
        .ite (linkKept_onM _) (.refl s1)
      exact (hdown.trans ((setEvidence_ev p 0 _).linkKept (by decide +kernel))).trans linkKept_requeuePort
  exact .ite (h2.trans (linkKept_recoverPort sd)) h2

theorem retry_portDown (reason : Nat) : ((portDown sd p reason s).port sd p).retry = [] := by
  have hkept := linkKept_portDown (sd := sd) (p := p) (s := s) reason
  have hdown : portUp sd p (portDownLink sd p reason s) = false := portUp_of_down (hkept.st.symm.trans (portSt_portDown reason))
  have hretry := congrArg PortState.retry (hkept.link (.inr hdown))
  exact hretry.trans (retry_portDownLink reason)

theorem activeMask_portDown (reason : Nat) : activeMask sd p (portDown sd p reason s) = 0 := by
  unfold activeMask
  rw [rd_portDown reason p rfl, rd_portDownLink reason p rfl]
  exact rd_wr_lit _ _ _ _ _ (by decide) (by decide) (by decide)

theorem portDown_down {reason : Nat} (h : reason < 16) :
    portSt sd p (portDown sd p reason s) = 0 ∧ (portDown sd p reason s).rd sd Fld.prtStatusReason p = reason
      ∧ activeMask sd p (portDown sd p reason s) = 0 ∧ ((portDown sd p reason s).port sd p).retry = [] :=
  ⟨portSt_portDown reason, rd_portDown_reason h, activeMask_portDown reason, retry_portDown reason⟩

theorem peerPortDown_takes_down (hup : portUp sd p s = true) : Answers (.peerPortDown sd p) s fun t =>
    portSt sd p t = 0 ∧ t.rd sd Fld.prtStatusReason p = 5 ∧ activeMask sd p t = 0 ∧ (t.port sd p).retry = [] :=
  ⟨_, congrArg Host.Outcome.next (if_pos hup), portDown_down (by decide)⟩

theorem peerPortDown_unchanged (hdown : portUp sd p s = false) : Answers (.peerPortDown sd p) s fun t => t = s :=
  ⟨_, congrArg Host.Outcome.next (if_neg (by simp [hdown])), rfl⟩

section

variable {path : Path}

theorem portDownCmd_takes_down (hw : portWidth sd p s ≠ 0) (hst : portSt sd p s ≠ 0) : Answers (.portDownCmd sd path p) s fun t =>
    portSt sd p t = 0 ∧ t.rd sd Fld.prtStatusReason p = 4 ∧ activeMask sd p t = 0 ∧ (t.port sd p).retry = [] :=
  ⟨_, congrArg Host.Outcome.next ((if_neg hw).trans (if_neg hst)), portDown_down (by decide)⟩

theorem portDownCmd_unchanged (hw : portWidth sd p s ≠ 0) (hst : portSt sd p s = 0) :
    Answers (.portDownCmd sd path p) s fun t => t = s :=
  ⟨_, congrArg Host.Outcome.next ((if_neg hw).trans (if_pos hst)), rfl⟩

/-- A window of no port: the write is recorded and leaves every port's state (R140). -/
theorem portDownCmd_discarded (hw : portWidth sd p s = 0) : Answers (.portDownCmd sd path p) s fun t =>
    t = regAccess sd (regOffset sd .prtCtl p 0) 2 s ∧ portSt sd p t = portSt sd p s :=
  ⟨_, congrArg Host.Outcome.next (if_pos hw), rfl, (regAccess_ev sd _ 2 s).portSt sd (by cases sd <;> decide +kernel) p⟩

end

/-! ## A port that forms (R132, R136) -/

/-! ### Configured width and grants -/

theorem walkBundle_congr (h : ∀ k, t.rd .endpoint Fld.prtCtlWidth k = s.rd .endpoint Fld.prtCtlWidth k) (fuel q stop : Nat) :
    walkBundle t fuel q stop = walkBundle s fuel q stop := by
  induction fuel generalizing q with
  | zero => rfl
  | succ fuel ih => simp only [walkBundle, h, ih]

/-- An operation that leaves PRT.CTL and the bundling alone keeps a port's width. -/
theorem Ev.portWidth {F : Nat} (h : Ev F s t) (sd : Side) (hctl : F.testBit (Part.reg sd Reg.prtCtl).idx = false)
    (hb : F.testBit (Part.unit .endpoint .bundle).idx = false) (p : Nat) : portWidth sd p t = portWidth sd p s := by
  cases sd with
  | module => exact h.rd .module Fld.prtCtlWidth hctl p
  | endpoint =>
    have hbundle : t.endpoint.bundle = s.endpoint.bundle := h.part (.unit .endpoint .bundle) hb
    have hwalk := walkBundle_congr fun k => h.rd .endpoint Fld.prtCtlWidth hctl k
    unfold Machine.portWidth planeBundle
    simp only [hbundle, hwalk]

/-- The grants depend on PRT.CTL's width, the partitions and the far end alone. -/
theorem Ev.myGrants {F : Nat} (h : Ev F s t) (hfar : F.testBit (Part.reg .module Reg.lnkFarId).idx = false)
    (hpart : F.testBit (Part.reg .module Reg.rtePart).idx = false) (sd : Side) (p w : Nat) : myGrants sd p w t = myGrants sd p w s := by
  have hface : facesModule .module p t = facesModule .module p s := by
    unfold facesModule farId
    rw [h.rd .module Fld.lnkFarIdEid hfar]
  have hgrant : ∀ k, moduleGrant p w k t = moduleGrant p w k s := fun k => by
    unfold moduleGrant
    rw [hface, h.rd .module Fld.rtePartIngressGrant hpart]
  unfold Machine.myGrants
  simp only [hgrant]

/-! ### The flits of a port that forms -/

/-- A new flit moves the rotation and what has been reported, takes the next SEQ and waits in the retry buffer (R119, R123). -/
theorem port_sendSequenced (type : BitVec 8) (slots : List Byte) : ∃ lane reported,
    (sendSequenced sd p type slots s).port sd p = { s.port sd p with
      nextLane := lane, reported := reported, txSeq := (s.port sd p).txSeq + 1
      retry := (s.port sd p).retry ++ [{ type := type, seq := (s.port sd p).txSeq, slots := padSlots slots }] } := by
  unfold sendSequenced sendFlit
  dsimp only
  rw [port_onPort_same, port_onPort_same, port_emit]
  exact ⟨_, _, rfl⟩

theorem port_resyncGroup (seq : BitVec 12) : (resyncGroup sd p seq s).port sd p = { s.port sd p with nextLane := 0 } := by
  unfold resyncGroup
  extract_lets mask s1
  have h1 : s1.port sd p = s.port sd p := foldl_keeps (fun t => t.port sd p) (fun t n => port_emit _ p) _ s
  rw [port_onPort_same, h1]

/-- A write leaves a field of another register, and one that lies apart in its word. -/
theorem rd_wr_off {f g : Field} {v : Nat}
    (h : g.reg ≠ f.reg ∨ (g.reg = f.reg ∧ g.word = f.word ∧ (g.hi < f.lo ∨ f.hi < g.lo))) :
    (s.wr sd f p v).rd sd g p = s.rd sd g p := by
  rcases h with hreg | ⟨hreg, hword, hapart⟩
  · exact rd_wr_reg s sd sd f g p p v hreg
  · exact rd_wr_field s sd f g p v hreg hword hapart

section

variable (lanes : List Nat) (v : BitVec 64)

theorem formPort_registers : portSt sd p (formPort sd p lanes v s) = 1
    ∧ activeMask sd p (formPort sd p lanes v s) = (lanes.map fun n => 2 ^ (n - p)).sum % 256
    ∧ (formPort sd p lanes v s).rd sd Fld.prtVersionNegMajor p = min 2 (v.toNat / 16 % 16)
    ∧ (formPort sd p lanes v s).rd sd Fld.prtStatusVerMismatch p = s.rd sd Fld.prtStatusVerMismatch p := by
  unfold formPort
  extract_lets w g mask b s1 s2 s3 s4 s5
  have h1 : ∀ f, s1.rd sd f p = s.rd sd f p := by cases sd <;> exact fun _ => rfl
  have hsent : ∀ f : Field, f.reg = .prtStatus ∨ f.reg = .prtVersion →
      (sendCtrl sd p 1 0 (grantBytes g) (resyncGroup sd p 0 s5)).rd sd f p = s5.rd sd f p := fun f hf => by
    rw [(sendCtrl_ev sd p 1 0 _ _).rd sd f (by rcases hf with hf | hf <;> rw [hf] <;> cases sd <;> decide +kernel),
      (resyncGroup_ev sd p 0 s5).rd sd f (by rcases hf with hf | hf <;> rw [hf] <;> cases sd <;> decide +kernel)]
  refine ⟨(hsent _ (.inl rfl)).trans ?_, (hsent _ (.inl rfl)).trans ?_, (hsent _ (.inr rfl)).trans ?_,
    (hsent _ (.inl rfl)).trans ?_⟩
  · unfold s5 s4 s3 s2 State.wrb
    rw [rd_wr_off (by decide), rd_onPort, rd_wr_off (by decide), rd_wr_off (by decide), rd_wr_off (by decide), rd_wr_off (by decide)]
    exact rd_wr_lit _ _ _ _ _ (by decide) (by decide) (by decide)
  · unfold s5 s4 s3 s2 State.wrb
    rw [rd_wr_off (by decide), rd_onPort, rd_wr_off (by decide), rd_wr_off (by decide), rd_wr_off (by decide)]
    exact rd_wr_same _ _ _ _ _ (by decide) (by decide)
  · unfold s5 s4 s3 s2 State.wrb
    rw [rd_wr_off (by decide), rd_onPort, rd_wr_off (by decide)]
    exact rd_wr_lit _ _ _ _ _ (by decide) (by decide) ((min_le_left 2 _).trans_lt (by decide))
  · unfold s5 s4 s3 s2 State.wrb
    rw [rd_wr_off (by decide), rd_onPort, rd_wr_off (by decide), rd_wr_off (by decide), rd_wr_off (by decide), rd_wr_off (by decide),
      rd_wr_off (by decide), h1]

/-- The first flit of a port that forms carries SEQ 0, and nothing is held from before (R119, R126). -/
theorem formPort_port : ((formPort sd p lanes v s).port sd p).txSeq = 1 ∧ ((formPort sd p lanes v s).port sd p).rxAck = 0xFFF
    ∧ ((formPort sd p lanes v s).port sd p).grant = myGrants sd p (portWidth sd p s) s
    ∧ ((formPort sd p lanes v s).port sd p).retry.map (·.seq) = [0] := by
  unfold formPort
  extract_lets w g mask b s1 s2 s3 s4 s5
  have h5 : s5.port sd p = freshPort (s3.port sd p) w g (myReserves sd p w s) v := by
    rw [show s5.port sd p = s4.port sd p from port_wr .., port_onPort_same]
  obtain ⟨lane, reported, hsent⟩ := port_sendSequenced (sd := sd) (p := p) (s := resyncGroup sd p 0 s5) 0x20
    ([BitVec.ofNat 8 1, BitVec.ofNat 8 0] ++ zeros 14 ++ grantBytes g)
  unfold sendCtrl
  rw [hsent, port_resyncGroup, h5]
  exact ⟨rfl, rfl, rfl, rfl⟩

end

/-! ### The command -/

section

variable {n : Nat} {l : List Nat} (hst : portSt sd p s = 0) (hw : portWidth sd p s ≠ 0) (hready : readyLanes sd p s = n :: l)

include hst hw hready

theorem portForm_forms (hver : ∀ k ∈ l, (s.lane sd k).farVersion = (s.lane sd n).farVersion)
    (hmajor : majorOk (s.lane sd n).farVersion = true) (hmin : max 1 (s.rd sd Fld.prtCtlMinWidth p) ≤ l.length + 1)
    (hfits : formFits sd p s = true) : Answers (.portForm sd p) s fun t =>
      portSt sd p t = 1 ∧ activeMask sd p t = ((n :: l).map fun k => 2 ^ (k - p)).sum % 256
        ∧ t.rd sd Fld.prtVersionNegMajor p = min 2 ((s.lane sd n).farVersion.toNat / 16 % 16)
        ∧ t.rd sd Fld.prtStatusVerMismatch p = 0
        ∧ (t.port sd p).txSeq = 1 ∧ (t.port sd p).rxAck = 0xFFF ∧ (t.port sd p).grant = myGrants sd p (portWidth sd p s) s
        ∧ (t.port sd p).retry.map (·.seq) = [0] := by
  have hsame : (n :: l).filter (fun k => decide ((s.lane sd k).farVersion = (s.lane sd n).farVersion)) = n :: l :=
    List.filter_eq_self.mpr (by simpa using hver)
  have hnext : exec (.portForm sd p) s
      = .next (formPort sd p (n :: l) (s.lane sd n).farVersion (s.wrb sd Fld.prtStatusVerMismatch p false)) := by
    change execPortForm sd p s = _
    unfold execPortForm
    rw [if_neg (by simp [hst, hw]), hready]
    dsimp only
    rw [hsame, hmajor, if_neg (by decide), if_neg (by rw [List.length_cons]; omega), hfits, if_neg (by decide), List.length_cons,
      decide_eq_false (not_not.mpr rfl)]
  have hwrite := wrb_ev sd Fld.prtStatusVerMismatch p false s (by decide)
  obtain ⟨hstate, hmask, hneg, hmis⟩ := formPort_registers (sd := sd) (p := p) (s := s.wrb sd Fld.prtStatusVerMismatch p false)
    (n :: l) (s.lane sd n).farVersion
  obtain ⟨htx, hrx, hgrant, hretry⟩ := formPort_port (sd := sd) (p := p) (s := s.wrb sd Fld.prtStatusVerMismatch p false)
    (n :: l) (s.lane sd n).farVersion
  refine ⟨_, hnext, hstate, hmask, hneg, hmis.trans (rd_wrb_lit sd s _ p false (by decide) (by decide)), htx, hrx,
    hgrant.trans ?_, hretry⟩
  rw [hwrite.portWidth sd (by cases sd <;> decide +kernel) (by cases sd <;> decide +kernel),
    hwrite.myGrants (by cases sd <;> decide +kernel) (by cases sd <;> decide +kernel)]

theorem portForm_refuses_version (hmajor : majorOk (s.lane sd n).farVersion = false) :
    Answers (.portForm sd p) s fun t => portSt sd p t = 0 ∧ t.rdb sd Fld.prtStatusVerFail p = true := by
  refine ⟨s.wrb sd Fld.prtStatusVerFail p true, ?_, ?_, ?_⟩
  · change execPortForm sd p s = _
    unfold execPortForm
    rw [if_neg (by simp [hst, hw]), hready]
    dsimp only
    rw [hmajor, if_pos (by decide)]
  · exact (rd_wr_off (by decide)).trans hst
  · rw [rdb_def, rd_wrb_lit sd s _ p true (by decide) (by decide)]
    rfl

end

theorem portForm_unchanged (h : portSt sd p s ≠ 0 ∨ portWidth sd p s = 0 ∨ readyLanes sd p s = []) :
    Answers (.portForm sd p) s fun t => t = s := by
  refine ⟨s, ?_, rfl⟩
  change execPortForm sd p s = _
  unfold execPortForm
  split
  · rfl
  · next hgate =>
    have hready : readyLanes sd p s = [] := by
      rcases h with hst | hw | hready
      · exact absurd (.inl hst) hgate
      · exact absurd (.inr hw) hgate
      · exact hready
    rw [hready]

/-! ## A port that comes up (R132) -/

/-- The barriers and the RECOVER_START that wait for a port are queued and start on none. -/
theorem linkKept_portComesUp : LinkKept sd p (maybeUp sd p s) (portComesUp sd p s) := by
  unfold portComesUp
  extract_lets s1
  cases sd with
  | module => exact .refl s1
  | endpoint =>
    refine .ite (LinkKept.trans (.foldl ?_ _ s1) (linkKept_runBarriers .endpoint)) (.refl s1)
    intro t r
    exact linkKept_sendRecoverStart r.leaf

theorem link_portComesUp : ((portComesUp sd p s).port sd p).link = (s.port sd p).link := by
  have hup : (maybeUp sd p s).port sd p = s.port sd p := by
    unfold maybeUp
    split
    · exact port_settleState
    · rfl
  cases sd with
  | module => exact congrArg PortState.link hup
  | endpoint => exact (linkKept_portComesUp.link (.inl rfl)).trans (congrArg PortState.link hup)

theorem portSt_settleState :
    portSt sd p (settleState sd p s) = if popcount 8 (activeMask sd p s) < portWidth sd p s then 3 else 2 :=
  rd_wr_lit sd s Fld.prtStatusState p _ (by decide) (by decide) (by split <;> decide)

theorem portSt_portComesUp (hst : portSt sd p s = 1) (hinit : (s.port sd p).initReceived = true) :
    portSt sd p (portComesUp sd p s)
      = if (s.port sd p).initAcked then if popcount 8 (activeMask sd p s) < portWidth sd p s then 3 else 2 else 1 := by
  rw [linkKept_portComesUp.st]
  unfold maybeUp
  cases hacked : (s.port sd p).initAcked with
  | true => rw [if_pos ⟨hst, hinit, rfl⟩, portSt_settleState, if_pos rfl]
  | false => rw [if_neg (by simp), if_neg (by simp), hst]

/-- A port with the grants of the far end's CREDIT_INIT. -/
def takeGrants (grants : List Nat) (ps : PortState) : PortState :=
  let g := (List.range 11).map fun k => grants.getD k 0 % 4096
  { ps with farGrant := g, credits := g, initReceived := true }

section

variable {grants : List Nat}

theorem creditInit_takes_grants (hst : portSt sd p s = 1) (hinit : (s.port sd p).initReceived = false) :
    Answers (.creditInit sd p grants) s fun t =>
      (t.port sd p).initReceived = true ∧ (∀ k, k < 11 → (t.port sd p).credits.getD k 0 = grants.getD k 0 % 4096)
        ∧ portSt sd p t = (if (s.port sd p).initAcked then
            if popcount 8 (activeMask sd p s) < portWidth sd p s then 3 else 2 else 1) := by
  have hport : (s.onPort sd p (takeGrants grants)).port sd p = takeGrants grants (s.port sd p) := port_onPort_same ..
  have hlink := link_portComesUp (sd := sd) (p := p) (s := s.onPort sd p (takeGrants grants))
  have hev := onPort_ev sd p (takeGrants grants) s
  rw [hport] at hlink
  refine ⟨_, congrArg Host.Outcome.next (if_pos ⟨hst, hinit⟩), congrArg PortState.initReceived hlink, fun k hk => ?_, ?_⟩
  · refine (congrArg (fun c => c.getD k 0) (congrArg PortState.credits hlink)).trans ?_
    simp [takeGrants, PortState.link, hk]
  · have hst' : portSt sd p (s.onPort sd p (takeGrants grants)) = 1 := (hev.portSt sd (by cases sd <;> decide +kernel) p).trans hst
    refine (portSt_portComesUp hst' (congrArg PortState.initReceived hport)).trans ?_
    rw [hport, activeMask_onPort, hev.portWidth sd (by cases sd <;> decide +kernel) (by cases sd <;> decide +kernel)]
    rfl

theorem creditInit_unchanged (h : portSt sd p s ≠ 1 ∨ (s.port sd p).initReceived = true) :
    Answers (.creditInit sd p grants) s fun t => t = s :=
  ⟨_, congrArg Host.Outcome.next (if_neg (by
    rintro ⟨hst, hinit⟩
    rcases h with h | h
    · exact h hst
    · simp [h] at hinit)), rfl⟩

end

end Sys2Proof.Machine

section

open Sys2Proof Sys2Proof.Machine

/-- Settles O13, one lemma for each command and each way it answers. -/
theorem portsFormAndGoDown : Obligations.PortsFormAndGoDown := fun _ _ _ _ =>
  ⟨fun _ _ => portForm_forms, fun _ _ => portForm_refuses_version, portForm_unchanged, fun _ => creditInit_takes_grants,
    fun _ => creditInit_unchanged, peerPortDown_takes_down, peerPortDown_unchanged, portDownCmd_takes_down, portDownCmd_unchanged,
    portDownCmd_discarded⟩

end

/-! ## What leaves the module: recording an event takes nothing back -/

namespace Sys2Proof.Machine

variable {sd : Side} {p pool : Nat} {s : State}

@[simp] theorem out_setWord (r : Reg) (i w : Nat) (v : Word) : (s.setWord .module r i w v).module.out = s.module.out := rfl

@[simp] theorem out_wr (f : Field) (i v : Nat) : (s.wr .module f i v).module.out = s.module.out := rfl

@[simp] theorem out_wrb (f : Field) (i : Nat) (b : Bool) : (s.wrb .module f i b).module.out = s.module.out := rfl

@[simp] theorem out_onM (f : ModuleState → ModuleState) : (s.onM f).module.out = s.module.out := rfl

@[simp] theorem out_bumpQuiet (r : Reg) (i n : Nat) : (bumpQuiet .module r i n s).module.out = s.module.out := rfl

@[simp] theorem out_noteEvent (e : Event) : (noteEvent .module e s).module.out = s.module.out := rfl

@[simp] theorem out_writeEntry (r : Reg) (i : Nat) (e : Event) (block q : Nat) :
    (writeEntry .module r i e block q s).module.out = s.module.out := by simp [writeEntry]

theorem length_out_sendVector (v : Nat) : s.module.out.length ≤ (sendVector v s).module.out.length := by
  unfold sendVector
  split
  · exact le_rfl
  · change s.module.out.length ≤ (s.module.out ++ [Out.msix v]).length
    rw [List.length_append]
    exact Nat.le_add_right ..

theorem length_out_messageSource (src : Nat) : s.module.out.length ≤ (messageSource src s).module.out.length := by
  unfold messageSource
  split
  · split
    · exact length_out_sendVector (s := s) _
    · exact le_rfl
  · exact le_rfl

theorem length_out_raiseSource (src : Nat) : s.module.out.length ≤ (raiseSource src s).module.out.length := by
  unfold raiseSource
  extract_lets w
  split
  · exact le_rfl
  · exact length_out_messageSource (s := s.setWord .module .pciIntStatus (src / 64) 0 _) src

theorem out_logEntry (full : Bool) (i v : Nat) (e : Event) (block q : Nat) :
    (noteEvent .module e ((writeEntry .module .fltLog i e block q
      (if full then bumpQuiet .module .fltLostCnt 0 1 s else s)).wr .module Fld.fltLogStatusWriteSeq 0 v)).module.out
      = s.module.out := by
  rw [out_noteEvent, out_wr, out_writeEntry]
  split
  · exact out_bumpQuiet ..
  · rfl

theorem length_out_ite {c : Prop} [Decidable c] {n : Nat} {t u : State} (ht : n ≤ t.module.out.length) (hu : n ≤ u.module.out.length) :
    n ≤ (if c then t else u).module.out.length := by
  split
  · exact ht
  · exact hu

theorem length_out_logModule (e : Event) : s.module.out.length ≤ (logModule e s).module.out.length := by
  unfold logModule
  dsimp only
  refine length_out_ite ?_ (length_out_ite ?_ (length_out_ite ?_ ?_))
  · rw [out_bumpQuiet]
  · rw [out_bumpQuiet]
  · refine le_of_eq_of_le ?_ (length_out_raiseSource 72)
    rw [out_logEntry]
  · rw [out_logEntry]

theorem length_out_rattleCount (i : Nat) : s.module.out.length ≤ (rattleCount i s).module.out.length := by
  unfold rattleCount
  extract_lets spent s1 s2 due
  have h2 : s2.module.out = s.module.out := by
    unfold s2 s1 saturate
    split
    · rw [out_wrb, out_wr, out_onM]
    · rw [out_wr, out_onM]
  rw [← h2]
  split
  · refine le_of_eq_of_le ?_ (length_out_logModule _)
    rw [out_onM]
  · exact le_rfl

theorem length_out_rattleFirst (l : List Nat) : s.module.out.length ≤ (rattleFirst l s).2.module.out.length := by
  induction l generalizing s with
  | nil => exact le_rfl
  | cons i l ih =>
    have hdraw : (rattleDraws i s).2.module.out = s.module.out := out_onM _
    unfold rattleFirst
    split
    · next s1 h =>
      rw [h] at hdraw
      rw [← hdraw]
      exact length_out_rattleCount i
    · next s1 h =>
      rw [h] at hdraw
      rw [← hdraw]
      exact ih

theorem length_out_rattleAct {kind targetType target : Nat} {tc : Option Nat} {r : Option Nat} {t : State}
    (h : rattleAct kind targetType target tc s = (r, t)) : s.module.out.length ≤ t.module.out.length := by
  have hfirst := length_out_rattleFirst (s := s) (rattleRules kind targetType target tc s)
  rwa [show rattleFirst _ s = (r, t) from h] at hfirst

/-! ## A packet that starts (R118, R123, R125) -/

theorem out_sendSequenced (type : BitVec 8) (slots : List Byte) :
    ∃ o, ((sendSequenced sd p type slots s).unit sd).out = (s.unit sd).out ++ [o] := by
  unfold sendSequenced sendFlit State.onPort State.emit
  dsimp only
  rw [unit_onUnit_same, unit_onUnit_same, unit_onUnit_same]
  exact ⟨_, rfl⟩

/-- What has left the module with a bit of the last flit flipped (R545 kind 1). -/
def flipLast (out : List Out) : List Out :=
  match out.reverse with
  | .flit q n f :: rest => (Out.flit q n { f with slots := f.slots.set 0 (f.slots.getD 0 0 ^^^ 1) } :: rest).reverse
  | _ => out

theorem length_flipLast (out : List Out) : (flipLast out).length = out.length := by
  unfold flipLast
  split
  · next h =>
    have hlen := congrArg List.length h
    simpa using hlen.symm
  · rfl

/-- A flit leaves, whether or not the fault injector flips a bit of it. -/
theorem length_out_sendData (type : Nat) (slots : List Byte) :
    (s.unit sd).out.length < ((sendData sd p type slots s).unit sd).out.length := by
  obtain ⟨o, ho⟩ := out_sendSequenced (sd := sd) (p := p) (s := s) (BitVec.ofNat 8 type) slots
  unfold sendData
  extract_lets s1
  have h1 : (s.unit sd).out.length < (s1.unit sd).out.length := by
    rw [ho, List.length_append]
    exact Nat.lt_succ_self _
  cases sd with
  | endpoint => exact h1
  | module =>
    dsimp only
    split
    · next s2 h => exact h1.trans_le (length_out_rattleAct h)
    · next s2 h =>
      have hsame : (flipLast s2.module.out).length = s2.module.out.length := length_flipLast _
      rw [unit_onUnit_same]
      exact h1.trans_le ((length_out_rattleAct h).trans hsame.ge)

/-- A fold each of whose steps makes a number grow makes it grow, unless it has no step. -/
theorem foldl_grows {α : Type} {g : State → Nat} {f : State → α → State} (hf : ∀ t a, g t < g (f t a)) {l : List α} (hl : l ≠ [])
    (t : State) : g t < g (l.foldl f t) := by
  induction l generalizing t with
  | nil => exact absurd rfl hl
  | cons a l ih =>
    cases l with
    | nil => exact hf t a
    | cons b l => exact (hf t a).trans (ih (List.cons_ne_nil b l) (f t a))

theorem packetBytes_ne_nil (pkt : Packet) : packetBytes pkt ≠ [] := by
  have hlen : (headerBytes pkt).length = 32 := by simp [headerBytes, length_leBytes]
  intro h
  have hnil : headerBytes pkt = [] := (List.append_eq_nil_iff.mp h).1
  simp [hnil] at hlen

theorem dataFlits_ne_nil {fuel : Nat} {bytes : List Byte} (h : bytes ≠ []) : dataFlits (fuel + 1) bytes ≠ [] := by
  unfold dataFlits
  rw [if_neg (by simpa using h)]
  split
  · exact List.cons_ne_nil _ _
  · exact List.cons_ne_nil _ _

theorem length_out_startPacket (pkt : Packet) : (s.unit sd).out.length < ((startPacket sd p pkt s).unit sd).out.length := by
  unfold startPacket
  extract_lets q k s1
  have h1 : (s1.unit sd).out = (s.unit sd).out := by
    unfold s1 State.onPort
    rw [unit_onUnit_same]
  rw [← h1]
  exact foldl_grows (g := fun t => (t.unit sd).out.length) (f := fun t (f : Nat × List Byte) => sendData sd p f.1 f.2 t)
    (fun t f => length_out_sendData f.1 f.2) (dataFlits_ne_nil (packetBytes_ne_nil q)) s1

/-- The packet's flits leave the queues and the credits as they were; the credits are spent at its start. -/
theorem port_startPacket (pkt : Packet) : ((startPacket sd p pkt s).port sd p).egress = (s.port sd p).egress
    ∧ ((startPacket sd p pkt s).port sd p).credits = (s.port sd p).credits.set (poolOf pkt.opcode)
        ((s.port sd p).credits.getD (poolOf pkt.opcode) 0 - packetSlots (adaptPacket sd p pkt s)) := by
  have hflit : ∀ (t : State) (f : Nat × List Byte), ((sendData sd p f.1 f.2 t).port sd p).egress = (t.port sd p).egress
      ∧ ((sendData sd p f.1 f.2 t).port sd p).credits = (t.port sd p).credits := fun t f => by
    obtain ⟨lane, reported, hseq⟩ := port_sendSequenced (sd := sd) (p := p) (s := t) (BitVec.ofNat 8 f.1) f.2
    rw [port_sendData, hseq]
    exact ⟨rfl, rfl⟩
  unfold startPacket
  extract_lets q k s1
  have h1 : s1.port sd p = { s.port sd p with
      credits := (s.port sd p).credits.set k ((s.port sd p).credits.getD k 0 - packetSlots q) } :=
    port_onPort_same ..
  have hegress := foldl_keeps (f := fun t (f : Nat × List Byte) => sendData sd p f.1 f.2 t) (fun t => (t.port sd p).egress)
    (fun t f => (hflit t f).1) (dataFlits 300 (packetBytes q)) s1
  have hcredits := foldl_keeps (f := fun t (f : Nat × List Byte) => sendData sd p f.1 f.2 t) (fun t => (t.port sd p).credits)
    (fun t f => (hflit t f).2) (dataFlits 300 (packetBytes q)) s1
  exact ⟨hegress.trans (by rw [h1]), hcredits.trans (by rw [h1])⟩

theorem getD_set_self (l : List Nat) (k n : Nat) : (l.set k (l.getD k 0 - n)).getD k 0 = l.getD k 0 - n := by
  by_cases hk : k < l.length <;> simp [hk]

/-! ## The command (R175) -/

/-- A port whose queue of a pool has been replaced. -/
def setQueue (pool : Nat) (q : List EgressEntry) (ps : PortState) : PortState := { ps with egress := smapSet ps.egress pool q }

/-- The features in force, and so the packet's form on the line, do not depend on what is queued. -/
theorem adaptPacket_setQueue (q : List EgressEntry) (pkt : Packet) :
    adaptPacket sd p pkt (s.onPort sd p (setQueue pool q)) = adaptPacket sd p pkt s := by
  have hforce : ∀ bit, inForce sd p bit (s.onPort sd p (setQueue pool q)) = inForce sd p bit s := fun bit => by
    simp [inForce, offered, State.rdb, setQueue]
  unfold adaptPacket
  simp only [hforce]

section

variable {e : EgressEntry}

theorem packetTransmit_starts (hnext : nextEntry (smapGet (s.port sd p).egress [] pool) = some e)
    (hstart : mayStart sd p e.pkt s = true) (hbubble : e.entering = false ∨ bubbleCredits pool ≤ (s.port sd p).credits.getD pool 0)
    (hcopies : sd = .module → residueBefore p pool e.order s = false) : Answers (.packetTransmit sd p pool) s fun t =>
      smapGet (t.port sd p).egress [] pool = (smapGet (s.port sd p).egress [] pool).erase e
        ∧ (t.port sd p).credits.getD (poolOf e.pkt.opcode) 0
          = (s.port sd p).credits.getD (poolOf e.pkt.opcode) 0 - packetSlots (adaptPacket sd p e.pkt s)
        ∧ (s.unit sd).out.length < (t.unit sd).out.length := by
  have hexec : exec (.packetTransmit sd p pool) s
      = .next (startPacket sd p e.pkt (s.onPort sd p (setQueue pool ((smapGet (s.port sd p).egress [] pool).erase e)))) := by
    change execPacketTransmit sd p pool s = _
    unfold execPacketTransmit
    dsimp only
    rw [hnext]
    dsimp only
    rw [if_pos]
    · rfl
    · have hring : (!e.entering || decide (bubbleCredits pool ≤ (s.port sd p).credits.getD pool 0)) = true := by simpa using hbubble
      rw [hstart, hring]
      cases sd with
      | module => simp [hcopies rfl]
      | endpoint => rfl
  obtain ⟨hegress, hcredits⟩ := port_startPacket (sd := sd) (p := p)
    (s := s.onPort sd p (setQueue pool ((smapGet (s.port sd p).egress [] pool).erase e))) e.pkt
  rw [port_onPort_same] at hegress hcredits
  refine ⟨_, hexec, ?_, ?_, ?_⟩
  · rw [hegress]
    exact smapGet_set_same ..
  · rw [hcredits, getD_set_self, adaptPacket_setQueue]
    rfl
  · refine lt_of_eq_of_lt ?_ (length_out_startPacket e.pkt)
    unfold State.onPort
    rw [unit_onUnit_same]

theorem packetTransmit_waits (hnext : nextEntry (smapGet (s.port sd p).egress [] pool) = some e)
    (hstart : mayStart sd p e.pkt s = false) : Answers (.packetTransmit sd p pool) s fun t => t = s := by
  refine ⟨s, ?_, rfl⟩
  change execPacketTransmit sd p pool s = _
  simp [execPacketTransmit, hnext, hstart]

end

theorem packetTransmit_unchanged (hnext : nextEntry (smapGet (s.port sd p).egress [] pool) = none) :
    Answers (.packetTransmit sd p pool) s fun t => t = s := by
  refine ⟨s, ?_, rfl⟩
  change execPacketTransmit sd p pool s = _
  simp [execPacketTransmit, hnext]

end Sys2Proof.Machine

section

open Sys2Proof Sys2Proof.Machine

/-- Settles O15, one lemma for each way the command answers. -/
theorem packetsStartWithCredit : Obligations.PacketsStartWithCredit := fun _ _ _ _ _ =>
  ⟨packetTransmit_starts, packetTransmit_waits, packetTransmit_unchanged⟩

end

/-! ## The NoC planes: training, NOC.CTL and NOC.STATUS (R151, R152) -/

namespace Sys2Proof.Machine

variable {s t : State}

/-! ### The planes' bits -/

/-- A bit read after it was written. -/
theorem rdb_wrb_same (sd : Side) (f : Field) (i : Nat) (b : Bool) (h : f.lo ≤ f.hi) (h64 : f.hi < 64) :
    (s.wrb sd f i b).rdb sd f i = b := by
  rw [rdb_def, rd_wrb_lit sd s f i b h h64]
  cases b <;> rfl

/-- A bit read after a write of another bit: one of another register, or of the same word and apart. -/
theorem rdb_wrb_off {sd : Side} {f g : Field} {i : Nat} (b : Bool)
    (h : g.reg ≠ f.reg ∨ (g.reg = f.reg ∧ g.word = f.word ∧ (g.hi < f.lo ∨ f.hi < g.lo))) :
    (s.wrb sd f i b).rdb sd g i = s.rdb sd g i := by
  rw [rdb_def, rdb_def]
  exact congrArg (fun n => decide (n ≠ 0)) (rd_wr_off h)

/-- NOC.STATUS with the OK bits of both planes written. -/
def setPlanesOk (ok0 ok1 : Bool) (s : State) : State :=
  (s.wrb .module Fld.nocStatusPlane0Ok 0 ok0).wrb .module Fld.nocStatusPlane1Ok 0 ok1

/-- NOC.CTL with the DIS bits of both planes written. -/
def setPlanesDis (dis0 dis1 : Bool) (s : State) : State :=
  (s.wrb .module Fld.nocCtlPlane0Dis 0 dis0).wrb .module Fld.nocCtlPlane1Dis 0 dis1

theorem setPlanesOk_ev (ok0 ok1 : Bool) (s : State) : Ev (Part.reg .module .nocStatus).bit s (setPlanesOk ok0 ok1 s) :=
  (wrb_ev .module Fld.nocStatusPlane1Ok 0 ok1 _ rfl).seq (Sub.refl _) (wrb_ev .module Fld.nocStatusPlane0Ok 0 ok0 s rfl)

theorem setPlanesDis_ev (dis0 dis1 : Bool) (s : State) : Ev (Part.reg .module .nocCtl).bit s (setPlanesDis dis0 dis1 s) :=
  (wrb_ev .module Fld.nocCtlPlane1Dis 0 dis1 _ rfl).seq (Sub.refl _) (wrb_ev .module Fld.nocCtlPlane0Dis 0 dis0 s rfl)

theorem rdb_setPlanesOk (ok0 ok1 : Bool) : (setPlanesOk ok0 ok1 s).rdb .module Fld.nocStatusPlane0Ok = ok0
    ∧ (setPlanesOk ok0 ok1 s).rdb .module Fld.nocStatusPlane1Ok = ok1 := by
  unfold setPlanesOk
  refine ⟨?_, rdb_wrb_same _ _ _ _ (by decide) (by decide)⟩
  rw [rdb_wrb_off ok1 (by decide), rdb_wrb_same _ _ _ _ (by decide) (by decide)]

theorem rdb_setPlanesDis (dis0 dis1 : Bool) : (setPlanesDis dis0 dis1 s).rdb .module Fld.nocCtlPlane0Dis = dis0
    ∧ (setPlanesDis dis0 dis1 s).rdb .module Fld.nocCtlPlane1Dis = dis1 := by
  unfold setPlanesDis
  refine ⟨?_, rdb_wrb_same _ _ _ _ (by decide) (by decide)⟩
  rw [rdb_wrb_off dis1 (by decide), rdb_wrb_same _ _ _ _ (by decide) (by decide)]

theorem withBits_shiftRight (w : Word) {hi lo k : Nat} (h : hi < k) (v : Nat) : withBits w hi lo v >>> k = w >>> k := by
  apply BitVec.eq_of_getLsbD_eq
  intro i _
  rw [BitVec.getLsbD_ushiftRight, BitVec.getLsbD_ushiftRight, withBits_getLsbD, if_neg (by omega)]

/-- The bits of NOC.CTL above its two fields. -/
theorem nocCtl_rest_setPlanesDis (dis0 dis1 : Bool) :
    (setPlanesDis dis0 dis1 s).word .module .nocCtl 0 0 >>> 2 = s.word .module .nocCtl 0 0 >>> 2 := by
  have hbit : ∀ (u : State) (hi lo v : Nat), hi < 2 →
      (u.setWord .module .nocCtl 0 0 (withBits (u.word .module .nocCtl 0 0) hi lo v)).word .module .nocCtl 0 0 >>> 2
        = u.word .module .nocCtl 0 0 >>> 2 := fun u hi lo v h => by
    rw [word_setWord_same, withBits_shiftRight _ h]
  exact (hbit _ 1 1 _ (by decide)).trans (hbit s 0 0 _ (by decide))

/-! ### A write of NOC.CTL -/

/-- A plane is neither disabled by a bit nor out by a fault once step 6 is reached. -/
def planeServes (plane : Nat) (dis : Bool) (s : State) : Bool :=
  decide (6 ≤ s.rd .module Fld.glbBringupStatusStep) && !(dis || s.m.sw.nocFault.contains plane)

/-- A write of the DIS bits would leave no plane in service. -/
def leavesNoPlane (dis0 dis1 : Bool) (s : State) : Bool :=
  (dis0 || s.m.sw.nocFault.contains 0) && (dis1 || s.m.sw.nocFault.contains 1)

theorem settleNoc_eq : settleNoc s = setPlanesOk (planeServes 0 (s.rdb .module Fld.nocCtlPlane0Dis) s)
    (planeServes 1 (s.rdb .module Fld.nocCtlPlane1Dis) s) s := by
  unfold settleNoc setPlanesOk planeServes
  simp only [Bool.not_or, Bool.and_assoc]

variable {value : Nat} {dis0 dis1 : Bool}

theorem writeNocCtl_of_none_left (h : leavesNoPlane dis0 dis1 s = true) :
    writeNocCtl value dis0 dis1 s = regAccess .module (regOffset .module .nocCtl 0 0) value s := if_pos h

theorem writeNocCtl_of_one_left (h : leavesNoPlane dis0 dis1 s = false) :
    writeNocCtl value dis0 dis1 s = setPlanesOk (planeServes 0 dis0 s) (planeServes 1 dis1 s) (setPlanesDis dis0 dis1 s) := by
  have hev := setPlanesDis_ev dis0 dis1 s
  obtain ⟨h0, h1⟩ := rdb_setPlanesDis (s := s) dis0 dis1
  have hserves : ∀ plane dis, planeServes plane dis (setPlanesDis dis0 dis1 s) = planeServes plane dis s := fun plane dis => by
    unfold planeServes
    rw [hev.rd .module Fld.glbBringupStatusStep rfl]
    rfl
  calc writeNocCtl value dis0 dis1 s = settleNoc (setPlanesDis dis0 dis1 s) := if_neg (by simpa [leavesNoPlane] using h)
    _ = _ := by rw [settleNoc_eq, h0, h1, hserves, hserves]

/-- What a write of NOC.CTL gives that leaves a plane: the DIS bits as written, the bits above them, and each plane's OK. -/
theorem nocPlanes_writeNocCtl (h : leavesNoPlane dis0 dis1 s = false) : let t := writeNocCtl value dis0 dis1 s
    (t.rdb .module Fld.nocCtlPlane0Dis = dis0 ∧ t.rdb .module Fld.nocCtlPlane1Dis = dis1)
      ∧ t.word .module .nocCtl 0 0 >>> 2 = s.word .module .nocCtl 0 0 >>> 2
      ∧ t.rdb .module Fld.nocStatusPlane0Ok = planeServes 0 dis0 s ∧ t.rdb .module Fld.nocStatusPlane1Ok = planeServes 1 dis1 s := by
  rw [writeNocCtl_of_one_left h]
  have hev := setPlanesOk_ev (planeServes 0 dis0 s) (planeServes 1 dis1 s) (setPlanesDis dis0 dis1 s)
  refine ⟨?_, ?_, rdb_setPlanesOk _ _⟩
  · rw [hev.rdb .module Fld.nocCtlPlane0Dis rfl, hev.rdb .module Fld.nocCtlPlane1Dis rfl]
    exact rdb_setPlanesDis dis0 dis1
  · rw [hev.word .module .nocCtl rfl]
    exact nocCtl_rest_setPlanesDis dis0 dis1

/-- An operation that may not touch the registers of the NoC block keeps its words and the planes' bits. -/
theorem Ev.nocWords {F : Nat} (h : Ev F s t) (hctl : F.testBit (Part.reg .module .nocCtl).idx = false)
    (hstatus : F.testBit (Part.reg .module .nocStatus).idx = false) :
    t.word .module .nocCtl 0 0 = s.word .module .nocCtl 0 0 ∧ t.word .module .nocStatus 0 0 = s.word .module .nocStatus 0 0 :=
  ⟨h.word .module .nocCtl hctl 0 0, h.word .module .nocStatus hstatus 0 0⟩

/-- The OK bits of both planes in NOC.STATUS. -/
def planesOk (s : State) : List Bool := [s.rdb .module Fld.nocStatusPlane0Ok, s.rdb .module Fld.nocStatusPlane1Ok]

theorem planesOk_of_word (h : t.word .module .nocStatus 0 0 = s.word .module .nocStatus 0 0) : planesOk t = planesOk s :=
  congrArg (fun w => [decide (bitsOf w 0 0 ≠ 0), decide (bitsOf w 1 1 ≠ 0)]) h

/-! ### The register writes (R9, R10, R152) -/

variable {path : Path} {v : Word}

theorem regAt_nocRegisters : regAt .module (regOffset .module .nocStatus 0 0) = some (.nocStatus, 0, 0)
    ∧ regAt .module (regOffset .module .nocCtl 0 0) = some (.nocCtl, 0, 0) := ⟨rfl, rfl⟩

/-- A register of the NoC block lies at its place and reads 0 after reset. -/
theorem readRegister_reset {a : Nat} {r : Reg} (halign : a % 8 = 0) (hreg : regAt .module a = some (r, 0, 0))
    (hr : r = .nocStatus ∨ r = .nocCtl) : readRegister .module a State.reset = 0 := by
  unfold readRegister
  rw [if_neg (by simp [halign]), hreg]
  rcases hr with rfl | rfl <;> rfl

theorem readRegister_nocRegisters_reset : readRegister .module (regOffset .module .nocStatus 0 0) State.reset = 0
    ∧ readRegister .module (regOffset .module .nocCtl 0 0) State.reset = 0 :=
  ⟨readRegister_reset rfl regAt_nocRegisters.1 (.inl rfl), readRegister_reset rfl regAt_nocRegisters.2 (.inr rfl)⟩

theorem registerWrite_nocStatus (hm : s.module.xpt.finished = []) (he : s.endpoint.xpt.finished = []) :
    exec (.registerWrite .module path (regOffset .module .nocStatus 0 0) (leBytes 8 v.toNat) false) s = .next s := by
  rw [registerWrite_word v s path .module (by decide) (by decide)]
  unfold writeRegister
  rw [regAt_nocRegisters.1]
  exact congrArg Host.Outcome.next (settleBoth_of_none_finished hm he)

theorem registerWrite_nocCtl : exec (.registerWrite .module path (regOffset .module .nocCtl 0 0) (leBytes 8 v.toNat) false) s
    = .next (settleBoth (rwl .module path (regOffset .module .nocCtl 0 0) v.toNat
        (writeNocCtl v.toNat (v.getLsbD 0) (v.getLsbD 1)) s)) := by
  rw [registerWrite_word v s path .module (by decide) (by decide)]
  unfold writeRegister
  rw [regAt_nocRegisters.2]
  rfl

section

variable (hm : s.module.xpt.finished = []) (he : s.endpoint.xpt.finished = [])

include hm he

theorem nocStatus_keeps : Answers (.registerWrite .module path (regOffset .module .nocStatus 0 0) (leBytes 8 v.toNat) false) s fun t =>
    t.word .module .nocStatus 0 0 = s.word .module .nocStatus 0 0 ∧ t.word .module .nocCtl 0 0 = s.word .module .nocCtl 0 0 :=
  ⟨s, registerWrite_nocStatus hm he, rfl, rfl⟩

theorem nocCtl_takes (hopen : rwlOpen .module path (regOffset .module .nocCtl 0 0) s = true)
    (hleft : leavesNoPlane (v.getLsbD 0) (v.getLsbD 1) s = false) :
    Answers (.registerWrite .module path (regOffset .module .nocCtl 0 0) (leBytes 8 v.toNat) false) s fun t =>
      t.rdb .module Fld.nocCtlPlane0Dis = v.getLsbD 0 ∧ t.rdb .module Fld.nocCtlPlane1Dis = v.getLsbD 1
        ∧ t.word .module .nocCtl 0 0 >>> 2 = s.word .module .nocCtl 0 0 >>> 2
        ∧ planesOk t = [planeServes 0 (v.getLsbD 0) s, planeServes 1 (v.getLsbD 1) s] := by
  refine ⟨_, registerWrite_nocCtl, ?_⟩
  rw [rwl_of_open .module s path _ _ _ hopen,
    settleBoth_of_ev (writeNocCtl_ev v.toNat (v.getLsbD 0) (v.getLsbD 1) s) rfl rfl hm he]
  obtain ⟨⟨hdis0, hdis1⟩, hrest, hok0, hok1⟩ := nocPlanes_writeNocCtl (value := v.toNat) hleft
  refine ⟨hdis0, hdis1, hrest, ?_⟩
  rw [planesOk, hok0, hok1]

theorem nocCtl_refuses (hopen : rwlOpen .module path (regOffset .module .nocCtl 0 0) s = true)
    (hnone : leavesNoPlane (v.getLsbD 0) (v.getLsbD 1) s = true) :
    Answers (.registerWrite .module path (regOffset .module .nocCtl 0 0) (leBytes 8 v.toNat) false) s fun t =>
      t = regAccess .module (regOffset .module .nocCtl 0 0) v.toNat s ∧ t.word .module .nocCtl 0 0 = s.word .module .nocCtl 0 0
        ∧ planesOk t = planesOk s := by
  have hev := regAccess_ev .module (regOffset .module .nocCtl 0 0) v.toNat s
  obtain ⟨hctl, hstatus⟩ := hev.nocWords rfl rfl
  refine ⟨_, registerWrite_nocCtl, ?_⟩
  rw [rwl_of_open .module s path _ _ _ hopen, writeNocCtl_of_none_left hnone, settleBoth_of_ev hev rfl rfl hm he]
  exact ⟨rfl, hctl, planesOk_of_word hstatus⟩

theorem nocCtl_keeps_while_held (hclosed : rwlOpen .module path (regOffset .module .nocCtl 0 0) s = false) :
    Answers (.registerWrite .module path (regOffset .module .nocCtl 0 0) (leBytes 8 v.toNat) false) s fun t =>
      t.word .module .nocCtl 0 0 = s.word .module .nocCtl 0 0 ∧ planesOk t = planesOk s := by
  have hev := rwlDiscard_ev .module (regOffset .module .nocCtl 0 0) v.toNat s
  obtain ⟨hctl, hstatus⟩ := hev.nocWords rfl rfl
  refine ⟨_, registerWrite_nocCtl, ?_⟩
  rw [rwl_of_closed .module s path _ _ _ hclosed, settleBoth_of_ev hev rfl rfl hm he]
  exact ⟨hctl, planesOk_of_word hstatus⟩

end

/-! ### NOC_TRAINING (R436 step 6) -/

/-- The fields that training writes: the planes out by a fault, and each plane's OK. -/
def trainedPlanes (ok0 ok1 : Bool) (s : State) : State :=
  setPlanesOk (ok0 && !s.rdb .module Fld.nocCtlPlane0Dis) (ok1 && !s.rdb .module Fld.nocCtlPlane1Dis)
    (s.onM fun m => { m with sw := { m.sw with nocFault := (if ok0 then [] else [0]) ++ (if ok1 then [] else [1]) } })

/-- Once the planes are settled, what is left of the step ends it, and records the section that fails. -/
theorem trainNoc_end_ev (ok0 ok1 : Bool) (image : List Byte) (s : State) :
    Ev (Fp.stepDone ||| Fp.failImage) (trainedPlanes ok0 ok1 s) (trainNoc ok0 ok1 image s) := by
  unfold trainNoc
  extract_lets s1
  have h1 : Ev (Fp.stepDone ||| Fp.failImage) (trainedPlanes ok0 ok1 s) s1 := .refl _
  split
  · exact (stepDone_ev ..).seq (Sub.orLeft _ _) h1
  · split
    · exact (stepDone_ev ..).seq (Sub.orLeft _ _) ((failImage_ev ..).seq (Sub.orRight _ _) h1)
    · exact (stepDone_ev ..).seq (Sub.orLeft _ _) ((onBring_ev ..).seq rfl h1)

/-- NOC_TRAINING whose work runs on a state with the DIS bits of `s`. -/
theorem nocTraining_of_stepWork {ok0 ok1 : Bool} {image : List Byte} {u : State}
    (hrun : stepWork 6 path (trainNoc ok0 ok1 image) s = trainNoc ok0 ok1 image u) (hstart : Ev Fp.startStep s u) :
    Answers (.nocTraining path ok0 ok1 image) s fun t =>
      planesOk t = [ok0 && !s.rdb .module Fld.nocCtlPlane0Dis, ok1 && !s.rdb .module Fld.nocCtlPlane1Dis] := by
  have hend := trainNoc_end_ev ok0 ok1 image u
  refine ⟨_, congrArg Host.Outcome.next hrun, (planesOk_of_word (hend.word .module .nocStatus rfl 0 0)).trans ?_⟩
  rw [← hstart.rdb .module Fld.nocCtlPlane0Dis rfl 0, ← hstart.rdb .module Fld.nocCtlPlane1Dis rfl 0]
  obtain ⟨h0, h1⟩ := rdb_setPlanesOk
    (s := u.onM fun m => { m with sw := { m.sw with nocFault := (if ok0 then [] else [0]) ++ (if ok1 then [] else [1]) } })
    (ok0 && !u.rdb .module Fld.nocCtlPlane0Dis) (ok1 && !u.rdb .module Fld.nocCtlPlane1Dis)
  rw [planesOk, trainedPlanes, h0, h1]

end Sys2Proof.Machine

section

open Sys2Proof Sys2Proof.Machine

/-- Settles O58, one lemma for the registers' places, for each outcome of a write and for the training's step. -/
theorem nocPlanesAreReportedAndTakenOut : Obligations.NocPlanesAreReportedAndTakenOut := by
  intro path v s quiet base a bytes opens out reached rest runs begins ok
  obtain ⟨hstatus, hctl⟩ := regAt_nocRegisters
  refine ⟨⟨hstatus, hctl, readRegister_nocRegisters_reset⟩, ?_, ?_, ?_, ?_, ?_⟩
  · rintro ⟨he, hm⟩
    exact nocStatus_keeps hm he
  · rintro ⟨he, hm⟩ hopen hleft
    exact nocCtl_takes hm he hopen hleft
  · rintro ⟨he, hm⟩ hopen hnone
    exact nocCtl_refuses hm he hopen hnone
  · rintro ⟨he, hm⟩ hclosed
    exact nocCtl_keeps_while_held hm he hclosed
  · rintro ok0 ok1 image (⟨hstep, hbusy, hout⟩ | ⟨hbusy, hopen, hmay⟩)
    · exact nocTraining_of_stepWork (stepWork_of_running path hstep hbusy hout) (Ev.refl s)
    · exact nocTraining_of_stepWork (stepWork_of_starting path hbusy hopen hmay) (startStep_ev 6 s)

end

/-! ## The multicast store and its residue queues (R165, R166) -/

namespace Sys2Proof.Machine

variable {p ix id o : Nat} {pkt : Packet} {s : State}

/-- A packet that starts leaves the copies that its port still has to make. -/
theorem residue_startPacket (sd : Side) (pkt : Packet) :
    ((startPacket sd p pkt s).port sd p).residue = (s.port sd p).residue := by
  have hflit : ∀ (t : State) (f : Nat × List Byte), ((sendData sd p f.1 f.2 t).port sd p).residue = (t.port sd p).residue :=
    fun t f => by
      obtain ⟨lane, reported, hseq⟩ := port_sendSequenced (sd := sd) (p := p) (s := t) (BitVec.ofNat 8 f.1) f.2
      rw [port_sendData, hseq]
  unfold startPacket
  extract_lets q k s1
  have h1 : (s1.port sd p).residue = (s.port sd p).residue := by rw [port_onPort_same]
  exact (foldl_keeps (fun t => (t.port sd p).residue) hflit _ s1).trans h1

theorem port_storeLeft (id q : Nat) : (storeLeft id q s).port .module p = s.port .module p := rfl

theorem out_storeLeft (id q : Nat) : (storeLeft id q s).module.out = (s.unit .module).out := rfl

theorem out_onPort (f : PortState → PortState) : ((s.onPort .module p f).unit .module).out = s.module.out := rfl

/-- After a copy has left a port, no entry of that packet waits for the port. -/
theorem storeLeft_leaves (id p : Nat) (s : State) :
    ((storeLeft id p s).m.sw.store.all fun x => decide (x.id ≠ id) || !x.left.contains p) = true := by
  unfold storeLeft
  rw [onM_m, List.all_filter, List.all_map, List.all_eq_true]
  intro x _
  by_cases hx : x.id = id <;> simp [hx]

/-- A port without the entry at a place of its residue queue. -/
def dropResidue (ix : Nat) (ps : PortState) : PortState := { ps with residue := ps.residue.eraseIdx ix }

theorem residue_dropResidue : ((s.onPort .module p (dropResidue ix)).port .module p).residue
    = (s.port .module p).residue.eraseIdx ix := by
  rw [port_onPort_same]
  rfl

theorem residueSend_starts {e : StoreEntry} (hentry : (s.port .module p).residue[ix]? = some (id, o))
    (hstored : (s.m.sw.store.find? fun e => decide (e.id = id)) = some e) (hstart : mayStart .module p e.pkt s = true)
    (hqueue : ((egressQueue p (poolOf e.pkt.opcode) s).any fun x => decide (x.order < o)) = false)
    (hbefore : residueBefore p (poolOf e.pkt.opcode) o s = false) : Answers (.residueSend p ix) s fun t =>
      (t.port .module p).residue = (s.port .module p).residue.eraseIdx ix ∧ s.module.out.length < t.module.out.length
        ∧ (t.m.sw.store.all fun x => decide (x.id ≠ id) || !x.left.contains p) = true := by
  have hexec : exec (.residueSend p ix) s = .next (storeLeft id p (startPacket .module p (sealPacket e.pkt)
      (s.onPort .module p (dropResidue ix)))) := by
    change execResidueSend p ix s = _
    simp only [execResidueSend, hentry, hstored, hstart, hqueue, hbefore]
    rfl
  refine ⟨_, hexec, ?_, ?_, storeLeft_leaves ..⟩
  · rw [port_storeLeft, residue_startPacket, residue_dropResidue]
  · have hout := length_out_startPacket (sd := .module) (p := p) (s := s.onPort .module p (dropResidue ix)) (sealPacket e.pkt)
    rwa [out_onPort, ← out_storeLeft id p] at hout

theorem residueSend_drops (hentry : (s.port .module p).residue[ix]? = some (id, o))
    (hgone : (s.m.sw.store.find? fun e => decide (e.id = id)) = none) : Answers (.residueSend p ix) s fun t =>
      (t.port .module p).residue = (s.port .module p).residue.eraseIdx ix := by
  refine ⟨s.onPort .module p (dropResidue ix), ?_, residue_dropResidue⟩
  change execResidueSend p ix s = _
  simp only [execResidueSend, hentry, hgone]
  rfl

theorem residueSend_unchanged (hend : (s.port .module p).residue.length ≤ ix) : Answers (.residueSend p ix) s fun t => t = s := by
  refine ⟨s, ?_, rfl⟩
  change execResidueSend p ix s = _
  simp [execResidueSend, List.getElem?_eq_none hend]

end Sys2Proof.Machine

/-! ## Resequencers (R169, R170) -/

namespace Sys2Proof.Machine

variable {key p : Nat} {pkt : Packet} {st : ReseqStream} {e : BitVec 24} {s : State}

theorem reseq_setReseq (l : List ReseqStream) : smapGet (setReseq key l s).m.sw.reseq [] key = l := smapGet_put_same ..

theorem runFrom_nil (n : Nat) (e : BitVec 24) : runFrom n e [] = ([], [], e) := by cases n <;> rfl

/-- What the resequencer of local delivery releases goes to the module itself. -/
theorem releaseAll_local (arrival : Nat) (pkt : Packet) : releaseAll localReseq arrival [pkt] s = toInbox .module arrival pkt s := rfl

theorem inbox_toInbox (arrival : Nat) (pkt : Packet) : (toInbox .module arrival pkt s).module.inbox
    = s.module.inbox ++ [(arrival, pkt)] := rfl

/-- An ordered packet that the module hands to a resequencer, and that waits nowhere on its way, reaches it. -/
theorem execReseqArrive_of_class (hway : (s.m.sw.toReseq.find? fun x => decide (x.1 = p) && decide (x.2.2 = pkt)) = none)
    (hleaf : s.isLeaf = true) (hclass : reseqClass pkt = true) :
    exec (.reseqArrive p pkt) s = .next (reseqArrive p p pkt s) := by
  change execReseqArrive p pkt s = _
  simp [execReseqArrive, hway, hleaf, hclass]

section

variable (hstream : (smapGet s.m.sw.reseq [] key).find? (streamMatch pkt) = some st)

include hstream

/-- The packet that an empty stream expects is released, and the next one is expected. -/
theorem reseqArrive_of_expected (hexp : st.expected = some pkt.xseq) (hheld : st.held = []) (arrival : Nat) :
    reseqArrive key arrival pkt s = releaseAll key arrival [pkt]
      (setReseq key ({ st with expected := some (pkt.xseq + 1) } ::
        (smapGet s.m.sw.reseq [] key).filter fun x => !streamMatch pkt x) s) := by
  unfold reseqArrive
  dsimp only
  rw [hstream]
  dsimp only
  rw [hexp]
  dsimp only
  rw [if_pos rfl, hheld, runFrom_nil]

/-- A packet ahead of the one expected is held, where it is not held already and there is room. -/
theorem reseqArrive_of_ahead (hexp : st.expected = some e) (hne : pkt.xseq ≠ e) (hahead : seqAhead pkt.xseq e = true)
    (hnew : (st.held.any fun x => decide (x.xseq = pkt.xseq)) = false) (hroom : reseqCount (smapGet s.m.sw.reseq [] key) < 16384)
    (arrival : Nat) : reseqArrive key arrival pkt s = setReseq key ({ st with held := st.held ++ [pkt] } ::
      (smapGet s.m.sw.reseq [] key).filter fun x => !streamMatch pkt x) s := by
  unfold reseqArrive
  dsimp only
  rw [hstream]
  dsimp only
  rw [hexp]
  dsimp only
  rw [if_neg hne, if_neg (by simp [hahead]), if_neg (by simp [hnew]), if_pos hroom]

end

theorem reseqArrive_delivers (hway : (s.m.sw.toReseq.find? fun x => decide (x.1 = p) && decide (x.2.2 = pkt)) = none)
    (hleaf : s.isLeaf = true) (hclass : reseqClass pkt = true) (hstream : (smapGet s.m.sw.reseq [] p).find? (streamMatch pkt) = some st)
    (hlocal : p = localReseq) (hexp : st.expected = some pkt.xseq) (hheld : st.held = []) : Answers (.reseqArrive p pkt) s fun t =>
      t.module.inbox = s.module.inbox ++ [(p, pkt)]
        ∧ (smapGet t.m.sw.reseq [] p).head? = some { st with expected := some (pkt.xseq + 1) } := by
  have harrive := reseqArrive_of_expected hstream hexp hheld p
  subst hlocal
  rw [releaseAll_local] at harrive
  refine ⟨_, (execReseqArrive_of_class hway hleaf hclass).trans (congrArg Host.Outcome.next harrive), inbox_toInbox .., ?_⟩
  exact congrArg List.head? (reseq_setReseq _)

theorem reseqArrive_holds (hway : (s.m.sw.toReseq.find? fun x => decide (x.1 = p) && decide (x.2.2 = pkt)) = none)
    (hleaf : s.isLeaf = true) (hclass : reseqClass pkt = true) (hstream : (smapGet s.m.sw.reseq [] p).find? (streamMatch pkt) = some st)
    (hexp : st.expected = some e) (hne : pkt.xseq ≠ e) (hahead : seqAhead pkt.xseq e = true)
    (hnew : (st.held.any fun x => decide (x.xseq = pkt.xseq)) = false)
    (hroom : reseqCount (smapGet s.m.sw.reseq [] p) < 16384) : Answers (.reseqArrive p pkt) s fun t =>
      t.module.inbox = s.module.inbox ∧ (smapGet t.m.sw.reseq [] p).head? = some { st with held := st.held ++ [pkt] } := by
  have harrive := reseqArrive_of_ahead hstream hexp hne hahead hnew hroom p
  refine ⟨_, (execReseqArrive_of_class hway hleaf hclass).trans (congrArg Host.Outcome.next harrive), rfl, ?_⟩
  exact congrArg List.head? (reseq_setReseq _)

section

variable {src dst : Eid} {stream epoch : BitVec 4}

/-- The packet that a stream holds alone is released, and the value then follows it. -/
theorem reseqTimeout_of_one_held (hstream : (smapGet s.m.sw.reseq [] key).find? (fun x => decide (x.src = src) && decide (x.dst = dst)
      && decide (x.stream = stream) && decide (x.epoch = epoch)) = some st) (hexp : st.expected = some e) (hheld : st.held = [pkt]) :
    reseqTimeout key src dst stream epoch s = releaseAll key ownPort [pkt] (bump .module .rteRsqTimeoutCnt 0
      (setReseq key ({ st with held := [], expected := some (pkt.xseq + 1) } :: (smapGet s.m.sw.reseq [] key).filter fun x =>
        !(decide (x.src = src) && decide (x.dst = dst) && decide (x.stream = stream) && decide (x.epoch = epoch))) s)) := by
  unfold reseqTimeout
  dsimp only
  rw [hstream]
  dsimp only
  rw [hexp, hheld]
  rfl

/-- A delivery after a gap counts it and leaves the switching core as the release left it. -/
theorem deliver_after_gap (pkt : Packet) (s : State) :
    (toInbox .module ownPort pkt (bump .module .rteRsqTimeoutCnt 0 s)).module.inbox = s.module.inbox ++ [(ownPort, pkt)]
      ∧ (toInbox .module ownPort pkt (bump .module .rteRsqTimeoutCnt 0 s)).word .module .rteRsqTimeoutCnt 0 0
        = countedWord (s.word .module .rteRsqTimeoutCnt 0 0) 1
      ∧ (toInbox .module ownPort pkt (bump .module .rteRsqTimeoutCnt 0 s)).m.sw = s.m.sw := by
  have hev := bump_ev .module .rteRsqTimeoutCnt 0 s rfl
  have hinbox : (bump .module .rteRsqTimeoutCnt 0 s).module.inbox = s.module.inbox := hev.part (.unit .module .inbox) rfl
  refine ⟨by rw [inbox_toInbox, hinbox], ?_, hev.part (.mod .sw) rfl⟩
  rw [(toInbox_ev .module ownPort pkt _).word .module .rteRsqTimeoutCnt rfl, word_bump .module .rteRsqTimeoutCnt 0 s rfl]

theorem reseqGapTimeout_releases (hstream : (smapGet s.m.sw.reseq [] localReseq).find? (fun x => decide (x.src = src)
      && decide (x.dst = dst) && decide (x.stream = stream) && decide (x.epoch = epoch)) = some st)
    (hexp : st.expected = some e) (hheld : st.held = [pkt]) : Answers (.reseqGapTimeout localReseq src dst stream epoch) s fun t =>
      t.module.inbox = s.module.inbox ++ [(ownPort, pkt)]
        ∧ t.word .module .rteRsqTimeoutCnt 0 0 = countedWord (s.word .module .rteRsqTimeoutCnt 0 0) 1
        ∧ (smapGet t.m.sw.reseq [] localReseq).head? = some { st with held := [], expected := some (pkt.xseq + 1) } := by
  have htimeout := reseqTimeout_of_one_held hstream hexp hheld
  rw [releaseAll_local] at htimeout
  obtain ⟨hinbox, hword, hsw⟩ := deliver_after_gap pkt (setReseq localReseq ({ st with held := [], expected := some (pkt.xseq + 1) } ::
    (smapGet s.m.sw.reseq [] localReseq).filter fun x =>
      !(decide (x.src = src) && decide (x.dst = dst) && decide (x.stream = stream) && decide (x.epoch = epoch))) s)
  refine ⟨_, congrArg Host.Outcome.next htimeout, hinbox, hword, ?_⟩
  rw [hsw]
  exact congrArg List.head? (reseq_setReseq _)

theorem reseqGapTimeout_unchanged (hnone : smapGet s.m.sw.reseq [] p = []) :
    Answers (.reseqGapTimeout p src dst stream epoch) s fun t => t = s := by
  refine ⟨s, congrArg Host.Outcome.next ?_, rfl⟩
  unfold reseqTimeout
  rw [hnone]
  rfl

end

end Sys2Proof.Machine

/-! ## Packets held too long (R193, R286) -/

namespace Sys2Proof.Machine

variable {p : Nat} {pkt : Packet} {s : State}

theorem countAge_ports (pkt : Packet) (s : State) (q : Nat) : (countAge pkt s).port .module q = s.port .module q :=
  (countAge_ev pkt s).port .module rfl q

/-- A packet of TC5 is counted in MRN.AGE_CNT and any other in XPT.AGE_DISCARD_CNT, each alone. -/
theorem words_countAge (pkt : Packet) (s : State) :
    (countAge pkt s).word .module .mrnAgeCnt 0 0
        = (if pkt.tc = 5 then countedWord (s.word .module .mrnAgeCnt 0 0) 1 else s.word .module .mrnAgeCnt 0 0)
      ∧ (countAge pkt s).word .module .xptAgeDiscardCnt 0 0 = (if pkt.tc = 5 then s.word .module .xptAgeDiscardCnt 0 0
        else countedWord (s.word .module .xptAgeDiscardCnt 0 0) 1) := by
  unfold countAge
  split
  · exact ⟨word_bump .module .mrnAgeCnt 0 s rfl,
      (bump_ev .module .mrnAgeCnt 0 s rfl).word .module .xptAgeDiscardCnt rfl 0 0⟩
  · exact ⟨(bump_ev .module .xptAgeDiscardCnt 0 s rfl).word .module .mrnAgeCnt rfl 0 0,
      word_bump .module .xptAgeDiscardCnt 0 s rfl⟩

theorem packetAgeOut_discards {e : EgressEntry} (hages : ages pkt = true)
    (hqueued : ((egressQueue p (poolOf pkt.opcode) s).find? fun e => decide (e.pkt = pkt)) = some e) :
    Answers (.packetAgeOut p pkt) s fun t =>
      egressQueue p (poolOf pkt.opcode) t = (egressQueue p (poolOf pkt.opcode) s).erase e
        ∧ t.word .module .mrnAgeCnt 0 0 = (if pkt.tc = 5 then countedWord (s.word .module .mrnAgeCnt 0 0) 1
          else s.word .module .mrnAgeCnt 0 0)
        ∧ t.word .module .xptAgeDiscardCnt 0 0 = (if pkt.tc = 5 then s.word .module .xptAgeDiscardCnt 0 0
          else countedWord (s.word .module .xptAgeDiscardCnt 0 0) 1) := by
  have hexec : exec (.packetAgeOut p pkt) s = .next (countAge pkt
      (s.onPort .module p (setQueue (poolOf pkt.opcode) ((egressQueue p (poolOf pkt.opcode) s).erase e)))) := by
    change execPacketAgeOut p pkt s = _
    simp only [execPacketAgeOut, hages, hqueued]
    rfl
  obtain ⟨hmrn, hxpt⟩ := words_countAge pkt
    (s.onPort .module p (setQueue (poolOf pkt.opcode) ((egressQueue p (poolOf pkt.opcode) s).erase e)))
  simp only [word_onPort] at hmrn hxpt
  refine ⟨_, hexec, ?_, hmrn, hxpt⟩
  unfold egressQueue
  rw [countAge_ports, port_onPort_same]
  exact smapGet_set_same ..

theorem packetAgeOut_unchanged (h : ages pkt = false) : Answers (.packetAgeOut p pkt) s fun t => t = s := by
  refine ⟨s, ?_, rfl⟩
  change execPacketAgeOut p pkt s = _
  simp [execPacketAgeOut, h]

/-! ### NOC_PLANE_DISABLE (R152) -/

variable {path : Path} {dis0 dis1 : Bool}

theorem planeServes_of_disabled (plane : Nat) (s : State) : planeServes plane true s = false := by simp [planeServes]

theorem nocPlaneDisable_writes (hopen : rwlOpen .module path (regOffset .module .nocCtl 0 0) s = true)
    (hleft : leavesNoPlane dis0 dis1 s = false) : Answers (.nocPlaneDisable path dis0 dis1) s fun t =>
      t.rdb .module Fld.nocCtlPlane0Dis = dis0 ∧ t.rdb .module Fld.nocCtlPlane1Dis = dis1
        ∧ (dis0 = true → t.rdb .module Fld.nocStatusPlane0Ok = false)
        ∧ (dis1 = true → t.rdb .module Fld.nocStatusPlane1Ok = false) := by
  obtain ⟨⟨hdis0, hdis1⟩, -, hok0, hok1⟩ := nocPlanes_writeNocCtl (value := b2n dis0 + 2 * b2n dis1) hleft
  refine ⟨_, congrArg Host.Outcome.next (rwl_of_open .module s path _ _ _ hopen), hdis0, hdis1, ?_, ?_⟩
  · rintro rfl
    exact hok0.trans (planeServes_of_disabled 0 s)
  · rintro rfl
    exact hok1.trans (planeServes_of_disabled 1 s)

theorem nocPlaneDisable_keeps_last_plane (hnone : leavesNoPlane dis0 dis1 s = true) :
    Answers (.nocPlaneDisable path dis0 dis1) s fun t => t.word .module .nocCtl 0 0 = s.word .module .nocCtl 0 0
      ∧ t.word .module .nocStatus 0 0 = s.word .module .nocStatus 0 0 := by
  refine ⟨_, rfl, ?_⟩
  cases hopen : rwlOpen .module path (regOffset .module .nocCtl 0 0) s with
  | true =>
    rw [rwl_of_open .module s path _ _ _ hopen, writeNocCtl_of_none_left hnone]
    exact (regAccess_ev ..).nocWords rfl rfl
  | false =>
    rw [rwl_of_closed .module s path _ _ _ hopen]
    exact (rwlDiscard_ev ..).nocWords rfl rfl

end Sys2Proof.Machine

section

open Sys2Proof Sys2Proof.Machine

/-- Settles O18, one lemma for each command and each way it answers. -/
theorem switchStoresAndOrders : Obligations.SwitchStoresAndOrders := fun _ _ _ =>
  ⟨fun _ _ _ _ => residueSend_starts, fun _ _ _ => residueSend_drops, fun _ => residueSend_unchanged, fun _ => reseqArrive_delivers,
    fun _ _ => reseqArrive_holds, fun _ _ _ _ _ _ => reseqGapTimeout_releases, fun _ _ _ _ => reseqGapTimeout_unchanged,
    fun _ => packetAgeOut_discards, packetAgeOut_unchanged, fun _ _ _ => nocPlaneDisable_writes,
    fun _ _ _ => nocPlaneDisable_keeps_last_plane⟩

end

/-! ## What the switching core reads of the state -/

namespace Sys2Proof.Machine

/-- One state reads to the switching core as another: the registers, the module's own part, and of each port what waits in its
egress queues, its reservations and partitions and what the far end offers. -/
structure SwitchReads (s t : State) : Prop where
  word : ∀ r i w, t.word .module r i w = s.word .module r i w
  m : t.m = s.m
  egress : ∀ q, (t.port .module q).egress = (s.port .module q).egress
  egressRes : ∀ q, (t.port .module q).egressRes = (s.port .module q).egressRes
  grant : ∀ q, (t.port .module q).grant = (s.port .module q).grant
  farOffer : ∀ q, (t.port .module q).farOffer = (s.port .module q).farOffer

variable {s t u : State}

theorem SwitchReads.refl (s : State) : SwitchReads s s :=
  ⟨fun _ _ _ => rfl, rfl, fun _ => rfl, fun _ => rfl, fun _ => rfl, fun _ => rfl⟩

theorem SwitchReads.trans (h : SwitchReads s t) (k : SwitchReads t u) : SwitchReads s u where
  word r i w := (k.word r i w).trans (h.word r i w)
  m := k.m.trans h.m
  egress q := (k.egress q).trans (h.egress q)
  egressRes q := (k.egressRes q).trans (h.egressRes q)
  grant q := (k.grant q).trans (h.grant q)
  farOffer q := (k.farOffer q).trans (h.farOffer q)

/-- A part of a port that a change keeps reads the same at every port. -/
theorem port_onPort_keeps {α : Type} (g : PortState → α) {f : PortState → PortState} (hf : ∀ ps, g (f ps) = g ps) (p q : Nat) :
    g ((s.onPort .module p f).port .module q) = g (s.port .module q) := by
  by_cases hq : q = p
  · rw [hq, port_onPort_same, hf]
  · rw [port_onPort_other _ _ _ _ _ _ hq]

/-- A change of what a port has received, or of its ingress partition, is none to the switching core. -/
theorem switchReads_onPort (p : Nat) {f : PortState → PortState} (hegress : ∀ ps, (f ps).egress = ps.egress)
    (hres : ∀ ps, (f ps).egressRes = ps.egressRes) (hgrant : ∀ ps, (f ps).grant = ps.grant)
    (hoffer : ∀ ps, (f ps).farOffer = ps.farOffer) : SwitchReads s (s.onPort .module p f) where
  word r i w := word_onPort s .module .module p f r i w
  m := onUnit_m ..
  egress q := port_onPort_keeps PortState.egress hegress p q
  egressRes q := port_onPort_keeps PortState.egressRes hres p q
  grant q := port_onPort_keeps PortState.grant hgrant p q
  farOffer q := port_onPort_keeps PortState.farOffer hoffer p q

theorem takeArrived_reads (p : Nat) (pkt : Packet) (s : State) : SwitchReads s (takeArrived p pkt s).2 := by
  unfold takeArrived
  split
  · dsimp only
    exact switchReads_onPort p (fun _ => rfl) (fun _ => rfl) (fun _ => rfl) (fun _ => rfl)
  · exact .refl s

theorem leaveIngress_reads (p : Nat) (held : Bool) (pkt : Packet) (s : State) : SwitchReads s (leaveIngress p held pkt s) := by
  unfold leaveIngress freeSlots
  split
  · split
    · exact .refl s
    · exact switchReads_onPort p (fun _ => rfl) (fun _ => rfl) (fun _ => rfl) (fun _ => rfl)
  · exact .refl s

/-! ### Registers, ports and the room in them -/

namespace SwitchReads

variable (h : SwitchReads s t)

include h

theorem rd (f : Field) (i : Nat) : t.rd .module f i = s.rd .module f i := by
  unfold State.rd
  rw [h.word]

theorem rdb (f : Field) (i : Nat) : t.rdb .module f i = s.rdb .module f i := by
  unfold State.rdb
  rw [h.rd]

theorem myEid : t.myEid .module = s.myEid .module := congrArg (BitVec.ofNat 20) (h.rd Fld.glbEidEid 0)

theorem isLeaf : t.isLeaf = s.isLeaf := by
  unfold State.isLeaf State.hasRole
  rw [h.rdb, h.rd]

theorem portSt (q : Nat) : portSt .module q t = portSt .module q s := h.rd Fld.prtStatusState q

theorem portUp (q : Nat) : portUp .module q t = portUp .module q s := by
  unfold Machine.portUp
  rw [h.portSt]

theorem quarantined (q : Nat) : quarantined q t = quarantined q s := by
  unfold Machine.quarantined
  rw [h.rd]

theorem rattleArmed : rattleArmed t = rattleArmed s := by
  unfold Machine.rattleArmed
  rw [h.rdb, h.rdb]

theorem memberUp (q : Nat) : memberUp q t = memberUp q s := by
  unfold Machine.memberUp
  rw [h.portUp, h.quarantined]

theorem portFeat (q : Nat) : portFeat q t = portFeat q s := by
  unfold Machine.portFeat offered
  rw [h.portUp, h.rd, h.rdb, h.farOffer]

theorem reservedUsed (q pool : Nat) : reservedUsed q pool t = reservedUsed q pool s := by
  simp only [Machine.reservedUsed, egressQueue, heldSlots, h.egress, h.m]

theorem sharedUsed (g : Nat) : sharedUsed g t = sharedUsed g s := by
  simp only [Machine.sharedUsed, h.egress, h.m]

theorem groupCommitted (g q : Nat) : groupCommitted g q t = groupCommitted g q s := by
  unfold Machine.groupCommitted
  refine congrArg List.sum (List.map_congr_left fun i _ => ?_)
  dsimp only
  rw [h.portSt, h.grant, h.egressRes]

theorem egressRoom (q pool n : Nat) : egressRoom q pool n t = egressRoom q pool n s := by
  unfold Machine.egressRoom sharedSize groupSlots
  rw [h.reservedUsed, h.sharedUsed, h.groupCommitted, h.egressRes, h.m]

/-! ### The checks of ingress -/

theorem classOpen (tc : Nat) : classOpen .module tc t = classOpen .module tc s := by
  unfold Machine.classOpen
  rw [h.rdb]

theorem retiredPacket (pkt : Packet) : retiredPacket pkt t = retiredPacket pkt s := by
  unfold Machine.retiredPacket
  dsimp only
  rw [h.rd, h.rd]

theorem groupPorts (g : Nat) : groupPorts g t = groupPorts g s := by
  simp only [Machine.groupPorts, h.rd, h.rdb]

theorem routeWord (dst : Eid) : routeWord dst t = routeWord dst s := by
  simp only [Machine.routeWord, h.word]

theorem onRing (n p : Nat) : onRing n p t = onRing n p s := by
  unfold Machine.onRing
  rw [h.rdb, h.rdb, h.rd, h.rd]

theorem sourceOk (p : Nat) (src : Eid) : sourceOk p src t = sourceOk p src s := by
  have hfar : farId .module p t = farId .module p s := by
    unfold farId
    rw [h.rd, h.rd]
  unfold Machine.sourceOk
  rw [hfar, h.routeWord, h.rd]
  simp only [h.groupPorts, h.onRing]

/-! ### The route lookup (R153 to R155) -/

/-- The same state but for the module's own part: what a lookup may change. -/
theorem withM : { t with m := s.m } = t := by rw [← h.m]

theorem upMembers (g : Nat) : upMembers g t = upMembers g s := by
  simp only [Machine.upMembers, h.groupPorts, h.memberUp]

theorem queuedSlots (q pool : Nat) : queuedSlots q pool t = queuedSlots q pool s := by
  simp only [Machine.queuedSlots, egressQueue, h.egress]

theorem chooseMember (g pool : Nat) :
    chooseMember g pool t = ((chooseMember g pool s).1, { t with m := (chooseMember g pool s).2.m }) := by
  simp only [Machine.chooseMember, h.upMembers, h.queuedSlots, h.m]
  split
  · rw [h.withM]
  · split
    · rw [h.withM]
    · rw [State.onM, h.m]
      rfl

theorem viaGroup (w : Word) (pool : Nat) :
    viaGroup w pool t = ((viaGroup w pool s).1, { t with m := (viaGroup w pool s).2.m }) := by
  unfold Machine.viaGroup
  rw [h.chooseMember]
  obtain ⟨m, u⟩ := Machine.chooseMember (bitsOf w 47 40) pool s
  cases m <;> rfl

theorem ringPort (n : Nat) (prev : Bool) : ringPort n prev t = ringPort n prev s := by
  simp only [Machine.ringPort, h.rd, h.rdb, h.memberUp]

theorem inTransit (n : Nat) (prev : Bool) (arrival : Nat) : inTransit n prev arrival t = inTransit n prev arrival s := by
  simp only [Machine.inTransit, h.rd, h.rdb]

theorem followEntry (w : Word) (pool arrival : Nat) :
    followEntry w pool arrival t = ((followEntry w pool arrival s).1, { t with m := (followEntry w pool arrival s).2.m }) := by
  simp only [Machine.followEntry, h.ringPort, h.inTransit, h.viaGroup]
  split
  · rw [h.withM]
  · split
    · rfl
    · rfl
    · split
      · split
        · rw [h.withM]
        · rfl
      · rfl
    · rw [h.withM]

theorem mcastPorts (group : Nat) : mcastPorts group t = mcastPorts group s := by
  simp only [Machine.mcastPorts, h.rd, h.rdb, h.upMembers, h.memberUp]

theorem rackPorts : rackPorts t = rackPorts s := by
  simp only [Machine.rackPorts, h.rd, h.rdb, h.memberUp]

theorem slotRoute (slot : Nat) : slotRoute slot t = slotRoute slot s := by
  simp only [Machine.slotRoute, h.rd, h.rdb, h.quarantined, h.portUp]

theorem lookupRoute (pkt : Packet) (arrival : Nat) :
    lookupRoute pkt arrival t = ((lookupRoute pkt arrival s).1, { t with m := (lookupRoute pkt arrival s).2.m }) := by
  simp only [Machine.lookupRoute, h.myEid, h.mcastPorts, h.rackPorts, h.isLeaf, h.routeWord, h.slotRoute, h.followEntry]
  split
  · rw [h.withM]
  · split
    · rw [h.withM]
    · split
      · rw [h.withM]
      · split
        · rw [h.withM]
        · split
          · rw [h.withM]
          · split
            · rw [h.withM]
            · rfl

/-- A lookup that changes nothing leads the same way from a state that reads the same. -/
theorem lookupRoute_same {pkt : Packet} {arrival : Nat} {r : Route} (hroute : Machine.lookupRoute pkt arrival s = (r, s)) :
    Machine.lookupRoute pkt arrival t = (r, t) := by
  rw [h.lookupRoute, hroute, h.withM]

end SwitchReads

end Sys2Proof.Machine

/-! ## Packets at a port of the module: taken, checked and discarded (R145, R48, R72) -/

namespace Sys2Proof.Machine

variable {p q : Nat} {pkt : Packet} {held : Bool} {s t u : State}

/-! ### What taking a packet and freeing its slots leave -/

theorem arrived_takeArrived (p : Nat) (pkt : Packet) (s : State) :
    ((takeArrived p pkt s).2.port .module p).arrived = (s.port .module p).arrived.erase pkt := by
  unfold takeArrived
  split
  · rw [port_onPort_same]
  · next hmem => rw [List.erase_of_not_mem (by simpa using hmem)]

theorem arrived_leaveIngress (held : Bool) (pkt : Packet) (s : State) :
    ((leaveIngress p held pkt s).port .module p).arrived = (s.port .module p).arrived := by
  unfold leaveIngress freeSlots
  split
  · split
    · rfl
    · rw [port_onPort_same]
  · rfl

theorem inbox_takeArrived (p : Nat) (pkt : Packet) (s : State) : (takeArrived p pkt s).2.module.inbox = s.module.inbox :=
  (takeArrived_ev p pkt s).part (.unit .module .inbox) rfl

theorem inbox_leaveIngress (p : Nat) (held : Bool) (pkt : Packet) (s : State) :
    (leaveIngress p held pkt s).module.inbox = s.module.inbox :=
  (leaveIngress_ev p held pkt s).part (.unit .module .inbox) rfl

/-! ### A discarded packet is counted -/

/-- A counter of a port counts once, and neither a port nor the inbox changes. -/
structure CountedAt (r : Reg) (p : Nat) (s t : State) : Prop where
  word : t.word .module r p 0 = countedWord (s.word .module r p 0) 1
  port : ∀ q, t.port .module q = s.port .module q
  inbox : t.module.inbox = s.module.inbox

/-- A counter's own register is the only part that counting touches beside those of the overflow event. -/
theorem bumpParts_testBit {r : Reg} {x : Part} (hne : Part.reg .module r ≠ x) (hlog : (Fp.logBump .module).testBit x.idx = false) :
    ((Part.reg .module r).bit ||| Fp.logBump .module).testBit x.idx = false := by
  have hidx : (Part.reg .module r).idx ≠ x.idx := fun h => hne (part_idx_inj h)
  rw [Nat.testBit_lor, hlog, Part.bit, Nat.testBit_two_pow_of_ne hidx, Bool.or_false]

theorem countedAt_bump {r : Reg} (hr : r.isCounter = true) (hlog : (Fp.logBump .module).testBit (Part.reg .module r).idx = false)
    (p : Nat) (s : State) : CountedAt r p s (bump .module r p s) where
  word := word_bump .module r p s hlog
  port := (bump_ev .module r p s hr).port .module (bumpParts_testBit (by simp) rfl)
  inbox := (bump_ev .module r p s hr).part (.unit .module .inbox) (bumpParts_testBit (by simp) rfl)

theorem countedAt_ingressDiscard (p : Nat) (s : State) : CountedAt .prtIngressDiscard p s (bump .module .prtIngressDiscard p s) :=
  countedAt_bump rfl rfl p s

/-- The event recorded after it changes none of them. -/
theorem CountedAt.log {r : Reg} (h : CountedAt r p s t) (e : Event) (hr : Fp.logModule.testBit (Part.reg .module r).idx = false) :
    CountedAt r p s (logModule e t) where
  word := ((logModule_ev e t).word .module r hr p 0).trans h.word
  port q := ((logModule_ev e t).port .module rfl q).trans (h.port q)
  inbox := Eq.trans ((logModule_ev e t).part (.unit .module .inbox) rfl) h.inbox

/-! ### The checks in order (R145) -/

/-- The packet passes the checks of its class, its form, its slot and the quarantine. -/
def FitsIngress (p : Nat) (pkt : Packet) (s : State) : Prop :=
  classOpen .module pkt.tc.toNat s = true ∧ malformed pkt = false ∧ retiredPacket pkt s = false
    ∧ (quarantined p s && decide (2 ≤ pkt.tc.toNat)) = false

/-- The packet as it goes on, with its hop count one less. -/
def hopTaken (pkt : Packet) : Packet := { pkt with hops := pkt.hops - 1 }

/-- Source, plane and hop count of the packet are right. -/
def GoodOrigin (p : Nat) (pkt : Packet) (s : State) : Prop :=
  sourceOk p pkt.src s = true ∧ pkt.plane = s.rdb .module Fld.glbRolePlane ∧ pkt.hops ≠ 0

theorem SwitchReads.fitsIngress (h : SwitchReads s t) (hfits : FitsIngress p pkt s) : FitsIngress p pkt t := by
  unfold FitsIngress at hfits ⊢
  rwa [h.classOpen, h.retiredPacket, h.quarantined]

theorem SwitchReads.goodOrigin (h : SwitchReads s t) : GoodOrigin p pkt t ↔ GoodOrigin p pkt s := by
  unfold GoodOrigin
  rw [h.sourceOk, h.rdb]

theorem ingress_of_class_closed (h : classOpen .module pkt.tc.toNat s = false) :
    ingress p pkt held s = bump .module .prtIngressDiscard p (leaveIngress p held pkt s) := if_pos (by simp [h])

theorem ingress_of_malformed (hopen : classOpen .module pkt.tc.toNat s = true) (hbad : malformed pkt = true) :
    ingress p pkt held s = countMalformed .module p pkt (leaveIngress p held pkt s) := by
  unfold ingress
  rw [if_neg (by simp [hopen]), if_pos hbad]

section

variable (hfits : FitsIngress p pkt s)

include hfits

/-- Past the first checks, the origin decides. -/
theorem ingress_of_fits : ingress p pkt held s =
    if !sourceOk p pkt.src s || decide (pkt.plane ≠ s.rdb .module Fld.glbRolePlane) || decide (pkt.hops = 0) then
      discardIngress .module p pkt (leaveIngress p held pkt s)
    else routePacket (hopTaken pkt) p held s := by
  obtain ⟨hopen, hform, hslot, hquiet⟩ := hfits
  unfold ingress
  rw [if_neg (by simp [hopen]), if_neg (by simp [hform]), if_neg (by simp [hslot]), if_neg (by simp only [hquiet]; decide)]
  rfl

theorem ingress_of_bad_origin (hbad : ¬ GoodOrigin p pkt s) :
    ingress p pkt held s = discardIngress .module p pkt (leaveIngress p held pkt s) := by
  rw [ingress_of_fits hfits, if_pos]
  by_contra h
  simp only [Bool.not_eq_true, Bool.or_eq_false_iff, Bool.not_eq_false', decide_eq_false_iff_not, ne_eq, not_not] at h
  obtain ⟨⟨hsource, hplane⟩, hhops⟩ := h
  exact hbad ⟨hsource, hplane, hhops⟩

theorem ingress_of_good_origin (hgood : GoodOrigin p pkt s) :
    ingress p pkt held s = routePacket (hopTaken pkt) p held s := by
  obtain ⟨hsource, hplane, hhops⟩ := hgood
  rw [ingress_of_fits hfits, if_neg (by simpa [hsource, hplane] using hhops)]

end

/-! ### The command -/

/-- The module holds a role and the port carries traffic. -/
def ReadyFor (p : Nat) (s : State) : Prop := s.hasRole = true ∧ portUp .module p s = true

theorem packetIngress_unchanged (h : ¬ ReadyFor p s) : Answers (.packetIngress p pkt) s fun t => t = s := by
  refine ⟨s, congrArg Host.Outcome.next (if_neg ?_), rfl⟩
  rwa [Bool.and_eq_true]

theorem packetIngress_eq (hready : ReadyFor p s) :
    exec (.packetIngress p pkt) s = .next (ingress p pkt (takeArrived p pkt s).1 (takeArrived p pkt s).2) := by
  refine congrArg Host.Outcome.next (if_pos ?_)
  rwa [Bool.and_eq_true]

/-- A packet that passes every check is routed with its hop count one less. -/
theorem packetIngress_routes (hready : ReadyFor p s) (hfits : FitsIngress p pkt s) (hgood : GoodOrigin p pkt s) :
    exec (.packetIngress p pkt) s = .next (routePacket (hopTaken pkt) p (takeArrived p pkt s).1 (takeArrived p pkt s).2) := by
  have hreads := takeArrived_reads p pkt s
  rw [packetIngress_eq hready, ingress_of_good_origin (hreads.fitsIngress hfits) (hreads.goodOrigin.mpr hgood)]

/-- A packet that ingress discards with a counter leaves the arrivals and reaches nobody. -/
theorem packetIngress_counts {r : Reg} {f : State → State} (hready : ReadyFor p s)
    (hdiscard : ∀ held t, SwitchReads s t → ingress p pkt held t = f (leaveIngress p held pkt t))
    (hcount : ∀ t, CountedAt r p t (f t)) : Answers (.packetIngress p pkt) s fun t =>
      t.word .module r p 0 = countedWord (s.word .module r p 0) 1
        ∧ (t.port .module p).arrived = (s.port .module p).arrived.erase pkt ∧ t.module.inbox = s.module.inbox := by
  have htaken := takeArrived_reads p pkt s
  have hreads := htaken.trans (leaveIngress_reads p (takeArrived p pkt s).1 pkt (takeArrived p pkt s).2)
  obtain ⟨hword, hport, hinbox⟩ := hcount (leaveIngress p (takeArrived p pkt s).1 pkt (takeArrived p pkt s).2)
  refine ⟨_, (packetIngress_eq hready).trans (congrArg Host.Outcome.next (hdiscard _ _ htaken)), ?_, ?_, ?_⟩
  · rw [hword, hreads.word]
  · rw [hport, arrived_leaveIngress, arrived_takeArrived]
  · rw [hinbox, inbox_leaveIngress, inbox_takeArrived]

theorem packetIngress_discards_closed_class (hready : ReadyFor p s) (hclosed : classOpen .module pkt.tc.toNat s = false) :
    Answers (.packetIngress p pkt) s fun t =>
      t.word .module .prtIngressDiscard p 0 = countedWord (s.word .module .prtIngressDiscard p 0) 1
        ∧ (t.port .module p).arrived = (s.port .module p).arrived.erase pkt ∧ t.module.inbox = s.module.inbox :=
  packetIngress_counts hready (fun _ _ hreads => ingress_of_class_closed (by rwa [hreads.classOpen]))
    (countedAt_ingressDiscard p)

theorem packetIngress_discards_malformed (hready : ReadyFor p s) (hopen : classOpen .module pkt.tc.toNat s = true)
    (hbad : malformed pkt = true) : Answers (.packetIngress p pkt) s fun t =>
      t.word .module .prtMalformed p 0 = countedWord (s.word .module .prtMalformed p 0) 1
        ∧ (t.port .module p).arrived = (s.port .module p).arrived.erase pkt ∧ t.module.inbox = s.module.inbox :=
  packetIngress_counts hready (fun _ _ hreads => ingress_of_malformed (by rwa [hreads.classOpen]) hbad)
    fun t => (countedAt_bump (r := .prtMalformed) rfl rfl p t).log _ rfl

theorem packetIngress_discards_bad_origin (hready : ReadyFor p s) (hfits : FitsIngress p pkt s) (hbad : ¬ GoodOrigin p pkt s) :
    Answers (.packetIngress p pkt) s fun t =>
      t.word .module .prtIngressDiscard p 0 = countedWord (s.word .module .prtIngressDiscard p 0) 1
        ∧ (t.port .module p).arrived = (s.port .module p).arrived.erase pkt ∧ t.module.inbox = s.module.inbox :=
  packetIngress_counts hready
    (fun _ _ hreads => ingress_of_bad_origin (hreads.fitsIngress hfits) (by rwa [hreads.goodOrigin]))
    fun t => (countedAt_ingressDiscard p t).log _ rfl

/-! ### Delivery to the module itself -/

/-- A resequencer learns from acknowledgements of ordered streams alone (R169). -/
theorem learnExpected_of_unordered (h : pkt.stream = 0) : learnExpected pkt s = s := by simp [learnExpected, h]

/-- No resequencer acts on a packet outside an ordered stream (R168). -/
theorem reseqClass_of_unordered (h : pkt.stream = 0) : reseqClass pkt = false := by simp [reseqClass, h]

theorem routePacket_of_own (arrival : Nat) (hdst : pkt.dst = s.myEid .module) (hop : opAssigned pkt.opcode = true)
    (hstream : pkt.stream = 0) : routePacket pkt arrival held s = toInbox .module arrival pkt (leaveIngress arrival held pkt s) := by
  have hroute : lookupRoute pkt arrival s = (.here, s) := if_pos (.inl hdst)
  unfold routePacket
  rw [learnExpected_of_unordered hstream, hroute]
  dsimp only
  rw [if_neg (by simp [hop]), if_neg (by simp [reseqClass_of_unordered hstream])]

theorem packetIngress_delivers (hready : ReadyFor p s) (hfits : FitsIngress p pkt s) (hgood : GoodOrigin p pkt s)
    (hdst : pkt.dst = s.myEid .module) (hop : opAssigned pkt.opcode = true) (hstream : pkt.stream = 0) :
    Answers (.packetIngress p pkt) s fun t => t.module.inbox = s.module.inbox ++ [(p, hopTaken pkt)]
      ∧ (t.port .module p).arrived = (s.port .module p).arrived.erase pkt := by
  have hown := hdst.trans (takeArrived_reads p pkt s).myEid.symm
  have hroute := routePacket_of_own (pkt := hopTaken pkt) (held := (takeArrived p pkt s).1) p hown hop hstream
  refine ⟨_, (packetIngress_routes hready hfits hgood).trans (congrArg Host.Outcome.next hroute), ?_, ?_⟩
  · rw [inbox_toInbox, inbox_leaveIngress, inbox_takeArrived]
  · exact (arrived_leaveIngress _ _ _).trans (arrived_takeArrived p pkt s)

/-! ### Room at an egress port (R155, R163) -/

theorem port_onM (f : ModuleState → ModuleState) (q : Nat) : (s.onM f).port .module q = s.port .module q := rfl

/-- A queue of a port as it stands with a packet put at its end. -/
theorem egress_putEgress (pkt : Packet) (shared transit entering : Bool) :
    smapGet ((putEgress q pkt shared transit entering s).port .module q).egress [] (poolOf pkt.opcode)
      = smapGet (s.port .module q).egress [] (poolOf pkt.opcode)
        ++ [{ pkt := pkt, order := s.m.sw.nextOrder, shared := shared, transit := transit, entering := entering }] := by
  unfold putEgress
  dsimp only
  rw [port_onM, port_onPort_same]
  exact smapGet_set_same ..

/-- A packet for which there is room is queued at the end of its pool's queue, and its slots are free at its arrival port. -/
theorem enqueuePort_of_room {room : Bool} (arrival : Nat) (transit entering : Bool)
    (hroom : egressRoom q (poolOf pkt.opcode) (packetSlots pkt) s = some room) :
    enqueuePort q pkt arrival held transit entering s
      = leaveIngress arrival held pkt (putEgress q pkt room transit entering s) := by
  unfold enqueuePort
  dsimp only
  rw [hroom]
  rfl

/-- What queueing a packet changes where there is room: its queue, and of the switching core only the order of arrival. -/
theorem queued_enqueuePort {room : Bool} (arrival : Nat) (transit entering : Bool)
    (hroom : egressRoom q (poolOf pkt.opcode) (packetSlots pkt) s = some room) :
    smapGet ((enqueuePort q pkt arrival held transit entering s).port .module q).egress [] (poolOf pkt.opcode)
        = smapGet (s.port .module q).egress [] (poolOf pkt.opcode)
          ++ [{ pkt := pkt, order := s.m.sw.nextOrder, shared := room, transit := transit, entering := entering }]
      ∧ (enqueuePort q pkt arrival held transit entering s).m.sw = { s.m.sw with nextOrder := s.m.sw.nextOrder + 1 } := by
  have hreads := leaveIngress_reads arrival held pkt (putEgress q pkt room transit entering s)
  rw [enqueuePort_of_room arrival transit entering hroom, hreads.egress, hreads.m, egress_putEgress]
  exact ⟨rfl, rfl⟩

/-! ### A packet routed to a port (R145, R157, R545) -/

/-- While the fault injector is not armed, no rule of it acts. -/
theorem rattleAct_of_unarmed (h : rattleArmed s = false) (kind targetType target : Nat) (tc : Option Nat) :
    rattleAct kind targetType target tc s = (none, s) := by
  unfold rattleAct rattleRules
  rw [if_pos (by simp [h])]
  rfl

theorem toEgress_of_unarmed (h : rattleArmed s = false) (hclass : reseqClass pkt = false) (toSlot : Bool) (arrival : Nat)
    (transit entering : Bool) :
    toEgress q toSlot pkt arrival held transit entering s = enqueuePort q pkt arrival held transit entering s := by
  simp [toEgress, rattleAct_of_unarmed h, hclass]

theorem portFeat_and_all (q : Nat) (s : State) : portFeat q s &&& 2047 = portFeat q s := by
  have hlt : portFeat q s < 2048 := by
    unfold portFeat
    split
    · exact Nat.mod_lt _ (by decide)
    · decide
  rw [show 2047 = 2 ^ 11 - 1 from rfl, Nat.and_two_pow_sub_one_eq_mod, Nat.mod_eq_of_lt hlt]

theorem routePacket_of_port {slot : Bool} (arrival : Nat) (hstream : pkt.stream = 0)
    (hroute : lookupRoute pkt arrival s = (.port q none slot false false, s)) (hfeat : featuresOk pkt (portFeat q s) = true)
    (hrattle : rattleArmed s = false) : routePacket pkt arrival held s = enqueuePort q pkt arrival held false false s := by
  unfold routePacket
  rw [learnExpected_of_unordered hstream, hroute]
  dsimp only
  rw [Option.getD_none, portFeat_and_all, if_pos hfeat, toEgress_of_unarmed hrattle (reseqClass_of_unordered hstream)]

theorem packetIngress_queues {room slot : Bool} (hready : ReadyFor p s) (hfits : FitsIngress p pkt s) (hgood : GoodOrigin p pkt s)
    (hstream : pkt.stream = 0) (hroute : lookupRoute (hopTaken pkt) p s = (.port q none slot false false, s))
    (hfeat : featuresOk (hopTaken pkt) (portFeat q s) = true) (hrattle : rattleArmed s = false)
    (hroom : egressRoom q (poolOf (hopTaken pkt).opcode) (packetSlots (hopTaken pkt)) s = some room) :
    Answers (.packetIngress p pkt) s fun t => smapGet (t.port .module q).egress [] (poolOf (hopTaken pkt).opcode)
      = smapGet (s.port .module q).egress [] (poolOf (hopTaken pkt).opcode)
        ++ [{ pkt := hopTaken pkt, order := s.m.sw.nextOrder, shared := room }] := by
  have hreads := takeArrived_reads p pkt s
  have hport := routePacket_of_port (pkt := hopTaken pkt) (held := (takeArrived p pkt s).1) p hstream
    (hreads.lookupRoute_same hroute) (by rwa [hreads.portFeat]) (by rwa [hreads.rattleArmed])
  refine ⟨_, (packetIngress_routes hready hfits hgood).trans (congrArg Host.Outcome.next hport), ?_⟩
  obtain ⟨hqueue, -⟩ := queued_enqueuePort (held := (takeArrived p pkt s).1) p false false ((hreads.egressRoom ..).trans hroom)
  rwa [hreads.egress, hreads.m] at hqueue

/-! ## Packets that wait for room, and packets that the fault injector holds (R163, R166, R545) -/

variable {ix : Nat}

/-- The switching core without the packet at a place of those that wait. -/
def dropWaiting (ix : Nat) (s : State) : State := s.onM fun m => { m with sw := { m.sw with waiting := m.sw.waiting.eraseIdx ix } }

/-- The switching core without the packet at a place of those that Rattle holds. -/
def dropReordered (ix : Nat) (s : State) : State :=
  s.onM fun m => { m with sw := { m.sw with reordered := m.sw.reordered.eraseIdx ix } }

theorem egressRoom_dropWaiting (q pool n : Nat) : egressRoom q pool n (dropWaiting ix s) = egressRoom q pool n s := rfl

theorem egressRoom_dropReordered (q pool n : Nat) : egressRoom q pool n (dropReordered ix s) = egressRoom q pool n s := rfl

theorem bufferRoomFreed_moves {w : WaitEntry} {room : Bool} (hentry : s.m.sw.waiting[ix]? = some w)
    (hfirst : waitsBehind ix w s = false) (hone : w.multicast = false) (htarget : w.targets = [q]) (hup : portUp .module q s = true)
    (hroom : egressRoom q (poolOf w.pkt.opcode) (packetSlots w.pkt) s = some room) : Answers (.bufferRoomFreed ix) s fun t =>
      t.m.sw.waiting = s.m.sw.waiting.eraseIdx ix
        ∧ smapGet (t.port .module q).egress [] (poolOf w.pkt.opcode) = smapGet (s.port .module q).egress [] (poolOf w.pkt.opcode)
          ++ [{ pkt := w.pkt, order := s.m.sw.nextOrder, shared := room, transit := w.transit, entering := w.entering }] := by
  have hexec : exec (.bufferRoomFreed ix) s
      = .next (enqueuePort q w.pkt w.port w.held w.transit w.entering (dropWaiting ix s)) := by
    change execBufferRoomFreed ix s = _
    simp only [execBufferRoomFreed, hentry, hfirst, hone, htarget, hup]
    rfl
  obtain ⟨hqueue, hsw⟩ := queued_enqueuePort (held := w.held) w.port w.transit w.entering
    ((egressRoom_dropWaiting (ix := ix) ..).trans hroom)
  exact ⟨_, hexec, congrArg SwitchState.waiting hsw, hqueue⟩

theorem bufferRoomFreed_waits {w : WaitEntry} (hentry : s.m.sw.waiting[ix]? = some w) (hbehind : waitsBehind ix w s = true) :
    Answers (.bufferRoomFreed ix) s fun t => t = s := by
  refine ⟨s, ?_, rfl⟩
  change execBufferRoomFreed ix s = _
  simp [execBufferRoomFreed, hentry, hbehind]

theorem bufferRoomFreed_unchanged (hend : s.m.sw.waiting.length ≤ ix) : Answers (.bufferRoomFreed ix) s fun t => t = s := by
  refine ⟨s, ?_, rfl⟩
  change execBufferRoomFreed ix s = _
  simp [execBufferRoomFreed, List.getElem?_eq_none hend]

theorem reorderHoldExpire_passes {h : HeldPacket} {room : Bool} (hentry : s.m.sw.reordered[ix]? = some h)
    (hroom : egressRoom h.port (poolOf h.pkt.opcode) (packetSlots h.pkt) s = some room) : Answers (.reorderHoldExpire ix) s fun t =>
      t.m.sw.reordered = s.m.sw.reordered.eraseIdx ix
        ∧ smapGet (t.port .module h.port).egress [] (poolOf h.pkt.opcode)
          = smapGet (s.port .module h.port).egress [] (poolOf h.pkt.opcode)
            ++ [{ pkt := h.pkt, order := s.m.sw.nextOrder, shared := room }] := by
  have hexec : exec (.reorderHoldExpire ix) s
      = .next (enqueuePort h.port h.pkt h.arrival false false false (dropReordered ix s)) := by
    change execReorderHoldExpire ix s = _
    simp only [execReorderHoldExpire, hentry]
    rfl
  obtain ⟨hqueue, hsw⟩ := queued_enqueuePort (held := false) h.arrival false false
    ((egressRoom_dropReordered (ix := ix) ..).trans hroom)
  exact ⟨_, hexec, congrArg SwitchState.reordered hsw, hqueue⟩

theorem reorderHoldExpire_unchanged (hend : s.m.sw.reordered.length ≤ ix) : Answers (.reorderHoldExpire ix) s fun t => t = s := by
  refine ⟨s, ?_, rfl⟩
  change execReorderHoldExpire ix s = _
  simp [execReorderHoldExpire, List.getElem?_eq_none hend]

end Sys2Proof.Machine

section

open Sys2Proof Sys2Proof.Machine

/-- Settles O17, one lemma for each command and each way it answers. -/
theorem switchTakesPackets : Obligations.SwitchTakesPackets := fun _ _ _ =>
  ⟨packetIngress_unchanged, packetIngress_discards_closed_class, packetIngress_discards_malformed,
    packetIngress_discards_bad_origin, packetIngress_delivers, fun _ _ _ => packetIngress_queues,
    fun _ _ _ _ => bufferRoomFreed_moves, fun _ _ => bufferRoomFreed_waits, fun _ => bufferRoomFreed_unchanged,
    fun _ _ _ => reorderHoldExpire_passes, fun _ => reorderHoldExpire_unchanged⟩

end

/-! ## Two ordered streams to one destination whose plane is lost (R198) -/

namespace Sys2Proof.Machine

/-- `planeLostState` with plane B no longer suspect, so that its stream 1 may move there, and with a second ordered stream to the same
endpoint on plane A: one packet of it has been sent and is complete. -/
def twoStreamsLostState : State :=
  onSrcSpace .endpoint 0x281 2 (fun sp => { sp with next := 1 }) (clearSuspect .endpoint 0x281 true planeLostState)

/-- Both streams take their barrier, and each is counted. -/
theorem twoStreamsLost_counts_both {t : State} (h : exec (.planeUnusable .endpoint 0x281 false) twoStreamsLostState = .next t) :
    t.word .endpoint .xptBarrierCnt 0 0 = 2 := by
  obtain rfl := Host.Outcome.next.inj h
  decide +kernel

end Sys2Proof.Machine

section

open Sys2Proof Sys2Proof.Machine

/-- Refutes O21: its second clause has PLANE_UNUSABLE count one barrier for the destination, without a hypothesis that the stream in
flight is the only ordered one there. Every ordered stream to the destination that ran on the lost plane takes a barrier of its own
(R198), and XPT.BARRIER_CNT counts every one (R210): with a second such stream, all of whose packets are complete, it rises by two. -/
theorem not_planesAndSpacesChange : ¬ Obligations.PlanesAndSpacesChange := by
  intro h
  obtain ⟨-, hlost, -⟩ := h .endpoint 0x281 1 false twoStreamsLostState
  obtain ⟨t, hnext, -, hcount⟩ := hlost orderedLoad orderedLoadSent rfl (by decide +kernel) (by decide +kernel) rfl rfl rfl rfl
    (by decide) (by decide) rfl (by decide +kernel) rfl (by decide +kernel)
  rw [twoStreamsLost_counts_both hnext] at hcount
  exact absurd hcount (by decide +kernel)

end

/-! ## The endpoint block's transactions on MQ, its queues and its interrupt bits (R360, R380, R390) -/

namespace Sys2Proof.Machine

variable (s : State) (q : Nat)

/-- The endpoint block's transactions on MQ, in the order in which they began: what each continues. -/
def txnConts (s : State) : List MemCont := s.e.txns.map fun x => x.cont

theorem txns_startTxnWith (cont : MemCont) (poison : Bool) (lockTag : Option Nat) (parts : List (MqOp × Nat × Nat × List Byte)) :
    (startTxnWith cont poison lockTag parts s).e.txns
      = s.e.txns ++ [{ id := s.e.nextTxn, cont := cont, answers := parts.map fun _ => none }] :=
  (pumpMq_ev _ _).part (.ep .txns) rfl

theorem txnConts_startTxnWith (cont : MemCont) (poison : Bool) (lockTag : Option Nat)
    (parts : List (MqOp × Nat × Nat × List Byte)) :
    txnConts (startTxnWith cont poison lockTag parts s) = txnConts s ++ [cont] := by
  unfold txnConts
  rw [txns_startTxnWith, List.map_append]
  rfl

theorem txnConts_memLoad (cont : MemCont) (a n : Nat) : txnConts (memLoad cont a n s) = txnConts s ++ [cont] :=
  txnConts_startTxnWith ..

theorem txnConts_memStore (cont : MemCont) (poison : Bool) (a : Nat) (data : List Byte) :
    txnConts (memStore cont poison a data s) = txnConts s ++ [cont] := txnConts_startTxnWith ..

/-- A write of memory waits for one answer per piece of at most 256 bytes (R360). -/
theorem answers_memStore (cont : MemCont) (poison : Bool) (a : Nat) (data : List Byte) :
    (memStore cont poison a data s).e.txns.getLast?.map (fun x => x.answers.length) = some ((data.length + 255) / 256) := by
  unfold memStore
  rw [txns_startTxnWith]
  simp [pieces]

theorem memLoad_xpt (cont : MemCont) (a n : Nat) : (memLoad cont a n s).endpoint.xpt = s.endpoint.xpt :=
  (memLoad_ev cont a n s).xpt .endpoint rfl

theorem memStore_xpt (cont : MemCont) (poison : Bool) (a : Nat) (data : List Byte) :
    (memStore cont poison a data s).endpoint.xpt = s.endpoint.xpt := (memStore_ev cont poison a data s).xpt .endpoint rfl

theorem Ev.txnConts {F : Nat} {s t : State} (h : Ev F s t) (hb : F.testBit (Part.ep .txns).idx = false) :
    txnConts t = txnConts s := congrArg (List.map _) (h.part (.ep .txns) hb)

theorem Ev.fired {F : Nat} {s t : State} (h : Ev F s t) (hb : F.testBit (Part.ep .fired).idx = false) : t.e.fired = s.e.fired :=
  h.part (.ep .fired) hb

/-! ### Queues (R380) -/

@[simp] theorem epQueue_onQueue (f : EpQueue → EpQueue) : epQueue q (onQueue q f s) = f (epQueue q s) := smapGet_put_same ..

theorem Ev.epQueue {F : Nat} {s t : State} (h : Ev F s t) (hb : F.testBit (Part.ep .queues).idx = false) (q : Nat) :
    epQueue q t = epQueue q s := congrArg (fun l => smapGet l ({} : EpQueue) q) (h.part (.ep .queues) hb)

theorem Ev.qrd {F : Nat} {s t : State} (h : Ev F s t) (f : Field) (hcq : F.testBit (Part.reg .endpoint .fxeCq).idx = false)
    (hb : F.testBit (Part.reg .endpoint f.reg).idx = false) (q : Nat) : qrd f q t = qrd f q s := by
  unfold Machine.qrd
  rw [h.rd .endpoint f hb, h.rd .endpoint { f with reg := .fxeCq } hcq]

theorem qrd_qwr_same (f : Field) (v : Nat) (h : f.lo ≤ f.hi) (h64 : f.hi < 64) :
    qrd f q (qwr f q v s) = v % 2 ^ (f.hi + 1 - f.lo) := by
  unfold qrd qwr
  split
  · exact rd_wr_same s .endpoint { f with reg := .fxeCq } 0 v h h64
  · exact rd_wr_same s .endpoint f q v h h64

/-- Two fields lie in different words of an entry, or apart in the same word. -/
def Field.apart (f g : Field) : Bool :=
  decide (f.word < 16) && decide (g.word < 16) && (decide (g.word ≠ f.word) || decide (g.hi < f.lo) || decide (f.hi < g.lo))

theorem rd_wr_of_apart {f g : Field} (sd : Side) (i j v : Nat) (hr : g.reg = f.reg) (h : f.apart g = true) :
    (s.wr sd f i v).rd sd g j = s.rd sd g j := by
  simp only [Field.apart, Bool.and_eq_true, Bool.or_eq_true, decide_eq_true_eq] at h
  obtain ⟨⟨hf, hg⟩, (hw | hlo) | hhi⟩ := h
  · exact rd_wr_entry s sd sd f g i j v hr hf hg (.inr hw)
  all_goals
    by_cases hw : g.word = f.word
    · exact rd_wr_apart s sd i j v hr hw hf (by omega)
    · exact rd_wr_entry s sd sd f g i j v hr hf hg (.inr hw)

theorem qrd_qwr_apart (f g : Field) (v : Nat) (hr : g.reg = f.reg) (h : f.apart g = true) :
    qrd g q (qwr f q v s) = qrd g q s := by
  unfold qrd qwr
  split
  · exact rd_wr_of_apart s (f := { f with reg := .fxeCq }) (g := { g with reg := .fxeCq }) .endpoint 0 0 v rfl h
  · exact rd_wr_of_apart s .endpoint q q v hr h

@[simp] theorem qwr_e (f : Field) (v : Nat) : (qwr f q v s).e = s.e := by
  unfold qwr
  split <;> rfl

theorem epQueue_qwr (f : Field) (k v : Nat) : epQueue k (qwr f q v s) = epQueue k s := by rw [epQueue, qwr_e, epQueue]

theorem txnConts_qwr (f : Field) (v : Nat) : txnConts (qwr f q v s) = txnConts s := by rw [txnConts, qwr_e, txnConts]

theorem getLsbD_raiseVector {v : Nat} (h : v < 64) : ((raiseVector v s).word .endpoint .fxeIntStatus 0 0).getLsbD v = true := by
  have hbit : ((s.setWord .endpoint .fxeIntStatus 0 0 (s.word .endpoint .fxeIntStatus 0 0 ||| (1#64 <<< v))).word
      .endpoint .fxeIntStatus 0 0).getLsbD v = true := by simp [h]
  unfold raiseVector
  dsimp only
  split
  · rwa [word_emit]
  · exact hbit

/-! ### The transport's completions stay where a request is answered or refused (R186, R192) -/

section

variable (sd : Side) (p : Packet)

theorem finished_onDstSpace (src dst : Eid) (stream : BitVec 4) (f : DstSpace → DstSpace) :
    ((onDstSpace sd src dst stream f s).xpt sd).finished = (s.xpt sd).finished := by simp [onDstSpace]

theorem finished_sendAck (src dst : Eid) (stream : BitVec 4) :
    ((sendAck sd src dst stream s).xpt sd).finished = (s.xpt sd).finished := by
  unfold sendAck
  dsimp only
  rw [(sendFrom_ev sd _ _).xpt sd (by cases sd <;> rfl), finished_onDstSpace]

theorem finished_sendNack (st : Status) : ((sendNack sd st p s).xpt sd).finished = (s.xpt sd).finished := by
  rw [(sendNack_ev sd st p s).xpt sd (by cases sd <;> rfl)]

theorem finished_sendResponse (st : Status) (payload : List Byte) (opx : Nat) :
    ((sendResponse sd p st payload opx s).xpt sd).finished = (s.xpt sd).finished := by
  rw [(sendResponse_ev sd p st payload opx s).xpt sd (by cases sd <;> rfl)]

theorem finished_delivered : ((delivered sd p s).xpt sd).finished = (s.xpt sd).finished := by
  unfold delivered
  dsimp only
  split
  · rw [finished_sendAck, finished_onDstSpace, xpt_onXpt]
  · rw [finished_onDstSpace, xpt_onXpt]

theorem finished_refuseVersion : ((refuseVersion sd p s).xpt sd).finished = (s.xpt sd).finished := by
  unfold refuseVersion
  rw [finished_delivered]
  split
  · exact finished_sendResponse s sd p stVersion [] 0
  · exact finished_sendNack s sd p stVersion

theorem finished_releaseHeld (src dst : Eid) (stream : BitVec 4) (n : Nat) (s : State) :
    ((releaseHeld sd src dst stream n s).xpt sd).finished = (s.xpt sd).finished := by
  induction n generalizing s with
  | zero => rfl
  | succ n ih =>
    unfold releaseHeld
    dsimp only
    split
    · rfl
    · split
      · rw [ih, finished_refuseVersion, finished_onDstSpace]
      · rw [xpt_onXpt, finished_onDstSpace]

theorem finished_deliver : ((deliver sd p s).xpt sd).finished = (s.xpt sd).finished := by
  unfold deliver
  dsimp only
  split
  · exact finished_delivered s sd p
  · rw [finished_releaseHeld, finished_delivered]

theorem finished_refuseSegment (st : Status) :
    ((refuseSegment p st s).xpt .endpoint).finished = (s.xpt .endpoint).finished := by
  unfold refuseSegment
  split
  · rw [finished_sendNack, xpt_onXpt]
  · rw [finished_deliver, finished_sendNack]

end

end Sys2Proof.Machine

/-! ## Fences and segments (R204, R311, R378, R509) -/

namespace Sys2Proof.Machine

variable {s : State} {ctx atag port : Nat} {p : Packet}

theorem unlessRetired_of_free (h : ctxRetired ctx s = false) (f : State → State) : unlessRetired ctx f s = f s :=
  if_neg (by simp [h])

theorem unlessRetired_of_retired (h : ctxRetired ctx s = true) (f : State → State) :
    unlessRetired ctx f s = bump .endpoint .secRetiredDropCnt 0 s := if_pos h

theorem fence_waits (h : ctxRetired ctx s = false) : Answers (.fence ctx atag) s fun t =>
    t.endpoint.xpt.fences = s.endpoint.xpt.fences ++ [{ id := s.endpoint.xpt.nextOp, ctx := ctx, use := .xq ctx atag 0 0 }]
      ∧ t.endpoint.xpt.nextOp = s.endpoint.xpt.nextOp + 1 ∧ OnlyChanges [.unit .endpoint .xpt] s t :=
  ⟨_, congrArg Host.Outcome.next (unlessRetired_of_free h _), rfl, rfl,
    onlyChanges (onXpt_ev s .endpoint _) _ (by unfold Sub; decide +kernel)⟩

theorem fence_dropped (h : ctxRetired ctx s = true) : Answers (.fence ctx atag) s fun t =>
    t.word .endpoint .secRetiredDropCnt 0 0 = countedWord (s.word .endpoint .secRetiredDropCnt 0 0) 1
      ∧ t.endpoint.xpt = s.endpoint.xpt :=
  ⟨_, congrArg Host.Outcome.next (unlessRetired_of_retired h _), word_bump _ _ _ _ rfl,
    (bump_ev .endpoint .secRetiredDropCnt 0 s rfl).xpt .endpoint (by decide +kernel)⟩

/-! ### Segments -/

theorem withRequest_of_waiting {sd : Side} (h : (findWork sd p s).isSome = true) (f : State → State) :
    withRequest sd port p f s = f s := by
  simp [withRequest, h]

/-- A segment waits at the endpoint block, whose transport has handed over everything that is complete. -/
def SegmentWaits (p : Packet) (s : State) : Prop :=
  p.opcode = 0x94 ∧ (s.endpoint.xpt.finished = [] ∧ s.module.xpt.finished = []) ∧ (findWork .endpoint p s).isSome = true

theorem dominoSeg_unchanged (h : p.opcode ≠ 0x94) : Answers (.dominoSeg port p) s fun t => t = s :=
  ⟨_, congrArg Host.Outcome.next (if_pos h), rfl⟩

theorem settle_refuseSegment (st : Status) (h : s.endpoint.xpt.finished = []) :
    settle .endpoint (refuseSegment p st s) = refuseSegment p st s :=
  settle_of_none_finished .endpoint _ ((finished_refuseSegment s p st).trans h)

/-- A segment that its checks refuse is answered with the status. -/
theorem dominoSeg_answers_refusal {q : Packet} {st : Status} {u : State} (hfin : u.endpoint.xpt.finished = [])
    (hexec : exec (.dominoSeg port p) s = .next (settle .endpoint (refuseSegment q st u))) :
    Answers (.dominoSeg port p) s fun t => t = refuseSegment q st u :=
  ⟨_, hexec, settle_refuseSegment st hfin⟩

theorem finished_checkRequest {c : Checked} {u : State} (h : checkRequest .endpoint p s = (c, u)) :
    u.endpoint.xpt.finished = s.endpoint.xpt.finished := by
  have hxpt := (checkRequest_ev .endpoint p s).xpt .endpoint rfl
  rw [h] at hxpt
  exact congrArg Transport.finished hxpt

theorem dominoSeg_refuses_unordered (hwaits : SegmentWaits p s) (hstream : p.stream = 0) :
    Answers (.dominoSeg port p) s fun t => t = refuseSegment p stAccessDenied s := by
  obtain ⟨hop, ⟨hfin, -⟩, hwork⟩ := hwaits
  refine dominoSeg_answers_refusal hfin ?_
  change execDominoSeg port p s = _
  simp only [execDominoSeg, hop, ne_eq, not_true_eq_false, if_false, withRequest_of_waiting hwork, if_pos hstream]

theorem dominoSeg_refuses_bad {st : Status} {u : State} (hwaits : SegmentWaits p s) (hstream : p.stream ≠ 0)
    (hcheck : checkRequest .endpoint p s = (.bad st, u)) : Answers (.dominoSeg port p) s fun t => t = refuseSegment p st u := by
  obtain ⟨hop, ⟨hfin, -⟩, hwork⟩ := hwaits
  refine dominoSeg_answers_refusal ((finished_checkRequest hcheck).trans hfin) ?_
  change execDominoSeg port p s = _
  simp only [execDominoSeg, hop, ne_eq, not_true_eq_false, if_false, withRequest_of_waiting hwork, if_neg hstream, hcheck]

theorem dominoSeg_refuses_failing {q : Packet} {a : Nat} {rm : Bool} {u : State} (hwaits : SegmentWaits p s) (hstream : p.stream ≠ 0)
    (hcheck : checkRequest .endpoint p s = (.ok q a .ddr rm, u)) (hbad : segmentChecks q u ≠ []) :
    Answers (.dominoSeg port p) s fun t => t = refuseSegment p (reportStatus (segmentChecks q u)).1 u := by
  obtain ⟨hop, ⟨hfin, -⟩, hwork⟩ := hwaits
  refine dominoSeg_answers_refusal ((finished_checkRequest hcheck).trans hfin) ?_
  change execDominoSeg port p s = _
  simp only [execDominoSeg, hop, ne_eq, not_true_eq_false, if_false, withRequest_of_waiting hwork, if_neg hstream, hcheck]

/-- A segment that passes every check and does not reduce begins one write of its bytes. -/
theorem dominoSeg_begins_write {q : Packet} {a : Nat} {rm : Bool} (hwaits : SegmentWaits p s) (hstream : p.stream ≠ 0)
    (hcheck : checkRequest .endpoint p s = (.ok q a .ddr rm, s)) (hgood : segmentChecks q s = [])
    (hplain : q.opx.getLsbD 10 = false) : Answers (.dominoSeg port p) s fun t => txnConts t = txnConts s ++ [.domSeg port q]
      ∧ t.e.txns.getLast?.map (fun x => x.answers.length) = some ((q.payload.length + 255) / 256) := by
  obtain ⟨hop, ⟨hfin, -⟩, hwork⟩ := hwaits
  have hexec : exec (.dominoSeg port p) s
      = .next (settle .endpoint (memStore (.domSeg port q) q.poison a q.payload (startWork .endpoint q s))) := by
    change execDominoSeg port p s = _
    simp only [execDominoSeg, hop, ne_eq, not_true_eq_false, if_false, withRequest_of_waiting hwork, if_neg hstream, hcheck, hgood,
      applySegment, hplain, Bool.false_eq_true]
  have hnone : (memStore (.domSeg port q) q.poison a q.payload (startWork .endpoint q s)).endpoint.xpt.finished = [] := by
    rw [memStore_xpt]
    exact hfin
  refine ⟨_, hexec, ?_⟩
  rw [settle_of_none_finished .endpoint _ hnone]
  refine ⟨?_, answers_memStore ..⟩
  rw [txnConts_memStore]
  rfl

end Sys2Proof.Machine

/-! ## Triggered operations (R375, R376, R377, R379) -/

namespace Sys2Proof.Machine

variable {s : State} {ctx atag n : Nat} {data : List Byte}

/-! ### Posting (R376) -/

/-- The completion on XR of a post. -/
def xrShows (ctx atag : Nat) (st : Status) (t : State) : Prop :=
  t.endpoint.out.getLast? = some (.xr (ctx / 32) atag st (if st = stOk then outApplied else outNotApplied) false false 0 [])

theorem xrStatus_shows (ctx atag : Nat) (st : Status) (s : State) : xrShows ctx atag st (xrStatus ctx atag st s) :=
  List.getLast?_concat ..

theorem postTrig_of_reserved (h : trigReserved data = true) : postTrig data s = (stAccessDenied, s) := if_pos h

theorem postTrig_of_full (h : trigReserved data = false) (hfull : 4096 ≤ domPlaces s.e) : postTrig data s = (stResource, s) := by
  simp [postTrig, h, hfull]

/-- The operation that a post adds at the end of those that wait. -/
def withTrig (t : TrigOp) (s : State) : State := s.onE fun e => { e with nextTrig := e.nextTrig + 1, trig := e.trig ++ [t] }

theorem postTrig_of_room (h : trigReserved data = false) (hroom : domPlaces s.e < 4096) :
    postTrig data s = (stOk, domPending (if domErr (trigOf data s.e.nextTrig).counter s
      then domDiscard (trigOf data s.e.nextTrig).counter (withTrig (trigOf data s.e.nextTrig) s)
      else domReach (trigOf data s.e.nextTrig).counter (withTrig (trigOf data s.e.nextTrig) s))) := by
  unfold postTrig
  rw [if_neg (by simp [h]), if_neg (by omega)]
  rfl

theorem rd_domPending (h : domPlaces s.e < 8192) : (domPending s).rd .endpoint Fld.fxeDomStatusPending 0 = domPlaces s.e :=
  rd_wr_lit .endpoint s Fld.fxeDomStatusPending 0 _ (by decide) (by decide) h

/-- An operation waits on a counter and its threshold is reached. -/
def domHit (n v : Nat) (t : TrigOp) : Bool := decide (t.counter = n) && decide (t.threshold ≤ v)

/-- Where a counter is not in error, the operations that it has reached move behind those reached before. -/
theorem domReach_of_ok (h : domErr n s = false) : domReach n s = s.onE fun e =>
    { e with reached := e.reached ++ e.trig.filter (domHit n (domValue n s)),
             trig := e.trig.filter fun t => !domHit n (domValue n s) t } := if_neg (by simp [h])

theorem trigPost_refuses {st : Status} (hpost : postTrig data s = (st, s)) :
    Answers (.trigPost ctx atag data) s fun t => xrShows ctx atag st t ∧ t.e = s.e := by
  refine ⟨xrStatus ctx atag (postTrig data s).1 (postTrig data s).2, rfl, ?_⟩
  rw [hpost]
  exact ⟨xrStatus_shows .., rfl⟩

/-- A post that is taken shows OK, and its places and PENDING are those of the state in which it has been entered. -/
theorem trigPost_leaves {u : State} {trig reached : List TrigOp} {places : Nat} (hpost : postTrig data s = (stOk, domPending u))
    (hleft : u.e.trig = trig ∧ u.e.reached = reached ∧ domPlaces u.e = places) (hlt : places < 8192) :
    Answers (.trigPost ctx atag data) s fun t => xrShows ctx atag stOk t ∧ t.e.trig = trig ∧ t.e.reached = reached
      ∧ t.rd .endpoint Fld.fxeDomStatusPending = places := by
  obtain ⟨htrig, hreached, rfl⟩ := hleft
  refine ⟨xrStatus ctx atag (postTrig data s).1 (postTrig data s).2, rfl, ?_⟩
  rw [hpost]
  exact ⟨xrStatus_shows .., htrig, hreached, (rd_emit _ _ _ _ _ _).trans (rd_domPending hlt)⟩

section

variable {t : TrigOp} (hnone : s.e.trig = [])

include hnone

/-- Where no other operation waits, a post to a counter without error either waits there or has reached its threshold (R376, R377). -/
theorem e_domReach_withTrig (herr : domErr t.counter s = false) : (domReach t.counter (withTrig t s)).e
    = { s.e with nextTrig := s.e.nextTrig + 1
                 reached := s.e.reached ++ if t.threshold ≤ domValue t.counter s then [t] else []
                 trig := if t.threshold ≤ domValue t.counter s then [] else [t] } := by
  have hvalue : domValue t.counter (withTrig t s) = domValue t.counter s := rfl
  have hsole : (withTrig t s).e.trig = [t] := by simp [withTrig, hnone]
  have hhit : domHit t.counter (domValue t.counter s) t = decide (t.threshold ≤ domValue t.counter s) := by simp [domHit]
  rw [domReach_of_ok (s := withTrig t s) herr, onE_e, hsole, hvalue]
  simp only [List.filter_cons, List.filter_nil, hhit, Bool.not_eq_true', decide_eq_false_iff_not, decide_eq_true_eq, ite_not]
  rfl

theorem domReach_withTrig_below (herr : domErr t.counter s = false) (hv : domValue t.counter s < t.threshold) :
    (domReach t.counter (withTrig t s)).e.trig = [t] ∧ (domReach t.counter (withTrig t s)).e.reached = s.e.reached
      ∧ domPlaces (domReach t.counter (withTrig t s)).e = domPlaces s.e + 1 := by
  rw [e_domReach_withTrig hnone herr, if_neg (by omega), if_neg (by omega)]
  simp only [domPlaces, hnone, List.append_nil, List.length_cons, List.length_nil, true_and]
  omega

theorem domReach_withTrig_reached (herr : domErr t.counter s = false) (hv : t.threshold ≤ domValue t.counter s) :
    (domReach t.counter (withTrig t s)).e.trig = [] ∧ (domReach t.counter (withTrig t s)).e.reached = s.e.reached ++ [t]
      ∧ domPlaces (domReach t.counter (withTrig t s)).e = domPlaces s.e + 1 := by
  rw [e_domReach_withTrig hnone herr, if_pos hv, if_pos hv]
  simp only [domPlaces, hnone, List.length_append, List.length_cons, List.length_nil, true_and]
  omega

/-- A post to a counter in error is discarded (R379). -/
theorem domDiscard_withTrig : (domDiscard t.counter (withTrig t s)).e.trig = []
    ∧ (domDiscard t.counter (withTrig t s)).e.reached = s.e.reached
    ∧ domPlaces (domDiscard t.counter (withTrig t s)).e = domPlaces s.e := by
  have he : (domDiscard t.counter (withTrig t s)).e
      = { (withTrig t s).e with trig := (withTrig t s).e.trig.filter fun x => decide (x.counter ≠ t.counter) } := rfl
  rw [he]
  simp [withTrig, hnone, domPlaces]

end

section

variable (hposted : trigReserved data = false ∧ domPlaces s.e < 4096 ∧ s.e.trig = [])

include hposted

theorem trigPost_waits (herr : domErr (trigOf data s.e.nextTrig).counter s = false)
    (hv : domValue (trigOf data s.e.nextTrig).counter s < (trigOf data s.e.nextTrig).threshold) :
    Answers (.trigPost ctx atag data) s fun t => xrShows ctx atag stOk t ∧ t.e.trig = [trigOf data s.e.nextTrig]
      ∧ t.e.reached = s.e.reached ∧ t.rd .endpoint Fld.fxeDomStatusPending = domPlaces s.e + 1 := by
  obtain ⟨hgood, hroom, hnone⟩ := hposted
  have hpost := postTrig_of_room hgood hroom
  rw [if_neg (by simp [herr])] at hpost
  exact trigPost_leaves hpost (domReach_withTrig_below hnone herr hv) (by omega)

theorem trigPost_reaches (herr : domErr (trigOf data s.e.nextTrig).counter s = false)
    (hv : (trigOf data s.e.nextTrig).threshold ≤ domValue (trigOf data s.e.nextTrig).counter s) :
    Answers (.trigPost ctx atag data) s fun t => xrShows ctx atag stOk t ∧ t.e.trig = []
      ∧ t.e.reached = s.e.reached ++ [trigOf data s.e.nextTrig]
      ∧ t.rd .endpoint Fld.fxeDomStatusPending = domPlaces s.e + 1 := by
  obtain ⟨hgood, hroom, hnone⟩ := hposted
  have hpost := postTrig_of_room hgood hroom
  rw [if_neg (by simp [herr])] at hpost
  exact trigPost_leaves hpost (domReach_withTrig_reached hnone herr hv) (by omega)

theorem trigPost_discards (herr : domErr (trigOf data s.e.nextTrig).counter s = true) :
    Answers (.trigPost ctx atag data) s fun t => xrShows ctx atag stOk t ∧ t.e.trig = [] ∧ t.e.reached = s.e.reached
      ∧ t.rd .endpoint Fld.fxeDomStatusPending = domPlaces s.e := by
  obtain ⟨hgood, hroom, hnone⟩ := hposted
  have hpost := postTrig_of_room hgood hroom
  rw [if_pos herr] at hpost
  exact trigPost_leaves hpost (domDiscard_withTrig hnone) (by omega)

end

/-! ### Firing (R377) -/

variable {r : TrigOp} {l : List TrigOp}

/-- The state with the first operation that has reached its threshold among those that have fired. -/
def takeReached (r : TrigOp) (l : List TrigOp) (s : State) : State :=
  s.onE fun e => { e with reached := l, fired := e.fired ++ [{ op := r, left := 1 }] }

theorem triggeredOpFire_unchanged (hquiet : s.endpoint.xpt.finished = [] ∧ s.module.xpt.finished = []) (hnone : s.e.reached = []) :
    Answers .triggeredOpFire s fun t => t = s := by
  refine ⟨_, rfl, ?_⟩
  simp only [fireTrig, hnone]
  exact settle_of_none_finished .endpoint s hquiet.1

theorem triggeredOpFire_writes (hquiet : s.endpoint.xpt.finished = [] ∧ s.module.xpt.finished = []) (hreached : s.e.reached = r :: l)
    (hfired : s.e.fired = []) (haction : r.action = 2) : Answers .triggeredOpFire s fun t =>
      t.e.reached = l ∧ t.e.fired = [{ op := r, left := 1 }] ∧ txnConts t = txnConts s ++ [.domWord r.id] := by
  have hexec : fireTrig s = memStore (.domWord r.id) false r.dstAddr (leBytes 8 r.len) (takeReached r l s) := by
    simp only [fireTrig, hreached, haction]
    rfl
  have hev := memStore_ev (.domWord r.id) false r.dstAddr (leBytes 8 r.len) (takeReached r l s)
  have hnone : (memStore (.domWord r.id) false r.dstAddr (leBytes 8 r.len) (takeReached r l s)).endpoint.xpt.finished = [] := by
    rw [memStore_xpt]
    exact hquiet.1
  refine ⟨_, rfl, ?_⟩
  rw [hexec, settle_of_none_finished .endpoint _ hnone]
  exact ⟨hev.part (.ep .reached) rfl, (hev.fired rfl).trans (congrArg (· ++ [_]) hfired), txnConts_memStore ..⟩

theorem triggeredOpFire_counts (hquiet : s.endpoint.xpt.finished = [] ∧ s.module.xpt.finished = []) (hreached : s.e.reached = r :: l)
    (hfired : s.e.fired = []) (haction : r.action = 3) : Answers .triggeredOpFire s fun t =>
      t.e.reached = l ∧ t.e.fired = [{ op := r, left := 0 }] ∧ t.e.txns = s.e.txns := by
  have hexec : fireTrig s = trigEnds r.id 1 stOk (takeReached r l s) := by
    simp only [fireTrig, hreached, haction]
    rfl
  refine ⟨_, rfl, ?_⟩
  rw [hexec, settle_of_none_finished .endpoint (trigEnds r.id 1 stOk (takeReached r l s)) hquiet.1]
  refine ⟨rfl, ?_, rfl⟩
  simp [trigEnds, takeReached, hfired]

/-! ### Completion and a counter's error (R377, R379) -/

variable {run : TrigRun}

theorem triggeredOpComplete_unchanged (hnone : s.e.fired.find? (fun r => decide (r.left = 0)) = none) :
    Answers .triggeredOpComplete s fun t => t = s := by
  refine ⟨_, rfl, ?_⟩
  rw [hnone]

/-- The place of a fired operation is freed. -/
def freeFired (run : TrigRun) (s : State) : State :=
  domPending (s.onE fun e => { e with fired := e.fired.filter fun x => decide (x.op.id ≠ run.op.id) })

theorem domValue_freeFired (n : Nat) (run : TrigRun) (s : State) : domValue n (freeFired run s) = domValue n s :=
  (domPending_ev _).rd .endpoint Fld.fxeDomCtrValue rfl n

theorem domValue_domCount (n : Nat) (s : State) : domValue n (domCount n s) = (domValue n s + 1) % 2 ^ 32 :=
  ((domReach_ev n _).rd .endpoint Fld.fxeDomCtrValue rfl n).trans
    (rd_wr_same s .endpoint Fld.fxeDomCtrValue n (domValue n s + 1) (by decide) (by decide))

theorem fired_domReach (n : Nat) (s : State) : (domReach n s).e.fired = s.e.fired := (domReach_ev n s).fired rfl

theorem triggeredOpComplete_counts (hfind : s.e.fired.find? (fun r => decide (r.left = 0)) = some run) (hok : run.statuses = [])
    (hdone : run.op.done = some n) : Answers .triggeredOpComplete s fun t =>
      t.e.fired = (s.e.fired.filter fun x => decide (x.op.id ≠ run.op.id)) ∧ domValue n t = (domValue n s + 1) % 2 ^ 32 := by
  have hexec : completeTrig run s = domPending (domCount n (freeFired run s)) := by
    simp only [completeTrig, hok, hdone]
    rfl
  refine ⟨_, rfl, ?_⟩
  simp only [hfind]
  rw [hexec]
  constructor
  · exact fired_domReach n _
  · exact ((domPending_ev _).rd .endpoint Fld.fxeDomCtrValue rfl n).trans
      ((domValue_domCount n _).trans (by rw [domValue_freeFired]))

/-- A counter with its error set. -/
def failedCounter (n : Nat) (st : Status) (s : State) : State :=
  (s.wr .endpoint Fld.fxeDomCtrErrStatus n st.toNat).wrb .endpoint Fld.fxeDomCtrErr n true

theorem domErr_failedCounter (n : Nat) (st : Status) (s : State) : domErr n (failedCounter n st s) = true := by
  unfold domErr failedCounter
  rw [rdb_def, rd_wrb_lit _ _ _ _ _ (by decide) (by decide)]
  rfl

theorem errStatus_failedCounter (n : Nat) (st : Status) (s : State) :
    (failedCounter n st s).rd .endpoint Fld.fxeDomCtrErrStatus n = st.toNat := by
  unfold failedCounter
  rw [rd_wrb_field _ _ Fld.fxeDomCtrErr Fld.fxeDomCtrErrStatus n true rfl rfl (.inl (by decide)),
    rd_wr_lit _ _ _ _ _ (by decide) (by decide) st.isLt]

/-- A counter's error (R379): ERR with the status and vector 5; what has fired stays. -/
theorem domFail_shows (n : Nat) (st : Status) (s : State) : domErr n (domFail n st s) = true
    ∧ (domFail n st s).rd .endpoint Fld.fxeDomCtrErrStatus n = st.toNat
    ∧ ((domFail n st s).word .endpoint .fxeIntStatus 0 0).getLsbD 5 = true ∧ (domFail n st s).e.fired = s.e.fired := by
  obtain ⟨e, he⟩ : ∃ e, domFail n st s = domDiscard n (raiseVector 5 (logEvent .endpoint e (failedCounter n st s))) := ⟨_, rfl⟩
  have hlog := logEvent_ev .endpoint e (failedCounter n st s)
  have hraise := raiseVector_ev 5 (logEvent .endpoint e (failedCounter n st s)) (by decide)
  have hdiscard := domDiscard_ev n (raiseVector 5 (logEvent .endpoint e (failedCounter n st s)))
  rw [he]
  refine ⟨?_, ?_, ?_, ?_⟩
  · exact (hdiscard.rdb .endpoint Fld.fxeDomCtrErr rfl n).trans ((hraise.rdb .endpoint Fld.fxeDomCtrErr rfl n).trans
      ((hlog.rdb .endpoint Fld.fxeDomCtrErr rfl n).trans (domErr_failedCounter n st s)))
  · rw [hdiscard.rd .endpoint _ rfl, hraise.rd .endpoint _ rfl, hlog.rd .endpoint _ rfl, errStatus_failedCounter]
  · rw [hdiscard.word .endpoint .fxeIntStatus rfl]
    exact getLsbD_raiseVector _ (by decide)
  · exact (hdiscard.fired rfl).trans ((hraise.fired rfl).trans (hlog.fired rfl))

theorem triggeredOpComplete_fails (hfind : s.e.fired.find? (fun r => decide (r.left = 0)) = some run) (hbad : run.statuses ≠ []) :
    Answers .triggeredOpComplete s fun t => domErr (run.op.done.getD run.op.counter) t = true
      ∧ t.rd .endpoint Fld.fxeDomCtrErrStatus (run.op.done.getD run.op.counter) = (reportStatus run.statuses).1.toNat
      ∧ (t.word .endpoint .fxeIntStatus 0 0).getLsbD 5 = true
      ∧ t.e.fired = s.e.fired.filter fun x => decide (x.op.id ≠ run.op.id) := by
  have hexec : completeTrig run s = domFail (run.op.done.getD run.op.counter) (reportStatus run.statuses).1 (freeFired run s) := by
    unfold completeTrig
    split
    · exact absurd ‹_› hbad
    · exact absurd ‹_› hbad
    · rfl
  refine ⟨_, rfl, ?_⟩
  simp only [hfind]
  rw [hexec]
  exact domFail_shows ..

/-! ### Writes of a counter (R375) -/

/-- A counter as a write leaves it: its value, no error and its check state anew. -/
def writtenCounter (n v : Nat) (s : State) : State :=
  setDomCheck n checkStart (((s.wr .endpoint Fld.fxeDomCtrValue n v).wrb .endpoint Fld.fxeDomCtrErr n false).wr
    .endpoint Fld.fxeDomCtrErrStatus n 0)

theorem domValue_writtenCounter (n v : Nat) (s : State) : domValue n (writtenCounter n v s) = v % 2 ^ 32 := by
  unfold domValue writtenCounter
  rw [(setDomCheck_ev n checkStart _).rd .endpoint Fld.fxeDomCtrValue rfl,
    rd_wr_field _ _ Fld.fxeDomCtrErrStatus Fld.fxeDomCtrValue n 0 rfl rfl (.inl (by decide)),
    rd_wrb_field _ _ Fld.fxeDomCtrErr Fld.fxeDomCtrValue n false rfl rfl (.inl (by decide)),
    rd_wr_same _ _ _ _ _ (by decide) (by decide)]
  rfl

theorem domErr_writtenCounter (n v : Nat) (s : State) : domErr n (writtenCounter n v s) = false := by
  unfold domErr writtenCounter
  rw [(setDomCheck_ev n checkStart _).rdb .endpoint Fld.fxeDomCtrErr rfl, rdb_def,
    rd_wr_field _ _ Fld.fxeDomCtrErrStatus Fld.fxeDomCtrErr n 0 rfl rfl (.inr (by decide)),
    rd_wrb_lit _ _ _ _ _ (by decide) (by decide)]
  rfl

theorem domCheck_writtenCounter (n v : Nat) (s : State) : domCheck n (writtenCounter n v s) = checkStart :=
  smapGet_put_same s.e.domCheck checkStart n checkStart

theorem Ev.domCheck {F : Nat} {s t : State} (h : Ev F s t) (hb : F.testBit (Part.ep .domCheck).idx = false) (n : Nat) :
    domCheck n t = domCheck n s := congrArg (fun l => smapGet l checkStart n) (h.part (.ep .domCheck) hb)

theorem domCtrWrite_writes (n v : Nat) (s : State) : Answers (.domCtrWrite n v) s fun t =>
    domValue n t = v % 2 ^ 32 ∧ domErr n t = false ∧ domCheck n t = checkStart
      ∧ OnlyChanges [.reg .endpoint .fxeDomCtr, .reg .endpoint .fxeDomStatus, .ep .domCheck, .ep .trig, .ep .reached] s t := by
  have hreach := domReach_ev n (writtenCounter n v s)
  have hpending := domPending_ev (domReach n (writtenCounter n v s))
  refine ⟨domPending (domReach n (writtenCounter n v s)), rfl, ?_, ?_, ?_, ?_⟩
  · exact (hpending.rd .endpoint Fld.fxeDomCtrValue rfl n).trans
      ((hreach.rd .endpoint Fld.fxeDomCtrValue rfl n).trans (domValue_writtenCounter n v s))
  · exact (hpending.rdb .endpoint Fld.fxeDomCtrErr rfl n).trans
      ((hreach.rdb .endpoint Fld.fxeDomCtrErr rfl n).trans (domErr_writtenCounter n v s))
  · exact (hpending.domCheck rfl n).trans ((hreach.domCheck rfl n).trans (domCheck_writtenCounter n v s))
  · have hperm : domCtrWriteTouches.Perm
        [.reg .endpoint .fxeDomCtr, .reg .endpoint .fxeDomStatus, .ep .domCheck, .ep .trig, .ep .reached] := by decide
    exact fun x hx => onlyChanges (exec_next_ev rfl) _ (touched_bits (.domCtrWrite n v)) x (mt hperm.mem_iff.mp hx)

end Sys2Proof.Machine

/-! ## DMA queues (R380, R381, R382) -/

namespace Sys2Proof.Machine

variable {s : State} {q tail : Nat}

/-! ### Fetching (R380) -/

/-- A queue that is off fetches nothing. -/
theorem fetchNext_of_off (active : Nat) (h : qrd Fld.fxeDmaqEn q s = 0) : fetchNext q active s = s := if_pos (.inl h)

/-- A queue may fetch: it is on, a descriptor waits, no fetch is under way or has failed, and it has room. -/
def mayFetch (q active : Nat) (s : State) : Prop :=
  qrd Fld.fxeDmaqEn q s ≠ 0 ∧ qrd Fld.fxeDmaqHead q s ≠ qrd Fld.fxeDmaqTail q s % 2 ^ qrd Fld.fxeDmaqSizeLog2 q s
    ∧ (epQueue q s).fetching = false ∧ (epQueue q s).failed = none
    ∧ (epQueue q s).fetched.length + (epQueue q s).descs.length + active < queueLimit q

/-- A queue whose fetch is under way. -/
def fetchBegun (k : EpQueue) : EpQueue := { k with fetching := true }

/-- The load of the descriptor at HEAD. -/
theorem fetchNext_of_mayFetch {active : Nat} (h : mayFetch q active s) : fetchNext q active s
    = memLoad (.fetch q) (64 * qrd Fld.fxeDmaqBase q s + 64 * qrd Fld.fxeDmaqHead q s) 64 (onQueue q fetchBegun s) := by
  obtain ⟨hen, hhead, hfetching, hfailed, hroom⟩ := h
  refine if_neg ?_
  simpa [hen, hhead, hfetching, hfailed] using hroom

/-- Whether a queue fetches or not, its descriptors stay, and one transaction at most begins. -/
theorem fetchNext_keeps (q active : Nat) (s : State) : (epQueue q (fetchNext q active s)).descs = (epQueue q s).descs
    ∧ txnConts s <+: txnConts (fetchNext q active s) := by
  unfold fetchNext
  dsimp only
  split
  · exact ⟨rfl, List.prefix_rfl⟩
  · constructor
    · rw [(memLoad_ev _ _ _ _).epQueue rfl, epQueue_onQueue]
    · rw [txnConts_memLoad]
      exact List.prefix_append ..

theorem dmaDoorbell_of_off (hoff : qrd Fld.fxeDmaqEn q s = 0) : Answers (.dmaDoorbell q tail) s fun t =>
    qrd Fld.fxeDmaqTail q t = tail % 2 ^ 16 ∧ t.e = s.e := by
  have hen : qrd Fld.fxeDmaqEn q (qwr Fld.fxeDmaqTail q tail s) = 0 := by
    rw [qrd_qwr_apart s q Fld.fxeDmaqTail Fld.fxeDmaqEn tail rfl (by decide), hoff]
  refine ⟨_, congrArg Host.Outcome.next (fetchNext_of_off _ hen), ?_, qwr_e ..⟩
  rw [qrd_qwr_same s q _ _ (by decide) (by decide)]
  rfl

theorem dmaDoorbell_fetches (hq : q < 32) (hon : qrd Fld.fxeDmaqEn q s = 1)
    (hwaits : qrd Fld.fxeDmaqHead q s ≠ tail % 2 ^ 16 % 2 ^ qrd Fld.fxeDmaqSizeLog2 q s) (hidle : (epQueue q s).fetching = false)
    (hfailed : (epQueue q s).failed = none) (hroom : (epQueue q s).fetched.length + (epQueue q s).descs.length < 16) :
    Answers (.dmaDoorbell q tail) s fun t => qrd Fld.fxeDmaqTail q t = tail % 2 ^ 16 ∧ (epQueue q t).fetching = true
      ∧ txnConts t = txnConts s ++ [.fetch q] := by
  have htail : qrd Fld.fxeDmaqTail q (qwr Fld.fxeDmaqTail q tail s) = tail % 2 ^ 16 := qrd_qwr_same s q _ _ (by decide) (by decide)
  have hmay : mayFetch q 0 (qwr Fld.fxeDmaqTail q tail s) := by
    have hq32 : q ≠ 32 := by omega
    unfold mayFetch
    rw [htail, epQueue_qwr, qrd_qwr_apart s q Fld.fxeDmaqTail Fld.fxeDmaqEn tail rfl (by decide),
      qrd_qwr_apart s q Fld.fxeDmaqTail Fld.fxeDmaqHead tail rfl (by decide),
      qrd_qwr_apart s q Fld.fxeDmaqTail Fld.fxeDmaqSizeLog2 tail rfl (by decide), hon]
    exact ⟨by decide, hwaits, hidle, hfailed, by simpa [queueLimit, hq32] using hroom⟩
  have hactive : activeDescs q (qwr Fld.fxeDmaqTail q tail s) = 0 := if_neg (by omega)
  have hexec : exec (.dmaDoorbell q tail) s = .next (fetchNext q 0 (qwr Fld.fxeDmaqTail q tail s)) := by
    change Host.Outcome.next (fetchNext q (activeDescs q (qwr Fld.fxeDmaqTail q tail s)) _) = _
    rw [hactive]
  refine ⟨_, hexec, ?_⟩
  rw [fetchNext_of_mayFetch hmay]
  have hload (a : Nat) := memLoad_ev (.fetch q) a 64 (onQueue q fetchBegun (qwr Fld.fxeDmaqTail q tail s))
  have hmark := onQueue_ev q fetchBegun (qwr Fld.fxeDmaqTail q tail s)
  refine ⟨?_, ?_, ?_⟩
  · rw [(hload _).qrd _ rfl rfl, hmark.qrd _ rfl rfl, htail]
  · rw [(hload _).epQueue rfl, epQueue_onQueue, fetchBegun]
  · rw [txnConts_memLoad, hmark.txnConts rfl, txnConts_qwr]

/-! ### Descriptors (R381) -/

/-- The state with the first of a queue's fetched descriptors taken. -/
def takeFetched (q : Nat) (l : List (List Byte)) (s : State) : State := onQueue q (fun k => { k with fetched := l }) s

theorem dmaDescriptor_unchanged (hquiet : s.endpoint.xpt.finished = [] ∧ s.module.xpt.finished = [])
    (hnone : 32 ≤ q ∨ (epQueue q s).fetched = []) : Answers (.dmaDescriptor q) s fun t => t = s := by
  refine ⟨_, rfl, ?_⟩
  split
  · next hq =>
    have hfetched : (epQueue q s).fetched = [] := hnone.resolve_left (by omega)
    simp only [startNextDma, hfetched]
    exact settle_of_none_finished .endpoint s hquiet.1
  · rfl

/-- A queue with one more descriptor in progress. -/
def addDesc (q : Nat) (e : DmaDesc) (s : State) : State :=
  onQueue q (fun k => { k with nextSerial := k.nextSerial + 1, descs := k.descs ++ [e] }) s

section

variable {d : List Byte}

/-- A descriptor with a reserved field has ended when it starts, and sends nothing. -/
theorem startDma_of_reserved (hbad : dmaReserved d = true) : ∃ e : DmaDesc, e.serial = (epQueue q s).nextSerial ∧ e.left = 0
    ∧ e.statuses = [stAccessDenied] ∧ startDma q d s = addDesc q e s := by
  unfold startDma
  simp only [hbad, if_true, List.isEmpty_cons, Bool.false_eq_true, if_false]
  exact ⟨_, rfl, rfl, rfl, rfl⟩

/-- A descriptor that writes out and may send is one packet per piece of its transfer. -/
theorem startDma_of_write {n : Nat} (hgood : dmaReserved d = false) (hop : leNat (slice d 0 1) % 16 = 0)
    (hfree : ctxRetired (64 + q) s = false)
    (hmay : sendChecks (64 + q) (gfaEid (leNat (slice d 16 8))) 0x80 (leNat (slice d 1 1)) s = [])
    (hcuts : pageCuts (gfaOff (leNat (slice d 16 8))) (leNat (slice d 4 4)) = [(0, n)]) :
    ∃ e : DmaDesc, e.serial = (epQueue q s).nextSerial ∧ e.left = 1 ∧ startDma q d s
      = dmaPacket q e.serial true (BitVec.ofNat 4 (leNat (slice d 1 1))) e.localAddr e.remote (addDesc q e s) (0, n) := by
  unfold startDma
  simp only [hgood, hop, hfree, hmay, hcuts, decide_true, Bool.false_eq_true, if_true, if_false, List.isEmpty_nil]
  exact ⟨_, rfl, rfl, rfl⟩

/-- An operation whose data is not at hand takes its place in issue order and waits there. -/
theorem issueOp_of_unready {sd : Side} (ctx : Option Nat) (use : OpUse) (p : Packet)
    (hids : ∀ o ∈ (s.xpt sd).ops, o.id < (s.xpt sd).nextOp) : issueOp sd ctx use false p s = s.onXpt sd fun x =>
      { x with nextOp := x.nextOp + 1
               ops := x.ops ++ [{ id := x.nextOp, ctx := ctx, use := use, pkt := p, ready := false }] } := by
  have hnew : (s.xpt sd).ops.find? (fun o => decide (o.id = (s.xpt sd).nextOp)) = none :=
    List.find?_eq_none.mpr fun o ho => by simpa using (hids o ho).ne
  unfold issueOp tryIssue
  dsimp only
  rw [xpt_onXpt, List.find?_append, hnew]
  simp only [Option.none_or, List.find?_cons, decide_true, mayIssue, Bool.not_false, Bool.or_true, Bool.true_or, if_true]
  rfl

variable {l : List (List Byte)} (hq : q < 32) (hfetched : (epQueue q s).fetched = d :: l)
  (hfence : (dmaFence d && !(epQueue q s).descs.isEmpty) = false) (hquiet : s.endpoint.xpt.finished = [] ∧ s.module.xpt.finished = [])

include hq hfetched hfence hquiet

/-- A fetched descriptor starts where no fence holds it. -/
theorem exec_dmaDescriptor {t : State} (hstart : startDma q d (takeFetched q l s) = t)
    (hfin : t.endpoint.xpt.finished = s.endpoint.xpt.finished) : exec (.dmaDescriptor q) s = .next t := by
  change Host.Outcome.next (if q < 32 then settle .endpoint (startNextDma q s) else s) = _
  rw [← settle_of_none_finished .endpoint t (hfin.trans hquiet.1), ← hstart]
  simp only [if_pos hq, startNextDma, hfetched, hfence]
  rfl

theorem dmaDescriptor_refuses (hbad : dmaReserved d = true) :
    Answers (.dmaDescriptor q) s fun t => (epQueue q t).fetched = l ∧ t.endpoint.xpt = s.endpoint.xpt
      ∧ (epQueue q t).descs.map (fun x => (x.serial, x.left, x.statuses))
        = (epQueue q s).descs.map (fun x => (x.serial, x.left, x.statuses)) ++ [((epQueue q s).nextSerial, 0, [stAccessDenied])] := by
  obtain ⟨e, hserial, hleft, hstatus, hstart⟩ := startDma_of_reserved (q := q) (s := takeFetched q l s) hbad
  refine ⟨_, exec_dmaDescriptor hq hfetched hfence hquiet hstart rfl, ?_⟩
  have hqueue : epQueue q (takeFetched q l s) = { epQueue q s with fetched := l } := epQueue_onQueue ..
  rw [hqueue] at hserial
  simp only [addDesc, epQueue_onQueue, hqueue, List.map_append, List.map_cons, List.map_nil, hserial, hleft, hstatus, true_and, and_true]
  rfl

theorem dmaDescriptor_writes {n : Nat} (hgood : dmaReserved d = false) (hop : leNat (slice d 0 1) % 16 = 0)
    (hfree : ctxRetired (64 + q) s = false)
    (hmay : sendChecks (64 + q) (gfaEid (leNat (slice d 16 8))) 0x80 (leNat (slice d 1 1)) s = [])
    (hcuts : pageCuts (gfaOff (leNat (slice d 16 8))) (leNat (slice d 4 4)) = [(0, n)])
    (hids : ∀ o ∈ s.endpoint.xpt.ops, o.id < s.endpoint.xpt.nextOp) : Answers (.dmaDescriptor q) s fun t =>
      (epQueue q t).descs.map (fun x => (x.serial, x.left))
          = (epQueue q s).descs.map (fun x => (x.serial, x.left)) ++ [((epQueue q s).nextSerial, 1)]
        ∧ t.endpoint.xpt.ops.map (fun o => (o.id, o.ctx, o.ready))
          = s.endpoint.xpt.ops.map (fun o => (o.id, o.ctx, o.ready)) ++ [(s.endpoint.xpt.nextOp, some (64 + q), false)]
        ∧ txnConts t = txnConts s ++ [.dmaOut s.endpoint.xpt.nextOp] := by
  obtain ⟨e, hserial, hleft, hstart⟩ := startDma_of_write (q := q) (s := takeFetched q l s) hgood hop hfree hmay hcuts
  have hqueue : epQueue q (takeFetched q l s) = { epQueue q s with fetched := l } := epQueue_onQueue ..
  rw [hqueue] at hserial
  simp only [dmaPacket, if_true, issueOp_of_unready (s := addDesc q e (takeFetched q l s)) (sd := .endpoint) _ _ _ hids] at hstart
  refine ⟨_, exec_dmaDescriptor hq hfetched hfence hquiet hstart (by rw [memLoad_xpt]; rfl), ?_, ?_, ?_⟩
  · rw [(memLoad_ev ..).epQueue rfl]
    change (epQueue q (addDesc q e (takeFetched q l s))).descs.map _ = _
    simp only [addDesc, epQueue_onQueue, hqueue, List.map_append, List.map_cons, List.map_nil, hserial, hleft]
  · rw [memLoad_xpt]
    exact List.map_append
  · rw [txnConts_memLoad]
    rfl

end

/-! ### Ends of descriptors and of fetches (R380, R382) -/

section

variable {d : DmaDesc} {l : List DmaDesc}

theorem dmaDescriptorDone_of_none (hnone : (epQueue q s).descs = []) : Answers (.dmaDescriptorDone q) s fun t => t = s := by
  refine ⟨_, rfl, ?_⟩
  rw [hnone]

theorem dmaDescriptorDone_of_left (hdescs : (epQueue q s).descs = d :: l) (hleft : d.left ≠ 0) :
    Answers (.dmaDescriptorDone q) s fun t => t = s := by
  refine ⟨_, rfl, ?_⟩
  simp only [hdescs, if_neg hleft]

/-- A queue that stops is off and shows the status and vector 2; its late refusals, descriptors and transactions stay. -/
theorem stopQueue_shows (q : Nat) (st : Status) (s : State) : qrd Fld.fxeDmaqEn q (stopQueue q st s) = 0
    ∧ qrd Fld.fxeDmaqStatus q (stopQueue q st s) = st.toNat
    ∧ ((stopQueue q st s).word .endpoint .fxeIntStatus 0 0).getLsbD 2 = true
    ∧ qrd Fld.fxeDmaqLateStatus q (stopQueue q st s) = qrd Fld.fxeDmaqLateStatus q s := by
  have hraise := raiseVector_ev 2 (qwr Fld.fxeDmaqStatus q st.toNat (qwr Fld.fxeDmaqEn q 0 s)) (by decide)
  refine ⟨?_, ?_, getLsbD_raiseVector _ (by decide), ?_⟩
  · unfold stopQueue
    rw [hraise.qrd _ rfl rfl, qrd_qwr_apart _ q Fld.fxeDmaqStatus Fld.fxeDmaqEn _ rfl (by decide),
      qrd_qwr_same _ q _ _ (by decide) (by decide)]
    rfl
  · unfold stopQueue
    rw [hraise.qrd _ rfl rfl, qrd_qwr_same _ q _ _ (by decide) (by decide)]
    exact Nat.mod_eq_of_lt st.isLt
  · unfold stopQueue
    rw [hraise.qrd _ rfl rfl, qrd_qwr_apart _ q Fld.fxeDmaqStatus Fld.fxeDmaqLateStatus _ rfl (by decide),
      qrd_qwr_apart _ q Fld.fxeDmaqEn Fld.fxeDmaqLateStatus _ rfl (by decide)]

/-- A queue without a descriptor. -/
def dropDesc (d : DmaDesc) (k : EpQueue) : EpQueue := { k with descs := k.descs.filter fun x => decide (x.serial ≠ d.serial) }

/-- A descriptor out of its queue, the late refusal read, and the write of its record begun. -/
def recordDma (q : Nat) (d : DmaDesc) (s : State) : State :=
  memStore (.record q) false d.compAddr (leBytes 8 (dmaRecord d (qrd Fld.fxeDmaqLateStatus q s)).toNat)
    (qwr Fld.fxeDmaqLateStatus q 0 (onQueue q (dropDesc d) s))

theorem recordDma_shows (q : Nat) (d : DmaDesc) (s : State) :
    (epQueue q (recordDma q d s)).descs = ((epQueue q s).descs.filter fun x => decide (x.serial ≠ d.serial))
      ∧ qrd Fld.fxeDmaqLateStatus q (recordDma q d s) = 0 ∧ txnConts (recordDma q d s) = txnConts s ++ [.record q]
      ∧ qrd Fld.fxeDmaqStopOnErr q (recordDma q d s) = qrd Fld.fxeDmaqStopOnErr q s := by
  unfold recordDma
  have hstore := memStore_ev (.record q) false d.compAddr (leBytes 8 (dmaRecord d (qrd Fld.fxeDmaqLateStatus q s)).toNat)
    (qwr Fld.fxeDmaqLateStatus q 0 (onQueue q (dropDesc d) s))
  have hqueue := onQueue_ev q (dropDesc d) s
  refine ⟨?_, ?_, ?_, ?_⟩
  · rw [hstore.epQueue rfl, epQueue_qwr, epQueue_onQueue, dropDesc]
  · rw [hstore.qrd _ rfl rfl, qrd_qwr_same _ q _ _ (by decide) (by decide)]
    rfl
  · rw [txnConts_memStore, txnConts_qwr, hqueue.txnConts rfl]
  · rw [hstore.qrd _ rfl rfl, qrd_qwr_apart _ q Fld.fxeDmaqLateStatus Fld.fxeDmaqStopOnErr _ rfl (by decide), hqueue.qrd _ rfl rfl]

/-- The descriptor ends with its record; where it failed and the queue stops at errors, the queue stops. -/
theorem completeDma_eq (q : Nat) (d : DmaDesc) (s : State) : completeDma q d s = fetchNext q 0
    (if !d.statuses.isEmpty && decide (qrd Fld.fxeDmaqStopOnErr q s = 1)
      then stopQueue q (reportStatus d.statuses).1 (recordDma q d s) else recordDma q d s) := by
  obtain ⟨-, -, -, hstop⟩ := recordDma_shows q d s
  rw [← hstop]
  rfl

theorem dmaDescriptorDone_ends (hdescs : (epQueue q s).descs = d :: l) (hleft : d.left = 0) :
    Answers (.dmaDescriptorDone q) s fun t =>
      (epQueue q t).descs = ((d :: l).filter fun x => decide (x.serial ≠ d.serial)) ∧ qrd Fld.fxeDmaqLateStatus q t = 0
        ∧ txnConts s ++ [.record q] <+: txnConts t
        ∧ (d.statuses ≠ [] ∧ qrd Fld.fxeDmaqStopOnErr q s = 1 →
          qrd Fld.fxeDmaqEn q t = 0 ∧ qrd Fld.fxeDmaqStatus q t = (reportStatus d.statuses).1.toNat) := by
  refine ⟨completeDma q d s, ?_, ?_⟩
  · change execDmaDescriptorDone q s = _
    simp only [execDmaDescriptorDone, hdescs, if_pos hleft]
  obtain ⟨hleave, hlate, hrecord, -⟩ := recordDma_shows q d s
  have hstopped := stopQueue_ev q (reportStatus d.statuses).1 (recordDma q d s)
  obtain ⟨hoff, hstatus, -, hkept⟩ := stopQueue_shows q (reportStatus d.statuses).1 (recordDma q d s)
  rw [completeDma_eq]
  split
  · rw [fetchNext_of_off 0 hoff]
    refine ⟨?_, hkept.trans hlate, ?_, fun _ => ⟨hoff, hstatus⟩⟩
    · rw [hstopped.epQueue rfl, hleave, hdescs]
    · rw [hstopped.txnConts rfl, hrecord]
  · next hgo =>
    obtain ⟨hstays, hprefix⟩ := fetchNext_keeps q 0 (recordDma q d s)
    refine ⟨?_, ?_, ?_, fun ⟨hbad, hstop⟩ => absurd ?_ hgo⟩
    · rw [hstays, hleave, hdescs]
    · rw [(fetchNext_ev q 0 _).qrd _ rfl rfl, hlate]
    · rwa [hrecord] at hprefix
    · simp [hbad, hstop]

theorem queueFetchFail_unchanged (hnone : (epQueue q s).failed = none) : Answers (.queueFetchFail q) s fun t => t = s := by
  refine ⟨_, rfl, ?_⟩
  rw [hnone]

theorem queueFetchFail_stops {st : Status} (hfailed : (epQueue q s).failed = some st) : Answers (.queueFetchFail q) s fun t =>
    (epQueue q t).failed = none ∧ qrd Fld.fxeDmaqEn q t = 0 ∧ qrd Fld.fxeDmaqStatus q t = st.toNat
      ∧ (t.word .endpoint .fxeIntStatus 0 0).getLsbD 2 = true := by
  refine ⟨stopQueue q st (onQueue q (fun k => { k with failed := none }) s), ?_, ?_⟩
  · change execQueueFetchFail q s = _
    simp only [execQueueFetchFail, hfailed]
  obtain ⟨hoff, hstatus, hvector, -⟩ := stopQueue_shows q st (onQueue q (fun k => { k with failed := none }) s)
  refine ⟨?_, hoff, hstatus, hvector⟩
  rw [(stopQueue_ev q st _).epQueue rfl, epQueue_onQueue]

end

end Sys2Proof.Machine

section

open Sys2Proof Sys2Proof.Machine

/-- Settles O33, one lemma for each command and each way it answers. -/
theorem dominoAndDmaQueuesRun : Obligations.DominoAndDmaQueuesRun := fun _ _ _ _ _ _ =>
  ⟨fence_waits, fence_dropped, dominoSeg_unchanged, dominoSeg_refuses_unordered, fun _ _ => dominoSeg_refuses_bad,
    fun _ _ _ _ => dominoSeg_refuses_failing, fun _ _ _ => dominoSeg_begins_write,
    fun hbad => trigPost_refuses (postTrig_of_reserved hbad), fun hgood hfull => trigPost_refuses (postTrig_of_full hgood hfull),
    trigPost_waits, trigPost_reaches, trigPost_discards,
    triggeredOpFire_unchanged, fun _ _ => triggeredOpFire_writes, fun _ _ => triggeredOpFire_counts,
    triggeredOpComplete_unchanged, fun _ _ hfind hok hdone _ => triggeredOpComplete_counts hfind hok hdone,
    fun _ => triggeredOpComplete_fails, fun n v => domCtrWrite_writes n v _,
    fun _ _ => dmaDoorbell_of_off, fun _ _ => dmaDoorbell_fetches, fun _ => dmaDescriptor_unchanged,
    fun _ _ _ hquiet hq hfetched hfence => dmaDescriptor_refuses hq hfetched hfence hquiet,
    fun _ _ _ _ hquiet hq hfetched hfence => dmaDescriptor_writes hq hfetched hfence hquiet,
    fun _ => dmaDescriptorDone_of_none, fun _ _ _ => dmaDescriptorDone_of_left, fun _ _ _ => dmaDescriptorDone_ends,
    fun _ => queueFetchFail_unchanged, fun _ _ => queueFetchFail_stops⟩

end

/-! ## What the answer to a request leaves: the completions, the replay cache and the module's memories (R186, R188, R226) -/

namespace Sys2Proof.Machine

/-- From one state to the next no transport takes or loses a completion or a replay entry, and the module's memories stay. -/
structure ServeKept (s t : State) : Prop where
  finished : ∀ sd, (t.xpt sd).finished = (s.xpt sd).finished
  replay : ∀ sd, (t.xpt sd).replay = (s.xpt sd).replay
  pool : t.m.pool = s.m.pool

/-- Both transports have handed over everything that is complete. -/
def Quiet (s : State) : Prop := s.module.xpt.finished = [] ∧ s.endpoint.xpt.finished = []

/-- Both transports and the module's memories, as a set of parts. -/
def serveParts : Nat :=
  bitsOfParts [.unit .module .xpt, .unit .endpoint .xpt, .pool .ddr, .pool .fast, .pool .poison, .pool .keyed, .pool .fills,
    .pool .mwin, .pool .installedGib, .pool .missing]

variable {s t u : State}

theorem Quiet.settleBoth (h : Quiet s) : settleBoth s = s := settleBoth_of_none_finished h.1 h.2

theorem ServeKept.quiet (h : ServeKept s t) (hs : Quiet s) : Quiet t :=
  ⟨(h.finished .module).trans hs.1, (h.finished .endpoint).trans hs.2⟩

theorem ServeKept.refl (s : State) : ServeKept s s := ⟨fun _ => rfl, fun _ => rfl, rfl⟩

theorem ServeKept.trans (h : ServeKept s t) (k : ServeKept t u) : ServeKept s u :=
  ⟨fun sd => (k.finished sd).trans (h.finished sd), fun sd => (k.replay sd).trans (h.replay sd), k.pool.trans h.pool⟩

theorem pool_eq_of_same {a b : PoolState} (h : ∀ p, PoolPart.Same a b p) : b = a := by
  cases a
  cases b
  simp only [PoolState.mk.injEq]
  exact ⟨h .ddr, h .fast, h .poison, h .keyed, h .fills, h .mwin, h .installedGib, h .missing⟩

/-- An operation that leaves both transports and the memories alone. -/
theorem Ev.serveKept {F : Nat} (h : Ev F s t) (hF : F &&& serveParts = 0) : ServeKept s t := by
  have hbit : ∀ i, serveParts.testBit i = true → F.testBit i = false := fun i hi => by
    have hi' := congrArg (fun x => x.testBit i) hF
    simpa [hi] using hi'
  have hxpt : ∀ sd, t.xpt sd = s.xpt sd := fun sd => h.xpt sd (hbit _ (by cases sd <;> decide +kernel))
  exact ⟨fun sd => congrArg Transport.finished (hxpt sd), fun sd => congrArg Transport.replay (hxpt sd),
    pool_eq_of_same fun p => h.part (.pool p) (hbit _ (by cases p <;> decide +kernel))⟩

/-- A change of a transport's other parts. -/
theorem serveKept_onXpt (sd : Side) {f : Transport → Transport} (hfin : ∀ x, (f x).finished = x.finished)
    (hrep : ∀ x, (f x).replay = x.replay) : ServeKept s (s.onXpt sd f) := by
  have hxpt (sd' : Side) : (s.onXpt sd f).xpt sd' = f (s.xpt sd') ∨ (s.onXpt sd f).xpt sd' = s.xpt sd' := by
    by_cases h : sd' = sd
    · exact .inl (h ▸ xpt_onXpt sd' s f)
    · exact .inr (congrArg UnitState.xpt (unit_onUnit_other s sd sd' _ h))
  refine ⟨fun sd' => ?_, fun sd' => ?_, congrArg ModuleState.pool (onUnit_m s sd _)⟩
  · rcases hxpt sd' with h | h <;> rw [h]
    exact hfin _
  · rcases hxpt sd' with h | h <;> rw [h]
    exact hrep _

variable (sd : Side) (p : Packet) (s : State)

theorem serveKept_startWork : ServeKept s (startWork sd p s) := serveKept_onXpt sd (fun _ => rfl) fun _ => rfl

theorem serveKept_onDstSpace (src dst : Eid) (stream : BitVec 4) (f : DstSpace → DstSpace) :
    ServeKept s (onDstSpace sd src dst stream f s) := serveKept_onXpt sd (fun _ => rfl) fun _ => rfl

theorem serveKept_sendFrom : ServeKept s (sendFrom sd p s) := (sendFrom_ev sd p s).serveKept (by cases sd <;> decide +kernel)

theorem serveKept_sendNack (st : Status) : ServeKept s (sendNack sd st p s) := serveKept_sendFrom sd _ s

theorem serveKept_sendResponse (st : Status) (payload : List Byte) (opx : Nat) : ServeKept s (sendResponse sd p st payload opx s) :=
  (sendResponse_ev sd p st payload opx s).serveKept (by cases sd <;> decide +kernel)

theorem serveKept_sendAck (src dst : Eid) (stream : BitVec 4) : ServeKept s (sendAck sd src dst stream s) :=
  (serveKept_onDstSpace sd s src dst stream _).trans (serveKept_sendFrom sd _ _)

theorem serveKept_delivered : ServeKept s (delivered sd p s) := by
  have hmoved (f : DstSpace → DstSpace) := (serveKept_onXpt (s := s) sd
    (f := fun x => { x with work := x.work.filter fun w => !sameSeq w.pkt p }) (fun _ => rfl) fun _ => rfl).trans
    (serveKept_onDstSpace sd _ p.src p.dst p.stream f)
  unfold delivered
  dsimp only
  split
  · exact (hmoved _).trans (serveKept_sendAck sd _ p.src p.dst p.stream)
  · exact hmoved _

theorem serveKept_refuseVersion : ServeKept s (refuseVersion sd p s) := by
  unfold refuseVersion
  split
  · exact (serveKept_sendResponse sd p s stVersion [] 0).trans (serveKept_delivered sd p _)
  · exact (serveKept_sendNack sd p s stVersion).trans (serveKept_delivered sd p _)

theorem serveKept_releaseHeld (src dst : Eid) (stream : BitVec 4) (n : Nat) : ServeKept s (releaseHeld sd src dst stream n s) := by
  induction n generalizing s with
  | zero => exact .refl s
  | succ n ih =>
    unfold releaseHeld
    dsimp only
    split
    · exact .refl s
    · split
      · exact ((serveKept_onDstSpace sd s src dst stream _).trans (serveKept_refuseVersion sd _ _)).trans (ih _)
      · exact (serveKept_onDstSpace sd s src dst stream _).trans (serveKept_onXpt sd (fun _ => rfl) fun _ => rfl)

theorem serveKept_deliver : ServeKept s (deliver sd p s) := by
  unfold deliver
  dsimp only
  split
  · exact serveKept_delivered sd p s
  · exact (serveKept_delivered sd p s).trans (serveKept_releaseHeld sd _ _ _ _ _)

theorem serveKept_logEvent (e : Event) : ServeKept s (logEvent sd e s) :=
  (logEvent_ev sd e s).serveKept (by cases sd <;> decide +kernel)

theorem serveKept_refuseDma (st : Status) : ServeKept s (refuseDma sd p st s) := by
  unfold refuseDma
  dsimp only
  refine ServeKept.trans ?_ (serveKept_sendNack sd p _ st)
  exact (serveKept_logEvent sd s _).trans (serveKept_onXpt sd (fun _ => rfl) fun _ => rfl)

theorem serveKept_checkRequest {c : Checked} (h : checkRequest sd p s = (c, u)) : ServeKept s u := by
  have hev := checkRequest_ev sd p s
  rw [h] at hev
  exact hev.serveKept (by cases sd <;> decide +kernel)

/-- The answer to a request: it is delivered, and its response leaves. -/
theorem serveKept_answer (st : Status) (payload : List Byte) (opx : Nat) :
    ServeKept s (sendResponse sd p st payload opx (deliver sd p s)) :=
  (serveKept_deliver sd p s).trans (serveKept_sendResponse sd p _ st payload opx)

end Sys2Proof.Machine

/-! ## Requests that wait at their unit (R222, R226, R232) -/

namespace Sys2Proof.Machine

variable {s u : State} {sd : Side} {port : Nat} {p q : Packet} {c : Instr} {op : BitVec 8}

/-- The commands of the memory operations that bring a request to its destination, each with its opcode. -/
def requestCommands (sd : Side) (port : Nat) (p : Packet) : List (Instr × BitVec 8) :=
  [(.load sd port p, 0x60), (.loadAcq sd port p, 0x61), (.store sd port p, 0x62), (.storeFlag sd port p, 0x63),
    (.atomicInt sd port p, 0x64), (.atomicFp sd port p, 0x65), (.reduceStore sd port p, 0x66), (.dmaWrite sd port p, 0x80),
    (.dmaReadReq sd port p, 0x81)]

theorem exec_requestCommands (s : State) : ∀ x ∈ requestCommands sd port p, exec x.1 s = .next (takeRequest sd port p x.2 s) := by
  simp only [requestCommands, List.forall_mem_cons, List.not_mem_nil, false_implies, implies_true, and_true]
  exact ⟨rfl, rfl, rfl, rfl, rfl, rfl, rfl, rfl, rfl⟩

theorem readCommands_subset : [(Instr.load sd port p, 0x60), (Instr.loadAcq sd port p, 0x61), (Instr.dmaReadReq sd port p, 0x81)]
    ⊆ requestCommands sd port p := by simp [requestCommands]

theorem writeCommands_subset : [(Instr.store sd port p, 0x62), (Instr.storeFlag sd port p, 0x63), (Instr.dmaWrite sd port p, 0x80)]
    ⊆ requestCommands sd port p := by simp [requestCommands]

theorem atomicCommands_subset : [(Instr.atomicInt sd port p, 0x64), (Instr.atomicFp sd port p, 0x65)]
    ⊆ requestCommands sd port p := by simp [requestCommands]

theorem answeredCommands_subset : [(Instr.load sd port p, 0x60), (Instr.loadAcq sd port p, 0x61), (Instr.store sd port p, 0x62),
    (Instr.storeFlag sd port p, 0x63), (Instr.reduceStore sd port p, 0x66), (Instr.dmaReadReq sd port p, 0x81)]
    ⊆ requestCommands sd port p := by simp [requestCommands]

theorem reduceStore_mem : (Instr.reduceStore sd port p, 0x66) ∈ requestCommands sd port p := by simp [requestCommands]

theorem dmaWrite_mem : (Instr.dmaWrite sd port p, 0x80) ∈ requestCommands sd port p := by simp [requestCommands]

/-- A request that waits at its unit is served: an atomic by way of its replay entry, any other at once. -/
def serveWaiting (sd : Side) (port : Nat) (p : Packet) (s : State) : State :=
  if isAtomicOp p.opcode then serveAtomic sd port p s else checkAndServe sd port p s

theorem takeRequest_of_waiting (hwaits : (findWork sd p s).isSome = true) :
    takeRequest sd port p p.opcode s = settleBoth (serveWaiting sd port p s) := by
  unfold takeRequest serveWaiting
  rw [if_pos rfl, withRequest_of_waiting hwaits]
  split <;> rfl

/-- The command of a request that waits answers what its service leaves, where that completes nothing. -/
theorem request_answers {P : State → Prop} (hmem : (c, op) ∈ requestCommands sd port p) (hop : p.opcode = op)
    (hwaits : (findWork sd p s).isSome = true) (hserved : serveWaiting sd port p s = u) (hquiet : Quiet u) (hP : P u) :
    Answers c s P := by
  refine ⟨u, ?_, hP⟩
  subst hop
  rw [exec_requestCommands s _ hmem, takeRequest_of_waiting hwaits, hserved, hquiet.settleBoth]

/-- The opcode of a request whose command is in a list. -/
theorem opcode_mem {l : List (Instr × BitVec 8)} (hmem : (c, op) ∈ l) (hop : p.opcode = op) : p.opcode ∈ l.map Prod.snd :=
  hop ▸ List.mem_map_of_mem hmem

theorem serveWaiting_plain (h : isAtomicOp p.opcode = false) : serveWaiting sd port p s = checkAndServe sd port p s :=
  if_neg (by simp [h])

theorem serveWaiting_atomic (h : isAtomicOp p.opcode = true) : serveWaiting sd port p s = serveAtomic sd port p s := if_pos h

/-! ### The end of an access -/

/-- An access of no atomic, other than a refused DMA write, is delivered and answered. -/
theorem endAccess_plain {a : Answer} (hchecked : a.status ≠ stCheckFail) (hatomic : isAtomicOp p.opcode = false)
    (hdma : (p.opcode = 0x80 ∨ p.opcode = 0xA0) → a.status = stOk) (s : State) :
    endAccess sd p a s = sendResponse sd p a.status a.payload a.opx (deliver sd p s) := by
  have hgood : ¬((p.opcode = 0x80 ∨ p.opcode = 0xA0) ∧ a.status ≠ stOk) := fun h => h.2 (hdma h.1)
  simp only [endAccess, if_neg hchecked, hatomic, Bool.false_eq_true, if_false, if_neg hgood]

/-- An atomic's result goes into its replay entry before it is delivered and answered (R232). -/
theorem endAccess_atomic {a : Answer} (hchecked : a.status ≠ stCheckFail) (hatomic : isAtomicOp p.opcode = true) (s : State) :
    endAccess sd p a s = sendResponse sd p a.status a.payload a.opx (deliver sd p (replayWrite sd p a s)) := by
  have hdma : ¬((p.opcode = 0x80 ∨ p.opcode = 0xA0) ∧ a.status ≠ stOk) := by
    rintro ⟨h | h, -⟩ <;> rw [h] at hatomic <;> exact absurd hatomic (by decide)
  simp only [endAccess, if_neg hchecked, hatomic, if_true, if_neg hdma]

/-- A refused DMA write keeps its status for duplicates, and no response leaves (R226). -/
theorem endAccess_refused_dmaWrite {st : Status} (hchecked : st ≠ stCheckFail) (hop : p.opcode = 0x80) (hbad : st ≠ stOk) (s : State) :
    endAccess sd p { status := st } s = deliver sd p (refuseDma sd p st s) := by
  simp [endAccess, hchecked, hop, hbad, isAtomicOp, sendResponse, responseOp]

theorem checkAndServe_refused {st : Status} (hcheck : checkRequest sd p s = (.bad st, u)) :
    checkAndServe sd port p s = endAccess sd p { status := st } u := by
  simp only [checkAndServe, hcheck]

end Sys2Proof.Machine

/-! ## The fast pool (R242, R244) -/

namespace Sys2Proof.Machine

theorem memByte_memWrite_outside (l : List Byte) : ∀ (m : Memory) (a b : Nat), b < a ∨ a + l.length ≤ b →
    memByte (memWrite m a l) b = memByte m b := by
  induction l with
  | nil => exact fun _ _ _ _ => rfl
  | cons x l ih =>
    intro m a b hb
    rw [List.length_cons] at hb
    have hput : memByte (memPut m a x) b = memByte m b := smapGet_put_other _ _ _ _ _ _ (by omega)
    rw [memWrite, ih _ _ _ (by omega), hput]

theorem memRead_succ (m : Memory) (a n : Nat) : memRead m a (n + 1) = memByte m a :: memRead m (a + 1) n := by
  simp [memRead, List.range_succ_eq_map, Nat.add_assoc, Nat.add_comm 1]

theorem memRead_memWrite_same (l : List Byte) : ∀ (m : Memory) (a : Nat), memRead (memWrite m a l) a l.length = l := by
  induction l with
  | nil => exact fun _ _ => rfl
  | cons x l ih =>
    intro m a
    have hput : memByte (memPut m a x) a = x := smapGet_put_same ..
    rw [List.length_cons, memRead_succ, memWrite, ih, memByte_memWrite_outside _ _ _ _ (by omega), hput]

/-- Between two states of the memories the fast pool's bytes from an offset on became those of a list, and every other byte of the
fast pool, DDR5 and the management window stayed. -/
def FastBecomes (off : Nat) (l : List Byte) (before after : PoolState) : Prop :=
  memRead after.fast off l.length = l
    ∧ (∀ b, b < off ∨ off + l.length ≤ b → memByte after.fast b = memByte before.fast b)
    ∧ after.ddr = before.ddr ∧ after.mwin = before.mwin

variable {s t : State} (key a : Nat) (poison : Bool) (l : List Byte)

/-- A read of the fast pool depends on the memories alone. -/
theorem moduleRead_fast_of_pool (h : t.m.pool = s.m.pool) (n : Nat) :
    moduleRead .fast key a n t = moduleRead .fast key a n s := by
  unfold moduleRead fastMissing poisoned
  rw [h]

/-- Whether a write of the fast pool is taken depends on the memories alone. -/
theorem moduleWrite_fast_status_of_pool (h : t.m.pool = s.m.pool) :
    (moduleWrite .fast key a l poison t).1 = (moduleWrite .fast key a l poison s).1 := by
  unfold moduleWrite fastMissing poisoned
  dsimp only
  rw [h]
  split <;> rfl

/-- Marking lines poisoned changes no byte of any memory. -/
theorem markPoison_memories (lines : List Nat) (s : State) :
    (lines.foldl (fun s l => markPoison l s) s).m.pool.fast = s.m.pool.fast
      ∧ (lines.foldl (fun s l => markPoison l s) s).m.pool.ddr = s.m.pool.ddr
      ∧ (lines.foldl (fun s l => markPoison l s) s).m.pool.mwin = s.m.pool.mwin := by
  have hev : Ev Fp.markPoison s (lines.foldl (fun s l => markPoison l s) s) := .foldl (fun t l => markPoison_ev l t) (.refl s)
  exact ⟨hev.part (.pool .fast) rfl, hev.part (.pool .ddr) rfl, hev.part (.pool .mwin) rfl⟩

/-- A write of the fast pool that is taken leaves the bytes written there, and nothing else changed. -/
theorem moduleWrite_fast_becomes (h : (moduleWrite .fast key a l poison s).1 = stOk) :
    FastBecomes (a - fastBase) l s.m.pool (moduleWrite .fast key a l poison s).2.m.pool := by
  have hwritten : FastBecomes (a - fastBase) l s.m.pool
      { s.m.pool with fast := memWrite s.m.pool.fast (a - fastBase) l } :=
    ⟨memRead_memWrite_same l _ _, memByte_memWrite_outside l _ _, rfl, rfl⟩
  revert h
  simp only [moduleWrite]
  split
  · exact fun h => absurd h (show stPoisoned ≠ stOk by decide)
  · intro _
    split
    · obtain ⟨hfast, hddr, hmwin⟩ := markPoison_memories (linesOf a l.length)
        (onPool (fun p => { p with fast := memWrite p.fast (a - fastBase) l }) (clearPoison (wholeLines a l.length) s))
      unfold FastBecomes
      rw [hfast, hddr, hmwin]
      exact hwritten
    · exact hwritten

theorem moduleWrite_xpt (sd : Side) : (moduleWrite .fast key a l poison s).2.xpt sd = s.xpt sd :=
  (moduleWrite_ev .fast key a l poison s).xpt sd (by cases sd <;> rfl)

end Sys2Proof.Machine

/-! ## The module serves requests from its fast pool (R213, R215, R216, R226, R232, R234, R244) -/

namespace Sys2Proof.Machine

variable {s u : State} {port a : Nat} {p q : Packet} {rm : Bool} {c : Instr} {op : BitVec 8} {l v : List Byte}

theorem stOk_ne_checkFail : stOk ≠ stCheckFail := by decide

/-! ### Which opcodes read, and which are atomic -/

theorem kind_of_read {op : BitVec 8} (h : op ∈ [0x60, 0x61, 0x81]) : isReadOp op = true ∧ isAtomicOp op = false := by
  revert op
  decide

theorem kind_of_write {op : BitVec 8} (h : op ∈ [0x62, 0x63, 0x80]) : isReadOp op = false ∧ isAtomicOp op = false := by
  revert op
  decide

theorem kind_of_atomic {op : BitVec 8} (h : op ∈ [0x64, 0x65]) : isReadOp op = false ∧ isAtomicOp op = true := by
  revert op
  decide

/-! ### One access to the module's memories -/

theorem moduleApply_read {place : Place} (hop : p.opcode ∈ [0x60, 0x61, 0x81])
    (hread : moduleRead place (packetKey p) a (requestBytes p) s = .ok l) :
    moduleApply p a place rm s
      = ({ status := stOk, payload := l, opx := if loadCacheable p rm then 2 ^ 29 else 0 }, s) := by
  simp only [List.mem_cons, List.not_mem_nil, or_false] at hop
  unfold moduleApply
  rcases hop with hop | hop | hop <;> simp [hop, hread, loadCacheable]

theorem moduleApply_write {place : Place} (hop : p.opcode ∈ [0x62, 0x63, 0x80]) :
    moduleApply p a place rm s = ({ status := (moduleWrite place (packetKey p) a p.payload p.poison s).1 },
      (moduleWrite place (packetKey p) a p.payload p.poison s).2) := by
  simp only [List.mem_cons, List.not_mem_nil, or_false] at hop
  unfold moduleApply
  rcases hop with hop | hop | hop <;> simp [hop]

/-- The bytes that a reduce-store leaves where others stood. -/
def reduced (p : Packet) (l : List Byte) : List Byte := reduceBytesInto (opField p) (typeField p) (l.length + 1) l p.payload

theorem moduleApply_reduce {place : Place} (hop : p.opcode = 0x66)
    (hread : moduleRead place (packetKey p) a p.payload.length s = .ok l) :
    moduleApply p a place rm s = ({ status := (moduleWrite place (packetKey p) a (reduced p l) false s).1 },
      (moduleWrite place (packetKey p) a (reduced p l) false s).2) := by
  unfold moduleApply
  simp [hop, hread, reduced]

/-- The answer to an atomic that finds the bytes `l` and is applied. -/
def atomicAnswer (p : Packet) (l : List Byte) : Answer :=
  { status := stOk, payload := l, opx := if (atomicResult p l).2 then 2 ^ 30 else 0 }

theorem moduleApply_atomic {place : Place} (hop : p.opcode ∈ [0x64, 0x65])
    (hread : moduleRead place (packetKey p) a (atomicSize p) s = .ok l) (hnew : (atomicResult p l).1 = some v)
    (hok : (moduleWrite place (packetKey p) a v false s).1 = stOk) :
    moduleApply p a place rm s = (atomicAnswer p l, (moduleWrite place (packetKey p) a v false s).2) := by
  simp only [List.mem_cons, List.not_mem_nil, or_false] at hop
  unfold moduleApply
  rcases hop with hop | hop <;> simp [hop, hread, hnew, hok, atomicAnswer]

/-- A request whose bytes lie in the fast pool is applied to the module's memories and ends at once. -/
theorem checkAndServe_fast (hcheck : checkRequest .module p s = (.ok q a .fast rm, u)) :
    checkAndServe .module port p s = endAccess .module q
      (moduleApply q a .fast (isReadOp p.opcode && rm) (startWork .module p u)).1
      (moduleApply q a .fast (isReadOp p.opcode && rm) (startWork .module p u)).2 := by
  simp only [checkAndServe, hcheck]
  cases isReadOp p.opcode <;> simp [serveRead, serveWrite]

/-! ### Loads and DMA reads (R213, R222) -/

theorem module_answers_read
    (hmem : (c, op) ∈ [(Instr.load .module port p, 0x60), (Instr.loadAcq .module port p, 0x61), (Instr.dmaReadReq .module port p, 0x81)])
    (hop : p.opcode = op) (hquiet : Quiet s) (hwaits : (findWork .module p s).isSome = true)
    (hchecked : checkRequest .module p s = (.ok q a .fast rm, s) ∧ q.opcode = p.opcode)
    (hread : moduleRead .fast (packetKey q) a (requestBytes q) s = .ok l) : Answers c s fun t =>
      t = sendResponse .module q stOk l (if loadCacheable q rm then 2 ^ 29 else 0) (deliver .module q (startWork .module p s))
        ∧ t.m.pool = s.m.pool := by
  obtain ⟨hcheck, hq⟩ := hchecked
  have hkind : p.opcode ∈ [0x60, 0x61, 0x81] := opcode_mem hmem hop
  have hstarted := serveKept_startWork .module p s
  have hkept := hstarted.trans (serveKept_answer .module q _ stOk l (if loadCacheable q rm then 2 ^ 29 else 0))
  refine request_answers (readCommands_subset hmem) hop hwaits ?_ (hkept.quiet hquiet) ⟨rfl, hkept.pool⟩
  rw [serveWaiting_plain (kind_of_read hkind).2, checkAndServe_fast hcheck,
    moduleApply_read (hq ▸ hkind) ((moduleRead_fast_of_pool _ _ hstarted.pool _).trans hread), (kind_of_read hkind).1, Bool.true_and]
  exact endAccess_plain stOk_ne_checkFail (by rw [hq, (kind_of_read hkind).2]) (fun _ => rfl) _

/-! ### Stores, DMA writes and reduce-stores (R213, R216, R226) -/

theorem Quiet.moduleWrite (h : Quiet s) (key a : Nat) (data : List Byte) (poison : Bool) :
    Quiet (moduleWrite .fast key a data poison s).2 :=
  ⟨(congrArg Transport.finished (moduleWrite_xpt key a poison data .module)).trans h.1,
    (congrArg Transport.finished (moduleWrite_xpt key a poison data .endpoint)).trans h.2⟩

/-- A request that is no atomic, and whose access is a write of the fast pool that is taken, leaves the bytes it writes. -/
theorem module_answers_write {data : List Byte} {poison : Bool} (hmem : (c, op) ∈ requestCommands .module port p)
    (hop : p.opcode = op) (hquiet : Quiet s)
    (hwaits : (findWork .module p s).isSome = true) (hplain : isAtomicOp p.opcode = false)
    (hchecked : checkRequest .module p s = (.ok q a .fast rm, s) ∧ q.opcode = p.opcode)
    (happly : moduleApply q a .fast (isReadOp p.opcode && rm) (startWork .module p s)
      = ({ status := (moduleWrite .fast (packetKey q) a data poison (startWork .module p s)).1 },
        (moduleWrite .fast (packetKey q) a data poison (startWork .module p s)).2))
    (hok : (moduleWrite .fast (packetKey q) a data poison s).1 = stOk) :
    Answers c s fun t => FastBecomes (a - fastBase) data s.m.pool t.m.pool := by
  obtain ⟨hcheck, hq⟩ := hchecked
  have hstarted := serveKept_startWork .module p s
  have hdone := (moduleWrite_fast_status_of_pool (packetKey q) a poison data hstarted.pool).trans hok
  have hkept := serveKept_answer .module q (moduleWrite .fast (packetKey q) a data poison (startWork .module p s)).2 stOk [] 0
  refine request_answers hmem hop hwaits ?_ (hkept.quiet ((hstarted.quiet hquiet).moduleWrite ..)) ?_
  · rw [serveWaiting_plain hplain, checkAndServe_fast hcheck, happly, hdone]
    exact endAccess_plain stOk_ne_checkFail (by rw [hq, hplain]) (fun _ => rfl) _
  · rw [hkept.pool, ← hstarted.pool]
    exact moduleWrite_fast_becomes _ _ _ _ hdone

theorem module_answers_store
    (hmem : (c, op) ∈ [(Instr.store .module port p, 0x62), (Instr.storeFlag .module port p, 0x63), (Instr.dmaWrite .module port p, 0x80)])
    (hop : p.opcode = op) (hquiet : Quiet s) (hwaits : (findWork .module p s).isSome = true)
    (hchecked : checkRequest .module p s = (.ok q a .fast rm, s) ∧ q.opcode = p.opcode)
    (hok : (moduleWrite .fast (packetKey q) a q.payload q.poison s).1 = stOk) :
    Answers c s fun t => FastBecomes (a - fastBase) q.payload s.m.pool t.m.pool := by
  have hkind : p.opcode ∈ [0x62, 0x63, 0x80] := opcode_mem hmem hop
  exact module_answers_write (writeCommands_subset hmem) hop hquiet hwaits (kind_of_write hkind).2 hchecked
    (moduleApply_write (hchecked.2 ▸ hkind)) hok

theorem module_answers_reduceStore (hop : p.opcode = 0x66) (hquiet : Quiet s) (hwaits : (findWork .module p s).isSome = true)
    (hchecked : checkRequest .module p s = (.ok q a .fast rm, s) ∧ q.opcode = p.opcode)
    (hread : moduleRead .fast (packetKey q) a q.payload.length s = .ok l)
    (hok : (moduleWrite .fast (packetKey q) a (reduced q l) false s).1 = stOk) :
    Answers (.reduceStore .module port p) s fun t => FastBecomes (a - fastBase) (reduced q l) s.m.pool t.m.pool :=
  module_answers_write reduceStore_mem hop hquiet hwaits (by rw [hop]; rfl) hchecked
    (moduleApply_reduce (hchecked.2.trans hop)
      ((moduleRead_fast_of_pool _ _ (serveKept_startWork .module p s).pool _).trans hread)) hok

/-! ### Atomics and the replay cache (R231 to R234) -/

/-- A replay entry with an atomic's result, where it is that atomic's. -/
def withResult (p : Packet) (x : Answer) (now : Nat) (r : ReplayEntry) : ReplayEntry :=
  if replayMatch p r then { r with status := some x.status, old := x.payload, cas := x.opx.testBit 30, writtenAt := now } else r

theorem replay_replayWrite (sd : Side) (x : Answer) (s : State) :
    ((replayWrite sd p x s).xpt sd).replay = (s.xpt sd).replay.map (withResult p x s.now) := by
  unfold replayWrite
  rw [xpt_onXpt]
  rfl

theorem replayMatch_withResult (x : Answer) (now : Nat) (r : ReplayEntry) :
    replayMatch p (withResult p x now r) = replayMatch p r := by
  unfold withResult
  split <;> rfl

/-- An atomic that has an entry finds its result there. -/
theorem find?_withResult {x : Answer} {now : Nat} {entries : List ReplayEntry} (h : entries.any (replayMatch p) = true) :
    ((entries.map (withResult p x now)).find? (replayMatch p)).map (fun r => (r.status, r.old)) = some (some x.status, x.payload) := by
  have hsame : replayMatch p ∘ withResult p x now = replayMatch p := funext (replayMatch_withResult x now)
  obtain ⟨r, hr⟩ := Option.isSome_iff_exists.mp (List.find?_isSome.trans List.any_eq_true.symm |>.mpr h)
  rw [List.find?_map, hsame, hr]
  simp [withResult, List.find?_some hr]

/-- An atomic that has taken its entry has one. -/
theorem any_replayTake (sd : Side) (s : State) : ((replayTake sd p s).xpt sd).replay.any (replayMatch p) = true := by
  unfold replayTake
  rw [xpt_onXpt]
  simp [replayMatch]

theorem serveAtomic_of_room {sd : Side} (hroom : replayRoom sd p (replayFree sd p s) = true) :
    serveAtomic sd port p s = checkAndServe sd port p (replayTake sd p (replayFree sd p s)) := if_pos hroom

theorem module_answers_atomic
    (hmem : (c, op) ∈ [(Instr.atomicInt .module port p, 0x64), (Instr.atomicFp .module port p, 0x65)])
    (hop : p.opcode = op) (hquiet : Quiet s) (hwaits : (findWork .module p s).isSome = true)
    (hroom : replayRoom .module p (replayFree .module p s) = true)
    (hcheck : checkRequest .module p (replayTake .module p (replayFree .module p s))
      = (.ok p a .fast rm, replayTake .module p (replayFree .module p s)))
    (hread : moduleRead .fast (packetKey p) a (atomicSize p) s = .ok l) (hnew : (atomicResult p l).1 = some v)
    (hok : (moduleWrite .fast (packetKey p) a v false s).1 = stOk) : Answers c s fun t =>
      FastBecomes (a - fastBase) v s.m.pool t.m.pool
        ∧ ((t.module.xpt.replay.find? (replayMatch p)).map fun r => (r.status, r.old)) = some (some stOk, l) := by
  have hkind : p.opcode ∈ [0x64, 0x65] := opcode_mem hmem hop
  obtain ⟨hnoread, hatomic⟩ := kind_of_atomic hkind
  have hstarted := serveKept_startWork .module p (replayTake .module p (replayFree .module p s))
  set begun := startWork .module p (replayTake .module p (replayFree .module p s))
  have hpool : begun.m.pool = s.m.pool := hstarted.pool
  have hquietBegun : Quiet begun := hstarted.quiet hquiet
  have hdone := (moduleWrite_fast_status_of_pool (packetKey p) a false v hpool).trans hok
  set written := (moduleWrite .fast (packetKey p) a v false begun).2
  have hkept := serveKept_answer .module p (replayWrite .module p (atomicAnswer p l) written) stOk l (atomicAnswer p l).opx
  refine request_answers (atomicCommands_subset hmem) hop hwaits ?_ (hkept.quiet (hquietBegun.moduleWrite ..)) ⟨?_, ?_⟩
  · rw [serveWaiting_atomic hatomic, serveAtomic_of_room hroom, checkAndServe_fast hcheck, hnoread,
      moduleApply_atomic hkind ((moduleRead_fast_of_pool _ _ hpool _).trans hread) hnew hdone]
    exact endAccess_atomic stOk_ne_checkFail hatomic _
  · rw [hkept.pool, ← hpool]
    exact moduleWrite_fast_becomes _ _ _ _ hdone
  · have hentry : (written.xpt .module).replay.any (replayMatch p) = true := by
      rw [moduleWrite_xpt, hstarted.replay]
      exact any_replayTake .module _
    have hreplay := (hkept.replay .module).trans (replay_replayWrite .module (atomicAnswer p l) written)
    exact (congrArg (fun x => (x.find? (replayMatch p)).map fun r => (r.status, r.old)) hreplay).trans (find?_withResult hentry)

/-- The state without a packet's application. -/
def dropWork (sd : Side) (p : Packet) (s : State) : State :=
  s.onXpt sd fun x => { x with work := x.work.filter fun w => !sameSeq w.pkt p }

theorem serveAtomic_of_full {sd : Side} (hfull : replayRoom sd p (replayFree sd p s) = false) :
    serveAtomic sd port p s
      = sendNack sd stRetryLater p (bump sd .memReplayFullCnt 0 (dropWork sd p (replayFree sd p s))) := if_neg (by simp [hfull])

theorem module_refuses_atomic
    (hmem : (c, op) ∈ [(Instr.atomicInt .module port p, 0x64), (Instr.atomicFp .module port p, 0x65)])
    (hop : p.opcode = op) (hquiet : Quiet s) (hwaits : (findWork .module p s).isSome = true)
    (hfull : replayRoom .module p (replayFree .module p s) = false) : Answers c s fun t =>
      t.word .module .memReplayFullCnt 0 0 = countedWord (s.word .module .memReplayFullCnt 0 0) 1 ∧ t.m.pool = s.m.pool := by
  have hkind : p.opcode ∈ [0x64, 0x65] := opcode_mem hmem hop
  have hcounted : ServeKept (dropWork .module p (replayFree .module p s)) _ :=
    (bump_ev .module .memReplayFullCnt 0 _ rfl).serveKept (by decide +kernel)
  have hkept := hcounted.trans (serveKept_sendNack .module p _ stRetryLater)
  refine request_answers (atomicCommands_subset hmem) hop hwaits ?_ (hkept.quiet hquiet) ⟨?_, hkept.pool⟩
  · rw [serveWaiting_atomic (kind_of_atomic hkind).2, serveAtomic_of_full hfull]
  · rw [(sendNack_ev .module stRetryLater p _).word .module .memReplayFullCnt rfl, word_bump .module .memReplayFullCnt 0 _ rfl]
    rfl

end Sys2Proof.Machine

section

open Sys2Proof Sys2Proof.Machine

/-- Settles O22, one lemma for each clause. -/
theorem moduleServesMemory : Obligations.ModuleServesMemory := fun _ _ _ _ _ _ =>
  ⟨fun _ _ _ => module_answers_read, fun _ _ => module_answers_store, fun _ => module_answers_reduceStore,
    fun _ _ _ _ => module_answers_atomic, fun _ _ => module_refuses_atomic⟩

end

/-! ## The endpoint block serves requests through its core port and its atomic unit (R360, R367, R368) -/

namespace Sys2Proof.Machine

variable {s u : State} {sd : Side} {port a : Nat} {p q : Packet} {rm : Bool} {c : Instr} {op : BitVec 8}

/-! ### Reads and writes on MQ (R360) -/

theorem nextTxn_startTxnWith (cont : MemCont) (poison : Bool) (lockTag : Option Nat) (parts : List (MqOp × Nat × Nat × List Byte))
    (s : State) : (startTxnWith cont poison lockTag parts s).e.nextTxn = s.e.nextTxn + 1 :=
  (pumpMq_ev _ _).part (.ep .nextTxn) rfl

/-- From one state to the next one transaction on MQ has begun, whose parts are all unanswered. -/
def TxnBegins (cont : MemCont) (parts : List (Nat × Nat)) (s t : State) : Prop :=
  t.e.txns = s.e.txns ++ [{ id := s.e.nextTxn, cont := cont, answers := parts.map fun _ => none }]
    ∧ t.e.nextTxn = s.e.nextTxn + 1

theorem txnBegins_startTxnWith (cont : MemCont) (poison : Bool) (lockTag : Option Nat) (parts : List (Nat × Nat))
    (f : Nat × Nat → MqOp × Nat × Nat × List Byte) (s : State) :
    TxnBegins cont parts s (startTxnWith cont poison lockTag (parts.map f) s) := by
  refine ⟨?_, nextTxn_startTxnWith ..⟩
  rw [txns_startTxnWith, List.map_map]
  rfl

theorem checkAndServe_endpoint_read {place : Place} (hread : isReadOp p.opcode = true)
    (hcheck : checkRequest .endpoint p s = (.ok q a place rm, u)) : checkAndServe .endpoint port p s
      = memLoad (.load port q (loadCacheable q rm) false) a (requestBytes q) (startWork .endpoint p u) := by
  simp [checkAndServe, hcheck, hread, serveRead]

theorem checkAndServe_endpoint_write {place : Place} (hwrite : isReadOp p.opcode = false)
    (hcheck : checkRequest .endpoint p s = (.ok q a place rm, u)) : checkAndServe .endpoint port p s
      = serveWrite .endpoint port q a place (startWork .endpoint p u) := by
  simp [checkAndServe, hcheck, hwrite]

theorem endpoint_begins_read
    (hmem : (c, op) ∈ [(Instr.load .endpoint port p, 0x60), (Instr.loadAcq .endpoint port p, 0x61),
      (Instr.dmaReadReq .endpoint port p, 0x81)])
    (hop : p.opcode = op) (hquiet : Quiet s) (hwaits : (findWork .endpoint p s).isSome = true)
    (hchecked : checkRequest .endpoint p s = (.ok q a .ddr rm, s) ∧ q.opcode = p.opcode) :
    Answers c s (TxnBegins (.load port q (loadCacheable q rm) false) (pieces a (requestBytes q)) s) := by
  obtain ⟨hread, hplain⟩ := kind_of_read (opcode_mem hmem hop)
  have hkept := (serveKept_startWork .endpoint p s).trans
    ((memLoad_ev (.load port q (loadCacheable q rm) false) a (requestBytes q) _).serveKept (by decide +kernel))
  refine request_answers (readCommands_subset hmem) hop hwaits ?_ (hkept.quiet hquiet) (txnBegins_startTxnWith ..)
  rw [serveWaiting_plain hplain, checkAndServe_endpoint_read hread hchecked.1, memLoad]

theorem endpoint_begins_write
    (hmem : (c, op) ∈ [(Instr.store .endpoint port p, 0x62), (Instr.storeFlag .endpoint port p, 0x63),
      (Instr.dmaWrite .endpoint port p, 0x80)])
    (hop : p.opcode = op) (hquiet : Quiet s) (hwaits : (findWork .endpoint p s).isSome = true)
    (hchecked : checkRequest .endpoint p s = (.ok q a .ddr rm, s) ∧ q.opcode = p.opcode) :
    Answers c s (TxnBegins (.store port q) (pieces a q.payload.length) s) := by
  obtain ⟨hcheck, hq⟩ := hchecked
  have hkind : p.opcode ∈ [0x62, 0x63, 0x80] := opcode_mem hmem hop
  obtain ⟨hwrite, hplain⟩ := kind_of_write hkind
  have hkept := (serveKept_startWork .endpoint p s).trans
    ((memStore_ev (.store port q) q.poison a q.payload _).serveKept (by decide +kernel))
  have hstore : q.opcode ≠ 0x66 := fun h => absurd (h ▸ hq ▸ hkind) (by decide)
  refine request_answers (writeCommands_subset hmem) hop hwaits ?_ (hkept.quiet hquiet) (txnBegins_startTxnWith ..)
  rw [serveWaiting_plain hplain, checkAndServe_endpoint_write hwrite hcheck]
  simp only [serveWrite, hq ▸ hplain, Bool.false_eq_true, if_false, if_neg hstore, memStore]

/-! ### Jobs of the atomic unit and the reduce ALU (R367, R368) -/

theorem Ev.lockLine {F : Nat} {s t : State} (h : Ev F s t) (hb : F.testBit (Part.ep .locks).idx = false) (line : Nat) :
    lockLine line t = lockLine line s := congrArg (List.find? fun l : LockLine => decide (l.line = line)) (h.part (.ep .locks) hb)

theorem lockLine_putLock_of_free {l : LockLine} (hfree : lockLine l.line s = none) : lockLine l.line (putLock l s) = some l := by
  have hnew : (s.e.locks.any fun x => decide (x.line = l.line)) = false := by simpa [lockLine] using hfree
  have hlocks : (putLock l s).e.locks = s.e.locks ++ [l] := if_neg (by simp [hnew])
  unfold lockLine at hfree ⊢
  rw [hlocks, List.find?_append, hfree]
  simp

/-- The job that a request makes of the unit. -/
def newJob (use : RmwUse) (addr op type : Nat) (data : List Byte) (s : State) : RmwJob :=
  { id := s.e.nextJob, use := use, addr := addr, op := op, type := type, data := data }

/-- The state with a new job among the unit's. -/
def withJob (j : RmwJob) (s : State) : State := s.onE fun e => { e with nextJob := e.nextJob + 1, jobs := e.jobs ++ [j] }

/-- The lock that the unit asks for on behalf of a job. -/
def lockFor (j : RmwJob) : LockLine := { line := j.addr / 64, waiting := [j.id] }

/-- A job for a line that the unit does not hold enters it and asks for the line. -/
theorem startJob_of_free (use : RmwUse) (op type : Nat) (data : List Byte) (hfree : lockLine (a / 64) s = none) :
    startJob use a op type data s
      = askLock (a / 64) (putLock (lockFor (newJob use a op type data s)) (withJob (newJob use a op type data s) s)) := by
  have hfree' : lockLine (a / 64) (withJob (newJob use a op type data s) s) = none := hfree
  change joinLine (a / 64) (newJob use a op type data s).id (withJob (newJob use a op type data s) s) = _
  rw [joinLine, hfree']
  rfl

/-- Such a job stands last among the unit's and waits for its line alone. -/
theorem startJob_shows (use : RmwUse) (op type : Nat) (data : List Byte) (hfree : lockLine (a / 64) s = none) :
    (startJob use a op type data s).e.jobs = s.e.jobs ++ [newJob use a op type data s]
      ∧ (lockLine (a / 64) (startJob use a op type data s)).map (·.waiting) = some [s.e.nextJob] := by
  have hasked := startTxnWith_ev (.lock (a / 64)) false none [(.readLock, 64 * (a / 64), 64, [])]
    (putLock (lockFor (newJob use a op type data s)) (withJob (newJob use a op type data s) s))
  have hlock := lockLine_putLock_of_free (l := lockFor (newJob use a op type data s))
    (s := withJob (newJob use a op type data s) s) hfree
  rw [startJob_of_free use op type data hfree]
  exact ⟨hasked.part (.ep .jobs) rfl, congrArg (Option.map (·.waiting)) ((hasked.lockLine rfl (a / 64)).trans hlock)⟩

theorem serveKept_startJob (use : RmwUse) (op type : Nat) (data : List Byte) (s : State) :
    ServeKept s (startJob use a op type data s) := (startJob_ev use a op type data s).serveKept (by decide +kernel)

theorem endpoint_starts_reduceStore (hop : p.opcode = 0x66) (hquiet : Quiet s) (hwaits : (findWork .endpoint p s).isSome = true)
    (hchecked : checkRequest .endpoint p s = (.ok q a .ddr rm, s) ∧ q.opcode = p.opcode) (hfree : lockLine (a / 64) s = none) :
    Answers (.reduceStore .endpoint port p) s fun t =>
      t.e.jobs = s.e.jobs ++ [{ id := s.e.nextJob, use := .packet port q, addr := a, op := opField q, type := typeField q
                                data := q.payload }]
        ∧ (lockLine (a / 64) t).map (·.waiting) = some [s.e.nextJob] := by
  obtain ⟨hcheck, hq⟩ := hchecked
  have hreduce : q.opcode = 0x66 := hq.trans hop
  have hkept := (serveKept_startWork .endpoint p s).trans
    (serveKept_startJob (a := a) (.packet port q) (opField q) (typeField q) q.payload _)
  refine request_answers reduceStore_mem hop hwaits ?_ (hkept.quiet hquiet)
    (startJob_shows (s := startWork .endpoint p s) (.packet port q) (opField q) (typeField q) q.payload hfree)
  rw [serveWaiting_plain (by rw [hop]; rfl), checkAndServe_endpoint_write (by rw [hop]; rfl) hcheck]
  simp [serveWrite, hreduce, isAtomicOp]

theorem endpoint_starts_atomic
    (hmem : (c, op) ∈ [(Instr.atomicInt .endpoint port p, 0x64), (Instr.atomicFp .endpoint port p, 0x65)])
    (hop : p.opcode = op) (hquiet : Quiet s) (hwaits : (findWork .endpoint p s).isSome = true)
    (hroom : replayRoom .endpoint p (replayFree .endpoint p s) = true)
    (hcheck : checkRequest .endpoint p (replayTake .endpoint p (replayFree .endpoint p s))
      = (.ok q a .ddr rm, replayTake .endpoint p (replayFree .endpoint p s)))
    (hq : q.opcode = p.opcode) (hfree : lockLine (a / 64) s = none) : Answers c s fun t =>
      t.e.jobs = s.e.jobs ++ [{ id := s.e.nextJob, use := .packet port q, addr := a, op := opField q, type := 0
                                data := q.payload }]
        ∧ (t.endpoint.xpt.replay.any (replayMatch p)) = true := by
  obtain ⟨hwrite, hatomic⟩ := kind_of_atomic (opcode_mem hmem hop)
  have hkept := (serveKept_startWork .endpoint p (replayTake .endpoint p (replayFree .endpoint p s))).trans
    (serveKept_startJob (a := a) (.packet port q) (opField q) 0 q.payload _)
  refine request_answers (atomicCommands_subset hmem) hop hwaits ?_ (hkept.quiet hquiet) ⟨?_, ?_⟩
  · rw [serveWaiting_atomic hatomic, serveAtomic_of_room hroom, checkAndServe_endpoint_write hwrite hcheck]
    exact if_pos (hq ▸ hatomic)
  · exact (startJob_shows (s := startWork .endpoint p (replayTake .endpoint p (replayFree .endpoint p s))) (.packet port q)
      (opField q) 0 q.payload hfree).1
  · exact (congrArg (List.any · (replayMatch p)) (hkept.replay .endpoint)).trans (any_replayTake .endpoint _)

/-! ### Refusals at either unit (R213, R222, R226) -/

theorem kind_of_answered {op : BitVec 8} (h : op ∈ [0x60, 0x61, 0x62, 0x63, 0x66, 0x81]) :
    isAtomicOp op = false ∧ ¬(op = 0x80 ∨ op = 0xA0) := by
  revert op
  decide

theorem request_refused {st : Status} {u : State}
    (hmem : (c, op) ∈ [(Instr.load sd port p, 0x60), (Instr.loadAcq sd port p, 0x61), (Instr.store sd port p, 0x62),
      (Instr.storeFlag sd port p, 0x63), (Instr.reduceStore sd port p, 0x66), (Instr.dmaReadReq sd port p, 0x81)])
    (hop : p.opcode = op) (hquiet : Quiet s) (hwaits : (findWork sd p s).isSome = true)
    (hcheck : checkRequest sd p s = (.bad st, u)) (hst : st ≠ stCheckFail) : Answers c s fun t =>
      t = sendResponse sd p st [] 0 (deliver sd p u) ∧ t.m.pool = s.m.pool := by
  obtain ⟨hplain, hnodma⟩ := kind_of_answered (opcode_mem hmem hop)
  have hkept := (serveKept_checkRequest sd p s hcheck).trans (serveKept_answer sd p u st [] 0)
  refine request_answers (answeredCommands_subset hmem) hop hwaits ?_ (hkept.quiet hquiet) ⟨rfl, hkept.pool⟩
  rw [serveWaiting_plain hplain, checkAndServe_refused hcheck]
  exact endAccess_plain hst hplain (fun h => absurd h hnodma) u

theorem dmaWrite_refused {st : Status} {u : State} (hop : p.opcode = 0x80) (hquiet : Quiet s)
    (hwaits : (findWork sd p s).isSome = true) (hcheck : checkRequest sd p s = (.bad st, u)) (hst : st ≠ stCheckFail)
    (hbad : st ≠ stOk) : Answers (.dmaWrite sd port p) s fun t => t = deliver sd p (refuseDma sd p st u) ∧ t.m.pool = s.m.pool := by
  have hkept := ((serveKept_checkRequest sd p s hcheck).trans (serveKept_refuseDma sd p u st)).trans (serveKept_deliver sd p _)
  refine request_answers dmaWrite_mem hop hwaits ?_ (hkept.quiet hquiet) ⟨rfl, hkept.pool⟩
  rw [serveWaiting_plain (by rw [hop]; rfl), checkAndServe_refused hcheck, endAccess_refused_dmaWrite hst hop hbad]

end Sys2Proof.Machine

section

open Sys2Proof Sys2Proof.Machine

/-- Settles O23, one lemma for each clause. -/
theorem endpointServesMemory : Obligations.EndpointServesMemory := fun _ _ _ _ _ _ =>
  ⟨fun _ _ => endpoint_begins_read, fun _ _ => endpoint_begins_write, endpoint_starts_reduceStore,
    fun _ _ => endpoint_starts_atomic, fun _ _ _ _ _ => request_refused, fun _ _ _ => dmaWrite_refused⟩

end

/-! ## TC2 packets of senders outside the leaf's rack (R246, R254, R258) -/

namespace Sys2Proof.Machine

/-- An operation that leaves the module's directory alone. -/
theorem Ev.dir {F : Nat} {s t : State} (h : Ev F s t) (hb : F.testBit (Part.mod .dir).idx = false) : t.m.dir = s.m.dir :=
  h.part (.mod .dir) hb

theorem dirClock_putEntry (line : Nat) (e : Option DirEntry) (s : State) :
    (putEntry line e s).m.dir.clock = s.m.dir.clock + 1 := rfl

theorem dir_sendCmp (dst : Eid) (tseq : BitVec 24) (off : Nat) (stale : Bool) (s : State) :
    (sendCmp dst tseq off stale s).m.dir = s.m.dir := (sendCmp_ev dst tseq off stale s).dir (by decide)

section

variable {port : Nat} {p : Packet} {s : State}

theorem dir_accept : (accept .module port p s).2.m.dir = s.m.dir := (accept_ev .module port p s).dir (by decide)

theorem atHome_of_accepted {op : BitVec 8} {f : State → State} (hop : p.opcode = op) (hleaf : s.isLeaf = true)
    (hacc : (accept .module port p s).1.isSome = true) :
    atHome port p op f s = settle .module (f (accept .module port p s).2) := by
  unfold atHome
  rw [if_pos (by simp [hop, hleaf]), accept_of_isSome _ _ _ _ hacc]

/-- An EVICT that need not wait is taken at once: it needs no directory entry (R257, R259). -/
theorem submitHome_evict {slot : Nat} (hop : p.opcode = 0x24)
    (hgo : homeWaits (.request port slot p) s.m.dir.queue s = false) :
    submitHome (.request port slot p) s = takeEvict slot p s := by
  simp [submitHome, hgo, useLines, needsEntry, startUse, hop]

/-- No entry names a sender outside the rack, so its EVICT is answered and takes nothing from an entry. -/
theorem takeEvict_of_foreign {slot : Nat} (hforeign : fromSlot p s = false) :
    takeEvict slot p s = sendCmp p.src p.xseq (64 * (p.offset.toNat / 64)) false s := by
  simp only [takeEvict, hforeign]
  split <;> rfl

theorem evict_of_foreign (hop : p.opcode = 0x24) (hleaf : s.isLeaf = true) (hacc : (accept .module port p s).1.isSome = true)
    (hfin : s.module.xpt.finished = []) (hgood : pchkGood p = true)
    (hgo : homeWaits (.request port (eidSlot p.src) p) (accept .module port p s).2.m.dir.queue (accept .module port p s).2 = false)
    (hforeign : fromSlot p (accept .module port p s).2 = false) :
    exec (.evict port p) s
      = .next (sendCmp p.src p.xseq (64 * (p.offset.toNat / 64)) false (accept .module port p s).2) := by
  have htaken : takeTc2 port p (accept .module port p s).2
      = sendCmp p.src p.xseq (64 * (p.offset.toNat / 64)) false (accept .module port p s).2 := by
    simp [takeTc2, hgood, checkTc2, hop, submitHome_evict hop hgo, takeEvict_of_foreign hforeign]
  have hquiet : ((sendCmp p.src p.xseq (64 * (p.offset.toNat / 64)) false (accept .module port p s).2).xpt .module).finished = [] := by
    rw [(sendCmp_ev ..).xpt .module (by decide), accept_xpt]
    exact hfin
  show Host.Outcome.next (atHome port p 0x24 (takeTc2 port p) s) = _
  rw [atHome_of_accepted hop hleaf hacc, htaken, settle_of_none_finished _ _ hquiet]

/-- A SNP_RSP of a sender outside the rack answers no snoop: the home takes it and does nothing. -/
theorem snpRsp_of_foreign (hop : p.opcode = 0x40) (hleaf : s.isLeaf = true) (hacc : (accept .module port p s).1.isSome = true)
    (hfin : s.module.xpt.finished = []) (hgood : pchkGood p = true) (hforeign : fromSlot p (accept .module port p s).2 = false) :
    exec (.snpRsp port p) s = .next (accept .module port p s).2 := by
  have hquiet : ((accept .module port p s).2.xpt .module).finished = [] := by rw [accept_xpt]; exact hfin
  show Host.Outcome.next (atHome port p 0x40 _ s) = _
  rw [atHome_of_accepted hop hleaf hacc, if_neg (by simp [hgood]), if_neg (by simp [hforeign]), settle_of_none_finished _ _ hquiet]

end

/-- The check covers a packet with PCHK taken as zero, so sealing it makes the check good (R69). -/
theorem pchkGood_sealPacket (p : Packet) : pchkGood (sealPacket p) = true :=
  decide_eq_true (show pchkOf p = pchkOf { p with pchk := pchkOf p } from rfl)

/-- The leaf of rack 5, with one DIRECTORY tile in service and line 0 shared by slots 0 and 5 of the rack. -/
def sharedLineLeaf : State :=
  onDir (fun d => { d with entries := [(0, { state := 1, ptrs := [0, 5] })] })
    ([(Fld.glbRoleValid, 1), (Fld.glbBringupStatusEnabled, 1), (Fld.glbEidEid, 0x40005), (Fld.dirStatusTiles, 1)].foldl
      (fun s f => s.wr .module f.1 0 f.2) .reset)

/-- A TC2 packet about line 0 to that leaf, from slot 0 of rack 6. -/
def rackSixPacket (opcode : BitVec 8) (opx : BitVec 32) : Packet :=
  sealPacket { dst := 0x40005, src := endpointEid 6 0, opcode := opcode, tc := 2, plane := false, opx := opx }

theorem pchkGood_rackSixPacket (opcode : BitVec 8) (opx : BitVec 32) : pchkGood (rackSixPacket opcode opx) = true :=
  pchkGood_sealPacket _

end Sys2Proof.Machine

section

open Sys2Proof Sys2Proof.Machine

/-- Refutes O25: its EVICT clause takes the slot of the sender's EID from the entry, without a hypothesis that the sender is an
endpoint of the leaf's rack in slots 0 to 63, the only ones that an entry names (R246). The EVICT of slot 0 of rack 6 is
answered and leaves the entry of line 0, which slot 0 of rack 5 shares (`evict_of_foreign`). -/
theorem not_homeServesCoherentRequests : ¬ Obligations.HomeServesCoherentRequests := by
  intro h
  obtain ⟨-, -, -, -, -, -, -, -, -, hevict, -⟩ := h 3 (rackSixPacket 0x24 0) sharedLineLeaf
  obtain ⟨t, hnext, hentry, -⟩ := hevict { state := 1, ptrs := [0, 5] } rfl
    ⟨⟨rfl, rfl, rfl⟩, pchkGood_rackSixPacket _ _, rfl, rfl⟩ rfl
  rw [evict_of_foreign rfl rfl rfl rfl (pchkGood_rackSixPacket _ _) rfl rfl] at hnext
  have hclock := congrArg (fun v => v.m.dir.clock) ((Host.Outcome.next.inj hnext).trans hentry)
  simp only [dir_sendCmp, dirClock_putEntry] at hclock
  omega

/-- Refutes O26: its second clause has a SNP_RSP of no transaction record the stale write-back that it announces, without a hypothesis
that the sender is an endpoint of the leaf's rack in slots 0 to 63, the only ones that the home snoops (R246). The home takes the
SNP_RSP of slot 0 of rack 6 and records nothing (`snpRsp_of_foreign`). -/
theorem not_homeSnoopsAndRecovers : ¬ Obligations.HomeSnoopsAndRecovers := by
  intro h
  obtain ⟨-, hunmatched, -⟩ := h 3 (rackSixPacket 0x40 0x20) sharedLineLeaf
  obtain ⟨t, hnext, hstale, -⟩ := hunmatched rfl ⟨rfl, rfl, rfl⟩ (pchkGood_rackSixPacket _ _) rfl rfl
  rw [snpRsp_of_foreign rfl rfl rfl rfl (pchkGood_rackSixPacket _ _) rfl] at hnext
  rw [← Host.Outcome.next.inj hnext, dir_accept] at hstale
  exact absurd hstale (by decide)

end

/-! ## A member's collectives: what a change of a chunk leaves to be read (R383, R384) -/

namespace Sys2Proof.Machine

/-- The member has one descriptor, and that one chunk. -/
structure OnlyChunk (d : CollDesc) (k : CollChunk) (s : State) : Prop where
  descs : s.e.coll.descs = [d]
  chunks : d.chunks = [k]

theorem onlyChunk_iff {d : CollDesc} {k : CollChunk} {s : State} :
    OnlyChunk d k s ↔ s.e.coll.descs = [d] ∧ d.chunks = [k] :=
  ⟨fun h => ⟨h.descs, h.chunks⟩, fun h => ⟨h.1, h.2⟩⟩

/-- An operation that leaves the member's collective state alone. -/
theorem Ev.coll {F : Nat} {s t : State} (h : Ev F s t) (hb : F.testBit (Part.ep .coll).idx = false) : t.e.coll = s.e.coll :=
  h.part (.ep .coll) hb

theorem OnlyChanges.mono {parts more : List Part} {s t : State} (h : OnlyChanges parts s t) (hsub : parts ⊆ more) :
    OnlyChanges more s t := fun p hp => h p (mt (@hsub p) hp)

theorem OnlyChanges.trans {parts : List Part} {s t u : State} (h : OnlyChanges parts s t) (k : OnlyChanges parts t u) :
    OnlyChanges parts s u := fun p hp => (h p hp).trans (k p hp)

theorem onlyChanges_onQueue (q : Nat) (f : EpQueue → EpQueue) (s : State) : OnlyChanges [.ep .queues] s (onQueue q f s) :=
  onlyChanges (F := (Part.ep .queues).bit)
    (onE_ev _ _ (by constructor <;> first | exact .inr rfl | exact .inl (Part.bit_self _))) _ (Sub.orRight 0 _)

theorem onlyChanges_onColl (f : CollState → CollState) (s : State) : OnlyChanges [.ep .coll] s (onColl f s) :=
  onlyChanges (F := (Part.ep .coll).bit)
    (onE_ev _ _ (by constructor <;> first | exact .inr rfl | exact .inl (Part.bit_self _))) _ (Sub.orRight 0 _)

theorem coll_startTxnWith (cont : MemCont) (poison : Bool) (lockTag : Option Nat)
    (parts : List (MqOp × Nat × Nat × List Byte)) (s : State) :
    (startTxnWith cont poison lockTag parts s).e.coll = s.e.coll := (startTxnWith_ev ..).coll rfl

theorem coll_memStore (cont : MemCont) (poison : Bool) (a : Nat) (data : List Byte) (s : State) :
    (memStore cont poison a data s).e.coll = s.e.coll := coll_startTxnWith ..

theorem coll_writeCollRecord (id c : Nat) (s : State) : (writeCollRecord id c s).e.coll = s.e.coll :=
  (writeCollRecord_ev id c s).coll rfl

theorem coll_accept (port : Nat) (p : Packet) (s : State) : (accept .endpoint port p s).2.e.coll = s.e.coll :=
  (accept_ev .endpoint port p s).coll rfl

variable {s : State} {d : CollDesc} {k : CollChunk} {id c count : Nat} {st : Status} {member : Option Nat} {stops : Bool}

/-! ### Descriptors and chunks by their numbers -/

/-- What a search by a number finds after a change, of the entries with that number, that keeps the number. -/
theorem find?_map_of_key {α : Type} {l : List α} {key : α → Nat} {f : α → α} {n : Nat} {a : α}
    (hf : ∀ x, key (f x) = key x) (h : l.find? (fun x => decide (key x = n)) = some a) :
    (l.map fun x => if key x = n then f x else x).find? (fun x => decide (key x = n)) = some (f a) := by
  have hsame : ((fun x => decide (key x = n)) ∘ fun x => if key x = n then f x else x) = fun x => decide (key x = n) := by
    funext x
    by_cases hx : key x = n <;> simp [hx, hf]
  have ha : key a = n := of_decide_eq_true (List.find?_some (p := fun x => decide (key x = n)) h)
  rw [List.find?_map, hsame, h, Option.map_some, if_pos ha]

theorem collOf_eq_some_iff :
    collOf id c s = some (d, k) ↔ collDesc id s = some d ∧ d.chunks.find? (fun k => decide (k.chunk = c)) = some k := by
  unfold collOf
  cases collDesc id s with
  | none => simp
  | some e =>
    simp only [Option.map_eq_some_iff, Prod.mk.injEq, Option.some.injEq]
    constructor
    · rintro ⟨x, hx, rfl, rfl⟩
      exact ⟨rfl, hx⟩
    · rintro ⟨rfl, hk⟩
      exact ⟨k, hk, rfl, rfl⟩

theorem numbers_of_collOf (h : collOf id c s = some (d, k)) : d.id = id ∧ k.chunk = c := by
  obtain ⟨hd, hk⟩ := collOf_eq_some_iff.mp h
  exact ⟨of_decide_eq_true (List.find?_some (p := fun d : CollDesc => decide (d.id = id)) hd),
    of_decide_eq_true (List.find?_some (p := fun k : CollChunk => decide (k.chunk = c)) hk)⟩

theorem collOf_congr {t : State} (h : t.e.coll = s.e.coll) (id c : Nat) : collOf id c t = collOf id c s := by
  unfold collOf collDesc
  rw [h]

theorem collDesc_onCollDesc {f : CollDesc → CollDesc} (hf : ∀ d, (f d).id = d.id) (h : collDesc id s = some d) :
    collDesc id (onCollDesc id f s) = some (f d) := find?_map_of_key (key := CollDesc.id) hf h

/-- A descriptor with one of its chunks changed. -/
def mapChunk (c : Nat) (f : CollChunk → CollChunk) (d : CollDesc) : CollDesc :=
  { d with chunks := d.chunks.map fun k => if k.chunk = c then f k else k }

theorem collOf_onCollChunk {f : CollChunk → CollChunk} (hf : ∀ k, (f k).chunk = k.chunk) (h : collOf id c s = some (d, k)) :
    collOf id c (onCollChunk id c f s) = some (mapChunk c f d, f k) := by
  obtain ⟨hd, hk⟩ := collOf_eq_some_iff.mp h
  exact collOf_eq_some_iff.mpr ⟨collDesc_onCollDesc (f := mapChunk c f) (fun _ => rfl) hd,
    find?_map_of_key (key := CollChunk.chunk) hf hk⟩

/-! ### The end of a chunk (R298, R589) -/

/-- A chunk of a descriptor that has ended, with the word of its record. -/
def endedChunk (d : CollDesc) (st : Status) (count : Nat) (member : Option Nat) (k : CollChunk) : CollChunk :=
  { k with ended := some (st, collRecordWord d k.resent st count member), backoff := false, srcFailed := none }

/-- A descriptor that notes the first failure of a chunk. -/
def noteFailure (st : Status) (d : CollDesc) : CollDesc := { d with failed := if d.failed.isSome then d.failed else some st }

/-- The state in which chunk `c` of a descriptor has ended and its record is still to be written. -/
def markEnded (d : CollDesc) (id c : Nat) (st : Status) (count : Nat) (member : Option Nat) (stops : Bool) (s : State) : State :=
  if decide (st ≠ stOk) && stops then onCollDesc id (noteFailure st) (onCollChunk id c (endedChunk d st count member) s)
  else onCollChunk id c (endedChunk d st count member) s

theorem coll_endChunk (h : collOf id c s = some (d, k)) (hopen : k.ended = none) :
    (endChunk id c st count member stops s).e.coll = (markEnded d id c st count member stops s).e.coll := by
  unfold endChunk
  rw [h]
  dsimp only
  rw [hopen, Option.isSome_none, if_neg Bool.false_ne_true]
  split
  · exact coll_memStore ..
  · exact coll_writeCollRecord ..

theorem aborts_endChunk (id c : Nat) (st : Status) (count : Nat) (member : Option Nat) (stops : Bool) (s : State) :
    (endChunk id c st count member stops s).e.coll.aborts = s.e.coll.aborts := by
  cases hof : collOf id c s with
  | none => simp only [endChunk, hof]
  | some x =>
    obtain ⟨d, k⟩ := x
    cases hended : k.ended with
    | none =>
      rw [coll_endChunk hof hended, markEnded]
      split <;> rfl
    | some e => simp [endChunk, hof, hended]

theorem aborts_endChunks (hit : CollDesc → CollChunk → Bool) (st : Status) (count : Nat) (member : Option Nat) (s : State) :
    (endChunks hit st count member s).e.coll.aborts = s.e.coll.aborts := by
  unfold endChunks
  exact List.foldlRecOn (motive := fun t : State => t.e.coll.aborts = s.e.coll.aborts) _ _ rfl
    fun t ht x _ => (aborts_endChunk ..).trans ht

/-- Status of a chunk that has ended, and the failure that its descriptor has noted. -/
def endShown (x : CollDesc × CollChunk) : Option Status × Option Status := (x.2.ended.map (·.1), x.1.failed)

theorem collOf_endChunk (h : collOf id c s = some (d, k)) (hopen : k.ended = none) :
    (collOf id c (endChunk id c st count member stops s)).map endShown
      = some (some st, if decide (st ≠ stOk) && stops then some (d.failed.getD st) else d.failed) := by
  have hended := collOf_onCollChunk (f := endedChunk d st count member) (fun _ => rfl) h
  rw [collOf_congr (coll_endChunk h hopen), markEnded]
  split
  · obtain ⟨hd, hk⟩ := collOf_eq_some_iff.mp hended
    have hnoted := collDesc_onCollDesc (f := noteFailure st) (fun _ => rfl) hd
    rw [collOf_eq_some_iff.mpr ⟨hnoted, hk⟩]
    cases hfailed : d.failed <;> simp [endShown, endedChunk, noteFailure, mapChunk, hfailed]
  · rw [hended]
    rfl

/-! ### A member with one descriptor and one chunk -/

/-- The statuses with which the chunks of each descriptor have ended. -/
def chunkEnds (s : State) : List (List (Option Status)) :=
  s.e.coll.descs.map fun d => d.chunks.map fun k => k.ended.map fun e => e.1

theorem chunkEnds_congr {t : State} (h : t.e.coll = s.e.coll) : chunkEnds t = chunkEnds s := by rw [chunkEnds, chunkEnds, h]

namespace OnlyChunk

theorem congr {t : State} (h : OnlyChunk d k s) (he : t.e.coll = s.e.coll) : OnlyChunk d k t := ⟨he ▸ h.descs, h.chunks⟩

theorem accept (h : OnlyChunk d k s) (port : Nat) (p : Packet) : OnlyChunk d k (accept .endpoint port p s).2 :=
  h.congr (coll_accept port p s)

theorem onCollDesc {f : CollDesc → CollDesc} (h : OnlyChunk d k s) (hf : (f d).chunks = d.chunks) :
    OnlyChunk (f d) k (onCollDesc d.id f s) := by
  obtain ⟨hdescs, hchunks⟩ := h
  refine ⟨?_, hf.trans hchunks⟩
  change s.e.coll.descs.map _ = _
  rw [hdescs, List.map_singleton, if_pos rfl]

theorem onCollChunk (h : OnlyChunk d k s) (f : CollChunk → CollChunk) :
    OnlyChunk { d with chunks := [f k] } (f k) (onCollChunk d.id k.chunk f s) := by
  obtain ⟨hdescs, hchunks⟩ := h
  refine ⟨?_, rfl⟩
  simp [Machine.onCollChunk, Machine.onCollDesc, onColl, hdescs, hchunks]

theorem collOf (h : OnlyChunk d k s) : collOf d.id k.chunk s = some (d, k) := by
  obtain ⟨hdescs, hchunks⟩ := h
  refine collOf_eq_some_iff.mpr ⟨?_, ?_⟩
  · rw [collDesc, hdescs]
    simp
  · rw [hchunks]
    simp

theorem chunkEnds (h : OnlyChunk d k s) : chunkEnds s = [[k.ended.map fun e => e.1]] := by
  obtain ⟨hdescs, hchunks⟩ := h
  rw [Machine.chunkEnds, hdescs, List.map_singleton, hchunks, List.map_singleton]

theorem endChunk (h : OnlyChunk d k s) (hopen : k.ended = none) (st : Status) (count : Nat) (member : Option Nat) (stops : Bool) :
    Machine.chunkEnds (endChunk d.id k.chunk st count member stops s) = [[some st]] := by
  have hmarked : ∃ d', OnlyChunk d' (endedChunk d st count member k) (markEnded d d.id k.chunk st count member stops s) := by
    unfold markEnded
    split
    · exact ⟨_, (h.onCollChunk _).onCollDesc rfl⟩
    · exact ⟨_, h.onCollChunk _⟩
  obtain ⟨d', hone⟩ := hmarked
  exact (hone.congr (coll_endChunk h.collOf hopen)).chunkEnds

theorem endChunks {hit : CollDesc → CollChunk → Bool} (h : OnlyChunk d k s) (hopen : k.ended = none) (hhit : hit d k = true)
    (st : Status) (count : Nat) (member : Option Nat) :
    Machine.chunkEnds (endChunks hit st count member s) = [[some st]] := by
  have hlist : (s.e.coll.descs.flatMap fun d => (d.chunks.filter fun k => k.ended.isNone && hit d k).map fun k => (d.id, k.chunk))
      = [(d.id, k.chunk)] := by simp [h.descs, h.chunks, hopen, hhit]
  unfold Machine.endChunks
  rw [hlist]
  exact h.endChunk hopen st count member true

theorem keepAbort (h : OnlyChunk d k s) (g step : Nat) (st : Status) (slot : List Byte) (count : Nat) :
    OnlyChunk d k (keepAbort g step st slot count s) := ⟨h.descs, h.chunks⟩

end OnlyChunk

end Sys2Proof.Machine

/-! ## Descriptors of collectives, their cancels and their start (R288, R291, R292) -/

namespace Sys2Proof.Machine

variable {s : State} {d : CollDesc} {k : CollChunk} {b : List Byte} {l : List (List Byte)} {g : Nat}

theorem collQueue_unchanged {c : Instr} (hc : c ∈ [Instr.collDescriptor, Instr.collCancel])
    (hnone : (epQueue 32 s).fetched = []) : Answers c s fun t => t = s := by
  simp only [List.mem_cons, List.not_mem_nil, or_false] at hc
  rcases hc with rfl | rfl <;> refine ⟨_, rfl, ?_⟩ <;> rw [hnone]

theorem collDescriptor_leaves_cancel (hfetched : (epQueue 32 s).fetched = b :: l)
    (hcancel : (leNat (slice b 7 1)).testBit 4 = true) : Answers .collDescriptor s fun t => t = s := by
  refine ⟨_, rfl, ?_⟩
  rw [hfetched]
  exact if_pos hcancel

theorem collCancel_leaves_descriptor (hfetched : (epQueue 32 s).fetched = b :: l)
    (hplain : (leNat (slice b 7 1)).testBit 4 = false) : Answers .collCancel s fun t => t = s := by
  refine ⟨_, rfl, ?_⟩
  rw [hfetched]
  exact if_neg (by simp [hplain])

theorem exec_collDescriptor (hfetched : (epQueue 32 s).fetched = b :: l) (hplain : (leNat (slice b 7 1)).testBit 4 = false) :
    exec .collDescriptor s = .next (acceptDesc b (takeFetched 32 l s)) := by
  change execCollDescriptor s = _
  simp only [execCollDescriptor, hfetched, hplain, Bool.false_eq_true, if_false, takeFetched]

/-! ### A descriptor that is accepted (R288, R383) -/

/-- The descriptor that bytes make active, with its start. -/
def activeDesc (b : List Byte) (g : Nat) (chunks : List Nat) (s : State) : CollDesc :=
  { descOf b g chunks s with startAt := (timedStart b s).1, late := (timedStart b s).2 }

/-- The chunks of a descriptor whose range holds. -/
def rangeChunks (b : List Byte) : List Nat :=
  (List.range (leNat (slice b 16 3) + 1 - leNat (slice b 13 3))).map fun i => leNat (slice b 13 3) + i

/-- The state with one more active descriptor. -/
def addColl (d : CollDesc) (s : State) : State :=
  onColl (fun e => { e with nextDesc := e.nextDesc + 1, descs := e.descs ++ [d] }) s

theorem acceptDesc_of_good (hctx : collCtx (leNat (slice b 0 2)) s = some g) (hgood : descFailures b (some g) s = [])
    (hrange : rangeValid b = true) : acceptDesc b s
      = noteStep g (leNat (slice b 2 3)) (addColl (activeDesc b g (rangeChunks b) s) s) := by
  unfold acceptDesc
  simp only [hctx, hgood, hrange]
  rfl

theorem collDescriptor_accepts (b : List Byte) (l : List (List Byte)) (g : Nat) (hfetched : (epQueue 32 s).fetched = b :: l)
    (hplain : (leNat (slice b 7 1)).testBit 4 = false) (hctx : collCtx (leNat (slice b 0 2)) s = some g)
    (hgood : descFailures b (some g) s = []) (hrange : rangeValid b = true) : Answers .collDescriptor s fun t =>
      t.e.coll.descs = s.e.coll.descs ++ [activeDesc b g (rangeChunks b) s]
        ∧ (epQueue 32 t).fetched = l ∧ t.e.coll.nextDesc = s.e.coll.nextDesc + 1
        ∧ OnlyChanges [.ep .coll, .ep .queues] s t := by
  refine ⟨_, exec_collDescriptor hfetched hplain, ?_⟩
  rw [acceptDesc_of_good (s := takeFetched 32 l s) hctx hgood hrange]
  have hqueue := onlyChanges_onQueue 32 (fun k => { k with fetched := l }) s
  have hcoll : OnlyChanges [.ep .coll] (takeFetched 32 l s)
      (noteStep g (leNat (slice b 2 3)) (addColl (activeDesc b g (rangeChunks b) s) (takeFetched 32 l s))) :=
    (onlyChanges_onColl _ _).trans (onlyChanges_onColl _ _)
  exact ⟨rfl, congrArg EpQueue.fetched (epQueue_onQueue s 32 fun k => { k with fetched := l }), rfl,
    (hqueue.mono (by simp)).trans (hcoll.mono (by simp))⟩

/-! ### A descriptor whose range does not hold (R288) -/

/-- A descriptor that has failed waits for nothing. -/
def unstarted (d : CollDesc) : CollDesc := { d with late := false, startAt := none }

theorem acceptDesc_of_range (hrange : rangeValid b = false) : acceptDesc b s
    = endChunk s.e.coll.nextDesc (leNat (slice b 13 3))
        (reportStatus (descFailures b (collCtx (leNat (slice b 0 2)) s) s ++ [stResource])).1 0 none true
        (onCollDesc s.e.coll.nextDesc unstarted
          (addColl (activeDesc b ((collCtx (leNat (slice b 0 2)) s).getD 0) [leNat (slice b 13 3)] s) s)) := by
  unfold acceptDesc
  simp only [hrange, Bool.false_eq_true, if_false]
  split
  · next hnone => simp at hnone
  · rfl

theorem collDescriptor_ends_range (b : List Byte) (l : List (List Byte)) (hfetched : (epQueue 32 s).fetched = b :: l)
    (hplain : (leNat (slice b 7 1)).testBit 4 = false) (hrange : rangeValid b = false) (hnone : s.e.coll.descs = []) :
    Answers .collDescriptor s fun t =>
      chunkEnds t = [[some (reportStatus (descFailures b (collCtx (leNat (slice b 0 2)) s) s ++ [stResource])).1]] := by
  refine ⟨_, exec_collDescriptor hfetched hplain, ?_⟩
  set d := activeDesc b ((collCtx (leNat (slice b 0 2)) s).getD 0) [leNat (slice b 13 3)] s
  have hone : OnlyChunk d
      { chunk := leNat (slice b 13 3), plane := chunkPlane (leNat (slice b 7 1) / 4 % 4) (leNat (slice b 13 3)) }
      (addColl d (takeFetched 32 l s)) := by
    refine ⟨?_, rfl⟩
    change s.e.coll.descs ++ [d] = [d]
    rw [hnone, List.nil_append]
  rw [acceptDesc_of_range hrange]
  exact (hone.onCollDesc (f := unstarted) rfl).endChunk rfl _ _ _ _

/-! ### Cancels and timed starts -/

theorem exec_collCancel (hfetched : (epQueue 32 s).fetched = b :: l) (hcancel : (leNat (slice b 7 1)).testBit 4 = true) :
    exec .collCancel s = .next (fetchColl (cancelStep (leNat (slice b 0 2)) (leNat (slice b 2 3)) (takeFetched 32 l s))) := by
  change execCollCancel s = _
  simp only [execCollCancel, hfetched, hcancel, if_true, takeFetched]

/-- An abort or cancel that is recorded stands last among those of its context (R304). -/
theorem getLast?_keepAbort (g step : Nat) (st : Status) (slot : List Byte) (count : Nat) (s : State) :
    (smapGet (keepAbort g step st slot count s).e.coll.aborts [] g).getLast?
      = some { step := step, status := st, slot := slot, count := count } := by
  change (smapGet (smapSet _ g (List.drop _ _)) [] g).getLast? = _
  rw [smapGet_set_same, List.getLast?_drop, if_neg (by simp), List.getLast?_concat]

/-- A cancel of the member's one chunk ends it and is recorded last (R292, R304). -/
theorem OnlyChunk.cancelStep {group step : Nat} (hone : OnlyChunk d k s) (hopen : k.ended = none)
    (hctx : collCtx group s = some d.ctx) (hstep : d.step = step) :
    Machine.chunkEnds (cancelStep group step s) = [[some stAborted]]
      ∧ (smapGet (cancelStep group step s).e.coll.aborts [] d.ctx).getLast?.map (fun a => (a.step, a.status, a.count))
        = some (d.step, stAborted, 0) := by
  unfold Machine.cancelStep
  rw [hctx]
  refine ⟨(hone.keepAbort ..).endChunks hopen (by simp [hstep]) .., ?_⟩
  dsimp only
  rw [aborts_endChunks, getLast?_keepAbort, hstep]
  rfl

theorem collCancel_ends_step (b : List Byte) (l : List (List Byte)) (g : Nat) (d : CollDesc) (k : CollChunk)
    (hfetched : (epQueue 32 s).fetched = b :: l) (hcancel : (leNat (slice b 7 1)).testBit 4 = true)
    (hctx : collCtx (leNat (slice b 0 2)) s = some g) (hone : s.e.coll.descs = [d] ∧ d.chunks = [k]) (hg : d.ctx = g)
    (hstep : d.step = leNat (slice b 2 3)) (hopen : k.ended = none) : Answers .collCancel s fun t =>
      chunkEnds t = [[some stAborted]]
        ∧ (smapGet t.e.coll.aborts [] g).getLast?.map (fun a => (a.step, a.status, a.count)) = some (d.step, stAborted, 0) := by
  refine ⟨_, exec_collCancel hfetched hcancel, ?_⟩
  have hstepped := OnlyChunk.cancelStep (s := takeFetched 32 l s) (onlyChunk_iff.mpr hone) hopen
    (hctx.trans (congrArg some hg.symm)) hstep
  rw [← hg]
  have hfetch := (fetchColl_ev (cancelStep (leNat (slice b 0 2)) (leNat (slice b 2 3)) (takeFetched 32 l s))).coll rfl
  exact ⟨(chunkEnds_congr hfetch).trans hstepped.1, by rw [hfetch, hstepped.2]⟩

theorem timedStart_starts (id : Nat) (d : CollDesc) (h : collDesc id s = some d) : Answers (.timedStart id) s fun t =>
    collDesc id t = some { d with startAt := none } ∧ OnlyChanges [.ep .coll] s t := by
  exact ⟨_, rfl, collDesc_onCollDesc (fun _ => rfl) h, onlyChanges_onColl _ s⟩

end Sys2Proof.Machine

/-! ## Chunks that launch, and the timers of a chunk (R289, R298, R589) -/

namespace Sys2Proof.Machine

variable {s : State} {d : CollDesc} {k : CollChunk} {plane : Bool} {g id c : Nat}

theorem chunkSend_of_none (hnone : nextChunk g plane s = none) : Answers (.chunkSend g plane) s fun t => t = s := by
  refine ⟨_, rfl, ?_⟩
  rw [hnone]

theorem chunkSend_of_closed (hnext : nextChunk g plane s = some (d, k))
    (hclosed : d.startAt ≠ none ∨ d.window ≤ chunksOut g plane s) : Answers (.chunkSend g plane) s fun t => t = s := by
  refine ⟨_, rfl, ?_⟩
  rw [hnext]
  refine if_neg ?_
  simp only [Bool.and_eq_true, Option.isNone_iff_eq_none, decide_eq_true_eq, not_and, not_lt]
  exact fun hstart => hclosed.resolve_left (not_not_intro hstart)

theorem exec_chunkSend (hnext : nextChunk g plane s = some (d, k)) (hstart : d.startAt = none)
    (hroom : chunksOut g plane s < d.window) : exec (.chunkSend g plane) s = .next (launchChunk d k s) := by
  change execChunkSend g plane s = _
  simp [execChunkSend, hnext, hstart, hroom]

/-- The next chunk to launch has not ended. -/
theorem ended_of_nextChunk (hnext : nextChunk g plane s = some (d, k)) : k.ended = none := by
  simp only [nextChunk, Option.bind_eq_some_iff, Option.map_eq_some_iff, Prod.mk.injEq] at hnext
  obtain ⟨d', -, k', hfind, rfl, rfl⟩ := hnext
  have hopen := List.find?_some hfind
  simp only [Bool.and_eq_true, Option.isNone_iff_eq_none] at hopen
  exact hopen.1.2

theorem launchChunk_of_refused (hrefused : launchRefused d s ≠ []) :
    launchChunk d k s = endChunk d.id k.chunk (reportStatus (launchRefused d s)).1 0 none true s := by
  unfold launchChunk
  split
  · next hnone => exact absurd hnone hrefused
  · rfl

/-- The chunk's contribution is read, once more than before. -/
theorem OnlyChunk.readContribution (h : OnlyChunk d k s) :
    (Machine.readContribution d.id k.chunk s).e.coll.descs
        = [{ d with chunks := [{ k with reads := k.reads + 1, reading := true, backoff := false }] }]
      ∧ txnConts (Machine.readContribution d.id k.chunk s) = txnConts s ++ [.collSrc d.id k.chunk (k.reads + 1)] := by
  unfold Machine.readContribution
  rw [h.collOf]
  exact ⟨((h.onCollChunk _).congr (coll_startTxnWith ..)).descs, txnConts_startTxnWith ..⟩

/-- A chunk that launches at its first attempt. -/
def firstAttempt (k : CollChunk) : CollChunk := { k with launched := true, attempt := 0 }

/-- A chunk for which no attempt is recorded launches at its first, and its contribution is read. -/
theorem OnlyChunk.launchChunk (hone : OnlyChunk d k s) (hattempts : s.e.coll.attempts = []) (hmay : launchRefused d s = []) :
    (launchChunk d k s).e.coll.descs
        = [{ d with chunks := [{ firstAttempt k with reads := k.reads + 1, reading := true, backoff := false }] }]
      ∧ txnConts (launchChunk d k s) = txnConts s ++ [.collSrc d.id k.chunk (k.reads + 1)] := by
  unfold Machine.launchChunk
  rw [hmay]
  dsimp only
  rw [hattempts]
  have hkept : OnlyChunk d k (onColl (fun e => { e with attempts := e.attempts.filter fun x =>
    !(decide (x.ctx = d.ctx) && decide (x.step = d.step) && decide (x.chunk = k.chunk)) }) s) := ⟨hone.descs, hone.chunks⟩
  exact (hkept.onCollChunk firstAttempt).readContribution

theorem chunkSend_launches (g : Nat) (plane : Bool) (d : CollDesc) (k : CollChunk) (hnext : nextChunk g plane s = some (d, k))
    (hstart : d.startAt = none) (hroom : chunksOut g plane s < d.window)
    (hone : s.e.coll.descs = [d] ∧ d.chunks = [k]) (hattempts : s.e.coll.attempts = []) (hmay : launchRefused d s = []) :
    Answers (.chunkSend g plane) s fun t =>
      t.e.coll.descs
          = [{ d with chunks := [{ k with launched := true, attempt := 0, reads := k.reads + 1, reading := true, backoff := false }] }]
        ∧ txnConts t = txnConts s ++ [.collSrc d.id k.chunk (k.reads + 1)] :=
  ⟨_, exec_chunkSend hnext hstart hroom, (onlyChunk_iff.mpr hone).launchChunk hattempts hmay⟩

theorem chunkSend_ends_refused (g : Nat) (plane : Bool) (d : CollDesc) (k : CollChunk)
    (hnext : nextChunk g plane s = some (d, k)) (hstart : d.startAt = none) (hroom : chunksOut g plane s < d.window)
    (hone : s.e.coll.descs = [d] ∧ d.chunks = [k]) (hrefused : launchRefused d s ≠ []) : Answers (.chunkSend g plane) s fun t =>
      chunkEnds t = [[some (reportStatus (launchRefused d s)).1]] := by
  refine ⟨_, exec_chunkSend hnext hstart hroom, ?_⟩
  rw [launchChunk_of_refused hrefused]
  exact (onlyChunk_iff.mpr hone).endChunk (ended_of_nextChunk hnext) ..

/-! ### Timers -/

theorem chunkTimer_unchanged {x : Instr}
    (hx : x ∈ [Instr.probeTimer id c, Instr.collTimeout id c, Instr.srcReadFail id c, Instr.refusalBackoff .endpoint id 0 c])
    (hnone : collOf id c s = none) : Answers x s fun t => t = s := by
  simp only [List.mem_cons, List.not_mem_nil, or_false] at hx
  rcases hx with rfl | rfl | rfl | rfl <;> refine ⟨_, rfl, ?_⟩ <;> dsimp only <;> rw [hnone]

theorem probeTimer_asks (hof : collOf id c s = some (d, k)) (hlaunched : k.launched = true) (hopen : k.ended = none)
    (hunverified : k.verified = false) : Answers (.probeTimer id c) s fun t => t = sendProbe d k s ∧ t.e.coll = s.e.coll := by
  refine ⟨sendProbe d k s, ?_, rfl, (sendProbe_ev d k s).coll rfl⟩
  change execProbeTimer id c s = _
  simp [execProbeTimer, hof, hlaunched, hopen, hunverified]

theorem collTimeout_ends (hof : collOf id c s = some (d, k)) (hlaunched : k.launched = true) (hopen : k.ended = none) :
    Answers (.collTimeout id c) s fun t =>
      (collOf id c t).map endShown = some (some stTimeout, some (d.failed.getD stTimeout)) := by
  refine ⟨endChunk id c stTimeout 0 none true s, ?_, collOf_endChunk hof hopen⟩
  change execCollTimeout id c s = _
  simp [execCollTimeout, hof, hlaunched]

theorem collTimeout_of_unlaunched (hof : collOf id c s = some (d, k)) (hwaits : k.launched = false) :
    Answers (.collTimeout id c) s fun t => t = s := by
  refine ⟨_, rfl, ?_⟩
  rw [hof]
  exact if_neg (by simp [hwaits])

theorem srcReadFail_ends {st : Status} (hof : collOf id c s = some (d, k)) (hfailed : k.srcFailed = some st)
    (hopen : k.ended = none) : Answers (.srcReadFail id c) s fun t =>
      (collOf id c t).map endShown = some (some st, d.failed) := by
  set sent := sendAbort (descKey d) k.plane st d.step c (ownAbort d (s.myEid .endpoint) (some d.member)) 0 s
  have hsent : collOf id c sent = some (d, k) := (collOf_congr ((sendAbort_ev ..).coll rfl) id c).trans hof
  refine ⟨endChunk id c st 0 (some d.member) false sent, ?_, ?_⟩
  · change execSrcReadFail id c s = _
    simp only [execSrcReadFail, hof, hfailed, sent]
  · exact (collOf_endChunk hsent hopen).trans (by rw [Bool.and_false]; rfl)

end Sys2Proof.Machine

/-! ## Packets that reach a member: results, aborts and resends (R298, R300, R304, R306) -/

namespace Sys2Proof.Machine

variable {s : State} {port : Nat} {p : Packet} {d : CollDesc} {k : CollChunk}

theorem receiveColl_of_good {sd : Side} (hcame : (accept sd port p s).1.isSome = true) (hgood : pchkGood p = true) :
    receiveColl sd port p s = (true, (accept sd port p s).2) := by
  unfold receiveColl
  rw [accept_of_isSome sd port p s hcame]
  exact if_pos hgood

theorem receiveColl_of_bad {sd : Side} (hcame : (accept sd port p s).1.isSome = true) (hbad : pchkGood p = false) :
    receiveColl sd port p s = (false, dropBadCheck sd (accept sd port p s).2) := by
  unfold receiveColl
  rw [accept_of_isSome sd port p s hcame]
  exact if_neg (by simp [hbad])

/-! ### Results (R298) -/

theorem collResult_of_bad (hop : p.opcode = 0x91) (hcame : (accept .endpoint port p s).1.isSome = true)
    (hbad : pchkGood p = false) :
    Answers (.collResult .endpoint port p) s fun t => t = dropBadCheck .endpoint (accept .endpoint port p s).2 := by
  refine ⟨_, ?_, rfl⟩
  change execCollResult .endpoint port p s = _
  simp only [execCollResult, hop, receiveColl_of_bad hcame hbad, ne_eq, not_true_eq_false, if_false]

theorem exec_collResult (hop : p.opcode = 0x91)
    (hcame : (accept .endpoint port p s).1.isSome = true ∧ pchkGood p = true) :
    exec (.collResult .endpoint port p) s = .next (takeResult p (accept .endpoint port p s).2) := by
  change execCollResult .endpoint port p s = _
  simp only [execCollResult, hop, receiveColl_of_good hcame.1 hcame.2, ne_eq, not_true_eq_false, if_false]

theorem collResult_of_none (hop : p.opcode = 0x91) (hcame : (accept .endpoint port p s).1.isSome = true ∧ pchkGood p = true)
    (hnone : resultChunk p (accept .endpoint port p s).2 = none) :
    Answers (.collResult .endpoint port p) s fun t => t = (accept .endpoint port p s).2 := by
  refine ⟨_, exec_collResult hop hcame, ?_⟩
  unfold takeResult
  rw [hnone]

/-- A packet that is not encrypted is taken as it stands (R501). -/
theorem openColl_of_plain {sd : Side} (group : Nat) (hplain : p.enc = false) (s : State) : openColl sd group p s = .ok p := by
  simp [openColl, openPacket, hplain]

/-- A fragment of a format without block scales is one range of bytes (R588). -/
theorem fragRanges_of_plain {f : Nat} (hplain : fmtMx f = false) (n : Nat) : fragRanges f n = [(0, (n * fmtBits f + 7) / 8)] :=
  if_neg (by simp [hplain])

/-- The fragments of a chunk are numbered from 0. -/
theorem fst_lt_of_mem_chunkFragments {c : Nat} {x : Nat × Nat} (hx : x ∈ chunkFragments d c) :
    x.1 < (chunkFragments d c).length := by
  simp only [chunkFragments, List.mem_map, List.mem_range] at hx
  obtain ⟨f, hf, rfl⟩ := hx
  simpa [chunkFragments] using hf

/-- Nothing is checked while a fragment is missing. -/
theorem verifyChunk_of_missing
    (hmissing : ((chunkFragments d k.chunk).any fun x => (smapGet? k.got x.1).isNone) = true) (s : State) :
    verifyChunk d k s = s := by
  obtain ⟨x, hx, hnone⟩ := List.any_eq_true.mp hmissing
  refine if_pos (List.any_eq_true.mpr ⟨smapGet? k.got x.1, ?_, hnone⟩)
  exact List.mem_map.mpr ⟨x.1, List.mem_range.mpr (fst_lt_of_mem_chunkFragments hx), rfl⟩

/-- A chunk with one more fragment, whose one write is outstanding. -/
def tookFragment (d : CollDesc) (p : Packet) (k : CollChunk) : CollChunk :=
  { k with
    got := smapSet k.got (collFrag p) p.payload, writes := k.writes + 1, resent := k.resent || p.opx.getLsbD 30
    check := if decide (collFrag p + 1 = (chunkFragments d k.chunk).length) then some (slotCheck p) else k.check }

/-- A fragment that leaves another missing is recorded, and one write begins. -/
theorem takeFragment_of_missing {n : Nat}
    (hfind : (chunkFragments d k.chunk).find? (fun x => decide (x.1 = collFrag p)) = some (collFrag p, n))
    (hplain : fmtMx d.fmtDown = false)
    (hmissing : ((chunkFragments d k.chunk).any fun x => decide (x.1 ≠ collFrag p) && (smapGet? k.got x.1).isNone) = true)
    (s : State) : ∃ a data, takeFragment d k p s
      = memStore (.collDst d.id k.chunk) false a data (onCollChunk d.id k.chunk (fun _ => tookFragment d p k) s) := by
  have hstill : ((chunkFragments d (tookFragment d p k).chunk).any fun x =>
      (smapGet? (tookFragment d p k).got x.1).isNone) = true := by
    obtain ⟨x, hx, hother⟩ := List.any_eq_true.mp hmissing
    simp only [Bool.and_eq_true, decide_eq_true_eq] at hother
    refine List.any_eq_true.mpr ⟨x, hx, ?_⟩
    rw [tookFragment, smapGet?_set_other _ _ _ _ hother.1]
    exact hother.2
  unfold takeFragment
  simp only [hfind, fragRanges_of_plain hplain]
  exact ⟨_, _, verifyChunk_of_missing hstill _⟩

theorem collResult_records (d : CollDesc) (k : CollChunk) (n : Nat) (hop : p.opcode = 0x91)
    (hcame : (accept .endpoint port p s).1.isSome = true ∧ pchkGood p = true) (hplain : p.enc = false)
    (hone : s.e.coll.descs = [d] ∧ d.chunks = [k])
    (hchunk : resultChunk p (accept .endpoint port p s).2 = some (d, k))
    (hfind : (chunkFragments d k.chunk).find? (fun x => decide (x.1 = collFrag p)) = some (collFrag p, n))
    (hfmt : fmtMx d.fmtDown = false)
    (hmissing : ((chunkFragments d k.chunk).any fun x => decide (x.1 ≠ collFrag p) && (smapGet? k.got x.1).isNone) = true) :
    Answers (.collResult .endpoint port p) s fun t =>
      t.e.coll.descs.map (fun x => x.chunks.map fun y => (smapGet? y.got (collFrag p), y.writes, y.ended))
          = [[(some p.payload, k.writes + 1, k.ended)]]
        ∧ txnConts t = txnConts s ++ [.collDst d.id k.chunk] := by
  refine ⟨_, exec_collResult hop hcame, ?_⟩
  obtain ⟨a, data, htook⟩ := takeFragment_of_missing hfind hfmt hmissing (accept .endpoint port p s).2
  unfold takeResult
  rw [hchunk]
  dsimp only
  rw [openColl_of_plain d.group hplain]
  dsimp only
  rw [htook]
  constructor
  · obtain ⟨hdescs, -⟩ := (((onlyChunk_iff.mpr hone).accept port p).onCollChunk
      fun _ => tookFragment d p k).congr (coll_memStore _ false a data _)
    rw [hdescs]
    simp [tookFragment, smapGet?_set_same]
  · rw [txnConts_memStore]
    exact congrArg (· ++ _) ((accept_ev .endpoint port p s).txnConts rfl)

/-! ### Aborts (R306) -/

theorem exec_collAbort (hop : p.opcode = 0x92) (hcame : (accept .endpoint port p s).1.isSome = true ∧ pchkGood p = true) :
    exec (.collAbort .endpoint port p) s = .next (takeAbort p (accept .endpoint port p s).2) := by
  change execCollAbort .endpoint port p s = _
  simp only [execCollAbort, hop, receiveColl_of_good hcame.1 hcame.2, ne_eq, not_true_eq_false, if_false]

theorem collAbort_of_none (hop : p.opcode = 0x92) (hcame : (accept .endpoint port p s).1.isSome = true ∧ pchkGood p = true)
    (hnone : ((collGroup p).bind fun group => collCtx group (accept .endpoint port p s).2) = none) :
    Answers (.collAbort .endpoint port p) s fun t => t = (accept .endpoint port p s).2 := by
  refine ⟨_, exec_collAbort hop hcame, ?_⟩
  unfold takeAbort
  rw [hnone]

theorem OnlyChunk.takeAbort (hone : OnlyChunk d k s) (hctx : ((collGroup p).bind fun group => collCtx group s) = some d.ctx)
    (hstep : d.step = p.xseq.toNat) (hopen : k.ended = none) (hchunk : k.chunk = collChunk p) :
    Machine.chunkEnds (takeAbort p s) = [[some (receivedStatus p.status)]] := by
  unfold Machine.takeAbort
  rw [hctx]
  refine OnlyChunk.endChunks (d := d) (k := k) ?_ hopen (by simp [hstep, hchunk]) ..
  split
  · exact hone.keepAbort ..
  · exact hone

theorem collAbort_ends (d : CollDesc) (k : CollChunk) (hop : p.opcode = 0x92)
    (hcame : (accept .endpoint port p s).1.isSome = true ∧ pchkGood p = true)
    (hmine : ((collGroup p).bind fun group => collCtx group (accept .endpoint port p s).2) = some d.ctx ∧ d.step = p.xseq.toNat)
    (hone : s.e.coll.descs = [d] ∧ d.chunks = [k]) (hopen : k.ended = none) (hchunk : k.chunk = collChunk p) :
    Answers (.collAbort .endpoint port p) s fun t => chunkEnds t = [[some (receivedStatus p.status)]] :=
  ⟨_, exec_collAbort hop hcame, ((onlyChunk_iff.mpr hone).accept port p).takeAbort hmine.1 hmine.2 hopen hchunk⟩

/-! ### Resends and refusals (R300, R304) -/

theorem exec_collResend (hop : p.opcode = 0x93) (hwant : p.opx.getLsbD 0 = false)
    (hcame : (accept .endpoint port p s).1.isSome = true ∧ pchkGood p = true) :
    exec (.collResend .endpoint port p) s = .next (takeResend p (accept .endpoint port p s).2) := by
  change execCollResend .endpoint port p s = _
  simp only [execCollResend, hop, hwant, receiveColl_of_good hcame.1 hcame.2, ne_eq, not_true_eq_false,
    Bool.false_eq_true, or_self, if_false]

/-- A chunk that a later resend wants at another attempt. -/
def atAttempt (a : Nat) (k : CollChunk) : CollChunk := { k with attempt := a }

/-- A resend for the member's one chunk, launched and not ended: a refusal is counted, and else the contribution is read again. -/
theorem OnlyChunk.takeResend (hone : OnlyChunk d k s)
    (hctx : ((collGroup p).bind fun group => collCtx group s) = some d.ctx) (hstep : d.step = p.xseq.toNat) (hopen : k.ended = none)
    (hlaunched : k.launched = true) (hchunk : k.chunk = collChunk p)
    (haborts : (smapGet s.e.coll.aborts [] d.ctx).find? (fun x => decide (x.step = d.step)) = none) : takeResend p s
      = if p.status = stRetryLater then refusedChunk d k p.src s
        else Machine.readContribution d.id k.chunk (Machine.onCollChunk d.id k.chunk (atAttempt (collAttempt p)) s) := by
  rw [hstep] at haborts
  unfold Machine.takeResend
  simp only [hctx, haborts, hone.descs]
  simp [hone.chunks, hstep, hopen, hlaunched, hchunk]
  rfl

theorem collResend_reads (d : CollDesc) (k : CollChunk) (hop : p.opcode = 0x93) (hwant : p.opx.getLsbD 0 = false)
    (hcame : (accept .endpoint port p s).1.isSome = true ∧ pchkGood p = true)
    (hmine : ((collGroup p).bind fun group => collCtx group (accept .endpoint port p s).2) = some d.ctx ∧ d.step = p.xseq.toNat)
    (hone : s.e.coll.descs = [d] ∧ d.chunks = [k]) (hopen : k.ended = none) (hlaunched : k.launched = true)
    (hchunk : k.chunk = collChunk p)
    (haborts : (smapGet s.e.coll.aborts [] d.ctx).find? (fun x => decide (x.step = d.step)) = none)
    (hagain : p.status ≠ stRetryLater) : Answers (.collResend .endpoint port p) s fun t => t.e.coll.descs
      = [{ d with chunks := [{ k with attempt := collAttempt p, reads := k.reads + 1, reading := true, backoff := false }] }] := by
  refine ⟨_, exec_collResend hop hwant hcame, ?_⟩
  have hone := (onlyChunk_iff.mpr hone).accept port p
  rw [← coll_accept port p s] at haborts
  rw [hone.takeResend hmine.1 hmine.2 hopen hlaunched hchunk haborts, if_neg hagain]
  exact ((hone.onCollChunk (atAttempt (collAttempt p))).readContribution).1

theorem collResend_counts_refusal (d : CollDesc) (k : CollChunk) (hop : p.opcode = 0x93) (hwant : p.opx.getLsbD 0 = false)
    (hcame : (accept .endpoint port p s).1.isSome = true ∧ pchkGood p = true)
    (hmine : ((collGroup p).bind fun group => collCtx group (accept .endpoint port p s).2) = some d.ctx ∧ d.step = p.xseq.toNat)
    (hone : s.e.coll.descs = [d] ∧ d.chunks = [k]) (hopen : k.ended = none) (hlaunched : k.launched = true)
    (hchunk : k.chunk = collChunk p)
    (haborts : (smapGet s.e.coll.aborts [] d.ctx).find? (fun x => decide (x.step = d.step)) = none)
    (hrefused : p.status = stRetryLater) (hgoes : k.gaveUp = false) (hfew : k.refusals < 8) :
    Answers (.collResend .endpoint port p) s fun t =>
      t.e.coll.descs = [{ d with chunks := [{ k with refusals := k.refusals + 1, backoff := true }] }] ∧ t.e.txns = s.e.txns := by
  refine ⟨_, exec_collResend hop hwant hcame, ?_⟩
  have hone := (onlyChunk_iff.mpr hone).accept port p
  rw [← coll_accept port p s] at haborts
  rw [hone.takeResend hmine.1 hmine.2 hopen hlaunched hchunk haborts, if_pos hrefused, refusedChunk,
    if_neg (by simp [hgoes]), if_pos hfew]
  exact ⟨(hone.onCollChunk _).descs, (accept_ev .endpoint port p s).part (.ep .txns) rfl⟩

theorem refusalBackoff_reads (id x c : Nat) (d : CollDesc) (k : CollChunk) (hof : collOf id c s = some (d, k))
    (hone : s.e.coll.descs = [d] ∧ d.chunks = [k]) (hbackoff : k.backoff = true) :
    Answers (.refusalBackoff .endpoint id x c) s fun t =>
      t.e.coll.descs = [{ d with chunks := [{ k with reads := k.reads + 1, reading := true, backoff := false }] }] := by
  obtain ⟨rfl, rfl⟩ := numbers_of_collOf hof
  refine ⟨readContribution d.id k.chunk s, ?_, (onlyChunk_iff.mpr hone).readContribution.1⟩
  change execRefusalBackoff .endpoint d.id x k.chunk s = _
  simp [execRefusalBackoff, hof, hbackoff]

end Sys2Proof.Machine

section

open Sys2Proof Sys2Proof.Machine

/-- Settles O28, one lemma for each command and each way it answers. -/
theorem membersRunCollectives : Obligations.MembersRunCollectives := fun _ _ _ =>
  ⟨fun _ => collQueue_unchanged, fun _ _ => collDescriptor_leaves_cancel, collDescriptor_accepts, collDescriptor_ends_range,
    fun _ _ => collCancel_leaves_descriptor, collCancel_ends_step, timedStart_starts, fun _ _ => chunkSend_of_none,
    fun _ _ _ _ => chunkSend_of_closed, chunkSend_launches, chunkSend_ends_refused, fun _ _ _ _ => probeTimer_asks,
    fun _ _ _ => chunkTimer_unchanged, fun _ _ _ _ => collTimeout_ends, fun _ _ _ _ => collTimeout_of_unlaunched,
    fun _ _ _ _ _ => srcReadFail_ends, collResult_of_bad, collResult_of_none, collResult_records, collAbort_ends, collAbort_of_none,
    collResend_reads, collResend_counts_refusal, refusalBackoff_reads⟩

end

/-! ## What leaves the module stays in its output (R480, R547, R565) -/

namespace Sys2Proof.Machine

/-- What had left the module in one state has left it, in that order, in the other. -/
def OutGrows (s t : State) : Prop := s.module.out <+: t.module.out

variable {s t u : State}

theorem OutGrows.refl (s : State) : OutGrows s s := List.prefix_rfl

theorem OutGrows.trans (h : OutGrows s t) (k : OutGrows t u) : OutGrows s u := List.IsPrefix.trans h k

theorem OutGrows.ite {c : Prop} [Decidable c] (ht : OutGrows s t) (hu : OutGrows s u) : OutGrows s (if c then t else u) := by
  split
  · exact ht
  · exact hu

theorem outGrows_of_eq (h : t.module.out = s.module.out) : OutGrows s t := ⟨[], (List.append_nil _).trans h.symm⟩

theorem outGrows_foldl {α : Type} {f : State → α → State} (hf : ∀ s a, OutGrows s (f s a)) (l : List α) (s : State) :
    OutGrows s (l.foldl f s) := by
  induction l generalizing s with
  | nil => exact .refl s
  | cons a l ih => exact (hf s a).trans (ih _)

variable (s)

theorem outGrows_emit (o : Out) : OutGrows s (s.emit .module o) := List.prefix_append ..

theorem outGrows_sendVector (v : Nat) : OutGrows s (sendVector v s) :=
  .ite (.refl s) (outGrows_emit s _)

theorem outGrows_messageSource (src : Nat) : OutGrows s (messageSource src s) :=
  .ite (.ite (outGrows_sendVector s _) (.refl s)) (.refl s)

theorem outGrows_raiseSource (src : Nat) : OutGrows s (raiseSource src s) :=
  .ite (.refl s) (outGrows_messageSource (s.setWord .module .pciIntStatus (src / 64) 0 _) src)

theorem outGrows_logModule (e : Event) : OutGrows s (logModule e s) := by
  unfold logModule
  dsimp only
  refine .ite (.refl s) (.ite (.refl s) (.ite (.trans ?_ (outGrows_raiseSource _ 72)) ?_)) <;>
    exact outGrows_of_eq (out_logEntry ..)

theorem outGrows_bump (r : Reg) (i : Nat) : OutGrows s (bump .module r i s) :=
  .ite (outGrows_logModule (bumpQuiet .module .telOvfEventCnt 0 1 (s.setWord .module r i 0 _)) _) (.refl s)

theorem outGrows_noteAlso (reported : Status) (also : List Status) (what : Nat) :
    OutGrows s (noteAlso .module reported also what s) := outGrows_foldl (fun s _ => outGrows_logModule s _) also s

end Sys2Proof.Machine

/-! ## The scratchpad and the engine queues: reading rules (R401, R403 to R408) -/

namespace Sys2Proof.Machine

variable {s t u : State}

/-- The state with bytes written into the scratchpad from an address on. -/
def putScratch (a : Nat) (l : List Byte) (s : State) : State := onEng (fun e => { e with scratch := memWrite e.scratch a l }) s

/-- From one state to the next the `n` bytes of the scratchpad at an address become those of a list; every other byte stays. -/
def ScratchBecomes (a n : Nat) (l : List Byte) (s t : State) : Prop :=
  memRead t.m.eng.scratch a n = l ∧ ∀ x, x < a ∨ a + n ≤ x → memByte t.m.eng.scratch x = memByte s.m.eng.scratch x

theorem scratchBecomes_of_memWrite {a : Nat} {l : List Byte} (h : t.m.eng.scratch = memWrite s.m.eng.scratch a l) :
    ScratchBecomes a l.length l s t := by
  unfold ScratchBecomes
  rw [h]
  exact ⟨memRead_memWrite_same l _ a, memByte_memWrite_outside l _ a⟩

theorem length_memRead (m : Memory) (a n : Nat) : (memRead m a n).length = n := by simp [memRead]

theorem slice_zero_of_length {l : List Byte} {n : Nat} (h : l.length = n) : slice l 0 n = l := by
  subst h
  simp [slice]

section

variable (s) (q : Nat)

@[simp] theorem engQueue_onEngQueue (f : EngQueue → EngQueue) : engQueue q (onEngQueue q f s) = f (engQueue q s) :=
  smapGet_put_same ..

@[simp] theorem frontCmd_onFront (f : EngCmd → EngCmd) : frontCmd q (onFront q f s) = (frontCmd q s).map f := by
  simp only [frontCmd, onFront, engQueue_onEngQueue]
  cases (engQueue q s).cmds <;> rfl

@[simp] theorem matrix_onFront (f : EngCmd → EngCmd) : (engQueue q (onFront q f s)).matrix = (engQueue q s).matrix := by
  simp [onFront]

/-- Changes of the front command that keep its number keep the numbers of all commands in progress. -/
theorem indices_onFront {f : EngCmd → EngCmd} (hf : ∀ c, (f c).index = c.index) :
    (engQueue q (onFront q f s)).cmds.map (·.index) = (engQueue q s).cmds.map (·.index) := by
  simp only [onFront, engQueue_onEngQueue]
  cases (engQueue q s).cmds <;> simp [hf]

end

/-- What a queue holds depends on the engines alone. -/
theorem engQueue_of_eng (h : t.m.eng = s.m.eng) (q : Nat) : engQueue q t = engQueue q s := by unfold engQueue; rw [h]

theorem frontCmd_of_eng (h : t.m.eng = s.m.eng) (q : Nat) : frontCmd q t = frontCmd q s := by
  unfold frontCmd
  rw [engQueue_of_eng h]

theorem eng_eq_of_same {a b : EngineState} (h : ∀ p, EngPart.Same a b p) : b = a := by
  cases a
  cases b
  simp only [EngineState.mk.injEq]
  exact ⟨h .queues, h .ats, h .threads, h .dcache, h .grants, h .scratch⟩

/-- The parts of the engines, as a set. -/
def engParts : Nat := bitsOfParts [.eng .queues, .eng .ats, .eng .threads, .eng .dcache, .eng .grants, .eng .scratch]

/-- An operation that leaves every part of the engines alone. -/
theorem Ev.eng {F : Nat} (h : Ev F s t) (hF : F &&& engParts = 0) : t.m.eng = s.m.eng := by
  have hbit : ∀ i, engParts.testBit i = true → F.testBit i = false := fun i hi => by
    have hi' := congrArg (fun x => x.testBit i) hF
    simpa [hi] using hi'
  exact eng_eq_of_same fun p => h.part (.eng p) (hbit _ (by cases p <;> decide +kernel))

/-- Nothing is taken for a queue while no operation of the module's waits to be taken. -/
theorem takePieces_of_none_finished (h : s.module.xpt.finished = []) (q : Nat) : takePieces q s = s := by
  change ((s.module.xpt.finished.filter _).foldl _ s) = s
  rw [h]
  rfl

/-! ### Steps of the engine on the running command -/

/-- The commands that move a tile of a queue's running command, each with the opcode that it runs (R403). -/
def engineCommands (q : Nat) (host : List Byte) : List (Instr × Nat) :=
  [(.move q host, 0x01), (.fill q, 0x02), (.writeImm q, 0x03), (.ctaLoadB q host, 0x10), (.ctaMatmul q host, 0x11)]

/-- A queue runs a command, and no transport holds a completion that waits to be taken. -/
def Fronts (q : Nat) (c : EngCmd) (s : State) : Prop :=
  frontCmd q s = some c ∧ s.endpoint.xpt.finished = [] ∧ s.module.xpt.finished = []

/-- The running command has started, has a tile to move and nothing keeps that tile from starting. -/
def TileWaits (q : Nat) (c : EngCmd) (s : State) : Prop :=
  Fronts q c s ∧ c.started = true ∧ c.ended = false ∧ c.tile < cmdTiles c ∧ c.phase = .looking ∧ c.lookups = []
    ∧ arrayHeld q s = false

variable {q op b n : Nat} {c : EngCmd} {i : Instr} {host l : List Byte}

theorem exec_engineCommands (hmem : (i, op) ∈ engineCommands q host) (s : State) :
    ∃ h, exec i s = .next (engineStep q op h s) := by
  simp only [engineCommands, List.mem_cons, Prod.mk.injEq, List.not_mem_nil, or_false] at hmem
  rcases hmem with ⟨rfl, rfl⟩ | ⟨rfl, rfl⟩ | ⟨rfl, rfl⟩ | ⟨rfl, rfl⟩ | ⟨rfl, rfl⟩ <;> exact ⟨_, rfl⟩

theorem engineStep_of_none (h : frontCmd q s = none) : engineStep q op host s = s := by simp only [engineStep, h]

theorem engineStep_of_other (h : frontCmd q s = some c) (hop : cmdOp c ≠ op) : engineStep q op host s = s := by
  simp only [engineStep, h, if_neg hop]

theorem engineStep_of_fronts (h : Fronts q c s) (hop : cmdOp c = op) :
    engineStep q op host s = settle .module (startTile q host s) := by
  simp only [engineStep, h.1, if_pos hop, takePieces_of_none_finished h.2.2]

theorem engine_unchanged_of_none (hmem : (i, op) ∈ engineCommands q host) (h : frontCmd q s = none) :
    Answers i s fun t => t = s := by
  obtain ⟨x, hx⟩ := exec_engineCommands hmem s
  exact ⟨_, hx, engineStep_of_none h⟩

theorem engine_unchanged_of_other (hmem : (i, op) ∈ engineCommands q host) (h : frontCmd q s = some c) (hop : cmdOp c ≠ op) :
    Answers i s fun t => t = s := by
  obtain ⟨x, hx⟩ := exec_engineCommands hmem s
  exact ⟨_, hx, engineStep_of_other h hop⟩

/-- A step of the running command answers what the start of its tile leaves, where that completes nothing. -/
theorem engine_answers {P : State → Prop} (hmem : (i, op) ∈ engineCommands q host) (h : Fronts q c s) (hop : cmdOp c = op)
    (hstart : ∀ x, startTile q x s = t) (hfin : t.module.xpt.finished = []) (hP : P t) : Answers i s P := by
  obtain ⟨x, hx⟩ := exec_engineCommands hmem s
  refine ⟨t, ?_, hP⟩
  rw [hx, engineStep_of_fronts h hop, hstart, settle_of_none_finished .module t hfin]

theorem engine_unchanged_of_idle (hmem : (i, op) ∈ engineCommands q host) (h : Fronts q c s) (hop : cmdOp c = op)
    (hidle : c.started = false ∨ c.ended = true ∨ cmdTiles c ≤ c.tile) : Answers i s fun t => t = s := by
  refine engine_answers hmem h hop (fun x => ?_) h.2.2 rfl
  simp only [startTile, h.1]
  refine if_pos ?_
  rcases hidle with h | h | h <;> simp [h]

/-! ### The current tile starts -/

/-- Nothing keeps a tile that waits from starting. -/
theorem tileWaits_may_start (h : TileWaits q c s) : (!c.started || c.ended || decide (cmdTiles c ≤ c.tile)
    || decide (c.phase ≠ .looking) || arrayHeld q s) = false := by
  obtain ⟨-, hstarted, hended, htile, hphase, -, hheld⟩ := h
  simp [hstarted, hended, hphase, hheld, htile]

/-- What a command does not read or write has no rows. -/
theorem tileReads_of_not (h : cmdReads c = false) (i : Nat) : tileReads c i = [] := by
  unfold tileReads
  split <;> simp_all [cmdReads]

theorem tileWrites_of_not (h : cmdWrites c = false) (i : Nat) : tileWrites c i = [] := by
  have hop : cmdOp c = 0x10 := by simpa [cmdWrites] using h
  simp [tileWrites, hop]

/-- A command that names no host space touches no host page. -/
theorem tilePages_of_module (h : (cmdSpaces c).contains 2 = false) : tilePages c = [] := by
  have hspaces : 2 ∉ cmdSpaces c := by simpa using h
  have hreads : cmdSrcSpace c = 2 → tileReads c c.tile = [] := fun hs =>
    tileReads_of_not (Bool.eq_false_iff.mpr fun hr => hspaces (by simp [cmdSpaces, hr, hs])) _
  have hwrites : cmdDstSpace c = 2 → tileWrites c c.tile = [] := fun hs =>
    tileWrites_of_not (Bool.eq_false_iff.mpr fun hw => hspaces (by simp [cmdSpaces, hw, hs])) _
  unfold tilePages
  split <;> split <;> simp_all

/-- A tile that touches no host page is read at once. -/
theorem startTile_of_module (h : TileWaits q c s) (hspaces : (cmdSpaces c).contains 2 = false) :
    startTile q host s = readTile q c host s := by
  have hlook : lookTile q c s = s := by rw [lookTile, tilePages_of_module hspaces]; rfl
  have hstart := tileWaits_may_start h
  obtain ⟨⟨hfront, -⟩, -, -, -, -, hlookups, -⟩ := h
  simp only [startTile, hfront, hstart, hspaces, hlook, hlookups, Bool.false_and, Bool.false_eq_true, if_false, List.any_nil]

/-- A tile of a command that names the host space while translation is off ends its command (R414). -/
theorem startTile_of_untranslated (h : TileWaits q c s) (hspaces : (cmdSpaces c).contains 2 = true) (hoff : atsOn s = false) :
    startTile q host s = endCmd q stTranslationFault outNotApplied s := by
  simp only [startTile, h.1.1, tileWaits_may_start h, hspaces, hoff, Bool.false_eq_true, if_false]
  rfl

theorem engine_faults (hmem : (i, op) ∈ engineCommands q host) (h : TileWaits q c s) (hop : cmdOp c = op)
    (hspaces : (cmdSpaces c).contains 2 = true) (hoff : atsOn s = false) : Answers i s fun t =>
      (frontCmd q t).map (fun x => (x.ended, x.statuses, x.outcome, x.tile))
          = some (true, c.statuses ++ [stTranslationFault], outNotApplied, c.tile)
        ∧ OnlyChanges [.eng .queues] s t := by
  refine engine_answers hmem h.1 hop (fun _ => startTile_of_untranslated h hspaces hoff) h.1.2.2 ⟨?_, ?_⟩
  · simp [endCmd, h.1.1]
  · exact onlyChanges (endCmd_ev ..) _ (by unfold Sub; decide +kernel)

/-! ### A tile's bytes go into the scratchpad -/

/-- The tile of the running command whose bytes are a list, written into the scratchpad: the command goes on to the next. -/
def tileInScratch (q b : Nat) (l : List Byte) (s : State) : State :=
  nextTile q (putScratch b l (onFront q (fun c => { c with phase := .writing, buf := l }) s))

/-- From one state to the next a tile of a command has been written into `n` bytes of the scratchpad. -/
def TileWritten (q b n : Nat) (c : EngCmd) (l : List Byte) (s t : State) : Prop :=
  memRead t.m.eng.scratch b n = l ∧ (∀ x, x < b ∨ b + n ≤ x → memByte t.m.eng.scratch x = memByte s.m.eng.scratch x)
    ∧ frontCmd q t = some { c with tile := c.tile + 1, phase := .looking, lookups := [], buf := [], left := 0 }

theorem tileWritten_tileInScratch (hfront : frontCmd q s = some c) (hlen : l.length = n) :
    TileWritten q b n c l s (tileInScratch q b l s) := by
  obtain ⟨hread, hframe⟩ := hlen ▸ scratchBecomes_of_memWrite (s := s) (t := tileInScratch q b l s) (a := b) (l := l) rfl
  have hfront' : frontCmd q (putScratch b l (onFront q (fun c => { c with phase := .writing, buf := l }) s))
      = some { c with phase := .writing, buf := l } := (frontCmd_onFront s q _).trans (by rw [hfront]; rfl)
  refine ⟨hread, hframe, ?_⟩
  rw [tileInScratch, nextTile, frontCmd_onFront, hfront']
  rfl

theorem matrix_tileInScratch : (engQueue q (tileInScratch q b l s)).matrix = (engQueue q s).matrix :=
  (matrix_onFront _ q _).trans (matrix_onFront s q _)

theorem onlyChanges_tileInScratch : OnlyChanges [.eng .scratch, .eng .queues] s (tileInScratch q b l s) := by
  intro p hp
  cases p with
  | eng g =>
    cases g with
    | scratch | queues => simp at hp
    | ats | threads | dcache | grants => rfl
  | reg sd r => exact fun _ _ => by cases sd <;> rfl
  | unit sd x => cases sd <;> cases x <;> rfl
  | pool x => cases x <;> rfl
  | mod x => cases x <;> rfl
  | ep x => cases x <;> rfl
  | free => rfl

/-- No byte of a destination is a source byte of another space, nor of a command other than MOVE (R404). -/
theorem overlapFree_of_apart (h : ¬ (cmdOp c = 1 ∧ cmdSrcSpace c = cmdDstSpace c)) (rows : List (Nat × Nat × Nat)) :
    overlapFree c rows l s = (l, s) := by
  have hbyte (a : Nat) : sourceByte c a = false := by
    rw [sourceByte, show (decide (cmdOp c = 1) && decide (cmdSrcSpace c = cmdDstSpace c)) = false by simpa using h]
    simp
  simp [overlapFree, hbyte]

/-- Bytes at hand for one row of the scratchpad, where they replace no source byte. -/
theorem writeTile_of_scratch {buf : List Byte} (hfront : frontCmd q s = some c) (hload : cmdOp c ≠ 0x10)
    (hdst : cmdDstSpace c = 0) (hbytes : (if cmdOp c = 0x11 then blockOfC q c buf s else (buf, s)) = (l, s))
    (hapart : ¬ (cmdOp c = 1 ∧ cmdSrcSpace c = cmdDstSpace c)) (hwrites : tileWrites c c.tile = [(b, n)])
    (hlen : l.length = n) : writeTile q buf s = tileInScratch q b l s := by
  have hrow : slice l 0 n = l := slice_zero_of_length hlen
  simp [writeTile, hfront, hload, hdst, hbytes, overlapFree_of_apart hapart, hwrites, placed, writeRows, hrow,
    tileInScratch, putScratch]

/-- A step of a command whose tile is read in the module and written into the scratchpad. -/
theorem engine_writes_tile (hmem : (i, op) ∈ engineCommands q host) (h : TileWaits q c s) (hop : cmdOp c = op)
    (hspaces : (cmdSpaces c).contains 2 = false) (hread : ∀ x, readTile q c x s = tileInScratch q b l s) (hlen : l.length = n) :
    Answers i s fun t => TileWritten q b n c l s t ∧ OnlyChanges [.eng .scratch, .eng .queues] s t :=
  engine_answers hmem h.1 hop (fun x => (startTile_of_module h hspaces).trans (hread x)) h.1.2.2
    ⟨tileWritten_tileInScratch h.1.1 hlen, onlyChanges_tileInScratch⟩

theorem move_writes_tile {a : Nat} {d : List Byte} (h : TileWaits q c s) (hop : cmdOp c = 0x01) (hsrc : cmdSrcSpace c = 1)
    (hdst : cmdDstSpace c = 0) (hreads : tileReads c c.tile = [(a, n)]) (hwrites : tileWrites c c.tile = [(b, n)])
    (hbytes : moduleRead .ddr (queueDdrKey q s) a n s = .ok d) (hlen : d.length = n) : Answers (.move q host) s fun t =>
      TileWritten q b n c d s t ∧ OnlyChanges [.eng .scratch, .eng .queues] s t := by
  refine engine_writes_tile (host := host) (by simp [engineCommands]) h hop
    (by simp [cmdSpaces, cmdReads, cmdWrites, hop, hsrc, hdst]) (fun x => ?_) hlen
  have hwrite := writeTile_of_scratch (buf := d) h.1.1 (by simp [hop]) hdst (if_neg (by simp [hop])) (by simp [hsrc, hdst])
    hwrites hlen
  simp [readTile, hop, cmdReads, hsrc, hreads, readRows, hbytes, hwrite]

/-- FILL and WRITE_IMM write the bytes of VALUE, which they read nowhere. -/
theorem fill_writes_tile (hmem : (i, op) ∈ engineCommands q host) (h : TileWaits q c s) (hop : cmdOp c = op)
    (hkind : op = 0x02 ∨ op = 0x03) (hdst : cmdDstSpace c = 0) (hwrites : tileWrites c c.tile = [(b, n)]) :
    Answers i s fun t => TileWritten q b n c (fillBytes c c.tile) s t ∧ OnlyChanges [.eng .scratch, .eng .queues] s t := by
  have hreads : cmdReads c = false := by rcases hkind with rfl | rfl <;> simp [cmdReads, hop]
  have hlen : (fillBytes c c.tile).length = n := by simp [fillBytes, hwrites]
  refine engine_writes_tile hmem h hop (by simp [cmdSpaces, hreads, hdst]) (fun x => ?_) hlen
  have hwrite := writeTile_of_scratch (buf := fillBytes c c.tile) h.1.1 (by omega) hdst (if_neg (by omega)) (by omega)
    hwrites hlen
  simp [readTile, hreads, hwrite, show cmdOp c ≠ 0x11 by omega]

theorem writeImm_writes_value (h : TileWaits q c s) (hdata : c.data.length = 64) (hop : cmdOp c = 0x03) (hdst : cmdDstSpace c = 0)
    (hb : b = cmdDst c) (hn : n = 8) : Answers (.writeImm q) s fun t =>
      TileWritten q b n c (slice c.data 56 8) s t ∧ OnlyChanges [.eng .scratch, .eng .queues] s t := by
  have hwrites : tileWrites c c.tile = [(b, n)] := by simp [tileWrites, hop, hb, hn]
  have hvalue : fillBytes c c.tile = slice c.data 56 8 := by
    refine List.ext_getElem (by simp [fillBytes, hwrites, hn, slice, hdata]) fun j hj hj' => ?_
    have hj8 : j < 8 := by simpa [slice, hdata] using hj'
    simp [fillBytes, hwrites, hn, hop, Nat.mod_eq_of_lt hj8, List.getElem?_eq_getElem hj']
  exact hvalue ▸ fill_writes_tile (host := []) (by simp [engineCommands]) h hop (.inr rfl) hdst hwrites

/-! ### The matrix of a contraction-array queue (R406) -/

/-- The state in which a command's matrix has been loaded: the queue keeps it, its array does not hold PROJECT's, and the command
goes on. -/
def loadedB (q : Nat) (c : EngCmd) (bytes : List Byte) (s : State) : State :=
  nextTile q (onMrn (fun m => { m with arrays := smapErase m.arrays (q - 64) })
    (onEngQueue q (fun k => { k with matrix := some { fmt := cmdAFmt c, k := cmdK c, n := cmdN c, bytes := bytes } }) s))

theorem ctaLoadB_keeps_matrix (h : TileWaits q c s) (hop : cmdOp c = 0x10) (hsrc : cmdSrcSpace c = 0) :
    Answers (.ctaLoadB q host) s fun t =>
      (engQueue q t).matrix = some { fmt := cmdAFmt c, k := cmdK c, n := cmdN c
                                     bytes := memRead s.m.eng.scratch (cmdSrc c) (matrixBytes c) }
        ∧ (frontCmd q t).map (fun x => (x.tile, x.phase)) = some (c.tile + 1, .looking)
        ∧ t.m.eng.scratch = s.m.eng.scratch := by
  have hkept (m : EngMatrix) : engQueue q (onMrn (fun m => { m with arrays := smapErase m.arrays (q - 64) })
      (onEngQueue q (fun k => { k with matrix := some m }) s)) = { engQueue q s with matrix := some m } :=
    engQueue_onEngQueue s q fun k => { k with matrix := some m }
  have hread (x : List Byte) : readTile q c x s = loadedB q c (memRead s.m.eng.scratch (cmdSrc c) (matrixBytes c)) s := by
    simp [readTile, hop, cmdReads, hsrc, tileReads, writeTile, h.1.1, loadedB]
  have hspaces : (cmdSpaces c).contains 2 = false := by simp [cmdSpaces, cmdReads, cmdWrites, hop, hsrc]
  refine engine_answers (host := host) (by simp [engineCommands]) h.1 hop
    (fun x => (startTile_of_module h hspaces).trans (hread x)) h.1.2.2 ⟨?_, ?_, rfl⟩
  · rw [loadedB, nextTile, matrix_onFront, hkept]
  · have hfront : (engQueue q s).cmds.head? = some c := h.1.1
    rw [loadedB, nextTile, frontCmd_onFront, frontCmd, hkept, hfront]
    rfl

/-- One row of A whose command fits the queue's matrix gives one row of C. -/
theorem blockOfC_of_fits {m : EngMatrix} {row : List Byte} (hm : (engQueue q s).matrix = some m) (hfmt : m.fmt = cmdAFmt c)
    (hk : m.k = cmdK c) (hn : m.n = cmdN c) (hlen : row.length = rowABytes c) (hpos : 0 < rowABytes c) :
    blockOfC q c row s = (rowOfC c m row, s) := by
  have hrow : slice row 0 (rowABytes c) = row := slice_zero_of_length hlen
  simp [blockOfC, hm, hfmt, hk, hn, hlen, Nat.div_self hpos, hrow]

/-- What the array has counted and reloaded before it reads a block of A (R406). -/
def arrayReady (q : Nat) (c : EngCmd) (s : State) : State :=
  bumpBy .module .ctaMacCycleCnt 0 (macCycles (cmdAFmt c) (cmdN c) (min 256 (cmdWidth c - 256 * c.tile) * cmdK c)) (reloadB q s)

theorem eng_arrayReady : (arrayReady q c s).m.eng = s.m.eng :=
  ((bumpBy_ev .module .ctaMacCycleCnt 0 _ _ rfl).eng (by decide +kernel)).trans ((reloadB_ev q s).eng (by decide +kernel))

theorem xpt_arrayReady : (arrayReady q c s).module.xpt = s.module.xpt :=
  ((bumpBy_ev .module .ctaMacCycleCnt 0 _ _ rfl).xpt .module (by decide +kernel)).trans
    ((reloadB_ev q s).xpt .module (by decide +kernel))

theorem ctaMatmul_writes_row {a : Nat} {m : EngMatrix} (h : TileWaits q c s) (hop : cmdOp c = 0x11) (hsrc : cmdSrcSpace c = 0)
    (hdst : cmdDstSpace c = 0) (hm : (engQueue q s).matrix = some m) (hfmt : m.fmt = cmdAFmt c) (hk : m.k = cmdK c)
    (hn : m.n = cmdN c) (hreads : tileReads c c.tile = [(a, rowABytes c)]) (hwrites : tileWrites c c.tile = [(b, n)])
    (hpos : 0 < rowABytes c) (hlen : (rowOfC c m (memRead s.m.eng.scratch a (rowABytes c))).length = n) :
    Answers (.ctaMatmul q host) s fun t =>
      TileWritten q b n c (rowOfC c m (memRead s.m.eng.scratch a (rowABytes c))) s t ∧ (engQueue q t).matrix = some m := by
  have heng : (arrayReady q c s).m.eng = s.m.eng := eng_arrayReady
  have hfront : frontCmd q (arrayReady q c s) = some c := (frontCmd_of_eng heng q).trans h.1.1
  have hm' : (engQueue q (arrayReady q c s)).matrix = some m := (congrArg (·.matrix) (engQueue_of_eng heng q)).trans hm
  have hread (x : List Byte) : readTile q c x s
      = tileInScratch q b (rowOfC c m (memRead s.m.eng.scratch a (rowABytes c))) (arrayReady q c s) := by
    have hwrite := writeTile_of_scratch (buf := memRead s.m.eng.scratch a (rowABytes c)) hfront (by omega) hdst
      ((if_pos hop).trans (blockOfC_of_fits hm' hfmt hk hn (length_memRead ..) hpos)) (by omega) hwrites hlen
    rw [← hwrite, ← heng]
    simp only [readTile, if_pos hop]
    simp [cmdReads, hop, hsrc, hreads, arrayReady]
  have hspaces : (cmdSpaces c).contains 2 = false := by simp [cmdSpaces, cmdReads, cmdWrites, hop, hsrc, hdst]
  refine engine_answers (host := host) (by simp [engineCommands]) h.1 hop
    (fun x => (startTile_of_module h hspaces).trans (hread x)) ?_ ⟨?_, matrix_tileInScratch.trans hm'⟩
  · change (arrayReady q c s).module.xpt.finished = []
    rw [xpt_arrayReady, h.1.2.2]
  · obtain ⟨hbytes, hframe, hnext⟩ := tileWritten_tileInScratch (b := b) hfront hlen
    exact ⟨hbytes, fun x hx => (hframe x hx).trans (congrArg (fun e => memByte e.scratch x) heng), hnext⟩

end Sys2Proof.Machine

/-! ## A command's record (R408, R409, R563) -/

namespace Sys2Proof.Machine

variable {s t u : State} {q : Nat} {c : EngCmd} {refused : Bool}

theorem commandComplete_of_fronts (h : Fronts q c s) : exec (.commandComplete q refused) s
    = .next (if cmdDone c && (s.rdb .module Fld.engQrCplDdr q || hostOpen s) then completeCmd q c refused s else s) := by
  change execCommandComplete q refused s = _
  simp only [execCommandComplete, takePieces_of_none_finished h.2.2, h.1]

theorem commandComplete_unchanged_of_undone (h : Fronts q c s) (hdone : cmdDone c = false) :
    Answers (.commandComplete q refused) s fun t => t = s :=
  ⟨_, commandComplete_of_fronts h, if_neg (by simp [hdone])⟩

theorem commandComplete_unchanged_of_none (hquiet : s.endpoint.xpt.finished = [] ∧ s.module.xpt.finished = [])
    (h : frontCmd q s = none) : Answers (.commandComplete q refused) s fun t => t = s := by
  refine ⟨s, ?_, rfl⟩
  change execCommandComplete q refused s = _
  simp only [execCommandComplete, takePieces_of_none_finished hquiet.2, h]

/-- The bytes of a command's completion record. -/
def recordBytes (q : Nat) (c : EngCmd) (s : State) : List Byte :=
  leBytes 8 (commandWord c (reportStatus c.statuses).1 (s.rd .module Fld.engQLateStatus q)).toNat
    ++ leBytes 8 (recordWord q (ringSize q s) c (reportStatus c.statuses).1).toNat

/-- The record has left for the host and its command the queue; CTAIL counts it. -/
def recordSent (q : Nat) (c : EngCmd) (s : State) : State :=
  ((onEngQueue q (fun k => { k with cmds := k.cmds.drop 1 }) (s.emit .module (.hostWrite none (cplAddr q s) (recordBytes q c s)))).wr
    .module Fld.engQrCtail q (s.rd .module Fld.engQrCtail q + 1)).wr .module Fld.engQLateStatus q 0

theorem cmds_recordSent : (engQueue q (recordSent q c s)).cmds = (engQueue q s).cmds.drop 1 :=
  congrArg (·.cmds) (engQueue_onEngQueue s q fun k => { k with cmds := k.cmds.drop 1 })

theorem ctail_recordSent : (recordSent q c s).rd .module Fld.engQrCtail q = (s.rd .module Fld.engQrCtail q + 1) % 2 ^ 16 := by
  rw [recordSent, rd_wr_reg _ _ _ _ _ _ _ _ (by decide), rd_wr_same _ _ Fld.engQrCtail _ _ (by decide) (by decide)]
  rfl

theorem lateStatus_recordSent : (recordSent q c s).rd .module Fld.engQLateStatus q = 0 :=
  rd_wr_lit _ _ Fld.engQLateStatus q 0 (by decide) (by decide) (by decide)

theorem rdb_recordSent_en : (recordSent q c s).rdb .module Fld.engQrEn q = s.rdb .module Fld.engQrEn q := by
  rw [rdb_def, recordSent, rd_wr_reg _ _ _ _ _ _ _ _ (by decide),
    rd_wr_entry _ _ _ Fld.engQrCtail Fld.engQrEn q q _ rfl (by decide) (by decide) (.inr (by decide)), onEngQueue, onEng, rd_onM,
    rd_emit, rdb_def]

theorem cmdCount_recordSent : (recordSent q c s).word .module .engCmdCnt 0 0 = s.word .module .engCmdCnt 0 0 := by
  rw [recordSent, State.wr, word_setWord_reg _ _ _ _ _ _ _ _ _ _ (by decide), State.wr,
    word_setWord_reg _ _ _ _ _ _ _ _ _ _ (by decide), onEngQueue, onEng, word_onM, word_emit]

/-- The command has been counted. -/
def recordCounted (q : Nat) (c : EngCmd) (s : State) : State := bump .module .engCmdCnt 0 (recordSent q c s)

/-- What a record raises beside itself: a late refusal counted, the events of R14, and the interrupt the command asks for. -/
def recordNoted (q : Nat) (c : EngCmd) (late : Nat) (s : State) : State :=
  let s1 := if late = 0 then s else bump .module .engLateRefusalCnt 0 s
  let s2 := noteAlso .module (reportStatus c.statuses).1 (reportStatus c.statuses).2 (cmdOp c) s1
  if cmdInt c then raiseSource q s2 else s2

/-- A record that is written for a queue that is not enabled stops nothing. -/
theorem recordCmd_of_host (hddr : s.rdb .module Fld.engQrCplDdr q = false) (hen : s.rdb .module Fld.engQrEn q = false) :
    recordCmd q c false s = recordNoted q c (s.rd .module Fld.engQLateStatus q) (recordCounted q c s) := by
  simp [recordCmd, hddr, hen, recordNoted, recordCounted, recordSent, recordBytes]

/-- From one state to the next the engines stay, the registers of the rings, of the queues and of the count of commands stay,
and what has left the module has left it. -/
structure RecordKept (s t : State) : Prop where
  eng : t.m.eng = s.m.eng
  word : ∀ r ∈ [Reg.engQr, Reg.engQ, Reg.engCmdCnt], ∀ i w, t.word .module r i w = s.word .module r i w
  out : OutGrows s t

theorem RecordKept.refl (s : State) : RecordKept s s := ⟨rfl, fun _ _ _ _ => rfl, .refl s⟩

theorem RecordKept.trans (h : RecordKept s t) (k : RecordKept t u) : RecordKept s u :=
  ⟨k.eng.trans h.eng, fun r hr i w => (k.word r hr i w).trans (h.word r hr i w), h.out.trans k.out⟩

theorem RecordKept.ite {p : Prop} [Decidable p] (ht : RecordKept s t) (hu : RecordKept s u) :
    RecordKept s (if p then t else u) := by
  split
  · exact ht
  · exact hu

theorem Ev.recordKept {F : Nat} (h : Ev F s t) (hout : OutGrows s t) (heng : F &&& engParts = 0)
    (hreg : ∀ r ∈ [Reg.engQr, Reg.engQ, Reg.engCmdCnt], F.testBit (Part.reg .module r).idx = false) : RecordKept s t :=
  ⟨h.eng heng, fun r hr => h.word .module r (hreg r hr), hout⟩

theorem recordKept_recordNoted (late : Nat) (s : State) : RecordKept s (recordNoted q c late s) := by
  have hnote (s : State) : RecordKept s (noteAlso .module (reportStatus c.statuses).1 (reportStatus c.statuses).2 (cmdOp c) s) :=
    (noteAlso_ev ..).recordKept (outGrows_noteAlso ..) (by decide +kernel) (by decide +kernel)
  have hraise (s : State) : RecordKept s (if cmdInt c then raiseSource q s else s) :=
    .ite ((raiseSource_ev q s).recordKept (outGrows_raiseSource s q) (by decide +kernel) (by decide +kernel)) (.refl s)
  have hlate (s : State) : RecordKept s (if late = 0 then s else bump .module .engLateRefusalCnt 0 s) :=
    .ite (.refl s) ((bump_ev .module .engLateRefusalCnt 0 s rfl).recordKept (outGrows_bump ..) (by decide +kernel)
      (by decide +kernel))
  exact ((hlate s).trans (hnote _)).trans (hraise _)

/-- A queue that is not enabled fetches nothing. -/
theorem pumpRing_of_disabled (h : s.rdb .module Fld.engQrEn q = false) : pumpRing q s = s := by simp [pumpRing, h]

theorem rdb_of_word {f : Field} {i : Nat} (h : t.word .module f.reg i f.word = s.word .module f.reg i f.word) :
    t.rdb .module f i = s.rdb .module f i := by unfold State.rdb State.rd; rw [h]

theorem rd_of_word {f : Field} {i : Nat} (h : t.word .module f.reg i f.word = s.word .module f.reg i f.word) :
    t.rd .module f i = s.rd .module f i := by unfold State.rd; rw [h]

/-- The front command that starts keeps its number. -/
theorem indices_startFront (q : Nat) (s : State) :
    (engQueue q (startFront q s)).cmds.map (·.index) = (engQueue q s).cmds.map (·.index) := by
  unfold startFront
  split
  · rfl
  · split
    · rfl
    · exact indices_onFront s q fun _ => rfl

theorem commandComplete_records {l : List EngCmd} (h : Fronts q c s ∧ cmdDone c = true) (hcmds : (engQueue q s).cmds = c :: l)
    (hddr : s.rdb .module Fld.engQrCplDdr q = false) (hopen : hostOpen s = true) (hen : s.rdb .module Fld.engQrEn q = false) :
    Answers (.commandComplete q false) s fun t => (engQueue q t).cmds.map (·.index) = l.map (·.index)
      ∧ t.rd .module Fld.engQrCtail q = (s.rd .module Fld.engQrCtail q + 1) % 2 ^ 16 ∧ t.rd .module Fld.engQLateStatus q = 0
      ∧ s.module.out ++ [.hostWrite none (cplAddr q s) (recordBytes q c s)] <+: t.module.out
      ∧ t.word .module .engCmdCnt 0 0 = countedWord (s.word .module .engCmdCnt 0 0) 1 := by
  have hkept : RecordKept (recordCounted q c s) (recordCmd q c false s) :=
    recordCmd_of_host hddr hen ▸ recordKept_recordNoted _ _
  have hcount := bump_ev .module .engCmdCnt 0 (recordSent q c s) rfl
  have hstart := startFront_ev q (recordCmd q c false s)
  have hword (r : Reg) (hr : r ∈ [Reg.engQr, Reg.engQ]) (i w : Nat) : (startFront q (recordCmd q c false s)).word .module r i w
      = (recordSent q c s).word .module r i w := by
    rw [hstart.word .module r (by revert r; decide +kernel), hkept.word r (by revert r; decide),
      recordCounted, hcount.word .module r (by revert r; decide +kernel)]
  have hpump : pumpRing q (startFront q (recordCmd q c false s)) = startFront q (recordCmd q c false s) :=
    pumpRing_of_disabled ((rdb_of_word (hword .engQr (by decide) _ _)).trans (rdb_recordSent_en.trans hen))
  refine ⟨startFront q (recordCmd q c false s), ?_, ?_, ?_, ?_, ?_, ?_⟩
  · rw [commandComplete_of_fronts h.1, if_pos (by simp [h.2, hopen]), completeCmd, hpump]
  · rw [indices_startFront, engQueue_of_eng (hkept.eng.trans (hcount.eng (by decide +kernel))), cmds_recordSent, hcmds]
    rfl
  · exact (rd_of_word (hword .engQr (by decide) _ _)).trans ctail_recordSent
  · exact (rd_of_word (hword .engQ (by decide) _ _)).trans lateStatus_recordSent
  · rw [show (startFront q (recordCmd q c false s)).module.out = _ from hstart.part (.unit .module .out) (by decide +kernel)]
    exact (outGrows_bump (recordSent q c s) .engCmdCnt 0).trans hkept.out
  · rw [hstart.word .module .engCmdCnt (by decide +kernel), hkept.word .engCmdCnt (by decide), recordCounted,
      word_bump _ _ _ _ (by decide +kernel), cmdCount_recordSent]

end Sys2Proof.Machine

section

open Sys2Proof Sys2Proof.Machine

/-- Settles O34, one lemma for each clause. -/
theorem enginesRunCommands : Obligations.EnginesRunCommands := fun _ _ _ _ _ _ _ =>
  ⟨fun _ _ => engine_unchanged_of_none, fun _ _ => engine_unchanged_of_other, fun _ _ => engine_unchanged_of_idle,
    fun _ h hop hsrc hdst hreads hwrites hbytes hlen =>
      move_writes_tile h hop hsrc hdst hreads hwrites hbytes hlen,
    fun h hop hdst hwrites => fill_writes_tile (host := []) (by simp [engineCommands]) h hop (.inl rfl) hdst hwrites,
    writeImm_writes_value, ctaLoadB_keeps_matrix, fun _ => ctaMatmul_writes_row, fun _ _ => engine_faults,
    fun _ => commandComplete_unchanged_of_undone, fun _ => commandComplete_unchanged_of_none,
    fun _ => commandComplete_records⟩

end

/-! ## Puppet threads: reading rules (R418 to R421) -/

namespace Sys2Proof.Machine

section

variable (c h : Nat) (s : State)

@[simp] theorem pupThread_onThread (f : PupThread → PupThread) : pupThread c h (onThread c h f s) = f (pupThread c h s) :=
  smapGet_put_same ..

@[simp] theorem pupThread_putDcache (c' line : Nat) (d : List Byte) : pupThread c h (putDcache c' line d s) = pupThread c h s := rfl

@[simp] theorem dcacheLine_putDcache_same (line : Nat) (d : List Byte) : dcacheLine c line (putDcache c line d s) = some d := by
  have hcache : smapGet (putDcache c line d s).m.eng.dcache [] c
      = ((line, d) :: (smapGet s.m.eng.dcache [] c).filter fun x => decide (x.1 ≠ line)).take 512 := smapGet_set_same ..
  rw [dcacheLine, hcache]
  simp

/-- A write of the scratchpad by a core: the bytes, and the core's own line of them. -/
theorem scratch_scratchWrite (a : Nat) (l : List Byte) :
    (scratchWrite c a l s).m.eng.scratch = memWrite s.m.eng.scratch a l := by
  unfold scratchWrite
  dsimp only
  split <;> rfl

@[simp] theorem pupThread_scratchWrite (c' a : Nat) (l : List Byte) : pupThread c h (scratchWrite c' a l s) = pupThread c h s := by
  unfold scratchWrite
  dsimp only
  split <;> rfl

@[simp] theorem module_scratchWrite (a : Nat) (l : List Byte) : (scratchWrite c a l s).module = s.module := by
  unfold scratchWrite
  dsimp only
  split <;> rfl

@[simp] theorem pool_scratchWrite (a : Nat) (l : List Byte) : (scratchWrite c a l s).m.pool = s.m.pool := by
  unfold scratchWrite
  dsimp only
  split <;> rfl

/-- No CSR of a thread counts for the fault of an access. -/
theorem accessFault_onThread (c' addr n : Nat) (f : PupThread → PupThread) :
    accessFault c' addr n (onThread c h f s) = accessFault c' addr n s := rfl

/-- A CSR that is written changes nothing of whether its thread may execute. -/
theorem threadReady_onThread {f : PupThread → PupThread} (hrun : ∀ x, (f x).running = x.running)
    (hwait : ∀ x, (f x).waiting = x.waiting) (hfence : ∀ x, (f x).fence = x.fence) :
    threadReady c h (onThread c h f s) = threadReady c h s := by
  unfold threadReady
  dsimp only
  rw [pupThread_onThread, hrun, hwait, hfence]
  rfl

/-- Nothing is taken for a thread while no operation of the module's waits to be taken. -/
theorem drainThread_of_none_finished {s : State} (hfin : s.module.xpt.finished = []) : drainThread c h s = s := by
  change ((s.module.xpt.finished.filter _).foldl _ s) = s
  rw [hfin]
  rfl

end

/-- The state in which a thread has its CSR pfeid. -/
def withPfeid (c h : Nat) (w : Word) (s : State) : State := onThread c h (fun x => { x with pfeid := w }) s

variable {c h : Nat} {a : PupAccess} {w : Word} {i : Instr} {l : List Byte} {s t u : State}

/-! ### What an access does to the scratchpad (R418, R420) -/

theorem pupScratch_of_hit (hkind : a.kind = .load ∨ a.kind = .acquire) (hline : dcacheLine c (a.addr % 2 ^ 62 / 64) s = some l)
    (fill : Bool) : pupScratch c h a fill s
      = pupDone c h (some (slice l (a.addr % 2 ^ 62 % 64) a.size)) (putDcache c (a.addr % 2 ^ 62 / 64) l s) := by
  rcases hkind with hk | hk <;> simp only [pupScratch, hk, hline]

theorem pupScratch_of_miss (hkind : a.kind = .load ∨ a.kind = .acquire) (hline : dcacheLine c (a.addr % 2 ^ 62 / 64) s = none) :
    pupScratch c h a false s = pupWait c h a s := by
  rcases hkind with hk | hk <;> simp only [pupScratch, hk, hline, Bool.false_eq_true, if_false]

theorem pupScratch_of_fill (hkind : a.kind = .load ∨ a.kind = .acquire) (hline : dcacheLine c (a.addr % 2 ^ 62 / 64) s = none)
    (hl : l = memRead s.m.eng.scratch (a.addr % 2 ^ 62 / 64 * 64) 64) : pupScratch c h a true s
      = pupDone c h (some (slice l (a.addr % 2 ^ 62 % 64) a.size)) (putDcache c (a.addr % 2 ^ 62 / 64) l s) := by
  subst hl
  rcases hkind with hk | hk <;> simp only [pupScratch, hk, hline, if_true]

theorem pupScratch_of_atomic (hkind : a.kind = .atomic)
    (hv : pupAtomic a (memRead s.m.eng.scratch (a.addr % 2 ^ 62) a.size) = some l) (fill : Bool) : pupScratch c h a fill s
      = pupDone c h (some (memRead s.m.eng.scratch (a.addr % 2 ^ 62) a.size)) (scratchWrite c (a.addr % 2 ^ 62) l s) := by
  simp only [pupScratch, hkind, hv]

theorem pupScratch_of_store (hkind : a.kind = .store) (fill : Bool) :
    pupScratch c h a fill s = pupDone c h none (scratchWrite c (a.addr % 2 ^ 62) a.data s) := by
  simp only [pupScratch, hkind]

/-! ### A thread executes an access -/

/-- A thread that may execute, while no transport holds a completion that waits to be taken. -/
def ThreadRuns (c h : Nat) (s : State) : Prop :=
  (s.endpoint.xpt.finished = [] ∧ s.module.xpt.finished = []) ∧ threadReady c h s = true

theorem pupAccess_of_unready (hready : threadReady c h s = false) (w : Option Word) : pupAccess c h w a s = s :=
  if_pos (by simp [hready])

/-- An access in the scratchpad that nothing forbids is performed there, unless eight of the thread's stores are in flight and it is
one more. -/
theorem pupAccess_of_scratch (hruns : ThreadRuns c h s) (hpower : s.m.power.loss = false)
    (hfault : accessFault c a.addr a.size s = none) (hspace : a.addr / 2 ^ 62 = 0)
    (hkind : (a.kind = .load ∨ a.kind = .acquire) ∨ a.kind = .atomic ∨ postedStores c h s < 8) :
    pupAccess c h (some w) a s = pupScratch c h a false (withPfeid c h w s) := by
  have hfault' : accessFault c a.addr a.size (withPfeid c h w s) = none := (accessFault_onThread ..).trans hfault
  have hposted : postedStores c h (withPfeid c h w s) = postedStores c h s := rfl
  have hgo : (!pupWrites a.kind || decide (a.kind = .atomic) || decide (postedStores c h s < 8)) = true := by
    rcases hkind with (hk | hk) | hk | hk <;> simp [hk, pupWrites]
  simp only [pupAccess, hruns.2, hpower, drainThread_of_none_finished c h hruns.1.2]
  rw [← withPfeid, hfault', hspace]
  simp only [hposted, hgo]
  rfl

theorem pupAccess_of_fabric (hruns : ThreadRuns c h s) (hpower : s.m.power.loss = false)
    (hfault : accessFault c a.addr a.size s = none) (hspace : 3 ≤ a.addr / 2 ^ 62) :
    pupAccess c h (some w) a s = pupFabric c h a (withPfeid c h w s) := by
  have hfault' : accessFault c a.addr a.size (withPfeid c h w s) = none := (accessFault_onThread ..).trans hfault
  obtain ⟨n, hn⟩ : ∃ n, a.addr / 2 ^ 62 = n + 3 := ⟨_, (Nat.sub_add_cancel hspace).symm⟩
  simp only [pupAccess, hruns.2, hpower, drainThread_of_none_finished c h hruns.1.2]
  rw [← withPfeid, hfault', hn]
  rfl

theorem pupAccess_of_fault {st : Status} (hruns : ThreadRuns c h s) (hpower : s.m.power.loss = false)
    (hfault : accessFault c a.addr a.size s = some st) :
    pupAccess c h (some w) a s = pupFault c h a.pc st (withPfeid c h w s) := by
  have hfault' : accessFault c a.addr a.size (withPfeid c h w s) = some st :=
    (accessFault_onThread ..).trans hfault
  simp only [pupAccess, hruns.2, hpower, drainThread_of_none_finished c h hruns.1.2]
  rw [← withPfeid, hfault']
  rfl

/-- A command of a thread answers what its access leaves, where that completes nothing. -/
theorem puppet_answers {P : State → Prop} (hexec : exec i s = .next (settle .module u)) (hacc : u = t)
    (hfin : t.module.xpt.finished = []) (hP : P t) : Answers i s P := by
  subst hacc
  exact ⟨u, by rw [hexec, settle_of_none_finished .module u hfin], hP⟩

variable {pc addr size op : Nat} {data : List Byte} {rl rz : Bool} {pcmp : Word}

/-- The two commands that load. -/
def puppetLoads (c h pc addr size : Nat) (w : Word) : List Instr :=
  [.puppetLoad c h pc addr size w, .puppetLrAq c h pc addr size w]

theorem exec_puppetLoads (hmem : i ∈ puppetLoads c h pc addr size w) : ∃ kind, (kind = .load ∨ kind = .acquire)
    ∧ ∀ s, exec i s = .next (settle .module (pupAccess c h (some w) { kind := kind, addr := addr, size := size, pc := pc } s)) := by
  simp only [puppetLoads, List.mem_cons, List.not_mem_nil, or_false] at hmem
  rcases hmem with rfl | rfl
  · exact ⟨.load, .inl rfl, fun _ => rfl⟩
  · exact ⟨.acquire, .inr rfl, fun _ => rfl⟩

/-- The access that PUPPET_AMO makes: a flagged store where AMOSWAP with rl set writes the fabric and keeps no old value (R419). -/
def amoAccess (pc addr op : Nat) (data : List Byte) (rl rz : Bool) : PupAccess :=
  { kind := if decide (op = 5) && rl && rz && decide (3 ≤ addr / 2 ^ 62) then .flag else .atomic
    addr := addr, size := data.length, data := data, op := op, pc := pc }

theorem exec_puppetAmo (s : State) : exec (.puppetAmo c h pc addr op data rl rz w) s
    = .next (settle .module (pupAccess c h (some w) (amoAccess pc addr op data rl rz) s)) := rfl

theorem amoAccess_of_scratch (hspace : addr / 2 ^ 62 = 0) : amoAccess pc addr op data rl rz
    = { kind := .atomic, addr := addr, size := data.length, data := data, op := op, pc := pc } := by
  have hflag : decide (3 ≤ addr / 2 ^ 62) = false := by rw [hspace]; rfl
  rw [amoAccess, hflag, Bool.and_false]
  rfl

theorem puppet_unchanged_of_unready
    (hmem : i ∈ puppetLoads c h pc addr size w ++ [.puppetStore c h pc addr data w, .puppetAmo c h pc addr op data rl rz w,
      .pcas c h pc addr size data pcmp w] ++ [.puppetSc c h, .puppetFence c h, .puppetExit c h])
    (hquiet : s.endpoint.xpt.finished = [] ∧ s.module.xpt.finished = []) (hready : threadReady c h s = false) :
    Answers i s fun t => t = s := by
  have hnone : ¬ threadReady c h s = true := by simp [hready]
  have haccess {a : PupAccess} (hexec : exec i s = .next (settle .module (pupAccess c h (some w) a s))) :
      Answers i s fun t => t = s := puppet_answers hexec (pupAccess_of_unready hready _) hquiet.2 rfl
  simp only [List.mem_append, List.mem_cons, List.not_mem_nil, or_false] at hmem
  rcases hmem with (hload | rfl | rfl | rfl) | rfl | rfl | rfl
  · obtain ⟨kind, -, hexec⟩ := exec_puppetLoads hload
    exact haccess (hexec s)
  · exact haccess rfl
  · exact haccess rfl
  · exact haccess (show execPcas c h pc addr size data pcmp w s = _ by unfold execPcas; rw [if_neg hnone])
  all_goals exact ⟨s, congrArg Host.Outcome.next (if_neg hnone), rfl⟩

/-! ### Loads, stores and atomics of the scratchpad -/

section

variable (hmem : i ∈ puppetLoads c h pc addr size w)
  (hcan : ThreadRuns c h s ∧ s.m.power.loss = false ∧ accessFault c addr size s = none)
include hmem hcan

theorem load_of_hit (hspace : addr / 2 ^ 62 = 0) (hline : dcacheLine c (addr % 2 ^ 62 / 64) s = some l) : Answers i s fun t =>
    (pupThread c h t).rd = slice l (addr % 2 ^ 62 % 64) size ∧ (pupThread c h t).waiting = none ∧ (pupThread c h t).pfeid = w
      ∧ t.m.eng.scratch = s.m.eng.scratch := by
  obtain ⟨hruns, hpower, hfault⟩ := hcan
  obtain ⟨kind, hkind, hexec⟩ := exec_puppetLoads hmem
  refine puppet_answers (hexec s) ((pupAccess_of_scratch hruns hpower hfault hspace (.inl hkind)).trans
    (pupScratch_of_hit hkind hline false)) hruns.1.2 ?_
  simp only [pupDone, pupThread_onThread, pupThread_putDcache, withPfeid, Option.getD_some, true_and]
  rfl

theorem load_of_miss (hspace : addr / 2 ^ 62 = 0) (hline : dcacheLine c (addr % 2 ^ 62 / 64) s = none) : Answers i s fun t =>
    (pupThread c h t).waiting.map (fun a => (a.addr, a.size, a.issued)) = some (addr, size, false)
      ∧ (pupThread c h t).rd = (pupThread c h s).rd := by
  obtain ⟨hruns, hpower, hfault⟩ := hcan
  obtain ⟨kind, hkind, hexec⟩ := exec_puppetLoads hmem
  refine puppet_answers (hexec s) ((pupAccess_of_scratch hruns hpower hfault hspace (.inl hkind)).trans
    (pupScratch_of_miss hkind hline)) hruns.1.2 ?_
  simp only [pupWait, pupThread_onThread, withPfeid, Option.map_some, and_self]

/-- A load of a GFA whose EID names a group is refused unsent (R53). -/
theorem load_of_group (hspace : 3 ≤ addr / 2 ^ 62) (hgroup : isGroupEid (BitVec.ofNat 20 (bitsOf w 19 0)) = true) :
    Answers i s fun t => (pupThread c h t).rd = List.replicate size 0xFF
      ∧ (pupThread c h t).pstat = BitVec.ofNat 64 stNoWindow.toNat ∧ t.module.xpt = s.module.xpt := by
  obtain ⟨hruns, hpower, hfault⟩ := hcan
  obtain ⟨kind, hkind, hexec⟩ := exec_puppetLoads hmem
  have hdst (a : PupAccess) : isGroupEid (pupPacket c h a (withPfeid c h w s)).dst = true := by
    simpa only [pupPacket, withPfeid, pupThread_onThread] using hgroup
  have hkind' : kind ≠ .store ∧ kind ≠ .flag := by rcases hkind with rfl | rfl <;> decide
  refine puppet_answers (hexec s) ((pupAccess_of_fabric hruns hpower hfault hspace).trans
    (if_pos (by simp only [hdst, Bool.true_or]))) hruns.1.2 ?_
  simp only [pupDone, pupThread_onThread, hkind'.1, hkind'.2, decide_false, Bool.or_self, Bool.false_eq_true, if_false,
    Option.getD_some, true_and]
  rfl

end

theorem accessDone_fills (hquiet : s.endpoint.xpt.finished = [] ∧ s.module.xpt.finished = [])
    (hwait : (pupThread c h s).waiting = some a) (hissued : a.issued = false) (hkind : a.kind = .load ∨ a.kind = .acquire)
    (hspace : a.addr / 2 ^ 62 = 0) (hline : dcacheLine c (a.addr % 2 ^ 62 / 64) s = none) :
    Answers (.puppetAccessDone c h data) s fun t => (pupThread c h t).waiting = none
      ∧ (pupThread c h t).rd = slice (memRead s.m.eng.scratch (a.addr % 2 ^ 62 / 64 * 64) 64) (a.addr % 2 ^ 62 % 64) a.size
      ∧ dcacheLine c (a.addr % 2 ^ 62 / 64) t = some (memRead s.m.eng.scratch (a.addr % 2 ^ 62 / 64 * 64) 64) := by
  have hkind' : ¬ (a.kind = .store ∨ a.kind = .flag) := by rcases hkind with hk | hk <;> simp [hk]
  have hresume : pupResume c h data s = pupScratch c h a true s := by
    simp only [pupResume, drainThread_of_none_finished c h hquiet.2, hwait, hissued, hkind', hspace, false_and, if_false,
      Bool.false_eq_true]
  refine puppet_answers rfl (hresume.trans (pupScratch_of_fill hkind hline rfl)) hquiet.2 ?_
  simp only [pupDone, pupThread_onThread, Option.getD_some, true_and]
  exact dcacheLine_putDcache_same ..

theorem scratchBecomes_scratchWrite {at_ : Nat} (ht : t.m.eng.scratch = (scratchWrite c at_ l u).m.eng.scratch)
    (hu : u.m.eng.scratch = s.m.eng.scratch) : ScratchBecomes at_ l.length l s t :=
  scratchBecomes_of_memWrite (by rw [ht, scratch_scratchWrite, hu])

theorem store_writes (hruns : ThreadRuns c h s) (hpower : s.m.power.loss = false)
    (hfault : accessFault c addr data.length s = none) (hspace : addr / 2 ^ 62 = 0) (hposted : postedStores c h s < 8) :
    Answers (.puppetStore c h pc addr data w) s fun t => ScratchBecomes (addr % 2 ^ 62) data.length data s t
      ∧ (pupThread c h t).waiting = none ∧ t.m.pool = s.m.pool := by
  refine puppet_answers rfl ((pupAccess_of_scratch hruns hpower hfault hspace (.inr (.inr hposted))).trans
    (pupScratch_of_store rfl false))
    ((congrArg (·.xpt.finished) (module_scratchWrite c (withPfeid c h w s) _ data)).trans hruns.1.2) ⟨?_, ?_, ?_⟩
  · exact scratchBecomes_scratchWrite rfl rfl
  · simp only [pupDone, pupThread_onThread]
  · exact pool_scratchWrite ..

/-- An atomic of the scratchpad gives rd the old bytes and writes the new ones. -/
theorem atomic_writes (hruns : ThreadRuns c h s) (hpower : s.m.power.loss = false)
    (hfault : accessFault c a.addr a.size s = none) (hspace : a.addr / 2 ^ 62 = 0) (hkind : a.kind = .atomic)
    (hv : pupAtomic a (memRead s.m.eng.scratch (a.addr % 2 ^ 62) a.size) = some l)
    (hexec : exec i u = .next (settle .module (pupAccess c h (some w) a s))) : Answers i u fun t =>
      ScratchBecomes (a.addr % 2 ^ 62) l.length l s t
        ∧ (pupThread c h t).rd = memRead s.m.eng.scratch (a.addr % 2 ^ 62) a.size
        ∧ (pupThread c h t).pcmp = (pupThread c h s).pcmp := by
  have hacc := (pupAccess_of_scratch (w := w) hruns hpower hfault hspace (.inr (.inl hkind))).trans
    (pupScratch_of_atomic (s := withPfeid c h w s) hkind hv false)
  refine ⟨pupAccess c h (some w) a s, ?_, ?_⟩
  · rw [hexec, settle_of_none_finished .module]
    rw [hacc]
    exact (congrArg (·.xpt.finished) (module_scratchWrite c (withPfeid c h w s) _ l)).trans hruns.1.2
  · rw [hacc]
    refine ⟨scratchBecomes_scratchWrite rfl rfl, ?_⟩
    simp only [pupDone, pupThread_onThread, pupThread_scratchWrite, withPfeid, Option.getD_some, and_true]
    rfl

theorem amo_writes (hruns : ThreadRuns c h s) (hpower : s.m.power.loss = false)
    (hfault : accessFault c addr data.length s = none) (hspace : addr / 2 ^ 62 = 0)
    (hv : pupAtomic { kind := .atomic, addr := addr, size := data.length, data := data, op := op, pc := pc }
      (memRead s.m.eng.scratch (addr % 2 ^ 62) data.length) = some l) :
    Answers (.puppetAmo c h pc addr op data rl rz w) s fun t => ScratchBecomes (addr % 2 ^ 62) l.length l s t
      ∧ (pupThread c h t).rd = memRead s.m.eng.scratch (addr % 2 ^ 62) data.length := by
  obtain ⟨t, hnext, hbytes, hrd, -⟩ := atomic_writes (w := w) hruns hpower hfault hspace rfl hv
    (amoAccess_of_scratch (rl := rl) (rz := rz) hspace ▸ exec_puppetAmo s)
  exact ⟨t, hnext, hbytes, hrd⟩

theorem pcas_writes (hcan : ThreadRuns c h s ∧ s.m.power.loss = false ∧ accessFault c addr size s = none)
    (hspace : addr / 2 ^ 62 = 0)
    (hv : pupAtomic { kind := .atomic, addr := addr, size := size, data := leBytes size pcmp.toNat ++ fitTo size data, op := 9
                      pc := pc } (memRead s.m.eng.scratch (addr % 2 ^ 62) size) = some l) :
    Answers (.pcas c h pc addr size data pcmp w) s fun t => ScratchBecomes (addr % 2 ^ 62) l.length l s t
      ∧ (pupThread c h t).rd = memRead s.m.eng.scratch (addr % 2 ^ 62) size ∧ (pupThread c h t).pcmp = pcmp := by
  obtain ⟨hruns, hpower, hfault⟩ := hcan
  have hruns' : ThreadRuns c h (onThread c h (fun x => { x with pcmp := pcmp }) s) :=
    ⟨hruns.1, (threadReady_onThread c h s (f := fun x => { x with pcmp := pcmp }) (fun _ => rfl) (fun _ => rfl)
      fun _ => rfl).trans hruns.2⟩
  have hexec : exec (.pcas c h pc addr size data pcmp w) s = .next (settle .module (pupAccess c h (some w)
      { kind := .atomic, addr := addr, size := size, data := leBytes size pcmp.toNat ++ fitTo size data, op := 9, pc := pc }
      (onThread c h (fun x => { x with pcmp := pcmp }) s))) := by
    change execPcas c h pc addr size data pcmp w s = _
    unfold execPcas
    rw [if_pos hruns.2]
  obtain ⟨t, hnext, hbytes, hrd, hpcmp⟩ := atomic_writes hruns' hpower hfault hspace rfl hv hexec
  exact ⟨t, hnext, hbytes, hrd, by simpa only [pupThread_onThread] using hpcmp⟩

theorem sc_gives_one (hruns : ThreadRuns c h s) : Answers (.puppetSc c h) s fun t =>
    (pupThread c h t).rd = leBytes 8 1 ∧ OnlyChanges [.eng .threads] s t :=
  ⟨onThread c h (fun x => { x with rd := leBytes 8 1 }) s, congrArg Host.Outcome.next (if_pos hruns.2),
    by rw [pupThread_onThread], onlyChanges (onThread_ev ..) _ (by unfold Sub; decide +kernel)⟩

/-! ### Fences (R204) -/

theorem fence_switches_out (hruns : ThreadRuns c h s) : Answers (.puppetFence c h) s fun t => (pupThread c h t).fence = true
    ∧ t.module.xpt.fences = s.module.xpt.fences ++ [{ id := s.module.xpt.nextOp, ctx := pupCtx c h, use := .puppet c h }] := by
  refine ⟨_, congrArg Host.Outcome.next (if_pos hruns.2), ?_, ?_⟩
  · rw [pupThread_onThread]
  · rw [drainThread_of_none_finished c h hruns.1.2]
    rfl

theorem fenceComplete_unchanged {sd : Side} {ctx : Nat} (hnone : takeFence sd ctx s = none) :
    Answers (.fenceComplete sd ctx) s fun t => t = s := by
  refine ⟨s, ?_, rfl⟩
  change execFenceComplete sd ctx s = _
  simp only [execFenceComplete, hnone]

/-- A fence of a unit without operations is over: it leaves. -/
theorem takeFence_of_alone {sd : Side} {ctx : Nat} {f : Fence} (hops : (s.xpt sd).ops = []) (haccs : sd = .endpoint → s.e.accs = [])
    (hf : (s.xpt sd).fences.find? (fun f => decide (f.ctx = ctx)) = some f) : takeFence sd ctx s
      = some (f, s.onXpt sd fun x => { x with fences := x.fences.filter fun g => decide (g.id ≠ f.id) }) := by
  have hwaits : fenceWaits sd f s = false := by
    cases sd
    · simp [fenceWaits, hops]
    · simp [fenceWaits, hops, haccs rfl]
  simp [takeFence, hf, hwaits, hops]

theorem fenceComplete_answers_core {ctx atag : Nat} {f : Fence} (hquiet : s.endpoint.xpt.finished = [] ∧ s.module.xpt.finished = [])
    (hops : s.endpoint.xpt.ops = []) (haccs : s.e.accs = [])
    (hf : s.endpoint.xpt.fences.find? (fun f => decide (f.ctx = ctx)) = some f) (huse : f.use = .xq ctx atag 0 0) :
    Answers (.fenceComplete .endpoint ctx) s fun t =>
      t.endpoint.xpt.fences = (s.endpoint.xpt.fences.filter fun g => decide (g.id ≠ f.id))
        ∧ t.endpoint.out.getLast? = some (.xr (ctx / 32) atag (reportStatus f.statuses).1
            (if (reportStatus f.statuses).1 = stOk then outApplied else outNotApplied) false false 0 []) := by
  refine ⟨xrStatus ctx atag (reportStatus f.statuses).1
    (s.onXpt .endpoint fun x => { x with fences := x.fences.filter fun g => decide (g.id ≠ f.id) }), ?_, rfl, ?_⟩
  · change execFenceComplete .endpoint ctx s = _
    simp only [execFenceComplete, takeFence_of_alone (sd := .endpoint) hops (fun _ => haccs) hf, huse]
    exact congrArg _ (settle_of_none_finished .endpoint _ hquiet.1)
  · exact List.getLast?_concat ..

theorem fenceComplete_readies_thread {f : Fence} (hquiet : s.endpoint.xpt.finished = [] ∧ s.module.xpt.finished = [])
    (hops : s.module.xpt.ops = []) (hf : s.module.xpt.fences.find? (fun f => decide (f.ctx = pupCtx c h)) = some f)
    (huse : f.use = .puppet c h) : Answers (.fenceComplete .module (pupCtx c h)) s fun t => (pupThread c h t).fence = false
      ∧ smapGet? t.m.eng.dcache c = none ∧ (pupThread c h t).pstat = BitVec.ofNat 64 (reportStatus f.statuses).1.toNat := by
  refine ⟨onThread c h (fun x => { x with fence := false, pstat := BitVec.ofNat 64 (reportStatus f.statuses).1.toNat })
    (dropDcache c (s.onXpt .module fun x => { x with fences := x.fences.filter fun g => decide (g.id ≠ f.id) })), ?_, ?_, ?_, ?_⟩
  · change execFenceComplete .module (pupCtx c h) s = _
    simp only [execFenceComplete, takeFence_of_alone (sd := .module) hops nofun hf, huse]
    rw [drainThread_of_none_finished c h (by exact hquiet.2)]
    exact congrArg _ (settle_of_none_finished .module _ hquiet.2)
  · rw [pupThread_onThread]
  · exact smapGet?_erase_same ..
  · rw [pupThread_onThread]

end Sys2Proof.Machine

/-! ## Puppet programs end and start (R421 to R423) -/

namespace Sys2Proof.Machine

variable {c h p pc : Nat} {st : Status} {i : Instr} {w : Word} {s t u : State}

/-- What the module records of a program that stops, before its cores are free. -/
def stopping (p : Nat) (st : Status) (pc : Nat) (s : State) : State :=
  ((s.wr .module Fld.pupProgState p 3).wr .module Fld.pupProgStatus p st.toNat).wr .module Fld.pupProgFaultPc p pc

theorem progState_stopping : progState p (stopping p st pc s) = 3 := by
  rw [progState, stopping, rd_wr_entry _ _ _ Fld.pupProgFaultPc Fld.pupProgState p p pc rfl (by decide) (by decide) (.inr (by decide)),
    rd_wr_field _ _ Fld.pupProgStatus Fld.pupProgState p _ rfl rfl (.inr (by decide)),
    rd_wr_lit _ _ Fld.pupProgState p 3 (by decide) (by decide) (by decide)]

theorem progStatus_stopping : (stopping p st pc s).rd .module Fld.pupProgStatus p = st.toNat := by
  rw [stopping, rd_wr_entry _ _ _ Fld.pupProgFaultPc Fld.pupProgStatus p p pc rfl (by decide) (by decide) (.inr (by decide)),
    rd_wr_lit _ _ Fld.pupProgStatus p st.toNat (by decide) (by decide) st.isLt]

/-- A stopping program without operations in the fabric has ended. -/
theorem settleProg_ends (hstate : progState p s = 3) (hops : s.module.xpt.ops = []) :
    progState p (settleProg p s) = 4
      ∧ (settleProg p s).rd .module Fld.pupProgStatus p = s.rd .module Fld.pupProgStatus p := by
  have hnone : progOps p s = [] := by
    change s.module.xpt.ops.filter _ = []
    rw [hops]
    rfl
  have hraise := raiseSource_ev 82 ((s.wr .module Fld.pupProgState p 4).wr .module Fld.pupStatusFreeCores 0
    (s.rd .module Fld.pupStatusFreeCores + s.rd .module Fld.pupProgCoreCount p))
  rw [settleProg, if_pos ⟨hstate, by simp [hnone]⟩]
  refine ⟨?_, ?_⟩
  · rw [progState, hraise.rd .module Fld.pupProgState (by decide +kernel), rd_wr_reg _ _ _ _ _ _ _ _ (by decide),
      rd_wr_lit _ _ Fld.pupProgState p 4 (by decide) (by decide) (by decide)]
  · rw [hraise.rd .module Fld.pupProgStatus (by decide +kernel), rd_wr_reg _ _ _ _ _ _ _ _ (by decide),
      rd_wr_field _ _ Fld.pupProgState Fld.pupProgStatus p _ rfl rfl (.inl (by decide))]

/-- A running program of a module without operations in the fabric ends at once: its record says so, and neither the memories nor the
transport's completions change. -/
structure ProgramEnds (p : Nat) (st : Status) (s t : State) : Prop where
  state : progState p t = 4
  status : t.rd .module Fld.pupProgStatus p = st.toNat
  scratch : t.m.eng.scratch = s.m.eng.scratch
  pool : t.m.pool = s.m.pool
  finished : t.module.xpt.finished = s.module.xpt.finished

theorem endProgram_ends (hstate : progState p s = 2) (hops : s.module.xpt.ops = []) : ProgramEnds p st s (endProgram p st pc s) := by
  have hev := endProgram_ev p st pc s
  obtain ⟨v, hv, hvops, hvfin⟩ : ∃ v, endProgram p st pc s = settleProg p (stopping p st pc v) ∧ v.module.xpt.ops = []
      ∧ v.module.xpt.finished = s.module.xpt.finished := by
    refine ⟨_, if_pos hstate, ?_, rfl⟩
    change s.module.xpt.ops.filter _ = []
    rw [hops]
    rfl
  obtain ⟨hends, hstatus⟩ := settleProg_ends (s := stopping p st pc v) progState_stopping hvops
  exact {
    state := by rw [hv, hends]
    status := by rw [hv, hstatus, progStatus_stopping]
    scratch := hev.part (.eng .scratch) (by decide +kernel)
    pool := pool_eq_of_same fun x => hev.part (.pool x) (by cases x <;> decide +kernel)
    finished := by
      rw [hv]
      exact (congrArg (·.finished) ((settleProg_ev p (stopping p st pc v)).xpt .module (by decide +kernel))).trans hvfin }

theorem load_faults {addr size : Nat} (hmem : i ∈ puppetLoads c h pc addr size w) (hruns : ThreadRuns c h s)
    (hpower : s.m.power.loss = false) (hfault : accessFault c addr size s = some st) (hprog : progOf c s = some p)
    (hstate : progState p s = 2) (hops : s.module.xpt.ops = []) : Answers i s fun t => progState p t = 4
      ∧ t.rd .module Fld.pupProgStatus p = st.toNat ∧ t.m.eng.scratch = s.m.eng.scratch ∧ t.m.pool = s.m.pool := by
  obtain ⟨kind, -, hexec⟩ := exec_puppetLoads hmem
  have hprog' : progOf c (withPfeid c h w s) = some p := hprog
  have hends : ProgramEnds p st (withPfeid c h w s) (endProgram p st pc (withPfeid c h w s)) := endProgram_ends hstate hops
  refine puppet_answers (hexec s) (t := endProgram p st pc (withPfeid c h w s)) ?_ (hends.finished.trans hruns.1.2)
    ⟨hends.state, hends.status, hends.scratch, hends.pool⟩
  rw [pupAccess_of_fault hruns hpower hfault]
  simp only [pupFault, hprog']

theorem exit_ends (hready : threadReady c h s = true) (hprog : progOf c s = some p) (hstate : progState p s = 2)
    (hops : s.module.xpt.ops = []) : Answers (.puppetExit c h) s fun t => progState p t = 4
      ∧ t.rd .module Fld.pupProgStatus p = stOk.toNat := by
  have hends := endProgram_ends (st := stOk) (pc := 0) hstate hops
  refine ⟨endProgram p stOk 0 s, ?_, hends.state, hends.status⟩
  change execPuppetExit c h s = _
  simp only [execPuppetExit, if_pos hready, hprog]

theorem kill_ends {path : Path} (hstate : progState p s = 2) (hops : s.module.xpt.ops = []) : Answers (.pupKill path p) s fun t =>
    progState p t = 4 ∧ t.rd .module Fld.pupProgStatus p = stAborted.toNat :=
  ⟨endProgram p stAborted 0 s, rfl, (endProgram_ends hstate hops).state, (endProgram_ends hstate hops).status⟩

theorem kill_unchanged {path : Path} (hstate : progState p s ≠ 2) : Answers (.pupKill path p) s fun t => t = s :=
  ⟨_, rfl, if_neg hstate⟩

/-! ### PUP.LOAD (R423) -/

theorem pupLoad_of_size {path : Path} {g : Grant} (hsize : bitsOf w 59 48 = 0 ∨ 64 < bitsOf w 59 48) :
    Answers (.pupLoad path w g) s fun t =>
      t = regAccess .module (regOffset .module .pupLoad 0 0) w.toNat s ∧ t.m.eng = s.m.eng :=
  ⟨_, congrArg Host.Outcome.next (if_pos hsize), rfl, (regAccess_ev .module _ _ s).eng (by decide +kernel)⟩

/-- A status of R14's order that is among several is not reported as OK. -/
theorem reportStatus_ne_ok {l : List Status} (hmem : st ∈ l) (horder : st ∈ statusOrder) : (reportStatus l).1 ≠ stOk := by
  have hok : stOk ∉ statusOrder := by decide
  have hst : st ∈ statusOrder.filter fun x => l.contains x := List.mem_filter.mpr ⟨horder, by simpa using hmem⟩
  have hsub : ∀ x ∈ statusOrder.filter fun x => l.contains x, x ∈ statusOrder := fun x hx => (List.mem_filter.mp hx).1
  unfold reportStatus
  split
  · next hnil => exact absurd (hnil ▸ hst) List.not_mem_nil
  · next x rest hcons => exact fun hx => hok ((show x = stOk from hx) ▸ hsub x (hcons ▸ List.mem_cons_self ..))

variable {n img : Nat} {g : Grant}

/-- A load that ends with OK has an image and free cores. -/
theorem load_ok_has {s : State} (hok : (reportStatus (loadChecks p n (stagedImage img s) g s)).1 = stOk) :
    ∃ b sig first, stagedImage img s = some (b, sig) ∧ freeCores n s = some first := by
  cases himage : stagedImage img s with
  | none => exact absurd hok (reportStatus_ne_ok (st := stCheckFail) (by simp [loadChecks, himage]) (by decide))
  | some x =>
    cases hcores : freeCores n s with
    | none => exact absurd hok (reportStatus_ne_ok (st := stResource) (by simp [loadChecks, hcores]) (by decide))
    | some first => exact ⟨x.1, x.2, first, rfl, rfl⟩

/-- The record of a load that has been refused. -/
theorem loadProgram_of_refused (hbad : (reportStatus (loadChecks p n (stagedImage img s) g s)).1 ≠ stOk) :
    loadProgram p n img g s = (noteAlso .module (reportStatus (loadChecks p n (stagedImage img s) g s)).1
      (reportStatus (loadChecks p n (stagedImage img s) g s)).2 p s).wr .module Fld.pupProgStatus p
        (reportStatus (loadChecks p n (stagedImage img s) g s)).1.toNat := by
  unfold loadProgram
  dsimp only
  split
  · exact if_neg hbad
  · rfl

/-- The record of a program that has started on `n` cores from one on: PUP.PROG of its slot. -/
def starting (p n first free : Nat) (s : State) : State :=
  (((((s.wr .module Fld.pupProgState p 2).wr .module Fld.pupProgStatus p 0).wr .module Fld.pupProgCoreFirst p first).wr .module
    Fld.pupProgCoreCount p n).wr .module Fld.pupProgFaultPc p 0).wr .module Fld.pupStatusFreeCores 0 free

theorem word_foldl_grantWords {v : Nat} (hv : v < 2) : ∀ (l : List Nat) (s : State), (∀ w ∈ l, w < 6) →
    (l.foldl (fun s w => s.setWord .module .pupProg p (2 + w) (Config.grantWord g (2 + w))) s).word .module .pupProg p v
      = s.word .module .pupProg p v := by
  intro l
  induction l with
  | nil => exact fun _ _ => rfl
  | cons w l ih =>
    intro s hl
    have hw : w < 6 := hl w (List.mem_cons_self ..)
    rw [List.foldl_cons, ih _ fun x hx => hl x (List.mem_cons_of_mem _ hx),
      word_setWord_entry _ _ _ _ _ _ _ _ _ (by omega) (by omega) (.inr (by omega))]

/-- The grant of a program, in words 2 to 7 of its record. -/
def withGrant (p : Nat) (g : Grant) (s : State) : State :=
  (List.range 6).foldl (fun s w => s.setWord .module .pupProg p (2 + w) (Config.grantWord g (2 + w))) s

theorem rd_withGrant {f : Field} (hreg : f.reg = .pupProg) (hword : f.word < 2) :
    (withGrant p g s).rd .module f p = s.rd .module f p := by
  unfold State.rd
  rw [hreg]
  exact congrArg (bitsOf · f.hi f.lo) (word_foldl_grantWords hword _ s fun w hw => List.mem_range.mp hw)

/-- Word 0 of a started program's record. -/
theorem rd_starting {first free : Nat} (hn : n ≤ 64) : progState p (starting p n first free s) = 2
    ∧ (starting p n first free s).rd .module Fld.pupProgStatus p = 0
    ∧ (starting p n first free s).rd .module Fld.pupProgCoreCount p = n := by
  have hlast {f : Field} (hreg : f.reg = .pupProg) (hword : f.word = 0) : (starting p n first free s).rd .module f p
      = ((((s.wr .module Fld.pupProgState p 2).wr .module Fld.pupProgStatus p 0).wr .module Fld.pupProgCoreFirst p first).wr .module
          Fld.pupProgCoreCount p n).rd .module f p := by
    rw [starting, rd_wr_reg _ _ _ _ _ _ _ _ (by rw [hreg]; decide),
      rd_wr_entry _ _ _ Fld.pupProgFaultPc f p p 0 hreg (by decide) (by omega) (.inr (by rw [hword]; decide))]
  refine ⟨?_, ?_, ?_⟩
  · rw [progState, hlast rfl rfl, rd_wr_field _ _ Fld.pupProgCoreCount Fld.pupProgState p _ rfl rfl (.inr (by decide)),
      rd_wr_field _ _ Fld.pupProgCoreFirst Fld.pupProgState p _ rfl rfl (.inr (by decide)),
      rd_wr_field _ _ Fld.pupProgStatus Fld.pupProgState p _ rfl rfl (.inr (by decide)),
      rd_wr_lit _ _ Fld.pupProgState p 2 (by decide) (by decide) (by decide)]
  · rw [hlast rfl rfl, rd_wr_field _ _ Fld.pupProgCoreCount Fld.pupProgStatus p _ rfl rfl (.inr (by decide)),
      rd_wr_field _ _ Fld.pupProgCoreFirst Fld.pupProgStatus p _ rfl rfl (.inr (by decide)),
      rd_wr_lit _ _ Fld.pupProgStatus p 0 (by decide) (by decide) (by decide)]
  · rw [hlast rfl rfl, rd_wr_lit _ _ Fld.pupProgCoreCount p n (by decide) (by decide)
      (hn.trans_lt (by decide))]

/-- What a load leaves that has been verified: the program runs under its grant on `n` cores. -/
theorem loadProgram_of_ok (hn : n ≤ 64) (hok : (reportStatus (loadChecks p n (stagedImage img s) g s)).1 = stOk) :
    progState p (loadProgram p n img g s) = 2 ∧ (loadProgram p n img g s).rd .module Fld.pupProgStatus p = 0
      ∧ (loadProgram p n img g s).rd .module Fld.pupProgCoreCount p = n ∧ grantOf p (loadProgram p n img g s) = some g := by
  obtain ⟨b, sig, first, himage, hcores⟩ := load_ok_has hok
  obtain ⟨v, f, free, hload, hgrant⟩ : ∃ v f free, loadProgram p n img g s
      = onEng f (withGrant p g (starting p n first free v)) ∧ ∀ e, (f e).grants = smapSet e.grants p g := by
    simp only [loadProgram, himage, hcores] at hok ⊢
    rw [if_pos hok]
    exact ⟨_, _, _, rfl, fun _ => rfl⟩
  obtain ⟨hstate, hstatus, hcount⟩ := rd_starting (p := p) (first := first) (free := free) (s := v) hn
  rw [hload]
  refine ⟨?_, ?_, ?_, ?_⟩
  · rw [progState, onEng, rd_onM, rd_withGrant rfl (by decide)]
    exact hstate
  · rw [onEng, rd_onM, rd_withGrant rfl (by decide), hstatus]
  · rw [onEng, rd_onM, rd_withGrant rfl (by decide), hcount]
  · change smapGet? (f _).grants p = some g
    rw [hgrant, smapGet?_set_same]

/-- A load reports the status of its checks; refused, it leaves the engines alone. -/
theorem pupLoad_loads {path : Path} (hlow : 1 ≤ bitsOf w 59 48) (hhigh : bitsOf w 59 48 ≤ 64) (hst : st =
    (reportStatus (loadChecks (bitsOf w 63 60) (bitsOf w 59 48) (stagedImage (bitsOf w 41 0) s) g s)).1) :
    Answers (.pupLoad path w g) s fun t => t.rd .module Fld.pupProgStatus (bitsOf w 63 60) = st.toNat
      ∧ (st ≠ stOk → t.m.eng = s.m.eng)
      ∧ (st = stOk → progState (bitsOf w 63 60) t = 2 ∧ grantOf (bitsOf w 63 60) t = some g
        ∧ t.rd .module Fld.pupProgCoreCount (bitsOf w 63 60) = bitsOf w 59 48) := by
  refine ⟨loadProgram (bitsOf w 63 60) (bitsOf w 59 48) (bitsOf w 41 0) g s,
    congrArg Host.Outcome.next (if_neg (by omega)), ?_⟩
  by_cases hok : st = stOk
  · obtain ⟨hstate, hstatus, hcount, hgrant⟩ := loadProgram_of_ok hhigh (hst ▸ hok)
    exact ⟨hok ▸ hstatus, fun hne => absurd hok hne, fun _ => ⟨hstate, hgrant, hcount⟩⟩
  · rw [loadProgram_of_refused (hst ▸ hok), ← hst]
    refine ⟨rd_wr_lit _ _ Fld.pupProgStatus _ st.toNat (by decide) (by decide) st.isLt, fun _ => ?_, fun h => absurd h hok⟩
    exact (noteAlso_ev .module _ _ _ s).eng (by decide +kernel)

end Sys2Proof.Machine

/-! ## Messages to puppet programs (R424) -/

namespace Sys2Proof.Machine

variable {port at_ : Nat} {p q : Packet} {s u : State}

theorem puppetMsg_unchanged {room : Option Nat} (hop : p.opcode ≠ 0xA1) : Answers (.puppetMsg port p room) s fun t => t = s :=
  ⟨_, congrArg Host.Outcome.next (if_pos hop), rfl⟩

/-- A message of a length as it stands in the ring: its length word, then its bytes. -/
def messageBytes (l : List Byte) : List Byte := leBytes 8 l.length ++ l

theorem memRead_append (m : Memory) (a n k : Nat) : memRead m a (n + k) = memRead m a n ++ memRead m (a + n) k := by
  simp [memRead, List.range_add, Nat.add_assoc, Function.comp_def]

theorem memRead_memWrite_outside (m : Memory) {a b n : Nat} {l : List Byte} (h : b + n ≤ a ∨ a + l.length ≤ b) :
    memRead (memWrite m a l) b n = memRead m b n :=
  List.map_congr_left fun x hx => memByte_memWrite_outside l m a (b + x) (by have := List.mem_range.mp hx; omega)

/-- The bytes of a message written and then its length word: it stands whole in the scratchpad. -/
theorem scratchBecomes_message {t : State} {a : Nat} {l : List Byte}
    (ht : t.m.eng.scratch = memWrite (memWrite s.m.eng.scratch (a + 8) l) a (leBytes 8 l.length)) :
    ScratchBecomes a (messageBytes l).length (messageBytes l) s t := by
  have hlen : (leBytes 8 l.length).length = 8 := length_leBytes ..
  have hsize : (messageBytes l).length = 8 + l.length := by rw [messageBytes, List.length_append, hlen]
  have hword : memRead (memWrite (memWrite s.m.eng.scratch (a + 8) l) a (leBytes 8 l.length)) a 8 = leBytes 8 l.length := by
    have := memRead_memWrite_same (leBytes 8 l.length) (memWrite s.m.eng.scratch (a + 8) l) a
    rwa [hlen] at this
  unfold ScratchBecomes
  rw [ht, hsize]
  refine ⟨?_, fun x hx => ?_⟩
  · rw [memRead_append, hword, memRead_memWrite_outside _ (.inr (by rw [hlen])), memRead_memWrite_same, messageBytes]
  · rw [memByte_memWrite_outside _ _ _ _ (by omega), memByte_memWrite_outside _ _ _ _ (by omega)]

theorem puppetMsg_writes (hquiet : s.endpoint.xpt.finished = [] ∧ s.module.xpt.finished = []) (hop : p.opcode = 0xA1)
    (hwork : (findWork .module p s).isSome = true) (hcheck : msgChecks p (some at_) s = (.inl q, s)) :
    Answers (.puppetMsg port p (some at_)) s fun t =>
      ScratchBecomes at_ (messageBytes q.payload).length (messageBytes q.payload) s t ∧ t.m.pool = s.m.pool := by
  have hkept := serveKept_deliver .module p (onEng (fun e => { e with
    scratch := memWrite (memWrite e.scratch (at_ + 8) q.payload) at_ (leBytes 8 q.payload.length) }) s)
  refine puppet_answers (t := deliver .module p (onEng (fun e => { e with
    scratch := memWrite (memWrite e.scratch (at_ + 8) q.payload) at_ (leBytes 8 q.payload.length) }) s))
    (congrArg Host.Outcome.next (if_neg (not_not_intro hop))) ?_ ((hkept.finished .module).trans hquiet.2) ⟨?_, hkept.pool⟩
  · rw [withRequest_of_waiting hwork, hcheck]
    rfl
  · exact scratchBecomes_message ((deliver_ev .module p _).part (.eng .scratch) (by decide +kernel))

/-- A message for which the ring has no room is refused, to be sent again. -/
theorem puppetMsg_refuses (hquiet : s.endpoint.xpt.finished = [] ∧ s.module.xpt.finished = []) (hop : p.opcode = 0xA1)
    (hwork : (findWork .module p s).isSome = true) (hcheck : msgChecks p none s = (.inr stRetryLater, u)) :
    Answers (.puppetMsg port p none) s fun t => t.m.eng.scratch = s.m.eng.scratch
      ∧ t = sendNack .module stRetryLater p (u.onXpt .module fun x => { x with work := x.work.filter fun w => !sameSeq w.pkt p }) := by
  have hu : u = (msgChecks p none s).2 := by rw [hcheck]
  have hev := msgChecks_ev p none s
  refine puppet_answers (t := sendNack .module stRetryLater p
    (u.onXpt .module fun x => { x with work := x.work.filter fun w => !sameSeq w.pkt p }))
    (congrArg Host.Outcome.next (if_neg (not_not_intro hop))) ?_ ?_ ⟨?_, rfl⟩
  · rw [withRequest_of_waiting hwork, hcheck]
    exact if_pos (.inl rfl)
  · refine (finished_sendNack _ .module p stRetryLater).trans ?_
    rw [xpt_onXpt, hu, hev.xpt .module (by decide +kernel)]
    exact hquiet.2
  · rw [(sendNack_ev .module stRetryLater p _).part (.eng .scratch) (by decide +kernel), hu]
    exact hev.part (.eng .scratch) (by decide +kernel)

end Sys2Proof.Machine

section

open Sys2Proof Sys2Proof.Machine

/-- Settles O36, one lemma for each clause. -/
theorem puppetThreadsAccess : Obligations.PuppetThreadsAccess := fun _ _ _ _ _ _ _ _ _ _ _ _ =>
  ⟨fun _ => puppet_unchanged_of_unready, fun _ _ => load_of_hit, fun _ => load_of_miss, fun _ => accessDone_fills,
    fun _ => store_writes,
    fun _ => amo_writes, fun _ => pcas_writes, fun _ => load_of_group, sc_gives_one, fun _ _ _ => load_faults,
    fence_switches_out, fun _ _ => fenceComplete_unchanged, fun _ _ _ => fenceComplete_answers_core,
    fun _ => fenceComplete_readies_thread, fun _ => exit_ends, fun _ _ => kill_ends, fun _ _ => kill_unchanged,
    fun _ _ => pupLoad_of_size, fun _ _ hlow hhigh => pupLoad_loads hlow hhigh rfl, fun _ _ => puppetMsg_unchanged,
    fun _ _ _ => puppetMsg_writes, fun _ _ _ => puppetMsg_refuses⟩

end
